-- ==== Sys2Proof/Word.lean ====
section
/-! DEFINITION. The plain word types of the FDM8P model and their plainest arithmetic.
Quantities the manual adds, wraps or shows as registers of a stated width are `BitVec`; counts, times,
prices, energies and signed money are exact `Nat` and `Int`, narrowed where a rule gives a width. -/

namespace Sys2Proof

/-- One byte on a wire or in a memory. -/
abbrev Byte := BitVec 8

/-- One fabric word (01 R18: a transaction carries 32-bit words). -/
abbrev Word := BitVec 32

/-- A byte string, first byte first. -/
abbrev Bytes := List Byte

/-- A count that saturates at the top of an unsigned register of `w` bits ("counts saturate", 02 R61). -/
def satAdd (w a b : Nat) : Nat := min (a + b) (2 ^ w - 1)

/-- Rounding to nearest, half away from zero, of an exact quotient (08 R195, 09 R220). -/
def divRound (a : Int) (d : Nat) : Int :=
  if a < 0 then -(((2 * a.natAbs + d) / (2 * d) : Nat) : Int) else (((2 * a.natAbs + d) / (2 * d) : Nat) : Int)

/-- Quotient rounded up (09 R238: bounds are rounded up). -/
def ceilDiv (a d : Nat) : Nat := (a + d - 1) / d

/-- Little-endian bytes of a number, `n` bytes long (00 R9). -/
def leBytes : Nat → Nat → Bytes
  | 0, _ => []
  | n + 1, x => BitVec.ofNat 8 x :: leBytes n (x / 256)

/-- The number a little-endian byte string holds (00 R9). -/
def leVal : Bytes → Nat
  | [] => 0
  | b :: r => b.toNat + 256 * leVal r

/-- The number a big-endian byte string holds. -/
def beVal (bs : Bytes) : Nat := leVal bs.reverse

/-- Two's complement reading of the low `w` bits of a number (05 R110). -/
def toSigned (w x : Nat) : Int :=
  let y := x % 2 ^ w
  if y < 2 ^ (w - 1) then (y : Int) else (y : Int) - 2 ^ w

/-- Two's complement image of an integer in `w` bits (05 R110). -/
def ofSigned (w : Nat) (x : Int) : Nat := (x % (2 ^ w : Int)).toNat

/-- Change one element of a fixed-size table. -/
def vmod {α : Type} {n : Nat} (v : Vector α n) (i : Fin n) (f : α → α) : Vector α n := v.set i (f v[i])

/-- Set the bit `i` of a mask to `b`. -/
def setBit (m i : Nat) (b : Bool) : Nat :=
  if b then m ||| (1 <<< i) else m &&& (m ^^^ (m &&& (1 <<< i)))

/-- Sum of a list of integers. -/
def isum (l : List Int) : Int := l.foldl (· + ·) 0

end Sys2Proof
end

