-- ==== Sys2Proof/Syntax.lean ====
section
/-! DEFINITION. The commands of the FDM8P: one constructor of `Instr` per row of spec/opcode_table.json, in the table's order, and
the operand types they carry. A command is an event at a ball, a message of a host or of a unit, or a tick of an island; its
operands are what the outside decides (measured values, message fields, whether a MIC or a signature verifies). -/

namespace Sys2Proof

/-- A charging port, 0 to 7. -/
abbrev PortId := Fin 8

/-- A host slot, 0 to 15 (06 R136). -/
abbrev SlotId := Fin 16

/-- An entity: ports 0 to 7, 8 the site (09 R230). -/
abbrev EntityId := Fin 9

/-- The three host interfaces (06). -/
inductive Iface where | can5 | eth0 | eth1
deriving DecidableEq, Repr

/-- The facts of a received host message that every host command carries (06 R136 to R142): slot, interface, request number,
sequence number, whether its MIC verifies under the slot's session key, and the source address and port of its datagram. On CAN5 it is
a CAN FD frame with the 11-bit identifier that carries its kind of message from its slot (06 R140). -/
structure HostMsg where
  slot  : SlotId
  iface : Iface
  reqId : Byte
  seq   : Word
  micOk : Bool
  source : Nat × Nat := (0, 0)
deriving DecidableEq, Repr

/-- A dictionary object: 16-bit index and 8-bit subindex (05 R108). -/
structure ObjRef where
  idx : BitVec 16
  sub : BitVec 8
deriving DecidableEq, Repr

/-- The twelve cores (01, table *The twelve cores*). -/
inductive CoreId where
  | sapwoodA | sapwoodB | heartwood | firebreakA | firebreakB | burl | pe0 | pe1 | pe2 | pe3 | canopy | display
deriving DecidableEq, Repr

/-- Clocks that a missing-clock detector or the cross-check watches (02, table *Loss or fault of a clock*). -/
inductive ClockId where | ref16 | ref25 | xt32 | i7 | i8
deriving DecidableEq, Repr

/-- The rails (03 R63). -/
inductive Rail where | vddCore | vddSafe | vddIo | vddIo18 | vddAfe | vddPlc | vddMem | vhvIn | vbat
deriving DecidableEq, Repr

/-- The two sides of a crossing (02 R57). -/
inductive Side where | island | fabric
deriving DecidableEq, Repr

/-- A fabric target (01, tables of memory layouts and R18, R55). `pe n` is the local SRAM of PEn. -/
inductive Region where
  | sapwoodLocal (b : Bool) | heartwoodLocal | firebreakLocal (b : Bool) | burlLocal | peLocal (n : Fin 4)
  | canopyLocal | displayLocal | sampleBuffer | dictStore (legal : Bool) | commBuffer (owner : CoreId)
  | frameBuffer (legalArea : Bool) | contextTable (x : Fin 160) | ferro | mram | crossing (c : Fin 58)
  | timerChannel (n : Fin 64) | heartwoodRom | burlRom | ledgerPort | cvuEngine (e : Fin 16) | mailbox (owner : CoreId)
deriving DecidableEq, Repr

/-- Fields of an account record a record request may write (11 R277), with the hashes already formed. -/
structure AccountFields where
  number       : Nat
  creditLimit  : Int
  cardHash     : Bytes
  contractHash : Bytes
  lastSession  : Nat
  tariffClass  : Nat
  friendlyClass : Nat
  status       : Nat
  stsIndex     : Nat
  keyRevision  : Nat
  maxPower     : Nat
  validUntil   : Nat
deriving DecidableEq, Repr

/-- Kinds of message UNKNOWN_MESSAGE carries (06 R136, R137). -/
inductive UnknownKind where
  | typeOrVersion
  | reservedByte
  | badOwnershipOperation (m : HostMsg)
deriving DecidableEq, Repr

/-- Outcome of the boot facts the outside supplies to BOOT_START: known-answer tests, key store, images (03 R78, R81; 16 R427). -/
structure BootFacts where
  kats        : BitVec 4
  badHalves   : List (Fin 64)
  sealCheckOk : Bool
  sealHashOk  : Bool
  calCheckOk  : Bool
  /-- For image type t of 0 to 6, whether the slots A and B verify. -/
  imageOk     : Vector (Bool × Bool) 7
  rcdReading  : Vector Nat 8
  imdLoopOk   : Vector Bool 8
  phyIds      : List (Nat × Nat)
deriving DecidableEq, Repr

/-- SLAC messages in the order of ISO 15118-3 (07 R167). -/
inductive SlacMsg where
  | paramReq (mac : Bytes)
  | sounding (mac : Bytes)
  | attenChar (mac : Bytes) (meanDb : Nat)
  | matchReq (mac : Bytes)
deriving DecidableEq, Repr

/-- Vehicle requests of ISO 15118 as the port engine sees them (07 R168 to R170). -/
inductive V2gMsg where
  | tlsHello
  | appProtocol (offers2 offers20 : Bool)
  | tlsDone (ok tls13 : Bool)
  | contract (hash : Bytes) (chainOk : Bool)
  | chargeParams (maxCurrent : Nat) (maxExport : Nat) (maxVoltage : Nat) (maxDcCurrent : Nat) (maxPower : Nat) (dynamic : Bool)
  | powerDelivery (start : Bool) (exports : Bool)
  | currentDemand (targetVoltage : Nat) (targetCurrent : Int)
  | certificate (update : Bool)
  | sessionStop
  | protocolError
  | other
deriving DecidableEq, Repr

/-- Vehicle frames of the IEC 61851-24 Annex A and B handshakes (07 R171). -/
inductive AnnexMsg where
  | limits (maxVoltage : Nat) (maxCurrent : Nat)
  | request (targetVoltage : Nat) (targetCurrent : Nat)
  | stop
deriving DecidableEq, Repr

/-- A module STATUS frame (07 R176). -/
structure StatusFrame where
  crcOk    : Bool
  modeNow  : Fin 16
  alive    : Fin 16
  faults   : BitVec 8
  voltage  : BitVec 16
  current  : BitVec 16
  temp     : BitVec 8
deriving DecidableEq, Repr

/-- A module IDENT frame (07 R172). -/
structure IdentFrame where
  crcOk     : Bool
  modType   : BitVec 8
  firmware  : BitVec 8
  voltage   : BitVec 16
  current   : BitVec 16
  protocol  : BitVec 8
deriving DecidableEq, Repr

/-- What Heartwood finds of an external legal command beyond its payload (12 R309, R310). -/
structure LegalEnv where
  seq    : Nat
  hashOk : Bool
  sigOk  : Bool
deriving DecidableEq, Repr

/-- Keys of the keypad (11 R296). -/
inductive Key where
  | digit (d : Fin 10) | star | hash | f (n : Fin 3) | clr
deriving DecidableEq, Repr

/-- What a token decrypts to (11 R299, table *Token classes*). -/
inductive TokenBody where
  | credit (units : Nat)
  | maxPower (watts : Nat)
  | clearCredit
  | tariffRate (value : Nat)
  | keyChange (half : Fin 2) (matching : Bool) (revision stsIndex : Nat)
  | other
deriving DecidableEq, Repr, Inhabited

/-- A token as Burl finds it: whether the decryption and its CRC pass, and class, TID and body (11 R299). -/
structure TokenFacts where
  decryptOk : Bool
  clsNibbles : Byte
  tid       : Nat
  body      : TokenBody
deriving DecidableEq, Repr, Inhabited

/-- The single-channel safety inputs (13, table *Safety inputs*); `b` picks the B channel. -/
inductive SafetyInput where
  | estop (b : Bool) | deen (b : Bool) | aux (n : Fin 2) (b : Bool) | reset
deriving DecidableEq, Repr

/-- OS outputs (13 R332). -/
inductive OsOutput where
  | contEn (p : PortId) (b : Bool) | safeOut (b : Bool)
deriving DecidableEq, Repr

/-- Reasons of a Firebreak fault (13 R329, R367). -/
inductive FbFault where
  | messageMissing (b : Bool) | viewsDiffer | checksDiffer | causesDiffer | tickGap | selfTest
deriving DecidableEq, Repr

/-- What Firebreak reads through the tap at one I7 tick for one port (13 R356, R358): the largest phase rms over 20 ms and the magnitude
of the 10 ms mean of IL1, in mA; and residual current in µA. -/
structure PortView where
  acRms      : Nat
  dcMean     : Nat
  residualDc : Int
  residualAc : Nat
deriving DecidableEq, Repr

/-- What happens at one I7 tick beside the ports: whether each channel's message arrived, and whether views and causes of the two
channels agree (13 R329). -/
structure TickView where
  ports     : Vector PortView 8
  msgFromA  : Bool
  msgFromB  : Bool
  viewsAgree : Bool
  causesAgree : Vector Bool 8
  readback  : List OsOutput
  gap       : Nat
  /-- N to PE rms over 20 ms in mV (13 R343), and whether the grid is within every criterion of R352. -/
  penMv     : Nat
  gridGood  : Bool
deriving DecidableEq, Repr

/-- Criteria of a residual-current trip (13 R339). -/
inductive RcdCriterion where | dcSlow | dcFast | anyRms | acRms
deriving DecidableEq, Repr

/-- Criteria of grid loss (13 R352). -/
inductive GridCriterion where | low | high | frequency
deriving DecidableEq, Repr

/-- Frame facts of a received Canopy frame (14 R378, R401). -/
structure CnpFrame where
  src     : Fin 2048
  dst     : Fin 2048
  ackReq  : Bool
  seq     : Fin 16
  bodyOk  : Bool
  secured : Bool
  counter : Word
  micOk   : Bool
  /-- ToneMapId of the header. -/
  map     : Fin 256
deriving DecidableEq, Repr

/-- A symbol as the receiver hears it: the energies of the mark and the space bin of each pair and of the bins outside the plan in µV², and
whether a preamble or sync is detected with it (14 R373, R385). -/
structure HeardSym where
  mark  : Vector Nat 8
  space : Vector Nat 8
  outer : Nat
  sync  : Bool
deriving DecidableEq, Repr

/-- NIF payload (14, table *NIF payload, before protection*). -/
structure NifPayload where
  network     : Fin 4096
  coordLong   : Bytes
  rank        : Fin 256
  utcValid    : Bool
  drezu       : Bool
  discontinuous : Bool
  gcn         : Nat
  utc         : Nat
  span        : Nat
  nifInterval : Nat
  refreshS    : Nat
  headroom    : Vector Nat 3
  masks       : Vector (BitVec 8) 6
  reservations : List (Nat × Nat × Nat)
deriving DecidableEq, Repr

/-- Window settings of a check-value unit (15, table *Window settings*). -/
structure WindowSet where
  /-- A crossing number, or a memory range by its base. -/
  onCrossing : Option (Fin 58)
  memBase    : Nat
  offset     : Nat
  length     : Nat
  mode       : Fin 4
  profile    : Fin 16
  initFromId : Bool
  context    : Option (Fin 160)
  continues  : Bool
  finalOnFlag : Bool
deriving DecidableEq, Repr

/-- A Burl operation a core requests (16 R422, R438). -/
inductive BurlOp where
  | sign | verify | encrypt | decrypt | derive | wrapOpen
  | loadContext (x : Fin 160) (key : Bytes)
  | zeroContext (x : Fin 160)
deriving DecidableEq, Repr

/-- An import blob after its tag was tried (16 R433, R434). -/
structure ImportBlob where
  version  : Nat
  length   : Nat
  slot     : Nat
  keyType  : Nat
  attrs    : Nat
  materialLength : Nat
  seq      : Nat
  hashOk   : Bool
  tagOk    : Bool
  keyId    : Bytes
  material : Bytes
  verifies : Bool
deriving DecidableEq, Repr, Inhabited

/-- The fields of an image header (17 R455). -/
structure ImageHdr where
  length       : Nat
  magicOk      : Bool
  imageType    : Nat
  signerSlot   : Nat
  securityVersion : Nat
  imageVersion : Nat
  payloadLength : Nat
  loadOffset   : Nat
  entryOffset  : Nat
  steppingOk   : Bool
  flagOk       : Bool
  filterOk     : Bool
  payloadHash  : Bytes
  provided     : List (Nat × Nat × Nat)
  consumed     : List (Nat × Nat × Nat)
  reservedOk   : Bool
  /-- The 512 header bytes, which the measurement covers. -/
  bytes        : Bytes
  /-- The signature that follows them. -/
  signature    : Bytes
deriving DecidableEq, Repr, Inhabited

/-- What a READ asks for and meets: the staged value (06 R147), and a source word that fails SECDED (01 R12). -/
structure ReadFacts where
  staged   : Bool
  eccError : Bool
deriving DecidableEq, Repr

/-- How a HELLO comes in: its interface, its RequestId, and on Ethernet the host's address and port (06 R136, R142, R145). -/
structure HelloFrom where
  iface  : Iface
  reqId  : Byte
  source : Nat × Nat
deriving DecidableEq, Repr

/-- A sample set: the codes of the decimators, and the density of ones of each bitstream input over the decimation window, in 2^-23 (08 R191). -/
structure RawSet where
  codes : Vector (BitVec 24) 68
  ones  : Vector Nat 16
deriving DecidableEq, Repr

/-- A frame that starts: full or of changed rows, whether the next image's CRC holds (18 R486, R487), and the rows the die-to-die link repeats
(01 R12). -/
structure FrameFacts where
  full       : Bool
  imageOk    : Bool
  rowRepeats : Nat
deriving DecidableEq, Repr

/-- The commands, one per row of the table. -/
inductive Instr where
  | fabricRead (tag : BitVec 5) (region : Region) (addr : Nat) (words : Nat) (eccError : Bool)
  | fabricWrite (tag : BitVec 5) (region : Region) (addr : Nat) (words : List Word)
  | fabricPost (tag : BitVec 5) (target : CoreId) (message : Bytes)
  | recordRequest (tag : BitVec 5) (fields : AccountFields) (balance : Option Int)
  | balanceRequest (tag : BitVec 5) (account : Nat) (amount : Int) (reason : Nat) (tid : Option Nat)
  | watchdogExpiry (core : CoreId)
  | sramUncorrectableError (core : CoreId)
  | fabricSpeedMeasure (mips : Nat)
  | utcSecond (i1Ticks : Nat)
  | timerExpiry (channel : Fin 64)
  | dictionaryTick
  | clockLost (clock : ClockId)
  | crossCheck (n1 : Nat) (n6 : Option Nat)
  | clockRecovered (clock : ClockId)
  | crossingSideReset (crossing : Fin 58) (side : Side)
  | crossingResyncDone (crossing : Fin 58)
  | crossingClearCounters (m : HostMsg) (data : Bytes)
  | mainRailsGood
  | railMonitorTrip (rail : Rail)
  | railRecovered (rail : Rail)
  | pfw
  | finalCommitTimeout
  | mainRailsDown
  | vbatLoss
  | resetNLow (microseconds : Nat)
  | resetNHigh
  | pfwRecovery
  | bootStart (facts : BootFacts)
  | bootComplete (selfTestsOk : Bool)
  | vbatTamperAlarm (source : Fin 8) (sub : Fin 32768) (low : Bool)
  | read (m : HostMsg) (obj : ObjRef) (count : Nat) (facts : ReadFacts)
  | write (m : HostMsg) (obj : ObjRef) (total : Nat) (segmented : Bool) (data : Bytes)
  | commit (m : HostMsg) (group : Fin 64) (data : Bytes)
  | discard (m : HostMsg) (group : Fin 64) (data : Bytes)
  | shadowTimeout (group : Fin 64)
  | journalStoreDone (ok : Bool)
  | publish (list : Fin 16)
  | segment (m : HostMsg) (toDevice : Bool) (number : Nat) (last : Bool) (data : Bytes)
  | segmentAck (m : HostMsg) (fromHost : Bool) (number : Nat)
  | segmentTimeout (slot : SlotId) (toDevice : Bool)
  | nop (m : HostMsg)
  | unknownMessage (kind : UnknownKind)
  | hello (slot : SlotId) (origin : HelloFrom) (hostNonce deviceNonce : Bytes)
  | confirm (m : HostMsg) (hostNonce deviceNonce : Bytes)
  | registrationTimeout (slot : SlotId)
  | helloRefusalEnd (slot : SlotId)
  | registrationLapse (slot : SlotId)
  | deregister (m : HostMsg) (target : SlotId) (data : Bytes)
  | ownershipClaim (m : HostMsg) (extra : Bytes)
  | ownershipRelease (m : HostMsg) (extra : Bytes)
  | handoverOffer (m : HostMsg) (extra : Bytes)
  | heartbeat (m : HostMsg) (extra : Bytes)
  | claimWindowEnd
  | heartbeatLoss
  | handoverLapse
  | stopAll (m : HostMsg) (data : Bytes)
  | arpRequest (iface : Iface) (address : Word)
  | icmpEchoRequest (iface : Iface) (data : Bytes)
  | canBusOff (can : Fin 6)
  | busOffRecovery (can : Fin 6)
  | busIntegrationDone (can : Fin 6)
  | pilotStateAccepted (p : PortId) (highMv lowMv : Int) (periods : Nat) (proximity : Nat)
  | hlcSetupTimeout (p : PortId)
  | steadyHighEnd (p : PortId)
  | proximityBandChange (p : PortId) (proximity : Nat)
  | lockConfirmed (p : PortId)
  | lockTimeout (p : PortId)
  | unlock (m : HostMsg) (p : PortId) (data : Bytes)
  | slacMessage (p : PortId) (msg : SlacMsg)
  | slacTimeout (p : PortId)
  | v2gMessage (p : PortId) (msg : V2gMsg)
  | v2gTimeout (p : PortId)
  | annexFrame (p : PortId) (msg : AnnexMsg)
  | annexTimeout (p : PortId)
  | permissionInputChange (p : PortId) (level : Bool)
  | setpoint (module : Fin 16)
  | config (module : Fin 16)
  | status (module : Fin 16) (frame : StatusFrame)
  | ident (module : Fin 16) (frame : IdentFrame)
  | modulePresenceTimeout (module : Fin 16)
  | statusMissing (module : Fin 16)
  | converterStopTimeout
  | portStart (m : HostMsg) (p : PortId) (data : Bytes)
  | portStop (m : HostMsg) (p : PortId) (data : Bytes)
  | exportStop (m : HostMsg) (p : PortId) (data : Bytes)
  | closingTimeout (p : PortId)
  | openingTimeout (p : PortId)
  | contactorFeedbackChange (p : PortId) (a b : Bool)
  | stopWaitTimeout (p : PortId)
  | pilotAIdle (p : PortId)
  | allocatorRun
  | externalLoadTimeout
  | pauseTimeout (p : PortId)
  | migration (p : PortId)
  | sampleSet (raw : RawSet) (linkOk : Bool) (fluxFault : BitVec 8)
  | measurementDieLost
  | bitstreamLoss (input : Fin 16)
  | zeroCrossing (channel : Fin 68) (time : Nat)
  | periodEnd (e : EntityId)
  | referenceTimeout (e : EntityId)
  | dieTemperatureReading (t : Int)
  | channelDiscardEnd (c : Fin 68)
  | dcMismatch (p : PortId) (voltage : Bool)
  | calStart (m : HostMsg) (data : Bytes)
  | calDone
  | calibrationWrite (env : LegalEnv) (obj : ObjRef) (data : Bytes)
  | constantsWrite (env : LegalEnv) (obj : ObjRef) (data : Bytes)
  | ringCommit (readBackOk : Bool) (durationUs : Nat)
  | lateCommit (e : EntityId)
  | hallReading (milliTesla : Nat)
  | boundarySet
  | closeNow (m : HostMsg) (data : Bytes)
  | setTime (m : HostMsg) (data : Bytes)
  | clockStep
  | writeRecord (m : HostMsg) (data : Bytes)
  | selectAccount (m : HostMsg) (data : Bytes)
  | keypadScan (matrix : BitVec 16)
  | keyPress (key : Key)
  | keypadEntryTimeout
  | keypadUnlock
  | cardFrame (frame : Bytes) (gapsOk : Bool) (cardHash : Bytes)
  | externalId (m : HostMsg) (p : PortId) (data : Bytes)
  | authAnswer (m : HostMsg) (p : PortId) (data : Bytes)
  | hostAuthTimeout (p : PortId)
  | binding (p : PortId)
  | token (keypad : Bool) (account : Nat) (digits : List (Fin 10)) (facts : TokenFacts)
  | tokenSubmit (m : HostMsg) (data : Bytes) (facts : TokenFacts)
  | keyChangeHalfExpiry
  | hostCredit (m : HostMsg) (data : Bytes) (sigOk hashOk : Bool)
  | sealCommand (env : LegalEnv)
  | recordRepair (env : LegalEnv) (slot : Nat) (record : Bytes)
  | recordSigned (ok : Bool) (result : Nat)
  | signingRetry
  | inspectionShowItems
  | inspectionTestCount (p : PortId)
  | inspectionEnd
  | inspectionTimeout
  | safetyTick (view : TickView)
  | firebreakFault (reason : FbFault)
  | safetyInputChange (input : SafetyInput) (level : Bool)
  | discrepancyFault (input : Fin 4)
  | resetEdge
  | resetStuck
  | outputFault (output : OsOutput)
  | outputTestPulse (output : OsOutput) (readBackLow : Bool)
  | residualCurrentTrip (p : PortId) (criterion : RcdCriterion) (microAmps : Int) (ticks : Nat)
  | rcdSelfTest (p : PortId)
  | rcdSelfTestDone (p : PortId) (microAmps : Nat)
  | isolationTest (p : PortId) (ohms : Nat)
  | insulationEvaluation (p : PortId) (ohms : Nat) (milliVolts : Nat)
  | imdLoopbackTest (p : PortId) (ok : Bool)
  | penFault (milliVolts : Nat) (ticks : Nat)
  | pt1000Reading (k : Fin 16) (ohms : Nat) (deciDegrees : Int)
  | temperatureTrip (k : Fin 16)
  | sensorStale (k : Fin 16)
  | contactorFaultClear (m : HostMsg) (p : PortId) (data : Bytes)
  | gridLoss (criterion : GridCriterion)
  | gridReconnect
  | followFault (p : PortId)
  | firebreakRestartTimeout (b : Bool)
  | confirmCheck (m : HostMsg) (data : Bytes)
  | confirmTimeout
  | checkValueSelfTest (fromA fromB : Word)
  | canopyRangeChange
  | beaconSend (omitted : Bool)
  | beaconReceive (network : Fin 4096) (nifFollows drezu : Bool) (superframe : Fin 256) (deltaUs : Nat)
  | beaconMissed
  | nifSend
  | nif (frame : CnpFrame) (payload : NifPayload)
  | networkCrossing
  | canopyTransmit (heard : List HeardSym)
  | ack (frame : CnpFrame) (received : Bool)
  | ackTimeout
  | joinRequest (frame : CnpFrame) (longAddress nonce : Bytes) (previous : Nat) (capabilities : BitVec 8) (rank : Fin 256)
      (ownNonce : Bytes)
  | joinAccept (frame : CnpFrame) (coordNonce memberLong : Bytes) (address : Fin 2048) (network : Fin 4096) (gcn : Nat)
      (rank : Fin 256)
  | joinRefuse (frame : CnpFrame) (memberLong : Bytes) (reason : Nat)
  | joinTimeout
  | leave (frame : CnpFrame) (reason : Nat)
  | keepalive (frame : CnpFrame)
  | keepaliveSend
  | tonemapRequest (frame : CnpFrame) (requestId : Byte) (signal noise : Vector Nat 8)
  | tonemapResponse (frame : CnpFrame) (requestId : Byte) (mapId : Fin 256) (pairs : BitVec 8) (thresholds : Bytes)
  | tonemapRefresh (neighbour : Fin 128)
  | tonemapRequestRetry (neighbour : Fin 128)
  | linkRequest (frame : CnpFrame) (longAddress nonce ownNonce : Bytes) (capabilities : BitVec 8)
  | linkAccept (frame : CnpFrame) (responderNonce : Bytes) (capabilities : BitVec 8)
  | loadReport (frame : CnpFrame) (phase : Nat) (draw limit : Vector Nat 3)
  | loadReportSend
  | appRead (frame : CnpFrame) (requestId : Byte) (refs : List Word)
  | appResponse (frame : CnpFrame) (requestId : Byte) (values : Bytes)
  | coordinatorStart (randomCycles : Nat)
  | addressRelease (neighbour : Fin 128)
  | rejoin (m : HostMsg) (data : Bytes)
  | refreshToneMaps (m : HostMsg) (data : Bytes)
  | windowArm (tag : BitVec 5) (engine : Fin 16) (window : WindowSet)
  | windowDisarm (tag : BitVec 5) (engine : Fin 16) (index : Nat)
  | cvuEntry (engine : Fin 16) (index : Nat) (identifier : Byte) (entry : Bytes) (lastSegment : Bool)
  | contextRelease (x : Fin 160)
  | contextWrite (tag : BitVec 5) (x : Fin 160) (value : BitVec 64)
  | profileWrite (tag : BitVec 5) (f : Fin 16) (width : Nat) (poly init xorOut : BitVec 64) (reflected : Bool)
  | cvuClearCounters (m : HostMsg) (data : Bytes)
  | burlRequest (tag : BitVec 5) (slot : Fin 64) (op : BurlOp)
  | keyImport (m : HostMsg) (blob : ImportBlob)
  | keyGenerate (m : HostMsg) (data : Bytes) (verifies : Bool)
  | keyErase (m : HostMsg) (data : Bytes)
  | attestationRead (m : HostMsg) (target : SlotId)
  | attestationSigned
  | tamperAlarm (source : Fin 17) (detail : Int)
  | tamperAlarmEnd (source : Fin 17) (detail : Int)
  | clearHold (m : HostMsg) (data : Bytes)
  | commission (m : HostMsg) (data : Bytes)
  | jtagSession
  | imageHeader (m : HostMsg) (area : Fin 8) (header : ImageHdr)
  | headerCheckDone (area : Fin 8) (sigOk : Bool)
  | imageChunk (m : HostMsg) (area : Fin 8) (data : Bytes)
  | payloadHashDone (area : Fin 8) (hashOk : Bool)
  | installationDone (ok : Bool)
  | cancelPlan (m : HostMsg) (data : Bytes)
  | planPreparationStart
  | stepSwitch
  | unitReady
  | readyTimeout
  | preparationTimeout
  | drainTimeout
  | trialEnd
  | firebreakTrialTimeout
  | serviceRestart (m : HostMsg) (data : Bytes)
  | takeOut (m : HostMsg) (unit : Fin 32) (data : Bytes)
  | returnUnit (m : HostMsg) (unit : Fin 32) (data : Bytes)
  | frameStart (facts : FrameFacts)
  | halfStartReport
  | stepEndReport
  | railHoldExpiry
  | panelTemperatureReading (sensor : Option (Fin 16)) (t : Int)
  | balanceRepair
  | fullRefreshTimer
  | refreshNow (m : HostMsg) (data : Bytes)
  | pageDwellExpiry
  | interruptPageExpiry
  | coreRestartDone (core : CoreId) (imageOk : Bool)
  | datagramDropped (iface : Iface)
  | canopyHeaderFail
deriving DecidableEq, Repr

end Sys2Proof
end

