-- ==== Sys2Proof/Decode.lean ====
section
/-! DEFINITION. Decoding. The table of commands gives no row any bits, so no word spells a command: commands reach the block as
events and messages whose fields the rows of the table name. -/

namespace Sys2Proof

/-- The command a word of the table spells: none, since no row has bits. -/
def decodeTableWord (_nbits _w : Nat) : Option Instr := none

end Sys2Proof
end

