-- ==== Sys2Proof/Config.lean ====
section
/-! DEFINITION. What the manual leaves open, as opaque constants: nothing in Lean can evaluate them, so every claim about
the model holds for every value of them. Each is named in the assumption log. -/

namespace Sys2Proof.Config

/-- SHA-256 of a byte string. The manual names the function (FIPS 180) and does not define it; its values are stored and
shown, never branched on (log entry 3). -/
opaque sha256 : Bytes → Bytes

/-- HKDF-SHA-256 (RFC 5869) of input key, salt and info, as many bytes as asked for (16 R437; log entry 3). -/
opaque hkdf : Bytes → Bytes → Bytes → Nat → Bytes

/-- AES-128-CCM of key, nonce, authenticated data and message, with the MIC of the length asked for behind the encrypted message (06 R138,
14 R380; log entry 3). -/
opaque ccm : Bytes → Bytes → Bytes → Bytes → Nat → Bytes

/-- AES-256-GCM of key, nonce, associated data and message: the encrypted message and the tag of 16 bytes behind it (16 R428; log entry 3). -/
opaque gcm : Bytes → Bytes → Bytes → Bytes → Bytes

/-- The wrapping key, reconstructed from the response of the physical unclonable function (16 R427). -/
opaque wrappingKey : Bytes

/-- What a token's digits decrypt to under the key of its account, for a token written as an object (11 R299; log entry 13). -/
opaque tokenFacts : Bytes → TokenFacts

/-- An import blob as Burl finds it, for one written as an object (16 R433; log entry 13). -/
opaque importBlob : Bytes → ImportBlob

/-- An image header as its bytes give it, for one written as an object (17 R455; log entry 13). -/
opaque imageHeader : Bytes → ImageHdr

/-- Does a signature or hash in a written value verify (log entry 13)? -/
opaque verifies : Nat → Bytes → Bool

/-- Key material of a generated key or the public key Burl derives from private material (16 R425, R435; log entry 3). -/
opaque keyMaterial : Nat → Bytes

/-- The public key of a slot whose private material is given (16 R425; log entry 3). -/
opaque publicKey : Bytes → Bytes

/-- A signature of Burl over a message with the key of a slot (12 R319, 16 R442; log entry 3). -/
opaque signature : Nat → Bytes → Bytes

/-- A link key of the powerline link of a port: SLAC is that of ISO 15118-3, TLS that of its RFCs, and the manual gives no value (07 R167, R169;
log entry 3). -/
opaque linkKey : Nat → Bytes

/-- A coefficient of the interpolator of 08 R197, by phase 1 to 1,023 and tap 0 to 31: a windowed sinc with a Kaiser window of β = 8, held in
ROM and not in the manual (log entry 4). -/
opaque kaiserTap : Nat → Nat → Int

/-- A value the manual leaves open, one for each draw (log entry 5). -/
opaque freeNat : Nat → Nat

/-- A yes or no the manual leaves open, one for each draw (log entry 5). -/
opaque freeBool : Nat → Bool

/-- The unit's serial number, 16 characters (05 R110 table *Identity and status objects*: "Per unit"; log entry 6). -/
opaque serialNumber : Bytes

/-- SHA-256 of the Heartwood ROM, one value per stepping (05; log entry 6). -/
opaque heartwoodRomHash : Bytes

/-- SHA-256 of the Burl ROM, one value per stepping (05; log entry 6). -/
opaque burlRomHash : Bytes

/-- Public key of the device identity slot 0x00 (16 R426; log entry 6). -/
opaque identityPublicKey : Bytes

/-- Public key of the session-record slot 0x04 (16 R426; log entry 6). -/
opaque recordPublicKey : Bytes

/-- The content of a Sapwood page 1 to 15, which the Sapwood image defines (18 R495; log entry 6). -/
opaque sapwoodPage : Nat → Bytes

/-- One row of a layer of the image of a page, 192 grey levels, nibble c for column c (18 R479). The glyphs of legal items, of the keypad
echo and of Sapwood pages come with images and are not in the manual (log entry 48). Arguments: the page as bytes, layer, row. -/
opaque pageRow : Bytes → Nat → Nat → Nat

/-- The payload of an image the unit was shipped with, by type and slot (17 R455; log entry 43). -/
opaque shippedPayload : Nat → Nat → Bytes

/-- The header of an image the unit was shipped with, by type and slot (17 R455; log entry 43). -/
opaque shippedImage : Nat → Nat → ImageHdr

/-- Event code (0), entity (1) and data (2) of a general logbook entry: the manual gives the general logbook the entry's format and none
of its codes (12 R317; log entry 62). -/
opaque generalEvent : List Int → Nat → Nat

end Sys2Proof.Config
end

