-- ==== Sys2Proof/Machine/Objects.lean ====
section
/-! DEFINITION. The object dictionary as a table: one row per object of the tables *Index.Sub / Name / Type / Access / Default /
Unit / range* of chapters 02 and 05 to 18, with the type's size, access, default, accepted values and whether it is volatile. -/

namespace Sys2Proof.Machine

/-- The value of a dictionary object: an exact integer, or a byte string (05 R110). -/
inductive Val where
  | int (n : Int)
  | bytes (b : Bytes)
deriving DecidableEq, Repr

/-- Data types (05 R110, table *Data types*); sizes in bytes. -/
inductive Ty where
  | bool
  | u (size : Nat)
  | i (size : Nat)
  | octets (n : Nat)
  | octetsVar (n : Nat)
  | str (n : Nat)
  | domain
deriving DecidableEq, Repr

/-- Access codes (00 R11, 05 R112). -/
inductive Access where | ro | rw | rws | wo | cmd | lgl
deriving DecidableEq, Repr

/-- Accepted values: any value of the type, the listed closed intervals, or a mask of the bits that may be set (05 R111, R120). -/
inductive Rng where
  | any
  | ints (l : List (Int × Int))
  | bits (mask : Nat)
deriving DecidableEq, Repr

/-- One row of an object table: it covers the indices `idx + k * stride`, `k < count`, and the subindices `sub` to
`sub + subs - 1`. -/
structure Row where
  idx    : Nat
  stride : Nat
  count  : Nat
  sub    : Nat
  subs   : Nat
  ty     : Ty
  acc    : Access
  dflt   : Val
  rng    : Rng
  vol    : Bool
deriving DecidableEq, Repr

/-- The key of an object: index times 256 plus subindex (05 R108). -/
def ob (idx sub : Nat) : Nat := idx * 256 + sub

/-- The object reference of a key: index in [31:16], subindex in [15:8] (05 R109). -/
def refOf (key : Nat) : Nat := key * 256

/-- The key an object reference names, when its low byte is 0x00 (05 R109). -/
def keyOfRef (ref : Nat) : Option Nat := if ref % 256 = 0 then some (ref / 256) else none

/-- Rows of the object tables, indices 0x1000 to 0x1FFF, part 0. -/
def rows1_0 : List Row := [
  ⟨0x1000, 1, 1, 0x01, 1, .str 16, .ro, .bytes [69, 110, 111, 117, 120], .any, false⟩,
  ⟨0x1000, 1, 1, 0x02, 1, .str 16, .ro, .bytes [70, 68, 77, 56, 80], .any, false⟩,
  ⟨0x1000, 1, 1, 0x03, 1, .str 16, .ro, .bytes [70, 68, 77, 56, 80, 45, 73, 65, 49, 45, 84], .any, false⟩,
  ⟨0x1000, 1, 1, 0x04, 1, .str 4, .ro, .bytes [65, 49], .any, false⟩,
  ⟨0x1000, 1, 1, 0x05, 1, .str 16, .ro, .bytes [], .any, false⟩,
  ⟨0x1000, 1, 1, 0x06, 1, .octets 32, .ro, .bytes (List.replicate 32 0), .any, false⟩,
  ⟨0x1000, 1, 1, 0x07, 1, .u 1, .ro, .int 1, .ints [(0, 3)], false⟩,
  ⟨0x1000, 1, 1, 0x08, 1, .u 1, .ro, .int 0, .ints [(0, 5)], false⟩,
  ⟨0x1000, 1, 1, 0x09, 1, .u 1, .ro, .int 0, .ints [(0, 2)], false⟩,
  ⟨0x1000, 1, 1, 0x0A, 1, .u 8, .ro, .int 0, .any, false⟩,
  ⟨0x1000, 1, 1, 0x0B, 1, .u 4, .ro, .int 0, .any, false⟩,
  ⟨0x1000, 1, 1, 0x0C, 1, .u 1, .ro, .int 0, .ints [(2, 5)], false⟩,
  ⟨0x1000, 1, 1, 0x0D, 1, .octets 32, .ro, .bytes (List.replicate 32 0), .any, false⟩,
  ⟨0x1000, 1, 1, 0x0E, 1, .octets 32, .ro, .bytes (List.replicate 32 0), .any, false⟩,
  ⟨0x1002, 1, 1, 0x01, 12, .u 1, .ro, .int 0, .ints [(0, 4)], false⟩,
  ⟨0x1003, 1, 1, 0x01, 12, .u 8, .ro, .int 0, .any, false⟩,
  ⟨0x1100, 1, 1, 0x01, 1, .u 2, .ro, .int 256, .any, false⟩,
  ⟨0x1100, 1, 1, 0x02, 1, .u 8, .ro, .int 0, .any, true⟩,
  ⟨0x1100, 1, 1, 0x03, 1, .u 4, .ro, .int 0, .ints [(0, 131072)], false⟩,
  ⟨0x1100, 1, 1, 0x04, 1, .u 4, .ro, .int 0, .any, false⟩,
  ⟨0x1100, 1, 1, 0x05, 1, .u 4, .ro, .int 0, .ints [(0, 32768)], false⟩,
  ⟨0x1100, 1, 1, 0x06, 1, .u 4, .ro, .int 0, .any, true⟩,
  ⟨0x1100, 1, 1, 0x07, 1, .u 4, .ro, .int 0, .any, true⟩,
  ⟨0x1100, 1, 1, 0x08, 1, .u 1, .ro, .int 255, .ints [(0, 15), (255, 255)], true⟩,
  ⟨0x1100, 1, 1, 0x09, 1, .u 4, .ro, .int 0, .any, true⟩,
  ⟨0x1200, 1, 16, 0x01, 1, .u 1, .rws, .int 255, .ints [(0, 15), (255, 255)], false⟩,
  ⟨0x1200, 1, 16, 0x02, 1, .u 1, .rws, .int 0, .ints [(0, 2)], false⟩,
  ⟨0x1200, 1, 16, 0x03, 1, .u 2, .rws, .int 1000, .ints [(10, 60000)], false⟩,
  ⟨0x1200, 1, 16, 0x04, 1, .u 1, .rws, .int 8, .ints [(0, 8)], false⟩,
  ⟨0x1200, 1, 16, 0x05, 1, .u 1, .rws, .int 0, .ints [(0, 32)], false⟩,
  ⟨0x1200, 1, 16, 0x08, 1, .u 4, .ro, .int 0, .any, true⟩,
  ⟨0x1200, 1, 16, 0x09, 1, .u 4, .ro, .int 0, .any, true⟩,
  ⟨0x1200, 1, 16, 0x0A, 1, .u 2, .ro, .int 0, .ints [(0, 1024)], false⟩,
  ⟨0x1200, 1, 16, 0x10, 32, .u 4, .rws, .int 0, .any, false⟩,
  ⟨0x1407, 1, 1, 0x01, 1, .u 1, .ro, .int 0, .ints [(0, 3)], false⟩,
  ⟨0x1408, 1, 8, 0x01, 1, .u 1, .ro, .int 0, .ints [(0, 3)], false⟩,
  ⟨0x1410, 1, 1, 0x01, 1, .u 1, .ro, .int 0, .ints [(0, 3)], false⟩,
  ⟨0x1418, 1, 8, 0x01, 1, .u 1, .ro, .int 0, .ints [(0, 3)], false⟩,
  ⟨0x1420, 1, 3, 0x01, 1, .u 1, .ro, .int 0, .ints [(0, 3)], false⟩,
  ⟨0x1424, 1, 2, 0x01, 1, .u 1, .ro, .int 0, .ints [(0, 3)], false⟩]

/-- Rows of the object tables, indices 0x1000 to 0x1FFF, part 1. -/
def rows1_1 : List Row := [
  ⟨0x1428, 1, 1, 0x01, 1, .u 1, .ro, .int 0, .ints [(0, 3)], false⟩,
  ⟨0x142A, 1, 5, 0x01, 1, .u 1, .ro, .int 0, .ints [(0, 3)], false⟩,
  ⟨0x1430, 1, 16, 0x01, 1, .u 1, .ro, .int 0, .ints [(0, 3)], false⟩,
  ⟨0x1407, 1, 1, 0x02, 1, .u 8, .ro, .int 0, .any, false⟩,
  ⟨0x1408, 1, 8, 0x02, 1, .u 8, .ro, .int 0, .any, false⟩,
  ⟨0x1410, 1, 1, 0x02, 1, .u 8, .ro, .int 0, .any, false⟩,
  ⟨0x1418, 1, 8, 0x02, 1, .u 8, .ro, .int 0, .any, false⟩,
  ⟨0x1420, 1, 3, 0x02, 1, .u 8, .ro, .int 0, .any, false⟩,
  ⟨0x1424, 1, 2, 0x02, 1, .u 8, .ro, .int 0, .any, false⟩,
  ⟨0x1428, 1, 1, 0x02, 1, .u 8, .ro, .int 0, .any, false⟩,
  ⟨0x142A, 1, 5, 0x02, 1, .u 8, .ro, .int 0, .any, false⟩,
  ⟨0x1430, 1, 16, 0x02, 1, .u 8, .ro, .int 0, .any, false⟩,
  ⟨0x1407, 1, 1, 0x03, 1, .u 1, .cmd, .int 0, .ints [(1, 1)], false⟩,
  ⟨0x1408, 1, 8, 0x03, 1, .u 1, .cmd, .int 0, .ints [(1, 1)], false⟩,
  ⟨0x1410, 1, 1, 0x03, 1, .u 1, .cmd, .int 0, .ints [(1, 1)], false⟩,
  ⟨0x1418, 1, 8, 0x03, 1, .u 1, .cmd, .int 0, .ints [(1, 1)], false⟩,
  ⟨0x1420, 1, 3, 0x03, 1, .u 1, .cmd, .int 0, .ints [(1, 1)], false⟩,
  ⟨0x1424, 1, 2, 0x03, 1, .u 1, .cmd, .int 0, .ints [(1, 1)], false⟩,
  ⟨0x1428, 1, 1, 0x03, 1, .u 1, .cmd, .int 0, .ints [(1, 1)], false⟩,
  ⟨0x142A, 1, 5, 0x03, 1, .u 1, .cmd, .int 0, .ints [(1, 1)], false⟩,
  ⟨0x1430, 1, 16, 0x03, 1, .u 1, .cmd, .int 0, .ints [(1, 1)], false⟩,
  ⟨0x1407, 1, 1, 0x04, 1, .u 1, .cmd, .int 0, .ints [(1, 1)], false⟩,
  ⟨0x1408, 1, 8, 0x04, 1, .u 1, .cmd, .int 0, .ints [(1, 1)], false⟩,
  ⟨0x1410, 1, 1, 0x04, 1, .u 1, .cmd, .int 0, .ints [(1, 1)], false⟩,
  ⟨0x1418, 1, 8, 0x04, 1, .u 1, .cmd, .int 0, .ints [(1, 1)], false⟩,
  ⟨0x1420, 1, 3, 0x04, 1, .u 1, .cmd, .int 0, .ints [(1, 1)], false⟩,
  ⟨0x1424, 1, 2, 0x04, 1, .u 1, .cmd, .int 0, .ints [(1, 1)], false⟩,
  ⟨0x1428, 1, 1, 0x04, 1, .u 1, .cmd, .int 0, .ints [(1, 1)], false⟩,
  ⟨0x142A, 1, 5, 0x04, 1, .u 1, .cmd, .int 0, .ints [(1, 1)], false⟩,
  ⟨0x1430, 1, 16, 0x04, 1, .u 1, .cmd, .int 0, .ints [(1, 1)], false⟩,
  ⟨0x1407, 1, 1, 0x05, 1, .u 4, .ro, .int 0, .any, false⟩,
  ⟨0x1408, 1, 8, 0x05, 1, .u 4, .ro, .int 0, .any, false⟩,
  ⟨0x1410, 1, 1, 0x05, 1, .u 4, .ro, .int 0, .any, false⟩,
  ⟨0x1418, 1, 8, 0x05, 1, .u 4, .ro, .int 0, .any, false⟩,
  ⟨0x1420, 1, 3, 0x05, 1, .u 4, .ro, .int 0, .any, false⟩,
  ⟨0x1424, 1, 2, 0x05, 1, .u 4, .ro, .int 0, .any, false⟩,
  ⟨0x1428, 1, 1, 0x05, 1, .u 4, .ro, .int 0, .any, false⟩,
  ⟨0x142A, 1, 5, 0x05, 1, .u 4, .ro, .int 0, .any, false⟩,
  ⟨0x1430, 1, 16, 0x05, 1, .u 4, .ro, .int 0, .any, false⟩,
  ⟨0x1407, 1, 1, 0x06, 1, .u 4, .ro, .int 0, .any, false⟩]

/-- Rows of the object tables, indices 0x1000 to 0x1FFF, part 2. -/
def rows1_2 : List Row := [
  ⟨0x1408, 1, 8, 0x06, 1, .u 4, .ro, .int 0, .any, false⟩,
  ⟨0x1410, 1, 1, 0x06, 1, .u 4, .ro, .int 0, .any, false⟩,
  ⟨0x1418, 1, 8, 0x06, 1, .u 4, .ro, .int 0, .any, false⟩,
  ⟨0x1420, 1, 3, 0x06, 1, .u 4, .ro, .int 0, .any, false⟩,
  ⟨0x1424, 1, 2, 0x06, 1, .u 4, .ro, .int 0, .any, false⟩,
  ⟨0x1428, 1, 1, 0x06, 1, .u 4, .ro, .int 0, .any, false⟩,
  ⟨0x142A, 1, 5, 0x06, 1, .u 4, .ro, .int 0, .any, false⟩,
  ⟨0x1430, 1, 16, 0x06, 1, .u 4, .ro, .int 0, .any, false⟩,
  ⟨0x1407, 1, 1, 0x07, 1, .u 4, .ro, .int 0, .any, false⟩,
  ⟨0x1408, 1, 8, 0x07, 1, .u 4, .ro, .int 0, .any, false⟩,
  ⟨0x1410, 1, 1, 0x07, 1, .u 4, .ro, .int 0, .any, false⟩,
  ⟨0x1418, 1, 8, 0x07, 1, .u 4, .ro, .int 0, .any, false⟩,
  ⟨0x1420, 1, 3, 0x07, 1, .u 4, .ro, .int 0, .any, false⟩,
  ⟨0x1424, 1, 2, 0x07, 1, .u 4, .ro, .int 0, .any, false⟩,
  ⟨0x1428, 1, 1, 0x07, 1, .u 4, .ro, .int 0, .any, false⟩,
  ⟨0x142A, 1, 5, 0x07, 1, .u 4, .ro, .int 0, .any, false⟩,
  ⟨0x1430, 1, 16, 0x07, 1, .u 4, .ro, .int 0, .any, false⟩,
  ⟨0x1407, 1, 1, 0x08, 1, .bool, .ro, .int 0, .any, false⟩,
  ⟨0x1408, 1, 8, 0x08, 1, .bool, .ro, .int 0, .any, false⟩,
  ⟨0x1410, 1, 1, 0x08, 1, .bool, .ro, .int 0, .any, false⟩,
  ⟨0x1418, 1, 8, 0x08, 1, .bool, .ro, .int 0, .any, false⟩,
  ⟨0x1420, 1, 3, 0x08, 1, .bool, .ro, .int 0, .any, false⟩,
  ⟨0x1424, 1, 2, 0x08, 1, .bool, .ro, .int 0, .any, false⟩,
  ⟨0x1428, 1, 1, 0x08, 1, .bool, .ro, .int 0, .any, false⟩,
  ⟨0x142A, 1, 5, 0x08, 1, .bool, .ro, .int 0, .any, false⟩,
  ⟨0x1430, 1, 16, 0x08, 1, .bool, .ro, .int 0, .any, false⟩,
  ⟨0x1407, 1, 1, 0x09, 1, .u 4, .ro, .int 0, .ints [(0, 32768)], false⟩,
  ⟨0x1408, 1, 8, 0x09, 1, .u 4, .ro, .int 0, .ints [(0, 32768)], false⟩,
  ⟨0x1410, 1, 1, 0x09, 1, .u 4, .ro, .int 0, .ints [(0, 32768)], false⟩,
  ⟨0x1418, 1, 8, 0x09, 1, .u 4, .ro, .int 0, .ints [(0, 32768)], false⟩,
  ⟨0x1420, 1, 3, 0x09, 1, .u 4, .ro, .int 0, .ints [(0, 32768)], false⟩,
  ⟨0x1424, 1, 2, 0x09, 1, .u 4, .ro, .int 0, .ints [(0, 32768)], false⟩,
  ⟨0x1428, 1, 1, 0x09, 1, .u 4, .ro, .int 0, .ints [(0, 32768)], false⟩,
  ⟨0x142A, 1, 5, 0x09, 1, .u 4, .ro, .int 0, .ints [(0, 32768)], false⟩,
  ⟨0x1430, 1, 16, 0x09, 1, .u 4, .ro, .int 0, .ints [(0, 32768)], false⟩,
  ⟨0x1800, 1, 1, 0x01, 1, .u 1, .ro, .int 255, .ints [(0, 15), (255, 255)], true⟩,
  ⟨0x1800, 1, 1, 0x02, 1, .u 1, .ro, .int 0, .ints [(0, 3)], true⟩,
  ⟨0x1800, 1, 1, 0x03, 1, .u 8, .ro, .int 0, .any, true⟩,
  ⟨0x1800, 1, 1, 0x04, 1, .u 2, .ro, .int 0, .ints [(0, 1500)], true⟩,
  ⟨0x1800, 1, 1, 0x05, 1, .u 1, .ro, .int 255, .ints [(0, 15), (255, 255)], true⟩]

/-- Rows of the object tables, indices 0x1000 to 0x1FFF, part 3. -/
def rows1_3 : List Row := [
  ⟨0x1800, 1, 1, 0x06, 1, .u 4, .ro, .int 0, .any, false⟩,
  ⟨0x1800, 1, 1, 0x07, 1, .u 8, .ro, .int 0, .any, false⟩,
  ⟨0x1810, 1, 16, 0x01, 1, .bool, .ro, .int 0, .any, true⟩,
  ⟨0x1810, 1, 16, 0x02, 1, .u 1, .ro, .int 0, .bits 0x7, true⟩,
  ⟨0x1810, 1, 16, 0x03, 1, .u 1, .rws, .int 7, .bits 0x7, false⟩,
  ⟨0x1810, 1, 16, 0x04, 1, .bool, .rws, .int 1, .any, false⟩,
  ⟨0x1810, 1, 16, 0x05, 1, .u 1, .rws, .int 8, .ints [(0, 15)], false⟩,
  ⟨0x1810, 1, 16, 0x06, 1, .u 8, .ro, .int 0, .any, true⟩,
  ⟨0x1810, 1, 16, 0x07, 1, .u 4, .ro, .int 0, .any, true⟩,
  ⟨0x1810, 1, 16, 0x08, 1, .u 4, .ro, .int 0, .any, false⟩,
  ⟨0x1810, 1, 16, 0x09, 1, .u 4, .ro, .int 0, .any, false⟩,
  ⟨0x1810, 1, 16, 0x0A, 1, .u 4, .ro, .int 0, .any, true⟩,
  ⟨0x1810, 1, 16, 0x0B, 1, .bool, .ro, .int 0, .any, false⟩,
  ⟨0x1810, 1, 16, 0x0C, 1, .u 1, .cmd, .int 0, .ints [(1, 1)], false⟩]

/-- Rows of the object tables, indices 0x2000 to 0x2FFF, part 0. -/
def rows2_0 : List Row := [
  ⟨0x2000, 0x0100, 8, 0x01, 1, .u 1, .rws, .int 0, .ints [(0, 3)], false⟩,
  ⟨0x2000, 0x0100, 8, 0x02, 1, .u 1, .rws, .int 0, .ints [(0, 2)], false⟩,
  ⟨0x2000, 0x0100, 8, 0x03, 1, .u 1, .rws, .int 0, .ints [(0, 5)], false⟩,
  ⟨0x2000, 0x0100, 8, 0x04, 1, .u 1, .rws, .int 0, .ints [(0, 0), (1, 1)], false⟩,
  ⟨0x2000, 0x0100, 8, 0x05, 1, .u 2, .rws, .int 320, .ints [(60, 800)], false⟩,
  ⟨0x2000, 0x0100, 8, 0x06, 1, .u 2, .rws, .int 320, .ints [(60, 800)], false⟩,
  ⟨0x2000, 0x0100, 8, 0x07, 1, .u 2, .rws, .int 5000, .ints [(1000, 10000)], false⟩,
  ⟨0x2000, 0x0100, 8, 0x08, 1, .u 2, .rws, .int 2000, .ints [(0, 5000)], false⟩,
  ⟨0x2000, 0x0100, 8, 0x09, 1, .u 4, .rws, .int 50000, .ints [(0, 400000)], false⟩,
  ⟨0x2000, 0x0100, 8, 0x0A, 1, .bool, .rws, .int 0, .any, false⟩,
  ⟨0x2000, 0x0100, 8, 0x0B, 1, .u 2, .rws, .int 0, .ints [(0, 5000)], false⟩,
  ⟨0x2000, 0x0100, 8, 0x0C, 1, .u 2, .rws, .int 0, .bits 0xffff, false⟩,
  ⟨0x2000, 0x0100, 8, 0x0D, 1, .u 1, .rws, .int 7, .bits 0x7, false⟩,
  ⟨0x2000, 0x0100, 8, 0x0E, 1, .u 1, .rws, .int 3, .bits 0x3, false⟩,
  ⟨0x2000, 0x0100, 8, 0x0F, 1, .bool, .rws, .int 1, .any, false⟩,
  ⟨0x2000, 0x0100, 8, 0x10, 1, .u 1, .rws, .int 8, .ints [(1, 15)], false⟩,
  ⟨0x2000, 0x0100, 8, 0x11, 1, .u 1, .rws, .int 40, .ints [(10, 60)], false⟩,
  ⟨0x2000, 0x0100, 8, 0x12, 1, .u 1, .rws, .int 255, .ints [(0, 47), (255, 255)], false⟩,
  ⟨0x2000, 0x0100, 8, 0x13, 1, .u 1, .rws, .int 255, .ints [(0, 47), (255, 255)], false⟩,
  ⟨0x2000, 0x0100, 8, 0x14, 1, .u 1, .rws, .int 1, .ints [(0, 2)], false⟩,
  ⟨0x2000, 0x0100, 8, 0x15, 1, .u 1, .rws, .int 95, .ints [(80, 100)], false⟩,
  ⟨0x2000, 0x0100, 8, 0x16, 1, .bool, .rws, .int 0, .any, false⟩,
  ⟨0x2010, 0x0100, 8, 0x01, 1, .u 1, .ro, .int 0, .ints [(0, 9)], true⟩,
  ⟨0x2010, 0x0100, 8, 0x02, 1, .u 1, .ro, .int 0, .ints [(0, 7)], true⟩,
  ⟨0x2010, 0x0100, 8, 0x03, 1, .u 2, .ro, .int 0, .ints [(0, 8000)], true⟩,
  ⟨0x2010, 0x0100, 8, 0x04, 1, .i 2, .ro, .int 0, .any, true⟩,
  ⟨0x2010, 0x0100, 8, 0x05, 1, .i 2, .ro, .int 0, .any, true⟩,
  ⟨0x2010, 0x0100, 8, 0x06, 1, .u 2, .ro, .int 0, .any, true⟩,
  ⟨0x2010, 0x0100, 8, 0x07, 1, .u 1, .ro, .int 0, .ints [(0, 2)], true⟩,
  ⟨0x2010, 0x0100, 8, 0x08, 1, .u 1, .ro, .int 0, .ints [(0, 4)], true⟩,
  ⟨0x2010, 0x0100, 8, 0x09, 1, .octets 6, .ro, .bytes (List.replicate 6 0), .any, true⟩,
  ⟨0x2010, 0x0100, 8, 0x0A, 1, .u 1, .ro, .int 0, .ints [(0, 3), (255, 255)], true⟩,
  ⟨0x2010, 0x0100, 8, 0x0B, 1, .u 2, .ro, .int 0, .any, true⟩,
  ⟨0x2010, 0x0100, 8, 0x0C, 1, .u 1, .ro, .int 0, .ints [(0, 5)], true⟩,
  ⟨0x2010, 0x0100, 8, 0x0D, 1, .u 1, .ro, .int 0, .ints [(0, 3)], true⟩,
  ⟨0x2010, 0x0100, 8, 0x0E, 1, .u 4, .ro, .int 0, .any, true⟩,
  ⟨0x2010, 0x0100, 8, 0x0F, 1, .u 8, .ro, .int 0, .any, true⟩,
  ⟨0x2010, 0x0100, 8, 0x10, 1, .i 1, .ro, .int 0, .ints [(-1, 1)], true⟩,
  ⟨0x2010, 0x0100, 8, 0x11, 1, .u 2, .ro, .int 0, .any, true⟩,
  ⟨0x2010, 0x0100, 8, 0x12, 1, .u 2, .ro, .int 0, .any, true⟩]

/-- Rows of the object tables, indices 0x2000 to 0x2FFF, part 1. -/
def rows2_1 : List Row := [
  ⟨0x2010, 0x0100, 8, 0x13, 1, .i 2, .ro, .int 0, .any, true⟩,
  ⟨0x2020, 0x0100, 8, 0x01, 1, .u 1, .cmd, .int 0, .ints [(1, 1)], false⟩,
  ⟨0x2020, 0x0100, 8, 0x02, 1, .u 1, .cmd, .int 0, .ints [(1, 1)], false⟩,
  ⟨0x2020, 0x0100, 8, 0x03, 1, .u 1, .cmd, .int 0, .ints [(1, 1)], false⟩,
  ⟨0x2020, 0x0100, 8, 0x04, 1, .u 2, .rw, .int 5000, .ints [(0, 5000)], false⟩,
  ⟨0x2020, 0x0100, 8, 0x05, 1, .u 2, .rw, .int 5000, .ints [(0, 5000)], false⟩,
  ⟨0x2020, 0x0100, 8, 0x06, 1, .u 1, .cmd, .int 0, .ints [(1, 1)], false⟩,
  ⟨0x2030, 0x0100, 8, 0x01, 1, .u 4, .ro, .int 0, .any, false⟩,
  ⟨0x2030, 0x0100, 8, 0x02, 1, .u 4, .ro, .int 0, .any, false⟩,
  ⟨0x2030, 0x0100, 8, 0x03, 1, .u 4, .ro, .int 0, .any, false⟩,
  ⟨0x2030, 0x0100, 8, 0x04, 1, .u 4, .ro, .int 0, .any, false⟩,
  ⟨0x2030, 0x0100, 8, 0x05, 1, .u 4, .ro, .int 0, .any, false⟩,
  ⟨0x2030, 0x0100, 8, 0x06, 1, .u 4, .ro, .int 0, .any, false⟩,
  ⟨0x2030, 0x0100, 8, 0x07, 1, .u 1, .ro, .int 0, .ints [(0, 11)], false⟩,
  ⟨0x2080, 1, 1, 0x01, 3, .u 2, .rws, .int 630, .ints [(0, 10000)], false⟩,
  ⟨0x2080, 1, 1, 0x04, 1, .u 2, .rws, .int 0, .ints [(0, 10000)], false⟩,
  ⟨0x2080, 1, 1, 0x05, 1, .u 2, .rws, .int 10, .ints [(0, 200)], false⟩,
  ⟨0x2080, 1, 1, 0x06, 1, .u 2, .rws, .int 10, .ints [(1, 600)], false⟩,
  ⟨0x2080, 1, 1, 0x07, 1, .u 2, .rws, .int 200, .ints [(0, 10000)], false⟩,
  ⟨0x2080, 1, 1, 0x08, 1, .bool, .rws, .int 1, .any, false⟩,
  ⟨0x2080, 1, 1, 0x09, 1, .u 2, .rws, .int 10, .ints [(1, 60)], false⟩,
  ⟨0x2080, 1, 1, 0x0A, 1, .u 2, .rws, .int 1000, .ints [(500, 500), (1000, 1000)], false⟩,
  ⟨0x2081, 1, 1, 0x01, 3, .u 2, .rw, .int 0, .ints [(0, 10000)], true⟩,
  ⟨0x2081, 1, 1, 0x04, 3, .i 2, .ro, .int 0, .any, true⟩,
  ⟨0x2081, 1, 1, 0x07, 1, .u 1, .ro, .int 255, .ints [(0, 2), (255, 255)], true⟩,
  ⟨0x2081, 1, 1, 0x08, 1, .u 1, .ro, .int 0, .bits 0x3, true⟩,
  ⟨0x2090, 1, 16, 0x01, 1, .bool, .ro, .int 0, .any, true⟩,
  ⟨0x2090, 1, 16, 0x02, 1, .u 1, .ro, .int 0, .ints [(0, 3)], true⟩,
  ⟨0x2090, 1, 16, 0x03, 1, .u 1, .ro, .int 0, .bits 0x7f, true⟩,
  ⟨0x2090, 1, 16, 0x04, 1, .u 2, .ro, .int 0, .any, true⟩,
  ⟨0x2090, 1, 16, 0x05, 1, .u 1, .ro, .int 255, .ints [(0, 3), (255, 255)], false⟩]

/-- Rows of the object tables, indices 0x3000 to 0x3FFF, part 0. -/
def rows3_0 : List Row := [
  ⟨0x3000, 1, 1, 0x01, 1, .i 2, .ro, .int 0, .any, true⟩,
  ⟨0x3000, 1, 1, 0x02, 1, .u 1, .ro, .int 0, .ints [(0, 7)], true⟩,
  ⟨0x3000, 1, 1, 0x03, 1, .u 8, .ro, .int 0, .any, true⟩,
  ⟨0x3000, 1, 1, 0x04, 1, .u 4, .ro, .int 0, .any, true⟩,
  ⟨0x3000, 1, 1, 0x05, 1, .u 16, .ro, .int 0, .bits 0xfffffffffffffffff, true⟩,
  ⟨0x3000, 1, 1, 0x06, 1, .u 16, .ro, .int 0, .bits 0xfffffffffffffffff, true⟩,
  ⟨0x3000, 1, 1, 0x07, 1, .u 4, .ro, .int 0, .any, true⟩,
  ⟨0x3000, 1, 1, 0x08, 1, .u 1, .ro, .int 0, .ints [(0, 0), (1, 1)], true⟩,
  ⟨0x3001, 1, 1, 0x01, 1, .u 1, .rw, .int 0, .ints [(0, 8)], true⟩,
  ⟨0x3001, 1, 1, 0x02, 1, .u 2, .rw, .int 250, .ints [(1, 1000)], true⟩,
  ⟨0x3001, 1, 1, 0x03, 1, .u 1, .cmd, .int 0, .ints [(1, 1)], true⟩,
  ⟨0x3001, 1, 1, 0x04, 1, .u 1, .ro, .int 0, .ints [(0, 3)], true⟩,
  ⟨0x3001, 1, 1, 0x05, 1, .u 2, .ro, .int 0, .any, true⟩,
  ⟨0x3001, 1, 1, 0x06, 3, .u 4, .ro, .int 0, .any, true⟩,
  ⟨0x3001, 1, 1, 0x09, 3, .u 4, .ro, .int 0, .any, true⟩,
  ⟨0x3001, 1, 1, 0x0C, 3, .i 8, .ro, .int 0, .any, true⟩,
  ⟨0x3001, 1, 1, 0x0F, 3, .i 8, .ro, .int 0, .any, true⟩,
  ⟨0x3001, 1, 1, 0x12, 1, .u 4, .ro, .int 0, .any, true⟩,
  ⟨0x3010, 1, 8, 0x01, 1, .u 4, .ro, .int 0, .any, true⟩,
  ⟨0x3010, 1, 8, 0x02, 1, .u 1, .ro, .int 0, .ints [(0, 2)], true⟩,
  ⟨0x3010, 1, 8, 0x03, 1, .u 1, .ro, .int 0, .ints [(0, 7)], true⟩,
  ⟨0x3010, 1, 8, 0x04, 1, .u 4, .ro, .int 0, .any, true⟩,
  ⟨0x3010, 1, 8, 0x05, 1, .bool, .ro, .int 0, .any, true⟩,
  ⟨0x3010, 1, 8, 0x06, 1, .bool, .ro, .int 0, .any, true⟩,
  ⟨0x3010, 1, 8, 0x07, 1, .u 4, .ro, .int 0, .any, true⟩,
  ⟨0x3020, 1, 68, 0x01, 1, .u 4, .ro, .int 0, .any, true⟩,
  ⟨0x3020, 1, 68, 0x02, 1, .i 4, .ro, .int 0, .any, true⟩,
  ⟨0x3020, 1, 68, 0x03, 1, .u 4, .ro, .int 0, .ints [(0, 8388607)], true⟩,
  ⟨0x3020, 1, 68, 0x04, 1, .u 4, .ro, .int 0, .any, true⟩,
  ⟨0x3020, 1, 68, 0x05, 1, .u 4, .ro, .int 0, .any, true⟩,
  ⟨0x3020, 1, 68, 0x06, 1, .u 1, .ro, .int 3, .ints [(0, 3)], true⟩,
  ⟨0x3020, 1, 68, 0x07, 1, .i 4, .ro, .int 0, .any, true⟩,
  ⟨0x3070, 1, 1, 0x01, 16, .u 1, .rws, .int 0, .ints [(0, 3)], false⟩,
  ⟨0x3071, 1, 1, 0x01, 8, .u 1, .rws, .int 0, .any, false⟩,
  ⟨0x3080, 1, 68, 0x01, 1, .u 1, .rws, .int 0, .ints [(0, 0), (16, 31), (32, 32), (255, 255)], false⟩,
  ⟨0x3080, 1, 68, 0x02, 1, .u 1, .rws, .int 0, .ints [(0, 2)], false⟩,
  ⟨0x3080, 1, 68, 0x03, 1, .u 1, .rws, .int 0, .ints [(0, 4)], false⟩,
  ⟨0x3100, 0x0100, 8, 0x01, 1, .u 2, .rws, .int 400, .ints [(200, 10000)], false⟩,
  ⟨0x3100, 0x0100, 8, 0x02, 1, .u 2, .rws, .int 50, .ints [(10, 500)], false⟩,
  ⟨0x3100, 0x0100, 8, 0x03, 1, .u 2, .rws, .int 500, .ints [(100, 10000)], false⟩]

/-- Rows of the object tables, indices 0x3000 to 0x3FFF, part 1. -/
def rows3_1 : List Row := [
  ⟨0x3100, 0x0100, 8, 0x04, 1, .u 2, .rws, .int 50, .ints [(5, 3000)], false⟩,
  ⟨0x3100, 0x0100, 8, 0x05, 1, .bool, .rws, .int 0, .any, false⟩,
  ⟨0x3100, 0x0100, 8, 0x06, 1, .u 2, .rws, .int 250, .ints [(10, 3000)], false⟩,
  ⟨0x3104, 0x0100, 8, 0x01, 1, .u 8, .lgl, .int 0, .any, false⟩,
  ⟨0x3104, 0x0100, 8, 0x02, 1, .u 8, .lgl, .int 0, .any, false⟩,
  ⟨0x3104, 0x0100, 8, 0x03, 1, .u 8, .lgl, .int 0, .any, false⟩,
  ⟨0x3104, 0x0100, 8, 0x04, 4, .u 8, .lgl, .int 0, .any, false⟩,
  ⟨0x3104, 0x0100, 8, 0x08, 1, .u 8, .lgl, .int 0, .any, false⟩,
  ⟨0x3104, 0x0100, 8, 0x09, 1, .u 8, .lgl, .int 0, .any, false⟩,
  ⟨0x3104, 0x0100, 8, 0x0A, 1, .u 4, .lgl, .int 0, .any, false⟩,
  ⟨0x3105, 0x0100, 8, 0x01, 1, .u 16, .lgl, .int 0, .any, false⟩,
  ⟨0x3105, 0x0100, 8, 0x02, 1, .u 16, .lgl, .int 0, .any, false⟩,
  ⟨0x3105, 0x0100, 8, 0x03, 4, .u 16, .lgl, .int 0, .any, false⟩,
  ⟨0x3105, 0x0100, 8, 0x07, 1, .u 16, .lgl, .int 0, .any, false⟩,
  ⟨0x3105, 0x0100, 8, 0x08, 1, .u 16, .lgl, .int 0, .any, false⟩,
  ⟨0x3110, 0x0100, 8, 0x01, 1, .u 4, .lgl, .int 0, .any, false⟩,
  ⟨0x3110, 0x0100, 8, 0x02, 1, .u 4, .lgl, .int 0, .any, false⟩,
  ⟨0x3110, 0x0100, 8, 0x03, 1, .i 8, .lgl, .int 0, .any, false⟩,
  ⟨0x3110, 0x0100, 8, 0x04, 1, .u 2, .lgl, .int 0, .bits 0x7fff, false⟩,
  ⟨0x3110, 0x0100, 8, 0x05, 3, .i 4, .ro, .int 0, .any, true⟩,
  ⟨0x3110, 0x0100, 8, 0x08, 3, .i 4, .ro, .int 0, .any, true⟩,
  ⟨0x3110, 0x0100, 8, 0x0B, 1, .i 4, .ro, .int 0, .any, true⟩,
  ⟨0x3110, 0x0100, 8, 0x0C, 1, .i 4, .ro, .int 0, .any, true⟩,
  ⟨0x3110, 0x0100, 8, 0x0D, 1, .i 2, .ro, .int 0, .ints [(-10000, 10000)], true⟩,
  ⟨0x3110, 0x0100, 8, 0x0E, 1, .u 4, .ro, .int 0, .any, true⟩,
  ⟨0x3120, 0x0100, 8, 0x01, 1, .u 4, .lgl, .int 0, .any, false⟩,
  ⟨0x3120, 0x0100, 8, 0x02, 14, .u 4, .lgl, .int 0, .any, false⟩,
  ⟨0x3120, 0x0100, 8, 0x10, 1, .u 4, .lgl, .int 0, .any, false⟩,
  ⟨0x3120, 0x0100, 8, 0x11, 1, .u 4, .lgl, .int 0, .any, false⟩,
  ⟨0x3120, 0x0100, 8, 0x12, 1, .u 8, .lgl, .int 0, .any, false⟩,
  ⟨0x3130, 0x0100, 8, 0x01, 1, .bool, .ro, .int 0, .any, true⟩,
  ⟨0x3130, 0x0100, 8, 0x02, 1, .bool, .ro, .int 0, .any, true⟩,
  ⟨0x3130, 0x0100, 8, 0x03, 1, .bool, .ro, .int 0, .any, true⟩,
  ⟨0x3130, 0x0100, 8, 0x04, 1, .u 8, .ro, .int 0, .any, true⟩,
  ⟨0x3180, 1, 1, 0x01, 1, .u 8, .lgl, .int 0, .any, false⟩,
  ⟨0x3180, 1, 1, 0x02, 1, .u 8, .lgl, .int 0, .any, false⟩,
  ⟨0x3180, 1, 1, 0x03, 1, .u 8, .lgl, .int 0, .any, false⟩,
  ⟨0x3180, 1, 1, 0x04, 4, .u 8, .lgl, .int 0, .any, false⟩,
  ⟨0x3181, 1, 1, 0x01, 6, .u 16, .lgl, .int 0, .any, false⟩,
  ⟨0x3182, 1, 1, 0x01, 1, .bool, .ro, .int 0, .any, true⟩]

/-- Rows of the object tables, indices 0x3000 to 0x3FFF, part 2. -/
def rows3_2 : List Row := [
  ⟨0x3182, 1, 1, 0x02, 1, .u 4, .ro, .int 0, .any, true⟩,
  ⟨0x3182, 1, 1, 0x03, 1, .u 2, .ro, .int 0, .any, true⟩,
  ⟨0x3182, 1, 1, 0x04, 1, .bool, .ro, .int 0, .any, true⟩,
  ⟨0x3183, 1, 1, 0x01, 1, .u 8, .lgl, .int 0, .any, false⟩,
  ⟨0x3183, 1, 1, 0x02, 1, .u 1, .ro, .int 0, .ints [(0, 31)], true⟩,
  ⟨0x3183, 1, 1, 0x03, 1, .u 2, .ro, .int 0, .any, true⟩,
  ⟨0x3183, 1, 1, 0x04, 1, .u 4, .lgl, .int 0, .any, false⟩,
  ⟨0x3183, 1, 1, 0x05, 1, .u 4, .lgl, .int 0, .any, false⟩,
  ⟨0x3183, 1, 1, 0x06, 1, .u 1, .ro, .int 0, .ints [(0, 32)], true⟩,
  ⟨0x3183, 1, 1, 0x07, 1, .u 4, .lgl, .int 0, .any, false⟩,
  ⟨0x3183, 1, 1, 0x08, 1, .u 8, .lgl, .int 0, .any, false⟩,
  ⟨0x3900, 1, 68, 0x01, 1, .i 4, .lgl, .int 0, .ints [(-419430, 419430)], false⟩,
  ⟨0x3900, 1, 68, 0x02, 1, .u 4, .lgl, .int 1073741824, .ints [(536870912, 2147483648)], false⟩,
  ⟨0x3900, 1, 68, 0x03, 1, .i 2, .lgl, .int 0, .ints [(-8192, 8192)], false⟩,
  ⟨0x3900, 1, 68, 0x04, 1, .u 4, .lgl, .int 0, .any, false⟩,
  ⟨0x3900, 1, 68, 0x05, 8, .i 4, .lgl, .int 0, .ints [(-41943, 41943)], false⟩,
  ⟨0x3900, 1, 68, 0x0D, 8, .i 4, .lgl, .int 0, .ints [(-5368709, 5368709)], false⟩,
  ⟨0x3900, 1, 68, 0x15, 8, .i 2, .lgl, .int 0, .ints [(-512, 512)], false⟩,
  ⟨0x3980, 1, 8, 0x01, 1, .u 4, .lgl, .int 230000, .any, false⟩,
  ⟨0x3980, 1, 8, 0x02, 1, .u 4, .lgl, .int 0, .any, false⟩,
  ⟨0x3980, 1, 8, 0x03, 1, .u 4, .lgl, .int 0, .any, false⟩,
  ⟨0x3980, 1, 8, 0x04, 1, .u 4, .lgl, .int 0, .any, false⟩,
  ⟨0x3988, 1, 1, 0x01, 1, .u 1, .lgl, .int 50, .ints [(50, 50), (60, 60)], false⟩,
  ⟨0x3988, 1, 1, 0x02, 1, .u 4, .lgl, .int 230000, .any, false⟩,
  ⟨0x3989, 1, 1, 0x01, 7, .i 2, .lgl, .int 0, .any, false⟩,
  ⟨0x39F0, 1, 1, 0x01, 1, .u 4, .lgl, .int 0, .any, false⟩,
  ⟨0x39F0, 1, 1, 0x02, 1, .u 8, .lgl, .int 0, .any, false⟩,
  ⟨0x39F0, 1, 1, 0x03, 1, .u 4, .lgl, .int 0, .any, false⟩]

/-- Rows of the object tables, indices 0x4000 to 0x4FFF, part 0. -/
def rows4_0 : List Row := [
  ⟨0x4000, 1, 1, 0x01, 1, .u 4, .lgl, .int 0, .any, false⟩,
  ⟨0x4000, 1, 1, 0x02, 1, .str 16, .lgl, .bytes [], .any, false⟩,
  ⟨0x4000, 1, 1, 0x03, 1, .u 4, .lgl, .int 0, .any, false⟩,
  ⟨0x4000, 1, 1, 0x04, 1, .u 8, .lgl, .int 0, .any, false⟩,
  ⟨0x4000, 1, 1, 0x05, 1, .i 2, .lgl, .int 0, .any, false⟩,
  ⟨0x4000, 1, 1, 0x06, 1, .u 1, .lgl, .int 1, .ints [(1, 16)], false⟩,
  ⟨0x4000, 1, 1, 0x07, 1, .u 1, .lgl, .int 0, .ints [(0, 3)], false⟩,
  ⟨0x4000, 1, 1, 0x08, 1, .u 1, .lgl, .int 0, .ints [(0, 31)], false⟩,
  ⟨0x4000, 1, 1, 0x09, 1, .u 1, .lgl, .int 0, .ints [(0, 2)], false⟩,
  ⟨0x4000, 1, 1, 0x0A, 1, .u 4, .ro, .int 0, .any, true⟩,
  ⟨0x4000, 1, 1, 0x0B, 1, .u 1, .ro, .int 0, .ints [(0, 16)], true⟩,
  ⟨0x4010, 1, 1, 0x01, 1, .u 4, .rws, .int 0, .any, false⟩,
  ⟨0x4010, 1, 1, 0x02, 1, .str 16, .rws, .bytes [], .any, false⟩,
  ⟨0x4010, 1, 1, 0x03, 1, .i 2, .rws, .int 0, .ints [(-720, 840)], false⟩,
  ⟨0x4010, 1, 1, 0x04, 1, .u 1, .rws, .int 0, .ints [(0, 2)], false⟩,
  ⟨0x4010, 1, 1, 0x05, 1, .u 8, .rws, .int 0, .any, false⟩,
  ⟨0x4010, 1, 1, 0x06, 1, .u 1, .rws, .int 0, .ints [(0, 0), (1, 1)], false⟩,
  ⟨0x4010, 1, 1, 0x07, 1, .bool, .rws, .int 0, .any, false⟩,
  ⟨0x4010, 1, 1, 0x08, 1, .u 1, .ro, .int 0, .ints [(0, 3)], false⟩,
  ⟨0x4010, 1, 1, 0x09, 1, .u 4, .ro, .int 0, .any, false⟩,
  ⟨0x4020, 1, 4, 0x01, 1, .u 1, .rws, .int 0, .ints [(0, 12)], false⟩,
  ⟨0x4020, 1, 4, 0x02, 1, .u 1, .rws, .int 1, .ints [(1, 31)], false⟩,
  ⟨0x4020, 1, 4, 0x03, 1, .u 1, .rws, .int 0, .ints [(0, 15)], false⟩,
  ⟨0x4030, 1, 16, 0x01, 7, .u 1, .rws, .int 0, .ints [(0, 31)], false⟩,
  ⟨0x4040, 1, 32, 0x01, 1, .u 1, .rws, .int 0, .ints [(0, 24)], false⟩,
  ⟨0x4040, 1, 32, 0x02, 24, .u 4, .rws, .int 0, .bits 0xff01ffff, false⟩,
  ⟨0x4060, 1, 1, 0x01, 1, .u 1, .rws, .int 0, .ints [(0, 128)], false⟩,
  ⟨0x4061, 1, 1, 0x01, 128, .u 4, .rws, .int 0, .bits 0xffffff9f, false⟩,
  ⟨0x4120, 1, 4, 0x01, 1, .u 1, .lgl, .int 0, .ints [(0, 12)], false⟩,
  ⟨0x4120, 1, 4, 0x02, 1, .u 1, .lgl, .int 1, .ints [(1, 31)], false⟩,
  ⟨0x4120, 1, 4, 0x03, 1, .u 1, .lgl, .int 0, .ints [(0, 15)], false⟩,
  ⟨0x4130, 1, 16, 0x01, 7, .u 1, .lgl, .int 0, .ints [(0, 31)], false⟩,
  ⟨0x4140, 1, 32, 0x01, 1, .u 1, .lgl, .int 0, .ints [(0, 24)], false⟩,
  ⟨0x4140, 1, 32, 0x02, 24, .u 4, .lgl, .int 0, .bits 0xff01ffff, false⟩,
  ⟨0x4160, 1, 1, 0x01, 1, .u 1, .lgl, .int 0, .ints [(0, 128)], false⟩,
  ⟨0x4161, 1, 1, 0x01, 128, .u 4, .lgl, .int 0, .bits 0xffffff9f, false⟩,
  ⟨0x4200, 1, 1, 0x01, 1, .u 1, .rws, .int 15, .ints [(5, 5), (10, 10), (15, 15), (30, 30), (60, 60)], false⟩,
  ⟨0x4200, 1, 1, 0x02, 1, .u 1, .rws, .int 0, .ints [(0, 0), (1, 1)], false⟩,
  ⟨0x4200, 1, 1, 0x03, 1, .u 1, .rws, .int 1, .ints [(0, 15)], false⟩,
  ⟨0x4200, 1, 1, 0x04, 1, .u 1, .rws, .int 0, .ints [(0, 0), (1, 1)], false⟩]

/-- Rows of the object tables, indices 0x4000 to 0x4FFF, part 1. -/
def rows4_1 : List Row := [
  ⟨0x4200, 1, 1, 0x05, 1, .u 8, .ro, .int 0, .any, true⟩,
  ⟨0x4200, 1, 1, 0x06, 1, .u 1, .ro, .int 0, .ints [(0, 15)], true⟩,
  ⟨0x4200, 1, 1, 0x07, 1, .u 1, .ro, .int 0, .ints [(0, 2)], true⟩,
  ⟨0x4210, 1, 9, 0x01, 1, .u 4, .lgl, .int 0, .any, false⟩,
  ⟨0x4210, 1, 9, 0x02, 1, .u 4, .lgl, .int 0, .any, false⟩,
  ⟨0x4210, 1, 9, 0x03, 1, .u 4, .lgl, .int 0, .any, false⟩,
  ⟨0x4210, 1, 9, 0x04, 1, .u 1, .lgl, .int 0, .bits 0x3f, false⟩,
  ⟨0x4210, 1, 9, 0x05, 1, .u 4, .lgl, .int 0, .any, false⟩,
  ⟨0x4210, 1, 9, 0x06, 1, .u 4, .lgl, .int 0, .any, false⟩,
  ⟨0x4210, 1, 9, 0x07, 1, .u 4, .lgl, .int 0, .any, false⟩,
  ⟨0x4210, 1, 9, 0x08, 1, .u 4, .lgl, .int 0, .any, false⟩,
  ⟨0x4300, 1, 1, 0x01, 1, .u 1, .rws, .int 3, .ints [(0, 3)], false⟩,
  ⟨0x4300, 1, 1, 0x02, 1, .u 1, .rws, .int 1, .ints [(1, 28)], false⟩,
  ⟨0x4300, 1, 1, 0x03, 1, .u 4, .rws, .int 0, .ints [(0, 86399)], false⟩,
  ⟨0x4300, 1, 1, 0x04, 1, .u 1, .rws, .int 15, .ints [(1, 1), (2, 2), (3, 3), (4, 4), (5, 5), (6, 6), (10, 10), (12, 12), (15, 15), (20, 20), (30, 30), (60, 60)], false⟩,
  ⟨0x4300, 1, 1, 0x05, 1, .bool, .rws, .int 1, .any, false⟩,
  ⟨0x4301, 1, 1, 0x01, 1, .u 4, .lgl, .int 0, .any, false⟩,
  ⟨0x4301, 1, 1, 0x02, 1, .u 4, .lgl, .int 0, .any, false⟩,
  ⟨0x4301, 1, 1, 0x03, 1, .u 4, .ro, .int 0, .any, true⟩,
  ⟨0x4301, 1, 1, 0x04, 1, .u 1, .lgl, .int 0, .ints [(0, 24)], false⟩,
  ⟨0x4301, 1, 1, 0x05, 1, .u 1, .cmd, .int 0, .ints [(1, 1)], false⟩,
  ⟨0x4310, 1, 9, 0x01, 24, .domain, .ro, .bytes [], .any, false⟩,
  ⟨0x4400, 1, 1, 0x01, 1, .u 4, .lgl, .int 0, .ints [(0, 38400)], false⟩,
  ⟨0x4400, 1, 1, 0x02, 1, .u 4, .lgl, .int 0, .any, false⟩,
  ⟨0x4500, 1, 400, 0x01, 1, .domain, .ro, .bytes [], .any, false⟩,
  ⟨0x4700, 1, 1, 0x01, 1, .u 8, .cmd, .int 0, .ints [(1577836800000000, 4102444800000000)], false⟩,
  ⟨0x4700, 1, 1, 0x02, 1, .u 1, .ro, .int 0, .bits 0x7, true⟩,
  ⟨0x4700, 1, 1, 0x03, 1, .i 4, .ro, .int 0, .any, true⟩,
  ⟨0x4700, 1, 1, 0x04, 1, .u 8, .lgl, .int 0, .any, false⟩,
  ⟨0x4700, 1, 1, 0x05, 1, .u 8, .lgl, .int 0, .any, false⟩,
  ⟨0x4700, 1, 1, 0x06, 1, .u 4, .lgl, .int 0, .any, false⟩,
  ⟨0x4700, 1, 1, 0x07, 1, .bool, .rw, .int 1, .any, false⟩,
  ⟨0x4700, 1, 1, 0x08, 1, .u 4, .lgl, .int 0, .any, false⟩,
  ⟨0x4700, 1, 1, 0x09, 1, .u 4, .lgl, .int 0, .any, false⟩,
  ⟨0x4700, 1, 1, 0x0A, 1, .u 4, .lgl, .int 0, .any, false⟩,
  ⟨0x4800, 1, 9, 0x01, 16, .u 8, .lgl, .int 0, .any, false⟩,
  ⟨0x4800, 1, 9, 0x11, 16, .u 8, .lgl, .int 0, .any, false⟩,
  ⟨0x4810, 1, 9, 0x01, 16, .u 16, .lgl, .int 0, .any, false⟩,
  ⟨0x4810, 1, 9, 0x11, 16, .u 16, .lgl, .int 0, .any, false⟩]

/-- Rows of the object tables, indices 0x5000 to 0x5FFF, part 0. -/
def rows5_0 : List Row := [
  ⟨0x5000, 1, 1, 0x01, 1, .u 4, .ro, .int 0, .ints [(0, 250000)], false⟩,
  ⟨0x5000, 1, 1, 0x02, 1, .u 4, .ro, .int 250000, .ints [(0, 250000)], false⟩,
  ⟨0x5000, 1, 1, 0x03, 1, .u 4, .lgl, .int 0, .any, false⟩,
  ⟨0x5000, 1, 1, 0x04, 1, .u 4, .rw, .int 0, .any, false⟩,
  ⟨0x5000, 1, 1, 0x05, 1, .u 4, .ro, .int 0, .ints [(0, 8192)], false⟩,
  ⟨0x5000, 1, 1, 0x06, 1, .bool, .rw, .int 0, .any, false⟩,
  ⟨0x5010, 1, 1, 0x01, 1, .u 8, .rw, .int 0, .any, true⟩,
  ⟨0x5010, 1, 1, 0x02, 1, .octets 64, .ro, .bytes (List.replicate 64 0), .any, false⟩,
  ⟨0x5010, 1, 1, 0x03, 1, .u 4, .ro, .int 4294967295, .ints [(0, 249999)], true⟩,
  ⟨0x5010, 1, 1, 0x04, 1, .u 4, .ro, .int 0, .bits 0xffffffff, false⟩,
  ⟨0x5010, 1, 1, 0x05, 1, .i 8, .ro, .int 0, .any, true⟩,
  ⟨0x5011, 1, 1, 0x01, 1, .octets 64, .cmd, .bytes (List.replicate 64 0), .any, false⟩,
  ⟨0x5020, 1, 1, 0x01, 1, .u 8, .rw, .int 0, .any, true⟩,
  ⟨0x5020, 1, 1, 0x02, 1, .str 20, .cmd, .bytes [], .any, false⟩,
  ⟨0x5020, 1, 1, 0x03, 1, .u 1, .ro, .int 0, .ints [(0, 13)], false⟩,
  ⟨0x5020, 1, 1, 0x04, 1, .u 8, .ro, .int 0, .any, false⟩,
  ⟨0x5020, 1, 1, 0x05, 1, .i 8, .ro, .int 0, .any, false⟩,
  ⟨0x5020, 1, 1, 0x06, 1, .u 1, .ro, .int 0, .any, false⟩,
  ⟨0x5020, 1, 1, 0x07, 1, .u 8, .ro, .int 0, .any, false⟩,
  ⟨0x5020, 1, 1, 0x08, 1, .u 4, .lgl, .int 0, .any, false⟩,
  ⟨0x5020, 1, 1, 0x09, 1, .u 4, .lgl, .int 0, .any, false⟩,
  ⟨0x5020, 1, 1, 0x0A, 1, .bool, .ro, .int 0, .any, true⟩,
  ⟨0x5021, 1, 1, 0x01, 1, .octets 98, .cmd, .bytes (List.replicate 98 0), .any, false⟩,
  ⟨0x5021, 1, 1, 0x02, 1, .u 8, .ro, .int 0, .any, false⟩,
  ⟨0x5030, 1, 1, 0x01, 1, .domain, .ro, .bytes [], .any, false⟩,
  ⟨0x5030, 1, 1, 0x02, 1, .u 4, .ro, .int 0, .any, true⟩,
  ⟨0x5100, 1, 1, 0x01, 1, .i 8, .rws, .int 1000000, .ints [(0, 9223372036854775807)], false⟩,
  ⟨0x5100, 1, 1, 0x02, 1, .i 8, .rws, .int 1000000, .ints [(0, 9223372036854775807)], false⟩,
  ⟨0x5100, 1, 1, 0x03, 1, .i 8, .rws, .int 2000000, .ints [(0, 9223372036854775807)], false⟩,
  ⟨0x5100, 1, 1, 0x04, 1, .u 1, .rws, .int 1, .ints [(1, 4)], false⟩,
  ⟨0x5100, 1, 1, 0x05, 1, .u 1, .rws, .int 0, .ints [(0, 2)], false⟩,
  ⟨0x5100, 1, 1, 0x06, 1, .u 2, .rws, .int 2000, .ints [(100, 10000)], false⟩,
  ⟨0x5100, 1, 1, 0x07, 1, .bool, .rws, .int 1, .any, false⟩,
  ⟨0x5100, 1, 1, 0x08, 1, .u 4, .rws, .int 10000, .ints [(1, 10000000)], false⟩,
  ⟨0x5100, 1, 1, 0x09, 1, .u 1, .rws, .int 0, .ints [(0, 0), (1, 1)], false⟩,
  ⟨0x5100, 1, 1, 0x0A, 1, .u 1, .rws, .int 24, .ints [(0, 255)], false⟩,
  ⟨0x5100, 1, 1, 0x0B, 1, .bool, .rws, .int 0, .any, false⟩,
  ⟨0x5100, 1, 1, 0x0C, 1, .u 4, .rws, .int 0, .any, false⟩,
  ⟨0x5100, 1, 1, 0x0D, 1, .bool, .rws, .int 1, .any, false⟩,
  ⟨0x5100, 1, 1, 0x0E, 1, .u 1, .rws, .int 40, .ints [(0, 44)], false⟩]

/-- Rows of the object tables, indices 0x5000 to 0x5FFF, part 1. -/
def rows5_1 : List Row := [
  ⟨0x5100, 1, 1, 0x0F, 1, .u 1, .rws, .int 44, .ints [(0, 44)], false⟩,
  ⟨0x5100, 1, 1, 0x10, 1, .u 1, .rws, .int 255, .ints [(0, 3), (255, 255)], false⟩,
  ⟨0x5100, 1, 1, 0x11, 1, .u 4, .rws, .int 9600, .ints [(1200, 115200)], false⟩,
  ⟨0x5100, 1, 1, 0x12, 1, .u 1, .rws, .int 255, .ints [(0, 7), (255, 255)], false⟩,
  ⟨0x5110, 1, 8, 0x01, 16, .u 4, .rws, .int 0, .any, false⟩,
  ⟨0x5110, 1, 8, 0x11, 16, .u 4, .rws, .int 0, .any, false⟩,
  ⟨0x5110, 1, 8, 0x21, 1, .u 4, .rws, .int 0, .any, false⟩,
  ⟨0x5200, 1, 8, 0x01, 1, .u 4, .rws, .int 0, .ints [(0, 86399)], false⟩,
  ⟨0x5200, 1, 8, 0x02, 1, .u 4, .rws, .int 0, .ints [(0, 86399)], false⟩,
  ⟨0x5200, 1, 8, 0x03, 1, .u 1, .rws, .int 0, .bits 0xff, false⟩,
  ⟨0x5200, 1, 8, 0x04, 1, .u 1, .rws, .int 0, .bits 0xff, false⟩,
  ⟨0x5200, 1, 8, 0x05, 1, .bool, .rws, .int 0, .any, false⟩,
  ⟨0x5210, 1, 8, 0x01, 1, .u 8, .rws, .int 0, .any, false⟩,
  ⟨0x5300, 1, 8, 0x01, 1, .u 8, .lgl, .int 0, .any, false⟩,
  ⟨0x5300, 1, 8, 0x02, 1, .u 4, .lgl, .int 4294967295, .ints [(0, 249999)], false⟩,
  ⟨0x5300, 1, 8, 0x03, 1, .i 8, .lgl, .int 0, .any, false⟩,
  ⟨0x5300, 1, 8, 0x04, 1, .i 8, .lgl, .int 0, .any, false⟩,
  ⟨0x5300, 1, 8, 0x05, 1, .u 8, .lgl, .int 0, .any, false⟩,
  ⟨0x5300, 1, 8, 0x06, 1, .u 1, .lgl, .int 0, .ints [(0, 4)], false⟩,
  ⟨0x5300, 1, 8, 0x07, 1, .u 1, .lgl, .int 0, .ints [(0, 7)], false⟩,
  ⟨0x5300, 1, 8, 0x08, 1, .u 1, .lgl, .int 0, .ints [(0, 2)], false⟩,
  ⟨0x5300, 1, 8, 0x09, 1, .u 8, .ro, .int 0, .any, true⟩,
  ⟨0x5300, 1, 8, 0x0A, 1, .u 1, .cmd, .int 0, .ints [(1, 1), (2, 2)], false⟩,
  ⟨0x5300, 1, 8, 0x0B, 1, .u 8, .cmd, .int 0, .any, false⟩]

/-- Rows of the object tables, indices 0x6000 to 0x6FFF, part 0. -/
def rows6_0 : List Row := [
  ⟨0x6000, 1, 1, 0x01, 1, .bool, .rws, .int 1, .any, false⟩,
  ⟨0x6000, 1, 1, 0x02, 1, .u 2, .rws, .int 100, .ints [(10, 1000)], false⟩,
  ⟨0x6000, 1, 1, 0x03, 1, .bool, .rws, .int 0, .any, false⟩,
  ⟨0x6000, 1, 1, 0x04, 1, .u 2, .rws, .int 100, .ints [(10, 1000)], false⟩,
  ⟨0x6000, 1, 1, 0x05, 1, .u 1, .rws, .int 0, .ints [(0, 3)], false⟩,
  ⟨0x6000, 1, 1, 0x06, 1, .u 1, .rws, .int 255, .bits 0xff, false⟩,
  ⟨0x6000, 1, 1, 0x07, 1, .u 2, .rws, .int 100, .ints [(10, 1000)], false⟩,
  ⟨0x6000, 1, 1, 0x08, 1, .u 1, .rws, .int 0, .ints [(0, 3)], false⟩,
  ⟨0x6000, 1, 1, 0x09, 1, .u 1, .rws, .int 255, .bits 0xff, false⟩,
  ⟨0x6000, 1, 1, 0x0A, 1, .u 2, .rws, .int 100, .ints [(10, 1000)], false⟩,
  ⟨0x6000, 1, 1, 0x0B, 1, .u 1, .rws, .int 1, .ints [(0, 0), (1, 1)], false⟩,
  ⟨0x6000, 1, 1, 0x0C, 1, .bool, .rws, .int 1, .any, false⟩,
  ⟨0x6010, 1, 1, 0x01, 1, .u 4, .rws, .int 70000, .ints [(20000, 70000)], false⟩,
  ⟨0x6010, 1, 1, 0x02, 1, .u 1, .rws, .int 50, .ints [(30, 50)], false⟩,
  ⟨0x6010, 1, 1, 0x03, 1, .u 1, .rws, .int 115, .ints [(105, 130)], false⟩,
  ⟨0x6010, 1, 1, 0x04, 1, .u 4, .rws, .int 47500, .ints [(40000, 70000)], false⟩,
  ⟨0x6010, 1, 1, 0x05, 1, .u 4, .rws, .int 51500, .ints [(40000, 70000)], false⟩,
  ⟨0x6010, 1, 1, 0x06, 1, .u 2, .rws, .int 60, .ints [(10, 900)], false⟩,
  ⟨0x6100, 1, 8, 0x01, 1, .u 2, .rws, .int 500, .ints [(50, 1000)], false⟩,
  ⟨0x6100, 1, 8, 0x02, 1, .u 2, .rws, .int 20, .ints [(5, 500)], false⟩,
  ⟨0x6100, 1, 8, 0x03, 1, .bool, .rws, .int 1, .any, false⟩,
  ⟨0x6100, 1, 8, 0x04, 1, .u 2, .rws, .int 30, .ints [(10, 30)], false⟩,
  ⟨0x6100, 1, 8, 0x05, 1, .bool, .rws, .int 0, .any, false⟩,
  ⟨0x6100, 1, 8, 0x06, 1, .u 2, .rws, .int 500, .ints [(100, 1000)], false⟩,
  ⟨0x6100, 1, 8, 0x07, 1, .u 2, .rws, .int 100, .ints [(50, 500)], false⟩,
  ⟨0x6100, 1, 8, 0x08, 1, .u 1, .rws, .int 8, .ints [(1, 8)], false⟩,
  ⟨0x6180, 1, 16, 0x01, 1, .u 1, .rws, .int 255, .ints [(0, 8), (255, 255)], false⟩,
  ⟨0x6180, 1, 16, 0x02, 1, .i 2, .rws, .int 700, .ints [(-400, 1500)], false⟩,
  ⟨0x6180, 1, 16, 0x03, 1, .i 2, .rws, .int 900, .ints [(-400, 1500)], false⟩,
  ⟨0x6200, 1, 1, 0x01, 1, .u 4, .ro, .int 0, .any, false⟩,
  ⟨0x6200, 1, 1, 0x02, 1, .u 4, .cmd, .int 0, .any, false⟩,
  ⟨0x6200, 1, 1, 0x03, 1, .u 1, .ro, .int 0, .ints [(0, 2)], false⟩,
  ⟨0x6200, 1, 1, 0x04, 1, .u 4, .ro, .int 0, .any, false⟩,
  ⟨0x6200, 1, 1, 0x05, 1, .u 2, .ro, .int 0, .ints [(0, 60)], true⟩,
  ⟨0x6200, 1, 1, 0x06, 1, .u 8, .ro, .int 0, .any, false⟩,
  ⟨0x6300, 1, 1, 0x01, 1, .u 2, .ro, .int 0, .bits 0x1ff, true⟩,
  ⟨0x6300, 1, 1, 0x02, 1, .u 1, .ro, .int 0, .bits 0xf, true⟩,
  ⟨0x6300, 1, 1, 0x03, 1, .bool, .ro, .int 0, .any, true⟩,
  ⟨0x6300, 1, 1, 0x04, 1, .u 1, .ro, .int 0, .bits 0x3, true⟩,
  ⟨0x6300, 1, 1, 0x05, 1, .u 1, .ro, .int 0, .bits 0x3, true⟩]

/-- Rows of the object tables, indices 0x6000 to 0x6FFF, part 1. -/
def rows6_1 : List Row := [
  ⟨0x6300, 1, 1, 0x06, 1, .u 1, .ro, .int 0, .ints [(0, 4)], true⟩,
  ⟨0x6300, 1, 1, 0x07, 1, .u 4, .ro, .int 0, .any, true⟩,
  ⟨0x6300, 1, 1, 0x08, 1, .u 8, .ro, .int 0, .any, true⟩,
  ⟨0x6310, 1, 8, 0x01, 1, .u 4, .ro, .int 1, .bits 0x1fffff, true⟩,
  ⟨0x6310, 1, 8, 0x02, 1, .bool, .ro, .int 0, .any, true⟩,
  ⟨0x6310, 1, 8, 0x03, 1, .u 2, .ro, .int 0, .any, true⟩,
  ⟨0x6310, 1, 8, 0x04, 1, .u 2, .ro, .int 0, .any, true⟩,
  ⟨0x6310, 1, 8, 0x05, 1, .i 4, .ro, .int 0, .any, true⟩,
  ⟨0x6310, 1, 8, 0x06, 1, .u 4, .ro, .int 0, .any, true⟩,
  ⟨0x6310, 1, 8, 0x07, 1, .u 4, .ro, .int 4294967295, .any, true⟩,
  ⟨0x6310, 1, 8, 0x08, 1, .u 1, .ro, .int 0, .ints [(0, 2)], true⟩,
  ⟨0x6310, 1, 8, 0x09, 1, .u 1, .ro, .int 0, .bits 0x3f, true⟩,
  ⟨0x6310, 1, 8, 0x0A, 1, .u 2, .ro, .int 65535, .any, true⟩,
  ⟨0x6320, 1, 16, 0x01, 1, .i 2, .ro, .int 0, .any, true⟩,
  ⟨0x6320, 1, 16, 0x02, 1, .u 1, .ro, .int 3, .ints [(0, 4)], true⟩,
  ⟨0x6400, 1, 8, 0x01, 1, .u 1, .cmd, .int 0, .ints [(1, 1)], false⟩,
  ⟨0x6500, 1, 1, 0x01, 1, .u 4, .ro, .int 0, .any, false⟩,
  ⟨0x6500, 1, 1, 0x02, 1, .u 4, .ro, .int 0, .any, false⟩,
  ⟨0x6500, 1, 1, 0x03, 1, .u 4, .ro, .int 0, .any, false⟩,
  ⟨0x6500, 1, 1, 0x04, 1, .u 4, .ro, .int 0, .any, false⟩,
  ⟨0x6500, 1, 1, 0x05, 1, .u 4, .ro, .int 0, .any, false⟩,
  ⟨0x6500, 1, 1, 0x06, 1, .u 4, .ro, .int 0, .any, false⟩,
  ⟨0x6500, 1, 1, 0x07, 1, .u 4, .ro, .int 0, .any, false⟩,
  ⟨0x6500, 1, 1, 0x08, 1, .u 4, .ro, .int 0, .any, false⟩,
  ⟨0x6500, 1, 1, 0x09, 1, .u 4, .ro, .int 0, .any, false⟩,
  ⟨0x6500, 1, 1, 0x0A, 1, .u 4, .ro, .int 0, .any, false⟩,
  ⟨0x6500, 1, 1, 0x0B, 1, .u 4, .ro, .int 0, .any, false⟩]

/-- Rows of the object tables, indices 0x7000 to 0x7FFF, part 0. -/
def rows7_0 : List Row := [
  ⟨0x7000, 1, 1, 0x01, 1, .bool, .rws, .int 1, .any, false⟩,
  ⟨0x7000, 1, 1, 0x02, 1, .bool, .rws, .int 1, .any, false⟩,
  ⟨0x7000, 1, 1, 0x03, 1, .u 2, .rws, .int 0, .ints [(0, 4095)], false⟩,
  ⟨0x7000, 1, 1, 0x04, 1, .u 1, .rws, .int 160, .ints [(100, 160)], false⟩,
  ⟨0x7000, 1, 1, 0x05, 1, .u 2, .rws, .int 300, .ints [(30, 3600)], false⟩,
  ⟨0x7000, 1, 1, 0x06, 1, .u 1, .rws, .int 4, .ints [(1, 16)], false⟩,
  ⟨0x7000, 1, 1, 0x07, 1, .bool, .rws, .int 0, .any, false⟩,
  ⟨0x7000, 1, 1, 0x08, 1, .u 1, .rws, .int 16, .ints [(4, 64)], false⟩,
  ⟨0x7000, 1, 1, 0x09, 1, .bool, .rws, .int 1, .any, false⟩,
  ⟨0x7001, 1, 1, 0x01, 6, .u 1, .rws, .int 255, .bits 0xff, false⟩,
  ⟨0x7010, 1, 1, 0x01, 1, .u 1, .ro, .int 0, .ints [(0, 4)], true⟩,
  ⟨0x7010, 1, 1, 0x02, 1, .u 2, .ro, .int 2046, .ints [(0, 1023), (2046, 2046)], true⟩,
  ⟨0x7010, 1, 1, 0x03, 1, .u 2, .ro, .int 0, .ints [(0, 4095)], true⟩,
  ⟨0x7010, 1, 1, 0x04, 1, .octets 8, .ro, .bytes (List.replicate 8 0), .any, true⟩,
  ⟨0x7010, 1, 1, 0x05, 1, .u 1, .ro, .int 0, .any, true⟩,
  ⟨0x7010, 1, 1, 0x06, 1, .u 8, .ro, .int 0, .any, true⟩,
  ⟨0x7010, 1, 1, 0x07, 1, .bool, .ro, .int 0, .any, true⟩,
  ⟨0x7010, 1, 1, 0x08, 1, .u 1, .ro, .int 3, .ints [(0, 3)], true⟩,
  ⟨0x7010, 1, 1, 0x09, 1, .u 2, .ro, .int 0, .ints [(0, 35999)], true⟩,
  ⟨0x7010, 1, 1, 0x0A, 1, .bool, .ro, .int 0, .any, true⟩,
  ⟨0x7010, 1, 1, 0x0B, 1, .u 1, .ro, .int 0, .ints [(0, 255)], true⟩,
  ⟨0x7010, 1, 1, 0x0C, 1, .u 1, .ro, .int 0, .ints [(0, 128)], true⟩,
  ⟨0x7010, 1, 1, 0x0D, 1, .octets 3, .ro, .bytes (List.replicate 3 255), .any, true⟩,
  ⟨0x7010, 1, 1, 0x0E, 1, .u 8, .ro, .int 0, .any, true⟩,
  ⟨0x7020, 1, 1, 0x01, 1, .u 4, .ro, .int 0, .any, false⟩,
  ⟨0x7020, 1, 1, 0x02, 1, .u 4, .ro, .int 0, .any, false⟩,
  ⟨0x7020, 1, 1, 0x03, 1, .u 4, .ro, .int 0, .any, false⟩,
  ⟨0x7020, 1, 1, 0x04, 1, .u 4, .ro, .int 0, .any, false⟩,
  ⟨0x7020, 1, 1, 0x05, 1, .u 4, .ro, .int 0, .any, false⟩,
  ⟨0x7020, 1, 1, 0x06, 1, .u 4, .ro, .int 0, .any, false⟩,
  ⟨0x7020, 1, 1, 0x07, 1, .u 4, .ro, .int 0, .any, false⟩,
  ⟨0x7020, 1, 1, 0x08, 1, .u 4, .ro, .int 0, .any, false⟩,
  ⟨0x7020, 1, 1, 0x09, 1, .u 4, .ro, .int 0, .any, false⟩,
  ⟨0x7020, 1, 1, 0x0A, 1, .u 4, .ro, .int 0, .any, false⟩,
  ⟨0x7020, 1, 1, 0x0B, 1, .u 4, .ro, .int 0, .any, false⟩,
  ⟨0x7020, 1, 1, 0x0C, 1, .u 4, .ro, .int 0, .any, false⟩,
  ⟨0x7020, 1, 1, 0x0D, 1, .u 4, .ro, .int 0, .any, false⟩,
  ⟨0x7030, 1, 1, 0x01, 1, .u 1, .cmd, .int 0, .ints [(1, 1)], false⟩,
  ⟨0x7030, 1, 1, 0x02, 1, .u 1, .cmd, .int 0, .ints [(1, 1)], false⟩,
  ⟨0x7100, 1, 128, 0x01, 1, .bool, .ro, .int 0, .any, true⟩]

/-- Rows of the object tables, indices 0x7000 to 0x7FFF, part 1. -/
def rows7_1 : List Row := [
  ⟨0x7100, 1, 128, 0x02, 1, .octets 8, .ro, .bytes (List.replicate 8 0), .any, true⟩,
  ⟨0x7100, 1, 128, 0x03, 1, .u 2, .ro, .int 2046, .any, true⟩,
  ⟨0x7100, 1, 128, 0x04, 1, .u 1, .ro, .int 0, .ints [(0, 255)], true⟩,
  ⟨0x7100, 1, 128, 0x05, 1, .u 1, .ro, .int 0, .bits 0xff, true⟩,
  ⟨0x7100, 1, 128, 0x06, 1, .octets 8, .ro, .bytes (List.replicate 8 0), .any, true⟩,
  ⟨0x7100, 1, 128, 0x07, 1, .u 1, .ro, .int 0, .ints [(0, 254)], true⟩,
  ⟨0x7100, 1, 128, 0x08, 1, .u 1, .ro, .int 0, .bits 0x7, true⟩,
  ⟨0x7100, 1, 128, 0x09, 1, .u 1, .ro, .int 3, .ints [(0, 7)], true⟩,
  ⟨0x7100, 1, 128, 0x0A, 1, .u 1, .ro, .int 0, .ints [(0, 240)], true⟩,
  ⟨0x7100, 1, 128, 0x0B, 1, .u 1, .ro, .int 0, .any, true⟩,
  ⟨0x7100, 1, 128, 0x0C, 1, .u 8, .ro, .int 0, .any, true⟩]

/-- Rows of the object tables, indices 0x8000 to 0x8FFF, part 0. -/
def rows8_0 : List Row := [
  ⟨0x8000, 1, 1, 0x01, 1, .u 1, .ro, .int 0, .bits 0x1f, false⟩,
  ⟨0x8000, 1, 1, 0x02, 1, .u 1, .ro, .int 0, .ints [(0, 2)], true⟩,
  ⟨0x8000, 1, 1, 0x03, 1, .u 1, .ro, .int 0, .bits 0xf, false⟩,
  ⟨0x8000, 1, 1, 0x04, 1, .u 4, .ro, .int 0, .any, false⟩,
  ⟨0x8000, 1, 1, 0x05, 1, .u 8, .ro, .int 0, .any, false⟩,
  ⟨0x8000, 1, 1, 0x06, 1, .u 8, .ro, .int 0, .any, false⟩,
  ⟨0x8000, 1, 1, 0x07, 1, .u 1, .cmd, .int 0, .ints [(1, 1)], false⟩,
  ⟨0x8010, 1, 1, 0x01, 1, .octetsVar 193, .cmd, .bytes [], .any, false⟩,
  ⟨0x8010, 1, 1, 0x02, 1, .u 2, .cmd, .int 0, .any, false⟩,
  ⟨0x8010, 1, 1, 0x03, 1, .u 1, .cmd, .int 0, .ints [(0, 63)], false⟩,
  ⟨0x8010, 1, 1, 0x04, 1, .u 1, .ro, .int 0, .ints [(0, 3)], true⟩,
  ⟨0x8010, 1, 1, 0x05, 1, .u 1, .ro, .int 255, .ints [(0, 63), (255, 255)], true⟩,
  ⟨0x8010, 1, 1, 0x06, 1, .u 4, .ro, .int 0, .any, true⟩,
  ⟨0x8100, 1, 64, 0x01, 1, .u 1, .ro, .int 0, .ints [(0, 11)], false⟩,
  ⟨0x8100, 1, 64, 0x02, 1, .u 2, .ro, .int 0, .bits 0x3ff, false⟩,
  ⟨0x8100, 1, 64, 0x03, 1, .u 4, .ro, .int 0, .bits 0xffffffff, false⟩,
  ⟨0x8100, 1, 64, 0x04, 1, .octets 8, .ro, .bytes (List.replicate 8 0), .any, false⟩,
  ⟨0x8100, 1, 64, 0x05, 1, .octetsVar 133, .ro, .bytes [], .any, false⟩,
  ⟨0x8100, 1, 64, 0x06, 1, .u 4, .ro, .int 0, .any, false⟩,
  ⟨0x8100, 1, 64, 0x07, 1, .u 4, .ro, .int 0, .any, false⟩,
  ⟨0x8100, 1, 64, 0x08, 1, .u 8, .ro, .int 0, .any, false⟩,
  ⟨0x8200, 1, 1, 0x01, 12, .u 4, .ro, .int 0, .any, false⟩,
  ⟨0x8200, 1, 1, 0x0D, 1, .u 8, .ro, .int 0, .any, false⟩,
  ⟨0x8300, 1, 16, 0x01, 1, .domain, .ro, .bytes [], .any, false⟩,
  ⟨0x8400, 1, 1, 0x01, 1, .bool, .ro, .int 0, .any, false⟩,
  ⟨0x8400, 1, 1, 0x02, 1, .u 1, .ro, .int 0, .any, false⟩,
  ⟨0x8400, 1, 1, 0x03, 1, .u 8, .ro, .int 0, .any, false⟩,
  ⟨0x8400, 1, 1, 0x04, 1, .u 1, .cmd, .int 0, .ints [(1, 1)], false⟩,
  ⟨0x8400, 1, 1, 0x05, 1, .u 4, .ro, .int 0, .bits 0x1fffe, true⟩,
  ⟨0x8400, 1, 1, 0x06, 1, .u 4, .ro, .int 0, .any, false⟩,
  ⟨0x8400, 1, 1, 0x07, 1, .u 1, .ro, .int 0, .any, false⟩,
  ⟨0x8400, 1, 1, 0x08, 1, .u 8, .ro, .int 0, .any, false⟩,
  ⟨0x8400, 1, 1, 0x09, 1, .domain, .ro, .bytes [], .any, false⟩,
  ⟨0x8401, 1, 1, 0x01, 16, .u 4, .ro, .int 0, .any, false⟩,
  ⟨0x8500, 1, 1, 0x01, 1, .u 1, .rws, .int 0, .ints [(0, 0), (1, 1)], false⟩,
  ⟨0x8500, 1, 1, 0x02, 1, .bool, .rws, .int 1, .any, false⟩,
  ⟨0x8500, 1, 1, 0x03, 1, .bool, .rws, .int 0, .any, false⟩,
  ⟨0x8501, 1, 1, 0x01, 16, .u 1, .rws, .int 0, .ints [(0, 3)], false⟩]

/-- Rows of the object tables, indices 0x9000 to 0x9FFF, part 0. -/
def rows9_0 : List Row := [
  ⟨0x9010, 1, 12, 0x01, 1, .u 1, .ro, .int 0, .ints [(0, 0), (1, 1), (255, 255)], false⟩,
  ⟨0x9010, 1, 12, 0x02, 1, .u 1, .ro, .int 0, .ints [(0, 3)], false⟩,
  ⟨0x9010, 1, 12, 0x03, 1, .u 4, .ro, .int 0, .any, false⟩,
  ⟨0x9010, 1, 12, 0x04, 1, .u 4, .ro, .int 0, .any, false⟩,
  ⟨0x9010, 1, 12, 0x05, 1, .u 1, .ro, .int 0, .any, false⟩,
  ⟨0x9010, 1, 12, 0x06, 1, .u 4, .ro, .int 0, .any, false⟩,
  ⟨0x9010, 1, 12, 0x07, 1, .u 4, .ro, .int 0, .any, false⟩,
  ⟨0x9010, 1, 12, 0x08, 1, .octets 32, .ro, .bytes (List.replicate 32 0), .any, false⟩,
  ⟨0x9010, 1, 12, 0x09, 1, .u 4, .ro, .int 0, .any, false⟩,
  ⟨0x9100, 1, 8, 0x01, 1, .octets 8368, .cmd, .bytes (List.replicate 8368 0), .any, false⟩,
  ⟨0x9100, 1, 8, 0x02, 1, .octetsVar 4108, .cmd, .bytes [], .any, false⟩,
  ⟨0x9100, 1, 8, 0x03, 1, .u 1, .ro, .int 0, .ints [(0, 5)], false⟩,
  ⟨0x9100, 1, 8, 0x04, 1, .u 4, .ro, .int 0, .any, false⟩,
  ⟨0x9100, 1, 8, 0x05, 1, .u 1, .ro, .int 255, .ints [(0, 6), (255, 255)], false⟩,
  ⟨0x9100, 1, 8, 0x06, 1, .u 4, .ro, .int 0, .any, false⟩,
  ⟨0x9100, 1, 8, 0x07, 1, .u 4, .ro, .int 0, .any, false⟩,
  ⟨0x9100, 1, 8, 0x08, 1, .u 4, .ro, .int 0, .any, false⟩,
  ⟨0x9200, 1, 1, 0x01, 1, .u 1, .rws, .int 0, .ints [(0, 2)], false⟩,
  ⟨0x9200, 1, 1, 0x02, 1, .u 8, .rws, .int 0, .any, false⟩,
  ⟨0x9200, 1, 1, 0x03, 1, .u 1, .rws, .int 0, .ints [(0, 0), (1, 1)], false⟩,
  ⟨0x9200, 1, 1, 0x04, 1, .u 2, .rws, .int 60, .ints [(10, 3600)], false⟩,
  ⟨0x9200, 1, 1, 0x05, 1, .u 2, .rws, .int 60, .ints [(10, 86400)], false⟩,
  ⟨0x9200, 1, 1, 0x06, 1, .u 2, .rws, .int 2000, .ints [(500, 10000)], false⟩,
  ⟨0x9200, 1, 1, 0x07, 1, .u 1, .rws, .int 0, .ints [(0, 0), (1, 1)], false⟩,
  ⟨0x9200, 1, 1, 0x08, 1, .u 2, .rws, .int 3600, .ints [(60, 86400)], false⟩,
  ⟨0x9200, 1, 1, 0x09, 1, .u 1, .rws, .int 0, .ints [(0, 16)], false⟩,
  ⟨0x9201, 1, 1, 0x01, 16, .u 2, .rws, .int 0, .any, false⟩,
  ⟨0x9202, 1, 1, 0x01, 1, .u 1, .ro, .int 0, .ints [(0, 6)], false⟩,
  ⟨0x9202, 1, 1, 0x02, 1, .u 1, .ro, .int 0, .ints [(0, 16)], false⟩,
  ⟨0x9202, 1, 1, 0x03, 1, .u 1, .ro, .int 255, .ints [(255, 255)], false⟩,
  ⟨0x9202, 1, 1, 0x04, 1, .u 1, .ro, .int 0, .ints [(0, 3)], false⟩,
  ⟨0x9202, 1, 1, 0x05, 1, .u 4, .ro, .int 0, .any, false⟩,
  ⟨0x9202, 1, 1, 0x06, 1, .u 1, .ro, .int 0, .ints [(0, 16)], false⟩,
  ⟨0x9202, 1, 1, 0x07, 1, .u 1, .cmd, .int 0, .ints [(1, 1)], false⟩,
  ⟨0x9202, 1, 1, 0x08, 1, .bool, .ro, .int 0, .any, false⟩,
  ⟨0x9300, 1, 1, 0x01, 1, .u 1, .cmd, .int 0, .ints [(1, 1), (2, 2)], false⟩,
  ⟨0x9400, 1, 7, 0x01, 1, .u 1, .ro, .int 0, .ints [(0, 3)], true⟩,
  ⟨0x9408, 1, 14, 0x01, 1, .u 1, .ro, .int 0, .ints [(0, 3)], true⟩,
  ⟨0x9418, 1, 8, 0x01, 1, .u 1, .ro, .int 0, .ints [(0, 3)], true⟩,
  ⟨0x9400, 1, 7, 0x02, 1, .u 1, .cmd, .int 0, .ints [(1, 1)], false⟩]

/-- Rows of the object tables, indices 0x9000 to 0x9FFF, part 1. -/
def rows9_1 : List Row := [
  ⟨0x9408, 1, 14, 0x02, 1, .u 1, .cmd, .int 0, .ints [(1, 1)], false⟩,
  ⟨0x9418, 1, 8, 0x02, 1, .u 1, .cmd, .int 0, .ints [(1, 1)], false⟩,
  ⟨0x9400, 1, 7, 0x03, 1, .u 1, .cmd, .int 0, .ints [(1, 1)], false⟩,
  ⟨0x9408, 1, 14, 0x03, 1, .u 1, .cmd, .int 0, .ints [(1, 1)], false⟩,
  ⟨0x9418, 1, 8, 0x03, 1, .u 1, .cmd, .int 0, .ints [(1, 1)], false⟩,
  ⟨0x9400, 1, 7, 0x04, 1, .u 8, .ro, .int 0, .any, true⟩,
  ⟨0x9408, 1, 14, 0x04, 1, .u 8, .ro, .int 0, .any, true⟩,
  ⟨0x9418, 1, 8, 0x04, 1, .u 8, .ro, .int 0, .any, true⟩,
  ⟨0x9400, 1, 7, 0x05, 1, .u 4, .ro, .int 0, .any, false⟩,
  ⟨0x9408, 1, 14, 0x05, 1, .u 4, .ro, .int 0, .any, false⟩,
  ⟨0x9418, 1, 8, 0x05, 1, .u 4, .ro, .int 0, .any, false⟩]

/-- Rows of the object tables, indices 0xA000 to 0xAFFF, part 0. -/
def rowsA_0 : List Row := [
  ⟨0xA000, 1, 1, 0x01, 1, .u 1, .rws, .int 6, .ints [(1, 32)], false⟩,
  ⟨0xA000, 1, 1, 0x02, 1, .u 1, .rws, .int 24, .ints [(1, 168)], false⟩,
  ⟨0xA000, 1, 1, 0x03, 1, .bool, .rws, .int 1, .any, false⟩,
  ⟨0xA000, 1, 1, 0x04, 1, .u 1, .rws, .int 255, .ints [(0, 15), (255, 255)], false⟩,
  ⟨0xA000, 1, 1, 0x05, 1, .u 2, .rws, .int 500, .ints [(0, 10000)], false⟩,
  ⟨0xA000, 1, 1, 0x06, 1, .u 1, .rws, .int 10, .ints [(3, 60)], false⟩,
  ⟨0xA001, 1, 1, 0x01, 32, .u 4, .rws, .int 0, .bits 0xffffffff, false⟩,
  ⟨0xA010, 1, 1, 0x01, 1, .u 1, .ro, .int 0, .ints [(0, 5)], true⟩,
  ⟨0xA010, 1, 1, 0x02, 1, .i 2, .ro, .int 0, .any, true⟩,
  ⟨0xA010, 1, 1, 0x03, 1, .u 1, .ro, .int 0, .ints [(0, 7)], true⟩,
  ⟨0xA010, 1, 1, 0x04, 1, .u 1, .ro, .int 0, .ints [(0, 32)], true⟩,
  ⟨0xA010, 1, 1, 0x05, 1, .u 8, .ro, .int 0, .any, true⟩,
  ⟨0xA010, 1, 1, 0x06, 1, .u 8, .ro, .int 0, .any, true⟩,
  ⟨0xA010, 1, 1, 0x07, 1, .u 4, .ro, .int 0, .any, true⟩,
  ⟨0xA010, 1, 1, 0x08, 1, .u 1, .ro, .int 0, .ints [(0, 32)], true⟩,
  ⟨0xA020, 1, 1, 0x01, 1, .u 4, .ro, .int 0, .any, false⟩,
  ⟨0xA020, 1, 1, 0x02, 1, .u 4, .ro, .int 0, .any, false⟩,
  ⟨0xA020, 1, 1, 0x03, 1, .u 4, .ro, .int 0, .any, false⟩,
  ⟨0xA020, 1, 1, 0x04, 1, .u 4, .ro, .int 0, .any, false⟩,
  ⟨0xA020, 1, 1, 0x05, 1, .u 4, .ro, .int 0, .any, false⟩,
  ⟨0xA020, 1, 1, 0x06, 1, .u 4, .ro, .int 0, .any, false⟩,
  ⟨0xA030, 1, 1, 0x01, 1, .u 1, .cmd, .int 0, .ints [(1, 1)], false⟩,
  ⟨0xA030, 1, 1, 0x02, 1, .str 48, .rw, .bytes [], .any, true⟩,
  ⟨0xA040, 1, 1, 0x01, 1, .u 4, .ro, .int 0, .any, false⟩,
  ⟨0xA040, 1, 1, 0x02, 1, .bool, .ro, .int 0, .any, true⟩]

/-- Rows of the object tables, indices 0xB000 to 0xBFFF, part 0. -/
def rowsB_0 : List Row := [
  ⟨0xB000, 1, 1, 0x01, 1, .u 1, .ro, .int 16, .ints [(16, 16)], false⟩,
  ⟨0xB000, 1, 1, 0x02, 1, .u 1, .cmd, .int 0, .ints [(1, 1)], false⟩,
  ⟨0xB010, 1, 16, 0x01, 1, .u 1, .ro, .int 0, .any, false⟩,
  ⟨0xB010, 1, 16, 0x02, 1, .u 1, .ro, .int 0, .ints [(0, 2)], false⟩,
  ⟨0xB010, 1, 16, 0x03, 1, .u 1, .ro, .int 0, .ints [(0, 32)], false⟩,
  ⟨0xB010, 1, 16, 0x04, 1, .u 8, .ro, .int 0, .any, false⟩,
  ⟨0xB010, 1, 16, 0x05, 1, .u 4, .ro, .int 0, .any, false⟩,
  ⟨0xB010, 1, 16, 0x06, 1, .u 4, .ro, .int 0, .any, false⟩,
  ⟨0xB010, 1, 16, 0x07, 1, .u 4, .ro, .int 0, .any, false⟩,
  ⟨0xB100, 1, 16, 0x01, 1, .u 1, .ro, .int 0, .any, false⟩,
  ⟨0xB100, 1, 16, 0x02, 1, .u 8, .ro, .int 0, .any, false⟩,
  ⟨0xB100, 1, 16, 0x03, 1, .u 8, .ro, .int 0, .any, false⟩,
  ⟨0xB100, 1, 16, 0x04, 1, .bool, .ro, .int 0, .any, false⟩,
  ⟨0xB100, 1, 16, 0x05, 1, .u 8, .ro, .int 0, .any, false⟩,
  ⟨0xB100, 1, 16, 0x06, 1, .u 8, .ro, .int 0, .any, false⟩,
  ⟨0xB200, 1, 160, 0x01, 1, .u 8, .ro, .int 0, .any, false⟩,
  ⟨0xB200, 1, 160, 0x02, 1, .u 1, .ro, .int 255, .ints [(0, 15), (255, 255)], false⟩,
  ⟨0xB200, 1, 160, 0x03, 1, .u 4, .ro, .int 0, .any, false⟩,
  ⟨0xB200, 1, 160, 0x04, 1, .u 1, .ro, .int 255, .ints [(0, 15), (255, 255)], false⟩,
  ⟨0xB200, 1, 160, 0x05, 1, .u 4, .ro, .int 0, .any, false⟩,
  ⟨0xB800, 1, 1, 0x01, 1, .u 1, .ro, .int 58, .ints [(58, 58)], false⟩,
  ⟨0xB800, 1, 1, 0x02, 1, .u 2, .ro, .int 0, .ints [(0, 1000)], false⟩,
  ⟨0xB800, 1, 1, 0x03, 1, .u 2, .ro, .int 0, .ints [(0, 1000)], false⟩,
  ⟨0xB800, 1, 1, 0x04, 1, .u 2, .ro, .int 0, .bits 0x1ff, false⟩,
  ⟨0xB800, 1, 1, 0x05, 1, .i 4, .ro, .int 0, .any, false⟩,
  ⟨0xB800, 1, 1, 0x06, 1, .i 4, .ro, .int 0, .any, false⟩,
  ⟨0xB800, 1, 1, 0x07, 1, .i 4, .ro, .int 0, .any, false⟩,
  ⟨0xB800, 1, 1, 0x08, 1, .u 1, .cmd, .int 0, .ints [(1, 1)], false⟩,
  ⟨0xB900, 1, 58, 0x01, 1, .u 1, .ro, .int 0, .ints [(0, 2)], false⟩,
  ⟨0xB900, 1, 58, 0x02, 1, .u 1, .ro, .int 0, .ints [(1, 9)], false⟩,
  ⟨0xB900, 1, 58, 0x03, 1, .u 1, .ro, .int 0, .ints [(0, 2)], false⟩,
  ⟨0xB900, 1, 58, 0x04, 1, .u 1, .ro, .int 0, .ints [(0, 4)], false⟩,
  ⟨0xB900, 1, 58, 0x05, 1, .u 4, .ro, .int 0, .any, false⟩,
  ⟨0xB900, 1, 58, 0x06, 1, .u 4, .ro, .int 0, .any, false⟩,
  ⟨0xB900, 1, 58, 0x07, 1, .u 4, .ro, .int 0, .any, false⟩,
  ⟨0xB900, 1, 58, 0x08, 1, .u 2, .ro, .int 0, .any, false⟩,
  ⟨0xB900, 1, 58, 0x09, 1, .bool, .ro, .int 0, .any, false⟩,
  ⟨0xB900, 1, 58, 0x0A, 1, .bool, .ro, .int 0, .any, false⟩,
  ⟨0xB900, 1, 58, 0x0B, 1, .u 4, .ro, .int 0, .any, false⟩,
  ⟨0xB900, 1, 58, 0x0C, 1, .u 8, .ro, .int 0, .any, false⟩]

/-- Rows of the object tables, indices 0xC000 to 0xCFFF, part 0. -/
def rowsC_0 : List Row := [
  ⟨0xC000, 1, 1, 0x01, 1, .bool, .rws, .int 1, .any, false⟩,
  ⟨0xC000, 1, 1, 0x02, 1, .u 2, .rws, .int 1024, .ints [(0, 1984)], false⟩,
  ⟨0xC000, 1, 1, 0x03, 1, .u 2, .rws, .int 500, .ints [(125, 125), (250, 250), (500, 500), (1000, 1000)], false⟩,
  ⟨0xC000, 1, 1, 0x04, 1, .u 2, .rws, .int 2000, .ints [(1000, 1000), (2000, 2000), (4000, 4000), (5000, 5000)], false⟩,
  ⟨0xC000, 1, 1, 0x05, 1, .bool, .rws, .int 1, .any, false⟩,
  ⟨0xC000, 1, 1, 0x06, 1, .u 4, .rws, .int 3232256008, .any, false⟩,
  ⟨0xC000, 1, 1, 0x07, 1, .u 1, .rws, .int 24, .ints [(8, 30)], false⟩,
  ⟨0xC000, 1, 1, 0x08, 1, .u 4, .rws, .int 0, .any, false⟩,
  ⟨0xC000, 1, 1, 0x09, 1, .u 1, .rws, .int 0, .ints [(0, 2)], false⟩,
  ⟨0xC000, 1, 1, 0x0A, 1, .bool, .rws, .int 1, .any, false⟩,
  ⟨0xC000, 1, 1, 0x0B, 1, .u 4, .rws, .int 3232256264, .any, false⟩,
  ⟨0xC000, 1, 1, 0x0C, 1, .u 1, .rws, .int 24, .ints [(8, 30)], false⟩,
  ⟨0xC000, 1, 1, 0x0D, 1, .u 1, .rws, .int 255, .ints [(0, 7), (255, 255)], false⟩,
  ⟨0xC000, 1, 1, 0x0E, 1, .u 1, .rws, .int 8, .ints [(2, 8)], false⟩,
  ⟨0xC000, 1, 1, 0x0F, 1, .u 2, .rws, .int 47100, .ints [(1024, 65535)], false⟩,
  ⟨0xC000, 1, 1, 0x10, 1, .u 2, .rws, .int 30, .ints [(10, 300)], false⟩,
  ⟨0xC000, 1, 1, 0x11, 1, .u 1, .rws, .int 255, .ints [(0, 31), (255, 255)], false⟩,
  ⟨0xC001, 1, 1, 0x01, 1, .u 1, .cmd, .int 0, .ints [(1, 1)], false⟩,
  ⟨0xC002, 1, 1, 0x01, 1, .u 1, .ro, .int 0, .ints [(0, 4)], true⟩,
  ⟨0xC002, 1, 1, 0x02, 1, .u 1, .ro, .int 0, .ints [(0, 255)], true⟩,
  ⟨0xC002, 1, 1, 0x03, 1, .u 1, .ro, .int 0, .ints [(0, 255)], true⟩,
  ⟨0xC002, 1, 1, 0x04, 1, .u 4, .ro, .int 0, .any, false⟩,
  ⟨0xC002, 1, 1, 0x05, 1, .u 1, .ro, .int 0, .ints [(0, 2)], true⟩,
  ⟨0xC002, 1, 1, 0x06, 1, .u 1, .ro, .int 0, .ints [(0, 2)], true⟩,
  ⟨0xC002, 1, 1, 0x07, 1, .u 4, .ro, .int 0, .any, true⟩,
  ⟨0xC002, 1, 1, 0x08, 1, .u 4, .ro, .int 0, .any, true⟩,
  ⟨0xC002, 1, 1, 0x09, 1, .u 1, .ro, .int 255, .ints [(0, 31), (255, 255)], true⟩]

/-- Rows of the object tables, indices 0xF000 to 0xFFFF, part 0. -/
def rowsF_0 : List Row := [
  ⟨0xF000, 1, 1, 0x01, 1, .str 20, .lgl, .bytes [], .any, false⟩,
  ⟨0xF000, 1, 1, 0x02, 1, .str 32, .lgl, .bytes [], .any, false⟩,
  ⟨0xF000, 1, 1, 0x03, 1, .u 1, .ro, .int 0, .ints [(0, 2)], false⟩,
  ⟨0xF000, 1, 1, 0x04, 1, .u 8, .lgl, .int 0, .any, false⟩,
  ⟨0xF000, 1, 1, 0x05, 1, .octets 32, .lgl, .bytes (List.replicate 32 0), .any, false⟩,
  ⟨0xF000, 1, 1, 0x06, 1, .u 4, .lgl, .int 0, .any, false⟩,
  ⟨0xF000, 1, 1, 0x07, 1, .u 4, .lgl, .int 0, .any, false⟩,
  ⟨0xF010, 1, 1, 0x01, 1, .octetsVar 1024, .cmd, .bytes [], .any, false⟩,
  ⟨0xF010, 1, 1, 0x02, 1, .u 8, .ro, .int 0, .any, false⟩,
  ⟨0xF010, 1, 1, 0x03, 1, .u 4, .ro, .int 0, .any, true⟩,
  ⟨0xF010, 1, 1, 0x04, 1, .u 1, .ro, .int 0, .ints [(1, 19)], true⟩,
  ⟨0xF010, 1, 1, 0x05, 1, .u 4, .lgl, .int 0, .any, false⟩,
  ⟨0xF100, 1, 1, 0x01, 1, .u 4, .lgl, .int 0, .any, false⟩,
  ⟨0xF100, 1, 1, 0x02, 1, .u 4, .lgl, .int 0, .any, false⟩,
  ⟨0xF100, 1, 1, 0x03, 1, .octets 8, .lgl, .bytes (List.replicate 8 0), .any, false⟩,
  ⟨0xF100, 1, 1, 0x04, 1, .u 4, .lgl, .int 0, .any, false⟩,
  ⟨0xF100, 1, 1, 0x05, 1, .u 4, .lgl, .int 0, .any, false⟩,
  ⟨0xF110, 1, 64, 0x01, 1, .domain, .ro, .bytes [], .any, false⟩,
  ⟨0xF180, 1, 1, 0x01, 1, .u 4, .ro, .int 0, .any, false⟩,
  ⟨0xF180, 1, 1, 0x02, 1, .u 4, .ro, .int 0, .any, false⟩,
  ⟨0xF190, 1, 192, 0x01, 1, .domain, .ro, .bytes [], .any, false⟩,
  ⟨0xF300, 1, 1, 0x01, 1, .u 4, .lgl, .int 0, .any, false⟩,
  ⟨0xF300, 1, 1, 0x02, 1, .u 4, .lgl, .int 0, .any, false⟩,
  ⟨0xF300, 1, 1, 0x03, 1, .u 2, .ro, .int 0, .ints [(0, 8192)], true⟩,
  ⟨0xF300, 1, 1, 0x04, 1, .octets 32, .ro, .bytes (List.replicate 32 0), .any, false⟩,
  ⟨0xF300, 1, 1, 0x05, 1, .u 4, .lgl, .int 0, .any, false⟩,
  ⟨0xF380, 1, 1, 0x01, 1, .u 1, .lgl, .int 6, .ints [(6, 32)], false⟩,
  ⟨0xF381, 1, 1, 0x01, 32, .u 2, .lgl, .int 0, .bits 0xffff, false⟩,
  ⟨0xF390, 1, 1, 0x01, 1, .bool, .ro, .int 0, .any, true⟩,
  ⟨0xF400, 1, 64, 0x01, 128, .domain, .ro, .bytes [], .any, false⟩]

/-- The rows of the block of indices whose top digit is `c` (R109). -/
def rowsOf : Nat → List Row
  | 1 => rows1_0 ++ rows1_1 ++ rows1_2 ++ rows1_3
  | 2 => rows2_0 ++ rows2_1
  | 3 => rows3_0 ++ rows3_1 ++ rows3_2
  | 4 => rows4_0 ++ rows4_1
  | 5 => rows5_0 ++ rows5_1
  | 6 => rows6_0 ++ rows6_1
  | 7 => rows7_0 ++ rows7_1
  | 8 => rows8_0
  | 9 => rows9_0 ++ rows9_1
  | 10 => rowsA_0
  | 11 => rowsB_0
  | 12 => rowsC_0
  | 15 => rowsF_0
  | _ => []

/-- Does a row's pattern of indices hold this index? -/
def Row.hasIdx (r : Row) (idx : Nat) : Bool :=
  decide (r.idx ≤ idx) && decide ((idx - r.idx) % r.stride = 0) && decide ((idx - r.idx) / r.stride < r.count)

/-- Does a row cover this object? -/
def Row.covers (r : Row) (idx sub : Nat) : Bool :=
  r.hasIdx idx && decide (r.sub ≤ sub) && decide (sub < r.sub + r.subs)

/-- The row of an object, if one is assigned (05 R108, R109). -/
def rowOf (key : Nat) : Option Row := (rowsOf (key / 0x100000)).find? (·.covers (key / 256) (key % 256))

/-- Is the index defined by some chapter (05 R109)? -/
def indexDefined (idx : Nat) : Bool := (rowsOf (idx / 0x1000)).any (·.hasIdx idx)

/-- The highest subindex an index supports, what subindex 0x00 reads (05 R108). -/
def highestSub (idx : Nat) : Nat :=
  ((rowsOf (idx / 0x1000)).filter (·.hasIdx idx)).foldl (fun m r => max m (r.sub + r.subs - 1)) 0

/-- Defaults that differ from one instance of a row to the next: the "Default" column of 3070, 3080, 3989, 4020, 8501, A001 and
F381 (R218, R276, R326, R453, R500), and the per-unit values (log entry 6). -/
def specialDefault (key : Nat) : Option Val :=
  let idx := key / 256
  let sub := key % 256
  let slot := (idx - 0x3080 - 4) % 8
  if idx = 0x3070 ∧ 1 ≤ sub ∧ sub ≤ 16 then some (.int ((sub - 1) / 4 : Nat))
  else if 0x3080 ≤ idx ∧ idx ≤ 0x30C3 ∧ sub = 1 then
    some (.int (if 0x3084 ≤ idx ∧ slot = 7 then 0x20 else 0))
  else if 0x3080 ≤ idx ∧ idx ≤ 0x30C3 ∧ sub = 3 then
    some (.int (if idx < 0x3084 then 0 else if slot < 3 then 0 else if slot = 7 then 4 else 1))
  else if idx = 0x3989 ∧ 1 ≤ sub ∧ sub ≤ 7 then some (.int (320 * ((sub : Int) - 2)))
  else if (idx = 0x4020 ∨ idx = 0x4120) ∧ sub = 1 then some (.int 1)
  else if idx = 0x8501 ∧ 1 ≤ sub ∧ sub ≤ 16 then
    some (.int ([1, 1, 2, 2, 1, 1, 1, 3, 1, 0, 0, 0, 1, 1, 2, 0].getD (sub - 1) 0 : Nat))
  else if idx = 0xA001 ∧ 1 ≤ sub ∧ sub ≤ 6 then
    some (.int ([0x00030805, 0x00050805, 0x00060805, 0x0007FF05, 0x0008FF05, 0x0009FF05].getD (sub - 1) 0 : Nat))
  else if idx = 0xF381 ∧ 1 ≤ sub ∧ sub ≤ 6 then
    some (.int ([0x0308, 0x0508, 0x0608, 0x07FF, 0x08FF, 0x09FF].getD (sub - 1) 0 : Nat))
  else if 0x2000 ≤ idx ∧ idx < 0x2800 ∧ idx % 0x100 = 0x10 ∧ sub = 0x0A then some (.int ((idx - 0x2000) / 0x200 : Nat))
  else if key = ob 0xB800 0x03 then some (.int 1000)
  else if key = ob 0x1000 0x05 then some (.bytes Config.serialNumber)
  else if key = ob 0x1000 0x06 then some (.bytes (Config.sha256 Config.identityPublicKey))
  else if key = ob 0x1000 0x0D then some (.bytes Config.heartwoodRomHash)
  else if key = ob 0x1000 0x0E then some (.bytes Config.burlRomHash)
  else if key = ob 0xF300 0x04 then some (.bytes Config.recordPublicKey)
  else none

/-- What an object that nothing has written holds: its Default (05 R115). -/
def defaultOf (key : Nat) : Val :=
  match specialDefault key with
  | some v => v
  | none =>
    match rowOf key with
    | some r => r.dflt
    | none => .int 0

/-- Size on the wire of a fixed-size type; the greatest length of a variable-size one (05 R110). -/
def Ty.size : Ty → Nat
  | .bool => 1
  | .u n => n
  | .i n => n
  | .octets n => n
  | .octetsVar n => n
  | .str n => n
  | .domain => 2 ^ 32 - 1

/-- Is the type of fixed size (05 R110)? -/
def Ty.fixed : Ty → Bool
  | .octetsVar _ => false
  | .str _ => false
  | .domain => false
  | _ => true

/-- A value as it stands on the wire (05 R110): little-endian integers, two's complement when signed. -/
def Ty.encode (t : Ty) (v : Val) : Bytes :=
  match t, v with
  | .bool, .int n => leBytes 1 n.toNat
  | .u k, .int n => leBytes k n.toNat
  | .i k, .int n => leBytes k (ofSigned (8 * k) n)
  | _, .int n => leBytes 8 n.toNat
  | _, .bytes b => b

/-- A value read from the wire (05 R110). -/
def Ty.decode (t : Ty) (b : Bytes) : Val :=
  match t with
  | .bool => .int (leVal b)
  | .u _ => .int (leVal b)
  | .i k => .int (toSigned (8 * k) (leVal b))
  | _ => .bytes b

/-- Does the value lie among those the Unit / range column accepts (05 R111, R120)? -/
def Rng.accepts : Rng → Val → Bool
  | .any, _ => true
  | .ints l, .int n => l.any fun (a, b) => decide (a ≤ n) && decide (n ≤ b)
  | .bits m, .int n => decide (n.toNat &&& m = n.toNat)
  | _, .bytes _ => true

/-- The staged group an RWS object belongs to (05 R129, table *Staged group allocation*). -/
def groupOf (key : Nat) : Option Nat :=
  let idx := key / 256
  if idx = 0x2080 then some 0x07
  else if 0x2000 ≤ idx ∧ idx < 0x2800 ∧ idx % 0x100 = 0 then some (0x08 + (idx - 0x2000) / 0x100)
  else if idx = 0x3070 ∨ idx = 0x3071 ∨ (0x3080 ≤ idx ∧ idx ≤ 0x30C3) then some 0x10
  else if 0x3100 ≤ idx ∧ idx < 0x3900 ∧ idx % 0x100 = 0 then some (0x18 + (idx - 0x3100) / 0x100)
  else if 0x4010 ≤ idx ∧ idx ≤ 0x4061 then some 0x20
  else if idx = 0x4200 then some 0x21
  else if idx = 0x4300 then some 0x22
  else if 0x5100 ≤ idx ∧ idx < 0x5200 then some 0x24
  else if 0x5200 ≤ idx ∧ idx < 0x5300 then some 0x25
  else if 0x6000 ≤ idx ∧ idx < 0x6200 then some 0x28
  else if idx = 0x7000 ∨ idx = 0x7001 then some 0x2A
  else if idx = 0xC000 ∨ (0x1810 ≤ idx ∧ idx ≤ 0x181F) then some 0x2B
  else if idx = 0xA000 ∨ idx = 0xA001 then some 0x2C
  else if idx = 0x9200 ∨ idx = 0x9201 then some 0x2D
  else if idx = 0x8500 ∨ idx = 0x8501 then some 0x2E
  else if 0x1200 ≤ idx ∧ idx ≤ 0x120F then some (0x30 + (idx - 0x1200))
  else none

/-- Allocated staged groups (05 R129). -/
def groupAllocated (g : Nat) : Bool := indexDefined (0x1400 + g) && decide (g < 64)

end Sys2Proof.Machine
end

