-- ==== Sys2Proof/Machine/Keys.lean ====
section
/-! DEFINITION. The name of every dictionary object, as the manual names it, with its index and subindex. Objects that exist once
per port, channel, slot and so on take the number; a run of subindices takes the offset from the first. -/

namespace Sys2Proof.Machine.Key

/-- 0x1000.01 VendorName (R132). -/
def vendorName : Nat := ob 0x1000 0x01
/-- 0x1000.02 ProductName (R132). -/
def productName : Nat := ob 0x1000 0x02
/-- 0x1000.03 OrderingCode (R132). -/
def orderingCode : Nat := ob 0x1000 0x03
/-- 0x1000.04 Stepping (R132). -/
def stepping : Nat := ob 0x1000 0x04
/-- 0x1000.05 SerialNumber (R132). -/
def serialNumber : Nat := ob 0x1000 0x05
/-- 0x1000.06 DeviceIdHash (R132). -/
def deviceIdHash : Nat := ob 0x1000 0x06
/-- 0x1000.07 LifecycleState (R132). -/
def lifecycleState : Nat := ob 0x1000 0x07
/-- 0x1000.08 ResetCause (R132). -/
def resetCause : Nat := ob 0x1000 0x08
/-- 0x1000.09 ResetRail (R132). -/
def resetRail : Nat := ob 0x1000 0x09
/-- 0x1000.0A ResetTime (R132). -/
def resetTime : Nat := ob 0x1000 0x0A
/-- 0x1000.0B PowerUpCount (R132). -/
def powerUpCount : Nat := ob 0x1000 0x0B
/-- 0x1000.0C PowerState (R132). -/
def powerState : Nat := ob 0x1000 0x0C
/-- 0x1000.0D HeartwoodRomHash (R132). -/
def heartwoodRomHash : Nat := ob 0x1000 0x0D
/-- 0x1000.0E BurlRomHash (R132). -/
def burlRomHash : Nat := ob 0x1000 0x0E
/-- 0x1002.01 to .0C CoreResetCause (R132). -/
def coreResetCause (i : Nat) : Nat := ob 0x1002 (0x01 + i)
/-- 0x1003.01 to .0C CoreResetTime (R132). -/
def coreResetTime (i : Nat) : Nat := ob 0x1003 (0x01 + i)
/-- 0x1100.01 LayoutVersion (R132). -/
def layoutVersion : Nat := ob 0x1100 0x01
/-- 0x1100.02 TickCount (R132). -/
def tickCount : Nat := ob 0x1100 0x02
/-- 0x1100.03 StagedBytesTotal (R132). -/
def stagedBytesTotal : Nat := ob 0x1100 0x03
/-- 0x1100.04 DiscardCount (R132). -/
def discardCount : Nat := ob 0x1100 0x04
/-- 0x1100.05 PendingStoreBytes (R132). -/
def pendingStoreBytes : Nat := ob 0x1100 0x05
/-- 0x1100.06 LastAbortCode (R132). -/
def lastAbortCode : Nat := ob 0x1100 0x06
/-- 0x1100.07 LastAbortObject (R132). -/
def lastAbortObject : Nat := ob 0x1100 0x07
/-- 0x1100.08 LastAbortHost (R132). -/
def lastAbortHost : Nat := ob 0x1100 0x08
/-- 0x1100.09 AbortCount (R132). -/
def abortCount : Nat := ob 0x1100 0x09
/-- 0x1200+n.01 Destination (R132). -/
def listDestination (n : Nat) : Nat := ob (0x1200 + n) 0x01
/-- 0x1200+n.02 Trigger (R132). -/
def listTrigger (n : Nat) : Nat := ob (0x1200 + n) 0x02
/-- 0x1200+n.03 PeriodMs (R132). -/
def periodMs (n : Nat) : Nat := ob (0x1200 + n) 0x03
/-- 0x1200+n.04 CommitPort (R132). -/
def commitPort (n : Nat) : Nat := ob (0x1200 + n) 0x04
/-- 0x1200+n.05 EntryCount (R132). -/
def entryCount (n : Nat) : Nat := ob (0x1200 + n) 0x05
/-- 0x1200+n.08 SentCount (R132). -/
def sentCount (n : Nat) : Nat := ob (0x1200 + n) 0x08
/-- 0x1200+n.09 SkippedCount (R132). -/
def skippedCount (n : Nat) : Nat := ob (0x1200 + n) 0x09
/-- 0x1200+n.0A PayloadBytes (R132). -/
def payloadBytes (n : Nat) : Nat := ob (0x1200 + n) 0x0A
/-- 0x1200+n.10 to .2F Entry1 to Entry32 (R132). -/
def listEntry (n : Nat) (i : Nat) : Nat := ob (0x1200 + n) (0x10 + i)
/-- 0x1400+g.01 GroupState (R129). -/
def groupState (g : Nat) : Nat := ob (0x1400 + g) 0x01
/-- 0x1400+g.02 StagedSince (R129). -/
def stagedSince (g : Nat) : Nat := ob (0x1400 + g) 0x02
/-- 0x1400+g.03 Commit (R129). -/
def groupCommit (g : Nat) : Nat := ob (0x1400 + g) 0x03
/-- 0x1400+g.04 Discard (R129). -/
def groupDiscard (g : Nat) : Nat := ob (0x1400 + g) 0x04
/-- 0x1400+g.05 LastResult (R129). -/
def lastResult (g : Nat) : Nat := ob (0x1400 + g) 0x05
/-- 0x1400+g.06 FailingObject (R129). -/
def failingObject (g : Nat) : Nat := ob (0x1400 + g) 0x06
/-- 0x1400+g.07 CommitCount (R129). -/
def commitCount (g : Nat) : Nat := ob (0x1400 + g) 0x07
/-- 0x1400+g.08 Locked (R129). -/
def groupLocked (g : Nat) : Nat := ob (0x1400 + g) 0x08
/-- 0x1400+g.09 StagedBytes (R129). -/
def stagedBytes (g : Nat) : Nat := ob (0x1400 + g) 0x09
/-- 0x1800.01 OwnerSlot (R158). -/
def ownerSlot : Nat := ob 0x1800 0x01
/-- 0x1800.02 OwnershipState (R158). -/
def ownershipState : Nat := ob 0x1800 0x02
/-- 0x1800.03 OwnerSince (R158). -/
def ownerSince : Nat := ob 0x1800 0x03
/-- 0x1800.04 HeartbeatAge (R158). -/
def heartbeatAge : Nat := ob 0x1800 0x04
/-- 0x1800.05 HandoverTarget (R158). -/
def handoverTarget : Nat := ob 0x1800 0x05
/-- 0x1800.06 OwnerChangeCount (R158). -/
def ownerChangeCount : Nat := ob 0x1800 0x06
/-- 0x1800.07 LastLossTime (R158). -/
def lastLossTime : Nat := ob 0x1800 0x07
/-- 0x1810+s.01 Registered (R158). -/
def hostRegistered (s : Nat) : Nat := ob (0x1810 + s) 0x01
/-- 0x1810+s.02 ActiveInterfaces (R158). -/
def activeInterfaces (s : Nat) : Nat := ob (0x1810 + s) 0x02
/-- 0x1810+s.03 AllowedInterfaces (R158). -/
def allowedInterfaces (s : Nat) : Nat := ob (0x1810 + s) 0x03
/-- 0x1810+s.04 ClaimAllowed (R158). -/
def claimAllowed (s : Nat) : Nat := ob (0x1810 + s) 0x04
/-- 0x1810+s.05 ClaimPriority (R158). -/
def claimPriority (s : Nat) : Nat := ob (0x1810 + s) 0x05
/-- 0x1810+s.06 LastSeen (R158). -/
def hostLastSeen (s : Nat) : Nat := ob (0x1810 + s) 0x06
/-- 0x1810+s.07 RxCount (R158). -/
def rxCount (s : Nat) : Nat := ob (0x1810 + s) 0x07
/-- 0x1810+s.08 AuthFailCount (R158). -/
def hostAuthFailCount (s : Nat) : Nat := ob (0x1810 + s) 0x08
/-- 0x1810+s.09 ReplayCount (R158). -/
def hostReplayCount (s : Nat) : Nat := ob (0x1810 + s) 0x09
/-- 0x1810+s.0A DroppedRequests (R158). -/
def droppedRequests (s : Nat) : Nat := ob (0x1810 + s) 0x0A
/-- 0x1810+s.0B KeyPresent (R158). -/
def keyPresent (s : Nat) : Nat := ob (0x1810 + s) 0x0B
/-- 0x1810+s.0C Deregister (R158). -/
def deregister (s : Nat) : Nat := ob (0x1810 + s) 0x0C
/-- 0x2p00.01 Mode (R187). -/
def portMode (p : Nat) : Nat := ob (0x2000 + 0x0100 * p) 0x01
/-- 0x2p00.02 DcSystem (R187). -/
def dcSystem (p : Nat) : Nat := ob (0x2000 + 0x0100 * p) 0x02
/-- 0x2p00.03 PhaseRotation (R187). -/
def phaseRotation (p : Nat) : Nat := ob (0x2000 + 0x0100 * p) 0x03
/-- 0x2p00.04 ProximityMode (R187). -/
def proximityMode (p : Nat) : Nat := ob (0x2000 + 0x0100 * p) 0x04
/-- 0x2p00.05 FixedCableRating (R187). -/
def fixedCableRating (p : Nat) : Nat := ob (0x2000 + 0x0100 * p) 0x05
/-- 0x2p00.06 MaxCurrentAc (R187). -/
def maxCurrentAc (p : Nat) : Nat := ob (0x2000 + 0x0100 * p) 0x06
/-- 0x2p00.07 DcMaxVoltage (R187). -/
def dcMaxVoltage (p : Nat) : Nat := ob (0x2000 + 0x0100 * p) 0x07
/-- 0x2p00.08 DcMaxCurrent (R187). -/
def dcMaxCurrent (p : Nat) : Nat := ob (0x2000 + 0x0100 * p) 0x08
/-- 0x2p00.09 DcMaxPower (R187). -/
def dcMaxPower (p : Nat) : Nat := ob (0x2000 + 0x0100 * p) 0x09
/-- 0x2p00.0A ExportAllowed (R187). -/
def exportAllowed (p : Nat) : Nat := ob (0x2000 + 0x0100 * p) 0x0A
/-- 0x2p00.0B ExportMaxCurrent (R187). -/
def exportMaxCurrent (p : Nat) : Nat := ob (0x2000 + 0x0100 * p) 0x0B
/-- 0x2p00.0C ModuleMask (R187). -/
def moduleMask (p : Nat) : Nat := ob (0x2000 + 0x0100 * p) 0x0C
/-- 0x2p00.0D AuthModes (R187). -/
def authModes (p : Nat) : Nat := ob (0x2000 + 0x0100 * p) 0x0D
/-- 0x2p00.0E Protocols (R187). -/
def protocols (p : Nat) : Nat := ob (0x2000 + 0x0100 * p) 0x0E
/-- 0x2p00.0F AutoStart (R187). -/
def autoStart (p : Nat) : Nat := ob (0x2000 + 0x0100 * p) 0x0F
/-- 0x2p00.10 Weight (R187). -/
def weight (p : Nat) : Nat := ob (0x2000 + 0x0100 * p) 0x10
/-- 0x2p00.11 SlacAttnLimit (R187). -/
def slacAttnLimit (p : Nat) : Nat := ob (0x2000 + 0x0100 * p) 0x11
/-- 0x2p00.12 SeqOutGpio (R187). -/
def seqOutGpio (p : Nat) : Nat := ob (0x2000 + 0x0100 * p) 0x12
/-- 0x2p00.13 PermitInGpio (R187). -/
def permitInGpio (p : Nat) : Nat := ob (0x2000 + 0x0100 * p) 0x13
/-- 0x2p00.14 LockType (R187). -/
def lockType (p : Nat) : Nat := ob (0x2000 + 0x0100 * p) 0x14
/-- 0x2p00.15 DcEfficiency (R187). -/
def dcEfficiency (p : Nat) : Nat := ob (0x2000 + 0x0100 * p) 0x15
/-- 0x2p00.16 VentilationAvailable (R187). -/
def ventilationAvailable (p : Nat) : Nat := ob (0x2000 + 0x0100 * p) 0x16
/-- 0x2p10.01 SessionState (R187). -/
def sessionState (p : Nat) : Nat := ob (0x2010 + 0x0100 * p) 0x01
/-- 0x2p10.02 PilotState (R187). -/
def pilotState (p : Nat) : Nat := ob (0x2010 + 0x0100 * p) 0x02
/-- 0x2p10.03 PilotDuty (R187). -/
def pilotDuty (p : Nat) : Nat := ob (0x2010 + 0x0100 * p) 0x03
/-- 0x2p10.04 PilotHigh (R187). -/
def pilotHigh (p : Nat) : Nat := ob (0x2010 + 0x0100 * p) 0x04
/-- 0x2p10.05 PilotLow (R187). -/
def pilotLow (p : Nat) : Nat := ob (0x2010 + 0x0100 * p) 0x05
/-- 0x2p10.06 CableRating (R187). -/
def cableRating (p : Nat) : Nat := ob (0x2010 + 0x0100 * p) 0x06
/-- 0x2p10.07 LockState (R187). -/
def lockState (p : Nat) : Nat := ob (0x2010 + 0x0100 * p) 0x07
/-- 0x2p10.08 HighLevel (R187). -/
def highLevel (p : Nat) : Nat := ob (0x2010 + 0x0100 * p) 0x08
/-- 0x2p10.09 EvMac (R187). -/
def evMac (p : Nat) : Nat := ob (0x2010 + 0x0100 * p) 0x09
/-- 0x2p10.0A ServingEngine (R187). -/
def servingEngine (p : Nat) : Nat := ob (0x2010 + 0x0100 * p) 0x0A
/-- 0x2p10.0B AllocatedCurrent (R187). -/
def allocatedCurrent (p : Nat) : Nat := ob (0x2010 + 0x0100 * p) 0x0B
/-- 0x2p10.0C LimitReason (R187). -/
def limitReason (p : Nat) : Nat := ob (0x2010 + 0x0100 * p) 0x0C
/-- 0x2p10.0D HoldingLevel (R187). -/
def holdingLevel (p : Nat) : Nat := ob (0x2010 + 0x0100 * p) 0x0D
/-- 0x2p10.0E SessionId (R187). -/
def sessionId (p : Nat) : Nat := ob (0x2010 + 0x0100 * p) 0x0E
/-- 0x2p10.0F EnergisedSince (R187). -/
def energisedSince (p : Nat) : Nat := ob (0x2010 + 0x0100 * p) 0x0F
/-- 0x2p10.10 Direction (R187). -/
def portDirection (p : Nat) : Nat := ob (0x2010 + 0x0100 * p) 0x10
/-- 0x2p10.11 EvTargetVoltage (R187). -/
def evTargetVoltage (p : Nat) : Nat := ob (0x2010 + 0x0100 * p) 0x11
/-- 0x2p10.12 ModuleVoltage (R187). -/
def moduleVoltage (p : Nat) : Nat := ob (0x2010 + 0x0100 * p) 0x12
/-- 0x2p10.13 ModuleCurrent (R187). -/
def moduleCurrent (p : Nat) : Nat := ob (0x2010 + 0x0100 * p) 0x13
/-- 0x2p20.01 Start (R187). -/
def portStart (p : Nat) : Nat := ob (0x2020 + 0x0100 * p) 0x01
/-- 0x2p20.02 Stop (R187). -/
def portStop (p : Nat) : Nat := ob (0x2020 + 0x0100 * p) 0x02
/-- 0x2p20.03 ExportStop (R187). -/
def exportStop (p : Nat) : Nat := ob (0x2020 + 0x0100 * p) 0x03
/-- 0x2p20.04 CurrentLimit (R187). -/
def currentLimit (p : Nat) : Nat := ob (0x2020 + 0x0100 * p) 0x04
/-- 0x2p20.05 ExportLimit (R187). -/
def exportLimit (p : Nat) : Nat := ob (0x2020 + 0x0100 * p) 0x05
/-- 0x2p20.06 Unlock (R187). -/
def unlock (p : Nat) : Nat := ob (0x2020 + 0x0100 * p) 0x06
/-- 0x2p30.01 SessionCount (R187). -/
def sessionCount (p : Nat) : Nat := ob (0x2030 + 0x0100 * p) 0x01
/-- 0x2p30.02 SlacFailCount (R187). -/
def slacFailCount (p : Nat) : Nat := ob (0x2030 + 0x0100 * p) 0x02
/-- 0x2p30.03 PilotFaultCount (R187). -/
def pilotFaultCount (p : Nat) : Nat := ob (0x2030 + 0x0100 * p) 0x03
/-- 0x2p30.04 MigrationCount (R187). -/
def migrationCount (p : Nat) : Nat := ob (0x2030 + 0x0100 * p) 0x04
/-- 0x2p30.05 ModuleLossCount (R187). -/
def moduleLossCount (p : Nat) : Nat := ob (0x2030 + 0x0100 * p) 0x05
/-- 0x2p30.06 TlsFailCount (R187). -/
def tlsFailCount (p : Nat) : Nat := ob (0x2030 + 0x0100 * p) 0x06
/-- 0x2p30.07 LastEndReason (R187). -/
def lastEndReason (p : Nat) : Nat := ob (0x2030 + 0x0100 * p) 0x07
/-- 0x2080.01 to .03 SiteLimitL1 to L3 (R187). -/
def siteLimitL (i : Nat) : Nat := ob 0x2080 (0x01 + i)
/-- 0x2080.04 SiteExportLimit (R187). -/
def siteExportLimit : Nat := ob 0x2080 0x04
/-- 0x2080.05 Margin (R187). -/
def margin : Nat := ob 0x2080 0x05
/-- 0x2080.06 ExternalLoadTimeoutS (R187). -/
def externalLoadTimeoutS : Nat := ob 0x2080 0x06
/-- 0x2080.07 ExternalLoadFallback (R187). -/
def externalLoadFallback : Nat := ob 0x2080 0x07
/-- 0x2080.08 UseCanopyPhaseMap (R187). -/
def useCanopyPhaseMap : Nat := ob 0x2080 0x08
/-- 0x2080.09 IncreaseHoldS (R187). -/
def increaseHoldS : Nat := ob 0x2080 0x09
/-- 0x2080.0A Can4Rate (R187). -/
def can4Rate : Nat := ob 0x2080 0x0A
/-- 0x2081.01 to .03 ExternalLoadL1 to L3 (R187). -/
def externalLoadL (i : Nat) : Nat := ob 0x2081 (0x01 + i)
/-- 0x2081.04 to .06 AvailableL1 to L3 (R187). -/
def availableL (i : Nat) : Nat := ob 0x2081 (0x04 + i)
/-- 0x2081.07 NetworkPhaseOfL1 (R187). -/
def networkPhaseOfL1 : Nat := ob 0x2081 0x07
/-- 0x2081.08 AllocatorFlags (R187). -/
def allocatorFlags : Nat := ob 0x2081 0x08
/-- 0x2090+m.01 ModulePresent (R187). -/
def modulePresent (m : Nat) : Nat := ob (0x2090 + m) 0x01
/-- 0x2090+m.02 ModuleState (R187). -/
def moduleState (m : Nat) : Nat := ob (0x2090 + m) 0x02
/-- 0x2090+m.03 ModuleFaults (R187). -/
def moduleFaults (m : Nat) : Nat := ob (0x2090 + m) 0x03
/-- 0x2090+m.04 ModuleRatedCurrent (R187). -/
def moduleRatedCurrent (m : Nat) : Nat := ob (0x2090 + m) 0x04
/-- 0x2090+m.05 ModulePort (R187). -/
def modulePort (m : Nat) : Nat := ob (0x2090 + m) 0x05
/-- 0x3000.01 DieTemperature (R218). -/
def dieTemperature : Nat := ob 0x3000 0x01
/-- 0x3000.02 DecidedBand (R218). -/
def decidedBand : Nat := ob 0x3000 0x02
/-- 0x3000.03 SampleNumber (R218). -/
def sampleNumber : Nat := ob 0x3000 0x03
/-- 0x3000.04 LinkErrorCount (R218). -/
def linkErrorCount : Nat := ob 0x3000 0x04
/-- 0x3000.05 ChannelFailMask (R218). -/
def channelFailMask : Nat := ob 0x3000 0x05
/-- 0x3000.06 ChannelDiscardMask (R218). -/
def channelDiscardMask : Nat := ob 0x3000 0x06
/-- 0x3000.07 SiteFrequency (R218). -/
def siteFrequency : Nat := ob 0x3000 0x07
/-- 0x3000.08 SiteReferenceState (R218). -/
def siteReferenceState : Nat := ob 0x3000 0x08
/-- 0x3001.01 CalPort (R218). -/
def calPort : Nat := ob 0x3001 0x01
/-- 0x3001.02 CalPeriods (R218). -/
def calPeriods : Nat := ob 0x3001 0x02
/-- 0x3001.03 CalStart (R218). -/
def calStart : Nat := ob 0x3001 0x03
/-- 0x3001.04 CalState (R218). -/
def calState : Nat := ob 0x3001 0x04
/-- 0x3001.05 CalPeriodsDone (R218). -/
def calPeriodsDone : Nat := ob 0x3001 0x05
/-- 0x3001.06 to .08 CalVrmsL1 to L3 (R218). -/
def calVrmsL (i : Nat) : Nat := ob 0x3001 (0x06 + i)
/-- 0x3001.09 to .0B CalIrmsL1 to L3 (R218). -/
def calIrmsL (i : Nat) : Nat := ob 0x3001 (0x09 + i)
/-- 0x3001.0C to .0E CalPL1 to L3 (R218). -/
def calPL (i : Nat) : Nat := ob 0x3001 (0x0C + i)
/-- 0x3001.0F to .11 CalQL1 to L3 (R218). -/
def calQL (i : Nat) : Nat := ob 0x3001 (0x0F + i)
/-- 0x3001.12 CalFrequency (R218). -/
def calFrequency : Nat := ob 0x3001 0x12
/-- 0x3010+p.01 Frequency (R218). -/
def portFrequency (p : Nat) : Nat := ob (0x3010 + p) 0x01
/-- 0x3010+p.02 ReferenceState (R218). -/
def referenceState (p : Nat) : Nat := ob (0x3010 + p) 0x02
/-- 0x3010+p.03 BandInForce (R218). -/
def portBandInForce (p : Nat) : Nat := ob (0x3010 + p) 0x03
/-- 0x3010+p.04 PeriodLength (R218). -/
def periodLength (p : Nat) : Nat := ob (0x3010 + p) 0x04
/-- 0x3010+p.05 DcCurrentMismatch (R218). -/
def dcCurrentMismatch (p : Nat) : Nat := ob (0x3010 + p) 0x05
/-- 0x3010+p.06 DcVoltageMismatch (R218). -/
def dcVoltageMismatch (p : Nat) : Nat := ob (0x3010 + p) 0x06
/-- 0x3010+p.07 PeriodSequence (R218). -/
def periodSequence (p : Nat) : Nat := ob (0x3010 + p) 0x07
/-- 0x3020+c.01 RmsLastPeriod (R218). -/
def rmsLastPeriod (c : Nat) : Nat := ob (0x3020 + c) 0x01
/-- 0x3020+c.02 MeanLastPeriod (R218). -/
def meanLastPeriod (c : Nat) : Nat := ob (0x3020 + c) 0x02
/-- 0x3020+c.03 RawPeakAbs (R218). -/
def rawPeakAbs (c : Nat) : Nat := ob (0x3020 + c) 0x03
/-- 0x3020+c.04 ClipCount (R218). -/
def clipCount (c : Nat) : Nat := ob (0x3020 + c) 0x04
/-- 0x3020+c.05 SubstitutedCount (R218). -/
def substitutedCount (c : Nat) : Nat := ob (0x3020 + c) 0x05
/-- 0x3020+c.06 ChannelState (R218). -/
def channelState (c : Nat) : Nat := ob (0x3020 + c) 0x06
/-- 0x3020+c.07 RawMean (R218). -/
def rawMean (c : Nat) : Nat := ob (0x3020 + c) 0x07
/-- 0x3070.01 to .10 BitstreamClock (R218). -/
def bitstreamClock (i : Nat) : Nat := ob 0x3070 (0x01 + i)
/-- 0x3071.01 to .08 ReferenceChannel (R218). -/
def referenceChannel (i : Nat) : Nat := ob 0x3071 (0x01 + i)
/-- 0x3080+c.01 Source (R218). -/
def channelSource (c : Nat) : Nat := ob (0x3080 + c) 0x01
/-- 0x3080+c.02 InputGain (R218). -/
def inputGain (c : Nat) : Nat := ob (0x3080 + c) 0x02
/-- 0x3080+c.03 SensorType (R218). -/
def sensorType (c : Nat) : Nat := ob (0x3080 + c) 0x03
/-- 0x3q00.01 NoLoadThreshold (R248). -/
def noLoadThreshold (p : Nat) : Nat := ob (0x3100 + 0x0100 * p) 0x01
/-- 0x3q00.02 NeutralMismatchRelative (R248). -/
def neutralMismatchRelative (p : Nat) : Nat := ob (0x3100 + 0x0100 * p) 0x02
/-- 0x3q00.03 NeutralMismatchAbsolute (R248). -/
def neutralMismatchAbsolute (p : Nat) : Nat := ob (0x3100 + 0x0100 * p) 0x03
/-- 0x3q00.04 NeutralMismatchPeriods (R248). -/
def neutralMismatchPeriods (p : Nat) : Nat := ob (0x3100 + 0x0100 * p) 0x04
/-- 0x3q00.05 BypassBilling (R248). -/
def bypassBilling (p : Nat) : Nat := ob (0x3100 + 0x0100 * p) 0x05
/-- 0x3q00.06 ReverseEnergyPeriods (R248). -/
def reverseEnergyPeriods (p : Nat) : Nat := ob (0x3100 + 0x0100 * p) 0x06
/-- 0x3q04.01 RingTime (R248). -/
def portRingTime (p : Nat) : Nat := ob (0x3104 + 0x0100 * p) 0x01
/-- 0x3q04.02 EnergyImportTotal (R248). -/
def portEnergyImportTotal (p : Nat) : Nat := ob (0x3104 + 0x0100 * p) 0x02
/-- 0x3q04.03 EnergyExportTotal (R248). -/
def portEnergyExportTotal (p : Nat) : Nat := ob (0x3104 + 0x0100 * p) 0x03
/-- 0x3q04.04 to .07 ReactiveQ1 to Q4 (R248). -/
def portReactiveQ (p : Nat) (i : Nat) : Nat := ob (0x3104 + 0x0100 * p) (0x04 + i)
/-- 0x3q04.08 SessionImport (R248). -/
def sessionImport (p : Nat) : Nat := ob (0x3104 + 0x0100 * p) 0x08
/-- 0x3q04.09 SessionExport (R248). -/
def sessionExport (p : Nat) : Nat := ob (0x3104 + 0x0100 * p) 0x09
/-- 0x3q04.0A RegisterSessionId (R248). -/
def registerSessionId (p : Nat) : Nat := ob (0x3104 + 0x0100 * p) 0x0A
/-- 0x3q05.01 ImportAccumulator (R248). -/
def importAccumulator (p : Nat) : Nat := ob (0x3105 + 0x0100 * p) 0x01
/-- 0x3q05.02 ExportAccumulator (R248). -/
def exportAccumulator (p : Nat) : Nat := ob (0x3105 + 0x0100 * p) 0x02
/-- 0x3q05.03 to .06 Q1 to Q4 Accumulator (R248). -/
def qAccumulator (p : Nat) (i : Nat) : Nat := ob (0x3105 + 0x0100 * p) (0x03 + i)
/-- 0x3q05.07, .08 SessionImportAcc, SessionExportAcc (R248). -/
def sessionImportAcc (p : Nat) : Nat := ob (0x3105 + 0x0100 * p) 0x07
/-- 0x3q05.07, .08 SessionImportAcc, SessionExportAcc (R248). -/
def sessionExportAcc (p : Nat) : Nat := ob (0x3105 + 0x0100 * p) 0x08
/-- 0x3q10.01 CommittedPeriod (R248). -/
def committedPeriod (p : Nat) : Nat := ob (0x3110 + 0x0100 * p) 0x01
/-- 0x3q10.02 CommittedLength (R248). -/
def committedLength (p : Nat) : Nat := ob (0x3110 + 0x0100 * p) 0x02
/-- 0x3q10.03 CommittedEnergy (R248). -/
def committedEnergy (p : Nat) : Nat := ob (0x3110 + 0x0100 * p) 0x03
/-- 0x3q10.04 CommittedQuality (R248). -/
def committedQuality (p : Nat) : Nat := ob (0x3110 + 0x0100 * p) 0x04
/-- 0x3q10.05 to .07 ActivePowerL1 to L3 (R248). -/
def activePowerL (p : Nat) (i : Nat) : Nat := ob (0x3110 + 0x0100 * p) (0x05 + i)
/-- 0x3q10.08 to .0A ReactivePowerL1 to L3 (R248). -/
def reactivePowerL (p : Nat) (i : Nat) : Nat := ob (0x3110 + 0x0100 * p) (0x08 + i)
/-- 0x3q10.0B ActivePowerTotal (R248). -/
def activePowerTotal (p : Nat) : Nat := ob (0x3110 + 0x0100 * p) 0x0B
/-- 0x3q10.0C ReactivePowerTotal (R248). -/
def reactivePowerTotal (p : Nat) : Nat := ob (0x3110 + 0x0100 * p) 0x0C
/-- 0x3q10.0D PowerFactor (R248). -/
def powerFactor (p : Nat) : Nat := ob (0x3110 + 0x0100 * p) 0x0D
/-- 0x3q10.0E ResidualRms (R248). -/
def residualRms (p : Nat) : Nat := ob (0x3110 + 0x0100 * p) 0x0E
/-- 0x3q20.01 PeriodsTotal (R248). -/
def periodsTotal (p : Nat) : Nat := ob (0x3120 + 0x0100 * p) 0x01
/-- 0x3q20.02 to .0F FlagCount0 to FlagCount13 (R248). -/
def flagCount (p : Nat) (i : Nat) : Nat := ob (0x3120 + 0x0100 * p) (0x02 + i)
/-- 0x3q20.10 FlagCount14 (R248). -/
def flagCount14 (p : Nat) : Nat := ob (0x3120 + 0x0100 * p) 0x10
/-- 0x3q20.11 UncommittedCount (R248). -/
def uncommittedCount (p : Nat) : Nat := ob (0x3120 + 0x0100 * p) 0x11
/-- 0x3q20.12 LastUncommittedBound (R248). -/
def lastUncommittedBound (p : Nat) : Nat := ob (0x3120 + 0x0100 * p) 0x12
/-- 0x3q30.01 NeutralMismatchLatched (R248). -/
def neutralMismatchLatched (p : Nat) : Nat := ob (0x3130 + 0x0100 * p) 0x01
/-- 0x3q30.02 ReverseEnergyLatched (R248). -/
def reverseEnergyLatched (p : Nat) : Nat := ob (0x3130 + 0x0100 * p) 0x02
/-- 0x3q30.03 EnergyInClearingLatched (R248). -/
def energyInClearingLatched (p : Nat) : Nat := ob (0x3130 + 0x0100 * p) 0x03
/-- 0x3q30.04 GapCounter (R248). -/
def gapCounter (p : Nat) : Nat := ob (0x3130 + 0x0100 * p) 0x04
/-- 0x3180.01 RingTime (R248). -/
def siteRingTime : Nat := ob 0x3180 0x01
/-- 0x3180.02 EnergyImportTotal (R248). -/
def siteEnergyImportTotal : Nat := ob 0x3180 0x02
/-- 0x3180.03 EnergyExportTotal (R248). -/
def siteEnergyExportTotal : Nat := ob 0x3180 0x03
/-- 0x3180.04 to .07 ReactiveQ1 to Q4 (R248). -/
def siteReactiveQ (i : Nat) : Nat := ob 0x3180 (0x04 + i)
/-- 0x3181.01 to .06 Accumulators (R248). -/
def siteAccumulator (i : Nat) : Nat := ob 0x3181 (0x01 + i)
/-- 0x3182.01 MissingNeutralLatched (R248). -/
def missingNeutralLatched : Nat := ob 0x3182 0x01
/-- 0x3182.02 ZeroSequenceVoltage (R248). -/
def zeroSequenceVoltage : Nat := ob 0x3182 0x02
/-- 0x3182.03 MagneticField (R248). -/
def magneticField : Nat := ob 0x3182 0x03
/-- 0x3182.04 MagnetAlarm (R248). -/
def magnetAlarm : Nat := ob 0x3182 0x04
/-- 0x3183.01 CommitNumber (R248). -/
def commitNumber : Nat := ob 0x3183 0x01
/-- 0x3183.02 NewestSlot (R248). -/
def newestSlot : Nat := ob 0x3183 0x02
/-- 0x3183.03 LastCommitDuration (R248). -/
def lastCommitDuration : Nat := ob 0x3183 0x03
/-- 0x3183.04 LateCommitCount (R248). -/
def lateCommitCount : Nat := ob 0x3183 0x04
/-- 0x3183.05 ReadBackFailCount (R248). -/
def readBackFailCount : Nat := ob 0x3183 0x05
/-- 0x3183.06 ValidRingsAtStart (R248). -/
def validRingsAtStart : Nat := ob 0x3183 0x06
/-- 0x3183.07 SiteUncommittedCount (R248). -/
def siteUncommittedCount : Nat := ob 0x3183 0x07
/-- 0x3183.08 SiteLastUncommittedBound (R248). -/
def siteLastUncommittedBound : Nat := ob 0x3183 0x08
/-- 0x3900+c.01 Offset (R218). -/
def offset (c : Nat) : Nat := ob (0x3900 + c) 0x01
/-- 0x3900+c.02 Gain (R218). -/
def gain (c : Nat) : Nat := ob (0x3900 + c) 0x02
/-- 0x3900+c.03 Delay (R218). -/
def delay (c : Nat) : Nat := ob (0x3900 + c) 0x03
/-- 0x3900+c.04 FullScale (R218). -/
def fullScale (c : Nat) : Nat := ob (0x3900 + c) 0x04
/-- 0x3900+c.05 to .0C OffsetBand0 to 7 (R218). -/
def offsetBand (c : Nat) (i : Nat) : Nat := ob (0x3900 + c) (0x05 + i)
/-- 0x3900+c.0D to .14 GainBand0 to 7 (R218). -/
def gainBand (c : Nat) (i : Nat) : Nat := ob (0x3900 + c) (0x0D + i)
/-- 0x3900+c.15 to .1C DelayBand0 to 7 (R218). -/
def delayBand (c : Nat) (i : Nat) : Nat := ob (0x3900 + c) (0x15 + i)
/-- 0x3980+p.01 NominalVoltage (R218). -/
def nominalVoltage (p : Nat) : Nat := ob (0x3980 + p) 0x01
/-- 0x3980+p.02 NominalCurrent (R218). -/
def nominalCurrent (p : Nat) : Nat := ob (0x3980 + p) 0x02
/-- 0x3980+p.03 NominalVoltageDc (R218). -/
def nominalVoltageDc (p : Nat) : Nat := ob (0x3980 + p) 0x03
/-- 0x3980+p.04 NominalCurrentDc (R218). -/
def nominalCurrentDc (p : Nat) : Nat := ob (0x3980 + p) 0x04
/-- 0x3988.01 NominalFrequency (R218). -/
def nominalFrequency : Nat := ob 0x3988 0x01
/-- 0x3988.02 SiteNominalVoltage (R218). -/
def siteNominalVoltage : Nat := ob 0x3988 0x02
/-- 0x3989.01 to .07 BandEdge1 to 7 (R218). -/
def bandEdge (i : Nat) : Nat := ob 0x3989 (0x01 + i)
/-- 0x39F0.01 CalibrationCheck (R218). -/
def calibrationCheck : Nat := ob 0x39F0 0x01
/-- 0x39F0.02 CalibrationTime (R218). -/
def calibrationTime : Nat := ob 0x39F0 0x02
/-- 0x39F0.03 CalibrationCount (R218). -/
def calibrationCount : Nat := ob 0x39F0 0x03
/-- 0x4000.01 ActiveCalendarId (R276). -/
def activeCalendarId : Nat := ob 0x4000 0x01
/-- 0x4000.02 ActiveCalendarName (R276). -/
def activeCalendarName : Nat := ob 0x4000 0x02
/-- 0x4000.03 ActiveCalendarCheck (R276). -/
def activeCalendarCheck : Nat := ob 0x4000 0x03
/-- 0x4000.04 ActivatedAt (R276). -/
def activatedAt : Nat := ob 0x4000 0x04
/-- 0x4000.05 ActiveLocalOffset (R276). -/
def activeLocalOffset : Nat := ob 0x4000 0x05
/-- 0x4000.06 TariffInForce (R276). -/
def tariffInForce : Nat := ob 0x4000 0x06
/-- 0x4000.07 SeasonInForce (R276). -/
def seasonInForce : Nat := ob 0x4000 0x07
/-- 0x4000.08 DayProfileInForce (R276). -/
def dayProfileInForce : Nat := ob 0x4000 0x08
/-- 0x4000.09 DayKind (R276). -/
def dayKind : Nat := ob 0x4000 0x09
/-- 0x4000.0A NextSwitchTime (R276). -/
def nextSwitchTime : Nat := ob 0x4000 0x0A
/-- 0x4000.0B NextTariff (R276). -/
def nextTariff : Nat := ob 0x4000 0x0B
/-- 0x4010.01 PassiveCalendarId (R276). -/
def passiveCalendarId : Nat := ob 0x4010 0x01
/-- 0x4010.02 PassiveCalendarName (R276). -/
def passiveCalendarName : Nat := ob 0x4010 0x02
/-- 0x4010.03 PassiveLocalOffset (R276). -/
def passiveLocalOffset : Nat := ob 0x4010 0x03
/-- 0x4010.04 ActivationMode (R276). -/
def calendarActivationMode : Nat := ob 0x4010 0x04
/-- 0x4010.05 ActivationTime (R276). -/
def calendarActivationTime : Nat := ob 0x4010 0x05
/-- 0x4010.06 LatePolicy (R276). -/
def calendarLatePolicy : Nat := ob 0x4010 0x06
/-- 0x4010.07 CloseBillingOnActivation (R276). -/
def closeBillingOnActivation : Nat := ob 0x4010 0x07
/-- 0x4010.08 PassiveState (R276). -/
def passiveState : Nat := ob 0x4010 0x08
/-- 0x4010.09 PassiveCheck (R276). -/
def passiveCheck : Nat := ob 0x4010 0x09
/-- 0x4020+i.01 SeasonStartMonth (R276). -/
def seasonStartMonth (i : Nat) : Nat := ob (0x4020 + i) 0x01
/-- 0x4020+i.02 SeasonStartDay (R276). -/
def seasonStartDay (i : Nat) : Nat := ob (0x4020 + i) 0x02
/-- 0x4020+i.03 SeasonWeekProfile (R276). -/
def seasonWeekProfile (i : Nat) : Nat := ob (0x4020 + i) 0x03
/-- 0x4030+w.01 to .07 WeekDayProfile (R276). -/
def weekDayProfile (w : Nat) (i : Nat) : Nat := ob (0x4030 + w) (0x01 + i)
/-- 0x4040+d.01 SwitchCount (R276). -/
def switchCount (d : Nat) : Nat := ob (0x4040 + d) 0x01
/-- 0x4040+d.02 to .19 SwitchPoint1 to 24 (R276). -/
def switchPoint (d : Nat) (i : Nat) : Nat := ob (0x4040 + d) (0x02 + i)
/-- 0x4060.01 SpecialCount (R276). -/
def specialCount : Nat := ob 0x4060 0x01
/-- 0x4061.01 to .80 SpecialDay1 to 128 (R276). -/
def specialDay (i : Nat) : Nat := ob 0x4061 (0x01 + i)
/-- Active copy of 0x4020+i.01 SeasonStartMonth (R276). -/
def activeSeasonStartMonth (i : Nat) : Nat := ob (0x4120 + i) 0x01
/-- Active copy of 0x4020+i.02 SeasonStartDay (R276). -/
def activeSeasonStartDay (i : Nat) : Nat := ob (0x4120 + i) 0x02
/-- Active copy of 0x4020+i.03 SeasonWeekProfile (R276). -/
def activeSeasonWeekProfile (i : Nat) : Nat := ob (0x4120 + i) 0x03
/-- Active copy of 0x4030+w.01 to .07 WeekDayProfile (R276). -/
def activeWeekDayProfile (w : Nat) (i : Nat) : Nat := ob (0x4130 + w) (0x01 + i)
/-- Active copy of 0x4040+d.01 SwitchCount (R276). -/
def activeSwitchCount (d : Nat) : Nat := ob (0x4140 + d) 0x01
/-- Active copy of 0x4040+d.02 to .19 SwitchPoint1 to 24 (R276). -/
def activeSwitchPoint (d : Nat) (i : Nat) : Nat := ob (0x4140 + d) (0x02 + i)
/-- Active copy of 0x4060.01 SpecialCount (R276). -/
def activeSpecialCount : Nat := ob 0x4160 0x01
/-- Active copy of 0x4061.01 to .80 SpecialDay1 to 128 (R276). -/
def activeSpecialDay (i : Nat) : Nat := ob 0x4161 (0x01 + i)
/-- 0x4200.01 DemandInterval (R276). -/
def demandInterval : Nat := ob 0x4200 0x01
/-- 0x4200.02 DemandMethod (R276). -/
def demandMethod : Nat := ob 0x4200 0x02
/-- 0x4200.03 SubIntervals (R276). -/
def subIntervals : Nat := ob 0x4200 0x03
/-- 0x4200.04 DemandAlign (R276). -/
def demandAlign : Nat := ob 0x4200 0x04
/-- 0x4200.05 SubIntervalStart (R276). -/
def subIntervalStart : Nat := ob 0x4200 0x05
/-- 0x4200.06 SubIntervalsInRun (R276). -/
def subIntervalsInRun : Nat := ob 0x4200 0x06
/-- 0x4200.07 AlignmentState (R276). -/
def alignmentState : Nat := ob 0x4200 0x07
/-- 0x4210+e.01 LastDemandImport (R276). -/
def lastDemandImport (e : Nat) : Nat := ob (0x4210 + e) 0x01
/-- 0x4210+e.02 LastDemandExport (R276). -/
def lastDemandExport (e : Nat) : Nat := ob (0x4210 + e) 0x02
/-- 0x4210+e.03 LastDemandTime (R276). -/
def lastDemandTime (e : Nat) : Nat := ob (0x4210 + e) 0x03
/-- 0x4210+e.04 LastDemandFlags (R276). -/
def lastDemandFlags (e : Nat) : Nat := ob (0x4210 + e) 0x04
/-- 0x4210+e.05 MaxDemandImport (R276). -/
def maxDemandImport (e : Nat) : Nat := ob (0x4210 + e) 0x05
/-- 0x4210+e.06 MaxDemandImportTime (R276). -/
def maxDemandImportTime (e : Nat) : Nat := ob (0x4210 + e) 0x06
/-- 0x4210+e.07 MaxDemandExport (R276). -/
def maxDemandExport (e : Nat) : Nat := ob (0x4210 + e) 0x07
/-- 0x4210+e.08 MaxDemandExportTime (R276). -/
def maxDemandExportTime (e : Nat) : Nat := ob (0x4210 + e) 0x08
/-- 0x4300.01 BillingSchedule (R276). -/
def billingSchedule : Nat := ob 0x4300 0x01
/-- 0x4300.02 BillingDay (R276). -/
def billingDay : Nat := ob 0x4300 0x02
/-- 0x4300.03 BillingTime (R276). -/
def billingTime : Nat := ob 0x4300 0x03
/-- 0x4300.04 ProfileInterval (R276). -/
def profileInterval : Nat := ob 0x4300 0x04
/-- 0x4300.05 ProfileEnable (R276). -/
def profileEnable : Nat := ob 0x4300 0x05
/-- 0x4301.01 BillingPeriod (R276). -/
def billingPeriod : Nat := ob 0x4301 0x01
/-- 0x4301.02 BillingStart (R276). -/
def billingStart : Nat := ob 0x4301 0x02
/-- 0x4301.03 NextBillingClose (R276). -/
def nextBillingClose : Nat := ob 0x4301 0x03
/-- 0x4301.04 SnapshotCount (R276). -/
def snapshotCount : Nat := ob 0x4301 0x04
/-- 0x4301.05 CloseNow (R276). -/
def closeNow : Nat := ob 0x4301 0x05
/-- 0x4310+e.01 to .18 Snapshot (R276). -/
def snapshot (e : Nat) (i : Nat) : Nat := ob (0x4310 + e) (0x01 + i)
/-- 0x4400.01 ProfileRecordCount (R276). -/
def profileRecordCount : Nat := ob 0x4400 0x01
/-- 0x4400.02 NewestRecordTime (R276). -/
def newestRecordTime : Nat := ob 0x4400 0x02
/-- 0x4500+k.01 ProfileDay (R276). -/
def profileDay (k : Nat) : Nat := ob (0x4500 + k) 0x01
/-- 0x4700.01 SetTime (R276). -/
def setTime : Nat := ob 0x4700 0x01
/-- 0x4700.02 TimeFlags (R276). -/
def timeFlags : Nat := ob 0x4700 0x02
/-- 0x4700.03 SlewRemaining (R276). -/
def slewRemaining : Nat := ob 0x4700 0x03
/-- 0x4700.04 LastStepOld (R276). -/
def lastStepOld : Nat := ob 0x4700 0x04
/-- 0x4700.05 LastStepNew (R276). -/
def lastStepNew : Nat := ob 0x4700 0x05
/-- 0x4700.06 HighWater (R276). -/
def timeHighWater : Nat := ob 0x4700 0x06
/-- 0x4700.07 TimeFromCanopy (R276). -/
def timeFromCanopy : Nat := ob 0x4700 0x07
/-- 0x4700.08 LastBoundaryStep (R276). -/
def lastBoundaryStep : Nat := ob 0x4700 0x08
/-- 0x4700.09 LateBoundaryCount (R276). -/
def lateBoundaryCount : Nat := ob 0x4700 0x09
/-- 0x4700.0A StepCount (R276). -/
def timeStepCount : Nat := ob 0x4700 0x0A
/-- 0x4800+e.01 to .10 TariffImportT1 to T16 (R276). -/
def tariffImportT (e : Nat) (i : Nat) : Nat := ob (0x4800 + e) (0x01 + i)
/-- 0x4800+e.11 to .20 TariffExportT1 to T16 (R276). -/
def tariffExportT (e : Nat) (i : Nat) : Nat := ob (0x4800 + e) (0x11 + i)
/-- 0x4810+e.01 to .10 TariffImportAccT1 to T16 (R276). -/
def tariffImportAccT (e : Nat) (i : Nat) : Nat := ob (0x4810 + e) (0x01 + i)
/-- 0x4810+e.11 to .20 TariffExportAccT1 to T16 (R276). -/
def tariffExportAccT (e : Nat) (i : Nat) : Nat := ob (0x4810 + e) (0x11 + i)
/-- 0x5000.01 AccountCount (R305). -/
def accountCount : Nat := ob 0x5000 0x01
/-- 0x5000.02 FreeSlots (R305). -/
def freeSlots : Nat := ob 0x5000 0x02
/-- 0x5000.03 LedgerCorruptCount (R305). -/
def ledgerCorruptCount : Nat := ob 0x5000 0x03
/-- 0x5000.04 ReconciledUpTo (R305). -/
def reconciledUpTo : Nat := ob 0x5000 0x04
/-- 0x5000.05 UnreconciledCount (R305). -/
def unreconciledCount : Nat := ob 0x5000 0x05
/-- 0x5000.06 ReconcileGuard (R305). -/
def reconcileGuard : Nat := ob 0x5000 0x06
/-- 0x5010.01 SelectAccount (R305). -/
def selectAccount : Nat := ob 0x5010 0x01
/-- 0x5010.02 SelectedRecord (R305). -/
def selectedRecord : Nat := ob 0x5010 0x02
/-- 0x5010.03 SelectedSlot (R305). -/
def selectedSlot : Nat := ob 0x5010 0x03
/-- 0x5010.04 SelectedTokenState (R305). -/
def selectedTokenState : Nat := ob 0x5010 0x04
/-- 0x5010.05 SelectedAvailable (R305). -/
def selectedAvailable : Nat := ob 0x5010 0x05
/-- 0x5011.01 WriteRecord (R305). -/
def writeRecord : Nat := ob 0x5011 0x01
/-- 0x5020.01 TokenAccount (R305). -/
def tokenAccount : Nat := ob 0x5020 0x01
/-- 0x5020.02 TokenSubmit (R305). -/
def tokenSubmit : Nat := ob 0x5020 0x02
/-- 0x5020.03 LastTokenResult (R305). -/
def lastTokenResult : Nat := ob 0x5020 0x03
/-- 0x5020.04 LastTokenAccount (R305). -/
def lastTokenAccount : Nat := ob 0x5020 0x04
/-- 0x5020.05 LastTokenAmount (R305). -/
def lastTokenAmount : Nat := ob 0x5020 0x05
/-- 0x5020.06 LastTokenClass (R305). -/
def lastTokenClass : Nat := ob 0x5020 0x06
/-- 0x5020.07 LastTokenTime (R305). -/
def lastTokenTime : Nat := ob 0x5020 0x07
/-- 0x5020.08 TokenAcceptCount (R305). -/
def tokenAcceptCount : Nat := ob 0x5020 0x08
/-- 0x5020.09 TokenRefuseCount (R305). -/
def tokenRefuseCount : Nat := ob 0x5020 0x09
/-- 0x5020.0A KeypadLocked (R305). -/
def keypadLocked : Nat := ob 0x5020 0x0A
/-- 0x5021.01 HostCredit (R305). -/
def hostCredit : Nat := ob 0x5021 0x01
/-- 0x5021.02 HostCreditSequence (R305). -/
def hostCreditSequence : Nat := ob 0x5021 0x02
/-- 0x5030.01 TokenMemory (R305). -/
def tokenMemory : Nat := ob 0x5030 0x01
/-- 0x5030.02 CardFrameErrorCount (R305). -/
def cardFrameErrorCount : Nat := ob 0x5030 0x02
/-- 0x5100.01 MinStartCredit (R305). -/
def minStartCredit : Nat := ob 0x5100 0x01
/-- 0x5100.02 ReconnectCredit (R305). -/
def reconnectCredit : Nat := ob 0x5100 0x02
/-- 0x5100.03 LowCreditThreshold (R305). -/
def lowCreditThreshold : Nat := ob 0x5100 0x03
/-- 0x5100.04 MaxSessionsPerAccount (R305). -/
def maxSessionsPerAccount : Nat := ob 0x5100 0x04
/-- 0x5100.05 HostAuthMode (R305). -/
def hostAuthMode : Nat := ob 0x5100 0x05
/-- 0x5100.06 HostAuthTimeoutMs (R305). -/
def hostAuthTimeoutMs : Nat := ob 0x5100 0x06
/-- 0x5100.07 AutoReconnect (R305). -/
def autoReconnect : Nat := ob 0x5100 0x07
/-- 0x5100.08 TokenScale (R305). -/
def tokenScale : Nat := ob 0x5100 0x08
/-- 0x5100.09 TokenAlgorithm (R305). -/
def tokenAlgorithm : Nat := ob 0x5100 0x09
/-- 0x5100.0A TidWindowHours (R305). -/
def tidWindowHours : Nat := ob 0x5100 0x0A
/-- 0x5100.0B FriendlyNewSessions (R305). -/
def friendlyNewSessions : Nat := ob 0x5100 0x0B
/-- 0x5100.0C PriceSetId (R305). -/
def priceSetId : Nat := ob 0x5100 0x0C
/-- 0x5100.0D KeypadEnable (R305). -/
def keypadEnable : Nat := ob 0x5100 0x0D
/-- 0x5100.0E KeypadRowGpio (R305). -/
def keypadRowGpio : Nat := ob 0x5100 0x0E
/-- 0x5100.0F KeypadColumnGpio (R305). -/
def keypadColumnGpio : Nat := ob 0x5100 0x0F
/-- 0x5100.10 CardReaderUart (R305). -/
def cardReaderUart : Nat := ob 0x5100 0x10
/-- 0x5100.11 CardReaderRate (R305). -/
def cardReaderRate : Nat := ob 0x5100 0x11
/-- 0x5100.12 CardReaderPort (R305). -/
def cardReaderPort : Nat := ob 0x5100 0x12
/-- 0x5110+k.01 to .10 ImportPriceT1 to T16 (R305). -/
def importPriceT (k : Nat) (i : Nat) : Nat := ob (0x5110 + k) (0x01 + i)
/-- 0x5110+k.11 to .20 ExportPriceT1 to T16 (R305). -/
def exportPriceT (k : Nat) (i : Nat) : Nat := ob (0x5110 + k) (0x11 + i)
/-- 0x5110+k.21 SessionFee (R305). -/
def sessionFee (k : Nat) : Nat := ob (0x5110 + k) 0x21
/-- 0x5200+w.01 WindowStart (R305). -/
def windowStart (w : Nat) : Nat := ob (0x5200 + w) 0x01
/-- 0x5200+w.02 WindowEnd (R305). -/
def windowEnd (w : Nat) : Nat := ob (0x5200 + w) 0x02
/-- 0x5200+w.03 DayMask (R305). -/
def dayMask (w : Nat) : Nat := ob (0x5200 + w) 0x03
/-- 0x5200+w.04 ClassMask (R305). -/
def classMask (w : Nat) : Nat := ob (0x5200 + w) 0x04
/-- 0x5200+w.05 WindowEnable (R305). -/
def windowEnable (w : Nat) : Nat := ob (0x5200 + w) 0x05
/-- 0x5210+f.01 FriendlyMaxDebt (R305). -/
def friendlyMaxDebt (f : Nat) : Nat := ob (0x5210 + f) 0x01
/-- 0x5300+p.01 BoundAccount (R305). -/
def boundAccount (p : Nat) : Nat := ob (0x5300 + p) 0x01
/-- 0x5300+p.02 BoundSlot (R305). -/
def boundSlot (p : Nat) : Nat := ob (0x5300 + p) 0x02
/-- 0x5300+p.03 RunningNetCost (R305). -/
def runningNetCost (p : Nat) : Nat := ob (0x5300 + p) 0x03
/-- 0x5300+p.04 Available (R305). -/
def creditAvailable (p : Nat) : Nat := ob (0x5300 + p) 0x04
/-- 0x5300+p.05 OpeningCommit (R305). -/
def openingCommit (p : Nat) : Nat := ob (0x5300 + p) 0x05
/-- 0x5300+p.06 CreditState (R305). -/
def creditState (p : Nat) : Nat := ob (0x5300 + p) 0x06
/-- 0x5300+p.07 PriceClass (R305). -/
def priceClass (p : Nat) : Nat := ob (0x5300 + p) 0x07
/-- 0x5300+p.08 DebitApplied (R305). -/
def debitApplied (p : Nat) : Nat := ob (0x5300 + p) 0x08
/-- 0x5300+p.09 AuthPending (R305). -/
def authPending (p : Nat) : Nat := ob (0x5300 + p) 0x09
/-- 0x5300+p.0A AuthAnswer (R305). -/
def authAnswer (p : Nat) : Nat := ob (0x5300 + p) 0x0A
/-- 0x5300+p.0B ExternalId (R305). -/
def externalId (p : Nat) : Nat := ob (0x5300 + p) 0x0B
/-- 0x6000.01 EstopUsed (R369). -/
def estopUsed : Nat := ob 0x6000 0x01
/-- 0x6000.02 EstopDiscrepancyMs (R369). -/
def estopDiscrepancyMs : Nat := ob 0x6000 0x02
/-- 0x6000.03 DeenUsed (R369). -/
def deenUsed : Nat := ob 0x6000 0x03
/-- 0x6000.04 DeenDiscrepancyMs (R369). -/
def deenDiscrepancyMs : Nat := ob 0x6000 0x04
/-- 0x6000.05 Aux0Function (R369). -/
def aux0Function : Nat := ob 0x6000 0x05
/-- 0x6000.06 Aux0PortMask (R369). -/
def aux0PortMask : Nat := ob 0x6000 0x06
/-- 0x6000.07 Aux0DiscrepancyMs (R369). -/
def aux0DiscrepancyMs : Nat := ob 0x6000 0x07
/-- 0x6000.08 Aux1Function (R369). -/
def aux1Function : Nat := ob 0x6000 0x08
/-- 0x6000.09 Aux1PortMask (R369). -/
def aux1PortMask : Nat := ob 0x6000 0x09
/-- 0x6000.0A Aux1DiscrepancyMs (R369). -/
def aux1DiscrepancyMs : Nat := ob 0x6000 0x0A
/-- 0x6000.0B RestartPolicy (R369). -/
def restartPolicy : Nat := ob 0x6000 0x0B
/-- 0x6000.0C OutputTestPulse (R369). -/
def outputTestPulse : Nat := ob 0x6000 0x0C
/-- 0x6010.01 PenLimit (R369). -/
def penLimit : Nat := ob 0x6010 0x01
/-- 0x6010.02 GridLowPercent (R369). -/
def gridLowPercent : Nat := ob 0x6010 0x02
/-- 0x6010.03 GridHighPercent (R369). -/
def gridHighPercent : Nat := ob 0x6010 0x03
/-- 0x6010.04 GridFrequencyLow (R369). -/
def gridFrequencyLow : Nat := ob 0x6010 0x04
/-- 0x6010.05 GridFrequencyHigh (R369). -/
def gridFrequencyHigh : Nat := ob 0x6010 0x05
/-- 0x6010.06 GridReconnectS (R369). -/
def gridReconnectS : Nat := ob 0x6010 0x06
/-- 0x6100+p.01 RampTime (R369). -/
def rampTime (p : Nat) : Nat := ob (0x6100 + p) 0x01
/-- 0x6100+p.02 FollowTolerance (R369). -/
def followTolerance (p : Nat) : Nat := ob (0x6100 + p) 0x02
/-- 0x6100+p.03 RcdEnable (R369). -/
def rcdEnable (p : Nat) : Nat := ob (0x6100 + p) 0x03
/-- 0x6100+p.04 RcdAcTrip (R369). -/
def rcdAcTrip (p : Nat) : Nat := ob (0x6100 + p) 0x04
/-- 0x6100+p.05 ImdEnable (R369). -/
def imdEnable (p : Nat) : Nat := ob (0x6100 + p) 0x05
/-- 0x6100+p.06 ImdWarning (R369). -/
def imdWarning (p : Nat) : Nat := ob (0x6100 + p) 0x06
/-- 0x6100+p.07 ImdFault (R369). -/
def imdFault (p : Nat) : Nat := ob (0x6100 + p) 0x07
/-- 0x6100+p.08 ImdFrequency (R369). -/
def imdFrequency (p : Nat) : Nat := ob (0x6100 + p) 0x08
/-- 0x6180+k.01 SensorPort (R369). -/
def sensorPort (k : Nat) : Nat := ob (0x6180 + k) 0x01
/-- 0x6180+k.02 DerateStart (R369). -/
def derateStart (k : Nat) : Nat := ob (0x6180 + k) 0x02
/-- 0x6180+k.03 TripLimit (R369). -/
def tripLimit (k : Nat) : Nat := ob (0x6180 + k) 0x03
/-- 0x6200.01 ComputedCheck (R369). -/
def computedCheck : Nat := ob 0x6200 0x01
/-- 0x6200.02 ConfirmCheck (R369). -/
def confirmCheck : Nat := ob 0x6200 0x02
/-- 0x6200.03 CommissionState (R369). -/
def commissionState : Nat := ob 0x6200 0x03
/-- 0x6200.04 ConfirmedCheck (R369). -/
def confirmedCheck : Nat := ob 0x6200 0x04
/-- 0x6200.05 ConfirmRemaining (R369). -/
def confirmRemaining : Nat := ob 0x6200 0x05
/-- 0x6200.06 CommissionedAt (R369). -/
def commissionedAt : Nat := ob 0x6200 0x06
/-- 0x6300.01 InputState (R369). -/
def inputState : Nat := ob 0x6300 0x01
/-- 0x6300.02 DiscrepancyLatched (R369). -/
def discrepancyLatched : Nat := ob 0x6300 0x02
/-- 0x6300.03 ResetStuck (R369). -/
def resetStuck : Nat := ob 0x6300 0x03
/-- 0x6300.04 SafeOut (R369). -/
def safeOut : Nat := ob 0x6300 0x04
/-- 0x6300.05 FirebreakRunning (R369). -/
def firebreakRunning : Nat := ob 0x6300 0x05
/-- 0x6300.06 GridState (R369). -/
def gridState : Nat := ob 0x6300 0x06
/-- 0x6300.07 PenRms (R369). -/
def penRms : Nat := ob 0x6300 0x07
/-- 0x6300.08 LastResetEdge (R369). -/
def lastResetEdge : Nat := ob 0x6300 0x08
/-- 0x6310+p.01 Level1Causes (R369). -/
def level1Causes (p : Nat) : Nat := ob (0x6310 + p) 0x01
/-- 0x6310+p.02 RampActive (R369). -/
def rampActive (p : Nat) : Nat := ob (0x6310 + p) 0x02
/-- 0x6310+p.03 EnvelopeNow (R369). -/
def envelopeNow (p : Nat) : Nat := ob (0x6310 + p) 0x03
/-- 0x6310+p.04 RampStartCurrent (R369). -/
def rampStartCurrent (p : Nat) : Nat := ob (0x6310 + p) 0x04
/-- 0x6310+p.05 ResidualDc (R369). -/
def residualDc (p : Nat) : Nat := ob (0x6310 + p) 0x05
/-- 0x6310+p.06 ResidualAcRms (R369). -/
def residualAcRms (p : Nat) : Nat := ob (0x6310 + p) 0x06
/-- 0x6310+p.07 InsulationResistance (R369). -/
def insulationResistance (p : Nat) : Nat := ob (0x6310 + p) 0x07
/-- 0x6310+p.08 RcdTestResult (R369). -/
def rcdTestResult (p : Nat) : Nat := ob (0x6310 + p) 0x08
/-- 0x6310+p.09 ContactorFault (R369). -/
def contactorFault (p : Nat) : Nat := ob (0x6310 + p) 0x09
/-- 0x6310+p.0A TemperatureLimit (R369). -/
def temperatureLimit (p : Nat) : Nat := ob (0x6310 + p) 0x0A
/-- 0x6320+k.01 SensorTemperature (R369). -/
def sensorTemperature (k : Nat) : Nat := ob (0x6320 + k) 0x01
/-- 0x6320+k.02 SensorState (R369). -/
def sensorState (k : Nat) : Nat := ob (0x6320 + k) 0x02
/-- 0x6400+p.01 ContactorFaultClear (R369). -/
def contactorFaultClear (p : Nat) : Nat := ob (0x6400 + p) 0x01
/-- 0x6500.01 EstopCount (R369). -/
def estopCount : Nat := ob 0x6500 0x01
/-- 0x6500.02 DiscrepancyCount (R369). -/
def discrepancyCount : Nat := ob 0x6500 0x02
/-- 0x6500.03 ResidualTripCount (R369). -/
def residualTripCount : Nat := ob 0x6500 0x03
/-- 0x6500.04 InsulationTripCount (R369). -/
def insulationTripCount : Nat := ob 0x6500 0x04
/-- 0x6500.05 PenTripCount (R369). -/
def penTripCount : Nat := ob 0x6500 0x05
/-- 0x6500.06 ContactorFaultCount (R369). -/
def contactorFaultCount : Nat := ob 0x6500 0x06
/-- 0x6500.07 GridLossCount (R369). -/
def gridLossCount : Nat := ob 0x6500 0x07
/-- 0x6500.08 FirebreakFaultCount (R369). -/
def firebreakFaultCount : Nat := ob 0x6500 0x08
/-- 0x6500.09 OutputFaultCount (R369). -/
def outputFaultCount : Nat := ob 0x6500 0x09
/-- 0x6500.0A ResetEdgeCount (R369). -/
def resetEdgeCount : Nat := ob 0x6500 0x0A
/-- 0x6500.0B ResetStuckCount (R369). -/
def resetStuckCount : Nat := ob 0x6500 0x0B
/-- 0x7000.01 Enable (R407). -/
def canopyEnable : Nat := ob 0x7000 0x01
/-- 0x7000.02 CoordinatorAllowed (R407). -/
def coordinatorAllowed : Nat := ob 0x7000 0x02
/-- 0x7000.03 PreferredNetworkId (R407). -/
def preferredNetworkId : Nat := ob 0x7000 0x03
/-- 0x7000.04 SpanSymbols (R407). -/
def spanSymbols : Nat := ob 0x7000 0x04
/-- 0x7000.05 ToneMapRefreshS (R407). -/
def toneMapRefreshS : Nat := ob 0x7000 0x05
/-- 0x7000.06 NifInterval (R407). -/
def nifInterval : Nat := ob 0x7000 0x06
/-- 0x7000.07 DrezuMode (R407). -/
def drezuMode : Nat := ob 0x7000 0x07
/-- 0x7000.08 LoadReportInterval (R407). -/
def loadReportInterval : Nat := ob 0x7000 0x08
/-- 0x7000.09 ReadFromCoordinator (R407). -/
def readFromCoordinator : Nat := ob 0x7000 0x09
/-- 0x7001.01 to .06 HalfCycleMask0 to 5 (R407). -/
def halfCycleMask (i : Nat) : Nat := ob 0x7001 (0x01 + i)
/-- 0x7010.01 NodeState (R407). -/
def nodeState : Nat := ob 0x7010 0x01
/-- 0x7010.02 ShortAddress (R407). -/
def shortAddress : Nat := ob 0x7010 0x02
/-- 0x7010.03 NetworkId (R407). -/
def networkId : Nat := ob 0x7010 0x03
/-- 0x7010.04 CoordinatorLong (R407). -/
def coordinatorLong : Nat := ob 0x7010 0x04
/-- 0x7010.05 CoordinatorRank (R407). -/
def coordinatorRank : Nat := ob 0x7010 0x05
/-- 0x7010.06 GridCycleNumber (R407). -/
def gridCycleNumber : Nat := ob 0x7010 0x06
/-- 0x7010.07 GcnValid (R407). -/
def gcnValid : Nat := ob 0x7010 0x07
/-- 0x7010.08 PhaseCode (R407). -/
def phaseCode : Nat := ob 0x7010 0x08
/-- 0x7010.09 PhaseOffset (R407). -/
def phaseOffset : Nat := ob 0x7010 0x09
/-- 0x7010.0A ReversedOrLineToLine (R407). -/
def reversedOrLineToLine : Nat := ob 0x7010 0x0A
/-- 0x7010.0B MissedBeaconRun (R407). -/
def missedBeaconRun : Nat := ob 0x7010 0x0B
/-- 0x7010.0C NeighbourCount (R407). -/
def neighbourCount : Nat := ob 0x7010 0x0C
/-- 0x7010.0D HeadroomUse (R407). -/
def headroomUse : Nat := ob 0x7010 0x0D
/-- 0x7010.0E JoinedSince (R407). -/
def joinedSince : Nat := ob 0x7010 0x0E
/-- 0x7020.01 FramesSent (R407). -/
def framesSent : Nat := ob 0x7020 0x01
/-- 0x7020.02 FramesReceived (R407). -/
def framesReceived : Nat := ob 0x7020 0x02
/-- 0x7020.03 HeaderFailCount (R407). -/
def headerFailCount : Nat := ob 0x7020 0x03
/-- 0x7020.04 BodyFailCount (R407). -/
def bodyFailCount : Nat := ob 0x7020 0x04
/-- 0x7020.05 RetransmitCount (R407). -/
def retransmitCount : Nat := ob 0x7020 0x05
/-- 0x7020.06 DroppedFrames (R407). -/
def droppedFrames : Nat := ob 0x7020 0x06
/-- 0x7020.07 ErasedSymbols (R407). -/
def erasedSymbols : Nat := ob 0x7020 0x07
/-- 0x7020.08 ToneMapRefreshCount (R407). -/
def toneMapRefreshCount : Nat := ob 0x7020 0x08
/-- 0x7020.09 AuthFailCount (R407). -/
def canopyAuthFailCount : Nat := ob 0x7020 0x09
/-- 0x7020.0A ReplayCount (R407). -/
def canopyReplayCount : Nat := ob 0x7020 0x0A
/-- 0x7020.0B JoinCount (R407). -/
def joinCount : Nat := ob 0x7020 0x0B
/-- 0x7020.0C DetachCount (R407). -/
def detachCount : Nat := ob 0x7020 0x0C
/-- 0x7020.0D ElectionCount (R407). -/
def electionCount : Nat := ob 0x7020 0x0D
/-- 0x7030.01 Rejoin (R407). -/
def rejoin : Nat := ob 0x7030 0x01
/-- 0x7030.02 RefreshToneMaps (R407). -/
def refreshToneMaps : Nat := ob 0x7030 0x02
/-- 0x7100+n.01 Present (R407). -/
def neighbourPresent (n : Nat) : Nat := ob (0x7100 + n) 0x01
/-- 0x7100+n.02 LongAddress (R407). -/
def longAddress (n : Nat) : Nat := ob (0x7100 + n) 0x02
/-- 0x7100+n.03 NeighbourAddress (R407). -/
def neighbourAddress (n : Nat) : Nat := ob (0x7100 + n) 0x03
/-- 0x7100+n.04 TxToneMapId (R407). -/
def txToneMapId (n : Nat) : Nat := ob (0x7100 + n) 0x04
/-- 0x7100+n.05 TxPairMask (R407). -/
def txPairMask (n : Nat) : Nat := ob (0x7100 + n) 0x05
/-- 0x7100+n.06 TxThresholds (R407). -/
def txThresholds (n : Nat) : Nat := ob (0x7100 + n) 0x06
/-- 0x7100+n.07 RxToneMapId (R407). -/
def rxToneMapId (n : Nat) : Nat := ob (0x7100 + n) 0x07
/-- 0x7100+n.08 Capabilities (R407). -/
def neighbourCapabilities (n : Nat) : Nat := ob (0x7100 + n) 0x08
/-- 0x7100+n.09 NeighbourPhase (R407). -/
def neighbourPhase (n : Nat) : Nat := ob (0x7100 + n) 0x09
/-- 0x7100+n.0A MaxPayload (R407). -/
def maxPayload (n : Nat) : Nat := ob (0x7100 + n) 0x0A
/-- 0x7100+n.0B FailRun (R407). -/
def failRun (n : Nat) : Nat := ob (0x7100 + n) 0x0B
/-- 0x7100+n.0C LastSeen (R407). -/
def neighbourLastSeen (n : Nat) : Nat := ob (0x7100 + n) 0x0C
/-- 0x8000.01 FuseState (R453). -/
def fuseState : Nat := ob 0x8000 0x01
/-- 0x8000.02 BurlState (R453). -/
def burlState : Nat := ob 0x8000 0x02
/-- 0x8000.03 SelfTestResult (R453). -/
def selfTestResult : Nat := ob 0x8000 0x03
/-- 0x8000.04 LegalRefusals (R453). -/
def legalRefusals : Nat := ob 0x8000 0x04
/-- 0x8000.05 KeyWriteCounter (R453). -/
def keyWriteCounter : Nat := ob 0x8000 0x05
/-- 0x8000.06 ImportCounter (R453). -/
def importCounter : Nat := ob 0x8000 0x06
/-- 0x8000.07 Commission (R453). -/
def commission : Nat := ob 0x8000 0x07
/-- 0x8010.01 KeyImport (R453). -/
def keyImport : Nat := ob 0x8010 0x01
/-- 0x8010.02 KeyGenerate (R453). -/
def keyGenerate : Nat := ob 0x8010 0x02
/-- 0x8010.03 KeyErase (R453). -/
def keyErase : Nat := ob 0x8010 0x03
/-- 0x8010.04 KeyOpState (R453). -/
def keyOpState : Nat := ob 0x8010 0x04
/-- 0x8010.05 KeyOpSlot (R453). -/
def keyOpSlot : Nat := ob 0x8010 0x05
/-- 0x8010.06 KeyOpResult (R453). -/
def keyOpResult : Nat := ob 0x8010 0x06
/-- 0x8100+n.01 KeyType (R453). -/
def keyType (n : Nat) : Nat := ob (0x8100 + n) 0x01
/-- 0x8100+n.02 Attributes (R453). -/
def keyAttributes (n : Nat) : Nat := ob (0x8100 + n) 0x02
/-- 0x8100+n.03 GenerationWord (R453). -/
def generationWord (n : Nat) : Nat := ob (0x8100 + n) 0x03
/-- 0x8100+n.04 KeyId (R453). -/
def keyId (n : Nat) : Nat := ob (0x8100 + n) 0x04
/-- 0x8100+n.05 PublicKey (R453). -/
def publicKey (n : Nat) : Nat := ob (0x8100 + n) 0x05
/-- 0x8100+n.06 UseCount (R453). -/
def useCount (n : Nat) : Nat := ob (0x8100 + n) 0x06
/-- 0x8100+n.07 RefusedCount (R453). -/
def refusedCount (n : Nat) : Nat := ob (0x8100 + n) 0x07
/-- 0x8100+n.08 ReplacedAt (R453). -/
def replacedAt (n : Nat) : Nat := ob (0x8100 + n) 0x08
/-- 0x8200.01 to .0C SecurityVersion (R453). -/
def securityVersion (i : Nat) : Nat := ob 0x8200 (0x01 + i)
/-- 0x8200.0D AttestationNumber (R453). -/
def attestationNumber : Nat := ob 0x8200 0x0D
/-- 0x8300+s.01 Attestation (R453). -/
def attestation (s : Nat) : Nat := ob (0x8300 + s) 0x01
/-- 0x8400.01 HoldActive (R453). -/
def holdActive : Nat := ob 0x8400 0x01
/-- 0x8400.02 HoldCause (R453). -/
def holdCause : Nat := ob 0x8400 0x02
/-- 0x8400.03 HoldSince (R453). -/
def holdSince : Nat := ob 0x8400 0x03
/-- 0x8400.04 ClearHold (R453). -/
def clearHold : Nat := ob 0x8400 0x04
/-- 0x8400.05 AlarmNow (R453). -/
def alarmNow : Nat := ob 0x8400 0x05
/-- 0x8400.06 TamperEventCount (R453). -/
def tamperEventCount : Nat := ob 0x8400 0x06
/-- 0x8400.07 LastSource (R453). -/
def tamperLastSource : Nat := ob 0x8400 0x07
/-- 0x8400.08 LastTime (R453). -/
def tamperLastTime : Nat := ob 0x8400 0x08
/-- 0x8400.09 TamperMirror (R453). -/
def tamperMirror : Nat := ob 0x8400 0x09
/-- 0x8401.01 to .10 SourceEventCount (R453). -/
def sourceEventCount (i : Nat) : Nat := ob 0x8401 (0x01 + i)
/-- 0x8500.01 HoldSessionAction (R453). -/
def holdSessionAction : Nat := ob 0x8500 0x01
/-- 0x8500.02 HoldRefuseKeyOps (R453). -/
def holdRefuseKeyOps : Nat := ob 0x8500 0x02
/-- 0x8500.03 HoldLeaveCanopy (R453). -/
def holdLeaveCanopy : Nat := ob 0x8500 0x03
/-- 0x8501.01 to .10 ResponseLevel (R453). -/
def responseLevel (i : Nat) : Nat := ob 0x8501 (0x01 + i)
/-- Active copy of 0x9010+t.01 ActiveSlot (R478). -/
def activeSlot (t : Nat) : Nat := ob (0x9010 + t) 0x01
/-- 0x9010+t.02 SlotAState (R478). -/
def slotAState (t : Nat) : Nat := ob (0x9010 + t) 0x02
/-- 0x9010+t.03 SlotAVersion (R478). -/
def slotAVersion (t : Nat) : Nat := ob (0x9010 + t) 0x03
/-- 0x9010+t.04 SlotASecurityVersion (R478). -/
def slotASecurityVersion (t : Nat) : Nat := ob (0x9010 + t) 0x04
/-- 0x9010+t.05 to .07 SlotB… (R478). -/
def slotBState (t : Nat) : Nat := ob (0x9010 + t) 0x05
/-- 0x9010+t.05 to .07 SlotB… (R478). -/
def slotBVersion (t : Nat) : Nat := ob (0x9010 + t) 0x06
/-- 0x9010+t.05 to .07 SlotB… (R478). -/
def slotBSecurityVersion (t : Nat) : Nat := ob (0x9010 + t) 0x07
/-- Active copy of 0x9010+t.08 ActiveMeasurement (R478). -/
def activeMeasurement (t : Nat) : Nat := ob (0x9010 + t) 0x08
/-- 0x9010+t.09 LoadFailCount (R478). -/
def loadFailCount (t : Nat) : Nat := ob (0x9010 + t) 0x09
/-- 0x9100+i.01 ImageHeader (R478). -/
def imageHeader (i : Nat) : Nat := ob (0x9100 + i) 0x01
/-- 0x9100+i.02 ImageChunk (R478). -/
def imageChunk (i : Nat) : Nat := ob (0x9100 + i) 0x02
/-- 0x9100+i.03 StagingState (R478). -/
def stagingState (i : Nat) : Nat := ob (0x9100 + i) 0x03
/-- 0x9100+i.04 StagingResult (R478). -/
def stagingResult (i : Nat) : Nat := ob (0x9100 + i) 0x04
/-- 0x9100+i.05 StagedType (R478). -/
def stagedType (i : Nat) : Nat := ob (0x9100 + i) 0x05
/-- 0x9100+i.06 StagedVersion (R478). -/
def stagedVersion (i : Nat) : Nat := ob (0x9100 + i) 0x06
/-- 0x9100+i.07 PayloadLength (R478). -/
def payloadLength (i : Nat) : Nat := ob (0x9100 + i) 0x07
/-- 0x9100+i.08 ReceivedBytes (R478). -/
def receivedBytes (i : Nat) : Nat := ob (0x9100 + i) 0x08
/-- 0x9200.01 ActivationMode (R478). -/
def planActivationMode : Nat := ob 0x9200 0x01
/-- 0x9200.02 ActivationTime (R478). -/
def planActivationTime : Nat := ob 0x9200 0x02
/-- 0x9200.03 LatePolicy (R478). -/
def planLatePolicy : Nat := ob 0x9200 0x03
/-- 0x9200.04 PrepareLeadS (R478). -/
def prepareLeadS : Nat := ob 0x9200 0x04
/-- 0x9200.05 TrialS (R478). -/
def trialS : Nat := ob 0x9200 0x05
/-- 0x9200.06 ReadyTimeoutMs (R478). -/
def readyTimeoutMs : Nat := ob 0x9200 0x06
/-- 0x9200.07 FirebreakDrain (R478). -/
def firebreakDrain : Nat := ob 0x9200 0x07
/-- 0x9200.08 DrainTimeoutS (R478). -/
def drainTimeoutS : Nat := ob 0x9200 0x08
/-- 0x9200.09 StepCount (R478). -/
def planStepCount : Nat := ob 0x9200 0x09
/-- 0x9201.01 to .10 Step1 to Step16 (R478). -/
def planStep (i : Nat) : Nat := ob 0x9201 (0x01 + i)
/-- 0x9202.01 PlanState (R478). -/
def planState : Nat := ob 0x9202 0x01
/-- 0x9202.02 CurrentStep (R478). -/
def currentStep : Nat := ob 0x9202 0x02
/-- 0x9202.03 CurrentUnit (R478). -/
def currentUnit : Nat := ob 0x9202 0x03
/-- 0x9202.04 StepPhase (R478). -/
def stepPhase : Nat := ob 0x9202 0x04
/-- 0x9202.05 LastPlanResult (R478). -/
def lastPlanResult : Nat := ob 0x9202 0x05
/-- 0x9202.06 FailingStep (R478). -/
def failingStep : Nat := ob 0x9202 0x06
/-- 0x9202.07 CancelPlan (R478). -/
def cancelPlan : Nat := ob 0x9202 0x07
/-- 0x9202.08 ExecutedLate (R478). -/
def executedLate : Nat := ob 0x9202 0x08
/-- 0x9300.01 ServiceRestart (R478). -/
def serviceRestart : Nat := ob 0x9300 0x01
/-- 0x9400+u.01 ServiceState (R478). -/
def serviceState (u : Nat) : Nat := ob (0x9400 + u) 0x01
/-- 0x9400+u.02 TakeOut (R478). -/
def takeOut (u : Nat) : Nat := ob (0x9400 + u) 0x02
/-- 0x9400+u.03 Return (R478). -/
def returnUnit (u : Nat) : Nat := ob (0x9400 + u) 0x03
/-- 0x9400+u.04 OutSince (R478). -/
def outSince (u : Nat) : Nat := ob (0x9400 + u) 0x04
/-- 0x9400+u.05 OutCount (R478). -/
def outCount (u : Nat) : Nat := ob (0x9400 + u) 0x05
/-- 0xA000.01 ScrollCount (R500). -/
def scrollCount : Nat := ob 0xA000 0x01
/-- 0xA000.02 FullRefreshH (R500). -/
def fullRefreshH : Nat := ob 0xA000 0x02
/-- 0xA000.03 PartialUpdate (R500). -/
def partialUpdate : Nat := ob 0xA000 0x03
/-- 0xA000.04 PanelSensor (R500). -/
def panelSensor : Nat := ob 0xA000 0x04
/-- 0xA000.05 RailHoldMs (R500). -/
def railHoldMs : Nat := ob 0xA000 0x05
/-- 0xA000.06 TokenPageS (R500). -/
def tokenPageS : Nat := ob 0xA000 0x06
/-- 0xA001.01 to .20 ScrollEntry1 to 32 (R500). -/
def scrollEntry (i : Nat) : Nat := ob 0xA001 (0x01 + i)
/-- 0xA010.01 DisplayState (R500). -/
def displayState : Nat := ob 0xA010 0x01
/-- 0xA010.02 PanelTemperature (R500). -/
def panelTemperature : Nat := ob 0xA010 0x02
/-- 0xA010.03 BandInForce (R500). -/
def displayBandInForce : Nat := ob 0xA010 0x03
/-- 0xA010.04 ShownEntry (R500). -/
def shownEntry : Nat := ob 0xA010 0x04
/-- 0xA010.05 ShownCommit (R500). -/
def shownCommit : Nat := ob 0xA010 0x05
/-- 0xA010.06 LastFrameStart (R500). -/
def lastFrameStart : Nat := ob 0xA010 0x06
/-- 0xA010.07 LastFrameDuration (R500). -/
def lastFrameDuration : Nat := ob 0xA010 0x07
/-- 0xA010.08 ScrollAppended (R500). -/
def scrollAppended : Nat := ob 0xA010 0x08
/-- 0xA020.01 FullFrameCount (R500). -/
def fullFrameCount : Nat := ob 0xA020 0x01
/-- 0xA020.02 PartialFrameCount (R500). -/
def partialFrameCount : Nat := ob 0xA020 0x02
/-- 0xA020.03 InterruptedStepCount (R500). -/
def interruptedStepCount : Nat := ob 0xA020 0x03
/-- 0xA020.04 BalanceRepairCount (R500). -/
def balanceRepairCount : Nat := ob 0xA020 0x04
/-- 0xA020.05 RowRepeatCount (R500). -/
def rowRepeatCount : Nat := ob 0xA020 0x05
/-- 0xA020.06 DeferredFrameCount (R500). -/
def deferredFrameCount : Nat := ob 0xA020 0x06
/-- 0xA030.01 RefreshNow (R500). -/
def refreshNow : Nat := ob 0xA030 0x01
/-- 0xA030.02 HostMessage (R500). -/
def hostMessage : Nat := ob 0xA030 0x02
/-- 0xA040.01 WaveformVersion (R500). -/
def waveformVersion : Nat := ob 0xA040 0x01
/-- 0xA040.02 WaveformValid (R500). -/
def waveformValid : Nat := ob 0xA040 0x02
/-- 0xB000.01 EngineCount (R421). -/
def engineCount : Nat := ob 0xB000 0x01
/-- 0xB000.02 ClearCounters (R421). -/
def cvuClearCounters : Nat := ob 0xB000 0x02
/-- 0xB010+e.01 OwnerTag (R421). -/
def ownerTag (e : Nat) : Nat := ob (0xB010 + e) 0x01
/-- 0xB010+e.02 EngineState (R421). -/
def engineState (e : Nat) : Nat := ob (0xB010 + e) 0x02
/-- 0xB010+e.03 ArmedWindows (R421). -/
def armedWindows (e : Nat) : Nat := ob (0xB010 + e) 0x03
/-- 0xB010+e.04 BytesCovered (R421). -/
def bytesCovered (e : Nat) : Nat := ob (0xB010 + e) 0x04
/-- 0xB010+e.05 MismatchCount (R421). -/
def mismatchCount (e : Nat) : Nat := ob (0xB010 + e) 0x05
/-- 0xB010+e.06 ShortCount (R421). -/
def shortCount (e : Nat) : Nat := ob (0xB010 + e) 0x06
/-- 0xB010+e.07 AbandonedCount (R421). -/
def abandonedCount (e : Nat) : Nat := ob (0xB010 + e) 0x07
/-- 0xB100+f.01 Width (R421). -/
def profileWidth (f : Nat) : Nat := ob (0xB100 + f) 0x01
/-- 0xB100+f.02 Polynomial (R421). -/
def polynomial (f : Nat) : Nat := ob (0xB100 + f) 0x02
/-- 0xB100+f.03 Init (R421). -/
def profileInit (f : Nat) : Nat := ob (0xB100 + f) 0x03
/-- 0xB100+f.04 Reflected (R421). -/
def reflected (f : Nat) : Nat := ob (0xB100 + f) 0x04
/-- 0xB100+f.05 FinalXor (R421). -/
def finalXor (f : Nat) : Nat := ob (0xB100 + f) 0x05
/-- 0xB100+f.06 CheckValue (R421). -/
def checkValue (f : Nat) : Nat := ob (0xB100 + f) 0x06
/-- 0xB200+x.01 RunningValue (R421). -/
def runningValue (x : Nat) : Nat := ob (0xB200 + x) 0x01
/-- 0xB200+x.02 ContextProfile (R421). -/
def contextProfile (x : Nat) : Nat := ob (0xB200 + x) 0x02
/-- 0xB200+x.03 ByteCount (R421). -/
def contextByteCount (x : Nat) : Nat := ob (0xB200 + x) 0x03
/-- 0xB200+x.04 Holder (R421). -/
def contextHolder (x : Nat) : Nat := ob (0xB200 + x) 0x04
/-- 0xB200+x.05 ContextMismatchCount (R421). -/
def contextMismatchCount (x : Nat) : Nat := ob (0xB200 + x) 0x05
/-- 0xB800.01 CrossingCount (R61). -/
def crossingCount : Nat := ob 0xB800 0x01
/-- 0xB800.02 FabricSpeedNow (R61). -/
def fabricSpeedNow : Nat := ob 0xB800 0x02
/-- 0xB800.03 FabricSpeedMin (R61). -/
def fabricSpeedMin : Nat := ob 0xB800 0x03
/-- 0xB800.04 ClockStatus (R61). -/
def clockStatus : Nat := ob 0xB800 0x04
/-- 0xB800.05 I7VersusI1 (R61). -/
def i7VersusI1 : Nat := ob 0xB800 0x05
/-- 0xB800.06 I7VersusI6 (R61). -/
def i7VersusI6 : Nat := ob 0xB800 0x06
/-- 0xB800.07 I1VersusI6 (R61). -/
def i1VersusI6 : Nat := ob 0xB800 0x07
/-- 0xB800.08 ClearCounters (R61). -/
def xingClearCounters : Nat := ob 0xB800 0x08
/-- 0xB900+c.01 Kind (R61). -/
def xingKind (c : Nat) : Nat := ob (0xB900 + c) 0x01
/-- 0xB900+c.02 Island (R61). -/
def xingIsland (c : Nat) : Nat := ob (0xB900 + c) 0x02
/-- 0xB900+c.03 Direction (R61). -/
def xingDirection (c : Nat) : Nat := ob (0xB900 + c) 0x03
/-- 0xB900+c.04 State (R61). -/
def xingState (c : Nat) : Nat := ob (0xB900 + c) 0x04
/-- 0xB900+c.05 ResyncCount (R61). -/
def resyncCount (c : Nat) : Nat := ob (0xB900 + c) 0x05
/-- 0xB900+c.06 DiscardedEntries (R61). -/
def discardedEntries (c : Nat) : Nat := ob (0xB900 + c) 0x06
/-- 0xB900+c.07 DroppedEntries (R61). -/
def droppedEntries (c : Nat) : Nat := ob (0xB900 + c) 0x07
/-- 0xB900+c.08 HighWater (R61). -/
def xingHighWater (c : Nat) : Nat := ob (0xB900 + c) 0x08
/-- 0xB900+c.09 Stale (R61). -/
def xingStale (c : Nat) : Nat := ob (0xB900 + c) 0x09
/-- 0xB900+c.0A OverrunFlag (R61). -/
def overrunFlag (c : Nat) : Nat := ob (0xB900 + c) 0x0A
/-- 0xB900+c.0B OverrunCount (R61). -/
def overrunCount (c : Nat) : Nat := ob (0xB900 + c) 0x0B
/-- 0xB900+c.0C LastResetTime (R61). -/
def lastResetTime (c : Nat) : Nat := ob (0xB900 + c) 0x0C
/-- 0xC000.01 Can5Enable (R158). -/
def can5Enable : Nat := ob 0xC000 0x01
/-- 0xC000.02 Can5BaseId (R158). -/
def can5BaseId : Nat := ob 0xC000 0x02
/-- 0xC000.03 Can5NominalRate (R158). -/
def can5NominalRate : Nat := ob 0xC000 0x03
/-- 0xC000.04 Can5DataRate (R158). -/
def can5DataRate : Nat := ob 0xC000 0x04
/-- 0xC000.05 Eth0Enable (R158). -/
def eth0Enable : Nat := ob 0xC000 0x05
/-- 0xC000.06 Eth0Address (R158). -/
def eth0Address : Nat := ob 0xC000 0x06
/-- 0xC000.07 Eth0PrefixLength (R158). -/
def eth0PrefixLength : Nat := ob 0xC000 0x07
/-- 0xC000.08 Eth0Gateway (R158). -/
def eth0Gateway : Nat := ob 0xC000 0x08
/-- 0xC000.09 Eth0Speed (R158). -/
def eth0Speed : Nat := ob 0xC000 0x09
/-- 0xC000.0A Eth1Enable (R158). -/
def eth1Enable : Nat := ob 0xC000 0x0A
/-- 0xC000.0B Eth1Address (R158). -/
def eth1Address : Nat := ob 0xC000 0x0B
/-- 0xC000.0C Eth1PrefixLength (R158). -/
def eth1PrefixLength : Nat := ob 0xC000 0x0C
/-- 0xC000.0D Eth1PlcaNodeId (R158). -/
def eth1PlcaNodeId : Nat := ob 0xC000 0x0D
/-- 0xC000.0E Eth1PlcaNodeCount (R158). -/
def eth1PlcaNodeCount : Nat := ob 0xC000 0x0E
/-- 0xC000.0F UdpPort (R158). -/
def udpPort : Nat := ob 0xC000 0x0F
/-- 0xC000.10 RegistrationLapseS (R158). -/
def registrationLapseS : Nat := ob 0xC000 0x10
/-- 0xC000.11 Eth0PhyAddress (R158). -/
def eth0PhyAddress : Nat := ob 0xC000 0x11
/-- 0xC001.01 StopAll (R158). -/
def stopAll : Nat := ob 0xC001 0x01
/-- 0xC002.01 Can5State (R158). -/
def can5State : Nat := ob 0xC002 0x01
/-- 0xC002.02 Can5TxErrorCount (R158). -/
def can5TxErrorCount : Nat := ob 0xC002 0x02
/-- 0xC002.03 Can5RxErrorCount (R158). -/
def can5RxErrorCount : Nat := ob 0xC002 0x03
/-- 0xC002.04 Can5BusOffCount (R158). -/
def can5BusOffCount : Nat := ob 0xC002 0x04
/-- 0xC002.05 Eth0Link (R158). -/
def eth0Link : Nat := ob 0xC002 0x05
/-- 0xC002.06 Eth1PlcaState (R158). -/
def eth1PlcaState : Nat := ob 0xC002 0x06
/-- 0xC002.07 UnknownTypeCount (R158). -/
def unknownTypeCount : Nat := ob 0xC002 0x07
/-- 0xC002.08 DroppedDatagrams (R158). -/
def droppedDatagrams : Nat := ob 0xC002 0x08
/-- 0xC002.09 Eth0PhyFound (R158). -/
def eth0PhyFound : Nat := ob 0xC002 0x09
/-- 0xF000.01 UtilityMeterNumber (R326). -/
def utilityMeterNumber : Nat := ob 0xF000 0x01
/-- 0xF000.02 ApprovalMark (R326). -/
def approvalMark : Nat := ob 0xF000 0x02
/-- 0xF000.03 SealState (R326). -/
def sealState : Nat := ob 0xF000 0x03
/-- 0xF000.04 SealTime (R326). -/
def sealTime : Nat := ob 0xF000 0x04
/-- 0xF000.05 SealHash (R326). -/
def sealHash : Nat := ob 0xF000 0x05
/-- 0xF000.06 SealedParamCheck (R326). -/
def sealedParamCheck : Nat := ob 0xF000 0x06
/-- 0xF000.07 AccessRefusedCount (R326). -/
def accessRefusedCount : Nat := ob 0xF000 0x07
/-- 0xF010.01 LegalCommand (R326). -/
def legalCommand : Nat := ob 0xF010 0x01
/-- 0xF010.02 LegalSequence (R326). -/
def legalSequence : Nat := ob 0xF010 0x02
/-- 0xF010.03 LastLegalResult (R326). -/
def lastLegalResult : Nat := ob 0xF010 0x03
/-- 0xF010.04 LastLegalCode (R326). -/
def lastLegalCode : Nat := ob 0xF010 0x04
/-- 0xF010.05 LegalRefusedCount (R326). -/
def legalRefusedCount : Nat := ob 0xF010 0x05
/-- 0xF100.01 LegalNewest (R326). -/
def legalNewest : Nat := ob 0xF100 0x01
/-- 0xF100.02 LegalOldest (R326). -/
def legalOldest : Nat := ob 0xF100 0x02
/-- 0xF100.03 LegalChain (R326). -/
def legalChain : Nat := ob 0xF100 0x03
/-- 0xF100.04 LegalWrapCount (R326). -/
def legalWrapCount : Nat := ob 0xF100 0x04
/-- 0xF100.05 LegalOverflowCount (R326). -/
def legalOverflowCount : Nat := ob 0xF100 0x05
/-- 0xF110+k.01 LegalLogBlock (R326). -/
def legalLogBlock (k : Nat) : Nat := ob (0xF110 + k) 0x01
/-- 0xF180.01 GeneralNewest (R326). -/
def generalNewest : Nat := ob 0xF180 0x01
/-- 0xF180.02 GeneralOldest (R326). -/
def generalOldest : Nat := ob 0xF180 0x02
/-- 0xF190+k.01 GeneralLogBlock (R326). -/
def generalLogBlock (k : Nat) : Nat := ob (0xF190 + k) 0x01
/-- 0xF300.01 NewestRecord (R326). -/
def newestRecord : Nat := ob 0xF300 0x01
/-- 0xF300.02 OldestRecord (R326). -/
def oldestRecord : Nat := ob 0xF300 0x02
/-- 0xF300.03 UnsignedRecords (R326). -/
def unsignedRecords : Nat := ob 0xF300 0x03
/-- 0xF300.04 RecordKeyPublic (R326). -/
def recordKeyPublic : Nat := ob 0xF300 0x04
/-- 0xF300.05 SigningFailCount (R326). -/
def signingFailCount : Nat := ob 0xF300 0x05
/-- 0xF380.01 MandatoryCount (R326). -/
def mandatoryCount : Nat := ob 0xF380 0x01
/-- 0xF381.01 to .20 MandatoryItem (R326). -/
def mandatoryItem (i : Nat) : Nat := ob 0xF381 (0x01 + i)
/-- 0xF390.01 InspectionActive (R326). -/
def inspectionActive : Nat := ob 0xF390 0x01
/-- 0xF400+i.01 to .80 SessionRecord (R326). -/
def sessionRecord (i : Nat) (j : Nat) : Nat := ob (0xF400 + i) (0x01 + j)

end Sys2Proof.Machine.Key
end

