-- ==== Sys2Proof/Machine/State.lean ====
section
/-! DEFINITION. The state of the FDM8P as plain data. Every dictionary object that no other field is the home of lives in the object
store `obj` (its default is the value of an unlisted object); state machines, queues, timers and stores the manual describes beside
the objects have fields of their own. -/

namespace Sys2Proof.Machine

/-- Reasons to stop with a fault. No command of the manual stops the device (INVENTORY, *Faults*). -/
inductive Fault where
  /-- Raised by nobody: the manual describes what follows every failure. Safe: a step that ended in it would have no next state. -/
  | unreachable
deriving DecidableEq, Repr

/-- Reasons to refuse a command. -/
inductive Refusal where
  /-- Raised by the arm of a command whose meaning is not written; safe: nothing is claimed of it. -/
  | notModelled (mnemonic : String)
  /-- Raised by a command whose operands do not have the shape the manual gives it (a fabric transaction of 0 or more than 8 words,
  a post above 64 bytes), so that it is no command of the block at all (01 R18); safe: no state follows. -/
  | malformed (mnemonic : String)
deriving DecidableEq, Repr

/-- The outcome of a step of this machine. -/
abbrev Out3 (σ : Type) := Host.Outcome σ Fault Refusal

/-- Objects by key, keys strictly rising, no entry equal to its default. -/
abbrev Store := List (Nat × Val)

/-! ### 01, 02: fabric, cores, islands, crossings -/

/-- Bytes of the fabric's memories by address; addresses strictly rising, no entry equal to 0x00 (log entry 7). -/
abbrev Memory := List Host.Cell

/-- What a fabric transaction answers its initiator (01 R12, R20). -/
inductive FabricReply where
  | data (words : List Word)
  | done
  | error
deriving DecidableEq, Repr

/-- A refusal counter of a target: how many, and tag and address of the last (01 R20). -/
structure RefusalCount where
  target  : Region
  count   : Nat
  tag     : Nat
  address : Nat
deriving DecidableEq, Repr

/-- A message in a mailbox queue (01 R18). -/
structure Mail where
  tag  : Nat
  body : Bytes
deriving DecidableEq, Repr

/-- How a core stands (01 R38, 17 R475). `restarting` after a watchdog expiry (1) or SRAM error (2). -/
inductive CoreRun where
  | running
  | restarting (cause : Nat)
  | held
  | out
deriving DecidableEq, Repr

/-- State of a crossing (02 R61, 0xB900+c.04). -/
inductive XState where | running | islandReset | fabricReset | resync | clockLost
deriving DecidableEq, Repr

/-- A crossing: its contents and its diagnostic counts (02 R51 to R61). For a queue `entries` are the entries waiting; for an event
crossing the events undelivered; for a value crossing the value, oldest word first. -/
structure Crossing where
  state     : XState
  entries   : List (List Word)
  /-- Writes of a fabric-side producer that wait for space: tag and words (02 R53). -/
  stalled   : List (Nat × List Word)
  resync    : Nat
  discarded : Nat
  dropped   : Nat
  highWater : Nat
  stale     : Bool
  overrun   : Bool
  overruns  : Nat
  lastReset : Nat
  /-- Value crossing: the reader was reset and holds no value until the writer's is presented again (02 R58). -/
  blank     : Bool
  /-- Value crossing: a value was placed since the last reset, and becomes the reader's at the end of the resynchronisation. -/
  took      : Bool
deriving DecidableEq, Repr

/-- The crossing right after reset: empty and running, a value crossing without a value and so stale (02 R58). -/
def Crossing.reset : Crossing := ⟨.running, [], [], 0, 0, 0, 0, true, false, 0, 0, false, false⟩

/-- Clocks (02 R46, R47, 0xB800.04): missing or faulted, and whether the recovery time runs. -/
structure Clocks where
  ref16Lost : Bool
  ref25Lost : Bool
  xt32Lost  : Bool
  i7Lost    : Bool
  i8Lost    : Bool
  /-- Consecutive cross-checks with n6, with n1 out of tolerance (02 R47). -/
  n6Fails   : Nat
  n1Fails   : Nat
  /-- A cross-check has passed since start-up (02 R50). -/
  checked   : Bool
  /-- Latest n1 while I1 is healthy: correction of the pilot generators (02 R49). -/
  latestN1  : Nat
  /-- A cross-check has passed since I7 was lost (02, *Loss or fault of a clock*: recovery of I7). -/
  i7Passed  : Bool
  /-- The crystal starts cold: step 11 waits for a passing cross-check that uses a complete I6 second (03 R79). -/
  i6Cold    : Bool
deriving DecidableEq, Repr

/-- Time as the islands hold it (02 R42 to R45; 03 R87). -/
structure TimeSt where
  /-- Fabric time, 64 bits, in I1 ticks. -/
  fabric   : Nat
  utcS     : Nat
  tLatch   : Nat
  /-- What the slew still has to add, in 1/16 µs (02 R44, 10 R268; log entry 17). -/
  slew     : Int
  /-- Step of the clock scheduled by 10 R268: the µs to add. -/
  stepBy   : Option Int
  unknown  : Bool
  i6Lost   : Bool
  i7Ticks  : Nat
  samples  : Nat
  /-- 64 timer channels: compare value and arming core (02 R45). -/
  timers   : Vector (Option (Nat × CoreId)) 64
deriving DecidableEq, Repr

/-! ### 03: power -/

/-- Power states (03 R62). -/
inductive PowerState where | off | vbatSleep | starting | inService | tamperHold | shutdown
deriving DecidableEq, Repr

/-- An entry of the VBAT tamper buffer (03 R84, R85). -/
structure TamperEntry where
  second : Nat
  sub    : Nat
  source : Nat
  flags  : Nat
deriving DecidableEq, Repr

/-- The power section (03 R62 to R89). -/
structure Power where
  state        : PowerState
  railGood     : Vector Bool 9
  /-- PFW has been raised and is not taken back (R68). -/
  pfw          : Bool
  pfwTime      : Nat
  /-- Shutdown steps done, 0 none, 1 to 6 (table *Shutdown sequence after PFW*). -/
  shutdownStep : Nat
  finalDone    : Bool
  resetN       : Bool
  resetWaiting : Bool
  pfwN         : Bool
  /-- Steps of the boot sequence done (R78). -/
  bootStep     : Nat
  buffer       : List TamperEntry
  bufferOverflow : Bool
  bufferDropped  : Nat
  /-- The VBAT domain's loss flag (03 R87), and whether VBAT is below 2.0 V now (03 R62). -/
  vbatLost     : Bool
  vbatDown     : Bool
  /-- VBAT fell below 2.40 V while nothing could log it: it is logged at the next start-up (03, table *Rail monitors*). -/
  vbatNote     : Bool
  /-- A main rail has left its window since step 5 of the shutdown (03 R65, R77). -/
  railLeft     : Bool
  mirror       : List TamperEntry
  /-- Tick at which VDD_MEM returned (table *Rail monitors*). -/
  memBackAt    : Option Nat
  /-- Rail whose monitor reset the device, still to be logged (table *Reset sources and their effects*). -/
  tripped      : Option Nat
  /-- Tamper source that alarmed first since step 1 of the boot sequence (R88). -/
  startAlarm   : Option Nat
deriving DecidableEq, Repr

/-! ### 05: the dictionary -/

/-- Phase of a staged group (05, table *Staged group states*). -/
inductive GroupPhase where | empty | staging | committing | expired
deriving DecidableEq, Repr

/-- A staged group: phase, shadow values by key, and when the first write into the empty shadow came, in dictionary ticks (I1 ms)
and in µs UTC (05 R122, R126). The other directory objects live in the object store. -/
structure Group where
  phase    : GroupPhase
  shadow   : Store
  sinceMs  : Nat
  sinceUtc : Nat
deriving DecidableEq, Repr

/-- Where a message of the device goes (06 R140, R142): the identifier of its CAN FD frame, or its datagram's own address and port and
the host's. -/
inductive Via where
  | can (id nominal data : Nat)
  | udp (ownAddress ownPort address port : Nat)
deriving DecidableEq, Repr

/-- Whom a reply goes to: slot, interface, request number and object of the request, the way there under the settings in force at its
receipt (06 R150), and the number of the registration it came under. -/
structure Ack where
  slot  : SlotId
  iface : Iface
  reqId : Byte
  key   : Nat
  via   : Via
  session : Nat
deriving DecidableEq, Repr

/-- A key operation of Burl (16 R433, R435, R436): an import, a generation with its slot, type and whether the new half verifies, an erase. -/
inductive KeyOp where
  | imports (blob : ImportBlob)
  | generate (slot typ : Nat) (verifies : Bool)
  | erase (slot : Nat)
deriving DecidableEq, Repr

/-- What waits for the next tick boundary, in order of receipt (05 R113, 06 R157). -/
inductive TickItem where
  | write (ack : Ack) (key : Nat) (v : Val)
  | commit (ack : Ack) (group : Nat) (members : Store)
  | start (ack : Ack) (p : PortId)
  | stop (ack : Ack) (p : PortId)
  | exportStop (ack : Ack) (p : PortId)
  | stopAll (ack : Ack)
  | clearHold (ack : Ack)
  /-- Ownership messages and the end of a registration by Deregister, which act at the boundary (06 R152, R154). -/
  | claim (ack : Ack)
  | release (ack : Ack)
  | offer (ack : Ack) (target : SlotId)
  | deregister (ack : Ack) (target : SlotId)
  /-- A key operation, which Burl starts at the boundary (16 R433, example). -/
  | keyOp (ack : Ack) (op : KeyOp)
deriving DecidableEq, Repr

/-- A persistence journal entry that has taken effect and is not stored yet, with its CRC-32C check value and its place in the partition
(05 R115, R116). -/
structure JournalEntry where
  items : Store
  bytes : Nat
  check : Nat
  place : Nat
  /-- The request it answers; none once that was answered with 0x09000001. -/
  ack   : Option Ack
deriving DecidableEq, Repr

/-- State of a publish list beside its objects (05 R131, R132): the bytes last sent, the tick the next message is due at, whether a
message waits for its interface, and the publish counter. -/
structure PublishList where
  lastSent : Option Bytes
  dueAt    : Option Nat
  waiting  : Option Bytes
  counter  : Nat
  /-- Period sequence of CommitPort at the last trigger 2, once one has been seen. -/
  period   : Option Nat
deriving DecidableEq, Repr

/-- The dictionary sequencer. -/
structure Dict where
  tick      : Nat
  groups    : Vector Group 64
  items     : List TickItem
  journal   : List JournalEntry
  /-- Where in the 4 MiB persistence partition the next journal entry begins: the journal rotates through it (05 R115). -/
  journalAt : Nat
  /-- Values of RW and RWS objects in the persistence partition (05 R115). -/
  stored    : Store
  lists     : Vector PublishList 16
  /-- The Sapwood role changed in the tick that runs (05 R128). -/
  roleChanged : Bool
  /-- Discards at shutdown still to be logged at the next start-up (05 R126): group and staged bytes. -/
  lostGroups : List (Nat × Nat)
deriving DecidableEq, Repr

/-! ### 06: hosts and ownership -/

/-- A registration in progress (06 R145). -/
structure Hello where
  hostNonce : Bytes
  ownNonce  : Bytes
  iface     : Iface
  deadline  : Nat
deriving DecidableEq, Repr

/-- A segmented transfer of a host into the device (06 R148). -/
structure RxTransfer where
  ack    : Ack
  total  : Nat
  data   : Bytes
  next   : Nat
  lastMs : Nat
deriving DecidableEq, Repr

/-- A segmented transfer of the device to a host (06 R148): data left, next segment number, highest acknowledged. -/
structure TxTransfer where
  ack    : Ack
  left   : Bytes
  next   : Nat
  acked  : Nat
  lastMs : Nat
deriving DecidableEq, Repr

/-- A host slot beside its objects (06 R136 to R149). -/
structure HostSlot where
  registered : Bool
  /-- Context 144 + s holds this session key (06 R145). -/
  sessionKey : Option Bytes
  /-- Host nonce of the current registration (16 R441). -/
  nonce      : Bytes
  /-- Highest Sequence accepted, and those of the 32 below it already seen, bit 0 for H - 1 (06 R139). -/
  high       : Nat
  seen       : Nat
  txSeq      : Nat
  hello      : Option Hello
  /-- Ticks of the failed registrations (06 R146). -/
  fails      : List Nat
  refuseTill : Option Nat
  lastValid  : Nat
  lastIface  : Iface
  unanswered : Nat
  /-- Tick of the last ABORT in clear, per interface (06 R146). -/
  clearAbort : Vector (Option Nat) 3
  rx         : Option RxTransfer
  tx         : Option TxTransfer
  /-- The registration ends once the reply to this request has gone (06 R139). -/
  endAfter   : Option Byte
  /-- Source address and port of the most recent valid message, per interface (06 R142). -/
  peers      : Vector (Nat × Nat) 3
  /-- Registrations of the slot so far: a reply belongs to the one its request came under. -/
  session    : Nat
deriving DecidableEq, Repr

/-- Ownership (06 R152). -/
inductive Ownership where
  | none
  | claimWindow (ends : Nat) (claims : List Ack)
  | owned (owner : SlotId)
  | handover (owner target : SlotId) (deadline : Nat)
deriving DecidableEq, Repr

/-- State of a CAN controller (06 R141, 0xC002.01). -/
inductive CanState where | off | integrating | errorActive | errorPassive | busOff
deriving DecidableEq, Repr

/-- The host side (06). -/
structure Hosts where
  slots         : Vector HostSlot 16
  ownership     : Ownership
  ownerSince    : Nat
  lastHeartbeat : Nat
  can           : Vector CanState 6
  busOffCounts  : Vector Nat 6
deriving DecidableEq, Repr

/-- Bodies of messages to hosts (06, table *FDP message types*). -/
inductive HostReply where
  | values (key : Nat) (vals : List Bytes)
  | done (key : Nat)
  | abort (code key : Nat)
  | publish (list counter : Nat) (vals : Bytes)
  | firstSegment (key total : Nat) (data : Bytes)
  | segment (number : Nat) (last : Bool) (data : Bytes)
  | segmentAck (number : Nat)
  | challenge (nonce serial : Bytes)
  | welcome (layout owner : Nat)
deriving DecidableEq, Repr

/-! ### 07: ports, modules, the allocator -/

/-- Session states (07 R177), in the order of their numbers 0 to 9. -/
inductive Session where
  | idle | connected | identifying | authorised | closing | energised | stopping | opening | ended | faulted
deriving DecidableEq, Repr

/-- Pilot states (07 R162, 0x2p10.02), in the order of their numbers 0 to 7. -/
inductive Pilot where | a | b | c | d | e | f | unknown | diode
deriving DecidableEq, Repr

/-- What CP_OUT drives (07 R161): steady high, steady low, or PWM with a duty in 0.0125 %; the digital 5 % is 400. -/
inductive PilotOut where
  | high
  | low
  | pwm (duty : Nat)
deriving DecidableEq, Repr

/-- The connector lock (07 R166); `locking` holds the I7 tick by which LOCK_FB must confirm. -/
inductive Lock where
  | released
  | locking (deadline : Nat)
  | locked
  | fault
deriving DecidableEq, Repr

/-- High-level protocols (07 R168, R171, 0x2p10.08), in the order of their numbers 1 to 4. -/
inductive Protocol where | iso2 | iso20 | annexA | annexB
deriving DecidableEq, Repr

/-- SLAC of a port (07 R167): the modem has restarted and begins only in state A or B; sounded by a vehicle, with the mean
attenuation in dB once it is known; matched. -/
inductive Slac where
  | idle
  | restarted
  | sounding (mac : Bytes) (mean : Option Nat)
  | matched (mac : Bytes)
deriving DecidableEq, Repr

/-- What the vehicle has declared (07 R168, R170, R171): currents in 0.1 A, voltages in 0.1 V, power in W. -/
structure EvLimits where
  maxCurrent   : Nat
  maxExport    : Nat
  maxVoltage   : Nat
  maxDcCurrent : Nat
  maxPower     : Nat
  targetCurrent : Int
deriving DecidableEq, Repr

/-- A port beside its objects (07). Times are dictionary ticks unless they say I7 ticks. -/
structure Port where
  session    : Session
  pilot      : Pilot
  /-- I7 tick at which the pilot state was accepted. -/
  pilotAt    : Nat
  cp         : PilotOut
  /-- Ratio at PROX last read, in thousandths (R165). -/
  prox       : Nat
  lock       : Lock
  /-- The lock drive last started: towards locked or not, and the I7 tick it began at (R166). -/
  drive      : Option (Bool × Nat)
  proto      : Option Protocol
  /-- 5 % duty entered at this tick, high-level session not yet established (R164). -/
  setupAt    : Option Nat
  /-- End of the 3 s of steady high pilot (R164). -/
  steadyTill : Option Nat
  basic      : Bool
  slac       : Slac
  /-- The EV MAC address the port was matched to in this session, which every other port ignores until ENDED or IDLE (R167). -/
  evMatch    : Option Bytes
  /-- A TLS handshake runs (R185), and whether TLS stands. -/
  handshake  : Bool
  tls        : Bool
  /-- TLS 1.3, otherwise TLS 1.2; the vehicle charges under dynamic control (R168). -/
  tls13      : Bool
  dynamic    : Bool
  permission : Bool
  /-- The vehicle asks for power, and for export. -/
  wants      : Bool
  exports    : Bool
  ev         : EvLimits
  /-- Level 3: a start is present; a stop is in force, with its end reason. -/
  start      : Bool
  stop       : Option Nat
  /-- Level 2: Heartwood's demand. -/
  level2     : Bool
  exportStop : Bool
  /-- End reason of the stop that ended the session (0x2p30.07). -/
  endReason  : Nat
  /-- The pilot is held in its safe state by an immediate stop (R359). -/
  safe       : Bool
  /-- A session is open: the enables have risen and both feedbacks have not confirmed opening (R178). -/
  opened     : Bool
  /-- The session goes to FAULTED, not ENDED, when it has opened. -/
  faultAfter : Bool
  authorisedAt : Nat
  allocChangedAt : Nat
  /-- Export current allocated, 0.1 A. -/
  exportAlloc : Nat
  exportChangedAt : Nat
  pausedAt   : Option Nat
  /-- Consecutive periods with less than 0.5 A on a phase, and phases counted at measured current (R182). -/
  lowDraw    : Vector Nat 3
  shed       : Vector Bool 3
  /-- Migration requested to this engine (R186). -/
  migrateTo  : Option (Fin 4)
deriving DecidableEq, Repr

/-- A converter module (07 R172 to R176). -/
structure Module where
  identAt   : Option Nat
  bidirectional : Bool
  protocol  : Nat
  modeNow   : Nat
  alive     : Nat
  echo      : Nat
  missing   : Nat
  good      : Nat
  lost      : Bool
  /-- Returned, but carrying only from the next allocator run (R176). -/
  waiting   : Bool
  voltage   : Nat
  current   : Int
  temp      : Int
  setpointAt : Option Nat
  configAt  : Option Nat
deriving DecidableEq, Repr

/-- The site (07 R181 to R184). -/
structure Site where
  /-- Tick of the last allocator run, and whether a session state change asks for one. -/
  allocatedAt : Nat
  allocateNow : Bool
  externalAt  : Nat
  /-- I7 tick at which I4 stopped (R175). -/
  can4SilentAt : Option Nat
  /-- Number of the last session opened on the unit (R178). -/
  sessionId   : Nat
deriving DecidableEq, Repr

/-! ### 08: metrology -/

/-- A metrology channel (08 R188 to R208). `off`, `gain`, `delay`, `fs`, `source` and `sensor` are the settings in force since the last
boundary of its port, the band's corrections included; sums run over the running period. -/
structure Channel where
  off    : Int
  gain   : Int
  delay  : Int
  fs     : Nat
  source : Nat
  inGain : Nat
  sensor : Nat
  clk    : Nat
  /-- x1 of the sample before, and twice the trapezoidal sum acc (R196). -/
  prev   : Int
  acc2   : Int
  /-- Sum of acc2 over the running period, and m as numerator and denominator (R196). -/
  accSum : Int
  mNum   : Int
  mDen   : Nat
  /-- Inputs of the interpolator, newest first, in 2^-16 code (R197). -/
  hist   : List Int
  /-- Corrected samples, newest first, 256 at most (01: sample buffer; 09 R221). -/
  ys     : List Int
  rawPeak : Nat
  rawSum : Int
  /-- Raw samples in the running period's sums, which substituted samples do not join (R205). -/
  rawN   : Nat
  /-- The running period began at a boundary: it will be a complete one (R196). -/
  whole  : Bool
  /-- The zero-crossing detector is armed; the crossing it found last and nobody has taken, in 1/1,024 sample of the raw samples (R198). -/
  armed  : Bool
  found  : Option Nat
  ySum   : Int
  ySq    : Nat
  /-- Causes of failure, bit k for cause k of event 0x0301, bit 5 for 0xFF (R207). -/
  failed : Nat
  /-- Period boundaries until the channel counts again (R208), and whether its return is still to be announced, after a failure. -/
  discard : Nat
  returning : Bool
  afterFail : Bool
deriving DecidableEq, Repr

/-- Settings of a port in force since its last boundary (08 R214; 09 R247). -/
structure EnergySet where
  noLoad   : Nat
  nmRel    : Nat
  nmAbs    : Nat
  nmPeriods : Nat
  bypass   : Bool
  revPeriods : Nat
  nomV     : Nat
  nomI     : Nat
  nomVdc   : Nat
  nomIdc   : Nat
  /-- NominalFrequency in force (08 R214). -/
  nomF     : Nat
deriving DecidableEq, Repr

/-- The sums of one integration period (09 R219). `sq2` holds Σ y² and `fs` FullScale by slot; of the site, by channel. -/
structure PeriodSum where
  seq   : Nat
  len   : Nat
  n     : Nat
  endUs : Nat
  mode  : Nat
  sp    : Vector Int 3
  sq    : Vector Int 3
  spn   : Int
  sqn   : Int
  sr    : Nat
  sq2   : Vector Nat 8
  fs    : Vector Nat 8
  flags : Nat
  set   : EnergySet
deriving DecidableEq, Repr

/-- The integration of one entity: its boundaries and running sums (08 R198 to R204, 09 R219). Crossing times are in 1/1,024 sample. -/
structure Meter where
  /-- Mode, reference channel and band in force. -/
  mode    : Nat
  ref     : Nat
  band    : Nat
  /-- The last accepted crossing (R198), and the one that began the running period. -/
  lastX   : Option Nat
  startX  : Option Nat
  /-- An accepted crossing and the sample number its boundary falls at (R199). -/
  pendX   : Option (Nat × Nat)
  /-- Boundaries are placed by R200. -/
  noRef   : Bool
  /-- Sample number of the first sample of the running period. -/
  startN  : Nat
  /-- The running period is the first after a change between crossing and DC boundaries (R201). -/
  cut     : Bool
  lens    : List Nat
  /-- Length of the previous period when it ended at an accepted crossing (09 R221). -/
  prevLen : Option Nat
  seq     : Nat
  n       : Nat
  sp      : Vector Int 3
  sq      : Vector Int 3
  spn     : Int
  sqn     : Int
  sr      : Nat
  flags   : Nat
  set     : EnergySet
  /-- Consecutive periods that ask for a change of each mismatch flag (R209), and the sessions' flags logged already. -/
  dc      : Vector Nat 2
  dcLogged : List (Nat × Nat)
  /-- Periods not yet closed by Heartwood, oldest first, at most two (09 R219). -/
  held    : List PeriodSum
  /-- A period-end event has crossed on 0x04 and waits for Heartwood (02 R54, R56). -/
  told    : Bool
deriving DecidableEq, Repr

/-- A calibration measurement (08, objects 0x3001). -/
structure CalRun where
  port    : Nat
  periods : Nat
  /-- It waits for the next period boundary. -/
  waiting : Bool
  done    : Nat
  n       : Nat
  lens    : Nat
  sq2     : Vector Nat 8
  fs      : Vector Nat 8
  sp      : Vector Int 3
  sq      : Vector Int 3
  spn     : Int
  mode    : Nat
  aborted : Bool
deriving DecidableEq, Repr

/-- Metrology (08). -/
structure Metro where
  chans   : Vector Channel 68
  meters  : Vector Meter 9
  /-- Acquisition runs (03 R78 step 5). -/
  running : Bool
  /-- The measurement die is lost (R205). -/
  lost    : Bool
  invalid : Nat
  /-- The first temperature reading after start-up has been taken (R203). -/
  bandSet : Bool
  /-- Band edges E1 to E7 in force since the site's last boundary (R203, R214). -/
  edges   : Vector Int 7
  /-- Of each bitstream input: samples without a transition, and the density last seen (R192). -/
  stuck   : Vector Nat 16
  ones    : Vector Nat 16
  cal     : Option CalRun
deriving DecidableEq, Repr

/-! ### 09, 10: energy, boundaries, the ring store -/

/-- The registers and the period record of an entity (09, table *Entity block*). -/
structure Entity where
  imp   : Nat
  exp   : Nat
  q     : Vector Nat 4
  simp  : Nat
  sexp  : Nat
  timp  : Vector Nat 16
  texp  : Vector Nat 16
  seq   : Nat
  len   : Nat
  enet  : Int
  eabs  : Nat
  qf    : Nat
  tariff : Nat
  state : Nat
  sid   : Nat
deriving DecidableEq, Repr

def Entity.zero : Entity :=
  ⟨0, 0, Vector.replicate 4 0, 0, 0, Vector.replicate 16 0, Vector.replicate 16 0, 0, 0, 0, 0, 0, 1, 0, 0⟩

/-- A pending period (10 R251, R274) with its end; `neg` is the sign of E_net before the no-load test (09 R223), `sess` whether it belongs to a
session. -/
structure Pend where
  seq  : Nat
  endUs : Nat
  qf   : Nat
  enet : Int
  qnet : Int
  neg  : Bool
  sess : Bool
deriving DecidableEq, Repr

/-- Demand and billing state (10, table *Demand and billing state in a ring*). Energies of the demand history stand beside it. -/
structure Billing where
  tariff     : Nat
  season     : Nat
  dayProfile : Nat
  dayKind    : Nat
  /-- Grid alignment lost. -/
  alignLost  : Bool
  period     : Nat
  start      : Nat
  highWater  : Nat
  subStart   : Nat
  subs       : Nat
  /-- DemandFlags of the running window. -/
  flags      : Nat
  profileStart : Nat
  profileFlags : Nat
  profileNext : Nat
  profileCount : Nat
  histSeq    : Nat
  subImp     : Vector Nat 9
  subExp     : Vector Nat 9
  maxImp     : Vector (Nat × Nat) 9
  maxExp     : Vector (Nat × Nat) 9
  pend       : Vector (List Pend) 9
  lastImp    : Vector Nat 9
  lastExp    : Vector Nat 9
  snapNext   : Nat
  snapCount  : Nat
  quality    : Vector Nat 9
  profileQuality : Nat
  /-- Snapshot flags bits 3 and 4 of the running billing period. -/
  billFlags  : Nat
  /-- Sequence of the last "done" journal entry (R253). -/
  bstep      : Nat
deriving DecidableEq, Repr

def Billing.zero : Billing :=
  ⟨1, 0, 0, 0, false, 0, 0, 0, 0, 0, 0, 0, 0, 0, 0, 0, Vector.replicate 9 0, Vector.replicate 9 0, Vector.replicate 9 (0, 0),
   Vector.replicate 9 (0, 0), Vector.replicate 9 [], Vector.replicate 9 0, Vector.replicate 9 0, 0, 0, Vector.replicate 9 0, 0, 0, 0⟩

/-- A ring (09, tables *Ring layout* and *Ring header*); Magic and LayoutVersion are those of every ring. -/
structure Ring where
  number : Nat
  kind   : Nat
  /-- Header flags (folded, time unknown, time base I6 lost). -/
  flags  : Nat
  time   : Nat
  event  : Nat
  mask   : Nat
  fabric : Nat
  base   : Nat
  ents   : Vector Entity 9
  bill   : Billing
  /-- Active CalendarId and CalendarCheck, the passive calendar armed, and the instant of the set in progress, 0 without one (10 R274). -/
  calendar : Nat × Nat
  armed  : Bool
  setInstant : Nat
  /-- Folded-period records: sequence, energy, flags (R234). -/
  fold   : Vector (Option (Nat × Int × Nat)) 9
deriving DecidableEq, Repr

/-- A closed period that waits for its commit: what its checks, counters and volatile objects need. -/
structure Closed where
  e     : EntityId
  seq   : Nat
  enet  : Int
  qf    : Nat
  endUs : Nat
  len   : Nat
  mode  : Nat
  ep    : Vector Int 3
  eq    : Vector Int 3
  qnet  : Int
  /-- rms(r) in mA; of the site, the zero-sequence voltage in mV. -/
  rms   : Nat
  /-- Does the period qualify under the checks neutral or missing neutral, reverse energy, energy in Clearing, with its deviation
  (R242)? -/
  checks : Vector (Bool × Int) 3
  /-- Its commit is late, and event 0x0202 says so (01 R32). -/
  late   : Bool := false
deriving DecidableEq, Repr

/-- A session as Heartwood keeps it (07 R178; 12 R318). -/
structure Live where
  sid     : Nat
  openUs  : Nat
  /-- Record number, when the session is bound. -/
  number  : Option Nat
  /-- The opening period has not closed yet; the session is in its energies; its closing period is running. -/
  opening : Bool
  inside  : Bool
  closing : Bool
  endUs   : Nat
  quality : Nat
  /-- Flags of the record (12, key 17). -/
  flags   : Nat
deriving DecidableEq, Repr

/-- A commit between its start and its committed ring (09 R231). -/
structure CommitRun where
  entries : List Closed
  closes  : List (PortId × Live)
  ring    : Ring
  /-- The values at its start of the legal objects that showed older ones. -/
  legal   : Store
deriving DecidableEq, Repr

/-- A check of 09 R242: consecutive periods that ask for a change, and the largest deviation since. -/
structure CheckRun where
  latched : Bool
  run     : Nat
  dev     : Int
deriving DecidableEq, Repr

/-- The energy side of Heartwood (09). -/
structure Energy where
  live    : Vector Entity 9
  bill    : Billing
  batch   : List Closed
  closes  : List (PortId × Live)
  commit  : Option CommitRun
  /-- Consecutive slots that failed (R232). -/
  fails   : Nat
  number  : Nat
  /-- The 32 ring slots: whether the check value matches, and what the ring holds. -/
  slots   : Vector (Option (Bool × Ring)) 32
  newest  : Option Ring
  /-- R240 at SEALED. -/
  lost    : Bool
  sessions : Vector (Option Live) 8
  /-- Sessions that ended while VDD_MEM was down: at most 8 records kept in SRAM, with their closing ring (03, table *Rail monitors*). -/
  unstored : List (PortId × Live × Ring)
  gap     : Vector Nat 8
  neutral : Vector CheckRun 8
  reverse : Vector CheckRun 8
  clearing : Vector CheckRun 8
  missing : CheckRun
  magnet  : CheckRun
deriving DecidableEq, Repr

/-! ### 10: boundaries -/

/-- A boundary set that waits (10 R250): its instant in µs, its second, the steps 1, 2, 3, 5 asked for (bit k for step k; step 4
follows from the calendar), journal flags, and the reason of a demand close and of a billing close. -/
structure BoundSet where
  instant : Nat
  /-- The demand close's own instant in µs (R250). -/
  demandAt : Nat
  stamp   : Nat
  steps   : Nat
  flags   : Nat
  reason2 : Nat
  reason5 : Nat
deriving DecidableEq, Repr

/-- A journal entry (10, table *Boundary journal entry, 32 bytes*). -/
structure JEntry where
  seq     : Nat
  stamp   : Nat
  instant : Nat
  step    : Nat
  done    : Bool
  flags   : Nat
  reason  : Nat
  data1   : Nat
  data2   : Nat
deriving DecidableEq, Repr

/-- A billing snapshot (10, table *Billing snapshot, 512 bytes*). -/
structure Snapshot where
  entity  : Nat
  reason  : Nat
  period  : Nat
  start   : Nat
  close   : Nat
  flags   : Nat
  quality : Nat
  exec    : Nat
  commit  : Nat
  regs    : Vector Nat 6
  timp    : Vector Nat 16
  texp    : Vector Nat 16
  maxImp  : Nat × Nat
  maxExp  : Nat × Nat
  calendar : Nat
deriving DecidableEq, Repr

/-- A load-profile record (10, table *Load-profile record, 192 bytes*). -/
structure ProfileRec where
  /-- Its place in the load-profile partition, 0 to 38,399. -/
  slot    : Nat
  endTime : Nat
  flags   : Nat
  tariff  : Nat
  quality : Nat
  imp     : Vector Nat 9
  exp     : Vector Nat 9
  site    : Vector Nat 4
deriving DecidableEq, Repr

/-- A closed demand sub-interval: length in ms, and import and export of each entity in mWh (10 R262, R275). -/
structure SubInterval where
  ms  : Nat
  imp : Vector Nat 9
  exp : Vector Nat 9
deriving DecidableEq, Repr

/-- The tariff side of Heartwood beside the ring (10). -/
structure Tariff where
  sets    : List BoundSet
  journal : List JEntry
  /-- Snapshots of every entity by slot, 24 each. -/
  snaps   : Vector (Option (Vector Snapshot 9)) 24
  /-- Load-profile records, newest first. -/
  profile : List ProfileRec
  /-- Sub-intervals of the run, newest first, at most 15, and the other copy of the demand history: the one before (10 R275). -/
  history : List SubInterval
  prevHistory : List SubInterval
  /-- Values that legal objects go on to show, because no committed ring holds the newer ones of a boundary yet (01 R30; 10 R253, R276). -/
  shown   : Store
  /-- CloseNow waits for this second. -/
  closeNow : Option Nat
  /-- A grid cycle number is fresh and this was the last one used (R259, R261). -/
  gcnSeen : Option Nat
  /-- The demand run uses the grid-cycle grid. -/
  onGrid  : Bool
deriving DecidableEq, Repr

/-! ### 12: the legally relevant part -/

/-- An entry of the legal logbook without its derived fields (12 R315): `data` is shorter than 32 bytes where the rest is 0x00. -/
structure LegalEntry where
  seq    : Nat
  time   : Nat
  code   : Nat
  flags  : Nat
  entity : Nat
  data   : Bytes
  chain  : Bytes
deriving DecidableEq, Repr

/-- Events of the general logbook (12 R317 and the chapters that name them). -/
inductive GenEvent where
  | timeBaseMismatch (ppm : Int)
  | coreFault (core cause : Nat)
  | stagedDiscarded (group bytes cause : Nat)
  | ownership (fromState toState fromSlot toSlot : Nat)
  | externalReset
  | serviceRestart (slot : Nat)
  | vbatLow
  | imageFailed (imageType slot : Nat)
  | clockLost (clock : Nat)
  | clockRecovered (clock : Nat)
  | railTrip (rail : Nat)
  | level1 (port bit : Nat) (raised : Bool) (measured : Int)
  | generalError (code : Nat)
  | note (code : Nat) (data : List Int)
deriving DecidableEq, Repr

/-- An entry of the general logbook (12 R317). -/
structure GenEntry where
  seq   : Nat
  time  : Nat
  flags : Nat
  event : GenEvent
deriving DecidableEq, Repr

/-- The opening part of a session record (12, table *Opening part, state 1*). -/
structure RecordOpening where
  sessionId  : Nat
  port       : PortId
  priceClass : Nat
  account    : Nat
  openTime   : Nat
  openCommit : Nat
  readouts   : Vector Nat 32
  priceSetId : Nat
  prices     : Vector Nat 33
deriving DecidableEq, Repr

/-- The body of a session record (12, table *Session record body*); key 2 is the device's own. -/
structure RecordBody where
  number     : Nat
  port       : PortId
  sessionId  : Nat
  account    : Nat
  start      : Nat
  stop       : Nat
  imported   : Nat
  exported   : Nat
  /-- Tariffs with a non-zero delta: number, import and export delta in mWh. -/
  tariffs    : List (Nat × Nat × Nat)
  priceSetId : Nat
  priceClass : Nat
  fee        : Nat
  netCost    : Int
  balanceAfter : Int
  quality    : Nat
  flags      : Nat
  logSeq     : Nat
  logChain   : Bytes
  closeCommit : Nat
deriving DecidableEq, Repr

/-- What a record slot in use holds, by its state 1, 2 or 3 (12 R318). -/
inductive RecordSlot where
  | opened (number : Nat) (part : RecordOpening)
  | stored (part : RecordOpening) (body : RecordBody)
  | signed (body : RecordBody) (signature : Bytes)
deriving DecidableEq, Repr

/-- What the sealed-parameter partition holds (12 R307). -/
structure Sealed where
  sealTime : Nat
  values   : Store
  check    : Nat
  hash     : Bytes
deriving DecidableEq, Repr

/-- A field inspection (12 R325). -/
structure Inspection where
  /-- Dictionary tick of the last key. -/
  lastKey   : Nat
  /-- Which mandatory item `*0#` shows. -/
  showing   : Option Nat
  /-- Test count: port, and once the next commit has come its import readout and CommitTime. -/
  testCount : Option (PortId × Option (Nat × Nat))
deriving DecidableEq, Repr

/-- The Heartwood core's stores beside the rings (12): logbooks, session records, the seal, inspection and legal items. -/
structure Heartwood where
  log          : List LegalEntry
  /-- Legal events that wait in the core's SRAM because MRAM cannot be written, oldest first, 64 at most; how many more did not fit; and how
  often that came about (12 R316). -/
  logQueue     : List LegalEntry
  logLost      : Nat
  logOverflows : Nat
  general      : List GenEntry
  /-- Record slots in use, by slot number, rising (12 R318). -/
  records      : List (Nat × RecordSlot)
  nextRecord   : Nat
  /-- Record numbers posted to Burl and not signed, in order (12 R319). -/
  signQueue    : List Nat
  /-- A signature was refused: the tick the retry is due at. -/
  signRetryAt  : Option Nat
  sealedPart   : Option Sealed
  sealBroken   : Nat
  /-- The calibration check failed at start-up and no write has made it pass (08 R215). -/
  calFailed    : Bool
  /-- Access refusals per target since the last event, and the tick of that event (12 R306). -/
  accessPending : List (Nat × Nat × Nat)
  /-- Refusals of Heartwood targets that the core has not counted yet, because it was out (01 R31). -/
  uncounted    : List (Nat × Nat)
  inspection   : Option Inspection
  lockLatch    : Bool
  /-- The legal item area: item code and entity, and the text values shown (12 R324). -/
  items        : List (Nat × Nat × List Int)
  itemsCommit  : Nat
deriving DecidableEq, Repr

/-! ### 11: accounts -/

/-- An account record (11, table *Account record, 64 bytes*). -/
structure Account where
  number       : Nat
  balance      : Int
  creditLimit  : Int
  cardHash     : Bytes
  contractHash : Bytes
  lastSession  : Nat
  tariffClass  : Nat
  friendlyClass : Nat
  status       : Nat
  stsIndex     : Nat
  keyRevision  : Nat
  maxPower     : Nat
  validUntil   : Nat
  /-- The stored check value; the record is sound when it is the CRC-32C of the other fields. -/
  check        : Nat
deriving DecidableEq, Repr

/-- An identity whose decision waits for a host (11 R283). -/
structure AuthRun where
  slot     : Nat
  account  : Nat
  deadline : Nat
deriving DecidableEq, Repr

/-- A binding of a port to an account (11 R284 to R287). -/
structure Binding where
  slot    : Nat
  account : Nat
  sid     : Nat
  /-- Record number, once the session has opened. -/
  number  : Option Nat
  /-- The opening part (R285). -/
  part    : Option RecordOpening
  /-- "Friendly credit used" is written once a session (R291). -/
  friendly : Bool
deriving DecidableEq, Repr

/-- The keypad (11 R296, R298, R301, R501): last matrix and how many scans agree, the accepted matrix, the keys of the entry in
progress (newest last), the tick of the last key, ticks of the failures, end of the lockout. -/
structure Keypad where
  matrix  : BitVec 16
  agree   : Nat
  accepted : BitVec 16
  /-- The accepted press is not decoded yet. -/
  fresh   : Bool
  entry   : List Key
  lastKey : Nat
  fails   : List Nat
  lockTill : Option Nat
deriving DecidableEq, Repr

/-- The ledger and authorisation (11). -/
structure Ledger where
  /-- Records by slot, rising. -/
  accounts : List (Nat × Account)
  /-- Token-state words by slot, rising: newest and back (R300). -/
  tokens  : List (Nat × Nat × Nat)
  /-- Token-ID memory, oldest first: account, TID, accepted order. -/
  memory  : List (Nat × Nat × Nat)
  order   : Nat
  /-- The indexes by account number, card and contract: entries that are not 0, by place, rising (R279). -/
  index   : Vector (List (Nat × Nat)) 3
  auth    : Vector (Option AuthRun) 8
  /-- A binding posted to Heartwood at the grant and not taken yet: account slot and number (R284). -/
  posted  : Vector (Option (Nat × Nat)) 8
  bind    : Vector (Option Binding) 8
  /-- Account slot that holds the port after its binding ended, until IDLE (R291). -/
  held    : Vector (Option Nat) 8
  keypad  : Keypad
  /-- A key-change half that waits for the other: account, half, tick the 300 s end. -/
  half    : Option (Nat × Nat × Nat)
  /-- The card frame accepted last, and its tick (R297). -/
  card    : Option (Bytes × Nat)
deriving DecidableEq, Repr

/-! ### 13: Firebreak -/

/-- A running envelope (13 R356): start current in 0.1 A, I7 tick of its start, its length in ticks, and the level of its demand. -/
structure Ramp where
  i0    : Nat
  start : Nat
  len   : Nat
  level : Nat
deriving DecidableEq, Repr

/-- A port as Firebreak and the arbiter see it (13). Times are I7 ticks. -/
structure PortSafety where
  enA : Bool
  enB : Bool
  fbA : Bool
  fbB : Bool
  ramps   : List Ramp
  /-- Demands that have their envelope already: bit b for cause b, 21 for level 2, 22 for level 3 (R36). -/
  ramped  : Nat
  /-- Envelopes applied at the last 20 ticks, newest first (R358). -/
  history : List Nat
  follow  : Nat
  /-- Tick by which the halves drop in an immediate DC stop (R359, R353). -/
  dropAt  : Option Nat
  closingAt : Option Nat
  openingAt : Option Nat
  /-- Tick at which the envelope reached zero (R179). -/
  zeroAt  : Option Nat
  /-- Residual-current self-test: last pass, and the one running (R340). -/
  rcdPass : Option Nat
  rcdRun  : Option Nat
  /-- Insulation: the resistance last evaluated in Ω, U in mV that set bit 9, low evaluations in a row, isolation test passed (R341, R342). -/
  imdOhms : Nat
  imdU    : Nat
  imdLow  : Nat
  isoPassed : Bool
  /-- The monitor's loopback has failed (R342, R367). -/
  loopFail  : Bool
  /-- Tick of entry to AUTHORISED (R340). -/
  authTick  : Nat
  /-- ContactorFaultClear accepted (R350). -/
  cleared : Bool
  /-- What Firebreak last read of the port. -/
  view    : PortView
deriving DecidableEq, Repr

/-- A PT1000 sensor (13 R345, R346). -/
structure Sensor where
  overRun  : Nat
  underRun : Nat
  openRun  : Nat
  shortRun : Nat
  seenAt   : Nat
  limitA   : Nat
  /-- The sensor has tripped and has not had ten low readings since. -/
  tripped  : Bool
deriving DecidableEq, Repr

/-- The safety side (13). Times are I7 ticks. -/
structure Safety where
  ports      : Vector PortSafety 8
  /-- Ticks in which the channels of ESTOP, DEEN, AUX0, AUX1 differ (R334), and since when both are closed (R335). -/
  differ     : Vector Nat 4
  closedAt   : Vector (Option Nat) 4
  resetHigh  : Option Nat
  /-- Rising tick of a valid reset edge that has fallen and not acted yet (R336, R337). -/
  edge       : Option Nat
  missingA   : Nat
  /-- Safety ticks that crossing 0x34 did not deliver to Firebreak A since the last it took (02 R56). -/
  lostTicks  : Nat
  missingB   : Nat
  viewsDiffer : Nat
  causesDiffer : Vector Nat 8
  outDiffer  : List (OsOutput × Nat)
  outFaults  : List OsOutput
  firebreakFault : Bool
  clockFault : Bool
  penBelowAt : Option Nat
  sensors    : Vector Sensor 16
  gridGoodAt : Option Nat
  restartA   : Option Nat
  restartB   : Option Nat
  /-- The start-up hold waits for the self-tests, then for a reset edge under RestartPolicy 1 (R362). -/
  testsPassed : Bool
  awaitAt    : Nat
  pulseAt    : Nat
  /-- Check values the two channels computed last (R364). -/
  checkA     : Nat
  checkB     : Nat
deriving DecidableEq, Repr

/-! ### 14: Canopy -/

/-- Canopy node states (14 R398), in the order of their numbers 0 to 4. -/
inductive NodeState where | off | listening | joining | member | coordinator
deriving DecidableEq, Repr

/-- What a Canopy frame carries, before protection (14, table *Frame types and payloads*). -/
inductive CnpMsg where
  | nif (p : NifPayload)
  | joinRequest (long nonce : Bytes) (previous capabilities rank : Nat)
  | joinAccept (nonce long : Bytes) (address network gcn rank : Nat)
  | joinRefuse (long : Bytes) (reason : Nat)
  | leave (reason : Nat)
  | ack
  | keepalive
  | tonemapRequest (id : Nat)
  | tonemapResponse (id map mask : Nat) (thresholds : Bytes)
  | linkRequest (long nonce : Bytes) (capabilities : Nat)
  | linkAccept (nonce : Bytes) (capabilities : Nat)
  | loadReport (phase : Nat) (draw limit : List Nat)
  | appResponse (id : Nat) (values : List (Nat × Bytes))
deriving DecidableEq, Repr

/-- One symbol that Canopy sends: the pairs that send, and which of them send their mark tone (14 R371). -/
structure Sym where
  pairs : BitVec 8
  marks : BitVec 8
deriving DecidableEq, Repr

/-- What the receiver knows of the medium (14 R373, R385): busy or not, strong symbols in a row up to 2, symbols without a signal in a row up to
3, and the energies outside the plan of the last 64 symbols, newest first. -/
structure Medium where
  busy   : Bool
  strong : Nat
  quiet  : Nat
  outer  : List Nat
deriving DecidableEq, Repr

/-- A frame that waits for the medium or its ACK (14 R386 to R388): neighbour address, sequence, contention window, attempts made,
whether robust mode is forced. -/
structure CnpTx where
  dst    : Nat
  msg    : CnpMsg
  ackReq : Bool
  seq    : Nat
  cw     : Nat
  tries  : Nat
deriving DecidableEq, Repr

/-- A neighbour with its link context 16 + n (14 R395, R400, R401, R403). -/
structure Neigh where
  long    : Bytes
  addr    : Nat
  caps    : Nat
  txMap   : Nat
  txMask  : Nat
  txThr   : Bytes
  rxMap   : Nat
  /-- Pairs and thresholds of the map chosen for it. -/
  rxMask  : Nat
  rxThr   : Bytes
  /-- The map before, still accepted (R396). -/
  rxOld   : Option Nat
  phase   : Nat
  maxPay  : Nat
  failRun : Nat
  seen    : Nat
  /-- Superframe of the last frame from it; superframe by which the first secured frame is due. -/
  lastSf  : Nat
  firstBy : Option Nat
  /-- FrameCounter sent last; window of R401; Sequences sent and accepted last. -/
  counter : Nat
  high    : Nat
  window  : Nat
  txSeq   : Nat
  rxSeq   : Option Nat
  mapAt   : Nat
  /-- A tone-map request in flight: RequestId and the superframe by whose end a response is due. -/
  request : Option (Nat × Nat)
  /-- Own nonce of a LINK_REQUEST in flight. -/
  linkNonce : Option Bytes
  /-- Last LOAD_REPORT: superframe, draw, limit (R394). -/
  report  : Option (Nat × List Nat × List Nat)
  /-- Order of last use (R403). -/
  used    : Nat
deriving DecidableEq, Repr

/-- The Canopy engine and I3 beside the objects 0x7010 (14). A superframe is 64 own cycles. -/
structure Canopy where
  node     : NodeState
  /-- Grid cycle number counted, whether one has been taken, bit 51 of crossing 0x1A, and the one cycle of a discontinuity (R391). -/
  gcn      : Nat
  known    : Bool
  valid    : Bool
  gap      : Bool
  /-- Cycle within the superframe, superframes counted, cycles since the last beacon or miss, cycles listened. -/
  cyc      : Nat
  /-- Own UTC in µs at the last crossing of cycle 0. -/
  cyc0     : Nat
  sf       : Nat
  sinceBeacon : Nat
  listened : Nat
  /-- Network of the beacon heard, whether a NIF of it has been, and its coordinator's long address. -/
  heard    : Option Nat
  heardNif : Bool
  heardLong : Bytes
  /-- The election is lost; the node yields at the end of its superframe (R399). -/
  yields   : Bool
  /-- Phase offsets of the last 8 beacons in 0.01°, newest first (R393). -/
  phis     : List Nat
  drezu    : Bool
  masks    : List Nat
  reservations : List (Nat × Nat × Nat)
  span     : Nat
  nifEvery : Nat
  refreshS : Nat
  nifFollows : Bool
  tries    : Nat
  nonce    : Bytes
  joinBy   : Nat
  neigh    : Vector (Option Neigh) 128
  uses     : Nat
  /-- As coordinator: address, long address and superframe of the last frame of each member whose context another neighbour has now (R400, R403). -/
  leased   : List (Nat × Bytes × Nat)
  queue    : List CnpTx
  /-- A frame sent that waits for its ACK, and the tick it fails at. -/
  wait     : Option (CnpTx × Nat)
  lastToCoord : Nat
  lastReport  : Nat
  requestId   : Nat
  nextMap  : Nat
  /-- What the receiver knows of the medium (R385). -/
  medium   : Medium
  /-- The transmission under way or last made: UTC in µs of its first symbol, and its symbols (R372). -/
  air      : Option (Nat × Nat)
  /-- Time at the balls of the last accepted crossing of channel 0, in 1/1,024 sample (08 R198; R397). -/
  own      : Option Nat
  /-- I3 was reset: the engine goes on at the next beacon (R406). -/
  resume   : Bool
  /-- LoadReportInterval and ReadFromCoordinator in force (R407). -/
  reportEvery : Nat
  mayRead  : Bool
  /-- Canopy tables (R407): number with its UTC time in s, last address, long addresses of the neighbours, NetworkId. -/
  stored   : Option (Nat × Nat)
  lastAddress : Option Nat
  knownLongs : List Bytes
  lastNetwork : Option Nat
deriving DecidableEq, Repr

/-! ### 15: check-value units -/

/-- A window armed on an engine (15 R412 to R417). `order` is the order of arming over all engines. -/
structure CvuWindow where
  set    : WindowSet
  order  : Nat
  /-- Tag that armed it. -/
  tag    : Nat
  /-- Disarmed; it goes at the end of the entry in flight. -/
  disarm : Bool
  /-- Entries that wait for the context: identifier byte, bytes, last-segment flag. -/
  waits  : List (Byte × Bytes × Bool)
  /-- While it holds its context: the running value and byte count to save, and the profile. -/
  work   : Option (Nat × Nat × Nat)
deriving DecidableEq, Repr

/-- The sixteen engines; the contexts' values are the objects 0xB200+x. -/
structure Cvu where
  engines : Vector (List CvuWindow) 16
  order   : Nat
deriving DecidableEq, Repr

/-! ### 16: Burl -/

/-- A half of a key slot (16 R428); its state, slot, half, lengths, nonce and tag follow from these. `pub` is the public key of an
asymmetric key. -/
structure KeyHalf where
  typ        : Nat
  attrs      : Nat
  keyId      : Bytes
  generation : Nat
  counter    : Nat
  material   : Bytes
  pub        : Bytes
deriving DecidableEq, Repr

/-- A key slot: generation count, which half is active, and the halves (16 R428, R429). -/
structure KeySlot where
  count   : Nat
  activeB : Bool
  a       : Option KeyHalf
  b       : Option KeyHalf
deriving DecidableEq, Repr

/-- A replacement of a slot between its steps 2 and 4 (16 R430): the new half, written and not yet in force, whether it verifies, and the tick it is
in force at. -/
structure KeyRun where
  slot     : Fin 64
  half     : KeyHalf
  verifies : Bool
  dueAt    : Nat
deriving DecidableEq, Repr

/-- An attestation statement of a host slot (16 R441). -/
inductive Attest where
  | none
  | queued
  | ready (body signature : Bytes)
deriving DecidableEq, Repr

/-- What the signing unit does (16 R422, R423): the front record of the sign queue, or a statement whose body is built. -/
inductive Signing where
  | idle
  | record
  | statement (s : SlotId) (body : Bytes)
deriving DecidableEq, Repr

/-- Burl beside its objects and counters (16). -/
structure Burl where
  slots    : Vector KeySlot 64
  /-- Crypto state of contexts 0 to 143; contexts 144 + s stand with the host slots. -/
  contexts : Vector (Option Bytes) 144
  /-- The broadcast key of the Canopy engine (R437). -/
  broadcast : Option Bytes
  attest   : Vector Attest 16
  queue    : List SlotId
  signing  : Signing
  /-- Seal hash recorded at sealing (12 R308). -/
  sealHash : Option Bytes
  /-- Checks of 09 R242 that latched and wait for the response: source and detail. -/
  reports  : List (Nat × Int)
  /-- TAMPER_HOLD is entered at the next tick boundary, for this source. -/
  holdNext : Option Nat
  /-- The key operation that runs (R432). -/
  keyOp    : Option KeyRun
  /-- Fuses of step 4 of Seal that are blown, in the order debug, sealing, sealed, and the tick of the last (R450). -/
  sealFuses : Nat
  fuseAt   : Nat
  /-- Both cells of each monotonic counter (R440). -/
  cells    : Vector (Nat × Nat) 18
deriving DecidableEq, Repr

/-- The slots as Enoux ships a unit, PROVISIONED (16 R426; log entry 39). -/
def KeySlot.shipped (n : Fin 64) : KeySlot :=
  let keyed (h : KeyHalf) : KeySlot := ⟨1, false, some h, none⟩
  match n with
  | 0x00 => keyed ⟨0x04, 0x381, (Config.sha256 Config.identityPublicKey).take 8, 1, 0, Config.keyMaterial 0, Config.identityPublicKey⟩
  | 0x01 => keyed ⟨0x02, 0x220, (Config.hkdf (Config.keyMaterial 1) [] [] 8), 1, 0, Config.keyMaterial 1, []⟩
  | 0x02 => keyed ⟨0x05, 0x002, (Config.sha256 (Config.keyMaterial 2)).take 8, 1, 0, Config.keyMaterial 2, Config.keyMaterial 2⟩
  | 0x04 => keyed ⟨0x04, 0x3C1, (Config.sha256 Config.recordPublicKey).take 8, 1, 0, Config.keyMaterial 3, Config.recordPublicKey⟩
  | _ => ⟨0, false, none, none⟩

/-! ### 17: update and service -/

/-- Phase of the unit a running plan works on (17, 0x9202.04). -/
inductive PlanPhase where | preparing | switched | trial
deriving DecidableEq, Repr

/-- Progress of a running plan (17 R464, R467 to R471). Times are dictionary ticks. -/
structure PlanRun where
  /-- Step from 0, and unit within the step: the port engine of a type 1 step, 0 the standby and 1 the former active core of a type 0
  step. -/
  step     : Nat
  unit     : Nat
  phase    : PlanPhase
  /-- Its preparation has begun; a step waits for it while the device is not IN_SERVICE (R466, R472). -/
  begun    : Bool
  since    : Nat
  /-- Mirror or migration complete (R467, R468). -/
  prepared : Bool
  /-- A Firebreak step waits for Clearing on every port (R469). -/
  draining : Bool
  drainStopped : Bool
  readyBy  : Option Nat
  /-- The trial's end; none while a Firebreak step waits for its commissioning (R470). -/
  trialTill : Option Nat
  switchedAt : Nat
deriving DecidableEq, Repr

/-- One action of the way back after a failed trial (R471): ports of an engine move to its partner, a core restarts, a core runs again, the Sapwood
roles swap. -/
inductive BackStep where
  | move (engine : Fin 4)
  | restart (c : CoreId)
  | up (c : CoreId)
  | swap
deriving DecidableEq, Repr

/-- Update and service beside their objects (17). -/
structure Update where
  /-- Header and payload of the images in slots A and B of types 0 to 6. -/
  images   : Vector (Option (ImageHdr × Bytes) × Option (ImageHdr × Bytes)) 7
  /-- Header and payload in the staging areas. -/
  staging  : Vector (Option (ImageHdr × Bytes)) 8
  run      : Option PlanRun
  /-- The plan may start: its instant has been decided late (R465), to be started at the first chance. -/
  lateStart : Bool
  /-- Crossing 0x1A has held a fresh value since the plan became ARMED (R465). -/
  gridSeen : Bool
  /-- The slot each type of the plan was installed into, B when true (R463). -/
  targets  : List (Nat × Bool)
  /-- What is left of the way back after a failed trial (R471). -/
  back     : List BackStep
deriving DecidableEq, Repr

/-! ### 18: the display -/

/-- The content of a page (18 R495, R498); glyphs are the images' own (log entry 48). -/
inductive Page where
  | blank
  | legal (code entity : Nat) (values : List Int) (commit : Nat)
  | sapwood (n : Nat) (text : Bytes)
  | echo (keys : List Key)
  | token (result units : Nat)
  | check (value remaining : Nat)
  /-- An identification was refused, or a card not taken (11 R501, R502). -/
  | refused
deriving DecidableEq, Repr

/-- The step record (18 R491). `pixels` holds the grey levels of the row, nibble c for column c; row 0xFF is a preparation. -/
structure StepRec where
  layer  : Nat
  row    : Nat
  half   : Nat
  vcom   : Nat
  vseg   : Nat
  first  : Nat
  last   : Nat
  pixels : Nat
deriving DecidableEq, Repr

/-- A frame that runs (18 R485): rows to update of the layers that remain, the current one first; preparation steps and rows it still
has; whether the step in flight has begun its first half. -/
structure FrameRun where
  full   : Bool
  page   : Page
  layers : List (Nat × List Nat)
  prep   : Nat
  rows   : List Nat
  begun  : Bool
  start  : Nat
deriving DecidableEq, Repr

/-- The header copy of the journal that is the newer (18 R491). -/
structure FrameHeader where
  seq     : Nat
  number  : Nat
  kind    : Nat
  band    : Nat
  running : Bool
  mask    : Nat
  layer   : Nat
  row     : Nat
  content : Nat
deriving DecidableEq, Repr

/-- The settings of group 0x2C in force since the last page change (18 R496): FullRefreshH, PartialUpdate, PanelSensor, RailHoldMs, TokenPageS. -/
structure DisplaySet where
  refreshH  : Nat
  partialUp : Bool
  sensor    : Nat
  railHold  : Nat
  tokenPage : Nat
deriving DecidableEq, Repr

/-- The display engine beside its objects (18). -/
structure Display where
  shown   : Page
  /-- The page of the current scroll entry, as rendered; entry number from 1, and the tick its dwell began. -/
  cur     : Page
  entry   : Nat
  dwellAt : Nat
  /-- The panel last drew an interrupt page. -/
  interrupted : Bool
  tokenTill : Option Nat
  checkTill : Option Nat
  fullWanted : Bool
  lastFull : Nat
  frame   : Option FrameRun
  /-- The rails are up with no frame until this tick. -/
  railsTill : Option Nat
  band    : Nat
  bandSet : Bool
  /-- A frame waits for an allowed band (R488). -/
  deferred : Bool
  header  : FrameHeader
  /-- P and U of each common, 64k + r (R490, R491). -/
  ledger  : Vector (Bool × Bool) 192
  record  : Option StepRec
  /-- Stopped by rail or clock, and the tick since which all are good again (R494). -/
  stopped : Bool
  goodAt  : Option Nat
  /-- Payload of the waveform data in use, once accepted (R489). -/
  wave    : Option Bytes
  /-- Committed sequence in force since the last page change: entries (R496). -/
  scroll  : List Nat
  set     : DisplaySet
  /-- The page of priority 3 is the notice of a refusal (11 R501, R502). -/
  notice  : Bool
deriving DecidableEq, Repr

/-- Everything the device sends. -/
inductive Out where
  /-- A message to a host: what it says, the way it goes, and its bytes on the wire (06 R136, R138, R140). -/
  | host (slot : SlotId) (iface : Iface) (reqId : Byte) (seq : Nat) (secured : Bool) (r : HostReply) (via : Via) (wire : Bytes)
  /-- The management write that sets the speed of the ETH0 PHY: its address and Eth0Speed (06 R144). -/
  | mdio (phy speed : Nat)
  | fabric (tag : Nat) (r : FabricReply)
  | timer (core : CoreId) (channel : Nat)
  | arp (iface : Iface) (address : Nat)
  | icmp (iface : Iface) (data : Bytes)
  /-- A CAN4 frame: identifier and the eight bytes with their CRC-8 (07 R172). -/
  | can4 (id : Nat) (data : Bytes)
  /-- An answer of a port's modem in SLAC: what is confirmed, and whether it is accepted (07 R167). -/
  | slac (p : PortId) (mac : Bytes) (kind : Nat) (ok : Bool)
  /-- An answer of a port engine to a vehicle request (07 R168): response code, current limit and export limit in 0.1 A, and whether it tells
  the vehicle to stop (07 R179). -/
  | v2g (p : PortId) (code : Nat) (limit exportLimit : Nat) (stop : Bool)
  /-- Content of the cyclic Annex frames of a port: output voltage, current offered, flags (07 R171). -/
  | annex (p : PortId) (voltage limit flags : Nat)
  /-- Result of a check-value window: engine, window, result code, delivered entry, value (15 R414). -/
  | cvu (engine index result : Nat) (entry : Bytes) (value : Nat)
  /-- Answer of Burl to the initiator of an operation: 0 or an abort code (16 R422, R425). -/
  | burl (tag code : Nat)
  /-- A Canopy frame: source, destination, sequence, AckRequest, ToneMapId, FrameCounter when secured, its message, and its symbols on the mains
  (14 R371, R378). -/
  | canopy (src dst seq : Nat) (ackReq : Bool) (map : Nat) (counter : Option Nat) (msg : CnpMsg) (air : List Sym)
  /-- A beacon: network, NifFollows, DrezuActive, SuperframeCount, and its symbols (14 R382). -/
  | beacon (network : Nat) (nif drezu : Bool) (superframe : Nat) (air : List Sym)
  /-- A drive step queued on crossing 0x37 (18 R492). -/
  | drive (r : StepRec)
  /-- The halves of a repair: the step record, and the commons each gets one for (18 R494). -/
  | repair (r : StepRec) (commons : List Nat)
  /-- The lock drive of a port: towards locked or towards released (07 R166). -/
  | lock (p : PortId) (close : Bool)
deriving DecidableEq, Repr

/-! ### The device and the state -/

/-- Everything of the device but the fabric's memories and the command queue. -/
structure Dev where
  /-- Free values drawn so far; the MODEL's own (log entry 5). -/
  free     : Nat
  /-- What the device has sent, newest last. -/
  out      : List Out
  /-- Messages handed to CAN5 that wait until its controller may send (06 R141). -/
  held     : List Out
  obj      : Store
  time     : TimeSt
  clocks   : Clocks
  crossings : Vector Crossing 58
  refusals : List RefusalCount
  mail     : Vector (List Mail) 12
  cores    : Vector CoreRun 12
  /-- Sapwood B is the active one (01 R17). -/
  activeB  : Bool
  power    : Power
  dict     : Dict
  hosts    : Hosts
  heart    : Heartwood
  ports    : Vector Port 8
  modules  : Vector Module 16
  site     : Site
  safety   : Safety
  metro    : Metro
  energy   : Energy
  tariff   : Tariff
  ledger   : Ledger
  cvu      : Cvu
  burl     : Burl
  update   : Update
  canopy   : Canopy
  display  : Display
deriving DecidableEq, Repr

/-- The state of the model: the commands waiting, first in first out; the fabric's memories; the device; and the device as reads see it. -/
structure State where
  pending : List Instr
  mem     : Memory
  dev     : Dev
  /-- The device as it stood at the last tick boundary: what reads and publish messages take their values from (05 R114). -/
  seen    : Dev
deriving DecidableEq, Repr

/-- The device right after the main rails became good and reset ended (03 R65; log entry 2). -/
def Dev.reset : Dev where
  free := 0
  out := []
  held := []
  obj := []
  time := ⟨0, 0, 0, 0, none, false, false, 0, 0, Vector.replicate 64 none⟩
  clocks := ⟨false, false, false, false, false, 0, 0, false, 8000000, false, false⟩
  crossings := Vector.replicate 58 Crossing.reset
  refusals := []
  mail := Vector.replicate 12 []
  cores := Vector.replicate 12 .held
  activeB := false
  power := {
    state := .starting, railGood := Vector.replicate 9 true, pfw := false, pfwTime := 0, shutdownStep := 0,
    finalDone := false, resetN := true, resetWaiting := false, pfwN := true, bootStep := 0, buffer := [],
    bufferOverflow := false, bufferDropped := 0, vbatLost := false, vbatDown := false, vbatNote := false, railLeft := false, mirror := [], memBackAt := none, tripped := none, startAlarm := none }
  dict := {
    tick := 0, groups := Vector.replicate 64 ⟨.empty, [], 0, 0⟩, items := [], journal := [], journalAt := 0, stored := [],
    lists := Vector.replicate 16 ⟨none, none, none, 0, none⟩, roleChanged := false, lostGroups := [] }
  hosts := {
    slots := Vector.replicate 16 ⟨false, none, [], 0, 0, 0, none, [], none, 0, .can5, 0, Vector.replicate 3 none, none, none, none,
      Vector.replicate 3 (0, 0), 0⟩,
    ownership := .none, ownerSince := 0, lastHeartbeat := 0, can := Vector.replicate 6 .off,
    busOffCounts := Vector.replicate 6 0 }
  heart := {
    log := [], logQueue := [], logLost := 0, logOverflows := 0, general := [], records := [], nextRecord := 1, signQueue := [], signRetryAt := none,
    sealedPart := none, sealBroken := 0, calFailed := false, accessPending := [], uncounted := [], inspection := none, lockLatch := false, items := [],
    itemsCommit := 0 }
  ports := Vector.replicate 8 {
    session := .idle, pilot := .a, pilotAt := 0, cp := .low, prox := 1000, lock := .released, drive := none, proto := none, setupAt := none,
    steadyTill := none, basic := false, slac := .idle, evMatch := none, handshake := false, tls := false, tls13 := false, dynamic := false, permission := false, wants := false,
    exports := false, ev := ⟨0, 0, 0, 0, 0, 0⟩, start := false, stop := none, level2 := false, exportStop := false, endReason := 0,
    safe := false, opened := false, faultAfter := false, authorisedAt := 0, allocChangedAt := 0, exportAlloc := 0, exportChangedAt := 0, pausedAt := none,
    lowDraw := Vector.replicate 3 0, shed := Vector.replicate 3 false, migrateTo := none }
  modules := Vector.replicate 16 ⟨none, false, 0, 0, 0, 0, 0, 0, false, false, 0, 0, 0, none, none⟩
  site := ⟨0, false, 0, none, 0⟩
  safety := {
    ports := Vector.replicate 8 ⟨false, false, false, false, [], 0, [], 0, none, none, none, none, none, none, 0, 0, 0, false, false, 0, false,
      ⟨0, 0, 0, 0⟩⟩
    differ := Vector.replicate 4 0, closedAt := Vector.replicate 4 none, resetHigh := none, edge := none, missingA := 0, lostTicks := 0, missingB := 0,
    viewsDiffer := 0, causesDiffer := Vector.replicate 8 0, outDiffer := [], outFaults := [], firebreakFault := false,
    clockFault := false, penBelowAt := none, sensors := Vector.replicate 16 ⟨0, 0, 0, 0, 0, 0xFFFF, false⟩, gridGoodAt := none,
    restartA := none, restartB := none, testsPassed := false, awaitAt := 0, pulseAt := 0, checkA := 0, checkB := 0 }
  metro := {
    chans := Vector.ofFn fun (c : Fin 68) => ⟨0, 1073741824, 0, 0, if c.val ≥ 4 ∧ (c.val - 4) % 8 = 7 then 0x20 else 0, 0,
      if c.val < 4 then 0 else if (c.val - 4) % 8 < 3 then 0 else if (c.val - 4) % 8 = 7 then 4 else 1, 0, 0, 0, 0, 0, 1, [], [], 0, 0, 0, false,
      false, none, 0, 0, 0, 0, false, false⟩
    meters := Vector.replicate 9 ⟨0, 0, 0, none, none, none, false, 0, false, [], none, 0, 0, Vector.replicate 3 0, Vector.replicate 3 0, 0, 0,
      0, 0, ⟨400, 50, 500, 50, false, 250, 230000, 0, 0, 0, 50⟩, Vector.replicate 2 0, [], [], false⟩
    running := false, lost := false, invalid := 0, bandSet := false, edges := #v[-320, 0, 320, 640, 960, 1280, 1600]
    stuck := Vector.replicate 16 0, ones := Vector.replicate 16 0, cal := none }
  energy := {
    live := Vector.replicate 9 Entity.zero, bill := Billing.zero, batch := [], closes := [], commit := none, fails := 0,
    number := 0, slots := Vector.replicate 32 none, newest := none, lost := false, sessions := Vector.replicate 8 none, unstored := [],
    gap := Vector.replicate 8 0, neutral := Vector.replicate 8 ⟨false, 0, 0⟩, reverse := Vector.replicate 8 ⟨false, 0, 0⟩,
    clearing := Vector.replicate 8 ⟨false, 0, 0⟩, missing := ⟨false, 0, 0⟩, magnet := ⟨false, 0, 0⟩ }
  tariff := ⟨[], [], Vector.replicate 24 none, [], [], [], [], none, none, false⟩
  ledger := {
    accounts := [], tokens := [], memory := [], order := 0, index := Vector.replicate 3 [], auth := Vector.replicate 8 none, posted := Vector.replicate 8 none, bind := Vector.replicate 8 none,
    held := Vector.replicate 8 none, keypad := ⟨0, 0, 0, false, [], 0, [], none⟩, half := none, card := none }
  cvu := ⟨Vector.replicate 16 [], 0⟩
  burl := {
    slots := Vector.ofFn KeySlot.shipped, contexts := Vector.replicate 144 none, broadcast := none
    attest := Vector.replicate 16 Attest.none, queue := [], signing := .idle, sealHash := none, reports := [], holdNext := none, keyOp := none
    sealFuses := 0, fuseAt := 0, cells := Vector.replicate 18 (0, 0) }
  update := ⟨Vector.replicate 7 (none, none), Vector.replicate 8 none, none, false, false, [], []⟩
  canopy := {
    node := .off, gcn := 0, known := false, valid := false, gap := false, cyc := 0, cyc0 := 0, sf := 0, sinceBeacon := 0, listened := 0, heard := none
    heardNif := false, heardLong := [], yields := false, phis := [], drezu := false, masks := [], reservations := [], span := 160, nifEvery := 4
    refreshS := 300, nifFollows := false, tries := 0, nonce := [], joinBy := 0, neigh := Vector.replicate 128 none, uses := 0, leased := [], queue := []
    wait := none, lastToCoord := 0, lastReport := 0, requestId := 0, nextMap := 1
    medium := ⟨false, 0, 0, []⟩, air := none, own := none, resume := false, reportEvery := 16, mayRead := true, stored := none
    lastAddress := none, knownLongs := [], lastNetwork := none }
  display := {
    shown := .blank, cur := .blank, entry := 1, dwellAt := 0, interrupted := false, tokenTill := none, checkTill := none, fullWanted := false
    lastFull := 0, frame := none, railsTill := none, band := 0, bandSet := false, deferred := false
    header := ⟨0, 0, 0, 0, false, 0, 0, 0xFF, 0⟩, ledger := Vector.replicate 192 (false, false), record := none, stopped := false
    goodAt := none, wave := none, scroll := [], set := ⟨24, true, 0xFF, 500, 10⟩, notice := false }

/-- The state right after reset: nothing waits, no memory byte is listed. -/
def State.reset : State := ⟨[], [], Dev.reset, Dev.reset⟩

end Sys2Proof.Machine
end

