-- ==== Sys2Proof/Machine/Crc.lean ====
section
/-! DEFINITION. Cyclic redundancy checks, computed bit by bit (06 R148, 15 R410). -/

namespace Sys2Proof.Machine

/-- Apply a function a number of times. -/
def iter {α : Type} (f : α → α) : Nat → α → α
  | 0, a => a
  | n + 1, a => iter f n (f a)

/-- The low `w` bits of a number in reverse order. -/
def revBits : Nat → Nat → Nat
  | 0, _ => 0
  | w + 1, x => (x % 2) * 2 ^ w + revBits w (x / 2)

/-- One bit of a reflected CRC, `poly` already reversed. -/
def crcBitR (poly c : Nat) : Nat := if c % 2 = 1 then (c / 2) ^^^ poly else c / 2

/-- One bit of a CRC of width `w`, most significant bit first. -/
def crcBitF (w poly c : Nat) : Nat :=
  if c / 2 ^ (w - 1) % 2 = 1 then ((c * 2) % 2 ^ w) ^^^ poly else (c * 2) % 2 ^ w

/-- The running value after the bytes (15 R410): `reflected` input and output, or neither. -/
def crcRun (w poly : Nat) (reflected : Bool) (running : Nat) (bs : Bytes) : Nat :=
  if reflected then
    let p := revBits w poly
    bs.foldl (fun c b => iter (crcBitR p) 8 (c ^^^ b.toNat)) running
  else
    bs.foldl (fun c b => iter (crcBitF w poly) 8 (c ^^^ (b.toNat * 2 ^ (w - 8)))) running

/-- A whole CRC: initial value in the orientation of the output, bytes, final XOR (15 R410): over no bytes it is Init XOR FinalXor. -/
def crc (w poly ini : Nat) (reflected : Bool) (xorOut : Nat) (bs : Bytes) : Nat :=
  crcRun w poly reflected ini bs ^^^ xorOut

/-- CRC-32C with the parameters of 06 R148. -/
def crc32c (bs : Bytes) : Nat := crc 32 0x1EDC6F41 0xFFFFFFFF true 0xFFFFFFFF bs

end Sys2Proof.Machine
end

