-- ==== Sys2Proof/Machine/Ops.lean ====
section
/-! DEFINITION. Named operations over memory, objects, time, logbooks and host replies that the meanings share. -/

namespace Sys2Proof.Machine

/-! ### Memory (01, memory layouts) -/

/-- What a byte that no entry lists reads as (log entry 7: DESIGN CHOICE). -/
def Memory.unlisted : Byte := 0

/-- The byte at an address. -/
def Memory.read : Memory → Nat → Byte
  | [], _ => Memory.unlisted
  | (a, b) :: r, x => if a = x then b else Memory.read r x

/-- Store a byte, keeping addresses rising and no entry that reads as an unlisted one. -/
def Memory.write : Memory → Nat → Byte → Memory
  | [], x, v => if v = Memory.unlisted then [] else [(x, v)]
  | (a, b) :: r, x, v =>
    if x < a then (if v = Memory.unlisted then (a, b) :: r else (x, v) :: (a, b) :: r)
    else if x = a then (if v = Memory.unlisted then r else (x, v) :: r)
    else (a, b) :: Memory.write r x v

/-- Is the list in its one canonical form: addresses strictly rising from `lo`, no entry equal to an unlisted byte? -/
def Memory.wfFrom : Nat → Memory → Bool
  | _, [] => true
  | lo, (a, b) :: r => decide (lo ≤ a) && decide (b ≠ Memory.unlisted) && Memory.wfFrom (a + 1) r

/-- The canonical form of a memory. -/
def Memory.wf (m : Memory) : Bool := Memory.wfFrom 0 m

/-- Store bytes from an address on. -/
def Memory.writeBytes (m : Memory) (x : Nat) : Bytes → Memory
  | [] => m
  | b :: r => Memory.writeBytes (m.write x b) (x + 1) r

/-- Read bytes from an address on. -/
def Memory.readBytes (m : Memory) (x : Nat) : Nat → Bytes
  | 0 => []
  | n + 1 => m.read x :: Memory.readBytes m (x + 1) n

/-! ### The object store -/

/-- The value an entry gives, if the key is listed. -/
def Store.find : Store → Nat → Option Val
  | [], _ => none
  | (a, v) :: r, k => if a = k then some v else Store.find r k

/-- List a value under a key, keys strictly rising. -/
def Store.insert : Store → Nat → Val → Store
  | [], k, v => [(k, v)]
  | (a, w) :: r, k, v =>
    if k < a then (k, v) :: (a, w) :: r
    else if k = a then (k, v) :: r
    else (a, w) :: Store.insert r k v

/-- Take a key out. -/
def Store.erase (l : Store) (k : Nat) : Store := l.filter fun x => decide (x.1 ≠ k)

namespace Dev

/-- The value an object holds. -/
def val (d : Dev) (k : Nat) : Val :=
  match d.obj.find k with
  | some v => v
  | none => defaultOf k

/-- The integer an object holds; 0 where it is a byte string. -/
def int (d : Dev) (k : Nat) : Int := match d.val k with | .int n => n | .bytes _ => 0

/-- The unsigned number an object holds. -/
def nat (d : Dev) (k : Nat) : Nat := (d.int k).toNat

/-- The truth value of a BOOL object. -/
def flag (d : Dev) (k : Nat) : Bool := decide (d.int k ≠ 0)

/-- The byte string an object holds. -/
def bytes (d : Dev) (k : Nat) : Bytes := match d.val k with | .bytes b => b | .int _ => []

/-- Set an object; its default is held by listing nothing. -/
def put (d : Dev) (k : Nat) (v : Val) : Dev :=
  if v = defaultOf k then { d with obj := d.obj.erase k } else { d with obj := d.obj.insert k v }

/-- Set an integer object. -/
def putInt (d : Dev) (k : Nat) (n : Int) : Dev := d.put k (.int n)

/-- Set an unsigned object. -/
def putNat (d : Dev) (k : Nat) (n : Nat) : Dev := d.put k (.int n)

/-- Set a BOOL object. -/
def putFlag (d : Dev) (k : Nat) (b : Bool) : Dev := d.put k (.int (if b then 1 else 0))

/-- Set a byte-string object. -/
def putBytes (d : Dev) (k : Nat) (b : Bytes) : Dev := d.put k (.bytes b)

/-- The greatest value of an unsigned object of this key. -/
def top (k : Nat) : Nat := match rowOf k with | some r => 2 ^ (8 * r.ty.size) - 1 | none => 0

/-- Add to a saturating count (02 R61 and the "saturates" rows). -/
def bump (d : Dev) (k : Nat) (by_ : Nat := 1) : Dev := d.putNat k (min (d.nat k + by_) (top k))

/-- Set several objects. -/
def putAll (d : Dev) : Store → Dev
  | [] => d
  | (k, v) :: r => putAll (d.put k v) r

/-- Draw a free value (log entry 5): the number is opaque, the counter makes each draw a fresh one. -/
def draw (d : Dev) : Nat × Dev := (Config.freeNat d.free, { d with free := d.free + 1 })

/-! ### Time -/

/-- The internal timestamp of 1 µs resolution (02 R42). -/
def nowUs (d : Dev) : Nat :=
  let us := ((d.time.fabric - d.time.tLatch) * 125) / 512
  d.time.utcS * 1000000 + min us 999999

/-- Time in dictionary ticks, 1 ms each, counted by I1 (02 R43). -/
def nowMs (d : Dev) : Nat := d.dict.tick

/-- UTC is extrapolated: value crossing 0x2D was reset and holds no new take since (02 R56, R58). -/
def utcStale (d : Dev) : Bool := let x := d.crossings[(0x2D : Fin 58)]; x.stale && decide (x.lastReset ≠ 0)

/-- The time flags of a log entry: bit 0 time unknown, bit 1 time base I6 lost (12 R315), also while UTC is extrapolated (02 R56). -/
def timeFlags (d : Dev) : Nat := (if d.time.unknown then 1 else 0) + (if d.time.i6Lost || d.utcStale then 2 else 0)

/-! ### Sending -/

/-- Send something. -/
def say (d : Dev) (o : Out) : Dev := { d with out := d.out ++ [o] }

/-- A monotonic counter takes a higher value: the cell that holds the lower value is written (16 R440). Its object shows the value. -/
def count (d : Dev) (i : Fin 18) (key v : Nat) : Dev :=
  let (a, b) := d.burl.cells[i]
  let d := d.putNat key v
  if v ≤ max a b then d
  else { d with burl := { d.burl with cells := d.burl.cells.set i (if a ≤ b then (v, b) else (a, v)) } }

/-! ### Logbooks (12 R315 to R317) -/

end Dev

/-- Bytes 0 to 47 of a logbook entry (12 R315, table *Logbook entry, 64 bytes*). -/
def LegalEntry.head (e : LegalEntry) : Bytes :=
  leBytes 4 e.seq ++ leBytes 8 e.time ++ leBytes 2 e.code ++ leBytes 1 e.flags ++ leBytes 1 e.entity ++
    (e.data ++ List.replicate (32 - e.data.length) 0)

/-- The whole entry: chain, four zero bytes and the check over bytes 0 to 59 (12 R315). -/
def LegalEntry.image (e : LegalEntry) : Bytes :=
  let b := e.head ++ e.chain ++ [0, 0, 0, 0]
  b ++ leBytes 4 (crc32c b)

namespace Dev

/-- The newest chain value; eight zero bytes before Sequence 1 (12 R315). -/
def chain (d : Dev) : Bytes := match d.heart.log with | [] => List.replicate 8 0 | e :: _ => e.chain

/-- Sequence of the newest legal entry. -/
def legalSeq (d : Dev) : Nat := match d.heart.log with | [] => 0 | e :: _ => e.seq

/-- Store an entry in the legal logbook, newest first, with its Sequence and Chain; the store keeps the newest 32,768 (12 R315). -/
def storeEntry (d : Dev) (e : LegalEntry) : Dev :=
  let e := { e with seq := d.legalSeq + 1 }
  let e := { e with chain := (Config.sha256 (d.chain ++ e.head)).take 8 }
  { d with heart := { d.heart with log := e :: d.heart.log.take 32767 } }

/-- Write an event into the legal logbook (12 R315). While MRAM is away up to 64 events wait in the core's SRAM, and those beyond are counted
(12 R316). -/
def legalAt (d : Dev) (time code flags entity : Nat) (data : Bytes) : Dev :=
  let e : LegalEntry := ⟨0, time, code, flags, entity, data, []⟩
  if d.power.railGood[(6 : Fin 9)] then d.storeEntry e
  else if d.heart.logQueue.length < 64 then { d with heart := { d.heart with logQueue := d.heart.logQueue ++ [e] } }
  else
    let first := if d.heart.logLost = 0 then 1 else 0
    { d with heart := { d.heart with logLost := d.heart.logLost + 1, logOverflows := min (d.heart.logOverflows + first) 0xFFFFFFFF } }

/-- Write an event that happens now into the legal logbook (12 R315, R316). -/
def legal (d : Dev) (code entity : Nat) (data : Bytes) : Dev := d.legalAt d.nowUs code d.timeFlags entity data

/-- Write an event into the general logbook, newest first; the store keeps 98,304 (12 R317). -/
def general (d : Dev) (ev : GenEvent) : Dev :=
  let n := match d.heart.general with | [] => 0 | e :: _ => e.seq
  { d with heart := { d.heart with general := ⟨n + 1, d.nowUs, d.timeFlags, ev⟩ :: d.heart.general.take 98303 } }

/-! ### Cores, rails, ports of the fabric -/

end Dev

/-- The place of a core in the table *The twelve cores*, from 0 (01; 05, 0x1002). -/
def coreNum : CoreId → Fin 12
  | .sapwoodA => 0 | .sapwoodB => 1 | .heartwood => 2 | .firebreakA => 3 | .firebreakB => 4 | .burl => 5
  | .pe0 => 6 | .pe1 => 7 | .pe2 => 8 | .pe3 => 9 | .canopy => 10 | .display => 11

/-- The place of a rail in the table *Supply rails*, from 0 (03 R63). -/
def railNum : Rail → Fin 9
  | .vddCore => 0 | .vddSafe => 1 | .vddIo => 2 | .vddIo18 => 3 | .vddAfe => 4 | .vddPlc => 5 | .vddMem => 6 | .vhvIn => 7
  | .vbat => 8

namespace Dev

/-- Does a core run? -/
def running (d : Dev) (c : CoreId) : Bool := decide (d.cores[coreNum c] = .running)

/-- The active and the standby Sapwood core (01 R17). -/
def activeSapwood (d : Dev) : CoreId := if d.activeB then .sapwoodB else .sapwoodA
def standbySapwood (d : Dev) : CoreId := if d.activeB then .sapwoodA else .sapwoodB

/-- Set how a core stands. -/
def setCore (d : Dev) (c : CoreId) (r : CoreRun) : Dev := { d with cores := d.cores.set (coreNum c) r }

/-- Is a rail within its monitor window (03 R63)? -/
def rail (d : Dev) (r : Rail) : Bool := d.power.railGood[railNum r]

/-- Does an island run: its clock, and the supply of its front ends (02, table *Islands, clocks and duties*; 03, table *Rail monitors*)? -/
def islandRuns (d : Dev) : Nat → Bool
  | 1 => !d.clocks.ref16Lost
  | 2 => !d.clocks.ref25Lost && d.rail .vddPlc
  | 3 => !d.clocks.ref16Lost && d.rail .vddPlc
  | 4 => !d.clocks.ref25Lost
  | 5 => !d.clocks.ref25Lost
  | 6 => !d.clocks.xt32Lost
  | 7 => !d.clocks.i7Lost
  | 8 => !d.clocks.i8Lost && d.rail .vhvIn
  | _ => true

/-- Does a crossing carry traffic (02 R57 to R59)? -/
def passes (d : Dev) (c : Fin 58) : Bool := decide (d.crossings[c].state = .running)

/-- Does the device run at all: main rails up and internal reset not asserted (03 R62, R71 step 5)? -/
def powered (d : Dev) : Bool :=
  match d.power.state with
  | .off => false
  | .vbatSleep => false
  | .shutdown => decide (d.power.shutdownStep < 5)
  | _ => true

/-- Auxiliary measurements arrive: I1 samples them with its front ends supplied, and crossing 0x07 carries them (02 R56; 04 R98). -/
def auxUp (d : Dev) : Bool := d.powered && d.islandRuns 1 && d.rail .vddAfe && d.passes 0x07

/-- In service or in tamper-hold: full operation (03 R62). -/
def inService (d : Dev) : Bool := decide (d.power.state = .inService ∨ d.power.state = .tamperHold)

/-- The dictionary sequencer runs: the active Sapwood core does, with power (05; 03 R78). -/
def sequencerUp (d : Dev) : Bool := d.powered && d.running d.activeSapwood

/-- The Heartwood core runs. -/
def heartwoodUp (d : Dev) : Bool := d.powered && d.running .heartwood

/-- Heartwood takes a legal command: it runs, and no PFW has come, from which on what has not started is discarded (12 R311). -/
def heartwoodTakes (d : Dev) : Bool := d.heartwoodUp && decide (d.power.shutdownStep = 0)

/-- Burl runs and is not taken out of service by a fault (01 R38). -/
def burlUp (d : Dev) : Bool := d.powered && d.running .burl

/-- The lifecycle state, 0 BLANK to 3 SEALED (05, 0x1000.07). -/
def lifecycle (d : Dev) : Nat := d.nat Key.lifecycleState

end Dev

/-- Run a change of the device alone. -/
def State.onDev (s : State) (f : Dev → Dev) : Out3 State := .next { s with dev := f s.dev }

end Sys2Proof.Machine
end

