-- ==== Sys2Proof/Machine/Flags.lean ====
section
/-! DEFINITION. The checks of a host's value, and the abort codes (05 R117 to R121, R133 to R135). -/

namespace Sys2Proof.Machine

/-! ### Abort codes (05 R134) -/

namespace Code
def segmentSequence : Nat := 0x01000001
def segmentCheck : Nat := 0x01000002
def segmentTimeout : Nat := 0x01000003
def tooLarge : Nat := 0x01000004
def busy : Nat := 0x01000005
def tooShort : Nat := 0x01000006
def noObject : Nat := 0x02000001
def noSubindex : Nat := 0x02000002
def readOnly : Nat := 0x02000003
def writeOnly : Nat := 0x02000004
def legalObject : Nat := 0x02000005
def lengthLong : Nat := 0x03000001
def lengthShort : Nat := 0x03000002
def range : Nat := 0x03000003
def encoding : Nat := 0x03000004
def notOwner : Nat := 0x04000001
def noOwner : Nat := 0x04000002
def notRegistered : Nat := 0x04000003
def claimRefused : Nat := 0x04000004
def groupInvalid : Nat := 0x05000001
def expired : Nat := 0x05000002
def noSpace : Nat := 0x05000003
def locked : Nat := 0x05000004
def shutdown : Nat := 0x06000001
def roleChange : Nat := 0x06000002
def tamperHold : Nat := 0x06000003
def sealBroken : Nat := 0x06000004
def higherDemand : Nat := 0x07000001
def modeUnsupported : Nat := 0x07000002
def notClearing : Nat := 0x07000003
def outOfService : Nat := 0x07000004
def keyUse : Nat := 0x08000001
def verifyFailed : Nat := 0x08000002
def versionLower : Nat := 0x08000003
def headerRefused : Nat := 0x08000004
def incompatible : Nat := 0x08000005
def checkMismatch : Nat := 0x08000006
def storeFailed : Nat := 0x09000001
def memoryError : Nat := 0x09000002
def general : Nat := 0x0F000001
end Code

/-- The place of an abort code in the order in which the device reports it (05 R135): category 0x04 first, then 0x02, 0x01, 0x03,
0x06, 0x05, 0x07, 0x08, 0x09, 0x0F; within 0x05 locked, expired, no space, not valid; within others by number. -/
def codeRank (c : Nat) : Nat :=
  let cat := c / 0x1000000
  let place := match cat with
    | 4 => 0 | 2 => 1 | 1 => 2 | 3 => 3 | 6 => 4 | 5 => 5 | 7 => 6 | 8 => 7 | 9 => 8 | _ => 9
  let within := if cat = 5 then (match c % 0x10000 with | 4 => 0 | 2 => 1 | 3 => 2 | _ => 3) else c % 0x10000
  place * 0x10000 + within

/-- The first applicable code of those that hold (05 R135). -/
def firstCode (l : List Nat) : Option Nat :=
  l.foldl (fun best c => match best with
    | none => some c
    | some b => if codeRank c < codeRank b then some c else some b) none

/-- Is a byte string UTF-8 (05 R119)? `need` continuation bytes are owed; `lo` and `hi` bound the next one. -/
def utf8From : Nat → Nat → Nat → Bytes → Bool
  | need, _, _, [] => decide (need = 0)
  | need, lo, hi, b :: r =>
    let x := b.toNat
    match need with
    | n + 1 => decide (lo ≤ x) && decide (x ≤ hi) && utf8From n 0x80 0xBF r
    | 0 =>
      if x < 0x80 then utf8From 0 0x80 0xBF r
      else if 0xC2 ≤ x ∧ x ≤ 0xDF then utf8From 1 0x80 0xBF r
      else if x = 0xE0 then utf8From 2 0xA0 0xBF r
      else if x = 0xED then utf8From 2 0x80 0x9F r
      else if 0xE1 ≤ x ∧ x ≤ 0xEF then utf8From 2 0x80 0xBF r
      else if x = 0xF0 then utf8From 3 0x90 0xBF r
      else if 0xF1 ≤ x ∧ x ≤ 0xF3 then utf8From 3 0x80 0xBF r
      else if x = 0xF4 then utf8From 3 0x80 0x8F r
      else false

/-- Valid UTF-8 (05 R119). -/
def utf8 (b : Bytes) : Bool := utf8From 0 0x80 0xBF b

/-- The least response level of a tamper source (16 R443, table *Tamper sources*). -/
def minimumLevel (source : Nat) : Int := ([0, 0, 2, 1, 0, 1, 1, 3, 0, 0, 0, 0, 1, 1, 2, 0].getD (source - 1) 0 : Nat)

/-- What is wrong with a value of `data` for a row, length first (05 R118 to R120). -/
def valueFault (key : Nat) (r : Row) (data : Bytes) : Option Nat :=
  let n := data.length
  if r.ty.fixed ∧ n > r.ty.size then some Code.lengthLong
  else if r.ty.fixed ∧ n < r.ty.size then some Code.lengthShort
  else if n > r.ty.size then some Code.lengthLong
  else
    let v := r.ty.decode data
    match r.ty, v with
    | .bool, .int x => if x = 0 ∨ x = 1 then none else some Code.encoding
    | .str _, .bytes b => if utf8 b then none else some Code.encoding
    | _, _ =>
      match r.rng with
      | .bits _ => if r.rng.accepts v then none else some Code.encoding
      | _ =>
        if !r.rng.accepts v then some Code.range
        else match v with
          | .int x => if key / 256 = 0x8501 ∧ x < minimumLevel (key % 256) then some Code.range else none
          | _ => none

/-- The row of an object, or the code of category 0x02 that says what is missing (05 R108, R109). Subindex 0 is an RO U8. -/
def lookup (key : Nat) : Except Nat Row :=
  if !indexDefined (key / 256) then .error Code.noObject
  else if key % 256 = 0 then
    .ok ⟨key / 256, 1, 1, 0, 1, .u 1, .ro, .int (highestSub (key / 256)), .any, false⟩
  else match rowOf key with
    | some r => .ok r
    | none => .error Code.noSubindex

end Sys2Proof.Machine
end

