-- ==== Sys2Proof/Machine/Operands.lean ====
section
/-! DEFINITION. How a host message is received, checked and answered (06 R136 to R151), shared by every host command. -/

namespace Sys2Proof.Machine

/-- The host object of a slot. -/
def Dev.slot (d : Dev) (s : SlotId) : HostSlot := d.hosts.slots[s]

namespace Dev

/-- Change a host slot. -/
def setSlot (d : Dev) (s : SlotId) (f : HostSlot → HostSlot) : Dev :=
  { d with hosts := { d.hosts with slots := vmod d.hosts.slots s f } }

/-- Do the island of an interface, its supply and its transmit crossing carry what the device sends (02 R57 and table *Loss or fault of a
clock*; 03 tables *Rail monitors* and *Shutdown sequence after PFW*; 06 R144)? -/
def linkLive (d : Dev) (i : Iface) : Bool :=
  match i with
  | .can5 => !d.clocks.ref25Lost && d.passes 0x27
  | .eth0 => !d.clocks.ref25Lost && d.passes 0x2A && d.rail .vddIo18 && decide (d.power.shutdownStep < 2) &&
      decide (d.nat Key.eth0PhyFound ≠ 0xFF)
  | .eth1 => !d.clocks.ref25Lost && d.passes 0x2C && decide (d.power.shutdownStep < 2)

/-- Does the CAN5 controller send and accept frames (06 R141)? -/
def can5Active (d : Dev) : Bool := decide (d.hosts.can[5] = .errorActive ∨ d.hosts.can[5] = .errorPassive)

/-- Does an interface carry FDP (06 R140 to R144, R158)? -/
def ifaceUp (d : Dev) (i : Iface) : Bool :=
  match i with
  | .can5 => d.flag Key.can5Enable && d.linkLive .can5 && d.passes 0x21 && d.can5Active
  | .eth0 => d.flag Key.eth0Enable && d.linkLive .eth0 && d.passes 0x29
  | .eth1 => d.flag Key.eth1Enable && d.linkLive .eth1 && d.passes 0x2B

end Dev

/-- The bit of an interface in AllowedInterfaces and ActiveInterfaces (06 R158). -/
def ifaceBit : Iface → Nat
  | .can5 => 0 | .eth0 => 1 | .eth1 => 2

/-- The place of an interface among the three. -/
def ifaceNum : Iface → Fin 3
  | .can5 => 0 | .eth0 => 1 | .eth1 => 2

/-- The greatest body of one FDP message (06 R140, R142). -/
def bodyLimit : Iface → Nat
  | .can5 => 44
  | _ => 1024

/-- The length of a MIC (06 R136). -/
def micLength : Iface → Nat
  | .can5 => 8
  | _ => 16

/-! ### Messages on the wire (06 R136 to R142) -/

/-- Type, flags Segmented and LastSegment, SegmentNumber and body of a message to a host (06 R136, table *FDP message types*). -/
def replyParts : HostReply → Nat × Bool × Bool × Nat × Bytes
  | .values key vals => (0x4, false, false, 0, leBytes 4 (refOf key) ++ vals.flatMap fun v => leBytes 2 v.length ++ v)
  | .done _ => (0x4, false, false, 0, [])
  | .abort code key => (0x5, false, false, 0, leBytes 4 code ++ leBytes 4 (refOf key))
  | .publish list counter vals => (0x6, false, false, 0, leBytes 1 list ++ [0] ++ leBytes 2 counter ++ vals)
  | .firstSegment key total data => (0x4, true, false, 0, leBytes 4 (refOf key) ++ leBytes 4 total ++ data)
  | .segment n last data => (0x3, true, last, n, data)
  | .segmentAck n => (0xD, false, false, 0, leBytes 2 n)
  | .challenge nonce serial => (0xA, false, false, 0, nonce ++ serial)
  | .welcome layout owner => (0xC, false, false, 0, leBytes 2 layout ++ leBytes 1 owner)

/-- The header of a message from the device, Direction 1 (06 R136, table *FDP header*). -/
def fdpHeader (s : SlotId) (reqId : Byte) (seq : Nat) (r : HostReply) : Bytes :=
  let (t, segmented, last, n, body) := replyParts r
  leBytes 1 (0x10 + t) ++ leBytes 1 (s.val + 0x10 + (if segmented then 0x40 else 0) + (if last then 0x80 else 0)) ++ [reqId, 0] ++
    leBytes 2 body.length ++ leBytes 4 seq ++ leBytes 2 n

/-- The nonce of a protected message: context, Direction, Sequence, seven zeros (06 R138). -/
def fdpNonce (s : SlotId) (direction seq : Nat) : Bytes := leBytes 1 (144 + s.val) ++ leBytes 1 direction ++ leBytes 4 seq ++ List.replicate 7 0

/-- A frame of CAN FD, padded with 0x00 to the next valid length (06 R140). -/
def canPadded (b : Bytes) : Bytes :=
  let n := ([0, 1, 2, 3, 4, 5, 6, 7, 8, 12, 16, 20, 24, 32, 48, 64].find? fun k => decide (b.length ≤ k)).getD b.length
  b ++ List.replicate (n - b.length) 0

/-- A message from the device as it stands on the wire: header, encrypted body and MIC, or header and body in clear (06 R136, R138). -/
def fdpWire (key : Bytes) (s : SlotId) (i : Iface) (reqId : Byte) (seq : Nat) (secured : Bool) (r : HostReply) : Bytes :=
  let header := fdpHeader s reqId seq r
  let body := (replyParts r).2.2.2.2
  let b := header ++ (if secured then Config.ccm key (fdpNonce s 1 seq) header body (micLength i) else body)
  if i = .can5 then canPadded b else b

namespace Dev

/-- May the slot use the interface (06 R146)? -/
def allowed (d : Dev) (s : SlotId) (i : Iface) : Bool := (d.nat (Key.allowedInterfaces s)).testBit (ifaceBit i)

/-- The way a message to a host goes under the present settings: on CAN5 the identifier at this offset from B and the bit rates, on Ethernet
the device's own address and port and the host's (06 R140, R142, R150). -/
def viaOf (d : Dev) (i : Iface) (offset : Nat) (host : Nat × Nat) : Via :=
  match i with
  | .can5 => .can (d.nat Key.can5BaseId + offset) (d.nat Key.can5NominalRate) (d.nat Key.can5DataRate)
  | .eth0 => .udp (d.nat Key.eth0Address) (d.nat Key.udpPort) host.1 host.2
  | .eth1 => .udp (d.nat Key.eth1Address) (d.nat Key.udpPort) host.1 host.2

/-- Whom the answer to a message goes to: the interface that received it, under the settings in force now (06 R142, R150). -/
def ackOf (d : Dev) (m : HostMsg) (key : Nat) : Ack :=
  ⟨m.slot, m.iface, m.reqId, key, d.viaOf m.iface (0x20 + m.slot) m.source, (d.slot m.slot).session⟩

/-- Do the present settings of CAN5 carry a frame that was to go this way? -/
def sameBus (d : Dev) : Via → Bool
  | .can id nominal data => decide (id / 0x40 * 0x40 = d.nat Key.can5BaseId ∧ nominal = d.nat Key.can5NominalRate ∧ data = d.nat Key.can5DataRate)
  | .udp _ _ _ _ => true

/-- Hand a message to its interface. While the CAN5 controller integrates or is bus-off, a message for the settings it has waits for it (06
R141); one that answers a request of earlier settings goes out under those (06 R150; log entry 71). A message longer than 64 bytes never
goes out on CAN5, and none on a link that carries nothing. -/
def transmit (d : Dev) (i : Iface) (via : Via) (o : Out) (body : Nat) : Dev :=
  if !d.linkLive i then d
  else if i = .can5 then
    if 44 < body then d
    else if (d.hosts.can[5] = .integrating ∨ d.hosts.can[5] = .busOff) ∧ d.sameBus via then { d with held := d.held ++ [o] }
    else d.say o
  else d.say o

/-- Send a message in clear, with Sequence 0 (06 R136, R146). -/
def sendClear (d : Dev) (s : SlotId) (i : Iface) (via : Via) (reqId : Byte) (r : HostReply) : Dev :=
  d.transmit i via (.host s i reqId 0 false r via (fdpWire [] s i reqId 0 false r)) (replyParts r).2.2.2.2.length

/-- Send a protected message to a registered slot; each sender's Sequence rises by 1 (06 R138). -/
def send (d : Dev) (s : SlotId) (i : Iface) (via : Via) (reqId : Byte) (r : HostReply) : Dev :=
  let n := (d.slot s).txSeq + 1
  let wire := fdpWire ((d.slot s).sessionKey.getD []) s i reqId n true r
  (d.setSlot s fun h => { h with txSeq := n }).transmit i via (.host s i reqId n true r via wire) (replyParts r).2.2.2.2.length

/-- A registration ends without Burl zeroing the context (06 R139, R154): open transfers end with it. -/
def endRegistration (d : Dev) (s : SlotId) : Dev :=
  d.setSlot s fun h => { h with registered := false, rx := none, tx := none, unanswered := 0, endAfter := none }

/-- A registration lapses or is ended by Deregister: Burl zeroes context 144 + s (06 R146). -/
def zeroRegistration (d : Dev) (s : SlotId) : Dev :=
  (d.endRegistration s).setSlot s fun h => { h with sessionKey := none }

/-- The reply to a request has gone, or none is owed any more; a registration whose Sequence is exhausted ends with that of the message that
exhausted it (06 R139, R149). A request of an earlier registration is owed nothing. -/
def owed (d : Dev) (a : Ack) : Dev :=
  if (d.slot a.slot).session ≠ a.session then d
  else
    let d := d.setSlot a.slot fun h => { h with unanswered := h.unanswered - 1 }
    if (d.slot a.slot).endAfter = some a.reqId then d.endRegistration a.slot else d

/-- Answer a request (06 R150); a slot whose registration has ended has no session to answer under. -/
def answer (d : Dev) (a : Ack) (r : HostReply) : Dev :=
  if (d.slot a.slot).registered ∧ (d.slot a.slot).session = a.session then (d.send a.slot a.iface a.via a.reqId r).owed a else d

/-- Note a refusal in 0x1100.06 to .09 (05 R133). -/
def noteAbort (d : Dev) (s : SlotId) (code key : Nat) : Dev :=
  (((d.putNat Key.lastAbortCode code).putNat Key.lastAbortObject (refOf key)).putNat Key.lastAbortHost s).bump Key.abortCount

/-- Answer a request with an ABORT (05 R133). -/
def abort (d : Dev) (a : Ack) (code : Nat) : Dev := (d.noteAbort a.slot code a.key).answer a (.abort code a.key)

/-- The ABORT in clear to a slot that is not registered, on identifier B + 0x31 or to the datagram's source, at most one per slot and
interface in 100 ms (06 R146). -/
def abortClear (d : Dev) (m : HostMsg) (key : Nat) : Dev :=
  let d := d.noteAbort m.slot Code.notRegistered key
  let last := (d.slot m.slot).clearAbort[ifaceNum m.iface]
  if last.any fun t => d.nowMs < t + 100 then d
  else (d.setSlot m.slot fun h => { h with clearAbort := h.clearAbort.set (ifaceNum m.iface) (some d.nowMs) }).sendClear m.slot m.iface
    (d.viaOf m.iface 0x31 m.source) m.reqId (.abort Code.notRegistered key)

end Dev

/-- The window of Sequences of a slot after a message with this one, or none where it is dropped (06 R139). -/
def sequenceWindow (h : HostSlot) (seq : Nat) : Option HostSlot :=
  if seq > h.high then
    let k := seq - h.high
    some { h with high := seq, seen := if k > 32 then 0 else ((h.seen * 2 + 1) * 2 ^ (k - 1)) % 2 ^ 32 }
  else if seq = h.high ∨ seq + 32 < h.high then none
  else
    let i := h.high - 1 - seq
    if h.seen.testBit i then none else some { h with seen := h.seen + 2 ^ i }

/-- What becomes of a received host message (06 R136 to R146). -/
inductive Receipt where
  /-- Accepted: the device with the message noted. -/
  | accepted (d : Dev)
  /-- Not served. -/
  | dropped (d : Dev)

/-- Receive a protected message of a host about an object: registration, interface, MIC, Sequence (06 R138, R139, R146). -/
def receive (d : Dev) (m : HostMsg) (key : Nat) : Receipt :=
  if !d.sequencerUp || !d.ifaceUp m.iface then .dropped d
  else if !(d.slot m.slot).registered then .dropped (d.abortClear m key)
  else if !d.allowed m.slot m.iface then .dropped (d.bump (Key.droppedRequests m.slot))
  else if !m.micOk then .dropped (d.bump (Key.hostAuthFailCount m.slot))
  else match sequenceWindow (d.slot m.slot) m.seq.toNat with
    | none => .dropped (d.bump (Key.hostReplayCount m.slot))
    | some h =>
      let d := d.setSlot m.slot fun _ => { h with
        lastValid := d.nowMs, lastIface := m.iface, peers := h.peers.set (ifaceNum m.iface) m.source }
      let d := d.putNat (Key.activeInterfaces m.slot) (setBit (d.nat (Key.activeInterfaces m.slot)) (ifaceBit m.iface) true)
      .accepted ((d.putNat (Key.hostLastSeen m.slot) d.nowUs).bump (Key.rxCount m.slot))

/-- A Sequence of 0xFFFFFF00 or higher: the first such message ends the registration once it has been served and answered (06 R139). -/
def exhausts (m : HostMsg) : Bool := decide (0xFFFFFF00 ≤ m.seq.toNat)

/-- The registration ends with a message that is owed no answer (06 R139). -/
def endsWith (m : HostMsg) (d : Dev) : Dev :=
  if exhausts m && (d.slot m.slot).endAfter.isNone then d.endRegistration m.slot else d

/-- A message that asks for no answer of its own (NOP, SEGMENT, SEGMENT_ACK). -/
def hostNote (m : HostMsg) (serve : Dev → Dev) (d : Dev) : Dev :=
  match receive d m 0 with
  | .dropped d => d
  | .accepted d => endsWith m (serve d)

/-- A request of a host about an object: received, counted among the unanswered ones, at most 8 a slot, and served (06 R149). -/
def hostRequest (m : HostMsg) (key : Nat) (serve : Dev → Dev) (d : Dev) : Dev :=
  match receive d m key with
  | .dropped d => d
  | .accepted d =>
    if 8 ≤ (d.slot m.slot).unanswered then endsWith m (d.bump (Key.droppedRequests m.slot))
    else serve (d.setSlot m.slot fun h => { h with
      unanswered := h.unanswered + 1, endAfter := if exhausts m then h.endAfter.or (some m.reqId) else h.endAfter })

/-- The owner's slot, if there is one (06 R152). -/
def Dev.owner (d : Dev) : Option SlotId :=
  match d.hosts.ownership with
  | .owned o => some o
  | .handover o _ _ => some o
  | _ => none

/-- The owner that ownership messages received in this tick leave, in order of receipt (06 R153, R155): a write received after a release
meets no owner. -/
def Dev.ownerNext (d : Dev) : Option SlotId :=
  d.dict.items.foldl (fun (o : Option SlotId) x => match x with
    | .release _ => none
    | .deregister _ t => if o = some t then none else o
    | .claim a => (match d.hosts.ownership with | .handover _ t _ => if a.slot = t ∧ o.isSome then some t else o | _ => o)
    | _ => o) d.owner

/-- The code of category 0x04 a write of this slot meets (05 R112, R135; 06 R155). -/
def Dev.ownerFault (d : Dev) (s : SlotId) : Option Nat :=
  match d.ownerNext with
  | none => some Code.noOwner
  | some o => if o = s then none else some Code.notOwner

/-- The code every request meets in the tick in which the Sapwood role changes (05 R128). -/
def Dev.roleBlocked (d : Dev) : Option Nat := if d.dict.roleChanged then some Code.roleChange else none

/-- The code of category 0x06 every write meets while the device shuts down or the Sapwood role changes (05 R128, R134). -/
def Dev.writeBlocked (d : Dev) : Option Nat :=
  if 2 ≤ d.power.shutdownStep then some Code.shutdown
  else d.roleBlocked

/-- A write to a CMD object with a row of its own: ownership unless stop-class (06 R156), length, encoding and range, then the
category 0x06 codes; what passes is served with the value (05 R112, R118 to R120, R135). -/
def cmdWrite (m : HostMsg) (key : Nat) (stopClass : Bool) (data : Bytes) (serve : Ack → Val → Dev → Dev) (d : Dev) : Dev :=
  hostRequest m key (fun d =>
    let a := d.ackOf m key
    match (if stopClass then none else d.ownerFault m.slot) with
    | some c => d.abort a c
    | none =>
      match lookup key with
      | .error c => d.abort a c
      | .ok r =>
        match valueFault key r data with
        | some c => d.abort a c
        | none =>
          match d.writeBlocked with
          | some c => d.abort a c
          | none => serve a (r.ty.decode data) d) d

/-- Serve a command that is done at once: answer it with success. -/
def Dev.ok (d : Dev) (a : Ack) : Dev := d.answer a (.done a.key)

end Sys2Proof.Machine
end

