-- ==== Sys2Proof/Machine/Fabric.lean ====
section
/-! DEFINITION. The clockless fabric: tags, targets, access rules, crossings, and FABRIC_READ, FABRIC_WRITE, FABRIC_POST
(01 R12 to R31; 02 R51 to R61; 12 R306). -/

namespace Sys2Proof.Machine

/-! ### Initiators (01 R18, table *Initiator tags*) -/

/-- Who stands behind a tag. -/
inductive Initiator where
  | core (c : CoreId) | metrology | cvu | ledger | can4 | debug
deriving DecidableEq, Repr

/-- The initiator of a tag; none for an unused one. -/
def initiator (tag : BitVec 5) : Option Initiator :=
  match tag.toNat with
  | 0x01 => some (.core .sapwoodA) | 0x02 => some (.core .sapwoodB) | 0x03 => some (.core .heartwood)
  | 0x04 => some (.core .firebreakA) | 0x05 => some (.core .firebreakB) | 0x06 => some (.core .burl)
  | 0x08 => some (.core .pe0) | 0x09 => some (.core .pe1) | 0x0A => some (.core .pe2) | 0x0B => some (.core .pe3)
  | 0x0C => some (.core .canopy) | 0x0D => some (.core .display)
  | 0x10 => some .metrology | 0x11 => some .cvu | 0x12 => some .ledger | 0x13 => some .can4 | 0x1F => some .debug
  | _ => none

/-- The core of a port engine. -/
def peCore : Nat → CoreId
  | 0 => .pe0 | 1 => .pe1 | 2 => .pe2 | _ => .pe3

/-- A port engine's core? -/
def isPe : CoreId → Bool
  | .pe0 | .pe1 | .pe2 | .pe3 => true
  | _ => false

/-- The core that owns a link context (15 R418): the port engine that serves port x div 2 (07 R169)
for 0 to 15, the Canopy engine for 16 to 143, the active Sapwood core for 144 to 159. -/
def contextOwner (d : Dev) (x : Nat) : CoreId :=
  if x < 16 then peCore (d.nat (Key.servingEngine (x / 2)))
  else if x < 144 then .canopy
  else d.activeSapwood

/-! ### Crossings (02 R56, table *Crossing list*) -/

/-- Kinds of crossing. -/
inductive XKind where | queue | value | event
deriving DecidableEq, Repr

/-- Directions of a crossing: to the fabric, to the island, both ways. -/
inductive XDir where | toFabric | toIsland | both
deriving DecidableEq, Repr

/-- Kind of a crossing. -/
def xKind (c : Nat) : XKind :=
  if c = 0x02 ∨ c = 0x1A ∨ c = 0x28 ∨ c = 0x2D ∨ c = 0x30 ∨ c = 0x31 ∨ c = 0x35 ∨ c = 0x36 then .value
  else if c = 0x03 ∨ c = 0x04 ∨ c = 0x05 ∨ c = 0x06 ∨ c = 0x1B ∨ c = 0x2E ∨ c = 0x34 ∨ c = 0x38 then .event
  else .queue

/-- Island of a crossing. -/
def xIsland (c : Nat) : Nat :=
  if c ≤ 0x07 then 1 else if c ≤ 0x17 then 2 else if c ≤ 0x1B then 3 else if c ≤ 0x28 then 4 else if c ≤ 0x2C then 5
  else if c ≤ 0x2F then 6 else if c ≤ 0x36 then 7 else if c ≤ 0x38 then 8 else 9

/-- Direction of a crossing. ETH receive (0x29, 0x2B) goes to the fabric, transmit (0x2A, 0x2C) to the island. -/
def xDir (c : Nat) : XDir :=
  if c = 0x39 then .both
  else if c = 0x01 ∨ c = 0x06 ∨ (0x10 ≤ c ∧ c ≤ 0x17) ∨ c = 0x19 ∨ (0x22 ≤ c ∧ c ≤ 0x28) ∨ c = 0x2A ∨ c = 0x2C ∨ c = 0x33 ∨
      c = 0x36 ∨ c = 0x37 then .toIsland
  else .toFabric

/-- The fill of a crossing counted as its depth is: in words, or in entries. -/
def xFill (c : Nat) (entries : List (List Word)) : Nat :=
  if c = 0x01 ∨ c = 0x07 ∨ (0x08 ≤ c ∧ c ≤ 0x17) ∨ c = 0x39 then (entries.map List.length).sum else entries.length

/-- The depth of a queue or event crossing, in words or entries as `xFill` counts. -/
def xDepth (c : Nat) : Nat :=
  if c = 0x00 then 8 else if c = 0x01 then 16 else if c = 0x07 then 32
  else if 0x08 ≤ c ∧ c ≤ 0x17 then 4096
  else if c = 0x18 ∨ c = 0x19 then 64
  else if 0x1C ≤ c ∧ c ≤ 0x27 then 32
  else if 0x29 ≤ c ∧ c ≤ 0x2C then 8
  else if c = 0x2F ∨ c = 0x32 ∨ c = 0x33 then 16
  else if c = 0x39 then 8
  else 4

/-- The port engine, or cores, that stand at the fabric side of a crossing. -/
def xEndpoint (d : Dev) (c : Nat) (i : Initiator) : Bool :=
  match i with
  | .core k =>
    if c = 0x02 ∨ c = 0x2D ∨ c = 0x05 then true
    else if c = 0x06 then decide (k ≠ .firebreakB)
    else if c = 0x01 ∨ c = 0x04 ∨ c = 0x2E then decide (k = .heartwood)
    else if c = 0x03 ∨ c = 0x18 ∨ c = 0x19 ∨ c = 0x1B then decide (k = .canopy)
    else if c = 0x07 then decide (k = .firebreakA ∨ k = .heartwood)
    else if 0x08 ≤ c ∧ c ≤ 0x17 then decide (k = peCore (d.nat (Key.servingEngine (c % 8))))
    else if c = 0x1A then decide (k = .canopy ∨ k = .heartwood ∨ k = d.activeSapwood)
    else if c = 0x21 ∨ c = 0x27 ∨ (0x29 ≤ c ∧ c ≤ 0x2C) then decide (k = d.activeSapwood)
    else if 0x1C ≤ c ∧ c ≤ 0x26 then isPe k
    else if c = 0x28 then decide (k = .firebreakA)
    else if c = 0x2F then decide (k = .burl)
    else if 0x30 ≤ c ∧ c ≤ 0x34 then decide (k = .firebreakA)
    else if c = 0x35 then isPe k
    else if c = 0x36 then isPe k || decide (k = .firebreakA)
    else if c = 0x37 ∨ c = 0x38 then decide (k = .display)
    else false
  | .metrology => decide (c = 0x00 ∨ c = 0x03)
  | .debug => decide (c = 0x39)
  | _ => false

/-- Is the writing side of a value crossing in reset (02 R58)? -/
def xWriterDown (c : Nat) (st : XState) : Bool :=
  match st with
  | .running | .resync => false
  | .fabricReset => decide (xDir c = .toIsland)
  | .islandReset | .clockLost => decide (xDir c ≠ .toIsland)

/-- Put a whole entry on a crossing at its producing side (02 R52 to R54, R57 to R59): a value replaces the value and clears Stale; while
the crossing does not run, the writer's value waits for the end of the resynchronisation, and a writer in reset writes nothing. An event
beyond four undelivered is lost and counted, one that comes while a side is in reset is lost; a queue entry that finds no space, or a
crossing that does not run, is not taken (`none`). -/
def Crossing.push (x : Crossing) (c : Nat) (words : List Word) : Option Crossing :=
  match xKind c with
  | .value =>
    if x.state = .running then some { x with entries := [words], stale := false, blank := false }
    else if xWriterDown c x.state then some x
    else some { x with entries := [words], took := true }
  | .event =>
    if x.state ≠ .running then some x
    else if 4 ≤ x.entries.length then some { x with overrun := true, overruns := satAdd 32 x.overruns 1 }
    else some { x with entries := x.entries ++ [words], highWater := max x.highWater (x.entries.length + 1) }
  | .queue =>
    if x.state ≠ .running ∨ xDepth c < xFill c (x.entries ++ [words]) then none
    else some { x with entries := x.entries ++ [words], highWater := max x.highWater (x.entries.length + 1) }

/-- An island-side producer's entry: one that a queue cannot take is dropped and counted (02 R53). DESIGN CHOICE (log entry 69): an entry
for a queue that is in reset or resynchronises counts as dropped too. -/
def Crossing.produce (x : Crossing) (c : Nat) (words : List Word) : Crossing :=
  match x.push c words with
  | some x => x
  | none => { x with dropped := satAdd 32 x.dropped 1 }

/-- A fabric-side producer's entry: it stalls until space frees (02 R53). -/
def Crossing.writeOrStall (x : Crossing) (c : Nat) (tag : Nat) (words : List Word) : Crossing :=
  if x.stalled ≠ [] then { x with stalled := x.stalled ++ [(tag, words)] }
  else match x.push c words with
    | some x => x
    | none => { x with stalled := x.stalled ++ [(tag, words)] }

/-- Let stalled writes through, oldest first, as long as there is space; answers the tags whose writes completed. -/
def Crossing.unstall : List (Nat × List Word) → Nat → Crossing → Crossing × List Nat
  | [], _, x => ({ x with stalled := [] }, [])
  | (t, w) :: r, c, x =>
    match ({ x with stalled := [] } : Crossing).push c w with
    | some y => let (z, l) := Crossing.unstall r c y; (z, t :: l)
    | none => ({ x with stalled := (t, w) :: r }, [])

/-- Take the oldest entry at the consuming side; a value stays. -/
def Crossing.pop (x : Crossing) (c : Nat) : List Word × Crossing :=
  match xKind c, x.entries with
  | .value, e :: _ => if x.blank then ([], x) else (e, x)
  | _, e :: r => (e, { x with entries := r })
  | _, [] => ([], x)

namespace Dev

/-- Change a crossing. -/
def setCrossing (d : Dev) (c : Fin 58) (f : Crossing → Crossing) : Dev := { d with crossings := vmod d.crossings c f }

/-- An island puts an entry, event or value on a crossing to the fabric. -/
def produce (d : Dev) (c : Fin 58) (words : List Word) : Dev := d.setCrossing c fun x => x.produce c words

/-- An entry or event of an island crosses and its consumer takes it at once (log entry 11). -/
def crossed (d : Dev) (c : Fin 58) : Dev := d.setCrossing c fun x => { x with highWater := max x.highWater 1 }

/-- The stalled writes of a crossing that now find space complete. -/
def unstall (d : Dev) (c : Fin 58) : Dev :=
  let (x, tags) := Crossing.unstall d.crossings[c].stalled c d.crossings[c]
  tags.foldl (fun d t => d.say (.fabric t .done)) (d.setCrossing c fun _ => x)

end Dev

/-! ### Memories and who may reach them (01, memory layouts; R14, R22, R23, R25, R29, R33) -/

/-- Size of a target in bytes. -/
def regionSize : Region → Nat
  | .sapwoodLocal _ => 0x100000
  | .heartwoodLocal => 0x40000
  | .firebreakLocal _ => 0x20000
  | .burlLocal => 0x20000
  | .peLocal _ => 0x80000
  | .canopyLocal => 0x40000
  | .displayLocal => 0x10000
  | .sampleBuffer => 0x40000
  | .dictStore _ => 0x40000
  | .commBuffer _ => 0x60000
  | .frameBuffer _ => 0x10000
  | .contextTable _ => 0x10000 / 160
  | .ferro => 0x40000
  | .mram => 0x10000000
  | .crossing _ => 32
  | .timerChannel _ => 8
  | .heartwoodRom => 0x20000
  | .burlRom => 0x20000
  | .ledgerPort => 64
  | .cvuEngine _ => 64
  | .mailbox _ => 64

/-- A number for each target, so that one list holds every memory (log entry 7: the manual gives no fabric addresses). -/
def regionNum : Region → Nat
  | .sapwoodLocal b => if b then 1 else 0
  | .heartwoodLocal => 2
  | .firebreakLocal b => if b then 4 else 3
  | .burlLocal => 5
  | .peLocal n => 6 + n
  | .canopyLocal => 10
  | .displayLocal => 11
  | .sampleBuffer => 12
  | .dictStore legal => if legal then 14 else 13
  | .commBuffer c => 16 + coreNum c
  | .frameBuffer legal => if legal then 29 else 28
  | .ferro => 30
  | .mram => 31
  | .heartwoodRom => 32
  | .burlRom => 33
  | .ledgerPort => 34
  | .cvuEngine e => 400 + e
  | .mailbox c => 48 + coreNum c
  | .contextTable x => 64 + x
  | .crossing c => 256 + c
  | .timerChannel n => 320 + n

/-- The flat address of a byte of a target. -/
def flat (r : Region) (addr : Nat) : Nat := regionNum r * 2 ^ 32 + addr

/-- Offsets within the ferroelectric store: who writes there (01, table *Ferroelectric store*). -/
def ferroWriter (addr : Nat) : CoreId :=
  if addr < 0x34000 then .heartwood else if addr < 0x36000 then .display else .burl

/-- MRAM partitions (01, table *MRAM partitions*): 0 sealed, 1 image store, 2 ledger, 3 records, 4 load profile, 5 legal logbook,
6 general logbook, 7 Canopy tables, 8 dictionary persistence, 9 reserved. -/
def mramPartition (addr : Nat) : Nat :=
  if addr < 0x0100000 then 0 else if addr < 0x3100000 then 1 else if addr < 0x4500000 then 2 else if addr < 0x8500000 then 3
  else if addr < 0x9500000 then 4 else if addr < 0x9700000 then 5 else if addr < 0x9D00000 then 6 else if addr < 0x9F00000 then 7
  else if addr < 0xA300000 then 8 else 9

/-- May the initiator write this part of the MRAM (01 R22, R23, R25)? The general logbook is append-only: no byte that already
holds something is written (log entry 9). -/
def mramWritable (d : Dev) (m : Memory) (i : Initiator) (addr n : Nat) : Bool :=
  [mramPartition addr, mramPartition (addr + n - 1)].all fun p => match p with
  | 0 => decide (i = .core .heartwood) && !d.heart.lockLatch && decide (d.lifecycle ≠ 3)
  | 1 => decide (i = .core .burl)
  | 2 => decide (i = .ledger)
  | 3 | 4 | 5 => decide (i = .core .heartwood)
  | 6 => (match i with | .core _ => true | _ => false) &&
      ((List.range n).all fun k => decide (mramPartition (addr + k) ≠ 6 ∨ m.read (flat .mram (addr + k)) = Memory.unlisted))
  | 7 => decide (i = .core .canopy)
  | 8 => decide (i = .core d.activeSapwood)
  | _ => false

/-- May the initiator read this part of the MRAM (01, table *MRAM partitions*, Readers; table *Access to Heartwood targets*)? -/
def mramReadable (d : Dev) (i : Initiator) (addr n : Nat) : Bool :=
  [mramPartition addr, mramPartition (addr + n - 1)].all fun p => match p, i with
  | 0, .core k => decide (k = .heartwood ∨ k = .burl)
  | 1, .core k => decide (k = .burl)
  | 2, .core k => decide (k = .sapwoodA ∨ k = .sapwoodB ∨ k = .heartwood)
  | 2, .ledger => true
  | 3, .core _ | 4, .core _ | 5, .core _ | 6, .core _ => true
  | 7, .core k => decide (k = .canopy ∨ k = d.activeSapwood)
  | 8, .core k => decide (k = .sapwoodA ∨ k = .sapwoodB)
  | _, _ => false

/-- The local memories the debug island reaches before SEALED: of the Sapwood cores, the port engines, the Canopy engine and the display
engine (16 R452). -/
def debugReach (d : Dev) (r : Region) : Bool :=
  decide (d.lifecycle ≠ 3) && match r with
  | .sapwoodLocal _ | .peLocal _ | .canopyLocal | .displayLocal => true
  | _ => false

/-- The duty of a word of crossing 0x36: bits 30 to 16, beside the override field in bit 31 and bits 15 to 0 (13 R357; log entry 69). -/
def dutyBits (w : Word) : Nat := w.toNat / 0x10000 % 0x8000

/-- The override field of such a word: whether it is in force, and the limit in 0.1 A (13 R357). -/
def overrideField (w : Word) : Bool × Nat := (w.toNat.testBit 31, w.toNat % 0x10000)

/-- May an initiator change a word of crossing 0x36 so: Firebreak A only the override field, a port engine only the duty (01 R33; 02 R55)? -/
def pilotWordOk (i : Initiator) (old new : Word) : Bool :=
  if i = .core .firebreakA then decide (dutyBits old = dutyBits new) else decide (overrideField old = overrideField new)

/-- The value of crossing 0x36 or 0x28, word n for port or module group n, with some words replaced. -/
def overlay (old : List Word) (at_ : Nat) (words : List Word) : List Word :=
  (List.range 8).map fun n => if at_ ≤ n then (words[n - at_]?).getD (old.getD n 0) else old.getD n 0

/-- May the initiator write `n` bytes there? -/
def mayWrite (d : Dev) (m : Memory) (i : Initiator) (r : Region) (addr n : Nat) : Bool :=
  match r, i with
  | .sapwoodLocal b, .core k => decide (k = if b then .sapwoodB else .sapwoodA)
  | .heartwoodLocal, .core k => decide (k = .heartwood)
  | .firebreakLocal b, .core k => decide (k = if b then .firebreakB else .firebreakA)
  | .burlLocal, .core k => decide (k = .burl)
  | .peLocal e, .core k => decide (k = peCore e)
  | .canopyLocal, .core k => decide (k = .canopy)
  | .displayLocal, .core k => decide (k = .display)
  | .sampleBuffer, .metrology => true
  | .dictStore legal, .core k => decide (k = if legal then .heartwood else d.activeSapwood)
  | .commBuffer o, .core k => decide (k = o) && (isPe k || decide (k = .canopy ∨ k = d.activeSapwood))
  | .frameBuffer legal, .core k => decide (k = if legal then .heartwood else .display)
  | .contextTable x, .core k => decide (k = contextOwner d x)
  | .contextTable _, .cvu => true
  | .ferro, .core k => decide (k = ferroWriter addr ∧ k = ferroWriter (addr + n - 1))
  | .mram, _ => mramWritable d m i addr n
  | .crossing 0x28, .core k => decide (k = .firebreakA)
  | .crossing c, _ => xEndpoint d c i && decide (xDir c ≠ .toFabric)
  | .timerChannel _, .core k => decide (k ≠ .firebreakB)
  | r, .debug => debugReach d r
  | _, _ => false

/-- May the initiator read `n` bytes there? -/
def mayRead (d : Dev) (i : Initiator) (r : Region) (addr n : Nat) : Bool :=
  match r, i with
  | .sapwoodLocal b, .core k => decide (k = if b then .sapwoodB else .sapwoodA)
  | .heartwoodLocal, .core k => decide (k = .heartwood)
  | .firebreakLocal b, .core k => decide (k = if b then .firebreakB else .firebreakA)
  | .burlLocal, .core k => decide (k = .burl)
  | .peLocal e, .core k => decide (k = peCore e)
  | .canopyLocal, .core k => decide (k = .canopy)
  | .displayLocal, .core k => decide (k = .display)
  | .sampleBuffer, .core k => decide (k = .heartwood ∨ k = .firebreakA ∨ k = .firebreakB)
  | .sampleBuffer, .metrology => true
  | .dictStore legal, .core k => !(legal && decide (k = .burl))
  | .commBuffer o, .core k => decide (k = o) && (isPe k || decide (k = .canopy ∨ k = d.activeSapwood))
  | .frameBuffer _, .core k => decide (k = .display)
  | .contextTable x, .core k => decide (k = contextOwner d x)
  | .contextTable _, .cvu => true
  | .ferro, .core k => decide (k = ferroWriter addr ∧ k = ferroWriter (addr + n - 1))
  | .mram, _ => mramReadable d i addr n
  | .crossing c, _ => xEndpoint d c i && decide (xDir c ≠ .toIsland)
  | .timerChannel _, .core k => decide (k ≠ .firebreakB)
  | .heartwoodRom, .core k => decide (k = .heartwood)
  | .burlRom, .core k => decide (k = .burl)
  | .mailbox c, .core k => decide (k = c)
  | r, .debug => debugReach d r
  | _, _ => false

/-- May the initiator post to a mailbox? The debug island reaches none (16 R452). -/
def mayPost : Initiator → Bool
  | .debug => false
  | _ => true

/-- The Heartwood target a refused transaction was at, numbered by the rows of *Access to Heartwood targets* (log entry 10). -/
def heartwoodTarget (r : Region) (addr : Nat) : Option Nat :=
  match r with
  | .sampleBuffer => some 0
  | .heartwoodLocal => some 1
  | .ferro => if addr < 0x34000 then some 2 else none
  | .mram =>
    match mramPartition addr with
    | 0 => some 3 | 2 => some 4 | 3 => some 6 | 4 => some 6 | 5 => some 6
    | _ => none
  | .ledgerPort => some 4
  | .dictStore true => some 7
  | _ => none

/-- Count a refusal of a target with the tag and the address (01 R20). -/
def countRefusal (l : List RefusalCount) (r : Region) (tag addr : Nat) : List RefusalCount :=
  match l with
  | [] => [⟨r, 1, tag, addr⟩]
  | e :: t => if e.target = r then ⟨r, e.count + 1, tag, addr⟩ :: t else e :: countRefusal t r tag addr

/-- A refused access to a Heartwood target: counted in 0xF000.07, and one event a second and target in the legal logbook with the
refusals since the last (12 R306). While the Heartwood core is out, the target's count waits for it: it alone writes both (01 R31). -/
def accessRefused (d : Dev) (target tag : Nat) : Dev :=
  if !d.heartwoodUp then { d with heart := { d.heart with uncounted := d.heart.uncounted ++ [(target, tag)] } }
  else
  let d := d.bump Key.accessRefusedCount
  let since := match d.heart.accessPending.find? (·.1 = target) with | some (_, n, _) => n | none => 0
  let last := (d.heart.accessPending.find? (·.1 = target)).map (·.2.2)
  let rest := d.heart.accessPending.filter (·.1 ≠ target)
  if last.any fun t => d.nowMs < t + 1000 then
    { d with heart := { d.heart with accessPending := (target, since + 1, last.getD 0) :: rest } }
  else
    let d := d.legal 0x0607 0xFF (leBytes 1 target ++ leBytes 1 tag ++ leBytes 4 (since + 1))
    { d with heart := { d.heart with accessPending := (target, 0, d.nowMs) :: rest } }

/-- A refused transaction: error response, counted, nothing changed at the target (01 R20; 12 R306). -/
def refuseTransaction (d : Dev) (tag : Nat) (r : Region) (addr : Nat) : Dev :=
  let d := { d with refusals := countRefusal d.refusals r tag addr }
  let d := match heartwoodTarget r addr with | some t => accessRefused d t tag | none => d
  d.say (.fabric tag .error)

/-- May the tag start a transaction at all: used, and for the debug island only until the debug fuse is blown (01 R18; 16 R452)? -/
def tagUsed (d : Dev) (tag : BitVec 5) : Option Initiator :=
  match initiator tag with
  | some .debug => if d.lifecycle = 3 then none else some .debug
  | i => i

/-- The words of a byte string, little-endian. -/
def wordsOf : Nat → Bytes → List Word
  | 0, _ => []
  | n + 1, b => BitVec.ofNat 32 (leVal (b.take 4)) :: wordsOf n (b.drop 4)

/-- The bytes of words, little-endian. -/
def bytesOf (w : List Word) : Bytes := w.flatMap fun x => leBytes 4 x.toNat

/-- FABRIC_POST (01 R18, R20): a message of up to 64 bytes joins the target's mailbox queue; a refused post is counted at that mailbox. -/
def execFabricPost (tag : BitVec 5) (target : CoreId) (body : Bytes) (s : State) : Out3 State :=
  if 64 < body.length then .refused (.malformed "FABRIC_POST")
  else s.onDev fun d =>
    if !d.powered then d
    else match tagUsed d tag with
      | none => refuseTransaction d tag.toNat (.mailbox target) 0
      | some i =>
        if !mayPost i then refuseTransaction d tag.toNat (.mailbox target) 0
        else ({ d with mail := vmod d.mail (coreNum target) fun q => q ++ [⟨tag.toNat, body⟩] } : Dev).say (.fabric tag.toNat .done)

end Sys2Proof.Machine
end

