-- ==== Sys2Proof/Machine/Islands.lean ====
section
/-! DEFINITION. Timed islands: UTC_SECOND, TIMER_EXPIRY, FABRIC_SPEED_MEASURE, CROSSING_RESYNC_DONE, CROSSING_CLEAR_COUNTERS
(02 R40 to R45, R48, R57 to R61). -/

namespace Sys2Proof.Machine

/-- Deviation of a count from its nominal value, in ppm, rounded to nearest (02 R61, 0xB800.07). -/
def ppmOf (n nominal : Nat) : Int := divRound (((n : Int) - nominal) * 1000000) nominal

/-- One second's share of a slew: at most 32 cycles of 32.768 kHz, in 1/16 µs (02 R44; log entry 17). -/
def slewStep (left : Int) : Int := max (-15625) (min 15625 left)

/-- The value of crossing 0x2D: UTC second, the fabric time latched with it, time flags (02 R42). -/
def utcWords (d : Dev) : List Word :=
  BitVec.ofNat 32 d.time.utcS :: wordsOf 2 (leBytes 8 d.time.tLatch) ++ [BitVec.ofNat 32 d.timeFlags]

/-- A new UTC second: I1 latches fabric time, the slew moves on, and the pair crosses on 0x2D (02 R42, R44). -/
def utcEdge (d : Dev) : Dev :=
  let d := { d with time := { d.time with
    utcS := d.time.utcS + 1, tLatch := d.time.fabric, slew := d.time.slew - slewStep d.time.slew } }
  d.produce 0x2D (utcWords d)

/-- UTC_SECOND (02 R42, R44, R48): `i1Ticks` is what I1 counted in the I6 second that ends. While I6 is lost it passes no edge; on
VBAT alone UTC and its slew go on (03 R83). -/
def utcSecond (i1Ticks : Nat) (d : Dev) : Dev :=
  if d.clocks.xt32Lost ∨ d.power.state = .off then d
  else if !d.powered then { d with time := { d.time with utcS := d.time.utcS + 1, slew := d.time.slew - slewStep d.time.slew } }
  else
    let ppm := ppmOf i1Ticks 4096000
    let d := (utcEdge d).putInt Key.i1VersusI6 ppm
    if 200 * 4096000 < ((i1Ticks : Int) - 4096000).natAbs * 1000000 then d.general (.timeBaseMismatch ppm) else d

/-- TIMER_EXPIRY (02 R45): an armed channel whose compare value fabric time has reached expires once; the expiry goes to the arming
core on event crossing 0x05 with the channel number, and is lost while that crossing is in reset (02 R59). -/
def timerExpiry (n : Fin 64) (d : Dev) : Dev :=
  match d.time.timers[n] with
  | none => d
  | some (t, core) =>
    if d.powered ∧ t ≤ d.time.fabric then
      let d := { d with time := { d.time with timers := d.time.timers.set n none } }
      if d.passes 0x05 then (d.produce 0x05 [BitVec.ofNat 32 n]).say (.timer core n) else d
    else d

def execTimerExpiry (n : Fin 64) (s : State) : Out3 State := s.onDev (timerExpiry n)

/-- FABRIC_SPEED_MEASURE (02 R40, R61): the pace of the reference pipeline over 1 ms of I1, and the lowest since reset. -/
def fabricSpeedMeasure (mips : Nat) (d : Dev) : Dev :=
  if !d.powered || d.clocks.ref16Lost then d
  else
    let now := min mips 1000
    (d.putNat Key.fabricSpeedNow now).putNat Key.fabricSpeedMin (min now (d.nat Key.fabricSpeedMin))

def execFabricSpeedMeasure (mips : Nat) (s : State) : Out3 State := s.onDev (fabricSpeedMeasure mips)

/-- A crossing's two sides have resynchronised (02 R57, R58): traffic resumes and ResyncCount of a queue rises; a value crossing whose
reader was reset gets the writer's value again, one whose writer was reset stays stale until a new take (02 R58). -/
def Crossing.resynced (x : Crossing) (c : Nat) : Crossing :=
  match xKind c with
  | .queue => { x with state := .running, resync := satAdd 32 x.resync 1 }
  | .value =>
    let fresh := (x.blank || x.took) && decide (x.entries ≠ [])
    { x with state := .running, stale := x.stale && !fresh, blank := x.blank && decide (x.entries = []), took := false }
  | .event => { x with state := .running }

/-- The end of a resynchronisation (02 R57). -/
def crossingResyncDone (c : Fin 58) (d : Dev) : Dev :=
  if d.crossings[c].state = .running ∨ d.crossings[c].state = .clockLost ∨ !d.powered then d
  else (d.setCrossing c fun x => x.resynced c).unstall c

/-- Every count and OverrunFlag of a crossing cleared (02 R61). -/
def Crossing.cleared (x : Crossing) : Crossing :=
  { x with resync := 0, discarded := 0, dropped := 0, highWater := 0, overrun := false, overruns := 0 }

/-- CROSSING_CLEAR_COUNTERS (02 R61): 0x01 to 0xB800.08. FabricSpeedMin starts again from the pace now (log entry 18). -/
def crossingClearCountersServe (a : Ack) (_ : Val) (d : Dev) : Dev :=
    let d := { d with crossings := d.crossings.map Crossing.cleared }
    (d.putNat Key.fabricSpeedMin (d.nat Key.fabricSpeedNow)).ok a

def execCrossingClearCounters (m : HostMsg) (data : Bytes) (s : State) : Out3 State := s.onDev (cmdWrite m Key.xingClearCounters false data crossingClearCountersServe)

end Sys2Proof.Machine
end

