-- ==== Sys2Proof/Machine/Groups.lean ====
section
/-! DEFINITION. Staged groups: shadows, their sizes, and their discard (05 R122, R126, R127). -/

namespace Sys2Proof.Machine

/-- The bytes a value of an object takes (05 R127). -/
def sizeOf (key : Nat) (v : Val) : Nat :=
  match rowOf key with
  | some r => (r.ty.encode v).length
  | none => 0

/-- The bytes of a list of values. -/
def bytesOfStore (l : Store) : Nat := (l.map fun (k, v) => sizeOf k v).sum

/-- The lowest of some keys: lowest index, and within it lowest subindex (05 R123). -/
def minKey (l : List Nat) : Option Nat := l.foldl (fun m k => match m with | none => some k | some x => some (min x k)) none

namespace Dev

/-- A staged group. -/
def group (d : Dev) (g : Nat) : Group := d.dict.groups.getD g ⟨.empty, [], 0, 0⟩

/-- Change a staged group. -/
def setGroup (d : Dev) (g : Nat) (f : Group → Group) : Dev :=
  if h : g < 64 then { d with dict := { d.dict with groups := vmod d.dict.groups ⟨g, h⟩ f } } else d

/-- Bytes held in all shadows (05 R127, 0x1100.03). -/
def stagedTotal (d : Dev) : Nat := (d.dict.groups.toList.map fun g => bytesOfStore g.shadow).sum

/-- Discard a shadow: logged with group, bytes and cause, and the group is EXPIRED (05 R126). Causes: 1 the 60 s passed, 2 ownership
lost or handed over, 3 shutdown (log entry 21). Only a group in STAGING has a shadow to discard. -/
def discardGroup (d : Dev) (g cause : Nat) : Dev :=
  if (d.group g).phase = .staging then
    let n := bytesOfStore (d.group g).shadow
    let d := d.setGroup g fun _ => ⟨.expired, [], 0, 0⟩
    (d.bump Key.discardCount).general (.stagedDiscarded g n cause)
  else d

/-- Discard every shadow (05 R126). -/
def discardAll (d : Dev) (cause : Nat) : Dev := (List.range 64).foldl (fun d g => d.discardGroup g cause) d

end Dev
end Sys2Proof.Machine
end

