-- ==== Sys2Proof/Machine/Hosts.lean ====
section
/-! DEFINITION. Hosts: ownership, keep-alive, the interfaces (06 R137, R141, R142, R146, R152 to R157). -/

namespace Sys2Proof.Machine

/-- NOP (06 R146): the receipt of a valid message keeps the registration alive. -/
def execNop (m : HostMsg) (s : State) : Out3 State := s.onDev (hostNote m id)

/-- UNKNOWN_MESSAGE (06 R136, R137): an unknown type or version is dropped and counted; a non-zero reserved byte is dropped; a
malformed OWNERSHIP message aborts with 0x03000003 and reference 0. -/
def unknownMessage (k : UnknownKind) (d : Dev) : Dev :=
  match k with
  | .typeOrVersion => if d.sequencerUp then d.bump Key.unknownTypeCount else d
  | .reservedByte => d
  | .badOwnershipOperation m => hostRequest m 0 (fun d => d.abort (d.ackOf m 0) Code.range) d

def execUnknownMessage (k : UnknownKind) (s : State) : Out3 State := s.onDev (unknownMessage k)

/-- A registration failed: counted, and the fifth within 60 s starts 60 s of refusal (06 R146). -/
def registrationFailed (s : SlotId) (d : Dev) : Dev :=
  let d := d.bump (Key.hostAuthFailCount s)
  d.setSlot s fun h =>
    let fails := (d.nowMs :: h.fails).filter fun t => d.nowMs < t + 60000
    { h with hello := none, fails := fails, refuseTill := if 5 ≤ fails.length then some (d.nowMs + 60000) else h.refuseTill }

/-- HELLO (06 R145, R146): with a key, an allowed interface and no refusal running, the device answers CHALLENGE with its fresh nonce
and its serial number and waits 500 ms for the CONFIRM. A registration that a new HELLO overtakes has failed (log entry 71). -/
def hello (s : SlotId) (i : Iface) (reqId : Byte) (source : Nat × Nat) (hostNonce ownNonce : Bytes) (d : Dev) : Dev :=
  if d.sequencerUp ∧ d.ifaceUp i ∧ d.allowed s i ∧ d.flag (Key.keyPresent s) ∧ hostNonce.length = 16 ∧ (d.slot s).refuseTill = none then
    let d := if (d.slot s).hello.isSome then registrationFailed s d else d
    if (d.slot s).refuseTill ≠ none then d
    else (d.setSlot s fun h => { h with hello := some ⟨hostNonce, ownNonce, i, d.nowMs + 500⟩ }).sendClear s i (d.viaOf i 0x31 source) reqId
      (.challenge ownNonce (d.bytes Key.serialNumber))
  else d

def execHello (s : SlotId) (h : HelloFrom) (hostNonce ownNonce : Bytes) (st : State) : Out3 State :=
  st.onDev (hello s h.iface h.reqId h.source hostNonce ownNonce)

/-- REGISTRATION_TIMEOUT (06 R145): 500 ms after the HELLO the device forgets the registration. -/
def registrationTimeout (s : SlotId) (d : Dev) : Dev :=
  match (d.slot s).hello with
  | some h => if d.sequencerUp ∧ h.deadline ≤ d.nowMs then registrationFailed s d else d
  | none => d

def execRegistrationTimeout (s : SlotId) (st : State) : Out3 State := st.onDev (registrationTimeout s)

/-- HELLO_REFUSAL_END (06 R146). -/
def helloRefusalEnd (s : SlotId) (d : Dev) : Dev :=
  match (d.slot s).refuseTill with
  | some t => if t ≤ d.nowMs then d.setSlot s fun h => { h with refuseTill := none, fails := [] } else d
  | none => d

def execHelloRefusalEnd (s : SlotId) (st : State) : Out3 State := st.onDev (helloRefusalEnd s)

/-! ### Ownership (06 R152 to R155) -/

/-- The number of an ownership state (06 R158, 0x1800.02). -/
def ownershipNum : Ownership → Nat
  | .none => 0 | .claimWindow _ _ => 1 | .owned _ => 2 | .handover _ _ _ => 3

/-- The owner as 0x1800.01 shows it. -/
def ownerNum : Ownership → Nat
  | .owned o => o | .handover o _ _ => o | _ => 0xFF

/-- Change the ownership state; every change goes to the general logbook with the slots involved (06 R152). -/
def Dev.setOwnership (d : Dev) (o : Ownership) : Dev :=
  ({ d with hosts := { d.hosts with ownership := o } } : Dev).general
    (.ownership (ownershipNum d.hosts.ownership) (ownershipNum o) (ownerNum d.hosts.ownership) (ownerNum o))

/-- A slot takes ownership now: the heartbeat timer starts (06 R154). -/
def Dev.takeOwnership (d : Dev) (s : SlotId) : Dev :=
  let d := (d.setOwnership (.owned s)).bump Key.ownerChangeCount
  { d with hosts := { d.hosts with ownerSince := d.nowUs, lastHeartbeat := d.nowMs } }

/-- Ownership ends: NONE, and the staged shadows are discarded (06 R155). -/
def Dev.dropOwnership (d : Dev) : Dev :=
  let d := ((d.setOwnership .none).bump Key.ownerChangeCount).discardAll 2
  { d with hosts := { d.hosts with ownerSince := 0 } }

/-- Ownership is lost by heartbeat or registration: as a release, with the time of the loss (06 R154). -/
def Dev.loseOwnership (d : Dev) : Dev := d.dropOwnership.putNat Key.lastLossTime d.nowUs

/-- An OWNERSHIP message: received as a request about no object; a body of the wrong length aborts with 0x03000003 (06 R137), and every one in
the tick of a role change with 0x06000002 (05 R128). -/
def ownershipRequest (m : HostMsg) (bodyOk : Bool) (serve : Ack → Dev → Dev) (d : Dev) : Dev :=
  hostRequest m 0 (fun d =>
    let a := d.ackOf m 0
    if !bodyOk then d.abort a Code.range
    else match d.roleBlocked with
      | some c => d.abort a c
      | none => serve a d) d

/-- What waits for the tick boundary (05 R113). -/
def Dev.enqueue (d : Dev) (t : TickItem) : Dev := { d with dict := { d.dict with items := d.dict.items ++ [t] } }

/-- May a slot's claim be taken at all (06 R153)? Never without ClaimAllowed; with an owner only that of the owner, and within the offer
that of its target. -/
def claimTaken (d : Dev) (s : SlotId) : Bool :=
  d.flag (Key.claimAllowed s) && match d.hosts.ownership with
    | .none => true
    | .claimWindow _ _ => true
    | .owned o => decide (o = s)
    | .handover o t dl => decide (o = s) || (decide (t = s) && decide (d.nowMs < dl))

/-- OWNERSHIP_CLAIM (06 R152, R153): refused at once where it cannot succeed, else it acts at the tick boundary. -/
def ownershipClaim (a : Ack) (d : Dev) : Dev := if claimTaken d a.slot then d.enqueue (.claim a) else d.abort a Code.claimRefused

/-- A claim takes effect at the boundary: it opens the window of 200 ms, joins it, changes nothing for the owner, or ends a handover
(06 R152, R153). -/
def Dev.applyClaim (d : Dev) (a : Ack) : Dev :=
  match d.hosts.ownership with
  | .none => d.setOwnership (.claimWindow (d.nowMs + 200) [a])
  | .claimWindow t l => { d with hosts := { d.hosts with ownership := .claimWindow t (l ++ [a]) } }
  | .owned o => if o = a.slot then d.ok a else d.abort a Code.claimRefused
  | .handover o t _ =>
    if o = a.slot then d.ok a
    else if t = a.slot then ((d.discardAll 2).takeOwnership t).ok a
    else d.abort a Code.claimRefused

def execOwnershipClaim (m : HostMsg) (extra : Bytes) (s : State) : Out3 State :=
  s.onDev (ownershipRequest m (extra == []) ownershipClaim)

/-- OWNERSHIP_RELEASE (06 R153, R155): it acts at the tick boundary. -/
def ownershipRelease (a : Ack) (d : Dev) : Dev :=
  match d.ownerFault a.slot with
  | some c => d.abort a c
  | none => d.enqueue (.release a)

def execOwnershipRelease (m : HostMsg) (extra : Bytes) (s : State) : Out3 State :=
  s.onDev (ownershipRequest m (extra == []) ownershipRelease)

/-- A release takes effect at the boundary, unless the slot has lost ownership before it in the same tick. -/
def Dev.applyRelease (d : Dev) (a : Ack) : Dev :=
  if d.owner = some a.slot then d.dropOwnership.ok a else d.abort a (if d.owner.isSome then Code.notOwner else Code.noOwner)

/-- HANDOVER_OFFER (06 R152, R153): `t` is the target slot byte; the offer stands from the tick boundary on. -/
def handoverOffer (t : Nat) (a : Ack) (d : Dev) : Dev :=
  match d.ownerFault a.slot with
  | some c => d.abort a c
  | none =>
    if h : t < 16 then
      if (d.slot ⟨t, h⟩).registered ∧ d.flag (Key.claimAllowed t) then d.enqueue (.offer a ⟨t, h⟩)
      else d.abort a Code.claimRefused
    else d.abort a Code.claimRefused

def execHandoverOffer (m : HostMsg) (extra : Bytes) (s : State) : Out3 State :=
  s.onDev (ownershipRequest m (extra.length == 1) (handoverOffer (leVal extra)))

/-- An offer takes effect at the boundary: its timer runs 200 ms from there. -/
def Dev.applyOffer (d : Dev) (a : Ack) (t : SlotId) : Dev :=
  if d.owner = some a.slot then (d.setOwnership (.handover a.slot t (d.nowMs + 200))).ok a
  else d.abort a (if d.owner.isSome then Code.notOwner else Code.noOwner)

/-- HEARTBEAT (06 R154): from the owner it restarts the 1,500 ms, counted from the boundary that ends its tick; from any other slot it aborts
with 0x04000001. -/
def heartbeat (a : Ack) (d : Dev) : Dev :=
  if d.owner = some a.slot then ({ d with hosts := { d.hosts with lastHeartbeat := d.nowMs + 1 } } : Dev).ok a
  else d.abort a Code.notOwner

def execHeartbeat (m : HostMsg) (extra : Bytes) (s : State) : Out3 State :=
  s.onDev (ownershipRequest m (extra == []) heartbeat)

/-- The better of two claims: lower ClaimPriority, then lower slot (06 R153). -/
def betterClaim (d : Dev) (a b : Ack) : Ack :=
  let pa := d.nat (Key.claimPriority a.slot)
  let pb := d.nat (Key.claimPriority b.slot)
  if pb < pa ∨ (pb = pa ∧ b.slot < a.slot) then b else a

/-- CLAIM_WINDOW_END (06 R153): the winner receives a RESPONSE, every other claimant ABORT 0x04000004. -/
def claimWindowEnd (d : Dev) : Dev :=
  match d.hosts.ownership with
  | .claimWindow t claims =>
    if t ≤ d.nowMs then
      match claims.filter fun a => (d.slot a.slot).registered with
      | [] => d.setOwnership .none
      | a :: l =>
        let w := l.foldl (betterClaim d) a
        (a :: l).foldl (fun d c => if c.slot = w.slot then d.ok c else d.abort c Code.claimRefused) (d.takeOwnership w.slot)
    else d
  | _ => d

def execClaimWindowEnd (s : State) : Out3 State := s.onDev claimWindowEnd

/-- HEARTBEAT_LOSS (06 R154): at the first tick boundary 1,500 ms after the last heartbeat, or after ownership was taken. -/
def heartbeatLoss (d : Dev) : Dev :=
  if d.owner.isSome ∧ d.hosts.lastHeartbeat + 1500 ≤ d.nowMs then d.loseOwnership else d

def execHeartbeatLoss (s : State) : Out3 State := s.onDev heartbeatLoss

/-- HANDOVER_LAPSE (06 R152): the old owner keeps ownership. -/
def handoverLapse (d : Dev) : Dev :=
  match d.hosts.ownership with
  | .handover o _ dl => if dl ≤ d.nowMs then d.setOwnership (.owned o) else d
  | _ => d

def execHandoverLapse (s : State) : Out3 State := s.onDev handoverLapse

/-- STOP_ALL (06 R156, R157): stop-class; applied at the tick boundary after every start. -/
def stopAllServe (a : Ack) (_ : Val) (d : Dev) : Dev := d.enqueue (.stopAll a)

def execStopAll (m : HostMsg) (data : Bytes) (s : State) : Out3 State := s.onDev (cmdWrite m Key.stopAll true data stopAllServe)

/-! ### Interfaces (06 R141, R142) -/

/-- The IPv4 address of an Ethernet interface. -/
def ipOf (d : Dev) : Iface → Option Nat
  | .can5 => none
  | .eth0 => some (d.nat Key.eth0Address)
  | .eth1 => some (d.nat Key.eth1Address)

/-- ARP_REQUEST (06 R142): answered when it asks for the interface's own address. -/
def arpRequest (i : Iface) (address : Word) (d : Dev) : Dev :=
  if d.sequencerUp ∧ d.ifaceUp i ∧ ipOf d i = some address.toNat then d.say (.arp i address.toNat) else d

def execArpRequest (i : Iface) (address : Word) (s : State) : Out3 State := s.onDev (arpRequest i address)

/-- ICMP_ECHO_REQUEST (06 R142): answered for up to 64 bytes of data. -/
def icmpEcho (i : Iface) (data : Bytes) (d : Dev) : Dev :=
  if d.sequencerUp ∧ d.ifaceUp i ∧ (ipOf d i).isSome ∧ data.length ≤ 64 then d.say (.icmp i data) else d

def execIcmpEchoRequest (i : Iface) (data : Bytes) (s : State) : Out3 State := s.onDev (icmpEcho i data)

/-- DATAGRAM_DROPPED (06 R142). -/
def datagramDropped (i : Iface) (d : Dev) : Dev :=
  if d.sequencerUp ∧ d.ifaceUp i ∧ (ipOf d i).isSome then d.bump Key.droppedDatagrams else d

def execDatagramDropped (i : Iface) (s : State) : Out3 State := s.onDev (datagramDropped i)

/-- Set the state of a CAN controller. -/
def Dev.setCan (d : Dev) (k : Fin 6) (c : CanState) : Dev := { d with hosts := { d.hosts with can := d.hosts.can.set k c } }

/-- CAN_BUS_OFF (06 R141, 0xC002.04). -/
def canBusOff (k : Fin 6) (d : Dev) : Dev :=
  if d.powered ∧ (d.hosts.can[k] = .errorActive ∨ d.hosts.can[k] = .errorPassive) then
    let d := d.setCan k .busOff
    if k = 5 then d.bump Key.can5BusOffCount
    else { d with hosts := { d.hosts with busOffCounts := vmod d.hosts.busOffCounts k fun n => satAdd 32 n 1 } }
  else d

def execCanBusOff (k : Fin 6) (s : State) : Out3 State := s.onDev (canBusOff k)

/-- BUS_OFF_RECOVERY (06 R141): recovery starts by itself, and the controller performs bus integration. -/
def busOffRecovery (k : Fin 6) (d : Dev) : Dev :=
  if d.powered ∧ d.hosts.can[k] = .busOff then d.setCan k .integrating else d

def execBusOffRecovery (k : Fin 6) (s : State) : Out3 State := s.onDev (busOffRecovery k)

end Sys2Proof.Machine
end

