-- ==== Sys2Proof/Machine/Sessions.lean ====
section
/-! DEFINITION. Sessions as Heartwood sees them: what the opening, the close and the lapse of a session set off (07 R178; 08 R208; 11
R284, R291, R293; 12 R318), and the channel map they need (08 R188, R189). -/

namespace Sys2Proof.Machine

/-- Channel of slot k of port p (08 R188). -/
def chanOf (p : PortId) (k : Fin 8) : Fin 68 := ⟨4 + 8 * p + k, by omega⟩

/-- Slots a mode uses (08, table *Channel use by port mode*). -/
def usedSlots (mode : Nat) : List (Fin 8) :=
  match mode with
  | 1 => [0, 3, 6, 7]
  | 2 => [0, 1, 2, 3, 4, 5, 6, 7]
  | 3 => [0, 1, 2, 3, 6, 7]
  | _ => []

/-- The entity of a port. -/
def portEntity (p : PortId) : EntityId := ⟨p.val, by omega⟩

/-- The port of an entity, none for the site. -/
def entityPort (e : EntityId) : Option PortId := if h : e.val < 8 then some ⟨e.val, h⟩ else none

/-- Does the channel count toward energy (08 R190, R207, R208)? -/
def Channel.counts (ch : Channel) : Bool := decide (ch.failed = 0) && decide (ch.discard = 0) && decide (ch.source ≠ 0xFF)

namespace Dev

/-- A level 2 demand stands on a port while its account is exhausted, and on every port while no ring verifies (01, table *Actuator
priority levels*; 09 R232; 11 R291). Its release lets a later demand start an envelope of its own. -/
def judgeLevel2 (d : Dev) (p : PortId) : Dev :=
  let on := decide (d.nat (Key.creditState p) = 4) || decide (4 ≤ d.energy.fails)
  let d := { d with ports := vmod d.ports p fun (q : Port) => { q with level2 := on } }
  if on then d
  else { d with safety := { d.safety with ports := vmod d.safety.ports p fun (q : PortSafety) => { q with ramped := setBit q.ramped 21 false } } }

/-- Change what Heartwood keeps of a session. -/
def setLive (d : Dev) (p : PortId) (v : Option Live) : Dev := { d with energy := { d.energy with sessions := d.energy.sessions.set p v } }

/-- Change a binding. -/
def setBinding (d : Dev) (p : PortId) (v : Option Binding) : Dev := { d with ledger := { d.ledger with bind := d.ledger.bind.set p v } }

/-- The session of a port opens: the enables rise (07 R178). SessionId rises by 1; a bound session takes the next record number (12
R318). -/
def sessionOpened (p : PortId) (d : Dev) : Dev :=
  let sid := d.site.sessionId + 1
  let d := ({ d with site := { d.site with sessionId := sid } } : Dev).bump (Key.sessionCount p)
  let r := d.heart.nextRecord
  match d.ledger.bind[p] with
  | some b =>
    let d := { d with heart := { d.heart with nextRecord := r + 1 } }
    (d.setBinding p (some { b with sid := sid, number := some r })).setLive p
      (some ⟨sid, d.nowUs, some r, true, false, false, 0, 0, if d.time.unknown then 8 else 0⟩)
  | none => d.setLive p (some ⟨sid, d.nowUs, none, true, false, false, 0, 0, if d.time.unknown then 8 else 0⟩)

/-- The session of a port closes: both feedbacks confirmed opening (07 R178); the running period is its last. -/
def sessionClosed (p : PortId) (d : Dev) : Dev :=
  match d.energy.sessions[p] with
  | some l => if l.closing then d else d.setLive p (some { l with closing := true, endUs := d.nowUs })
  | none => d

/-- A binding ends: the port stays held by the account until IDLE (11 R284, R291). -/
def unbind (d : Dev) (p : PortId) : Dev :=
  match d.ledger.bind[p] with
  | none => d
  | some b =>
    let d := (d.setBinding p none : Dev)
    let d := { d with ledger := { d.ledger with held := d.ledger.held.set p (some b.slot) } }
    (d.putNat (Key.boundAccount p) 0).putNat (Key.boundSlot p) 0xFFFFFFFF

/-- The port reached ENDED or FAULTED without an open session, or IDLE: a binding that never opened goes, and at IDLE the credit state
is NONE (11 R284, R291, R293; 12 R318). -/
def bindingLapsed (p : PortId) (d : Dev) : Dev :=
  let d := { d with ledger := { d.ledger with auth := d.ledger.auth.set p none, posted := d.ledger.posted.set p none } }
  let d := d.putNat (Key.authPending p) 0
  let d : Dev := if d.energy.sessions[p].isNone then d.unbind p else d
  if d.ports[p].session = .idle then
    (({ d with ledger := { d.ledger with held := d.ledger.held.set p none } } : Dev).putNat (Key.creditState p) 0).judgeLevel2 p
  else d

/-- Heartwood holds every port in Clearing: the seal is broken, the ring store is lost, or the calibration check fails (03 R80; 08
R215; 09 R240). -/
def portsHeld (d : Dev) : Bool :=
  decide (d.heart.sealBroken ≠ 0) || d.energy.lost || (decide (d.lifecycle < 3) && d.heart.calFailed)

/-- Every channel the port's mode uses counts (08 R208; 03 R78 step 6); no mode uses a channel with source 0xFF (08 R190). -/
def channelsReady (p : PortId) (d : Dev) : Bool :=
  (usedSlots (d.nat (Key.portMode p))).all fun k =>
    let ch := d.metro.chans[chanOf p k]
    ch.counts || decide (ch.source = 0xFF)

/-- The AC current in 0.1 A that the account's MaxPower allows on a port: MaxPower, in 0.5 kW, over the phase voltage in 0.1 V and the
phases drawn (11 R284); none without a limit. -/
def accountCurrent (d : Dev) (p : PortId) (volts phases : Nat) : Option Nat :=
  match d.ledger.bind[p] with
  | none => none
  | some b =>
    match d.ledger.accounts.find? fun (x : Nat × Account) => x.1 = b.slot with
    | some (_, a) => if a.maxPower = 0 ∨ volts * phases = 0 then none else some (a.maxPower * 500 * 100 / (volts * phases))
    | none => none

end Dev
end Sys2Proof.Machine
end

