-- ==== Sys2Proof/Machine/Demands.lean ====
section
/-! DEFINITION. Ports and their demands: level 1 causes, stops, envelopes, the pilot's drive, the lock, and the session states that
every chapter's events move (01 R34 to R37; 07 R161, R163, R166, R177, R179, R180; 13 R338, R356, R359). -/

namespace Sys2Proof.Machine

/-! ### Numbers of states (07 R187) -/

/-- 0x2p10.01. -/
def Session.num : Session → Nat
  | .idle => 0 | .connected => 1 | .identifying => 2 | .authorised => 3 | .closing => 4 | .energised => 5 | .stopping => 6
  | .opening => 7 | .ended => 8 | .faulted => 9

/-- 0x2p10.02. -/
def Pilot.num : Pilot → Nat
  | .a => 0 | .b => 1 | .c => 2 | .d => 3 | .e => 4 | .f => 5 | .unknown => 6 | .diode => 7

/-- 0x2p10.08. -/
def Protocol.num : Protocol → Nat
  | .iso2 => 1 | .iso20 => 2 | .annexA => 3 | .annexB => 4

/-- The session states whose contactors are commanded open: Clearing (01 R34; 07 R177). -/
def Session.clearing : Session → Bool
  | .closing | .energised | .stopping | .opening => false
  | _ => true

/-- The duty for an offered current in 0.1 A, in 0.0125 %, rounded down; none below 6 A (07 R163). -/
def dutyOf (offer : Nat) : Option Nat :=
  if offer < 60 then none
  else if offer ≤ 510 then some (offer * 40 / 3)
  else some (min (offer * 16 / 5 + 5120) 7680)

/-- The envelope of a ramp at a tick, in 0.1 A (13 R356). -/
def Ramp.at (r : Ramp) (now : Nat) : Nat :=
  let n := now - r.start
  if r.len ≤ n then 0 else r.i0 * (r.len - n) / r.len

namespace Dev

def port (d : Dev) (p : PortId) : Port := d.ports[p]
def setPort (d : Dev) (p : PortId) (f : Port → Port) : Dev := { d with ports := vmod d.ports p f }
def psafe (d : Dev) (p : PortId) : PortSafety := d.safety.ports[p]
def setPsafe (d : Dev) (p : PortId) (f : PortSafety → PortSafety) : Dev :=
  { d with safety := { d.safety with ports := vmod d.safety.ports p f } }

/-- Mode of a port: 0 OFF, 1 AC1, 2 AC3, 3 DC (07 R159). -/
def mode (d : Dev) (p : PortId) : Nat := d.nat (Key.portMode p)
def isDc (d : Dev) (p : PortId) : Bool := decide (d.mode p = 3)

/-- Is a port in Clearing: both feedbacks have confirmed the opening, if its enables have risen at all (01 R37; 13 R360)? -/
def clearing (d : Dev) (p : PortId) : Bool := (d.port p).session.clearing && !(d.port p).opened

/-- Is every port in Clearing? -/
def allClearing (d : Dev) : Bool := (List.finRange 8).all fun p => d.clearing p

/-- I7 gives ticks: with power and its oscillator. Firebreak decides at these ticks alone (13, introduction). -/
def ticking (d : Dev) : Bool := d.powered && !d.clocks.i7Lost

/-- The I7 tick now. -/
def tick7 (d : Dev) : Nat := d.time.i7Ticks

/-! ### Level 1 causes (13 R338) -/

/-- The level 1 causes of a port. -/
def causes (d : Dev) (p : PortId) : Nat := d.nat (Key.level1Causes p)
def hasCause (d : Dev) (p : PortId) (bit : Nat) : Bool := (d.causes p).testBit bit

/-- Causes whose raising and release also go to the legal logbook (13 R368). -/
def legalCause (bit : Nat) : Bool := decide (bit = 3 ∨ bit = 7 ∨ bit = 9 ∨ bit = 10 ∨ bit = 14)

/-- Log that a cause is raised or released on these ports: one general entry a port, and for the causes of R368 one legal entry a
port, or one with port 0xFF when every port is meant (13 R368; 12 event 0x0609). -/
def logCause (ports : List PortId) (bit : Nat) (raised : Bool) (measured : Int) (d : Dev) : Dev :=
  let d := ports.foldl (fun d p => d.general (.level1 p bit raised measured)) d
  if !legalCause bit then d
  else
    let data (p : Nat) := leBytes 1 p ++ leBytes 1 bit ++ leBytes 1 (if raised then 1 else 0) ++ leBytes 4 (ofSigned 32 measured)
    if ports.length = 8 then d.legal 0x0609 0xFF (data 0xFF)
    else ports.foldl (fun d p => d.legal 0x0609 p (data p)) d

/-- Raise a cause on those of the ports that do not have it. -/
def raiseCause (ports : List PortId) (bit : Nat) (measured : Int) (d : Dev) : Dev :=
  let new := ports.filter fun p => !d.hasCause p bit
  let d := new.foldl (fun d p => d.putNat (Key.level1Causes p) (setBit (d.causes p) bit true)) d
  if new = [] then d else d.logCause new bit true measured

/-- Release a cause on those of the ports that have it. -/
def releaseCause (ports : List PortId) (bit : Nat) (measured : Int) (d : Dev) : Dev :=
  let old := ports.filter fun p => d.hasCause p bit
  let d := old.foldl (fun d p => (d.putNat (Key.level1Causes p) (setBit (d.causes p) bit false)).setPsafe p fun q =>
    { q with ramped := setBit q.ramped bit false }) d
  if old = [] then d else d.logCause old bit false measured

/-- The ports. -/
def allPorts : List PortId := List.finRange 8

/-- The function of a SAFE_AUX input, and the ports in its mask (13, table *AuxFunction values*). -/
def auxFunction (d : Dev) (n : Fin 2) : Nat := d.nat (if n = 0 then Key.aux0Function else Key.aux1Function)
def auxMask (d : Dev) (n : Fin 2) : Nat := d.nat (if n = 0 then Key.aux0PortMask else Key.aux1PortMask)
def auxPorts (d : Dev) (n : Fin 2) : List PortId := allPorts.filter fun p => (d.auxMask n).testBit p

/-- Kinds of stop of a cause (13, table *Level 1 causes*). `held` posts no stop of its own. -/
inductive StopKind where | ramp | immediate | held
deriving DecidableEq, Repr

/-- How a discrepancy fault stops a port: as the function of each latched input (13 R338 bit 3). -/
def discrepancyKind (d : Dev) (p : PortId) : StopKind :=
  let l := d.nat Key.discrepancyLatched
  let aux (n : Fin 2) := l.testBit (2 + n) && (d.auxMask n).testBit p && decide (d.auxFunction n = 2)
  if l.testBit 1 || aux 0 || aux 1 then .immediate else .ramp

/-- The clocks and the die whose loss stops every port are good (02, table *Loss or fault of a clock*; 03, table *Rail monitors*). -/
def clocksGood (d : Dev) : Bool := !d.clocks.ref16Lost && !d.clocks.i7Lost && !d.metro.lost && d.rail .vddAfe

/-- CAN4 counts as silent (02, loss of the 25 MHz reference; 03, VDD_PLC). -/
def can4Silent (d : Dev) : Bool := d.clocks.ref25Lost || !d.rail .vddPlc

/-- How a cause stops a port whose contactors are closed. A cause whose Stop column reads "—" stops immediately (13 R338). Loss of
the 25 MHz reference waits for the converter-stop time (07 R175). Grid loss acts at its own event (13 R353). -/
def causeKind (d : Dev) (p : PortId) (bit : Nat) : StopKind :=
  match bit with
  | 2 => .ramp
  | 3 => d.discrepancyKind p
  | 5 => if d.auxFunction 0 = 2 then .immediate else .ramp
  | 6 => if d.auxFunction 1 = 2 then .immediate else .ramp
  | 12 => .ramp
  | 13 => .ramp
  | 15 => .held
  | 17 => .ramp
  | 19 => if d.safety.clockFault then .immediate else .held
  | _ => .immediate

/-- The demands on a port as one mask: bit b cause b, 21 level 2, 22 a level 3 stop. -/
def demands (d : Dev) (p : PortId) : Nat :=
  setBit (setBit (d.causes p) 21 (d.port p).level2) 22 (d.port p).stop.isSome

/-- The highest demand level that holds a port, 0 none (07, 0x2p10.0D). -/
def holdingLevel (d : Dev) (p : PortId) : Nat :=
  if d.causes p ≠ 0 then 1 else if (d.port p).level2 then 2 else if (d.port p).stop.isSome then 3 else 0

/-! ### Envelopes -/

/-- The envelope in force, none while no ramp runs: at each tick the lower of those running (01 R36). -/
def envelope (d : Dev) (p : PortId) : Option Nat :=
  match (d.psafe p).ramps with
  | [] => none
  | r :: l => some (l.foldl (fun e r => min e (r.at d.tick7)) (r.at d.tick7))

/-- The limit Firebreak A writes for a port: the envelope, and the temperature limit while one applies (13 R345, R357). -/
def overrideOf (d : Dev) (p : PortId) : Option Nat :=
  let t := d.nat (Key.temperatureLimit p)
  match d.envelope p with
  | some e => some (min e t)
  | none => if t = 0xFFFF then none else some t

/-- The current Firebreak measures on a port, in mA (13 R356). -/
def current7 (d : Dev) (p : PortId) : Nat := if d.isDc p then (d.psafe p).view.dcMean else (d.psafe p).view.acRms

/-- The measured current that starts a ramp, in 0.1 A rounded up (13 R356). -/
def measured (d : Dev) (p : PortId) : Nat := ceilDiv (d.current7 p) 100

/-- Start an envelope for the demands `mask`, from the measured current over RampTime (13 R356). -/
def startRamp (d : Dev) (p : PortId) (mask level : Nat) : Dev :=
  let i0 := d.measured p
  (d.setPsafe p fun q => { q with
    ramps := q.ramps ++ [⟨i0, d.tick7, d.nat (Key.rampTime p), level⟩], ramped := q.ramped ||| mask }).putNat
    (Key.rampStartCurrent p) i0

/-- Set the envelope to 0 now (13 R359). -/
def zeroRamp (d : Dev) (p : PortId) (mask : Nat) : Dev :=
  d.setPsafe p fun q => { q with ramps := q.ramps ++ [⟨0, d.tick7, 1, 1⟩], ramped := q.ramped ||| mask }

/-! ### The pilot's drive (07 R161, R163, R164, R184) -/

/-- The current an AC port offers, in 0.1 A: its allocation within the override (07 R161). -/
def offer (d : Dev) (p : PortId) : Nat :=
  match d.overrideOf p with
  | some e => min e (d.nat (Key.allocatedCurrent p))
  | none => d.nat (Key.allocatedCurrent p)

/-- Does the port drive the digital 5 % duty: a high-level session of ISO 15118 is set up or runs (07 R163, R164)? -/
def digital (d : Dev) (p : PortId) : Bool :=
  !(d.port p).basic && ((d.port p).setupAt.isSome || decide ((d.port p).proto = some .iso2 ∨ (d.port p).proto = some .iso20))

/-- Does a port offer current on its pilot? -/
def offers (d : Dev) (p : PortId) : Bool :=
  match (d.port p).session with
  | .authorised | .closing | .energised | .stopping => true
  | _ => false

/-- The lower of the digital duty of 5 % and the duty the Firebreak override allows (07 R161; 13 R357): a limit below 6 A gives a steady high
pilot, and any other allows more than 5 %. The override of crossing 0x36 is an AC port's. -/
def digitalDuty (d : Dev) (p : PortId) : PilotOut :=
  if !d.isDc p && (d.overrideOf p).any fun e => e < 60 then .high else .pwm 400

/-- What the pilot of a port drives (07 R161, R164, R184; 13 R344, R357, R359): low in the safe state and without power, I7 or start-up; steady
high in state A and wherever no current is offered. -/
def pilotWanted (d : Dev) (p : PortId) : PilotOut :=
  if !d.powered || d.clocks.i7Lost || decide (d.power.bootStep < 7) || d.hasCause p 11 || (d.port p).safe then .low
  else if d.mode p = 0 ∨ (d.port p).pilot = .a ∨ (d.port p).session = .idle ∨ (d.port p).session = .ended ∨ (d.port p).session = .faulted ∨
      (d.port p).steadyTill.isSome then .high
  else if d.digital p then d.digitalDuty p
  else if d.offers p ∧ (!d.isDc p ∨ (d.port p).basic) then
    match dutyOf (d.offer p) with
    | some x => .pwm x
    | none => .high
  else .high

/-- The I7 cycles of a period of the pilot generators, and those of its high part (02 R49): 8,000,000 cycles a second corrected by the latest n1,
1,000 periods of them. Safety timers take no such correction. -/
def pilotCycles (d : Dev) (p : PortId) : Option (Nat × Nat) :=
  match (d.port p).cp with
  | .pwm duty => some (d.clocks.latestN1 / 1000, d.clocks.latestN1 / 1000 * duty / 8000)
  | _ => none

/-- Drive every pilot as its port wants. -/
def settle (d : Dev) : Dev := allPorts.foldl (fun d p => d.setPort p fun q => { q with cp := d.pilotWanted p }) d

/-! ### The lock (07 R166) -/

/-- Drive the lock towards locked: LOCK_FB must confirm within 500 ms of I7. -/
def lockOn (d : Dev) (p : PortId) : Dev :=
  if d.nat (Key.lockType p) = 0 then d
  else (d.setPort p fun q => { q with lock := .locking (d.tick7 + 500), drive := some (true, d.tick7) }).say (.lock p true)

/-- Release the lock. -/
def lockOff (d : Dev) (p : PortId) : Dev :=
  if d.nat (Key.lockType p) = 0 ∨ (d.port p).lock = .released then d.setPort p fun q => { q with lock := .released }
  else (d.setPort p fun q => { q with lock := .released, drive := some (false, d.tick7) }).say (.lock p false)

/-! ### Entering session states (07 R177, R180) -/

/-- Is a unit of the table *Units, out-of-service conditions and return* in service (17 R475)? -/
def unitIn (d : Dev) (u : Nat) : Bool := decide (d.nat (Key.serviceState u) = 0)

/-- The vehicle CAN controller of a port of the first four. -/
def canOf (d : Dev) (p : PortId) (st : CanState) : Dev :=
  if p.val < 4 then { d with hosts := { d.hosts with can := d.hosts.can.set (p.val % 4) st (by omega) } } else d

/-- Does the port run the CAN handshake of Annex A or B (07 R171)? -/
def annexPort (d : Dev) (p : PortId) : Bool := d.isDc p && decide (d.nat (Key.dcSystem p) ≠ 0)

/-- The high-level set-up of a session begins (07 R164, R171, R177): a port of the Annex handshake integrates to its CAN bus, any other starts
the 5 % duty when a high-level protocol is enabled; without a modem in service it goes by PWM. -/
def beginSetup (d : Dev) (p : PortId) : Dev :=
  if d.annexPort p then (if d.unitIn (0x10 + p) then d.canOf p .integrating else d)
  else if d.nat (Key.protocols p) = 0 then d
  else if d.unitIn (0x08 + p) then d.setPort p fun q => { q with setupAt := some d.nowMs }
  else d.setPort p fun q => { q with basic := true }

/-- What ends with every session, opened or not: the high-level session, the offer, the export stop and the start; the transceiver of CAN_p is in
standby until the next (07 R171). -/
def endSession (d : Dev) (p : PortId) : Dev :=
  let d := (d.canOf p .off).setPort p fun q => { q with
    proto := none, setupAt := none, steadyTill := none, basic := false, handshake := false, tls := false, tls13 := false, dynamic := false
    wants := false, exports := false, ev := ⟨0, 0, 0, 0, 0, 0⟩, start := false, exportStop := false, exportAlloc := 0, pausedAt := none,
    lowDraw := Vector.replicate 3 0, shed := Vector.replicate 3 false, safe := false, faultAfter := false, permission := false }
  let d := d.setPsafe p fun q => { q with ramps := [], ramped := 0, dropAt := none, zeroAt := none, follow := 0, history := [] }
  (d.putNat (Key.allocatedCurrent p) 0).putNat (Key.evTargetVoltage p) 0

/-- The powerline link of a port ends (07 R167). -/
def slacOff (d : Dev) (p : PortId) : Dev :=
  (d.setPort p fun q => { q with slac := .idle }).putBytes (Key.evMac p) (List.replicate 6 0)

/-- Enter ENDED with an end reason. The powerline link stands until the vehicle goes, but other ports answer the vehicle again (07 R167). -/
def enterEnded (d : Dev) (p : PortId) (reason : Nat) : Dev :=
  let d := (d.endSession p).setPort p fun q => { q with session := .ended, endReason := reason, evMatch := none }
  let d := d.putNat (Key.lastEndReason p) reason
  let d := { d with site := { d.site with allocateNow := true } }
  if (d.port p).opened then d else d.bindingLapsed p

/-- Enter FAULTED: the lock is released when the pilot is in state A, in Clearing only (07 R166). -/
def enterFaulted (d : Dev) (p : PortId) : Dev :=
  let d := (d.endSession p).setPort p fun q => { q with session := .faulted }
  let d := if (d.port p).pilot = .a ∧ !(d.port p).opened then d.lockOff p else d
  if (d.port p).opened then d else d.bindingLapsed p

/-- Enter IDLE: Clearing, pilot steady high, lock released, no start (07 R177, R180). -/
def enterIdle (d : Dev) (p : PortId) : Dev :=
  let d := ((d.endSession p).slacOff p).lockOff p
  let d := d.setPort p fun q => { q with session := .idle, evMatch := none }
  (d.putNat (Key.cableRating p) 0).bindingLapsed p

/-- A level 3 start is placed: it releases an earlier stop and the export stop (07 R170, R180; 06 R157). -/
def placeStart (d : Dev) (p : PortId) : Dev := d.setPort p fun q => { q with start := true, stop := none, exportStop := false }

/-- Enter AUTHORISED (07 R177, R180; 13 R340): AutoStart places the start; the allocator is asked to run. -/
def enterAuthorised (d : Dev) (p : PortId) : Dev :=
  let d := d.setPort p fun q => { q with session := .authorised, authorisedAt := d.nowMs, allocChangedAt := 0, exportChangedAt := 0 }
  let d := { d with site := { d.site with allocateNow := true } }
  let d := d.setPsafe p fun q => { q with isoPassed := false, authTick := d.tick7 }
  if d.flag (Key.autoStart p) then d.placeStart p else d

/-- Enter IDENTIFYING (07 R177), from ENDED with a set-up of its own; a port in OFF stays in Clearing where it is (07 R159). A match that still
stands holds for the new session. -/
def enterIdentifying (d : Dev) (p : PortId) : Dev :=
  if d.mode p = 0 then d
  else
    let again := decide ((d.port p).session = .ended)
    let d := d.setPort p fun q => { q with session := .identifying, evMatch := match q.slac with | .matched mac => some mac | _ => q.evMatch }
    if again then d.beginSetup p else d

/-- A level 3 stop with an end reason: before CLOSING it ends the session at once; later the arbiter ramps down (07 R177, R180). -/
def placeStop (d : Dev) (p : PortId) (reason : Nat) : Dev :=
  let d := d.setPort p fun q => { q with stop := some reason, start := false }
  match (d.port p).session with
  | .identifying | .authorised => d.enterEnded p reason
  | _ => d

/-- A stop of the vehicle or of the session logic (07 R177): as a level 3 stop, but before CLOSING it leaves no stop in force. -/
def sessionStop (d : Dev) (p : PortId) (reason : Nat) : Dev :=
  match (d.port p).session with
  | .identifying | .authorised => d.enterEnded p reason
  | .closing | .energised => d.setPort p fun q => { q with stop := some ((q.stop).getD reason) }
  | _ => d

/-! ### Contactors (01 R37; 07 R178; 13 R347 to R351) -/

/-- Drop both enable halves: OPENING, for at most 194 ticks (07 R177). -/
def drop (d : Dev) (p : PortId) : Dev :=
  let d := d.setPsafe p fun q => { q with
    enA := false, enB := false, dropAt := none, zeroAt := none, closingAt := none, openingAt := some d.tick7, ramps := [] }
  d.setPort p fun q => { q with session := .opening }

/-- Drop at once with an end reason, unless a stop has given one already. -/
def dropFor (d : Dev) (p : PortId) (reason : Nat) : Dev :=
  let d := match (d.port p).session with
    | .closing | .energised => d.setPort p fun q => { q with endReason := reason }
    | _ => d
  d.drop p

/-- Every port whose enables are high opens at once (13 R331, R338 bit 18; 02, loss of I7). -/
def dropAll (d : Dev) (reason : Nat) : Dev :=
  allPorts.foldl (fun d p => if (d.psafe p).enA || (d.psafe p).enB then d.dropFor p reason else d) d

/-- Both feedbacks confirm opening: the session closes; the port is ENDED, or FAULTED when a fault ended it (07 R177, R178). -/
def opened (d : Dev) (p : PortId) : Dev :=
  let reason := (d.port p).endReason
  let fault := (d.port p).faultAfter
  let d := if (d.port p).opened then (d.setPort p fun q => { q with opened := false }).sessionClosed p else d
  if fault then (d.enterFaulted p).putNat (Key.lastEndReason p) reason else d.enterEnded p reason

/-- A contactor fault: bits of 0x6310+p.09, bit 14, counted (13 R347 to R349). The session goes to FAULTED. -/
def contactorFailed (d : Dev) (p : PortId) (bits : Nat) : Dev :=
  let d := d.putNat (Key.contactorFault p) (d.nat (Key.contactorFault p) ||| bits)
  let d := (d.bump Key.contactorFaultCount).setPsafe p fun q => { q with cleared := false }
  (d.setPort p fun q => { q with faultAfter := true }).raiseCause [p] 14 bits

/-- A pilot fault (07 R162; 13 R344): after CONNECTED bit 11, the safe state, and FAULTED once the contactors are open. -/
def pilotFault (d : Dev) (p : PortId) : Dev :=
  if (d.port p).session = .idle then d
  else
  let d := d.bump (Key.pilotFaultCount p)
  match (d.port p).session with
  | .closing | .energised | .stopping | .opening =>
    (d.setPort p fun q => { q with faultAfter := true }).raiseCause [p] 11 0
  | .faulted => d.raiseCause [p] 11 0
  | _ => ((d.raiseCause [p] 11 0).putNat (Key.lastEndReason p) 3).enterFaulted p

/-! ### Carrying set (07 R176) -/

/-- Is module m in a port's ModuleMask? -/
def hasModule (d : Dev) (p : PortId) (m : Fin 16) : Bool := (d.nat (Key.moduleMask p)).testBit m

/-- Modules of a port's ModuleMask. -/
def modulesOf (d : Dev) (p : PortId) : List (Fin 16) := (List.finRange 16).filter fun m => d.hasModule p m

/-- The DC port a module is assigned to. -/
def portOfModule (d : Dev) (m : Fin 16) : Option PortId := allPorts.find? fun p => d.isDc p && d.hasModule p m

/-- Does the port export (07 R176; 13 R353)? -/
def exporting (d : Dev) (p : PortId) : Bool :=
  decide ((d.port p).session = .energised) && (d.port p).exports

/-- The carrying set: present and not lost; while the port exports, bidirectional only. -/
def carrying (d : Dev) (p : PortId) : List (Fin 16) :=
  (d.modulesOf p).filter fun m =>
    d.flag (Key.modulePresent m) && !(d.modules[m]).lost && !(d.modules[m]).waiting && (!(d.port p).exports || (d.modules[m]).bidirectional)

/-- Sum of the STATUS currents of a port's modules (0x2p10.13). -/
def moduleSum (d : Dev) (p : PortId) : Int := isum ((d.modulesOf p).map fun m => (d.modules[m]).current)

/-- Does every module of the port report less than 1.0 A (13 R353, R359)? -/
def modulesDown (d : Dev) (p : PortId) : Bool := (d.modulesOf p).all fun m => decide ((d.modules[m]).current.natAbs < 10)

/-- The engine that serves a port, if one does and runs (07 R180). -/
def served (d : Dev) (p : PortId) : Bool :=
  decide (d.nat (Key.servingEngine p) ≤ 3) && d.running (peCore (d.nat (Key.servingEngine p)))

end Dev
end Sys2Proof.Machine
end

