-- ==== Sys2Proof/Machine/Ports.lean ====
section
/-! DEFINITION. Charging ports: pilot, proximity, lock, commands of hosts, contactors, migration (07 R159 to R166, R177 to R180, R184 to
R186; 13 R344, R347 to R350). -/

namespace Sys2Proof.Machine

/-! ### Pilot and proximity (07 R162, R165) -/

/-- The pilot state of a high and a low plateau in mV, and how many consecutive periods it needs (07 R162): none while the device
drives low and reads its own level. -/
def pilotOf (drive : PilotOut) (high low : Int) : Option (Pilot × Nat) :=
  let pwm : Bool := match drive with | .pwm _ => true | _ => false
  if high < -10500 then (if drive = .low then none else some (.f, 2))
  else
    let band : Pilot :=
      if 10500 ≤ high ∧ high ≤ 13500 then .a
      else if 7500 ≤ high ∧ high < 10500 then .b
      else if 4500 ≤ high ∧ high < 7500 then .c
      else if 1500 ≤ high ∧ high < 4500 then .d
      else if -1500 ≤ high ∧ high < 1500 then .e
      else .unknown
    match band with
    | .b | .c | .d => if pwm ∧ (low < -13000 ∨ -11000 < low) then some (.diode, 2) else some (band, 3)
    | .a => some (.a, 3)
    | _ => some (band, 2)

/-- The cable rating in 0.1 A of a proximity ratio in thousandths: 0xFFFF a short, 0 no cable (07 R165). -/
def cableOf (r : Nat) : Nat :=
  if r < 60 then 0xFFFF else if r < 130 then 630 else if r < 280 then 320 else if r < 500 then 200 else if r ≤ 780 then 130 else 0

namespace Dev

/-- The vehicle is detected: CONNECTED (07 R177). A short, or no cable at a coded socket, is a proximity fault. -/
def connect (d : Dev) (p : PortId) (ratio : Nat) : Dev :=
  let rating := if d.flag (Key.proximityMode p) then d.nat (Key.fixedCableRating p) else cableOf ratio
  let d := (d.putNat (Key.cableRating p) rating).setPort p fun q => { q with session := .connected }
  if rating = 0 ∨ rating = 0xFFFF then (d.putNat (Key.lastEndReason p) 3).enterFaulted p
  else
    let d := d.beginSetup p
    if d.nat (Key.lockType p) = 0 then d.enterIdentifying p else d.lockOn p

/-- The pilot was accepted in state A: unplugged (07 R177). -/
def unplugged (d : Dev) (p : PortId) : Dev :=
  match (d.port p).session with
  | .connected => d.enterIdle p
  | .identifying | .authorised => d.enterEnded p 5
  | .closing | .energised => d.sessionStop p 5
  | _ => d

/-- An accepted pilot state drives the session (07 R162, R177). -/
def pilotAccepted (d : Dev) (p : PortId) (st : Pilot) (ratio : Nat) : Dev :=
  let d := d.setPort p fun q => { q with pilot := st, pilotAt := d.tick7 }
  match st with
  | .a => d.unplugged p
  | .e | .f | .unknown | .diode => d.pilotFault p
  | .b | .c | .d =>
    if st = .d ∧ !d.flag (Key.ventilationAvailable p) then d.pilotFault p
    else match (d.port p).session with
      | .idle => if d.mode p = 0 then d else d.connect p ratio
      | .closing | .energised => if st = .b ∧ (d.port p).pausedAt = none then d.sessionStop p 0 else d
      | _ => d

end Dev

/-- PILOT_STATE_ACCEPTED (07 R162): `periods` consecutive periods gave these plateaus; `ratio` is the proximity in thousandths. -/
def pilotStateAccepted (p : PortId) (high low : Int) (periods ratio : Nat) (d : Dev) : Dev :=
  if !d.powered || d.clocks.i7Lost || decide (d.power.bootStep < 7) then d
  else
    let d := ((d.putInt (Key.pilotHigh p) high).putInt (Key.pilotLow p) low).setPort p fun q => { q with prox := ratio }
    match pilotOf (d.port p).cp high low with
    | none => d
    | some (st, n) => if periods < n ∨ st = (d.port p).pilot then d else (d.pilotAccepted p st ratio).settle

def execPilotStateAccepted (p : PortId) (high low : Int) (periods ratio : Nat) (s : State) : Out3 State :=
  s.onDev (pilotStateAccepted p high low periods ratio)

namespace Dev

/-- No high-level session came up, or it failed before AUTHORISED: basic charging by PWM when AuthModes bit 2 allows it, otherwise the
session ends with reason 6 (07 R164). -/
def hlcFallback (d : Dev) (p : PortId) : Dev :=
  if (d.nat (Key.authModes p)).testBit 2 then
    d.setPort p fun q => { q with
      setupAt := none, proto := none, tls := false, handshake := false, basic := true, steadyTill := some (d.nowMs + 3000) }
  else d.enterEnded p 6

/-- A high-level session failed (07 R164, R177). -/
def hlcFailed (d : Dev) (p : PortId) : Dev :=
  match (d.port p).session with
  | .connected | .identifying => d.hlcFallback p
  | .authorised => d.enterEnded p 6
  | .closing | .energised => d.sessionStop p 6
  | _ => d

end Dev

/-- HLC_SETUP_TIMEOUT (07 R164): 10 s after entering 5 % duty. -/
def hlcSetupTimeout (p : PortId) (d : Dev) : Dev :=
  match (d.port p).setupAt with
  | some t =>
    if d.powered ∧ t + 10000 ≤ d.nowMs ∧ ((d.port p).session = .connected ∨ (d.port p).session = .identifying) then
      (d.hlcFallback p).settle
    else d
  | none => d

def execHlcSetupTimeout (p : PortId) (s : State) : Out3 State := s.onDev (hlcSetupTimeout p)

/-- STEADY_HIGH_END (07 R164). -/
def steadyHighEnd (p : PortId) (d : Dev) : Dev :=
  match (d.port p).steadyTill with
  | some t => if d.powered ∧ t ≤ d.nowMs then (d.setPort p fun q => { q with steadyTill := none }).settle else d
  | none => d

def execSteadyHighEnd (p : PortId) (s : State) : Out3 State := s.onDev (steadyHighEnd p)

/-- PROXIMITY_BAND_CHANGE (07 R165; 13 R344): during a session, handled as a pilot fault. -/
def proximityBandChange (p : PortId) (ratio : Nat) (d : Dev) : Dev :=
  let d : Dev := if d.powered ∧ !d.clocks.i7Lost then d.setPort p fun q => { q with prox := ratio } else d
  let s := (d.port p).session.num
  if d.powered ∧ !d.clocks.i7Lost ∧ !d.flag (Key.proximityMode p) ∧ 1 ≤ s ∧ s ≤ 7 ∧ cableOf ratio ≠ d.nat (Key.cableRating p) then
    (d.pilotFault p).settle
  else d

def execProximityBandChange (p : PortId) (ratio : Nat) (s : State) : Out3 State := s.onDev (proximityBandChange p ratio)

/-! ### The lock (07 R166) -/

/-- LOCK_CONFIRMED: in CONNECTED the session moves to IDENTIFYING. -/
def lockConfirmed (p : PortId) (d : Dev) : Dev :=
  match (d.port p).lock with
  | .locking _ =>
    if !d.powered || d.clocks.i7Lost then d
    else
      let d := d.setPort p fun q => { q with lock := .locked }
      if (d.port p).session = .connected then (d.enterIdentifying p).settle else d
  | _ => d

def execLockConfirmed (p : PortId) (s : State) : Out3 State := s.onDev (lockConfirmed p)

/-- LOCK_TIMEOUT: 500 ms of I7 after the start of the drive. -/
def lockTimeout (p : PortId) (d : Dev) : Dev :=
  match (d.port p).lock with
  | .locking t =>
    if d.powered ∧ t ≤ d.tick7 then
      let d := d.setPort p fun q => { q with lock := .fault }
      if (d.port p).session = .connected then ((d.putNat (Key.lastEndReason p) 3).enterFaulted p).settle else d
    else d
  | _ => d

def execLockTimeout (p : PortId) (s : State) : Out3 State := s.onDev (lockTimeout p)

/-- UNLOCK (07 R166): only in Clearing. -/
def unlockServe (p : PortId) (a : Ack) (_ : Val) (d : Dev) : Dev :=
    if d.clearing p then (d.lockOff p).ok a else d.abort a Code.notClearing

def execUnlock (m : HostMsg) (p : PortId) (data : Bytes) (s : State) : Out3 State := s.onDev (cmdWrite m (Key.unlock p) false data (unlockServe p))

/-! ### Start and stop (07 R170, R180; 06 R156, R157) -/

/-- What refuses a Start (07 R180; 03 R80; 05 R135). -/
def startFault (d : Dev) (p : PortId) : Option Nat :=
  if d.heart.sealBroken ≠ 0 then some Code.sealBroken
  else if d.causes p ≠ 0 ∨ (d.port p).level2 then some Code.higherDemand
  else if d.mode p = 0 then some Code.modeUnsupported
  else if !d.served p then some Code.outOfService
  else none

/-- PORT_START (07 R180): a level 3 start from the next tick boundary. -/
def portStartServe (p : PortId) (a : Ack) (_ : Val) (d : Dev) : Dev :=
    match startFault d p with
    | some c => d.abort a c
    | none => d.enqueue (.start a p)

def execPortStart (m : HostMsg) (p : PortId) (data : Bytes) (s : State) : Out3 State := s.onDev (cmdWrite m (Key.portStart p) false data (portStartServe p))

/-- PORT_STOP (07 R180): stop-class. -/
def portStopServe (p : PortId) (a : Ack) (_ : Val) (d : Dev) : Dev := d.enqueue (.stop a p)

def execPortStop (m : HostMsg) (p : PortId) (data : Bytes) (s : State) : Out3 State := s.onDev (cmdWrite m (Key.portStop p) true data (portStopServe p))

/-- EXPORT_STOP (07 R170): stop-class; 0 A offered for export from the next tick boundary. -/
def exportStopServe (p : PortId) (a : Ack) (_ : Val) (d : Dev) : Dev := d.enqueue (.exportStop a p)

def execExportStop (m : HostMsg) (p : PortId) (data : Bytes) (s : State) : Out3 State := s.onDev (cmdWrite m (Key.exportStop p) true data (exportStopServe p))

/-- A start at the tick boundary (06 R157; 07 R177, R180): it also calls an ENDED port back to IDENTIFYING. -/
def Dev.applyStart (d : Dev) (p : PortId) : Dev :=
  let d := d.placeStart p
  if d.mode p ≠ 0 ∧ (d.port p).session = .ended ∧ (d.port p).pilot ≠ .a ∧ !(d.port p).opened then d.enterIdentifying p else d

/-- An export stop at the tick boundary (07 R170). -/
def Dev.applyExportStop (d : Dev) (p : PortId) : Dev :=
  d.setPort p fun q => { q with exportStop := true, exportAlloc := 0 }

/-! ### Contactors (07 R177; 13 R347 to R351) -/

/-- The greatest rms of VL1 to VL3 of a port over the last period, in mV. -/
def Dev.portVolts (d : Dev) (p : PortId) : Nat :=
  max (d.nat (Key.rmsLastPeriod (4 + 8 * p))) (max (d.nat (Key.rmsLastPeriod (5 + 8 * p))) (d.nat (Key.rmsLastPeriod (6 + 8 * p))))

/-- CLOSING_TIMEOUT (13 R347): 97 ticks after the enables rose, the contactor that did not close is named; OPENING. -/
def closingTimeout (p : PortId) (d : Dev) : Dev :=
  match (d.psafe p).closingAt with
  | some t =>
    if (d.port p).session = .closing ∧ t + 97 ≤ d.tick7 ∧ !((d.psafe p).fbA && (d.psafe p).fbB) then
      let bits := (if (d.psafe p).fbA then 0 else 4) + (if (d.psafe p).fbB then 0 else 8)
      ((d.contactorFailed p bits).dropFor p 3).settle
    else d
  | none => d

def execClosingTimeout (p : PortId) (s : State) : Out3 State := s.onDev (closingTimeout p)

/-- OPENING_TIMEOUT (13 R348): 194 ticks after the open command, a contactor that reads closed is welded; on an AC port 50 V or more
counts whatever the feedback shows. -/
def openingTimeout (p : PortId) (d : Dev) : Dev :=
  match (d.psafe p).openingAt with
  | some t =>
    if t + 194 ≤ d.tick7 then
      let d := d.setPsafe p fun q => { q with openingAt := none }
      let bits := (if (d.psafe p).fbA then 1 else 0) + (if (d.psafe p).fbB then 2 else 0) +
        (if !d.isDc p ∧ 50000 ≤ d.portVolts p then 32 else 0)
      if bits = 0 then d
      else
        let reason := (d.port p).endReason
        (((d.contactorFailed p bits).putNat (Key.lastEndReason p) reason).enterFaulted p).settle
    else d
  | none => d

def execOpeningTimeout (p : PortId) (s : State) : Out3 State := s.onDev (openingTimeout p)

/-- CONTACTOR_FEEDBACK_CHANGE (01 R37; 07 R177; 13 R349): the filtered feedbacks read `a` and `b`. -/
def contactorFeedbackChange (p : PortId) (a b : Bool) (d : Dev) : Dev :=
  if !d.powered || d.clocks.i7Lost then d
  else
    let d := d.setPsafe p fun q => { q with fbA := a, fbB := b }
    match (d.port p).session with
    | .closing =>
      if a && b then
        let d := (d.setPort p fun q => { q with session := .energised }).putNat (Key.energisedSince p) d.nowUs
        (d.setPsafe p fun q => { q with closingAt := none }).settle
      else d
    | .energised | .stopping =>
      if ((d.psafe p).enA && !a) || ((d.psafe p).enB && !b) then ((d.contactorFailed p 16).dropFor p 3).settle else d
    | .opening => if a || b then d else (d.opened p).settle
    | .faulted =>
      if a || b || !(d.port p).opened then d else (d.setPort p fun q => { q with opened := false }).sessionClosed p
    | _ => d

def execContactorFeedbackChange (p : PortId) (a b : Bool) (s : State) : Out3 State := s.onDev (contactorFeedbackChange p a b)

/-- STOP_WAIT_TIMEOUT (07 R179): 3,000 ms in AC, 100 ms in DC, after the envelope reached zero. -/
def stopWaitTimeout (p : PortId) (d : Dev) : Dev :=
  match (d.psafe p).zeroAt with
  | some t =>
    if (d.port p).session = .stopping ∧ t + (if d.isDc p then 100 else 3000) ≤ d.tick7 then (d.drop p).settle else d
  | none => d

def execStopWaitTimeout (p : PortId) (s : State) : Out3 State := s.onDev (stopWaitTimeout p)

/-- PILOT_A_IDLE (07 R177; 13 R344): the pilot has been accepted in A for 1 s; bit 11 goes, and an ENDED port, or a FAULTED one whose
contactor fault is gone, returns to IDLE. -/
def pilotAIdle (p : PortId) (d : Dev) : Dev :=
  if d.powered ∧ (d.port p).pilot = .a ∧ (d.port p).pilotAt + 1000 ≤ d.tick7 then
    let d := d.releaseCause [p] 11 0
    match (d.port p).session with
    | .ended => if (d.port p).opened then d.settle else (d.enterIdle p).settle
    | .faulted => if d.hasCause p 14 ∨ (d.port p).opened then d.settle else (d.enterIdle p).settle
    | _ => d.settle
  else d

def execPilotAIdle (p : PortId) (s : State) : Out3 State := s.onDev (pilotAIdle p)

/-! ### Permission, external load, pause, migration -/

/-- PERMISSION_INPUT_CHANGE (07 R171): the Annex A permission input, filtered over 10 ms. -/
def permissionInputChange (p : PortId) (level : Bool) (d : Dev) : Dev :=
  if d.powered ∧ !d.clocks.i7Lost ∧ d.isDc p ∧ d.nat (Key.dcSystem p) = 1 then
    let d := d.setPort p fun q => { q with permission := level }
    if level then d else (d.sessionStop p 0).settle
  else d

def execPermissionInputChange (p : PortId) (level : Bool) (s : State) : Out3 State := s.onDev (permissionInputChange p level)

/-- EXTERNAL_LOAD_TIMEOUT (07 R183): the fallback applies, and AllocatorFlags bit 0 is set. -/
def externalLoadTimeout (d : Dev) : Dev :=
  if d.sequencerUp ∧ d.site.externalAt + 1000 * d.nat Key.externalLoadTimeoutS ≤ d.nowMs then
    d.putNat Key.allocatorFlags (setBit (d.nat Key.allocatorFlags) 0 true)
  else d

def execExternalLoadTimeout (s : State) : Out3 State := s.onDev externalLoadTimeout

/-- PAUSE_TIMEOUT (07 R184): paused for 600 s, stopped at level 3 with end reason 9. -/
def pauseTimeout (p : PortId) (d : Dev) : Dev :=
  match (d.port p).pausedAt with
  | some t =>
    if d.powered ∧ t + 600000 ≤ d.nowMs then ((d.setPort p fun q => { q with pausedAt := none }).placeStop p 9).settle else d
  | none => d

def execPauseTimeout (p : PortId) (s : State) : Out3 State := s.onDev (pauseTimeout p)

/-- A session-safe point of a port (07 R185). -/
def safePoint (d : Dev) (p : PortId) : Bool :=
  let q := d.port p
  decide (q.session ≠ .closing ∧ q.session ≠ .opening) && !q.handshake &&
    (match q.slac with | .sounding _ _ => false | _ => true)

/-- MIGRATION (07 R186): at a session-safe point a requested migration moves the port to the partner engine; crossings keep their
entries, pilot and Annex frames go on. -/
def migration (p : PortId) (d : Dev) : Dev :=
  match (d.port p).migrateTo with
  | some e =>
    if d.powered ∧ safePoint d p ∧ d.running (peCore e) then
      let d := d.setPort p fun q => { q with migrateTo := none }
      (d.putNat (Key.servingEngine p) e).bump (Key.migrationCount p)
    else d
  | none => d

def execMigration (p : PortId) (s : State) : Out3 State := s.onDev (migration p)

end Sys2Proof.Machine
end

