-- ==== Sys2Proof/Machine/Modules.lean ====
section
/-! DEFINITION. CAN4 and the converter modules (07 R172 to R176). -/

namespace Sys2Proof.Machine

/-- A CAN4 frame: bytes 0 to 6 and their CRC-8 with the low identifier byte as initial value (07 R172). -/
def can4Frame (id : Nat) (body : Bytes) : Out :=
  .can4 id (body ++ leBytes 1 (crc 8 0x07 (id % 256) false 0 body))

/-- Number of bits set in a mask of 16. -/
def popcount16 (m : Nat) : Nat := ((List.range 16).filter fun i => m.testBit i).length

namespace Dev

/-- Change a module. -/
def setModule (d : Dev) (m : Fin 16) (f : Module → Module) : Dev := { d with modules := vmod d.modules m f }

/-- The seven bytes of a CAN4 frame pass engine 12, which counts a check that differs (15 R415, table *Users*). -/
def can4Covered (d : Dev) (good : Bool) : Dev :=
  let d := d.bump (Key.bytesCovered 12) 7
  if good then d else d.bump (Key.mismatchCount 12)

/-- A CAN4 frame goes out (07 R172). -/
def sayCan4 (d : Dev) (id : Nat) (body : Bytes) : Dev := (d.can4Covered true).say (can4Frame id body)

/-- Does CAN4 carry frames: I4 runs, the controller is in service and integrated (02; 06 R141; 17 R475)? -/
def can4Up (d : Dev) : Bool :=
  d.powered && !d.clocks.ref25Lost && d.unitIn 0x14 && decide (d.hosts.can[4] = .errorActive ∨ d.hosts.can[4] = .errorPassive)

/-- Frames to the modules cross on 0x26, frames from them on 0x20 (02 R56, R57). -/
def can4Out (d : Dev) : Bool := d.can4Up && d.passes 0x26
def can4In (d : Dev) : Bool := d.can4Up && d.passes 0x20

/-- Has the I4 period of `ms` since an instant passed? Without I1 nothing but I4 itself counts it, and its event says so (02 R45). -/
def due4 (d : Dev) (last : Option Nat) (ms : Nat) : Bool := d.clocks.ref16Lost || last.all fun t => decide (t + ms ≤ d.nowMs + 1)

/-- STOP_ALL, three copies 1 ms apart (07 R172): reasons 1 power fail, 2 grid loss, 3 safety. -/
def stopAllModules (d : Dev) (reason : Nat) : Dev :=
  if d.can4Out then
    let b := leBytes 1 reason ++ List.replicate 6 0
    ((d.sayCan4 0x010 b).sayCan4 0x010 b).sayCan4 0x010 b
  else d

/-- Word p of the safety setpoint slot as I4 holds it: none while no envelope is in force (07 R174). -/
def slotOf (d : Dev) (p : Nat) : Option Nat :=
  match d.crossings[0x28].entries with
  | w :: _ => let x := (w.getD p 0).toNat; if x.testBit 31 then some (x % 65536) else none
  | [] => none

/-- The lower of the vehicle's maximum voltage and DcMaxVoltage, in 0.1 V: U of the isolation test (13 R341). -/
def testVoltage (d : Dev) (p : PortId) : Nat :=
  let v := (d.port p).ev.maxVoltage
  if v = 0 then d.nat (Key.dcMaxVoltage p) else min v (d.nat (Key.dcMaxVoltage p))

/-- Mode, voltage and current the port engine asks of a module (07 R172, R176, R177, R184): 0 STOP, 1 VOLTAGE for isolation test and
precharge, 2 CHARGE, 3 EXPORT. Under dynamic control the device sets the current within the vehicle's limits (07 R168). -/
def moduleWish (d : Dev) (p : PortId) (m : Fin 16) : Nat × Nat × Int :=
  let q := d.port p
  let set := d.carrying p
  if !set.contains m || q.pausedAt.isSome then (0, 0, 0)
  else if q.session ≠ .energised ∧ q.session ≠ .stopping then (0, 0, 0)
  else if d.flag (Key.imdEnable p) ∧ !(d.psafe p).isoPassed then (1, d.testVoltage p, 20)
  else if !q.wants then (1, min (d.nat (Key.evTargetVoltage p)) (d.nat (Key.dcMaxVoltage p)), 20)
  else
    let share (x : Nat) : Nat := min x (d.nat (Key.dcMaxCurrent p)) / set.length
    let asked : Nat := if q.dynamic then (if q.exports then q.ev.maxExport else q.ev.maxDcCurrent) else q.ev.targetCurrent.natAbs
    let v := min (d.nat (Key.evTargetVoltage p)) (d.nat (Key.dcMaxVoltage p))
    if q.exports then (3, v, -(share (min q.exportAlloc asked) : Int))
    else (2, v, (share (min (d.nat (Key.allocatedCurrent p)) asked) : Int))

end Dev

/-- The I4 clamp of R174: with an envelope, at most its share of the modules in ModuleMask, rounded down; at 0 Mode 0. A stale slot
means Mode 0. Answers mode, current and Clamped. -/
def clampSetpoint (stale : Bool) (slot : Option Nat) (count mode : Nat) (current : Int) : Nat × Int × Bool :=
  if stale then (0, 0, true)
  else match slot with
    | none => (mode, current, false)
    | some e =>
      let lim : Int := (e / count : Nat)
      (if e = 0 then 0 else mode, max (-lim) (min lim current), true)

/-- SETPOINT (07 R172, R174, R176): every 10 ms ±0.5 ms I4 sends one to each module of a DC port's ModuleMask. -/
def setpoint (m : Fin 16) (d : Dev) : Dev :=
  match d.portOfModule m with
  | none => d
  | some p =>
    if d.can4Out ∧ d.due4 (d.modules[m]).setpointAt 10 then
      let (mode, v, i) := d.moduleWish p m
      let count := popcount16 (d.nat (Key.moduleMask p))
      let (mode, i, clamped) := clampSetpoint d.crossings[0x28].stale (d.slotOf p) count mode i
      let alive := ((d.modules[m]).alive + 1) % 16
      let body := leBytes 1 (mode + 16 * alive) ++ leBytes 1 (if clamped then 1 else 0) ++ leBytes 2 (if mode = 0 then 0 else v) ++
        leBytes 2 (ofSigned 16 (if mode = 0 then 0 else i)) ++ [0]
      let d := d.setModule m fun x => { x with alive := alive, missing := satAdd 8 x.missing 1, setpointAt := some d.nowMs }
      d.sayCan4 (0x100 + m) body
    else d

def execSetpoint (m : Fin 16) (s : State) : Out3 State := s.onDev (setpoint m)

/-- CONFIG (07 R172): on assignment, and every 1,000 ms; it counts the carrying set. -/
def configModule (m : Fin 16) (d : Dev) : Dev :=
  if d.can4Out ∧ d.due4 (d.modules[m]).configAt 1000 then
    let body : Bytes := match d.portOfModule m with
      | some p =>
        let n := (d.carrying p).length
        leBytes 1 p ++ leBytes 1 n ++ leBytes 2 (d.nat (Key.dcMaxVoltage p)) ++
          leBytes 2 (if n = 0 then 0 else d.nat (Key.dcMaxCurrent p) / n) ++ [0]
      | none => leBytes 1 0xFF ++ List.replicate 6 0
    (d.setModule m fun x => { x with configAt := some d.nowMs }).sayCan4 (0x600 + m) body
  else d

def execConfig (m : Fin 16) (s : State) : Out3 State := s.onDev (configModule m)

namespace Dev

/-- A module left the carrying set: when none remains, the running session stops at level 3 with end reason 8 (07 R176). -/
def carryingShrunk (d : Dev) (m : Fin 16) : Dev :=
  match d.portOfModule m with
  | some p => if d.carrying p = [] ∧ !d.clearing p then d.placeStop p 8 else d
  | none => d

/-- A present module is lost: logged with its last faults, counted (07 R176). -/
def loseModule (d : Dev) (m : Fin 16) : Dev :=
  if (d.modules[m]).lost || !d.flag (Key.modulePresent m) then d
  else match d.portOfModule m with
    | none => d
    | some p =>
      let d := d.setModule m fun x => { x with lost := true, good := 0 }
      let d := (d.bump (Key.moduleLossCount p)).general (.note 1 [m, d.int (Key.moduleFaults m)])
      d.carryingShrunk m

end Dev

/-- STATUS (07 R172, R176): a frame whose CRC fails is discarded. -/
def statusFrame (m : Fin 16) (f : StatusFrame) (d : Dev) : Dev :=
  if !d.can4In then d
  else if !f.crcOk then d.can4Covered false
  else
    let d := d.can4Covered true
    let d := d.setModule m fun x => { x with
      modeNow := f.modeNow, echo := f.alive, missing := 0, voltage := f.voltage.toNat, current := toSigned 16 f.current.toNat,
      temp := toSigned 8 f.temp.toNat }
    let d := (d.putNat (Key.moduleState m) (min f.modeNow 3)).putNat (Key.moduleFaults m) (f.faults.toNat % 128)
    let x := d.modules[m]
    let lag := (x.alive + 16 - x.echo) % 16
    let bad := decide (f.faults.toNat &&& 0x0E ≠ 0)
    if x.lost then
      if bad ∨ lag ≠ 0 then d.setModule m fun x => { x with good := 0 }
      else if x.good + 1 < 3 then d.setModule m fun x => { x with good := x.good + 1 }
      else d.setModule m fun x => { x with lost := false, waiting := true, good := 0 }
    else if bad ∨ 2 < lag then (d.loseModule m).settle
    else d

def execStatus (m : Fin 16) (f : StatusFrame) (s : State) : Out3 State := s.onDev (statusFrame m f)

/-- IDENT (07 R172, R176): the module is present. -/
def identFrame (m : Fin 16) (f : IdentFrame) (d : Dev) : Dev :=
  if !d.can4In then d
  else if !f.crcOk then d.can4Covered false
  else
    let d := d.can4Covered true
    let d := d.setModule m fun x => { x with
      identAt := some d.nowMs, bidirectional := f.modType.getLsbD 0, protocol := f.protocol.toNat }
    (d.putFlag (Key.modulePresent m) true).putNat (Key.moduleRatedCurrent m) f.current.toNat

def execIdent (m : Fin 16) (f : IdentFrame) (s : State) : Out3 State := s.onDev (identFrame m f)

/-- MODULE_PRESENCE_TIMEOUT (07 R176): no IDENT for 3 s. -/
def modulePresenceTimeout (m : Fin 16) (d : Dev) : Dev :=
  match (d.modules[m]).identAt with
  | some t =>
    if d.powered ∧ t + 3000 ≤ d.nowMs then
      let d := d.setModule m fun x => { x with identAt := none, lost := false, waiting := false, good := 0 }
      ((d.putFlag (Key.modulePresent m) false).carryingShrunk m).settle
    else d
  | none => d

def execModulePresenceTimeout (m : Fin 16) (s : State) : Out3 State := s.onDev (modulePresenceTimeout m)

/-- STATUS_MISSING (07 R176): three consecutive SETPOINTs were not answered. -/
def statusMissing (m : Fin 16) (d : Dev) : Dev := if d.powered ∧ 3 ≤ (d.modules[m]).missing then (d.loseModule m).settle else d

def execStatusMissing (m : Fin 16) (s : State) : Out3 State := s.onDev (statusMissing m)

/-- CONVERTER_STOP_TIMEOUT (07 R175; 02 R45): 60 ms of I7 after I4 stopped, Firebreak drops the enables of every DC port. -/
def converterStopTimeout (d : Dev) : Dev :=
  match d.site.can4SilentAt with
  | some t =>
    if d.powered ∧ t + 60 ≤ d.tick7 then
      let d := { d with site := { d.site with can4SilentAt := none } }
      (Dev.allPorts.foldl (fun d p => if d.isDc p && ((d.psafe p).enA || (d.psafe p).enB) then d.dropFor p 3 else d) d).settle
    else d
  | none => d

def execConverterStopTimeout (s : State) : Out3 State := s.onDev converterStopTimeout

end Sys2Proof.Machine
end

