-- ==== Sys2Proof/Machine/Allocator.lean ====
section
/-! DEFINITION. The site allocator (07 R181 to R184). Site phases are numbered 0 to 2; currents are in 0.1 A. -/

namespace Sys2Proof.Machine

/-- Site phases on the port's L1, L2, L3 for a PhaseRotation (07, 0x2p00.03). -/
def rotation : Nat → List (Fin 3)
  | 0 => [0, 1, 2] | 1 => [1, 2, 0] | 2 => [2, 0, 1] | 3 => [0, 2, 1] | 4 => [1, 0, 2] | _ => [2, 1, 0]

/-- Currents per site phase, in 0.1 A. -/
abbrev PerPhase := Vector Nat 3

/-- A port as the allocator counts it: the site phases a step counts on; minimum, cap and what is given, per site phase; and whether the minimum
was given. -/
structure Claim where
  port  : PortId
  on    : List (Fin 3)
  least : PerPhase
  cap   : PerPhase
  given : PerPhase
  served : Bool
deriving DecidableEq, Repr

namespace Dev

/-- Site phases a port draws from (07 R181). -/
def phasesOf (d : Dev) (p : PortId) : List (Fin 3) :=
  match d.mode p with
  | 1 => (rotation (d.nat (Key.phaseRotation p))).take 1
  | 2 => rotation (d.nat (Key.phaseRotation p))
  | 3 => [0, 1, 2]
  | _ => []

/-- V_phase of a site phase in mV: the last site period's rms, or SiteNominalVoltage when the channel is failed, unused or below half
of it (07 R181). -/
def phaseVolts (d : Dev) (k : Fin 3) : Nat :=
  let v := d.nat (Key.rmsLastPeriod k)
  let nom := d.nat Key.siteNominalVoltage
  let ch := d.metro.chans[(⟨k.val, by omega⟩ : Fin 68)]
  if ch.failed ≠ 0 ∨ ch.source = 0xFF ∨ 2 * v < nom then nom else v

/-- The voltage a DC port's power is counted at, in 0.1 V: the vehicle's request, or DcMaxVoltage before there is one. -/
def dcVolts (d : Dev) (p : PortId) : Nat :=
  let v := d.nat (Key.evTargetVoltage p)
  if v = 0 then d.nat (Key.dcMaxVoltage p) else v

/-- Draw in 0.1 A on a site phase of a DC power in W, rounded up: P / (3 V_phase efficiency) (07 R181). -/
def drawOn (d : Dev) (p : PortId) (watts : Nat) (k : Fin 3) : Nat :=
  let den := 3 * d.phaseVolts k * d.nat (Key.dcEfficiency p)
  if den = 0 then 10000 else ceilDiv (watts * 1000000) den

/-- The draw on each site phase of a DC power in W. -/
def drawOf (d : Dev) (p : PortId) (watts : Nat) : PerPhase := Vector.ofFn fun k => d.drawOn p watts k

/-- DC current in 0.1 A that the draws on the three phases carry: the phase that carries least decides. -/
def dcOfDraw (d : Dev) (p : PortId) (draw : PerPhase) : Nat :=
  let den := d.dcVolts p * 10000
  let one (k : Fin 3) : Nat := if den = 0 then 0 else draw[k] * 3 * d.phaseVolts k * d.nat (Key.dcEfficiency p) / den
  min (one 0) (min (one 1) (one 2))

/-- The vehicle's maximum current; none declared yet. -/
def evMax (d : Dev) (p : PortId) : Nat :=
  let e := (d.port p).ev
  let i := if d.isDc p then e.maxDcCurrent else e.maxCurrent
  if i = 0 then 100000 else i

/-- The vehicle's maximum in AC, within the account's MaxPower (11 R284). -/
def acMax (d : Dev) (p : PortId) : Nat :=
  let on := d.phasesOf p
  match d.accountCurrent p (d.phaseVolts (on.headD 0)) on.length with
  | some i => min (d.evMax p) i
  | none => d.evMax p

/-- A port's cap in 0.1 A: AC per phase, DC its output current (07 R176, R181). -/
def capOf (d : Dev) (p : PortId) : Nat :=
  let cable := let r := d.nat (Key.cableRating p); if r = 0 ∨ r = 0xFFFF then 100000 else r
  if d.isDc p then
    let v := d.dcVolts p
    let watts := if (d.port p).ev.maxPower = 0 then d.nat (Key.dcMaxPower p) else min (d.nat (Key.dcMaxPower p)) (d.port p).ev.maxPower
    let byPower := if v = 0 then 0 else watts * 100 / v
    let byModules := ((d.carrying p).map fun m => d.nat (Key.moduleRatedCurrent m)).sum
    min (min (min (min (d.evMax p) (d.nat (Key.dcMaxCurrent p))) (min (d.nat (Key.currentLimit p)) byPower)) byModules) cable
  else min (min (d.acMax p) (d.nat (Key.maxCurrentAc p))) (min cable (d.nat (Key.currentLimit p)))

/-- Why the cap stands where it does (07, 0x2p10.0C): 5 envelope, 4 site, 3 CurrentLimit, 2 cable, 1 port or modules, 0 vehicle. -/
def limitReasonOf (d : Dev) (p : PortId) (given : Nat) : Nat :=
  let cap := d.capOf p
  if (d.overrideOf p).any fun e => e ≤ given then 5
  else if given < cap then 4
  else if cap = (if d.isDc p then d.evMax p else d.acMax p) then 0
  else if cap = d.nat (Key.currentLimit p) then 3
  else if cap = d.nat (Key.cableRating p) then 2
  else 1

/-- Export current a port may offer, the site allocation apart: the conditions and limits of 07 R170, within what the vehicle declared. -/
def exportCap (d : Dev) (p : PortId) : Nat :=
  let q := d.port p
  if !d.flag (Key.exportAllowed p) || q.exportStop || d.nat Key.siteExportLimit = 0 || decide (q.proto ≠ some .iso20) then 0
  else
    let l := min (d.nat (Key.exportMaxCurrent p)) (min (d.nat (Key.exportLimit p)) q.ev.maxExport)
    if d.isDc p then
      min l ((((d.modulesOf p).filter fun (m : Fin 16) => d.flag (Key.modulePresent m) && !(d.modules[m]).lost && (d.modules[m]).bidirectional).map
        fun m => d.nat (Key.moduleRatedCurrent m)).sum)
    else l

/-- Does the port take part: AUTHORISED or ENERGISED (07 R181 step 1)? -/
def takesPart (d : Dev) (p : PortId) : Bool := decide ((d.port p).session = .authorised ∨ (d.port p).session = .energised)

/-- Does port a come before b: Weight from high to low, then time of AUTHORISED from early to late (07 R181 step 1)? -/
def before (d : Dev) (a b : PortId) : Bool :=
  let wa := d.nat (Key.weight a)
  let wb := d.nat (Key.weight b)
  decide (wb < wa ∨ (wa = wb ∧ ((d.port a).authorisedAt < (d.port b).authorisedAt ∨
    ((d.port a).authorisedAt = (d.port b).authorisedAt ∧ a < b))))

/-- Put a port in its place. -/
def place (d : Dev) (p : PortId) : List PortId → List PortId
  | [] => [p]
  | q :: r => if d.before p q then p :: q :: r else q :: place d p r

/-- The ports in order. -/
def order (d : Dev) : List PortId := (allPorts.filter fun p => d.takesPart p).foldl (fun l p => d.place p l) []

/-- The network phase a site phase maps to, when the unit's own is known (07 R182; 14). -/
def networkPhase (d : Dev) (k : Fin 3) : Option Nat :=
  let o := d.nat Key.networkPhaseOfL1
  if o ≤ 2 then some ((o + k) % 3) else none

/-- Step 2 serves first an AC1 port whose site phase maps to the network phase of lowest announced headroom use (07 R182). -/
def mapFirst (d : Dev) (l : List PortId) : List PortId :=
  if !d.flag Key.useCanopyPhaseMap then l
  else
    let use (n : Nat) : Nat := ((d.bytes Key.headroomUse).getD n 0xFF).toNat
    let best (n : Nat) : Bool := decide (use n ≠ 0xFF) && (List.range 3).all fun j => decide (use n ≤ use j)
    let first := l.filter fun p => decide (d.mode p = 1) && ((d.phasesOf p).any fun k => (d.networkPhase k).any best)
    first ++ l.filter fun p => !first.contains p

end Dev

/-- What is left on the three site phases. -/
abbrev Left := Vector Int 3

/-- Take an amount on phases. -/
def takeOn (left : Left) (on : List (Fin 3)) (n : Nat) : Left := on.foldl (fun (l : Left) (k : Fin 3) => l.set k (l[k] - n)) left

/-- Is an amount left on every phase? -/
def leftOn (left : Left) (on : List (Fin 3)) (n : Nat) : Bool := on.all fun k => decide ((n : Int) ≤ left[k])

/-- The phases on which a claim is below its cap. -/
def Claim.wants (c : Claim) : List (Fin 3) := c.on.filter fun k => decide (c.given[k] < c.cap[k])

/-- Raise what is given on some phases by one step of 0.1 A. -/
def stepOn (g : PerPhase) (on : List (Fin 3)) : PerPhase := Vector.ofFn fun k => if on.contains k then g[k] + 1 else g[k]

/-- One round of step 3: one 0.1 A step to each port in turn (07 R181). Answers whether anybody got one. -/
def shareRound : List Claim → Left → List Claim × Left × Bool
  | [], left => ([], left, false)
  | c :: r, left =>
    if c.served = true ∧ c.wants ≠ [] ∧ leftOn left c.wants 1 then
      let (r, l, _) := shareRound r (takeOn left c.wants 1)
      ({ c with given := stepOn c.given c.wants } :: r, l, true)
    else
      let (r, l, got) := shareRound r left
      (c :: r, l, got)

/-- Step 3 until no step is left (07 R181); the fuel is the greatest cap. -/
def shareAll : Nat → List Claim → Left → List Claim × Left
  | 0, cs, left => (cs, left)
  | n + 1, cs, left =>
    let (cs', left', got) := shareRound cs left
    if got then shareAll n cs' left' else (cs', left')

/-- Take what a claim's minimum is on each of its phases, and is it left there? -/
def takeLeast (left : Left) (c : Claim) : Left := c.on.foldl (fun (l : Left) (k : Fin 3) => l.set k (l[k] - c.least[k])) left
def leastLeft (left : Left) (c : Claim) : Bool := c.on.all fun k => decide (c.least[k] ≤ c.cap[k]) && decide ((c.least[k] : Int) ≤ left[k])

/-- Step 2: the minimum, when every phase still has it (07 R181). -/
def giveLeast : List Claim → Left → List Claim × Left
  | [], left => ([], left)
  | c :: r, left =>
    if leastLeft left c then
      let (r, l) := giveLeast r (takeLeast left c)
      ({ c with given := Vector.ofFn fun k => if c.on.contains k then c.least[k] else 0, served := true } :: r, l)
    else
      let (r, l) := giveLeast r left
      (c :: r, l)

namespace Dev

/-- A port's claim for import: on an AC3 port, a phase the vehicle does not draw on is counted at its measured current only and gets
nothing (07 R182). -/
def claimOf (d : Dev) (p : PortId) : Claim :=
  let ph := d.phasesOf p
  let none3 : PerPhase := Vector.replicate 3 0
  if d.isDc p then ⟨p, ph, d.drawOf p 1000, d.drawOf p (d.capOf p * d.dcVolts p / 100), none3, false⟩
  else
    let on := if d.mode p = 2 then ((List.finRange 3).zip ph).filterMap (fun ((j, k) : Fin 3 × Fin 3) => if (d.port p).shed[j] then none else some k) else ph
    ⟨p, on, Vector.replicate 3 60, Vector.replicate 3 (d.capOf p), none3, false⟩

/-- A port's claim for export: no minimum, and the export current of 07 R170 as its cap. -/
def exportClaim (d : Dev) (p : PortId) : Claim :=
  let none3 : PerPhase := Vector.replicate 3 0
  ⟨p, d.phasesOf p, none3, if d.isDc p then d.drawOf p (d.exportCap p * d.dcVolts p / 100) else Vector.replicate 3 (d.exportCap p), none3, true⟩

/-- What the shed phases of an AC3 port draw (07 R182). -/
def shedDraw (d : Dev) (p : PortId) (left : Left) : Left :=
  if d.mode p ≠ 2 then left
  else ((List.finRange 3).zip (d.phasesOf p)).foldl (fun (l : Left) ((j, k) : Fin 3 × Fin 3) =>
    if (d.port p).shed[j] then l.set k (l[k] - ceilDiv (d.nat (Key.rmsLastPeriod (7 + 8 * p + j))) 100) else l) left

/-- The current a claim is given: DC the output current its draws carry, within a limit; AC the current of its phases, of which a port drawing on
none keeps the minimum. -/
def amountOf (d : Dev) (c : Claim) (limit : Nat) : Nat :=
  if !c.served then 0
  else if d.isDc c.port then min (d.dcOfDraw c.port c.given) limit
  else match c.on with
    | [] => c.least[0]
    | k :: _ => c.given[k]

/-- A change of an allocation: a reduction at once, an increase no sooner than IncreaseHoldS after the last change (07 R184). -/
def heldBack (d : Dev) (old new changed : Nat) : Nat :=
  if old < new ∧ changed ≠ 0 ∧ d.nowMs < changed + 1000 * d.nat Key.increaseHoldS then old else new

/-- Apply what a port is given for import and for export (07 R170, R184); a port without its minimum is paused, unless it exports. -/
def applyGiven (d : Dev) (c : Claim) (ex : Option Claim) : Dev :=
  let p := c.port
  let old := d.nat (Key.allocatedCurrent p)
  let new := d.heldBack old (d.amountOf c (d.capOf p)) (d.port p).allocChangedAt
  let d := if new = old then d else d.setPort p fun q => { q with allocChangedAt := d.nowMs }
  let d := (d.putNat (Key.allocatedCurrent p) (min new 65535)).putNat (Key.limitReason p) (d.limitReasonOf p new)
  let out := (d.port p).exportAlloc
  let exp := d.heldBack out (match ex with | some e => d.amountOf e (d.exportCap p) | none => 0) (d.port p).exportChangedAt
  let d := if exp = out then d else d.setPort p fun q => { q with exportChangedAt := d.nowMs }
  d.setPort p fun q => { q with
    exportAlloc := exp, pausedAt := if !c.served && !(q.exports && decide (exp ≠ 0)) then some (q.pausedAt.getD d.nowMs) else none }

/-- One run of the allocator (07 R181 to R184). -/
def allocate (d : Dev) : Dev :=
  let stale := (d.nat Key.allocatorFlags).testBit 0
  let base : Left := Vector.ofFn fun k =>
    (d.nat (Key.siteLimitL k) : Int) - (if stale then d.nat Key.externalLoadFallback else d.nat (Key.externalLoadL k)) -
      d.nat Key.margin
  let d := { d with modules := d.modules.map fun (m : Module) => { m with waiting := false } }
  let ports := d.order
  let left := ports.foldl (fun l p => d.shedDraw p l) base
  let (cs, left) := giveLeast ((d.mapFirst ports).map fun p => d.claimOf p) left
  let cs := ports.filterMap fun p => cs.find? fun (c : Claim) => c.port = p
  let (cs, left) := shareAll 10000 cs left
  let room : Left := Vector.replicate 3 (d.nat Key.siteExportLimit : Int)
  let (ex, _) := shareAll 10000 ((ports.filter fun p => d.exportCap p ≠ 0).map fun p => d.exportClaim p) room
  let d := cs.foldl (fun d c => d.applyGiven c (ex.find? fun (e : Claim) => e.port = c.port)) d
  let d := (List.finRange 3).foldl (fun d (k : Fin 3) =>
    d.putInt (Key.availableL k) (max (-32768) (min 32767 left[k]))) d
  let paused := ports.any fun p => (d.port p).pausedAt.isSome
  let d := d.putNat Key.allocatorFlags (setBit (d.nat Key.allocatorFlags) 1 paused)
  { d with site := { d.site with allocatedAt := d.nowMs, allocateNow := false } }

end Dev

/-- ALLOCATOR_RUN (07 R181): every 1,000 ms of I1, and at the tick boundary after a session enters AUTHORISED, STOPPING or ENDED. -/
def allocatorRun (d : Dev) : Dev :=
  if d.sequencerUp ∧ (d.site.allocateNow ∨ d.site.allocatedAt + 1000 ≤ d.nowMs) then d.allocate.settle else d

def execAllocatorRun (s : State) : Out3 State := s.onDev allocatorRun

end Sys2Proof.Machine
end

