-- ==== Sys2Proof/Machine/Serial.lean ====
section
/-! DEFINITION. The canonical serialisation of objects and the check values over it (08 R215; 13 R364). -/

namespace Sys2Proof.Machine

/-- One index: every existing subindex from 0x01 upward, each as index U16, subindex U8 and the value on the wire (08 R215). `f` gives
the value of a key. -/
def serialIndex (f : Nat → Val) (idx : Nat) : Bytes :=
  ((List.range (highestSub idx)).map (· + 1)).flatMap fun sub =>
    match rowOf (ob idx sub) with
    | some r => leBytes 2 idx ++ leBytes 1 sub ++ r.ty.encode (f (ob idx sub))
    | none => []

/-- Several indices in order. -/
def serialise (f : Nat → Val) (l : List Nat) : Bytes := l.flatMap (serialIndex f)

/-- The indices of staged group 0x28 in ascending order (13 R363). -/
def safetyIndices : List Nat :=
  [0x6000, 0x6010] ++ (List.range 8).map (0x6100 + ·) ++ (List.range 16).map (0x6180 + ·)

/-- The safety check value (13 R364): the safety parameters, then the image measurements of Firebreak A and B (types 4 and 5). -/
def safetyCheck (d : Dev) : Nat :=
  crc32c (serialise d.val safetyIndices ++ d.bytes (Key.activeMeasurement 4) ++ d.bytes (Key.activeMeasurement 5))

/-- The indices of the calibration check value (08 R215). -/
def calibrationIndices : List Nat :=
  [0x3070, 0x3071] ++ (List.range 68).map (0x3080 + ·) ++ ((List.range 0xF0).map (0x3900 + ·)).filter indexDefined

/-- The calibration check value (08 R215). -/
def calibrationValue (d : Dev) : Nat := crc32c (serialise d.val calibrationIndices)

end Sys2Proof.Machine
end

