-- ==== Sys2Proof/Machine/Firebreak.lean ====
section
/-! DEFINITION. Firebreak: the safety tick, the arbiter, inputs, hazards, commissioning (01 R34 to R38; 13 R327 to R368). -/

namespace Sys2Proof.Machine

/-! ### Inputs (13 R330, R333 to R335) -/

/-- The bit of a single-channel input in 0x6300.01. -/
def inputBit : SafetyInput → Nat
  | .estop b => if b then 1 else 0
  | .deen b => if b then 3 else 2
  | .aux n b => 4 + 2 * n + (if b then 1 else 0)
  | .reset => 8

namespace Dev

/-- Is two-channel input i (0 ESTOP, 1 DEEN, 2 AUX0, 3 AUX1) used? -/
def inputUsed (d : Dev) (i : Fin 4) : Bool :=
  match i with
  | 0 => d.flag Key.estopUsed
  | 1 => d.flag Key.deenUsed
  | 2 => decide (d.auxFunction 0 ≠ 0)
  | _ => decide (d.auxFunction 1 ≠ 0)

/-- Its discrepancy time T in ticks (13 R334). -/
def discrepancyT (d : Dev) (i : Fin 4) : Nat :=
  d.nat (match i with
    | 0 => Key.estopDiscrepancyMs | 1 => Key.deenDiscrepancyMs | 2 => Key.aux0DiscrepancyMs | _ => Key.aux1DiscrepancyMs)

/-- The filtered channels of an input: high means closed. -/
def channelHigh (d : Dev) (i : Fin 4) (b : Bool) : Bool := (d.nat Key.inputState).testBit (2 * i + (if b then 1 else 0))

/-- Are both channels closed, or has the input become unused (13 R330)? -/
def inputClosed (d : Dev) (i : Fin 4) : Bool := !d.inputUsed i || (d.channelHigh i false && d.channelHigh i true)

/-- The ports an input acts on. -/
def inputPorts (d : Dev) (i : Fin 4) : List PortId :=
  match i with
  | 0 => allPorts
  | 1 => allPorts
  | 2 => d.auxPorts 0
  | _ => d.auxPorts 1

/-- The cause bit of an input. -/
def inputCause (i : Fin 4) : Nat := match i with | 0 => 2 | 1 => 4 | 2 => 5 | _ => 6

/-- A discrepancy fault latches (13 R334). -/
def latchDiscrepancy (d : Dev) (i : Fin 4) : Dev :=
  let l := d.nat Key.discrepancyLatched
  if l.testBit i then d
  else ((d.putNat Key.discrepancyLatched (setBit l i true)).bump Key.discrepancyCount).raiseCause (d.inputPorts i) 3 i

/-- What an input does at a tick: its demand, its discrepancy count, how long both channels are closed (13 R333 to R335). Function 3
of a SAFE_AUX input releases by itself. -/
def inputTick (stale : Bool) (d : Dev) (i : Fin 4) : Dev :=
  let a := d.channelHigh i false && !stale
  let b := d.channelHigh i true && !stale
  let used := d.inputUsed i
  let n := if used && a != b then d.safety.differ[i] + 1 else 0
  let closed := if a && b then some ((d.safety.closedAt[i]).getD d.tick7) else none
  let d := { d with safety := { d.safety with differ := d.safety.differ.set i n, closedAt := d.safety.closedAt.set i closed } }
  let d : Dev :=
    if used && !(a && b) then
      let d : Dev := if i = 0 ∧ !(d.inputPorts 0).all (fun p => d.hasCause p 2) then d.bump Key.estopCount else d
      d.raiseCause (d.inputPorts i) (inputCause i) 0
    else if used && decide ((i = 2 ∧ d.auxFunction 0 = 3) ∨ (i = 3 ∧ d.auxFunction 1 = 3)) then
      d.releaseCause (d.inputPorts i) (inputCause i) 0
    else d
  if d.discrepancyT i + 1 ≤ n then d.latchDiscrepancy i else d

/-! ### SAFE_OUT (13 R331, R351) -/

/-- May the SAFE_OUT halves be high? -/
def safeOutOk (d : Dev) : Bool :=
  decide (d.nat Key.commissionState = 2) && allPorts.all (fun p => !d.hasCause p 0 && !d.hasCause p 4 && !d.hasCause p 19) &&
    !(d.nat Key.discrepancyLatched).testBit 1 && !d.safety.firebreakFault && decide (d.safety.outFaults = []) &&
    !d.safety.clockFault &&
    allPorts.all (fun p =>
      let c := d.nat (Key.contactorFault p)
      !(d.hasCause p 14 && (c.testBit 5 || (c.testBit 0 && c.testBit 1)))) &&
    decide (d.power.shutdownStep = 0) && d.powered && !d.clocks.i7Lost

/-- Drive SAFE_OUT_A and SAFE_OUT_B: each by a channel that runs. -/
def driveSafeOut (d : Dev) : Dev :=
  d.putNat Key.safeOut (if d.safeOutOk then
    (if d.running .firebreakA then 1 else 0) + (if d.running .firebreakB then 2 else 0) else 0)

/-! ### Faults of Firebreak (01 R38; 13 R329, R332, R362) -/

/-- The start-up hold is set again on every port (13 R362). -/
def holdAgain (d : Dev) : Dev :=
  ({ d with safety := { d.safety with testsPassed := false } } : Dev).raiseCause allPorts 0 0

/-- A channel leaves service: its halves and SAFE_OUT are low, the port opens. A restart that 0x1002 has no cause for (`cause` 0: a
disagreement, an output fault, loss of I7) shows a free one (log entry 61). -/
def channelDown (b : Bool) (cause : Nat) (d : Dev) : Dev :=
  let c : CoreId := if b then .firebreakB else .firebreakA
  let d := d.setCore c (.restarting cause)
  let (n, d) := if cause = 0 then d.draw else (cause, d)
  let d := (d.putNat (Key.coreResetCause (coreNum c)) (n % 5)).putNat (Key.coreResetTime (coreNum c)) d.nowUs
  let d : Dev := if b then { d with safety := { d.safety with restartB := some d.tick7, missingB := 0 } }
    else { d with safety := { d.safety with restartA := some d.tick7, missingA := 0 } }
  let d : Dev := if b then d else d.setCrossing 0x28 fun x => { x with stale := true }
  d.dropAll 3

/-- A Firebreak fault: every port immediately, the hold again, SAFE_OUT low, the channels named restart (01 R38; 13 R329, R362). -/
def firebreakFault (d : Dev) (restartA restartB : Bool) (cause : Nat) : Dev :=
  let d := d.bump Key.firebreakFaultCount
  let d := { d with safety := { d.safety with
    firebreakFault := true, viewsDiffer := 0, causesDiffer := Vector.replicate 8 0 } }
  let d := (d.raiseCause allPorts 18 0).holdAgain
  let d : Dev := if restartA then (d.legal 0x0108 0xFF (leBytes 1 4 ++ leBytes 1 cause)).channelDown false cause else d
  let d : Dev := if restartB then (d.legal 0x0108 0xFF (leBytes 1 5 ++ leBytes 1 cause)).channelDown true cause else d
  (d.general (.coreFault (if restartA then 4 else 5) cause)).driveSafeOut.settle

/-- The channel an output belongs to. -/
def outputChannel : OsOutput → Bool
  | .contEn _ b => b
  | .safeOut b => b

/-- An output fault (13 R332, R362): on an enable its port opens at once, on SAFE_OUT every port; the driving channel restarts. -/
def outputFault (d : Dev) (o : OsOutput) : Dev :=
  let d := d.bump Key.outputFaultCount
  let d := { d with safety := { d.safety with outFaults := o :: d.safety.outFaults.filter (· ≠ o) } }
  let ports := match o with | .contEn p _ => [p] | .safeOut _ => allPorts
  let d := (d.raiseCause ports 18 0).holdAgain
  let d := ports.foldl (fun d p => if (d.psafe p).enA || (d.psafe p).enB then d.dropFor p 3 else d) d
  (d.channelDown (outputChannel o) 0).driveSafeOut.settle

/-! ### The arbiter (01 R34 to R37; 07 R177, R179; 13 R328, R356 to R360) -/

/-- Has the vehicle asked to close: state C or D, or the Annex permission (07 R177)? -/
def vehicleReady (d : Dev) (p : PortId) : Bool :=
  if d.isDc p ∧ d.nat (Key.dcSystem p) ≠ 0 then (d.port p).permission
  else decide ((d.port p).pilot = .c ∨ (d.port p).pilot = .d)

/-- Do both channels post a closing decision, and does the arbiter allow it (01 R34; 02 R50; 07 R166, R176, R177, R180; 13 R328, R340,
R353)? -/
def mayClose (p : PortId) (d : Dev) : Bool :=
  let q := d.port p
  let s := d.psafe p
  decide (q.session = .authorised) && decide (d.mode p ≠ 0) && d.vehicleReady p && q.start && q.stop.isNone && !q.level2 && decide (d.causes p = 0) &&
    d.clocks.checked && d.heartwoodUp && d.running .firebreakA && d.running .firebreakB && d.served p && !d.portsHeld && channelsReady p d &&
    decide (d.nat (Key.lockType p) = 0 ∨ q.lock = .locked) && !d.crossings[0x30].stale && !d.crossings[0x31].stale && !d.crossings[0x35].stale &&
    (!d.isDc p || (decide (d.carrying p ≠ []) && d.unitIn 0x14)) &&
    (!d.flag (Key.rcdEnable p) || (decide (d.nat (Key.rcdTestResult p) = 1) && s.rcdRun.isNone &&
      s.rcdPass.any fun t => decide (s.authTick ≤ t + 10000))) &&
    !(q.exports && decide (d.nat Key.gridState ≠ 0)) && d.rail .vddMem && decide (d.power.shutdownStep = 0)

/-- Both enables rise: CLOSING, and the session opens (07 R178). -/
def close (p : PortId) (d : Dev) : Dev :=
  let d := d.setPsafe p fun q => { q with enA := true, enB := true, closingAt := some d.tick7, openingAt := none, ramps := [], ramped := 0 }
  (d.setPort p fun q => { q with session := .closing, opened := true, endReason := 0 }).sessionOpened p

/-- The end reason of the demands: level 1, level 2, or the stop's own (07, 0x2p30.07). -/
def demandReason (d : Dev) (p : PortId) : Nat :=
  if d.causes p ≠ 0 then 3 else if (d.port p).level2 then 2 else (d.port p).stop.getD 0

/-- Enter STOPPING with an end reason, once (07 R177, R181). -/
def beginStop (p : PortId) (reason : Nat) (d : Dev) : Dev :=
  if (d.port p).session = .stopping then d
  else
    let d := d.setPort p fun q => { q with session := .stopping, endReason := reason }
    { d with site := { d.site with allocateNow := true } }

/-- Stop immediately (13 R359; 07 R172): AC low pilot and both halves at once; DC envelope 0, STOP_ALL for safety, and the halves within 10
ticks. -/
def stopNow (p : PortId) (new : Nat) (d : Dev) : Dev :=
  let reason := d.demandReason p
  if d.isDc p then
    let d := (d.zeroRamp p new).setPsafe p fun q => { q with
      dropAt := some (match q.dropAt with | some t => min t (d.tick7 + 10) | none => d.tick7 + 10) }
    (d.stopAllModules 3).beginStop p reason
  else ((d.setPort p fun q => { q with safe := true }).setPsafe p fun q => { q with ramped := q.ramped ||| new }).dropFor p reason

/-- Does a STOPPING port whose envelope has reached zero drop its halves now (07 R179; 13 R358)? -/
def stopDone (d : Dev) (p : PortId) : Bool :=
  decide (d.causes p ≠ 0) ||
    (if d.isDc p then decide ((d.moduleSum p).natAbs < 10)
     else decide ((d.port p).pilot = .b ∨ (d.port p).pilot = .a ∨ (d.psafe p).view.acRms < 500))

/-- The stop that a new demand starts on a port with current (01 R36; 13 R356, R359): `new` the demands that have no envelope yet, `bits`
the causes among them that stop it. -/
def startStop (d : Dev) (p : PortId) (new : Nat) (bits : List Nat) : Dev :=
  if bits.any fun b => decide (d.causeKind p b = .immediate) then d.stopNow p new
  else if bits ≠ [] then (d.startRamp p new 1).beginStop p 3
  else if new.testBit 21 then (d.startRamp p (2 ^ 21) 2).beginStop p (d.demandReason p)
  else if new.testBit 22 then (d.startRamp p (2 ^ 22) 3).beginStop p (d.demandReason p)
  else d

/-- The enables of a stopping port drop once its envelope has reached zero and the stop is done (01 R37; 07 R179; 13 R359). -/
def finishStop (d : Dev) (p : PortId) : Dev :=
  if (d.port p).session = .stopping then
    let d : Dev := if d.envelope p = some 0 then d.setPsafe p fun q => { q with zeroAt := some (q.zeroAt.getD d.tick7) } else d
    match (d.psafe p).dropAt with
    | some t => if t ≤ d.tick7 ∨ d.modulesDown p then d.drop p else d
    | none => if (d.psafe p).zeroAt.isSome ∧ d.stopDone p then d.drop p else d
  else d

/-- The arbiter's turn for one port at a tick (01 R34 to R37; 13 R356 to R360). -/
def arbiter (d : Dev) (p : PortId) : Dev :=
  let all := d.demands p
  let new := all &&& (all ^^^ (all &&& (d.psafe p).ramped))
  let bits := (List.range 21).filter fun b => new.testBit b && decide (d.causeKind p b ≠ .held)
  match (d.port p).session with
  | .authorised => if mayClose p d then d.close p else d
  | .closing =>
    if bits ≠ [] ∨ (d.port p).level2 ∨ (d.port p).stop.isSome then d.dropFor p (d.demandReason p) else d
  | .energised => (d.startStop p new bits).finishStop p
  | .stopping => (d.startStop p new bits).finishStop p
  | .opening =>
    let d := d.setPsafe p fun q => { q with enA := false, enB := false }
    if (d.psafe p).fbA || (d.psafe p).fbB then d else d.opened p
  | _ => d

/-- Follow test of Firebreak B for one port at a tick of a ramp (13 R358). -/
def followTick (d : Dev) (p : PortId) : Dev :=
  match (d.psafe p).ramps with
  | [] => d.setPsafe p fun q => { q with follow := 0, history := [] }
  | r :: l =>
    let q := d.psafe p
    let i0 := l.foldl (fun m r => min m r.i0) r.i0
    let ref := if d.isDc p then q.history.getD 19 i0 else i0
    let above := decide ((ref + d.nat (Key.followTolerance p)) * 100 < d.current7 p)
    let e := (d.envelope p).getD 0
    d.setPsafe p fun q => { q with follow := if above then satAdd 8 q.follow 1 else 0, history := (e :: q.history).take 20 }

/-- What the tap shows of a port at this tick (13 R339, R356). -/
def viewTick (v : TickView) (d : Dev) (p : PortId) : Dev :=
  let x := v.ports[p]
  let d := d.setPsafe p fun q => { q with view := x }
  (d.putInt (Key.residualDc p) x.residualDc).putNat (Key.residualAcRms p) x.residualAc

/-- The configuration hold of a port (13 R338 bit 20). -/
def configHold (d : Dev) (p : PortId) : Bool :=
  (d.isDc p && !d.flag (Key.imdEnable p)) ||
    (decide (d.mode p ≠ 0) && !d.flag (Key.rcdEnable p) &&
      !((List.finRange 2).any fun n => decide (d.auxFunction n = 2) && (d.auxMask n).testBit p))

/-- Raise or release a cause by its condition. -/
def follow (d : Dev) (bit : Nat) (p : PortId) (on : Bool) : Dev := if on then d.raiseCause [p] bit 0 else d.releaseCause [p] bit 0

/-- The words of the safety setpoint slot: bit 31 in force, bits 15:0 in 0.1 A (07 R174; 13 R357). -/
def overrideWords (d : Dev) (ports : List PortId) : List Word :=
  ports.map fun p => match d.overrideOf p with | some e => BitVec.ofNat 32 (2 ^ 31 + e % 65536) | none => 0

/-- The words of crossing 0x36: the override of Firebreak A, bit 31 in force and bits 15 to 0 in 0.1 A (13 R357), and between them the duty a
port engine asks for (log entry 69). -/
def pilotWords (d : Dev) : List Word :=
  allPorts.map fun p =>
    let duty := match (d.port p).cp with | .pwm n => n | .high => 8000 | .low => 0
    BitVec.ofNat 32 (65536 * (duty % 32768) + (match d.overrideOf p with | some e => 2 ^ 31 + e % 65536 | none => 0))

/-- The words of crossing 0x31: one byte for each port, bit 0 its A half, bit 1 its B half (log entry 69). -/
def arbiterWords (d : Dev) : List Word :=
  let byte (p : PortId) : Nat := (if (d.psafe p).enA then 1 else 0) + (if (d.psafe p).enB then 2 else 0)
  wordsOf 2 (allPorts.map fun p => BitVec.ofNat 8 (byte p))

/-- The words of crossing 0x35: the pilot state of each port, and its proximity ratio in thousandths in the high half (log entry 69). -/
def measuredWords (d : Dev) : List Word := allPorts.map fun p => BitVec.ofNat 32 ((d.port p).pilot.num + 65536 * (d.port p).prox)

/-- Add one tick to the counts of R329 and R332. -/
def exchange (v : TickView) (d : Dev) : Dev :=
  let s := d.safety
  let both := d.running .firebreakA && d.running .firebreakB
  let up (on : Bool) (n : Nat) : Nat := if on && both then satAdd 16 n 1 else 0
  { d with safety := { s with
    missingA := up (!v.msgFromA || !d.passes 0x33) s.missingA, missingB := up (!v.msgFromB || !d.passes 0x32) s.missingB, viewsDiffer := up (!v.viewsAgree) s.viewsDiffer
    causesDiffer := Vector.ofFn fun p => up (!v.causesAgree[p]) s.causesDiffer[p]
    outDiffer := v.readback.map fun o => (o, satAdd 8 (match s.outDiffer.find? fun (x : OsOutput × Nat) => x.1 = o with
      | some (_, n) => n | none => 0) 1)
    penBelowAt := if v.penMv < d.nat Key.penLimit then some (s.penBelowAt.getD d.tick7) else none
    gridGoodAt := if v.gridGood then some (s.gridGoodAt.getD d.tick7) else none } }

/-- Firebreak A takes the safety tick from crossing 0x34; the ticks that the crossing lost while in reset widen the gap it sees, and one of
more than 2 ticks is its fault (02 R56, R59). -/
def tickTaken (d : Dev) (gap : Nat) : Dev :=
  if !d.running .firebreakA then { d with safety := { d.safety with lostTicks := 0 } }
  else if !d.passes 0x34 then { d with safety := { d.safety with lostTicks := d.safety.lostTicks + 1 } }
  else
    let lost := d.safety.lostTicks + gap
    let d := (({ d with safety := { d.safety with lostTicks := 0 } } : Dev)).crossed 0x34
    if 2 < lost then d.firebreakFault true false 0 else d

end Dev

/-- SAFETY_TICK (13 R329; 01 R34; 02 R56): the arbiter acts on what the channels posted up to the tick before, then the channels see
the inputs and post; I7 and Firebreak A write their value crossings. -/
def safetyTick (v : TickView) (d : Dev) : Dev :=
  if !d.ticking then d
  else
    let d := { d with time := { d.time with i7Ticks := d.time.i7Ticks + 1 } }
    let d := d.exchange v
    let d := Dev.allPorts.foldl (fun d p => d.viewTick v p) d
    let d := d.putNat Key.penRms v.penMv
    let d : Dev := if d.nat Key.gridState ≠ 0 ∧ v.gridGood then d.putNat Key.gridState 4 else d
    let d := Dev.allPorts.foldl (fun d p => d.followTick p) d
    let d := Dev.allPorts.foldl (fun d p => d.arbiter p) d
    let d := d.produce 0x30 [BitVec.ofNat 32 (d.nat Key.inputState), 0, 0, 0]
    let d := (List.finRange 4).foldl (fun d i => d.inputTick d.crossings[0x30].stale i) d
    let d := Dev.allPorts.foldl (fun d p => (d.follow 20 p (d.configHold p)).follow 1 p (decide (d.nat Key.commissionState ≠ 2))) d
    let d : Dev := if d.running .firebreakA then
        (d.produce 0x28 (d.overrideWords [0, 1, 2, 3] ++ [0, 0, 0, 0])).produce 0x36 d.pilotWords
      else d
    (((d.produce 0x31 d.arbiterWords).produce 0x35 d.measuredWords).tickTaken v.gap).driveSafeOut.settle

/-- FIREBREAK_FAULT (13 R329, R367): a disagreement restarts both channels, a gap of safety ticks Firebreak A. -/
def firebreakFaultEvent (r : FbFault) (d : Dev) : Dev :=
  if !d.ticking then d
  else match r with
    | .messageMissing b => if 3 ≤ (if b then d.safety.missingB else d.safety.missingA) then d.firebreakFault true true 0 else d
    | .viewsDiffer => if 3 ≤ d.safety.viewsDiffer then d.firebreakFault true true 0 else d
    | .checksDiffer => if d.safety.checkA ≠ d.safety.checkB then d.firebreakFault true true 0 else d
    | .causesDiffer => if d.safety.causesDiffer.toList.any fun n => 1000 ≤ n then d.firebreakFault true true 0 else d
    | .tickGap => d.firebreakFault true false 0
    | .selfTest => d.firebreakFault true true 0

/-- SAFETY_INPUT_CHANGE (13 R330, R336): the filtered state of an input. A fall of SAFE_RESET after 50 ms to 2 s is a valid edge. -/
def safetyInputChange (i : SafetyInput) (level : Bool) (d : Dev) : Dev :=
  if !d.ticking then d
  else
    let d := d.putNat Key.inputState (setBit (d.nat Key.inputState) (inputBit i) level)
    match i, level with
    | .reset, true => { d with safety := { d.safety with resetHigh := some (d.safety.resetHigh.getD d.tick7) } }
    | .reset, false =>
      let edge := match d.safety.resetHigh with
        | some t => if t + 50 ≤ d.tick7 ∧ d.tick7 ≤ t + 2000 ∧ !d.flag Key.resetStuck then some t else none
        | none => none
      ({ d with safety := { d.safety with resetHigh := none, edge := edge } } : Dev).putFlag Key.resetStuck false
    | _, _ => d

def execSafetyInputChange (i : SafetyInput) (level : Bool) (s : State) : Out3 State := s.onDev (safetyInputChange i level)

/-- DISCREPANCY_FAULT (13 R334): from T ticks of difference on the fault may latch; SAFETY_TICK latches it at T + 1. -/
def discrepancyFault (i : Fin 4) (d : Dev) : Dev :=
  if d.ticking ∧ d.inputUsed i ∧ d.discrepancyT i ≤ d.safety.differ[i] then d.latchDiscrepancy i else d

def execDiscrepancyFault (i : Fin 4) (s : State) : Out3 State := s.onDev (discrepancyFault i)

/-! ### The reset edge (13 R336, R337; table *Level 1 causes*, "Released by") -/

/-- Is the sensor's port, or every port, this one? -/
def sensorOn (d : Dev) (k : Fin 16) (p : PortId) : Bool :=
  let s := d.nat (Key.sensorPort k)
  decide (s = p ∨ s = 8)

/-- Is the condition of a cause of the port that a reset edge releases gone? `rise` is the rising tick of the edge. -/
def causeGone (d : Dev) (p : PortId) (bit : Nat) : Bool :=
  match bit with
  | 0 => d.safety.testsPassed && d.running .firebreakA && d.running .firebreakB
  | 2 => d.inputClosed 0
  | 3 => (List.finRange 4).all fun i => !((d.nat Key.discrepancyLatched).testBit i && (d.inputPorts i).contains p)
  | 4 => d.inputClosed 1
  | 5 => d.inputClosed 2
  | 6 => d.inputClosed 3
  | 7 =>
    let v := (d.psafe p).view
    decide (v.residualDc.natAbs < 4500) && decide (v.residualAc < 800 * d.nat (Key.rcdAcTrip p))
  | 8 => decide (d.nat (Key.rcdTestResult p) = 1)
  | 9 => !(d.psafe p).loopFail && decide (d.nat (Key.imdWarning p) * (d.psafe p).imdU ≤ (d.psafe p).imdOhms * 1000)
  | 10 => d.safety.penBelowAt.any fun t => decide (t + 1000 ≤ d.tick7)
  | 13 => (List.finRange 16).all fun k => !sensorOn d k p || decide (d.nat (Key.sensorState k) = 0 ∨ d.nat (Key.sensorState k) = 3)
  | 14 => (d.psafe p).cleared
  | 17 => !d.flag (Key.dcCurrentMismatch p) && !d.flag (Key.dcVoltageMismatch p)
  | 18 => d.running .firebreakA && d.running .firebreakB && decide (d.safety.outDiffer = [])
  | 19 => d.clocksGood && (!d.isDc p || !d.can4Silent)
  | _ => false

/-- The causes whose release takes a reset edge. -/
def edgeCauses : List Nat := [0, 2, 3, 4, 5, 6, 7, 8, 9, 10, 13, 14, 17, 18, 19]

/-- A valid edge releases the causes of one port whose condition is gone (13 R337, R350). -/
def edgePort (d : Dev) (p : PortId) : Dev :=
  edgeCauses.foldl (fun d b =>
    if d.hasCause p b ∧ causeGone d p b then
      let d := d.releaseCause [p] b 0
      if b = 14 then d.putNat (Key.contactorFault p) 0 else d
    else d) d

/-- Enter UNCONFIRMED: bit 1 on every port, logged with ComputedCheck (13 R365, R366). -/
def unconfirm (d : Dev) : Dev :=
  let c := d.nat Key.computedCheck
  let d := (d.putNat Key.commissionState 0).legal 0x0609 0xFF (leBytes 1 0xFF ++ leBytes 1 1 ++ leBytes 1 1 ++ leBytes 4 c)
  (d.raiseCause Dev.allPorts 1 c).driveSafeOut

/-- Commissioning completes at a valid edge within 60 s of ConfirmCheck (13 R365, R366). -/
def commissionDone (d : Dev) : Dev :=
  if d.nat Key.commissionState = 1 ∧ d.tick7 ≤ d.safety.awaitAt + 60000 then
    let c := d.nat Key.computedCheck
    let d := ((d.putNat Key.commissionState 2).putNat Key.confirmedCheck c).putNat Key.commissionedAt d.nowUs
    let d := d.legal 0x0609 0xFF (leBytes 1 0xFF ++ leBytes 1 1 ++ leBytes 1 0 ++ leBytes 4 c)
    d.releaseCause Dev.allPorts 1 c
  else d

/-- Discrepancy faults whose channels have been closed for 100 ms at the rise, or whose input is no longer used, release (13 R330,
R335). -/
def edgeDiscrepancy (rise : Nat) (d : Dev) : Dev :=
  (List.finRange 4).foldl (fun (d : Dev) (i : Fin 4) =>
    let l := d.nat Key.discrepancyLatched
    if l.testBit i ∧ (!d.inputUsed i ∨ d.safety.closedAt[i].any fun t => decide (t + 100 ≤ rise)) then
      d.putNat Key.discrepancyLatched (setBit l i false)
    else d) d

/-- A valid edge ends a Firebreak fault, once both channels run and their outputs agree, and a clock fault whose clock is back (13 R337,
R338). -/
def edgeFaults (d : Dev) : Dev :=
  let d : Dev := if d.running .firebreakA ∧ d.running .firebreakB ∧ d.safety.outDiffer = [] then
    { d with safety := { d.safety with firebreakFault := false, outFaults := [] } } else d
  if d.clocksGood then { d with safety := { d.safety with clockFault := false } } else d

/-- RESET_EDGE (13 R337): at the tick after the fall. -/
def resetEdge (d : Dev) : Dev :=
  match d.safety.edge with
  | none => d
  | some rise =>
    let d := { d with safety := { d.safety with edge := none } }
    let d := ((d.bump Key.resetEdgeCount).putNat Key.lastResetEdge d.nowUs).general (.note 2 [])
    let d := edgeDiscrepancy rise d
    let d := Dev.allPorts.foldl edgePort d
    (commissionDone (edgeFaults d)).driveSafeOut.settle

def execResetEdge (s : State) : Out3 State := s.onDev resetEdge

/-- RESET_STUCK (13 R336): at the 2 s mark. -/
def resetStuck (d : Dev) : Dev :=
  match d.safety.resetHigh with
  | some t =>
    if d.ticking ∧ t + 2000 ≤ d.tick7 ∧ !d.flag Key.resetStuck then
      ((d.putFlag Key.resetStuck true).bump Key.resetStuckCount).general (.note 3 [])
    else d
  | none => d

def execResetStuck (s : State) : Out3 State := s.onDev resetStuck

/-! ### Outputs (13 R332) -/

/-- OUTPUT_FAULT: the readback differed on 2 consecutive ticks. -/
def outputFaultEvent (o : OsOutput) (d : Dev) : Dev :=
  if d.ticking ∧ d.safety.outDiffer.any (fun (x, n) => decide (x = o ∧ 2 ≤ n)) then d.outputFault o else d

/-- Is an output high? -/
def outputHigh (d : Dev) : OsOutput → Bool
  | .contEn p b => if b then (d.psafe p).enB else (d.psafe p).enA
  | .safeOut b => (d.nat Key.safeOut).testBit (if b then 1 else 0)

/-- OUTPUT_TEST_PULSE: one high output at a time, 100 ms apart; a pulse that does not read back is an output fault. -/
def outputTestPulse (o : OsOutput) (readBackLow : Bool) (d : Dev) : Dev :=
  if d.ticking ∧ d.flag Key.outputTestPulse ∧ outputHigh d o ∧ (d.safety.pulseAt = 0 ∨ d.safety.pulseAt + 100 ≤ d.tick7) then
    let d := { d with safety := { d.safety with pulseAt := d.tick7 } }
    if readBackLow then d else d.outputFault o
  else d

/-! ### Residual current (13 R339, R340) -/

/-- Threshold in µA and consecutive ticks of a criterion (13, table *Residual-current trip criteria*). -/
def rcdLimit (d : Dev) (p : PortId) : RcdCriterion → Nat × Nat
  | .dcSlow => (4500, 500)
  | .dcFast => (45000, 40)
  | .anyRms => (150000, 3)
  | .acRms => (800 * d.nat (Key.rcdAcTrip p), 5)

/-- RESIDUAL_CURRENT_TRIP (13 R339). -/
def residualTrip (p : PortId) (c : RcdCriterion) (microAmps : Int) (ticks : Nat) (d : Dev) : Dev :=
  let (lim, n) := rcdLimit d p c
  if d.ticking ∧ d.flag (Key.rcdEnable p) ∧ lim ≤ microAmps.natAbs ∧ n ≤ ticks ∧ !d.hasCause p 7 then
    (d.bump Key.residualTripCount).raiseCause [p] 7 microAmps
  else d

def execResidualCurrentTrip (p : PortId) (c : RcdCriterion) (microAmps : Int) (ticks : Nat) (s : State) : Out3 State :=
  s.onDev (residualTrip p c microAmps ticks)

/-- RCD_SELF_TEST (13 R340): in Clearing, when no passing test of the last 10 s stands. -/
def rcdSelfTest (p : PortId) (d : Dev) : Dev :=
  if d.ticking ∧ d.clearing p ∧ (d.psafe p).rcdRun = none ∧ (d.psafe p).rcdPass.all (fun t => t + 10000 < d.tick7) then
    d.setPsafe p fun q => { q with rcdRun := some d.tick7 }
  else d

def execRcdSelfTest (p : PortId) (s : State) : Out3 State := s.onDev (rcdSelfTest p)

/-- The outcome of a self-test: 7 to 13 mA passes (13 R340). -/
def rcdResult (p : PortId) (microAmps : Nat) (d : Dev) : Dev :=
  let ok := decide (7000 ≤ microAmps ∧ microAmps ≤ 13000)
  let d := d.setPsafe p fun q => { q with rcdRun := none, rcdPass := if ok then some d.tick7 else q.rcdPass }
  let d := d.putNat (Key.rcdTestResult p) (if ok then 1 else 2)
  if ok then d else d.raiseCause [p] 8 0

/-- RCD_SELF_TEST_DONE (13 R340). -/
def rcdSelfTestDone (p : PortId) (microAmps : Nat) (d : Dev) : Dev :=
  match (d.psafe p).rcdRun with
  | some t => if d.ticking ∧ t + 100 ≤ d.tick7 then rcdResult p microAmps d else d
  | none => d

def execRcdSelfTestDone (p : PortId) (microAmps : Nat) (s : State) : Out3 State := s.onDev (rcdSelfTestDone p microAmps)

/-! ### Insulation (13 R341, R342, R367) -/

/-- An insulation fault at voltage U in mV, which the release goes by (13 R342). -/
def insulationFault (p : PortId) (u : Nat) (d : Dev) : Dev :=
  if d.hasCause p 9 then d
  else ((d.bump Key.insulationTripCount).setPsafe p fun q => { q with imdU := u }).raiseCause [p] 9 (d.nat (Key.insulationResistance p))

/-- Take a resistance, shown in kΩ. -/
def showResistance (p : PortId) (ohms : Nat) (d : Dev) : Dev :=
  (d.setPsafe p fun q => { q with imdOhms := ohms }).putNat (Key.insulationResistance p) (min (ohms / 1000) 0xFFFFFFFE)

/-- ISOLATION_TEST (13 R341): in ENERGISED, before anything but VOLTAGE; U is the lower of DcMaxVoltage and the vehicle's maximum. -/
def isolationTest (p : PortId) (ohms : Nat) (d : Dev) : Dev :=
  if d.auxUp ∧ d.isDc p ∧ d.flag (Key.imdEnable p) ∧ (d.port p).session = .energised ∧ !(d.psafe p).isoPassed then
    let u := d.testVoltage p * 100
    let d := showResistance p ohms d
    if ohms * 1000 < d.nat (Key.imdFault p) * u then insulationFault p u d
    else
      let d := d.setPsafe p fun q => { q with isoPassed := true, imdLow := 0 }
      if ohms * 1000 < d.nat (Key.imdWarning p) * u then d.general (.note 4 [p, ohms / 1000]) else d
  else d

def execIsolationTest (p : PortId) (ohms : Nat) (s : State) : Out3 State := s.onDev (isolationTest p ohms)

/-- INSULATION_EVALUATION (13 R342): two consecutive low ones are a fault; in Clearing the monitor goes on after bit 9. -/
def insulationEvaluation (p : PortId) (ohms milliVolts : Nat) (d : Dev) : Dev :=
  if !d.auxUp || !d.isDc p || !d.flag (Key.imdEnable p) then d
  else if (d.port p).session = .energised then
    let d := showResistance p ohms d
    let low := decide (ohms * 1000 < d.nat (Key.imdFault p) * milliVolts)
    let n := if low then (d.psafe p).imdLow + 1 else 0
    let d := d.setPsafe p fun q => { q with imdLow := n }
    if 2 ≤ n then insulationFault p milliVolts d else d
  else if d.hasCause p 9 ∧ d.clearing p then showResistance p ohms d
  else d

def execInsulationEvaluation (p : PortId) (ohms milliVolts : Nat) (s : State) : Out3 State :=
  s.onDev (insulationEvaluation p ohms milliVolts)

/-- IMD_LOOPBACK_TEST (13 R342, R367): a failure is treated as an insulation fault. -/
def imdLoopback (p : PortId) (ok : Bool) (d : Dev) : Dev :=
  if d.auxUp ∧ d.isDc p ∧ d.flag (Key.imdEnable p) then
    let d := d.setPsafe p fun q => { q with loopFail := !ok }
    if ok then d else insulationFault p (d.psafe p).imdU d
  else d

def execImdLoopbackTest (p : PortId) (ok : Bool) (s : State) : Out3 State := s.onDev (imdLoopback p ok)

/-- PEN_FAULT (13 R343). -/
def penFault (milliVolts ticks : Nat) (d : Dev) : Dev :=
  if d.ticking ∧ d.nat Key.penLimit ≤ milliVolts ∧ 5 ≤ ticks then
    let d := d.putNat Key.penRms milliVolts
    let d := { d with safety := { d.safety with penBelowAt := none } }
    let d : Dev := if Dev.allPorts.all (fun p => d.hasCause p 10) then d else d.bump Key.penTripCount
    d.raiseCause Dev.allPorts 10 milliVolts
  else d

def execPenFault (milliVolts ticks : Nat) (s : State) : Out3 State := s.onDev (penFault milliVolts ticks)

/-! ### Temperature (13 R345, R346) -/

/-- Ports of a sensor. -/
def sensorPorts (d : Dev) (k : Fin 16) : List PortId := Dev.allPorts.filter fun p => sensorOn d k p

/-- The limit a reading puts on a port, 0xFFFF none: i_max (trip - T) / (trip - derate), rounded down (13 R345). -/
def derate (d : Dev) (k : Fin 16) (p : PortId) : Nat :=
  let t := d.int (Key.sensorTemperature k)
  let lo := d.int (Key.derateStart k)
  let hi := d.int (Key.tripLimit k)
  let imax := d.nat (if d.isDc p then Key.dcMaxCurrent p else Key.maxCurrentAc p)
  if t ≤ lo ∨ d.nat (Key.sensorState k) ≠ 0 then 0xFFFF
  else if hi ≤ t ∨ hi ≤ lo then 0
  else imax * (hi - t).toNat / (hi - lo).toNat

/-- Recompute TemperatureLimit of a port: the lowest limit of its sensors. -/
def temperatureLimits (d : Dev) (p : PortId) : Dev :=
  d.putNat (Key.temperatureLimit p)
    (((List.finRange 16).filter fun k => sensorOn d k p).foldl (fun m k => min m (derate d k p)) 0xFFFF)

/-- Change a sensor. -/
def Dev.setSensor (d : Dev) (k : Fin 16) (f : Sensor → Sensor) : Dev :=
  { d with safety := { d.safety with sensors := vmod d.safety.sensors k f } }

/-- PT1000_READING (13 R345, R346): temperature in 0.1 °C; above 2,400 Ω open, below 500 Ω short. -/
def pt1000Reading (k : Fin 16) (ohms : Nat) (t : Int) (d : Dev) : Dev :=
  if !d.auxUp || decide (8 < d.nat (Key.sensorPort k)) then d
  else
    let count (on : Bool) (n : Nat) : Nat := if on then satAdd 8 n 1 else 0
    let opened := decide (2400 < ohms)
    let short := decide (ohms < 500)
    let ok := !opened && !short
    let hot := ok && decide (d.int (Key.tripLimit k) ≤ t)
    let cool := ok && decide (t < d.int (Key.tripLimit k) - 50)
    let d := d.setSensor k fun x => { x with
      overRun := count hot x.overRun, underRun := count cool x.underRun, openRun := count opened x.openRun
      shortRun := count short x.shortRun, seenAt := d.tick7 }
    let d : Dev := if ok then (d.putInt (Key.sensorTemperature k) t).putNat (Key.sensorState k) 0 else d
    let d : Dev := if 10 ≤ d.safety.sensors[k].underRun then d.setSensor k fun x => { x with tripped := false } else d
    let d := (sensorPorts d k).foldl temperatureLimits d
    let free := (sensorPorts d k).filter fun p => (List.finRange 16).all fun j => !(sensorOn d j p && d.safety.sensors[j].tripped)
    (d.releaseCause free 12 0).settle

/-- A commit of the safety parameters moves sensors: one that is no longer used shows so and trips nothing, one newly used counts its 300 ticks
from now, and every limit is computed anew (13 R345, R346; log entry 76). -/
def sensorsCommitted (d old : Dev) : Dev :=
  let d := (List.finRange 16).foldl (fun (d : Dev) (k : Fin 16) =>
    if d.nat (Key.sensorPort k) = 0xFF then
      (d.setSensor k fun x => { x with overRun := 0, underRun := 0, openRun := 0, shortRun := 0, tripped := false }).putNat (Key.sensorState k) 3
    else if old.nat (Key.sensorPort k) = 0xFF then d.setSensor k fun x => { x with seenAt := d.tick7 }
    else d) d
  let d := Dev.allPorts.foldl temperatureLimits d
  d.releaseCause (Dev.allPorts.filter fun p => (List.finRange 16).all fun j => !(sensorOn d j p && d.safety.sensors[j].tripped)) 12 0

def execPt1000Reading (k : Fin 16) (ohms : Nat) (t : Int) (s : State) : Out3 State := s.onDev (pt1000Reading k ohms t)

/-- TEMPERATURE_TRIP (13 R346): three consecutive readings. -/
def temperatureTrip (k : Fin 16) (d : Dev) : Dev :=
  let x := d.safety.sensors[k]
  if !d.ticking || decide (8 < d.nat (Key.sensorPort k)) then d
  else
    let d : Dev := if 3 ≤ x.overRun then (d.setSensor k fun x => { x with tripped := true }).raiseCause (sensorPorts d k) 12 0 else d
    if 3 ≤ x.openRun then (d.putNat (Key.sensorState k) 1).raiseCause (sensorPorts d k) 13 0
    else if 3 ≤ x.shortRun then (d.putNat (Key.sensorState k) 2).raiseCause (sensorPorts d k) 13 0
    else d

def execTemperatureTrip (k : Fin 16) (s : State) : Out3 State := s.onDev (temperatureTrip k)

/-- SENSOR_STALE (13 R346): no reading for 300 ticks. -/
def sensorStale (k : Fin 16) (d : Dev) : Dev :=
  if d.ticking ∧ d.nat (Key.sensorPort k) ≤ 8 ∧ d.safety.sensors[k].seenAt + 300 ≤ d.tick7 then
    (d.putNat (Key.sensorState k) 4).raiseCause (sensorPorts d k) 13 0
  else d

def execSensorStale (k : Fin 16) (s : State) : Out3 State := s.onDev (sensorStale k)

/-! ### Contactor faults, grid, envelope, restart -/

/-- CONTACTOR_FAULT_CLEAR (13 R350): both feedbacks open, and on an AC port less than 50 V. -/
def contactorFaultClearServe (p : PortId) (a : Ack) (_ : Val) (d : Dev) : Dev :=
    if (d.psafe p).fbA || (d.psafe p).fbB || (!d.isDc p && decide (50000 ≤ d.portVolts p)) then d.abort a Code.notClearing
    else (d.setPsafe p fun q => { q with cleared := true }).ok a

def execContactorFaultClear (m : HostMsg) (p : PortId) (data : Bytes) (s : State) : Out3 State := s.onDev (cmdWrite m (Key.contactorFaultClear p) false data (contactorFaultClearServe p))

/-- Does a port export for the purpose of grid loss (13 R353)? -/
def gridExporting (d : Dev) (p : PortId) : Bool :=
  d.exporting p || (!d.clearing p && (d.modulesOf p).any fun m => decide ((d.modules[m]).modeNow = 3))

/-- A port's share of grid loss: bit 15; AC drops at once, DC within 40 ticks (13 R353). -/
def gridPort (d : Dev) (p : PortId) : Dev :=
  let d := d.raiseCause [p] 15 0
  if d.isDc p then
    let d := (d.zeroRamp p (2 ^ 15)).setPsafe p fun q => { q with dropAt := some (min (q.dropAt.getD (d.tick7 + 40)) (d.tick7 + 40)) }
    d.beginStop p 3
  else (d.setPort p fun q => { q with safe := true }).dropFor p 3

/-- GRID_LOSS (13 R352, R353). -/
def gridLoss (c : GridCriterion) (d : Dev) : Dev :=
  if !d.ticking then d
  else
    let d := d.putNat Key.gridState (match c with | .low => 1 | .high => 2 | .frequency => 3)
    let d := { d with safety := { d.safety with gridGoodAt := none } }
    let d := d.bump Key.gridLossCount
    let ports := Dev.allPorts.filter fun p => gridExporting d p
    let d : Dev := if ports.any fun p => d.isDc p then d.stopAllModules 2 else d
    (ports.foldl gridPort d).settle

def execGridLoss (c : GridCriterion) (s : State) : Out3 State := s.onDev (gridLoss c)

/-- GRID_RECONNECT (13 R353): good for GridReconnectS. -/
def gridReconnect (d : Dev) : Dev :=
  match d.safety.gridGoodAt with
  | some t =>
    if d.ticking ∧ d.nat Key.gridState ≠ 0 ∧ t + 1000 * d.nat Key.gridReconnectS ≤ d.tick7 then
      (d.putNat Key.gridState 0).releaseCause Dev.allPorts 15 0
    else d
  | none => d

def execGridReconnect (s : State) : Out3 State := s.onDev gridReconnect

/-- FOLLOW_FAULT (13 R358): Firebreak B drops its half at once; the arbiter drops the other at the next tick. -/
def followFault (p : PortId) (d : Dev) : Dev :=
  if d.ticking ∧ (d.port p).session = .stopping ∧ 5 ≤ (d.psafe p).follow then
    let d := d.setPsafe p fun q => { q with enB := false, openingAt := some d.tick7, dropAt := none, zeroAt := none, ramps := [], follow := 0 }
    ((d.setPort p fun q => { q with session := .opening }).general (.note 5 [p])).settle
  else d

def execFollowFault (p : PortId) (s : State) : Out3 State := s.onDev (followFault p)

/-- FIREBREAK_RESTART_TIMEOUT (13 R362): not running 150 ms after the fault is a further fault, and the restart is tried again. -/
def firebreakRestartTimeout (b : Bool) (d : Dev) : Dev :=
  match (if b then d.safety.restartB else d.safety.restartA) with
  | some t =>
    if d.powered ∧ t + 150 ≤ d.tick7 ∧ !d.running (if b then .firebreakB else .firebreakA) then d.firebreakFault (!b) b 0 else d
  | none => d

/-! ### Commissioning (13 R364 to R366) -/

/-- CONFIRM_CHECK (13 R366). -/
def confirmCheckServe (a : Ack) (v : Val) (d : Dev) : Dev :=
    if d.nat Key.commissionState ≠ 0 then d.abort a Code.notClearing
    else if v ≠ .int (d.int Key.computedCheck) then d.abort a Code.checkMismatch
    else (({ d with safety := { d.safety with awaitAt := d.tick7 } } : Dev).putNat Key.commissionState 1).ok a

def execConfirmCheck (m : HostMsg) (data : Bytes) (s : State) : Out3 State := s.onDev (cmdWrite m Key.confirmCheck false data confirmCheckServe)

/-- CONFIRM_TIMEOUT (13 R365). -/
def confirmTimeout (d : Dev) : Dev :=
  if d.ticking ∧ d.nat Key.commissionState = 1 ∧ d.safety.awaitAt + 60000 ≤ d.tick7 then unconfirm d else d

def execConfirmTimeout (s : State) : Out3 State := s.onDev confirmTimeout

/-- CHECK_VALUE_SELF_TEST (13 R364, R367): the values the two channels computed. -/
def checkValueSelfTest (a b : Nat) (d : Dev) : Dev :=
  if !d.powered || !d.running .firebreakA || !d.running .firebreakB then d
  else
    let d := { d with safety := { d.safety with checkA := a, checkB := b } }
    if a ≠ b then d.firebreakFault true true 0 else d


end Sys2Proof.Machine
end

