-- ==== Sys2Proof/Machine/Metrology.lean ====
section
/-! DEFINITION. Metrology: SAMPLE_SET, the correction chain, zero crossings and period boundaries, temperature bands, channel states
(08 R188 to R209; 09 R219, R221). -/

namespace Sys2Proof.Machine

/-- The entity a channel belongs to: its port, or the site for channels 0 to 3. -/
def entityOf (c : Fin 68) : EntityId := if 4 ≤ c.val then ⟨(c.val - 4) / 8, by omega⟩ else 8

/-- The port of a port channel. -/
def portOfChan (c : Fin 68) : Option PortId := if 4 ≤ c.val then some ⟨(c.val - 4) / 8, by omega⟩ else none

/-- The channels of an entity. -/
def chansOf (e : EntityId) : List (Fin 68) := (List.finRange 68).filter fun c => entityOf c = e

/-- Phases a mode meters: 1 in AC1 and DC, 3 in AC3 (09 R219). -/
def meteredPhases (mode : Nat) : List (Fin 3) :=
  match mode with
  | 1 => [0]
  | 2 => [0, 1, 2]
  | 3 => [0]
  | _ => []

/-- The I32 range (08 R195). -/
def satI32 (y : Int) : Int := max (-2147483648) (min 2147483647 y)

/-- Effective gain in a band: gain + ((gain · gain_band) >> 30), in Q2.30 (08 R195). -/
def gainIn (gain band : Int) : Int := gain + (gain * band) / 1073741824

/-- The interpolator (08 R197): what a history, newest first, held `pos` 1/1,024 samples before its newest sample. The integer part picks a
sample, the fractional part one of 1,024 phases of the 32-tap filter around it. At phase 0 a windowed sinc is 1 at its centre and 0 at every
other tap; at the others the taps are the ROM's, weighed so that the gain at DC is 1 (log entry 4). -/
def interpolate (hist : List Int) (pos : Int) : Int :=
  let i := pos / 1024
  let f := (pos % 1024).toNat
  let at_ (k : Int) : Int := if k < 0 then 0 else hist.getD k.toNat 0
  if f = 0 then at_ i
  else
    let taps := List.range 32
    divRound (isum (taps.map fun k => Config.kaiserTap f k * at_ (i - 15 + k))) (max 1 (isum (taps.map fun k => Config.kaiserTap f k)).toNat)

/-- π to 39 digits, as a numerator over 10^39. -/
def piNum : Int := 3141592653589793238462643383279502884197

/-- k times a quotient in 2^-16 code, k = 2π f_nom / 32,000 (08 R196; log entry 4). -/
def rogowski (nomF : Nat) (num : Int) (den : Nat) : Int := divRound (num * 2 * piNum * nomF * 65536) (den * 32000 * 10 ^ 39)

/-- The fixed part of the delay of the history that a source reads with, in 1/1,024 sample: the interpolator's 24 samples, and the 16 by which
the path of a fluxgate is longer (08 R190, R194, R197). -/
def Channel.latency (ch : Channel) : Int := if ch.source = 0x20 then 40960 else 24576

/-- The correction of one raw sample (08 R195, R196, R197): integrated where the sensor is a Rogowski coil, delayed by the interpolator,
scaled and rounded. History is in 2^-16 code, so that y = round(x3 · g · 2^-24). -/
def Channel.correct (ch : Channel) (nomF : Nat) (raw : Int) : Channel × Int :=
  let x1 := raw - ch.off
  let acc2 := ch.acc2 + x1 + ch.prev
  let x2 := if ch.sensor = 3 then rogowski nomF (acc2 * ch.mDen - ch.mNum) (2 * ch.mDen) else x1 * 65536
  let hist := (x2 :: ch.hist).take 80
  let y := satI32 (divRound (interpolate hist (ch.latency + ch.delay) * ch.gain) (2 ^ 40))
  ({ ch with prev := x1, acc2 := acc2, accSum := ch.accSum + acc2, hist := hist }, y)

/-- The zero-crossing detector on the samples after offset removal (08 R198): armed by a sample below −5 % of the nominal peak, it finds the
next transition from a negative sample to one of zero or above, interpolated linearly to 1/1,024 sample (rounded to nearest; log entry 35).
`before` is the sample before, `n` the number of this one, `nomV` the nominal rms voltage. -/
def Channel.detect (ch : Channel) (before : Int) (n nomV : Nat) : Channel :=
  let x := ch.prev
  if ch.armed ∧ before < 0 ∧ 0 ≤ x then
    { ch with armed := false, found := some ((n - 1) * 1024 + (divRound (-before * 1024) (x - before).toNat).toNat) }
  else if x < 0 ∧ nomV * nomV * 2 ^ 44 < x.natAbs * x.natAbs * ch.fs * ch.fs * 200 then { ch with armed := true }
  else ch

/-- A sample taken in by a channel: y is 0 where it is unused or failed, and an unused channel reads 0 throughout (08 R190, R207). -/
def Channel.take (ch : Channel) (nomF n nomV : Nat) (code : Int) : Channel :=
  let raw := if ch.source = 0xFF then 0 else code
  let r := ch.correct nomF raw
  let y := if ch.source = 0xFF ∨ ch.failed ≠ 0 then 0 else r.2
  ({ r.1 with
    ys := (y :: ch.ys).take 256, rawPeak := max ch.rawPeak raw.natAbs, rawSum := ch.rawSum + raw, rawN := ch.rawN + 1, ySum := ch.ySum + y,
    ySq := ch.ySq + y.natAbs * y.natAbs } : Channel).detect ch.prev n nomV

/-- The sample of an invalid set: the previous corrected sample again, 0 on a failed or unused channel (08 R205, R207). -/
def Channel.again (ch : Channel) : Channel :=
  let y := if ch.source = 0xFF ∨ ch.failed ≠ 0 then 0 else ch.ys.headD 0
  { ch with ys := (y :: ch.ys).take 256, ySum := ch.ySum + y, ySq := ch.ySq + y.natAbs * y.natAbs }

/-- The latest corrected sample as it enters the sums: 0 where the channel does not count (09 R219). -/
def Channel.now (ch : Channel) : Int := if ch.counts then ch.ys.headD 0 else 0

/-- The voltage sample delayed by `q` in 1/1,024 sample, from the history of corrected samples (09 R221). -/
def Channel.delayed (ch : Channel) (q : Int) : Int := if ch.counts then interpolate ch.ys q else 0

namespace Dev

def chan (d : Dev) (c : Fin 68) : Channel := d.metro.chans[c]
def setChan (d : Dev) (c : Fin 68) (f : Channel → Channel) : Dev :=
  { d with metro := { d.metro with chans := vmod d.metro.chans c f } }
def meter (d : Dev) (e : EntityId) : Meter := d.metro.meters[e]
def setMeter (d : Dev) (e : EntityId) (f : Meter → Meter) : Dev :=
  { d with metro := { d.metro with meters := vmod d.metro.meters e f } }

/-- The global sample number n (08 R201). -/
def samples (d : Dev) : Nat := d.time.samples

/-- I1 and the measurement die run (02, table *Loss or fault of a clock*; 03, table *Rail monitors*). -/
def sampling (d : Dev) : Bool := d.powered && d.metro.running && !d.metro.lost && !d.clocks.ref16Lost && d.rail .vddAfe

/-! ### Channel states (08 R207, R208; 13 R355) -/

/-- The channels of a port that the mode in force uses; one with source 0xFF never is (08 R189, R190). -/
def usedChans (d : Dev) (p : PortId) : List (Fin 68) :=
  ((usedSlots (d.meter (portEntity p)).mode).map fun k => chanOf p k).filter fun c => (d.chan c).source ≠ 0xFF

/-- Is a channel used by the mode in force of its port? -/
def chanUsed (d : Dev) (c : Fin 68) : Bool :=
  match portOfChan c with
  | none => false
  | some p => (d.usedChans p).contains c

/-- The channels of a port that bit 16 looks at: used, and not its reference (08 R207). -/
def watched (d : Dev) (p : PortId) : List (Fin 68) :=
  (d.usedChans p).filter fun c => c.val ≠ (d.meter (portEntity p)).ref

/-- Bit 16 of a port: raised while a watched channel is failed, released once each counts again (13 R338 bit 16). -/
def judgeChannels (d : Dev) (p : PortId) : Dev :=
  if (d.watched p).any fun c => (d.chan c).failed ≠ 0 then d.raiseCause [p] 16 0
  else if (d.watched p).any fun c => (d.chan c).returning then d
  else d.releaseCause [p] 16 0

/-- Judge the port of a channel. -/
def judgeOf (d : Dev) (c : Fin 68) : Dev :=
  match portOfChan c with
  | some p => d.judgeChannels p
  | none => d

/-- A cause of failure on a channel (08 R207): 1 to 4 as event 0x0301 numbers them, 5 for out of service. The running period of the port is
flagged, however short the failure. -/
def failChan (d : Dev) (c : Fin 68) (cause : Nat) : Dev :=
  let fresh := (d.chan c).failed = 0
  let d := d.setChan c fun ch => { ch with failed := setBit ch.failed cause true, discard := 0, returning := false, afterFail := true }
  let d := if fresh then d.legal 0x0301 (entityOf c) [BitVec.ofNat 8 c.val, if cause = 5 then 0xFF else BitVec.ofNat 8 cause] else d
  let d := if d.chanUsed c then d.setMeter (entityOf c) fun m => { m with flags := setBit m.flags 3 true } else d
  d.judgeOf c

/-- A channel starts to discard two complete periods (08 R208): the running period is not one of them, unless it has just begun at a
boundary. -/
def startDiscard (d : Dev) (c : Fin 68) (afterFail : Bool) : Dev :=
  let ch := d.chan c
  let k := if (d.meter (entityOf c)).startN = d.samples ∧ ch.whole then 2 else 3
  d.setChan c fun ch => { ch with discard := k, returning := true, afterFail := afterFail || (ch.returning && ch.afterFail) }

/-- A cause of failure ends; with the last one the channel returns (08 R208). -/
def unfailChan (d : Dev) (c : Fin 68) (cause : Nat) : Dev :=
  if !(d.chan c).failed.testBit cause then d
  else
    let d := d.setChan c fun ch => { ch with failed := setBit ch.failed cause false }
    if (d.chan c).failed = 0 then d.startDiscard c true else d

/-- CHANNEL_DISCARD_END (08 R208): event 0x0302 only after a failure or service. -/
def channelDiscardEnd (c : Fin 68) (d : Dev) : Dev :=
  let ch := d.chan c
  if d.sampling ∧ ch.returning ∧ ch.discard = 0 ∧ ch.failed = 0 then
    let d := d.setChan c fun ch => { ch with returning := false, afterFail := false }
    let d := if ch.afterFail then d.legal 0x0302 (entityOf c) [BitVec.ofNat 8 c.val] else d
    d.judgeOf c
  else d

/-! ### Settings in force (08 R201, R204, R211, R214; 09 R247) -/

/-- The settings of a channel as committed, in a band, given those in force. -/
def chanSettings (d : Dev) (c : Fin 68) (b : Nat) (ch : Channel) : Channel :=
  let src := d.nat (Key.channelSource c)
  { ch with
    off := d.int (Key.offset c) + d.int (Key.offsetBand c b)
    gain := gainIn (d.int (Key.gain c)) (d.int (Key.gainBand c b))
    delay := d.int (Key.delay c) + d.int (Key.delayBand c b)
    fs := d.nat (Key.fullScale c)
    source := src
    inGain := d.nat (Key.inputGain c)
    sensor := d.nat (Key.sensorType c)
    clk := if 0x10 ≤ src ∧ src < 0x20 then d.nat (Key.bitstreamClock (src - 0x10)) else 0 }

/-- The energy settings and nominal values of a port as committed. -/
def energySettings (d : Dev) (p : PortId) : EnergySet :=
  ⟨d.nat (Key.noLoadThreshold p), d.nat (Key.neutralMismatchRelative p), d.nat (Key.neutralMismatchAbsolute p),
   d.nat (Key.neutralMismatchPeriods p), d.flag (Key.bypassBilling p), d.nat (Key.reverseEnergyPeriods p), d.nat (Key.nominalVoltage p),
   d.nat (Key.nominalCurrent p), d.nat (Key.nominalVoltageDc p), d.nat (Key.nominalCurrentDc p), d.nat Key.nominalFrequency⟩

/-- Judge the causes of failure that settings give: FullScale 0 on a used channel, a Rogowski coil in DC mode (08 R207). -/
def judgeSettings (d : Dev) (c : Fin 68) : Dev :=
  let ch := d.chan c
  let dc := match portOfChan c with
    | some p => decide ((d.meter (portEntity p)).mode = 3)
    | none => false
  let bad3 := d.chanUsed c && decide (ch.fs = 0) && decide (ch.source ≠ 0xFF)
  let bad4 := dc && decide (ch.sensor = 3)
  let d := if bad3 then (if ch.failed.testBit 3 then d else d.failChan c 3) else d.unfailChan c 3
  if bad4 then (if (d.chan c).failed.testBit 4 then d else d.failChan c 4) else d.unfailChan c 4

/-- Put the committed settings and the decided band in force for one channel; a channel whose source, gain, sensor type or clock
changed returns under R208, and a bitstream that was lost is no longer its own (08 R204, R211, R214). -/
def latchChan (d : Dev) (c : Fin 68) (b : Nat) : Dev :=
  let old := d.chan c
  let new := d.chanSettings c b old
  let d := d.setChan c fun _ => new
  let moved := old.source ≠ new.source ∨ old.inGain ≠ new.inGain ∨ old.sensor ≠ new.sensor ∨ old.clk ≠ new.clk
  let d := if old.source ≠ new.source ∨ old.clk ≠ new.clk then d.setChan c fun ch => { ch with failed := setBit ch.failed 1 false } else d
  let d := if moved ∧ (d.chan c).failed = 0 then d.startDiscard c false else d
  d.judgeSettings c

/-- Put everything that waits for a boundary of an entity in force, at that boundary. -/
def latchEntity (d : Dev) (e : EntityId) : Dev :=
  let b := d.nat Key.decidedBand
  let d := match entityPort e with
    | none =>
      let d := d.setMeter e fun m => { m with band := b, set := ⟨0, 0, 0, 0, false, 0, d.nat Key.siteNominalVoltage, 0, 0, 0, d.nat Key.nominalFrequency⟩ }
      { d with metro := { d.metro with edges := Vector.ofFn fun i => d.int (Key.bandEdge i) } }
    | some p =>
      let mode := d.mode p
      let ref := d.nat (Key.referenceChannel p)
      (d.setMeter e fun m => { m with
        band := b, cut := decide ((mode = 3) ≠ (m.mode = 3)), mode := mode, ref := ref, set := d.energySettings p,
        dc := if mode = 3 then m.dc else Vector.replicate 2 0,
        lastX := if ref = m.ref ∧ mode ≠ 3 then m.lastX else none, pendX := if ref = m.ref ∧ mode ≠ 3 then m.pendX else none,
        startX := if ref = m.ref ∧ mode ≠ 3 then m.startX else none,
        prevLen := if mode = 3 then none else m.prevLen, noRef := m.noRef && decide (mode ≠ 3) }).putNat (Key.portBandInForce p) b
  let d := (chansOf e).foldl (fun d c => d.latchChan c b) d
  match entityPort e with
  | some p => d.judgeChannels p
  | none => d

end Dev

/-! ### Sums (09 R219, R221) -/

/-- The quarter period by which the voltage is delayed, in 1/1,024 sample (09 R221). -/
def Meter.quarter (m : Meter) (nomF : Nat) : Int :=
  match m.prevLen with
  | some l => divRound (l : Int) 4
  | none => divRound (8000 * 1024) nomF

/-- One corrected sample of a port added to its sums. `ch` gives the port's channels by slot. -/
def Meter.add (m : Meter) (ch : Fin 8 → Channel) (nomF : Nat) : Meter :=
  let q := m.quarter nomF
  let y (k : Fin 8) : Int := (ch k).now
  let vl (k : Fin 3) : Fin 8 := ⟨k.val, by omega⟩
  let il (k : Fin 3) : Fin 8 := ⟨k.val + 3, by omega⟩
  let ph := meteredPhases m.mode
  let sp := ph.foldl (fun v (k : Fin 3) => vmod v k (· + y (vl k) * y (il k))) m.sp
  let sq := if m.mode = 3 then m.sq else ph.foldl (fun v (k : Fin 3) => vmod v k (· + (ch (vl k)).delayed q * y (il k))) m.sq
  let r : Int := if m.mode = 2 then y 3 + y 4 + y 5 - y 6 else if m.mode = 1 then y 3 - y 6 else 0
  { m with
    n := m.n + 1, sp := sp, sq := sq
    spn := if m.mode = 1 ∨ m.mode = 3 then m.spn + y 0 * y 6 else m.spn
    sqn := if m.mode = 1 then m.sqn + (ch 0).delayed q * y 6 else m.sqn
    sr := m.sr + r.natAbs * r.natAbs }

/-- One corrected sample of the site: the square of the sum of the three phase voltages, in mV at 2^28 (09, *Missing neutral*). -/
def Meter.addSite (m : Meter) (y : Fin 3 → Int) (fs : Fin 3 → Nat) : Meter :=
  let z : Int := y 0 * fs 0 + y 1 * fs 1 + y 2 * fs 2
  { m with n := m.n + 1, sr := m.sr + z.natAbs * z.natAbs }

/-- Energy of a sum in 2^-48 Wh, half away from zero (09 R220). -/
def energyOf (s : Int) (fsv fsi : Nat) : Int := divRound (s * fsv * fsi) 29491200000000000

/-- Energies of the phases a period's mode uses, active (09 R220). -/
def PeriodSum.active (r : PeriodSum) : Vector Int 3 :=
  Vector.ofFn fun k => if (meteredPhases r.mode).contains k then
    energyOf r.sp[k] (r.fs[k.val]'(by omega)) (r.fs[k.val + 3]'(by omega)) else 0

/-- Reactive energies (09 R220, R221): none in DC. -/
def PeriodSum.reactive (r : PeriodSum) : Vector Int 3 :=
  Vector.ofFn fun k => if (meteredPhases r.mode).contains k ∧ r.mode ≠ 3 then
    energyOf r.sq[k] (r.fs[k.val]'(by omega)) (r.fs[k.val + 3]'(by omega)) else 0

/-- Sum of magnitudes. -/
def absSum (v : Vector Int 3) : Nat := v[0].natAbs + v[1].natAbs + v[2].natAbs

/-- Root of a mean square with a full scale, rounded down: √(sq / n) · fs / 2^28 (log entry 35). -/
def rmsOf (sq n fs : Nat) : Nat := if n = 0 then 0 else Nat.sqrt (sq * fs * fs / (n * 2 ^ 56))

namespace Dev

/-! ### Boundaries (08 R198 to R202) -/

/-- Is a boundary of an entity due at the sample that comes next (08 R199 to R201)? -/
def due (d : Dev) (e : EntityId) : Bool :=
  let m := d.meter e
  if m.mode = 3 then decide (d.samples % 640 = 0 ∧ d.samples ≠ m.startN)
  else match m.pendX with
    | some (_, b) => decide (b ≤ d.samples)
    | none => m.noRef && decide (m.startN + 640 ≤ d.samples)

/-- Frequency of the accepted periods, in mHz (08 R202). -/
def freqOf (lens : List Nat) : Nat :=
  let s := lens.sum
  if s = 0 then 0 else (2 * 32768000000 * lens.length + s) / (2 * s)

/-- Quality flags of the period that ends, from the channels and the boundary (09, table *Period quality flags*: bits 0, 1, 2, 3, 11,
12 and 14). -/
def qualityAt (d : Dev) (e : EntityId) (m : Meter) (ended : Bool) : Nat :=
  match entityPort e with
  | none => m.flags
  | some p =>
    let used := (d.usedChans p).map fun c => d.chan c
    let f := m.flags
    let f := setBit f 2 (f.testBit 2 || (!ended && decide (m.mode ≠ 3) && !m.cut))
    let f := setBit f 3 (f.testBit 3 || used.any fun ch => ch.failed ≠ 0)
    let f := setBit f 11 (d.flag (Key.dcCurrentMismatch p) || d.flag (Key.dcVoltageMismatch p))
    let f := setBit f 12 m.cut
    setBit f 14 (f.testBit 14 || used.any fun ch => ch.discard ≠ 0)

/-- Values of the diagnostic objects of a channel at a boundary, and its sums anew (08 R196, R218): raw codes and the mean of the integrator are
those of the valid sets, and until one complete period has passed m is 0. -/
def closeChan (n : Nat) (d : Dev) (c : Fin 68) : Dev :=
  let ch := d.chan c
  if n = 0 then d
  else
    let d := (d.putNat (Key.rmsLastPeriod c) (rmsOf ch.ySq n ch.fs)).putInt (Key.meanLastPeriod c) (divRound (ch.ySum * ch.fs) (n * 2 ^ 28))
    let d := (d.putNat (Key.rawPeakAbs c) ch.rawPeak).putInt (Key.rawMean c) (if ch.rawN = 0 then 0 else divRound ch.rawSum ch.rawN)
    let m : Int × Nat := if ch.whole ∧ ch.rawN ≠ 0 then (ch.accSum, ch.rawN) else (ch.mNum, ch.mDen)
    d.setChan c fun ch => { ch with
      mNum := m.1, mDen := m.2, accSum := 0, rawPeak := 0, rawSum := 0, rawN := 0, ySum := 0, ySq := 0, whole := true, discard := ch.discard - 1 }

/-- Consecutive periods that ask for a change of a mismatch flag of R209. -/
def dcCount (flag cond : Bool) (n : Nat) : Nat := if flag = cond then 0 else n + 1

/-- The comparison of R209 over the period that ends: IL1 against IN, and VL2 − VL3 against VL1, in mA and mV. -/
def dcCompare (d : Dev) (p : PortId) (m : Meter) : Vector Nat 2 :=
  let mean (k : Fin 8) : Int :=
    let ch := d.chan (chanOf p k)
    ch.ySum * ch.fs
  let dn : Int := m.n * 2 ^ 28
  let i := (mean 3 - mean 6).natAbs * 1000 > (mean 3).natAbs * 5 + 2 * (m.set.nomIdc : Int) * dn
  let v := (mean 1 - mean 2 - mean 0).natAbs * 100 > (m.set.nomVdc : Int) * dn
  (m.dc.set 0 (dcCount (d.flag (Key.dcCurrentMismatch p)) (decide i) m.dc[0])).set 1
    (dcCount (d.flag (Key.dcVoltageMismatch p)) (decide v) m.dc[1])

/-- One period of a calibration measurement (08, objects 0x3001): aborted by a failed channel or R200. -/
def calPeriod (d : Dev) (e : EntityId) (len : Nat) (ended : Bool) (m : Meter) : Dev :=
  match d.metro.cal with
  | none => d
  | some r =>
    if r.port ≠ e.val ∨ r.aborted ∨ r.periods ≤ r.done then d
    else if r.waiting then { d with metro := { d.metro with cal := some { r with waiting := false } } }
    else
      let chs : List (Fin 68) := match entityPort e with
        | some p => (usedSlots m.mode).map fun k => chanOf p k
        | none => [0, 1, 2]
      let bad := (!ended && decide (m.mode ≠ 3)) || chs.any fun c => (d.chan c).failed ≠ 0
      if bad then
        ({ d with metro := { d.metro with cal := some { r with aborted := true } } } : Dev).putNat Key.calState 3
      else
        let at_ (k : Fin 8) : Fin 68 := match entityPort e with
          | some p => chanOf p k
          | none => ⟨k.val, by omega⟩
        let r := { r with
          done := r.done + 1, n := r.n + m.n, lens := r.lens + len, mode := m.mode
          sq2 := Vector.ofFn fun k => r.sq2[k] + (d.chan (at_ k)).ySq
          fs := Vector.ofFn fun k => (d.chan (at_ k)).fs
          sp := Vector.ofFn fun k => r.sp[k] + m.sp[k]
          sq := Vector.ofFn fun k => r.sq[k] + m.sq[k]
          spn := r.spn + m.spn }
        ({ d with metro := { d.metro with cal := some r } } : Dev).putNat Key.calPeriodsDone r.done

/-- A third unclosed period exceeds the hold of two: the oldest of a port goes to its gap counter (09 R239). -/
def trimHeld (d : Dev) (e : EntityId) : Dev :=
  match (d.meter e).held with
  | a :: b :: c :: r =>
    let d := d.setMeter e fun m => { m with held := b :: c :: r }
    match entityPort e with
    | some p => { d with energy := { d.energy with gap := vmod d.energy.gap p (· + absSum a.active) } }
    | none => d
  | _ => d

/-- On an AC3 port that charges, a phase with less than 0.5 A for 30 consecutive periods is counted at its measured current, until it draws 1.0 A
again (07 R182). -/
def countLow (d : Dev) (e : EntityId) : Dev :=
  match entityPort e with
  | none => d
  | some p =>
    if d.mode p ≠ 2 ∨ (d.port p).session ≠ .energised then d
    else
      let amps (j : Fin 3) : Nat := d.nat (Key.rmsLastPeriod (7 + 8 * p + j))
      let run : Vector Nat 3 := Vector.ofFn fun j => if amps j < 500 then min 30 ((d.port p).lowDraw[j] + 1) else 0
      d.setPort p fun q => { q with
        lowDraw := run, shed := Vector.ofFn fun j => if 1000 ≤ amps j then false else q.shed[j] || decide (30 ≤ run[j]) }

/-- A boundary of an entity falls before the next sample (08 R199 to R204): the running sums become a held period, the settings that
wait take effect, and the period-end event goes out on crossing 0x04, lost while the crossing is in reset (02 R59). `ended` says whether an
accepted crossing ends the period. -/
def roll (d : Dev) (e : EntityId) (ended : Option Nat) : Dev :=
  let m := d.meter e
  let span := (d.samples - m.startN) * 1024
  let accepted := ended.isSome && m.startX.isSome
  let len := match ended, m.startX with
    | some t, some s => t - s
    | _, _ => span
  let lens := if accepted then (m.lens ++ [len]).drop (m.lens.length + 1 - 10) else m.lens
  let sum : PeriodSum := {
    seq := m.seq + 1, len := len, n := m.n, endUs := d.nowUs, mode := m.mode, sp := m.sp, sq := m.sq, spn := m.spn, sqn := m.sqn,
    sr := m.sr
    sq2 := Vector.ofFn fun k => match entityPort e with
      | some p => (d.chan (chanOf p k)).ySq
      | none => (d.chan ⟨k.val, by omega⟩).ySq
    fs := Vector.ofFn fun k => match entityPort e with
      | some p => (d.chan (chanOf p k)).fs
      | none => (d.chan ⟨k.val, by omega⟩).fs
    flags := d.qualityAt e m ended.isSome, set := m.set }
  let d := d.calPeriod e len ended.isSome m
  let dc := match entityPort e with
    | some p => if m.mode = 3 then d.dcCompare p m else m.dc
    | none => m.dc
  let d := (chansOf e).foldl (closeChan m.n) d
  let d := d.setMeter e fun m => { m with
    startX := ended, pendX := none, startN := d.samples, cut := false, lens := lens, prevLen := if ended.isSome then some len else none,
    seq := m.seq + 1, n := 0, sp := Vector.replicate 3 0, sq := Vector.replicate 3 0, spn := 0, sqn := 0, sr := 0, flags := 0, dc := dc,
    held := if m.n = 0 then m.held else m.held ++ [sum] }
  let d := match entityPort e with
    | some p =>
      let d := (d.putNat (Key.portFrequency p) (freqOf lens)).putNat (Key.periodLength p) len
      (d.putNat (Key.periodSequence p) (m.seq + 1)).putNat (Key.referenceState p)
        (if m.mode = 3 then 2 else if m.noRef then 1 else 0)
    | none => (d.putNat Key.siteFrequency (freqOf lens)).putNat Key.siteReferenceState (if m.noRef then 1 else 0)
  let d : Dev := if d.passes 0x04 then (d.crossed 0x04).setMeter e fun m => { m with told := true } else d
  ((d.trimHeld e).countLow e).latchEntity e

/-- The crossing that ends the period of an entity whose boundary is due. -/
def ending (d : Dev) (e : EntityId) : Option Nat :=
  if (d.meter e).mode = 3 then none else (d.meter e).pendX.map (·.1)

/-- Place every boundary that is due before the next sample. -/
def rollDue (d : Dev) : Dev :=
  (List.finRange 9).foldl (fun d e => if d.due e then d.roll e (d.ending e) else d) d

/-- A crossing whose event is lost while crossing 0x03 is in reset: alignment is re-acquired at the next, and the running period is flagged in
the quality counters (02 R56, R59; log entry 74: as "no reference"). -/
def crossingMissed (d : Dev) (c : Fin 68) : Dev :=
  (List.finRange 9).foldl (fun d (e : EntityId) =>
    if (if e.val = 8 then 0 else (d.meter e).ref) = c.val ∧ (d.meter e).mode ≠ 3 then
      d.setMeter e fun m => { m with lastX := none, flags := setBit m.flags 2 true }
    else d) d

/-- ZERO_CROSSING (08 R198, R199): the crossing that the detector of a channel has found, at a time at the balls in 1/1,024 sample (24 samples
before the raw samples that show it, R194), taken by every entity whose reference it is, when it is accepted: 14.286 to 25.000 ms after the one
before, or the first. An accepted crossing of channel 0 goes to I3. -/
def zeroCrossing (c : Fin 68) (time : Nat) (d : Dev) : Dev :=
  if !d.sampling ∨ (d.chan c).failed ≠ 0 ∨ (d.chan c).found ≠ some (time + 24576) then d
  else
    let delay := (d.chan c).delay
    let d := d.setChan c fun ch => { ch with found := none }
    if !d.passes 0x03 then d.crossingMissed c
    else
    (List.finRange 9).foldl (fun d (e : EntityId) =>
      let m := d.meter e
      let ref := if e.val = 8 then 0 else m.ref
      let ok : Bool := match m.lastX with
        | none => true
        | some t => decide (t < time ∧ 14286 * 32768 ≤ (time - t) * 1000 ∧ time - t ≤ 819200)
      if ref = c.val ∧ m.mode ≠ 3 ∧ m.pendX = none ∧ ok then
        let b := (((time : Int) + 48 * 1024 + delay + 1023) / 1024).toNat
        let d := d.setMeter e fun m => { m with lastX := some time, pendX := some (time, b), noRef := false }
        if e.val = 8 then { d with canopy := { d.canopy with own := some time } } else d
      else d) d

/-- REFERENCE_TIMEOUT (08 R200): no crossing is accepted by 25.000 ms, 800 samples, after the last boundary. The boundary falls there,
and from then on every 640 samples. -/
def referenceTimeoutRoll (e : EntityId) (d : Dev) : Option Dev :=
  let m := d.meter e
  if d.sampling ∧ m.mode ≠ 3 ∧ !m.noRef ∧ m.pendX = none ∧ m.startN + 800 ≤ d.samples then
    some ((d.setMeter e fun m => { m with noRef := true, lastX := none }).roll e none)
  else none

/-! ### Samples (08 R190 to R206) -/

/-- The IRES channel of a port whose fluxgate reports an excitation fault, or no longer does (08 R207). -/
def fluxFault (mask : BitVec 8) (d : Dev) (p : PortId) : Dev :=
  let c := chanOf p 7
  if mask.getLsbD p.val && decide ((d.chan c).source = 0x20) then (if (d.chan c).failed.testBit 2 then d else d.failChan c 2)
  else d.unfailChan c 2

/-- The IRES channels of all ports (08 R207). -/
def fluxFaults (d : Dev) (mask : BitVec 8) : Dev := allPorts.foldl (fluxFault mask) d

/-- Is a raw code beyond ±110 % of full scale, 4,194,304 codes (08 R191, R206)? -/
def clips (raw : Int) : Bool := decide (46137344 < raw.natAbs * 10)

/-- The code of a density of ones in 2^-23: 0.10 is negative full scale, 0.50 zero, 0.90 full scale, up to ±5,242,880 (08 R191). -/
def bitstreamCode (ones : Nat) : Int := divRound (((min ones 8388608 : Nat) - 4194304 : Int) * 5) 4

/-- The raw codes of a set as the channels take them: of a bitstream source its decoded density, otherwise the 24-bit code (08 R190, R191,
R193). -/
def rawCodes (d : Dev) (raw : Vector (BitVec 24) 68) (ones : Vector Nat 16) : Vector Int 68 :=
  Vector.ofFn fun c =>
    let src := (d.chan c).source
    if src = 0xFF then 0
    else if h : 0x10 ≤ src ∧ src < 0x20 then bitstreamCode (ones[src - 0x10]'(by omega))
    else raw[c].toInt

/-- Transitions of the bitstream inputs (08 R192): a window of ones or zeros only, like the one before, shows none; a channel whose lost bitstream
shows transitions again returns (08 R208). -/
def bitstreams (d : Dev) (ones : Vector Nat 16) : Dev :=
  let still (j : Fin 16) : Bool := decide ((ones[j] = 0 ∨ 8388608 ≤ ones[j]) ∧ ones[j] = d.metro.ones[j])
  let d : Dev := { d with metro := { d.metro with
    ones := ones, stuck := Vector.ofFn fun j => if still j then min 64 (d.metro.stuck[j] + 1) else 0 } }
  (List.finRange 68).foldl (fun d (c : Fin 68) =>
    let src := (d.chan c).source
    if (d.chan c).failed.testBit 1 ∧ 0x10 ≤ src ∧ src < 0x20 ∧ d.metro.stuck.toList.getD (src - 0x10) 0 = 0 then (d.unfailChan c 1).judgeOf c else d) d

/-- What a valid set does to the clip counts and period flags. -/
def noteClips (d : Dev) (raw : Vector Int 68) : Dev :=
  (List.finRange 68).foldl (fun d (c : Fin 68) =>
    if clips raw[c] then
      let d := d.bump (Key.clipCount c)
      if d.chanUsed c then d.setMeter (entityOf c) fun m => { m with flags := setBit m.flags 1 true } else d
    else d) d

/-- Add the samples the channels hold to the sums of every entity. -/
def addSums (d : Dev) : Dev :=
  let d := allPorts.foldl (fun d (p : PortId) => d.setMeter (portEntity p) fun m => m.add (fun k => d.chan (chanOf p k)) m.set.nomF) d
  d.setMeter 8 fun m => m.addSite (fun k => (d.chan ⟨k.val, by omega⟩).ys.headD 0) (fun k => (d.chan ⟨k.val, by omega⟩).fs)

/-- Acquisition starts again after a stop: every used channel discards two periods, and every integration waits for a new first
crossing (08 R208; 02 R60). -/
def restartChannels (d : Dev) : Dev :=
  let d := (List.finRange 9).foldl (fun (d : Dev) (e : EntityId) => d.setMeter e fun m => { m with
    lastX := none, startX := none, pendX := none, startN := d.samples, prevLen := none, lens := [] }) d
  (List.finRange 68).foldl (fun (d : Dev) (c : Fin 68) =>
    let whole := decide ((d.meter (entityOf c)).mode = 3 ∧ d.samples % 640 = 0)
    let d := d.setChan c fun ch => { ch with
      whole := whole, armed := false, found := none, mNum := 0, mDen := 1, accSum := 0, rawPeak := 0, rawSum := 0, rawN := 0, ySum := 0, ySq := 0 }
    if (d.chan c).source ≠ 0xFF then (d.startDiscard c false).judgeOf c else d) d

/-- The measurement die was lost and a set comes in that passes its link check: the die has returned (log entry 55). -/
def dieReturns (d : Dev) (linkOk : Bool) : Dev :=
  if linkOk ∧ d.metro.lost ∧ ({ d with metro := { d.metro with lost := false } } : Dev).sampling then
    ({ d with metro := { d.metro with lost := false, invalid := 0 } } : Dev).restartChannels
  else d

/-- NominalFrequency and nominal voltage in force for a channel (08 R196, R198, R214). -/
def nominals (d : Dev) (c : Fin 68) : Nat × Nat := let s := (d.meter (entityOf c)).set; (s.nomF, s.nomV)

/-- SAMPLE_SET (08 R190 to R195, R205, R206; 02 R53; 09 R219): boundaries that are due fall before this sample. A set that fails its link check,
or that crossing 0x00 drops, is invalid. -/
def sampleSet (raw : Vector (BitVec 24) 68) (ones : Vector Nat 16) (linkOk : Bool) (flux : BitVec 8) (d : Dev) : Dev :=
  let d := d.dieReturns linkOk
  if !d.sampling then d
  else
    let valid := linkOk && d.passes 0x00
    let d : Dev := if !linkOk then d else if d.passes 0x00 then d.crossed 0x00 else d.produce 0x00 []
    let d := d.rollDue
    let d : Dev :=
      if valid then
        let d := (d.fluxFaults flux).bitstreams ones
        let codes := d.rawCodes raw ones
        ({ d with metro := { d.metro with
          invalid := 0
          chans := Vector.ofFn fun c => (d.metro.chans[c]).take (d.nominals c).1 d.samples (d.nominals c).2 codes[c] } } : Dev).noteClips codes
      else
        let d : Dev := { d with metro := { d.metro with
          invalid := d.metro.invalid + 1, chans := d.metro.chans.map Channel.again
          meters := d.metro.meters.map fun (m : Meter) => { m with flags := setBit m.flags 0 true } } }
        ((List.finRange 68).foldl (fun d (c : Fin 68) => d.bump (Key.substitutedCount c)) d).bump Key.linkErrorCount
    let d := d.addSums
    { d with time := { d.time with samples := d.time.samples + 1 } }

/-! ### Losses, temperature, DC plausibility -/

/-- BITSTREAM_LOSS (08 R192, R207): input j shows no transition for 64 samples; its channel, if it has one, fails. -/
def bitstreamLoss (j : Fin 16) (d : Dev) : Dev :=
  if !d.sampling ∨ d.metro.stuck[j] < 64 then d
  else match (List.finRange 68).find? fun c => (d.chan c).source = 0x10 + j.val with
    | some c => if (d.chan c).failed.testBit 1 then d else d.failChan c 1
    | none => d

/-- The band edges E1 to E7 in force. -/
def edge (d : Dev) (i : Nat) : Int := d.metro.edges.toList.getD (i - 1) 0

/-- The band that covers a temperature: the number of edges at or below it (08 R203). -/
def bandOf (d : Dev) (t : Int) : Nat := ((List.range 7).filter fun i => d.edge (i + 1) ≤ t).length

/-- DIE_TEMPERATURE_READING (08 R203): in 0.0625 °C, with a hysteresis of 0.75 °C, which is 12 steps, and one band a reading. -/
def dieTemperature (t : Int) (d : Dev) : Dev :=
  if !d.sampling then d
  else
    let d := d.putInt Key.dieTemperature t
    let b := d.nat Key.decidedBand
    if !d.metro.bandSet then
      ({ d with metro := { d.metro with bandSet := true } } : Dev).putNat Key.decidedBand (d.bandOf t)
    else if b < 7 ∧ d.edge (b + 1) + 12 ≤ t then d.putNat Key.decidedBand (b + 1)
    else if 0 < b ∧ t < d.edge b - 12 then d.putNat Key.decidedBand (b - 1)
    else d

/-- DC_MISMATCH (08 R209; 13 R355): a mismatch flag changes after three consecutive periods; its setting is logged once a session, and
bit 17 stands while either flag does, until a reset edge. -/
def dcMismatch (p : PortId) (voltage : Bool) (d : Dev) : Dev :=
  let i : Fin 2 := if voltage then 1 else 0
  let key := if voltage then Key.dcVoltageMismatch p else Key.dcCurrentMismatch p
  let e := portEntity p
  let m := d.meter e
  if m.mode ≠ 3 ∨ m.dc[i] < 3 then d
  else
    let on := !d.flag key
    let d := (d.putFlag key on).setMeter e fun m => { m with dc := m.dc.set i 0 }
    if !on then d
    else
      let sid := ((d.energy.sessions[p]).map (·.sid)).getD 0
      let d : Dev :=
        if m.dcLogged.contains (i.val, sid) then d
        else (d.setMeter e fun m => { m with dcLogged := (i.val, sid) :: m.dcLogged.filter fun x => x.2 = sid }).legal 0x0303 p
          (leBytes 1 (1 + i.val) ++ leBytes 4 sid)
      d.raiseCause [p] 17 0

/-! ### Calibration measurement (08, objects 0x3001) -/

/-- What CalStart does: the measurement starts at the next boundary of CalPort; a new start replaces one that runs. -/
def calStart (d : Dev) : Dev :=
  let r : CalRun := ⟨d.nat Key.calPort, d.nat Key.calPeriods, true, 0, 0, 0, Vector.replicate 8 0, Vector.replicate 8 0, Vector.replicate 3 0,
    Vector.replicate 3 0, 0, 0, false⟩
  let d := { d with metro := { d.metro with cal := some r } }
  (d.putNat Key.calState 1).putNat Key.calPeriodsDone 0

/-- Root of a mean square in 10^-6 of the primary unit: √(sq / n) · fs · 1000 / 2^28, rounded down (log entry 35). -/
def rmsMicro (sq n fs : Nat) : Nat := rmsOf sq n (fs * 1000)

/-- Mean power of a sum in µW: S · fsv · fsi / (n · 2^56) (log entry 35). -/
def powerMicro (s : Int) (n fsv fsi : Nat) : Int := if n = 0 then 0 else divRound (s * fsv * fsi) (n * 2 ^ 56)

/-- CAL_DONE (08, objects 0x3001): CalPeriods periods are complete and the results final. -/
def calDone (d : Dev) : Dev :=
  match d.metro.cal with
  | none => d
  | some r =>
    if r.aborted ∨ r.waiting ∨ r.done < r.periods ∨ d.nat Key.calState ≠ 1 then d
    else
      let dc := decide (r.mode = 3)
      let site := decide (r.port = 8)
      let v (k : Fin 3) : Nat := if dc ∧ k.val ≠ 0 then 0 else rmsMicro (r.sq2[k.val]'(by omega)) r.n (r.fs[k.val]'(by omega))
      let i (k : Fin 3) : Nat :=
        if site then 0
        else if dc then (if k.val = 0 then rmsMicro r.sq2[3] r.n r.fs[3] else if k.val = 1 then rmsMicro r.sq2[6] r.n r.fs[6] else 0)
        else rmsMicro (r.sq2[k.val + 3]'(by omega)) r.n (r.fs[k.val + 3]'(by omega))
      let pw (k : Fin 3) : Int :=
        if dc ∧ k.val = 1 then powerMicro r.spn r.n r.fs[0] r.fs[6]
        else powerMicro r.sp[k] r.n (r.fs[k.val]'(by omega)) (r.fs[k.val + 3]'(by omega))
      let qw (k : Fin 3) : Int := if dc then 0 else powerMicro r.sq[k] r.n (r.fs[k.val]'(by omega)) (r.fs[k.val + 3]'(by omega))
      let d := (List.finRange 3).foldl (fun d (k : Fin 3) =>
        (((d.putNat (Key.calVrmsL k) (v k)).putNat (Key.calIrmsL k) (i k)).putInt (Key.calPL k) (pw k)).putInt (Key.calQL k) (qw k)) d
      let f := if r.lens = 0 then 0 else (2 * 32768000000 * r.done + r.lens) / (2 * r.lens)
      (d.putNat Key.calFrequency f).putNat Key.calState 2

end Dev

def execSampleSet (raw : RawSet) (linkOk : Bool) (flux : BitVec 8) (s : State) : Out3 State :=
  s.onDev (Dev.sampleSet raw.codes raw.ones linkOk flux)
def execBitstreamLoss (j : Fin 16) (s : State) : Out3 State := s.onDev (Dev.bitstreamLoss j)
def execZeroCrossing (c : Fin 68) (time : Nat) (s : State) : Out3 State := s.onDev (Dev.zeroCrossing c time)
def execDieTemperatureReading (t : Int) (s : State) : Out3 State := s.onDev (Dev.dieTemperature t)
def execChannelDiscardEnd (c : Fin 68) (s : State) : Out3 State := s.onDev (Dev.channelDiscardEnd c)
def execDcMismatch (p : PortId) (voltage : Bool) (s : State) : Out3 State := s.onDev (Dev.dcMismatch p voltage)
def execCalDone (s : State) : Out3 State := s.onDev Dev.calDone

/-- CAL_START (08, object 0x3001.03). -/
def calStartServe (a : Ack) (_ : Val) (d : Dev) : Dev := d.calStart.ok a

def execCalStart (m : HostMsg) (data : Bytes) (s : State) : Out3 State := s.onDev (cmdWrite m Key.calStart false data calStartServe)

end Sys2Proof.Machine
end

