-- ==== Sys2Proof/Machine/Calendar.lean ====
section
/-! DEFINITION. The calendar: dates, local time, the tariff in force, the demand, load-profile and billing grids, friendly-credit windows
(10 R254 to R257, R261, R264, R266; 11 R295). -/

namespace Sys2Proof.Machine

/-- Year, month and day of a day counted from 1970-01-01 (Gregorian). -/
def civil (z : Nat) : Nat × Nat × Nat :=
  let z := z + 719468
  let era := z / 146097
  let doe := z % 146097
  let yoe := (doe - doe / 1460 + doe / 36524 - doe / 146096) / 365
  let doy := doe - (365 * yoe + yoe / 4 - yoe / 100)
  let mp := (5 * doy + 2) / 153
  let day := doy - (153 * mp + 2) / 5 + 1
  let mon := if mp < 10 then mp + 3 else mp - 9
  (yoe + era * 400 + (if mon ≤ 2 then 1 else 0), mon, day)

/-- Day of the week of a day counted from 1970-01-01, 0 Monday. -/
def weekday (z : Nat) : Nat := (z + 3) % 7

/-- Days of a month. -/
def daysIn (year mon : Nat) : Nat :=
  if mon = 2 then (if year % 4 = 0 ∧ (year % 100 ≠ 0 ∨ year % 400 = 0) then 29 else 28)
  else if mon = 4 ∨ mon = 6 ∨ mon = 9 ∨ mon = 11 then 30 else 31

/-- Fields of a special day (10, table *Special day, U32*): year, month, day, profile. -/
def specialFields (w : Nat) : Nat × Nat × Nat × Nat := (w / 65536, w / 4096 % 16, w / 128 % 32, w % 32)

/-- Fields of a switch point (10, table *Switch point, U32*): tariff and second. -/
def switchFields (w : Nat) : Nat × Nat := (w / 2 ^ 24, w % 2 ^ 17)

namespace Dev

/-- Local seconds since 1970 of a UTC second (10 R255). -/
def localOf (d : Dev) (utc : Nat) : Nat := ((utc : Int) + d.int Key.activeLocalOffset * 60).toNat

/-- UTC second of a local instant. -/
def utcOf (d : Dev) (loc : Nat) : Nat := ((loc : Int) - d.int Key.activeLocalOffset * 60).toNat

/-- Start of a used season as month · 100 + day; 0 where it is unused (10 R254). -/
def seasonStart (d : Dev) (i : Nat) : Nat :=
  let m := d.nat (Key.activeSeasonStartMonth i)
  if m = 0 then 0 else m * 100 + d.nat (Key.activeSeasonStartDay i)

/-- The season in force on a date of the active calendar: the used one with the latest start at or before it, else the latest of the
year (10 R255). -/
def seasonOn (d : Dev) (mon day : Nat) : Nat :=
  let used := (List.range 4).filter fun i => d.seasonStart i ≠ 0
  let latest (l : List Nat) : Option Nat :=
    l.foldl (fun (b : Option Nat) i => match b with
      | none => some i
      | some j => if d.seasonStart j < d.seasonStart i then some i else b) none
  match latest (used.filter fun i => d.seasonStart i ≤ mon * 100 + day) with
  | some i => i
  | none => (latest used).getD 0

/-- Special days in use. -/
def specials (d : Dev) : List (Nat × Nat × Nat × Nat) :=
  (List.range (d.nat Key.activeSpecialCount)).map fun i => specialFields (d.nat (Key.activeSpecialDay i))

/-- Day profile of a local day and how it was chosen: 1 special day of the year, 2 special day of every year, 0 week profile (10
R255). -/
def dayProfileOf (d : Dev) (z : Nat) : Nat × Nat :=
  let (y, m, dd) := civil z
  match d.specials.find? fun (s : Nat × Nat × Nat × Nat) => s.1 = y ∧ s.2.1 = m ∧ s.2.2.1 = dd with
  | some s => (s.2.2.2, 1)
  | none =>
    match d.specials.find? fun (s : Nat × Nat × Nat × Nat) => s.1 = 0 ∧ s.2.1 = m ∧ s.2.2.1 = dd with
    | some s => (s.2.2.2, 2)
    | none => (d.nat (Key.activeWeekDayProfile (d.nat (Key.activeSeasonWeekProfile (d.seasonOn m dd))) (weekday z)), 0)

/-- Switch points of a local day, in order: tariff and second. -/
def switchesOn (d : Dev) (z : Nat) : List (Nat × Nat) :=
  let prof := (d.dayProfileOf z).1
  (List.range (d.nat (Key.activeSwitchCount prof))).map fun i => switchFields (d.nat (Key.activeSwitchPoint prof i))

/-- The tariff at the end of a local day, looking back `n` days (10 R256). -/
def tariffEnd (d : Dev) (z : Nat) : Nat → Nat
  | 0 => 1
  | n + 1 => match (d.switchesOn z).getLast? with
    | some s => s.1
    | none => if z = 0 then 1 else tariffEnd d (z - 1) n

/-- The tariff in force at a local instant (10 R256): T1 when the 366 days before hold no switch point. -/
def tariffAt (d : Dev) (loc : Nat) : Nat :=
  match ((d.switchesOn (loc / 86400)).filter fun s => s.2 ≤ loc % 86400).getLast? with
  | some s => s.1
  | none => if loc / 86400 = 0 then 1 else d.tariffEnd (loc / 86400 - 1) 366

/-- Is a switch point at this local second? -/
def switchesAt (d : Dev) (loc : Nat) : Bool := (d.switchesOn (loc / 86400)).any fun s => s.2 = loc % 86400

/-- The latest switch point at or before a local instant and after another, going back day by day (10 R270). -/
def lastSwitch (d : Dev) (after upTo : Nat) : Nat → Nat → Option Nat
  | 0, _ => none
  | n + 1, z =>
    match (((d.switchesOn z).map fun s => z * 86400 + s.2).filter fun t => after < t ∧ t ≤ upTo).getLast? with
    | some t => some t
    | none => if z = 0 ∨ z * 86400 ≤ after then none else lastSwitch d after upTo n (z - 1)

/-- The demand sub-interval length in s (10 R261). -/
def subLength (d : Dev) : Nat :=
  let n := d.nat Key.subIntervals
  if n = 0 then 60 * d.nat Key.demandInterval else 60 * d.nat Key.demandInterval / n

/-- Is a local second on a grid of the local day with this step? -/
def onGridOf (step loc : Nat) : Bool := decide (step ≠ 0 ∧ loc % 86400 % step = 0)

/-- The first instant of such a grid after a local second. -/
def nextOnGrid (step loc : Nat) : Nat :=
  let day := loc / 86400
  min ((day + 1) * 86400) (day * 86400 + (loc % 86400 / step + 1) * step)

/-- Does the billing schedule close at a local second (10 R264)? -/
def billingAt (d : Dev) (loc : Nat) : Bool :=
  let z := loc / 86400
  decide (loc % 86400 = d.nat Key.billingTime) &&
    match d.nat Key.billingSchedule with
    | 1 => true
    | 2 => decide (weekday z + 1 = d.nat Key.billingDay)
    | 3 => decide ((civil z).2.2 = d.nat Key.billingDay)
    | _ => false

/-- Billing closes of the schedule in the local days from `z`, `n` of them, after one instant and up to another, in order. -/
def billingsIn (d : Dev) (after upTo : Nat) : Nat → Nat → List Nat
  | 0, _ => []
  | n + 1, z =>
    let t := z * 86400 + d.nat Key.billingTime
    (if after < t ∧ t ≤ upTo ∧ d.billingAt t then [t] else []) ++ billingsIn d after upTo n (z + 1)

/-- Is a friendly-credit window open for a class at a UTC second (11 R291, R295)? No window is open while time is unknown (R294). -/
def windowOpen (d : Dev) (cls : Nat) (utc : Nat) : Bool :=
  let loc := d.localOf utc
  let z := loc / 86400
  let t := loc % 86400
  !d.time.unknown && decide (cls ≠ 0xFF) && (List.range 8).any fun w =>
    d.flag (Key.windowEnable w) && (d.nat (Key.classMask w)).testBit cls &&
      (let s := d.nat (Key.windowStart w)
       let e := d.nat (Key.windowEnd w)
       let m := d.nat (Key.dayMask w)
       let today := m.testBit (weekday z)
       let yesterday := decide (0 < z) && m.testBit (weekday (z - 1))
       (if s < e then today && decide (s ≤ t ∧ t < e) else (today && decide (s ≤ t)) || (yesterday && decide (t < e))) ||
         (m.testBit 7 && decide ((d.dayProfileOf z).2 ≠ 0)))

/-! ### The passive calendar (10 R257, R259) -/

/-- The calendar objects the check of R259 covers, by passive key, in order. -/
def calendarKeys : List Nat :=
  [Key.passiveCalendarId, Key.passiveCalendarName, Key.passiveLocalOffset] ++
  ((List.range 4).flatMap fun i => [Key.seasonStartMonth i, Key.seasonStartDay i, Key.seasonWeekProfile i]) ++
  ((List.range 16).flatMap fun w => (List.range 7).map fun i => Key.weekDayProfile w i) ++
  ((List.range 32).flatMap fun p => Key.switchCount p :: (List.range 24).map fun i => Key.switchPoint p i) ++
  [Key.specialCount] ++ ((List.range 128).map fun i => Key.specialDay i)

/-- The active copy of a passive calendar object (10, "0x4120 to 0x4161"). -/
def activeKeyOf (k : Nat) : Nat :=
  if k = Key.passiveCalendarId then Key.activeCalendarId
  else if k = Key.passiveCalendarName then Key.activeCalendarName
  else if k = Key.passiveLocalOffset then Key.activeLocalOffset
  else k + 0x100 * 256

/-- CalendarCheck of a calendar given by its values (10 R259): the serialisation of 08 R215 under the passive keys. -/
def calendarCheck (value : Nat → Val) : Nat :=
  crc32c (calendarKeys.flatMap fun k =>
    leBytes 2 (k / 256) ++ leBytes 1 (k % 256) ++ (match rowOf k with | some r => r.ty.encode (value k) | none => []))

end Dev

/-- Is the passive calendar valid in a view of the objects (10 R257)? Answers the lowest failing member. -/
def calendarFault (nat : Nat → Nat) (int : Nat → Int) : Option Nat :=
  let used := (List.range 4).filter fun i => nat (Key.seasonStartMonth i) ≠ 0
  let start (i : Nat) : Nat := nat (Key.seasonStartMonth i) * 100 + nat (Key.seasonStartDay i)
  let badSeason := used.filter fun i =>
    decide (start i = 229) || decide (daysIn 2001 (nat (Key.seasonStartMonth i)) < nat (Key.seasonStartDay i))
  let sameSeason := used.any fun i => used.any fun j => decide (j ≠ i) && decide (start j = start i)
  let days (p : Nat) : List (Nat × Nat) := (List.range (nat (Key.switchCount p))).map fun i => switchFields (nat (Key.switchPoint p i))
  let badPoint (p : Nat) : List Nat := (List.range (nat (Key.switchCount p))).filter fun i =>
    let s := (days p).getD i (0, 0)
    decide (86400 ≤ s.2) || decide (s.1 = 0) || decide (16 < s.1)
  let falling (p : Nat) : Bool := (List.range (nat (Key.switchCount p))).any fun i =>
    decide (0 < i) && decide (((days p).getD i (0, 0)).2 ≤ ((days p).getD (i - 1) (0, 0)).2)
  let sp (i : Nat) := specialFields (nat (Key.specialDay i))
  let badDay := (List.range (nat Key.specialCount)).filter fun i =>
    let (y, m, dd, _) := sp i
    decide (y ≠ 0 ∧ (y < 2000 ∨ 2099 < y)) || decide (m = 0) || decide (12 < m) || decide (dd = 0) ||
      decide (daysIn (if y = 0 then 2000 else y) m < dd)
  let sameDay := (List.range (nat Key.specialCount)).any fun i => (List.range (nat Key.specialCount)).any fun j =>
    decide (j ≠ i) && decide ((sp j).1 = (sp i).1 ∧ (sp j).2.1 = (sp i).2.1 ∧ (sp j).2.2.1 = (sp i).2.2.1)
  let faults : List Nat :=
    (if int Key.passiveLocalOffset % 15 ≠ 0 then [Key.passiveLocalOffset] else []) ++
    (if nat Key.calendarActivationMode = 2 ∧ 2 ^ 48 ≤ nat Key.calendarActivationTime then [Key.calendarActivationMode] else []) ++
    (if used = [] then [Key.seasonStartMonth 0] else []) ++
    (if sameSeason then [Key.seasonStartMonth (used.headD 0)] else []) ++ (if sameDay then [Key.specialDay 0] else []) ++
    ((List.range 32).filter falling).map (fun p => Key.switchPoint p 0) ++
    badSeason.map (fun i => Key.seasonStartMonth i) ++
    (List.range 32).flatMap (fun p => (badPoint p).map fun i => Key.switchPoint p i) ++
    badDay.map (fun i => Key.specialDay i)
  minKey faults

end Sys2Proof.Machine
end

