-- ==== Sys2Proof/Machine/Accounts.lean ====
section
/-! DEFINITION. Accounts and the ledger port: RECORD_REQUEST, BALANCE_REQUEST, WRITE_RECORD, SELECT_ACCOUNT (01 R25 to R27; 11 R277 to
R281, R290, R300). -/

namespace Sys2Proof.Machine

/-- A byte string made n bytes long with zeros. -/
def padTo (n : Nat) (b : Bytes) : Bytes := b.take n ++ List.replicate (n - b.length) 0

/-- Bytes 0 to 59 of a record (11, table *Account record, 64 bytes*). -/
def Account.body (a : Account) : Bytes :=
  leBytes 8 a.number ++ leBytes 8 (ofSigned 64 a.balance) ++ leBytes 8 (ofSigned 64 a.creditLimit) ++ padTo 10 a.cardHash ++
  padTo 10 a.contractHash ++ leBytes 4 a.lastSession ++ leBytes 1 a.tariffClass ++ leBytes 1 a.friendlyClass ++ leBytes 1 a.status ++
  leBytes 1 a.stsIndex ++ leBytes 1 a.keyRevision ++ leBytes 1 a.maxPower ++ leBytes 4 a.validUntil ++ [0, 0]

/-- The 64 bytes of a record. -/
def Account.image (a : Account) : Bytes := a.body ++ leBytes 4 a.check

/-- Does the record pass its check value (11 R277)? -/
def Account.sound (a : Account) : Bool := decide (a.check = crc32c a.body)

/-- The record with its check value computed anew. -/
def Account.seal (a : Account) : Account := { a with check := crc32c a.body }

/-- Does a record hold its account number, card and contract: active or blocked (11 R280)? -/
def Account.holds (a : Account) : Bool := decide (a.status = 1 ∨ a.status = 2)

/-- An account record with the fields of a request (01 R25): balance 0 where it is new. -/
def recordOf (f : AccountFields) (balance : Int) : Account :=
  (⟨f.number, balance, f.creditLimit, padTo 10 f.cardHash, padTo 10 f.contractHash, f.lastSession, f.tariffClass, f.friendlyClass, f.status,
    f.stsIndex, f.keyRevision, f.maxPower, f.validUntil, 0⟩ : Account).seal

/-- The fields of a record. -/
def Account.fields (a : Account) : AccountFields :=
  ⟨a.number, a.creditLimit, a.cardHash, a.contractHash, a.lastSession, a.tariffClass, a.friendlyClass, a.status, a.stsIndex, a.keyRevision,
   a.maxPower, a.validUntil⟩

/-- Put a record at a slot, slots rising. -/
def setSlotIn {α : Type} : List (Nat × α) → Nat → α → List (Nat × α)
  | [], n, a => [(n, a)]
  | (k, b) :: r, n, a => if n < k then (n, a) :: (k, b) :: r else if n = k then (n, a) :: r else (k, b) :: setSlotIn r n a

/-- The lowest slot not in use (11, *Writing records*). -/
def lowestFree {α : Type} : List (Nat × α) → Nat → Nat
  | [], n => n
  | (k, _) :: r, n => if k = n then lowestFree r (n + 1) else n

/-! ### The indexes (11 R279) -/

/-- Places of an index. -/
def indexPlaces : Nat := 327680

/-- The entry a search starts at, and the tag, of an index hash. -/
def indexStart (h : Bytes) : Nat := leVal (h.take 4) % indexPlaces
def indexTag (h : Bytes) : Nat := leVal ((h.drop 4).take 2) % 2 ^ 14

/-- The entry at a place; 0 is an empty one. -/
def indexAt (t : List (Nat × Nat)) (n : Nat) : Nat := match t.find? fun (x : Nat × Nat) => x.1 = n with | some (_, w) => w | none => 0

/-- The first place from one on, by linear probing, whose entry passes a test. -/
def probe (t : List (Nat × Nat)) (test : Nat → Bool) : Nat → Nat → Option Nat
  | 0, _ => none
  | fuel + 1, n => if test (indexAt t n) then some n else probe t test fuel ((n + 1) % indexPlaces)

/-- Enter a slot under a hash, at the first empty or deleted entry (log entry 9). -/
def indexEnter (t : List (Nat × Nat)) (slot : Nat) (h : Bytes) : List (Nat × Nat) :=
  match probe t (fun w => decide (w % 2 ^ 18 = 0 ∨ w % 2 ^ 18 = 0x3FFFF)) indexPlaces (indexStart h) with
  | some n => setSlotIn t n (indexTag h * 2 ^ 18 + slot + 1)
  | none => t

/-- Mark the entry of a slot under a hash deleted: 0x3FFFF in [17:0]. -/
def indexDelete (t : List (Nat × Nat)) (slot : Nat) (h : Bytes) : List (Nat × Nat) :=
  match probe t (fun w => decide (w % 2 ^ 18 = slot + 1)) indexPlaces (indexStart h) with
  | some n => setSlotIn t n (indexTag h * 2 ^ 18 + 0x3FFFF)
  | none => t

/-- A slot's key in an index changes. -/
def rekey (t : List (Nat × Nat)) (slot : Nat) (old new : Option Bytes) : List (Nat × Nat) :=
  if old = new then t
  else
    let t := match old with | some h => indexDelete t slot h | none => t
    match new with | some h => indexEnter t slot h | none => t

/-- The hash of a record in each index: of its number as U64, of its card and of its contract; none where it has none. -/
def indexHashes (a : Option Account) : Vector (Option Bytes) 3 :=
  let stored (h : Bytes) : Option Bytes := if padTo 10 h = List.replicate 10 0 then none else some (padTo 10 h)
  match a with
  | none => Vector.replicate 3 none
  | some a => #v[some (Config.sha256 (leBytes 8 a.number)), stored a.cardHash, stored a.contractHash]

/-- Slots of the ledger (11 R277). -/
def ledgerSlots : Nat := 250000

namespace Dev

/-- The record in a slot. -/
def acct (d : Dev) (slot : Nat) : Option Account := (d.ledger.accounts.find? fun (x : Nat × Account) => x.1 = slot).map (·.2)

/-- Look an account up by number (11 R279). -/
def findNumber (d : Dev) (n : Nat) : Option (Nat × Account) :=
  if n = 0 then none else d.ledger.accounts.find? fun (x : Nat × Account) => x.2.number = n

/-- Look an account up by card or contract hash: one that holds it, else any (11 R279). All zero bytes mean none. -/
def findHash (d : Dev) (get : Account → Bytes) (h : Bytes) : Option (Nat × Account) :=
  let h := padTo 10 h
  if h = List.replicate 10 0 then none
  else match d.ledger.accounts.find? fun (x : Nat × Account) => get x.2 = h ∧ x.2.holds with
    | some x => some x
    | none => d.ledger.accounts.find? fun (x : Nat × Account) => get x.2 = h

/-- Write a record, and keep the indexes consistent with it (11 R279). A record with Status 0 frees its slot. -/
def putAcct (d : Dev) (slot : Nat) (a : Account) : Dev :=
  let l := d.ledger.accounts
  let old := indexHashes (d.acct slot)
  let new := indexHashes (if a.status = 0 then none else some a)
  { d with ledger := { d.ledger with
    index := Vector.ofFn fun i => rekey d.ledger.index[i] slot old[i] new[i]
    accounts := if a.status = 0 then l.filter (fun (x : Nat × Account) => x.1 ≠ slot) else setSlotIn l slot a } }

/-- The ledger port serves requests: power, MRAM, and no shutdown begun (03 R73, table *Rail monitors*). -/
def ledgerUp (d : Dev) : Bool := d.powered && d.rail .vddMem && decide (d.power.shutdownStep = 0)

/-- What is wrong with a record request, as an abort code (11 R280, R281). -/
def recordFault (d : Dev) (f : AccountFields) : Option Nat :=
  let old := d.findNumber f.number
  let taken (get : Account → Bytes) (h : Bytes) : Bool :=
    decide (padTo 10 h ≠ List.replicate 10 0) &&
      d.ledger.accounts.any fun (x : Nat × Account) => x.2.holds && decide (x.2.number ≠ f.number ∧ get x.2 = padTo 10 h)
  if f.number = 0 then some Code.range
  else if old.any fun x => !x.2.sound then some Code.memoryError
  else if taken Account.cardHash f.cardHash || taken Account.contractHash f.contractHash then some Code.range
  else if f.status = 0 ∧ old.any fun x => x.2.balance ≠ 0 then some Code.range
  else if old.isNone ∧ ledgerSlots ≤ lowestFree d.ledger.accounts 0 then some Code.range
  else none

/-- A record request (01 R25; 11 R280): the stored balance stays, the other fields are written. -/
def recordRequest (d : Dev) (f : AccountFields) : Dev :=
  match d.findNumber f.number with
  | some (n, a) => d.putAcct n (recordOf f a.balance)
  | none => if f.status = 0 then d else d.putAcct (lowestFree d.ledger.accounts 0) (recordOf f 0)

/-! ### Token state (11 R300) -/

/-- newest and back of a slot; both 0 before the first token. -/
def tokenWord (d : Dev) (slot : Nat) : Nat × Nat :=
  match d.ledger.tokens.find? fun (x : Nat × Nat × Nat) => x.1 = slot with
  | some (_, w) => w
  | none => (0, 0)

end Dev

/-- The floor of a token-state word, in minutes (11 R300). -/
def tokenFloor (w : Nat × Nat) : Int := (w.1 : Int) - 60 * w.2

namespace Dev

/-- Is a token of an account neither too old nor used (11 R300)? -/
def tidOk (d : Dev) (slot account tid : Nat) : Bool :=
  decide (tokenFloor (d.tokenWord slot) < tid) && !(d.ledger.memory.any fun (x : Nat × Nat × Nat) => x.1 = account ∧ x.2.1 = tid)

/-- Take a token into the token state (11 R300): w is TidWindowHours. -/
def acceptTid (d : Dev) (slot account tid : Nat) : Dev :=
  let word := d.tokenWord slot
  let fl := max (tokenFloor word) ((tid : Int) - 60 * d.nat Key.tidWindowHours)
  let newest := max word.1 tid
  let back := min 255 (((newest : Int) - fl) / 60).toNat
  let tokens := setSlotIn d.ledger.tokens slot (newest, back)
  let d := { d with ledger := { d.ledger with tokens := tokens } }
  let d : Dev := if d.ledger.memory.length < 64 then d
    else match d.ledger.memory with
      | [] => d
      | (b, t, _) :: rest =>
        let d := { d with ledger := { d.ledger with memory := rest } }
        match d.findNumber b with
        | none => d
        | some (n, _) =>
          let w := d.tokenWord n
          { d with ledger := { d.ledger with tokens := setSlotIn d.ledger.tokens n (w.1, min w.2 ((w.1 - t) / 60)) } }
  { d with ledger := { d.ledger with memory := d.ledger.memory ++ [(account, tid, d.ledger.order)], order := d.ledger.order + 1 } }

/-- A sum held in 64 bits: outside the format the manual states no result, and the value is free (log entry 37). -/
def fit64 (d : Dev) (x : Int) : Int × Dev :=
  if -(2 ^ 63 : Int) ≤ x ∧ x < 2 ^ 63 then (x, d) else (toSigned 64 d.draw.1, d.draw.2)

/-- May a balance change: the ledger port serves, and no lost ring store stops Heartwood (09 R240)? -/
def balancesMove (d : Dev) : Bool := d.ledgerUp && !d.energy.lost

/-- A balance request on the record of a slot (01 R25, R27; 11 R290): none when its check fails. For reasons 2 to 5 the token state
moves with the balance. -/
def balanceRequest (d : Dev) (slot : Nat) (amount : Int) (tid : Option Nat) : Option Dev :=
  match d.acct slot with
  | none => none
  | some a =>
    if !d.balancesMove || !a.sound then none
    else
      let sum := d.fit64 (a.balance + amount)
      let d := sum.2.putAcct slot { a with balance := sum.1 }.seal
      some (match tid with | some t => d.acceptTid slot a.number t | none => d)

/-- Heartwood finds a record corrupt: event 0x0503, counted (01 R27). -/
def ledgerCorrupt (d : Dev) (slot : Nat) : Dev :=
  let n := match d.acct slot with | some a => a.number | none => 0
  (d.legal 0x0503 0xFF (leBytes 8 n ++ leBytes 4 slot)).bump Key.ledgerCorruptCount

end Dev

/-- RECORD_REQUEST (01 R25, R26; 11 R280): only from the active Sapwood core, and without a change of the balance. DESIGN CHOICE (log entry 69):
of a record request and a balance request that arrive together, the one that stands first in the queue goes first. -/
def execRecordRequest (tag : BitVec 5) (f : AccountFields) (balance : Option Int) (s : State) : Out3 State :=
  s.onDev fun d =>
    if !d.powered then d
    else if initiator tag ≠ some (.core d.activeSapwood) then refuseTransaction d tag.toNat .ledgerPort 0
    else
      let stored := match d.findNumber f.number with | some (_, a) => a.balance | none => 0
      if balance.any fun b => b ≠ stored then refuseTransaction d tag.toNat .ledgerPort 0
      else if !d.ledgerUp ∨ (d.recordFault f).isSome then d.say (.fabric tag.toNat .error)
      else (d.recordRequest f).say (.fabric tag.toNat .done)

/-- Does a balance request with this reason carry a TID (11, table *Balance request reasons*)? -/
def carriesTid (reason : Nat) : Bool := decide (2 ≤ reason ∧ reason ≤ 5)

/-- BALANCE_REQUEST (01 R25 to R27; 11 R290, R300): only from Heartwood. -/
def execBalanceRequest (tag : BitVec 5) (account : Nat) (amount : Int) (reason : Nat) (tid : Option Nat) (s : State) : Out3 State :=
  s.onDev fun d =>
    if !d.powered then d
    else if initiator tag ≠ some (.core .heartwood) then refuseTransaction d tag.toNat .ledgerPort 0
    else match d.findNumber account with
      | none => d.say (.fabric tag.toNat .error)
      | some (slot, a) =>
        let tid := if carriesTid reason then tid else none
        if !d.balancesMove then d.say (.fabric tag.toNat .error)
        else if !a.sound then (d.ledgerCorrupt slot).say (.fabric tag.toNat .error)
        else if tid.any fun t => !d.tidOk slot account t then d.say (.fabric tag.toNat .error)
        else match d.balanceRequest slot amount tid with
          | some d => d.say (.fabric tag.toNat .done)
          | none => d.say (.fabric tag.toNat .error)

/-! ### Hosts (11 R281, R305) -/

/-- The account fields of the 64 bytes of a WriteRecord value (11 R281). -/
def fieldsOf (b : Bytes) : AccountFields :=
  let num (o n : Nat) : Nat := leVal ((b.drop o).take n)
  ⟨num 0 8, toSigned 64 (num 16 8), (b.drop 24).take 10, (b.drop 34).take 10, num 44 4, num 48 1, num 49 1, num 50 1, num 51 1, num 52 1,
   num 53 1, num 54 4⟩

/-- What is wrong with a WriteRecord value by itself (11 R281). -/
def writeRecordFault (b : Bytes) : Option Nat :=
  let f := fieldsOf b
  if ((b.drop 8).take 8 ++ (b.drop 58).take 6).any fun x => x ≠ 0 then some Code.encoding
  else if 99999999999 < f.number ∨ f.number = 0 ∨ f.creditLimit < 0 ∨ 2 ^ 62 < f.creditLimit ∨ 7 < f.tariffClass ∨
      (7 < f.friendlyClass ∧ f.friendlyClass ≠ 0xFF) ∨ 3 < f.status ∨ 99 < f.stsIndex ∨ f.keyRevision = 0 ∨ 9 < f.keyRevision then
    some Code.range
  else none

/-- WRITE_RECORD (11 R280, R281). -/
def writeRecordServe (a : Ack) (v : Val) (d : Dev) : Dev :=
    let b := match v with | .bytes b => b | .int _ => []
    match writeRecordFault b with
    | some c => d.abort a c
    | none =>
      if !d.ledgerUp then d.abort a Code.memoryError
      else match d.recordFault (fieldsOf b) with
        | some c => d.abort a c
        | none => (d.recordRequest (fieldsOf b)).ok a

def execWriteRecord (m : HostMsg) (data : Bytes) (s : State) : Out3 State := s.onDev (cmdWrite m Key.writeRecord false data writeRecordServe)

/-- SELECT_ACCOUNT (11 R305, object 0x5010.01): an RW object, written at the next tick boundary (05 R112). -/
def selectAccountServe (a : Ack) (v : Val) (d : Dev) : Dev := d.enqueue (.write a Key.selectAccount v)

def execSelectAccount (m : HostMsg) (data : Bytes) (s : State) : Out3 State := s.onDev (cmdWrite m Key.selectAccount false data selectAccountServe)

end Sys2Proof.Machine
end

