-- ==== Sys2Proof/Machine/Energy.lean ====
section
/-! DEFINITION. Energy: Heartwood's close of a period, directions, no-load test, registers, sessions, pending periods, and the start of a
commit; PERIOD_END, REFERENCE_TIMEOUT, LATE_COMMIT (09 R219 to R235, R241; 10 R249, R251; 11 R285; 01 R32). -/

namespace Sys2Proof.Machine

/-- The readout of an accumulator in mWh or mvarh (09 R227). -/
def readout (acc : Nat) : Nat := acc * 1000 / 2 ^ 48

/-- Does an energy in 2^-48 Wh reach P_nl · T (09 R225)? V in mV, I in mA, the period length in 1/1,024 sample. -/
def reachesNoLoad (s : EnergySet) (mode len : Nat) (e : Nat) : Bool :=
  let vi := if mode = 3 then s.nomVdc * s.nomIdc else s.nomV * s.nomI
  decide (s.noLoad * vi * len * 2 ^ 48 ≤ e * (10 ^ 12 * 32768000 * 3600))

/-- Does an energy lie above P_nl · T? -/
def exceedsNoLoad (s : EnergySet) (mode len : Nat) (e : Nat) : Bool :=
  let vi := if mode = 3 then s.nomVdc * s.nomIdc else s.nomV * s.nomI
  decide (s.noLoad * vi * len * 2 ^ 48 < e * (10 ^ 12 * 32768000 * 3600))

/-- The used phase currents of a mode, as slots. -/
def currentSlots (mode : Nat) : List (Fin 8) :=
  match mode with
  | 1 => [3] | 2 => [3, 4, 5] | 3 => [3] | _ => []

/-- A slot's mean square times full scale squared, not divided: Σ y² · fs². -/
def PeriodSum.power (r : PeriodSum) (k : Fin 8) : Nat := r.sq2[k] * r.fs[k] * r.fs[k]

/-- Does the period qualify under the neutral-mismatch check (09 R242, R243)? r is scaled with the full scale of IL1. -/
def PeriodSum.neutralBad (r : PeriodSum) : Bool :=
  let x := r.sr * r.fs[3] * r.fs[3]
  let big := ((currentSlots r.mode ++ [6]).map r.power).foldl max 0
  decide (r.mode = 1 ∨ r.mode = 2) && decide (r.set.nmRel * r.set.nmRel * big < x * 1000000) &&
    decide (r.set.nmAbs * r.set.nmAbs * (r.n * 2 ^ 56) < x)

/-- A period's power in mW: E · 1000 · 3600 · 32,768,000 / (2^48 · length) (09, objects 0x3q10). -/
def milliWatts (e : Int) (len : Nat) : Int := if len = 0 then 0 else divRound (e * (1000 * 3600 * 32768000)) (2 ^ 48 * len)

/-- Does the period qualify under the reverse-energy check (09 R242, R245)? -/
def PeriodSum.reverseBad (r : PeriodSum) (ep : Vector Int 3) : Bool :=
  let net := isum ep.toList
  (decide (net < 0) && exceedsNoLoad r.set r.mode r.len net.natAbs) ||
    (meteredPhases r.mode).any fun k => decide (ep[k] < 0) && exceedsNoLoad r.set r.mode r.len ep[k].natAbs

/-- Does a used phase current exceed 1 % of nominal (09 R242, R245)? -/
def PeriodSum.flows (r : PeriodSum) : Bool :=
  let nom := if r.mode = 3 then r.set.nomIdc else r.set.nomI
  (currentSlots r.mode).any fun k => decide (nom * nom * (r.n * 2 ^ 56) < r.power k * 10000)

/-- The reactive register of a period: 0 to 3 for Q1 to Q4 (09 R223); `neg` is the sign of E_net before the no-load test. -/
def quadrantOf (neg : Bool) (q : Int) : Fin 4 := if neg then (if 0 < q then 1 else 2) else (if 0 < q then 0 else 3)

/-- A period's energies added to registers and to a tariff, 1 to 16 (09 R222, R223, R228; 10 R251). -/
def Entity.addPeriod (x : Entity) (enet qnet : Int) (neg : Bool) (tariff : Nat) (session : Bool) : Entity :=
  let t : Fin 16 := ⟨(tariff - 1) % 16, Nat.mod_lt _ (by decide)⟩
  let x := if 0 < enet then { x with imp := x.imp + enet.natAbs, timp := vmod x.timp t (· + enet.natAbs) }
    else if enet < 0 then { x with exp := x.exp + enet.natAbs, texp := vmod x.texp t (· + enet.natAbs) } else x
  let x := if !session then x
    else if 0 < enet then { x with simp := x.simp + enet.natAbs }
    else if enet < 0 then { x with sexp := x.sexp + enet.natAbs } else x
  if qnet = 0 then x else { x with q := vmod x.q (quadrantOf neg qnet) (· + qnet.natAbs) }

namespace Dev

def setEnergy (d : Dev) (f : Energy → Energy) : Dev := { d with energy := f d.energy }
def setBill (d : Dev) (f : Billing → Billing) : Dev := d.setEnergy fun n => { n with bill := f n.bill }
def live (d : Dev) (e : EntityId) : Entity := d.energy.live[e]
def setLiveEntity (d : Dev) (e : EntityId) (f : Entity → Entity) : Dev := d.setEnergy fun n => { n with live := vmod n.live e f }

/-- The registers of the newest committed ring; those at start where none is committed (01 R30). -/
def committedEnts (d : Dev) : Vector Entity 9 := match d.energy.newest with | some r => r.ents | none => Vector.replicate 9 Entity.zero

/-- CommitNumber of the newest committed ring (09, 0x3183.01). -/
def committedNumber (d : Dev) : Nat := match d.energy.newest with | some r => r.number | none => 0

/-- The 32 tariff readouts of an entity: import T1 to T16, export T1 to T16 (09 R227; 11 R285). -/
def tariffReadouts (x : Entity) : Vector Nat 32 :=
  Vector.ofFn fun (i : Fin 32) => if h : i.val < 16 then readout (x.timp[i.val]'h) else readout (x.texp[i.val - 16]'(by omega))

/-- A price row of staged group 0x24: import T1 to T16, export T1 to T16, fee (11 R285). -/
def priceRow (d : Dev) (cls : Nat) : Vector Nat 33 :=
  Vector.ofFn fun (i : Fin 33) =>
    if i.val < 16 then d.nat (Key.importPriceT cls i) else if i.val < 32 then d.nat (Key.exportPriceT cls (i - 16)) else d.nat (Key.sessionFee cls)

/-- The opening part of a bound session, at the close of its opening period (11 R285; 12 R318). -/
def openPart (d : Dev) (p : PortId) (l : Live) (b : Binding) : Dev :=
  let cls := match d.acct b.slot with | some a => a.tariffClass | none => 0
  let part : RecordOpening := {
    sessionId := l.sid, port := p, priceClass := cls, account := b.account, openTime := l.openUs, openCommit := d.committedNumber
    readouts := tariffReadouts (d.committedEnts[portEntity p]), priceSetId := d.nat Key.priceSetId, prices := d.priceRow cls }
  let d := d.setBinding p (some { b with part := some part })
  let d := match l.number with
    | some r => { d with heart := { d.heart with records := setSlotIn d.heart.records (r % 8192) (.opened r part) } }
    | none => d
  ((d.putNat (Key.priceClass p) cls).putNat (Key.openingCommit p) d.committedNumber).putNat (Key.debitApplied p) 0

/-! ### Commit start (09 R231, R234) -/

/-- Is a period late in a ring: a later one of its entity is in it too (R234)? -/
def hasLater (l : List Closed) (c : Closed) : Bool := l.any fun x => x.e = c.e && decide (c.seq < x.seq)

/-- An entity of the ring that holds two periods. -/
def foldedIn (l : List Closed) (e : EntityId) : Bool := decide (1 < (l.filter fun x => x.e = e).length)

/-- The ring that a commit writes: everything closed up to its start (09 R230, R231, R234). -/
def buildRing (d : Dev) (entries : List Closed) (kind event base : Nat) : Ring :=
  let ports := entries.filter fun c => c.e.val < 8
  let folded (e : EntityId) := foldedIn entries e
  let site (x : Entity) : Entity := { x with
    enet := isum (ports.map fun c => c.enet), eabs := (ports.map fun c => absSum c.ep).sum
    qf := ports.foldl (fun m c => m ||| c.qf ||| (if folded c.e then 16 else 0)) 0 }
  { number := 0, kind := kind
    flags := (if entries.any fun c => folded c.e then 1 else 0) + (if d.time.unknown then 2 else 0) + (if d.time.i6Lost then 4 else 0)
    time := d.nowUs, event := event, mask := entries.foldl (fun m c => setBit m c.e.val true) 0, fabric := d.time.fabric, base := base
    ents := Vector.ofFn fun (e : Fin 9) =>
      let x := d.energy.live[e]
      let x := if folded e then { x with qf := x.qf ||| 16 } else x
      if e.val = 8 then site x else x
    bill := d.energy.bill
    calendar := (d.nat Key.activeCalendarId, d.nat Key.activeCalendarCheck), armed := decide (d.nat Key.passiveState = 1)
    setInstant := match d.tariff.sets with | s :: _ => s.instant | [] => 0
    fold := Vector.ofFn fun (e : Fin 9) =>
      (((entries.filter fun c => c.e = e).filter (hasLater entries)).getLast?).map fun c => (c.seq, c.enet, c.qf ||| 16) }

/-- The values now of the legal objects that show older ones (01 R30). -/
def unshown (d : Dev) : Store := d.tariff.shown.map fun x => (x.1, d.val x.1)

/-- A commit starts when a period has been closed since the previous one started and none is running; periods closed at the same instant
belong to it (09 R231). -/
def wantCommit (d : Dev) : Dev :=
  let n := d.energy
  let same := match n.commit with | none => true | some c => decide (c.ring.fabric = d.time.fabric ∧ c.ring.time = d.nowUs ∧ n.fails = 0)
  if n.lost ∨ !same ∨ (n.batch = [] ∧ n.commit.isNone) then d
  else
    let old := match n.commit with | some c => c.entries | none => []
    let oldCloses := match n.commit with | some c => c.closes | none => []
    let entries := old ++ n.batch
    let late (c : Closed) : Closed := if foldedIn entries c.e then { c with qf := c.qf ||| 16 } else c
    let mark (p : PortId) (l : Live) : Live := if foldedIn entries (portEntity p) then { l with quality := l.quality ||| 16 } else l
    d.setEnergy fun n => { n with
      commit := some ⟨entries.map late, (oldCloses ++ n.closes).map fun (p, l) => (p, mark p l), d.buildRing entries 0 0 0, d.unshown⟩
      batch := [], closes := []
      sessions := Vector.ofFn fun p => (n.sessions[p]).map (mark p) }

/-! ### Closing a period (09 R219 to R229, R241; 10 R251) -/

/-- Does a period with this end wait for a boundary set (10 R249, R251)? -/
def waitsForSet (d : Dev) (endUs : Nat) : Bool := d.tariff.sets.any fun s => s.instant ≤ endUs

/-- The energies of a port's period, with BypassBilling in place of the phase where it applies (09 R220, R243). -/
def periodEnergies (d : Dev) (p : PortId) (r : PeriodSum) : Vector Int 3 × Vector Int 3 :=
  if r.mode = 1 ∧ r.set.bypass ∧ d.energy.neutral[p].latched ∧ r.neutralBad ∧ r.power 3 < r.power 6 then
    (#v[energyOf r.spn r.fs[0] r.fs[6], 0, 0], #v[energyOf r.sqn r.fs[0] r.fs[6], 0, 0])
  else (r.active, r.reactive)

/-- Contactors confirmed open, and confirmed closed. -/
def confirmedOpen (d : Dev) (p : PortId) : Bool := !d.safety.ports[p].enA && !d.safety.ports[p].enB && !d.safety.ports[p].fbA && !d.safety.ports[p].fbB
def confirmedClosed (d : Dev) (p : PortId) : Bool := d.safety.ports[p].fbA && d.safety.ports[p].fbB

/-- The session of a port in the period that closes: it opens in it, and the period then belongs to it (07 R178; 09 R228; 11 R285). -/
def enterSession (d : Dev) (p : PortId) : Dev :=
  match d.energy.sessions[p] with
  | some l =>
    if l.opening then
      let d := (d.setLive p (some { l with opening := false, inside := true })).setLiveEntity (portEntity p) fun x =>
        { x with simp := 0, sexp := 0, sid := l.sid }
      match d.ledger.bind[p] with
      | some b => d.openPart p l b
      | none => d
    else d
  | none => d

/-- Quality flags of a period of a port (09 R229): the datapath's own, and what Heartwood adds. -/
def periodQf (d : Dev) (p : PortId) (r : PeriodSum) (small partialEnd : Bool) : Nat :=
  let n := d.energy
  let qf := setBit r.flags 5 small
  let qf := setBit qf 6 n.clearing[p].latched
  let qf := setBit qf 7 n.neutral[p].latched
  let qf := setBit qf 8 n.missing.latched
  let qf := setBit qf 9 n.reverse[p].latched
  let qf := setBit qf 10 n.magnet.latched
  let qf := setBit qf 12 (qf.testBit 12 || partialEnd)
  setBit qf 13 d.time.unknown

/-- State of a port's entity after a period (09, table *Entity block*). -/
def entityState (d : Dev) (p : PortId) (r : PeriodSum) (inside closing partialEnd : Bool) : Nat :=
  let old := (d.live (portEntity p)).state
  let used := (usedSlots r.mode).any fun k => (d.chan (chanOf p k)).discard ≠ 0
  let st := if inside then (if closing then 0 else 1) else if old.testBit 1 then old % 4 else 0
  let st := setBit (setBit st 2 used) 3 (d.confirmedClosed p)
  if partialEnd ∧ inside ∧ !closing then setBit st 1 true else st

/-- Registers of the port and the site take a period's energies, or the period waits for its boundary set (09 R223, R226; 10 R251). -/
def addClosed (d : Dev) (p : PortId) (r : PeriodSum) (qf : Nat) (ea qa : Int) (neg inside : Bool) : Dev :=
  let e := portEntity p
  if d.waitsForSet r.endUs then d.setBill fun b => { b with pend := vmod b.pend e (· ++ [⟨r.seq, r.endUs, qf, ea, qa, neg, inside⟩]) }
  else
    let tariff := d.energy.bill.tariff
    ((d.setLiveEntity e fun x => x.addPeriod ea qa neg tariff inside).setLiveEntity 8 fun x => x.addPeriod ea qa neg tariff false).setBill
      fun b => { b with
        quality := (vmod b.quality e (· ||| qf)).set 8 (b.quality[8] ||| qf), profileQuality := b.profileQuality ||| qf
        billFlags := setBit b.billFlags 4 (b.billFlags.testBit 4 || d.time.unknown) }

/-- What the commit of a period of a port needs (09 R242). -/
def closedEntry (d : Dev) (p : PortId) (r : PeriodSum) (qf : Nat) (ep eq : Vector Int 3) : Closed :=
  let enet := isum ep.toList
  let worst := (meteredPhases r.mode).foldl (fun (m : Int) k => min m ep[k]) enet
  let rms := rmsOf r.sr r.n r.fs[3]
  let flow := ((currentSlots r.mode).map fun k => rmsOf r.sq2[k] r.n r.fs[k]).foldl max 0
  { e := portEntity p, seq := r.seq, enet := enet, qf := qf, endUs := r.endUs, len := r.len, mode := r.mode, ep := ep, eq := eq
    qnet := isum eq.toList, rms := rms
    checks := #v[(r.neutralBad, rms), (!d.flag (Key.exportAllowed p) && r.reverseBad ep, -(milliWatts worst r.len)),
      (d.confirmedOpen p && r.flows, flow)] }

/-- A session carries its periods' quality, and ends with its closing period (07 R178; 12 R318). -/
def sessionPeriod (d : Dev) (p : PortId) (qf : Nat) : Dev :=
  match d.energy.sessions[p] with
  | none => d
  | some l =>
    let l := if l.inside then { l with
      quality := l.quality ||| qf, flags := setBit l.flags 3 (l.flags.testBit 3 || d.time.unknown) } else l
    if l.inside && l.closing then (d.setLive p none).setEnergy fun n => { n with closes := n.closes ++ [(p, l)] }
    else d.setLive p (some l)

/-- The registers of a port take a closed period, and its entry joins those to commit. -/
def closeWith (d : Dev) (p : PortId) (r : PeriodSum) (partialEnd : Bool) (ep eq : Vector Int 3) : Dev :=
  let enet := isum ep.toList
  let ok := reachesNoLoad r.set r.mode r.len enet.natAbs
  let ea := if ok then enet else 0
  let qa := if reachesNoLoad r.set r.mode r.len (isum eq.toList).natAbs then isum eq.toList else 0
  let qf := d.periodQf p r (!ok && decide (enet ≠ 0)) partialEnd
  let inside := (d.energy.sessions[p]).any fun l => l.inside
  let closing := (d.energy.sessions[p]).any fun l => l.inside && l.closing
  let tariff := d.energy.bill.tariff
  let d := d.addClosed p r qf ea qa (decide (enet < 0)) inside
  let st := d.entityState p r inside closing partialEnd
  let d := d.setLiveEntity (portEntity p) fun x => { x with
    seq := r.seq, len := r.len, enet := enet, eabs := absSum ep, qf := qf, tariff := tariff, state := st }
  let entry := d.closedEntry p r qf ep eq
  (d.setEnergy fun n => { n with batch := n.batch ++ [entry] }).sessionPeriod p qf

/-- Close a period of a port. `partialEnd` marks the partial period of a final commit (09 R235). -/
def closePort (d : Dev) (p : PortId) (r : PeriodSum) (partialEnd : Bool) : Dev :=
  let d := d.enterSession p
  d.closeWith p r partialEnd (d.periodEnergies p r).1 (d.periodEnergies p r).2

/-- Close a period of the site: its record and the missing-neutral check (09 R229, R242, R244). -/
def closeSite (d : Dev) (r : PeriodSum) : Dev :=
  let nom := r.set.nomV
  let present := (List.finRange 3).all fun (k : Fin 3) =>
    let k : Fin 8 := ⟨k.val, by omega⟩
    decide (nom * nom * (r.n * 2 ^ 56) < r.power k * 4)
  let off := decide (15 * 15 * nom * nom * 9 * (r.n * 2 ^ 56) < r.sr * 10000)
  let rms := if r.n = 0 then 0 else Nat.sqrt (r.sr / (9 * r.n * 2 ^ 56))
  let d := d.setLiveEntity 8 fun x => { x with seq := r.seq, len := r.len, tariff := d.energy.bill.tariff, state := 0, sid := 0 }
  let entry : Closed := {
    e := 8, seq := r.seq, enet := 0, qf := r.flags, endUs := r.endUs, len := r.len, mode := 0, ep := Vector.replicate 3 0
    eq := Vector.replicate 3 0, qnet := 0, rms := rms
    checks := #v[(present && off, rms), (false, 0), (false, 0)] }
  d.setEnergy fun n => { n with batch := n.batch ++ [entry] }

/-- Heartwood closes what the datapath holds of an entity, oldest first. A lost ring store closes nothing (R240); while four slots have
failed, every period counts as uncommitted (R232, R239). -/
def closeHeld (d : Dev) (e : EntityId) : Dev :=
  let held := (d.meter e).held
  if held = [] ∨ !d.heartwoodUp then d
  else
    let d := d.setMeter e fun m => { m with held := [] }
    if d.energy.lost then d
    else match entityPort e with
      | some p =>
        if 4 ≤ d.energy.fails then
          d.setEnergy fun n => { n with gap := vmod n.gap p (· + (held.map fun r => absSum r.active).sum) }
        else (held.foldl (fun d r => d.closePort p r false) d).wantCommit
      | none => if 4 ≤ d.energy.fails then d else (held.foldl (fun d r => d.closeSite r) d).wantCommit

/-- PERIOD_END (08 R199 to R201; 01, table *Sample-to-bill sequence*): a boundary that is due is placed, and with an event of the entity that has
crossed on 0x04 Heartwood closes every period it has missed from the sums the datapath holds (02 R54, R56, R59). -/
def periodEnd (e : EntityId) (d : Dev) : Dev :=
  if !d.sampling then d
  else
    let d : Dev := if d.due e then d.roll e (d.ending e) else d
    if (d.meter e).told then (d.setMeter e fun m => { m with told := false }).closeHeld e else d

/-- REFERENCE_TIMEOUT (08 R200). -/
def referenceTimeout (e : EntityId) (d : Dev) : Dev :=
  match d.referenceTimeoutRoll e with
  | some d => if (d.meter e).told then (d.setMeter e fun m => { m with told := false }).closeHeld e else d
  | none => d

/-- Has a closed period of the entity missed its commit, 4 ms after its end, without an event that says so (01 R32)? -/
def isLate (d : Dev) (e : EntityId) (x : Closed) : Bool := decide (x.e = e) && !x.late && decide (x.endUs + 4000 ≤ d.nowUs)

/-- The energy side once the late periods of an entity are marked: a commit that has not begun to write its contents again gives its periods
back to the batch, where they wait for the ring of the next; one that repeats its contents (09 R232) goes on. -/
def foldLate (d : Dev) (e : EntityId) (n : Energy) : Energy :=
  let mark (x : Closed) : Closed := if d.isLate e x then { x with late := true } else x
  match n.commit with
  | some c =>
    if n.fails = 0 ∧ c.entries.any (d.isLate e) then
      { n with commit := none, batch := (c.entries ++ n.batch).map mark, closes := c.closes ++ n.closes }
    else { n with commit := some { c with entries := c.entries.map mark }, batch := n.batch.map mark }
  | none => { n with batch := n.batch.map mark }

/-- LATE_COMMIT (01 R32; 09 R234): the commit of a period of the entity is not complete 4 ms after its end, be it running, repeated after
a read-back, or waiting for the one that runs. The event is logged once for the period, and the period is committed with the next. -/
def lateCommit (e : EntityId) (d : Dev) : Dev :=
  let open_ := (match d.energy.commit with | some c => c.entries | none => []) ++ d.energy.batch
  if d.heartwoodUp ∧ open_.any (d.isLate e) then (d.legal 0x0202 e (leBytes 8 (d.energy.number + 1))).setEnergy (d.foldLate e) else d

end Dev

def execPeriodEnd (e : EntityId) (s : State) : Out3 State := s.onDev (Dev.periodEnd e)
def execReferenceTimeout (e : EntityId) (s : State) : Out3 State := s.onDev (Dev.referenceTimeout e)
def execLateCommit (e : EntityId) (s : State) : Out3 State := s.onDev (Dev.lateCommit e)

end Sys2Proof.Machine
end

