-- ==== Sys2Proof/Machine/CheckValue.lean ====
section
/-! DEFINITION. Check-value units: WINDOW_ARM, WINDOW_DISARM, CVU_ENTRY, CONTEXT_RELEASE, CONTEXT_WRITE, PROFILE_WRITE,
CVU_CLEAR_COUNTERS (15 R408 to R421). -/

namespace Sys2Proof.Machine

/-- A CRC profile (15 R410). -/
structure Profile where
  width     : Nat
  poly      : Nat
  ini       : Nat
  reflected : Bool
  xorOut    : Nat
deriving DecidableEq, Repr

/-- The profiles in ROM (15, table *ROM profiles*). -/
def romProfile : Nat → Option Profile
  | 0 => some ⟨8, 0x07, 0, false, 0⟩
  | 1 => some ⟨16, 0x1021, 0xFFFF, false, 0⟩
  | 2 => some ⟨32, 0x04C11DB7, 0xFFFFFFFF, true, 0xFFFFFFFF⟩
  | 3 => some ⟨32, 0x1EDC6F41, 0xFFFFFFFF, true, 0xFFFFFFFF⟩
  | 4 => some ⟨64, 0x42F0E1EBA9EA3693, 0, false, 0⟩
  | _ => none

/-- A whole check with a profile. -/
def Profile.check (f : Profile) (b : Bytes) : Nat := crc f.width f.poly f.ini f.reflected f.xorOut b

/-- A check as it stands in the stream (15 R411). -/
def Profile.field (f : Profile) (x : Nat) : Bytes :=
  let b := leBytes (f.width / 8) x
  if f.reflected then b else b.reverse

/-- The tags that own an engine (15, table *Engine allocation*). -/
def ownsEngine (d : Dev) (e : Nat) (i : Initiator) : Bool :=
  match e, i with
  | 0, .core k | 1, .core k => decide (k = .heartwood)
  | 2, i => decide (i = .ledger)
  | 3, .core k => decide (k = .firebreakA)
  | 4, .core k => decide (k = .pe0)
  | 5, .core k => decide (k = .pe1)
  | 6, .core k => decide (k = .pe2)
  | 7, .core k => decide (k = .pe3)
  | 8, .core k | 9, .core k => decide (k = .canopy)
  | 10, .core k | 11, .core k => decide (k = d.activeSapwood)
  | 12, i => decide (i = .can4)
  | 13, .core _ => true
  | 14, .core k => decide (k = .burl ∨ k = d.activeSapwood)
  | 15, .core k => decide (k = .display)
  | _, _ => false

/-- The first few bytes of a string, and the rest of a window of an entry: covered bytes and check field, none where the entry is short
(15 R412, R414). `final` asks for the check field. -/
def splitEntry (w : WindowSet) (checkBytes : Nat) (final : Bool) (entry : Bytes) : Option (Bytes × Bytes) :=
  let body := entry.drop w.offset
  if w.mode = 0 ∨ w.mode = 1 then some (if w.length = 0 then body else body.take w.length, [])
  else if !final then
    if entry.length < w.offset + w.length then none else some (if w.length = 0 then body else body.take w.length, [])
  else if entry.length < w.offset + w.length + checkBytes then none
  else
    let n := if w.length = 0 then body.length - checkBytes else w.length
    some (body.take n, (body.drop n).take checkBytes)

namespace Dev

/-- A profile that may be selected: one in ROM, or a programmable one that has been written. -/
def profileOf (d : Dev) (f : Nat) : Option Profile :=
  match romProfile f with
  | some p => some p
  | none =>
    if f < 8 ∨ d.nat (Key.profileWidth f) = 0 then none
    else some ⟨d.nat (Key.profileWidth f), d.nat (Key.polynomial f), d.nat (Key.profileInit f), d.flag (Key.reflected f), d.nat (Key.finalXor f)⟩

/-- Change the windows of an engine. -/
def setEngine (d : Dev) (e : Fin 16) (f : List CvuWindow → List CvuWindow) : Dev :=
  { d with cvu := { d.cvu with engines := vmod d.cvu.engines e f } }

/-- Change one window. -/
def setWindow (d : Dev) (e : Fin 16) (i : Nat) (f : CvuWindow → CvuWindow) : Dev := d.setEngine e fun l => l.modify i f

/-- A window of an engine. -/
def window (d : Dev) (e : Fin 16) (i : Nat) : Option CvuWindow := d.cvu.engines[e][i]?

/-- The engine and window that work on a context. -/
def worker (d : Dev) (x : Nat) : Option (Fin 16 × Nat) :=
  ((List.finRange 16).flatMap fun e => (List.range 32).map fun i => (e, i)).find? fun (e, i) =>
    (d.window e i).any fun w => w.work.isSome && decide (w.set.context.any fun y => y.val = x)

/-- Is the engine served now (15 R419: from step 2 of the shutdown only those that carry the legal stores, the dictionary journal, the
general logbook and the display journal run)? -/
def engineUp (d : Dev) (e : Nat) : Bool :=
  d.powered && (decide (d.power.shutdownStep < 2) || decide (e ≤ 2) || decide (e = 10 ∨ e = 11 ∨ e = 13) ||
    (decide (e = 15) && decide (d.power.shutdownStep = 2)))

/-- An entry passes a window (15 R412, R414, R415): the covered bytes enter the running value; a final window appends or compares. Answers
what the context is to hold: running value and byte count. -/
def cover (d : Dev) (e : Fin 16) (i : Nat) (w : CvuWindow) (f : Profile) (ident : Byte) (entry : Bytes) (last : Bool) :
    Dev × Option (Nat × Nat) :=
  let s := w.set
  let final := !s.finalOnFlag || last
  let ini := if s.initFromId then ident.toNat else f.ini
  let (run0, count0) := match s.context with
    | some x => if s.continues then (d.nat (Key.runningValue x), d.nat (Key.contextByteCount x)) else (ini, 0)
    | none => (ini, 0)
  let badContext (d : Dev) : Dev := match s.context with | some x => d.bump (Key.contextMismatchCount x) | none => d
  match splitEntry s (f.width / 8) final entry with
  | none => (((badContext (d.bump (Key.shortCount e))) : Dev).say (.cvu e i 2 entry 0), none)
  | some (covered, field) =>
    let run := crcRun f.width f.poly f.reflected run0 covered
    let d := d.bump (Key.bytesCovered e) covered.length
    let keep := some (run, (count0 + covered.length) % 2 ^ 32)
    let value := run ^^^ f.xorOut
    if !final then (d.say (.cvu e i 3 entry 0), keep)
    else if s.mode = 0 then (d.say (.cvu e i 0 entry value), keep)
    else if s.mode = 1 then (d.say (.cvu e i 0 (entry ++ f.field value) value), keep)
    else
      let good := field = f.field value
      let out := if s.mode = 3 then entry
        else entry.take (s.offset + covered.length) ++ entry.drop (s.offset + covered.length + field.length)
      let d := if good then d else badContext (d.bump (Key.mismatchCount e))
      (d.say (.cvu e i (if good then 0 else 1) out value), keep)

/-- The engine holds the context of a window that works on an entry until CONTEXT_RELEASE (15 R416): `keep` is what the context is to
hold. -/
def holdContext (d : Dev) (e : Fin 16) (i : Nat) (w : CvuWindow) (keep : Option (Nat × Nat)) : Dev :=
  match w.set.context with
  | none => d
  | some x =>
    let v := keep.getD (d.nat (Key.runningValue x), d.nat (Key.contextByteCount x))
    let f := if keep.isSome then w.set.profile.val else d.nat (Key.contextProfile x)
    (d.setWindow e i fun w => { w with work := some (v.1, v.2, f) }).putNat (Key.contextHolder x) e

/-- A window starts on an entry: without a context it ends with the entry; with one the engine holds it (15 R416). -/
def startWindow (d : Dev) (e : Fin 16) (i : Nat) (ident : Byte) (entry : Bytes) (last : Bool) : Dev :=
  match d.window e i with
  | none => d
  | some w =>
    match d.profileOf w.set.profile with
    | none => d
    | some f => (d.cover e i w f ident entry last).1.holdContext e i w (d.cover e i w f ident entry last).2

/-- CVU_ENTRY (15 R412 to R417): an entry on a held context waits. -/
def cvuEntry (e : Fin 16) (i : Nat) (ident : Byte) (entry : Bytes) (last : Bool) (d : Dev) : Dev :=
  match d.window e i with
  | none => d
  | some w =>
    if !d.engineUp e ∨ w.disarm then d
    else match w.set.context with
      | some x =>
        if d.nat (Key.contextHolder x) ≠ 0xFF ∨ w.waits ≠ [] then d.setWindow e i fun w => { w with waits := w.waits ++ [(ident, entry, last)] }
        else d.startWindow e i ident entry last
      | none => d.startWindow e i ident entry last

/-- Take a disarmed window away at the end of its entry in flight (15 R413). -/
def sweep (d : Dev) (e : Fin 16) : Dev :=
  d.setEngine e fun l => l.filter fun w => !(w.disarm && w.work.isNone && decide (w.waits = []))

/-- The window that has waited longest on a context, by order of arming (15 R417). -/
def nextWaiting (d : Dev) (x : Nat) : Option (Fin 16 × Nat) :=
  let all := ((List.finRange 16).flatMap fun e => (List.range 32).map fun i => (e, i)).filter fun (e, i) =>
    (d.window e i).any fun w => decide (w.waits ≠ []) && decide (w.set.context.any fun y => y.val = x)
  all.foldl (fun (b : Option (Fin 16 × Nat)) y => match b with
    | none => some y
    | some z => if ((d.window y.1 y.2).map (·.order)).getD 0 < ((d.window z.1 z.2).map (·.order)).getD 0 then some y else some z) none

/-- CONTEXT_RELEASE (15 R416, R417): the holder saves the running value, and the next waiting window starts. -/
def contextRelease (x : Fin 160) (d : Dev) : Dev :=
  match d.worker x with
  | none => d
  | some (e, i) =>
    let work := (d.window e i).bind (·.work)
    match work with
    | none => d
    | some (v, n, f) =>
      let d := (((d.putNat (Key.runningValue x) v).putNat (Key.contextByteCount x) n).putNat (Key.contextProfile x) f).putNat
        (Key.contextHolder x) 0xFF
      let d := d.setWindow e i fun w => { w with work := none }
      let d := match d.nextWaiting x with
        | none => d
        | some (e', i') =>
          match (d.window e' i').bind fun w => w.waits.head? with
          | none => d
          | some (ident, entry, last) =>
            (d.setWindow e' i' fun w => { w with waits := w.waits.drop 1 }).startWindow e' i' ident entry last
      d.sweep e

/-- An abandoned window lets go of the context it holds, which keeps the value it had at the window's start (15 R419). -/
def dropHold (d : Dev) (w : CvuWindow) : Dev :=
  match w.work, w.set.context with
  | some _, some x => d.putNat (Key.contextHolder x) 0xFF
  | _, _ => d

/-- The windows of an engine are abandoned (15 R419): each context keeps the value it had at its window's start. -/
def abandonEngine (d : Dev) (e : Fin 16) : Dev :=
  let l := d.cvu.engines[e]
  let d := l.foldl dropHold d
  (d.bump (Key.abandonedCount e) l.length).setEngine e fun _ => []

/-- The windows that a tag armed on an engine with several owners are abandoned (15 R408, R419). -/
def abandonOf (tag : Nat) (d : Dev) (e : Fin 16) : Dev :=
  let l := d.cvu.engines[e].filter fun w => decide (w.tag = tag)
  ((l.foldl dropHold d).bump (Key.abandonedCount e) l.length).setEngine e fun l => l.filter fun w => decide (w.tag ≠ tag)

/-- Does a window work on, or hold back, an entry of a crossing? -/
def CvuWindow.busyOn (w : CvuWindow) (c : Fin 58) : Bool := decide (w.set.onCrossing = some c) && (w.work.isSome || decide (w.waits ≠ []))

/-- The entries in flight on a crossing at one engine are abandoned; the windows stay (15 R419). -/
def abandonEntries (c : Fin 58) (d : Dev) (e : Fin 16) : Dev :=
  let l := d.cvu.engines[e].filter fun w => CvuWindow.busyOn w c
  ((l.foldl dropHold d).bump (Key.abandonedCount e) l.length).setEngine e fun l => l.map fun w =>
    if CvuWindow.busyOn w c then { w with work := none, waits := [] } else w

/-- One side of a crossing is reset mid-entry: entries in flight on it are abandoned, the windows stay (15 R419). -/
def abandonCrossing (d : Dev) (c : Fin 58) : Dev := (List.finRange 16).foldl (abandonEntries c) d

/-- The engines a core owns. -/
def enginesOf (c : CoreId) : List (Fin 16) :=
  match c with
  | .heartwood => [0, 1] | .firebreakA => [3] | .pe0 => [4] | .pe1 => [5] | .pe2 => [6] | .pe3 => [7]
  | .canopy => [8, 9] | .display => [15] | _ => []

/-- The tag of a core (01, table *The twelve cores*). -/
def coreTag : CoreId → Nat
  | .sapwoodA => 0x01 | .sapwoodB => 0x02 | .heartwood => 0x03 | .firebreakA => 0x04 | .firebreakB => 0x05 | .burl => 0x06
  | .pe0 => 0x08 | .pe1 => 0x09 | .pe2 => 0x0A | .pe3 => 0x0B | .canopy => 0x0C | .display => 0x0D

/-- The owner of engines restarts, or the role changes (15 R408, R419). -/
def abandonOwner (d : Dev) (c : CoreId) : Dev :=
  let l := enginesOf c ++ (if c = d.activeSapwood then [10, 11] else [])
  let d := l.foldl (fun d e => d.abandonEngine e) d
  ([13, 14] : List (Fin 16)).foldl (fun d e => d.abandonOf (coreTag c) e) d

/-- PFW, step 2: the engines that carry nothing that must complete stop (15 R419). -/
def abandonAtPfw (d : Dev) : Dev :=
  ([3, 4, 5, 6, 7, 8, 9, 12, 14] : List (Fin 16)).foldl (fun d e => d.abandonEngine e) d

end Dev

namespace Dev

/-- Bytes of a segmented FDP transfer pass engine 10 in context 144 + s (15, table *Users*; log entry 40): the running value, its profile and the
byte count. -/
def coverFdp (d : Dev) (s : SlotId) (restart : Bool) (b : Bytes) : Dev :=
  let x := 144 + s.val
  let run0 := if restart then 0xFFFFFFFF else d.nat (Key.runningValue x)
  let count0 := if restart then 0 else d.nat (Key.contextByteCount x)
  (((d.putNat (Key.runningValue x) (crcRun 32 0x1EDC6F41 true run0 b)).putNat (Key.contextByteCount x) (count0 + b.length)).putNat
    (Key.contextProfile x) 3).bump (Key.bytesCovered 10) b.length

/-- The check of a segmented FDP transfer differs (15 R415). -/
def badFdp (d : Dev) (s : SlotId) : Dev := (d.bump (Key.mismatchCount 10)).bump (Key.contextMismatchCount (144 + s.val))

/-- The windows that the CAN4 path arms on engine 12 when its controller starts: it appends the CRC-8 on crossing 0x26 and checks and strips it on
0x20, from the low byte of the identifier on (15 R408, table *Users*). -/
def can4Windows (order : Nat) : List CvuWindow :=
  let w (c : Fin 58) (mode : Fin 4) : WindowSet := {
    onCrossing := some c, memBase := 0, offset := 0, length := 0, mode := mode, profile := 0, initFromId := true, context := none, continues := false
    finalOnFlag := false }
  [⟨w 0x26 1, order, 0x13, false, [], none⟩, ⟨w 0x20 2, order + 1, 0x13, false, [], none⟩]

/-- BUS_INTEGRATION_DONE (06 R141): messages that waited for CAN5 go; CAN4 arms its windows (15 R408). -/
def busIntegrationDone (k : Fin 6) (d : Dev) : Dev :=
  if d.powered ∧ !d.clocks.ref25Lost ∧ d.hosts.can[k] = .integrating then
    let d := d.setCan k .errorActive
    if k = 5 then
      let d : Dev := { d with out := d.out ++ d.held, held := [] }
      (d.putNat Key.can5TxErrorCount 0).putNat Key.can5RxErrorCount 0
    else if k = 4 then
      let d := d.setEngine 12 fun _ => can4Windows d.cvu.order
      { d with cvu := { d.cvu with order := d.cvu.order + 2 } }
    else d
  else d

end Dev

def execBusIntegrationDone (k : Fin 6) (s : State) : Out3 State := s.onDev (Dev.busIntegrationDone k)

/-- May a window be armed with these settings (15 R410, R412, table *Window settings*)? -/
def windowFits (d : Dev) (w : WindowSet) : Bool :=
  decide (w.offset ≤ 65535) && decide (w.length ≤ 65535) && (d.profileOf w.profile).isSome && (decide (w.mode ≠ 1) || decide (w.length = 0)) &&
    (match w.onCrossing with | some c => decide (xKind c = .queue) | none => true)

/-- WINDOW_ARM (15 R408, R412, R413): refused under 01 R20 from any tag but an owner's, with settings the unit does not have, or when 32
windows are armed. -/
def execWindowArm (tag : BitVec 5) (e : Fin 16) (w : WindowSet) (s : State) : Out3 State :=
  s.onDev fun d =>
    if !d.powered then d
    else match tagUsed d tag with
      | none => refuseTransaction d tag.toNat (.cvuEngine e) 0
      | some i =>
        if !ownsEngine d e i ∨ !windowFits d w ∨ 32 ≤ (d.cvu.engines[e]).length then refuseTransaction d tag.toNat (.cvuEngine e) 0
        else
          let d := d.setEngine e fun l => l ++ [⟨w, d.cvu.order, tag.toNat, false, [], none⟩]
          ({ d with cvu := { d.cvu with order := d.cvu.order + 1 } } : Dev).say (.fabric tag.toNat .done)

/-- WINDOW_DISARM (15 R408, R413). -/
def execWindowDisarm (tag : BitVec 5) (e : Fin 16) (i : Nat) (s : State) : Out3 State :=
  s.onDev fun d =>
    if !d.powered then d
    else match tagUsed d tag with
      | none => refuseTransaction d tag.toNat (.cvuEngine e) 0
      | some j =>
        if !ownsEngine d e j ∨ (d.window e i).isNone then refuseTransaction d tag.toNat (.cvuEngine e) 0
        else ((d.setWindow e i fun w => { w with disarm := true }).sweep e).say (.fabric tag.toNat .done)

def execCvuEntry (e : Fin 16) (i : Nat) (ident : Byte) (entry : Bytes) (last : Bool) (s : State) : Out3 State :=
  s.onDev (Dev.cvuEntry e i ident entry last)

def execContextRelease (x : Fin 160) (s : State) : Out3 State := s.onDev (Dev.contextRelease x)

/-- CONTEXT_WRITE (15 R418): only by the owner of the context, and not while it is held. -/
def execContextWrite (tag : BitVec 5) (x : Fin 160) (value : BitVec 64) (s : State) : Out3 State :=
  s.onDev fun d =>
    if !d.powered then d
    else if tagUsed d tag ≠ some (.core (contextOwner d x)) ∨ d.nat (Key.contextHolder x) ≠ 0xFF then
      refuseTransaction d tag.toNat (.contextTable x) 0
    else (d.putNat (Key.runningValue x) value.toNat).say (.fabric tag.toNat .done)

/-- PROFILE_WRITE (15 R410): profiles 8 to 15, by a core; the check over "123456789" is computed. -/
def execProfileWrite (tag : BitVec 5) (f : Fin 16) (width : Nat) (poly ini xorOut : BitVec 64) (refl : Bool) (s : State) : Out3 State :=
  s.onDev fun d =>
    if !d.powered then d
    else
      let core : Bool := match tagUsed d tag with | some (.core _) => true | _ => false
      let p : Profile := ⟨width, poly.toNat, ini.toNat, refl, xorOut.toNat⟩
      if !core ∨ f.val < 8 ∨ ¬(width = 8 ∨ width = 16 ∨ width = 32 ∨ width = 64) ∨ p.poly % 2 = 0 ∨ 2 ^ width ≤ p.poly ∨ 2 ^ width ≤ p.ini ∨
          2 ^ width ≤ p.xorOut then refuseTransaction d tag.toNat (.cvuEngine 13) 0
      else
        let d := ((d.putNat (Key.profileWidth f) width).putNat (Key.polynomial f) p.poly).putNat (Key.profileInit f) p.ini
        let d := (d.putFlag (Key.reflected f) refl).putNat (Key.finalXor f) p.xorOut
        (d.putNat (Key.checkValue f) (p.check [0x31, 0x32, 0x33, 0x34, 0x35, 0x36, 0x37, 0x38, 0x39])).say (.fabric tag.toNat .done)

/-- CVU_CLEAR_COUNTERS (15 R421): every object of 0xB010+e and 0xB200+x whose unit is Count (log entry 40). -/
def cvuClearCountersServe (a : Ack) (_ : Val) (d : Dev) : Dev :=
    let d := (List.range 16).foldl (fun d e =>
      ((d.putNat (Key.mismatchCount e) 0).putNat (Key.shortCount e) 0).putNat (Key.abandonedCount e) 0) d
    ((List.range 160).foldl (fun (d : Dev) x => d.putNat (Key.contextMismatchCount x) 0) d).ok a

def execCvuClearCounters (m : HostMsg) (data : Bytes) (s : State) : Out3 State := s.onDev (cmdWrite m Key.cvuClearCounters false data cvuClearCountersServe)

end Sys2Proof.Machine
end

