-- ==== Sys2Proof/Machine/Burl.lean ====
section
/-! DEFINITION. Burl: key slots and their replacement, requests, the signing unit, attestation, Commission (16 R422 to R442, R449 to
R453; 12 R319). -/

namespace Sys2Proof.Machine

/-! ### CBOR in shortest form (RFC 8949, as 12 R320 and 16 R442 name it) -/

/-- Big-endian bytes of a number. -/
def beBytes (n x : Nat) : Bytes := (leBytes n x).reverse

/-- A head: major type 0 to 7 and argument. -/
def cborHead (major x : Nat) : Bytes :=
  if x < 24 then [BitVec.ofNat 8 (major * 32 + x)]
  else if x < 2 ^ 8 then BitVec.ofNat 8 (major * 32 + 24) :: beBytes 1 x
  else if x < 2 ^ 16 then BitVec.ofNat 8 (major * 32 + 25) :: beBytes 2 x
  else if x < 2 ^ 32 then BitVec.ofNat 8 (major * 32 + 26) :: beBytes 4 x
  else BitVec.ofNat 8 (major * 32 + 27) :: beBytes 8 x

def cborUint (x : Nat) : Bytes := cborHead 0 x
def cborInt (x : Int) : Bytes := if x < 0 then cborHead 1 (x.natAbs - 1) else cborHead 0 x.natAbs
def cborBytes (b : Bytes) : Bytes := cborHead 2 b.length ++ b
def cborText (b : Bytes) : Bytes := cborHead 3 b.length ++ b
def cborArray (l : List Bytes) : Bytes := cborHead 4 l.length ++ l.flatten

/-- A map with unsigned integer keys in the order given. -/
def cborMap (l : List (Nat × Bytes)) : Bytes := cborHead 5 l.length ++ l.flatMap fun (k, v) => cborUint k ++ v

/-- Bytes of ASCII text. -/
def ascii (s : String) : Bytes := s.toList.map fun c => BitVec.ofNat 8 c.toNat

/-! ### Slots (16 R425, R426) -/

/-- Who may replace a slot. -/
inductive Replaceable where | never | beforeSealed | anyTime
deriving DecidableEq, Repr

/-- Types, attributes and replaceability of a slot (16, table *Slot assignment*); none for a reserved one. -/
def slotRule (n : Nat) : Option (List Nat × Nat × Replaceable) :=
  if n = 0x00 then some ([0x04], 0x381, .never)
  else if n = 0x01 then some ([0x02], 0x220, .never)
  else if n = 0x02 then some ([0x05], 0x002, .never)
  else if n = 0x03 then some ([0x05], 0x002, .anyTime)
  else if n = 0x04 then some ([0x04], 0x3C1, .never)
  else if n = 0x05 ∨ n = 0x07 then some ([0x07], 0x042, .beforeSealed)
  else if n = 0x06 then some ([0x03], 0x250, .beforeSealed)
  else if n = 0x08 then some ([0x03], 0x210, .anyTime)
  else if n = 0x10 then some ([0x06], 0x201, .anyTime)
  else if n = 0x11 then some ([0x08], 0x201, .anyTime)
  else if n = 0x12 then some ([0x0A], 0x201, .anyTime)
  else if 0x18 ≤ n ∧ n ≤ 0x2F then some ([0x07, 0x09, 0x0B], 0x002, .anyTime)
  else if 0x30 ≤ n ∧ n ≤ 0x3F then some ([0x03], 0x210, .anyTime)
  else none

/-- The active half of a slot (16 R429). -/
def KeySlot.active (k : KeySlot) : Option KeyHalf := if k.activeB then k.b else k.a

/-- The generation word (16 R429). -/
def KeySlot.word (k : KeySlot) : Nat := 2 * k.count + (if k.activeB then 1 else 0)

/-- Material length of a key type (16, table *Key types*). -/
def materialLength (t : Nat) : Nat := [0, 16, 32, 32, 64, 32, 32, 65, 66, 133, 57, 57].getD t 0

namespace Dev

def keySlot (d : Dev) (n : Fin 64) : KeySlot := d.burl.slots[n]
def setBurl (d : Dev) (f : Burl → Burl) : Dev := { d with burl := f d.burl }

/-- The key of a slot: none in BLANK, where no slot is usable (16, table *Lifecycle states*). -/
def keyOf (d : Dev) (n : Fin 64) : Option KeyHalf := if d.lifecycle = 0 then none else (d.keySlot n).active

/-- Burl is asked to use the key of a slot: an operation performed with it is counted, a request on an empty slot is refused and counted (16 R425,
R453). -/
def useKey (d : Dev) (n : Fin 64) : Dev := d.bump (if (d.keyOf n).isSome then Key.useCount n else Key.refusedCount n)

/-- The number a KeyId stands for in a log entry. -/
def idNum (h : Option KeyHalf) : Int := match h with | some k => leVal k.keyId | none => 0

/-- Put a slot's new halves and count in force: steps 4 to 6 of R430. The other half is zeroed; host slots show whether they hold a key. -/
def flipSlot (d : Dev) (n : Fin 64) (h : Option KeyHalf) : Dev :=
  let old := d.keySlot n
  let new : KeySlot := if old.activeB then ⟨old.count + 1, false, h, none⟩ else ⟨old.count + 1, true, none, h⟩
  let d := d.setBurl fun b => { b with slots := b.slots.set n new }
  let d := d.putNat (Key.replacedAt n) d.nowUs
  let d := if 0x30 ≤ n.val then d.putFlag (Key.keyPresent (n.val - 0x30)) h.isSome else d
  let d := d.general (.note 6 [n.val, idNum old.active, idNum h, new.count])
  let legal := ((h.orElse fun _ => old.active).any fun k => k.attrs.testBit 6)
  if legal then
    let (x, d) := d.draw
    d.legal (x % 0x10000) 0xFF (leBytes 1 n ++ leBytes 4 new.count)
  else d

/-- A key operation ends with a code (0x8010.04 to .06). -/
def keyOpDone (d : Dev) (n code : Nat) : Dev :=
  ((d.putNat Key.keyOpState (if code = 0 then 2 else 3)).putNat Key.keyOpSlot n).putNat Key.keyOpResult code

/-- A key operation on a slot that may not be replaced: one on a reserved slot is counted there (16 R425; *Import checks*, 5). -/
def refuseKeyOp (d : Dev) (n : Fin 64) : Dev :=
  (if (slotRule n).isNone then d.bump (Key.refusedCount n) else d).keyOpDone n Code.keyUse

/-- Change the inactive half of a slot. -/
def setInactive (d : Dev) (n : Fin 64) (h : Option KeyHalf) : Dev :=
  d.setBurl fun b => { b with slots := vmod b.slots n fun k => if k.activeB then { k with a := h } else { k with b := h } }

/-- Time of a replacement in ms, up to step 4: 3 ms, and for a private key its signature and verification (16, tables *Replacement of a slot*,
*Algorithms*; log entry 78: the limits are taken as the times). -/
def replaceMs (typ : Nat) : Nat := 3 + (match typ with | 0x04 => 1550 | 0x06 => 40 | 0x08 => 160 | 0x0A => 90 | _ => 0)

/-- Replace a slot by a new key, steps 1 and 2 (16 R430): the inactive half is written, and the operation runs. -/
def replaceSlot (d : Dev) (n : Fin 64) (typ attrs : Nat) (keyId material pub : Bytes) (verifies : Bool) : Dev :=
  let d := d.count 3 Key.keyWriteCounter (d.nat Key.keyWriteCounter + 1)
  let h : KeyHalf := ⟨typ, attrs, keyId, (d.keySlot n).count + 1, d.nat Key.keyWriteCounter, material, pub⟩
  let d := (d.setInactive n (some h)).setBurl fun b => { b with keyOp := some ⟨n, h, verifies, d.nowMs + replaceMs typ⟩ }
  (d.putNat Key.keyOpState 1).putNat Key.keyOpSlot n

/-- The operation that runs ends (16 R430, R431): a half that does not verify is zeroed, any other is in force. -/
def keyOpEnd (d : Dev) : Dev :=
  match d.burl.keyOp with
  | none => d
  | some r =>
    let d := d.setBurl fun b => { b with keyOp := none }
    if r.verifies then (d.flipSlot r.slot (some r.half)).keyOpDone r.slot 0
    else (d.setInactive r.slot none).keyOpDone r.slot Code.verifyFailed

/-- The operation that runs is aborted before step 4: the generation word stands (16 R432, R449). -/
def keyOpAbort (d : Dev) (code : Nat) : Dev :=
  match d.burl.keyOp with
  | none => d
  | some r => (d.setBurl fun b => { b with keyOp := none }).keyOpDone r.slot code

/-- Every inactive half is wiped, at a start-up and when Burl restarts (16 R431). -/
def wipeInactive (d : Dev) : Dev :=
  d.setBurl fun b => { b with slots := b.slots.map fun k => if k.activeB then { k with a := none } else { k with b := none } }

/-- Does Burl hold a key operation: one runs, or waits for its tick boundary (16 R432)? -/
def keyOpHeld (d : Dev) : Bool :=
  d.burl.keyOp.isSome || d.dict.items.any fun x => match x with | .keyOp .. => true | _ => false

/-- May a slot be replaced in this lifecycle state (16, *Import checks*, 5; R426)? -/
def replaceable (d : Dev) (n : Nat) : Bool :=
  decide (d.lifecycle ≠ 0) && match slotRule n with
    | some (_, _, .anyTime) => true
    | some (_, _, .beforeSealed) => decide (d.lifecycle < 3)
    | _ => false

/-- Key operations are refused in TAMPER_HOLD under HoldRefuseKeyOps (16 R448). -/
def keyOpsHeld (d : Dev) : Bool := decide (d.power.state = .tamperHold) && d.flag Key.holdRefuseKeyOps

/-- The public key of material of a type (16 R425): that of a public type is its material. -/
def publicOf (typ : Nat) (material : Bytes) : Bytes :=
  if typ = 0x05 ∨ typ = 0x07 ∨ typ = 0x09 ∨ typ = 0x0B then material
  else if typ = 0x04 ∨ typ = 0x06 ∨ typ = 0x08 ∨ typ = 0x0A then Config.publicKey material
  else []

/-- KEY_IMPORT's checks and replacement (16 R434). -/
def importKey (d : Dev) (k : ImportBlob) : Dev :=
  if k.version ≠ 1 ∨ k.length ≠ 60 + k.materialLength ∨ k.keyType = 0 ∨ 0x0B < k.keyType ∨ materialLength k.keyType ≠ k.materialLength then
    d.keyOpDone 0xFF Code.encoding
  else if h : k.slot < 64 then
    let n : Fin 64 := ⟨k.slot, h⟩
    if !k.hashOk then d.keyOpDone n Code.range
    else
    let d := d.useKey 0x01
    if !k.tagOk ∨ (d.keyOf 0x01).isNone then d.keyOpDone n Code.verifyFailed
    else if k.seq ≤ d.nat Key.importCounter then d.keyOpDone n Code.range
    else
      let d := d.count 2 Key.importCounter k.seq
      if !d.replaceable k.slot then d.refuseKeyOp n
      else match slotRule k.slot with
        | none => d.refuseKeyOp n
        | some (types, attrs, _) =>
          if !types.contains k.keyType ∨ k.attrs ≠ attrs then d.keyOpDone n Code.range
          else if d.keyOpsHeld then d.keyOpDone n Code.tamperHold
          else d.replaceSlot n k.keyType k.attrs k.keyId k.material (publicOf k.keyType k.material) k.verifies
  else d.keyOpDone 0xFF Code.encoding

/-- KEY_GENERATE (16 R435): slots 0x10 to 0x12, each with its own type. -/
def generateKey (d : Dev) (n typ : Nat) (verifies : Bool) : Dev :=
  if h : 0x10 ≤ n ∧ n ≤ 0x12 then
    if ¬ d.replaceable n then d.refuseKeyOp ⟨n, by omega⟩
    else if ((slotRule n).map (·.1)) ≠ some [typ] then d.keyOpDone n Code.range
    else if d.keyOpsHeld then d.keyOpDone n Code.tamperHold
    else
      let (x, d) := d.draw
      let m := Config.keyMaterial x
      let pub := Config.publicKey m
      d.replaceSlot ⟨n, by omega⟩ typ 0x381 ((Config.sha256 pub).take 8) m pub verifies
  else if h : n < 64 then d.refuseKeyOp ⟨n, h⟩
  else d.keyOpDone 0xFF Code.keyUse

/-- KEY_ERASE (16 R436). -/
def eraseKey (d : Dev) (n : Nat) : Dev :=
  if h : n < 64 then
    if !d.replaceable n then d.refuseKeyOp ⟨n, h⟩
    else if d.keyOpsHeld then d.keyOpDone n Code.tamperHold
    else (d.flipSlot ⟨n, h⟩ none).keyOpDone n 0
  else d

/-- A key operation starts at its tick boundary: it is acknowledged, and its outcome stands in 0x8010.04 to .06 (16 R433 to R436). -/
def keyOpStart (d : Dev) (a : Ack) (op : KeyOp) : Dev :=
  (if !d.burlUp then d.keyOpDone 0xFF Code.shutdown
   else match op with
    | .imports k => d.importKey k
    | .generate n typ verifies => d.generateKey n typ verifies
    | .erase n => d.eraseKey n).ok a

/-- The tick boundary at which the operation that runs is done. -/
def keyOpTick (d : Dev) : Dev := if d.burlUp ∧ d.burl.keyOp.any fun r => decide (r.dueAt ≤ d.nowMs) then d.keyOpEnd else d

/-- Step 4 of Seal goes on: 10 ms after a fuse the next is blown, and with the last the unit is SEALED (16 R450). -/
def fuseTick (d : Dev) : Dev :=
  let k := d.burl.sealFuses
  if k = 0 ∨ 3 ≤ k ∨ !d.burlUp ∨ d.nowMs < d.burl.fuseAt + 10 then d
  else
    let d := d.setBurl fun b => { b with sealFuses := k + 1, fuseAt := d.nowMs }
    if k + 1 = 3 then d.putNat Key.lifecycleState 3 else d

end Dev

/-- The number a written value stands for. -/
def valNum (v : Val) : Nat := match v with | .int x => x.toNat | .bytes _ => 0

/-- A key operation is taken: one at a time, and none while Burl is out of service (16 R432). -/
def keyOpServe (op : Val → KeyOp) (a : Ack) (v : Val) (d : Dev) : Dev :=
  if !d.burlUp then d.abort a Code.outOfService
  else if d.keyOpHeld then d.abort a Code.general
  else d.enqueue (.keyOp a (op v))

/-- KEY_IMPORT (16 R433, R434). -/
def keyImportServe (blob : ImportBlob) : Ack → Val → Dev → Dev := keyOpServe fun _ => .imports blob

def execKeyImport (m : HostMsg) (blob : ImportBlob) (s : State) : Out3 State :=
  s.onDev (cmdWrite m Key.keyImport false (List.replicate blob.length 0) (keyImportServe blob))

/-- KEY_GENERATE (16 R435). -/
def keyGenerateServe (verifies : Bool) : Ack → Val → Dev → Dev :=
  keyOpServe fun v => .generate (valNum v / 256) (valNum v % 256) verifies

def execKeyGenerate (m : HostMsg) (data : Bytes) (verifies : Bool) (s : State) : Out3 State :=
  s.onDev (cmdWrite m Key.keyGenerate false data (keyGenerateServe verifies))

/-- KEY_ERASE (16 R436). -/
def keyEraseServe : Ack → Val → Dev → Dev := keyOpServe fun v => .erase (valNum v)

def execKeyErase (m : HostMsg) (data : Bytes) (s : State) : Out3 State := s.onDev (cmdWrite m Key.keyErase false data keyEraseServe)

/-! ### Requests of cores (01 R21, R28; 16 R422, R425, R437) -/

/-- The attribute bits one of which an operation needs. -/
def opBits : BurlOp → List Nat
  | .sign => [0] | .verify => [1] | .encrypt => [2] | .decrypt => [3] | .derive => [4] | .wrapOpen => [5]
  | .loadContext _ _ => [2, 3, 4]
  | .zeroContext _ => []

/-- Load or zero the crypto state of a context. -/
def Dev.setContext (d : Dev) (x : Fin 160) (k : Option Bytes) : Dev :=
  if h : x.val < 144 then d.setBurl fun b => { b with contexts := b.contexts.set x.val k h }
  else d.setSlot ⟨x.val - 144, by omega⟩ fun s => { s with sessionKey := k }

/-- BURL_REQUEST: the attributes of the slot and, for LEGAL, tag 0x03 permit it; a context's owner alone has it loaded or zeroed. An initiator
that is no core, and an unused tag, is refused and counted at Burl's mailbox and slot (01 R20, R28). -/
def burlRequest (tag : BitVec 5) (n : Fin 64) (op : BurlOp) (d : Dev) : Dev :=
  if !d.powered then d
  else match tagUsed d tag with
    | some (.core c) =>
      if !d.burlUp then d.say (.burl tag.toNat Code.outOfService)
      else
        let refuse (d : Dev) : Dev := (d.bump (Key.refusedCount n)).say (.burl tag.toNat Code.keyUse)
        let ctx : Option (Fin 160) := match op with | .loadContext x _ => some x | .zeroContext x => some x | _ => none
        if ctx.any fun x => contextOwner d x ≠ c then refuse d
        else match d.keyOf n with
          | none => refuse d
          | some k =>
            if k.attrs.testBit 6 ∧ c ≠ .heartwood then refuse (d.bump Key.legalRefusals)
            else if opBits op ≠ [] ∧ !(opBits op).any (fun b => k.attrs.testBit b) then refuse d
            else
              let d := (d.bump (Key.useCount n)).say (.burl tag.toNat 0)
              match op with
              | .loadContext x key => d.setContext x (some key)
              | .zeroContext x => d.setContext x none
              | _ => d
    | _ =>
      if !d.burlUp then d.say (.burl tag.toNat Code.outOfService)
      else
        let legal := (d.keyOf n).any fun k => k.attrs.testBit 6
        let d : Dev := { d with refusals := countRefusal d.refusals (.mailbox .burl) tag.toNat n }
        let d := d.bump (Key.refusedCount n)
        (if legal then d.bump Key.legalRefusals else d).say (.burl tag.toNat Code.keyUse)

def execBurlRequest (tag : BitVec 5) (n : Fin 64) (op : BurlOp) (s : State) : Out3 State := s.onDev (burlRequest tag n op)

/-! ### The signing unit and attestation (16 R422, R423, R441, R442) -/

/-- The number of a power state (05, 0x1000.0C). -/
def powerNum : PowerState → Nat
  | .off => 0 | .vbatSleep => 1 | .starting => 2 | .inService => 3 | .tamperHold => 4 | .shutdown => 5

namespace Dev

/-- The fuses: those of provisioning, commissioning and the end of Seal follow from the lifecycle state (16 R450). -/
def fuses (d : Dev) : Nat :=
  match d.lifecycle with | 0 => 0 | 1 => 1 | 2 => 3 + (match d.burl.sealFuses with | 0 => 0 | 1 => 4 | _ => 12) | _ => 31

/-- 0xF000.03: 0 not sealed, 1 sealed and checked, 2 broken. -/
def sealStateNum (d : Dev) : Nat := if d.heart.sealBroken ≠ 0 then 2 else if d.lifecycle = 3 then 1 else 0

/-- TimeFlags (10, 0x4700.02). -/
def timeBits (d : Dev) : Nat := d.timeFlags + (if d.time.slew ≠ 0 then 4 else 0)

/-- The body of the statement of a host slot, with its number (16 R442). -/
def attestBody (d : Dev) (s : SlotId) (nonce : Bytes) : Bytes :=
  let images := (List.range 12).filter fun t => d.bytes (Key.activeMeasurement t) ≠ [] ∧
    d.bytes (Key.activeMeasurement t) ≠ List.replicate 32 0
  let keys := (List.finRange 64).filterMap fun n => match d.keyOf n with
    | some k => if k.attrs.testBit 8 then some (cborArray [cborUint n, cborBytes k.keyId]) else none
    | none => none
  let pub (n : Fin 64) : Bytes := match d.keyOf n with | some k => k.pub | none => []
  cborMap [
    (1, cborUint 1), (2, cborBytes (pub 0x00)), (3, cborText (d.bytes Key.serialNumber)), (4, cborText (d.bytes Key.stepping)),
    (5, cborUint d.lifecycle), (6, cborUint d.fuses), (7, cborUint (powerNum d.power.state)), (8, cborUint d.nowUs),
    (9, cborUint d.timeBits), (10, cborBytes nonce), (11, cborUint s), (12, cborBytes (d.bytes Key.heartwoodRomHash)),
    (13, cborBytes (d.bytes Key.burlRomHash)),
    (14, cborArray (images.map fun t => cborArray [
      cborUint t, cborUint (d.nat (Key.activeSlot t)),
      cborUint (d.nat (if d.nat (Key.activeSlot t) = 0 then Key.slotASecurityVersion t else Key.slotBSecurityVersion t)),
      cborBytes (d.bytes (Key.activeMeasurement t))])),
    (15, cborBytes (d.burl.sealHash.getD [])), (16, cborUint d.sealStateNum), (17, cborUint (d.nat Key.calibrationCheck)),
    (18, cborUint (d.nat Key.confirmedCheck)), (19, cborUint (d.nat Key.commissionState)), (20, cborUint (d.nat Key.holdActive)),
    (21, cborUint (d.nat Key.tamperEventCount)), (22, cborArray keys), (23, cborBytes (pub 0x04)),
    (24, cborUint (d.nat Key.attestationNumber + 1))]

/-- The signing unit takes its next work: a record first, a statement only when no record waits (16 R423; 12 R319). -/
def startSigning (d : Dev) : Dev :=
  if d.burl.signing ≠ .idle ∨ !d.burlUp then d
  else if d.heart.signQueue ≠ [] ∧ d.heart.signRetryAt = none then d.setBurl fun b => { b with signing := .record }
  else match d.burl.queue with
    | [] => d
    | s :: r =>
      let body := d.attestBody s (d.slot s).nonce
      d.setBurl fun b => { b with queue := r, signing := .statement s body }

/-- Heartwood posts a record to Burl (12 R319). -/
def postRecord (d : Dev) (number : Nat) : Dev :=
  ({ d with heart := { d.heart with signQueue := d.heart.signQueue ++ [number] } } : Dev).startSigning

/-- What 0x8300+s.01 reads: the statement once it is signed (16 R441). -/
def attestValue (d : Dev) (s : SlotId) : Bytes :=
  match d.burl.attest[s] with
  | .ready body sig => if (d.slot s).registered then cborArray [cborBytes body, cborBytes sig] else []
  | _ => []

/-- The first read after a registration queues the statement (16 R441, R423). -/
def queueAttest (d : Dev) (s : SlotId) : Dev :=
  if d.burl.attest[s] = .none ∧ (d.slot s).registered ∧ d.burlUp then
    (d.setBurl fun b => { b with attest := b.attest.set s .queued, queue := b.queue ++ [s] }).startSigning
  else d

/-- The registration of a slot ends: its statement goes (16 R441). -/
def dropAttest (d : Dev) (s : SlotId) : Dev :=
  d.setBurl fun b => { b with
    attest := b.attest.set s .none, queue := b.queue.filter fun x => x ≠ s
    signing := match b.signing with | .statement x _ => if x = s then .idle else b.signing | x => x }

/-- ATTESTATION_SIGNED (16 R442). -/
def attestationSigned (d : Dev) : Dev :=
  match d.burl.signing with
  | .statement s body =>
    if !d.burlUp then d
    else
      let sig := Config.signature 0x00 (ascii "FDM8P-AT1" ++ body)
      let d := d.setBurl fun b => { b with signing := .idle, attest := b.attest.set s (.ready body sig) }
      ((d.count 16 Key.attestationNumber (d.nat Key.attestationNumber + 1)).useKey 0x00).startSigning
  | _ => d

end Dev

def execAttestationSigned (s : State) : Out3 State := s.onDev Dev.attestationSigned

/-! ### Lifecycle (16 R451, R452) -/

/-- COMMISSION (16 R451). -/
def commissionServe (a : Ack) (_ : Val) (d : Dev) : Dev :=
    if !d.burlUp then d.abort a Code.outOfService
    else if d.lifecycle ≠ 1 then d.abort a Code.keyUse
    else if (d.keyOf 0x05).isNone ∨ (d.keyOf 0x06).isNone ∨ (d.keyOf 0x07).isNone ∨
        !((List.finRange 64).any fun n => decide (0x30 ≤ n.val) && (d.keyOf n).isSome) then d.abort a Code.general
    else (d.putNat Key.lifecycleState 2).ok a

def execCommission (m : HostMsg) (data : Bytes) (s : State) : Out3 State := s.onDev (cmdWrite m Key.commission false data commissionServe)

/-- JTAG_SESSION (16 R452): logged before SEALED; afterwards no route exists. -/
def jtagSession (d : Dev) : Dev := if d.powered ∧ d.lifecycle ≠ 3 then d.general (.note 7 []) else d

def execJtagSession (s : State) : Out3 State := s.onDev jtagSession

end Sys2Proof.Machine
end

