-- ==== Sys2Proof/Machine/Credit.lean ====
section
/-! DEFINITION. Session cost, available credit, credit states, and authorisation: EXTERNAL_ID, AUTH_ANSWER, HOST_AUTH_TIMEOUT, BINDING
(11 R282 to R286, R291, R293, R304, R501; 12 R323). -/

namespace Sys2Proof.Machine

/-- The net cost of a session from a port's registers, in 10^-6 units (11 R286). -/
def netCost (part : RecordOpening) (x : Entity) : Int :=
  let now := Dev.tariffReadouts x
  (List.finRange 16).foldl (fun (c : Int) t =>
    let i : Fin 32 := ⟨t.val, by omega⟩
    let e : Fin 32 := ⟨t.val + 16, by omega⟩
    let di : Int := (now[i] : Int) - part.readouts[i]
    let de : Int := (now[e] : Int) - part.readouts[e]
    let ip : Nat := part.prices[t.val]'(by omega)
    let ep : Nat := part.prices[t.val + 16]'(by omega)
    c + (di * ip + 500000) / 1000000 - (de * ep + 500000) / 1000000) (part.prices[32] : Nat)

namespace Dev

/-- Net cost of the live session of a port, from given registers; 0 before it has opened. -/
def sessionCost (d : Dev) (ents : Vector Entity 9) (p : PortId) : Int :=
  match d.ledger.bind[p] with
  | some b => match b.part with
    | some part => netCost part ents[portEntity p]
    | none => 0
  | none => 0

/-- The ports bound to an account slot. -/
def boundPorts (d : Dev) (slot : Nat) : List PortId := allPorts.filter fun p => (d.ledger.bind[p]).any fun b => b.slot = slot

/-- The ports bound to an account slot or held by it after ENDED (11 R291). -/
def creditPorts (d : Dev) (slot : Nat) : List PortId :=
  allPorts.filter fun p => ((d.ledger.bind[p]).any fun b => b.slot = slot) || decide (d.ledger.held[p] = some slot)

/-- Available of an account, from given registers (11 R286). -/
def available (d : Dev) (ents : Vector Entity 9) (slot : Nat) : Int :=
  match d.acct slot with
  | none => 0
  | some a => a.balance + a.creditLimit - isum ((d.boundPorts slot).map fun p => d.sessionCost ents p)

/-- The greatest debt of a friendly class. -/
def friendlyDebt (d : Dev) (cls : Nat) : Int := if cls < 8 then d.nat (Key.friendlyMaxDebt cls) else 0

/-- The credit state that Available gives, from the state before (11, table *Credit states, 0x5300+p.06*). -/
def creditOf (d : Dev) (old : Nat) (avail : Int) (cls utc : Nat) : Nat :=
  let low := d.int Key.lowCreditThreshold
  let friendly := decide (avail < 0) && d.windowOpen cls utc && decide (-(d.friendlyDebt cls) ≤ avail)
  if friendly then 3
  else if old = 4 ∧ avail < d.int Key.reconnectCredit then 4
  else if avail < 0 then 4
  else if low ≤ avail then 1 else 2

/-- Set the credit of one port from its account's Available; FRIENDLY is logged once a session (11 R291). -/
def setCredit (d : Dev) (p : PortId) (avail : Int) (account cls utc : Nat) : Dev :=
  let st := d.creditOf (d.nat (Key.creditState p)) avail cls utc
  let d := (d.putInt (Key.creditAvailable p) avail).putNat (Key.creditState p) st
  let d := match d.ledger.bind[p] with
    | some b =>
      if st = 3 ∧ !b.friendly ∧ b.part.isSome then
        (d.setBinding p (some { b with friendly := true })).legal 0x0504 p (leBytes 8 account ++ leBytes 4 b.sid)
      else d
    | none => d
  d.judgeLevel2 p

/-! ### The decision (11 R282, R283, R304; 17 R469) -/

/-- Stored records above ReconciledUpTo (11 R304). -/
def unreconciled (d : Dev) : Nat :=
  (d.heart.records.filter fun (x : Nat × RecordSlot) => match x.2 with
    | .opened _ _ => false
    | .stored _ b => decide (d.nat Key.reconciledUpTo < b.number)
    | .signed b _ => decide (d.nat Key.reconciledUpTo < b.number)).length

/-- Live sessions of an account: bound, or granted and not yet bound. -/
def liveOf (d : Dev) (slot : Nat) : Nat :=
  (allPorts.filter fun p => ((d.ledger.bind[p]).any fun b => b.slot = slot) || ((d.ledger.posted[p]).any fun x => x.1 = slot)).length

/-- New sessions are refused for the whole device: Burl does not run, VDD_MEM has not been good for 100 ms, a Firebreak step drains, or
records are not reconciled (01 R38; 03, table *Rail monitors*; 11 R304; 17 R469). -/
def grantsStopped (d : Dev) : Bool :=
  !d.burlUp || !d.rail .vddMem || (d.power.memBackAt.any fun t => d.nowMs < t + 100) || ((d.update.run).any fun r => r.draining) ||
    (d.flag Key.reconcileGuard && decide (8192 ≤ d.unreconciled))

/-- The local decision for an account (11 R282). -/
def localGrant (d : Dev) (slot : Nat) (a : Account) : Bool :=
  let avail := d.available d.committedEnts slot
  let friendly := d.flag Key.friendlyNewSessions && d.windowOpen a.friendlyClass d.time.utcS &&
    decide (-(d.friendlyDebt a.friendlyClass) < avail)
  decide (a.status = 1) && (decide (a.validUntil = 0) || decide (d.time.utcS < a.validUntil)) && decide (d.power.state = .inService) &&
    decide (d.liveOf slot < d.nat Key.maxSessionsPerAccount) && (decide (d.int Key.minStartCredit ≤ avail) || friendly) && !d.grantsStopped

def setAuth (d : Dev) (p : PortId) (v : Option AuthRun) : Dev := { d with ledger := { d.ledger with auth := d.ledger.auth.set p v } }
def setPosted (d : Dev) (p : PortId) (v : Option (Nat × Nat)) : Dev := { d with ledger := { d.ledger with posted := d.ledger.posted.set p v } }

/-- Refuse: ENDED with end reason 6 (11 R282). -/
def refuseGrant (d : Dev) (p : PortId) : Dev := (d.enterEnded p 6).settle

/-- An identity has found, or not found, an account for a port (11 R282, R283). A port in ENDED goes back to IDENTIFYING. -/
def identify (d : Dev) (p : PortId) (found : Option (Nat × Account)) : Dev :=
  let d := if (d.port p).session = .ended then d.enterIdentifying p else d
  match found with
  | none => d.refuseGrant p
  | some (slot, a) =>
    if !d.localGrant slot a then d.refuseGrant p
    else if d.nat Key.hostAuthMode = 0 then d.setPosted p (some (slot, a.number))
    else (d.setAuth p (some ⟨slot, a.number, d.nowMs + d.nat Key.hostAuthTimeoutMs⟩)).putNat (Key.authPending p) a.number

/-- Is a port waiting for identification (11 R501)? -/
def waiting (d : Dev) (p : PortId) : Bool :=
  let q := d.port p
  (decide (q.session = .identifying) || (decide (q.session = .ended) && decide (d.mode p ≠ 0) && decide (q.pilot ≠ .a) && !q.opened)) &&
    ((d.nat (Key.authModes p)).testBit 0 || q.basic) && (d.ledger.auth[p]).isNone && (d.ledger.posted[p]).isNone &&
    (d.ledger.bind[p]).isNone

/-- Evaluate the credit of every port of an account; after leaving EXHAUSTED, AutoReconnect asks for a new grant for a port held in ENDED
with its vehicle connected (11 R291, R293). -/
def evaluateAccount (d : Dev) (ents : Vector Entity 9) (slot utc : Nat) : Dev :=
  match d.acct slot with
  | none => d
  | some a =>
    let avail := d.available ents slot
    (d.creditPorts slot).foldl (fun (d : Dev) (p : PortId) =>
      let old := d.nat (Key.creditState p)
      let d := if (d.ledger.bind[p]).isSome then d.putInt (Key.runningNetCost p) (d.sessionCost ents p) else d
      let d := d.setCredit p avail a.number a.friendlyClass utc
      let q := d.port p
      if old = 4 ∧ d.nat (Key.creditState p) ≠ 4 ∧ d.flag Key.autoReconnect ∧ d.ledger.held[p] = some slot ∧ q.session = .ended ∧ q.pilot ≠ .a ∧
          d.mode p ≠ 0 ∧ !q.opened ∧ (d.ledger.auth[p]).isNone ∧ (d.ledger.posted[p]).isNone ∧ d.sequencerUp then
        d.identify p (some (slot, a))
      else d) d

/-! ### Binding (11 R284; 12 R323) -/

/-- Is the slot of a record number in state 0 or 3 (12 R323)? -/
def slotFree (d : Dev) (number : Nat) : Bool :=
  match d.heart.records.find? fun (x : Nat × RecordSlot) => x.1 = number % 8192 with
  | some (_, .signed _ _) => true
  | none => true
  | _ => false

/-- Can the record store take one more session (12 R323)? -/
def storeFits (d : Dev) : Bool :=
  let k := (allPorts.filter fun p => (d.ledger.bind[p]).any fun b => b.number.isNone).length
  (List.range (k + 1)).all fun i => d.slotFree (d.heart.nextRecord + i)

/-- BINDING (11 R284): Heartwood takes the binding, and the session is AUTHORISED; or refuses it, and the session ends like a refused
grant. -/
def binding (p : PortId) (d : Dev) : Dev :=
  match d.ledger.posted[p] with
  | none => d
  | some (slot, account) =>
    if !d.heartwoodTakes then d
    else
      let d := (d.setPosted p none).putNat Key.lastLegalCode 0x13
      if (d.port p).session ≠ .identifying then d
      else match d.acct slot with
        | none => d.refuseGrant p
        | some a =>
          if (d.ledger.bind[p]).isSome then d.refuseGrant p
          else if !a.sound ∨ a.number ≠ account then (d.ledgerCorrupt slot).refuseGrant p
          else if !d.storeFits then (d.legal 0x0702 p (leBytes 1 p)).refuseGrant p
          else
            let d := d.setBinding p (some ⟨slot, account, 0, none, none, false⟩)
            let d : Dev := { d with ledger := { d.ledger with held := d.ledger.held.set p none } }
            let d := (d.putNat (Key.boundAccount p) account).putNat (Key.boundSlot p) slot
            let d := d.putNat (Key.creditState p) 0
            let d := d.setCredit p (d.available d.committedEnts slot) account a.friendlyClass d.time.utcS
            (d.enterAuthorised p).settle

end Dev

def execBinding (p : PortId) (s : State) : Out3 State := s.onDev (Dev.binding p)

/-- EXTERNAL_ID (11 R282): the account number a host names, for a port that is waiting for identification (log entry 45). -/
def externalIdServe (p : PortId) (a : Ack) (v : Val) (d : Dev) : Dev :=
    if !d.waiting p then d.abort a Code.notClearing
    else match v with
      | .int n => (d.identify p (d.findNumber n.toNat)).ok a
      | .bytes _ => d.abort a Code.range

def execExternalId (m : HostMsg) (p : PortId) (data : Bytes) (s : State) : Out3 State := s.onDev (cmdWrite m (Key.externalId p) false data (externalIdServe p))

/-- AUTH_ANSWER (11 R283): 1 lets the local decision stand, 2 refuses. -/
def authAnswerServe (p : PortId) (a : Ack) (v : Val) (d : Dev) : Dev :=
    match d.ledger.auth[p] with
    | none => d.abort a Code.notClearing
    | some r =>
      let d := (d.setAuth p none).putNat (Key.authPending p) 0
      if v = .int 1 then (d.setPosted p (some (r.slot, r.account))).ok a else (d.refuseGrant p).ok a

def execAuthAnswer (m : HostMsg) (p : PortId) (data : Bytes) (s : State) : Out3 State := s.onDev (cmdWrite m (Key.authAnswer p) false data (authAnswerServe p))

/-- HOST_AUTH_TIMEOUT (11 R283): in mode 1 the local decision stands, in mode 2 no answer refuses. -/
def hostAuthTimeout (p : PortId) (d : Dev) : Dev :=
  match d.ledger.auth[p] with
  | none => d
  | some r =>
    if d.sequencerUp ∧ r.deadline ≤ d.nowMs then
      let d := (d.setAuth p none).putNat (Key.authPending p) 0
      if d.nat Key.hostAuthMode = 2 then d.refuseGrant p else d.setPosted p (some (r.slot, r.account))
    else d

def execHostAuthTimeout (p : PortId) (s : State) : Out3 State := s.onDev (hostAuthTimeout p)

end Sys2Proof.Machine
end

