-- ==== Sys2Proof/Machine/Commit.lean ====
section
/-! DEFINITION. Commits: RING_COMMIT's core, what a committed ring sets off, the checks on committed periods, uncommitted intervals,
session closes, the final ring, HALL_READING (09 R231 to R246; 11 R286 to R291; 12 R318 to R324; 03 R72, R73). -/

namespace Sys2Proof.Machine

/-- A check takes one more period or reading: it toggles after `n` consecutive ones that ask for it (09 R242). Answers the run after it
and whether it toggled. -/
def CheckRun.next (c : CheckRun) (bad : Bool) (dev : Int) (n : Nat) : CheckRun × Bool :=
  let dev := if bad || c.latched then max c.dev dev else dev
  if bad = c.latched then ({ c with run := 0, dev := dev }, false)
  else if n ≤ c.run + 1 then ({ c with latched := bad, run := 0, dev := dev }, true)
  else ({ c with run := c.run + 1, dev := dev }, false)

/-- The root of P² + Q² under P, in 10^-4 with the sign of P (09, 0x3q10.0D); 10,000 in DC with flow. -/
def powerFactorOf (mode : Nat) (p q : Int) : Int :=
  if mode = 3 then (if p = 0 then 0 else 10000)
  else
    let s := Nat.sqrt (p.natAbs * p.natAbs + q.natAbs * q.natAbs)
    if s = 0 then 0 else divRound (p * 10000) s

namespace Dev

/-! ### Uncommitted intervals (09 R237 to R239; 12 event 0x0201) -/

/-- The uncommitted-interval event of one port: its bound and the sign of its last energy. -/
def uncommittedPort (fl : Nat) (d : Dev) (x : PortId × Nat × Nat × Int) : Dev :=
  let p := x.1
  let b := ceilDiv x.2.1 x.2.2.1
  if b = 0 then d
  else
    let d := d.legalAt d.nowUs 0x0201 (fl ||| 4) p.val (leBytes 4 b ++ leBytes 1 (ofSigned 8 x.2.2.2.sign))
    let d := (d.bump (Key.uncommittedCount p)).putNat (Key.lastUncommittedBound p) b
    match d.energy.sessions[p] with
    | some l => d.setLive p (some { l with flags := setBit l.flags 2 true })
    | none => d

/-- Write an uncommitted-interval event: bounds of ports as fractions of mWh, with the sign of their last energy; the site's bound is the
sum rounded up. -/
def uncommitted (d : Dev) (base : Ring) (bounds : List (PortId × Nat × Nat × Int)) (flags : Nat) : Dev :=
  let fl := d.timeFlags ||| flags
  let d := d.legalAt d.nowUs 0x0201 fl 0xFF (leBytes 8 base.number ++ leBytes 8 base.time)
  let d := bounds.foldl (uncommittedPort fl) d
  let sum := bounds.foldl (fun (s : Nat × Nat) (_, a, b, _) => (s.1 * b + a * s.2, s.2 * b)) (0, 1)
  let e := isum (bounds.map fun (_, _, _, e) => e)
  let d := d.legalAt d.nowUs 0x0201 (fl ||| 4) 8 (leBytes 4 (ceilDiv sum.1 sum.2) ++ leBytes 1 (ofSigned 8 e.sign))
  (d.bump Key.siteUncommittedCount).putNat Key.siteLastUncommittedBound (ceilDiv sum.1 sum.2)

/-- The bounds of R238 from a base ring: power of the last period times its length and 8 ms. -/
def boundsOf (r : Ring) : List (PortId × Nat × Nat × Int) :=
  allPorts.filterMap fun p =>
    let x := r.ents[portEntity p]
    if x.eabs = 0 ∨ x.len = 0 then none else some (p, x.eabs * 1000 * (x.len + 262144), 2 ^ 48 * x.len, x.enet)

/-- The gap counters are read, logged and cleared (09 R239): the interval is logged whether or not a port counted. -/
def gapEvent (d : Dev) (flags : Nat) : Dev :=
  let bounds := allPorts.filterMap fun p =>
    if d.energy.gap[p] = 0 then none else some (p, d.energy.gap[p] * 1000, 2 ^ 48, (d.committedEnts[portEntity p]).enet)
  let d := d.setEnergy fun n => { n with gap := Vector.replicate 8 0 }
  match d.energy.newest with
  | none => d
  | some r => d.uncommitted r bounds flags

/-! ### Checks (09 R242 to R246) -/

/-- A check toggled: it is logged, and the latching of one that is a tamper source goes to Burl. -/
def checkToggled (d : Dev) (latched : Bool) (check entity : Nat) (source : Option Nat) (dev : Int) : Dev :=
  let d := d.legal (if latched then 0x0304 else 0x0305) entity (leBytes 1 check ++ leBytes 4 (ofSigned 32 dev))
  match source with
  | some s => if latched then d.setBurl fun b => { b with reports := b.reports ++ [(s, if s = 9 then dev else 0)] } else d
  | none => d

/-- Run one check of an entity. -/
def runCheck (d : Dev) (get : Energy → CheckRun) (put : Energy → CheckRun → Energy) (key : Nat) (bad : Bool) (dev : Int) (n check entity : Nat)
    (source : Option Nat) : Dev :=
  let (c, toggled) := (get d.energy).next bad dev n
  let d := d.setEnergy fun e => put e (if toggled ∧ !c.latched then { c with dev := 0 } else c)
  let d := d.putFlag key c.latched
  if toggled then d.checkToggled c.latched check entity source c.dev else d

/-- The checks a committed period runs. -/
def periodChecks (d : Dev) (c : Closed) : Dev :=
  match entityPort c.e with
  | none =>
    let d := d.putNat Key.zeroSequenceVoltage c.rms
    d.runCheck (·.missing) (fun e x => { e with missing := x }) Key.missingNeutralLatched c.checks[0].1 c.checks[0].2 50 2 8 (some 0x0B)
  | some p =>
    let s := (d.meter c.e).set
    let d := d.runCheck (·.neutral[p]) (fun e x => { e with neutral := e.neutral.set p x }) (Key.neutralMismatchLatched p) c.checks[0].1
      c.checks[0].2 s.nmPeriods 1 p (some 0x0A)
    let d := d.runCheck (·.reverse[p]) (fun e x => { e with reverse := e.reverse.set p x }) (Key.reverseEnergyLatched p) c.checks[1].1
      c.checks[1].2 s.revPeriods 3 p (some 0x0C)
    d.runCheck (·.clearing[p]) (fun e x => { e with clearing := e.clearing.set p x }) (Key.energyInClearingLatched p) c.checks[2].1
      c.checks[2].2 50 4 p none

/-- The quality counters and the volatile values of a committed port period (09, 0x3q10, 0x3q20). -/
def periodValues (d : Dev) (c : Closed) : Dev :=
  match entityPort c.e with
  | none => d
  | some p =>
    let d := d.bump (Key.periodsTotal p)
    let d := (List.range 15).foldl (fun (d : Dev) i =>
      if c.qf.testBit i then d.bump (if i = 14 then Key.flagCount14 p else Key.flagCount p i) else d) d
    let d := (List.finRange 3).foldl (fun (d : Dev) (k : Fin 3) =>
      (d.putInt (Key.activePowerL p k) (milliWatts c.ep[k] c.len)).putInt (Key.reactivePowerL p k) (milliWatts c.eq[k] c.len)) d
    let w := milliWatts c.enet c.len
    let v := milliWatts c.qnet c.len
    let d := (d.putInt (Key.activePowerTotal p) w).putInt (Key.reactivePowerTotal p) v
    (d.putInt (Key.powerFactor p) (powerFactorOf c.mode w v)).putNat (Key.residualRms p) c.rms

/-! ### The end of a session (11 R286 to R289; 12 R318 to R321) -/

/-- The CBOR body of a record (12 R320). -/
def recordBody (d : Dev) (b : RecordBody) : Bytes :=
  cborMap [
    (1, cborUint b.number), (2, cborBytes ((d.bytes Key.deviceIdHash).take 8)), (3, cborUint b.port), (4, cborUint b.sessionId),
    (5, cborUint b.account), (6, cborUint b.start), (7, cborUint b.stop), (8, cborUint b.imported), (9, cborUint b.exported),
    (10, cborBytes (b.tariffs.flatMap fun (t, di, de) => beBytes 1 t ++ beBytes 5 di ++ beBytes 5 de)), (11, cborUint b.priceSetId),
    (12, cborUint b.priceClass), (13, cborUint b.fee), (14, cborInt b.netCost), (15, cborInt b.balanceAfter), (16, cborUint b.quality),
    (17, cborUint b.flags), (18, cborUint b.logSeq), (19, cborBytes b.logChain), (20, cborUint b.closeCommit)]

/-- Cost, debit and record of a session over a closing ring (11 R287, R288; 12 R319, R320; 01 R27). -/
def settleSession (d : Dev) (slot number : Nat) (part : RecordOpening) (endUs quality flags : Nat) (ring : Ring) : Dev :=
  let p := part.port
  let x := ring.ents[portEntity p]
  let cost := netCost part x
  let old := match d.acct slot with | some a => a.balance | none => 0
  let applied := (d.balanceRequest slot (-cost) none).isSome
  let d : Dev := match d.balanceRequest slot (-cost) none with
    | some d => d
    | none => (d.ledgerCorrupt slot).legal 0x0506 p (leBytes 8 part.account ++ leBytes 8 (ofSigned 64 (-cost)))
  let bal := if applied then (match d.acct slot with | some a => a.balance | none => 0) else old
  let now := tariffReadouts x
  let tariffs := (List.finRange 16).filterMap fun (t : Fin 16) =>
    let di := now[t.val]'(by omega) - part.readouts[t.val]'(by omega)
    let de := now[t.val + 16]'(by omega) - part.readouts[t.val + 16]'(by omega)
    if di = 0 ∧ de = 0 then none else some (t.val + 1, di, de)
  let body : RecordBody := {
    number := number, port := p, sessionId := part.sessionId, account := part.account, start := part.openTime, stop := endUs
    imported := readout x.simp, exported := readout x.sexp, tariffs := tariffs, priceSetId := part.priceSetId, priceClass := part.priceClass
    fee := part.prices[32], netCost := cost, balanceAfter := bal, quality := quality, flags := setBit flags 1 (!applied)
    logSeq := d.legalSeq, logChain := d.chain, closeCommit := ring.number }
  let d : Dev := { d with heart := { d.heart with records := setSlotIn d.heart.records (number % 8192) (.stored part body) } }
  let d := (d.putNat (Key.debitApplied p) (if applied then 1 else 2)).putInt (Key.runningNetCost p) cost
  let d : Dev := match d.acct slot with
    | some a => if applied then d.putAcct slot { a with lastSession := number }.seal else d
    | none => d
  let d := if d.unreconciled = 8128 then d.general (.note 8 []) else d
  d.postRecord number

/-- The session of a port closes with a ring: debit and record when it is bound (11 R287). While MRAM is away the record waits in SRAM,
8 at most (03, table *Rail monitors*); from PFW on it is costed at the next start-up (03 R73; 11 R289). -/
def closeSession (d : Dev) (p : PortId) (l : Live) (ring : Ring) : Dev :=
  match d.ledger.bind[p], l.number with
  | some b, some number =>
    match b.part with
    | none => d.unbind p
    | some part =>
      if d.power.shutdownStep ≠ 0 then d
      else if !d.rail .vddMem then
        if d.energy.unstored.length < 8 then d.setEnergy fun n => { n with unstored := n.unstored ++ [(p, l, ring)] } else d
      else (d.settleSession b.slot number part l.endUs l.quality l.flags ring).unbind p
  | _, _ => d

/-- A session is stopped before a delta or session register reaches 10^12 mWh (12 R321; log entry 44). -/
def capSession (d : Dev) (p : PortId) (x : Entity) : Dev :=
  let lim : Nat := 999000000000
  let beyond : Bool := match d.ledger.bind[p] with
    | some b => match b.part with
      | some part => (List.finRange 32).any fun i => decide (lim ≤ (tariffReadouts x)[i] - part.readouts[i])
      | none => false
    | none => false
  let live := (d.energy.sessions[p]).isSome
  if live && (beyond || decide (lim ≤ readout x.simp) || decide (lim ≤ readout x.sexp)) && (d.port p).stop.isNone then d.placeStop p 10 else d

/-! ### Legal items (12 R324) -/

/-- Has an uncommitted interval been logged since the last power up? -/
def uncommittedSincePower (d : Dev) : Bool := (d.heart.log.takeWhile fun e => e.code ≠ 0x0101).any fun e => e.code = 0x0201

/-- The conditions of the legal status, item 0x09, bit by bit in the order of the table. -/
def legalStatus (d : Dev) : Nat :=
  setBit (setBit (setBit (setBit (setBit (setBit 0 0 (decide (d.heart.sealBroken ≠ 0))) 1 d.energy.lost) 2 (decide (d.power.state = .tamperHold))) 3
    ((List.finRange 68).any fun c => (d.chan c).failed ≠ 0)) 4 d.energy.magnet.latched) 5 d.uncommittedSincePower

/-- The newest stored record of a port. -/
def lastRecord (d : Dev) (p : Nat) : Option RecordBody :=
  (d.heart.records.filterMap fun (x : Nat × RecordSlot) => match x.2 with
    | .opened _ _ => none
    | .stored _ b => if b.port.val = p then some b else none
    | .signed b _ => if b.port.val = p then some b else none).foldl (fun (m : Option RecordBody) b => match m with
      | none => some b
      | some c => if c.number < b.number then some b else some c) none

/-- What a legal item shows (12, table *Legal display items*), as numbers. -/
def itemValue (d : Dev) (ents : Vector Entity 9) (code e : Nat) : List Int :=
  let ent := ents.getD e Entity.zero
  match code with
  | 0x01 => [readout ent.imp]
  | 0x02 => [readout ent.exp]
  | 0x03 => [readout ents[8].imp]
  | 0x04 => [readout ents[8].exp]
  | 0x05 => [(match d.energy.newest with | some r => r.bill | none => Billing.zero).tariff]
  | 0x06 => if d.time.unknown then [] else [d.localOf d.time.utcS, d.int Key.activeLocalOffset]
  | 0x07 => (d.bytes Key.utilityMeterNumber).map fun b => (b.toNat : Int)
  | 0x08 => [leVal ((d.bytes Key.heartwoodRomHash).take 4), d.nat Key.calibrationCheck, leVal ((d.burl.sealHash.getD []).take 4)]
  | 0x09 => [d.legalStatus]
  | 0x0A => match d.lastRecord e with | some b => [b.number, b.imported, b.netCost, b.balanceAfter] | none => []
  | 0x0B => [d.nat (Key.creditState e), d.int (Key.creditAvailable e)]
  | _ => []

/-- Heartwood writes every mandatory item (12 R324). -/
def writeItems (d : Dev) : Dev :=
  let codes := (List.range (d.nat Key.mandatoryCount)).map fun i => d.nat (Key.mandatoryItem i)
  let items := codes.map fun w => (w / 256, w % 256, d.itemValue d.committedEnts (w / 256) (w % 256))
  { d with heart := { d.heart with items := items, itemsCommit := d.committedNumber } }

/-! ### The commit (09 R231 to R234) -/

/-- Write a ring into its slot with the next CommitNumber; answers it as written. -/
def writeRing (d : Dev) (ring : Ring) (ok : Bool) : Ring × Dev :=
  let r := { ring with number := d.energy.number + 1 }
  let k : Fin 32 := ⟨r.number % 32, Nat.mod_lt _ (by decide)⟩
  (r, d.setEnergy fun n => { n with number := r.number, slots := n.slots.set k (some (ok, r)), newest := if ok then some r else n.newest })

/-- A read-back failed (09 R232): the same contents go to the next slot; at the fourth failure every port has a level 2 demand. -/
def commitFailed (d : Dev) (r : Ring) : Dev :=
  let d := (d.bump Key.readBackFailCount).legal 0x0203 0xFF (leBytes 1 (r.number % 32) ++ leBytes 8 r.number)
  let d := d.setEnergy fun n => { n with fails := n.fails + 1 }
  if d.energy.fails = 4 then allPorts.foldl judgeLevel2 d else d

/-- Legal objects show what the committed ring holds (01 R30; 10 R253): those that have changed again since the commit began go on to show its
values. -/
def showLegal (d : Dev) (legal : Store) : Dev :=
  { d with tariff := { d.tariff with shown := d.tariff.shown.filterMap fun x => match legal.find x.1 with
    | none => some x
    | some v => if v = d.val x.1 then none else some (x.1, v) } }

/-- What a committed ring sets off, in the order counters, checks, credit, caps, closes, items. -/
def commitDone (d : Dev) (c : CommitRun) (r : Ring) (durationUs : Nat) : Dev :=
  let d := d.putNat Key.lastCommitDuration (min durationUs 0xFFFF)
  let d := if r.flags.testBit 0 then d.bump Key.lateCommitCount else d
  let stuck := 4 ≤ d.energy.fails
  let d := (d.setEnergy fun n => { n with fails := 0, commit := none }).showLegal c.legal
  let d := if stuck then (allPorts.foldl judgeLevel2 d).gapEvent 0 else d
  let d := c.entries.foldl periodValues d
  let d := c.entries.foldl periodChecks d
  let ports := c.entries.filterMap fun x => entityPort x.e
  let latest := c.entries.foldl (fun m x => max m x.endUs) 0
  let slots := (ports.filterMap fun p => match d.ledger.bind[p] with
    | some b => some b.slot
    | none => d.ledger.held[p]).eraseDups
  let d := slots.foldl (fun d s => d.evaluateAccount r.ents s (latest / 1000000)) d
  let d := ports.foldl (fun d p => d.capSession p r.ents[portEntity p]) d
  let d := allPorts.foldl (fun d p => c.closes.foldl (fun (d : Dev) (q, l) => if q = p then d.closeSession p l r else d) d) d
  let d : Dev := match d.heart.inspection with
    | some i => match i.testCount with
      | some (p, none) =>
        { d with heart := { d.heart with inspection := some { i with testCount := some (p, some (readout (r.ents[portEntity p]).imp, r.time)) } } }
      | _ => d
    | none => d
  (d.writeItems.wantCommit).settle

/-- RING_COMMIT without the tamper response to what its checks latch: the commit that runs is written and read back (09 R231). -/
def ringCommit (readBackOk : Bool) (durationUs : Nat) (d : Dev) : Dev :=
  match d.energy.commit with
  | none => d
  | some c =>
    if !d.heartwoodUp ∨ d.energy.lost then d
    else
      let w := d.writeRing c.ring readBackOk
      if readBackOk then w.2.commitDone c w.1 durationUs else w.2.commitFailed w.1

/-! ### The final ring (03 R72, R73; 09 R235) -/

/-- The periods of an entity that wait close, and its sums at hand as a partial period (09 R235). -/
def closeLast (d : Dev) (e : EntityId) : Dev :=
  let held := (d.meter e).held
  let d := d.roll e none
  let last := ((d.meter e).held).drop held.length
  let d := d.setMeter e fun m => { m with held := [] }
  match entityPort e with
  | some p => last.foldl (fun (d : Dev) r => d.closePort p { r with flags := setBit (setBit r.flags 2 false) 12 true } true)
      (held.foldl (fun (d : Dev) r => d.closePort p r false) d)
  | none => last.foldl (fun (d : Dev) r => d.closeSite { r with flags := setBit r.flags 12 true })
      (held.foldl (fun (d : Dev) r => d.closeSite r) d)

/-- The sums at hand close as partial periods into a ring of kind 1, after the commit that runs; answers the commit to write, none where
accumulation has not resumed (03 R82) or Heartwood does not commit. -/
def finalRing (d : Dev) (event : Nat) : Option CommitRun × Dev :=
  if !d.metro.running ∨ d.energy.lost ∨ !d.running .heartwood then (none, d)
  else
    let d : Dev := match d.energy.commit with
      | some _ => if d.energy.fails = 0 then d.ringCommit true 0 else d
      | none => d
    let d := (List.finRange 9).foldl closeLast d
    let old := match d.energy.commit with | some c => c.entries | none => []
    let oldCloses := match d.energy.commit with | some c => c.closes | none => []
    let entries := d.energy.batch ++ old
    let run : CommitRun := ⟨entries, oldCloses ++ d.energy.closes, d.buildRing entries 1 event 0, d.unshown⟩
    (some run, d.setEnergy fun n => { n with batch := [], closes := [], commit := none })

/-- The final commit while the device stays in service: the measurement clock or die is lost (02, table *Loss or fault of a clock*). -/
def finalCommit (d : Dev) : Dev :=
  let last := d.finalRing d.nowUs
  match last.1 with
  | some c => (last.2.writeRing c.ring true).2.commitDone c (last.2.writeRing c.ring true).1 0
  | none => last.2

end Dev

/-- HALL_READING (09 R246): two readings above 150 mT latch, ten below 120 mT release. -/
def hallReading (mT : Nat) (d : Dev) : Dev :=
  if !d.sampling ∨ !d.heartwoodUp then d
  else
    let c := d.energy.magnet
    let bad := if c.latched then decide (120 ≤ mT) else decide (150 < mT)
    (d.putNat Key.magneticField (min mT 0xFFFF)).runCheck (·.magnet) (fun e x => { e with magnet := x }) Key.magnetAlarm bad mT
      (if c.latched then 10 else 2) 5 8 (some 0x09)

end Sys2Proof.Machine
end

