-- ==== Sys2Proof/Machine/Boundaries.lean ====
section
/-! DEFINITION. Boundaries: the sets of a UTC second and of the grid, their steps, clock adjustment, runs of skipped boundaries; UTC_SECOND,
BOUNDARY_SET, CLOSE_NOW, SET_TIME, CLOCK_STEP (10 R249 to R273; 02 R42, R44; log entry 51).

Flags of a set beside those of its journal entries: bit 8 clock set back, 9 clock set forward, 10 settings change, 11 the demand run restarts
after the close. -/

namespace Sys2Proof.Machine
namespace Dev

def setTariff (d : Dev) (f : Tariff → Tariff) : Dev := { d with tariff := f d.tariff }

/-- Set a legal object whose readout shows its old value until a committed ring holds the new one (01 R30; 10 R253, R276). With the ring store
lost there is no ring to wait for. -/
def putLegal (d : Dev) (k : Nat) (v : Val) : Dev :=
  let d := if d.energy.lost ∨ (d.tariff.shown.find k).isSome then d
    else d.setTariff fun t => { t with shown := t.shown.insert k (d.val k) }
  d.put k v

/-- Is crossing 0x1A fresh: a valid number, written, and not stale (10 R261; 14 R390)? -/
def gridFresh (d : Dev) : Bool := d.canopy.valid && !(d.crossings[(0x1A : Fin 58)]).stale

/-- SeasonInForce, DayProfileInForce and DayKind of a local instant (10 R255). -/
def refreshDay (d : Dev) (loc : Nat) : Dev :=
  let (_, m, dd) := civil (loc / 86400)
  let (p, k) := d.dayProfileOf (loc / 86400)
  d.setBill fun b => { b with season := d.seasonOn m dd, dayProfile := p, dayKind := k }

/-! ### The journal (10 R272) -/

/-- Append an entry to the boundary journal, which keeps 512, newest first. -/
def journal (d : Dev) (s : BoundSet) (step : Nat) (done : Bool) (reason data1 data2 : Nat) : Dev :=
  let n := (match d.tariff.journal with | [] => 0 | e :: _ => e.seq) + 1
  d.setTariff fun t => { t with
    journal := ⟨n, s.stamp, s.instant, step, done, s.flags % 128, reason, data1, data2⟩ :: t.journal.take 511 }

/-- A step between its two journal entries; a late one is counted (10 R253, R272). -/
def journaled (d : Dev) (s : BoundSet) (step reason data1 data2 : Nat) (f : Dev → Dev) : Dev :=
  let d := (f (d.journal s step false reason data1 data2)).journal s step true reason data1 data2
  let n := match d.tariff.journal with | [] => 0 | e :: _ => e.seq
  let d := d.setBill fun b => { b with bstep := n }
  if s.flags % 4 = 0 then d else d.putLegal Key.lateBoundaryCount (.int (min (d.nat Key.lateBoundaryCount + 1) 0xFFFFFFFF))

/-! ### The steps (10, table *Order of steps in a boundary set*) -/

/-- Step 1, the load-profile close (10 R266): one record, when the profile is enabled, with readouts of a ring's registers; it takes the place of
the record that its slot held. -/
def profileClose (d : Dev) (s : BoundSet) (ents : Vector Entity 9) : Dev :=
  let b := d.energy.bill
  let nominal := 60 * d.nat Key.profileInterval
  let len := s.stamp - b.profileStart
  let has (i : Nat) : Bool := s.flags.testBit i
  let fl := setBit b.profileFlags 0 (has 3 || decide (len < nominal))
  let fl := setBit fl 1 (has 4 || decide (nominal < len))
  let fl := setBit (setBit (setBit fl 2 (has 1)) 4 (has 0)) 5 (has 8)
  let fl := setBit (setBit (setBit fl 6 (has 9)) 7 d.time.unknown) 8 (has 10)
  let r : ProfileRec := {
    slot := b.profileNext, endTime := s.stamp, flags := fl, tariff := b.tariff, quality := b.profileQuality
    imp := ents.map fun x => readout x.imp
    exp := ents.map fun x => readout x.exp
    site := ents[8].q.map readout }
  d.journaled s 1 0 b.profileNext 0 fun d =>
    (d.setTariff fun t => { t with profile := r :: t.profile.filter fun x => x.slot ≠ r.slot }).setBill fun b => { b with
      profileStart := s.stamp, profileFlags := 0, profileNext := (b.profileNext + 1) % 38400
      profileCount := min 38400 (b.profileCount + 1), profileQuality := 0 }

/-- The demand of a window: floor(Σ E · 3600 / window_ms) (10 R262). -/
def demandOf (energy ms : Nat) : Nat := if ms = 0 then 0 else energy * 3600 / ms

/-- The highest demand of the billing period; a tie keeps the earlier time (10 R263). -/
def maxOf (old : Nat × Nat) (new time : Nat) : Nat × Nat := if old.1 < new then (new, time) else old

/-- The demand run restarts (10 R262). -/
def restartRun (d : Dev) : Dev := (d.setBill fun b => { b with subs := 0, flags := 0 }).setTariff fun t => { t with history := [] }

/-- A full demand window closes: the demand of each entity, and its maximum (10 R262, R264); `w` holds the sub-intervals of the window. -/
def closeWindow (d : Dev) (w : List SubInterval) (flags stamp : Nat) : Dev :=
  let ms := (w.map fun x => x.ms).sum
  let di : Vector Nat 9 := Vector.ofFn fun e => demandOf (w.map fun x => x.imp[e]).sum ms
  let de : Vector Nat 9 := Vector.ofFn fun e => demandOf (w.map fun x => x.exp[e]).sum ms
  let d := d.setBill fun b => { b with lastImp := di, lastExp := de }
  let d := (List.range 9).foldl (fun (d : Dev) e => (d.putLegal (Key.lastDemandTime e) (.int stamp)).putLegal (Key.lastDemandFlags e) (.int flags)) d
  if ms * 2 < d.nat Key.demandInterval * 60000 then d
  else d.setBill fun b => { b with
    maxImp := Vector.zipWith (fun m x => maxOf m x stamp) b.maxImp di
    maxExp := Vector.zipWith (fun m x => maxOf m x stamp) b.maxExp de }

/-- Step 2, the demand close (10 R262, R263), with readouts of a ring's registers. The flags of a window are those of its sub-intervals, and it is
short or long by its own length. At a return to the grid (reason 3) the window that closes still counts as one without alignment (R261). -/
def demandClose (d : Dev) (s : BoundSet) (ents : Vector Entity 9) : Dev :=
  let b := d.energy.bill
  let n := max 1 (d.nat Key.subIntervals)
  let imp : Vector Nat 9 := ents.map fun x => readout x.imp
  let exp : Vector Nat 9 := ents.map fun x => readout x.exp
  let ms := (s.demandAt - b.subStart) / 1000
  let sub : SubInterval := ⟨ms, Vector.zipWith (· - ·) imp b.subImp, Vector.zipWith (· - ·) exp b.subExp⟩
  let hist := (sub :: d.tariff.history).take 15
  let subs := min 15 (b.subs + 1)
  let nominal := d.subLength * 1000
  let has (i : Nat) : Bool := s.flags.testBit i
  let window := ((hist.take n).map fun x => x.ms).sum
  let on (i : Nat) (x : Bool) : Bool := b.flags.testBit i || x
  let fl := setBit (setBit (setBit b.flags 2 (on 2 (b.alignLost && decide (d.nat Key.demandAlign = 1)))) 4 (on 4 (has 1))) 5 (on 5 (has 0))
  let shown := setBit (setBit fl 0 (has 3 || decide (window < n * nominal))) 1 (has 4 || decide (n * nominal < window))
  let d := d.journaled s 2 s.reason2 (b.histSeq % 2) (b.histSeq + 1) fun d =>
    ((if subs < n then d else d.closeWindow (hist.take n) shown s.stamp).setTariff fun t => { t with history := hist, prevHistory := t.history }).setBill
      fun b => { b with
        subStart := s.demandAt, subs := subs, subImp := imp, subExp := exp, histSeq := b.histSeq + 1, flags := if subs < n then fl else 0
        alignLost := b.alignLost && decide (s.reason2 ≠ 3) }
  if has 11 then d.restartRun else d

/-- Copy the passive calendar into the active one. -/
def activateCalendar (d : Dev) : Dev :=
  let new := calendarKeys.map fun k => (activeKeyOf k, d.val k)
  (new ++ [(Key.activeCalendarCheck, Val.int (calendarCheck d.val : Nat))]).foldl (fun (d : Dev) (x : Nat × Val) => d.putLegal x.1 x.2) d

/-- Step 3, calendar activation (10 R258). -/
def activation (d : Dev) (s : BoundSet) : Dev :=
  let oldId := d.nat Key.activeCalendarId
  let oldCheck := d.nat Key.activeCalendarCheck
  let late := s.flags % 4 ≠ 0
  d.journaled s 3 0 (d.nat Key.passiveCalendarId) 0 fun d =>
    let d := (d.activateCalendar.putLegal Key.activatedAt (.int s.instant)).putNat Key.passiveState 2
    d.legal 0x0402 0xFF (leBytes 4 oldId ++ leBytes 4 oldCheck ++ leBytes 4 (d.nat Key.activeCalendarId) ++
      leBytes 4 (d.nat Key.activeCalendarCheck) ++ leBytes 1 (if late then 1 else 0))

/-- Step 4, the tariff switch, when the tariff changes (10 R256). -/
def tariffSwitch (d : Dev) (s : BoundSet) (new : Nat) : Dev :=
  let old := d.energy.bill.tariff
  if new = old then d else d.journaled s 4 0 old new fun d => d.setBill fun b => { b with tariff := new }

/-- Step 5, the billing close (10 R265): one snapshot for each entity, from a ring's registers. -/
def billingClose (d : Dev) (s : BoundSet) (ents : Vector Entity 9) (commit : Nat) : Dev :=
  let b := d.energy.bill
  let has (i : Nat) : Bool := s.flags.testBit i
  let fl := setBit (setBit (setBit b.billFlags 0 (has 0)) 1 (has 1)) 2 (has 2)
  let snaps : Vector Snapshot 9 := Vector.ofFn fun e =>
    let x := ents[e]
    { entity := e, reason := s.reason5, period := b.period, start := b.start, close := s.stamp, flags := fl, quality := b.quality[e]
      exec := d.nowUs, commit := commit
      regs := #v[readout x.imp, readout x.exp, readout x.q[0], readout x.q[1], readout x.q[2], readout x.q[3]]
      timp := x.timp.map readout, texp := x.texp.map readout, maxImp := b.maxImp[e], maxExp := b.maxExp[e]
      calendar := d.nat Key.activeCalendarId }
  let k : Fin 24 := ⟨b.snapNext % 24, Nat.mod_lt _ (by decide)⟩
  d.journaled s 5 s.reason5 (b.period + 1) b.snapNext fun d =>
    (d.setTariff fun t => { t with snaps := t.snaps.set k (some snaps) }).setBill fun b => { b with
      period := b.period + 1, start := s.stamp, maxImp := Vector.replicate 9 (0, 0), maxExp := Vector.replicate 9 (0, 0)
      quality := Vector.replicate 9 0, billFlags := 0, snapNext := (b.snapNext + 1) % 24, snapCount := min 24 (b.snapCount + 1) }

/-- The steps of a set in their order (10 R250). -/
def runSet (d : Dev) (s : BoundSet) : Dev :=
  let d := if s.steps.testBit 1 then d.profileClose s d.committedEnts else d
  let d := if s.steps.testBit 2 then d.demandClose s d.committedEnts else d
  let d := if s.steps.testBit 3 then d.activation s else d
  let d := if s.steps.testBit 3 || s.steps.testBit 4 then d.tariffSwitch s (d.tariffAt (d.localOf s.stamp)) else d
  let d := if s.steps.testBit 5 then d.billingClose s d.committedEnts d.committedNumber else d
  d.refreshDay (d.localOf s.stamp)

/-- Pending periods no waiting set holds go to the registers under the tariff in force (10 R251). -/
def addPending (d : Dev) : Dev :=
  (List.finRange 8).foldl (fun (d : Dev) (p : PortId) =>
    let e := portEntity p
    let l := d.energy.bill.pend[e]
    let d := d.setBill fun b => { b with pend := b.pend.set e (l.filter fun x => d.waitsForSet x.endUs) }
    (l.filter fun x => !d.waitsForSet x.endUs).foldl (fun (d : Dev) x =>
      let t := d.energy.bill.tariff
      let d := (d.setLiveEntity e fun r => r.addPeriod x.enet x.qnet x.neg t x.sess).setLiveEntity 8 fun r =>
        r.addPeriod x.enet x.qnet x.neg t false
      d.setBill fun b => { b with
        quality := (vmod b.quality e (· ||| x.qf)).set 8 (b.quality[8] ||| x.qf), profileQuality := b.profileQuality ||| x.qf }) d) d

/-! ### Waiting sets (10 R250, R251) -/

/-- Put a boundary among the waiting sets; those of one UTC second form one set, whose instant is its earliest. -/
def addSet (d : Dev) (s : BoundSet) : Dev :=
  if d.tariff.sets.any fun x => x.stamp = s.stamp then
    d.setTariff fun t => { t with sets := t.sets.map fun x =>
      if x.stamp ≠ s.stamp then x
      else { x with
        instant := min x.instant s.instant, steps := x.steps ||| s.steps, flags := x.flags ||| s.flags
        demandAt := if s.steps.testBit 2 then s.demandAt else x.demandAt
        reason2 := if s.steps.testBit 2 then s.reason2 else x.reason2
        reason5 := if s.steps.testBit 5 ∧ !x.steps.testBit 5 then s.reason5 else x.reason5 } }
  else
    let before := d.tariff.sets.filter fun x => x.instant ≤ s.instant
    let after := d.tariff.sets.filter fun x => s.instant < x.instant
    d.setTariff fun t => { t with sets := before ++ s :: after }

/-- May the set start: every period that ends before its instant is committed (10 R251), and time is known (R271)? -/
def setReady (d : Dev) (s : BoundSet) : Bool :=
  d.heartwoodUp && !d.energy.lost && !d.time.unknown && decide (s.instant ≤ d.nowUs) && d.energy.batch.all (fun c => decide (s.instant ≤ c.endUs)) &&
    (match d.energy.commit with | none => true | some c => c.entries.all fun x => decide (s.instant ≤ x.endUs)) &&
    (List.finRange 9).all fun (e : EntityId) => (d.meter e).held.all fun r => decide (s.instant ≤ r.endUs)

/-- BOUNDARY_SET (10 R250 to R253). -/
def boundarySet (d : Dev) : Dev :=
  match d.tariff.sets with
  | [] => d
  | s :: rest =>
    if !d.setReady s then d
    else (((d.runSet s).setTariff fun t => { t with sets := rest }).addPending).wantCommit

/-! ### Boundaries stamped in UTC (10 R254 to R271) -/

/-- The local-clock grid times the demand: no alignment, or alignment lost (10 R261). -/
def localDemand (d : Dev) : Bool := decide (d.nat Key.demandAlign = 0) || !d.tariff.onGrid

/-- Is the passive calendar armed in a mode? -/
def armed (d : Dev) (mode : Nat) : Bool := decide (d.nat Key.passiveState = 1) && decide (d.nat Key.calendarActivationMode = mode)

/-- The steps an activation brings into a set: 3, and 5 under CloseBillingOnActivation. -/
def activationSteps (d : Dev) : Nat := 8 + (if d.flag Key.closeBillingOnActivation then 32 else 0)

/-- A late activation outside a run (10 R259): at once, flagged, or discarded. One that waits already is not begun again. -/
def lateActivation (d : Dev) : Dev :=
  if d.tariff.sets.any fun x => x.steps.testBit 3 then d
  else if d.nat Key.calendarLatePolicy = 1 then
    (d.putNat Key.passiveState 3).legal 0x0403 0xFF (leBytes 4 (d.nat Key.passiveCalendarId))
  else d.addSet ⟨d.nowUs, d.nowUs, d.nowUs / 1000000, d.activationSteps, 1, 0, 2⟩

/-- The demand run leaves or loses the grid (10 R261): local-clock windows, flagged, in a new run. -/
def loseGrid (d : Dev) : Dev :=
  if d.nat Key.demandAlign = 0 ∨ d.gridFresh then d
  else
    let d := d.setBill fun b => { b with alignLost := true }
    if d.tariff.onGrid then (d.restartRun).setTariff fun t => { t with onGrid := false } else d

/-- The boundaries of one UTC second that the clock reaches for the first time. -/
def boundariesOf (d : Dev) (utc : Nat) : Dev :=
  let loc := d.localOf utc
  let now : Bool := d.tariff.closeNow.any fun t => t ≤ utc
  let act := d.armed 1 && decide (d.nat Key.calendarActivationTime = utc)
  let scheduled := d.billingAt loc
  let steps := setBit 0 1 (d.flag Key.profileEnable && onGridOf (60 * d.nat Key.profileInterval) loc)
  let steps := setBit steps 2 (d.localDemand && onGridOf d.subLength loc)
  let steps := setBit (setBit steps 4 (d.switchesAt loc && decide (d.tariffAt loc ≠ d.energy.bill.tariff))) 5 (scheduled || now)
  let steps := if act then steps ||| d.activationSteps else steps
  let d := d.setTariff fun t => { t with closeNow := if now then none else t.closeNow }
  if steps = 0 then d
  else d.addSet ⟨utc * 1000000, utc * 1000000, utc, steps, 0, 0, if scheduled then 0 else if now then 1 else 2⟩

/-! ### Runs of skipped boundaries (10 R270, R273) -/

/-- The last instant of a grid of the local day at or before a local second. -/
def lastOnGrid (step loc : Nat) : Nat := loc / 86400 * 86400 + loc % 86400 / step * step

/-- The boundaries whose stamps lie after one UTC second and at or before another, as one run with the flags given. `late` says that an
activation in it is late under R259. -/
def runSkipped (d : Dev) (after upTo flags : Nat) (late : Bool) (ents : Vector Entity 9) (commit : Nat) : Dev :=
  let at_ (stamp steps fl reason2 reason5 : Nat) : BoundSet := ⟨d.nowUs, stamp * 1000000, stamp, steps, fl, reason2, reason5⟩
  let la := d.localOf after
  let lu := d.localOf upTo
  let step := 60 * d.nat Key.profileInterval
  let g := nextOnGrid step la
  let d := if d.flag Key.profileEnable ∧ g ≤ lu then
      (d.profileClose (at_ (d.utcOf g) 2 flags 0 0) ents).setBill fun b => { b with profileStart := d.utcOf (lastOnGrid step lu) }
    else d
  let len := d.subLength
  let g := nextOnGrid len la
  let d := if d.localDemand ∧ g ≤ lu then
      (d.demandClose (at_ (d.utcOf g) 4 flags 2 0) ents).setBill fun b => { b with subStart := d.utcOf (lastOnGrid len lu) * 1000000 }
    else d
  let d := d.restartRun
  let t := d.nat Key.calendarActivationTime
  let due : Bool := d.armed 1 && decide (t ≤ upTo)
  let runs : Bool := due && !(late && decide (d.nat Key.calendarLatePolicy = 1))
  let d := if due && !runs then (d.putNat Key.passiveState 3).legal 0x0403 0xFF (leBytes 4 (d.nat Key.passiveCalendarId)) else d
  let d := if runs then d.activation { at_ t 8 flags 0 0 with instant := t * 1000000 } else d
  let stamp := match d.lastSwitch (d.localOf after) (d.localOf upTo) 366 (d.localOf upTo / 86400) with
    | some l => if runs then max (d.utcOf l) t else d.utcOf l
    | none => if runs then t else upTo
  let d := d.tariffSwitch (at_ stamp 16 (flags ||| 32) 0 0) (d.tariffAt (d.localOf upTo))
  let la := d.localOf after
  let lu := d.localOf upTo
  let sched := (d.billingsIn la lu (lu / 86400 + 1 - la / 86400) (la / 86400)).map fun l => (d.utcOf l, 0)
  let closes : List (Nat × Nat) := if runs ∧ d.flag Key.closeBillingOnActivation ∧ !(sched.any fun x => x.1 = t) then
      sched.filter (fun x => x.1 < t) ++ (t, 2) :: sched.filter (fun x => t < x.1)
    else sched
  let d := d.setBill fun b => { b with period := b.period + (closes.length - 24) }
  let d := (closes.drop (closes.length - 24)).foldl (fun (d : Dev) (t, r) => d.billingClose (at_ t 32 flags 0 r) ents commit) d
  (d.setBill fun b => { b with highWater := max b.highWater upTo }).refreshDay (d.localOf upTo)

/-- A UTC second that the clock reaches: HighWater, and the boundaries of the second or of the run since the last one (10 R269 to R271).
Nothing fires while time is unknown. -/
def secondReached (d : Dev) : Dev :=
  let now := d.time.utcS
  let old := d.energy.bill.highWater
  if d.time.unknown ∨ !d.heartwoodUp ∨ d.energy.lost ∨ now ≤ old then d
  else if now = old + 1 then
    let d := (d.loseGrid).setBill fun b => { b with highWater := now }
    let d := if d.armed 1 ∧ d.nat Key.calendarActivationTime < now then d.lateActivation else d
    let d := d.boundariesOf now
    if d.localOf now % 86400 = 0 then d.refreshDay (d.localOf now) else d
  else d.runSkipped old now 1 true d.committedEnts d.committedNumber

/-! ### Boundaries of the grid (10 R258, R259, R261) -/

/-- A network crossing with the grid cycle number `g`, valid or not (14 R390): the grid-aligned demand close, and the activation of mode
2. -/
def gridCrossing (d : Dev) (g : Nat) (valid : Bool) : Dev :=
  if !valid ∨ d.time.unknown ∨ !d.heartwoodUp ∨ d.energy.lost then d
  else
    let now := d.nowUs
    let sec := now / 1000000
    let cycles := d.subLength * d.nat Key.nominalFrequency
    let d := if d.nat Key.demandAlign = 1 ∧ cycles ≠ 0 ∧ g % cycles = 0 then
        if d.tariff.onGrid then d.addSet ⟨now, now, sec, 4, 64, 0, 0⟩
        else
          (d.setTariff fun t => { t with onGrid := true }).addSet ⟨now, now, sec, 4, 64 + 8 + 2048, 3, 0⟩
      else d
    if !d.armed 2 ∨ g < d.nat Key.calendarActivationTime then d
    else if g = d.nat Key.calendarActivationTime then d.addSet ⟨now, now, sec, d.activationSteps, 0, 0, 2⟩
    else d.lateActivation

/-! ### Commits of settings (10 R258 to R260, R266) -/

/-- Group 0x20 is committed: the passive calendar is armed or disarmed; an activation whose instant has passed is late. -/
def calendarCommitted (d : Dev) : Dev :=
  let d := d.putNat Key.passiveCheck (calendarCheck d.val)
  let d := d.putNat Key.passiveState (if d.nat Key.calendarActivationMode = 0 then 0 else 1)
  if d.time.unknown then d
  else if d.armed 1 ∧ d.nat Key.calendarActivationTime ≤ d.time.utcS then d.lateActivation
  else if d.armed 2 ∧ d.gridFresh ∧ d.nat Key.calendarActivationTime ≤ d.canopy.gcn then d.lateActivation
  else d

/-- Group 0x21 is committed: the running sub-interval closes, and the run restarts. While time is unknown no boundary fires (10 R271). -/
def demandCommitted (d : Dev) : Dev :=
  let d := if d.time.unknown then d.restartRun else d.addSet ⟨d.nowUs, d.nowUs, d.nowUs / 1000000, 4, 8 + 1024 + 2048, 1, 0⟩
  if d.nat Key.demandAlign = 0 then (d.setTariff fun t => { t with onGrid := false }).setBill fun b => { b with alignLost := false }
  else if d.tariff.onGrid then d else d.setBill fun b => { b with alignLost := true }

/-- Group 0x22 is committed: a new ProfileInterval closes the running interval. -/
def billingCommitted (d : Dev) (oldInterval : Nat) : Dev :=
  if d.nat Key.profileInterval = oldInterval ∨ !d.flag Key.profileEnable ∨ d.time.unknown then d
  else d.addSet ⟨d.nowUs, d.nowUs, d.nowUs / 1000000, 2, 8 + 1024, 0, 0⟩

/-! ### Setting the clock (10 R268 to R271; 02 R44; 03 R87) -/

/-- Set UTC to a time in µs: I6 latches anew. -/
def setUtc (d : Dev) (us : Nat) : Dev :=
  let ticks := (us % 1000000 * 512 + 124) / 125
  let d : Dev := { d with time := { d.time with utcS := us / 1000000, tLatch := d.time.fabric - ticks } }
  d.produce 0x2D (utcWords d)

/-- A new time: a slew up to 2 s, a step beyond. -/
def setTime (d : Dev) (new : Int) : Dev :=
  let x := new - (d.nowUs : Int)
  if x.natAbs ≤ 2000000 then
    { d with time := { d.time with slew := x * 16, stepBy := none, unknown := false, i6Lost := false } }
  else { d with time := { d.time with slew := 0, stepBy := some x } }

/-- The clock is stepped (10 R268 to R270): a step to a time above HighWater runs the boundaries between, any other closes the running
intervals at the old time. -/
def stepClock (d : Dev) (x : Int) : Dev :=
  let old := d.nowUs
  let new := ((old : Int) + x).toNat
  let stamp := old / 1000000
  let wasUnknown := d.time.unknown
  let high := d.energy.bill.highWater
  let d : Dev := { d with time := { d.time with stepBy := none, slew := 0, unknown := false, i6Lost := false } }
  let d := (d.legal 0x0401 0xFF (leBytes 8 old ++ leBytes 8 new)).putLegal Key.timeStepCount (.int (min (d.nat Key.timeStepCount + 1) 0xFFFFFFFF))
  let d := ((d.putLegal Key.lastStepOld (.int old)).putLegal Key.lastStepNew (.int new)).setBill fun b => { b with
    billFlags := setBit b.billFlags 3 true }
  if d.energy.lost then d.setUtc new
  else if high < new / 1000000 then
    (d.setUtc new).runSkipped high (new / 1000000) (1 + 512) wasUnknown d.committedEnts d.committedNumber
  else
    let fl := 8 + (if x < 0 then 256 else 512)
    let d := if d.flag Key.profileEnable then d.profileClose ⟨old, old, stamp, 2, fl, 0, 0⟩ d.committedEnts else d
    let d := if d.localDemand then d.demandClose ⟨old, old, stamp, 4, fl, 2, 0⟩ d.committedEnts else d
    let d := (d.restartRun).setBill fun b => { b with
      profileStart := new / 1000000, subStart := if d.localDemand then new else b.subStart }
    d.setUtc new

/-- CLOCK_STEP (10 R268): after any running set completes, with every closed period committed. -/
def clockStep (d : Dev) : Dev :=
  match d.time.stepBy with
  | none => d
  | some x =>
    if d.heartwoodUp ∧ d.tariff.sets = [] ∧ d.energy.batch = [] ∧ d.energy.commit.isNone then d.stepClock x else d

end Dev

def execBoundarySet (s : State) : Out3 State := s.onDev Dev.boundarySet
def execClockStep (s : State) : Out3 State := s.onDev Dev.clockStep

/-- The second event reaches Heartwood on crossing 0x2E, and with it the boundaries stamped with that second; one that comes while the crossing
is in reset is lost (02 R59). -/
def secondEvent (d : Dev) : Dev := if d.passes 0x2E then (d.crossed 0x2E).secondReached else d

/-- UTC_SECOND (02 R42, R44, R48; 10 R269): the second itself, then the boundaries stamped with it. -/
def execUtcSecond (i1Ticks : Nat) (s : State) : Out3 State :=
  s.onDev fun d => if (utcSecond i1Ticks d).time.utcS = d.time.utcS then utcSecond i1Ticks d else secondEvent (utcSecond i1Ticks d)

/-- CROSSING_RESYNC_DONE (02 R57, R58). Once 0x2E runs again Heartwood, told by its overrun flag, runs the due boundaries from the UTC value
(R56). -/
def resyncDone (c : Fin 58) (d : Dev) : Dev :=
  if c = 0x2E ∧ !d.passes 0x2E ∧ (crossingResyncDone c d).passes 0x2E then (crossingResyncDone c d).secondReached else crossingResyncDone c d

def execCrossingResyncDone (c : Fin 58) (s : State) : Out3 State := s.onDev (resyncDone c)

/-- CLOSE_NOW (10 R264): a billing close at the next whole UTC second. -/
def closeNowServe (a : Ack) (_ : Val) (d : Dev) : Dev :=
    (d.setTariff fun t => { t with closeNow := some (d.time.utcS + 1) }).ok a

def execCloseNow (m : HostMsg) (data : Bytes) (s : State) : Out3 State := s.onDev (cmdWrite m Key.closeNow false data closeNowServe)

/-- SET_TIME (10 R268, R271). -/
def setTimeServe (a : Ack) (v : Val) (d : Dev) : Dev := match v with
    | .int n => (d.setTime n).ok a
    | .bytes _ => d.abort a Code.range

def execSetTime (m : HostMsg) (data : Bytes) (s : State) : Out3 State := s.onDev (cmdWrite m Key.setTime false data setTimeServe)

end Sys2Proof.Machine
end

