-- ==== Sys2Proof/Machine/Phy.lean ====
section
/-! DEFINITION. The physical layer of Canopy: tones and symbols, coding, interleaving, the frame and beacon as symbols, the state of the medium
(14 R371 to R382, R385, R397, R401). -/

namespace Sys2Proof.Machine

/-- Set bits of a byte. -/
def popcount (x : Nat) : Nat := ((List.range 8).filter fun i => x.testBit i).length

/-! ### Tones (14 R371, R372) -/

/-- Frequency in kHz of the tone of a pair that carries a bit (14, table *Tone pairs*). -/
def toneKHz (pair : Fin 8) (bit : Bool) : Nat := 42 + 6 * pair.val + (if bit then 3 else 0)

/-- The pairs that send in a symbol. -/
def Sym.sending (s : Sym) : List (Fin 8) := (List.finRange 8).filter fun j => s.pairs.getLsbD j.val

/-- The tones of a symbol in kHz: one of each pair that sends. -/
def Sym.tones (s : Sym) : List Nat := s.sending.map fun j => toneKHz j (s.marks.getLsbD j.val)

/-- Amplitude of each tone of a symbol in mV peak to peak: 2.0 V / N, 0.5 V at most (14 R372). -/
def Sym.amplitude (s : Sym) : Nat := if s.sending = [] then 0 else min (2000 / s.sending.length) 500

/-! ### Coding (14 R374) -/

/-- Twice an element of GF(256), field polynomial 0x11D. -/
def gfDouble (a : Nat) : Nat := if a < 128 then 2 * a else (2 * a) ^^^ 0x11D

/-- Product in GF(256): `a` times the low `n` bits of `b`. -/
def gfMul : Nat → Nat → Nat → Nat
  | 0, _, _ => 0
  | n + 1, a, b => (if b % 2 = 1 then a else 0) ^^^ gfMul n (gfDouble a) (b / 2)

/-- A polynomial, highest coefficient first, times x + r. -/
def gfTimesRoot (g : List Nat) (r : Nat) : List Nat := List.zipWith (· ^^^ ·) (g ++ [0]) (0 :: g.map (gfMul 8 r))

/-- The generator of RS(255,239) with the roots α^0 to α^15, without its leading 1. -/
def rsGenerator : List Nat := (((List.range 16).map fun i => iter gfDouble i 1).foldl gfTimesRoot [1]).drop 1

/-- The 16 parity bytes of a shortened codeword, the highest power first. -/
def rsParity (g : List Nat) (data : Bytes) : Bytes :=
  (data.foldl (fun (r : List Nat) b =>
    let f := b.toNat ^^^ r.headD 0
    List.zipWith (· ^^^ ·) (r.drop 1 ++ [0]) (g.map (gfMul 8 f))) (List.replicate 16 0)).map fun x => BitVec.ofNat 8 x

/-- Data bytes as one codeword. -/
def rsWord (data : Bytes) : Bytes := data ++ rsParity rsGenerator data

/-- Is the number of ones among the low seven bits odd? -/
def oddOnes (x : Nat) : Bool := decide ((popcount x) % 2 = 1)

/-- The bits of bytes, each byte least significant bit first. -/
def bitsOfBytes (b : Bytes) : List Bool := b.flatMap fun x => (List.range 8).map fun i => x.getLsbD i

/-- The convolutional code of rate 1/2 with K = 7 from a state of six past bits, the newest in bit 5: the output of 0o171 before that of 0o133,
whose leading bit weighs the bit that comes in (14 R374; log entry 77). -/
def convolve : Nat → List Bool → List Bool
  | _, [] => []
  | st, b :: r =>
    let x := (if b then 64 else 0) + st
    oddOnes (x &&& 0o171) :: oddOnes (x &&& 0o133) :: convolve (x / 2) r

/-- Bytes through the inner code, flushed with six zero bits. -/
def innerCode (b : Bytes) : List Bool := convolve 0 (bitsOfBytes b ++ List.replicate 6 false)

/-- CRC-16-CCITT, the more significant byte first (14 R374). -/
def crc16 (b : Bytes) : Bytes := (leBytes 2 (crc 16 0x1021 0xFFFF false 0 b)).reverse

/-! ### Interleaving (14 R375, R376) -/

/-- The factor a of C slots: the smallest odd number from 0.382 · C on that has no common factor with C. -/
def spread (c : Nat) : Nat :=
  (((List.range (c + 2)).map (ceilDiv (382 * c) 1000 + ·)).find? fun a => decide (a % 2 = 1 ∧ Nat.gcd a c = 1)).getD 1

/-- The slots of a block: coded bit k stands in slot (k · a) mod C, and slots left over carry 0. -/
def interleave (c : Nat) (bits : List Bool) : List Bool :=
  let inv := ((List.range c).find? fun x => decide (x * spread c % c = 1 % c)).getD 0
  let held := bits.toArray
  (List.range c).map fun i => held.getD (i * inv % c) false

/-- Sizes of the blocks of a body in symbols (14 R376). -/
def blockSizes (total blocks : Nat) : List Nat :=
  (List.range blocks).map fun i => total / blocks + (if i < total % blocks then 1 else 0)

/-- What a symbol of a body carries: four streams on two pairs each, or a bit on every pair of a mask (14 R380, R381). -/
inductive Carrier where
  | robust
  | mask (pairs : Nat)
deriving DecidableEq, Repr

/-- Coded bits of a symbol. -/
def Carrier.bits : Carrier → Nat
  | .robust => 4
  | .mask m => popcount m

/-- A number with the bits of a list of positions. -/
def bitsAt (l : List (Nat × Bool)) : BitVec 8 := BitVec.ofNat 8 (l.foldl (fun n (i, b) => setBit n i b) 0)

/-- A symbol with its coded bits, in ascending pair order; a stream g goes on pairs g and g + 4. -/
def Carrier.symbol (c : Carrier) (b : List Bool) : Sym :=
  match c with
  | .robust => ⟨0xFF, bitsAt ((List.range 8).map fun j => (j, b.getD (j % 4) false))⟩
  | .mask m => ⟨BitVec.ofNat 8 m, bitsAt (((List.range 8).filter fun j => m.testBit j).zip b)⟩

/-- Cut bits over the symbols of a block. -/
def fillSymbols : List Carrier → List Bool → List Sym
  | [], _ => []
  | c :: r, b => c.symbol (b.take c.bits) :: fillSymbols r (b.drop c.bits)

/-- The blocks of a body, one after the other, from the coded bits of the whole body. -/
def fillBlocks : List Nat → List Carrier → List Bool → List Sym
  | [], _, _ => []
  | n :: r, cs, bits =>
    let c := ((cs.take n).map Carrier.bits).sum
    fillSymbols (cs.take n) (interleave c (bits.take c)) ++ fillBlocks r (cs.drop n) (bits.drop c)

/-! ### Frames (14 R378 to R381) -/

/-- Preamble and sync. -/
def leadIn : List Sym :=
  (List.range 4).map (fun s => ⟨0xFF, if s % 2 = 1 then 0xFF else 0⟩) ++
  (List.range 8).map fun s => ⟨0xFF, bitsAt ((List.range 8).map fun j => (j, (0x9A7C3E15D2846BF1 : Nat).testBit (63 - (8 * j + s))))⟩

/-- The header block: the 8 bytes and HCRC as one codeword, in four streams. -/
def headerSymbols (header : Bytes) : List Sym :=
  fillBlocks [107] (List.replicate 107 .robust) (innerCode (rsWord (header ++ crc16 header)))

/-- The bytes of a body: payload and FCRC in one codeword, or in two of which the first takes the greater half. -/
def bodyBytes (header payload : Bytes) : Bytes :=
  let b := payload ++ crc16 (header ++ payload)
  if b.length ≤ 239 then rsWord b else rsWord (b.take (ceilDiv b.length 2)) ++ rsWord (b.drop (ceilDiv b.length 2))

/-- A frame as symbols: `carriers` are those of the body symbols, in `blocks` blocks; a frame of Length 0 has no body. -/
def frameSymbols (header payload : Bytes) (carriers : List Carrier) (blocks : Nat) : List Sym :=
  leadIn ++ headerSymbols header ++
    (if payload = [] then [] else fillBlocks (blockSizes carriers.length blocks) carriers (innerCode (bodyBytes header payload)))

/-- The beacon as symbols (14 R382): lead, sync and the coded body, bit k in symbol k div 8 on pair k mod 8. -/
def beaconSymbols (body : Bytes) : List Sym :=
  let bits := (innerCode (body ++ leBytes 1 (crc 8 7 0 false 0 body))).toArray
  [⟨0xFF, 0⟩, ⟨0xFF, 0xFF⟩] ++
  (List.range 3).map (fun s => ⟨0xFF, bitsAt ((List.range 8).map fun j => (j, (0xC5A93E : Nat).testBit (23 - (3 * j + s))))⟩) ++
  (List.range 10).map fun s => ⟨0xFF, bitsAt ((List.range 8).map fun j => (j, bits.getD (8 * s + j) false))⟩

/-! ### Messages as bytes (14, tables *Header*, *Frame types and payloads*, *NIF payload*; R401) -/

/-- The type of a message. -/
def CnpMsg.type : CnpMsg → Nat
  | .nif _ => 0x01 | .joinRequest .. => 0x02 | .joinAccept .. => 0x03 | .joinRefuse .. => 0x04 | .leave _ => 0x05 | .ack => 0x06
  | .keepalive => 0x07 | .tonemapRequest _ => 0x08 | .tonemapResponse .. => 0x09 | .linkRequest .. => 0x0A | .linkAccept .. => 0x0B
  | .loadReport .. => 0x0C | .appResponse .. => 0x11

/-- The traffic class of a message. -/
def CnpMsg.class : CnpMsg → Nat
  | .loadReport .. => 2
  | .appResponse .. => 3
  | .keepalive => 4
  | _ => 0

/-- Is a message protected (14, table *Frame types and payloads*)? -/
def CnpMsg.secured : CnpMsg → Bool
  | .joinRequest .. | .joinRefuse .. | .ack | .keepalive | .linkRequest .. => false
  | _ => true

/-- Bytes made n long with zeros. -/
def fixBytes (n : Nat) (b : Bytes) : Bytes := b.take n ++ List.replicate (n - b.length) 0

/-- The bytes of a NIF (14, table *NIF payload, before protection*). -/
def NifPayload.image (p : NifPayload) : Bytes :=
  leBytes 2 p.network.val ++ fixBytes 8 p.coordLong ++ leBytes 1 p.rank.val ++
  leBytes 1 ((if p.utcValid then 1 else 0) + (if p.drezu then 2 else 0) + (if p.discontinuous then 4 else 0)) ++
  leBytes 6 p.gcn ++ leBytes 8 p.utc ++ leBytes 1 p.span ++ leBytes 1 p.nifInterval ++ leBytes 2 p.refreshS ++
  p.headroom.toList.flatMap (leBytes 1) ++ p.masks.toList.map (fun (m : BitVec 8) => m) ++ [0] ++
  fixBytes 16 (p.reservations.flatMap fun (a, n, who) => leBytes 1 a ++ leBytes 1 n ++ leBytes 2 who)

/-- The clear part of a message, and the part that is protected where it is. -/
def CnpMsg.parts : CnpMsg → Bytes × Bytes
  | .nif p => ([], NifPayload.image p)
  | .joinRequest long nonce prev caps rank => (fixBytes 8 long ++ fixBytes 16 nonce ++ leBytes 2 prev ++ leBytes 1 caps ++ leBytes 1 rank, [])
  | .joinAccept nonce long addr net gcn rank =>
    (fixBytes 16 nonce ++ fixBytes 8 long, leBytes 2 addr ++ leBytes 2 net ++ leBytes 6 gcn ++ leBytes 1 rank)
  | .joinRefuse long reason => (fixBytes 8 long ++ leBytes 1 reason, [])
  | .leave reason => ([], leBytes 1 reason)
  | .ack => ([], [])
  | .keepalive => ([], [])
  | .tonemapRequest id => ([], leBytes 1 id)
  | .tonemapResponse id map mask thr => ([], leBytes 1 id ++ leBytes 1 map ++ leBytes 1 mask ++ fixBytes 8 thr)
  | .linkRequest long nonce caps => (fixBytes 8 long ++ fixBytes 16 nonce ++ leBytes 1 caps, [])
  | .linkAccept nonce caps => (fixBytes 16 nonce, leBytes 1 caps)
  | .loadReport phase draw limit => ([], leBytes 1 phase ++ (draw ++ limit).flatMap (leBytes 2))
  | .appResponse id l => ([], leBytes 1 id ++ l.flatMap fun (c, b) => leBytes 4 c ++ leBytes 1 b.length ++ b)

/-- Length of the payload, the protection of 12 bytes included (14 R401). -/
def CnpMsg.length (m : CnpMsg) : Nat := m.parts.1.length + m.parts.2.length + (if m.secured then 12 else 0)

/-- Initial contention window of a message (14, table *Traffic classes*). -/
def CnpMsg.window : CnpMsg → Nat
  | .loadReport .. => 8
  | .appResponse .. => 16
  | .keepalive => 32
  | _ => 4

/-- The 8 header bytes of a frame (14, table *Header*). -/
def cnpHeader (src dst network seq map : Nat) (ackReq : Bool) (m : CnpMsg) : Bytes :=
  leBytes 1 (0x20 + m.type) ++ leBytes 2 (src % 2048 + 2048 * (network % 32)) ++
  leBytes 2 (dst % 2048 + 2048 * (if ackReq then 1 else 0) + 4096 * (seq % 16)) ++
  leBytes 1 m.length ++ leBytes 1 map ++ leBytes 1 ((if m.secured then 1 else 0) + 2 * m.class)

/-- The payload: of a protected message clear part, FrameCounter and ciphertext with MIC under the key; header, counter and clear part are
authenticated (14 R401). -/
def cnpPayload (key header long : Bytes) (counter : Option Nat) (m : CnpMsg) : Bytes :=
  match counter with
  | none => m.parts.1 ++ m.parts.2
  | some n =>
    let c := leBytes 4 n
    m.parts.1 ++ c ++ Config.ccm key (fixBytes 8 long ++ c ++ leBytes 1 m.type) (header ++ c ++ m.parts.1) m.parts.2 8

/-! ### Durations (14 R376, R381, R389) -/

/-- Coded bits of a body with a payload length (14 R381). -/
def codedBits (len : Nat) : Nat := 2 * (8 * (len + 2 + 16 * (if len + 2 ≤ 239 then 1 else 2)) + 6)

/-- Number of blocks of a body that needs r symbols (14 R376). -/
def blockCount (r span : Nat) : Nat := max 1 (ceilDiv r span)

/-- Body symbols s_b where r are needed. -/
def bodyOf (r span : Nat) : Nat := max r (100 * blockCount r span)

/-- Body symbols s_b for a payload length, n bits a symbol and a span (14 R376). -/
def bodySymbols (len n span : Nat) : Nat := bodyOf (ceilDiv (codedBits len) n) span

/-- Symbols from the i-th on that carry `need` bits in all, `bits` telling what each carries (14 R397). -/
def symbolsFor (bits : Nat → Nat) : Nat → Nat → Nat → Nat
  | 0, _, _ => 0
  | fuel + 1, i, need => if need = 0 then 0 else 1 + symbolsFor bits fuel (i + 1) (need - bits i)

/-! ### What the receiver hears (14 R373, R385) -/

/-- Is a pair's level m + s, in µV², at or above a threshold code t, 20 + 0.5 t dBµV? -/
def atLevel (m s t : Nat) : Bool := decide (10 ^ (40 + t) ≤ (m + s) ^ 20)

/-- Soft value of a pair from the energies of its mark and space bins (14 R373): 0 below the threshold or in an impulsive symbol. -/
def softValue (m s t : Nat) (impulsive : Bool) : Int :=
  if impulsive ∨ !atLevel m s t ∨ m + s = 0 then 0 else divRound (7 * ((m : Int) - s)) (m + s)

/-- Numbers in rising order with one more. -/
def insertNat (x : Nat) : List Nat → List Nat
  | [] => [x]
  | y :: r => if x ≤ y then x :: y :: r else y :: insertNat x r

/-- The median of numbers; of an even count the mean of the middle two, doubled (twice the median). -/
def median2 (l : List Nat) : Nat :=
  let s := l.foldr insertNat []
  if l.length % 2 = 1 then 2 * s.getD (l.length / 2) 0 else s.getD (l.length / 2 - 1) 0 + s.getD (l.length / 2) 0

/-- Is a symbol impulsive: the energy outside the plan exceeds by 10 dB the median of the last 64 (14 R373)? -/
def impulsive (outer : Nat) (last : List Nat) : Bool := decide (l64 ≠ [] ∧ 10 * median2 l64 < 2 * outer)
where l64 := last.take 64

/-- A pair that sounds like Canopy: 40 dBµV, and 6 dB between its tones in either direction (14 R385). -/
def clearPair (m s : Nat) : Bool := atLevel m s 40 && (decide (1000 * s ^ 5 ≤ m ^ 5) || decide (1000 * m ^ 5 ≤ s ^ 5))

/-- Do at least four pairs of a symbol sound like Canopy? -/
def HeardSym.strong (h : HeardSym) : Bool := decide (4 ≤ ((List.finRange 8).filter fun j => clearPair h.mark[j] h.space[j]).length)

/-- The medium after one more symbol (14 R385): a preamble or sync, or two strong symbols in a row, make it busy; three symbols without a
signal make it idle. -/
def Medium.hear (x : Medium) (h : HeardSym) : Medium :=
  let run := if HeardSym.strong h then x.strong + 1 else 0
  let signal := h.sync || decide (2 ≤ run)
  let quiet := if signal then 0 else x.quiet + 1
  ⟨signal || (x.busy && decide (quiet < 3)), min run 2, min quiet 3, (h.outer :: x.outer).take 64⟩

/-- The medium after several symbols, and how many of them were impulsive. -/
def Medium.hearAll : Medium → List HeardSym → Medium × Nat
  | x, [] => (x, 0)
  | x, h :: r => (((x.hear h).hearAll r).1, ((x.hear h).hearAll r).2 + if impulsive h.outer x.outer then 1 else 0)

end Sys2Proof.Machine
end

