-- ==== Sys2Proof/Machine/Canopy.lean ====
section
/-! DEFINITION. Canopy: the node, its beacons and frames, joins, tone maps, links and the grid cycle number (14 R370 to R407; log entries 47,
49, 52). APP_READ stands with the object readouts. -/

namespace Sys2Proof.Machine

/-- The number of a node state (14 R398). -/
def NodeState.num : NodeState → Nat
  | .off => 0 | .listening => 1 | .joining => 2 | .member => 3 | .coordinator => 4

/-- MaxPayload at a site frequency in mHz (14 R389): the largest length of those up to `k` that fits. -/
def maxPayloadOf (n span freq : Nat) : Nat → Nat
  | 0 => 0
  | k + 1 => if (241 + bodySymbols (k + 1) n span) * freq ≤ 47000000 then k + 1 else maxPayloadOf n span freq k

/-- Phase code and polarity of a mean offset in 0.01°; none where two codes are equally near (14, table *Phase classification*). -/
def phaseClass (phi : Nat) : Option (Nat × Bool) :=
  if 33000 ≤ phi ∨ phi < 3000 then some (0, false)
  else if 9000 ≤ phi ∧ phi < 15000 then some (1, false)
  else if 21000 ≤ phi ∧ phi < 27000 then some (2, false)
  else if phi < 6000 then some (0, true)
  else if 6000 < phi ∧ phi < 18000 then some (1, true)
  else if 18000 < phi ∧ phi < 30000 then some (2, true)
  else if 30000 < phi then some (0, true)
  else none

/-- The two nearest codes of the offsets 60°, 180° and 300°. -/
def phaseTie (phi : Nat) : Nat × Nat := if phi = 6000 then (0, 1) else if phi = 18000 then (1, 2) else (2, 0)

/-- Mean of offsets on the circle: about the newest, the others by their nearest difference (log entry 49). -/
def circularMean : List Nat → Nat
  | [] => 0
  | a :: l =>
    let diff (b : Nat) : Int := ((b : Int) - a + 18000) % 36000 - 18000
    (((a : Int) + divRound (isum (l.map diff)) (l.length + 1)) % 36000).toNat

namespace Dev

def setCanopy (d : Dev) (f : Canopy → Canopy) : Dev := { d with canopy := f d.canopy }

/-- The Canopy engine and I3 run: power, core, 16.384 MHz reference, powerline rail, and shutdown not at its step 2. -/
def canopyUp (d : Dev) : Bool :=
  d.powered && d.running .canopy && !d.clocks.ref16Lost && d.rail .vddPlc && decide (d.power.shutdownStep < 2)

/-- Does the engine hear the mains: I3's symbols come over crossing 0x18? -/
def canopyHears (d : Dev) : Bool := d.canopyUp && d.passes 0x18

/-- May the node transmit: its symbols go over crossing 0x19, and after a reset of I3 it goes on at the next beacon only (14 R406). -/
def canopyTalks (d : Dev) : Bool := d.canopyUp && d.passes 0x19 && !d.canopy.resume

/-- The node stays in LISTENING while a tamper-hold with HoldLeaveCanopy stands (16 R448). -/
def canopyHeld (d : Dev) : Bool := d.flag Key.holdActive && d.flag Key.holdLeaveCanopy

/-- The operating range (14 R370). -/
def canopyRange (d : Dev) : Bool :=
  d.flag Key.canopyEnable && decide (d.nat Key.siteReferenceState = 0) &&
    decide (45000 ≤ d.nat Key.siteFrequency ∧ d.nat Key.siteFrequency ≤ 62000)

/-- The node's long address (14 R401). -/
def ownLong (d : Dev) : Bytes := (d.bytes Key.deviceIdHash).take 8

def setNeigh (d : Dev) (n : Fin 128) (v : Option Neigh) : Dev := d.setCanopy fun c => { c with neigh := c.neigh.set n v }
def neighAt (d : Dev) (n : Fin 128) : Option Neigh := d.canopy.neigh[n]
def modNeigh (d : Dev) (n : Fin 128) (f : Neigh → Neigh) : Dev := d.setNeigh n ((d.neighAt n).map f)

/-- The link context of a neighbour. -/
def contextOf (n : Fin 128) : Fin 160 := ⟨16 + n, by omega⟩

/-- The neighbour with a short or a long address. -/
def byAddr (d : Dev) (a : Nat) : Option (Fin 128) := (List.finRange 128).find? fun n => (d.neighAt n).any fun x => x.addr = a
def byLong (d : Dev) (l : Bytes) : Option (Fin 128) := (List.finRange 128).find? fun n => (d.neighAt n).any fun x => x.long = l

/-- Drop a neighbour: its context is zeroed. -/
def dropNeigh (d : Dev) (n : Fin 128) : Dev := (d.setNeigh n none).setContext (contextOf n) none

/-- Crossing 0x1A as I3 writes it (14 R390). -/
def gcnWords (d : Dev) : List Word :=
  let c := d.canopy
  let hi := c.gcn / 2 ^ 32 % 65536 + (d.nat Key.phaseCode % 4) * 2 ^ 16 + (if d.flag Key.reversedOrLineToLine then 2 ^ 18 else 0) +
    (if c.valid then 2 ^ 19 else 0) + (if c.node = .coordinator then 2 ^ 20 else 0)
  [BitVec.ofNat 32 c.gcn, BitVec.ofNat 32 hi]

/-- Write crossing 0x1A and the objects that show it. -/
def writeGcn (d : Dev) : Dev :=
  let d := (d.putNat Key.gridCycleNumber d.canopy.gcn).putFlag Key.gcnValid d.canopy.valid
  d.produce 0x1A d.gcnWords

/-- Settings of the node itself take effect (14 R407; log entry 77). -/
def latchCanopy (d : Dev) : Dev :=
  d.setCanopy fun c => { c with reportEvery := d.nat Key.loadReportInterval, mayRead := d.flag Key.readFromCoordinator }

/-- Leave for LISTENING, or for OFF out of range (14 R370, R398): contexts of the network go, bit 51 is clear. -/
def canopyLeave (d : Dev) (next : NodeState) : Dev :=
  let c := d.canopy
  let joined := decide (c.node = .member ∨ c.node = .coordinator)
  let d := (List.finRange 128).foldl (fun (d : Dev) n => if (d.neighAt n).isSome then d.dropNeigh n else d) d
  let d := d.setCanopy fun c => { c with
    node := next, valid := false, gap := false, sinceBeacon := 0, listened := 0, heard := none, heardNif := false, yields := false, phis := [], leased := []
    nifFollows := false, tries := 0, queue := [], wait := none, drezu := false, reservations := [], masks := [], resume := false }
  let d := d.latchCanopy
  let d := ((d.putNat Key.shortAddress 0x7FE).putNat Key.missedBeaconRun 0).putNat Key.joinedSince 0
  let d := (d.putNat Key.phaseCode 3).putNat Key.networkPhaseOfL1 0xFF
  let d := d.putBytes Key.headroomUse [0xFF, 0xFF, 0xFF]
  (if joined then d.bump Key.detachCount else d).writeGcn

/-- A number taken from a NIF or JOIN_ACCEPT: one that differs from the number counted is discontinuous (14 R391). -/
def takeGcn (d : Dev) (g : Nat) : Dev :=
  let g := g % 2 ^ 48
  if d.canopy.known ∧ d.canopy.gcn = g then d
  else
    let gap := d.canopy.known
    let d := d.setCanopy fun c => { c with gcn := g, known := true, gap := gap, valid := c.valid && !gap }
    if gap then d.writeGcn else d

/-! ### The mains cycle (14 R390, R391, R398) -/

/-- NETWORK_CROSSING: the number counts on, the cycle of the superframe too. The start of a superframe is an event on crossing 0x1B, by which
the engine counts it and an election that is lost takes effect; the number reaches the rest of the device over crossing 0x1A. -/
def networkCrossing (d : Dev) : Dev :=
  if !d.canopyUp ∨ d.canopy.node = .off then d
  else
    let d := d.setCanopy fun c =>
      let cyc := (c.cyc + 1) % 64
      { c with
        gcn := if c.known then (c.gcn + 1) % 2 ^ 48 else c.gcn, cyc := cyc, sf := if cyc = 0 ∧ d.passes 0x1B then c.sf + 1 else c.sf
        cyc0 := if cyc = 0 then d.nowUs else c.cyc0, sinceBeacon := c.sinceBeacon + 1, listened := c.listened + 1
        valid := c.known && !c.gap && decide (c.node = .member ∨ c.node = .coordinator), gap := false }
    let d := if d.canopy.cyc = 0 ∧ d.canopy.known then d.setCanopy fun c => { c with stored := some (c.gcn, d.time.utcS) } else d
    if d.canopy.cyc = 0 ∧ d.passes 0x1B ∧ d.canopy.yields then d.canopyLeave .listening
    else
      let d : Dev := if d.canopy.cyc = 0 ∧ d.passes 0x1B then d.crossed 0x1B else d
      let d := d.writeGcn
      let d := if d.canopy.valid then { d with update := { d.update with gridSeen := true } } else d
      d.gridCrossing d.canopy.gcn d.gridFresh

/-- CANOPY_RANGE_CHANGE (14 R370). -/
def canopyRangeChange (d : Dev) : Dev :=
  if !d.canopyUp then d
  else if d.canopyRange then (if d.canopy.node = .off then d.canopyLeave .listening else d)
  else if d.canopy.node = .off then d else d.canopyLeave .off

/-! ### Sending (14 R386 to R389) -/

/-- The map the node sends under towards a neighbour: robust after three failed attempts (14 R388), the half-cycle map towards one without native
maps while DrezuActive is set and a mask has a pair (14 R397), else the map the neighbour chose. -/
def mapTo (d : Dev) (x : Neigh) : Nat :=
  if 3 ≤ x.failRun then 0
  else if d.canopy.drezu ∧ !x.caps.testBit 0 ∧ d.canopy.masks.any (· ≠ 0) then 255
  else x.txMap

/-- The neighbour a frame goes to: of a JOIN_ACCEPT the member it names, otherwise the one with the address. -/
def peerOf (d : Dev) (dst : Nat) (msg : CnpMsg) : Option (Fin 128) :=
  match msg with
  | .joinAccept _ long .. => d.byLong long
  | _ => d.byAddr dst

/-- The neighbour's entry. -/
def peer (d : Dev) (dst : Nat) (msg : CnpMsg) : Option Neigh := (d.peerOf dst msg).bind d.neighAt

/-- The ToneMapId of a frame: an ACK and a frame without a neighbour go in robust mode. -/
def frameMap (d : Dev) (dst : Nat) (msg : CnpMsg) : Nat :=
  match msg, d.peer dst msg with
  | .joinAccept .., _ => 0
  | _, some x => d.mapTo x
  | _, none => 0

/-- The segment of the half-cycle that body symbol i of a frame that starts now belongs to (14 R397): by the time from the last network crossing,
rising or falling, to the symbol's centre. -/
def segmentOf (d : Dev) (i : Nat) : Nat :=
  let us := match d.canopy.own with | some t => (d.samples * 1024 - t) * 1000 / 32768 | none => 0
  let phi := if d.canopy.node = .coordinator then 0 else d.nat Key.phaseOffset
  let half := 18000 * 1000000000
  6 * ((36000 * (us + 119500 + 1000 * i) * d.nat Key.siteFrequency + phi * 1000000000) % half) / half

/-- What each symbol of a body carries, and the number of its blocks (14 R376, R381, R397). -/
def bodyPlan (d : Dev) (dst : Nat) (msg : CnpMsg) : List Carrier × Nat :=
  let span := d.canopy.span
  if msg.length = 0 then ([], 1)
  else
    let need := codedBits msg.length
    let even (c : Carrier) : List Carrier × Nat :=
      (List.replicate (bodySymbols msg.length c.bits span) c, blockCount (ceilDiv need c.bits) span)
    match d.frameMap dst msg with
    | 0 => even .robust
    | 255 =>
      let mask (i : Nat) : Nat := d.canopy.masks.getD (d.segmentOf i) 0
      let r := symbolsFor (fun i => popcount (mask i)) (20 * need) 0 need
      ((List.range (bodyOf r span)).map fun i => .mask (mask i), blockCount r span)
    | _ => even (.mask (match d.peer dst msg with | some x => x.txMask | none => 0xFF))

/-- Duration of a frame in symbols, that is ms (14 R381). -/
def airtime (d : Dev) (dst : Nat) (msg : CnpMsg) : Nat := 119 + (d.bodyPlan dst msg).1.length

/-- Put a frame into the queue. A unicast frame of a joined node asks for an ACK (log entry 49). -/
def enqueueCnp (d : Dev) (dst : Nat) (msg : CnpMsg) (ackReq : Bool) : Dev :=
  d.setCanopy fun c => { c with queue := c.queue ++ [⟨dst, msg, ackReq, 0, msg.window, 0⟩] }

/-- The FrameCounter of the next protected frame (14 R401; log entry 47). -/
def nextCounter (d : Dev) (dst : Nat) (msg : CnpMsg) : Nat × Dev :=
  match d.peerOf dst msg with
  | some n =>
    let x := (match d.neighAt n with | some x => x.counter | none => 0) + 1
    (x, d.modNeigh n fun y => { y with counter := x })
  | none =>
    let m := (List.finRange 128).foldl (fun m n => match d.neighAt n with | some x => max m x.counter | none => m) 0
    (m + 1, (List.finRange 128).foldl (fun (d : Dev) n => d.modNeigh n fun y => { y with counter := m + 1 }) d)

/-- The key a frame is protected with: of the neighbour's context, or of the broadcast entry; none while Burl has not loaded it (01 R21; 14 R402,
R404). -/
def frameKey (d : Dev) (dst : Nat) (msg : CnpMsg) : Option Bytes :=
  match d.peerOf dst msg with
  | some n => d.burl.contexts[16 + n.val]'(by omega)
  | none => if dst = 0x7FF then d.burl.broadcast else none

/-- The symbols of a frame (14 R378 to R381). -/
def frameAir (d : Dev) (dst seq map : Nat) (ackReq : Bool) (counter : Option Nat) (key : Bytes) (msg : CnpMsg) : List Sym :=
  let header := cnpHeader (d.nat Key.shortAddress) dst (d.nat Key.networkId) seq map ackReq msg
  frameSymbols header (cnpPayload key header d.ownLong counter msg) (d.bodyPlan dst msg).1 (d.bodyPlan dst msg).2

/-- The transmitter is on from a time on for so many symbols (14 R372). -/
def setAir (d : Dev) (start symbols : Nat) : Dev := d.setCanopy fun c => { c with air := some (start, symbols) }

/-- A frame goes out: Sequence per destination, counter when protected, ToneMapId of the neighbour. A protected frame whose context holds no key
is not sent (01 R21), and nothing while I3 is out (14 R406). -/
def emit (d : Dev) (tx : CnpTx) : Dev :=
  let map := d.frameMap tx.dst tx.msg
  let out (d : Dev) (counter : Option Nat) (air : List Sym) : Dev :=
    ((d.bump Key.framesSent).setAir d.nowUs air.length).say
      (.canopy (d.nat Key.shortAddress) tx.dst tx.seq tx.ackReq map counter tx.msg air)
  if !d.canopyTalks then d
  else if tx.msg.secured then
    match d.frameKey tx.dst tx.msg with
    | none => d
    | some key =>
      let (n, d') := d.nextCounter tx.dst tx.msg
      out d' (some n) (d.frameAir tx.dst tx.seq map tx.ackReq (some n) key tx.msg)
  else out d none (d.frameAir tx.dst tx.seq map tx.ackReq none [] tx.msg)

/-- A key is at its end when FrameCounter reaches 0xFFFFFF00: a LINK exchange follows (14 R401). -/
def relink (d : Dev) (n : Fin 128) : Dev :=
  match d.neighAt n with
  | some x =>
    if x.counter < 0xFFFFFF00 ∨ x.linkNonce.isSome then d
    else
      let (v, d) := d.draw
      let nonce := leBytes 16 v
      (d.modNeigh n fun y => { y with linkNonce := some nonce }).enqueueCnp x.addr (.linkRequest d.ownLong nonce 5) true
  | none => d

/-- May the node send this frame in this cycle: contention in cycles 1 to 47 with room for its ACK, or a span reserved to it for reports
and responses (14 R384, R386, R405)? -/
def mayEmit (d : Dev) (tx : CnpTx) : Bool :=
  let c := d.canopy
  let f := d.nat Key.siteFrequency
  let ms := d.airtime tx.dst tx.msg
  let fits (upTo : Nat) (extra : Nat) : Bool := decide ((ms + extra + 1) * f ≤ (upTo - c.cyc) * 1000000)
  let spanKind : Bool := match tx.msg with | .loadReport .. => true | .appResponse .. => true | _ => false
  (decide (1 ≤ c.cyc ∧ c.cyc ≤ 47) && fits 48 (if tx.ackReq then 121 else 0)) ||
    (spanKind && !tx.ackReq && c.reservations.any fun (a, n, who) =>
      decide (n ≠ 0 ∧ who = d.nat Key.shortAddress ∧ a ≤ c.cyc ∧ c.cyc < a + n) && fits (a + n) 0)

/-- Change a neighbour, when there is one. -/
def atNeigh (d : Dev) (n : Option (Fin 128)) (f : Fin 128 → Dev → Dev) : Dev := match n with | some n => f n d | none => d

/-- The engine takes the symbols heard since the last time: the state of the medium, and the impulsive ones, which are erased (14 R373, R385). -/
def listen (d : Dev) (heard : List HeardSym) : Dev :=
  if !d.canopyHears then d
  else
    let (m, n) := d.canopy.medium.hearAll heard
    (d.setCanopy fun c => { c with medium := m }).bump Key.erasedSymbols n

/-- CANOPY_TRANSMIT: the backoff count of the front frame reached 0. Nothing is sent while the medium is busy (14 R386). -/
def canopyTransmit (heard : List HeardSym) (d : Dev) : Dev :=
  let d := d.listen heard
  match d.canopy.queue with
  | [] => d
  | tx :: rest =>
    let node := d.canopy.node
    let tx : CnpTx := if d.canopy.cyc ≤ 47 then tx else { tx with ackReq := false }
    if !d.canopyTalks ∨ !d.canopyRange ∨ d.canopy.medium.busy ∨ d.canopy.wait.isSome ∨ node = .off ∨ node = .listening ∨ !d.mayEmit tx then d
    else
      let till := d.nowMs + d.airtime tx.dst tx.msg + 16
      let nb := d.byAddr tx.dst
      let seq := if tx.tries ≠ 0 then tx.seq else match nb with
        | some n => match d.neighAt n with | some x => (x.txSeq + 1) % 16 | none => 0
        | none => 0
      let tx := { tx with seq := seq, tries := tx.tries + 1 }
      let d := d.atNeigh nb fun n d => d.modNeigh n fun x => { x with txSeq := seq }
      let d := if 1 < tx.tries then d.bump Key.retransmitCount else d
      let d := d.emit tx
      let d := d.atNeigh nb fun n d => d.relink n
      let d := d.setCanopy fun c => { c with
        lastToCoord := if tx.dst = 0 then c.sf else c.lastToCoord
        joinBy := match tx.msg with | .joinRequest .. => c.sf + 2 | _ => c.joinBy
        tries := match tx.msg with | .joinRequest .. => c.tries + 1 | _ => c.tries }
      let d := if node = .joining ∧ tx.msg.secured then
          ((d.setCanopy fun c => { c with node := .member, lastReport := c.sf }).bump Key.joinCount).putNat Key.joinedSince d.nowUs
        else d
      if tx.ackReq then
        d.setCanopy fun c => { c with
          queue := tx :: rest ++ c.queue.drop (rest.length + 1), wait := some (tx, till) }
      else d.setCanopy fun c => { c with queue := rest ++ c.queue.drop (rest.length + 1) }

/-- Ask a neighbour for a tone map (14 R395). -/
def askMap (d : Dev) (n : Fin 128) : Dev :=
  match d.neighAt n with
  | none => d
  | some x =>
    let id := (d.canopy.requestId + 1) % 256
    let d := d.setCanopy fun c => { c with requestId := id }
    (d.modNeigh n fun y => { y with request := some (id, d.canopy.sf + 1) }).enqueueCnp x.addr (.tonemapRequest id) true

/-- Start a tone-map refresh, unless one is under way (14 R396). -/
def refreshMap (d : Dev) (n : Fin 128) : Dev :=
  match d.neighAt n with
  | some x => if x.request.isSome then d else (d.bump Key.toneMapRefreshCount).askMap n
  | none => d

/-- The frame that waits is done with. -/
def popWait (d : Dev) : Dev := d.setCanopy fun c => { c with queue := c.queue.drop 1, wait := none }

/-- ACK_TIMEOUT (14 R388). -/
def ackTimeout (d : Dev) : Dev :=
  match d.canopy.wait with
  | none => d
  | some (tx, t) =>
    if d.nowMs < t then d
    else
      let nb := d.byAddr tx.dst
      let d := match nb with | some n => d.modNeigh n fun x => { x with failRun := x.failRun + 1 } | none => d
      let d := if 5 ≤ tx.tries then d.popWait.bump Key.droppedFrames
        else d.setCanopy fun c => { c with wait := none, queue := { tx with cw := min 64 (2 * tx.cw) } :: c.queue.drop 1 }
      match nb with
      | some n => if (d.neighAt n).any fun x => x.failRun = 3 then d.refreshMap n else d
      | none => d

/-- ACK (14 R387): the frame that waits is confirmed, or the addressee of a frame sends its ACK. -/
def canopyAck (f : CnpFrame) (received : Bool) (d : Dev) : Dev :=
  let own := d.nat Key.shortAddress
  if !d.canopyHears ∨ d.canopy.node = .off ∨ d.canopy.node = .listening then d
  else if received then
    match d.canopy.wait with
    | none => d
    | some (tx, _) =>
      if f.dst.val = own ∧ f.src.val = tx.dst ∧ f.seq.val = tx.seq then
        let d := d.popWait.bump Key.framesReceived
        match d.byAddr tx.dst with
        | some n => d.modNeigh n fun x => { x with failRun := 0, seen := d.nowUs, lastSf := d.canopy.sf }
        | none => d
      else d
  else if f.dst.val = own ∧ f.ackReq ∧ f.bodyOk ∧ own ≠ 0x7FE ∧ d.canopyTalks then
    let air := d.frameAir f.src f.seq 0 false none [] .ack
    ((d.bump Key.framesSent).setAir (d.nowUs + 2000) air.length).say (.canopy own f.src f.seq false 0 none .ack air)
  else d

/-! ### Beacons (14 R382, R383, R393, R398, R399) -/

/-- Coded bits a symbol carries towards a neighbour: of the half-cycle map those of the mask with the fewest pairs (log entry 77). -/
def bitsTo (d : Dev) (x : Neigh) : Nat :=
  match d.mapTo x with
  | 0 => 4
  | 255 => max 1 (d.canopy.masks.foldl (fun n m => min n (popcount m)) 8)
  | _ => popcount x.txMask

/-- MaxPayload of every neighbour, anew at each beacon (14 R389). -/
def renewPayloads (d : Dev) : Dev :=
  (List.finRange 128).foldl (fun (d : Dev) n => d.modNeigh n fun x => { x with
    maxPay := maxPayloadOf (d.bitsTo x) d.canopy.span (d.nat Key.siteFrequency) 240 }) d

/-- The 3 bytes of a beacon that its CRC-8 follows (14, table *Beacon body*). -/
def beaconBody (network : Nat) (nif drezu : Bool) (superframe : Nat) : Bytes :=
  leBytes 1 network ++ leBytes 1 (network / 256 % 16 + (if nif then 16 else 0) + (if drezu then 32 else 0)) ++ leBytes 1 superframe

/-- BEACON_SEND: `omitted` is the superframe in 16 chosen at random. -/
def beaconSend (omitted : Bool) (d : Dev) : Dev :=
  let c := d.canopy
  if !d.canopyUp ∨ !d.passes 0x19 ∨ !d.passes 0x1B ∨ !d.canopyRange ∨ c.node ≠ .coordinator ∨ c.cyc ≠ 0 ∨ c.sinceBeacon < 64 then d
  else
    let sf := c.gcn / 64 % 256
    let nif := !omitted && decide (sf % max 1 (d.nat Key.nifInterval) = 0)
    let d := d.setCanopy fun c => { c with
      sinceBeacon := 0, nifFollows := nif, drezu := d.flag Key.drezuMode, span := d.nat Key.spanSymbols, refreshS := d.nat Key.toneMapRefreshS
      nifEvery := d.nat Key.nifInterval, masks := (List.finRange 6).map fun i => d.nat (Key.halfCycleMask i), resume := false }
    let d := d.latchCanopy.renewPayloads
    if omitted then d
    else
      let air := beaconSymbols (beaconBody (d.nat Key.networkId) nif (d.flag Key.drezuMode) sf)
      (d.setAir (c.cyc0 + 1000) air.length).say (.beacon (d.nat Key.networkId) nif (d.flag Key.drezuMode) sf air)

/-- The mean offset over the last 8 beacons and its class (14 R393). -/
def measurePhase (d : Dev) (delta : Nat) : Dev :=
  let f := d.nat Key.siteFrequency
  let phi := ((36000 : Int) - divRound (36 * (delta : Int) * f) 1000000) % 36000
  let l := (phi.toNat :: d.canopy.phis).take 8
  let d := d.setCanopy fun c => { c with phis := l }
  let mean := circularMean l
  let d := d.putNat Key.phaseOffset mean
  if l.length < 8 then d
  else
    let (code, rev, d) : Nat × Bool × Dev := match phaseClass mean with
      | some (c, r) => (c, r, d)
      | none => let (x, d) := d.draw; (if x % 2 = 0 then (phaseTie mean).1 else (phaseTie mean).2, true, d)
    ((d.putNat Key.phaseCode code).putFlag Key.reversedOrLineToLine rev).putNat Key.networkPhaseOfL1 code

/-- BEACON_RECEIVE (14 R382, R393): `delta` is Δ in µs. -/
def beaconReceive (network : Nat) (nif drezu : Bool) (delta : Nat) (d : Dev) : Dev :=
  let c := d.canopy
  if !d.canopyHears ∨ !d.passes 0x1B ∨ !d.canopyRange ∨ c.node = .off then d
  else match c.node with
    | .listening => d.setCanopy fun c => { c with
        heard := some network, heardNif := c.heardNif && decide (c.heard = some network), sinceBeacon := 0, cyc := 0, nifFollows := nif
        cyc0 := d.nowUs }
    | .coordinator => if network = d.nat Key.networkId then d else d.setCanopy fun c => { c with heard := some network }
    | _ =>
      if c.heard ≠ some network then d
      else
        let d := d.setCanopy fun c => { c with
          sinceBeacon := 0, cyc := 0, nifFollows := nif, drezu := drezu, sf := if c.cyc = 0 then c.sf else c.sf + 1, cyc0 := d.nowUs
          resume := false }
        ((d.putNat Key.missedBeaconRun 0).measurePhase delta).latchCanopy.renewPayloads

/-- BEACON_MISSED: the expected beacon of a superframe did not come; the eighth in a row detaches the node. -/
def beaconMissed (d : Dev) : Dev :=
  let c := d.canopy
  if !d.canopyUp ∨ (c.node ≠ .member ∧ c.node ≠ .joining) ∨ c.sinceBeacon < 65 then d
  else
    let d := (d.setCanopy fun c => { c with sinceBeacon := 1 }).bump Key.missedBeaconRun
    if 8 ≤ d.nat Key.missedBeaconRun then d.canopyLeave .listening else d

/-! ### Headroom (14 R394) -/

/-- Own draw and limit by network phase, in 0.1 A: the limit of a site phase, and what of it is not available (log entry 49). -/
def ownLoad (d : Dev) : List Nat × List Nat :=
  let of (k : Fin 3) : Nat × Nat × Nat :=
    let n := match d.networkPhase k with | some n => n | none => k.val
    let lim := d.nat (Key.siteLimitL k)
    (n, min 65535 ((lim : Int) - d.int (Key.availableL k)).toNat, lim)
  let l := (List.finRange 3).map of
  ((List.range 3).map fun n => (l.filter fun x => x.1 = n).foldl (fun s x => s + x.2.1) 0,
   (List.range 3).map fun n => (l.filter fun x => x.1 = n).foldl (fun s x => s + x.2.2) 0)

/-- HeadroomUse of a network phase as coordinator: 100 · Σ draw / Σ limit, 254 at most; 0xFF unknown. -/
def headroomOf (d : Dev) (k : Nat) : Nat :=
  let fresh := (List.finRange 128).filterMap fun n => match d.neighAt n with
    | some x => match x.report with
      | some (sf, dr, li) => if d.canopy.sf ≤ sf + 4 * d.canopy.reportEvery then some (dr, li) else none
      | none => none
    | none => none
  let all := d.ownLoad :: fresh
  let dr := (all.map fun x => x.1.getD k 0).sum
  let li := (all.map fun x => x.2.getD k 0).sum
  if li = 0 then 0xFF else min 254 (100 * dr / li)

/-- NIF_SEND (14 R383, R392, R394, R397). -/
def nifSend (d : Dev) : Dev :=
  let c := d.canopy
  if !d.canopyTalks ∨ !d.canopyRange ∨ c.node ≠ .coordinator ∨ c.cyc ≠ 1 ∨ !c.nifFollows then d
  else
    let use : Vector Nat 3 := Vector.ofFn fun k => d.headroomOf k
    let d := (d.setCanopy fun c => { c with nifFollows := false }).putBytes Key.headroomUse (use.toList.map fun x => BitVec.ofNat 8 x)
    let p : NifPayload := {
      network := ⟨d.nat Key.networkId % 4096, Nat.mod_lt _ (by decide)⟩, coordLong := d.ownLong, rank := 0x10
      utcValid := !d.time.unknown, drezu := c.drezu, discontinuous := c.gap, gcn := c.gcn / 64 * 64, utc := c.cyc0
      span := c.span, nifInterval := c.nifEvery, refreshS := c.refreshS, headroom := use
      masks := Vector.ofFn fun i => BitVec.ofNat 8 (c.masks.getD i.val 0), reservations := [] }
    d.emit ⟨0x7FF, .nif p, false, 0, 0, 1⟩

/-! ### Keys (14 R401 to R404) -/

/-- The admission key. -/
def admission (d : Dev) : Bytes := match d.keyOf 0x08 with | some k => k.material | none => []

/-- The link key of a requester and a responder. -/
def linkKey (d : Dev) (rqNonce rsNonce rqLong rsLong : Bytes) : Bytes :=
  Config.hkdf d.admission (rqNonce ++ rsNonce) (ascii "CNP1" ++ rqLong ++ rsLong) 16

/-- Burl loads the broadcast entry; an empty admission slot gives no key (16 R425). -/
def loadBroadcast (d : Dev) (network : Nat) : Dev :=
  let d := d.useKey 0x08
  if (d.keyOf 0x08).isNone then d
  else d.setBurl fun b => { b with broadcast := some (Config.hkdf d.admission (leBytes 2 network) (ascii "CNPB") 16) }

/-- A context for a neighbour: its own, a free one, or that of the least recently used neighbour but the coordinator (14 R403). -/
def contextFor (d : Dev) (long : Bytes) : Fin 128 :=
  match d.byLong long with
  | some n => n
  | none =>
    match (List.finRange 128).find? fun n => (d.neighAt n).isNone with
    | some n => n
    | none => (((List.finRange 128).filter fun n => (d.neighAt n).any fun x => x.addr ≠ 0).foldl
        (fun (b : Option (Fin 128)) n => match b with
          | none => some n
          | some m => if ((d.neighAt n).map (·.used)).getD 0 < ((d.neighAt m).map (·.used)).getD 0 then some n else b) none).getD 0

/-- The members whose address stays taken without a context: not the one that has a context now, and the one whose context it takes (14 R400,
R403). -/
def leasesAfter (d : Dev) (long : Bytes) : List (Nat × Bytes × Nat) :=
  let l := d.canopy.leased.filter fun x => x.2.1 ≠ long ∧ d.canopy.sf < x.2.2 + 16
  match d.neighAt (d.contextFor long) with
  | some y => if d.canopy.node = .coordinator ∧ y.long ≠ long then (y.addr, y.long, y.lastSf) :: l else l
  | none => l

/-- Take a neighbour into its context with a new link key. -/
def linkNeigh (d : Dev) (long : Bytes) (addr caps : Nat) (key : Bytes) (firstBy : Option Nat) : Dev :=
  let n := d.contextFor long
  let x : Neigh := {
    long := long, addr := addr, caps := caps, txMap := 0, txMask := 0, txThr := List.replicate 8 0, rxMap := 0, rxMask := 0, rxThr := List.replicate 8 0, rxOld := none, phase := 3
    maxPay := 0, failRun := 0, seen := d.nowUs, lastSf := d.canopy.sf, firstBy := firstBy, counter := 0, high := 0, window := 0, txSeq := 0
    rxSeq := none, mapAt := d.nowMs, request := none, linkNonce := none, report := none, used := d.canopy.uses + 1 }
  let d := (d.setCanopy fun c => { c with
    uses := c.uses + 1, leased := d.leasesAfter long, knownLongs := (long :: c.knownLongs.filter (· ≠ long)).take 128 }).setNeigh n (some x)
  (d.setContext (contextOf n) (some key)).renewPayloads

/-! ### Receiving (14 R379, R387, R401) -/

/-- The window of R401 after a counter, none where it repeats or is too old. -/
def counterWindow (high window counter : Nat) : Option (Nat × Nat) :=
  if high < counter then
    let k := counter - high
    some (counter, if 32 < k then 0 else ((window * 2 + 1) * 2 ^ (k - 1)) % 2 ^ 32)
  else if counter = high ∨ counter + 32 < high then none
  else if window.testBit (high - 1 - counter) then none
  else some (high, window + 2 ^ (high - 1 - counter))

/-- Does the receiver hold the map a frame names, for its sender (14 R379, R396)? -/
def holdsMap (d : Dev) (f : CnpFrame) : Bool :=
  decide (f.map.val = 0) || (decide (f.map.val = 255) && d.canopy.drezu) ||
    ((d.byAddr f.src).bind d.neighAt).any fun x => decide (x.rxMap = f.map.val ∨ x.rxOld = some f.map.val)

/-- Is the key a frame is checked with loaded (01 R21; 14 R404)? -/
def keyLoaded (d : Dev) (f : CnpFrame) (n : Fin 128) : Bool :=
  if f.dst.val = 0x7FF then d.burl.broadcast.isSome else (d.burl.contexts[16 + n.val]'(by omega)).isSome

/-- Receive a frame of a neighbour: address, body, duplicate, protection; then it is served (14 R379, R387, R401, R404). A frame of the
coordinator that fails its check detaches a member (14 R398; log entry 52). -/
def canopyReceive (f : CnpFrame) (secured : Bool) (serve : Fin 128 → Dev → Dev) (d : Dev) : Dev :=
  let own := d.nat Key.shortAddress
  let c := d.canopy
  if !d.canopyHears ∨ (c.node ≠ .member ∧ c.node ≠ .coordinator) ∨ (f.dst.val ≠ own ∧ f.dst.val ≠ 0x7FF) then d
  else if !d.holdsMap f then d.bump Key.headerFailCount
  else
    let d := d.bump Key.framesReceived
    if !f.bodyOk then d.bump Key.bodyFailCount
    else match d.byAddr f.src with
      | none =>
        let d := d.setCanopy fun c => { c with leased := c.leased.map fun x => if x.1 = f.src.val then (x.1, x.2.1, c.sf) else x }
        if secured then d.bump Key.canopyAuthFailCount else d
      | some n =>
        match d.neighAt n with
        | none => d
        | some x =>
          let d := (d.setCanopy fun c => { c with uses := c.uses + 1 }).modNeigh n fun x => { x with
            seen := d.nowUs, lastSf := c.sf, used := c.uses + 1
            rxOld := if f.map.val = x.rxMap ∧ x.rxMap ≠ 0 then none else x.rxOld }
          if f.dst.val = own ∧ x.rxSeq = some f.seq.val then d
          else if !secured then serve n (d.modNeigh n fun x => { x with rxSeq := if f.dst.val = own then some f.seq.val else x.rxSeq })
          else if !f.secured ∨ !f.micOk ∨ !d.keyLoaded f n then
            let d := d.bump Key.canopyAuthFailCount
            if c.node = .member ∧ x.addr = 0 then d.canopyLeave .listening else d
          else match counterWindow x.high x.window f.counter.toNat with
            | none => d.bump Key.canopyReplayCount
            | some (h, w) => serve n (d.modNeigh n fun x => { x with
                high := h, window := w, firstBy := none, rxSeq := if f.dst.val = own then some f.seq.val else x.rxSeq })

/-- A stronger coordinator (14 R399): higher rank, then lower long address. -/
def stronger (rank : Nat) (long : Bytes) (ownRank : Nat) (own : Bytes) : Bool :=
  decide (ownRank < rank) || (decide (rank = ownRank) && decide (leVal long < leVal own))

/-- Queue the JOIN_REQUEST (14 R398, R400). -/
def askJoin (d : Dev) : Dev :=
  let (v, d) := d.draw
  let nonce := leBytes 16 v
  let d := d.setCanopy fun c => { c with nonce := nonce, joinBy := c.sf + 3 }
  d.enqueueCnp 0 (.joinRequest d.ownLong nonce (d.canopy.lastAddress.getD 0xFFFF) 7 0x10) false

/-- A member takes a NIF (14 R391, R392). -/
def takeNif (p : NifPayload) (d : Dev) : Dev :=
  let d := d.setCanopy fun c => { c with
    drezu := p.drezu, masks := p.masks.toList.map fun (x : BitVec 8) => x.toNat, reservations := p.reservations, span := p.span
    nifEvery := p.nifInterval, refreshS := p.refreshS }
  let d := (d.putBytes Key.coordinatorLong p.coordLong).putNat Key.coordinatorRank p.rank
  let d := d.putBytes Key.headroomUse (p.headroom.toList.map fun x => BitVec.ofNat 8 x)
  let d := d.takeGcn (p.gcn + d.canopy.cyc)
  if p.utcValid ∧ d.flag Key.timeFromCanopy then d.setTime ((d.nowUs : Int) + ((p.utc : Int) - d.canopy.cyc0)) else d

/-- NIF (14 R391, R392, R398, R399). -/
def nifReceive (f : CnpFrame) (p : NifPayload) (d : Dev) : Dev :=
  if !d.canopyHears ∨ !d.canopyRange then d
  else match d.canopy.node with
    | .off => d
    | .listening =>
      if d.canopy.heard ≠ some p.network.val ∨ !f.bodyOk ∨ !f.micOk then d
      else
        let d := d.setCanopy fun c => { c with heardNif := true, heardLong := p.coordLong }
        if d.canopy.listened < 64 ∨ d.canopyHeld then d
        else ((d.setCanopy fun c => { c with node := .joining, tries := 0, span := p.span }).putNat Key.networkId p.network).askJoin
    | .joining => d
    | .member => if p.network.val ≠ d.nat Key.networkId then d else canopyReceive f true (fun _ d => takeNif p d) d
    | .coordinator =>
      if d.canopy.heard = some p.network.val ∧ p.network.val ≠ d.nat Key.networkId ∧ f.bodyOk ∧ f.micOk ∧
          stronger p.rank p.coordLong 0x10 d.ownLong then
        (if d.canopy.yields then d else d.bump Key.electionCount).setCanopy fun c => { c with yields := true }
      else d

/-! ### Joining (14 R398 to R400) -/

/-- COORDINATOR_START (14 R392, R398). -/
def coordinatorStart (random : Nat) (d : Dev) : Dev :=
  let c := d.canopy
  if !d.canopyUp ∨ !d.burlUp ∨ !d.canopyRange ∨ c.node ≠ .listening ∨ d.canopyHeld ∨ !d.flag Key.coordinatorAllowed ∨ 64 ≤ random ∨ c.sinceBeacon < 192 + random then d
  else
    let f := d.nat Key.nominalFrequency
    let g := match c.stored with
      | some (g, s) => g + (d.time.utcS - s) * f
      | none => (d.time.utcS - 946684800) * f
    let own := leVal d.ownLong % 4096
    let pref := d.nat Key.preferredNetworkId
    let net := if pref ≠ 0 then pref else if own = 0 then 1 else own
    let d := d.setCanopy fun c => { c with
      node := .coordinator, gcn := (g + 63) / 64 * 64 % 2 ^ 48, known := true, gap := false, valid := true, cyc := 0, cyc0 := d.nowUs
      sinceBeacon := 64, heard := none, heardNif := false, lastNetwork := some net }
    let d := ((d.putNat Key.shortAddress 0).putNat Key.networkId net).putBytes Key.coordinatorLong d.ownLong
    let d := ((d.putNat Key.coordinatorRank 0x10).putNat Key.joinedSince d.nowUs).putNat Key.phaseCode 0
    ((d.putNat Key.networkPhaseOfL1 0).loadBroadcast net).writeGcn

/-- Is an address free: no neighbour has it, nor a member without a context that was heard in the last 16 superframes (14 R400)? -/
def addrFree (d : Dev) (a : Nat) : Bool :=
  (d.byAddr a).isNone && d.canopy.leased.all fun x => decide (x.1 ≠ a ∨ x.2.2 + 16 ≤ d.canopy.sf)

/-- The lowest free member address (14 R378, R400). -/
def freeAddress (d : Dev) : Option Nat := ((List.range 0x3FF).map (· + 1)).find? d.addrFree

/-- The address that an active member with a long address holds (14 R400). -/
def heldAddress (d : Dev) (long : Bytes) : Option Nat :=
  match (d.byLong long).bind d.neighAt with
  | some x => some x.addr
  | none => (d.canopy.leased.find? fun x => decide (x.2.1 = long ∧ d.canopy.sf < x.2.2 + 16)).map (·.1)

/-- JOIN_REQUEST (14 R400). With no admission key there is no link key to derive, and admission is closed (16 R425; log entry 49). -/
def joinRequest (f : CnpFrame) (long nonce : Bytes) (previous caps : Nat) (ownNonce : Bytes) (d : Dev) : Dev :=
  if !d.canopyHears ∨ !d.burlUp ∨ d.canopy.node ≠ .coordinator ∨ !(f.dst.val = 0 ∨ f.dst.val = 0x7FF) then d
  else if !d.holdsMap f then d.bump Key.headerFailCount
  else
    let d := d.bump Key.framesReceived
    if !f.bodyOk then d.bump Key.bodyFailCount
    else
      let refuse (reason : Nat) : Dev := d.enqueueCnp f.src (.joinRefuse long reason) false
      let held := d.heldAddress long
      if held.any fun a => a ≠ previous then refuse 3
      else
        let addr := match held with
          | some a => some a
          | none => if 1 ≤ previous ∧ previous ≤ 0x3FF ∧ d.addrFree previous then some previous else d.freeAddress
        match addr with
        | none => refuse 1
        | some a =>
          let d := d.useKey 0x08
          if (d.keyOf 0x08).isNone then d.enqueueCnp f.src (.joinRefuse long 2) false
          else
          let d := d.linkNeigh long a caps (d.linkKey nonce ownNonce long d.ownLong) (some (d.canopy.sf + 4))
          d.enqueueCnp f.src (.joinAccept ownNonce long a (d.nat Key.networkId) d.canopy.gcn 0x10) false

/-- JOIN_ACCEPT (14 R391, R398, R402): link and broadcast keys, the address and the number; the first secured frame, a tone-map request,
makes the node a member (log entry 49). -/
def joinAccept (f : CnpFrame) (coordNonce memberLong : Bytes) (address network gcn rank : Nat) (d : Dev) : Dev :=
  if !d.canopyHears ∨ d.canopy.node ≠ .joining ∨ memberLong ≠ d.ownLong ∨ d.nat Key.shortAddress ≠ 0x7FE then d
  else if !d.holdsMap f then d.bump Key.headerFailCount
  else
    let d := d.bump Key.framesReceived
    if !f.bodyOk then d.bump Key.bodyFailCount
    else if !d.burlUp then d.bump Key.canopyAuthFailCount
    else
    let d := d.useKey 0x08
    if !f.secured ∨ !f.micOk ∨ 0x3FF < address ∨ (d.keyOf 0x08).isNone then d.bump Key.canopyAuthFailCount
    else
      let long := d.canopy.heardLong
      let d := d.linkNeigh long 0 5 (d.linkKey d.canopy.nonce coordNonce d.ownLong long) none
      let d := ((d.loadBroadcast network).putNat Key.shortAddress address).putNat Key.networkId network
      let d := (d.putBytes Key.coordinatorLong long).putNat Key.coordinatorRank rank
      let d := (d.setCanopy fun c => { c with lastAddress := some address, lastNetwork := some network, queue := [], lastToCoord := c.sf }).takeGcn gcn
      match d.byAddr 0 with
      | some n => (d.modNeigh n fun x => { x with high := f.counter.toNat, window := 0 }).askMap n
      | none => d

/-- JOIN_REFUSE. -/
def joinRefuse (f : CnpFrame) (memberLong : Bytes) (d : Dev) : Dev :=
  if d.canopyHears ∧ d.canopy.node = .joining ∧ memberLong = d.ownLong ∧ f.bodyOk ∧ d.holdsMap f then
    (d.bump Key.framesReceived).canopyLeave .listening
  else d

/-- JOIN_TIMEOUT: after 2 superframes the request is sent again with a doubled window, four times in all. -/
def joinTimeout (d : Dev) : Dev :=
  let c := d.canopy
  if !d.canopyUp ∨ c.node ≠ .joining ∨ c.sf < c.joinBy ∨ d.nat Key.shortAddress ≠ 0x7FE then d
  else if 4 ≤ c.tries then d.canopyLeave .listening
  else
    let n := c.tries
    let d := (d.setCanopy fun c => { c with queue := [] }).askJoin
    d.setCanopy fun c => { c with queue := c.queue.map fun t => { t with cw := min 64 (t.cw * 2 ^ n) } }

/-- LEAVE (14 R398, R400). -/
def leaveReceive (f : CnpFrame) (d : Dev) : Dev :=
  canopyReceive f true (fun n d =>
    if d.canopy.node = .coordinator then d.dropNeigh n
    else if (d.neighAt n).any fun x => x.addr = 0 then d.canopyLeave .listening
    else d.dropNeigh n) d

/-- KEEPALIVE. -/
def keepaliveReceive (f : CnpFrame) (d : Dev) : Dev := canopyReceive f false (fun _ d => d) d

/-- KEEPALIVE_SEND (14 R398). -/
def keepaliveSend (d : Dev) : Dev :=
  if d.canopyUp ∧ d.canopy.node = .member ∧ d.canopy.lastToCoord + 8 ≤ d.canopy.sf then
    (d.setCanopy fun c => { c with lastToCoord := c.sf }).enqueueCnp 0 .keepalive true
  else d

/-- ADDRESS_RELEASE (14 R400). -/
def addressRelease (n : Fin 128) (d : Dev) : Dev :=
  match d.neighAt n with
  | none => d
  | some x =>
    if d.canopyUp ∧ d.canopy.node = .coordinator ∧ (x.lastSf + 16 ≤ d.canopy.sf ∨ x.firstBy.any fun t => t ≤ d.canopy.sf) then d.dropNeigh n
    else d

/-! ### Tone maps (14 R395, R396) -/

/-- TONEMAP_REQUEST: signal and noise of each pair in 0.1 dBµV, measured on the request's header block. -/
def tonemapRequest (f : CnpFrame) (id : Nat) (signal noise : Vector Nat 8) (d : Dev) : Dev :=
  canopyReceive f true (fun n d =>
    let on (j : Fin 8) : Bool := decide (noise[j] + 100 ≤ signal[j])
    let mask := (List.finRange 8).foldl (fun m (j : Fin 8) => setBit m j (on j)) 0
    let thr : Bytes := (List.finRange 8).map fun (j : Fin 8) => BitVec.ofNat 8 (min 255 ((signal[j] - 300) / 5))
    if popcount mask < 3 then d.enqueueCnp f.src (.tonemapResponse id 0 0 thr) true
    else
      let m := d.canopy.nextMap
      let d := (d.setCanopy fun c => { c with nextMap := if m = 254 then 1 else m + 1 }).modNeigh n fun x => { x with
        rxOld := some x.rxMap, rxMap := m, rxMask := mask, rxThr := thr }
      d.enqueueCnp f.src (.tonemapResponse id m mask thr) true) d

/-- TONEMAP_RESPONSE. -/
def tonemapResponse (f : CnpFrame) (id map mask : Nat) (thr : Bytes) (d : Dev) : Dev :=
  canopyReceive f true (fun n d =>
    if (d.neighAt n).any fun x => (x.request.any fun r => r.1 = id) then
      (d.modNeigh n fun x => { x with
        txMap := if mask = 0 then 0 else map, txMask := mask, txThr := thr, mapAt := d.nowMs, request := none, failRun := 0 }).renewPayloads
    else d) d

/-- TONEMAP_REFRESH: ToneMapRefreshS has passed, or three attempts have failed. -/
def tonemapRefresh (n : Fin 128) (d : Dev) : Dev :=
  match d.neighAt n with
  | none => d
  | some x =>
    if d.canopyUp ∧ (d.canopy.node = .member ∨ d.canopy.node = .coordinator) ∧
        (x.mapAt + 1000 * d.canopy.refreshS ≤ d.nowMs ∨ 3 ≤ x.failRun) then d.refreshMap n
    else d

/-- TONEMAP_REQUEST_RETRY. -/
def tonemapRetry (n : Fin 128) (d : Dev) : Dev :=
  match d.neighAt n with
  | none => d
  | some x => if d.canopyUp ∧ x.request.any fun r => r.2 < d.canopy.sf then d.askMap n else d

/-! ### Links, reports, commands -/

/-- LINK_REQUEST (14 R402, R403). -/
def linkRequest (f : CnpFrame) (long nonce ownNonce : Bytes) (caps : Nat) (d : Dev) : Dev :=
  let own := d.nat Key.shortAddress
  if !d.canopyHears ∨ (d.canopy.node ≠ .member ∧ d.canopy.node ≠ .coordinator) ∨ f.dst.val ≠ own ∨ !d.burlUp then d
  else if !d.holdsMap f then d.bump Key.headerFailCount
  else
    let d := d.bump Key.framesReceived
    if !f.bodyOk then d.bump Key.bodyFailCount
    else
    let d := d.useKey 0x08
    if (d.keyOf 0x08).isNone then d
    else (d.linkNeigh long f.src caps (d.linkKey nonce ownNonce long d.ownLong) none).enqueueCnp f.src (.linkAccept ownNonce 5) true

/-- LINK_ACCEPT (14 R402). -/
def linkAccept (f : CnpFrame) (nonce : Bytes) (caps : Nat) (d : Dev) : Dev :=
  if !d.canopyHears ∨ f.dst.val ≠ d.nat Key.shortAddress ∨ !d.burlUp then d
  else if !d.holdsMap f then d.bump Key.headerFailCount
  else
    let d := d.bump Key.framesReceived
    match d.byAddr f.src with
    | none => d.bump Key.canopyAuthFailCount
    | some n => match d.neighAt n with
      | none => d
      | some x => match x.linkNonce with
        | none => d
        | some own =>
          if !f.bodyOk then d.bump Key.bodyFailCount
          else
          let d := d.useKey 0x08
          if !f.secured ∨ !f.micOk ∨ (d.keyOf 0x08).isNone then d.bump Key.canopyAuthFailCount
          else (d.modNeigh n fun x => { x with
            linkNonce := none, caps := caps, counter := 0, high := f.counter.toNat, window := 0, seen := d.nowUs }).setContext (contextOf n)
              (some (d.linkKey own nonce d.ownLong x.long))

/-- LOAD_REPORT (14 R394). -/
def loadReport (f : CnpFrame) (phase : Nat) (draw limit : Vector Nat 3) (d : Dev) : Dev :=
  canopyReceive f true (fun n d =>
    if d.canopy.node = .coordinator then
      d.modNeigh n fun x => { x with phase := phase % 8, report := some (d.canopy.sf, draw.toList, limit.toList) }
    else d) d

/-- LOAD_REPORT_SEND (14 R394). -/
def loadReportSend (d : Dev) : Dev :=
  if d.canopyUp ∧ d.canopy.node = .member ∧ d.canopy.lastReport + d.canopy.reportEvery ≤ d.canopy.sf then
    let (dr, li) := d.ownLoad
    let phase := d.nat Key.phaseCode + (if d.flag Key.reversedOrLineToLine then 4 else 0)
    (d.setCanopy fun c => { c with lastReport := c.sf }).enqueueCnp 0 (.loadReport phase dr li) true
  else d

/-- APP_RESPONSE (14 R405): received from a neighbour; a Feldom unit sends no APP_READ, so nothing waits for it. -/
def appResponse (f : CnpFrame) (d : Dev) : Dev := canopyReceive f true (fun _ d => d) d

/-- CANOPY_HEADER_FAIL (14 R379). -/
def canopyHeaderFail (d : Dev) : Dev := if d.canopyHears ∧ d.canopy.node ≠ .off then d.bump Key.headerFailCount else d

end Dev

def execCanopyRangeChange (s : State) : Out3 State := s.onDev Dev.canopyRangeChange
def execBeaconSend (omitted : Bool) (s : State) : Out3 State := s.onDev (Dev.beaconSend omitted)
def execBeaconReceive (network : Fin 4096) (nif drezu : Bool) (_superframe : Fin 256) (deltaUs : Nat) (s : State) : Out3 State :=
  s.onDev (Dev.beaconReceive network nif drezu deltaUs)
def execBeaconMissed (s : State) : Out3 State := s.onDev Dev.beaconMissed
def execNifSend (s : State) : Out3 State := s.onDev Dev.nifSend
def execNif (f : CnpFrame) (p : NifPayload) (s : State) : Out3 State := s.onDev (Dev.nifReceive f p)
def execNetworkCrossing (s : State) : Out3 State := s.onDev Dev.networkCrossing
def execCanopyTransmit (heard : List HeardSym) (s : State) : Out3 State := s.onDev (Dev.canopyTransmit heard)
def execAck (f : CnpFrame) (received : Bool) (s : State) : Out3 State := s.onDev (Dev.canopyAck f received)
def execAckTimeout (s : State) : Out3 State := s.onDev Dev.ackTimeout
def execJoinRequest (f : CnpFrame) (long nonce : Bytes) (previous : Nat) (caps : BitVec 8) (_rank : Fin 256) (ownNonce : Bytes) (s : State) :
    Out3 State := s.onDev (Dev.joinRequest f long nonce previous caps.toNat ownNonce)
def execJoinAccept (f : CnpFrame) (coordNonce memberLong : Bytes) (address : Fin 2048) (network : Fin 4096) (gcn : Nat) (rank : Fin 256)
    (s : State) : Out3 State := s.onDev (Dev.joinAccept f coordNonce memberLong address network gcn rank)
def execJoinRefuse (f : CnpFrame) (memberLong : Bytes) (_reason : Nat) (s : State) : Out3 State := s.onDev (Dev.joinRefuse f memberLong)
def execJoinTimeout (s : State) : Out3 State := s.onDev Dev.joinTimeout
def execLeave (f : CnpFrame) (_reason : Nat) (s : State) : Out3 State := s.onDev (Dev.leaveReceive f)
def execKeepalive (f : CnpFrame) (s : State) : Out3 State := s.onDev (Dev.keepaliveReceive f)
def execKeepaliveSend (s : State) : Out3 State := s.onDev Dev.keepaliveSend
def execTonemapRequest (f : CnpFrame) (id : Byte) (signal noise : Vector Nat 8) (s : State) : Out3 State :=
  s.onDev (Dev.tonemapRequest f id.toNat signal noise)
def execTonemapResponse (f : CnpFrame) (id : Byte) (map : Fin 256) (pairs : BitVec 8) (thr : Bytes) (s : State) : Out3 State :=
  s.onDev (Dev.tonemapResponse f id.toNat map pairs.toNat thr)
def execTonemapRefresh (n : Fin 128) (s : State) : Out3 State := s.onDev (Dev.tonemapRefresh n)
def execTonemapRequestRetry (n : Fin 128) (s : State) : Out3 State := s.onDev (Dev.tonemapRetry n)
def execLinkRequest (f : CnpFrame) (long nonce ownNonce : Bytes) (caps : BitVec 8) (s : State) : Out3 State :=
  s.onDev (Dev.linkRequest f long nonce ownNonce caps.toNat)
def execLinkAccept (f : CnpFrame) (nonce : Bytes) (caps : BitVec 8) (s : State) : Out3 State := s.onDev (Dev.linkAccept f nonce caps.toNat)
def execLoadReport (f : CnpFrame) (phase : Nat) (draw limit : Vector Nat 3) (s : State) : Out3 State :=
  s.onDev (Dev.loadReport f phase draw limit)
def execLoadReportSend (s : State) : Out3 State := s.onDev Dev.loadReportSend
def execAppResponse (f : CnpFrame) (_id : Byte) (_values : Bytes) (s : State) : Out3 State := s.onDev (Dev.appResponse f)
def execCoordinatorStart (random : Nat) (s : State) : Out3 State := s.onDev (Dev.coordinatorStart random)
def execAddressRelease (n : Fin 128) (s : State) : Out3 State := s.onDev (Dev.addressRelease n)
def execCanopyHeaderFail (s : State) : Out3 State := s.onDev Dev.canopyHeaderFail

/-- REJOIN (14 R407): sends LEAVE and returns to LISTENING. -/
def rejoinServe (a : Ack) (_ : Val) (d : Dev) : Dev :=
    if !d.canopyUp ∨ d.canopy.node = .off then d.abort a Code.outOfService
    else
      let d := if d.canopy.node = .member then d.emit ⟨0, .leave 1, false, 0, 0, 1⟩
        else if d.canopy.node = .coordinator then d.emit ⟨0x7FF, .leave 1, false, 0, 0, 1⟩ else d
      (d.canopyLeave .listening).ok a

def execRejoin (m : HostMsg) (data : Bytes) (s : State) : Out3 State := s.onDev (cmdWrite m Key.rejoin false data rejoinServe)

/-- REFRESH_TONE_MAPS (14 R396, R407). -/
def refreshToneMapsServe (a : Ack) (_ : Val) (d : Dev) : Dev :=
    if !d.canopyUp then d.abort a Code.outOfService
    else ((List.finRange 128).foldl (fun (d : Dev) n => d.refreshMap n) d).ok a

def execRefreshToneMaps (m : HostMsg) (data : Bytes) (s : State) : Out3 State := s.onDev (cmdWrite m Key.refreshToneMaps false data refreshToneMapsServe)

end Sys2Proof.Machine
end

