-- ==== Sys2Proof/Machine/Tokens.lean ====
section
/-! DEFINITION. Keypad, card reader, tokens and host credit: KEYPAD_SCAN, KEY_PRESS, KEYPAD_ENTRY_TIMEOUT, KEYPAD_UNLOCK, CARD_FRAME, TOKEN,
TOKEN_SUBMIT, KEY_CHANGE_HALF_EXPIRY, HOST_CREDIT (11 R296 to R302, R501, R502; 12 R325). -/

namespace Sys2Proof.Machine

/-- The place of a key in the matrix, 4 · row + column (11, table *Keypad layout*). -/
def keyBit : Key → Nat
  | .digit d => if d.val = 0 then 13 else (d.val - 1) / 3 * 4 + (d.val - 1) % 3
  | .star => 12
  | .hash => 14
  | .f n => 4 * n + 3
  | .clr => 15

def isDigit : Key → Bool
  | .digit _ => true
  | _ => false

/-- The digits of keys, and the number they spell. -/
def digitsOf (l : List Key) : List (Fin 10) := l.filterMap fun k => match k with | .digit d => some d | _ => none
def numberOf (l : List (Fin 10)) : Nat := l.foldl (fun n d => 10 * n + d.val) 0

/-- What the keys entered so far are (11 R501). -/
inductive Entry where
  | open
  /-- Account number, and the keys after it up to the final #. -/
  | token (account : Nat) (body : List Key)
  | ident (account : Nat) (body : List Key)
  | inspection (body : List Key)
deriving DecidableEq, Repr

/-- Read an entry: complete at its final #. -/
def entryOf (l : List Key) : Entry :=
  if l.getLast? ≠ some .hash then .open
  else
    let body := l.dropLast
    match body with
    | .star :: r => .inspection r
    | _ =>
      let num := body.takeWhile isDigit
      match body.drop num.length with
      | .hash :: r => .token (numberOf (digitsOf num)) r
      | .star :: r => .ident (numberOf (digitsOf num)) r
      | _ => .open

namespace Dev

def setKeypad (d : Dev) (f : Keypad → Keypad) : Dev := { d with ledger := { d.ledger with keypad := f d.ledger.keypad } }

/-- KEYPAD_SCAN (11 R296): three scans that agree accept a matrix; one key pressed from none is a press. -/
def keypadScan (matrix : BitVec 16) (d : Dev) : Dev :=
  if !d.sequencerUp ∨ !d.islandRuns 1 ∨ !d.flag Key.keypadEnable then d
  else d.setKeypad fun k =>
    let agree := if matrix = k.matrix then min 3 (k.agree + 1) else 1
    if 3 ≤ agree ∧ matrix ≠ k.accepted then
      { k with
        matrix := matrix, agree := agree, accepted := matrix
        fresh := decide (k.accepted = 0) && decide (((List.range 16).filter fun i => matrix.getLsbD i).length = 1) }
    else { k with matrix := matrix, agree := agree }

/-- The display shows a refusal for the time of a token page (11 R501, R502; log entry 78); during an inspection it shows none. -/
def showRefusal (d : Dev) : Dev :=
  if d.heart.inspection.isSome then d
  else { d with display := { d.display with tokenTill := some (d.nowMs + 1000 * d.display.set.tokenPage), notice := true } }

/-- Does a port wait for an identity (11 R501)? -/
def mayIdentify (d : Dev) (p : Nat) : Bool := if h : p < 8 then d.waiting ⟨p, h⟩ else false

/-- An identity for a port from the keypad or a card: refused unless the port waits for it (11 R501, R502). -/
def identifyAt (d : Dev) (p : Nat) (found : Option (Nat × Account)) : Dev :=
  if h : p < 8 then if d.waiting ⟨p, h⟩ then d.identify ⟨p, h⟩ found else d else d

/-- KEY_PRESS (11 R296, R298, R501; 12 R325): the press that was accepted is decoded once. -/
def keyPress (k : Key) (d : Dev) : Dev :=
  let kp := d.ledger.keypad
  if !d.sequencerUp ∨ !kp.fresh ∨ kp.accepted ≠ BitVec.ofNat 16 (2 ^ keyBit k) then d
  else
    let d := d.setKeypad fun x => { x with fresh := false, lastKey := d.nowMs }
    let d : Dev := match d.heart.inspection with
      | some i => { d with heart := { d.heart with inspection := some { i with lastKey := d.nowMs } } }
      | none => d
    let entry := if entryOf kp.entry = .open then kp.entry else []
    match k with
    | .f _ => d
    | .clr => d.setKeypad fun x => { x with entry := [] }
    | _ =>
      if entry = [] ∧ k = .hash then
        let d : Dev := match d.heart.inspection with
          | some i => match i.showing with
            | some n => { d with heart := { d.heart with inspection := some { i with showing := some ((n + 1) % max 1 (d.nat Key.mandatoryCount)) } } }
            | none => d
          | none => d
        d.setKeypad fun x => { x with entry := [] }
      else
        let entry := entry ++ [k]
        let d := d.setKeypad fun x => { x with entry := entry }
        match entryOf entry with
        | .ident account body =>
          let d := d.setKeypad fun x => { x with entry := [] }
          match body with
          | [.digit p] => if d.mayIdentify p then d.identifyAt p (d.findNumber account) else d.showRefusal
          | _ => d.showRefusal
        | _ => d

/-- KEYPAD_ENTRY_TIMEOUT (11 R298): more than 60 s between keys discard the entry. -/
def keypadTimeout (d : Dev) : Dev :=
  let k := d.ledger.keypad
  if d.sequencerUp ∧ k.entry ≠ [] ∧ entryOf k.entry = .open ∧ k.lastKey + 60000 < d.nowMs then d.setKeypad fun x => { x with entry := [] } else d

/-- KEYPAD_UNLOCK (11 R301). -/
def keypadUnlock (d : Dev) : Dev :=
  match d.ledger.keypad.lockTill with
  | some t => if t ≤ d.nowMs then (d.setKeypad fun x => { x with lockTill := none, fails := [] }).putFlag Key.keypadLocked false else d
  | none => d

/-! ### Cards (11 R297, R502) -/

/-- CARD_FRAME: `hash` is the CardHash over the identifier bytes. -/
def cardFrame (frame : Bytes) (gapsOk : Bool) (hash : Bytes) (d : Dev) : Dev :=
  if !d.sequencerUp ∨ !d.islandRuns 4 ∨ d.nat Key.cardReaderUart = 0xFF then d
  else
    let n := (frame.getD 1 0).toNat
    let ident := (frame.drop 2).take n
    let ok := gapsOk && decide (frame.length = n + 4 ∧ frame.head? = some 0x02 ∧ frame.getLast? = some 0x03 ∧ 4 ≤ n ∧ n ≤ 32) &&
      decide ((frame.getD (n + 2) 0).toNat = crc 8 7 0 false 0 (BitVec.ofNat 8 n :: ident))
    if !ok then d.bump Key.cardFrameErrorCount
    else if d.ledger.card.any fun (x : Bytes × Nat) => x.1 = ident ∧ d.nowMs < x.2 + 2000 then d
    else
      let d : Dev := { d with ledger := { d.ledger with card := some (ident, d.nowMs) } }
      let found := d.findHash Account.cardHash hash
      let port := d.nat Key.cardReaderPort
      if port ≠ 0xFF then d.identifyAt port found
      else match allPorts.filter fun p => d.waiting p with
        | [p] => d.identifyAt p found
        | _ => d.showRefusal

/-! ### Tokens (11 R298 to R301) -/

/-- The balance request of a token, and a change of the record with it: result, balance change and device (11 R299, R300). `ok` is the
result when the request is carried out; why one fails for another cause has no result, and is free (log entry 37). -/
def tokenRequest (d : Dev) (slot : Nat) (a : Account) (tid : Nat) (amount : Int) (ok : Nat) (change : Account → Account) : Nat × Int × Dev :=
  if !a.sound then (10, 0, d.ledgerCorrupt slot)
  else match d.balanceRequest slot amount (some tid) with
    | none => (d.draw.1 % 14, 0, d.draw.2)
    | some d => match d.acct slot with
      | some b => (ok, b.balance - a.balance, d.putAcct slot (change b).seal)
      | none => (ok, 0, d)

/-- A half of a key change: the first waits 300 s for the other (11 R299). -/
def keyChange (d : Dev) (slot : Nat) (a : Account) (tid : Nat) (half : Fin 2) (matching : Bool) (rev sts : Nat) : Nat × Int × Dev :=
  let other : Bool := match d.ledger.half with | some (n, h, _) => decide (n = a.number ∧ h ≠ half.val) | none => false
  if !other then (7, 0, { d with ledger := { d.ledger with half := some (a.number, half.val, d.nowMs + 300000) } })
  else if !matching then (8, 0, { d with ledger := { d.ledger with half := none } })
  else tokenRequest { d with ledger := { d.ledger with half := none } } slot a tid 0 0 fun b => { b with keyRevision := rev, stsIndex := sts }

/-- The result of a token, the balance change it makes, and the device after its action (11 R299). -/
def tokenAction (d : Dev) (slot : Nat) (a : Account) (f : TokenFacts) : Nat × Int × Dev :=
  if f.body = .other then (6, 0, d)
  else if !d.tidOk slot a.number f.tid then (5, 0, d)
  else match f.body with
    | .credit u => if u = 0 then d.tokenRequest slot a f.tid 0 13 id else d.tokenRequest slot a f.tid (u * d.nat Key.tokenScale : Nat) 0 id
    | .maxPower w => if 255 < w / 500 then (9, 0, d) else d.tokenRequest slot a f.tid 0 0 fun b => { b with maxPower := w / 500 }
    | .clearCredit => d.tokenRequest slot a f.tid (-a.balance) 0 id
    | .tariffRate v => if 7 < v then (9, 0, d) else d.tokenRequest slot a f.tid 0 0 fun b => { b with tariffClass := v }
    | .keyChange half matching rev sts => d.keyChange slot a f.tid half matching rev sts
    | .other => (6, 0, d)

/-- Handle a token up to its action: result, balance change, device, and whether it was decrypted (11 R299, R301). -/
def tokenResult (d : Dev) (keypad : Bool) (account : Nat) (digits : List (Fin 10)) (f : TokenFacts) : Nat × Int × Dev × Bool :=
  if d.heart.sealBroken ≠ 0 then (12, 0, d, false)
  else if keypad ∧ (d.ledger.keypad.lockTill).isSome then (11, 0, d, false)
  else if digits.length ≠ 20 ∨ 2 ^ 66 ≤ numberOf digits then (1, 0, d, false)
  else match d.findNumber account with
    | none => (2, 0, d, false)
    | some (slot, a) =>
      if a.status = 3 then (3, 0, d, false)
      else
        let d := if d.burlUp then d.useKey 0x06 else d
        if !f.decryptOk ∨ (d.keyOf 0x06).isNone ∨ !d.burlUp then (4, 0, d, false)
        else
        let r := d.tokenAction slot a f
        (r.1, r.2.1, r.2.2, true)

/-- A token handled: objects, counters, keypad failures, logbook and display (11 R298, R301; 18 R498, R499). -/
def token (keypad : Bool) (account : Nat) (digits : List (Fin 10)) (f : TokenFacts) (d : Dev) : Dev :=
  let res := d.tokenResult keypad account digits f
  let r := res.1
  let x := res.2.1
  let read := res.2.2.2
  let d := res.2.2.1
  let d := ((d.putNat Key.lastTokenResult r).putNat Key.lastTokenAccount account).putInt Key.lastTokenAmount x
  let d := (d.putNat Key.lastTokenClass (if read then f.clsNibbles.toNat else 0)).putNat Key.lastTokenTime d.nowUs
  let d := d.bump (if r = 0 ∨ r = 7 ∨ r = 13 then Key.tokenAcceptCount else Key.tokenRefuseCount)
  let d := d.legal 0x0501 0xFF (leBytes 8 account ++ leBytes 4 (if read then f.tid else 0) ++ leBytes 1 r ++ leBytes 8 (ofSigned 64 x))
  let d := d.putNat Key.lastLegalCode 0x10
  let d : Dev := if d.heart.inspection.isSome then d
    else { d with display := { d.display with tokenTill := some (d.nowMs + 1000 * d.display.set.tokenPage), notice := false } }
  if !keypad ∨ r = 0 ∨ 5 < r then d
  else
    let fails := (d.nowMs :: d.ledger.keypad.fails).filter fun t => d.nowMs < t + 600000
    if 5 ≤ fails.length then (d.setKeypad fun k => { k with fails := [], lockTill := some (d.nowMs + 600000) }).putFlag Key.keypadLocked true
    else d.setKeypad fun k => { k with fails := fails }

/-- TOKEN: from the keypad, the entry that is complete; or posted by the active Sapwood core. -/
def tokenEvent (keypad : Bool) (account : Nat) (digits : List (Fin 10)) (f : TokenFacts) (d : Dev) : Dev :=
  if !d.heartwoodTakes then d
  else if !keypad then d.token false account digits f
  else match entryOf d.ledger.keypad.entry with
    | .token n body =>
      if n = account ∧ digitsOf body = digits then
        (d.setKeypad fun k => { k with entry := [] }).token true account (if body.all isDigit then digits else []) f
      else d
    | _ => d

/-- KEY_CHANGE_HALF_EXPIRY (11 R299). -/
def halfExpiry (d : Dev) : Dev :=
  match d.ledger.half with
  | some (_, _, t) => if t ≤ d.nowMs then { d with ledger := { d.ledger with half := none } } else d
  | none => d

end Dev

def execKeypadScan (matrix : BitVec 16) (s : State) : Out3 State := s.onDev (Dev.keypadScan matrix)
def execKeyPress (k : Key) (s : State) : Out3 State := s.onDev (Dev.keyPress k)
def execKeypadEntryTimeout (s : State) : Out3 State := s.onDev Dev.keypadTimeout
def execKeypadUnlock (s : State) : Out3 State := s.onDev Dev.keypadUnlock
def execCardFrame (frame : Bytes) (gapsOk : Bool) (hash : Bytes) (s : State) : Out3 State := s.onDev (Dev.cardFrame frame gapsOk hash)
def execToken (keypad : Bool) (account : Nat) (digits : List (Fin 10)) (f : TokenFacts) (s : State) : Out3 State :=
  s.onDev (Dev.tokenEvent keypad account digits f)
def execKeyChangeHalfExpiry (s : State) : Out3 State := s.onDev Dev.halfExpiry

/-- The digits of ASCII text; none where another character stands in it. -/
def asciiDigits (b : Bytes) : Option (List (Fin 10)) :=
  if b.all fun x => 0x30 ≤ x.toNat ∧ x.toNat ≤ 0x39 then some (b.map fun x => ⟨(x.toNat - 0x30) % 10, Nat.mod_lt _ (by decide)⟩) else none

/-- TOKEN_SUBMIT (11 R298): 20 digits for TokenAccount. -/
def tokenSubmitServe (facts : TokenFacts) (a : Ack) (v : Val) (d : Dev) : Dev := match v with
    | .bytes b => match asciiDigits b with
      | some l =>
        if l.length ≠ 20 then d.abort a Code.range
        else if !d.heartwoodTakes then d.abort a Code.outOfService
        else (d.token false (d.nat Key.tokenAccount) l facts).ok a
      | none => d.abort a Code.range
    | .int _ => d.abort a Code.range

def execTokenSubmit (m : HostMsg) (data : Bytes) (facts : TokenFacts) (s : State) : Out3 State := s.onDev (cmdWrite m Key.tokenSubmit false data (tokenSubmitServe facts))

/-- HOST_CREDIT (11 R302). -/
def hostCreditServe (sigOk hashOk : Bool) (data : Bytes) (a : Ack) (_ : Val) (d : Dev) : Dev :=
    let num (o n : Nat) : Nat := leVal ((data.drop o).take n)
    let account := num 2 8
    let amount := toSigned 64 (num 10 8)
    let seq := num 18 8
    let d := d.putNat Key.lastLegalCode 0x11
    if !d.heartwoodTakes then d.abort a Code.outOfService
    else if num 0 1 ≠ 1 ∨ 2 < num 1 1 then d.abort a Code.encoding
    else
    let d := if d.burlUp then d.useKey 0x07 else d
    if !sigOk ∨ (d.keyOf 0x07).isNone ∨ !d.burlUp then d.abort a Code.verifyFailed
    else if !hashOk ∨ seq ≤ d.nat Key.hostCreditSequence then d.abort a Code.range
    else match d.findNumber account with
      | none => d.abort a Code.range
      | some (slot, r) =>
        if r.status = 3 then d.abort a Code.range
        else
          let d := d.count 1 Key.hostCreditSequence seq
          match d.balanceRequest slot amount none with
          | some d => (d.legal 0x0502 0xFF (leBytes 8 account ++ leBytes 8 seq ++ leBytes 8 (ofSigned 64 amount))).ok a
          | none => ((if r.sound then d else d.ledgerCorrupt slot)).abort a Code.memoryError

def execHostCredit (m : HostMsg) (data : Bytes) (sigOk hashOk : Bool) (s : State) : Out3 State := s.onDev (cmdWrite m Key.hostCredit false data (hostCreditServe sigOk hashOk data))

end Sys2Proof.Machine
end

