-- ==== Sys2Proof/Machine/Legal.lean ====
section
/-! DEFINITION. The legal command path, the seal, record signatures, field inspection: CALIBRATION_WRITE, CONSTANTS_WRITE, SEAL_COMMAND,
RECORD_REPAIR, RECORD_SIGNED, SIGNING_RETRY, INSPECTION_SHOW_ITEMS, INSPECTION_TEST_COUNT, INSPECTION_END, INSPECTION_TIMEOUT
(08 R213 to R215; 12 R307 to R314, R319, R325). -/

namespace Sys2Proof.Machine
namespace Dev

def setHeart (d : Dev) (f : Heartwood → Heartwood) : Dev := { d with heart := f d.heart }

/-! ### External commands (12 R309, R310) -/

/-- Heartwood's mail without the posts of the first waiting external command of a code and Sequence, 64 bytes each (01 R18; 12 R309). -/
def takePosts (code seq : Nat) : List Mail → List Mail
  | [] => []
  | m :: r =>
    let num (o n : Nat) : Nat := leVal ((m.body.drop o).take n)
    if m.body.length = 64 ∧ num 1 1 = code ∧ num 4 8 = seq then (m :: r).drop (ceilDiv (84 + num 2 2) 64) else m :: takePosts code seq r

/-- An external legal command of a code, permitted in some lifecycle states: checks 2 to 5, then the command's own. The counter follows a
verified signature; a refusal is counted and logged. From PFW on a command that has not started is discarded (12 R311). -/
def legalCommand (d : Dev) (env : LegalEnv) (code : Nat) (states : List Nat) (serve : Dev → Except Nat Dev) : Dev :=
  if !d.heartwoodTakes then d
  else
    let d : Dev := { d with mail := vmod d.mail (coreNum .heartwood) (takePosts code env.seq) }
    let d := d.putNat Key.lastLegalCode code
    let refuse (d : Dev) (c : Nat) : Dev :=
      ((d.putNat Key.lastLegalResult c).bump Key.legalRefusedCount).legal 0x0606 0xFF (leBytes 1 code ++ leBytes 8 env.seq ++ leBytes 4 c)
    let d := if d.burlUp then d.useKey 0x05 else d
    if !env.sigOk ∨ (d.keyOf 0x05).isNone ∨ !d.burlUp then refuse d Code.verifyFailed
    else
      let old := d.nat Key.legalSequence
      let d := d.count 0 Key.legalSequence (max old env.seq)
      if !env.hashOk ∨ env.seq ≤ old then refuse d Code.range
      else if !states.contains d.lifecycle then refuse d Code.keyUse
      else if d.heart.sealBroken ≠ 0 ∧ code ≠ 4 then refuse d Code.sealBroken
      else match serve d with
        | .error c => refuse d c
        | .ok d => d.putNat Key.lastLegalResult 0

/-- A legal write is logged with its old and new value (12, event 0x0306). -/
def logWrite (d : Dev) (key : Nat) (old new : Bytes) : Dev :=
  d.legal 0x0306 0xFF (leBytes 4 (refOf key) ++ padTo 12 old ++ padTo 12 new)

/-! ### Calibration (08 R213 to R215) -/

/-- The port in whose Clearing a calibration object may be written: a port, or every port; none where it is no calibration object. -/
def calibrationPort (key : Nat) : Option (Option PortId) :=
  let i := key / 256
  if 0x3900 ≤ i ∧ i ≤ 0x3943 then
    if h : 4 ≤ i - 0x3900 ∧ i - 0x3900 < 68 then some (some ⟨(i - 0x3900 - 4) / 8, by omega⟩) else some none
  else if h : 0x3980 ≤ i ∧ i ≤ 0x3987 then some (some ⟨i - 0x3980, by omega⟩)
  else if i = 0x3988 ∨ i = 0x3989 then some none
  else none

/-- Does a channel stay in range in every band (08 R213)? -/
def channelInRange (d : Dev) (c : Nat) : Bool :=
  (List.range 8).all fun b =>
    let off := d.int (Key.offset c) + d.int (Key.offsetBand c b)
    let del := d.int (Key.delay c) + d.int (Key.delayBand c b)
    let g := gainIn (d.int (Key.gain c)) (d.int (Key.gainBand c b))
    decide (-419430 ≤ off ∧ off ≤ 419430 ∧ -8192 ≤ del ∧ del ≤ 8192 ∧ 536870912 ≤ g ∧ g ≤ 2147483648)

/-- Do the band edges rise by at least 3 °C? -/
def edgesRise (d : Dev) : Bool := (List.range 6).all fun i => decide (d.int (Key.bandEdge i) + 48 ≤ d.int (Key.bandEdge (i + 1)))

/-- The own conditions of CalibrationWrite, and its effect. -/
def calibrationWrite (d : Dev) (key : Nat) (data : Bytes) : Except Nat Dev :=
  match calibrationPort key, rowOf key with
  | some where_, some r =>
    let clear := match where_ with | some p => d.clearing p | none => d.allClearing
    match valueFault key r data with
    | some c => .error c
    | none =>
      let new := d.put key (r.ty.decode data)
      let i := key / 256
      if i ≤ 0x3943 ∧ !new.channelInRange (i - 0x3900) then .error Code.range
      else if 0x3984 ≤ i ∧ i ≤ 0x3987 ∧ 3 ≤ key % 256 ∧ r.ty.decode data ≠ .int 0 then .error Code.range
      else if i = 0x3989 ∧ !new.edgesRise then .error Code.range
      else if !clear then .error Code.notClearing
      else
        let old := r.ty.encode (d.val key)
        let d := (new.putNat Key.calibrationTime d.nowUs).bump Key.calibrationCount
        let d := (d.putNat Key.calibrationCheck (calibrationValue d)).setHeart fun h => { h with calFailed := false }
        .ok (d.logWrite key old data)
  | _, _ => .error Code.range

/-! ### Constants (12 R312) -/

/-- The mandatory items of a view: the list must hold items 0x03, 0x05, 0x06, 0x07, 0x08 and 0x09 (12 R324). -/
def itemsComplete (d : Dev) : Bool :=
  let l := (List.range (d.nat Key.mandatoryCount)).map fun i => d.nat (Key.mandatoryItem i)
  [0x03, 0x05, 0x06, 0x07, 0x08, 0x09].all fun c => l.any fun w => w / 256 = c

/-- The own conditions of ConstantsWrite, and its effect. -/
def constantsWrite (d : Dev) (key : Nat) (data : Bytes) : Except Nat Dev :=
  let i := key / 256
  let listed := decide (key = Key.utilityMeterNumber ∨ key = Key.approvalMark ∨ key = Key.mandatoryCount ∨ (i = 0xF381 ∧ 1 ≤ key % 256 ∧ key % 256 ≤ 0x20))
  if !listed then .error Code.range
  else match rowOf key with
    | none => .error Code.range
    | some r => match valueFault key r data with
      | some c => .error c
      | none =>
        let new := d.put key (r.ty.decode data)
        if 0xF380 ≤ i ∧ !new.itemsComplete then .error Code.range
        else .ok (new.logWrite key (r.ty.encode (d.val key)) data)

/-! ### The seal (12 R307, R308, R313) -/

/-- A part of the partition with unused bytes 0xFF. -/
def fillTo (n : Nat) (b : Bytes) : Bytes := b ++ List.replicate (n - b.length) 0xFF

/-- The energy settings of every port. -/
def energyIndices : List Nat := (List.range 8).map fun p => 0x3000 + 0x100 * (p + 1)

/-- Subindices 0x01 to 0x06 of the energy settings in the serialisation of R215. -/
def energySerial (f : Nat → Val) : Bytes :=
  energyIndices.flatMap fun i => ((List.range 6).map (· + 1)).flatMap fun s =>
    match rowOf (ob i s) with
    | some r => leBytes 2 i ++ leBytes 1 s ++ r.ty.encode (f (ob i s))
    | none => []

/-- One object in that serialisation. -/
def oneSerial (f : Nat → Val) (k : Nat) : Bytes :=
  match rowOf k with
  | some r => leBytes 2 (k / 256) ++ leBytes 1 (k % 256) ++ r.ty.encode (f k)
  | none => []

/-- Bytes 0 to 0x120FF of the sealed-parameter partition. -/
def sealedImage (d : Dev) (time : Nat) : Bytes :=
  fillTo 0x1000 (leBytes 4 0x5345414C ++ leBytes 2 0x0100 ++ leBytes 4 0x12104 ++ leBytes 8 time ++ List.replicate 46 0) ++
  fillTo 0xF000 (serialise d.val calibrationIndices) ++ fillTo 0x1000 (energySerial d.val) ++
  fillTo 0x1000 (oneSerial d.val Key.utilityMeterNumber ++ oneSerial d.val Key.approvalMark) ++
  fillTo 0x100 (oneSerial d.val Key.mandatoryCount ++ ((List.range 32).flatMap fun i => oneSerial d.val (Key.mandatoryItem i)))

/-- Seal's own conditions and steps (12 R313): a key operation that runs ends first (16 R432), and step 4 blows its first fuse, after which an
interrupted Seal still ends SEALED (16 R450). -/
def sealUnit (d : Dev) : Except Nat Dev :=
  if !d.allClearing then .error Code.notClearing
  else if calibrationValue d ≠ d.nat Key.calibrationCheck then .error Code.groupInvalid
  else if (0x10 :: (List.range 8).map (0x18 + ·)).any fun g => (d.group g).phase = .staging ∨ (d.group g).phase = .committing then .error Code.groupInvalid
  else if d.burl.sealFuses ≠ 0 then .error Code.keyUse
  else
    let d := d.keyOpEnd
    let image := d.sealedImage d.nowUs
    let check := crc32c image
    let hash := Config.sha256 (image ++ leBytes 4 check)
    let d := d.setHeart fun h => { h with sealedPart := some ⟨d.nowUs, d.obj, check, hash⟩, lockLatch := true }
    let d := d.setBurl fun b => { b with sealHash := some hash, sealFuses := 1, fuseAt := d.nowMs }
    let d := ((d.putNat Key.sealTime d.nowUs).putBytes Key.sealHash hash).putNat Key.sealedParamCheck check
    .ok (d.legal 0x0601 0xFF (hash.take 24))

/-! ### RecordRepair (12 R314) -/

/-- The own conditions of RecordRepair, and its effect: every field set, the balance included. -/
def recordRepair (d : Dev) (slot : Nat) (record : Bytes) : Except Nat Dev :=
  if record.length ≠ 64 then .error Code.encoding
  else if (record.drop 60).any fun b => b ≠ 0 then .error Code.range
  else match d.acct slot with
    | none => .error Code.range
    | some a =>
      if a.sound then .error Code.range
      else if !d.balancesMove then .error Code.memoryError
      else
        let bal := toSigned 64 (leVal ((record.drop 8).take 8))
        let f := fieldsOf record
        .ok ((d.putAcct slot (recordOf f bal)).legal 0x0505 0xFF
          (leBytes 4 slot ++ leBytes 8 f.number ++ leBytes 4 a.check ++ leBytes 8 (ofSigned 64 bal)))

/-! ### Record signatures (12 R319) -/

/-- RECORD_SIGNED: state 3 with the signature, or event 0x0701 and a retry in 60 s. -/
def recordSigned (ok : Bool) (result : Nat) (d : Dev) : Dev :=
  match d.burl.signing, d.heart.signQueue with
  | .record, n :: rest =>
    if !d.burlUp ∨ !d.heartwoodUp then d
    else
      let d := d.setBurl fun b => { b with signing := .idle }
      let d := if ok then d.useKey 0x04 else d
      if !ok ∨ (d.keyOf 0x04).isNone then
        let d := (d.legal 0x0701 0xFF (leBytes 4 n ++ leBytes 4 result)).bump Key.signingFailCount
        (d.setHeart fun h => { h with signRetryAt := some (d.nowMs + 60000) }).startSigning
      else
        let d := d.setHeart fun h => { h with signQueue := rest }
        let d := match d.heart.records.find? fun (x : Nat × RecordSlot) => x.1 = n % 8192 with
          | some (_, .stored _ b) =>
            if b.number = n then
              d.setHeart fun h => { h with
                records := setSlotIn h.records (n % 8192) (.signed b (Config.signature 0x04 (ascii "FDM8P-SR1" ++ d.recordBody b))) }
            else d
          | _ => d
        d.startSigning
  | _, _ => d

/-- SIGNING_RETRY. -/
def signingRetry (d : Dev) : Dev :=
  match d.heart.signRetryAt with
  | some t => if d.heartwoodUp ∧ t ≤ d.nowMs then (d.setHeart fun h => { h with signRetryAt := none }).startSigning else d
  | none => d

/-! ### Field inspection (12 R325) -/

/-- An inspection sequence stands complete on the keypad, in a power state after STARTING. -/
def inspects (d : Dev) (body : List Key) : Bool :=
  d.heartwoodTakes && decide (d.power.state ≠ .starting) && decide (entryOf d.ledger.keypad.entry = .inspection body)

/-- Take the sequence: code 0x12. -/
def takeSequence (d : Dev) : Dev := (d.setKeypad fun k => { k with entry := [] }).putNat Key.lastLegalCode 0x12

/-- INSPECTION_SHOW_ITEMS. -/
def showItems (d : Dev) : Dev :=
  if d.inspects [.digit 0] then
    (d.takeSequence.setHeart fun h => { h with
      inspection := some ⟨d.nowMs, some 0, (h.inspection.map (·.testCount)).getD none⟩ }).putFlag Key.inspectionActive true
  else d

/-- INSPECTION_TEST_COUNT: the count runs from the next commit. -/
def testCount (p : PortId) (d : Dev) : Dev :=
  if d.inspects [.digit 1, .digit ⟨p, by omega⟩] then
    (d.takeSequence.setHeart fun h => { h with
      inspection := some ⟨d.nowMs, (h.inspection.map (·.showing)).getD none, some (p, none)⟩ }).putFlag Key.inspectionActive true
  else d

/-- An inspection ends. -/
def endInspection (d : Dev) : Dev := (d.setHeart fun h => { h with inspection := none }).putFlag Key.inspectionActive false

/-- INSPECTION_END. -/
def inspectionEnd (d : Dev) : Dev := if d.inspects [.digit 9] then d.takeSequence.endInspection else d

/-- INSPECTION_TIMEOUT: 120 s without a key. -/
def inspectionTimeout (d : Dev) : Dev :=
  match d.heart.inspection with
  | some i => if d.powered ∧ i.lastKey + 120000 ≤ d.nowMs then d.endInspection else d
  | none => d

end Dev

/-- The key of an object reference. -/
def keyOfObj (o : ObjRef) : Nat := ob o.idx.toNat o.sub.toNat

def execCalibrationWrite (env : LegalEnv) (o : ObjRef) (data : Bytes) (s : State) : Out3 State :=
  s.onDev fun d => d.legalCommand env 1 [1, 2] fun d => d.calibrationWrite (keyOfObj o) data
def execConstantsWrite (env : LegalEnv) (o : ObjRef) (data : Bytes) (s : State) : Out3 State :=
  s.onDev fun d => d.legalCommand env 2 [1, 2] fun d => d.constantsWrite (keyOfObj o) data
def execSealCommand (env : LegalEnv) (s : State) : Out3 State := s.onDev fun d => d.legalCommand env 3 [2] Dev.sealUnit
def execRecordRepair (env : LegalEnv) (slot : Nat) (record : Bytes) (s : State) : Out3 State :=
  s.onDev fun d => d.legalCommand env 4 [0, 1, 2, 3] fun d => d.recordRepair slot record
def execRecordSigned (ok : Bool) (result : Nat) (s : State) : Out3 State := s.onDev (Dev.recordSigned ok result)
def execSigningRetry (s : State) : Out3 State := s.onDev Dev.signingRetry
def execInspectionShowItems (s : State) : Out3 State := s.onDev Dev.showItems
def execInspectionTestCount (p : PortId) (s : State) : Out3 State := s.onDev (Dev.testCount p)
def execInspectionEnd (s : State) : Out3 State := s.onDev Dev.inspectionEnd
def execInspectionTimeout (s : State) : Out3 State := s.onDev Dev.inspectionTimeout

end Sys2Proof.Machine
end

