-- ==== Sys2Proof/Machine/Vehicle.lean ====
section
/-! DEFINITION. What vehicles say: SLAC_MESSAGE, SLAC_TIMEOUT, V2G_MESSAGE, V2G_TIMEOUT, ANNEX_FRAME, ANNEX_TIMEOUT (07 R164, R167 to R171,
R177, R184). -/

namespace Sys2Proof.Machine

namespace Dev

/-- The vehicle is connected: pilot in accepted state B, C or D. -/
def plugged (d : Dev) (p : PortId) : Bool := decide ((d.port p).pilot = .b ∨ (d.port p).pilot = .c ∨ (d.port p).pilot = .d)

/-- The powerline modem of a port works: I2 runs, the modem is in service, and its crossings carry what it hears and says (02 R56, R57; 17
R475). -/
def modemUp (d : Dev) (p : PortId) : Bool :=
  d.powered && !d.clocks.ref25Lost && d.rail .vddPlc && d.unitIn (0x08 + p) && d.passes ⟨0x08 + p, by omega⟩ && d.passes ⟨0x10 + p, by omega⟩

/-- Is an EV MAC address matched on another port, whose session has not reached ENDED or IDLE (07 R167)? -/
def matchedElsewhere (d : Dev) (p : PortId) (mac : Bytes) : Bool :=
  allPorts.any fun o => decide (o ≠ p) && decide ((d.port o).evMatch = some mac)

/-- The link contexts of a port: 2p for the powerline link, 2p + 1 for TLS (07 R169). -/
def plcContext (p : PortId) : Fin 160 := ⟨2 * p, by omega⟩
def tlsContext (p : PortId) : Fin 160 := ⟨2 * p + 1, by omega⟩

/-- Has Burl loaded a context? One it has not loaded refuses encryption and decryption (01 R21). -/
def contextLoaded (d : Dev) (x : Fin 160) : Bool := if h : x.val < 144 then (d.burl.contexts[x.val]).isSome else false

/-- Burl loads a context of a port with a key of SLAC or TLS (07 R169; 16 R437). -/
def loadLink (d : Dev) (x : Fin 160) : Dev :=
  let (n, d) := d.draw
  d.setContext x (some (Config.linkKey n))

/-- The address a SLAC message comes from. -/
def slacMac : SlacMsg → Bytes
  | .paramReq mac => mac
  | .sounding mac => mac
  | .attenChar mac _ => mac
  | .matchReq mac => mac

/-- SLAC_MESSAGE (07 R167). Kinds of answer: 0 parameters, 1 attenuation, 2 match. At the match Burl loads the link's context, so none is made
while Burl is out (01 R38). A vehicle whose link stands begins anew only before a high-level session. -/
def slacMessage (p : PortId) (msg : SlacMsg) (d : Dev) : Dev :=
  let mac := slacMac msg
  if !d.modemUp p || !d.plugged p || !d.digital p || decide ((d.port p).cp ≠ .pwm 400) || d.matchedElsewhere p mac then d
  else
    match msg, (d.port p).slac with
    | .paramReq _, .matched _ => if (d.port p).proto.isSome then d else (d.setPort p fun q => { q with slac := .idle }).say (.slac p mac 0 true)
    | .paramReq _, .restarted => if (d.port p).pilot = .b then (d.setPort p fun q => { q with slac := .idle }).say (.slac p mac 0 true) else d
    | .paramReq _, _ => d.say (.slac p mac 0 true)
    | .sounding _, .idle => d.setPort p fun q => { q with slac := .sounding mac none }
    | .attenChar _ db, .sounding m _ =>
      if m = mac then (d.setPort p fun q => { q with slac := .sounding mac (some db) }).say (.slac p mac 1 true) else d
    | .matchReq _, .sounding m (some db) =>
      if m ≠ mac then d
      else if d.nat (Key.slacAttnLimit p) < db then (d.setPort p fun q => { q with slac := .idle }).say (.slac p mac 2 false)
      else if !d.burlUp then d
      else
        let d := (d.setPort p fun q => { q with slac := .matched mac, evMatch := some mac }).putBytes (Key.evMac p) mac
        (d.loadLink (plcContext p)).say (.slac p mac 2 true)
    | _, _ => d

/-- SLAC_TIMEOUT (07 R167): the attempt is counted as failed; the 10 s of R164 go on. -/
def slacTimeout (p : PortId) (d : Dev) : Dev :=
  match (d.port p).slac with
  | .matched _ => d
  | .restarted => d
  | _ =>
    if d.modemUp p ∧ (d.port p).setupAt.isSome then
      (d.setPort p fun q => { q with slac := .idle }).bump (Key.slacFailCount p)
    else d

/-- The current a port tells its vehicle in a high-level message: 0 A while it is paused (07 R184). -/
def toldLimit (d : Dev) (p : PortId) : Nat := if (d.port p).pausedAt.isSome then 0 else d.offer p

/-- Is the vehicle told to stop: its session stops, or a demand holds the port (07 R179)? -/
def toldStop (d : Dev) (p : PortId) : Bool := decide ((d.port p).session = .stopping) || decide (d.holdingLevel p ≠ 0)

/-- Answer a vehicle request: 0 accepted, 1 failed; the limits and the notice to stop stand in every answer (07 R170, R179, R184). -/
def v2gReply (d : Dev) (p : PortId) (code : Nat) : Dev :=
  d.say (.v2g p code (d.toldLimit p) (min (d.port p).exportAlloc (d.exportCap p)) (d.toldStop p))

/-- The protocol the exchange chooses: ISO 15118-20 before ISO 15118-2 (07 R168). -/
def chooseProtocol (protocols : Nat) (offers2 offers20 : Bool) : Option Protocol :=
  if offers20 && protocols.testBit 1 then some .iso20
  else if offers2 && protocols.testBit 0 then some .iso2
  else none

/-- May a contract identify the port: Plug & Charge allowed, and no identity taken yet (07 R169; 11 R282, R284)? -/
def contractWaits (d : Dev) (p : PortId) : Bool :=
  decide ((d.port p).session = .identifying) && (d.nat (Key.authModes p)).testBit 1 && (d.ledger.auth[p]).isNone &&
    (d.ledger.posted[p]).isNone && (d.ledger.bind[p]).isNone

/-- Does the transport security of a protocol stand: TLS 1.2 for ISO 15118-2, TLS 1.3 for ISO 15118-20, with its context loaded (07, table *ISO
15118 support*, R169)? -/
def transportFor (d : Dev) (p : PortId) (x : Protocol) : Bool :=
  (d.port p).tls && d.contextLoaded (tlsContext p) && decide ((d.port p).tls13 = decide (x = .iso20))

/-- Is a back office connected through a host: a host is registered (07, table *ISO 15118 support*; log entry 73)? -/
def backOffice (d : Dev) : Bool := (List.finRange 16).any fun s => (d.slot s).registered

/-- A request before a protocol is chosen (07 R164, R168, R177). In ENDED it is a new high-level session of the vehicle. Burl performs the
signatures of a TLS handshake and loads its context, so a handshake without Burl fails (07 R169; 01 R38). -/
def v2gOpen (d : Dev) (p : PortId) (msg : V2gMsg) : Dev :=
  match msg with
  | .tlsHello => d.setPort p fun q => { q with handshake := true }
  | .tlsDone ok tls13 =>
    if !(d.port p).handshake then d
    else if ok ∧ d.burlUp then (d.setPort p fun q => { q with handshake := false, tls := true, tls13 := tls13 }).loadLink (tlsContext p)
    else ((d.setPort p fun q => { q with handshake := false }).bump (Key.tlsFailCount p)).hlcFailed p
  | .appProtocol two twenty =>
    match (chooseProtocol (d.nat (Key.protocols p)) two twenty).filter fun x => d.transportFor p x with
    | none => (d.v2gReply p 1).hlcFailed p
    | some x =>
      let d := if (d.port p).session = .ended ∧ !(d.port p).opened then d.enterIdentifying p else d
      (d.setPort p fun q => { q with proto := some x, setupAt := none }).v2gReply p 0
  | .protocolError => d.hlcFailed p
  | .sessionStop => (d.v2gReply p 0).sessionStop p 0
  | _ => d.v2gReply p 1

/-- A request in a high-level session (07 R168 to R170, R177). Dynamic control is ISO 15118-20's; a request for a certificate is answered only
with a back-office connection through a host. -/
def v2gServe (d : Dev) (p : PortId) (msg : V2gMsg) : Dev :=
  let s := (d.port p).session
  match msg with
  | .contract hash chainOk =>
    if !d.contractWaits p then d.v2gReply p 1
    else if !chainOk ∨ !d.burlUp then (d.v2gReply p 1).hlcFailed p
    else (d.v2gReply p 0).identify p (d.findHash Account.contractHash hash)
  | .chargeParams maxCurrent maxExport maxVoltage maxDcCurrent maxPower dynamic =>
    if dynamic ∧ (d.port p).proto ≠ some .iso20 then d.v2gReply p 1
    else
    (d.setPort p fun q => { q with
      dynamic := dynamic
      ev := { q.ev with
        maxCurrent := maxCurrent, maxExport := maxExport, maxVoltage := maxVoltage, maxDcCurrent := maxDcCurrent, maxPower := maxPower } }).v2gReply
      p 0
  | .powerDelivery true ex =>
    if s ≠ .authorised ∧ s ≠ .closing ∧ s ≠ .energised then d.v2gReply p 1
    else
      let e := d.setPort p fun q => { q with wants := true, exports := ex }
      if ex ∧ e.exportCap p = 0 then d.v2gReply p 1 else e.v2gReply p 0
  | .powerDelivery false _ => ((d.setPort p fun q => { q with wants := false }).v2gReply p 0).sessionStop p 0
  | .currentDemand volts amps =>
    if s ≠ .authorised ∧ s ≠ .closing ∧ s ≠ .energised then d.v2gReply p 1
    else
      ((d.putNat (Key.evTargetVoltage p) (min volts 65535)).setPort p fun q => { q with ev := { q.ev with targetCurrent := amps } }).v2gReply p 0
  | .certificate _ => if d.backOffice then d.v2gReply p 0 else d
  | .sessionStop => (d.v2gReply p 0).sessionStop p 0
  | .protocolError => d.hlcFailed p
  | .other => d.v2gReply p 0
  | _ => d.v2gReply p 1

/-- Does a vehicle request reach a port's engine: modem and engine work, ISO 15118 is enabled on a port that is not OFF, and the vehicle's link
stands with its context loaded (01 R21; 07 R159, R168, R169)? -/
def v2gReaches (d : Dev) (p : PortId) : Bool :=
  let q := d.port p
  let linked := match q.slac with | .matched _ => true | _ => false
  d.modemUp p && d.served p && d.plugged p && decide (d.mode p ≠ 0) && decide (d.nat (Key.protocols p) ≠ 0) && !d.annexPort p && !q.basic &&
    linked && d.contextLoaded (plcContext p) && decide (q.session ≠ .idle ∧ q.session ≠ .faulted)

/-- V2G_MESSAGE (07 R168). A session whose TLS context is not loaded can neither decrypt a request nor answer it (01 R21). -/
def v2gMessage (p : PortId) (msg : V2gMsg) (d : Dev) : Dev :=
  if !d.v2gReaches p then d
  else if (d.port p).proto.isSome then (if d.contextLoaded (tlsContext p) then (d.v2gServe p msg).settle else d)
  else (d.v2gOpen p msg).settle

/-- V2G_TIMEOUT (07 R164, R168): the vehicle's next request did not come. -/
def v2gTimeout (p : PortId) (d : Dev) : Dev :=
  if d.powered ∧ ((d.port p).proto = some .iso2 ∨ (d.port p).proto = some .iso20) then (d.hlcFailed p).settle else d

/-! ### Annex handshakes (07 R171) -/

/-- The Annex a port's DcSystem names; only ports 0 to 3 have a CAN of their own. -/
def annexOf (d : Dev) (p : PortId) : Option Protocol :=
  if !d.isDc p then none
  else match d.nat (Key.dcSystem p) with
    | 1 => some .annexA
    | 2 => some .annexB
    | _ => none

/-- Does CAN_p carry the port's handshake? -/
def annexUp (d : Dev) (p : PortId) : Bool :=
  let c : Fin 6 := ⟨p.val % 4, by omega⟩
  decide (p.val < 4) && d.passes ⟨0x1C + p.val % 4, by omega⟩ && d.passes ⟨0x22 + p.val % 4, by omega⟩ && d.powered && d.served p && !d.clocks.ref25Lost && d.unitIn (0x10 + p) &&
    decide (d.hosts.can[c] = .errorActive ∨ d.hosts.can[c] = .errorPassive)

/-- Mean STATUS voltage of a port's modules that are present (07, 0x2p10.12). -/
def moduleVoltage (d : Dev) (p : PortId) : Nat :=
  let l : List (Fin 16) := (d.modulesOf p).filter fun (m : Fin 16) => d.flag (Key.modulePresent m)
  if l = [] then 0 else (l.map fun (m : Fin 16) => (d.modules[m]).voltage).sum / l.length

/-- Replace the content of the cyclic frames: flags 1 energised, 2 stopping. -/
def annexContent (d : Dev) (p : PortId) : Dev :=
  let flags := match (d.port p).session with | .energised => 1 | .stopping => 2 | _ => 0
  d.say (.annex p (d.moduleVoltage p) (d.toldLimit p) flags)

/-- ANNEX_FRAME (07 R171, R177). With Annex B the vehicle's request on the bus is its permission. -/
def annexFrame (p : PortId) (msg : AnnexMsg) (d : Dev) : Dev :=
  match d.annexOf p with
  | none => d
  | some x =>
    if !d.annexUp p || !d.plugged p then d
    else
      let s := (d.port p).session
      if s ≠ .identifying ∧ s ≠ .authorised ∧ s ≠ .closing ∧ s ≠ .energised ∧ s ≠ .stopping then d
      else
        let d := d.setPort p fun q => { q with proto := some x }
        let d : Dev := match msg with
          | .limits v i => d.setPort p fun q => { q with ev := { q.ev with maxVoltage := v, maxDcCurrent := i } }
          | .request v i =>
            (d.putNat (Key.evTargetVoltage p) (min v 65535)).setPort p fun q => { q with
              ev := { q.ev with targetCurrent := i }, wants := decide (0 < i), permission := q.permission || decide (x = .annexB) }
          | .stop => d.sessionStop p 0
        (d.annexContent p).settle

/-- ANNEX_TIMEOUT (07 R171). -/
def annexTimeout (p : PortId) (d : Dev) : Dev :=
  if d.powered ∧ (d.annexOf p).isSome then (d.hlcFailed p).settle else d

end Dev

def execSlacMessage (p : PortId) (msg : SlacMsg) (s : State) : Out3 State := s.onDev (Dev.slacMessage p msg)
def execSlacTimeout (p : PortId) (s : State) : Out3 State := s.onDev (Dev.slacTimeout p)
def execV2gMessage (p : PortId) (msg : V2gMsg) (s : State) : Out3 State := s.onDev (Dev.v2gMessage p msg)
def execV2gTimeout (p : PortId) (s : State) : Out3 State := s.onDev (Dev.v2gTimeout p)
def execAnnexFrame (p : PortId) (msg : AnnexMsg) (s : State) : Out3 State := s.onDev (Dev.annexFrame p msg)
def execAnnexTimeout (p : PortId) (s : State) : Out3 State := s.onDev (Dev.annexTimeout p)

end Sys2Proof.Machine
end

