-- ==== Sys2Proof/Machine/Display.lean ====
section
/-! DEFINITION. The bistable display: pages, frames, drive steps, the balance ledger; FRAME_START, HALF_START_REPORT, STEP_END_REPORT,
RAIL_HOLD_EXPIRY, PANEL_TEMPERATURE_READING, BALANCE_REPAIR, FULL_REFRESH_TIMER, REFRESH_NOW, PAGE_DWELL_EXPIRY, INTERRUPT_PAGE_EXPIRY (18
R479 to R500; 02, table *Loss or fault of a clock*; log entries 48, 50, 54). -/

namespace Sys2Proof.Machine

/-! ### Waveform data (18 R489) -/

/-- A record of the waveform data. -/
structure WaveRec where
  half  : Nat
  prep  : Nat
  vcom  : Nat
  vseg  : Nat
  gamma : List Nat
deriving DecidableEq, Repr

/-- A little-endian field of a byte string. -/
def fieldAt (b : Bytes) (offset n : Nat) : Nat := leVal ((b.drop offset).take n)

/-- The record of a band and a layer. -/
def waveRec (b : Bytes) (band layer : Nat) : WaveRec :=
  let o := 24 + 24 * (3 * band + layer)
  ⟨fieldAt b o 2, fieldAt b (o + 2) 2, fieldAt b (o + 4) 1, fieldAt b (o + 5) 1, ((b.drop (o + 6)).take 16).map BitVec.toNat⟩

/-- Does a list never fall? -/
def rising : List Nat → Bool
  | a :: b :: r => decide (a ≤ b) && rising (b :: r)
  | _ => true

/-- Lies a record within its ranges (18 R484, R489)? -/
def WaveRec.ok (r : WaveRec) : Bool :=
  decide (r.half = 0 ∨ (100 ≤ r.half ∧ r.half ≤ 340)) && decide (1 ≤ r.prep ∧ r.prep ≤ 2000) && decide (r.vcom ≤ 120) && decide (r.vseg ≤ 130) &&
    r.gamma.all (fun g => decide (g ≤ 16)) && rising r.gamma

/-- Band edge i, 1 to 7, in 0.0625 °C. -/
def waveEdge (b : Bytes) (i : Nat) : Int := toSigned 16 (fieldAt b (6 + 2 * (i - 1)) 2)

/-- Are the waveform data accepted (18 R489)? 3 °C are 48 steps of 0.0625 °C. -/
def waveOk (b : Bytes) : Bool :=
  decide (b.length = 16384 ∧ fieldAt b 0 4 = 0x5746524D ∧ fieldAt b 4 2 = 0x0100) &&
    ((List.range 6).all fun i => decide (waveEdge b (i + 1) + 48 ≤ waveEdge b (i + 2))) &&
    ((List.range 8).all fun band => (List.range 3).all fun k => (waveRec b band k).ok) &&
    decide (crc 32 0x04C11DB7 0xFFFFFFFF true 0xFFFFFFFF (b.take 16380) = fieldAt b 16380 4)

/-! ### Pages (18 R495 to R498) -/

/-- The place of a key among the sixteen, for the echo page. -/
def keyByte (k : Key) : Byte := BitVec.ofNat 8 (keyBit k)

/-- A page as bytes, from which its image is drawn (log entry 48). -/
def Page.bytes : Page → Bytes
  | .blank => []
  | .legal code entity values commit => [1] ++ leBytes 1 code ++ leBytes 1 entity ++ leBytes 8 commit ++ values.flatMap fun x => leBytes 8 (ofSigned 64 x)
  | .sapwood n text => [2] ++ leBytes 1 n ++ text
  | .echo keys => 3 :: keys.map keyByte
  | .token result units => [4] ++ leBytes 1 result ++ leBytes 8 units
  | .check value remaining => [5] ++ leBytes 4 value ++ leBytes 2 remaining
  | .refused => [6]

/-- The image of a page: 96 bytes for each row, layer after layer, even columns in low nibbles (18 R479). -/
def Page.image (x : Page) : Bytes :=
  (List.range 3).flatMap fun k => (List.range 64).flatMap fun r => leBytes 96 (Config.pageRow x.bytes k r)

/-- The ring a page shows: 0 where it shows none (18 R497). -/
def Page.commit : Page → Nat
  | .legal _ _ _ c => c
  | _ => 0

/-- Rows of a layer that differ between the shown image and the next one (18 R486). -/
def rowsToUpdate (full : Bool) (old new : Page) (layer : Nat) : List Nat :=
  if full then List.range 64
  else (List.range 64).filter fun r => Config.pageRow old.bytes layer r ≠ Config.pageRow new.bytes layer r

/-- The layers of a frame with the rows each updates (18 R485): a layer with none is skipped. -/
def frameLayers (full : Bool) (old new : Page) : List (Nat × List Nat) :=
  ((List.range 3).map fun k => (k, rowsToUpdate full old new k)).filter fun x => x.2 ≠ []

namespace Dev

def setDisplay (d : Dev) (f : Display → Display) : Dev := { d with display := f d.display }

/-- Do the supplies and the clock of the drive stand (18 R494; 03, table *Rail monitors*)? -/
def driveUp (d : Dev) : Bool := !d.clocks.i8Lost && d.rail .vhvIn && d.rail .vddIo

/-- Does the display engine run, past its start at step 9 of the boot sequence? -/
def displayUp (d : Dev) : Bool := d.powered && d.running .display && decide (9 ≤ d.power.bootStep) && decide (d.power.shutdownStep = 0)

/-- A legal item as the legal item area holds it (12 R324; 18 R497). -/
def legalPage (d : Dev) (code entity : Nat) : Page :=
  match d.heart.items.find? fun (x : Nat × Nat × List Int) => x.1 = code ∧ x.2.1 = entity with
  | some (_, _, v) => .legal code entity v d.heart.itemsCommit
  | none => .legal code entity (d.itemValue d.committedEnts code entity) d.committedNumber

/-- The page of a scroll entry (18 R495). -/
def pageOf (d : Dev) (w : Nat) : Page :=
  if w / 0x1000000 = 0 then d.legalPage (w / 0x10000 % 256) (w / 0x100 % 256)
  else if w / 0x10000 % 256 = 0 then .sapwood 0 (d.bytes Key.hostMessage)
  else .sapwood (w / 0x10000 % 256) (Config.sapwoodPage (w / 0x10000 % 256))

/-- The committed scroll entries, and the mandatory items they lack, each with a dwell of 5 s (18 R495, R496). -/
def scrollEntries (d : Dev) : List Nat := (List.range (d.nat Key.scrollCount)).map fun i => d.nat (Key.scrollEntry i)
def appended (d : Dev) : List Nat :=
  let l := d.scrollEntries
  ((List.range (d.nat Key.mandatoryCount)).map fun i => d.nat (Key.mandatoryItem i)).filterMap fun w =>
    if l.any fun x => x / 0x100 = w then none else some (w * 0x100 + 5)

/-- Seconds of the AWAIT_RESET timer that remain (13, 0x6200.05). -/
def confirmLeft (d : Dev) : Nat :=
  if d.nat Key.commissionState = 1 then (d.safety.awaitAt + 60000 - d.tick7) / 1000 else 0

/-- The interrupt page of highest priority (18 R498). Item code 0 is a test count: mWh counted and ms elapsed (12 R325). -/
def interruptPage (d : Dev) : Option Page :=
  match d.heart.inspection with
  | some i =>
    match i.showing with
    | some n => let w := d.nat (Key.mandatoryItem n); some (d.legalPage (w / 256) (w % 256))
    | none =>
      match i.testCount with
      | some (p, some (start, time)) =>
        match d.energy.newest with
        | some r => some (.legal 0 p [(readout (r.ents[portEntity p]).imp : Int) - start, ((r.time - time) / 1000 : Nat)] r.number)
        | none => some (.legal 0 p [] 0)
      | some (p, none) => some (.legal 0 p [] 0)
      | none => let w := d.nat (Key.mandatoryItem 0); some (d.legalPage (w / 256) (w % 256))
  | none =>
    if d.ledger.keypad.entry ≠ [] ∧ entryOf d.ledger.keypad.entry = .open then some (.echo d.ledger.keypad.entry)
    else if d.display.tokenTill.isSome ∧ d.display.notice then some .refused
    else if d.display.tokenTill.isSome then some (.token (d.nat Key.lastTokenResult) (d.int Key.lastTokenAmount).toNat)
    else if d.display.checkTill.isSome ∧ d.nat Key.commissionState ≠ 2 then some (.check (d.nat Key.computedCheck) d.confirmLeft)
    else none

/-- The scroll entry on the panel, from 1. -/
def curEntry (d : Dev) : Nat := d.display.scroll.getD (d.display.entry - 1) 5

/-- Render a scroll entry anew. -/
def render (d : Dev) (entry : Nat) : Dev :=
  d.setDisplay fun x => { x with entry := entry, cur := d.pageOf (x.scroll.getD (entry - 1) 5), dwellAt := d.nowMs }

/-- The sequence and settings as committed come into force (18 R496). -/
def takeScroll (d : Dev) : Dev :=
  (d.setDisplay fun x => { x with
    scroll := d.scrollEntries ++ d.appended
    set := ⟨d.nat Key.fullRefreshH, d.flag Key.partialUpdate, d.nat Key.panelSensor, d.nat Key.railHoldMs, d.nat Key.tokenPageS⟩ }).putNat Key.scrollAppended d.appended.length

end Dev

/-! ### Drive levels (18 R481, R483, R484) -/

/-- Levels of VCOMP in 0.25 V and of VSEGP in 0.1 V; VCOMN and VSEGN are their negatives (18 R481). -/
def StepRec.vcomLevel (s : StepRec) : Int := 40 + s.vcom
def StepRec.vsegLevel (s : StepRec) : Int := 20 + s.vseg

/-- Is a half of a step the positive one for a common: P = 0 has it lead (18 R490)? -/
def leads (p first : Bool) : Bool := decide (first ≠ p)

/-- Level of a COM output in a half, in 0.25 V: of a common addressed ±VCOM, of any other 0 V (18 R483). -/
def StepRec.com (s : StepRec) (addressed p first : Bool) : Int :=
  if !addressed then 0 else if leads p first then s.vcomLevel else -s.vcomLevel

/-- Grey level of a column of the row that the step selects. -/
def StepRec.grey (s : StepRec) (c : Nat) : Nat := s.pixels / 16 ^ c % 16

/-- Level of a SEG output in a slot, 0 to 15, of a half, in 0.1 V: 0 V in a preparation; in the positive half VSEGN in the s(g) selection slots at
its start and VSEGP in the others, and the negatives in the negative half (18 R483, R484). -/
def StepRec.seg (s : StepRec) (gamma : List Nat) (p first : Bool) (c slot : Nat) : Int :=
  if s.row = 0xFF then 0
  else
    let v := if slot < gamma.getD (s.grey c) 0 then -s.vsegLevel else s.vsegLevel
    if leads p first then v else -v

namespace Dev

/-! ### Frames (18 R481 to R487, R492) -/

/-- The waveform record of the band latched for the frame. -/
def recordOf (d : Dev) (layer : Nat) : WaveRec :=
  waveRec (d.display.wave.getD []) (d.nat Key.displayBandInForce) layer

/-- The step a running frame has to do next (18 R485). -/
def nextStep (d : Dev) (f : FrameRun) : Option StepRec :=
  match f.layers with
  | [] => none
  | (k, rows) :: _ =>
    let w := d.recordOf k
    if f.prep ≠ 0 then some ⟨k, 0xFF, w.half, w.vcom, w.vseg, rows.headD 0, rows.getLastD 0, 0⟩
    else match f.rows with
      | r :: _ => some ⟨k, r, w.half, w.vcom, w.vseg, r, r, Config.pageRow f.page.bytes k r⟩
      | [] => none

/-- The commons a step addresses, 64k + r (18 R485, R490). -/
def commonsOf (f : FrameRun) (s : StepRec) : List Nat :=
  if s.row = 0xFF then (match f.layers with | (_, rows) :: _ => rows.map fun r => 64 * s.layer + r | [] => [])
  else [64 * s.layer + s.row]

/-- Change P and U of commons. -/
def mark (d : Dev) (l : List Nat) (g : Bool × Bool → Bool × Bool) : Dev :=
  d.setDisplay fun x => { x with ledger := Vector.ofFn fun (i : Fin 192) => if l.contains i.val then g x.ledger[i] else x.ledger[i] }

/-- Queue the next step: the step record is written before (18 R492). -/
def queueStep (d : Dev) (f : FrameRun) : Dev :=
  match d.nextStep f with
  | some s => (d.setDisplay fun x => { x with frame := some { f with begun := false }, record := some s }).say (.drive s)
  | none => d

/-- The frame has run to its end (18 R481, R485, R486). -/
def frameEnd (d : Dev) (f : FrameRun) : Dev :=
  let hold := d.display.set.railHold
  let d := d.setDisplay fun x => { x with
    frame := none, shown := f.page, header := { x.header with seq := x.header.seq + 1, running := false }
    railsTill := if hold = 0 then none else some (d.nowMs + hold) }
  let d := (d.bump (if f.full then Key.fullFrameCount else Key.partialFrameCount)).putNat Key.lastFrameDuration (d.nowUs - f.start)
  let d := d.putNat Key.displayState (if hold = 0 then 0 else 2)
  if f.full then d.setDisplay fun x => { x with lastFull := d.nowMs } else d

/-- The step in flight ends: U cleared, P toggled, the journal written (18 R490, R492). Answers the frame as it remains. -/
def stepEnded (d : Dev) (f : FrameRun) (s : StepRec) : FrameRun × Dev :=
  let d := d.mark (commonsOf f s) fun x => (!x.1, false)
  if s.row = 0xFF then ({ f with prep := f.prep - 1, begun := false }, d)
  else
    let d := d.setDisplay fun x => { x with header := { x.header with seq := x.header.seq + 1, layer := s.layer, row := s.row } }
    match f.rows, f.layers with
    | [_], _ :: (k, rows) :: rest => ({ f with layers := (k, rows) :: rest, prep := (d.recordOf k).prep, rows := rows, begun := false }, d)
    | [_], _ => ({ f with layers := [], rows := [], begun := false }, d)
    | rows, _ => ({ f with rows := rows.drop 1, begun := false }, d)

/-- HALF_START_REPORT (18 R492): U is set on every common addressed. -/
def halfStart (d : Dev) : Dev :=
  match d.display.frame, d.display.record with
  | some f, some s =>
    if f.begun ∨ !d.displayUp ∨ !d.driveUp then d
    else
      ((d.mark (commonsOf f s) fun x => (x.1, true)).setDisplay fun x => { x with frame := some { f with begun := true } }).putNat Key.displayState 2
  | _, _ => d

/-- STEP_END_REPORT (18 R490, R492). -/
def stepEnd (d : Dev) : Dev :=
  match d.display.frame, d.display.record with
  | some f, some s =>
    if !f.begun ∨ !d.displayUp ∨ !d.driveUp then d
    else
      let r := d.stepEnded f s
      if r.1.layers = [] then r.2.frameEnd r.1 else r.2.queueStep r.1
  | _, _ => d

/-- The page wanted now, and whether it is an interrupt page; a scroll page that was interrupted is rendered anew (18 R497, R498). -/
def wantedPage (d : Dev) : Page × Bool :=
  match d.interruptPage with
  | some p => (p, true)
  | none => (if d.display.interrupted then d.pageOf d.curEntry else d.display.cur, false)

/-- The panel turns to a page (18 R495, R497, R498). -/
def turnTo (d : Dev) (page : Page) (interrupt : Bool) : Dev :=
  let d := d.setDisplay fun x =>
    if interrupt then { x with interrupted := true } else { x with interrupted := false, cur := page, dwellAt := d.nowMs }
  (d.putNat Key.shownEntry (if interrupt then 0 else d.display.entry)).putNat Key.shownCommit page.commit

/-- Does a band allow frames (18 R488)? -/
def bandAllows (d : Dev) : Bool :=
  (List.range 3).all fun k => decide ((waveRec (d.display.wave.getD []) d.display.band k).half ≠ 0)

/-- FRAME_START (18 R486 to R488): with the content wanted now; `full` is what the rules of R486 ask for. A change of page that alters no
pixel draws no frame. A next image whose CRC fails is discarded, and the engine renders it again; rows the die-to-die link repeats are drawn once
and counted (01 R12). -/
def frameStart (full imageOk : Bool) (rowRepeats : Nat) (d : Dev) : Dev :=
  let (page, interrupt) := d.wantedPage
  let asks := d.display.fullWanted || !d.display.set.partialUp
  if !d.displayUp ∨ !d.driveUp ∨ d.display.stopped ∨ d.display.frame.isSome ∨ d.display.wave.isNone ∨ full ≠ asks then d
  else if !d.display.fullWanted ∧ frameLayers false d.display.shown page = [] then
    (d.setDisplay fun x => { x with shown := page }).turnTo page interrupt
  else if !imageOk then
    (if d.display.interrupted then d else d.setDisplay fun x => { x with cur := d.pageOf d.curEntry }).bump (Key.mismatchCount 15)
  else if !d.bandAllows then
    if d.display.deferred then d
    else ((d.setDisplay fun x => { x with deferred := true }).bump Key.deferredFrameCount).putNat Key.displayState 5
  else
    let layers := frameLayers full d.display.shown page
    let d := (d.turnTo page interrupt).bump Key.rowRepeatCount rowRepeats
    let (content, d) := d.draw
    let up := d.display.railsTill.isSome
    let d := ((d.putNat Key.displayBandInForce d.display.band).putNat Key.lastFrameStart d.nowUs).putNat Key.displayState (if up then 2 else 1)
    let h := d.display.header
    let d := d.setDisplay fun x => { x with
      fullWanted := false, deferred := false, railsTill := none
      header := ⟨h.seq + 1, h.number + 1, if full then 1 else 2, d.display.band, true, (layers.map fun x => 2 ^ x.1).sum, 0, 0xFF, content % 2 ^ 32⟩ }
    let k := (layers.headD (0, [])).1
    d.queueStep ⟨full, page, layers, (d.recordOf k).prep, (layers.headD (0, [])).2, false, d.nowUs⟩

/-- RAIL_HOLD_EXPIRY (18 R481, R482): I8 times the hold, which the model counts in ticks of 1 ms while I1 gives them (02 R45; log entry 73). -/
def railHoldExpiry (d : Dev) : Dev :=
  match d.display.railsTill with
  | some t =>
    if d.powered ∧ d.display.frame.isNone ∧ !d.clocks.i8Lost ∧ (t ≤ d.nowMs ∨ d.clocks.ref16Lost) then (d.setDisplay fun x => { x with railsTill := none }).putNat Key.displayState 0 else d
  | none => d

/-! ### Supply, clock and core (18 R493, R494, R499) -/

/-- The drive stops at once when I8, VHV_IN or VDD_IO fails (18 R494): commons with U keep it. -/
def stopDisplay (d : Dev) : Dev :=
  let cut := d.display.frame.any fun f => f.begun
  let d := if cut then d.bump Key.interruptedStepCount else d
  (d.setDisplay fun x => { x with
    fullWanted := x.fullWanted || x.frame.isSome, frame := none, railsTill := none, stopped := true, goodAt := none }).putNat Key.displayState 4

/-- A supply or clock of the drive returned: 100 ms run once all are good (18 R494). -/
def displayGood (d : Dev) : Dev :=
  if d.display.stopped ∧ d.driveUp then d.setDisplay fun x => { x with goodAt := some (x.goodAt.getD d.nowMs) } else d

/-- PFW (18 R493): the step in progress completes, the journal is written, the rails stop. -/
def displayPfw (d : Dev) : Dev :=
  let d : Dev := match d.display.frame, d.display.record with
    | some f, some s =>
      if f.begun then
        let r := d.stepEnded f s
        if r.1.layers = [] then r.2.frameEnd r.1 else r.2
      else d
    | _, _ => d
  (d.setDisplay fun x => { x with fullWanted := x.fullWanted || x.frame.isSome, frame := none, railsTill := none }).putNat Key.displayState 0

/-- Repair the commons with U set, and ask for a full frame (18 R494). -/
def repairPanel (d : Dev) : Dev :=
  let l := (List.range 192).filter fun i => (d.display.ledger.getD i (false, false)).2
  let d := if l = [] then d
    else
      let d := match d.display.record with | some r => d.say (.repair r l) | none => d
      (d.mark l fun x => (!x.1, false)).bump Key.balanceRepairCount
  (d.setDisplay fun x => { x with stopped := false, goodAt := none, fullWanted := true }).putNat Key.displayState 0

/-- BALANCE_REPAIR (18 R494). -/
def balanceRepair (d : Dev) : Dev :=
  if d.displayUp ∧ d.driveUp ∧ d.display.stopped ∧ d.display.goodAt.any fun t => t + 100 ≤ d.nowMs then d.repairPanel else d

/-- The display engine starts: at step 9 of the boot sequence, and after a restart of its core (18 R486, R494, R499). -/
def startDisplay (d : Dev) : Dev :=
  let d := d.setDisplay fun x => { x with frame := none, railsTill := none, deferred := false, interrupted := false }
  let d := (d.takeScroll).render 1
  if d.driveUp then d.repairPanel else d.stopDisplay

/-- Waveform data of a version are loaded (18 R489). -/
def loadWave (d : Dev) (payload : Bytes) (version : Nat) : Dev :=
  let ok := waveOk payload
  ((d.setDisplay fun x => { x with wave := if ok then some payload else none }).putNat Key.waveformVersion version).putFlag Key.waveformValid ok

/-! ### Temperature and timers (18 R486, R488, R495, R498) -/

/-- The panel sensor in use. -/
def panelSource (d : Dev) : Option (Fin 16) :=
  let n := d.display.set.sensor
  if h : n < 16 then some ⟨n, h⟩ else none

/-- PANEL_TEMPERATURE_READING (18 R488; 08 R203). -/
def panelTemperature (sensor : Option (Fin 16)) (t : Int) (d : Dev) : Dev :=
  if !d.powered ∨ sensor ≠ d.panelSource then d
  else
    let d := d.putInt Key.panelTemperature t
    match d.display.wave with
    | none => d
    | some w =>
      let b := d.display.band
      if !d.display.bandSet then
        d.setDisplay fun x => { x with bandSet := true, band := ((List.range 7).filter fun i => waveEdge w (i + 1) ≤ t).length }
      else if b < 7 ∧ waveEdge w (b + 1) + 12 ≤ t then d.setDisplay fun x => { x with band := b + 1 }
      else if 0 < b ∧ t < waveEdge w b - 12 then d.setDisplay fun x => { x with band := b - 1 }
      else d

/-- FULL_REFRESH_TIMER (18 R486). -/
def fullRefresh (d : Dev) : Dev :=
  if d.displayUp ∧ d.display.lastFull + d.display.set.refreshH * 3600000 ≤ d.nowMs then d.setDisplay fun x => { x with fullWanted := true } else d

/-- PAGE_DWELL_EXPIRY (18 R495, R496, R498): the next page is rendered; the sequence committed last comes into force. After entry 1 the
safety check value shows for 10 s while the configuration is not commissioned. -/
def pageDwellExpiry (d : Dev) : Dev :=
  if !d.displayUp ∨ d.display.interrupted ∨ d.interruptPage.isSome ∨ d.nowMs < d.display.dwellAt + 1000 * (d.curEntry % 256) then d
  else
    let first := decide (d.display.entry = 1)
    let n := d.display.entry
    let d := d.takeScroll
    let d := if first ∧ d.nat Key.commissionState ≠ 2 then d.setDisplay fun x => { x with checkTill := some (d.nowMs + 10000) } else d
    d.render (if n < d.display.scroll.length then n + 1 else 1)

/-- INTERRUPT_PAGE_EXPIRY (18 R498). -/
def interruptExpiry (d : Dev) : Dev :=
  if !d.powered then d
  else d.setDisplay fun x => { x with
    tokenTill := x.tokenTill.filter fun t => d.nowMs < t, checkTill := x.checkTill.filter fun t => d.nowMs < t }

end Dev

def execFrameStart (f : FrameFacts) (s : State) : Out3 State := s.onDev (Dev.frameStart f.full f.imageOk f.rowRepeats)
def execHalfStartReport (s : State) : Out3 State := s.onDev Dev.halfStart
def execStepEndReport (s : State) : Out3 State := s.onDev Dev.stepEnd
def execRailHoldExpiry (s : State) : Out3 State := s.onDev Dev.railHoldExpiry
def execPanelTemperatureReading (sensor : Option (Fin 16)) (t : Int) (s : State) : Out3 State := s.onDev (Dev.panelTemperature sensor t)
def execBalanceRepair (s : State) : Out3 State := s.onDev Dev.balanceRepair
def execFullRefreshTimer (s : State) : Out3 State := s.onDev Dev.fullRefresh

/-- REFRESH_NOW (18 R486). -/
def refreshNowServe (a : Ack) (_ : Val) (d : Dev) : Dev :=
    ((d.setDisplay fun x => { x with fullWanted := true }) : Dev).ok a

def execRefreshNow (m : HostMsg) (data : Bytes) (s : State) : Out3 State := s.onDev (cmdWrite m Key.refreshNow false data refreshNowServe)

def execPageDwellExpiry (s : State) : Out3 State := s.onDev Dev.pageDwellExpiry
def execInterruptPageExpiry (s : State) : Out3 State := s.onDev Dev.interruptExpiry

end Sys2Proof.Machine
end

