-- ==== Sys2Proof/Machine/Clocks.lean ====
section
/-! DEFINITION. Loss, fault and return of clocks, crossing resets, and the reactions that rails share with them: CLOCK_LOST,
CROSS_CHECK, CLOCK_RECOVERED, CROSSING_SIDE_RESET, MEASUREMENT_DIE_LOST (02 R46 to R50, R57 to R60; 03 table *Rail monitors*; 08
R205). -/

namespace Sys2Proof.Machine

/-- Islands that a clock drives (02, table *Loss or fault of a clock*). -/
def islandsOf : ClockId → List Nat
  | .ref16 => [1, 3]
  | .ref25 => [2, 4, 5]
  | .xt32 => [6]
  | .i7 => [7]
  | .i8 => [8]

/-- A number for each clock in the general logbook, in the order of the table. -/
def clockNum : ClockId → Nat
  | .ref16 => 0 | .ref25 => 1 | .xt32 => 2 | .i7 => 3 | .i8 => 4

/-- One side of a crossing enters reset (02 R57 to R59); a crossing whose clock is lost stays stopped. The reader of a value keeps it when
the writer's side resets, and has none when its own side does. Writes that waited at a fabric side that resets are gone with its core; writes
that stall while the island's side resets go on waiting (log entry 69). -/
def Crossing.sideReset (x : Crossing) (c : Nat) (st : XState) (now : Nat) : Crossing :=
  let x := { x with
    state := if x.state = XState.clockLost then XState.clockLost else st, lastReset := now, stalled := if st = XState.fabricReset then [] else x.stalled }
  match xKind c with
  | .queue => { x with entries := [], discarded := satAdd 32 x.discarded x.entries.length }
  | .value => { x with stale := true, took := false, blank := x.blank || !xWriterDown c st }
  | .event => { x with overrun := true, overruns := satAdd 32 x.overruns 1 }

namespace Dev

/-- Crossings of some islands. -/
def crossingsOf (islands : List Nat) : List (Fin 58) := (List.finRange 58).filter fun c => islands.contains (xIsland c)

/-- The island sides of some islands stop with their clock: windows on their entries are abandoned (02 R57; 15 R417). -/
def stopIslands (islands : List Nat) (d : Dev) : Dev :=
  (crossingsOf islands).foldl (fun (d : Dev) c => (d.setCrossing c fun x => x.sideReset c .clockLost d.nowUs).abandonCrossing c) d

/-- The island sides of those of some islands that can run start again and resynchronise (02 R57). -/
def startIslands (islands : List Nat) (d : Dev) : Dev :=
  (crossingsOf (islands.filter d.islandRuns)).foldl (fun (d : Dev) c =>
    d.setCrossing c fun x => if x.state = .clockLost then { x with state := .resync } else x) d

/-- The crossings whose fabric side belongs to one core alone (02 R56, table *Crossing list*): it resets with that core. -/
def coreCrossings (d : Dev) (c : CoreId) : List (Fin 58) :=
  let engine (e : Fin 4) : List (Fin 58) := (List.finRange 58).filter fun x =>
    ((decide (0x08 ≤ x.val ∧ x.val ≤ 0x17) && decide (d.nat (Key.servingEngine (x.val % 8)) = e)) ||
      (decide (0x1C ≤ x.val ∧ x.val ≤ 0x1F) && decide (d.nat (Key.servingEngine (x.val - 0x1C)) = e)) ||
      (decide (0x22 ≤ x.val ∧ x.val ≤ 0x25) && decide (d.nat (Key.servingEngine (x.val - 0x22)) = e)))
  match c with
  | .heartwood => [0x01, 0x04, 0x2E]
  | .canopy => [0x18, 0x19, 0x1B]
  | .burl => [0x2F]
  | .firebreakA => [0x28, 0x30, 0x31, 0x32, 0x33, 0x34]
  | .display => [0x37, 0x38]
  | .pe0 => engine 0
  | .pe1 => engine 1
  | .pe2 => engine 2
  | .pe3 => engine 3
  | .firebreakB => []
  | c => if c = d.activeSapwood then [0x21, 0x27, 0x29, 0x2A, 0x2B, 0x2C] else []

/-- A modem restarts after a reset of a side of its crossings: SLAC begins anew (02 R60; 07 R167). -/
def modemReset (d : Dev) (c : Fin 58) : Dev :=
  if 0x08 ≤ c.val ∧ c.val ≤ 0x17 then d.setPort ⟨c.val % 8, by omega⟩ fun q => { q with slac := .restarted } else d

/-- An endpoint core restarts: the fabric sides of its crossings reset (02 R57 to R59), and windows on their entries are abandoned. -/
def fabricDown (d : Dev) (l : List (Fin 58)) : Dev :=
  l.foldl (fun (d : Dev) c => ((d.setCrossing c fun x => x.sideReset c .fabricReset d.nowUs).abandonCrossing c).modemReset c) d

/-- The fabric sides of some crossings leave reset and resynchronise (02 R57). -/
def fabricUp (d : Dev) (l : List (Fin 58)) : Dev :=
  l.foldl (fun (d : Dev) c => d.setCrossing c fun x => if x.state = XState.fabricReset then { x with state := XState.resync } else x) d

/-- A core runs, and the fabric sides of its crossings with it. -/
def coreUp (d : Dev) (c : CoreId) : Dev :=
  let d := d.setCore c .running
  d.fabricUp (d.coreCrossings c)

/-- A clock fault that stops every port: bit 19 and the hold again, every port opens without a ramp (02; 13 R362). -/
def clockFaultAll (d : Dev) : Dev :=
  let d := { d with safety := { d.safety with clockFault := true } }
  (((d.raiseCause allPorts 19 0).holdAgain).dropAll 3).driveSafeOut.settle

/-- The metrology clock or die is lost: final commit, legal event, and every port opens (02, loss of the 16.384 MHz reference; 03,
VDD_AFE; 08 R205). -/
def metrologyLost (d : Dev) : Dev := ((d.finalCommit).legal 0x0106 0xFF []).clockFaultAll

/-- A port's high-level session ends with the pilot-line islands: an AC port stops under level 3 and a DC port waits for the
converter-stop time (02, loss of the 25 MHz reference; 03, VDD_PLC). -/
def linkLost (d : Dev) (p : PortId) : Dev :=
  let d := (d.setPort p fun q => { q with proto := none, setupAt := none, handshake := false, tls := false }).slacOff p
  if d.mode p = 0 then d
  else if d.isDc p then d.raiseCause [p] 19 0
  else d.sessionStop p 6

/-- Every port loses its pilot line (02, loss of the 25 MHz reference; 03, VDD_PLC). -/
def linksLost (d : Dev) : Dev :=
  let d := allPorts.foldl linkLost d
  ({ d with site := { d.site with can4SilentAt := some (d.site.can4SilentAt.getD d.tick7) } } : Dev).settle

/-- CAN4 and the pilot line are back: the modems restart SLAC, and the demand on the DC ports falls unless another clock fault holds it
(02 R60, *Firebreak answers and returning units*; 17 R475; log entry 56). -/
def linksBack (d : Dev) : Dev :=
  let d := allPorts.foldl (fun (d : Dev) p => d.setPort p fun q => { q with slac := .restarted }) d
  if d.can4Silent then d
  else
    let d := { d with site := { d.site with can4SilentAt := none } }
    (if d.safety.clockFault then d else d.releaseCause (allPorts.filter fun p => d.isDc p) 19 0).settle

/-- I7 stops: the I7-clocked refresh of Firebreak B's halves ends, Firebreak A drops its own, the pilots fall (02, loss of I7). -/
def i7Stops (d : Dev) : Dev :=
  let d := { d with clocks := { d.clocks with i7Lost := true, i7Passed := false, n1Fails := 0, n6Fails := 0 } }
  (((d.channelDown true 0).stopIslands [7]).clockFaultAll).setCrossing 0x28 fun x => { x with stale := true }

/-- I7 runs again: Firebreak B restarts within 150 ms (02; 13 R362). -/
def i7Back (d : Dev) : Dev :=
  let d := { d with clocks := { d.clocks with i7Lost := false, i7Passed := false }, safety := { d.safety with restartB := some d.tick7 } }
  (d.startIslands [7]).settle

/-- The time base I6 is lost: UTC goes on from fabric time, flagged (02, loss of the 32.768 kHz crystal). -/
def xt32Stops (d : Dev) : Dev :=
  let d := { d with clocks := { d.clocks with xt32Lost := true }, time := { d.time with i6Lost := true } }
  if d.powered then ((d.legal 0x0107 0xFF []).general (.clockLost 2)).stopIslands [6] else d

/-- The 16.384 MHz reference is lost: I1 and I3 stop, and with them metrology, Canopy and every port. -/
def ref16Stops (d : Dev) : Dev :=
  let d := (d.general (.clockLost 0)).metrologyLost
  let d := { d with clocks := { d.clocks with ref16Lost := true } }
  let d : Dev := if d.canopy.node = .off then d else d.canopyLeave .listening
  d.stopIslands [1, 3]

/-- The 25 MHz reference is lost: I2, I4 and I5 stop, and with them pilot lines, CAN4 and host interfaces. -/
def ref25Stops (d : Dev) : Dev :=
  let d := d.general (.clockLost 1)
  let d := { d with clocks := { d.clocks with ref25Lost := true } }
  (d.stopIslands [2, 4, 5]).linksLost

/-- The clock of I8 is lost: the display stops. -/
def i8Stops (d : Dev) : Dev :=
  let d := d.general (.clockLost 4)
  (({ d with clocks := { d.clocks with i8Lost := true } } : Dev).stopIslands [8]).stopDisplay

/-- A clock counts as lost or faulted (02, table *Loss or fault of a clock*). Without main supply only I6 runs. -/
def clockOut (c : ClockId) (d : Dev) : Dev :=
  match c with
  | .xt32 => if d.clocks.xt32Lost ∨ d.power.state = .off ∨ d.power.shutdownStep = 5 then d else d.xt32Stops
  | .ref16 => if d.clocks.ref16Lost ∨ !d.powered then d else d.ref16Stops
  | .ref25 => if d.clocks.ref25Lost ∨ !d.powered then d else d.ref25Stops
  | .i7 => if d.clocks.i7Lost ∨ !d.powered then d else (d.general (.clockLost 3)).i7Stops
  | .i8 => if d.clocks.i8Lost ∨ !d.powered then d else d.i8Stops

/-- CLOCK_LOST (02 R46): a missing-clock detector finds no edge. I7 times the detectors of the other clocks, I1 that of I7; on VBAT alone the
VBAT domain itself notices that I6 stands (03 R85). -/
def clockLost (c : ClockId) (d : Dev) : Dev :=
  if d.powered ∧ (if c = .i7 then d.clocks.ref16Lost else d.clocks.i7Lost) = true then d else d.clockOut c

/-- CLOCK_RECOVERED (02, same table). The return of I7 needs a cross-check that has passed since its loss. -/
def clockRecovered (c : ClockId) (d : Dev) : Dev :=
  if !d.powered then d
  else match c with
    | .ref16 =>
      if !d.clocks.ref16Lost then d
      else
        let d := { d with clocks := { d.clocks with ref16Lost := false } }
        let d := (d.general (.clockRecovered 0)).startIslands [1, 3]
        let d : Dev := if d.running .firebreakA ∧ d.running .firebreakB then { d with safety := { d.safety with testsPassed := true } } else d
        if d.metro.running then d.restartChannels else d
    | .ref25 =>
      if !d.clocks.ref25Lost then d
      else
        let d := { d with clocks := { d.clocks with ref25Lost := false } }
        let d := (d.general (.clockRecovered 1)).startIslands [2, 4, 5]
        let d := { d with hosts := { d.hosts with can := d.hosts.can.map fun c => if c = CanState.off then CanState.off else CanState.integrating } }
        d.linksBack
    | .xt32 =>
      if !d.clocks.xt32Lost then d
      else
        let d := { d with clocks := { d.clocks with xt32Lost := false } }
        (d.general (.clockRecovered 2)).startIslands [6]
    | .i7 => if !d.clocks.i7Lost ∨ !d.clocks.i7Passed ∨ !d.rail .vddSafe then d else (d.general (.clockRecovered 3)).i7Back
    | .i8 =>
      if !d.clocks.i8Lost then d
      else
        let d := { d with clocks := { d.clocks with i8Lost := false } }
        ((d.general (.clockRecovered 4)).startIslands [8]).displayGood

/-- Is a count of I7 cycles within ±3 % of nominal (02 R47)? -/
def countOk (n : Nat) : Bool := decide (7760000 ≤ n ∧ n ≤ 8240000)

/-- CROSS_CHECK (02 R47, R49, R50; 03 R79): the outcome table; without a complete I6 second, I6 counts as lost. A pass lets a lost I7 return,
and it is the check that step 11 of a cold start waits for. Every pilot generator takes the latest n1 while I1 is healthy. DESIGN CHOICE (log
entry 69): the deviations are rounded to the nearest ppm, half away from zero, and a check without n6 leaves the runs of consecutive checks as
they are. -/
def crossCheck (n1 : Nat) (n6 : Option Nat) (d : Dev) : Dev :=
  if !d.powered ∨ d.clocks.ref16Lost then d
  else
    let d := d.putInt Key.i7VersusI1 (divRound ((n1 : Int) - 8000000) 8)
    let d : Dev := match n6 with | some n => d.putInt Key.i7VersusI6 (divRound ((n : Int) - 8000000) 8) | none => d
    let d : Dev := if countOk n1 then { d with clocks := { d.clocks with latestN1 := n1 } } else d
    match n6 with
    | none => d.clockOut .xt32
    | some n =>
      match countOk n1, countOk n with
      | true, true =>
        { d with clocks := { d.clocks with n1Fails := 0, n6Fails := 0, checked := true, i6Cold := false, i7Passed := d.clocks.i7Lost } }
      | true, false =>
        let k := d.clocks.n6Fails + 1
        let d := { d with clocks := { d.clocks with n1Fails := 0, n6Fails := k } }
        if 2 ≤ k then d.clockOut .xt32 else d
      | false, true =>
        let k := d.clocks.n1Fails + 1
        let d := { d with clocks := { d.clocks with n6Fails := 0, n1Fails := k } }
        if 2 ≤ k then ({ d with clocks := { d.clocks with n1Fails := 0 } } : Dev).clockOut .ref16 else d
      | false, false => d.clockOut .i7

/-- A unit behind an island side that was reset rejoins by its own rule (02 R60, *Firebreak answers and returning units*): a modem restarts
SLAC, a CAN controller integrates to its bus, a Canopy node goes on at the next beacon (14 R406), metrology channels discard two periods; and Firebreak A, left with stale
values on 0x30 or 0x31, drops its halves. -/
def unitRejoins (d : Dev) (c : Fin 58) : Dev :=
  if 0x08 ≤ c.val ∧ c.val ≤ 0x17 then d.modemReset c
  else if h : 0x1C ≤ c.val ∧ c.val ≤ 0x27 then
    { d with hosts := { d.hosts with can := vmod d.hosts.can ⟨(c.val - 0x1C) % 6, by omega⟩ fun x =>
      if x = CanState.off then CanState.off else CanState.integrating } }
  else if 0x18 ≤ c.val ∧ c.val ≤ 0x1B then d.setCanopy fun c => { c with resume := true, wait := none, air := none }
  else if c.val = 0x00 then (if d.metro.running then d.restartChannels else d)
  else if c.val = 0x30 ∨ c.val = 0x31 then (((d.raiseCause allPorts 18 0).dropAll 3).driveSafeOut).settle
  else d

/-- CROSSING_SIDE_RESET (02 R57 to R60). A modem restarts after a reset of either side of its crossings (07 R167). -/
def crossingSideReset (c : Fin 58) (side : Side) (d : Dev) : Dev :=
  if !d.powered then d
  else
    let st := match side with | .island => XState.islandReset | .fabric => .fabricReset
    let d := (d.setCrossing c fun x => x.sideReset c st d.nowUs).abandonCrossing c
    match side with
    | .fabric => d.modemReset c
    | .island => d.unitRejoins c

/-- MEASUREMENT_DIE_LOST (08 R205). -/
def measurementDieLost (d : Dev) : Dev :=
  if d.powered ∧ d.metro.running ∧ !d.metro.lost ∧ 32 ≤ d.metro.invalid then
    let d := d.metrologyLost
    { d with metro := { d.metro with lost := true } }
  else d

end Dev

def execClockLost (c : ClockId) (s : State) : Out3 State := s.onDev (Dev.clockLost c)
def execCrossCheck (n1 : Nat) (n6 : Option Nat) (s : State) : Out3 State := s.onDev (Dev.crossCheck n1 n6)
def execClockRecovered (c : ClockId) (s : State) : Out3 State := s.onDev (Dev.clockRecovered c)
def execCrossingSideReset (c : Fin 58) (side : Side) (s : State) : Out3 State := s.onDev (Dev.crossingSideReset c side)
def execMeasurementDieLost (s : State) : Out3 State := s.onDev Dev.measurementDieLost

end Sys2Proof.Machine
end

