-- ==== Sys2Proof/Machine/Power.lean ====
section
/-! DEFINITION. Power states, shutdown, resets and rails: MAIN_RAILS_GOOD, RAIL_MONITOR_TRIP, RAIL_RECOVERED, PFW, FINAL_COMMIT_TIMEOUT,
MAIN_RAILS_DOWN, VBAT_LOSS, RESET_N_LOW, RESET_N_HIGH, PFW_RECOVERY, VBAT_TAMPER_ALARM (03 R62 to R77, R82 to R85). -/

namespace Sys2Proof.Machine

/-- What the fabric's memories hold after a supply outage: MRAM, the ferroelectric store and the ROMs keep their bytes, SRAM reads as
unlisted (01, memory layouts; log entry 57). -/
def Memory.stores (m : Memory) : Memory := m.filter fun x => decide (30 ≤ x.1 / 2 ^ 32 ∧ x.1 / 2 ^ 32 ≤ 33)

/-- Is the value of an object kept over a reset: not volatile, not restored from the persistence partition, and not one of the blocks of
check-value units, crossings and hosts' buses that a reset clears (05 R115; 02; 15)? -/
def keptObject (k : Nat) : Bool :=
  match rowOf k with
  | some r => !r.vol && decide (r.acc = .ro ∨ r.acc = .lgl) && !decide (0xB000 ≤ k / 256 ∧ k / 256 < 0xC000)
  | none => false

namespace Dev

/-- Burl records that a tamper-hold stands (16 R446; 12 event 0x0604). -/
def recordHold (d : Dev) (source : Nat) : Dev :=
  if d.flag Key.holdActive then d
  else (((d.putFlag Key.holdActive true).putNat Key.holdCause source).putNat Key.holdSince d.nowUs).legal 0x0604 0xFF (leBytes 1 source)

/-! ### Reset (03 R71 step 5, table *Reset sources and their effects*) -/

/-- Values of persistent objects as the persistence partition will restore them: with the entries of the journal when the shutdown
sequence stores them (05 R115, R116). -/
def storedAfter (d : Dev) (journal : Bool) : Store :=
  if journal then d.dict.journal.foldl (fun s j => j.items.foldl (fun (s : Store) x => s.insert x.1 x.2) s) d.dict.stored else d.dict.stored

/-- The bytes a group has staged: its shadow, and a commit of it that waits for the tick boundary. -/
def stagedBytes (d : Dev) (g : Nat) : Nat :=
  (if (d.group g).phase = .staging then bytesOfStore (d.group g).shadow else 0) +
    (d.dict.items.map fun x => match x with | .commit _ k l => if k = g then bytesOfStore l else 0 | _ => 0).sum

/-- Every shadow is discarded on entering SHUTDOWN, those of commits that still wait among them, and is logged at the next start-up (05 R126). -/
def expireShadows (d : Dev) : Dev :=
  (List.range 64).foldl (fun (d : Dev) g =>
    if (d.group g).phase = .staging ∨ (d.group g).phase = .committing then
      let lost := d.dict.lostGroups ++ [(g, d.stagedBytes g)]
      ({ d with dict := { d.dict with lostGroups := lost } } : Dev).setGroup g fun _ => ⟨.expired, [], 0, 0⟩
    else d) d

/-- Internal reset over the whole device except the VBAT domain: what MRAM, the ferroelectric store, the fuses and VBAT hold stays, all
else is as after power-on. -/
def resetTo (d : Dev) (st : PowerState) (step : Nat) (journal : Bool) : Dev :=
  let r := Dev.reset
  let n : Dev := { r with
    free := d.free, out := d.out, obj := d.obj.filter fun x => keptObject x.1
    time := { r.time with utcS := d.time.utcS, slew := d.time.slew, unknown := d.time.unknown, i6Lost := d.time.i6Lost }
    clocks := { r.clocks with xt32Lost := d.clocks.xt32Lost, i6Cold := d.clocks.i6Cold }
    power := { d.power with state := st, shutdownStep := step, bootStep := 0, finalDone := false, pfwN := true, memBackAt := none, startAlarm := none }
    dict := { r.dict with stored := d.storedAfter journal, lostGroups := d.dict.lostGroups, journalAt := d.dict.journalAt }
    hosts := { r.hosts with busOffCounts := d.hosts.busOffCounts }
    heart := { r.heart with
      log := d.heart.log, logOverflows := d.heart.logOverflows, general := d.heart.general, records := d.heart.records, nextRecord := d.heart.nextRecord
      sealedPart := d.heart.sealedPart, lockLatch := d.heart.lockLatch }
    site := { r.site with sessionId := d.site.sessionId }
    energy := { r.energy with slots := d.energy.slots, number := d.energy.number }
    tariff := { r.tariff with
      sets := d.tariff.sets, journal := d.tariff.journal, snaps := d.tariff.snaps, profile := d.tariff.profile, history := d.tariff.history
      prevHistory := d.tariff.prevHistory }
    ledger := { r.ledger with
      accounts := d.ledger.accounts, tokens := d.ledger.tokens, memory := d.ledger.memory, order := d.ledger.order, index := d.ledger.index }
    burl := { r.burl with slots := d.burl.slots, sealHash := d.burl.sealHash, sealFuses := d.burl.sealFuses, cells := d.burl.cells }
    update := { r.update with
      images := d.update.images, staging := d.update.staging, run := d.update.run
      lateStart := d.update.lateStart, targets := d.update.targets }
    canopy := { r.canopy with
      stored := d.canopy.stored, lastAddress := d.canopy.lastAddress, knownLongs := d.canopy.knownLongs, lastNetwork := d.canopy.lastNetwork }
    display := { r.display with
      shown := d.display.shown, header := d.display.header, ledger := d.display.ledger, record := d.display.record } }
  let n := n.putAll (d.storedAfter journal)
  let n := (List.range 12).foldl (fun (n : Dev) i => (n.putNat (Key.coreResetCause i) 0).putNat (Key.coreResetTime i) d.nowUs) n
  n.putNat Key.alarmNow (d.nat Key.alarmNow &&& 0xFE)

/-- STARTING begins (03 R62, R75, R77). -/
def enterStarting (d : Dev) : Dev :=
  { d with power := { d.power with state := .starting, shutdownStep := 0, bootStep := 0, pfw := false, resetWaiting := false, railLeft := false } }

/-- Every main rail is within its monitor window (03 R65). -/
def mainGood (d : Dev) : Bool :=
  [Rail.vddCore, .vddSafe, .vddIo, .vddIo18, .vddAfe, .vddPlc, .vddMem, .vhvIn].all fun r => d.rail r

/-- From step 5 of the shutdown the device starts again, with RESET_N high and every main rail within its window; else it waits in reset
(03 R65, R75). -/
def startAgain (d : Dev) : Dev :=
  if d.power.resetN && d.mainGood then d.enterStarting
  else { d with power := { d.power with resetWaiting := true, railLeft := d.power.railLeft || !d.mainGood } }

/-- Step 5: internal reset; the device starts again at once unless PFW, RESET_N or a rail holds it (03 R65, R71, R75, R77; 17 R474). -/
def internalReset (d : Dev) : Dev :=
  let d := d.resetTo .shutdown 5 true
  let d : Dev := { d with power := { d.power with railLeft := !d.mainGood } }
  if d.power.pfw then d else d.startAgain

/-! ### Shutdown (03, table *Shutdown sequence after PFW*) -/

/-- Step 1: every enable half drops without a ramp, every pilot is safe, STOP_ALL goes out, SAFE_OUT falls; a confirmation that waits for
its edge is lost (13 R331, R365). -/
def shutdownPorts (d : Dev) : Dev :=
  let d := d.dropAll 4
  let d := allPorts.foldl (fun (d : Dev) p => d.setPort p fun q => { q with safe := true }) d
  let d := (d.stopAllModules 1).driveSafeOut
  (if d.nat Key.commissionState = 1 then unconfirm d else d).settle

/-- Steps 2 and 3: load shedding (18 R493; 15 R419). What waits for a tick boundary has not taken effect and is lost. -/
def shedLoads (d : Dev) : Dev :=
  let d := (allPorts.foldl (fun (d : Dev) p => d.slacOff p) d).setCanopy fun c => { c with queue := [], wait := none }
  let d := (d.displayPfw).abandonAtPfw
  { d with dict := { d.dict with items := [] } }

/-- The shutdown sequence from step 1 to the start of the final commit, for a reset cause of 0x1000.08 (03 R68 to R75, R82). A hold that
waits for its tick boundary is recorded first (16 R446). -/
def beginShutdown (d : Dev) (cause : Nat) : Dev :=
  let t := d.nowUs
  let d : Dev := match d.burl.holdNext with | some s => (d.recordHold s).setBurl fun b => { b with holdNext := none } | none => d
  let d : Dev := { d with power := { d.power with state := .shutdown, pfwTime := t, pfwN := true, shutdownStep := 1 } }
  let d := ((d.putNat Key.resetCause cause).putNat Key.resetRail 0).putNat Key.resetTime t
  let d := (d.keyOpAbort Code.shutdown).shutdownPorts.expireShadows.shedLoads
  let d : Dev := { d with power := { d.power with shutdownStep := 3 } }
  let last := d.finalRing t
  match last.1 with
  | some c => { last.2 with energy := { last.2.energy with commit := some c }, metro := { last.2.metro with running := false } }
  | none => last.2.internalReset

/-- The final ring is written: the sequence goes on to step 5 when its read-back matches, and writes the same contents again when it does
not (03 R72 to R74; 09 R232). -/
def finalWritten (d : Dev) (readBackOk : Bool) : Dev :=
  match d.energy.commit with
  | none => d
  | some c =>
    let r := (d.writeRing c.ring readBackOk).1
    let d := (d.writeRing c.ring readBackOk).2
    if readBackOk then
      let d : Dev := { d with power := { d.power with finalDone := true } }
      (c.entries.foldl periodValues d).internalReset
    else (d.bump Key.readBackFailCount).legal 0x0203 0xFF (leBytes 1 (r.number % 32) ++ leBytes 8 r.number)

/-- FINAL_COMMIT_TIMEOUT (03 R74): the ring is left incomplete. -/
def finalCommitTimeout (d : Dev) : Dev :=
  if d.power.state ≠ .shutdown ∨ d.power.shutdownStep ≠ 3 then d
  else match d.energy.commit with
    | some c => (d.writeRing c.ring false).2.internalReset
    | none => d.internalReset

/-- PFW (03 R68, R69). During a shutdown for another cause it only holds the restart back. -/
def pfw (d : Dev) : Dev :=
  if d.power.state = .shutdown then { d with power := { d.power with pfw := true } }
  else if !d.powered then d
  else
    let d : Dev := if d.running .heartwood then d.legal 0x0102 0xFF (leBytes 8 d.nowUs) else d
    ({ d with power := { d.power with pfw := true } } : Dev).beginShutdown 1

/-- RESET_N_LOW (03 R75): ignored below 1 µs; from 1 to 10 µs it may or may not be taken; from 10 µs on it is. -/
def resetNLow (us : Nat) (d : Dev) : Dev :=
  let taken : Bool := decide (10 ≤ us) || Config.freeBool d.free
  let d : Dev := if 1 ≤ us ∧ us < 10 then { d with free := d.free + 1 } else d
  if us < 1 ∨ !taken then d
  else
    let d : Dev := { d with power := { d.power with resetN := decide (us < 10) } }
    if d.power.state = .shutdown ∨ !d.powered then d
    else
      let d : Dev := if d.running .heartwood then d.general .externalReset else d
      d.beginShutdown 2

/-- PFW_RECOVERY (03 R77): 100 ms above 1.26 V after step 5, with no rail out of its window since; after a rail has left, the start is that of
MAIN_RAILS_GOOD. -/
def pfwRecovery (d : Dev) : Dev :=
  if d.power.state = .shutdown ∧ d.power.shutdownStep = 5 ∧ d.power.pfw then
    let d : Dev := { d with power := { d.power with pfw := false } }
    if d.power.railLeft then d else d.startAgain
  else d

/-! ### Rails (03 R62, R63, R65; table *Rail monitors*) -/

/-- Set whether a rail is within its window. -/
def setRail (d : Dev) (r : Rail) (good : Bool) : Dev := { d with power := { d.power with railGood := d.power.railGood.set (railNum r) good } }

/-- The supply is gone: only VBAT is left, or nothing (03 R62). -/
def asleep (d : Dev) : PowerState := if d.power.vbatDown then .off else .vbatSleep

/-- VDD_CORE or VDD_IO fell below its monitor: reset without a final commit; the rail is logged at the restart. -/
def railReset (d : Dev) (r : Rail) : Dev :=
  let t := d.nowUs
  let d := d.resetTo d.asleep 0 false
  let d : Dev := { d with power := { d.power with tripped := some (railNum r), pfw := false } }
  ((d.putNat Key.resetCause 3).putNat Key.resetRail (if r = .vddCore then 1 else 2)).putNat Key.resetTime t

/-- RAIL_MONITOR_TRIP (03 R63). In reset a main rail that leaves its window only keeps the device there (R65); "VBAT low" is logged once the
device runs (log entry 70). -/
def railMonitorTrip (r : Rail) (d : Dev) : Dev :=
  if !d.rail r ∨ (r ≠ .vbat ∧ !d.powered ∧ d.power.state ≠ .shutdown) then d
  else
    let d := d.setRail r false
    if r = .vbat then (if d.powered then d.general .vbatLow else { d with power := { d.power with vbatNote := true } })
    else if !d.powered then { d with power := { d.power with railLeft := true } }
    else match r with
      | .vddCore => d.railReset r
      | .vddIo => d.railReset r
      | .vddSafe => if d.clocks.i7Lost then d else (d.general (.railTrip (railNum r))).i7Stops
      | .vddIo18 => d.general (.railTrip (railNum r))
      | .vddAfe =>
        let d := d.general (.railTrip (railNum r))
        if d.metro.lost then d
        else
          let d := d.metrologyLost
          { d with metro := { d.metro with lost := true } }
      | .vddPlc =>
        let d := ((d.general (.railTrip (railNum r))).stopIslands [2, 3]).linksLost
        if d.canopy.node = .off then d else d.canopyLeave .listening
      | .vddMem =>
        let d := d.general (.railTrip (railNum r))
        let (n, d) := d.draw
        (allPorts.foldl (fun (d : Dev) p => d.sessionStop p (n % 12)) d).settle
      | _ => ((d.general (.railTrip (railNum r))).stopIslands [8]).stopDisplay

/-- Legal events that waited for MRAM are stored in order, those that did not fit as one entry with their count (12 R316). -/
def storeEvents (d : Dev) : Dev :=
  let n := d.heart.logLost
  let d := d.heart.logQueue.foldl storeEntry { d with heart := { d.heart with logQueue := [], logLost := 0 } }
  if n = 0 then d else d.legal 0x0608 0xFF (leBytes 4 n)

/-- Sessions that closed while MRAM was away are costed and stored (03, VDD_MEM). -/
def storeUnstored (d : Dev) : Dev :=
  let l := d.energy.unstored
  let d := d.setEnergy fun n => { n with unstored := [] }
  l.foldl (fun (d : Dev) (p, x, r) => d.closeSession p x r) d

/-- RAIL_RECOVERED (03 R63): the rail's units return (02, *Firebreak answers and returning units*). I7, stopped by VDD_SAFE, returns as a lost
I7 oscillator does: by a passing cross-check. -/
def railRecovered (r : Rail) (d : Dev) : Dev :=
  if d.rail r then d
  else
    let d := d.setRail r true
    let d : Dev := if r = .vbat then { d with power := { d.power with vbatDown := false } } else d
    if !d.powered then d
    else match r with
      | .vddPlc => (d.startIslands [2, 3]).linksBack
      | .vddMem => ({ d with power := { d.power with memBackAt := some d.nowMs } } : Dev).storeEvents.storeUnstored
      | .vhvIn => (d.startIslands [8]).displayGood
      | .vddIo => d.displayGood
      | _ => d

/-- MAIN_RAILS_DOWN (03 R62): after SHUTDOWN, or while the device is held in reset. -/
def mainRailsDown (d : Dev) : Dev :=
  if d.powered then d
  else
    let rails : Vector Bool 9 := (Vector.replicate 9 false).set (8 : Fin 9) (d.rail .vbat)
    { d with power := { d.power with
      state := d.asleep, shutdownStep := 0, pfw := false, resetWaiting := false, railLeft := false, railGood := rails
      vbatLost := d.power.vbatLost || d.power.vbatDown } }

/-- The main rails have been good for 2 ms (03 R65): power-on, or the restart after a rail monitor. DESIGN CHOICE (log entry 70): while
RESET_N is low, for which the manual has no state, the device stands in reset as at the end of SHUTDOWN. -/
def railsGood (d : Dev) : Dev :=
  let rails : Vector Bool 9 := (Vector.replicate 9 true).set (8 : Fin 9) (d.rail .vbat)
  let d : Dev := { d with power := { d.power with railGood := rails } }
  let d := match d.power.tripped with
    | some _ => d
    | none => ((d.putNat Key.resetCause 0).putNat Key.resetRail 0).putNat Key.resetTime d.nowUs
  if d.power.resetN then d.enterStarting
  else { d with power := { d.power with state := .shutdown, shutdownStep := 5, resetWaiting := true, railLeft := false } }

/-- RESET_N_HIGH (03 R75). -/
def resetNHigh (d : Dev) : Dev :=
  let d : Dev := { d with power := { d.power with resetN := true } }
  if d.power.state = .shutdown ∧ d.power.shutdownStep = 5 ∧ !d.power.pfw ∧ !d.power.railLeft then d.startAgain else d

/-- VBAT_LOSS (03 R62, R84, R87): the loss flag is set and the tamper buffer is gone; in sleep, all is off. -/
def vbatLoss (d : Dev) : Dev :=
  { d with power := { d.power with
    vbatLost := true, vbatDown := true, railGood := d.power.railGood.set (8 : Fin 9) false, buffer := [], bufferOverflow := false, bufferDropped := 0
    state := if d.power.state = .vbatSleep then .off else d.power.state } }

/-- VBAT_TAMPER_ALARM (03 R84, R85; 16 R445): from step 5 of a shutdown to the next start-up, the buffer takes what enters alarm. -/
def vbatTamperAlarm (source : Fin 8) (sub : Fin 32768) (low : Bool) (d : Dev) : Dev :=
  let sleeping : Bool := decide (d.power.state = .vbatSleep) || decide (d.power.state = .shutdown ∧ 5 ≤ d.power.shutdownStep)
  if !sleeping ∨ source.val = 0 ∨ (d.nat Key.alarmNow).testBit source then d
  else
    let d := d.putNat Key.alarmNow (setBit (d.nat Key.alarmNow) source true)
    if d.power.buffer.length < 16 then
      let e : TamperEntry := ⟨d.time.utcS, sub, source, (if d.clocks.xt32Lost then 1 else 0) + (if low then 2 else 0)⟩
      { d with power := { d.power with buffer := d.power.buffer ++ [e] } }
    else { d with power := { d.power with bufferOverflow := true, bufferDropped := satAdd 8 d.power.bufferDropped 1 } }

end Dev

def execFinalCommitTimeout (s : State) : Out3 State := s.onDev Dev.finalCommitTimeout
def execPfw (s : State) : Out3 State := s.onDev Dev.pfw
def execResetNLow (us : Nat) (s : State) : Out3 State := s.onDev (Dev.resetNLow us)
def execResetNHigh (s : State) : Out3 State := s.onDev Dev.resetNHigh
def execPfwRecovery (s : State) : Out3 State := s.onDev Dev.pfwRecovery
def execRailMonitorTrip (r : Rail) (s : State) : Out3 State := s.onDev (Dev.railMonitorTrip r)
def execRailRecovered (r : Rail) (s : State) : Out3 State := s.onDev (Dev.railRecovered r)
def execMainRailsDown (s : State) : Out3 State := s.onDev Dev.mainRailsDown
def execVbatLoss (s : State) : Out3 State := s.onDev Dev.vbatLoss
def execVbatTamperAlarm (source : Fin 8) (sub : Fin 32768) (low : Bool) (s : State) : Out3 State :=
  s.onDev (Dev.vbatTamperAlarm source sub low)

/-- MAIN_RAILS_GOOD (03 R65): from OFF or VBAT_SLEEP, and from reset when a rail had left its window; the SRAMs start empty. -/
def execMainRailsGood (s : State) : Out3 State :=
  if s.dev.power.state = .off ∨ s.dev.power.state = .vbatSleep ∨
      (s.dev.power.state = .shutdown ∧ s.dev.power.shutdownStep = 5 ∧ s.dev.power.railLeft = true) then
    .next { s with mem := s.mem.stores, dev := s.dev.railsGood }
  else .next s

end Sys2Proof.Machine
end

