-- ==== Sys2Proof/Machine/Tamper.lean ====
section
/-! DEFINITION. Tamper sources and the response to them: TAMPER_ALARM, TAMPER_ALARM_END, CLEAR_HOLD, and with them RING_COMMIT and
HALL_READING, whose checks are tamper sources (16 R443 to R449; 09 R231, R242, R246; 03 R88, R89). -/

namespace Sys2Proof.Machine
namespace Dev

/-! ### Levels (16 R443, R444) -/

/-- The response level of a source, set in group 0x2E. -/
def level (d : Dev) (source : Nat) : Nat := d.nat (Key.responseLevel (source - 1))

/-- Legal event 0x0603 (16 R445). -/
def tamperEvent (d : Dev) (source : Nat) (entered : Bool) (detail : Int) : Dev :=
  d.legal 0x0603 0xFF (leBytes 1 source ++ leBytes 1 (d.level source) ++ leBytes 1 (if entered then 1 else 0) ++ leBytes 4 (ofSigned 32 detail))

/-- Level 0: the event and the counters. -/
def tamperLogged (d : Dev) (source : Nat) (detail : Int) : Dev :=
  let d := d.tamperEvent source true detail
  let d := (d.count 17 Key.tamperEventCount (min (d.nat Key.tamperEventCount + 1) (top Key.tamperEventCount))).bump (Key.sourceEventCount (source - 1))
  (d.putNat Key.tamperLastSource source).putNat Key.tamperLastTime d.nowUs

/-- Burl zeroes all contexts, its buffers and a running signature; the record or statement it was for starts again (16 R444). -/
def zeroContexts (d : Dev) : Dev :=
  let d := d.setBurl fun b => { b with
    contexts := Vector.replicate 144 none, broadcast := none
    queue := match b.signing with | .statement s _ => s :: b.queue | _ => b.queue
    signing := .idle }
  (List.finRange 16).foldl (fun (d : Dev) (s : SlotId) => d.setSlot s fun h => { h with sessionKey := none }) d

/-- Level 2: the crypto state goes; high-level sessions end and their ports stop; hosts register again; Canopy rejoins (16 R444). -/
def zeroise (d : Dev) : Dev :=
  let d := d.zeroContexts
  let d := allPorts.foldl (fun (d : Dev) p =>
    if (d.port p).proto.isNone && !(d.port p).handshake then d
    else (d.setPort p fun q => { q with proto := none, setupAt := none, handshake := false, tls := false }).sessionStop p 11) d
  let d := (List.finRange 16).foldl (fun (d : Dev) (s : SlotId) =>
    if (d.slot s).registered then (d.endRegistration s).dropAttest s else d) d
  let d : Dev := if d.canopy.node = .off then d else d.canopyLeave .listening
  (d.startSigning).settle

/-- A source that enters alarm gets its response; a key operation that runs is aborted (16 R444, R445, R449). In STARTING it only zeroes, and the hold follows at step 11 (03 R88);
level 3 records the hold, so that the restart ends in it (16 R446). -/
def respond (d : Dev) (source : Nat) (detail : Int) : Dev :=
  let l := d.level source
  let d := (d.tamperLogged source detail).keyOpAbort Code.tamperHold
  if d.power.state = .starting then
    let d : Dev := { d with power := { d.power with startAlarm := some (d.power.startAlarm.getD source) } }
    if 2 ≤ l then d.zeroContexts else d
  else
    let d := if 2 ≤ l then d.zeroise else d
    if d.power.state = .shutdown then (if 1 ≤ l then d.recordHold source else d)
    else if l = 3 then (d.recordHold source).beginShutdown 5
    else if l = 0 ∨ d.power.state ≠ .inService then d
    else d.setBurl fun b => { b with holdNext := some (b.holdNext.getD source) }

/-- Mark a source as in alarm, or not. -/
def setAlarm (d : Dev) (source : Nat) (on : Bool) : Dev := d.putNat Key.alarmNow (setBit (d.nat Key.alarmNow) source on)
def inAlarm (d : Dev) (source : Nat) : Bool := (d.nat Key.alarmNow).testBit source

/-! ### The hold (03 R89; 16 R446 to R448) -/

/-- Under HoldSessionAction 1 a hold stops a session (16 R448). -/
def holdStop (d : Dev) (p : PortId) : Dev :=
  match (d.port p).session with
  | .authorised => d.placeStop p 11
  | .closing => d.placeStop p 11
  | .energised => d.placeStop p 11
  | _ => d

/-- A hold that refuses Canopy takes the node out of its network, with a LEAVE (16 R448). -/
def holdLeave (d : Dev) : Dev :=
  let d := if d.canopy.node = .member then d.emit ⟨0, .leave 1, false, 0, 0, 1⟩
    else if d.canopy.node = .coordinator then d.emit ⟨0x7FF, .leave 1, false, 0, 0, 1⟩ else d
  d.canopyLeave .listening

/-- IN_SERVICE becomes TAMPER_HOLD, with its policy (16 R448). -/
def enterHold (d : Dev) (source : Nat) : Dev :=
  let d := d.recordHold source
  let d : Dev := { d with power := { d.power with state := .tamperHold } }
  let d : Dev := if d.nat Key.holdSessionAction = 1 then allPorts.foldl holdStop d else d
  let d : Dev := if d.canopyHeld ∧ d.canopy.node ≠ .off then d.holdLeave else d
  d.settle

/-- The tick boundary at which a hold that waits is entered (16 R444). -/
def holdTick (d : Dev) : Dev :=
  match d.burl.holdNext with
  | none => d
  | some s =>
    let d := d.setBurl fun b => { b with holdNext := none }
    if d.power.state = .inService then d.enterHold s else d

/-- The hold is cleared by a host at its tick boundary (16 R447). -/
def holdCleared (d : Dev) (slot : Nat) : Dev :=
  if d.power.state ≠ .tamperHold then d
  else
    let d : Dev := { d with power := { d.power with state := .inService } }
    ((((d.putFlag Key.holdActive false).putNat Key.holdCause 0).putNat Key.holdSince 0).legal 0x0605 0xFF (leBytes 1 slot)).settle

/-- Is any source of level 1 or above in alarm (16 R447)? -/
def alarmHolds (d : Dev) : Bool := (List.range 17).any fun k => decide (k ≠ 0) && d.inAlarm k && decide (1 ≤ d.level k)

/-! ### Alarms (16 R443 to R445) -/

/-- Does the source depend on a check of the metrology side, and is it latched (09 R242)? -/
def checkLatched (d : Dev) (source : Nat) : Bool :=
  match source with
  | 0x09 => d.energy.magnet.latched
  | 0x0A => d.energy.neutral.toList.any fun c => c.latched
  | 0x0B => d.energy.missing.latched
  | 0x0C => d.energy.reverse.toList.any fun c => c.latched
  | _ => false

/-- May this source alarm by itself now? Sources 0x09 to 0x0C follow their checks, 0x0D and 0x0E are found at start-up, 0x10 needs the
state SEALED (16, table *Tamper sources*). -/
def alarms (d : Dev) (source : Nat) : Bool :=
  decide (1 ≤ source) && !decide (0x09 ≤ source ∧ source ≤ 0x0E) && (decide (source ≠ 0x10) || decide (d.lifecycle = 3))

/-- TAMPER_ALARM (16 R443 to R445): while the device runs, up to step 5 of a shutdown. -/
def tamperAlarm (source : Nat) (detail : Int) (d : Dev) : Dev :=
  if !d.powered ∨ !d.alarms source ∨ d.inAlarm source then d
  else (d.setAlarm source true).respond source (if source = 0x08 then detail else 0)

/-- TAMPER_ALARM_END (16 R445). In VBAT_SLEEP nothing is logged (03 R85). -/
def tamperAlarmEnd (source : Nat) (detail : Int) (d : Dev) : Dev :=
  if !d.inAlarm source ∨ d.checkLatched source then d
  else
    let d := d.setAlarm source false
    if d.powered then d.tamperEvent source false (if source = 0x08 ∨ source = 0x09 then detail else 0) else d

/-- Checks that latched are reported to Burl one by one; a source whose checks have all released leaves alarm (09 R242; 16 R445). -/
def reportChecks (d : Dev) : Dev :=
  let l := d.burl.reports
  let d := d.setBurl fun b => { b with reports := [] }
  let d := l.foldl (fun (d : Dev) (s, x) => (d.setAlarm s true).respond s x) d
  [0x09, 0x0A, 0x0B, 0x0C].foldl (fun (d : Dev) (s : Nat) =>
    if d.inAlarm s && !d.checkLatched s then d.tamperAlarmEnd s (if s = 0x09 then (d.nat Key.magneticField : Int) else 0) else d) d

/-- RING_COMMIT (09 R231): in a shutdown the final ring, else the commit that runs; its checks may be tamper sources. -/
def ringCommitEvent (readBackOk : Bool) (durationUs : Nat) (d : Dev) : Dev :=
  if d.power.state = .shutdown then (if d.power.shutdownStep = 3 then d.finalWritten readBackOk else d)
  else (d.ringCommit readBackOk durationUs).reportChecks

/-- A source's response level was raised while it is in alarm: the new level applies at once (16 R448). -/
def levelsRaised (d : Dev) (old : Nat → Nat) : Dev :=
  (List.range 17).foldl (fun (d : Dev) k =>
    if decide (k ≠ 0) && d.inAlarm k && decide (old k < d.level k) then
      let l := d.level k
      let d := if 2 ≤ l ∧ old k < 2 then d.zeroise else d
      if l = 3 then (d.recordHold k).beginShutdown 5
      else if d.power.state = .inService then d.setBurl fun b => { b with holdNext := some (b.holdNext.getD k) } else d
    else d) d

end Dev

def execTamperAlarm (source : Fin 17) (detail : Int) (s : State) : Out3 State := s.onDev (Dev.tamperAlarm source detail)
def execTamperAlarmEnd (source : Fin 17) (detail : Int) (s : State) : Out3 State := s.onDev (Dev.tamperAlarmEnd source detail)
def execRingCommit (readBackOk : Bool) (durationUs : Nat) (s : State) : Out3 State := s.onDev (Dev.ringCommitEvent readBackOk durationUs)
def execHallReading (mT : Nat) (s : State) : Out3 State := s.onDev fun d => (hallReading mT d).reportChecks

/-- CLEAR_HOLD (16 R447): at the next tick boundary; outside a hold it succeeds and changes nothing. -/
def clearHoldServe (a : Ack) (_ : Val) (d : Dev) : Dev :=
    if d.power.state ≠ .tamperHold then d.ok a
    else if d.alarmHolds then d.abort a Code.tamperHold
    else d.enqueue (.clearHold a)

def execClearHold (m : HostMsg) (data : Bytes) (s : State) : Out3 State := s.onDev (cmdWrite m Key.clearHold false data clearHoldServe)

end Sys2Proof.Machine
end

