-- ==== Sys2Proof/Machine/Update.lean ====
section
/-! DEFINITION. Firmware update and in-service change: staging, plans, steps, trials, service restart, units taken out and returned
(17 R454 to R477). -/

namespace Sys2Proof.Machine

/-! ### Images (17 R454 to R457) -/

/-- Maximum payload of an image type (table *Image types*). -/
def maxPayload (t : Nat) : Nat := [786432, 393216, 196608, 32768, 98304, 98304, 16384].getD t 0

/-- Does the version of a provider satisfy a consumer (R457)? Entries are interface, major, minor. -/
def accepts (consumed provided : Nat × Nat × Nat) : Bool :=
  decide (provided.1 = consumed.1) && decide (provided.2.1 = consumed.2.1) && decide (consumed.2.2 ≤ provided.2.2)

/-- What the ROM parts of stepping A1 provide (table *Internal interfaces*). -/
def romProvided : List (Nat × Nat × Nat) := [(0x0009, 1, 0), (0x000A, 1, 0)]

/-- Is a running set of images compatible (R457)? -/
def compatible (l : List ImageHdr) : Bool :=
  let provided := romProvided ++ l.flatMap (·.provided)
  l.all fun h => h.consumed.all fun c =>
    let p := provided.filter fun x => decide (x.1 = c.1)
    decide (p ≠ []) && p.all (accepts c)

/-- The images running: type, and header, of each. -/
abbrev Running := List (Nat × ImageHdr)

/-- The simulation of a plan (R462): the first step, from 0, whose sequence passes through an incompatible set. A type with two or four
units runs both images until its last unit has switched; the restart of a unit itself is no set of its own (log entry 59). -/
def simulate : Running → Nat → List (Nat × ImageHdr) → Option Nat
  | _, _, [] => none
  | run, j, (t, h) :: rest =>
    let others := run.filter fun x => decide (x.1 ≠ t)
    let after := (t, h) :: others
    let both := (t, h) :: run
    if (decide (t ≤ 1) && !compatible (both.map (·.2))) || !compatible (after.map (·.2)) then some j else simulate after (j + 1) rest

/-- The measurement of an image (R455): its header and payload under SHA-256. -/
def measurement (x : ImageHdr × Bytes) : Bytes := Config.sha256 (x.1.bytes ++ x.2)

namespace Dev

def setUpdate (d : Dev) (f : Update → Update) : Dev := { d with update := f d.update }

/-- The image in slot A (false) or B of a type. -/
def imageIn (d : Dev) (t : Nat) (k : Bool) : Option (ImageHdr × Bytes) :=
  let x := d.update.images.toList.getD t (none, none)
  if k then x.2 else x.1

/-- The objects of a slot: state, version, security version (17, 0x9010+t). -/
def slotStateKey (t : Nat) (k : Bool) : Nat := if k then Key.slotBState t else Key.slotAState t
def slotVersionKey (t : Nat) (k : Bool) : Nat := if k then Key.slotBVersion t else Key.slotAVersion t
def slotSecurityKey (t : Nat) (k : Bool) : Nat := if k then Key.slotBSecurityVersion t else Key.slotASecurityVersion t

/-- Is slot B the active one? -/
def activeK (d : Dev) (t : Nat) : Bool := decide (d.nat (Key.activeSlot t) = 1)

/-- The image of a type the directory names active. -/
def activeImage (d : Dev) (t : Nat) : Option (ImageHdr × Bytes) := d.imageIn t (d.activeK t)

/-- The image type a core runs, none for the ROM cores. -/
def imageTypeOf : CoreId → Option Nat
  | .sapwoodA => some 0 | .sapwoodB => some 0 | .heartwood => none | .firebreakA => some 4 | .firebreakB => some 5 | .burl => none
  | .pe0 => some 1 | .pe1 => some 1 | .pe2 => some 1 | .pe3 => some 1 | .canopy => some 2 | .display => some 3

/-- The local SRAM of a core (01, table *The twelve cores*). -/
def sramOf : CoreId → Region
  | .sapwoodA => .sapwoodLocal false | .sapwoodB => .sapwoodLocal true | .heartwood => .heartwoodLocal
  | .firebreakA => .firebreakLocal false | .firebreakB => .firebreakLocal true | .burl => .burlLocal
  | .pe0 => .peLocal 0 | .pe1 => .peLocal 1 | .pe2 => .peLocal 2 | .pe3 => .peLocal 3
  | .canopy => .canopyLocal | .display => .displayLocal

/-- A payload loaded into a local SRAM at an offset, as far as it fits (01 R15; 17 R455). -/
def loadPayload (m : Memory) (r : Region) (offset : Nat) (payload : Bytes) : Memory :=
  m.writeBytes (flat r offset) (payload.take (regionSize r - offset))

/-- The memories once a core that did not run runs: its active image, and for the display engine the waveform data too, are in its SRAM (01 R15;
03 R78; 17 R467, R472). -/
def coreLoaded (old new : Dev) (m : Memory) (c : CoreId) : Memory :=
  if old.running c || !new.running c then m
  else
    let m := match (imageTypeOf c).bind new.activeImage with | some x => loadPayload m (sramOf c) 0 x.2 | none => m
    match (if c = .display then new.activeImage 6 else none) with | some x => loadPayload m .displayLocal 0x8000 x.2 | none => m

/-- The memories once the cores that a command releases run. -/
def coresLoaded (old new : Dev) (m : Memory) : Memory :=
  [CoreId.sapwoodA, .sapwoodB, .firebreakA, .firebreakB, .pe0, .pe1, .pe2, .pe3, .canopy, .display].foldl (coreLoaded old new) m

/-- Record an image in a slot of the directory, with a slot state. -/
def recordSlot (d : Dev) (t : Nat) (k : Bool) (x : ImageHdr × Bytes) (state : Nat) : Dev :=
  let d := d.setUpdate fun u =>
    if h : t < 7 then { u with images := vmod u.images ⟨t, h⟩ fun y => if k then (y.1, some x) else (some x, y.2) } else u
  ((d.putNat (slotStateKey t k) state).putNat (slotVersionKey t k) x.1.imageVersion).putNat (slotSecurityKey t k) x.1.securityVersion

/-- The directory names a slot active; Burl measures its image (R455, R473). -/
def activateSlot (d : Dev) (t : Nat) (k : Bool) : Dev :=
  let d := d.putNat (Key.activeSlot t) (if k then 1 else 0)
  d.putBytes (Key.activeMeasurement t) (match d.imageIn t k with | some x => measurement x | none => List.replicate 32 0)

/-! ### Staging (17 R456, R458 to R460) -/

/-- The slot of the key a header is signed under (R456). -/
def signerOf (h : ImageHdr) : Fin 64 := if h.signerSlot = 2 then 0x02 else 0x03

/-- The first header check that fails (table *Header checks*). -/
def headerCode (d : Dev) (h : ImageHdr) (sigOk : Bool) : Option Nat :=
  let t := h.imageType
  if h.length ≠ 8368 ∨ !h.magicOk ∨ 7 ≤ t ∨ !h.reservedOk ∨ 8 < h.provided.length ∨ 8 < h.consumed.length then some Code.headerRefused
  else if h.payloadLength = 0 ∨ maxPayload t < h.payloadLength then some Code.headerRefused
  else if h.loadOffset ≠ (if t = 6 then 0x8000 else 0) ∨ h.payloadLength ≤ h.entryOffset ∨ !h.steppingOk ∨ !h.flagOk then
    some Code.headerRefused
  else if !(decide (h.signerSlot = 2) || (decide (h.signerSlot = 3) && decide (t ≠ 4 ∧ t ≠ 5))) ||
      (d.keyOf (signerOf h)).isNone then some Code.headerRefused
  else if !h.filterOk then some Code.headerRefused
  else if !sigOk then some Code.verifyFailed
  else if h.securityVersion < d.nat (Key.securityVersion t) then some Code.versionLower
  else none

def stagedImage (d : Dev) (i : Nat) : Option (ImageHdr × Bytes) := d.update.staging.toList.getD i none

def setStaged (d : Dev) (i : Nat) (x : Option (ImageHdr × Bytes)) : Dev :=
  d.setUpdate fun u => if h : i < 8 then { u with staging := u.staging.set i x } else u

/-- Empty a staging area and set its state. -/
def clearStaging (d : Dev) (i state : Nat) : Dev :=
  let d := ((d.setStaged i none).putNat (Key.stagingState i) state).putNat (Key.stagingResult i) 0
  (((d.putNat (Key.stagedType i) 0xFF).putNat (Key.stagedVersion i) 0).putNat (Key.payloadLength i) 0).putNat (Key.receivedBytes i) 0

/-- A staging area fails with a code. -/
def failStaging (d : Dev) (i code : Nat) : Dev := (d.putNat (Key.stagingState i) 5).putNat (Key.stagingResult i) code

/-- HEADER_CHECK_DONE (R456): a header that comes to the check of its signature uses the signer's key. -/
def headerCheckDone (i : Fin 8) (sigOk : Bool) (d : Dev) : Dev :=
  match d.stagedImage i with
  | none => d
  | some (h, _) =>
    if !d.burlUp ∨ d.nat (Key.stagingState i) ≠ 1 then d
    else
    let d := if d.headerCode h false = some Code.verifyFailed then d.useKey (signerOf h) else d
    match d.headerCode h sigOk with
      | some c => d.failStaging i c
      | none =>
        let d := (d.putNat (Key.stagingState i) 2).putNat (Key.stagedType i) h.imageType
        (d.putNat (Key.stagedVersion i) h.imageVersion).putNat (Key.payloadLength i) h.payloadLength

/-- The codes a chunk meets (R459), to be reported in the order of R135. -/
def chunkCodes (d : Dev) (i : Fin 8) (data : Bytes) : List Nat :=
  let n := data.length - 12
  let offset := leVal (data.take 4)
  let body := data.take (4 + n)
  let checkOk : Bool := match romProfile 4 with
    | some f => decide (f.field (f.check body) = data.drop (4 + n))
    | none => false
  if data.length < 12 then [Code.tooShort]
  else
    (if checkOk then [] else [Code.segmentCheck]) ++ (if 4108 < data.length then [Code.lengthLong] else []) ++
    (if offset ≠ d.nat (Key.receivedBytes i) ∨ d.nat (Key.payloadLength i) < offset + n ∨ n = 0 then [Code.range] else []) ++
    d.writeBlocked.toList ++ (if d.nat (Key.stagingState i) ≠ 2 then [Code.headerRefused] else [])

/-- IMAGE_CHUNK once admitted (R459, R460): engine 14 has covered it; the last byte starts the hash. -/
def imageChunk (d : Dev) (i : Fin 8) (data : Bytes) (a : Ack) : Dev :=
  let codes := d.chunkCodes i data
  let checked := decide (12 ≤ data.length)
  let d := if checked then d.bump (Key.bytesCovered 14) (data.length - 8) else d
  let d := if codes.contains Code.segmentCheck then d.bump (Key.mismatchCount 14) else d
  match firstCode codes, d.stagedImage i with
  | some c, _ => d.abort a c
  | none, none => d.abort a Code.headerRefused
  | none, some (h, p) =>
    let p := p ++ (data.drop 4).take (data.length - 12)
    let d := (d.setStaged i (some (h, p))).putNat (Key.receivedBytes i) p.length
    let d := if p.length = h.payloadLength then d.putNat (Key.stagingState i) 3 else d
    d.ok a

/-- PAYLOAD_HASH_DONE (R460). -/
def payloadHashDone (i : Fin 8) (ok : Bool) (d : Dev) : Dev :=
  if !d.burlUp ∨ d.nat (Key.stagingState i) ≠ 3 then d
  else if ok then d.putNat (Key.stagingState i) 4
  else d.failStaging i Code.verifyFailed

/-! ### Plans (17 R461 to R466) -/

/-- Image type and staging area of step j, from 0, of a set of plan values. -/
def stepIn (nat : Nat → Nat) (j : Nat) : Nat × Nat := (nat (Key.planStep j) / 256, nat (Key.planStep j) % 256)
def planSteps (nat : Nat → Nat) : List (Nat × Nat) := (List.range (min 16 (nat Key.planStepCount))).map (stepIn nat)

/-- Does an armed or running plan name a staging area (R458)? -/
def planNames (d : Dev) (i : Nat) : Bool :=
  decide (d.nat Key.planState = 2 ∨ d.nat Key.planState = 3) && (planSteps d.nat).any fun s => decide (s.2 = i)

/-- Does an armed or running plan use a unit of R475? -/
def planUses (d : Dev) (u : Nat) : Bool :=
  decide (d.nat Key.planState = 2 ∨ d.nat Key.planState = 3) && (planSteps d.nat).any fun s =>
    match s.1 with
    | 0 => decide (u = 0)
    | 1 => decide (1 ≤ u ∧ u ≤ 4)
    | 2 => decide (u = 5)
    | 3 => decide (u = 6)
    | 6 => decide (u = 6)
    | _ => false

/-- What is wrong with a plan of these values: abort code and failing object (R461). -/
def planFault (d : Dev) (nat : Nat → Nat) : Option (Nat × Nat) :=
  let steps := planSteps nat
  let own (j : Nat) : Bool :=
    let (t, i) := steps.getD j (0, 0)
    decide (8 ≤ i) || decide (d.nat (Key.stagingState i) ≠ 4) || decide (d.nat (Key.stagedType i) ≠ t) ||
      (match d.stagedImage i with | some (h, _) => decide (h.securityVersion < d.nat (Key.securityVersion t)) | none => true)
  let twice (j : Nat) : Bool := (List.range steps.length).any fun k =>
    decide (k ≠ j ∧ ((steps.getD k (0, 0)).1 = (steps.getD j (0, 0)).1 ∨ (steps.getD k (0, 0)).2 = (steps.getD j (0, 0)).2))
  let bad := ((List.range steps.length).filter fun j => own j || twice j).map fun j => Key.planStep j
  let late := if nat Key.planActivationMode = 2 ∧ 2 ^ 48 ≤ nat Key.planActivationTime then [Key.planActivationMode, Key.planActivationTime] else []
  if steps = [] then none
  else match minKey (late ++ bad) with
    | some k => some (Code.groupInvalid, k)
    | none =>
      let now : Running := (List.range 7).filterMap fun t => (d.activeImage t).map fun x => (t, x.1)
      let new := steps.filterMap fun (t, i) => (d.stagedImage i).map fun x => (t, x.1)
      (simulate now 0 new).map fun j => (Code.incompatible, Key.planStep j)

/-- The general logbook takes every change of plan state and every switch: kind, plan state, step, type, both ImageVersions (table *Plan
states*). -/
def planNote (d : Dev) (switch : Bool) : Dev :=
  let j := match d.update.run with | some r => r.step | none => 0
  let t := (stepIn d.nat j).1
  let k := d.activeK t
  let old := d.nat (slotVersionKey t (!k))
  d.general (.note 9 [if switch then 1 else 0, d.nat Key.planState, j + 1, t, d.nat (slotVersionKey t k), old])

/-- The unit u of a step (R475), 0xFF for a Firebreak channel. -/
def unitOf (t unit : Nat) : Nat :=
  match t with
  | 0 => 0 | 1 => 1 + unit | 2 => 5 | 3 => 6 | 6 => 6 | _ => 0xFF

/-- The core of a step's unit; of a type 0 step the standby. -/
def stepCore (d : Dev) (t unit : Nat) : CoreId :=
  match t with
  | 0 => d.standbySapwood | 1 => peCore unit | 2 => .canopy | 3 => .display | 4 => .firebreakA | 5 => .firebreakB | _ => .display

/-- Show a running plan's progress in 0x9202. -/
def showRun (d : Dev) (r : Option PlanRun) : Dev :=
  let d := d.setUpdate fun u => { u with run := r }
  match r with
  | none => ((d.putNat Key.currentStep 0).putNat Key.currentUnit 0xFF).putNat Key.stepPhase 0
  | some r =>
    let t := (stepIn d.nat r.step).1
    let d := (d.putNat Key.currentStep (r.step + 1)).putNat Key.currentUnit (unitOf t r.unit)
    d.putNat Key.stepPhase (match r.phase with | .preparing => 1 | .switched => 2 | .trial => 3)

def modRun (d : Dev) (f : PlanRun → PlanRun) : Dev :=
  match d.update.run with
  | some r => d.showRun (some (f r))
  | none => d

/-- The plan takes a state, which is logged. -/
def planTo (d : Dev) (state : Nat) : Dev := (d.putNat Key.planState state).planNote false

/-- The plan fails at a step; the code is the model's free value, the manual names none (log entry 59). -/
def planFailed (d : Dev) (step : Nat) : Dev :=
  let (n, d) := d.draw
  let d := ((d.putNat Key.lastPlanResult (n % 2 ^ 32)).putNat Key.failingStep step).planTo 5
  (d.showRun none).setUpdate fun u => { u with lateStart := false }

/-- A commit of group 0x2D takes effect (R461, R463). -/
def planCommitted (d : Dev) : Dev :=
  if d.nat Key.planStepCount = 0 then (if d.nat Key.planState = 2 then d.planTo 0 else d)
  else
    let d := ((d.putFlag Key.executedLate false).putNat Key.lastPlanResult 0).putNat Key.failingStep 0
    let d := d.setUpdate fun u => { u with run := none, lateStart := false, gridSeen := false, targets := [] }
    d.planTo 1

/-- One step of an installation (R463): the staged image goes into the slot of its type that is not active. -/
def installStep (d : Dev) (t i : Nat) : Dev :=
  match d.stagedImage i with
  | none => d
  | some x =>
    let k := !d.activeK t
    let d := d.setUpdate fun u => { u with targets := u.targets ++ [(t, k)] }
    (d.recordSlot t k x 1).clearStaging i 0

/-- INSTALLATION_DONE (R463): every staged image is in the inactive slot of its type, or the plan fails. -/
def installationDone (ok : Bool) (d : Dev) : Dev :=
  if !d.burlUp ∨ d.nat Key.planState ≠ 1 then d
  else
    let steps := planSteps d.nat
    let whole := steps.all fun s => decide (d.nat (Key.stagingState s.2) = 4) && (d.stagedImage s.2).isSome
    if !ok ∨ !whole then
      let (n, d) := d.draw
      d.planFailed (n % max 1 steps.length + 1)
    else
      (steps.foldl (fun (d : Dev) s => d.installStep s.1 s.2) d).planTo 2

/-- May a plan run now (R466)? -/
def planAllowed (d : Dev) : Bool := d.sequencerUp && decide (d.power.state = .inService) && decide (d.heart.sealBroken = 0)

/-- Has the instant of the plan been reached (R464)? Unknown time and a stale grid cycle number reach nothing. -/
def instantReached (d : Dev) : Bool :=
  match d.nat Key.planActivationMode with
  | 0 => true
  | 1 => !d.time.unknown && decide (d.nat Key.planActivationTime ≤ d.time.utcS)
  | _ => d.gridFresh && decide (d.nat Key.planActivationTime ≤ d.canopy.gcn)

/-- Has the moment of step 1's preparation been reached (R464)? -/
def preparationReached (d : Dev) : Bool :=
  let lead := d.nat Key.prepareLeadS
  match d.nat Key.planActivationMode with
  | 0 => true
  | 1 => !d.time.unknown && decide (d.nat Key.planActivationTime ≤ d.time.utcS + lead)
  | _ => d.gridFresh && decide (d.nat Key.planActivationTime ≤ d.canopy.gcn + lead * d.nat Key.nominalFrequency)

/-- Has the instant passed while the plan waits (R465)? -/
def planLate (d : Dev) : Bool :=
  match d.nat Key.planActivationMode with
  | 0 => false
  | 1 => d.instantReached
  | _ => d.gridFresh && decide (d.nat Key.planActivationTime < d.canopy.gcn)

/-- LatePolicy decides a late plan (R465). -/
def judgeLate (d : Dev) : Dev :=
  if d.nat Key.planState ≠ 2 ∨ d.update.lateStart ∨ !d.planAllowed then d
  else
    let d := d.setUpdate fun u => { u with gridSeen := u.gridSeen || d.gridFresh }
    if !d.planLate then d
    else if d.nat Key.planLatePolicy = 1 then d.planTo 6
    else (d.setUpdate fun u => { u with lateStart := true }).putFlag Key.executedLate true

/-! ### Units restarted and ports moved (17 R467, R475; 07 R186; 01 R16) -/

/-- A core restarts for a cause of 0x1002; the windows its code armed are abandoned (15 R408, R419), and the fabric sides of its crossings reset
(02 R57). -/
def restartCore (d : Dev) (c : CoreId) (cause : Nat) : Dev :=
  let d := ((d.abandonOwner c).fabricDown (d.coreCrossings c)).setCore c (.restarting cause)
  (d.putNat (Key.coreResetCause (coreNum c)) cause).putNat (Key.coreResetTime (coreNum c)) d.nowUs

/-- The partner of a port engine (01 R16). -/
def partner (e : Fin 4) : Fin 4 := match e with | 0 => 1 | 1 => 0 | 2 => 3 | _ => 2

/-- Ask for the migration of every port an engine serves to another engine. -/
def moveAway (d : Dev) (e f : Fin 4) : Dev :=
  allPorts.foldl (fun (d : Dev) (p : PortId) =>
    if d.nat (Key.servingEngine p) = e then d.setPort p fun q => { q with migrateTo := some f } else d) d

/-- Ask for the return of an engine's own two ports (01 R16). -/
def moveBack (d : Dev) (e : Fin 4) : Dev :=
  allPorts.foldl (fun (d : Dev) (p : PortId) =>
    if p.val / 2 = e.val ∧ d.nat (Key.servingEngine p) ≠ e then d.setPort p fun q => { q with migrateTo := some e }
    else if p.val / 2 = e.val then d.setPort p fun q => { q with migrateTo := none } else d) d

/-- Does an engine serve no port? -/
def servesNone (d : Dev) (e : Nat) : Bool := allPorts.all fun p => decide (d.nat (Key.servingEngine p) ≠ e)

def engineOf (n : Nat) : Fin 4 := ⟨n % 4, Nat.mod_lt _ (by decide)⟩

/-- The Canopy engine stops: the node is OFF and crossing 0x1A stale (17 R467, R475). -/
def canopyOut (d : Dev) : Dev :=
  (if d.canopy.node = .off then d else d.canopyLeave .off).setCrossing 0x1A fun x => { x with stale := true }

/-- The Canopy engine runs again: it rejoins as a returning node, listening first (01 R38; 17 R475; 14 R398). -/
def canopyBack (d : Dev) : Dev :=
  (d.coreUp .canopy).latchCanopy.setCanopy fun c => { c with node := if d.flag Key.canopyEnable then .listening else .off }

/-- The Sapwood roles swap within one tick: requests of that tick abort (R467; 05 R128; 15 R408). -/
def swapRoles (d : Dev) : Dev :=
  let d := d.abandonOwner d.activeSapwood
  { d with activeB := !d.activeB, dict := { d.dict with roleChanged := true } }

/-- A Firebreak channel runs again: with both, the self-tests have passed, and the hold goes by RestartPolicy (13 R362). -/
def channelBack (b : Bool) (d : Dev) : Dev :=
  let d := d.coreUp (if b then .firebreakB else .firebreakA)
  let d : Dev := { d with safety := if b then { d.safety with restartB := none } else { d.safety with restartA := none } }
  if d.running .firebreakA ∧ d.running .firebreakB ∧ !d.clocks.i7Lost ∧ !d.clocks.ref16Lost then
    let d : Dev := { d with safety := { d.safety with testsPassed := true } }
    let hold := decide (d.nat Key.restartPolicy = 0) && !d.safety.firebreakFault && decide (d.safety.outFaults = []) && !d.safety.clockFault
    ((if hold then d.releaseCause allPorts 0 0 else d).driveSafeOut).settle
  else d

/-- A Firebreak channel restarts for a step: from Clearing, no fault, but the hold and the commissioning begin again (R469, R470). -/
def restartChannel (b : Bool) (d : Dev) : Dev :=
  let d := d.restartCore (if b then .firebreakB else .firebreakA) 3
  let d : Dev := { d with safety := if b then { d.safety with missingB := 0 } else { d.safety with missingA := 0 } }
  let d := (d.holdAgain).putNat Key.computedCheck (safetyCheck d)
  ((unconfirm d).driveSafeOut).settle

/-! ### Steps (17 R467 to R472) -/

def newRun (d : Dev) (step : Nat) : PlanRun := ⟨step, 0, .preparing, false, d.nowMs, false, false, false, none, none, 0⟩

/-- Does a later step of the plan replace a Firebreak image too (R470)? -/
def laterFirebreak (d : Dev) (step : Nat) : Bool :=
  ((planSteps d.nat).drop (step + 1)).any fun s => decide (s.1 = 4 ∨ s.1 = 5)

/-- The deadline of a released unit (R467). -/
def readyDeadline (d : Dev) : Option Nat := some (d.nowMs + d.nat Key.readyTimeoutMs)

/-- The preparation of the unit the plan works on begins (table *Step sequences*). -/
def beginUnit (d : Dev) : Dev :=
  match d.update.run with
  | none => d
  | some r =>
    let t := (stepIn d.nat r.step).1
    let d := d.modRun fun r => { r with begun := true, since := d.nowMs }
    match t with
    | 0 =>
      let d := (d.restartCore d.standbySapwood 3).putNat (Key.serviceState 0) 3
      d.modRun fun r => { r with readyBy := d.readyDeadline }
    | 1 =>
      let e := engineOf r.unit
      (d.moveAway e (partner e)).putNat (Key.serviceState (1 + e)) 3
    | 4 => d.modRun fun r => { r with draining := true }
    | 5 => d.modRun fun r => { r with draining := true }
    | _ => d.modRun fun r => { r with prepared := true }

/-- PLAN_PREPARATION_START (R464, R465). -/
def planPreparationStart (d : Dev) : Dev :=
  let d := d.judgeLate
  if d.nat Key.planState ≠ 2 ∨ !d.planAllowed ∨ !(d.update.lateStart || d.preparationReached) then d
  else ((d.showRun (some (d.newRun 0))).planTo 3).beginUnit

/-- Is the preparation of the unit complete? -/
def unitPrepared (d : Dev) (r : PlanRun) : Bool :=
  match (stepIn d.nat r.step).1 with
  | 1 => d.servesNone r.unit
  | 4 => d.allClearing
  | 5 => d.allClearing
  | _ => r.prepared

/-- The slot a type of the plan was installed into. -/
def targetOf (d : Dev) (t : Nat) : Bool := ((d.update.targets.find? fun x => x.1 = t).map (·.2)).getD false

/-- The switch of the unit the plan works on (table *Step sequences*). -/
def switchUnit (d : Dev) (r : PlanRun) : Dev :=
  let t := (stepIn d.nat r.step).1
  let trial := some (d.nowMs + 1000 * d.nat Key.trialS)
  let d : Dev := if t = 1 ∧ r.unit ≠ 0 then d else d.activateSlot t (d.targetOf t)
  let d := d.modRun fun r => { r with phase := .switched, draining := false, readyBy := d.readyDeadline, switchedAt := d.nowMs }
  let d := d.planNote true
  match t with
  | 0 => (d.swapRoles.restartCore d.activeSapwood 3).modRun fun r => { r with trialTill := trial, unit := 1 }
  | 1 => d.restartCore (peCore r.unit) 3
  | 2 => (d.canopyOut.restartCore .canopy 3).putNat (Key.serviceState 5) 3
  | 4 => d.restartChannel false
  | 5 => d.restartChannel true
  | _ => (d.displayPfw.restartCore .display 3).putNat (Key.serviceState 6) 3

/-- STEP_SWITCH (R464, R467): at the instant for the first unit of step 1, else once its preparation is complete. -/
def stepSwitch (d : Dev) : Dev :=
  match d.update.run with
  | none => d
  | some r =>
    let due := decide (0 < r.step) || decide (0 < r.unit) || d.update.lateStart || d.instantReached
    if d.sequencerUp ∧ d.nat Key.planState = 3 ∧ r.begun ∧ r.phase = .preparing ∧ d.unitPrepared r ∧ due then d.switchUnit r else d

/-- UNIT_READY (R467, R470): the standby is prepared, or a switched unit goes on trial. -/
def unitReady (d : Dev) : Dev :=
  match d.update.run with
  | none => d
  | some r =>
    if !d.powered ∨ !d.burlUp ∨ r.readyBy.isNone then d
    else
      let t := (stepIn d.nat r.step).1
      let trial := some (d.nowMs + 1000 * d.nat Key.trialS)
      let d := d.modRun fun r => { r with readyBy := none }
      match r.phase with
      | .preparing => (d.coreUp d.standbySapwood).modRun fun r => { r with prepared := true }
      | .trial => d
      | .switched =>
        let d := d.modRun fun r => { r with phase := .trial }
        match t with
        | 0 => (d.coreUp d.standbySapwood).putNat (Key.serviceState 0) 0
        | 1 =>
          let e := engineOf r.unit
          let d := ((d.coreUp (peCore e)).putNat (Key.serviceState (1 + e)) 0).moveBack e
          d.modRun fun r => { r with trialTill := trial }
        | 2 =>
          (d.canopyBack.putNat (Key.serviceState 5) 0).modRun fun r => { r with trialTill := trial }
        | 4 =>
          let d := d.channelBack false
          if d.laterFirebreak r.step then d.modRun fun r => { r with trialTill := some d.nowMs } else d
        | 5 =>
          let d := d.channelBack true
          if d.laterFirebreak r.step then d.modRun fun r => { r with trialTill := some d.nowMs } else d
        | _ =>
          let d := (d.coreUp .display).putNat (Key.serviceState 6) 0
          let d := match d.activeImage 6 with | some x => d.loadWave x.2 x.1.imageVersion | none => d
          d.startDisplay.modRun fun r => { r with trialTill := trial }

/-- The way back of the units of a step that have switched, one at a time, in reverse (R471): an engine gives its ports to its partner, restarts
from the old slot and takes its ports again; of the Sapwood cores the standby restarts, the roles swap, and then the other restarts. -/
def wayBack (d : Dev) (t units : Nat) : List BackStep :=
  match t with
  | 0 =>
    let (a, b) := (d.standbySapwood, d.activeSapwood)
    [.restart a, .up a, .swap, .restart b, .up b]
  | 1 => (List.range (units + 1)).reverse.flatMap fun n =>
      let e := engineOf n
      if d.running (peCore e) then [.move e, .restart (peCore e), .up (peCore e)] else [.up (peCore e)]
  | _ => []

/-- The next action of the way back, when it can be done; the return of an engine's ports follows its restart (R476). -/
def backTick (d : Dev) : Dev :=
  match d.update.back with
  | [] => d
  | x :: r =>
    let done (d : Dev) : Dev := d.setUpdate fun u => { u with back := r }
    match x with
    | .move e =>
      let d := (d.moveAway e (partner e)).putNat (Key.serviceState (1 + e)) 3
      if d.servesNone e ∨ !d.running (peCore e) then done d else d
    | .restart c => done (if d.running c then d.restartCore c 3 else d)
    | .up c => if d.running c then done d else d
    | .swap => done d.swapRoles

/-- A failed trial (R471): the directory names the old slot active, and every unit of the step that has switched goes back to it. -/
def failTrial (d : Dev) : Dev :=
  match d.update.run with
  | none => d
  | some r =>
    let t := (stepIn d.nat r.step).1
    let d := d.activateSlot t (!d.targetOf t)
    let d := d.planFailed (r.step + 1)
    let d := d.setUpdate fun u => { u with back := d.wayBack t r.unit }
    match t with
    | 0 => d.putNat (Key.serviceState 0) 3
    | 1 => d
    | 2 => (d.canopyOut.restartCore .canopy 3).putNat (Key.serviceState 5) 2
    | 4 => d.restartChannel false
    | 5 => d.restartChannel true
    | _ => (d.displayPfw.restartCore .display 3).putNat (Key.serviceState 6) 2

/-- READY_TIMEOUT (R467, R471); before the switch it is the standby of a type 0 step that is not ready (R468). -/
def preparationFailed (d : Dev) : Dev :=
  match d.update.run with
  | none => d
  | some r =>
    let t := (stepIn d.nat r.step).1
    let d := d.planFailed (r.step + 1)
    match t with
    | 0 => (d.restartCore d.standbySapwood 3).putNat (Key.serviceState 0) 2
    | 1 =>
      let e := engineOf r.unit
      (d.putNat (Key.serviceState (1 + e)) 0).moveBack e
    | _ => d

def readyTimeout (d : Dev) : Dev :=
  match d.update.run with
  | none => d
  | some r =>
    if d.powered ∧ r.readyBy.any (fun t => t ≤ d.nowMs) then (if r.phase = .preparing then d.preparationFailed else d.failTrial) else d

/-- PREPARATION_TIMEOUT (R468): PrepareLeadS for step 1, 600 s for a later one. -/
def preparationTimeout (d : Dev) : Dev :=
  match d.update.run with
  | none => d
  | some r =>
    let t := (stepIn d.nat r.step).1
    let most := 1000 * (if r.step = 0 then d.nat Key.prepareLeadS else 600)
    if d.powered ∧ t ≤ 1 ∧ r.phase = .preparing ∧ r.begun ∧ !d.unitPrepared r ∧ r.since + most ≤ d.nowMs then d.preparationFailed else d

/-- A stop request for a port whose session is under way. -/
def stopOpen (d : Dev) (p : PortId) (n : Nat) : Dev := match (d.port p).session with
  | .identifying => d.placeStop p n
  | .authorised => d.placeStop p n
  | .closing => d.placeStop p n
  | .energised => d.placeStop p n
  | _ => d

/-- DRAIN_TIMEOUT (R469): the plan fails, or every remaining session is stopped; the end reason of that stop is a free value. -/
def drainTimeout (d : Dev) : Dev :=
  match d.update.run with
  | none => d
  | some r =>
    if !d.powered ∨ !r.draining ∨ r.drainStopped ∨ d.allClearing ∨ d.nowMs < r.since + 1000 * d.nat Key.drainTimeoutS then d
    else if d.nat Key.firebreakDrain = 0 then d.planFailed (r.step + 1)
    else
      let (n, d) := d.draw
      let d := allPorts.foldl (fun (d : Dev) p => d.stopOpen p (n % 12)) d
      (d.modRun fun r => { r with drainStopped := true }).settle

/-- The security counter of an image type rises to its active image's (R473). -/
def raiseVersion (d : Dev) (t : Nat) : Dev := match d.activeImage t with
  | some x => d.count (Fin.ofNat 18 (4 + t)) (Key.securityVersion t) (max (d.nat (Key.securityVersion t)) x.1.securityVersion)
  | none => d

/-- A ready slot below the counter of its type is superseded (R473). -/
def retireSlot (d : Dev) (t : Nat) (k : Bool) : Dev :=
  if d.nat (slotStateKey t k) = 1 ∧ d.nat (slotSecurityKey t k) < d.nat (Key.securityVersion t) then d.putNat (slotStateKey t k) 2 else d

/-- The plan is complete (R473): counters rise, and slots below them are superseded. -/
def planComplete (d : Dev) : Dev :=
  let types := (planSteps d.nat).map (·.1)
  let d := types.foldl (fun (d : Dev) t => d.raiseVersion t) d
  let d := types.foldl (fun (d : Dev) t => (d.retireSlot t false).retireSlot t true) d
  (d.planTo 4).showRun none |>.setUpdate fun u => { u with lateStart := false }

/-- TRIAL_END (R464, R471): the next engine, the next step, or the end of the plan. -/
def trialEnd (d : Dev) : Dev :=
  match d.update.run with
  | none => d
  | some r =>
    if !d.powered ∨ r.phase ≠ .trial ∨ !r.trialTill.any (fun t => t ≤ d.nowMs) then d
    else
      let t := (stepIn d.nat r.step).1
      let next : Option PlanRun :=
        if t = 1 ∧ r.unit < 3 then some { d.newRun r.step with unit := r.unit + 1 }
        else if r.step + 1 < (planSteps d.nat).length then some (d.newRun (r.step + 1))
        else none
      match next with
      | none => d.planComplete
      | some n => d.showRun (some n)

/-- FIREBREAK_TRIAL_TIMEOUT (R470): no commissioning within 24 h of the switch. -/
def firebreakTrialTimeout (d : Dev) : Dev :=
  match d.update.run with
  | none => d
  | some r =>
    let t := (stepIn d.nat r.step).1
    if d.powered ∧ (t = 4 ∨ t = 5) ∧ r.phase ≠ .preparing ∧ r.trialTill.isNone ∧ r.switchedAt + 86400000 ≤ d.nowMs then d.failTrial else d

/-- A unit failed, or Firebreak did, while a plan ran: a trial fails on the failure of its unit and on any fault of Firebreak or of an
output; a port engine also fails the plan while its partner is out for update (R471, R477). -/
def planHit (d : Dev) (hit : Option CoreId) : Dev :=
  match d.update.run with
  | none => d
  | some r =>
    let t := (stepIn d.nat r.step).1
    let onUnit : Bool := match hit with
      | none => true
      | some c =>
        match t with
        | 0 => decide (c = .sapwoodA ∨ c = .sapwoodB)
        | 1 => decide (c = peCore r.unit) || (decide (c = peCore (partner (engineOf r.unit))) && decide (r.phase = .switched))
        | 6 => decide (c = .display)
        | _ => decide (c = d.stepCore t r.unit)
    if r.phase ≠ .preparing ∧ onUnit then d.failTrial else d

/-- What the plan does at a dictionary tick: a late instant, a preparation that waited for IN_SERVICE, and the trial of a Firebreak step,
which runs from its commissioning (R465, R466, R470). -/
def planTick (d : Dev) : Dev :=
  let d := d.judgeLate.backTick
  match d.update.run with
  | none => d
  | some r =>
    let t := (stepIn d.nat r.step).1
    if !r.begun then (if d.planAllowed then d.beginUnit else d)
    else if (t = 4 ∨ t = 5) ∧ r.phase = .trial ∧ !d.laterFirebreak r.step then
      if d.nat Key.commissionState ≠ 2 then d.modRun fun r => { r with trialTill := none }
      else if r.trialTill.isNone then d.modRun fun r => { r with trialTill := some (d.nowMs + 1000 * d.nat Key.trialS) }
      else d
    else d

/-! ### Units out of service (17 R475, R476) -/

/-- Why a unit may not be taken out (table *Units, out-of-service conditions and return*). -/
def takeOutFault (d : Dev) (u : Nat) : Option Nat :=
  if d.planUses u then some Code.locked
  else if 1 ≤ u ∧ u ≤ 4 then
    let e := partner (engineOf (u - 1))
    if d.unitIn (1 + e) ∧ d.running (peCore e) then none else some Code.outOfService
  else if (0x08 ≤ u ∧ u ≤ 0x0F) ∨ (0x10 ≤ u ∧ u ≤ 0x13) then
    let p : PortId := ⟨u % 8, Nat.mod_lt _ (by decide)⟩
    match (d.port p).session with
    | .idle => none | .ended => none | .faulted => none
    | _ => some Code.notClearing
  else if u = 0x14 then
    if allPorts.any fun p => d.isDc p && decide ((d.port p).session = .energised) then some Code.notClearing else none
  else if 0x18 ≤ u then
    if d.clearing ⟨u % 8, Nat.mod_lt _ (by decide)⟩ then none else some Code.notClearing
  else none

/-- Set a CAN controller's state by its number. -/
def canTo (d : Dev) (n : Nat) (c : CanState) : Dev :=
  { d with hosts := { d.hosts with can := if h : n < 6 then d.hosts.can.set n c else d.hosts.can } }

/-- The channels a port's mode uses. -/
def portChans (d : Dev) (p : PortId) : List (Fin 68) := (usedSlots (d.mode p)).map fun k => chanOf p k

/-- Take a unit out of service. -/
def takeOut (d : Dev) (u : Nat) : Dev :=
  let d := ((d.putNat (Key.serviceState u) 1).putNat (Key.outSince u) d.nowUs).bump (Key.outCount u)
  if u = 0 then d.setCore d.standbySapwood .out
  else if u ≤ 4 then
    let e := engineOf (u - 1)
    let d := d.moveAway e (partner e)
    if d.servesNone e then d.setCore (peCore e) .out else d
  else if u = 5 then d.canopyOut.setCore .canopy .out
  else if u = 6 then d.displayPfw.setCore .display .out
  else if u ≤ 0x0F then d.slacOff ⟨u % 8, Nat.mod_lt _ (by decide)⟩
  else if u ≤ 0x15 then d.canTo (u - 0x10) .off
  else
    let p : PortId := ⟨u % 8, Nat.mod_lt _ (by decide)⟩
    ((d.portChans p).foldl (fun (d : Dev) c => d.failChan c 5) d).settle

/-- Return a unit: cores restart from their active slot, buses integrate, channels discard two periods. -/
def returnUnit (d : Dev) (u : Nat) : Dev :=
  let d := d.putNat (Key.serviceState u) 2
  let restart (c : CoreId) : Dev := if d.running c then d.putNat (Key.serviceState u) 0 else d.restartCore c 4
  if u = 0 then restart d.standbySapwood
  else if u ≤ 4 then
    let e := engineOf (u - 1)
    if d.running (peCore e) then (d.putNat (Key.serviceState u) 0).moveBack e else d.restartCore (peCore e) 4
  else if u = 5 then restart .canopy
  else if u = 6 then restart .display
  else if u ≤ 0x0F then
    (d.setPort ⟨u % 8, Nat.mod_lt _ (by decide)⟩ fun q => { q with slac := .restarted }).putNat (Key.serviceState u) 0
  else if u ≤ 0x13 then d.putNat (Key.serviceState u) 0
  else if u = 0x14 then
    let d : Dev := { d with
      modules := d.modules.map fun (m : Module) => { m with configAt := none } }
    d.canTo 4 .integrating
  else if u = 0x15 then d.canTo 5 .integrating
  else
    let p : PortId := ⟨u % 8, Nat.mod_lt _ (by decide)⟩
    (d.portChans p).foldl (fun (d : Dev) c => d.unfailChan c 5) d

/-- At a dictionary tick a port engine that has given its ports away goes out, and buses and channels that have returned are in
service (R475, R476). -/
def unitsTick (d : Dev) : Dev :=
  let d := (List.finRange 4).foldl (fun (d : Dev) (e : Fin 4) =>
    if d.nat (Key.serviceState (1 + e)) = 1 ∧ d.running (peCore e) ∧ d.servesNone e then d.setCore (peCore e) .out else d) d
  let d := [4, 5].foldl (fun (d : Dev) (n : Nat) =>
    if d.nat (Key.serviceState (0x10 + n)) = 2 ∧ (d.hosts.can.toList.getD n .off = .errorActive ∨ d.hosts.can.toList.getD n .off = .errorPassive)
    then d.putNat (Key.serviceState (0x10 + n)) 0 else d) d
  allPorts.foldl (fun (d : Dev) (p : PortId) =>
    if d.nat (Key.serviceState (0x18 + p)) = 2 ∧ d.channelsReady p then d.putNat (Key.serviceState (0x18 + p)) 0 else d) d

end Dev

/-- Run a change of the device that may release cores: Burl loads their images first (01 R15). -/
def State.onCores (s : State) (f : Dev → Dev) : Out3 State := .next { s with dev := f s.dev, mem := s.dev.coresLoaded (f s.dev) s.mem }

/-! ### The commands -/

/-- IMAGE_HEADER (R458): `ImageHeader` is 8,368 bytes. -/
def imageHeaderServe (i : Fin 8) (h : ImageHdr) (a : Ack) (d : Dev) : Dev :=
  let codes := (d.ownerFault a.slot).toList ++ (if 8368 < h.length then [Code.lengthLong] else []) ++
    (if h.length < 8368 then [Code.lengthShort] else []) ++ d.writeBlocked.toList ++ (if d.planNames i then [Code.locked] else [])
  match firstCode codes with
  | some c => d.abort a c
  | none => ((d.clearStaging i 1).setStaged i (some (h, []))).ok a

def execImageHeader (m : HostMsg) (i : Fin 8) (h : ImageHdr) (s : State) : Out3 State :=
  s.onDev (hostRequest m (Key.imageHeader i) fun d => imageHeaderServe i h (d.ackOf m (Key.imageHeader i)) d)

def execHeaderCheckDone (i : Fin 8) (sigOk : Bool) (s : State) : Out3 State := s.onDev (Dev.headerCheckDone i sigOk)

/-- IMAGE_CHUNK (R459). -/
def imageChunkServe (i : Fin 8) (data : Bytes) (a : Ack) (d : Dev) : Dev :=
  match d.ownerFault a.slot with
  | some c => d.abort a c
  | none => d.imageChunk i data a

def execImageChunk (m : HostMsg) (i : Fin 8) (data : Bytes) (s : State) : Out3 State :=
  s.onDev (hostRequest m (Key.imageChunk i) fun d => imageChunkServe i data (d.ackOf m (Key.imageChunk i)) d)

def execPayloadHashDone (i : Fin 8) (ok : Bool) (s : State) : Out3 State := s.onDev (Dev.payloadHashDone i ok)
def execInstallationDone (ok : Bool) (s : State) : Out3 State := s.onDev (Dev.installationDone ok)

/-- CANCEL_PLAN (R463): ends ARMED; in every other state it changes nothing (log entry 59). -/
def cancelPlanServe (a : Ack) (_ : Val) (d : Dev) : Dev :=
    (if d.nat Key.planState = 2 then (d.planTo 0).setUpdate fun u => { u with lateStart := false } else d).ok a

def execCancelPlan (m : HostMsg) (data : Bytes) (s : State) : Out3 State := s.onDev (cmdWrite m Key.cancelPlan false data cancelPlanServe)

def execPlanPreparationStart (s : State) : Out3 State := s.onDev Dev.planPreparationStart
def execStepSwitch (s : State) : Out3 State := s.onDev Dev.stepSwitch
def execUnitReady (s : State) : Out3 State := s.onCores Dev.unitReady
def execReadyTimeout (s : State) : Out3 State := s.onDev Dev.readyTimeout
def execPreparationTimeout (s : State) : Out3 State := s.onDev Dev.preparationTimeout
def execDrainTimeout (s : State) : Out3 State := s.onDev Dev.drainTimeout
def execTrialEnd (s : State) : Out3 State := s.onDev Dev.trialEnd
def execFirebreakTrialTimeout (s : State) : Out3 State := s.onDev Dev.firebreakTrialTimeout

/-- SERVICE_RESTART (R474): logged in the general logbook, or by Heartwood as event 0x0104, before step 1. -/
def serviceRestartServe (a : Ack) (v : Val) (d : Dev) : Dev :=
    if d.nat Key.planState = 1 ∨ d.nat Key.planState = 3 then d.abort a Code.locked
    else if v = .int 2 ∧ !d.heartwoodTakes then d.abort a Code.outOfService
    else
      let d := d.ok a
      let d := if v = .int 2 then d.legal 0x0104 0xFF (leBytes 1 a.slot) else d.general (.serviceRestart a.slot)
      d.beginShutdown 4

def execServiceRestart (m : HostMsg) (data : Bytes) (s : State) : Out3 State := s.onDev (cmdWrite m Key.serviceRestart false data serviceRestartServe)

/-- TAKE_OUT (R475). -/
def takeOutServe (u : Fin 32) (a : Ack) (_ : Val) (d : Dev) : Dev :=
    if d.planUses u then d.abort a Code.locked
    else if d.nat (Key.serviceState u) = 1 then d.ok a
    else match d.takeOutFault u with
      | some c => d.abort a c
      | none => (d.takeOut u).ok a

def execTakeOut (m : HostMsg) (u : Fin 32) (data : Bytes) (s : State) : Out3 State := s.onDev (cmdWrite m (Key.takeOut u) false data (takeOutServe u))

/-- RETURN (R475). -/
def returnServe (u : Fin 32) (a : Ack) (_ : Val) (d : Dev) : Dev :=
    if d.planUses u then d.abort a Code.locked
    else if d.nat (Key.serviceState u) ≠ 1 then d.ok a
    else (d.returnUnit u).ok a

def execReturn (m : HostMsg) (u : Fin 32) (data : Bytes) (s : State) : Out3 State := s.onDev (cmdWrite m (Key.returnUnit u) false data (returnServe u))

end Sys2Proof.Machine
end

