-- ==== Sys2Proof/Machine/Boot.lean ====
section
/-! DEFINITION. The start: BOOT_START runs steps 1 to 10 of the boot sequence, BOOT_COMPLETE is step 11 (03 R78 to R82, R86 to R88; 09 R236
to R240; 10 R273; 11 R289; 16 R427, R431; 17 R472). The steps of BOOT_START are one command: no other agent acts on what they restore
before step 10 (log entry 60). -/

namespace Sys2Proof.Machine
namespace Dev

/-- Burl finds some fuses of step 4 of Seal blown: it blows the rest at once, and then sets the MRAM write-lock latch (16 R450). -/
def completeFuses (d : Dev) : Dev :=
  if d.burl.sealFuses = 0 ∨ d.lifecycle = 3 then d
  else ((d.setBurl fun b => { b with sealFuses := 3 }).putNat Key.lifecycleState 3).setHeart fun h => { h with lockLatch := true }

/-! ### Step 2: Burl (03 R78, R86; 16 R427, R431) -/

/-- Known-answer tests and the wrapping key: a failure keeps Burl out of service; the event has no code of its own. -/
def bootBurl (f : BootFacts) (d : Dev) : Dev :=
  let d := d.putNat Key.selfTestResult f.kats.toNat
  if f.kats = 0 then d.coreUp .burl
  else
    let (x, d) := d.draw
    (d.setCore .burl .out).legal (x % 0x10000) 0xFF (leBytes 1 f.kats.toNat)

/-- Inactive halves are wiped, and an interrupted step 4 of Seal is completed (16 R450); an active half that does not verify leaves its slot empty, and is a tamper alarm of source 0x0F. -/
def bootKeys (f : BootFacts) (d : Dev) : Dev :=
  let d := if d.burlUp then d.wipeInactive.completeFuses else d
  let bad := f.badHalves.filter fun n => (d.keySlot n).active.isSome
  let d := bad.foldl (fun (d : Dev) n =>
    let d := d.setBurl fun b => { b with slots := vmod b.slots n fun k => { k with a := none, b := none } }
    if 0x30 ≤ n.val then d.putFlag (Key.keyPresent (n.val - 0x30)) false else d) d
  if bad = [] then d else (d.setAlarm 0x0F true).respond 0x0F 0

/-- A tamper entry in its 8 bytes (03, table *VBAT tamper buffer entry*). -/
def TamperEntry.bytes (e : TamperEntry) : Bytes :=
  leBytes 8 (e.second * 2 ^ 32 + e.sub * 2 ^ 17 + e.source * 2 ^ 12 + e.flags * 2 ^ 8)

/-- The tamper buffer is copied to the mirror, logged with its original times, and cleared; overflow and loss of VBAT are sources of
their own (03 R86 to R88; 16, table *Tamper sources*). -/
def bootBuffer (d : Dev) : Dev :=
  let l := d.power.buffer
  let overflow := d.power.bufferOverflow
  let image := (l.flatMap TamperEntry.bytes ++ List.replicate (8 * (16 - l.length)) (0 : Byte)) ++ leBytes 1 (if overflow then 1 else 0) ++
    leBytes 1 d.power.bufferDropped ++ List.replicate 14 (0 : Byte)
  let d := d.putBytes Key.tamperMirror image
  let d := l.foldl (fun (d : Dev) e =>
    let us := e.second * 1000000 + e.sub * 1000000 / 32768
    let d := d.legalAt us 0x0603 (e.flags % 2 + 8) 0xFF
      (leBytes 1 e.source ++ leBytes 1 (d.level e.source) ++ leBytes 1 1 ++ leBytes 4 0 ++ leBytes 1 (e.flags / 2 % 2))
    let d := (d.count 17 Key.tamperEventCount (d.nat Key.tamperEventCount + 1)).bump (Key.sourceEventCount (e.source - 1))
    (d.putNat Key.tamperLastSource e.source).putNat Key.tamperLastTime us) d
  let d : Dev := { d with power := { d.power with
    mirror := l, buffer := [], bufferOverflow := false, bufferDropped := 0, startAlarm := d.power.startAlarm.or ((l.head?).map (·.source)) } }
  if overflow then d.respond 0x0E 0 else d

/-- The VBAT domain was lost (03 R87): UTC goes on from the newest valid ring, unknown, and the crystal starts cold (R79). DESIGN CHOICE (log
entry 70): without a valid ring UTC goes on from what I6 holds. -/
def bootVbat (d : Dev) (base : Option Ring) : Dev :=
  if !d.power.vbatLost then d
  else
    let us := match base with | some r => r.time | none => d.nowUs
    let d : Dev := { d with
      power := { d.power with vbatLost := false }
      clocks := { d.clocks with i6Cold := true }
      time := { d.time with unknown := true } }
    ((d.setUtc us).legal 0x0105 0xFF []).respond 0x0D 0

/-! ### Step 3: the seal (03 R80; 12 R307, R308; 08 R215) -/

/-- Does the calibration check pass: the recomputed value is the one stored, once one has been, and the partition reads back (08 R215)? -/
def calibrationOk (f : BootFacts) (d : Dev) : Bool :=
  f.calCheckOk && (match d.obj.find Key.calibrationCheck with | some v => decide (v = .int (calibrationValue d : Nat)) | none => true)

/-- The checks of step 3. -/
def bootSeal (f : BootFacts) (d : Dev) : Dev :=
  let d := (d.coreUp .heartwood).setHeart fun h => { h with lockLatch := h.lockLatch || decide (d.lifecycle = 3) }
  if d.lifecycle = 3 then
    let bits := (if f.sealCheckOk then 0 else 1) + (if f.sealHashOk then 0 else 2) + (if (calibrationOk f d) then 0 else 4)
    let d := d.setHeart fun h => { h with sealBroken := bits }
    if bits = 0 then d else d.legal 0x0602 0xFF (leBytes 1 bits)
  else
    let d := d.setHeart fun h => { h with calFailed := !(calibrationOk f d) }
    if (calibrationOk f d) then d else d.legal 0x0307 0xFF (leBytes 4 (calibrationValue d) ++ leBytes 4 (d.nat Key.calibrationCheck))

/-! ### Step 4: the restore (09 R236 to R240; 10 R273) -/

/-- The valid rings. -/
def validRings (d : Dev) : List Ring := d.energy.slots.toList.filterMap fun x => match x with | some (true, r) => some r | _ => none

/-- The valid ring with the highest CommitNumber. -/
def baseRing (d : Dev) : Option Ring :=
  d.validRings.foldl (fun (m : Option Ring) r => match m with
    | none => some r
    | some b => if b.number < r.number then some r else some b) none

/-- The ring the registers of a restart ring come from, following BaseCommit. -/
def originRing (l : List Ring) : Nat → Ring → Ring
  | 0, r => r
  | n + 1, r => if r.kind ≠ 2 then r else match l.find? fun x => decide (x.number = r.base) with | some b => originRing l n b | none => r

/-- The time of the newest valid final ring, 0 where there is none. -/
def finalTime (d : Dev) : Nat :=
  match d.validRings.foldl (fun (m : Option Ring) r => if r.kind ≠ 1 then m else match m with
    | none => some r
    | some b => if b.number < r.number then some r else some b) none with
  | some r => r.time
  | none => 0

/-- "Power up", and the rail that reset the device (12 events 0x0101, 0x0103). -/
def logPowerUp (d : Dev) : Dev :=
  let d := d.legal 0x0101 0xFF (leBytes 8 d.finalTime ++ leBytes 1 (d.nat Key.resetCause))
  match d.power.tripped with
  | some r =>
    let d := (d.legal 0x0103 0xFF (leBytes 1 (if r = 0 then 1 else 2))).general (.railTrip r)
    { d with power := { d.power with tripped := none } }
  | none => d

/-- Profile and demand intervals that contain the power-up are flagged "first after power-up" (10 R273). -/
def firstFlags (d : Dev) : Dev :=
  d.setBill fun b => { b with profileFlags := setBit b.profileFlags 3 true, flags := setBit b.flags 3 true }

/-- The restart ring (09 R236): registers and period records as restored. -/
def writeRestart (d : Dev) (base : Nat) : Dev :=
  let now := d.nowUs
  let r := { d.buildRing [] 2 now base with
    ents := d.energy.live }
  (d.writeRing r true).2.setTariff fun t => { t with shown := [] }

/-- The boundaries of the outage (10 R273, items 1 to 4): the waiting set, the pending periods, and the run since HighWater. -/
def bootBoundaries (d : Dev) : Dev :=
  let sets := d.tariff.sets.filter fun s => s.stamp ≤ d.energy.bill.highWater
  let d := d.setTariff fun t => { t with sets := [] }
  let d := sets.foldl (fun (d : Dev) s => d.runSet { s with flags := s.flags ||| 4 }) d
  let d := d.addPending
  let d : Dev := if d.time.unknown ∨ d.time.utcS ≤ d.energy.bill.highWater then d
    else d.runSkipped d.energy.bill.highWater d.time.utcS 2 true d.energy.live (d.energy.number + 1)
  d.firstFlags

/-- Heartwood restores its registers from the base ring, completes the boundaries, and then writes "power up" and, after a regular ring, the
uncommitted interval (03, boot step 4). -/
def restoreFrom (d : Dev) (base : Ring) : Dev :=
  let d := d.setEnergy fun n => { n with live := base.ents, bill := base.bill, number := base.number, newest := some base }
  let d := d.bootBoundaries.logPowerUp
  let d : Dev := if base.kind = 0 then
      let d := d.setEnergy fun n => { n with live := n.live.map fun (x : Entity) => if x.state.testBit 0 then { x with state := x.state ||| 3 } else x }
      d.uncommitted base (boundsOf base) 0
    else d
  d.writeRestart base.number

/-- No ring verifies, before SEALED: every register starts at 0. -/
def initialiseRings (d : Dev) : Dev :=
  let now := d.time.utcS
  let d := d.setEnergy fun n => { n with
    live := Vector.replicate 9 Entity.zero, number := 0
    bill := { Billing.zero with
      highWater := now, start := now, profileStart := now, subStart := now * 1000000 } }
  let d := (d.legal 0x0204 0xFF []).firstFlags
  let d := if d.time.unknown then d
    else (d.setBill fun b => { b with tariff := d.tariffAt (d.localOf now) }).refreshDay (d.localOf now)
  d.writeRestart 0

/-- Shadows that the reset discarded are logged (05 R126). -/
def logLost (d : Dev) : Dev :=
  let l := d.dict.lostGroups
  let d := l.foldl (fun (d : Dev) (g, n) => (d.bump Key.discardCount).general (.stagedDiscarded g n 3)) d
  { d with dict := { d.dict with lostGroups := [] } }

/-- Step 4. -/
def bootRings (d : Dev) (base : Option Ring) : Dev :=
  let d := d.putNat Key.validRingsAtStart d.validRings.length
  let d := match base with
    | some r => d.restoreFrom r
    | none =>
      let d := d.logPowerUp
      if d.lifecycle = 3 then (d.setEnergy fun n => { n with lost := true }).legal 0x0205 0xFF []
      else d.initialiseRings
  d.logLost

/-! ### Steps 5 to 7 -/

/-- Steps 5 and 6: acquisition starts with every channel discarding two periods (08 R208). -/
def bootMetro (d : Dev) : Dev :=
  let d := (List.finRange 9).foldl (fun (d : Dev) (e : EntityId) => d.latchEntity e) d
  let d : Dev := { d with metro := { d.metro with running := true } }
  d.restartChannels

/-- Does a slot hold an image that verifies and may be loaded (16 R427; 17 R473)? -/
def imageLoads (f : BootFacts) (d : Dev) (t : Fin 7) (k : Bool) : Bool :=
  decide (f.kats = 0) && (if k then f.imageOk[t].2 else f.imageOk[t].1) && decide (d.nat (slotStateKey t k) ≠ 2)

/-- Use a slot: an image the unit was shipped with is its own (log entry 43). -/
def useSlot (d : Dev) (t : Nat) (k : Bool) : Dev :=
  let d := match d.imageIn t k with
    | some _ => d
    | none => d.recordSlot t k (Config.shippedImage t (if k then 1 else 0), Config.shippedPayload t (if k then 1 else 0)) 1
  d.activateSlot t k

/-- Burl, in service, verifies the header of the image in a slot under its signer's key (17 R456, R472; 16 R453). -/
def verifyUse (f : BootFacts) (d : Dev) (t : Fin 7) (k : Bool) : Dev :=
  if f.kats ≠ 0 then d
  else d.useKey (signerOf (match d.imageIn t k with | some x => x.1 | none => Config.shippedImage t (if k then 1 else 0)))

/-- Load the image of a type: the active slot, or for types other than Firebreak's the other one (03 R81; 17 R472, R473). Answers
whether one was loaded. -/
def loadImage (f : BootFacts) (t : Fin 7) (d : Dev) : Bool × Dev :=
  let k := d.activeK t
  let d := d.verifyUse f t k
  if d.imageLoads f t k then (true, d.useSlot t k)
  else
    let d := (d.general (.imageFailed t (if k then 1 else 0))).putNat (slotStateKey t k) 3
    let d : Dev := if d.nat Key.planState = 3 ∧ t.val ≠ 4 ∧ t.val ≠ 5 ∧ (stepIn d.nat (d.nat Key.currentStep - 1)).1 = t.val then
        d.planFailed (d.nat Key.currentStep) else d
    if t.val = 4 ∨ t.val = 5 then (false, d)
    else
    let d := d.verifyUse f t (!k)
    if !d.imageLoads f t (!k) then (false, d)
    else (true, (d.useSlot t (!k)).bump (Key.loadFailCount t))

/-- Load the image of a type and release its cores. -/
def release (f : BootFacts) (t : Fin 7) (cores : List CoreId) (d : Dev) : Dev :=
  let r := d.loadImage f t
  if r.1 then cores.foldl (fun (d : Dev) c => d.coreUp c) r.2 else r.2

/-- The commissioning state at start-up (13 R365). -/
def bootCommission (d : Dev) : Dev :=
  let c := safetyCheck d
  let d := d.putNat Key.computedCheck c
  if c = d.nat Key.confirmedCheck ∧ d.running .firebreakA ∧ d.running .firebreakB then
    (d.putNat Key.commissionState 2).releaseCause allPorts 1 c
  else unconfirm d

/-- Step 7: Firebreak, its tests at start-up, and the hold (13 R340, R362, R367). -/
def bootFirebreak (f : BootFacts) (d : Dev) : Dev :=
  let d := release f 5 [.firebreakB] (release f 4 [.firebreakA] d)
  let d := ({ d with safety := { d.safety with testsPassed := false } } : Dev).raiseCause allPorts 0 0
  let d := allPorts.foldl (fun (d : Dev) (p : PortId) => imdLoopback p f.imdLoopOk[p] (rcdResult p f.rcdReading[p] d)) d
  d.bootCommission

/-! ### Steps 8 and 9 -/

/-- The PHY of ETH0 is found and told its speed (06 R144); its link is what the lines give within that speed. -/
def searchPhy (d : Dev) (ids : List (Nat × Nat)) : Dev :=
  let good (x : Nat × Nat) : Bool := decide (x.1 < 32 ∧ x.2 ≠ 0 ∧ x.2 ≠ 0xFFFFFFFF)
  let want := d.nat Key.eth0PhyAddress
  let found := if want < 32 then (if ids.any fun x => good x && decide (x.1 = want) then want else 0xFF)
    else (ids.filter good).foldl (fun m x => min m x.1) 0xFF
  let (n, d) := d.draw
  let speed := d.nat Key.eth0Speed
  let d := d.putNat Key.eth0PhyFound found
  if found = 0xFF then d.putNat Key.eth0Link 0
  else
    let d := if d.linkLive .eth0 then d.say (.mdio found speed) else d
    d.putNat Key.eth0Link (if speed = 0 then n % 3 else if n % 2 = 0 then 0 else speed)

/-- What ETH1 does on its segment (06 R143): CSMA/CD without a node ID, PLCA as coordinator with node ID 0, else PLCA as far as the coordinator's
beacon is heard, which is free. -/
def plcaStart (d : Dev) : Dev :=
  let id := d.nat Key.eth1PlcaNodeId
  if 8 ≤ id then d.putNat Key.eth1PlcaState 0
  else if id = 0 then d.putNat Key.eth1PlcaState 1
  else
    let (n, d) := d.draw
    d.putNat Key.eth1PlcaState (1 + n % 2)

/-- Step 8: the other images and the units they run. -/
def bootImages (f : BootFacts) (d : Dev) : Dev :=
  let d := release f 0 [.sapwoodA, .sapwoodB] d
  let d := release f 1 [.pe0, .pe1, .pe2, .pe3] d
  let d := release f 2 [.canopy] d
  let d := release f 3 [.display] d
  let ok := (d.loadImage f 6).1
  let d := (d.loadImage f 6).2
  let d : Dev := if ok then match d.activeImage 6 with | some x => d.loadWave x.2 x.1.imageVersion | none => d else d
  let d := (d.canTo 4 .integrating).canTo 5 (if d.flag Key.can5Enable then .integrating else .off)
  let d := d.searchPhy f.phyIds
  let d := d.plcaStart
  if d.running .canopy then d.canopyBack else d

/-! ### Step 10 (11 R289; 12 R318, R319) -/

/-- A session that was open when power failed is costed from the restored registers and stored. -/
def settleOpen (d : Dev) (base : Ring) (number : Nat) (part : RecordOpening) : Dev :=
  let origin := originRing d.validRings 32 base
  let stop := if origin.kind = 1 then origin.event else origin.time
  let x := d.live (portEntity part.port)
  let flags := setBit (setBit (setBit 0 0 (x.state.testBit 1)) 2 (decide (origin.kind = 0))) 3 d.time.unknown
  let slot := match d.findNumber part.account with | some (s, _) => s | none => 0xFFFFFFFF
  let ring := match d.energy.newest with | some r => r | none => base
  (d.settleSession slot number part stop x.qf flags ring).putNat (Key.lastEndReason part.port) 4

/-- Step 10: every record still open is settled, in order of number; records not signed go to Burl. -/
def bootSessions (d : Dev) (base : Option Ring) : Dev :=
  let byNumber (l : List (Nat × RecordOpening)) : List (Nat × RecordOpening) := l.mergeSort fun a b => decide (a.1 ≤ b.1)
  let unsigned := (d.heart.records.filterMap fun (x : Nat × RecordSlot) => match x.2 with
    | .stored _ b => some b.number
    | _ => none).mergeSort
  let opened := byNumber (d.heart.records.filterMap fun (x : Nat × RecordSlot) => match x.2 with
    | .opened n p => some (n, p)
    | _ => none)
  let d := d.setHeart fun h => { h with signQueue := unsigned }
  let d := match base with
    | some r => if d.energy.lost then d else opened.foldl (fun (d : Dev) (n, p) => d.settleOpen r n p) d
    | none => d
  let d := d.setEnergy fun n => { n with live := n.live.map fun (x : Entity) => { x with state := x.state &&& (0xFFFFFFFC : Nat) } }
  d.startSigning.writeItems

/-! ### The commands -/

/-- A plan that was running restarts its step from its preparation; its instant is not applied again (17 R472). -/
def bootPlan (d : Dev) : Dev :=
  match d.update.run with
  | some r =>
    if d.nat Key.planState ≠ 3 then d.showRun none
    else (d.showRun (some (d.newRun r.step))).setUpdate fun u => { u with lateStart := true }
  | none => d

/-- BOOT_START: steps 1 to 10. -/
def bootStart (d : Dev) (f : BootFacts) : Dev :=
  if d.power.state ≠ .starting ∨ d.power.bootStep ≠ 0 then d
  else
    let base := d.baseRing
    let d := d.bump Key.powerUpCount
    let d : Dev := if d.power.vbatNote then ({ d with power := { d.power with vbatNote := false } } : Dev).general .vbatLow else d
    let d := bootKeys f (bootBurl f d)
    let d := d.bootBuffer.bootVbat base
    let d := bootSeal f d
    let d := (d.bootRings base).bootMetro
    let d := bootFirebreak f d
    let d := (bootImages f d).bootPlan
    let d : Dev := { d with power := { d.power with bootStep := 9 } }
    let d : Dev := if d.running .display then d.startDisplay else d
    let d := d.bootSessions base
    ({ d with power := { d.power with bootStep := 10 } } : Dev).driveSafeOut.settle

/-- The start tests of the firebreaks: passed, or a fault of both. -/
def safetyTests (d : Dev) (testsOk : Bool) : Dev :=
  if d.running .firebreakA ∧ d.running .firebreakB then
    if testsOk then
      let d : Dev := { d with safety := { d.safety with testsPassed := true } }
      if d.nat Key.restartPolicy = 0 then d.releaseCause allPorts 0 0 else d
    else d.firebreakFault true true 0
  else d

/-- A hold kept over the restart, or one whose alarm stands at the start, is entered. -/
def startHold (d : Dev) : Dev :=
  if d.flag Key.holdActive then d.enterHold (d.nat Key.holdCause)
  else match d.power.startAlarm with
    | some s => d.enterHold s
    | none => d

/-- BOOT_COMPLETE: step 11, with the first passing cross-check (02 R50) and Firebreak's self-tests. With a crystal that starts cold, or is
lost, it waits for the CROSS_CHECK that passes over a complete I6 second (03 R79). -/
def bootComplete (testsOk : Bool) (d : Dev) : Dev :=
  if d.power.state ≠ .starting ∨ d.power.bootStep ≠ 10 ∨ ((d.clocks.i6Cold ∨ d.clocks.xt32Lost) ∧ !d.clocks.checked) then d
  else
    let d : Dev := { d with
      clocks := { d.clocks with checked := true }
      power := { d.power with bootStep := 11, pfwN := false, state := .inService } }
    ((d.safetyTests testsOk).startHold).driveSafeOut.settle

end Dev

/-- BOOT_START: the images and the waveform data are loaded (01 R15), and reads see the device as it has started. -/
def execBootStart (f : BootFacts) (s : State) : Out3 State :=
  .next { s with dev := s.dev.bootStart f, seen := s.dev.bootStart f, mem := s.dev.coresLoaded (s.dev.bootStart f) s.mem }

def execBootComplete (ok : Bool) (s : State) : Out3 State := s.onDev (Dev.bootComplete ok)

end Sys2Proof.Machine
end

