-- ==== Sys2Proof/Machine/Faults.lean ====
section
/-! DEFINITION. Faults inside the device and their end: WATCHDOG_EXPIRY, SRAM_UNCORRECTABLE_ERROR, CORE_RESTART_DONE, FIREBREAK_FAULT,
OUTPUT_FAULT, OUTPUT_TEST_PULSE (01 R38; 09 R239; 11 R289; 13 R329, R332, R362; 17 R471, R475 to R477). -/

namespace Sys2Proof.Machine
namespace Dev

/-! ### Port engines (01 R16, R38; 17 R477) -/

/-- A port no engine serves goes to the first running engine of its pair, once it is clearing and its contactors are open. -/
def rescuePort (d : Dev) (p : PortId) : Dev :=
  match [engineOf (p.val / 2), partner (engineOf (p.val / 2))].find? fun e => d.running (peCore e) with
  | some e =>
    if !d.served p ∧ d.clearing p ∧ !(d.port p).opened then
      ((d.setPort p fun q => { q with migrateTo := none }).putNat (Key.servingEngine p) e).bump (Key.migrationCount p)
    else d
  | none => d

/-- A port in Clearing without an open session whose engine does not run moves to an engine of the pair that does. -/
def rescuePorts (d : Dev) : Dev :=
  allPorts.foldl (fun (d : Dev) (p : PortId) => d.rescuePort p) d

/-- A port engine failed: its ports without a live session move at once; the others ramp down with end reason 7 and move then. -/
def engineLost (d : Dev) (e : Fin 4) : Dev :=
  let d := allPorts.foldl (fun (d : Dev) (p : PortId) =>
    if d.nat (Key.servingEngine p) ≠ e then d
    else
      let d := d.setPort p fun q => { q with migrateTo := none }
      if d.clearing p ∧ !(d.port p).opened then d else d.sessionStop p 7) d
  d.rescuePorts.settle

/-! ### Sapwood (01 R38; 05 R128; 17 R475, R477) -/

/-- The message an accepted item answers. -/
def ackOfItem : TickItem → Ack
  | .write a _ _ => a | .commit a _ _ => a | .start a _ => a | .stop a _ => a | .exportStop a _ => a | .stopAll a => a | .clearHold a => a
  | .claim a => a | .release a => a | .offer a _ => a | .deregister a _ => a | .keyOp a _ => a

/-- The group whose commit is refused: its values are staged again. -/
def restage (v : Store) (y : Group) : Group :=
  if y.phase = GroupPhase.committing then { y with phase := .staging }
  else if y.phase ≠ GroupPhase.staging then y
  else { y with shadow := v.foldl (fun (l : Store) (x : Nat × Val) => if (l.find x.1).isSome then l else l.insert x.1 x.2) y.shadow }

/-- One accepted item is refused for the change of role. -/
def refuseItem (d : Dev) (x : TickItem) : Dev :=
  match x with
  | .commit a g v =>
    (((d.putNat (Key.lastResult g) Code.roleChange).putNat (Key.failingObject g) 0).setGroup g (restage v)).abort a Code.roleChange
  | x => d.abort (ackOfItem x) Code.roleChange

/-- Writes that wait for the tick are refused. -/
def refuseItems (d : Dev) : Dev :=
  let l := d.dict.items
  let d : Dev := { d with dict := { d.dict with items := [] } }
  l.foldl (fun (d : Dev) x => d.refuseItem x) d

/-- The active core failed with a standby that runs: the roles change. During the preparation of a type 0 step the updated standby takes
over, and the step counts as switched. -/
def sapwoodOver (d : Dev) : Dev :=
  let d := d.swapRoles.refuseItems
  match d.update.run with
  | some r =>
    if (stepIn d.nat r.step).1 = 0 ∧ r.phase = .preparing ∧ r.prepared then
      let trial := some (d.nowMs + 1000 * d.nat Key.trialS)
      let d := d.activateSlot 0 (d.targetOf 0)
      (d.modRun fun r => { r with phase := .switched, unit := 1, readyBy := d.readyDeadline, trialTill := trial, switchedAt := d.nowMs }).planNote true
    else d
  | none => d

/-- The active core failed without a standby: what it alone held is gone until a host registers again (log entry 61). -/
def sapwoodGone (d : Dev) : Dev :=
  let d : Dev := { d with dict := { d.dict with items := [] } }
  let d := d.discardAll 3
  let d := (List.finRange 16).foldl (fun (d : Dev) (s : SlotId) =>
    if (d.slot s).registered then (d.zeroRegistration s).dropAttest s else d) d
  if d.owner.isSome then d.loseOwnership else d

/-! ### Heartwood (01 R38; 09 R239; 11 R289) -/

/-- The batch and the unfinished commit are lost; their energy goes to the gap of its port, their closes stay due. -/
def dropCommit (d : Dev) : Dev :=
  let open_ := d.energy.batch ++ (match d.energy.commit with | some c => c.entries | none => [])
  let closes := (match d.energy.commit with | some c => c.closes | none => []) ++ d.energy.closes
  d.setEnergy fun n => { n with
    gap := open_.foldl (fun g c => match entityPort c.e with
      | some p => vmod g p (· + absSum c.ep)
      | none => g) n.gap
    batch := [], closes := closes, commit := none }

/-- The Heartwood core failed: every port ramps down; the periods it had closed and not committed count as not closed. -/
def heartwoodLost (d : Dev) : Dev :=
  let (n, d) := d.draw
  let d := allPorts.foldl (fun (d : Dev) p => d.sessionStop p (n % 12)) d
  d.dropCommit.settle

/-- A session whose opening was not committed opens again. -/
def reopen (d : Dev) (ents : Vector Entity 9) (p : PortId) : Dev :=
  match d.energy.sessions[p] with
  | some l =>
    if l.inside ∧ ((ents[portEntity p]).sid ≠ l.sid ∨ !(ents[portEntity p]).state.testBit 0) then
      d.setLive p (some { l with inside := false, opening := true })
    else d
  | none => d

/-- The Heartwood core runs again: registers, tariff state and bindings as the newest ring and the opening parts give them, the
uncommitted interval, and the calibration check of what was committed without it (01 R31). -/
def heartwoodBack (d : Dev) : Dev :=
  let d := (d.coreUp .heartwood).setHeart fun h => { h with inspection := none }
  let d : Dev := if d.lifecycle = 3 ∨ d.heart.calFailed then d else d.putNat Key.calibrationCheck (calibrationValue d)
  match d.energy.newest with
  | none => d
  | some r =>
    let older := decide (r.bill.histSeq ≠ d.energy.bill.histSeq)
    let d := d.setEnergy fun n => { n with live := r.ents, bill := r.bill }
    let d := d.setTariff fun t => { t with
      sets := t.sets.filter fun s => s.stamp ≤ r.bill.highWater, history := if older then t.prevHistory else t.history }
    let d := allPorts.foldl (fun (d : Dev) p => d.reopen r.ents p) d
    (d.gapEvent 0).restartChannels.writeItems

/-! ### The faults (01, table *Reaction to a watchdog expiry or an uncorrectable SRAM error*) -/

/-- What goes with a core that fails. -/
def coreLost (d : Dev) (c : CoreId) (cause : Nat) : Dev :=
  match c with
  | .heartwood => (d.legal 0x0108 0xFF (leBytes 1 3 ++ leBytes 1 cause)).heartwoodLost
  | .firebreakA => d.firebreakFault true false cause
  | .firebreakB => d.firebreakFault false true cause
  | .burl => (d.keyOpAbort Code.shutdown).setBurl fun b => { b with
      queue := match b.signing with | .statement s _ => s :: b.queue | _ => b.queue
      signing := .idle }
  | .canopy => d.canopyOut
  | .display => d.stopDisplay
  | .pe0 => d.engineLost 0
  | .pe1 => d.engineLost 1
  | .pe2 => d.engineLost 2
  | .pe3 => d.engineLost 3
  | _ =>
    if c ≠ d.activeSapwood then d
    else if d.running d.standbySapwood then let d := d.sapwoodOver; d.fabricUp (d.coreCrossings d.activeSapwood) else d.sapwoodGone

/-- A core fails for cause 1, its watchdog, or 2, its SRAM. -/
def coreFails (c : CoreId) (cause : Nat) (d : Dev) : Dev :=
  if !d.powered ∨ !d.running c then d
  else
    let fb := decide (c = .firebreakA ∨ c = .firebreakB)
    let d := if fb then d else d.general (.coreFault ((coreNum c).val + 1) cause)
    let d := d.restartCore c cause
    let d := d.coreLost c cause
    if fb then d.planHit none else d.planHit (some c)

/-- Does the plan wait for this core's ready post (17 R467)? -/
def planAwaits (d : Dev) (c : CoreId) : Bool :=
  match d.update.run with
  | some r => r.readyBy.isSome && decide (d.stepCore (stepIn d.nat r.step).1 r.unit = c)
  | none => false

/-- A unit of R475 whose core runs again is in service. -/
def unitBack (d : Dev) (u : Nat) : Dev := if d.nat (Key.serviceState u) = 2 ∨ d.nat (Key.serviceState u) = 3 then d.putNat (Key.serviceState u) 0 else d

/-- A core runs again and resumes its role (17 R476). -/
def coreBack (c : CoreId) (d : Dev) : Dev :=
  match c with
  | .heartwood => d.heartwoodBack
  | .burl => (d.coreUp .burl).wipeInactive.startSigning
  | .firebreakA => d.channelBack false
  | .firebreakB => d.channelBack true
  | .canopy => d.canopyBack.unitBack 5
  | .display => ((d.coreUp .display).unitBack 6).startDisplay
  | .pe0 => (((d.coreUp .pe0).unitBack 1).rescuePorts).moveBack 0
  | .pe1 => (((d.coreUp .pe1).unitBack 2).rescuePorts).moveBack 1
  | .pe2 => (((d.coreUp .pe2).unitBack 3).rescuePorts).moveBack 2
  | .pe3 => (((d.coreUp .pe3).unitBack 4).rescuePorts).moveBack 3
  | _ =>
    let d := (d.coreUp c).unitBack 0
    if d.running d.activeSapwood then d else let d := d.swapRoles; d.fabricUp (d.coreCrossings d.activeSapwood)

/-- CORE_RESTART_DONE (01 R15, R38): ROM cores restart by themselves; the others once Burl has checked their image, and a core whose
image fails stays in reset. -/
def coreRestartDone (c : CoreId) (imageOk : Bool) (d : Dev) : Dev :=
  match d.cores[coreNum c] with
  | .restarting _ =>
    if !d.powered ∨ d.planAwaits c then d
    else match imageTypeOf c with
      | none => d.coreBack c
      | some t =>
        if !d.burlUp then d
        else if imageOk then d.coreBack c
        else (d.setCore c .held).general (.imageFailed t (if d.activeK t then 1 else 0))
  | _ => d

/-- A fault of Firebreak or of an output fails the trial of a plan (17 R471). -/
def withTrial (f : Dev → Dev) (d : Dev) : Dev :=
  let e := f d
  if e.nat Key.firebreakFaultCount = d.nat Key.firebreakFaultCount ∧ e.nat Key.outputFaultCount = d.nat Key.outputFaultCount then e
  else e.planHit none

end Dev

def execWatchdogExpiry (c : CoreId) (s : State) : Out3 State := s.onDev (Dev.coreFails c 1)
def execSramUncorrectableError (c : CoreId) (s : State) : Out3 State := s.onDev (Dev.coreFails c 2)
def execCoreRestartDone (c : CoreId) (imageOk : Bool) (s : State) : Out3 State := s.onCores (Dev.coreRestartDone c imageOk)
def execSafetyTick (v : TickView) (s : State) : Out3 State := s.onDev (Dev.withTrial (safetyTick v))
def execFirebreakRestartTimeout (b : Bool) (s : State) : Out3 State := s.onDev (Dev.withTrial (firebreakRestartTimeout b))
def execCheckValueSelfTest (a b : Word) (s : State) : Out3 State := s.onDev (Dev.withTrial (checkValueSelfTest a.toNat b.toNat))
def execFirebreakFault (r : FbFault) (s : State) : Out3 State := s.onDev (Dev.withTrial (firebreakFaultEvent r))
def execOutputFault (o : OsOutput) (s : State) : Out3 State := s.onDev (Dev.withTrial (outputFaultEvent o))
def execOutputTestPulse (o : OsOutput) (readBackLow : Bool) (s : State) : Out3 State :=
  s.onDev (Dev.withTrial (outputTestPulse o readBackLow))

end Sys2Proof.Machine
end

