-- ==== Sys2Proof/Machine/Pins.lean ====
section
/-! DEFINITION. What the output balls carry, by the state: driven, or as *Outputs before they are driven* gives (04 R94; 02 R49; 07 R161, R166,
R171; 13 R331; 14 R372; 18 R481). -/

namespace Sys2Proof.Machine
namespace Dev

/-- CONT_EN_p_A and CONT_EN_p_B: low while nothing drives them (04 R94). -/
def contactorPins (d : Dev) (p : PortId) : Bool × Bool := ((d.psafe p).enA && d.powered, (d.psafe p).enB && d.powered)

/-- SAFE_OUT_A and SAFE_OUT_B. -/
def safeOutPins (d : Dev) : Bool × Bool :=
  (d.powered && (d.nat Key.safeOut).testBit 0, d.powered && (d.nat Key.safeOut).testBit 1)

/-- CP_OUT_p: low from power-up until its port drives it (04 R94; 07 R161). -/
def pilotPin (d : Dev) (p : PortId) : PilotOut := if d.powered then (d.port p).cp else .low

/-- Length of a lock drive in I7 ticks: 300 ms for a motor, 50 ms for a solenoid (07 R166). -/
def driveTicks (d : Dev) (p : PortId) : Nat := if d.nat (Key.lockType p) = 1 then 300 else 50

/-- LOCK_P_p and LOCK_N_p: the first drives towards locked, the second with reversed polarity; both low when the drive is off (04 R94; 07
R166). -/
def lockPins (d : Dev) (p : PortId) : Bool × Bool :=
  match (d.port p).drive with
  | some (on, t) =>
    let runs := d.powered && decide (d.nat (Key.lockType p) ≠ 0 ∧ d.tick7 < t + d.driveTicks p)
    (runs && on, runs && !on)
  | none => (false, false)

/-- CAN_STB_k: high, the transceiver in standby, unless the controller runs (04 R94; 07 R171). -/
def canStandby (d : Dev) (k : Fin 6) : Bool := !d.powered || decide (d.hosts.can[k] = .off)

/-- CAN_TX_k is recessive for sure: no controller that may send (04 R94; 06 R141). -/
def canRecessive (d : Dev) (k : Fin 6) : Bool :=
  d.canStandby k || decide (d.hosts.can[k] = .integrating ∨ d.hosts.can[k] = .busOff) || d.clocks.ref25Lost

/-- CNP_TX_EN at a time in µs UTC: high from 50 µs before the first symbol of 1.000 ms of a transmission to 50 µs after its last (14 R372). -/
def transmitPin (d : Dev) (us : Nat) : Bool :=
  d.powered && d.canopyTalks && match d.canopy.air with
  | some (start, n) => decide (start ≤ us + 50 ∧ us ≤ start + 1000 * n + 50)
  | none => false

/-- PFW_N is low: from power-up until step 11 of the boot sequence, and again on PFW (04 R94; 03 R69, R78). -/
def pfwPinLow (d : Dev) : Bool := !d.powered || d.power.pfwN

/-- BS_CLK_k runs from step 5 of the boot sequence, and RMII_REFCLK from step 1 (04 R94). -/
def bitstreamClock (d : Dev) : Bool := d.powered && decide (5 ≤ d.power.bootStep) && !d.clocks.ref16Lost
def rmiiClock (d : Dev) : Bool := d.powered && decide (1 ≤ d.power.bootStep) && !d.clocks.ref25Lost

/-- Are the display rails up (18 R481, R482)? -/
def displayRailsUp (d : Dev) : Bool := d.powered && !d.display.stopped && (d.display.frame.isSome || d.display.railsTill.isSome)

/-- VCOMP in 0.25 V and VSEGP in 0.1 V, VCOMN and VSEGN being their negatives; all at PGND_HV while the rails are down (04 R94; 18 R481). -/
def displayRails (d : Dev) : Int × Int :=
  match d.display.record with
  | some s => if d.displayRailsUp then (s.vcomLevel, s.vsegLevel) else (0, 0)
  | none => (0, 0)

/-- COMk_r in a half of the step in progress, in 0.25 V (18 R483, R490). -/
def commonPin (d : Dev) (i : Nat) (first : Bool) : Int :=
  match d.display.frame, d.display.record with
  | some f, some s =>
    if d.displayRailsUp && f.begun then s.com ((commonsOf f s).contains i) (d.display.ledger.toList.getD i (false, false)).1 first else 0
  | _, _ => 0

/-- SEGk_c of the layer of the step in progress, in a slot of a half, in 0.1 V (18 R483, R484). -/
def segmentPin (d : Dev) (layer c slot : Nat) (first : Bool) : Int :=
  match d.display.frame, d.display.record with
  | some f, some s =>
    if d.displayRailsUp && f.begun && decide (s.layer = layer) then
      let p := (d.display.ledger.toList.getD (64 * s.layer + s.row) (false, false)).1
      s.seg (d.recordOf s.layer).gamma p first c slot
    else 0
  | _, _ => 0

/-- The output that SeqOutGpio names for a port: driven while a session of Annex A or B runs there (07 R171; log entry 73). -/
def sequencePin (d : Dev) (p : PortId) : Option (Nat × Bool) :=
  if d.annexPort p ∧ d.nat (Key.seqOutGpio p) ≠ 0xFF then
    some (d.nat (Key.seqOutGpio p), d.powered && decide ((d.port p).proto = some .annexA ∨ (d.port p).proto = some .annexB))
  else none

end Dev
end Sys2Proof.Machine
end

