-- ==== Sys2Proof/Machine/Readout.lean ====
section
/-! DEFINITION. What a dictionary object reads as, where a part of the state other than the object store is its home (05 R112, R114;
the object tables of 02 and 05 to 18). -/

namespace Sys2Proof.Machine

/-- An integer readout. -/
def rdNat (n : Nat) : Option Val := some (.int n)
def rdInt (n : Int) : Option Val := some (.int n)
def rdFlag (b : Bool) : Option Val := some (.int (if b then 1 else 0))
def rdBytes (b : Bytes) : Option Val := some (.bytes b)

/-- An element of a list counted from a first subindex, or nothing. -/
def rdAt (l : List Nat) (i : Nat) : Option Val := (l[i]?).bind rdNat

/-- Numbers of GroupState (05, 0x1400+g.01). -/
def GroupPhase.num : GroupPhase → Nat
  | .empty => 0 | .staging => 1 | .committing => 2 | .expired => 3

/-- Numbers of Can5State (06, 0xC002.01). -/
def CanState.num : CanState → Nat
  | .off => 0 | .integrating => 1 | .errorActive => 2 | .errorPassive => 3 | .busOff => 4

/-- Numbers of a crossing's kind, direction and state (02, 0xB900+c). -/
def XKind.num : XKind → Nat
  | .queue => 0 | .value => 1 | .event => 2
def XDir.num : XDir → Nat
  | .toFabric => 0 | .toIsland => 1 | .both => 2
def XState.num : XState → Nat
  | .running => 0 | .islandReset => 1 | .fabricReset => 2 | .resync => 3 | .clockLost => 4

/-- A billing snapshot, 512 bytes (10, table *Billing snapshot*). -/
def Snapshot.image (s : Snapshot) : Bytes :=
  let b := leBytes 4 0x534E4150 ++ leBytes 2 0x0100 ++ leBytes 1 s.entity ++ leBytes 1 s.reason ++ leBytes 4 s.period ++ leBytes 4 s.start ++
    leBytes 4 s.close ++ leBytes 2 s.flags ++ leBytes 2 s.quality ++ leBytes 8 s.exec ++ leBytes 8 s.commit ++
    s.regs.toList.flatMap (leBytes 8) ++ s.timp.toList.flatMap (leBytes 8) ++ s.texp.toList.flatMap (leBytes 8) ++
    leBytes 4 s.maxImp.1 ++ leBytes 4 s.maxImp.2 ++ leBytes 4 s.maxExp.1 ++ leBytes 4 s.maxExp.2 ++ leBytes 4 s.calendar ++ List.replicate 144 0
  b ++ leBytes 4 (crc32c b)

/-- A load-profile record, 192 bytes (10, table *Load-profile record*). -/
def ProfileRec.image (r : ProfileRec) : Bytes :=
  let b := leBytes 4 r.endTime ++ leBytes 2 r.flags ++ leBytes 1 r.tariff ++ [0] ++ leBytes 2 r.quality ++ [0, 0] ++
    ((List.finRange 9).flatMap fun (e : Fin 9) => leBytes 8 r.imp[e] ++ leBytes 8 r.exp[e]) ++ r.site.toList.flatMap (leBytes 8)
  b ++ leBytes 4 (crc32c b)

/-- The event of a general logbook entry as numbers, what the code, entity and data of its image depend on. -/
def GenEvent.key : GenEvent → List Int
  | .timeBaseMismatch p => [0, p]
  | .coreFault c k => [1, c, k]
  | .stagedDiscarded g b c => [2, g, b, c]
  | .ownership a b c e => [3, a, b, c, e]
  | .externalReset => [4]
  | .serviceRestart s => [5, s]
  | .vbatLow => [6]
  | .imageFailed t s => [7, t, s]
  | .clockLost c => [8, c]
  | .clockRecovered c => [9, c]
  | .railTrip r => [10, r]
  | .level1 p b r m => [11, p, b, if r then 1 else 0, m]
  | .generalError c => [12, c]
  | .note c l => 13 :: (c : Int) :: l

/-- A general logbook entry, 64 bytes with a Chain of 0x00 (12 R317); EventCode, Entity and Data are free, since the manual gives none for
the general logbook (log entry 62). -/
def GenEntry.image (e : GenEntry) : Bytes :=
  let b := leBytes 4 e.seq ++ leBytes 8 e.time ++ leBytes 2 (Config.generalEvent e.event.key 0) ++ leBytes 1 e.flags ++
    leBytes 1 (Config.generalEvent e.event.key 1) ++ leBytes 32 (Config.generalEvent e.event.key 2) ++ List.replicate 12 0
  b ++ leBytes 4 (crc32c b)

/-- Block `k` of a ring of entries: 512 places from 512k on, of `depth`; `l` is newest first with the newest numbered `newest` (12
R315). A place nothing has been stored in reads 0x00 (log entry 62). -/
def logBlock (depth newest k : Nat) (l : List Bytes) : Bytes :=
  (List.range 512).flatMap fun i => (l[(newest + depth - (512 * k + i) % depth) % depth]?).getD (List.replicate 64 0)

/-- The number of a record in state 2 or 3, and whether it is signed (12 R318). -/
def RecordSlot.closed : RecordSlot → Option (Nat × Bool)
  | .opened _ _ => none
  | .stored _ b => some (b.number, false)
  | .signed b _ => some (b.number, true)

namespace Dev

/-- The newest ring's demand and billing state; before the first ring that of a unit without one. -/
def committedBill (d : Dev) : Billing := match d.energy.newest with | some r => r.bill | none => Billing.zero

/-- Is a staged group locked: calibration and energy settings once SEALED (08 R212, 09 R247), the update plan while it is ARMED or RUNNING
(17 R461)? -/
def groupLocked (d : Dev) (g : Nat) : Bool :=
  if g = 0x10 ∨ (0x18 ≤ g ∧ g ≤ 0x1F) then decide (d.lifecycle = 3)
  else if g = 0x2D then decide (d.nat Key.planState = 2 ∨ d.nat Key.planState = 3)
  else false

/-- 0x1100. -/
def readDict (d : Dev) : Nat → Option Val
  | 0x02 => rdNat d.dict.tick
  | 0x03 => rdNat d.stagedTotal
  | 0x05 => rdNat (d.dict.journal.map (·.bytes)).sum
  | _ => none

/-- Payload size of a committed publish list (05 R130, 0x1200+n.0A). -/
def payloadBytes (d : Dev) (n : Nat) : Nat :=
  ((List.range (d.nat (Key.entryCount n))).map fun i => match keyOfRef (d.nat (Key.listEntry n i)) with
    | some k => match lookup k with | .ok r => r.ty.size | .error _ => 0
    | none => 0).sum

/-- 0x1400+g. -/
def readGroup (d : Dev) (g : Nat) : Nat → Option Val
  | 0x01 => rdNat (d.group g).phase.num
  | 0x02 => rdNat (d.group g).sinceUtc
  | 0x08 => rdFlag (d.groupLocked g)
  | 0x09 => rdNat (bytesOfStore (d.group g).shadow)
  | _ => none

/-- 0x1800. -/
def readOwner (d : Dev) : Nat → Option Val
  | 0x01 => rdNat (ownerNum d.hosts.ownership)
  | 0x02 => rdNat (ownershipNum d.hosts.ownership)
  | 0x03 => rdNat d.hosts.ownerSince
  | 0x04 => rdNat (if d.owner.isSome then min 1500 (d.nowMs - d.hosts.lastHeartbeat) else 0)
  | 0x05 => rdNat (match d.hosts.ownership with | .handover _ t _ => t.val | _ => 0xFF)
  | _ => none

/-- 0x2p10. -/
def readPort (d : Dev) (p : PortId) : Nat → Option Val
  | 0x01 => rdNat (d.port p).session.num
  | 0x02 => rdNat (d.port p).pilot.num
  | 0x03 => rdNat (match (d.port p).cp with | .pwm n => n | _ => 0)
  | 0x07 => rdNat (if d.nat (Key.lockType p) = 0 then 0 else match (d.port p).lock with | .locked => 1 | .fault => 2 | _ => 0)
  | 0x08 => rdNat (match (d.port p).proto with | some x => x.num | none => 0)
  | 0x0D => rdNat (d.holdingLevel p)
  | 0x0E => rdNat (match d.energy.sessions[p] with | some l => l.sid | none => (d.committedEnts[portEntity p]).sid)
  | 0x10 => rdInt (d.committedEnts[portEntity p]).enet.sign
  | 0x12 =>
    let l : List (Fin 16) := (d.modulesOf p).filter fun m => d.flag (Key.modulePresent m)
    rdNat (if l = [] then 0 else (divRound ((l.map fun (m : Fin 16) => (d.modules[m]).voltage).sum : Nat) l.length).toNat)
  | 0x13 => rdInt (d.moduleSum p)
  | _ => none

/-- 0x3000. -/
def readMetro (d : Dev) : Nat → Option Val
  | 0x03 => rdNat d.samples
  | 0x05 => rdNat (((List.finRange 68).filter fun c => (d.chan c).failed ≠ 0).map fun (c : Fin 68) => 2 ^ c.val).sum
  | 0x06 => rdNat (((List.finRange 68).filter fun c => (d.chan c).discard ≠ 0 || (d.chan c).returning).map fun (c : Fin 68) => 2 ^ c.val).sum
  | _ => none

/-- ChannelState, 0x3020+c.06. -/
def channelStateNum (d : Dev) (c : Fin 68) : Nat :=
  let ch := d.chan c
  if ch.source = 0xFF || !d.metro.running then 3 else if ch.failed ≠ 0 then 2 else if ch.discard ≠ 0 || ch.returning then 1 else 0

/-- The six registers of an entity as readouts, and as accumulators (09, 0x3q04, 0x3180). -/
def registers (x : Entity) : List Nat := [x.imp, x.exp, x.q[0], x.q[1], x.q[2], x.q[3]]

/-- 0x3q04, 0x3q05, 0x3q10, 0x3q30 of a port. -/
def readPortEnergy (d : Dev) (p : PortId) (block sub : Nat) : Option Val :=
  let x := d.committedEnts[portEntity p]
  match block, sub with
  | 0x04, 0x01 => rdNat (match d.energy.newest with | some r => r.time | none => 0)
  | 0x04, 0x0A => rdNat x.sid
  | 0x04, n => if n = 0 then none else rdAt ((registers x ++ [x.simp, x.sexp]).map readout) (n - 2)
  | 0x05, n => if n = 0 then none else rdAt (registers x ++ [x.simp, x.sexp]) (n - 1)
  | 0x10, 0x01 => rdNat x.seq
  | 0x10, 0x02 => rdNat x.len
  | 0x10, 0x03 => rdInt x.enet
  | 0x10, 0x04 => rdNat x.qf
  | 0x30, 0x04 => rdNat d.energy.gap[p]
  | _, _ => none

/-- 0x3180, 0x3181, 0x3183. -/
def readSiteEnergy (d : Dev) (idx sub : Nat) : Option Val :=
  let x := d.committedEnts[(8 : EntityId)]
  match idx, sub with
  | 0x3180, 0x01 => rdNat (match d.energy.newest with | some r => r.time | none => 0)
  | 0x3180, n => if n = 0 then none else rdAt ((registers x).map readout) (n - 2)
  | 0x3181, n => if n = 0 then none else rdAt (registers x) (n - 1)
  | 0x3183, 0x01 => rdNat d.committedNumber
  | 0x3183, 0x02 => rdNat (d.committedNumber % 32)
  | _, _ => none

/-- The next tariff switch after a local second, day by day over `n` days: local second and tariff (10, 0x4000.0A). -/
def nextSwitch (d : Dev) (loc : Nat) : Nat → Nat → Option (Nat × Nat)
  | 0, _ => none
  | n + 1, z =>
    match (d.switchesOn z).find? fun s => decide (loc < z * 86400 + s.2) with
    | some s => if z * 86400 + s.2 ≤ loc + 366 * 86400 then some (z * 86400 + s.2, s.1) else none
    | none => nextSwitch d loc n (z + 1)

/-- 0x4000. -/
def readTariff (d : Dev) (sub : Nat) : Option Val :=
  let b := d.committedBill
  let loc := d.localOf d.time.utcS
  match sub with
  | 0x06 => rdNat b.tariff
  | 0x07 => rdNat b.season
  | 0x08 => rdNat b.dayProfile
  | 0x09 => rdNat b.dayKind
  | 0x0A => rdNat (match d.nextSwitch loc 367 (loc / 86400) with | some (t, _) => d.utcOf t | none => 0)
  | 0x0B => rdNat (match d.nextSwitch loc 367 (loc / 86400) with | some (_, t) => t | none => 0)
  | _ => none

/-- 0x4200, 0x4301, 0x4400. -/
def readBilling (d : Dev) (idx sub : Nat) : Option Val :=
  let b := d.committedBill
  let loc := d.localOf d.time.utcS
  match idx, sub with
  | 0x4200, 0x05 => rdNat d.energy.bill.subStart
  | 0x4200, 0x06 => rdNat d.energy.bill.subs
  | 0x4200, 0x07 => rdNat (if d.tariff.onGrid then 1 else if d.energy.bill.alignLost then 2 else 0)
  | 0x4301, 0x01 => rdNat b.period
  | 0x4301, 0x02 => rdNat b.start
  | 0x4301, 0x03 => rdNat (match d.billingsIn loc (loc + 32 * 86400) 33 (loc / 86400) with | t :: _ => d.utcOf t | [] => 0)
  | 0x4301, 0x04 => rdNat b.snapCount
  | 0x4400, 0x01 => rdNat b.profileCount
  | 0x4400, 0x02 => rdNat (match d.tariff.profile.find? fun r => r.slot = (b.profileNext + 38399) % 38400 with | some r => r.endTime | none => 0)
  | _, _ => none

/-- 0x4210+e. -/
def readDemand (d : Dev) (e : EntityId) : Nat → Option Val
  | 0x01 => rdNat d.committedBill.lastImp[e]
  | 0x02 => rdNat d.committedBill.lastExp[e]
  | 0x05 => rdNat (d.committedBill.maxImp[e]).1
  | 0x06 => rdNat (d.committedBill.maxImp[e]).2
  | 0x07 => rdNat (d.committedBill.maxExp[e]).1
  | 0x08 => rdNat (d.committedBill.maxExp[e]).2
  | _ => none

/-- The snapshot of an entity by age, 1 the newest (10, 0x4310+e). -/
def snapshotOf (d : Dev) (e : EntityId) (age : Nat) : Bytes :=
  if age = 0 ∨ d.committedBill.snapCount < age then []
  else match d.tariff.snaps.toList.getD ((d.committedBill.snapNext + 24 - age) % 24) none with
    | some v => (v[e]).image
    | none => []

/-- The load-profile records of local day (today − k), in time order (10 R267). -/
def profileDay (d : Dev) (k : Nat) : Bytes :=
  let today := d.localOf d.time.utcS / 86400
  ((d.tariff.profile.filter fun r => d.localOf r.endTime / 86400 + k = today).reverse).flatMap ProfileRec.image

/-- 0x5010. -/
def readSelected (d : Dev) (sub : Nat) : Option Val :=
  let found := d.findNumber (d.nat Key.selectAccount)
  match sub with
  | 0x02 => rdBytes (match found with | some (_, a) => a.image | none => List.replicate 64 0)
  | 0x03 => rdNat (match found with | some (n, _) => n | none => 0xFFFFFFFF)
  | 0x04 => rdNat (match found with | some (n, _) => (d.tokenWord n).1 * 256 + (d.tokenWord n).2 | none => 0)
  | 0x05 => rdInt (match found with | some (n, _) => d.available d.committedEnts n | none => 0)
  | _ => none

/-- The token-ID memory, 1,024 bytes (11 R278). -/
def tokenMemory (d : Dev) : Bytes :=
  padTo 1024 (d.ledger.memory.flatMap fun (x : Nat × Nat × Nat) => leBytes 8 x.1 ++ leBytes 4 x.2.1 ++ leBytes 4 x.2.2)

/-- Accounts in use: records with a Status other than 0 (11, 0x5000.01). -/
def accountCount (d : Dev) : Nat := (d.ledger.accounts.filter fun (x : Nat × Account) => x.2.status ≠ 0).length

/-- 0x5000. -/
def readLedger (d : Dev) : Nat → Option Val
  | 0x01 => rdNat d.accountCount
  | 0x02 => rdNat (ledgerSlots - d.accountCount)
  | 0x05 => rdNat d.unreconciled
  | _ => none

/-- 0x6310+p. -/
def readSafety (d : Dev) (p : PortId) : Nat → Option Val
  | 0x02 => rdFlag (decide ((d.psafe p).ramps ≠ []))
  | 0x03 => rdNat ((d.envelope p).getD 0)
  | _ => none

/-- ConfirmRemaining in s, rounded up (13, 0x6200.05). -/
def confirmRemaining (d : Dev) : Nat :=
  if d.nat Key.commissionState = 1 then ceilDiv (d.safety.awaitAt + 60000 - d.tick7) 1000 else 0

/-- 0x7100+n. -/
def readNeigh (d : Dev) (n : Fin 128) (sub : Nat) : Option Val :=
  match d.neighAt n with
  | none => none
  | some x =>
    match sub with
    | 0x01 => rdFlag true
    | 0x02 => rdBytes x.long
    | 0x03 => rdNat x.addr
    | 0x04 => rdNat (d.mapTo x)
    | 0x05 => rdNat x.txMask
    | 0x06 => rdBytes (padTo 8 x.txThr)
    | 0x07 => rdNat x.rxMap
    | 0x08 => rdNat x.caps
    | 0x09 => rdNat x.phase
    | 0x0A => rdNat x.maxPay
    | 0x0B => rdNat x.failRun
    | 0x0C => rdNat x.seen
    | _ => none

/-- 0x8100+n. -/
def readKey (d : Dev) (n : Fin 64) (sub : Nat) : Option Val :=
  match sub with
  | 0x01 => rdNat (match d.keyOf n with | some k => k.typ | none => 0)
  | 0x02 => rdNat (match d.keyOf n with | some k => k.attrs | none => 0)
  | 0x03 => rdNat (if d.lifecycle = 0 then 0 else (d.keySlot n).word)
  | 0x04 => rdBytes (match d.keyOf n with | some k => k.keyId | none => List.replicate 8 0)
  | 0x05 => rdBytes (match d.keyOf n with | some k => k.pub | none => [])
  | _ => none

/-- BurlState (16, 0x8000.02). -/
def burlStateNum (d : Dev) : Nat := match d.cores[coreNum .burl] with | .running => 1 | .restarting _ => 2 | _ => 0

/-- The tag an engine belongs to (15, table *Engine allocation*); engine 13 belongs to any tag and reads 0x00, engine 14 to Burl, and engines
10 and 11 to the active Sapwood core (log entry 62). -/
def engineTag (d : Dev) (e : Fin 16) : Nat :=
  let act := if d.activeB then 0x02 else 0x01
  [0x03, 0x03, 0x12, 0x04, 0x08, 0x09, 0x0A, 0x0B, 0x0C, 0x0C, act, act, 0x13, 0x00, 0x06, 0x0D].getD e 0

/-- 0xB010+e: an engine waits when a window of it waits for a context, covers while one holds a context. -/
def readEngine (d : Dev) (e : Fin 16) : Nat → Option Val
  | 0x01 => rdNat (d.engineTag e)
  | 0x02 =>
    let l := d.cvu.engines[e]
    rdNat (if l.any fun w => decide (w.waits ≠ []) then 2 else if l.any fun w => w.work.isSome then 1 else 0)
  | 0x03 => rdNat (d.cvu.engines[e]).length
  | _ => none

/-- 0xB100+f. -/
def readProfile (d : Dev) (f : Nat) (sub : Nat) : Option Val :=
  match d.profileOf f with
  | none => none
  | some p =>
    match sub with
    | 0x01 => rdNat p.width
    | 0x02 => rdNat p.poly
    | 0x03 => rdNat p.ini
    | 0x04 => rdFlag p.reflected
    | 0x05 => rdNat p.xorOut
    | 0x06 => rdNat (p.check (ascii "123456789"))
    | _ => none

/-- ClockStatus (02, 0xB800.04): bit n−1 for island In; I1 and I3 share the 16.384 MHz reference, I2, I4 and I5 the 25 MHz one. -/
def clockStatus (d : Dev) : Nat :=
  (if d.clocks.ref16Lost then 0b000000101 else 0) + (if d.clocks.ref25Lost then 0b000011010 else 0) + (if d.clocks.xt32Lost then 0b000100000 else 0) +
    (if d.clocks.i7Lost then 0b001000000 else 0) + (if d.clocks.i8Lost then 0b010000000 else 0)

/-- 0xB900+c. -/
def readCrossing (d : Dev) (c : Fin 58) : Nat → Option Val
  | 0x01 => rdNat (xKind c).num
  | 0x02 => rdNat (xIsland c)
  | 0x03 => rdNat (xDir c).num
  | 0x04 => rdNat (d.crossings[c]).state.num
  | 0x05 => rdNat (d.crossings[c]).resync
  | 0x06 => rdNat (d.crossings[c]).discarded
  | 0x07 => rdNat (d.crossings[c]).dropped
  | 0x08 => rdNat (d.crossings[c]).highWater
  | 0x09 => rdFlag (decide (xKind c = .value) && (d.crossings[c]).stale)
  | 0x0A => rdFlag (d.crossings[c]).overrun
  | 0x0B => rdNat (d.crossings[c]).overruns
  | 0x0C => rdNat (d.crossings[c]).lastReset
  | _ => none

/-- 0xF100, 0xF180. -/
def readLogs (d : Dev) (idx sub : Nat) : Option Val :=
  let general := match d.heart.general with | e :: _ => e.seq | [] => 0
  match idx, sub with
  | 0xF100, 0x01 => rdNat d.legalSeq
  | 0xF100, 0x02 => rdNat (if d.heart.log = [] then 0 else d.legalSeq + 1 - d.heart.log.length)
  | 0xF100, 0x03 => rdBytes d.chain
  | 0xF100, 0x04 => rdNat (d.legalSeq - 32768)
  | 0xF100, 0x05 => rdNat d.heart.logOverflows
  | 0xF180, 0x01 => rdNat general
  | 0xF180, 0x02 => rdNat (if d.heart.general = [] then 0 else general + 1 - d.heart.general.length)
  | _, _ => none

/-- Records in state 2 and 3: number, and whether signed. -/
def closedRecords (d : Dev) : List (Nat × Bool) := d.heart.records.filterMap fun (x : Nat × RecordSlot) => x.2.closed

/-- 0xF300. -/
def readRecords (d : Dev) : Nat → Option Val
  | 0x01 => rdNat (d.closedRecords.foldl (fun m r => max m r.1) 0)
  | 0x02 => rdNat (d.closedRecords.foldl (fun m r => if m = 0 then r.1 else min m r.1) 0)
  | 0x03 => rdNat (d.closedRecords.filter fun r => !r.2).length
  | _ => none

/-- A session record as it is read out: a CBOR array of body and signature (12 R322). -/
def recordReadout (d : Dev) (slot : Nat) : Bytes :=
  match d.heart.records.find? fun (x : Nat × RecordSlot) => x.1 = slot with
  | some (_, .stored _ b) => cborArray [cborBytes (d.recordBody b), cborBytes []]
  | some (_, .signed b sig) => cborArray [cborBytes (d.recordBody b), cborBytes sig]
  | _ => []

/-- What a part of the state other than the object store gives for an object; indices 0x1000 to 0x3FFF. -/
def readoutLow (d : Dev) (idx sub : Nat) : Option Val :=
  if idx = 0x1000 then (if sub = 0x0C then rdNat (powerNum d.power.state) else none)
  else if idx = 0x1100 then d.readDict sub
  else if 0x1200 ≤ idx ∧ idx ≤ 0x120F then (if sub = 0x0A then rdNat (d.payloadBytes (idx - 0x1200)) else none)
  else if 0x1400 ≤ idx ∧ idx < 0x1440 then d.readGroup (idx - 0x1400) sub
  else if idx = 0x1800 then d.readOwner sub
  else if h : 0x1810 ≤ idx ∧ idx ≤ 0x181F then (if sub = 0x01 then rdFlag (d.slot ⟨idx - 0x1810, by omega⟩).registered else none)
  else if h : 0x2090 ≤ idx ∧ idx ≤ 0x209F then
    (if sub = 0x05 then rdNat (match d.portOfModule ⟨idx - 0x2090, by omega⟩ with | some p => p.val | none => 0xFF) else none)
  else if h : 0x2000 ≤ idx ∧ idx < 0x2800 then
    (if idx % 0x100 = 0x10 then d.readPort ⟨(idx - 0x2000) / 0x100, by omega⟩ sub else none)
  else if idx = 0x3000 then d.readMetro sub
  else if h : 0x3020 ≤ idx ∧ idx ≤ 0x3063 then (if sub = 0x06 then rdNat (d.channelStateNum ⟨idx - 0x3020, by omega⟩) else none)
  else if 0x3180 ≤ idx ∧ idx ≤ 0x3183 then d.readSiteEnergy idx sub
  else if h : 0x3100 ≤ idx ∧ idx < 0x3900 then d.readPortEnergy ⟨(idx - 0x3100) / 0x100, by omega⟩ (idx % 0x100) sub
  else none

/-- The same for indices 0x4000 to 0x7FFF. -/
def readoutMid (d : Dev) (idx sub : Nat) : Option Val :=
  if idx = 0x4000 then d.readTariff sub
  else if h : 0x4210 ≤ idx ∧ idx ≤ 0x4218 then d.readDemand ⟨idx - 0x4210, by omega⟩ sub
  else if idx = 0x4200 ∨ idx = 0x4301 ∨ idx = 0x4400 then d.readBilling idx sub
  else if h : 0x4310 ≤ idx ∧ idx ≤ 0x4318 then rdBytes (d.snapshotOf ⟨idx - 0x4310, by omega⟩ sub)
  else if 0x4500 ≤ idx ∧ idx < 0x4500 + 400 then rdBytes (d.profileDay (idx - 0x4500))
  else if idx = 0x4700 then
    (match sub with
     | 0x02 => rdNat d.timeBits
     | 0x03 => rdInt (divRound d.time.slew 16)
     | 0x06 => rdNat d.committedBill.highWater
     | 0x08 => rdNat d.committedBill.bstep
     | _ => none)
  else if h : 0x4800 ≤ idx ∧ idx ≤ 0x4808 then
    (if sub = 0 then none else rdAt (tariffReadouts (d.committedEnts[(⟨idx - 0x4800, by omega⟩ : EntityId)])).toList (sub - 1))
  else if h : 0x4810 ≤ idx ∧ idx ≤ 0x4818 then
    let x := d.committedEnts[(⟨idx - 0x4810, by omega⟩ : EntityId)]
    (if sub = 0 then none else rdAt (x.timp.toList ++ x.texp.toList) (sub - 1))
  else if idx = 0x5000 then d.readLedger sub
  else if idx = 0x5010 then d.readSelected sub
  else if idx = 0x5030 then (if sub = 0x01 then rdBytes d.tokenMemory else none)
  else if idx = 0x6200 then (if sub = 0x05 then rdNat d.confirmRemaining else none)
  else if idx = 0x6300 then
    (if sub = 0x05 then rdNat ((if d.running .firebreakA then 1 else 0) + (if d.running .firebreakB then 2 else 0)) else none)
  else if h : 0x6310 ≤ idx ∧ idx ≤ 0x6317 then d.readSafety ⟨idx - 0x6310, by omega⟩ sub
  else if idx = 0x7010 then
    (match sub with
     | 0x01 => rdNat d.canopy.node.num
     | 0x0C => rdNat ((List.finRange 128).filter fun n => (d.neighAt n).isSome).length
     | _ => none)
  else if h : 0x7100 ≤ idx ∧ idx ≤ 0x717F then d.readNeigh ⟨idx - 0x7100, by omega⟩ sub
  else none

/-- The same for indices 0x8000 and up. -/
def readoutHigh (d : Dev) (idx sub : Nat) : Option Val :=
  if idx = 0x8000 then (match sub with | 0x01 => rdNat d.fuses | 0x02 => rdNat d.burlStateNum | _ => none)
  else if h : 0x8100 ≤ idx ∧ idx ≤ 0x813F then d.readKey ⟨idx - 0x8100, by omega⟩ sub
  else if h : 0x8300 ≤ idx ∧ idx ≤ 0x830F then (if sub = 0x01 then rdBytes (d.attestValue ⟨idx - 0x8300, by omega⟩) else none)
  else if h : 0xB010 ≤ idx ∧ idx ≤ 0xB01F then d.readEngine ⟨idx - 0xB010, by omega⟩ sub
  else if 0xB100 ≤ idx ∧ idx ≤ 0xB10F then d.readProfile (idx - 0xB100) sub
  else if idx = 0xB800 then (if sub = 0x04 then rdNat d.clockStatus else none)
  else if h : 0xB900 ≤ idx ∧ idx ≤ 0xB939 then d.readCrossing ⟨idx - 0xB900, by omega⟩ sub
  else if idx = 0xC002 then (if sub = 0x01 then rdNat (d.hosts.can[5]).num else none)
  else if idx = 0xF000 then (if sub = 0x03 then rdNat d.sealStateNum else none)
  else if idx = 0xF100 ∨ idx = 0xF180 then d.readLogs idx sub
  else if 0xF110 ≤ idx ∧ idx < 0xF110 + 64 then
    rdBytes (logBlock 32768 d.legalSeq (idx - 0xF110) (d.heart.log.map LegalEntry.image))
  else if 0xF190 ≤ idx ∧ idx < 0xF190 + 192 then
    rdBytes (logBlock 98304 (match d.heart.general with | e :: _ => e.seq | [] => 0) (idx - 0xF190) (d.heart.general.map GenEntry.image))
  else if idx = 0xF300 then d.readRecords sub
  else if 0xF400 ≤ idx ∧ idx < 0xF440 then (if sub = 0 then none else rdBytes (d.recordReadout ((idx - 0xF400) * 128 + sub - 1)))
  else none

/-- What an object reads as: a legal value that no committed ring has replaced yet (01 R30), its home's readout, else the object store, whose unlisted objects hold their defaults. Subindex 0 reads the
highest subindex (05 R108). -/
def value (d : Dev) (key : Nat) : Val :=
  let idx := key / 256
  let sub := key % 256
  if sub = 0 then .int (highestSub idx)
  else match d.tariff.shown.find key with
  | some v => v
  | none =>
    match (if idx < 0x4000 then d.readoutLow idx sub else if idx < 0x8000 then d.readoutMid idx sub else d.readoutHigh idx sub) with
    | some v => v
    | none => d.val key

/-- Legal energy objects, whose reads abort while the ring store is lost (09 R240): those of chapter 09 that Heartwood's rings hold, and the
tariff registers (log entry 62). -/
def energyObject (key : Nat) : Bool :=
  let idx := key / 256
  match rowOf key with
  | some r => decide (r.acc = .lgl) && (decide (0x3100 ≤ idx ∧ idx < 0x3900) || decide (0x4800 ≤ idx ∧ idx ≤ 0x4818))
  | none => false

/-- The value an object reads as on the wire (05 R110). -/
def wire (d : Dev) (key : Nat) : Bytes :=
  match lookup key with
  | .ok r => r.ty.encode (d.value key)
  | .error _ => []

end Dev
end Sys2Proof.Machine
end

