-- ==== Sys2Proof/Machine/Stores.lean ====
section
/-! DEFINITION. The bytes of the non-volatile stores: ferroelectric store and MRAM partitions, as their layouts give them (09 R230; 10 R272,
R274, R275; 11 R277 to R279; 12 R307, R315, R317, R318; 16 R428, R429, R440; 17 R455, R458; 18 R491), and FABRIC_READ, which reads them
(log entry 9). -/

namespace Sys2Proof.Machine

/-! ### Rings (09 R230; 10 R274) -/

/-- The low 96 bits of an accumulator. -/
def le96 (x : Nat) : Bytes := leBytes 12 x

/-- An entity block, 512 bytes (09, table *Entity block*). -/
def Entity.image (x : Entity) : Bytes :=
  le96 x.imp ++ le96 x.exp ++ x.q.toList.flatMap le96 ++ le96 x.simp ++ le96 x.sexp ++ x.timp.toList.flatMap le96 ++ x.texp.toList.flatMap le96 ++
  leBytes 4 x.seq ++ leBytes 4 x.len ++ leBytes 8 (ofSigned 64 x.enet) ++ leBytes 8 x.eabs ++ leBytes 2 x.qf ++ leBytes 1 x.tariff ++
  leBytes 1 x.state ++ leBytes 4 x.sid

/-- A pending record, 24 bytes; one that is not valid reads 0x00 (10 R274). -/
def pendImage : Option Pend → Bytes
  | none => List.replicate 24 0
  | some p => leBytes 4 p.seq ++ [1, 0] ++ leBytes 2 p.qf ++ leBytes 8 (ofSigned 64 p.enet) ++ leBytes 8 (ofSigned 64 p.qnet)

/-- The demand and billing state of a ring, 1,280 bytes (10 R274). -/
def Ring.billImage (r : Ring) : Bytes :=
  let b := r.bill
  leBytes 4 r.calendar.1 ++ leBytes 4 r.calendar.2 ++ leBytes 1 b.tariff ++ leBytes 1 b.season ++ leBytes 1 b.dayProfile ++
  leBytes 1 ((if r.setInstant ≠ 0 then 1 else 0) + (if b.alignLost then 2 else 0) + (if r.armed then 4 else 0)) ++
  leBytes 4 b.period ++ leBytes 4 b.start ++ leBytes 4 b.highWater ++ leBytes 8 r.setInstant ++ leBytes 8 b.subStart ++ leBytes 1 b.subs ++
  leBytes 1 b.flags ++ [0, 0] ++ leBytes 4 b.profileStart ++ leBytes 4 b.profileNext ++ leBytes 4 b.profileCount ++ leBytes 4 b.histSeq ++
  [0, 0, 0, 0] ++ ((List.finRange 9).flatMap fun (e : Fin 9) => leBytes 8 b.subImp[e] ++ leBytes 8 b.subExp[e]) ++
  ((List.finRange 9).flatMap fun (e : Fin 9) =>
    leBytes 4 b.maxImp[e].1 ++ leBytes 4 b.maxImp[e].2 ++ leBytes 4 b.maxExp[e].1 ++ leBytes 4 b.maxExp[e].2) ++
  (b.pend.toList.flatMap fun l => pendImage l[0]? ++ pendImage l[1]?) ++
  ((List.finRange 9).flatMap fun (e : Fin 9) => leBytes 4 b.lastImp[e] ++ leBytes 4 b.lastExp[e]) ++
  leBytes 1 b.snapNext ++ leBytes 1 b.snapCount ++ [0, 0] ++ b.quality.toList.flatMap (leBytes 2) ++ leBytes 2 b.profileQuality ++
  List.replicate 400 0

/-- The header of a ring, 64 bytes (09, table *Ring header*). -/
def Ring.header (r : Ring) : Bytes :=
  leBytes 4 0x52494E47 ++ leBytes 2 0x0100 ++ leBytes 1 r.kind ++ leBytes 1 r.flags ++ leBytes 8 r.number ++ leBytes 8 r.time ++
  leBytes 8 r.event ++ leBytes 2 r.mask ++ [0, 0] ++ leBytes 4 r.bill.bstep ++ leBytes 8 r.fabric ++ leBytes 8 r.base ++ List.replicate 8 0

/-- A folded-period record, 16 bytes (09 R230, R234). -/
def foldImage : Option (Nat × Int × Nat) → Bytes
  | none => List.replicate 16 0
  | some (seq, e, qf) => leBytes 4 seq ++ leBytes 8 (ofSigned 64 e) ++ leBytes 2 qf ++ [0, 0]

/-- A whole ring, 6,144 bytes (09, table *Ring layout*). -/
def Ring.image (r : Ring) : Bytes :=
  let b := r.header ++ (r.ents.toList.flatMap Entity.image) ++ r.billImage ++ (r.fold.toList.flatMap foldImage) ++ List.replicate 44 0
  b ++ leBytes 4 (crc32c b)

/-! ### Tariff stores (10 R272, R275) -/

/-- A boundary journal entry, 32 bytes (10, table *Boundary journal entry*); the two values of Data are U32 each (log entry 9). -/
def JEntry.image (e : JEntry) : Bytes :=
  let b := leBytes 4 e.seq ++ leBytes 4 e.stamp ++ leBytes 8 e.instant ++ leBytes 1 e.step ++ leBytes 1 (if e.done then 1 else 0) ++
    leBytes 1 e.flags ++ leBytes 1 e.reason ++ leBytes 4 e.data1 ++ leBytes 4 e.data2
  b ++ leBytes 4 (crc32c b)

/-- A copy of the demand history (10 R275): sequence, count, lengths, energies of each entity, import before export, oldest first
(log entry 9). -/
def historyImage (seq : Nat) (l : List SubInterval) : Bytes :=
  let l := l.reverse
  let fill (x : List Nat) : Bytes := padTo 60 (x.flatMap (leBytes 4))
  let b := leBytes 4 seq ++ leBytes 4 l.length ++ fill (l.map (·.ms)) ++
    (List.finRange 9).flatMap fun (e : Fin 9) => fill (l.map fun x => x.imp[e]) ++ fill (l.map fun x => x.exp[e])
  b ++ leBytes 4 (crc32c b)

/-! ### Session records (12 R318) -/

/-- The opening part, bytes 336 to 807 of a slot (12, table *Opening part, state 1*). -/
def RecordOpening.image (p : RecordOpening) : Bytes :=
  let b := leBytes 4 p.sessionId ++ leBytes 1 p.port ++ leBytes 1 p.priceClass ++ [0, 0] ++ leBytes 8 p.account ++ leBytes 8 p.openTime ++
    leBytes 8 p.openCommit ++ p.readouts.toList.flatMap (leBytes 8) ++ leBytes 4 p.priceSetId ++ p.prices.toList.flatMap (leBytes 4) ++
    List.replicate 44 0
  b ++ leBytes 4 (crc32c b)

/-- A record slot, 8,192 bytes (12, table *Session-record slot*). -/
def Dev.slotImage (d : Dev) (x : RecordSlot) : Bytes :=
  let put (state number : Nat) (body tail : Bytes) : Bytes :=
    let h := leBytes 4 0x53524543 ++ leBytes 1 state ++ [0] ++ leBytes 2 body.length ++ leBytes 4 number
    h ++ leBytes 4 (crc32c (h ++ body)) ++ padTo 320 body ++ padTo 7856 tail
  match x with
  | .opened n p => put 1 n [] p.image
  | .stored p b => put 2 b.number (d.recordBody b) p.image
  | .signed b sig => put 3 b.number (d.recordBody b) sig

/-! ### Burl's stores (16 R428, R429, R440) -/

/-- A key half, 192 bytes (16, table *Key half*); an empty one is all 0x00. -/
def halfImage (slot half : Nat) : Option KeyHalf → Bytes
  | none => List.replicate 192 0
  | some k =>
    let head := leBytes 1 0x5A ++ leBytes 1 k.typ ++ leBytes 2 k.attrs ++ leBytes 2 k.material.length ++ leBytes 1 slot ++ leBytes 1 half ++
      padTo 8 k.keyId ++ leBytes 4 k.generation
    let nonce := leBytes 1 slot ++ leBytes 1 half ++ [0, 0] ++ leBytes 8 k.counter
    let sealed := Config.gcm Config.wrappingKey nonce head k.material
    let n := sealed.length - 16
    let b := head ++ nonce ++ padTo 140 (sealed.take n) ++ padTo 16 (sealed.drop n)
    b ++ leBytes 4 (crc32c b)

/-- A cell of a monotonic counter: the value and its complement (16 R440). -/
def cellImage (v : Nat) : Bytes := leBytes 8 v ++ leBytes 8 (2 ^ 64 - 1 - v)

/-! ### The display frame journal (18 R491) -/

/-- The CRC-32 of profile 2 that engine 15 appends. -/
def crcFrame (b : Bytes) : Bytes := leBytes 4 (crc 32 0x04C11DB7 0xFFFFFFFF true 0xFFFFFFFF b)

/-- A copy of the header, 64 bytes. -/
def FrameHeader.image (h : FrameHeader) : Bytes :=
  let b := padTo 60 (leBytes 4 h.seq ++ leBytes 4 h.number ++ leBytes 1 h.kind ++ leBytes 1 h.band ++ leBytes 1 (if h.running then 1 else 0) ++
    leBytes 1 h.mask ++ leBytes 1 h.layer ++ leBytes 1 h.row ++ [0, 0] ++ leBytes 4 h.content)
  b ++ crcFrame b

/-- The step record, 128 bytes. -/
def StepRec.image (s : StepRec) : Bytes :=
  let b := leBytes 1 s.layer ++ leBytes 1 s.row ++ leBytes 2 s.half ++ leBytes 1 s.vcom ++ leBytes 1 s.vseg ++ leBytes 1 s.first ++
    leBytes 1 s.last ++ leBytes 96 s.pixels
  padTo 128 (b ++ crcFrame b)

/-! ### The stores by address -/

/-- Byte k of an image. -/
def byteOf (b : Bytes) (k : Nat) : Option Byte := b[k]?

namespace Dev

/-- A byte of the ferroelectric store that one of its layouts gives (01, table *Ferroelectric store*). -/
def ferroByte (d : Dev) (a : Nat) : Option Byte :=
  if a < 0x30000 then
    match d.energy.slots.toList.getD (a / 6144) none with
    | some (true, r) => byteOf r.image (a % 6144)
    | _ => none
  else if a < 0x34000 then
    match d.tariff.journal.find? fun e => e.seq % 512 = (a - 0x30000) / 32 with
    | some e => byteOf e.image (a % 32)
    | none => none
  else if a < 0x36000 then
    let k := a - 0x34000
    if k < 0x80 then (if d.display.header.seq % 2 = k / 64 then byteOf d.display.header.image (k % 64) else none)
    else if k < 0x100 then none
    else if k < 0x1C0 then (d.display.ledger.toList[k - 0x100]?).map fun (p, u) => BitVec.ofNat 8 ((if p then 1 else 0) + (if u then 2 else 0))
    else if k < 0x200 then none
    else if k < 0x280 then d.display.record.bind fun r => byteOf r.image (k - 0x200)
    else none
  else if a < 0x38000 then
    (d.burl.slots.toList[(a - 0x36000) / 4]?).bind fun k => byteOf (leBytes 4 k.word) (a % 4)
  else if a < 0x3E000 then
    let n := (a - 0x38000) / 192
    (d.burl.slots.toList[n / 2]?).bind fun k => byteOf (halfImage (n / 2) (n % 2) (if n % 2 = 0 then k.a else k.b)) ((a - 0x38000) % 192)
  else if a < 0x3E800 then
    (d.burl.cells.toList[(a - 0x3E000) / 32]?).bind fun (x, y) => byteOf (cellImage x ++ cellImage y) (a % 32)
  else if a < 0x3F000 then
    d.burl.sealHash.bind fun h => byteOf (h ++ leBytes 4 (crc32c h)) (a - 0x3E800)
  else byteOf (d.bytes Key.tamperMirror) (a - 0x3F000)

/-- An image with its header, signature and payload (17 R458). -/
def imageByte (x : Option (ImageHdr × Bytes)) (k : Nat) : Option Byte :=
  x.bind fun (h, p) => if k < 512 then byteOf (padTo 512 h.bytes) k else if k < 8368 then byteOf (padTo 7856 h.signature) (k - 512) else byteOf p (k - 8368)

/-- A byte of the image store; the layout of its directory is not given (17, table *Image store*). -/
def imageStoreByte (d : Dev) (k : Nat) : Option Byte :=
  if k < 0x100000 then none
  else if k < 0x1D00000 then
    let n := (k - 0x100000) / 0x200000
    imageByte (d.imageIn (n / 2) (decide (n % 2 = 1))) ((k - 0x100000) % 0x200000)
  else if k < 0x2D00000 then imageByte (d.stagedImage ((k - 0x1D00000) / 0x200000)) ((k - 0x1D00000) % 0x200000)
  else none

/-- A byte of the ledger partition (11, table *Ledger partition*). -/
def ledgerByte (d : Dev) (k : Nat) : Option Byte :=
  let entry (i : Fin 3) (base : Nat) : Option Byte := byteOf (leBytes 4 (indexAt d.ledger.index[i] ((k - base) / 4))) (k % 4)
  if k < 0xF42400 then (d.acct (k / 64)).bind fun a => byteOf a.image (k % 64)
  else if k < 0x1036640 then
    let w := d.tokenWord ((k - 0xF42400) / 4)
    byteOf (leBytes 4 (w.1 * 256 + w.2)) (k % 4)
  else if k < 0x1037000 then none
  else if k < 0x1037100 then
    let b := leBytes 4 d.accountCount ++ leBytes 4 (ledgerSlots - d.accountCount)
    byteOf (b ++ leBytes 4 (crc32c b)) (k - 0x1037000)
  else if k < 0x1038000 then none
  else if k < 0x1038400 then byteOf d.tokenMemory (k - 0x1038000)
  else if k < 0x1040000 then none
  else if k < 0x1180000 then entry 0 0x1040000
  else if k < 0x12C0000 then entry 1 0x1180000
  else if k < 0x1400000 then entry 2 0x12C0000
  else none

/-- A byte of the load-profile partition (10, table *Load-profile partition*). -/
def profileByte (d : Dev) (k : Nat) : Option Byte :=
  if k < 0x708000 then (d.tariff.profile.find? fun r => r.slot = k / 192).bind fun r => byteOf r.image (k % 192)
  else if k < 0x723000 then
    let n := (k - 0x708000) / 512
    (d.tariff.snaps.toList.getD (n % 24) none).bind fun v => (v.toList[n / 24]?).bind fun x => byteOf x.image (k % 512)
  else if k < 0x725000 then
    let seq := d.energy.bill.histSeq
    let newer := decide (seq ≠ 0 ∧ (seq - 1) % 2 = (k - 0x723000) / 0x1000)
    if newer then byteOf (historyImage seq d.tariff.history) ((k - 0x723000) % 0x1000)
    else if 2 ≤ seq then byteOf (historyImage (seq - 1) d.tariff.prevHistory) ((k - 0x723000) % 0x1000)
    else none
  else none

/-- A byte of the MRAM that one of its layouts gives (01, table *MRAM partitions*). -/
def mramByte (d : Dev) (a : Nat) : Option Byte :=
  match mramPartition a with
  | 0 => d.heart.sealedPart.map fun p =>
      ((({ d with obj := p.values } : Dev).sealedImage p.sealTime ++ leBytes 4 p.check)[a]?).getD 0xFF
  | 1 => d.imageStoreByte (a - 0x100000)
  | 2 => d.ledgerByte (a - 0x3100000)
  | 3 => (d.heart.records.find? fun (x : Nat × RecordSlot) => x.1 = (a - 0x4500000) / 8192).bind fun x =>
      byteOf (d.slotImage x.2) ((a - 0x4500000) % 8192)
  | 4 => d.profileByte (a - 0x8500000)
  | 5 => (d.heart.log.find? fun e => e.seq % 32768 = (a - 0x9500000) / 64).bind fun e => byteOf e.image (a % 64)
  | 6 => (d.heart.general.find? fun e => e.seq % 98304 = (a - 0x9700000) / 64).bind fun e => byteOf e.image (a % 64)
  | _ => none

/-- A byte of a store that the block itself writes, by the layout of the store. -/
def storeByte (d : Dev) : Region → Nat → Option Byte
  | .ferro, a => d.ferroByte a
  | .mram, a => d.mramByte a
  | _, _ => none

end Dev

/-- The byte that stands at an address of a target: what the block's own stores hold there, else what was written through the fabric
(log entry 9). -/
def State.byteAt (s : State) (r : Region) (a : Nat) : Byte := (s.dev.storeByte r a).getD (s.mem.read (flat r a))

/-- Bytes from an address on. -/
def State.bytesAt (s : State) (r : Region) (a n : Nat) : Bytes := (List.range n).map fun k => s.byteAt r (a + k)

/-- Would a write reach an entry that the general logbook holds? It is append-only (01, table *MRAM partitions*). -/
def Dev.logHolds (d : Dev) (r : Region) (a n : Nat) : Bool :=
  decide (r = .mram) && (List.range n).any fun k => decide (mramPartition (a + k) = 6) && (d.storeByte r (a + k)).isSome

/-- FABRIC_READ (01 R18, R20, R12): a refused read answers an error and is counted; a word that fails SECDED answers an error. A read of its
mailbox by a core takes the oldest message (log entry 69). -/
def execFabricRead (tag : BitVec 5) (r : Region) (addr words : Nat) (eccError : Bool) (s : State) : Out3 State :=
  if words = 0 ∨ 8 < words then .refused (.malformed "FABRIC_READ")
  else if !s.dev.powered then .next s
  else
    let bad := .next { s with dev := refuseTransaction s.dev tag.toNat r addr }
    match tagUsed s.dev tag with
    | none => bad
    | some i =>
      if regionSize r < addr + 4 * words ∨ !mayRead s.dev i r addr (4 * words) then bad
      else if eccError ∨ (r = .mram ∧ !s.dev.rail .vddMem) then .next { s with dev := s.dev.say (.fabric tag.toNat .error) }
      else match r with
        | .crossing c =>
          let (e, x) := s.dev.crossings[c].pop c
          .next { s with dev := ((s.dev.setCrossing c fun _ => x).unstall c).say (.fabric tag.toNat (.data e)) }
        | .timerChannel n =>
          let t := match s.dev.time.timers[n] with | some (t, _) => t | none => 0
          .next { s with dev := s.dev.say (.fabric tag.toNat (.data ((wordsOf 2 (leBytes 8 t)).take words))) }
        | .mailbox c =>
          let body := match s.dev.mail[coreNum c] with | [] => [] | m :: _ => m.body
          let d := { s.dev with mail := vmod s.dev.mail (coreNum c) fun q => q.drop 1 }
          .next { s with dev := d.say (.fabric tag.toNat (.data (wordsOf words (body ++ List.replicate 64 0)))) }
        | _ =>
          .next { s with dev := s.dev.say (.fabric tag.toNat (.data (wordsOf words (s.bytesAt r addr (4 * words))))) }

/-- FABRIC_WRITE (01 R18, R20, R13, R22; 02 R45, R53, R55): words to a memory, one entry to a crossing, or a compare value to a
timer channel, which the writing core arms. -/
def execFabricWrite (tag : BitVec 5) (r : Region) (addr : Nat) (words : List Word) (s : State) : Out3 State :=
  if words = [] ∨ 8 < words.length then .refused (.malformed "FABRIC_WRITE")
  else if !s.dev.powered then .next s
  else
    let bad := .next { s with dev := refuseTransaction s.dev tag.toNat r addr }
    match tagUsed s.dev tag with
    | none => bad
    | some i =>
      if regionSize r < addr + 4 * words.length ∨ !mayWrite s.dev s.mem i r addr (4 * words.length) ∨
          s.dev.logHolds r addr (4 * words.length) then bad
      else match r with
        | .crossing c =>
          let old := (s.dev.crossings[c].entries.head?).getD []
          let new := if c = 0x36 ∨ c = 0x28 then overlay old (addr / 4) words else words
          if c = 0x36 ∧ !(List.range 8).all fun n => pilotWordOk i (old.getD n 0) (new.getD n 0) then bad
          else
          let x := s.dev.crossings[c].writeOrStall c tag.toNat new
          let d := s.dev.setCrossing c fun _ => x
          .next { s with dev := if x.stalled = [] then d.say (.fabric tag.toNat .done) else d }
        | .timerChannel n =>
          match i with
          | .core k =>
            let t := { s.dev.time with timers := s.dev.time.timers.set n (some (leVal (bytesOf words), k)) }
            .next { s with dev := ({ s.dev with time := t } : Dev).say (.fabric tag.toNat .done) }
          | _ => bad
        | _ =>
          if r = .mram ∧ !s.dev.rail .vddMem then .next { s with dev := s.dev.say (.fabric tag.toNat .error) }
          else .next { s with
            mem := s.mem.writeBytes (flat r addr) (bytesOf words)
            dev := s.dev.say (.fabric tag.toNat .done) }

end Sys2Proof.Machine
end

