-- ==== Sys2Proof/Machine/CanopyRead.lean ====
section
/-! DEFINITION. APP_READ: reads of the coordinator over the mains (14 R405). -/

namespace Sys2Proof.Machine

namespace Dev

/-- The answer to one reference: the value of an LGL object of fixed size (05 R109), everything else 0x02000001. -/
def appValue (d : Dev) (ref : Nat) : Nat × Bytes :=
  match keyOfRef ref with
  | none => (Code.noObject, [])
  | some k =>
    match lookup k with
    | .ok r => if r.acc = .lgl ∧ r.ty.fixed then (0, d.wire k) else (Code.noObject, [])
    | .error _ => (Code.noObject, [])

/-- The entries of a response that holds `used` bytes already: once one would exceed MaxPayload, counting 5 bytes for each that is left,
it and the rest carry 0x01000004 (14 R405; log entry 63). -/
def appEntries (limit : Nat) : Nat → List (Nat × Bytes) → List (Nat × Bytes)
  | _, [] => []
  | used, (c, b) :: r =>
    if used + 5 + b.length + 5 * r.length ≤ limit then (c, b) :: appEntries limit (used + 5 + b.length) r
    else ((c, b) :: r).map fun _ => (Code.tooLarge, [])

/-- APP_READ: answered from the coordinator only, while ReadFromCoordinator is 1; a Count outside 1 to 16 is no APP_READ. -/
def appRead (f : CnpFrame) (id : Nat) (refs : List Nat) (d : Dev) : Dev :=
  canopyReceive f true (fun n d =>
    if f.src.val ≠ 0 ∨ d.canopy.node ≠ .member ∨ !d.canopy.mayRead ∨ refs.length = 0 ∨ 16 < refs.length then d
    else
      let limit := match d.neighAt n with | some x => x.maxPay | none => 0
      d.enqueueCnp f.src (.appResponse id (appEntries limit 13 (refs.map d.appValue))) true) d

end Dev

def execAppRead (f : CnpFrame) (id : Byte) (refs : List Word) (s : State) : Out3 State :=
  s.onDev (Dev.appRead f id.toNat (refs.map fun r => r.toNat))

end Sys2Proof.Machine
end

