-- ==== Sys2Proof/Machine/Validate.lean ====
section
/-! DEFINITION. What makes a staged group valid: the rules that link its members, and the member that a failed commit names (05 R123 to
R125, R130; the group rules of 06 to 18). Each rule answers the lowest member it involves. -/

namespace Sys2Proof.Machine

/-- The lowest member of each rule that fails: a member where its condition holds. -/
def failing (l : List (Bool × Nat)) : List Nat := (l.filter (·.1)).map (·.2)

namespace Dev

/-! ### Sites and ports (07 R160, R187) -/

/-- Group 0x07: SiteExportLimit does not exceed the lowest SiteLimit. -/
def siteFaults (v : Dev) : List Nat :=
  failing [((List.range 3).any fun i => decide (v.nat (Key.siteLimitL i) < v.nat Key.siteExportLimit), Key.siteLimitL 0)]

/-- The eight GPIOs of the keypad (11 R296). -/
def keypadGpios (v : Dev) : List Nat :=
  (List.range 4).map (v.nat Key.keypadRowGpio + ·) ++ (List.range 4).map (v.nat Key.keypadColumnGpio + ·)

/-- The GPIOs a port names. -/
def portGpios (v : Dev) (p : PortId) : List Nat := [v.nat (Key.seqOutGpio p), v.nat (Key.permitInGpio p)].filter (· ≠ 0xFF)

/-- Group 0x08 + p. -/
def portFaults (v : Dev) (p : PortId) : List Nat :=
  let mask := v.nat (Key.moduleMask p)
  let shared := allPorts.any fun (q : PortId) => decide (q ≠ p) && v.isDc q && decide (mask &&& v.nat (Key.moduleMask q) ≠ 0)
  let taken (g : Nat) : Bool := decide (g ≠ 0xFF) &&
    (allPorts.any (fun (q : PortId) => decide (q ≠ p) && (v.portGpios q).contains g) ||
      (v.flag Key.keypadEnable && v.keypadGpios.contains g))
  let dc := v.nat (Key.dcSystem p)
  failing [
    (v.isDc p && (decide (mask = 0) || shared), Key.portMode p),
    (taken (v.nat (Key.seqOutGpio p)), Key.seqOutGpio p),
    (taken (v.nat (Key.permitInGpio p)), Key.permitInGpio p),
    (decide (dc = 1 ∨ dc = 2) && decide (v.nat (Key.seqOutGpio p) = 0xFF), Key.dcSystem p),
    (decide (dc = 1) && decide (v.nat (Key.permitInGpio p) = 0xFF), Key.dcSystem p),
    (v.flag (Key.exportAllowed p) && !(v.nat (Key.protocols p)).testBit 1, Key.exportAllowed p),
    (decide (v.nat (Key.authModes p) = 0), Key.authModes p)]

/-! ### Metrology (08 R210) -/

/-- The slot of a channel within its port, none for the site. -/
def slotOfChan (c : Fin 68) : Option Nat := if c.val < 4 then none else some ((c.val - 4) % 8)

/-- Group 0x10. -/
def acquisitionFaults (v : Dev) : List Nat :=
  let chans : List (Fin 68) := List.finRange 68
  let source (c : Fin 68) : Nat := v.nat (Key.channelSource c)
  let shared : List (Fin 68) := chans.filter fun (c : Fin 68) =>
    decide (0x10 ≤ source c ∧ source c ≤ 0x1F) && chans.any fun (e : Fin 68) => decide (e ≠ c ∧ source e = source c)
  let flux : List (Fin 68) := chans.filter fun (c : Fin 68) => decide (source c = 0x20 ∧ slotOfChan c ≠ some 7)
  let coil : List (Fin 68) := chans.filter fun (c : Fin 68) => decide (v.nat (Key.sensorType c) = 3) &&
    (match slotOfChan c with
     | none => true
     | some k => decide (k < 3 ∨ 6 < k) || (decide (k = 3 ∨ k = 6) && (match portOfChan c with | some p => v.isDc p | none => false)))
  let four : List (Fin 68) := chans.filter fun (c : Fin 68) => decide ((v.nat (Key.sensorType c) = 4) ≠ (source c = 0x20))
  let reference := allPorts.filter fun (p : PortId) =>
    let r := v.nat (Key.referenceChannel p)
    !decide (r < 3 ∨ (4 + 8 * p.val ≤ r ∧ r ≤ 6 + 8 * p.val))
  (shared ++ flux ++ four).map (fun (c : Fin 68) => Key.channelSource c) ++ coil.map (fun (c : Fin 68) => Key.sensorType c) ++
    reference.map fun (p : PortId) => Key.referenceChannel p

/-- The ports whose channels a commit of group 0x10 changes: channels 0 to 3 are every port's, a bitstream clock changes the channels
fed by its input. -/
def acquisitionPorts (d v : Dev) : List PortId :=
  let moved (c : Fin 68) : Bool :=
    let src := v.nat (Key.channelSource c)
    decide (src ≠ d.nat (Key.channelSource c)) || decide (v.nat (Key.inputGain c) ≠ d.nat (Key.inputGain c)) ||
      decide (v.nat (Key.sensorType c) ≠ d.nat (Key.sensorType c)) ||
      (decide (0x10 ≤ src ∧ src ≤ 0x1F) && decide (v.nat (Key.bitstreamClock (src - 0x10)) ≠ d.nat (Key.bitstreamClock (src - 0x10))))
  let l : List (Fin 68) := (List.finRange 68).filter moved
  allPorts.filter fun (p : PortId) => l.any fun (c : Fin 68) => decide (c.val < 4) || decide (portOfChan c = some p)

/-! ### Demand, billing, prepayment (10 R260, R264; 11 R295, R296, R305) -/

/-- Group 0x21. -/
def demandFaults (v : Dev) : List Nat :=
  let n := v.nat Key.subIntervals
  let sliding := decide (v.nat Key.demandMethod = 1)
  failing [
    (decide (n = 0), Key.subIntervals),
    (!sliding && decide (n ≠ 1), Key.demandMethod),
    (sliding && !decide (2 ≤ n ∧ n ≤ 15), Key.demandMethod),
    (sliding && decide (n ≠ 0) && decide (v.nat Key.demandInterval * 60 % n ≠ 0), Key.demandInterval)]

/-- Group 0x22: a weekly schedule has BillingDay 1 to 7. -/
def billingFaults (v : Dev) : List Nat :=
  failing [(decide (v.nat Key.billingSchedule = 2 ∧ 7 < v.nat Key.billingDay), Key.billingSchedule)]

/-- Group 0x24. -/
def policyFaults (v : Dev) : List Nat :=
  let l := v.keypadGpios
  let twice := l.any fun g => decide (1 < (l.filter (· = g)).length)
  failing [
    (decide (v.int Key.reconnectCredit < v.int Key.minStartCredit), Key.minStartCredit),
    (v.flag Key.keypadEnable && (l.any (fun g => decide (47 < g)) || twice || allPorts.any fun (p : PortId) =>
      (v.portGpios p).any fun g => l.contains g), Key.keypadEnable)]

/-- Group 0x25: every enabled window has WindowStart ≠ WindowEnd. -/
def windowFaults (v : Dev) : List Nat :=
  failing ((List.range 8).map fun w =>
    (v.flag (Key.windowEnable w) && decide (v.nat (Key.windowStart w) = v.nat (Key.windowEnd w)), Key.windowStart w))

/-! ### Safety, Canopy, interfaces (13 R363; 14 R407; 06 R158) -/

/-- Group 0x28. -/
def safetyFaults (v : Dev) : List Nat :=
  let f := v.nat Key.nominalFrequency * 1000
  failing ([
    (decide (v.nat Key.aux0Function ≠ 0 ∧ v.nat Key.aux0PortMask = 0), Key.aux0Function),
    (decide (v.nat Key.aux1Function ≠ 0 ∧ v.nat Key.aux1PortMask = 0), Key.aux1Function),
    (decide (f ≤ v.nat Key.gridFrequencyLow), Key.gridFrequencyLow),
    (decide (v.nat Key.gridFrequencyHigh ≤ f), Key.gridFrequencyLow)] ++
    (List.range 8).map (fun p => (decide (v.nat (Key.imdWarning p) ≤ v.nat (Key.imdFault p)), Key.imdWarning p)) ++
    (List.range 16).map fun k =>
      (decide (v.nat (Key.sensorPort k) ≠ 0xFF ∧ v.int (Key.tripLimit k) < v.int (Key.derateStart k) + 50), Key.derateStart k))

/-- Group 0x2A: DREZU mode needs a half-cycle mask that is not empty. -/
def canopyFaults (v : Dev) : List Nat :=
  failing [(v.flag Key.drezuMode && (List.range 6).all fun i => decide (v.nat (Key.halfCycleMask i) = 0), Key.drezuMode)]

/-- The enabled interfaces, as in AllowedInterfaces. -/
def enabledMask (v : Dev) : Nat :=
  (if v.flag Key.can5Enable then 1 else 0) + (if v.flag Key.eth0Enable then 2 else 0) + (if v.flag Key.eth1Enable then 4 else 0)

/-- Group 0x2B. -/
def interfaceFaults (v : Dev) : List Nat :=
  let shorter := min (v.nat Key.eth0PrefixLength) (v.nat Key.eth1PrefixLength)
  let net (a : Nat) : Nat := a / 2 ^ (32 - shorter)
  failing [
    (decide (v.enabledMask = 0), Key.can5Enable),
    (decide (net (v.nat Key.eth0Address) = net (v.nat Key.eth1Address)), Key.eth0Address),
    (decide (v.nat Key.can5BaseId % 0x40 ≠ 0), Key.can5BaseId),
    ((List.range 16).all fun s => !(v.flag (Key.claimAllowed s) && v.flag (Key.keyPresent s) &&
      decide (v.nat (Key.allowedInterfaces s) &&& v.enabledMask ≠ 0)), Key.allowedInterfaces 0)]

/-! ### Display, tamper policy, publish lists (18 R495, R496; 16 R448; 05 R130) -/

/-- Is a scroll entry in order: kind, dwell, and for a legal item its code and entity? -/
def scrollOk (w : Nat) : Bool :=
  let kind := w / 0x1000000
  let code := w / 0x10000 % 256
  let ent := w / 0x100 % 256
  let dwell := w % 256
  decide (kind ≤ 1) && decide (2 ≤ dwell ∧ dwell ≤ 60) &&
    (if kind = 1 then decide (code ≤ 15)
     else if code = 1 ∨ code = 2 ∨ code = 0x0A ∨ code = 0x0B then decide (ent ≤ 7)
     else if 3 ≤ code ∧ code ≤ 6 then decide (ent = 8)
     else if 7 ≤ code ∧ code ≤ 9 then decide (ent = 0xFF)
     else false)

/-- Group 0x2C. An item of 0xF381 that no entry shows involves every scroll entry. -/
def displayFaults (v : Dev) : List Nat :=
  failing ([
    (decide (v.nat Key.scrollCount < v.nat Key.mandatoryCount), Key.scrollCount),
    (decide (v.appended ≠ []), Key.scrollEntry 0)] ++
    (List.range (v.nat Key.scrollCount)).map fun i => (!scrollOk (v.nat (Key.scrollEntry i)), Key.scrollEntry i))

/-- Group 0x2E. -/
def tamperFaults (v : Dev) : List Nat :=
  failing ((List.range 16).map fun i => (decide (v.int (Key.responseLevel i) < minimumLevel (i + 1)), Key.responseLevel i))

/-- The size of a publish entry: none unless it names an existing object that is readable and of fixed size. -/
def entrySize (ref : Nat) : Option Nat :=
  match keyOfRef ref with
  | none => none
  | some k => match lookup k with
    | .error _ => none
    | .ok r => if r.acc = .wo ∨ r.acc = .cmd ∨ !r.ty.fixed then none else some r.ty.size

/-- Group 0x30 + n; the payload limit is the lowest among the interfaces the destination may use (06 R151). -/
def listFaults (v : Dev) (n : Nat) : List Nat :=
  let count := v.nat (Key.entryCount n)
  let dest := v.nat (Key.listDestination n)
  let sizes := (List.range count).map fun i => (i, entrySize (v.nat (Key.listEntry n i)))
  let limit := if dest < 16 ∧ (v.nat (Key.allowedInterfaces dest)).testBit 0 then 40 else 1020
  failing ([
    (decide (count ≠ 0 ∧ dest = 0xFF), Key.listDestination n),
    (decide (limit < (sizes.map fun x => x.2.getD 0).sum), Key.listDestination n)] ++
    sizes.map fun x => (x.2.isNone, Key.listEntry n x.1))

/-! ### A group -/

/-- The objects as they stand after the commits received before in this tick, with a group's shadow over them (05 R123, R124). -/
def mergedView (d : Dev) (g : Nat) : Dev :=
  let earlier := d.dict.items.foldl (fun (v : Dev) x => match x with | .commit _ _ l => v.putAll l | _ => v) d
  earlier.putAll (d.group g).shadow

/-- Members of failed rules that only members take part in. -/
def ruleFaults (v : Dev) (g : Nat) : List Nat :=
  if g = 0x07 then v.siteFaults
  else if h : 0x08 ≤ g ∧ g < 0x10 then v.portFaults ⟨g - 0x08, by omega⟩
  else if g = 0x10 then v.acquisitionFaults
  else if g = 0x20 then (calendarFault v.nat v.int).toList
  else if g = 0x21 then v.demandFaults
  else if g = 0x22 then v.billingFaults
  else if g = 0x24 then v.policyFaults
  else if g = 0x25 then v.windowFaults
  else if g = 0x28 then v.safetyFaults
  else if g = 0x2A then v.canopyFaults
  else if g = 0x2B then v.interfaceFaults
  else if g = 0x2C then v.displayFaults
  else if g = 0x2E then v.tamperFaults
  else if 0x30 ≤ g ∧ g < 0x40 then v.listFaults (g - 0x30)
  else []

/-- May the group change only while ports that are not now in Clearing are (05 R125; 07 R160; 08 R210; 09 R247; 13 R363)? -/
def portsBusy (d v : Dev) (g : Nat) : Bool :=
  if h : 0x08 ≤ g ∧ g < 0x10 then
    let s := (d.port ⟨g - 0x08, by omega⟩).session
    !decide (s = .idle ∨ s = .ended ∨ s = .faulted)
  else if g = 0x10 then (d.acquisitionPorts v).any fun p => !d.clearing p
  else if h : 0x18 ≤ g ∧ g < 0x20 then !d.clearing ⟨g - 0x18, by omega⟩
  else if g = 0x28 then !d.allClearing
  else false

/-- Is a staging of a plan with no steps (17 R463: such a commit ends ARMED; log entry 59)? -/
def disarms (d v : Dev) (g : Nat) : Bool := decide (g = 0x2D) && decide (d.nat Key.planState = 2) && decide (v.nat Key.planStepCount = 0)

/-- Why a commit of a group aborts: the first applicable code, and the member it names (05 R123, R125, R126, R135; 17 R461). -/
def commitFault (d : Dev) (g : Nat) : Option (Nat × Nat) :=
  let v := d.mergedView g
  if d.groupLocked g && !d.disarms v g then some (Code.locked, 0)
  else if (d.group g).phase = .expired then some (Code.expired, 0)
  else match minKey (v.ruleFaults g) with
    | some k => some (Code.groupInvalid, k)
    | none =>
      match (if g = 0x2D then planFault v v.nat else none) with
      | some (c, k) => if c = Code.groupInvalid ∨ !d.portsBusy v g then some (c, k) else some (Code.notClearing, 0)
      | none => if d.portsBusy v g then some (Code.notClearing, 0) else none

end Dev
end Sys2Proof.Machine
end

