-- ==== Sys2Proof/Machine/Writes.lean ====
section
/-! DEFINITION. Staging, Commit and Discard, legal commands posted, the end of a registration (05 R112 to R128; 06 R146, R154; 12 R309, R310). -/

namespace Sys2Proof.Machine

/-- The stop-class commands (06 R156). -/
def stopClass (key : Nat) : Bool :=
  decide (key = Key.stopAll) || Dev.allPorts.any fun (p : PortId) => decide (key = Key.portStop p ∨ key = Key.exportStop p)

/-- What the access code of an object says of a write (05 R112). -/
def accessFault (r : Row) : Option Nat :=
  match r.acc with
  | .ro => some Code.readOnly
  | .lgl => some Code.legalObject
  | _ => none

/-- The check field of a segmented transfer, over the value bytes alone (06 R148). -/
def checked (value : Bytes) : Bytes := value ++ leBytes 4 (crc32c value)

namespace Dev

/-! ### The stores' limits (05 R116, R127) -/

/-- Bytes applied or waiting for the tick boundary that the journal has not stored yet. -/
def unstoredBytes (d : Dev) : Nat :=
  (d.dict.journal.map (·.bytes)).sum + (d.dict.items.map fun x => match x with
    | .write _ k v => (match rowOf k with | some r => if r.vol then 0 else sizeOf k v | none => 0)
    | .commit _ _ l => bytesOfStore l
    | _ => 0).sum

/-- Would `n` more bytes exceed the 32 KiB that may wait for the journal? -/
def storeBusy (d : Dev) (n : Nat) : Bool := decide (n ≠ 0 ∧ 32768 < d.unstoredBytes + n)

/-- The shadow a staged write changes: a commit under way keeps its own. -/
def openShadow (d : Dev) (g : Nat) : Store := if (d.group g).phase = .staging then (d.group g).shadow else []

/-- Codes that refuse to stage a value (05 R125 to R127; 07 R159; log entry 59). -/
def stageCodes (d : Dev) (g key : Nat) (v : Val) : List Nat :=
  let old := bytesOfStore (d.openShadow g)
  let new := bytesOfStore ((d.openShadow g).insert key v)
  let free := decide (key = Key.planStepCount ∧ v = .int 0) && decide (d.nat Key.planState = 2)
  (if d.groupLocked g && !free then [Code.locked] else []) ++
  (if (d.group g).phase = .expired then [Code.expired] else []) ++
  (if old < new ∧ (32768 < new ∨ 131072 < d.stagedTotal - old + new) then [Code.noSpace] else []) ++
  (if 0x0C ≤ g ∧ g ≤ 0x0F ∧ key % 256 = 1 ∧ v = .int 3 then [Code.modeUnsupported] else [])

/-- Put a value into a group's shadow; the first one starts the 60 s (05 R122, R126). -/
def stage (d : Dev) (g key : Nat) (v : Val) : Dev :=
  d.setGroup g fun y =>
    if y.phase = .staging then { y with shadow := y.shadow.insert key v }
    else ⟨.staging, [(key, v)], d.nowMs, d.nowUs⟩

/-! ### Expedited writes -/

/-- Why a write of a writable object is refused, every applicable code (05 R116 to R120, R128, R135). -/
def writeCodes (d : Dev) (key : Nat) (r : Row) (data : Bytes) : List Nat :=
  let v := r.ty.decode data
  (valueFault key r data).toList ++ d.writeBlocked.toList ++
  (match r.acc with
   | .rws => (match groupOf key with | some g => d.stageCodes g key v | none => [])
   | .cmd => if key = Key.legalCommand ∧ data.length < 84 then [Code.range] else []
   | _ => if !r.vol && d.storeBusy data.length then [Code.busy] else [])

/-- A message as posts of up to 64 bytes each (01 R18), `n` of them at most. -/
def postsOf (tag : Nat) : Nat → Bytes → List Mail
  | 0, _ => []
  | n + 1, b => if b = [] then [] else ⟨tag, b.take 64⟩ :: postsOf tag n (b.drop 64)

/-- An external legal command is posted to Heartwood's mailbox and acknowledged at once (01 R31; 12 R309). Heartwood takes one of the wrong
shape at once, and its first check refuses it (R310). -/
def postLegal (d : Dev) (a : Ack) (data : Bytes) : Dev :=
  let d := d.ok a
  let code := leVal ((data.drop 1).take 1)
  let ok := decide (data.length = 84 + leVal ((data.drop 2).take 2)) && decide (leVal (data.take 1) = 1) && decide (1 ≤ code ∧ code ≤ 4)
  if ok ∨ !d.heartwoodTakes then
    { d with mail := vmod d.mail (coreNum .heartwood) fun q => q ++ postsOf (if d.activeB then 0x02 else 0x01) (data.length / 64 + 1) data }
  else (((d.putNat Key.lastLegalCode code).putNat Key.lastLegalResult Code.encoding).bump Key.legalRefusedCount).legal 0x0606 0xFF
    (leBytes 1 code ++ (data.drop 4).take 8 ++ leBytes 4 Code.encoding)

/-! ### Commit and Discard (05 R123 to R126) -/

/-- The outcome of a Commit of the owner, which LastResult and FailingObject show (05 R123). -/
def commitOutcome (d : Dev) (g code failing : Nat) : Dev := (d.putNat (Key.lastResult g) code).putNat (Key.failingObject g) failing

/-- A Commit written to the directory object of a group. One that follows another of the same group in the same tick finds no shadow of its own
and succeeds (log entry 72). -/
def commitServe (d : Dev) (g : Nat) (data : Bytes) (a : Ack) : Dev :=
  match d.ownerFault a.slot with
  | some c => d.abort a c
  | none =>
    match lookup a.key with
    | .error c => d.abort a c
    | .ok r =>
      let shadow := d.openShadow g
      let empty := decide ((d.group g).phase = .empty ∨ (d.group g).phase = .committing)
      let fault : Option (Nat × Nat) := if empty then (if d.groupLocked g && !d.disarms (d.mergedView g) g then some (Code.locked, 0) else none)
        else d.commitFault g
      let codes := (if d.storeBusy (bytesOfStore shadow) then [Code.busy] else []) ++ (valueFault a.key r data).toList ++ d.writeBlocked.toList ++
        (fault.map (·.1)).toList
      match firstCode codes with
      | some c => (d.commitOutcome g c (if fault.map (·.1) = some c then refOf ((fault.map (·.2)).getD 0) else 0)).abort a c
      | none =>
        if empty then (d.commitOutcome g 0 0).ok a
        else (d.setGroup g fun y => { y with phase := .committing }).enqueue (.commit a g shadow)

/-- A Commit in a message of its own. -/
def commitRequest (m : HostMsg) (g : Nat) (data : Bytes) (d : Dev) : Dev :=
  hostRequest m (Key.groupCommit g) (fun d => d.commitServe g data (d.ackOf m (Key.groupCommit g))) d

/-- A Discard: STAGING and EXPIRED return to EMPTY, logged with cause 4 (log entry 21). -/
def discardServe (g : Nat) (a : Ack) (_ : Val) (d : Dev) : Dev :=
  let y := d.group g
  let d : Dev := if y.phase = .staging ∨ y.phase = .expired then
      (d.setGroup g fun _ => ⟨.empty, [], 0, 0⟩).general (.stagedDiscarded g (bytesOfStore y.shadow) 4)
    else d
  d.ok a

def discardRequest (m : HostMsg) (g : Nat) (data : Bytes) (d : Dev) : Dev := cmdWrite m (Key.groupDiscard g) false data (discardServe g) d

/-- SHADOW_TIMEOUT (05 R126): 60 s after the first write into the shadow. -/
def shadowTimeout (g : Nat) (d : Dev) : Dev :=
  if d.sequencerUp ∧ (d.group g).phase = .staging ∧ (d.group g).sinceMs + 60000 ≤ d.nowMs then d.discardGroup g 1 else d

/-! ### The end of a registration (06 R146, R154) -/

/-- A slot's registration lapses or is ended: its context is zeroed, its statement goes, and an owner loses ownership, with the time of the loss
unless Deregister ended it (06 R158, 0x1800.07). -/
def registrationOver (d : Dev) (s : SlotId) (timed : Bool) : Dev :=
  let owner := decide (d.owner = some s)
  let d := (d.zeroRegistration s).dropAttest s
  if owner then (if timed then d.loseOwnership else d.dropOwnership) else d

/-- DEREGISTER: it acts at the tick boundary. -/
def deregisterServe (target : SlotId) (a : Ack) (_ : Val) (d : Dev) : Dev := d.enqueue (.deregister a target)

/-- A Deregister takes effect: answered, then the registration ends. -/
def applyDeregister (d : Dev) (a : Ack) (target : SlotId) : Dev :=
  let d := d.ok a
  if (d.slot target).registered then d.registrationOver target false else d

end Dev

/-! ### The commands -/

def execCommit (m : HostMsg) (g : Fin 64) (data : Bytes) (s : State) : Out3 State := s.onDev (Dev.commitRequest m g data)
def execDiscard (m : HostMsg) (g : Fin 64) (data : Bytes) (s : State) : Out3 State := s.onDev (Dev.discardRequest m g data)
def execShadowTimeout (g : Fin 64) (s : State) : Out3 State := s.onDev (Dev.shadowTimeout g)
def execDeregister (m : HostMsg) (target : SlotId) (data : Bytes) (s : State) : Out3 State :=
  s.onDev (cmdWrite m (Key.deregister target) false data (Dev.deregisterServe target))

end Sys2Proof.Machine
end

