-- ==== Sys2Proof/Machine/Commands.lean ====
section
/-! DEFINITION. Host writes by object: RW waits for the tick boundary, RWS is staged, and a command is carried out, whether it comes in one
message or in segments (05 R112, R117 to R121; 06 R147, R148; log entry 13). -/

namespace Sys2Proof.Machine

/-! ### Commands by object -/

/-- The service of a command object that is one of a row of like objects. What the value alone does not show (whether a signature verifies, what
a token decrypts to) is a free value of it (log entry 13). -/
def rowService (idx sub : Nat) (data : Bytes) : Option (Ack → Val → Dev → Dev) :=
  if 0x1400 ≤ idx ∧ idx < 0x1440 then (if sub = 4 then some (Dev.discardServe (idx - 0x1400)) else none)
  else if h : 0x1810 ≤ idx ∧ idx ≤ 0x181F then (if sub = 0x0C then some (Dev.deregisterServe ⟨idx - 0x1810, by omega⟩) else none)
  else if h : 0x2000 ≤ idx ∧ idx < 0x2800 ∧ idx % 0x100 = 0x20 then
    let p : PortId := ⟨(idx - 0x2000) / 0x100, by omega⟩
    match sub with
    | 0x01 => some (portStartServe p)
    | 0x02 => some (portStopServe p)
    | 0x03 => some (exportStopServe p)
    | 0x06 => some (unlockServe p)
    | _ => none
  else if h : 0x5300 ≤ idx ∧ idx ≤ 0x5307 then
    let p : PortId := ⟨idx - 0x5300, by omega⟩
    if sub = 0x0A then some (authAnswerServe p) else if sub = 0x0B then some (externalIdServe p) else none
  else if h : 0x6400 ≤ idx ∧ idx ≤ 0x6407 then (if sub = 1 then some (contactorFaultClearServe ⟨idx - 0x6400, by omega⟩) else none)
  else if h : 0x9100 ≤ idx ∧ idx ≤ 0x9107 then
    let i : Fin 8 := ⟨idx - 0x9100, by omega⟩
    if sub = 1 then some fun a _ d => imageHeaderServe i { Config.imageHeader data with length := data.length } a d
    else if sub = 2 then some fun a _ d => imageChunkServe i data a d else none
  else if h : 0x9400 ≤ idx ∧ idx < 0x9420 then
    let u : Fin 32 := ⟨idx - 0x9400, by omega⟩
    if sub = 2 then some (takeOutServe u) else if sub = 3 then some (returnServe u) else none
  else none

/-- The service of a single command object. -/
def soleService (key : Nat) (data : Bytes) : Option (Ack → Val → Dev → Dev) :=
  if key = Key.calStart then some calStartServe
  else if key = Key.closeNow then some closeNowServe
  else if key = Key.setTime then some setTimeServe
  else if key = Key.writeRecord then some writeRecordServe
  else if key = Key.confirmCheck then some confirmCheckServe
  else if key = Key.rejoin then some rejoinServe
  else if key = Key.refreshToneMaps then some refreshToneMapsServe
  else if key = Key.commission then some commissionServe
  else if key = Key.keyImport then some (keyImportServe { Config.importBlob data with length := data.length })
  else if key = Key.keyGenerate then some (keyGenerateServe (Config.verifies key data))
  else if key = Key.keyErase then some keyEraseServe
  else if key = Key.clearHold then some clearHoldServe
  else if key = Key.cancelPlan then some cancelPlanServe
  else if key = Key.serviceRestart then some serviceRestartServe
  else if key = Key.refreshNow then some refreshNowServe
  else if key = Key.cvuClearCounters then some cvuClearCountersServe
  else if key = Key.xingClearCounters then some crossingClearCountersServe
  else if key = Key.stopAll then some stopAllServe
  else if key = Key.tokenSubmit then some (tokenSubmitServe (Config.tokenFacts data))
  else if key = Key.hostCredit then some (hostCreditServe (Config.verifies key data) (Config.verifies (key + 0x1000000) data) data)
  else if key = Key.legalCommand then some fun a _ d => d.postLegal a data
  else none

/-- What carries out a write to a command object. -/
def commandService (key : Nat) (data : Bytes) : Option (Ack → Val → Dev → Dev) :=
  (rowService (key / 256) (key % 256) data).or (soleService key data)

/-- The group a Commit object commits. -/
def commitOf (key : Nat) : Option Nat := if 0x1400 ≤ key / 256 ∧ key / 256 < 0x1440 ∧ key % 256 = 3 then some (key / 256 - 0x1400) else none

namespace Dev

/-! ### Whole values -/

/-- Refuse a write; the refusal of a Commit also shows in its group, but for the codes of category 0x04 (05 R123). -/
def abortWrite (d : Dev) (a : Ack) (code : Nat) : Dev :=
  match commitOf a.key, lookup a.key with
  | some g, .ok _ => if code / 0x1000000 = 4 then d.abort a code else (d.commitOutcome g code 0).abort a code
  | _, _ => d.abort a code

/-- Take an accepted write: RW and WO wait for the tick boundary, RWS goes into the shadow, a command is carried out. -/
def takeWrite (d : Dev) (a : Ack) (key : Nat) (r : Row) (data : Bytes) : Dev :=
  let v := r.ty.decode data
  match r.acc with
  | .rws => (match groupOf key with | some g => (d.stage g key v).ok a | none => d.ok a)
  | .cmd => (match commandService key data with | some f => f a v d | none => d.ok a)
  | _ => d.enqueue (.write a key v)

/-- Serve a write of whole value bytes, in the order of R135. -/
def serveWrite (d : Dev) (a : Ack) (key : Nat) (data : Bytes) : Dev :=
  match commitOf key with
  | some g => d.commitServe g data a
  | none =>
    match (if stopClass key then none else d.ownerFault a.slot) with
    | some c => d.abort a c
    | none =>
      match lookup key with
      | .error c => d.abort a c
      | .ok r =>
        match accessFault r with
        | some c => d.abort a c
        | none =>
          match firstCode (d.writeCodes key r data) with
          | some c => d.abort a c
          | none => d.takeWrite a key r data

/-! ### Segmented writes (05 R117, R121; 06 R148) -/

/-- End the open transfer into the device with a code. -/
def abortRx (d : Dev) (s : SlotId) (code : Nat) : Dev :=
  match (d.slot s).rx with
  | none => d
  | some t => (d.setSlot s fun h => { h with rx := none }).abortWrite t.ack code

/-- The last segment has come: the byte count, the check, and the write (06 R148). -/
def finishRx (d : Dev) (s : SlotId) (t : RxTransfer) : Dev :=
  let d := d.setSlot s fun h => { h with rx := none }
  let value := t.data.take (t.total - 4)
  if t.data.length ≠ t.total then d.abortWrite t.ack Code.segmentSequence
  else if t.data ≠ checked value then (d.badFdp s).abortWrite t.ack Code.segmentCheck
  else d.serveWrite t.ack t.ack.key value

/-- Codes a segmented write meets at its first segment, from its declared Total. -/
def segmentCodes (d : Dev) (key : Nat) (r : Row) (total : Nat) (data : Bytes) : List Nat :=
  (if total < 4 then [Code.tooShort] else []) ++
  (if r.ty.size + 4 < total then [Code.tooLarge] else []) ++
  (if total < data.length then [Code.segmentSequence] else []) ++
  (if r.ty.fixed ∧ total < r.ty.size + 4 then [Code.lengthShort] else []) ++
  d.writeBlocked.toList ++
  (match r.acc, groupOf key with
   | .rws, some g => (if d.groupLocked g then [Code.locked] else []) ++ (if (d.group g).phase = .expired then [Code.expired] else [])
   | _, _ => [])

/-- The first message of a segmented write opens a transfer, and ends one that is open. -/
def openRx (d : Dev) (a : Ack) (total : Nat) (data : Bytes) : Dev :=
  let d := d.abortRx a.slot Code.segmentSequence
  match (if stopClass a.key then none else d.ownerFault a.slot) with
  | some c => d.abortWrite a c
  | none =>
    match lookup a.key with
    | .error c => d.abortWrite a c
    | .ok r =>
      match accessFault r with
      | some c => d.abortWrite a c
      | none =>
        match firstCode (d.segmentCodes a.key r total data) with
        | some c => d.abortWrite a c
        | none =>
          let t : RxTransfer := ⟨a, total, data, 1, d.nowMs⟩
          let d := d.coverFdp a.slot true (data.take (total - 4))
          if data.length = total then d.finishRx a.slot t else d.setSlot a.slot fun h => { h with rx := some t }

/-- A WRITE: in segments, or expedited with all its bytes. -/
def writeServe (d : Dev) (a : Ack) (total : Nat) (segmented : Bool) (data : Bytes) : Dev :=
  if segmented then d.openRx a total data
  else if total = data.length then d.serveWrite a a.key data
  else match (if stopClass a.key then none else d.ownerFault a.slot), lookup a.key with
    | some c, _ => d.abortWrite a c
    | none, .error c => d.abortWrite a c
    | none, .ok r => d.abortWrite a ((accessFault r).getD Code.segmentSequence)

end Dev

/-- WRITE (05 R112, R113, R118 to R120, R122; 06 R147, R148). A body above the limit of the interface is no FDP message (06 R136, R140). -/
def execWrite (m : HostMsg) (o : ObjRef) (total : Nat) (segmented : Bool) (data : Bytes) (s : State) : Out3 State :=
  let key := keyOfObj o
  s.onDev (if bodyLimit m.iface < 8 + data.length then id
    else hostRequest m key fun d => d.writeServe (d.ackOf m key) total segmented data)

end Sys2Proof.Machine
end

