-- ==== Sys2Proof/Machine/Ticks.lean ====
section
/-! DEFINITION. The dictionary tick boundary, what takes effect at it, the persistence journal, publish lists (05 R113 to R116, R123,
R130 to R132; 06 R151, R157; and what other chapters bind to the tick or to the commit of a group). -/

namespace Sys2Proof.Machine

namespace Dev

/-! ### Effects of a commit -/

/-- CAN5 performs bus integration after a change of its settings; the PHY search runs after a change of an ETH0 setting, and ETH1 follows its
PLCA settings (06 R141, R143, R144). What answers on the management lines is free (log entry 5). -/
def interfacesCommitted (d old : Dev) : Dev :=
  let moved (l : List Nat) : Bool := l.any fun k => decide (d.val k ≠ old.val k)
  let d : Dev := if moved [Key.can5Enable, Key.can5BaseId, Key.can5NominalRate, Key.can5DataRate] then
      d.canTo 5 (if d.flag Key.can5Enable ∧ d.unitIn 0x15 then .integrating else .off)
    else d
  let d : Dev := if moved [Key.eth1Enable, Key.eth1PlcaNodeId, Key.eth1PlcaNodeCount] then d.plcaStart else d
  if moved [Key.eth0Enable, Key.eth0Address, Key.eth0PrefixLength, Key.eth0Gateway, Key.eth0Speed, Key.eth0PhyAddress] then
    let (n, d) := d.draw
    d.searchPhy [(n % 33, 1)]
  else d

/-- The port configuration changed: the pilot output follows, a vehicle that is already detected is CONNECTED once the mode leaves OFF (07 R177;
log entry 64), modem and CAN of a port in OFF are idle (07 R159), and a module whose assignment changed is sent a CONFIG (07 R172). -/
def portCommitted (d old : Dev) (p : PortId) : Dev :=
  let d : Dev := { d with modules := Vector.ofFn fun m => if d.portOfModule m ≠ old.portOfModule m then { d.modules[m] with configAt := none } else d.modules[m] }
  let d : Dev := if d.mode p = 0 then (d.slacOff p).canOf p .off else d
  let q := d.port p
  let d : Dev := if q.session = .idle ∧ d.mode p ≠ 0 ∧ (q.pilot = .b ∨ q.pilot = .c ∨ q.pilot = .d) then d.connect p q.prox else d
  d.settle

/-- What a committed group sets off; `old` is the device before its members changed. -/
def groupCommitted (d old : Dev) (g : Nat) : Dev :=
  if h : 0x08 ≤ g ∧ g < 0x10 then d.portCommitted old ⟨g - 0x08, by omega⟩
  else if g = 0x10 then (if d.heartwoodUp then d.putNat Key.calibrationCheck (calibrationValue d) else d)
  else if g = 0x20 then d.calendarCommitted
  else if g = 0x21 then d.demandCommitted
  else if g = 0x22 then d.billingCommitted (old.nat Key.profileInterval)
  else if g = 0x28 then unconfirm ((sensorsCommitted d old).putNat Key.computedCheck (safetyCheck d))
  else if g = 0x2B then d.interfacesCommitted old
  else if g = 0x2D then d.planCommitted
  else if g = 0x2E then d.levelsRaised old.level
  else if h : 0x30 ≤ g ∧ g < 0x40 then
    { d with dict := { d.dict with lists := vmod d.dict.lists ⟨g - 0x30, by omega⟩ fun (l : PublishList) => { l with
      lastSent := none, dueAt := some d.nowMs, waiting := none, period := none } } }
  else d

/-! ### What waits for the boundary (05 R113, R123; 06 R157) -/

/-- The bytes of a journal entry that its check value covers: object references and values (log entry 72). -/
def entryBytes (items : Store) : Bytes := items.flatMap fun x => leBytes 4 (refOf x.1) ++ (match rowOf x.1 with | some r => r.ty.encode x.2 | none => [])

/-- A change that has taken effect joins the persistence journal, which rotates through the 4 MiB partition (05 R115). -/
def journaled1 (d : Dev) (a : Ack) (items : Store) : Dev :=
  let b := entryBytes items
  { d with dict := { d.dict with
    journal := d.dict.journal ++ [⟨items, bytesOfStore items, crc32c b, d.dict.journalAt, some a⟩]
    journalAt := (d.dict.journalAt + b.length + 4) % 0x400000 } }

/-- An RW write takes effect; a volatile one is not stored, so it is acknowledged now. A write of ExternalLoad restarts its time limit
(07 R183). -/
def applyWrite (d : Dev) (a : Ack) (key : Nat) (v : Val) : Dev :=
  let d := d.put key v
  let d : Dev := if (List.range 3).any fun i => decide (key = Key.externalLoadL i) then
      ({ d with site := { d.site with externalAt := d.nowMs } } : Dev).putNat Key.allocatorFlags (setBit (d.nat Key.allocatorFlags) 0 false)
    else d
  match rowOf key with
  | some r => if r.vol then d.ok a else d.journaled1 a [(key, v)]
  | none => d.ok a

/-- A commit takes effect, every member at once. -/
def applyCommit (d : Dev) (a : Ack) (g : Nat) (members : Store) : Dev :=
  let new := d.putAll members
  let new := new.setGroup g fun y => if y.phase = .committing then ⟨.empty, [], 0, 0⟩ else y
  let new := ((new.putNat (Key.lastResult g) 0).putNat (Key.failingObject g) 0).bump (Key.commitCount g)
  (new.groupCommitted d g).journaled1 a members

/-- Writes, commits, starts and ownership messages, in order of receipt (06 R155, R157). -/
def applyFirst (d : Dev) : TickItem → Dev
  | .write a k v => d.applyWrite a k v
  | .commit a g l => d.applyCommit a g l
  | .start a p => (d.applyStart p).ok a
  | .claim a => d.applyClaim a
  | .release a => d.applyRelease a
  | .offer a t => d.applyOffer a t
  | .deregister a t => d.applyDeregister a t
  | .keyOp a op => d.keyOpStart a op
  | _ => d

/-- Stops, after every start (06 R157), and the clearing of a hold. -/
def applyLast (d : Dev) : TickItem → Dev
  | .stop a p => (d.placeStop p 1).ok a
  | .exportStop a p => (d.applyExportStop p).ok a
  | .stopAll a => (allPorts.foldl (fun (d : Dev) p => d.placeStop p 1) d).ok a
  | .clearHold a => (d.holdCleared a.slot).ok a
  | _ => d

/-- Everything received during the tick that ends. -/
def applyItems (d : Dev) : Dev :=
  let l := d.dict.items
  let d : Dev := { d with dict := { d.dict with items := [] } }
  let d := l.foldl applyFirst d
  let d := l.foldl applyLast d
  if l = [] then d else d.settle

/-! ### Publish lists (05 R131, R132; 06 R151) -/

/-- The values of a list's entries, packed without gaps. -/
def publishBytes (d : Dev) (n : Nat) : Bytes :=
  (List.range (d.nat (Key.entryCount n))).flatMap fun i => match keyOfRef (d.nat (Key.listEntry n i)) with
    | some k => d.wire k
    | none => []

/-- The registered destination of an enabled list. -/
def listSlot (d : Dev) (n : Nat) : Option SlotId :=
  if h : d.nat (Key.listDestination n) < 16 then
    let s : SlotId := ⟨d.nat (Key.listDestination n), h⟩
    if d.nat (Key.entryCount n) ≠ 0 ∧ (d.slot s).registered then some s else none
  else none

/-- Committed period of a list's CommitPort. -/
def listPeriod (d : Dev) (n : Nat) : Nat :=
  if h : d.nat (Key.commitPort n) < 9 then (d.committedEnts[d.nat (Key.commitPort n)]).seq else 0

/-- Change the state of a list. -/
def setList (d : Dev) (n : Fin 16) (f : PublishList → PublishList) : Dev := { d with dict := { d.dict with lists := vmod d.dict.lists n f } }

/-- Has the list's trigger fired, for values as they stood at a tick boundary (05, table *Publish triggers*)? -/
def listDue (d : Dev) (n : Fin 16) (vals : Bytes) : Bool :=
  let l := d.dict.lists[n]
  let time := decide (l.dueAt.getD 0 ≤ d.nowMs)
  match d.nat (Key.listTrigger n) with
  | 0 => time
  | 1 => time && decide (l.lastSent ≠ some vals)
  | _ => match l.period with | some q => decide (q ≠ d.listPeriod n) | none => false

/-- The period of CommitPort a list has sent when it has sent once more: each period has a message of its own. -/
def nextPeriod (d : Dev) (n : Fin 16) : Nat :=
  match (d.dict.lists[n]).period with
  | some q => if q < d.listPeriod n then q + 1 else d.listPeriod n
  | none => d.listPeriod n

/-- Hand a message of a list to the interface of its slot's most recent valid message (06 R151). One longer than a frame of CAN5 holds is never
sent there (06 R141). -/
def sendList (d : Dev) (n : Fin 16) (s : SlotId) (vals : Bytes) : Dev :=
  let c := (d.dict.lists[n]).counter
  let i := (d.slot s).lastIface
  if bodyLimit i < 4 + vals.length then d.setList n fun l => { l with waiting := none }
  else
    let d := d.send s i (d.viaOf i (0x20 + s) (d.slot s).peers[ifaceNum i]) 0 (.publish n c vals)
    (d.setList n fun l => { l with waiting := none, counter := (c + 1) % 0x10000 }).bump (Key.sentCount n)

/-- PUBLISH (05 R131): a message of the values as they stood at the last tick boundary goes out, or waits for its interface; one that waits
already is replaced and counted. -/
def publish (n : Fin 16) (vals : Bytes) (d : Dev) : Dev :=
  if !d.sequencerUp ∨ !d.listDue n vals then d
  else
    let period := d.nat (Key.periodMs n)
    let due := if d.nat (Key.listTrigger n) = 0 then ((d.dict.lists[n]).dueAt.getD d.nowMs) + period else d.nowMs + period
    let next := d.nextPeriod n
    match d.listSlot n with
    | none => d.setList n fun l => { l with dueAt := some due, period := some next, waiting := none }
    | some s =>
      let d : Dev := if (d.dict.lists[n]).waiting.isSome then d.bump (Key.skippedCount n) else d
      let d := d.setList n fun l => { l with lastSent := some vals, dueAt := some due, period := some next }
      if d.ifaceUp (d.slot s).lastIface then d.sendList n s vals else d.setList n fun l => { l with waiting := some vals }

/-- The triggers of a list that pass while it is paused, with no registered host in its slot, ask for no message (05 R132). -/
def pausedList (d : Dev) (n : Fin 16) : Dev :=
  d.setList n fun l => { l with
    waiting := none, period := some (d.listPeriod n)
    dueAt := match l.dueAt with
      | some t => if d.nat (Key.listTrigger n) = 0 ∧ t ≤ d.nowMs then some (t + max 1 (d.nat (Key.periodMs n))) else some t
      | none => none }

/-- A message that waited goes out once its interface takes it; trigger 2 counts from the period that was newest when the list began. -/
def listTick (d : Dev) (n : Fin 16) : Dev :=
  let d : Dev := if (d.dict.lists[n]).period.isNone then d.setList n fun l => { l with period := some (d.listPeriod n) } else d
  match (d.dict.lists[n]).waiting, d.listSlot n with
  | some vals, some s => if d.ifaceUp (d.slot s).lastIface then d.sendList n s vals else d
  | _, none => d.pausedList n
  | none, some _ => d

/-! ### The boundary itself -/

/-- The refusals that waited for the Heartwood core are counted (01 R31), and those of a Heartwood target that its one event a second has not
named yet are logged (12 R306). -/
def accessTick (d : Dev) : Dev :=
  if !d.heartwoodUp then d
  else
  let l := d.heart.uncounted
  let d := l.foldl (fun (d : Dev) x => accessRefused d x.1 x.2) (d.setHeart fun h => { h with uncounted := [] })
  d.heart.accessPending.foldl (fun (d : Dev) (x : Nat × Nat × Nat) =>
    if x.2.1 ≠ 0 ∧ x.2.2 + 1000 ≤ d.nowMs then
      let tag := match d.refusals.find? fun r => heartwoodTarget r.target r.address = some x.1 with | some r => r.tag | none => 0
      let d := d.legal 0x0607 0xFF (leBytes 1 x.1 ++ leBytes 1 tag ++ leBytes 4 x.2.1)
      d.setHeart fun h => { h with accessPending := h.accessPending.map fun y => if y.1 = x.1 then (y.1, 0, d.nowMs) else y }
    else d) d

/-- The islands take what waits on the queue and event crossings towards them (log entry 12). -/
def drainTick (d : Dev) : Dev :=
  (List.finRange 58).foldl (fun (d : Dev) (c : Fin 58) =>
    let x := d.crossings[c]
    if xKind c ≠ .value ∧ xDir c = .toIsland ∧ x.state = .running ∧ (x.entries ≠ [] ∨ x.stalled ≠ []) then
      (d.setCrossing c fun y => { y with entries := [] }).unstall c
    else d) d

/-- The error counters of CAN5 follow the bus, which the manual leaves to ISO 11898-1: what they count is free (log entry 71). A counter above
127 makes the controller error passive. -/
def canTick (d : Dev) : Dev :=
  if !d.can5Active ∨ d.clocks.ref25Lost then d
  else
    let (n, d) := d.draw
    let d := (d.putNat Key.can5TxErrorCount (n % 256)).putNat Key.can5RxErrorCount (n / 256 % 256)
    d.setCan 5 (if 127 < n % 256 ∨ 127 < n / 256 % 256 then .errorPassive else .errorActive)

/-- While I6 is lost, UTC continues from fabric time (02, table *Loss or fault of a clock*). -/
def utcTick (d : Dev) : Dev :=
  if d.clocks.xt32Lost ∧ d.time.tLatch + 4096000 ≤ d.time.fabric then
    ({ d with time := { d.time with utcS := d.time.utcS + 1, tLatch := d.time.tLatch + 4096000 } } : Dev).secondReached
  else d

/-- DICTIONARY_TICK (05 R113): 4,096 ticks of fabric time have passed (02 R43), which value crossing 0x02 carries (R40). -/
def dictionaryTick (d : Dev) : Dev :=
  if !d.powered then d
  else
    let d : Dev := { d with time := { d.time with fabric := d.time.fabric + 4096 } }
    let d : Dev := { d with dict := { d.dict with tick := d.dict.tick + 1, roleChanged := false } }
    let d := (d.drainTick.produce 0x02 (wordsOf 2 (leBytes 8 d.time.fabric))).accessTick.utcTick.canTick
    let d : Dev := if d.sequencerUp then d.applyItems else d
    let d := d.keyOpTick.fuseTick.holdTick.planTick.unitsTick.rescuePorts
    if d.sequencerUp then (List.finRange 16).foldl (fun (d : Dev) n => d.listTick n) d else d

/-! ### The journal (05 R115, R116) -/

/-- JOURNAL_STORE_DONE: the oldest entry is in the persistence partition and its request is acknowledged; one that could not be stored
answers 0x09000001 once and is tried again. -/
def journalStoreDone (ok : Bool) (d : Dev) : Dev :=
  match d.dict.journal with
  | [] => d
  | j :: r =>
    if !d.sequencerUp then d
    else if ok then
      if !d.rail .vddMem then d
      else
        let stored := j.items.foldl (fun (l : Store) (x : Nat × Val) => l.insert x.1 x.2) d.dict.stored
        let d : Dev := { d with dict := { d.dict with stored := stored, journal := r } }
        match j.ack with | some a => d.ok a | none => d
    else
      let d : Dev := { d with dict := { d.dict with journal := { j with ack := none } :: r } }
      match j.ack with | some a => d.abortWrite a Code.storeFailed | none => d

end Dev

/-- DICTIONARY_TICK: what reads and publish messages take their values from is the device as it stands at this boundary (05 R114). -/
def execDictionaryTick (s : State) : Out3 State := .next { s with dev := s.dev.dictionaryTick, seen := s.dev.dictionaryTick }

def execJournalStoreDone (ok : Bool) (s : State) : Out3 State := s.onDev (Dev.journalStoreDone ok)
def execPublish (n : Fin 16) (s : State) : Out3 State := s.onDev (Dev.publish n (s.seen.publishBytes n))

end Sys2Proof.Machine
end

