-- ==== Sys2Proof/Machine/Reads.lean ====
section
/-! DEFINITION. Host reads, segmented transfers and registration (05 R114, R122; 06 R145 to R149; 16 R441). -/

namespace Sys2Proof.Machine

/-- Objects whose values lie in MRAM beside the ring store: the DOMAIN blocks of snapshots, load profile, logbooks, records and token
memory, and the selected account. They cannot be read while VDD_MEM is away (03 R63; log entry 64). -/
def mramObject (key : Nat) : Bool :=
  let idx := key / 256
  match rowOf key with
  | some r => (decide (r.ty = .domain) && !decide (0x8300 ≤ idx ∧ idx ≤ 0x830F)) || decide (idx = 0x5010 ∧ 2 ≤ key % 256)
  | none => false

namespace Dev

/-! ### Reads (06 R147) -/

/-- The objects a READ covers. -/
def readKeys (key count : Nat) : List Nat := (List.range (min count 256)).map (key + ·)

/-- What is wrong with one object of a READ. -/
def readFault (key k : Nat) : Option Nat :=
  if k / 256 ≠ key / 256 then some Code.noSubindex
  else match lookup k with
    | .error c => some c
    | .ok r => if r.acc = .wo ∨ r.acc = .cmd then some Code.writeOnly else none

/-- Every code that refuses a READ (05 R128, R135): the objects, the Count, a change of role in the tick, and memories that cannot be read (01
R12; 09 R240), a source word that reads as uncorrectable among them. -/
def readCodes (d : Dev) (key count : Nat) (eccError : Bool) : List Nat :=
  (readKeys key (max 1 count)).filterMap (readFault key) ++
  (if count = 0 ∨ 32 < count then [Code.range] else []) ++ d.roleBlocked.toList ++
  (if eccError || (readKeys key count).any (fun k => (energyObject k && d.energy.lost) || (mramObject k && !d.rail .vddMem)) then
    [Code.memoryError] else [])

/-- The value a READ returns of a device as it stood at a tick boundary: with the staged view, the shadow's where the member is staged (05 R114,
R122). -/
def readValue (d : Dev) (staged : Bool) (k : Nat) : Bytes :=
  let shadow := match groupOf k with | some g => (d.group g).shadow.find k | none => none
  match (if staged then shadow else none), lookup k with
  | some v, .ok r => r.ty.encode v
  | _, _ => d.wire k

/-- Must the object be read by a segmented transfer (05 R110)? -/
def isDomain (k : Nat) : Bool := match lookup k with | .ok r => decide (r.ty = .domain) | .error _ => false

/-- End the open transfer of the device to a host with a code. -/
def abortTx (d : Dev) (s : SlotId) (code : Nat) : Dev :=
  match (d.slot s).tx with
  | none => d
  | some t => (d.setSlot s fun h => { h with tx := none }).abort t.ack code

/-- A reply in segments: the value, or for several subindices each with its length, then its check (06 R148; log entry 64). -/
def openTx (d : Dev) (a : Ack) (vals : List Bytes) : Dev :=
  let d := d.abortTx a.slot Code.segmentSequence
  let value := match vals with
    | [v] => v
    | _ => vals.flatMap fun v => leBytes 2 v.length ++ v
  let data := checked value
  let n := bodyLimit a.iface - 8
  let d := d.coverFdp a.slot true (value.take n)
  let d := d.send a.slot a.iface a.via a.reqId (.firstSegment a.key data.length (data.take n))
  if data.length ≤ n then d.owed a
  else d.setSlot a.slot fun h => { h with tx := some ⟨a, data.drop n, 1, 0, d.nowMs⟩ }

/-- A READ; the first read of a slot's statement since its registration queues it (16 R441). -/
def readRequest (m : HostMsg) (key count : Nat) (staged eccError : Bool) (seen d : Dev) : Dev :=
  hostRequest m key (fun d =>
    let a := d.ackOf m key
    match firstCode (d.readCodes key count eccError) with
    | some c => d.abort a c
    | none =>
      let keys := readKeys key count
      let vals := keys.map (seen.readValue staged)
      let d : Dev := if h : 0x8300 ≤ key / 256 ∧ key / 256 ≤ 0x830F then
          (if keys.contains (Key.attestation (key / 256 - 0x8300)) then d.queueAttest ⟨key / 256 - 0x8300, by omega⟩ else d)
        else d
      let size := 4 + (vals.map fun v => 2 + v.length).sum
      if bodyLimit m.iface < size ∨ keys.any isDomain then d.openTx a vals else d.answer a (.values key vals)) d

/-! ### Segments (06 R148) -/

/-- A SEGMENT of a host: it must be the next one; the device acknowledges every 16th and the last. A body above the limit of the interface is no
FDP message (06 R136, R140). -/
def segmentIn (m : HostMsg) (number : Nat) (last : Bool) (data : Bytes) (d : Dev) : Dev :=
  if bodyLimit m.iface < data.length then d
  else hostNote m (fun d =>
    match (d.slot m.slot).rx with
    | none => d
    | some t =>
      let t := { t with data := t.data ++ data, next := t.next + 1, lastMs := d.nowMs }
      if number + 1 ≠ t.next ∨ t.total < t.data.length then d.abortRx m.slot Code.segmentSequence
      else
        let a := d.ackOf m t.ack.key
        let d := d.coverFdp m.slot false ((t.data.take (t.total - 4)).drop (t.data.length - data.length))
        let d : Dev := if last ∨ number % 16 = 15 then d.send m.slot m.iface a.via t.ack.reqId (.segmentAck number) else d
        if last then d.finishRx m.slot t else d.setSlot m.slot fun h => { h with rx := some t }) d

/-- The device sends its next SEGMENT, at most 16 ahead of the last acknowledgement, as the rest of its reply (06 R150). -/
def segmentOut (s : SlotId) (number : Nat) (d : Dev) : Dev :=
  match (d.slot s).tx with
  | none => d
  | some t =>
    if !d.sequencerUp ∨ !d.linkLive t.ack.iface ∨ number ≠ t.next ∨ t.left = [] ∨ t.acked + 16 < t.next then d
    else
      let n := bodyLimit t.ack.iface
      let d := d.coverFdp s false ((t.left.take (t.left.length - 4)).take n)
      let d := d.send s t.ack.iface t.ack.via t.ack.reqId (.segment t.next (decide (t.left.length ≤ n)) (t.left.take n))
      d.setSlot s fun h => { h with tx := some { t with left := t.left.drop n, next := t.next + 1, lastMs := d.nowMs } }

/-- A SEGMENT_ACK of a host; the last one ends the transfer and the request. -/
def segmentAckIn (m : HostMsg) (number : Nat) (d : Dev) : Dev :=
  hostNote m (fun d =>
    match (d.slot m.slot).tx with
    | none => d
    | some t =>
      if t.next ≤ number then d
      else if t.left = [] ∧ number + 1 = t.next then (d.setSlot m.slot fun h => { h with tx := none }).owed t.ack
      else d.setSlot m.slot fun h => { h with tx := some { t with acked := max t.acked number, lastMs := d.nowMs } }) d

/-- SEGMENT_TIMEOUT: 100 ms without the next segment, or without an acknowledgement. -/
def segmentTimeout (s : SlotId) (toDevice : Bool) (d : Dev) : Dev :=
  if !d.sequencerUp then d
  else if toDevice then
    match (d.slot s).rx with
    | some t => if t.lastMs + 100 ≤ d.nowMs then d.abortRx s Code.segmentTimeout else d
    | none => d
  else
    match (d.slot s).tx with
    | some t => if t.lastMs + 100 ≤ d.nowMs then d.abortTx s Code.segmentTimeout else d
    | none => d

/-! ### Registration (06 R145, R146, R154) -/

/-- CONFIRM: the slot is registered, under the session key that Burl derived from its host key and both nonces. One that does not verify, or does
not repeat both nonces, is a registration that failed; one on another interface than the HELLO is ignored (log entry 71). -/
def confirm (m : HostMsg) (hostNonce ownNonce : Bytes) (d : Dev) : Dev :=
  let s := m.slot
  let keySlot : Fin 64 := ⟨0x30 + s, by omega⟩
  match (d.slot s).hello, d.keyOf keySlot with
  | some h, some k =>
    if !d.sequencerUp ∨ !d.ifaceUp m.iface ∨ !d.burlUp ∨ m.iface ≠ h.iface ∨ h.deadline < d.nowMs ∨ m.seq.toNat ≠ 1 then d
    else if !m.micOk ∨ hostNonce ≠ h.hostNonce ∨ ownNonce ≠ h.ownNonce then registrationFailed s d
    else
      let info := ascii "FDP1" ++ leBytes 1 s ++ d.bytes Key.serialNumber
      let d := d.endRegistration s
      let d := (d.dropAttest s).bump (Key.useCount keySlot)
      let d := d.setSlot s fun x => { x with
        registered := true, sessionKey := some (Config.hkdf k.material (hostNonce ++ ownNonce) info 16), nonce := hostNonce, high := 1, seen := 0
        txSeq := 0, hello := none, lastValid := d.nowMs, lastIface := m.iface, session := x.session + 1
        peers := x.peers.set (ifaceNum m.iface) m.source }
      let d := ((d.putNat (Key.activeInterfaces s) (2 ^ ifaceBit m.iface)).putNat (Key.hostLastSeen s) d.nowUs).bump (Key.rxCount s)
      d.send s m.iface (d.viaOf m.iface 0x31 m.source) m.reqId (.welcome (d.nat Key.layoutVersion) (ownerNum d.hosts.ownership))
  | _, _ => d

/-- REGISTRATION_LAPSE: no valid message for RegistrationLapseS. -/
def registrationLapse (s : SlotId) (d : Dev) : Dev :=
  if d.sequencerUp ∧ (d.slot s).registered ∧ (d.slot s).lastValid + 1000 * d.nat Key.registrationLapseS ≤ d.nowMs then d.registrationOver s true
  else d

end Dev

/-! ### The commands -/

def execRead (m : HostMsg) (o : ObjRef) (count : Nat) (f : ReadFacts) (s : State) : Out3 State :=
  s.onDev (Dev.readRequest m (keyOfObj o) count f.staged f.eccError s.seen)

/-- ATTESTATION_READ (16 R441): a read of 0x8300+s.01. -/
def execAttestationRead (m : HostMsg) (target : SlotId) (s : State) : Out3 State :=
  s.onDev (Dev.readRequest m (Key.attestation target) 1 false false s.seen)

/-- SEGMENT (06 R148), arriving or sent. -/
def execSegment (m : HostMsg) (toDevice : Bool) (number : Nat) (last : Bool) (data : Bytes) (s : State) : Out3 State :=
  s.onDev (if toDevice then Dev.segmentIn m number last data else Dev.segmentOut m.slot number)

/-- SEGMENT_ACK (06 R148): the device's own goes out with the segment that calls for it. -/
def execSegmentAck (m : HostMsg) (fromHost : Bool) (number : Nat) (s : State) : Out3 State :=
  s.onDev (if fromHost then Dev.segmentAckIn m number else id)

def execSegmentTimeout (slot : SlotId) (toDevice : Bool) (s : State) : Out3 State := s.onDev (Dev.segmentTimeout slot toDevice)
def execConfirm (m : HostMsg) (hostNonce ownNonce : Bytes) (s : State) : Out3 State := s.onDev (Dev.confirm m hostNonce ownNonce)
def execRegistrationLapse (slot : SlotId) (s : State) : Out3 State := s.onDev (Dev.registrationLapse slot)

end Sys2Proof.Machine
end

