-- ==== Sys2Proof/Machine/Dispatch.lean ====
section
/-! DEFINITION. The effect of each command on everything but the queue: one arm per row of the table. -/

namespace Sys2Proof.Machine

def exec (i : Instr) (s : State) : Host.Outcome State Fault Refusal :=
  match i with
  | .fabricRead tag region addr words eccError => Sys2Proof.Machine.execFabricRead tag region addr words eccError s
  | .fabricWrite tag region addr words => Sys2Proof.Machine.execFabricWrite tag region addr words s
  | .fabricPost tag target message => Sys2Proof.Machine.execFabricPost tag target message s
  | .recordRequest tag fields balance => Sys2Proof.Machine.execRecordRequest tag fields balance s
  | .balanceRequest tag account amount reason tid => Sys2Proof.Machine.execBalanceRequest tag account amount reason tid s
  | .watchdogExpiry core => Sys2Proof.Machine.execWatchdogExpiry core s
  | .sramUncorrectableError core => Sys2Proof.Machine.execSramUncorrectableError core s
  | .fabricSpeedMeasure mips => Sys2Proof.Machine.execFabricSpeedMeasure mips s
  | .utcSecond i1Ticks => Sys2Proof.Machine.execUtcSecond i1Ticks s
  | .timerExpiry channel => Sys2Proof.Machine.execTimerExpiry channel s
  | .dictionaryTick => Sys2Proof.Machine.execDictionaryTick s
  | .clockLost clock => Sys2Proof.Machine.execClockLost clock s
  | .crossCheck n1 n6 => Sys2Proof.Machine.execCrossCheck n1 n6 s
  | .clockRecovered clock => Sys2Proof.Machine.execClockRecovered clock s
  | .crossingSideReset crossing side => Sys2Proof.Machine.execCrossingSideReset crossing side s
  | .crossingResyncDone crossing => Sys2Proof.Machine.execCrossingResyncDone crossing s
  | .crossingClearCounters m data => Sys2Proof.Machine.execCrossingClearCounters m data s
  | .mainRailsGood => Sys2Proof.Machine.execMainRailsGood s
  | .railMonitorTrip rail => Sys2Proof.Machine.execRailMonitorTrip rail s
  | .railRecovered rail => Sys2Proof.Machine.execRailRecovered rail s
  | .pfw => Sys2Proof.Machine.execPfw s
  | .finalCommitTimeout => Sys2Proof.Machine.execFinalCommitTimeout s
  | .mainRailsDown => Sys2Proof.Machine.execMainRailsDown s
  | .vbatLoss => Sys2Proof.Machine.execVbatLoss s
  | .resetNLow microseconds => Sys2Proof.Machine.execResetNLow microseconds s
  | .resetNHigh => Sys2Proof.Machine.execResetNHigh s
  | .pfwRecovery => Sys2Proof.Machine.execPfwRecovery s
  | .bootStart facts => Sys2Proof.Machine.execBootStart facts s
  | .bootComplete selfTestsOk => Sys2Proof.Machine.execBootComplete selfTestsOk s
  | .vbatTamperAlarm source sub low => Sys2Proof.Machine.execVbatTamperAlarm source sub low s
  | .read m obj count facts => Sys2Proof.Machine.execRead m obj count facts s
  | .write m obj total segmented data => Sys2Proof.Machine.execWrite m obj total segmented data s
  | .commit m group data => Sys2Proof.Machine.execCommit m group data s
  | .discard m group data => Sys2Proof.Machine.execDiscard m group data s
  | .shadowTimeout group => Sys2Proof.Machine.execShadowTimeout group s
  | .journalStoreDone ok => Sys2Proof.Machine.execJournalStoreDone ok s
  | .publish list => Sys2Proof.Machine.execPublish list s
  | .segment m toDevice number last data => Sys2Proof.Machine.execSegment m toDevice number last data s
  | .segmentAck m fromHost number => Sys2Proof.Machine.execSegmentAck m fromHost number s
  | .segmentTimeout slot toDevice => Sys2Proof.Machine.execSegmentTimeout slot toDevice s
  | .nop m => Sys2Proof.Machine.execNop m s
  | .unknownMessage kind => Sys2Proof.Machine.execUnknownMessage kind s
  | .hello slot origin hostNonce deviceNonce => Sys2Proof.Machine.execHello slot origin hostNonce deviceNonce s
  | .confirm m hostNonce deviceNonce => Sys2Proof.Machine.execConfirm m hostNonce deviceNonce s
  | .registrationTimeout slot => Sys2Proof.Machine.execRegistrationTimeout slot s
  | .helloRefusalEnd slot => Sys2Proof.Machine.execHelloRefusalEnd slot s
  | .registrationLapse slot => Sys2Proof.Machine.execRegistrationLapse slot s
  | .deregister m target data => Sys2Proof.Machine.execDeregister m target data s
  | .ownershipClaim m extra => Sys2Proof.Machine.execOwnershipClaim m extra s
  | .ownershipRelease m extra => Sys2Proof.Machine.execOwnershipRelease m extra s
  | .handoverOffer m extra => Sys2Proof.Machine.execHandoverOffer m extra s
  | .heartbeat m extra => Sys2Proof.Machine.execHeartbeat m extra s
  | .claimWindowEnd => Sys2Proof.Machine.execClaimWindowEnd s
  | .heartbeatLoss => Sys2Proof.Machine.execHeartbeatLoss s
  | .handoverLapse => Sys2Proof.Machine.execHandoverLapse s
  | .stopAll m data => Sys2Proof.Machine.execStopAll m data s
  | .arpRequest iface address => Sys2Proof.Machine.execArpRequest iface address s
  | .icmpEchoRequest iface data => Sys2Proof.Machine.execIcmpEchoRequest iface data s
  | .canBusOff can => Sys2Proof.Machine.execCanBusOff can s
  | .busOffRecovery can => Sys2Proof.Machine.execBusOffRecovery can s
  | .busIntegrationDone can => Sys2Proof.Machine.execBusIntegrationDone can s
  | .pilotStateAccepted p highMv lowMv periods proximity => Sys2Proof.Machine.execPilotStateAccepted p highMv lowMv periods proximity s
  | .hlcSetupTimeout p => Sys2Proof.Machine.execHlcSetupTimeout p s
  | .steadyHighEnd p => Sys2Proof.Machine.execSteadyHighEnd p s
  | .proximityBandChange p proximity => Sys2Proof.Machine.execProximityBandChange p proximity s
  | .lockConfirmed p => Sys2Proof.Machine.execLockConfirmed p s
  | .lockTimeout p => Sys2Proof.Machine.execLockTimeout p s
  | .unlock m p data => Sys2Proof.Machine.execUnlock m p data s
  | .slacMessage p msg => Sys2Proof.Machine.execSlacMessage p msg s
  | .slacTimeout p => Sys2Proof.Machine.execSlacTimeout p s
  | .v2gMessage p msg => Sys2Proof.Machine.execV2gMessage p msg s
  | .v2gTimeout p => Sys2Proof.Machine.execV2gTimeout p s
  | .annexFrame p msg => Sys2Proof.Machine.execAnnexFrame p msg s
  | .annexTimeout p => Sys2Proof.Machine.execAnnexTimeout p s
  | .permissionInputChange p level => Sys2Proof.Machine.execPermissionInputChange p level s
  | .setpoint module => Sys2Proof.Machine.execSetpoint module s
  | .config module => Sys2Proof.Machine.execConfig module s
  | .status module frame => Sys2Proof.Machine.execStatus module frame s
  | .ident module frame => Sys2Proof.Machine.execIdent module frame s
  | .modulePresenceTimeout module => Sys2Proof.Machine.execModulePresenceTimeout module s
  | .statusMissing module => Sys2Proof.Machine.execStatusMissing module s
  | .converterStopTimeout => Sys2Proof.Machine.execConverterStopTimeout s
  | .portStart m p data => Sys2Proof.Machine.execPortStart m p data s
  | .portStop m p data => Sys2Proof.Machine.execPortStop m p data s
  | .exportStop m p data => Sys2Proof.Machine.execExportStop m p data s
  | .closingTimeout p => Sys2Proof.Machine.execClosingTimeout p s
  | .openingTimeout p => Sys2Proof.Machine.execOpeningTimeout p s
  | .contactorFeedbackChange p a b => Sys2Proof.Machine.execContactorFeedbackChange p a b s
  | .stopWaitTimeout p => Sys2Proof.Machine.execStopWaitTimeout p s
  | .pilotAIdle p => Sys2Proof.Machine.execPilotAIdle p s
  | .allocatorRun => Sys2Proof.Machine.execAllocatorRun s
  | .externalLoadTimeout => Sys2Proof.Machine.execExternalLoadTimeout s
  | .pauseTimeout p => Sys2Proof.Machine.execPauseTimeout p s
  | .migration p => Sys2Proof.Machine.execMigration p s
  | .sampleSet raw linkOk fluxFault => Sys2Proof.Machine.execSampleSet raw linkOk fluxFault s
  | .measurementDieLost => Sys2Proof.Machine.execMeasurementDieLost s
  | .bitstreamLoss input => Sys2Proof.Machine.execBitstreamLoss input s
  | .zeroCrossing channel time => Sys2Proof.Machine.execZeroCrossing channel time s
  | .periodEnd e => Sys2Proof.Machine.execPeriodEnd e s
  | .referenceTimeout e => Sys2Proof.Machine.execReferenceTimeout e s
  | .dieTemperatureReading t => Sys2Proof.Machine.execDieTemperatureReading t s
  | .channelDiscardEnd c => Sys2Proof.Machine.execChannelDiscardEnd c s
  | .dcMismatch p voltage => Sys2Proof.Machine.execDcMismatch p voltage s
  | .calStart m data => Sys2Proof.Machine.execCalStart m data s
  | .calDone => Sys2Proof.Machine.execCalDone s
  | .calibrationWrite env obj data => Sys2Proof.Machine.execCalibrationWrite env obj data s
  | .constantsWrite env obj data => Sys2Proof.Machine.execConstantsWrite env obj data s
  | .ringCommit readBackOk durationUs => Sys2Proof.Machine.execRingCommit readBackOk durationUs s
  | .lateCommit e => Sys2Proof.Machine.execLateCommit e s
  | .hallReading milliTesla => Sys2Proof.Machine.execHallReading milliTesla s
  | .boundarySet => Sys2Proof.Machine.execBoundarySet s
  | .closeNow m data => Sys2Proof.Machine.execCloseNow m data s
  | .setTime m data => Sys2Proof.Machine.execSetTime m data s
  | .clockStep => Sys2Proof.Machine.execClockStep s
  | .writeRecord m data => Sys2Proof.Machine.execWriteRecord m data s
  | .selectAccount m data => Sys2Proof.Machine.execSelectAccount m data s
  | .keypadScan matrix => Sys2Proof.Machine.execKeypadScan matrix s
  | .keyPress key => Sys2Proof.Machine.execKeyPress key s
  | .keypadEntryTimeout => Sys2Proof.Machine.execKeypadEntryTimeout s
  | .keypadUnlock => Sys2Proof.Machine.execKeypadUnlock s
  | .cardFrame frame gapsOk cardHash => Sys2Proof.Machine.execCardFrame frame gapsOk cardHash s
  | .externalId m p data => Sys2Proof.Machine.execExternalId m p data s
  | .authAnswer m p data => Sys2Proof.Machine.execAuthAnswer m p data s
  | .hostAuthTimeout p => Sys2Proof.Machine.execHostAuthTimeout p s
  | .binding p => Sys2Proof.Machine.execBinding p s
  | .token keypad account digits facts => Sys2Proof.Machine.execToken keypad account digits facts s
  | .tokenSubmit m data facts => Sys2Proof.Machine.execTokenSubmit m data facts s
  | .keyChangeHalfExpiry => Sys2Proof.Machine.execKeyChangeHalfExpiry s
  | .hostCredit m data sigOk hashOk => Sys2Proof.Machine.execHostCredit m data sigOk hashOk s
  | .sealCommand env => Sys2Proof.Machine.execSealCommand env s
  | .recordRepair env slot record => Sys2Proof.Machine.execRecordRepair env slot record s
  | .recordSigned ok result => Sys2Proof.Machine.execRecordSigned ok result s
  | .signingRetry => Sys2Proof.Machine.execSigningRetry s
  | .inspectionShowItems => Sys2Proof.Machine.execInspectionShowItems s
  | .inspectionTestCount p => Sys2Proof.Machine.execInspectionTestCount p s
  | .inspectionEnd => Sys2Proof.Machine.execInspectionEnd s
  | .inspectionTimeout => Sys2Proof.Machine.execInspectionTimeout s
  | .safetyTick view => Sys2Proof.Machine.execSafetyTick view s
  | .firebreakFault reason => Sys2Proof.Machine.execFirebreakFault reason s
  | .safetyInputChange input level => Sys2Proof.Machine.execSafetyInputChange input level s
  | .discrepancyFault input => Sys2Proof.Machine.execDiscrepancyFault input s
  | .resetEdge => Sys2Proof.Machine.execResetEdge s
  | .resetStuck => Sys2Proof.Machine.execResetStuck s
  | .outputFault output => Sys2Proof.Machine.execOutputFault output s
  | .outputTestPulse output readBackLow => Sys2Proof.Machine.execOutputTestPulse output readBackLow s
  | .residualCurrentTrip p criterion microAmps ticks => Sys2Proof.Machine.execResidualCurrentTrip p criterion microAmps ticks s
  | .rcdSelfTest p => Sys2Proof.Machine.execRcdSelfTest p s
  | .rcdSelfTestDone p microAmps => Sys2Proof.Machine.execRcdSelfTestDone p microAmps s
  | .isolationTest p ohms => Sys2Proof.Machine.execIsolationTest p ohms s
  | .insulationEvaluation p ohms milliVolts => Sys2Proof.Machine.execInsulationEvaluation p ohms milliVolts s
  | .imdLoopbackTest p ok => Sys2Proof.Machine.execImdLoopbackTest p ok s
  | .penFault milliVolts ticks => Sys2Proof.Machine.execPenFault milliVolts ticks s
  | .pt1000Reading k ohms deciDegrees => Sys2Proof.Machine.execPt1000Reading k ohms deciDegrees s
  | .temperatureTrip k => Sys2Proof.Machine.execTemperatureTrip k s
  | .sensorStale k => Sys2Proof.Machine.execSensorStale k s
  | .contactorFaultClear m p data => Sys2Proof.Machine.execContactorFaultClear m p data s
  | .gridLoss criterion => Sys2Proof.Machine.execGridLoss criterion s
  | .gridReconnect => Sys2Proof.Machine.execGridReconnect s
  | .followFault p => Sys2Proof.Machine.execFollowFault p s
  | .firebreakRestartTimeout b => Sys2Proof.Machine.execFirebreakRestartTimeout b s
  | .confirmCheck m data => Sys2Proof.Machine.execConfirmCheck m data s
  | .confirmTimeout => Sys2Proof.Machine.execConfirmTimeout s
  | .checkValueSelfTest fromA fromB => Sys2Proof.Machine.execCheckValueSelfTest fromA fromB s
  | .canopyRangeChange => Sys2Proof.Machine.execCanopyRangeChange s
  | .beaconSend omitted => Sys2Proof.Machine.execBeaconSend omitted s
  | .beaconReceive network nifFollows drezu superframe deltaUs => Sys2Proof.Machine.execBeaconReceive network nifFollows drezu superframe deltaUs s
  | .beaconMissed => Sys2Proof.Machine.execBeaconMissed s
  | .nifSend => Sys2Proof.Machine.execNifSend s
  | .nif frame payload => Sys2Proof.Machine.execNif frame payload s
  | .networkCrossing => Sys2Proof.Machine.execNetworkCrossing s
  | .canopyTransmit heard => Sys2Proof.Machine.execCanopyTransmit heard s
  | .ack frame received => Sys2Proof.Machine.execAck frame received s
  | .ackTimeout => Sys2Proof.Machine.execAckTimeout s
  | .joinRequest frame longAddress nonce previous capabilities rank ownNonce => Sys2Proof.Machine.execJoinRequest frame longAddress nonce previous capabilities rank ownNonce s
  | .joinAccept frame coordNonce memberLong address network gcn rank => Sys2Proof.Machine.execJoinAccept frame coordNonce memberLong address network gcn rank s
  | .joinRefuse frame memberLong reason => Sys2Proof.Machine.execJoinRefuse frame memberLong reason s
  | .joinTimeout => Sys2Proof.Machine.execJoinTimeout s
  | .leave frame reason => Sys2Proof.Machine.execLeave frame reason s
  | .keepalive frame => Sys2Proof.Machine.execKeepalive frame s
  | .keepaliveSend => Sys2Proof.Machine.execKeepaliveSend s
  | .tonemapRequest frame requestId signal noise => Sys2Proof.Machine.execTonemapRequest frame requestId signal noise s
  | .tonemapResponse frame requestId mapId pairs thresholds => Sys2Proof.Machine.execTonemapResponse frame requestId mapId pairs thresholds s
  | .tonemapRefresh neighbour => Sys2Proof.Machine.execTonemapRefresh neighbour s
  | .tonemapRequestRetry neighbour => Sys2Proof.Machine.execTonemapRequestRetry neighbour s
  | .linkRequest frame longAddress nonce ownNonce capabilities => Sys2Proof.Machine.execLinkRequest frame longAddress nonce ownNonce capabilities s
  | .linkAccept frame responderNonce capabilities => Sys2Proof.Machine.execLinkAccept frame responderNonce capabilities s
  | .loadReport frame phase draw limit => Sys2Proof.Machine.execLoadReport frame phase draw limit s
  | .loadReportSend => Sys2Proof.Machine.execLoadReportSend s
  | .appRead frame requestId refs => Sys2Proof.Machine.execAppRead frame requestId refs s
  | .appResponse frame requestId values => Sys2Proof.Machine.execAppResponse frame requestId values s
  | .coordinatorStart randomCycles => Sys2Proof.Machine.execCoordinatorStart randomCycles s
  | .addressRelease neighbour => Sys2Proof.Machine.execAddressRelease neighbour s
  | .rejoin m data => Sys2Proof.Machine.execRejoin m data s
  | .refreshToneMaps m data => Sys2Proof.Machine.execRefreshToneMaps m data s
  | .windowArm tag engine window => Sys2Proof.Machine.execWindowArm tag engine window s
  | .windowDisarm tag engine index => Sys2Proof.Machine.execWindowDisarm tag engine index s
  | .cvuEntry engine index identifier entry lastSegment => Sys2Proof.Machine.execCvuEntry engine index identifier entry lastSegment s
  | .contextRelease x => Sys2Proof.Machine.execContextRelease x s
  | .contextWrite tag x value => Sys2Proof.Machine.execContextWrite tag x value s
  | .profileWrite tag f width poly init xorOut reflected => Sys2Proof.Machine.execProfileWrite tag f width poly init xorOut reflected s
  | .cvuClearCounters m data => Sys2Proof.Machine.execCvuClearCounters m data s
  | .burlRequest tag slot op => Sys2Proof.Machine.execBurlRequest tag slot op s
  | .keyImport m blob => Sys2Proof.Machine.execKeyImport m blob s
  | .keyGenerate m data verifies => Sys2Proof.Machine.execKeyGenerate m data verifies s
  | .keyErase m data => Sys2Proof.Machine.execKeyErase m data s
  | .attestationRead m target => Sys2Proof.Machine.execAttestationRead m target s
  | .attestationSigned => Sys2Proof.Machine.execAttestationSigned s
  | .tamperAlarm source detail => Sys2Proof.Machine.execTamperAlarm source detail s
  | .tamperAlarmEnd source detail => Sys2Proof.Machine.execTamperAlarmEnd source detail s
  | .clearHold m data => Sys2Proof.Machine.execClearHold m data s
  | .commission m data => Sys2Proof.Machine.execCommission m data s
  | .jtagSession => Sys2Proof.Machine.execJtagSession s
  | .imageHeader m area header => Sys2Proof.Machine.execImageHeader m area header s
  | .headerCheckDone area sigOk => Sys2Proof.Machine.execHeaderCheckDone area sigOk s
  | .imageChunk m area data => Sys2Proof.Machine.execImageChunk m area data s
  | .payloadHashDone area hashOk => Sys2Proof.Machine.execPayloadHashDone area hashOk s
  | .installationDone ok => Sys2Proof.Machine.execInstallationDone ok s
  | .cancelPlan m data => Sys2Proof.Machine.execCancelPlan m data s
  | .planPreparationStart => Sys2Proof.Machine.execPlanPreparationStart s
  | .stepSwitch => Sys2Proof.Machine.execStepSwitch s
  | .unitReady => Sys2Proof.Machine.execUnitReady s
  | .readyTimeout => Sys2Proof.Machine.execReadyTimeout s
  | .preparationTimeout => Sys2Proof.Machine.execPreparationTimeout s
  | .drainTimeout => Sys2Proof.Machine.execDrainTimeout s
  | .trialEnd => Sys2Proof.Machine.execTrialEnd s
  | .firebreakTrialTimeout => Sys2Proof.Machine.execFirebreakTrialTimeout s
  | .serviceRestart m data => Sys2Proof.Machine.execServiceRestart m data s
  | .takeOut m unit data => Sys2Proof.Machine.execTakeOut m unit data s
  | .returnUnit m unit data => Sys2Proof.Machine.execReturn m unit data s
  | .frameStart facts => Sys2Proof.Machine.execFrameStart facts s
  | .halfStartReport => Sys2Proof.Machine.execHalfStartReport s
  | .stepEndReport => Sys2Proof.Machine.execStepEndReport s
  | .railHoldExpiry => Sys2Proof.Machine.execRailHoldExpiry s
  | .panelTemperatureReading sensor t => Sys2Proof.Machine.execPanelTemperatureReading sensor t s
  | .balanceRepair => Sys2Proof.Machine.execBalanceRepair s
  | .fullRefreshTimer => Sys2Proof.Machine.execFullRefreshTimer s
  | .refreshNow m data => Sys2Proof.Machine.execRefreshNow m data s
  | .pageDwellExpiry => Sys2Proof.Machine.execPageDwellExpiry s
  | .interruptPageExpiry => Sys2Proof.Machine.execInterruptPageExpiry s
  | .coreRestartDone core imageOk => Sys2Proof.Machine.execCoreRestartDone core imageOk s
  | .datagramDropped iface => Sys2Proof.Machine.execDatagramDropped iface s
  | .canopyHeaderFail => Sys2Proof.Machine.execCanopyHeaderFail s

end Sys2Proof.Machine
end

