-- ==== Sys2Proof/Machine/Step.lean ====
section
/-! DEFINITION. A step: the command at the front of the queue, carried out on the state with the queue's rest. -/

namespace Sys2Proof.Machine

/-- One step. With nothing waiting the block idles: what happens with time is commanded by the table's own rows (ticks, seconds, sample
sets), so an idle step changes nothing (log entry 68). -/
def step (s : State) : Host.Outcome State Fault Refusal :=
  match s.pending with
  | [] => .next s
  | c :: r => Sys2Proof.Machine.exec c { s with pending := r }

/-- The state with the command a word spells put at the front of its queue; no word spells one. -/
def State.withFetchWord (s : State) (nbits w : Nat) : State :=
  match Sys2Proof.decodeTableWord nbits w with
  | some c => { s with pending := c :: s.pending }
  | none => s

end Sys2Proof.Machine
end

