-- ==== Sys2Proof/Safety.lean ====
section
/-! DEFINITION. The terms claims are stated in: what counts as a safe run, the parts of the device for frames, and when a request of a
host is heard and granted. -/

namespace Sys2Proof.Machine

/-! ### Safe runs -/

/-- A safe state: the fabric's memories are in their one canonical form. -/
def State.safe (s : State) : Bool := s.mem.wf

/-- A safe step ends in a safe next state, with no fault and no refusal. -/
def State.safeStep (s : State) : Prop := ∃ t, step s = .next t ∧ t.safe = true

/-! ### Frames -/

/-- The parts of the device. -/
inductive Part where
  | free | out | obj | time | clocks | crossings | refusals | mail | cores | activeB | power | dict | hosts | heart | ports | modules | site
  | safety | metro | energy | tariff | ledger | cvu | burl | update | canopy | display | held
deriving DecidableEq, Repr

/-- A part is the same in both devices. -/
def Part.same (a b : Dev) : Part → Prop
  | .free => a.free = b.free
  | .out => a.out = b.out
  | .obj => a.obj = b.obj
  | .time => a.time = b.time
  | .clocks => a.clocks = b.clocks
  | .crossings => a.crossings = b.crossings
  | .refusals => a.refusals = b.refusals
  | .mail => a.mail = b.mail
  | .cores => a.cores = b.cores
  | .activeB => a.activeB = b.activeB
  | .power => a.power = b.power
  | .dict => a.dict = b.dict
  | .hosts => a.hosts = b.hosts
  | .heart => a.heart = b.heart
  | .ports => a.ports = b.ports
  | .modules => a.modules = b.modules
  | .site => a.site = b.site
  | .safety => a.safety = b.safety
  | .metro => a.metro = b.metro
  | .energy => a.energy = b.energy
  | .tariff => a.tariff = b.tariff
  | .ledger => a.ledger = b.ledger
  | .cvu => a.cvu = b.cvu
  | .burl => a.burl = b.burl
  | .update => a.update = b.update
  | .canopy => a.canopy = b.canopy
  | .display => a.display = b.display
  | .held => a.held = b.held

/-- From `s` to `t` only these parts of the device may change, and of the objects only those with these keys: the queue, the memories,
what a read sees, every other part and every other object are the same. -/
def Only (parts : List Part) (keys : List Nat) (s t : State) : Prop :=
  t.pending = s.pending ∧ t.mem = s.mem ∧ t.seen = s.seen ∧ (∀ x : Part, x ≠ .obj → x ∉ parts → x.same s.dev t.dev) ∧
    ∀ k, k ∉ keys → t.dev.val k = s.dev.val k

/-- From `s` to `t` only these parts of the device may change: the queue, the memories, what a read sees and every other part are the same. -/
def Within (parts : List Part) (s t : State) : Prop :=
  t.pending = s.pending ∧ t.mem = s.mem ∧ t.seen = s.seen ∧ ∀ x : Part, x ∉ parts → x.same s.dev t.dev

/-- Nothing of the hosts changes but the slot `x`. -/
def OnlySlot (x : SlotId) (s t : State) : Prop :=
  (∀ q, q ≠ x → t.dev.slot q = s.dev.slot q) ∧ t.dev.hosts.ownership = s.dev.hosts.ownership ∧
    t.dev.hosts.ownerSince = s.dev.hosts.ownerSince ∧ t.dev.hosts.lastHeartbeat = s.dev.hosts.lastHeartbeat ∧
    t.dev.hosts.can = s.dev.hosts.can ∧ t.dev.hosts.busOffCounts = s.dev.hosts.busOffCounts

/-- No port but `p` changes. -/
def OnlyPort (p : PortId) (s t : State) : Prop := ∀ q, q ≠ p → t.dev.port q = s.dev.port q

/-- No port but `p` changes, save what its pilot drives: that follows every change of a port at once (07 R161). -/
def OnlyPilots (p : PortId) (s t : State) : Prop :=
  ∀ q, q ≠ p → ({ t.dev.port q with cp := (s.dev.port q).cp } : Port) = s.dev.port q

/-- The command answers a next state, and of that state `P` holds. -/
def Completes (c : Instr) (s : State) (P : State → Prop) : Prop := ∃ t, exec c s = .next t ∧ P t

/-! ### Requests of hosts -/

/-- A host message is heard (06 R138, R139, R146, R149): the dictionary sequencer runs, the interface carries FDP, the slot is registered
and may use the interface, the MIC verifies, the Sequence is within the window and neither it nor an earlier one ends the registration, and
fewer than eight requests of the slot wait for their answer. -/
def Dev.hears (d : Dev) (m : HostMsg) : Bool :=
  d.sequencerUp && d.ifaceUp m.iface && (d.slot m.slot).registered && d.allowed m.slot m.iface && m.micOk &&
    (sequenceWindow (d.slot m.slot) m.seq.toNat).isSome && decide ((d.slot m.slot).unanswered < 8) && decide (m.seq.toNat < 0xFFFFFF00) &&
    (d.slot m.slot).endAfter.isNone

/-- A write of a host is granted: heard, from the owner, with no shutdown and no role change (05 R112, R128, R134). -/
def Dev.grants (d : Dev) (m : HostMsg) : Bool :=
  d.hears m && decide (d.ownerNext = some m.slot) && d.writeBlocked.isNone

/-- The object accepts these bytes as a value (05 R117 to R120). -/
def takes (key : Nat) (data : Bytes) : Bool :=
  match lookup key with
  | .ok r => (valueFault key r data).isNone
  | .error _ => false

/-- The value those bytes give for the object. -/
def sentValue (key : Nat) (data : Bytes) : Val :=
  match lookup key with
  | .ok r => r.ty.decode data
  | .error _ => .int 0

/-- The objects that the receipt of a message of a slot writes: its active interfaces, when it was last seen, its count. -/
def hostKeys (x : SlotId) : List Nat := [Key.activeInterfaces x, Key.hostLastSeen x, Key.rxCount x]

/-- The device with a heard message noted and its request counted among the unanswered (06 R139, R146, R149). -/
def Dev.admitted (d : Dev) (m : HostMsg) : Dev :=
  let h := (sequenceWindow (d.slot m.slot) m.seq.toNat).getD (d.slot m.slot)
  let d := d.setSlot m.slot fun _ => { h with
    lastValid := d.nowMs, lastIface := m.iface, peers := h.peers.set (ifaceNum m.iface) m.source }
  let d := d.putNat (Key.activeInterfaces m.slot) (setBit (d.nat (Key.activeInterfaces m.slot)) (ifaceBit m.iface) true)
  let d := (d.putNat (Key.hostLastSeen m.slot) d.nowUs).bump (Key.rxCount m.slot)
  d.setSlot m.slot fun h => { h with unanswered := h.unanswered + 1 }

/-- The protected answer to a message, under the slot's next Sequence and its session key, by the interface that received it under the
settings in force then (06 R136, R138, R140, R142, R150). -/
def Dev.reply (d : Dev) (m : HostMsg) (r : HostReply) : Out :=
  let n := (d.slot m.slot).txSeq + 1
  .host m.slot m.iface m.reqId n true r (d.viaOf m.iface (0x20 + m.slot) m.source)
    (fdpWire ((d.slot m.slot).sessionKey.getD []) m.slot m.iface m.reqId n true r)

/-- The last thing the device sends is this answer to the message. -/
def Replied (s t : State) (m : HostMsg) (r : HostReply) : Prop := t.dev.out.getLast? = some (s.dev.reply m r)

/-- The message was answered with `r`, and beside its receipt and its answer only these parts and objects changed. -/
def Served (m : HostMsg) (r : HostReply) (parts : List Part) (keys : List Nat) (s t : State) : Prop :=
  Replied s t m r ∧ Only (.hosts :: .out :: parts) (hostKeys m.slot ++ keys) s t ∧ OnlySlot m.slot s t

end Sys2Proof.Machine
end

