-- ==== Sys2Proof/WellFormed.lean ====
section
/-! DEFINITION. Well-formed commands: operands of the shapes the manual gives them, where the operand types do not say so already. -/

namespace Sys2Proof

/-- A byte string of exactly `n` bytes. -/
def sized (b : Bytes) (n : Nat) : Bool := decide (b.length = n)

/-- A number of `n` bytes. -/
def fitsBytes (x n : Nat) : Bool := decide (x < 2 ^ (8 * n))

/-- Fields of an account record fit their places (11 R277). -/
def AccountFields.wellFormed (f : AccountFields) : Bool :=
  fitsBytes f.number 8 && sized f.cardHash 10 && sized f.contractHash 10 && fitsBytes f.tariffClass 1 && fitsBytes f.friendlyClass 1 &&
    fitsBytes f.status 1 && fitsBytes f.validUntil 4

/-- An image header has 512 bytes (17 R455). -/
def ImageHdr.wellFormed (h : ImageHdr) : Bool := sized h.bytes 512 && sized h.payloadHash 32

/-- A SLAC message names a MAC address of six bytes (07 R167). -/
def SlacMsg.wellFormed : SlacMsg → Bool
  | .paramReq m => sized m 6
  | .sounding m => sized m 6
  | .attenChar m _ => sized m 6
  | .matchReq m => sized m 6

/-- Is the command one the manual's formats can carry? -/
def Instr.wellFormed : Instr → Bool
  | .fabricRead _ _ addr words _ => decide (1 ≤ words ∧ words ≤ 8) && decide (addr % 4 = 0)
  | .fabricWrite _ _ addr words => decide (1 ≤ words.length ∧ words.length ≤ 8) && decide (addr % 4 = 0)
  | .fabricPost _ _ b => decide (b.length ≤ 64)
  | .recordRequest _ f _ => f.wellFormed
  | .read _ _ count _ => fitsBytes count 1
  | .write _ _ total _ data => fitsBytes total 4 && decide (data.length ≤ max total 1024)
  | .segment _ _ number _ data => fitsBytes number 2 && decide (data.length ≤ 1024)
  | .segmentAck _ _ number => fitsBytes number 2
  | .hello _ _ a b => sized a 16 && sized b 16
  | .confirm _ a b => sized a 16 && sized b 16
  | .icmpEchoRequest _ b => decide (b.length ≤ 1472)
  | .slacMessage _ m => m.wellFormed
  | .imageHeader _ _ h => h.wellFormed
  | .joinRequest _ l n p _ _ o => sized l 8 && sized n 16 && fitsBytes p 2 && sized o 16
  | .joinAccept _ n l _ _ g _ => sized n 16 && sized l 8 && fitsBytes g 6
  | .joinRefuse _ l r => sized l 8 && fitsBytes r 1
  | .linkRequest _ l n o _ => sized l 8 && sized n 16 && sized o 16
  | .linkAccept _ n _ => sized n 16
  | .appRead _ _ refs => decide (1 ≤ refs.length ∧ refs.length ≤ 16)
  | .profileWrite _ _ width _ _ _ _ => decide (1 ≤ width ∧ width ≤ 64)
  | .balanceRequest .. | .watchdogExpiry .. | .sramUncorrectableError .. | .fabricSpeedMeasure .. | .utcSecond ..
    | .timerExpiry .. | .dictionaryTick .. | .clockLost .. | .crossCheck .. | .clockRecovered .. | .crossingSideReset ..
    | .crossingResyncDone .. | .crossingClearCounters .. | .mainRailsGood .. | .railMonitorTrip .. | .railRecovered .. | .pfw ..
    | .finalCommitTimeout .. | .mainRailsDown .. | .vbatLoss .. | .resetNLow .. | .resetNHigh .. | .pfwRecovery ..
    | .bootStart .. | .bootComplete .. | .vbatTamperAlarm .. | .commit .. | .discard .. | .shadowTimeout ..
    | .journalStoreDone .. | .publish .. | .segmentTimeout .. | .nop .. | .unknownMessage .. | .registrationTimeout ..
    | .helloRefusalEnd .. | .registrationLapse .. | .deregister .. | .ownershipClaim .. | .ownershipRelease ..
    | .handoverOffer .. | .heartbeat .. | .claimWindowEnd .. | .heartbeatLoss .. | .handoverLapse .. | .stopAll ..
    | .arpRequest .. | .canBusOff .. | .busOffRecovery .. | .busIntegrationDone .. | .pilotStateAccepted .. | .hlcSetupTimeout ..
    | .steadyHighEnd .. | .proximityBandChange .. | .lockConfirmed .. | .lockTimeout .. | .unlock .. | .slacTimeout ..
    | .v2gMessage .. | .v2gTimeout .. | .annexFrame .. | .annexTimeout .. | .permissionInputChange .. | .setpoint .. | .config ..
    | .status .. | .ident .. | .modulePresenceTimeout .. | .statusMissing .. | .converterStopTimeout .. | .portStart ..
    | .portStop .. | .exportStop .. | .closingTimeout .. | .openingTimeout .. | .contactorFeedbackChange .. | .stopWaitTimeout ..
    | .pilotAIdle .. | .allocatorRun .. | .externalLoadTimeout .. | .pauseTimeout .. | .migration .. | .sampleSet ..
    | .measurementDieLost .. | .bitstreamLoss .. | .zeroCrossing .. | .periodEnd .. | .referenceTimeout ..
    | .dieTemperatureReading .. | .channelDiscardEnd .. | .dcMismatch .. | .calStart .. | .calDone .. | .calibrationWrite ..
    | .constantsWrite .. | .ringCommit .. | .lateCommit .. | .hallReading .. | .boundarySet .. | .closeNow .. | .setTime ..
    | .clockStep .. | .writeRecord .. | .selectAccount .. | .keypadScan .. | .keyPress .. | .keypadEntryTimeout ..
    | .keypadUnlock .. | .cardFrame .. | .externalId .. | .authAnswer .. | .hostAuthTimeout .. | .binding .. | .token ..
    | .tokenSubmit .. | .keyChangeHalfExpiry .. | .hostCredit .. | .sealCommand .. | .recordRepair .. | .recordSigned ..
    | .signingRetry .. | .inspectionShowItems .. | .inspectionTestCount .. | .inspectionEnd .. | .inspectionTimeout ..
    | .safetyTick .. | .firebreakFault .. | .safetyInputChange .. | .discrepancyFault .. | .resetEdge .. | .resetStuck ..
    | .outputFault .. | .outputTestPulse .. | .residualCurrentTrip .. | .rcdSelfTest .. | .rcdSelfTestDone .. | .isolationTest ..
    | .insulationEvaluation .. | .imdLoopbackTest .. | .penFault .. | .pt1000Reading .. | .temperatureTrip .. | .sensorStale ..
    | .contactorFaultClear .. | .gridLoss .. | .gridReconnect .. | .followFault .. | .firebreakRestartTimeout ..
    | .confirmCheck .. | .confirmTimeout .. | .checkValueSelfTest .. | .canopyRangeChange .. | .beaconSend .. | .beaconReceive ..
    | .beaconMissed .. | .nifSend .. | .nif .. | .networkCrossing .. | .canopyTransmit .. | .ack .. | .ackTimeout ..
    | .joinTimeout .. | .leave .. | .keepalive .. | .keepaliveSend .. | .tonemapRequest .. | .tonemapResponse ..
    | .tonemapRefresh .. | .tonemapRequestRetry .. | .loadReport .. | .loadReportSend .. | .appResponse .. | .coordinatorStart ..
    | .addressRelease .. | .rejoin .. | .refreshToneMaps .. | .windowArm .. | .windowDisarm .. | .cvuEntry ..
    | .contextRelease .. | .contextWrite .. | .cvuClearCounters .. | .burlRequest .. | .keyImport .. | .keyGenerate ..
    | .keyErase .. | .attestationRead .. | .attestationSigned .. | .tamperAlarm .. | .tamperAlarmEnd .. | .clearHold ..
    | .commission .. | .jtagSession .. | .headerCheckDone .. | .imageChunk .. | .payloadHashDone .. | .installationDone ..
    | .cancelPlan .. | .planPreparationStart .. | .stepSwitch .. | .unitReady .. | .readyTimeout .. | .preparationTimeout ..
    | .drainTimeout .. | .trialEnd .. | .firebreakTrialTimeout .. | .serviceRestart .. | .takeOut .. | .returnUnit ..
    | .frameStart .. | .halfStartReport .. | .stepEndReport .. | .railHoldExpiry .. | .panelTemperatureReading ..
    | .balanceRepair .. | .fullRefreshTimer .. | .refreshNow .. | .pageDwellExpiry .. | .interruptPageExpiry ..
    | .coreRestartDone .. | .datagramDropped .. | .canopyHeaderFail .. => true

end Sys2Proof
end

