-- ==== Sys2Proof/Certificates/Slice0/Obligations.lean ====
section
/-! DEFINITION. The statements for the provers. A clause of the form `Completes c s fun t => …` says that the command answers a next state and what that
state holds; `Only` and `Within` say what else may differ; `Served` and `Replied` say how a host's message is answered. -/

section

open Sys2Proof Sys2Proof.Machine

/-- The command at the front of the queue is taken and carried out on the state with the queue's rest, whatever it is; with nothing waiting the block idles
(log entry 68). -/
def Obligations.StepRunsTheFront : Prop :=
  (∀ (c : Instr) (rest : List Instr) (s : State), s.pending = c :: rest → step s = exec c { s with pending := rest }) ∧
  ∀ s : State, s.pending = [] → step s = .next s

/-- R14, R23: from every state whose memories are in their one canonical form, a step at a well-formed command answers a next state, in which they are
again; no byte of the Heartwood ROM or the Burl ROM has changed, nor, with the lock latch set, any byte of the sealed-parameter partition. Only
FABRIC_WRITE, MAIN_RAILS_GOOD, and the commands that may release a core and load its image (BOOT_START, CORE_RESTART_DONE, UNIT_READY) change a byte,
and the loads only those of the local SRAMs of the cores that run images. -/
def Obligations.EveryStepKeepsTheMemories : Prop :=
  ∀ (s : State) (c : Instr) (rest : List Instr), s.mem.wf = true → s.pending = c :: rest → c.wellFormed = true →
    ∃ t, step s = .next t ∧ t.mem.wf = true ∧ t.pending = rest ∧
      (∀ a, a < regionSize .heartwoodRom → t.mem.read (flat .heartwoodRom a) = s.mem.read (flat .heartwoodRom a)) ∧
      (∀ a, a < regionSize .burlRom → t.mem.read (flat .burlRom a) = s.mem.read (flat .burlRom a)) ∧
      (s.dev.heart.lockLatch = true → ∀ a, mramPartition a = 0 → t.mem.read (flat .mram a) = s.mem.read (flat .mram a)) ∧
      ((∀ tag r addr words, c ≠ .fabricWrite tag r addr words) → c ≠ .mainRailsGood →
        (∀ f, c ≠ .bootStart f) → (∀ k ok, c ≠ .coreRestartDone k ok) → c ≠ .unitReady → t.mem = s.mem) ∧
      ((∃ f, c = .bootStart f) ∨ (∃ k ok, c = .coreRestartDone k ok) ∨ c = .unitReady →
        ∀ a, (∀ k, (Dev.imageTypeOf k).isSome → a < flat (Dev.sramOf k) 0 ∨ flat (Dev.sramOf k) 0 + regionSize (Dev.sramOf k) ≤ a) → t.mem.read a = s.mem.read a)

/-- What reset leaves: an empty queue, memories with nothing listed in their canonical form, the device STARTING, no host registered, nobody the owner, every
group EMPTY, every port IDLE, no timer armed, nothing sent. The values the manual leaves open are those of log entry 2. -/
def Obligations.ResetState : Prop :=
  State.reset.pending = [] ∧ State.reset.mem = [] ∧ State.reset.safe = true ∧ State.reset.dev.power.state = .starting ∧
  (∀ x : SlotId, (State.reset.dev.slot x).registered = false) ∧ State.reset.dev.hosts.ownership = .none ∧
  (∀ g : Fin 64, State.reset.dev.dict.groups[g] = ⟨.empty, [], 0, 0⟩) ∧
  (∀ p : PortId, (State.reset.dev.port p).session = .idle ∧ State.reset.dev.ledger.bind[p] = none) ∧
  (∀ n : Fin 64, State.reset.dev.time.timers[n] = none) ∧ State.reset.dev.out = []

/-- R22: a write is let into a partition of the MRAM only for the writer that the table names, by its tag, into every partition it runs over; into the
sealed parameters only before SEALED, and onto no entry of the general logbook; any other write, and any read or write of the reserved range, is refused: an error, counted at the target with tag and
address, and nothing changes there. -/
def Obligations.MramWritersAreEnforced : Prop :=
  let refused (tag : BitVec 5) (addr : Nat) (s t : State) : Prop :=
    t.dev.out = s.dev.out ++ [.fabric tag.toNat .error] ∧
    t.dev.refusals.find? (fun c => c.target = .mram) =
      some ⟨.mram, ((s.dev.refusals.find? fun c => c.target = .mram).elim 0 (·.count)) + 1, tag.toNat, addr⟩ ∧
    Only [.out, .refusals, .heart] [Key.accessRefusedCount] s t
  let writer (d : Dev) (tag addr : Nat) : Prop :=
    if addr ≤ 0x00FFFFF then tag = 0x03 ∧ d.lifecycle ≠ 3 ∧ d.heart.lockLatch = false
    else if addr ≤ 0x30FFFFF then tag = 0x06
    else if addr ≤ 0x44FFFFF then tag = 0x12
    else if addr ≤ 0x96FFFFF then tag = 0x03
    else if addr ≤ 0x9CFFFFF then tag ∈ [0x01, 0x02, 0x03, 0x04, 0x05, 0x06, 0x08, 0x09, 0x0A, 0x0B, 0x0C, 0x0D]
    else if addr ≤ 0x9EFFFFF then tag = 0x0C
    else if addr ≤ 0xA2FFFFF then tag = if d.activeB then 0x02 else 0x01
    else False
  (∀ (s : State) (tag : BitVec 5) (addr : Nat) (words : List Word), s.dev.powered = true → 1 ≤ words.length → words.length ≤ 8 →
    ¬ (writer s.dev tag.toNat addr ∧ writer s.dev tag.toNat (addr + 4 * words.length - 1)) →
    Completes (.fabricWrite tag .mram addr words) s (refused tag addr s)) ∧
  (∀ (s : State) (tag : BitVec 5) (addr : Nat) (words : List Word), s.dev.powered = true → 1 ≤ words.length → words.length ≤ 8 →
    (∃ k, k < 4 * words.length ∧ mramPartition (addr + k) = 6 ∧
      (s.dev.storeByte .mram (addr + k) ≠ none ∨ s.mem.read (flat .mram (addr + k)) ≠ Memory.unlisted)) →
    Completes (.fabricWrite tag .mram addr words) s (refused tag addr s)) ∧
  (∀ (s : State) (tag : BitVec 5) (addr words : Nat) (bad : Bool), s.dev.powered = true → 1 ≤ words → words ≤ 8 → 0xA300000 ≤ addr →
    Completes (.fabricRead tag .mram addr words bad) s (refused tag addr s)) ∧
  ∀ (s : State) (tag : BitVec 5) (addr : Nat) (words : List Word), s.dev.powered = true → s.dev.rail .vddMem = true → 1 ≤ words.length → words.length ≤ 8 →
    writer s.dev tag.toNat addr → writer s.dev tag.toNat (addr + 4 * words.length - 1) →
    (∀ k, k < 4 * words.length → mramPartition (addr + k) = 6 →
      s.dev.storeByte .mram (addr + k) = none ∧ s.mem.read (flat .mram (addr + k)) = Memory.unlisted) →
    Completes (.fabricWrite tag .mram addr words) s fun t =>
      t = { s with dev := s.dev.say (.fabric tag.toNat .done), mem := s.mem.writeBytes (flat .mram addr) (bytesOf words) }

/-- R139: for the messages NOP and READ, per slot, a Sequence above the highest accepted is accepted and becomes the highest; one in the window of the 32 values below
it is accepted once; every other one is dropped and counted as a replay. Served, a READ whose Sequence is 0xFFFFFF00 or higher ends the registration after
its reply. -/
def Obligations.SequencesAreTakenOnce : Prop :=
  let counted (m : HostMsg) (s t : State) : Prop :=
    t.dev.nat (Key.hostReplayCount m.slot) = min (s.dev.nat (Key.hostReplayCount m.slot) + 1) (Dev.top (Key.hostReplayCount m.slot)) ∧
    Only [] [Key.hostReplayCount m.slot] s t
  let listens (d : Dev) (m : HostMsg) : Prop := d.sequencerUp = true ∧ d.ifaceUp m.iface = true ∧ (d.slot m.slot).registered = true ∧
    d.allowed m.slot m.iface = true ∧ m.micOk = true
  let inWindow (h : HostSlot) (n : Nat) : Prop := n < h.high ∧ h.high ≤ n + 32
  let seen (h : HostSlot) (n : Nat) : Bool := h.seen.testBit (h.high - 1 - n)
  (∀ (s : State) (m : HostMsg), listens s.dev m →
    let h := s.dev.slot m.slot
    let n := m.seq.toNat
    (n = h.high ∨ n + 32 < h.high ∨ (inWindow h n ∧ seen h n = true)) →
    Completes (.nop m) s (counted m s) ∧ ∀ o, ∀ bad, Completes (.read m o 1 ⟨false, bad⟩) s (counted m s)) ∧
  (∀ (s : State) (m : HostMsg), listens s.dev m → m.seq.toNat < 0xFFFFFF00 → (s.dev.slot m.slot).high < m.seq.toNat →
    Completes (.nop m) s fun t =>
      (t.dev.slot m.slot).high = m.seq.toNat ∧
      (∀ n, inWindow (t.dev.slot m.slot) n →
        (seen (t.dev.slot m.slot) n = true ↔ n = (s.dev.slot m.slot).high ∨ (inWindow (s.dev.slot m.slot) n ∧ seen (s.dev.slot m.slot) n = true))) ∧
      OnlySlot m.slot s t ∧ Only [.hosts] (hostKeys m.slot) s t) ∧
  (∀ (s : State) (m : HostMsg), listens s.dev m → m.seq.toNat < 0xFFFFFF00 → inWindow (s.dev.slot m.slot) m.seq.toNat →
    seen (s.dev.slot m.slot) m.seq.toNat = false →
    Completes (.nop m) s fun t =>
      (t.dev.slot m.slot).high = (s.dev.slot m.slot).high ∧
      (∀ n, inWindow (t.dev.slot m.slot) n →
        (seen (t.dev.slot m.slot) n = true ↔ n = m.seq.toNat ∨ seen (s.dev.slot m.slot) n = true)) ∧
      OnlySlot m.slot s t ∧ Only [.hosts] (hostKeys m.slot) s t) ∧
  ∀ (s : State) (m : HostMsg) (o : ObjRef), listens s.dev m → (s.dev.slot m.slot).high < m.seq.toNat → 0xFFFFFF00 ≤ m.seq.toNat →
    (s.dev.slot m.slot).unanswered < 8 → (s.dev.slot m.slot).endAfter = none → s.dev.readCodes (keyOfObj o) 1 false = [] → Dev.isDomain (keyOfObj o) = false →
    ¬ (0x8300 ≤ keyOfObj o / 256 ∧ keyOfObj o / 256 ≤ 0x830F) → 6 + (s.seen.wire (keyOfObj o)).length ≤ bodyLimit m.iface →
    Completes (.read m o 1 ⟨false, false⟩) s fun t =>
      Replied s t m (.values (keyOfObj o) [s.seen.wire (keyOfObj o)]) ∧ (t.dev.slot m.slot).registered = false ∧
      OnlySlot m.slot s t ∧ Only [.hosts, .out] (hostKeys m.slot) s t

/-- R300: a token that was refused as too old or as used stays refused, whatever token is accepted after it; no account's floor falls; and every token in the
memory of 64 stays at or below the newest of its account. -/
def Obligations.UsedTokensStayRefused : Prop :=
  let known (d : Dev) : Prop := ∀ x ∈ d.ledger.memory, ∀ y ∈ d.findNumber x.1, x.2.1 ≤ (d.tokenWord y.1).1
  ∀ (d : Dev) (slot account tid : Nat) (r : Account), known d → d.findNumber account = some (slot, r) →
    known (d.acceptTid slot account tid) ∧
    (d.acceptTid slot account tid).tidOk slot account tid = false ∧
    (∀ k, tokenFloor (d.tokenWord k) ≤ tokenFloor ((d.acceptTid slot account tid).tokenWord k)) ∧
    (∀ k a x n, d.findNumber a = some (k, x) → d.tidOk k a n = false → (d.acceptTid slot account tid).tidOk k a n = false) ∧
    (d.ledger.memory.length ≤ 64 → (d.acceptTid slot account tid).ledger.memory.length ≤ 64)

/-- R20: a refused transaction answers its initiator with an error, the target's counter rises by one and holds the tag and the
address, no other counter moves, and nothing changes at any target. A transaction is refused for a tag with no initiator behind it, a
range beyond the target, or an initiator whom the target's access rules do not name; on crossing 0x36 (R33, R55) also for a word that changes what only
the other writer may change, and a post of the debug island. -/
def Obligations.RefusedTransactionsChangeNothingAtTheTarget : Prop :=
  let refused (tag : BitVec 5) (r : Region) (addr : Nat) (s t : State) : Prop :=
    t.dev.out = s.dev.out ++ [.fabric tag.toNat .error] ∧
    t.dev.refusals.find? (fun c => c.target = r) =
      some ⟨r, ((s.dev.refusals.find? fun c => c.target = r).elim 0 (·.count)) + 1, tag.toNat, addr⟩ ∧
    (∀ q, q ≠ r → t.dev.refusals.find? (fun c => c.target = q) = s.dev.refusals.find? fun c => c.target = q) ∧
    Only [.out, .refusals, .heart] [Key.accessRefusedCount] s t
  (∀ (s : State) (tag : BitVec 5) (r : Region) (addr words : Nat) (bad : Bool), s.dev.powered = true → 1 ≤ words → words ≤ 8 →
    (∀ i ∈ tagUsed s.dev tag, regionSize r < addr + 4 * words ∨ mayRead s.dev i r addr (4 * words) = false) →
    Completes (.fabricRead tag r addr words bad) s (refused tag r addr s)) ∧
  (∀ (s : State) (tag : BitVec 5) (r : Region) (addr : Nat) (words : List Word), s.dev.powered = true → 1 ≤ words.length →
    words.length ≤ 8 →
    (∀ i ∈ tagUsed s.dev tag,       regionSize r < addr + 4 * words.length ∨ mayWrite s.dev s.mem i r addr (4 * words.length) = false) →
    Completes (.fabricWrite tag r addr words) s (refused tag r addr s)) ∧
  (∀ (s : State) (tag : BitVec 5) (i : Initiator) (addr : Nat) (words : List Word), s.dev.powered = true → 1 ≤ words.length →
    words.length ≤ 8 → tagUsed s.dev tag = some i →
    (∃ n, n < 8 ∧ addr / 4 ≤ n ∧ n < addr / 4 + words.length ∧
      pilotWordOk i (((s.dev.crossings[(0x36 : Fin 58)].entries.head?).getD []).getD n 0) (words.getD (n - addr / 4) 0) = false) →
    Completes (.fabricWrite tag (.crossing 0x36) addr words) s (refused tag (.crossing 0x36) addr s)) ∧
  ∀ (s : State) (tag : BitVec 5) (c : CoreId) (b : Bytes), s.dev.powered = true → b.length ≤ 64 →
    (tagUsed s.dev tag = none ∨ tagUsed s.dev tag = some .debug) →
    Completes (.fabricPost tag c b) s (refused tag (.mailbox c) 0 s)

/-- R18: a transaction the access rules let through reaches its target. A write to a memory stores exactly its words there and leaves
every other byte; a read answers exactly what the memory holds, in the places of a
store that the block itself keeps the image of that store (log entry 9); a core's read of its mailbox takes the oldest message (log entry 69); a word that fails its check answers an error (R12); nothing else
changes. -/
def Obligations.GrantedTransactionsReachMemory : Prop :=
  let memory (r : Region) : Prop := (∀ c, r ≠ .crossing c) ∧ (∀ n, r ≠ .timerChannel n) ∧ ∀ c, r ≠ .mailbox c
  (∀ (s : State) (tag : BitVec 5) (i : Initiator) (r : Region) (addr : Nat) (words : List Word), s.dev.powered = true →
    1 ≤ words.length → words.length ≤ 8 → tagUsed s.dev tag = some i → addr + 4 * words.length ≤ regionSize r →
    mayWrite s.dev s.mem i r addr (4 * words.length) = true → s.dev.logHolds r addr (4 * words.length) = false → memory r → s.dev.rail .vddMem = true → s.mem.wf = true →
    Completes (.fabricWrite tag r addr words) s fun t =>
      (∀ k, k < 4 * words.length → t.mem.read (flat r addr + k) = (bytesOf words).getD k 0) ∧
      (∀ a, a < flat r addr ∨ flat r addr + 4 * words.length ≤ a → t.mem.read a = s.mem.read a) ∧
      t.mem.wf = true ∧ t.dev = s.dev.say (.fabric tag.toNat .done) ∧ t.pending = s.pending) ∧
  (∀ (s : State) (tag : BitVec 5) (i : Initiator) (r : Region) (addr words : Nat), s.dev.powered = true →
    1 ≤ words → words ≤ 8 → tagUsed s.dev tag = some i → addr + 4 * words ≤ regionSize r →
    mayRead s.dev i r addr (4 * words) = true → memory r → s.dev.rail .vddMem = true →
    Completes (.fabricRead tag r addr words false) s fun t =>
      (∃ ws, t.dev = s.dev.say (.fabric tag.toNat (.data ws)) ∧ ws.length = words ∧
        ∀ k, k < 4 * words → (bytesOf ws).getD k 0 = s.byteAt r (addr + k)) ∧ t.mem = s.mem ∧ t.pending = s.pending) ∧
  (∀ (s : State) (tag : BitVec 5) (c : CoreId) (words : Nat) (msg : Mail) (rest : List Mail), s.dev.powered = true →
    1 ≤ words → words ≤ 8 → tagUsed s.dev tag = some (.core c) → s.dev.mail[coreNum c] = msg :: rest →
    Completes (.fabricRead tag (.mailbox c) 0 words false) s fun t =>
      (∃ ws, t.dev.out = s.dev.out ++ [.fabric tag.toNat (.data ws)] ∧ ws.length = words ∧
        ∀ k, k < 4 * words → (bytesOf ws).getD k 0 = msg.body.getD k 0) ∧
      t.dev.mail[coreNum c] = rest ∧ (∀ q : Fin 12, q ≠ coreNum c → t.dev.mail[q] = s.dev.mail[q]) ∧ Only [.out, .mail] [] s t) ∧
  ∀ (s : State) (tag : BitVec 5) (i : Initiator) (r : Region) (addr words : Nat), s.dev.powered = true →
    1 ≤ words → words ≤ 8 → tagUsed s.dev tag = some i → addr + 4 * words ≤ regionSize r →
    mayRead s.dev i r addr (4 * words) = true →
    Completes (.fabricRead tag r addr words true) s fun t => t = { s with dev := s.dev.say (.fabric tag.toNat .error) }

/-- R53: a write to a queue crossing that has space joins its end and completes; one that finds it full stalls, with no answer.
A write to a timer channel arms it for the writing core (R45). A post joins its target's mailbox, last (R18, R19). -/
def Obligations.CrossingsTimersAndPostsTakeTransactions : Prop :=
  (∀ (s : State) (tag : BitVec 5) (i : Initiator) (c : Fin 58) (words : List Word), s.dev.powered = true → 1 ≤ words.length →
    words.length ≤ 8 → tagUsed s.dev tag = some i → mayWrite s.dev s.mem i (.crossing c) 0 (4 * words.length) = true →
    xKind c = .queue → s.dev.crossings[c].state = .running → s.dev.crossings[c].stalled = [] →
    Completes (.fabricWrite tag (.crossing c) 0 words) s fun t =>
      let full := xDepth c < xFill c (s.dev.crossings[c].entries ++ [words])
      t.dev.crossings[c].entries = s.dev.crossings[c].entries ++ (if full then [] else [words]) ∧
      t.dev.crossings[c].stalled = (if full then [(tag.toNat, words)] else []) ∧
      t.dev.crossings[c].dropped = s.dev.crossings[c].dropped ∧
      t.dev.out = s.dev.out ++ (if full then [] else [.fabric tag.toNat .done]) ∧
      (∀ b : Fin 58, b ≠ c → t.dev.crossings[b] = s.dev.crossings[b]) ∧ Only [.out, .crossings] [] s t) ∧
  (∀ (s : State) (tag : BitVec 5) (k : CoreId) (n : Fin 64) (words : List Word), s.dev.powered = true → 1 ≤ words.length →
    words.length ≤ 2 → tagUsed s.dev tag = some (.core k) → k ≠ .firebreakB →
    Completes (.fabricWrite tag (.timerChannel n) 0 words) s fun t =>
      t.dev.time.timers[n] = some (leVal (bytesOf words), k) ∧ (∀ b : Fin 64, b ≠ n → t.dev.time.timers[b] = s.dev.time.timers[b]) ∧
      t.dev.time = { s.dev.time with timers := t.dev.time.timers } ∧
      t.dev.out = s.dev.out ++ [.fabric tag.toNat .done] ∧ Only [.out, .time] [] s t) ∧
  ∀ (s : State) (tag : BitVec 5) (i : Initiator) (c : CoreId) (b : Bytes), s.dev.powered = true → b.length ≤ 64 →
    tagUsed s.dev tag = some i → i ≠ .debug →
    Completes (.fabricPost tag c b) s fun t =>
      t.dev.mail[coreNum c] = s.dev.mail[coreNum c] ++ [⟨tag.toNat, b⟩] ∧
      (∀ q : Fin 12, q ≠ coreNum c → t.dev.mail[q] = s.dev.mail[q]) ∧
      t.dev.out = s.dev.out ++ [.fabric tag.toNat .done] ∧ Only [.out, .mail] [] s t

/-- R40, R42, R44, R45, R48: the fabric's speed is measured; a UTC second is latched with the fabric time of its start, crosses on 0x2D as
one value, and the slew moves towards zero by at most 32 cycles of 32.768 kHz; a time base off by more than 200 ppm is logged; an armed timer
channel that has come to its compare value expires once, for its core, on event crossing 0x05, or is lost while that crossing is in reset (R59). On VBAT
alone UTC and its slew go on (03 R83). -/
def Obligations.IslandsKeepTime : Prop :=
  (∀ (s : State) (mips : Nat), s.dev.powered = true → s.dev.clocks.ref16Lost = false →
    Completes (.fabricSpeedMeasure mips) s fun t =>
      t.dev.nat Key.fabricSpeedNow = min mips 1000 ∧ t.dev.nat Key.fabricSpeedMin = min (min mips 1000) (s.dev.nat Key.fabricSpeedMin) ∧
      Only [] [Key.fabricSpeedNow, Key.fabricSpeedMin] s t) ∧
  (∀ (s : State) (ticks : Nat), s.dev.powered = true → s.dev.clocks.xt32Lost = false →
    Completes (.utcSecond ticks) s fun t =>
      t.dev.time.utcS = s.dev.time.utcS + 1 ∧ t.dev.time.tLatch = s.dev.time.fabric ∧
      (t.dev.time.slew - s.dev.time.slew).natAbs = min s.dev.time.slew.natAbs 15625 ∧ t.dev.time.slew.natAbs ≤ s.dev.time.slew.natAbs ∧
      t.dev.time = { s.dev.time with utcS := t.dev.time.utcS, tLatch := t.dev.time.tLatch, slew := t.dev.time.slew } ∧
      (s.dev.crossings[0x2D].state = .running → t.dev.crossings[0x2D].stale = false ∧
        t.dev.crossings[0x2D].entries = [utcWords { s.dev with time := t.dev.time }]) ∧
      (∀ c : Fin 58, c ≠ 0x2D → c ≠ 0x2E → t.dev.crossings[c] = s.dev.crossings[c]) ∧
      (s.dev.time.unknown = true →
        (if 200 * 4096000 < ((ticks : Int) - 4096000).natAbs * 1000000 then
          ∃ e ppm, t.dev.heart.general = e :: s.dev.heart.general.take 98303 ∧ e.event = .timeBaseMismatch ppm
        else t.dev.heart.general = s.dev.heart.general) ∧ t.dev.heart = { s.dev.heart with general := t.dev.heart.general } ∧
        Only [.time, .crossings, .heart] [Key.i1VersusI6] s t) ∧
      Within [.obj, .time, .crossings, .heart, .ports, .site, .safety, .energy, .tariff] s t) ∧
  (∀ (s : State) (ticks : Nat), s.dev.powered = false → s.dev.power.state ≠ .off → s.dev.clocks.xt32Lost = false →
    Completes (.utcSecond ticks) s fun t =>
      t.dev.time = { s.dev.time with utcS := s.dev.time.utcS + 1, slew := t.dev.time.slew } ∧
      (t.dev.time.slew - s.dev.time.slew).natAbs = min s.dev.time.slew.natAbs 15625 ∧ t.dev.time.slew.natAbs ≤ s.dev.time.slew.natAbs ∧
      Only [.time, .crossings] [] s t) ∧
  ∀ (s : State) (n : Fin 64) (at_ : Nat) (core : CoreId), s.dev.powered = true → s.dev.time.timers[n] = some (at_, core) →
    at_ ≤ s.dev.time.fabric →
    Completes (.timerExpiry n) s fun t =>
      t.dev.time = { s.dev.time with timers := s.dev.time.timers.set n none } ∧
      t.dev.out = s.dev.out ++ (if s.dev.crossings[5].state = .running then [.timer core n] else []) ∧
      (s.dev.crossings[5].state = .running →
        if s.dev.crossings[5].entries.length < 4 then
          t.dev.crossings[5].entries = s.dev.crossings[5].entries ++ [[BitVec.ofNat 32 n.val]] ∧
            t.dev.crossings[5].overruns = s.dev.crossings[5].overruns
        else t.dev.crossings[5].entries = s.dev.crossings[5].entries ∧ t.dev.crossings[5].overrun = true ∧
          t.dev.crossings[5].overruns = satAdd 32 s.dev.crossings[5].overruns 1) ∧
      (s.dev.crossings[5].state ≠ .running → t.dev.crossings[5] = s.dev.crossings[5]) ∧
      (∀ c : Fin 58, c ≠ 5 → t.dev.crossings[c] = s.dev.crossings[c]) ∧ Only [.out, .time, .crossings] [] s t

/-- R57 to R59, R61: a reset of one side empties a queue and counts its entries as discarded, makes a value stale and an event crossing
overrun; nothing crosses until resynchronisation, which lets a queue run and counts it, and gives the reader of a value that was reset the writer's value
again; a unit behind the island side rejoins by its own rule (R60); clearing zeroes every count. -/
def Obligations.CrossingsResetResyncAndClear : Prop :=
  (∀ (s : State) (c : Fin 58) (side : Side), s.dev.powered = true →
    Completes (.crossingSideReset c side) s fun t =>
      let st : XState := match side with | .island => .islandReset | .fabric => .fabricReset
      t.dev.crossings[c].state = (if s.dev.crossings[c].state = .clockLost then .clockLost else st) ∧
      t.dev.crossings[c].stalled = (if side = .fabric then [] else s.dev.crossings[c].stalled) ∧
      (xKind c = .queue → t.dev.crossings[c].entries = [] ∧
        t.dev.crossings[c].discarded = satAdd 32 s.dev.crossings[c].discarded s.dev.crossings[c].entries.length) ∧
      (xKind c = .value → t.dev.crossings[c].stale = true ∧ t.dev.crossings[c].entries = s.dev.crossings[c].entries ∧
        (t.dev.crossings[c].blank = true ↔ s.dev.crossings[c].blank = true ∨ xWriterDown c st = false)) ∧
      (xKind c = .event → t.dev.crossings[c].overrun = true ∧
        t.dev.crossings[c].overruns = satAdd 32 s.dev.crossings[c].overruns 1) ∧
      t.dev.crossings[c].lastReset = s.dev.nowUs ∧ (∀ x : Fin 58, x ≠ c → t.dev.crossings[x] = s.dev.crossings[x]) ∧
      (side = .island → ∀ h : 0x1C ≤ c.val ∧ c.val ≤ 0x27, s.dev.hosts.can[(c.val - 0x1C) % 6] ≠ .off →
        t.dev.hosts.can[(c.val - 0x1C) % 6] = .integrating) ∧
      (∀ h : 0x08 ≤ c.val ∧ c.val ≤ 0x17, (t.dev.port ⟨c.val % 8, by omega⟩).slac = .restarted) ∧
      Within [.obj, .crossings, .hosts, .heart, .ports, .safety, .metro, .cvu, .canopy] s t) ∧
  (∀ (s : State) (c : Fin 58), s.dev.powered = true → s.dev.crossings[c].state ≠ .clockLost → s.dev.crossings[c].state ≠ .running →
    s.dev.crossings[c].stalled = [] →
    let x := s.dev.crossings[c]
    Completes (.crossingResyncDone c) s fun t =>
      t.dev.crossings[c] = { x with
        state := .running
        stale := if xKind c = .value ∧ (x.blank = true ∨ x.took = true) ∧ x.entries ≠ [] then false else x.stale
        blank := if xKind c = .value ∧ x.entries ≠ [] then false else x.blank
        took := if xKind c = .value then false else x.took
        resync := if xKind c = .queue then satAdd 32 x.resync 1 else x.resync } ∧
      (∀ b : Fin 58, b ≠ c → t.dev.crossings[b] = s.dev.crossings[b]) ∧ (c ≠ 0x2E → Only [.crossings] [] s t) ∧
      Within [.obj, .crossings, .heart, .ports, .site, .safety, .energy, .tariff] s t) ∧
  ∀ (s : State) (m : HostMsg) (data : Bytes), s.dev.grants m = true → takes Key.xingClearCounters data = true →
    Completes (.crossingClearCounters m data) s fun t =>
      (∀ c : Fin 58, t.dev.crossings[c] = { s.dev.crossings[c] with
        resync := 0, discarded := 0, dropped := 0, highWater := 0, overrun := false, overruns := 0 }) ∧
      t.dev.nat Key.fabricSpeedMin = s.dev.nat Key.fabricSpeedNow ∧
      Served m (.done Key.xingClearCounters) [.crossings] [Key.fabricSpeedMin] s t

/-- R46, R47: a lost clock stops the island sides it drives, whose queues empty, values go stale and events overrun; a clock that is back lets
them resynchronise, I7 only after a cross-check that has passed since; the cross-check declares lost the clock its outcome table names. The rounding of the
deviations to ppm, and what a check without a complete I6 second leaves as it is, are the model's choices (log entry 69). -/
def Obligations.ClocksAreLostCheckedAndRecovered : Prop :=
  let lost (c : ClockId) (d : Dev) : Bool := match c with
    | .ref16 => d.clocks.ref16Lost | .ref25 => d.clocks.ref25Lost | .xt32 => d.clocks.xt32Lost | .i7 => d.clocks.i7Lost
    | .i8 => d.clocks.i8Lost
  let ok (n : Nat) : Prop := 7760000 ≤ n ∧ n ≤ 8240000
  (∀ (s : State) (c : ClockId), s.dev.powered = true → s.dev.power.shutdownStep < 5 → lost c s.dev = false →
    (if c = .i7 then s.dev.clocks.ref16Lost else s.dev.clocks.i7Lost) = false →
    Completes (.clockLost c) s fun t => lost c t.dev = true ∧
      (∀ x : Fin 58, xIsland x ∈ islandsOf c → t.dev.crossings[x].state = .clockLost ∧
        (xKind x = .queue → t.dev.crossings[x].entries = []) ∧ (xKind x = .value → t.dev.crossings[x].stale = true) ∧
        (xKind x = .event → t.dev.crossings[x].overrun = true)) ∧
      (c ≠ .ref16 → ∀ x : Fin 58, xIsland x ∉ islandsOf c → x ≠ 0x28 → t.dev.crossings[x] = s.dev.crossings[x]) ∧
      (∀ b, b ≠ c → lost b t.dev = lost b s.dev) ∧
      Within [.free, .out, .obj, .time, .clocks, .crossings, .cores, .hosts, .heart, .ports, .site, .safety, .metro, .energy, .tariff, .ledger,
        .cvu, .burl, .canopy, .display, .held] s t) ∧
  (∀ (s : State) (c : ClockId), s.dev.powered = true → lost c s.dev = true →
    (c = .i7 → s.dev.clocks.i7Passed = true ∧ s.dev.rail .vddSafe = true) →
    Completes (.clockRecovered c) s fun t => lost c t.dev = false ∧
      (∀ x : Fin 58, xIsland x ∈ islandsOf c → t.dev.islandRuns (xIsland x) = true → s.dev.crossings[x].state = .clockLost →
        t.dev.crossings[x].state = .resync) ∧
      (∀ x : Fin 58, xIsland x ∉ islandsOf c → t.dev.crossings[x] = s.dev.crossings[x]) ∧
      (∀ b, b ≠ c → lost b t.dev = lost b s.dev) ∧
      Within [.obj, .clocks, .crossings, .hosts, .heart, .ports, .site, .safety, .metro, .display] s t) ∧
  ∀ (s : State) (n1 : Nat) (n6 : Option Nat), s.dev.powered = true → s.dev.power.shutdownStep < 5 → s.dev.clocks.ref16Lost = false →
    Completes (.crossCheck n1 n6) s fun t => (ok n1 → t.dev.clocks.latestN1 = n1) ∧ (¬ ok n1 → t.dev.clocks.latestN1 = s.dev.clocks.latestN1) ∧
      (n6 = none → t.dev.clocks.xt32Lost = true) ∧
      (∀ n ∈ n6, ok n1 → ok n →
        t.dev.clocks = { s.dev.clocks with
          latestN1 := n1, n1Fails := 0, n6Fails := 0, checked := true, i6Cold := false, i7Passed := s.dev.clocks.i7Lost } ∧
        t.dev.int Key.i7VersusI1 = divRound ((n1 : Int) - 8000000) 8 ∧
        t.dev.int Key.i7VersusI6 = divRound ((n : Int) - 8000000) 8 ∧ Only [.clocks] [Key.i7VersusI1, Key.i7VersusI6] s t) ∧
      (∀ n ∈ n6, ok n1 → ¬ ok n →
        (t.dev.clocks.xt32Lost = true ↔ s.dev.clocks.xt32Lost = true ∨ 1 ≤ s.dev.clocks.n6Fails) ∧
        t.dev.clocks.n6Fails = s.dev.clocks.n6Fails + 1) ∧
      (∀ n ∈ n6, ¬ ok n1 → ok n →
        (t.dev.clocks.ref16Lost = true ↔ 1 ≤ s.dev.clocks.n1Fails)) ∧
      (∀ n ∈ n6, ¬ ok n1 → ¬ ok n → t.dev.clocks.i7Lost = true)

/-- R25 to R27: the ledger port serves a record request of the active Sapwood core: the account keeps its stored balance (0 where it is new), takes the other
fields, carries a valid check value, and no other record changes; WRITE_RECORD of the owner does the same; a request that would change the balance is refused.
A balance request of Heartwood adds its amount to the balance of a sound record and to nothing else; on a record that fails its check value the ledger port
writes nothing and answers an error, and Heartwood writes event 0x0503 with the account number. -/
def Obligations.AccountRequestsKeepAndMoveBalances : Prop :=
  let written (f : AccountFields) (s t : State) : Prop :=
    let slot := (s.dev.findNumber f.number).elim (lowestFree s.dev.ledger.accounts 0) (·.1)
    (∃ r, t.dev.acct slot = some r ∧ r.balance = (s.dev.findNumber f.number).elim 0 (·.2.balance) ∧ r.number = f.number ∧
      r.creditLimit = f.creditLimit ∧ r.lastSession = f.lastSession ∧ r.tariffClass = f.tariffClass ∧ r.friendlyClass = f.friendlyClass ∧
      r.status = f.status ∧ r.stsIndex = f.stsIndex ∧ r.keyRevision = f.keyRevision ∧ r.maxPower = f.maxPower ∧
      r.validUntil = f.validUntil ∧ r.sound = true) ∧
    (∀ k, k ≠ slot → t.dev.acct k = s.dev.acct k) ∧ 
      t.dev.ledger = { s.dev.ledger with accounts := t.dev.ledger.accounts, index := t.dev.ledger.index }
  (∀ (s : State) (tag : BitVec 5) (f : AccountFields) (b : Option Int), s.dev.ledgerUp = true →
    initiator tag = some (.core s.dev.activeSapwood) → s.dev.recordFault f = none → f.status ≠ 0 →
    (∀ x ∈ b, x = (s.dev.findNumber f.number).elim 0 (·.2.balance)) →
    Completes (.recordRequest tag f b) s fun t => written f s t ∧
      t.dev.out = s.dev.out ++ [.fabric tag.toNat .done] ∧ Only [.out, .ledger] [] s t) ∧
  (∀ (s : State) (tag : BitVec 5) (f : AccountFields) (b : Int), s.dev.powered = true →
    initiator tag = some (.core s.dev.activeSapwood) → b ≠ (s.dev.findNumber f.number).elim 0 (·.2.balance) →
    Completes (.recordRequest tag f (some b)) s fun t =>
      t.dev.out = s.dev.out ++ [.fabric tag.toNat .error] ∧ Only [.out, .refusals, .heart] [Key.accessRefusedCount] s t) ∧
  (∀ (s : State) (m : HostMsg) (data b : Bytes), s.dev.grants m = true → takes Key.writeRecord data = true →
    sentValue Key.writeRecord data = .bytes b → writeRecordFault b = none → s.dev.ledgerUp = true →
    s.dev.recordFault (fieldsOf b) = none → (fieldsOf b).status ≠ 0 →
    Completes (.writeRecord m data) s fun t => written (fieldsOf b) s t ∧ Served m (.done Key.writeRecord) [.ledger] [] s t) ∧
  (∀ (s : State) (tag : BitVec 5) (account slot reason : Nat) (amount : Int) (tid : Option Nat) (a : Account), s.dev.balancesMove = true →
    initiator tag = some (.core .heartwood) → s.dev.findNumber account = some (slot, a) → s.dev.acct slot = some a → a.sound = true →
    (carriesTid reason = true → ∀ x ∈ tid, s.dev.tidOk slot account x = true) → a.status ≠ 0 →
    -(2 ^ 63 : Int) ≤ a.balance + amount → a.balance + amount < 2 ^ 63 →
    Completes (.balanceRequest tag account amount reason tid) s fun t =>
      (∃ r, t.dev.acct slot = some r ∧ r.balance = a.balance + amount ∧ r.fields = a.fields ∧ r.sound = true) ∧
      (∀ k, k ≠ slot → t.dev.acct k = s.dev.acct k) ∧
      (carriesTid reason = false ∨ tid = none → t.dev.ledger = { s.dev.ledger with accounts := t.dev.ledger.accounts, index := t.dev.ledger.index }) ∧
      t.dev.out = s.dev.out ++ [.fabric tag.toNat .done] ∧ Only [.out, .ledger] [] s t) ∧
  ∀ (s : State) (tag : BitVec 5) (account slot reason : Nat) (amount : Int) (tid : Option Nat) (a : Account), s.dev.balancesMove = true →
    initiator tag = some (.core .heartwood) → s.dev.findNumber account = some (slot, a) → s.dev.acct slot = some a → a.sound = false →
    Completes (.balanceRequest tag account amount reason tid) s fun t =>
      t.dev.out = s.dev.out ++ [.fabric tag.toNat .error] ∧ t.dev.nat Key.ledgerCorruptCount = min (s.dev.nat Key.ledgerCorruptCount + 1) (Dev.top Key.ledgerCorruptCount) ∧
      (∃ e : LegalEntry, t.dev.heart = { s.dev.heart with log := e :: s.dev.heart.log.take 32767 } ∧ e.code = 0x0503 ∧
        e.data.take 8 = leBytes 8 a.number) ∧
      Only [.out, .heart] [Key.ledgerCorruptCount] s t

/-- R38, R475: a core whose watchdog expires, or whose SRAM fails, restarts, with the reactions the table *Reaction to a watchdog expiry or an
uncorrectable SRAM error* lists; it runs again only once it has restarted, and a core whose image fails its check stays in reset; the
fabric sides of the crossings that are the core's alone reset with it (R57), and a core that runs again has its image in its SRAM (R15). -/
def Obligations.FailedCoresRestart : Prop :=
  let failed (c : CoreId) (cause : Nat) (s t : State) : Prop :=
    t.dev.cores = s.dev.cores.set (coreNum c) (.restarting cause) ∧
    (∀ x ∈ s.dev.coreCrossings c, t.dev.crossings[x].state ≠ .running) ∧
    (c = .heartwood → t.dev.energy.batch = [] ∧ t.dev.energy.commit = none) ∧
    (c = .firebreakA ∨ c = .firebreakB → t.dev.safety.firebreakFault = true ∧ t.dev.safety.testsPassed = false) ∧
    (c = s.dev.activeSapwood → s.dev.running s.dev.standbySapwood = true → t.dev.activeB = !s.dev.activeB) ∧
    Within [.free, .out, .obj, .crossings, .cores, .activeB, .dict, .hosts, .heart, .ports, .site, .safety, .energy, .ledger, .cvu, .burl, .update,
      .canopy, .display, .held] s t
  (∀ (s : State) (c : CoreId), s.dev.powered = true → s.dev.running c = true → s.dev.update.run = none →
    Completes (.watchdogExpiry c) s (failed c 1 s)) ∧
  (∀ (s : State) (c : CoreId), s.dev.powered = true → s.dev.running c = true → s.dev.update.run = none →
    Completes (.sramUncorrectableError c) s (failed c 2 s)) ∧
  ∀ (s : State) (c : CoreId) (cause : Nat) (ok : Bool), s.dev.powered = true → s.dev.cores[coreNum c] = .restarting cause →
    Dev.planAwaits s.dev c = false → (Dev.imageTypeOf c ≠ none → s.dev.burlUp = true) →
    Completes (.coreRestartDone c ok) s fun t =>
      t.dev.cores[coreNum c] = (if ok = true ∨ Dev.imageTypeOf c = none then .running else .held) ∧
      (∀ k, coreNum k ≠ coreNum c → t.dev.cores[coreNum k] = s.dev.cores[coreNum k]) ∧
      t.mem = s.dev.coresLoaded t.dev s.mem ∧
      Within [.out, .obj, .crossings, .cores, .activeB, .dict, .hosts, .heart, .ports, .site, .safety, .metro, .energy, .tariff, .ledger, .cvu, .burl,
        .canopy, .display] { s with mem := t.mem } t

/-- R43, R113, R116: a dictionary tick is 4,096 ticks of fabric time. At its end the writes that waited take effect: a value written is the
value in force, and the change joins the journal with the request it answers. A stored entry leaves the journal for the persistence partition
and its request is answered; one that could not be stored answers 0x09000001 and is tried again. -/
def Obligations.TicksApplyWritesAndTheJournalStoresThem : Prop :=
  let sent (d : Dev) (a : Ack) (r : HostReply) : Out :=
    .host a.slot a.iface a.reqId ((d.slot a.slot).txSeq + 1) true r a.via
      (fdpWire ((d.slot a.slot).sessionKey.getD []) a.slot a.iface a.reqId ((d.slot a.slot).txSeq + 1) true r)
  (∀ s : State, s.dev.powered = true →
    Completes .dictionaryTick s fun t =>
      t.dev.time.fabric = s.dev.time.fabric + 4096 ∧ t.dev.dict.tick = s.dev.dict.tick + 1 ∧
      (s.dev.sequencerUp = true → t.dev.dict.items = []) ∧ t.seen = t.dev ∧ t.pending = s.pending ∧ t.mem = s.mem) ∧
  (∀ (d : Dev) (a : Ack) (k : Nat) (v : Val) (r : Row), d.dict.items = [.write a k v] → rowOf k = some r → r.vol = false →
    k ≠ Key.allocatorFlags → d.applyItems.val k = v ∧ d.applyItems.dict.items = [] ∧
      d.applyItems.dict.journal = d.dict.journal ++ [⟨[(k, v)], bytesOfStore [(k, v)], crc32c (Dev.entryBytes [(k, v)]), d.dict.journalAt, some a⟩]) ∧
  (∀ (s : State) (j : JournalEntry) (r : List JournalEntry) (a : Ack) (k : Nat) (v : Val), s.dev.sequencerUp = true →
    s.dev.rail .vddMem = true → s.dev.dict.journal = j :: r → j.items = [(k, v)] → j.ack = some a →
    (s.dev.slot a.slot).registered = true → (s.dev.slot a.slot).session = a.session → s.dev.ifaceUp a.iface = true →
    Completes (.journalStoreDone true) s fun t =>
      t.dev.dict.journal = r ∧ t.dev.dict.stored.find k = some v ∧
      (∀ q, q ≠ k → t.dev.dict.stored.find q = s.dev.dict.stored.find q) ∧
      t.dev.out = s.dev.out ++ [sent s.dev a (.done a.key)] ∧
      OnlySlot a.slot s t ∧ Only [.out, .hosts, .dict] [] s t) ∧
  ∀ (s : State) (j : JournalEntry) (r : List JournalEntry) (a : Ack), s.dev.sequencerUp = true →
    s.dev.dict.journal = j :: r → j.ack = some a → (s.dev.slot a.slot).registered = true → (s.dev.slot a.slot).session = a.session →
    s.dev.ifaceUp a.iface = true →
    Completes (.journalStoreDone false) s fun t =>
      t.dev.dict.journal = { j with ack := none } :: r ∧ t.dev.dict.stored = s.dev.dict.stored ∧
      t.dev.out = s.dev.out ++ [sent s.dev a (.abort 0x09000001 a.key)] ∧
      t.dev.nat Key.lastAbortCode = 0x09000001 ∧ (∀ g ∈ commitOf a.key, t.dev.nat (Key.lastResult g) = 0x09000001) ∧ OnlySlot a.slot s t ∧
      Only [.out, .hosts, .dict] ((commitOf a.key).elim [] (fun g => [Key.lastResult g, Key.failingObject g]) ++ [Key.lastAbortCode, Key.lastAbortObject, Key.lastAbortHost, Key.abortCount]) s t

/-- R122, R125, R126: a write of a staged object goes into its group's shadow; a commit of an empty group, or one that follows another in the same
tick (log entry 72), succeeds and changes nothing, one
of a valid group waits for the tick boundary, one of an invalid group keeps the shadow and applies nothing; a discard empties the shadow, and
60 s expire it, both logged. -/
def Obligations.GroupsAreStagedCommittedAndDiscarded : Prop :=
  (∀ (s : State) (m : HostMsg) (g : Fin 64) (data : Bytes), s.dev.grants m = true → takes (Key.groupCommit g) data = true →
    (s.dev.group g).phase = .empty ∨ (s.dev.group g).phase = .committing → s.dev.groupLocked g = false →
    Completes (.commit m g data) s fun t =>
      t.dev.nat (Key.lastResult g) = 0 ∧ t.dev.nat (Key.failingObject g) = 0 ∧
      Served m (.done (Key.groupCommit g)) [] [Key.lastResult g, Key.failingObject g] s t) ∧
  (∀ (s : State) (m : HostMsg) (g : Fin 64) (data : Bytes), s.dev.grants m = true → takes (Key.groupCommit g) data = true →
    (s.dev.group g).phase = .staging → (s.dev.admitted m).commitFault g = none → s.dev.storeBusy (bytesOfStore (s.dev.group g).shadow) = false →
    Completes (.commit m g data) s fun t =>
      (t.dev.group g).phase = .committing ∧ (t.dev.group g).shadow = (s.dev.group g).shadow ∧
      t.dev.dict.items = s.dev.dict.items ++ [.commit ((s.dev.admitted m).ackOf m (Key.groupCommit g)) g (s.dev.group g).shadow] ∧
      (∀ h : Fin 64, h ≠ g → t.dev.dict.groups[h] = s.dev.dict.groups[h]) ∧ t.dev.out = s.dev.out ∧
      Only [.hosts, .dict] (hostKeys m.slot) s t ∧ OnlySlot m.slot s t) ∧
  (∀ (s : State) (m : HostMsg) (g : Fin 64) (data : Bytes) (k : Nat), s.dev.grants m = true → takes (Key.groupCommit g) data = true →
    (s.dev.group g).phase = .staging → (s.dev.admitted m).commitFault g = some (Code.groupInvalid, k) →
    s.dev.storeBusy (bytesOfStore (s.dev.group g).shadow) = false →
    Completes (.commit m g data) s fun t =>
      t.dev.nat (Key.lastResult g) = 0x05000001 ∧ t.dev.nat (Key.failingObject g) = refOf k ∧
      Served m (.abort 0x05000001 (Key.groupCommit g)) []
        [Key.lastResult g, Key.failingObject g, Key.lastAbortCode, Key.lastAbortObject, Key.lastAbortHost, Key.abortCount] s t) ∧
  (∀ (s : State) (m : HostMsg) (g : Fin 64) (data : Bytes), s.dev.grants m = true → takes (Key.groupDiscard g) data = true →
    (s.dev.group g).phase = .staging →
    Completes (.discard m g data) s fun t =>
      t.dev.dict.groups[g] = ⟨.empty, [], 0, 0⟩ ∧ (∀ h : Fin 64, h ≠ g → t.dev.dict.groups[h] = s.dev.dict.groups[h]) ∧
      (∃ e : GenEntry, t.dev.heart.general = e :: s.dev.heart.general.take 98303 ∧
        e.event = .stagedDiscarded g (bytesOfStore (s.dev.group g).shadow) 4) ∧
      Served m (.done (Key.groupDiscard g)) [.dict, .heart] [] s t) ∧
  (∀ (s : State) (g : Fin 64), s.dev.sequencerUp = true → (s.dev.group g).phase = .staging → (s.dev.group g).sinceMs + 60000 ≤ s.dev.nowMs →
    Completes (.shadowTimeout g) s fun t =>
      t.dev.dict.groups[g] = ⟨.expired, [], 0, 0⟩ ∧ (∀ h : Fin 64, h ≠ g → t.dev.dict.groups[h] = s.dev.dict.groups[h]) ∧
      (∃ e : GenEntry, t.dev.heart.general = e :: s.dev.heart.general.take 98303 ∧
        e.event = .stagedDiscarded g (bytesOfStore (s.dev.group g).shadow) 1) ∧
      Only [.dict, .heart] [Key.discardCount] s t) ∧
  ∀ (s : State) (m : HostMsg) (o : ObjRef) (g : Fin 64) (r : Row) (data : Bytes), s.dev.grants m = true → takes (keyOfObj o) data = true →
    lookup (keyOfObj o) = .ok r → r.acc = .rws → groupOf (keyOfObj o) = some g.val →
    s.dev.stageCodes g (keyOfObj o) (sentValue (keyOfObj o) data) = [] →
    commitOf (keyOfObj o) = none → 8 + data.length ≤ bodyLimit m.iface →
    Completes (.write m o data.length false data) s fun t =>
      (t.dev.group g).phase = .staging ∧ (t.dev.group g).shadow.find (keyOfObj o) = some (sentValue (keyOfObj o) data) ∧
      (∀ h : Fin 64, h ≠ g → t.dev.dict.groups[h] = s.dev.dict.groups[h]) ∧
      Served m (.done (keyOfObj o)) [.dict] [] s t

/-- R112, R113, R122, R131 to R133, R135: a read answers the value of its object, with the staged view the staged value; a write to a volatile or persistent
object of its own is taken and waits for the boundary with no answer yet; a write from a host that is not the owner aborts and changes nothing. A list that is
due sends its entries, packed, once under the next counter; one whose destination holds no registered host neither sends nor counts a skip. -/
def Obligations.ObjectsAreReadWrittenAndPublished : Prop :=
  (∀ (s : State) (m : HostMsg) (o : ObjRef), s.dev.hears m = true → s.dev.readCodes (keyOfObj o) 1 false = [] → Dev.isDomain (keyOfObj o) = false →
    ¬ (0x8300 ≤ keyOfObj o / 256 ∧ keyOfObj o / 256 ≤ 0x830F) →
    6 + (s.seen.wire (keyOfObj o)).length ≤ bodyLimit m.iface →
    Completes (.read m o 1 ⟨false, false⟩) s fun t =>
      Served m (.values (keyOfObj o) [s.seen.wire (keyOfObj o)]) [] [] s t) ∧
  (∀ (s : State) (m : HostMsg) (o : ObjRef) (g : Nat) (v : Val) (r : Row), s.dev.hears m = true → s.dev.readCodes (keyOfObj o) 1 false = [] →
    Dev.isDomain (keyOfObj o) = false → ¬ (0x8300 ≤ keyOfObj o / 256 ∧ keyOfObj o / 256 ≤ 0x830F) → groupOf (keyOfObj o) = some g →
    (s.seen.group g).shadow.find (keyOfObj o) = some v → lookup (keyOfObj o) = .ok r → 6 + (r.ty.encode v).length ≤ bodyLimit m.iface →
    Completes (.read m o 1 ⟨true, false⟩) s fun t => Served m (.values (keyOfObj o) [r.ty.encode v]) [] [] s t) ∧
  (∀ (s : State) (m : HostMsg) (o : ObjRef) (r : Row) (data : Bytes), s.dev.grants m = true → takes (keyOfObj o) data = true →
    lookup (keyOfObj o) = .ok r → r.acc = .rw → (r.vol = true ∨ s.dev.storeBusy data.length = false) →
    commitOf (keyOfObj o) = none → 8 + data.length ≤ bodyLimit m.iface →
    Completes (.write m o data.length false data) s fun t =>
      t.dev.dict = { s.dev.dict with
        items := s.dev.dict.items ++ [.write ((s.dev.admitted m).ackOf m (keyOfObj o)) (keyOfObj o) (sentValue (keyOfObj o) data)] } ∧
      t.dev.out = s.dev.out ∧ Only [.hosts, .dict] (hostKeys m.slot) s t ∧ OnlySlot m.slot s t) ∧
  (∀ (s : State) (m : HostMsg) (o : ObjRef) (data : Bytes), s.dev.hears m = true → s.dev.ownerNext ≠ some m.slot →
    stopClass (keyOfObj o) = false → 8 + data.length ≤ bodyLimit m.iface →
    Completes (.write m o data.length false data) s fun t =>
      let code := if s.dev.ownerNext = none then Code.noOwner else Code.notOwner
      t.dev.nat Key.lastAbortCode = code ∧
      Served m (.abort code (keyOfObj o)) [] [Key.lastAbortCode, Key.lastAbortObject, Key.lastAbortHost, Key.abortCount] s t) ∧
  (∀ (s : State) (n : Fin 16) (x : SlotId), s.dev.sequencerUp = true → s.dev.listDue n (s.seen.publishBytes n) = true →
    s.dev.listSlot n = some x → (s.dev.dict.lists[n]).waiting = none → s.dev.ifaceUp (s.dev.slot x).lastIface = true →
    4 + (s.seen.publishBytes n).length ≤ bodyLimit (s.dev.slot x).lastIface →
    let h := s.dev.slot x
    let i := h.lastIface
    let message : HostReply := .publish n (s.dev.dict.lists[n]).counter (s.seen.publishBytes n)
    Completes (.publish n) s fun t =>
      t.dev.out = s.dev.out ++ [.host x i 0 (h.txSeq + 1) true message (s.dev.viaOf i (0x20 + x) h.peers[ifaceNum i])
        (fdpWire (h.sessionKey.getD []) x i 0 (h.txSeq + 1) true message)] ∧
      (t.dev.dict.lists[n]).counter = ((s.dev.dict.lists[n]).counter + 1) % 0x10000 ∧
      t.dev.nat (Key.sentCount n) = min (s.dev.nat (Key.sentCount n) + 1) (Dev.top (Key.sentCount n)) ∧
      (∀ q : Fin 16, q ≠ n → t.dev.dict.lists[q] = s.dev.dict.lists[q]) ∧ OnlySlot x s t ∧
      Only [.out, .hosts, .dict] [Key.sentCount n] s t) ∧
  ∀ (s : State) (n : Fin 16), s.dev.sequencerUp = true → s.dev.listDue n (s.seen.publishBytes n) = true → s.dev.listSlot n = none →
    Completes (.publish n) s fun t =>
      (t.dev.dict.lists[n]).waiting = none ∧ (t.dev.dict.lists[n]).counter = (s.dev.dict.lists[n]).counter ∧
      (∀ q : Fin 16, q ≠ n → t.dev.dict.lists[q] = s.dev.dict.lists[q]) ∧ Only [.dict] [] s t

/-- R62, R65, R75, R77, R87: the rails, RESET_N and the power-fail warning move the power state and nothing else of the device. A start at
main rails empties the SRAMs and enters STARTING, unless RESET_N holds it (then as at the end of SHUTDOWN, the model's choice of log entry 70); the rails' fall leaves VBAT_SLEEP, or OFF without VBAT. -/
def Obligations.PowerStatesFollowTheRails : Prop :=
  let moved (s t : State) : Prop := Only [.power] [] s t
  (∀ s : State, s.dev.power.state = .off ∨ s.dev.power.state = .vbatSleep ∨
      (s.dev.power.state = .shutdown ∧ s.dev.power.shutdownStep = 5 ∧ s.dev.power.railLeft = true) → s.dev.power.tripped = none →
    Completes .mainRailsGood s fun t =>
      t.dev.power.state = (if s.dev.power.resetN then .starting else .shutdown) ∧ t.dev.powered = s.dev.power.resetN ∧
      (∀ r, t.dev.rail r = (s.dev.rail r || decide (r ≠ .vbat))) ∧ t.dev.nat Key.resetCause = 0 ∧ t.dev.nat Key.resetRail = 0 ∧
      t.mem = s.mem.stores ∧ t.pending = s.pending ∧
      Only [.power] [Key.resetCause, Key.resetRail, Key.resetTime] s { t with mem := s.mem }) ∧
  (∀ s : State, s.dev.powered = false →
    Completes .mainRailsDown s fun t =>
      t.dev.power.state = (if s.dev.power.vbatDown then .off else .vbatSleep) ∧
      t.dev.power.vbatLost = (s.dev.power.vbatLost || s.dev.power.vbatDown) ∧
      (∀ r, t.dev.rail r = (s.dev.rail r && decide (r = .vbat))) ∧ moved s t) ∧
  (∀ s : State,
    Completes .vbatLoss s fun t =>
      t.dev.power = { s.dev.power with
        vbatLost := true, vbatDown := true, railGood := s.dev.power.railGood.set (8 : Fin 9) false, buffer := [], bufferOverflow := false, bufferDropped := 0
        state := if s.dev.power.state = .vbatSleep then .off else s.dev.power.state } ∧ moved s t) ∧
  (∀ s : State,
    Completes .resetNHigh s fun t =>
      t.dev.power.resetN = true ∧
      t.dev.power.state = (if s.dev.power.state = .shutdown ∧ s.dev.power.shutdownStep = 5 ∧ s.dev.power.pfw = false ∧
        s.dev.power.railLeft = false ∧ s.dev.mainGood = true then .starting else s.dev.power.state) ∧ moved s t) ∧
  (∀ s : State, s.dev.power.state = .shutdown → s.dev.power.shutdownStep = 5 → s.dev.power.pfw = true →
    Completes .pfwRecovery s fun t =>
      t.dev.power.pfw = false ∧
      t.dev.power.state = (if s.dev.power.railLeft = false ∧ s.dev.power.resetN = true ∧ s.dev.mainGood = true then .starting else .shutdown) ∧
      moved s t) ∧
  (∀ s : State,
    Completes (.resetNLow 0) s fun t => t = s) ∧
  ∀ (s : State) (us : Nat), 10 ≤ us → s.dev.powered = false ∨ s.dev.power.state = .shutdown →
    Completes (.resetNLow us) s fun t => t.dev.power = { s.dev.power with resetN := false } ∧ moved s t

/-- R68 to R75: the power-fail warning, and RESET_N low for 10 µs or more, begin the shutdown sequence: the enables fall, the Canopy queue and the
writes that wait are dropped, the sums at hand close into a ring of kind 1 with the time of the event, accumulation ends; that ring is the
commit in hand until it is written or its time is up. -/
def Obligations.PowerFailureBeginsTheFinalCommit : Prop :=
  let begun (cause : Nat) (s t : State) : Prop :=
    t.dev.power.state = .shutdown ∧ t.dev.power.shutdownStep = 3 ∧ t.dev.power.pfwTime = s.dev.nowUs ∧ t.dev.power.pfwN = true ∧
    (∃ c : CommitRun, t.dev.energy.commit = some c ∧ c.ring.kind = 1 ∧ c.ring.event = s.dev.nowUs) ∧ t.dev.energy.batch = [] ∧
    t.dev.metro.running = false ∧ t.dev.canopy.queue = [] ∧ t.dev.dict.items = [] ∧ t.dev.nat Key.resetCause = cause ∧
    Within [.free, .out, .obj, .crossings, .power, .dict, .hosts, .heart, .ports, .site, .safety, .metro, .energy, .tariff, .ledger, .cvu, .burl, .canopy,
      .display, .held] s t
  (∀ s : State, s.dev.powered = true → s.dev.power.state ≠ .shutdown → s.dev.running .heartwood = true → s.dev.metro.running = true →
    s.dev.energy.lost = false →
    Completes .pfw s fun t => begun 1 s t ∧ t.dev.power.pfw = true) ∧
  (∀ (s : State) (us : Nat), 10 ≤ us → s.dev.powered = true → s.dev.power.state ≠ .shutdown → s.dev.running .heartwood = true →
    s.dev.metro.running = true → s.dev.energy.lost = false →
    Completes (.resetNLow us) s fun t => begun 2 s t ∧ t.dev.power.resetN = false ∧ t.dev.power.pfw = s.dev.power.pfw) ∧
  (∀ s : State, s.dev.power.state = .shutdown →
    Completes .pfw s fun t => t.dev.power = { s.dev.power with pfw := true } ∧ Only [.power] [] s t) ∧
  (∀ (d : Dev) (p : PortId), (d.shutdownPorts.psafe p).enA = false ∧ (d.shutdownPorts.psafe p).enB = false ∧
    (d.shutdownPorts.port p).safe = true) ∧
  ∀ (s : State) (c : CommitRun), s.dev.power.state = .shutdown → s.dev.power.shutdownStep = 3 → s.dev.energy.commit = some c →
    Completes .finalCommitTimeout s fun t =>
      t.dev.power.shutdownStep = (if s.dev.power.pfw = false ∧ s.dev.power.resetN = true ∧ s.dev.mainGood = true then 0 else 5) ∧
      t.dev.power.state = (if s.dev.power.pfw = false ∧ s.dev.power.resetN = true ∧ s.dev.mainGood = true then .starting else .shutdown) ∧
      (∃ k : Fin 32, k.val = (s.dev.energy.number + 1) % 32 ∧
        t.dev.energy.slots = s.dev.energy.slots.set k (some (false, { c.ring with number := s.dev.energy.number + 1 }))) ∧
      t.dev.energy.number = s.dev.energy.number + 1 ∧ t.mem = s.mem ∧ t.pending = s.pending

/-- R63, R71, R115: a fall of VDD_CORE or VDD_IO resets the device at once, without a final commit. What MRAM, the ferroelectric store and the fuses
hold stays (logbooks, records, rings, tariff sets and journals, accounts, tokens, key slots, images); mailboxes, crossings, the slots of
hosts, staged values and what waits is as after reset. -/
def Obligations.ResetsKeepOnlyWhatIsStored : Prop :=
  ∀ (s : State) (r : Rail), r = .vddCore ∨ r = .vddIo → s.dev.powered = true → s.dev.rail r = true →
    Completes (.railMonitorTrip r) s fun t =>
      t.dev.power.state = (if s.dev.power.vbatDown then .off else .vbatSleep) ∧ t.dev.rail r = false ∧ t.dev.powered = false ∧
      t.dev.nat Key.resetCause = 3 ∧ t.dev.nat Key.resetRail = (if r = .vddCore then 1 else 2) ∧
      (t.dev.heart.log = s.dev.heart.log ∧ t.dev.heart.general = s.dev.heart.general ∧ t.dev.heart.records = s.dev.heart.records ∧
        t.dev.heart.sealedPart = s.dev.heart.sealedPart ∧ t.dev.heart.lockLatch = s.dev.heart.lockLatch) ∧
      (t.dev.energy.slots = s.dev.energy.slots ∧ t.dev.energy.number = s.dev.energy.number) ∧
      (t.dev.tariff.sets = s.dev.tariff.sets ∧ t.dev.tariff.journal = s.dev.tariff.journal ∧ t.dev.tariff.snaps = s.dev.tariff.snaps ∧
        t.dev.tariff.profile = s.dev.tariff.profile ∧ t.dev.tariff.history = s.dev.tariff.history) ∧
      (t.dev.ledger.accounts = s.dev.ledger.accounts ∧ t.dev.ledger.tokens = s.dev.ledger.tokens ∧ t.dev.ledger.memory = s.dev.ledger.memory ∧
        t.dev.ledger.index = s.dev.ledger.index) ∧
      t.dev.burl.slots = s.dev.burl.slots ∧ t.dev.burl.cells = s.dev.burl.cells ∧ t.dev.update.images = s.dev.update.images ∧ t.dev.dict.stored = s.dev.dict.stored ∧
      (t.dev.hosts.slots = State.reset.dev.hosts.slots ∧ t.dev.mail = State.reset.dev.mail ∧ t.dev.crossings = State.reset.dev.crossings ∧
        t.dev.ports = State.reset.dev.ports ∧ t.dev.modules = State.reset.dev.modules ∧ t.dev.metro = State.reset.dev.metro ∧
        t.dev.cvu = State.reset.dev.cvu ∧ t.dev.dict.groups = State.reset.dev.dict.groups ∧ t.dev.dict.items = [] ∧
        t.dev.energy.batch = [] ∧ t.dev.energy.commit = none) ∧ t.mem = s.mem ∧ t.pending = s.pending

/-- R63 with the table *Rail monitors*: every other rail below its monitor stops the units it feeds and no more; the rail's recovery brings them
back (I7, which VDD_SAFE feeds, waits for a passing cross-check). VBAT and VDD_IO18 are only logged. -/
def Obligations.RailsStopAndReturnTheirUnits : Prop :=
  (∀ s : State, s.dev.rail .vbat = true →
    Completes (.railMonitorTrip .vbat) s fun t =>
      t.dev.rail .vbat = false ∧ (∀ r, r ≠ .vbat → t.dev.rail r = s.dev.rail r) ∧
      (s.dev.powered = false → t.dev.power.vbatNote = true) ∧
      (s.dev.powered = true → ∃ e : GenEntry, t.dev.heart = { s.dev.heart with general := e :: s.dev.heart.general.take 98303 } ∧
        e.event = .vbatLow) ∧ Only [.power, .heart] [] s t) ∧
  (∀ s : State, s.dev.powered = true → s.dev.rail .vddIo18 = true →
    Completes (.railMonitorTrip .vddIo18) s fun t =>
      t.dev.rail .vddIo18 = false ∧ (∃ e : GenEntry, t.dev.heart = { s.dev.heart with general := e :: s.dev.heart.general.take 98303 } ∧
        e.event = .railTrip 3) ∧ Only [.power, .heart] [] s t) ∧
  (∀ s : State, s.dev.powered = true → s.dev.rail .vddSafe = true → s.dev.clocks.i7Lost = false →
    Completes (.railMonitorTrip .vddSafe) s fun t =>
      t.dev.rail .vddSafe = false ∧ t.dev.clocks.i7Lost = true ∧ t.dev.safety.clockFault = true ∧
      (∀ p, (t.dev.psafe p).enA = false ∧ (t.dev.psafe p).enB = false) ∧
      Within [.free, .obj, .clocks, .crossings, .cores, .power, .heart, .ports, .safety, .cvu] s t) ∧
  (∀ s : State, s.dev.powered = true → s.dev.rail .vddAfe = true → s.dev.metro.lost = false →
    Completes (.railMonitorTrip .vddAfe) s fun t =>
      t.dev.rail .vddAfe = false ∧ t.dev.metro.lost = true ∧ t.dev.safety.clockFault = true ∧
      Within [.free, .out, .obj, .crossings, .power, .hosts, .heart, .ports, .site, .safety, .metro, .energy, .tariff, .ledger, .burl, .display,
        .held] s t) ∧
  (∀ s : State, s.dev.powered = true → s.dev.rail .vddPlc = true →
    Completes (.railMonitorTrip .vddPlc) s fun t =>
      t.dev.rail .vddPlc = false ∧ (t.dev.canopy.node = .off ∨ t.dev.canopy.node = .listening) ∧
      (∀ p, (t.dev.port p).proto = none ∧ (t.dev.port p).slac = .idle) ∧ t.dev.site.can4SilentAt.isSome = true ∧
      (∀ x : Fin 58, xIsland x = 2 ∨ xIsland x = 3 → t.dev.crossings[x].state = .clockLost) ∧
      Within [.out, .obj, .crossings, .power, .hosts, .heart, .ports, .site, .safety, .energy, .ledger, .cvu, .burl, .canopy] s t) ∧
  (∀ (s : State) (r : Rail), r = .vhvIn ∨ r = .vddMem → s.dev.powered = true → s.dev.rail r = true →
    Completes (.railMonitorTrip r) s fun t =>
      t.dev.rail r = false ∧ (∀ q, q ≠ r → t.dev.rail q = s.dev.rail q) ∧
      Within (if r = .vhvIn then [.obj, .crossings, .power, .heart, .cvu, .display] else [.free, .out, .obj, .power, .hosts, .heart, .ports, .site, .safety, .energy, .ledger]) s t) ∧
  ∀ (s : State) (r : Rail), s.dev.rail r = false → s.dev.powered = true →
    Completes (.railRecovered r) s fun t =>
      t.dev.rail r = true ∧ (∀ q, q ≠ r → t.dev.rail q = s.dev.rail q) ∧ t.dev.clocks = s.dev.clocks ∧
      (r = .vddMem → t.dev.power.memBackAt = some s.dev.nowMs) ∧
      Within [.free, .obj, .crossings, .power, .heart, .ports, .site, .safety, .energy, .ledger, .burl, .display] s t

/-- R78, R79, R84, R85: the start takes its ten steps and stops before its last; a pass of the self-tests puts the device into service. While the device
sleeps, the VBAT domain notes what enters alarm, 16 entries at most, then counts what it drops. -/
def Obligations.TheStartEndsInServiceAndSleepNotesAlarms : Prop :=
  (∀ (s : State) (f : BootFacts), s.dev.power.state = .starting → s.dev.power.bootStep = 0 →
    Completes (.bootStart f) s fun t => t.dev.power.bootStep = 10 ∧ t.seen = t.dev ∧ t.pending = s.pending ∧
      t.mem = s.dev.coresLoaded t.dev s.mem) ∧
  (∀ s : State, s.dev.power.state = .starting → s.dev.power.bootStep = 10 → s.dev.running .firebreakA = true → s.dev.running .firebreakB = true →
    s.dev.flag Key.holdActive = false → s.dev.power.startAlarm = none →
    (s.dev.clocks.i6Cold = false ∧ s.dev.clocks.xt32Lost = false) ∨ s.dev.clocks.checked = true →
    Completes (.bootComplete true) s fun t =>
      t.dev.power = { s.dev.power with bootStep := 11, pfwN := false, state := .inService } ∧ t.dev.safety.testsPassed = true ∧
      t.dev.clocks = { s.dev.clocks with checked := true } ∧
      Within [.obj, .clocks, .power, .heart, .ports, .safety] s t) ∧
  (∀ (s : State) (source : Fin 8) (sub : Fin 32768) (low : Bool), source.val ≠ 0 →
    s.dev.power.state = .vbatSleep ∨ (s.dev.power.state = .shutdown ∧ 5 ≤ s.dev.power.shutdownStep) →
    (s.dev.nat Key.alarmNow).testBit source = false →
    Completes (.vbatTamperAlarm source sub low) s fun t =>
      (if s.dev.power.buffer.length < 16 then
        t.dev.power = { s.dev.power with buffer := s.dev.power.buffer ++
          [⟨s.dev.time.utcS, sub, source, (if s.dev.clocks.xt32Lost then 1 else 0) + (if low then 2 else 0)⟩] }
      else t.dev.power = { s.dev.power with bufferOverflow := true, bufferDropped := satAdd 8 s.dev.power.bufferDropped 1 }) ∧
      t.dev.nat Key.alarmNow = setBit (s.dev.nat Key.alarmNow) source true ∧ Only [.power] [Key.alarmNow] s t) ∧
  ∀ (d : Dev) (r : Ring), d.baseRing = some r → r ∈ d.validRings ∧ ∀ x ∈ d.validRings, x.number ≤ r.number

/-- R152 to R155: what an OWNERSHIP message does. A claim that may not be made, or while another slot owns the device, aborts with 0x04000004; a claim on no
owner opens a window of 200 ms from the next tick; the owner's claim succeeds; its release discards every shadow and leaves NONE; its offer starts a handover
of 200 ms; its heartbeat restarts the 1,500 ms. The same from a slot that is not the owner aborts. Time ends a claim window, in favour of the lowest
ClaimPriority and among equals the lowest slot, an ownership without heartbeats, which leaves NONE and discards every shadow, and a handover, which leaves the
old owner. -/
def Obligations.OwnershipMovesByMessagesAndTime : Prop :=
  let refused (m : HostMsg) (code : Nat) (s t : State) : Prop := t.dev.nat Key.lastAbortCode = code ∧
    Served m (.abort code 0) [] [Key.lastAbortCode, Key.lastAbortObject, Key.lastAbortHost, Key.abortCount] s t
  let waits (m : HostMsg) (item : Ack → TickItem) (s t : State) : Prop :=
    t.dev.dict = { s.dev.dict with items := s.dev.dict.items ++ [item ((s.dev.admitted m).ackOf m 0)] } ∧
    t.dev.out = s.dev.out ∧ Only [.dict, .hosts] (hostKeys m.slot) s t ∧ OnlySlot m.slot s t
  (∀ (s : State) (m : HostMsg), s.dev.hears m = true → s.dev.roleBlocked = none → claimTaken s.dev m.slot = false →
    Completes (.ownershipClaim m []) s (refused m Code.claimRefused s)) ∧
  (∀ (s : State) (m : HostMsg), s.dev.hears m = true → s.dev.roleBlocked = none → claimTaken s.dev m.slot = true →
    Completes (.ownershipClaim m []) s (waits m .claim s)) ∧
  (∀ (s : State) (m : HostMsg), s.dev.hears m = true → s.dev.roleBlocked = none → s.dev.ownerNext = some m.slot →
    Completes (.ownershipRelease m []) s (waits m .release s)) ∧
  (∀ (s : State) (m : HostMsg) (x : SlotId) (b : Byte), s.dev.hears m = true → s.dev.roleBlocked = none → s.dev.ownerNext = some m.slot →
    b.toNat = x.val → (s.dev.slot x).registered = true → s.dev.flag (Key.claimAllowed x) = true →
    Completes (.handoverOffer m [b]) s (waits m (fun a => .offer a x) s)) ∧
  (∀ (s : State) (m : HostMsg), s.dev.hears m = true → s.dev.roleBlocked = none → s.dev.owner = some m.slot →
    Completes (.heartbeat m []) s fun t =>
      t.dev.hosts.lastHeartbeat = s.dev.nowMs + 1 ∧ t.dev.hosts.ownership = s.dev.hosts.ownership ∧ Replied s t m (.done 0) ∧
      Only [.out, .hosts] (hostKeys m.slot) s t ∧ ∀ q, q ≠ m.slot → t.dev.slot q = s.dev.slot q) ∧
  (∀ (s : State) (m : HostMsg) (b : Byte), s.dev.hears m = true → s.dev.roleBlocked = none → s.dev.ownerNext ≠ some m.slot →
    let code := if s.dev.ownerNext = none then Code.noOwner else Code.notOwner
    Completes (.ownershipRelease m []) s (refused m code s) ∧ Completes (.handoverOffer m [b]) s (refused m code s)) ∧
  (∀ (s : State) (m : HostMsg), s.dev.hears m = true → s.dev.roleBlocked = none → s.dev.owner ≠ some m.slot →
    Completes (.heartbeat m []) s (refused m Code.notOwner s)) ∧
  (∀ (d : Dev) (a : Ack),
    (d.hosts.ownership = .none → (d.applyFirst (.claim a)).hosts = { d.hosts with ownership := .claimWindow (d.nowMs + 200) [a] }) ∧
    (∀ ends l, d.hosts.ownership = .claimWindow ends l →
      (d.applyFirst (.claim a)).hosts = { d.hosts with ownership := .claimWindow ends (l ++ [a]) }) ∧
    (d.hosts.ownership = .owned a.slot → (d.applyFirst (.claim a)).hosts.ownership = .owned a.slot) ∧
    (∀ o dl, d.hosts.ownership = .handover o a.slot dl → o ≠ a.slot →
      (d.applyFirst (.claim a)).hosts.ownership = .owned a.slot ∧ (d.applyFirst (.claim a)).hosts.ownerSince = d.nowUs ∧
        ∀ g, g < 64 → ((d.applyFirst (.claim a)).group g).phase ≠ .staging) ∧
    (d.owner = some a.slot →
      (d.applyFirst (.release a)).hosts.ownership = .none ∧ (∀ g, g < 64 → ((d.applyFirst (.release a)).group g).phase ≠ .staging) ∧
      ∀ x, (d.applyFirst (.offer a x)).hosts.ownership = .handover a.slot x (d.nowMs + 200))) ∧
  (∀ (s : State) (ends : Nat) (claims : List Ack) (w : Ack), s.dev.hosts.ownership = .claimWindow ends claims → ends ≤ s.dev.nowMs → w ∈ claims →
    (s.dev.slot w.slot).registered = true →
    (∀ c ∈ claims, (s.dev.slot c.slot).registered = true → c.slot ≠ w.slot →
      s.dev.nat (Key.claimPriority w.slot) < s.dev.nat (Key.claimPriority c.slot) ∨
      (s.dev.nat (Key.claimPriority w.slot) = s.dev.nat (Key.claimPriority c.slot) ∧ w.slot < c.slot)) →
    Completes .claimWindowEnd s fun t =>
      t.dev.hosts.ownership = .owned w.slot ∧ t.dev.hosts.lastHeartbeat = s.dev.nowMs ∧ t.dev.hosts.ownerSince = s.dev.nowUs ∧
      Within [.out, .obj, .hosts, .heart, .held] s t) ∧
  (∀ (s : State) (ends : Nat) (claims : List Ack), s.dev.hosts.ownership = .claimWindow ends claims → ends ≤ s.dev.nowMs →
    (∀ c ∈ claims, (s.dev.slot c.slot).registered = false) →
    Completes .claimWindowEnd s fun t =>
      t.dev.hosts = { s.dev.hosts with ownership := .none } ∧ Only [.hosts, .heart] [] s t) ∧
  (∀ s : State, s.dev.owner.isSome = true → s.dev.hosts.lastHeartbeat + 1500 ≤ s.dev.nowMs →
    Completes .heartbeatLoss s fun t =>
      t.dev.hosts = { s.dev.hosts with
        ownership := .none, ownerSince := 0 } ∧ t.dev.nat Key.lastLossTime = s.dev.nowUs ∧
      (∀ g, g < 64 → (t.dev.group g).phase ≠ .staging) ∧
      Only [.dict, .hosts, .heart] [Key.ownerChangeCount, Key.discardCount, Key.lastLossTime] s t) ∧
  (∀ (s : State) (o x : SlotId) (dl : Nat), s.dev.hosts.ownership = .handover o x dl → dl ≤ s.dev.nowMs →
    Completes .handoverLapse s fun t =>
      t.dev.hosts = { s.dev.hosts with ownership := .owned o } ∧ Only [.hosts, .heart] [] s t) ∧
  ∀ s : State, s.dev.owner = none ∨ s.dev.nowMs < s.dev.hosts.lastHeartbeat + 1500 → Completes .heartbeatLoss s fun t => t = s

/-- R145, R146, R154: a HELLO is answered with a fresh nonce and awaits its CONFIRM for 500 ms; a CONFIRM that verifies registers the slot under the
session key of both nonces, with Sequences from 1, and one that does not verify is a failure; five failures in 60 s refuse the slot for 60 s; a lapse, or
at its tick boundary a DEREGISTER, zeroes the session key and ends an ownership. -/
def Obligations.RegistrationsBeginAndEnd : Prop :=
  let failed (x : SlotId) (s t : State) : Prop :=
    let fails := (s.dev.nowMs :: (s.dev.slot x).fails).filter fun n => s.dev.nowMs < n + 60000
    t.dev.slot x = { s.dev.slot x with
      hello := none, fails := fails, refuseTill := if 5 ≤ fails.length then some (s.dev.nowMs + 60000) else (s.dev.slot x).refuseTill } ∧
    Only [.hosts] [Key.hostAuthFailCount x] s t ∧ OnlySlot x s t
  let sent (d : Dev) (x : SlotId) (i : Iface) (id : Byte) (source : Nat × Nat) (seq : Nat) (secured : Bool) (key : Bytes) (r : HostReply) : Out :=
    .host x i id seq secured r (d.viaOf i 0x31 source) (fdpWire key x i id seq secured r)
  (∀ (s : State) (x : SlotId) (i : Iface) (id : Byte) (source : Nat × Nat) (host own : Bytes), s.dev.sequencerUp = true → s.dev.ifaceUp i = true →
    s.dev.allowed x i = true → s.dev.flag (Key.keyPresent x) = true → (s.dev.slot x).refuseTill = none → (s.dev.slot x).hello = none →
    host.length = 16 → i ≠ .can5 ∨ (own ++ s.dev.bytes Key.serialNumber).length ≤ 44 →
    Completes (.hello x ⟨i, id, source⟩ host own) s fun t =>
      t.dev.slot x = { s.dev.slot x with hello := some ⟨host, own, i, s.dev.nowMs + 500⟩ } ∧
      t.dev.out = s.dev.out ++ [sent s.dev x i id source 0 false [] (.challenge own (s.dev.bytes Key.serialNumber))] ∧
      Only [.out, .hosts] [] s t ∧ OnlySlot x s t) ∧
  (∀ (s : State) (m : HostMsg) (h : Hello) (k : KeyHalf) (keySlot : Fin 64), keySlot.val = 0x30 + m.slot.val → (s.dev.slot m.slot).hello = some h →
    s.dev.keyOf keySlot = some k → s.dev.sequencerUp = true → s.dev.ifaceUp m.iface = true → s.dev.burlUp = true → m.iface = h.iface →
    s.dev.nowMs ≤ h.deadline → m.seq.toNat = 1 → m.micOk = true →
    let key := Config.hkdf k.material (h.hostNonce ++ h.ownNonce) (ascii "FDP1" ++ leBytes 1 m.slot ++ s.dev.bytes Key.serialNumber) 16
    Completes (.confirm m h.hostNonce h.ownNonce) s fun t =>
      (t.dev.slot m.slot).registered = true ∧ (t.dev.slot m.slot).high = 1 ∧ (t.dev.slot m.slot).hello = none ∧
      (t.dev.slot m.slot).sessionKey = some key ∧
      t.dev.out = s.dev.out ++ [sent s.dev m.slot m.iface m.reqId m.source 1 true key
        (.welcome (s.dev.nat Key.layoutVersion) (ownerNum s.dev.hosts.ownership))] ∧
      Only [.out, .hosts, .burl] (hostKeys m.slot ++ [Key.useCount keySlot]) s t ∧ OnlySlot m.slot s t) ∧
  (∀ (s : State) (m : HostMsg) (h : Hello) (k : KeyHalf) (keySlot : Fin 64) (a b : Bytes), keySlot.val = 0x30 + m.slot.val →
    (s.dev.slot m.slot).hello = some h → s.dev.keyOf keySlot = some k → s.dev.sequencerUp = true → s.dev.ifaceUp m.iface = true →
    s.dev.burlUp = true → m.iface = h.iface → s.dev.nowMs ≤ h.deadline → m.seq.toNat = 1 →
    m.micOk = false ∨ a ≠ h.hostNonce ∨ b ≠ h.ownNonce →
    Completes (.confirm m a b) s (failed m.slot s)) ∧
  (∀ (s : State) (x : SlotId) (h : Hello), (s.dev.slot x).hello = some h → s.dev.sequencerUp = true → h.deadline ≤ s.dev.nowMs →
    Completes (.registrationTimeout x) s (failed x s)) ∧
  (∀ (s : State) (x : SlotId) (n : Nat), (s.dev.slot x).refuseTill = some n → n ≤ s.dev.nowMs →
    Completes (.helloRefusalEnd x) s fun t =>
      t.dev.slot x = { s.dev.slot x with
        refuseTill := none, fails := [] } ∧ Only [.hosts] [] s t ∧ OnlySlot x s t) ∧
  (∀ (s : State) (x : SlotId), s.dev.sequencerUp = true → (s.dev.slot x).registered = true →
    (s.dev.slot x).lastValid + 1000 * s.dev.nat Key.registrationLapseS ≤ s.dev.nowMs →
    Completes (.registrationLapse x) s fun t =>
      (t.dev.slot x).registered = false ∧ (t.dev.slot x).sessionKey = none ∧ (∀ q, q ≠ x → t.dev.slot q = s.dev.slot q) ∧
      t.dev.hosts.ownership = (if s.dev.owner = some x then .none else s.dev.hosts.ownership) ∧
      (s.dev.owner = some x → t.dev.nat Key.lastLossTime = s.dev.nowUs) ∧
      (s.dev.owner ≠ some x → Only [.hosts, .burl] [] s t) ∧ Within [.obj, .dict, .hosts, .heart, .burl] s t) ∧
  (∀ (s : State) (m : HostMsg) (x : SlotId) (data : Bytes), s.dev.grants m = true → takes (Key.deregister x) data = true →
    Completes (.deregister m x data) s fun t =>
      t.dev.dict = { s.dev.dict with items := s.dev.dict.items ++ [.deregister ((s.dev.admitted m).ackOf m (Key.deregister x)) x] } ∧
      t.dev.out = s.dev.out ∧ Only [.dict, .hosts] (hostKeys m.slot) s t ∧ OnlySlot m.slot s t) ∧
  ∀ (d : Dev) (a : Ack) (x : SlotId), (d.slot x).registered = true → (d.slot a.slot).endAfter = none →
    ((d.applyFirst (.deregister a x)).slot x).registered = false ∧ ((d.applyFirst (.deregister a x)).slot x).sessionKey = none ∧
    (d.applyFirst (.deregister a x)).hosts.ownership = (if d.owner = some x then .none else d.hosts.ownership) ∧
    ∀ q, q ≠ x → q ≠ a.slot → (d.applyFirst (.deregister a x)).slot q = d.slot q

/-- R137, R146, R147, R148: a NOP only notes its sender; a message of unknown type is counted and dropped; segments are taken and sent in their order, each
16th acknowledged; a segment out of order, and 100 ms of silence, abort the transfer, with 0x01000001 and 0x01000003. The bytes of a transfer pass
through engine 10 (15 R408; log entry 40). -/
def Obligations.SegmentsCarryLongValues : Prop :=
  let sent (d : Dev) (a : Ack) (r : HostReply) : Out :=
    .host a.slot a.iface a.reqId ((d.slot a.slot).txSeq + 1) true r a.via
      (fdpWire ((d.slot a.slot).sessionKey.getD []) a.slot a.iface a.reqId ((d.slot a.slot).txSeq + 1) true r)
  let covered (x : SlotId) : List Nat :=
    [Key.runningValue (144 + x), Key.contextByteCount (144 + x), Key.contextProfile (144 + x), Key.bytesCovered 10]
  let aborted (k : Nat) : List Nat := (commitOf k).elim [] (fun g => [Key.lastResult g, Key.failingObject g]) ++
    [Key.lastAbortCode, Key.lastAbortObject, Key.lastAbortHost, Key.abortCount]
  let current (d : Dev) (a : Ack) : Prop := (d.slot a.slot).registered = true ∧ (d.slot a.slot).session = a.session ∧ d.ifaceUp a.iface = true
  (∀ (s : State) (m : HostMsg), s.dev.hears m = true →
    Completes (.nop m) s fun t =>
      (t.dev.slot m.slot).lastValid = s.dev.nowMs ∧ (t.dev.slot m.slot).lastIface = m.iface ∧ t.dev.out = s.dev.out ∧
      Only [.hosts] (hostKeys m.slot) s t ∧ OnlySlot m.slot s t) ∧
  (∀ s : State, s.dev.sequencerUp = true →
    Completes (.unknownMessage .typeOrVersion) s fun t =>
      t.dev.nat Key.unknownTypeCount = min (s.dev.nat Key.unknownTypeCount + 1) (Dev.top Key.unknownTypeCount) ∧
      Only [] [Key.unknownTypeCount] s t) ∧
  (∀ s : State, Completes (.unknownMessage .reservedByte) s fun t => t = s) ∧
  (∀ (s : State) (m : HostMsg), s.dev.hears m = true →
    Completes (.unknownMessage (.badOwnershipOperation m)) s fun t =>
      Served m (.abort Code.range 0) [] [Key.lastAbortCode, Key.lastAbortObject, Key.lastAbortHost, Key.abortCount] s t) ∧
  (∀ (s : State) (m : HostMsg) (x : RxTransfer) (data : Bytes), s.dev.hears m = true → (s.dev.slot m.slot).rx = some x →
    x.data.length + data.length ≤ x.total → data.length ≤ bodyLimit m.iface →
    Completes (.segment m true x.next false data) s fun t =>
      (t.dev.slot m.slot).rx = some { x with data := x.data ++ data, next := x.next + 1, lastMs := s.dev.nowMs } ∧
      t.dev.out = s.dev.out ++ (if x.next % 16 = 15 then
        [sent s.dev { (s.dev.admitted m).ackOf m 0 with reqId := x.ack.reqId } (.segmentAck x.next)] else []) ∧
      Only [.out, .hosts] (hostKeys m.slot ++ covered m.slot) s t ∧ OnlySlot m.slot s t) ∧
  (∀ (s : State) (m : HostMsg) (x : RxTransfer) (number : Nat) (last : Bool) (data : Bytes), s.dev.hears m = true →
    (s.dev.slot m.slot).rx = some x → number ≠ x.next → data.length ≤ bodyLimit m.iface → x.ack.slot = m.slot → current s.dev x.ack →
    Completes (.segment m true number last data) s fun t =>
      (t.dev.slot m.slot).rx = none ∧ t.dev.nat Key.lastAbortCode = Code.segmentSequence ∧
      t.dev.out = s.dev.out ++ [sent s.dev x.ack (.abort Code.segmentSequence x.ack.key)] ∧
      Only [.out, .hosts] (hostKeys m.slot ++ aborted x.ack.key) s t ∧ OnlySlot m.slot s t) ∧
  (∀ (s : State) (m : HostMsg) (x : TxTransfer) (last : Bool) (data : Bytes), s.dev.sequencerUp = true → (s.dev.slot m.slot).tx = some x →
    s.dev.ifaceUp x.ack.iface = true → x.left ≠ [] → x.next ≤ x.acked + 16 →
    Completes (.segment m false x.next last data) s fun t =>
      let n := bodyLimit x.ack.iface
      (t.dev.slot m.slot).tx = some { x with left := x.left.drop n, next := x.next + 1, lastMs := s.dev.nowMs } ∧
      t.dev.out = s.dev.out ++ [sent s.dev { x.ack with slot := m.slot } (.segment x.next (decide (x.left.length ≤ n)) (x.left.take n))] ∧
      Only [.out, .hosts] (covered m.slot) s t ∧ OnlySlot m.slot s t) ∧
  (∀ (s : State) (m : HostMsg) (x : TxTransfer) (number : Nat), s.dev.hears m = true → (s.dev.slot m.slot).tx = some x → number < x.next →
    x.left ≠ [] →
    Completes (.segmentAck m true number) s fun t =>
      (t.dev.slot m.slot).tx = some { x with acked := max x.acked number, lastMs := s.dev.nowMs } ∧ t.dev.out = s.dev.out ∧
      Only [.hosts] (hostKeys m.slot) s t ∧ OnlySlot m.slot s t) ∧
  (∀ (s : State) (m : HostMsg) (number : Nat), Completes (.segmentAck m false number) s fun t => t = s) ∧
  ∀ (s : State) (q : SlotId) (x : RxTransfer), s.dev.sequencerUp = true → (s.dev.slot q).rx = some x → x.lastMs + 100 ≤ s.dev.nowMs →
    x.ack.slot = q → current s.dev x.ack → (s.dev.slot q).endAfter = none →
    Completes (.segmentTimeout q true) s fun t =>
      (t.dev.slot q).rx = none ∧ t.dev.nat Key.lastAbortCode = Code.segmentTimeout ∧
      t.dev.out = s.dev.out ++ [sent s.dev x.ack (.abort Code.segmentTimeout x.ack.key)] ∧
      Only [.out, .hosts] (aborted x.ack.key) s t ∧ OnlySlot q s t

/-- R141, R142, R156, R157: a STOP_ALL needs no ownership and waits for the tick boundary, where it is applied after every start; ARP and echo requests for an
address of the device are answered, other datagrams are counted; a controller that goes bus-off recovers by itself and integrates before it
takes part again, and what waited for it then goes out. -/
def Obligations.InterfacesAnswerAndRecover : Prop :=
  (∀ (s : State) (m : HostMsg) (data : Bytes), s.dev.hears m = true → s.dev.writeBlocked = none → takes Key.stopAll data = true →
    Completes (.stopAll m data) s fun t =>
      t.dev.dict = { s.dev.dict with items := s.dev.dict.items ++ [.stopAll ((s.dev.admitted m).ackOf m Key.stopAll)] } ∧ t.dev.out = s.dev.out ∧
      Only [.dict, .hosts] (hostKeys m.slot) s t ∧ OnlySlot m.slot s t) ∧
  (∀ (s : State) (i : Iface) (address : Word), s.dev.sequencerUp = true → s.dev.ifaceUp i = true → ipOf s.dev i = some address.toNat →
    Completes (.arpRequest i address) s fun t => t.dev.out = s.dev.out ++ [.arp i address.toNat] ∧ Only [.out] [] s t) ∧
  (∀ (s : State) (i : Iface) (address : Word), ipOf s.dev i ≠ some address.toNat → Completes (.arpRequest i address) s fun t => t = s) ∧
  (∀ (s : State) (i : Iface) (data : Bytes), s.dev.sequencerUp = true → s.dev.ifaceUp i = true → i ≠ .can5 → data.length ≤ 64 →
    Completes (.icmpEchoRequest i data) s fun t => t.dev.out = s.dev.out ++ [.icmp i data] ∧ Only [.out] [] s t) ∧
  (∀ (s : State) (i : Iface), s.dev.sequencerUp = true → s.dev.ifaceUp i = true → i ≠ .can5 →
    Completes (.datagramDropped i) s fun t =>
      t.dev.nat Key.droppedDatagrams = min (s.dev.nat Key.droppedDatagrams + 1) (Dev.top Key.droppedDatagrams) ∧
      Only [] [Key.droppedDatagrams] s t) ∧
  (∀ (s : State) (k : Fin 6), s.dev.powered = true → s.dev.hosts.can[k] = .errorActive ∨ s.dev.hosts.can[k] = .errorPassive →
    Completes (.canBusOff k) s fun t =>
      t.dev.hosts = { s.dev.hosts with
        can := s.dev.hosts.can.set k .busOff
        busOffCounts := if k = 5 then s.dev.hosts.busOffCounts else vmod s.dev.hosts.busOffCounts k fun n => satAdd 32 n 1 } ∧
      (k = 5 → t.dev.nat Key.can5BusOffCount = min (s.dev.nat Key.can5BusOffCount + 1) (Dev.top Key.can5BusOffCount)) ∧
      Only [.hosts] (if k = 5 then [Key.can5BusOffCount] else []) s t) ∧
  (∀ (s : State) (k : Fin 6), s.dev.powered = true → s.dev.hosts.can[k] = .busOff →
    Completes (.busOffRecovery k) s fun t =>
      t.dev.hosts = { s.dev.hosts with can := s.dev.hosts.can.set k .integrating } ∧ Only [.hosts] [] s t) ∧
  ∀ (s : State) (k : Fin 6), s.dev.powered = true → s.dev.clocks.ref25Lost = false → s.dev.hosts.can[k] = .integrating →
    Completes (.busIntegrationDone k) s fun t =>
      t.dev.hosts = { s.dev.hosts with can := s.dev.hosts.can.set k .errorActive } ∧
      (k = 5 → t.dev.out = s.dev.out ++ s.dev.held ∧ t.dev.held = [] ∧
        Only [.hosts, .out, .held] [Key.can5TxErrorCount, Key.can5RxErrorCount] s t) ∧
      (k = 4 → t.dev.cvu.engines[12] = Dev.can4Windows s.dev.cvu.order ∧ Only [.hosts, .cvu] [] s t) ∧
      (k ≠ 4 → k ≠ 5 → Only [.hosts] [] s t)

/-- R161, R162, R165, R177: an accepted pilot state drives the session. B or C at an idle port is a vehicle: with a cable that is rated the port identifies,
after its lock where it has one, and else it is FAULTED with reason 3; A ends a session with reason 5; E, F, a diode fault or no state raises
cause 11 and faults the port, at once before CLOSING. Too few periods, or the state that stands, change nothing but the readings. -/
def Obligations.PilotStatesDriveSessions : Prop :=
  let live (s : State) : Prop := s.dev.powered = true ∧ s.dev.clocks.i7Lost = false ∧ 7 ≤ s.dev.power.bootStep
  let parts : List Part := [.out, .obj, .hosts, .heart, .ports, .site, .safety, .energy, .ledger]
  (∀ (s : State) (p : PortId) (hi lo : Int) (n ratio : Nat), live s →
    (∀ y ∈ pilotOf (s.dev.port p).cp hi lo, n < y.2 ∨ y.1 = (s.dev.port p).pilot) →
    Completes (.pilotStateAccepted p hi lo n ratio) s fun t =>
      t.dev.port p = { s.dev.port p with prox := ratio } ∧ OnlyPort p s t ∧ Only [.ports] [Key.pilotHigh p, Key.pilotLow p] s t) ∧
  (∀ (s : State) (p : PortId) (hi lo : Int) (n k ratio : Nat) (st : Pilot), live s → pilotOf (s.dev.port p).cp hi lo = some (st, k) → k ≤ n →
    st ≠ (s.dev.port p).pilot → st = .b ∨ st = .c → (s.dev.port p).session = .idle → s.dev.mode p ≠ 0 →
    let rating := if s.dev.flag (Key.proximityMode p) then s.dev.nat (Key.fixedCableRating p) else cableOf ratio
    rating ≠ 0 → rating ≠ 0xFFFF →
    Completes (.pilotStateAccepted p hi lo n ratio) s fun t =>
      (t.dev.port p).pilot = st ∧ (t.dev.port p).pilotAt = s.dev.tick7 ∧ t.dev.nat (Key.cableRating p) = rating ∧
      (if s.dev.nat (Key.lockType p) = 0 then (t.dev.port p).session = .identifying
      else (t.dev.port p).session = .connected ∧ (t.dev.port p).lock = .locking (s.dev.tick7 + 500) ∧ t.dev.out = s.dev.out ++ [.lock p true]) ∧
      (s.dev.annexPort p = false → s.dev.nat (Key.protocols p) ≠ 0 → s.dev.unitIn (0x08 + p) = true →
        (t.dev.port p).setupAt = some s.dev.nowMs) ∧
      OnlyPilots p s t ∧ Only [.out, .hosts, .ports] [Key.pilotHigh p, Key.pilotLow p, Key.cableRating p] s t) ∧
  (∀ (s : State) (p : PortId) (hi lo : Int) (n k ratio : Nat) (st : Pilot), live s → pilotOf (s.dev.port p).cp hi lo = some (st, k) → k ≤ n →
    st ≠ (s.dev.port p).pilot → st = .b ∨ st = .c → (s.dev.port p).session = .idle → s.dev.mode p ≠ 0 →
    s.dev.flag (Key.proximityMode p) = false → cableOf ratio = 0 ∨ cableOf ratio = 0xFFFF →
    Completes (.pilotStateAccepted p hi lo n ratio) s fun t =>
      (t.dev.port p).session = .faulted ∧ t.dev.nat (Key.lastEndReason p) = 3 ∧ OnlyPilots p s t ∧ Within parts s t) ∧
  (∀ (s : State) (p : PortId) (hi lo : Int) (n k ratio : Nat), live s → pilotOf (s.dev.port p).cp hi lo = some (.a, k) → k ≤ n →
    (s.dev.port p).pilot ≠ .a → (s.dev.port p).session = .identifying ∨ (s.dev.port p).session = .authorised →
    Completes (.pilotStateAccepted p hi lo n ratio) s fun t =>
      (t.dev.port p).session = .ended ∧ (t.dev.port p).pilot = .a ∧ t.dev.nat (Key.lastEndReason p) = 5 ∧ (t.dev.port p).start = false ∧
      OnlyPilots p s t ∧ Within parts s t) ∧
  (∀ (s : State) (p : PortId) (hi lo : Int) (n k ratio : Nat), live s → pilotOf (s.dev.port p).cp hi lo = some (.a, k) → k ≤ n →
    (s.dev.port p).pilot ≠ .a → (s.dev.port p).session = .closing ∨ (s.dev.port p).session = .energised →
    Completes (.pilotStateAccepted p hi lo n ratio) s fun t =>
      (t.dev.port p).session = (s.dev.port p).session ∧ (t.dev.port p).stop = some ((s.dev.port p).stop.getD 5) ∧
      OnlyPilots p s t ∧ Only [.ports] [Key.pilotHigh p, Key.pilotLow p] s t) ∧
  ∀ (s : State) (p : PortId) (hi lo : Int) (n k ratio : Nat) (st : Pilot), live s → pilotOf (s.dev.port p).cp hi lo = some (st, k) → k ≤ n →
    st ≠ (s.dev.port p).pilot → st = .e ∨ st = .f ∨ st = .unknown ∨ st = .diode → (s.dev.port p).session ≠ .idle →
    Completes (.pilotStateAccepted p hi lo n ratio) s fun t =>
      (t.dev.port p).pilot = st ∧ t.dev.hasCause p 11 = true ∧
      (match (s.dev.port p).session with
      | .connected | .identifying | .authorised | .ended | .faulted => (t.dev.port p).session = .faulted
      | x => (t.dev.port p).session = x ∧ (t.dev.port p).faultAfter = true) ∧
      OnlyPilots p s t ∧ Within parts s t

/-- R164, R165, R166, R171: without a high-level session in 10 s a port that may charge by PWM goes to basic charging after 3 s of steady high, another
one ends with reason 6; a cable that changes in a session is a pilot fault; a lock that confirms lets the port identify, one that does not
in 500 ms faults it with reason 3; it is released only in Clearing; the Annex A permission input stops its session when it falls. -/
def Obligations.PlugsLocksAndFallbacks : Prop :=
  let parts : List Part := [.out, .obj, .hosts, .heart, .ports, .site, .safety, .energy, .ledger]
  (∀ (s : State) (p : PortId) (n : Nat), s.dev.powered = true → (s.dev.port p).setupAt = some n → n + 10000 ≤ s.dev.nowMs →
    (s.dev.port p).session = .connected ∨ (s.dev.port p).session = .identifying →
    Completes (.hlcSetupTimeout p) s fun t =>
      (if (s.dev.nat (Key.authModes p)).testBit 2 = true then
        (t.dev.port p).basic = true ∧ (t.dev.port p).steadyTill = some (s.dev.nowMs + 3000) ∧ (t.dev.port p).setupAt = none ∧
        (t.dev.port p).session = (s.dev.port p).session
      else (t.dev.port p).session = .ended ∧ t.dev.nat (Key.lastEndReason p) = 6) ∧ OnlyPilots p s t ∧ Within parts s t) ∧
  (∀ (s : State) (p : PortId) (n : Nat), s.dev.powered = true → (s.dev.port p).steadyTill = some n → n ≤ s.dev.nowMs →
    Completes (.steadyHighEnd p) s fun t =>
      t.dev.port p = { s.dev.port p with steadyTill := none, cp := (t.dev.port p).cp } ∧ OnlyPilots p s t ∧ Only [.ports] [] s t) ∧
  (∀ (s : State) (p : PortId) (ratio : Nat), s.dev.powered = true → s.dev.clocks.i7Lost = false → s.dev.flag (Key.proximityMode p) = false →
    1 ≤ (s.dev.port p).session.num → (s.dev.port p).session.num ≤ 7 → cableOf ratio ≠ s.dev.nat (Key.cableRating p) →
    Completes (.proximityBandChange p ratio) s fun t =>
      (t.dev.port p).prox = ratio ∧ t.dev.hasCause p 11 = true ∧
      ((t.dev.port p).session = .faulted ∨ (t.dev.port p).faultAfter = true) ∧ OnlyPilots p s t ∧ Within parts s t) ∧
  (∀ (s : State) (p : PortId) (ratio : Nat), s.dev.powered = true → s.dev.clocks.i7Lost = false → cableOf ratio = s.dev.nat (Key.cableRating p) →
    Completes (.proximityBandChange p ratio) s fun t =>
      t.dev.port p = { s.dev.port p with prox := ratio } ∧ OnlyPort p s t ∧ Only [.ports] [] s t) ∧
  (∀ (s : State) (p : PortId) (n : Nat), s.dev.powered = true → s.dev.clocks.i7Lost = false → (s.dev.port p).lock = .locking n →
    Completes (.lockConfirmed p) s fun t =>
      (t.dev.port p).lock = .locked ∧
      (t.dev.port p).session = (if (s.dev.port p).session = .connected ∧ s.dev.mode p ≠ 0 then .identifying else (s.dev.port p).session) ∧
      OnlyPilots p s t ∧ Only [.ports] [] s t) ∧
  (∀ (s : State) (p : PortId) (n : Nat), s.dev.powered = true → (s.dev.port p).lock = .locking n → n ≤ s.dev.tick7 →
    (s.dev.port p).session = .connected → (s.dev.port p).pilot ≠ .a →
    Completes (.lockTimeout p) s fun t =>
      (t.dev.port p).lock = .fault ∧ (t.dev.port p).session = .faulted ∧ t.dev.nat (Key.lastEndReason p) = 3 ∧ OnlyPilots p s t ∧
      Within parts s t) ∧
  (∀ (s : State) (m : HostMsg) (p : PortId) (data : Bytes), s.dev.grants m = true → takes (Key.unlock p) data = true →
    Completes (.unlock m p data) s fun t =>
      if s.dev.clearing p = true then
        let idle := decide (s.dev.nat (Key.lockType p) = 0 ∨ (s.dev.port p).lock = .released)
        t.dev.port p = { s.dev.port p with
          lock := .released, drive := if idle then (s.dev.port p).drive else some (false, s.dev.tick7) } ∧
        (idle = false → .lock p false ∈ t.dev.out) ∧ OnlyPort p s t ∧ Served m (.done (Key.unlock p)) [.ports] [] s t
      else t.dev.nat Key.lastAbortCode = Code.notClearing ∧
        Served m (.abort Code.notClearing (Key.unlock p)) [] [Key.lastAbortCode, Key.lastAbortObject, Key.lastAbortHost, Key.abortCount] s t) ∧
  ∀ (s : State) (p : PortId) (level : Bool), s.dev.powered = true → s.dev.clocks.i7Lost = false → s.dev.isDc p = true →
    s.dev.nat (Key.dcSystem p) = 1 → (s.dev.port p).session = .closing ∨ (s.dev.port p).session = .energised →
    Completes (.permissionInputChange p level) s fun t =>
      (t.dev.port p).permission = level ∧ (t.dev.port p).session = (s.dev.port p).session ∧
      (t.dev.port p).stop = (if level then (s.dev.port p).stop else some ((s.dev.port p).stop.getD 0)) ∧ OnlyPilots p s t ∧
      Only [.ports] [] s t

/-- R164, R167, R168, R171: SLAC on a port that drives 5 % duty goes through parameters, soundings, the mean attenuation and the match, whose address no
other port then answers and whose context Burl loads (R169); requests of a high-level session are answered with what the port may draw, and not at all
without a loaded TLS context (R21); the Annex frames carry limits and
requests; a vehicle that falls silent ends its session. -/
def Obligations.VehiclesAreAnswered : Prop :=
  let slacOpen (s : State) (p : PortId) : Prop := s.dev.modemUp p = true ∧ s.dev.plugged p = true ∧ s.dev.digital p = true ∧
    (s.dev.port p).cp = .pwm 400
  let slacTo (p : PortId) (x : Slac) (l : List Out) (s t : State) : Prop :=
    t.dev.port p = { s.dev.port p with slac := x } ∧ t.dev.out = s.dev.out ++ l ∧ OnlyPort p s t
  let parts : List Part := [.out, .obj, .hosts, .heart, .ports, .site, .safety, .energy, .ledger]
  (∀ (s : State) (p : PortId) (mac : Bytes), slacOpen s p → s.dev.matchedElsewhere p mac = false → (s.dev.port p).slac = .idle →
    Completes (.slacMessage p (.paramReq mac)) s (fun t => slacTo p .idle [.slac p mac 0 true] s t ∧ Only [.out, .ports] [] s t) ∧
    Completes (.slacMessage p (.sounding mac)) s (fun t => slacTo p (.sounding mac none) [] s t ∧ Only [.ports] [] s t)) ∧
  (∀ (s : State) (p : PortId) (mac : Bytes) (db : Nat) (x : Option Nat), slacOpen s p → s.dev.matchedElsewhere p mac = false →
    (s.dev.port p).slac = .sounding mac x →
    Completes (.slacMessage p (.attenChar mac db)) s fun t =>
      slacTo p (.sounding mac (some db)) [.slac p mac 1 true] s t ∧ Only [.out, .ports] [] s t) ∧
  (∀ (s : State) (p : PortId) (mac : Bytes) (db : Nat), slacOpen s p → s.dev.matchedElsewhere p mac = false →
    (s.dev.port p).slac = .sounding mac (some db) → s.dev.burlUp = true →
    Completes (.slacMessage p (.matchReq mac)) s fun t =>
      (if s.dev.nat (Key.slacAttnLimit p) < db then slacTo p .idle [.slac p mac 2 false] s t
      else t.dev.port p = { s.dev.port p with slac := .matched mac, evMatch := some mac } ∧ t.dev.out = s.dev.out ++ [.slac p mac 2 true] ∧
        t.dev.bytes (Key.evMac p) = mac ∧ t.dev.contextLoaded (Dev.plcContext p) = true ∧ OnlyPort p s t) ∧
      Within [.free, .out, .obj, .ports, .burl] s t) ∧
  (∀ (s : State) (p : PortId) (msg : SlacMsg), s.dev.matchedElsewhere p (Dev.slacMac msg) = true → Completes (.slacMessage p msg) s fun t => t = s) ∧
  (∀ (s : State) (p : PortId), (s.dev.port p).slac ≠ .restarted → (match (s.dev.port p).slac with | .matched _ => false | _ => true) = true → s.dev.modemUp p = true →
    (s.dev.port p).setupAt.isSome = true →
    Completes (.slacTimeout p) s fun t =>
      t.dev.port p = { s.dev.port p with slac := .idle } ∧
      t.dev.nat (Key.slacFailCount p) = min (s.dev.nat (Key.slacFailCount p) + 1) (Dev.top (Key.slacFailCount p)) ∧ OnlyPort p s t ∧
      Only [.ports] [Key.slacFailCount p] s t) ∧
  (∀ (s : State) (p : PortId) (a b c e w : Nat) (dynamic : Bool), s.dev.v2gReaches p = true → (s.dev.port p).proto.isSome = true →
    s.dev.contextLoaded (Dev.tlsContext p) = true → (dynamic = true → (s.dev.port p).proto = some .iso20) →
    Completes (.v2gMessage p (.chargeParams a b c e w dynamic)) s fun t =>
      (t.dev.port p).ev = { (s.dev.port p).ev with maxCurrent := a, maxExport := b, maxVoltage := c, maxDcCurrent := e, maxPower := w } ∧
      (t.dev.port p).dynamic = dynamic ∧ (∃ x y z, t.dev.out = s.dev.out ++ [.v2g p 0 x y z]) ∧ OnlyPilots p s t ∧ Only [.out, .ports] [] s t) ∧
  (∀ (s : State) (p : PortId), s.dev.v2gReaches p = true → ((s.dev.port p).proto.isSome = true → s.dev.contextLoaded (Dev.tlsContext p) = true) →
    (s.dev.port p).session = .closing ∨ (s.dev.port p).session = .energised →
    Completes (.v2gMessage p .sessionStop) s fun t =>
      t.dev.out = s.dev.out ++ [.v2g p 0 (s.dev.toldLimit p) (min (s.dev.port p).exportAlloc (s.dev.exportCap p)) (s.dev.toldStop p)] ∧
      (t.dev.port p).stop = some ((s.dev.port p).stop.getD 0) ∧ OnlyPilots p s t ∧ Only [.out, .ports] [] s t) ∧
  (∀ (s : State) (p : PortId) (msg : V2gMsg), (s.dev.port p).proto.isSome = true → s.dev.contextLoaded (Dev.tlsContext p) = false →
    Completes (.v2gMessage p msg) s fun t => t = s) ∧
  (∀ (s : State) (p : PortId), s.dev.powered = true → (s.dev.port p).proto = some .iso2 ∨ (s.dev.port p).proto = some .iso20 →
    Completes (.v2gTimeout p) s fun t =>
      (match (s.dev.port p).session with
      | .authorised => (t.dev.port p).session = .ended ∧ t.dev.nat (Key.lastEndReason p) = 6
      | .closing | .energised => (t.dev.port p).stop = some ((s.dev.port p).stop.getD 6)
      | .connected | .identifying => (t.dev.port p).basic = true ∨ (t.dev.port p).session = .ended
      | x => (t.dev.port p).session = x) ∧ OnlyPilots p s t ∧ Within parts s t) ∧
  (∀ (s : State) (p : PortId) (x : Protocol) (v i : Nat), s.dev.annexOf p = some x → s.dev.annexUp p = true → s.dev.plugged p = true →
    (s.dev.port p).session = .authorised ∨ (s.dev.port p).session = .energised →
    Completes (.annexFrame p (.limits v i)) s fun t =>
      (t.dev.port p).proto = some x ∧ (t.dev.port p).ev = { (s.dev.port p).ev with
        maxVoltage := v, maxDcCurrent := i } ∧
      t.dev.out = s.dev.out ++ [.annex p (s.dev.moduleVoltage p) (s.dev.toldLimit p) (if (s.dev.port p).session = .energised then 1 else 0)] ∧
      OnlyPilots p s t ∧ Only [.out, .ports] [] s t) ∧
  ∀ (s : State) (p : PortId), s.dev.powered = true → (s.dev.annexOf p).isSome = true →
    (s.dev.port p).session = .closing ∨ (s.dev.port p).session = .energised →
    Completes (.annexTimeout p) s fun t =>
      (t.dev.port p).stop = some ((s.dev.port p).stop.getD 6) ∧ OnlyPilots p s t ∧ Only [.ports] [] s t

/-- R172, R174, R175, R176: each converter module gets a SETPOINT every 10 ms, whose current is within its share of a safety envelope, and a CONFIG every
second; its STATUS and IDENT frames are taken when their check holds, and counted by engine 12 (15 R415); a fault, three silent setpoints or three seconds without IDENT take it
out; 60 ms after CAN4 fell silent the enables of every DC port drop. -/
def Obligations.ModulesAreCommandedAndWatched : Prop :=
  let carried : List Part := [.out, .obj, .hosts, .heart, .ports, .modules, .site, .safety, .energy, .ledger]
  let others (m : Fin 16) (s t : State) : Prop := ∀ k : Fin 16, k ≠ m → t.dev.modules[k] = s.dev.modules[k]
  (∀ (s : State) (m : Fin 16) (p : PortId), s.dev.portOfModule m = some p → s.dev.can4Out = true →
    s.dev.due4 (s.dev.modules[m]).setpointAt 10 = true →
    Completes (.setpoint m) s fun t =>
      let wish := s.dev.moduleWish p m
      let sent := clampSetpoint s.dev.crossings[0x28].stale (s.dev.slotOf p) (popcount16 (s.dev.nat (Key.moduleMask p))) wish.1 wish.2.2
      let alive := ((s.dev.modules[m]).alive + 1) % 16
      t.dev.out = s.dev.out ++ [can4Frame (0x100 + m) (leBytes 1 (sent.1 + 16 * alive) ++ leBytes 1 (if sent.2.2 then 1 else 0) ++
        leBytes 2 (if sent.1 = 0 then 0 else wish.2.1) ++ leBytes 2 (ofSigned 16 (if sent.1 = 0 then 0 else sent.2.1)) ++ [0])] ∧
      t.dev.modules[m] = { s.dev.modules[m] with
        alive := alive, missing := satAdd 8 (s.dev.modules[m]).missing 1, setpointAt := some s.dev.nowMs } ∧
      others m s t ∧ Only [.out, .modules] [Key.bytesCovered 12] s t) ∧
  (∀ (count mode e : Nat) (i : Int), 0 < count →
    let r := clampSetpoint false (some e) count mode i
    (e = 0 → r.1 = 0) ∧ r.2.2 = true ∧ count * r.2.1.natAbs ≤ e ∧ (0 ≤ i → 0 ≤ r.2.1 ∧ r.2.1 ≤ i)) ∧
  (∀ (s : State) (m : Fin 16), s.dev.can4Out = true → s.dev.due4 (s.dev.modules[m]).configAt 1000 = true →
    Completes (.config m) s fun t =>
      t.dev.out = s.dev.out ++ [can4Frame (0x600 + m) (match s.dev.portOfModule m with
        | none => leBytes 1 0xFF ++ List.replicate 6 0
        | some p =>
          let n := (s.dev.carrying p).length
          leBytes 1 p ++ leBytes 1 n ++ leBytes 2 (s.dev.nat (Key.dcMaxVoltage p)) ++
            leBytes 2 (if n = 0 then 0 else s.dev.nat (Key.dcMaxCurrent p) / n) ++ [0])] ∧
      t.dev.modules[m] = { s.dev.modules[m] with configAt := some s.dev.nowMs } ∧ others m s t ∧
      Only [.out, .modules] [Key.bytesCovered 12] s t) ∧
  (∀ (s : State) (m : Fin 16) (f : StatusFrame), s.dev.can4In = true → f.crcOk = true → (s.dev.modules[m]).lost = false → f.faults.toNat &&& 0x0E = 0 →
    ((s.dev.modules[m]).alive + 16 - f.alive) % 16 ≤ 2 →
    Completes (.status m f) s fun t =>
      t.dev.modules[m] = { s.dev.modules[m] with
        modeNow := f.modeNow, echo := f.alive, missing := 0, voltage := f.voltage.toNat, current := toSigned 16 f.current.toNat
        temp := toSigned 8 f.temp.toNat } ∧
      t.dev.nat (Key.moduleState m) = min f.modeNow 3 ∧ t.dev.nat (Key.moduleFaults m) = f.faults.toNat % 128 ∧
      others m s t ∧ Only [.modules] [Key.moduleState m, Key.moduleFaults m, Key.bytesCovered 12] s t) ∧
  (∀ (s : State) (m : Fin 16) (f : StatusFrame), s.dev.can4In = true → f.crcOk = false →
    Completes (.status m f) s fun t =>
      t.dev.nat (Key.mismatchCount 12) = min (s.dev.nat (Key.mismatchCount 12) + 1) (Dev.top (Key.mismatchCount 12)) ∧
      Only [] [Key.bytesCovered 12, Key.mismatchCount 12] s t) ∧
  (∀ (s : State) (m : Fin 16) (f : StatusFrame), s.dev.can4In = false → Completes (.status m f) s fun t => t = s) ∧
  (∀ (s : State) (m : Fin 16) (f : IdentFrame), s.dev.can4In = true → f.crcOk = true →
    Completes (.ident m f) s fun t =>
      t.dev.modules[m] = { s.dev.modules[m] with
        identAt := some s.dev.nowMs, bidirectional := f.modType.getLsbD 0, protocol := f.protocol.toNat } ∧
      t.dev.flag (Key.modulePresent m) = true ∧ t.dev.nat (Key.moduleRatedCurrent m) = f.current.toNat ∧
      others m s t ∧ Only [.modules] [Key.modulePresent m, Key.moduleRatedCurrent m, Key.bytesCovered 12] s t) ∧
  (∀ (s : State) (m : Fin 16) (n : Nat), s.dev.powered = true → (s.dev.modules[m]).identAt = some n → n + 3000 ≤ s.dev.nowMs →
    Completes (.modulePresenceTimeout m) s fun t =>
      t.dev.flag (Key.modulePresent m) = false ∧ (t.dev.modules[m]).identAt = none ∧ (t.dev.modules[m]).lost = false ∧ others m s t ∧
      Within carried s t) ∧
  (∀ (s : State) (m : Fin 16) (p : PortId), s.dev.powered = true → 3 ≤ (s.dev.modules[m]).missing → (s.dev.modules[m]).lost = false →
    s.dev.flag (Key.modulePresent m) = true → s.dev.portOfModule m = some p →
    Completes (.statusMissing m) s fun t =>
      t.dev.modules[m] = { s.dev.modules[m] with lost := true, good := 0 } ∧ m ∉ t.dev.carrying p ∧ others m s t ∧ Within carried s t) ∧
  ∀ (s : State) (n : Nat), s.dev.powered = true → s.dev.site.can4SilentAt = some n → n + 60 ≤ s.dev.tick7 →
    Completes .converterStopTimeout s fun t =>
      t.dev.site = { s.dev.site with can4SilentAt := none } ∧
      (∀ p, s.dev.isDc p = true → (t.dev.psafe p).enA = false ∧ (t.dev.psafe p).enB = false) ∧
      (∀ p, s.dev.isDc p = false → t.dev.psafe p = s.dev.psafe p) ∧ Only [.ports, .site, .safety] [] s t

/-- R156, R157, R170, R180: a start of the owner that nothing refuses, and a stop or an export stop of any registered host, wait for the tick boundary
with no answer yet; a start that a level 1 or 2 demand, a broken seal, mode OFF or an engine out of service stands against aborts with that
code. At the boundary a start releases an earlier stop, a stop ends a session before CLOSING at once, and an export stop takes the export to 0. -/
def Obligations.PortCommandsActAtTheTickBoundary : Prop :=
  let waits (m : HostMsg) (x : TickItem) (s t : State) : Prop :=
    t.dev.dict = { s.dev.dict with items := s.dev.dict.items ++ [x] } ∧ t.dev.out = s.dev.out ∧ Only [.dict, .hosts] (hostKeys m.slot) s t ∧
    OnlySlot m.slot s t
  (∀ (s : State) (m : HostMsg) (p : PortId) (data : Bytes), s.dev.grants m = true → takes (Key.portStart p) data = true → startFault s.dev p = none →
    Completes (.portStart m p data) s (waits m (.start ((s.dev.admitted m).ackOf m (Key.portStart p)) p) s)) ∧
  (∀ (s : State) (m : HostMsg) (p : PortId) (data : Bytes) (c : Nat), s.dev.grants m = true → takes (Key.portStart p) data = true →
    startFault s.dev p = some c →
    Completes (.portStart m p data) s fun t => t.dev.nat Key.lastAbortCode = c ∧
      Served m (.abort c (Key.portStart p)) [] [Key.lastAbortCode, Key.lastAbortObject, Key.lastAbortHost, Key.abortCount] s t) ∧
  (∀ (s : State) (m : HostMsg) (p : PortId) (data : Bytes), s.dev.hears m = true → s.dev.writeBlocked = none → takes (Key.portStop p) data = true →
    Completes (.portStop m p data) s (waits m (.stop ((s.dev.admitted m).ackOf m (Key.portStop p)) p) s)) ∧
  (∀ (s : State) (m : HostMsg) (p : PortId) (data : Bytes), s.dev.hears m = true → s.dev.writeBlocked = none → takes (Key.exportStop p) data = true →
    Completes (.exportStop m p data) s (waits m (.exportStop ((s.dev.admitted m).ackOf m (Key.exportStop p)) p) s)) ∧
  (∀ (d : Dev) (p : PortId), ((d.placeStart p).port p).start = true ∧ ((d.placeStart p).port p).stop = none ∧
    ((d.placeStart p).port p).exportStop = false ∧ ∀ q, q ≠ p → (d.placeStart p).port q = d.port q) ∧
  (∀ (d : Dev) (p : PortId) (reason : Nat), ((d.placeStop p reason).port p).stop = some reason ∧ ((d.placeStop p reason).port p).start = false ∧
    ((d.placeStop p reason).port p).session = (match (d.port p).session with | .identifying => .ended | .authorised => .ended | x => x)) ∧
  ∀ (d : Dev) (p : PortId), ((d.applyExportStop p).port p).exportStop = true ∧ ((d.applyExportStop p).port p).exportAlloc = 0

/-- R177, R178, R179, 13 R347, R348, R349: both feedbacks confirm closing, and the port is ENERGISED; it is OPENING from the moment its enables drop, and
both feedbacks open end the session. A contactor that does not close in 97 ticks, does not open in 194, or opens by itself is a fault: it is
named, raises cause 14, and the port is FAULTED once it is open. -/
def Obligations.ContactorsCloseOpenAndFail : Prop :=
  let parts : List Part := [.out, .obj, .hosts, .heart, .ports, .site, .safety, .energy, .ledger]
  let low (p : PortId) (t : State) : Prop := (t.dev.psafe p).enA = false ∧ (t.dev.psafe p).enB = false
  let failed (p : PortId) (bits : Nat) (s t : State) : Prop :=
    t.dev.nat (Key.contactorFault p) = (s.dev.nat (Key.contactorFault p) ||| bits) ∧ t.dev.hasCause p 14 = true
  (∀ (s : State) (p : PortId), s.dev.powered = true → s.dev.clocks.i7Lost = false → (s.dev.port p).session = .closing →
    Completes (.contactorFeedbackChange p true true) s fun t =>
      (t.dev.port p).session = .energised ∧ t.dev.nat (Key.energisedSince p) = s.dev.nowUs ∧
      t.dev.psafe p = { s.dev.psafe p with fbA := true, fbB := true, closingAt := none } ∧
      OnlyPilots p s t ∧ Only [.ports, .safety] [Key.energisedSince p] s t) ∧
  (∀ (s : State) (p : PortId), s.dev.powered = true → s.dev.clocks.i7Lost = false → (s.dev.port p).session = .opening →
    Completes (.contactorFeedbackChange p false false) s fun t =>
      (t.dev.port p).session = (if (s.dev.port p).faultAfter then .faulted else .ended) ∧ (t.dev.port p).opened = false ∧
      t.dev.nat (Key.lastEndReason p) = (s.dev.port p).endReason ∧ (t.dev.psafe p).fbA = false ∧ (t.dev.psafe p).fbB = false ∧
      OnlyPilots p s t ∧ Within parts s t) ∧
  (∀ (s : State) (p : PortId) (a b : Bool), s.dev.powered = true → s.dev.clocks.i7Lost = false → (s.dev.port p).session = .energised →
    ((s.dev.psafe p).enA = true ∧ a = false) ∨ ((s.dev.psafe p).enB = true ∧ b = false) →
    Completes (.contactorFeedbackChange p a b) s fun t =>
      (t.dev.port p).session = .opening ∧ (t.dev.port p).faultAfter = true ∧ (t.dev.port p).endReason = 3 ∧ low p t ∧ failed p 16 s t ∧
      OnlyPilots p s t ∧ Within parts s t) ∧
  (∀ (s : State) (p : PortId) (n : Nat), (s.dev.psafe p).closingAt = some n → (s.dev.port p).session = .closing → n + 97 ≤ s.dev.tick7 →
    ((s.dev.psafe p).fbA && (s.dev.psafe p).fbB) = false →
    Completes (.closingTimeout p) s fun t =>
      (t.dev.port p).session = .opening ∧ (t.dev.port p).endReason = 3 ∧ (t.dev.port p).faultAfter = true ∧ low p t ∧
      failed p ((if (s.dev.psafe p).fbA then 0 else 4) + (if (s.dev.psafe p).fbB then 0 else 8)) s t ∧
      OnlyPilots p s t ∧ Within [.obj, .heart, .ports, .safety] s t) ∧
  (∀ (s : State) (p : PortId) (n : Nat), (s.dev.psafe p).openingAt = some n → n + 194 ≤ s.dev.tick7 →
    let bits := (if (s.dev.psafe p).fbA then 1 else 0) + (if (s.dev.psafe p).fbB then 2 else 0) +
      (if s.dev.isDc p = false ∧ 50000 ≤ s.dev.portVolts p then 32 else 0)
    Completes (.openingTimeout p) s fun t =>
      (t.dev.psafe p).openingAt = none ∧ (bits ≠ 0 → (t.dev.port p).session = .faulted ∧ failed p bits s t) ∧
      (bits = 0 → Only [.safety] [] s t) ∧ OnlyPilots p s t ∧ Within parts s t) ∧
  (∀ (s : State) (p : PortId) (n : Nat), (s.dev.psafe p).zeroAt = some n → (s.dev.port p).session = .stopping →
    n + (if s.dev.isDc p then 100 else 3000) ≤ s.dev.tick7 →
    Completes (.stopWaitTimeout p) s fun t =>
      (t.dev.port p).session = .opening ∧ low p t ∧ (t.dev.psafe p).openingAt = some s.dev.tick7 ∧ OnlyPilots p s t ∧
      Only [.ports, .safety] [] s t) ∧
  ∀ (s : State) (p : PortId), s.dev.powered = true → (s.dev.port p).pilot = .a → (s.dev.port p).pilotAt + 1000 ≤ s.dev.tick7 →
    (s.dev.port p).session = .ended → (s.dev.port p).opened = false →
    Completes (.pilotAIdle p) s fun t =>
      (t.dev.port p).session = .idle ∧ t.dev.hasCause p 11 = false ∧ (t.dev.port p).lock = .released ∧ (t.dev.port p).start = false ∧
      OnlyPilots p s t ∧ Within [.out, .obj, .hosts, .heart, .ports, .site, .safety, .energy, .ledger] s t

/-- R181, R183, R184, R186: the allocator shares what the site limits leave, in steps of 0.1 A, never more than there is and no port above its cap; a stale
external load brings its fallback; a pause of 600 s stops with reason 9; a migration moves a port to the partner engine at a safe point. -/
def Obligations.TheAllocatorSharesTheSite : Prop :=
  (∀ s : State, s.dev.sequencerUp = true → s.dev.site.allocateNow = true ∨ s.dev.site.allocatedAt + 1000 ≤ s.dev.nowMs →
    Completes .allocatorRun s fun t =>
      t.dev.site = { s.dev.site with
        allocatedAt := s.dev.nowMs, allocateNow := false } ∧
      (∀ p, (t.dev.port p).session = (s.dev.port p).session ∧ (t.dev.port p).stop = (s.dev.port p).stop) ∧
      (∀ m : Fin 16, t.dev.modules[m] = { s.dev.modules[m] with waiting := false }) ∧ Within [.obj, .ports, .modules, .site] s t) ∧
  (∀ s : State, s.dev.site.allocateNow = false → s.dev.nowMs < s.dev.site.allocatedAt + 1000 → Completes .allocatorRun s fun t => t = s) ∧
  (∀ (n : Nat) (cs : List Claim) (left : Left), (∀ k : Fin 3, 0 ≤ left[k]) → (∀ c ∈ cs, ∀ k : Fin 3, c.given[k] ≤ c.cap[k]) → (∀ c ∈ cs, c.on.Nodup) →
    (∀ k : Fin 3, 0 ≤ (shareAll n cs left).2[k] ∧ (shareAll n cs left).2[k] ≤ left[k]) ∧ (∀ c ∈ (shareAll n cs left).1, ∀ k : Fin 3, c.given[k] ≤ c.cap[k])) ∧
  (∀ s : State, s.dev.sequencerUp = true → s.dev.site.externalAt + 1000 * s.dev.nat Key.externalLoadTimeoutS ≤ s.dev.nowMs →
    Completes .externalLoadTimeout s fun t =>
      t.dev.nat Key.allocatorFlags = setBit (s.dev.nat Key.allocatorFlags) 0 true ∧ Only [] [Key.allocatorFlags] s t) ∧
  (∀ (s : State) (p : PortId) (n : Nat), s.dev.powered = true → (s.dev.port p).pausedAt = some n → n + 600000 ≤ s.dev.nowMs →
    Completes (.pauseTimeout p) s fun t =>
      (t.dev.port p).stop = some 9 ∧ (t.dev.port p).pausedAt = none ∧ (t.dev.port p).start = false ∧
      ((s.dev.port p).session = .authorised → (t.dev.port p).session = .ended ∧ t.dev.nat (Key.lastEndReason p) = 9) ∧
      ((s.dev.port p).session = .energised → (t.dev.port p).session = .energised) ∧ OnlyPilots p s t ∧
      Within [.out, .obj, .hosts, .heart, .ports, .site, .safety, .energy, .ledger] s t) ∧
  (∀ (s : State) (p : PortId) (e : Fin 4), s.dev.powered = true → (s.dev.port p).migrateTo = some e → s.dev.running (peCore e) = true →
    safePoint s.dev p = true →
    Completes (.migration p) s fun t =>
      t.dev.nat (Key.servingEngine p) = e ∧ t.dev.port p = { s.dev.port p with migrateTo := none } ∧
      t.dev.nat (Key.migrationCount p) = min (s.dev.nat (Key.migrationCount p) + 1) (Dev.top (Key.migrationCount p)) ∧ OnlyPort p s t ∧
      Only [.ports] [Key.servingEngine p, Key.migrationCount p] s t) ∧
  ∀ (s : State) (p : PortId), safePoint s.dev p = false → Completes (.migration p) s fun t => t = s

/-- R195, R205, R219, R192, R207, R208, R203: a valid set of samples goes through the correction of every channel into the sums of its entity; an invalid one repeats
each channel's last sample and is counted, and 32 in a row lose the die. A channel whose input falls silent fails, is logged, and counts again
only after two whole periods. The temperature moves the band by one step, with its hysteresis. -/
def Obligations.SamplesReachTheSums : Prop :=
  let quiet (s : State) : Prop := s.dev.sampling = true ∧ (∀ e, s.dev.due e = false) ∧
    (∀ p : PortId, (s.dev.chan (chanOf p 7)).failed.testBit 2 = false) ∧ ∀ c, (s.dev.chan c).failed.testBit 1 = false
  (∀ (s : State) (raw : Vector (BitVec 24) 68) (ones : Vector Nat 16), quiet s → s.dev.passes 0x00 = true →
    Completes (.sampleSet ⟨raw, ones⟩ true 0) s fun t =>
      (∀ c : Fin 68, t.dev.chan c = (s.dev.chan c).take (s.dev.nominals c).1 s.dev.samples (s.dev.nominals c).2 (s.dev.rawCodes raw ones)[c]) ∧
      t.dev.metro.invalid = 0 ∧ t.dev.metro.ones = ones ∧
      t.dev.time = { s.dev.time with samples := s.dev.time.samples + 1 } ∧ (∀ e, (t.dev.meter e).n = (s.dev.meter e).n + 1) ∧
      (∀ p : PortId, (t.dev.meter (portEntity p)).sp =
        ((s.dev.meter (portEntity p)).add (fun k => t.dev.chan (chanOf p k)) (s.dev.meter (portEntity p)).set.nomF).sp) ∧
      Within [.obj, .time, .crossings, .metro] s t) ∧
  (∀ (s : State) (raw : Vector (BitVec 24) 68) (ones : Vector Nat 16) (ok : Bool) (flux : BitVec 8), quiet s →
    ok = false ∨ s.dev.passes 0x00 = false →
    Completes (.sampleSet ⟨raw, ones⟩ ok flux) s fun t =>
      (∀ c : Fin 68, t.dev.chan c = (s.dev.chan c).again) ∧ t.dev.metro.invalid = s.dev.metro.invalid + 1 ∧
      (∀ e, (t.dev.meter e).n = (s.dev.meter e).n + 1 ∧ (t.dev.meter e).flags = setBit (s.dev.meter e).flags 0 true) ∧
      t.dev.time = { s.dev.time with samples := s.dev.time.samples + 1 } ∧ Within [.obj, .time, .crossings, .metro] s t) ∧
  (∀ s : State, s.dev.powered = true → s.dev.metro.running = true → s.dev.metro.lost = false → 32 ≤ s.dev.metro.invalid →
    Completes .measurementDieLost s fun t =>
      t.dev.metro.lost = true ∧ t.dev.safety.clockFault = true ∧ (∀ p, (t.dev.psafe p).enA = false ∧ (t.dev.psafe p).enB = false) ∧
      Within [.free, .out, .obj, .crossings, .hosts, .heart, .ports, .site, .safety, .metro, .energy, .tariff, .ledger, .burl, .display, .held] s t) ∧
  (∀ (s : State) (j : Fin 16) (c : Fin 68), s.dev.sampling = true → (s.dev.chan c).source = 0x10 + j.val →
    (∀ b : Fin 68, b < c → (s.dev.chan b).source ≠ 0x10 + j.val) → (s.dev.chan c).failed = 0 →
    64 ≤ s.dev.metro.stuck[j] → s.dev.rail .vddMem = true →
    Completes (.bitstreamLoss j) s fun t =>
      t.dev.chan c = { s.dev.chan c with failed := 2, discard := 0, returning := false, afterFail := true } ∧
      (∀ b, b ≠ c → t.dev.chan b = s.dev.chan b) ∧
      (∀ e, t.dev.meter e = if e = entityOf c ∧ s.dev.chanUsed c = true then
        { s.dev.meter e with flags := setBit (s.dev.meter e).flags 3 true } else s.dev.meter e) ∧
      (∃ e ∈ t.dev.heart.log, e.code = 0x0301 ∧ e.entity = (entityOf c).val ∧ e.data = [BitVec.ofNat 8 c.val, 1]) ∧
      Within [.obj, .heart, .ports, .safety, .metro] s t) ∧
  (∀ (s : State) (c : Fin 68), s.dev.sampling = true → (s.dev.chan c).returning = true → (s.dev.chan c).discard = 0 → (s.dev.chan c).failed = 0 →
    s.dev.rail .vddMem = true →
    Completes (.channelDiscardEnd c) s fun t =>
      t.dev.chan c = { s.dev.chan c with
        returning := false, afterFail := false } ∧ (∀ b, b ≠ c → t.dev.chan b = s.dev.chan b) ∧
      ((s.dev.chan c).afterFail = true → ∃ e ∈ t.dev.heart.log, e.code = 0x0302 ∧ e.data = [BitVec.ofNat 8 c.val]) ∧
      Within [.obj, .heart, .ports, .safety, .metro] s t) ∧
  ∀ (s : State) (x : Int), s.dev.sampling = true → s.dev.metro.bandSet = true →
    Completes (.dieTemperatureReading x) s fun t =>
      let b := s.dev.nat Key.decidedBand
      t.dev.int Key.dieTemperature = x ∧
      t.dev.nat Key.decidedBand = (if b < 7 ∧ s.dev.edge (b + 1) + 12 ≤ x then b + 1 else if 0 < b ∧ x < s.dev.edge b - 12 then b - 1 else b) ∧
      Only [] [Key.dieTemperature, Key.decidedBand] s t

/-- R198 to R201, R209, and objects 0x3001: a crossing of an entity's reference is accepted when it is the first or comes 14.286 to 25.000 ms after the one before, and places a
boundary 48 samples and the channel's delay after it; without one for 800 samples the boundary falls there. A boundary starts the sums anew and hands
the period to Heartwood. A DC mismatch flag changes after three periods in a row, raises cause 17 and is logged once a session. CalStart begins a measurement at the next boundary of CalPort; it is done when CalPeriods periods are complete. -/
def Obligations.CrossingsPlaceBoundariesAndCalibrationsMeasure : Prop :=
  let begins (e : EntityId) (s t : State) : Prop :=
    (t.dev.meter e).seq = (s.dev.meter e).seq + 1 ∧ (t.dev.meter e).n = 0 ∧ (t.dev.meter e).startN = s.dev.samples ∧
    (t.dev.meter e).sp = Vector.replicate 3 0 ∧ (t.dev.meter e).sq = Vector.replicate 3 0 ∧ (t.dev.meter e).sr = 0 ∧
    (s.dev.heartwoodUp = true → s.dev.passes 0x04 = true → (t.dev.meter e).held = []) ∧ (∀ x, x ≠ e → t.dev.meter x = s.dev.meter x) ∧
    Within [.out, .obj, .crossings, .hosts, .heart, .ports, .safety, .metro, .energy, .tariff, .ledger, .display, .held] s t
  let found (s : State) (c : Fin 68) (time : Nat) : Prop :=
    s.dev.sampling = true ∧ (s.dev.chan c).failed = 0 ∧ (s.dev.chan c).found = some (time + 24576)
  let refers (s : State) (c : Fin 68) (e : EntityId) : Prop :=
    (if e.val = 8 then 0 else (s.dev.meter e).ref) = c.val ∧ (s.dev.meter e).mode ≠ 3
  let chans (s t : State) (c : Fin 68) : Prop :=
    t.dev.chan c = { s.dev.chan c with found := none } ∧ ∀ b, b ≠ c → t.dev.chan b = s.dev.chan b
  (∀ (s : State) (c : Fin 68) (time : Nat), found s c time → s.dev.passes 0x03 = true →
    Completes (.zeroCrossing c time) s fun t =>
      (∀ e : EntityId,
        let m := s.dev.meter e
        let ok : Bool := match m.lastX with
          | none => true
          | some x => decide (x < time ∧ 14286 * 32768 ≤ (time - x) * 1000 ∧ time - x ≤ 819200)
        (refers s c e ∧ m.pendX = none ∧ ok = true → t.dev.meter e = { m with
          lastX := some time, pendX := some (time, (((time : Int) + 48 * 1024 + (s.dev.chan c).delay + 1023) / 1024).toNat), noRef := false }) ∧
        (¬(refers s c e ∧ m.pendX = none ∧ ok = true) → t.dev.meter e = m)) ∧
      chans s t c ∧ (t.dev.canopy.own = s.dev.canopy.own ∨ c = 0 ∧ t.dev.canopy.own = some time) ∧ Only [.metro, .canopy] [] s t) ∧
  (∀ (s : State) (c : Fin 68) (time : Nat), found s c time → s.dev.passes 0x03 = false →
    Completes (.zeroCrossing c time) s fun t =>
      (∀ e : EntityId, (refers s c e → t.dev.meter e = { s.dev.meter e with lastX := none, flags := setBit (s.dev.meter e).flags 2 true }) ∧
        (¬refers s c e → t.dev.meter e = s.dev.meter e)) ∧ chans s t c ∧ Only [.metro] [] s t) ∧
  (∀ (s : State) (e : EntityId), s.dev.sampling = true → s.dev.due e = true → Completes (.periodEnd e) s (begins e s)) ∧
  (∀ (s : State) (e : EntityId), s.dev.sampling = true → (s.dev.meter e).mode ≠ 3 → (s.dev.meter e).noRef = false → (s.dev.meter e).pendX = none →
    (s.dev.meter e).startN + 800 ≤ s.dev.samples →
    Completes (.referenceTimeout e) s fun t => begins e s t ∧ (t.dev.meter e).lastX = none) ∧
  (∀ (s : State) (e : EntityId), (s.dev.meter e).mode ≠ 3 → (s.dev.meter e).pendX = none → s.dev.samples < (s.dev.meter e).startN + 800 →
    Completes (.referenceTimeout e) s fun t => t = s) ∧
  (∀ (s : State) (p : PortId), (s.dev.meter (portEntity p)).mode = 3 → 3 ≤ (s.dev.meter (portEntity p)).dc[1] →
    s.dev.flag (Key.dcVoltageMismatch p) = false →
    Completes (.dcMismatch p true) s fun t =>
      t.dev.flag (Key.dcVoltageMismatch p) = true ∧ t.dev.hasCause p 17 = true ∧ (t.dev.meter (portEntity p)).dc[1] = 0 ∧
      (∀ e, e ≠ portEntity p → t.dev.meter e = s.dev.meter e) ∧
      Within [.obj, .heart, .metro] s t) ∧
  (∀ (s : State) (p : PortId), (s.dev.meter (portEntity p)).mode = 3 → 3 ≤ (s.dev.meter (portEntity p)).dc[0] →
    s.dev.flag (Key.dcCurrentMismatch p) = true →
    Completes (.dcMismatch p false) s fun t =>
      t.dev.flag (Key.dcCurrentMismatch p) = false ∧ t.dev.causes p = s.dev.causes p ∧ Only [.metro] [Key.dcCurrentMismatch p] s t) ∧
  (∀ (s : State) (m : HostMsg) (data : Bytes), s.dev.grants m = true → takes Key.calStart data = true →
    Completes (.calStart m data) s fun t =>
      (∃ r : CalRun, t.dev.metro = { s.dev.metro with cal := some r } ∧ r.port = s.dev.nat Key.calPort ∧
        r.periods = s.dev.nat Key.calPeriods ∧ r.waiting = true ∧ r.done = 0 ∧ r.n = 0 ∧ r.aborted = false) ∧
      t.dev.nat Key.calState = 1 ∧ t.dev.nat Key.calPeriodsDone = 0 ∧
      Served m (.done Key.calStart) [.metro] [Key.calState, Key.calPeriodsDone] s t) ∧
  (∀ (s : State) (r : CalRun), s.dev.metro.cal = some r → r.aborted = false → r.waiting = false → r.periods ≤ r.done → s.dev.nat Key.calState = 1 →
    Completes .calDone s fun t =>
      t.dev.nat Key.calState = 2 ∧
      t.dev.nat Key.calFrequency = (if r.lens = 0 then 0 else (2 * 32768000000 * r.done + r.lens) / (2 * r.lens)) ∧
      (r.mode = 3 → r.port ≠ 8 → t.dev.nat (Key.calVrmsL 0) = Dev.rmsMicro r.sq2[0] r.n r.fs[0] ∧
        t.dev.nat (Key.calIrmsL 1) = Dev.rmsMicro r.sq2[6] r.n r.fs[6] ∧ t.dev.int (Key.calPL 1) = Dev.powerMicro r.spn r.n r.fs[0] r.fs[6]) ∧
      Within [.obj] s t) ∧
  ∀ (s : State) (r : CalRun), s.dev.metro.cal = some r → r.done < r.periods → Completes .calDone s fun t => t = s

/-- R231, R232, R234, R242, R246: a commit writes its ring under the next CommitNumber into slot CommitNumber mod 32. Read back right, it is the newest ring and the
commit is over; read back wrong, the same contents stay to be written to the next slot, and the failure is logged. A commit that is late goes into the
next ring. The magnetic alarm latches at the second reading above 150 mT and releases at the tenth below 120 mT. -/
def Obligations.RingsAreWrittenAndReadBack : Prop :=
  let calm (s : State) : Prop := s.dev.power.state = .inService ∧ s.dev.heartwoodUp = true ∧ s.dev.energy.lost = false ∧ s.dev.burl.reports = [] ∧
    s.dev.nat Key.alarmNow = 0
  let slot (s : State) (k : Fin 32) : Prop := k.val = (s.dev.energy.number + 1) % 32
  (∀ (s : State) (c : CommitRun) (us : Nat), calm s → s.dev.energy.commit = some c → s.dev.energy.fails < 3 →
    s.dev.rail .vddMem = true →
    Completes (.ringCommit false us) s fun t =>
      (∃ k, slot s k ∧ t.dev.energy = { s.dev.energy with
        number := s.dev.energy.number + 1, fails := s.dev.energy.fails + 1
        slots := s.dev.energy.slots.set k (some (false, { c.ring with number := s.dev.energy.number + 1 })) }) ∧
      (∃ e : LegalEntry, t.dev.heart = { s.dev.heart with log := e :: s.dev.heart.log.take 32767 } ∧ e.code = 0x0203) ∧
      Only [.heart, .energy] [Key.readBackFailCount] s t) ∧
  (∀ (s : State) (c : CommitRun) (us : Nat), calm s → s.dev.energy.commit = some c → s.dev.energy.fails = 0 → s.dev.energy.batch = [] → c.closes = [] →
    (∀ x ∈ c.entries, x.e = 8 ∧ x.checks[0].1 = false) →
    Completes (.ringCommit true us) s fun t =>
      let r : Ring := { c.ring with number := s.dev.energy.number + 1 }
      (∃ k, slot s k ∧ t.dev.energy.slots = s.dev.energy.slots.set k (some (true, r))) ∧ t.dev.energy.number = s.dev.energy.number + 1 ∧
      t.dev.energy.newest = some r ∧ t.dev.energy.commit = none ∧ t.dev.energy.live = s.dev.energy.live ∧
      t.dev.nat Key.lastCommitDuration = min us 0xFFFF ∧ Within [.obj, .heart, .ports, .energy, .tariff] s t) ∧
  (∀ (d : Dev) (ring : Ring) (ok : Bool) (k : Fin 32), k.val ≠ (d.energy.number + 1) % 32 →
    (d.writeRing ring ok).2.energy.slots[k] = d.energy.slots[k]) ∧
  (∀ (s : State) (c : CommitRun) (e : EntityId), s.dev.energy.commit = some c → s.dev.heartwoodUp = true → s.dev.energy.fails = 0 →
    (∃ x ∈ c.entries, s.dev.isLate e x = true) → s.dev.rail .vddMem = true →
    Completes (.lateCommit e) s fun t =>
      t.dev.energy = { s.dev.energy with
        commit := none, closes := c.closes ++ s.dev.energy.closes
        batch := (c.entries ++ s.dev.energy.batch).map fun x => if s.dev.isLate e x then { x with late := true } else x } ∧
      (∃ x : LegalEntry, t.dev.heart = { s.dev.heart with log := x :: s.dev.heart.log.take 32767 } ∧ x.code = 0x0202 ∧ x.entity = e.val ∧
        x.data = leBytes 8 (s.dev.energy.number + 1)) ∧ Only [.heart, .energy] [] s t) ∧
  (∀ (s : State) (e : EntityId), (∀ x ∈ s.dev.energy.batch, s.dev.isLate e x = false) →
    (∀ c, s.dev.energy.commit = some c → ∀ x ∈ c.entries, s.dev.isLate e x = false) → Completes (.lateCommit e) s fun t => t = s) ∧
  (∀ (s : State) (x : Nat), calm s → s.dev.sampling = true → s.dev.energy.magnet.latched = false → x ≤ 150 →
    Completes (.hallReading x) s fun t =>
      t.dev.nat Key.magneticField = x ∧ t.dev.energy.magnet.latched = false ∧ t.dev.energy.magnet.run = 0 ∧ t.dev.flag Key.magnetAlarm = false ∧
      Only [.energy] [Key.magneticField, Key.magnetAlarm] s t) ∧
  (∀ (d : Dev) (x : Nat), d.sampling = true → d.heartwoodUp = true → d.energy.magnet.latched = false → d.energy.magnet.run = 1 → 150 < x →
    (hallReading x d).energy.magnet.latched = true ∧ (∃ y, (hallReading x d).burl.reports = d.burl.reports ++ [(9, y)])) ∧
  ∀ (c : CheckRun) (bad : Bool) (dev : Int) (n : Nat), 0 < n →
    ((c.next bad dev n).2 = true ↔ bad ≠ c.latched ∧ n ≤ c.run + 1) ∧
    (c.next bad dev n).1.latched = (if (c.next bad dev n).2 then bad else c.latched) ∧
    (bad = c.latched → (c.next bad dev n).1.run = 0)

/-- R443 to R447: a source that enters alarm is logged and counted, and its level decides: at 0 nothing more, at 1 a hold from the next tick. Its end is
logged too. A hold is left by ClearHold, once no source of level 1 or above is in alarm, at a tick boundary; outside a hold ClearHold changes
nothing. -/
def Obligations.TamperAlarmsHoldTheDevice : Prop :=
  (∀ (s : State) (k : Fin 17) (x : Int), s.dev.power.state = .inService → s.dev.alarms k = true → s.dev.inAlarm k = false → s.dev.level k ≤ 1 →
    s.dev.burl.keyOp = none → s.dev.rail .vddMem = true →
    Completes (.tamperAlarm k x) s fun t =>
      t.dev.inAlarm k = true ∧ t.dev.nat Key.tamperLastSource = k ∧ t.dev.nat Key.tamperLastTime = s.dev.nowUs ∧
      t.dev.nat Key.tamperEventCount = min (s.dev.nat Key.tamperEventCount + 1) (Dev.top Key.tamperEventCount) ∧
      (∃ cells, t.dev.burl = { s.dev.burl with
        cells := cells, holdNext := if s.dev.level k = 0 then s.dev.burl.holdNext else some (s.dev.burl.holdNext.getD k) }) ∧
      (∃ e : LegalEntry, t.dev.heart = { s.dev.heart with log := e :: s.dev.heart.log.take 32767 } ∧ e.code = 0x0603 ∧ e.entity = 0xFF) ∧
      Only [.heart, .burl] [Key.alarmNow, Key.tamperEventCount, Key.sourceEventCount (k.val - 1), Key.tamperLastSource, Key.tamperLastTime] s t) ∧
  (∀ (s : State) (k : Fin 17) (x : Int), s.dev.inAlarm k = true → s.dev.checkLatched k = false → s.dev.powered = true →
    s.dev.rail .vddMem = true →
    Completes (.tamperAlarmEnd k x) s fun t =>
      t.dev.inAlarm k = false ∧ (∀ q, q ≠ k.val → t.dev.inAlarm q = s.dev.inAlarm q) ∧
      (∃ e : LegalEntry, t.dev.heart = { s.dev.heart with log := e :: s.dev.heart.log.take 32767 } ∧ e.code = 0x0603) ∧
      Only [.heart] [Key.alarmNow] s t) ∧
  (∀ (s : State) (m : HostMsg) (data : Bytes), s.dev.grants m = true → takes Key.clearHold data = true → s.dev.power.state ≠ .tamperHold →
    Completes (.clearHold m data) s fun t => Served m (.done Key.clearHold) [] [] s t) ∧
  (∀ (s : State) (m : HostMsg) (data : Bytes), s.dev.grants m = true → takes Key.clearHold data = true → s.dev.power.state = .tamperHold →
    s.dev.alarmHolds = true →
    Completes (.clearHold m data) s fun t =>
      Served m (.abort Code.tamperHold Key.clearHold) [] [Key.lastAbortCode, Key.lastAbortObject, Key.lastAbortHost, Key.abortCount] s t) ∧
  (∀ (s : State) (m : HostMsg) (data : Bytes), s.dev.grants m = true → takes Key.clearHold data = true → s.dev.power.state = .tamperHold →
    s.dev.alarmHolds = false →
    Completes (.clearHold m data) s fun t =>
      t.dev.dict = { s.dev.dict with items := s.dev.dict.items ++ [.clearHold ((s.dev.admitted m).ackOf m Key.clearHold)] } ∧ t.dev.out = s.dev.out ∧
      Only [.dict, .hosts] (hostKeys m.slot) s t ∧ OnlySlot m.slot s t) ∧
  ∀ (d : Dev) (slot : Nat), d.power.state = .tamperHold → (d.holdCleared slot).power = { d.power with state := .inService } ∧
    (d.holdCleared slot).flag Key.holdActive = false

/-- R250, R252, R256, R264, R265, R266, R268, R272: a boundary set runs once every period before its instant is committed: the profile record, the tariff, the snapshots
of a billing close, each between two entries of the journal. CloseNow asks for a close at the next second; a new time slews up to 2 s and
steps beyond; the step waits for sets and commits, and is logged by its counter. -/
def Obligations.BoundariesAreClosedAndTheClockSet : Prop :=
  let parts : List Part := [.out, .obj, .heart, .ports, .site, .safety, .energy, .tariff, .ledger]
  (∀ (s : State) (x : BoundSet) (rest : List BoundSet), s.dev.tariff.sets = x :: rest → s.dev.setReady x = true → x.steps = 2 →
    Completes .boundarySet s fun t =>
      t.dev.tariff.sets = rest ∧ t.dev.energy.bill.profileStart = x.stamp ∧
      (∃ r : ProfileRec, t.dev.tariff.profile = r :: (s.dev.tariff.profile.filter fun y => y.slot ≠ r.slot) ∧
        r.slot = s.dev.energy.bill.profileNext ∧ r.endTime = x.stamp ∧ r.tariff = s.dev.energy.bill.tariff ∧
        r.imp = s.dev.committedEnts.map fun e => readout e.imp) ∧
      (∃ b a : JEntry, t.dev.tariff.journal = b :: a :: s.dev.tariff.journal.take 510 ∧ a.step = 1 ∧ a.done = false ∧ b.step = 1 ∧ b.done = true ∧
        b.seq = a.seq + 1) ∧ Within (.display :: parts) s t) ∧
  (∀ (s : State) (x : BoundSet) (rest : List BoundSet), s.dev.tariff.sets = x :: rest → s.dev.setReady x = true → x.steps = 32 →
    Completes .boundarySet s fun t =>
      t.dev.tariff.sets = rest ∧ t.dev.energy.bill.period = s.dev.energy.bill.period + 1 ∧ t.dev.energy.bill.start = x.stamp ∧
      (∃ (k : Fin 24) (v : Vector Snapshot 9), k.val = s.dev.energy.bill.snapNext % 24 ∧ t.dev.tariff.snaps = s.dev.tariff.snaps.set k (some v) ∧
        ∀ e : EntityId, (v[e]).close = x.stamp ∧ (v[e]).period = s.dev.energy.bill.period ∧ (v[e]).commit = s.dev.committedNumber ∧
          (v[e]).regs[0] = readout (s.dev.committedEnts[e]).imp) ∧ Within (.display :: parts) s t) ∧
  (∀ (s : State) (x : BoundSet) (rest : List BoundSet), s.dev.tariff.sets = x :: rest → s.dev.setReady x = false →
    Completes .boundarySet s fun t => t = s) ∧
  (∀ (s : State) (m : HostMsg) (data : Bytes), s.dev.grants m = true → takes Key.closeNow data = true →
    Completes (.closeNow m data) s fun t =>
      t.dev.tariff = { s.dev.tariff with closeNow := some (s.dev.time.utcS + 1) } ∧ Served m (.done Key.closeNow) [.tariff] [] s t) ∧
  (∀ (s : State) (m : HostMsg) (data : Bytes) (new : Int), s.dev.grants m = true → takes Key.setTime data = true →
    sentValue Key.setTime data = .int new →
    Completes (.setTime m data) s fun t =>
      let x := new - (s.dev.nowUs : Int)
      t.dev.time = (if x.natAbs ≤ 2000000 then { s.dev.time with slew := x * 16, stepBy := none, unknown := false, i6Lost := false }
        else { s.dev.time with slew := 0, stepBy := some x }) ∧ Served m (.done Key.setTime) [.time] [] s t) ∧
  (∀ (s : State) (x : Int), s.dev.time.stepBy = some x → s.dev.heartwoodUp = true → s.dev.tariff.sets = [] → s.dev.energy.batch = [] →
    s.dev.energy.commit = none →
    Completes .clockStep s fun t =>
      t.dev.time.utcS = ((s.dev.nowUs : Int) + x).toNat / 1000000 ∧ t.dev.time.stepBy = none ∧ t.dev.time.slew = 0 ∧
      t.dev.time.unknown = false ∧ t.dev.time.fabric = s.dev.time.fabric ∧ Within (.time :: .crossings :: parts) s t) ∧
  ∀ (s : State) (x : Int), s.dev.time.stepBy = some x → s.dev.tariff.sets ≠ [] ∨ s.dev.energy.batch ≠ [] ∨ s.dev.energy.commit.isSome = true →
    Completes .clockStep s fun t => t = s

/-- R282, R283, R284, R305: an identity that waits for a port and that the local decision grants is posted to Heartwood, or waits for the host's answer under
HostAuthMode; no account, no grant and an answer 2 end the port with reason 6; Heartwood takes the binding of a sound record and the port is
AUTHORISED, and refuses one whose record is corrupt, with event 0x0503. -/
def Obligations.AccountsAuthorisePorts : Prop :=
  let posts (p : PortId) (x : Option (Nat × Nat)) (s t : State) : Prop :=
    t.dev.ledger = { s.dev.ledger with posted := s.dev.ledger.posted.set p x, auth := t.dev.ledger.auth }
  let parts : List Part := [.out, .obj, .hosts, .heart, .ports, .site, .safety, .energy, .ledger]
  let ended (p : PortId) (t : State) : Prop := (t.dev.port p).session = .ended ∧ t.dev.nat (Key.lastEndReason p) = 6
  (∀ (s : State) (m : HostMsg) (p : PortId) (data : Bytes) (n : Int) (slot : Nat) (a : Account), s.dev.grants m = true →
    takes (Key.externalId p) data = true → sentValue (Key.externalId p) data = .int n → s.dev.waiting p = true → (s.dev.port p).session = .identifying →
    s.dev.findNumber n.toNat = some (slot, a) → s.dev.localGrant slot a = true →
    Completes (.externalId m p data) s fun t =>
      (if s.dev.nat Key.hostAuthMode = 0 then posts p (some (slot, a.number)) s t ∧ t.dev.ledger.auth = s.dev.ledger.auth
      else t.dev.ledger = { s.dev.ledger with
          auth := s.dev.ledger.auth.set p (some ⟨slot, a.number, s.dev.nowMs + s.dev.nat Key.hostAuthTimeoutMs⟩) } ∧
        t.dev.nat (Key.authPending p) = a.number) ∧ Served m (.done (Key.externalId p)) [.ledger] [Key.authPending p] s t) ∧
  (∀ (s : State) (m : HostMsg) (p : PortId) (data : Bytes) (n : Int), s.dev.grants m = true → takes (Key.externalId p) data = true →
    sentValue (Key.externalId p) data = .int n → s.dev.waiting p = true → s.dev.findNumber n.toNat = none →
    Completes (.externalId m p data) s fun t => ended p t ∧ Replied s t m (.done (Key.externalId p)) ∧ Within parts s t) ∧
  (∀ (s : State) (m : HostMsg) (p : PortId) (data : Bytes), s.dev.grants m = true → takes (Key.externalId p) data = true → s.dev.waiting p = false →
    Completes (.externalId m p data) s fun t => Served m (.abort Code.notClearing (Key.externalId p)) []
      [Key.lastAbortCode, Key.lastAbortObject, Key.lastAbortHost, Key.abortCount] s t) ∧
  (∀ (s : State) (m : HostMsg) (p : PortId) (data : Bytes) (r : AuthRun), s.dev.grants m = true → takes (Key.authAnswer p) data = true →
    s.dev.ledger.auth[p] = some r →
    Completes (.authAnswer m p data) s fun t =>
      t.dev.nat (Key.authPending p) = 0 ∧ t.dev.ledger.auth[p] = none ∧ Replied s t m (.done (Key.authAnswer p)) ∧
      (if sentValue (Key.authAnswer p) data = .int 1 then posts p (some (r.slot, r.account)) s t ∧ Within [.out, .obj, .hosts, .ledger] s t
      else ended p t ∧ Within parts s t)) ∧
  (∀ (s : State) (p : PortId) (r : AuthRun), s.dev.sequencerUp = true → s.dev.ledger.auth[p] = some r → r.deadline ≤ s.dev.nowMs →
    Completes (.hostAuthTimeout p) s fun t =>
      t.dev.nat (Key.authPending p) = 0 ∧ t.dev.ledger.auth[p] = none ∧
      (if s.dev.nat Key.hostAuthMode = 2 then ended p t else posts p (some (r.slot, r.account)) s t) ∧ Within parts s t) ∧
  (∀ (s : State) (p : PortId) (slot account : Nat) (a : Account), s.dev.heartwoodTakes = true → s.dev.ledger.posted[p] = some (slot, account) →
    (s.dev.port p).session = .identifying → s.dev.acct slot = some a → a.sound = true → a.number = account → s.dev.ledger.bind[p] = none →
    s.dev.storeFits = true →
    Completes (.binding p) s fun t =>
      t.dev.ledger.bind[p] = some ⟨slot, account, 0, none, none, false⟩ ∧ t.dev.ledger.posted[p] = none ∧
      (t.dev.port p).session = .authorised ∧ (t.dev.port p).authorisedAt = s.dev.nowMs ∧ t.dev.nat (Key.boundAccount p) = account ∧
      t.dev.nat (Key.boundSlot p) = slot ∧ OnlyPilots p s t ∧ Within parts s t) ∧
  (∀ (s : State) (p : PortId) (slot account : Nat) (a : Account), s.dev.heartwoodTakes = true → s.dev.ledger.posted[p] = some (slot, account) →
    (s.dev.port p).session = .identifying → s.dev.acct slot = some a → a.sound = false → s.dev.ledger.bind[p] = none →
    Completes (.binding p) s fun t => ended p t ∧ t.dev.ledger.posted[p] = none ∧ t.dev.ledger.bind[p] = none ∧ Within parts s t) ∧
  ∀ (s : State) (m : HostMsg) (data : Bytes), s.dev.grants m = true → takes Key.selectAccount data = true →
    Completes (.selectAccount m data) s fun t =>
      t.dev.dict = { s.dev.dict with items := s.dev.dict.items ++
        [.write ((s.dev.admitted m).ackOf m Key.selectAccount) Key.selectAccount (sentValue Key.selectAccount data)] } ∧ t.dev.out = s.dev.out ∧
      Only [.dict, .hosts] (hostKeys m.slot) s t ∧ OnlySlot m.slot s t

/-- R296, R297, R298, R301, R502: a matrix that three scans agree on is accepted; a press is decoded once, a digit joins the entry and CLR empties it; a pause of
more than 60 s discards it; 600 s after the fifth failure the keypad is unlocked; a card frame is checked as the table says, counted when it is
wrong, and taken once in 2 s; one that no port waits for is refused on the display. -/
def Obligations.KeysAndCardsAreRead : Prop :=
  (∀ (s : State) (x : BitVec 16), s.dev.sequencerUp = true → s.dev.islandRuns 1 = true → s.dev.flag Key.keypadEnable = true →
    Completes (.keypadScan x) s fun t =>
      let k := s.dev.ledger.keypad
      let agree := if x = k.matrix then min 3 (k.agree + 1) else 1
      t.dev.ledger.keypad.matrix = x ∧ t.dev.ledger.keypad.agree = agree ∧
      t.dev.ledger.keypad.accepted = (if 3 ≤ agree then x else k.accepted) ∧ t.dev.ledger.keypad.entry = k.entry ∧
      t.dev.ledger = { s.dev.ledger with keypad := t.dev.ledger.keypad } ∧ Only [.ledger] [] s t) ∧
  (∀ (s : State) (n : Fin 10), s.dev.sequencerUp = true → s.dev.ledger.keypad.fresh = true →
    s.dev.ledger.keypad.accepted = BitVec.ofNat 16 (2 ^ keyBit (.digit n)) → entryOf s.dev.ledger.keypad.entry = .open → s.dev.heart.inspection = none →
    Completes (.keyPress (.digit n)) s fun t =>
      t.dev.ledger = { s.dev.ledger with keypad := { s.dev.ledger.keypad with
        fresh := false, lastKey := s.dev.nowMs, entry := s.dev.ledger.keypad.entry ++ [.digit n] } } ∧ Only [.ledger] [] s t) ∧
  (∀ (s : State), s.dev.sequencerUp = true → s.dev.ledger.keypad.fresh = true →
    s.dev.ledger.keypad.accepted = BitVec.ofNat 16 (2 ^ keyBit .clr) → s.dev.heart.inspection = none →
    Completes (.keyPress .clr) s fun t =>
      t.dev.ledger = { s.dev.ledger with keypad := { s.dev.ledger.keypad with
        fresh := false, lastKey := s.dev.nowMs, entry := [] } } ∧ Only [.ledger] [] s t) ∧
  (∀ (s : State) (k : Key), s.dev.ledger.keypad.fresh = false → Completes (.keyPress k) s fun t => t = s) ∧
  (∀ s : State, s.dev.sequencerUp = true → s.dev.ledger.keypad.entry ≠ [] → entryOf s.dev.ledger.keypad.entry = .open →
    s.dev.ledger.keypad.lastKey + 60000 < s.dev.nowMs →
    Completes .keypadEntryTimeout s fun t =>
      t.dev.ledger = { s.dev.ledger with keypad := { s.dev.ledger.keypad with entry := [] } } ∧ Only [.ledger] [] s t) ∧
  (∀ (s : State) (n : Nat), s.dev.ledger.keypad.lockTill = some n → n ≤ s.dev.nowMs →
    Completes .keypadUnlock s fun t =>
      t.dev.ledger = { s.dev.ledger with keypad := { s.dev.ledger.keypad with
        lockTill := none, fails := [] } } ∧ t.dev.flag Key.keypadLocked = false ∧ Only [.ledger] [Key.keypadLocked] s t) ∧
  (∀ (s : State) (frame hash : Bytes), s.dev.sequencerUp = true → s.dev.islandRuns 4 = true → s.dev.nat Key.cardReaderUart ≠ 0xFF →
    Completes (.cardFrame frame false hash) s fun t =>
      t.dev.nat Key.cardFrameErrorCount = min (s.dev.nat Key.cardFrameErrorCount + 1) (Dev.top Key.cardFrameErrorCount) ∧
      Only [] [Key.cardFrameErrorCount] s t) ∧
  ∀ (s : State) (ident hash : Bytes), s.dev.sequencerUp = true → s.dev.islandRuns 4 = true → s.dev.nat Key.cardReaderUart ≠ 0xFF →
    4 ≤ ident.length → ident.length ≤ 32 → s.dev.nat Key.cardReaderPort = 0xFF → (∀ p, s.dev.waiting p = false) →
    let n : Byte := BitVec.ofNat 8 ident.length
    Completes (.cardFrame ([0x02, n] ++ ident ++ [BitVec.ofNat 8 (crc 8 7 0 false 0 (n :: ident)), 0x03]) true hash) s fun t =>
      (if (s.dev.ledger.card.any fun x => decide (x.1 = ident ∧ s.dev.nowMs < x.2 + 2000)) = true then t = s
      else t.dev.ledger = { s.dev.ledger with card := some (ident, s.dev.nowMs) } ∧
        (s.dev.heart.inspection = none → t.dev.display.notice = true)) ∧ Only [.ledger, .display] [] s t

/-- R298 to R302: a token that is well formed, of an account in use, decrypted and not used before is carried out: a credit raises the balance by its units times
TokenScale, once; a token refused changes no account. Every result is stored and logged as 0x0501. A key change waits 300 s for its other
half. A signed host credit with a higher sequence moves the balance, and one whose signature fails is refused. -/
def Obligations.TokensCreditOnce : Prop :=
  let read (s : State) (account slot : Nat) (a : Account) (digits : List (Fin 10)) (f : TokenFacts) : Prop :=
    s.dev.heart.sealBroken = 0 ∧ digits.length = 20 ∧ numberOf digits < 2 ^ 66 ∧ s.dev.findNumber account = some (slot, a) ∧
    s.dev.acct slot = some a ∧ a.number = account ∧ a.status ≠ 3 ∧ a.status ≠ 0 ∧ f.decryptOk = true ∧ (s.dev.keyOf 0x06).isSome = true ∧
    s.dev.burlUp = true
  let ready (s : State) : Prop := s.dev.heartwoodTakes = true ∧ s.dev.rail .vddMem = true
  let noted (account r : Nat) (s t : State) : Prop :=
    t.dev.nat Key.lastTokenResult = r ∧ t.dev.nat Key.lastTokenAccount = account ∧ t.dev.nat Key.lastTokenTime = s.dev.nowUs ∧
    t.dev.nat Key.lastLegalCode = 0x10 ∧ ∃ e ∈ t.dev.heart.log.head?, e.code = 0x0501 ∧ e.data.take 8 = leBytes 8 account
  let parts : List Part := [.free, .out, .obj, .hosts, .heart, .ledger, .display]
  (∀ (s : State) (account slot units : Nat) (a : Account) (digits : List (Fin 10)) (f : TokenFacts), ready s → s.dev.balancesMove = true →
    read s account slot a digits f → f.body = .credit units → units ≠ 0 → s.dev.tidOk slot account f.tid = true → a.sound = true →
    -(2 ^ 63 : Int) ≤ a.balance + (units * s.dev.nat Key.tokenScale : Nat) → a.balance + (units * s.dev.nat Key.tokenScale : Nat) < 2 ^ 63 →
    Completes (.token false account digits f) s fun t =>
      noted account 0 s t ∧ t.dev.int Key.lastTokenAmount = (units * s.dev.nat Key.tokenScale : Nat) ∧
      (∃ r, t.dev.acct slot = some r ∧ r.balance = a.balance + (units * s.dev.nat Key.tokenScale : Nat) ∧ r.fields = a.fields ∧ r.sound = true) ∧
      (∀ k, k ≠ slot → t.dev.acct k = s.dev.acct k) ∧ t.dev.tidOk slot account f.tid = false ∧ Within parts s t) ∧
  (∀ (s : State) (account slot : Nat) (a : Account) (digits : List (Fin 10)) (f : TokenFacts), ready s →
    read s account slot a digits f → f.body ≠ .other → s.dev.tidOk slot account f.tid = false →
    Completes (.token false account digits f) s fun t => noted account 5 s t ∧ t.dev.ledger = s.dev.ledger ∧ Within parts s t) ∧
  (∀ (s : State) (account : Nat) (digits : List (Fin 10)) (f : TokenFacts), ready s →
    s.dev.heart.sealBroken ≠ 0 ∨ digits.length ≠ 20 ∨ s.dev.findNumber account = none →
    Completes (.token false account digits f) s fun t =>
      noted account (if s.dev.heart.sealBroken ≠ 0 then 12 else if digits.length ≠ 20 ∨ 2 ^ 66 ≤ numberOf digits then 1 else 2) s t ∧
      t.dev.ledger = s.dev.ledger ∧ Within parts s t) ∧
  (∀ (s : State) (m : HostMsg) (data b : Bytes) (f : TokenFacts) (digits : List (Fin 10)), s.dev.grants m = true → takes Key.tokenSubmit data = true →
    sentValue Key.tokenSubmit data = .bytes b → asciiDigits b = some digits → digits.length = 20 → ready s →
    Completes (.tokenSubmit m data f) s fun t =>
      noted (s.dev.nat Key.tokenAccount) (s.dev.tokenResult false (s.dev.nat Key.tokenAccount) digits f).1 s t ∧
      Replied s t m (.done Key.tokenSubmit) ∧ OnlySlot m.slot s t ∧ Within parts s t) ∧
  (∀ (s : State) (m : HostMsg) (data b : Bytes) (f : TokenFacts), s.dev.grants m = true → takes Key.tokenSubmit data = true →
    sentValue Key.tokenSubmit data = .bytes b → asciiDigits b = none →
    Completes (.tokenSubmit m data f) s fun t => Served m (.abort Code.range Key.tokenSubmit) []
      [Key.lastAbortCode, Key.lastAbortObject, Key.lastAbortHost, Key.abortCount] s t) ∧
  (∀ (s : State) (account half ends : Nat), s.dev.ledger.half = some (account, half, ends) → ends ≤ s.dev.nowMs →
    Completes .keyChangeHalfExpiry s fun t => t.dev.ledger = { s.dev.ledger with half := none } ∧ Only [.ledger] [] s t) ∧
  (∀ (s : State) (m : HostMsg) (data : Bytes) (slot : Nat) (a : Account), s.dev.grants m = true → takes Key.hostCredit data = true →
    s.dev.heartwoodTakes = true → s.dev.balancesMove = true → (s.dev.keyOf 0x07).isSome = true → s.dev.burlUp = true →
    leVal (data.take 1) = 1 → leVal ((data.drop 1).take 1) ≤ 2 → s.dev.nat Key.hostCreditSequence < leVal ((data.drop 18).take 8) →
    s.dev.findNumber (leVal ((data.drop 2).take 8)) = some (slot, a) → s.dev.acct slot = some a → a.status ≠ 3 → a.status ≠ 0 → a.sound = true →
    let amount := toSigned 64 (leVal ((data.drop 10).take 8));
    -(2 ^ 63 : Int) ≤ a.balance + amount → a.balance + amount < 2 ^ 63 →
    Completes (.hostCredit m data true true) s fun t =>
      (∃ r, t.dev.acct slot = some r ∧ r.balance = a.balance + amount ∧ r.fields = a.fields) ∧ (∀ k, k ≠ slot → t.dev.acct k = s.dev.acct k) ∧
      t.dev.nat Key.hostCreditSequence = leVal ((data.drop 18).take 8) ∧
      (∃ e : LegalEntry, t.dev.heart = { s.dev.heart with log := e :: s.dev.heart.log.take 32767 } ∧ e.code = 0x0502) ∧
      Served m (.done Key.hostCredit) [.heart, .ledger, .burl] [Key.lastLegalCode, Key.hostCreditSequence, Key.useCount 0x07] s t) ∧
  ∀ (s : State) (m : HostMsg) (data : Bytes) (ok : Bool), s.dev.grants m = true → takes Key.hostCredit data = true →
    s.dev.heartwoodTakes = true → leVal (data.take 1) = 1 → leVal ((data.drop 1).take 1) ≤ 2 →
    Completes (.hostCredit m data false ok) s fun t => Served m (.abort Code.verifyFailed Key.hostCredit) []
      [Key.lastLegalCode, Key.useCount 0x07, Key.refusedCount 0x07, Key.lastAbortCode, Key.lastAbortObject, Key.lastAbortHost,
        Key.abortCount] s t

/-- R310: an external legal command, of any of the four codes, is refused at the first check it fails: the signature, then its object's hash and its
Sequence, then the lifecycle state that permits it, then the seal. A refusal is counted and logged with its code, Sequence and reason, and nothing else changes but the counts of the command's key; the counter
follows a signature that verifies. -/
def Obligations.LegalCommandsAreChecked : Prop :=
  let four (env : LegalEnv) (o : ObjRef) (data record : Bytes) (slot : Nat) : List (Instr × Nat × List Nat) :=
    [(.calibrationWrite env o data, 1, [1, 2]), (.constantsWrite env o data, 2, [1, 2]), (.sealCommand env, 3, [2]),
     (.recordRepair env slot record, 4, [0, 1, 2, 3])]
  let refused (env : LegalEnv) (code result sequence : Nat) (s t : State) : Prop :=
    t.dev.nat Key.lastLegalCode = code ∧ t.dev.nat Key.lastLegalResult = result ∧ t.dev.nat Key.legalSequence = sequence ∧
    t.dev.nat Key.legalRefusedCount = min (s.dev.nat Key.legalRefusedCount + 1) (Dev.top Key.legalRefusedCount) ∧
    (∃ e : LegalEntry, t.dev.heart = { s.dev.heart with log := e :: s.dev.heart.log.take 32767 } ∧ e.code = 0x0606 ∧
      e.data = leBytes 1 code ++ leBytes 8 env.seq ++ leBytes 4 result) ∧
    Only [.heart, .mail, .burl] [Key.lastLegalCode, Key.lastLegalResult, Key.legalSequence, Key.legalRefusedCount, Key.useCount 0x05,
      Key.refusedCount 0x05] s t
  ∀ (s : State) (env : LegalEnv) (o : ObjRef) (data record : Bytes) (slot : Nat) (c : Instr) (code : Nat) (states : List Nat),
    (c, code, states) ∈ four env o data record slot → s.dev.heartwoodTakes = true → s.dev.rail .vddMem = true →
    (env.sigOk = false ∨ s.dev.keyOf 0x05 = none ∨ s.dev.burlUp = false →
      Completes c s (refused env code 0x08000002 (s.dev.nat Key.legalSequence) s)) ∧
    (env.sigOk = true → (s.dev.keyOf 0x05).isSome = true → s.dev.burlUp = true →
      let old := s.dev.nat Key.legalSequence
      (env.hashOk = false ∨ env.seq ≤ old → Completes c s (refused env code 0x03000003 (max old env.seq) s)) ∧
      (env.hashOk = true → old < env.seq →
        (s.dev.lifecycle ∉ states → Completes c s (refused env code 0x08000001 env.seq s)) ∧
        (s.dev.lifecycle ∈ states → s.dev.heart.sealBroken ≠ 0 → code ≠ 4 → Completes c s (refused env code 0x06000004 env.seq s))))

/-- R213, R312 to R314, R450: an external command that passes its checks has its effect. CalibrationWrite sets a calibration object of a port in Clearing, with the time, the
count and the check value; ConstantsWrite sets a constant of its list; both log the old and the new value. Seal stores the partition, sets the lock latch and
begins its fuses, of which the third makes the unit SEALED. RecordRepair replaces a record whose check value fails, and no other. -/
def Obligations.LegalCommandsTakeEffect : Prop :=
  let passes (s : State) (env : LegalEnv) : Prop := s.dev.heartwoodTakes = true ∧ s.dev.rail .vddMem = true ∧ env.sigOk = true ∧ env.hashOk = true ∧
    (s.dev.keyOf 0x05).isSome = true ∧ s.dev.burlUp = true ∧ s.dev.nat Key.legalSequence < env.seq ∧ s.dev.heart.sealBroken = 0
  let taken (env : LegalEnv) (code : Nat) (t : State) : Prop :=
    t.dev.nat Key.lastLegalCode = code ∧ t.dev.nat Key.lastLegalResult = 0 ∧ t.dev.nat Key.legalSequence = env.seq
  let own : List Nat := [Key.lastLegalCode, Key.lastLegalResult, Key.legalSequence, Key.useCount 0x05]
  let written (s t : State) (k : Nat) (data : Bytes) (r : Row) : Prop :=
    t.dev.val k = r.ty.decode data ∧
    ∃ e : LegalEntry, t.dev.heart.log = e :: s.dev.heart.log.take 32767 ∧ e.code = 0x0306 ∧
      e.data = leBytes 4 (refOf k) ++ padTo 12 (r.ty.encode (s.dev.val k)) ++ padTo 12 data
  (∀ (s : State) (env : LegalEnv) (o : ObjRef) (data : Bytes) (r : Row) (p : Option PortId), passes s env → s.dev.lifecycle ∈ [1, 2] →
    Dev.calibrationPort (keyOfObj o) = some p → rowOf (keyOfObj o) = some r → valueFault (keyOfObj o) r data = none →
    (match p with | some q => s.dev.clearing q | none => s.dev.allClearing) = true →
    (keyOfObj o / 256 ≤ 0x3943 → (s.dev.put (keyOfObj o) (r.ty.decode data)).channelInRange (keyOfObj o / 256 - 0x3900) = true) →
    (0x3984 ≤ keyOfObj o / 256 → keyOfObj o / 256 ≤ 0x3987 → keyOfObj o % 256 < 3) →
    (keyOfObj o / 256 = 0x3989 → (s.dev.put (keyOfObj o) (r.ty.decode data)).edgesRise = true) →
    Completes (.calibrationWrite env o data) s fun t =>
      taken env 1 t ∧ written s t (keyOfObj o) data r ∧ t.dev.nat Key.calibrationTime = s.dev.nowUs ∧
      t.dev.nat Key.calibrationCount = min (s.dev.nat Key.calibrationCount + 1) (Dev.top Key.calibrationCount) ∧
      t.dev.nat Key.calibrationCheck = calibrationValue t.dev ∧ t.dev.heart.calFailed = false ∧
      Only [.heart, .mail, .burl] ([keyOfObj o, Key.calibrationTime, Key.calibrationCount, Key.calibrationCheck] ++ own) s t) ∧
  (∀ (s : State) (env : LegalEnv) (o : ObjRef) (data : Bytes) (r : Row), passes s env → s.dev.lifecycle ∈ [1, 2] →
    keyOfObj o = Key.utilityMeterNumber ∨ keyOfObj o = Key.approvalMark ∨
      ((keyOfObj o = Key.mandatoryCount ∨ keyOfObj o / 256 = 0xF381 ∧ 1 ≤ keyOfObj o % 256 ∧ keyOfObj o % 256 ≤ 0x20) ∧
        (s.dev.put (keyOfObj o) (r.ty.decode data)).itemsComplete = true) →
    rowOf (keyOfObj o) = some r → valueFault (keyOfObj o) r data = none →
    Completes (.constantsWrite env o data) s fun t =>
      taken env 2 t ∧ written s t (keyOfObj o) data r ∧ Only [.heart, .mail, .burl] (keyOfObj o :: own) s t) ∧
  (∀ (s : State) (env : LegalEnv), passes s env → s.dev.lifecycle = 2 → s.dev.allClearing = true →
    calibrationValue s.dev = s.dev.nat Key.calibrationCheck →
    (∀ g : Nat, g < 0x20 → (g = 0x10 ∨ 0x18 ≤ g) → (s.dev.group g).phase ≠ .staging ∧ (s.dev.group g).phase ≠ .committing) →
    s.dev.burl.sealFuses = 0 → s.dev.burl.keyOp = none →
    Completes (.sealCommand env) s fun t =>
      taken env 3 t ∧ t.dev.burl.sealFuses = 1 ∧ t.dev.burl.fuseAt = s.dev.nowMs ∧ t.dev.heart.lockLatch = true ∧ t.dev.nat Key.sealTime = s.dev.nowUs ∧
      (∃ x : Sealed, t.dev.heart.sealedPart = some x ∧ x.sealTime = s.dev.nowUs ∧ t.dev.burl.sealHash = some (t.dev.bytes Key.sealHash) ∧
        t.dev.nat Key.sealedParamCheck = x.check) ∧
      (∃ e : LegalEntry, t.dev.heart.log = e :: s.dev.heart.log.take 32767 ∧ e.code = 0x0601 ∧ e.data = (t.dev.bytes Key.sealHash).take 24) ∧
      Only [.heart, .mail, .burl] ([Key.sealTime, Key.sealHash, Key.sealedParamCheck] ++ own) s t) ∧
  (∀ d : Dev, d.burl.sealFuses = 2 → d.burlUp = true → d.burl.fuseAt + 10 ≤ d.nowMs →
    d.fuseTick.lifecycle = 3 ∧ d.fuseTick.burl.sealFuses = 3 ∧ ∀ k, k ≠ Key.lifecycleState → d.fuseTick.val k = d.val k) ∧
  ∀ (s : State) (env : LegalEnv) (slot : Nat) (record : Bytes) (a : Account), passes s env → s.dev.lifecycle ≤ 3 → record.length = 64 →
    record.drop 60 = [0, 0, 0, 0] → s.dev.acct slot = some a → s.dev.balancesMove = true → (fieldsOf record).status ≠ 0 →
    (a.sound = false → Completes (.recordRepair env slot record) s fun t =>
      taken env 4 t ∧ t.dev.acct slot = some (recordOf (fieldsOf record) (toSigned 64 (leVal ((record.drop 8).take 8)))) ∧
      (∀ k, k ≠ slot → t.dev.acct k = s.dev.acct k) ∧
      (∃ e : LegalEntry, t.dev.heart = { s.dev.heart with log := e :: s.dev.heart.log.take 32767 } ∧ e.code = 0x0505) ∧
      Only [.heart, .mail, .ledger, .burl] own s t) ∧
    (a.sound = true → Completes (.recordRepair env slot record) s fun t =>
      t.dev.nat Key.lastLegalResult = 0x03000003 ∧ t.dev.ledger = s.dev.ledger ∧ Only [.heart, .mail, .burl] (Key.legalRefusedCount :: own) s t)

/-- R319, R325: a record that Burl has signed is in state 3 with its signature, and the next record waiting is taken; one whose signature is refused is logged as 0x0701 and
tried again after 60 s, and the record stays as it was. the inspection sequences, complete on the keypad, show the mandatory items, count for a test, and end the inspection, as code 0x12; 120 s without a key end it too. -/
def Obligations.RecordsAreSignedAndInspectionsShow : Prop :=
  let stands (s : State) (body : List Key) : Prop := s.dev.heartwoodTakes = true ∧ s.dev.power.state ≠ .starting ∧
    s.dev.ledger.keypad.entry = .star :: body ++ [.hash]
  let took (s t : State) (i : Option Inspection) : Prop :=
    t.dev.heart = { s.dev.heart with inspection := i } ∧ t.dev.flag Key.inspectionActive = i.isSome ∧ t.dev.nat Key.lastLegalCode = 0x12 ∧
    t.dev.ledger = { s.dev.ledger with keypad := { s.dev.ledger.keypad with entry := [] } } ∧
    Only [.heart, .ledger] [Key.lastLegalCode, Key.inspectionActive] s t
  (∀ (s : State) (n : Nat) (rest : List Nat) (o : RecordOpening) (b : RecordBody), s.dev.burl.signing = .record → s.dev.heart.signQueue = n :: rest →
    s.dev.burlUp = true → s.dev.heartwoodUp = true → (s.dev.keyOf 0x04).isSome = true →
    s.dev.heart.records.find? (fun (x : Nat × RecordSlot) => x.1 = n % 8192) = some (n % 8192, .stored o b) → b.number = n →
    Completes (.recordSigned true 0) s fun t =>
      (∃ sig, t.dev.heart.records.find? (fun (x : Nat × RecordSlot) => x.1 = n % 8192) = some (n % 8192, .signed b sig)) ∧
      (∀ k, k ≠ n % 8192 → t.dev.heart.records.find? (fun (x : Nat × RecordSlot) => x.1 = k) =
        s.dev.heart.records.find? (fun (x : Nat × RecordSlot) => x.1 = k)) ∧
      t.dev.heart = { s.dev.heart with
        signQueue := rest, records := t.dev.heart.records } ∧
      (rest ≠ [] → s.dev.heart.signRetryAt = none → t.dev.burl.signing = .record) ∧ t.dev.nat (Key.useCount 0x04) = min (s.dev.nat (Key.useCount 0x04) + 1) (Dev.top (Key.useCount 0x04)) ∧
      Only [.heart, .burl] [Key.useCount 0x04] s t) ∧
  (∀ (s : State) (n result : Nat) (rest : List Nat) (ok : Bool), s.dev.burl.signing = .record → s.dev.heart.signQueue = n :: rest →
    s.dev.burlUp = true → s.dev.heartwoodUp = true → s.dev.rail .vddMem = true → ok = false ∨ s.dev.keyOf 0x04 = none →
    Completes (.recordSigned ok result) s fun t =>
      (∃ e : LegalEntry, t.dev.heart = { s.dev.heart with
          log := e :: s.dev.heart.log.take 32767, signRetryAt := some (s.dev.nowMs + 60000) } ∧ e.code = 0x0701 ∧
        e.data = leBytes 4 n ++ leBytes 4 result) ∧
      t.dev.nat Key.signingFailCount = min (s.dev.nat Key.signingFailCount + 1) (Dev.top Key.signingFailCount) ∧
      t.dev.burl.signing ≠ .record ∧ Only [.heart, .burl] [Key.signingFailCount, Key.refusedCount 0x04] s t) ∧
  (∀ (s : State) (at_ : Nat), s.dev.heart.signRetryAt = some at_ → s.dev.heartwoodUp = true → at_ ≤ s.dev.nowMs →
    Completes .signingRetry s fun t =>
      t.dev.heart = { s.dev.heart with signRetryAt := none } ∧
      (s.dev.burlUp = true → s.dev.burl.signing = .idle → s.dev.heart.signQueue ≠ [] → t.dev.burl.signing = .record) ∧ Only [.heart, .burl] [] s t) ∧
  (∀ s : State, stands s [.digit 0] → Completes .inspectionShowItems s fun t =>
    took s t (some ⟨s.dev.nowMs, some 0, (s.dev.heart.inspection.map (·.testCount)).getD none⟩)) ∧
  (∀ (s : State) (p : PortId), stands s [.digit 1, .digit ⟨p, by omega⟩] → Completes (.inspectionTestCount p) s fun t =>
    took s t (some ⟨s.dev.nowMs, (s.dev.heart.inspection.map (·.showing)).getD none, some (p, none)⟩)) ∧
  (∀ s : State, stands s [.digit 9] → Completes .inspectionEnd s fun t => took s t none) ∧
  ∀ (s : State) (i : Inspection), s.dev.heart.inspection = some i → s.dev.powered = true →
    Completes .inspectionTimeout s fun t =>
      if i.lastKey + 120000 ≤ s.dev.nowMs then
        t.dev.heart = { s.dev.heart with inspection := none } ∧ t.dev.flag Key.inspectionActive = false ∧ Only [.heart] [Key.inspectionActive] s t
      else t = s

/-- R34, R36, R37, R177, R328, R356, R359: each tick of I7 gives the arbiter one turn a port. It closes only an AUTHORISED port every condition of which stands, and
raises an enable in no other way; a new cause that stops immediately drops both halves of an AC port in the same turn, one that ramps begins one envelope
from the measured current over RampTime. -/
def Obligations.SafetyTicksGiveTheArbiterItsTurn : Prop :=
  let noTrial (s : State) : Prop := ∀ r ∈ s.dev.update.run, r.phase = .preparing
  (∀ (s : State) (v : TickView), s.dev.powered = true → s.dev.clocks.i7Lost = false → noTrial s →
    Completes (.safetyTick v) s fun t =>
      t.dev.time = { s.dev.time with i7Ticks := s.dev.time.i7Ticks + 1 } ∧
      Within [.free, .out, .obj, .time, .crossings, .cores, .hosts, .heart, .ports, .site, .safety, .energy, .ledger] s t) ∧
  (∀ (s : State) (v : TickView), s.dev.powered = false ∨ s.dev.clocks.i7Lost = true → Completes (.safetyTick v) s fun t => t = s) ∧
  (∀ (d : Dev) (p : PortId), Dev.mayClose p d = true →
    (d.port p).session = .authorised ∧ d.mode p ≠ 0 ∧ d.clocks.checked = true ∧ d.causes p = 0 ∧ (d.port p).start = true ∧ (d.port p).stop = none ∧ (d.port p).level2 = false ∧
    d.running .firebreakA = true ∧ d.running .firebreakB = true ∧ d.heartwoodUp = true ∧
    (d.nat (Key.lockType p) = 0 ∨ (d.port p).lock = .locked) ∧
    ((d.arbiter p).port p).session = .closing ∧ ((d.arbiter p).psafe p).enA = true ∧ ((d.arbiter p).psafe p).enB = true) ∧
  (∀ (d : Dev) (p : PortId), Dev.mayClose p d = false →
    (((d.arbiter p).psafe p).enA = true → (d.psafe p).enA = true) ∧ (((d.arbiter p).psafe p).enB = true → (d.psafe p).enB = true)) ∧
  (∀ (d : Dev) (p : PortId) (b : Nat), b < 21 → (d.port p).session = .energised → d.isDc p = false → d.hasCause p b = true →
    (d.psafe p).ramped.testBit b = false → d.causeKind p b = .immediate →
    ((d.arbiter p).port p).session = .opening ∧ ((d.arbiter p).port p).endReason = 3 ∧ ((d.arbiter p).psafe p).enA = false ∧
    ((d.arbiter p).psafe p).enB = false) ∧
  ∀ (d : Dev) (p : PortId) (b : Nat), b < 21 → (d.port p).session = .energised → d.causes p = 2 ^ b → (d.port p).level2 = false → (d.port p).stop = none →
    d.causeKind p b = .ramp →
    (d.psafe p).ramped = 0 → (d.psafe p).ramps = [] →
    (d.psafe p).zeroAt = none → (d.psafe p).dropAt = none →
    d.measured p ≠ 0 → d.nat (Key.rampTime p) ≠ 0 →
    ((d.arbiter p).psafe p).ramps = [⟨d.measured p, d.tick7, d.nat (Key.rampTime p), 1⟩] ∧ ((d.arbiter p).port p).session = .stopping ∧
    (d.arbiter p).envelope p = some (d.measured p) ∧ ((d.arbiter p).psafe p).enA = (d.psafe p).enA

/-- R330, R334 to R337, R365, R366: a filtered input is shown as it is; a discrepancy latches, raises cause 3 on its ports, is counted; a valid edge of SAFE_RESET raises
nothing and releases what its condition lets go; commissioning takes the check value, then an edge within 60 s, or returns to
UNCONFIRMED. -/
def Obligations.InputsResetsAndCommissioning : Prop :=
  let causeKeys : List Nat := Dev.allPorts.map fun p => Key.level1Causes p
  let up (k : Nat) (s t : State) : Prop := t.dev.nat k = min (s.dev.nat k + 1) (Dev.top k)
  (∀ (s : State) (i : SafetyInput) (level : Bool), s.dev.powered = true → s.dev.clocks.i7Lost = false →
    Completes (.safetyInputChange i level) s fun t =>
      t.dev.nat Key.inputState = setBit (s.dev.nat Key.inputState) (inputBit i) level ∧
      (match i, level with
       | .reset, true => t.dev.safety = { s.dev.safety with resetHigh := some (s.dev.safety.resetHigh.getD s.dev.tick7) } ∧
           Only [.safety] [Key.inputState] s t
       | .reset, false => t.dev.flag Key.resetStuck = false ∧ t.dev.safety.resetHigh = none ∧
           t.dev.safety.edge = (match s.dev.safety.resetHigh with
             | some n => if n + 50 ≤ s.dev.tick7 ∧ s.dev.tick7 ≤ n + 2000 ∧ s.dev.flag Key.resetStuck = false then some n else none
             | none => none) ∧ Only [.safety] [Key.inputState, Key.resetStuck] s t
       | _, _ => Only [] [Key.inputState] s t)) ∧
  (∀ (s : State) (i : Fin 4), s.dev.powered = true → s.dev.clocks.i7Lost = false → s.dev.inputUsed i = true → s.dev.discrepancyT i ≤ s.dev.safety.differ[i] →
    (s.dev.nat Key.discrepancyLatched).testBit i = false →
    Completes (.discrepancyFault i) s fun t =>
      t.dev.nat Key.discrepancyLatched = setBit (s.dev.nat Key.discrepancyLatched) i true ∧ up Key.discrepancyCount s t ∧
      (∀ p ∈ s.dev.inputPorts i, t.dev.hasCause p 3 = true) ∧ (∀ p b, b ≠ 3 → t.dev.hasCause p b = s.dev.hasCause p b) ∧
      Only [.heart] (Key.discrepancyLatched :: Key.discrepancyCount :: causeKeys) s t) ∧
  (∀ (s : State) (rise : Nat), s.dev.safety.edge = some rise →
    Completes .resetEdge s fun t =>
      t.dev.safety.edge = none ∧ up Key.resetEdgeCount s t ∧ t.dev.nat Key.lastResetEdge = s.dev.nowUs ∧
      (∀ p b, t.dev.hasCause p b = true → s.dev.hasCause p b = true) ∧
      (∀ p b, b ∉ 1 :: edgeCauses → t.dev.hasCause p b = s.dev.hasCause p b) ∧
      (∀ p, t.dev.hasCause p 2 = (s.dev.hasCause p 2 && !s.dev.inputClosed 0)) ∧
      (∀ p, t.dev.hasCause p 4 = (s.dev.hasCause p 4 && !s.dev.inputClosed 1)) ∧
      (if s.dev.nat Key.commissionState = 1 ∧ s.dev.tick7 ≤ s.dev.safety.awaitAt + 60000 then
        t.dev.nat Key.commissionState = 2 ∧ t.dev.nat Key.confirmedCheck = s.dev.nat Key.computedCheck ∧
        t.dev.nat Key.commissionedAt = s.dev.nowUs ∧ ∀ p, t.dev.hasCause p 1 = false
      else t.dev.nat Key.commissionState = s.dev.nat Key.commissionState ∧ ∀ p, t.dev.hasCause p 1 = s.dev.hasCause p 1) ∧
      Within [.obj, .heart, .ports, .safety] s t) ∧
  (∀ s : State, s.dev.safety.edge = none → Completes .resetEdge s fun t => t = s) ∧
  (∀ (s : State) (n : Nat), s.dev.safety.resetHigh = some n → s.dev.powered = true → s.dev.clocks.i7Lost = false → n + 2000 ≤ s.dev.tick7 → s.dev.flag Key.resetStuck = false →
    Completes .resetStuck s fun t =>
      t.dev.flag Key.resetStuck = true ∧ up Key.resetStuckCount s t ∧
      (∃ e : GenEntry, e.event = .note 3 [] ∧ t.dev.heart = { s.dev.heart with general := e :: s.dev.heart.general.take 98303 }) ∧
      Only [.heart] [Key.resetStuck, Key.resetStuckCount] s t) ∧
  (∀ (s : State) (m : HostMsg) (data : Bytes), s.dev.grants m = true → takes Key.confirmCheck data = true →
    let right := sentValue Key.confirmCheck data = .int (s.dev.int Key.computedCheck)
    let abort (c : Nat) (t : State) : Prop := Served m (.abort c Key.confirmCheck) []
      [Key.lastAbortCode, Key.lastAbortObject, Key.lastAbortHost, Key.abortCount] s t
    (s.dev.nat Key.commissionState ≠ 0 → Completes (.confirmCheck m data) s (abort Code.notClearing)) ∧
    (s.dev.nat Key.commissionState = 0 → ¬ right → Completes (.confirmCheck m data) s (abort Code.checkMismatch)) ∧
    (s.dev.nat Key.commissionState = 0 → right → Completes (.confirmCheck m data) s fun t =>
      t.dev.nat Key.commissionState = 1 ∧ t.dev.safety = { s.dev.safety with awaitAt := s.dev.tick7 } ∧
      Served m (.done Key.confirmCheck) [.safety] [Key.commissionState] s t)) ∧
  ∀ s : State, s.dev.powered = true → s.dev.clocks.i7Lost = false → s.dev.nat Key.commissionState = 1 →
    Completes .confirmTimeout s fun t =>
      if s.dev.safety.awaitAt + 60000 ≤ s.dev.tick7 then
        t.dev.nat Key.commissionState = 0 ∧ (∀ p, t.dev.hasCause p 1 = true) ∧ t.dev.nat Key.safeOut = 0 ∧
        Only [.heart] (Key.commissionState :: Key.safeOut :: causeKeys) s t
      else t = s

/-- R339 to R343: a residual current that meets a criterion, a residual-current self-test outside 7 to 13 mA, insulation below its limit and a PEN
voltage at its limit each raise their cause on their ports and are shown and counted; below the criterion nothing changes. -/
def Obligations.CurrentAndInsulationHazards : Prop :=
  let up (k : Nat) (s t : State) : Prop := t.dev.nat k = min (s.dev.nat k + 1) (Dev.top k)
  let others (p : PortId) (s t : State) : Prop := ∀ q, q ≠ p → t.dev.causes q = s.dev.causes q ∧ t.dev.psafe q = s.dev.psafe q
  let limit (d : Dev) (p : PortId) : RcdCriterion → Nat × Nat
    | .dcSlow => (4500, 500) | .dcFast => (45000, 40) | .anyRms => (150000, 3) | .acRms => (800 * d.nat (Key.rcdAcTrip p), 5)
  (∀ (s : State) (p : PortId) (c : RcdCriterion) (x : Int) (n : Nat), s.dev.powered = true → s.dev.clocks.i7Lost = false → s.dev.flag (Key.rcdEnable p) = true →
    s.dev.hasCause p 7 = false →
    Completes (.residualCurrentTrip p c x n) s fun t =>
      if (limit s.dev p c).1 ≤ x.natAbs ∧ (limit s.dev p c).2 ≤ n then
        t.dev.hasCause p 7 = true ∧ up Key.residualTripCount s t ∧ others p s t ∧ Only [.heart] [Key.residualTripCount, Key.level1Causes p] s t
      else t = s) ∧
  (∀ (s : State) (p : PortId), s.dev.powered = true → s.dev.clocks.i7Lost = false → s.dev.clearing p = true → (s.dev.psafe p).rcdRun = none →
    (s.dev.psafe p).rcdPass = none →
    Completes (.rcdSelfTest p) s fun t =>
      t.dev.psafe p = { s.dev.psafe p with rcdRun := some s.dev.tick7 } ∧ others p s t ∧ Only [.safety] [] s t) ∧
  (∀ (s : State) (p : PortId) (x n : Nat), s.dev.powered = true → s.dev.clocks.i7Lost = false → (s.dev.psafe p).rcdRun = some n → n + 100 ≤ s.dev.tick7 →
    Completes (.rcdSelfTestDone p x) s fun t =>
      (if 7000 ≤ x ∧ x ≤ 13000 then
        t.dev.nat (Key.rcdTestResult p) = 1 ∧ t.dev.psafe p = { s.dev.psafe p with
          rcdRun := none, rcdPass := some s.dev.tick7 } ∧ t.dev.causes p = s.dev.causes p
      else t.dev.nat (Key.rcdTestResult p) = 2 ∧ t.dev.psafe p = { s.dev.psafe p with rcdRun := none } ∧ t.dev.hasCause p 8 = true) ∧
      others p s t ∧ Only [.heart, .safety] [Key.rcdTestResult p, Key.level1Causes p] s t) ∧
  (∀ (s : State) (p : PortId) (ohms : Nat), s.dev.auxUp = true → s.dev.isDc p = true → s.dev.flag (Key.imdEnable p) = true →
    (s.dev.port p).session = .energised → (s.dev.psafe p).isoPassed = false → s.dev.hasCause p 9 = false →
    Completes (.isolationTest p ohms) s fun t =>
      let u := s.dev.testVoltage p * 100
      t.dev.nat (Key.insulationResistance p) = min (ohms / 1000) 0xFFFFFFFE ∧
      (if ohms * 1000 < s.dev.nat (Key.imdFault p) * u then t.dev.hasCause p 9 = true ∧ t.dev.psafe p = { s.dev.psafe p with imdU := u, imdOhms := ohms }
      else t.dev.causes p = s.dev.causes p ∧ t.dev.psafe p = { s.dev.psafe p with
        isoPassed := true, imdLow := 0, imdOhms := ohms }) ∧
      others p s t ∧ Only [.heart, .safety] [Key.insulationResistance p, Key.insulationTripCount, Key.level1Causes p] s t) ∧
  (∀ (s : State) (p : PortId) (ohms mv : Nat), s.dev.auxUp = true → s.dev.isDc p = true → s.dev.flag (Key.imdEnable p) = true →
    (s.dev.port p).session = .energised →
    Completes (.insulationEvaluation p ohms mv) s fun t =>
      let n := if ohms * 1000 < s.dev.nat (Key.imdFault p) * mv then (s.dev.psafe p).imdLow + 1 else 0
      t.dev.nat (Key.insulationResistance p) = min (ohms / 1000) 0xFFFFFFFE ∧ (t.dev.psafe p).imdLow = n ∧ (t.dev.psafe p).imdOhms = ohms ∧
      (if 2 ≤ n then t.dev.hasCause p 9 = true else t.dev.causes p = s.dev.causes p) ∧
      others p s t ∧ Only [.heart, .safety] [Key.insulationResistance p, Key.insulationTripCount, Key.level1Causes p] s t) ∧
  (∀ (s : State) (p : PortId) (ok : Bool), s.dev.auxUp = true → s.dev.isDc p = true → s.dev.flag (Key.imdEnable p) = true →
    Completes (.imdLoopbackTest p ok) s fun t =>
      t.dev.psafe p = { s.dev.psafe p with loopFail := !ok } ∧ (if ok = true then t.dev.causes p = s.dev.causes p else t.dev.hasCause p 9 = true) ∧
      others p s t ∧ Only [.heart, .safety] [Key.insulationTripCount, Key.level1Causes p] s t) ∧
  ∀ (s : State) (mv n : Nat), s.dev.powered = true → s.dev.clocks.i7Lost = false →
    Completes (.penFault mv n) s fun t =>
      if s.dev.nat Key.penLimit ≤ mv ∧ 5 ≤ n then
        (∀ p, t.dev.hasCause p 10 = true ∧ ∀ b, b ≠ 10 → t.dev.hasCause p b = s.dev.hasCause p b) ∧ t.dev.nat Key.penRms = mv ∧
        t.dev.safety = { s.dev.safety with penBelowAt := none } ∧
        Only [.heart, .safety] (Key.penRms :: Key.penTripCount :: Dev.allPorts.map fun p => Key.level1Causes p) s t
      else t = s

/-- R345, R346, R350, R353, R358: a temperature reading is shown and counted towards its trip; three over the limit raise cause 12, an open or shorted sensor and one
without a reading for 300 ticks cause 13. Grid loss stops the ports that export, and only those, until the grid has been good. A cleared contactor fault
waits for its edge; a follow fault opens the port. -/
def Obligations.TemperatureGridAndContactors : Prop :=
  let on (d : Dev) (k : Fin 16) (p : PortId) : Prop := d.nat (Key.sensorPort k) = p ∨ d.nat (Key.sensorPort k) = 8
  let causeKeys : List Nat := Dev.allPorts.map fun p => Key.level1Causes p
  (∀ (s : State) (k : Fin 16) (ohms : Nat) (x : Int), s.dev.auxUp = true → s.dev.nat (Key.sensorPort k) ≤ 8 → 500 ≤ ohms → ohms ≤ 2400 →
    Completes (.pt1000Reading k ohms x) s fun t =>
      let old := s.dev.safety.sensors[k]
      let new := t.dev.safety.sensors[k]
      t.dev.int (Key.sensorTemperature k) = x ∧ t.dev.nat (Key.sensorState k) = 0 ∧ new.seenAt = s.dev.tick7 ∧
      new.overRun = (if s.dev.int (Key.tripLimit k) ≤ x then satAdd 8 old.overRun 1 else 0) ∧
      new.underRun = (if x < s.dev.int (Key.tripLimit k) - 50 then satAdd 8 old.underRun 1 else 0) ∧
      new.tripped = (old.tripped && decide (new.underRun < 10)) ∧ new.openRun = 0 ∧ new.shortRun = 0 ∧
      (∀ j, j ≠ k → t.dev.safety.sensors[j] = s.dev.safety.sensors[j]) ∧
      (∀ p b, b ≠ 12 → t.dev.hasCause p b = s.dev.hasCause p b) ∧ (∀ p, t.dev.hasCause p 12 = true → s.dev.hasCause p 12 = true) ∧
      Within [.obj, .heart, .ports, .safety] s t) ∧
  (∀ (s : State) (k : Fin 16), s.dev.powered = true → s.dev.clocks.i7Lost = false → s.dev.nat (Key.sensorPort k) ≤ 8 →
    let x := s.dev.safety.sensors[k]
    Completes (.temperatureTrip k) s fun t =>
      t.dev.safety = (if 3 ≤ x.overRun then { s.dev.safety with sensors := s.dev.safety.sensors.set k { x with tripped := true } } else s.dev.safety) ∧
      t.dev.nat (Key.sensorState k) = (if 3 ≤ x.openRun then 1 else if 3 ≤ x.shortRun then 2 else s.dev.nat (Key.sensorState k)) ∧
      (∀ p, on s.dev k p → (3 ≤ x.overRun → t.dev.hasCause p 12 = true) ∧ (3 ≤ x.openRun ∨ 3 ≤ x.shortRun → t.dev.hasCause p 13 = true)) ∧
      (∀ p, ¬ on s.dev k p → t.dev.causes p = s.dev.causes p) ∧ Only [.heart, .safety] (Key.sensorState k :: causeKeys) s t) ∧
  (∀ (s : State) (k : Fin 16), s.dev.powered = true → s.dev.clocks.i7Lost = false → s.dev.nat (Key.sensorPort k) ≤ 8 → s.dev.safety.sensors[k].seenAt + 300 ≤ s.dev.tick7 →
    Completes (.sensorStale k) s fun t =>
      t.dev.nat (Key.sensorState k) = 4 ∧ (∀ p, on s.dev k p → t.dev.hasCause p 13 = true) ∧
      (∀ p, ¬ on s.dev k p → t.dev.causes p = s.dev.causes p) ∧ Only [.heart] (Key.sensorState k :: causeKeys) s t) ∧
  (∀ (s : State) (m : HostMsg) (p : PortId) (data : Bytes), s.dev.grants m = true → takes (Key.contactorFaultClear p) data = true →
    let open_ : Bool := !(s.dev.psafe p).fbA && !(s.dev.psafe p).fbB && (s.dev.isDc p || decide (s.dev.portVolts p < 50000))
    Completes (.contactorFaultClear m p data) s fun t =>
      if open_ = true then t.dev.psafe p = { s.dev.psafe p with cleared := true } ∧ (∀ q, q ≠ p → t.dev.psafe q = s.dev.psafe q) ∧
        Served m (.done (Key.contactorFaultClear p)) [.safety] [] s t
      else Served m (.abort Code.notClearing (Key.contactorFaultClear p)) []
        [Key.lastAbortCode, Key.lastAbortObject, Key.lastAbortHost, Key.abortCount] s t) ∧
  (∀ (s : State) (c : GridCriterion), s.dev.powered = true → s.dev.clocks.i7Lost = false →
    Completes (.gridLoss c) s fun t =>
      t.dev.nat Key.gridState = (match c with | .low => 1 | .high => 2 | .frequency => 3) ∧ t.dev.safety.gridGoodAt = none ∧
      t.dev.nat Key.gridLossCount = min (s.dev.nat Key.gridLossCount + 1) (Dev.top Key.gridLossCount) ∧
      (∀ p, gridExporting s.dev p = true → t.dev.hasCause p 15 = true ∧ (s.dev.isDc p = false →
        (t.dev.psafe p).enA = false ∧ (t.dev.psafe p).enB = false ∧ (t.dev.port p).session = .opening)) ∧
      (∀ p, gridExporting s.dev p = false → t.dev.causes p = s.dev.causes p ∧ t.dev.psafe p = s.dev.psafe p ∧
        (t.dev.port p).session = (s.dev.port p).session) ∧
      Within [.out, .obj, .heart, .ports, .site, .safety] s t) ∧
  (∀ (s : State) (n : Nat), s.dev.safety.gridGoodAt = some n → s.dev.powered = true → s.dev.clocks.i7Lost = false → s.dev.nat Key.gridState ≠ 0 →
    n + 1000 * s.dev.nat Key.gridReconnectS ≤ s.dev.tick7 →
    Completes .gridReconnect s fun t =>
      t.dev.nat Key.gridState = 0 ∧ (∀ p, t.dev.hasCause p 15 = false ∧ ∀ b, b ≠ 15 → t.dev.hasCause p b = s.dev.hasCause p b) ∧
      Only [.heart, .safety] (Key.gridState :: causeKeys) s t) ∧
  ∀ (s : State) (p : PortId), s.dev.powered = true → s.dev.clocks.i7Lost = false → (s.dev.port p).session = .stopping → 5 ≤ (s.dev.psafe p).follow →
    Completes (.followFault p) s fun t =>
      (t.dev.port p).session = .opening ∧ (t.dev.psafe p).enB = false ∧ (t.dev.psafe p).enA = (s.dev.psafe p).enA ∧
      (t.dev.psafe p).openingAt = some s.dev.tick7 ∧ (∀ q, q ≠ p → t.dev.psafe q = s.dev.psafe q) ∧ OnlyPilots p s t ∧
      Only [.heart, .ports, .safety] [] s t

/-- R38, R329, R332, R362, R364, R367: a Firebreak fault and an output fault open every port at once, set SAFE_OUT low, raise causes 18 and 0 on every port they
concern, restart the channel, and are counted. A test pulse that reads back low, and two check values that agree, change nothing but their own record. -/
def Obligations.FirebreakFaultsOpenEveryPort : Prop :=
  let noTrial (s : State) : Prop := ∀ r ∈ s.dev.update.run, r.phase = .preparing
  let parts : List Part := [.free, .obj, .crossings, .cores, .heart, .ports, .safety]
  let low (t : State) : Prop := (∀ p, (t.dev.psafe p).enA = false ∧ (t.dev.psafe p).enB = false) ∧ t.dev.nat Key.safeOut = 0
  let faulted (a b : Bool) (s t : State) : Prop :=
    t.dev.safety.firebreakFault = true ∧ low t ∧ (∀ p, t.dev.hasCause p 18 = true ∧ t.dev.hasCause p 0 = true) ∧
    t.dev.running .firebreakA = (!a && s.dev.running .firebreakA) ∧ t.dev.running .firebreakB = (!b && s.dev.running .firebreakB) ∧
    t.dev.nat Key.firebreakFaultCount = min (s.dev.nat Key.firebreakFaultCount + 1) (Dev.top Key.firebreakFaultCount) ∧ Within parts s t
  let outFault (o : OsOutput) (s t : State) : Prop :=
    low t ∧ o ∈ t.dev.safety.outFaults ∧ (∀ p, t.dev.hasCause p 0 = true) ∧
    (∀ p, (match o with | .contEn q _ => p = q | .safeOut _ => True) → t.dev.hasCause p 18 = true) ∧
    t.dev.running (if Dev.outputChannel o then .firebreakB else .firebreakA) = false ∧
    t.dev.nat Key.outputFaultCount = min (s.dev.nat Key.outputFaultCount + 1) (Dev.top Key.outputFaultCount) ∧ Within parts s t
  (∀ (s : State) (r : FbFault), s.dev.powered = true → s.dev.clocks.i7Lost = false → noTrial s →
    (match r with
     | .messageMissing b => 3 ≤ (if b then s.dev.safety.missingB else s.dev.safety.missingA)
     | .viewsDiffer => 3 ≤ s.dev.safety.viewsDiffer
     | .checksDiffer => s.dev.safety.checkA ≠ s.dev.safety.checkB
     | .causesDiffer => ∃ p : Fin 8, 1000 ≤ s.dev.safety.causesDiffer[p]
     | .tickGap => True
     | .selfTest => True) →
    Completes (.firebreakFault r) s (faulted true (decide (r ≠ .tickGap)) s)) ∧
  (∀ (s : State) (o : OsOutput) (n : Nat), s.dev.powered = true → s.dev.clocks.i7Lost = false → noTrial s → (o, n) ∈ s.dev.safety.outDiffer → 2 ≤ n →
    Completes (.outputFault o) s (outFault o s)) ∧
  (∀ s : State, ∀ o : OsOutput, (∀ x ∈ s.dev.safety.outDiffer, x.1 = o → x.2 < 2) → Completes (.outputFault o) s fun t => t = s) ∧
  (∀ (s : State) (o : OsOutput) (ok : Bool), s.dev.powered = true → s.dev.clocks.i7Lost = false → noTrial s → s.dev.flag Key.outputTestPulse = true →
    outputHigh s.dev o = true → s.dev.safety.pulseAt = 0 ∨ s.dev.safety.pulseAt + 100 ≤ s.dev.tick7 →
    Completes (.outputTestPulse o ok) s fun t =>
      t.dev.safety.pulseAt = s.dev.tick7 ∧ (if ok = true then t.dev.safety = { s.dev.safety with pulseAt := s.dev.tick7 } ∧ Only [.safety] [] s t
      else outFault o s t)) ∧
  (∀ (s : State) (b : Bool) (n : Nat), s.dev.powered = true → noTrial s → (if b then s.dev.safety.restartB else s.dev.safety.restartA) = some n →
    n + 150 ≤ s.dev.tick7 → s.dev.running (if b then .firebreakB else .firebreakA) = false →
    Completes (.firebreakRestartTimeout b) s (faulted (!b) b s)) ∧
  ∀ (s : State) (a b : Word), s.dev.powered = true → s.dev.running .firebreakA = true → s.dev.running .firebreakB = true → noTrial s →
    Completes (.checkValueSelfTest a b) s fun t =>
      t.dev.safety.checkA = a.toNat ∧ t.dev.safety.checkB = b.toNat ∧
      (if a = b then t.dev.safety = { s.dev.safety with
          checkA := a.toNat, checkB := b.toNat } ∧ Only [.safety] [] s t
      else faulted true true s t)

/-- R370, R382, R383, R390 to R393, R398, R399: the node leaves the air out of range and listens within it; every mains cycle counts the grid cycle number on; the
coordinator sends its beacon and NIF; a member follows them, and eight beacons missed in a row detach it; the stronger coordinator stays. -/
def Obligations.CanopyNodesKeepTheGrid : Prop :=
  let left (next : NodeState) (s t : State) : Prop :=
    t.dev.canopy.node = next ∧ t.dev.canopy.valid = false ∧ t.dev.canopy.queue = [] ∧ (∀ n : Fin 128, t.dev.canopy.neigh[n] = none) ∧
    t.dev.nat Key.shortAddress = 0x7FE ∧ Within [.obj, .crossings, .burl, .canopy] s t
  let joined (x : NodeState) : Bool := decide (x = .member ∨ x = .coordinator)
  (∀ s : State, s.dev.canopyUp = true →
    (s.dev.canopyRange = false → s.dev.canopy.node ≠ .off → Completes .canopyRangeChange s (left .off s)) ∧
    (s.dev.canopyRange = true → s.dev.canopy.node = .off → Completes .canopyRangeChange s (left .listening s)) ∧
    ((s.dev.canopyRange = true ↔ s.dev.canopy.node ≠ .off) → Completes .canopyRangeChange s fun t => t = s)) ∧
  (∀ s : State, s.dev.canopyUp = true → s.dev.canopy.node ≠ .off → ¬ ((s.dev.canopy.cyc + 1) % 64 = 0 ∧ s.dev.passes 0x1B = true ∧ s.dev.canopy.yields = true) →
    Completes .networkCrossing s fun t =>
      let c := s.dev.canopy
      t.dev.canopy.gcn = (if c.known then (c.gcn + 1) % 2 ^ 48 else c.gcn) ∧ t.dev.canopy.cyc = (c.cyc + 1) % 64 ∧
      t.dev.canopy.sf = (if (c.cyc + 1) % 64 = 0 ∧ s.dev.passes 0x1B = true then c.sf + 1 else c.sf) ∧
      t.dev.canopy.valid = (c.known && !c.gap && joined c.node) ∧ t.dev.canopy.gap = false ∧ t.dev.canopy.node = c.node ∧
      t.dev.canopy.queue = c.queue ∧ t.dev.canopy.neigh = c.neigh ∧ Within [.obj, .crossings, .heart, .energy, .tariff, .update, .canopy] s t) ∧
  (∀ s : State, s.dev.canopyUp = true → s.dev.canopy.node ≠ .off → (s.dev.canopy.cyc + 1) % 64 = 0 → s.dev.passes 0x1B = true →
    s.dev.canopy.yields = true →
    Completes .networkCrossing s (left .listening s)) ∧
  (∀ (s : State) (omitted : Bool), s.dev.canopyUp = true → s.dev.passes 0x19 = true → s.dev.passes 0x1B = true → s.dev.canopyRange = true →
    s.dev.canopy.node = .coordinator → s.dev.canopy.cyc = 0 → 64 ≤ s.dev.canopy.sinceBeacon →
    Completes (.beaconSend omitted) s fun t =>
      let sf := s.dev.canopy.gcn / 64 % 256
      let nif : Bool := !omitted && decide (sf % max 1 (s.dev.nat Key.nifInterval) = 0)
      t.dev.canopy.sinceBeacon = 0 ∧ t.dev.canopy.nifFollows = nif ∧
      t.dev.canopy.drezu = s.dev.flag Key.drezuMode ∧ t.dev.canopy.resume = false ∧
      t.dev.out = (if omitted then s.dev.out else s.dev.out ++ [.beacon (s.dev.nat Key.networkId) nif (s.dev.flag Key.drezuMode) sf
        (beaconSymbols (Dev.beaconBody (s.dev.nat Key.networkId) nif (s.dev.flag Key.drezuMode) sf))]) ∧
      Only [.out, .canopy] [] s t) ∧
  (∀ (s : State) (network : Fin 4096) (nif drezu : Bool) (x : Fin 256) (delta : Nat), s.dev.canopyHears = true → s.dev.passes 0x1B = true →
    s.dev.canopyRange = true →
    (s.dev.canopy.node = .listening → Completes (.beaconReceive network nif drezu x delta) s fun t =>
      t.dev.canopy.heard = some network.val ∧ t.dev.canopy.sinceBeacon = 0 ∧ t.dev.canopy.cyc = 0 ∧ t.dev.canopy.node = .listening ∧
      Only [.canopy] [] s t) ∧
    (s.dev.canopy.node = .member → s.dev.canopy.heard = some network.val → Completes (.beaconReceive network nif drezu x delta) s fun t =>
      t.dev.canopy.sinceBeacon = 0 ∧ t.dev.canopy.cyc = 0 ∧ t.dev.nat Key.missedBeaconRun = 0 ∧ t.dev.canopy.drezu = drezu ∧
      t.dev.canopy.node = .member ∧ t.dev.canopy.gcn = s.dev.canopy.gcn ∧ Within [.free, .obj, .canopy] s t) ∧
    (s.dev.canopy.node = .member → s.dev.canopy.heard ≠ some network.val → Completes (.beaconReceive network nif drezu x delta) s fun t => t = s)) ∧
  (∀ s : State, s.dev.canopyUp = true → s.dev.canopy.node = .member ∨ s.dev.canopy.node = .joining → 65 ≤ s.dev.canopy.sinceBeacon →
    Completes .beaconMissed s fun t =>
      let n := min (s.dev.nat Key.missedBeaconRun + 1) (Dev.top Key.missedBeaconRun)
      if 8 ≤ n then left .listening s t
      else t.dev.nat Key.missedBeaconRun = n ∧ t.dev.canopy = { s.dev.canopy with sinceBeacon := 1 } ∧ Only [.canopy] [Key.missedBeaconRun] s t) ∧
  (∀ s : State, s.dev.canopyTalks = true → s.dev.canopyRange = true → s.dev.canopy.node = .coordinator → s.dev.canopy.cyc = 1 →
    s.dev.canopy.nifFollows = true → s.dev.byAddr 0x7FF = none → s.dev.burl.broadcast.isSome = true →
    Completes .nifSend s fun t =>
      t.dev.canopy.nifFollows = false ∧
      (∃ (counter : Nat) (p : NifPayload) (air : List Sym), t.dev.out = s.dev.out ++
          [.canopy (s.dev.nat Key.shortAddress) 0x7FF 0 false 0 (some counter) (.nif p) air] ∧
        p.gcn = s.dev.canopy.gcn / 64 * 64 ∧ p.network.val = s.dev.nat Key.networkId % 4096 ∧ p.discontinuous = s.dev.canopy.gap ∧
        p.coordLong = s.dev.ownLong ∧ p.utcValid = !s.dev.time.unknown) ∧
      Only [.out, .canopy] [Key.headroomUse, Key.framesSent] s t) ∧
  (∀ (s : State) (f : CnpFrame) (p : NifPayload), s.dev.canopyHears = true → s.dev.canopyRange = true → f.bodyOk = true → f.micOk = true →
    (s.dev.canopy.node = .listening → s.dev.canopy.heard = some p.network.val → 64 ≤ s.dev.canopy.listened → s.dev.canopyHeld = false →
      Completes (.nif f p) s fun t =>
        t.dev.canopy.node = .joining ∧ t.dev.nat Key.networkId = p.network.val ∧
        (∃ nonce prev, t.dev.canopy.queue = s.dev.canopy.queue ++
          [⟨0, .joinRequest s.dev.ownLong nonce prev 7 0x10, false, 0, 4, 0⟩]) ∧ Only [.free, .canopy] [Key.networkId] s t) ∧
    (s.dev.canopy.node = .coordinator → s.dev.canopy.heard = some p.network.val → p.network.val ≠ s.dev.nat Key.networkId →
      s.dev.canopy.yields = false →
      Completes (.nif f p) s fun t =>
        if 0x10 < p.rank.val ∨ p.rank.val = 0x10 ∧ leVal p.coordLong < leVal s.dev.ownLong then
          t.dev.canopy = { s.dev.canopy with yields := true } ∧
          t.dev.nat Key.electionCount = min (s.dev.nat Key.electionCount + 1) (Dev.top Key.electionCount) ∧ Only [.canopy] [Key.electionCount] s t
        else t = s)) ∧
  (∀ (s : State) (f : CnpFrame) (p : NifPayload) (n : Fin 128) (x : Neigh) (w : Nat × Nat), s.dev.canopyHears = true → s.dev.canopyRange = true →
    s.dev.holdsMap f = true → s.dev.keyLoaded f n = true → s.dev.canopy.node = .member → p.network.val = s.dev.nat Key.networkId → f.dst.val = 0x7FF → s.dev.nat Key.shortAddress ≠ 0x7FF →
    f.bodyOk = true → f.secured = true → f.micOk = true → s.dev.byAddr f.src = some n → s.dev.canopy.neigh[n] = some x →
    Dev.counterWindow x.high x.window f.counter.toNat = some w →
    Completes (.nif f p) s fun t =>
      t.dev.canopy.gcn = (p.gcn + s.dev.canopy.cyc) % 2 ^ 48 ∧ t.dev.canopy.known = true ∧ t.dev.canopy.drezu = p.drezu ∧
      t.dev.canopy.reservations = p.reservations ∧ t.dev.bytes Key.coordinatorLong = p.coordLong ∧ t.dev.nat Key.coordinatorRank = p.rank.val ∧
      (p.utcValid = false ∨ s.dev.flag Key.timeFromCanopy = false → t.dev.time = s.dev.time) ∧ t.dev.canopy.node = .member ∧
      Within [.obj, .time, .crossings, .canopy] s t) ∧
  (∀ (s : State) (random : Nat), s.dev.canopyUp = true → s.dev.burlUp = true → s.dev.canopyRange = true → s.dev.canopy.node = .listening → s.dev.canopyHeld = false →
    s.dev.flag Key.coordinatorAllowed = true → random < 64 → 192 + random ≤ s.dev.canopy.sinceBeacon →
    Completes (.coordinatorStart random) s fun t =>
      t.dev.canopy.node = .coordinator ∧ t.dev.canopy.gcn % 64 = 0 ∧ t.dev.canopy.valid = true ∧ t.dev.nat Key.shortAddress = 0 ∧
      t.dev.nat Key.gridCycleNumber = t.dev.canopy.gcn ∧ t.dev.bytes Key.coordinatorLong = s.dev.ownLong ∧
      (s.dev.nat Key.preferredNetworkId ≠ 0 → t.dev.nat Key.networkId = s.dev.nat Key.preferredNetworkId) ∧
      Within [.obj, .crossings, .burl, .canopy] s t) ∧
  ∀ s : State, s.dev.canopyHears = true → s.dev.canopy.node ≠ .off →
    Completes .canopyHeaderFail s fun t =>
      t.dev.nat Key.headerFailCount = min (s.dev.nat Key.headerFailCount + 1) (Dev.top Key.headerFailCount) ∧ Only [] [Key.headerFailCount] s t

/-- R398, R400, R402, R403, R407: the coordinator gives a node that asks the address it may have, with a link key, and refuses one that holds another address, one
in a full network, and one that finds no admission key (that this is reason 2 is the model's choice, log entry 79); the node takes the address, and gives up after four
requests; LEAVE, REJOIN and a lapse release it; a link is keyed by its exchange. -/
def Obligations.CanopyNodesJoinAndLeave : Prop :=
  let left (s t : State) : Prop :=
    t.dev.canopy.node = .listening ∧ t.dev.canopy.valid = false ∧ t.dev.canopy.queue = [] ∧ (∀ n : Fin 128, t.dev.canopy.neigh[n] = none) ∧
    t.dev.nat Key.shortAddress = 0x7FE
  let parts : List Part := [.obj, .crossings, .burl, .canopy]
  let linked (s t : State) (long : Bytes) (addr : Nat) : Prop :=
    (∃ x, t.dev.canopy.neigh[s.dev.contextFor long] = some x ∧ x.long = long ∧ x.addr = addr ∧ x.counter = 0 ∧ x.high = 0) ∧
    (∀ n : Fin 128, n ≠ s.dev.contextFor long → (t.dev.canopy.neigh[n]).map (fun x => { x with maxPay := 0 }) =
      (s.dev.canopy.neigh[n]).map (fun x => { x with maxPay := 0 }))
  let bumped (k : Nat) (s t : State) : Prop := t.dev.nat k = min (s.dev.nat k + 1) (Dev.top k)
  let known (d : Dev) (f : CnpFrame) (n : Fin 128) (x : Neigh) : Prop := d.canopyHears = true ∧ d.holdsMap f = true ∧ f.dst.val = d.nat Key.shortAddress ∧ f.bodyOk = true ∧
    d.byAddr f.src = some n ∧ d.canopy.neigh[n] = some x ∧ x.rxSeq ≠ some f.seq.val
  let turned (long : Bytes) (src reason : Nat) (keys : List Nat) (s t : State) : Prop :=
    t.dev.canopy = { s.dev.canopy with queue := s.dev.canopy.queue ++ [⟨src, .joinRefuse long reason, false, 0, 4, 0⟩] } ∧
    Only [.canopy] (Key.framesReceived :: keys) s t
  (∀ (s : State) (f : CnpFrame) (long nonce own : Bytes) (previous : Nat) (caps : BitVec 8) (r : Fin 256), s.dev.canopyHears = true →
    s.dev.burlUp = true → s.dev.holdsMap f = true → s.dev.canopy.node = .coordinator → f.dst.val = 0 ∨ f.dst.val = 0x7FF → f.bodyOk = true → s.dev.heldAddress long = none →
    let addr := if 1 ≤ previous ∧ previous ≤ 0x3FF ∧ s.dev.addrFree previous = true then some previous else s.dev.freeAddress
    (addr = none → Completes (.joinRequest f long nonce previous caps r own) s (turned long f.src.val 1 [] s)) ∧
    (s.dev.keyOf 0x08 = none → addr.isSome = true →
      Completes (.joinRequest f long nonce previous caps r own) s (turned long f.src.val 2 [Key.refusedCount 0x08] s)) ∧
    (∀ a ∈ addr, (s.dev.keyOf 0x08).isSome = true → Completes (.joinRequest f long nonce previous caps r own) s fun t =>
      linked s t long a ∧ t.dev.canopy.queue = s.dev.canopy.queue ++
        [⟨f.src.val, .joinAccept own long a (s.dev.nat Key.networkId) s.dev.canopy.gcn 0x10, false, 0, 4, 0⟩] ∧
      t.dev.canopy.node = .coordinator ∧ bumped (Key.useCount 0x08) s t ∧
      Only [.burl, .canopy] [Key.framesReceived, Key.useCount 0x08] s t)) ∧
  (∀ (s : State) (f : CnpFrame) (long nonce own : Bytes) (previous : Nat) (caps : BitVec 8) (r : Fin 256) (n : Fin 128) (x : Neigh),
    s.dev.canopyHears = true → s.dev.burlUp = true → s.dev.holdsMap f = true → s.dev.canopy.node = .coordinator →
    f.dst.val = 0 ∨ f.dst.val = 0x7FF → f.bodyOk = true → s.dev.byLong long = some n →
    s.dev.canopy.neigh[n] = some x → x.addr ≠ previous →
    Completes (.joinRequest f long nonce previous caps r own) s (turned long f.src.val 3 [] s)) ∧
  (∀ (s : State) (f : CnpFrame) (nonce long : Bytes) (a : Fin 2048) (network : Fin 4096) (gcn : Nat) (rank : Fin 256), s.dev.canopyHears = true →
    s.dev.holdsMap f = true → s.dev.canopy.node = .joining → s.dev.nat Key.shortAddress = 0x7FE → f.bodyOk = true → long = s.dev.ownLong → s.dev.burlUp = true →
    (f.secured = true → f.micOk = true → a.val ≤ 0x3FF → (s.dev.keyOf 0x08).isSome = true → Completes (.joinAccept f nonce long a network gcn rank) s fun t =>
      t.dev.nat Key.shortAddress = a.val ∧ t.dev.nat Key.networkId = network.val ∧ t.dev.nat Key.coordinatorRank = rank.val ∧
      t.dev.canopy.gcn = gcn % 2 ^ 48 ∧ t.dev.canopy.lastAddress = some a.val ∧ t.dev.canopy.node = .joining ∧ Within parts s t) ∧
    (f.secured = false ∨ f.micOk = false ∨ 0x3FF < a.val ∨ s.dev.keyOf 0x08 = none → Completes (.joinAccept f nonce long a network gcn rank) s
      fun t => bumped Key.canopyAuthFailCount s t ∧
        Only [] [Key.framesReceived, Key.canopyAuthFailCount, Key.useCount 0x08, Key.refusedCount 0x08] s t)) ∧
  (∀ (s : State) (f : CnpFrame) (long : Bytes) (r : Nat), s.dev.canopyHears = true → s.dev.holdsMap f = true → s.dev.canopy.node = .joining → f.bodyOk = true → long = s.dev.ownLong →
    Completes (.joinRefuse f long r) s fun t => left s t ∧ Within parts s t) ∧
  (∀ s : State, s.dev.canopyUp = true → s.dev.canopy.node = .joining → s.dev.canopy.joinBy ≤ s.dev.canopy.sf → s.dev.nat Key.shortAddress = 0x7FE →
    Completes .joinTimeout s fun t =>
      if 4 ≤ s.dev.canopy.tries then left s t ∧ Within parts s t
      else (∃ nonce prev, t.dev.canopy.queue =
          [⟨0, .joinRequest s.dev.ownLong nonce prev 7 0x10, false, 0, min 64 (4 * 2 ^ s.dev.canopy.tries), 0⟩]) ∧
        t.dev.canopy.node = .joining ∧ Only [.free, .canopy] [] s t) ∧
  (∀ (s : State) (f : CnpFrame) (n : Fin 128) (x : Neigh) (w : Nat × Nat) (r : Nat), known s.dev f n x → f.secured = true → f.micOk = true →
    s.dev.keyLoaded f n = true →
    Dev.counterWindow x.high x.window f.counter.toNat = some w →
    (s.dev.canopy.node = .coordinator → Completes (.leave f r) s fun t =>
      t.dev.canopy.neigh[n] = none ∧ (∀ m, m ≠ n → t.dev.canopy.neigh[m] = s.dev.canopy.neigh[m]) ∧ t.dev.canopy.node = .coordinator ∧
      Only [.burl, .canopy] [Key.framesReceived] s t) ∧
    (s.dev.canopy.node = .member → x.addr = 0 → Completes (.leave f r) s fun t => left s t ∧ Within parts s t)) ∧
  (∀ (s : State) (m : HostMsg) (data : Bytes), s.dev.grants m = true → takes Key.rejoin data = true → s.dev.canopyUp = true →
    (s.dev.canopy.node ≠ .off → Completes (.rejoin m data) s fun t =>
      left s t ∧ Replied s t m (.done Key.rejoin) ∧ Within (.hosts :: .out :: parts) s t) ∧
    (s.dev.canopy.node = .off → Completes (.rejoin m data) s fun t => Served m (.abort Code.outOfService Key.rejoin) []
      [Key.lastAbortCode, Key.lastAbortObject, Key.lastAbortHost, Key.abortCount] s t)) ∧
  (∀ (s : State) (n : Fin 128) (x : Neigh), s.dev.canopyUp = true → s.dev.canopy.node = .coordinator → s.dev.canopy.neigh[n] = some x →
    Completes (.addressRelease n) s fun t =>
      if x.lastSf + 16 ≤ s.dev.canopy.sf ∨ (∃ b, x.firstBy = some b ∧ b ≤ s.dev.canopy.sf) then
        t.dev.canopy = { s.dev.canopy with neigh := s.dev.canopy.neigh.set n none } ∧ Only [.burl, .canopy] [] s t
      else t = s) ∧
  (∀ (d : Dev) (a : Nat), d.addrFree a = true ↔
    ((∀ (n : Fin 128) (x : Neigh), d.canopy.neigh[n] = some x → x.addr ≠ a) ∧ ∀ l ∈ d.canopy.leased, l.1 = a → l.2.2 + 16 ≤ d.canopy.sf)) ∧
  (∀ (s : State) (f : CnpFrame) (n : Fin 128) (x : Neigh), known s.dev f n x → s.dev.canopy.node = .member ∨ s.dev.canopy.node = .coordinator →
    Completes (.keepalive f) s fun t =>
      t.dev.canopy.neigh = s.dev.canopy.neigh.set n (some { x with
        seen := s.dev.nowUs, lastSf := s.dev.canopy.sf, used := s.dev.canopy.uses + 1, rxSeq := some f.seq.val
        rxOld := if f.map.val = x.rxMap ∧ x.rxMap ≠ 0 then none else x.rxOld }) ∧
      bumped Key.framesReceived s t ∧ Only [.canopy] [Key.framesReceived] s t) ∧
  (∀ s : State, s.dev.canopyUp = true → s.dev.canopy.node = .member →
    Completes .keepaliveSend s fun t =>
      if s.dev.canopy.lastToCoord + 8 ≤ s.dev.canopy.sf then
        t.dev.canopy = { s.dev.canopy with
          lastToCoord := s.dev.canopy.sf, queue := s.dev.canopy.queue ++ [⟨0, .keepalive, true, 0, 32, 0⟩] } ∧ Only [.canopy] [] s t
      else t = s) ∧
  (∀ (s : State) (f : CnpFrame) (long nonce own : Bytes) (caps : BitVec 8), s.dev.canopyHears = true →
    s.dev.holdsMap f = true → s.dev.canopy.node = .member ∨ s.dev.canopy.node = .coordinator → f.dst.val = s.dev.nat Key.shortAddress → s.dev.burlUp = true → f.bodyOk = true →
    ((s.dev.keyOf 0x08).isSome = true → Completes (.linkRequest f long nonce own caps) s fun t =>
      linked s t long f.src.val ∧ t.dev.canopy.queue = s.dev.canopy.queue ++ [⟨f.src.val, .linkAccept own 5, true, 0, 4, 0⟩] ∧
      bumped (Key.useCount 0x08) s t ∧ Only [.burl, .canopy] [Key.framesReceived, Key.useCount 0x08] s t) ∧
    (s.dev.keyOf 0x08 = none → Completes (.linkRequest f long nonce own caps) s fun t =>
      bumped (Key.refusedCount 0x08) s t ∧ Only [] [Key.framesReceived, Key.refusedCount 0x08] s t)) ∧
  ∀ (s : State) (f : CnpFrame) (n : Fin 128) (x : Neigh) (own nonce : Bytes) (caps : BitVec 8), s.dev.canopyHears = true →
    s.dev.holdsMap f = true → f.dst.val = s.dev.nat Key.shortAddress → s.dev.burlUp = true → s.dev.byAddr f.src = some n → s.dev.canopy.neigh[n] = some x →
    x.linkNonce = some own → f.bodyOk = true → f.secured = true → f.micOk = true → (s.dev.keyOf 0x08).isSome = true →
    Completes (.linkAccept f nonce caps) s fun t =>
      t.dev.canopy.neigh = s.dev.canopy.neigh.set n (some { x with
        linkNonce := none, caps := caps.toNat, counter := 0, high := f.counter.toNat, window := 0, seen := s.dev.nowUs }) ∧
      Only [.burl, .canopy] [Key.framesReceived, Key.useCount 0x08] s t

/-- R379, R386 to R388, R401: a frame goes out when it may and the medium is free; one that asks for an ACK waits for it and is sent again with a doubled window, five times in all. A received
frame whose protection fails is counted and dropped, and so is one whose counter was seen or is too old. -/
def Obligations.CanopyFramesAreSentAndChecked : Prop :=
  let bumped (k : Nat) (s t : State) : Prop := t.dev.nat k = min (s.dev.nat k + 1) (Dev.top k)
  (∀ (s : State) (heard : List HeardSym) (tx : CnpTx) (rest : List CnpTx), s.dev.canopy.queue = tx :: rest → s.dev.canopyTalks = true →
    s.dev.canopyRange = true → (s.dev.listen heard).canopy.medium.busy = false →
    s.dev.canopy.wait = none → s.dev.canopy.node ≠ .off → s.dev.canopy.node ≠ .listening →
    (tx.msg.secured = true → (s.dev.frameKey tx.dst tx.msg).isSome = true) →
    let a : Bool := tx.ackReq && decide (s.dev.canopy.cyc ≤ 47)
    s.dev.mayEmit { tx with ackReq := a } = true →
    Completes (.canopyTransmit heard) s fun t =>
      (∃ (seq map : Nat) (counter : Option Nat) (air : List Sym), t.dev.out = s.dev.out ++
          [.canopy (s.dev.nat Key.shortAddress) tx.dst seq a map counter tx.msg air] ∧ counter.isSome = tx.msg.secured ∧
        (tx.tries ≠ 0 → seq = tx.seq)) ∧
      (if a = true then ∃ w, t.dev.canopy.wait = some w ∧ t.dev.canopy.queue.head? = some w.1 ∧ w.1.dst = tx.dst ∧ w.1.msg = tx.msg ∧
          w.1.tries = tx.tries + 1
        else t.dev.canopy.wait = none) ∧
      t.dev.canopy.node = (if s.dev.canopy.node = .joining ∧ tx.msg.secured = true then .member else s.dev.canopy.node) ∧
      Within [.free, .out, .obj, .canopy] s t) ∧
  (∀ (s : State) (heard : List HeardSym), s.dev.canopy.queue = [] ∨ (s.dev.listen heard).canopy.medium.busy = true ∨ s.dev.canopyTalks = false →
    Completes (.canopyTransmit heard) s fun t =>
      t.dev.canopy = { s.dev.canopy with medium := (s.dev.listen heard).canopy.medium } ∧ Only [.canopy] [Key.erasedSymbols] s t) ∧
  (∀ (s : State) (f : CnpFrame) (tx : CnpTx) (n : Nat), s.dev.canopyHears = true → s.dev.canopy.node ≠ .off → s.dev.canopy.node ≠ .listening →
    s.dev.canopy.wait = some (tx, n) →
    Completes (.ack f true) s fun t =>
      if f.dst.val = s.dev.nat Key.shortAddress ∧ f.src.val = tx.dst ∧ f.seq.val = tx.seq then
        t.dev.canopy.wait = none ∧ t.dev.canopy.queue = s.dev.canopy.queue.drop 1 ∧ bumped Key.framesReceived s t ∧
        Only [.canopy] [Key.framesReceived] s t
      else t = s) ∧
  (∀ (s : State) (f : CnpFrame), s.dev.canopyHears = true → s.dev.canopyTalks = true → s.dev.canopy.node ≠ .off → s.dev.canopy.node ≠ .listening →
    f.dst.val = s.dev.nat Key.shortAddress → s.dev.nat Key.shortAddress ≠ 0x7FE → f.ackReq = true → f.bodyOk = true →
    Completes (.ack f false) s fun t =>
      (∃ air, t.dev.out = s.dev.out ++ [.canopy f.dst.val f.src.val f.seq.val false 0 none .ack air] ∧
        t.dev.canopy = { s.dev.canopy with air := some (s.dev.nowUs + 2000, air.length) }) ∧ bumped Key.framesSent s t ∧
      Only [.out, .canopy] [Key.framesSent] s t) ∧
  (∀ (s : State) (tx : CnpTx) (n : Nat), s.dev.canopy.wait = some (tx, n) → n ≤ s.dev.nowMs →
    Completes .ackTimeout s fun t =>
      t.dev.canopy.wait = none ∧
      (if 5 ≤ tx.tries then bumped Key.droppedFrames s t
        else t.dev.canopy.queue.head? = some { tx with cw := min 64 (2 * tx.cw) } ∧ t.dev.nat Key.droppedFrames = s.dev.nat Key.droppedFrames) ∧
      t.dev.canopy.node = s.dev.canopy.node ∧ Within [.obj, .canopy] s t) ∧
  (∀ (s : State) (tx : CnpTx) (n : Nat), s.dev.canopy.wait = some (tx, n) → s.dev.nowMs < n → Completes .ackTimeout s fun t => t = s) ∧
  ∀ (s : State) (f : CnpFrame) (n : Fin 128) (x : Neigh) (c : Instr), s.dev.canopyHears = true → s.dev.holdsMap f = true → s.dev.canopy.node = .coordinator →
    f.dst.val = s.dev.nat Key.shortAddress → f.bodyOk = true → s.dev.byAddr f.src = some n → s.dev.canopy.neigh[n] = some x →
    x.rxSeq ≠ some f.seq.val →
    (∃ r, c = .leave f r) ∨ (∃ i a b, c = .tonemapRequest f i a b) ∨ (∃ i a p b, c = .tonemapResponse f i a p b) ∨
      (∃ p a b, c = .loadReport f p a b) ∨ (∃ i r, c = .appRead f i r) ∨ (∃ i v, c = .appResponse f i v) →
    let dropped (k : Nat) (t : State) : Prop := bumped k s t ∧ bumped Key.framesReceived s t ∧
      t.dev.canopy = { s.dev.canopy with
        uses := s.dev.canopy.uses + 1
        neigh := s.dev.canopy.neigh.set n (some { x with
          seen := s.dev.nowUs, lastSf := s.dev.canopy.sf, used := s.dev.canopy.uses + 1
          rxOld := if f.map.val = x.rxMap ∧ x.rxMap ≠ 0 then none else x.rxOld }) } ∧
      Only [.canopy] [Key.framesReceived, k] s t
    (f.secured = false ∨ f.micOk = false ∨ s.dev.keyLoaded f n = false → Completes c s (dropped Key.canopyAuthFailCount)) ∧
    (f.secured = true → f.micOk = true → s.dev.keyLoaded f n = true →
      f.counter.toNat = x.high ∨ f.counter.toNat + 32 < x.high ∨
        (f.counter.toNat < x.high ∧ x.window.testBit (x.high - 1 - f.counter.toNat) = true) →
      Completes c s (dropped Key.canopyReplayCount))

/-- R394 to R396, R405: a tone map is asked for, measured, answered and taken, and refreshed when it is old; a member reports its load to the coordinator, which keeps the
report; a read of the coordinator is answered when the site allows it. -/
def Obligations.ToneMapsAndReports : Prop :=
  let good (d : Dev) (f : CnpFrame) (n : Fin 128) (x : Neigh) (w : Nat × Nat) : Prop := d.canopyHears = true ∧ d.holdsMap f = true ∧
    d.keyLoaded f n = true ∧ f.dst.val = d.nat Key.shortAddress ∧
    f.bodyOk = true ∧ d.byAddr f.src = some n ∧ d.canopy.neigh[n] = some x ∧ x.rxSeq ≠ some f.seq.val ∧ f.secured = true ∧ f.micOk = true ∧
    Dev.counterWindow x.high x.window f.counter.toNat = some w
  let noted (d : Dev) (f : CnpFrame) (x : Neigh) (w : Nat × Nat) : Neigh := { x with
    seen := d.nowUs, lastSf := d.canopy.sf, used := d.canopy.uses + 1, high := w.1, window := w.2, firstBy := none, rxSeq := some f.seq.val
    rxOld := if f.map.val = x.rxMap ∧ x.rxMap ≠ 0 then none else x.rxOld }
  let in_ (d : Dev) : Prop := d.canopy.node = .member ∨ d.canopy.node = .coordinator
  let asked (s t : State) (n : Fin 128) (x : Neigh) : Prop :=
    let id := (s.dev.canopy.requestId + 1) % 256
    t.dev.canopy = { s.dev.canopy with
      requestId := id
      neigh := s.dev.canopy.neigh.set n (some { x with request := some (id, s.dev.canopy.sf + 1) })
      queue := s.dev.canopy.queue ++ [⟨x.addr, .tonemapRequest id, true, 0, 4, 0⟩] }
  (∀ (s : State) (f : CnpFrame) (n : Fin 128) (x : Neigh) (w : Nat × Nat) (id : Byte) (signal noise : Vector Nat 8), good s.dev f n x w → in_ s.dev →
    Completes (.tonemapRequest f id signal noise) s fun t =>
      let on (j : Nat) : Bool := if h : j < 8 then decide (noise[j] + 100 ≤ signal[j]) else false
      let count := ((List.range 8).filter on).length
      (∃ mask thr, (∀ j, mask.testBit j = on j) ∧ t.dev.canopy.queue = s.dev.canopy.queue ++
        [⟨f.src.val, .tonemapResponse id.toNat (if count < 3 then 0 else s.dev.canopy.nextMap) (if count < 3 then 0 else mask) thr, true, 0, 4, 0⟩] ∧
        t.dev.canopy.neigh = s.dev.canopy.neigh.set n (some (if count < 3 then noted s.dev f x w else { noted s.dev f x w with
          rxOld := some x.rxMap, rxMap := s.dev.canopy.nextMap, rxMask := mask, rxThr := thr }))) ∧ Only [.canopy] [Key.framesReceived] s t) ∧
  (∀ (s : State) (f : CnpFrame) (n : Fin 128) (x : Neigh) (w : Nat × Nat) (id : Byte) (map : Fin 256) (pairs : BitVec 8) (thr : Bytes) (by_ : Nat),
    good s.dev f n x w → in_ s.dev → x.request = some (id.toNat, by_) →
    Completes (.tonemapResponse f id map pairs thr) s fun t =>
      (∃ y, t.dev.canopy.neigh[n] = some y ∧ y.txMap = (if pairs = 0 then 0 else map.val) ∧ y.txMask = pairs.toNat ∧ y.txThr = thr ∧ y.request = none ∧
        y.failRun = 0 ∧ y.mapAt = s.dev.nowMs ∧ y.high = w.1 ∧ y.long = x.long) ∧
      t.dev.canopy.queue = s.dev.canopy.queue ∧ Only [.canopy] [Key.framesReceived] s t) ∧
  (∀ (s : State) (n : Fin 128) (x : Neigh), s.dev.canopyUp = true → in_ s.dev → s.dev.canopy.neigh[n] = some x → x.request = none →
    Completes (.tonemapRefresh n) s fun t =>
      if x.mapAt + 1000 * s.dev.canopy.refreshS ≤ s.dev.nowMs ∨ 3 ≤ x.failRun then
        asked s t n x ∧ t.dev.nat Key.toneMapRefreshCount = min (s.dev.nat Key.toneMapRefreshCount + 1) (Dev.top Key.toneMapRefreshCount) ∧
        Only [.canopy] [Key.toneMapRefreshCount] s t
      else t = s) ∧
  (∀ (s : State) (n : Fin 128) (x : Neigh) (id by_ : Nat), s.dev.canopyUp = true → s.dev.canopy.neigh[n] = some x → x.request = some (id, by_) →
    Completes (.tonemapRequestRetry n) s fun t => if by_ < s.dev.canopy.sf then asked s t n x ∧ Only [.canopy] [] s t else t = s) ∧
  (∀ (s : State) (m : HostMsg) (data : Bytes), s.dev.grants m = true → takes Key.refreshToneMaps data = true → s.dev.canopyUp = true →
    Completes (.refreshToneMaps m data) s fun t =>
      (∀ n : Fin 128, (t.dev.canopy.neigh[n]).isSome = (s.dev.canopy.neigh[n]).isSome ∧ ∀ y ∈ t.dev.canopy.neigh[n], y.request.isSome = true) ∧
      t.dev.canopy.node = s.dev.canopy.node ∧ Served m (.done Key.refreshToneMaps) [.canopy] [Key.toneMapRefreshCount] s t) ∧
  (∀ (s : State) (f : CnpFrame) (n : Fin 128) (x : Neigh) (w : Nat × Nat) (phase : Nat) (draw limit : Vector Nat 3), good s.dev f n x w →
    s.dev.canopy.node = .coordinator →
    Completes (.loadReport f phase draw limit) s fun t =>
      t.dev.canopy.neigh = s.dev.canopy.neigh.set n (some { noted s.dev f x w with
        phase := phase % 8, report := some (s.dev.canopy.sf, draw.toList, limit.toList) }) ∧
      t.dev.canopy.queue = s.dev.canopy.queue ∧ Only [.canopy] [Key.framesReceived] s t) ∧
  (∀ s : State, s.dev.canopyUp = true → s.dev.canopy.node = .member →
    Completes .loadReportSend s fun t =>
      if s.dev.canopy.lastReport + s.dev.canopy.reportEvery ≤ s.dev.canopy.sf then
        (∃ phase dr li, t.dev.canopy = { s.dev.canopy with
          lastReport := s.dev.canopy.sf, queue := s.dev.canopy.queue ++ [⟨0, .loadReport phase dr li, true, 0, 8, 0⟩] } ∧
          (dr, li) = s.dev.ownLoad) ∧ Only [.canopy] [] s t
      else t = s) ∧
  (∀ (s : State) (f : CnpFrame) (n : Fin 128) (x : Neigh) (w : Nat × Nat) (id : Byte) (refs : List Word), good s.dev f n x w →
    s.dev.canopy.node = .member → 1 ≤ refs.length → refs.length ≤ 16 →
    Completes (.appRead f id refs) s fun t =>
      (if f.src.val = 0 ∧ s.dev.canopy.mayRead = true then
        ∃ l, t.dev.canopy.queue = s.dev.canopy.queue ++ [⟨f.src.val, .appResponse id.toNat l, true, 0, 16, 0⟩] ∧ l.length = refs.length
      else t.dev.canopy.queue = s.dev.canopy.queue) ∧
      t.dev.canopy.neigh = s.dev.canopy.neigh.set n (some (noted s.dev f x w)) ∧ Only [.canopy] [Key.framesReceived] s t) ∧
  ∀ (s : State) (f : CnpFrame) (n : Fin 128) (x : Neigh) (w : Nat × Nat) (id : Byte) (values : Bytes), good s.dev f n x w → in_ s.dev →
    Completes (.appResponse f id values) s fun t =>
      t.dev.canopy.neigh = s.dev.canopy.neigh.set n (some (noted s.dev f x w)) ∧ t.dev.canopy.queue = s.dev.canopy.queue ∧
      Only [.canopy] [Key.framesReceived] s t

/-- R408, R410, R412 to R418, R421: windows are armed and disarmed by the owner of an engine only; an entry that passes a window is checked as the window's mode says, and
the check is the CRC of its profile; a context is held from the entry to its release, which saves the running value; contexts and profiles
are written by those who may, and otherwise refused. -/
def Obligations.CheckValueUnitsCheckEntries : Prop :=
  let refused (tag : BitVec 5) (s t : State) : Prop := t.dev.out = s.dev.out ++ [.fabric tag.toNat .error] ∧ Only [.out, .refusals] [] s t
  let free (x : Fin 160) (d : Dev) : Prop := ∀ e : Fin 16, ∀ w ∈ d.cvu.engines[e], w.set.context = some x → w.work = none ∧ w.waits = []
  (∀ (s : State) (tag : BitVec 5) (e : Fin 16) (w : WindowSet), s.dev.powered = true →
    let may : Prop := ∃ i, tagUsed s.dev tag = some i ∧ ownsEngine s.dev e i = true
    (may → windowFits s.dev w = true → (s.dev.cvu.engines[e]).length < 32 → Completes (.windowArm tag e w) s fun t =>
      t.dev.cvu = { s.dev.cvu with
        engines := s.dev.cvu.engines.set e (s.dev.cvu.engines[e] ++ [⟨w, s.dev.cvu.order, tag.toNat, false, [], none⟩]), order := s.dev.cvu.order + 1 } ∧
      t.dev.out = s.dev.out ++ [.fabric tag.toNat .done] ∧ Only [.out, .cvu] [] s t) ∧
    (¬ may ∨ windowFits s.dev w = false ∨ 32 ≤ (s.dev.cvu.engines[e]).length → Completes (.windowArm tag e w) s (refused tag s))) ∧
  (∀ (s : State) (tag : BitVec 5) (e : Fin 16) (i : Nat) (w : CvuWindow), s.dev.powered = true → s.dev.window e i = some w →
    (∀ j, j ∈ s.dev.cvu.engines[e] → j.disarm = false) →
    let may : Prop := ∃ j, tagUsed s.dev tag = some j ∧ ownsEngine s.dev e j = true
    (may → Completes (.windowDisarm tag e i) s fun t =>
      (if w.work = none ∧ w.waits = [] then t.dev.cvu.engines[e] = (s.dev.cvu.engines[e]).eraseIdx i
        else t.dev.window e i = some { w with disarm := true }) ∧
      (∀ b, b ≠ e → t.dev.cvu.engines[b] = s.dev.cvu.engines[b]) ∧ t.dev.out = s.dev.out ++ [.fabric tag.toNat .done] ∧
      Only [.out, .cvu] [] s t) ∧
    (¬ may → Completes (.windowDisarm tag e i) s (refused tag s))) ∧
  (∀ (s : State) (tag : BitVec 5) (e : Fin 16) (i : Nat), s.dev.powered = true → s.dev.window e i = none →
    Completes (.windowDisarm tag e i) s (refused tag s)) ∧
  (∀ (s : State) (e : Fin 16) (i : Nat) (ident : Byte) (entry : Bytes) (last : Bool) (w : CvuWindow) (f : Profile), s.dev.engineUp e = true →
    s.dev.window e i = some w → w.disarm = false → w.set.context = none → s.dev.profileOf w.set.profile = some f →
    w.set.finalOnFlag = false ∨ last = true →
    let ini := if w.set.initFromId then ident.toNat else f.ini
    Completes (.cvuEntry e i ident entry last) s fun t =>
      (match splitEntry w.set (f.width / 8) true entry with
       | none => t.dev.out = s.dev.out ++ [.cvu e i 2 entry 0] ∧
           t.dev.nat (Key.shortCount e) = min (s.dev.nat (Key.shortCount e) + 1) (Dev.top (Key.shortCount e)) ∧ Only [.out] [Key.shortCount e] s t
       | some (covered, field) =>
           let value := crc f.width f.poly ini f.reflected f.xorOut covered
           (w.set.mode = 0 → t.dev.out = s.dev.out ++ [.cvu e i 0 entry value]) ∧
           (w.set.mode = 1 → t.dev.out = s.dev.out ++ [.cvu e i 0 (entry ++ f.field value) value]) ∧
           (w.set.mode = 3 → t.dev.out = s.dev.out ++ [.cvu e i (if field = f.field value then 0 else 1) entry value]) ∧
           (1 < w.set.mode.val → field ≠ f.field value →
             t.dev.nat (Key.mismatchCount e) = min (s.dev.nat (Key.mismatchCount e) + 1) (Dev.top (Key.mismatchCount e))) ∧
           t.dev.nat (Key.bytesCovered e) = min (s.dev.nat (Key.bytesCovered e) + covered.length) (Dev.top (Key.bytesCovered e)) ∧
           Only [.out] [Key.bytesCovered e, Key.mismatchCount e] s t)) ∧
  (∀ (s : State) (e : Fin 16) (i : Nat) (ident : Byte) (entry : Bytes) (last : Bool) (w : CvuWindow) (x : Fin 160), s.dev.engineUp e = true →
    s.dev.window e i = some w → w.disarm = false → w.set.context = some x →
    (s.dev.nat (Key.contextHolder x) ≠ 0xFF → Completes (.cvuEntry e i ident entry last) s fun t =>
      t.dev.window e i = some { w with waits := w.waits ++ [(ident, entry, last)] } ∧ t.dev.out = s.dev.out ∧ Only [.cvu] [] s t) ∧
    (s.dev.nat (Key.contextHolder x) = 0xFF → w.waits = [] → (s.dev.profileOf w.set.profile).isSome = true →
      Completes (.cvuEntry e i ident entry last) s fun t =>
        t.dev.nat (Key.contextHolder x) = e ∧ (∃ v, t.dev.window e i = some { w with work := some v }) ∧ Within [.out, .obj, .cvu] s t)) ∧
  (∀ (s : State) (x : Fin 160) (e : Fin 16) (i v n f : Nat) (w : CvuWindow), s.dev.window e i = some w → w.set.context = some x →
    w.work = some (v, n, f) → i < 32 → w.disarm = false →
    (∀ b : Fin 16, ∀ j < (s.dev.cvu.engines[b]).length, ∀ y ∈ (s.dev.window b j).toList, y.set.context = some x → y.waits = [] ∧ ((b, j) ≠ (e, i) → y.work = none)) →
    Completes (.contextRelease x) s fun t =>
      t.dev.nat (Key.runningValue x) = v ∧ t.dev.nat (Key.contextByteCount x) = n ∧ t.dev.nat (Key.contextProfile x) = f ∧
      t.dev.nat (Key.contextHolder x) = 0xFF ∧ t.dev.out = s.dev.out ∧
      Only [.cvu] [Key.runningValue x, Key.contextByteCount x, Key.contextProfile x, Key.contextHolder x] s t) ∧
  (∀ (s : State) (x : Fin 160), free x s.dev → Completes (.contextRelease x) s fun t => t = s) ∧
  (∀ (s : State) (tag : BitVec 5) (x : Fin 160) (value : BitVec 64), s.dev.powered = true →
    let may : Prop := tagUsed s.dev tag = some (.core (contextOwner s.dev x)) ∧ s.dev.nat (Key.contextHolder x) = 0xFF
    (may → Completes (.contextWrite tag x value) s fun t =>
      t.dev.nat (Key.runningValue x) = value.toNat ∧ t.dev.out = s.dev.out ++ [.fabric tag.toNat .done] ∧ Only [.out] [Key.runningValue x] s t) ∧
    (¬ may → Completes (.contextWrite tag x value) s (refused tag s))) ∧
  (∀ (s : State) (tag : BitVec 5) (f : Fin 16) (width : Nat) (poly ini xorOut : BitVec 64) (refl : Bool), s.dev.powered = true →
    let may : Prop := (∃ c, tagUsed s.dev tag = some (.core c)) ∧ 8 ≤ f.val ∧ width ∈ [8, 16, 32, 64] ∧ poly.toNat % 2 = 1 ∧
      poly.toNat < 2 ^ width ∧ ini.toNat < 2 ^ width ∧ xorOut.toNat < 2 ^ width
    (may → Completes (.profileWrite tag f width poly ini xorOut refl) s fun t =>
      t.dev.nat (Key.profileWidth f) = width ∧ t.dev.nat (Key.polynomial f) = poly.toNat ∧ t.dev.nat (Key.profileInit f) = ini.toNat ∧
      t.dev.flag (Key.reflected f) = refl ∧ t.dev.nat (Key.finalXor f) = xorOut.toNat ∧
      t.dev.nat (Key.checkValue f) = crc width poly.toNat ini.toNat refl xorOut.toNat [0x31, 0x32, 0x33, 0x34, 0x35, 0x36, 0x37, 0x38, 0x39] ∧
      t.dev.out = s.dev.out ++ [.fabric tag.toNat .done] ∧
      Only [.out] [Key.profileWidth f, Key.polynomial f, Key.profileInit f, Key.reflected f, Key.finalXor f, Key.checkValue f] s t) ∧
    (¬ may → Completes (.profileWrite tag f width poly ini xorOut refl) s (refused tag s))) ∧
  ∀ (s : State) (m : HostMsg) (data : Bytes), s.dev.grants m = true → takes Key.cvuClearCounters data = true →
    Completes (.cvuClearCounters m data) s fun t =>
      (∀ e : Fin 16, t.dev.nat (Key.mismatchCount e) = 0 ∧ t.dev.nat (Key.shortCount e) = 0 ∧ t.dev.nat (Key.abandonedCount e) = 0) ∧
      (∀ x : Fin 160, t.dev.nat (Key.contextMismatchCount x) = 0) ∧ Replied s t m (.done Key.cvuClearCounters) ∧ OnlySlot m.slot s t ∧
      Within [.out, .obj, .hosts] s t

/-- R28, R38, R422, R425, R430 to R437, R441, R442, R449, R451, R452: Burl carries out an operation for the core whose slot permits it and refuses any
other, counted; a key operation waits for its tick boundary, one at a time; there a key is imported, generated or erased as its checks say, in the
half that was not active, which is in force, with the old half gone, once it verifies; an operation that is aborted leaves the key as it was. The first
read queues a statement, which its signature completes; Commission and a debug session stand before SEALED only. -/
def Obligations.BurlKeepsKeysAndSigns : Prop :=
  let bumped (k : Nat) (s t : State) : Prop := t.dev.nat k = min (s.dev.nat k + 1) (Dev.top k)
  let abort (m : HostMsg) (key c : Nat) (s t : State) : Prop := Served m (.abort c key) []
    [Key.lastAbortCode, Key.lastAbortObject, Key.lastAbortHost, Key.abortCount] s t
  let waits (m : HostMsg) (x : TickItem) (s t : State) : Prop :=
    t.dev.dict = { s.dev.dict with items := s.dev.dict.items ++ [x] } ∧ t.dev.out = s.dev.out ∧ Only [.dict, .hosts] (hostKeys m.slot) s t ∧
    OnlySlot m.slot s t
  let done (n code : Nat) (e : Dev) : Prop :=
    e.nat Key.keyOpState = (if code = 0 then 2 else 3) ∧ e.nat Key.keyOpSlot = n ∧ e.nat Key.keyOpResult = code
  let begun (n : Fin 64) (typ attrs : Nat) (verifies : Bool) (d e : Dev) : Prop :=
    e.nat Key.keyOpState = 1 ∧ e.nat Key.keyOpSlot = n.val ∧ (e.keySlot n).active = (d.keySlot n).active ∧ (e.keySlot n).count = (d.keySlot n).count ∧
    (∀ k, k ≠ n → e.keySlot k = d.keySlot k) ∧
    ∃ r : KeyRun, e.burl.keyOp = some r ∧ r.slot = n ∧ r.half.typ = typ ∧ r.half.attrs = attrs ∧ r.half.generation = (d.keySlot n).count + 1 ∧
      r.verifies = verifies ∧ r.dueAt = d.nowMs + Dev.replaceMs typ
  let replaced (n : Fin 64) (h : Option KeyHalf) (d e : Dev) : Prop :=
    done n.val 0 e ∧ (e.keySlot n).count = (d.keySlot n).count + 1 ∧ (e.keySlot n).activeB = !(d.keySlot n).activeB ∧ (e.keySlot n).active = h ∧
    (if (e.keySlot n).activeB then (e.keySlot n).a else (e.keySlot n).b) = none ∧ ∀ k, k ≠ n → e.keySlot k = d.keySlot k
  (∀ (s : State) (tag : BitVec 5) (n : Fin 64) (op : BurlOp) (c : CoreId) (k : KeyHalf), tagUsed s.dev tag = some (.core c) → s.dev.burlUp = true →
    s.dev.keyOf n = some k →
    let own : Prop := match op with
      | .loadContext x _ => contextOwner s.dev x = c | .zeroContext x => contextOwner s.dev x = c | _ => True
    let bit : Prop := match op with
      | .sign => k.attrs.testBit 0 = true | .verify => k.attrs.testBit 1 = true | .encrypt => k.attrs.testBit 2 = true
      | .decrypt => k.attrs.testBit 3 = true | .derive => k.attrs.testBit 4 = true | .wrapOpen => k.attrs.testBit 5 = true
      | .loadContext _ _ => k.attrs.testBit 2 = true ∨ k.attrs.testBit 3 = true ∨ k.attrs.testBit 4 = true
      | .zeroContext _ => True
    (own → (k.attrs.testBit 6 = true → c = .heartwood) → bit → Completes (.burlRequest tag n op) s fun t =>
      t.dev.out = s.dev.out ++ [.burl tag.toNat 0] ∧ bumped (Key.useCount n) s t ∧
      (match op with
       | .loadContext x key => if h : x.val < 144 then t.dev.burl.contexts[x.val] = some key
           else (t.dev.slot ⟨x.val - 144, by omega⟩).sessionKey = some key
       | .zeroContext x => if h : x.val < 144 then t.dev.burl.contexts[x.val] = none
           else (t.dev.slot ⟨x.val - 144, by omega⟩).sessionKey = none
       | _ => t.dev.burl = s.dev.burl ∧ t.dev.hosts = s.dev.hosts) ∧ t.dev.burl.slots = s.dev.burl.slots ∧
      Only [.out, .hosts, .burl] [Key.useCount n] s t) ∧
    (¬ own ∨ (k.attrs.testBit 6 = true ∧ c ≠ .heartwood) ∨ ¬ bit → Completes (.burlRequest tag n op) s fun t =>
      t.dev.out = s.dev.out ++ [.burl tag.toNat 0x08000001] ∧ bumped (Key.refusedCount n) s t ∧
      Only [.out] [Key.refusedCount n, Key.legalRefusals] s t)) ∧
  (∀ (s : State) (tag : BitVec 5) (n : Fin 64) (op : BurlOp), (∀ c, tagUsed s.dev tag ≠ some (.core c)) → s.dev.burlUp = true →
    Completes (.burlRequest tag n op) s fun t =>
      t.dev.out = s.dev.out ++ [.burl tag.toNat 0x08000001] ∧ bumped (Key.refusedCount n) s t ∧
      (∀ k, s.dev.keyOf n = some k → k.attrs.testBit 6 = true → bumped Key.legalRefusals s t) ∧
      Only [.out, .refusals] [Key.refusedCount n, Key.legalRefusals] s t) ∧
  (∀ (s : State) (m : HostMsg) (k : ImportBlob), s.dev.grants m = true → takes Key.keyImport (List.replicate k.length 0) = true →
    (s.dev.burlUp = false → Completes (.keyImport m k) s (abort m Key.keyImport Code.outOfService s)) ∧
    (s.dev.burlUp = true → s.dev.keyOpHeld = true → Completes (.keyImport m k) s (abort m Key.keyImport Code.general s)) ∧
    (s.dev.burlUp = true → s.dev.keyOpHeld = false →
      Completes (.keyImport m k) s (waits m (.keyOp ((s.dev.admitted m).ackOf m Key.keyImport) (.imports k)) s))) ∧
  (∀ (s : State) (m : HostMsg) (data : Bytes) (v : Nat) (ok : Bool), s.dev.grants m = true → takes Key.keyGenerate data = true →
    sentValue Key.keyGenerate data = .int v → s.dev.burlUp = true → s.dev.keyOpHeld = false →
    Completes (.keyGenerate m data ok) s
      (waits m (.keyOp ((s.dev.admitted m).ackOf m Key.keyGenerate) (.generate (v / 256) (v % 256) ok)) s)) ∧
  (∀ (s : State) (m : HostMsg) (data : Bytes) (v : Nat), s.dev.grants m = true → takes Key.keyErase data = true →
    sentValue Key.keyErase data = .int v → s.dev.burlUp = true → s.dev.keyOpHeld = false →
    Completes (.keyErase m data) s (waits m (.keyOp ((s.dev.admitted m).ackOf m Key.keyErase) (.erase v)) s)) ∧
  (∀ (d : Dev) (k : ImportBlob) (n : Fin 64) (types : List Nat) (attrs : Nat) (r : Replaceable),
    k.version = 1 → k.length = 60 + k.materialLength → 1 ≤ k.keyType → k.keyType ≤ 0x0B → materialLength k.keyType = k.materialLength →
    k.slot = n.val → k.hashOk = true →
    (k.tagOk = true → (d.keyOf 0x01).isSome = true → d.nat Key.importCounter < k.seq → d.replaceable n = true →
      slotRule n = some (types, attrs, r) → k.keyType ∈ types → k.attrs = attrs → d.keyOpsHeld = false →
      begun n k.keyType k.attrs k.verifies d (d.importKey k) ∧ (d.importKey k).nat Key.importCounter = k.seq ∧
      ∀ x, (d.importKey k).burl.keyOp = some x → x.half.keyId = k.keyId ∧ x.half.material = k.material) ∧
    (k.tagOk = false ∨ d.keyOf 0x01 = none → done n 0x08000002 (d.importKey k) ∧ (d.importKey k).burl = d.burl) ∧
    (k.tagOk = true → (d.keyOf 0x01).isSome = true → k.seq ≤ d.nat Key.importCounter →
      done n 0x03000003 (d.importKey k) ∧ (d.importKey k).burl = d.burl)) ∧
  (∀ (d : Dev) (n : Fin 64) (typ : Nat) (ok : Bool), (n.val, typ) ∈ [(0x10, 0x06), (0x11, 0x08), (0x12, 0x0A)] → d.lifecycle ≠ 0 →
    d.keyOpsHeld = false → begun n typ 0x381 ok d (d.generateKey n typ ok)) ∧
  (∀ (d : Dev) (n : Fin 64),
    (d.replaceable n = true → d.keyOpsHeld = false → replaced n none d (d.eraseKey n)) ∧
    (d.replaceable n = false → done n 0x08000001 (d.eraseKey n) ∧ (d.eraseKey n).burl = d.burl ∧
      (d.eraseKey n).nat (Key.refusedCount n) =
        if slotRule n = none then min (d.nat (Key.refusedCount n) + 1) (Dev.top (Key.refusedCount n)) else d.nat (Key.refusedCount n))) ∧
  (∀ (d : Dev) (r : KeyRun), d.burl.keyOp = some r →
    (d.burlUp = true → r.dueAt ≤ d.nowMs → d.keyOpTick.burl.keyOp = none ∧
      (if r.verifies = true then replaced r.slot (some r.half) d d.keyOpTick
        else done r.slot 0x08000002 d.keyOpTick ∧ (d.keyOpTick.keySlot r.slot).active = (d.keySlot r.slot).active ∧
          ∀ k, k ≠ r.slot → d.keyOpTick.keySlot k = d.keySlot k)) ∧
    (d.nowMs < r.dueAt → d.keyOpTick = d) ∧
    ∀ c, c ≠ 0 → done r.slot c (d.keyOpAbort c) ∧ (d.keyOpAbort c).burl = { d.burl with keyOp := none }) ∧
  (∀ (s : State) (m : HostMsg) (x : SlotId), s.dev.hears m = true → s.dev.dict.roleChanged = false → (s.dev.slot m.slot).tx = none →
    (s.dev.slot x).registered = true → s.dev.burlUp = true → s.dev.burl.attest[x] = .none →
    let value := checked (s.seen.wire (Key.attestation x))
    let y := 144 + m.slot.val
    Completes (.attestationRead m x) s fun t =>
      t.dev.burl.attest = s.dev.burl.attest.set x .queued ∧
      Served m (.firstSegment (Key.attestation x) value.length (value.take (bodyLimit m.iface - 8))) [.burl]
        [Key.runningValue y, Key.contextByteCount y, Key.contextProfile y, Key.bytesCovered 10] s t) ∧
  (∀ (s : State) (x : SlotId) (body : Bytes), s.dev.burl.signing = .statement x body → s.dev.burlUp = true →
    Completes .attestationSigned s fun t =>
      (∃ sig, t.dev.burl.attest = s.dev.burl.attest.set x (.ready body sig)) ∧
      t.dev.nat Key.attestationNumber = s.dev.nat Key.attestationNumber + 1 ∧
      (s.dev.heart.signQueue ≠ [] → s.dev.heart.signRetryAt = none → t.dev.burl.signing = .record) ∧
      Only [.burl] [Key.attestationNumber, Key.useCount 0x00, Key.refusedCount 0x00] s t) ∧
  (∀ (s : State) (m : HostMsg) (data : Bytes), s.dev.grants m = true → takes Key.commission data = true → s.dev.burlUp = true →
    (s.dev.lifecycle ≠ 1 → Completes (.commission m data) s (abort m Key.commission 0x08000001 s)) ∧
    (s.dev.lifecycle = 1 →
      if (s.dev.keyOf 0x05).isSome ∧ (s.dev.keyOf 0x06).isSome ∧ (s.dev.keyOf 0x07).isSome ∧ ∃ n : Fin 64, 0x30 ≤ n.val ∧ (s.dev.keyOf n).isSome then
        Completes (.commission m data) s fun t => t.dev.lifecycle = 2 ∧ Served m (.done Key.commission) [] [Key.lifecycleState] s t
      else Completes (.commission m data) s (abort m Key.commission Code.general s))) ∧
  ∀ s : State, s.dev.powered = true →
    Completes .jtagSession s fun t =>
      if s.dev.lifecycle = 3 then t = s
      else (∃ e : GenEntry, e.event = .note 7 [] ∧ t.dev.heart = { s.dev.heart with general := e :: s.dev.heart.general.take 98303 }) ∧ Only [.heart] [] s t

/-- R456, R458 to R461, R463: a header opens a staging area and is checked, chunks follow in order and are covered by engine 14, the whole payload is hashed, and the
plan installs its images into the inactive slots, or fails; Cancel disarms it. -/
def Obligations.ImagesAreStagedAndInstalled : Prop :=
  let abortKeys : List Nat := [Key.lastAbortCode, Key.lastAbortObject, Key.lastAbortHost, Key.abortCount]
  (∀ (s : State) (m : HostMsg) (i : Fin 8) (h : ImageHdr), s.dev.grants m = true → h.length = 8368 →
    (s.dev.planNames i = false → Completes (.imageHeader m i h) s fun t =>
      t.dev.nat (Key.stagingState i) = 1 ∧ t.dev.nat (Key.stagingResult i) = 0 ∧ t.dev.nat (Key.receivedBytes i) = 0 ∧
      t.dev.update = { s.dev.update with staging := s.dev.update.staging.set i (some (h, [])) } ∧
      Served m (.done (Key.imageHeader i)) [.update] [Key.stagingState i, Key.stagingResult i, Key.stagedType i, Key.stagedVersion i,
        Key.payloadLength i, Key.receivedBytes i] s t) ∧
    (s.dev.planNames i = true → Completes (.imageHeader m i h) s fun t => Served m (.abort Code.locked (Key.imageHeader i)) [] abortKeys s t)) ∧
  (∀ (s : State) (i : Fin 8) (ok : Bool) (h : ImageHdr) (b : Bytes), s.dev.stagedImage i = some (h, b) → s.dev.burlUp = true →
    s.dev.nat (Key.stagingState i) = 1 →
    Completes (.headerCheckDone i ok) s fun t =>
      match s.dev.headerCode h ok with
      | some c => t.dev.nat (Key.stagingState i) = 5 ∧ t.dev.nat (Key.stagingResult i) = c ∧
          Only [] [Key.stagingState i, Key.stagingResult i, Key.useCount (Dev.signerOf h)] s t
      | none => t.dev.nat (Key.stagingState i) = 2 ∧ t.dev.nat (Key.stagedType i) = h.imageType ∧ t.dev.nat (Key.stagedVersion i) = h.imageVersion ∧
          t.dev.nat (Key.payloadLength i) = h.payloadLength ∧
          t.dev.nat (Key.useCount (Dev.signerOf h)) = min (s.dev.nat (Key.useCount (Dev.signerOf h)) + 1) (Dev.top (Key.useCount (Dev.signerOf h))) ∧
          Only [] [Key.stagingState i, Key.stagedType i, Key.stagedVersion i, Key.payloadLength i, Key.useCount (Dev.signerOf h)] s t) ∧
  (∀ (d : Dev) (h : ImageHdr), d.headerCode h false ≠ none) ∧
  (∀ (s : State) (m : HostMsg) (i : Fin 8) (data b : Bytes) (h : ImageHdr), s.dev.grants m = true → s.dev.stagedImage i = some (h, b) →
    (s.dev.chunkCodes i data = [] → Completes (.imageChunk m i data) s fun t =>
      let new := b ++ (data.drop 4).take (data.length - 12)
      t.dev.update = { s.dev.update with staging := s.dev.update.staging.set i (some (h, new)) } ∧ t.dev.nat (Key.receivedBytes i) = new.length ∧
      t.dev.nat (Key.stagingState i) = (if new.length = h.payloadLength then 3 else s.dev.nat (Key.stagingState i)) ∧
      Served m (.done (Key.imageChunk i)) [.update] [Key.receivedBytes i, Key.stagingState i, Key.bytesCovered 14] s t) ∧
    (∀ c, firstCode (s.dev.chunkCodes i data) = some c → Completes (.imageChunk m i data) s fun t =>
      Served m (.abort c (Key.imageChunk i)) [] (Key.bytesCovered 14 :: Key.mismatchCount 14 :: abortKeys) s t)) ∧
  (∀ (d : Dev) (i : Fin 8) (data : Bytes), d.chunkCodes i data = [] → 12 < data.length ∧ data.length ≤ 4108 ∧
    leVal (data.take 4) = d.nat (Key.receivedBytes i) ∧ d.nat (Key.receivedBytes i) + (data.length - 12) ≤ d.nat (Key.payloadLength i) ∧
    d.nat (Key.stagingState i) = 2) ∧
  (∀ (s : State) (i : Fin 8) (ok : Bool), s.dev.burlUp = true → s.dev.nat (Key.stagingState i) = 3 →
    Completes (.payloadHashDone i ok) s fun t =>
      (if ok = true then t.dev.nat (Key.stagingState i) = 4
        else t.dev.nat (Key.stagingState i) = 5 ∧ t.dev.nat (Key.stagingResult i) = 0x08000002) ∧ Only [] [Key.stagingState i, Key.stagingResult i] s t) ∧
  (∀ (s : State) (ok : Bool), s.dev.burlUp = true → s.dev.nat Key.planState = 1 →
    (∀ x ∈ Dev.planSteps s.dev.nat, x.1 < 7) →
    let whole : Prop := ∀ x ∈ Dev.planSteps s.dev.nat, s.dev.nat (Key.stagingState x.2) = 4 ∧ (s.dev.stagedImage x.2).isSome = true
    Completes (.installationDone ok) s fun t =>
      (ok = true → whole → t.dev.nat Key.planState = 2 ∧ (∀ x ∈ Dev.planSteps s.dev.nat, t.dev.nat (Key.stagingState x.2) = 0) ∧
        (∀ x img, Dev.planSteps s.dev.nat = [x] → s.dev.stagedImage x.2 = some img →
          t.dev.imageIn x.1 (!s.dev.activeK x.1) = some img ∧ t.dev.imageIn x.1 (s.dev.activeK x.1) = s.dev.imageIn x.1 (s.dev.activeK x.1) ∧
          t.dev.activeK x.1 = s.dev.activeK x.1)) ∧
      (ok = false ∨ ¬ whole → t.dev.nat Key.planState = 5 ∧ t.dev.update.images = s.dev.update.images ∧ t.dev.update.staging = s.dev.update.staging) ∧
      Within [.free, .obj, .heart, .update] s t) ∧
  ∀ (s : State) (m : HostMsg) (data : Bytes), s.dev.grants m = true → takes Key.cancelPlan data = true →
    (s.dev.nat Key.planState = 2 → Completes (.cancelPlan m data) s fun t =>
      t.dev.nat Key.planState = 0 ∧ t.dev.update = { s.dev.update with lateStart := false } ∧
      Served m (.done Key.cancelPlan) [.heart, .update] [Key.planState] s t) ∧
    (s.dev.nat Key.planState ≠ 2 → Completes (.cancelPlan m data) s fun t => Served m (.done Key.cancelPlan) [] [] s t)

/-- R15, R464 to R473: a plan prepares its first unit at its time, switches what is prepared at its instant, waits for the unit, whose image is in its SRAM by then, tries it, and goes on to
the next unit, the next step or its end; a unit that is not ready, a preparation, a drain or a trial past its time fails it. -/
def Obligations.PlansRunStepByStep : Prop :=
  let kind (d : Dev) (r : PlanRun) : Nat := (Dev.stepIn d.nat r.step).1
  let failed (step : Nat) (s t : State) : Prop :=
    t.dev.nat Key.planState = 5 ∧ t.dev.nat Key.failingStep = step + 1 ∧ t.dev.update.run = none ∧ t.dev.update.images = s.dev.update.images
  let parts : List Part := [.free, .out, .obj, .crossings, .cores, .activeB, .dict, .hosts, .heart, .ports, .site, .safety, .energy, .ledger, .cvu, .burl,
    .update, .canopy, .display]
  let loaded (s t : State) : Prop := t.mem = s.dev.coresLoaded t.dev s.mem ∧ Within parts { s with mem := t.mem } t
  (∀ s : State, s.dev.nat Key.planState = 2 → s.dev.planAllowed = true → s.dev.planLate = false → s.dev.preparationReached = true →
    Completes .planPreparationStart s fun t =>
      t.dev.nat Key.planState = 3 ∧ (∃ r, t.dev.update.run = some r ∧ r.step = 0 ∧ r.unit = 0 ∧ r.phase = .preparing ∧ r.begun = true) ∧
      Within parts s t) ∧
  (∀ s : State, s.dev.nat Key.planState = 2 → s.dev.planAllowed = true → s.dev.planLate = true → s.dev.update.lateStart = false →
    s.dev.nat Key.planLatePolicy = 1 →
    Completes .planPreparationStart s fun t => t.dev.nat Key.planState = 6 ∧ t.dev.update.run = s.dev.update.run ∧ Within [.obj, .heart, .update] s t) ∧
  (∀ (s : State) (r : PlanRun), s.dev.update.run = some r → s.dev.sequencerUp = true → s.dev.nat Key.planState = 3 → r.begun = true →
    r.phase = .preparing → kind s.dev r < 7 →
    (s.dev.unitPrepared r = true → 0 < r.step ∨ 0 < r.unit ∨ s.dev.update.lateStart = true ∨ s.dev.instantReached = true →
      Completes .stepSwitch s fun t =>
        (∃ x, t.dev.update.run = some x ∧ x.step = r.step ∧ x.phase = .switched ∧
          x.readyBy = some (s.dev.nowMs + s.dev.nat Key.readyTimeoutMs) ∧ x.switchedAt = s.dev.nowMs) ∧
        (kind s.dev r ≠ 1 ∨ r.unit = 0 → t.dev.activeK (kind s.dev r) = s.dev.targetOf (kind s.dev r)) ∧
        (kind s.dev r = 0 → t.dev.activeB = !s.dev.activeB) ∧ t.dev.update.images = s.dev.update.images ∧ Within parts s t) ∧
    (s.dev.unitPrepared r = false → Completes .stepSwitch s fun t => t = s)) ∧
  (∀ (s : State) (r : PlanRun) (by_ : Nat), s.dev.update.run = some r → s.dev.powered = true → s.dev.burlUp = true → r.readyBy = some by_ → r.unit < 4 →
    (r.phase = .preparing → Completes .unitReady s fun t =>
      t.dev.update.run = some { r with
        readyBy := none, prepared := true } ∧ t.dev.running s.dev.standbySapwood = true ∧ loaded s t) ∧
    (r.phase = .switched → Completes .unitReady s fun t =>
      (∃ x, t.dev.update.run = some x ∧ x.phase = .trial ∧ x.readyBy = none ∧ x.step = r.step ∧ x.unit = r.unit) ∧
      t.dev.running (s.dev.stepCore (kind s.dev r) r.unit) = true ∧ loaded s t)) ∧
  (∀ (s : State) (r : PlanRun) (by_ : Nat), s.dev.update.run = some r → s.dev.powered = true → r.readyBy = some by_ → kind s.dev r < 7 →
    Completes .readyTimeout s fun t =>
      if by_ ≤ s.dev.nowMs then failed r.step s t ∧ Within parts s t ∧
        (r.phase ≠ .preparing → t.dev.activeK (kind s.dev r) = !s.dev.targetOf (kind s.dev r))
      else t = s) ∧
  (∀ (s : State) (r : PlanRun), s.dev.update.run = some r → s.dev.powered = true → kind s.dev r ≤ 1 → r.phase = .preparing → r.begun = true →
    s.dev.unitPrepared r = false →
    Completes .preparationTimeout s fun t =>
      if r.since + 1000 * (if r.step = 0 then s.dev.nat Key.prepareLeadS else 600) ≤ s.dev.nowMs then failed r.step s t ∧ Within parts s t
      else t = s) ∧
  (∀ (s : State) (r : PlanRun), s.dev.update.run = some r → s.dev.powered = true → r.draining = true → r.drainStopped = false →
    s.dev.allClearing = false → r.since + 1000 * s.dev.nat Key.drainTimeoutS ≤ s.dev.nowMs →
    Completes .drainTimeout s fun t =>
      (if s.dev.nat Key.firebreakDrain = 0 then failed r.step s t
      else t.dev.update.run = some { r with drainStopped := true } ∧
        ∀ p, (s.dev.port p).session = .closing ∨ (s.dev.port p).session = .energised → (t.dev.port p).stop.isSome = true) ∧ Within parts s t) ∧
  (∀ (s : State) (r : PlanRun) (till : Nat), s.dev.update.run = some r → s.dev.powered = true → r.phase = .trial → r.trialTill = some till →
    till ≤ s.dev.nowMs → (∀ x ∈ Dev.planSteps s.dev.nat, x.1 < 7) →
    Completes .trialEnd s fun t =>
      (if kind s.dev r = 1 ∧ r.unit < 3 then
        ∃ x, t.dev.update.run = some x ∧ x.step = r.step ∧ x.unit = r.unit + 1 ∧ x.phase = .preparing ∧ x.begun = false
      else if r.step + 1 < (Dev.planSteps s.dev.nat).length then
        ∃ x, t.dev.update.run = some x ∧ x.step = r.step + 1 ∧ x.unit = 0 ∧ x.phase = .preparing ∧ x.begun = false
      else t.dev.update.run = none ∧ t.dev.nat Key.planState = 4 ∧ ∀ k < 7, s.dev.nat (Key.securityVersion k) ≤ t.dev.nat (Key.securityVersion k)) ∧
      t.dev.update.images = s.dev.update.images ∧ Within [.obj, .heart, .burl, .update] s t) ∧
  ∀ (s : State) (r : PlanRun), s.dev.update.run = some r → s.dev.powered = true → kind s.dev r = 4 ∨ kind s.dev r = 5 → r.phase ≠ .preparing →
    r.trialTill = none →
    Completes .firebreakTrialTimeout s fun t =>
      if r.switchedAt + 86400000 ≤ s.dev.nowMs then failed r.step s t ∧ Within parts s t ∧
        t.dev.activeK (kind s.dev r) = !s.dev.targetOf (kind s.dev r)
      else t = s

/-- R474 to R476: a unit is taken out and returned on the owner's command, refused while a plan or a session uses it (a CAN controller out of service
carries no command of its own return); a restart for service begins the
shutdown sequence, unless a plan runs. -/
def Obligations.UnitsLeaveAndReturn : Prop :=
  let abortKeys : List Nat := [Key.lastAbortCode, Key.lastAbortObject, Key.lastAbortHost, Key.abortCount]
  let parts : List Part := [.out, .obj, .crossings, .cores, .hosts, .heart, .ports, .modules, .safety, .metro, .ledger, .cvu, .burl, .canopy, .display]
  (∀ (s : State) (m : HostMsg) (u : Fin 32) (data : Bytes), s.dev.grants m = true → takes (Key.takeOut u) data = true →
    (s.dev.planUses u = true → Completes (.takeOut m u data) s fun t => Served m (.abort Code.locked (Key.takeOut u)) [] abortKeys s t) ∧
    (s.dev.planUses u = false → s.dev.nat (Key.serviceState u) = 1 → Completes (.takeOut m u data) s fun t => Served m (.done (Key.takeOut u)) [] [] s t) ∧
    (s.dev.planUses u = false → s.dev.nat (Key.serviceState u) ≠ 1 →
      (∀ c, s.dev.takeOutFault u = some c → Completes (.takeOut m u data) s fun t => Served m (.abort c (Key.takeOut u)) [] abortKeys s t) ∧
      (s.dev.takeOutFault u = none → Completes (.takeOut m u data) s fun t =>
        t.dev.nat (Key.serviceState u) = 1 ∧ t.dev.nat (Key.outSince u) = s.dev.nowUs ∧
        t.dev.nat (Key.outCount u) = min (s.dev.nat (Key.outCount u) + 1) (Dev.top (Key.outCount u)) ∧
        (u = 0 → t.dev.running s.dev.standbySapwood = false) ∧ (u = 5 → t.dev.running .canopy = false ∧ t.dev.canopy.node = .off) ∧
        (u = 6 → t.dev.running .display = false) ∧ Replied s t m (.done (Key.takeOut u)) ∧ Within parts s t))) ∧
  (∀ (s : State) (m : HostMsg) (u : Fin 32) (data : Bytes), s.dev.grants m = true → takes (Key.returnUnit u) data = true →
    (s.dev.planUses u = true → Completes (.returnUnit m u data) s fun t => Served m (.abort Code.locked (Key.returnUnit u)) [] abortKeys s t) ∧
    (s.dev.planUses u = false → s.dev.nat (Key.serviceState u) ≠ 1 → Completes (.returnUnit m u data) s fun t =>
      Served m (.done (Key.returnUnit u)) [] [] s t) ∧
    (s.dev.planUses u = false → s.dev.nat (Key.serviceState u) = 1 → (u = 0x15 → m.iface ≠ .can5) → Completes (.returnUnit m u data) s fun t =>
      (t.dev.nat (Key.serviceState u) = 0 ∨ t.dev.nat (Key.serviceState u) = 2) ∧
      (7 ≤ u.val → u.val ≤ 0x13 → t.dev.nat (Key.serviceState u) = 0) ∧ Replied s t m (.done (Key.returnUnit u)) ∧ Within parts s t)) ∧
  (∀ (d : Dev) (p : PortId), d.planUses (8 + p) = false →
    (d.takeOutFault (8 + p) = none ↔ (d.port p).session = .idle ∨ (d.port p).session = .ended ∨ (d.port p).session = .faulted)) ∧
  (∀ (s : State) (m : HostMsg) (data : Bytes), s.dev.grants m = true → takes Key.serviceRestart data = true →
    s.dev.nat Key.planState = 1 ∨ s.dev.nat Key.planState = 3 →
    Completes (.serviceRestart m data) s fun t => Served m (.abort Code.locked Key.serviceRestart) [] abortKeys s t) ∧
  ∀ (s : State) (m : HostMsg) (data : Bytes), s.dev.grants m = true → takes Key.serviceRestart data = true →
    s.dev.nat Key.planState ≠ 1 → s.dev.nat Key.planState ≠ 3 → s.dev.heartwoodTakes = true → s.dev.metro.running = true →
    s.dev.energy.lost = false →
    Completes (.serviceRestart m data) s fun t =>
      t.dev.power.state = .shutdown ∧ t.dev.power.shutdownStep = 3 ∧ (∃ c : CommitRun, t.dev.energy.commit = some c ∧ c.ring.kind = 1) ∧
      t.dev.nat Key.resetCause = 4 ∧ (∀ p, (t.dev.psafe p).enA = false ∧ (t.dev.psafe p).enB = false) ∧
      s.dev.reply m (.done Key.serviceRestart) ∈ t.dev.out ∧ t.mem = s.mem ∧ t.pending = s.pending

/-- R12, R481, R485, R486, R488, R490, R492: a frame starts with the page wanted, when the drive stands and the band allows it; a half that starts sets U of every
common it addresses, and its end clears U and toggles P; after the last step the page is shown. Rows the link repeats are counted; a next image whose check fails is discarded and drawn by no frame. -/
def Obligations.FramesDriveThePanel : Prop :=
  let ready (d : Dev) : Prop := d.displayUp = true ∧ d.driveUp = true
  let asks (d : Dev) : Bool := d.display.fullWanted || !d.display.set.partialUp
  (∀ (s : State) (full : Bool) (repeats : Nat), ready s.dev → s.dev.display.stopped = false → s.dev.display.frame = none → s.dev.display.wave.isSome = true →
    full = asks s.dev → s.dev.display.fullWanted = true ∨ frameLayers false s.dev.display.shown s.dev.wantedPage.1 ≠ [] →
    (s.dev.bandAllows = true →
      Completes (.frameStart ⟨full, true, repeats⟩) s fun t =>
        t.dev.nat Key.rowRepeatCount = min (s.dev.nat Key.rowRepeatCount + repeats) (Dev.top Key.rowRepeatCount) ∧
        (∃ f : FrameRun, t.dev.display.frame = some f ∧ f.full = full ∧ f.page = s.dev.wantedPage.1 ∧
          f.layers = frameLayers full s.dev.display.shown s.dev.wantedPage.1 ∧ f.begun = false) ∧
        t.dev.display.header.number = s.dev.display.header.number + 1 ∧ t.dev.display.header.running = true ∧ t.dev.display.fullWanted = false ∧
        t.dev.display.shown = s.dev.display.shown ∧ t.dev.display.ledger = s.dev.display.ledger ∧
        (∃ r : StepRec, t.dev.display.record = some r ∧ t.dev.out = s.dev.out ++ [.drive r]) ∧ Within [.free, .out, .obj, .display] s t) ∧
    (s.dev.bandAllows = false → s.dev.display.deferred = false → Completes (.frameStart ⟨full, true, repeats⟩) s fun t =>
      t.dev.display = { s.dev.display with deferred := true } ∧ t.dev.nat Key.displayState = 5 ∧
      Only [.display] [Key.deferredFrameCount, Key.displayState] s t) ∧
    Completes (.frameStart ⟨full, false, repeats⟩) s fun t =>
      t.dev.nat (Key.mismatchCount 15) = min (s.dev.nat (Key.mismatchCount 15) + 1) (Dev.top (Key.mismatchCount 15)) ∧
      t.dev.display = (if s.dev.display.interrupted = true then s.dev.display else { s.dev.display with cur := s.dev.pageOf s.dev.curEntry }) ∧
      Only [.display] [Key.mismatchCount 15] s t) ∧
  (∀ (s : State) (ok : Bool) (repeats : Nat), ready s.dev → s.dev.display.stopped = false → s.dev.display.frame = none → s.dev.display.wave.isSome = true →
    asks s.dev = false → frameLayers false s.dev.display.shown s.dev.wantedPage.1 = [] →
    Completes (.frameStart ⟨false, ok, repeats⟩) s fun t =>
      t.dev.display.shown = s.dev.wantedPage.1 ∧ t.dev.display.frame = none ∧ t.dev.nat Key.shownCommit = s.dev.wantedPage.1.commit ∧
      Only [.display] [Key.shownEntry, Key.shownCommit] s t) ∧
  (∀ (s : State) (full ok : Bool) (repeats : Nat), s.dev.display.stopped = true ∨ s.dev.display.frame.isSome = true ∨ s.dev.display.wave = none ∨ full ≠ asks s.dev →
    Completes (.frameStart ⟨full, ok, repeats⟩) s fun t => t = s) ∧
  (∀ (s : State) (f : FrameRun) (r : StepRec), ready s.dev → s.dev.display.frame = some f → s.dev.display.record = some r → f.begun = false →
    Completes .halfStartReport s fun t =>
      t.dev.display.frame = some { f with begun := true } ∧
      (∀ i : Fin 192, t.dev.display.ledger[i] = if i.val ∈ Dev.commonsOf f r then ((s.dev.display.ledger[i]).1, true) else s.dev.display.ledger[i]) ∧
      t.dev.nat Key.displayState = 2 ∧ Only [.display] [Key.displayState] s t) ∧
  (∀ (s : State) (f : FrameRun) (r : StepRec), ready s.dev → s.dev.display.frame = some f → s.dev.display.record = some r → f.begun = true →
    Completes .stepEndReport s fun t =>
      (∀ i : Fin 192, t.dev.display.ledger[i] =
        if i.val ∈ Dev.commonsOf f r then (!(s.dev.display.ledger[i]).1, false) else s.dev.display.ledger[i]) ∧
      ((∃ k, f.layers = [k]) → r.row ≠ 0xFF → f.rows = [r.row] →
        t.dev.display.frame = none ∧ t.dev.display.shown = f.page ∧ t.dev.display.header.running = false ∧ t.dev.out = s.dev.out ∧
        t.dev.nat Key.displayState = (if s.dev.display.set.railHold = 0 then 0 else 2)) ∧
      (r.row = 0xFF → f.layers ≠ [] → f.rows ≠ [] →
        t.dev.display.frame = some { f with
          prep := f.prep - 1, begun := false }) ∧
      (∀ a b rest, r.row ≠ 0xFF → f.layers ≠ [] → f.rows = a :: b :: rest →
        t.dev.display.frame = some { f with
          rows := b :: rest, begun := false }) ∧
      (∀ l k rows rest, r.row ≠ 0xFF → f.rows = [r.row] → f.layers = l :: (k, rows) :: rest → rows ≠ [] →
        ∃ x, t.dev.display.frame = some x ∧ x.layers = (k, rows) :: rest ∧ x.rows = rows ∧ x.begun = false) ∧
      Within [.out, .obj, .display] s t) ∧
  ∀ (s : State) (n : Nat), s.dev.display.railsTill = some n → s.dev.powered = true → s.dev.display.frame = none →
    s.dev.clocks.i8Lost = false →
    Completes .railHoldExpiry s fun t =>
      if n ≤ s.dev.nowMs ∨ s.dev.clocks.ref16Lost = true then t.dev.display = { s.dev.display with railsTill := none } ∧ t.dev.nat Key.displayState = 0 ∧
        Only [.display] [Key.displayState] s t
      else t = s

/-- R486, R488, R494 to R498: the panel temperature moves the band by one step with its hysteresis; a stopped drive that has been good for 100 ms is repaired, every
common with U toggled; refreshes ask for a full frame; a page's dwell brings the next page with the sequence and settings committed last, and interrupt pages end. -/
def Obligations.PagesTurnAndThePanelIsRepaired : Prop :=
  (∀ (s : State) (sensor : Option (Fin 16)) (x : Int) (w : Bytes), s.dev.powered = true → sensor = s.dev.panelSource → s.dev.display.wave = some w →
    s.dev.display.bandSet = true →
    Completes (.panelTemperatureReading sensor x) s fun t =>
      let b := s.dev.display.band
      t.dev.int Key.panelTemperature = x ∧
      t.dev.display = { s.dev.display with
        band := if b < 7 ∧ waveEdge w (b + 1) + 12 ≤ x then b + 1 else if 0 < b ∧ x < waveEdge w b - 12 then b - 1 else b } ∧
      Only [.display] [Key.panelTemperature] s t) ∧
  (∀ (s : State) (sensor : Option (Fin 16)) (x : Int), sensor ≠ s.dev.panelSource → Completes (.panelTemperatureReading sensor x) s fun t => t = s) ∧
  (∀ (s : State) (n : Nat), s.dev.displayUp = true → s.dev.driveUp = true → s.dev.display.stopped = true → s.dev.display.goodAt = some n →
    let l := (List.range 192).filter fun i => (s.dev.display.ledger.getD i (false, false)).2
    Completes .balanceRepair s fun t =>
      if n + 100 ≤ s.dev.nowMs then
        t.dev.out = s.dev.out ++ (match s.dev.display.record with | some r => if l = [] then [] else [.repair r l] | none => []) ∧
        t.dev.nat Key.balanceRepairCount =
          (if l = [] then s.dev.nat Key.balanceRepairCount else min (s.dev.nat Key.balanceRepairCount + 1) (Dev.top Key.balanceRepairCount)) ∧
        (∀ i : Fin 192, t.dev.display.ledger[i] =
          if (s.dev.display.ledger[i]).2 then (!(s.dev.display.ledger[i]).1, false) else s.dev.display.ledger[i]) ∧
        t.dev.display = { s.dev.display with
          ledger := t.dev.display.ledger, stopped := false, goodAt := none, fullWanted := true } ∧
        t.dev.nat Key.displayState = 0 ∧ Only [.display, .out] [Key.displayState, Key.balanceRepairCount] s t
      else t = s) ∧
  (∀ s : State, s.dev.displayUp = true →
    Completes .fullRefreshTimer s fun t =>
      t.dev.display = (if s.dev.display.lastFull + s.dev.display.set.refreshH * 3600000 ≤ s.dev.nowMs then { s.dev.display with fullWanted := true }
        else s.dev.display) ∧ Only [.display] [] s t) ∧
  (∀ (s : State) (m : HostMsg) (data : Bytes), s.dev.grants m = true → takes Key.refreshNow data = true →
    Completes (.refreshNow m data) s fun t =>
      t.dev.display = { s.dev.display with fullWanted := true } ∧ Served m (.done Key.refreshNow) [.display] [] s t) ∧
  (∀ s : State, s.dev.displayUp = true → s.dev.display.interrupted = false → s.dev.interruptPage = none →
    Completes .pageDwellExpiry s fun t =>
      if s.dev.display.dwellAt + 1000 * (s.dev.curEntry % 256) ≤ s.dev.nowMs then
        t.dev.display.scroll = s.dev.scrollEntries ++ s.dev.appended ∧
        t.dev.display.entry = (if s.dev.display.entry < (s.dev.scrollEntries ++ s.dev.appended).length then s.dev.display.entry + 1 else 1) ∧
        t.dev.display.dwellAt = s.dev.nowMs ∧
        t.dev.display.set = ⟨s.dev.nat Key.fullRefreshH, s.dev.flag Key.partialUpdate, s.dev.nat Key.panelSensor, s.dev.nat Key.railHoldMs,
          s.dev.nat Key.tokenPageS⟩ ∧
        t.dev.display.checkTill = (if s.dev.display.entry = 1 ∧ s.dev.nat Key.commissionState ≠ 2 then some (s.dev.nowMs + 10000)
          else s.dev.display.checkTill) ∧
        t.dev.display.frame = s.dev.display.frame ∧ Only [.display] [Key.scrollAppended] s t
      else t = s) ∧
  ∀ s : State, s.dev.powered = true →
    Completes .interruptPageExpiry s fun t =>
      t.dev.display = { s.dev.display with
        tokenTill := s.dev.display.tokenTill.filter fun n => s.dev.nowMs < n
        checkTill := s.dev.display.checkTill.filter fun n => s.dev.nowMs < n } ∧ Only [.display] [] s t

end
end

