-- ==== Sys2Proof/Laws/Frames.lean ====
section
/-! SUPPORT. What each function of the machine leaves alone: one lemma per function, over sets of parts written as masks. -/

namespace Sys2Proof.Machine

/-- The place of a part in a mask. -/
def Part.num : Part → Nat
  | .free => 0
  | .out => 1
  | .obj => 2
  | .time => 3
  | .clocks => 4
  | .crossings => 5
  | .refusals => 6
  | .mail => 7
  | .cores => 8
  | .activeB => 9
  | .power => 10
  | .dict => 11
  | .hosts => 12
  | .heart => 13
  | .ports => 14
  | .modules => 15
  | .site => 16
  | .safety => 17
  | .metro => 18
  | .energy => 19
  | .tariff => 20
  | .ledger => 21
  | .cvu => 22
  | .burl => 23
  | .update => 24
  | .canopy => 25
  | .display => 26
  | .held => 27

/-- Only the parts of the mask differ. -/
def Keeps (L : Nat) (a b : Dev) : Prop := ∀ x : Part, L.testBit x.num = false → x.same a b

theorem Part.same_refl (a : Dev) (x : Part) : x.same a a := by cases x <;> rfl
theorem Part.same_trans {a b c : Dev} {x : Part} (h : x.same a b) (g : x.same b c) : x.same a c := by
  cases x <;> exact Eq.trans h g

@[simp] theorem Keeps.refl (L : Nat) (a : Dev) : Keeps L a a := fun x _ => x.same_refl a
theorem Keeps.all (a b : Dev) : Keeps 268435455 a b := by
  intro x hx; cases x <;> (exfalso; revert hx; decide)
theorem Keeps.trans {L : Nat} {a b c : Dev} (h : Keeps L a b) (g : Keeps L b c) : Keeps L a c :=
  fun x hx => Part.same_trans (h x hx) (g x hx)
theorem Keeps.mono {L M : Nat} {a b : Dev} (hL : M ||| L = L) (h : Keeps M a b) : Keeps L a b := fun x hx => h x (by
  have := congrArg (fun n => n.testBit x.num) hL
  simp only [Nat.testBit_or, hx, Bool.or_false] at this
  exact this)
theorem Keeps.after {L M : Nat} {a b c : Dev} (hL : M ||| L = L) (g : Keeps M b c) (h : Keeps L a b) : Keeps L a c :=
  h.trans (g.mono hL)
theorem or_mono {A M L : Nat} (h : A ||| M = M) (hL : M ||| L = L) : A ||| L = L := by
  conv_lhs => rw [← hL, ← Nat.or_assoc, h]
  exact hL
theorem Keeps.foldl {α : Type} {L : Nat} {a : Dev} (l : List α) {f : Dev → α → Dev} {b : Dev} (h : Keeps L a b)
    (hf : ∀ e x, Keeps L a e → Keeps L a (f e x)) : Keeps L a (l.foldl f b) := by
  induction l generalizing b with
  | nil => exact h
  | cons x r ih => exact ih (hf b x h)
theorem Keeps.step {L : Nat} {a v : Dev} {f : Dev → Dev} (h : Keeps L a v) (hf : ∀ e, Keeps L a e → Keeps L a (f e)) :
    Keeps L a (have d := v; f d) := hf v h
theorem Keeps.name {α : Type} {L : Nat} {a : Dev} {v : α} {f : α → Dev} (hf : ∀ x, Keeps L a (f x)) : Keeps L a (have x := v; f x) := hf v
theorem Keeps.ite {L : Nat} {a b c : Dev} {p : Prop} [Decidable p] (h : Keeps L a b) (g : Keeps L a c) : Keeps L a (if p then b else c) := by
  split
  · exact h
  · exact g

@[simp] theorem keeps_free {L : Nat} {a b : Dev} (v_free : Nat) (hL : 1 ||| L = L) (h : Keeps L a b) :
    Keeps L a { b with free := v_free } := by
  refine Keeps.after hL (fun x hx => ?_) h
  cases x <;> first | rfl | (exfalso; revert hx; decide)

@[simp] theorem keeps_out {L : Nat} {a b : Dev} (v_out : List Out) (hL : 2 ||| L = L) (h : Keeps L a b) :
    Keeps L a { b with out := v_out } := by
  refine Keeps.after hL (fun x hx => ?_) h
  cases x <;> first | rfl | (exfalso; revert hx; decide)

@[simp] theorem keeps_obj {L : Nat} {a b : Dev} (v_obj : Store) (hL : 4 ||| L = L) (h : Keeps L a b) :
    Keeps L a { b with obj := v_obj } := by
  refine Keeps.after hL (fun x hx => ?_) h
  cases x <;> first | rfl | (exfalso; revert hx; decide)

@[simp] theorem keeps_time {L : Nat} {a b : Dev} (v_time : TimeSt) (hL : 8 ||| L = L) (h : Keeps L a b) :
    Keeps L a { b with time := v_time } := by
  refine Keeps.after hL (fun x hx => ?_) h
  cases x <;> first | rfl | (exfalso; revert hx; decide)

@[simp] theorem keeps_clocks {L : Nat} {a b : Dev} (v_clocks : Clocks) (hL : 16 ||| L = L) (h : Keeps L a b) :
    Keeps L a { b with clocks := v_clocks } := by
  refine Keeps.after hL (fun x hx => ?_) h
  cases x <;> first | rfl | (exfalso; revert hx; decide)

@[simp] theorem keeps_crossings {L : Nat} {a b : Dev} (v_crossings : Vector Crossing 58) (hL : 32 ||| L = L) (h : Keeps L a b) :
    Keeps L a { b with crossings := v_crossings } := by
  refine Keeps.after hL (fun x hx => ?_) h
  cases x <;> first | rfl | (exfalso; revert hx; decide)

@[simp] theorem keeps_refusals {L : Nat} {a b : Dev} (v_refusals : List RefusalCount) (hL : 64 ||| L = L) (h : Keeps L a b) :
    Keeps L a { b with refusals := v_refusals } := by
  refine Keeps.after hL (fun x hx => ?_) h
  cases x <;> first | rfl | (exfalso; revert hx; decide)

@[simp] theorem keeps_mail {L : Nat} {a b : Dev} (v_mail : Vector (List Mail) 12) (hL : 128 ||| L = L) (h : Keeps L a b) :
    Keeps L a { b with mail := v_mail } := by
  refine Keeps.after hL (fun x hx => ?_) h
  cases x <;> first | rfl | (exfalso; revert hx; decide)

@[simp] theorem keeps_cores {L : Nat} {a b : Dev} (v_cores : Vector CoreRun 12) (hL : 256 ||| L = L) (h : Keeps L a b) :
    Keeps L a { b with cores := v_cores } := by
  refine Keeps.after hL (fun x hx => ?_) h
  cases x <;> first | rfl | (exfalso; revert hx; decide)

@[simp] theorem keeps_activeB {L : Nat} {a b : Dev} (v_activeB : Bool) (hL : 512 ||| L = L) (h : Keeps L a b) :
    Keeps L a { b with activeB := v_activeB } := by
  refine Keeps.after hL (fun x hx => ?_) h
  cases x <;> first | rfl | (exfalso; revert hx; decide)

@[simp] theorem keeps_power {L : Nat} {a b : Dev} (v_power : Power) (hL : 1024 ||| L = L) (h : Keeps L a b) :
    Keeps L a { b with power := v_power } := by
  refine Keeps.after hL (fun x hx => ?_) h
  cases x <;> first | rfl | (exfalso; revert hx; decide)

@[simp] theorem keeps_dict {L : Nat} {a b : Dev} (v_dict : Dict) (hL : 2048 ||| L = L) (h : Keeps L a b) :
    Keeps L a { b with dict := v_dict } := by
  refine Keeps.after hL (fun x hx => ?_) h
  cases x <;> first | rfl | (exfalso; revert hx; decide)

@[simp] theorem keeps_hosts {L : Nat} {a b : Dev} (v_hosts : Hosts) (hL : 4096 ||| L = L) (h : Keeps L a b) :
    Keeps L a { b with hosts := v_hosts } := by
  refine Keeps.after hL (fun x hx => ?_) h
  cases x <;> first | rfl | (exfalso; revert hx; decide)

@[simp] theorem keeps_heart {L : Nat} {a b : Dev} (v_heart : Heartwood) (hL : 8192 ||| L = L) (h : Keeps L a b) :
    Keeps L a { b with heart := v_heart } := by
  refine Keeps.after hL (fun x hx => ?_) h
  cases x <;> first | rfl | (exfalso; revert hx; decide)

@[simp] theorem keeps_ports {L : Nat} {a b : Dev} (v_ports : Vector Port 8) (hL : 16384 ||| L = L) (h : Keeps L a b) :
    Keeps L a { b with ports := v_ports } := by
  refine Keeps.after hL (fun x hx => ?_) h
  cases x <;> first | rfl | (exfalso; revert hx; decide)

@[simp] theorem keeps_modules {L : Nat} {a b : Dev} (v_modules : Vector Module 16) (hL : 32768 ||| L = L) (h : Keeps L a b) :
    Keeps L a { b with modules := v_modules } := by
  refine Keeps.after hL (fun x hx => ?_) h
  cases x <;> first | rfl | (exfalso; revert hx; decide)

@[simp] theorem keeps_site {L : Nat} {a b : Dev} (v_site : Site) (hL : 65536 ||| L = L) (h : Keeps L a b) :
    Keeps L a { b with site := v_site } := by
  refine Keeps.after hL (fun x hx => ?_) h
  cases x <;> first | rfl | (exfalso; revert hx; decide)

@[simp] theorem keeps_safety {L : Nat} {a b : Dev} (v_safety : Safety) (hL : 131072 ||| L = L) (h : Keeps L a b) :
    Keeps L a { b with safety := v_safety } := by
  refine Keeps.after hL (fun x hx => ?_) h
  cases x <;> first | rfl | (exfalso; revert hx; decide)

@[simp] theorem keeps_metro {L : Nat} {a b : Dev} (v_metro : Metro) (hL : 262144 ||| L = L) (h : Keeps L a b) :
    Keeps L a { b with metro := v_metro } := by
  refine Keeps.after hL (fun x hx => ?_) h
  cases x <;> first | rfl | (exfalso; revert hx; decide)

@[simp] theorem keeps_energy {L : Nat} {a b : Dev} (v_energy : Energy) (hL : 524288 ||| L = L) (h : Keeps L a b) :
    Keeps L a { b with energy := v_energy } := by
  refine Keeps.after hL (fun x hx => ?_) h
  cases x <;> first | rfl | (exfalso; revert hx; decide)

@[simp] theorem keeps_tariff {L : Nat} {a b : Dev} (v_tariff : Tariff) (hL : 1048576 ||| L = L) (h : Keeps L a b) :
    Keeps L a { b with tariff := v_tariff } := by
  refine Keeps.after hL (fun x hx => ?_) h
  cases x <;> first | rfl | (exfalso; revert hx; decide)

@[simp] theorem keeps_ledger {L : Nat} {a b : Dev} (v_ledger : Ledger) (hL : 2097152 ||| L = L) (h : Keeps L a b) :
    Keeps L a { b with ledger := v_ledger } := by
  refine Keeps.after hL (fun x hx => ?_) h
  cases x <;> first | rfl | (exfalso; revert hx; decide)

@[simp] theorem keeps_cvu {L : Nat} {a b : Dev} (v_cvu : Cvu) (hL : 4194304 ||| L = L) (h : Keeps L a b) :
    Keeps L a { b with cvu := v_cvu } := by
  refine Keeps.after hL (fun x hx => ?_) h
  cases x <;> first | rfl | (exfalso; revert hx; decide)

@[simp] theorem keeps_burl {L : Nat} {a b : Dev} (v_burl : Burl) (hL : 8388608 ||| L = L) (h : Keeps L a b) :
    Keeps L a { b with burl := v_burl } := by
  refine Keeps.after hL (fun x hx => ?_) h
  cases x <;> first | rfl | (exfalso; revert hx; decide)

@[simp] theorem keeps_update {L : Nat} {a b : Dev} (v_update : Update) (hL : 16777216 ||| L = L) (h : Keeps L a b) :
    Keeps L a { b with update := v_update } := by
  refine Keeps.after hL (fun x hx => ?_) h
  cases x <;> first | rfl | (exfalso; revert hx; decide)

@[simp] theorem keeps_canopy {L : Nat} {a b : Dev} (v_canopy : Canopy) (hL : 33554432 ||| L = L) (h : Keeps L a b) :
    Keeps L a { b with canopy := v_canopy } := by
  refine Keeps.after hL (fun x hx => ?_) h
  cases x <;> first | rfl | (exfalso; revert hx; decide)

@[simp] theorem keeps_display {L : Nat} {a b : Dev} (v_display : Display) (hL : 67108864 ||| L = L) (h : Keeps L a b) :
    Keeps L a { b with display := v_display } := by
  refine Keeps.after hL (fun x hx => ?_) h
  cases x <;> first | rfl | (exfalso; revert hx; decide)

@[simp] theorem keeps_held {L : Nat} {a b : Dev} (v_held : List Out) (hL : 134217728 ||| L = L) (h : Keeps L a b) :
    Keeps L a { b with held := v_held } := by
  refine Keeps.after hL (fun x hx => ?_) h
  cases x <;> first | rfl | (exfalso; revert hx; decide)

@[simp] theorem keeps_ports_safety {L : Nat} {a b : Dev} (v_ports : Vector Port 8) (v_safety : Safety) (hL : 147456 ||| L = L) (h : Keeps L a b) :
    Keeps L a { b with ports := v_ports, safety := v_safety } := by
  refine Keeps.after hL (fun x hx => ?_) h
  cases x <;> first | rfl | (exfalso; revert hx; decide)

@[simp] theorem keeps_clocks_safety {L : Nat} {a b : Dev} (v_clocks : Clocks) (v_safety : Safety) (hL : 131088 ||| L = L) (h : Keeps L a b) :
    Keeps L a { b with clocks := v_clocks, safety := v_safety } := by
  refine Keeps.after hL (fun x hx => ?_) h
  cases x <;> first | rfl | (exfalso; revert hx; decide)

@[simp] theorem keeps_time_clocks {L : Nat} {a b : Dev} (v_time : TimeSt) (v_clocks : Clocks) (hL : 24 ||| L = L) (h : Keeps L a b) :
    Keeps L a { b with time := v_time, clocks := v_clocks } := by
  refine Keeps.after hL (fun x hx => ?_) h
  cases x <;> first | rfl | (exfalso; revert hx; decide)

@[simp] theorem keeps_metro_energy {L : Nat} {a b : Dev} (v_metro : Metro) (v_energy : Energy) (hL : 786432 ||| L = L) (h : Keeps L a b) :
    Keeps L a { b with metro := v_metro, energy := v_energy } := by
  refine Keeps.after hL (fun x hx => ?_) h
  cases x <;> first | rfl | (exfalso; revert hx; decide)

@[simp] theorem keeps_activeB_dict {L : Nat} {a b : Dev} (v_activeB : Bool) (v_dict : Dict) (hL : 2560 ||| L = L) (h : Keeps L a b) :
    Keeps L a { b with activeB := v_activeB, dict := v_dict } := by
  refine Keeps.after hL (fun x hx => ?_) h
  cases x <;> first | rfl | (exfalso; revert hx; decide)

@[simp] theorem keeps_time_power {L : Nat} {a b : Dev} (v_time : TimeSt) (v_power : Power) (hL : 1032 ||| L = L) (h : Keeps L a b) :
    Keeps L a { b with time := v_time, power := v_power } := by
  refine Keeps.after hL (fun x hx => ?_) h
  cases x <;> first | rfl | (exfalso; revert hx; decide)

@[simp] theorem keeps_clocks_power {L : Nat} {a b : Dev} (v_clocks : Clocks) (v_power : Power) (hL : 1040 ||| L = L) (h : Keeps L a b) :
    Keeps L a { b with clocks := v_clocks, power := v_power } := by
  refine Keeps.after hL (fun x hx => ?_) h
  cases x <;> first | rfl | (exfalso; revert hx; decide)

/-- The mask of a list of parts. -/
def Part.mask : List Part → Nat
  | [] => 0
  | x :: r => 2 ^ x.num ||| Part.mask r

theorem Part.num_inj {x y : Part} (h : x.num = y.num) : x = y := by
  cases x <;> cases y <;> first | rfl | (exfalso; revert h; decide)

theorem Part.mask_testBit (l : List Part) (x : Part) (h : x ∉ l) : (Part.mask l).testBit x.num = false := by
  induction l with
  | nil => simp [Part.mask]
  | cons y r ih =>
    simp only [List.mem_cons, not_or] at h
    have hn : y.num ≠ x.num := fun e => h.1 (Part.num_inj e.symm)
    simp [Part.mask, Nat.testBit_or, ih h.2, hn]

/-- What a function keeps, said of the states before and after it. -/
theorem Keeps.within {M : Nat} {s : State} {e : Dev} {parts : List Part} (h : Keeps M s.dev e) (hp : M ||| Part.mask parts = Part.mask parts) :
    Within parts s { s with dev := e } :=
  ⟨rfl, rfl, rfl, fun x hx => (h.mono hp) x (Part.mask_testBit parts x hx)⟩

theorem Keeps.only {M : Nat} {s : State} {e : Dev} {parts : List Part} {keys : List Nat} (h : Keeps M s.dev e)
    (hp : M ||| Part.mask (.obj :: parts) = Part.mask (.obj :: parts)) (hk : ∀ k, k ∉ keys → e.val k = s.dev.val k) :
    Only parts keys s { s with dev := e } :=
  ⟨rfl, rfl, rfl, fun x ho hx => (h.mono hp) x (Part.mask_testBit _ x (by simp [ho, hx])), hk⟩

/-- With no object among the parts, no object changes. -/
theorem Keeps.only_nil {M : Nat} {s : State} {e : Dev} {parts : List Part} (h : Keeps M s.dev e) (hm : M.testBit 2 = false)
    (hp : M ||| Part.mask (.obj :: parts) = Part.mask (.obj :: parts)) : Only parts [] s { s with dev := e } :=
  h.only hp fun k _ => by
    have : s.dev.obj = e.obj := h .obj hm
    simp only [Dev.val, this]

theorem Keeps.get_free {L : Nat} {a b : Dev} (h : Keeps L a b) (hL : L.testBit 0 = false) : b.free = a.free := (h .free hL).symm
theorem Keeps.get_out {L : Nat} {a b : Dev} (h : Keeps L a b) (hL : L.testBit 1 = false) : b.out = a.out := (h .out hL).symm
theorem Keeps.get_obj {L : Nat} {a b : Dev} (h : Keeps L a b) (hL : L.testBit 2 = false) : b.obj = a.obj := (h .obj hL).symm
theorem Keeps.get_time {L : Nat} {a b : Dev} (h : Keeps L a b) (hL : L.testBit 3 = false) : b.time = a.time := (h .time hL).symm
theorem Keeps.get_clocks {L : Nat} {a b : Dev} (h : Keeps L a b) (hL : L.testBit 4 = false) : b.clocks = a.clocks := (h .clocks hL).symm
theorem Keeps.get_crossings {L : Nat} {a b : Dev} (h : Keeps L a b) (hL : L.testBit 5 = false) : b.crossings = a.crossings := (h .crossings hL).symm
theorem Keeps.get_refusals {L : Nat} {a b : Dev} (h : Keeps L a b) (hL : L.testBit 6 = false) : b.refusals = a.refusals := (h .refusals hL).symm
theorem Keeps.get_mail {L : Nat} {a b : Dev} (h : Keeps L a b) (hL : L.testBit 7 = false) : b.mail = a.mail := (h .mail hL).symm
theorem Keeps.get_cores {L : Nat} {a b : Dev} (h : Keeps L a b) (hL : L.testBit 8 = false) : b.cores = a.cores := (h .cores hL).symm
theorem Keeps.get_activeB {L : Nat} {a b : Dev} (h : Keeps L a b) (hL : L.testBit 9 = false) : b.activeB = a.activeB := (h .activeB hL).symm
theorem Keeps.get_power {L : Nat} {a b : Dev} (h : Keeps L a b) (hL : L.testBit 10 = false) : b.power = a.power := (h .power hL).symm
theorem Keeps.get_dict {L : Nat} {a b : Dev} (h : Keeps L a b) (hL : L.testBit 11 = false) : b.dict = a.dict := (h .dict hL).symm
theorem Keeps.get_hosts {L : Nat} {a b : Dev} (h : Keeps L a b) (hL : L.testBit 12 = false) : b.hosts = a.hosts := (h .hosts hL).symm
theorem Keeps.get_heart {L : Nat} {a b : Dev} (h : Keeps L a b) (hL : L.testBit 13 = false) : b.heart = a.heart := (h .heart hL).symm
theorem Keeps.get_ports {L : Nat} {a b : Dev} (h : Keeps L a b) (hL : L.testBit 14 = false) : b.ports = a.ports := (h .ports hL).symm
theorem Keeps.get_modules {L : Nat} {a b : Dev} (h : Keeps L a b) (hL : L.testBit 15 = false) : b.modules = a.modules := (h .modules hL).symm
theorem Keeps.get_site {L : Nat} {a b : Dev} (h : Keeps L a b) (hL : L.testBit 16 = false) : b.site = a.site := (h .site hL).symm
theorem Keeps.get_safety {L : Nat} {a b : Dev} (h : Keeps L a b) (hL : L.testBit 17 = false) : b.safety = a.safety := (h .safety hL).symm
theorem Keeps.get_metro {L : Nat} {a b : Dev} (h : Keeps L a b) (hL : L.testBit 18 = false) : b.metro = a.metro := (h .metro hL).symm
theorem Keeps.get_energy {L : Nat} {a b : Dev} (h : Keeps L a b) (hL : L.testBit 19 = false) : b.energy = a.energy := (h .energy hL).symm
theorem Keeps.get_tariff {L : Nat} {a b : Dev} (h : Keeps L a b) (hL : L.testBit 20 = false) : b.tariff = a.tariff := (h .tariff hL).symm
theorem Keeps.get_ledger {L : Nat} {a b : Dev} (h : Keeps L a b) (hL : L.testBit 21 = false) : b.ledger = a.ledger := (h .ledger hL).symm
theorem Keeps.get_cvu {L : Nat} {a b : Dev} (h : Keeps L a b) (hL : L.testBit 22 = false) : b.cvu = a.cvu := (h .cvu hL).symm
theorem Keeps.get_burl {L : Nat} {a b : Dev} (h : Keeps L a b) (hL : L.testBit 23 = false) : b.burl = a.burl := (h .burl hL).symm
theorem Keeps.get_update {L : Nat} {a b : Dev} (h : Keeps L a b) (hL : L.testBit 24 = false) : b.update = a.update := (h .update hL).symm
theorem Keeps.get_canopy {L : Nat} {a b : Dev} (h : Keeps L a b) (hL : L.testBit 25 = false) : b.canopy = a.canopy := (h .canopy hL).symm
theorem Keeps.get_display {L : Nat} {a b : Dev} (h : Keeps L a b) (hL : L.testBit 26 = false) : b.display = a.display := (h .display hL).symm
theorem Keeps.get_held {L : Nat} {a b : Dev} (h : Keeps L a b) (hL : L.testBit 27 = false) : b.held = a.held := (h .held hL).symm

end Sys2Proof.Machine
end

