-- ==== Sys2Proof/Laws/FramesHosts.lean ====
section
/-! SUPPORT. What each function leaves alone: sessions, islands and crossings. -/

set_option linter.unusedSimpArgs false
set_option linter.unusedTactic false
set_option linter.unreachableTactic false
set_option linter.unnecessarySeqFocus false

namespace Sys2Proof.Machine

theorem Dev.put_keeps0 (d : Dev) (k : Nat) (v : Val) : Keeps 4 d (Dev.put d k v) := by
  unfold Dev.put
  simp (maxSteps := 400000) (maxDischargeDepth := 99) +contextual [Keeps.foldl, Keeps.ite, Dev.draw]
@[simp] theorem Dev.put_keeps {L : Nat} {d0 : Dev} (d : Dev) (k : Nat) (v : Val) (hmask : 4 ||| L = L) (hkeep : Keeps L d0 d) : Keeps L d0 (Dev.put d k v) :=
  .after hmask (Dev.put_keeps0 d k v) hkeep

theorem Dev.putInt_keeps0 (d : Dev) (k : Nat) (n : Int) : Keeps 4 d (Dev.putInt d k n) := by
  unfold Dev.putInt
  simp (maxSteps := 400000) (maxDischargeDepth := 99) +contextual [Keeps.foldl, Keeps.ite, Dev.draw]
@[simp] theorem Dev.putInt_keeps {L : Nat} {d0 : Dev} (d : Dev) (k : Nat) (n : Int) (hmask : 4 ||| L = L) (hkeep : Keeps L d0 d) : Keeps L d0 (Dev.putInt d k n) :=
  .after hmask (Dev.putInt_keeps0 d k n) hkeep

theorem Dev.putNat_keeps0 (d : Dev) (k : Nat) (n : Nat) : Keeps 4 d (Dev.putNat d k n) := by
  unfold Dev.putNat
  simp (maxSteps := 400000) (maxDischargeDepth := 99) +contextual [Keeps.foldl, Keeps.ite, Dev.draw]
@[simp] theorem Dev.putNat_keeps {L : Nat} {d0 : Dev} (d : Dev) (k : Nat) (n : Nat) (hmask : 4 ||| L = L) (hkeep : Keeps L d0 d) : Keeps L d0 (Dev.putNat d k n) :=
  .after hmask (Dev.putNat_keeps0 d k n) hkeep

theorem Dev.putFlag_keeps0 (d : Dev) (k : Nat) (b : Bool) : Keeps 4 d (Dev.putFlag d k b) := by
  unfold Dev.putFlag
  simp (maxSteps := 400000) (maxDischargeDepth := 99) +contextual [Keeps.foldl, Keeps.ite, Dev.draw]
@[simp] theorem Dev.putFlag_keeps {L : Nat} {d0 : Dev} (d : Dev) (k : Nat) (b : Bool) (hmask : 4 ||| L = L) (hkeep : Keeps L d0 d) : Keeps L d0 (Dev.putFlag d k b) :=
  .after hmask (Dev.putFlag_keeps0 d k b) hkeep

theorem Dev.putBytes_keeps0 (d : Dev) (k : Nat) (b : Bytes) : Keeps 4 d (Dev.putBytes d k b) := by
  unfold Dev.putBytes
  simp (maxSteps := 400000) (maxDischargeDepth := 99) +contextual [Keeps.foldl, Keeps.ite, Dev.draw]
@[simp] theorem Dev.putBytes_keeps {L : Nat} {d0 : Dev} (d : Dev) (k : Nat) (b : Bytes) (hmask : 4 ||| L = L) (hkeep : Keeps L d0 d) : Keeps L d0 (Dev.putBytes d k b) :=
  .after hmask (Dev.putBytes_keeps0 d k b) hkeep

theorem Dev.bump_keeps0 (d : Dev) (k : Nat) (by_ : Nat) : Keeps 4 d (Dev.bump d k by_) := by
  unfold Dev.bump
  simp (maxSteps := 400000) (maxDischargeDepth := 99) +contextual [Keeps.foldl, Keeps.ite, Dev.draw]
@[simp] theorem Dev.bump_keeps {L : Nat} {d0 : Dev} (d : Dev) (k : Nat) (by_ : Nat) (hmask : 4 ||| L = L) (hkeep : Keeps L d0 d) : Keeps L d0 (Dev.bump d k by_) :=
  .after hmask (Dev.bump_keeps0 d k by_) hkeep

theorem Dev.putAll_keeps0 (l : Store) (d : Dev) : Keeps 4 d (d.putAll l) := by
  induction l generalizing d with
  | nil => exact Keeps.refl _ _
  | cons x r ih =>
    obtain ⟨k, v⟩ := x
    rw [Dev.putAll]
    exact (Dev.put_keeps0 d k v).trans (ih _)
@[simp] theorem Dev.putAll_keeps {L : Nat} {d0 : Dev} (d : Dev) (l : Store) (hL : 4 ||| L = L) (h : Keeps L d0 d) : Keeps L d0 (d.putAll l) :=
  .after hL (d.putAll_keeps0 l) h

@[simp] theorem Dev.draw_keeps {L : Nat} {d0 : Dev} (d : Dev) (hL : 1 ||| L = L) (h : Keeps L d0 d) : Keeps L d0 d.draw.2 :=
  keeps_free (d.free + 1) hL h

theorem Dev.say_keeps0 (d : Dev) (o : Out) : Keeps 2 d (Dev.say d o) := by
  unfold Dev.say
  simp (maxSteps := 400000) (maxDischargeDepth := 99) +contextual [Keeps.foldl, Keeps.ite, Dev.draw]
@[simp] theorem Dev.say_keeps {L : Nat} {d0 : Dev} (d : Dev) (o : Out) (hmask : 2 ||| L = L) (hkeep : Keeps L d0 d) : Keeps L d0 (Dev.say d o) :=
  .after hmask (Dev.say_keeps0 d o) hkeep

theorem Dev.count_keeps0 (d : Dev) (i : Fin 18) (key v : Nat) : Keeps 8388612 d (Dev.count d i key v) := by
  unfold Dev.count
  simp (maxSteps := 400000) (maxDischargeDepth := 99) +contextual [Keeps.foldl, Keeps.ite, Dev.draw]
@[simp] theorem Dev.count_keeps {L : Nat} {d0 : Dev} (d : Dev) (i : Fin 18) (key v : Nat) (hmask : 8388612 ||| L = L) (hkeep : Keeps L d0 d) : Keeps L d0 (Dev.count d i key v) :=
  .after hmask (Dev.count_keeps0 d i key v) hkeep

theorem Dev.storeEntry_keeps0 (d : Dev) (e : LegalEntry) : Keeps 8192 d (Dev.storeEntry d e) := by
  unfold Dev.storeEntry
  simp (maxSteps := 400000) (maxDischargeDepth := 99) +contextual [Keeps.foldl, Keeps.ite, Dev.draw]
@[simp] theorem Dev.storeEntry_keeps {L : Nat} {d0 : Dev} (d : Dev) (e : LegalEntry) (hmask : 8192 ||| L = L) (hkeep : Keeps L d0 d) : Keeps L d0 (Dev.storeEntry d e) :=
  .after hmask (Dev.storeEntry_keeps0 d e) hkeep

theorem Dev.legalAt_keeps0 (d : Dev) (time code flags entity : Nat) (data : Bytes) : Keeps 8192 d (Dev.legalAt d time code flags entity data) := by
  unfold Dev.legalAt
  simp (maxSteps := 400000) (maxDischargeDepth := 99) +contextual [Keeps.foldl, Keeps.ite, Dev.draw]
@[simp] theorem Dev.legalAt_keeps {L : Nat} {d0 : Dev} (d : Dev) (time code flags entity : Nat) (data : Bytes) (hmask : 8192 ||| L = L) (hkeep : Keeps L d0 d) : Keeps L d0 (Dev.legalAt d time code flags entity data) :=
  .after hmask (Dev.legalAt_keeps0 d time code flags entity data) hkeep

theorem Dev.legal_keeps0 (d : Dev) (code entity : Nat) (data : Bytes) : Keeps 8192 d (Dev.legal d code entity data) := by
  unfold Dev.legal
  simp (maxSteps := 400000) (maxDischargeDepth := 99) +contextual [Keeps.foldl, Keeps.ite, Dev.draw]
@[simp] theorem Dev.legal_keeps {L : Nat} {d0 : Dev} (d : Dev) (code entity : Nat) (data : Bytes) (hmask : 8192 ||| L = L) (hkeep : Keeps L d0 d) : Keeps L d0 (Dev.legal d code entity data) :=
  .after hmask (Dev.legal_keeps0 d code entity data) hkeep

theorem Dev.general_keeps0 (d : Dev) (ev : GenEvent) : Keeps 8192 d (Dev.general d ev) := by
  unfold Dev.general
  simp (maxSteps := 400000) (maxDischargeDepth := 99) +contextual [Keeps.foldl, Keeps.ite, Dev.draw]
@[simp] theorem Dev.general_keeps {L : Nat} {d0 : Dev} (d : Dev) (ev : GenEvent) (hmask : 8192 ||| L = L) (hkeep : Keeps L d0 d) : Keeps L d0 (Dev.general d ev) :=
  .after hmask (Dev.general_keeps0 d ev) hkeep

theorem Dev.setCore_keeps0 (d : Dev) (c : CoreId) (r : CoreRun) : Keeps 256 d (Dev.setCore d c r) := by
  unfold Dev.setCore
  simp (maxSteps := 400000) (maxDischargeDepth := 99) +contextual [Keeps.foldl, Keeps.ite, Dev.draw]
@[simp] theorem Dev.setCore_keeps {L : Nat} {d0 : Dev} (d : Dev) (c : CoreId) (r : CoreRun) (hmask : 256 ||| L = L) (hkeep : Keeps L d0 d) : Keeps L d0 (Dev.setCore d c r) :=
  .after hmask (Dev.setCore_keeps0 d c r) hkeep

theorem Dev.setSlot_keeps0 (d : Dev) (s : SlotId) (f : HostSlot → HostSlot) : Keeps 4096 d (Dev.setSlot d s f) := by
  unfold Dev.setSlot
  simp (maxSteps := 400000) (maxDischargeDepth := 99) +contextual [Keeps.foldl, Keeps.ite, Dev.draw]
@[simp] theorem Dev.setSlot_keeps {L : Nat} {d0 : Dev} (d : Dev) (s : SlotId) (f : HostSlot → HostSlot) (hmask : 4096 ||| L = L) (hkeep : Keeps L d0 d) : Keeps L d0 (Dev.setSlot d s f) :=
  .after hmask (Dev.setSlot_keeps0 d s f) hkeep

theorem Dev.transmit_keeps0 (d : Dev) (i : Iface) (via : Via) (o : Out) (body : Nat) : Keeps 134217730 d (Dev.transmit d i via o body) := by
  unfold Dev.transmit
  simp (maxSteps := 400000) (maxDischargeDepth := 99) +contextual [Keeps.foldl, Keeps.ite, Dev.draw]
@[simp] theorem Dev.transmit_keeps {L : Nat} {d0 : Dev} (d : Dev) (i : Iface) (via : Via) (o : Out) (body : Nat) (hmask : 134217730 ||| L = L) (hkeep : Keeps L d0 d) : Keeps L d0 (Dev.transmit d i via o body) :=
  .after hmask (Dev.transmit_keeps0 d i via o body) hkeep

theorem Dev.sendClear_keeps0 (d : Dev) (s : SlotId) (i : Iface) (via : Via) (reqId : Byte) (r : HostReply) : Keeps 134217730 d (Dev.sendClear d s i via reqId r) := by
  unfold Dev.sendClear
  simp (maxSteps := 400000) (maxDischargeDepth := 99) +contextual [Keeps.foldl, Keeps.ite, Dev.draw]
@[simp] theorem Dev.sendClear_keeps {L : Nat} {d0 : Dev} (d : Dev) (s : SlotId) (i : Iface) (via : Via) (reqId : Byte) (r : HostReply) (hmask : 134217730 ||| L = L) (hkeep : Keeps L d0 d) : Keeps L d0 (Dev.sendClear d s i via reqId r) :=
  .after hmask (Dev.sendClear_keeps0 d s i via reqId r) hkeep

theorem Dev.send_keeps0 (d : Dev) (s : SlotId) (i : Iface) (via : Via) (reqId : Byte) (r : HostReply) : Keeps 134221826 d (Dev.send d s i via reqId r) := by
  unfold Dev.send
  simp (maxSteps := 400000) (maxDischargeDepth := 99) +contextual [Keeps.foldl, Keeps.ite, Dev.draw]
@[simp] theorem Dev.send_keeps {L : Nat} {d0 : Dev} (d : Dev) (s : SlotId) (i : Iface) (via : Via) (reqId : Byte) (r : HostReply) (hmask : 134221826 ||| L = L) (hkeep : Keeps L d0 d) : Keeps L d0 (Dev.send d s i via reqId r) :=
  .after hmask (Dev.send_keeps0 d s i via reqId r) hkeep

theorem Dev.endRegistration_keeps0 (d : Dev) (s : SlotId) : Keeps 4096 d (Dev.endRegistration d s) := by
  unfold Dev.endRegistration
  simp (maxSteps := 400000) (maxDischargeDepth := 99) +contextual [Keeps.foldl, Keeps.ite, Dev.draw]
@[simp] theorem Dev.endRegistration_keeps {L : Nat} {d0 : Dev} (d : Dev) (s : SlotId) (hmask : 4096 ||| L = L) (hkeep : Keeps L d0 d) : Keeps L d0 (Dev.endRegistration d s) :=
  .after hmask (Dev.endRegistration_keeps0 d s) hkeep

theorem Dev.zeroRegistration_keeps0 (d : Dev) (s : SlotId) : Keeps 4096 d (Dev.zeroRegistration d s) := by
  unfold Dev.zeroRegistration
  simp (maxSteps := 400000) (maxDischargeDepth := 99) +contextual [Keeps.foldl, Keeps.ite, Dev.draw]
@[simp] theorem Dev.zeroRegistration_keeps {L : Nat} {d0 : Dev} (d : Dev) (s : SlotId) (hmask : 4096 ||| L = L) (hkeep : Keeps L d0 d) : Keeps L d0 (Dev.zeroRegistration d s) :=
  .after hmask (Dev.zeroRegistration_keeps0 d s) hkeep

theorem Dev.owed_keeps0 (d : Dev) (a : Ack) : Keeps 4096 d (Dev.owed d a) := by
  unfold Dev.owed
  simp (maxSteps := 400000) (maxDischargeDepth := 99) +contextual [Keeps.foldl, Keeps.ite, Dev.draw]
@[simp] theorem Dev.owed_keeps {L : Nat} {d0 : Dev} (d : Dev) (a : Ack) (hmask : 4096 ||| L = L) (hkeep : Keeps L d0 d) : Keeps L d0 (Dev.owed d a) :=
  .after hmask (Dev.owed_keeps0 d a) hkeep

theorem Dev.answer_keeps0 (d : Dev) (a : Ack) (r : HostReply) : Keeps 134221826 d (Dev.answer d a r) := by
  unfold Dev.answer
  simp (maxSteps := 400000) (maxDischargeDepth := 99) +contextual [Keeps.foldl, Keeps.ite, Dev.draw]
@[simp] theorem Dev.answer_keeps {L : Nat} {d0 : Dev} (d : Dev) (a : Ack) (r : HostReply) (hmask : 134221826 ||| L = L) (hkeep : Keeps L d0 d) : Keeps L d0 (Dev.answer d a r) :=
  .after hmask (Dev.answer_keeps0 d a r) hkeep

theorem Dev.noteAbort_keeps0 (d : Dev) (s : SlotId) (code key : Nat) : Keeps 4 d (Dev.noteAbort d s code key) := by
  unfold Dev.noteAbort
  simp (maxSteps := 400000) (maxDischargeDepth := 99) +contextual [Keeps.foldl, Keeps.ite, Dev.draw]
@[simp] theorem Dev.noteAbort_keeps {L : Nat} {d0 : Dev} (d : Dev) (s : SlotId) (code key : Nat) (hmask : 4 ||| L = L) (hkeep : Keeps L d0 d) : Keeps L d0 (Dev.noteAbort d s code key) :=
  .after hmask (Dev.noteAbort_keeps0 d s code key) hkeep

theorem Dev.abort_keeps0 (d : Dev) (a : Ack) (code : Nat) : Keeps 134221830 d (Dev.abort d a code) := by
  unfold Dev.abort
  simp (maxSteps := 400000) (maxDischargeDepth := 99) +contextual [Keeps.foldl, Keeps.ite, Dev.draw]
@[simp] theorem Dev.abort_keeps {L : Nat} {d0 : Dev} (d : Dev) (a : Ack) (code : Nat) (hmask : 134221830 ||| L = L) (hkeep : Keeps L d0 d) : Keeps L d0 (Dev.abort d a code) :=
  .after hmask (Dev.abort_keeps0 d a code) hkeep

theorem Dev.abortClear_keeps0 (d : Dev) (m : HostMsg) (key : Nat) : Keeps 134221830 d (Dev.abortClear d m key) := by
  unfold Dev.abortClear
  simp (maxSteps := 400000) (maxDischargeDepth := 99) +contextual [Keeps.foldl, Keeps.ite, Dev.draw]
@[simp] theorem Dev.abortClear_keeps {L : Nat} {d0 : Dev} (d : Dev) (m : HostMsg) (key : Nat) (hmask : 134221830 ||| L = L) (hkeep : Keeps L d0 d) : Keeps L d0 (Dev.abortClear d m key) :=
  .after hmask (Dev.abortClear_keeps0 d m key) hkeep

theorem receive_keeps0 (d : Dev) (m : HostMsg) (key : Nat) :
    match receive d m key with | .accepted e => Keeps 134221830 d e | .dropped e => Keeps 134221830 d e := by
  cases hr : receive d m key <;> simp only [] <;> unfold receive at hr <;> (repeat' split at hr) <;>
    first | cases hr; done | (obtain rfl := Receipt.accepted.inj hr; simp (maxSteps := 400000) (maxDischargeDepth := 99) +contextual [Keeps.foldl, Keeps.ite, Dev.draw]; done) | (obtain rfl := Receipt.dropped.inj hr; simp (maxSteps := 400000) (maxDischargeDepth := 99) +contextual [Keeps.foldl, Keeps.ite, Dev.draw]; done)
theorem receive_accepted {L : Nat} {d0 d e : Dev} {m : HostMsg} {key : Nat} (hL : 134221830 ||| L = L) (h : Keeps L d0 d)
    (hr : receive d m key = .accepted e) : Keeps L d0 e := by
  have := receive_keeps0 d m key; rw [hr] at this; exact .after hL this h
theorem receive_dropped {L : Nat} {d0 d e : Dev} {m : HostMsg} {key : Nat} (hL : 134221830 ||| L = L) (h : Keeps L d0 d)
    (hr : receive d m key = .dropped e) : Keeps L d0 e := by
  have := receive_keeps0 d m key; rw [hr] at this; exact .after hL this h

theorem endsWith_keeps0 (m : HostMsg) (d : Dev) : Keeps 4096 d (endsWith m d) := by
  unfold endsWith
  simp (maxSteps := 400000) (maxDischargeDepth := 99) +contextual [Keeps.foldl, Keeps.ite, Dev.draw]
@[simp] theorem endsWith_keeps {L : Nat} {d0 : Dev} (m : HostMsg) (d : Dev) (hmask : 4096 ||| L = L) (hkeep : Keeps L d0 d) : Keeps L d0 (endsWith m d) :=
  .after hmask (endsWith_keeps0 m d) hkeep

@[simp] theorem hostNote_keeps {L : Nat} {d0 : Dev} (m : HostMsg) (serve : Dev → Dev) (d : Dev) (hL : 134221830 ||| L = L) (h : Keeps L d0 d)
    (hs : ∀ e, Keeps L d0 e → Keeps L d0 (serve e)) : Keeps L d0 (hostNote m serve d) := by
  have h8 : 4096 ||| L = L := or_mono (M := 134221830) (by decide) hL
  unfold hostNote
  split
  · exact receive_dropped hL h (by assumption)
  · exact endsWith_keeps m _ h8 (hs _ (receive_accepted hL h (by assumption)))

@[simp] theorem hostRequest_keeps {L : Nat} {d0 : Dev} (m : HostMsg) (key : Nat) (serve : Dev → Dev) (d : Dev) (hL : 134221830 ||| L = L)
    (h : Keeps L d0 d) (hs : ∀ e, Keeps L d0 e → Keeps L d0 (serve e)) : Keeps L d0 (hostRequest m key serve d) := by
  have h8 : 4096 ||| L = L := or_mono (M := 134221830) (by decide) hL
  have h4 : 4 ||| L = L := or_mono (M := 134221830) (by decide) hL
  unfold hostRequest
  split
  · exact receive_dropped hL h (by assumption)
  · have ha := receive_accepted hL h (by assumption)
    split
    · exact endsWith_keeps m _ h8 (Dev.bump_keeps _ _ _ h4 ha)
    · exact hs _ (Dev.setSlot_keeps _ _ _ h8 ha)

@[simp] theorem cmdWrite_keeps {L : Nat} {d0 : Dev} (m : HostMsg) (key : Nat) (stop : Bool) (data : Bytes) (serve : Ack → Val → Dev → Dev)
    (d : Dev) (hL : 134221830 ||| L = L) (h : Keeps L d0 d) (hs : ∀ a v e, Keeps L d0 e → Keeps L d0 (serve a v e)) :
    Keeps L d0 (cmdWrite m key stop data serve d) := by
  have ha : ∀ (e : Dev) a c, Keeps L d0 e → Keeps L d0 (e.abort a c) := fun e a c he => Dev.abort_keeps e a c hL he
  refine hostRequest_keeps m key _ d hL h fun e he => ?_
  dsimp only
  (repeat' split) <;> first | exact ha _ _ _ he | exact hs _ _ _ he

theorem Dev.ok_keeps0 (d : Dev) (a : Ack) : Keeps 134221826 d (Dev.ok d a) := by
  unfold Dev.ok
  simp (maxSteps := 400000) (maxDischargeDepth := 99) +contextual [Keeps.foldl, Keeps.ite, Dev.draw]
@[simp] theorem Dev.ok_keeps {L : Nat} {d0 : Dev} (d : Dev) (a : Ack) (hmask : 134221826 ||| L = L) (hkeep : Keeps L d0 d) : Keeps L d0 (Dev.ok d a) :=
  .after hmask (Dev.ok_keeps0 d a) hkeep

theorem Dev.setCrossing_keeps0 (d : Dev) (c : Fin 58) (f : Crossing → Crossing) : Keeps 32 d (Dev.setCrossing d c f) := by
  unfold Dev.setCrossing
  simp (maxSteps := 400000) (maxDischargeDepth := 99) +contextual [Keeps.foldl, Keeps.ite, Dev.draw]
@[simp] theorem Dev.setCrossing_keeps {L : Nat} {d0 : Dev} (d : Dev) (c : Fin 58) (f : Crossing → Crossing) (hmask : 32 ||| L = L) (hkeep : Keeps L d0 d) : Keeps L d0 (Dev.setCrossing d c f) :=
  .after hmask (Dev.setCrossing_keeps0 d c f) hkeep

theorem Dev.produce_keeps0 (d : Dev) (c : Fin 58) (words : List Word) : Keeps 32 d (Dev.produce d c words) := by
  unfold Dev.produce
  simp (maxSteps := 400000) (maxDischargeDepth := 99) +contextual [Keeps.foldl, Keeps.ite, Dev.draw]
@[simp] theorem Dev.produce_keeps {L : Nat} {d0 : Dev} (d : Dev) (c : Fin 58) (words : List Word) (hmask : 32 ||| L = L) (hkeep : Keeps L d0 d) : Keeps L d0 (Dev.produce d c words) :=
  .after hmask (Dev.produce_keeps0 d c words) hkeep

theorem Dev.crossed_keeps0 (d : Dev) (c : Fin 58) : Keeps 32 d (Dev.crossed d c) := by
  unfold Dev.crossed
  simp (maxSteps := 400000) (maxDischargeDepth := 99) +contextual [Keeps.foldl, Keeps.ite, Dev.draw]
@[simp] theorem Dev.crossed_keeps {L : Nat} {d0 : Dev} (d : Dev) (c : Fin 58) (hmask : 32 ||| L = L) (hkeep : Keeps L d0 d) : Keeps L d0 (Dev.crossed d c) :=
  .after hmask (Dev.crossed_keeps0 d c) hkeep

theorem Dev.unstall_keeps0 (d : Dev) (c : Fin 58) : Keeps 34 d (Dev.unstall d c) := by
  unfold Dev.unstall
  simp (maxSteps := 400000) (maxDischargeDepth := 99) +contextual [Keeps.foldl, Keeps.ite, Dev.draw]
@[simp] theorem Dev.unstall_keeps {L : Nat} {d0 : Dev} (d : Dev) (c : Fin 58) (hmask : 34 ||| L = L) (hkeep : Keeps L d0 d) : Keeps L d0 (Dev.unstall d c) :=
  .after hmask (Dev.unstall_keeps0 d c) hkeep

theorem accessRefused_keeps0 (d : Dev) (target tag : Nat) : Keeps 8196 d (accessRefused d target tag) := by
  unfold accessRefused
  simp (maxSteps := 400000) (maxDischargeDepth := 99) +contextual [Keeps.foldl, Keeps.ite, Dev.draw]
@[simp] theorem accessRefused_keeps {L : Nat} {d0 : Dev} (d : Dev) (target tag : Nat) (hmask : 8196 ||| L = L) (hkeep : Keeps L d0 d) : Keeps L d0 (accessRefused d target tag) :=
  .after hmask (accessRefused_keeps0 d target tag) hkeep

theorem refuseTransaction_keeps0 (d : Dev) (tag : Nat) (r : Region) (addr : Nat) : Keeps 8262 d (refuseTransaction d tag r addr) := by
  unfold refuseTransaction
  (try dsimp only); (repeat' split) <;> simp (maxSteps := 400000) (maxDischargeDepth := 99) +contextual [Keeps.foldl, Keeps.ite, Dev.draw]
@[simp] theorem refuseTransaction_keeps {L : Nat} {d0 : Dev} (d : Dev) (tag : Nat) (r : Region) (addr : Nat) (hmask : 8262 ||| L = L) (hkeep : Keeps L d0 d) : Keeps L d0 (refuseTransaction d tag r addr) :=
  .after hmask (refuseTransaction_keeps0 d tag r addr) hkeep

theorem utcEdge_keeps0 (d : Dev) : Keeps 40 d (utcEdge d) := by
  unfold utcEdge
  simp (maxSteps := 400000) (maxDischargeDepth := 99) +contextual [Keeps.foldl, Keeps.ite, Dev.draw]
@[simp] theorem utcEdge_keeps {L : Nat} {d0 : Dev} (d : Dev) (hmask : 40 ||| L = L) (hkeep : Keeps L d0 d) : Keeps L d0 (utcEdge d) :=
  .after hmask (utcEdge_keeps0 d) hkeep

theorem utcSecond_keeps0 (i1Ticks : Nat) (d : Dev) : Keeps 8236 d (utcSecond i1Ticks d) := by
  unfold utcSecond
  simp (maxSteps := 400000) (maxDischargeDepth := 99) +contextual [Keeps.foldl, Keeps.ite, Dev.draw]
@[simp] theorem utcSecond_keeps {L : Nat} {d0 : Dev} (i1Ticks : Nat) (d : Dev) (hmask : 8236 ||| L = L) (hkeep : Keeps L d0 d) : Keeps L d0 (utcSecond i1Ticks d) :=
  .after hmask (utcSecond_keeps0 i1Ticks d) hkeep

theorem timerExpiry_keeps0 (n : Fin 64) (d : Dev) : Keeps 42 d (timerExpiry n d) := by
  unfold timerExpiry
  (try dsimp only); (repeat' split) <;> simp (maxSteps := 400000) (maxDischargeDepth := 99) +contextual [Keeps.foldl, Keeps.ite, Dev.draw]
@[simp] theorem timerExpiry_keeps {L : Nat} {d0 : Dev} (n : Fin 64) (d : Dev) (hmask : 42 ||| L = L) (hkeep : Keeps L d0 d) : Keeps L d0 (timerExpiry n d) :=
  .after hmask (timerExpiry_keeps0 n d) hkeep

theorem fabricSpeedMeasure_keeps0 (mips : Nat) (d : Dev) : Keeps 4 d (fabricSpeedMeasure mips d) := by
  unfold fabricSpeedMeasure
  simp (maxSteps := 400000) (maxDischargeDepth := 99) +contextual [Keeps.foldl, Keeps.ite, Dev.draw]
@[simp] theorem fabricSpeedMeasure_keeps {L : Nat} {d0 : Dev} (mips : Nat) (d : Dev) (hmask : 4 ||| L = L) (hkeep : Keeps L d0 d) : Keeps L d0 (fabricSpeedMeasure mips d) :=
  .after hmask (fabricSpeedMeasure_keeps0 mips d) hkeep

theorem crossingResyncDone_keeps0 (c : Fin 58) (d : Dev) : Keeps 34 d (crossingResyncDone c d) := by
  unfold crossingResyncDone
  simp (maxSteps := 400000) (maxDischargeDepth := 99) +contextual [Keeps.foldl, Keeps.ite, Dev.draw]
@[simp] theorem crossingResyncDone_keeps {L : Nat} {d0 : Dev} (c : Fin 58) (d : Dev) (hmask : 34 ||| L = L) (hkeep : Keeps L d0 d) : Keeps L d0 (crossingResyncDone c d) :=
  .after hmask (crossingResyncDone_keeps0 c d) hkeep

theorem crossingClearCountersServe_keeps0 (a : Ack) (u1_ : Val) (d : Dev) : Keeps 134221862 d (crossingClearCountersServe a u1_ d) := by
  unfold crossingClearCountersServe
  simp (maxSteps := 400000) (maxDischargeDepth := 99) +contextual [Keeps.foldl, Keeps.ite, Dev.draw]
@[simp] theorem crossingClearCountersServe_keeps {L : Nat} {d0 : Dev} (a : Ack) (u1_ : Val) (d : Dev) (hmask : 134221862 ||| L = L) (hkeep : Keeps L d0 d) : Keeps L d0 (crossingClearCountersServe a u1_ d) :=
  .after hmask (crossingClearCountersServe_keeps0 a u1_ d) hkeep

theorem Dev.setGroup_keeps0 (d : Dev) (g : Nat) (f : Group → Group) : Keeps 2048 d (Dev.setGroup d g f) := by
  unfold Dev.setGroup
  (try dsimp only); (repeat' split) <;> simp (maxSteps := 400000) (maxDischargeDepth := 99) +contextual [Keeps.foldl, Keeps.ite, Dev.draw]
@[simp] theorem Dev.setGroup_keeps {L : Nat} {d0 : Dev} (d : Dev) (g : Nat) (f : Group → Group) (hmask : 2048 ||| L = L) (hkeep : Keeps L d0 d) : Keeps L d0 (Dev.setGroup d g f) :=
  .after hmask (Dev.setGroup_keeps0 d g f) hkeep

theorem Dev.discardGroup_keeps0 (d : Dev) (g cause : Nat) : Keeps 10244 d (Dev.discardGroup d g cause) := by
  unfold Dev.discardGroup
  simp (maxSteps := 400000) (maxDischargeDepth := 99) +contextual [Keeps.foldl, Keeps.ite, Dev.draw]
@[simp] theorem Dev.discardGroup_keeps {L : Nat} {d0 : Dev} (d : Dev) (g cause : Nat) (hmask : 10244 ||| L = L) (hkeep : Keeps L d0 d) : Keeps L d0 (Dev.discardGroup d g cause) :=
  .after hmask (Dev.discardGroup_keeps0 d g cause) hkeep

theorem Dev.discardAll_keeps0 (d : Dev) (cause : Nat) : Keeps 10244 d (Dev.discardAll d cause) := by
  unfold Dev.discardAll
  simp (maxSteps := 400000) (maxDischargeDepth := 99) +contextual [Keeps.foldl, Keeps.ite, Dev.draw]
@[simp] theorem Dev.discardAll_keeps {L : Nat} {d0 : Dev} (d : Dev) (cause : Nat) (hmask : 10244 ||| L = L) (hkeep : Keeps L d0 d) : Keeps L d0 (Dev.discardAll d cause) :=
  .after hmask (Dev.discardAll_keeps0 d cause) hkeep

theorem unknownMessage_keeps0 (k : UnknownKind) (d : Dev) : Keeps 134221830 d (unknownMessage k d) := by
  unfold unknownMessage
  (try dsimp only); (repeat' split) <;> simp (maxSteps := 400000) (maxDischargeDepth := 99) +contextual [Keeps.foldl, Keeps.ite, Dev.draw]
@[simp] theorem unknownMessage_keeps {L : Nat} {d0 : Dev} (k : UnknownKind) (d : Dev) (hmask : 134221830 ||| L = L) (hkeep : Keeps L d0 d) : Keeps L d0 (unknownMessage k d) :=
  .after hmask (unknownMessage_keeps0 k d) hkeep

theorem registrationFailed_keeps0 (s : SlotId) (d : Dev) : Keeps 4100 d (registrationFailed s d) := by
  unfold registrationFailed
  simp (maxSteps := 400000) (maxDischargeDepth := 99) +contextual [Keeps.foldl, Keeps.ite, Dev.draw]
@[simp] theorem registrationFailed_keeps {L : Nat} {d0 : Dev} (s : SlotId) (d : Dev) (hmask : 4100 ||| L = L) (hkeep : Keeps L d0 d) : Keeps L d0 (registrationFailed s d) :=
  .after hmask (registrationFailed_keeps0 s d) hkeep

theorem hello_keeps0 (s : SlotId) (i : Iface) (reqId : Byte) (source : Nat × Nat) (hostNonce ownNonce : Bytes) (d : Dev) : Keeps 134221830 d (hello s i reqId source hostNonce ownNonce d) := by
  unfold hello
  simp (maxSteps := 400000) (maxDischargeDepth := 99) +contextual [Keeps.foldl, Keeps.ite, Dev.draw]
@[simp] theorem hello_keeps {L : Nat} {d0 : Dev} (s : SlotId) (i : Iface) (reqId : Byte) (source : Nat × Nat) (hostNonce ownNonce : Bytes) (d : Dev) (hmask : 134221830 ||| L = L) (hkeep : Keeps L d0 d) : Keeps L d0 (hello s i reqId source hostNonce ownNonce d) :=
  .after hmask (hello_keeps0 s i reqId source hostNonce ownNonce d) hkeep

theorem registrationTimeout_keeps0 (s : SlotId) (d : Dev) : Keeps 134221830 d (registrationTimeout s d) := by
  unfold registrationTimeout
  (try dsimp only); (repeat' split) <;> simp (maxSteps := 400000) (maxDischargeDepth := 99) +contextual [Keeps.foldl, Keeps.ite, Dev.draw]
@[simp] theorem registrationTimeout_keeps {L : Nat} {d0 : Dev} (s : SlotId) (d : Dev) (hmask : 134221830 ||| L = L) (hkeep : Keeps L d0 d) : Keeps L d0 (registrationTimeout s d) :=
  .after hmask (registrationTimeout_keeps0 s d) hkeep

theorem helloRefusalEnd_keeps0 (s : SlotId) (d : Dev) : Keeps 4096 d (helloRefusalEnd s d) := by
  unfold helloRefusalEnd
  (try dsimp only); (repeat' split) <;> simp (maxSteps := 400000) (maxDischargeDepth := 99) +contextual [Keeps.foldl, Keeps.ite, Dev.draw]
@[simp] theorem helloRefusalEnd_keeps {L : Nat} {d0 : Dev} (s : SlotId) (d : Dev) (hmask : 4096 ||| L = L) (hkeep : Keeps L d0 d) : Keeps L d0 (helloRefusalEnd s d) :=
  .after hmask (helloRefusalEnd_keeps0 s d) hkeep

theorem Dev.setOwnership_keeps0 (d : Dev) (o : Ownership) : Keeps 12288 d (Dev.setOwnership d o) := by
  unfold Dev.setOwnership
  simp (maxSteps := 400000) (maxDischargeDepth := 99) +contextual [Keeps.foldl, Keeps.ite, Dev.draw]
@[simp] theorem Dev.setOwnership_keeps {L : Nat} {d0 : Dev} (d : Dev) (o : Ownership) (hmask : 12288 ||| L = L) (hkeep : Keeps L d0 d) : Keeps L d0 (Dev.setOwnership d o) :=
  .after hmask (Dev.setOwnership_keeps0 d o) hkeep

theorem Dev.takeOwnership_keeps0 (d : Dev) (s : SlotId) : Keeps 12292 d (Dev.takeOwnership d s) := by
  unfold Dev.takeOwnership
  simp (maxSteps := 400000) (maxDischargeDepth := 99) +contextual [Keeps.foldl, Keeps.ite, Dev.draw]
@[simp] theorem Dev.takeOwnership_keeps {L : Nat} {d0 : Dev} (d : Dev) (s : SlotId) (hmask : 12292 ||| L = L) (hkeep : Keeps L d0 d) : Keeps L d0 (Dev.takeOwnership d s) :=
  .after hmask (Dev.takeOwnership_keeps0 d s) hkeep

theorem Dev.dropOwnership_keeps0 (d : Dev) : Keeps 14340 d (Dev.dropOwnership d) := by
  unfold Dev.dropOwnership
  simp (maxSteps := 400000) (maxDischargeDepth := 99) +contextual [Keeps.foldl, Keeps.ite, Dev.draw]
@[simp] theorem Dev.dropOwnership_keeps {L : Nat} {d0 : Dev} (d : Dev) (hmask : 14340 ||| L = L) (hkeep : Keeps L d0 d) : Keeps L d0 (Dev.dropOwnership d) :=
  .after hmask (Dev.dropOwnership_keeps0 d) hkeep

theorem Dev.loseOwnership_keeps0 (d : Dev) : Keeps 14340 d (Dev.loseOwnership d) := by
  unfold Dev.loseOwnership
  simp (maxSteps := 400000) (maxDischargeDepth := 99) +contextual [Keeps.foldl, Keeps.ite, Dev.draw]
@[simp] theorem Dev.loseOwnership_keeps {L : Nat} {d0 : Dev} (d : Dev) (hmask : 14340 ||| L = L) (hkeep : Keeps L d0 d) : Keeps L d0 (Dev.loseOwnership d) :=
  .after hmask (Dev.loseOwnership_keeps0 d) hkeep

@[simp] theorem ownershipRequest_keeps {L : Nat} {d0 : Dev} (m : HostMsg) (ok : Bool) (serve : Ack → Dev → Dev)
    (d : Dev) (hL : 134221830 ||| L = L) (h : Keeps L d0 d) (hs : ∀ a e, Keeps L d0 e → Keeps L d0 (serve a e)) :
    Keeps L d0 (ownershipRequest m ok serve d) := by
  refine hostRequest_keeps m 0 _ d hL h fun e he => ?_
  dsimp only
  (repeat' split) <;> first | exact hs _ _ he | exact Dev.abort_keeps e _ _ hL he

theorem Dev.enqueue_keeps0 (d : Dev) (t : TickItem) : Keeps 2048 d (Dev.enqueue d t) := by
  unfold Dev.enqueue
  simp (maxSteps := 400000) (maxDischargeDepth := 99) +contextual [Keeps.foldl, Keeps.ite, Dev.draw]
@[simp] theorem Dev.enqueue_keeps {L : Nat} {d0 : Dev} (d : Dev) (t : TickItem) (hmask : 2048 ||| L = L) (hkeep : Keeps L d0 d) : Keeps L d0 (Dev.enqueue d t) :=
  .after hmask (Dev.enqueue_keeps0 d t) hkeep

theorem ownershipClaim_keeps0 (a : Ack) (d : Dev) : Keeps 134223878 d (ownershipClaim a d) := by
  unfold ownershipClaim
  simp (maxSteps := 400000) (maxDischargeDepth := 99) +contextual [Keeps.foldl, Keeps.ite, Dev.draw]
@[simp] theorem ownershipClaim_keeps {L : Nat} {d0 : Dev} (a : Ack) (d : Dev) (hmask : 134223878 ||| L = L) (hkeep : Keeps L d0 d) : Keeps L d0 (ownershipClaim a d) :=
  .after hmask (ownershipClaim_keeps0 a d) hkeep

theorem Dev.applyClaim_keeps0 (d : Dev) (a : Ack) : Keeps 134232070 d (Dev.applyClaim d a) := by
  unfold Dev.applyClaim
  (try dsimp only); (repeat' split) <;> simp (maxSteps := 400000) (maxDischargeDepth := 99) +contextual [Keeps.foldl, Keeps.ite, Dev.draw]
@[simp] theorem Dev.applyClaim_keeps {L : Nat} {d0 : Dev} (d : Dev) (a : Ack) (hmask : 134232070 ||| L = L) (hkeep : Keeps L d0 d) : Keeps L d0 (Dev.applyClaim d a) :=
  .after hmask (Dev.applyClaim_keeps0 d a) hkeep

theorem ownershipRelease_keeps0 (a : Ack) (d : Dev) : Keeps 134223878 d (ownershipRelease a d) := by
  unfold ownershipRelease
  (try dsimp only); (repeat' split) <;> simp (maxSteps := 400000) (maxDischargeDepth := 99) +contextual [Keeps.foldl, Keeps.ite, Dev.draw]
@[simp] theorem ownershipRelease_keeps {L : Nat} {d0 : Dev} (a : Ack) (d : Dev) (hmask : 134223878 ||| L = L) (hkeep : Keeps L d0 d) : Keeps L d0 (ownershipRelease a d) :=
  .after hmask (ownershipRelease_keeps0 a d) hkeep

theorem Dev.applyRelease_keeps0 (d : Dev) (a : Ack) : Keeps 134232070 d (Dev.applyRelease d a) := by
  unfold Dev.applyRelease
  simp (maxSteps := 400000) (maxDischargeDepth := 99) +contextual [Keeps.foldl, Keeps.ite, Dev.draw]
@[simp] theorem Dev.applyRelease_keeps {L : Nat} {d0 : Dev} (d : Dev) (a : Ack) (hmask : 134232070 ||| L = L) (hkeep : Keeps L d0 d) : Keeps L d0 (Dev.applyRelease d a) :=
  .after hmask (Dev.applyRelease_keeps0 d a) hkeep

theorem handoverOffer_keeps0 (t : Nat) (a : Ack) (d : Dev) : Keeps 134223878 d (handoverOffer t a d) := by
  unfold handoverOffer
  (try dsimp only); (repeat' split) <;> simp (maxSteps := 400000) (maxDischargeDepth := 99) +contextual [Keeps.foldl, Keeps.ite, Dev.draw]
@[simp] theorem handoverOffer_keeps {L : Nat} {d0 : Dev} (t : Nat) (a : Ack) (d : Dev) (hmask : 134223878 ||| L = L) (hkeep : Keeps L d0 d) : Keeps L d0 (handoverOffer t a d) :=
  .after hmask (handoverOffer_keeps0 t a d) hkeep

theorem Dev.applyOffer_keeps0 (d : Dev) (a : Ack) (t : SlotId) : Keeps 134230022 d (Dev.applyOffer d a t) := by
  unfold Dev.applyOffer
  simp (maxSteps := 400000) (maxDischargeDepth := 99) +contextual [Keeps.foldl, Keeps.ite, Dev.draw]
@[simp] theorem Dev.applyOffer_keeps {L : Nat} {d0 : Dev} (d : Dev) (a : Ack) (t : SlotId) (hmask : 134230022 ||| L = L) (hkeep : Keeps L d0 d) : Keeps L d0 (Dev.applyOffer d a t) :=
  .after hmask (Dev.applyOffer_keeps0 d a t) hkeep

theorem heartbeat_keeps0 (a : Ack) (d : Dev) : Keeps 134221830 d (heartbeat a d) := by
  unfold heartbeat
  simp (maxSteps := 400000) (maxDischargeDepth := 99) +contextual [Keeps.foldl, Keeps.ite, Dev.draw]
@[simp] theorem heartbeat_keeps {L : Nat} {d0 : Dev} (a : Ack) (d : Dev) (hmask : 134221830 ||| L = L) (hkeep : Keeps L d0 d) : Keeps L d0 (heartbeat a d) :=
  .after hmask (heartbeat_keeps0 a d) hkeep

theorem claimWindowEnd_keeps0 (d : Dev) : Keeps 134230022 d (claimWindowEnd d) := by
  unfold claimWindowEnd
  (try dsimp only); (repeat' split) <;> simp (maxSteps := 400000) (maxDischargeDepth := 99) +contextual [Keeps.foldl, Keeps.ite, Dev.draw]
@[simp] theorem claimWindowEnd_keeps {L : Nat} {d0 : Dev} (d : Dev) (hmask : 134230022 ||| L = L) (hkeep : Keeps L d0 d) : Keeps L d0 (claimWindowEnd d) :=
  .after hmask (claimWindowEnd_keeps0 d) hkeep

theorem heartbeatLoss_keeps0 (d : Dev) : Keeps 14340 d (heartbeatLoss d) := by
  unfold heartbeatLoss
  simp (maxSteps := 400000) (maxDischargeDepth := 99) +contextual [Keeps.foldl, Keeps.ite, Dev.draw]
@[simp] theorem heartbeatLoss_keeps {L : Nat} {d0 : Dev} (d : Dev) (hmask : 14340 ||| L = L) (hkeep : Keeps L d0 d) : Keeps L d0 (heartbeatLoss d) :=
  .after hmask (heartbeatLoss_keeps0 d) hkeep

theorem handoverLapse_keeps0 (d : Dev) : Keeps 12288 d (handoverLapse d) := by
  unfold handoverLapse
  (try dsimp only); (repeat' split) <;> simp (maxSteps := 400000) (maxDischargeDepth := 99) +contextual [Keeps.foldl, Keeps.ite, Dev.draw]
@[simp] theorem handoverLapse_keeps {L : Nat} {d0 : Dev} (d : Dev) (hmask : 12288 ||| L = L) (hkeep : Keeps L d0 d) : Keeps L d0 (handoverLapse d) :=
  .after hmask (handoverLapse_keeps0 d) hkeep

theorem stopAllServe_keeps0 (a : Ack) (u1_ : Val) (d : Dev) : Keeps 2048 d (stopAllServe a u1_ d) := by
  unfold stopAllServe
  simp (maxSteps := 400000) (maxDischargeDepth := 99) +contextual [Keeps.foldl, Keeps.ite, Dev.draw]
@[simp] theorem stopAllServe_keeps {L : Nat} {d0 : Dev} (a : Ack) (u1_ : Val) (d : Dev) (hmask : 2048 ||| L = L) (hkeep : Keeps L d0 d) : Keeps L d0 (stopAllServe a u1_ d) :=
  .after hmask (stopAllServe_keeps0 a u1_ d) hkeep

theorem arpRequest_keeps0 (i : Iface) (address : Word) (d : Dev) : Keeps 2 d (arpRequest i address d) := by
  unfold arpRequest
  simp (maxSteps := 400000) (maxDischargeDepth := 99) +contextual [Keeps.foldl, Keeps.ite, Dev.draw]
@[simp] theorem arpRequest_keeps {L : Nat} {d0 : Dev} (i : Iface) (address : Word) (d : Dev) (hmask : 2 ||| L = L) (hkeep : Keeps L d0 d) : Keeps L d0 (arpRequest i address d) :=
  .after hmask (arpRequest_keeps0 i address d) hkeep

theorem icmpEcho_keeps0 (i : Iface) (data : Bytes) (d : Dev) : Keeps 2 d (icmpEcho i data d) := by
  unfold icmpEcho
  simp (maxSteps := 400000) (maxDischargeDepth := 99) +contextual [Keeps.foldl, Keeps.ite, Dev.draw]
@[simp] theorem icmpEcho_keeps {L : Nat} {d0 : Dev} (i : Iface) (data : Bytes) (d : Dev) (hmask : 2 ||| L = L) (hkeep : Keeps L d0 d) : Keeps L d0 (icmpEcho i data d) :=
  .after hmask (icmpEcho_keeps0 i data d) hkeep

theorem datagramDropped_keeps0 (i : Iface) (d : Dev) : Keeps 4 d (datagramDropped i d) := by
  unfold datagramDropped
  simp (maxSteps := 400000) (maxDischargeDepth := 99) +contextual [Keeps.foldl, Keeps.ite, Dev.draw]
@[simp] theorem datagramDropped_keeps {L : Nat} {d0 : Dev} (i : Iface) (d : Dev) (hmask : 4 ||| L = L) (hkeep : Keeps L d0 d) : Keeps L d0 (datagramDropped i d) :=
  .after hmask (datagramDropped_keeps0 i d) hkeep

theorem Dev.setCan_keeps0 (d : Dev) (k : Fin 6) (c : CanState) : Keeps 4096 d (Dev.setCan d k c) := by
  unfold Dev.setCan
  simp (maxSteps := 400000) (maxDischargeDepth := 99) +contextual [Keeps.foldl, Keeps.ite, Dev.draw]
@[simp] theorem Dev.setCan_keeps {L : Nat} {d0 : Dev} (d : Dev) (k : Fin 6) (c : CanState) (hmask : 4096 ||| L = L) (hkeep : Keeps L d0 d) : Keeps L d0 (Dev.setCan d k c) :=
  .after hmask (Dev.setCan_keeps0 d k c) hkeep

theorem canBusOff_keeps0 (k : Fin 6) (d : Dev) : Keeps 4100 d (canBusOff k d) := by
  unfold canBusOff
  simp (maxSteps := 400000) (maxDischargeDepth := 99) +contextual [Keeps.foldl, Keeps.ite, Dev.draw]
@[simp] theorem canBusOff_keeps {L : Nat} {d0 : Dev} (k : Fin 6) (d : Dev) (hmask : 4100 ||| L = L) (hkeep : Keeps L d0 d) : Keeps L d0 (canBusOff k d) :=
  .after hmask (canBusOff_keeps0 k d) hkeep

theorem busOffRecovery_keeps0 (k : Fin 6) (d : Dev) : Keeps 4096 d (busOffRecovery k d) := by
  unfold busOffRecovery
  simp (maxSteps := 400000) (maxDischargeDepth := 99) +contextual [Keeps.foldl, Keeps.ite, Dev.draw]
@[simp] theorem busOffRecovery_keeps {L : Nat} {d0 : Dev} (k : Fin 6) (d : Dev) (hmask : 4096 ||| L = L) (hkeep : Keeps L d0 d) : Keeps L d0 (busOffRecovery k d) :=
  .after hmask (busOffRecovery_keeps0 k d) hkeep

theorem Dev.judgeLevel2_keeps0 (d : Dev) (p : PortId) : Keeps 147456 d (Dev.judgeLevel2 d p) := by
  unfold Dev.judgeLevel2
  simp (maxSteps := 400000) (maxDischargeDepth := 99) +contextual [Keeps.foldl, Keeps.ite, Dev.draw]
@[simp] theorem Dev.judgeLevel2_keeps {L : Nat} {d0 : Dev} (d : Dev) (p : PortId) (hmask : 147456 ||| L = L) (hkeep : Keeps L d0 d) : Keeps L d0 (Dev.judgeLevel2 d p) :=
  .after hmask (Dev.judgeLevel2_keeps0 d p) hkeep

theorem Dev.setLive_keeps0 (d : Dev) (p : PortId) (v : Option Live) : Keeps 524288 d (Dev.setLive d p v) := by
  unfold Dev.setLive
  simp (maxSteps := 400000) (maxDischargeDepth := 99) +contextual [Keeps.foldl, Keeps.ite, Dev.draw]
@[simp] theorem Dev.setLive_keeps {L : Nat} {d0 : Dev} (d : Dev) (p : PortId) (v : Option Live) (hmask : 524288 ||| L = L) (hkeep : Keeps L d0 d) : Keeps L d0 (Dev.setLive d p v) :=
  .after hmask (Dev.setLive_keeps0 d p v) hkeep

theorem Dev.setBinding_keeps0 (d : Dev) (p : PortId) (v : Option Binding) : Keeps 2097152 d (Dev.setBinding d p v) := by
  unfold Dev.setBinding
  simp (maxSteps := 400000) (maxDischargeDepth := 99) +contextual [Keeps.foldl, Keeps.ite, Dev.draw]
@[simp] theorem Dev.setBinding_keeps {L : Nat} {d0 : Dev} (d : Dev) (p : PortId) (v : Option Binding) (hmask : 2097152 ||| L = L) (hkeep : Keeps L d0 d) : Keeps L d0 (Dev.setBinding d p v) :=
  .after hmask (Dev.setBinding_keeps0 d p v) hkeep

theorem Dev.sessionOpened_keeps0 (p : PortId) (d : Dev) : Keeps 2695172 d (Dev.sessionOpened p d) := by
  unfold Dev.sessionOpened
  (try dsimp only); (repeat' split) <;> simp (maxSteps := 400000) (maxDischargeDepth := 99) +contextual [Keeps.foldl, Keeps.ite, Dev.draw]
@[simp] theorem Dev.sessionOpened_keeps {L : Nat} {d0 : Dev} (p : PortId) (d : Dev) (hmask : 2695172 ||| L = L) (hkeep : Keeps L d0 d) : Keeps L d0 (Dev.sessionOpened p d) :=
  .after hmask (Dev.sessionOpened_keeps0 p d) hkeep

theorem Dev.sessionClosed_keeps0 (p : PortId) (d : Dev) : Keeps 524288 d (Dev.sessionClosed p d) := by
  unfold Dev.sessionClosed
  (try dsimp only); (repeat' split) <;> simp (maxSteps := 400000) (maxDischargeDepth := 99) +contextual [Keeps.foldl, Keeps.ite, Dev.draw]
@[simp] theorem Dev.sessionClosed_keeps {L : Nat} {d0 : Dev} (p : PortId) (d : Dev) (hmask : 524288 ||| L = L) (hkeep : Keeps L d0 d) : Keeps L d0 (Dev.sessionClosed p d) :=
  .after hmask (Dev.sessionClosed_keeps0 p d) hkeep

theorem Dev.unbind_keeps0 (d : Dev) (p : PortId) : Keeps 2097156 d (Dev.unbind d p) := by
  unfold Dev.unbind
  (try dsimp only); (repeat' split) <;> simp (maxSteps := 400000) (maxDischargeDepth := 99) +contextual [Keeps.foldl, Keeps.ite, Dev.draw]
@[simp] theorem Dev.unbind_keeps {L : Nat} {d0 : Dev} (d : Dev) (p : PortId) (hmask : 2097156 ||| L = L) (hkeep : Keeps L d0 d) : Keeps L d0 (Dev.unbind d p) :=
  .after hmask (Dev.unbind_keeps0 d p) hkeep

theorem Dev.bindingLapsed_keeps0 (p : PortId) (d : Dev) : Keeps 2244612 d (Dev.bindingLapsed p d) := by
  unfold Dev.bindingLapsed
  simp (maxSteps := 400000) (maxDischargeDepth := 99) +contextual [Keeps.foldl, Keeps.ite, Dev.draw]
@[simp] theorem Dev.bindingLapsed_keeps {L : Nat} {d0 : Dev} (p : PortId) (d : Dev) (hmask : 2244612 ||| L = L) (hkeep : Keeps L d0 d) : Keeps L d0 (Dev.bindingLapsed p d) :=
  .after hmask (Dev.bindingLapsed_keeps0 p d) hkeep

theorem Dev.setPort_keeps0 (d : Dev) (p : PortId) (f : Port → Port) : Keeps 16384 d (Dev.setPort d p f) := by
  unfold Dev.setPort
  simp (maxSteps := 400000) (maxDischargeDepth := 99) +contextual [Keeps.foldl, Keeps.ite, Dev.draw]
@[simp] theorem Dev.setPort_keeps {L : Nat} {d0 : Dev} (d : Dev) (p : PortId) (f : Port → Port) (hmask : 16384 ||| L = L) (hkeep : Keeps L d0 d) : Keeps L d0 (Dev.setPort d p f) :=
  .after hmask (Dev.setPort_keeps0 d p f) hkeep

theorem Dev.setPsafe_keeps0 (d : Dev) (p : PortId) (f : PortSafety → PortSafety) : Keeps 147456 d (Dev.setPsafe d p f) := by
  unfold Dev.setPsafe
  simp (maxSteps := 400000) (maxDischargeDepth := 99) +contextual [Keeps.foldl, Keeps.ite, Dev.draw]
@[simp] theorem Dev.setPsafe_keeps {L : Nat} {d0 : Dev} (d : Dev) (p : PortId) (f : PortSafety → PortSafety) (hmask : 147456 ||| L = L) (hkeep : Keeps L d0 d) : Keeps L d0 (Dev.setPsafe d p f) :=
  .after hmask (Dev.setPsafe_keeps0 d p f) hkeep

theorem Dev.logCause_keeps0 (ports : List PortId) (bit : Nat) (raised : Bool) (measured : Int) (d : Dev) : Keeps 8192 d (Dev.logCause ports bit raised measured d) := by
  unfold Dev.logCause
  simp (maxSteps := 400000) (maxDischargeDepth := 99) +contextual [Keeps.foldl, Keeps.ite, Dev.draw]
@[simp] theorem Dev.logCause_keeps {L : Nat} {d0 : Dev} (ports : List PortId) (bit : Nat) (raised : Bool) (measured : Int) (d : Dev) (hmask : 8192 ||| L = L) (hkeep : Keeps L d0 d) : Keeps L d0 (Dev.logCause ports bit raised measured d) :=
  .after hmask (Dev.logCause_keeps0 ports bit raised measured d) hkeep

theorem Dev.raiseCause_keeps0 (ports : List PortId) (bit : Nat) (measured : Int) (d : Dev) : Keeps 8196 d (Dev.raiseCause ports bit measured d) := by
  unfold Dev.raiseCause
  simp (maxSteps := 400000) (maxDischargeDepth := 99) +contextual [Keeps.foldl, Keeps.ite, Dev.draw]
@[simp] theorem Dev.raiseCause_keeps {L : Nat} {d0 : Dev} (ports : List PortId) (bit : Nat) (measured : Int) (d : Dev) (hmask : 8196 ||| L = L) (hkeep : Keeps L d0 d) : Keeps L d0 (Dev.raiseCause ports bit measured d) :=
  .after hmask (Dev.raiseCause_keeps0 ports bit measured d) hkeep

theorem Dev.releaseCause_keeps0 (ports : List PortId) (bit : Nat) (measured : Int) (d : Dev) : Keeps 155652 d (Dev.releaseCause ports bit measured d) := by
  unfold Dev.releaseCause
  simp (maxSteps := 400000) (maxDischargeDepth := 99) +contextual [Keeps.foldl, Keeps.ite, Dev.draw]
@[simp] theorem Dev.releaseCause_keeps {L : Nat} {d0 : Dev} (ports : List PortId) (bit : Nat) (measured : Int) (d : Dev) (hmask : 155652 ||| L = L) (hkeep : Keeps L d0 d) : Keeps L d0 (Dev.releaseCause ports bit measured d) :=
  .after hmask (Dev.releaseCause_keeps0 ports bit measured d) hkeep

theorem Dev.startRamp_keeps0 (d : Dev) (p : PortId) (mask level : Nat) : Keeps 147460 d (Dev.startRamp d p mask level) := by
  unfold Dev.startRamp
  simp (maxSteps := 400000) (maxDischargeDepth := 99) +contextual [Keeps.foldl, Keeps.ite, Dev.draw]
@[simp] theorem Dev.startRamp_keeps {L : Nat} {d0 : Dev} (d : Dev) (p : PortId) (mask level : Nat) (hmask : 147460 ||| L = L) (hkeep : Keeps L d0 d) : Keeps L d0 (Dev.startRamp d p mask level) :=
  .after hmask (Dev.startRamp_keeps0 d p mask level) hkeep

theorem Dev.zeroRamp_keeps0 (d : Dev) (p : PortId) (mask : Nat) : Keeps 147456 d (Dev.zeroRamp d p mask) := by
  unfold Dev.zeroRamp
  simp (maxSteps := 400000) (maxDischargeDepth := 99) +contextual [Keeps.foldl, Keeps.ite, Dev.draw]
@[simp] theorem Dev.zeroRamp_keeps {L : Nat} {d0 : Dev} (d : Dev) (p : PortId) (mask : Nat) (hmask : 147456 ||| L = L) (hkeep : Keeps L d0 d) : Keeps L d0 (Dev.zeroRamp d p mask) :=
  .after hmask (Dev.zeroRamp_keeps0 d p mask) hkeep

theorem Dev.settle_keeps0 (d : Dev) : Keeps 16384 d (Dev.settle d) := by
  unfold Dev.settle
  simp (maxSteps := 400000) (maxDischargeDepth := 99) +contextual [Keeps.foldl, Keeps.ite, Dev.draw]
@[simp] theorem Dev.settle_keeps {L : Nat} {d0 : Dev} (d : Dev) (hmask : 16384 ||| L = L) (hkeep : Keeps L d0 d) : Keeps L d0 (Dev.settle d) :=
  .after hmask (Dev.settle_keeps0 d) hkeep

theorem Dev.lockOn_keeps0 (d : Dev) (p : PortId) : Keeps 16386 d (Dev.lockOn d p) := by
  unfold Dev.lockOn
  simp (maxSteps := 400000) (maxDischargeDepth := 99) +contextual [Keeps.foldl, Keeps.ite, Dev.draw]
@[simp] theorem Dev.lockOn_keeps {L : Nat} {d0 : Dev} (d : Dev) (p : PortId) (hmask : 16386 ||| L = L) (hkeep : Keeps L d0 d) : Keeps L d0 (Dev.lockOn d p) :=
  .after hmask (Dev.lockOn_keeps0 d p) hkeep

theorem Dev.lockOff_keeps0 (d : Dev) (p : PortId) : Keeps 16386 d (Dev.lockOff d p) := by
  unfold Dev.lockOff
  simp (maxSteps := 400000) (maxDischargeDepth := 99) +contextual [Keeps.foldl, Keeps.ite, Dev.draw]
@[simp] theorem Dev.lockOff_keeps {L : Nat} {d0 : Dev} (d : Dev) (p : PortId) (hmask : 16386 ||| L = L) (hkeep : Keeps L d0 d) : Keeps L d0 (Dev.lockOff d p) :=
  .after hmask (Dev.lockOff_keeps0 d p) hkeep

theorem Dev.canOf_keeps0 (d : Dev) (p : PortId) (st : CanState) : Keeps 4096 d (Dev.canOf d p st) := by
  unfold Dev.canOf
  simp (maxSteps := 400000) (maxDischargeDepth := 99) +contextual [Keeps.foldl, Keeps.ite, Dev.draw]
@[simp] theorem Dev.canOf_keeps {L : Nat} {d0 : Dev} (d : Dev) (p : PortId) (st : CanState) (hmask : 4096 ||| L = L) (hkeep : Keeps L d0 d) : Keeps L d0 (Dev.canOf d p st) :=
  .after hmask (Dev.canOf_keeps0 d p st) hkeep

theorem Dev.beginSetup_keeps0 (d : Dev) (p : PortId) : Keeps 20480 d (Dev.beginSetup d p) := by
  unfold Dev.beginSetup
  simp (maxSteps := 400000) (maxDischargeDepth := 99) +contextual [Keeps.foldl, Keeps.ite, Dev.draw]
@[simp] theorem Dev.beginSetup_keeps {L : Nat} {d0 : Dev} (d : Dev) (p : PortId) (hmask : 20480 ||| L = L) (hkeep : Keeps L d0 d) : Keeps L d0 (Dev.beginSetup d p) :=
  .after hmask (Dev.beginSetup_keeps0 d p) hkeep

theorem Dev.endSession_keeps0 (d : Dev) (p : PortId) : Keeps 151556 d (Dev.endSession d p) := by
  unfold Dev.endSession
  simp (maxSteps := 400000) (maxDischargeDepth := 99) +contextual [Keeps.foldl, Keeps.ite, Dev.draw]
@[simp] theorem Dev.endSession_keeps {L : Nat} {d0 : Dev} (d : Dev) (p : PortId) (hmask : 151556 ||| L = L) (hkeep : Keeps L d0 d) : Keeps L d0 (Dev.endSession d p) :=
  .after hmask (Dev.endSession_keeps0 d p) hkeep

theorem Dev.slacOff_keeps0 (d : Dev) (p : PortId) : Keeps 16388 d (Dev.slacOff d p) := by
  unfold Dev.slacOff
  simp (maxSteps := 400000) (maxDischargeDepth := 99) +contextual [Keeps.foldl, Keeps.ite, Dev.draw]
@[simp] theorem Dev.slacOff_keeps {L : Nat} {d0 : Dev} (d : Dev) (p : PortId) (hmask : 16388 ||| L = L) (hkeep : Keeps L d0 d) : Keeps L d0 (Dev.slacOff d p) :=
  .after hmask (Dev.slacOff_keeps0 d p) hkeep

theorem Dev.enterEnded_keeps0 (d : Dev) (p : PortId) (reason : Nat) : Keeps 2838534 d (Dev.enterEnded d p reason) := by
  unfold Dev.enterEnded
  simp (maxSteps := 400000) (maxDischargeDepth := 99) +contextual [Keeps.foldl, Keeps.ite, Dev.draw]
@[simp] theorem Dev.enterEnded_keeps {L : Nat} {d0 : Dev} (d : Dev) (p : PortId) (reason : Nat) (hmask : 2838534 ||| L = L) (hkeep : Keeps L d0 d) : Keeps L d0 (Dev.enterEnded d p reason) :=
  .after hmask (Dev.enterEnded_keeps0 d p reason) hkeep

theorem Dev.enterFaulted_keeps0 (d : Dev) (p : PortId) : Keeps 2838534 d (Dev.enterFaulted d p) := by
  unfold Dev.enterFaulted
  simp (maxSteps := 400000) (maxDischargeDepth := 99) +contextual [Keeps.foldl, Keeps.ite, Dev.draw]
@[simp] theorem Dev.enterFaulted_keeps {L : Nat} {d0 : Dev} (d : Dev) (p : PortId) (hmask : 2838534 ||| L = L) (hkeep : Keeps L d0 d) : Keeps L d0 (Dev.enterFaulted d p) :=
  .after hmask (Dev.enterFaulted_keeps0 d p) hkeep

theorem Dev.enterIdle_keeps0 (d : Dev) (p : PortId) : Keeps 2248710 d (Dev.enterIdle d p) := by
  unfold Dev.enterIdle
  simp (maxSteps := 400000) (maxDischargeDepth := 99) +contextual [Keeps.foldl, Keeps.ite, Dev.draw]
@[simp] theorem Dev.enterIdle_keeps {L : Nat} {d0 : Dev} (d : Dev) (p : PortId) (hmask : 2248710 ||| L = L) (hkeep : Keeps L d0 d) : Keeps L d0 (Dev.enterIdle d p) :=
  .after hmask (Dev.enterIdle_keeps0 d p) hkeep

theorem Dev.placeStart_keeps0 (d : Dev) (p : PortId) : Keeps 16384 d (Dev.placeStart d p) := by
  unfold Dev.placeStart
  simp (maxSteps := 400000) (maxDischargeDepth := 99) +contextual [Keeps.foldl, Keeps.ite, Dev.draw]
@[simp] theorem Dev.placeStart_keeps {L : Nat} {d0 : Dev} (d : Dev) (p : PortId) (hmask : 16384 ||| L = L) (hkeep : Keeps L d0 d) : Keeps L d0 (Dev.placeStart d p) :=
  .after hmask (Dev.placeStart_keeps0 d p) hkeep

theorem Dev.enterAuthorised_keeps0 (d : Dev) (p : PortId) : Keeps 212992 d (Dev.enterAuthorised d p) := by
  unfold Dev.enterAuthorised
  simp (maxSteps := 400000) (maxDischargeDepth := 99) +contextual [Keeps.foldl, Keeps.ite, Dev.draw]
@[simp] theorem Dev.enterAuthorised_keeps {L : Nat} {d0 : Dev} (d : Dev) (p : PortId) (hmask : 212992 ||| L = L) (hkeep : Keeps L d0 d) : Keeps L d0 (Dev.enterAuthorised d p) :=
  .after hmask (Dev.enterAuthorised_keeps0 d p) hkeep

theorem Dev.enterIdentifying_keeps0 (d : Dev) (p : PortId) : Keeps 20480 d (Dev.enterIdentifying d p) := by
  unfold Dev.enterIdentifying
  simp (maxSteps := 400000) (maxDischargeDepth := 99) +contextual [Keeps.foldl, Keeps.ite, Dev.draw]
@[simp] theorem Dev.enterIdentifying_keeps {L : Nat} {d0 : Dev} (d : Dev) (p : PortId) (hmask : 20480 ||| L = L) (hkeep : Keeps L d0 d) : Keeps L d0 (Dev.enterIdentifying d p) :=
  .after hmask (Dev.enterIdentifying_keeps0 d p) hkeep

theorem Dev.placeStop_keeps0 (d : Dev) (p : PortId) (reason : Nat) : Keeps 2838534 d (Dev.placeStop d p reason) := by
  unfold Dev.placeStop
  (try dsimp only); (repeat' split) <;> simp (maxSteps := 400000) (maxDischargeDepth := 99) +contextual [Keeps.foldl, Keeps.ite, Dev.draw]
@[simp] theorem Dev.placeStop_keeps {L : Nat} {d0 : Dev} (d : Dev) (p : PortId) (reason : Nat) (hmask : 2838534 ||| L = L) (hkeep : Keeps L d0 d) : Keeps L d0 (Dev.placeStop d p reason) :=
  .after hmask (Dev.placeStop_keeps0 d p reason) hkeep

theorem Dev.sessionStop_keeps0 (d : Dev) (p : PortId) (reason : Nat) : Keeps 2838534 d (Dev.sessionStop d p reason) := by
  unfold Dev.sessionStop
  (try dsimp only); (repeat' split) <;> simp (maxSteps := 400000) (maxDischargeDepth := 99) +contextual [Keeps.foldl, Keeps.ite, Dev.draw]
@[simp] theorem Dev.sessionStop_keeps {L : Nat} {d0 : Dev} (d : Dev) (p : PortId) (reason : Nat) (hmask : 2838534 ||| L = L) (hkeep : Keeps L d0 d) : Keeps L d0 (Dev.sessionStop d p reason) :=
  .after hmask (Dev.sessionStop_keeps0 d p reason) hkeep

theorem Dev.drop_keeps0 (d : Dev) (p : PortId) : Keeps 147456 d (Dev.drop d p) := by
  unfold Dev.drop
  simp (maxSteps := 400000) (maxDischargeDepth := 99) +contextual [Keeps.foldl, Keeps.ite, Dev.draw]
@[simp] theorem Dev.drop_keeps {L : Nat} {d0 : Dev} (d : Dev) (p : PortId) (hmask : 147456 ||| L = L) (hkeep : Keeps L d0 d) : Keeps L d0 (Dev.drop d p) :=
  .after hmask (Dev.drop_keeps0 d p) hkeep

theorem Dev.dropFor_keeps0 (d : Dev) (p : PortId) (reason : Nat) : Keeps 147456 d (Dev.dropFor d p reason) := by
  unfold Dev.dropFor
  (try dsimp only); (repeat' split) <;> simp (maxSteps := 400000) (maxDischargeDepth := 99) +contextual [Keeps.foldl, Keeps.ite, Dev.draw]
@[simp] theorem Dev.dropFor_keeps {L : Nat} {d0 : Dev} (d : Dev) (p : PortId) (reason : Nat) (hmask : 147456 ||| L = L) (hkeep : Keeps L d0 d) : Keeps L d0 (Dev.dropFor d p reason) :=
  .after hmask (Dev.dropFor_keeps0 d p reason) hkeep

theorem Dev.dropAll_keeps0 (d : Dev) (reason : Nat) : Keeps 147456 d (Dev.dropAll d reason) := by
  unfold Dev.dropAll
  simp (maxSteps := 400000) (maxDischargeDepth := 99) +contextual [Keeps.foldl, Keeps.ite, Dev.draw]
@[simp] theorem Dev.dropAll_keeps {L : Nat} {d0 : Dev} (d : Dev) (reason : Nat) (hmask : 147456 ||| L = L) (hkeep : Keeps L d0 d) : Keeps L d0 (Dev.dropAll d reason) :=
  .after hmask (Dev.dropAll_keeps0 d reason) hkeep

theorem Dev.opened_keeps0 (d : Dev) (p : PortId) : Keeps 2838534 d (Dev.opened d p) := by
  unfold Dev.opened
  simp (maxSteps := 400000) (maxDischargeDepth := 99) +contextual [Keeps.foldl, Keeps.ite, Dev.draw]
@[simp] theorem Dev.opened_keeps {L : Nat} {d0 : Dev} (d : Dev) (p : PortId) (hmask : 2838534 ||| L = L) (hkeep : Keeps L d0 d) : Keeps L d0 (Dev.opened d p) :=
  .after hmask (Dev.opened_keeps0 d p) hkeep

theorem Dev.contactorFailed_keeps0 (d : Dev) (p : PortId) (bits : Nat) : Keeps 155652 d (Dev.contactorFailed d p bits) := by
  unfold Dev.contactorFailed
  simp (maxSteps := 400000) (maxDischargeDepth := 99) +contextual [Keeps.foldl, Keeps.ite, Dev.draw]
@[simp] theorem Dev.contactorFailed_keeps {L : Nat} {d0 : Dev} (d : Dev) (p : PortId) (bits : Nat) (hmask : 155652 ||| L = L) (hkeep : Keeps L d0 d) : Keeps L d0 (Dev.contactorFailed d p bits) :=
  .after hmask (Dev.contactorFailed_keeps0 d p bits) hkeep

theorem Dev.pilotFault_keeps0 (d : Dev) (p : PortId) : Keeps 2846726 d (Dev.pilotFault d p) := by
  unfold Dev.pilotFault
  (try dsimp only); (repeat' split) <;> simp (maxSteps := 400000) (maxDischargeDepth := 99) +contextual [Keeps.foldl, Keeps.ite, Dev.draw]
@[simp] theorem Dev.pilotFault_keeps {L : Nat} {d0 : Dev} (d : Dev) (p : PortId) (hmask : 2846726 ||| L = L) (hkeep : Keeps L d0 d) : Keeps L d0 (Dev.pilotFault d p) :=
  .after hmask (Dev.pilotFault_keeps0 d p) hkeep

end Sys2Proof.Machine
end

