-- ==== Sys2Proof/Laws/FramesPorts.lean ====
section
/-! SUPPORT. What each function leaves alone: ports, modules, the allocator and the serial buses. -/

set_option linter.unusedSimpArgs false
set_option linter.unusedTactic false
set_option linter.unreachableTactic false
set_option linter.unnecessarySeqFocus false

namespace Sys2Proof.Machine

theorem Dev.connect_keeps0 (d : Dev) (p : PortId) (ratio : Nat) : Keeps 2838534 d (Dev.connect d p ratio) := by
  unfold Dev.connect
  simp (maxSteps := 400000) (maxDischargeDepth := 99) +contextual [Keeps.foldl, Keeps.ite, Dev.draw]
@[simp] theorem Dev.connect_keeps {L : Nat} {d0 : Dev} (d : Dev) (p : PortId) (ratio : Nat) (hmask : 2838534 ||| L = L) (hkeep : Keeps L d0 d) : Keeps L d0 (Dev.connect d p ratio) :=
  .after hmask (Dev.connect_keeps0 d p ratio) hkeep

theorem Dev.unplugged_keeps0 (d : Dev) (p : PortId) : Keeps 2838534 d (Dev.unplugged d p) := by
  unfold Dev.unplugged
  (try dsimp only); (repeat' split) <;> simp (maxSteps := 400000) (maxDischargeDepth := 99) +contextual [Keeps.foldl, Keeps.ite, Dev.draw]
@[simp] theorem Dev.unplugged_keeps {L : Nat} {d0 : Dev} (d : Dev) (p : PortId) (hmask : 2838534 ||| L = L) (hkeep : Keeps L d0 d) : Keeps L d0 (Dev.unplugged d p) :=
  .after hmask (Dev.unplugged_keeps0 d p) hkeep

theorem Dev.pilotAccepted_keeps0 (d : Dev) (p : PortId) (st : Pilot) (ratio : Nat) : Keeps 2846726 d (Dev.pilotAccepted d p st ratio) := by
  unfold Dev.pilotAccepted
  (try dsimp only); (repeat' split) <;> simp (maxSteps := 400000) (maxDischargeDepth := 99) +contextual [Keeps.foldl, Keeps.ite, Dev.draw]
@[simp] theorem Dev.pilotAccepted_keeps {L : Nat} {d0 : Dev} (d : Dev) (p : PortId) (st : Pilot) (ratio : Nat) (hmask : 2846726 ||| L = L) (hkeep : Keeps L d0 d) : Keeps L d0 (Dev.pilotAccepted d p st ratio) :=
  .after hmask (Dev.pilotAccepted_keeps0 d p st ratio) hkeep

theorem pilotStateAccepted_keeps0 (p : PortId) (high low : Int) (periods ratio : Nat) (d : Dev) : Keeps 2846726 d (pilotStateAccepted p high low periods ratio d) := by
  unfold pilotStateAccepted
  (try dsimp only); (repeat' split) <;> simp (maxSteps := 400000) (maxDischargeDepth := 99) +contextual [Keeps.foldl, Keeps.ite, Dev.draw]
@[simp] theorem pilotStateAccepted_keeps {L : Nat} {d0 : Dev} (p : PortId) (high low : Int) (periods ratio : Nat) (d : Dev) (hmask : 2846726 ||| L = L) (hkeep : Keeps L d0 d) : Keeps L d0 (pilotStateAccepted p high low periods ratio d) :=
  .after hmask (pilotStateAccepted_keeps0 p high low periods ratio d) hkeep

theorem Dev.hlcFallback_keeps0 (d : Dev) (p : PortId) : Keeps 2838534 d (Dev.hlcFallback d p) := by
  unfold Dev.hlcFallback
  simp (maxSteps := 400000) (maxDischargeDepth := 99) +contextual [Keeps.foldl, Keeps.ite, Dev.draw]
@[simp] theorem Dev.hlcFallback_keeps {L : Nat} {d0 : Dev} (d : Dev) (p : PortId) (hmask : 2838534 ||| L = L) (hkeep : Keeps L d0 d) : Keeps L d0 (Dev.hlcFallback d p) :=
  .after hmask (Dev.hlcFallback_keeps0 d p) hkeep

theorem Dev.hlcFailed_keeps0 (d : Dev) (p : PortId) : Keeps 2838534 d (Dev.hlcFailed d p) := by
  unfold Dev.hlcFailed
  (try dsimp only); (repeat' split) <;> simp (maxSteps := 400000) (maxDischargeDepth := 99) +contextual [Keeps.foldl, Keeps.ite, Dev.draw]
@[simp] theorem Dev.hlcFailed_keeps {L : Nat} {d0 : Dev} (d : Dev) (p : PortId) (hmask : 2838534 ||| L = L) (hkeep : Keeps L d0 d) : Keeps L d0 (Dev.hlcFailed d p) :=
  .after hmask (Dev.hlcFailed_keeps0 d p) hkeep

theorem hlcSetupTimeout_keeps0 (p : PortId) (d : Dev) : Keeps 2838534 d (hlcSetupTimeout p d) := by
  unfold hlcSetupTimeout
  (try dsimp only); (repeat' split) <;> simp (maxSteps := 400000) (maxDischargeDepth := 99) +contextual [Keeps.foldl, Keeps.ite, Dev.draw]
@[simp] theorem hlcSetupTimeout_keeps {L : Nat} {d0 : Dev} (p : PortId) (d : Dev) (hmask : 2838534 ||| L = L) (hkeep : Keeps L d0 d) : Keeps L d0 (hlcSetupTimeout p d) :=
  .after hmask (hlcSetupTimeout_keeps0 p d) hkeep

theorem steadyHighEnd_keeps0 (p : PortId) (d : Dev) : Keeps 16384 d (steadyHighEnd p d) := by
  unfold steadyHighEnd
  (try dsimp only); (repeat' split) <;> simp (maxSteps := 400000) (maxDischargeDepth := 99) +contextual [Keeps.foldl, Keeps.ite, Dev.draw]
@[simp] theorem steadyHighEnd_keeps {L : Nat} {d0 : Dev} (p : PortId) (d : Dev) (hmask : 16384 ||| L = L) (hkeep : Keeps L d0 d) : Keeps L d0 (steadyHighEnd p d) :=
  .after hmask (steadyHighEnd_keeps0 p d) hkeep

theorem proximityBandChange_keeps0 (p : PortId) (ratio : Nat) (d : Dev) : Keeps 2846726 d (proximityBandChange p ratio d) := by
  unfold proximityBandChange
  simp (maxSteps := 400000) (maxDischargeDepth := 99) +contextual [Keeps.foldl, Keeps.ite, Dev.draw]
@[simp] theorem proximityBandChange_keeps {L : Nat} {d0 : Dev} (p : PortId) (ratio : Nat) (d : Dev) (hmask : 2846726 ||| L = L) (hkeep : Keeps L d0 d) : Keeps L d0 (proximityBandChange p ratio d) :=
  .after hmask (proximityBandChange_keeps0 p ratio d) hkeep

theorem lockConfirmed_keeps0 (p : PortId) (d : Dev) : Keeps 20480 d (lockConfirmed p d) := by
  unfold lockConfirmed
  (try dsimp only); (repeat' split) <;> simp (maxSteps := 400000) (maxDischargeDepth := 99) +contextual [Keeps.foldl, Keeps.ite, Dev.draw]
@[simp] theorem lockConfirmed_keeps {L : Nat} {d0 : Dev} (p : PortId) (d : Dev) (hmask : 20480 ||| L = L) (hkeep : Keeps L d0 d) : Keeps L d0 (lockConfirmed p d) :=
  .after hmask (lockConfirmed_keeps0 p d) hkeep

theorem lockTimeout_keeps0 (p : PortId) (d : Dev) : Keeps 2838534 d (lockTimeout p d) := by
  unfold lockTimeout
  (try dsimp only); (repeat' split) <;> simp (maxSteps := 400000) (maxDischargeDepth := 99) +contextual [Keeps.foldl, Keeps.ite, Dev.draw]
@[simp] theorem lockTimeout_keeps {L : Nat} {d0 : Dev} (p : PortId) (d : Dev) (hmask : 2838534 ||| L = L) (hkeep : Keeps L d0 d) : Keeps L d0 (lockTimeout p d) :=
  .after hmask (lockTimeout_keeps0 p d) hkeep

theorem unlockServe_keeps0 (p : PortId) (a : Ack) (u2_ : Val) (d : Dev) : Keeps 134238214 d (unlockServe p a u2_ d) := by
  unfold unlockServe
  simp (maxSteps := 400000) (maxDischargeDepth := 99) +contextual [Keeps.foldl, Keeps.ite, Dev.draw]
@[simp] theorem unlockServe_keeps {L : Nat} {d0 : Dev} (p : PortId) (a : Ack) (u2_ : Val) (d : Dev) (hmask : 134238214 ||| L = L) (hkeep : Keeps L d0 d) : Keeps L d0 (unlockServe p a u2_ d) :=
  .after hmask (unlockServe_keeps0 p a u2_ d) hkeep

theorem portStartServe_keeps0 (p : PortId) (a : Ack) (u2_ : Val) (d : Dev) : Keeps 134223878 d (portStartServe p a u2_ d) := by
  unfold portStartServe
  (try dsimp only); (repeat' split) <;> simp (maxSteps := 400000) (maxDischargeDepth := 99) +contextual [Keeps.foldl, Keeps.ite, Dev.draw]
@[simp] theorem portStartServe_keeps {L : Nat} {d0 : Dev} (p : PortId) (a : Ack) (u2_ : Val) (d : Dev) (hmask : 134223878 ||| L = L) (hkeep : Keeps L d0 d) : Keeps L d0 (portStartServe p a u2_ d) :=
  .after hmask (portStartServe_keeps0 p a u2_ d) hkeep

theorem portStopServe_keeps0 (p : PortId) (a : Ack) (u2_ : Val) (d : Dev) : Keeps 2048 d (portStopServe p a u2_ d) := by
  unfold portStopServe
  simp (maxSteps := 400000) (maxDischargeDepth := 99) +contextual [Keeps.foldl, Keeps.ite, Dev.draw]
@[simp] theorem portStopServe_keeps {L : Nat} {d0 : Dev} (p : PortId) (a : Ack) (u2_ : Val) (d : Dev) (hmask : 2048 ||| L = L) (hkeep : Keeps L d0 d) : Keeps L d0 (portStopServe p a u2_ d) :=
  .after hmask (portStopServe_keeps0 p a u2_ d) hkeep

theorem exportStopServe_keeps0 (p : PortId) (a : Ack) (u2_ : Val) (d : Dev) : Keeps 2048 d (exportStopServe p a u2_ d) := by
  unfold exportStopServe
  simp (maxSteps := 400000) (maxDischargeDepth := 99) +contextual [Keeps.foldl, Keeps.ite, Dev.draw]
@[simp] theorem exportStopServe_keeps {L : Nat} {d0 : Dev} (p : PortId) (a : Ack) (u2_ : Val) (d : Dev) (hmask : 2048 ||| L = L) (hkeep : Keeps L d0 d) : Keeps L d0 (exportStopServe p a u2_ d) :=
  .after hmask (exportStopServe_keeps0 p a u2_ d) hkeep

theorem Dev.applyStart_keeps0 (d : Dev) (p : PortId) : Keeps 2838534 d (Dev.applyStart d p) := by
  unfold Dev.applyStart
  simp (maxSteps := 400000) (maxDischargeDepth := 99) +contextual [Keeps.foldl, Keeps.ite, Dev.draw]
@[simp] theorem Dev.applyStart_keeps {L : Nat} {d0 : Dev} (d : Dev) (p : PortId) (hmask : 2838534 ||| L = L) (hkeep : Keeps L d0 d) : Keeps L d0 (Dev.applyStart d p) :=
  .after hmask (Dev.applyStart_keeps0 d p) hkeep

theorem Dev.applyExportStop_keeps0 (d : Dev) (p : PortId) : Keeps 16384 d (Dev.applyExportStop d p) := by
  unfold Dev.applyExportStop
  simp (maxSteps := 400000) (maxDischargeDepth := 99) +contextual [Keeps.foldl, Keeps.ite, Dev.draw]
@[simp] theorem Dev.applyExportStop_keeps {L : Nat} {d0 : Dev} (d : Dev) (p : PortId) (hmask : 16384 ||| L = L) (hkeep : Keeps L d0 d) : Keeps L d0 (Dev.applyExportStop d p) :=
  .after hmask (Dev.applyExportStop_keeps0 d p) hkeep

theorem closingTimeout_keeps0 (p : PortId) (d : Dev) : Keeps 155652 d (closingTimeout p d) := by
  unfold closingTimeout
  (try dsimp only); (repeat' split) <;> simp (maxSteps := 400000) (maxDischargeDepth := 99) +contextual [Keeps.foldl, Keeps.ite, Dev.draw]
@[simp] theorem closingTimeout_keeps {L : Nat} {d0 : Dev} (p : PortId) (d : Dev) (hmask : 155652 ||| L = L) (hkeep : Keeps L d0 d) : Keeps L d0 (closingTimeout p d) :=
  .after hmask (closingTimeout_keeps0 p d) hkeep

theorem openingTimeout_keeps0 (p : PortId) (d : Dev) : Keeps 2846726 d (openingTimeout p d) := by
  unfold openingTimeout
  (try dsimp only); (repeat' split) <;> simp (maxSteps := 400000) (maxDischargeDepth := 99) +contextual [Keeps.foldl, Keeps.ite, Dev.draw]
@[simp] theorem openingTimeout_keeps {L : Nat} {d0 : Dev} (p : PortId) (d : Dev) (hmask : 2846726 ||| L = L) (hkeep : Keeps L d0 d) : Keeps L d0 (openingTimeout p d) :=
  .after hmask (openingTimeout_keeps0 p d) hkeep

theorem contactorFeedbackChange_keeps0 (p : PortId) (a b : Bool) (d : Dev) : Keeps 2846726 d (contactorFeedbackChange p a b d) := by
  unfold contactorFeedbackChange
  (try dsimp only); (repeat' split) <;> simp (maxSteps := 400000) (maxDischargeDepth := 99) +contextual [Keeps.foldl, Keeps.ite, Dev.draw]
@[simp] theorem contactorFeedbackChange_keeps {L : Nat} {d0 : Dev} (p : PortId) (a b : Bool) (d : Dev) (hmask : 2846726 ||| L = L) (hkeep : Keeps L d0 d) : Keeps L d0 (contactorFeedbackChange p a b d) :=
  .after hmask (contactorFeedbackChange_keeps0 p a b d) hkeep

theorem stopWaitTimeout_keeps0 (p : PortId) (d : Dev) : Keeps 147456 d (stopWaitTimeout p d) := by
  unfold stopWaitTimeout
  (try dsimp only); (repeat' split) <;> simp (maxSteps := 400000) (maxDischargeDepth := 99) +contextual [Keeps.foldl, Keeps.ite, Dev.draw]
@[simp] theorem stopWaitTimeout_keeps {L : Nat} {d0 : Dev} (p : PortId) (d : Dev) (hmask : 147456 ||| L = L) (hkeep : Keeps L d0 d) : Keeps L d0 (stopWaitTimeout p d) :=
  .after hmask (stopWaitTimeout_keeps0 p d) hkeep

theorem pilotAIdle_keeps0 (p : PortId) (d : Dev) : Keeps 2846726 d (pilotAIdle p d) := by
  unfold pilotAIdle
  (try dsimp only); (repeat' split) <;> simp (maxSteps := 400000) (maxDischargeDepth := 99) +contextual [Keeps.foldl, Keeps.ite, Dev.draw]
@[simp] theorem pilotAIdle_keeps {L : Nat} {d0 : Dev} (p : PortId) (d : Dev) (hmask : 2846726 ||| L = L) (hkeep : Keeps L d0 d) : Keeps L d0 (pilotAIdle p d) :=
  .after hmask (pilotAIdle_keeps0 p d) hkeep

theorem permissionInputChange_keeps0 (p : PortId) (level : Bool) (d : Dev) : Keeps 2838534 d (permissionInputChange p level d) := by
  unfold permissionInputChange
  simp (maxSteps := 400000) (maxDischargeDepth := 99) +contextual [Keeps.foldl, Keeps.ite, Dev.draw]
@[simp] theorem permissionInputChange_keeps {L : Nat} {d0 : Dev} (p : PortId) (level : Bool) (d : Dev) (hmask : 2838534 ||| L = L) (hkeep : Keeps L d0 d) : Keeps L d0 (permissionInputChange p level d) :=
  .after hmask (permissionInputChange_keeps0 p level d) hkeep

theorem externalLoadTimeout_keeps0 (d : Dev) : Keeps 4 d (externalLoadTimeout d) := by
  unfold externalLoadTimeout
  simp (maxSteps := 400000) (maxDischargeDepth := 99) +contextual [Keeps.foldl, Keeps.ite, Dev.draw]
@[simp] theorem externalLoadTimeout_keeps {L : Nat} {d0 : Dev} (d : Dev) (hmask : 4 ||| L = L) (hkeep : Keeps L d0 d) : Keeps L d0 (externalLoadTimeout d) :=
  .after hmask (externalLoadTimeout_keeps0 d) hkeep

theorem pauseTimeout_keeps0 (p : PortId) (d : Dev) : Keeps 2838534 d (pauseTimeout p d) := by
  unfold pauseTimeout
  (try dsimp only); (repeat' split) <;> simp (maxSteps := 400000) (maxDischargeDepth := 99) +contextual [Keeps.foldl, Keeps.ite, Dev.draw]
@[simp] theorem pauseTimeout_keeps {L : Nat} {d0 : Dev} (p : PortId) (d : Dev) (hmask : 2838534 ||| L = L) (hkeep : Keeps L d0 d) : Keeps L d0 (pauseTimeout p d) :=
  .after hmask (pauseTimeout_keeps0 p d) hkeep

theorem migration_keeps0 (p : PortId) (d : Dev) : Keeps 16388 d (migration p d) := by
  unfold migration
  (try dsimp only); (repeat' split) <;> simp (maxSteps := 400000) (maxDischargeDepth := 99) +contextual [Keeps.foldl, Keeps.ite, Dev.draw]
@[simp] theorem migration_keeps {L : Nat} {d0 : Dev} (p : PortId) (d : Dev) (hmask : 16388 ||| L = L) (hkeep : Keeps L d0 d) : Keeps L d0 (migration p d) :=
  .after hmask (migration_keeps0 p d) hkeep

theorem Dev.setModule_keeps0 (d : Dev) (m : Fin 16) (f : Module → Module) : Keeps 32768 d (Dev.setModule d m f) := by
  unfold Dev.setModule
  simp (maxSteps := 400000) (maxDischargeDepth := 99) +contextual [Keeps.foldl, Keeps.ite, Dev.draw]
@[simp] theorem Dev.setModule_keeps {L : Nat} {d0 : Dev} (d : Dev) (m : Fin 16) (f : Module → Module) (hmask : 32768 ||| L = L) (hkeep : Keeps L d0 d) : Keeps L d0 (Dev.setModule d m f) :=
  .after hmask (Dev.setModule_keeps0 d m f) hkeep

theorem Dev.can4Covered_keeps0 (d : Dev) (good : Bool) : Keeps 4 d (Dev.can4Covered d good) := by
  unfold Dev.can4Covered
  simp (maxSteps := 400000) (maxDischargeDepth := 99) +contextual [Keeps.foldl, Keeps.ite, Dev.draw]
@[simp] theorem Dev.can4Covered_keeps {L : Nat} {d0 : Dev} (d : Dev) (good : Bool) (hmask : 4 ||| L = L) (hkeep : Keeps L d0 d) : Keeps L d0 (Dev.can4Covered d good) :=
  .after hmask (Dev.can4Covered_keeps0 d good) hkeep

theorem Dev.sayCan4_keeps0 (d : Dev) (id : Nat) (body : Bytes) : Keeps 6 d (Dev.sayCan4 d id body) := by
  unfold Dev.sayCan4
  simp (maxSteps := 400000) (maxDischargeDepth := 99) +contextual [Keeps.foldl, Keeps.ite, Dev.draw]
@[simp] theorem Dev.sayCan4_keeps {L : Nat} {d0 : Dev} (d : Dev) (id : Nat) (body : Bytes) (hmask : 6 ||| L = L) (hkeep : Keeps L d0 d) : Keeps L d0 (Dev.sayCan4 d id body) :=
  .after hmask (Dev.sayCan4_keeps0 d id body) hkeep

theorem Dev.stopAllModules_keeps0 (d : Dev) (reason : Nat) : Keeps 6 d (Dev.stopAllModules d reason) := by
  unfold Dev.stopAllModules
  simp (maxSteps := 400000) (maxDischargeDepth := 99) +contextual [Keeps.foldl, Keeps.ite, Dev.draw]
@[simp] theorem Dev.stopAllModules_keeps {L : Nat} {d0 : Dev} (d : Dev) (reason : Nat) (hmask : 6 ||| L = L) (hkeep : Keeps L d0 d) : Keeps L d0 (Dev.stopAllModules d reason) :=
  .after hmask (Dev.stopAllModules_keeps0 d reason) hkeep

theorem setpoint_keeps0 (m : Fin 16) (d : Dev) : Keeps 8421382 d (setpoint m d) := by
  unfold setpoint
  (try dsimp only); (repeat' split) <;> simp (maxSteps := 400000) (maxDischargeDepth := 99) +contextual [Keeps.foldl, Keeps.ite, Dev.draw]
@[simp] theorem setpoint_keeps {L : Nat} {d0 : Dev} (m : Fin 16) (d : Dev) (hmask : 8421382 ||| L = L) (hkeep : Keeps L d0 d) : Keeps L d0 (setpoint m d) :=
  .after hmask (setpoint_keeps0 m d) hkeep

theorem configModule_keeps0 (m : Fin 16) (d : Dev) : Keeps 32774 d (configModule m d) := by
  unfold configModule
  simp (maxSteps := 400000) (maxDischargeDepth := 99) +contextual [Keeps.foldl, Keeps.ite, Dev.draw]
@[simp] theorem configModule_keeps {L : Nat} {d0 : Dev} (m : Fin 16) (d : Dev) (hmask : 32774 ||| L = L) (hkeep : Keeps L d0 d) : Keeps L d0 (configModule m d) :=
  .after hmask (configModule_keeps0 m d) hkeep

theorem Dev.carryingShrunk_keeps0 (d : Dev) (m : Fin 16) : Keeps 2838534 d (Dev.carryingShrunk d m) := by
  unfold Dev.carryingShrunk
  (try dsimp only); (repeat' split) <;> simp (maxSteps := 400000) (maxDischargeDepth := 99) +contextual [Keeps.foldl, Keeps.ite, Dev.draw]
@[simp] theorem Dev.carryingShrunk_keeps {L : Nat} {d0 : Dev} (d : Dev) (m : Fin 16) (hmask : 2838534 ||| L = L) (hkeep : Keeps L d0 d) : Keeps L d0 (Dev.carryingShrunk d m) :=
  .after hmask (Dev.carryingShrunk_keeps0 d m) hkeep

theorem Dev.loseModule_keeps0 (d : Dev) (m : Fin 16) : Keeps 2879494 d (Dev.loseModule d m) := by
  unfold Dev.loseModule
  (try dsimp only); (repeat' split) <;> simp (maxSteps := 400000) (maxDischargeDepth := 99) +contextual [Keeps.foldl, Keeps.ite, Dev.draw]
@[simp] theorem Dev.loseModule_keeps {L : Nat} {d0 : Dev} (d : Dev) (m : Fin 16) (hmask : 2879494 ||| L = L) (hkeep : Keeps L d0 d) : Keeps L d0 (Dev.loseModule d m) :=
  .after hmask (Dev.loseModule_keeps0 d m) hkeep

theorem statusFrame_keeps0 (m : Fin 16) (f : StatusFrame) (d : Dev) : Keeps 2879494 d (statusFrame m f d) := by
  unfold statusFrame
  simp (maxSteps := 400000) (maxDischargeDepth := 99) +contextual [Keeps.foldl, Keeps.ite, Dev.draw]
@[simp] theorem statusFrame_keeps {L : Nat} {d0 : Dev} (m : Fin 16) (f : StatusFrame) (d : Dev) (hmask : 2879494 ||| L = L) (hkeep : Keeps L d0 d) : Keeps L d0 (statusFrame m f d) :=
  .after hmask (statusFrame_keeps0 m f d) hkeep

theorem identFrame_keeps0 (m : Fin 16) (f : IdentFrame) (d : Dev) : Keeps 32772 d (identFrame m f d) := by
  unfold identFrame
  simp (maxSteps := 400000) (maxDischargeDepth := 99) +contextual [Keeps.foldl, Keeps.ite, Dev.draw]
@[simp] theorem identFrame_keeps {L : Nat} {d0 : Dev} (m : Fin 16) (f : IdentFrame) (d : Dev) (hmask : 32772 ||| L = L) (hkeep : Keeps L d0 d) : Keeps L d0 (identFrame m f d) :=
  .after hmask (identFrame_keeps0 m f d) hkeep

theorem modulePresenceTimeout_keeps0 (m : Fin 16) (d : Dev) : Keeps 2871302 d (modulePresenceTimeout m d) := by
  unfold modulePresenceTimeout
  (try dsimp only); (repeat' split) <;> simp (maxSteps := 400000) (maxDischargeDepth := 99) +contextual [Keeps.foldl, Keeps.ite, Dev.draw]
@[simp] theorem modulePresenceTimeout_keeps {L : Nat} {d0 : Dev} (m : Fin 16) (d : Dev) (hmask : 2871302 ||| L = L) (hkeep : Keeps L d0 d) : Keeps L d0 (modulePresenceTimeout m d) :=
  .after hmask (modulePresenceTimeout_keeps0 m d) hkeep

theorem statusMissing_keeps0 (m : Fin 16) (d : Dev) : Keeps 2879494 d (statusMissing m d) := by
  unfold statusMissing
  simp (maxSteps := 400000) (maxDischargeDepth := 99) +contextual [Keeps.foldl, Keeps.ite, Dev.draw]
@[simp] theorem statusMissing_keeps {L : Nat} {d0 : Dev} (m : Fin 16) (d : Dev) (hmask : 2879494 ||| L = L) (hkeep : Keeps L d0 d) : Keeps L d0 (statusMissing m d) :=
  .after hmask (statusMissing_keeps0 m d) hkeep

theorem converterStopTimeout_keeps0 (d : Dev) : Keeps 212992 d (converterStopTimeout d) := by
  unfold converterStopTimeout
  (try dsimp only); (repeat' split) <;> simp (maxSteps := 400000) (maxDischargeDepth := 99) +contextual [Keeps.foldl, Keeps.ite, Dev.draw]
@[simp] theorem converterStopTimeout_keeps {L : Nat} {d0 : Dev} (d : Dev) (hmask : 212992 ||| L = L) (hkeep : Keeps L d0 d) : Keeps L d0 (converterStopTimeout d) :=
  .after hmask (converterStopTimeout_keeps0 d) hkeep

theorem Dev.applyGiven_keeps0 (d : Dev) (c : Claim) (ex : Option Claim) : Keeps 16390 d (Dev.applyGiven d c ex) := by
  unfold Dev.applyGiven
  extract_lets p old new d1 d2 out exp d3
  have h_d1 : Keeps 16390 d d1 := by unfold d1; first | (simp (maxDischargeDepth := 99) +contextual [*, Keeps.foldl, Keeps.ite]; done) | (repeat' split) <;> (simp (maxDischargeDepth := 99) +contextual [*, Keeps.foldl, Keeps.ite]; done) | (refine Keeps.foldl _ (by first | assumption | simp (maxDischargeDepth := 99) +contextual [*, Keeps.foldl, Keeps.ite]) fun e x he => ?_; first | (simp (maxDischargeDepth := 99) +contextual [*, Keeps.foldl, Keeps.ite]; done) | (repeat' split) <;> (simp (maxDischargeDepth := 99) +contextual [*, Keeps.foldl, Keeps.ite]; done))
  clear_value d1
  have h_d2 : Keeps 16390 d d2 := by unfold d2; first | (simp (maxDischargeDepth := 99) +contextual [*, Keeps.foldl, Keeps.ite]; done) | (repeat' split) <;> (simp (maxDischargeDepth := 99) +contextual [*, Keeps.foldl, Keeps.ite]; done) | (refine Keeps.foldl _ (by first | assumption | simp (maxDischargeDepth := 99) +contextual [*, Keeps.foldl, Keeps.ite]) fun e x he => ?_; first | (simp (maxDischargeDepth := 99) +contextual [*, Keeps.foldl, Keeps.ite]; done) | (repeat' split) <;> (simp (maxDischargeDepth := 99) +contextual [*, Keeps.foldl, Keeps.ite]; done))
  clear_value d2
  have h_d3 : Keeps 16390 d d3 := by unfold d3; first | (simp (maxDischargeDepth := 99) +contextual [*, Keeps.foldl, Keeps.ite]; done) | (repeat' split) <;> (simp (maxDischargeDepth := 99) +contextual [*, Keeps.foldl, Keeps.ite]; done) | (refine Keeps.foldl _ (by first | assumption | simp (maxDischargeDepth := 99) +contextual [*, Keeps.foldl, Keeps.ite]) fun e x he => ?_; first | (simp (maxDischargeDepth := 99) +contextual [*, Keeps.foldl, Keeps.ite]; done) | (repeat' split) <;> (simp (maxDischargeDepth := 99) +contextual [*, Keeps.foldl, Keeps.ite]; done))
  clear_value d3
  first | (simp (maxDischargeDepth := 99) +contextual [*, Keeps.foldl, Keeps.ite]; done) | (repeat' split) <;> (simp (maxDischargeDepth := 99) +contextual [*, Keeps.foldl, Keeps.ite]; done) | (refine Keeps.foldl _ (by first | assumption | simp (maxDischargeDepth := 99) +contextual [*, Keeps.foldl, Keeps.ite]) fun e x he => ?_; first | (simp (maxDischargeDepth := 99) +contextual [*, Keeps.foldl, Keeps.ite]; done) | (repeat' split) <;> (simp (maxDischargeDepth := 99) +contextual [*, Keeps.foldl, Keeps.ite]; done))
@[simp] theorem Dev.applyGiven_keeps {L : Nat} {d0 : Dev} (d : Dev) (c : Claim) (ex : Option Claim) (hmask : 16390 ||| L = L) (hkeep : Keeps L d0 d) : Keeps L d0 (Dev.applyGiven d c ex) :=
  .after hmask (Dev.applyGiven_keeps0 d c ex) hkeep

theorem Dev.allocate_keeps0 (d : Dev) : Keeps 114694 d (Dev.allocate d) := by
  unfold Dev.allocate
  extract_lets st base d1 ports left
  have h_d1 : Keeps 114694 d d1 := by unfold d1; first | (simp (maxDischargeDepth := 99) +contextual [*, Keeps.foldl, Keeps.ite]; done) | (repeat' split) <;> (simp (maxDischargeDepth := 99) +contextual [*, Keeps.foldl, Keeps.ite]; done) | (refine Keeps.foldl _ (by first | assumption | simp (maxDischargeDepth := 99) +contextual [*, Keeps.foldl, Keeps.ite]) fun e x he => ?_; first | (simp (maxDischargeDepth := 99) +contextual [*, Keeps.foldl, Keeps.ite]; done) | (repeat' split) <;> (simp (maxDischargeDepth := 99) +contextual [*, Keeps.foldl, Keeps.ite]; done))
  clear_value d1
  split
  extract_lets cs room ex
  split
  split
  extract_lets d2 d3 ps d4
  have h_d2 : Keeps 114694 d d2 := by unfold d2; first | (simp (maxDischargeDepth := 99) +contextual [*, Keeps.foldl, Keeps.ite]; done) | (repeat' split) <;> (simp (maxDischargeDepth := 99) +contextual [*, Keeps.foldl, Keeps.ite]; done) | (refine Keeps.foldl _ (by first | assumption | simp (maxDischargeDepth := 99) +contextual [*, Keeps.foldl, Keeps.ite]) fun e x he => ?_; first | (simp (maxDischargeDepth := 99) +contextual [*, Keeps.foldl, Keeps.ite]; done) | (repeat' split) <;> (simp (maxDischargeDepth := 99) +contextual [*, Keeps.foldl, Keeps.ite]; done))
  clear_value d2
  have h_d3 : Keeps 114694 d d3 := by unfold d3; first | (simp (maxDischargeDepth := 99) +contextual [*, Keeps.foldl, Keeps.ite]; done) | (repeat' split) <;> (simp (maxDischargeDepth := 99) +contextual [*, Keeps.foldl, Keeps.ite]; done) | (refine Keeps.foldl _ (by first | assumption | simp (maxDischargeDepth := 99) +contextual [*, Keeps.foldl, Keeps.ite]) fun e x he => ?_; first | (simp (maxDischargeDepth := 99) +contextual [*, Keeps.foldl, Keeps.ite]; done) | (repeat' split) <;> (simp (maxDischargeDepth := 99) +contextual [*, Keeps.foldl, Keeps.ite]; done))
  clear_value d3
  have h_d4 : Keeps 114694 d d4 := by unfold d4; first | (simp (maxDischargeDepth := 99) +contextual [*, Keeps.foldl, Keeps.ite]; done) | (repeat' split) <;> (simp (maxDischargeDepth := 99) +contextual [*, Keeps.foldl, Keeps.ite]; done) | (refine Keeps.foldl _ (by first | assumption | simp (maxDischargeDepth := 99) +contextual [*, Keeps.foldl, Keeps.ite]) fun e x he => ?_; first | (simp (maxDischargeDepth := 99) +contextual [*, Keeps.foldl, Keeps.ite]; done) | (repeat' split) <;> (simp (maxDischargeDepth := 99) +contextual [*, Keeps.foldl, Keeps.ite]; done))
  clear_value d4
  first | (simp (maxDischargeDepth := 99) +contextual [*, Keeps.foldl, Keeps.ite]; done) | (repeat' split) <;> (simp (maxDischargeDepth := 99) +contextual [*, Keeps.foldl, Keeps.ite]; done) | (refine Keeps.foldl _ (by first | assumption | simp (maxDischargeDepth := 99) +contextual [*, Keeps.foldl, Keeps.ite]) fun e x he => ?_; first | (simp (maxDischargeDepth := 99) +contextual [*, Keeps.foldl, Keeps.ite]; done) | (repeat' split) <;> (simp (maxDischargeDepth := 99) +contextual [*, Keeps.foldl, Keeps.ite]; done))
@[simp] theorem Dev.allocate_keeps {L : Nat} {d0 : Dev} (d : Dev) (hmask : 114694 ||| L = L) (hkeep : Keeps L d0 d) : Keeps L d0 (Dev.allocate d) :=
  .after hmask (Dev.allocate_keeps0 d) hkeep

theorem allocatorRun_keeps0 (d : Dev) : Keeps 114694 d (allocatorRun d) := by
  unfold allocatorRun
  simp (maxSteps := 400000) (maxDischargeDepth := 99) +contextual [Keeps.foldl, Keeps.ite, Dev.draw]
@[simp] theorem allocatorRun_keeps {L : Nat} {d0 : Dev} (d : Dev) (hmask : 114694 ||| L = L) (hkeep : Keeps L d0 d) : Keeps L d0 (allocatorRun d) :=
  .after hmask (allocatorRun_keeps0 d) hkeep

end Sys2Proof.Machine
end

