-- ==== Sys2Proof/Laws/FramesSafety.lean ====
section
/-! SUPPORT. What each function leaves alone: the firebreaks and the meters. -/

set_option linter.unusedSimpArgs false
set_option linter.unusedTactic false
set_option linter.unreachableTactic false
set_option linter.unnecessarySeqFocus false

namespace Sys2Proof.Machine

theorem Dev.latchDiscrepancy_keeps0 (d : Dev) (i : Fin 4) : Keeps 8196 d (Dev.latchDiscrepancy d i) := by
  unfold Dev.latchDiscrepancy
  simp (maxSteps := 400000) (maxDischargeDepth := 99) +contextual [Keeps.foldl, Keeps.ite, Dev.draw]
@[simp] theorem Dev.latchDiscrepancy_keeps {L : Nat} {d0 : Dev} (d : Dev) (i : Fin 4) (hmask : 8196 ||| L = L) (hkeep : Keeps L d0 d) : Keeps L d0 (Dev.latchDiscrepancy d i) :=
  .after hmask (Dev.latchDiscrepancy_keeps0 d i) hkeep

theorem Dev.inputTick_keeps0 (stale : Bool) (d : Dev) (i : Fin 4) : Keeps 155652 d (Dev.inputTick stale d i) := by
  unfold Dev.inputTick
  simp (maxSteps := 400000) (maxDischargeDepth := 99) +contextual [Keeps.foldl, Keeps.ite, Dev.draw]
@[simp] theorem Dev.inputTick_keeps {L : Nat} {d0 : Dev} (stale : Bool) (d : Dev) (i : Fin 4) (hmask : 155652 ||| L = L) (hkeep : Keeps L d0 d) : Keeps L d0 (Dev.inputTick stale d i) :=
  .after hmask (Dev.inputTick_keeps0 stale d i) hkeep

theorem Dev.driveSafeOut_keeps0 (d : Dev) : Keeps 4 d (Dev.driveSafeOut d) := by
  unfold Dev.driveSafeOut
  simp (maxSteps := 400000) (maxDischargeDepth := 99) +contextual [Keeps.foldl, Keeps.ite, Dev.draw]
@[simp] theorem Dev.driveSafeOut_keeps {L : Nat} {d0 : Dev} (d : Dev) (hmask : 4 ||| L = L) (hkeep : Keeps L d0 d) : Keeps L d0 (Dev.driveSafeOut d) :=
  .after hmask (Dev.driveSafeOut_keeps0 d) hkeep

theorem Dev.holdAgain_keeps0 (d : Dev) : Keeps 139268 d (Dev.holdAgain d) := by
  unfold Dev.holdAgain
  simp (maxSteps := 400000) (maxDischargeDepth := 99) +contextual [Keeps.foldl, Keeps.ite, Dev.draw]
@[simp] theorem Dev.holdAgain_keeps {L : Nat} {d0 : Dev} (d : Dev) (hmask : 139268 ||| L = L) (hkeep : Keeps L d0 d) : Keeps L d0 (Dev.holdAgain d) :=
  .after hmask (Dev.holdAgain_keeps0 d) hkeep

theorem Dev.channelDown_keeps0 (b : Bool) (cause : Nat) (d : Dev) : Keeps 147749 d (Dev.channelDown b cause d) := by
  unfold Dev.channelDown
  (try dsimp only); (repeat' split) <;> simp (maxSteps := 400000) (maxDischargeDepth := 99) +contextual [Keeps.foldl, Keeps.ite, Dev.draw]
@[simp] theorem Dev.channelDown_keeps {L : Nat} {d0 : Dev} (b : Bool) (cause : Nat) (d : Dev) (hmask : 147749 ||| L = L) (hkeep : Keeps L d0 d) : Keeps L d0 (Dev.channelDown b cause d) :=
  .after hmask (Dev.channelDown_keeps0 b cause d) hkeep
/-- The loss of channel B leaves the crossings alone. -/
theorem Dev.channelDownB_keeps0 (cause : Nat) (d : Dev) : Keeps 147717 d (Dev.channelDown true cause d) := by
  unfold Dev.channelDown
  (try dsimp only); (repeat' split) <;> first | contradiction | (simp (maxSteps := 400000) (maxDischargeDepth := 99) +contextual [Keeps.foldl, Keeps.ite, Dev.draw]; done)

theorem Dev.firebreakFault_keeps0 (d : Dev) (restartA restartB : Bool) (cause : Nat) : Keeps 155941 d (Dev.firebreakFault d restartA restartB cause) := by
  unfold Dev.firebreakFault
  simp (maxSteps := 400000) (maxDischargeDepth := 99) +contextual [Keeps.foldl, Keeps.ite, Dev.draw]
@[simp] theorem Dev.firebreakFault_keeps {L : Nat} {d0 : Dev} (d : Dev) (restartA restartB : Bool) (cause : Nat) (hmask : 155941 ||| L = L) (hkeep : Keeps L d0 d) : Keeps L d0 (Dev.firebreakFault d restartA restartB cause) :=
  .after hmask (Dev.firebreakFault_keeps0 d restartA restartB cause) hkeep

theorem Dev.outputFault_keeps0 (d : Dev) (o : OsOutput) : Keeps 155941 d (Dev.outputFault d o) := by
  unfold Dev.outputFault
  simp (maxSteps := 400000) (maxDischargeDepth := 99) +contextual [Keeps.foldl, Keeps.ite, Dev.draw]
@[simp] theorem Dev.outputFault_keeps {L : Nat} {d0 : Dev} (d : Dev) (o : OsOutput) (hmask : 155941 ||| L = L) (hkeep : Keeps L d0 d) : Keeps L d0 (Dev.outputFault d o) :=
  .after hmask (Dev.outputFault_keeps0 d o) hkeep

theorem Dev.close_keeps0 (p : PortId) (d : Dev) : Keeps 2842628 d (Dev.close p d) := by
  unfold Dev.close
  simp (maxSteps := 400000) (maxDischargeDepth := 99) +contextual [Keeps.foldl, Keeps.ite, Dev.draw]
@[simp] theorem Dev.close_keeps {L : Nat} {d0 : Dev} (p : PortId) (d : Dev) (hmask : 2842628 ||| L = L) (hkeep : Keeps L d0 d) : Keeps L d0 (Dev.close p d) :=
  .after hmask (Dev.close_keeps0 p d) hkeep

theorem Dev.beginStop_keeps0 (p : PortId) (reason : Nat) (d : Dev) : Keeps 81920 d (Dev.beginStop p reason d) := by
  unfold Dev.beginStop
  simp (maxSteps := 400000) (maxDischargeDepth := 99) +contextual [Keeps.foldl, Keeps.ite, Dev.draw]
@[simp] theorem Dev.beginStop_keeps {L : Nat} {d0 : Dev} (p : PortId) (reason : Nat) (d : Dev) (hmask : 81920 ||| L = L) (hkeep : Keeps L d0 d) : Keeps L d0 (Dev.beginStop p reason d) :=
  .after hmask (Dev.beginStop_keeps0 p reason d) hkeep

theorem Dev.stopNow_keeps0 (p : PortId) (new : Nat) (d : Dev) : Keeps 212998 d (Dev.stopNow p new d) := by
  unfold Dev.stopNow
  simp (maxSteps := 400000) (maxDischargeDepth := 99) +contextual [Keeps.foldl, Keeps.ite, Dev.draw]
@[simp] theorem Dev.stopNow_keeps {L : Nat} {d0 : Dev} (p : PortId) (new : Nat) (d : Dev) (hmask : 212998 ||| L = L) (hkeep : Keeps L d0 d) : Keeps L d0 (Dev.stopNow p new d) :=
  .after hmask (Dev.stopNow_keeps0 p new d) hkeep

theorem Dev.startStop_keeps0 (d : Dev) (p : PortId) (new : Nat) (bits : List Nat) : Keeps 212998 d (Dev.startStop d p new bits) := by
  unfold Dev.startStop
  simp (maxSteps := 400000) (maxDischargeDepth := 99) +contextual [Keeps.foldl, Keeps.ite, Dev.draw]
@[simp] theorem Dev.startStop_keeps {L : Nat} {d0 : Dev} (d : Dev) (p : PortId) (new : Nat) (bits : List Nat) (hmask : 212998 ||| L = L) (hkeep : Keeps L d0 d) : Keeps L d0 (Dev.startStop d p new bits) :=
  .after hmask (Dev.startStop_keeps0 d p new bits) hkeep

theorem Dev.finishStop_keeps0 (d : Dev) (p : PortId) : Keeps 147456 d (Dev.finishStop d p) := by
  unfold Dev.finishStop
  (try dsimp only); (repeat' split) <;> simp (maxSteps := 400000) (maxDischargeDepth := 99) +contextual [Keeps.foldl, Keeps.ite, Dev.draw]
@[simp] theorem Dev.finishStop_keeps {L : Nat} {d0 : Dev} (d : Dev) (p : PortId) (hmask : 147456 ||| L = L) (hkeep : Keeps L d0 d) : Keeps L d0 (Dev.finishStop d p) :=
  .after hmask (Dev.finishStop_keeps0 d p) hkeep

theorem Dev.arbiter_keeps0 (d : Dev) (p : PortId) : Keeps 2846726 d (Dev.arbiter d p) := by
  unfold Dev.arbiter
  (try dsimp only); (repeat' split) <;> simp (maxSteps := 400000) (maxDischargeDepth := 99) +contextual [Keeps.foldl, Keeps.ite, Dev.draw]
@[simp] theorem Dev.arbiter_keeps {L : Nat} {d0 : Dev} (d : Dev) (p : PortId) (hmask : 2846726 ||| L = L) (hkeep : Keeps L d0 d) : Keeps L d0 (Dev.arbiter d p) :=
  .after hmask (Dev.arbiter_keeps0 d p) hkeep

theorem Dev.followTick_keeps0 (d : Dev) (p : PortId) : Keeps 155652 d (Dev.followTick d p) := by
  unfold Dev.followTick
  (try dsimp only); (repeat' split) <;> simp (maxSteps := 400000) (maxDischargeDepth := 99) +contextual [Keeps.foldl, Keeps.ite, Dev.draw]
@[simp] theorem Dev.followTick_keeps {L : Nat} {d0 : Dev} (d : Dev) (p : PortId) (hmask : 155652 ||| L = L) (hkeep : Keeps L d0 d) : Keeps L d0 (Dev.followTick d p) :=
  .after hmask (Dev.followTick_keeps0 d p) hkeep

theorem Dev.viewTick_keeps0 (v : TickView) (d : Dev) (p : PortId) : Keeps 147460 d (Dev.viewTick v d p) := by
  unfold Dev.viewTick
  simp (maxSteps := 400000) (maxDischargeDepth := 99) +contextual [Keeps.foldl, Keeps.ite, Dev.draw]
@[simp] theorem Dev.viewTick_keeps {L : Nat} {d0 : Dev} (v : TickView) (d : Dev) (p : PortId) (hmask : 147460 ||| L = L) (hkeep : Keeps L d0 d) : Keeps L d0 (Dev.viewTick v d p) :=
  .after hmask (Dev.viewTick_keeps0 v d p) hkeep

theorem Dev.follow_keeps0 (d : Dev) (bit : Nat) (p : PortId) (on : Bool) : Keeps 155652 d (Dev.follow d bit p on) := by
  unfold Dev.follow
  simp (maxSteps := 400000) (maxDischargeDepth := 99) +contextual [Keeps.foldl, Keeps.ite, Dev.draw]
@[simp] theorem Dev.follow_keeps {L : Nat} {d0 : Dev} (d : Dev) (bit : Nat) (p : PortId) (on : Bool) (hmask : 155652 ||| L = L) (hkeep : Keeps L d0 d) : Keeps L d0 (Dev.follow d bit p on) :=
  .after hmask (Dev.follow_keeps0 d bit p on) hkeep

theorem Dev.exchange_keeps0 (v : TickView) (d : Dev) : Keeps 131072 d (Dev.exchange v d) := by
  unfold Dev.exchange
  simp (maxSteps := 400000) (maxDischargeDepth := 99) +contextual [Keeps.foldl, Keeps.ite, Dev.draw]
@[simp] theorem Dev.exchange_keeps {L : Nat} {d0 : Dev} (v : TickView) (d : Dev) (hmask : 131072 ||| L = L) (hkeep : Keeps L d0 d) : Keeps L d0 (Dev.exchange v d) :=
  .after hmask (Dev.exchange_keeps0 v d) hkeep

theorem Dev.tickTaken_keeps0 (d : Dev) (gap : Nat) : Keeps 155941 d (Dev.tickTaken d gap) := by
  unfold Dev.tickTaken
  simp (maxSteps := 400000) (maxDischargeDepth := 99) +contextual [Keeps.foldl, Keeps.ite, Dev.draw]
@[simp] theorem Dev.tickTaken_keeps {L : Nat} {d0 : Dev} (d : Dev) (gap : Nat) (hmask : 155941 ||| L = L) (hkeep : Keeps L d0 d) : Keeps L d0 (Dev.tickTaken d gap) :=
  .after hmask (Dev.tickTaken_keeps0 d gap) hkeep

theorem safetyTick_keeps0 (v : TickView) (d : Dev) : Keeps 2847023 d (safetyTick v d) := by
  unfold safetyTick
  simp (maxSteps := 400000) (maxDischargeDepth := 99) +contextual [Keeps.foldl, Keeps.ite, Dev.draw]
@[simp] theorem safetyTick_keeps {L : Nat} {d0 : Dev} (v : TickView) (d : Dev) (hmask : 2847023 ||| L = L) (hkeep : Keeps L d0 d) : Keeps L d0 (safetyTick v d) :=
  .after hmask (safetyTick_keeps0 v d) hkeep

theorem firebreakFaultEvent_keeps0 (r : FbFault) (d : Dev) : Keeps 155941 d (firebreakFaultEvent r d) := by
  unfold firebreakFaultEvent
  (try dsimp only); (repeat' split) <;> simp (maxSteps := 400000) (maxDischargeDepth := 99) +contextual [Keeps.foldl, Keeps.ite, Dev.draw]
@[simp] theorem firebreakFaultEvent_keeps {L : Nat} {d0 : Dev} (r : FbFault) (d : Dev) (hmask : 155941 ||| L = L) (hkeep : Keeps L d0 d) : Keeps L d0 (firebreakFaultEvent r d) :=
  .after hmask (firebreakFaultEvent_keeps0 r d) hkeep

theorem safetyInputChange_keeps0 (i : SafetyInput) (level : Bool) (d : Dev) : Keeps 131076 d (safetyInputChange i level d) := by
  unfold safetyInputChange
  (try dsimp only); (repeat' split) <;> simp (maxSteps := 400000) (maxDischargeDepth := 99) +contextual [Keeps.foldl, Keeps.ite, Dev.draw]
@[simp] theorem safetyInputChange_keeps {L : Nat} {d0 : Dev} (i : SafetyInput) (level : Bool) (d : Dev) (hmask : 131076 ||| L = L) (hkeep : Keeps L d0 d) : Keeps L d0 (safetyInputChange i level d) :=
  .after hmask (safetyInputChange_keeps0 i level d) hkeep

theorem discrepancyFault_keeps0 (i : Fin 4) (d : Dev) : Keeps 8196 d (discrepancyFault i d) := by
  unfold discrepancyFault
  simp (maxSteps := 400000) (maxDischargeDepth := 99) +contextual [Keeps.foldl, Keeps.ite, Dev.draw]
@[simp] theorem discrepancyFault_keeps {L : Nat} {d0 : Dev} (i : Fin 4) (d : Dev) (hmask : 8196 ||| L = L) (hkeep : Keeps L d0 d) : Keeps L d0 (discrepancyFault i d) :=
  .after hmask (discrepancyFault_keeps0 i d) hkeep

theorem edgePort_keeps0 (d : Dev) (p : PortId) : Keeps 155652 d (edgePort d p) := by
  unfold edgePort
  simp (maxSteps := 400000) (maxDischargeDepth := 99) +contextual [Keeps.foldl, Keeps.ite, Dev.draw]
@[simp] theorem edgePort_keeps {L : Nat} {d0 : Dev} (d : Dev) (p : PortId) (hmask : 155652 ||| L = L) (hkeep : Keeps L d0 d) : Keeps L d0 (edgePort d p) :=
  .after hmask (edgePort_keeps0 d p) hkeep

theorem unconfirm_keeps0 (d : Dev) : Keeps 8196 d (unconfirm d) := by
  unfold unconfirm
  simp (maxSteps := 400000) (maxDischargeDepth := 99) +contextual [Keeps.foldl, Keeps.ite, Dev.draw]
@[simp] theorem unconfirm_keeps {L : Nat} {d0 : Dev} (d : Dev) (hmask : 8196 ||| L = L) (hkeep : Keeps L d0 d) : Keeps L d0 (unconfirm d) :=
  .after hmask (unconfirm_keeps0 d) hkeep

theorem commissionDone_keeps0 (d : Dev) : Keeps 155652 d (commissionDone d) := by
  unfold commissionDone
  simp (maxSteps := 400000) (maxDischargeDepth := 99) +contextual [Keeps.foldl, Keeps.ite, Dev.draw]
@[simp] theorem commissionDone_keeps {L : Nat} {d0 : Dev} (d : Dev) (hmask : 155652 ||| L = L) (hkeep : Keeps L d0 d) : Keeps L d0 (commissionDone d) :=
  .after hmask (commissionDone_keeps0 d) hkeep

theorem edgeDiscrepancy_keeps0 (rise : Nat) (d : Dev) : Keeps 4 d (edgeDiscrepancy rise d) := by
  unfold edgeDiscrepancy
  simp (maxSteps := 400000) (maxDischargeDepth := 99) +contextual [Keeps.foldl, Keeps.ite, Dev.draw]
@[simp] theorem edgeDiscrepancy_keeps {L : Nat} {d0 : Dev} (rise : Nat) (d : Dev) (hmask : 4 ||| L = L) (hkeep : Keeps L d0 d) : Keeps L d0 (edgeDiscrepancy rise d) :=
  .after hmask (edgeDiscrepancy_keeps0 rise d) hkeep

theorem edgeFaults_keeps0 (d : Dev) : Keeps 131072 d (edgeFaults d) := by
  unfold edgeFaults
  simp (maxSteps := 400000) (maxDischargeDepth := 99) +contextual [Keeps.foldl, Keeps.ite, Dev.draw]
@[simp] theorem edgeFaults_keeps {L : Nat} {d0 : Dev} (d : Dev) (hmask : 131072 ||| L = L) (hkeep : Keeps L d0 d) : Keeps L d0 (edgeFaults d) :=
  .after hmask (edgeFaults_keeps0 d) hkeep

theorem resetEdge_keeps0 (d : Dev) : Keeps 155652 d (resetEdge d) := by
  unfold resetEdge
  (try dsimp only); (repeat' split) <;> simp (maxSteps := 400000) (maxDischargeDepth := 99) +contextual [Keeps.foldl, Keeps.ite, Dev.draw]
@[simp] theorem resetEdge_keeps {L : Nat} {d0 : Dev} (d : Dev) (hmask : 155652 ||| L = L) (hkeep : Keeps L d0 d) : Keeps L d0 (resetEdge d) :=
  .after hmask (resetEdge_keeps0 d) hkeep

theorem resetStuck_keeps0 (d : Dev) : Keeps 8196 d (resetStuck d) := by
  unfold resetStuck
  (try dsimp only); (repeat' split) <;> simp (maxSteps := 400000) (maxDischargeDepth := 99) +contextual [Keeps.foldl, Keeps.ite, Dev.draw]
@[simp] theorem resetStuck_keeps {L : Nat} {d0 : Dev} (d : Dev) (hmask : 8196 ||| L = L) (hkeep : Keeps L d0 d) : Keeps L d0 (resetStuck d) :=
  .after hmask (resetStuck_keeps0 d) hkeep

theorem outputFaultEvent_keeps0 (o : OsOutput) (d : Dev) : Keeps 155941 d (outputFaultEvent o d) := by
  unfold outputFaultEvent
  simp (maxSteps := 400000) (maxDischargeDepth := 99) +contextual [Keeps.foldl, Keeps.ite, Dev.draw]
@[simp] theorem outputFaultEvent_keeps {L : Nat} {d0 : Dev} (o : OsOutput) (d : Dev) (hmask : 155941 ||| L = L) (hkeep : Keeps L d0 d) : Keeps L d0 (outputFaultEvent o d) :=
  .after hmask (outputFaultEvent_keeps0 o d) hkeep

theorem outputTestPulse_keeps0 (o : OsOutput) (readBackLow : Bool) (d : Dev) : Keeps 155941 d (outputTestPulse o readBackLow d) := by
  unfold outputTestPulse
  simp (maxSteps := 400000) (maxDischargeDepth := 99) +contextual [Keeps.foldl, Keeps.ite, Dev.draw]
@[simp] theorem outputTestPulse_keeps {L : Nat} {d0 : Dev} (o : OsOutput) (readBackLow : Bool) (d : Dev) (hmask : 155941 ||| L = L) (hkeep : Keeps L d0 d) : Keeps L d0 (outputTestPulse o readBackLow d) :=
  .after hmask (outputTestPulse_keeps0 o readBackLow d) hkeep

theorem residualTrip_keeps0 (p : PortId) (c : RcdCriterion) (microAmps : Int) (ticks : Nat) (d : Dev) : Keeps 8196 d (residualTrip p c microAmps ticks d) := by
  unfold residualTrip
  simp (maxSteps := 400000) (maxDischargeDepth := 99) +contextual [Keeps.foldl, Keeps.ite, Dev.draw]
@[simp] theorem residualTrip_keeps {L : Nat} {d0 : Dev} (p : PortId) (c : RcdCriterion) (microAmps : Int) (ticks : Nat) (d : Dev) (hmask : 8196 ||| L = L) (hkeep : Keeps L d0 d) : Keeps L d0 (residualTrip p c microAmps ticks d) :=
  .after hmask (residualTrip_keeps0 p c microAmps ticks d) hkeep

theorem rcdSelfTest_keeps0 (p : PortId) (d : Dev) : Keeps 147456 d (rcdSelfTest p d) := by
  unfold rcdSelfTest
  simp (maxSteps := 400000) (maxDischargeDepth := 99) +contextual [Keeps.foldl, Keeps.ite, Dev.draw]
@[simp] theorem rcdSelfTest_keeps {L : Nat} {d0 : Dev} (p : PortId) (d : Dev) (hmask : 147456 ||| L = L) (hkeep : Keeps L d0 d) : Keeps L d0 (rcdSelfTest p d) :=
  .after hmask (rcdSelfTest_keeps0 p d) hkeep

theorem rcdResult_keeps0 (p : PortId) (microAmps : Nat) (d : Dev) : Keeps 134377478 d (rcdResult p microAmps d) := by
  unfold rcdResult
  simp (maxSteps := 400000) (maxDischargeDepth := 99) +contextual [Keeps.foldl, Keeps.ite, Dev.draw]
@[simp] theorem rcdResult_keeps {L : Nat} {d0 : Dev} (p : PortId) (microAmps : Nat) (d : Dev) (hmask : 134377478 ||| L = L) (hkeep : Keeps L d0 d) : Keeps L d0 (rcdResult p microAmps d) :=
  .after hmask (rcdResult_keeps0 p microAmps d) hkeep

theorem rcdSelfTestDone_keeps0 (p : PortId) (microAmps : Nat) (d : Dev) : Keeps 134377478 d (rcdSelfTestDone p microAmps d) := by
  unfold rcdSelfTestDone
  (try dsimp only); (repeat' split) <;> simp (maxSteps := 400000) (maxDischargeDepth := 99) +contextual [Keeps.foldl, Keeps.ite, Dev.draw]
@[simp] theorem rcdSelfTestDone_keeps {L : Nat} {d0 : Dev} (p : PortId) (microAmps : Nat) (d : Dev) (hmask : 134377478 ||| L = L) (hkeep : Keeps L d0 d) : Keeps L d0 (rcdSelfTestDone p microAmps d) :=
  .after hmask (rcdSelfTestDone_keeps0 p microAmps d) hkeep

theorem insulationFault_keeps0 (p : PortId) (u : Nat) (d : Dev) : Keeps 155652 d (insulationFault p u d) := by
  unfold insulationFault
  simp (maxSteps := 400000) (maxDischargeDepth := 99) +contextual [Keeps.foldl, Keeps.ite, Dev.draw]
@[simp] theorem insulationFault_keeps {L : Nat} {d0 : Dev} (p : PortId) (u : Nat) (d : Dev) (hmask : 155652 ||| L = L) (hkeep : Keeps L d0 d) : Keeps L d0 (insulationFault p u d) :=
  .after hmask (insulationFault_keeps0 p u d) hkeep

theorem showResistance_keeps0 (p : PortId) (ohms : Nat) (d : Dev) : Keeps 147460 d (showResistance p ohms d) := by
  unfold showResistance
  simp (maxSteps := 400000) (maxDischargeDepth := 99) +contextual [Keeps.foldl, Keeps.ite, Dev.draw]
@[simp] theorem showResistance_keeps {L : Nat} {d0 : Dev} (p : PortId) (ohms : Nat) (d : Dev) (hmask : 147460 ||| L = L) (hkeep : Keeps L d0 d) : Keeps L d0 (showResistance p ohms d) :=
  .after hmask (showResistance_keeps0 p ohms d) hkeep

theorem isolationTest_keeps0 (p : PortId) (ohms : Nat) (d : Dev) : Keeps 155652 d (isolationTest p ohms d) := by
  unfold isolationTest
  simp (maxSteps := 400000) (maxDischargeDepth := 99) +contextual [Keeps.foldl, Keeps.ite, Dev.draw]
@[simp] theorem isolationTest_keeps {L : Nat} {d0 : Dev} (p : PortId) (ohms : Nat) (d : Dev) (hmask : 155652 ||| L = L) (hkeep : Keeps L d0 d) : Keeps L d0 (isolationTest p ohms d) :=
  .after hmask (isolationTest_keeps0 p ohms d) hkeep

theorem insulationEvaluation_keeps0 (p : PortId) (ohms milliVolts : Nat) (d : Dev) : Keeps 155652 d (insulationEvaluation p ohms milliVolts d) := by
  unfold insulationEvaluation
  simp (maxSteps := 400000) (maxDischargeDepth := 99) +contextual [Keeps.foldl, Keeps.ite, Dev.draw]
@[simp] theorem insulationEvaluation_keeps {L : Nat} {d0 : Dev} (p : PortId) (ohms milliVolts : Nat) (d : Dev) (hmask : 155652 ||| L = L) (hkeep : Keeps L d0 d) : Keeps L d0 (insulationEvaluation p ohms milliVolts d) :=
  .after hmask (insulationEvaluation_keeps0 p ohms milliVolts d) hkeep

theorem imdLoopback_keeps0 (p : PortId) (ok : Bool) (d : Dev) : Keeps 134377478 d (imdLoopback p ok d) := by
  unfold imdLoopback
  simp (maxSteps := 400000) (maxDischargeDepth := 99) +contextual [Keeps.foldl, Keeps.ite, Dev.draw]
@[simp] theorem imdLoopback_keeps {L : Nat} {d0 : Dev} (p : PortId) (ok : Bool) (d : Dev) (hmask : 134377478 ||| L = L) (hkeep : Keeps L d0 d) : Keeps L d0 (imdLoopback p ok d) :=
  .after hmask (imdLoopback_keeps0 p ok d) hkeep

theorem penFault_keeps0 (milliVolts ticks : Nat) (d : Dev) : Keeps 139268 d (penFault milliVolts ticks d) := by
  unfold penFault
  simp (maxSteps := 400000) (maxDischargeDepth := 99) +contextual [Keeps.foldl, Keeps.ite, Dev.draw]
@[simp] theorem penFault_keeps {L : Nat} {d0 : Dev} (milliVolts ticks : Nat) (d : Dev) (hmask : 139268 ||| L = L) (hkeep : Keeps L d0 d) : Keeps L d0 (penFault milliVolts ticks d) :=
  .after hmask (penFault_keeps0 milliVolts ticks d) hkeep

theorem temperatureLimits_keeps0 (d : Dev) (p : PortId) : Keeps 4 d (temperatureLimits d p) := by
  unfold temperatureLimits
  simp (maxSteps := 400000) (maxDischargeDepth := 99) +contextual [Keeps.foldl, Keeps.ite, Dev.draw]
@[simp] theorem temperatureLimits_keeps {L : Nat} {d0 : Dev} (d : Dev) (p : PortId) (hmask : 4 ||| L = L) (hkeep : Keeps L d0 d) : Keeps L d0 (temperatureLimits d p) :=
  .after hmask (temperatureLimits_keeps0 d p) hkeep

theorem Dev.setSensor_keeps0 (d : Dev) (k : Fin 16) (f : Sensor → Sensor) : Keeps 131072 d (Dev.setSensor d k f) := by
  unfold Dev.setSensor
  simp (maxSteps := 400000) (maxDischargeDepth := 99) +contextual [Keeps.foldl, Keeps.ite, Dev.draw]
@[simp] theorem Dev.setSensor_keeps {L : Nat} {d0 : Dev} (d : Dev) (k : Fin 16) (f : Sensor → Sensor) (hmask : 131072 ||| L = L) (hkeep : Keeps L d0 d) : Keeps L d0 (Dev.setSensor d k f) :=
  .after hmask (Dev.setSensor_keeps0 d k f) hkeep

theorem pt1000Reading_keeps0 (k : Fin 16) (ohms : Nat) (t : Int) (d : Dev) : Keeps 145453063 d (pt1000Reading k ohms t d) := by
  unfold pt1000Reading
  simp (maxSteps := 400000) (maxDischargeDepth := 99) +contextual [Keeps.foldl, Keeps.ite, Dev.draw]
@[simp] theorem pt1000Reading_keeps {L : Nat} {d0 : Dev} (k : Fin 16) (ohms : Nat) (t : Int) (d : Dev) (hmask : 145453063 ||| L = L) (hkeep : Keeps L d0 d) : Keeps L d0 (pt1000Reading k ohms t d) :=
  .after hmask (pt1000Reading_keeps0 k ohms t d) hkeep

theorem sensorsCommitted_keeps0 (d old : Dev) : Keeps 155652 d (sensorsCommitted d old) := by
  unfold sensorsCommitted
  simp (maxSteps := 400000) (maxDischargeDepth := 99) +contextual [Keeps.foldl, Keeps.ite, Dev.draw]
@[simp] theorem sensorsCommitted_keeps {L : Nat} {d0 : Dev} (d old : Dev) (hmask : 155652 ||| L = L) (hkeep : Keeps L d0 d) : Keeps L d0 (sensorsCommitted d old) :=
  .after hmask (sensorsCommitted_keeps0 d old) hkeep

theorem temperatureTrip_keeps0 (k : Fin 16) (d : Dev) : Keeps 139268 d (temperatureTrip k d) := by
  unfold temperatureTrip
  simp (maxSteps := 400000) (maxDischargeDepth := 99) +contextual [Keeps.foldl, Keeps.ite, Dev.draw]
@[simp] theorem temperatureTrip_keeps {L : Nat} {d0 : Dev} (k : Fin 16) (d : Dev) (hmask : 139268 ||| L = L) (hkeep : Keeps L d0 d) : Keeps L d0 (temperatureTrip k d) :=
  .after hmask (temperatureTrip_keeps0 k d) hkeep

theorem sensorStale_keeps0 (k : Fin 16) (d : Dev) : Keeps 8196 d (sensorStale k d) := by
  unfold sensorStale
  simp (maxSteps := 400000) (maxDischargeDepth := 99) +contextual [Keeps.foldl, Keeps.ite, Dev.draw]
@[simp] theorem sensorStale_keeps {L : Nat} {d0 : Dev} (k : Fin 16) (d : Dev) (hmask : 8196 ||| L = L) (hkeep : Keeps L d0 d) : Keeps L d0 (sensorStale k d) :=
  .after hmask (sensorStale_keeps0 k d) hkeep

theorem contactorFaultClearServe_keeps0 (p : PortId) (a : Ack) (u2_ : Val) (d : Dev) : Keeps 134369286 d (contactorFaultClearServe p a u2_ d) := by
  unfold contactorFaultClearServe
  simp (maxSteps := 400000) (maxDischargeDepth := 99) +contextual [Keeps.foldl, Keeps.ite, Dev.draw]
@[simp] theorem contactorFaultClearServe_keeps {L : Nat} {d0 : Dev} (p : PortId) (a : Ack) (u2_ : Val) (d : Dev) (hmask : 134369286 ||| L = L) (hkeep : Keeps L d0 d) : Keeps L d0 (contactorFaultClearServe p a u2_ d) :=
  .after hmask (contactorFaultClearServe_keeps0 p a u2_ d) hkeep

theorem gridPort_keeps0 (d : Dev) (p : PortId) : Keeps 221188 d (gridPort d p) := by
  unfold gridPort
  simp (maxSteps := 400000) (maxDischargeDepth := 99) +contextual [Keeps.foldl, Keeps.ite, Dev.draw]
@[simp] theorem gridPort_keeps {L : Nat} {d0 : Dev} (d : Dev) (p : PortId) (hmask : 221188 ||| L = L) (hkeep : Keeps L d0 d) : Keeps L d0 (gridPort d p) :=
  .after hmask (gridPort_keeps0 d p) hkeep

theorem gridLoss_keeps0 (c : GridCriterion) (d : Dev) : Keeps 221190 d (gridLoss c d) := by
  unfold gridLoss
  simp (maxSteps := 400000) (maxDischargeDepth := 99) +contextual [Keeps.foldl, Keeps.ite, Dev.draw]
@[simp] theorem gridLoss_keeps {L : Nat} {d0 : Dev} (c : GridCriterion) (d : Dev) (hmask : 221190 ||| L = L) (hkeep : Keeps L d0 d) : Keeps L d0 (gridLoss c d) :=
  .after hmask (gridLoss_keeps0 c d) hkeep

theorem gridReconnect_keeps0 (d : Dev) : Keeps 155652 d (gridReconnect d) := by
  unfold gridReconnect
  (try dsimp only); (repeat' split) <;> simp (maxSteps := 400000) (maxDischargeDepth := 99) +contextual [Keeps.foldl, Keeps.ite, Dev.draw]
@[simp] theorem gridReconnect_keeps {L : Nat} {d0 : Dev} (d : Dev) (hmask : 155652 ||| L = L) (hkeep : Keeps L d0 d) : Keeps L d0 (gridReconnect d) :=
  .after hmask (gridReconnect_keeps0 d) hkeep

theorem followFault_keeps0 (p : PortId) (d : Dev) : Keeps 155652 d (followFault p d) := by
  unfold followFault
  simp (maxSteps := 400000) (maxDischargeDepth := 99) +contextual [Keeps.foldl, Keeps.ite, Dev.draw]
@[simp] theorem followFault_keeps {L : Nat} {d0 : Dev} (p : PortId) (d : Dev) (hmask : 155652 ||| L = L) (hkeep : Keeps L d0 d) : Keeps L d0 (followFault p d) :=
  .after hmask (followFault_keeps0 p d) hkeep

theorem firebreakRestartTimeout_keeps0 (b : Bool) (d : Dev) : Keeps 155941 d (firebreakRestartTimeout b d) := by
  unfold firebreakRestartTimeout
  (try dsimp only); (repeat' split) <;> simp (maxSteps := 400000) (maxDischargeDepth := 99) +contextual [Keeps.foldl, Keeps.ite, Dev.draw]
@[simp] theorem firebreakRestartTimeout_keeps {L : Nat} {d0 : Dev} (b : Bool) (d : Dev) (hmask : 155941 ||| L = L) (hkeep : Keeps L d0 d) : Keeps L d0 (firebreakRestartTimeout b d) :=
  .after hmask (firebreakRestartTimeout_keeps0 b d) hkeep

theorem confirmCheckServe_keeps0 (a : Ack) (v : Val) (d : Dev) : Keeps 134352902 d (confirmCheckServe a v d) := by
  unfold confirmCheckServe
  simp (maxSteps := 400000) (maxDischargeDepth := 99) +contextual [Keeps.foldl, Keeps.ite, Dev.draw]
@[simp] theorem confirmCheckServe_keeps {L : Nat} {d0 : Dev} (a : Ack) (v : Val) (d : Dev) (hmask : 134352902 ||| L = L) (hkeep : Keeps L d0 d) : Keeps L d0 (confirmCheckServe a v d) :=
  .after hmask (confirmCheckServe_keeps0 a v d) hkeep

theorem confirmTimeout_keeps0 (d : Dev) : Keeps 8196 d (confirmTimeout d) := by
  unfold confirmTimeout
  simp (maxSteps := 400000) (maxDischargeDepth := 99) +contextual [Keeps.foldl, Keeps.ite, Dev.draw]
@[simp] theorem confirmTimeout_keeps {L : Nat} {d0 : Dev} (d : Dev) (hmask : 8196 ||| L = L) (hkeep : Keeps L d0 d) : Keeps L d0 (confirmTimeout d) :=
  .after hmask (confirmTimeout_keeps0 d) hkeep

theorem checkValueSelfTest_keeps0 (a b : Nat) (d : Dev) : Keeps 155941 d (checkValueSelfTest a b d) := by
  unfold checkValueSelfTest
  simp (maxSteps := 400000) (maxDischargeDepth := 99) +contextual [Keeps.foldl, Keeps.ite, Dev.draw]
@[simp] theorem checkValueSelfTest_keeps {L : Nat} {d0 : Dev} (a b : Nat) (d : Dev) (hmask : 155941 ||| L = L) (hkeep : Keeps L d0 d) : Keeps L d0 (checkValueSelfTest a b d) :=
  .after hmask (checkValueSelfTest_keeps0 a b d) hkeep

theorem Dev.setChan_keeps0 (d : Dev) (c : Fin 68) (f : Channel → Channel) : Keeps 262144 d (Dev.setChan d c f) := by
  unfold Dev.setChan
  simp (maxSteps := 400000) (maxDischargeDepth := 99) +contextual [Keeps.foldl, Keeps.ite, Dev.draw]
@[simp] theorem Dev.setChan_keeps {L : Nat} {d0 : Dev} (d : Dev) (c : Fin 68) (f : Channel → Channel) (hmask : 262144 ||| L = L) (hkeep : Keeps L d0 d) : Keeps L d0 (Dev.setChan d c f) :=
  .after hmask (Dev.setChan_keeps0 d c f) hkeep

theorem Dev.setMeter_keeps0 (d : Dev) (e : EntityId) (f : Meter → Meter) : Keeps 262144 d (Dev.setMeter d e f) := by
  unfold Dev.setMeter
  simp (maxSteps := 400000) (maxDischargeDepth := 99) +contextual [Keeps.foldl, Keeps.ite, Dev.draw]
@[simp] theorem Dev.setMeter_keeps {L : Nat} {d0 : Dev} (d : Dev) (e : EntityId) (f : Meter → Meter) (hmask : 262144 ||| L = L) (hkeep : Keeps L d0 d) : Keeps L d0 (Dev.setMeter d e f) :=
  .after hmask (Dev.setMeter_keeps0 d e f) hkeep

theorem Dev.judgeChannels_keeps0 (d : Dev) (p : PortId) : Keeps 155652 d (Dev.judgeChannels d p) := by
  unfold Dev.judgeChannels
  simp (maxSteps := 400000) (maxDischargeDepth := 99) +contextual [Keeps.foldl, Keeps.ite, Dev.draw]
@[simp] theorem Dev.judgeChannels_keeps {L : Nat} {d0 : Dev} (d : Dev) (p : PortId) (hmask : 155652 ||| L = L) (hkeep : Keeps L d0 d) : Keeps L d0 (Dev.judgeChannels d p) :=
  .after hmask (Dev.judgeChannels_keeps0 d p) hkeep

theorem Dev.judgeOf_keeps0 (d : Dev) (c : Fin 68) : Keeps 155652 d (Dev.judgeOf d c) := by
  unfold Dev.judgeOf
  (try dsimp only); (repeat' split) <;> simp (maxSteps := 400000) (maxDischargeDepth := 99) +contextual [Keeps.foldl, Keeps.ite, Dev.draw]
@[simp] theorem Dev.judgeOf_keeps {L : Nat} {d0 : Dev} (d : Dev) (c : Fin 68) (hmask : 155652 ||| L = L) (hkeep : Keeps L d0 d) : Keeps L d0 (Dev.judgeOf d c) :=
  .after hmask (Dev.judgeOf_keeps0 d c) hkeep

theorem Dev.failChan_keeps0 (d : Dev) (c : Fin 68) (cause : Nat) : Keeps 417796 d (Dev.failChan d c cause) := by
  unfold Dev.failChan
  simp (maxSteps := 400000) (maxDischargeDepth := 99) +contextual [Keeps.foldl, Keeps.ite, Dev.draw]
@[simp] theorem Dev.failChan_keeps {L : Nat} {d0 : Dev} (d : Dev) (c : Fin 68) (cause : Nat) (hmask : 417796 ||| L = L) (hkeep : Keeps L d0 d) : Keeps L d0 (Dev.failChan d c cause) :=
  .after hmask (Dev.failChan_keeps0 d c cause) hkeep

theorem Dev.startDiscard_keeps0 (d : Dev) (c : Fin 68) (afterFail : Bool) : Keeps 262144 d (Dev.startDiscard d c afterFail) := by
  unfold Dev.startDiscard
  simp (maxSteps := 400000) (maxDischargeDepth := 99) +contextual [Keeps.foldl, Keeps.ite, Dev.draw]
@[simp] theorem Dev.startDiscard_keeps {L : Nat} {d0 : Dev} (d : Dev) (c : Fin 68) (afterFail : Bool) (hmask : 262144 ||| L = L) (hkeep : Keeps L d0 d) : Keeps L d0 (Dev.startDiscard d c afterFail) :=
  .after hmask (Dev.startDiscard_keeps0 d c afterFail) hkeep

theorem Dev.unfailChan_keeps0 (d : Dev) (c : Fin 68) (cause : Nat) : Keeps 262144 d (Dev.unfailChan d c cause) := by
  unfold Dev.unfailChan
  simp (maxSteps := 400000) (maxDischargeDepth := 99) +contextual [Keeps.foldl, Keeps.ite, Dev.draw]
@[simp] theorem Dev.unfailChan_keeps {L : Nat} {d0 : Dev} (d : Dev) (c : Fin 68) (cause : Nat) (hmask : 262144 ||| L = L) (hkeep : Keeps L d0 d) : Keeps L d0 (Dev.unfailChan d c cause) :=
  .after hmask (Dev.unfailChan_keeps0 d c cause) hkeep

theorem Dev.channelDiscardEnd_keeps0 (c : Fin 68) (d : Dev) : Keeps 417796 d (Dev.channelDiscardEnd c d) := by
  unfold Dev.channelDiscardEnd
  simp (maxSteps := 400000) (maxDischargeDepth := 99) +contextual [Keeps.foldl, Keeps.ite, Dev.draw]
@[simp] theorem Dev.channelDiscardEnd_keeps {L : Nat} {d0 : Dev} (c : Fin 68) (d : Dev) (hmask : 417796 ||| L = L) (hkeep : Keeps L d0 d) : Keeps L d0 (Dev.channelDiscardEnd c d) :=
  .after hmask (Dev.channelDiscardEnd_keeps0 c d) hkeep

theorem Dev.judgeSettings_keeps0 (d : Dev) (c : Fin 68) : Keeps 417796 d (Dev.judgeSettings d c) := by
  unfold Dev.judgeSettings
  simp (maxSteps := 400000) (maxDischargeDepth := 99) +contextual [Keeps.foldl, Keeps.ite, Dev.draw]
@[simp] theorem Dev.judgeSettings_keeps {L : Nat} {d0 : Dev} (d : Dev) (c : Fin 68) (hmask : 417796 ||| L = L) (hkeep : Keeps L d0 d) : Keeps L d0 (Dev.judgeSettings d c) :=
  .after hmask (Dev.judgeSettings_keeps0 d c) hkeep

theorem Dev.latchChan_keeps0 (d : Dev) (c : Fin 68) (b : Nat) : Keeps 417796 d (Dev.latchChan d c b) := by
  unfold Dev.latchChan
  simp (maxSteps := 400000) (maxDischargeDepth := 99) +contextual [Keeps.foldl, Keeps.ite, Dev.draw]
@[simp] theorem Dev.latchChan_keeps {L : Nat} {d0 : Dev} (d : Dev) (c : Fin 68) (b : Nat) (hmask : 417796 ||| L = L) (hkeep : Keeps L d0 d) : Keeps L d0 (Dev.latchChan d c b) :=
  .after hmask (Dev.latchChan_keeps0 d c b) hkeep

theorem Dev.latchEntity_keeps0 (d : Dev) (e : EntityId) : Keeps 417796 d (Dev.latchEntity d e) := by
  unfold Dev.latchEntity
  (try dsimp only); (repeat' split) <;> simp (maxSteps := 400000) (maxDischargeDepth := 99) +contextual [Keeps.foldl, Keeps.ite, Dev.draw]
@[simp] theorem Dev.latchEntity_keeps {L : Nat} {d0 : Dev} (d : Dev) (e : EntityId) (hmask : 417796 ||| L = L) (hkeep : Keeps L d0 d) : Keeps L d0 (Dev.latchEntity d e) :=
  .after hmask (Dev.latchEntity_keeps0 d e) hkeep

theorem Dev.closeChan_keeps0 (n : Nat) (d : Dev) (c : Fin 68) : Keeps 262148 d (Dev.closeChan n d c) := by
  unfold Dev.closeChan
  simp (maxSteps := 400000) (maxDischargeDepth := 99) +contextual [Keeps.foldl, Keeps.ite, Dev.draw]
@[simp] theorem Dev.closeChan_keeps {L : Nat} {d0 : Dev} (n : Nat) (d : Dev) (c : Fin 68) (hmask : 262148 ||| L = L) (hkeep : Keeps L d0 d) : Keeps L d0 (Dev.closeChan n d c) :=
  .after hmask (Dev.closeChan_keeps0 n d c) hkeep

theorem Dev.calPeriod_keeps0 (d : Dev) (e : EntityId) (len : Nat) (ended : Bool) (m : Meter) : Keeps 262148 d (Dev.calPeriod d e len ended m) := by
  unfold Dev.calPeriod
  (try dsimp only); (repeat' split) <;> simp (maxSteps := 400000) (maxDischargeDepth := 99) +contextual [Keeps.foldl, Keeps.ite, Dev.draw]
@[simp] theorem Dev.calPeriod_keeps {L : Nat} {d0 : Dev} (d : Dev) (e : EntityId) (len : Nat) (ended : Bool) (m : Meter) (hmask : 262148 ||| L = L) (hkeep : Keeps L d0 d) : Keeps L d0 (Dev.calPeriod d e len ended m) :=
  .after hmask (Dev.calPeriod_keeps0 d e len ended m) hkeep

theorem Dev.trimHeld_keeps0 (d : Dev) (e : EntityId) : Keeps 786432 d (Dev.trimHeld d e) := by
  unfold Dev.trimHeld
  (try dsimp only); (repeat' split) <;> simp (maxSteps := 400000) (maxDischargeDepth := 99) +contextual [Keeps.foldl, Keeps.ite, Dev.draw]
@[simp] theorem Dev.trimHeld_keeps {L : Nat} {d0 : Dev} (d : Dev) (e : EntityId) (hmask : 786432 ||| L = L) (hkeep : Keeps L d0 d) : Keeps L d0 (Dev.trimHeld d e) :=
  .after hmask (Dev.trimHeld_keeps0 d e) hkeep

theorem Dev.countLow_keeps0 (d : Dev) (e : EntityId) : Keeps 16384 d (Dev.countLow d e) := by
  unfold Dev.countLow
  (try dsimp only); (repeat' split) <;> simp (maxSteps := 400000) (maxDischargeDepth := 99) +contextual [Keeps.foldl, Keeps.ite, Dev.draw]
@[simp] theorem Dev.countLow_keeps {L : Nat} {d0 : Dev} (d : Dev) (e : EntityId) (hmask : 16384 ||| L = L) (hkeep : Keeps L d0 d) : Keeps L d0 (Dev.countLow d e) :=
  .after hmask (Dev.countLow_keeps0 d e) hkeep

theorem Dev.roll_keeps0 (d : Dev) (e : EntityId) (ended : Option Nat) : Keeps 942116 d (Dev.roll d e ended) := by
  unfold Dev.roll
  extract_lets m span accepted len lens sum d1 dc d2 d3 d4 d5
  have h_d1 : Keeps 942116 d d1 := by unfold d1; first | (simp (maxDischargeDepth := 99) +contextual [*, Keeps.foldl, Keeps.ite]; done) | (repeat' split) <;> (simp (maxDischargeDepth := 99) +contextual [*, Keeps.foldl, Keeps.ite]; done) | (refine Keeps.foldl _ (by first | assumption | simp (maxDischargeDepth := 99) +contextual [*, Keeps.foldl, Keeps.ite]) fun e x he => ?_; first | (simp (maxDischargeDepth := 99) +contextual [*, Keeps.foldl, Keeps.ite]; done) | (repeat' split) <;> (simp (maxDischargeDepth := 99) +contextual [*, Keeps.foldl, Keeps.ite]; done))
  clear_value d1
  have h_d2 : Keeps 942116 d d2 := by unfold d2; first | (simp (maxDischargeDepth := 99) +contextual [*, Keeps.foldl, Keeps.ite]; done) | (repeat' split) <;> (simp (maxDischargeDepth := 99) +contextual [*, Keeps.foldl, Keeps.ite]; done) | (refine Keeps.foldl _ (by first | assumption | simp (maxDischargeDepth := 99) +contextual [*, Keeps.foldl, Keeps.ite]) fun e x he => ?_; first | (simp (maxDischargeDepth := 99) +contextual [*, Keeps.foldl, Keeps.ite]; done) | (repeat' split) <;> (simp (maxDischargeDepth := 99) +contextual [*, Keeps.foldl, Keeps.ite]; done))
  clear_value d2
  have h_d3 : Keeps 942116 d d3 := by unfold d3; first | (simp (maxDischargeDepth := 99) +contextual [*, Keeps.foldl, Keeps.ite]; done) | (repeat' split) <;> (simp (maxDischargeDepth := 99) +contextual [*, Keeps.foldl, Keeps.ite]; done) | (refine Keeps.foldl _ (by first | assumption | simp (maxDischargeDepth := 99) +contextual [*, Keeps.foldl, Keeps.ite]) fun e x he => ?_; first | (simp (maxDischargeDepth := 99) +contextual [*, Keeps.foldl, Keeps.ite]; done) | (repeat' split) <;> (simp (maxDischargeDepth := 99) +contextual [*, Keeps.foldl, Keeps.ite]; done))
  clear_value d3
  have h_d4 : Keeps 942116 d d4 := by unfold d4; first | (simp (maxDischargeDepth := 99) +contextual [*, Keeps.foldl, Keeps.ite]; done) | (repeat' split) <;> (simp (maxDischargeDepth := 99) +contextual [*, Keeps.foldl, Keeps.ite]; done) | (refine Keeps.foldl _ (by first | assumption | simp (maxDischargeDepth := 99) +contextual [*, Keeps.foldl, Keeps.ite]) fun e x he => ?_; first | (simp (maxDischargeDepth := 99) +contextual [*, Keeps.foldl, Keeps.ite]; done) | (repeat' split) <;> (simp (maxDischargeDepth := 99) +contextual [*, Keeps.foldl, Keeps.ite]; done))
  clear_value d4
  have h_d5 : Keeps 942116 d d5 := by unfold d5; first | (simp (maxDischargeDepth := 99) +contextual [*, Keeps.foldl, Keeps.ite]; done) | (repeat' split) <;> (simp (maxDischargeDepth := 99) +contextual [*, Keeps.foldl, Keeps.ite]; done) | (refine Keeps.foldl _ (by first | assumption | simp (maxDischargeDepth := 99) +contextual [*, Keeps.foldl, Keeps.ite]) fun e x he => ?_; first | (simp (maxDischargeDepth := 99) +contextual [*, Keeps.foldl, Keeps.ite]; done) | (repeat' split) <;> (simp (maxDischargeDepth := 99) +contextual [*, Keeps.foldl, Keeps.ite]; done))
  clear_value d5
  first | (simp (maxDischargeDepth := 99) +contextual [*, Keeps.foldl, Keeps.ite]; done) | (repeat' split) <;> (simp (maxDischargeDepth := 99) +contextual [*, Keeps.foldl, Keeps.ite]; done) | (refine Keeps.foldl _ (by first | assumption | simp (maxDischargeDepth := 99) +contextual [*, Keeps.foldl, Keeps.ite]) fun e x he => ?_; first | (simp (maxDischargeDepth := 99) +contextual [*, Keeps.foldl, Keeps.ite]; done) | (repeat' split) <;> (simp (maxDischargeDepth := 99) +contextual [*, Keeps.foldl, Keeps.ite]; done))
@[simp] theorem Dev.roll_keeps {L : Nat} {d0 : Dev} (d : Dev) (e : EntityId) (ended : Option Nat) (hmask : 942116 ||| L = L) (hkeep : Keeps L d0 d) : Keeps L d0 (Dev.roll d e ended) :=
  .after hmask (Dev.roll_keeps0 d e ended) hkeep

theorem Dev.rollDue_keeps0 (d : Dev) : Keeps 942116 d (Dev.rollDue d) := by
  unfold Dev.rollDue
  simp (maxSteps := 400000) (maxDischargeDepth := 99) +contextual [Keeps.foldl, Keeps.ite, Dev.draw]
@[simp] theorem Dev.rollDue_keeps {L : Nat} {d0 : Dev} (d : Dev) (hmask : 942116 ||| L = L) (hkeep : Keeps L d0 d) : Keeps L d0 (Dev.rollDue d) :=
  .after hmask (Dev.rollDue_keeps0 d) hkeep

theorem Dev.crossingMissed_keeps0 (d : Dev) (c : Fin 68) : Keeps 262144 d (Dev.crossingMissed d c) := by
  unfold Dev.crossingMissed
  simp (maxSteps := 400000) (maxDischargeDepth := 99) +contextual [Keeps.foldl, Keeps.ite, Dev.draw]
@[simp] theorem Dev.crossingMissed_keeps {L : Nat} {d0 : Dev} (d : Dev) (c : Fin 68) (hmask : 262144 ||| L = L) (hkeep : Keeps L d0 d) : Keeps L d0 (Dev.crossingMissed d c) :=
  .after hmask (Dev.crossingMissed_keeps0 d c) hkeep

theorem Dev.zeroCrossing_keeps0 (c : Fin 68) (time : Nat) (d : Dev) : Keeps 168038402 d (Dev.zeroCrossing c time d) := by
  unfold Dev.zeroCrossing
  simp (maxSteps := 400000) (maxDischargeDepth := 99) +contextual [Keeps.foldl, Keeps.ite, Dev.draw]
@[simp] theorem Dev.zeroCrossing_keeps {L : Nat} {d0 : Dev} (c : Fin 68) (time : Nat) (d : Dev) (hmask : 168038402 ||| L = L) (hkeep : Keeps L d0 d) : Keeps L d0 (Dev.zeroCrossing c time d) :=
  .after hmask (Dev.zeroCrossing_keeps0 c time d) hkeep

theorem Dev.fluxFault_keeps0 (mask : BitVec 8) (d : Dev) (p : PortId) : Keeps 417796 d (Dev.fluxFault mask d p) := by
  unfold Dev.fluxFault
  extract_lets c
  clear_value c
  (repeat' split) <;> simp (maxDischargeDepth := 99)
@[simp] theorem Dev.fluxFault_keeps {L : Nat} {d0 : Dev} (mask : BitVec 8) (d : Dev) (p : PortId) (hmask : 417796 ||| L = L) (hkeep : Keeps L d0 d) : Keeps L d0 (Dev.fluxFault mask d p) :=
  .after hmask (Dev.fluxFault_keeps0 mask d p) hkeep

theorem Dev.fluxFaults_keeps0 (d : Dev) (mask : BitVec 8) : Keeps 417796 d (Dev.fluxFaults d mask) := by
  unfold Dev.fluxFaults
  simp (maxSteps := 400000) (maxDischargeDepth := 99) +contextual [Keeps.foldl, Keeps.ite, Dev.draw]
@[simp] theorem Dev.fluxFaults_keeps {L : Nat} {d0 : Dev} (d : Dev) (mask : BitVec 8) (hmask : 417796 ||| L = L) (hkeep : Keeps L d0 d) : Keeps L d0 (Dev.fluxFaults d mask) :=
  .after hmask (Dev.fluxFaults_keeps0 d mask) hkeep

theorem Dev.bitstreams_keeps0 (d : Dev) (ones : Vector Nat 16) : Keeps 417796 d (Dev.bitstreams d ones) := by
  unfold Dev.bitstreams
  simp (maxSteps := 400000) (maxDischargeDepth := 99) +contextual [Keeps.foldl, Keeps.ite, Dev.draw]
@[simp] theorem Dev.bitstreams_keeps {L : Nat} {d0 : Dev} (d : Dev) (ones : Vector Nat 16) (hmask : 417796 ||| L = L) (hkeep : Keeps L d0 d) : Keeps L d0 (Dev.bitstreams d ones) :=
  .after hmask (Dev.bitstreams_keeps0 d ones) hkeep

theorem Dev.noteClips_keeps0 (d : Dev) (raw : Vector Int 68) : Keeps 262148 d (Dev.noteClips d raw) := by
  unfold Dev.noteClips
  simp (maxSteps := 400000) (maxDischargeDepth := 99) +contextual [Keeps.foldl, Keeps.ite, Dev.draw]
@[simp] theorem Dev.noteClips_keeps {L : Nat} {d0 : Dev} (d : Dev) (raw : Vector Int 68) (hmask : 262148 ||| L = L) (hkeep : Keeps L d0 d) : Keeps L d0 (Dev.noteClips d raw) :=
  .after hmask (Dev.noteClips_keeps0 d raw) hkeep

theorem Dev.addSums_keeps0 (d : Dev) : Keeps 262144 d (Dev.addSums d) := by
  unfold Dev.addSums
  simp (maxSteps := 400000) (maxDischargeDepth := 99) +contextual [Keeps.foldl, Keeps.ite, Dev.draw]
@[simp] theorem Dev.addSums_keeps {L : Nat} {d0 : Dev} (d : Dev) (hmask : 262144 ||| L = L) (hkeep : Keeps L d0 d) : Keeps L d0 (Dev.addSums d) :=
  .after hmask (Dev.addSums_keeps0 d) hkeep

theorem Dev.restartChannels_keeps0 (d : Dev) : Keeps 417796 d (Dev.restartChannels d) := by
  unfold Dev.restartChannels
  simp (maxSteps := 400000) (maxDischargeDepth := 99) +contextual [Keeps.foldl, Keeps.ite, Dev.draw]
@[simp] theorem Dev.restartChannels_keeps {L : Nat} {d0 : Dev} (d : Dev) (hmask : 417796 ||| L = L) (hkeep : Keeps L d0 d) : Keeps L d0 (Dev.restartChannels d) :=
  .after hmask (Dev.restartChannels_keeps0 d) hkeep

theorem Dev.dieReturns_keeps0 (d : Dev) (linkOk : Bool) : Keeps 417796 d (Dev.dieReturns d linkOk) := by
  unfold Dev.dieReturns
  simp (maxSteps := 400000) (maxDischargeDepth := 99) +contextual [Keeps.foldl, Keeps.ite, Dev.draw]
@[simp] theorem Dev.dieReturns_keeps {L : Nat} {d0 : Dev} (d : Dev) (linkOk : Bool) (hmask : 417796 ||| L = L) (hkeep : Keeps L d0 d) : Keeps L d0 (Dev.dieReturns d linkOk) :=
  .after hmask (Dev.dieReturns_keeps0 d linkOk) hkeep

theorem Dev.sampleSet_keeps0 (raw : Vector (BitVec 24) 68) (ones : Vector Nat 16) (linkOk : Bool) (flux : BitVec 8) (d : Dev) : Keeps 942124 d (Dev.sampleSet raw ones linkOk flux d) := by
  unfold Dev.sampleSet
  simp (maxSteps := 400000) (maxDischargeDepth := 99) +contextual [Keeps.foldl, Keeps.ite, Dev.draw]
@[simp] theorem Dev.sampleSet_keeps {L : Nat} {d0 : Dev} (raw : Vector (BitVec 24) 68) (ones : Vector Nat 16) (linkOk : Bool) (flux : BitVec 8) (d : Dev) (hmask : 942124 ||| L = L) (hkeep : Keeps L d0 d) : Keeps L d0 (Dev.sampleSet raw ones linkOk flux d) :=
  .after hmask (Dev.sampleSet_keeps0 raw ones linkOk flux d) hkeep

theorem Dev.bitstreamLoss_keeps0 (j : Fin 16) (d : Dev) : Keeps 417796 d (Dev.bitstreamLoss j d) := by
  unfold Dev.bitstreamLoss
  (try dsimp only); (repeat' split) <;> simp (maxSteps := 400000) (maxDischargeDepth := 99) +contextual [Keeps.foldl, Keeps.ite, Dev.draw]
@[simp] theorem Dev.bitstreamLoss_keeps {L : Nat} {d0 : Dev} (j : Fin 16) (d : Dev) (hmask : 417796 ||| L = L) (hkeep : Keeps L d0 d) : Keeps L d0 (Dev.bitstreamLoss j d) :=
  .after hmask (Dev.bitstreamLoss_keeps0 j d) hkeep

theorem Dev.dieTemperature_keeps0 (t : Int) (d : Dev) : Keeps 262148 d (Dev.dieTemperature t d) := by
  unfold Dev.dieTemperature
  simp (maxSteps := 400000) (maxDischargeDepth := 99) +contextual [Keeps.foldl, Keeps.ite, Dev.draw]
@[simp] theorem Dev.dieTemperature_keeps {L : Nat} {d0 : Dev} (t : Int) (d : Dev) (hmask : 262148 ||| L = L) (hkeep : Keeps L d0 d) : Keeps L d0 (Dev.dieTemperature t d) :=
  .after hmask (Dev.dieTemperature_keeps0 t d) hkeep

theorem Dev.dcMismatch_keeps0 (p : PortId) (voltage : Bool) (d : Dev) : Keeps 270340 d (Dev.dcMismatch p voltage d) := by
  unfold Dev.dcMismatch
  simp (maxSteps := 400000) (maxDischargeDepth := 99) +contextual [Keeps.foldl, Keeps.ite, Dev.draw]
@[simp] theorem Dev.dcMismatch_keeps {L : Nat} {d0 : Dev} (p : PortId) (voltage : Bool) (d : Dev) (hmask : 270340 ||| L = L) (hkeep : Keeps L d0 d) : Keeps L d0 (Dev.dcMismatch p voltage d) :=
  .after hmask (Dev.dcMismatch_keeps0 p voltage d) hkeep

theorem Dev.calStart_keeps0 (d : Dev) : Keeps 262148 d (Dev.calStart d) := by
  unfold Dev.calStart
  simp (maxSteps := 400000) (maxDischargeDepth := 99) +contextual [Keeps.foldl, Keeps.ite, Dev.draw]
@[simp] theorem Dev.calStart_keeps {L : Nat} {d0 : Dev} (d : Dev) (hmask : 262148 ||| L = L) (hkeep : Keeps L d0 d) : Keeps L d0 (Dev.calStart d) :=
  .after hmask (Dev.calStart_keeps0 d) hkeep

theorem Dev.calDone_keeps0 (d : Dev) : Keeps 65540 d (Dev.calDone d) := by
  unfold Dev.calDone
  (try dsimp only); (repeat' split) <;> simp (maxSteps := 400000) (maxDischargeDepth := 99) +contextual [Keeps.foldl, Keeps.ite, Dev.draw]
@[simp] theorem Dev.calDone_keeps {L : Nat} {d0 : Dev} (d : Dev) (hmask : 65540 ||| L = L) (hkeep : Keeps L d0 d) : Keeps L d0 (Dev.calDone d) :=
  .after hmask (Dev.calDone_keeps0 d) hkeep

theorem calStartServe_keeps0 (a : Ack) (u1_ : Val) (d : Dev) : Keeps 134483974 d (calStartServe a u1_ d) := by
  unfold calStartServe
  simp (maxSteps := 400000) (maxDischargeDepth := 99) +contextual [Keeps.foldl, Keeps.ite, Dev.draw]
@[simp] theorem calStartServe_keeps {L : Nat} {d0 : Dev} (a : Ack) (u1_ : Val) (d : Dev) (hmask : 134483974 ||| L = L) (hkeep : Keeps L d0 d) : Keeps L d0 (calStartServe a u1_ d) :=
  .after hmask (calStartServe_keeps0 a u1_ d) hkeep

end Sys2Proof.Machine
end

