-- ==== Sys2Proof/Laws/FramesEnergy.lean ====
section
/-! SUPPORT. What each function leaves alone: the calendar, accounts, energy, check values, the certificate unit and credit. -/

set_option linter.unusedSimpArgs false
set_option linter.unusedTactic false
set_option linter.unreachableTactic false
set_option linter.unnecessarySeqFocus false

namespace Sys2Proof.Machine

theorem Dev.putAcct_keeps0 (d : Dev) (slot : Nat) (a : Account) : Keeps 2097152 d (Dev.putAcct d slot a) := by
  unfold Dev.putAcct
  simp (maxSteps := 400000) (maxDischargeDepth := 99) +contextual [Keeps.foldl, Keeps.ite, Dev.draw]
@[simp] theorem Dev.putAcct_keeps {L : Nat} {d0 : Dev} (d : Dev) (slot : Nat) (a : Account) (hmask : 2097152 ||| L = L) (hkeep : Keeps L d0 d) : Keeps L d0 (Dev.putAcct d slot a) :=
  .after hmask (Dev.putAcct_keeps0 d slot a) hkeep

theorem Dev.recordRequest_keeps0 (d : Dev) (f : AccountFields) : Keeps 2097152 d (Dev.recordRequest d f) := by
  unfold Dev.recordRequest
  (try dsimp only); (repeat' split) <;> simp (maxSteps := 400000) (maxDischargeDepth := 99) +contextual [Keeps.foldl, Keeps.ite, Dev.draw]
@[simp] theorem Dev.recordRequest_keeps {L : Nat} {d0 : Dev} (d : Dev) (f : AccountFields) (hmask : 2097152 ||| L = L) (hkeep : Keeps L d0 d) : Keeps L d0 (Dev.recordRequest d f) :=
  .after hmask (Dev.recordRequest_keeps0 d f) hkeep

theorem Dev.acceptTid_keeps0 (d : Dev) (slot account tid : Nat) : Keeps 2097152 d (Dev.acceptTid d slot account tid) := by
  unfold Dev.acceptTid
  (try dsimp only); (repeat' split) <;> simp (maxSteps := 400000) (maxDischargeDepth := 99) +contextual [Keeps.foldl, Keeps.ite, Dev.draw]
@[simp] theorem Dev.acceptTid_keeps {L : Nat} {d0 : Dev} (d : Dev) (slot account tid : Nat) (hmask : 2097152 ||| L = L) (hkeep : Keeps L d0 d) : Keeps L d0 (Dev.acceptTid d slot account tid) :=
  .after hmask (Dev.acceptTid_keeps0 d slot account tid) hkeep

theorem Dev.fit64_keeps0 (d : Dev) (x : Int) : Keeps 1 d (Dev.fit64 d x).2 := by
  unfold Dev.fit64
  first
    | (simp (maxSteps := 400000) (maxDischargeDepth := 99) +contextual [Keeps.foldl, Keeps.ite, Dev.draw]; done)
    | (try dsimp only); (repeat' split) <;> (simp (maxSteps := 400000) (maxDischargeDepth := 99) +contextual [Keeps.foldl, Keeps.ite, Dev.draw]; done)
@[simp] theorem Dev.fit64_keeps {L : Nat} {d0 : Dev} (d : Dev) (x : Int) (hmask : 1 ||| L = L) (hkeep : Keeps L d0 d) : Keeps L d0 (Dev.fit64 d x).2 :=
  .after hmask (Dev.fit64_keeps0 d x) hkeep

theorem Dev.balanceRequest_keeps0 (d e : Dev) (slot : Nat) (amount : Int) (tid : Option Nat) (he : d.balanceRequest slot amount tid = some e) :
    Keeps 2097153 d e := by
  unfold Dev.balanceRequest at he
  split at he
  · cases he
  · split at he
    · cases he
    · obtain rfl := Option.some.inj he
      (try dsimp only)
      split <;> (simp (maxSteps := 400000) (maxDischargeDepth := 99) +contextual [Keeps.foldl, Keeps.ite, Dev.draw]; done)
theorem Dev.balanceRequest_keeps {L : Nat} {d0 d e : Dev} {slot : Nat} {amount : Int} {tid : Option Nat}
    (he : d.balanceRequest slot amount tid = some e) (hmask : 2097153 ||| L = L) (hkeep : Keeps L d0 d) : Keeps L d0 e :=
  .after hmask (d.balanceRequest_keeps0 e slot amount tid he) hkeep

theorem Dev.ledgerCorrupt_keeps0 (d : Dev) (slot : Nat) : Keeps 8196 d (Dev.ledgerCorrupt d slot) := by
  unfold Dev.ledgerCorrupt
  simp (maxSteps := 400000) (maxDischargeDepth := 99) +contextual [Keeps.foldl, Keeps.ite, Dev.draw]
@[simp] theorem Dev.ledgerCorrupt_keeps {L : Nat} {d0 : Dev} (d : Dev) (slot : Nat) (hmask : 8196 ||| L = L) (hkeep : Keeps L d0 d) : Keeps L d0 (Dev.ledgerCorrupt d slot) :=
  .after hmask (Dev.ledgerCorrupt_keeps0 d slot) hkeep

theorem writeRecordServe_keeps0 (a : Ack) (v : Val) (d : Dev) : Keeps 136318982 d (writeRecordServe a v d) := by
  unfold writeRecordServe
  (try dsimp only); (repeat' split) <;> simp (maxSteps := 400000) (maxDischargeDepth := 99) +contextual [Keeps.foldl, Keeps.ite, Dev.draw]
@[simp] theorem writeRecordServe_keeps {L : Nat} {d0 : Dev} (a : Ack) (v : Val) (d : Dev) (hmask : 136318982 ||| L = L) (hkeep : Keeps L d0 d) : Keeps L d0 (writeRecordServe a v d) :=
  .after hmask (writeRecordServe_keeps0 a v d) hkeep

theorem selectAccountServe_keeps0 (a : Ack) (v : Val) (d : Dev) : Keeps 2048 d (selectAccountServe a v d) := by
  unfold selectAccountServe
  simp (maxSteps := 400000) (maxDischargeDepth := 99) +contextual [Keeps.foldl, Keeps.ite, Dev.draw]
@[simp] theorem selectAccountServe_keeps {L : Nat} {d0 : Dev} (a : Ack) (v : Val) (d : Dev) (hmask : 2048 ||| L = L) (hkeep : Keeps L d0 d) : Keeps L d0 (selectAccountServe a v d) :=
  .after hmask (selectAccountServe_keeps0 a v d) hkeep

theorem Dev.setEnergy_keeps0 (d : Dev) (f : Energy → Energy) : Keeps 524288 d (Dev.setEnergy d f) := by
  unfold Dev.setEnergy
  simp (maxSteps := 400000) (maxDischargeDepth := 99) +contextual [Keeps.foldl, Keeps.ite, Dev.draw]
@[simp] theorem Dev.setEnergy_keeps {L : Nat} {d0 : Dev} (d : Dev) (f : Energy → Energy) (hmask : 524288 ||| L = L) (hkeep : Keeps L d0 d) : Keeps L d0 (Dev.setEnergy d f) :=
  .after hmask (Dev.setEnergy_keeps0 d f) hkeep

theorem Dev.setBill_keeps0 (d : Dev) (f : Billing → Billing) : Keeps 524288 d (Dev.setBill d f) := by
  unfold Dev.setBill
  simp (maxSteps := 400000) (maxDischargeDepth := 99) +contextual [Keeps.foldl, Keeps.ite, Dev.draw]
@[simp] theorem Dev.setBill_keeps {L : Nat} {d0 : Dev} (d : Dev) (f : Billing → Billing) (hmask : 524288 ||| L = L) (hkeep : Keeps L d0 d) : Keeps L d0 (Dev.setBill d f) :=
  .after hmask (Dev.setBill_keeps0 d f) hkeep

theorem Dev.setLiveEntity_keeps0 (d : Dev) (e : EntityId) (f : Entity → Entity) : Keeps 524288 d (Dev.setLiveEntity d e f) := by
  unfold Dev.setLiveEntity
  simp (maxSteps := 400000) (maxDischargeDepth := 99) +contextual [Keeps.foldl, Keeps.ite, Dev.draw]
@[simp] theorem Dev.setLiveEntity_keeps {L : Nat} {d0 : Dev} (d : Dev) (e : EntityId) (f : Entity → Entity) (hmask : 524288 ||| L = L) (hkeep : Keeps L d0 d) : Keeps L d0 (Dev.setLiveEntity d e f) :=
  .after hmask (Dev.setLiveEntity_keeps0 d e f) hkeep

theorem Dev.openPart_keeps0 (d : Dev) (p : PortId) (l : Live) (b : Binding) : Keeps 2105348 d (Dev.openPart d p l b) := by
  unfold Dev.openPart
  (try dsimp only); (repeat' split) <;> simp (maxSteps := 400000) (maxDischargeDepth := 99) +contextual [Keeps.foldl, Keeps.ite, Dev.draw]
@[simp] theorem Dev.openPart_keeps {L : Nat} {d0 : Dev} (d : Dev) (p : PortId) (l : Live) (b : Binding) (hmask : 2105348 ||| L = L) (hkeep : Keeps L d0 d) : Keeps L d0 (Dev.openPart d p l b) :=
  .after hmask (Dev.openPart_keeps0 d p l b) hkeep

theorem Dev.wantCommit_keeps0 (d : Dev) : Keeps 69730304 d (Dev.wantCommit d) := by
  unfold Dev.wantCommit
  simp (maxSteps := 400000) (maxDischargeDepth := 99) +contextual [Keeps.foldl, Keeps.ite, Dev.draw]
@[simp] theorem Dev.wantCommit_keeps {L : Nat} {d0 : Dev} (d : Dev) (hmask : 69730304 ||| L = L) (hkeep : Keeps L d0 d) : Keeps L d0 (Dev.wantCommit d) :=
  .after hmask (Dev.wantCommit_keeps0 d) hkeep

theorem Dev.enterSession_keeps0 (d : Dev) (p : PortId) : Keeps 2629636 d (Dev.enterSession d p) := by
  unfold Dev.enterSession
  (try dsimp only); (repeat' split) <;> simp (maxSteps := 400000) (maxDischargeDepth := 99) +contextual [Keeps.foldl, Keeps.ite, Dev.draw]
@[simp] theorem Dev.enterSession_keeps {L : Nat} {d0 : Dev} (d : Dev) (p : PortId) (hmask : 2629636 ||| L = L) (hkeep : Keeps L d0 d) : Keeps L d0 (Dev.enterSession d p) :=
  .after hmask (Dev.enterSession_keeps0 d p) hkeep

theorem Dev.addClosed_keeps0 (d : Dev) (p : PortId) (r : PeriodSum) (qf : Nat) (ea qa : Int) (neg inside : Bool) : Keeps 1572864 d (Dev.addClosed d p r qf ea qa neg inside) := by
  unfold Dev.addClosed
  simp (maxSteps := 400000) (maxDischargeDepth := 99) +contextual [Keeps.foldl, Keeps.ite, Dev.draw]
@[simp] theorem Dev.addClosed_keeps {L : Nat} {d0 : Dev} (d : Dev) (p : PortId) (r : PeriodSum) (qf : Nat) (ea qa : Int) (neg inside : Bool) (hmask : 1572864 ||| L = L) (hkeep : Keeps L d0 d) : Keeps L d0 (Dev.addClosed d p r qf ea qa neg inside) :=
  .after hmask (Dev.addClosed_keeps0 d p r qf ea qa neg inside) hkeep

theorem Dev.sessionPeriod_keeps0 (d : Dev) (p : PortId) (qf : Nat) : Keeps 524288 d (Dev.sessionPeriod d p qf) := by
  unfold Dev.sessionPeriod
  (try dsimp only); (repeat' split) <;> simp (maxSteps := 400000) (maxDischargeDepth := 99) +contextual [Keeps.foldl, Keeps.ite, Dev.draw]
@[simp] theorem Dev.sessionPeriod_keeps {L : Nat} {d0 : Dev} (d : Dev) (p : PortId) (qf : Nat) (hmask : 524288 ||| L = L) (hkeep : Keeps L d0 d) : Keeps L d0 (Dev.sessionPeriod d p qf) :=
  .after hmask (Dev.sessionPeriod_keeps0 d p qf) hkeep

theorem Dev.closeWith_keeps0 (d : Dev) (p : PortId) (r : PeriodSum) (partialEnd : Bool) (ep eq : Vector Int 3) : Keeps 135794690 d (Dev.closeWith d p r partialEnd ep eq) := by
  unfold Dev.closeWith
  simp (maxSteps := 400000) (maxDischargeDepth := 99) +contextual [Keeps.foldl, Keeps.ite, Dev.draw]
@[simp] theorem Dev.closeWith_keeps {L : Nat} {d0 : Dev} (d : Dev) (p : PortId) (r : PeriodSum) (partialEnd : Bool) (ep eq : Vector Int 3) (hmask : 135794690 ||| L = L) (hkeep : Keeps L d0 d) : Keeps L d0 (Dev.closeWith d p r partialEnd ep eq) :=
  .after hmask (Dev.closeWith_keeps0 d p r partialEnd ep eq) hkeep

theorem Dev.closePort_keeps0 (d : Dev) (p : PortId) (r : PeriodSum) (partialEnd : Bool) : Keeps 137900038 d (Dev.closePort d p r partialEnd) := by
  unfold Dev.closePort
  simp (maxSteps := 400000) (maxDischargeDepth := 99) +contextual [Keeps.foldl, Keeps.ite, Dev.draw]
@[simp] theorem Dev.closePort_keeps {L : Nat} {d0 : Dev} (d : Dev) (p : PortId) (r : PeriodSum) (partialEnd : Bool) (hmask : 137900038 ||| L = L) (hkeep : Keeps L d0 d) : Keeps L d0 (Dev.closePort d p r partialEnd) :=
  .after hmask (Dev.closePort_keeps0 d p r partialEnd) hkeep

theorem Dev.closeSite_keeps0 (d : Dev) (r : PeriodSum) : Keeps 1572864 d (Dev.closeSite d r) := by
  unfold Dev.closeSite
  simp (maxSteps := 400000) (maxDischargeDepth := 99) +contextual [Keeps.foldl, Keeps.ite, Dev.draw]
@[simp] theorem Dev.closeSite_keeps {L : Nat} {d0 : Dev} (d : Dev) (r : PeriodSum) (hmask : 1572864 ||| L = L) (hkeep : Keeps L d0 d) : Keeps L d0 (Dev.closeSite d r) :=
  .after hmask (Dev.closeSite_keeps0 d r) hkeep

theorem Dev.closeHeld_keeps0 (d : Dev) (e : EntityId) : Keeps 205271046 d (Dev.closeHeld d e) := by
  unfold Dev.closeHeld
  (try dsimp only); (repeat' split) <;> simp (maxSteps := 400000) (maxDischargeDepth := 99) +contextual [Keeps.foldl, Keeps.ite, Dev.draw]
@[simp] theorem Dev.closeHeld_keeps {L : Nat} {d0 : Dev} (d : Dev) (e : EntityId) (hmask : 205271046 ||| L = L) (hkeep : Keeps L d0 d) : Keeps L d0 (Dev.closeHeld d e) :=
  .after hmask (Dev.closeHeld_keeps0 d e) hkeep

theorem Dev.periodEnd_keeps0 (e : EntityId) (d : Dev) : Keeps 205418534 d (Dev.periodEnd e d) := by
  unfold Dev.periodEnd
  simp (maxSteps := 400000) (maxDischargeDepth := 99) +contextual [Keeps.foldl, Keeps.ite, Dev.draw]
@[simp] theorem Dev.periodEnd_keeps {L : Nat} {d0 : Dev} (e : EntityId) (d : Dev) (hmask : 205418534 ||| L = L) (hkeep : Keeps L d0 d) : Keeps L d0 (Dev.periodEnd e d) :=
  .after hmask (Dev.periodEnd_keeps0 e d) hkeep

theorem Dev.referenceTimeout_keeps0 (e : EntityId) (d : Dev) : Keeps 205418534 d (Dev.referenceTimeout e d) := by
  unfold Dev.referenceTimeout
  split
  · rename_i h
    unfold Dev.referenceTimeoutRoll at h
    dsimp only at h
    split at h
    · obtain rfl := Option.some.inj h
      simp (maxSteps := 400000) (maxDischargeDepth := 99) +contextual [Keeps.foldl, Keeps.ite, Dev.draw]
    · cases h
  · exact Keeps.refl _ _
@[simp] theorem Dev.referenceTimeout_keeps {L : Nat} {d0 : Dev} (e : EntityId) (d : Dev) (hmask : 205418534 ||| L = L) (hkeep : Keeps L d0 d) : Keeps L d0 (Dev.referenceTimeout e d) :=
  .after hmask (Dev.referenceTimeout_keeps0 e d) hkeep

theorem Dev.lateCommit_keeps0 (e : EntityId) (d : Dev) : Keeps 532480 d (Dev.lateCommit e d) := by
  unfold Dev.lateCommit
  simp (maxSteps := 400000) (maxDischargeDepth := 99) +contextual [Keeps.foldl, Keeps.ite, Dev.draw]
@[simp] theorem Dev.lateCommit_keeps {L : Nat} {d0 : Dev} (e : EntityId) (d : Dev) (hmask : 532480 ||| L = L) (hkeep : Keeps L d0 d) : Keeps L d0 (Dev.lateCommit e d) :=
  .after hmask (Dev.lateCommit_keeps0 e d) hkeep

theorem Dev.setEngine_keeps0 (d : Dev) (e : Fin 16) (f : List CvuWindow → List CvuWindow) : Keeps 4194304 d (Dev.setEngine d e f) := by
  unfold Dev.setEngine
  simp (maxSteps := 400000) (maxDischargeDepth := 99) +contextual [Keeps.foldl, Keeps.ite, Dev.draw]
@[simp] theorem Dev.setEngine_keeps {L : Nat} {d0 : Dev} (d : Dev) (e : Fin 16) (f : List CvuWindow → List CvuWindow) (hmask : 4194304 ||| L = L) (hkeep : Keeps L d0 d) : Keeps L d0 (Dev.setEngine d e f) :=
  .after hmask (Dev.setEngine_keeps0 d e f) hkeep

theorem Dev.setWindow_keeps0 (d : Dev) (e : Fin 16) (i : Nat) (f : CvuWindow → CvuWindow) : Keeps 4194304 d (Dev.setWindow d e i f) := by
  unfold Dev.setWindow
  simp (maxSteps := 400000) (maxDischargeDepth := 99) +contextual [Keeps.foldl, Keeps.ite, Dev.draw]
@[simp] theorem Dev.setWindow_keeps {L : Nat} {d0 : Dev} (d : Dev) (e : Fin 16) (i : Nat) (f : CvuWindow → CvuWindow) (hmask : 4194304 ||| L = L) (hkeep : Keeps L d0 d) : Keeps L d0 (Dev.setWindow d e i f) :=
  .after hmask (Dev.setWindow_keeps0 d e i f) hkeep

theorem Dev.cover_keeps0 (d : Dev) (e : Fin 16) (i : Nat) (w : CvuWindow) (f : Profile) (ident : Byte) (entry : Bytes) (last : Bool) : Keeps 147462 d (Dev.cover d e i w f ident entry last).1 := by
  unfold Dev.cover
  first
    | (simp (maxSteps := 400000) (maxDischargeDepth := 99) +contextual [Keeps.foldl, Keeps.ite, Dev.draw]; done)
    | (try dsimp only); (repeat' split) <;> (simp (maxSteps := 400000) (maxDischargeDepth := 99) +contextual [Keeps.foldl, Keeps.ite, Dev.draw]; done)
@[simp] theorem Dev.cover_keeps {L : Nat} {d0 : Dev} (d : Dev) (e : Fin 16) (i : Nat) (w : CvuWindow) (f : Profile) (ident : Byte) (entry : Bytes) (last : Bool) (hmask : 147462 ||| L = L) (hkeep : Keeps L d0 d) : Keeps L d0 (Dev.cover d e i w f ident entry last).1 :=
  .after hmask (Dev.cover_keeps0 d e i w f ident entry last) hkeep

theorem Dev.holdContext_keeps0 (d : Dev) (e : Fin 16) (i : Nat) (w : CvuWindow) (keep : Option (Nat × Nat)) : Keeps 4194308 d (Dev.holdContext d e i w keep) := by
  unfold Dev.holdContext
  (try dsimp only); (repeat' split) <;> simp (maxSteps := 400000) (maxDischargeDepth := 99) +contextual [Keeps.foldl, Keeps.ite, Dev.draw]
@[simp] theorem Dev.holdContext_keeps {L : Nat} {d0 : Dev} (d : Dev) (e : Fin 16) (i : Nat) (w : CvuWindow) (keep : Option (Nat × Nat)) (hmask : 4194308 ||| L = L) (hkeep : Keeps L d0 d) : Keeps L d0 (Dev.holdContext d e i w keep) :=
  .after hmask (Dev.holdContext_keeps0 d e i w keep) hkeep

theorem Dev.startWindow_keeps0 (d : Dev) (e : Fin 16) (i : Nat) (ident : Byte) (entry : Bytes) (last : Bool) : Keeps 4341766 d (Dev.startWindow d e i ident entry last) := by
  unfold Dev.startWindow
  (try dsimp only); (repeat' split) <;> simp (maxSteps := 400000) (maxDischargeDepth := 99) +contextual [Keeps.foldl, Keeps.ite, Dev.draw]
@[simp] theorem Dev.startWindow_keeps {L : Nat} {d0 : Dev} (d : Dev) (e : Fin 16) (i : Nat) (ident : Byte) (entry : Bytes) (last : Bool) (hmask : 4341766 ||| L = L) (hkeep : Keeps L d0 d) : Keeps L d0 (Dev.startWindow d e i ident entry last) :=
  .after hmask (Dev.startWindow_keeps0 d e i ident entry last) hkeep

theorem Dev.cvuEntry_keeps0 (e : Fin 16) (i : Nat) (ident : Byte) (entry : Bytes) (last : Bool) (d : Dev) : Keeps 4341766 d (Dev.cvuEntry e i ident entry last d) := by
  unfold Dev.cvuEntry
  (try dsimp only); (repeat' split) <;> simp (maxSteps := 400000) (maxDischargeDepth := 99) +contextual [Keeps.foldl, Keeps.ite, Dev.draw]
@[simp] theorem Dev.cvuEntry_keeps {L : Nat} {d0 : Dev} (e : Fin 16) (i : Nat) (ident : Byte) (entry : Bytes) (last : Bool) (d : Dev) (hmask : 4341766 ||| L = L) (hkeep : Keeps L d0 d) : Keeps L d0 (Dev.cvuEntry e i ident entry last d) :=
  .after hmask (Dev.cvuEntry_keeps0 e i ident entry last d) hkeep

theorem Dev.sweep_keeps0 (d : Dev) (e : Fin 16) : Keeps 4194304 d (Dev.sweep d e) := by
  unfold Dev.sweep
  simp (maxSteps := 400000) (maxDischargeDepth := 99) +contextual [Keeps.foldl, Keeps.ite, Dev.draw]
@[simp] theorem Dev.sweep_keeps {L : Nat} {d0 : Dev} (d : Dev) (e : Fin 16) (hmask : 4194304 ||| L = L) (hkeep : Keeps L d0 d) : Keeps L d0 (Dev.sweep d e) :=
  .after hmask (Dev.sweep_keeps0 d e) hkeep

theorem Dev.contextRelease_keeps0 (x : Fin 160) (d : Dev) : Keeps 4341766 d (Dev.contextRelease x d) := by
  unfold Dev.contextRelease
  (try dsimp only); (repeat' split) <;> simp (maxSteps := 400000) (maxDischargeDepth := 99) +contextual [Keeps.foldl, Keeps.ite, Dev.draw]
@[simp] theorem Dev.contextRelease_keeps {L : Nat} {d0 : Dev} (x : Fin 160) (d : Dev) (hmask : 4341766 ||| L = L) (hkeep : Keeps L d0 d) : Keeps L d0 (Dev.contextRelease x d) :=
  .after hmask (Dev.contextRelease_keeps0 x d) hkeep

theorem Dev.dropHold_keeps0 (d : Dev) (w : CvuWindow) : Keeps 4 d (Dev.dropHold d w) := by
  unfold Dev.dropHold
  (try dsimp only); (repeat' split) <;> simp (maxSteps := 400000) (maxDischargeDepth := 99) +contextual [Keeps.foldl, Keeps.ite, Dev.draw]
@[simp] theorem Dev.dropHold_keeps {L : Nat} {d0 : Dev} (d : Dev) (w : CvuWindow) (hmask : 4 ||| L = L) (hkeep : Keeps L d0 d) : Keeps L d0 (Dev.dropHold d w) :=
  .after hmask (Dev.dropHold_keeps0 d w) hkeep

theorem Dev.abandonEngine_keeps0 (d : Dev) (e : Fin 16) : Keeps 4194308 d (Dev.abandonEngine d e) := by
  unfold Dev.abandonEngine
  simp (maxSteps := 400000) (maxDischargeDepth := 99) +contextual [Keeps.foldl, Keeps.ite, Dev.draw]
@[simp] theorem Dev.abandonEngine_keeps {L : Nat} {d0 : Dev} (d : Dev) (e : Fin 16) (hmask : 4194308 ||| L = L) (hkeep : Keeps L d0 d) : Keeps L d0 (Dev.abandonEngine d e) :=
  .after hmask (Dev.abandonEngine_keeps0 d e) hkeep

theorem Dev.abandonOf_keeps0 (tag : Nat) (d : Dev) (e : Fin 16) : Keeps 4194308 d (Dev.abandonOf tag d e) := by
  unfold Dev.abandonOf
  simp (maxSteps := 400000) (maxDischargeDepth := 99) +contextual [Keeps.foldl, Keeps.ite, Dev.draw]
@[simp] theorem Dev.abandonOf_keeps {L : Nat} {d0 : Dev} (tag : Nat) (d : Dev) (e : Fin 16) (hmask : 4194308 ||| L = L) (hkeep : Keeps L d0 d) : Keeps L d0 (Dev.abandonOf tag d e) :=
  .after hmask (Dev.abandonOf_keeps0 tag d e) hkeep

theorem Dev.abandonEntries_keeps0 (c : Fin 58) (d : Dev) (e : Fin 16) : Keeps 4194308 d (Dev.abandonEntries c d e) := by
  unfold Dev.abandonEntries
  simp (maxSteps := 400000) (maxDischargeDepth := 99) +contextual [Keeps.foldl, Keeps.ite, Dev.draw]
@[simp] theorem Dev.abandonEntries_keeps {L : Nat} {d0 : Dev} (c : Fin 58) (d : Dev) (e : Fin 16) (hmask : 4194308 ||| L = L) (hkeep : Keeps L d0 d) : Keeps L d0 (Dev.abandonEntries c d e) :=
  .after hmask (Dev.abandonEntries_keeps0 c d e) hkeep

theorem Dev.abandonCrossing_keeps0 (d : Dev) (c : Fin 58) : Keeps 4194308 d (Dev.abandonCrossing d c) := by
  unfold Dev.abandonCrossing
  simp (maxSteps := 400000) (maxDischargeDepth := 99) +contextual [Keeps.foldl, Keeps.ite, Dev.draw]
@[simp] theorem Dev.abandonCrossing_keeps {L : Nat} {d0 : Dev} (d : Dev) (c : Fin 58) (hmask : 4194308 ||| L = L) (hkeep : Keeps L d0 d) : Keeps L d0 (Dev.abandonCrossing d c) :=
  .after hmask (Dev.abandonCrossing_keeps0 d c) hkeep

theorem Dev.abandonOwner_keeps0 (d : Dev) (c : CoreId) : Keeps 4194308 d (Dev.abandonOwner d c) := by
  unfold Dev.abandonOwner
  simp (maxSteps := 400000) (maxDischargeDepth := 99) +contextual [Keeps.foldl, Keeps.ite, Dev.draw]
@[simp] theorem Dev.abandonOwner_keeps {L : Nat} {d0 : Dev} (d : Dev) (c : CoreId) (hmask : 4194308 ||| L = L) (hkeep : Keeps L d0 d) : Keeps L d0 (Dev.abandonOwner d c) :=
  .after hmask (Dev.abandonOwner_keeps0 d c) hkeep

theorem Dev.abandonAtPfw_keeps0 (d : Dev) : Keeps 4194308 d (Dev.abandonAtPfw d) := by
  unfold Dev.abandonAtPfw
  simp (maxSteps := 400000) (maxDischargeDepth := 99) +contextual [Keeps.foldl, Keeps.ite, Dev.draw]
@[simp] theorem Dev.abandonAtPfw_keeps {L : Nat} {d0 : Dev} (d : Dev) (hmask : 4194308 ||| L = L) (hkeep : Keeps L d0 d) : Keeps L d0 (Dev.abandonAtPfw d) :=
  .after hmask (Dev.abandonAtPfw_keeps0 d) hkeep

theorem Dev.coverFdp_keeps0 (d : Dev) (s : SlotId) (restart : Bool) (b : Bytes) : Keeps 4 d (Dev.coverFdp d s restart b) := by
  unfold Dev.coverFdp
  simp (maxSteps := 400000) (maxDischargeDepth := 99) +contextual [Keeps.foldl, Keeps.ite, Dev.draw]
@[simp] theorem Dev.coverFdp_keeps {L : Nat} {d0 : Dev} (d : Dev) (s : SlotId) (restart : Bool) (b : Bytes) (hmask : 4 ||| L = L) (hkeep : Keeps L d0 d) : Keeps L d0 (Dev.coverFdp d s restart b) :=
  .after hmask (Dev.coverFdp_keeps0 d s restart b) hkeep

theorem Dev.badFdp_keeps0 (d : Dev) (s : SlotId) : Keeps 4 d (Dev.badFdp d s) := by
  unfold Dev.badFdp
  simp (maxSteps := 400000) (maxDischargeDepth := 99) +contextual [Keeps.foldl, Keeps.ite, Dev.draw]
@[simp] theorem Dev.badFdp_keeps {L : Nat} {d0 : Dev} (d : Dev) (s : SlotId) (hmask : 4 ||| L = L) (hkeep : Keeps L d0 d) : Keeps L d0 (Dev.badFdp d s) :=
  .after hmask (Dev.badFdp_keeps0 d s) hkeep

theorem Dev.busIntegrationDone_keeps0 (k : Fin 6) (d : Dev) : Keeps 138416134 d (Dev.busIntegrationDone k d) := by
  unfold Dev.busIntegrationDone
  (try dsimp only); (repeat' split) <;> first | (simp (maxSteps := 400000) (maxDischargeDepth := 99) +contextual [Keeps.foldl, Keeps.ite, Dev.draw]; done) | (intro x hx; cases x <;> first | rfl | (exfalso; revert hx; decide))
@[simp] theorem Dev.busIntegrationDone_keeps {L : Nat} {d0 : Dev} (k : Fin 6) (d : Dev) (hmask : 138416134 ||| L = L) (hkeep : Keeps L d0 d) : Keeps L d0 (Dev.busIntegrationDone k d) :=
  .after hmask (Dev.busIntegrationDone_keeps0 k d) hkeep

theorem cvuClearCountersServe_keeps0 (a : Ack) (u1_ : Val) (d : Dev) : Keeps 134221830 d (cvuClearCountersServe a u1_ d) := by
  unfold cvuClearCountersServe
  simp (maxSteps := 400000) (maxDischargeDepth := 99) +contextual [Keeps.foldl, Keeps.ite, Dev.draw]
@[simp] theorem cvuClearCountersServe_keeps {L : Nat} {d0 : Dev} (a : Ack) (u1_ : Val) (d : Dev) (hmask : 134221830 ||| L = L) (hkeep : Keeps L d0 d) : Keeps L d0 (cvuClearCountersServe a u1_ d) :=
  .after hmask (cvuClearCountersServe_keeps0 a u1_ d) hkeep

theorem Dev.setBurl_keeps0 (d : Dev) (f : Burl → Burl) : Keeps 8388608 d (Dev.setBurl d f) := by
  unfold Dev.setBurl
  simp (maxSteps := 400000) (maxDischargeDepth := 99) +contextual [Keeps.foldl, Keeps.ite, Dev.draw]
@[simp] theorem Dev.setBurl_keeps {L : Nat} {d0 : Dev} (d : Dev) (f : Burl → Burl) (hmask : 8388608 ||| L = L) (hkeep : Keeps L d0 d) : Keeps L d0 (Dev.setBurl d f) :=
  .after hmask (Dev.setBurl_keeps0 d f) hkeep

theorem Dev.flipSlot_keeps0 (d : Dev) (n : Fin 64) (h : Option KeyHalf) : Keeps 8396805 d (Dev.flipSlot d n h) := by
  unfold Dev.flipSlot
  simp (maxSteps := 400000) (maxDischargeDepth := 99) +contextual [Keeps.foldl, Keeps.ite, Dev.draw]
@[simp] theorem Dev.flipSlot_keeps {L : Nat} {d0 : Dev} (d : Dev) (n : Fin 64) (h : Option KeyHalf) (hmask : 8396805 ||| L = L) (hkeep : Keeps L d0 d) : Keeps L d0 (Dev.flipSlot d n h) :=
  .after hmask (Dev.flipSlot_keeps0 d n h) hkeep

theorem Dev.keyOpDone_keeps0 (d : Dev) (n code : Nat) : Keeps 4 d (Dev.keyOpDone d n code) := by
  unfold Dev.keyOpDone
  simp (maxSteps := 400000) (maxDischargeDepth := 99) +contextual [Keeps.foldl, Keeps.ite, Dev.draw]
@[simp] theorem Dev.keyOpDone_keeps {L : Nat} {d0 : Dev} (d : Dev) (n code : Nat) (hmask : 4 ||| L = L) (hkeep : Keeps L d0 d) : Keeps L d0 (Dev.keyOpDone d n code) :=
  .after hmask (Dev.keyOpDone_keeps0 d n code) hkeep

theorem Dev.useKey_keeps0 (d : Dev) (n : Fin 64) : Keeps 4 d (Dev.useKey d n) := by
  unfold Dev.useKey
  (try dsimp only); (repeat' split) <;> (simp (maxSteps := 400000) (maxDischargeDepth := 99) +contextual [Keeps.foldl, Keeps.ite, Dev.draw]; done)
@[simp] theorem Dev.useKey_keeps {L : Nat} {d0 : Dev} (d : Dev) (n : Fin 64) (hmask : 4 ||| L = L) (hkeep : Keeps L d0 d) : Keeps L d0 (Dev.useKey d n) :=
  .after hmask (Dev.useKey_keeps0 d n) hkeep

theorem Dev.refuseKeyOp_keeps0 (d : Dev) (n : Fin 64) : Keeps 4 d (Dev.refuseKeyOp d n) := by
  unfold Dev.refuseKeyOp
  (try dsimp only); (repeat' split) <;> (simp (maxSteps := 400000) (maxDischargeDepth := 99) +contextual [Keeps.foldl, Keeps.ite, Dev.draw]; done)
@[simp] theorem Dev.refuseKeyOp_keeps {L : Nat} {d0 : Dev} (d : Dev) (n : Fin 64) (hmask : 4 ||| L = L) (hkeep : Keeps L d0 d) : Keeps L d0 (Dev.refuseKeyOp d n) :=
  .after hmask (Dev.refuseKeyOp_keeps0 d n) hkeep

theorem Dev.setInactive_keeps0 (d : Dev) (n : Fin 64) (h : Option KeyHalf) : Keeps 8388608 d (Dev.setInactive d n h) := by
  unfold Dev.setInactive
  simp (maxSteps := 400000) (maxDischargeDepth := 99) +contextual [Keeps.foldl, Keeps.ite, Dev.draw]
@[simp] theorem Dev.setInactive_keeps {L : Nat} {d0 : Dev} (d : Dev) (n : Fin 64) (h : Option KeyHalf) (hmask : 8388608 ||| L = L) (hkeep : Keeps L d0 d) : Keeps L d0 (Dev.setInactive d n h) :=
  .after hmask (Dev.setInactive_keeps0 d n h) hkeep

theorem Dev.replaceSlot_keeps0 (d : Dev) (n : Fin 64) (typ attrs : Nat) (keyId material pub : Bytes) (verifies : Bool) : Keeps 8388612 d (Dev.replaceSlot d n typ attrs keyId material pub verifies) := by
  unfold Dev.replaceSlot
  simp (maxSteps := 400000) (maxDischargeDepth := 99) +contextual [Keeps.foldl, Keeps.ite, Dev.draw]
@[simp] theorem Dev.replaceSlot_keeps {L : Nat} {d0 : Dev} (d : Dev) (n : Fin 64) (typ attrs : Nat) (keyId material pub : Bytes) (verifies : Bool) (hmask : 8388612 ||| L = L) (hkeep : Keeps L d0 d) : Keeps L d0 (Dev.replaceSlot d n typ attrs keyId material pub verifies) :=
  .after hmask (Dev.replaceSlot_keeps0 d n typ attrs keyId material pub verifies) hkeep

theorem Dev.keyOpEnd_keeps0 (d : Dev) : Keeps 8396805 d (Dev.keyOpEnd d) := by
  unfold Dev.keyOpEnd
  (try dsimp only); (repeat' split) <;> simp (maxSteps := 400000) (maxDischargeDepth := 99) +contextual [Keeps.foldl, Keeps.ite, Dev.draw]
@[simp] theorem Dev.keyOpEnd_keeps {L : Nat} {d0 : Dev} (d : Dev) (hmask : 8396805 ||| L = L) (hkeep : Keeps L d0 d) : Keeps L d0 (Dev.keyOpEnd d) :=
  .after hmask (Dev.keyOpEnd_keeps0 d) hkeep

theorem Dev.keyOpAbort_keeps0 (d : Dev) (code : Nat) : Keeps 8388612 d (Dev.keyOpAbort d code) := by
  unfold Dev.keyOpAbort
  (try dsimp only); (repeat' split) <;> simp (maxSteps := 400000) (maxDischargeDepth := 99) +contextual [Keeps.foldl, Keeps.ite, Dev.draw]
@[simp] theorem Dev.keyOpAbort_keeps {L : Nat} {d0 : Dev} (d : Dev) (code : Nat) (hmask : 8388612 ||| L = L) (hkeep : Keeps L d0 d) : Keeps L d0 (Dev.keyOpAbort d code) :=
  .after hmask (Dev.keyOpAbort_keeps0 d code) hkeep

theorem Dev.wipeInactive_keeps0 (d : Dev) : Keeps 8388608 d (Dev.wipeInactive d) := by
  unfold Dev.wipeInactive
  simp (maxSteps := 400000) (maxDischargeDepth := 99) +contextual [Keeps.foldl, Keeps.ite, Dev.draw]
@[simp] theorem Dev.wipeInactive_keeps {L : Nat} {d0 : Dev} (d : Dev) (hmask : 8388608 ||| L = L) (hkeep : Keeps L d0 d) : Keeps L d0 (Dev.wipeInactive d) :=
  .after hmask (Dev.wipeInactive_keeps0 d) hkeep

theorem Dev.importKey_keeps0 (d : Dev) (k : ImportBlob) : Keeps 8388612 d (Dev.importKey d k) := by
  unfold Dev.importKey
  (try dsimp only); (repeat' split) <;> simp (maxSteps := 400000) (maxDischargeDepth := 99) +contextual [Keeps.foldl, Keeps.ite, Dev.draw]
@[simp] theorem Dev.importKey_keeps {L : Nat} {d0 : Dev} (d : Dev) (k : ImportBlob) (hmask : 8388612 ||| L = L) (hkeep : Keeps L d0 d) : Keeps L d0 (Dev.importKey d k) :=
  .after hmask (Dev.importKey_keeps0 d k) hkeep

theorem Dev.generateKey_keeps0 (d : Dev) (n typ : Nat) (verifies : Bool) : Keeps 8388613 d (Dev.generateKey d n typ verifies) := by
  unfold Dev.generateKey
  (try dsimp only); (repeat' split) <;> simp (maxSteps := 400000) (maxDischargeDepth := 99) +contextual [Keeps.foldl, Keeps.ite, Dev.draw]
@[simp] theorem Dev.generateKey_keeps {L : Nat} {d0 : Dev} (d : Dev) (n typ : Nat) (verifies : Bool) (hmask : 8388613 ||| L = L) (hkeep : Keeps L d0 d) : Keeps L d0 (Dev.generateKey d n typ verifies) :=
  .after hmask (Dev.generateKey_keeps0 d n typ verifies) hkeep

theorem Dev.eraseKey_keeps0 (d : Dev) (n : Nat) : Keeps 8396805 d (Dev.eraseKey d n) := by
  unfold Dev.eraseKey
  (try dsimp only); (repeat' split) <;> simp (maxSteps := 400000) (maxDischargeDepth := 99) +contextual [Keeps.foldl, Keeps.ite, Dev.draw]
@[simp] theorem Dev.eraseKey_keeps {L : Nat} {d0 : Dev} (d : Dev) (n : Nat) (hmask : 8396805 ||| L = L) (hkeep : Keeps L d0 d) : Keeps L d0 (Dev.eraseKey d n) :=
  .after hmask (Dev.eraseKey_keeps0 d n) hkeep

theorem Dev.keyOpStart_keeps0 (d : Dev) (a : Ack) (op : KeyOp) : Keeps 142618631 d (Dev.keyOpStart d a op) := by
  unfold Dev.keyOpStart
  (try dsimp only); (repeat' split) <;> simp (maxSteps := 400000) (maxDischargeDepth := 99) +contextual [Keeps.foldl, Keeps.ite, Dev.draw]
@[simp] theorem Dev.keyOpStart_keeps {L : Nat} {d0 : Dev} (d : Dev) (a : Ack) (op : KeyOp) (hmask : 142618631 ||| L = L) (hkeep : Keeps L d0 d) : Keeps L d0 (Dev.keyOpStart d a op) :=
  .after hmask (Dev.keyOpStart_keeps0 d a op) hkeep

theorem Dev.keyOpTick_keeps0 (d : Dev) : Keeps 8396805 d (Dev.keyOpTick d) := by
  unfold Dev.keyOpTick
  simp (maxSteps := 400000) (maxDischargeDepth := 99) +contextual [Keeps.foldl, Keeps.ite, Dev.draw]
@[simp] theorem Dev.keyOpTick_keeps {L : Nat} {d0 : Dev} (d : Dev) (hmask : 8396805 ||| L = L) (hkeep : Keeps L d0 d) : Keeps L d0 (Dev.keyOpTick d) :=
  .after hmask (Dev.keyOpTick_keeps0 d) hkeep

theorem Dev.fuseTick_keeps0 (d : Dev) : Keeps 8388612 d (Dev.fuseTick d) := by
  unfold Dev.fuseTick
  simp (maxSteps := 400000) (maxDischargeDepth := 99) +contextual [Keeps.foldl, Keeps.ite, Dev.draw]
@[simp] theorem Dev.fuseTick_keeps {L : Nat} {d0 : Dev} (d : Dev) (hmask : 8388612 ||| L = L) (hkeep : Keeps L d0 d) : Keeps L d0 (Dev.fuseTick d) :=
  .after hmask (Dev.fuseTick_keeps0 d) hkeep

theorem keyOpServe_keeps0 (op : Val → KeyOp) (a : Ack) (v : Val) (d : Dev) : Keeps 134223878 d (keyOpServe op a v d) := by
  unfold keyOpServe
  simp (maxSteps := 400000) (maxDischargeDepth := 99) +contextual [Keeps.foldl, Keeps.ite, Dev.draw]
@[simp] theorem keyOpServe_keeps {L : Nat} {d0 : Dev} (op : Val → KeyOp) (a : Ack) (v : Val) (d : Dev) (hmask : 134223878 ||| L = L) (hkeep : Keeps L d0 d) : Keeps L d0 (keyOpServe op a v d) :=
  .after hmask (keyOpServe_keeps0 op a v d) hkeep

theorem Dev.setContext_keeps0 (d : Dev) (x : Fin 160) (k : Option Bytes) : Keeps 8392704 d (Dev.setContext d x k) := by
  unfold Dev.setContext
  (try dsimp only); (repeat' split) <;> simp (maxSteps := 400000) (maxDischargeDepth := 99) +contextual [Keeps.foldl, Keeps.ite, Dev.draw]
@[simp] theorem Dev.setContext_keeps {L : Nat} {d0 : Dev} (d : Dev) (x : Fin 160) (k : Option Bytes) (hmask : 8392704 ||| L = L) (hkeep : Keeps L d0 d) : Keeps L d0 (Dev.setContext d x k) :=
  .after hmask (Dev.setContext_keeps0 d x k) hkeep

theorem burlRequest_keeps0 (tag : BitVec 5) (n : Fin 64) (op : BurlOp) (d : Dev) : Keeps 8400966 d (burlRequest tag n op d) := by
  unfold burlRequest
  (try dsimp only); (repeat' split) <;> simp (maxSteps := 400000) (maxDischargeDepth := 99) +contextual [Keeps.foldl, Keeps.ite, Dev.draw]
@[simp] theorem burlRequest_keeps {L : Nat} {d0 : Dev} (tag : BitVec 5) (n : Fin 64) (op : BurlOp) (d : Dev) (hmask : 8400966 ||| L = L) (hkeep : Keeps L d0 d) : Keeps L d0 (burlRequest tag n op d) :=
  .after hmask (burlRequest_keeps0 tag n op d) hkeep

theorem Dev.startSigning_keeps0 (d : Dev) : Keeps 8388608 d (Dev.startSigning d) := by
  unfold Dev.startSigning
  (try dsimp only); (repeat' split) <;> simp (maxSteps := 400000) (maxDischargeDepth := 99) +contextual [Keeps.foldl, Keeps.ite, Dev.draw]
@[simp] theorem Dev.startSigning_keeps {L : Nat} {d0 : Dev} (d : Dev) (hmask : 8388608 ||| L = L) (hkeep : Keeps L d0 d) : Keeps L d0 (Dev.startSigning d) :=
  .after hmask (Dev.startSigning_keeps0 d) hkeep

theorem Dev.postRecord_keeps0 (d : Dev) (number : Nat) : Keeps 8396800 d (Dev.postRecord d number) := by
  unfold Dev.postRecord
  simp (maxSteps := 400000) (maxDischargeDepth := 99) +contextual [Keeps.foldl, Keeps.ite, Dev.draw]
@[simp] theorem Dev.postRecord_keeps {L : Nat} {d0 : Dev} (d : Dev) (number : Nat) (hmask : 8396800 ||| L = L) (hkeep : Keeps L d0 d) : Keeps L d0 (Dev.postRecord d number) :=
  .after hmask (Dev.postRecord_keeps0 d number) hkeep

theorem Dev.queueAttest_keeps0 (d : Dev) (s : SlotId) : Keeps 8388608 d (Dev.queueAttest d s) := by
  unfold Dev.queueAttest
  simp (maxSteps := 400000) (maxDischargeDepth := 99) +contextual [Keeps.foldl, Keeps.ite, Dev.draw]
@[simp] theorem Dev.queueAttest_keeps {L : Nat} {d0 : Dev} (d : Dev) (s : SlotId) (hmask : 8388608 ||| L = L) (hkeep : Keeps L d0 d) : Keeps L d0 (Dev.queueAttest d s) :=
  .after hmask (Dev.queueAttest_keeps0 d s) hkeep

theorem Dev.dropAttest_keeps0 (d : Dev) (s : SlotId) : Keeps 8388608 d (Dev.dropAttest d s) := by
  unfold Dev.dropAttest
  simp (maxSteps := 400000) (maxDischargeDepth := 99) +contextual [Keeps.foldl, Keeps.ite, Dev.draw]
@[simp] theorem Dev.dropAttest_keeps {L : Nat} {d0 : Dev} (d : Dev) (s : SlotId) (hmask : 8388608 ||| L = L) (hkeep : Keeps L d0 d) : Keeps L d0 (Dev.dropAttest d s) :=
  .after hmask (Dev.dropAttest_keeps0 d s) hkeep

theorem Dev.attestationSigned_keeps0 (d : Dev) : Keeps 8388612 d (Dev.attestationSigned d) := by
  unfold Dev.attestationSigned
  (try dsimp only); (repeat' split) <;> simp (maxSteps := 400000) (maxDischargeDepth := 99) +contextual [Keeps.foldl, Keeps.ite, Dev.draw]
@[simp] theorem Dev.attestationSigned_keeps {L : Nat} {d0 : Dev} (d : Dev) (hmask : 8388612 ||| L = L) (hkeep : Keeps L d0 d) : Keeps L d0 (Dev.attestationSigned d) :=
  .after hmask (Dev.attestationSigned_keeps0 d) hkeep

theorem commissionServe_keeps0 (a : Ack) (u1_ : Val) (d : Dev) : Keeps 134221830 d (commissionServe a u1_ d) := by
  unfold commissionServe
  simp (maxSteps := 400000) (maxDischargeDepth := 99) +contextual [Keeps.foldl, Keeps.ite, Dev.draw]
@[simp] theorem commissionServe_keeps {L : Nat} {d0 : Dev} (a : Ack) (u1_ : Val) (d : Dev) (hmask : 134221830 ||| L = L) (hkeep : Keeps L d0 d) : Keeps L d0 (commissionServe a u1_ d) :=
  .after hmask (commissionServe_keeps0 a u1_ d) hkeep

theorem jtagSession_keeps0 (d : Dev) : Keeps 8192 d (jtagSession d) := by
  unfold jtagSession
  simp (maxSteps := 400000) (maxDischargeDepth := 99) +contextual [Keeps.foldl, Keeps.ite, Dev.draw]
@[simp] theorem jtagSession_keeps {L : Nat} {d0 : Dev} (d : Dev) (hmask : 8192 ||| L = L) (hkeep : Keeps L d0 d) : Keeps L d0 (jtagSession d) :=
  .after hmask (jtagSession_keeps0 d) hkeep

theorem Dev.setCredit_keeps0 (d : Dev) (p : PortId) (avail : Int) (account cls utc : Nat) : Keeps 2252804 d (Dev.setCredit d p avail account cls utc) := by
  unfold Dev.setCredit
  (try dsimp only); (repeat' split) <;> simp (maxSteps := 400000) (maxDischargeDepth := 99) +contextual [Keeps.foldl, Keeps.ite, Dev.draw]
@[simp] theorem Dev.setCredit_keeps {L : Nat} {d0 : Dev} (d : Dev) (p : PortId) (avail : Int) (account cls utc : Nat) (hmask : 2252804 ||| L = L) (hkeep : Keeps L d0 d) : Keeps L d0 (Dev.setCredit d p avail account cls utc) :=
  .after hmask (Dev.setCredit_keeps0 d p avail account cls utc) hkeep

theorem Dev.setAuth_keeps0 (d : Dev) (p : PortId) (v : Option AuthRun) : Keeps 2097152 d (Dev.setAuth d p v) := by
  unfold Dev.setAuth
  simp (maxSteps := 400000) (maxDischargeDepth := 99) +contextual [Keeps.foldl, Keeps.ite, Dev.draw]
@[simp] theorem Dev.setAuth_keeps {L : Nat} {d0 : Dev} (d : Dev) (p : PortId) (v : Option AuthRun) (hmask : 2097152 ||| L = L) (hkeep : Keeps L d0 d) : Keeps L d0 (Dev.setAuth d p v) :=
  .after hmask (Dev.setAuth_keeps0 d p v) hkeep

theorem Dev.setPosted_keeps0 (d : Dev) (p : PortId) (v : Option (Nat × Nat)) : Keeps 2097152 d (Dev.setPosted d p v) := by
  unfold Dev.setPosted
  simp (maxSteps := 400000) (maxDischargeDepth := 99) +contextual [Keeps.foldl, Keeps.ite, Dev.draw]
@[simp] theorem Dev.setPosted_keeps {L : Nat} {d0 : Dev} (d : Dev) (p : PortId) (v : Option (Nat × Nat)) (hmask : 2097152 ||| L = L) (hkeep : Keeps L d0 d) : Keeps L d0 (Dev.setPosted d p v) :=
  .after hmask (Dev.setPosted_keeps0 d p v) hkeep

theorem Dev.refuseGrant_keeps0 (d : Dev) (p : PortId) : Keeps 2838534 d (Dev.refuseGrant d p) := by
  unfold Dev.refuseGrant
  simp (maxSteps := 400000) (maxDischargeDepth := 99) +contextual [Keeps.foldl, Keeps.ite, Dev.draw]
@[simp] theorem Dev.refuseGrant_keeps {L : Nat} {d0 : Dev} (d : Dev) (p : PortId) (hmask : 2838534 ||| L = L) (hkeep : Keeps L d0 d) : Keeps L d0 (Dev.refuseGrant d p) :=
  .after hmask (Dev.refuseGrant_keeps0 d p) hkeep

theorem Dev.identify_keeps0 (d : Dev) (p : PortId) (found : Option (Nat × Account)) : Keeps 2838534 d (Dev.identify d p found) := by
  unfold Dev.identify
  (try dsimp only); (repeat' split) <;> simp (maxSteps := 400000) (maxDischargeDepth := 99) +contextual [Keeps.foldl, Keeps.ite, Dev.draw]
@[simp] theorem Dev.identify_keeps {L : Nat} {d0 : Dev} (d : Dev) (p : PortId) (found : Option (Nat × Account)) (hmask : 2838534 ||| L = L) (hkeep : Keeps L d0 d) : Keeps L d0 (Dev.identify d p found) :=
  .after hmask (Dev.identify_keeps0 d p found) hkeep

theorem Dev.evaluateAccount_keeps0 (d : Dev) (ents : Vector Entity 9) (slot utc : Nat) : Keeps 2846726 d (Dev.evaluateAccount d ents slot utc) := by
  unfold Dev.evaluateAccount
  (try dsimp only); (repeat' split) <;> simp (maxSteps := 400000) (maxDischargeDepth := 99) +contextual [Keeps.foldl, Keeps.ite, Dev.draw]
@[simp] theorem Dev.evaluateAccount_keeps {L : Nat} {d0 : Dev} (d : Dev) (ents : Vector Entity 9) (slot utc : Nat) (hmask : 2846726 ||| L = L) (hkeep : Keeps L d0 d) : Keeps L d0 (Dev.evaluateAccount d ents slot utc) :=
  .after hmask (Dev.evaluateAccount_keeps0 d ents slot utc) hkeep

theorem Dev.binding_keeps0 (p : PortId) (d : Dev) : Keeps 2846726 d (Dev.binding p d) := by
  unfold Dev.binding
  (try dsimp only); (repeat' split) <;> simp (maxSteps := 400000) (maxDischargeDepth := 99) +contextual [Keeps.foldl, Keeps.ite, Dev.draw]
@[simp] theorem Dev.binding_keeps {L : Nat} {d0 : Dev} (p : PortId) (d : Dev) (hmask : 2846726 ||| L = L) (hkeep : Keeps L d0 d) : Keeps L d0 (Dev.binding p d) :=
  .after hmask (Dev.binding_keeps0 p d) hkeep

theorem externalIdServe_keeps0 (p : PortId) (a : Ack) (v : Val) (d : Dev) : Keeps 137056262 d (externalIdServe p a v d) := by
  unfold externalIdServe
  (try dsimp only); (repeat' split) <;> simp (maxSteps := 400000) (maxDischargeDepth := 99) +contextual [Keeps.foldl, Keeps.ite, Dev.draw]
@[simp] theorem externalIdServe_keeps {L : Nat} {d0 : Dev} (p : PortId) (a : Ack) (v : Val) (d : Dev) (hmask : 137056262 ||| L = L) (hkeep : Keeps L d0 d) : Keeps L d0 (externalIdServe p a v d) :=
  .after hmask (externalIdServe_keeps0 p a v d) hkeep

theorem authAnswerServe_keeps0 (p : PortId) (a : Ack) (v : Val) (d : Dev) : Keeps 137056262 d (authAnswerServe p a v d) := by
  unfold authAnswerServe
  (try dsimp only); (repeat' split) <;> simp (maxSteps := 400000) (maxDischargeDepth := 99) +contextual [Keeps.foldl, Keeps.ite, Dev.draw]
@[simp] theorem authAnswerServe_keeps {L : Nat} {d0 : Dev} (p : PortId) (a : Ack) (v : Val) (d : Dev) (hmask : 137056262 ||| L = L) (hkeep : Keeps L d0 d) : Keeps L d0 (authAnswerServe p a v d) :=
  .after hmask (authAnswerServe_keeps0 p a v d) hkeep

theorem hostAuthTimeout_keeps0 (p : PortId) (d : Dev) : Keeps 2838534 d (hostAuthTimeout p d) := by
  unfold hostAuthTimeout
  (try dsimp only); (repeat' split) <;> simp (maxSteps := 400000) (maxDischargeDepth := 99) +contextual [Keeps.foldl, Keeps.ite, Dev.draw]
@[simp] theorem hostAuthTimeout_keeps {L : Nat} {d0 : Dev} (p : PortId) (d : Dev) (hmask : 2838534 ||| L = L) (hkeep : Keeps L d0 d) : Keeps L d0 (hostAuthTimeout p d) :=
  .after hmask (hostAuthTimeout_keeps0 p d) hkeep

end Sys2Proof.Machine
end

