-- ==== Sys2Proof/Laws/FramesCommit.lean ====
section
/-! SUPPORT. What each function leaves alone: commits and boundaries. -/

set_option linter.unusedSimpArgs false
set_option linter.unusedTactic false
set_option linter.unreachableTactic false
set_option linter.unnecessarySeqFocus false

namespace Sys2Proof.Machine

theorem Dev.uncommittedPort_keeps0 (fl : Nat) (d : Dev) (x : PortId × Nat × Nat × Int) : Keeps 532484 d (Dev.uncommittedPort fl d x) := by
  unfold Dev.uncommittedPort
  (try dsimp only); (repeat' split) <;> simp (maxSteps := 400000) (maxDischargeDepth := 99) +contextual [Keeps.foldl, Keeps.ite, Dev.draw]
@[simp] theorem Dev.uncommittedPort_keeps {L : Nat} {d0 : Dev} (fl : Nat) (d : Dev) (x : PortId × Nat × Nat × Int) (hmask : 532484 ||| L = L) (hkeep : Keeps L d0 d) : Keeps L d0 (Dev.uncommittedPort fl d x) :=
  .after hmask (Dev.uncommittedPort_keeps0 fl d x) hkeep

theorem Dev.uncommitted_keeps0 (d : Dev) (base : Ring) (bounds : List (PortId × Nat × Nat × Int)) (flags : Nat) : Keeps 532484 d (Dev.uncommitted d base bounds flags) := by
  unfold Dev.uncommitted
  simp (maxSteps := 400000) (maxDischargeDepth := 99) +contextual [Keeps.foldl, Keeps.ite, Dev.draw]
@[simp] theorem Dev.uncommitted_keeps {L : Nat} {d0 : Dev} (d : Dev) (base : Ring) (bounds : List (PortId × Nat × Nat × Int)) (flags : Nat) (hmask : 532484 ||| L = L) (hkeep : Keeps L d0 d) : Keeps L d0 (Dev.uncommitted d base bounds flags) :=
  .after hmask (Dev.uncommitted_keeps0 d base bounds flags) hkeep

theorem Dev.gapEvent_keeps0 (d : Dev) (flags : Nat) : Keeps 532484 d (Dev.gapEvent d flags) := by
  unfold Dev.gapEvent
  (try dsimp only); (repeat' split) <;> simp (maxSteps := 400000) (maxDischargeDepth := 99) +contextual [Keeps.foldl, Keeps.ite, Dev.draw]
@[simp] theorem Dev.gapEvent_keeps {L : Nat} {d0 : Dev} (d : Dev) (flags : Nat) (hmask : 532484 ||| L = L) (hkeep : Keeps L d0 d) : Keeps L d0 (Dev.gapEvent d flags) :=
  .after hmask (Dev.gapEvent_keeps0 d flags) hkeep

theorem Dev.checkToggled_keeps0 (d : Dev) (latched : Bool) (check entity : Nat) (source : Option Nat) (dev : Int) : Keeps 8396800 d (Dev.checkToggled d latched check entity source dev) := by
  unfold Dev.checkToggled
  (try dsimp only); (repeat' split) <;> simp (maxSteps := 400000) (maxDischargeDepth := 99) +contextual [Keeps.foldl, Keeps.ite, Dev.draw]
@[simp] theorem Dev.checkToggled_keeps {L : Nat} {d0 : Dev} (d : Dev) (latched : Bool) (check entity : Nat) (source : Option Nat) (dev : Int) (hmask : 8396800 ||| L = L) (hkeep : Keeps L d0 d) : Keeps L d0 (Dev.checkToggled d latched check entity source dev) :=
  .after hmask (Dev.checkToggled_keeps0 d latched check entity source dev) hkeep

theorem Dev.runCheck_keeps0 (d : Dev) (get : Energy → CheckRun) (put : Energy → CheckRun → Energy) (key : Nat) (bad : Bool) (dev : Int) (n check entity : Nat) (source : Option Nat) : Keeps 8921092 d (Dev.runCheck d get put key bad dev n check entity source) := by
  unfold Dev.runCheck
  simp (maxSteps := 400000) (maxDischargeDepth := 99) +contextual [Keeps.foldl, Keeps.ite, Dev.draw]
@[simp] theorem Dev.runCheck_keeps {L : Nat} {d0 : Dev} (d : Dev) (get : Energy → CheckRun) (put : Energy → CheckRun → Energy) (key : Nat) (bad : Bool) (dev : Int) (n check entity : Nat) (source : Option Nat) (hmask : 8921092 ||| L = L) (hkeep : Keeps L d0 d) : Keeps L d0 (Dev.runCheck d get put key bad dev n check entity source) :=
  .after hmask (Dev.runCheck_keeps0 d get put key bad dev n check entity source) hkeep

theorem Dev.periodChecks_keeps0 (d : Dev) (c : Closed) : Keeps 8921092 d (Dev.periodChecks d c) := by
  unfold Dev.periodChecks
  (try dsimp only); (repeat' split) <;> simp (maxSteps := 400000) (maxDischargeDepth := 99) +contextual [Keeps.foldl, Keeps.ite, Dev.draw]
@[simp] theorem Dev.periodChecks_keeps {L : Nat} {d0 : Dev} (d : Dev) (c : Closed) (hmask : 8921092 ||| L = L) (hkeep : Keeps L d0 d) : Keeps L d0 (Dev.periodChecks d c) :=
  .after hmask (Dev.periodChecks_keeps0 d c) hkeep

theorem Dev.periodValues_keeps0 (d : Dev) (c : Closed) : Keeps 4 d (Dev.periodValues d c) := by
  unfold Dev.periodValues
  (try dsimp only); (repeat' split) <;> simp (maxSteps := 400000) (maxDischargeDepth := 99) +contextual [Keeps.foldl, Keeps.ite, Dev.draw]
@[simp] theorem Dev.periodValues_keeps {L : Nat} {d0 : Dev} (d : Dev) (c : Closed) (hmask : 4 ||| L = L) (hkeep : Keeps L d0 d) : Keeps L d0 (Dev.periodValues d c) :=
  .after hmask (Dev.periodValues_keeps0 d c) hkeep

theorem Dev.settleSession_keeps0 (d : Dev) (slot number : Nat) (part : RecordOpening) (endUs quality flags : Nat) (ring : Ring) : Keeps 10493957 d (Dev.settleSession d slot number part endUs quality flags ring) := by
  unfold Dev.settleSession
  extract_lets p x cost old applied d1 bal now tariffs body src d2 d3 d4 d5
  have h1 : Keeps 10493957 d d1 := by
    unfold d1
    split
    · rename_i h; exact Dev.balanceRequest_keeps h (by decide) (Keeps.refl _ _)
    · simp (maxDischargeDepth := 99)
  clear_value d1
  have h2 : Keeps 10493957 d d2 := by unfold d2; simp (maxDischargeDepth := 99) [h1]
  clear_value d2
  have h3 : Keeps 10493957 d d3 := by unfold d3; simp (maxDischargeDepth := 99) [h2]
  clear_value d3
  have h4 : Keeps 10493957 d d4 := by unfold d4; (repeat' split) <;> simp (maxDischargeDepth := 99) [h3]
  clear_value d4
  have h5 : Keeps 10493957 d d5 := by unfold d5; split <;> simp (maxDischargeDepth := 99) [h4]
  clear_value d5
  simp (maxDischargeDepth := 99) [h5]
@[simp] theorem Dev.settleSession_keeps {L : Nat} {d0 : Dev} (d : Dev) (slot number : Nat) (part : RecordOpening) (endUs quality flags : Nat) (ring : Ring) (hmask : 10493957 ||| L = L) (hkeep : Keeps L d0 d) : Keeps L d0 (Dev.settleSession d slot number part endUs quality flags ring) :=
  .after hmask (Dev.settleSession_keeps0 d slot number part endUs quality flags ring) hkeep

theorem Dev.closeSession_keeps0 (d : Dev) (p : PortId) (l : Live) (ring : Ring) : Keeps 11018245 d (Dev.closeSession d p l ring) := by
  unfold Dev.closeSession
  (try dsimp only); (repeat' split) <;> simp (maxSteps := 400000) (maxDischargeDepth := 99) +contextual [Keeps.foldl, Keeps.ite, Dev.draw]
@[simp] theorem Dev.closeSession_keeps {L : Nat} {d0 : Dev} (d : Dev) (p : PortId) (l : Live) (ring : Ring) (hmask : 11018245 ||| L = L) (hkeep : Keeps L d0 d) : Keeps L d0 (Dev.closeSession d p l ring) :=
  .after hmask (Dev.closeSession_keeps0 d p l ring) hkeep

theorem Dev.capSession_keeps0 (d : Dev) (p : PortId) (x : Entity) : Keeps 2838534 d (Dev.capSession d p x) := by
  unfold Dev.capSession
  simp (maxSteps := 400000) (maxDischargeDepth := 99) +contextual [Keeps.foldl, Keeps.ite, Dev.draw]
@[simp] theorem Dev.capSession_keeps {L : Nat} {d0 : Dev} (d : Dev) (p : PortId) (x : Entity) (hmask : 2838534 ||| L = L) (hkeep : Keeps L d0 d) : Keeps L d0 (Dev.capSession d p x) :=
  .after hmask (Dev.capSession_keeps0 d p x) hkeep

theorem Dev.writeItems_keeps0 (d : Dev) : Keeps 8192 d (Dev.writeItems d) := by
  unfold Dev.writeItems
  simp (maxSteps := 400000) (maxDischargeDepth := 99) +contextual [Keeps.foldl, Keeps.ite, Dev.draw]
@[simp] theorem Dev.writeItems_keeps {L : Nat} {d0 : Dev} (d : Dev) (hmask : 8192 ||| L = L) (hkeep : Keeps L d0 d) : Keeps L d0 (Dev.writeItems d) :=
  .after hmask (Dev.writeItems_keeps0 d) hkeep

theorem Dev.writeRing_keeps0 (d : Dev) (ring : Ring) (ok : Bool) : Keeps 134746114 d (Dev.writeRing d ring ok).2 := by
  unfold Dev.writeRing
  first
    | (simp (maxSteps := 400000) (maxDischargeDepth := 99) +contextual [Keeps.foldl, Keeps.ite, Dev.draw]; done)
    | (try dsimp only); (repeat' split) <;> (simp (maxSteps := 400000) (maxDischargeDepth := 99) +contextual [Keeps.foldl, Keeps.ite, Dev.draw]; done)
@[simp] theorem Dev.writeRing_keeps {L : Nat} {d0 : Dev} (d : Dev) (ring : Ring) (ok : Bool) (hmask : 134746114 ||| L = L) (hkeep : Keeps L d0 d) : Keeps L d0 (Dev.writeRing d ring ok).2 :=
  .after hmask (Dev.writeRing_keeps0 d ring ok) hkeep

theorem Dev.commitFailed_keeps0 (d : Dev) (r : Ring) : Keeps 679940 d (Dev.commitFailed d r) := by
  unfold Dev.commitFailed
  simp (maxSteps := 400000) (maxDischargeDepth := 99) +contextual [Keeps.foldl, Keeps.ite, Dev.draw]
@[simp] theorem Dev.commitFailed_keeps {L : Nat} {d0 : Dev} (d : Dev) (r : Ring) (hmask : 679940 ||| L = L) (hkeep : Keeps L d0 d) : Keeps L d0 (Dev.commitFailed d r) :=
  .after hmask (Dev.commitFailed_keeps0 d r) hkeep

theorem Dev.showLegal_keeps0 (d : Dev) (legal : Store) : Keeps 1056768 d (Dev.showLegal d legal) := by
  unfold Dev.showLegal
  simp (maxSteps := 400000) (maxDischargeDepth := 99) +contextual [Keeps.foldl, Keeps.ite, Dev.draw]
@[simp] theorem Dev.showLegal_keeps {L : Nat} {d0 : Dev} (d : Dev) (legal : Store) (hmask : 1056768 ||| L = L) (hkeep : Keeps L d0 d) : Keeps L d0 (Dev.showLegal d legal) :=
  .after hmask (Dev.showLegal_keeps0 d legal) hkeep

theorem Dev.commitDone_keeps0 (d : Dev) (c : CommitRun) (r : Ring) (durationUs : Nat) : Keeps 79392775 d (Dev.commitDone d c r durationUs) := by
  unfold Dev.commitDone
  extract_lets d1 d2 stuck d3 d4 d5 d6 ports latest slots d7 d8 d9 src d10
  have h_d1 : Keeps 79392775 d d1 := by unfold d1; first | (simp (maxDischargeDepth := 99) +contextual [*, Keeps.foldl, Keeps.ite]; done) | (repeat' split) <;> (simp (maxDischargeDepth := 99) +contextual [*, Keeps.foldl, Keeps.ite]; done) | (refine Keeps.foldl _ (by first | assumption | simp (maxDischargeDepth := 99) +contextual [*, Keeps.foldl, Keeps.ite]) fun e x he => ?_; first | (simp (maxDischargeDepth := 99) +contextual [*, Keeps.foldl, Keeps.ite]; done) | (repeat' split) <;> (simp (maxDischargeDepth := 99) +contextual [*, Keeps.foldl, Keeps.ite]; done))
  clear_value d1
  have h_d2 : Keeps 79392775 d d2 := by unfold d2; first | (simp (maxDischargeDepth := 99) +contextual [*, Keeps.foldl, Keeps.ite]; done) | (repeat' split) <;> (simp (maxDischargeDepth := 99) +contextual [*, Keeps.foldl, Keeps.ite]; done) | (refine Keeps.foldl _ (by first | assumption | simp (maxDischargeDepth := 99) +contextual [*, Keeps.foldl, Keeps.ite]) fun e x he => ?_; first | (simp (maxDischargeDepth := 99) +contextual [*, Keeps.foldl, Keeps.ite]; done) | (repeat' split) <;> (simp (maxDischargeDepth := 99) +contextual [*, Keeps.foldl, Keeps.ite]; done))
  clear_value d2
  have h_d3 : Keeps 79392775 d d3 := by unfold d3; first | (simp (maxDischargeDepth := 99) +contextual [*, Keeps.foldl, Keeps.ite]; done) | (repeat' split) <;> (simp (maxDischargeDepth := 99) +contextual [*, Keeps.foldl, Keeps.ite]; done) | (refine Keeps.foldl _ (by first | assumption | simp (maxDischargeDepth := 99) +contextual [*, Keeps.foldl, Keeps.ite]) fun e x he => ?_; first | (simp (maxDischargeDepth := 99) +contextual [*, Keeps.foldl, Keeps.ite]; done) | (repeat' split) <;> (simp (maxDischargeDepth := 99) +contextual [*, Keeps.foldl, Keeps.ite]; done))
  clear_value d3
  have h_d4 : Keeps 79392775 d d4 := by unfold d4; first | (simp (maxDischargeDepth := 99) +contextual [*, Keeps.foldl, Keeps.ite]; done) | (repeat' split) <;> (simp (maxDischargeDepth := 99) +contextual [*, Keeps.foldl, Keeps.ite]; done) | (refine Keeps.foldl _ (by first | assumption | simp (maxDischargeDepth := 99) +contextual [*, Keeps.foldl, Keeps.ite]) fun e x he => ?_; first | (simp (maxDischargeDepth := 99) +contextual [*, Keeps.foldl, Keeps.ite]; done) | (repeat' split) <;> (simp (maxDischargeDepth := 99) +contextual [*, Keeps.foldl, Keeps.ite]; done))
  clear_value d4
  have h_d5 : Keeps 79392775 d d5 := by unfold d5; first | (simp (maxDischargeDepth := 99) +contextual [*, Keeps.foldl, Keeps.ite]; done) | (repeat' split) <;> (simp (maxDischargeDepth := 99) +contextual [*, Keeps.foldl, Keeps.ite]; done) | (refine Keeps.foldl _ (by first | assumption | simp (maxDischargeDepth := 99) +contextual [*, Keeps.foldl, Keeps.ite]) fun e x he => ?_; first | (simp (maxDischargeDepth := 99) +contextual [*, Keeps.foldl, Keeps.ite]; done) | (repeat' split) <;> (simp (maxDischargeDepth := 99) +contextual [*, Keeps.foldl, Keeps.ite]; done))
  clear_value d5
  have h_d6 : Keeps 79392775 d d6 := by unfold d6; first | (simp (maxDischargeDepth := 99) +contextual [*, Keeps.foldl, Keeps.ite]; done) | (repeat' split) <;> (simp (maxDischargeDepth := 99) +contextual [*, Keeps.foldl, Keeps.ite]; done) | (refine Keeps.foldl _ (by first | assumption | simp (maxDischargeDepth := 99) +contextual [*, Keeps.foldl, Keeps.ite]) fun e x he => ?_; first | (simp (maxDischargeDepth := 99) +contextual [*, Keeps.foldl, Keeps.ite]; done) | (repeat' split) <;> (simp (maxDischargeDepth := 99) +contextual [*, Keeps.foldl, Keeps.ite]; done))
  clear_value d6
  have h_d7 : Keeps 79392775 d d7 := by unfold d7; first | (simp (maxDischargeDepth := 99) +contextual [*, Keeps.foldl, Keeps.ite]; done) | (repeat' split) <;> (simp (maxDischargeDepth := 99) +contextual [*, Keeps.foldl, Keeps.ite]; done) | (refine Keeps.foldl _ (by first | assumption | simp (maxDischargeDepth := 99) +contextual [*, Keeps.foldl, Keeps.ite]) fun e x he => ?_; first | (simp (maxDischargeDepth := 99) +contextual [*, Keeps.foldl, Keeps.ite]; done) | (repeat' split) <;> (simp (maxDischargeDepth := 99) +contextual [*, Keeps.foldl, Keeps.ite]; done))
  clear_value d7
  have h_d8 : Keeps 79392775 d d8 := by unfold d8; first | (simp (maxDischargeDepth := 99) +contextual [*, Keeps.foldl, Keeps.ite]; done) | (repeat' split) <;> (simp (maxDischargeDepth := 99) +contextual [*, Keeps.foldl, Keeps.ite]; done) | (refine Keeps.foldl _ (by first | assumption | simp (maxDischargeDepth := 99) +contextual [*, Keeps.foldl, Keeps.ite]) fun e x he => ?_; first | (simp (maxDischargeDepth := 99) +contextual [*, Keeps.foldl, Keeps.ite]; done) | (repeat' split) <;> (simp (maxDischargeDepth := 99) +contextual [*, Keeps.foldl, Keeps.ite]; done))
  clear_value d8
  have h_d9 : Keeps 79392775 d d9 := by unfold d9; first | (simp (maxDischargeDepth := 99) +contextual [*, Keeps.foldl, Keeps.ite]; done) | (repeat' split) <;> (simp (maxDischargeDepth := 99) +contextual [*, Keeps.foldl, Keeps.ite]; done) | (refine Keeps.foldl _ (by first | assumption | simp (maxDischargeDepth := 99) +contextual [*, Keeps.foldl, Keeps.ite]) fun e x he => ?_; first | (simp (maxDischargeDepth := 99) +contextual [*, Keeps.foldl, Keeps.ite]; done) | (repeat' split) <;> (simp (maxDischargeDepth := 99) +contextual [*, Keeps.foldl, Keeps.ite]; done))
  clear_value d9
  have h_d10 : Keeps 79392775 d d10 := by unfold d10; first | (simp (maxDischargeDepth := 99) +contextual [*, Keeps.foldl, Keeps.ite]; done) | (repeat' split) <;> (simp (maxDischargeDepth := 99) +contextual [*, Keeps.foldl, Keeps.ite]; done) | (refine Keeps.foldl _ (by first | assumption | simp (maxDischargeDepth := 99) +contextual [*, Keeps.foldl, Keeps.ite]) fun e x he => ?_; first | (simp (maxDischargeDepth := 99) +contextual [*, Keeps.foldl, Keeps.ite]; done) | (repeat' split) <;> (simp (maxDischargeDepth := 99) +contextual [*, Keeps.foldl, Keeps.ite]; done))
  clear_value d10
  first | (simp (maxDischargeDepth := 99) +contextual [*, Keeps.foldl, Keeps.ite]; done) | (repeat' split) <;> (simp (maxDischargeDepth := 99) +contextual [*, Keeps.foldl, Keeps.ite]; done) | (refine Keeps.foldl _ (by first | assumption | simp (maxDischargeDepth := 99) +contextual [*, Keeps.foldl, Keeps.ite]) fun e x he => ?_; first | (simp (maxDischargeDepth := 99) +contextual [*, Keeps.foldl, Keeps.ite]; done) | (repeat' split) <;> (simp (maxDischargeDepth := 99) +contextual [*, Keeps.foldl, Keeps.ite]; done))
@[simp] theorem Dev.commitDone_keeps {L : Nat} {d0 : Dev} (d : Dev) (c : CommitRun) (r : Ring) (durationUs : Nat) (hmask : 79392775 ||| L = L) (hkeep : Keeps L d0 d) : Keeps L d0 (Dev.commitDone d c r durationUs) :=
  .after hmask (Dev.commitDone_keeps0 d c r durationUs) hkeep

theorem Dev.ringCommit_keeps0 (readBackOk : Bool) (durationUs : Nat) (d : Dev) : Keeps 213610503 d (Dev.ringCommit readBackOk durationUs d) := by
  unfold Dev.ringCommit
  (try dsimp only); (repeat' split) <;> simp (maxSteps := 400000) (maxDischargeDepth := 99) +contextual [Keeps.foldl, Keeps.ite, Dev.draw]
@[simp] theorem Dev.ringCommit_keeps {L : Nat} {d0 : Dev} (readBackOk : Bool) (durationUs : Nat) (d : Dev) (hmask : 213610503 ||| L = L) (hkeep : Keeps L d0 d) : Keeps L d0 (Dev.ringCommit readBackOk durationUs d) :=
  .after hmask (Dev.ringCommit_keeps0 readBackOk durationUs d) hkeep

theorem Dev.closeLast_keeps0 (d : Dev) (e : EntityId) : Keeps 138309670 d (Dev.closeLast d e) := by
  unfold Dev.closeLast
  (try dsimp only); (repeat' split) <;> simp (maxSteps := 400000) (maxDischargeDepth := 99) +contextual [Keeps.foldl, Keeps.ite, Dev.draw]
@[simp] theorem Dev.closeLast_keeps {L : Nat} {d0 : Dev} (d : Dev) (e : EntityId) (hmask : 138309670 ||| L = L) (hkeep : Keeps L d0 d) : Keeps L d0 (Dev.closeLast d e) :=
  .after hmask (Dev.closeLast_keeps0 d e) hkeep

theorem Dev.finalRing_keeps0 (d : Dev) (event : Nat) : Keeps 213872679 d (Dev.finalRing d event).2 := by
  unfold Dev.finalRing
  first
    | (simp (maxSteps := 400000) (maxDischargeDepth := 99) +contextual [Keeps.foldl, Keeps.ite, Dev.draw]; done)
    | (try dsimp only); (repeat' split) <;> (simp (maxSteps := 400000) (maxDischargeDepth := 99) +contextual [Keeps.foldl, Keeps.ite, Dev.draw]; done)
@[simp] theorem Dev.finalRing_keeps {L : Nat} {d0 : Dev} (d : Dev) (event : Nat) (hmask : 213872679 ||| L = L) (hkeep : Keeps L d0 d) : Keeps L d0 (Dev.finalRing d event).2 :=
  .after hmask (Dev.finalRing_keeps0 d event) hkeep

theorem Dev.finalCommit_keeps0 (d : Dev) : Keeps 213872679 d (Dev.finalCommit d) := by
  unfold Dev.finalCommit
  (try dsimp only); (repeat' split) <;> simp (maxSteps := 400000) (maxDischargeDepth := 99) +contextual [Keeps.foldl, Keeps.ite, Dev.draw]
@[simp] theorem Dev.finalCommit_keeps {L : Nat} {d0 : Dev} (d : Dev) (hmask : 213872679 ||| L = L) (hkeep : Keeps L d0 d) : Keeps L d0 (Dev.finalCommit d) :=
  .after hmask (Dev.finalCommit_keeps0 d) hkeep

theorem hallReading_keeps0 (mT : Nat) (d : Dev) : Keeps 8921092 d (hallReading mT d) := by
  unfold hallReading
  simp (maxSteps := 400000) (maxDischargeDepth := 99) +contextual [Keeps.foldl, Keeps.ite, Dev.draw]
@[simp] theorem hallReading_keeps {L : Nat} {d0 : Dev} (mT : Nat) (d : Dev) (hmask : 8921092 ||| L = L) (hkeep : Keeps L d0 d) : Keeps L d0 (hallReading mT d) :=
  .after hmask (hallReading_keeps0 mT d) hkeep

theorem Dev.setTariff_keeps0 (d : Dev) (f : Tariff → Tariff) : Keeps 1048576 d (Dev.setTariff d f) := by
  unfold Dev.setTariff
  simp (maxSteps := 400000) (maxDischargeDepth := 99) +contextual [Keeps.foldl, Keeps.ite, Dev.draw]
@[simp] theorem Dev.setTariff_keeps {L : Nat} {d0 : Dev} (d : Dev) (f : Tariff → Tariff) (hmask : 1048576 ||| L = L) (hkeep : Keeps L d0 d) : Keeps L d0 (Dev.setTariff d f) :=
  .after hmask (Dev.setTariff_keeps0 d f) hkeep

theorem Dev.putLegal_keeps0 (d : Dev) (k : Nat) (v : Val) : Keeps 1048580 d (Dev.putLegal d k v) := by
  unfold Dev.putLegal
  simp (maxSteps := 400000) (maxDischargeDepth := 99) +contextual [Keeps.foldl, Keeps.ite, Dev.draw]
@[simp] theorem Dev.putLegal_keeps {L : Nat} {d0 : Dev} (d : Dev) (k : Nat) (v : Val) (hmask : 1048580 ||| L = L) (hkeep : Keeps L d0 d) : Keeps L d0 (Dev.putLegal d k v) :=
  .after hmask (Dev.putLegal_keeps0 d k v) hkeep

theorem Dev.refreshDay_keeps0 (d : Dev) (loc : Nat) : Keeps 524288 d (Dev.refreshDay d loc) := by
  unfold Dev.refreshDay
  simp (maxSteps := 400000) (maxDischargeDepth := 99) +contextual [Keeps.foldl, Keeps.ite, Dev.draw]
@[simp] theorem Dev.refreshDay_keeps {L : Nat} {d0 : Dev} (d : Dev) (loc : Nat) (hmask : 524288 ||| L = L) (hkeep : Keeps L d0 d) : Keeps L d0 (Dev.refreshDay d loc) :=
  .after hmask (Dev.refreshDay_keeps0 d loc) hkeep

theorem Dev.journal_keeps0 (d : Dev) (s : BoundSet) (step : Nat) (done : Bool) (reason data1 data2 : Nat) : Keeps 1048576 d (Dev.journal d s step done reason data1 data2) := by
  unfold Dev.journal
  simp (maxSteps := 400000) (maxDischargeDepth := 99) +contextual [Keeps.foldl, Keeps.ite, Dev.draw]
@[simp] theorem Dev.journal_keeps {L : Nat} {d0 : Dev} (d : Dev) (s : BoundSet) (step : Nat) (done : Bool) (reason data1 data2 : Nat) (hmask : 1048576 ||| L = L) (hkeep : Keeps L d0 d) : Keeps L d0 (Dev.journal d s step done reason data1 data2) :=
  .after hmask (Dev.journal_keeps0 d s step done reason data1 data2) hkeep

@[simp] theorem Dev.journaled_keeps {L : Nat} {d0 : Dev} (d : Dev) (s : BoundSet) (step reason data1 data2 : Nat) (f : Dev → Dev)
    (hmask : 1572868 ||| L = L) (hkeep : Keeps L d0 d) (hf : ∀ e, Keeps L d0 e → Keeps L d0 (f e)) :
    Keeps L d0 (d.journaled s step reason data1 data2 f) := by
  have a := or_mono (M := 1572868) (A := 1048576) (by decide) hmask
  have b := or_mono (M := 1572868) (A := 524288) (by decide) hmask
  have c := or_mono (M := 1572868) (A := 1048580) (by decide) hmask
  have h1 := hf _ (Dev.journal_keeps d s step false reason data1 data2 a hkeep)
  have h2 := Dev.journal_keeps _ s step true reason data1 data2 a h1
  unfold Dev.journaled
  dsimp only
  split <;> simp (maxDischargeDepth := 99) [*]

theorem Dev.profileClose_keeps0 (d : Dev) (s : BoundSet) (ents : Vector Entity 9) : Keeps 1638404 d (Dev.profileClose d s ents) := by
  unfold Dev.profileClose
  simp (maxSteps := 400000) (maxDischargeDepth := 99) +contextual [Keeps.foldl, Keeps.ite, Dev.draw]
@[simp] theorem Dev.profileClose_keeps {L : Nat} {d0 : Dev} (d : Dev) (s : BoundSet) (ents : Vector Entity 9) (hmask : 1638404 ||| L = L) (hkeep : Keeps L d0 d) : Keeps L d0 (Dev.profileClose d s ents) :=
  .after hmask (Dev.profileClose_keeps0 d s ents) hkeep

theorem Dev.restartRun_keeps0 (d : Dev) : Keeps 1572864 d (Dev.restartRun d) := by
  unfold Dev.restartRun
  simp (maxSteps := 400000) (maxDischargeDepth := 99) +contextual [Keeps.foldl, Keeps.ite, Dev.draw]
@[simp] theorem Dev.restartRun_keeps {L : Nat} {d0 : Dev} (d : Dev) (hmask : 1572864 ||| L = L) (hkeep : Keeps L d0 d) : Keeps L d0 (Dev.restartRun d) :=
  .after hmask (Dev.restartRun_keeps0 d) hkeep

theorem Dev.closeWindow_keeps0 (d : Dev) (w : List SubInterval) (flags stamp : Nat) : Keeps 1572868 d (Dev.closeWindow d w flags stamp) := by
  unfold Dev.closeWindow
  simp (maxSteps := 400000) (maxDischargeDepth := 99) +contextual [Keeps.foldl, Keeps.ite, Dev.draw]
@[simp] theorem Dev.closeWindow_keeps {L : Nat} {d0 : Dev} (d : Dev) (w : List SubInterval) (flags stamp : Nat) (hmask : 1572868 ||| L = L) (hkeep : Keeps L d0 d) : Keeps L d0 (Dev.closeWindow d w flags stamp) :=
  .after hmask (Dev.closeWindow_keeps0 d w flags stamp) hkeep

theorem Dev.demandClose_keeps0 (d : Dev) (s : BoundSet) (ents : Vector Entity 9) : Keeps 1572868 d (Dev.demandClose d s ents) := by
  unfold Dev.demandClose
  simp (maxSteps := 400000) (maxDischargeDepth := 99) +contextual [Keeps.foldl, Keeps.ite, Dev.draw]
@[simp] theorem Dev.demandClose_keeps {L : Nat} {d0 : Dev} (d : Dev) (s : BoundSet) (ents : Vector Entity 9) (hmask : 1572868 ||| L = L) (hkeep : Keeps L d0 d) : Keeps L d0 (Dev.demandClose d s ents) :=
  .after hmask (Dev.demandClose_keeps0 d s ents) hkeep

theorem Dev.activateCalendar_keeps0 (d : Dev) : Keeps 1048580 d (Dev.activateCalendar d) := by
  unfold Dev.activateCalendar
  simp (maxSteps := 400000) (maxDischargeDepth := 99) +contextual [Keeps.foldl, Keeps.ite, Dev.draw]
@[simp] theorem Dev.activateCalendar_keeps {L : Nat} {d0 : Dev} (d : Dev) (hmask : 1048580 ||| L = L) (hkeep : Keeps L d0 d) : Keeps L d0 (Dev.activateCalendar d) :=
  .after hmask (Dev.activateCalendar_keeps0 d) hkeep

theorem Dev.activation_keeps0 (d : Dev) (s : BoundSet) : Keeps 1581060 d (Dev.activation d s) := by
  unfold Dev.activation
  simp (maxSteps := 400000) (maxDischargeDepth := 99) +contextual [Keeps.foldl, Keeps.ite, Dev.draw]
@[simp] theorem Dev.activation_keeps {L : Nat} {d0 : Dev} (d : Dev) (s : BoundSet) (hmask : 1581060 ||| L = L) (hkeep : Keeps L d0 d) : Keeps L d0 (Dev.activation d s) :=
  .after hmask (Dev.activation_keeps0 d s) hkeep

theorem Dev.tariffSwitch_keeps0 (d : Dev) (s : BoundSet) (new : Nat) : Keeps 1572868 d (Dev.tariffSwitch d s new) := by
  unfold Dev.tariffSwitch
  simp (maxSteps := 400000) (maxDischargeDepth := 99) +contextual [Keeps.foldl, Keeps.ite, Dev.draw]
@[simp] theorem Dev.tariffSwitch_keeps {L : Nat} {d0 : Dev} (d : Dev) (s : BoundSet) (new : Nat) (hmask : 1572868 ||| L = L) (hkeep : Keeps L d0 d) : Keeps L d0 (Dev.tariffSwitch d s new) :=
  .after hmask (Dev.tariffSwitch_keeps0 d s new) hkeep

theorem Dev.billingClose_keeps0 (d : Dev) (s : BoundSet) (ents : Vector Entity 9) (commit : Nat) : Keeps 1572868 d (Dev.billingClose d s ents commit) := by
  unfold Dev.billingClose
  simp (maxSteps := 400000) (maxDischargeDepth := 99) +contextual [Keeps.foldl, Keeps.ite, Dev.draw]
@[simp] theorem Dev.billingClose_keeps {L : Nat} {d0 : Dev} (d : Dev) (s : BoundSet) (ents : Vector Entity 9) (commit : Nat) (hmask : 1572868 ||| L = L) (hkeep : Keeps L d0 d) : Keeps L d0 (Dev.billingClose d s ents commit) :=
  .after hmask (Dev.billingClose_keeps0 d s ents commit) hkeep

theorem Dev.runSet_keeps0 (d : Dev) (s : BoundSet) : Keeps 1646596 d (Dev.runSet d s) := by
  unfold Dev.runSet
  simp (maxSteps := 400000) (maxDischargeDepth := 99) +contextual [Keeps.foldl, Keeps.ite, Dev.draw]
@[simp] theorem Dev.runSet_keeps {L : Nat} {d0 : Dev} (d : Dev) (s : BoundSet) (hmask : 1646596 ||| L = L) (hkeep : Keeps L d0 d) : Keeps L d0 (Dev.runSet d s) :=
  .after hmask (Dev.runSet_keeps0 d s) hkeep

theorem Dev.addPending_keeps0 (d : Dev) : Keeps 524288 d (Dev.addPending d) := by
  unfold Dev.addPending
  simp (maxSteps := 400000) (maxDischargeDepth := 99) +contextual [Keeps.foldl, Keeps.ite, Dev.draw]
@[simp] theorem Dev.addPending_keeps {L : Nat} {d0 : Dev} (d : Dev) (hmask : 524288 ||| L = L) (hkeep : Keeps L d0 d) : Keeps L d0 (Dev.addPending d) :=
  .after hmask (Dev.addPending_keeps0 d) hkeep

theorem Dev.addSet_keeps0 (d : Dev) (s : BoundSet) : Keeps 1048576 d (Dev.addSet d s) := by
  unfold Dev.addSet
  simp (maxSteps := 400000) (maxDischargeDepth := 99) +contextual [Keeps.foldl, Keeps.ite, Dev.draw]
@[simp] theorem Dev.addSet_keeps {L : Nat} {d0 : Dev} (d : Dev) (s : BoundSet) (hmask : 1048576 ||| L = L) (hkeep : Keeps L d0 d) : Keeps L d0 (Dev.addSet d s) :=
  .after hmask (Dev.addSet_keeps0 d s) hkeep

theorem Dev.boundarySet_keeps0 (d : Dev) : Keeps 70852612 d (Dev.boundarySet d) := by
  unfold Dev.boundarySet
  (try dsimp only); (repeat' split) <;> simp (maxSteps := 400000) (maxDischargeDepth := 99) +contextual [Keeps.foldl, Keeps.ite, Dev.draw]
@[simp] theorem Dev.boundarySet_keeps {L : Nat} {d0 : Dev} (d : Dev) (hmask : 70852612 ||| L = L) (hkeep : Keeps L d0 d) : Keeps L d0 (Dev.boundarySet d) :=
  .after hmask (Dev.boundarySet_keeps0 d) hkeep

theorem Dev.lateActivation_keeps0 (d : Dev) : Keeps 1056772 d (Dev.lateActivation d) := by
  unfold Dev.lateActivation
  simp (maxSteps := 400000) (maxDischargeDepth := 99) +contextual [Keeps.foldl, Keeps.ite, Dev.draw]
@[simp] theorem Dev.lateActivation_keeps {L : Nat} {d0 : Dev} (d : Dev) (hmask : 1056772 ||| L = L) (hkeep : Keeps L d0 d) : Keeps L d0 (Dev.lateActivation d) :=
  .after hmask (Dev.lateActivation_keeps0 d) hkeep

theorem Dev.loseGrid_keeps0 (d : Dev) : Keeps 1572864 d (Dev.loseGrid d) := by
  unfold Dev.loseGrid
  simp (maxSteps := 400000) (maxDischargeDepth := 99) +contextual [Keeps.foldl, Keeps.ite, Dev.draw]
@[simp] theorem Dev.loseGrid_keeps {L : Nat} {d0 : Dev} (d : Dev) (hmask : 1572864 ||| L = L) (hkeep : Keeps L d0 d) : Keeps L d0 (Dev.loseGrid d) :=
  .after hmask (Dev.loseGrid_keeps0 d) hkeep

theorem Dev.boundariesOf_keeps0 (d : Dev) (utc : Nat) : Keeps 1048576 d (Dev.boundariesOf d utc) := by
  unfold Dev.boundariesOf
  simp (maxSteps := 400000) (maxDischargeDepth := 99) +contextual [Keeps.foldl, Keeps.ite, Dev.draw]
@[simp] theorem Dev.boundariesOf_keeps {L : Nat} {d0 : Dev} (d : Dev) (utc : Nat) (hmask : 1048576 ||| L = L) (hkeep : Keeps L d0 d) : Keeps L d0 (Dev.boundariesOf d utc) :=
  .after hmask (Dev.boundariesOf_keeps0 d utc) hkeep

theorem Dev.runSkipped_keeps0 (d : Dev) (after upTo flags : Nat) (late : Bool) (ents : Vector Entity 9) (commit : Nat) : Keeps 1794052 d (Dev.runSkipped d after upTo flags late ents commit) := by
  unfold Dev.runSkipped
  extract_lets at_ la lu step g d1 len g2 d2 d3 t due runs d4 src d5 stamp d6 la2 lu2 sched closes d7 d8
  have h_d1 : Keeps 1794052 d d1 := by unfold d1; first | (simp (maxDischargeDepth := 99) +contextual [*, Keeps.foldl, Keeps.ite]; done) | (repeat' split) <;> (simp (maxDischargeDepth := 99) +contextual [*, Keeps.foldl, Keeps.ite]; done) | (refine Keeps.foldl _ (by first | assumption | simp (maxDischargeDepth := 99) +contextual [*, Keeps.foldl, Keeps.ite]) fun e x he => ?_; first | (simp (maxDischargeDepth := 99) +contextual [*, Keeps.foldl, Keeps.ite]; done) | (repeat' split) <;> (simp (maxDischargeDepth := 99) +contextual [*, Keeps.foldl, Keeps.ite]; done))
  clear_value d1
  have h_d2 : Keeps 1794052 d d2 := by unfold d2; first | (simp (maxDischargeDepth := 99) +contextual [*, Keeps.foldl, Keeps.ite]; done) | (repeat' split) <;> (simp (maxDischargeDepth := 99) +contextual [*, Keeps.foldl, Keeps.ite]; done) | (refine Keeps.foldl _ (by first | assumption | simp (maxDischargeDepth := 99) +contextual [*, Keeps.foldl, Keeps.ite]) fun e x he => ?_; first | (simp (maxDischargeDepth := 99) +contextual [*, Keeps.foldl, Keeps.ite]; done) | (repeat' split) <;> (simp (maxDischargeDepth := 99) +contextual [*, Keeps.foldl, Keeps.ite]; done))
  clear_value d2
  have h_d3 : Keeps 1794052 d d3 := by unfold d3; first | (simp (maxDischargeDepth := 99) +contextual [*, Keeps.foldl, Keeps.ite]; done) | (repeat' split) <;> (simp (maxDischargeDepth := 99) +contextual [*, Keeps.foldl, Keeps.ite]; done) | (refine Keeps.foldl _ (by first | assumption | simp (maxDischargeDepth := 99) +contextual [*, Keeps.foldl, Keeps.ite]) fun e x he => ?_; first | (simp (maxDischargeDepth := 99) +contextual [*, Keeps.foldl, Keeps.ite]; done) | (repeat' split) <;> (simp (maxDischargeDepth := 99) +contextual [*, Keeps.foldl, Keeps.ite]; done))
  clear_value d3
  have h_d4 : Keeps 1794052 d d4 := by unfold d4; first | (simp (maxDischargeDepth := 99) +contextual [*, Keeps.foldl, Keeps.ite]; done) | (repeat' split) <;> (simp (maxDischargeDepth := 99) +contextual [*, Keeps.foldl, Keeps.ite]; done) | (refine Keeps.foldl _ (by first | assumption | simp (maxDischargeDepth := 99) +contextual [*, Keeps.foldl, Keeps.ite]) fun e x he => ?_; first | (simp (maxDischargeDepth := 99) +contextual [*, Keeps.foldl, Keeps.ite]; done) | (repeat' split) <;> (simp (maxDischargeDepth := 99) +contextual [*, Keeps.foldl, Keeps.ite]; done))
  clear_value d4
  have h_d5 : Keeps 1794052 d d5 := by unfold d5; first | (simp (maxDischargeDepth := 99) +contextual [*, Keeps.foldl, Keeps.ite]; done) | (repeat' split) <;> (simp (maxDischargeDepth := 99) +contextual [*, Keeps.foldl, Keeps.ite]; done) | (refine Keeps.foldl _ (by first | assumption | simp (maxDischargeDepth := 99) +contextual [*, Keeps.foldl, Keeps.ite]) fun e x he => ?_; first | (simp (maxDischargeDepth := 99) +contextual [*, Keeps.foldl, Keeps.ite]; done) | (repeat' split) <;> (simp (maxDischargeDepth := 99) +contextual [*, Keeps.foldl, Keeps.ite]; done))
  clear_value d5
  have h_d6 : Keeps 1794052 d d6 := by unfold d6; first | (simp (maxDischargeDepth := 99) +contextual [*, Keeps.foldl, Keeps.ite]; done) | (repeat' split) <;> (simp (maxDischargeDepth := 99) +contextual [*, Keeps.foldl, Keeps.ite]; done) | (refine Keeps.foldl _ (by first | assumption | simp (maxDischargeDepth := 99) +contextual [*, Keeps.foldl, Keeps.ite]) fun e x he => ?_; first | (simp (maxDischargeDepth := 99) +contextual [*, Keeps.foldl, Keeps.ite]; done) | (repeat' split) <;> (simp (maxDischargeDepth := 99) +contextual [*, Keeps.foldl, Keeps.ite]; done))
  clear_value d6
  have h_d7 : Keeps 1794052 d d7 := by unfold d7; first | (simp (maxDischargeDepth := 99) +contextual [*, Keeps.foldl, Keeps.ite]; done) | (repeat' split) <;> (simp (maxDischargeDepth := 99) +contextual [*, Keeps.foldl, Keeps.ite]; done) | (refine Keeps.foldl _ (by first | assumption | simp (maxDischargeDepth := 99) +contextual [*, Keeps.foldl, Keeps.ite]) fun e x he => ?_; first | (simp (maxDischargeDepth := 99) +contextual [*, Keeps.foldl, Keeps.ite]; done) | (repeat' split) <;> (simp (maxDischargeDepth := 99) +contextual [*, Keeps.foldl, Keeps.ite]; done))
  clear_value d7
  have h_d8 : Keeps 1794052 d d8 := by unfold d8; first | (simp (maxDischargeDepth := 99) +contextual [*, Keeps.foldl, Keeps.ite]; done) | (repeat' split) <;> (simp (maxDischargeDepth := 99) +contextual [*, Keeps.foldl, Keeps.ite]; done) | (refine Keeps.foldl _ (by first | assumption | simp (maxDischargeDepth := 99) +contextual [*, Keeps.foldl, Keeps.ite]) fun e x he => ?_; first | (simp (maxDischargeDepth := 99) +contextual [*, Keeps.foldl, Keeps.ite]; done) | (repeat' split) <;> (simp (maxDischargeDepth := 99) +contextual [*, Keeps.foldl, Keeps.ite]; done))
  clear_value d8
  first | (simp (maxDischargeDepth := 99) +contextual [*, Keeps.foldl, Keeps.ite]; done) | (repeat' split) <;> (simp (maxDischargeDepth := 99) +contextual [*, Keeps.foldl, Keeps.ite]; done) | (refine Keeps.foldl _ (by first | assumption | simp (maxDischargeDepth := 99) +contextual [*, Keeps.foldl, Keeps.ite]) fun e x he => ?_; first | (simp (maxDischargeDepth := 99) +contextual [*, Keeps.foldl, Keeps.ite]; done) | (repeat' split) <;> (simp (maxDischargeDepth := 99) +contextual [*, Keeps.foldl, Keeps.ite]; done))
@[simp] theorem Dev.runSkipped_keeps {L : Nat} {d0 : Dev} (d : Dev) (after upTo flags : Nat) (late : Bool) (ents : Vector Entity 9) (commit : Nat) (hmask : 1794052 ||| L = L) (hkeep : Keeps L d0 d) : Keeps L d0 (Dev.runSkipped d after upTo flags late ents commit) :=
  .after hmask (Dev.runSkipped_keeps0 d after upTo flags late ents commit) hkeep

theorem Dev.secondReached_keeps0 (d : Dev) : Keeps 1794052 d (Dev.secondReached d) := by
  unfold Dev.secondReached
  simp (maxSteps := 400000) (maxDischargeDepth := 99) +contextual [Keeps.foldl, Keeps.ite, Dev.draw]
@[simp] theorem Dev.secondReached_keeps {L : Nat} {d0 : Dev} (d : Dev) (hmask : 1794052 ||| L = L) (hkeep : Keeps L d0 d) : Keeps L d0 (Dev.secondReached d) :=
  .after hmask (Dev.secondReached_keeps0 d) hkeep

theorem Dev.gridCrossing_keeps0 (d : Dev) (g : Nat) (valid : Bool) : Keeps 1056772 d (Dev.gridCrossing d g valid) := by
  unfold Dev.gridCrossing
  split
  · exact Keeps.refl _ _
  · extract_lets now sec cycles d1
    have h1 : Keeps 1056772 d d1 := by unfold d1; (repeat' split) <;> simp (maxDischargeDepth := 99)
    clear_value d1
    (repeat' split) <;> simp (maxDischargeDepth := 99) [h1]
@[simp] theorem Dev.gridCrossing_keeps {L : Nat} {d0 : Dev} (d : Dev) (g : Nat) (valid : Bool) (hmask : 1056772 ||| L = L) (hkeep : Keeps L d0 d) : Keeps L d0 (Dev.gridCrossing d g valid) :=
  .after hmask (Dev.gridCrossing_keeps0 d g valid) hkeep

theorem Dev.calendarCommitted_keeps0 (d : Dev) : Keeps 1056772 d (Dev.calendarCommitted d) := by
  unfold Dev.calendarCommitted
  simp (maxSteps := 400000) (maxDischargeDepth := 99) +contextual [Keeps.foldl, Keeps.ite, Dev.draw]
@[simp] theorem Dev.calendarCommitted_keeps {L : Nat} {d0 : Dev} (d : Dev) (hmask : 1056772 ||| L = L) (hkeep : Keeps L d0 d) : Keeps L d0 (Dev.calendarCommitted d) :=
  .after hmask (Dev.calendarCommitted_keeps0 d) hkeep

theorem Dev.demandCommitted_keeps0 (d : Dev) : Keeps 1572864 d (Dev.demandCommitted d) := by
  unfold Dev.demandCommitted
  simp (maxSteps := 400000) (maxDischargeDepth := 99) +contextual [Keeps.foldl, Keeps.ite, Dev.draw]
@[simp] theorem Dev.demandCommitted_keeps {L : Nat} {d0 : Dev} (d : Dev) (hmask : 1572864 ||| L = L) (hkeep : Keeps L d0 d) : Keeps L d0 (Dev.demandCommitted d) :=
  .after hmask (Dev.demandCommitted_keeps0 d) hkeep

theorem Dev.billingCommitted_keeps0 (d : Dev) (oldInterval : Nat) : Keeps 1048576 d (Dev.billingCommitted d oldInterval) := by
  unfold Dev.billingCommitted
  simp (maxSteps := 400000) (maxDischargeDepth := 99) +contextual [Keeps.foldl, Keeps.ite, Dev.draw]
@[simp] theorem Dev.billingCommitted_keeps {L : Nat} {d0 : Dev} (d : Dev) (oldInterval : Nat) (hmask : 1048576 ||| L = L) (hkeep : Keeps L d0 d) : Keeps L d0 (Dev.billingCommitted d oldInterval) :=
  .after hmask (Dev.billingCommitted_keeps0 d oldInterval) hkeep

theorem Dev.setUtc_keeps0 (d : Dev) (us : Nat) : Keeps 40 d (Dev.setUtc d us) := by
  unfold Dev.setUtc
  simp (maxSteps := 400000) (maxDischargeDepth := 99) +contextual [Keeps.foldl, Keeps.ite, Dev.draw]
@[simp] theorem Dev.setUtc_keeps {L : Nat} {d0 : Dev} (d : Dev) (us : Nat) (hmask : 40 ||| L = L) (hkeep : Keeps L d0 d) : Keeps L d0 (Dev.setUtc d us) :=
  .after hmask (Dev.setUtc_keeps0 d us) hkeep

theorem Dev.setTime_keeps0 (d : Dev) (new : Int) : Keeps 8 d (Dev.setTime d new) := by
  unfold Dev.setTime
  simp (maxSteps := 400000) (maxDischargeDepth := 99) +contextual [Keeps.foldl, Keeps.ite, Dev.draw]
@[simp] theorem Dev.setTime_keeps {L : Nat} {d0 : Dev} (d : Dev) (new : Int) (hmask : 8 ||| L = L) (hkeep : Keeps L d0 d) : Keeps L d0 (Dev.setTime d new) :=
  .after hmask (Dev.setTime_keeps0 d new) hkeep

theorem Dev.stepClock_keeps0 (d : Dev) (x : Int) : Keeps 1794092 d (Dev.stepClock d x) := by
  unfold Dev.stepClock
  extract_lets old new stamp was high src d1 d2 d3 fl d4 d5 d6
  have h_d1 : Keeps 1794092 d d1 := by unfold d1; first | (simp (maxDischargeDepth := 99) +contextual [*, Keeps.foldl, Keeps.ite]; done) | (repeat' split) <;> (simp (maxDischargeDepth := 99) +contextual [*, Keeps.foldl, Keeps.ite]; done) | (refine Keeps.foldl _ (by first | assumption | simp (maxDischargeDepth := 99) +contextual [*, Keeps.foldl, Keeps.ite]) fun e x he => ?_; first | (simp (maxDischargeDepth := 99) +contextual [*, Keeps.foldl, Keeps.ite]; done) | (repeat' split) <;> (simp (maxDischargeDepth := 99) +contextual [*, Keeps.foldl, Keeps.ite]; done))
  clear_value d1
  have h_d2 : Keeps 1794092 d d2 := by unfold d2; first | (simp (maxDischargeDepth := 99) +contextual [*, Keeps.foldl, Keeps.ite]; done) | (repeat' split) <;> (simp (maxDischargeDepth := 99) +contextual [*, Keeps.foldl, Keeps.ite]; done) | (refine Keeps.foldl _ (by first | assumption | simp (maxDischargeDepth := 99) +contextual [*, Keeps.foldl, Keeps.ite]) fun e x he => ?_; first | (simp (maxDischargeDepth := 99) +contextual [*, Keeps.foldl, Keeps.ite]; done) | (repeat' split) <;> (simp (maxDischargeDepth := 99) +contextual [*, Keeps.foldl, Keeps.ite]; done))
  clear_value d2
  have h_d3 : Keeps 1794092 d d3 := by unfold d3; first | (simp (maxDischargeDepth := 99) +contextual [*, Keeps.foldl, Keeps.ite]; done) | (repeat' split) <;> (simp (maxDischargeDepth := 99) +contextual [*, Keeps.foldl, Keeps.ite]; done) | (refine Keeps.foldl _ (by first | assumption | simp (maxDischargeDepth := 99) +contextual [*, Keeps.foldl, Keeps.ite]) fun e x he => ?_; first | (simp (maxDischargeDepth := 99) +contextual [*, Keeps.foldl, Keeps.ite]; done) | (repeat' split) <;> (simp (maxDischargeDepth := 99) +contextual [*, Keeps.foldl, Keeps.ite]; done))
  clear_value d3
  refine Keeps.ite ?_ (Keeps.ite ?_ ?_)
  · simp (maxDischargeDepth := 99) +contextual [*, Keeps.foldl, Keeps.ite]
  · simp (maxDischargeDepth := 99) +contextual [*, Keeps.foldl, Keeps.ite]
  · have h_d4 : Keeps 1794092 d d4 := by unfold d4; first | (simp (maxDischargeDepth := 99) +contextual [*, Keeps.foldl, Keeps.ite]; done) | (repeat' split) <;> (simp (maxDischargeDepth := 99) +contextual [*, Keeps.foldl, Keeps.ite]; done) | (refine Keeps.foldl _ (by first | assumption | simp (maxDischargeDepth := 99) +contextual [*, Keeps.foldl, Keeps.ite]) fun e x he => ?_; first | (simp (maxDischargeDepth := 99) +contextual [*, Keeps.foldl, Keeps.ite]; done) | (repeat' split) <;> (simp (maxDischargeDepth := 99) +contextual [*, Keeps.foldl, Keeps.ite]; done))
    clear_value d4
    have h_d5 : Keeps 1794092 d d5 := by unfold d5; first | (simp (maxDischargeDepth := 99) +contextual [*, Keeps.foldl, Keeps.ite]; done) | (repeat' split) <;> (simp (maxDischargeDepth := 99) +contextual [*, Keeps.foldl, Keeps.ite]; done) | (refine Keeps.foldl _ (by first | assumption | simp (maxDischargeDepth := 99) +contextual [*, Keeps.foldl, Keeps.ite]) fun e x he => ?_; first | (simp (maxDischargeDepth := 99) +contextual [*, Keeps.foldl, Keeps.ite]; done) | (repeat' split) <;> (simp (maxDischargeDepth := 99) +contextual [*, Keeps.foldl, Keeps.ite]; done))
    clear_value d5
    have h_d6 : Keeps 1794092 d d6 := by unfold d6; first | (simp (maxDischargeDepth := 99) +contextual [*, Keeps.foldl, Keeps.ite]; done) | (repeat' split) <;> (simp (maxDischargeDepth := 99) +contextual [*, Keeps.foldl, Keeps.ite]; done) | (refine Keeps.foldl _ (by first | assumption | simp (maxDischargeDepth := 99) +contextual [*, Keeps.foldl, Keeps.ite]) fun e x he => ?_; first | (simp (maxDischargeDepth := 99) +contextual [*, Keeps.foldl, Keeps.ite]; done) | (repeat' split) <;> (simp (maxDischargeDepth := 99) +contextual [*, Keeps.foldl, Keeps.ite]; done))
    clear_value d6
    simp (maxDischargeDepth := 99) +contextual [*, Keeps.foldl, Keeps.ite]
@[simp] theorem Dev.stepClock_keeps {L : Nat} {d0 : Dev} (d : Dev) (x : Int) (hmask : 1794092 ||| L = L) (hkeep : Keeps L d0 d) : Keeps L d0 (Dev.stepClock d x) :=
  .after hmask (Dev.stepClock_keeps0 d x) hkeep

theorem Dev.clockStep_keeps0 (d : Dev) : Keeps 1794092 d (Dev.clockStep d) := by
  unfold Dev.clockStep
  (try dsimp only); (repeat' split) <;> simp (maxSteps := 400000) (maxDischargeDepth := 99) +contextual [Keeps.foldl, Keeps.ite, Dev.draw]
@[simp] theorem Dev.clockStep_keeps {L : Nat} {d0 : Dev} (d : Dev) (hmask : 1794092 ||| L = L) (hkeep : Keeps L d0 d) : Keeps L d0 (Dev.clockStep d) :=
  .after hmask (Dev.clockStep_keeps0 d) hkeep

theorem secondEvent_keeps0 (d : Dev) : Keeps 1794084 d (secondEvent d) := by
  unfold secondEvent
  simp (maxSteps := 400000) (maxDischargeDepth := 99) +contextual [Keeps.foldl, Keeps.ite, Dev.draw]
@[simp] theorem secondEvent_keeps {L : Nat} {d0 : Dev} (d : Dev) (hmask : 1794084 ||| L = L) (hkeep : Keeps L d0 d) : Keeps L d0 (secondEvent d) :=
  .after hmask (secondEvent_keeps0 d) hkeep

theorem resyncDone_keeps0 (c : Fin 58) (d : Dev) : Keeps 1794086 d (resyncDone c d) := by
  unfold resyncDone
  simp (maxSteps := 400000) (maxDischargeDepth := 99) +contextual [Keeps.foldl, Keeps.ite, Dev.draw]
@[simp] theorem resyncDone_keeps {L : Nat} {d0 : Dev} (c : Fin 58) (d : Dev) (hmask : 1794086 ||| L = L) (hkeep : Keeps L d0 d) : Keeps L d0 (resyncDone c d) :=
  .after hmask (resyncDone_keeps0 c d) hkeep

theorem closeNowServe_keeps0 (a : Ack) (u1_ : Val) (d : Dev) : Keeps 135270402 d (closeNowServe a u1_ d) := by
  unfold closeNowServe
  simp (maxSteps := 400000) (maxDischargeDepth := 99) +contextual [Keeps.foldl, Keeps.ite, Dev.draw]
@[simp] theorem closeNowServe_keeps {L : Nat} {d0 : Dev} (a : Ack) (u1_ : Val) (d : Dev) (hmask : 135270402 ||| L = L) (hkeep : Keeps L d0 d) : Keeps L d0 (closeNowServe a u1_ d) :=
  .after hmask (closeNowServe_keeps0 a u1_ d) hkeep

theorem setTimeServe_keeps0 (a : Ack) (v : Val) (d : Dev) : Keeps 134221838 d (setTimeServe a v d) := by
  unfold setTimeServe
  (try dsimp only); (repeat' split) <;> simp (maxSteps := 400000) (maxDischargeDepth := 99) +contextual [Keeps.foldl, Keeps.ite, Dev.draw]
@[simp] theorem setTimeServe_keeps {L : Nat} {d0 : Dev} (a : Ack) (v : Val) (d : Dev) (hmask : 134221838 ||| L = L) (hkeep : Keeps L d0 d) : Keeps L d0 (setTimeServe a v d) :=
  .after hmask (setTimeServe_keeps0 a v d) hkeep

end Sys2Proof.Machine
end

