-- ==== Sys2Proof/Laws/FramesCanopy.lean ====
section
/-! SUPPORT. What each function leaves alone: Canopy, tokens, legal commands and the vehicle. -/

set_option linter.unusedSimpArgs false
set_option linter.unusedTactic false
set_option linter.unreachableTactic false
set_option linter.unnecessarySeqFocus false

namespace Sys2Proof.Machine

theorem Dev.setCanopy_keeps0 (d : Dev) (f : Canopy → Canopy) : Keeps 33554432 d (Dev.setCanopy d f) := by
  unfold Dev.setCanopy
  simp (maxSteps := 400000) (maxDischargeDepth := 99) +contextual [Keeps.foldl, Keeps.ite, Dev.draw]
@[simp] theorem Dev.setCanopy_keeps {L : Nat} {d0 : Dev} (d : Dev) (f : Canopy → Canopy) (hmask : 33554432 ||| L = L) (hkeep : Keeps L d0 d) : Keeps L d0 (Dev.setCanopy d f) :=
  .after hmask (Dev.setCanopy_keeps0 d f) hkeep

theorem Dev.setNeigh_keeps0 (d : Dev) (n : Fin 128) (v : Option Neigh) : Keeps 33554432 d (Dev.setNeigh d n v) := by
  unfold Dev.setNeigh
  simp (maxSteps := 400000) (maxDischargeDepth := 99) +contextual [Keeps.foldl, Keeps.ite, Dev.draw]
@[simp] theorem Dev.setNeigh_keeps {L : Nat} {d0 : Dev} (d : Dev) (n : Fin 128) (v : Option Neigh) (hmask : 33554432 ||| L = L) (hkeep : Keeps L d0 d) : Keeps L d0 (Dev.setNeigh d n v) :=
  .after hmask (Dev.setNeigh_keeps0 d n v) hkeep

theorem Dev.modNeigh_keeps0 (d : Dev) (n : Fin 128) (f : Neigh → Neigh) : Keeps 33554432 d (Dev.modNeigh d n f) := by
  unfold Dev.modNeigh
  simp (maxSteps := 400000) (maxDischargeDepth := 99) +contextual [Keeps.foldl, Keeps.ite, Dev.draw]
@[simp] theorem Dev.modNeigh_keeps {L : Nat} {d0 : Dev} (d : Dev) (n : Fin 128) (f : Neigh → Neigh) (hmask : 33554432 ||| L = L) (hkeep : Keeps L d0 d) : Keeps L d0 (Dev.modNeigh d n f) :=
  .after hmask (Dev.modNeigh_keeps0 d n f) hkeep

theorem Dev.dropNeigh_keeps0 (d : Dev) (n : Fin 128) : Keeps 41947136 d (Dev.dropNeigh d n) := by
  unfold Dev.dropNeigh
  simp (maxSteps := 400000) (maxDischargeDepth := 99) +contextual [Keeps.foldl, Keeps.ite, Dev.draw]
@[simp] theorem Dev.dropNeigh_keeps {L : Nat} {d0 : Dev} (d : Dev) (n : Fin 128) (hmask : 41947136 ||| L = L) (hkeep : Keeps L d0 d) : Keeps L d0 (Dev.dropNeigh d n) :=
  .after hmask (Dev.dropNeigh_keeps0 d n) hkeep

theorem Dev.writeGcn_keeps0 (d : Dev) : Keeps 36 d (Dev.writeGcn d) := by
  unfold Dev.writeGcn
  simp (maxSteps := 400000) (maxDischargeDepth := 99) +contextual [Keeps.foldl, Keeps.ite, Dev.draw]
@[simp] theorem Dev.writeGcn_keeps {L : Nat} {d0 : Dev} (d : Dev) (hmask : 36 ||| L = L) (hkeep : Keeps L d0 d) : Keeps L d0 (Dev.writeGcn d) :=
  .after hmask (Dev.writeGcn_keeps0 d) hkeep

theorem Dev.latchCanopy_keeps0 (d : Dev) : Keeps 33554432 d (Dev.latchCanopy d) := by
  unfold Dev.latchCanopy
  simp (maxSteps := 400000) (maxDischargeDepth := 99) +contextual [Keeps.foldl, Keeps.ite, Dev.draw]
@[simp] theorem Dev.latchCanopy_keeps {L : Nat} {d0 : Dev} (d : Dev) (hmask : 33554432 ||| L = L) (hkeep : Keeps L d0 d) : Keeps L d0 (Dev.latchCanopy d) :=
  .after hmask (Dev.latchCanopy_keeps0 d) hkeep

theorem Dev.canopyLeave_keeps0 (d : Dev) (next : NodeState) : Keeps 41947172 d (Dev.canopyLeave d next) := by
  unfold Dev.canopyLeave
  simp (maxSteps := 400000) (maxDischargeDepth := 99) +contextual [Keeps.foldl, Keeps.ite, Dev.draw]
@[simp] theorem Dev.canopyLeave_keeps {L : Nat} {d0 : Dev} (d : Dev) (next : NodeState) (hmask : 41947172 ||| L = L) (hkeep : Keeps L d0 d) : Keeps L d0 (Dev.canopyLeave d next) :=
  .after hmask (Dev.canopyLeave_keeps0 d next) hkeep

theorem Dev.takeGcn_keeps0 (d : Dev) (g : Nat) : Keeps 33554468 d (Dev.takeGcn d g) := by
  unfold Dev.takeGcn
  simp (maxSteps := 400000) (maxDischargeDepth := 99) +contextual [Keeps.foldl, Keeps.ite, Dev.draw]
@[simp] theorem Dev.takeGcn_keeps {L : Nat} {d0 : Dev} (d : Dev) (g : Nat) (hmask : 33554468 ||| L = L) (hkeep : Keeps L d0 d) : Keeps L d0 (Dev.takeGcn d g) :=
  .after hmask (Dev.takeGcn_keeps0 d g) hkeep

theorem Dev.networkCrossing_keeps0 (d : Dev) : Keeps 59781156 d (Dev.networkCrossing d) := by
  unfold Dev.networkCrossing
  refine Keeps.ite (Keeps.refl _ _) ?_
  extract_lets d1 d2 d3 d4 src d5
  have h_d1 : Keeps 59781156 d d1 := by unfold d1; first | (simp (maxDischargeDepth := 99) +contextual [*, Keeps.foldl, Keeps.ite]; done) | (repeat' split) <;> (simp (maxDischargeDepth := 99) +contextual [*, Keeps.foldl, Keeps.ite]; done) | (refine Keeps.foldl _ (by first | assumption | simp (maxDischargeDepth := 99) +contextual [*, Keeps.foldl, Keeps.ite]) fun e x he => ?_; first | (simp (maxDischargeDepth := 99) +contextual [*, Keeps.foldl, Keeps.ite]; done) | (repeat' split) <;> (simp (maxDischargeDepth := 99) +contextual [*, Keeps.foldl, Keeps.ite]; done))
  clear_value d1
  have h_d2 : Keeps 59781156 d d2 := by unfold d2; first | (simp (maxDischargeDepth := 99) +contextual [*, Keeps.foldl, Keeps.ite]; done) | (repeat' split) <;> (simp (maxDischargeDepth := 99) +contextual [*, Keeps.foldl, Keeps.ite]; done) | (refine Keeps.foldl _ (by first | assumption | simp (maxDischargeDepth := 99) +contextual [*, Keeps.foldl, Keeps.ite]) fun e x he => ?_; first | (simp (maxDischargeDepth := 99) +contextual [*, Keeps.foldl, Keeps.ite]; done) | (repeat' split) <;> (simp (maxDischargeDepth := 99) +contextual [*, Keeps.foldl, Keeps.ite]; done))
  clear_value d2
  refine Keeps.ite ?_ ?_
  · simp (maxDischargeDepth := 99) +contextual [*, Keeps.foldl, Keeps.ite]
  · have h_d3 : Keeps 59781156 d d3 := by unfold d3; first | (simp (maxDischargeDepth := 99) +contextual [*, Keeps.foldl, Keeps.ite]; done) | (repeat' split) <;> (simp (maxDischargeDepth := 99) +contextual [*, Keeps.foldl, Keeps.ite]; done) | (refine Keeps.foldl _ (by first | assumption | simp (maxDischargeDepth := 99) +contextual [*, Keeps.foldl, Keeps.ite]) fun e x he => ?_; first | (simp (maxDischargeDepth := 99) +contextual [*, Keeps.foldl, Keeps.ite]; done) | (repeat' split) <;> (simp (maxDischargeDepth := 99) +contextual [*, Keeps.foldl, Keeps.ite]; done))
    clear_value d3
    have h_d4 : Keeps 59781156 d d4 := by unfold d4; first | (simp (maxDischargeDepth := 99) +contextual [*, Keeps.foldl, Keeps.ite]; done) | (repeat' split) <;> (simp (maxDischargeDepth := 99) +contextual [*, Keeps.foldl, Keeps.ite]; done) | (refine Keeps.foldl _ (by first | assumption | simp (maxDischargeDepth := 99) +contextual [*, Keeps.foldl, Keeps.ite]) fun e x he => ?_; first | (simp (maxDischargeDepth := 99) +contextual [*, Keeps.foldl, Keeps.ite]; done) | (repeat' split) <;> (simp (maxDischargeDepth := 99) +contextual [*, Keeps.foldl, Keeps.ite]; done))
    clear_value d4
    have h_d5 : Keeps 59781156 d d5 := by unfold d5; first | (simp (maxDischargeDepth := 99) +contextual [*, Keeps.foldl, Keeps.ite]; done) | (repeat' split) <;> (simp (maxDischargeDepth := 99) +contextual [*, Keeps.foldl, Keeps.ite]; done) | (refine Keeps.foldl _ (by first | assumption | simp (maxDischargeDepth := 99) +contextual [*, Keeps.foldl, Keeps.ite]) fun e x he => ?_; first | (simp (maxDischargeDepth := 99) +contextual [*, Keeps.foldl, Keeps.ite]; done) | (repeat' split) <;> (simp (maxDischargeDepth := 99) +contextual [*, Keeps.foldl, Keeps.ite]; done))
    clear_value d5
    simp (maxDischargeDepth := 99) +contextual [*, Keeps.foldl, Keeps.ite]
@[simp] theorem Dev.networkCrossing_keeps {L : Nat} {d0 : Dev} (d : Dev) (hmask : 59781156 ||| L = L) (hkeep : Keeps L d0 d) : Keeps L d0 (Dev.networkCrossing d) :=
  .after hmask (Dev.networkCrossing_keeps0 d) hkeep

theorem Dev.canopyRangeChange_keeps0 (d : Dev) : Keeps 41947172 d (Dev.canopyRangeChange d) := by
  unfold Dev.canopyRangeChange
  simp (maxSteps := 400000) (maxDischargeDepth := 99) +contextual [Keeps.foldl, Keeps.ite, Dev.draw]
@[simp] theorem Dev.canopyRangeChange_keeps {L : Nat} {d0 : Dev} (d : Dev) (hmask : 41947172 ||| L = L) (hkeep : Keeps L d0 d) : Keeps L d0 (Dev.canopyRangeChange d) :=
  .after hmask (Dev.canopyRangeChange_keeps0 d) hkeep

theorem Dev.enqueueCnp_keeps0 (d : Dev) (dst : Nat) (msg : CnpMsg) (ackReq : Bool) : Keeps 33554432 d (Dev.enqueueCnp d dst msg ackReq) := by
  unfold Dev.enqueueCnp
  simp (maxSteps := 400000) (maxDischargeDepth := 99) +contextual [Keeps.foldl, Keeps.ite, Dev.draw]
@[simp] theorem Dev.enqueueCnp_keeps {L : Nat} {d0 : Dev} (d : Dev) (dst : Nat) (msg : CnpMsg) (ackReq : Bool) (hmask : 33554432 ||| L = L) (hkeep : Keeps L d0 d) : Keeps L d0 (Dev.enqueueCnp d dst msg ackReq) :=
  .after hmask (Dev.enqueueCnp_keeps0 d dst msg ackReq) hkeep

theorem Dev.nextCounter_keeps0 (d : Dev) (dst : Nat) (msg : CnpMsg) : Keeps 33554432 d (Dev.nextCounter d dst msg).2 := by
  unfold Dev.nextCounter
  first
    | (simp (maxSteps := 400000) (maxDischargeDepth := 99) +contextual [Keeps.foldl, Keeps.ite, Dev.draw]; done)
    | (try dsimp only); (repeat' split) <;> (simp (maxSteps := 400000) (maxDischargeDepth := 99) +contextual [Keeps.foldl, Keeps.ite, Dev.draw]; done)
@[simp] theorem Dev.nextCounter_keeps {L : Nat} {d0 : Dev} (d : Dev) (dst : Nat) (msg : CnpMsg) (hmask : 33554432 ||| L = L) (hkeep : Keeps L d0 d) : Keeps L d0 (Dev.nextCounter d dst msg).2 :=
  .after hmask (Dev.nextCounter_keeps0 d dst msg) hkeep

theorem Dev.setAir_keeps0 (d : Dev) (start symbols : Nat) : Keeps 33554432 d (Dev.setAir d start symbols) := by
  unfold Dev.setAir
  simp (maxSteps := 400000) (maxDischargeDepth := 99) +contextual [Keeps.foldl, Keeps.ite, Dev.draw]
@[simp] theorem Dev.setAir_keeps {L : Nat} {d0 : Dev} (d : Dev) (start symbols : Nat) (hmask : 33554432 ||| L = L) (hkeep : Keeps L d0 d) : Keeps L d0 (Dev.setAir d start symbols) :=
  .after hmask (Dev.setAir_keeps0 d start symbols) hkeep

theorem Dev.emit_keeps0 (d : Dev) (tx : CnpTx) : Keeps 33554438 d (Dev.emit d tx) := by
  unfold Dev.emit
  extract_lets map out
  have ho : ∀ e c a, Keeps 33554438 d e → Keeps 33554438 d (out e c a) := fun e c a he => by unfold out; simp (maxDischargeDepth := 99) +contextual [*, Keeps.foldl, Keeps.ite]
  clear_value out
  split
  · exact Keeps.refl _ _
  · split
    · split
      · exact Keeps.refl _ _
      · exact ho _ _ _ (Dev.nextCounter_keeps d _ _ (by decide) (Keeps.refl _ _))
    · exact ho _ _ _ (Keeps.refl _ _)
@[simp] theorem Dev.emit_keeps {L : Nat} {d0 : Dev} (d : Dev) (tx : CnpTx) (hmask : 33554438 ||| L = L) (hkeep : Keeps L d0 d) : Keeps L d0 (Dev.emit d tx) :=
  .after hmask (Dev.emit_keeps0 d tx) hkeep

theorem Dev.relink_keeps0 (d : Dev) (n : Fin 128) : Keeps 33554433 d (Dev.relink d n) := by
  unfold Dev.relink
  (try dsimp only); (repeat' split) <;> simp (maxSteps := 400000) (maxDischargeDepth := 99) +contextual [Keeps.foldl, Keeps.ite, Dev.draw]
@[simp] theorem Dev.relink_keeps {L : Nat} {d0 : Dev} (d : Dev) (n : Fin 128) (hmask : 33554433 ||| L = L) (hkeep : Keeps L d0 d) : Keeps L d0 (Dev.relink d n) :=
  .after hmask (Dev.relink_keeps0 d n) hkeep

@[simp] theorem Dev.atNeigh_keeps {L : Nat} {d0 : Dev} (d : Dev) (n : Option (Fin 128)) (f : Fin 128 → Dev → Dev)
    (hkeep : Keeps L d0 d) (hf : ∀ n e, Keeps L d0 e → Keeps L d0 (f n e)) : Keeps L d0 (d.atNeigh n f) := by
  unfold Dev.atNeigh
  split
  · exact hf _ _ hkeep
  · exact hkeep

theorem Dev.listen_keeps0 (d : Dev) (heard : List HeardSym) : Keeps 33554436 d (Dev.listen d heard) := by
  unfold Dev.listen
  simp (maxSteps := 400000) (maxDischargeDepth := 99) +contextual [Keeps.foldl, Keeps.ite, Dev.draw]
@[simp] theorem Dev.listen_keeps {L : Nat} {d0 : Dev} (d : Dev) (heard : List HeardSym) (hmask : 33554436 ||| L = L) (hkeep : Keeps L d0 d) : Keeps L d0 (Dev.listen d heard) :=
  .after hmask (Dev.listen_keeps0 d heard) hkeep

theorem Dev.canopyTransmit_keeps0 (heard : List HeardSym) (d : Dev) : Keeps 33701895 d (Dev.canopyTransmit heard d) := by
  unfold Dev.canopyTransmit
  extract_lets d0
  have h_d0 : Keeps 33701895 d d0 := by unfold d0; first | (simp (maxDischargeDepth := 99) +contextual [*, Keeps.foldl, Keeps.ite]; done) | (repeat' split) <;> (simp (maxDischargeDepth := 99) +contextual [*, Keeps.foldl, Keeps.ite]; done) | (refine Keeps.foldl _ (by first | assumption | simp (maxDischargeDepth := 99) +contextual [*, Keeps.foldl, Keeps.ite]) fun e x he => ?_; first | (simp (maxDischargeDepth := 99) +contextual [*, Keeps.foldl, Keeps.ite]; done) | (repeat' split) <;> (simp (maxDischargeDepth := 99) +contextual [*, Keeps.foldl, Keeps.ite]; done))
  clear_value d0
  split
  · exact h_d0
  · refine Keeps.ite h_d0 ?_
    extract_lets till nb seq tx2 d2 d3 d4 d5 d6 d7
    have h_d2 : Keeps 33701895 d d2 := by unfold d2; first | (simp (maxDischargeDepth := 99) +contextual [*, Keeps.foldl, Keeps.ite]; done) | (repeat' split) <;> (simp (maxDischargeDepth := 99) +contextual [*, Keeps.foldl, Keeps.ite]; done) | (refine Keeps.foldl _ (by first | assumption | simp (maxDischargeDepth := 99) +contextual [*, Keeps.foldl, Keeps.ite]) fun e x he => ?_; first | (simp (maxDischargeDepth := 99) +contextual [*, Keeps.foldl, Keeps.ite]; done) | (repeat' split) <;> (simp (maxDischargeDepth := 99) +contextual [*, Keeps.foldl, Keeps.ite]; done))
    clear_value d2
    have h_d3 : Keeps 33701895 d d3 := by unfold d3; first | (simp (maxDischargeDepth := 99) +contextual [*, Keeps.foldl, Keeps.ite]; done) | (repeat' split) <;> (simp (maxDischargeDepth := 99) +contextual [*, Keeps.foldl, Keeps.ite]; done) | (refine Keeps.foldl _ (by first | assumption | simp (maxDischargeDepth := 99) +contextual [*, Keeps.foldl, Keeps.ite]) fun e x he => ?_; first | (simp (maxDischargeDepth := 99) +contextual [*, Keeps.foldl, Keeps.ite]; done) | (repeat' split) <;> (simp (maxDischargeDepth := 99) +contextual [*, Keeps.foldl, Keeps.ite]; done))
    clear_value d3
    have h_d4 : Keeps 33701895 d d4 := by unfold d4; first | (simp (maxDischargeDepth := 99) +contextual [*, Keeps.foldl, Keeps.ite]; done) | (repeat' split) <;> (simp (maxDischargeDepth := 99) +contextual [*, Keeps.foldl, Keeps.ite]; done) | (refine Keeps.foldl _ (by first | assumption | simp (maxDischargeDepth := 99) +contextual [*, Keeps.foldl, Keeps.ite]) fun e x he => ?_; first | (simp (maxDischargeDepth := 99) +contextual [*, Keeps.foldl, Keeps.ite]; done) | (repeat' split) <;> (simp (maxDischargeDepth := 99) +contextual [*, Keeps.foldl, Keeps.ite]; done))
    clear_value d4
    have h_d5 : Keeps 33701895 d d5 := by unfold d5; first | (simp (maxDischargeDepth := 99) +contextual [*, Keeps.foldl, Keeps.ite]; done) | (repeat' split) <;> (simp (maxDischargeDepth := 99) +contextual [*, Keeps.foldl, Keeps.ite]; done) | (refine Keeps.foldl _ (by first | assumption | simp (maxDischargeDepth := 99) +contextual [*, Keeps.foldl, Keeps.ite]) fun e x he => ?_; first | (simp (maxDischargeDepth := 99) +contextual [*, Keeps.foldl, Keeps.ite]; done) | (repeat' split) <;> (simp (maxDischargeDepth := 99) +contextual [*, Keeps.foldl, Keeps.ite]; done))
    clear_value d5
    have h_d6 : Keeps 33701895 d d6 := by unfold d6; first | (simp (maxDischargeDepth := 99) +contextual [*, Keeps.foldl, Keeps.ite]; done) | (repeat' split) <;> (simp (maxDischargeDepth := 99) +contextual [*, Keeps.foldl, Keeps.ite]; done) | (refine Keeps.foldl _ (by first | assumption | simp (maxDischargeDepth := 99) +contextual [*, Keeps.foldl, Keeps.ite]) fun e x he => ?_; first | (simp (maxDischargeDepth := 99) +contextual [*, Keeps.foldl, Keeps.ite]; done) | (repeat' split) <;> (simp (maxDischargeDepth := 99) +contextual [*, Keeps.foldl, Keeps.ite]; done))
    clear_value d6
    have h_d7 : Keeps 33701895 d d7 := by unfold d7; first | (simp (maxDischargeDepth := 99) +contextual [*, Keeps.foldl, Keeps.ite]; done) | (repeat' split) <;> (simp (maxDischargeDepth := 99) +contextual [*, Keeps.foldl, Keeps.ite]; done) | (refine Keeps.foldl _ (by first | assumption | simp (maxDischargeDepth := 99) +contextual [*, Keeps.foldl, Keeps.ite]) fun e x he => ?_; first | (simp (maxDischargeDepth := 99) +contextual [*, Keeps.foldl, Keeps.ite]; done) | (repeat' split) <;> (simp (maxDischargeDepth := 99) +contextual [*, Keeps.foldl, Keeps.ite]; done))
    clear_value d7
    split <;> simp (maxDischargeDepth := 99) +contextual [*, Keeps.foldl, Keeps.ite]
@[simp] theorem Dev.canopyTransmit_keeps {L : Nat} {d0 : Dev} (heard : List HeardSym) (d : Dev) (hmask : 33701895 ||| L = L) (hkeep : Keeps L d0 d) : Keeps L d0 (Dev.canopyTransmit heard d) :=
  .after hmask (Dev.canopyTransmit_keeps0 heard d) hkeep

theorem Dev.askMap_keeps0 (d : Dev) (n : Fin 128) : Keeps 33554432 d (Dev.askMap d n) := by
  unfold Dev.askMap
  (try dsimp only); (repeat' split) <;> simp (maxSteps := 400000) (maxDischargeDepth := 99) +contextual [Keeps.foldl, Keeps.ite, Dev.draw]
@[simp] theorem Dev.askMap_keeps {L : Nat} {d0 : Dev} (d : Dev) (n : Fin 128) (hmask : 33554432 ||| L = L) (hkeep : Keeps L d0 d) : Keeps L d0 (Dev.askMap d n) :=
  .after hmask (Dev.askMap_keeps0 d n) hkeep

theorem Dev.refreshMap_keeps0 (d : Dev) (n : Fin 128) : Keeps 33554436 d (Dev.refreshMap d n) := by
  unfold Dev.refreshMap
  (try dsimp only); (repeat' split) <;> simp (maxSteps := 400000) (maxDischargeDepth := 99) +contextual [Keeps.foldl, Keeps.ite, Dev.draw]
@[simp] theorem Dev.refreshMap_keeps {L : Nat} {d0 : Dev} (d : Dev) (n : Fin 128) (hmask : 33554436 ||| L = L) (hkeep : Keeps L d0 d) : Keeps L d0 (Dev.refreshMap d n) :=
  .after hmask (Dev.refreshMap_keeps0 d n) hkeep

theorem Dev.popWait_keeps0 (d : Dev) : Keeps 33701888 d (Dev.popWait d) := by
  unfold Dev.popWait
  simp (maxSteps := 400000) (maxDischargeDepth := 99) +contextual [Keeps.foldl, Keeps.ite, Dev.draw]
@[simp] theorem Dev.popWait_keeps {L : Nat} {d0 : Dev} (d : Dev) (hmask : 33701888 ||| L = L) (hkeep : Keeps L d0 d) : Keeps L d0 (Dev.popWait d) :=
  .after hmask (Dev.popWait_keeps0 d) hkeep

theorem Dev.ackTimeout_keeps0 (d : Dev) : Keeps 33701892 d (Dev.ackTimeout d) := by
  unfold Dev.ackTimeout
  (try dsimp only); (repeat' split) <;> simp (maxSteps := 400000) (maxDischargeDepth := 99) +contextual [Keeps.foldl, Keeps.ite, Dev.draw]
@[simp] theorem Dev.ackTimeout_keeps {L : Nat} {d0 : Dev} (d : Dev) (hmask : 33701892 ||| L = L) (hkeep : Keeps L d0 d) : Keeps L d0 (Dev.ackTimeout d) :=
  .after hmask (Dev.ackTimeout_keeps0 d) hkeep

theorem Dev.canopyAck_keeps0 (f : CnpFrame) (received : Bool) (d : Dev) : Keeps 33701894 d (Dev.canopyAck f received d) := by
  unfold Dev.canopyAck
  (try dsimp only); (repeat' split) <;> simp (maxSteps := 400000) (maxDischargeDepth := 99) +contextual [Keeps.foldl, Keeps.ite, Dev.draw]
@[simp] theorem Dev.canopyAck_keeps {L : Nat} {d0 : Dev} (f : CnpFrame) (received : Bool) (d : Dev) (hmask : 33701894 ||| L = L) (hkeep : Keeps L d0 d) : Keeps L d0 (Dev.canopyAck f received d) :=
  .after hmask (Dev.canopyAck_keeps0 f received d) hkeep

theorem Dev.renewPayloads_keeps0 (d : Dev) : Keeps 33554432 d (Dev.renewPayloads d) := by
  unfold Dev.renewPayloads
  simp (maxSteps := 400000) (maxDischargeDepth := 99) +contextual [Keeps.foldl, Keeps.ite, Dev.draw]
@[simp] theorem Dev.renewPayloads_keeps {L : Nat} {d0 : Dev} (d : Dev) (hmask : 33554432 ||| L = L) (hkeep : Keeps L d0 d) : Keeps L d0 (Dev.renewPayloads d) :=
  .after hmask (Dev.renewPayloads_keeps0 d) hkeep

theorem Dev.beaconSend_keeps0 (omitted : Bool) (d : Dev) : Keeps 33554434 d (Dev.beaconSend omitted d) := by
  unfold Dev.beaconSend
  simp (maxSteps := 400000) (maxDischargeDepth := 99) +contextual [Keeps.foldl, Keeps.ite, Dev.draw]
@[simp] theorem Dev.beaconSend_keeps {L : Nat} {d0 : Dev} (omitted : Bool) (d : Dev) (hmask : 33554434 ||| L = L) (hkeep : Keeps L d0 d) : Keeps L d0 (Dev.beaconSend omitted d) :=
  .after hmask (Dev.beaconSend_keeps0 omitted d) hkeep

theorem Dev.measurePhase_keeps0 (d : Dev) (delta : Nat) : Keeps 33554437 d (Dev.measurePhase d delta) := by
  unfold Dev.measurePhase
  (try dsimp only); (repeat' split) <;> simp (maxSteps := 400000) (maxDischargeDepth := 99) +contextual [Keeps.foldl, Keeps.ite, Dev.draw]
@[simp] theorem Dev.measurePhase_keeps {L : Nat} {d0 : Dev} (d : Dev) (delta : Nat) (hmask : 33554437 ||| L = L) (hkeep : Keeps L d0 d) : Keeps L d0 (Dev.measurePhase d delta) :=
  .after hmask (Dev.measurePhase_keeps0 d delta) hkeep

theorem Dev.beaconReceive_keeps0 (network : Nat) (nif drezu : Bool) (delta : Nat) (d : Dev) : Keeps 33554437 d (Dev.beaconReceive network nif drezu delta d) := by
  unfold Dev.beaconReceive
  (try dsimp only); (repeat' split) <;> simp (maxSteps := 400000) (maxDischargeDepth := 99) +contextual [Keeps.foldl, Keeps.ite, Dev.draw]
@[simp] theorem Dev.beaconReceive_keeps {L : Nat} {d0 : Dev} (network : Nat) (nif drezu : Bool) (delta : Nat) (d : Dev) (hmask : 33554437 ||| L = L) (hkeep : Keeps L d0 d) : Keeps L d0 (Dev.beaconReceive network nif drezu delta d) :=
  .after hmask (Dev.beaconReceive_keeps0 network nif drezu delta d) hkeep

theorem Dev.beaconMissed_keeps0 (d : Dev) : Keeps 41947172 d (Dev.beaconMissed d) := by
  unfold Dev.beaconMissed
  simp (maxSteps := 400000) (maxDischargeDepth := 99) +contextual [Keeps.foldl, Keeps.ite, Dev.draw]
@[simp] theorem Dev.beaconMissed_keeps {L : Nat} {d0 : Dev} (d : Dev) (hmask : 41947172 ||| L = L) (hkeep : Keeps L d0 d) : Keeps L d0 (Dev.beaconMissed d) :=
  .after hmask (Dev.beaconMissed_keeps0 d) hkeep

theorem Dev.nifSend_keeps0 (d : Dev) : Keeps 33554438 d (Dev.nifSend d) := by
  unfold Dev.nifSend
  simp (maxSteps := 400000) (maxDischargeDepth := 99) +contextual [Keeps.foldl, Keeps.ite, Dev.draw]
@[simp] theorem Dev.nifSend_keeps {L : Nat} {d0 : Dev} (d : Dev) (hmask : 33554438 ||| L = L) (hkeep : Keeps L d0 d) : Keeps L d0 (Dev.nifSend d) :=
  .after hmask (Dev.nifSend_keeps0 d) hkeep

theorem Dev.loadBroadcast_keeps0 (d : Dev) (network : Nat) : Keeps 8388612 d (Dev.loadBroadcast d network) := by
  unfold Dev.loadBroadcast
  (try dsimp only); (repeat' split) <;> (simp (maxSteps := 400000) (maxDischargeDepth := 99) +contextual [Keeps.foldl, Keeps.ite, Dev.draw]; done)
@[simp] theorem Dev.loadBroadcast_keeps {L : Nat} {d0 : Dev} (d : Dev) (network : Nat) (hmask : 8388612 ||| L = L) (hkeep : Keeps L d0 d) : Keeps L d0 (Dev.loadBroadcast d network) :=
  .after hmask (Dev.loadBroadcast_keeps0 d network) hkeep

theorem Dev.linkNeigh_keeps0 (d : Dev) (long : Bytes) (addr caps : Nat) (key : Bytes) (firstBy : Option Nat) : Keeps 41947136 d (Dev.linkNeigh d long addr caps key firstBy) := by
  unfold Dev.linkNeigh
  simp (maxSteps := 400000) (maxDischargeDepth := 99) +contextual [Keeps.foldl, Keeps.ite, Dev.draw]
@[simp] theorem Dev.linkNeigh_keeps {L : Nat} {d0 : Dev} (d : Dev) (long : Bytes) (addr caps : Nat) (key : Bytes) (firstBy : Option Nat) (hmask : 41947136 ||| L = L) (hkeep : Keeps L d0 d) : Keeps L d0 (Dev.linkNeigh d long addr caps key firstBy) :=
  .after hmask (Dev.linkNeigh_keeps0 d long addr caps key firstBy) hkeep

@[simp] theorem Dev.canopyReceive_keeps {L : Nat} {d0 : Dev} (f : CnpFrame) (secured : Bool) (serve : Fin 128 → Dev → Dev) (d : Dev)
    (hmask : 41947172 ||| L = L) (hkeep : Keeps L d0 d) (hf : ∀ n e, Keeps L d0 e → Keeps L d0 (serve n e)) :
    Keeps L d0 (Dev.canopyReceive f secured serve d) := by
  have a := or_mono (M := 41947172) (A := 4) (by decide) hmask
  have b := or_mono (M := 41947172) (A := 33554432) (by decide) hmask
  have c := or_mono (M := 41947172) (A := 33554432) (by decide) hmask
  have e := or_mono (M := 41947172) (A := 41947172) (by decide) hmask
  unfold Dev.canopyReceive
  dsimp only
  (repeat' split) <;> simp (maxDischargeDepth := 99) [*]

theorem Dev.askJoin_keeps0 (d : Dev) : Keeps 33554433 d (Dev.askJoin d) := by
  unfold Dev.askJoin
  simp (maxSteps := 400000) (maxDischargeDepth := 99) +contextual [Keeps.foldl, Keeps.ite, Dev.draw]
@[simp] theorem Dev.askJoin_keeps {L : Nat} {d0 : Dev} (d : Dev) (hmask : 33554433 ||| L = L) (hkeep : Keeps L d0 d) : Keeps L d0 (Dev.askJoin d) :=
  .after hmask (Dev.askJoin_keeps0 d) hkeep

theorem Dev.takeNif_keeps0 (p : NifPayload) (d : Dev) : Keeps 33554476 d (Dev.takeNif p d) := by
  unfold Dev.takeNif
  simp (maxSteps := 400000) (maxDischargeDepth := 99) +contextual [Keeps.foldl, Keeps.ite, Dev.draw]
@[simp] theorem Dev.takeNif_keeps {L : Nat} {d0 : Dev} (p : NifPayload) (d : Dev) (hmask : 33554476 ||| L = L) (hkeep : Keeps L d0 d) : Keeps L d0 (Dev.takeNif p d) :=
  .after hmask (Dev.takeNif_keeps0 p d) hkeep

theorem Dev.nifReceive_keeps0 (f : CnpFrame) (p : NifPayload) (d : Dev) : Keeps 41947181 d (Dev.nifReceive f p d) := by
  unfold Dev.nifReceive
  (try dsimp only); (repeat' split) <;> simp (maxSteps := 400000) (maxDischargeDepth := 99) +contextual [Keeps.foldl, Keeps.ite, Dev.draw]
@[simp] theorem Dev.nifReceive_keeps {L : Nat} {d0 : Dev} (f : CnpFrame) (p : NifPayload) (d : Dev) (hmask : 41947181 ||| L = L) (hkeep : Keeps L d0 d) : Keeps L d0 (Dev.nifReceive f p d) :=
  .after hmask (Dev.nifReceive_keeps0 f p d) hkeep

theorem Dev.coordinatorStart_keeps0 (random : Nat) (d : Dev) : Keeps 41943076 d (Dev.coordinatorStart random d) := by
  unfold Dev.coordinatorStart
  simp (maxSteps := 400000) (maxDischargeDepth := 99) +contextual [Keeps.foldl, Keeps.ite, Dev.draw]
@[simp] theorem Dev.coordinatorStart_keeps {L : Nat} {d0 : Dev} (random : Nat) (d : Dev) (hmask : 41943076 ||| L = L) (hkeep : Keeps L d0 d) : Keeps L d0 (Dev.coordinatorStart random d) :=
  .after hmask (Dev.coordinatorStart_keeps0 random d) hkeep

theorem Dev.joinRequest_keeps0 (f : CnpFrame) (long nonce : Bytes) (previous caps : Nat) (ownNonce : Bytes) (d : Dev) : Keeps 41947140 d (Dev.joinRequest f long nonce previous caps ownNonce d) := by
  unfold Dev.joinRequest
  (try dsimp only); (repeat' split) <;> simp (maxSteps := 400000) (maxDischargeDepth := 99) +contextual [Keeps.foldl, Keeps.ite, Dev.draw]
@[simp] theorem Dev.joinRequest_keeps {L : Nat} {d0 : Dev} (f : CnpFrame) (long nonce : Bytes) (previous caps : Nat) (ownNonce : Bytes) (d : Dev) (hmask : 41947140 ||| L = L) (hkeep : Keeps L d0 d) : Keeps L d0 (Dev.joinRequest f long nonce previous caps ownNonce d) :=
  .after hmask (Dev.joinRequest_keeps0 f long nonce previous caps ownNonce d) hkeep

theorem Dev.joinAccept_keeps0 (f : CnpFrame) (coordNonce memberLong : Bytes) (address network gcn rank : Nat) (d : Dev) : Keeps 41947172 d (Dev.joinAccept f coordNonce memberLong address network gcn rank d) := by
  unfold Dev.joinAccept
  (try dsimp only); (repeat' split) <;> simp (maxSteps := 400000) (maxDischargeDepth := 99) +contextual [Keeps.foldl, Keeps.ite, Dev.draw]
@[simp] theorem Dev.joinAccept_keeps {L : Nat} {d0 : Dev} (f : CnpFrame) (coordNonce memberLong : Bytes) (address network gcn rank : Nat) (d : Dev) (hmask : 41947172 ||| L = L) (hkeep : Keeps L d0 d) : Keeps L d0 (Dev.joinAccept f coordNonce memberLong address network gcn rank d) :=
  .after hmask (Dev.joinAccept_keeps0 f coordNonce memberLong address network gcn rank d) hkeep

theorem Dev.joinRefuse_keeps0 (f : CnpFrame) (memberLong : Bytes) (d : Dev) : Keeps 41947172 d (Dev.joinRefuse f memberLong d) := by
  unfold Dev.joinRefuse
  simp (maxSteps := 400000) (maxDischargeDepth := 99) +contextual [Keeps.foldl, Keeps.ite, Dev.draw]
@[simp] theorem Dev.joinRefuse_keeps {L : Nat} {d0 : Dev} (f : CnpFrame) (memberLong : Bytes) (d : Dev) (hmask : 41947172 ||| L = L) (hkeep : Keeps L d0 d) : Keeps L d0 (Dev.joinRefuse f memberLong d) :=
  .after hmask (Dev.joinRefuse_keeps0 f memberLong d) hkeep

theorem Dev.joinTimeout_keeps0 (d : Dev) : Keeps 41947173 d (Dev.joinTimeout d) := by
  unfold Dev.joinTimeout
  simp (maxSteps := 400000) (maxDischargeDepth := 99) +contextual [Keeps.foldl, Keeps.ite, Dev.draw]
@[simp] theorem Dev.joinTimeout_keeps {L : Nat} {d0 : Dev} (d : Dev) (hmask : 41947173 ||| L = L) (hkeep : Keeps L d0 d) : Keeps L d0 (Dev.joinTimeout d) :=
  .after hmask (Dev.joinTimeout_keeps0 d) hkeep

theorem Dev.leaveReceive_keeps0 (f : CnpFrame) (d : Dev) : Keeps 41947172 d (Dev.leaveReceive f d) := by
  unfold Dev.leaveReceive
  simp (maxSteps := 400000) (maxDischargeDepth := 99) +contextual [Keeps.foldl, Keeps.ite, Dev.draw]
@[simp] theorem Dev.leaveReceive_keeps {L : Nat} {d0 : Dev} (f : CnpFrame) (d : Dev) (hmask : 41947172 ||| L = L) (hkeep : Keeps L d0 d) : Keeps L d0 (Dev.leaveReceive f d) :=
  .after hmask (Dev.leaveReceive_keeps0 f d) hkeep

theorem Dev.keepaliveReceive_keeps0 (f : CnpFrame) (d : Dev) : Keeps 41947172 d (Dev.keepaliveReceive f d) := by
  unfold Dev.keepaliveReceive
  simp (maxSteps := 400000) (maxDischargeDepth := 99) +contextual [Keeps.foldl, Keeps.ite, Dev.draw]
@[simp] theorem Dev.keepaliveReceive_keeps {L : Nat} {d0 : Dev} (f : CnpFrame) (d : Dev) (hmask : 41947172 ||| L = L) (hkeep : Keeps L d0 d) : Keeps L d0 (Dev.keepaliveReceive f d) :=
  .after hmask (Dev.keepaliveReceive_keeps0 f d) hkeep

theorem Dev.keepaliveSend_keeps0 (d : Dev) : Keeps 33554432 d (Dev.keepaliveSend d) := by
  unfold Dev.keepaliveSend
  simp (maxSteps := 400000) (maxDischargeDepth := 99) +contextual [Keeps.foldl, Keeps.ite, Dev.draw]
@[simp] theorem Dev.keepaliveSend_keeps {L : Nat} {d0 : Dev} (d : Dev) (hmask : 33554432 ||| L = L) (hkeep : Keeps L d0 d) : Keeps L d0 (Dev.keepaliveSend d) :=
  .after hmask (Dev.keepaliveSend_keeps0 d) hkeep

theorem Dev.addressRelease_keeps0 (n : Fin 128) (d : Dev) : Keeps 41947136 d (Dev.addressRelease n d) := by
  unfold Dev.addressRelease
  (try dsimp only); (repeat' split) <;> simp (maxSteps := 400000) (maxDischargeDepth := 99) +contextual [Keeps.foldl, Keeps.ite, Dev.draw]
@[simp] theorem Dev.addressRelease_keeps {L : Nat} {d0 : Dev} (n : Fin 128) (d : Dev) (hmask : 41947136 ||| L = L) (hkeep : Keeps L d0 d) : Keeps L d0 (Dev.addressRelease n d) :=
  .after hmask (Dev.addressRelease_keeps0 n d) hkeep

theorem Dev.tonemapRequest_keeps0 (f : CnpFrame) (id : Nat) (signal noise : Vector Nat 8) (d : Dev) : Keeps 41947172 d (Dev.tonemapRequest f id signal noise d) := by
  unfold Dev.tonemapRequest
  simp (maxSteps := 400000) (maxDischargeDepth := 99) +contextual [Keeps.foldl, Keeps.ite, Dev.draw]
@[simp] theorem Dev.tonemapRequest_keeps {L : Nat} {d0 : Dev} (f : CnpFrame) (id : Nat) (signal noise : Vector Nat 8) (d : Dev) (hmask : 41947172 ||| L = L) (hkeep : Keeps L d0 d) : Keeps L d0 (Dev.tonemapRequest f id signal noise d) :=
  .after hmask (Dev.tonemapRequest_keeps0 f id signal noise d) hkeep

theorem Dev.tonemapResponse_keeps0 (f : CnpFrame) (id map mask : Nat) (thr : Bytes) (d : Dev) : Keeps 41947172 d (Dev.tonemapResponse f id map mask thr d) := by
  unfold Dev.tonemapResponse
  simp (maxSteps := 400000) (maxDischargeDepth := 99) +contextual [Keeps.foldl, Keeps.ite, Dev.draw]
@[simp] theorem Dev.tonemapResponse_keeps {L : Nat} {d0 : Dev} (f : CnpFrame) (id map mask : Nat) (thr : Bytes) (d : Dev) (hmask : 41947172 ||| L = L) (hkeep : Keeps L d0 d) : Keeps L d0 (Dev.tonemapResponse f id map mask thr d) :=
  .after hmask (Dev.tonemapResponse_keeps0 f id map mask thr d) hkeep

theorem Dev.tonemapRefresh_keeps0 (n : Fin 128) (d : Dev) : Keeps 33554436 d (Dev.tonemapRefresh n d) := by
  unfold Dev.tonemapRefresh
  (try dsimp only); (repeat' split) <;> simp (maxSteps := 400000) (maxDischargeDepth := 99) +contextual [Keeps.foldl, Keeps.ite, Dev.draw]
@[simp] theorem Dev.tonemapRefresh_keeps {L : Nat} {d0 : Dev} (n : Fin 128) (d : Dev) (hmask : 33554436 ||| L = L) (hkeep : Keeps L d0 d) : Keeps L d0 (Dev.tonemapRefresh n d) :=
  .after hmask (Dev.tonemapRefresh_keeps0 n d) hkeep

theorem Dev.tonemapRetry_keeps0 (n : Fin 128) (d : Dev) : Keeps 33554432 d (Dev.tonemapRetry n d) := by
  unfold Dev.tonemapRetry
  (try dsimp only); (repeat' split) <;> simp (maxSteps := 400000) (maxDischargeDepth := 99) +contextual [Keeps.foldl, Keeps.ite, Dev.draw]
@[simp] theorem Dev.tonemapRetry_keeps {L : Nat} {d0 : Dev} (n : Fin 128) (d : Dev) (hmask : 33554432 ||| L = L) (hkeep : Keeps L d0 d) : Keeps L d0 (Dev.tonemapRetry n d) :=
  .after hmask (Dev.tonemapRetry_keeps0 n d) hkeep

theorem Dev.linkRequest_keeps0 (f : CnpFrame) (long nonce ownNonce : Bytes) (caps : Nat) (d : Dev) : Keeps 41947140 d (Dev.linkRequest f long nonce ownNonce caps d) := by
  unfold Dev.linkRequest
  simp (maxSteps := 400000) (maxDischargeDepth := 99) +contextual [Keeps.foldl, Keeps.ite, Dev.draw]
@[simp] theorem Dev.linkRequest_keeps {L : Nat} {d0 : Dev} (f : CnpFrame) (long nonce ownNonce : Bytes) (caps : Nat) (d : Dev) (hmask : 41947140 ||| L = L) (hkeep : Keeps L d0 d) : Keeps L d0 (Dev.linkRequest f long nonce ownNonce caps d) :=
  .after hmask (Dev.linkRequest_keeps0 f long nonce ownNonce caps d) hkeep

theorem Dev.linkAccept_keeps0 (f : CnpFrame) (nonce : Bytes) (caps : Nat) (d : Dev) : Keeps 41947140 d (Dev.linkAccept f nonce caps d) := by
  unfold Dev.linkAccept
  (try dsimp only); (repeat' split) <;> simp (maxSteps := 400000) (maxDischargeDepth := 99) +contextual [Keeps.foldl, Keeps.ite, Dev.draw]
@[simp] theorem Dev.linkAccept_keeps {L : Nat} {d0 : Dev} (f : CnpFrame) (nonce : Bytes) (caps : Nat) (d : Dev) (hmask : 41947140 ||| L = L) (hkeep : Keeps L d0 d) : Keeps L d0 (Dev.linkAccept f nonce caps d) :=
  .after hmask (Dev.linkAccept_keeps0 f nonce caps d) hkeep

theorem Dev.loadReport_keeps0 (f : CnpFrame) (phase : Nat) (draw limit : Vector Nat 3) (d : Dev) : Keeps 41947173 d (Dev.loadReport f phase draw limit d) := by
  unfold Dev.loadReport
  simp (maxSteps := 400000) (maxDischargeDepth := 99) +contextual [Keeps.foldl, Keeps.ite, Dev.draw]
@[simp] theorem Dev.loadReport_keeps {L : Nat} {d0 : Dev} (f : CnpFrame) (phase : Nat) (draw limit : Vector Nat 3) (d : Dev) (hmask : 41947173 ||| L = L) (hkeep : Keeps L d0 d) : Keeps L d0 (Dev.loadReport f phase draw limit d) :=
  .after hmask (Dev.loadReport_keeps0 f phase draw limit d) hkeep

theorem Dev.loadReportSend_keeps0 (d : Dev) : Keeps 33554432 d (Dev.loadReportSend d) := by
  unfold Dev.loadReportSend
  simp (maxSteps := 400000) (maxDischargeDepth := 99) +contextual [Keeps.foldl, Keeps.ite, Dev.draw]
@[simp] theorem Dev.loadReportSend_keeps {L : Nat} {d0 : Dev} (d : Dev) (hmask : 33554432 ||| L = L) (hkeep : Keeps L d0 d) : Keeps L d0 (Dev.loadReportSend d) :=
  .after hmask (Dev.loadReportSend_keeps0 d) hkeep

theorem Dev.appResponse_keeps0 (f : CnpFrame) (d : Dev) : Keeps 41947172 d (Dev.appResponse f d) := by
  unfold Dev.appResponse
  simp (maxSteps := 400000) (maxDischargeDepth := 99) +contextual [Keeps.foldl, Keeps.ite, Dev.draw]
@[simp] theorem Dev.appResponse_keeps {L : Nat} {d0 : Dev} (f : CnpFrame) (d : Dev) (hmask : 41947172 ||| L = L) (hkeep : Keeps L d0 d) : Keeps L d0 (Dev.appResponse f d) :=
  .after hmask (Dev.appResponse_keeps0 f d) hkeep

theorem Dev.canopyHeaderFail_keeps0 (d : Dev) : Keeps 4 d (Dev.canopyHeaderFail d) := by
  unfold Dev.canopyHeaderFail
  simp (maxSteps := 400000) (maxDischargeDepth := 99) +contextual [Keeps.foldl, Keeps.ite, Dev.draw]
@[simp] theorem Dev.canopyHeaderFail_keeps {L : Nat} {d0 : Dev} (d : Dev) (hmask : 4 ||| L = L) (hkeep : Keeps L d0 d) : Keeps L d0 (Dev.canopyHeaderFail d) :=
  .after hmask (Dev.canopyHeaderFail_keeps0 d) hkeep

theorem rejoinServe_keeps0 (a : Ack) (u1_ : Val) (d : Dev) : Keeps 176164902 d (rejoinServe a u1_ d) := by
  unfold rejoinServe
  simp (maxSteps := 400000) (maxDischargeDepth := 99) +contextual [Keeps.foldl, Keeps.ite, Dev.draw]
@[simp] theorem rejoinServe_keeps {L : Nat} {d0 : Dev} (a : Ack) (u1_ : Val) (d : Dev) (hmask : 176164902 ||| L = L) (hkeep : Keeps L d0 d) : Keeps L d0 (rejoinServe a u1_ d) :=
  .after hmask (rejoinServe_keeps0 a u1_ d) hkeep

theorem refreshToneMapsServe_keeps0 (a : Ack) (u1_ : Val) (d : Dev) : Keeps 167776262 d (refreshToneMapsServe a u1_ d) := by
  unfold refreshToneMapsServe
  simp (maxSteps := 400000) (maxDischargeDepth := 99) +contextual [Keeps.foldl, Keeps.ite, Dev.draw]
@[simp] theorem refreshToneMapsServe_keeps {L : Nat} {d0 : Dev} (a : Ack) (u1_ : Val) (d : Dev) (hmask : 167776262 ||| L = L) (hkeep : Keeps L d0 d) : Keeps L d0 (refreshToneMapsServe a u1_ d) :=
  .after hmask (refreshToneMapsServe_keeps0 a u1_ d) hkeep

theorem Dev.setKeypad_keeps0 (d : Dev) (f : Keypad → Keypad) : Keeps 2097152 d (Dev.setKeypad d f) := by
  unfold Dev.setKeypad
  simp (maxSteps := 400000) (maxDischargeDepth := 99) +contextual [Keeps.foldl, Keeps.ite, Dev.draw]
@[simp] theorem Dev.setKeypad_keeps {L : Nat} {d0 : Dev} (d : Dev) (f : Keypad → Keypad) (hmask : 2097152 ||| L = L) (hkeep : Keeps L d0 d) : Keeps L d0 (Dev.setKeypad d f) :=
  .after hmask (Dev.setKeypad_keeps0 d f) hkeep

theorem Dev.keypadScan_keeps0 (matrix : BitVec 16) (d : Dev) : Keeps 2097152 d (Dev.keypadScan matrix d) := by
  unfold Dev.keypadScan
  simp (maxSteps := 400000) (maxDischargeDepth := 99) +contextual [Keeps.foldl, Keeps.ite, Dev.draw]
@[simp] theorem Dev.keypadScan_keeps {L : Nat} {d0 : Dev} (matrix : BitVec 16) (d : Dev) (hmask : 2097152 ||| L = L) (hkeep : Keeps L d0 d) : Keeps L d0 (Dev.keypadScan matrix d) :=
  .after hmask (Dev.keypadScan_keeps0 matrix d) hkeep

theorem Dev.showRefusal_keeps0 (d : Dev) : Keeps 67108864 d (Dev.showRefusal d) := by
  unfold Dev.showRefusal
  simp (maxSteps := 400000) (maxDischargeDepth := 99) +contextual [Keeps.foldl, Keeps.ite, Dev.draw]
@[simp] theorem Dev.showRefusal_keeps {L : Nat} {d0 : Dev} (d : Dev) (hmask : 67108864 ||| L = L) (hkeep : Keeps L d0 d) : Keeps L d0 (Dev.showRefusal d) :=
  .after hmask (Dev.showRefusal_keeps0 d) hkeep

theorem Dev.identifyAt_keeps0 (d : Dev) (p : Nat) (found : Option (Nat × Account)) : Keeps 2838534 d (Dev.identifyAt d p found) := by
  unfold Dev.identifyAt
  (try dsimp only); (repeat' split) <;> simp (maxSteps := 400000) (maxDischargeDepth := 99) +contextual [Keeps.foldl, Keeps.ite, Dev.draw]
@[simp] theorem Dev.identifyAt_keeps {L : Nat} {d0 : Dev} (d : Dev) (p : Nat) (found : Option (Nat × Account)) (hmask : 2838534 ||| L = L) (hkeep : Keeps L d0 d) : Keeps L d0 (Dev.identifyAt d p found) :=
  .after hmask (Dev.identifyAt_keeps0 d p found) hkeep

theorem Dev.keyPress_keeps0 (k : Key) (d : Dev) : Keeps 69955590 d (Dev.keyPress k d) := by
  unfold Dev.keyPress
  (try dsimp only); (repeat' split) <;> simp (maxSteps := 400000) (maxDischargeDepth := 99) +contextual [Keeps.foldl, Keeps.ite, Dev.draw]
@[simp] theorem Dev.keyPress_keeps {L : Nat} {d0 : Dev} (k : Key) (d : Dev) (hmask : 69955590 ||| L = L) (hkeep : Keeps L d0 d) : Keeps L d0 (Dev.keyPress k d) :=
  .after hmask (Dev.keyPress_keeps0 k d) hkeep

theorem Dev.keypadTimeout_keeps0 (d : Dev) : Keeps 2097152 d (Dev.keypadTimeout d) := by
  unfold Dev.keypadTimeout
  simp (maxSteps := 400000) (maxDischargeDepth := 99) +contextual [Keeps.foldl, Keeps.ite, Dev.draw]
@[simp] theorem Dev.keypadTimeout_keeps {L : Nat} {d0 : Dev} (d : Dev) (hmask : 2097152 ||| L = L) (hkeep : Keeps L d0 d) : Keeps L d0 (Dev.keypadTimeout d) :=
  .after hmask (Dev.keypadTimeout_keeps0 d) hkeep

theorem Dev.keypadUnlock_keeps0 (d : Dev) : Keeps 2097156 d (Dev.keypadUnlock d) := by
  unfold Dev.keypadUnlock
  (try dsimp only); (repeat' split) <;> simp (maxSteps := 400000) (maxDischargeDepth := 99) +contextual [Keeps.foldl, Keeps.ite, Dev.draw]
@[simp] theorem Dev.keypadUnlock_keeps {L : Nat} {d0 : Dev} (d : Dev) (hmask : 2097156 ||| L = L) (hkeep : Keeps L d0 d) : Keeps L d0 (Dev.keypadUnlock d) :=
  .after hmask (Dev.keypadUnlock_keeps0 d) hkeep

theorem Dev.cardFrame_keeps0 (frame : Bytes) (gapsOk : Bool) (hash : Bytes) (d : Dev) : Keeps 204165126 d (Dev.cardFrame frame gapsOk hash d) := by
  unfold Dev.cardFrame
  (try dsimp only); (repeat' split) <;> simp (maxSteps := 400000) (maxDischargeDepth := 99) +contextual [Keeps.foldl, Keeps.ite, Dev.draw]
@[simp] theorem Dev.cardFrame_keeps {L : Nat} {d0 : Dev} (frame : Bytes) (gapsOk : Bool) (hash : Bytes) (d : Dev) (hmask : 204165126 ||| L = L) (hkeep : Keeps L d0 d) : Keeps L d0 (Dev.cardFrame frame gapsOk hash d) :=
  .after hmask (Dev.cardFrame_keeps0 frame gapsOk hash d) hkeep

theorem Dev.tokenRequest_keeps0 (d : Dev) (slot : Nat) (a : Account) (tid : Nat) (amount : Int) (ok : Nat) (change : Account → Account) : Keeps 136327175 d (Dev.tokenRequest d slot a tid amount ok change).2.2 := by
  unfold Dev.tokenRequest
  split
  · simp (maxSteps := 400000) (maxDischargeDepth := 99) +contextual [Keeps.foldl, Keeps.ite, Dev.draw]
  · split
    · simp (maxSteps := 400000) (maxDischargeDepth := 99) +contextual [Keeps.foldl, Keeps.ite, Dev.draw]
    · rename_i h
      have h1 := Dev.balanceRequest_keeps h (by decide : _ ||| 136327175 = 136327175) (Keeps.refl _ _)
      split <;> simp (maxDischargeDepth := 99) [h1]
@[simp] theorem Dev.tokenRequest_keeps {L : Nat} {d0 : Dev} (d : Dev) (slot : Nat) (a : Account) (tid : Nat) (amount : Int) (ok : Nat) (change : Account → Account) (hmask : 136327175 ||| L = L) (hkeep : Keeps L d0 d) : Keeps L d0 (Dev.tokenRequest d slot a tid amount ok change).2.2 :=
  .after hmask (Dev.tokenRequest_keeps0 d slot a tid amount ok change) hkeep

theorem Dev.keyChange_keeps0 (d : Dev) (slot : Nat) (a : Account) (tid : Nat) (half : Fin 2) (matching : Bool) (rev sts : Nat) : Keeps 136327175 d (Dev.keyChange d slot a tid half matching rev sts).2.2 := by
  unfold Dev.keyChange
  first
    | (simp (maxSteps := 400000) (maxDischargeDepth := 99) +contextual [Keeps.foldl, Keeps.ite, Dev.draw]; done)
    | (try dsimp only); (repeat' split) <;> (simp (maxSteps := 400000) (maxDischargeDepth := 99) +contextual [Keeps.foldl, Keeps.ite, Dev.draw]; done)
@[simp] theorem Dev.keyChange_keeps {L : Nat} {d0 : Dev} (d : Dev) (slot : Nat) (a : Account) (tid : Nat) (half : Fin 2) (matching : Bool) (rev sts : Nat) (hmask : 136327175 ||| L = L) (hkeep : Keeps L d0 d) : Keeps L d0 (Dev.keyChange d slot a tid half matching rev sts).2.2 :=
  .after hmask (Dev.keyChange_keeps0 d slot a tid half matching rev sts) hkeep

theorem Dev.tokenAction_keeps0 (d : Dev) (slot : Nat) (a : Account) (f : TokenFacts) : Keeps 136327175 d (Dev.tokenAction d slot a f).2.2 := by
  unfold Dev.tokenAction
  first
    | (simp (maxSteps := 400000) (maxDischargeDepth := 99) +contextual [Keeps.foldl, Keeps.ite, Dev.draw]; done)
    | (try dsimp only); (repeat' split) <;> (simp (maxSteps := 400000) (maxDischargeDepth := 99) +contextual [Keeps.foldl, Keeps.ite, Dev.draw]; done)
@[simp] theorem Dev.tokenAction_keeps {L : Nat} {d0 : Dev} (d : Dev) (slot : Nat) (a : Account) (f : TokenFacts) (hmask : 136327175 ||| L = L) (hkeep : Keeps L d0 d) : Keeps L d0 (Dev.tokenAction d slot a f).2.2 :=
  .after hmask (Dev.tokenAction_keeps0 d slot a f) hkeep

theorem Dev.tokenResult_keeps0 (d : Dev) (keypad : Bool) (account : Nat) (digits : List (Fin 10)) (f : TokenFacts) : Keeps 136327175 d (Dev.tokenResult d keypad account digits f).2.2.1 := by
  unfold Dev.tokenResult
  first
    | (simp (maxSteps := 400000) (maxDischargeDepth := 99) +contextual [Keeps.foldl, Keeps.ite, Dev.draw]; done)
    | (try dsimp only); (repeat' split) <;> (simp (maxSteps := 400000) (maxDischargeDepth := 99) +contextual [Keeps.foldl, Keeps.ite, Dev.draw]; done)
@[simp] theorem Dev.tokenResult_keeps {L : Nat} {d0 : Dev} (d : Dev) (keypad : Bool) (account : Nat) (digits : List (Fin 10)) (f : TokenFacts) (hmask : 136327175 ||| L = L) (hkeep : Keeps L d0 d) : Keeps L d0 (Dev.tokenResult d keypad account digits f).2.2.1 :=
  .after hmask (Dev.tokenResult_keeps0 d keypad account digits f) hkeep

theorem Dev.token_keeps0 (keypad : Bool) (account : Nat) (digits : List (Fin 10)) (f : TokenFacts) (d : Dev) : Keeps 203436039 d (Dev.token keypad account digits f d) := by
  unfold Dev.token
  simp (maxSteps := 400000) (maxDischargeDepth := 99) +contextual [Keeps.foldl, Keeps.ite, Dev.draw]
@[simp] theorem Dev.token_keeps {L : Nat} {d0 : Dev} (keypad : Bool) (account : Nat) (digits : List (Fin 10)) (f : TokenFacts) (d : Dev) (hmask : 203436039 ||| L = L) (hkeep : Keeps L d0 d) : Keeps L d0 (Dev.token keypad account digits f d) :=
  .after hmask (Dev.token_keeps0 keypad account digits f d) hkeep

theorem Dev.tokenEvent_keeps0 (keypad : Bool) (account : Nat) (digits : List (Fin 10)) (f : TokenFacts) (d : Dev) : Keeps 203436039 d (Dev.tokenEvent keypad account digits f d) := by
  unfold Dev.tokenEvent
  (try dsimp only); (repeat' split) <;> simp (maxSteps := 400000) (maxDischargeDepth := 99) +contextual [Keeps.foldl, Keeps.ite, Dev.draw]
@[simp] theorem Dev.tokenEvent_keeps {L : Nat} {d0 : Dev} (keypad : Bool) (account : Nat) (digits : List (Fin 10)) (f : TokenFacts) (d : Dev) (hmask : 203436039 ||| L = L) (hkeep : Keeps L d0 d) : Keeps L d0 (Dev.tokenEvent keypad account digits f d) :=
  .after hmask (Dev.tokenEvent_keeps0 keypad account digits f d) hkeep

theorem Dev.halfExpiry_keeps0 (d : Dev) : Keeps 2097152 d (Dev.halfExpiry d) := by
  unfold Dev.halfExpiry
  (try dsimp only); (repeat' split) <;> simp (maxSteps := 400000) (maxDischargeDepth := 99) +contextual [Keeps.foldl, Keeps.ite, Dev.draw]
@[simp] theorem Dev.halfExpiry_keeps {L : Nat} {d0 : Dev} (d : Dev) (hmask : 2097152 ||| L = L) (hkeep : Keeps L d0 d) : Keeps L d0 (Dev.halfExpiry d) :=
  .after hmask (Dev.halfExpiry_keeps0 d) hkeep

theorem tokenSubmitServe_keeps0 (facts : TokenFacts) (a : Ack) (v : Val) (d : Dev) : Keeps 203436039 d (tokenSubmitServe facts a v d) := by
  unfold tokenSubmitServe
  (try dsimp only); (repeat' split) <;> simp (maxSteps := 400000) (maxDischargeDepth := 99) +contextual [Keeps.foldl, Keeps.ite, Dev.draw]
@[simp] theorem tokenSubmitServe_keeps {L : Nat} {d0 : Dev} (facts : TokenFacts) (a : Ack) (v : Val) (d : Dev) (hmask : 203436039 ||| L = L) (hkeep : Keeps L d0 d) : Keeps L d0 (tokenSubmitServe facts a v d) :=
  .after hmask (tokenSubmitServe_keeps0 facts a v d) hkeep

theorem hostCreditServe_keeps0 (sigOk hashOk : Bool) (data : Bytes) (a : Ack) (u3_ : Val) (d : Dev) : Keeps 144863239 d (hostCreditServe sigOk hashOk data a u3_ d) := by
  unfold hostCreditServe
  extract_lets num account amount seq d1 d2 d3
  have h1 : Keeps 144863239 d d1 := by unfold d1; simp (maxDischargeDepth := 99) +contextual [*, Keeps.foldl, Keeps.ite]
  clear_value d1
  have h2 : Keeps 144863239 d d2 := by unfold d2; simp (maxDischargeDepth := 99) +contextual [*, Keeps.foldl, Keeps.ite]
  clear_value d2
  have h3' : Keeps 144863239 d d3 := by unfold d3; simp (maxDischargeDepth := 99) +contextual [*, Keeps.foldl, Keeps.ite]
  clear_value d3
  (repeat' split) <;> first
    | (simp (maxDischargeDepth := 99) [h1, h2, h3']; done)
    | (rename_i h
       have h3 := Dev.balanceRequest_keeps h (by decide : _ ||| 144863239 = 144863239) h3'
       simp (maxDischargeDepth := 99) [h3])
    | (rename_i h _
       have h3 := Dev.balanceRequest_keeps h (by decide : _ ||| 144863239 = 144863239) h3'
       simp (maxDischargeDepth := 99) [h3])
@[simp] theorem hostCreditServe_keeps {L : Nat} {d0 : Dev} (sigOk hashOk : Bool) (data : Bytes) (a : Ack) (u3_ : Val) (d : Dev) (hmask : 144863239 ||| L = L) (hkeep : Keeps L d0 d) : Keeps L d0 (hostCreditServe sigOk hashOk data a u3_ d) :=
  .after hmask (hostCreditServe_keeps0 sigOk hashOk data a u3_ d) hkeep

theorem Dev.setHeart_keeps0 (d : Dev) (f : Heartwood → Heartwood) : Keeps 8192 d (Dev.setHeart d f) := by
  unfold Dev.setHeart
  simp (maxSteps := 400000) (maxDischargeDepth := 99) +contextual [Keeps.foldl, Keeps.ite, Dev.draw]
@[simp] theorem Dev.setHeart_keeps {L : Nat} {d0 : Dev} (d : Dev) (f : Heartwood → Heartwood) (hmask : 8192 ||| L = L) (hkeep : Keeps L d0 d) : Keeps L d0 (Dev.setHeart d f) :=
  .after hmask (Dev.setHeart_keeps0 d f) hkeep

@[simp] theorem Dev.legalCommand_keeps {L : Nat} {d0 : Dev} (d : Dev) (env : LegalEnv) (code : Nat) (states : List Nat) (serve : Dev → Except Nat Dev)
    (hmask : 8396932 ||| L = L) (hkeep : Keeps L d0 d) (hf : ∀ e e', serve e = .ok e' → Keeps L d0 e → Keeps L d0 e') :
    Keeps L d0 (d.legalCommand env code states serve) := by
  have a := or_mono (M := 8396932) (A := 4) (by decide) hmask
  have a2 := or_mono (M := 8396932) (A := 128) (by decide) hmask
  have a3 := or_mono (M := 8396932) (A := 8388612) (by decide) hmask
  have b := or_mono (M := 8396932) (A := 8192) (by decide) hmask
  unfold Dev.legalCommand
  split
  · exact hkeep
  · extract_lets d1 d2 refuse d4 old d3
    have h1 : Keeps L d0 d1 := by unfold d1; simp (maxDischargeDepth := 99) [*]
    have h2 : Keeps L d0 d2 := by unfold d2; simp (maxDischargeDepth := 99) [*]
    have hr : ∀ e c, Keeps L d0 e → Keeps L d0 (refuse e c) := fun e c he => by unfold refuse; simp (maxDischargeDepth := 99) [*]
    have h4 : Keeps L d0 d4 := by unfold d4; simp (maxDischargeDepth := 99) [*, Keeps.ite]
    have h3 : Keeps L d0 d3 := by unfold d3; simp (maxDischargeDepth := 99) [*]
    clear_value d1 d2 refuse d4 d3
    (repeat' split) <;> first
      | exact hr _ _ h4
      | exact hr _ _ h3
      | (rename_i h; have := hf _ _ h h3; simp (maxDischargeDepth := 99) [*])

theorem Dev.logWrite_keeps0 (d : Dev) (key : Nat) (old new : Bytes) : Keeps 8192 d (Dev.logWrite d key old new) := by
  unfold Dev.logWrite
  simp (maxSteps := 400000) (maxDischargeDepth := 99) +contextual [Keeps.foldl, Keeps.ite, Dev.draw]
@[simp] theorem Dev.logWrite_keeps {L : Nat} {d0 : Dev} (d : Dev) (key : Nat) (old new : Bytes) (hmask : 8192 ||| L = L) (hkeep : Keeps L d0 d) : Keeps L d0 (Dev.logWrite d key old new) :=
  .after hmask (Dev.logWrite_keeps0 d key old new) hkeep

theorem Dev.calibrationWrite_keeps0 (d : Dev) (key : Nat) (data : Bytes) (e : Dev) (he : Dev.calibrationWrite d key data = .ok e) : Keeps 8196 d e := by
  unfold Dev.calibrationWrite at he
  (try dsimp only at he)
  (repeat' split at he) <;> first | cases he; done | (obtain rfl := Except.ok.inj he; (try dsimp only); (repeat' split) <;> (simp (maxSteps := 400000) (maxDischargeDepth := 99) +contextual [Keeps.foldl, Keeps.ite, Dev.draw]; done))

theorem Dev.constantsWrite_keeps0 (d : Dev) (key : Nat) (data : Bytes) (e : Dev) (he : Dev.constantsWrite d key data = .ok e) : Keeps 8196 d e := by
  unfold Dev.constantsWrite at he
  (try dsimp only at he)
  (repeat' split at he) <;> first | cases he; done | (obtain rfl := Except.ok.inj he; (try dsimp only); (repeat' split) <;> (simp (maxSteps := 400000) (maxDischargeDepth := 99) +contextual [Keeps.foldl, Keeps.ite, Dev.draw]; done))

theorem Dev.sealUnit_keeps0 (d : Dev) (e : Dev) (he : Dev.sealUnit d = .ok e) : Keeps 8396805 d e := by
  unfold Dev.sealUnit at he
  (try dsimp only at he)
  (repeat' split at he) <;> first | cases he; done | (obtain rfl := Except.ok.inj he; (try dsimp only); (repeat' split) <;> (simp (maxSteps := 400000) (maxDischargeDepth := 99) +contextual [Keeps.foldl, Keeps.ite, Dev.draw]; done))

theorem Dev.recordRepair_keeps0 (d : Dev) (slot : Nat) (record : Bytes) (e : Dev) (he : Dev.recordRepair d slot record = .ok e) : Keeps 2252800 d e := by
  unfold Dev.recordRepair at he
  (try dsimp only at he)
  (repeat' split at he) <;> first | cases he; done | (obtain rfl := Except.ok.inj he; (try dsimp only); (repeat' split) <;> (simp (maxSteps := 400000) (maxDischargeDepth := 99) +contextual [Keeps.foldl, Keeps.ite, Dev.draw]; done))

theorem Dev.recordSigned_keeps0 (ok : Bool) (result : Nat) (d : Dev) : Keeps 142618630 d (Dev.recordSigned ok result d) := by
  unfold Dev.recordSigned
  (try dsimp only); (repeat' split) <;> simp (maxSteps := 400000) (maxDischargeDepth := 99) +contextual [Keeps.foldl, Keeps.ite, Dev.draw]
@[simp] theorem Dev.recordSigned_keeps {L : Nat} {d0 : Dev} (ok : Bool) (result : Nat) (d : Dev) (hmask : 142618630 ||| L = L) (hkeep : Keeps L d0 d) : Keeps L d0 (Dev.recordSigned ok result d) :=
  .after hmask (Dev.recordSigned_keeps0 ok result d) hkeep

theorem Dev.signingRetry_keeps0 (d : Dev) : Keeps 8396800 d (Dev.signingRetry d) := by
  unfold Dev.signingRetry
  (try dsimp only); (repeat' split) <;> simp (maxSteps := 400000) (maxDischargeDepth := 99) +contextual [Keeps.foldl, Keeps.ite, Dev.draw]
@[simp] theorem Dev.signingRetry_keeps {L : Nat} {d0 : Dev} (d : Dev) (hmask : 8396800 ||| L = L) (hkeep : Keeps L d0 d) : Keeps L d0 (Dev.signingRetry d) :=
  .after hmask (Dev.signingRetry_keeps0 d) hkeep

theorem Dev.takeSequence_keeps0 (d : Dev) : Keeps 2097156 d (Dev.takeSequence d) := by
  unfold Dev.takeSequence
  simp (maxSteps := 400000) (maxDischargeDepth := 99) +contextual [Keeps.foldl, Keeps.ite, Dev.draw]
@[simp] theorem Dev.takeSequence_keeps {L : Nat} {d0 : Dev} (d : Dev) (hmask : 2097156 ||| L = L) (hkeep : Keeps L d0 d) : Keeps L d0 (Dev.takeSequence d) :=
  .after hmask (Dev.takeSequence_keeps0 d) hkeep

theorem Dev.showItems_keeps0 (d : Dev) : Keeps 2105348 d (Dev.showItems d) := by
  unfold Dev.showItems
  simp (maxSteps := 400000) (maxDischargeDepth := 99) +contextual [Keeps.foldl, Keeps.ite, Dev.draw]
@[simp] theorem Dev.showItems_keeps {L : Nat} {d0 : Dev} (d : Dev) (hmask : 2105348 ||| L = L) (hkeep : Keeps L d0 d) : Keeps L d0 (Dev.showItems d) :=
  .after hmask (Dev.showItems_keeps0 d) hkeep

theorem Dev.testCount_keeps0 (p : PortId) (d : Dev) : Keeps 2105348 d (Dev.testCount p d) := by
  unfold Dev.testCount
  simp (maxSteps := 400000) (maxDischargeDepth := 99) +contextual [Keeps.foldl, Keeps.ite, Dev.draw]
@[simp] theorem Dev.testCount_keeps {L : Nat} {d0 : Dev} (p : PortId) (d : Dev) (hmask : 2105348 ||| L = L) (hkeep : Keeps L d0 d) : Keeps L d0 (Dev.testCount p d) :=
  .after hmask (Dev.testCount_keeps0 p d) hkeep

theorem Dev.endInspection_keeps0 (d : Dev) : Keeps 8196 d (Dev.endInspection d) := by
  unfold Dev.endInspection
  simp (maxSteps := 400000) (maxDischargeDepth := 99) +contextual [Keeps.foldl, Keeps.ite, Dev.draw]
@[simp] theorem Dev.endInspection_keeps {L : Nat} {d0 : Dev} (d : Dev) (hmask : 8196 ||| L = L) (hkeep : Keeps L d0 d) : Keeps L d0 (Dev.endInspection d) :=
  .after hmask (Dev.endInspection_keeps0 d) hkeep

theorem Dev.inspectionEnd_keeps0 (d : Dev) : Keeps 2105348 d (Dev.inspectionEnd d) := by
  unfold Dev.inspectionEnd
  simp (maxSteps := 400000) (maxDischargeDepth := 99) +contextual [Keeps.foldl, Keeps.ite, Dev.draw]
@[simp] theorem Dev.inspectionEnd_keeps {L : Nat} {d0 : Dev} (d : Dev) (hmask : 2105348 ||| L = L) (hkeep : Keeps L d0 d) : Keeps L d0 (Dev.inspectionEnd d) :=
  .after hmask (Dev.inspectionEnd_keeps0 d) hkeep

theorem Dev.inspectionTimeout_keeps0 (d : Dev) : Keeps 8196 d (Dev.inspectionTimeout d) := by
  unfold Dev.inspectionTimeout
  (try dsimp only); (repeat' split) <;> simp (maxSteps := 400000) (maxDischargeDepth := 99) +contextual [Keeps.foldl, Keeps.ite, Dev.draw]
@[simp] theorem Dev.inspectionTimeout_keeps {L : Nat} {d0 : Dev} (d : Dev) (hmask : 8196 ||| L = L) (hkeep : Keeps L d0 d) : Keeps L d0 (Dev.inspectionTimeout d) :=
  .after hmask (Dev.inspectionTimeout_keeps0 d) hkeep

theorem Dev.loadLink_keeps0 (d : Dev) (x : Fin 160) : Keeps 8392705 d (Dev.loadLink d x) := by
  unfold Dev.loadLink
  simp (maxSteps := 400000) (maxDischargeDepth := 99) +contextual [Keeps.foldl, Keeps.ite, Dev.draw]
@[simp] theorem Dev.loadLink_keeps {L : Nat} {d0 : Dev} (d : Dev) (x : Fin 160) (hmask : 8392705 ||| L = L) (hkeep : Keeps L d0 d) : Keeps L d0 (Dev.loadLink d x) :=
  .after hmask (Dev.loadLink_keeps0 d x) hkeep

theorem Dev.slacMessage_keeps0 (p : PortId) (msg : SlacMsg) (d : Dev) : Keeps 8409095 d (Dev.slacMessage p msg d) := by
  unfold Dev.slacMessage
  (try dsimp only); (repeat' split) <;> simp (maxSteps := 400000) (maxDischargeDepth := 99) +contextual [Keeps.foldl, Keeps.ite, Dev.draw]
@[simp] theorem Dev.slacMessage_keeps {L : Nat} {d0 : Dev} (p : PortId) (msg : SlacMsg) (d : Dev) (hmask : 8409095 ||| L = L) (hkeep : Keeps L d0 d) : Keeps L d0 (Dev.slacMessage p msg d) :=
  .after hmask (Dev.slacMessage_keeps0 p msg d) hkeep

theorem Dev.slacTimeout_keeps0 (p : PortId) (d : Dev) : Keeps 16388 d (Dev.slacTimeout p d) := by
  unfold Dev.slacTimeout
  (try dsimp only); (repeat' split) <;> simp (maxSteps := 400000) (maxDischargeDepth := 99) +contextual [Keeps.foldl, Keeps.ite, Dev.draw]
@[simp] theorem Dev.slacTimeout_keeps {L : Nat} {d0 : Dev} (p : PortId) (d : Dev) (hmask : 16388 ||| L = L) (hkeep : Keeps L d0 d) : Keeps L d0 (Dev.slacTimeout p d) :=
  .after hmask (Dev.slacTimeout_keeps0 p d) hkeep

theorem Dev.v2gReply_keeps0 (d : Dev) (p : PortId) (code : Nat) : Keeps 2 d (Dev.v2gReply d p code) := by
  unfold Dev.v2gReply
  simp (maxSteps := 400000) (maxDischargeDepth := 99) +contextual [Keeps.foldl, Keeps.ite, Dev.draw]
@[simp] theorem Dev.v2gReply_keeps {L : Nat} {d0 : Dev} (d : Dev) (p : PortId) (code : Nat) (hmask : 2 ||| L = L) (hkeep : Keeps L d0 d) : Keeps L d0 (Dev.v2gReply d p code) :=
  .after hmask (Dev.v2gReply_keeps0 d p code) hkeep

theorem Dev.v2gOpen_keeps0 (d : Dev) (p : PortId) (msg : V2gMsg) : Keeps 145444871 d (Dev.v2gOpen d p msg) := by
  unfold Dev.v2gOpen
  (try dsimp only); (repeat' split) <;> simp (maxSteps := 400000) (maxDischargeDepth := 99) +contextual [Keeps.foldl, Keeps.ite, Dev.draw]
@[simp] theorem Dev.v2gOpen_keeps {L : Nat} {d0 : Dev} (d : Dev) (p : PortId) (msg : V2gMsg) (hmask : 145444871 ||| L = L) (hkeep : Keeps L d0 d) : Keeps L d0 (Dev.v2gOpen d p msg) :=
  .after hmask (Dev.v2gOpen_keeps0 d p msg) hkeep

theorem Dev.v2gServe_keeps0 (d : Dev) (p : PortId) (msg : V2gMsg) : Keeps 2838534 d (Dev.v2gServe d p msg) := by
  unfold Dev.v2gServe
  (try dsimp only); (repeat' split) <;> simp (maxSteps := 400000) (maxDischargeDepth := 99) +contextual [Keeps.foldl, Keeps.ite, Dev.draw]
@[simp] theorem Dev.v2gServe_keeps {L : Nat} {d0 : Dev} (d : Dev) (p : PortId) (msg : V2gMsg) (hmask : 2838534 ||| L = L) (hkeep : Keeps L d0 d) : Keeps L d0 (Dev.v2gServe d p msg) :=
  .after hmask (Dev.v2gServe_keeps0 d p msg) hkeep

theorem Dev.v2gMessage_keeps0 (p : PortId) (msg : V2gMsg) (d : Dev) : Keeps 145444871 d (Dev.v2gMessage p msg d) := by
  unfold Dev.v2gMessage
  simp (maxSteps := 400000) (maxDischargeDepth := 99) +contextual [Keeps.foldl, Keeps.ite, Dev.draw]
@[simp] theorem Dev.v2gMessage_keeps {L : Nat} {d0 : Dev} (p : PortId) (msg : V2gMsg) (d : Dev) (hmask : 145444871 ||| L = L) (hkeep : Keeps L d0 d) : Keeps L d0 (Dev.v2gMessage p msg d) :=
  .after hmask (Dev.v2gMessage_keeps0 p msg d) hkeep

theorem Dev.v2gTimeout_keeps0 (p : PortId) (d : Dev) : Keeps 2838534 d (Dev.v2gTimeout p d) := by
  unfold Dev.v2gTimeout
  simp (maxSteps := 400000) (maxDischargeDepth := 99) +contextual [Keeps.foldl, Keeps.ite, Dev.draw]
@[simp] theorem Dev.v2gTimeout_keeps {L : Nat} {d0 : Dev} (p : PortId) (d : Dev) (hmask : 2838534 ||| L = L) (hkeep : Keeps L d0 d) : Keeps L d0 (Dev.v2gTimeout p d) :=
  .after hmask (Dev.v2gTimeout_keeps0 p d) hkeep

theorem Dev.annexContent_keeps0 (d : Dev) (p : PortId) : Keeps 2 d (Dev.annexContent d p) := by
  unfold Dev.annexContent
  simp (maxSteps := 400000) (maxDischargeDepth := 99) +contextual [Keeps.foldl, Keeps.ite, Dev.draw]
@[simp] theorem Dev.annexContent_keeps {L : Nat} {d0 : Dev} (d : Dev) (p : PortId) (hmask : 2 ||| L = L) (hkeep : Keeps L d0 d) : Keeps L d0 (Dev.annexContent d p) :=
  .after hmask (Dev.annexContent_keeps0 d p) hkeep

theorem Dev.annexFrame_keeps0 (p : PortId) (msg : AnnexMsg) (d : Dev) : Keeps 2838534 d (Dev.annexFrame p msg d) := by
  unfold Dev.annexFrame
  (try dsimp only); (repeat' split) <;> simp (maxSteps := 400000) (maxDischargeDepth := 99) +contextual [Keeps.foldl, Keeps.ite, Dev.draw]
@[simp] theorem Dev.annexFrame_keeps {L : Nat} {d0 : Dev} (p : PortId) (msg : AnnexMsg) (d : Dev) (hmask : 2838534 ||| L = L) (hkeep : Keeps L d0 d) : Keeps L d0 (Dev.annexFrame p msg d) :=
  .after hmask (Dev.annexFrame_keeps0 p msg d) hkeep

theorem Dev.annexTimeout_keeps0 (p : PortId) (d : Dev) : Keeps 2838534 d (Dev.annexTimeout p d) := by
  unfold Dev.annexTimeout
  simp (maxSteps := 400000) (maxDischargeDepth := 99) +contextual [Keeps.foldl, Keeps.ite, Dev.draw]
@[simp] theorem Dev.annexTimeout_keeps {L : Nat} {d0 : Dev} (p : PortId) (d : Dev) (hmask : 2838534 ||| L = L) (hkeep : Keeps L d0 d) : Keeps L d0 (Dev.annexTimeout p d) :=
  .after hmask (Dev.annexTimeout_keeps0 p d) hkeep

end Sys2Proof.Machine
end

