-- ==== Sys2Proof/Laws/FramesPower.lean ====
section
/-! SUPPORT. What each function leaves alone: the display, clocks, power and tampering. -/

set_option linter.unusedSimpArgs false
set_option linter.unusedTactic false
set_option linter.unreachableTactic false
set_option linter.unnecessarySeqFocus false

namespace Sys2Proof.Machine

theorem Dev.setDisplay_keeps0 (d : Dev) (f : Display → Display) : Keeps 67108864 d (Dev.setDisplay d f) := by
  unfold Dev.setDisplay
  simp (maxSteps := 400000) (maxDischargeDepth := 99) +contextual [Keeps.foldl, Keeps.ite, Dev.draw]
@[simp] theorem Dev.setDisplay_keeps {L : Nat} {d0 : Dev} (d : Dev) (f : Display → Display) (hmask : 67108864 ||| L = L) (hkeep : Keeps L d0 d) : Keeps L d0 (Dev.setDisplay d f) :=
  .after hmask (Dev.setDisplay_keeps0 d f) hkeep

theorem Dev.render_keeps0 (d : Dev) (entry : Nat) : Keeps 67108864 d (Dev.render d entry) := by
  unfold Dev.render
  simp (maxSteps := 400000) (maxDischargeDepth := 99) +contextual [Keeps.foldl, Keeps.ite, Dev.draw]
@[simp] theorem Dev.render_keeps {L : Nat} {d0 : Dev} (d : Dev) (entry : Nat) (hmask : 67108864 ||| L = L) (hkeep : Keeps L d0 d) : Keeps L d0 (Dev.render d entry) :=
  .after hmask (Dev.render_keeps0 d entry) hkeep

theorem Dev.takeScroll_keeps0 (d : Dev) : Keeps 67108868 d (Dev.takeScroll d) := by
  unfold Dev.takeScroll
  simp (maxSteps := 400000) (maxDischargeDepth := 99) +contextual [Keeps.foldl, Keeps.ite, Dev.draw]
@[simp] theorem Dev.takeScroll_keeps {L : Nat} {d0 : Dev} (d : Dev) (hmask : 67108868 ||| L = L) (hkeep : Keeps L d0 d) : Keeps L d0 (Dev.takeScroll d) :=
  .after hmask (Dev.takeScroll_keeps0 d) hkeep

theorem Dev.mark_keeps0 (d : Dev) (l : List Nat) (g : Bool × Bool → Bool × Bool) : Keeps 69206016 d (Dev.mark d l g) := by
  unfold Dev.mark
  simp (maxSteps := 400000) (maxDischargeDepth := 99) +contextual [Keeps.foldl, Keeps.ite, Dev.draw]
@[simp] theorem Dev.mark_keeps {L : Nat} {d0 : Dev} (d : Dev) (l : List Nat) (g : Bool × Bool → Bool × Bool) (hmask : 69206016 ||| L = L) (hkeep : Keeps L d0 d) : Keeps L d0 (Dev.mark d l g) :=
  .after hmask (Dev.mark_keeps0 d l g) hkeep

theorem Dev.queueStep_keeps0 (d : Dev) (f : FrameRun) : Keeps 67108866 d (Dev.queueStep d f) := by
  unfold Dev.queueStep
  (try dsimp only); (repeat' split) <;> simp (maxSteps := 400000) (maxDischargeDepth := 99) +contextual [Keeps.foldl, Keeps.ite, Dev.draw]
@[simp] theorem Dev.queueStep_keeps {L : Nat} {d0 : Dev} (d : Dev) (f : FrameRun) (hmask : 67108866 ||| L = L) (hkeep : Keeps L d0 d) : Keeps L d0 (Dev.queueStep d f) :=
  .after hmask (Dev.queueStep_keeps0 d f) hkeep

theorem Dev.frameEnd_keeps0 (d : Dev) (f : FrameRun) : Keeps 67108868 d (Dev.frameEnd d f) := by
  unfold Dev.frameEnd
  simp (maxSteps := 400000) (maxDischargeDepth := 99) +contextual [Keeps.foldl, Keeps.ite, Dev.draw]
@[simp] theorem Dev.frameEnd_keeps {L : Nat} {d0 : Dev} (d : Dev) (f : FrameRun) (hmask : 67108868 ||| L = L) (hkeep : Keeps L d0 d) : Keeps L d0 (Dev.frameEnd d f) :=
  .after hmask (Dev.frameEnd_keeps0 d f) hkeep

theorem Dev.stepEnded_keeps0 (d : Dev) (f : FrameRun) (s : StepRec) : Keeps 69353472 d (Dev.stepEnded d f s).2 := by
  unfold Dev.stepEnded
  first
    | (simp (maxSteps := 400000) (maxDischargeDepth := 99) +contextual [Keeps.foldl, Keeps.ite, Dev.draw]; done)
    | (try dsimp only); (repeat' split) <;> (simp (maxSteps := 400000) (maxDischargeDepth := 99) +contextual [Keeps.foldl, Keeps.ite, Dev.draw]; done)
@[simp] theorem Dev.stepEnded_keeps {L : Nat} {d0 : Dev} (d : Dev) (f : FrameRun) (s : StepRec) (hmask : 69353472 ||| L = L) (hkeep : Keeps L d0 d) : Keeps L d0 (Dev.stepEnded d f s).2 :=
  .after hmask (Dev.stepEnded_keeps0 d f s) hkeep

theorem Dev.halfStart_keeps0 (d : Dev) : Keeps 69206020 d (Dev.halfStart d) := by
  unfold Dev.halfStart
  (try dsimp only); (repeat' split) <;> simp (maxSteps := 400000) (maxDischargeDepth := 99) +contextual [Keeps.foldl, Keeps.ite, Dev.draw]
@[simp] theorem Dev.halfStart_keeps {L : Nat} {d0 : Dev} (d : Dev) (hmask : 69206020 ||| L = L) (hkeep : Keeps L d0 d) : Keeps L d0 (Dev.halfStart d) :=
  .after hmask (Dev.halfStart_keeps0 d) hkeep

theorem Dev.stepEnd_keeps0 (d : Dev) : Keeps 69353478 d (Dev.stepEnd d) := by
  unfold Dev.stepEnd
  (try dsimp only); (repeat' split) <;> simp (maxSteps := 400000) (maxDischargeDepth := 99) +contextual [Keeps.foldl, Keeps.ite, Dev.draw]
@[simp] theorem Dev.stepEnd_keeps {L : Nat} {d0 : Dev} (d : Dev) (hmask : 69353478 ||| L = L) (hkeep : Keeps L d0 d) : Keeps L d0 (Dev.stepEnd d) :=
  .after hmask (Dev.stepEnd_keeps0 d) hkeep

theorem Dev.turnTo_keeps0 (d : Dev) (page : Page) (interrupt : Bool) : Keeps 67108868 d (Dev.turnTo d page interrupt) := by
  unfold Dev.turnTo
  simp (maxSteps := 400000) (maxDischargeDepth := 99) +contextual [Keeps.foldl, Keeps.ite, Dev.draw]
@[simp] theorem Dev.turnTo_keeps {L : Nat} {d0 : Dev} (d : Dev) (page : Page) (interrupt : Bool) (hmask : 67108868 ||| L = L) (hkeep : Keeps L d0 d) : Keeps L d0 (Dev.turnTo d page interrupt) :=
  .after hmask (Dev.turnTo_keeps0 d page interrupt) hkeep

theorem Dev.frameStart_keeps0 (full imageOk : Bool) (rowRepeats : Nat) (d : Dev) : Keeps 67108871 d (Dev.frameStart full imageOk rowRepeats d) := by
  unfold Dev.frameStart
  simp (maxSteps := 400000) (maxDischargeDepth := 99) +contextual [Keeps.foldl, Keeps.ite, Dev.draw]
@[simp] theorem Dev.frameStart_keeps {L : Nat} {d0 : Dev} (full imageOk : Bool) (rowRepeats : Nat) (d : Dev) (hmask : 67108871 ||| L = L) (hkeep : Keeps L d0 d) : Keeps L d0 (Dev.frameStart full imageOk rowRepeats d) :=
  .after hmask (Dev.frameStart_keeps0 full imageOk rowRepeats d) hkeep

theorem Dev.railHoldExpiry_keeps0 (d : Dev) : Keeps 67108868 d (Dev.railHoldExpiry d) := by
  unfold Dev.railHoldExpiry
  (try dsimp only); (repeat' split) <;> simp (maxSteps := 400000) (maxDischargeDepth := 99) +contextual [Keeps.foldl, Keeps.ite, Dev.draw]
@[simp] theorem Dev.railHoldExpiry_keeps {L : Nat} {d0 : Dev} (d : Dev) (hmask : 67108868 ||| L = L) (hkeep : Keeps L d0 d) : Keeps L d0 (Dev.railHoldExpiry d) :=
  .after hmask (Dev.railHoldExpiry_keeps0 d) hkeep

theorem Dev.stopDisplay_keeps0 (d : Dev) : Keeps 67108868 d (Dev.stopDisplay d) := by
  unfold Dev.stopDisplay
  simp (maxSteps := 400000) (maxDischargeDepth := 99) +contextual [Keeps.foldl, Keeps.ite, Dev.draw]
@[simp] theorem Dev.stopDisplay_keeps {L : Nat} {d0 : Dev} (d : Dev) (hmask : 67108868 ||| L = L) (hkeep : Keeps L d0 d) : Keeps L d0 (Dev.stopDisplay d) :=
  .after hmask (Dev.stopDisplay_keeps0 d) hkeep

theorem Dev.displayGood_keeps0 (d : Dev) : Keeps 67108864 d (Dev.displayGood d) := by
  unfold Dev.displayGood
  simp (maxSteps := 400000) (maxDischargeDepth := 99) +contextual [Keeps.foldl, Keeps.ite, Dev.draw]
@[simp] theorem Dev.displayGood_keeps {L : Nat} {d0 : Dev} (d : Dev) (hmask : 67108864 ||| L = L) (hkeep : Keeps L d0 d) : Keeps L d0 (Dev.displayGood d) :=
  .after hmask (Dev.displayGood_keeps0 d) hkeep

theorem Dev.displayPfw_keeps0 (d : Dev) : Keeps 69353476 d (Dev.displayPfw d) := by
  unfold Dev.displayPfw
  (try dsimp only); (repeat' split) <;> simp (maxSteps := 400000) (maxDischargeDepth := 99) +contextual [Keeps.foldl, Keeps.ite, Dev.draw]
@[simp] theorem Dev.displayPfw_keeps {L : Nat} {d0 : Dev} (d : Dev) (hmask : 69353476 ||| L = L) (hkeep : Keeps L d0 d) : Keeps L d0 (Dev.displayPfw d) :=
  .after hmask (Dev.displayPfw_keeps0 d) hkeep

theorem Dev.repairPanel_keeps0 (d : Dev) : Keeps 69206022 d (Dev.repairPanel d) := by
  unfold Dev.repairPanel
  (try dsimp only); (repeat' split) <;> simp (maxSteps := 400000) (maxDischargeDepth := 99) +contextual [Keeps.foldl, Keeps.ite, Dev.draw]
@[simp] theorem Dev.repairPanel_keeps {L : Nat} {d0 : Dev} (d : Dev) (hmask : 69206022 ||| L = L) (hkeep : Keeps L d0 d) : Keeps L d0 (Dev.repairPanel d) :=
  .after hmask (Dev.repairPanel_keeps0 d) hkeep

theorem Dev.balanceRepair_keeps0 (d : Dev) : Keeps 69206022 d (Dev.balanceRepair d) := by
  unfold Dev.balanceRepair
  simp (maxSteps := 400000) (maxDischargeDepth := 99) +contextual [Keeps.foldl, Keeps.ite, Dev.draw]
@[simp] theorem Dev.balanceRepair_keeps {L : Nat} {d0 : Dev} (d : Dev) (hmask : 69206022 ||| L = L) (hkeep : Keeps L d0 d) : Keeps L d0 (Dev.balanceRepair d) :=
  .after hmask (Dev.balanceRepair_keeps0 d) hkeep

theorem Dev.startDisplay_keeps0 (d : Dev) : Keeps 69206022 d (Dev.startDisplay d) := by
  unfold Dev.startDisplay
  simp (maxSteps := 400000) (maxDischargeDepth := 99) +contextual [Keeps.foldl, Keeps.ite, Dev.draw]
@[simp] theorem Dev.startDisplay_keeps {L : Nat} {d0 : Dev} (d : Dev) (hmask : 69206022 ||| L = L) (hkeep : Keeps L d0 d) : Keeps L d0 (Dev.startDisplay d) :=
  .after hmask (Dev.startDisplay_keeps0 d) hkeep

theorem Dev.loadWave_keeps0 (d : Dev) (payload : Bytes) (version : Nat) : Keeps 201330694 d (Dev.loadWave d payload version) := by
  unfold Dev.loadWave
  simp (maxSteps := 400000) (maxDischargeDepth := 99) +contextual [Keeps.foldl, Keeps.ite, Dev.draw]
@[simp] theorem Dev.loadWave_keeps {L : Nat} {d0 : Dev} (d : Dev) (payload : Bytes) (version : Nat) (hmask : 201330694 ||| L = L) (hkeep : Keeps L d0 d) : Keeps L d0 (Dev.loadWave d payload version) :=
  .after hmask (Dev.loadWave_keeps0 d payload version) hkeep

theorem Dev.panelTemperature_keeps0 (sensor : Option (Fin 16)) (t : Int) (d : Dev) : Keeps 67108868 d (Dev.panelTemperature sensor t d) := by
  unfold Dev.panelTemperature
  (try dsimp only); (repeat' split) <;> simp (maxSteps := 400000) (maxDischargeDepth := 99) +contextual [Keeps.foldl, Keeps.ite, Dev.draw]
@[simp] theorem Dev.panelTemperature_keeps {L : Nat} {d0 : Dev} (sensor : Option (Fin 16)) (t : Int) (d : Dev) (hmask : 67108868 ||| L = L) (hkeep : Keeps L d0 d) : Keeps L d0 (Dev.panelTemperature sensor t d) :=
  .after hmask (Dev.panelTemperature_keeps0 sensor t d) hkeep

theorem Dev.fullRefresh_keeps0 (d : Dev) : Keeps 67108864 d (Dev.fullRefresh d) := by
  unfold Dev.fullRefresh
  simp (maxSteps := 400000) (maxDischargeDepth := 99) +contextual [Keeps.foldl, Keeps.ite, Dev.draw]
@[simp] theorem Dev.fullRefresh_keeps {L : Nat} {d0 : Dev} (d : Dev) (hmask : 67108864 ||| L = L) (hkeep : Keeps L d0 d) : Keeps L d0 (Dev.fullRefresh d) :=
  .after hmask (Dev.fullRefresh_keeps0 d) hkeep

theorem Dev.pageDwellExpiry_keeps0 (d : Dev) : Keeps 67108868 d (Dev.pageDwellExpiry d) := by
  unfold Dev.pageDwellExpiry
  simp (maxSteps := 400000) (maxDischargeDepth := 99) +contextual [Keeps.foldl, Keeps.ite, Dev.draw]
@[simp] theorem Dev.pageDwellExpiry_keeps {L : Nat} {d0 : Dev} (d : Dev) (hmask : 67108868 ||| L = L) (hkeep : Keeps L d0 d) : Keeps L d0 (Dev.pageDwellExpiry d) :=
  .after hmask (Dev.pageDwellExpiry_keeps0 d) hkeep

theorem Dev.interruptExpiry_keeps0 (d : Dev) : Keeps 67108864 d (Dev.interruptExpiry d) := by
  unfold Dev.interruptExpiry
  simp (maxSteps := 400000) (maxDischargeDepth := 99) +contextual [Keeps.foldl, Keeps.ite, Dev.draw]
@[simp] theorem Dev.interruptExpiry_keeps {L : Nat} {d0 : Dev} (d : Dev) (hmask : 67108864 ||| L = L) (hkeep : Keeps L d0 d) : Keeps L d0 (Dev.interruptExpiry d) :=
  .after hmask (Dev.interruptExpiry_keeps0 d) hkeep

theorem refreshNowServe_keeps0 (a : Ack) (u1_ : Val) (d : Dev) : Keeps 201330690 d (refreshNowServe a u1_ d) := by
  unfold refreshNowServe
  simp (maxSteps := 400000) (maxDischargeDepth := 99) +contextual [Keeps.foldl, Keeps.ite, Dev.draw]
@[simp] theorem refreshNowServe_keeps {L : Nat} {d0 : Dev} (a : Ack) (u1_ : Val) (d : Dev) (hmask : 201330690 ||| L = L) (hkeep : Keeps L d0 d) : Keeps L d0 (refreshNowServe a u1_ d) :=
  .after hmask (refreshNowServe_keeps0 a u1_ d) hkeep

theorem Dev.stopIslands_keeps0 (islands : List Nat) (d : Dev) : Keeps 4194340 d (Dev.stopIslands islands d) := by
  unfold Dev.stopIslands
  simp (maxSteps := 400000) (maxDischargeDepth := 99) +contextual [Keeps.foldl, Keeps.ite, Dev.draw]
@[simp] theorem Dev.stopIslands_keeps {L : Nat} {d0 : Dev} (islands : List Nat) (d : Dev) (hmask : 4194340 ||| L = L) (hkeep : Keeps L d0 d) : Keeps L d0 (Dev.stopIslands islands d) :=
  .after hmask (Dev.stopIslands_keeps0 islands d) hkeep

theorem Dev.startIslands_keeps0 (islands : List Nat) (d : Dev) : Keeps 32 d (Dev.startIslands islands d) := by
  unfold Dev.startIslands
  simp (maxSteps := 400000) (maxDischargeDepth := 99) +contextual [Keeps.foldl, Keeps.ite, Dev.draw]
@[simp] theorem Dev.startIslands_keeps {L : Nat} {d0 : Dev} (islands : List Nat) (d : Dev) (hmask : 32 ||| L = L) (hkeep : Keeps L d0 d) : Keeps L d0 (Dev.startIslands islands d) :=
  .after hmask (Dev.startIslands_keeps0 islands d) hkeep

theorem Dev.modemReset_keeps0 (d : Dev) (c : Fin 58) : Keeps 16384 d (Dev.modemReset d c) := by
  unfold Dev.modemReset
  simp (maxSteps := 400000) (maxDischargeDepth := 99) +contextual [Keeps.foldl, Keeps.ite, Dev.draw]
@[simp] theorem Dev.modemReset_keeps {L : Nat} {d0 : Dev} (d : Dev) (c : Fin 58) (hmask : 16384 ||| L = L) (hkeep : Keeps L d0 d) : Keeps L d0 (Dev.modemReset d c) :=
  .after hmask (Dev.modemReset_keeps0 d c) hkeep

theorem Dev.fabricDown_keeps0 (d : Dev) (l : List (Fin 58)) : Keeps 4210724 d (Dev.fabricDown d l) := by
  unfold Dev.fabricDown
  simp (maxSteps := 400000) (maxDischargeDepth := 99) +contextual [Keeps.foldl, Keeps.ite, Dev.draw]
@[simp] theorem Dev.fabricDown_keeps {L : Nat} {d0 : Dev} (d : Dev) (l : List (Fin 58)) (hmask : 4210724 ||| L = L) (hkeep : Keeps L d0 d) : Keeps L d0 (Dev.fabricDown d l) :=
  .after hmask (Dev.fabricDown_keeps0 d l) hkeep

theorem Dev.fabricUp_keeps0 (d : Dev) (l : List (Fin 58)) : Keeps 32 d (Dev.fabricUp d l) := by
  unfold Dev.fabricUp
  simp (maxSteps := 400000) (maxDischargeDepth := 99) +contextual [Keeps.foldl, Keeps.ite, Dev.draw]
@[simp] theorem Dev.fabricUp_keeps {L : Nat} {d0 : Dev} (d : Dev) (l : List (Fin 58)) (hmask : 32 ||| L = L) (hkeep : Keeps L d0 d) : Keeps L d0 (Dev.fabricUp d l) :=
  .after hmask (Dev.fabricUp_keeps0 d l) hkeep

theorem Dev.coreUp_keeps0 (d : Dev) (c : CoreId) : Keeps 288 d (Dev.coreUp d c) := by
  unfold Dev.coreUp
  simp (maxSteps := 400000) (maxDischargeDepth := 99) +contextual [Keeps.foldl, Keeps.ite, Dev.draw]
@[simp] theorem Dev.coreUp_keeps {L : Nat} {d0 : Dev} (d : Dev) (c : CoreId) (hmask : 288 ||| L = L) (hkeep : Keeps L d0 d) : Keeps L d0 (Dev.coreUp d c) :=
  .after hmask (Dev.coreUp_keeps0 d c) hkeep

theorem Dev.clockFaultAll_keeps0 (d : Dev) : Keeps 155652 d (Dev.clockFaultAll d) := by
  unfold Dev.clockFaultAll
  simp (maxSteps := 400000) (maxDischargeDepth := 99) +contextual [Keeps.foldl, Keeps.ite, Dev.draw]
@[simp] theorem Dev.clockFaultAll_keeps {L : Nat} {d0 : Dev} (d : Dev) (hmask : 155652 ||| L = L) (hkeep : Keeps L d0 d) : Keeps L d0 (Dev.clockFaultAll d) :=
  .after hmask (Dev.clockFaultAll_keeps0 d) hkeep

theorem Dev.metrologyLost_keeps0 (d : Dev) : Keeps 213872679 d (Dev.metrologyLost d) := by
  unfold Dev.metrologyLost
  simp (maxSteps := 400000) (maxDischargeDepth := 99) +contextual [Keeps.foldl, Keeps.ite, Dev.draw]
@[simp] theorem Dev.metrologyLost_keeps {L : Nat} {d0 : Dev} (d : Dev) (hmask : 213872679 ||| L = L) (hkeep : Keeps L d0 d) : Keeps L d0 (Dev.metrologyLost d) :=
  .after hmask (Dev.metrologyLost_keeps0 d) hkeep

theorem Dev.linkLost_keeps0 (d : Dev) (p : PortId) : Keeps 2846726 d (Dev.linkLost d p) := by
  unfold Dev.linkLost
  simp (maxSteps := 400000) (maxDischargeDepth := 99) +contextual [Keeps.foldl, Keeps.ite, Dev.draw]
@[simp] theorem Dev.linkLost_keeps {L : Nat} {d0 : Dev} (d : Dev) (p : PortId) (hmask : 2846726 ||| L = L) (hkeep : Keeps L d0 d) : Keeps L d0 (Dev.linkLost d p) :=
  .after hmask (Dev.linkLost_keeps0 d p) hkeep

theorem Dev.linksLost_keeps0 (d : Dev) : Keeps 2846726 d (Dev.linksLost d) := by
  unfold Dev.linksLost
  simp (maxSteps := 400000) (maxDischargeDepth := 99) +contextual [Keeps.foldl, Keeps.ite, Dev.draw]
@[simp] theorem Dev.linksLost_keeps {L : Nat} {d0 : Dev} (d : Dev) (hmask : 2846726 ||| L = L) (hkeep : Keeps L d0 d) : Keeps L d0 (Dev.linksLost d) :=
  .after hmask (Dev.linksLost_keeps0 d) hkeep

theorem Dev.linksBack_keeps0 (d : Dev) : Keeps 221188 d (Dev.linksBack d) := by
  unfold Dev.linksBack
  simp (maxSteps := 400000) (maxDischargeDepth := 99) +contextual [Keeps.foldl, Keeps.ite, Dev.draw]
@[simp] theorem Dev.linksBack_keeps {L : Nat} {d0 : Dev} (d : Dev) (hmask : 221188 ||| L = L) (hkeep : Keeps L d0 d) : Keeps L d0 (Dev.linksBack d) :=
  .after hmask (Dev.linksBack_keeps0 d) hkeep

theorem Dev.i7Stops_keeps0 (d : Dev) : Keeps 4350261 d (Dev.i7Stops d) := by
  unfold Dev.i7Stops
  simp (maxSteps := 400000) (maxDischargeDepth := 99) +contextual [Keeps.foldl, Keeps.ite, Dev.draw]
@[simp] theorem Dev.i7Stops_keeps {L : Nat} {d0 : Dev} (d : Dev) (hmask : 4350261 ||| L = L) (hkeep : Keeps L d0 d) : Keeps L d0 (Dev.i7Stops d) :=
  .after hmask (Dev.i7Stops_keeps0 d) hkeep

theorem Dev.i7Back_keeps0 (d : Dev) : Keeps 147504 d (Dev.i7Back d) := by
  unfold Dev.i7Back
  simp (maxSteps := 400000) (maxDischargeDepth := 99) +contextual [Keeps.foldl, Keeps.ite, Dev.draw]
@[simp] theorem Dev.i7Back_keeps {L : Nat} {d0 : Dev} (d : Dev) (hmask : 147504 ||| L = L) (hkeep : Keeps L d0 d) : Keeps L d0 (Dev.i7Back d) :=
  .after hmask (Dev.i7Back_keeps0 d) hkeep

theorem Dev.xt32Stops_keeps0 (d : Dev) : Keeps 4202556 d (Dev.xt32Stops d) := by
  unfold Dev.xt32Stops
  simp (maxSteps := 400000) (maxDischargeDepth := 99) +contextual [Keeps.foldl, Keeps.ite, Dev.draw]
@[simp] theorem Dev.xt32Stops_keeps {L : Nat} {d0 : Dev} (d : Dev) (hmask : 4202556 ||| L = L) (hkeep : Keeps L d0 d) : Keeps L d0 (Dev.xt32Stops d) :=
  .after hmask (Dev.xt32Stops_keeps0 d) hkeep

theorem Dev.ref16Stops_keeps0 (d : Dev) : Keeps 251621431 d (Dev.ref16Stops d) := by
  unfold Dev.ref16Stops
  simp (maxSteps := 400000) (maxDischargeDepth := 99) +contextual [Keeps.foldl, Keeps.ite, Dev.draw]
@[simp] theorem Dev.ref16Stops_keeps {L : Nat} {d0 : Dev} (d : Dev) (hmask : 251621431 ||| L = L) (hkeep : Keeps L d0 d) : Keeps L d0 (Dev.ref16Stops d) :=
  .after hmask (Dev.ref16Stops_keeps0 d) hkeep

theorem Dev.ref25Stops_keeps0 (d : Dev) : Keeps 7041078 d (Dev.ref25Stops d) := by
  unfold Dev.ref25Stops
  simp (maxSteps := 400000) (maxDischargeDepth := 99) +contextual [Keeps.foldl, Keeps.ite, Dev.draw]
@[simp] theorem Dev.ref25Stops_keeps {L : Nat} {d0 : Dev} (d : Dev) (hmask : 7041078 ||| L = L) (hkeep : Keeps L d0 d) : Keeps L d0 (Dev.ref25Stops d) :=
  .after hmask (Dev.ref25Stops_keeps0 d) hkeep

theorem Dev.i8Stops_keeps0 (d : Dev) : Keeps 71311412 d (Dev.i8Stops d) := by
  unfold Dev.i8Stops
  simp (maxSteps := 400000) (maxDischargeDepth := 99) +contextual [Keeps.foldl, Keeps.ite, Dev.draw]
@[simp] theorem Dev.i8Stops_keeps {L : Nat} {d0 : Dev} (d : Dev) (hmask : 71311412 ||| L = L) (hkeep : Keeps L d0 d) : Keeps L d0 (Dev.i8Stops d) :=
  .after hmask (Dev.i8Stops_keeps0 d) hkeep

theorem Dev.clockOut_keeps0 (c : ClockId) (d : Dev) : Keeps 251621695 d (Dev.clockOut c d) := by
  unfold Dev.clockOut
  (try dsimp only); (repeat' split) <;> simp (maxSteps := 400000) (maxDischargeDepth := 99) +contextual [Keeps.foldl, Keeps.ite, Dev.draw]
@[simp] theorem Dev.clockOut_keeps {L : Nat} {d0 : Dev} (c : ClockId) (d : Dev) (hmask : 251621695 ||| L = L) (hkeep : Keeps L d0 d) : Keeps L d0 (Dev.clockOut c d) :=
  .after hmask (Dev.clockOut_keeps0 c d) hkeep

theorem Dev.clockLost_keeps0 (c : ClockId) (d : Dev) : Keeps 251621695 d (Dev.clockLost c d) := by
  unfold Dev.clockLost
  simp (maxSteps := 400000) (maxDischargeDepth := 99) +contextual [Keeps.foldl, Keeps.ite, Dev.draw]
@[simp] theorem Dev.clockLost_keeps {L : Nat} {d0 : Dev} (c : ClockId) (d : Dev) (hmask : 251621695 ||| L = L) (hkeep : Keeps L d0 d) : Keeps L d0 (Dev.clockLost c d) :=
  .after hmask (Dev.clockLost_keeps0 c d) hkeep

theorem Dev.clockRecovered_keeps0 (c : ClockId) (d : Dev) : Keeps 67596340 d (Dev.clockRecovered c d) := by
  unfold Dev.clockRecovered
  (try dsimp only); (repeat' split) <;> simp (maxSteps := 400000) (maxDischargeDepth := 99) +contextual [Keeps.foldl, Keeps.ite, Dev.draw]
@[simp] theorem Dev.clockRecovered_keeps {L : Nat} {d0 : Dev} (c : ClockId) (d : Dev) (hmask : 67596340 ||| L = L) (hkeep : Keeps L d0 d) : Keeps L d0 (Dev.clockRecovered c d) :=
  .after hmask (Dev.clockRecovered_keeps0 c d) hkeep

theorem Dev.crossCheck_keeps0 (n1 : Nat) (n6 : Option Nat) (d : Dev) : Keeps 251621695 d (Dev.crossCheck n1 n6 d) := by
  unfold Dev.crossCheck
  (try dsimp only); (repeat' split) <;> simp (maxSteps := 400000) (maxDischargeDepth := 99) +contextual [Keeps.foldl, Keeps.ite, Dev.draw]
@[simp] theorem Dev.crossCheck_keeps {L : Nat} {d0 : Dev} (n1 : Nat) (n6 : Option Nat) (d : Dev) (hmask : 251621695 ||| L = L) (hkeep : Keeps L d0 d) : Keeps L d0 (Dev.crossCheck n1 n6 d) :=
  .after hmask (Dev.crossCheck_keeps0 n1 n6 d) hkeep

theorem Dev.unitRejoins_keeps0 (d : Dev) (c : Fin 58) : Keeps 33976324 d (Dev.unitRejoins d c) := by
  unfold Dev.unitRejoins
  simp (maxSteps := 400000) (maxDischargeDepth := 99) +contextual [Keeps.foldl, Keeps.ite, Dev.draw]
@[simp] theorem Dev.unitRejoins_keeps {L : Nat} {d0 : Dev} (d : Dev) (c : Fin 58) (hmask : 33976324 ||| L = L) (hkeep : Keeps L d0 d) : Keeps L d0 (Dev.unitRejoins d c) :=
  .after hmask (Dev.unitRejoins_keeps0 d c) hkeep

theorem Dev.crossingSideReset_keeps0 (c : Fin 58) (side : Side) (d : Dev) : Keeps 38170660 d (Dev.crossingSideReset c side d) := by
  unfold Dev.crossingSideReset
  (try dsimp only); (repeat' split) <;> simp (maxSteps := 400000) (maxDischargeDepth := 99) +contextual [Keeps.foldl, Keeps.ite, Dev.draw]
@[simp] theorem Dev.crossingSideReset_keeps {L : Nat} {d0 : Dev} (c : Fin 58) (side : Side) (d : Dev) (hmask : 38170660 ||| L = L) (hkeep : Keeps L d0 d) : Keeps L d0 (Dev.crossingSideReset c side d) :=
  .after hmask (Dev.crossingSideReset_keeps0 c side d) hkeep

theorem Dev.measurementDieLost_keeps0 (d : Dev) : Keeps 213872679 d (Dev.measurementDieLost d) := by
  unfold Dev.measurementDieLost
  simp (maxSteps := 400000) (maxDischargeDepth := 99) +contextual [Keeps.foldl, Keeps.ite, Dev.draw]
@[simp] theorem Dev.measurementDieLost_keeps {L : Nat} {d0 : Dev} (d : Dev) (hmask : 213872679 ||| L = L) (hkeep : Keeps L d0 d) : Keeps L d0 (Dev.measurementDieLost d) :=
  .after hmask (Dev.measurementDieLost_keeps0 d) hkeep

theorem Dev.recordHold_keeps0 (d : Dev) (source : Nat) : Keeps 8196 d (Dev.recordHold d source) := by
  unfold Dev.recordHold
  simp (maxSteps := 400000) (maxDischargeDepth := 99) +contextual [Keeps.foldl, Keeps.ite, Dev.draw]
@[simp] theorem Dev.recordHold_keeps {L : Nat} {d0 : Dev} (d : Dev) (source : Nat) (hmask : 8196 ||| L = L) (hkeep : Keeps L d0 d) : Keeps L d0 (Dev.recordHold d source) :=
  .after hmask (Dev.recordHold_keeps0 d source) hkeep

theorem Dev.expireShadows_keeps0 (d : Dev) : Keeps 2048 d (Dev.expireShadows d) := by
  unfold Dev.expireShadows
  simp (maxSteps := 400000) (maxDischargeDepth := 99) +contextual [Keeps.foldl, Keeps.ite, Dev.draw]
@[simp] theorem Dev.expireShadows_keeps {L : Nat} {d0 : Dev} (d : Dev) (hmask : 2048 ||| L = L) (hkeep : Keeps L d0 d) : Keeps L d0 (Dev.expireShadows d) :=
  .after hmask (Dev.expireShadows_keeps0 d) hkeep

@[simp] theorem Dev.resetTo_keeps {L : Nat} {d0 : Dev} (d : Dev) (st : PowerState) (step : Nat) (journal : Bool) (hmask : 268435455 ||| L = L) (hkeep : Keeps L d0 d) : Keeps L d0 (Dev.resetTo d st step journal) :=
  .after hmask (.all _ _) hkeep

theorem Dev.enterStarting_keeps0 (d : Dev) : Keeps 1024 d (Dev.enterStarting d) := by
  unfold Dev.enterStarting
  simp (maxSteps := 400000) (maxDischargeDepth := 99) +contextual [Keeps.foldl, Keeps.ite, Dev.draw]
@[simp] theorem Dev.enterStarting_keeps {L : Nat} {d0 : Dev} (d : Dev) (hmask : 1024 ||| L = L) (hkeep : Keeps L d0 d) : Keeps L d0 (Dev.enterStarting d) :=
  .after hmask (Dev.enterStarting_keeps0 d) hkeep

theorem Dev.startAgain_keeps0 (d : Dev) : Keeps 1024 d (Dev.startAgain d) := by
  unfold Dev.startAgain
  simp (maxSteps := 400000) (maxDischargeDepth := 99) +contextual [Keeps.foldl, Keeps.ite, Dev.draw]
@[simp] theorem Dev.startAgain_keeps {L : Nat} {d0 : Dev} (d : Dev) (hmask : 1024 ||| L = L) (hkeep : Keeps L d0 d) : Keeps L d0 (Dev.startAgain d) :=
  .after hmask (Dev.startAgain_keeps0 d) hkeep

@[simp] theorem Dev.internalReset_keeps {L : Nat} {d0 : Dev} (d : Dev) (hmask : 268435455 ||| L = L) (hkeep : Keeps L d0 d) : Keeps L d0 (Dev.internalReset d) :=
  .after hmask (.all _ _) hkeep

theorem Dev.shutdownPorts_keeps0 (d : Dev) : Keeps 155654 d (Dev.shutdownPorts d) := by
  unfold Dev.shutdownPorts
  simp (maxSteps := 400000) (maxDischargeDepth := 99) +contextual [Keeps.foldl, Keeps.ite, Dev.draw]
@[simp] theorem Dev.shutdownPorts_keeps {L : Nat} {d0 : Dev} (d : Dev) (hmask : 155654 ||| L = L) (hkeep : Keeps L d0 d) : Keeps L d0 (Dev.shutdownPorts d) :=
  .after hmask (Dev.shutdownPorts_keeps0 d) hkeep

theorem Dev.shedLoads_keeps0 (d : Dev) : Keeps 107104260 d (Dev.shedLoads d) := by
  unfold Dev.shedLoads
  simp (maxSteps := 400000) (maxDischargeDepth := 99) +contextual [Keeps.foldl, Keeps.ite, Dev.draw]
@[simp] theorem Dev.shedLoads_keeps {L : Nat} {d0 : Dev} (d : Dev) (hmask : 107104260 ||| L = L) (hkeep : Keeps L d0 d) : Keeps L d0 (Dev.shedLoads d) :=
  .after hmask (Dev.shedLoads_keeps0 d) hkeep

@[simp] theorem Dev.beginShutdown_keeps {L : Nat} {d0 : Dev} (d : Dev) (cause : Nat) (hmask : 268435455 ||| L = L) (hkeep : Keeps L d0 d) : Keeps L d0 (Dev.beginShutdown d cause) :=
  .after hmask (.all _ _) hkeep

@[simp] theorem Dev.finalWritten_keeps {L : Nat} {d0 : Dev} (d : Dev) (readBackOk : Bool) (hmask : 268435455 ||| L = L) (hkeep : Keeps L d0 d) : Keeps L d0 (Dev.finalWritten d readBackOk) :=
  .after hmask (.all _ _) hkeep

@[simp] theorem Dev.finalCommitTimeout_keeps {L : Nat} {d0 : Dev} (d : Dev) (hmask : 268435455 ||| L = L) (hkeep : Keeps L d0 d) : Keeps L d0 (Dev.finalCommitTimeout d) :=
  .after hmask (.all _ _) hkeep

@[simp] theorem Dev.pfw_keeps {L : Nat} {d0 : Dev} (d : Dev) (hmask : 268435455 ||| L = L) (hkeep : Keeps L d0 d) : Keeps L d0 (Dev.pfw d) :=
  .after hmask (.all _ _) hkeep

@[simp] theorem Dev.resetNLow_keeps {L : Nat} {d0 : Dev} (us : Nat) (d : Dev) (hmask : 268435455 ||| L = L) (hkeep : Keeps L d0 d) : Keeps L d0 (Dev.resetNLow us d) :=
  .after hmask (.all _ _) hkeep

theorem Dev.pfwRecovery_keeps0 (d : Dev) : Keeps 1024 d (Dev.pfwRecovery d) := by
  unfold Dev.pfwRecovery
  simp (maxSteps := 400000) (maxDischargeDepth := 99) +contextual [Keeps.foldl, Keeps.ite, Dev.draw]
@[simp] theorem Dev.pfwRecovery_keeps {L : Nat} {d0 : Dev} (d : Dev) (hmask : 1024 ||| L = L) (hkeep : Keeps L d0 d) : Keeps L d0 (Dev.pfwRecovery d) :=
  .after hmask (Dev.pfwRecovery_keeps0 d) hkeep

theorem Dev.setRail_keeps0 (d : Dev) (r : Rail) (good : Bool) : Keeps 1024 d (Dev.setRail d r good) := by
  unfold Dev.setRail
  simp (maxSteps := 400000) (maxDischargeDepth := 99) +contextual [Keeps.foldl, Keeps.ite, Dev.draw]
@[simp] theorem Dev.setRail_keeps {L : Nat} {d0 : Dev} (d : Dev) (r : Rail) (good : Bool) (hmask : 1024 ||| L = L) (hkeep : Keeps L d0 d) : Keeps L d0 (Dev.setRail d r good) :=
  .after hmask (Dev.setRail_keeps0 d r good) hkeep

@[simp] theorem Dev.railReset_keeps {L : Nat} {d0 : Dev} (d : Dev) (r : Rail) (hmask : 268435455 ||| L = L) (hkeep : Keeps L d0 d) : Keeps L d0 (Dev.railReset d r) :=
  .after hmask (.all _ _) hkeep

@[simp] theorem Dev.railMonitorTrip_keeps {L : Nat} {d0 : Dev} (r : Rail) (d : Dev) (hmask : 268435455 ||| L = L) (hkeep : Keeps L d0 d) : Keeps L d0 (Dev.railMonitorTrip r d) :=
  .after hmask (.all _ _) hkeep

theorem Dev.storeEvents_keeps0 (d : Dev) : Keeps 8192 d (Dev.storeEvents d) := by
  unfold Dev.storeEvents
  simp (maxSteps := 400000) (maxDischargeDepth := 99) +contextual [Keeps.foldl, Keeps.ite, Dev.draw]
@[simp] theorem Dev.storeEvents_keeps {L : Nat} {d0 : Dev} (d : Dev) (hmask : 8192 ||| L = L) (hkeep : Keeps L d0 d) : Keeps L d0 (Dev.storeEvents d) :=
  .after hmask (Dev.storeEvents_keeps0 d) hkeep

theorem Dev.storeUnstored_keeps0 (d : Dev) : Keeps 11018245 d (Dev.storeUnstored d) := by
  unfold Dev.storeUnstored
  simp (maxSteps := 400000) (maxDischargeDepth := 99) +contextual [Keeps.foldl, Keeps.ite, Dev.draw]
@[simp] theorem Dev.storeUnstored_keeps {L : Nat} {d0 : Dev} (d : Dev) (hmask : 11018245 ||| L = L) (hkeep : Keeps L d0 d) : Keeps L d0 (Dev.storeUnstored d) :=
  .after hmask (Dev.storeUnstored_keeps0 d) hkeep

theorem Dev.railRecovered_keeps0 (r : Rail) (d : Dev) : Keeps 78341157 d (Dev.railRecovered r d) := by
  unfold Dev.railRecovered
  (try dsimp only); (repeat' split) <;> simp (maxSteps := 400000) (maxDischargeDepth := 99) +contextual [Keeps.foldl, Keeps.ite, Dev.draw]
@[simp] theorem Dev.railRecovered_keeps {L : Nat} {d0 : Dev} (r : Rail) (d : Dev) (hmask : 78341157 ||| L = L) (hkeep : Keeps L d0 d) : Keeps L d0 (Dev.railRecovered r d) :=
  .after hmask (Dev.railRecovered_keeps0 r d) hkeep

theorem Dev.mainRailsDown_keeps0 (d : Dev) : Keeps 1024 d (Dev.mainRailsDown d) := by
  unfold Dev.mainRailsDown
  simp (maxSteps := 400000) (maxDischargeDepth := 99) +contextual [Keeps.foldl, Keeps.ite, Dev.draw]
@[simp] theorem Dev.mainRailsDown_keeps {L : Nat} {d0 : Dev} (d : Dev) (hmask : 1024 ||| L = L) (hkeep : Keeps L d0 d) : Keeps L d0 (Dev.mainRailsDown d) :=
  .after hmask (Dev.mainRailsDown_keeps0 d) hkeep

theorem Dev.railsGood_keeps0 (d : Dev) : Keeps 1028 d (Dev.railsGood d) := by
  unfold Dev.railsGood
  (try dsimp only); (repeat' split) <;> simp (maxSteps := 400000) (maxDischargeDepth := 99) +contextual [Keeps.foldl, Keeps.ite, Dev.draw]
@[simp] theorem Dev.railsGood_keeps {L : Nat} {d0 : Dev} (d : Dev) (hmask : 1028 ||| L = L) (hkeep : Keeps L d0 d) : Keeps L d0 (Dev.railsGood d) :=
  .after hmask (Dev.railsGood_keeps0 d) hkeep

theorem Dev.resetNHigh_keeps0 (d : Dev) : Keeps 1024 d (Dev.resetNHigh d) := by
  unfold Dev.resetNHigh
  simp (maxSteps := 400000) (maxDischargeDepth := 99) +contextual [Keeps.foldl, Keeps.ite, Dev.draw]
@[simp] theorem Dev.resetNHigh_keeps {L : Nat} {d0 : Dev} (d : Dev) (hmask : 1024 ||| L = L) (hkeep : Keeps L d0 d) : Keeps L d0 (Dev.resetNHigh d) :=
  .after hmask (Dev.resetNHigh_keeps0 d) hkeep

theorem Dev.vbatLoss_keeps0 (d : Dev) : Keeps 1024 d (Dev.vbatLoss d) := by
  unfold Dev.vbatLoss
  simp (maxSteps := 400000) (maxDischargeDepth := 99) +contextual [Keeps.foldl, Keeps.ite, Dev.draw]
@[simp] theorem Dev.vbatLoss_keeps {L : Nat} {d0 : Dev} (d : Dev) (hmask : 1024 ||| L = L) (hkeep : Keeps L d0 d) : Keeps L d0 (Dev.vbatLoss d) :=
  .after hmask (Dev.vbatLoss_keeps0 d) hkeep

theorem Dev.vbatTamperAlarm_keeps0 (source : Fin 8) (sub : Fin 32768) (low : Bool) (d : Dev) : Keeps 1028 d (Dev.vbatTamperAlarm source sub low d) := by
  unfold Dev.vbatTamperAlarm
  simp (maxSteps := 400000) (maxDischargeDepth := 99) +contextual [Keeps.foldl, Keeps.ite, Dev.draw]
@[simp] theorem Dev.vbatTamperAlarm_keeps {L : Nat} {d0 : Dev} (source : Fin 8) (sub : Fin 32768) (low : Bool) (d : Dev) (hmask : 1028 ||| L = L) (hkeep : Keeps L d0 d) : Keeps L d0 (Dev.vbatTamperAlarm source sub low d) :=
  .after hmask (Dev.vbatTamperAlarm_keeps0 source sub low d) hkeep

theorem Dev.tamperEvent_keeps0 (d : Dev) (source : Nat) (entered : Bool) (detail : Int) : Keeps 8192 d (Dev.tamperEvent d source entered detail) := by
  unfold Dev.tamperEvent
  simp (maxSteps := 400000) (maxDischargeDepth := 99) +contextual [Keeps.foldl, Keeps.ite, Dev.draw]
@[simp] theorem Dev.tamperEvent_keeps {L : Nat} {d0 : Dev} (d : Dev) (source : Nat) (entered : Bool) (detail : Int) (hmask : 8192 ||| L = L) (hkeep : Keeps L d0 d) : Keeps L d0 (Dev.tamperEvent d source entered detail) :=
  .after hmask (Dev.tamperEvent_keeps0 d source entered detail) hkeep

theorem Dev.tamperLogged_keeps0 (d : Dev) (source : Nat) (detail : Int) : Keeps 8396804 d (Dev.tamperLogged d source detail) := by
  unfold Dev.tamperLogged
  simp (maxSteps := 400000) (maxDischargeDepth := 99) +contextual [Keeps.foldl, Keeps.ite, Dev.draw]
@[simp] theorem Dev.tamperLogged_keeps {L : Nat} {d0 : Dev} (d : Dev) (source : Nat) (detail : Int) (hmask : 8396804 ||| L = L) (hkeep : Keeps L d0 d) : Keeps L d0 (Dev.tamperLogged d source detail) :=
  .after hmask (Dev.tamperLogged_keeps0 d source detail) hkeep

theorem Dev.zeroContexts_keeps0 (d : Dev) : Keeps 8392704 d (Dev.zeroContexts d) := by
  unfold Dev.zeroContexts
  simp (maxSteps := 400000) (maxDischargeDepth := 99) +contextual [Keeps.foldl, Keeps.ite, Dev.draw]
@[simp] theorem Dev.zeroContexts_keeps {L : Nat} {d0 : Dev} (d : Dev) (hmask : 8392704 ||| L = L) (hkeep : Keeps L d0 d) : Keeps L d0 (Dev.zeroContexts d) :=
  .after hmask (Dev.zeroContexts_keeps0 d) hkeep

theorem Dev.zeroise_keeps0 (d : Dev) : Keeps 44781606 d (Dev.zeroise d) := by
  unfold Dev.zeroise
  simp (maxSteps := 400000) (maxDischargeDepth := 99) +contextual [Keeps.foldl, Keeps.ite, Dev.draw]
@[simp] theorem Dev.zeroise_keeps {L : Nat} {d0 : Dev} (d : Dev) (hmask : 44781606 ||| L = L) (hkeep : Keeps L d0 d) : Keeps L d0 (Dev.zeroise d) :=
  .after hmask (Dev.zeroise_keeps0 d) hkeep

@[simp] theorem Dev.respond_keeps {L : Nat} {d0 : Dev} (d : Dev) (source : Nat) (detail : Int) (hmask : 268435455 ||| L = L) (hkeep : Keeps L d0 d) : Keeps L d0 (Dev.respond d source detail) :=
  .after hmask (.all _ _) hkeep

theorem Dev.setAlarm_keeps0 (d : Dev) (source : Nat) (on : Bool) : Keeps 4 d (Dev.setAlarm d source on) := by
  unfold Dev.setAlarm
  simp (maxSteps := 400000) (maxDischargeDepth := 99) +contextual [Keeps.foldl, Keeps.ite, Dev.draw]
@[simp] theorem Dev.setAlarm_keeps {L : Nat} {d0 : Dev} (d : Dev) (source : Nat) (on : Bool) (hmask : 4 ||| L = L) (hkeep : Keeps L d0 d) : Keeps L d0 (Dev.setAlarm d source on) :=
  .after hmask (Dev.setAlarm_keeps0 d source on) hkeep

theorem Dev.holdStop_keeps0 (d : Dev) (p : PortId) : Keeps 2838534 d (Dev.holdStop d p) := by
  unfold Dev.holdStop
  (try dsimp only); (repeat' split) <;> simp (maxSteps := 400000) (maxDischargeDepth := 99) +contextual [Keeps.foldl, Keeps.ite, Dev.draw]
@[simp] theorem Dev.holdStop_keeps {L : Nat} {d0 : Dev} (d : Dev) (p : PortId) (hmask : 2838534 ||| L = L) (hkeep : Keeps L d0 d) : Keeps L d0 (Dev.holdStop d p) :=
  .after hmask (Dev.holdStop_keeps0 d p) hkeep

theorem Dev.holdLeave_keeps0 (d : Dev) : Keeps 41947174 d (Dev.holdLeave d) := by
  unfold Dev.holdLeave
  simp (maxSteps := 400000) (maxDischargeDepth := 99) +contextual [Keeps.foldl, Keeps.ite, Dev.draw]
@[simp] theorem Dev.holdLeave_keeps {L : Nat} {d0 : Dev} (d : Dev) (hmask : 41947174 ||| L = L) (hkeep : Keeps L d0 d) : Keeps L d0 (Dev.holdLeave d) :=
  .after hmask (Dev.holdLeave_keeps0 d) hkeep

theorem Dev.enterHold_keeps0 (d : Dev) (source : Nat) : Keeps 44790822 d (Dev.enterHold d source) := by
  unfold Dev.enterHold
  simp (maxSteps := 400000) (maxDischargeDepth := 99) +contextual [Keeps.foldl, Keeps.ite, Dev.draw]
@[simp] theorem Dev.enterHold_keeps {L : Nat} {d0 : Dev} (d : Dev) (source : Nat) (hmask : 44790822 ||| L = L) (hkeep : Keeps L d0 d) : Keeps L d0 (Dev.enterHold d source) :=
  .after hmask (Dev.enterHold_keeps0 d source) hkeep

theorem Dev.holdTick_keeps0 (d : Dev) : Keeps 44790822 d (Dev.holdTick d) := by
  unfold Dev.holdTick
  (try dsimp only); (repeat' split) <;> simp (maxSteps := 400000) (maxDischargeDepth := 99) +contextual [Keeps.foldl, Keeps.ite, Dev.draw]
@[simp] theorem Dev.holdTick_keeps {L : Nat} {d0 : Dev} (d : Dev) (hmask : 44790822 ||| L = L) (hkeep : Keeps L d0 d) : Keeps L d0 (Dev.holdTick d) :=
  .after hmask (Dev.holdTick_keeps0 d) hkeep

theorem Dev.holdCleared_keeps0 (d : Dev) (slot : Nat) : Keeps 25604 d (Dev.holdCleared d slot) := by
  unfold Dev.holdCleared
  simp (maxSteps := 400000) (maxDischargeDepth := 99) +contextual [Keeps.foldl, Keeps.ite, Dev.draw]
@[simp] theorem Dev.holdCleared_keeps {L : Nat} {d0 : Dev} (d : Dev) (slot : Nat) (hmask : 25604 ||| L = L) (hkeep : Keeps L d0 d) : Keeps L d0 (Dev.holdCleared d slot) :=
  .after hmask (Dev.holdCleared_keeps0 d slot) hkeep

@[simp] theorem Dev.tamperAlarm_keeps {L : Nat} {d0 : Dev} (source : Nat) (detail : Int) (d : Dev) (hmask : 268435455 ||| L = L) (hkeep : Keeps L d0 d) : Keeps L d0 (Dev.tamperAlarm source detail d) :=
  .after hmask (.all _ _) hkeep

theorem Dev.tamperAlarmEnd_keeps0 (source : Nat) (detail : Int) (d : Dev) : Keeps 8196 d (Dev.tamperAlarmEnd source detail d) := by
  unfold Dev.tamperAlarmEnd
  simp (maxSteps := 400000) (maxDischargeDepth := 99) +contextual [Keeps.foldl, Keeps.ite, Dev.draw]
@[simp] theorem Dev.tamperAlarmEnd_keeps {L : Nat} {d0 : Dev} (source : Nat) (detail : Int) (d : Dev) (hmask : 8196 ||| L = L) (hkeep : Keeps L d0 d) : Keeps L d0 (Dev.tamperAlarmEnd source detail d) :=
  .after hmask (Dev.tamperAlarmEnd_keeps0 source detail d) hkeep

@[simp] theorem Dev.reportChecks_keeps {L : Nat} {d0 : Dev} (d : Dev) (hmask : 268435455 ||| L = L) (hkeep : Keeps L d0 d) : Keeps L d0 (Dev.reportChecks d) :=
  .after hmask (.all _ _) hkeep

@[simp] theorem Dev.ringCommitEvent_keeps {L : Nat} {d0 : Dev} (readBackOk : Bool) (durationUs : Nat) (d : Dev) (hmask : 268435455 ||| L = L) (hkeep : Keeps L d0 d) : Keeps L d0 (Dev.ringCommitEvent readBackOk durationUs d) :=
  .after hmask (.all _ _) hkeep

@[simp] theorem Dev.levelsRaised_keeps {L : Nat} {d0 : Dev} (d : Dev) (old : Nat → Nat) (hmask : 268435455 ||| L = L) (hkeep : Keeps L d0 d) : Keeps L d0 (Dev.levelsRaised d old) :=
  .after hmask (.all _ _) hkeep

theorem clearHoldServe_keeps0 (a : Ack) (u1_ : Val) (d : Dev) : Keeps 134223878 d (clearHoldServe a u1_ d) := by
  unfold clearHoldServe
  simp (maxSteps := 400000) (maxDischargeDepth := 99) +contextual [Keeps.foldl, Keeps.ite, Dev.draw]
@[simp] theorem clearHoldServe_keeps {L : Nat} {d0 : Dev} (a : Ack) (u1_ : Val) (d : Dev) (hmask : 134223878 ||| L = L) (hkeep : Keeps L d0 d) : Keeps L d0 (clearHoldServe a u1_ d) :=
  .after hmask (clearHoldServe_keeps0 a u1_ d) hkeep

end Sys2Proof.Machine
end

