-- ==== Sys2Proof/Laws/FramesUpdate.lean ====
section
/-! SUPPORT. What each function leaves alone: updates. -/

set_option linter.unusedSimpArgs false
set_option linter.unusedTactic false
set_option linter.unreachableTactic false
set_option linter.unnecessarySeqFocus false

namespace Sys2Proof.Machine

theorem Dev.setUpdate_keeps0 (d : Dev) (f : Update → Update) : Keeps 16777216 d (Dev.setUpdate d f) := by
  unfold Dev.setUpdate
  simp (maxSteps := 400000) (maxDischargeDepth := 99) +contextual [Keeps.foldl, Keeps.ite, Dev.draw]
@[simp] theorem Dev.setUpdate_keeps {L : Nat} {d0 : Dev} (d : Dev) (f : Update → Update) (hmask : 16777216 ||| L = L) (hkeep : Keeps L d0 d) : Keeps L d0 (Dev.setUpdate d f) :=
  .after hmask (Dev.setUpdate_keeps0 d f) hkeep

theorem Dev.recordSlot_keeps0 (d : Dev) (t : Nat) (k : Bool) (x : ImageHdr × Bytes) (state : Nat) : Keeps 16777220 d (Dev.recordSlot d t k x state) := by
  unfold Dev.recordSlot
  simp (maxSteps := 400000) (maxDischargeDepth := 99) +contextual [Keeps.foldl, Keeps.ite, Dev.draw]
@[simp] theorem Dev.recordSlot_keeps {L : Nat} {d0 : Dev} (d : Dev) (t : Nat) (k : Bool) (x : ImageHdr × Bytes) (state : Nat) (hmask : 16777220 ||| L = L) (hkeep : Keeps L d0 d) : Keeps L d0 (Dev.recordSlot d t k x state) :=
  .after hmask (Dev.recordSlot_keeps0 d t k x state) hkeep

theorem Dev.activateSlot_keeps0 (d : Dev) (t : Nat) (k : Bool) : Keeps 4 d (Dev.activateSlot d t k) := by
  unfold Dev.activateSlot
  simp (maxSteps := 400000) (maxDischargeDepth := 99) +contextual [Keeps.foldl, Keeps.ite, Dev.draw]
@[simp] theorem Dev.activateSlot_keeps {L : Nat} {d0 : Dev} (d : Dev) (t : Nat) (k : Bool) (hmask : 4 ||| L = L) (hkeep : Keeps L d0 d) : Keeps L d0 (Dev.activateSlot d t k) :=
  .after hmask (Dev.activateSlot_keeps0 d t k) hkeep

theorem Dev.setStaged_keeps0 (d : Dev) (i : Nat) (x : Option (ImageHdr × Bytes)) : Keeps 16777216 d (Dev.setStaged d i x) := by
  unfold Dev.setStaged
  simp (maxSteps := 400000) (maxDischargeDepth := 99) +contextual [Keeps.foldl, Keeps.ite, Dev.draw]
@[simp] theorem Dev.setStaged_keeps {L : Nat} {d0 : Dev} (d : Dev) (i : Nat) (x : Option (ImageHdr × Bytes)) (hmask : 16777216 ||| L = L) (hkeep : Keeps L d0 d) : Keeps L d0 (Dev.setStaged d i x) :=
  .after hmask (Dev.setStaged_keeps0 d i x) hkeep

theorem Dev.clearStaging_keeps0 (d : Dev) (i state : Nat) : Keeps 16777220 d (Dev.clearStaging d i state) := by
  unfold Dev.clearStaging
  simp (maxSteps := 400000) (maxDischargeDepth := 99) +contextual [Keeps.foldl, Keeps.ite, Dev.draw]
@[simp] theorem Dev.clearStaging_keeps {L : Nat} {d0 : Dev} (d : Dev) (i state : Nat) (hmask : 16777220 ||| L = L) (hkeep : Keeps L d0 d) : Keeps L d0 (Dev.clearStaging d i state) :=
  .after hmask (Dev.clearStaging_keeps0 d i state) hkeep

theorem Dev.failStaging_keeps0 (d : Dev) (i code : Nat) : Keeps 4 d (Dev.failStaging d i code) := by
  unfold Dev.failStaging
  simp (maxSteps := 400000) (maxDischargeDepth := 99) +contextual [Keeps.foldl, Keeps.ite, Dev.draw]
@[simp] theorem Dev.failStaging_keeps {L : Nat} {d0 : Dev} (d : Dev) (i code : Nat) (hmask : 4 ||| L = L) (hkeep : Keeps L d0 d) : Keeps L d0 (Dev.failStaging d i code) :=
  .after hmask (Dev.failStaging_keeps0 d i code) hkeep

theorem Dev.headerCheckDone_keeps0 (i : Fin 8) (sigOk : Bool) (d : Dev) : Keeps 4 d (Dev.headerCheckDone i sigOk d) := by
  unfold Dev.headerCheckDone
  (try dsimp only); (repeat' split) <;> simp (maxSteps := 400000) (maxDischargeDepth := 99) +contextual [Keeps.foldl, Keeps.ite, Dev.draw]
@[simp] theorem Dev.headerCheckDone_keeps {L : Nat} {d0 : Dev} (i : Fin 8) (sigOk : Bool) (d : Dev) (hmask : 4 ||| L = L) (hkeep : Keeps L d0 d) : Keeps L d0 (Dev.headerCheckDone i sigOk d) :=
  .after hmask (Dev.headerCheckDone_keeps0 i sigOk d) hkeep

theorem Dev.imageChunk_keeps0 (d : Dev) (i : Fin 8) (data : Bytes) (a : Ack) : Keeps 151146502 d (Dev.imageChunk d i data a) := by
  unfold Dev.imageChunk
  (try dsimp only); (repeat' split) <;> simp (maxSteps := 400000) (maxDischargeDepth := 99) +contextual [Keeps.foldl, Keeps.ite, Dev.draw]
@[simp] theorem Dev.imageChunk_keeps {L : Nat} {d0 : Dev} (d : Dev) (i : Fin 8) (data : Bytes) (a : Ack) (hmask : 151146502 ||| L = L) (hkeep : Keeps L d0 d) : Keeps L d0 (Dev.imageChunk d i data a) :=
  .after hmask (Dev.imageChunk_keeps0 d i data a) hkeep

theorem Dev.payloadHashDone_keeps0 (i : Fin 8) (ok : Bool) (d : Dev) : Keeps 134221830 d (Dev.payloadHashDone i ok d) := by
  unfold Dev.payloadHashDone
  simp (maxSteps := 400000) (maxDischargeDepth := 99) +contextual [Keeps.foldl, Keeps.ite, Dev.draw]
@[simp] theorem Dev.payloadHashDone_keeps {L : Nat} {d0 : Dev} (i : Fin 8) (ok : Bool) (d : Dev) (hmask : 134221830 ||| L = L) (hkeep : Keeps L d0 d) : Keeps L d0 (Dev.payloadHashDone i ok d) :=
  .after hmask (Dev.payloadHashDone_keeps0 i ok d) hkeep

theorem Dev.planNote_keeps0 (d : Dev) (switch : Bool) : Keeps 8192 d (Dev.planNote d switch) := by
  unfold Dev.planNote
  simp (maxSteps := 400000) (maxDischargeDepth := 99) +contextual [Keeps.foldl, Keeps.ite, Dev.draw]
@[simp] theorem Dev.planNote_keeps {L : Nat} {d0 : Dev} (d : Dev) (switch : Bool) (hmask : 8192 ||| L = L) (hkeep : Keeps L d0 d) : Keeps L d0 (Dev.planNote d switch) :=
  .after hmask (Dev.planNote_keeps0 d switch) hkeep

theorem Dev.showRun_keeps0 (d : Dev) (r : Option PlanRun) : Keeps 16777220 d (Dev.showRun d r) := by
  unfold Dev.showRun
  (try dsimp only); (repeat' split) <;> simp (maxSteps := 400000) (maxDischargeDepth := 99) +contextual [Keeps.foldl, Keeps.ite, Dev.draw]
@[simp] theorem Dev.showRun_keeps {L : Nat} {d0 : Dev} (d : Dev) (r : Option PlanRun) (hmask : 16777220 ||| L = L) (hkeep : Keeps L d0 d) : Keeps L d0 (Dev.showRun d r) :=
  .after hmask (Dev.showRun_keeps0 d r) hkeep

theorem Dev.modRun_keeps0 (d : Dev) (f : PlanRun → PlanRun) : Keeps 16777220 d (Dev.modRun d f) := by
  unfold Dev.modRun
  (try dsimp only); (repeat' split) <;> simp (maxSteps := 400000) (maxDischargeDepth := 99) +contextual [Keeps.foldl, Keeps.ite, Dev.draw]
@[simp] theorem Dev.modRun_keeps {L : Nat} {d0 : Dev} (d : Dev) (f : PlanRun → PlanRun) (hmask : 16777220 ||| L = L) (hkeep : Keeps L d0 d) : Keeps L d0 (Dev.modRun d f) :=
  .after hmask (Dev.modRun_keeps0 d f) hkeep

theorem Dev.planTo_keeps0 (d : Dev) (state : Nat) : Keeps 8196 d (Dev.planTo d state) := by
  unfold Dev.planTo
  simp (maxSteps := 400000) (maxDischargeDepth := 99) +contextual [Keeps.foldl, Keeps.ite, Dev.draw]
@[simp] theorem Dev.planTo_keeps {L : Nat} {d0 : Dev} (d : Dev) (state : Nat) (hmask : 8196 ||| L = L) (hkeep : Keeps L d0 d) : Keeps L d0 (Dev.planTo d state) :=
  .after hmask (Dev.planTo_keeps0 d state) hkeep

theorem Dev.planFailed_keeps0 (d : Dev) (step : Nat) : Keeps 16785413 d (Dev.planFailed d step) := by
  unfold Dev.planFailed
  simp (maxSteps := 400000) (maxDischargeDepth := 99) +contextual [Keeps.foldl, Keeps.ite, Dev.draw]
@[simp] theorem Dev.planFailed_keeps {L : Nat} {d0 : Dev} (d : Dev) (step : Nat) (hmask : 16785413 ||| L = L) (hkeep : Keeps L d0 d) : Keeps L d0 (Dev.planFailed d step) :=
  .after hmask (Dev.planFailed_keeps0 d step) hkeep

theorem Dev.planCommitted_keeps0 (d : Dev) : Keeps 16785412 d (Dev.planCommitted d) := by
  unfold Dev.planCommitted
  simp (maxSteps := 400000) (maxDischargeDepth := 99) +contextual [Keeps.foldl, Keeps.ite, Dev.draw]
@[simp] theorem Dev.planCommitted_keeps {L : Nat} {d0 : Dev} (d : Dev) (hmask : 16785412 ||| L = L) (hkeep : Keeps L d0 d) : Keeps L d0 (Dev.planCommitted d) :=
  .after hmask (Dev.planCommitted_keeps0 d) hkeep

theorem Dev.installStep_keeps0 (d : Dev) (t i : Nat) : Keeps 16777220 d (Dev.installStep d t i) := by
  unfold Dev.installStep
  (try dsimp only); (repeat' split) <;> simp (maxSteps := 400000) (maxDischargeDepth := 99) +contextual [Keeps.foldl, Keeps.ite, Dev.draw]
@[simp] theorem Dev.installStep_keeps {L : Nat} {d0 : Dev} (d : Dev) (t i : Nat) (hmask : 16777220 ||| L = L) (hkeep : Keeps L d0 d) : Keeps L d0 (Dev.installStep d t i) :=
  .after hmask (Dev.installStep_keeps0 d t i) hkeep

theorem Dev.installationDone_keeps0 (ok : Bool) (d : Dev) : Keeps 151007239 d (Dev.installationDone ok d) := by
  unfold Dev.installationDone
  simp (maxSteps := 400000) (maxDischargeDepth := 99) +contextual [Keeps.foldl, Keeps.ite, Dev.draw]
@[simp] theorem Dev.installationDone_keeps {L : Nat} {d0 : Dev} (ok : Bool) (d : Dev) (hmask : 151007239 ||| L = L) (hkeep : Keeps L d0 d) : Keeps L d0 (Dev.installationDone ok d) :=
  .after hmask (Dev.installationDone_keeps0 ok d) hkeep

theorem Dev.judgeLate_keeps0 (d : Dev) : Keeps 16785412 d (Dev.judgeLate d) := by
  unfold Dev.judgeLate
  simp (maxSteps := 400000) (maxDischargeDepth := 99) +contextual [Keeps.foldl, Keeps.ite, Dev.draw]
@[simp] theorem Dev.judgeLate_keeps {L : Nat} {d0 : Dev} (d : Dev) (hmask : 16785412 ||| L = L) (hkeep : Keeps L d0 d) : Keeps L d0 (Dev.judgeLate d) :=
  .after hmask (Dev.judgeLate_keeps0 d) hkeep

theorem Dev.restartCore_keeps0 (d : Dev) (c : CoreId) (cause : Nat) : Keeps 4210980 d (Dev.restartCore d c cause) := by
  unfold Dev.restartCore
  simp (maxSteps := 400000) (maxDischargeDepth := 99) +contextual [Keeps.foldl, Keeps.ite, Dev.draw]
@[simp] theorem Dev.restartCore_keeps {L : Nat} {d0 : Dev} (d : Dev) (c : CoreId) (cause : Nat) (hmask : 4210980 ||| L = L) (hkeep : Keeps L d0 d) : Keeps L d0 (Dev.restartCore d c cause) :=
  .after hmask (Dev.restartCore_keeps0 d c cause) hkeep

theorem Dev.moveAway_keeps0 (d : Dev) (e f : Fin 4) : Keeps 16384 d (Dev.moveAway d e f) := by
  unfold Dev.moveAway
  simp (maxSteps := 400000) (maxDischargeDepth := 99) +contextual [Keeps.foldl, Keeps.ite, Dev.draw]
@[simp] theorem Dev.moveAway_keeps {L : Nat} {d0 : Dev} (d : Dev) (e f : Fin 4) (hmask : 16384 ||| L = L) (hkeep : Keeps L d0 d) : Keeps L d0 (Dev.moveAway d e f) :=
  .after hmask (Dev.moveAway_keeps0 d e f) hkeep

theorem Dev.moveBack_keeps0 (d : Dev) (e : Fin 4) : Keeps 16384 d (Dev.moveBack d e) := by
  unfold Dev.moveBack
  simp (maxSteps := 400000) (maxDischargeDepth := 99) +contextual [Keeps.foldl, Keeps.ite, Dev.draw]
@[simp] theorem Dev.moveBack_keeps {L : Nat} {d0 : Dev} (d : Dev) (e : Fin 4) (hmask : 16384 ||| L = L) (hkeep : Keeps L d0 d) : Keeps L d0 (Dev.moveBack d e) :=
  .after hmask (Dev.moveBack_keeps0 d e) hkeep

theorem Dev.canopyOut_keeps0 (d : Dev) : Keeps 41947172 d (Dev.canopyOut d) := by
  unfold Dev.canopyOut
  simp (maxSteps := 400000) (maxDischargeDepth := 99) +contextual [Keeps.foldl, Keeps.ite, Dev.draw]
@[simp] theorem Dev.canopyOut_keeps {L : Nat} {d0 : Dev} (d : Dev) (hmask : 41947172 ||| L = L) (hkeep : Keeps L d0 d) : Keeps L d0 (Dev.canopyOut d) :=
  .after hmask (Dev.canopyOut_keeps0 d) hkeep

theorem Dev.canopyBack_keeps0 (d : Dev) : Keeps 33554720 d (Dev.canopyBack d) := by
  unfold Dev.canopyBack
  exact Dev.setCanopy_keeps _ _ (by decide) (Dev.latchCanopy_keeps _ (by decide) (Dev.coreUp_keeps _ _ (by decide) (Keeps.refl _ _)))
@[simp] theorem Dev.canopyBack_keeps {L : Nat} {d0 : Dev} (d : Dev) (hmask : 33554720 ||| L = L) (hkeep : Keeps L d0 d) : Keeps L d0 (Dev.canopyBack d) :=
  .after hmask (Dev.canopyBack_keeps0 d) hkeep

theorem Dev.swapRoles_keeps0 (d : Dev) : Keeps 4196868 d (Dev.swapRoles d) := by
  unfold Dev.swapRoles
  simp (maxSteps := 400000) (maxDischargeDepth := 99) +contextual [Keeps.foldl, Keeps.ite, Dev.draw]
@[simp] theorem Dev.swapRoles_keeps {L : Nat} {d0 : Dev} (d : Dev) (hmask : 4196868 ||| L = L) (hkeep : Keeps L d0 d) : Keeps L d0 (Dev.swapRoles d) :=
  .after hmask (Dev.swapRoles_keeps0 d) hkeep

theorem Dev.channelBack_keeps0 (b : Bool) (d : Dev) : Keeps 155940 d (Dev.channelBack b d) := by
  unfold Dev.channelBack
  simp (maxSteps := 400000) (maxDischargeDepth := 99) +contextual [Keeps.foldl, Keeps.ite, Dev.draw]
@[simp] theorem Dev.channelBack_keeps {L : Nat} {d0 : Dev} (b : Bool) (d : Dev) (hmask : 155940 ||| L = L) (hkeep : Keeps L d0 d) : Keeps L d0 (Dev.channelBack b d) :=
  .after hmask (Dev.channelBack_keeps0 b d) hkeep

theorem Dev.restartChannel_keeps0 (b : Bool) (d : Dev) : Keeps 4350244 d (Dev.restartChannel b d) := by
  unfold Dev.restartChannel
  simp (maxSteps := 400000) (maxDischargeDepth := 99) +contextual [Keeps.foldl, Keeps.ite, Dev.draw]
@[simp] theorem Dev.restartChannel_keeps {L : Nat} {d0 : Dev} (b : Bool) (d : Dev) (hmask : 4350244 ||| L = L) (hkeep : Keeps L d0 d) : Keeps L d0 (Dev.restartChannel b d) :=
  .after hmask (Dev.restartChannel_keeps0 b d) hkeep

theorem Dev.beginUnit_keeps0 (d : Dev) : Keeps 20988196 d (Dev.beginUnit d) := by
  unfold Dev.beginUnit
  (try dsimp only); (repeat' split) <;> simp (maxSteps := 400000) (maxDischargeDepth := 99) +contextual [Keeps.foldl, Keeps.ite, Dev.draw]
@[simp] theorem Dev.beginUnit_keeps {L : Nat} {d0 : Dev} (d : Dev) (hmask : 20988196 ||| L = L) (hkeep : Keeps L d0 d) : Keeps L d0 (Dev.beginUnit d) :=
  .after hmask (Dev.beginUnit_keeps0 d) hkeep

theorem Dev.planPreparationStart_keeps0 (d : Dev) : Keeps 20996388 d (Dev.planPreparationStart d) := by
  unfold Dev.planPreparationStart
  simp (maxSteps := 400000) (maxDischargeDepth := 99) +contextual [Keeps.foldl, Keeps.ite, Dev.draw]
@[simp] theorem Dev.planPreparationStart_keeps {L : Nat} {d0 : Dev} (d : Dev) (hmask : 20996388 ||| L = L) (hkeep : Keeps L d0 d) : Keeps L d0 (Dev.planPreparationStart d) :=
  .after hmask (Dev.planPreparationStart_keeps0 d) hkeep

theorem Dev.switchUnit_keeps0 (d : Dev) (r : PlanRun) : Keeps 132283172 d (Dev.switchUnit d r) := by
  unfold Dev.switchUnit
  (try dsimp only); (repeat' split) <;> simp (maxSteps := 400000) (maxDischargeDepth := 99) +contextual [Keeps.foldl, Keeps.ite, Dev.draw]
@[simp] theorem Dev.switchUnit_keeps {L : Nat} {d0 : Dev} (d : Dev) (r : PlanRun) (hmask : 132283172 ||| L = L) (hkeep : Keeps L d0 d) : Keeps L d0 (Dev.switchUnit d r) :=
  .after hmask (Dev.switchUnit_keeps0 d r) hkeep

theorem Dev.stepSwitch_keeps0 (d : Dev) : Keeps 132283172 d (Dev.stepSwitch d) := by
  unfold Dev.stepSwitch
  (try dsimp only); (repeat' split) <;> simp (maxSteps := 400000) (maxDischargeDepth := 99) +contextual [Keeps.foldl, Keeps.ite, Dev.draw]
@[simp] theorem Dev.stepSwitch_keeps {L : Nat} {d0 : Dev} (d : Dev) (hmask : 132283172 ||| L = L) (hkeep : Keeps L d0 d) : Keeps L d0 (Dev.stepSwitch d) :=
  .after hmask (Dev.stepSwitch_keeps0 d) hkeep

theorem Dev.unitReady_keeps0 (d : Dev) : Keeps 253915430 d (Dev.unitReady d) := by
  unfold Dev.unitReady
  (try dsimp only); (repeat' split) <;> simp (maxSteps := 400000) (maxDischargeDepth := 99) +contextual [Keeps.foldl, Keeps.ite, Dev.draw]
@[simp] theorem Dev.unitReady_keeps {L : Nat} {d0 : Dev} (d : Dev) (hmask : 253915430 ||| L = L) (hkeep : Keeps L d0 d) : Keeps L d0 (Dev.unitReady d) :=
  .after hmask (Dev.unitReady_keeps0 d) hkeep

theorem Dev.backTick_keeps0 (d : Dev) : Keeps 20990756 d (Dev.backTick d) := by
  unfold Dev.backTick
  (try dsimp only); (repeat' split) <;> simp (maxSteps := 400000) (maxDischargeDepth := 99) +contextual [Keeps.foldl, Keeps.ite, Dev.draw]
@[simp] theorem Dev.backTick_keeps {L : Nat} {d0 : Dev} (d : Dev) (hmask : 20990756 ||| L = L) (hkeep : Keeps L d0 d) : Keeps L d0 (Dev.backTick d) :=
  .after hmask (Dev.backTick_keeps0 d) hkeep

theorem Dev.failTrial_keeps0 (d : Dev) : Keeps 132280613 d (Dev.failTrial d) := by
  unfold Dev.failTrial
  (try dsimp only); (repeat' split) <;> simp (maxSteps := 400000) (maxDischargeDepth := 99) +contextual [Keeps.foldl, Keeps.ite, Dev.draw]
@[simp] theorem Dev.failTrial_keeps {L : Nat} {d0 : Dev} (d : Dev) (hmask : 132280613 ||| L = L) (hkeep : Keeps L d0 d) : Keeps L d0 (Dev.failTrial d) :=
  .after hmask (Dev.failTrial_keeps0 d) hkeep

theorem Dev.preparationFailed_keeps0 (d : Dev) : Keeps 20996389 d (Dev.preparationFailed d) := by
  unfold Dev.preparationFailed
  (try dsimp only); (repeat' split) <;> simp (maxSteps := 400000) (maxDischargeDepth := 99) +contextual [Keeps.foldl, Keeps.ite, Dev.draw]
@[simp] theorem Dev.preparationFailed_keeps {L : Nat} {d0 : Dev} (d : Dev) (hmask : 20996389 ||| L = L) (hkeep : Keeps L d0 d) : Keeps L d0 (Dev.preparationFailed d) :=
  .after hmask (Dev.preparationFailed_keeps0 d) hkeep

theorem Dev.readyTimeout_keeps0 (d : Dev) : Keeps 132280613 d (Dev.readyTimeout d) := by
  unfold Dev.readyTimeout
  (try dsimp only); (repeat' split) <;> simp (maxSteps := 400000) (maxDischargeDepth := 99) +contextual [Keeps.foldl, Keeps.ite, Dev.draw]
@[simp] theorem Dev.readyTimeout_keeps {L : Nat} {d0 : Dev} (d : Dev) (hmask : 132280613 ||| L = L) (hkeep : Keeps L d0 d) : Keeps L d0 (Dev.readyTimeout d) :=
  .after hmask (Dev.readyTimeout_keeps0 d) hkeep

theorem Dev.preparationTimeout_keeps0 (d : Dev) : Keeps 20996389 d (Dev.preparationTimeout d) := by
  unfold Dev.preparationTimeout
  (try dsimp only); (repeat' split) <;> simp (maxSteps := 400000) (maxDischargeDepth := 99) +contextual [Keeps.foldl, Keeps.ite, Dev.draw]
@[simp] theorem Dev.preparationTimeout_keeps {L : Nat} {d0 : Dev} (d : Dev) (hmask : 20996389 ||| L = L) (hkeep : Keeps L d0 d) : Keeps L d0 (Dev.preparationTimeout d) :=
  .after hmask (Dev.preparationTimeout_keeps0 d) hkeep

theorem Dev.stopOpen_keeps0 (d : Dev) (p : PortId) (n : Nat) : Keeps 2838534 d (Dev.stopOpen d p n) := by
  unfold Dev.stopOpen
  (try dsimp only); (repeat' split) <;> simp (maxSteps := 400000) (maxDischargeDepth := 99) +contextual [Keeps.foldl, Keeps.ite, Dev.draw]
@[simp] theorem Dev.stopOpen_keeps {L : Nat} {d0 : Dev} (d : Dev) (p : PortId) (n : Nat) (hmask : 2838534 ||| L = L) (hkeep : Keeps L d0 d) : Keeps L d0 (Dev.stopOpen d p n) :=
  .after hmask (Dev.stopOpen_keeps0 d p n) hkeep

theorem Dev.drainTimeout_keeps0 (d : Dev) : Keeps 19623943 d (Dev.drainTimeout d) := by
  unfold Dev.drainTimeout
  (try dsimp only); (repeat' split) <;> simp (maxSteps := 400000) (maxDischargeDepth := 99) +contextual [Keeps.foldl, Keeps.ite, Dev.draw]
@[simp] theorem Dev.drainTimeout_keeps {L : Nat} {d0 : Dev} (d : Dev) (hmask : 19623943 ||| L = L) (hkeep : Keeps L d0 d) : Keeps L d0 (Dev.drainTimeout d) :=
  .after hmask (Dev.drainTimeout_keeps0 d) hkeep

theorem Dev.raiseVersion_keeps0 (d : Dev) (t : Nat) : Keeps 8388612 d (Dev.raiseVersion d t) := by
  unfold Dev.raiseVersion
  (try dsimp only); (repeat' split) <;> simp (maxSteps := 400000) (maxDischargeDepth := 99) +contextual [Keeps.foldl, Keeps.ite, Dev.draw]
@[simp] theorem Dev.raiseVersion_keeps {L : Nat} {d0 : Dev} (d : Dev) (t : Nat) (hmask : 8388612 ||| L = L) (hkeep : Keeps L d0 d) : Keeps L d0 (Dev.raiseVersion d t) :=
  .after hmask (Dev.raiseVersion_keeps0 d t) hkeep

theorem Dev.retireSlot_keeps0 (d : Dev) (t : Nat) (k : Bool) : Keeps 4 d (Dev.retireSlot d t k) := by
  unfold Dev.retireSlot
  simp (maxSteps := 400000) (maxDischargeDepth := 99) +contextual [Keeps.foldl, Keeps.ite, Dev.draw]
@[simp] theorem Dev.retireSlot_keeps {L : Nat} {d0 : Dev} (d : Dev) (t : Nat) (k : Bool) (hmask : 4 ||| L = L) (hkeep : Keeps L d0 d) : Keeps L d0 (Dev.retireSlot d t k) :=
  .after hmask (Dev.retireSlot_keeps0 d t k) hkeep

theorem Dev.planComplete_keeps0 (d : Dev) : Keeps 25174020 d (Dev.planComplete d) := by
  unfold Dev.planComplete
  simp (maxSteps := 400000) (maxDischargeDepth := 99) +contextual [Keeps.foldl, Keeps.ite, Dev.draw]
@[simp] theorem Dev.planComplete_keeps {L : Nat} {d0 : Dev} (d : Dev) (hmask : 25174020 ||| L = L) (hkeep : Keeps L d0 d) : Keeps L d0 (Dev.planComplete d) :=
  .after hmask (Dev.planComplete_keeps0 d) hkeep

theorem Dev.trialEnd_keeps0 (d : Dev) : Keeps 25174020 d (Dev.trialEnd d) := by
  unfold Dev.trialEnd
  (try dsimp only); (repeat' split) <;> simp (maxSteps := 400000) (maxDischargeDepth := 99) +contextual [Keeps.foldl, Keeps.ite, Dev.draw]
@[simp] theorem Dev.trialEnd_keeps {L : Nat} {d0 : Dev} (d : Dev) (hmask : 25174020 ||| L = L) (hkeep : Keeps L d0 d) : Keeps L d0 (Dev.trialEnd d) :=
  .after hmask (Dev.trialEnd_keeps0 d) hkeep

theorem Dev.firebreakTrialTimeout_keeps0 (d : Dev) : Keeps 132280613 d (Dev.firebreakTrialTimeout d) := by
  unfold Dev.firebreakTrialTimeout
  (try dsimp only); (repeat' split) <;> simp (maxSteps := 400000) (maxDischargeDepth := 99) +contextual [Keeps.foldl, Keeps.ite, Dev.draw]
@[simp] theorem Dev.firebreakTrialTimeout_keeps {L : Nat} {d0 : Dev} (d : Dev) (hmask : 132280613 ||| L = L) (hkeep : Keeps L d0 d) : Keeps L d0 (Dev.firebreakTrialTimeout d) :=
  .after hmask (Dev.firebreakTrialTimeout_keeps0 d) hkeep

theorem Dev.planHit_keeps0 (d : Dev) (hit : Option CoreId) : Keeps 132280613 d (Dev.planHit d hit) := by
  unfold Dev.planHit
  (try dsimp only); (repeat' split) <;> simp (maxSteps := 400000) (maxDischargeDepth := 99) +contextual [Keeps.foldl, Keeps.ite, Dev.draw]
@[simp] theorem Dev.planHit_keeps {L : Nat} {d0 : Dev} (d : Dev) (hit : Option CoreId) (hmask : 132280613 ||| L = L) (hkeep : Keeps L d0 d) : Keeps L d0 (Dev.planHit d hit) :=
  .after hmask (Dev.planHit_keeps0 d hit) hkeep

theorem Dev.planTick_keeps0 (d : Dev) : Keeps 20998948 d (Dev.planTick d) := by
  unfold Dev.planTick
  (try dsimp only); (repeat' split) <;> simp (maxSteps := 400000) (maxDischargeDepth := 99) +contextual [Keeps.foldl, Keeps.ite, Dev.draw]
@[simp] theorem Dev.planTick_keeps {L : Nat} {d0 : Dev} (d : Dev) (hmask : 20998948 ||| L = L) (hkeep : Keeps L d0 d) : Keeps L d0 (Dev.planTick d) :=
  .after hmask (Dev.planTick_keeps0 d) hkeep

theorem Dev.canTo_keeps0 (d : Dev) (n : Nat) (c : CanState) : Keeps 4096 d (Dev.canTo d n c) := by
  unfold Dev.canTo
  simp (maxSteps := 400000) (maxDischargeDepth := 99) +contextual [Keeps.foldl, Keeps.ite, Dev.draw]
@[simp] theorem Dev.canTo_keeps {L : Nat} {d0 : Dev} (d : Dev) (n : Nat) (c : CanState) (hmask : 4096 ||| L = L) (hkeep : Keeps L d0 d) : Keeps L d0 (Dev.canTo d n c) :=
  .after hmask (Dev.canTo_keeps0 d n c) hkeep

theorem Dev.takeOut_keeps0 (d : Dev) (u : Nat) : Keeps 111571236 d (Dev.takeOut d u) := by
  unfold Dev.takeOut
  simp (maxSteps := 400000) (maxDischargeDepth := 99) +contextual [Keeps.foldl, Keeps.ite, Dev.draw]
@[simp] theorem Dev.takeOut_keeps {L : Nat} {d0 : Dev} (d : Dev) (u : Nat) (hmask : 111571236 ||| L = L) (hkeep : Keeps L d0 d) : Keeps L d0 (Dev.takeOut d u) :=
  .after hmask (Dev.takeOut_keeps0 d u) hkeep

theorem Dev.returnUnit_keeps0 (d : Dev) (u : Nat) : Keeps 4509988 d (Dev.returnUnit d u) := by
  unfold Dev.returnUnit
  simp (maxSteps := 400000) (maxDischargeDepth := 99) +contextual [Keeps.foldl, Keeps.ite, Dev.draw]
@[simp] theorem Dev.returnUnit_keeps {L : Nat} {d0 : Dev} (d : Dev) (u : Nat) (hmask : 4509988 ||| L = L) (hkeep : Keeps L d0 d) : Keeps L d0 (Dev.returnUnit d u) :=
  .after hmask (Dev.returnUnit_keeps0 d u) hkeep

theorem Dev.unitsTick_keeps0 (d : Dev) : Keeps 260 d (Dev.unitsTick d) := by
  unfold Dev.unitsTick
  simp (maxSteps := 400000) (maxDischargeDepth := 99) +contextual [Keeps.foldl, Keeps.ite, Dev.draw]
@[simp] theorem Dev.unitsTick_keeps {L : Nat} {d0 : Dev} (d : Dev) (hmask : 260 ||| L = L) (hkeep : Keeps L d0 d) : Keeps L d0 (Dev.unitsTick d) :=
  .after hmask (Dev.unitsTick_keeps0 d) hkeep

theorem imageHeaderServe_keeps0 (i : Fin 8) (h : ImageHdr) (a : Ack) (d : Dev) : Keeps 150999046 d (imageHeaderServe i h a d) := by
  unfold imageHeaderServe
  (try dsimp only); (repeat' split) <;> simp (maxSteps := 400000) (maxDischargeDepth := 99) +contextual [Keeps.foldl, Keeps.ite, Dev.draw]
@[simp] theorem imageHeaderServe_keeps {L : Nat} {d0 : Dev} (i : Fin 8) (h : ImageHdr) (a : Ack) (d : Dev) (hmask : 150999046 ||| L = L) (hkeep : Keeps L d0 d) : Keeps L d0 (imageHeaderServe i h a d) :=
  .after hmask (imageHeaderServe_keeps0 i h a d) hkeep

theorem imageChunkServe_keeps0 (i : Fin 8) (data : Bytes) (a : Ack) (d : Dev) : Keeps 151146502 d (imageChunkServe i data a d) := by
  unfold imageChunkServe
  (try dsimp only); (repeat' split) <;> simp (maxSteps := 400000) (maxDischargeDepth := 99) +contextual [Keeps.foldl, Keeps.ite, Dev.draw]
@[simp] theorem imageChunkServe_keeps {L : Nat} {d0 : Dev} (i : Fin 8) (data : Bytes) (a : Ack) (d : Dev) (hmask : 151146502 ||| L = L) (hkeep : Keeps L d0 d) : Keeps L d0 (imageChunkServe i data a d) :=
  .after hmask (imageChunkServe_keeps0 i data a d) hkeep

theorem cancelPlanServe_keeps0 (a : Ack) (u1_ : Val) (d : Dev) : Keeps 151007238 d (cancelPlanServe a u1_ d) := by
  unfold cancelPlanServe
  simp (maxSteps := 400000) (maxDischargeDepth := 99) +contextual [Keeps.foldl, Keeps.ite, Dev.draw]
@[simp] theorem cancelPlanServe_keeps {L : Nat} {d0 : Dev} (a : Ack) (u1_ : Val) (d : Dev) (hmask : 151007238 ||| L = L) (hkeep : Keeps L d0 d) : Keeps L d0 (cancelPlanServe a u1_ d) :=
  .after hmask (cancelPlanServe_keeps0 a u1_ d) hkeep

@[simp] theorem serviceRestartServe_keeps {L : Nat} {d0 : Dev} (a : Ack) (v : Val) (d : Dev) (hmask : 268435455 ||| L = L) (hkeep : Keeps L d0 d) : Keeps L d0 (serviceRestartServe a v d) :=
  .after hmask (.all _ _) hkeep

theorem takeOutServe_keeps0 (u : Fin 32) (a : Ack) (u2_ : Val) (d : Dev) : Keeps 245788966 d (takeOutServe u a u2_ d) := by
  unfold takeOutServe
  (try dsimp only); (repeat' split) <;> simp (maxSteps := 400000) (maxDischargeDepth := 99) +contextual [Keeps.foldl, Keeps.ite, Dev.draw]
@[simp] theorem takeOutServe_keeps {L : Nat} {d0 : Dev} (u : Fin 32) (a : Ack) (u2_ : Val) (d : Dev) (hmask : 245788966 ||| L = L) (hkeep : Keeps L d0 d) : Keeps L d0 (takeOutServe u a u2_ d) :=
  .after hmask (takeOutServe_keeps0 u a u2_ d) hkeep

theorem returnServe_keeps0 (u : Fin 32) (a : Ack) (u2_ : Val) (d : Dev) : Keeps 138727718 d (returnServe u a u2_ d) := by
  unfold returnServe
  simp (maxSteps := 400000) (maxDischargeDepth := 99) +contextual [Keeps.foldl, Keeps.ite, Dev.draw]
@[simp] theorem returnServe_keeps {L : Nat} {d0 : Dev} (u : Fin 32) (a : Ack) (u2_ : Val) (d : Dev) (hmask : 138727718 ||| L = L) (hkeep : Keeps L d0 d) : Keeps L d0 (returnServe u a u2_ d) :=
  .after hmask (returnServe_keeps0 u a u2_ d) hkeep

end Sys2Proof.Machine
end

