-- ==== Sys2Proof/Laws/FramesFaults.lean ====
section
/-! SUPPORT. What each function leaves alone: start, faults, read-out and the Canopy reader. -/

set_option linter.unusedSimpArgs false
set_option linter.unusedTactic false
set_option linter.unreachableTactic false
set_option linter.unnecessarySeqFocus false

namespace Sys2Proof.Machine

theorem Dev.completeFuses_keeps0 (d : Dev) : Keeps 8396804 d (Dev.completeFuses d) := by
  unfold Dev.completeFuses
  simp (maxSteps := 400000) (maxDischargeDepth := 99) +contextual [Keeps.foldl, Keeps.ite, Dev.draw]
@[simp] theorem Dev.completeFuses_keeps {L : Nat} {d0 : Dev} (d : Dev) (hmask : 8396804 ||| L = L) (hkeep : Keeps L d0 d) : Keeps L d0 (Dev.completeFuses d) :=
  .after hmask (Dev.completeFuses_keeps0 d) hkeep

theorem Dev.bootBurl_keeps0 (f : BootFacts) (d : Dev) : Keeps 8485 d (Dev.bootBurl f d) := by
  unfold Dev.bootBurl
  simp (maxSteps := 400000) (maxDischargeDepth := 99) +contextual [Keeps.foldl, Keeps.ite, Dev.draw]
@[simp] theorem Dev.bootBurl_keeps {L : Nat} {d0 : Dev} (f : BootFacts) (d : Dev) (hmask : 8485 ||| L = L) (hkeep : Keeps L d0 d) : Keeps L d0 (Dev.bootBurl f d) :=
  .after hmask (Dev.bootBurl_keeps0 f d) hkeep

@[simp] theorem Dev.bootKeys_keeps {L : Nat} {d0 : Dev} (f : BootFacts) (d : Dev) (hmask : 268435455 ||| L = L) (hkeep : Keeps L d0 d) : Keeps L d0 (Dev.bootKeys f d) :=
  .after hmask (.all _ _) hkeep

@[simp] theorem Dev.bootBuffer_keeps {L : Nat} {d0 : Dev} (d : Dev) (hmask : 268435455 ||| L = L) (hkeep : Keeps L d0 d) : Keeps L d0 (Dev.bootBuffer d) :=
  .after hmask (.all _ _) hkeep

@[simp] theorem Dev.bootVbat_keeps {L : Nat} {d0 : Dev} (d : Dev) (base : Option Ring) (hmask : 268435455 ||| L = L) (hkeep : Keeps L d0 d) : Keeps L d0 (Dev.bootVbat d base) :=
  .after hmask (.all _ _) hkeep

theorem Dev.bootSeal_keeps0 (f : BootFacts) (d : Dev) : Keeps 8480 d (Dev.bootSeal f d) := by
  unfold Dev.bootSeal
  simp (maxSteps := 400000) (maxDischargeDepth := 99) +contextual [Keeps.foldl, Keeps.ite, Dev.draw]
@[simp] theorem Dev.bootSeal_keeps {L : Nat} {d0 : Dev} (f : BootFacts) (d : Dev) (hmask : 8480 ||| L = L) (hkeep : Keeps L d0 d) : Keeps L d0 (Dev.bootSeal f d) :=
  .after hmask (Dev.bootSeal_keeps0 f d) hkeep

theorem Dev.logPowerUp_keeps0 (d : Dev) : Keeps 9216 d (Dev.logPowerUp d) := by
  unfold Dev.logPowerUp
  (try dsimp only); (repeat' split) <;> simp (maxSteps := 400000) (maxDischargeDepth := 99) +contextual [Keeps.foldl, Keeps.ite, Dev.draw]
@[simp] theorem Dev.logPowerUp_keeps {L : Nat} {d0 : Dev} (d : Dev) (hmask : 9216 ||| L = L) (hkeep : Keeps L d0 d) : Keeps L d0 (Dev.logPowerUp d) :=
  .after hmask (Dev.logPowerUp_keeps0 d) hkeep

theorem Dev.firstFlags_keeps0 (d : Dev) : Keeps 524288 d (Dev.firstFlags d) := by
  unfold Dev.firstFlags
  simp (maxSteps := 400000) (maxDischargeDepth := 99) +contextual [Keeps.foldl, Keeps.ite, Dev.draw]
@[simp] theorem Dev.firstFlags_keeps {L : Nat} {d0 : Dev} (d : Dev) (hmask : 524288 ||| L = L) (hkeep : Keeps L d0 d) : Keeps L d0 (Dev.firstFlags d) :=
  .after hmask (Dev.firstFlags_keeps0 d) hkeep

theorem Dev.writeRestart_keeps0 (d : Dev) (base : Nat) : Keeps 135794690 d (Dev.writeRestart d base) := by
  unfold Dev.writeRestart
  simp (maxSteps := 400000) (maxDischargeDepth := 99) +contextual [Keeps.foldl, Keeps.ite, Dev.draw]
@[simp] theorem Dev.writeRestart_keeps {L : Nat} {d0 : Dev} (d : Dev) (base : Nat) (hmask : 135794690 ||| L = L) (hkeep : Keeps L d0 d) : Keeps L d0 (Dev.writeRestart d base) :=
  .after hmask (Dev.writeRestart_keeps0 d base) hkeep

theorem Dev.bootBoundaries_keeps0 (d : Dev) : Keeps 1794052 d (Dev.bootBoundaries d) := by
  unfold Dev.bootBoundaries
  simp (maxSteps := 400000) (maxDischargeDepth := 99) +contextual [Keeps.foldl, Keeps.ite, Dev.draw]
@[simp] theorem Dev.bootBoundaries_keeps {L : Nat} {d0 : Dev} (d : Dev) (hmask : 1794052 ||| L = L) (hkeep : Keeps L d0 d) : Keeps L d0 (Dev.bootBoundaries d) :=
  .after hmask (Dev.bootBoundaries_keeps0 d) hkeep

theorem Dev.restoreFrom_keeps0 (d : Dev) (base : Ring) : Keeps 136016902 d (Dev.restoreFrom d base) := by
  unfold Dev.restoreFrom
  simp (maxSteps := 400000) (maxDischargeDepth := 99) +contextual [Keeps.foldl, Keeps.ite, Dev.draw]
@[simp] theorem Dev.restoreFrom_keeps {L : Nat} {d0 : Dev} (d : Dev) (base : Ring) (hmask : 136016902 ||| L = L) (hkeep : Keeps L d0 d) : Keeps L d0 (Dev.restoreFrom d base) :=
  .after hmask (Dev.restoreFrom_keeps0 d base) hkeep

theorem Dev.initialiseRings_keeps0 (d : Dev) : Keeps 135802882 d (Dev.initialiseRings d) := by
  unfold Dev.initialiseRings
  simp (maxSteps := 400000) (maxDischargeDepth := 99) +contextual [Keeps.foldl, Keeps.ite, Dev.draw]
@[simp] theorem Dev.initialiseRings_keeps {L : Nat} {d0 : Dev} (d : Dev) (hmask : 135802882 ||| L = L) (hkeep : Keeps L d0 d) : Keeps L d0 (Dev.initialiseRings d) :=
  .after hmask (Dev.initialiseRings_keeps0 d) hkeep

theorem Dev.logLost_keeps0 (d : Dev) : Keeps 10244 d (Dev.logLost d) := by
  unfold Dev.logLost
  simp (maxSteps := 400000) (maxDischargeDepth := 99) +contextual [Keeps.foldl, Keeps.ite, Dev.draw]
@[simp] theorem Dev.logLost_keeps {L : Nat} {d0 : Dev} (d : Dev) (hmask : 10244 ||| L = L) (hkeep : Keeps L d0 d) : Keeps L d0 (Dev.logLost d) :=
  .after hmask (Dev.logLost_keeps0 d) hkeep

theorem Dev.bootRings_keeps0 (d : Dev) (base : Option Ring) : Keeps 136018950 d (Dev.bootRings d base) := by
  unfold Dev.bootRings
  (try dsimp only); (repeat' split) <;> simp (maxSteps := 400000) (maxDischargeDepth := 99) +contextual [Keeps.foldl, Keeps.ite, Dev.draw]
@[simp] theorem Dev.bootRings_keeps {L : Nat} {d0 : Dev} (d : Dev) (base : Option Ring) (hmask : 136018950 ||| L = L) (hkeep : Keeps L d0 d) : Keeps L d0 (Dev.bootRings d base) :=
  .after hmask (Dev.bootRings_keeps0 d base) hkeep

theorem Dev.bootMetro_keeps0 (d : Dev) : Keeps 417796 d (Dev.bootMetro d) := by
  unfold Dev.bootMetro
  simp (maxSteps := 400000) (maxDischargeDepth := 99) +contextual [Keeps.foldl, Keeps.ite, Dev.draw]
@[simp] theorem Dev.bootMetro_keeps {L : Nat} {d0 : Dev} (d : Dev) (hmask : 417796 ||| L = L) (hkeep : Keeps L d0 d) : Keeps L d0 (Dev.bootMetro d) :=
  .after hmask (Dev.bootMetro_keeps0 d) hkeep

theorem Dev.useSlot_keeps0 (d : Dev) (t : Nat) (k : Bool) : Keeps 16777220 d (Dev.useSlot d t k) := by
  unfold Dev.useSlot
  (try dsimp only); (repeat' split) <;> simp (maxSteps := 400000) (maxDischargeDepth := 99) +contextual [Keeps.foldl, Keeps.ite, Dev.draw]
@[simp] theorem Dev.useSlot_keeps {L : Nat} {d0 : Dev} (d : Dev) (t : Nat) (k : Bool) (hmask : 16777220 ||| L = L) (hkeep : Keeps L d0 d) : Keeps L d0 (Dev.useSlot d t k) :=
  .after hmask (Dev.useSlot_keeps0 d t k) hkeep

theorem Dev.verifyUse_keeps0 (f : BootFacts) (d : Dev) (t : Fin 7) (k : Bool) : Keeps 4 d (Dev.verifyUse f d t k) := by
  unfold Dev.verifyUse
  (try dsimp only); (repeat' split) <;> (simp (maxSteps := 400000) (maxDischargeDepth := 99) +contextual [Keeps.foldl, Keeps.ite, Dev.draw]; done)
@[simp] theorem Dev.verifyUse_keeps {L : Nat} {d0 : Dev} (f : BootFacts) (d : Dev) (t : Fin 7) (k : Bool) (hmask : 4 ||| L = L) (hkeep : Keeps L d0 d) : Keeps L d0 (Dev.verifyUse f d t k) :=
  .after hmask (Dev.verifyUse_keeps0 f d t k) hkeep

theorem Dev.loadImage_keeps0 (f : BootFacts) (t : Fin 7) (d : Dev) : Keeps 16785413 d (Dev.loadImage f t d).2 := by
  unfold Dev.loadImage
  first
    | (simp (maxSteps := 400000) (maxDischargeDepth := 99) +contextual [Keeps.foldl, Keeps.ite, Dev.draw]; done)
    | (try dsimp only); (repeat' split) <;> (simp (maxSteps := 400000) (maxDischargeDepth := 99) +contextual [Keeps.foldl, Keeps.ite, Dev.draw]; done)
@[simp] theorem Dev.loadImage_keeps {L : Nat} {d0 : Dev} (f : BootFacts) (t : Fin 7) (d : Dev) (hmask : 16785413 ||| L = L) (hkeep : Keeps L d0 d) : Keeps L d0 (Dev.loadImage f t d).2 :=
  .after hmask (Dev.loadImage_keeps0 f t d) hkeep

theorem Dev.release_keeps0 (f : BootFacts) (t : Fin 7) (cores : List CoreId) (d : Dev) : Keeps 16785701 d (Dev.release f t cores d) := by
  unfold Dev.release
  simp (maxSteps := 400000) (maxDischargeDepth := 99) +contextual [Keeps.foldl, Keeps.ite, Dev.draw]
@[simp] theorem Dev.release_keeps {L : Nat} {d0 : Dev} (f : BootFacts) (t : Fin 7) (cores : List CoreId) (d : Dev) (hmask : 16785701 ||| L = L) (hkeep : Keeps L d0 d) : Keeps L d0 (Dev.release f t cores d) :=
  .after hmask (Dev.release_keeps0 f t cores d) hkeep

theorem Dev.bootCommission_keeps0 (d : Dev) : Keeps 155652 d (Dev.bootCommission d) := by
  unfold Dev.bootCommission
  dsimp only
  split
  · exact Dev.releaseCause_keeps _ _ _ _ (by decide) (Dev.putNat_keeps _ _ _ (by decide) (Dev.putNat_keeps _ _ _ (by decide) (Keeps.refl _ _)))
  · exact unconfirm_keeps _ (by decide) (Dev.putNat_keeps _ _ _ (by decide) (Keeps.refl _ _))
@[simp] theorem Dev.bootCommission_keeps {L : Nat} {d0 : Dev} (d : Dev) (hmask : 155652 ||| L = L) (hkeep : Keeps L d0 d) : Keeps L d0 (Dev.bootCommission d) :=
  .after hmask (Dev.bootCommission_keeps0 d) hkeep

theorem Dev.bootFirebreak_keeps0 (f : BootFacts) (d : Dev) : Keeps 151154983 d (Dev.bootFirebreak f d) := by
  unfold Dev.bootFirebreak
  simp (maxSteps := 400000) (maxDischargeDepth := 99) +contextual [Keeps.foldl, Keeps.ite, Dev.draw]
@[simp] theorem Dev.bootFirebreak_keeps {L : Nat} {d0 : Dev} (f : BootFacts) (d : Dev) (hmask : 151154983 ||| L = L) (hkeep : Keeps L d0 d) : Keeps L d0 (Dev.bootFirebreak f d) :=
  .after hmask (Dev.bootFirebreak_keeps0 f d) hkeep

theorem Dev.searchPhy_keeps0 (d : Dev) (ids : List (Nat × Nat)) : Keeps 7 d (Dev.searchPhy d ids) := by
  unfold Dev.searchPhy
  simp (maxSteps := 400000) (maxDischargeDepth := 99) +contextual [Keeps.foldl, Keeps.ite, Dev.draw]
@[simp] theorem Dev.searchPhy_keeps {L : Nat} {d0 : Dev} (d : Dev) (ids : List (Nat × Nat)) (hmask : 7 ||| L = L) (hkeep : Keeps L d0 d) : Keeps L d0 (Dev.searchPhy d ids) :=
  .after hmask (Dev.searchPhy_keeps0 d ids) hkeep

theorem Dev.plcaStart_keeps0 (d : Dev) : Keeps 5 d (Dev.plcaStart d) := by
  unfold Dev.plcaStart
  simp (maxSteps := 400000) (maxDischargeDepth := 99) +contextual [Keeps.foldl, Keeps.ite, Dev.draw]
@[simp] theorem Dev.plcaStart_keeps {L : Nat} {d0 : Dev} (d : Dev) (hmask : 5 ||| L = L) (hkeep : Keeps L d0 d) : Keeps L d0 (Dev.plcaStart d) :=
  .after hmask (Dev.plcaStart_keeps0 d) hkeep

theorem Dev.bootImages_keeps0 (f : BootFacts) (d : Dev) : Keeps 251670823 d (Dev.bootImages f d) := by
  unfold Dev.bootImages
  (try dsimp only); (repeat' split) <;> simp (maxSteps := 400000) (maxDischargeDepth := 99) +contextual [Keeps.foldl, Keeps.ite, Dev.draw]
@[simp] theorem Dev.bootImages_keeps {L : Nat} {d0 : Dev} (f : BootFacts) (d : Dev) (hmask : 251670823 ||| L = L) (hkeep : Keeps L d0 d) : Keeps L d0 (Dev.bootImages f d) :=
  .after hmask (Dev.bootImages_keeps0 f d) hkeep

theorem Dev.settleOpen_keeps0 (d : Dev) (base : Ring) (number : Nat) (part : RecordOpening) : Keeps 10493957 d (Dev.settleOpen d base number part) := by
  unfold Dev.settleOpen
  simp (maxSteps := 400000) (maxDischargeDepth := 99) +contextual [Keeps.foldl, Keeps.ite, Dev.draw]
@[simp] theorem Dev.settleOpen_keeps {L : Nat} {d0 : Dev} (d : Dev) (base : Ring) (number : Nat) (part : RecordOpening) (hmask : 10493957 ||| L = L) (hkeep : Keeps L d0 d) : Keeps L d0 (Dev.settleOpen d base number part) :=
  .after hmask (Dev.settleOpen_keeps0 d base number part) hkeep

theorem Dev.bootSessions_keeps0 (d : Dev) (base : Option Ring) : Keeps 11235335 d (Dev.bootSessions d base) := by
  unfold Dev.bootSessions
  (try dsimp only); (repeat' split) <;> simp (maxSteps := 400000) (maxDischargeDepth := 99) +contextual [Keeps.foldl, Keeps.ite, Dev.draw]
@[simp] theorem Dev.bootSessions_keeps {L : Nat} {d0 : Dev} (d : Dev) (base : Option Ring) (hmask : 11235335 ||| L = L) (hkeep : Keeps L d0 d) : Keeps L d0 (Dev.bootSessions d base) :=
  .after hmask (Dev.bootSessions_keeps0 d base) hkeep

theorem Dev.bootPlan_keeps0 (d : Dev) : Keeps 16777220 d (Dev.bootPlan d) := by
  unfold Dev.bootPlan
  (try dsimp only); (repeat' split) <;> simp (maxSteps := 400000) (maxDischargeDepth := 99) +contextual [Keeps.foldl, Keeps.ite, Dev.draw]
@[simp] theorem Dev.bootPlan_keeps {L : Nat} {d0 : Dev} (d : Dev) (hmask : 16777220 ||| L = L) (hkeep : Keeps L d0 d) : Keeps L d0 (Dev.bootPlan d) :=
  .after hmask (Dev.bootPlan_keeps0 d) hkeep

@[simp] theorem Dev.bootStart_keeps {L : Nat} {d0 : Dev} (d : Dev) (f : BootFacts) (hmask : 268435455 ||| L = L) (hkeep : Keeps L d0 d) : Keeps L d0 (Dev.bootStart d f) :=
  .after hmask (.all _ _) hkeep

theorem Dev.safetyTests_keeps0 (d : Dev) (testsOk : Bool) : Keeps 155941 d (Dev.safetyTests d testsOk) := by
  unfold Dev.safetyTests
  simp (maxSteps := 400000) (maxDischargeDepth := 99) +contextual [Keeps.foldl, Keeps.ite, Dev.draw]
@[simp] theorem Dev.safetyTests_keeps {L : Nat} {d0 : Dev} (d : Dev) (testsOk : Bool) (hmask : 155941 ||| L = L) (hkeep : Keeps L d0 d) : Keeps L d0 (Dev.safetyTests d testsOk) :=
  .after hmask (Dev.safetyTests_keeps0 d testsOk) hkeep

theorem Dev.startHold_keeps0 (d : Dev) : Keeps 44790822 d (Dev.startHold d) := by
  unfold Dev.startHold
  (try dsimp only); (repeat' split) <;> simp (maxSteps := 400000) (maxDischargeDepth := 99) +contextual [Keeps.foldl, Keeps.ite, Dev.draw]
@[simp] theorem Dev.startHold_keeps {L : Nat} {d0 : Dev} (d : Dev) (hmask : 44790822 ||| L = L) (hkeep : Keeps L d0 d) : Keeps L d0 (Dev.startHold d) :=
  .after hmask (Dev.startHold_keeps0 d) hkeep

theorem Dev.bootComplete_keeps0 (testsOk : Bool) (d : Dev) : Keeps 44791095 d (Dev.bootComplete testsOk d) := by
  unfold Dev.bootComplete
  simp (maxSteps := 400000) (maxDischargeDepth := 99) +contextual [Keeps.foldl, Keeps.ite, Dev.draw]
@[simp] theorem Dev.bootComplete_keeps {L : Nat} {d0 : Dev} (testsOk : Bool) (d : Dev) (hmask : 44791095 ||| L = L) (hkeep : Keeps L d0 d) : Keeps L d0 (Dev.bootComplete testsOk d) :=
  .after hmask (Dev.bootComplete_keeps0 testsOk d) hkeep

theorem Dev.rescuePort_keeps0 (d : Dev) (p : PortId) : Keeps 2838534 d (Dev.rescuePort d p) := by
  unfold Dev.rescuePort
  (try dsimp only); (repeat' split) <;> simp (maxSteps := 400000) (maxDischargeDepth := 99) +contextual [Keeps.foldl, Keeps.ite, Dev.draw]
@[simp] theorem Dev.rescuePort_keeps {L : Nat} {d0 : Dev} (d : Dev) (p : PortId) (hmask : 2838534 ||| L = L) (hkeep : Keeps L d0 d) : Keeps L d0 (Dev.rescuePort d p) :=
  .after hmask (Dev.rescuePort_keeps0 d p) hkeep

theorem Dev.rescuePorts_keeps0 (d : Dev) : Keeps 2838534 d (Dev.rescuePorts d) := by
  unfold Dev.rescuePorts
  simp (maxSteps := 400000) (maxDischargeDepth := 99) +contextual [Keeps.foldl, Keeps.ite, Dev.draw]
@[simp] theorem Dev.rescuePorts_keeps {L : Nat} {d0 : Dev} (d : Dev) (hmask : 2838534 ||| L = L) (hkeep : Keeps L d0 d) : Keeps L d0 (Dev.rescuePorts d) :=
  .after hmask (Dev.rescuePorts_keeps0 d) hkeep

theorem Dev.engineLost_keeps0 (d : Dev) (e : Fin 4) : Keeps 2838534 d (Dev.engineLost d e) := by
  unfold Dev.engineLost
  simp (maxSteps := 400000) (maxDischargeDepth := 99) +contextual [Keeps.foldl, Keeps.ite, Dev.draw]
@[simp] theorem Dev.engineLost_keeps {L : Nat} {d0 : Dev} (d : Dev) (e : Fin 4) (hmask : 2838534 ||| L = L) (hkeep : Keeps L d0 d) : Keeps L d0 (Dev.engineLost d e) :=
  .after hmask (Dev.engineLost_keeps0 d e) hkeep

theorem Dev.refuseItem_keeps0 (d : Dev) (x : TickItem) : Keeps 134223878 d (Dev.refuseItem d x) := by
  unfold Dev.refuseItem
  (try dsimp only); (repeat' split) <;> simp (maxSteps := 400000) (maxDischargeDepth := 99) +contextual [Keeps.foldl, Keeps.ite, Dev.draw]
@[simp] theorem Dev.refuseItem_keeps {L : Nat} {d0 : Dev} (d : Dev) (x : TickItem) (hmask : 134223878 ||| L = L) (hkeep : Keeps L d0 d) : Keeps L d0 (Dev.refuseItem d x) :=
  .after hmask (Dev.refuseItem_keeps0 d x) hkeep

theorem Dev.refuseItems_keeps0 (d : Dev) : Keeps 134223878 d (Dev.refuseItems d) := by
  unfold Dev.refuseItems
  simp (maxSteps := 400000) (maxDischargeDepth := 99) +contextual [Keeps.foldl, Keeps.ite, Dev.draw]
@[simp] theorem Dev.refuseItems_keeps {L : Nat} {d0 : Dev} (d : Dev) (hmask : 134223878 ||| L = L) (hkeep : Keeps L d0 d) : Keeps L d0 (Dev.refuseItems d) :=
  .after hmask (Dev.refuseItems_keeps0 d) hkeep

theorem Dev.sapwoodOver_keeps0 (d : Dev) : Keeps 155204102 d (Dev.sapwoodOver d) := by
  unfold Dev.sapwoodOver
  (try dsimp only); (repeat' split) <;> simp (maxSteps := 400000) (maxDischargeDepth := 99) +contextual [Keeps.foldl, Keeps.ite, Dev.draw]
@[simp] theorem Dev.sapwoodOver_keeps {L : Nat} {d0 : Dev} (d : Dev) (hmask : 155204102 ||| L = L) (hkeep : Keeps L d0 d) : Keeps L d0 (Dev.sapwoodOver d) :=
  .after hmask (Dev.sapwoodOver_keeps0 d) hkeep

theorem Dev.sapwoodGone_keeps0 (d : Dev) : Keeps 8402948 d (Dev.sapwoodGone d) := by
  unfold Dev.sapwoodGone
  simp (maxSteps := 400000) (maxDischargeDepth := 99) +contextual [Keeps.foldl, Keeps.ite, Dev.draw]
@[simp] theorem Dev.sapwoodGone_keeps {L : Nat} {d0 : Dev} (d : Dev) (hmask : 8402948 ||| L = L) (hkeep : Keeps L d0 d) : Keeps L d0 (Dev.sapwoodGone d) :=
  .after hmask (Dev.sapwoodGone_keeps0 d) hkeep

theorem Dev.dropCommit_keeps0 (d : Dev) : Keeps 524288 d (Dev.dropCommit d) := by
  unfold Dev.dropCommit
  simp (maxSteps := 400000) (maxDischargeDepth := 99) +contextual [Keeps.foldl, Keeps.ite, Dev.draw]
@[simp] theorem Dev.dropCommit_keeps {L : Nat} {d0 : Dev} (d : Dev) (hmask : 524288 ||| L = L) (hkeep : Keeps L d0 d) : Keeps L d0 (Dev.dropCommit d) :=
  .after hmask (Dev.dropCommit_keeps0 d) hkeep

theorem Dev.heartwoodLost_keeps0 (d : Dev) : Keeps 2838535 d (Dev.heartwoodLost d) := by
  unfold Dev.heartwoodLost
  simp (maxSteps := 400000) (maxDischargeDepth := 99) +contextual [Keeps.foldl, Keeps.ite, Dev.draw]
@[simp] theorem Dev.heartwoodLost_keeps {L : Nat} {d0 : Dev} (d : Dev) (hmask : 2838535 ||| L = L) (hkeep : Keeps L d0 d) : Keeps L d0 (Dev.heartwoodLost d) :=
  .after hmask (Dev.heartwoodLost_keeps0 d) hkeep

theorem Dev.reopen_keeps0 (d : Dev) (ents : Vector Entity 9) (p : PortId) : Keeps 524288 d (Dev.reopen d ents p) := by
  unfold Dev.reopen
  (try dsimp only); (repeat' split) <;> simp (maxSteps := 400000) (maxDischargeDepth := 99) +contextual [Keeps.foldl, Keeps.ite, Dev.draw]
@[simp] theorem Dev.reopen_keeps {L : Nat} {d0 : Dev} (d : Dev) (ents : Vector Entity 9) (p : PortId) (hmask : 524288 ||| L = L) (hkeep : Keeps L d0 d) : Keeps L d0 (Dev.reopen d ents p) :=
  .after hmask (Dev.reopen_keeps0 d ents p) hkeep

theorem Dev.heartwoodBack_keeps0 (d : Dev) : Keeps 1990948 d (Dev.heartwoodBack d) := by
  unfold Dev.heartwoodBack
  (try dsimp only); (repeat' split) <;> simp (maxSteps := 400000) (maxDischargeDepth := 99) +contextual [Keeps.foldl, Keeps.ite, Dev.draw]
@[simp] theorem Dev.heartwoodBack_keeps {L : Nat} {d0 : Dev} (d : Dev) (hmask : 1990948 ||| L = L) (hkeep : Keeps L d0 d) : Keeps L d0 (Dev.heartwoodBack d) :=
  .after hmask (Dev.heartwoodBack_keeps0 d) hkeep

theorem Dev.coreLost_keeps0 (d : Dev) (c : CoreId) (cause : Nat) : Keeps 267090727 d (Dev.coreLost d c cause) := by
  unfold Dev.coreLost
  cases c <;> dsimp only <;> (repeat' split) <;> simp (maxDischargeDepth := 99)
@[simp] theorem Dev.coreLost_keeps {L : Nat} {d0 : Dev} (d : Dev) (c : CoreId) (cause : Nat) (hmask : 267090727 ||| L = L) (hkeep : Keeps L d0 d) : Keeps L d0 (Dev.coreLost d c cause) :=
  .after hmask (Dev.coreLost_keeps0 d c cause) hkeep

theorem Dev.coreFails_keeps0 (c : CoreId) (cause : Nat) (d : Dev) : Keeps 267090727 d (Dev.coreFails c cause d) := by
  unfold Dev.coreFails
  simp (maxSteps := 400000) (maxDischargeDepth := 99) +contextual [Keeps.foldl, Keeps.ite, Dev.draw]
@[simp] theorem Dev.coreFails_keeps {L : Nat} {d0 : Dev} (c : CoreId) (cause : Nat) (d : Dev) (hmask : 267090727 ||| L = L) (hkeep : Keeps L d0 d) : Keeps L d0 (Dev.coreFails c cause d) :=
  .after hmask (Dev.coreFails_keeps0 c cause d) hkeep

theorem Dev.unitBack_keeps0 (d : Dev) (u : Nat) : Keeps 4 d (Dev.unitBack d u) := by
  unfold Dev.unitBack
  simp (maxSteps := 400000) (maxDischargeDepth := 99) +contextual [Keeps.foldl, Keeps.ite, Dev.draw]
@[simp] theorem Dev.unitBack_keeps {L : Nat} {d0 : Dev} (d : Dev) (u : Nat) (hmask : 4 ||| L = L) (hkeep : Keeps L d0 d) : Keeps L d0 (Dev.unitBack d u) :=
  .after hmask (Dev.unitBack_keeps0 d u) hkeep

theorem Dev.coreBack_keeps0 (c : CoreId) (d : Dev) : Keeps 117406502 d (Dev.coreBack c d) := by
  unfold Dev.coreBack
  (try dsimp only); (repeat' split) <;> simp (maxSteps := 400000) (maxDischargeDepth := 99) +contextual [Keeps.foldl, Keeps.ite, Dev.draw]
@[simp] theorem Dev.coreBack_keeps {L : Nat} {d0 : Dev} (c : CoreId) (d : Dev) (hmask : 117406502 ||| L = L) (hkeep : Keeps L d0 d) : Keeps L d0 (Dev.coreBack c d) :=
  .after hmask (Dev.coreBack_keeps0 c d) hkeep

theorem Dev.coreRestartDone_keeps0 (c : CoreId) (imageOk : Bool) (d : Dev) : Keeps 117406502 d (Dev.coreRestartDone c imageOk d) := by
  unfold Dev.coreRestartDone
  (try dsimp only); (repeat' split) <;> simp (maxSteps := 400000) (maxDischargeDepth := 99) +contextual [Keeps.foldl, Keeps.ite, Dev.draw]
@[simp] theorem Dev.coreRestartDone_keeps {L : Nat} {d0 : Dev} (c : CoreId) (imageOk : Bool) (d : Dev) (hmask : 117406502 ||| L = L) (hkeep : Keeps L d0 d) : Keeps L d0 (Dev.coreRestartDone c imageOk d) :=
  .after hmask (Dev.coreRestartDone_keeps0 c imageOk d) hkeep

@[simp] theorem Dev.withTrial_keeps {L : Nat} {d0 : Dev} (f : Dev → Dev) (d : Dev)
    (hmask : 132280613 ||| L = L) (hkeep : Keeps L d0 d) (hf : ∀ e, Keeps L d0 e → Keeps L d0 (f e)) : Keeps L d0 (Dev.withTrial f d) := by
  have h1 := hf d hkeep
  unfold Dev.withTrial
  dsimp only
  split
  · exact h1
  · exact Dev.planHit_keeps _ _ hmask h1

theorem Dev.appRead_keeps0 (f : CnpFrame) (id : Nat) (refs : List Nat) (d : Dev) : Keeps 41947172 d (Dev.appRead f id refs d) := by
  unfold Dev.appRead
  simp (maxSteps := 400000) (maxDischargeDepth := 99) +contextual [Keeps.foldl, Keeps.ite, Dev.draw]
@[simp] theorem Dev.appRead_keeps {L : Nat} {d0 : Dev} (f : CnpFrame) (id : Nat) (refs : List Nat) (d : Dev) (hmask : 41947172 ||| L = L) (hkeep : Keeps L d0 d) : Keeps L d0 (Dev.appRead f id refs d) :=
  .after hmask (Dev.appRead_keeps0 f id refs d) hkeep

end Sys2Proof.Machine
end

