-- ==== Sys2Proof/Laws/FramesDictionary.lean ====
section
/-! SUPPORT. What each function leaves alone: writes, reads and the dictionary tick. -/

set_option linter.unusedSimpArgs false
set_option linter.unusedTactic false
set_option linter.unreachableTactic false
set_option linter.unnecessarySeqFocus false

namespace Sys2Proof.Machine

theorem Dev.mergedView_keeps0 (d : Dev) (g : Nat) : Keeps 4 d (Dev.mergedView d g) := by
  unfold Dev.mergedView
  refine Dev.putAll_keeps _ _ (by decide) (Keeps.foldl _ (Keeps.refl _ _) fun e x he => ?_)
  split <;> simp (maxDischargeDepth := 99) [*]
@[simp] theorem Dev.mergedView_keeps {L : Nat} {d0 : Dev} (d : Dev) (g : Nat) (hmask : 4 ||| L = L) (hkeep : Keeps L d0 d) : Keeps L d0 (Dev.mergedView d g) :=
  .after hmask (Dev.mergedView_keeps0 d g) hkeep

theorem Dev.stage_keeps0 (d : Dev) (g key : Nat) (v : Val) : Keeps 2048 d (Dev.stage d g key v) := by
  unfold Dev.stage
  simp (maxSteps := 400000) (maxDischargeDepth := 99) +contextual [Keeps.foldl, Keeps.ite, Dev.draw]
@[simp] theorem Dev.stage_keeps {L : Nat} {d0 : Dev} (d : Dev) (g key : Nat) (v : Val) (hmask : 2048 ||| L = L) (hkeep : Keeps L d0 d) : Keeps L d0 (Dev.stage d g key v) :=
  .after hmask (Dev.stage_keeps0 d g key v) hkeep

theorem Dev.postLegal_keeps0 (d : Dev) (a : Ack) (data : Bytes) : Keeps 134377606 d (Dev.postLegal d a data) := by
  unfold Dev.postLegal
  simp (maxSteps := 400000) (maxDischargeDepth := 99) +contextual [Keeps.foldl, Keeps.ite, Dev.draw]
@[simp] theorem Dev.postLegal_keeps {L : Nat} {d0 : Dev} (d : Dev) (a : Ack) (data : Bytes) (hmask : 134377606 ||| L = L) (hkeep : Keeps L d0 d) : Keeps L d0 (Dev.postLegal d a data) :=
  .after hmask (Dev.postLegal_keeps0 d a data) hkeep

theorem Dev.commitOutcome_keeps0 (d : Dev) (g code failing : Nat) : Keeps 4 d (Dev.commitOutcome d g code failing) := by
  unfold Dev.commitOutcome
  simp (maxSteps := 400000) (maxDischargeDepth := 99) +contextual [Keeps.foldl, Keeps.ite, Dev.draw]
@[simp] theorem Dev.commitOutcome_keeps {L : Nat} {d0 : Dev} (d : Dev) (g code failing : Nat) (hmask : 4 ||| L = L) (hkeep : Keeps L d0 d) : Keeps L d0 (Dev.commitOutcome d g code failing) :=
  .after hmask (Dev.commitOutcome_keeps0 d g code failing) hkeep

theorem Dev.commitServe_keeps0 (d : Dev) (g : Nat) (data : Bytes) (a : Ack) : Keeps 134223878 d (Dev.commitServe d g data a) := by
  unfold Dev.commitServe
  (try dsimp only); (repeat' split) <;> simp (maxSteps := 400000) (maxDischargeDepth := 99) +contextual [Keeps.foldl, Keeps.ite, Dev.draw]
@[simp] theorem Dev.commitServe_keeps {L : Nat} {d0 : Dev} (d : Dev) (g : Nat) (data : Bytes) (a : Ack) (hmask : 134223878 ||| L = L) (hkeep : Keeps L d0 d) : Keeps L d0 (Dev.commitServe d g data a) :=
  .after hmask (Dev.commitServe_keeps0 d g data a) hkeep

theorem Dev.commitRequest_keeps0 (m : HostMsg) (g : Nat) (data : Bytes) (d : Dev) : Keeps 134223878 d (Dev.commitRequest m g data d) := by
  unfold Dev.commitRequest
  refine hostRequest_keeps m _ _ d (by decide) (Keeps.refl _ _) fun e he => ?_
  
  (try dsimp only)
  (repeat' split) <;> simp (maxDischargeDepth := 99) [*]
@[simp] theorem Dev.commitRequest_keeps {L : Nat} {d0 : Dev} (m : HostMsg) (g : Nat) (data : Bytes) (d : Dev) (hmask : 134223878 ||| L = L) (hkeep : Keeps L d0 d) : Keeps L d0 (Dev.commitRequest m g data d) :=
  .after hmask (Dev.commitRequest_keeps0 m g data d) hkeep

theorem Dev.discardServe_keeps0 (g : Nat) (a : Ack) (u2_ : Val) (d : Dev) : Keeps 134232066 d (Dev.discardServe g a u2_ d) := by
  unfold Dev.discardServe
  simp (maxSteps := 400000) (maxDischargeDepth := 99) +contextual [Keeps.foldl, Keeps.ite, Dev.draw]
@[simp] theorem Dev.discardServe_keeps {L : Nat} {d0 : Dev} (g : Nat) (a : Ack) (u2_ : Val) (d : Dev) (hmask : 134232066 ||| L = L) (hkeep : Keeps L d0 d) : Keeps L d0 (Dev.discardServe g a u2_ d) :=
  .after hmask (Dev.discardServe_keeps0 g a u2_ d) hkeep

theorem Dev.discardRequest_keeps0 (m : HostMsg) (g : Nat) (data : Bytes) (d : Dev) : Keeps 134232070 d (Dev.discardRequest m g data d) := by
  unfold Dev.discardRequest
  simp (maxSteps := 400000) (maxDischargeDepth := 99) +contextual [Keeps.foldl, Keeps.ite, Dev.draw]
@[simp] theorem Dev.discardRequest_keeps {L : Nat} {d0 : Dev} (m : HostMsg) (g : Nat) (data : Bytes) (d : Dev) (hmask : 134232070 ||| L = L) (hkeep : Keeps L d0 d) : Keeps L d0 (Dev.discardRequest m g data d) :=
  .after hmask (Dev.discardRequest_keeps0 m g data d) hkeep

theorem Dev.shadowTimeout_keeps0 (g : Nat) (d : Dev) : Keeps 10244 d (Dev.shadowTimeout g d) := by
  unfold Dev.shadowTimeout
  simp (maxSteps := 400000) (maxDischargeDepth := 99) +contextual [Keeps.foldl, Keeps.ite, Dev.draw]
@[simp] theorem Dev.shadowTimeout_keeps {L : Nat} {d0 : Dev} (g : Nat) (d : Dev) (hmask : 10244 ||| L = L) (hkeep : Keeps L d0 d) : Keeps L d0 (Dev.shadowTimeout g d) :=
  .after hmask (Dev.shadowTimeout_keeps0 g d) hkeep

theorem Dev.registrationOver_keeps0 (d : Dev) (s : SlotId) (timed : Bool) : Keeps 8402948 d (Dev.registrationOver d s timed) := by
  unfold Dev.registrationOver
  simp (maxSteps := 400000) (maxDischargeDepth := 99) +contextual [Keeps.foldl, Keeps.ite, Dev.draw]
@[simp] theorem Dev.registrationOver_keeps {L : Nat} {d0 : Dev} (d : Dev) (s : SlotId) (timed : Bool) (hmask : 8402948 ||| L = L) (hkeep : Keeps L d0 d) : Keeps L d0 (Dev.registrationOver d s timed) :=
  .after hmask (Dev.registrationOver_keeps0 d s timed) hkeep

theorem Dev.deregisterServe_keeps0 (target : SlotId) (a : Ack) (u2_ : Val) (d : Dev) : Keeps 2048 d (Dev.deregisterServe target a u2_ d) := by
  unfold Dev.deregisterServe
  simp (maxSteps := 400000) (maxDischargeDepth := 99) +contextual [Keeps.foldl, Keeps.ite, Dev.draw]
@[simp] theorem Dev.deregisterServe_keeps {L : Nat} {d0 : Dev} (target : SlotId) (a : Ack) (u2_ : Val) (d : Dev) (hmask : 2048 ||| L = L) (hkeep : Keeps L d0 d) : Keeps L d0 (Dev.deregisterServe target a u2_ d) :=
  .after hmask (Dev.deregisterServe_keeps0 target a u2_ d) hkeep

theorem Dev.applyDeregister_keeps0 (d : Dev) (a : Ack) (target : SlotId) : Keeps 142620678 d (Dev.applyDeregister d a target) := by
  unfold Dev.applyDeregister
  simp (maxSteps := 400000) (maxDischargeDepth := 99) +contextual [Keeps.foldl, Keeps.ite, Dev.draw]
@[simp] theorem Dev.applyDeregister_keeps {L : Nat} {d0 : Dev} (d : Dev) (a : Ack) (target : SlotId) (hmask : 142620678 ||| L = L) (hkeep : Keeps L d0 d) : Keeps L d0 (Dev.applyDeregister d a target) :=
  .after hmask (Dev.applyDeregister_keeps0 d a target) hkeep

theorem Dev.abortWrite_keeps0 (d : Dev) (a : Ack) (code : Nat) : Keeps 134221830 d (Dev.abortWrite d a code) := by
  unfold Dev.abortWrite
  (try dsimp only); (repeat' split) <;> simp (maxSteps := 400000) (maxDischargeDepth := 99) +contextual [Keeps.foldl, Keeps.ite, Dev.draw]
@[simp] theorem Dev.abortWrite_keeps {L : Nat} {d0 : Dev} (d : Dev) (a : Ack) (code : Nat) (hmask : 134221830 ||| L = L) (hkeep : Keeps L d0 d) : Keeps L d0 (Dev.abortWrite d a code) :=
  .after hmask (Dev.abortWrite_keeps0 d a code) hkeep

@[simp] theorem Dev.takeWrite_keeps {L : Nat} {d0 : Dev} (d : Dev) (a : Ack) (key : Nat) (r : Row) (data : Bytes) (hmask : 268435455 ||| L = L) (hkeep : Keeps L d0 d) : Keeps L d0 (Dev.takeWrite d a key r data) :=
  .after hmask (.all _ _) hkeep

@[simp] theorem Dev.serveWrite_keeps {L : Nat} {d0 : Dev} (d : Dev) (a : Ack) (key : Nat) (data : Bytes) (hmask : 268435455 ||| L = L) (hkeep : Keeps L d0 d) : Keeps L d0 (Dev.serveWrite d a key data) :=
  .after hmask (.all _ _) hkeep

theorem Dev.abortRx_keeps0 (d : Dev) (s : SlotId) (code : Nat) : Keeps 134221830 d (Dev.abortRx d s code) := by
  unfold Dev.abortRx
  (try dsimp only); (repeat' split) <;> simp (maxSteps := 400000) (maxDischargeDepth := 99) +contextual [Keeps.foldl, Keeps.ite, Dev.draw]
@[simp] theorem Dev.abortRx_keeps {L : Nat} {d0 : Dev} (d : Dev) (s : SlotId) (code : Nat) (hmask : 134221830 ||| L = L) (hkeep : Keeps L d0 d) : Keeps L d0 (Dev.abortRx d s code) :=
  .after hmask (Dev.abortRx_keeps0 d s code) hkeep

@[simp] theorem Dev.finishRx_keeps {L : Nat} {d0 : Dev} (d : Dev) (s : SlotId) (t : RxTransfer) (hmask : 268435455 ||| L = L) (hkeep : Keeps L d0 d) : Keeps L d0 (Dev.finishRx d s t) :=
  .after hmask (.all _ _) hkeep

@[simp] theorem Dev.openRx_keeps {L : Nat} {d0 : Dev} (d : Dev) (a : Ack) (total : Nat) (data : Bytes) (hmask : 268435455 ||| L = L) (hkeep : Keeps L d0 d) : Keeps L d0 (Dev.openRx d a total data) :=
  .after hmask (.all _ _) hkeep

@[simp] theorem Dev.writeServe_keeps {L : Nat} {d0 : Dev} (d : Dev) (a : Ack) (total : Nat) (segmented : Bool) (data : Bytes) (hmask : 268435455 ||| L = L) (hkeep : Keeps L d0 d) : Keeps L d0 (Dev.writeServe d a total segmented data) :=
  .after hmask (.all _ _) hkeep

theorem Dev.interfacesCommitted_keeps0 (d old : Dev) : Keeps 4103 d (Dev.interfacesCommitted d old) := by
  unfold Dev.interfacesCommitted
  extract_lets moved d1 d2
  have h1 : Keeps 4103 d d1 := by unfold d1; split <;> simp (maxDischargeDepth := 99)
  clear_value d1
  have h2 : Keeps 4103 d d2 := by unfold d2; split <;> simp (maxDischargeDepth := 99) [h1]
  clear_value d2
  split
  · exact Dev.searchPhy_keeps _ _ (by decide) (Dev.draw_keeps _ (by decide) h2)
  · exact h2
@[simp] theorem Dev.interfacesCommitted_keeps {L : Nat} {d0 : Dev} (d old : Dev) (hmask : 4103 ||| L = L) (hkeep : Keeps L d0 d) : Keeps L d0 (Dev.interfacesCommitted d old) :=
  .after hmask (Dev.interfacesCommitted_keeps0 d old) hkeep

theorem Dev.portCommitted_keeps0 (d old : Dev) (p : PortId) : Keeps 2871302 d (Dev.portCommitted d old p) := by
  unfold Dev.portCommitted
  simp (maxSteps := 400000) (maxDischargeDepth := 99) +contextual [Keeps.foldl, Keeps.ite, Dev.draw]
@[simp] theorem Dev.portCommitted_keeps {L : Nat} {d0 : Dev} (d old : Dev) (p : PortId) (hmask : 2871302 ||| L = L) (hkeep : Keeps L d0 d) : Keeps L d0 (Dev.portCommitted d old p) :=
  .after hmask (Dev.portCommitted_keeps0 d old p) hkeep

@[simp] theorem Dev.groupCommitted_keeps {L : Nat} {d0 : Dev} (d old : Dev) (g : Nat) (hmask : 268435455 ||| L = L) (hkeep : Keeps L d0 d) : Keeps L d0 (Dev.groupCommitted d old g) :=
  .after hmask (.all _ _) hkeep

theorem Dev.journaled1_keeps0 (d : Dev) (a : Ack) (items : Store) : Keeps 2048 d (Dev.journaled1 d a items) := by
  unfold Dev.journaled1
  simp (maxSteps := 400000) (maxDischargeDepth := 99) +contextual [Keeps.foldl, Keeps.ite, Dev.draw]
@[simp] theorem Dev.journaled1_keeps {L : Nat} {d0 : Dev} (d : Dev) (a : Ack) (items : Store) (hmask : 2048 ||| L = L) (hkeep : Keeps L d0 d) : Keeps L d0 (Dev.journaled1 d a items) :=
  .after hmask (Dev.journaled1_keeps0 d a items) hkeep

theorem Dev.applyWrite_keeps0 (d : Dev) (a : Ack) (key : Nat) (v : Val) : Keeps 134289414 d (Dev.applyWrite d a key v) := by
  unfold Dev.applyWrite
  (try dsimp only); (repeat' split) <;> simp (maxSteps := 400000) (maxDischargeDepth := 99) +contextual [Keeps.foldl, Keeps.ite, Dev.draw]
@[simp] theorem Dev.applyWrite_keeps {L : Nat} {d0 : Dev} (d : Dev) (a : Ack) (key : Nat) (v : Val) (hmask : 134289414 ||| L = L) (hkeep : Keeps L d0 d) : Keeps L d0 (Dev.applyWrite d a key v) :=
  .after hmask (Dev.applyWrite_keeps0 d a key v) hkeep

@[simp] theorem Dev.applyCommit_keeps {L : Nat} {d0 : Dev} (d : Dev) (a : Ack) (g : Nat) (members : Store) (hmask : 268435455 ||| L = L) (hkeep : Keeps L d0 d) : Keeps L d0 (Dev.applyCommit d a g members) :=
  .after hmask (.all _ _) hkeep

theorem Dev.applyFirst_keeps0 (d : Dev) (x : TickItem) : Keeps 268435455 d (Dev.applyFirst d x) := by
  cases x <;> simp (maxDischargeDepth := 99) +contextual [Dev.applyFirst, Keeps.foldl]
@[simp] theorem Dev.applyFirst_keeps {L : Nat} {d0 : Dev} (d : Dev) (x : TickItem) (hmask : 268435455 ||| L = L) (hkeep : Keeps L d0 d) : Keeps L d0 (Dev.applyFirst d x) :=
  .after hmask (Dev.applyFirst_keeps0 d x) hkeep

theorem Dev.applyLast_keeps0 (d : Dev) (x : TickItem) : Keeps 137065478 d (Dev.applyLast d x) := by
  cases x <;> simp (maxDischargeDepth := 99) +contextual [Dev.applyLast, Keeps.foldl]
@[simp] theorem Dev.applyLast_keeps {L : Nat} {d0 : Dev} (d : Dev) (x : TickItem) (hmask : 137065478 ||| L = L) (hkeep : Keeps L d0 d) : Keeps L d0 (Dev.applyLast d x) :=
  .after hmask (Dev.applyLast_keeps0 d x) hkeep

@[simp] theorem Dev.applyItems_keeps {L : Nat} {d0 : Dev} (d : Dev) (hmask : 268435455 ||| L = L) (hkeep : Keeps L d0 d) : Keeps L d0 (Dev.applyItems d) :=
  .after hmask (.all _ _) hkeep

theorem Dev.setList_keeps0 (d : Dev) (n : Fin 16) (f : PublishList → PublishList) : Keeps 2048 d (Dev.setList d n f) := by
  unfold Dev.setList
  simp (maxSteps := 400000) (maxDischargeDepth := 99) +contextual [Keeps.foldl, Keeps.ite, Dev.draw]
@[simp] theorem Dev.setList_keeps {L : Nat} {d0 : Dev} (d : Dev) (n : Fin 16) (f : PublishList → PublishList) (hmask : 2048 ||| L = L) (hkeep : Keeps L d0 d) : Keeps L d0 (Dev.setList d n f) :=
  .after hmask (Dev.setList_keeps0 d n f) hkeep

theorem Dev.sendList_keeps0 (d : Dev) (n : Fin 16) (s : SlotId) (vals : Bytes) : Keeps 134223878 d (Dev.sendList d n s vals) := by
  unfold Dev.sendList
  simp (maxSteps := 400000) (maxDischargeDepth := 99) +contextual [Keeps.foldl, Keeps.ite, Dev.draw]
@[simp] theorem Dev.sendList_keeps {L : Nat} {d0 : Dev} (d : Dev) (n : Fin 16) (s : SlotId) (vals : Bytes) (hmask : 134223878 ||| L = L) (hkeep : Keeps L d0 d) : Keeps L d0 (Dev.sendList d n s vals) :=
  .after hmask (Dev.sendList_keeps0 d n s vals) hkeep

theorem Dev.publish_keeps0 (n : Fin 16) (vals : Bytes) (d : Dev) : Keeps 134223878 d (Dev.publish n vals d) := by
  unfold Dev.publish
  (try dsimp only); (repeat' split) <;> simp (maxSteps := 400000) (maxDischargeDepth := 99) +contextual [Keeps.foldl, Keeps.ite, Dev.draw]
@[simp] theorem Dev.publish_keeps {L : Nat} {d0 : Dev} (n : Fin 16) (vals : Bytes) (d : Dev) (hmask : 134223878 ||| L = L) (hkeep : Keeps L d0 d) : Keeps L d0 (Dev.publish n vals d) :=
  .after hmask (Dev.publish_keeps0 n vals d) hkeep

theorem Dev.pausedList_keeps0 (d : Dev) (n : Fin 16) : Keeps 2048 d (Dev.pausedList d n) := by
  unfold Dev.pausedList
  simp (maxSteps := 400000) (maxDischargeDepth := 99) +contextual [Keeps.foldl, Keeps.ite, Dev.draw]
@[simp] theorem Dev.pausedList_keeps {L : Nat} {d0 : Dev} (d : Dev) (n : Fin 16) (hmask : 2048 ||| L = L) (hkeep : Keeps L d0 d) : Keeps L d0 (Dev.pausedList d n) :=
  .after hmask (Dev.pausedList_keeps0 d n) hkeep

theorem Dev.listTick_keeps0 (d : Dev) (n : Fin 16) : Keeps 134223878 d (Dev.listTick d n) := by
  unfold Dev.listTick
  (try dsimp only); (repeat' split) <;> simp (maxSteps := 400000) (maxDischargeDepth := 99) +contextual [Keeps.foldl, Keeps.ite, Dev.draw]
@[simp] theorem Dev.listTick_keeps {L : Nat} {d0 : Dev} (d : Dev) (n : Fin 16) (hmask : 134223878 ||| L = L) (hkeep : Keeps L d0 d) : Keeps L d0 (Dev.listTick d n) :=
  .after hmask (Dev.listTick_keeps0 d n) hkeep

theorem Dev.accessTick_keeps0 (d : Dev) : Keeps 8196 d (Dev.accessTick d) := by
  unfold Dev.accessTick
  simp (maxSteps := 400000) (maxDischargeDepth := 99) +contextual [Keeps.foldl, Keeps.ite, Dev.draw]
@[simp] theorem Dev.accessTick_keeps {L : Nat} {d0 : Dev} (d : Dev) (hmask : 8196 ||| L = L) (hkeep : Keeps L d0 d) : Keeps L d0 (Dev.accessTick d) :=
  .after hmask (Dev.accessTick_keeps0 d) hkeep

theorem Dev.drainTick_keeps0 (d : Dev) : Keeps 34 d (Dev.drainTick d) := by
  unfold Dev.drainTick
  simp (maxSteps := 400000) (maxDischargeDepth := 99) +contextual [Keeps.foldl, Keeps.ite, Dev.draw]
@[simp] theorem Dev.drainTick_keeps {L : Nat} {d0 : Dev} (d : Dev) (hmask : 34 ||| L = L) (hkeep : Keeps L d0 d) : Keeps L d0 (Dev.drainTick d) :=
  .after hmask (Dev.drainTick_keeps0 d) hkeep

theorem Dev.canTick_keeps0 (d : Dev) : Keeps 4101 d (Dev.canTick d) := by
  unfold Dev.canTick
  simp (maxSteps := 400000) (maxDischargeDepth := 99) +contextual [Keeps.foldl, Keeps.ite, Dev.draw]
@[simp] theorem Dev.canTick_keeps {L : Nat} {d0 : Dev} (d : Dev) (hmask : 4101 ||| L = L) (hkeep : Keeps L d0 d) : Keeps L d0 (Dev.canTick d) :=
  .after hmask (Dev.canTick_keeps0 d) hkeep

theorem Dev.utcTick_keeps0 (d : Dev) : Keeps 1794060 d (Dev.utcTick d) := by
  unfold Dev.utcTick
  simp (maxSteps := 400000) (maxDischargeDepth := 99) +contextual [Keeps.foldl, Keeps.ite, Dev.draw]
@[simp] theorem Dev.utcTick_keeps {L : Nat} {d0 : Dev} (d : Dev) (hmask : 1794060 ||| L = L) (hkeep : Keeps L d0 d) : Keeps L d0 (Dev.utcTick d) :=
  .after hmask (Dev.utcTick_keeps0 d) hkeep

@[simp] theorem Dev.dictionaryTick_keeps {L : Nat} {d0 : Dev} (d : Dev) (hmask : 268435455 ||| L = L) (hkeep : Keeps L d0 d) : Keeps L d0 (Dev.dictionaryTick d) :=
  .after hmask (.all _ _) hkeep

theorem Dev.journalStoreDone_keeps0 (ok : Bool) (d : Dev) : Keeps 134223878 d (Dev.journalStoreDone ok d) := by
  unfold Dev.journalStoreDone
  (try dsimp only); (repeat' split) <;> simp (maxSteps := 400000) (maxDischargeDepth := 99) +contextual [Keeps.foldl, Keeps.ite, Dev.draw]
@[simp] theorem Dev.journalStoreDone_keeps {L : Nat} {d0 : Dev} (ok : Bool) (d : Dev) (hmask : 134223878 ||| L = L) (hkeep : Keeps L d0 d) : Keeps L d0 (Dev.journalStoreDone ok d) :=
  .after hmask (Dev.journalStoreDone_keeps0 ok d) hkeep

theorem Dev.abortTx_keeps0 (d : Dev) (s : SlotId) (code : Nat) : Keeps 134221830 d (Dev.abortTx d s code) := by
  unfold Dev.abortTx
  (try dsimp only); (repeat' split) <;> simp (maxSteps := 400000) (maxDischargeDepth := 99) +contextual [Keeps.foldl, Keeps.ite, Dev.draw]
@[simp] theorem Dev.abortTx_keeps {L : Nat} {d0 : Dev} (d : Dev) (s : SlotId) (code : Nat) (hmask : 134221830 ||| L = L) (hkeep : Keeps L d0 d) : Keeps L d0 (Dev.abortTx d s code) :=
  .after hmask (Dev.abortTx_keeps0 d s code) hkeep

theorem Dev.openTx_keeps0 (d : Dev) (a : Ack) (vals : List Bytes) : Keeps 134369286 d (Dev.openTx d a vals) := by
  unfold Dev.openTx
  simp (maxSteps := 400000) (maxDischargeDepth := 99) +contextual [Keeps.foldl, Keeps.ite, Dev.draw]
@[simp] theorem Dev.openTx_keeps {L : Nat} {d0 : Dev} (d : Dev) (a : Ack) (vals : List Bytes) (hmask : 134369286 ||| L = L) (hkeep : Keeps L d0 d) : Keeps L d0 (Dev.openTx d a vals) :=
  .after hmask (Dev.openTx_keeps0 d a vals) hkeep

theorem Dev.readRequest_keeps0 (m : HostMsg) (key count : Nat) (staged eccError : Bool) (seen d : Dev) : Keeps 142757894 d (Dev.readRequest m key count staged eccError seen d) := by
  unfold Dev.readRequest
  refine hostRequest_keeps m key _ d (by decide) (Keeps.refl _ _) fun e he => ?_
  
  (try dsimp only)
  (repeat' split) <;> simp (maxDischargeDepth := 99) [*]
@[simp] theorem Dev.readRequest_keeps {L : Nat} {d0 : Dev} (m : HostMsg) (key count : Nat) (staged eccError : Bool) (seen d : Dev) (hmask : 142757894 ||| L = L) (hkeep : Keeps L d0 d) : Keeps L d0 (Dev.readRequest m key count staged eccError seen d) :=
  .after hmask (Dev.readRequest_keeps0 m key count staged eccError seen d) hkeep

@[simp] theorem Dev.segmentIn_keeps {L : Nat} {d0 : Dev} (m : HostMsg) (number : Nat) (last : Bool) (data : Bytes) (d : Dev) (hmask : 268435455 ||| L = L) (hkeep : Keeps L d0 d) : Keeps L d0 (Dev.segmentIn m number last data d) :=
  .after hmask (.all _ _) hkeep

theorem Dev.segmentOut_keeps0 (s : SlotId) (number : Nat) (d : Dev) : Keeps 134369286 d (Dev.segmentOut s number d) := by
  unfold Dev.segmentOut
  (try dsimp only); (repeat' split) <;> simp (maxSteps := 400000) (maxDischargeDepth := 99) +contextual [Keeps.foldl, Keeps.ite, Dev.draw]
@[simp] theorem Dev.segmentOut_keeps {L : Nat} {d0 : Dev} (s : SlotId) (number : Nat) (d : Dev) (hmask : 134369286 ||| L = L) (hkeep : Keeps L d0 d) : Keeps L d0 (Dev.segmentOut s number d) :=
  .after hmask (Dev.segmentOut_keeps0 s number d) hkeep

theorem Dev.segmentAckIn_keeps0 (m : HostMsg) (number : Nat) (d : Dev) : Keeps 134221830 d (Dev.segmentAckIn m number d) := by
  unfold Dev.segmentAckIn
  refine hostNote_keeps m _ d (by decide) (Keeps.refl _ _) fun e he => ?_
  (try dsimp only)
  (repeat' split) <;> simp (maxDischargeDepth := 99) [*]
@[simp] theorem Dev.segmentAckIn_keeps {L : Nat} {d0 : Dev} (m : HostMsg) (number : Nat) (d : Dev) (hmask : 134221830 ||| L = L) (hkeep : Keeps L d0 d) : Keeps L d0 (Dev.segmentAckIn m number d) :=
  .after hmask (Dev.segmentAckIn_keeps0 m number d) hkeep

theorem Dev.segmentTimeout_keeps0 (s : SlotId) (toDevice : Bool) (d : Dev) : Keeps 134221830 d (Dev.segmentTimeout s toDevice d) := by
  unfold Dev.segmentTimeout
  (try dsimp only); (repeat' split) <;> simp (maxSteps := 400000) (maxDischargeDepth := 99) +contextual [Keeps.foldl, Keeps.ite, Dev.draw]
@[simp] theorem Dev.segmentTimeout_keeps {L : Nat} {d0 : Dev} (s : SlotId) (toDevice : Bool) (d : Dev) (hmask : 134221830 ||| L = L) (hkeep : Keeps L d0 d) : Keeps L d0 (Dev.segmentTimeout s toDevice d) :=
  .after hmask (Dev.segmentTimeout_keeps0 s toDevice d) hkeep

theorem Dev.confirm_keeps0 (m : HostMsg) (hostNonce ownNonce : Bytes) (d : Dev) : Keeps 142610438 d (Dev.confirm m hostNonce ownNonce d) := by
  unfold Dev.confirm
  (try dsimp only); (repeat' split) <;> simp (maxSteps := 400000) (maxDischargeDepth := 99) +contextual [Keeps.foldl, Keeps.ite, Dev.draw]
@[simp] theorem Dev.confirm_keeps {L : Nat} {d0 : Dev} (m : HostMsg) (hostNonce ownNonce : Bytes) (d : Dev) (hmask : 142610438 ||| L = L) (hkeep : Keeps L d0 d) : Keeps L d0 (Dev.confirm m hostNonce ownNonce d) :=
  .after hmask (Dev.confirm_keeps0 m hostNonce ownNonce d) hkeep

theorem Dev.registrationLapse_keeps0 (s : SlotId) (d : Dev) : Keeps 8402948 d (Dev.registrationLapse s d) := by
  unfold Dev.registrationLapse
  simp (maxSteps := 400000) (maxDischargeDepth := 99) +contextual [Keeps.foldl, Keeps.ite, Dev.draw]
@[simp] theorem Dev.registrationLapse_keeps {L : Nat} {d0 : Dev} (s : SlotId) (d : Dev) (hmask : 8402948 ||| L = L) (hkeep : Keeps L d0 d) : Keeps L d0 (Dev.registrationLapse s d) :=
  .after hmask (Dev.registrationLapse_keeps0 s d) hkeep

end Sys2Proof.Machine
end

