-- ==== Sys2Proof/Laws/State.lean ====
section
/-! SUPPORT. What each named update leaves as it was: one lemma per field of the device and per update, so that no proof unfolds a record
update. -/

namespace Sys2Proof.Machine

variable (d : Dev)

/-! ### `put` -/

@[simp] theorem Dev.put_free (k : Nat) (v : Val) : (d.put k v).free = d.free := by unfold Dev.put; split <;> rfl
@[simp] theorem Dev.put_out (k : Nat) (v : Val) : (d.put k v).out = d.out := by unfold Dev.put; split <;> rfl
@[simp] theorem Dev.put_time (k : Nat) (v : Val) : (d.put k v).time = d.time := by unfold Dev.put; split <;> rfl
@[simp] theorem Dev.put_clocks (k : Nat) (v : Val) : (d.put k v).clocks = d.clocks := by unfold Dev.put; split <;> rfl
@[simp] theorem Dev.put_crossings (k : Nat) (v : Val) : (d.put k v).crossings = d.crossings := by unfold Dev.put; split <;> rfl
@[simp] theorem Dev.put_refusals (k : Nat) (v : Val) : (d.put k v).refusals = d.refusals := by unfold Dev.put; split <;> rfl
@[simp] theorem Dev.put_mail (k : Nat) (v : Val) : (d.put k v).mail = d.mail := by unfold Dev.put; split <;> rfl
@[simp] theorem Dev.put_cores (k : Nat) (v : Val) : (d.put k v).cores = d.cores := by unfold Dev.put; split <;> rfl
@[simp] theorem Dev.put_activeB (k : Nat) (v : Val) : (d.put k v).activeB = d.activeB := by unfold Dev.put; split <;> rfl
@[simp] theorem Dev.put_power (k : Nat) (v : Val) : (d.put k v).power = d.power := by unfold Dev.put; split <;> rfl
@[simp] theorem Dev.put_dict (k : Nat) (v : Val) : (d.put k v).dict = d.dict := by unfold Dev.put; split <;> rfl
@[simp] theorem Dev.put_hosts (k : Nat) (v : Val) : (d.put k v).hosts = d.hosts := by unfold Dev.put; split <;> rfl
@[simp] theorem Dev.put_heart (k : Nat) (v : Val) : (d.put k v).heart = d.heart := by unfold Dev.put; split <;> rfl
@[simp] theorem Dev.put_ports (k : Nat) (v : Val) : (d.put k v).ports = d.ports := by unfold Dev.put; split <;> rfl
@[simp] theorem Dev.put_modules (k : Nat) (v : Val) : (d.put k v).modules = d.modules := by unfold Dev.put; split <;> rfl
@[simp] theorem Dev.put_site (k : Nat) (v : Val) : (d.put k v).site = d.site := by unfold Dev.put; split <;> rfl
@[simp] theorem Dev.put_safety (k : Nat) (v : Val) : (d.put k v).safety = d.safety := by unfold Dev.put; split <;> rfl
@[simp] theorem Dev.put_metro (k : Nat) (v : Val) : (d.put k v).metro = d.metro := by unfold Dev.put; split <;> rfl
@[simp] theorem Dev.put_energy (k : Nat) (v : Val) : (d.put k v).energy = d.energy := by unfold Dev.put; split <;> rfl
@[simp] theorem Dev.put_tariff (k : Nat) (v : Val) : (d.put k v).tariff = d.tariff := by unfold Dev.put; split <;> rfl
@[simp] theorem Dev.put_ledger (k : Nat) (v : Val) : (d.put k v).ledger = d.ledger := by unfold Dev.put; split <;> rfl
@[simp] theorem Dev.put_cvu (k : Nat) (v : Val) : (d.put k v).cvu = d.cvu := by unfold Dev.put; split <;> rfl
@[simp] theorem Dev.put_burl (k : Nat) (v : Val) : (d.put k v).burl = d.burl := by unfold Dev.put; split <;> rfl
@[simp] theorem Dev.put_update (k : Nat) (v : Val) : (d.put k v).update = d.update := by unfold Dev.put; split <;> rfl
@[simp] theorem Dev.put_canopy (k : Nat) (v : Val) : (d.put k v).canopy = d.canopy := by unfold Dev.put; split <;> rfl
@[simp] theorem Dev.put_display (k : Nat) (v : Val) : (d.put k v).display = d.display := by unfold Dev.put; split <;> rfl
@[simp] theorem Dev.put_held (k : Nat) (v : Val) : (d.put k v).held = d.held := by unfold Dev.put; split <;> rfl

/-! ### `putInt` -/

@[simp] theorem Dev.putInt_free (k : Nat) (n : Int) : (d.putInt k n).free = d.free := Dev.put_free d k _
@[simp] theorem Dev.putInt_out (k : Nat) (n : Int) : (d.putInt k n).out = d.out := Dev.put_out d k _
@[simp] theorem Dev.putInt_time (k : Nat) (n : Int) : (d.putInt k n).time = d.time := Dev.put_time d k _
@[simp] theorem Dev.putInt_clocks (k : Nat) (n : Int) : (d.putInt k n).clocks = d.clocks := Dev.put_clocks d k _
@[simp] theorem Dev.putInt_crossings (k : Nat) (n : Int) : (d.putInt k n).crossings = d.crossings := Dev.put_crossings d k _
@[simp] theorem Dev.putInt_refusals (k : Nat) (n : Int) : (d.putInt k n).refusals = d.refusals := Dev.put_refusals d k _
@[simp] theorem Dev.putInt_mail (k : Nat) (n : Int) : (d.putInt k n).mail = d.mail := Dev.put_mail d k _
@[simp] theorem Dev.putInt_cores (k : Nat) (n : Int) : (d.putInt k n).cores = d.cores := Dev.put_cores d k _
@[simp] theorem Dev.putInt_activeB (k : Nat) (n : Int) : (d.putInt k n).activeB = d.activeB := Dev.put_activeB d k _
@[simp] theorem Dev.putInt_power (k : Nat) (n : Int) : (d.putInt k n).power = d.power := Dev.put_power d k _
@[simp] theorem Dev.putInt_dict (k : Nat) (n : Int) : (d.putInt k n).dict = d.dict := Dev.put_dict d k _
@[simp] theorem Dev.putInt_hosts (k : Nat) (n : Int) : (d.putInt k n).hosts = d.hosts := Dev.put_hosts d k _
@[simp] theorem Dev.putInt_heart (k : Nat) (n : Int) : (d.putInt k n).heart = d.heart := Dev.put_heart d k _
@[simp] theorem Dev.putInt_ports (k : Nat) (n : Int) : (d.putInt k n).ports = d.ports := Dev.put_ports d k _
@[simp] theorem Dev.putInt_modules (k : Nat) (n : Int) : (d.putInt k n).modules = d.modules := Dev.put_modules d k _
@[simp] theorem Dev.putInt_site (k : Nat) (n : Int) : (d.putInt k n).site = d.site := Dev.put_site d k _
@[simp] theorem Dev.putInt_safety (k : Nat) (n : Int) : (d.putInt k n).safety = d.safety := Dev.put_safety d k _
@[simp] theorem Dev.putInt_metro (k : Nat) (n : Int) : (d.putInt k n).metro = d.metro := Dev.put_metro d k _
@[simp] theorem Dev.putInt_energy (k : Nat) (n : Int) : (d.putInt k n).energy = d.energy := Dev.put_energy d k _
@[simp] theorem Dev.putInt_tariff (k : Nat) (n : Int) : (d.putInt k n).tariff = d.tariff := Dev.put_tariff d k _
@[simp] theorem Dev.putInt_ledger (k : Nat) (n : Int) : (d.putInt k n).ledger = d.ledger := Dev.put_ledger d k _
@[simp] theorem Dev.putInt_cvu (k : Nat) (n : Int) : (d.putInt k n).cvu = d.cvu := Dev.put_cvu d k _
@[simp] theorem Dev.putInt_burl (k : Nat) (n : Int) : (d.putInt k n).burl = d.burl := Dev.put_burl d k _
@[simp] theorem Dev.putInt_update (k : Nat) (n : Int) : (d.putInt k n).update = d.update := Dev.put_update d k _
@[simp] theorem Dev.putInt_canopy (k : Nat) (n : Int) : (d.putInt k n).canopy = d.canopy := Dev.put_canopy d k _
@[simp] theorem Dev.putInt_display (k : Nat) (n : Int) : (d.putInt k n).display = d.display := Dev.put_display d k _
@[simp] theorem Dev.putInt_held (k : Nat) (n : Int) : (d.putInt k n).held = d.held := Dev.put_held d k _

/-! ### `putNat` -/

@[simp] theorem Dev.putNat_free (k n : Nat) : (d.putNat k n).free = d.free := Dev.put_free d k _
@[simp] theorem Dev.putNat_out (k n : Nat) : (d.putNat k n).out = d.out := Dev.put_out d k _
@[simp] theorem Dev.putNat_time (k n : Nat) : (d.putNat k n).time = d.time := Dev.put_time d k _
@[simp] theorem Dev.putNat_clocks (k n : Nat) : (d.putNat k n).clocks = d.clocks := Dev.put_clocks d k _
@[simp] theorem Dev.putNat_crossings (k n : Nat) : (d.putNat k n).crossings = d.crossings := Dev.put_crossings d k _
@[simp] theorem Dev.putNat_refusals (k n : Nat) : (d.putNat k n).refusals = d.refusals := Dev.put_refusals d k _
@[simp] theorem Dev.putNat_mail (k n : Nat) : (d.putNat k n).mail = d.mail := Dev.put_mail d k _
@[simp] theorem Dev.putNat_cores (k n : Nat) : (d.putNat k n).cores = d.cores := Dev.put_cores d k _
@[simp] theorem Dev.putNat_activeB (k n : Nat) : (d.putNat k n).activeB = d.activeB := Dev.put_activeB d k _
@[simp] theorem Dev.putNat_power (k n : Nat) : (d.putNat k n).power = d.power := Dev.put_power d k _
@[simp] theorem Dev.putNat_dict (k n : Nat) : (d.putNat k n).dict = d.dict := Dev.put_dict d k _
@[simp] theorem Dev.putNat_hosts (k n : Nat) : (d.putNat k n).hosts = d.hosts := Dev.put_hosts d k _
@[simp] theorem Dev.putNat_heart (k n : Nat) : (d.putNat k n).heart = d.heart := Dev.put_heart d k _
@[simp] theorem Dev.putNat_ports (k n : Nat) : (d.putNat k n).ports = d.ports := Dev.put_ports d k _
@[simp] theorem Dev.putNat_modules (k n : Nat) : (d.putNat k n).modules = d.modules := Dev.put_modules d k _
@[simp] theorem Dev.putNat_site (k n : Nat) : (d.putNat k n).site = d.site := Dev.put_site d k _
@[simp] theorem Dev.putNat_safety (k n : Nat) : (d.putNat k n).safety = d.safety := Dev.put_safety d k _
@[simp] theorem Dev.putNat_metro (k n : Nat) : (d.putNat k n).metro = d.metro := Dev.put_metro d k _
@[simp] theorem Dev.putNat_energy (k n : Nat) : (d.putNat k n).energy = d.energy := Dev.put_energy d k _
@[simp] theorem Dev.putNat_tariff (k n : Nat) : (d.putNat k n).tariff = d.tariff := Dev.put_tariff d k _
@[simp] theorem Dev.putNat_ledger (k n : Nat) : (d.putNat k n).ledger = d.ledger := Dev.put_ledger d k _
@[simp] theorem Dev.putNat_cvu (k n : Nat) : (d.putNat k n).cvu = d.cvu := Dev.put_cvu d k _
@[simp] theorem Dev.putNat_burl (k n : Nat) : (d.putNat k n).burl = d.burl := Dev.put_burl d k _
@[simp] theorem Dev.putNat_update (k n : Nat) : (d.putNat k n).update = d.update := Dev.put_update d k _
@[simp] theorem Dev.putNat_canopy (k n : Nat) : (d.putNat k n).canopy = d.canopy := Dev.put_canopy d k _
@[simp] theorem Dev.putNat_display (k n : Nat) : (d.putNat k n).display = d.display := Dev.put_display d k _
@[simp] theorem Dev.putNat_held (k n : Nat) : (d.putNat k n).held = d.held := Dev.put_held d k _

/-! ### `putFlag` -/

@[simp] theorem Dev.putFlag_free (k : Nat) (b : Bool) : (d.putFlag k b).free = d.free := Dev.put_free d k _
@[simp] theorem Dev.putFlag_out (k : Nat) (b : Bool) : (d.putFlag k b).out = d.out := Dev.put_out d k _
@[simp] theorem Dev.putFlag_time (k : Nat) (b : Bool) : (d.putFlag k b).time = d.time := Dev.put_time d k _
@[simp] theorem Dev.putFlag_clocks (k : Nat) (b : Bool) : (d.putFlag k b).clocks = d.clocks := Dev.put_clocks d k _
@[simp] theorem Dev.putFlag_crossings (k : Nat) (b : Bool) : (d.putFlag k b).crossings = d.crossings := Dev.put_crossings d k _
@[simp] theorem Dev.putFlag_refusals (k : Nat) (b : Bool) : (d.putFlag k b).refusals = d.refusals := Dev.put_refusals d k _
@[simp] theorem Dev.putFlag_mail (k : Nat) (b : Bool) : (d.putFlag k b).mail = d.mail := Dev.put_mail d k _
@[simp] theorem Dev.putFlag_cores (k : Nat) (b : Bool) : (d.putFlag k b).cores = d.cores := Dev.put_cores d k _
@[simp] theorem Dev.putFlag_activeB (k : Nat) (b : Bool) : (d.putFlag k b).activeB = d.activeB := Dev.put_activeB d k _
@[simp] theorem Dev.putFlag_power (k : Nat) (b : Bool) : (d.putFlag k b).power = d.power := Dev.put_power d k _
@[simp] theorem Dev.putFlag_dict (k : Nat) (b : Bool) : (d.putFlag k b).dict = d.dict := Dev.put_dict d k _
@[simp] theorem Dev.putFlag_hosts (k : Nat) (b : Bool) : (d.putFlag k b).hosts = d.hosts := Dev.put_hosts d k _
@[simp] theorem Dev.putFlag_heart (k : Nat) (b : Bool) : (d.putFlag k b).heart = d.heart := Dev.put_heart d k _
@[simp] theorem Dev.putFlag_ports (k : Nat) (b : Bool) : (d.putFlag k b).ports = d.ports := Dev.put_ports d k _
@[simp] theorem Dev.putFlag_modules (k : Nat) (b : Bool) : (d.putFlag k b).modules = d.modules := Dev.put_modules d k _
@[simp] theorem Dev.putFlag_site (k : Nat) (b : Bool) : (d.putFlag k b).site = d.site := Dev.put_site d k _
@[simp] theorem Dev.putFlag_safety (k : Nat) (b : Bool) : (d.putFlag k b).safety = d.safety := Dev.put_safety d k _
@[simp] theorem Dev.putFlag_metro (k : Nat) (b : Bool) : (d.putFlag k b).metro = d.metro := Dev.put_metro d k _
@[simp] theorem Dev.putFlag_energy (k : Nat) (b : Bool) : (d.putFlag k b).energy = d.energy := Dev.put_energy d k _
@[simp] theorem Dev.putFlag_tariff (k : Nat) (b : Bool) : (d.putFlag k b).tariff = d.tariff := Dev.put_tariff d k _
@[simp] theorem Dev.putFlag_ledger (k : Nat) (b : Bool) : (d.putFlag k b).ledger = d.ledger := Dev.put_ledger d k _
@[simp] theorem Dev.putFlag_cvu (k : Nat) (b : Bool) : (d.putFlag k b).cvu = d.cvu := Dev.put_cvu d k _
@[simp] theorem Dev.putFlag_burl (k : Nat) (b : Bool) : (d.putFlag k b).burl = d.burl := Dev.put_burl d k _
@[simp] theorem Dev.putFlag_update (k : Nat) (b : Bool) : (d.putFlag k b).update = d.update := Dev.put_update d k _
@[simp] theorem Dev.putFlag_canopy (k : Nat) (b : Bool) : (d.putFlag k b).canopy = d.canopy := Dev.put_canopy d k _
@[simp] theorem Dev.putFlag_display (k : Nat) (b : Bool) : (d.putFlag k b).display = d.display := Dev.put_display d k _
@[simp] theorem Dev.putFlag_held (k : Nat) (b : Bool) : (d.putFlag k b).held = d.held := Dev.put_held d k _

/-! ### `putBytes` -/

@[simp] theorem Dev.putBytes_free (k : Nat) (b : Bytes) : (d.putBytes k b).free = d.free := Dev.put_free d k _
@[simp] theorem Dev.putBytes_out (k : Nat) (b : Bytes) : (d.putBytes k b).out = d.out := Dev.put_out d k _
@[simp] theorem Dev.putBytes_time (k : Nat) (b : Bytes) : (d.putBytes k b).time = d.time := Dev.put_time d k _
@[simp] theorem Dev.putBytes_clocks (k : Nat) (b : Bytes) : (d.putBytes k b).clocks = d.clocks := Dev.put_clocks d k _
@[simp] theorem Dev.putBytes_crossings (k : Nat) (b : Bytes) : (d.putBytes k b).crossings = d.crossings := Dev.put_crossings d k _
@[simp] theorem Dev.putBytes_refusals (k : Nat) (b : Bytes) : (d.putBytes k b).refusals = d.refusals := Dev.put_refusals d k _
@[simp] theorem Dev.putBytes_mail (k : Nat) (b : Bytes) : (d.putBytes k b).mail = d.mail := Dev.put_mail d k _
@[simp] theorem Dev.putBytes_cores (k : Nat) (b : Bytes) : (d.putBytes k b).cores = d.cores := Dev.put_cores d k _
@[simp] theorem Dev.putBytes_activeB (k : Nat) (b : Bytes) : (d.putBytes k b).activeB = d.activeB := Dev.put_activeB d k _
@[simp] theorem Dev.putBytes_power (k : Nat) (b : Bytes) : (d.putBytes k b).power = d.power := Dev.put_power d k _
@[simp] theorem Dev.putBytes_dict (k : Nat) (b : Bytes) : (d.putBytes k b).dict = d.dict := Dev.put_dict d k _
@[simp] theorem Dev.putBytes_hosts (k : Nat) (b : Bytes) : (d.putBytes k b).hosts = d.hosts := Dev.put_hosts d k _
@[simp] theorem Dev.putBytes_heart (k : Nat) (b : Bytes) : (d.putBytes k b).heart = d.heart := Dev.put_heart d k _
@[simp] theorem Dev.putBytes_ports (k : Nat) (b : Bytes) : (d.putBytes k b).ports = d.ports := Dev.put_ports d k _
@[simp] theorem Dev.putBytes_modules (k : Nat) (b : Bytes) : (d.putBytes k b).modules = d.modules := Dev.put_modules d k _
@[simp] theorem Dev.putBytes_site (k : Nat) (b : Bytes) : (d.putBytes k b).site = d.site := Dev.put_site d k _
@[simp] theorem Dev.putBytes_safety (k : Nat) (b : Bytes) : (d.putBytes k b).safety = d.safety := Dev.put_safety d k _
@[simp] theorem Dev.putBytes_metro (k : Nat) (b : Bytes) : (d.putBytes k b).metro = d.metro := Dev.put_metro d k _
@[simp] theorem Dev.putBytes_energy (k : Nat) (b : Bytes) : (d.putBytes k b).energy = d.energy := Dev.put_energy d k _
@[simp] theorem Dev.putBytes_tariff (k : Nat) (b : Bytes) : (d.putBytes k b).tariff = d.tariff := Dev.put_tariff d k _
@[simp] theorem Dev.putBytes_ledger (k : Nat) (b : Bytes) : (d.putBytes k b).ledger = d.ledger := Dev.put_ledger d k _
@[simp] theorem Dev.putBytes_cvu (k : Nat) (b : Bytes) : (d.putBytes k b).cvu = d.cvu := Dev.put_cvu d k _
@[simp] theorem Dev.putBytes_burl (k : Nat) (b : Bytes) : (d.putBytes k b).burl = d.burl := Dev.put_burl d k _
@[simp] theorem Dev.putBytes_update (k : Nat) (b : Bytes) : (d.putBytes k b).update = d.update := Dev.put_update d k _
@[simp] theorem Dev.putBytes_canopy (k : Nat) (b : Bytes) : (d.putBytes k b).canopy = d.canopy := Dev.put_canopy d k _
@[simp] theorem Dev.putBytes_display (k : Nat) (b : Bytes) : (d.putBytes k b).display = d.display := Dev.put_display d k _
@[simp] theorem Dev.putBytes_held (k : Nat) (b : Bytes) : (d.putBytes k b).held = d.held := Dev.put_held d k _

/-! ### `bump` -/

@[simp] theorem Dev.bump_free (k n : Nat) : (d.bump k n).free = d.free := Dev.put_free d k _
@[simp] theorem Dev.bump_out (k n : Nat) : (d.bump k n).out = d.out := Dev.put_out d k _
@[simp] theorem Dev.bump_time (k n : Nat) : (d.bump k n).time = d.time := Dev.put_time d k _
@[simp] theorem Dev.bump_clocks (k n : Nat) : (d.bump k n).clocks = d.clocks := Dev.put_clocks d k _
@[simp] theorem Dev.bump_crossings (k n : Nat) : (d.bump k n).crossings = d.crossings := Dev.put_crossings d k _
@[simp] theorem Dev.bump_refusals (k n : Nat) : (d.bump k n).refusals = d.refusals := Dev.put_refusals d k _
@[simp] theorem Dev.bump_mail (k n : Nat) : (d.bump k n).mail = d.mail := Dev.put_mail d k _
@[simp] theorem Dev.bump_cores (k n : Nat) : (d.bump k n).cores = d.cores := Dev.put_cores d k _
@[simp] theorem Dev.bump_activeB (k n : Nat) : (d.bump k n).activeB = d.activeB := Dev.put_activeB d k _
@[simp] theorem Dev.bump_power (k n : Nat) : (d.bump k n).power = d.power := Dev.put_power d k _
@[simp] theorem Dev.bump_dict (k n : Nat) : (d.bump k n).dict = d.dict := Dev.put_dict d k _
@[simp] theorem Dev.bump_hosts (k n : Nat) : (d.bump k n).hosts = d.hosts := Dev.put_hosts d k _
@[simp] theorem Dev.bump_heart (k n : Nat) : (d.bump k n).heart = d.heart := Dev.put_heart d k _
@[simp] theorem Dev.bump_ports (k n : Nat) : (d.bump k n).ports = d.ports := Dev.put_ports d k _
@[simp] theorem Dev.bump_modules (k n : Nat) : (d.bump k n).modules = d.modules := Dev.put_modules d k _
@[simp] theorem Dev.bump_site (k n : Nat) : (d.bump k n).site = d.site := Dev.put_site d k _
@[simp] theorem Dev.bump_safety (k n : Nat) : (d.bump k n).safety = d.safety := Dev.put_safety d k _
@[simp] theorem Dev.bump_metro (k n : Nat) : (d.bump k n).metro = d.metro := Dev.put_metro d k _
@[simp] theorem Dev.bump_energy (k n : Nat) : (d.bump k n).energy = d.energy := Dev.put_energy d k _
@[simp] theorem Dev.bump_tariff (k n : Nat) : (d.bump k n).tariff = d.tariff := Dev.put_tariff d k _
@[simp] theorem Dev.bump_ledger (k n : Nat) : (d.bump k n).ledger = d.ledger := Dev.put_ledger d k _
@[simp] theorem Dev.bump_cvu (k n : Nat) : (d.bump k n).cvu = d.cvu := Dev.put_cvu d k _
@[simp] theorem Dev.bump_burl (k n : Nat) : (d.bump k n).burl = d.burl := Dev.put_burl d k _
@[simp] theorem Dev.bump_update (k n : Nat) : (d.bump k n).update = d.update := Dev.put_update d k _
@[simp] theorem Dev.bump_canopy (k n : Nat) : (d.bump k n).canopy = d.canopy := Dev.put_canopy d k _
@[simp] theorem Dev.bump_display (k n : Nat) : (d.bump k n).display = d.display := Dev.put_display d k _
@[simp] theorem Dev.bump_held (k n : Nat) : (d.bump k n).held = d.held := Dev.put_held d k _

/-! ### `putAll` -/

@[simp] theorem Dev.putAll_free (l : Store) : (d.putAll l).free = d.free := by
  induction l generalizing d with
  | nil => rfl
  | cons x r ih => obtain ⟨k, v⟩ := x; simp [Dev.putAll, ih]
@[simp] theorem Dev.putAll_out (l : Store) : (d.putAll l).out = d.out := by
  induction l generalizing d with
  | nil => rfl
  | cons x r ih => obtain ⟨k, v⟩ := x; simp [Dev.putAll, ih]
@[simp] theorem Dev.putAll_time (l : Store) : (d.putAll l).time = d.time := by
  induction l generalizing d with
  | nil => rfl
  | cons x r ih => obtain ⟨k, v⟩ := x; simp [Dev.putAll, ih]
@[simp] theorem Dev.putAll_clocks (l : Store) : (d.putAll l).clocks = d.clocks := by
  induction l generalizing d with
  | nil => rfl
  | cons x r ih => obtain ⟨k, v⟩ := x; simp [Dev.putAll, ih]
@[simp] theorem Dev.putAll_crossings (l : Store) : (d.putAll l).crossings = d.crossings := by
  induction l generalizing d with
  | nil => rfl
  | cons x r ih => obtain ⟨k, v⟩ := x; simp [Dev.putAll, ih]
@[simp] theorem Dev.putAll_refusals (l : Store) : (d.putAll l).refusals = d.refusals := by
  induction l generalizing d with
  | nil => rfl
  | cons x r ih => obtain ⟨k, v⟩ := x; simp [Dev.putAll, ih]
@[simp] theorem Dev.putAll_mail (l : Store) : (d.putAll l).mail = d.mail := by
  induction l generalizing d with
  | nil => rfl
  | cons x r ih => obtain ⟨k, v⟩ := x; simp [Dev.putAll, ih]
@[simp] theorem Dev.putAll_cores (l : Store) : (d.putAll l).cores = d.cores := by
  induction l generalizing d with
  | nil => rfl
  | cons x r ih => obtain ⟨k, v⟩ := x; simp [Dev.putAll, ih]
@[simp] theorem Dev.putAll_activeB (l : Store) : (d.putAll l).activeB = d.activeB := by
  induction l generalizing d with
  | nil => rfl
  | cons x r ih => obtain ⟨k, v⟩ := x; simp [Dev.putAll, ih]
@[simp] theorem Dev.putAll_power (l : Store) : (d.putAll l).power = d.power := by
  induction l generalizing d with
  | nil => rfl
  | cons x r ih => obtain ⟨k, v⟩ := x; simp [Dev.putAll, ih]
@[simp] theorem Dev.putAll_dict (l : Store) : (d.putAll l).dict = d.dict := by
  induction l generalizing d with
  | nil => rfl
  | cons x r ih => obtain ⟨k, v⟩ := x; simp [Dev.putAll, ih]
@[simp] theorem Dev.putAll_hosts (l : Store) : (d.putAll l).hosts = d.hosts := by
  induction l generalizing d with
  | nil => rfl
  | cons x r ih => obtain ⟨k, v⟩ := x; simp [Dev.putAll, ih]
@[simp] theorem Dev.putAll_heart (l : Store) : (d.putAll l).heart = d.heart := by
  induction l generalizing d with
  | nil => rfl
  | cons x r ih => obtain ⟨k, v⟩ := x; simp [Dev.putAll, ih]
@[simp] theorem Dev.putAll_ports (l : Store) : (d.putAll l).ports = d.ports := by
  induction l generalizing d with
  | nil => rfl
  | cons x r ih => obtain ⟨k, v⟩ := x; simp [Dev.putAll, ih]
@[simp] theorem Dev.putAll_modules (l : Store) : (d.putAll l).modules = d.modules := by
  induction l generalizing d with
  | nil => rfl
  | cons x r ih => obtain ⟨k, v⟩ := x; simp [Dev.putAll, ih]
@[simp] theorem Dev.putAll_site (l : Store) : (d.putAll l).site = d.site := by
  induction l generalizing d with
  | nil => rfl
  | cons x r ih => obtain ⟨k, v⟩ := x; simp [Dev.putAll, ih]
@[simp] theorem Dev.putAll_safety (l : Store) : (d.putAll l).safety = d.safety := by
  induction l generalizing d with
  | nil => rfl
  | cons x r ih => obtain ⟨k, v⟩ := x; simp [Dev.putAll, ih]
@[simp] theorem Dev.putAll_metro (l : Store) : (d.putAll l).metro = d.metro := by
  induction l generalizing d with
  | nil => rfl
  | cons x r ih => obtain ⟨k, v⟩ := x; simp [Dev.putAll, ih]
@[simp] theorem Dev.putAll_energy (l : Store) : (d.putAll l).energy = d.energy := by
  induction l generalizing d with
  | nil => rfl
  | cons x r ih => obtain ⟨k, v⟩ := x; simp [Dev.putAll, ih]
@[simp] theorem Dev.putAll_tariff (l : Store) : (d.putAll l).tariff = d.tariff := by
  induction l generalizing d with
  | nil => rfl
  | cons x r ih => obtain ⟨k, v⟩ := x; simp [Dev.putAll, ih]
@[simp] theorem Dev.putAll_ledger (l : Store) : (d.putAll l).ledger = d.ledger := by
  induction l generalizing d with
  | nil => rfl
  | cons x r ih => obtain ⟨k, v⟩ := x; simp [Dev.putAll, ih]
@[simp] theorem Dev.putAll_cvu (l : Store) : (d.putAll l).cvu = d.cvu := by
  induction l generalizing d with
  | nil => rfl
  | cons x r ih => obtain ⟨k, v⟩ := x; simp [Dev.putAll, ih]
@[simp] theorem Dev.putAll_burl (l : Store) : (d.putAll l).burl = d.burl := by
  induction l generalizing d with
  | nil => rfl
  | cons x r ih => obtain ⟨k, v⟩ := x; simp [Dev.putAll, ih]
@[simp] theorem Dev.putAll_update (l : Store) : (d.putAll l).update = d.update := by
  induction l generalizing d with
  | nil => rfl
  | cons x r ih => obtain ⟨k, v⟩ := x; simp [Dev.putAll, ih]
@[simp] theorem Dev.putAll_canopy (l : Store) : (d.putAll l).canopy = d.canopy := by
  induction l generalizing d with
  | nil => rfl
  | cons x r ih => obtain ⟨k, v⟩ := x; simp [Dev.putAll, ih]
@[simp] theorem Dev.putAll_display (l : Store) : (d.putAll l).display = d.display := by
  induction l generalizing d with
  | nil => rfl
  | cons x r ih => obtain ⟨k, v⟩ := x; simp [Dev.putAll, ih]
@[simp] theorem Dev.putAll_held (l : Store) : (d.putAll l).held = d.held := by
  induction l generalizing d with
  | nil => rfl
  | cons x r ih => obtain ⟨k, v⟩ := x; simp [Dev.putAll, ih]

/-! ### `say` -/

@[simp] theorem Dev.say_free (o : Out) : (d.say o).free = d.free := rfl
@[simp] theorem Dev.say_obj (o : Out) : (d.say o).obj = d.obj := rfl
@[simp] theorem Dev.say_time (o : Out) : (d.say o).time = d.time := rfl
@[simp] theorem Dev.say_clocks (o : Out) : (d.say o).clocks = d.clocks := rfl
@[simp] theorem Dev.say_crossings (o : Out) : (d.say o).crossings = d.crossings := rfl
@[simp] theorem Dev.say_refusals (o : Out) : (d.say o).refusals = d.refusals := rfl
@[simp] theorem Dev.say_mail (o : Out) : (d.say o).mail = d.mail := rfl
@[simp] theorem Dev.say_cores (o : Out) : (d.say o).cores = d.cores := rfl
@[simp] theorem Dev.say_activeB (o : Out) : (d.say o).activeB = d.activeB := rfl
@[simp] theorem Dev.say_power (o : Out) : (d.say o).power = d.power := rfl
@[simp] theorem Dev.say_dict (o : Out) : (d.say o).dict = d.dict := rfl
@[simp] theorem Dev.say_hosts (o : Out) : (d.say o).hosts = d.hosts := rfl
@[simp] theorem Dev.say_heart (o : Out) : (d.say o).heart = d.heart := rfl
@[simp] theorem Dev.say_ports (o : Out) : (d.say o).ports = d.ports := rfl
@[simp] theorem Dev.say_modules (o : Out) : (d.say o).modules = d.modules := rfl
@[simp] theorem Dev.say_site (o : Out) : (d.say o).site = d.site := rfl
@[simp] theorem Dev.say_safety (o : Out) : (d.say o).safety = d.safety := rfl
@[simp] theorem Dev.say_metro (o : Out) : (d.say o).metro = d.metro := rfl
@[simp] theorem Dev.say_energy (o : Out) : (d.say o).energy = d.energy := rfl
@[simp] theorem Dev.say_tariff (o : Out) : (d.say o).tariff = d.tariff := rfl
@[simp] theorem Dev.say_ledger (o : Out) : (d.say o).ledger = d.ledger := rfl
@[simp] theorem Dev.say_cvu (o : Out) : (d.say o).cvu = d.cvu := rfl
@[simp] theorem Dev.say_burl (o : Out) : (d.say o).burl = d.burl := rfl
@[simp] theorem Dev.say_update (o : Out) : (d.say o).update = d.update := rfl
@[simp] theorem Dev.say_canopy (o : Out) : (d.say o).canopy = d.canopy := rfl
@[simp] theorem Dev.say_display (o : Out) : (d.say o).display = d.display := rfl
@[simp] theorem Dev.say_held (o : Out) : (d.say o).held = d.held := rfl

/-! ### `count` -/

@[simp] theorem Dev.count_free (i : Fin 18) (k v : Nat) : (d.count i k v).free = d.free := by unfold Dev.count; dsimp only; split <;> exact Dev.put_free d k _
@[simp] theorem Dev.count_out (i : Fin 18) (k v : Nat) : (d.count i k v).out = d.out := by unfold Dev.count; dsimp only; split <;> exact Dev.put_out d k _
@[simp] theorem Dev.count_time (i : Fin 18) (k v : Nat) : (d.count i k v).time = d.time := by unfold Dev.count; dsimp only; split <;> exact Dev.put_time d k _
@[simp] theorem Dev.count_clocks (i : Fin 18) (k v : Nat) : (d.count i k v).clocks = d.clocks := by unfold Dev.count; dsimp only; split <;> exact Dev.put_clocks d k _
@[simp] theorem Dev.count_crossings (i : Fin 18) (k v : Nat) : (d.count i k v).crossings = d.crossings := by unfold Dev.count; dsimp only; split <;> exact Dev.put_crossings d k _
@[simp] theorem Dev.count_refusals (i : Fin 18) (k v : Nat) : (d.count i k v).refusals = d.refusals := by unfold Dev.count; dsimp only; split <;> exact Dev.put_refusals d k _
@[simp] theorem Dev.count_mail (i : Fin 18) (k v : Nat) : (d.count i k v).mail = d.mail := by unfold Dev.count; dsimp only; split <;> exact Dev.put_mail d k _
@[simp] theorem Dev.count_cores (i : Fin 18) (k v : Nat) : (d.count i k v).cores = d.cores := by unfold Dev.count; dsimp only; split <;> exact Dev.put_cores d k _
@[simp] theorem Dev.count_activeB (i : Fin 18) (k v : Nat) : (d.count i k v).activeB = d.activeB := by unfold Dev.count; dsimp only; split <;> exact Dev.put_activeB d k _
@[simp] theorem Dev.count_power (i : Fin 18) (k v : Nat) : (d.count i k v).power = d.power := by unfold Dev.count; dsimp only; split <;> exact Dev.put_power d k _
@[simp] theorem Dev.count_dict (i : Fin 18) (k v : Nat) : (d.count i k v).dict = d.dict := by unfold Dev.count; dsimp only; split <;> exact Dev.put_dict d k _
@[simp] theorem Dev.count_hosts (i : Fin 18) (k v : Nat) : (d.count i k v).hosts = d.hosts := by unfold Dev.count; dsimp only; split <;> exact Dev.put_hosts d k _
@[simp] theorem Dev.count_heart (i : Fin 18) (k v : Nat) : (d.count i k v).heart = d.heart := by unfold Dev.count; dsimp only; split <;> exact Dev.put_heart d k _
@[simp] theorem Dev.count_ports (i : Fin 18) (k v : Nat) : (d.count i k v).ports = d.ports := by unfold Dev.count; dsimp only; split <;> exact Dev.put_ports d k _
@[simp] theorem Dev.count_modules (i : Fin 18) (k v : Nat) : (d.count i k v).modules = d.modules := by unfold Dev.count; dsimp only; split <;> exact Dev.put_modules d k _
@[simp] theorem Dev.count_site (i : Fin 18) (k v : Nat) : (d.count i k v).site = d.site := by unfold Dev.count; dsimp only; split <;> exact Dev.put_site d k _
@[simp] theorem Dev.count_safety (i : Fin 18) (k v : Nat) : (d.count i k v).safety = d.safety := by unfold Dev.count; dsimp only; split <;> exact Dev.put_safety d k _
@[simp] theorem Dev.count_metro (i : Fin 18) (k v : Nat) : (d.count i k v).metro = d.metro := by unfold Dev.count; dsimp only; split <;> exact Dev.put_metro d k _
@[simp] theorem Dev.count_energy (i : Fin 18) (k v : Nat) : (d.count i k v).energy = d.energy := by unfold Dev.count; dsimp only; split <;> exact Dev.put_energy d k _
@[simp] theorem Dev.count_tariff (i : Fin 18) (k v : Nat) : (d.count i k v).tariff = d.tariff := by unfold Dev.count; dsimp only; split <;> exact Dev.put_tariff d k _
@[simp] theorem Dev.count_ledger (i : Fin 18) (k v : Nat) : (d.count i k v).ledger = d.ledger := by unfold Dev.count; dsimp only; split <;> exact Dev.put_ledger d k _
@[simp] theorem Dev.count_cvu (i : Fin 18) (k v : Nat) : (d.count i k v).cvu = d.cvu := by unfold Dev.count; dsimp only; split <;> exact Dev.put_cvu d k _
@[simp] theorem Dev.count_update (i : Fin 18) (k v : Nat) : (d.count i k v).update = d.update := by unfold Dev.count; dsimp only; split <;> exact Dev.put_update d k _
@[simp] theorem Dev.count_canopy (i : Fin 18) (k v : Nat) : (d.count i k v).canopy = d.canopy := by unfold Dev.count; dsimp only; split <;> exact Dev.put_canopy d k _
@[simp] theorem Dev.count_display (i : Fin 18) (k v : Nat) : (d.count i k v).display = d.display := by unfold Dev.count; dsimp only; split <;> exact Dev.put_display d k _
@[simp] theorem Dev.count_held (i : Fin 18) (k v : Nat) : (d.count i k v).held = d.held := by unfold Dev.count; dsimp only; split <;> exact Dev.put_held d k _

/-! ### `legalAt` -/

@[simp] theorem Dev.legalAt_free (t c g e : Nat) (b : Bytes) : (d.legalAt t c g e b).free = d.free := by unfold Dev.legalAt; (repeat' split) <;> rfl
@[simp] theorem Dev.legalAt_out (t c g e : Nat) (b : Bytes) : (d.legalAt t c g e b).out = d.out := by unfold Dev.legalAt; (repeat' split) <;> rfl
@[simp] theorem Dev.legalAt_obj (t c g e : Nat) (b : Bytes) : (d.legalAt t c g e b).obj = d.obj := by unfold Dev.legalAt; (repeat' split) <;> rfl
@[simp] theorem Dev.legalAt_time (t c g e : Nat) (b : Bytes) : (d.legalAt t c g e b).time = d.time := by unfold Dev.legalAt; (repeat' split) <;> rfl
@[simp] theorem Dev.legalAt_clocks (t c g e : Nat) (b : Bytes) : (d.legalAt t c g e b).clocks = d.clocks := by unfold Dev.legalAt; (repeat' split) <;> rfl
@[simp] theorem Dev.legalAt_crossings (t c g e : Nat) (b : Bytes) : (d.legalAt t c g e b).crossings = d.crossings := by unfold Dev.legalAt; (repeat' split) <;> rfl
@[simp] theorem Dev.legalAt_refusals (t c g e : Nat) (b : Bytes) : (d.legalAt t c g e b).refusals = d.refusals := by unfold Dev.legalAt; (repeat' split) <;> rfl
@[simp] theorem Dev.legalAt_mail (t c g e : Nat) (b : Bytes) : (d.legalAt t c g e b).mail = d.mail := by unfold Dev.legalAt; (repeat' split) <;> rfl
@[simp] theorem Dev.legalAt_cores (t c g e : Nat) (b : Bytes) : (d.legalAt t c g e b).cores = d.cores := by unfold Dev.legalAt; (repeat' split) <;> rfl
@[simp] theorem Dev.legalAt_activeB (t c g e : Nat) (b : Bytes) : (d.legalAt t c g e b).activeB = d.activeB := by unfold Dev.legalAt; (repeat' split) <;> rfl
@[simp] theorem Dev.legalAt_power (t c g e : Nat) (b : Bytes) : (d.legalAt t c g e b).power = d.power := by unfold Dev.legalAt; (repeat' split) <;> rfl
@[simp] theorem Dev.legalAt_dict (t c g e : Nat) (b : Bytes) : (d.legalAt t c g e b).dict = d.dict := by unfold Dev.legalAt; (repeat' split) <;> rfl
@[simp] theorem Dev.legalAt_hosts (t c g e : Nat) (b : Bytes) : (d.legalAt t c g e b).hosts = d.hosts := by unfold Dev.legalAt; (repeat' split) <;> rfl
@[simp] theorem Dev.legalAt_ports (t c g e : Nat) (b : Bytes) : (d.legalAt t c g e b).ports = d.ports := by unfold Dev.legalAt; (repeat' split) <;> rfl
@[simp] theorem Dev.legalAt_modules (t c g e : Nat) (b : Bytes) : (d.legalAt t c g e b).modules = d.modules := by unfold Dev.legalAt; (repeat' split) <;> rfl
@[simp] theorem Dev.legalAt_site (t c g e : Nat) (b : Bytes) : (d.legalAt t c g e b).site = d.site := by unfold Dev.legalAt; (repeat' split) <;> rfl
@[simp] theorem Dev.legalAt_safety (t c g e : Nat) (b : Bytes) : (d.legalAt t c g e b).safety = d.safety := by unfold Dev.legalAt; (repeat' split) <;> rfl
@[simp] theorem Dev.legalAt_metro (t c g e : Nat) (b : Bytes) : (d.legalAt t c g e b).metro = d.metro := by unfold Dev.legalAt; (repeat' split) <;> rfl
@[simp] theorem Dev.legalAt_energy (t c g e : Nat) (b : Bytes) : (d.legalAt t c g e b).energy = d.energy := by unfold Dev.legalAt; (repeat' split) <;> rfl
@[simp] theorem Dev.legalAt_tariff (t c g e : Nat) (b : Bytes) : (d.legalAt t c g e b).tariff = d.tariff := by unfold Dev.legalAt; (repeat' split) <;> rfl
@[simp] theorem Dev.legalAt_ledger (t c g e : Nat) (b : Bytes) : (d.legalAt t c g e b).ledger = d.ledger := by unfold Dev.legalAt; (repeat' split) <;> rfl
@[simp] theorem Dev.legalAt_cvu (t c g e : Nat) (b : Bytes) : (d.legalAt t c g e b).cvu = d.cvu := by unfold Dev.legalAt; (repeat' split) <;> rfl
@[simp] theorem Dev.legalAt_burl (t c g e : Nat) (b : Bytes) : (d.legalAt t c g e b).burl = d.burl := by unfold Dev.legalAt; (repeat' split) <;> rfl
@[simp] theorem Dev.legalAt_update (t c g e : Nat) (b : Bytes) : (d.legalAt t c g e b).update = d.update := by unfold Dev.legalAt; (repeat' split) <;> rfl
@[simp] theorem Dev.legalAt_canopy (t c g e : Nat) (b : Bytes) : (d.legalAt t c g e b).canopy = d.canopy := by unfold Dev.legalAt; (repeat' split) <;> rfl
@[simp] theorem Dev.legalAt_display (t c g e : Nat) (b : Bytes) : (d.legalAt t c g e b).display = d.display := by unfold Dev.legalAt; (repeat' split) <;> rfl
@[simp] theorem Dev.legalAt_held (t c g e : Nat) (b : Bytes) : (d.legalAt t c g e b).held = d.held := by unfold Dev.legalAt; (repeat' split) <;> rfl

/-! ### `legal` -/

@[simp] theorem Dev.legal_free (c e : Nat) (b : Bytes) : (d.legal c e b).free = d.free := Dev.legalAt_free d _ _ _ _ _
@[simp] theorem Dev.legal_out (c e : Nat) (b : Bytes) : (d.legal c e b).out = d.out := Dev.legalAt_out d _ _ _ _ _
@[simp] theorem Dev.legal_obj (c e : Nat) (b : Bytes) : (d.legal c e b).obj = d.obj := Dev.legalAt_obj d _ _ _ _ _
@[simp] theorem Dev.legal_time (c e : Nat) (b : Bytes) : (d.legal c e b).time = d.time := Dev.legalAt_time d _ _ _ _ _
@[simp] theorem Dev.legal_clocks (c e : Nat) (b : Bytes) : (d.legal c e b).clocks = d.clocks := Dev.legalAt_clocks d _ _ _ _ _
@[simp] theorem Dev.legal_crossings (c e : Nat) (b : Bytes) : (d.legal c e b).crossings = d.crossings := Dev.legalAt_crossings d _ _ _ _ _
@[simp] theorem Dev.legal_refusals (c e : Nat) (b : Bytes) : (d.legal c e b).refusals = d.refusals := Dev.legalAt_refusals d _ _ _ _ _
@[simp] theorem Dev.legal_mail (c e : Nat) (b : Bytes) : (d.legal c e b).mail = d.mail := Dev.legalAt_mail d _ _ _ _ _
@[simp] theorem Dev.legal_cores (c e : Nat) (b : Bytes) : (d.legal c e b).cores = d.cores := Dev.legalAt_cores d _ _ _ _ _
@[simp] theorem Dev.legal_activeB (c e : Nat) (b : Bytes) : (d.legal c e b).activeB = d.activeB := Dev.legalAt_activeB d _ _ _ _ _
@[simp] theorem Dev.legal_power (c e : Nat) (b : Bytes) : (d.legal c e b).power = d.power := Dev.legalAt_power d _ _ _ _ _
@[simp] theorem Dev.legal_dict (c e : Nat) (b : Bytes) : (d.legal c e b).dict = d.dict := Dev.legalAt_dict d _ _ _ _ _
@[simp] theorem Dev.legal_hosts (c e : Nat) (b : Bytes) : (d.legal c e b).hosts = d.hosts := Dev.legalAt_hosts d _ _ _ _ _
@[simp] theorem Dev.legal_ports (c e : Nat) (b : Bytes) : (d.legal c e b).ports = d.ports := Dev.legalAt_ports d _ _ _ _ _
@[simp] theorem Dev.legal_modules (c e : Nat) (b : Bytes) : (d.legal c e b).modules = d.modules := Dev.legalAt_modules d _ _ _ _ _
@[simp] theorem Dev.legal_site (c e : Nat) (b : Bytes) : (d.legal c e b).site = d.site := Dev.legalAt_site d _ _ _ _ _
@[simp] theorem Dev.legal_safety (c e : Nat) (b : Bytes) : (d.legal c e b).safety = d.safety := Dev.legalAt_safety d _ _ _ _ _
@[simp] theorem Dev.legal_metro (c e : Nat) (b : Bytes) : (d.legal c e b).metro = d.metro := Dev.legalAt_metro d _ _ _ _ _
@[simp] theorem Dev.legal_energy (c e : Nat) (b : Bytes) : (d.legal c e b).energy = d.energy := Dev.legalAt_energy d _ _ _ _ _
@[simp] theorem Dev.legal_tariff (c e : Nat) (b : Bytes) : (d.legal c e b).tariff = d.tariff := Dev.legalAt_tariff d _ _ _ _ _
@[simp] theorem Dev.legal_ledger (c e : Nat) (b : Bytes) : (d.legal c e b).ledger = d.ledger := Dev.legalAt_ledger d _ _ _ _ _
@[simp] theorem Dev.legal_cvu (c e : Nat) (b : Bytes) : (d.legal c e b).cvu = d.cvu := Dev.legalAt_cvu d _ _ _ _ _
@[simp] theorem Dev.legal_burl (c e : Nat) (b : Bytes) : (d.legal c e b).burl = d.burl := Dev.legalAt_burl d _ _ _ _ _
@[simp] theorem Dev.legal_update (c e : Nat) (b : Bytes) : (d.legal c e b).update = d.update := Dev.legalAt_update d _ _ _ _ _
@[simp] theorem Dev.legal_canopy (c e : Nat) (b : Bytes) : (d.legal c e b).canopy = d.canopy := Dev.legalAt_canopy d _ _ _ _ _
@[simp] theorem Dev.legal_display (c e : Nat) (b : Bytes) : (d.legal c e b).display = d.display := Dev.legalAt_display d _ _ _ _ _
@[simp] theorem Dev.legal_held (c e : Nat) (b : Bytes) : (d.legal c e b).held = d.held := Dev.legalAt_held d _ _ _ _ _

/-! ### `general` -/

@[simp] theorem Dev.general_free (e : GenEvent) : (d.general e).free = d.free := rfl
@[simp] theorem Dev.general_out (e : GenEvent) : (d.general e).out = d.out := rfl
@[simp] theorem Dev.general_obj (e : GenEvent) : (d.general e).obj = d.obj := rfl
@[simp] theorem Dev.general_time (e : GenEvent) : (d.general e).time = d.time := rfl
@[simp] theorem Dev.general_clocks (e : GenEvent) : (d.general e).clocks = d.clocks := rfl
@[simp] theorem Dev.general_crossings (e : GenEvent) : (d.general e).crossings = d.crossings := rfl
@[simp] theorem Dev.general_refusals (e : GenEvent) : (d.general e).refusals = d.refusals := rfl
@[simp] theorem Dev.general_mail (e : GenEvent) : (d.general e).mail = d.mail := rfl
@[simp] theorem Dev.general_cores (e : GenEvent) : (d.general e).cores = d.cores := rfl
@[simp] theorem Dev.general_activeB (e : GenEvent) : (d.general e).activeB = d.activeB := rfl
@[simp] theorem Dev.general_power (e : GenEvent) : (d.general e).power = d.power := rfl
@[simp] theorem Dev.general_dict (e : GenEvent) : (d.general e).dict = d.dict := rfl
@[simp] theorem Dev.general_hosts (e : GenEvent) : (d.general e).hosts = d.hosts := rfl
@[simp] theorem Dev.general_ports (e : GenEvent) : (d.general e).ports = d.ports := rfl
@[simp] theorem Dev.general_modules (e : GenEvent) : (d.general e).modules = d.modules := rfl
@[simp] theorem Dev.general_site (e : GenEvent) : (d.general e).site = d.site := rfl
@[simp] theorem Dev.general_safety (e : GenEvent) : (d.general e).safety = d.safety := rfl
@[simp] theorem Dev.general_metro (e : GenEvent) : (d.general e).metro = d.metro := rfl
@[simp] theorem Dev.general_energy (e : GenEvent) : (d.general e).energy = d.energy := rfl
@[simp] theorem Dev.general_tariff (e : GenEvent) : (d.general e).tariff = d.tariff := rfl
@[simp] theorem Dev.general_ledger (e : GenEvent) : (d.general e).ledger = d.ledger := rfl
@[simp] theorem Dev.general_cvu (e : GenEvent) : (d.general e).cvu = d.cvu := rfl
@[simp] theorem Dev.general_burl (e : GenEvent) : (d.general e).burl = d.burl := rfl
@[simp] theorem Dev.general_update (e : GenEvent) : (d.general e).update = d.update := rfl
@[simp] theorem Dev.general_canopy (e : GenEvent) : (d.general e).canopy = d.canopy := rfl
@[simp] theorem Dev.general_display (e : GenEvent) : (d.general e).display = d.display := rfl
@[simp] theorem Dev.general_held (e : GenEvent) : (d.general e).held = d.held := rfl

/-! ### `setCore` -/

@[simp] theorem Dev.setCore_free (c : CoreId) (r : CoreRun) : (d.setCore c r).free = d.free := rfl
@[simp] theorem Dev.setCore_out (c : CoreId) (r : CoreRun) : (d.setCore c r).out = d.out := rfl
@[simp] theorem Dev.setCore_obj (c : CoreId) (r : CoreRun) : (d.setCore c r).obj = d.obj := rfl
@[simp] theorem Dev.setCore_time (c : CoreId) (r : CoreRun) : (d.setCore c r).time = d.time := rfl
@[simp] theorem Dev.setCore_clocks (c : CoreId) (r : CoreRun) : (d.setCore c r).clocks = d.clocks := rfl
@[simp] theorem Dev.setCore_crossings (c : CoreId) (r : CoreRun) : (d.setCore c r).crossings = d.crossings := rfl
@[simp] theorem Dev.setCore_refusals (c : CoreId) (r : CoreRun) : (d.setCore c r).refusals = d.refusals := rfl
@[simp] theorem Dev.setCore_mail (c : CoreId) (r : CoreRun) : (d.setCore c r).mail = d.mail := rfl
@[simp] theorem Dev.setCore_activeB (c : CoreId) (r : CoreRun) : (d.setCore c r).activeB = d.activeB := rfl
@[simp] theorem Dev.setCore_power (c : CoreId) (r : CoreRun) : (d.setCore c r).power = d.power := rfl
@[simp] theorem Dev.setCore_dict (c : CoreId) (r : CoreRun) : (d.setCore c r).dict = d.dict := rfl
@[simp] theorem Dev.setCore_hosts (c : CoreId) (r : CoreRun) : (d.setCore c r).hosts = d.hosts := rfl
@[simp] theorem Dev.setCore_heart (c : CoreId) (r : CoreRun) : (d.setCore c r).heart = d.heart := rfl
@[simp] theorem Dev.setCore_ports (c : CoreId) (r : CoreRun) : (d.setCore c r).ports = d.ports := rfl
@[simp] theorem Dev.setCore_modules (c : CoreId) (r : CoreRun) : (d.setCore c r).modules = d.modules := rfl
@[simp] theorem Dev.setCore_site (c : CoreId) (r : CoreRun) : (d.setCore c r).site = d.site := rfl
@[simp] theorem Dev.setCore_safety (c : CoreId) (r : CoreRun) : (d.setCore c r).safety = d.safety := rfl
@[simp] theorem Dev.setCore_metro (c : CoreId) (r : CoreRun) : (d.setCore c r).metro = d.metro := rfl
@[simp] theorem Dev.setCore_energy (c : CoreId) (r : CoreRun) : (d.setCore c r).energy = d.energy := rfl
@[simp] theorem Dev.setCore_tariff (c : CoreId) (r : CoreRun) : (d.setCore c r).tariff = d.tariff := rfl
@[simp] theorem Dev.setCore_ledger (c : CoreId) (r : CoreRun) : (d.setCore c r).ledger = d.ledger := rfl
@[simp] theorem Dev.setCore_cvu (c : CoreId) (r : CoreRun) : (d.setCore c r).cvu = d.cvu := rfl
@[simp] theorem Dev.setCore_burl (c : CoreId) (r : CoreRun) : (d.setCore c r).burl = d.burl := rfl
@[simp] theorem Dev.setCore_update (c : CoreId) (r : CoreRun) : (d.setCore c r).update = d.update := rfl
@[simp] theorem Dev.setCore_canopy (c : CoreId) (r : CoreRun) : (d.setCore c r).canopy = d.canopy := rfl
@[simp] theorem Dev.setCore_display (c : CoreId) (r : CoreRun) : (d.setCore c r).display = d.display := rfl
@[simp] theorem Dev.setCore_held (c : CoreId) (r : CoreRun) : (d.setCore c r).held = d.held := rfl

/-! ### `setCrossing` -/

@[simp] theorem Dev.setCrossing_free (c : Fin 58) (g : Crossing → Crossing) : (d.setCrossing c g).free = d.free := rfl
@[simp] theorem Dev.setCrossing_out (c : Fin 58) (g : Crossing → Crossing) : (d.setCrossing c g).out = d.out := rfl
@[simp] theorem Dev.setCrossing_obj (c : Fin 58) (g : Crossing → Crossing) : (d.setCrossing c g).obj = d.obj := rfl
@[simp] theorem Dev.setCrossing_time (c : Fin 58) (g : Crossing → Crossing) : (d.setCrossing c g).time = d.time := rfl
@[simp] theorem Dev.setCrossing_clocks (c : Fin 58) (g : Crossing → Crossing) : (d.setCrossing c g).clocks = d.clocks := rfl
@[simp] theorem Dev.setCrossing_refusals (c : Fin 58) (g : Crossing → Crossing) : (d.setCrossing c g).refusals = d.refusals := rfl
@[simp] theorem Dev.setCrossing_mail (c : Fin 58) (g : Crossing → Crossing) : (d.setCrossing c g).mail = d.mail := rfl
@[simp] theorem Dev.setCrossing_cores (c : Fin 58) (g : Crossing → Crossing) : (d.setCrossing c g).cores = d.cores := rfl
@[simp] theorem Dev.setCrossing_activeB (c : Fin 58) (g : Crossing → Crossing) : (d.setCrossing c g).activeB = d.activeB := rfl
@[simp] theorem Dev.setCrossing_power (c : Fin 58) (g : Crossing → Crossing) : (d.setCrossing c g).power = d.power := rfl
@[simp] theorem Dev.setCrossing_dict (c : Fin 58) (g : Crossing → Crossing) : (d.setCrossing c g).dict = d.dict := rfl
@[simp] theorem Dev.setCrossing_hosts (c : Fin 58) (g : Crossing → Crossing) : (d.setCrossing c g).hosts = d.hosts := rfl
@[simp] theorem Dev.setCrossing_heart (c : Fin 58) (g : Crossing → Crossing) : (d.setCrossing c g).heart = d.heart := rfl
@[simp] theorem Dev.setCrossing_ports (c : Fin 58) (g : Crossing → Crossing) : (d.setCrossing c g).ports = d.ports := rfl
@[simp] theorem Dev.setCrossing_modules (c : Fin 58) (g : Crossing → Crossing) : (d.setCrossing c g).modules = d.modules := rfl
@[simp] theorem Dev.setCrossing_site (c : Fin 58) (g : Crossing → Crossing) : (d.setCrossing c g).site = d.site := rfl
@[simp] theorem Dev.setCrossing_safety (c : Fin 58) (g : Crossing → Crossing) : (d.setCrossing c g).safety = d.safety := rfl
@[simp] theorem Dev.setCrossing_metro (c : Fin 58) (g : Crossing → Crossing) : (d.setCrossing c g).metro = d.metro := rfl
@[simp] theorem Dev.setCrossing_energy (c : Fin 58) (g : Crossing → Crossing) : (d.setCrossing c g).energy = d.energy := rfl
@[simp] theorem Dev.setCrossing_tariff (c : Fin 58) (g : Crossing → Crossing) : (d.setCrossing c g).tariff = d.tariff := rfl
@[simp] theorem Dev.setCrossing_ledger (c : Fin 58) (g : Crossing → Crossing) : (d.setCrossing c g).ledger = d.ledger := rfl
@[simp] theorem Dev.setCrossing_cvu (c : Fin 58) (g : Crossing → Crossing) : (d.setCrossing c g).cvu = d.cvu := rfl
@[simp] theorem Dev.setCrossing_burl (c : Fin 58) (g : Crossing → Crossing) : (d.setCrossing c g).burl = d.burl := rfl
@[simp] theorem Dev.setCrossing_update (c : Fin 58) (g : Crossing → Crossing) : (d.setCrossing c g).update = d.update := rfl
@[simp] theorem Dev.setCrossing_canopy (c : Fin 58) (g : Crossing → Crossing) : (d.setCrossing c g).canopy = d.canopy := rfl
@[simp] theorem Dev.setCrossing_display (c : Fin 58) (g : Crossing → Crossing) : (d.setCrossing c g).display = d.display := rfl
@[simp] theorem Dev.setCrossing_held (c : Fin 58) (g : Crossing → Crossing) : (d.setCrossing c g).held = d.held := rfl

/-! ### `produce` -/

@[simp] theorem Dev.produce_free (c : Fin 58) (w : List Word) : (d.produce c w).free = d.free := rfl
@[simp] theorem Dev.produce_out (c : Fin 58) (w : List Word) : (d.produce c w).out = d.out := rfl
@[simp] theorem Dev.produce_obj (c : Fin 58) (w : List Word) : (d.produce c w).obj = d.obj := rfl
@[simp] theorem Dev.produce_time (c : Fin 58) (w : List Word) : (d.produce c w).time = d.time := rfl
@[simp] theorem Dev.produce_clocks (c : Fin 58) (w : List Word) : (d.produce c w).clocks = d.clocks := rfl
@[simp] theorem Dev.produce_refusals (c : Fin 58) (w : List Word) : (d.produce c w).refusals = d.refusals := rfl
@[simp] theorem Dev.produce_mail (c : Fin 58) (w : List Word) : (d.produce c w).mail = d.mail := rfl
@[simp] theorem Dev.produce_cores (c : Fin 58) (w : List Word) : (d.produce c w).cores = d.cores := rfl
@[simp] theorem Dev.produce_activeB (c : Fin 58) (w : List Word) : (d.produce c w).activeB = d.activeB := rfl
@[simp] theorem Dev.produce_power (c : Fin 58) (w : List Word) : (d.produce c w).power = d.power := rfl
@[simp] theorem Dev.produce_dict (c : Fin 58) (w : List Word) : (d.produce c w).dict = d.dict := rfl
@[simp] theorem Dev.produce_hosts (c : Fin 58) (w : List Word) : (d.produce c w).hosts = d.hosts := rfl
@[simp] theorem Dev.produce_heart (c : Fin 58) (w : List Word) : (d.produce c w).heart = d.heart := rfl
@[simp] theorem Dev.produce_ports (c : Fin 58) (w : List Word) : (d.produce c w).ports = d.ports := rfl
@[simp] theorem Dev.produce_modules (c : Fin 58) (w : List Word) : (d.produce c w).modules = d.modules := rfl
@[simp] theorem Dev.produce_site (c : Fin 58) (w : List Word) : (d.produce c w).site = d.site := rfl
@[simp] theorem Dev.produce_safety (c : Fin 58) (w : List Word) : (d.produce c w).safety = d.safety := rfl
@[simp] theorem Dev.produce_metro (c : Fin 58) (w : List Word) : (d.produce c w).metro = d.metro := rfl
@[simp] theorem Dev.produce_energy (c : Fin 58) (w : List Word) : (d.produce c w).energy = d.energy := rfl
@[simp] theorem Dev.produce_tariff (c : Fin 58) (w : List Word) : (d.produce c w).tariff = d.tariff := rfl
@[simp] theorem Dev.produce_ledger (c : Fin 58) (w : List Word) : (d.produce c w).ledger = d.ledger := rfl
@[simp] theorem Dev.produce_cvu (c : Fin 58) (w : List Word) : (d.produce c w).cvu = d.cvu := rfl
@[simp] theorem Dev.produce_burl (c : Fin 58) (w : List Word) : (d.produce c w).burl = d.burl := rfl
@[simp] theorem Dev.produce_update (c : Fin 58) (w : List Word) : (d.produce c w).update = d.update := rfl
@[simp] theorem Dev.produce_canopy (c : Fin 58) (w : List Word) : (d.produce c w).canopy = d.canopy := rfl
@[simp] theorem Dev.produce_display (c : Fin 58) (w : List Word) : (d.produce c w).display = d.display := rfl
@[simp] theorem Dev.produce_held (c : Fin 58) (w : List Word) : (d.produce c w).held = d.held := rfl

/-! ### `setGroup` -/

@[simp] theorem Dev.setGroup_free (n : Nat) (g : Group → Group) : (d.setGroup n g).free = d.free := by unfold Dev.setGroup; split <;> rfl
@[simp] theorem Dev.setGroup_out (n : Nat) (g : Group → Group) : (d.setGroup n g).out = d.out := by unfold Dev.setGroup; split <;> rfl
@[simp] theorem Dev.setGroup_obj (n : Nat) (g : Group → Group) : (d.setGroup n g).obj = d.obj := by unfold Dev.setGroup; split <;> rfl
@[simp] theorem Dev.setGroup_time (n : Nat) (g : Group → Group) : (d.setGroup n g).time = d.time := by unfold Dev.setGroup; split <;> rfl
@[simp] theorem Dev.setGroup_clocks (n : Nat) (g : Group → Group) : (d.setGroup n g).clocks = d.clocks := by unfold Dev.setGroup; split <;> rfl
@[simp] theorem Dev.setGroup_crossings (n : Nat) (g : Group → Group) : (d.setGroup n g).crossings = d.crossings := by unfold Dev.setGroup; split <;> rfl
@[simp] theorem Dev.setGroup_refusals (n : Nat) (g : Group → Group) : (d.setGroup n g).refusals = d.refusals := by unfold Dev.setGroup; split <;> rfl
@[simp] theorem Dev.setGroup_mail (n : Nat) (g : Group → Group) : (d.setGroup n g).mail = d.mail := by unfold Dev.setGroup; split <;> rfl
@[simp] theorem Dev.setGroup_cores (n : Nat) (g : Group → Group) : (d.setGroup n g).cores = d.cores := by unfold Dev.setGroup; split <;> rfl
@[simp] theorem Dev.setGroup_activeB (n : Nat) (g : Group → Group) : (d.setGroup n g).activeB = d.activeB := by unfold Dev.setGroup; split <;> rfl
@[simp] theorem Dev.setGroup_power (n : Nat) (g : Group → Group) : (d.setGroup n g).power = d.power := by unfold Dev.setGroup; split <;> rfl
@[simp] theorem Dev.setGroup_hosts (n : Nat) (g : Group → Group) : (d.setGroup n g).hosts = d.hosts := by unfold Dev.setGroup; split <;> rfl
@[simp] theorem Dev.setGroup_heart (n : Nat) (g : Group → Group) : (d.setGroup n g).heart = d.heart := by unfold Dev.setGroup; split <;> rfl
@[simp] theorem Dev.setGroup_ports (n : Nat) (g : Group → Group) : (d.setGroup n g).ports = d.ports := by unfold Dev.setGroup; split <;> rfl
@[simp] theorem Dev.setGroup_modules (n : Nat) (g : Group → Group) : (d.setGroup n g).modules = d.modules := by unfold Dev.setGroup; split <;> rfl
@[simp] theorem Dev.setGroup_site (n : Nat) (g : Group → Group) : (d.setGroup n g).site = d.site := by unfold Dev.setGroup; split <;> rfl
@[simp] theorem Dev.setGroup_safety (n : Nat) (g : Group → Group) : (d.setGroup n g).safety = d.safety := by unfold Dev.setGroup; split <;> rfl
@[simp] theorem Dev.setGroup_metro (n : Nat) (g : Group → Group) : (d.setGroup n g).metro = d.metro := by unfold Dev.setGroup; split <;> rfl
@[simp] theorem Dev.setGroup_energy (n : Nat) (g : Group → Group) : (d.setGroup n g).energy = d.energy := by unfold Dev.setGroup; split <;> rfl
@[simp] theorem Dev.setGroup_tariff (n : Nat) (g : Group → Group) : (d.setGroup n g).tariff = d.tariff := by unfold Dev.setGroup; split <;> rfl
@[simp] theorem Dev.setGroup_ledger (n : Nat) (g : Group → Group) : (d.setGroup n g).ledger = d.ledger := by unfold Dev.setGroup; split <;> rfl
@[simp] theorem Dev.setGroup_cvu (n : Nat) (g : Group → Group) : (d.setGroup n g).cvu = d.cvu := by unfold Dev.setGroup; split <;> rfl
@[simp] theorem Dev.setGroup_burl (n : Nat) (g : Group → Group) : (d.setGroup n g).burl = d.burl := by unfold Dev.setGroup; split <;> rfl
@[simp] theorem Dev.setGroup_update (n : Nat) (g : Group → Group) : (d.setGroup n g).update = d.update := by unfold Dev.setGroup; split <;> rfl
@[simp] theorem Dev.setGroup_canopy (n : Nat) (g : Group → Group) : (d.setGroup n g).canopy = d.canopy := by unfold Dev.setGroup; split <;> rfl
@[simp] theorem Dev.setGroup_display (n : Nat) (g : Group → Group) : (d.setGroup n g).display = d.display := by unfold Dev.setGroup; split <;> rfl
@[simp] theorem Dev.setGroup_held (n : Nat) (g : Group → Group) : (d.setGroup n g).held = d.held := by unfold Dev.setGroup; split <;> rfl

/-! ### `enqueue` -/

@[simp] theorem Dev.enqueue_free (x : TickItem) : (d.enqueue x).free = d.free := rfl
@[simp] theorem Dev.enqueue_out (x : TickItem) : (d.enqueue x).out = d.out := rfl
@[simp] theorem Dev.enqueue_obj (x : TickItem) : (d.enqueue x).obj = d.obj := rfl
@[simp] theorem Dev.enqueue_time (x : TickItem) : (d.enqueue x).time = d.time := rfl
@[simp] theorem Dev.enqueue_clocks (x : TickItem) : (d.enqueue x).clocks = d.clocks := rfl
@[simp] theorem Dev.enqueue_crossings (x : TickItem) : (d.enqueue x).crossings = d.crossings := rfl
@[simp] theorem Dev.enqueue_refusals (x : TickItem) : (d.enqueue x).refusals = d.refusals := rfl
@[simp] theorem Dev.enqueue_mail (x : TickItem) : (d.enqueue x).mail = d.mail := rfl
@[simp] theorem Dev.enqueue_cores (x : TickItem) : (d.enqueue x).cores = d.cores := rfl
@[simp] theorem Dev.enqueue_activeB (x : TickItem) : (d.enqueue x).activeB = d.activeB := rfl
@[simp] theorem Dev.enqueue_power (x : TickItem) : (d.enqueue x).power = d.power := rfl
@[simp] theorem Dev.enqueue_hosts (x : TickItem) : (d.enqueue x).hosts = d.hosts := rfl
@[simp] theorem Dev.enqueue_heart (x : TickItem) : (d.enqueue x).heart = d.heart := rfl
@[simp] theorem Dev.enqueue_ports (x : TickItem) : (d.enqueue x).ports = d.ports := rfl
@[simp] theorem Dev.enqueue_modules (x : TickItem) : (d.enqueue x).modules = d.modules := rfl
@[simp] theorem Dev.enqueue_site (x : TickItem) : (d.enqueue x).site = d.site := rfl
@[simp] theorem Dev.enqueue_safety (x : TickItem) : (d.enqueue x).safety = d.safety := rfl
@[simp] theorem Dev.enqueue_metro (x : TickItem) : (d.enqueue x).metro = d.metro := rfl
@[simp] theorem Dev.enqueue_energy (x : TickItem) : (d.enqueue x).energy = d.energy := rfl
@[simp] theorem Dev.enqueue_tariff (x : TickItem) : (d.enqueue x).tariff = d.tariff := rfl
@[simp] theorem Dev.enqueue_ledger (x : TickItem) : (d.enqueue x).ledger = d.ledger := rfl
@[simp] theorem Dev.enqueue_cvu (x : TickItem) : (d.enqueue x).cvu = d.cvu := rfl
@[simp] theorem Dev.enqueue_burl (x : TickItem) : (d.enqueue x).burl = d.burl := rfl
@[simp] theorem Dev.enqueue_update (x : TickItem) : (d.enqueue x).update = d.update := rfl
@[simp] theorem Dev.enqueue_canopy (x : TickItem) : (d.enqueue x).canopy = d.canopy := rfl
@[simp] theorem Dev.enqueue_display (x : TickItem) : (d.enqueue x).display = d.display := rfl
@[simp] theorem Dev.enqueue_held (x : TickItem) : (d.enqueue x).held = d.held := rfl

/-! ### `setSlot` -/

@[simp] theorem Dev.setSlot_free (s : SlotId) (g : HostSlot → HostSlot) : (d.setSlot s g).free = d.free := rfl
@[simp] theorem Dev.setSlot_out (s : SlotId) (g : HostSlot → HostSlot) : (d.setSlot s g).out = d.out := rfl
@[simp] theorem Dev.setSlot_obj (s : SlotId) (g : HostSlot → HostSlot) : (d.setSlot s g).obj = d.obj := rfl
@[simp] theorem Dev.setSlot_time (s : SlotId) (g : HostSlot → HostSlot) : (d.setSlot s g).time = d.time := rfl
@[simp] theorem Dev.setSlot_clocks (s : SlotId) (g : HostSlot → HostSlot) : (d.setSlot s g).clocks = d.clocks := rfl
@[simp] theorem Dev.setSlot_crossings (s : SlotId) (g : HostSlot → HostSlot) : (d.setSlot s g).crossings = d.crossings := rfl
@[simp] theorem Dev.setSlot_refusals (s : SlotId) (g : HostSlot → HostSlot) : (d.setSlot s g).refusals = d.refusals := rfl
@[simp] theorem Dev.setSlot_mail (s : SlotId) (g : HostSlot → HostSlot) : (d.setSlot s g).mail = d.mail := rfl
@[simp] theorem Dev.setSlot_cores (s : SlotId) (g : HostSlot → HostSlot) : (d.setSlot s g).cores = d.cores := rfl
@[simp] theorem Dev.setSlot_activeB (s : SlotId) (g : HostSlot → HostSlot) : (d.setSlot s g).activeB = d.activeB := rfl
@[simp] theorem Dev.setSlot_power (s : SlotId) (g : HostSlot → HostSlot) : (d.setSlot s g).power = d.power := rfl
@[simp] theorem Dev.setSlot_dict (s : SlotId) (g : HostSlot → HostSlot) : (d.setSlot s g).dict = d.dict := rfl
@[simp] theorem Dev.setSlot_heart (s : SlotId) (g : HostSlot → HostSlot) : (d.setSlot s g).heart = d.heart := rfl
@[simp] theorem Dev.setSlot_ports (s : SlotId) (g : HostSlot → HostSlot) : (d.setSlot s g).ports = d.ports := rfl
@[simp] theorem Dev.setSlot_modules (s : SlotId) (g : HostSlot → HostSlot) : (d.setSlot s g).modules = d.modules := rfl
@[simp] theorem Dev.setSlot_site (s : SlotId) (g : HostSlot → HostSlot) : (d.setSlot s g).site = d.site := rfl
@[simp] theorem Dev.setSlot_safety (s : SlotId) (g : HostSlot → HostSlot) : (d.setSlot s g).safety = d.safety := rfl
@[simp] theorem Dev.setSlot_metro (s : SlotId) (g : HostSlot → HostSlot) : (d.setSlot s g).metro = d.metro := rfl
@[simp] theorem Dev.setSlot_energy (s : SlotId) (g : HostSlot → HostSlot) : (d.setSlot s g).energy = d.energy := rfl
@[simp] theorem Dev.setSlot_tariff (s : SlotId) (g : HostSlot → HostSlot) : (d.setSlot s g).tariff = d.tariff := rfl
@[simp] theorem Dev.setSlot_ledger (s : SlotId) (g : HostSlot → HostSlot) : (d.setSlot s g).ledger = d.ledger := rfl
@[simp] theorem Dev.setSlot_cvu (s : SlotId) (g : HostSlot → HostSlot) : (d.setSlot s g).cvu = d.cvu := rfl
@[simp] theorem Dev.setSlot_burl (s : SlotId) (g : HostSlot → HostSlot) : (d.setSlot s g).burl = d.burl := rfl
@[simp] theorem Dev.setSlot_update (s : SlotId) (g : HostSlot → HostSlot) : (d.setSlot s g).update = d.update := rfl
@[simp] theorem Dev.setSlot_canopy (s : SlotId) (g : HostSlot → HostSlot) : (d.setSlot s g).canopy = d.canopy := rfl
@[simp] theorem Dev.setSlot_display (s : SlotId) (g : HostSlot → HostSlot) : (d.setSlot s g).display = d.display := rfl
@[simp] theorem Dev.setSlot_held (s : SlotId) (g : HostSlot → HostSlot) : (d.setSlot s g).held = d.held := rfl

/-! ### `setPort` -/

@[simp] theorem Dev.setPort_free (p : PortId) (g : Port → Port) : (d.setPort p g).free = d.free := rfl
@[simp] theorem Dev.setPort_out (p : PortId) (g : Port → Port) : (d.setPort p g).out = d.out := rfl
@[simp] theorem Dev.setPort_obj (p : PortId) (g : Port → Port) : (d.setPort p g).obj = d.obj := rfl
@[simp] theorem Dev.setPort_time (p : PortId) (g : Port → Port) : (d.setPort p g).time = d.time := rfl
@[simp] theorem Dev.setPort_clocks (p : PortId) (g : Port → Port) : (d.setPort p g).clocks = d.clocks := rfl
@[simp] theorem Dev.setPort_crossings (p : PortId) (g : Port → Port) : (d.setPort p g).crossings = d.crossings := rfl
@[simp] theorem Dev.setPort_refusals (p : PortId) (g : Port → Port) : (d.setPort p g).refusals = d.refusals := rfl
@[simp] theorem Dev.setPort_mail (p : PortId) (g : Port → Port) : (d.setPort p g).mail = d.mail := rfl
@[simp] theorem Dev.setPort_cores (p : PortId) (g : Port → Port) : (d.setPort p g).cores = d.cores := rfl
@[simp] theorem Dev.setPort_activeB (p : PortId) (g : Port → Port) : (d.setPort p g).activeB = d.activeB := rfl
@[simp] theorem Dev.setPort_power (p : PortId) (g : Port → Port) : (d.setPort p g).power = d.power := rfl
@[simp] theorem Dev.setPort_dict (p : PortId) (g : Port → Port) : (d.setPort p g).dict = d.dict := rfl
@[simp] theorem Dev.setPort_hosts (p : PortId) (g : Port → Port) : (d.setPort p g).hosts = d.hosts := rfl
@[simp] theorem Dev.setPort_heart (p : PortId) (g : Port → Port) : (d.setPort p g).heart = d.heart := rfl
@[simp] theorem Dev.setPort_modules (p : PortId) (g : Port → Port) : (d.setPort p g).modules = d.modules := rfl
@[simp] theorem Dev.setPort_site (p : PortId) (g : Port → Port) : (d.setPort p g).site = d.site := rfl
@[simp] theorem Dev.setPort_safety (p : PortId) (g : Port → Port) : (d.setPort p g).safety = d.safety := rfl
@[simp] theorem Dev.setPort_metro (p : PortId) (g : Port → Port) : (d.setPort p g).metro = d.metro := rfl
@[simp] theorem Dev.setPort_energy (p : PortId) (g : Port → Port) : (d.setPort p g).energy = d.energy := rfl
@[simp] theorem Dev.setPort_tariff (p : PortId) (g : Port → Port) : (d.setPort p g).tariff = d.tariff := rfl
@[simp] theorem Dev.setPort_ledger (p : PortId) (g : Port → Port) : (d.setPort p g).ledger = d.ledger := rfl
@[simp] theorem Dev.setPort_cvu (p : PortId) (g : Port → Port) : (d.setPort p g).cvu = d.cvu := rfl
@[simp] theorem Dev.setPort_burl (p : PortId) (g : Port → Port) : (d.setPort p g).burl = d.burl := rfl
@[simp] theorem Dev.setPort_update (p : PortId) (g : Port → Port) : (d.setPort p g).update = d.update := rfl
@[simp] theorem Dev.setPort_canopy (p : PortId) (g : Port → Port) : (d.setPort p g).canopy = d.canopy := rfl
@[simp] theorem Dev.setPort_display (p : PortId) (g : Port → Port) : (d.setPort p g).display = d.display := rfl
@[simp] theorem Dev.setPort_held (p : PortId) (g : Port → Port) : (d.setPort p g).held = d.held := rfl

/-! ### `setPsafe` -/

@[simp] theorem Dev.setPsafe_free (p : PortId) (g : PortSafety → PortSafety) : (d.setPsafe p g).free = d.free := rfl
@[simp] theorem Dev.setPsafe_out (p : PortId) (g : PortSafety → PortSafety) : (d.setPsafe p g).out = d.out := rfl
@[simp] theorem Dev.setPsafe_obj (p : PortId) (g : PortSafety → PortSafety) : (d.setPsafe p g).obj = d.obj := rfl
@[simp] theorem Dev.setPsafe_time (p : PortId) (g : PortSafety → PortSafety) : (d.setPsafe p g).time = d.time := rfl
@[simp] theorem Dev.setPsafe_clocks (p : PortId) (g : PortSafety → PortSafety) : (d.setPsafe p g).clocks = d.clocks := rfl
@[simp] theorem Dev.setPsafe_crossings (p : PortId) (g : PortSafety → PortSafety) : (d.setPsafe p g).crossings = d.crossings := rfl
@[simp] theorem Dev.setPsafe_refusals (p : PortId) (g : PortSafety → PortSafety) : (d.setPsafe p g).refusals = d.refusals := rfl
@[simp] theorem Dev.setPsafe_mail (p : PortId) (g : PortSafety → PortSafety) : (d.setPsafe p g).mail = d.mail := rfl
@[simp] theorem Dev.setPsafe_cores (p : PortId) (g : PortSafety → PortSafety) : (d.setPsafe p g).cores = d.cores := rfl
@[simp] theorem Dev.setPsafe_activeB (p : PortId) (g : PortSafety → PortSafety) : (d.setPsafe p g).activeB = d.activeB := rfl
@[simp] theorem Dev.setPsafe_power (p : PortId) (g : PortSafety → PortSafety) : (d.setPsafe p g).power = d.power := rfl
@[simp] theorem Dev.setPsafe_dict (p : PortId) (g : PortSafety → PortSafety) : (d.setPsafe p g).dict = d.dict := rfl
@[simp] theorem Dev.setPsafe_hosts (p : PortId) (g : PortSafety → PortSafety) : (d.setPsafe p g).hosts = d.hosts := rfl
@[simp] theorem Dev.setPsafe_heart (p : PortId) (g : PortSafety → PortSafety) : (d.setPsafe p g).heart = d.heart := rfl
@[simp] theorem Dev.setPsafe_ports (p : PortId) (g : PortSafety → PortSafety) : (d.setPsafe p g).ports = d.ports := rfl
@[simp] theorem Dev.setPsafe_modules (p : PortId) (g : PortSafety → PortSafety) : (d.setPsafe p g).modules = d.modules := rfl
@[simp] theorem Dev.setPsafe_site (p : PortId) (g : PortSafety → PortSafety) : (d.setPsafe p g).site = d.site := rfl
@[simp] theorem Dev.setPsafe_metro (p : PortId) (g : PortSafety → PortSafety) : (d.setPsafe p g).metro = d.metro := rfl
@[simp] theorem Dev.setPsafe_energy (p : PortId) (g : PortSafety → PortSafety) : (d.setPsafe p g).energy = d.energy := rfl
@[simp] theorem Dev.setPsafe_tariff (p : PortId) (g : PortSafety → PortSafety) : (d.setPsafe p g).tariff = d.tariff := rfl
@[simp] theorem Dev.setPsafe_ledger (p : PortId) (g : PortSafety → PortSafety) : (d.setPsafe p g).ledger = d.ledger := rfl
@[simp] theorem Dev.setPsafe_cvu (p : PortId) (g : PortSafety → PortSafety) : (d.setPsafe p g).cvu = d.cvu := rfl
@[simp] theorem Dev.setPsafe_burl (p : PortId) (g : PortSafety → PortSafety) : (d.setPsafe p g).burl = d.burl := rfl
@[simp] theorem Dev.setPsafe_update (p : PortId) (g : PortSafety → PortSafety) : (d.setPsafe p g).update = d.update := rfl
@[simp] theorem Dev.setPsafe_canopy (p : PortId) (g : PortSafety → PortSafety) : (d.setPsafe p g).canopy = d.canopy := rfl
@[simp] theorem Dev.setPsafe_display (p : PortId) (g : PortSafety → PortSafety) : (d.setPsafe p g).display = d.display := rfl
@[simp] theorem Dev.setPsafe_held (p : PortId) (g : PortSafety → PortSafety) : (d.setPsafe p g).held = d.held := rfl

/-! ### `setModule` -/

@[simp] theorem Dev.setModule_free (m : Fin 16) (g : Module → Module) : (d.setModule m g).free = d.free := rfl
@[simp] theorem Dev.setModule_out (m : Fin 16) (g : Module → Module) : (d.setModule m g).out = d.out := rfl
@[simp] theorem Dev.setModule_obj (m : Fin 16) (g : Module → Module) : (d.setModule m g).obj = d.obj := rfl
@[simp] theorem Dev.setModule_time (m : Fin 16) (g : Module → Module) : (d.setModule m g).time = d.time := rfl
@[simp] theorem Dev.setModule_clocks (m : Fin 16) (g : Module → Module) : (d.setModule m g).clocks = d.clocks := rfl
@[simp] theorem Dev.setModule_crossings (m : Fin 16) (g : Module → Module) : (d.setModule m g).crossings = d.crossings := rfl
@[simp] theorem Dev.setModule_refusals (m : Fin 16) (g : Module → Module) : (d.setModule m g).refusals = d.refusals := rfl
@[simp] theorem Dev.setModule_mail (m : Fin 16) (g : Module → Module) : (d.setModule m g).mail = d.mail := rfl
@[simp] theorem Dev.setModule_cores (m : Fin 16) (g : Module → Module) : (d.setModule m g).cores = d.cores := rfl
@[simp] theorem Dev.setModule_activeB (m : Fin 16) (g : Module → Module) : (d.setModule m g).activeB = d.activeB := rfl
@[simp] theorem Dev.setModule_power (m : Fin 16) (g : Module → Module) : (d.setModule m g).power = d.power := rfl
@[simp] theorem Dev.setModule_dict (m : Fin 16) (g : Module → Module) : (d.setModule m g).dict = d.dict := rfl
@[simp] theorem Dev.setModule_hosts (m : Fin 16) (g : Module → Module) : (d.setModule m g).hosts = d.hosts := rfl
@[simp] theorem Dev.setModule_heart (m : Fin 16) (g : Module → Module) : (d.setModule m g).heart = d.heart := rfl
@[simp] theorem Dev.setModule_ports (m : Fin 16) (g : Module → Module) : (d.setModule m g).ports = d.ports := rfl
@[simp] theorem Dev.setModule_site (m : Fin 16) (g : Module → Module) : (d.setModule m g).site = d.site := rfl
@[simp] theorem Dev.setModule_safety (m : Fin 16) (g : Module → Module) : (d.setModule m g).safety = d.safety := rfl
@[simp] theorem Dev.setModule_metro (m : Fin 16) (g : Module → Module) : (d.setModule m g).metro = d.metro := rfl
@[simp] theorem Dev.setModule_energy (m : Fin 16) (g : Module → Module) : (d.setModule m g).energy = d.energy := rfl
@[simp] theorem Dev.setModule_tariff (m : Fin 16) (g : Module → Module) : (d.setModule m g).tariff = d.tariff := rfl
@[simp] theorem Dev.setModule_ledger (m : Fin 16) (g : Module → Module) : (d.setModule m g).ledger = d.ledger := rfl
@[simp] theorem Dev.setModule_cvu (m : Fin 16) (g : Module → Module) : (d.setModule m g).cvu = d.cvu := rfl
@[simp] theorem Dev.setModule_burl (m : Fin 16) (g : Module → Module) : (d.setModule m g).burl = d.burl := rfl
@[simp] theorem Dev.setModule_update (m : Fin 16) (g : Module → Module) : (d.setModule m g).update = d.update := rfl
@[simp] theorem Dev.setModule_canopy (m : Fin 16) (g : Module → Module) : (d.setModule m g).canopy = d.canopy := rfl
@[simp] theorem Dev.setModule_display (m : Fin 16) (g : Module → Module) : (d.setModule m g).display = d.display := rfl
@[simp] theorem Dev.setModule_held (m : Fin 16) (g : Module → Module) : (d.setModule m g).held = d.held := rfl

/-! ### `setChan` -/

@[simp] theorem Dev.setChan_free (c : Fin 68) (g : Channel → Channel) : (d.setChan c g).free = d.free := rfl
@[simp] theorem Dev.setChan_out (c : Fin 68) (g : Channel → Channel) : (d.setChan c g).out = d.out := rfl
@[simp] theorem Dev.setChan_obj (c : Fin 68) (g : Channel → Channel) : (d.setChan c g).obj = d.obj := rfl
@[simp] theorem Dev.setChan_time (c : Fin 68) (g : Channel → Channel) : (d.setChan c g).time = d.time := rfl
@[simp] theorem Dev.setChan_clocks (c : Fin 68) (g : Channel → Channel) : (d.setChan c g).clocks = d.clocks := rfl
@[simp] theorem Dev.setChan_crossings (c : Fin 68) (g : Channel → Channel) : (d.setChan c g).crossings = d.crossings := rfl
@[simp] theorem Dev.setChan_refusals (c : Fin 68) (g : Channel → Channel) : (d.setChan c g).refusals = d.refusals := rfl
@[simp] theorem Dev.setChan_mail (c : Fin 68) (g : Channel → Channel) : (d.setChan c g).mail = d.mail := rfl
@[simp] theorem Dev.setChan_cores (c : Fin 68) (g : Channel → Channel) : (d.setChan c g).cores = d.cores := rfl
@[simp] theorem Dev.setChan_activeB (c : Fin 68) (g : Channel → Channel) : (d.setChan c g).activeB = d.activeB := rfl
@[simp] theorem Dev.setChan_power (c : Fin 68) (g : Channel → Channel) : (d.setChan c g).power = d.power := rfl
@[simp] theorem Dev.setChan_dict (c : Fin 68) (g : Channel → Channel) : (d.setChan c g).dict = d.dict := rfl
@[simp] theorem Dev.setChan_hosts (c : Fin 68) (g : Channel → Channel) : (d.setChan c g).hosts = d.hosts := rfl
@[simp] theorem Dev.setChan_heart (c : Fin 68) (g : Channel → Channel) : (d.setChan c g).heart = d.heart := rfl
@[simp] theorem Dev.setChan_ports (c : Fin 68) (g : Channel → Channel) : (d.setChan c g).ports = d.ports := rfl
@[simp] theorem Dev.setChan_modules (c : Fin 68) (g : Channel → Channel) : (d.setChan c g).modules = d.modules := rfl
@[simp] theorem Dev.setChan_site (c : Fin 68) (g : Channel → Channel) : (d.setChan c g).site = d.site := rfl
@[simp] theorem Dev.setChan_safety (c : Fin 68) (g : Channel → Channel) : (d.setChan c g).safety = d.safety := rfl
@[simp] theorem Dev.setChan_energy (c : Fin 68) (g : Channel → Channel) : (d.setChan c g).energy = d.energy := rfl
@[simp] theorem Dev.setChan_tariff (c : Fin 68) (g : Channel → Channel) : (d.setChan c g).tariff = d.tariff := rfl
@[simp] theorem Dev.setChan_ledger (c : Fin 68) (g : Channel → Channel) : (d.setChan c g).ledger = d.ledger := rfl
@[simp] theorem Dev.setChan_cvu (c : Fin 68) (g : Channel → Channel) : (d.setChan c g).cvu = d.cvu := rfl
@[simp] theorem Dev.setChan_burl (c : Fin 68) (g : Channel → Channel) : (d.setChan c g).burl = d.burl := rfl
@[simp] theorem Dev.setChan_update (c : Fin 68) (g : Channel → Channel) : (d.setChan c g).update = d.update := rfl
@[simp] theorem Dev.setChan_canopy (c : Fin 68) (g : Channel → Channel) : (d.setChan c g).canopy = d.canopy := rfl
@[simp] theorem Dev.setChan_display (c : Fin 68) (g : Channel → Channel) : (d.setChan c g).display = d.display := rfl
@[simp] theorem Dev.setChan_held (c : Fin 68) (g : Channel → Channel) : (d.setChan c g).held = d.held := rfl

/-! ### `setMeter` -/

@[simp] theorem Dev.setMeter_free (e : EntityId) (g : Meter → Meter) : (d.setMeter e g).free = d.free := rfl
@[simp] theorem Dev.setMeter_out (e : EntityId) (g : Meter → Meter) : (d.setMeter e g).out = d.out := rfl
@[simp] theorem Dev.setMeter_obj (e : EntityId) (g : Meter → Meter) : (d.setMeter e g).obj = d.obj := rfl
@[simp] theorem Dev.setMeter_time (e : EntityId) (g : Meter → Meter) : (d.setMeter e g).time = d.time := rfl
@[simp] theorem Dev.setMeter_clocks (e : EntityId) (g : Meter → Meter) : (d.setMeter e g).clocks = d.clocks := rfl
@[simp] theorem Dev.setMeter_crossings (e : EntityId) (g : Meter → Meter) : (d.setMeter e g).crossings = d.crossings := rfl
@[simp] theorem Dev.setMeter_refusals (e : EntityId) (g : Meter → Meter) : (d.setMeter e g).refusals = d.refusals := rfl
@[simp] theorem Dev.setMeter_mail (e : EntityId) (g : Meter → Meter) : (d.setMeter e g).mail = d.mail := rfl
@[simp] theorem Dev.setMeter_cores (e : EntityId) (g : Meter → Meter) : (d.setMeter e g).cores = d.cores := rfl
@[simp] theorem Dev.setMeter_activeB (e : EntityId) (g : Meter → Meter) : (d.setMeter e g).activeB = d.activeB := rfl
@[simp] theorem Dev.setMeter_power (e : EntityId) (g : Meter → Meter) : (d.setMeter e g).power = d.power := rfl
@[simp] theorem Dev.setMeter_dict (e : EntityId) (g : Meter → Meter) : (d.setMeter e g).dict = d.dict := rfl
@[simp] theorem Dev.setMeter_hosts (e : EntityId) (g : Meter → Meter) : (d.setMeter e g).hosts = d.hosts := rfl
@[simp] theorem Dev.setMeter_heart (e : EntityId) (g : Meter → Meter) : (d.setMeter e g).heart = d.heart := rfl
@[simp] theorem Dev.setMeter_ports (e : EntityId) (g : Meter → Meter) : (d.setMeter e g).ports = d.ports := rfl
@[simp] theorem Dev.setMeter_modules (e : EntityId) (g : Meter → Meter) : (d.setMeter e g).modules = d.modules := rfl
@[simp] theorem Dev.setMeter_site (e : EntityId) (g : Meter → Meter) : (d.setMeter e g).site = d.site := rfl
@[simp] theorem Dev.setMeter_safety (e : EntityId) (g : Meter → Meter) : (d.setMeter e g).safety = d.safety := rfl
@[simp] theorem Dev.setMeter_energy (e : EntityId) (g : Meter → Meter) : (d.setMeter e g).energy = d.energy := rfl
@[simp] theorem Dev.setMeter_tariff (e : EntityId) (g : Meter → Meter) : (d.setMeter e g).tariff = d.tariff := rfl
@[simp] theorem Dev.setMeter_ledger (e : EntityId) (g : Meter → Meter) : (d.setMeter e g).ledger = d.ledger := rfl
@[simp] theorem Dev.setMeter_cvu (e : EntityId) (g : Meter → Meter) : (d.setMeter e g).cvu = d.cvu := rfl
@[simp] theorem Dev.setMeter_burl (e : EntityId) (g : Meter → Meter) : (d.setMeter e g).burl = d.burl := rfl
@[simp] theorem Dev.setMeter_update (e : EntityId) (g : Meter → Meter) : (d.setMeter e g).update = d.update := rfl
@[simp] theorem Dev.setMeter_canopy (e : EntityId) (g : Meter → Meter) : (d.setMeter e g).canopy = d.canopy := rfl
@[simp] theorem Dev.setMeter_display (e : EntityId) (g : Meter → Meter) : (d.setMeter e g).display = d.display := rfl
@[simp] theorem Dev.setMeter_held (e : EntityId) (g : Meter → Meter) : (d.setMeter e g).held = d.held := rfl

/-! ### `setEnergy` -/

@[simp] theorem Dev.setEnergy_free (g : Energy → Energy) : (d.setEnergy g).free = d.free := rfl
@[simp] theorem Dev.setEnergy_out (g : Energy → Energy) : (d.setEnergy g).out = d.out := rfl
@[simp] theorem Dev.setEnergy_obj (g : Energy → Energy) : (d.setEnergy g).obj = d.obj := rfl
@[simp] theorem Dev.setEnergy_time (g : Energy → Energy) : (d.setEnergy g).time = d.time := rfl
@[simp] theorem Dev.setEnergy_clocks (g : Energy → Energy) : (d.setEnergy g).clocks = d.clocks := rfl
@[simp] theorem Dev.setEnergy_crossings (g : Energy → Energy) : (d.setEnergy g).crossings = d.crossings := rfl
@[simp] theorem Dev.setEnergy_refusals (g : Energy → Energy) : (d.setEnergy g).refusals = d.refusals := rfl
@[simp] theorem Dev.setEnergy_mail (g : Energy → Energy) : (d.setEnergy g).mail = d.mail := rfl
@[simp] theorem Dev.setEnergy_cores (g : Energy → Energy) : (d.setEnergy g).cores = d.cores := rfl
@[simp] theorem Dev.setEnergy_activeB (g : Energy → Energy) : (d.setEnergy g).activeB = d.activeB := rfl
@[simp] theorem Dev.setEnergy_power (g : Energy → Energy) : (d.setEnergy g).power = d.power := rfl
@[simp] theorem Dev.setEnergy_dict (g : Energy → Energy) : (d.setEnergy g).dict = d.dict := rfl
@[simp] theorem Dev.setEnergy_hosts (g : Energy → Energy) : (d.setEnergy g).hosts = d.hosts := rfl
@[simp] theorem Dev.setEnergy_heart (g : Energy → Energy) : (d.setEnergy g).heart = d.heart := rfl
@[simp] theorem Dev.setEnergy_ports (g : Energy → Energy) : (d.setEnergy g).ports = d.ports := rfl
@[simp] theorem Dev.setEnergy_modules (g : Energy → Energy) : (d.setEnergy g).modules = d.modules := rfl
@[simp] theorem Dev.setEnergy_site (g : Energy → Energy) : (d.setEnergy g).site = d.site := rfl
@[simp] theorem Dev.setEnergy_safety (g : Energy → Energy) : (d.setEnergy g).safety = d.safety := rfl
@[simp] theorem Dev.setEnergy_metro (g : Energy → Energy) : (d.setEnergy g).metro = d.metro := rfl
@[simp] theorem Dev.setEnergy_tariff (g : Energy → Energy) : (d.setEnergy g).tariff = d.tariff := rfl
@[simp] theorem Dev.setEnergy_ledger (g : Energy → Energy) : (d.setEnergy g).ledger = d.ledger := rfl
@[simp] theorem Dev.setEnergy_cvu (g : Energy → Energy) : (d.setEnergy g).cvu = d.cvu := rfl
@[simp] theorem Dev.setEnergy_burl (g : Energy → Energy) : (d.setEnergy g).burl = d.burl := rfl
@[simp] theorem Dev.setEnergy_update (g : Energy → Energy) : (d.setEnergy g).update = d.update := rfl
@[simp] theorem Dev.setEnergy_canopy (g : Energy → Energy) : (d.setEnergy g).canopy = d.canopy := rfl
@[simp] theorem Dev.setEnergy_display (g : Energy → Energy) : (d.setEnergy g).display = d.display := rfl
@[simp] theorem Dev.setEnergy_held (g : Energy → Energy) : (d.setEnergy g).held = d.held := rfl

/-! ### `setTariff` -/

@[simp] theorem Dev.setTariff_free (g : Tariff → Tariff) : (d.setTariff g).free = d.free := rfl
@[simp] theorem Dev.setTariff_out (g : Tariff → Tariff) : (d.setTariff g).out = d.out := rfl
@[simp] theorem Dev.setTariff_obj (g : Tariff → Tariff) : (d.setTariff g).obj = d.obj := rfl
@[simp] theorem Dev.setTariff_time (g : Tariff → Tariff) : (d.setTariff g).time = d.time := rfl
@[simp] theorem Dev.setTariff_clocks (g : Tariff → Tariff) : (d.setTariff g).clocks = d.clocks := rfl
@[simp] theorem Dev.setTariff_crossings (g : Tariff → Tariff) : (d.setTariff g).crossings = d.crossings := rfl
@[simp] theorem Dev.setTariff_refusals (g : Tariff → Tariff) : (d.setTariff g).refusals = d.refusals := rfl
@[simp] theorem Dev.setTariff_mail (g : Tariff → Tariff) : (d.setTariff g).mail = d.mail := rfl
@[simp] theorem Dev.setTariff_cores (g : Tariff → Tariff) : (d.setTariff g).cores = d.cores := rfl
@[simp] theorem Dev.setTariff_activeB (g : Tariff → Tariff) : (d.setTariff g).activeB = d.activeB := rfl
@[simp] theorem Dev.setTariff_power (g : Tariff → Tariff) : (d.setTariff g).power = d.power := rfl
@[simp] theorem Dev.setTariff_dict (g : Tariff → Tariff) : (d.setTariff g).dict = d.dict := rfl
@[simp] theorem Dev.setTariff_hosts (g : Tariff → Tariff) : (d.setTariff g).hosts = d.hosts := rfl
@[simp] theorem Dev.setTariff_heart (g : Tariff → Tariff) : (d.setTariff g).heart = d.heart := rfl
@[simp] theorem Dev.setTariff_ports (g : Tariff → Tariff) : (d.setTariff g).ports = d.ports := rfl
@[simp] theorem Dev.setTariff_modules (g : Tariff → Tariff) : (d.setTariff g).modules = d.modules := rfl
@[simp] theorem Dev.setTariff_site (g : Tariff → Tariff) : (d.setTariff g).site = d.site := rfl
@[simp] theorem Dev.setTariff_safety (g : Tariff → Tariff) : (d.setTariff g).safety = d.safety := rfl
@[simp] theorem Dev.setTariff_metro (g : Tariff → Tariff) : (d.setTariff g).metro = d.metro := rfl
@[simp] theorem Dev.setTariff_energy (g : Tariff → Tariff) : (d.setTariff g).energy = d.energy := rfl
@[simp] theorem Dev.setTariff_ledger (g : Tariff → Tariff) : (d.setTariff g).ledger = d.ledger := rfl
@[simp] theorem Dev.setTariff_cvu (g : Tariff → Tariff) : (d.setTariff g).cvu = d.cvu := rfl
@[simp] theorem Dev.setTariff_burl (g : Tariff → Tariff) : (d.setTariff g).burl = d.burl := rfl
@[simp] theorem Dev.setTariff_update (g : Tariff → Tariff) : (d.setTariff g).update = d.update := rfl
@[simp] theorem Dev.setTariff_canopy (g : Tariff → Tariff) : (d.setTariff g).canopy = d.canopy := rfl
@[simp] theorem Dev.setTariff_display (g : Tariff → Tariff) : (d.setTariff g).display = d.display := rfl
@[simp] theorem Dev.setTariff_held (g : Tariff → Tariff) : (d.setTariff g).held = d.held := rfl

/-! ### `setHeart` -/

@[simp] theorem Dev.setHeart_free (g : Heartwood → Heartwood) : (d.setHeart g).free = d.free := rfl
@[simp] theorem Dev.setHeart_out (g : Heartwood → Heartwood) : (d.setHeart g).out = d.out := rfl
@[simp] theorem Dev.setHeart_obj (g : Heartwood → Heartwood) : (d.setHeart g).obj = d.obj := rfl
@[simp] theorem Dev.setHeart_time (g : Heartwood → Heartwood) : (d.setHeart g).time = d.time := rfl
@[simp] theorem Dev.setHeart_clocks (g : Heartwood → Heartwood) : (d.setHeart g).clocks = d.clocks := rfl
@[simp] theorem Dev.setHeart_crossings (g : Heartwood → Heartwood) : (d.setHeart g).crossings = d.crossings := rfl
@[simp] theorem Dev.setHeart_refusals (g : Heartwood → Heartwood) : (d.setHeart g).refusals = d.refusals := rfl
@[simp] theorem Dev.setHeart_mail (g : Heartwood → Heartwood) : (d.setHeart g).mail = d.mail := rfl
@[simp] theorem Dev.setHeart_cores (g : Heartwood → Heartwood) : (d.setHeart g).cores = d.cores := rfl
@[simp] theorem Dev.setHeart_activeB (g : Heartwood → Heartwood) : (d.setHeart g).activeB = d.activeB := rfl
@[simp] theorem Dev.setHeart_power (g : Heartwood → Heartwood) : (d.setHeart g).power = d.power := rfl
@[simp] theorem Dev.setHeart_dict (g : Heartwood → Heartwood) : (d.setHeart g).dict = d.dict := rfl
@[simp] theorem Dev.setHeart_hosts (g : Heartwood → Heartwood) : (d.setHeart g).hosts = d.hosts := rfl
@[simp] theorem Dev.setHeart_ports (g : Heartwood → Heartwood) : (d.setHeart g).ports = d.ports := rfl
@[simp] theorem Dev.setHeart_modules (g : Heartwood → Heartwood) : (d.setHeart g).modules = d.modules := rfl
@[simp] theorem Dev.setHeart_site (g : Heartwood → Heartwood) : (d.setHeart g).site = d.site := rfl
@[simp] theorem Dev.setHeart_safety (g : Heartwood → Heartwood) : (d.setHeart g).safety = d.safety := rfl
@[simp] theorem Dev.setHeart_metro (g : Heartwood → Heartwood) : (d.setHeart g).metro = d.metro := rfl
@[simp] theorem Dev.setHeart_energy (g : Heartwood → Heartwood) : (d.setHeart g).energy = d.energy := rfl
@[simp] theorem Dev.setHeart_tariff (g : Heartwood → Heartwood) : (d.setHeart g).tariff = d.tariff := rfl
@[simp] theorem Dev.setHeart_ledger (g : Heartwood → Heartwood) : (d.setHeart g).ledger = d.ledger := rfl
@[simp] theorem Dev.setHeart_cvu (g : Heartwood → Heartwood) : (d.setHeart g).cvu = d.cvu := rfl
@[simp] theorem Dev.setHeart_burl (g : Heartwood → Heartwood) : (d.setHeart g).burl = d.burl := rfl
@[simp] theorem Dev.setHeart_update (g : Heartwood → Heartwood) : (d.setHeart g).update = d.update := rfl
@[simp] theorem Dev.setHeart_canopy (g : Heartwood → Heartwood) : (d.setHeart g).canopy = d.canopy := rfl
@[simp] theorem Dev.setHeart_display (g : Heartwood → Heartwood) : (d.setHeart g).display = d.display := rfl
@[simp] theorem Dev.setHeart_held (g : Heartwood → Heartwood) : (d.setHeart g).held = d.held := rfl

/-! ### `setKeypad` -/

@[simp] theorem Dev.setKeypad_free (g : Keypad → Keypad) : (d.setKeypad g).free = d.free := rfl
@[simp] theorem Dev.setKeypad_out (g : Keypad → Keypad) : (d.setKeypad g).out = d.out := rfl
@[simp] theorem Dev.setKeypad_obj (g : Keypad → Keypad) : (d.setKeypad g).obj = d.obj := rfl
@[simp] theorem Dev.setKeypad_time (g : Keypad → Keypad) : (d.setKeypad g).time = d.time := rfl
@[simp] theorem Dev.setKeypad_clocks (g : Keypad → Keypad) : (d.setKeypad g).clocks = d.clocks := rfl
@[simp] theorem Dev.setKeypad_crossings (g : Keypad → Keypad) : (d.setKeypad g).crossings = d.crossings := rfl
@[simp] theorem Dev.setKeypad_refusals (g : Keypad → Keypad) : (d.setKeypad g).refusals = d.refusals := rfl
@[simp] theorem Dev.setKeypad_mail (g : Keypad → Keypad) : (d.setKeypad g).mail = d.mail := rfl
@[simp] theorem Dev.setKeypad_cores (g : Keypad → Keypad) : (d.setKeypad g).cores = d.cores := rfl
@[simp] theorem Dev.setKeypad_activeB (g : Keypad → Keypad) : (d.setKeypad g).activeB = d.activeB := rfl
@[simp] theorem Dev.setKeypad_power (g : Keypad → Keypad) : (d.setKeypad g).power = d.power := rfl
@[simp] theorem Dev.setKeypad_dict (g : Keypad → Keypad) : (d.setKeypad g).dict = d.dict := rfl
@[simp] theorem Dev.setKeypad_hosts (g : Keypad → Keypad) : (d.setKeypad g).hosts = d.hosts := rfl
@[simp] theorem Dev.setKeypad_heart (g : Keypad → Keypad) : (d.setKeypad g).heart = d.heart := rfl
@[simp] theorem Dev.setKeypad_ports (g : Keypad → Keypad) : (d.setKeypad g).ports = d.ports := rfl
@[simp] theorem Dev.setKeypad_modules (g : Keypad → Keypad) : (d.setKeypad g).modules = d.modules := rfl
@[simp] theorem Dev.setKeypad_site (g : Keypad → Keypad) : (d.setKeypad g).site = d.site := rfl
@[simp] theorem Dev.setKeypad_safety (g : Keypad → Keypad) : (d.setKeypad g).safety = d.safety := rfl
@[simp] theorem Dev.setKeypad_metro (g : Keypad → Keypad) : (d.setKeypad g).metro = d.metro := rfl
@[simp] theorem Dev.setKeypad_energy (g : Keypad → Keypad) : (d.setKeypad g).energy = d.energy := rfl
@[simp] theorem Dev.setKeypad_tariff (g : Keypad → Keypad) : (d.setKeypad g).tariff = d.tariff := rfl
@[simp] theorem Dev.setKeypad_cvu (g : Keypad → Keypad) : (d.setKeypad g).cvu = d.cvu := rfl
@[simp] theorem Dev.setKeypad_burl (g : Keypad → Keypad) : (d.setKeypad g).burl = d.burl := rfl
@[simp] theorem Dev.setKeypad_update (g : Keypad → Keypad) : (d.setKeypad g).update = d.update := rfl
@[simp] theorem Dev.setKeypad_canopy (g : Keypad → Keypad) : (d.setKeypad g).canopy = d.canopy := rfl
@[simp] theorem Dev.setKeypad_display (g : Keypad → Keypad) : (d.setKeypad g).display = d.display := rfl
@[simp] theorem Dev.setKeypad_held (g : Keypad → Keypad) : (d.setKeypad g).held = d.held := rfl

/-! ### `setBurl` -/

@[simp] theorem Dev.setBurl_free (g : Burl → Burl) : (d.setBurl g).free = d.free := rfl
@[simp] theorem Dev.setBurl_out (g : Burl → Burl) : (d.setBurl g).out = d.out := rfl
@[simp] theorem Dev.setBurl_obj (g : Burl → Burl) : (d.setBurl g).obj = d.obj := rfl
@[simp] theorem Dev.setBurl_time (g : Burl → Burl) : (d.setBurl g).time = d.time := rfl
@[simp] theorem Dev.setBurl_clocks (g : Burl → Burl) : (d.setBurl g).clocks = d.clocks := rfl
@[simp] theorem Dev.setBurl_crossings (g : Burl → Burl) : (d.setBurl g).crossings = d.crossings := rfl
@[simp] theorem Dev.setBurl_refusals (g : Burl → Burl) : (d.setBurl g).refusals = d.refusals := rfl
@[simp] theorem Dev.setBurl_mail (g : Burl → Burl) : (d.setBurl g).mail = d.mail := rfl
@[simp] theorem Dev.setBurl_cores (g : Burl → Burl) : (d.setBurl g).cores = d.cores := rfl
@[simp] theorem Dev.setBurl_activeB (g : Burl → Burl) : (d.setBurl g).activeB = d.activeB := rfl
@[simp] theorem Dev.setBurl_power (g : Burl → Burl) : (d.setBurl g).power = d.power := rfl
@[simp] theorem Dev.setBurl_dict (g : Burl → Burl) : (d.setBurl g).dict = d.dict := rfl
@[simp] theorem Dev.setBurl_hosts (g : Burl → Burl) : (d.setBurl g).hosts = d.hosts := rfl
@[simp] theorem Dev.setBurl_heart (g : Burl → Burl) : (d.setBurl g).heart = d.heart := rfl
@[simp] theorem Dev.setBurl_ports (g : Burl → Burl) : (d.setBurl g).ports = d.ports := rfl
@[simp] theorem Dev.setBurl_modules (g : Burl → Burl) : (d.setBurl g).modules = d.modules := rfl
@[simp] theorem Dev.setBurl_site (g : Burl → Burl) : (d.setBurl g).site = d.site := rfl
@[simp] theorem Dev.setBurl_safety (g : Burl → Burl) : (d.setBurl g).safety = d.safety := rfl
@[simp] theorem Dev.setBurl_metro (g : Burl → Burl) : (d.setBurl g).metro = d.metro := rfl
@[simp] theorem Dev.setBurl_energy (g : Burl → Burl) : (d.setBurl g).energy = d.energy := rfl
@[simp] theorem Dev.setBurl_tariff (g : Burl → Burl) : (d.setBurl g).tariff = d.tariff := rfl
@[simp] theorem Dev.setBurl_ledger (g : Burl → Burl) : (d.setBurl g).ledger = d.ledger := rfl
@[simp] theorem Dev.setBurl_cvu (g : Burl → Burl) : (d.setBurl g).cvu = d.cvu := rfl
@[simp] theorem Dev.setBurl_update (g : Burl → Burl) : (d.setBurl g).update = d.update := rfl
@[simp] theorem Dev.setBurl_canopy (g : Burl → Burl) : (d.setBurl g).canopy = d.canopy := rfl
@[simp] theorem Dev.setBurl_display (g : Burl → Burl) : (d.setBurl g).display = d.display := rfl
@[simp] theorem Dev.setBurl_held (g : Burl → Burl) : (d.setBurl g).held = d.held := rfl

/-! ### `setCanopy` -/

@[simp] theorem Dev.setCanopy_free (g : Canopy → Canopy) : (d.setCanopy g).free = d.free := rfl
@[simp] theorem Dev.setCanopy_out (g : Canopy → Canopy) : (d.setCanopy g).out = d.out := rfl
@[simp] theorem Dev.setCanopy_obj (g : Canopy → Canopy) : (d.setCanopy g).obj = d.obj := rfl
@[simp] theorem Dev.setCanopy_time (g : Canopy → Canopy) : (d.setCanopy g).time = d.time := rfl
@[simp] theorem Dev.setCanopy_clocks (g : Canopy → Canopy) : (d.setCanopy g).clocks = d.clocks := rfl
@[simp] theorem Dev.setCanopy_crossings (g : Canopy → Canopy) : (d.setCanopy g).crossings = d.crossings := rfl
@[simp] theorem Dev.setCanopy_refusals (g : Canopy → Canopy) : (d.setCanopy g).refusals = d.refusals := rfl
@[simp] theorem Dev.setCanopy_mail (g : Canopy → Canopy) : (d.setCanopy g).mail = d.mail := rfl
@[simp] theorem Dev.setCanopy_cores (g : Canopy → Canopy) : (d.setCanopy g).cores = d.cores := rfl
@[simp] theorem Dev.setCanopy_activeB (g : Canopy → Canopy) : (d.setCanopy g).activeB = d.activeB := rfl
@[simp] theorem Dev.setCanopy_power (g : Canopy → Canopy) : (d.setCanopy g).power = d.power := rfl
@[simp] theorem Dev.setCanopy_dict (g : Canopy → Canopy) : (d.setCanopy g).dict = d.dict := rfl
@[simp] theorem Dev.setCanopy_hosts (g : Canopy → Canopy) : (d.setCanopy g).hosts = d.hosts := rfl
@[simp] theorem Dev.setCanopy_heart (g : Canopy → Canopy) : (d.setCanopy g).heart = d.heart := rfl
@[simp] theorem Dev.setCanopy_ports (g : Canopy → Canopy) : (d.setCanopy g).ports = d.ports := rfl
@[simp] theorem Dev.setCanopy_modules (g : Canopy → Canopy) : (d.setCanopy g).modules = d.modules := rfl
@[simp] theorem Dev.setCanopy_site (g : Canopy → Canopy) : (d.setCanopy g).site = d.site := rfl
@[simp] theorem Dev.setCanopy_safety (g : Canopy → Canopy) : (d.setCanopy g).safety = d.safety := rfl
@[simp] theorem Dev.setCanopy_metro (g : Canopy → Canopy) : (d.setCanopy g).metro = d.metro := rfl
@[simp] theorem Dev.setCanopy_energy (g : Canopy → Canopy) : (d.setCanopy g).energy = d.energy := rfl
@[simp] theorem Dev.setCanopy_tariff (g : Canopy → Canopy) : (d.setCanopy g).tariff = d.tariff := rfl
@[simp] theorem Dev.setCanopy_ledger (g : Canopy → Canopy) : (d.setCanopy g).ledger = d.ledger := rfl
@[simp] theorem Dev.setCanopy_cvu (g : Canopy → Canopy) : (d.setCanopy g).cvu = d.cvu := rfl
@[simp] theorem Dev.setCanopy_burl (g : Canopy → Canopy) : (d.setCanopy g).burl = d.burl := rfl
@[simp] theorem Dev.setCanopy_update (g : Canopy → Canopy) : (d.setCanopy g).update = d.update := rfl
@[simp] theorem Dev.setCanopy_display (g : Canopy → Canopy) : (d.setCanopy g).display = d.display := rfl
@[simp] theorem Dev.setCanopy_held (g : Canopy → Canopy) : (d.setCanopy g).held = d.held := rfl

/-! ### `setDisplay` -/

@[simp] theorem Dev.setDisplay_free (g : Display → Display) : (d.setDisplay g).free = d.free := rfl
@[simp] theorem Dev.setDisplay_out (g : Display → Display) : (d.setDisplay g).out = d.out := rfl
@[simp] theorem Dev.setDisplay_obj (g : Display → Display) : (d.setDisplay g).obj = d.obj := rfl
@[simp] theorem Dev.setDisplay_time (g : Display → Display) : (d.setDisplay g).time = d.time := rfl
@[simp] theorem Dev.setDisplay_clocks (g : Display → Display) : (d.setDisplay g).clocks = d.clocks := rfl
@[simp] theorem Dev.setDisplay_crossings (g : Display → Display) : (d.setDisplay g).crossings = d.crossings := rfl
@[simp] theorem Dev.setDisplay_refusals (g : Display → Display) : (d.setDisplay g).refusals = d.refusals := rfl
@[simp] theorem Dev.setDisplay_mail (g : Display → Display) : (d.setDisplay g).mail = d.mail := rfl
@[simp] theorem Dev.setDisplay_cores (g : Display → Display) : (d.setDisplay g).cores = d.cores := rfl
@[simp] theorem Dev.setDisplay_activeB (g : Display → Display) : (d.setDisplay g).activeB = d.activeB := rfl
@[simp] theorem Dev.setDisplay_power (g : Display → Display) : (d.setDisplay g).power = d.power := rfl
@[simp] theorem Dev.setDisplay_dict (g : Display → Display) : (d.setDisplay g).dict = d.dict := rfl
@[simp] theorem Dev.setDisplay_hosts (g : Display → Display) : (d.setDisplay g).hosts = d.hosts := rfl
@[simp] theorem Dev.setDisplay_heart (g : Display → Display) : (d.setDisplay g).heart = d.heart := rfl
@[simp] theorem Dev.setDisplay_ports (g : Display → Display) : (d.setDisplay g).ports = d.ports := rfl
@[simp] theorem Dev.setDisplay_modules (g : Display → Display) : (d.setDisplay g).modules = d.modules := rfl
@[simp] theorem Dev.setDisplay_site (g : Display → Display) : (d.setDisplay g).site = d.site := rfl
@[simp] theorem Dev.setDisplay_safety (g : Display → Display) : (d.setDisplay g).safety = d.safety := rfl
@[simp] theorem Dev.setDisplay_metro (g : Display → Display) : (d.setDisplay g).metro = d.metro := rfl
@[simp] theorem Dev.setDisplay_energy (g : Display → Display) : (d.setDisplay g).energy = d.energy := rfl
@[simp] theorem Dev.setDisplay_tariff (g : Display → Display) : (d.setDisplay g).tariff = d.tariff := rfl
@[simp] theorem Dev.setDisplay_ledger (g : Display → Display) : (d.setDisplay g).ledger = d.ledger := rfl
@[simp] theorem Dev.setDisplay_cvu (g : Display → Display) : (d.setDisplay g).cvu = d.cvu := rfl
@[simp] theorem Dev.setDisplay_burl (g : Display → Display) : (d.setDisplay g).burl = d.burl := rfl
@[simp] theorem Dev.setDisplay_update (g : Display → Display) : (d.setDisplay g).update = d.update := rfl
@[simp] theorem Dev.setDisplay_canopy (g : Display → Display) : (d.setDisplay g).canopy = d.canopy := rfl
@[simp] theorem Dev.setDisplay_held (g : Display → Display) : (d.setDisplay g).held = d.held := rfl

/-! ### `setUpdate` -/

@[simp] theorem Dev.setUpdate_free (g : Update → Update) : (d.setUpdate g).free = d.free := rfl
@[simp] theorem Dev.setUpdate_out (g : Update → Update) : (d.setUpdate g).out = d.out := rfl
@[simp] theorem Dev.setUpdate_obj (g : Update → Update) : (d.setUpdate g).obj = d.obj := rfl
@[simp] theorem Dev.setUpdate_time (g : Update → Update) : (d.setUpdate g).time = d.time := rfl
@[simp] theorem Dev.setUpdate_clocks (g : Update → Update) : (d.setUpdate g).clocks = d.clocks := rfl
@[simp] theorem Dev.setUpdate_crossings (g : Update → Update) : (d.setUpdate g).crossings = d.crossings := rfl
@[simp] theorem Dev.setUpdate_refusals (g : Update → Update) : (d.setUpdate g).refusals = d.refusals := rfl
@[simp] theorem Dev.setUpdate_mail (g : Update → Update) : (d.setUpdate g).mail = d.mail := rfl
@[simp] theorem Dev.setUpdate_cores (g : Update → Update) : (d.setUpdate g).cores = d.cores := rfl
@[simp] theorem Dev.setUpdate_activeB (g : Update → Update) : (d.setUpdate g).activeB = d.activeB := rfl
@[simp] theorem Dev.setUpdate_power (g : Update → Update) : (d.setUpdate g).power = d.power := rfl
@[simp] theorem Dev.setUpdate_dict (g : Update → Update) : (d.setUpdate g).dict = d.dict := rfl
@[simp] theorem Dev.setUpdate_hosts (g : Update → Update) : (d.setUpdate g).hosts = d.hosts := rfl
@[simp] theorem Dev.setUpdate_heart (g : Update → Update) : (d.setUpdate g).heart = d.heart := rfl
@[simp] theorem Dev.setUpdate_ports (g : Update → Update) : (d.setUpdate g).ports = d.ports := rfl
@[simp] theorem Dev.setUpdate_modules (g : Update → Update) : (d.setUpdate g).modules = d.modules := rfl
@[simp] theorem Dev.setUpdate_site (g : Update → Update) : (d.setUpdate g).site = d.site := rfl
@[simp] theorem Dev.setUpdate_safety (g : Update → Update) : (d.setUpdate g).safety = d.safety := rfl
@[simp] theorem Dev.setUpdate_metro (g : Update → Update) : (d.setUpdate g).metro = d.metro := rfl
@[simp] theorem Dev.setUpdate_energy (g : Update → Update) : (d.setUpdate g).energy = d.energy := rfl
@[simp] theorem Dev.setUpdate_tariff (g : Update → Update) : (d.setUpdate g).tariff = d.tariff := rfl
@[simp] theorem Dev.setUpdate_ledger (g : Update → Update) : (d.setUpdate g).ledger = d.ledger := rfl
@[simp] theorem Dev.setUpdate_cvu (g : Update → Update) : (d.setUpdate g).cvu = d.cvu := rfl
@[simp] theorem Dev.setUpdate_burl (g : Update → Update) : (d.setUpdate g).burl = d.burl := rfl
@[simp] theorem Dev.setUpdate_canopy (g : Update → Update) : (d.setUpdate g).canopy = d.canopy := rfl
@[simp] theorem Dev.setUpdate_display (g : Update → Update) : (d.setUpdate g).display = d.display := rfl
@[simp] theorem Dev.setUpdate_held (g : Update → Update) : (d.setUpdate g).held = d.held := rfl

end Sys2Proof.Machine
end

