-- ==== Sys2Proof/Laws/Objects.lean ====
section
/-! SUPPORT. The object store: what a read gives after a write, and that updates of other parts leave every object alone. -/

namespace Sys2Proof.Machine

theorem Store.find_insert_same (l : Store) (k : Nat) (v : Val) : (l.insert k v).find k = some v := by
  induction l with
  | nil => simp [Store.insert, Store.find]
  | cons x r ih =>
    obtain ⟨a, w⟩ := x
    simp only [Store.insert]
    split
    · simp [Store.find]
    · split
      · simp [Store.find]
      · rename_i h1 h2
        have : ¬ a = k := fun h => h2 h.symm
        simp [Store.find, this, ih]

theorem Store.find_insert_other (l : Store) {k j : Nat} (v : Val) (h : k ≠ j) : (l.insert k v).find j = l.find j := by
  induction l with
  | nil => simp [Store.insert, Store.find, h]
  | cons x r ih =>
    obtain ⟨a, w⟩ := x
    simp only [Store.insert]
    split
    · simp [Store.find, h]
    · split
      · rename_i h1 h2
        subst h2
        simp [Store.find, h]
      · simp [Store.find, ih]

theorem Store.find_erase_same (l : Store) (k : Nat) : (l.erase k).find k = none := by
  induction l with
  | nil => rfl
  | cons x r ih =>
    obtain ⟨a, w⟩ := x
    by_cases h : a = k
    · simpa [Store.erase, h] using ih
    · simpa [Store.erase, Store.find, h] using ih

theorem Store.find_erase_other (l : Store) {k j : Nat} (h : k ≠ j) : (l.erase k).find j = l.find j := by
  induction l with
  | nil => rfl
  | cons x r ih =>
    obtain ⟨a, w⟩ := x
    by_cases ha : a = k
    · have hj : ¬ k = j := h
      simpa [Store.erase, Store.find, ha, hj] using ih
    · by_cases hj : a = j
      · simp [Store.erase, Store.find, hj, Ne.symm h]
      · simpa [Store.erase, Store.find, ha, hj] using ih

namespace Dev

variable (d : Dev)

/-- An object reads as what was put there last. -/
@[simp] theorem val_put (k : Nat) (v : Val) : (d.put k v).val k = v := by
  by_cases h : v = defaultOf k
  · simp only [Dev.put, Dev.val, h, if_true, Store.find_erase_same]
  · simp only [Dev.put, Dev.val, h, if_false, Store.find_insert_same]

/-- Putting one object leaves the others alone. -/
theorem val_put_other {k j : Nat} (v : Val) (h : k ≠ j) : (d.put k v).val j = d.val j := by
  by_cases hv : v = defaultOf k
  · simp only [Dev.put, Dev.val, hv, if_true, Store.find_erase_other _ h]
  · simp only [Dev.put, Dev.val, hv, if_false, Store.find_insert_other _ _ h]

@[simp] theorem nat_putNat (k n : Nat) : (d.putNat k n).nat k = n := by simp [Dev.nat, Dev.int, Dev.putNat]
@[simp] theorem int_putInt (k : Nat) (n : Int) : (d.putInt k n).int k = n := by simp [Dev.int, Dev.putInt]
@[simp] theorem flag_putFlag (k : Nat) (b : Bool) : (d.putFlag k b).flag k = b := by cases b <;> simp [Dev.flag, Dev.int, Dev.putFlag]
@[simp] theorem bytes_putBytes (k : Nat) (b : Bytes) : (d.putBytes k b).bytes k = b := by simp [Dev.bytes, Dev.putBytes]
theorem nat_bump (k n : Nat) : (d.bump k n).nat k = min (d.nat k + n) (top k) := by simp [Dev.bump]

theorem int_put_other {k j : Nat} (v : Val) (h : k ≠ j) : (d.put k v).int j = d.int j := by
  simp [Dev.int, d.val_put_other _ h]
theorem nat_put_other {k j : Nat} (v : Val) (h : k ≠ j) : (d.put k v).nat j = d.nat j := by
  simp [Dev.nat, Dev.int, d.val_put_other _ h]
theorem flag_put_other {k j : Nat} (v : Val) (h : k ≠ j) : (d.put k v).flag j = d.flag j := by
  unfold Dev.flag; simp only [d.int_put_other _ h]
theorem bytes_put_other {k j : Nat} (v : Val) (h : k ≠ j) : (d.put k v).bytes j = d.bytes j := by
  simp [Dev.bytes, d.val_put_other _ h]
theorem val_putInt_other {k j : Nat} (n : Int) (h : k ≠ j) : (d.putInt k n).val j = d.val j := by
  simp [Dev.putInt, d.val_put_other _ h]
theorem int_putInt_other {k j : Nat} (n : Int) (h : k ≠ j) : (d.putInt k n).int j = d.int j := by
  simp [Dev.int, Dev.putInt, d.val_put_other _ h]
theorem nat_putInt_other {k j : Nat} (n : Int) (h : k ≠ j) : (d.putInt k n).nat j = d.nat j := by
  simp [Dev.nat, Dev.int, Dev.putInt, d.val_put_other _ h]
theorem flag_putInt_other {k j : Nat} (n : Int) (h : k ≠ j) : (d.putInt k n).flag j = d.flag j := by
  unfold Dev.flag; simp only [d.int_putInt_other _ h]
theorem bytes_putInt_other {k j : Nat} (n : Int) (h : k ≠ j) : (d.putInt k n).bytes j = d.bytes j := by
  simp [Dev.bytes, Dev.putInt, d.val_put_other _ h]
theorem val_putNat_other {k j : Nat} (n : Nat) (h : k ≠ j) : (d.putNat k n).val j = d.val j := by
  simp [Dev.putNat, d.val_put_other _ h]
theorem int_putNat_other {k j : Nat} (n : Nat) (h : k ≠ j) : (d.putNat k n).int j = d.int j := by
  simp [Dev.int, Dev.putNat, d.val_put_other _ h]
theorem nat_putNat_other {k j : Nat} (n : Nat) (h : k ≠ j) : (d.putNat k n).nat j = d.nat j := by
  simp [Dev.nat, Dev.int, Dev.putNat, d.val_put_other _ h]
theorem flag_putNat_other {k j : Nat} (n : Nat) (h : k ≠ j) : (d.putNat k n).flag j = d.flag j := by
  unfold Dev.flag; simp only [d.int_putNat_other _ h]
theorem bytes_putNat_other {k j : Nat} (n : Nat) (h : k ≠ j) : (d.putNat k n).bytes j = d.bytes j := by
  simp [Dev.bytes, Dev.putNat, d.val_put_other _ h]
theorem val_putFlag_other {k j : Nat} (b : Bool) (h : k ≠ j) : (d.putFlag k b).val j = d.val j := by
  simp [Dev.putFlag, d.val_put_other _ h]
theorem int_putFlag_other {k j : Nat} (b : Bool) (h : k ≠ j) : (d.putFlag k b).int j = d.int j := by
  simp [Dev.int, Dev.putFlag, d.val_put_other _ h]
theorem nat_putFlag_other {k j : Nat} (b : Bool) (h : k ≠ j) : (d.putFlag k b).nat j = d.nat j := by
  simp [Dev.nat, Dev.int, Dev.putFlag, d.val_put_other _ h]
theorem flag_putFlag_other {k j : Nat} (b : Bool) (h : k ≠ j) : (d.putFlag k b).flag j = d.flag j := by
  unfold Dev.flag; simp only [d.int_putFlag_other _ h]
theorem bytes_putFlag_other {k j : Nat} (b : Bool) (h : k ≠ j) : (d.putFlag k b).bytes j = d.bytes j := by
  simp [Dev.bytes, Dev.putFlag, d.val_put_other _ h]
theorem val_putBytes_other {k j : Nat} (b : Bytes) (h : k ≠ j) : (d.putBytes k b).val j = d.val j := by
  simp [Dev.putBytes, d.val_put_other _ h]
theorem int_putBytes_other {k j : Nat} (b : Bytes) (h : k ≠ j) : (d.putBytes k b).int j = d.int j := by
  simp [Dev.int, Dev.putBytes, d.val_put_other _ h]
theorem nat_putBytes_other {k j : Nat} (b : Bytes) (h : k ≠ j) : (d.putBytes k b).nat j = d.nat j := by
  simp [Dev.nat, Dev.int, Dev.putBytes, d.val_put_other _ h]
theorem flag_putBytes_other {k j : Nat} (b : Bytes) (h : k ≠ j) : (d.putBytes k b).flag j = d.flag j := by
  unfold Dev.flag; simp only [d.int_putBytes_other _ h]
theorem bytes_putBytes_other {k j : Nat} (b : Bytes) (h : k ≠ j) : (d.putBytes k b).bytes j = d.bytes j := by
  simp [Dev.bytes, Dev.putBytes, d.val_put_other _ h]
theorem val_bump_other {k j : Nat} (n : Nat) (h : k ≠ j) : (d.bump k n).val j = d.val j := by
  unfold Dev.bump; exact d.val_putNat_other _ h
theorem int_bump_other {k j : Nat} (n : Nat) (h : k ≠ j) : (d.bump k n).int j = d.int j := by
  unfold Dev.bump; exact d.int_putNat_other _ h
theorem nat_bump_other {k j : Nat} (n : Nat) (h : k ≠ j) : (d.bump k n).nat j = d.nat j := by
  unfold Dev.bump; exact d.nat_putNat_other _ h
theorem flag_bump_other {k j : Nat} (n : Nat) (h : k ≠ j) : (d.bump k n).flag j = d.flag j := by
  unfold Dev.bump; exact d.flag_putNat_other _ h
theorem bytes_bump_other {k j : Nat} (n : Nat) (h : k ≠ j) : (d.bump k n).bytes j = d.bytes j := by
  unfold Dev.bump; exact d.bytes_putNat_other _ h

/-! ### Updates that touch no object -/

@[simp] theorem say_val (o : Out) (j : Nat) : (d.say o).val j = d.val j := rfl
@[simp] theorem say_int (o : Out) (j : Nat) : (d.say o).int j = d.int j := rfl
@[simp] theorem say_nat (o : Out) (j : Nat) : (d.say o).nat j = d.nat j := rfl
@[simp] theorem say_flag (o : Out) (j : Nat) : (d.say o).flag j = d.flag j := rfl
@[simp] theorem say_bytes (o : Out) (j : Nat) : (d.say o).bytes j = d.bytes j := rfl
@[simp] theorem legalAt_val (t c g e : Nat) (b : Bytes) (j : Nat) : (d.legalAt t c g e b).val j = d.val j := by simp [Dev.val]
@[simp] theorem legalAt_int (t c g e : Nat) (b : Bytes) (j : Nat) : (d.legalAt t c g e b).int j = d.int j := by simp [Dev.int, Dev.val]
@[simp] theorem legalAt_nat (t c g e : Nat) (b : Bytes) (j : Nat) : (d.legalAt t c g e b).nat j = d.nat j := by simp [Dev.nat, Dev.int, Dev.val]
@[simp] theorem legalAt_flag (t c g e : Nat) (b : Bytes) (j : Nat) : (d.legalAt t c g e b).flag j = d.flag j := by unfold Dev.flag; simp only [legalAt_int]
@[simp] theorem legalAt_bytes (t c g e : Nat) (b : Bytes) (j : Nat) : (d.legalAt t c g e b).bytes j = d.bytes j := by simp [Dev.bytes, Dev.val]
@[simp] theorem legal_val (c e : Nat) (b : Bytes) (j : Nat) : (d.legal c e b).val j = d.val j := by simp [Dev.val]
@[simp] theorem legal_int (c e : Nat) (b : Bytes) (j : Nat) : (d.legal c e b).int j = d.int j := by simp [Dev.int, Dev.val]
@[simp] theorem legal_nat (c e : Nat) (b : Bytes) (j : Nat) : (d.legal c e b).nat j = d.nat j := by simp [Dev.nat, Dev.int, Dev.val]
@[simp] theorem legal_flag (c e : Nat) (b : Bytes) (j : Nat) : (d.legal c e b).flag j = d.flag j := by unfold Dev.flag; simp only [legal_int]
@[simp] theorem legal_bytes (c e : Nat) (b : Bytes) (j : Nat) : (d.legal c e b).bytes j = d.bytes j := by simp [Dev.bytes, Dev.val]
@[simp] theorem general_val (e : GenEvent) (j : Nat) : (d.general e).val j = d.val j := rfl
@[simp] theorem general_int (e : GenEvent) (j : Nat) : (d.general e).int j = d.int j := rfl
@[simp] theorem general_nat (e : GenEvent) (j : Nat) : (d.general e).nat j = d.nat j := rfl
@[simp] theorem general_flag (e : GenEvent) (j : Nat) : (d.general e).flag j = d.flag j := rfl
@[simp] theorem general_bytes (e : GenEvent) (j : Nat) : (d.general e).bytes j = d.bytes j := rfl
@[simp] theorem setCore_val (c : CoreId) (r : CoreRun) (j : Nat) : (d.setCore c r).val j = d.val j := rfl
@[simp] theorem setCore_int (c : CoreId) (r : CoreRun) (j : Nat) : (d.setCore c r).int j = d.int j := rfl
@[simp] theorem setCore_nat (c : CoreId) (r : CoreRun) (j : Nat) : (d.setCore c r).nat j = d.nat j := rfl
@[simp] theorem setCore_flag (c : CoreId) (r : CoreRun) (j : Nat) : (d.setCore c r).flag j = d.flag j := rfl
@[simp] theorem setCore_bytes (c : CoreId) (r : CoreRun) (j : Nat) : (d.setCore c r).bytes j = d.bytes j := rfl
@[simp] theorem setCrossing_val (c : Fin 58) (g : Crossing → Crossing) (j : Nat) : (d.setCrossing c g).val j = d.val j := rfl
@[simp] theorem setCrossing_int (c : Fin 58) (g : Crossing → Crossing) (j : Nat) : (d.setCrossing c g).int j = d.int j := rfl
@[simp] theorem setCrossing_nat (c : Fin 58) (g : Crossing → Crossing) (j : Nat) : (d.setCrossing c g).nat j = d.nat j := rfl
@[simp] theorem setCrossing_flag (c : Fin 58) (g : Crossing → Crossing) (j : Nat) : (d.setCrossing c g).flag j = d.flag j := rfl
@[simp] theorem setCrossing_bytes (c : Fin 58) (g : Crossing → Crossing) (j : Nat) : (d.setCrossing c g).bytes j = d.bytes j := rfl
@[simp] theorem produce_val (c : Fin 58) (w : List Word) (j : Nat) : (d.produce c w).val j = d.val j := rfl
@[simp] theorem produce_int (c : Fin 58) (w : List Word) (j : Nat) : (d.produce c w).int j = d.int j := rfl
@[simp] theorem produce_nat (c : Fin 58) (w : List Word) (j : Nat) : (d.produce c w).nat j = d.nat j := rfl
@[simp] theorem produce_flag (c : Fin 58) (w : List Word) (j : Nat) : (d.produce c w).flag j = d.flag j := rfl
@[simp] theorem produce_bytes (c : Fin 58) (w : List Word) (j : Nat) : (d.produce c w).bytes j = d.bytes j := rfl
@[simp] theorem setGroup_val (n : Nat) (g : Group → Group) (j : Nat) : (d.setGroup n g).val j = d.val j := by unfold Dev.setGroup; split <;> rfl
@[simp] theorem setGroup_int (n : Nat) (g : Group → Group) (j : Nat) : (d.setGroup n g).int j = d.int j := by unfold Dev.setGroup; split <;> rfl
@[simp] theorem setGroup_nat (n : Nat) (g : Group → Group) (j : Nat) : (d.setGroup n g).nat j = d.nat j := by unfold Dev.setGroup; split <;> rfl
@[simp] theorem setGroup_flag (n : Nat) (g : Group → Group) (j : Nat) : (d.setGroup n g).flag j = d.flag j := by unfold Dev.setGroup; split <;> rfl
@[simp] theorem setGroup_bytes (n : Nat) (g : Group → Group) (j : Nat) : (d.setGroup n g).bytes j = d.bytes j := by unfold Dev.setGroup; split <;> rfl
@[simp] theorem enqueue_val (x : TickItem) (j : Nat) : (d.enqueue x).val j = d.val j := rfl
@[simp] theorem enqueue_int (x : TickItem) (j : Nat) : (d.enqueue x).int j = d.int j := rfl
@[simp] theorem enqueue_nat (x : TickItem) (j : Nat) : (d.enqueue x).nat j = d.nat j := rfl
@[simp] theorem enqueue_flag (x : TickItem) (j : Nat) : (d.enqueue x).flag j = d.flag j := rfl
@[simp] theorem enqueue_bytes (x : TickItem) (j : Nat) : (d.enqueue x).bytes j = d.bytes j := rfl
@[simp] theorem setSlot_val (s : SlotId) (g : HostSlot → HostSlot) (j : Nat) : (d.setSlot s g).val j = d.val j := rfl
@[simp] theorem setSlot_int (s : SlotId) (g : HostSlot → HostSlot) (j : Nat) : (d.setSlot s g).int j = d.int j := rfl
@[simp] theorem setSlot_nat (s : SlotId) (g : HostSlot → HostSlot) (j : Nat) : (d.setSlot s g).nat j = d.nat j := rfl
@[simp] theorem setSlot_flag (s : SlotId) (g : HostSlot → HostSlot) (j : Nat) : (d.setSlot s g).flag j = d.flag j := rfl
@[simp] theorem setSlot_bytes (s : SlotId) (g : HostSlot → HostSlot) (j : Nat) : (d.setSlot s g).bytes j = d.bytes j := rfl
@[simp] theorem setPort_val (p : PortId) (g : Port → Port) (j : Nat) : (d.setPort p g).val j = d.val j := rfl
@[simp] theorem setPort_int (p : PortId) (g : Port → Port) (j : Nat) : (d.setPort p g).int j = d.int j := rfl
@[simp] theorem setPort_nat (p : PortId) (g : Port → Port) (j : Nat) : (d.setPort p g).nat j = d.nat j := rfl
@[simp] theorem setPort_flag (p : PortId) (g : Port → Port) (j : Nat) : (d.setPort p g).flag j = d.flag j := rfl
@[simp] theorem setPort_bytes (p : PortId) (g : Port → Port) (j : Nat) : (d.setPort p g).bytes j = d.bytes j := rfl
@[simp] theorem setPsafe_val (p : PortId) (g : PortSafety → PortSafety) (j : Nat) : (d.setPsafe p g).val j = d.val j := rfl
@[simp] theorem setPsafe_int (p : PortId) (g : PortSafety → PortSafety) (j : Nat) : (d.setPsafe p g).int j = d.int j := rfl
@[simp] theorem setPsafe_nat (p : PortId) (g : PortSafety → PortSafety) (j : Nat) : (d.setPsafe p g).nat j = d.nat j := rfl
@[simp] theorem setPsafe_flag (p : PortId) (g : PortSafety → PortSafety) (j : Nat) : (d.setPsafe p g).flag j = d.flag j := rfl
@[simp] theorem setPsafe_bytes (p : PortId) (g : PortSafety → PortSafety) (j : Nat) : (d.setPsafe p g).bytes j = d.bytes j := rfl
@[simp] theorem setModule_val (m : Fin 16) (g : Module → Module) (j : Nat) : (d.setModule m g).val j = d.val j := rfl
@[simp] theorem setModule_int (m : Fin 16) (g : Module → Module) (j : Nat) : (d.setModule m g).int j = d.int j := rfl
@[simp] theorem setModule_nat (m : Fin 16) (g : Module → Module) (j : Nat) : (d.setModule m g).nat j = d.nat j := rfl
@[simp] theorem setModule_flag (m : Fin 16) (g : Module → Module) (j : Nat) : (d.setModule m g).flag j = d.flag j := rfl
@[simp] theorem setModule_bytes (m : Fin 16) (g : Module → Module) (j : Nat) : (d.setModule m g).bytes j = d.bytes j := rfl
@[simp] theorem setChan_val (c : Fin 68) (g : Channel → Channel) (j : Nat) : (d.setChan c g).val j = d.val j := rfl
@[simp] theorem setChan_int (c : Fin 68) (g : Channel → Channel) (j : Nat) : (d.setChan c g).int j = d.int j := rfl
@[simp] theorem setChan_nat (c : Fin 68) (g : Channel → Channel) (j : Nat) : (d.setChan c g).nat j = d.nat j := rfl
@[simp] theorem setChan_flag (c : Fin 68) (g : Channel → Channel) (j : Nat) : (d.setChan c g).flag j = d.flag j := rfl
@[simp] theorem setChan_bytes (c : Fin 68) (g : Channel → Channel) (j : Nat) : (d.setChan c g).bytes j = d.bytes j := rfl
@[simp] theorem setMeter_val (e : EntityId) (g : Meter → Meter) (j : Nat) : (d.setMeter e g).val j = d.val j := rfl
@[simp] theorem setMeter_int (e : EntityId) (g : Meter → Meter) (j : Nat) : (d.setMeter e g).int j = d.int j := rfl
@[simp] theorem setMeter_nat (e : EntityId) (g : Meter → Meter) (j : Nat) : (d.setMeter e g).nat j = d.nat j := rfl
@[simp] theorem setMeter_flag (e : EntityId) (g : Meter → Meter) (j : Nat) : (d.setMeter e g).flag j = d.flag j := rfl
@[simp] theorem setMeter_bytes (e : EntityId) (g : Meter → Meter) (j : Nat) : (d.setMeter e g).bytes j = d.bytes j := rfl
@[simp] theorem setEnergy_val (g : Energy → Energy) (j : Nat) : (d.setEnergy g).val j = d.val j := rfl
@[simp] theorem setEnergy_int (g : Energy → Energy) (j : Nat) : (d.setEnergy g).int j = d.int j := rfl
@[simp] theorem setEnergy_nat (g : Energy → Energy) (j : Nat) : (d.setEnergy g).nat j = d.nat j := rfl
@[simp] theorem setEnergy_flag (g : Energy → Energy) (j : Nat) : (d.setEnergy g).flag j = d.flag j := rfl
@[simp] theorem setEnergy_bytes (g : Energy → Energy) (j : Nat) : (d.setEnergy g).bytes j = d.bytes j := rfl
@[simp] theorem setTariff_val (g : Tariff → Tariff) (j : Nat) : (d.setTariff g).val j = d.val j := rfl
@[simp] theorem setTariff_int (g : Tariff → Tariff) (j : Nat) : (d.setTariff g).int j = d.int j := rfl
@[simp] theorem setTariff_nat (g : Tariff → Tariff) (j : Nat) : (d.setTariff g).nat j = d.nat j := rfl
@[simp] theorem setTariff_flag (g : Tariff → Tariff) (j : Nat) : (d.setTariff g).flag j = d.flag j := rfl
@[simp] theorem setTariff_bytes (g : Tariff → Tariff) (j : Nat) : (d.setTariff g).bytes j = d.bytes j := rfl
@[simp] theorem setHeart_val (g : Heartwood → Heartwood) (j : Nat) : (d.setHeart g).val j = d.val j := rfl
@[simp] theorem setHeart_int (g : Heartwood → Heartwood) (j : Nat) : (d.setHeart g).int j = d.int j := rfl
@[simp] theorem setHeart_nat (g : Heartwood → Heartwood) (j : Nat) : (d.setHeart g).nat j = d.nat j := rfl
@[simp] theorem setHeart_flag (g : Heartwood → Heartwood) (j : Nat) : (d.setHeart g).flag j = d.flag j := rfl
@[simp] theorem setHeart_bytes (g : Heartwood → Heartwood) (j : Nat) : (d.setHeart g).bytes j = d.bytes j := rfl
@[simp] theorem setKeypad_val (g : Keypad → Keypad) (j : Nat) : (d.setKeypad g).val j = d.val j := rfl
@[simp] theorem setKeypad_int (g : Keypad → Keypad) (j : Nat) : (d.setKeypad g).int j = d.int j := rfl
@[simp] theorem setKeypad_nat (g : Keypad → Keypad) (j : Nat) : (d.setKeypad g).nat j = d.nat j := rfl
@[simp] theorem setKeypad_flag (g : Keypad → Keypad) (j : Nat) : (d.setKeypad g).flag j = d.flag j := rfl
@[simp] theorem setKeypad_bytes (g : Keypad → Keypad) (j : Nat) : (d.setKeypad g).bytes j = d.bytes j := rfl
@[simp] theorem setBurl_val (g : Burl → Burl) (j : Nat) : (d.setBurl g).val j = d.val j := rfl
@[simp] theorem setBurl_int (g : Burl → Burl) (j : Nat) : (d.setBurl g).int j = d.int j := rfl
@[simp] theorem setBurl_nat (g : Burl → Burl) (j : Nat) : (d.setBurl g).nat j = d.nat j := rfl
@[simp] theorem setBurl_flag (g : Burl → Burl) (j : Nat) : (d.setBurl g).flag j = d.flag j := rfl
@[simp] theorem setBurl_bytes (g : Burl → Burl) (j : Nat) : (d.setBurl g).bytes j = d.bytes j := rfl
@[simp] theorem setCanopy_val (g : Canopy → Canopy) (j : Nat) : (d.setCanopy g).val j = d.val j := rfl
@[simp] theorem setCanopy_int (g : Canopy → Canopy) (j : Nat) : (d.setCanopy g).int j = d.int j := rfl
@[simp] theorem setCanopy_nat (g : Canopy → Canopy) (j : Nat) : (d.setCanopy g).nat j = d.nat j := rfl
@[simp] theorem setCanopy_flag (g : Canopy → Canopy) (j : Nat) : (d.setCanopy g).flag j = d.flag j := rfl
@[simp] theorem setCanopy_bytes (g : Canopy → Canopy) (j : Nat) : (d.setCanopy g).bytes j = d.bytes j := rfl
@[simp] theorem setDisplay_val (g : Display → Display) (j : Nat) : (d.setDisplay g).val j = d.val j := rfl
@[simp] theorem setDisplay_int (g : Display → Display) (j : Nat) : (d.setDisplay g).int j = d.int j := rfl
@[simp] theorem setDisplay_nat (g : Display → Display) (j : Nat) : (d.setDisplay g).nat j = d.nat j := rfl
@[simp] theorem setDisplay_flag (g : Display → Display) (j : Nat) : (d.setDisplay g).flag j = d.flag j := rfl
@[simp] theorem setDisplay_bytes (g : Display → Display) (j : Nat) : (d.setDisplay g).bytes j = d.bytes j := rfl
@[simp] theorem setUpdate_val (g : Update → Update) (j : Nat) : (d.setUpdate g).val j = d.val j := rfl
@[simp] theorem setUpdate_int (g : Update → Update) (j : Nat) : (d.setUpdate g).int j = d.int j := rfl
@[simp] theorem setUpdate_nat (g : Update → Update) (j : Nat) : (d.setUpdate g).nat j = d.nat j := rfl
@[simp] theorem setUpdate_flag (g : Update → Update) (j : Nat) : (d.setUpdate g).flag j = d.flag j := rfl
@[simp] theorem setUpdate_bytes (g : Update → Update) (j : Nat) : (d.setUpdate g).bytes j = d.bytes j := rfl

/-- Putting several objects leaves every object alone that is not among them. -/
theorem val_putAll_other (l : Store) (j : Nat) (h : ∀ x ∈ l, x.1 ≠ j) : (d.putAll l).val j = d.val j := by
  induction l generalizing d with
  | nil => rfl
  | cons x r ih =>
    obtain ⟨k, v⟩ := x
    rw [Dev.putAll, ih _ fun y hy => h y (List.mem_cons_of_mem _ hy)]
    exact d.val_put_other v (h (k, v) List.mem_cons_self)

end Dev
end Sys2Proof.Machine
end

