-- ==== Sys2Proof/Laws/Hosts.lean ====
section
/-! SUPPORT. What receiving, serving and answering a host request does, said once (06 R138 to R150). -/

namespace Sys2Proof.Machine

variable {d : Dev} {m : HostMsg}

/-- Frames of parts compose. -/
theorem Part.same_trans' {a b c : Dev} {x : Part} (h : x.same a b) (g : x.same b c) : x.same a c := by
  cases x <;> exact Eq.trans h g

theorem Dev.hears_iff : d.hears m = true ↔
    d.sequencerUp = true ∧ d.ifaceUp m.iface = true ∧ (d.slot m.slot).registered = true ∧ d.allowed m.slot m.iface = true ∧
      m.micOk = true ∧ (∃ h, sequenceWindow (d.slot m.slot) m.seq.toNat = some h) ∧ (d.slot m.slot).unanswered < 8 ∧
      m.seq.toNat < 0xFFFFFF00 ∧ (d.slot m.slot).endAfter = none := by
  simp [Dev.hears, Option.isSome_iff_exists, and_assoc]

/-- A slot's window keeps everything of the slot but `high` and `seen`. -/
theorem sequenceWindow_keeps {h h' : HostSlot} {n : Nat} (e : sequenceWindow h n = some h') :
    ∃ a b, h' = { h with high := a, seen := b } := by
  unfold sequenceWindow at e
  split at e
  · exact ⟨_, _, (Option.some.inj e).symm⟩
  · split at e
    · cases e
    · simp only at e
      split at e
      · cases e
      · exact ⟨h.high, _, (Option.some.inj e).symm⟩

namespace Dev

@[simp] theorem slot_setSlot (d : Dev) (x : SlotId) (f : HostSlot → HostSlot) : (d.setSlot x f).slot x = f (d.slot x) := by
  simp [Dev.slot, Dev.setSlot, vmod]

theorem slot_setSlot_other (d : Dev) {x y : SlotId} (f : HostSlot → HostSlot) (h : y ≠ x) : (d.setSlot x f).slot y = d.slot y := by
  have : x.val ≠ y.val := fun e => h (Fin.ext e.symm)
  simp [Dev.slot, Dev.setSlot, vmod, this]

@[simp] theorem slot_put (d : Dev) (k : Nat) (v : Val) (x : SlotId) : (d.put k v).slot x = d.slot x := by simp [Dev.slot]
@[simp] theorem slot_putNat (d : Dev) (k n : Nat) (x : SlotId) : (d.putNat k n).slot x = d.slot x := by simp [Dev.slot]
@[simp] theorem slot_putInt (d : Dev) (k : Nat) (n : Int) (x : SlotId) : (d.putInt k n).slot x = d.slot x := by simp [Dev.slot]
@[simp] theorem slot_putFlag (d : Dev) (k : Nat) (b : Bool) (x : SlotId) : (d.putFlag k b).slot x = d.slot x := by simp [Dev.slot]
@[simp] theorem slot_bump (d : Dev) (k n : Nat) (x : SlotId) : (d.bump k n).slot x = d.slot x := by simp [Dev.slot]
@[simp] theorem slot_say (d : Dev) (o : Out) (x : SlotId) : (d.say o).slot x = d.slot x := rfl

end Dev

/-- A message short of the end of the window exhausts no registration. -/
theorem exhausts_of_heard (h : d.hears m = true) : exhausts m = false := by
  have := (Dev.hears_iff.1 h).2.2.2.2.2.2.2.1
  simp [exhausts]; omega

/-- A heard request is served on the admitted device. -/
theorem hostRequest_heard (h : d.hears m = true) (key : Nat) (serve : Dev → Dev) :
    hostRequest m key serve d = serve (d.admitted m) := by
  have hx := exhausts_of_heard h
  obtain ⟨h1, h2, h3, h4, h5, ⟨w, h6⟩, h7, h8, h9⟩ := Dev.hears_iff.1 h
  obtain ⟨a, b, hw⟩ := sequenceWindow_keeps h6
  have hu : w.unanswered < 8 := by rw [hw]; exact h7
  have hn : ¬ 8 ≤ w.unanswered := by omega
  simp only [hostRequest, receive, h1, h2, h3, h4, h5, h6, hx, Dev.admitted, Option.getD_some, Bool.not_true, Bool.or_self,
    Bool.false_eq_true, if_false, Dev.slot_bump, Dev.slot_putNat, Dev.slot_setSlot, hn]

/-- A heard message that asks for no answer is served, and nothing is left to answer. -/
theorem hostNote_heard (h : d.hears m = true) (serve : Dev → Dev) : ∃ e, receive d m 0 = .accepted e ∧ hostNote m serve d = serve e := by
  have hx := exhausts_of_heard h
  obtain ⟨h1, h2, h3, h4, h5, ⟨w, h6⟩, h7, h8, h9⟩ := Dev.hears_iff.1 h
  have ha : ∀ e : Dev, endsWith m e = e := fun e => by simp [endsWith, hx]
  simp only [hostNote, receive, h1, h2, h3, h4, h5, h6, ha]
  exact ⟨_, rfl, rfl⟩

namespace Dev

/-! ### The admitted device -/

variable (d m)

/-- What admission makes of the slot: the window moves on, and one request more is owed. -/
theorem slot_admitted (h : d.hears m = true) : ∃ a b, (d.admitted m).slot m.slot =
    { d.slot m.slot with
      high := a, seen := b, lastValid := d.nowMs, lastIface := m.iface, unanswered := (d.slot m.slot).unanswered + 1
      peers := (d.slot m.slot).peers.set (ifaceNum m.iface) m.source } := by
  obtain ⟨_, _, _, _, _, ⟨w, h6⟩, _, _, _⟩ := Dev.hears_iff.1 h
  obtain ⟨a, b, hw⟩ := sequenceWindow_keeps h6
  refine ⟨a, b, ?_⟩
  simp [Dev.admitted, h6, hw]

theorem slot_admitted_other {x : SlotId} (h : x ≠ m.slot) : (d.admitted m).slot x = d.slot x := by
  simp [Dev.admitted, slot_setSlot_other _ _ h]

theorem admitted_ownership : (d.admitted m).hosts.ownership = d.hosts.ownership := by
  simp [Dev.admitted, Dev.setSlot]
theorem admitted_ownerSince : (d.admitted m).hosts.ownerSince = d.hosts.ownerSince := by
  simp [Dev.admitted, Dev.setSlot]
theorem admitted_lastHeartbeat : (d.admitted m).hosts.lastHeartbeat = d.hosts.lastHeartbeat := by
  simp [Dev.admitted, Dev.setSlot]
theorem admitted_can : (d.admitted m).hosts.can = d.hosts.can := by
  simp [Dev.admitted, Dev.setSlot]
theorem admitted_busOffCounts : (d.admitted m).hosts.busOffCounts = d.hosts.busOffCounts := by
  simp [Dev.admitted, Dev.setSlot]

/-- Admission changes no part but the hosts. -/
theorem admitted_same (x : Part) (h : x ≠ .hosts) (h' : x ≠ .obj) : x.same d (d.admitted m) := by
  cases x <;> first | exact absurd rfl h | exact absurd rfl h' | simp [Part.same, Dev.admitted]

/-- Admission writes no object but those of `hostKeys`. -/
theorem val_admitted {k : Nat} (h : k ∉ hostKeys m.slot) : (d.admitted m).val k = d.val k := by
  simp only [hostKeys, List.mem_cons, List.not_mem_nil, or_false, not_or] at h
  obtain ⟨h1, h2, h3⟩ := h
  simp only [Dev.admitted, setSlot_val, val_bump_other _ _ (Ne.symm h3), val_putNat_other _ _ (Ne.symm h2),
    val_putNat_other _ _ (Ne.symm h1)]

/-! ### Answers -/

/-- A message handed to an interface changes nothing but what is sent and what waits to be. -/
theorem transmit_same (i : Iface) (v : Via) (o : Out) (n : Nat) (x : Part) (h : x ≠ .out) (h2 : x ≠ .held) : x.same d (d.transmit i v o n) := by
  unfold Dev.transmit
  (repeat' split) <;> cases x <;> first | exact absurd rfl h | exact absurd rfl h2 | rfl

@[simp] theorem transmit_hosts (i : Iface) (v : Via) (o : Out) (n : Nat) : (d.transmit i v o n).hosts = d.hosts :=
  (transmit_same d i v o n .hosts (by decide) (by decide)).symm
@[simp] theorem transmit_obj (i : Iface) (v : Via) (o : Out) (n : Nat) : (d.transmit i v o n).obj = d.obj :=
  (transmit_same d i v o n .obj (by decide) (by decide)).symm
@[simp] theorem transmit_slot (i : Iface) (v : Via) (o : Out) (n : Nat) (x : SlotId) : (d.transmit i v o n).slot x = d.slot x := by simp [Dev.slot]

/-- Does an interface carry a message with a body of that length at once (06 R140, R141)? -/
def carries (d : Dev) (i : Iface) (n : Nat) : Bool := d.linkLive i && (decide (i ≠ .can5) || decide (n ≤ 44) && d.can5Active)

/-- Such a message is sent. -/
theorem transmit_carried (i : Iface) (v : Via) (o : Out) (n : Nat) (h : d.carries i n = true) : d.transmit i v o n = d.say o := by
  simp only [carries, Bool.and_eq_true, Bool.or_eq_true, decide_eq_true_eq] at h
  obtain ⟨h1, h2⟩ := h
  unfold Dev.transmit
  simp only [h1, Bool.not_true, Bool.false_eq_true, if_false]
  split
  · rename_i hi
    obtain h2 | ⟨h3, h4⟩ := h2
    · exact absurd hi h2
    · simp only [can5Active, decide_eq_true_eq] at h4
      have h5 : ¬ 44 < n := by omega
      have h6 : ¬ (d.hosts.can[5] = .integrating ∨ d.hosts.can[5] = .busOff) := by
        rcases h4 with h4 | h4 <;> simp [h4]
      simp [h5, h6]
  · rfl

/-- Owing one answer less changes nothing but the hosts. -/
theorem owed_same (a : Ack) (x : Part) (h : x ≠ .hosts) : x.same d (d.owed a) := by
  simp only [Dev.owed]
  (repeat' split) <;> cases x <;> first | exact absurd rfl h | rfl

@[simp] theorem owed_obj (a : Ack) : (d.owed a).obj = d.obj := (owed_same d a .obj (by decide)).symm
@[simp] theorem owed_out (a : Ack) : (d.owed a).out = d.out := (owed_same d a .out (by decide)).symm

/-- An answer to a registered slot is sent under its next Sequence. -/
theorem out_answer (a : Ack) (r : HostReply) (h : (d.slot a.slot).registered = true) (hs : (d.slot a.slot).session = a.session)
    (hc : d.carries a.iface (replyParts r).2.2.2.2.length = true) :
    (d.answer a r).out = d.out ++ [.host a.slot a.iface a.reqId ((d.slot a.slot).txSeq + 1) true r a.via
      (fdpWire ((d.slot a.slot).sessionKey.getD []) a.slot a.iface a.reqId ((d.slot a.slot).txSeq + 1) true r)] := by
  have hc' : ∀ f, (d.setSlot a.slot f).carries a.iface (replyParts r).2.2.2.2.length = true := fun f => hc
  simp only [Dev.answer, h, hs, true_and, and_self, if_true, owed_out, Dev.send]
  rw [transmit_carried _ _ _ _ _ (hc' _)]
  simp [Dev.setSlot, Dev.say]

/-- An answer that is carried leaves nothing waiting. -/
theorem held_answer (a : Ack) (r : HostReply) (hc : d.carries a.iface (replyParts r).2.2.2.2.length = true) : (d.answer a r).held = d.held := by
  have hc' : ∀ f, (d.setSlot a.slot f).carries a.iface (replyParts r).2.2.2.2.length = true := fun f => hc
  simp only [Dev.answer]
  split
  · rw [← owed_same _ a .held (by decide)]
    simp only [Dev.send]
    rw [transmit_carried _ _ _ _ _ (hc' _)]
    rfl
  · rfl

/-- An answer changes no part but the hosts and what is sent or waits to be. -/
theorem answer_same (a : Ack) (r : HostReply) (x : Part) (h : x ≠ .hosts) (h2 : x ≠ .out) (h3 : x ≠ .held) : x.same d (d.answer a r) := by
  simp only [Dev.answer]
  split
  · refine Part.same_trans' (Part.same_trans' (b := d.setSlot a.slot fun h => { h with txSeq := (d.slot a.slot).txSeq + 1 }) ?_
      (transmit_same _ _ _ _ _ x h2 h3)) (owed_same _ _ x h)
    cases x <;> first | exact absurd rfl h | rfl
  · cases x <;> rfl

/-- An answer writes no object. -/
@[simp] theorem val_answer (a : Ack) (r : HostReply) (k : Nat) : (d.answer a r).val k = d.val k := by
  have := answer_same d a r .obj (by decide) (by decide) (by decide)
  simp only [Dev.val]; rw [show (d.answer a r).obj = d.obj from this.symm]

theorem slot_owed_other (a : Ack) {x : SlotId} (h : x ≠ a.slot) : (d.owed a).slot x = d.slot x := by
  simp only [Dev.owed]
  (repeat' split) <;> simp [Dev.endRegistration, slot_setSlot_other _ _ h]

theorem slot_answer_other (a : Ack) (r : HostReply) {x : SlotId} (h : x ≠ a.slot) : (d.answer a r).slot x = d.slot x := by
  simp only [Dev.answer]
  split
  · rw [slot_owed_other _ _ h]; simp [Dev.send, slot_setSlot_other _ _ h]
  · rfl

theorem owed_hosts (a : Ack) : (d.owed a).hosts = { d.hosts with slots := (d.owed a).hosts.slots } := by
  simp only [Dev.owed]
  (repeat' split) <;> rfl

theorem answer_hosts (a : Ack) (r : HostReply) : (d.answer a r).hosts = { d.hosts with slots := (d.answer a r).hosts.slots } := by
  simp only [Dev.answer]
  split
  · rw [owed_hosts]; simp [Dev.send, Dev.setSlot]
  · rfl

end Dev

/-! ### Requests that are served -/

theorem admitted_slot_registered (h : d.hears m = true) : ((d.admitted m).slot m.slot).registered = true := by
  obtain ⟨a, b, e⟩ := Dev.slot_admitted d m h
  rw [e]; exact (Dev.hears_iff.1 h).2.2.1

theorem admitted_slot_txSeq (h : d.hears m = true) : ((d.admitted m).slot m.slot).txSeq = (d.slot m.slot).txSeq := by
  obtain ⟨a, b, e⟩ := Dev.slot_admitted d m h
  rw [e]

theorem admitted_slot_session (h : d.hears m = true) : ((d.admitted m).slot m.slot).session = (d.slot m.slot).session := by
  obtain ⟨a, b, e⟩ := Dev.slot_admitted d m h
  rw [e]
theorem admitted_slot_key (h : d.hears m = true) : ((d.admitted m).slot m.slot).sessionKey = (d.slot m.slot).sessionKey := by
  obtain ⟨a, b, e⟩ := Dev.slot_admitted d m h
  rw [e]

/-- Admission leaves the settings of the interfaces and the state of the links alone. -/
theorem admitted_nat_far {k : Nat} (h : k < 0x181000 ∨ 0x182000 ≤ k) : (d.admitted m).nat k = d.nat k := by
  have hx := m.slot.isLt
  have : k ∉ hostKeys m.slot := by
    simp only [hostKeys, Key.activeInterfaces, Key.hostLastSeen, Key.rxCount, ob, List.mem_cons, List.not_mem_nil, or_false]
    omega
  simp only [Dev.nat, Dev.int, Dev.val_admitted _ _ this]
theorem admitted_viaOf (i : Iface) (n : Nat) (x : Nat × Nat) : (d.admitted m).viaOf i n x = d.viaOf i n x := by
  cases i <;> simp only [Dev.viaOf] <;> rw [admitted_nat_far, admitted_nat_far] <;> first | rw [admitted_nat_far] <;> decide | decide
theorem admitted_linkLive (i : Iface) : (d.admitted m).linkLive i = d.linkLive i := by
  have h1 : (d.admitted m).clocks = d.clocks := (Dev.admitted_same d m .clocks (by decide) (by decide)).symm
  have h2 : (d.admitted m).crossings = d.crossings := (Dev.admitted_same d m .crossings (by decide) (by decide)).symm
  have h3 : (d.admitted m).power = d.power := (Dev.admitted_same d m .power (by decide) (by decide)).symm
  cases i <;> simp only [Dev.linkLive, Dev.passes, Dev.rail, h1, h2, h3]
  rw [admitted_nat_far]; decide
theorem admitted_carries (i : Iface) (n : Nat) : (d.admitted m).carries i n = d.carries i n := by
  simp only [Dev.carries, admitted_linkLive, Dev.can5Active, Dev.admitted_can]

/-- The interface a message was heard on carries a short answer. -/
theorem carries_of_heard (h : d.hears m = true) (n : Nat) (hn : m.iface ≠ .can5 ∨ n ≤ 44) : d.carries m.iface n = true := by
  have h2 := (Dev.hears_iff.1 h).2.1
  cases hi : m.iface <;> simp only [hi, Dev.ifaceUp, Bool.and_eq_true, Dev.carries, Bool.or_eq_true, decide_eq_true_eq] at *
  · exact ⟨h2.1.1.2, .inr ⟨hn.resolve_left (fun x => x rfl), h2.2⟩⟩
  · exact ⟨h2.1.2, .inl (by decide)⟩
  · exact ⟨h2.1.2, .inl (by decide)⟩

theorem admitted_ownerNext : (d.admitted m).ownerNext = d.ownerNext := by
  have h2 : (d.admitted m).dict = d.dict := (Dev.admitted_same d m .dict (by decide) (by decide)).symm
  simp [Dev.ownerNext, Dev.owner, Dev.admitted_ownership, h2]
theorem admitted_owner : (d.admitted m).owner = d.owner := by simp [Dev.owner, Dev.admitted_ownership]
theorem admitted_ownerFault (x : SlotId) : (d.admitted m).ownerFault x = d.ownerFault x := by simp [Dev.ownerFault, admitted_ownerNext]
theorem admitted_writeBlocked : (d.admitted m).writeBlocked = d.writeBlocked := by
  have h1 : d.power = (d.admitted m).power := Dev.admitted_same d m .power (by decide) (by decide)
  have h2 : d.dict = (d.admitted m).dict := Dev.admitted_same d m .dict (by decide) (by decide)
  simp [Dev.writeBlocked, Dev.roleBlocked, ← h1, ← h2]

theorem grants_iff : d.grants m = true ↔ d.hears m = true ∧ d.ownerNext = some m.slot ∧ d.writeBlocked = none := by
  simp [Dev.grants, and_assoc]

/-- A granted write of a value its object takes is served with that value on the admitted device. -/
theorem cmdWrite_granted {key : Nat} {data : Bytes} (h : d.grants m = true) (ht : takes key data = true) (stop : Bool)
    (serve : Ack → Val → Dev → Dev) :
    cmdWrite m key stop data serve d = serve ((d.admitted m).ackOf m key) (sentValue key data) (d.admitted m) := by
  obtain ⟨h1, h2, h3⟩ := grants_iff.1 h
  have ho : (d.admitted m).ownerFault m.slot = none := by
    rw [admitted_ownerFault]; simp [Dev.ownerFault, h2]
  rw [cmdWrite, hostRequest_heard h1]
  unfold takes at ht
  unfold sentValue
  split at ht
  · rename_i r hr
    simp only [hr, ho, ite_self, admitted_writeBlocked, h3]
    cases hv : valueFault key r data with
    | none => rfl
    | some c => simp [hv] at ht
  · cases ht

/-- A stop-class write needs no ownership (06 R156). -/
theorem cmdWrite_stop {key : Nat} {data : Bytes} (h : d.hears m = true) (hb : d.writeBlocked = none) (ht : takes key data = true)
    (serve : Ack → Val → Dev → Dev) :
    cmdWrite m key true data serve d = serve ((d.admitted m).ackOf m key) (sentValue key data) (d.admitted m) := by
  rw [cmdWrite, hostRequest_heard h]
  unfold takes at ht
  unfold sentValue
  split at ht
  · rename_i r hr
    simp only [hr, if_true, admitted_writeBlocked, hb]
    cases hv : valueFault key r data with
    | none => rfl
    | some c => simp [hv] at ht
  · cases ht

/-- An answer on the admitted device, changed in these parts and objects only, serves the message, where its interface still carries it. -/
theorem served {s : State} {e : Dev} {r : HostReply} {parts : List Part} {keys : List Nat} (key : Nat) (h : s.dev.hears m = true)
    (hh : e.hosts = (s.dev.admitted m).hosts) (hc : e.carries m.iface (replyParts r).2.2.2.2.length = true)
    (hp : ∀ x : Part, x ≠ .obj → x ≠ .hosts → x ∉ parts → x.same (s.dev.admitted m) e)
    (hk : ∀ k, k ∉ keys → e.val k = (s.dev.admitted m).val k) :
    Served m r parts keys s { s with dev := e.answer ((s.dev.admitted m).ackOf m key) r } := by
  have hs : ∀ x, e.slot x = (s.dev.admitted m).slot x := fun x => by simp [Dev.slot, hh]
  have hreg : (e.slot m.slot).registered = true := (hs _).symm ▸ admitted_slot_registered h
  have htx : (e.slot m.slot).txSeq = (s.dev.slot m.slot).txSeq := by rw [hs, admitted_slot_txSeq h]
  have hkey : (e.slot m.slot).sessionKey = (s.dev.slot m.slot).sessionKey := by rw [hs, admitted_slot_key h]
  have hses : (e.slot m.slot).session = ((s.dev.admitted m).slot m.slot).session := by rw [hs]
  refine ⟨?_, ⟨rfl, rfl, rfl, fun x hx hn => ?_, fun k hn => ?_⟩, fun q hq => ?_, ?_, ?_, ?_, ?_, ?_⟩
  · have e1 := Dev.out_answer e ((s.dev.admitted m).ackOf m key) r hreg hses hc
    simp only [Replied]
    rw [e1, List.getLast?_append]
    simp only [Dev.ackOf, htx, hkey, admitted_viaOf, Dev.reply, List.getLast?_singleton, Option.some_or]
  · simp only [List.mem_cons, not_or] at hn
    refine Part.same_trans' (Dev.admitted_same _ _ x hn.1 hx) (Part.same_trans' (hp x hx hn.1 hn.2.2) ?_)
    by_cases h3 : x = .held
    · subst h3; exact (Dev.held_answer e ((s.dev.admitted m).ackOf m key) r hc).symm
    · exact Dev.answer_same _ _ _ x hn.1 hn.2.1 h3
  · simp only [List.mem_append, not_or] at hn
    rw [Dev.val_answer, hk k hn.2, Dev.val_admitted _ _ hn.1]
  · show (e.answer _ r).slot q = _
    rw [Dev.slot_answer_other _ _ _ hq, hs, Dev.slot_admitted_other _ _ hq]
  all_goals
    dsimp only
    rw [Dev.answer_hosts]
    simp [hh, Dev.admitted_ownership, Dev.admitted_ownerSince, Dev.admitted_lastHeartbeat, Dev.admitted_can, Dev.admitted_busOffCounts]

end Sys2Proof.Machine
end

