-- ==== Sys2Proof/Laws/Memory.lean ====
section
/-! SUPPORT. The fabric's memories: read after write, and that every memory operation keeps the canonical form. -/

namespace Sys2Proof.Machine

namespace Memory

/-- A byte reads as what was stored there last. -/
theorem read_write_same (m : Memory) (x : Nat) (v : Byte) : (hm : m.wf = true) → (m.write x v).read x = v := by
  suffices h : ∀ lo, Memory.wfFrom lo m = true → (m.write x v).read x = v from h 0
  induction m with
  | nil => intro lo _; simp only [Memory.write]; split <;> simp_all [Memory.read]
  | cons c r ih =>
    obtain ⟨a, b⟩ := c
    intro lo hw
    simp only [Memory.wfFrom, Bool.and_eq_true, decide_eq_true_eq] at hw
    have above : ∀ (l : Memory) lo, x < lo → Memory.wfFrom lo l = true → Memory.read l x = Memory.unlisted := by
      intro l
      induction l with
      | nil => intros; rfl
      | cons e t ih2 =>
        obtain ⟨p, q⟩ := e
        intro lo hx hl
        simp only [Memory.wfFrom, Bool.and_eq_true, decide_eq_true_eq] at hl
        have hp : p ≠ x := by omega
        simp only [Memory.read, hp, if_false]
        exact ih2 (p + 1) (by omega) hl.2
    simp only [Memory.write]
    split
    · rename_i hlt
      split
      · rename_i hv
        have ha : ¬ a = x := by omega
        simp only [Memory.read, ha, if_false, hv]
        exact above r (a + 1) (by omega) hw.2
      · simp [Memory.read]
    · split
      · rename_i heq
        split
        · rename_i hv
          rw [hv]
          exact above r (a + 1) (by omega) hw.2
        · simp [Memory.read]
      · rename_i h1 h2
        have ha : ¬ a = x := fun h => h2 h.symm
        simp only [Memory.read, ha, if_false]
        exact ih (a + 1) hw.2

/-- Storing a byte leaves every other byte alone. -/
theorem read_write_other (m : Memory) {x y : Nat} (v : Byte) (h : y ≠ x) : (m.write x v).read y = m.read y := by
  induction m with
  | nil => simp only [Memory.write]; split <;> simp [Memory.read, Ne.symm h]
  | cons c r ih =>
    obtain ⟨a, b⟩ := c
    simp only [Memory.write]
    split
    · split
      · rfl
      · simp [Memory.read, Ne.symm h]
    · split
      · rename_i heq
        subst heq
        split <;> simp [Memory.read, Ne.symm h]
      · simp [Memory.read, ih]

theorem wfFrom_le {m : Memory} {lo hi : Nat} (h : Memory.wfFrom hi m = true) (hl : lo ≤ hi) : Memory.wfFrom lo m = true := by
  cases m with
  | nil => rfl
  | cons c r =>
    obtain ⟨a, b⟩ := c
    simp only [Memory.wfFrom, Bool.and_eq_true, decide_eq_true_eq] at h ⊢
    exact ⟨⟨by omega, h.1.2⟩, h.2⟩

/-- Storing a byte keeps the canonical form. -/
theorem wf_write {m : Memory} (x : Nat) (v : Byte) (h : m.wf = true) : (m.write x v).wf = true := by
  suffices key : ∀ lo, lo ≤ x → Memory.wfFrom lo m = true → Memory.wfFrom lo (m.write x v) = true from key 0 (Nat.zero_le x) h
  clear h
  induction m with
  | nil =>
    intro lo hx _
    simp only [Memory.write]
    split
    · rfl
    · rename_i hv; simp [Memory.wfFrom, hx, hv]
  | cons c r ih =>
    obtain ⟨a, b⟩ := c
    intro lo hx hw
    have hw' := hw
    simp only [Memory.wfFrom, Bool.and_eq_true, decide_eq_true_eq] at hw
    simp only [Memory.write]
    split
    · split
      · exact hw'
      · rename_i hlt hv
        simp only [Memory.wfFrom, Bool.and_eq_true, decide_eq_true_eq]
        exact ⟨⟨hx, hv⟩, ⟨by omega, hw.1.2⟩, hw.2⟩
    · split
      · rename_i heq
        split
        · exact wfFrom_le hw.2 (by omega)
        · rename_i hv
          simp only [Memory.wfFrom, Bool.and_eq_true, decide_eq_true_eq]
          exact ⟨⟨hx, hv⟩, by rw [heq]; exact hw.2⟩
      · simp only [Memory.wfFrom, Bool.and_eq_true, decide_eq_true_eq]
        exact ⟨hw.1, ih (a + 1) (by omega) hw.2⟩

/-- Storing bytes keeps the canonical form. -/
theorem wf_writeBytes (b : Bytes) : ∀ {m : Memory} (x : Nat), m.wf = true → (m.writeBytes x b).wf = true := by
  induction b with
  | nil => intro m x h; exact h
  | cons v r ih => intro m x h; exact ih (x + 1) (wf_write x v h)

/-- Bytes outside those stored read as before. -/
theorem read_writeBytes_other (b : Bytes) : ∀ (m : Memory) (x y : Nat), (y < x ∨ x + b.length ≤ y) → (m.writeBytes x b).read y = m.read y := by
  induction b with
  | nil => intros; rfl
  | cons v r ih =>
    intro m x y h
    simp only [List.length_cons] at h
    rw [Memory.writeBytes, ih _ _ _ (by omega)]
    exact read_write_other m v (by omega)

/-- What a power-up keeps of the memories is in canonical form (03 R63: the memories that hold their bytes). -/
theorem wf_stores {m : Memory} (h : m.wf = true) : m.stores.wf = true := by
  suffices key : ∀ (l : Memory) lo, Memory.wfFrom lo l = true → Memory.wfFrom lo (Memory.stores l) = true from key m 0 h
  intro l
  induction l with
  | nil => intros; rfl
  | cons c r ih =>
    obtain ⟨a, b⟩ := c
    intro lo hw
    simp only [Memory.wfFrom, Bool.and_eq_true, decide_eq_true_eq] at hw
    have ht := ih (a + 1) hw.2
    by_cases hk : 30 ≤ a / 2 ^ 32 ∧ a / 2 ^ 32 ≤ 33
    · have : Memory.stores ((a, b) :: r) = (a, b) :: Memory.stores r := by
        simp only [Memory.stores, List.filter_cons, hk, and_self, decide_true, if_true]
      rw [this]
      simp only [Memory.wfFrom, Bool.and_eq_true, decide_eq_true_eq]
      exact ⟨hw.1, ht⟩
    · have : Memory.stores ((a, b) :: r) = Memory.stores r := by
        simp only [Memory.stores, List.filter_cons, hk, decide_false]
        rfl
      rw [this]
      exact wfFrom_le ht (by omega)

/-- The empty memory is in canonical form. -/
theorem wf_nil : Memory.wf [] = true := rfl

end Memory
end Sys2Proof.Machine
end

