-- ==== Sys2Proof/Laws/Tables.lean ====
section
/-! SUPPORT. Small laws of tables, logbooks and receipts: the changed place of a table, what joins a logbook, and what a receipt leaves. -/

namespace Sys2Proof
/-- The changed place of a table. -/
@[simp] theorem vmod_same {α : Type} {n : Nat} (v : Vector α n) (i : Fin n) (f : α → α) : (vmod v i f)[i.val] = f v[i.val] := by simp [vmod]
/-- The other places of a table. -/
theorem vmod_other {α : Type} {n : Nat} (v : Vector α n) {i j : Fin n} (f : α → α) (h : j ≠ i) : (vmod v i f)[j.val] = v[j.val] := by
  have : i.val ≠ j.val := fun e => h (Fin.ext e.symm)
  simp [vmod, this]
theorem set_other {α : Type} {n : Nat} (v : Vector α n) {i j : Fin n} (x : α) (h : j ≠ i) : (v.set i.val x)[j.val] = v[j.val] := by
  have : i.val ≠ j.val := fun e => h (Fin.ext e.symm)
  simp [this]
namespace Machine
namespace Dev
@[simp] theorem setCrossing_get (d : Dev) (c : Fin 58) (f : Crossing → Crossing) : (d.setCrossing c f).crossings[c.val] = f d.crossings[c.val] := by
  simp [Dev.setCrossing]
theorem setCrossing_get_other (d : Dev) {c b : Fin 58} (f : Crossing → Crossing) (h : b ≠ c) : (d.setCrossing c f).crossings[b.val] = d.crossings[b.val] :=
  vmod_other _ _ h
end Dev
end Machine
end Sys2Proof
namespace Sys2Proof.Machine.Dev
/-- An event joins the general logbook, newest first. -/
theorem general_heart (d : Dev) (ev : GenEvent) : ∃ e : GenEntry, e.event = ev ∧
    (d.general ev).heart = { d.heart with general := e :: d.heart.general.take 98303 } :=
  ⟨⟨(match d.heart.general with | [] => 0 | e :: _ => e.seq) + 1, d.nowUs, d.timeFlags, ev⟩, rfl, rfl⟩
/-- An event joins the legal logbook, newest first, while MRAM is there. -/
theorem legal_heart (d : Dev) (code entity : Nat) (data : Bytes) (hm : d.rail .vddMem = true) : ∃ e : LegalEntry, e.seq = d.legalSeq + 1 ∧ e.code = code ∧ e.entity = entity ∧
    e.data = data ∧ e.time = d.nowUs ∧ (d.legal code entity data).heart = { d.heart with log := e :: d.heart.log.take 32767 } :=
  ⟨{ seq := d.legalSeq + 1, time := d.nowUs, code := code, flags := d.timeFlags, entity := entity, data := data
     chain := (Config.sha256 (d.chain ++ LegalEntry.head ⟨d.legalSeq + 1, d.nowUs, code, d.timeFlags, entity, data, []⟩)).take 8 },
   rfl, rfl, rfl, rfl, rfl, by
     have h : d.power.railGood[(6 : Fin 9)] = true := hm
     simp only [Dev.legal, Dev.legalAt, h, if_true]; rfl⟩
end Sys2Proof.Machine.Dev
namespace Sys2Proof.Machine
/-- The objects a receipt writes are host objects (06 R158). -/
theorem hostKeys_range {k : Nat} {x : SlotId} (h : k ∈ hostKeys x) : 0x181000 ≤ k ∧ k < 0x182000 := by
  have hx := x.isLt
  simp only [hostKeys, Key.activeInterfaces, Key.hostLastSeen, Key.rxCount, ob, List.mem_cons, List.not_mem_nil, or_false] at h
  omega
namespace Dev
theorem val_admitted_far (d : Dev) (m : HostMsg) {k : Nat} (h : k < 0x181000 ∨ 0x182000 ≤ k) : (d.admitted m).val k = d.val k :=
  Dev.val_admitted d m fun hk => by have := hostKeys_range hk; omega
theorem nat_admitted_far (d : Dev) (m : HostMsg) {k : Nat} (h : k < 0x181000 ∨ 0x182000 ≤ k) : (d.admitted m).nat k = d.nat k := by
  simp only [Dev.nat, Dev.int, val_admitted_far d m h]
theorem int_admitted_far (d : Dev) (m : HostMsg) {k : Nat} (h : k < 0x181000 ∨ 0x182000 ≤ k) : (d.admitted m).int k = d.int k := by
  simp only [Dev.int, val_admitted_far d m h]
theorem flag_admitted_far (d : Dev) (m : HostMsg) {k : Nat} (h : k < 0x181000 ∨ 0x182000 ≤ k) : (d.admitted m).flag k = d.flag k := by
  unfold Dev.flag; rw [int_admitted_far d m h]
theorem bytes_admitted_far (d : Dev) (m : HostMsg) {k : Nat} (h : k < 0x181000 ∨ 0x182000 ≤ k) : (d.admitted m).bytes k = d.bytes k := by
  simp only [Dev.bytes, val_admitted_far d m h]
@[simp] theorem nat_answer (d : Dev) (a : Ack) (r : HostReply) (k : Nat) : (d.answer a r).nat k = d.nat k := by simp only [Dev.nat, Dev.int, Dev.val_answer]
@[simp] theorem int_answer (d : Dev) (a : Ack) (r : HostReply) (k : Nat) : (d.answer a r).int k = d.int k := by simp only [Dev.int, Dev.val_answer]
@[simp] theorem flag_answer (d : Dev) (a : Ack) (r : HostReply) (k : Nat) : (d.answer a r).flag k = d.flag k := by unfold Dev.flag; rw [int_answer]
@[simp] theorem bytes_answer (d : Dev) (a : Ack) (r : HostReply) (k : Nat) : (d.answer a r).bytes k = d.bytes k := by simp only [Dev.bytes, Dev.val_answer]
end Dev
end Sys2Proof.Machine
end

