-- ==== Sys2Proof/Tests/Slice0.lean ====
section
/-! SUPPORT. Tests: terms that the well-formedness check refuses, worked examples of the manual, and for each statement a witness that
meets its premises together. -/

set_option maxRecDepth 20000
set_option Elab.async false

namespace Sys2Proof.Tests

open Sys2Proof Sys2Proof.Machine

/-! ### The well-formedness check refuses -/

def okMsg : HostMsg := ⟨2, .can5, 1, 7, true, (0, 0)⟩
def okFrame : CnpFrame := ⟨5, 0, true, 3, true, true, 101, true, 0⟩
def okHdr : ImageHdr := ⟨8368, true, 3, 2, 1, 7, 1, 0, 0, true, true, true, List.replicate 32 0, [], [], true, List.replicate 512 0, []⟩

theorem test_illformed_read_of_no_words : (Instr.fabricRead 3 .mram 0 0 false).wellFormed = false := by decide
theorem test_illformed_read_of_nine_words : (Instr.fabricRead 3 .mram 0 9 false).wellFormed = false := by decide
theorem test_illformed_read_unaligned : (Instr.fabricRead 3 .mram 2 1 false).wellFormed = false := by decide
theorem test_illformed_write_of_no_words : (Instr.fabricWrite 3 .mram 0 []).wellFormed = false := by decide
theorem test_illformed_write_of_nine_words : (Instr.fabricWrite 3 .mram 0 (List.replicate 9 0)).wellFormed = false := by decide
theorem test_illformed_write_unaligned : (Instr.fabricWrite 3 .mram 2 [0]).wellFormed = false := by decide
theorem test_illformed_post_of_65_bytes : (Instr.fabricPost 3 .burl (List.replicate 65 0)).wellFormed = false := by decide
theorem test_illformed_record_card_hash :
    (Instr.recordRequest 3 ⟨7, 0, [], List.replicate 10 0, 0, 0, 0, 1, 0, 0, 0, 0⟩ none).wellFormed = false := by decide
theorem test_illformed_record_status :
    (Instr.recordRequest 3 ⟨7, 0, List.replicate 10 0, List.replicate 10 0, 0, 0, 0, 256, 0, 0, 0, 0⟩ none).wellFormed = false := by decide
theorem test_illformed_read_count : (Instr.read okMsg ⟨0, 0⟩ 256 ⟨false, false⟩).wellFormed = false := by decide
theorem test_illformed_write_total : (Instr.write okMsg ⟨0, 0⟩ (2 ^ 32) true []).wellFormed = false := by decide
theorem test_illformed_write_data : (Instr.write okMsg ⟨0, 0⟩ 0 true (List.replicate 1025 0)).wellFormed = false := by decide
theorem test_illformed_segment_number : (Instr.segment okMsg true 65536 false []).wellFormed = false := by decide
theorem test_illformed_segment_data : (Instr.segment okMsg true 0 false (List.replicate 1025 0)).wellFormed = false := by decide
theorem test_illformed_segment_ack : (Instr.segmentAck okMsg true 65536).wellFormed = false := by decide
theorem test_illformed_hello_nonce : (Instr.hello 2 ⟨.can5, 1, (0, 0)⟩ [] (List.replicate 16 0)).wellFormed = false := by decide
theorem test_illformed_confirm_nonce : (Instr.confirm okMsg (List.replicate 16 0) []).wellFormed = false := by decide
theorem test_illformed_icmp_data : (Instr.icmpEchoRequest .eth0 (List.replicate 1473 0)).wellFormed = false := by decide
theorem test_illformed_slac_mac :
    (Instr.slacMessage 0 (.paramReq [])).wellFormed = false ∧ (Instr.slacMessage 0 (.sounding [])).wellFormed = false ∧
      (Instr.slacMessage 0 (.attenChar [] 0)).wellFormed = false ∧ (Instr.slacMessage 0 (.matchReq [])).wellFormed = false := by decide
theorem test_illformed_header_length : (Instr.imageHeader okMsg 0 { okHdr with bytes := [] }).wellFormed = false := by decide
theorem test_illformed_header_hash : (Instr.imageHeader okMsg 0 { okHdr with payloadHash := [] }).wellFormed = false := by decide
theorem test_illformed_join_request :
    (Instr.joinRequest okFrame [] (List.replicate 16 0) 0 0 0 (List.replicate 16 0)).wellFormed = false := by decide
theorem test_illformed_join_accept :
    (Instr.joinAccept okFrame (List.replicate 16 0) [] 0 0 0 0).wellFormed = false := by decide
theorem test_illformed_join_refuse : (Instr.joinRefuse okFrame (List.replicate 8 0) 256).wellFormed = false := by decide
theorem test_illformed_link_request : (Instr.linkRequest okFrame [] (List.replicate 16 0) (List.replicate 16 0) 0).wellFormed = false := by decide
theorem test_illformed_link_accept : (Instr.linkAccept okFrame [] 0).wellFormed = false := by decide
theorem test_illformed_app_read_of_none : (Instr.appRead okFrame 0 []).wellFormed = false := by decide
theorem test_illformed_app_read_of_17 : (Instr.appRead okFrame 0 (List.replicate 17 0)).wellFormed = false := by decide
theorem test_illformed_profile_width :
    (Instr.profileWrite 3 8 0 0 0 0 false).wellFormed = false ∧ (Instr.profileWrite 3 8 65 0 0 0 false).wellFormed = false := by decide

/-! ### Worked examples of the manual -/

/-- 15, table *ROM profiles*: the check over "123456789". -/
theorem test_rom_profiles :
    (List.range 5).map (fun k => ((romProfile k).map fun f => f.check ((List.range 9).map fun n => BitVec.ofNat 8 (0x31 + n))).getD 0) =
      [0xF4, 0x29B1, 0xCBF43926, 0xE3069283, 0x6C40DF5F0B497347] := by decide +kernel

/-- 07 R163: 16.0 A is a duty of 26.6625 %. -/
theorem test_duty_of_16_A : dutyOf 160 = some 2133 := by decide

/-- 07 R163: below 6 A there is no duty. -/
theorem test_duty_below_6_A : dutyOf 59 = none := by decide

/-- 13 R356: 60.0 A ramped to 0 over 500 ms is 55.2 A after 40 ms. -/
theorem test_ramp_after_40_ms : (Ramp.mk 600 100 500 2).at 140 = 552 := by decide

/-- 14, table *Phase classification*: 239.92 degrees is L3. -/
theorem test_phase_of_239_degrees : phaseClass 23992 = some (2, false) := by decide

/-- 14 R389: five tones at 50 Hz carry 199 bytes. -/
theorem test_max_payload : maxPayloadOf 5 0 50000 255 = 199 := by decide +kernel

/-- 02 R47: 8,112,000 ticks of I7 in a second of I1 are 14,000 ppm. -/
theorem test_cross_check_ppm : ppmOf 8112000 8000000 = 14000 := by decide

/-- 14 R380: the header block has C = 428 and a = 165. -/
theorem test_spread_of_the_header : spread 428 = 165 := by decide +kernel

/-- 14 R371: pair 0 has its space tone at 42 kHz and its mark tone at 45 kHz, pair 7 at 84 and 87 kHz. -/
theorem test_tones : toneKHz 0 false = 42 ∧ toneKHz 0 true = 45 ∧ toneKHz 7 false = 84 ∧ toneKHz 7 true = 87 := by decide

/-- 14 R374: the parity of any data makes a word whose value at the first root, 1, is 0. -/
theorem test_parity_at_the_first_root : (rsWord [1, 2, 3, 4]).foldl (· ^^^ ·) 0 = 0 := by decide +kernel

/-- 14 R380: an RS(26,10) codeword with its tail is 428 coded bits. -/
theorem test_header_bits : (innerCode (rsWord (List.replicate 10 0))).length = 428 := by decide +kernel


/-! ### Devices and states the witnesses use -/

/-- A device in service, every core running, slots registered and slot 2 the owner. -/
def base : Dev :=
  { Dev.reset with
    cores := Vector.replicate 12 .running
    power := { Dev.reset.power with state := .inService, bootStep := 11 }
    hosts := { Dev.reset.hosts with
      slots := Dev.reset.hosts.slots.map fun (h : HostSlot) => { h with registered := true }
      ownership := .owned 2
      can := Vector.replicate 6 .errorActive }
    metro := { Dev.reset.metro with running := true }
    burl := { Dev.reset.burl with contexts := Vector.replicate 144 (some (List.replicate 16 1)), broadcast := some (List.replicate 16 1) }
    safety := { Dev.reset.safety with testsPassed := true } }

/-- A state of that device, changed. -/
def dev (f : Dev → Dev) : State := ⟨[], [], f base, f base⟩

/-- A state of that device with objects set. -/
def set (l : List (Nat × Int)) (f : Dev → Dev := id) : State := dev fun d => f (l.foldl (fun (d : Dev) x => d.putInt x.1 x.2) d)

def st : State := dev id

/-- A message of a slot over CAN5. -/
def msg (slot : SlotId) (seq : Nat) : HostMsg := ⟨slot, .can5, 1, BitVec.ofNat 32 seq, true, (0, 0)⟩

def hm : HostMsg := msg 2 7

/-- A sound account record: number 7, 5,000,000 units of money, active. -/
def acc : Account := recordOf ⟨7, 0, [], [], 0, 0, 0xFF, 1, 1, 1, 0, 0⟩ 5000000

/-- The row of an object. -/
def row (k : Nat) : Row := match lookup k with | .ok r => r | .error _ => ⟨0, 0, 0, 0, 0, .bool, .ro, .int 0, .any, false⟩

/-- At dictionary tick `n`. -/
def late (n : Nat) (d : Dev) : Dev := { d with dict := { d.dict with tick := n } }

/-- At tick `n` of I7. -/
def late7 (n : Nat) (d : Dev) : Dev := { d with time := { d.time with i7Ticks := n } }

def pow (f : Power → Power) (d : Dev) : Dev := { d with power := f d.power }

def ack1 : Ack := ⟨2, .can5, 1, Key.currentLimit 3, base.viaOf .can5 0x22 (0, 0), 0⟩

def ring1 : Ring := ⟨1, 0, 0, 0, 0, 0, 0, 0, Vector.replicate 9 Entity.zero, Billing.zero, (0, 0), false, 0, Vector.replicate 9 none⟩

def sr1 : CommitRun := ⟨[], [], ring1, []⟩

def own (o : Ownership) (d : Dev) : Dev := { d with hosts := { d.hosts with ownership := o } }

def prt (f : Port → Port) (d : Dev) : Dev := d.setPort 0 f

def psf (f : PortSafety → PortSafety) (d : Dev) : Dev := d.setPsafe 0 f

def slo (f : HostSlot → HostSlot) (d : Dev) : Dev := d.setSlot 2 f

def hel : Hello := ⟨List.replicate 16 1, List.replicate 16 2, .can5, 500⟩

def rx1 : RxTransfer := ⟨ack1, 2, [1], 1, 0⟩

def tx1 : TxTransfer := ⟨ack1, [1, 2], 1, 0, 0⟩

def mdl (f : Module → Module) (d : Dev) : Dev := d.setModule 0 f

def met (f : Metro → Metro) (d : Dev) : Dev := { d with metro := f d.metro }

def en (f : Energy → Energy) (d : Dev) : Dev := { d with energy := f d.energy }

def tar (f : Tariff → Tariff) (d : Dev) : Dev := { d with tariff := f d.tariff }

def tim (f : TimeSt → TimeSt) (d : Dev) : Dev := { d with time := f d.time }

def mtr (f : Meter → Meter) (d : Dev) : Dev := { d with metro := { d.metro with meters := d.metro.meters.set 0 (f d.metro.meters[0]) } }

def chn (f : Channel → Channel) (d : Dev) : Dev := { d with metro := { d.metro with chans := d.metro.chans.set 4 (f d.metro.chans[4]) } }

def closed8 : Closed := ⟨8, 1, 0, 0, 0, 640, 1, Vector.replicate 3 0, Vector.replicate 3 0, 0, 0, Vector.replicate 3 (false, 0), false⟩

def cal1 : CalRun := ⟨0, 10, false, 10, 0, 0, Vector.replicate 8 0, Vector.replicate 8 0, Vector.replicate 3 0, Vector.replicate 3 0, 0, 1, false⟩

def kh1 : KeyHalf := ⟨1, 0, [], 0, 0, List.replicate 16 3, []⟩

def keyd (n : Fin 64) (d : Dev) : Dev :=
  { d with burl := { d.burl with slots := d.burl.slots.set n ⟨1, false, some kh1, none⟩ } }

def led (f : Ledger → Ledger) (d : Dev) : Dev := { d with ledger := f d.ledger }

def kpad (f : Keypad → Keypad) (d : Dev) : Dev := led (fun l => { l with keypad := f l.keypad }) d

def hrt (f : Heartwood → Heartwood) (d : Dev) : Dev := { d with heart := f d.heart }

def saf (f : Safety → Safety) (d : Dev) : Dev := { d with safety := f d.safety }

def cro (c : Fin 58) (f : Crossing → Crossing) (d : Dev) : Dev := d.setCrossing c f

def withAcc (d : Dev) : Dev := led (fun l => { l with accounts := [(0, acc)] }) d

def badAcc : Account := { acc with check := acc.check + 1 }

def part1 : RecordOpening := ⟨1, 0, 0, 7, 0, 0, Vector.replicate 32 0, 0, Vector.replicate 33 0⟩

def body1 : RecordBody := ⟨5, 0, 1, 7, 0, 0, 0, 0, [], 0, 0, 0, 0, 0, 0, 0, 0, [], 0⟩

def digits20 : List (Fin 10) := List.replicate 20 1

def tok : TokenFacts := ⟨true, 0, 120, .credit 10⟩

def env1 : LegalEnv := ⟨9, true, true⟩

def view1 : TickView := ⟨Vector.replicate 8 ⟨0, 0, 0, 0⟩, true, true, true, Vector.replicate 8 true, [], 1, 0, true⟩

def record1 : Bytes := leBytes 8 7 ++ leBytes 8 5000000 ++ leBytes 8 0 ++ List.replicate 24 0 ++ [0, 0xFF, 1, 1, 1, 0] ++ List.replicate 6 0 ++ List.replicate 4 0

/-- A provisioned device whose calibration check value is the one over its calibration. -/
def unsealed : Dev := keyd 5 { base with obj := [(Key.lifecycleState, .int 2)] }

/-- That device with a calibration check value. -/
def checked (n : Nat) : Dev := { unsealed with obj := [(Key.lifecycleState, .int 2), (Key.calibrationCheck, .int n)] }

def sealable : State := ⟨[], [], checked (calibrationValue unsealed), base⟩

theorem serialIndex_congr {f g : Nat → Val} {idx : Nat} (h : ∀ sub, 1 ≤ sub → sub ≤ highestSub idx → f (ob idx sub) = g (ob idx sub)) :
    serialIndex f idx = serialIndex g idx := by
  unfold serialIndex
  refine List.flatMap_congr fun sub hs => ?_
  obtain ⟨n, hn, rfl⟩ := List.mem_map.1 hs
  rw [h (n + 1) (by omega) (by have := List.mem_range.1 hn; omega)]

theorem rows3_sub : ∀ r ∈ rowsOf 3, r.sub + r.subs ≤ 256 := by decide +kernel

theorem foldl_sub_le (l : List Row) (h : ∀ r ∈ l, r.sub + r.subs ≤ 256) : ∀ m : Nat, m ≤ 255 →
    l.foldl (fun m r => max m (r.sub + r.subs - 1)) m ≤ 255 := by
  induction l with
  | nil => exact fun m hm => hm
  | cons a l ih =>
    intro m hm
    have ha := h a (by simp)
    exact ih (fun r hr => h r (by simp [hr])) _ (by show max m (a.sub + a.subs - 1) ≤ 255; omega)

/-- No calibration index has a subindex beyond a byte, and none lies at the check value's own. -/
theorem calibrationIndices_plain {i : Nat} (hi : i ∈ calibrationIndices) : i < 0x39F0 ∧ highestSub i ≤ 255 := by
  have h : 0x3000 ≤ i ∧ i < 0x39F0 := by
    simp only [calibrationIndices, List.mem_append, List.mem_cons, List.mem_map, List.mem_filter, List.mem_range, List.not_mem_nil, or_false] at hi
    rcases hi with (h | h) | h
    · omega
    · obtain ⟨n, hn, rfl⟩ := h; omega
    · obtain ⟨⟨n, hn, rfl⟩, -⟩ := h; omega
  refine ⟨h.2, ?_⟩
  have e : i / 0x1000 = 3 := by omega
  unfold highestSub
  rw [e]
  exact foldl_sub_le _ (fun r hr => rows3_sub r (List.mem_filter.1 hr).1) 0 (by omega)

theorem checked_value (n : Nat) : calibrationValue (checked n) = calibrationValue unsealed := by
  unfold calibrationValue serialise
  refine congrArg crc32c (List.flatMap_congr fun i hi => serialIndex_congr fun sub _ hs => ?_)
  have hp := calibrationIndices_plain hi
  have hk : Key.calibrationCheck ≠ ob i sub := by simp only [Key.calibrationCheck, ob]; omega
  simp only [checked, unsealed, keyd, Dev.val, Store.find, if_neg hk]

theorem checked_check (n : Nat) : (checked n).nat Key.calibrationCheck = n := by
  have hk : Key.lifecycleState ≠ Key.calibrationCheck := by decide
  simp only [checked, Dev.nat, Dev.int, Dev.val, Store.find, if_neg hk, if_true, Int.toNat_natCast]

theorem calibrationValue_sealable : calibrationValue sealable.dev = sealable.dev.nat Key.calibrationCheck :=
  (checked_value _).trans (checked_check _).symm

def cnp (f : Canopy → Canopy) (d : Dev) : Dev := { d with canopy := f d.canopy }

/-- A neighbour with address 5, FrameCounter 100 accepted last. -/
def nei : Neigh :=
  ⟨List.replicate 8 9, 5, 7, 0, 0, List.replicate 8 0, 0, 0, List.replicate 8 0, none, 3, 100, 0, 0, 0, none, 7, 100, 0, 3, some 2, 0, none, none, none, 1⟩

/-- A frame of that neighbour to the coordinator. -/
def frm : CnpFrame := ⟨5, 0, true, 3, true, true, 101, true, 0⟩

/-- A node in a state, with that neighbour. -/
def node (n : NodeState) (f : Canopy → Canopy := id) : State :=
  set [(Key.canopyEnable, 1), (Key.siteReferenceState, 0), (Key.siteFrequency, 50000), (Key.shortAddress, 0), (Key.networkId, 33),
    (Key.coordinatorAllowed, 1), (Key.holdActive, 0)]
    (cnp fun c => f { c with node := n, neigh := c.neigh.set 7 (some nei) })

/-- That node with an address of its own as a member: 9, or 0x7FE while it joins. -/
def member (a : Nat) (n : NodeState) (f : Canopy → Canopy := id) : State :=
  ⟨[], [], { (node n f).dev with obj := (Key.shortAddress, .int a) :: (Key.deviceIdHash, .bytes (List.replicate 32 6)) :: (node n f).dev.obj }, base⟩

/-- With a key in the admission slot. -/
def admits (s : State) : State := ⟨s.pending, s.mem, keyd 8 s.dev, s.seen⟩

def leases (k : Nat) : List (Nat × Bytes × Nat) := (List.range k).map fun a => (a + 1, [], 0)

/-- Every member address is taken. -/
def fullNet : State := node .coordinator fun c => { c with leased := leases 0x3FF }

theorem node_leased (n : NodeState) (l : List (Nat × Bytes × Nat)) :
    (node n fun c => { c with leased := l }).dev.canopy.leased = l ∧ (node n fun c => { c with leased := l }).dev.canopy.sf = 0 := ⟨rfl, rfl⟩

theorem fullNet_free : fullNet.dev.freeAddress = none := by
  unfold Dev.freeAddress
  rw [List.find?_eq_none]
  intro a ha
  obtain ⟨b, hb, rfl⟩ := List.mem_map.1 ha
  have hl : fullNet.dev.canopy.leased = leases 0x3FF := (node_leased .coordinator (leases 0x3FF)).1
  have hs : fullNet.dev.canopy.sf = 0 := (node_leased .coordinator (leases 0x3FF)).2
  have h : fullNet.dev.canopy.leased.all (fun x => decide (x.1 ≠ b + 1 ∨ x.2.2 + 16 ≤ fullNet.dev.canopy.sf)) = false := by
    rw [hl, hs, List.all_eq_false]
    exact ⟨(b + 1, [], 0), List.mem_map.2 ⟨b, hb, rfl⟩, by simp⟩
  simp only [Dev.addrFree, h, Bool.and_false]
  decide

def nif1 : NifPayload :=
  ⟨33, List.replicate 8 1, 0x10, true, false, false, 6400, 0, 160, 4, 300, Vector.replicate 3 50, Vector.replicate 6 0xFF, []⟩

def cnpTx1 : CnpTx := ⟨5, .keepalive, true, 3, 4, 1⟩

/-- A window over an entry without a context, profile 4. -/
def wset : WindowSet := ⟨none, 0x4500000, 0, 0, 1, 4, false, none, false, false⟩

def win : CvuWindow := ⟨wset, 1, 3, false, [], none⟩

def cwin : CvuWindow := { win with set := { wset with context := some 3 } }

def cv (e : Fin 16) (l : List CvuWindow) (d : Dev) : Dev := { d with cvu := { d.cvu with engines := d.cvu.engines.set e l } }

def brl (f : Burl → Burl) (d : Dev) : Dev := { d with burl := f d.burl }

def blob : ImportBlob := ⟨1, 92, 0x3F, 3, 0x210, 32, 5, true, true, [1], List.replicate 32 4, true⟩

def hdr : ImageHdr := ⟨8368, true, 3, 2, 1, 7, 1, 0, 0, true, true, true, [], [], [], true, [], []⟩

def upd (f : Update → Update) (d : Dev) : Dev := { d with update := f d.update }

/-- A chunk of one byte at offset 0 with its CRC-64. -/
def chunk1 : Bytes :=
  [0, 0, 0, 0, 9] ++ (match romProfile 4 with | some f => f.field (f.check [0, 0, 0, 0, 9]) | none => [])

def run1 : PlanRun := ⟨0, 0, .preparing, true, 0, true, false, false, none, none, 0⟩

/-- A plan of one step of a type from staging area 5, in a state, with a run. -/
def plan (state typ : Nat) (r : Option PlanRun) (f : Dev → Dev := id) : State :=
  set [(Key.planState, state), (Key.planStepCount, 1), (Key.planStep 0, 256 * typ + 5), (Key.trialS, 1), (Key.prepareLeadS, 1), (Key.drainTimeoutS, 1)]
    fun d => f (upd (fun u => { u with run := r }) d)

def dis (f : Display → Display) (d : Dev) : Dev := { d with display := f d.display }

def wav : Bytes := List.replicate 1000 1

def frun : FrameRun := ⟨true, .blank, [(0, [5])], 1, [5], false, 0⟩

def srec : StepRec := ⟨0, 0xFF, 200, 0, 0, 5, 5, 0⟩

theorem frameLayers_same (p : Page) : frameLayers false p p = [] := by simp [frameLayers, rowsToUpdate]

/-! ### Witnesses: the premises of every statement can be met together -/

/-- The premises of StepRunsTheFront can be met together. -/
theorem witness_StepRunsTheFront :
    (∃ (c : Instr) (rest : List Instr) (s : State), s.pending = c :: rest) ∧
    (∃ (s : State), s.pending = []) :=
  ⟨⟨.dictionaryTick, [.mainRailsGood], { st with pending := [.dictionaryTick, .mainRailsGood] }, by decide +kernel⟩,
   ⟨st, by decide +kernel⟩⟩

/-- The premises of EveryStepKeepsTheMemories can be met together. -/
theorem witness_EveryStepKeepsTheMemories :
    (∃ (s : State) (c : Instr) (rest : List Instr), s.mem.wf = true ∧ s.pending = c :: rest ∧ c.wellFormed = true) :=
  ⟨{ st with pending := [.fabricWrite 3 .mram 0x4500000 [5]] }, .fabricWrite 3 .mram 0x4500000 [5], [], by decide +kernel⟩

/-- What a premise of MramWritersAreEnforced says. -/
abbrev mramWritersAreEnforced_writer (d : Dev) (tag addr : Nat) : Prop :=
    if addr ≤ 0x00FFFFF then tag = 0x03 ∧ d.lifecycle ≠ 3 ∧ d.heart.lockLatch = false
    else if addr ≤ 0x30FFFFF then tag = 0x06
    else if addr ≤ 0x44FFFFF then tag = 0x12
    else if addr ≤ 0x96FFFFF then tag = 0x03
    else if addr ≤ 0x9CFFFFF then tag ∈ [0x01, 0x02, 0x03, 0x04, 0x05, 0x06, 0x08, 0x09, 0x0A, 0x0B, 0x0C, 0x0D]
    else if addr ≤ 0x9EFFFFF then tag = 0x0C
    else if addr ≤ 0xA2FFFFF then tag = if d.activeB then 0x02 else 0x01
    else False

/-- The premises of MramWritersAreEnforced can be met together. -/
theorem witness_MramWritersAreEnforced :
    (∃ (s : State) (tag : BitVec 5) (addr : Nat) (words : List Word), s.dev.powered = true ∧ 1 ≤ words.length ∧ words.length ≤ 8 ∧ (¬ (mramWritersAreEnforced_writer s.dev tag.toNat addr ∧ mramWritersAreEnforced_writer s.dev tag.toNat (addr + 4 * words.length - 1)))) ∧
    (∃ (s : State) (addr : Nat) (words : List Word), s.dev.powered = true ∧ 1 ≤ words.length ∧ words.length ≤ 8 ∧ (∃ k, k < 4 * words.length ∧ mramPartition (addr + k) = 6 ∧ (s.dev.storeByte .mram (addr + k) ≠ none ∨ s.mem.read (flat .mram (addr + k)) ≠ Memory.unlisted))) ∧
    (∃ (s : State) (addr : Nat) (words : Nat), s.dev.powered = true ∧ 1 ≤ words ∧ words ≤ 8 ∧ 0xA300000 ≤ addr) ∧
    (∃ (s : State) (tag : BitVec 5) (addr : Nat) (words : List Word), s.dev.powered = true ∧ s.dev.rail .vddMem = true ∧ 1 ≤ words.length ∧ words.length ≤ 8 ∧ mramWritersAreEnforced_writer s.dev tag.toNat addr ∧ mramWritersAreEnforced_writer s.dev tag.toNat (addr + 4 * words.length - 1) ∧ (∀ k, k < 4 * words.length → mramPartition (addr + k) = 6 → s.dev.storeByte .mram (addr + k) = none ∧ s.mem.read (flat .mram (addr + k)) = Memory.unlisted)) :=
  ⟨⟨st, 3, 0x2000000, [5], by decide +kernel⟩,
   ⟨{ st with mem := [(flat .mram 0x9700000, 5)] }, 0x9700000, [5], by decide +kernel⟩,
   ⟨st, 0xA300000, 8, by decide +kernel⟩,
   ⟨st, 6, 0x2000000, [5], by decide +kernel⟩⟩

/-- What a premise of SequencesAreTakenOnce says. -/
abbrev sequencesAreTakenOnce_listens (d : Dev) (m : HostMsg) : Prop := d.sequencerUp = true ∧ d.ifaceUp m.iface = true ∧ (d.slot m.slot).registered = true ∧
    d.allowed m.slot m.iface = true ∧ m.micOk = true

/-- What a premise of SequencesAreTakenOnce says. -/
abbrev sequencesAreTakenOnce_inWindow (h : HostSlot) (n : Nat) : Prop := n < h.high ∧ h.high ≤ n + 32

/-- What a premise of SequencesAreTakenOnce says. -/
abbrev sequencesAreTakenOnce_seen (h : HostSlot) (n : Nat) : Bool := h.seen.testBit (h.high - 1 - n)

/-- The premises of SequencesAreTakenOnce can be met together. -/
theorem witness_SequencesAreTakenOnce :
    (∃ (s : State) (m : HostMsg), sequencesAreTakenOnce_listens s.dev m ∧ ((m.seq.toNat) = (s.dev.slot m.slot).high ∨ (m.seq.toNat) + 32 < (s.dev.slot m.slot).high ∨ (sequencesAreTakenOnce_inWindow (s.dev.slot m.slot) (m.seq.toNat) ∧ sequencesAreTakenOnce_seen (s.dev.slot m.slot) (m.seq.toNat) = true))) ∧
    (∃ (s : State) (m : HostMsg), sequencesAreTakenOnce_listens s.dev m ∧ m.seq.toNat < 0xFFFFFF00 ∧ (s.dev.slot m.slot).high < m.seq.toNat) ∧
    (∃ (s : State) (m : HostMsg), sequencesAreTakenOnce_listens s.dev m ∧ m.seq.toNat < 0xFFFFFF00 ∧ sequencesAreTakenOnce_inWindow (s.dev.slot m.slot) m.seq.toNat ∧ sequencesAreTakenOnce_seen (s.dev.slot m.slot) m.seq.toNat = false) ∧
    (∃ (s : State) (m : HostMsg) (o : ObjRef), sequencesAreTakenOnce_listens s.dev m ∧ (s.dev.slot m.slot).high < m.seq.toNat ∧ 0xFFFFFF00 ≤ m.seq.toNat ∧ (s.dev.slot m.slot).unanswered < 8 ∧ (s.dev.slot m.slot).endAfter = none ∧ s.dev.readCodes (keyOfObj o) 1 false = [] ∧ Dev.isDomain (keyOfObj o) = false ∧ (¬ (0x8300 ≤ keyOfObj o / 256 ∧ keyOfObj o / 256 ≤ 0x830F)) ∧ 6 + (s.seen.wire (keyOfObj o)).length ≤ bodyLimit m.iface) :=
  ⟨⟨dev fun d => d.setSlot 2 fun h => { h with high := 40, seen := 1 }, msg 2 39, by decide +kernel⟩,
   ⟨dev fun d => d.setSlot 2 fun h => { h with high := 40, seen := 1 }, msg 2 41, by decide +kernel⟩,
   ⟨dev fun d => d.setSlot 2 fun h => { h with high := 40, seen := 1 }, msg 2 8, by decide +kernel⟩,
   ⟨st, msg 2 0xFFFFFF00, ⟨0x1000, 7⟩, by decide +kernel⟩⟩

/-- What a premise of UsedTokensStayRefused says. -/
abbrev usedTokensStayRefused_known (d : Dev) : Prop := ∀ x ∈ d.ledger.memory, ∀ y ∈ d.findNumber x.1, x.2.1 ≤ (d.tokenWord y.1).1

/-- The premises of UsedTokensStayRefused can be met together. -/
theorem witness_UsedTokensStayRefused :
    (∃ (d : Dev) (slot : Nat) (account : Nat) (r : Account), usedTokensStayRefused_known d ∧ d.findNumber account = some (slot, r)) ∧
    (∃ (d : Dev) (slot : Nat) (account : Nat) (r : Account) (k : Nat) (a : Nat) (x : Account) (n : Nat), usedTokensStayRefused_known d ∧ d.findNumber account = some (slot, r) ∧ d.findNumber a = some (k, x) ∧ d.tidOk k a n = false) ∧
    (∃ (d : Dev) (slot : Nat) (account : Nat) (r : Account), usedTokensStayRefused_known d ∧ d.findNumber account = some (slot, r) ∧ d.ledger.memory.length ≤ 64) :=
  ⟨⟨{ base with ledger := { base.ledger with accounts := [(0, acc)], tokens := [(0, 100, 1)], memory := [(7, 90, 1)] } }, 0, 7, acc, by decide +kernel⟩,
   ⟨{ base with ledger := { base.ledger with accounts := [(0, acc)], tokens := [(0, 100, 1)], memory := [(7, 90, 1)] } }, 0, 7, acc, 0, 7, acc, 90, by decide +kernel⟩,
   ⟨{ base with ledger := { base.ledger with accounts := [(0, acc)], tokens := [(0, 100, 1)], memory := [(7, 90, 1)] } }, 0, 7, acc, by decide +kernel⟩⟩

/-- The premises of RefusedTransactionsChangeNothingAtTheTarget can be met together. -/
theorem witness_RefusedTransactionsChangeNothingAtTheTarget :
    (∃ (s : State) (tag : BitVec 5) (r : Region) (addr : Nat) (words : Nat), s.dev.powered = true ∧ 1 ≤ words ∧ words ≤ 8 ∧ (∀ i ∈ tagUsed s.dev tag, regionSize r < addr + 4 * words ∨ mayRead s.dev i r addr (4 * words) = false)) ∧
    (∃ (s : State) (tag : BitVec 5) (r : Region) (addr : Nat) (words : List Word), s.dev.powered = true ∧ 1 ≤ words.length ∧ words.length ≤ 8 ∧ (∀ i ∈ tagUsed s.dev tag,       regionSize r < addr + 4 * words.length ∨ mayWrite s.dev s.mem i r addr (4 * words.length) = false)) ∧
    (∃ (s : State) (tag : BitVec 5) (i : Initiator) (addr : Nat) (words : List Word), s.dev.powered = true ∧ 1 ≤ words.length ∧ words.length ≤ 8 ∧ tagUsed s.dev tag = some i ∧ (∃ n, n < 8 ∧ addr / 4 ≤ n ∧ n < addr / 4 + words.length ∧ pilotWordOk i (((s.dev.crossings[(0x36 : Fin 58)].entries.head?).getD []).getD n 0) (words.getD (n - addr / 4) 0) = false)) ∧
    (∃ (s : State) (tag : BitVec 5) (b : Bytes), s.dev.powered = true ∧ b.length ≤ 64 ∧ (tagUsed s.dev tag = none ∨ tagUsed s.dev tag = some .debug)) :=
  ⟨⟨st, 1, .burlLocal, 0, 8, by decide +kernel⟩,
   ⟨st, 1, .mram, 0, [1], by decide +kernel⟩,
   ⟨st, 8, .core .pe0, 0, [1], by decide +kernel⟩,
   ⟨st, 0x1E, [], by decide +kernel⟩⟩

/-- What a premise of GrantedTransactionsReachMemory says. -/
abbrev grantedTransactionsReachMemory_memory (r : Region) : Prop := (∀ c, r ≠ .crossing c) ∧ (∀ n, r ≠ .timerChannel n) ∧ ∀ c, r ≠ .mailbox c

/-- The premises of GrantedTransactionsReachMemory can be met together. -/
theorem witness_GrantedTransactionsReachMemory :
    (∃ (s : State) (tag : BitVec 5) (i : Initiator) (r : Region) (addr : Nat) (words : List Word), s.dev.powered = true ∧ 1 ≤ words.length ∧ words.length ≤ 8 ∧ tagUsed s.dev tag = some i ∧ addr + 4 * words.length ≤ regionSize r ∧ mayWrite s.dev s.mem i r addr (4 * words.length) = true ∧ s.dev.logHolds r addr (4 * words.length) = false ∧ grantedTransactionsReachMemory_memory r ∧ s.dev.rail .vddMem = true ∧ s.mem.wf = true) ∧
    (∃ (s : State) (tag : BitVec 5) (i : Initiator) (r : Region) (addr : Nat) (words : Nat), s.dev.powered = true ∧ 1 ≤ words ∧ words ≤ 8 ∧ tagUsed s.dev tag = some i ∧ addr + 4 * words ≤ regionSize r ∧ mayRead s.dev i r addr (4 * words) = true ∧ grantedTransactionsReachMemory_memory r ∧ s.dev.rail .vddMem = true) ∧
    (∃ (s : State) (tag : BitVec 5) (c : CoreId) (words : Nat) (msg : Mail) (rest : List Mail), s.dev.powered = true ∧ 1 ≤ words ∧ words ≤ 8 ∧ tagUsed s.dev tag = some (.core c) ∧ s.dev.mail[coreNum c] = msg :: rest) ∧
    (∃ (s : State) (tag : BitVec 5) (i : Initiator) (r : Region) (addr : Nat) (words : Nat), s.dev.powered = true ∧ 1 ≤ words ∧ words ≤ 8 ∧ tagUsed s.dev tag = some i ∧ addr + 4 * words ≤ regionSize r ∧ mayRead s.dev i r addr (4 * words) = true) :=
  ⟨⟨st, 3, .core .heartwood, .heartwoodLocal, 0, [1, 2], by decide +kernel, by decide +kernel, by decide +kernel, by decide +kernel, by decide +kernel, by decide +kernel, by decide +kernel, ⟨(fun c => by simp), (fun c => by simp), (fun c => by simp)⟩, by decide +kernel, by decide +kernel⟩,
   ⟨st, 3, .core .heartwood, .heartwoodLocal, 0, 2, by decide +kernel, by decide +kernel, by decide +kernel, by decide +kernel, by decide +kernel, by decide +kernel, ⟨(fun c => by simp), (fun c => by simp), (fun c => by simp)⟩, by decide +kernel⟩,
   ⟨dev fun d => { d with mail := d.mail.set (coreNum .burl) [⟨3, [1, 2, 3, 4, 5]⟩] }, 6, .burl, 8, ⟨3, [1, 2, 3, 4, 5]⟩, [], by decide +kernel⟩,
   ⟨st, 3, .core .heartwood, .heartwoodLocal, 0, 8, by decide +kernel⟩⟩

/-- The premises of CrossingsTimersAndPostsTakeTransactions can be met together. -/
theorem witness_CrossingsTimersAndPostsTakeTransactions :
    (∃ (s : State) (tag : BitVec 5) (i : Initiator) (c : Fin 58) (words : List Word), s.dev.powered = true ∧ 1 ≤ words.length ∧ words.length ≤ 8 ∧ tagUsed s.dev tag = some i ∧ mayWrite s.dev s.mem i (.crossing c) 0 (4 * words.length) = true ∧ xKind c = .queue ∧ s.dev.crossings[c].state = .running ∧ s.dev.crossings[c].stalled = []) ∧
    (∃ (s : State) (tag : BitVec 5) (k : CoreId) (words : List Word), s.dev.powered = true ∧ 1 ≤ words.length ∧ words.length ≤ 2 ∧ tagUsed s.dev tag = some (.core k) ∧ k ≠ .firebreakB) ∧
    (∃ (s : State) (tag : BitVec 5) (i : Initiator) (b : Bytes), s.dev.powered = true ∧ b.length ≤ 64 ∧ tagUsed s.dev tag = some i ∧ i ≠ .debug) :=
  ⟨⟨st, 8, .core .pe0, 0x22, [1], by decide +kernel⟩,
   ⟨st, 1, .sapwoodA, [1, 2], by decide +kernel⟩,
   ⟨st, 1, .core .sapwoodA, [1], by decide +kernel⟩⟩

/-- The premises of IslandsKeepTime can be met together. -/
theorem witness_IslandsKeepTime :
    (∃ (s : State), s.dev.powered = true ∧ s.dev.clocks.ref16Lost = false) ∧
    (∃ (s : State), s.dev.powered = true ∧ s.dev.clocks.xt32Lost = false) ∧
    (∃ (s : State), s.dev.powered = false ∧ s.dev.power.state ≠ .off ∧ s.dev.clocks.xt32Lost = false) ∧
    (∃ (s : State) (n : Fin 64) (at_ : Nat) (core : CoreId), s.dev.powered = true ∧ s.dev.time.timers[n] = some (at_, core) ∧ at_ ≤ s.dev.time.fabric) :=
  ⟨⟨st, by decide +kernel⟩,
   ⟨st, by decide +kernel⟩,
   ⟨dev (pow fun p => { p with state := .vbatSleep }), by decide +kernel⟩,
   ⟨dev fun d => { d with time := { d.time with timers := d.time.timers.set 63 (some (0, .pe0)) } }, 63, 0, .pe0, by decide +kernel⟩⟩

/-- The premises of CrossingsResetResyncAndClear can be met together. -/
theorem witness_CrossingsResetResyncAndClear :
    (∃ (s : State), s.dev.powered = true) ∧
    (∃ (s : State) (c : Fin 58), s.dev.powered = true ∧ s.dev.crossings[c].state ≠ .clockLost ∧ s.dev.crossings[c].state ≠ .running ∧ s.dev.crossings[c].stalled = []) ∧
    (∃ (s : State) (m : HostMsg) (data : Bytes), s.dev.grants m = true ∧ takes Key.xingClearCounters data = true) :=
  ⟨⟨st, by decide +kernel⟩,
   ⟨dev fun d => d.setCrossing 5 fun x => { x with state := .resync }, 5, by decide +kernel⟩,
   ⟨st, hm, [1], by decide +kernel⟩⟩

/-- What a premise of ClocksAreLostCheckedAndRecovered says. -/
abbrev clocksAreLostCheckedAndRecovered_lost (c : ClockId) (d : Dev) : Bool := match c with
    | .ref16 => d.clocks.ref16Lost | .ref25 => d.clocks.ref25Lost | .xt32 => d.clocks.xt32Lost | .i7 => d.clocks.i7Lost
    | .i8 => d.clocks.i8Lost

/-- The premises of ClocksAreLostCheckedAndRecovered can be met together. -/
theorem witness_ClocksAreLostCheckedAndRecovered :
    (∃ (s : State) (c : ClockId), s.dev.powered = true ∧ s.dev.power.shutdownStep < 5 ∧ clocksAreLostCheckedAndRecovered_lost c s.dev = false ∧ (if c = .i7 then s.dev.clocks.ref16Lost else s.dev.clocks.i7Lost) = false) ∧
    (∃ (s : State) (c : ClockId), s.dev.powered = true ∧ clocksAreLostCheckedAndRecovered_lost c s.dev = true ∧ (c = .i7 → s.dev.clocks.i7Passed = true ∧ s.dev.rail .vddSafe = true)) ∧
    (∃ (s : State), s.dev.powered = true ∧ s.dev.power.shutdownStep < 5 ∧ s.dev.clocks.ref16Lost = false) :=
  ⟨⟨st, .ref16, by decide +kernel⟩,
   ⟨dev fun d => { d with clocks := { d.clocks with xt32Lost := true } }, .xt32, by decide +kernel⟩,
   ⟨st, by decide +kernel⟩⟩

/-- The premises of AccountRequestsKeepAndMoveBalances can be met together. -/
theorem witness_AccountRequestsKeepAndMoveBalances :
    (∃ (s : State) (tag : BitVec 5) (f : AccountFields) (b : Option Int), s.dev.ledgerUp = true ∧ initiator tag = some (.core s.dev.activeSapwood) ∧ s.dev.recordFault f = none ∧ f.status ≠ 0 ∧ (∀ x ∈ b, x = (s.dev.findNumber f.number).elim 0 (·.2.balance))) ∧
    (∃ (s : State) (tag : BitVec 5) (f : AccountFields) (b : Int), s.dev.powered = true ∧ initiator tag = some (.core s.dev.activeSapwood) ∧ b ≠ (s.dev.findNumber f.number).elim 0 (·.2.balance)) ∧
    (∃ (s : State) (m : HostMsg) (data : Bytes) (b : Bytes), s.dev.grants m = true ∧ takes Key.writeRecord data = true ∧ sentValue Key.writeRecord data = .bytes b ∧ writeRecordFault b = none ∧ s.dev.ledgerUp = true ∧ s.dev.recordFault (fieldsOf b) = none ∧ (fieldsOf b).status ≠ 0) ∧
    (∃ (s : State) (tag : BitVec 5) (account : Nat) (slot : Nat) (reason : Nat) (amount : Int) (tid : Option Nat) (a : Account), s.dev.balancesMove = true ∧ initiator tag = some (.core .heartwood) ∧ s.dev.findNumber account = some (slot, a) ∧ s.dev.acct slot = some a ∧ a.sound = true ∧ (carriesTid reason = true → ∀ x ∈ tid, s.dev.tidOk slot account x = true) ∧ a.status ≠ 0 ∧ -(2 ^ 63 : Int) ≤ a.balance + amount ∧ a.balance + amount < 2 ^ 63) ∧
    (∃ (s : State) (tag : BitVec 5) (account : Nat) (slot : Nat) (a : Account), s.dev.balancesMove = true ∧ initiator tag = some (.core .heartwood) ∧ s.dev.findNumber account = some (slot, a) ∧ s.dev.acct slot = some a ∧ a.sound = false) :=
  ⟨⟨st, 1, ⟨8, 0, [], [], 0, 0, 0xFF, 1, 1, 1, 0, 0⟩, some 0, by decide +kernel⟩,
   ⟨st, 1, ⟨8, 0, [], [], 0, 0, 0xFF, 1, 1, 1, 0, 0⟩, 1, by decide +kernel⟩,
   ⟨st, hm, leBytes 8 8 ++ leBytes 8 0 ++ leBytes 8 0 ++ List.replicate 20 0 ++ leBytes 4 0 ++ [0, 0xFF, 1, 1, 1, 0] ++ leBytes 4 0 ++ List.replicate 6 0, leBytes 8 8 ++ leBytes 8 0 ++ leBytes 8 0 ++ List.replicate 20 0 ++ leBytes 4 0 ++ [0, 0xFF, 1, 1, 1, 0] ++ leBytes 4 0 ++ List.replicate 6 0, by decide +kernel⟩,
   ⟨dev fun d => { d with ledger := { d.ledger with accounts := [(0, acc)] } }, 3, 7, 0, 1, -(5000000 : Int), none, acc, by decide +kernel⟩,
   ⟨dev fun d => { d with ledger := { d.ledger with accounts := [(0, { acc with check := acc.check + 1 })] } }, 3, 7, 0, { acc with check := acc.check + 1 }, by decide +kernel⟩⟩

/-- The premises of FailedCoresRestart can be met together. -/
theorem witness_FailedCoresRestart :
    (∃ (s : State) (c : CoreId), s.dev.powered = true ∧ s.dev.running c = true ∧ s.dev.update.run = none) ∧
    (∃ (s : State) (c : CoreId) (cause : Nat), s.dev.powered = true ∧ s.dev.cores[coreNum c] = .restarting cause ∧ Dev.planAwaits s.dev c = false ∧ (Dev.imageTypeOf c ≠ none → s.dev.burlUp = true)) :=
  ⟨⟨st, .heartwood, by decide +kernel⟩,
   ⟨dev fun d => d.setCore .pe1 (.restarting 1), .pe1, 1, by decide +kernel⟩⟩

/-- The premises of TicksApplyWritesAndTheJournalStoresThem can be met together. -/
theorem witness_TicksApplyWritesAndTheJournalStoresThem :
    (∃ (s : State), s.dev.powered = true) ∧
    (∃ (d : Dev) (a : Ack) (k : Nat) (v : Val) (r : Row), d.dict.items = [.write a k v] ∧ rowOf k = some r ∧ r.vol = false ∧ k ≠ Key.allocatorFlags) ∧
    (∃ (s : State) (j : JournalEntry) (r : List JournalEntry) (a : Ack) (k : Nat) (v : Val), s.dev.sequencerUp = true ∧ s.dev.rail .vddMem = true ∧ s.dev.dict.journal = j :: r ∧ j.items = [(k, v)] ∧ j.ack = some a ∧ (s.dev.slot a.slot).registered = true ∧ (s.dev.slot a.slot).session = a.session ∧ s.dev.ifaceUp a.iface = true) ∧
    (∃ (s : State) (j : JournalEntry) (r : List JournalEntry) (a : Ack), s.dev.sequencerUp = true ∧ s.dev.dict.journal = j :: r ∧ j.ack = some a ∧ (s.dev.slot a.slot).registered = true ∧ (s.dev.slot a.slot).session = a.session ∧ s.dev.ifaceUp a.iface = true) :=
  ⟨⟨st, by decide +kernel⟩,
   ⟨{ base with dict := { base.dict with items := [.write ack1 (Key.currentLimit 3) (.int 320)] } }, ack1, Key.currentLimit 3, .int 320, row (Key.currentLimit 3), by decide +kernel⟩,
   ⟨dev fun d => { d with dict := { d.dict with journal := [⟨[(Key.currentLimit 3, .int 320)], 10, 0, 0, some ack1⟩] } }, ⟨[(Key.currentLimit 3, .int 320)], 10, 0, 0, some ack1⟩, [], ack1, Key.currentLimit 3, .int 320, by decide +kernel⟩,
   ⟨dev fun d => { d with dict := { d.dict with journal := [⟨[(Key.currentLimit 3, .int 320)], 10, 0, 0, some ack1⟩] } }, ⟨[(Key.currentLimit 3, .int 320)], 10, 0, 0, some ack1⟩, [], ack1, by decide +kernel⟩⟩

/-- The premises of GroupsAreStagedCommittedAndDiscarded can be met together. -/
theorem witness_GroupsAreStagedCommittedAndDiscarded :
    (∃ (s : State) (m : HostMsg) (g : Fin 64) (data : Bytes), s.dev.grants m = true ∧ takes (Key.groupCommit g) data = true ∧ ((s.dev.group g).phase = .empty ∨ (s.dev.group g).phase = .committing) ∧ s.dev.groupLocked g = false) ∧
    (∃ (s : State) (m : HostMsg) (g : Fin 64) (data : Bytes), s.dev.grants m = true ∧ takes (Key.groupCommit g) data = true ∧ (s.dev.group g).phase = .staging ∧ (s.dev.admitted m).commitFault g = none ∧ s.dev.storeBusy (bytesOfStore (s.dev.group g).shadow) = false) ∧
    (∃ (s : State) (m : HostMsg) (g : Fin 64) (data : Bytes) (k : Nat), s.dev.grants m = true ∧ takes (Key.groupCommit g) data = true ∧ (s.dev.group g).phase = .staging ∧ (s.dev.admitted m).commitFault g = some (Code.groupInvalid, k) ∧ s.dev.storeBusy (bytesOfStore (s.dev.group g).shadow) = false) ∧
    (∃ (s : State) (m : HostMsg) (g : Fin 64) (data : Bytes), s.dev.grants m = true ∧ takes (Key.groupDiscard g) data = true ∧ (s.dev.group g).phase = .staging) ∧
    (∃ (s : State) (g : Fin 64), s.dev.sequencerUp = true ∧ (s.dev.group g).phase = .staging ∧ (s.dev.group g).sinceMs + 60000 ≤ s.dev.nowMs) ∧
    (∃ (s : State) (m : HostMsg) (o : ObjRef) (g : Fin 64) (r : Row) (data : Bytes), s.dev.grants m = true ∧ takes (keyOfObj o) data = true ∧ lookup (keyOfObj o) = .ok r ∧ r.acc = .rws ∧ groupOf (keyOfObj o) = some g.val ∧ s.dev.stageCodes g (keyOfObj o) (sentValue (keyOfObj o) data) = [] ∧ commitOf (keyOfObj o) = none ∧ 8 + data.length ≤ bodyLimit m.iface) :=
  ⟨⟨st, hm, 7, [1], by decide +kernel⟩,
   ⟨dev fun d => late 60000 (d.setGroup 7 fun _ => ⟨.staging, [(Key.margin, .int 20)], 0, 0⟩), hm, 7, [1], by decide +kernel⟩,
   ⟨dev fun d => d.setGroup 15 fun _ => ⟨.staging, [(Key.authModes 7, .int 0)], 0, 0⟩, hm, 15, [1], Key.authModes 7, by decide +kernel⟩,
   ⟨dev fun d => late 60000 (d.setGroup 7 fun _ => ⟨.staging, [(Key.margin, .int 20)], 0, 0⟩), hm, 7, [1], by decide +kernel⟩,
   ⟨dev fun d => late 60000 (d.setGroup 7 fun _ => ⟨.staging, [(Key.margin, .int 20)], 0, 0⟩), 7, by decide +kernel⟩,
   ⟨st, hm, ⟨0x2080, 5⟩, 7, row Key.margin, [200, 0], by decide +kernel⟩⟩

/-- The premises of ObjectsAreReadWrittenAndPublished can be met together. -/
theorem witness_ObjectsAreReadWrittenAndPublished :
    (∃ (s : State) (m : HostMsg) (o : ObjRef), s.dev.hears m = true ∧ s.dev.readCodes (keyOfObj o) 1 false = [] ∧ Dev.isDomain (keyOfObj o) = false ∧ (¬ (0x8300 ≤ keyOfObj o / 256 ∧ keyOfObj o / 256 ≤ 0x830F)) ∧ 6 + (s.seen.wire (keyOfObj o)).length ≤ bodyLimit m.iface) ∧
    (∃ (s : State) (m : HostMsg) (o : ObjRef) (g : Nat) (v : Val) (r : Row), s.dev.hears m = true ∧ s.dev.readCodes (keyOfObj o) 1 false = [] ∧ Dev.isDomain (keyOfObj o) = false ∧ (¬ (0x8300 ≤ keyOfObj o / 256 ∧ keyOfObj o / 256 ≤ 0x830F)) ∧ groupOf (keyOfObj o) = some g ∧ (s.seen.group g).shadow.find (keyOfObj o) = some v ∧ lookup (keyOfObj o) = .ok r ∧ 6 + (r.ty.encode v).length ≤ bodyLimit m.iface) ∧
    (∃ (s : State) (m : HostMsg) (o : ObjRef) (r : Row) (data : Bytes), s.dev.grants m = true ∧ takes (keyOfObj o) data = true ∧ lookup (keyOfObj o) = .ok r ∧ r.acc = .rw ∧ (r.vol = true ∨ s.dev.storeBusy data.length = false) ∧ commitOf (keyOfObj o) = none ∧ 8 + data.length ≤ bodyLimit m.iface) ∧
    (∃ (s : State) (m : HostMsg) (o : ObjRef) (data : Bytes), s.dev.hears m = true ∧ s.dev.ownerNext ≠ some m.slot ∧ stopClass (keyOfObj o) = false ∧ 8 + data.length ≤ bodyLimit m.iface) ∧
    (∃ (s : State) (n : Fin 16) (x : SlotId), s.dev.sequencerUp = true ∧ s.dev.listDue n (s.seen.publishBytes n) = true ∧ s.dev.listSlot n = some x ∧ (s.dev.dict.lists[n]).waiting = none ∧ s.dev.ifaceUp (s.dev.slot x).lastIface = true ∧ 4 + (s.seen.publishBytes n).length ≤ bodyLimit (s.dev.slot x).lastIface) ∧
    (∃ (s : State) (n : Fin 16), s.dev.sequencerUp = true ∧ s.dev.listDue n (s.seen.publishBytes n) = true ∧ s.dev.listSlot n = none) :=
  ⟨⟨st, hm, ⟨0x1000, 1⟩, by decide +kernel⟩,
   ⟨dev fun d => late 60000 (d.setGroup 7 fun _ => ⟨.staging, [(Key.margin, .int 20)], 0, 0⟩), hm, ⟨0x2080, 5⟩, 7, .int 20, row Key.margin, by decide +kernel⟩,
   ⟨st, hm, ⟨0x2720, 4⟩, row (Key.currentLimit 7), [0x88, 0x13], by decide +kernel⟩,
   ⟨st, msg 3 7, ⟨0x2720, 4⟩, [0, 0], by decide +kernel⟩,
   ⟨set [(Key.listDestination 15, 15), (Key.entryCount 15, 1), (Key.listTrigger 15, 0)], 15, 15, by decide +kernel⟩,
   ⟨set [(Key.listTrigger 15, 0)], 15, by decide +kernel⟩⟩

/-- The premises of PowerStatesFollowTheRails can be met together. -/
theorem witness_PowerStatesFollowTheRails :
    (∃ (s : State), (s.dev.power.state = .off ∨ s.dev.power.state = .vbatSleep ∨ (s.dev.power.state = .shutdown ∧ s.dev.power.shutdownStep = 5 ∧ s.dev.power.railLeft = true)) ∧ s.dev.power.tripped = none) ∧
    (∃ (s : State), s.dev.powered = false) ∧
    (∃ (s : State), s.dev.power.state = .shutdown ∧ s.dev.power.shutdownStep = 5 ∧ s.dev.power.pfw = true) ∧
    (∃ (s : State) (us : Nat), 10 ≤ us ∧ (s.dev.powered = false ∨ s.dev.power.state = .shutdown)) :=
  ⟨⟨dev (pow fun p => { p with state := .vbatSleep }), by decide +kernel⟩,
   ⟨dev (pow fun p => { p with state := .off }), by decide +kernel⟩,
   ⟨dev (pow fun p => { p with state := .shutdown, shutdownStep := 5, pfw := true }), by decide +kernel⟩,
   ⟨dev (pow fun p => { p with state := .off }), 10, by decide +kernel⟩⟩

/-- The premises of PowerFailureBeginsTheFinalCommit can be met together. -/
theorem witness_PowerFailureBeginsTheFinalCommit :
    (∃ (s : State), s.dev.powered = true ∧ s.dev.power.state ≠ .shutdown ∧ s.dev.running .heartwood = true ∧ s.dev.metro.running = true ∧ s.dev.energy.lost = false) ∧
    (∃ (s : State) (us : Nat), 10 ≤ us ∧ s.dev.powered = true ∧ s.dev.power.state ≠ .shutdown ∧ s.dev.running .heartwood = true ∧ s.dev.metro.running = true ∧ s.dev.energy.lost = false) ∧
    (∃ (s : State), s.dev.power.state = .shutdown) ∧
    (∃ (s : State) (c : CommitRun), s.dev.power.state = .shutdown ∧ s.dev.power.shutdownStep = 3 ∧ s.dev.energy.commit = some c) :=
  ⟨⟨st, by decide +kernel⟩,
   ⟨st, 10, by decide +kernel⟩,
   ⟨dev (pow fun p => { p with state := .shutdown }), by decide +kernel⟩,
   ⟨dev fun d => pow (fun p => { p with state := .shutdown, shutdownStep := 3 }) { d with energy := { d.energy with commit := some sr1 } }, sr1, by decide +kernel⟩⟩

/-- The premises of ResetsKeepOnlyWhatIsStored can be met together. -/
theorem witness_ResetsKeepOnlyWhatIsStored :
    (∃ (s : State) (r : Rail), (r = .vddCore ∨ r = .vddIo) ∧ s.dev.powered = true ∧ s.dev.rail r = true) :=
  ⟨st, .vddIo, by decide +kernel⟩

/-- The premises of RailsStopAndReturnTheirUnits can be met together. -/
theorem witness_RailsStopAndReturnTheirUnits :
    (∃ (s : State), s.dev.rail .vbat = true) ∧
    (∃ (s : State), s.dev.powered = true ∧ s.dev.rail .vddIo18 = true) ∧
    (∃ (s : State), s.dev.powered = true ∧ s.dev.rail .vddSafe = true ∧ s.dev.clocks.i7Lost = false) ∧
    (∃ (s : State), s.dev.powered = true ∧ s.dev.rail .vddAfe = true ∧ s.dev.metro.lost = false) ∧
    (∃ (s : State), s.dev.powered = true ∧ s.dev.rail .vddPlc = true) ∧
    (∃ (s : State) (r : Rail), (r = .vhvIn ∨ r = .vddMem) ∧ s.dev.powered = true ∧ s.dev.rail r = true) ∧
    (∃ (s : State) (r : Rail), s.dev.rail r = false ∧ s.dev.powered = true) :=
  ⟨⟨st, by decide +kernel⟩,
   ⟨st, by decide +kernel⟩,
   ⟨st, by decide +kernel⟩,
   ⟨st, by decide +kernel⟩,
   ⟨st, by decide +kernel⟩,
   ⟨st, .vhvIn, by decide +kernel⟩,
   ⟨dev (pow fun p => { p with railGood := p.railGood.set (railNum .vddAfe) false }), .vddAfe, by decide +kernel⟩⟩

/-- The premises of TheStartEndsInServiceAndSleepNotesAlarms can be met together. -/
theorem witness_TheStartEndsInServiceAndSleepNotesAlarms :
    (∃ (s : State), s.dev.power.state = .starting ∧ s.dev.power.bootStep = 0) ∧
    (∃ (s : State), s.dev.power.state = .starting ∧ s.dev.power.bootStep = 10 ∧ s.dev.running .firebreakA = true ∧ s.dev.running .firebreakB = true ∧ s.dev.flag Key.holdActive = false ∧ s.dev.power.startAlarm = none ∧ ((s.dev.clocks.i6Cold = false ∧ s.dev.clocks.xt32Lost = false) ∨ s.dev.clocks.checked = true)) ∧
    (∃ (s : State) (source : Fin 8), source.val ≠ 0 ∧ (s.dev.power.state = .vbatSleep ∨ (s.dev.power.state = .shutdown ∧ 5 ≤ s.dev.power.shutdownStep)) ∧ (s.dev.nat Key.alarmNow).testBit source = false) ∧
    (∃ (d : Dev) (r : Ring), d.baseRing = some r) ∧
    (∃ (d : Dev) (r : Ring) (x : Ring), d.baseRing = some r ∧ x ∈ d.validRings) :=
  ⟨⟨dev (pow fun p => { p with state := .starting, bootStep := 0 }), by decide +kernel⟩,
   ⟨dev (pow fun p => { p with state := .starting, bootStep := 10 }), by decide +kernel⟩,
   ⟨dev (pow fun p => { p with state := .vbatSleep }), 7, by decide +kernel⟩,
   ⟨{ base with energy := { base.energy with slots := base.energy.slots.set 1 (some (true, ring1)) } }, ring1, by decide +kernel⟩,
   ⟨{ base with energy := { base.energy with slots := base.energy.slots.set 1 (some (true, ring1)) } }, ring1, ring1, by decide +kernel⟩⟩

/-- The premises of OwnershipMovesByMessagesAndTime can be met together. -/
theorem witness_OwnershipMovesByMessagesAndTime :
    (∃ (s : State) (m : HostMsg), s.dev.hears m = true ∧ s.dev.roleBlocked = none ∧ claimTaken s.dev m.slot = false) ∧
    (∃ (s : State) (m : HostMsg), s.dev.hears m = true ∧ s.dev.roleBlocked = none ∧ claimTaken s.dev m.slot = true) ∧
    (∃ (s : State) (m : HostMsg), s.dev.hears m = true ∧ s.dev.roleBlocked = none ∧ s.dev.ownerNext = some m.slot) ∧
    (∃ (s : State) (m : HostMsg) (x : SlotId) (b : Byte), s.dev.hears m = true ∧ s.dev.roleBlocked = none ∧ s.dev.ownerNext = some m.slot ∧ b.toNat = x.val ∧ (s.dev.slot x).registered = true ∧ s.dev.flag (Key.claimAllowed x) = true) ∧
    (∃ (s : State) (m : HostMsg), s.dev.hears m = true ∧ s.dev.roleBlocked = none ∧ s.dev.owner = some m.slot) ∧
    (∃ (s : State) (m : HostMsg), s.dev.hears m = true ∧ s.dev.roleBlocked = none ∧ s.dev.ownerNext ≠ some m.slot) ∧
    (∃ (s : State) (m : HostMsg), s.dev.hears m = true ∧ s.dev.roleBlocked = none ∧ s.dev.owner ≠ some m.slot) ∧
    (∃ (d : Dev), d.hosts.ownership = .none) ∧
    (∃ (d : Dev) (ends : Nat) (l : List Ack), d.hosts.ownership = .claimWindow ends l) ∧
    (∃ (d : Dev) (a : Ack), d.hosts.ownership = .owned a.slot) ∧
    (∃ (d : Dev) (a : Ack) (o : SlotId) (dl : Nat), d.hosts.ownership = .handover o a.slot dl ∧ o ≠ a.slot) ∧
    (∃ (d : Dev) (a : Ack) (o : SlotId) (dl : Nat) (g : Nat), d.hosts.ownership = .handover o a.slot dl ∧ o ≠ a.slot ∧ g < 64) ∧
    (∃ (d : Dev) (a : Ack), d.owner = some a.slot) ∧
    (∃ (d : Dev) (a : Ack) (g : Nat), d.owner = some a.slot ∧ g < 64) ∧
    (∃ (s : State) (ends : Nat) (claims : List Ack) (w : Ack), s.dev.hosts.ownership = .claimWindow ends claims ∧ ends ≤ s.dev.nowMs ∧ w ∈ claims ∧ (s.dev.slot w.slot).registered = true ∧ (∀ c ∈ claims, (s.dev.slot c.slot).registered = true → c.slot ≠ w.slot → s.dev.nat (Key.claimPriority w.slot) < s.dev.nat (Key.claimPriority c.slot) ∨ (s.dev.nat (Key.claimPriority w.slot) = s.dev.nat (Key.claimPriority c.slot) ∧ w.slot < c.slot))) ∧
    (∃ (s : State) (ends : Nat) (claims : List Ack), s.dev.hosts.ownership = .claimWindow ends claims ∧ ends ≤ s.dev.nowMs ∧ (∀ c ∈ claims, (s.dev.slot c.slot).registered = false)) ∧
    (∃ (s : State), s.dev.owner.isSome = true ∧ s.dev.hosts.lastHeartbeat + 1500 ≤ s.dev.nowMs) ∧
    (∃ (s : State) (o : SlotId) (x : SlotId) (dl : Nat), s.dev.hosts.ownership = .handover o x dl ∧ dl ≤ s.dev.nowMs) ∧
    (∃ (s : State), (s.dev.owner = none ∨ s.dev.nowMs < s.dev.hosts.lastHeartbeat + 1500)) :=
  ⟨⟨set [(Key.claimAllowed 2, 0)], hm, by decide +kernel⟩,
   ⟨dev (own .none), hm, by decide +kernel⟩,
   ⟨st, hm, by decide +kernel⟩,
   ⟨st, hm, 3, 3, by decide +kernel⟩,
   ⟨st, hm, by decide +kernel⟩,
   ⟨st, msg 3 7, by decide +kernel⟩,
   ⟨st, msg 3 7, by decide +kernel⟩,
   ⟨own .none base, by decide +kernel⟩,
   ⟨own (.claimWindow 201 [ack1]) base, 201, [ack1], by decide +kernel⟩,
   ⟨base, ack1, by decide +kernel⟩,
   ⟨own (.handover 2 3 201) base, { ack1 with slot := 3 }, 2, 201, by decide +kernel⟩,
   ⟨own (.handover 2 3 201) base, { ack1 with slot := 3 }, 2, 201, 0, by decide +kernel⟩,
   ⟨base, ack1, by decide +kernel⟩,
   ⟨base, ack1, 0, by decide +kernel⟩,
   ⟨dev fun d => late 201 (own (.claimWindow 201 [ack1, { ack1 with slot := 3 }]) d), 201, [ack1, { ack1 with slot := 3 }], ack1, by decide +kernel⟩,
   ⟨dev fun d => late 201 (own (.claimWindow 201 [ack1]) (d.setSlot 2 fun h => { h with registered := false })), 201, [ack1], by decide +kernel⟩,
   ⟨dev (late 1500), by decide +kernel⟩,
   ⟨dev fun d => late 201 (own (.handover 2 3 201) d), 2, 3, 201, by decide +kernel⟩,
   ⟨st, by decide +kernel⟩⟩

/-- The premises of RegistrationsBeginAndEnd can be met together. -/
theorem witness_RegistrationsBeginAndEnd :
    (∃ (s : State) (x : SlotId) (i : Iface) (host : Bytes) (own : Bytes), s.dev.sequencerUp = true ∧ s.dev.ifaceUp i = true ∧ s.dev.allowed x i = true ∧ s.dev.flag (Key.keyPresent x) = true ∧ (s.dev.slot x).refuseTill = none ∧ (s.dev.slot x).hello = none ∧ host.length = 16 ∧ (i ≠ .can5 ∨ (own ++ s.dev.bytes Key.serialNumber).length ≤ 44)) ∧
    (∃ (s : State) (m : HostMsg) (h : Hello) (k : KeyHalf) (keySlot : Fin 64), keySlot.val = 0x30 + m.slot.val ∧ (s.dev.slot m.slot).hello = some h ∧ s.dev.keyOf keySlot = some k ∧ s.dev.sequencerUp = true ∧ s.dev.ifaceUp m.iface = true ∧ s.dev.burlUp = true ∧ m.iface = h.iface ∧ s.dev.nowMs ≤ h.deadline ∧ m.seq.toNat = 1 ∧ m.micOk = true) ∧
    (∃ (s : State) (m : HostMsg) (h : Hello) (k : KeyHalf) (keySlot : Fin 64) (a : Bytes) (b : Bytes), keySlot.val = 0x30 + m.slot.val ∧ (s.dev.slot m.slot).hello = some h ∧ s.dev.keyOf keySlot = some k ∧ s.dev.sequencerUp = true ∧ s.dev.ifaceUp m.iface = true ∧ s.dev.burlUp = true ∧ m.iface = h.iface ∧ s.dev.nowMs ≤ h.deadline ∧ m.seq.toNat = 1 ∧ (m.micOk = false ∨ a ≠ h.hostNonce ∨ b ≠ h.ownNonce)) ∧
    (∃ (s : State) (x : SlotId) (h : Hello), (s.dev.slot x).hello = some h ∧ s.dev.sequencerUp = true ∧ h.deadline ≤ s.dev.nowMs) ∧
    (∃ (s : State) (x : SlotId) (n : Nat), (s.dev.slot x).refuseTill = some n ∧ n ≤ s.dev.nowMs) ∧
    (∃ (s : State) (x : SlotId), s.dev.sequencerUp = true ∧ (s.dev.slot x).registered = true ∧ (s.dev.slot x).lastValid + 1000 * s.dev.nat Key.registrationLapseS ≤ s.dev.nowMs) ∧
    (∃ (s : State) (m : HostMsg) (x : SlotId) (data : Bytes), s.dev.grants m = true ∧ takes (Key.deregister x) data = true) ∧
    (∃ (d : Dev) (a : Ack) (x : SlotId), (d.slot x).registered = true ∧ (d.slot a.slot).endAfter = none) ∧
    (∃ (d : Dev) (a : Ack) (x : SlotId) (q : SlotId), (d.slot x).registered = true ∧ (d.slot a.slot).endAfter = none ∧ q ≠ x ∧ q ≠ a.slot) :=
  ⟨⟨set [(Key.keyPresent 2, 1), (Key.eth1Enable, 1), (Key.allowedInterfaces 2, 7)], 2, .eth1, List.replicate 16 1, [1], by decide +kernel⟩,
   ⟨set [(Key.lifecycleState, 3)] fun d => slo (fun h => { h with hello := some hel }) (keyd 0x32 d), msg 2 1, hel, kh1, 0x32, by decide +kernel⟩,
   ⟨set [(Key.lifecycleState, 3)] fun d => slo (fun h => { h with hello := some hel }) (keyd 0x32 d), msg 2 1, hel, kh1, 0x32, [1], hel.ownNonce, by decide +kernel⟩,
   ⟨dev fun d => late 500 (slo (fun h => { h with hello := some hel }) d), 2, hel, by decide +kernel⟩,
   ⟨dev fun d => late 60000 (slo (fun h => { h with refuseTill := some 60000 }) d), 2, 60000, by decide +kernel⟩,
   ⟨dev (late 3600000), 2, by decide +kernel⟩,
   ⟨st, hm, 2, [1], by decide +kernel⟩,
   ⟨base, ack1, 2, by decide +kernel⟩,
   ⟨base, ack1, 2, 3, by decide +kernel⟩⟩

/-- What a premise of SegmentsCarryLongValues says. -/
abbrev segmentsCarryLongValues_current (d : Dev) (a : Ack) : Prop := (d.slot a.slot).registered = true ∧ (d.slot a.slot).session = a.session ∧ d.ifaceUp a.iface = true

/-- The premises of SegmentsCarryLongValues can be met together. -/
theorem witness_SegmentsCarryLongValues :
    (∃ (s : State) (m : HostMsg), s.dev.hears m = true) ∧
    (∃ (s : State), s.dev.sequencerUp = true) ∧
    (∃ (s : State) (m : HostMsg) (x : RxTransfer) (data : Bytes), s.dev.hears m = true ∧ (s.dev.slot m.slot).rx = some x ∧ x.data.length + data.length ≤ x.total ∧ data.length ≤ bodyLimit m.iface) ∧
    (∃ (s : State) (m : HostMsg) (x : RxTransfer) (number : Nat) (data : Bytes), s.dev.hears m = true ∧ (s.dev.slot m.slot).rx = some x ∧ number ≠ x.next ∧ data.length ≤ bodyLimit m.iface ∧ x.ack.slot = m.slot ∧ segmentsCarryLongValues_current s.dev x.ack) ∧
    (∃ (s : State) (m : HostMsg) (x : TxTransfer), s.dev.sequencerUp = true ∧ (s.dev.slot m.slot).tx = some x ∧ s.dev.ifaceUp x.ack.iface = true ∧ x.left ≠ [] ∧ x.next ≤ x.acked + 16) ∧
    (∃ (s : State) (m : HostMsg) (x : TxTransfer) (number : Nat), s.dev.hears m = true ∧ (s.dev.slot m.slot).tx = some x ∧ number < x.next ∧ x.left ≠ []) ∧
    (∃ (s : State) (q : SlotId) (x : RxTransfer), s.dev.sequencerUp = true ∧ (s.dev.slot q).rx = some x ∧ x.lastMs + 100 ≤ s.dev.nowMs ∧ x.ack.slot = q ∧ segmentsCarryLongValues_current s.dev x.ack ∧ (s.dev.slot q).endAfter = none) :=
  ⟨⟨st, hm, by decide +kernel⟩,
   ⟨st, by decide +kernel⟩,
   ⟨dev fun d => late 100 (slo (fun h => { h with rx := some rx1 }) d), hm, rx1, [1], by decide +kernel⟩,
   ⟨dev fun d => late 100 (slo (fun h => { h with rx := some rx1 }) d), hm, rx1, 2, [1], by decide +kernel⟩,
   ⟨dev fun d => slo (fun h => { h with tx := some tx1 }) d, hm, tx1, by decide +kernel⟩,
   ⟨dev fun d => slo (fun h => { h with tx := some tx1 }) d, hm, tx1, 0, by decide +kernel⟩,
   ⟨dev fun d => late 100 (slo (fun h => { h with rx := some rx1 }) d), 2, rx1, by decide +kernel⟩⟩

/-- The premises of InterfacesAnswerAndRecover can be met together. -/
theorem witness_InterfacesAnswerAndRecover :
    (∃ (s : State) (m : HostMsg) (data : Bytes), s.dev.hears m = true ∧ s.dev.writeBlocked = none ∧ takes Key.stopAll data = true) ∧
    (∃ (s : State) (i : Iface) (address : Word), s.dev.sequencerUp = true ∧ s.dev.ifaceUp i = true ∧ ipOf s.dev i = some address.toNat) ∧
    (∃ (s : State) (i : Iface) (address : Word), ipOf s.dev i ≠ some address.toNat) ∧
    (∃ (s : State) (i : Iface) (data : Bytes), s.dev.sequencerUp = true ∧ s.dev.ifaceUp i = true ∧ i ≠ .can5 ∧ data.length ≤ 64) ∧
    (∃ (s : State) (i : Iface), s.dev.sequencerUp = true ∧ s.dev.ifaceUp i = true ∧ i ≠ .can5) ∧
    (∃ (s : State) (k : Fin 6), s.dev.powered = true ∧ (s.dev.hosts.can[k] = .errorActive ∨ s.dev.hosts.can[k] = .errorPassive)) ∧
    (∃ (s : State) (k : Fin 6), s.dev.powered = true ∧ s.dev.hosts.can[k] = .busOff) ∧
    (∃ (s : State) (k : Fin 6), s.dev.powered = true ∧ s.dev.clocks.ref25Lost = false ∧ s.dev.hosts.can[k] = .integrating) :=
  ⟨⟨st, hm, [1], by decide +kernel⟩,
   ⟨set [(Key.eth1Enable, 1), (Key.eth1Address, 0xA9FE0102)], .eth1, 0xA9FE0102, by decide +kernel⟩,
   ⟨st, .can5, 7, by decide +kernel⟩,
   ⟨set [(Key.eth1Enable, 1)], .eth1, [1], by decide +kernel⟩,
   ⟨set [(Key.eth1Enable, 1)], .eth1, by decide +kernel⟩,
   ⟨st, 5, by decide +kernel⟩,
   ⟨dev fun d => { d with hosts := { d.hosts with can := d.hosts.can.set 5 .busOff } }, 5, by decide +kernel⟩,
   ⟨dev fun d => { d with hosts := { d.hosts with can := d.hosts.can.set 5 .integrating } }, 5, by decide +kernel⟩⟩

/-- What a premise of PilotStatesDriveSessions says. -/
abbrev pilotStatesDriveSessions_live (s : State) : Prop := s.dev.powered = true ∧ s.dev.clocks.i7Lost = false ∧ 7 ≤ s.dev.power.bootStep

/-- The premises of PilotStatesDriveSessions can be met together. -/
theorem witness_PilotStatesDriveSessions :
    (∃ (s : State) (p : PortId) (hi : Int) (lo : Int) (n : Nat), pilotStatesDriveSessions_live s ∧ (∀ y ∈ pilotOf (s.dev.port p).cp hi lo, n < y.2 ∨ y.1 = (s.dev.port p).pilot)) ∧
    (∃ (s : State) (p : PortId) (hi : Int) (lo : Int) (n : Nat) (k : Nat) (ratio : Nat) (st : Pilot), pilotStatesDriveSessions_live s ∧ pilotOf (s.dev.port p).cp hi lo = some (st, k) ∧ k ≤ n ∧ st ≠ (s.dev.port p).pilot ∧ (st = .b ∨ st = .c) ∧ (s.dev.port p).session = .idle ∧ s.dev.mode p ≠ 0 ∧ (if s.dev.flag (Key.proximityMode p) then s.dev.nat (Key.fixedCableRating p) else cableOf ratio) ≠ 0 ∧ (if s.dev.flag (Key.proximityMode p) then s.dev.nat (Key.fixedCableRating p) else cableOf ratio) ≠ 0xFFFF) ∧
    (∃ (s : State) (p : PortId) (hi : Int) (lo : Int) (n : Nat) (k : Nat) (ratio : Nat) (st : Pilot), pilotStatesDriveSessions_live s ∧ pilotOf (s.dev.port p).cp hi lo = some (st, k) ∧ k ≤ n ∧ st ≠ (s.dev.port p).pilot ∧ (st = .b ∨ st = .c) ∧ (s.dev.port p).session = .idle ∧ s.dev.mode p ≠ 0 ∧ s.dev.flag (Key.proximityMode p) = false ∧ (cableOf ratio = 0 ∨ cableOf ratio = 0xFFFF)) ∧
    (∃ (s : State) (p : PortId) (hi : Int) (lo : Int) (n : Nat) (k : Nat), pilotStatesDriveSessions_live s ∧ pilotOf (s.dev.port p).cp hi lo = some (.a, k) ∧ k ≤ n ∧ (s.dev.port p).pilot ≠ .a ∧ ((s.dev.port p).session = .identifying ∨ (s.dev.port p).session = .authorised)) ∧
    (∃ (s : State) (p : PortId) (hi : Int) (lo : Int) (n : Nat) (k : Nat), pilotStatesDriveSessions_live s ∧ pilotOf (s.dev.port p).cp hi lo = some (.a, k) ∧ k ≤ n ∧ (s.dev.port p).pilot ≠ .a ∧ ((s.dev.port p).session = .closing ∨ (s.dev.port p).session = .energised)) ∧
    (∃ (s : State) (p : PortId) (hi : Int) (lo : Int) (n : Nat) (k : Nat) (st : Pilot), pilotStatesDriveSessions_live s ∧ pilotOf (s.dev.port p).cp hi lo = some (st, k) ∧ k ≤ n ∧ st ≠ (s.dev.port p).pilot ∧ (st = .e ∨ st = .f ∨ st = .unknown ∨ st = .diode) ∧ (s.dev.port p).session ≠ .idle) :=
  ⟨⟨set [(Key.portMode 0, 1)] (prt fun q => { q with pilot := .a }), 0, 12000, 0, 2, by decide +kernel⟩,
   ⟨set [(Key.portMode 0, 1), (Key.protocols 0, 0)] (prt fun q => { q with session := .idle }), 0, 9000, -12000, 3, 3, 200, .b, by decide +kernel⟩,
   ⟨set [(Key.portMode 0, 1)] (prt fun q => { q with session := .idle }), 0, 9000, -12000, 3, 3, 900, .b, by decide +kernel⟩,
   ⟨set [(Key.portMode 0, 1)] (prt fun q => { q with pilot := .b, session := .identifying }), 0, 12000, 0, 3, 3, by decide +kernel⟩,
   ⟨set [(Key.portMode 0, 1)] (prt fun q => { q with pilot := .c, session := .energised }), 0, 12000, 0, 3, 3, by decide +kernel⟩,
   ⟨set [(Key.portMode 0, 1)] (prt fun q => { q with pilot := .c, session := .energised }), 0, 0, 0, 2, 2, .e, by decide +kernel⟩⟩

/-- The premises of PlugsLocksAndFallbacks can be met together. -/
theorem witness_PlugsLocksAndFallbacks :
    (∃ (s : State) (p : PortId) (n : Nat), s.dev.powered = true ∧ (s.dev.port p).setupAt = some n ∧ n + 10000 ≤ s.dev.nowMs ∧ ((s.dev.port p).session = .connected ∨ (s.dev.port p).session = .identifying)) ∧
    (∃ (s : State) (p : PortId) (n : Nat), s.dev.powered = true ∧ (s.dev.port p).steadyTill = some n ∧ n ≤ s.dev.nowMs) ∧
    (∃ (s : State) (p : PortId) (ratio : Nat), s.dev.powered = true ∧ s.dev.clocks.i7Lost = false ∧ s.dev.flag (Key.proximityMode p) = false ∧ 1 ≤ (s.dev.port p).session.num ∧ (s.dev.port p).session.num ≤ 7 ∧ cableOf ratio ≠ s.dev.nat (Key.cableRating p)) ∧
    (∃ (s : State) (p : PortId) (ratio : Nat), s.dev.powered = true ∧ s.dev.clocks.i7Lost = false ∧ cableOf ratio = s.dev.nat (Key.cableRating p)) ∧
    (∃ (s : State) (p : PortId) (n : Nat), s.dev.powered = true ∧ s.dev.clocks.i7Lost = false ∧ (s.dev.port p).lock = .locking n) ∧
    (∃ (s : State) (p : PortId) (n : Nat), s.dev.powered = true ∧ (s.dev.port p).lock = .locking n ∧ n ≤ s.dev.tick7 ∧ (s.dev.port p).session = .connected ∧ (s.dev.port p).pilot ≠ .a) ∧
    (∃ (s : State) (m : HostMsg) (p : PortId) (data : Bytes), s.dev.grants m = true ∧ takes (Key.unlock p) data = true) ∧
    (∃ (s : State) (p : PortId), s.dev.powered = true ∧ s.dev.clocks.i7Lost = false ∧ s.dev.isDc p = true ∧ s.dev.nat (Key.dcSystem p) = 1 ∧ ((s.dev.port p).session = .closing ∨ (s.dev.port p).session = .energised)) :=
  ⟨⟨set [(Key.portMode 0, 1)] fun d => late 10000 (prt (fun q => { q with session := .identifying, setupAt := some 0 }) d), 0, 0, by decide +kernel⟩,
   ⟨set [(Key.portMode 0, 1)] (prt fun q => { q with steadyTill := some 0 }), 0, 0, by decide +kernel⟩,
   ⟨set [(Key.portMode 0, 1)] (prt fun q => { q with session := .energised }), 0, 200, by decide +kernel⟩,
   ⟨st, 0, 900, by decide +kernel⟩,
   ⟨set [(Key.portMode 0, 1)] (prt fun q => { q with lock := .locking 500, session := .connected }), 0, 500, by decide +kernel⟩,
   ⟨set [(Key.portMode 0, 1)] fun d => late7 500 (prt (fun q => { q with lock := .locking 500, session := .connected, pilot := .b }) d), 0, 500, by decide +kernel⟩,
   ⟨st, hm, 0, [1], by decide +kernel⟩,
   ⟨set [(Key.portMode 0, 3), (Key.dcSystem 0, 1)] (prt fun q => { q with session := .energised }), 0, by decide +kernel⟩⟩

/-- What a premise of VehiclesAreAnswered says. -/
abbrev vehiclesAreAnswered_slacOpen (s : State) (p : PortId) : Prop := s.dev.modemUp p = true ∧ s.dev.plugged p = true ∧ s.dev.digital p = true ∧
    (s.dev.port p).cp = .pwm 400

/-- The premises of VehiclesAreAnswered can be met together. -/
theorem witness_VehiclesAreAnswered :
    (∃ (s : State) (p : PortId) (mac : Bytes), vehiclesAreAnswered_slacOpen s p ∧ s.dev.matchedElsewhere p mac = false ∧ (s.dev.port p).slac = .idle) ∧
    (∃ (s : State) (p : PortId) (mac : Bytes) (x : Option Nat), vehiclesAreAnswered_slacOpen s p ∧ s.dev.matchedElsewhere p mac = false ∧ (s.dev.port p).slac = .sounding mac x) ∧
    (∃ (s : State) (p : PortId) (mac : Bytes) (db : Nat), vehiclesAreAnswered_slacOpen s p ∧ s.dev.matchedElsewhere p mac = false ∧ (s.dev.port p).slac = .sounding mac (some db) ∧ s.dev.burlUp = true) ∧
    (∃ (s : State) (p : PortId) (msg : SlacMsg), s.dev.matchedElsewhere p (Dev.slacMac msg) = true) ∧
    (∃ (s : State) (p : PortId), (s.dev.port p).slac ≠ .restarted ∧ ((match (s.dev.port p).slac with | .matched _ => false | _ => true) = true) ∧ s.dev.modemUp p = true ∧ (s.dev.port p).setupAt.isSome = true) ∧
    (∃ (s : State) (p : PortId) (dynamic : Bool), s.dev.v2gReaches p = true ∧ (s.dev.port p).proto.isSome = true ∧ s.dev.contextLoaded (Dev.tlsContext p) = true ∧ (dynamic = true → (s.dev.port p).proto = some .iso20)) ∧
    (∃ (s : State) (p : PortId), s.dev.v2gReaches p = true ∧ ((s.dev.port p).proto.isSome = true → s.dev.contextLoaded (Dev.tlsContext p) = true) ∧ ((s.dev.port p).session = .closing ∨ (s.dev.port p).session = .energised)) ∧
    (∃ (s : State) (p : PortId), (s.dev.port p).proto.isSome = true ∧ s.dev.contextLoaded (Dev.tlsContext p) = false) ∧
    (∃ (s : State) (p : PortId), s.dev.powered = true ∧ ((s.dev.port p).proto = some .iso2 ∨ (s.dev.port p).proto = some .iso20)) ∧
    (∃ (s : State) (p : PortId) (x : Protocol), s.dev.annexOf p = some x ∧ s.dev.annexUp p = true ∧ s.dev.plugged p = true ∧ ((s.dev.port p).session = .authorised ∨ (s.dev.port p).session = .energised)) ∧
    (∃ (s : State) (p : PortId), s.dev.powered = true ∧ (s.dev.annexOf p).isSome = true ∧ ((s.dev.port p).session = .closing ∨ (s.dev.port p).session = .energised)) :=
  ⟨⟨set [(Key.portMode 0, 1), (Key.protocols 0, 3), (Key.serviceState 8, 0), (Key.slacAttnLimit 0, 45)] (prt fun q => { q with pilot := .b, session := .identifying, cp := .pwm 400, setupAt := some 0, slac := .idle }), 0, [2, 0, 0, 0, 0, 1], by decide +kernel⟩,
   ⟨set [(Key.portMode 0, 1), (Key.protocols 0, 3), (Key.serviceState 8, 0), (Key.slacAttnLimit 0, 45)] (prt fun q => { q with pilot := .b, session := .identifying, cp := .pwm 400, setupAt := some 0, slac := .sounding [2, 0, 0, 0, 0, 1] none }), 0, [2, 0, 0, 0, 0, 1], none, by decide +kernel⟩,
   ⟨set [(Key.portMode 0, 1), (Key.protocols 0, 3), (Key.serviceState 8, 0), (Key.slacAttnLimit 0, 45)] (prt fun q => { q with pilot := .b, session := .identifying, cp := .pwm 400, setupAt := some 0, slac := .sounding [2, 0, 0, 0, 0, 1] (some 45) }), 0, [2, 0, 0, 0, 0, 1], 45, by decide +kernel⟩,
   ⟨dev fun d => d.setPort 1 fun q => { q with evMatch := some [2, 0, 0, 0, 0, 1] }, 0, .matchReq [2, 0, 0, 0, 0, 1], by decide +kernel⟩,
   ⟨set [(Key.portMode 0, 1), (Key.protocols 0, 3), (Key.serviceState 8, 0), (Key.slacAttnLimit 0, 45)] (prt fun q => { q with pilot := .b, session := .identifying, cp := .pwm 400, setupAt := some 0, slac := .idle }), 0, by decide +kernel⟩,
   ⟨set [(Key.portMode 0, 1), (Key.protocols 0, 3), (Key.serviceState 8, 0), (Key.slacAttnLimit 0, 45)] (prt fun q => { q with pilot := .c, proto := some .iso2, slac := .matched [2, 0, 0, 0, 0, 1], session := .energised }), 0, false, by decide +kernel⟩,
   ⟨set [(Key.portMode 0, 1), (Key.protocols 0, 3), (Key.serviceState 8, 0), (Key.slacAttnLimit 0, 45)] (prt fun q => { q with pilot := .c, proto := some .iso2, slac := .matched [2, 0, 0, 0, 0, 1], session := .energised }), 0, by decide +kernel⟩,
   ⟨dev fun d => prt (fun q => { q with proto := some .iso2 }) (d.setContext (Dev.tlsContext 0) none), 0, by decide +kernel⟩,
   ⟨set [(Key.portMode 0, 1), (Key.protocols 0, 3), (Key.serviceState 8, 0), (Key.slacAttnLimit 0, 45)] (prt fun q => { q with pilot := .c, proto := some .iso2, slac := .matched [2, 0, 0, 0, 0, 1], session := .energised }), 0, by decide +kernel⟩,
   ⟨set [(Key.portMode 0, 3), (Key.dcSystem 0, 1), (Key.serviceState 0x10, 0)] fun d => prt (fun q => { q with pilot := .c, session := .energised }) { d with hosts := { d.hosts with can := d.hosts.can.set 0 .errorActive } }, 0, .annexA, by decide +kernel⟩,
   ⟨set [(Key.portMode 0, 3), (Key.dcSystem 0, 1), (Key.serviceState 0x10, 0)] fun d => prt (fun q => { q with pilot := .c, session := .energised }) { d with hosts := { d.hosts with can := d.hosts.can.set 0 .errorActive } }, 0, by decide +kernel⟩⟩

/-- The premises of ModulesAreCommandedAndWatched can be met together. -/
theorem witness_ModulesAreCommandedAndWatched :
    (∃ (s : State) (m : Fin 16) (p : PortId), s.dev.portOfModule m = some p ∧ s.dev.can4Out = true ∧ s.dev.due4 (s.dev.modules[m]).setpointAt 10 = true) ∧
    (∃ (count : Nat) (e : Nat), 0 < count ∧ e = 0) ∧
    (∃ (count : Nat), 0 < count) ∧
    (∃ (count : Nat) (i : Int), 0 < count ∧ 0 ≤ i) ∧
    (∃ (s : State) (m : Fin 16), s.dev.can4Out = true ∧ s.dev.due4 (s.dev.modules[m]).configAt 1000 = true) ∧
    (∃ (s : State) (m : Fin 16) (f : StatusFrame), s.dev.can4In = true ∧ f.crcOk = true ∧ (s.dev.modules[m]).lost = false ∧ f.faults.toNat &&& 0x0E = 0 ∧ ((s.dev.modules[m]).alive + 16 - f.alive) % 16 ≤ 2) ∧
    (∃ (s : State) (f : StatusFrame), s.dev.can4In = true ∧ f.crcOk = false) ∧
    (∃ (s : State), s.dev.can4In = false) ∧
    (∃ (s : State) (f : IdentFrame), s.dev.can4In = true ∧ f.crcOk = true) ∧
    (∃ (s : State) (m : Fin 16) (n : Nat), s.dev.powered = true ∧ (s.dev.modules[m]).identAt = some n ∧ n + 3000 ≤ s.dev.nowMs) ∧
    (∃ (s : State) (m : Fin 16) (p : PortId), s.dev.powered = true ∧ 3 ≤ (s.dev.modules[m]).missing ∧ (s.dev.modules[m]).lost = false ∧ s.dev.flag (Key.modulePresent m) = true ∧ s.dev.portOfModule m = some p) ∧
    (∃ (s : State) (n : Nat), s.dev.powered = true ∧ s.dev.site.can4SilentAt = some n ∧ n + 60 ≤ s.dev.tick7) :=
  ⟨⟨set [(Key.portMode 0, 3), (Key.moduleMask 0, 3)] fun d => { d with hosts := { d.hosts with can := d.hosts.can.set 4 .errorActive } }, 0, 0, by decide +kernel⟩,
   ⟨3, 0, by decide +kernel⟩,
   ⟨3, by decide +kernel⟩,
   ⟨3, 7, by decide +kernel⟩,
   ⟨st, 0, by decide +kernel⟩,
   ⟨st, 0, ⟨true, 2, 0, 0, 4000, 100, 40⟩, by decide +kernel⟩,
   ⟨st, ⟨false, 2, 0, 0, 4000, 100, 40⟩, by decide +kernel⟩,
   ⟨dev fun d => { d with power := { d.power with state := .off } }, by decide +kernel⟩,
   ⟨st, ⟨true, 1, 2, 3, 4, 5⟩, by decide +kernel⟩,
   ⟨dev fun d => late 3000 (mdl (fun x => { x with identAt := some 0 }) d), 0, 0, by decide +kernel⟩,
   ⟨set [(Key.portMode 0, 3), (Key.moduleMask 0, 3), (Key.modulePresent 0, 1)] (mdl fun x => { x with missing := 3 }), 0, 0, by decide +kernel⟩,
   ⟨dev fun d => late7 60 { d with site := { d.site with can4SilentAt := some 0 } }, 0, by decide +kernel⟩⟩

/-- The premises of PortCommandsActAtTheTickBoundary can be met together. -/
theorem witness_PortCommandsActAtTheTickBoundary :
    (∃ (s : State) (m : HostMsg) (p : PortId) (data : Bytes), s.dev.grants m = true ∧ takes (Key.portStart p) data = true ∧ startFault s.dev p = none) ∧
    (∃ (s : State) (m : HostMsg) (p : PortId) (data : Bytes) (c : Nat), s.dev.grants m = true ∧ takes (Key.portStart p) data = true ∧ startFault s.dev p = some c) ∧
    (∃ (s : State) (m : HostMsg) (p : PortId) (data : Bytes), s.dev.hears m = true ∧ s.dev.writeBlocked = none ∧ takes (Key.portStop p) data = true) ∧
    (∃ (s : State) (m : HostMsg) (p : PortId) (data : Bytes), s.dev.hears m = true ∧ s.dev.writeBlocked = none ∧ takes (Key.exportStop p) data = true) ∧
    (∃ (p : PortId) (q : PortId), q ≠ p) :=
  ⟨⟨set [(Key.portMode 0, 1), (Key.level1Causes 0, 0), (Key.servingEngine 0, 0)], hm, 0, [1], by decide +kernel⟩,
   ⟨set [(Key.portMode 0, 0), (Key.level1Causes 0, 0)], hm, 0, [1], Code.modeUnsupported, by decide +kernel⟩,
   ⟨st, hm, 0, [1], by decide +kernel⟩,
   ⟨st, hm, 0, [1], by decide +kernel⟩,
   ⟨0, 7, by decide +kernel⟩⟩

/-- The premises of ContactorsCloseOpenAndFail can be met together. -/
theorem witness_ContactorsCloseOpenAndFail :
    (∃ (s : State) (p : PortId), s.dev.powered = true ∧ s.dev.clocks.i7Lost = false ∧ (s.dev.port p).session = .closing) ∧
    (∃ (s : State) (p : PortId), s.dev.powered = true ∧ s.dev.clocks.i7Lost = false ∧ (s.dev.port p).session = .opening) ∧
    (∃ (s : State) (p : PortId) (a : Bool) (b : Bool), s.dev.powered = true ∧ s.dev.clocks.i7Lost = false ∧ (s.dev.port p).session = .energised ∧ (((s.dev.psafe p).enA = true ∧ a = false) ∨ ((s.dev.psafe p).enB = true ∧ b = false))) ∧
    (∃ (s : State) (p : PortId) (n : Nat), (s.dev.psafe p).closingAt = some n ∧ (s.dev.port p).session = .closing ∧ n + 97 ≤ s.dev.tick7 ∧ ((s.dev.psafe p).fbA && (s.dev.psafe p).fbB) = false) ∧
    (∃ (s : State) (p : PortId) (n : Nat), (s.dev.psafe p).openingAt = some n ∧ n + 194 ≤ s.dev.tick7) ∧
    (∃ (s : State) (p : PortId) (n : Nat), (s.dev.psafe p).zeroAt = some n ∧ (s.dev.port p).session = .stopping ∧ n + (if s.dev.isDc p then 100 else 3000) ≤ s.dev.tick7) ∧
    (∃ (s : State) (p : PortId), s.dev.powered = true ∧ (s.dev.port p).pilot = .a ∧ (s.dev.port p).pilotAt + 1000 ≤ s.dev.tick7 ∧ (s.dev.port p).session = .ended ∧ (s.dev.port p).opened = false) :=
  ⟨⟨dev fun d => late7 0 (psf (fun q => { q with enA := true, fbA := true }) (prt (fun q => { q with session := .closing }) d)), 0, by decide +kernel⟩,
   ⟨dev fun d => late7 0 (psf (fun q => { q with enA := true, fbA := true }) (prt (fun q => { q with session := .opening }) d)), 0, by decide +kernel⟩,
   ⟨dev fun d => late7 0 (psf (fun q => { q with enA := true, fbA := true }) (prt (fun q => { q with session := .energised }) d)), 0, false, true, by decide +kernel⟩,
   ⟨dev fun d => late7 100 (psf (fun q => { q with enA := true, fbA := true, closingAt := some 3 }) (prt (fun q => { q with session := .closing }) d)), 0, 3, by decide +kernel⟩,
   ⟨dev fun d => late7 200 (psf (fun q => { q with enA := true, fbA := true, openingAt := some 6 }) (prt (fun q => { q with session := .opening }) d)), 0, 6, by decide +kernel⟩,
   ⟨dev fun d => late7 3000 (psf (fun q => { q with enA := true, fbA := true, zeroAt := some 0 }) (prt (fun q => { q with session := .stopping }) d)), 0, 0, by decide +kernel⟩,
   ⟨dev fun d => late7 1000 (psf (fun q => { q with enA := true, fbA := true }) (prt (fun q => { q with session := .ended, pilotAt := 0 }) d)), 0, by decide +kernel⟩⟩

/-- The premises of TheAllocatorSharesTheSite can be met together. -/
theorem witness_TheAllocatorSharesTheSite :
    (∃ (s : State), s.dev.sequencerUp = true ∧ (s.dev.site.allocateNow = true ∨ s.dev.site.allocatedAt + 1000 ≤ s.dev.nowMs)) ∧
    (∃ (s : State), s.dev.site.allocateNow = false ∧ s.dev.nowMs < s.dev.site.allocatedAt + 1000) ∧
    (∃ (cs : List Claim) (left : Left) (k : Fin 3), (∀ k : Fin 3, 0 ≤ left[k]) ∧ (∀ c ∈ cs, ∀ k : Fin 3, c.given[k] ≤ c.cap[k]) ∧ (∀ c ∈ cs, c.on.Nodup)) ∧
    (∃ (n : Nat) (cs : List Claim) (left : Left) (c : Claim) (k : Fin 3), (∀ k : Fin 3, 0 ≤ left[k]) ∧ (∀ c ∈ cs, ∀ k : Fin 3, c.given[k] ≤ c.cap[k]) ∧ (∀ c ∈ cs, c.on.Nodup) ∧ c ∈ (shareAll n cs left).1) ∧
    (∃ (s : State), s.dev.sequencerUp = true ∧ s.dev.site.externalAt + 1000 * s.dev.nat Key.externalLoadTimeoutS ≤ s.dev.nowMs) ∧
    (∃ (s : State) (p : PortId) (n : Nat), s.dev.powered = true ∧ (s.dev.port p).pausedAt = some n ∧ n + 600000 ≤ s.dev.nowMs) ∧
    (∃ (s : State) (p : PortId) (e : Fin 4), s.dev.powered = true ∧ (s.dev.port p).migrateTo = some e ∧ s.dev.running (peCore e) = true ∧ safePoint s.dev p = true) ∧
    (∃ (s : State) (p : PortId), safePoint s.dev p = false) :=
  ⟨⟨dev (late 1000), by decide +kernel⟩,
   ⟨st, by decide +kernel⟩,
   ⟨[⟨0, [0, 1], Vector.replicate 3 60, Vector.replicate 3 320, Vector.replicate 3 0, false⟩], Vector.replicate 3 500, 0, by decide +kernel⟩,
   ⟨9, [⟨0, [0, 1], Vector.replicate 3 60, Vector.replicate 3 320, Vector.replicate 3 0, false⟩], Vector.replicate 3 500, ⟨0, [0, 1], Vector.replicate 3 60, Vector.replicate 3 320, Vector.replicate 3 0, false⟩, 0, by decide +kernel⟩,
   ⟨dev (late 600000), by decide +kernel⟩,
   ⟨dev fun d => late 600000 (prt (fun q => { q with pausedAt := some 0 }) d), 0, 0, by decide +kernel⟩,
   ⟨dev (prt fun q => { q with migrateTo := some 3 }), 0, 3, by decide +kernel⟩,
   ⟨dev (prt fun q => { q with session := .closing }), 0, by decide +kernel⟩⟩

/-- What a premise of SamplesReachTheSums says. -/
abbrev samplesReachTheSums_quiet (s : State) : Prop := s.dev.sampling = true ∧ (∀ e, s.dev.due e = false) ∧
    (∀ p : PortId, (s.dev.chan (chanOf p 7)).failed.testBit 2 = false) ∧ ∀ c, (s.dev.chan c).failed.testBit 1 = false

/-- The premises of SamplesReachTheSums can be met together. -/
theorem witness_SamplesReachTheSums :
    (∃ (s : State), samplesReachTheSums_quiet s ∧ s.dev.passes 0x00 = true) ∧
    (∃ (s : State) (ok : Bool), samplesReachTheSums_quiet s ∧ (ok = false ∨ s.dev.passes 0x00 = false)) ∧
    (∃ (s : State), s.dev.powered = true ∧ s.dev.metro.running = true ∧ s.dev.metro.lost = false ∧ 32 ≤ s.dev.metro.invalid) ∧
    (∃ (s : State) (j : Fin 16) (c : Fin 68), s.dev.sampling = true ∧ (s.dev.chan c).source = 0x10 + j.val ∧ (∀ b : Fin 68, b < c → (s.dev.chan b).source ≠ 0x10 + j.val) ∧ (s.dev.chan c).failed = 0 ∧ 64 ≤ s.dev.metro.stuck[j] ∧ s.dev.rail .vddMem = true) ∧
    (∃ (s : State) (c : Fin 68), s.dev.sampling = true ∧ (s.dev.chan c).returning = true ∧ (s.dev.chan c).discard = 0 ∧ (s.dev.chan c).failed = 0 ∧ s.dev.rail .vddMem = true) ∧
    (∃ (s : State), s.dev.sampling = true ∧ s.dev.metro.bandSet = true) :=
  ⟨⟨st, by decide +kernel⟩,
   ⟨st, false, by decide +kernel⟩,
   ⟨dev (met fun m => { m with invalid := 32 }), by decide +kernel⟩,
   ⟨dev fun d => chn (fun c => { c with source := 0x1F }) (met (fun m => { m with stuck := m.stuck.set 15 64 }) d), 15, 4, by decide +kernel⟩,
   ⟨dev (chn fun c => { c with returning := true }), 4, by decide +kernel⟩,
   ⟨dev (met fun m => { m with bandSet := true }), by decide +kernel⟩⟩

/-- What a premise of CrossingsPlaceBoundariesAndCalibrationsMeasure says. -/
abbrev crossingsPlaceBoundariesAndCalibrationsMeasure_found (s : State) (c : Fin 68) (time : Nat) : Prop :=
    s.dev.sampling = true ∧ (s.dev.chan c).failed = 0 ∧ (s.dev.chan c).found = some (time + 24576)

/-- The premises of CrossingsPlaceBoundariesAndCalibrationsMeasure can be met together. -/
theorem witness_CrossingsPlaceBoundariesAndCalibrationsMeasure :
    (∃ (s : State) (c : Fin 68) (time : Nat), crossingsPlaceBoundariesAndCalibrationsMeasure_found s c time ∧ s.dev.passes 0x03 = true) ∧
    (∃ (s : State) (c : Fin 68) (time : Nat), crossingsPlaceBoundariesAndCalibrationsMeasure_found s c time ∧ s.dev.passes 0x03 = false) ∧
    (∃ (s : State) (e : EntityId), s.dev.sampling = true ∧ s.dev.due e = true) ∧
    (∃ (s : State) (e : EntityId), s.dev.sampling = true ∧ (s.dev.meter e).mode ≠ 3 ∧ (s.dev.meter e).noRef = false ∧ (s.dev.meter e).pendX = none ∧ (s.dev.meter e).startN + 800 ≤ s.dev.samples) ∧
    (∃ (s : State) (e : EntityId), (s.dev.meter e).mode ≠ 3 ∧ (s.dev.meter e).pendX = none ∧ s.dev.samples < (s.dev.meter e).startN + 800) ∧
    (∃ (s : State) (p : PortId), (s.dev.meter (portEntity p)).mode = 3 ∧ 3 ≤ (s.dev.meter (portEntity p)).dc[1] ∧ (s.dev.flag (Key.dcVoltageMismatch p) = false)) ∧
    (∃ (s : State) (p : PortId), (s.dev.meter (portEntity p)).mode = 3 ∧ 3 ≤ (s.dev.meter (portEntity p)).dc[0] ∧ (s.dev.flag (Key.dcCurrentMismatch p) = true)) ∧
    (∃ (s : State) (m : HostMsg) (data : Bytes), s.dev.grants m = true ∧ takes Key.calStart data = true) ∧
    (∃ (s : State) (r : CalRun), s.dev.metro.cal = some r ∧ r.aborted = false ∧ r.waiting = false ∧ r.periods ≤ r.done ∧ s.dev.nat Key.calState = 1) ∧
    (∃ (s : State) (r : CalRun), s.dev.metro.cal = some r ∧ r.done < r.periods) :=
  ⟨⟨dev fun d => tim (fun t => { t with samples := 1000 }) (chn (fun c => { c with found := some 1024576 }) d), 4, 1000000, by decide +kernel⟩,
   ⟨dev fun d => tim (fun t => { t with samples := 1000 }) (cro 3 (fun x => { x with state := .resync }) (chn (fun c => { c with found := some 1024576 }) d)), 4, 1000000, by decide +kernel⟩,
   ⟨dev fun d => tim (fun t => { t with samples := 640 }) (mtr (fun m => { m with mode := 3 }) d), 0, by decide +kernel⟩,
   ⟨dev fun d => tim (fun t => { t with samples := 800 }) (mtr (fun m => { m with mode := 1 }) d), 0, by decide +kernel⟩,
   ⟨dev fun d => tim (fun t => { t with samples := 799 }) (mtr (fun m => { m with mode := 1 }) d), 0, by decide +kernel⟩,
   ⟨set [(Key.dcCurrentMismatch 0, 1)] (mtr fun m => { m with mode := 3, dc := Vector.replicate 2 3 }), 0, by decide +kernel⟩,
   ⟨set [(Key.dcCurrentMismatch 0, 1)] (mtr fun m => { m with mode := 3, dc := Vector.replicate 2 3 }), 0, by decide +kernel⟩,
   ⟨st, hm, [1], by decide +kernel⟩,
   ⟨set [(Key.calState, 1)] (met fun m => { m with cal := some cal1 }), cal1, by decide +kernel⟩,
   ⟨dev (met fun m => { m with cal := some { cal1 with done := 9 } }), { cal1 with done := 9 }, by decide +kernel⟩⟩

/-- What a premise of RingsAreWrittenAndReadBack says. -/
abbrev ringsAreWrittenAndReadBack_calm (s : State) : Prop := s.dev.power.state = .inService ∧ s.dev.heartwoodUp = true ∧ s.dev.energy.lost = false ∧ s.dev.burl.reports = [] ∧
    s.dev.nat Key.alarmNow = 0

/-- The premises of RingsAreWrittenAndReadBack can be met together. -/
theorem witness_RingsAreWrittenAndReadBack :
    (∃ (s : State) (c : CommitRun), ringsAreWrittenAndReadBack_calm s ∧ s.dev.energy.commit = some c ∧ s.dev.energy.fails < 3 ∧ s.dev.rail .vddMem = true) ∧
    (∃ (s : State) (c : CommitRun), ringsAreWrittenAndReadBack_calm s ∧ s.dev.energy.commit = some c ∧ s.dev.energy.fails = 0 ∧ s.dev.energy.batch = [] ∧ c.closes = [] ∧ (∀ x ∈ c.entries, x.e = 8 ∧ x.checks[0].1 = false)) ∧
    (∃ (d : Dev) (k : Fin 32), k.val ≠ (d.energy.number + 1) % 32) ∧
    (∃ (s : State) (c : CommitRun) (e : EntityId), s.dev.energy.commit = some c ∧ s.dev.heartwoodUp = true ∧ s.dev.energy.fails = 0 ∧ (∃ x ∈ c.entries, s.dev.isLate e x = true) ∧ s.dev.rail .vddMem = true) ∧
    (∃ (s : State) (e : EntityId), (∀ x ∈ s.dev.energy.batch, s.dev.isLate e x = false) ∧ (∀ c, s.dev.energy.commit = some c → ∀ x ∈ c.entries, s.dev.isLate e x = false)) ∧
    (∃ (s : State) (x : Nat), ringsAreWrittenAndReadBack_calm s ∧ s.dev.sampling = true ∧ s.dev.energy.magnet.latched = false ∧ x ≤ 150) ∧
    (∃ (d : Dev) (x : Nat), d.sampling = true ∧ d.heartwoodUp = true ∧ d.energy.magnet.latched = false ∧ d.energy.magnet.run = 1 ∧ 150 < x) ∧
    (∃ (n : Nat), 0 < n) ∧
    (∃ (c : CheckRun) (bad : Bool) (n : Nat), 0 < n ∧ bad = c.latched) :=
  ⟨⟨dev (en fun x => { x with commit := some ⟨[closed8], [], ring1, []⟩ }), ⟨[closed8], [], ring1, []⟩, by decide +kernel⟩,
   ⟨dev (en fun x => { x with commit := some ⟨[closed8], [], ring1, []⟩ }), ⟨[closed8], [], ring1, []⟩, by decide +kernel⟩,
   ⟨en (fun x => { x with number := 31 }) base, 1, by decide +kernel⟩,
   ⟨dev fun d => tim (fun t => { t with utcS := 1 }) (en (fun x => { x with commit := some ⟨[closed8], [], ring1, []⟩ }) d), ⟨[closed8], [], ring1, []⟩, 8, by decide +kernel⟩,
   ⟨st, 0, by decide +kernel⟩,
   ⟨st, 150, by decide +kernel⟩,
   ⟨en (fun x => { x with magnet := ⟨false, 1, 0⟩ }) base, 151, by decide +kernel⟩,
   ⟨5, by decide +kernel⟩,
   ⟨⟨true, 4, 3⟩, true, 5, by decide +kernel⟩⟩

/-- The premises of TamperAlarmsHoldTheDevice can be met together. -/
theorem witness_TamperAlarmsHoldTheDevice :
    (∃ (s : State) (k : Fin 17), s.dev.power.state = .inService ∧ s.dev.alarms k = true ∧ s.dev.inAlarm k = false ∧ s.dev.level k ≤ 1 ∧ s.dev.burl.keyOp = none ∧ s.dev.rail .vddMem = true) ∧
    (∃ (s : State) (k : Fin 17), s.dev.inAlarm k = true ∧ s.dev.checkLatched k = false ∧ s.dev.powered = true ∧ s.dev.rail .vddMem = true) ∧
    (∃ (s : State) (m : HostMsg) (data : Bytes), s.dev.grants m = true ∧ takes Key.clearHold data = true ∧ s.dev.power.state ≠ .tamperHold) ∧
    (∃ (s : State) (m : HostMsg) (data : Bytes), s.dev.grants m = true ∧ takes Key.clearHold data = true ∧ s.dev.power.state = .tamperHold ∧ s.dev.alarmHolds = true) ∧
    (∃ (s : State) (m : HostMsg) (data : Bytes), s.dev.grants m = true ∧ takes Key.clearHold data = true ∧ s.dev.power.state = .tamperHold ∧ s.dev.alarmHolds = false) ∧
    (∃ (d : Dev), d.power.state = .tamperHold) :=
  ⟨⟨set [(Key.responseLevel 7, 1)], 8, by decide +kernel⟩,
   ⟨set [(Key.alarmNow, 0x100)], 8, by decide +kernel⟩,
   ⟨st, hm, [1], by decide +kernel⟩,
   ⟨set [(Key.alarmNow, 0x100), (Key.responseLevel 7, 1)] (pow fun p => { p with state := .tamperHold }), hm, [1], by decide +kernel⟩,
   ⟨dev (pow fun p => { p with state := .tamperHold }), hm, [1], by decide +kernel⟩,
   ⟨pow (fun p => { p with state := .tamperHold }) base, by decide +kernel⟩⟩

/-- The premises of BoundariesAreClosedAndTheClockSet can be met together. -/
theorem witness_BoundariesAreClosedAndTheClockSet :
    (∃ (s : State) (x : BoundSet) (rest : List BoundSet), s.dev.tariff.sets = x :: rest ∧ s.dev.setReady x = true ∧ x.steps = 2) ∧
    (∃ (s : State) (x : BoundSet) (rest : List BoundSet), s.dev.tariff.sets = x :: rest ∧ s.dev.setReady x = true ∧ x.steps = 32) ∧
    (∃ (s : State) (x : BoundSet) (rest : List BoundSet), s.dev.tariff.sets = x :: rest ∧ s.dev.setReady x = false) ∧
    (∃ (s : State) (m : HostMsg) (data : Bytes), s.dev.grants m = true ∧ takes Key.closeNow data = true) ∧
    (∃ (s : State) (m : HostMsg) (data : Bytes) (new : Int), s.dev.grants m = true ∧ takes Key.setTime data = true ∧ sentValue Key.setTime data = .int new) ∧
    (∃ (s : State) (x : Int), s.dev.time.stepBy = some x ∧ s.dev.heartwoodUp = true ∧ s.dev.tariff.sets = [] ∧ s.dev.energy.batch = [] ∧ s.dev.energy.commit = none) ∧
    (∃ (s : State) (x : Int), s.dev.time.stepBy = some x ∧ (s.dev.tariff.sets ≠ [] ∨ s.dev.energy.batch ≠ [] ∨ s.dev.energy.commit.isSome = true)) :=
  ⟨⟨dev (tar fun t => { t with sets := [⟨0, 0, 0, 2, 0, 0, 0⟩] }), ⟨0, 0, 0, 2, 0, 0, 0⟩, [], by decide +kernel⟩,
   ⟨dev (tar fun t => { t with sets := [⟨0, 0, 0, 32, 0, 0, 0⟩] }), ⟨0, 0, 0, 32, 0, 0, 0⟩, [], by decide +kernel⟩,
   ⟨dev (tar fun t => { t with sets := [⟨1, 0, 0, 2, 0, 0, 0⟩] }), ⟨1, 0, 0, 2, 0, 0, 0⟩, [], by decide +kernel⟩,
   ⟨st, hm, [1], by decide +kernel⟩,
   ⟨st, hm, leBytes 8 1700000000000000, 1700000000000000, by decide +kernel⟩,
   ⟨dev (tim fun t => { t with stepBy := some 5000000 }), 5000000, by decide +kernel⟩,
   ⟨dev fun d => tim (fun t => { t with stepBy := some 5000000 }) (en (fun x => { x with commit := some sr1 }) d), 5000000, by decide +kernel⟩⟩

/-- The premises of AccountsAuthorisePorts can be met together. -/
theorem witness_AccountsAuthorisePorts :
    (∃ (s : State) (m : HostMsg) (p : PortId) (data : Bytes) (n : Int) (slot : Nat) (a : Account), s.dev.grants m = true ∧ takes (Key.externalId p) data = true ∧ sentValue (Key.externalId p) data = .int n ∧ s.dev.waiting p = true ∧ (s.dev.port p).session = .identifying ∧ s.dev.findNumber n.toNat = some (slot, a) ∧ s.dev.localGrant slot a = true) ∧
    (∃ (s : State) (m : HostMsg) (p : PortId) (data : Bytes) (n : Int), s.dev.grants m = true ∧ takes (Key.externalId p) data = true ∧ sentValue (Key.externalId p) data = .int n ∧ s.dev.waiting p = true ∧ s.dev.findNumber n.toNat = none) ∧
    (∃ (s : State) (m : HostMsg) (p : PortId) (data : Bytes), s.dev.grants m = true ∧ takes (Key.externalId p) data = true ∧ s.dev.waiting p = false) ∧
    (∃ (s : State) (m : HostMsg) (p : PortId) (data : Bytes) (r : AuthRun), s.dev.grants m = true ∧ takes (Key.authAnswer p) data = true ∧ s.dev.ledger.auth[p] = some r) ∧
    (∃ (s : State) (p : PortId) (r : AuthRun), s.dev.sequencerUp = true ∧ s.dev.ledger.auth[p] = some r ∧ r.deadline ≤ s.dev.nowMs) ∧
    (∃ (s : State) (p : PortId) (slot : Nat) (account : Nat) (a : Account), s.dev.heartwoodTakes = true ∧ s.dev.ledger.posted[p] = some (slot, account) ∧ (s.dev.port p).session = .identifying ∧ s.dev.acct slot = some a ∧ a.sound = true ∧ a.number = account ∧ s.dev.ledger.bind[p] = none ∧ s.dev.storeFits = true) ∧
    (∃ (s : State) (p : PortId) (slot : Nat) (account : Nat) (a : Account), s.dev.heartwoodTakes = true ∧ s.dev.ledger.posted[p] = some (slot, account) ∧ (s.dev.port p).session = .identifying ∧ s.dev.acct slot = some a ∧ a.sound = false ∧ s.dev.ledger.bind[p] = none) ∧
    (∃ (s : State) (m : HostMsg) (data : Bytes), s.dev.grants m = true ∧ takes Key.selectAccount data = true) :=
  ⟨⟨set [(Key.portMode 0, 1), (Key.authModes 0, 1), (Key.minStartCredit, 0), (Key.maxSessionsPerAccount, 2)] fun d => withAcc (prt (fun q => { q with session := .identifying }) d), hm, 0, leBytes 8 7, 7, 0, acc, by decide +kernel⟩,
   ⟨set [(Key.portMode 0, 1), (Key.authModes 0, 1), (Key.minStartCredit, 0), (Key.maxSessionsPerAccount, 2)] fun d => withAcc (prt (fun q => { q with session := .identifying }) d), hm, 0, leBytes 8 9, 9, by decide +kernel⟩,
   ⟨st, hm, 0, leBytes 8 9, by decide +kernel⟩,
   ⟨set [(Key.portMode 0, 1), (Key.authModes 0, 1), (Key.minStartCredit, 0), (Key.maxSessionsPerAccount, 2)] fun d => led (fun l => { l with auth := l.auth.set 0 (some ⟨0, 7, 0⟩) }) (withAcc (prt (fun q => { q with session := .identifying }) d)), hm, 0, [1], ⟨0, 7, 0⟩, by decide +kernel⟩,
   ⟨set [(Key.portMode 0, 1), (Key.authModes 0, 1), (Key.minStartCredit, 0), (Key.maxSessionsPerAccount, 2)] fun d => led (fun l => { l with auth := l.auth.set 0 (some ⟨0, 7, 0⟩) }) (withAcc (prt (fun q => { q with session := .identifying }) d)), 0, ⟨0, 7, 0⟩, by decide +kernel⟩,
   ⟨dev fun d => led (fun l => { l with accounts := [(0, acc)], posted := l.posted.set 0 (some (0, 7)) }) (prt (fun q => { q with session := .identifying }) d), 0, 0, 7, acc, by decide +kernel⟩,
   ⟨dev fun d => led (fun l => { l with accounts := [(0, badAcc)], posted := l.posted.set 0 (some (0, 7)) }) (prt (fun q => { q with session := .identifying }) d), 0, 0, 7, badAcc, by decide +kernel⟩,
   ⟨st, hm, leBytes 8 7, by decide +kernel⟩⟩

/-- The premises of KeysAndCardsAreRead can be met together. -/
theorem witness_KeysAndCardsAreRead :
    (∃ (s : State), s.dev.sequencerUp = true ∧ s.dev.islandRuns 1 = true ∧ s.dev.flag Key.keypadEnable = true) ∧
    (∃ (s : State) (n : Fin 10), s.dev.sequencerUp = true ∧ s.dev.ledger.keypad.fresh = true ∧ s.dev.ledger.keypad.accepted = BitVec.ofNat 16 (2 ^ keyBit (.digit n)) ∧ entryOf s.dev.ledger.keypad.entry = .open ∧ s.dev.heart.inspection = none) ∧
    (∃ (s : State), s.dev.sequencerUp = true ∧ s.dev.ledger.keypad.fresh = true ∧ s.dev.ledger.keypad.accepted = BitVec.ofNat 16 (2 ^ keyBit .clr) ∧ s.dev.heart.inspection = none) ∧
    (∃ (s : State), s.dev.ledger.keypad.fresh = false) ∧
    (∃ (s : State), s.dev.sequencerUp = true ∧ s.dev.ledger.keypad.entry ≠ [] ∧ entryOf s.dev.ledger.keypad.entry = .open ∧ s.dev.ledger.keypad.lastKey + 60000 < s.dev.nowMs) ∧
    (∃ (s : State) (n : Nat), s.dev.ledger.keypad.lockTill = some n ∧ n ≤ s.dev.nowMs) ∧
    (∃ (s : State), s.dev.sequencerUp = true ∧ s.dev.islandRuns 4 = true ∧ s.dev.nat Key.cardReaderUart ≠ 0xFF) ∧
    (∃ (s : State) (ident : Bytes), s.dev.sequencerUp = true ∧ s.dev.islandRuns 4 = true ∧ s.dev.nat Key.cardReaderUart ≠ 0xFF ∧ 4 ≤ ident.length ∧ ident.length ≤ 32 ∧ s.dev.nat Key.cardReaderPort = 0xFF ∧ (∀ p, s.dev.waiting p = false)) :=
  ⟨⟨set [(Key.keypadEnable, 1)], by decide +kernel⟩,
   ⟨dev (kpad fun k => { k with fresh := true, accepted := BitVec.ofNat 16 (2 ^ keyBit (.digit 9)) }), 9, by decide +kernel⟩,
   ⟨dev (kpad fun k => { k with fresh := true, accepted := BitVec.ofNat 16 (2 ^ keyBit (.clr)) }), by decide +kernel⟩,
   ⟨st, by decide +kernel⟩,
   ⟨dev fun d => late 60001 (kpad (fun k => { k with entry := [.star] }) d), by decide +kernel⟩,
   ⟨dev (kpad fun k => { k with lockTill := some 0 }), 0, by decide +kernel⟩,
   ⟨set [(Key.cardReaderUart, 1)], by decide +kernel⟩,
   ⟨set [(Key.cardReaderUart, 1)], [1, 2, 3, 4], by decide +kernel⟩⟩

/-- What a premise of TokensCreditOnce says. -/
abbrev tokensCreditOnce_read (s : State) (account slot : Nat) (a : Account) (digits : List (Fin 10)) (f : TokenFacts) : Prop :=
    s.dev.heart.sealBroken = 0 ∧ digits.length = 20 ∧ numberOf digits < 2 ^ 66 ∧ s.dev.findNumber account = some (slot, a) ∧
    s.dev.acct slot = some a ∧ a.number = account ∧ a.status ≠ 3 ∧ a.status ≠ 0 ∧ f.decryptOk = true ∧ (s.dev.keyOf 0x06).isSome = true ∧
    s.dev.burlUp = true

/-- What a premise of TokensCreditOnce says. -/
abbrev tokensCreditOnce_ready (s : State) : Prop := s.dev.heartwoodTakes = true ∧ s.dev.rail .vddMem = true

/-- The premises of TokensCreditOnce can be met together. -/
theorem witness_TokensCreditOnce :
    (∃ (s : State) (account : Nat) (slot : Nat) (units : Nat) (a : Account) (digits : List (Fin 10)) (f : TokenFacts), tokensCreditOnce_ready s ∧ s.dev.balancesMove = true ∧ tokensCreditOnce_read s account slot a digits f ∧ f.body = .credit units ∧ units ≠ 0 ∧ s.dev.tidOk slot account f.tid = true ∧ a.sound = true ∧ -(2 ^ 63 : Int) ≤ a.balance + (units * s.dev.nat Key.tokenScale : Nat) ∧ a.balance + (units * s.dev.nat Key.tokenScale : Nat) < 2 ^ 63) ∧
    (∃ (s : State) (account : Nat) (slot : Nat) (a : Account) (digits : List (Fin 10)) (f : TokenFacts), tokensCreditOnce_ready s ∧ tokensCreditOnce_read s account slot a digits f ∧ f.body ≠ .other ∧ s.dev.tidOk slot account f.tid = false) ∧
    (∃ (s : State) (account : Nat) (digits : List (Fin 10)), tokensCreditOnce_ready s ∧ (s.dev.heart.sealBroken ≠ 0 ∨ digits.length ≠ 20 ∨ s.dev.findNumber account = none)) ∧
    (∃ (s : State) (m : HostMsg) (data : Bytes) (b : Bytes) (digits : List (Fin 10)), s.dev.grants m = true ∧ takes Key.tokenSubmit data = true ∧ sentValue Key.tokenSubmit data = .bytes b ∧ asciiDigits b = some digits ∧ digits.length = 20 ∧ tokensCreditOnce_ready s) ∧
    (∃ (s : State) (m : HostMsg) (data : Bytes) (b : Bytes), s.dev.grants m = true ∧ takes Key.tokenSubmit data = true ∧ sentValue Key.tokenSubmit data = .bytes b ∧ asciiDigits b = none) ∧
    (∃ (s : State) (account : Nat) (half : Nat) (ends : Nat), s.dev.ledger.half = some (account, half, ends) ∧ ends ≤ s.dev.nowMs) ∧
    (∃ (s : State) (m : HostMsg) (data : Bytes) (slot : Nat) (a : Account), s.dev.grants m = true ∧ takes Key.hostCredit data = true ∧ s.dev.heartwoodTakes = true ∧ s.dev.balancesMove = true ∧ (s.dev.keyOf 0x07).isSome = true ∧ s.dev.burlUp = true ∧ leVal (data.take 1) = 1 ∧ leVal ((data.drop 1).take 1) ≤ 2 ∧ s.dev.nat Key.hostCreditSequence < leVal ((data.drop 18).take 8) ∧ s.dev.findNumber (leVal ((data.drop 2).take 8)) = some (slot, a) ∧ s.dev.acct slot = some a ∧ a.status ≠ 3 ∧ a.status ≠ 0 ∧ a.sound = true ∧ -(2 ^ 63 : Int) ≤ a.balance + (toSigned 64 (leVal ((data.drop 10).take 8))) ∧ a.balance + (toSigned 64 (leVal ((data.drop 10).take 8))) < 2 ^ 63) ∧
    (∃ (s : State) (m : HostMsg) (data : Bytes), s.dev.grants m = true ∧ takes Key.hostCredit data = true ∧ s.dev.heartwoodTakes = true ∧ leVal (data.take 1) = 1 ∧ leVal ((data.drop 1).take 1) ≤ 2) :=
  ⟨⟨set [(Key.lifecycleState, 3), (Key.tokenAccount, 7)] fun d => keyd 7 (keyd 6 (withAcc d)), 7, 0, 10, acc, digits20, tok, by decide +kernel⟩,
   ⟨set [(Key.lifecycleState, 3)] fun d => keyd 6 (led (fun l => { l with accounts := [(0, acc)], memory := [(7, 120, 1)] }) d), 7, 0, acc, digits20, tok, by decide +kernel⟩,
   ⟨st, 7, digits20, by decide +kernel⟩,
   ⟨set [(Key.lifecycleState, 3), (Key.tokenAccount, 7)] fun d => keyd 7 (keyd 6 (withAcc d)), hm, List.replicate 20 0x31, List.replicate 20 0x31, digits20, by decide +kernel⟩,
   ⟨set [(Key.lifecycleState, 3), (Key.tokenAccount, 7)] fun d => keyd 7 (keyd 6 (withAcc d)), hm, List.replicate 20 0x41, List.replicate 20 0x41, by decide +kernel⟩,
   ⟨dev (led fun l => { l with half := some (7, 0, 0) }), 7, 0, 0, by decide +kernel⟩,
   ⟨set [(Key.lifecycleState, 3), (Key.tokenAccount, 7)] fun d => keyd 7 (keyd 6 (withAcc d)), hm, [1, 0] ++ leBytes 8 7 ++ leBytes 8 1000 ++ leBytes 8 1 ++ List.replicate 72 0, 0, acc, by decide +kernel⟩,
   ⟨set [(Key.lifecycleState, 3), (Key.tokenAccount, 7)] fun d => keyd 7 (keyd 6 (withAcc d)), hm, [1, 0] ++ leBytes 8 7 ++ leBytes 8 1000 ++ leBytes 8 1 ++ List.replicate 72 0, by decide +kernel⟩⟩

/-- What a premise of LegalCommandsAreChecked says. -/
abbrev legalCommandsAreChecked_four (env : LegalEnv) (o : ObjRef) (data record : Bytes) (slot : Nat) : List (Instr × Nat × List Nat) :=
    [(.calibrationWrite env o data, 1, [1, 2]), (.constantsWrite env o data, 2, [1, 2]), (.sealCommand env, 3, [2]),
     (.recordRepair env slot record, 4, [0, 1, 2, 3])]

/-- The premises of LegalCommandsAreChecked can be met together. -/
theorem witness_LegalCommandsAreChecked :
    (∃ (s : State) (env : LegalEnv) (o : ObjRef) (data : Bytes) (record : Bytes) (slot : Nat) (c : Instr) (code : Nat) (states : List Nat), (c, code, states) ∈ legalCommandsAreChecked_four env o data record slot ∧ s.dev.heartwoodTakes = true ∧ s.dev.rail .vddMem = true ∧ (env.sigOk = false ∨ s.dev.keyOf 0x05 = none ∨ s.dev.burlUp = false)) ∧
    (∃ (s : State) (env : LegalEnv) (o : ObjRef) (data : Bytes) (record : Bytes) (slot : Nat) (c : Instr) (code : Nat) (states : List Nat), (c, code, states) ∈ legalCommandsAreChecked_four env o data record slot ∧ s.dev.heartwoodTakes = true ∧ s.dev.rail .vddMem = true ∧ env.sigOk = true ∧ (s.dev.keyOf 0x05).isSome = true ∧ s.dev.burlUp = true ∧ (env.hashOk = false ∨ env.seq ≤ (s.dev.nat Key.legalSequence))) ∧
    (∃ (s : State) (env : LegalEnv) (o : ObjRef) (data : Bytes) (record : Bytes) (slot : Nat) (c : Instr) (code : Nat) (states : List Nat), (c, code, states) ∈ legalCommandsAreChecked_four env o data record slot ∧ s.dev.heartwoodTakes = true ∧ s.dev.rail .vddMem = true ∧ env.sigOk = true ∧ (s.dev.keyOf 0x05).isSome = true ∧ s.dev.burlUp = true ∧ env.hashOk = true ∧ (s.dev.nat Key.legalSequence) < env.seq ∧ s.dev.lifecycle ∉ states) ∧
    (∃ (s : State) (env : LegalEnv) (o : ObjRef) (data : Bytes) (record : Bytes) (slot : Nat) (c : Instr) (code : Nat) (states : List Nat), (c, code, states) ∈ legalCommandsAreChecked_four env o data record slot ∧ s.dev.heartwoodTakes = true ∧ s.dev.rail .vddMem = true ∧ env.sigOk = true ∧ (s.dev.keyOf 0x05).isSome = true ∧ s.dev.burlUp = true ∧ env.hashOk = true ∧ (s.dev.nat Key.legalSequence) < env.seq ∧ s.dev.lifecycle ∈ states ∧ s.dev.heart.sealBroken ≠ 0 ∧ code ≠ 4) :=
  ⟨⟨set [(Key.lifecycleState, 2)] fun d => keyd 5 d, ⟨9, true, false⟩, ⟨0x3904, 1⟩, leBytes 4 5, [], 0, .calibrationWrite ⟨9, true, false⟩ ⟨0x3904, 1⟩ (leBytes 4 5), 1, [1, 2], by decide +kernel⟩,
   ⟨set [(Key.lifecycleState, 2)] fun d => keyd 5 d, ⟨0, true, true⟩, ⟨0x3904, 1⟩, leBytes 4 5, [], 0, .calibrationWrite ⟨0, true, true⟩ ⟨0x3904, 1⟩ (leBytes 4 5), 1, [1, 2], by decide +kernel⟩,
   ⟨set [(Key.lifecycleState, 3)] fun d => keyd 5 d, env1, ⟨0x3904, 1⟩, leBytes 4 5, [], 0, .calibrationWrite env1 ⟨0x3904, 1⟩ (leBytes 4 5), 1, [1, 2], by decide +kernel⟩,
   ⟨set [(Key.lifecycleState, 2)] fun d => keyd 5 (hrt (fun h => { h with sealBroken := 1 }) d), env1, ⟨0x3904, 1⟩, leBytes 4 5, [], 0, .calibrationWrite env1 ⟨0x3904, 1⟩ (leBytes 4 5), 1, [1, 2], by decide +kernel⟩⟩

/-- What a premise of LegalCommandsTakeEffect says. -/
abbrev legalCommandsTakeEffect_passes (s : State) (env : LegalEnv) : Prop := s.dev.heartwoodTakes = true ∧ s.dev.rail .vddMem = true ∧ env.sigOk = true ∧ env.hashOk = true ∧
    (s.dev.keyOf 0x05).isSome = true ∧ s.dev.burlUp = true ∧ s.dev.nat Key.legalSequence < env.seq ∧ s.dev.heart.sealBroken = 0

/-- The premises of LegalCommandsTakeEffect can be met together. -/
theorem witness_LegalCommandsTakeEffect :
    (∃ (s : State) (env : LegalEnv) (o : ObjRef) (data : Bytes) (r : Row) (p : Option PortId), legalCommandsTakeEffect_passes s env ∧ s.dev.lifecycle ∈ [1, 2] ∧ Dev.calibrationPort (keyOfObj o) = some p ∧ rowOf (keyOfObj o) = some r ∧ valueFault (keyOfObj o) r data = none ∧ ((match p with | some q => s.dev.clearing q | none => s.dev.allClearing) = true) ∧ (keyOfObj o / 256 ≤ 0x3943 → (s.dev.put (keyOfObj o) (r.ty.decode data)).channelInRange (keyOfObj o / 256 - 0x3900) = true) ∧ (0x3984 ≤ keyOfObj o / 256 → keyOfObj o / 256 ≤ 0x3987 → keyOfObj o % 256 < 3) ∧ (keyOfObj o / 256 = 0x3989 → (s.dev.put (keyOfObj o) (r.ty.decode data)).edgesRise = true)) ∧
    (∃ (s : State) (env : LegalEnv) (o : ObjRef) (data : Bytes) (r : Row), legalCommandsTakeEffect_passes s env ∧ s.dev.lifecycle ∈ [1, 2] ∧ (keyOfObj o = Key.utilityMeterNumber ∨ keyOfObj o = Key.approvalMark ∨ ((keyOfObj o = Key.mandatoryCount ∨ keyOfObj o / 256 = 0xF381 ∧ 1 ≤ keyOfObj o % 256 ∧ keyOfObj o % 256 ≤ 0x20) ∧ (s.dev.put (keyOfObj o) (r.ty.decode data)).itemsComplete = true)) ∧ rowOf (keyOfObj o) = some r ∧ valueFault (keyOfObj o) r data = none) ∧
    (∃ (s : State) (env : LegalEnv), legalCommandsTakeEffect_passes s env ∧ s.dev.lifecycle = 2 ∧ s.dev.allClearing = true ∧ calibrationValue s.dev = s.dev.nat Key.calibrationCheck ∧ (∀ g : Nat, g < 0x20 → (g = 0x10 ∨ 0x18 ≤ g) → (s.dev.group g).phase ≠ .staging ∧ (s.dev.group g).phase ≠ .committing) ∧ s.dev.burl.sealFuses = 0 ∧ s.dev.burl.keyOp = none) ∧
    (∃ (d : Dev), d.burl.sealFuses = 2 ∧ d.burlUp = true ∧ d.burl.fuseAt + 10 ≤ d.nowMs) ∧
    (∃ (d : Dev) (k : Nat), d.burl.sealFuses = 2 ∧ d.burlUp = true ∧ d.burl.fuseAt + 10 ≤ d.nowMs ∧ k ≠ Key.lifecycleState) ∧
    (∃ (s : State) (env : LegalEnv) (slot : Nat) (record : Bytes) (a : Account), legalCommandsTakeEffect_passes s env ∧ s.dev.lifecycle ≤ 3 ∧ record.length = 64 ∧ record.drop 60 = [0, 0, 0, 0] ∧ s.dev.acct slot = some a ∧ s.dev.balancesMove = true ∧ (fieldsOf record).status ≠ 0 ∧ a.sound = false) ∧
    (∃ (s : State) (env : LegalEnv) (slot : Nat) (record : Bytes) (a : Account), legalCommandsTakeEffect_passes s env ∧ s.dev.lifecycle ≤ 3 ∧ record.length = 64 ∧ record.drop 60 = [0, 0, 0, 0] ∧ s.dev.acct slot = some a ∧ s.dev.balancesMove = true ∧ (fieldsOf record).status ≠ 0 ∧ a.sound = true) :=
  ⟨⟨set [(Key.lifecycleState, 2)] fun d => keyd 5 d, env1, ⟨0x3904, 1⟩, leBytes 4 5, ⟨0x3900, 1, 68, 1, 1, .i 4, .lgl, .int 0, .ints [(-419430, 419430)], false⟩, some 0, by decide +kernel⟩,
   ⟨set [(Key.lifecycleState, 1)] fun d => keyd 5 d, env1, ⟨0xF000, 1⟩, List.replicate 20 0x31, ⟨0xF000, 1, 1, 1, 1, .str 20, .lgl, .bytes [], .any, false⟩, by decide +kernel⟩,
   ⟨sealable, env1, by decide +kernel, by decide +kernel, by decide +kernel, calibrationValue_sealable, by decide +kernel, by decide +kernel, by decide +kernel⟩,
   ⟨brl (fun b => { b with sealFuses := 2, fuseAt := 0 }) (late 10 base), by decide +kernel⟩,
   ⟨brl (fun b => { b with sealFuses := 2, fuseAt := 0 }) (late 10 base), 0, by decide +kernel⟩,
   ⟨set [(Key.lifecycleState, 3)] fun d => keyd 5 (led (fun l => { l with accounts := [(0, badAcc)] }) d), env1, 0, record1, badAcc, by decide +kernel⟩,
   ⟨set [(Key.lifecycleState, 3)] fun d => keyd 5 (withAcc d), env1, 0, record1, acc, by decide +kernel⟩⟩

/-- What a premise of RecordsAreSignedAndInspectionsShow says. -/
abbrev recordsAreSignedAndInspectionsShow_stands (s : State) (body : List Key) : Prop := s.dev.heartwoodTakes = true ∧ s.dev.power.state ≠ .starting ∧
    s.dev.ledger.keypad.entry = .star :: body ++ [.hash]

/-- The premises of RecordsAreSignedAndInspectionsShow can be met together. -/
theorem witness_RecordsAreSignedAndInspectionsShow :
    (∃ (s : State) (n : Nat) (rest : List Nat) (o : RecordOpening) (b : RecordBody), s.dev.burl.signing = .record ∧ s.dev.heart.signQueue = n :: rest ∧ s.dev.burlUp = true ∧ s.dev.heartwoodUp = true ∧ (s.dev.keyOf 0x04).isSome = true ∧ (s.dev.heart.records.find? (fun (x : Nat × RecordSlot) => x.1 = n % 8192) = some (n % 8192, .stored o b)) ∧ b.number = n) ∧
    (∃ (s : State) (n : Nat) (rest : List Nat) (ok : Bool), s.dev.burl.signing = .record ∧ s.dev.heart.signQueue = n :: rest ∧ s.dev.burlUp = true ∧ s.dev.heartwoodUp = true ∧ s.dev.rail .vddMem = true ∧ (ok = false ∨ s.dev.keyOf 0x04 = none)) ∧
    (∃ (s : State) (at_ : Nat), s.dev.heart.signRetryAt = some at_ ∧ s.dev.heartwoodUp = true ∧ at_ ≤ s.dev.nowMs) ∧
    (∃ (s : State), recordsAreSignedAndInspectionsShow_stands s [.digit 0]) ∧
    (∃ (s : State) (p : PortId), recordsAreSignedAndInspectionsShow_stands s [.digit 1, .digit ⟨p, by omega⟩]) ∧
    (∃ (s : State), recordsAreSignedAndInspectionsShow_stands s [.digit 9]) ∧
    (∃ (s : State) (i : Inspection), s.dev.heart.inspection = some i ∧ s.dev.powered = true) :=
  ⟨⟨set [(Key.lifecycleState, 3)] fun d => keyd 4 (hrt (fun h => { h with signQueue := [5], records := [(5, .stored part1 body1)] }) { d with burl := { d.burl with signing := .record } }), 5, [], part1, body1, by decide +kernel⟩,
   ⟨set [(Key.lifecycleState, 3)] fun d => keyd 4 (hrt (fun h => { h with signQueue := [5], records := [(5, .stored part1 body1)] }) { d with burl := { d.burl with signing := .record } }), 5, [], false, by decide +kernel⟩,
   ⟨dev (hrt fun h => { h with signRetryAt := some 0 }), 0, by decide +kernel⟩,
   ⟨dev (kpad fun k => { k with entry := [.star, .digit 0, .hash] }), by decide +kernel⟩,
   ⟨dev (kpad fun k => { k with entry := [.star, .digit 1, .digit 7, .hash] }), 7, by decide +kernel⟩,
   ⟨dev (kpad fun k => { k with entry := [.star, .digit 9, .hash] }), by decide +kernel⟩,
   ⟨dev (hrt fun h => { h with inspection := some ⟨0, none, none⟩ }), ⟨0, none, none⟩, by decide +kernel⟩⟩

/-- What a premise of SafetyTicksGiveTheArbiterItsTurn says. -/
abbrev safetyTicksGiveTheArbiterItsTurn_noTrial (s : State) : Prop := ∀ r ∈ s.dev.update.run, r.phase = .preparing

/-- The premises of SafetyTicksGiveTheArbiterItsTurn can be met together. -/
theorem witness_SafetyTicksGiveTheArbiterItsTurn :
    (∃ (s : State), s.dev.powered = true ∧ s.dev.clocks.i7Lost = false ∧ safetyTicksGiveTheArbiterItsTurn_noTrial s) ∧
    (∃ (s : State), (s.dev.powered = false ∨ s.dev.clocks.i7Lost = true)) ∧
    (∃ (d : Dev) (p : PortId), Dev.mayClose p d = true) ∧
    (∃ (d : Dev) (p : PortId), Dev.mayClose p d = false ∧ ((d.arbiter p).psafe p).enA = true) ∧
    (∃ (d : Dev) (p : PortId), Dev.mayClose p d = false ∧ ((d.arbiter p).psafe p).enB = true) ∧
    (∃ (d : Dev) (p : PortId) (b : Nat), b < 21 ∧ (d.port p).session = .energised ∧ d.isDc p = false ∧ d.hasCause p b = true ∧ (d.psafe p).ramped.testBit b = false ∧ d.causeKind p b = .immediate) ∧
    (∃ (d : Dev) (p : PortId) (b : Nat), b < 21 ∧ (d.port p).session = .energised ∧ d.causes p = 2 ^ b ∧ (d.port p).level2 = false ∧ (d.port p).stop = none ∧ d.causeKind p b = .ramp ∧ (d.psafe p).ramped = 0 ∧ (d.psafe p).ramps = [] ∧ (d.psafe p).zeroAt = none ∧ (d.psafe p).dropAt = none ∧ d.measured p ≠ 0 ∧ d.nat (Key.rampTime p) ≠ 0) :=
  ⟨⟨st, by decide +kernel⟩,
   ⟨dev fun d => { d with clocks := { d.clocks with i7Lost := true } }, by decide +kernel⟩,
   ⟨(set [(Key.portMode 0, 1), (Key.level1Causes 0, 0), (Key.servingEngine 0, 0), (Key.lockType 0, 0), (Key.rcdEnable 0, 0), (Key.gridState, 0)] fun d => prt (fun q => { q with session := .authorised, start := true, pilot := .c, basic := true }) (cro 0x30 (fun x => { x with stale := false }) (cro 0x31 (fun x => { x with stale := false }) (cro 0x35 (fun x => { x with stale := false }) { d with clocks := { d.clocks with checked := true } })))).dev, 0, by decide +kernel⟩,
   ⟨(set [(Key.portMode 0, 1), (Key.level1Causes 0, 0)] fun d => psf (fun q => { q with enA := true, enB := true, view := ⟨160, 0, 0, 0⟩ }) (prt (fun q => { q with session := .energised }) d)).dev, 0, by decide +kernel⟩,
   ⟨(set [(Key.portMode 0, 1), (Key.level1Causes 0, 0)] fun d => psf (fun q => { q with enA := true, enB := true, view := ⟨160, 0, 0, 0⟩ }) (prt (fun q => { q with session := .energised }) d)).dev, 0, by decide +kernel⟩,
   ⟨(set [(Key.portMode 0, 1), (Key.level1Causes 0, 2)] fun d => psf (fun q => { q with enA := true, enB := true, view := ⟨160, 0, 0, 0⟩ }) (prt (fun q => { q with session := .energised }) d)).dev, 0, 1, by decide +kernel⟩,
   ⟨(set [(Key.portMode 0, 1), (Key.level1Causes 0, 4)] fun d => psf (fun q => { q with enA := true, enB := true, view := ⟨160, 0, 0, 0⟩ }) (prt (fun q => { q with session := .energised }) d)).dev, 0, 2, by decide +kernel⟩⟩

/-- The premises of InputsResetsAndCommissioning can be met together. -/
theorem witness_InputsResetsAndCommissioning :
    (∃ (s : State), s.dev.powered = true ∧ s.dev.clocks.i7Lost = false) ∧
    (∃ (s : State) (i : Fin 4), s.dev.powered = true ∧ s.dev.clocks.i7Lost = false ∧ s.dev.inputUsed i = true ∧ s.dev.discrepancyT i ≤ s.dev.safety.differ[i] ∧ (s.dev.nat Key.discrepancyLatched).testBit i = false) ∧
    (∃ (s : State) (rise : Nat), s.dev.safety.edge = some rise) ∧
    (∃ (s : State), s.dev.safety.edge = none) ∧
    (∃ (s : State) (n : Nat), s.dev.safety.resetHigh = some n ∧ s.dev.powered = true ∧ s.dev.clocks.i7Lost = false ∧ n + 2000 ≤ s.dev.tick7 ∧ s.dev.flag Key.resetStuck = false) ∧
    (∃ (s : State) (m : HostMsg) (data : Bytes), s.dev.grants m = true ∧ takes Key.confirmCheck data = true ∧ s.dev.nat Key.commissionState ≠ 0) ∧
    (∃ (s : State) (m : HostMsg) (data : Bytes), s.dev.grants m = true ∧ takes Key.confirmCheck data = true ∧ s.dev.nat Key.commissionState = 0 ∧ (¬ (sentValue Key.confirmCheck data = .int (s.dev.int Key.computedCheck)))) ∧
    (∃ (s : State) (m : HostMsg) (data : Bytes), s.dev.grants m = true ∧ takes Key.confirmCheck data = true ∧ s.dev.nat Key.commissionState = 0 ∧ (sentValue Key.confirmCheck data = .int (s.dev.int Key.computedCheck))) ∧
    (∃ (s : State), s.dev.powered = true ∧ s.dev.clocks.i7Lost = false ∧ s.dev.nat Key.commissionState = 1) :=
  ⟨⟨st, by decide +kernel⟩,
   ⟨dev (saf fun x => { x with differ := Vector.replicate 4 100 }), 0, by decide +kernel⟩,
   ⟨dev (saf fun x => { x with edge := some 5 }), 5, by decide +kernel⟩,
   ⟨st, by decide +kernel⟩,
   ⟨dev fun d => late7 2000 (saf (fun x => { x with resetHigh := some 0 }) d), 0, by decide +kernel⟩,
   ⟨set [(Key.commissionState, 1), (Key.computedCheck, 77)], hm, leBytes 4 77, by decide +kernel⟩,
   ⟨set [(Key.commissionState, 0), (Key.computedCheck, 77)], hm, leBytes 4 78, by decide +kernel⟩,
   ⟨set [(Key.commissionState, 0), (Key.computedCheck, 77)], hm, leBytes 4 77, by decide +kernel⟩,
   ⟨set [(Key.commissionState, 1)], by decide +kernel⟩⟩

/-- The premises of CurrentAndInsulationHazards can be met together. -/
theorem witness_CurrentAndInsulationHazards :
    (∃ (s : State) (p : PortId), s.dev.powered = true ∧ s.dev.clocks.i7Lost = false ∧ s.dev.flag (Key.rcdEnable p) = true ∧ s.dev.hasCause p 7 = false) ∧
    (∃ (s : State) (p : PortId), s.dev.powered = true ∧ s.dev.clocks.i7Lost = false ∧ s.dev.clearing p = true ∧ (s.dev.psafe p).rcdRun = none ∧ (s.dev.psafe p).rcdPass = none) ∧
    (∃ (s : State) (p : PortId) (n : Nat), s.dev.powered = true ∧ s.dev.clocks.i7Lost = false ∧ (s.dev.psafe p).rcdRun = some n ∧ n + 100 ≤ s.dev.tick7) ∧
    (∃ (s : State) (p : PortId), s.dev.auxUp = true ∧ s.dev.isDc p = true ∧ s.dev.flag (Key.imdEnable p) = true ∧ (s.dev.port p).session = .energised ∧ (s.dev.psafe p).isoPassed = false ∧ s.dev.hasCause p 9 = false) ∧
    (∃ (s : State) (p : PortId), s.dev.auxUp = true ∧ s.dev.isDc p = true ∧ s.dev.flag (Key.imdEnable p) = true ∧ (s.dev.port p).session = .energised) ∧
    (∃ (s : State) (p : PortId), s.dev.auxUp = true ∧ s.dev.isDc p = true ∧ s.dev.flag (Key.imdEnable p) = true) ∧
    (∃ (s : State), s.dev.powered = true ∧ s.dev.clocks.i7Lost = false) :=
  ⟨⟨set [(Key.level1Causes 0, 0)], 0, by decide +kernel⟩,
   ⟨st, 0, by decide +kernel⟩,
   ⟨dev fun d => late7 100 (psf (fun q => { q with rcdRun := some 0 }) d), 0, 0, by decide +kernel⟩,
   ⟨set [(Key.portMode 0, 3), (Key.imdEnable 0, 1)] (prt fun q => { q with session := .energised }), 0, by decide +kernel⟩,
   ⟨set [(Key.portMode 0, 3), (Key.imdEnable 0, 1)] (prt fun q => { q with session := .energised }), 0, by decide +kernel⟩,
   ⟨set [(Key.portMode 0, 3), (Key.imdEnable 0, 1)] (prt fun q => { q with session := .energised }), 0, by decide +kernel⟩,
   ⟨st, by decide +kernel⟩⟩

/-- The premises of TemperatureGridAndContactors can be met together. -/
theorem witness_TemperatureGridAndContactors :
    (∃ (s : State) (k : Fin 16) (ohms : Nat), s.dev.auxUp = true ∧ s.dev.nat (Key.sensorPort k) ≤ 8 ∧ 500 ≤ ohms ∧ ohms ≤ 2400) ∧
    (∃ (s : State) (k : Fin 16), s.dev.powered = true ∧ s.dev.clocks.i7Lost = false ∧ s.dev.nat (Key.sensorPort k) ≤ 8) ∧
    (∃ (s : State) (k : Fin 16), s.dev.powered = true ∧ s.dev.clocks.i7Lost = false ∧ s.dev.nat (Key.sensorPort k) ≤ 8 ∧ s.dev.safety.sensors[k].seenAt + 300 ≤ s.dev.tick7) ∧
    (∃ (s : State) (m : HostMsg) (p : PortId) (data : Bytes), s.dev.grants m = true ∧ takes (Key.contactorFaultClear p) data = true) ∧
    (∃ (s : State), s.dev.powered = true ∧ s.dev.clocks.i7Lost = false) ∧
    (∃ (s : State) (n : Nat), s.dev.safety.gridGoodAt = some n ∧ s.dev.powered = true ∧ s.dev.clocks.i7Lost = false ∧ s.dev.nat Key.gridState ≠ 0 ∧ n + 1000 * s.dev.nat Key.gridReconnectS ≤ s.dev.tick7) ∧
    (∃ (s : State) (p : PortId), s.dev.powered = true ∧ s.dev.clocks.i7Lost = false ∧ (s.dev.port p).session = .stopping ∧ 5 ≤ (s.dev.psafe p).follow) :=
  ⟨⟨set [(Key.sensorPort 15, 8)] (late7 300), 15, 2400, by decide +kernel⟩,
   ⟨set [(Key.sensorPort 15, 8)] (late7 300), 15, by decide +kernel⟩,
   ⟨set [(Key.sensorPort 15, 8)] (late7 300), 15, by decide +kernel⟩,
   ⟨st, hm, 0, [1], by decide +kernel⟩,
   ⟨st, by decide +kernel⟩,
   ⟨set [(Key.gridState, 1)] fun d => late7 60000 (saf (fun x => { x with gridGoodAt := some 0 }) d), 0, by decide +kernel⟩,
   ⟨dev fun d => psf (fun q => { q with follow := 5 }) (prt (fun q => { q with session := .stopping }) d), 0, by decide +kernel⟩⟩

/-- What a premise of FirebreakFaultsOpenEveryPort says. -/
abbrev firebreakFaultsOpenEveryPort_noTrial (s : State) : Prop := ∀ r ∈ s.dev.update.run, r.phase = .preparing

/-- The premises of FirebreakFaultsOpenEveryPort can be met together. -/
theorem witness_FirebreakFaultsOpenEveryPort :
    (∃ (s : State) (r : FbFault), s.dev.powered = true ∧ s.dev.clocks.i7Lost = false ∧ firebreakFaultsOpenEveryPort_noTrial s ∧ (match r with
     | .messageMissing b => 3 ≤ (if b then s.dev.safety.missingB else s.dev.safety.missingA)
     | .viewsDiffer => 3 ≤ s.dev.safety.viewsDiffer
     | .checksDiffer => s.dev.safety.checkA ≠ s.dev.safety.checkB
     | .causesDiffer => ∃ p : Fin 8, 1000 ≤ s.dev.safety.causesDiffer[p]
     | .tickGap => True
     | .selfTest => True)) ∧
    (∃ (s : State) (o : OsOutput) (n : Nat), s.dev.powered = true ∧ s.dev.clocks.i7Lost = false ∧ firebreakFaultsOpenEveryPort_noTrial s ∧ (o, n) ∈ s.dev.safety.outDiffer ∧ 2 ≤ n) ∧
    (∃ (s : State) (o : OsOutput), (∀ x ∈ s.dev.safety.outDiffer, x.1 = o → x.2 < 2)) ∧
    (∃ (s : State) (o : OsOutput), s.dev.powered = true ∧ s.dev.clocks.i7Lost = false ∧ firebreakFaultsOpenEveryPort_noTrial s ∧ s.dev.flag Key.outputTestPulse = true ∧ outputHigh s.dev o = true ∧ (s.dev.safety.pulseAt = 0 ∨ s.dev.safety.pulseAt + 100 ≤ s.dev.tick7)) ∧
    (∃ (s : State) (b : Bool) (n : Nat), s.dev.powered = true ∧ firebreakFaultsOpenEveryPort_noTrial s ∧ (if b then s.dev.safety.restartB else s.dev.safety.restartA) = some n ∧ n + 150 ≤ s.dev.tick7 ∧ s.dev.running (if b then .firebreakB else .firebreakA) = false) ∧
    (∃ (s : State), s.dev.powered = true ∧ s.dev.running .firebreakA = true ∧ s.dev.running .firebreakB = true ∧ firebreakFaultsOpenEveryPort_noTrial s) :=
  ⟨⟨dev (saf fun x => { x with viewsDiffer := 3 }), .viewsDiffer, by decide +kernel, by decide +kernel, by decide +kernel, (show 3 ≤ (dev (saf fun x => { x with viewsDiffer := 3 })).dev.safety.viewsDiffer from by decide +kernel)⟩,
   ⟨dev (saf fun x => { x with outDiffer := [(.contEn 0 true, 2)] }), .contEn 0 true, 2, by decide +kernel⟩,
   ⟨dev (saf fun x => { x with outDiffer := [(.safeOut true, 2)] }), .contEn 0 true, by decide +kernel⟩,
   ⟨set [(Key.safeOut, 2), (Key.outputTestPulse, 1)] (late7 100), .safeOut true, by decide +kernel⟩,
   ⟨dev fun d => late7 150 (saf (fun x => { x with restartB := some 0 }) (d.setCore .firebreakB .held)), true, 0, by decide +kernel⟩,
   ⟨st, by decide +kernel⟩⟩

/-- The premises of CanopyNodesKeepTheGrid can be met together. -/
theorem witness_CanopyNodesKeepTheGrid :
    (∃ (s : State), s.dev.canopyUp = true ∧ s.dev.canopyRange = false ∧ s.dev.canopy.node ≠ .off) ∧
    (∃ (s : State), s.dev.canopyUp = true ∧ s.dev.canopyRange = true ∧ s.dev.canopy.node = .off) ∧
    (∃ (s : State), s.dev.canopyUp = true ∧ (s.dev.canopyRange = true ↔ s.dev.canopy.node ≠ .off)) ∧
    (∃ (s : State), s.dev.canopyUp = true ∧ s.dev.canopy.node ≠ .off ∧ (¬ ((s.dev.canopy.cyc + 1) % 64 = 0 ∧ s.dev.passes 0x1B = true ∧ s.dev.canopy.yields = true))) ∧
    (∃ (s : State), s.dev.canopyUp = true ∧ s.dev.canopy.node ≠ .off ∧ (s.dev.canopy.cyc + 1) % 64 = 0 ∧ s.dev.passes 0x1B = true ∧ s.dev.canopy.yields = true) ∧
    (∃ (s : State), s.dev.canopyUp = true ∧ s.dev.passes 0x19 = true ∧ s.dev.passes 0x1B = true ∧ s.dev.canopyRange = true ∧ s.dev.canopy.node = .coordinator ∧ s.dev.canopy.cyc = 0 ∧ 64 ≤ s.dev.canopy.sinceBeacon) ∧
    (∃ (s : State), s.dev.canopyHears = true ∧ s.dev.passes 0x1B = true ∧ s.dev.canopyRange = true ∧ s.dev.canopy.node = .listening) ∧
    (∃ (s : State) (network : Fin 4096), s.dev.canopyHears = true ∧ s.dev.passes 0x1B = true ∧ s.dev.canopyRange = true ∧ s.dev.canopy.node = .member ∧ s.dev.canopy.heard = some network.val) ∧
    (∃ (s : State) (network : Fin 4096), s.dev.canopyHears = true ∧ s.dev.passes 0x1B = true ∧ s.dev.canopyRange = true ∧ s.dev.canopy.node = .member ∧ s.dev.canopy.heard ≠ some network.val) ∧
    (∃ (s : State), s.dev.canopyUp = true ∧ (s.dev.canopy.node = .member ∨ s.dev.canopy.node = .joining) ∧ 65 ≤ s.dev.canopy.sinceBeacon) ∧
    (∃ (s : State), s.dev.canopyTalks = true ∧ s.dev.canopyRange = true ∧ s.dev.canopy.node = .coordinator ∧ s.dev.canopy.cyc = 1 ∧ s.dev.canopy.nifFollows = true ∧ s.dev.byAddr 0x7FF = none ∧ s.dev.burl.broadcast.isSome = true) ∧
    (∃ (s : State) (f : CnpFrame) (p : NifPayload), s.dev.canopyHears = true ∧ s.dev.canopyRange = true ∧ f.bodyOk = true ∧ f.micOk = true ∧ s.dev.canopy.node = .listening ∧ s.dev.canopy.heard = some p.network.val ∧ 64 ≤ s.dev.canopy.listened ∧ s.dev.canopyHeld = false) ∧
    (∃ (s : State) (f : CnpFrame) (p : NifPayload), s.dev.canopyHears = true ∧ s.dev.canopyRange = true ∧ f.bodyOk = true ∧ f.micOk = true ∧ s.dev.canopy.node = .coordinator ∧ s.dev.canopy.heard = some p.network.val ∧ p.network.val ≠ s.dev.nat Key.networkId ∧ s.dev.canopy.yields = false) ∧
    (∃ (s : State) (f : CnpFrame) (p : NifPayload) (n : Fin 128) (x : Neigh) (w : Nat × Nat), s.dev.canopyHears = true ∧ s.dev.canopyRange = true ∧ s.dev.holdsMap f = true ∧ s.dev.keyLoaded f n = true ∧ s.dev.canopy.node = .member ∧ p.network.val = s.dev.nat Key.networkId ∧ f.dst.val = 0x7FF ∧ s.dev.nat Key.shortAddress ≠ 0x7FF ∧ f.bodyOk = true ∧ f.secured = true ∧ f.micOk = true ∧ s.dev.byAddr f.src = some n ∧ s.dev.canopy.neigh[n] = some x ∧ Dev.counterWindow x.high x.window f.counter.toNat = some w) ∧
    (∃ (s : State) (random : Nat), s.dev.canopyUp = true ∧ s.dev.burlUp = true ∧ s.dev.canopyRange = true ∧ s.dev.canopy.node = .listening ∧ s.dev.canopyHeld = false ∧ s.dev.flag Key.coordinatorAllowed = true ∧ random < 64 ∧ 192 + random ≤ s.dev.canopy.sinceBeacon) ∧
    (∃ (s : State), s.dev.canopyHears = true ∧ s.dev.canopy.node ≠ .off) :=
  ⟨⟨set [(Key.canopyEnable, 0)] (cnp fun c => { c with node := .member }), by decide +kernel⟩,
   ⟨node .off, by decide +kernel⟩,
   ⟨node .member, by decide +kernel⟩,
   ⟨node .member fun c => { c with cyc := 63 }, by decide +kernel⟩,
   ⟨node .coordinator fun c => { c with cyc := 63, yields := true }, by decide +kernel⟩,
   ⟨node .coordinator fun c => { c with sinceBeacon := 64 }, by decide +kernel⟩,
   ⟨node .listening, by decide +kernel⟩,
   ⟨member 9 .member fun c => { c with heard := some 33 }, 33, by decide +kernel⟩,
   ⟨member 9 .member, 33, by decide +kernel⟩,
   ⟨member 9 .member fun c => { c with sinceBeacon := 65 }, by decide +kernel⟩,
   ⟨node .coordinator fun c => { c with cyc := 1, nifFollows := true }, by decide +kernel⟩,
   ⟨node .listening fun c => { c with heard := some 33, listened := 64 }, frm, nif1, by decide +kernel⟩,
   ⟨node .coordinator fun c => { c with heard := some 34 }, frm, { nif1 with network := 34 }, by decide +kernel⟩,
   ⟨member 9 .member, { frm with dst := 0x7FF }, nif1, 7, nei, (101, 1), by decide +kernel⟩,
   ⟨node .listening fun c => { c with sinceBeacon := 255 }, 63, by decide +kernel⟩,
   ⟨node .member, by decide +kernel⟩⟩

/-- What a premise of CanopyNodesJoinAndLeave says. -/
abbrev canopyNodesJoinAndLeave_known (d : Dev) (f : CnpFrame) (n : Fin 128) (x : Neigh) : Prop := d.canopyHears = true ∧ d.holdsMap f = true ∧ f.dst.val = d.nat Key.shortAddress ∧ f.bodyOk = true ∧
    d.byAddr f.src = some n ∧ d.canopy.neigh[n] = some x ∧ x.rxSeq ≠ some f.seq.val

/-- The premises of CanopyNodesJoinAndLeave can be met together. -/
theorem witness_CanopyNodesJoinAndLeave :
    (∃ (s : State) (f : CnpFrame) (long : Bytes) (previous : Nat), s.dev.canopyHears = true ∧ s.dev.burlUp = true ∧ s.dev.holdsMap f = true ∧ s.dev.canopy.node = .coordinator ∧ (f.dst.val = 0 ∨ f.dst.val = 0x7FF) ∧ f.bodyOk = true ∧ s.dev.heldAddress long = none ∧ ((if 1 ≤ previous ∧ previous ≤ 0x3FF ∧ s.dev.addrFree previous = true then some previous else s.dev.freeAddress) = none)) ∧
    (∃ (s : State) (f : CnpFrame) (long : Bytes) (previous : Nat), s.dev.canopyHears = true ∧ s.dev.burlUp = true ∧ s.dev.holdsMap f = true ∧ s.dev.canopy.node = .coordinator ∧ (f.dst.val = 0 ∨ f.dst.val = 0x7FF) ∧ f.bodyOk = true ∧ s.dev.heldAddress long = none ∧ s.dev.keyOf 0x08 = none ∧ ((if 1 ≤ previous ∧ previous ≤ 0x3FF ∧ s.dev.addrFree previous = true then some previous else s.dev.freeAddress).isSome = true)) ∧
    (∃ (s : State) (f : CnpFrame) (long : Bytes) (previous : Nat) (a : Nat), s.dev.canopyHears = true ∧ s.dev.burlUp = true ∧ s.dev.holdsMap f = true ∧ s.dev.canopy.node = .coordinator ∧ (f.dst.val = 0 ∨ f.dst.val = 0x7FF) ∧ f.bodyOk = true ∧ s.dev.heldAddress long = none ∧ (s.dev.keyOf 0x08).isSome = true ∧ (a ∈ (if 1 ≤ previous ∧ previous ≤ 0x3FF ∧ s.dev.addrFree previous = true then some previous else s.dev.freeAddress))) ∧
    (∃ (s : State) (f : CnpFrame) (long : Bytes) (previous : Nat) (n : Fin 128) (x : Neigh), s.dev.canopyHears = true ∧ s.dev.burlUp = true ∧ s.dev.holdsMap f = true ∧ s.dev.canopy.node = .coordinator ∧ (f.dst.val = 0 ∨ f.dst.val = 0x7FF) ∧ f.bodyOk = true ∧ s.dev.byLong long = some n ∧ s.dev.canopy.neigh[n] = some x ∧ x.addr ≠ previous) ∧
    (∃ (s : State) (f : CnpFrame) (long : Bytes) (a : Fin 2048), s.dev.canopyHears = true ∧ s.dev.holdsMap f = true ∧ s.dev.canopy.node = .joining ∧ s.dev.nat Key.shortAddress = 0x7FE ∧ f.bodyOk = true ∧ long = s.dev.ownLong ∧ s.dev.burlUp = true ∧ f.secured = true ∧ f.micOk = true ∧ a.val ≤ 0x3FF ∧ (s.dev.keyOf 0x08).isSome = true) ∧
    (∃ (s : State) (f : CnpFrame) (long : Bytes) (a : Fin 2048), s.dev.canopyHears = true ∧ s.dev.holdsMap f = true ∧ s.dev.canopy.node = .joining ∧ s.dev.nat Key.shortAddress = 0x7FE ∧ f.bodyOk = true ∧ long = s.dev.ownLong ∧ s.dev.burlUp = true ∧ (f.secured = false ∨ f.micOk = false ∨ 0x3FF < a.val ∨ s.dev.keyOf 0x08 = none)) ∧
    (∃ (s : State) (f : CnpFrame) (long : Bytes), s.dev.canopyHears = true ∧ s.dev.holdsMap f = true ∧ s.dev.canopy.node = .joining ∧ f.bodyOk = true ∧ long = s.dev.ownLong) ∧
    (∃ (s : State), s.dev.canopyUp = true ∧ s.dev.canopy.node = .joining ∧ s.dev.canopy.joinBy ≤ s.dev.canopy.sf ∧ s.dev.nat Key.shortAddress = 0x7FE) ∧
    (∃ (s : State) (f : CnpFrame) (n : Fin 128) (x : Neigh) (w : Nat × Nat), canopyNodesJoinAndLeave_known s.dev f n x ∧ f.secured = true ∧ f.micOk = true ∧ s.dev.keyLoaded f n = true ∧ Dev.counterWindow x.high x.window f.counter.toNat = some w ∧ s.dev.canopy.node = .coordinator) ∧
    (∃ (s : State) (f : CnpFrame) (n : Fin 128) (x : Neigh) (w : Nat × Nat), canopyNodesJoinAndLeave_known s.dev f n x ∧ f.secured = true ∧ f.micOk = true ∧ s.dev.keyLoaded f n = true ∧ Dev.counterWindow x.high x.window f.counter.toNat = some w ∧ s.dev.canopy.node = .member ∧ x.addr = 0) ∧
    (∃ (s : State) (m : HostMsg) (data : Bytes), s.dev.grants m = true ∧ takes Key.rejoin data = true ∧ s.dev.canopyUp = true ∧ s.dev.canopy.node ≠ .off) ∧
    (∃ (s : State) (m : HostMsg) (data : Bytes), s.dev.grants m = true ∧ takes Key.rejoin data = true ∧ s.dev.canopyUp = true ∧ s.dev.canopy.node = .off) ∧
    (∃ (s : State) (n : Fin 128) (x : Neigh), s.dev.canopyUp = true ∧ s.dev.canopy.node = .coordinator ∧ s.dev.canopy.neigh[n] = some x) ∧
    (∃ (s : State) (f : CnpFrame) (n : Fin 128) (x : Neigh), canopyNodesJoinAndLeave_known s.dev f n x ∧ (s.dev.canopy.node = .member ∨ s.dev.canopy.node = .coordinator)) ∧
    (∃ (s : State), s.dev.canopyUp = true ∧ s.dev.canopy.node = .member) ∧
    (∃ (s : State) (f : CnpFrame), s.dev.canopyHears = true ∧ s.dev.holdsMap f = true ∧ (s.dev.canopy.node = .member ∨ s.dev.canopy.node = .coordinator) ∧ f.dst.val = s.dev.nat Key.shortAddress ∧ s.dev.burlUp = true ∧ f.bodyOk = true ∧ (s.dev.keyOf 0x08).isSome = true) ∧
    (∃ (s : State) (f : CnpFrame), s.dev.canopyHears = true ∧ s.dev.holdsMap f = true ∧ (s.dev.canopy.node = .member ∨ s.dev.canopy.node = .coordinator) ∧ f.dst.val = s.dev.nat Key.shortAddress ∧ s.dev.burlUp = true ∧ f.bodyOk = true ∧ s.dev.keyOf 0x08 = none) ∧
    (∃ (s : State) (f : CnpFrame) (n : Fin 128) (x : Neigh) (own : Bytes), s.dev.canopyHears = true ∧ s.dev.holdsMap f = true ∧ f.dst.val = s.dev.nat Key.shortAddress ∧ s.dev.burlUp = true ∧ s.dev.byAddr f.src = some n ∧ s.dev.canopy.neigh[n] = some x ∧ x.linkNonce = some own ∧ f.bodyOk = true ∧ f.secured = true ∧ f.micOk = true ∧ (s.dev.keyOf 0x08).isSome = true) :=
  ⟨⟨fullNet, frm, List.replicate 8 2, 0xFFFF, by decide +kernel, by decide +kernel, by decide +kernel, by decide +kernel, by decide +kernel, by decide +kernel, by decide +kernel, (show (if 1 ≤ 0xFFFF ∧ 0xFFFF ≤ 0x3FF ∧ fullNet.dev.addrFree 0xFFFF = true then some 0xFFFF else fullNet.dev.freeAddress) = none from (if_neg (by simp)).trans fullNet_free)⟩,
   ⟨node .coordinator, frm, List.replicate 8 2, 0x3FF, by decide +kernel⟩,
   ⟨admits (node .coordinator), frm, List.replicate 8 2, 0x3FF, 0x3FF, by decide +kernel⟩,
   ⟨node .coordinator, frm, List.replicate 8 9, 6, 7, nei, by decide +kernel⟩,
   ⟨admits (member 0x7FE .joining), frm, List.replicate 8 6, 0x3FF, by decide +kernel⟩,
   ⟨admits (member 0x7FE .joining), frm, List.replicate 8 6, 0x400, by decide +kernel⟩,
   ⟨member 0x7FE .joining, frm, List.replicate 8 6, by decide +kernel⟩,
   ⟨member 0x7FE .joining, by decide +kernel⟩,
   ⟨node .coordinator, frm, 7, nei, (101, 1), by decide +kernel⟩,
   ⟨member 9 .member fun c => { c with neigh := c.neigh.set 7 (some { nei with addr := 0 }) }, { frm with src := 0, dst := 9 }, 7, { nei with addr := 0 }, (101, 1), by decide +kernel⟩,
   ⟨node .member, hm, [1], by decide +kernel⟩,
   ⟨st, hm, [1], by decide +kernel⟩,
   ⟨node .coordinator, 7, nei, by decide +kernel⟩,
   ⟨node .coordinator, frm, 7, nei, by decide +kernel⟩,
   ⟨node .member, by decide +kernel⟩,
   ⟨admits (node .coordinator), frm, by decide +kernel⟩,
   ⟨node .coordinator, frm, by decide +kernel⟩,
   ⟨admits (node .coordinator fun c => { c with neigh := c.neigh.set 7 (some { nei with linkNonce := some (List.replicate 16 3) }) }), frm, 7, { nei with linkNonce := some (List.replicate 16 3) }, List.replicate 16 3, by decide +kernel⟩⟩

/-- The premises of CanopyFramesAreSentAndChecked can be met together. -/
theorem witness_CanopyFramesAreSentAndChecked :
    (∃ (s : State) (heard : List HeardSym) (tx : CnpTx) (rest : List CnpTx), s.dev.canopy.queue = tx :: rest ∧ s.dev.canopyTalks = true ∧ s.dev.canopyRange = true ∧ (s.dev.listen heard).canopy.medium.busy = false ∧ s.dev.canopy.wait = none ∧ s.dev.canopy.node ≠ .off ∧ s.dev.canopy.node ≠ .listening ∧ (tx.msg.secured = true → (s.dev.frameKey tx.dst tx.msg).isSome = true) ∧ s.dev.mayEmit { tx with ackReq := ((tx.ackReq && decide (s.dev.canopy.cyc ≤ 47) : Bool)) } = true) ∧
    (∃ (s : State) (heard : List HeardSym), (s.dev.canopy.queue = [] ∨ (s.dev.listen heard).canopy.medium.busy = true ∨ s.dev.canopyTalks = false)) ∧
    (∃ (s : State) (tx : CnpTx) (n : Nat), s.dev.canopyHears = true ∧ s.dev.canopy.node ≠ .off ∧ s.dev.canopy.node ≠ .listening ∧ s.dev.canopy.wait = some (tx, n)) ∧
    (∃ (s : State) (f : CnpFrame), s.dev.canopyHears = true ∧ s.dev.canopyTalks = true ∧ s.dev.canopy.node ≠ .off ∧ s.dev.canopy.node ≠ .listening ∧ f.dst.val = s.dev.nat Key.shortAddress ∧ s.dev.nat Key.shortAddress ≠ 0x7FE ∧ f.ackReq = true ∧ f.bodyOk = true) ∧
    (∃ (s : State) (tx : CnpTx) (n : Nat), s.dev.canopy.wait = some (tx, n) ∧ n ≤ s.dev.nowMs) ∧
    (∃ (s : State) (tx : CnpTx) (n : Nat), s.dev.canopy.wait = some (tx, n) ∧ s.dev.nowMs < n) ∧
    (∃ (s : State) (f : CnpFrame) (n : Fin 128) (x : Neigh) (c : Instr), s.dev.canopyHears = true ∧ s.dev.holdsMap f = true ∧ s.dev.canopy.node = .coordinator ∧ f.dst.val = s.dev.nat Key.shortAddress ∧ f.bodyOk = true ∧ s.dev.byAddr f.src = some n ∧ s.dev.canopy.neigh[n] = some x ∧ x.rxSeq ≠ some f.seq.val ∧ ((∃ r, c = .leave f r) ∨ (∃ i a b, c = .tonemapRequest f i a b) ∨ (∃ i a p b, c = .tonemapResponse f i a p b) ∨ (∃ p a b, c = .loadReport f p a b) ∨ (∃ i r, c = .appRead f i r) ∨ (∃ i v, c = .appResponse f i v)) ∧ (f.secured = false ∨ f.micOk = false ∨ s.dev.keyLoaded f n = false)) ∧
    (∃ (s : State) (f : CnpFrame) (n : Fin 128) (x : Neigh) (c : Instr), s.dev.canopyHears = true ∧ s.dev.holdsMap f = true ∧ s.dev.canopy.node = .coordinator ∧ f.dst.val = s.dev.nat Key.shortAddress ∧ f.bodyOk = true ∧ s.dev.byAddr f.src = some n ∧ s.dev.canopy.neigh[n] = some x ∧ x.rxSeq ≠ some f.seq.val ∧ ((∃ r, c = .leave f r) ∨ (∃ i a b, c = .tonemapRequest f i a b) ∨ (∃ i a p b, c = .tonemapResponse f i a p b) ∨ (∃ p a b, c = .loadReport f p a b) ∨ (∃ i r, c = .appRead f i r) ∨ (∃ i v, c = .appResponse f i v)) ∧ f.secured = true ∧ f.micOk = true ∧ s.dev.keyLoaded f n = true ∧ (f.counter.toNat = x.high ∨ f.counter.toNat + 32 < x.high ∨ (f.counter.toNat < x.high ∧ x.window.testBit (x.high - 1 - f.counter.toNat) = true))) :=
  ⟨⟨node .coordinator fun c => { c with cyc := 20, queue := [cnpTx1] }, [], cnpTx1, [], by decide +kernel⟩,
   ⟨st, [], by decide +kernel⟩,
   ⟨node .coordinator fun c => { c with wait := some (cnpTx1, 0) }, cnpTx1, 0, by decide +kernel⟩,
   ⟨node .coordinator, frm, by decide +kernel⟩,
   ⟨node .coordinator fun c => { c with wait := some (cnpTx1, 0) }, cnpTx1, 0, by decide +kernel⟩,
   ⟨node .coordinator fun c => { c with wait := some (cnpTx1, 1) }, cnpTx1, 1, by decide +kernel⟩,
   ⟨node .coordinator, { frm with micOk := false }, 7, nei, .leave { frm with micOk := false } 1, by decide +kernel, by decide +kernel, by decide +kernel, by decide +kernel, by decide +kernel, by decide +kernel, by decide +kernel, by decide +kernel, Or.inl ⟨1, rfl⟩, by decide +kernel⟩,
   ⟨node .coordinator, { frm with counter := 100 }, 7, nei, .leave { frm with counter := 100 } 1, by decide +kernel, by decide +kernel, by decide +kernel, by decide +kernel, by decide +kernel, by decide +kernel, by decide +kernel, by decide +kernel, Or.inl ⟨1, rfl⟩, by decide +kernel, by decide +kernel, by decide +kernel, by decide +kernel⟩⟩

/-- What a premise of ToneMapsAndReports says. -/
abbrev toneMapsAndReports_good (d : Dev) (f : CnpFrame) (n : Fin 128) (x : Neigh) (w : Nat × Nat) : Prop := d.canopyHears = true ∧ d.holdsMap f = true ∧
    d.keyLoaded f n = true ∧ f.dst.val = d.nat Key.shortAddress ∧
    f.bodyOk = true ∧ d.byAddr f.src = some n ∧ d.canopy.neigh[n] = some x ∧ x.rxSeq ≠ some f.seq.val ∧ f.secured = true ∧ f.micOk = true ∧
    Dev.counterWindow x.high x.window f.counter.toNat = some w

/-- What a premise of ToneMapsAndReports says. -/
abbrev toneMapsAndReports_in_ (d : Dev) : Prop := d.canopy.node = .member ∨ d.canopy.node = .coordinator

/-- The premises of ToneMapsAndReports can be met together. -/
theorem witness_ToneMapsAndReports :
    (∃ (s : State) (f : CnpFrame) (n : Fin 128) (x : Neigh) (w : Nat × Nat), toneMapsAndReports_good s.dev f n x w ∧ toneMapsAndReports_in_ s.dev) ∧
    (∃ (s : State) (f : CnpFrame) (n : Fin 128) (x : Neigh) (w : Nat × Nat) (id : Byte) (by_ : Nat), toneMapsAndReports_good s.dev f n x w ∧ toneMapsAndReports_in_ s.dev ∧ x.request = some (id.toNat, by_)) ∧
    (∃ (s : State) (n : Fin 128) (x : Neigh), s.dev.canopyUp = true ∧ toneMapsAndReports_in_ s.dev ∧ s.dev.canopy.neigh[n] = some x ∧ x.request = none) ∧
    (∃ (s : State) (n : Fin 128) (x : Neigh) (id : Nat) (by_ : Nat), s.dev.canopyUp = true ∧ s.dev.canopy.neigh[n] = some x ∧ x.request = some (id, by_)) ∧
    (∃ (s : State) (m : HostMsg) (data : Bytes), s.dev.grants m = true ∧ takes Key.refreshToneMaps data = true ∧ s.dev.canopyUp = true) ∧
    (∃ (s : State) (f : CnpFrame) (n : Fin 128) (x : Neigh) (w : Nat × Nat), toneMapsAndReports_good s.dev f n x w ∧ s.dev.canopy.node = .coordinator) ∧
    (∃ (s : State), s.dev.canopyUp = true ∧ s.dev.canopy.node = .member) ∧
    (∃ (s : State) (f : CnpFrame) (n : Fin 128) (x : Neigh) (w : Nat × Nat) (refs : List Word), toneMapsAndReports_good s.dev f n x w ∧ s.dev.canopy.node = .member ∧ 1 ≤ refs.length ∧ refs.length ≤ 16) :=
  ⟨⟨node .coordinator, frm, 7, nei, (101, 1), by decide +kernel⟩,
   ⟨node .coordinator fun c => { c with neigh := c.neigh.set 7 (some { nei with request := some (4, 9) }) }, frm, 7, { nei with request := some (4, 9) }, (101, 1), 4, 9, by decide +kernel⟩,
   ⟨node .member, 7, nei, by decide +kernel⟩,
   ⟨node .coordinator fun c => { c with neigh := c.neigh.set 7 (some { nei with request := some (4, 9) }) }, 7, { nei with request := some (4, 9) }, 4, 9, by decide +kernel⟩,
   ⟨st, hm, [1], by decide +kernel⟩,
   ⟨node .coordinator, frm, 7, nei, (101, 1), by decide +kernel⟩,
   ⟨node .member, by decide +kernel⟩,
   ⟨member 9 .member, { frm with dst := 9 }, 7, nei, (101, 1), List.replicate 16 0x100001, by decide +kernel⟩⟩

/-- What a premise of CheckValueUnitsCheckEntries says. -/
abbrev checkValueUnitsCheckEntries_free (x : Fin 160) (d : Dev) : Prop := ∀ e : Fin 16, ∀ w ∈ d.cvu.engines[e], w.set.context = some x → w.work = none ∧ w.waits = []

/-- The premises of CheckValueUnitsCheckEntries can be met together. -/
theorem witness_CheckValueUnitsCheckEntries :
    (∃ (s : State) (tag : BitVec 5) (e : Fin 16) (w : WindowSet), s.dev.powered = true ∧ (((∃ i, tagUsed s.dev tag = some i ∧ ownsEngine s.dev e i = true : Prop))) ∧ windowFits s.dev w = true ∧ (s.dev.cvu.engines[e]).length < 32) ∧
    (∃ (s : State) (tag : BitVec 5) (e : Fin 16) (w : WindowSet), s.dev.powered = true ∧ (¬ ((∃ i, tagUsed s.dev tag = some i ∧ ownsEngine s.dev e i = true : Prop)) ∨ windowFits s.dev w = false ∨ 32 ≤ (s.dev.cvu.engines[e]).length)) ∧
    (∃ (s : State) (tag : BitVec 5) (e : Fin 16) (i : Nat) (w : CvuWindow), s.dev.powered = true ∧ s.dev.window e i = some w ∧ (∀ j, j ∈ s.dev.cvu.engines[e] → j.disarm = false) ∧ (((∃ j, tagUsed s.dev tag = some j ∧ ownsEngine s.dev e j = true : Prop)))) ∧
    (∃ (s : State) (tag : BitVec 5) (e : Fin 16) (i : Nat) (w : CvuWindow), s.dev.powered = true ∧ s.dev.window e i = some w ∧ (∀ j, j ∈ s.dev.cvu.engines[e] → j.disarm = false) ∧ (¬ ((∃ j, tagUsed s.dev tag = some j ∧ ownsEngine s.dev e j = true : Prop)))) ∧
    (∃ (s : State) (e : Fin 16) (i : Nat), s.dev.powered = true ∧ s.dev.window e i = none) ∧
    (∃ (s : State) (e : Fin 16) (i : Nat) (last : Bool) (w : CvuWindow) (f : Profile), s.dev.engineUp e = true ∧ s.dev.window e i = some w ∧ w.disarm = false ∧ w.set.context = none ∧ s.dev.profileOf w.set.profile = some f ∧ (w.set.finalOnFlag = false ∨ last = true)) ∧
    (∃ (s : State) (e : Fin 16) (i : Nat) (w : CvuWindow) (x : Fin 160), s.dev.engineUp e = true ∧ s.dev.window e i = some w ∧ w.disarm = false ∧ w.set.context = some x ∧ s.dev.nat (Key.contextHolder x) ≠ 0xFF) ∧
    (∃ (s : State) (e : Fin 16) (i : Nat) (w : CvuWindow) (x : Fin 160), s.dev.engineUp e = true ∧ s.dev.window e i = some w ∧ w.disarm = false ∧ w.set.context = some x ∧ s.dev.nat (Key.contextHolder x) = 0xFF ∧ w.waits = [] ∧ (s.dev.profileOf w.set.profile).isSome = true) ∧
    (∃ (s : State) (x : Fin 160) (e : Fin 16) (i : Nat) (v : Nat) (n : Nat) (f : Nat) (w : CvuWindow), s.dev.window e i = some w ∧ w.set.context = some x ∧ w.work = some (v, n, f) ∧ i < 32 ∧ w.disarm = false ∧ (∀ b : Fin 16, ∀ j < (s.dev.cvu.engines[b]).length, ∀ y ∈ (s.dev.window b j).toList, y.set.context = some x → y.waits = [] ∧ ((b, j) ≠ (e, i) → y.work = none))) ∧
    (∃ (s : State) (x : Fin 160), checkValueUnitsCheckEntries_free x s.dev) ∧
    (∃ (s : State) (tag : BitVec 5) (x : Fin 160), s.dev.powered = true ∧ (((tagUsed s.dev tag = some (.core (contextOwner s.dev x)) ∧ s.dev.nat (Key.contextHolder x) = 0xFF : Prop)))) ∧
    (∃ (s : State) (tag : BitVec 5) (x : Fin 160), s.dev.powered = true ∧ (¬ ((tagUsed s.dev tag = some (.core (contextOwner s.dev x)) ∧ s.dev.nat (Key.contextHolder x) = 0xFF : Prop)))) ∧
    (∃ (s : State) (tag : BitVec 5) (f : Fin 16) (width : Nat) (poly : BitVec 64) (ini : BitVec 64) (xorOut : BitVec 64), s.dev.powered = true ∧ ((((∃ c, tagUsed s.dev tag = some (.core c)) ∧ 8 ≤ f.val ∧ width ∈ [8, 16, 32, 64] ∧ poly.toNat % 2 = 1 ∧       poly.toNat < 2 ^ width ∧ ini.toNat < 2 ^ width ∧ xorOut.toNat < 2 ^ width : Prop)))) ∧
    (∃ (s : State) (tag : BitVec 5) (f : Fin 16) (width : Nat) (poly : BitVec 64) (ini : BitVec 64) (xorOut : BitVec 64), s.dev.powered = true ∧ (¬ (((∃ c, tagUsed s.dev tag = some (.core c)) ∧ 8 ≤ f.val ∧ width ∈ [8, 16, 32, 64] ∧ poly.toNat % 2 = 1 ∧       poly.toNat < 2 ^ width ∧ ini.toNat < 2 ^ width ∧ xorOut.toNat < 2 ^ width : Prop)))) ∧
    (∃ (s : State) (m : HostMsg) (data : Bytes), s.dev.grants m = true ∧ takes Key.cvuClearCounters data = true) :=
  ⟨⟨st, 3, 0, wset, by decide +kernel⟩,
   ⟨st, 3, 0, { wset with length := 5 }, by decide +kernel⟩,
   ⟨dev (cv 0 [win]), 3, 0, 0, win, by decide +kernel⟩,
   ⟨dev (cv 0 [win]), 0x1F, 0, 0, win, by decide +kernel⟩,
   ⟨st, 0, 0, by decide +kernel⟩,
   ⟨dev (cv 0 [win]), 0, 0, true, win, ⟨64, 0x42F0E1EBA9EA3693, 0, false, 0⟩, by decide +kernel⟩,
   ⟨set [(Key.contextHolder 3, 1)] (cv 0 [cwin]), 0, 0, cwin, 3, by decide +kernel⟩,
   ⟨set [(Key.contextHolder 3, 0xFF)] (cv 0 [cwin]), 0, 0, cwin, 3, by decide +kernel⟩,
   ⟨dev (cv 0 [{ cwin with work := some (5, 2, 4) }]), 3, 0, 0, 5, 2, 4, { cwin with work := some (5, 2, 4) }, by decide +kernel⟩,
   ⟨st, 3, by decide +kernel⟩,
   ⟨set [(Key.contextHolder 3, 0xFF), (Key.servingEngine 1, 0)], 8, 3, by decide +kernel⟩,
   ⟨st, 0x1F, 3, by decide +kernel⟩,
   ⟨st, 3, 15, 16, 0x1021, 0xFFFF, 0, by decide +kernel, ⟨⟨.heartwood, by decide +kernel⟩, by decide +kernel⟩⟩,
   ⟨st, 3, 7, 16, 0x1021, 0xFFFF, 0, by decide +kernel, fun h => absurd h.2.1 (by decide)⟩,
   ⟨st, hm, [1], by decide +kernel⟩⟩

/-- The premises of BurlKeepsKeysAndSigns can be met together. -/
theorem witness_BurlKeepsKeysAndSigns :
    (∃ (s : State) (tag : BitVec 5) (n : Fin 64) (op : BurlOp) (c : CoreId) (k : KeyHalf), tagUsed s.dev tag = some (.core c) ∧ s.dev.burlUp = true ∧ s.dev.keyOf n = some k ∧ (((match op with       | .loadContext x _ => contextOwner s.dev x = c | .zeroContext x => contextOwner s.dev x = c | _ => True : Prop))) ∧ (k.attrs.testBit 6 = true → c = .heartwood) ∧ (((match op with       | .sign => k.attrs.testBit 0 = true | .verify => k.attrs.testBit 1 = true | .encrypt => k.attrs.testBit 2 = true       | .decrypt => k.attrs.testBit 3 = true | .derive => k.attrs.testBit 4 = true | .wrapOpen => k.attrs.testBit 5 = true       | .loadContext _ _ => k.attrs.testBit 2 = true ∨ k.attrs.testBit 3 = true ∨ k.attrs.testBit 4 = true       | .zeroContext _ => True : Prop)))) ∧
    (∃ (s : State) (tag : BitVec 5) (n : Fin 64) (op : BurlOp) (c : CoreId) (k : KeyHalf), tagUsed s.dev tag = some (.core c) ∧ s.dev.burlUp = true ∧ s.dev.keyOf n = some k ∧ (¬ ((match op with       | .loadContext x _ => contextOwner s.dev x = c | .zeroContext x => contextOwner s.dev x = c | _ => True : Prop)) ∨ (k.attrs.testBit 6 = true ∧ c ≠ .heartwood) ∨ ¬ ((match op with       | .sign => k.attrs.testBit 0 = true | .verify => k.attrs.testBit 1 = true | .encrypt => k.attrs.testBit 2 = true       | .decrypt => k.attrs.testBit 3 = true | .derive => k.attrs.testBit 4 = true | .wrapOpen => k.attrs.testBit 5 = true       | .loadContext _ _ => k.attrs.testBit 2 = true ∨ k.attrs.testBit 3 = true ∨ k.attrs.testBit 4 = true       | .zeroContext _ => True : Prop)))) ∧
    (∃ (s : State) (tag : BitVec 5), (∀ c, tagUsed s.dev tag ≠ some (.core c)) ∧ s.dev.burlUp = true) ∧
    (∃ (s : State) (m : HostMsg) (k : ImportBlob), s.dev.grants m = true ∧ takes Key.keyImport (List.replicate k.length 0) = true ∧ s.dev.burlUp = false) ∧
    (∃ (s : State) (m : HostMsg) (k : ImportBlob), s.dev.grants m = true ∧ takes Key.keyImport (List.replicate k.length 0) = true ∧ s.dev.burlUp = true ∧ s.dev.keyOpHeld = true) ∧
    (∃ (s : State) (m : HostMsg) (k : ImportBlob), s.dev.grants m = true ∧ takes Key.keyImport (List.replicate k.length 0) = true ∧ s.dev.burlUp = true ∧ s.dev.keyOpHeld = false) ∧
    (∃ (s : State) (m : HostMsg) (data : Bytes) (v : Nat), s.dev.grants m = true ∧ takes Key.keyGenerate data = true ∧ sentValue Key.keyGenerate data = .int v ∧ s.dev.burlUp = true ∧ s.dev.keyOpHeld = false) ∧
    (∃ (s : State) (m : HostMsg) (data : Bytes) (v : Nat), s.dev.grants m = true ∧ takes Key.keyErase data = true ∧ sentValue Key.keyErase data = .int v ∧ s.dev.burlUp = true ∧ s.dev.keyOpHeld = false) ∧
    (∃ (d : Dev) (k : ImportBlob) (n : Fin 64) (types : List Nat) (attrs : Nat) (r : Replaceable), k.version = 1 ∧ k.length = 60 + k.materialLength ∧ 1 ≤ k.keyType ∧ k.keyType ≤ 0x0B ∧ materialLength k.keyType = k.materialLength ∧ k.slot = n.val ∧ k.hashOk = true ∧ k.tagOk = true ∧ (d.keyOf 0x01).isSome = true ∧ d.nat Key.importCounter < k.seq ∧ d.replaceable n = true ∧ slotRule n = some (types, attrs, r) ∧ k.keyType ∈ types ∧ k.attrs = attrs ∧ d.keyOpsHeld = false) ∧
    (∃ (d : Dev) (k : ImportBlob) (n : Fin 64) (types : List Nat) (attrs : Nat) (r : Replaceable) (x : KeyRun), k.version = 1 ∧ k.length = 60 + k.materialLength ∧ 1 ≤ k.keyType ∧ k.keyType ≤ 0x0B ∧ materialLength k.keyType = k.materialLength ∧ k.slot = n.val ∧ k.hashOk = true ∧ k.tagOk = true ∧ (d.keyOf 0x01).isSome = true ∧ d.nat Key.importCounter < k.seq ∧ d.replaceable n = true ∧ slotRule n = some (types, attrs, r) ∧ k.keyType ∈ types ∧ k.attrs = attrs ∧ d.keyOpsHeld = false ∧ (d.importKey k).burl.keyOp = some x) ∧
    (∃ (d : Dev) (k : ImportBlob) (n : Fin 64), k.version = 1 ∧ k.length = 60 + k.materialLength ∧ 1 ≤ k.keyType ∧ k.keyType ≤ 0x0B ∧ materialLength k.keyType = k.materialLength ∧ k.slot = n.val ∧ k.hashOk = true ∧ (k.tagOk = false ∨ d.keyOf 0x01 = none)) ∧
    (∃ (d : Dev) (k : ImportBlob) (n : Fin 64), k.version = 1 ∧ k.length = 60 + k.materialLength ∧ 1 ≤ k.keyType ∧ k.keyType ≤ 0x0B ∧ materialLength k.keyType = k.materialLength ∧ k.slot = n.val ∧ k.hashOk = true ∧ k.tagOk = true ∧ (d.keyOf 0x01).isSome = true ∧ k.seq ≤ d.nat Key.importCounter) ∧
    (∃ (d : Dev) (n : Fin 64) (typ : Nat), (n.val, typ) ∈ [(0x10, 0x06), (0x11, 0x08), (0x12, 0x0A)] ∧ d.lifecycle ≠ 0 ∧ d.keyOpsHeld = false) ∧
    (∃ (d : Dev) (n : Fin 64), d.replaceable n = true ∧ d.keyOpsHeld = false) ∧
    (∃ (d : Dev) (n : Fin 64), d.replaceable n = false) ∧
    (∃ (d : Dev) (r : KeyRun), d.burl.keyOp = some r ∧ d.burlUp = true ∧ r.dueAt ≤ d.nowMs) ∧
    (∃ (d : Dev) (r : KeyRun), d.burl.keyOp = some r ∧ d.nowMs < r.dueAt) ∧
    (∃ (d : Dev) (r : KeyRun) (c : Nat), d.burl.keyOp = some r ∧ c ≠ 0) ∧
    (∃ (s : State) (m : HostMsg) (x : SlotId), s.dev.hears m = true ∧ s.dev.dict.roleChanged = false ∧ (s.dev.slot m.slot).tx = none ∧ (s.dev.slot x).registered = true ∧ s.dev.burlUp = true ∧ s.dev.burl.attest[x] = .none) ∧
    (∃ (s : State) (x : SlotId) (body : Bytes), s.dev.burl.signing = .statement x body ∧ s.dev.burlUp = true) ∧
    (∃ (s : State) (m : HostMsg) (data : Bytes), s.dev.grants m = true ∧ takes Key.commission data = true ∧ s.dev.burlUp = true ∧ s.dev.lifecycle ≠ 1) ∧
    (∃ (s : State) (m : HostMsg) (data : Bytes), s.dev.grants m = true ∧ takes Key.commission data = true ∧ s.dev.burlUp = true ∧ s.dev.lifecycle = 1) ∧
    (∃ (s : State), s.dev.powered = true) :=
  ⟨⟨set [(Key.lifecycleState, 3)] fun d => { d with burl := { d.burl with slots := d.burl.slots.set 0x10 ⟨1, false, some ⟨1, 1, [], 0, 0, List.replicate 16 3, []⟩, none⟩ } }, 3, 0x10, .sign, .heartwood, ⟨1, 1, [], 0, 0, List.replicate 16 3, []⟩, by decide +kernel, by decide +kernel, by decide +kernel, trivial, by decide +kernel, (show Nat.testBit 1 0 = true by decide)⟩,
   ⟨set [(Key.lifecycleState, 3)] fun d => { d with burl := { d.burl with slots := d.burl.slots.set 0x10 ⟨1, false, some ⟨1, 1, [], 0, 0, List.replicate 16 3, []⟩, none⟩ } }, 3, 0x10, .derive, .heartwood, ⟨1, 1, [], 0, 0, List.replicate 16 3, []⟩, by decide +kernel, by decide +kernel, by decide +kernel, Or.inr (Or.inr fun h => absurd (show Nat.testBit 1 4 = true from h) (by decide))⟩,
   ⟨st, 0x1F, (fun c => by cases c <;> decide +kernel), by decide +kernel⟩,
   ⟨dev fun d => d.setCore .burl .held, hm, blob, by decide +kernel⟩,
   ⟨dev (brl fun b => { b with keyOp := some ⟨0x30, kh1, true, 5⟩ }), hm, blob, by decide +kernel⟩,
   ⟨st, hm, blob, by decide +kernel⟩,
   ⟨st, hm, [6, 0x10], 0x1006, by decide +kernel⟩,
   ⟨st, hm, [0x30], 0x30, by decide +kernel⟩,
   ⟨(set [(Key.lifecycleState, 3)] (keyd 1)).dev, blob, 0x3F, [3], 0x210, .anyTime, by decide +kernel⟩,
   ⟨(set [(Key.lifecycleState, 3)] (keyd 1)).dev, blob, 0x3F, [3], 0x210, .anyTime, ⟨0x3F, { kh1 with typ := 3, attrs := 0x210, keyId := blob.keyId, generation := 1, counter := 1, material := blob.material, pub := [] }, true, 3⟩, by decide +kernel⟩,
   ⟨(set [(Key.lifecycleState, 3)] (keyd 1)).dev, { blob with tagOk := false }, 0x3F, by decide +kernel⟩,
   ⟨(set [(Key.lifecycleState, 3), (Key.importCounter, 5)] (keyd 1)).dev, blob, 0x3F, by decide +kernel⟩,
   ⟨(set [(Key.lifecycleState, 3)] (keyd 1)).dev, 0x10, 6, by decide +kernel⟩,
   ⟨(set [(Key.lifecycleState, 3)] (keyd 1)).dev, 0x30, by decide +kernel⟩,
   ⟨(set [(Key.lifecycleState, 3)] (keyd 1)).dev, 4, by decide +kernel⟩,
   ⟨late 5 (brl (fun b => { b with keyOp := some ⟨0x30, kh1, true, 5⟩ }) base), ⟨0x30, kh1, true, 5⟩, by decide +kernel⟩,
   ⟨brl (fun b => { b with keyOp := some ⟨0x30, kh1, true, 5⟩ }) base, ⟨0x30, kh1, true, 5⟩, by decide +kernel⟩,
   ⟨brl (fun b => { b with keyOp := some ⟨0x30, kh1, true, 5⟩ }) base, ⟨0x30, kh1, true, 5⟩, 6, by decide +kernel⟩,
   ⟨st, hm, 0, by decide +kernel⟩,
   ⟨dev (brl fun b => { b with signing := .statement 2 [1] }), 2, [1], by decide +kernel⟩,
   ⟨set [(Key.lifecycleState, 2)], hm, [1], by decide +kernel⟩,
   ⟨set [(Key.lifecycleState, 1)], hm, [1], by decide +kernel⟩,
   ⟨st, by decide +kernel⟩⟩

/-- The premises of ImagesAreStagedAndInstalled can be met together. -/
theorem witness_ImagesAreStagedAndInstalled :
    (∃ (s : State) (m : HostMsg) (i : Fin 8) (h : ImageHdr), s.dev.grants m = true ∧ h.length = 8368 ∧ s.dev.planNames i = false) ∧
    (∃ (s : State) (m : HostMsg) (i : Fin 8) (h : ImageHdr), s.dev.grants m = true ∧ h.length = 8368 ∧ s.dev.planNames i = true) ∧
    (∃ (s : State) (i : Fin 8) (h : ImageHdr) (b : Bytes), s.dev.stagedImage i = some (h, b) ∧ s.dev.burlUp = true ∧ s.dev.nat (Key.stagingState i) = 1) ∧
    (∃ (s : State) (m : HostMsg) (i : Fin 8) (data : Bytes) (b : Bytes) (h : ImageHdr), s.dev.grants m = true ∧ s.dev.stagedImage i = some (h, b) ∧ s.dev.chunkCodes i data = []) ∧
    (∃ (s : State) (m : HostMsg) (i : Fin 8) (data : Bytes) (b : Bytes) (h : ImageHdr) (c : Nat), s.dev.grants m = true ∧ s.dev.stagedImage i = some (h, b) ∧ firstCode (s.dev.chunkCodes i data) = some c) ∧
    (∃ (d : Dev) (i : Fin 8) (data : Bytes), d.chunkCodes i data = []) ∧
    (∃ (s : State) (i : Fin 8), s.dev.burlUp = true ∧ s.dev.nat (Key.stagingState i) = 3) ∧
    (∃ (s : State), s.dev.burlUp = true ∧ s.dev.nat Key.planState = 1 ∧ (∀ x ∈ Dev.planSteps s.dev.nat, x.1 < 7)) ∧
    (∃ (s : State) (m : HostMsg) (data : Bytes), s.dev.grants m = true ∧ takes Key.cancelPlan data = true ∧ s.dev.nat Key.planState = 2) ∧
    (∃ (s : State) (m : HostMsg) (data : Bytes), s.dev.grants m = true ∧ takes Key.cancelPlan data = true ∧ s.dev.nat Key.planState ≠ 2) :=
  ⟨⟨st, hm, 7, hdr, by decide +kernel⟩,
   ⟨plan 2 3 none, hm, 5, hdr, by decide +kernel⟩,
   ⟨set [(Key.stagingState 7, 1), (Key.payloadLength 7, 1)] (upd fun u => { u with staging := u.staging.set 7 (some (hdr, [])) }), 7, hdr, [], by decide +kernel⟩,
   ⟨set [(Key.stagingState 7, 2), (Key.payloadLength 7, 1)] (upd fun u => { u with staging := u.staging.set 7 (some (hdr, [])) }), hm, 7, chunk1, [], hdr, by decide +kernel⟩,
   ⟨set [(Key.stagingState 7, 2), (Key.payloadLength 7, 1)] (upd fun u => { u with staging := u.staging.set 7 (some (hdr, [])) }), hm, 7, [], [], hdr, Code.tooShort, by decide +kernel⟩,
   ⟨(set [(Key.stagingState 7, 2), (Key.payloadLength 7, 1)] (upd fun u => { u with staging := u.staging.set 7 (some (hdr, [])) })).dev, 7, chunk1, by decide +kernel⟩,
   ⟨set [(Key.stagingState 7, 3), (Key.payloadLength 7, 1)] (upd fun u => { u with staging := u.staging.set 7 (some (hdr, [])) }), 7, by decide +kernel⟩,
   ⟨plan 1 3 none, by decide +kernel⟩,
   ⟨plan 2 3 none, hm, [1], by decide +kernel⟩,
   ⟨st, hm, [1], by decide +kernel⟩⟩

/-- What a premise of PlansRunStepByStep says. -/
abbrev plansRunStepByStep_kind (d : Dev) (r : PlanRun) : Nat := (Dev.stepIn d.nat r.step).1

/-- The premises of PlansRunStepByStep can be met together. -/
theorem witness_PlansRunStepByStep :
    (∃ (s : State), s.dev.nat Key.planState = 2 ∧ s.dev.planAllowed = true ∧ s.dev.planLate = false ∧ s.dev.preparationReached = true) ∧
    (∃ (s : State), s.dev.nat Key.planState = 2 ∧ s.dev.planAllowed = true ∧ s.dev.planLate = true ∧ s.dev.update.lateStart = false ∧ s.dev.nat Key.planLatePolicy = 1) ∧
    (∃ (s : State) (r : PlanRun), s.dev.update.run = some r ∧ s.dev.sequencerUp = true ∧ s.dev.nat Key.planState = 3 ∧ r.begun = true ∧ r.phase = .preparing ∧ plansRunStepByStep_kind s.dev r < 7 ∧ s.dev.unitPrepared r = true ∧ (0 < r.step ∨ 0 < r.unit ∨ s.dev.update.lateStart = true ∨ s.dev.instantReached = true)) ∧
    (∃ (s : State) (r : PlanRun), s.dev.update.run = some r ∧ s.dev.sequencerUp = true ∧ s.dev.nat Key.planState = 3 ∧ r.begun = true ∧ r.phase = .preparing ∧ plansRunStepByStep_kind s.dev r < 7 ∧ s.dev.unitPrepared r = false) ∧
    (∃ (s : State) (r : PlanRun) (by_ : Nat), s.dev.update.run = some r ∧ s.dev.powered = true ∧ s.dev.burlUp = true ∧ r.readyBy = some by_ ∧ r.unit < 4 ∧ r.phase = .preparing) ∧
    (∃ (s : State) (r : PlanRun) (by_ : Nat), s.dev.update.run = some r ∧ s.dev.powered = true ∧ s.dev.burlUp = true ∧ r.readyBy = some by_ ∧ r.unit < 4 ∧ r.phase = .switched) ∧
    (∃ (s : State) (r : PlanRun) (by_ : Nat), s.dev.update.run = some r ∧ s.dev.powered = true ∧ r.readyBy = some by_ ∧ plansRunStepByStep_kind s.dev r < 7) ∧
    (∃ (s : State) (r : PlanRun), s.dev.update.run = some r ∧ s.dev.powered = true ∧ plansRunStepByStep_kind s.dev r ≤ 1 ∧ r.phase = .preparing ∧ r.begun = true ∧ s.dev.unitPrepared r = false) ∧
    (∃ (s : State) (r : PlanRun), s.dev.update.run = some r ∧ s.dev.powered = true ∧ r.draining = true ∧ r.drainStopped = false ∧ s.dev.allClearing = false ∧ r.since + 1000 * s.dev.nat Key.drainTimeoutS ≤ s.dev.nowMs) ∧
    (∃ (s : State) (r : PlanRun) (till : Nat), s.dev.update.run = some r ∧ s.dev.powered = true ∧ r.phase = .trial ∧ r.trialTill = some till ∧ till ≤ s.dev.nowMs ∧ (∀ x ∈ Dev.planSteps s.dev.nat, x.1 < 7)) ∧
    (∃ (s : State) (r : PlanRun), s.dev.update.run = some r ∧ s.dev.powered = true ∧ (plansRunStepByStep_kind s.dev r = 4 ∨ plansRunStepByStep_kind s.dev r = 5) ∧ r.phase ≠ .preparing ∧ r.trialTill = none) :=
  ⟨⟨plan 2 3 none, by decide +kernel⟩,
   ⟨plan 2 3 none fun d => (d.putInt Key.planActivationMode 1).putInt Key.planLatePolicy 1, by decide +kernel⟩,
   ⟨plan 3 6 (some run1), run1, by decide +kernel⟩,
   ⟨plan 3 6 (some { run1 with prepared := false }), { run1 with prepared := false }, by decide +kernel⟩,
   ⟨plan 3 0 (some { run1 with readyBy := some 5 }), { run1 with readyBy := some 5 }, 5, by decide +kernel⟩,
   ⟨plan 3 2 (some { run1 with readyBy := some 5, phase := .switched }), { run1 with readyBy := some 5, phase := .switched }, 5, by decide +kernel⟩,
   ⟨plan 3 2 (some { run1 with readyBy := some 5, phase := .switched }), { run1 with readyBy := some 5, phase := .switched }, 5, by decide +kernel⟩,
   ⟨plan 3 0 (some { run1 with prepared := false }), { run1 with prepared := false }, by decide +kernel⟩,
   ⟨plan 3 4 (some { run1 with draining := true }) fun d => late 1000 (prt (fun q => { q with session := .energised }) d), { run1 with draining := true }, by decide +kernel⟩,
   ⟨plan 3 6 (some { run1 with phase := .trial, trialTill := some 0 }), { run1 with phase := .trial, trialTill := some 0 }, 0, by decide +kernel⟩,
   ⟨plan 3 5 (some { run1 with phase := .switched }), { run1 with phase := .switched }, by decide +kernel⟩⟩

/-- The premises of UnitsLeaveAndReturn can be met together. -/
theorem witness_UnitsLeaveAndReturn :
    (∃ (s : State) (m : HostMsg) (u : Fin 32) (data : Bytes), s.dev.grants m = true ∧ takes (Key.takeOut u) data = true ∧ s.dev.planUses u = true) ∧
    (∃ (s : State) (m : HostMsg) (u : Fin 32) (data : Bytes), s.dev.grants m = true ∧ takes (Key.takeOut u) data = true ∧ s.dev.planUses u = false ∧ s.dev.nat (Key.serviceState u) = 1) ∧
    (∃ (s : State) (m : HostMsg) (u : Fin 32) (data : Bytes) (c : Nat), s.dev.grants m = true ∧ takes (Key.takeOut u) data = true ∧ s.dev.planUses u = false ∧ s.dev.nat (Key.serviceState u) ≠ 1 ∧ s.dev.takeOutFault u = some c) ∧
    (∃ (s : State) (m : HostMsg) (u : Fin 32) (data : Bytes), s.dev.grants m = true ∧ takes (Key.takeOut u) data = true ∧ s.dev.planUses u = false ∧ s.dev.nat (Key.serviceState u) ≠ 1 ∧ s.dev.takeOutFault u = none) ∧
    (∃ (s : State) (m : HostMsg) (u : Fin 32) (data : Bytes), s.dev.grants m = true ∧ takes (Key.returnUnit u) data = true ∧ s.dev.planUses u = true) ∧
    (∃ (s : State) (m : HostMsg) (u : Fin 32) (data : Bytes), s.dev.grants m = true ∧ takes (Key.returnUnit u) data = true ∧ s.dev.planUses u = false ∧ s.dev.nat (Key.serviceState u) ≠ 1) ∧
    (∃ (s : State) (m : HostMsg) (u : Fin 32) (data : Bytes), s.dev.grants m = true ∧ takes (Key.returnUnit u) data = true ∧ s.dev.planUses u = false ∧ s.dev.nat (Key.serviceState u) = 1 ∧ (u = 0x15 → m.iface ≠ .can5)) ∧
    (∃ (d : Dev) (p : PortId), d.planUses (8 + p) = false) ∧
    (∃ (s : State) (m : HostMsg) (data : Bytes), s.dev.grants m = true ∧ takes Key.serviceRestart data = true ∧ (s.dev.nat Key.planState = 1 ∨ s.dev.nat Key.planState = 3)) ∧
    (∃ (s : State) (m : HostMsg) (data : Bytes), s.dev.grants m = true ∧ takes Key.serviceRestart data = true ∧ s.dev.nat Key.planState ≠ 1 ∧ s.dev.nat Key.planState ≠ 3 ∧ s.dev.heartwoodTakes = true ∧ s.dev.metro.running = true ∧ s.dev.energy.lost = false) :=
  ⟨⟨plan 3 1 none, hm, 4, [1], by decide +kernel⟩,
   ⟨set [(Key.serviceState 31, 1)], hm, 31, [1], by decide +kernel⟩,
   ⟨dev (prt fun q => { q with session := .energised }), hm, 8, [1], Code.notClearing, by decide +kernel⟩,
   ⟨st, hm, 31, [1], by decide +kernel⟩,
   ⟨plan 3 1 none, hm, 1, [1], by decide +kernel⟩,
   ⟨st, hm, 31, [1], by decide +kernel⟩,
   ⟨set [(Key.serviceState 31, 1)], hm, 31, [1], by decide +kernel⟩,
   ⟨base, 7, by decide +kernel⟩,
   ⟨set [(Key.planState, 3)], hm, [1], by decide +kernel⟩,
   ⟨st, hm, [1], by decide +kernel⟩⟩

/-- What a premise of FramesDriveThePanel says. -/
abbrev framesDriveThePanel_ready (d : Dev) : Prop := d.displayUp = true ∧ d.driveUp = true

/-- What a premise of FramesDriveThePanel says. -/
abbrev framesDriveThePanel_asks (d : Dev) : Bool := d.display.fullWanted || !d.display.set.partialUp

/-- The premises of FramesDriveThePanel can be met together. -/
theorem witness_FramesDriveThePanel :
    (∃ (s : State) (full : Bool), framesDriveThePanel_ready s.dev ∧ s.dev.display.stopped = false ∧ s.dev.display.frame = none ∧ s.dev.display.wave.isSome = true ∧ full = framesDriveThePanel_asks s.dev ∧ (s.dev.display.fullWanted = true ∨ frameLayers false s.dev.display.shown s.dev.wantedPage.1 ≠ []) ∧ s.dev.bandAllows = true) ∧
    (∃ (s : State) (full : Bool), framesDriveThePanel_ready s.dev ∧ s.dev.display.stopped = false ∧ s.dev.display.frame = none ∧ s.dev.display.wave.isSome = true ∧ full = framesDriveThePanel_asks s.dev ∧ (s.dev.display.fullWanted = true ∨ frameLayers false s.dev.display.shown s.dev.wantedPage.1 ≠ []) ∧ s.dev.bandAllows = false ∧ s.dev.display.deferred = false) ∧
    (∃ (s : State) (full : Bool), framesDriveThePanel_ready s.dev ∧ s.dev.display.stopped = false ∧ s.dev.display.frame = none ∧ s.dev.display.wave.isSome = true ∧ full = framesDriveThePanel_asks s.dev ∧ (s.dev.display.fullWanted = true ∨ frameLayers false s.dev.display.shown s.dev.wantedPage.1 ≠ [])) ∧
    (∃ (s : State), framesDriveThePanel_ready s.dev ∧ s.dev.display.stopped = false ∧ s.dev.display.frame = none ∧ s.dev.display.wave.isSome = true ∧ framesDriveThePanel_asks s.dev = false ∧ frameLayers false s.dev.display.shown s.dev.wantedPage.1 = []) ∧
    (∃ (s : State) (full : Bool), (s.dev.display.stopped = true ∨ s.dev.display.frame.isSome = true ∨ s.dev.display.wave = none ∨ full ≠ framesDriveThePanel_asks s.dev)) ∧
    (∃ (s : State) (f : FrameRun) (r : StepRec), framesDriveThePanel_ready s.dev ∧ s.dev.display.frame = some f ∧ s.dev.display.record = some r ∧ f.begun = false) ∧
    (∃ (s : State) (f : FrameRun) (r : StepRec), framesDriveThePanel_ready s.dev ∧ s.dev.display.frame = some f ∧ s.dev.display.record = some r ∧ f.begun = true) ∧
    (∃ (s : State) (n : Nat), s.dev.display.railsTill = some n ∧ s.dev.powered = true ∧ s.dev.display.frame = none ∧ s.dev.clocks.i8Lost = false) :=
  ⟨⟨dev (dis fun x => { x with fullWanted := true, wave := some wav }), true, by decide +kernel⟩,
   ⟨dev (dis fun x => { x with fullWanted := true, wave := some (List.replicate 1000 0) }), true, by decide +kernel⟩,
   ⟨dev (dis fun x => { x with fullWanted := true, wave := some wav }), true, by decide +kernel⟩,
   ⟨dev (dis fun x => { x with wave := some wav, set := { x.set with partialUp := true } }), by decide +kernel, by decide +kernel, by decide +kernel, by decide +kernel, by decide +kernel, (show frameLayers false .blank (dev (dis fun x => { x with wave := some wav, set := { x.set with partialUp := true } })).dev.wantedPage.1 = [] from (show (dev (dis fun x => { x with wave := some wav, set := { x.set with partialUp := true } })).dev.wantedPage.1 = .blank by decide +kernel) ▸ frameLayers_same .blank)⟩,
   ⟨st, true, by decide +kernel⟩,
   ⟨dev (dis fun x => { x with frame := some frun, record := some srec }), frun, srec, by decide +kernel⟩,
   ⟨dev (dis fun x => { x with frame := some { frun with begun := true }, record := some srec }), { frun with begun := true }, srec, by decide +kernel⟩,
   ⟨dev (dis fun x => { x with railsTill := some 0 }), 0, by decide +kernel⟩⟩

/-- The premises of PagesTurnAndThePanelIsRepaired can be met together. -/
theorem witness_PagesTurnAndThePanelIsRepaired :
    (∃ (s : State) (sensor : Option (Fin 16)) (w : Bytes), s.dev.powered = true ∧ sensor = s.dev.panelSource ∧ s.dev.display.wave = some w ∧ s.dev.display.bandSet = true) ∧
    (∃ (s : State) (sensor : Option (Fin 16)), sensor ≠ s.dev.panelSource) ∧
    (∃ (s : State) (n : Nat), s.dev.displayUp = true ∧ s.dev.driveUp = true ∧ s.dev.display.stopped = true ∧ s.dev.display.goodAt = some n) ∧
    (∃ (s : State), s.dev.displayUp = true) ∧
    (∃ (s : State) (m : HostMsg) (data : Bytes), s.dev.grants m = true ∧ takes Key.refreshNow data = true) ∧
    (∃ (s : State), s.dev.displayUp = true ∧ s.dev.display.interrupted = false ∧ s.dev.interruptPage = none) ∧
    (∃ (s : State), s.dev.powered = true) :=
  ⟨⟨dev (dis fun x => { x with wave := some wav, bandSet := true, set := { x.set with sensor := 0xFF } }), none, wav, by decide +kernel⟩,
   ⟨dev (dis fun x => { x with set := { x.set with sensor := 3 } }), none, by decide +kernel⟩,
   ⟨dev (dis fun x => { x with stopped := true, goodAt := some 0 }), 0, by decide +kernel⟩,
   ⟨st, by decide +kernel⟩,
   ⟨st, hm, [1], by decide +kernel⟩,
   ⟨st, by decide +kernel⟩,
   ⟨st, by decide +kernel⟩⟩

end Sys2Proof.Tests
end

section
/-! PROOFS. What a refused transaction leaves, and which transactions the fabric refuses (01 R18, R20; 02 R55). -/

namespace Sys2Proof.Machine

/-! ### Refusal counters (01 R20) -/

/-- The refused target's counter rises by one and holds the tag and the address. -/
theorem find_countRefusal_same (l : List RefusalCount) (r : Region) (tag addr : Nat) :
    (countRefusal l r tag addr).find? (fun c => c.target = r) =
      some ⟨r, ((l.find? fun c => c.target = r).elim 0 (·.count)) + 1, tag, addr⟩ := by
  induction l with
  | nil => simp [countRefusal]
  | cons e t ih => by_cases h : e.target = r <;> simp [countRefusal, h, ih]

/-- The counter of every other target stands. -/
theorem find_countRefusal_other (l : List RefusalCount) {r q : Region} (tag addr : Nat) (hq : q ≠ r) :
    (countRefusal l r tag addr).find? (fun c => c.target = q) = l.find? fun c => c.target = q := by
  induction l with
  | nil => simp [countRefusal, hq.symm]
  | cons e t ih =>
    by_cases h : e.target = r
    · simp [countRefusal, h, hq.symm]
    · simp [countRefusal, h, List.find?_cons, ih]

/-! ### A refused transaction -/

theorem accessRefused_out (d : Dev) (target tag : Nat) : (accessRefused d target tag).out = d.out :=
  (accessRefused_keeps0 d target tag).get_out rfl

theorem accessRefused_refusals (d : Dev) (target tag : Nat) : (accessRefused d target tag).refusals = d.refusals :=
  (accessRefused_keeps0 d target tag).get_refusals rfl

/-- The only object that a refused access to a Heartwood target writes is its count (12 R306). -/
theorem accessRefused_val_other (d : Dev) (target tag : Nat) {k : Nat} (hk : k ≠ Key.accessRefusedCount) :
    (accessRefused d target tag).val k = d.val k := by
  have hb : ∀ n, (d.bump Key.accessRefusedCount n).val k = d.val k := fun n => d.val_bump_other n hk.symm
  unfold accessRefused
  dsimp only
  split
  · rfl
  · split
    · exact hb 1
    · exact (Dev.legal_val _ _ _ _ _).trans (hb 1)

theorem refuseTransaction_out (d : Dev) (tag : Nat) (r : Region) (addr : Nat) :
    (refuseTransaction d tag r addr).out = d.out ++ [.fabric tag .error] := by
  unfold refuseTransaction
  dsimp only
  split <;> simp [Dev.say, accessRefused_out]

theorem refuseTransaction_refusals (d : Dev) (tag : Nat) (r : Region) (addr : Nat) :
    (refuseTransaction d tag r addr).refusals = countRefusal d.refusals r tag addr := by
  unfold refuseTransaction
  dsimp only
  split <;> simp [accessRefused_refusals]

theorem refuseTransaction_val_other (d : Dev) (tag : Nat) (r : Region) (addr : Nat) {k : Nat}
    (hk : k ≠ Key.accessRefusedCount) : (refuseTransaction d tag r addr).val k = d.val k := by
  unfold refuseTransaction
  dsimp only
  split
  · exact accessRefused_val_other _ _ _ hk
  · rfl

/-- What the refusal of a transaction leaves: an error to its initiator, its target's counter, and of the rest only what Heartwood notes of a
refused access. -/
def Refused (tag : BitVec 5) (r : Region) (addr : Nat) (s t : State) : Prop :=
  t.dev.out = s.dev.out ++ [.fabric tag.toNat .error] ∧
  t.dev.refusals.find? (fun c => c.target = r) =
    some ⟨r, ((s.dev.refusals.find? fun c => c.target = r).elim 0 (·.count)) + 1, tag.toNat, addr⟩ ∧
  (∀ q, q ≠ r → t.dev.refusals.find? (fun c => c.target = q) = s.dev.refusals.find? fun c => c.target = q) ∧
  Only [.out, .refusals, .heart] [Key.accessRefusedCount] s t

theorem refused_refuseTransaction (tag : BitVec 5) (r : Region) (addr : Nat) (s : State) :
    Refused tag r addr s { s with dev := refuseTransaction s.dev tag.toNat r addr } := by
  refine ⟨refuseTransaction_out .., ?_, fun q hq => ?_, Keeps.only (refuseTransaction_keeps0 _ _ _ _) (by decide) fun k hk => ?_⟩
  · simp only [refuseTransaction_refusals, find_countRefusal_same]
  · simp only [refuseTransaction_refusals, find_countRefusal_other _ _ _ hq]
  · exact refuseTransaction_val_other _ _ _ _ (List.ne_of_not_mem_cons hk)

/-! ### Transactions that the fabric refuses (01 R18, R20, R22; 02 R55) -/

/-- A read is refused unless an initiator stands behind its tag that may read the range, and the range is the target's. -/
theorem fabricRead_refused {s : State} {tag : BitVec 5} {r : Region} {addr words : Nat} (bad : Bool) (hp : s.dev.powered = true)
    (h1 : 1 ≤ words) (h8 : words ≤ 8)
    (hr : ∀ i ∈ tagUsed s.dev tag, regionSize r < addr + 4 * words ∨ mayRead s.dev i r addr (4 * words) = false) :
    Completes (.fabricRead tag r addr words bad) s (Refused tag r addr s) := by
  have hw : ¬ (words = 0 ∨ 8 < words) := by omega
  refine ⟨_, ?_, refused_refuseTransaction tag r addr s⟩
  show execFabricRead tag r addr words bad s = _
  unfold execFabricRead
  cases hi : tagUsed s.dev tag with
  | none => simp [hw, hp]
  | some i =>
    have hr := hr i hi
    simp [hw, hp, hr]

/-- A transaction of one to eight words is one that the fabric carries (01 R18). -/
theorem words_carried {words : List Word} (h1 : 1 ≤ words.length) (h8 : words.length ≤ 8) : ¬ (words = [] ∨ 8 < words.length) := by
  rw [← List.length_eq_zero_iff]
  omega

/-- A write is refused unless an initiator stands behind its tag that may write the range, the range is the target's, and no entry of the general
logbook stands in it. -/
theorem fabricWrite_refused {s : State} {tag : BitVec 5} {r : Region} {addr : Nat} {words : List Word} (hp : s.dev.powered = true)
    (h1 : 1 ≤ words.length) (h8 : words.length ≤ 8)
    (hr : ∀ i ∈ tagUsed s.dev tag, regionSize r < addr + 4 * words.length ∨ mayWrite s.dev s.mem i r addr (4 * words.length) = false ∨
      s.dev.logHolds r addr (4 * words.length) = true) :
    Completes (.fabricWrite tag r addr words) s (Refused tag r addr s) := by
  have hw := words_carried h1 h8
  refine ⟨_, ?_, refused_refuseTransaction tag r addr s⟩
  show execFabricWrite tag r addr words s = _
  unfold execFabricWrite
  cases hi : tagUsed s.dev tag with
  | none => simp [hw, hp]
  | some i =>
    have hr := hr i hi
    simp [hw, hp, hr]

/-- A post is refused when no initiator stands behind its tag, or one that may not post. -/
theorem fabricPost_refused {s : State} {tag : BitVec 5} {c : CoreId} {b : Bytes} (hp : s.dev.powered = true) (hb : b.length ≤ 64)
    (hr : ∀ i ∈ tagUsed s.dev tag, mayPost i = false) : Completes (.fabricPost tag c b) s (Refused tag (.mailbox c) 0 s) := by
  have hl : ¬ 64 < b.length := by omega
  refine ⟨_, ?_, refused_refuseTransaction tag (.mailbox c) 0 s⟩
  show execFabricPost tag c b s = _
  unfold execFabricPost
  cases hi : tagUsed s.dev tag with
  | none => simp [hl, hp, hi, State.onDev]
  | some i => simp [hl, hp, hi, hr i hi, State.onDev]

/-- A word of the written range reads as written. -/
theorem overlay_getD_written (old words : List Word) {at_ n : Nat} (h8 : n < 8) (hl : at_ ≤ n) (hr : n < at_ + words.length) :
    (overlay old at_ words).getD n 0 = words.getD (n - at_) 0 := by
  have hn : n - at_ < words.length := by omega
  simp [overlay, h8, hl, hn]

/-- One such word refuses the whole write. -/
theorem pilotWords_refused {i : Initiator} {old words : List Word} {at_ n : Nat} (h8 : n < 8) (hl : at_ ≤ n) (hr : n < at_ + words.length)
    (hbad : pilotWordOk i (old.getD n 0) (words.getD (n - at_) 0) = false) :
    ((List.range 8).all fun n => pilotWordOk i (old.getD n 0) ((overlay old at_ words).getD n 0)) = false :=
  List.all_eq_false.2 ⟨n, List.mem_range.2 h8, by rw [overlay_getD_written _ _ h8 hl hr, hbad]; decide⟩

/-- A write to crossing 0x36 is refused for a word that changes what only the other writer may change (02 R55). -/
theorem fabricWrite_pilot_refused {s : State} {tag : BitVec 5} {i : Initiator} {addr : Nat} {words : List Word} (hp : s.dev.powered = true)
    (h1 : 1 ≤ words.length) (h8 : words.length ≤ 8) (hi : tagUsed s.dev tag = some i) {n : Nat} (hn : n < 8) (hl : addr / 4 ≤ n)
    (hu : n < addr / 4 + words.length)
    (hbad : pilotWordOk i (((s.dev.crossings[(0x36 : Fin 58)].entries.head?).getD []).getD n 0) (words.getD (n - addr / 4) 0) = false) :
    Completes (.fabricWrite tag (.crossing 0x36) addr words) s (Refused tag (.crossing 0x36) addr s) := by
  by_cases hr : regionSize (.crossing 0x36) < addr + 4 * words.length ∨
      mayWrite s.dev s.mem i (.crossing 0x36) addr (4 * words.length) = false ∨
      s.dev.logHolds (.crossing 0x36) addr (4 * words.length) = true
  · refine fabricWrite_refused hp h1 h8 fun j hj => ?_
    obtain rfl : i = j := Option.some.inj (hi.symm.trans hj)
    exact hr
  · have hw := words_carried h1 h8
    refine ⟨_, ?_, refused_refuseTransaction tag (.crossing 0x36) addr s⟩
    show execFabricWrite tag (.crossing 0x36) addr words s = _
    unfold execFabricWrite
    simp only [hw, hp, hi, if_false, Bool.not_true, Bool.false_eq_true]
    rw [if_neg (by simpa using hr)]
    simp only [true_or, if_true, true_and]
    exact if_pos (by rw [pilotWords_refused hn hl hu hbad]; rfl)

/-- Settles O7: each refused transaction ends in `refuseTransaction`, which leaves `Refused`. -/
theorem refusedTransactionsChangeNothingAtTheTarget : Obligations.RefusedTransactionsChangeNothingAtTheTarget := by
  unfold Obligations.RefusedTransactionsChangeNothingAtTheTarget
  refine ⟨fun s tag r addr words bad hp h1 h8 hr => fabricRead_refused bad hp h1 h8 hr, fun s tag r addr words hp h1 h8 hr => ?_,
    fun s tag i addr words hp h1 h8 hi ⟨n, hn, hl, hu, hbad⟩ => fabricWrite_pilot_refused hp h1 h8 hi hn hl hu hbad,
    fun s tag c b hp hb hi => ?_⟩
  · exact fabricWrite_refused hp h1 h8 fun i hi => (hr i hi).imp_right .inl
  · refine fabricPost_refused hp hb fun i hu => ?_
    rcases hi with hi | hi
    · simp [hi] at hu
    · obtain rfl : Initiator.debug = i := Option.some.inj (hi.symm.trans hu)
      rfl

end Sys2Proof.Machine
end

section
/-! PROOFS. Who may write the MRAM (01 R22, R23, R25). -/

namespace Sys2Proof.Machine

/-! ### The writers of the MRAM partitions (01 R22, R23, R25) -/

/-- The tag of an initiator (01, table *Initiator tags*). -/
def tagOf : Initiator → Nat
  | .core .sapwoodA => 0x01 | .core .sapwoodB => 0x02 | .core .heartwood => 0x03
  | .core .firebreakA => 0x04 | .core .firebreakB => 0x05 | .core .burl => 0x06
  | .core .pe0 => 0x08 | .core .pe1 => 0x09 | .core .pe2 => 0x0A | .core .pe3 => 0x0B
  | .core .canopy => 0x0C | .core .display => 0x0D
  | .metrology => 0x10 | .cvu => 0x11 | .ledger => 0x12 | .can4 => 0x13 | .debug => 0x1F

theorem initiator_eq_some_iff (tag : BitVec 5) (i : Initiator) : initiator tag = some i ↔ tag.toNat = tagOf i := by
  cases i with
  | core c => cases c <;> revert tag <;> decide
  | _ => revert tag; decide

/-- Only the debug island's tag can lose its initiator (16 R452). -/
theorem tagUsed_eq_initiator {d : Dev} {tag : BitVec 5} (h : tag.toNat ≠ 0x1F) : tagUsed d tag = initiator tag := by
  have hd : initiator tag ≠ some .debug := fun e => h ((initiator_eq_some_iff tag .debug).1 e)
  unfold tagUsed
  split
  · exact absurd ‹_› hd
  · rfl

theorem initiator_of_tagUsed {d : Dev} {tag : BitVec 5} {i : Initiator} (h : tagUsed d tag = some i) : initiator tag = some i := by
  unfold tagUsed at h
  split at h
  · split at h
    · cases h
    · rwa [← h]
  · exact h

/-- May the initiator write into a partition of the MRAM; into the general logbook only where `free` says that nothing stands? -/
def partitionTakes (d : Dev) (free : Bool) (i : Initiator) (p : Nat) : Bool :=
  match p with
  | 0 => decide (i = .core .heartwood) && !d.heart.lockLatch && decide (d.lifecycle ≠ 3)
  | 1 => decide (i = .core .burl)
  | 2 => decide (i = .ledger)
  | 3 | 4 | 5 => decide (i = .core .heartwood)
  | 6 => (match i with | .core _ => true | _ => false) && free
  | 7 => decide (i = .core .canopy)
  | 8 => decide (i = .core d.activeSapwood)
  | _ => false

/-- Does nothing that was written through the fabric stand in the general logbook's part of a range? -/
def logFree (m : Memory) (addr n : Nat) : Bool :=
  (List.range n).all fun k => decide (mramPartition (addr + k) ≠ 6 ∨ m.read (flat .mram (addr + k)) = Memory.unlisted)

/-- A write to the MRAM asks both partitions it runs over. -/
theorem mayWrite_mram (d : Dev) (m : Memory) (i : Initiator) (addr n : Nat) :
    mayWrite d m i .mram addr n = (partitionTakes d (logFree m addr n) i (mramPartition addr) &&
      partitionTakes d (logFree m addr n) i (mramPartition (addr + n - 1))) := by
  rw [← Bool.and_true (partitionTakes d _ i (mramPartition (addr + n - 1)))]
  cases i <;> rfl

/-- Whoever may write where something stands may write where nothing does. -/
theorem partitionTakes_mono {d : Dev} {free : Bool} {i : Initiator} {p : Nat} (h : partitionTakes d free i p = true) :
    partitionTakes d true i p = true := by
  unfold partitionTakes at h ⊢
  split at h <;> simp_all

/-- The writer that the table names for an address, by its tag. -/
def MramWriter (d : Dev) (tag addr : Nat) : Prop :=
  if addr ≤ 0x00FFFFF then tag = 0x03 ∧ d.lifecycle ≠ 3 ∧ d.heart.lockLatch = false
  else if addr ≤ 0x30FFFFF then tag = 0x06
  else if addr ≤ 0x44FFFFF then tag = 0x12
  else if addr ≤ 0x96FFFFF then tag = 0x03
  else if addr ≤ 0x9CFFFFF then tag ∈ [0x01, 0x02, 0x03, 0x04, 0x05, 0x06, 0x08, 0x09, 0x0A, 0x0B, 0x0C, 0x0D]
  else if addr ≤ 0x9EFFFFF then tag = 0x0C
  else if addr ≤ 0xA2FFFFF then tag = if d.activeB then 0x02 else 0x01
  else False

/-- Where the partitions lie (01, table *MRAM partitions*); Heartwood writes 3, 4 and 5. -/
theorem mramPartition_range (addr : Nat) :
    (mramPartition addr = 0 ∧ addr ≤ 0x00FFFFF) ∨
    (mramPartition addr = 1 ∧ 0x00FFFFF < addr ∧ addr ≤ 0x30FFFFF) ∨
    (mramPartition addr = 2 ∧ 0x30FFFFF < addr ∧ addr ≤ 0x44FFFFF) ∨
    (mramPartition addr ∈ [3, 4, 5] ∧ 0x44FFFFF < addr ∧ addr ≤ 0x96FFFFF) ∨
    (mramPartition addr = 6 ∧ 0x96FFFFF < addr ∧ addr ≤ 0x9CFFFFF) ∨
    (mramPartition addr = 7 ∧ 0x9CFFFFF < addr ∧ addr ≤ 0x9EFFFFF) ∨
    (mramPartition addr = 8 ∧ 0x9EFFFFF < addr ∧ addr ≤ 0xA2FFFFF) ∨
    (mramPartition addr = 9 ∧ 0xA2FFFFF < addr) := by
  unfold mramPartition
  split_ifs <;> simp <;> omega

theorem initiator_tagOf (i : Initiator) : initiator (BitVec.ofNat 5 (tagOf i)) = some i := by
  cases i with
  | core c => cases c <;> rfl
  | _ => rfl

/-- Two initiators are one when their tags are. -/
theorem eq_iff_tagOf (i j : Initiator) : i = j ↔ tagOf i = tagOf j :=
  ⟨congrArg tagOf, fun h => Option.some.inj (by rw [← initiator_tagOf i, h, initiator_tagOf j])⟩

/-- By initiators instead of tags, the table's writer is whom the partition takes a write from. -/
theorem mramWriter_tagOf (d : Dev) (i : Initiator) (addr : Nat) :
    MramWriter d (tagOf i) addr ↔ partitionTakes d true i (mramPartition addr) = true := by
  rcases mramPartition_range addr with ⟨hp, h⟩ | ⟨hp, h, h'⟩ | ⟨hp, h, h'⟩ | ⟨hp, h, h'⟩ | ⟨hp, h, h'⟩ | ⟨hp, h, h'⟩ | ⟨hp, h, h'⟩ | ⟨hp, h⟩
  all_goals simp (disch := omega) only [MramWriter, if_pos, if_neg]
  · simp [hp, partitionTakes, eq_iff_tagOf, tagOf, and_assoc, and_left_comm, and_comm]
  · simp [hp, partitionTakes, eq_iff_tagOf, tagOf]
  · simp [hp, partitionTakes, eq_iff_tagOf, tagOf]
  · simp only [List.mem_cons, List.not_mem_nil, or_false] at hp
    rcases hp with hp | hp | hp <;> simp [hp, partitionTakes, eq_iff_tagOf, tagOf]
  · cases i with
    | core c => cases c <;> simp [hp, partitionTakes, tagOf]
    | _ => simp [hp, partitionTakes, tagOf]
  · simp [hp, partitionTakes, eq_iff_tagOf, tagOf]
  · cases hb : d.activeB <;> simp [hp, partitionTakes, eq_iff_tagOf, tagOf, Dev.activeSapwood, hb]
  · simp [hp, partitionTakes]

/-- For a tag with an initiator behind it, the table's writer is whom the partition takes a write from. -/
theorem mramWriter_iff {d : Dev} {tag : BitVec 5} {i : Initiator} (hi : tagUsed d tag = some i) (addr : Nat) :
    MramWriter d tag.toNat addr ↔ partitionTakes d true i (mramPartition addr) = true := by
  rw [(initiator_eq_some_iff tag i).1 (initiator_of_tagUsed hi), mramWriter_tagOf]

/-- Every writer of the table has an initiator behind its tag. -/
theorem tagUsed_of_mramWriter {d : Dev} {tag : BitVec 5} {addr : Nat} (h : MramWriter d tag.toNat addr) : ∃ i, tagUsed d tag = some i := by
  have htag : tag.toNat ∈ [0x01, 0x02, 0x03, 0x04, 0x05, 0x06, 0x08, 0x09, 0x0A, 0x0B, 0x0C, 0x0D, 0x12] := by
    unfold MramWriter at h
    simp only [List.mem_cons, List.not_mem_nil, or_false] at h ⊢
    split_ifs at h <;> omega
  have hused : ∀ tag : BitVec 5, tag.toNat ∈ [0x01, 0x02, 0x03, 0x04, 0x05, 0x06, 0x08, 0x09, 0x0A, 0x0B, 0x0C, 0x0D, 0x12] →
      tag.toNat ≠ 0x1F ∧ (initiator tag).isSome = true := by decide
  obtain ⟨hne, hsome⟩ := hused tag htag
  rw [tagUsed_eq_initiator hne]
  exact Option.isSome_iff_exists.1 hsome

theorem mramPartition_eq_six_iff (addr : Nat) : mramPartition addr = 6 ↔ 0x9700000 ≤ addr ∧ addr < 0x9D00000 := by
  unfold mramPartition
  split_ifs <;> simp <;> omega

/-- A transaction is shorter than the general logbook: one that runs over a part of it begins or ends there. -/
theorem end_in_logbook {addr n k : Nat} (hn : n ≤ 32) (hk : k < n) (h6 : mramPartition (addr + k) = 6) :
    mramPartition addr = 6 ∨ mramPartition (addr + n - 1) = 6 := by
  simp only [mramPartition_eq_six_iff] at *
  omega

/-- Would a write reach an entry that the general logbook holds? -/
theorem logHolds_mram_iff {d : Dev} {addr n : Nat} :
    d.logHolds .mram addr n = true ↔ ∃ k, k < n ∧ mramPartition (addr + k) = 6 ∧ d.storeByte .mram (addr + k) ≠ none := by
  simp [Dev.logHolds, Option.isSome_iff_ne_none]

/-- Nobody but the table's writer of both partitions may write (01 R22). -/
theorem mayWrite_mram_false {d : Dev} (m : Memory) {tag : BitVec 5} {i : Initiator} {addr n : Nat} (hi : tagUsed d tag = some i)
    (hw : ¬ (MramWriter d tag.toNat addr ∧ MramWriter d tag.toNat (addr + n - 1))) : mayWrite d m i .mram addr n = false := by
  refine Bool.eq_false_iff.2 fun h => hw ?_
  rw [mayWrite_mram, Bool.and_eq_true] at h
  exact ⟨(mramWriter_iff hi _).2 (partitionTakes_mono h.1), (mramWriter_iff hi _).2 (partitionTakes_mono h.2)⟩

/-- No write reaches a byte of the general logbook that holds something (01, table *MRAM partitions*; log entry 9). -/
theorem mayWrite_logbook_false (d : Dev) {m : Memory} (i : Initiator) {addr n k : Nat} (hn : n ≤ 32) (hk : k < n)
    (h6 : mramPartition (addr + k) = 6) (hm : m.read (flat .mram (addr + k)) ≠ Memory.unlisted) :
    mayWrite d m i .mram addr n = false := by
  have hfree : logFree m addr n = false := List.all_eq_false.2 ⟨k, List.mem_range.2 hk, by simp [h6, hm]⟩
  rw [mayWrite_mram, hfree, Bool.and_eq_false_iff]
  refine (end_in_logbook hn hk h6).imp ?_ ?_ <;> intro h <;> simp [partitionTakes, h]

/-- The table's writer of both partitions may write, onto a free part of the general logbook where it runs over it. -/
theorem mayWrite_mram_true {d : Dev} {m : Memory} {tag : BitVec 5} {i : Initiator} {addr n : Nat} (hi : tagUsed d tag = some i)
    (hb : MramWriter d tag.toNat addr) (he : MramWriter d tag.toNat (addr + n - 1))
    (hfree : ∀ k, k < n → mramPartition (addr + k) = 6 → m.read (flat .mram (addr + k)) = Memory.unlisted) :
    mayWrite d m i .mram addr n = true := by
  have hf : logFree m addr n = true := List.all_eq_true.2 fun k hk => by
    have := hfree k (List.mem_range.1 hk)
    simpa [← imp_iff_not_or] using this
  rw [mayWrite_mram, hf, Bool.and_eq_true]
  exact ⟨(mramWriter_iff hi addr).1 hb, (mramWriter_iff hi _).1 he⟩

theorem mramWriter_le {d : Dev} {tag addr : Nat} (h : MramWriter d tag addr) : addr ≤ 0xA2FFFFF := by
  by_contra hc
  simp (disch := omega) only [MramWriter, if_neg] at h

/-- Every initiator is refused the reserved range (01, table *MRAM partitions*). -/
theorem mayRead_reserved (d : Dev) (i : Initiator) {addr : Nat} (n : Nat) (ha : 0xA300000 ≤ addr) : mayRead d i .mram addr n = false := by
  have hp : mramPartition addr = 9 := by simp (disch := omega) only [mramPartition, if_neg]
  simp [mayRead, mramReadable, hp]

/-- A write to the MRAM that is let in stores its words and does nothing else (01 R18, R22). -/
theorem fabricWrite_mram_stores {s : State} {tag : BitVec 5} {i : Initiator} {addr : Nat} {words : List Word} (hp : s.dev.powered = true)
    (hv : s.dev.rail .vddMem = true) (h1 : 1 ≤ words.length) (h8 : words.length ≤ 8) (hi : tagUsed s.dev tag = some i)
    (hr : addr + 4 * words.length ≤ regionSize .mram) (hm : mayWrite s.dev s.mem i .mram addr (4 * words.length) = true)
    (hl : s.dev.logHolds .mram addr (4 * words.length) = false) :
    Completes (.fabricWrite tag .mram addr words) s fun t =>
      t = { s with dev := s.dev.say (.fabric tag.toNat .done), mem := s.mem.writeBytes (flat .mram addr) (bytesOf words) } := by
  have hw := words_carried h1 h8
  have hr' : ¬ regionSize .mram < addr + 4 * words.length := by omega
  refine ⟨_, ?_, rfl⟩
  show execFabricWrite tag .mram addr words s = _
  simp [execFabricWrite, hw, hp, hi, hr', hm, hl, hv]

/-- Settles O4: `mayWrite` on the MRAM is `partitionTakes` at both ends, and that is the table's writer by its tag. -/
theorem mramWritersAreEnforced : Obligations.MramWritersAreEnforced := by
  unfold Obligations.MramWritersAreEnforced
  intro refused writer
  have weaken {c : Instr} {s : State} {tag : BitVec 5} {addr : Nat} :
      Completes c s (Refused tag .mram addr s) → Completes c s (refused tag addr s) :=
    fun ⟨t, ht, hout, hcount, _, honly⟩ => ⟨t, ht, hout, hcount, honly⟩
  refine ⟨fun s tag addr words hp h1 h8 hw => weaken (fabricWrite_refused hp h1 h8 fun i hi => ?notWriter),
    fun s tag addr words hp h1 h8 ⟨k, hk, h6, hheld⟩ => weaken (fabricWrite_refused hp h1 h8 fun i _ => ?logEntry),
    fun s tag addr words bad hp h1 h8 ha => weaken (fabricRead_refused bad hp h1 h8 fun i _ => ?reserved),
    fun s tag addr words hp hv h1 h8 hb he hfree => ?granted⟩
  case notWriter => exact .inr (.inl (mayWrite_mram_false s.mem hi hw))
  case logEntry =>
    rcases hheld with hstore | hmem
    · exact .inr (.inr (logHolds_mram_iff.2 ⟨k, hk, h6, hstore⟩))
    · exact .inr (.inl (mayWrite_logbook_false s.dev i (by omega) hk h6 hmem))
  case reserved => exact .inr (mayRead_reserved s.dev i _ ha)
  case granted =>
    obtain ⟨i, hi⟩ := tagUsed_of_mramWriter hb
    have hend : addr + 4 * words.length - 1 ≤ 0xA2FFFFF := mramWriter_le he
    refine fabricWrite_mram_stores hp hv h1 h8 hi (by simp only [regionSize]; omega)
      (mayWrite_mram_true hi hb he fun k hk h6 => (hfree k hk h6).2) ?_
    rw [← Bool.not_eq_true, logHolds_mram_iff]
    exact fun ⟨k, hk, h6, hne⟩ => hne (hfree k hk h6).1

end Sys2Proof.Machine
end

section
/-! PROOFS. Record requests and balance requests at the ledger port (01 R25 to R27). -/

namespace Sys2Proof.Machine

/-! ### Records in their slots (11 R277, R279) -/

theorem find_setSlotIn_same {α : Type} (l : List (Nat × α)) (n : Nat) (a : α) :
    (setSlotIn l n a).find? (fun x => x.1 = n) = some (n, a) := by
  induction l with
  | nil => simp [setSlotIn]
  | cons x r ih =>
    obtain ⟨k, b⟩ := x
    simp only [setSlotIn]
    split_ifs with hlt heq
    · simp
    · simp
    · simpa [Ne.symm heq] using ih

theorem find_setSlotIn_other {α : Type} (l : List (Nat × α)) {n j : Nat} (a : α) (h : j ≠ n) :
    (setSlotIn l n a).find? (fun x => x.1 = j) = l.find? fun x => x.1 = j := by
  induction l with
  | nil => simp [setSlotIn, h.symm]
  | cons x r ih =>
    obtain ⟨k, b⟩ := x
    simp only [setSlotIn]
    split_ifs with hlt heq
    · simp [h.symm]
    · subst heq; simp [h.symm]
    · simp [List.find?_cons, ih]

theorem acct_of_ledger {d e : Dev} (h : e.ledger.accounts = d.ledger.accounts) (k : Nat) : e.acct k = d.acct k := by
  unfold Dev.acct
  rw [h]

/-- A record written to a slot stands there. -/
theorem acct_putAcct_same (d : Dev) (slot : Nat) {a : Account} (h : a.status ≠ 0) : (d.putAcct slot a).acct slot = some a := by
  simp [Dev.acct, Dev.putAcct, h, find_setSlotIn_same]

/-- Writing a record leaves every other slot alone. -/
theorem acct_putAcct_other (d : Dev) {slot k : Nat} {a : Account} (h : a.status ≠ 0) (hk : k ≠ slot) :
    (d.putAcct slot a).acct k = d.acct k := by
  simp [Dev.acct, Dev.putAcct, h, find_setSlotIn_other _ _ hk]

/-- A record is sound once its check value is computed anew (11 R277). -/
theorem sound_seal (a : Account) : a.seal.sound = true := by
  simp only [Account.sound, decide_eq_true_eq]
  rfl

/-! ### Record requests (01 R25) -/

/-- The slot of an account: the one it has, or the lowest free one for a new account. -/
def slotFor (d : Dev) (number : Nat) : Nat := (d.findNumber number).elim (lowestFree d.ledger.accounts 0) (·.1)

/-- The stored balance of an account: 0 where it is new. -/
def storedBalance (d : Dev) (number : Nat) : Int := (d.findNumber number).elim 0 (·.2.balance)

/-- A record request that closes no account writes one record, with the stored balance. -/
theorem recordRequest_eq_putAcct (d : Dev) {f : AccountFields} (h : f.status ≠ 0) :
    d.recordRequest f = d.putAcct (slotFor d f.number) (recordOf f (storedBalance d f.number)) := by
  unfold Dev.recordRequest slotFor storedBalance
  split <;> simp [*]

/-- What a served record request makes of the ledger. -/
def RecordWritten (f : AccountFields) (s t : State) : Prop :=
  (∃ r, t.dev.acct (slotFor s.dev f.number) = some r ∧ r.balance = storedBalance s.dev f.number ∧ r.number = f.number ∧
    r.creditLimit = f.creditLimit ∧ r.lastSession = f.lastSession ∧ r.tariffClass = f.tariffClass ∧ r.friendlyClass = f.friendlyClass ∧
    r.status = f.status ∧ r.stsIndex = f.stsIndex ∧ r.keyRevision = f.keyRevision ∧ r.maxPower = f.maxPower ∧
    r.validUntil = f.validUntil ∧ r.sound = true) ∧
  (∀ k, k ≠ slotFor s.dev f.number → t.dev.acct k = s.dev.acct k) ∧
    t.dev.ledger = { s.dev.ledger with accounts := t.dev.ledger.accounts, index := t.dev.ledger.index }

theorem recordWritten_of_ledger {f : AccountFields} {s t : State} (h : f.status ≠ 0) (hl : t.dev.ledger = (s.dev.recordRequest f).ledger) :
    RecordWritten f s t := by
  rw [recordRequest_eq_putAcct _ h] at hl
  have hacct (k : Nat) : t.dev.acct k = _ := acct_of_ledger (congrArg Ledger.accounts hl) k
  refine ⟨⟨recordOf f (storedBalance s.dev f.number), ?_, rfl, rfl, rfl, rfl, rfl, rfl, rfl, rfl, rfl, rfl, rfl, sound_seal _⟩,
    fun k hk => ?_, ?_⟩
  · rw [hacct]; exact acct_putAcct_same _ _ h
  · rw [hacct]; exact acct_putAcct_other _ h hk
  · rw [hl]; rfl

theorem ledgerUp_iff {d : Dev} : d.ledgerUp = true ↔ d.powered = true ∧ d.rail .vddMem = true ∧ d.power.shutdownStep = 0 := by
  simp [Dev.ledgerUp, and_assoc]

theorem powered_of_ledgerUp {d : Dev} (h : d.ledgerUp = true) : d.powered = true := (ledgerUp_iff.1 h).1

/-- A record request of the active Sapwood core is held against the stored balance, then checked, then served (01 R25, R26). -/
theorem exec_recordRequest {s : State} {tag : BitVec 5} (f : AccountFields) (b : Option Int) (hp : s.dev.powered = true)
    (hi : initiator tag = some (.core s.dev.activeSapwood)) :
    exec (.recordRequest tag f b) s = .next { s with
      dev :=
        if (b.any fun x => !decide (x = storedBalance s.dev f.number)) then refuseTransaction s.dev tag.toNat .ledgerPort 0
        else if !s.dev.ledgerUp ∨ (s.dev.recordFault f).isSome then s.dev.say (.fabric tag.toNat .error)
        else (s.dev.recordRequest f).say (.fabric tag.toNat .done) } := by
  show execRecordRequest tag f b s = _
  unfold execRecordRequest State.onDev storedBalance
  dsimp only
  cases s.dev.findNumber f.number <;> simp [hp, hi] <;> rfl

/-- An answer after a change of the ledger alone (mask 2 ^ 21). -/
theorem ledger_said {s : State} {e : Dev} (o : Out) (h : Keeps 2097152 s.dev e) :
    (e.say o).out = s.dev.out ++ [o] ∧ Only [.out, .ledger] [] s { s with dev := e.say o } :=
  ⟨by simp [Dev.say, h.get_out rfl],
    Keeps.only_nil (Dev.say_keeps (L := 2097154) e o (by decide) (h.mono (by decide))) (by decide) (by decide)⟩

theorem recordRequest_served {s : State} {tag : BitVec 5} {f : AccountFields} {b : Option Int} (hu : s.dev.ledgerUp = true)
    (hi : initiator tag = some (.core s.dev.activeSapwood)) (hf : s.dev.recordFault f = none) (hs : f.status ≠ 0)
    (hb : ∀ x ∈ b, x = storedBalance s.dev f.number) :
    Completes (.recordRequest tag f b) s fun t => RecordWritten f s t ∧
      t.dev.out = s.dev.out ++ [.fabric tag.toNat .done] ∧ Only [.out, .ledger] [] s t := by
  have hbal : ¬ b.any (fun x => !decide (x = storedBalance s.dev f.number)) = true := by
    cases b with
    | none => simp
    | some x => simp [hb x rfl]
  refine ⟨{ s with dev := (s.dev.recordRequest f).say (.fabric tag.toNat .done) }, ?_, recordWritten_of_ledger hs rfl,
    ledger_said _ (Dev.recordRequest_keeps0 _ _)⟩
  rw [exec_recordRequest f b (powered_of_ledgerUp hu) hi, if_neg hbal]
  simp [hu, hf]

/-- A request that would change the balance is refused (01 R25). -/
theorem recordRequest_refused {s : State} {tag : BitVec 5} {f : AccountFields} {b : Int} (hp : s.dev.powered = true)
    (hi : initiator tag = some (.core s.dev.activeSapwood)) (hb : b ≠ storedBalance s.dev f.number) :
    Completes (.recordRequest tag f (some b)) s (Refused tag .ledgerPort 0 s) :=
  ⟨_, by simp [exec_recordRequest f (some b) hp hi, hb], refused_refuseTransaction ..⟩

/-! ### WRITE_RECORD (11 R281) -/

theorem recordRequest_ledger_congr {d e : Dev} {f : AccountFields} (hs : f.status ≠ 0) (h : e.ledger = d.ledger) :
    (e.recordRequest f).ledger = (d.recordRequest f).ledger := by
  rw [recordRequest_eq_putAcct _ hs, recordRequest_eq_putAcct _ hs]
  exact congrArg (fun l => let c : Dev := { d with ledger := l }
    (c.putAcct (slotFor c f.number) (recordOf f (storedBalance c f.number))).ledger) h

theorem recordFault_congr {d e : Dev} (f : AccountFields) (h : e.ledger = d.ledger) : e.recordFault f = d.recordFault f :=
  congrArg (fun l => ({ d with ledger := l } : Dev).recordFault f) h

theorem admitted_ledger (d : Dev) (m : HostMsg) : (d.admitted m).ledger = d.ledger :=
  (Dev.admitted_same d m .ledger (by decide) (by decide)).symm

theorem admitted_ledgerUp (d : Dev) (m : HostMsg) : (d.admitted m).ledgerUp = d.ledgerUp := by
  have hp : d.power = (d.admitted m).power := Dev.admitted_same d m .power (by decide) (by decide)
  simp only [Dev.ledgerUp, Dev.powered, Dev.rail, ← hp]

theorem putAcct_carries (d : Dev) (slot : Nat) (a : Account) (i : Iface) (n : Nat) : (d.putAcct slot a).carries i n = d.carries i n := by
  cases i <;> rfl

theorem writeRecord_served {s : State} {m : HostMsg} {data b : Bytes} (hg : s.dev.grants m = true) (ht : takes Key.writeRecord data = true)
    (hv : sentValue Key.writeRecord data = .bytes b) (hw : writeRecordFault b = none) (hu : s.dev.ledgerUp = true)
    (hf : s.dev.recordFault (fieldsOf b) = none) (hs : (fieldsOf b).status ≠ 0) :
    Completes (.writeRecord m data) s fun t => RecordWritten (fieldsOf b) s t ∧ Served m (.done Key.writeRecord) [.ledger] [] s t := by
  have hh : s.dev.hears m = true := (grants_iff.1 hg).1
  have hkeep : Keeps 2097152 (s.dev.admitted m) ((s.dev.admitted m).recordRequest (fieldsOf b)) := Dev.recordRequest_keeps0 _ _
  refine ⟨{ s with dev := ((s.dev.admitted m).recordRequest (fieldsOf b)).ok ((s.dev.admitted m).ackOf m Key.writeRecord) }, ?_,
    recordWritten_of_ledger hs ?_, served Key.writeRecord hh (hkeep.get_hosts rfl) ?_ (fun x _ _ hx => hkeep x ?_) fun k _ => ?_⟩
  · show execWriteRecord m data s = _
    simp [execWriteRecord, State.onDev, cmdWrite_granted hg ht, hv, writeRecordServe, hw, admitted_ledgerUp, hu,
      recordFault_congr _ (admitted_ledger s.dev m), hf]
  · have hans := Dev.answer_same ((s.dev.admitted m).recordRequest (fieldsOf b)) ((s.dev.admitted m).ackOf m Key.writeRecord)
      (.done Key.writeRecord) .ledger (by decide) (by decide) (by decide)
    exact hans.symm.trans (recordRequest_ledger_congr hs (admitted_ledger s.dev m))
  · rw [recordRequest_eq_putAcct _ hs, putAcct_carries, admitted_carries]
    exact carries_of_heard hh _ (.inr (by decide))
  · exact Part.mask_testBit [.ledger] x hx
  · simp only [Dev.val, hkeep.get_obj rfl]

/-! ### Balance requests (01 R25, R27) -/

theorem ledgerUp_of_balancesMove {d : Dev} (h : d.balancesMove = true) : d.ledgerUp = true := (Bool.and_eq_true_iff.1 h).1

theorem fit64_of_fits (d : Dev) {x : Int} (hl : -(2 ^ 63 : Int) ≤ x) (hu : x < 2 ^ 63) : d.fit64 x = (x, d) := if_pos ⟨hl, hu⟩

/-- Taking a token leaves every record alone (11 R300). -/
theorem acceptTid_accounts (d : Dev) (slot account tid : Nat) : (d.acceptTid slot account tid).ledger.accounts = d.ledger.accounts := by
  unfold Dev.acceptTid
  dsimp only
  (repeat' split) <;> rfl

/-- The record with an amount added to its balance, its check value computed anew. -/
def Account.moved (a : Account) (amount : Int) : Account := { a with balance := a.balance + amount }.seal

/-- The device after a balance request is served: the record moved, and the token that comes with it taken (11 R300). -/
def afterBalance (d : Dev) (slot : Nat) (a : Account) (amount : Int) (tid : Option Nat) : Dev :=
  match tid with
  | some t => (d.putAcct slot (a.moved amount)).acceptTid slot a.number t
  | none => d.putAcct slot (a.moved amount)

/-- A balance request on a sound record moves its balance. -/
theorem balanceRequest_eq_afterBalance (d : Dev) {slot : Nat} {amount : Int} (tid : Option Nat) {a : Account} (hm : d.balancesMove = true)
    (ha : d.acct slot = some a) (hs : a.sound = true) (hl : -(2 ^ 63 : Int) ≤ a.balance + amount) (hu : a.balance + amount < 2 ^ 63) :
    d.balanceRequest slot amount tid = some (afterBalance d slot a amount tid) := by
  simp only [Dev.balanceRequest, ha, hm, hs, fit64_of_fits d hl hu]
  rfl

section
variable (d : Dev) (slot : Nat) (a : Account) (amount : Int) (tid : Option Nat)

theorem afterBalance_accounts : (afterBalance d slot a amount tid).ledger.accounts = (d.putAcct slot (a.moved amount)).ledger.accounts := by
  cases tid with
  | none => rfl
  | some t => exact acceptTid_accounts _ slot a.number t

theorem afterBalance_keeps : Keeps 2097152 d (afterBalance d slot a amount tid) := by
  have hput : Keeps 2097152 d (d.putAcct slot (a.moved amount)) := Dev.putAcct_keeps0 _ _ _
  cases tid with
  | none => exact hput
  | some t => exact Dev.acceptTid_keeps _ slot a.number t (by decide) hput

variable {slot a}

theorem afterBalance_acct_same (hf : a.status ≠ 0) : (afterBalance d slot a amount tid).acct slot = some (a.moved amount) :=
  (acct_of_ledger (afterBalance_accounts ..) slot).trans (acct_putAcct_same d slot hf)

theorem afterBalance_acct_other (hf : a.status ≠ 0) {k : Nat} (hk : k ≠ slot) : (afterBalance d slot a amount tid).acct k = d.acct k :=
  (acct_of_ledger (afterBalance_accounts ..) k).trans (acct_putAcct_other d hf hk)

end

/-- The token that a balance request carries: none for a reason without one (11, table *Balance request reasons*). -/
def carriedTid (reason : Nat) (tid : Option Nat) : Option Nat := if carriesTid reason then tid else none

theorem carriedTid_ok {d : Dev} {reason slot account : Nat} {tid : Option Nat}
    (h : carriesTid reason = true → ∀ x ∈ tid, d.tidOk slot account x = true) :
    ((carriedTid reason tid).any fun t => !d.tidOk slot account t) = false := by
  unfold carriedTid
  split
  next hc =>
    cases tid with
    | none => rfl
    | some t => simp [h hc t rfl]
  next => rfl

theorem carriedTid_eq_none {reason : Nat} {tid : Option Nat} (h : carriesTid reason = false ∨ tid = none) : carriedTid reason tid = none := by
  rcases h with h | h <;> simp [carriedTid, h]

/-- A balance request of Heartwood on a sound record, with no token that is too old or used, is served (01 R25; 11 R290, R300). -/
theorem exec_balanceRequest_served {s : State} {tag : BitVec 5} {account slot : Nat} {amount : Int} {reason : Nat} {tid : Option Nat} {a : Account}
    (hm : s.dev.balancesMove = true) (hi : initiator tag = some (.core .heartwood)) (hn : s.dev.findNumber account = some (slot, a))
    (ha : s.dev.acct slot = some a) (hs : a.sound = true) (ht : carriesTid reason = true → ∀ x ∈ tid, s.dev.tidOk slot account x = true)
    (hl : -(2 ^ 63 : Int) ≤ a.balance + amount) (hu : a.balance + amount < 2 ^ 63) :
    exec (.balanceRequest tag account amount reason tid) s =
      .next { s with dev := (afterBalance s.dev slot a amount (carriedTid reason tid)).say (.fabric tag.toNat .done) } := by
  have hok := carriedTid_ok ht
  have hmove := balanceRequest_eq_afterBalance s.dev (carriedTid reason tid) hm ha hs hl hu
  show execBalanceRequest tag account amount reason tid s = _
  unfold carriedTid at *
  simp [execBalanceRequest, State.onDev, powered_of_ledgerUp (ledgerUp_of_balancesMove hm), hi, hn, hm, hs, hok, hmove]

/-- A balance request on a record that fails its check value writes nothing; Heartwood notes it (01 R27). -/
theorem balanceRequest_corrupt {s : State} {tag : BitVec 5} {account slot : Nat} (amount : Int) (reason : Nat) (tid : Option Nat) {a : Account}
    (hm : s.dev.balancesMove = true) (hi : initiator tag = some (.core .heartwood)) (hn : s.dev.findNumber account = some (slot, a))
    (ha : s.dev.acct slot = some a) (hs : a.sound = false) :
    Completes (.balanceRequest tag account amount reason tid) s fun t =>
      t.dev.out = s.dev.out ++ [.fabric tag.toNat .error] ∧
      t.dev.nat Key.ledgerCorruptCount = min (s.dev.nat Key.ledgerCorruptCount + 1) (Dev.top Key.ledgerCorruptCount) ∧
      (∃ e : LegalEntry, t.dev.heart = { s.dev.heart with log := e :: s.dev.heart.log.take 32767 } ∧ e.code = 0x0503 ∧
        e.data.take 8 = leBytes 8 a.number) ∧
      Only [.out, .heart] [Key.ledgerCorruptCount] s t := by
  obtain ⟨hp, hv, -⟩ := ledgerUp_iff.1 (ledgerUp_of_balancesMove hm)
  have hkeep : Keeps 8196 s.dev (s.dev.ledgerCorrupt slot) := Dev.ledgerCorrupt_keeps0 _ _
  obtain ⟨e, -, hcode, -, hdata, -, hheart⟩ := Dev.legal_heart s.dev 0x0503 0xFF (leBytes 8 a.number ++ leBytes 4 slot) hv
  have hcorrupt : s.dev.ledgerCorrupt slot =
      (s.dev.legal 0x0503 0xFF (leBytes 8 a.number ++ leBytes 4 slot)).bump Key.ledgerCorruptCount := by
    simp only [Dev.ledgerCorrupt, ha]
  refine ⟨{ s with dev := (s.dev.ledgerCorrupt slot).say (.fabric tag.toNat .error) }, ?_, ?_, ?_, ⟨e, ?_, hcode, ?_⟩, ?_⟩
  · show execBalanceRequest tag account amount reason tid s = _
    simp [execBalanceRequest, State.onDev, hp, hi, hn, hm, hs]
  · simp [Dev.say, hkeep.get_out rfl]
  · simp [hcorrupt, Dev.nat_bump]
  · simp [hcorrupt, hheart]
  · rw [hdata]; rfl
  · refine Keeps.only (Dev.say_keeps (L := 8198) _ _ (by decide) (hkeep.mono (by decide))) (by decide) fun k hk => ?_
    rw [Dev.say_val, hcorrupt, Dev.val_bump_other _ _ (List.ne_of_not_mem_cons hk).symm, Dev.legal_val]

/-- Settles O13: a served request writes one record whose check value is computed anew; a refused one, or one on a corrupt record, writes none. -/
theorem accountRequestsKeepAndMoveBalances : Obligations.AccountRequestsKeepAndMoveBalances := by
  unfold Obligations.AccountRequestsKeepAndMoveBalances
  refine ⟨fun s tag f b hu hi hf hs hb => recordRequest_served hu hi hf hs hb, fun s tag f b hp hi hb => ?_,
    fun s m data b hg ht hv hw hu hf hs => writeRecord_served hg ht hv hw hu hf hs,
    fun s tag account slot reason amount tid a hm hi hn ha hs ht hf hl hu => ?_,
    fun s tag account slot reason amount tid a hm hi hn ha hs => balanceRequest_corrupt amount reason tid hm hi hn ha hs⟩
  · obtain ⟨t, ht, hout, _, _, honly⟩ := recordRequest_refused hp hi hb
    exact ⟨t, ht, hout, honly⟩
  · refine ⟨_, exec_balanceRequest_served hm hi hn ha hs ht hl hu,
      ⟨a.moved amount, afterBalance_acct_same s.dev amount _ hf, rfl, rfl, sound_seal _⟩,
      fun k hk => afterBalance_acct_other s.dev amount _ hf hk, fun hno => ?_, ledger_said _ (afterBalance_keeps _ _ _ _ _)⟩
    rw [carriedTid_eq_none hno]
    rfl

end Sys2Proof.Machine
end

section
/-! PROOFS. The step, and what it does to the fabric's memories (01 R14, R23). -/

namespace Sys2Proof.Machine

/-! ### The step and the reset -/

/-- Settles O1: `step` matches on the queue. -/
theorem stepRunsTheFront : Obligations.StepRunsTheFront := by
  unfold Obligations.StepRunsTheFront
  constructor
  · intro c rest s h
    simp only [step, h]
  · intro s h
    simp only [step, h]

/-- Settles O3: every table of the reset state is filled with one value. -/
theorem resetState : Obligations.ResetState := by
  unfold Obligations.ResetState
  refine ⟨rfl, rfl, rfl, rfl, fun x => ?_, rfl, fun g => ?_, fun p => ⟨?_, ?_⟩, fun n => ?_, rfl⟩
  · simp [Dev.slot, State.reset, Dev.reset]
  · simp [State.reset, Dev.reset]
  · simp [Dev.port, State.reset, Dev.reset]
  · simp [State.reset, Dev.reset]
  · simp [State.reset, Dev.reset]

/-! ### Commands that change no byte -/

/-- The commands that may change a byte of the fabric's memories. -/
def Instr.mayStore : Instr → Bool
  | .fabricWrite .. | .mainRailsGood | .bootStart _ | .coreRestartDone .. | .unitReady => true
  | _ => false

/-- The command answers a next state with the same memories and the same queue. -/
def KeepsMemories (c : Instr) (s : State) : Prop := Completes c s fun t => t.mem = s.mem ∧ t.pending = s.pending

theorem fabricRead_keepsMemories (s : State) (tag : BitVec 5) (r : Region) (addr : Nat) {words : Nat} (bad : Bool) (h1 : 1 ≤ words)
    (h8 : words ≤ 8) : KeepsMemories (.fabricRead tag r addr words bad) s := by
  have hw : ¬ (words = 0 ∨ 8 < words) := by omega
  show ∃ t, execFabricRead tag r addr words bad s = .next t ∧ _
  unfold execFabricRead
  simp only [hw, if_false]
  (repeat' split) <;> exact ⟨_, rfl, rfl, rfl⟩

theorem fabricPost_keepsMemories (s : State) (tag : BitVec 5) (c : CoreId) {b : Bytes} (hb : b.length ≤ 64) :
    KeepsMemories (.fabricPost tag c b) s := by
  show ∃ t, execFabricPost tag c b s = .next t ∧ _
  rw [execFabricPost, if_neg (by omega)]
  exact ⟨_, rfl, rfl, rfl⟩

/-- All other commands but five are functions of the device alone. -/
theorem exec_keepsMemories {c : Instr} (s : State) (hc : Instr.mayStore c = false) (hw : c.wellFormed = true) : KeepsMemories c s := by
  cases c with
  | fabricRead tag r addr words bad =>
    simp only [Instr.wellFormed, Bool.and_eq_true, decide_eq_true_eq] at hw
    exact fabricRead_keepsMemories s tag r addr bad hw.1.1 hw.1.2
  | fabricPost tag c b => exact fabricPost_keepsMemories s tag c (of_decide_eq_true hw)
  | fabricWrite | mainRailsGood | bootStart | coreRestartDone | unitReady => cases hc
  | _ => exact ⟨_, rfl, rfl, rfl⟩

/-! ### Loads of images into local SRAMs (01 R15) -/

/-- An address that lies in no local SRAM of a core that runs images. -/
def OutsideImages (a : Nat) : Prop :=
  ∀ k, (Dev.imageTypeOf k).isSome → a < flat (Dev.sramOf k) 0 ∨ flat (Dev.sramOf k) 0 + regionSize (Dev.sramOf k) ≤ a

theorem wf_loadPayload {m : Memory} (h : m.wf = true) (r : Region) (offset : Nat) (b : Bytes) : (Dev.loadPayload m r offset b).wf = true :=
  Memory.wf_writeBytes _ _ h

theorem read_loadPayload_outside (m : Memory) {r : Region} (offset : Nat) (b : Bytes) {a : Nat}
    (h : a < flat r 0 ∨ flat r 0 + regionSize r ≤ a) : (Dev.loadPayload m r offset b).read a = m.read a := by
  have hlen : (b.take (regionSize r - offset)).length ≤ regionSize r - offset := by simp
  have hat : flat r offset = flat r 0 + offset := by simp [flat]
  rw [Dev.loadPayload, Memory.read_writeBytes_other]
  omega

theorem wf_coreLoaded {m : Memory} (h : m.wf = true) (old new : Dev) (c : CoreId) : (Dev.coreLoaded old new m c).wf = true := by
  unfold Dev.coreLoaded
  (repeat' split) <;> simp only [wf_loadPayload, h]

theorem read_coreLoaded_outside (old new : Dev) (m : Memory) (c : CoreId) {a : Nat} (ha : OutsideImages a) :
    (Dev.coreLoaded old new m c).read a = m.read a := by
  have own (m : Memory) (x : Option (ImageHdr × Bytes)) (hx : x = (Dev.imageTypeOf c).bind new.activeImage) :
      (match x with | some x => Dev.loadPayload m (Dev.sramOf c) 0 x.2 | none => m).read a = m.read a := by
    cases x with
    | none => rfl
    | some x =>
      refine read_loadPayload_outside m 0 x.2 (ha c ?_)
      cases h : Dev.imageTypeOf c with
      | none => simp [h] at hx
      | some _ => rfl
  have hdisplay := ha .display rfl
  unfold Dev.coreLoaded
  split
  · rfl
  · dsimp only
    split
    · exact (read_loadPayload_outside _ _ _ hdisplay).trans (own m _ rfl)
    · exact own m _ rfl

theorem coresLoaded_induction {P : Memory → Prop} (old new : Dev) {m : Memory} (h : P m)
    (hstep : ∀ m c, P m → P (Dev.coreLoaded old new m c)) : P (old.coresLoaded new m) := by
  unfold Dev.coresLoaded
  generalize [CoreId.sapwoodA, .sapwoodB, .firebreakA, .firebreakB, .pe0, .pe1, .pe2, .pe3, .canopy, .display] = cores
  induction cores generalizing m with
  | nil => exact h
  | cons c r ih => exact ih (hstep m c h)

theorem wf_coresLoaded {m : Memory} (h : m.wf = true) (old new : Dev) : (old.coresLoaded new m).wf = true :=
  coresLoaded_induction (P := fun m => m.wf = true) old new h fun _ c hm => wf_coreLoaded hm old new c

theorem read_coresLoaded_outside (old new : Dev) (m : Memory) {a : Nat} (ha : OutsideImages a) :
    (old.coresLoaded new m).read a = m.read a :=
  coresLoaded_induction (P := fun x => x.read a = m.read a) old new rfl fun x c hx =>
    (read_coreLoaded_outside old new x c ha).trans hx

/-! ### The ROMs and the stores -/

/-- A byte of a store or a ROM: no core's SRAM, and what a power-up keeps. -/
theorem outsideImages_of_stores {a : Nat} (h : 30 * 2 ^ 32 ≤ a) : OutsideImages a := by
  intro k _
  refine .inr (Nat.le_trans ?_ h)
  cases k <;> decide

/-- A power-up keeps the bytes of the stores and the ROMs. -/
theorem read_stores (m : Memory) {a : Nat} (h : 30 ≤ a / 2 ^ 32 ∧ a / 2 ^ 32 ≤ 33) : m.stores.read a = m.read a := by
  induction m with
  | nil => rfl
  | cons c r ih =>
    obtain ⟨b, v⟩ := c
    unfold Memory.stores at ih ⊢
    by_cases hk : 30 ≤ b / 2 ^ 32 ∧ b / 2 ^ 32 ≤ 33
    · simp only [List.filter_cons, hk, and_self, decide_true, if_true, Memory.read, ih]
    · have hb : b ≠ a := fun e => hk (e ▸ h)
      simp only [List.filter_cons, hk, decide_false, Memory.read, if_neg hb, ← ih]
      rfl

/-- What every step keeps of the memories: their canonical form, the ROMs, and the sealed parameters behind the lock latch. -/
structure MemoryKept (latch : Bool) (m n : Memory) : Prop where
  wf : n.wf = true
  heartwoodRom : ∀ a, a < regionSize .heartwoodRom → n.read (flat .heartwoodRom a) = m.read (flat .heartwoodRom a)
  burlRom : ∀ a, a < regionSize .burlRom → n.read (flat .burlRom a) = m.read (flat .burlRom a)
  sealed : latch = true → ∀ a, mramPartition a = 0 → n.read (flat .mram a) = m.read (flat .mram a)

/-- The partition of the sealed parameters ends at 1 MiB. -/
theorem lt_of_sealed {a : Nat} (h : mramPartition a = 0) : a < 0x100000 := by
  unfold mramPartition at h
  split_ifs at h
  assumption

/-- Whatever changes no byte of a store and no byte of a ROM keeps them. -/
theorem MemoryKept.of_read (latch : Bool) {m n : Memory} (hw : n.wf = true)
    (h : ∀ a, 30 ≤ a / 2 ^ 32 ∧ a / 2 ^ 32 ≤ 33 → n.read a = m.read a) : MemoryKept latch m n where
  wf := hw
  heartwoodRom a ha := h _ (by simp only [flat, regionNum, regionSize] at *; omega)
  burlRom a ha := h _ (by simp only [flat, regionNum, regionSize] at *; omega)
  sealed _ a ha := h _ (by have := lt_of_sealed ha; simp only [flat, regionNum]; omega)

theorem MemoryKept.refl (latch : Bool) {m : Memory} (h : m.wf = true) : MemoryKept latch m m := .of_read latch h fun _ _ => rfl

theorem memoryKept_coresLoaded (latch : Bool) (old new : Dev) {m : Memory} (h : m.wf = true) :
    MemoryKept latch m (old.coresLoaded new m) :=
  .of_read latch (wf_coresLoaded h old new) fun _ ha => read_coresLoaded_outside old new m (outsideImages_of_stores (by omega))

/-! ### FABRIC_WRITE -/

theorem regionSize_lt (r : Region) : regionSize r < 2 ^ 32 := by
  cases r <;> simp [regionSize]

/-- The ROMs and the MRAM have numbers of their own. -/
theorem region_of_num {r q : Region} (hq : q = .mram ∨ q = .heartwoodRom ∨ q = .burlRom) (h : regionNum r = regionNum q) : r = q := by
  have hn : regionNum r = 31 ∨ regionNum r = 32 ∨ regionNum r = 33 := by
    rw [h]; rcases hq with rfl | rfl | rfl <;> decide
  cases r with
  | commBuffer c | mailbox c => cases c <;> simp [regionNum, coreNum] at hn
  | sapwoodLocal b | firebreakLocal b | dictStore b | frameBuffer b => cases b <;> simp [regionNum] at hn
  | mram | heartwoodRom | burlRom => rcases hq with rfl | rfl | rfl <;> simp [regionNum] at h ⊢
  | _ => simp [regionNum] at hn <;> omega

/-- A write within a region leaves the bytes of every other region alone. -/
theorem read_write_region_other (m : Memory) {r q : Region} {addr a : Nat} {b : Bytes} (hr : addr + b.length ≤ regionSize r)
    (hq : a < regionSize q) (hne : regionNum r ≠ regionNum q) : (m.writeBytes (flat r addr) b).read (flat q a) = m.read (flat q a) := by
  have hr' := regionSize_lt r
  have hq' := regionSize_lt q
  refine Memory.read_writeBytes_other _ _ _ _ ?_
  simp only [flat]
  omega

/-- No initiator writes a ROM (01 R14). -/
theorem mayWrite_rom (d : Dev) (m : Memory) (i : Initiator) (addr n : Nat) :
    mayWrite d m i .heartwoodRom addr n = false ∧ mayWrite d m i .burlRom addr n = false := by
  cases i <;> simp [mayWrite, debugReach]

/-- A write that the access rules let in keeps the ROMs, and the sealed parameters behind the lock latch (01 R14, R23). -/
theorem memoryKept_write {d : Dev} {m : Memory} {i : Initiator} {r : Region} {addr : Nat} {b : Bytes} (hw : m.wf = true)
    (hr : addr + b.length ≤ regionSize r) (hm : mayWrite d m i r addr b.length = true) :
    MemoryKept d.heart.lockLatch m (m.writeBytes (flat r addr) b) where
  wf := Memory.wf_writeBytes _ _ hw
  heartwoodRom a ha := read_write_region_other m hr ha fun e => by
    rw [region_of_num (.inr (.inl rfl)) e, (mayWrite_rom ..).1] at hm
    cases hm
  burlRom a ha := read_write_region_other m hr ha fun e => by
    rw [region_of_num (.inr (.inr rfl)) e, (mayWrite_rom ..).2] at hm
    cases hm
  sealed hl a ha := by
    have hlow := lt_of_sealed ha
    by_cases e : regionNum r = regionNum .mram
    · obtain rfl := region_of_num (.inl rfl) e
      rw [mayWrite_mram, Bool.and_eq_true] at hm
      refine Memory.read_writeBytes_other _ _ _ _ ?_
      by_cases h : addr ≤ a
      · have h0 : mramPartition addr = 0 := if_pos (by omega)
        simp [h0, partitionTakes, hl] at hm
      · simp only [flat]
        omega
    · exact read_write_region_other (q := .mram) m hr (by simp only [regionSize]; omega) e

theorem length_leBytes (n x : Nat) : (leBytes n x).length = n := by
  induction n generalizing x with
  | zero => rfl
  | succ n ih => simp [leBytes, ih]

theorem length_bytesOf (words : List Word) : (bytesOf words).length = 4 * words.length := by
  simp [bytesOf, List.length_flatMap, length_leBytes, Nat.mul_comm]

/-- A write of one to eight words stores them where the access rules let it, or changes no byte. -/
theorem fabricWrite_memory (s : State) (tag : BitVec 5) (r : Region) (addr : Nat) {words : List Word} (h1 : 1 ≤ words.length)
    (h8 : words.length ≤ 8) : Completes (.fabricWrite tag r addr words) s fun t => t.pending = s.pending ∧
      (t.mem = s.mem ∨ ∃ i, addr + 4 * words.length ≤ regionSize r ∧ mayWrite s.dev s.mem i r addr (4 * words.length) = true ∧
        t.mem = s.mem.writeBytes (flat r addr) (bytesOf words)) := by
  have hw := words_carried h1 h8
  show ∃ t, execFabricWrite tag r addr words s = .next t ∧ _
  unfold execFabricWrite
  simp only [hw, if_false]
  split
  · exact ⟨_, rfl, rfl, .inl rfl⟩
  · cases hi : tagUsed s.dev tag with
    | none => exact ⟨_, rfl, rfl, .inl rfl⟩
    | some i =>
      dsimp only
      split
      · exact ⟨_, rfl, rfl, .inl rfl⟩
      · next hgranted =>
        simp only [not_or, Nat.not_lt, Bool.not_eq_true', Bool.not_eq_true, Bool.not_eq_false] at hgranted
        obtain ⟨hr, hm, -⟩ := hgranted
        (repeat' split) <;> first | exact ⟨_, rfl, rfl, .inl rfl⟩ | exact ⟨_, rfl, rfl, .inr ⟨i, hr, hm, rfl⟩⟩

/-! ### Every step -/

/-- Every well-formed command answers a next state, with the queue's rest and the memories kept. -/
theorem exec_memoryKept {s : State} {c : Instr} (hw : s.mem.wf = true) (hc : c.wellFormed = true) :
    Completes c s fun t => t.pending = s.pending ∧ MemoryKept s.dev.heart.lockLatch s.mem t.mem ∧
      (Instr.mayStore c = false → t.mem = s.mem) ∧
      ((∃ f, c = .bootStart f) ∨ (∃ k ok, c = .coreRestartDone k ok) ∨ c = .unitReady →
        ∀ a, OutsideImages a → t.mem.read a = s.mem.read a) := by
  cases hs : Instr.mayStore c with
  | false =>
    obtain ⟨t, ht, hmem, hpend⟩ := exec_keepsMemories s hs hc
    exact ⟨t, ht, hpend, by rw [hmem]; exact .refl _ hw, fun _ => hmem, fun _ a _ => by rw [hmem]⟩
  | true =>
    cases c with
    | fabricWrite tag r addr words =>
      simp only [Instr.wellFormed, Bool.and_eq_true, decide_eq_true_eq] at hc
      obtain ⟨t, ht, hpend, hmem⟩ := fabricWrite_memory s tag r addr hc.1.1 hc.1.2
      refine ⟨t, ht, hpend, ?_, nofun, by simp⟩
      rcases hmem with hmem | ⟨i, hr, hm, hmem⟩
      · rw [hmem]; exact .refl _ hw
      · rw [hmem]
        rw [← length_bytesOf] at hr hm
        exact memoryKept_write hw hr hm
    | mainRailsGood =>
      show ∃ t, execMainRailsGood s = .next t ∧ _
      unfold execMainRailsGood
      split
      · exact ⟨_, rfl, rfl, .of_read _ (Memory.wf_stores hw) fun _ ha => read_stores _ ha, nofun, by simp⟩
      · exact ⟨_, rfl, rfl, .refl _ hw, nofun, by simp⟩
    | bootStart | coreRestartDone | unitReady =>
      exact ⟨_, rfl, rfl, memoryKept_coresLoaded _ _ _ hw, nofun, fun _ _ ha => read_coresLoaded_outside _ _ _ ha⟩
    | _ => cases hs

/-- Settles O2: a step is `exec` on the queue's rest, and `exec` keeps the memories, command by command. -/
theorem everyStepKeepsTheMemories : Obligations.EveryStepKeepsTheMemories := by
  unfold Obligations.EveryStepKeepsTheMemories
  intro s c rest hw hp hc
  obtain ⟨t, ht, hpend, hkept, hsame, hload⟩ := exec_memoryKept (s := { s with pending := rest }) hw hc
  refine ⟨t, (stepRunsTheFront.1 c rest s hp).trans ht, hkept.wf, hpend, hkept.heartwoodRom, hkept.burlRom, hkept.sealed,
    fun h1 h2 h3 h4 h5 => hsame ?_, hload⟩
  cases c with
  | fabricWrite tag r addr words => exact absurd rfl (h1 tag r addr words)
  | mainRailsGood => exact absurd rfl h2
  | bootStart f => exact absurd rfl (h3 f)
  | coreRestartDone k ok => exact absurd rfl (h4 k ok)
  | unitReady => exact absurd rfl h5
  | _ => rfl

end Sys2Proof.Machine
end

section
/-! PROOFS. The token state: newest, floor and the memory of 64 (11 R300). -/

namespace Sys2Proof.Machine

/-! ### Token-state words -/

/-- The device with the token-state word of a slot set. -/
def Dev.setWord (d : Dev) (slot : Nat) (w : Nat × Nat) : Dev :=
  { d with ledger := { d.ledger with tokens := setSlotIn d.ledger.tokens slot w } }

theorem tokenWord_setWord (d : Dev) (slot k : Nat) (w : Nat × Nat) :
    (d.setWord slot w).tokenWord k = if k = slot then w else d.tokenWord k := by
  by_cases h : k = slot
  · subst h
    simp [Dev.tokenWord, Dev.setWord, find_setSlotIn_same]
  · simp [Dev.tokenWord, Dev.setWord, find_setSlotIn_other _ _ h, h]

/-- The word after a token: the newest token, and how far back of it the floor stands. -/
def wordAfter (w : Nat × Nat) (tid window : Nat) : Nat × Nat :=
  let floor := max (tokenFloor w) ((tid : Int) - 60 * window)
  let newest := max w.1 tid
  (newest, min 255 (((newest : Int) - floor) / 60).toNat)

/-- The word after the memory lets a token go: its floor is not below that token. -/
def wordPast (w : Nat × Nat) (tid : Nat) : Nat × Nat := (w.1, min w.2 ((w.1 - tid) / 60))

theorem tokenFloor_le_wordAfter (w : Nat × Nat) (tid window : Nat) : tokenFloor w ≤ tokenFloor (wordAfter w tid window) := by
  simp only [tokenFloor, wordAfter]
  omega

theorem tokenFloor_le_wordPast (w : Nat × Nat) (tid : Nat) : tokenFloor w ≤ tokenFloor (wordPast w tid) := by
  simp only [tokenFloor, wordPast]
  omega

theorem le_tokenFloor_wordPast {w : Nat × Nat} {tid : Nat} (h : tid ≤ w.1) : (tid : Int) ≤ tokenFloor (wordPast w tid) := by
  simp only [tokenFloor, wordPast]
  omega

/-! ### Taking a token, in its three parts -/

/-- The memory lets its oldest token go once it is full, and the floor of that token's account moves past it. -/
def Dev.forgetOldest (d : Dev) : Dev :=
  if d.ledger.memory.length < 64 then d
  else match d.ledger.memory with
    | [] => d
    | (b, t, _) :: rest =>
      let d : Dev := { d with ledger := { d.ledger with memory := rest } }
      match d.findNumber b with
      | none => d
      | some (n, _) => d.setWord n (wordPast (d.tokenWord n) t)

/-- A token joins the memory. -/
def Dev.remember (d : Dev) (account tid : Nat) : Dev :=
  { d with ledger := { d.ledger with memory := d.ledger.memory ++ [(account, tid, d.ledger.order)], order := d.ledger.order + 1 } }

theorem acceptTid_eq (d : Dev) (slot account tid : Nat) : d.acceptTid slot account tid =
    ((d.setWord slot (wordAfter (d.tokenWord slot) tid (d.nat Key.tidWindowHours))).forgetOldest).remember account tid := rfl

/-- Of the token state nothing is taken back: the accounts stand, and no newest token and no floor falls. -/
structure TokensAdvance (d e : Dev) : Prop where
  accounts : e.ledger.accounts = d.ledger.accounts
  newest : ∀ k, (d.tokenWord k).1 ≤ (e.tokenWord k).1
  floor : ∀ k, tokenFloor (d.tokenWord k) ≤ tokenFloor (e.tokenWord k)

namespace TokensAdvance

theorem refl (d : Dev) : TokensAdvance d d := ⟨rfl, fun _ => Nat.le_refl _, fun _ => Int.le_refl _⟩

theorem trans {a b c : Dev} (h : TokensAdvance a b) (g : TokensAdvance b c) : TokensAdvance a c :=
  ⟨g.accounts.trans h.accounts, fun k => (h.newest k).trans (g.newest k), fun k => (h.floor k).trans (g.floor k)⟩

theorem findNumber {d e : Dev} (h : TokensAdvance d e) (n : Nat) : e.findNumber n = d.findNumber n := by
  simp only [Dev.findNumber, h.accounts]

theorem setWord (d : Dev) (slot : Nat) {w : Nat × Nat} (hn : (d.tokenWord slot).1 ≤ w.1) (hf : tokenFloor (d.tokenWord slot) ≤ tokenFloor w) :
    TokensAdvance d (d.setWord slot w) := by
  refine ⟨rfl, fun k => ?_, fun k => ?_⟩ <;> rw [tokenWord_setWord] <;> split <;> simp_all

end TokensAdvance

/-- Every remembered token is at or below the newest of its account. -/
def TokensKnown (d : Dev) : Prop := ∀ x ∈ d.ledger.memory, ∀ y ∈ d.findNumber x.1, x.2.1 ≤ (d.tokenWord y.1).1

theorem TokensKnown.advance {d e : Dev} (h : TokensKnown d) (ha : TokensAdvance d e) (hm : e.ledger.memory ⊆ d.ledger.memory) :
    TokensKnown e := fun x hx y hy => by
  rw [ha.findNumber] at hy
  exact (h x (hm hx) y hy).trans (ha.newest _)

/-- What letting the oldest token go does. -/
theorem forgetOldest_spec {d : Dev} (hk : TokensKnown d) : TokensAdvance d d.forgetOldest ∧
    d.forgetOldest.ledger.memory ⊆ d.ledger.memory ∧ (d.ledger.memory.length ≤ 64 → d.forgetOldest.ledger.memory.length < 64) ∧
    ∀ x ∈ d.ledger.memory, x ∉ d.forgetOldest.ledger.memory → ∀ y ∈ d.findNumber x.1,
      (x.2.1 : Int) ≤ tokenFloor (d.forgetOldest.tokenWord y.1) := by
  unfold Dev.forgetOldest
  split
  next hlt => exact ⟨.refl d, fun _ h => h, fun _ => hlt, fun x hx hn => absurd hx hn⟩
  next hge =>
    match hm : d.ledger.memory with
    | [] => simp [hm] at hge
    | (b, t, o) :: rest =>
      have hlen : rest.length + 1 ≤ 64 → rest.length < 64 := by omega
      dsimp only
      have hfind : ({ d with ledger := { d.ledger with memory := rest } } : Dev).findNumber b = d.findNumber b := rfl
      rw [hfind]
      have hold : TokensAdvance d { d with ledger := { d.ledger with memory := rest } } := ⟨rfl, fun _ => Nat.le_refl _, fun _ => Int.le_refl _⟩
      cases hb : d.findNumber b with
      | none =>
        refine ⟨hold, fun x hx => List.mem_cons_of_mem _ hx, hlen, fun x hx hn y hy => ?_⟩
        rcases List.mem_cons.1 hx with rfl | hx
        · rw [hb] at hy; cases hy
        · exact absurd hx hn
      | some y =>
        obtain ⟨n, a⟩ := y
        have ht : t ≤ (d.tokenWord n).1 := hk (b, t, o) (by simp [hm]) (n, a) hb
        refine ⟨hold.trans (.setWord _ n (Nat.le_refl _) (tokenFloor_le_wordPast _ _)), fun x hx => List.mem_cons_of_mem _ hx, hlen,
          fun x hx hn y hy => ?_⟩
        rcases List.mem_cons.1 hx with rfl | hx
        · obtain rfl : (n, a) = y := Option.some.inj (hb.symm.trans hy)
          dsimp only
          rw [tokenWord_setWord, if_pos rfl]
          exact le_tokenFloor_wordPast ht
        · exact absurd hx hn

/-- What taking a token does (11 R300): nothing is taken back, what was remembered is remembered or below its account's floor, and the token joins. -/
theorem acceptTid_spec {d : Dev} {slot account tid : Nat} {r : Account} (hk : TokensKnown d) (hf : d.findNumber account = some (slot, r)) :
    TokensAdvance d (d.acceptTid slot account tid) ∧ TokensKnown (d.acceptTid slot account tid) ∧
    (∃ o, (account, tid, o) ∈ (d.acceptTid slot account tid).ledger.memory) ∧
    (d.ledger.memory.length ≤ 64 → (d.acceptTid slot account tid).ledger.memory.length ≤ 64) ∧
    ∀ x ∈ d.ledger.memory, x ∉ (d.acceptTid slot account tid).ledger.memory → ∀ y ∈ d.findNumber x.1,
      (x.2.1 : Int) ≤ tokenFloor ((d.acceptTid slot account tid).tokenWord y.1) := by
  rw [acceptTid_eq]
  let w := wordAfter (d.tokenWord slot) tid (d.nat Key.tidWindowHours)
  have h1 : TokensAdvance d (d.setWord slot w) := .setWord d slot (Nat.le_max_left _ _) (tokenFloor_le_wordAfter _ _ _)
  obtain ⟨h2, hsub, hlen, hgone⟩ := forgetOldest_spec (hk.advance h1 fun _ h => h)
  have h3 : TokensAdvance d (d.setWord slot w).forgetOldest := h1.trans h2
  refine ⟨⟨h3.accounts, h3.newest, h3.floor⟩, fun x hx y hy => ?_, ⟨_, List.mem_append_right _ (List.mem_singleton.2 rfl)⟩, fun h => ?_,
    fun x hx hn y hy => hgone x hx (fun hm => hn (List.mem_append_left _ hm)) y hy⟩
  · have hy' : y ∈ d.findNumber x.1 := by rw [← h3.findNumber]; exact hy
    rcases List.mem_append.1 hx with hx | hx
    · exact (hk x (hsub hx) y hy').trans (h3.newest _)
    · obtain rfl := List.mem_singleton.1 hx
      obtain rfl : (slot, r) = y := Option.some.inj (hf.symm.trans hy')
      refine Nat.le_trans ?_ (h2.newest slot)
      rw [tokenWord_setWord, if_pos rfl]
      exact Nat.le_max_right _ _
  · simpa [Dev.remember] using hlen h

/-- A token is refused when it is not above the floor, or remembered. -/
theorem tidOk_eq_false_iff {d : Dev} {slot account tid : Nat} : d.tidOk slot account tid = false ↔
    (tid : Int) ≤ tokenFloor (d.tokenWord slot) ∨ ∃ o, (account, tid, o) ∈ d.ledger.memory := by
  rw [Dev.tidOk, Bool.and_eq_false_iff]
  refine or_congr (by simp) ?_
  simp only [Bool.not_eq_false', List.any_eq_true, decide_eq_true_eq]
  exact ⟨fun ⟨x, hx, h1, h2⟩ => ⟨x.2.2, by rwa [← h1, ← h2]⟩, fun ⟨o, h⟩ => ⟨_, h, rfl, rfl⟩⟩

/-- Settles O6: no floor falls, and a token that the memory lets go is below its account's floor from then on. -/
theorem usedTokensStayRefused : Obligations.UsedTokensStayRefused := by
  unfold Obligations.UsedTokensStayRefused
  intro known d slot account tid r hk hf
  obtain ⟨hadv, hknown, hmem, hlen, hgone⟩ := acceptTid_spec (tid := tid) hk hf
  refine ⟨hknown, tidOk_eq_false_iff.2 (.inr hmem), hadv.floor, fun k a x n ha hno => tidOk_eq_false_iff.2 ?_, hlen⟩
  rcases tidOk_eq_false_iff.1 hno with hlow | ⟨o, ho⟩
  · exact .inl (hlow.trans (hadv.floor k))
  · by_cases hin : (a, n, o) ∈ (d.acceptTid slot account tid).ledger.memory
    · exact .inr ⟨o, hin⟩
    · exact .inl (hgone _ ho hin _ ha)

end Sys2Proof.Machine
end

section
/-! PROOFS. The window of Sequences of a registered slot (06 R138, R139). -/

namespace Sys2Proof.Machine

/-! ### The window -/

theorem testBit_add_two_pow {x i : Nat} (h : x.testBit i = false) (j : Nat) :
    (x + 2 ^ i).testBit j = (decide (j = i) || x.testBit j) := by
  rcases Nat.lt_trichotomy j i with hj | rfl | hj
  · rw [Nat.add_comm, Nat.testBit_two_pow_add_gt hj]
    simp [Nat.ne_of_lt hj]
  · rw [Nat.add_comm, Nat.testBit_two_pow_add_eq, h]
    simp
  · obtain ⟨k, rfl⟩ := Nat.exists_eq_add_of_lt hj
    have hdiv : (x + 2 ^ i) / 2 ^ (i + 1) = x / 2 ^ (i + 1) := by
      rw [Nat.pow_succ, ← Nat.div_div_eq_div_mul, ← Nat.div_div_eq_div_mul, Nat.add_div_right _ (Nat.two_pow_pos i)]
      simp only [Nat.testBit_eq_decide_div_mod_eq, decide_eq_false_iff_not] at h
      omega
    rw [show i + k + 1 = k + (i + 1) by omega, Nat.testBit_add, Nat.testBit_add, hdiv]
    simp [show k + (i + 1) ≠ i by omega]

/-- A Sequence lies in the window of the 32 values below the highest (06 R139). -/
def InWindow (h : HostSlot) (n : Nat) : Prop := n < h.high ∧ h.high ≤ n + 32

/-- The mark of a Sequence in the window: it was accepted before. -/
def seenIn (h : HostSlot) (n : Nat) : Bool := h.seen.testBit (h.high - 1 - n)

/-- What is at the highest, below the window, or marked in it, is dropped. -/
theorem sequenceWindow_none {h : HostSlot} {n : Nat} (hn : n = h.high ∨ n + 32 < h.high ∨ (InWindow h n ∧ seenIn h n = true)) :
    sequenceWindow h n = none := by
  have hle : ¬ n > h.high := by
    rcases hn with hn | hn | ⟨⟨hn, -⟩, -⟩ <;> omega
  rw [sequenceWindow, if_neg hle]
  split
  · rfl
  · next hin => exact if_pos ((hn.resolve_left (fun e => hin (.inl e))).resolve_left (fun e => hin (.inr e))).2

/-- The marks below a Sequence above the highest: those of the window that stay in it, and the highest so far. -/
theorem testBit_shifted (x k i : Nat) (hk : 1 ≤ k) (hi : i < 32) :
    (((x * 2 + 1) * 2 ^ (k - 1)) % 2 ^ 32).testBit i = (decide (i = k - 1) || (decide (k ≤ i) && x.testBit (i - k))) := by
  rw [Nat.testBit_mod_two_pow, Nat.testBit_mul_two_pow]
  rcases Nat.lt_trichotomy i (k - 1) with h | h | h
  · simp [hi, Nat.not_le_of_lt h, Nat.ne_of_lt h, show ¬ k ≤ i by omega]
  · simp [show k - 1 < 32 by omega, h, Nat.testBit_zero, Nat.add_mod]
  · obtain ⟨j, rfl⟩ : ∃ j, i = k + j := ⟨i - k, by omega⟩
    rw [show k + j - (k - 1) = j + 1 by omega, Nat.testBit_succ]
    simp [hi, show (x * 2 + 1) / 2 = x by omega, show k - 1 ≤ k + j by omega, show ¬ k + j = k - 1 by omega]

theorem sequenceWindow_above {h : HostSlot} {n : Nat} (hn : h.high < n) : ∃ w, sequenceWindow h n = some w ∧ w.high = n ∧
    ∀ j, InWindow w j → (seenIn w j = true ↔ j = h.high ∨ (InWindow h j ∧ seenIn h j = true)) := by
  refine ⟨_, if_pos hn, rfl, fun j hj => ?_⟩
  simp only [InWindow, seenIn] at *
  split
  · simp
    omega
  · rw [testBit_shifted _ _ _ (by omega) (by omega)]
    have hbit : n - 1 - j - (n - h.high) = h.high - 1 - j := by omega
    simp only [Bool.or_eq_true, Bool.and_eq_true, decide_eq_true_eq, hbit]
    refine or_congr (by omega) ⟨fun ⟨h1, h2⟩ => ⟨by omega, h2⟩, fun ⟨h1, h2⟩ => ⟨by omega, h2⟩⟩

theorem sequenceWindow_within {h : HostSlot} {n : Nat} (hn : InWindow h n) (hs : seenIn h n = false) :
    ∃ w, sequenceWindow h n = some w ∧ w.high = h.high ∧ ∀ j, InWindow w j → (seenIn w j = true ↔ j = n ∨ seenIn h j = true) := by
  simp only [InWindow, seenIn] at *
  refine ⟨{ h with seen := h.seen + 2 ^ (h.high - 1 - n) }, ?_, rfl, fun j hj => ?_⟩
  · rw [sequenceWindow, if_neg (by omega), if_neg (by omega)]
    simp [hs]
  · simp only [testBit_add_two_pow hs, Bool.or_eq_true, decide_eq_true_eq]
    have hj' : j < h.high ∧ h.high ≤ j + 32 := hj
    exact or_congr_left (by omega)

/-! ### Messages that are received -/

/-- A message comes as far as its Sequence: the sequencer runs, the interface carries FDP, the slot is registered and may use it, and the MIC
verifies (06 R138, R146). -/
def Dev.listens (d : Dev) (m : HostMsg) : Prop := d.sequencerUp = true ∧ d.ifaceUp m.iface = true ∧ (d.slot m.slot).registered = true ∧
  d.allowed m.slot m.iface = true ∧ m.micOk = true

/-- The device with a message noted whose window moves on to `w` (06 R139, R146). -/
def Dev.noted (d : Dev) (m : HostMsg) (w : HostSlot) : Dev :=
  let d := d.setSlot m.slot fun _ => { w with
    lastValid := d.nowMs, lastIface := m.iface, peers := w.peers.set (ifaceNum m.iface) m.source }
  let d := d.putNat (Key.activeInterfaces m.slot) (setBit (d.nat (Key.activeInterfaces m.slot)) (ifaceBit m.iface) true)
  (d.putNat (Key.hostLastSeen m.slot) d.nowUs).bump (Key.rxCount m.slot)

section
variable {d : Dev} {m : HostMsg}

theorem receive_seen (h : d.listens m) (key : Nat) (hw : sequenceWindow (d.slot m.slot) m.seq.toNat = none) :
    receive d m key = .dropped (d.bump (Key.hostReplayCount m.slot)) := by
  obtain ⟨h1, h2, h3, h4, h5⟩ := h
  simp [receive, h1, h2, h3, h4, h5, hw]

theorem receive_noted (h : d.listens m) (key : Nat) {w : HostSlot} (hw : sequenceWindow (d.slot m.slot) m.seq.toNat = some w) :
    receive d m key = .accepted (d.noted m w) := by
  obtain ⟨h1, h2, h3, h4, h5⟩ := h
  simp [receive, h1, h2, h3, h4, h5, hw, Dev.noted]

theorem noted_keeps (d : Dev) (m : HostMsg) (w : HostSlot) : Keeps 4100 d (d.noted m w) := by
  simp (maxDischargeDepth := 99) [Dev.noted]

theorem slot_noted (d : Dev) (m : HostMsg) (w : HostSlot) : (d.noted m w).slot m.slot =
    { w with lastValid := d.nowMs, lastIface := m.iface, peers := w.peers.set (ifaceNum m.iface) m.source } := by
  simp [Dev.noted]

theorem val_noted (d : Dev) (m : HostMsg) (w : HostSlot) {k : Nat} (h : k ∉ hostKeys m.slot) : (d.noted m w).val k = d.val k := by
  simp only [hostKeys, List.mem_cons, List.not_mem_nil, or_false, not_or] at h
  obtain ⟨h1, h2, h3⟩ := h
  simp only [Dev.noted, Dev.setSlot_val, Dev.val_bump_other _ _ (Ne.symm h3), Dev.val_putNat_other _ _ (Ne.symm h2),
    Dev.val_putNat_other _ _ (Ne.symm h1)]

/-- A change of one slot alone leaves the rest of the hosts. -/
theorem onlySlot_noted (s : State) (m : HostMsg) (w : HostSlot) : OnlySlot m.slot s { s with dev := s.dev.noted m w } := by
  refine ⟨fun q hq => ?_, ?_, ?_, ?_, ?_, ?_⟩
  · simp [Dev.noted, Dev.slot_setSlot_other _ _ hq]
  all_goals simp [Dev.noted, Dev.setSlot]

end

/-- A NOP within the window is noted, and nothing else. -/
theorem nop_noted {s : State} {m : HostMsg} {w : HostSlot} (h : s.dev.listens m) (hx : m.seq.toNat < 0xFFFFFF00)
    (hw : sequenceWindow (s.dev.slot m.slot) m.seq.toNat = some w) : Completes (.nop m) s fun t =>
      (t.dev.slot m.slot).high = w.high ∧ (t.dev.slot m.slot).seen = w.seen ∧ OnlySlot m.slot s t ∧ Only [.hosts] (hostKeys m.slot) s t := by
  have hno : exhausts m = false := decide_eq_false (by omega)
  refine ⟨{ s with dev := s.dev.noted m w }, ?_, by simp [slot_noted], by simp [slot_noted], onlySlot_noted s m w,
    (noted_keeps s.dev m w).only (by decide) fun k hk => val_noted s.dev m w hk⟩
  show State.onDev s _ = _
  simp [State.onDev, hostNote, receive_noted h 0 hw, endsWith, hno]

/-- A bumped count, and nothing else. -/
theorem bump_counted (s : State) (k : Nat) : (s.dev.bump k).nat k = min (s.dev.nat k + 1) (Dev.top k) ∧
    Only [] [k] s { s with dev := s.dev.bump k } :=
  ⟨s.dev.nat_bump _ _, (Dev.bump_keeps0 _ _ _).only (by decide) fun _ hj => s.dev.val_bump_other 1 (List.ne_of_not_mem_cons hj).symm⟩

/-! ### The last message of a registration -/

theorem setSlot_setSlot (d : Dev) (x : SlotId) (f g : HostSlot → HostSlot) :
    (d.setSlot x f).setSlot x g = d.setSlot x fun h => g (f h) := by
  simp [Dev.setSlot, vmod]

/-- The admitted device, when the message's answer is to end the registration (06 R139). -/
def Dev.lastAdmitted (d : Dev) (m : HostMsg) : Dev :=
  (d.admitted m).setSlot m.slot fun h => { h with endAfter := h.endAfter.or (some m.reqId) }

theorem lastAdmitted_eq {d : Dev} {m : HostMsg} {w : HostSlot} (hw : sequenceWindow (d.slot m.slot) m.seq.toNat = some w) : d.lastAdmitted m =
    (d.noted m w).setSlot m.slot fun h => { h with unanswered := h.unanswered + 1, endAfter := h.endAfter.or (some m.reqId) } := by
  have ha : d.admitted m = (d.noted m w).setSlot m.slot fun h => { h with unanswered := h.unanswered + 1 } := by
    simp only [Dev.admitted, hw, Option.getD_some, Dev.noted]
  rw [Dev.lastAdmitted, ha, setSlot_setSlot]

theorem hostRequest_last {d : Dev} {m : HostMsg} (h : d.listens m) (key : Nat) (serve : Dev → Dev) {w : HostSlot}
    (hw : sequenceWindow (d.slot m.slot) m.seq.toNat = some w) (hx : 0xFFFFFF00 ≤ m.seq.toNat) (hu : (d.slot m.slot).unanswered < 8) :
    hostRequest m key serve d = serve (d.lastAdmitted m) := by
  obtain ⟨a, b, rfl⟩ := sequenceWindow_keeps hw
  have hyes : exhausts m = true := decide_eq_true hx
  have hn : ¬ 8 ≤ (d.slot m.slot).unanswered := by omega
  simp only [hostRequest, receive_noted h key hw, slot_noted, hn, if_false, hyes, if_true, lastAdmitted_eq hw]

/-- The answer to a message is sent under the slot's next Sequence and session key, whatever else the request has changed (06 R138, R150). -/
theorem replied_answer {s : State} {e : Dev} {m : HostMsg} {r : HostReply} (key : Nat) (hreg : (e.slot m.slot).registered = true)
    (hses : (e.slot m.slot).session = (s.dev.slot m.slot).session) (htx : (e.slot m.slot).txSeq = (s.dev.slot m.slot).txSeq)
    (hkey : (e.slot m.slot).sessionKey = (s.dev.slot m.slot).sessionKey) (hc : e.carries m.iface (replyParts r).2.2.2.2.length = true) :
    Replied s { s with dev := e.answer (s.dev.ackOf m key) r } m r := by
  have hout := Dev.out_answer e (s.dev.ackOf m key) r hreg hses hc
  simp only [Replied]
  rw [hout, List.getLast?_append]
  simp only [Dev.ackOf, htx, hkey, Dev.reply, List.getLast?_singleton, Option.some_or]

/-- An answer that is carried changes only the hosts and what is sent. -/
theorem only_answer {s : State} {e : Dev} {a : Ack} {r : HostReply} {parts : List Part} {keys : List Nat} {M : Nat} (hkeep : Keeps M s.dev e)
    (hp : M ||| Part.mask (.obj :: .hosts :: .out :: parts) = Part.mask (.obj :: .hosts :: .out :: parts))
    (hk : ∀ k, k ∉ keys → e.val k = s.dev.val k) (hc : e.carries a.iface (replyParts r).2.2.2.2.length = true) :
    Only (.hosts :: .out :: parts) keys s { s with dev := e.answer a r } := by
  refine ⟨rfl, rfl, rfl, fun x ho hx => ?_, fun k hn => by rw [Dev.val_answer, hk k hn]⟩
  have hin : x.same s.dev e := (hkeep.mono hp) x (Part.mask_testBit _ x (by simp [ho, hx]))
  simp only [List.mem_cons, not_or] at hx
  refine Part.same_trans hin ?_
  by_cases hheld : x = .held
  · subst hheld; exact (Dev.held_answer e a r hc).symm
  · exact Dev.answer_same e a r x hx.1 hx.2.1 hheld

theorem onlySlot_answer {s : State} {e : Dev} {a : Ack} {x : SlotId} (r : HostReply) (h : OnlySlot x s { s with dev := e }) (ha : a.slot = x) :
    OnlySlot x s { s with dev := e.answer a r } := by
  obtain ⟨hother, h1, h2, h3, h4, h5⟩ := h
  refine ⟨fun q hq => (Dev.slot_answer_other e a r (ha ▸ hq)).trans (hother q hq), ?_, ?_, ?_, ?_, ?_⟩
  all_goals
    dsimp only
    rw [Dev.answer_hosts]
    assumption

/-- The answer that a registration waits for ends it (06 R139). -/
theorem registered_answer_last {e : Dev} {a : Ack} (r : HostReply) (hreg : (e.slot a.slot).registered = true)
    (hses : (e.slot a.slot).session = a.session) (he : (e.slot a.slot).endAfter = some a.reqId) :
    ((e.answer a r).slot a.slot).registered = false := by
  have hsent : ((e.send a.slot a.iface a.via a.reqId r).slot a.slot) = { e.slot a.slot with txSeq := (e.slot a.slot).txSeq + 1 } := by
    simp [Dev.send]
  rw [Dev.answer, if_pos ⟨hreg, hses⟩, Dev.owed, hsent]
  simp [hses, hsent, he, Dev.endRegistration]

section
variable {d : Dev} {m : HostMsg}

theorem slot_lastAdmitted {w : HostSlot} (hw : sequenceWindow (d.slot m.slot) m.seq.toNat = some w) : ∃ a b, (d.lastAdmitted m).slot m.slot =
    { d.slot m.slot with
      high := a, seen := b, lastValid := d.nowMs, lastIface := m.iface, unanswered := (d.slot m.slot).unanswered + 1
      endAfter := (d.slot m.slot).endAfter.or (some m.reqId), peers := (d.slot m.slot).peers.set (ifaceNum m.iface) m.source } := by
  obtain ⟨a, b, e⟩ := sequenceWindow_keeps hw
  exact ⟨a, b, by simp [lastAdmitted_eq hw, slot_noted, e]⟩

theorem lastAdmitted_keeps {w : HostSlot} (hw : sequenceWindow (d.slot m.slot) m.seq.toNat = some w) : Keeps 4100 d (d.lastAdmitted m) := by
  rw [lastAdmitted_eq hw]
  exact Dev.setSlot_keeps _ _ _ (by decide) (noted_keeps d m w)

theorem lastAdmitted_ackOf {w : HostSlot} (hw : sequenceWindow (d.slot m.slot) m.seq.toNat = some w) (key : Nat) :
    (d.lastAdmitted m).ackOf m key = d.ackOf m key := by
  obtain ⟨a, b, hs⟩ := slot_lastAdmitted hw
  have hvia : ∀ i n x, (d.lastAdmitted m).viaOf i n x = d.viaOf i n x := fun i n x => by
    refine Eq.trans ?_ (admitted_viaOf (m := m) i n x)
    cases i <;> rfl
  simp only [Dev.ackOf, hs, hvia]

theorem lastAdmitted_carries (h : d.ifaceUp m.iface = true) {n : Nat} (hn : n ≤ bodyLimit m.iface) :
    (d.lastAdmitted m).carries m.iface n = true := by
  have hsame : (d.lastAdmitted m).carries m.iface n = d.carries m.iface n := by
    refine Eq.trans ?_ (admitted_carries (m := m) _ n)
    cases m.iface <;> rfl
  rw [hsame]
  cases hi : m.iface <;> simp_all [Dev.ifaceUp, Dev.carries, bodyLimit]

end

/-- The last request of a registration is answered, and the registration is over. -/
theorem answer_lastAdmitted {s : State} {m : HostMsg} (h : s.dev.listens m) {w : HostSlot}
    (hw : sequenceWindow (s.dev.slot m.slot) m.seq.toNat = some w) (he : (s.dev.slot m.slot).endAfter = none) (key : Nat) {r : HostReply}
    (hr : (replyParts r).2.2.2.2.length ≤ bodyLimit m.iface) :
    ∀ t, t = { s with dev := (s.dev.lastAdmitted m).answer (s.dev.ackOf m key) r } →
      Replied s t m r ∧ (t.dev.slot m.slot).registered = false ∧ OnlySlot m.slot s t ∧ Only [.hosts, .out] (hostKeys m.slot) s t := by
  rintro _ rfl
  obtain ⟨hseq, hup, hreg, hallow, hmic⟩ := h
  obtain ⟨a, b, hs⟩ := slot_lastAdmitted hw
  have hc := lastAdmitted_carries hup hr
  refine ⟨replied_answer key (by rw [hs]; exact hreg) (by rw [hs]) (by rw [hs]) (by rw [hs]) hc,
    registered_answer_last (a := s.dev.ackOf m key) r (by rw [Dev.ackOf, hs]; exact hreg) (by rw [Dev.ackOf, hs])
      (by rw [Dev.ackOf, hs]; simp [he]),
    onlySlot_answer r ⟨fun q hq => ?_, ?_, ?_, ?_, ?_, ?_⟩ rfl,
    only_answer (parts := []) (lastAdmitted_keeps hw) (by decide) (fun k hk => Dev.val_admitted s.dev m hk) hc⟩
  · exact (Dev.slot_setSlot_other _ _ hq).trans (Dev.slot_admitted_other _ _ hq)
  · exact Dev.admitted_ownership ..
  · exact Dev.admitted_ownerSince ..
  · exact Dev.admitted_lastHeartbeat ..
  · exact Dev.admitted_can ..
  · exact Dev.admitted_busOffCounts ..

/-- Without the staged view, a READ of one object that no code refuses is answered with the value it had at the last tick boundary. -/
theorem readRequest_last {s : State} {m : HostMsg} {key : Nat} (h : s.dev.listens m) {w : HostSlot}
    (hw : sequenceWindow (s.dev.slot m.slot) m.seq.toNat = some w) (hx : 0xFFFFFF00 ≤ m.seq.toNat)
    (hu : (s.dev.slot m.slot).unanswered < 8) (hcodes : s.dev.readCodes key 1 false = []) (hdom : Dev.isDomain key = false)
    (hst : ¬ (0x8300 ≤ key / 256 ∧ key / 256 ≤ 0x830F)) (hlen : 6 + (s.seen.wire key).length ≤ bodyLimit m.iface) :
    Dev.readRequest m key 1 false false s.seen s.dev =
      (s.dev.lastAdmitted m).answer (s.dev.ackOf m key) (.values key [s.seen.wire key]) := by
  have hcodes' : (s.dev.lastAdmitted m).readCodes key 1 false = [] := by
    rw [← hcodes]
    have hk := lastAdmitted_keeps hw
    simp only [Dev.readCodes, Dev.roleBlocked, Dev.rail, hk.get_dict rfl, hk.get_energy rfl, hk.get_power rfl]
    rfl
  have hsize : ¬ bodyLimit m.iface < 4 + (2 + (s.seen.wire key).length) := by omega
  have hkeys : Dev.readKeys key 1 = [key] := rfl
  rw [Dev.readRequest, hostRequest_last h key _ hw hx hu]
  simp [lastAdmitted_ackOf hw, hcodes', firstCode, hkeys, hst, Dev.readValue, hsize, hdom]

/-- Settles O5: what `receive` does with a message is decided by the window of its Sequence. -/
theorem sequencesAreTakenOnce : Obligations.SequencesAreTakenOnce := by
  unfold Obligations.SequencesAreTakenOnce
  intro counted listens inWindow seen
  refine ⟨fun s m h hdrop => ?_, fun s m h hx hhigh => ?_, fun s m h hx hin hseen => ?_,
    fun s m o h hhigh hx hu he hcodes hdom hst hlen => ?_⟩
  · have hw := sequenceWindow_none hdrop
    have hcount : counted m s { s with dev := s.dev.bump (Key.hostReplayCount m.slot) } := bump_counted s _
    refine ⟨⟨_, ?_, hcount⟩, fun o bad => ⟨_, ?_, hcount⟩⟩
    · show State.onDev s _ = _
      simp [State.onDev, hostNote, receive_seen h 0 hw]
    · show State.onDev s _ = _
      simp [State.onDev, Dev.readRequest, hostRequest, receive_seen h _ hw]
  · obtain ⟨w, hw, hhigh', hmarks⟩ := sequenceWindow_above hhigh
    obtain ⟨t, ht, hh, hs, honly⟩ := nop_noted h hx hw
    refine ⟨t, ht, hh.trans hhigh', ?_, honly⟩
    simpa only [inWindow, seen, hh, hs, InWindow, seenIn] using hmarks
  · obtain ⟨w, hw, hhigh', hmarks⟩ := sequenceWindow_within hin hseen
    obtain ⟨t, ht, hh, hs, honly⟩ := nop_noted h hx hw
    refine ⟨t, ht, hh.trans hhigh', ?_, honly⟩
    simpa only [inWindow, seen, hh, hs, InWindow, seenIn] using hmarks
  · obtain ⟨w, hw, -⟩ := sequenceWindow_above hhigh
    refine ⟨_, ?_, answer_lastAdmitted h hw he (keyOfObj o) (r := .values (keyOfObj o) [s.seen.wire (keyOfObj o)]) ?_ _ rfl⟩
    · show State.onDev s _ = _
      simp only [State.onDev, readRequest_last h hw hx hu hcodes hdom hst hlen]
    · simpa [replyParts, length_leBytes, ← Nat.add_assoc] using hlen

end Sys2Proof.Machine
end

section
/-! PROOFS. What a transaction that the access rules let through does at its target (01 R12, R18, R19; 02 R45, R53). -/

namespace Sys2Proof.Machine

/-! ### Words and bytes -/

/-- Bytes read as a number give the number's bytes again. -/
theorem getD_leBytes_leVal (n : Nat) (b : Bytes) {k : Nat} (hk : k < n) : (leBytes n (leVal b)).getD k 0 = b.getD k 0 := by
  induction n generalizing b k with
  | zero => omega
  | succ n ih =>
    cases b with
    | nil => cases k with
      | zero => rfl
      | succ k => exact ih [] (Nat.lt_of_succ_lt_succ hk)
    | cons v r =>
      have hv := v.isLt
      cases k with
      | zero => simp [leBytes, leVal, BitVec.ofNat_add, BitVec.ofNat_mul]
      | succ k =>
        have hrest : leVal (v :: r) / 256 = leVal r := by simp only [leVal]; omega
        simpa [leBytes, hrest] using ih r (Nat.lt_of_succ_lt_succ hk)

theorem leVal_lt (b : Bytes) : leVal b < 256 ^ b.length := by
  induction b with
  | nil => decide
  | cons v r ih =>
    have hv := v.isLt
    simp only [leVal, List.length_cons, Nat.pow_succ]
    omega

theorem length_wordsOf (n : Nat) (b : Bytes) : (wordsOf n b).length = n := by
  induction n generalizing b with
  | zero => rfl
  | succ n ih => simp [wordsOf, ih]

/-- Bytes taken as words give the bytes again, as far as the words reach. -/
theorem getD_bytesOf_wordsOf (n : Nat) (b : Bytes) {k : Nat} (hk : k < 4 * n) : (bytesOf (wordsOf n b)).getD k 0 = b.getD k 0 := by
  induction n generalizing b k with
  | zero => omega
  | succ n ih =>
    have hlt : leVal (b.take 4) < 2 ^ 32 := (leVal_lt _).trans_le (Nat.pow_le_pow_right (by decide) (List.length_take_le 4 b))
    have hsplit : bytesOf (wordsOf (n + 1) b) = leBytes 4 (leVal (b.take 4)) ++ bytesOf (wordsOf n (b.drop 4)) := by
      simp only [bytesOf, wordsOf, List.flatMap_cons, BitVec.toNat_ofNat, Nat.mod_eq_of_lt hlt]
    rw [hsplit]
    by_cases h : k < 4
    · rw [List.getD_append _ _ _ _ (by rwa [length_leBytes]), getD_leBytes_leVal 4 _ h]
      simp [List.getD, h]
    · rw [List.getD_append_right _ _ _ _ (by rw [length_leBytes]; omega), length_leBytes, ih _ (by omega)]
      simp [List.getD, List.getElem?_drop, show 4 + (k - 4) = k by omega]

/-- Zeros behind bytes read as what lies beyond their end. -/
theorem getD_append_zeros (b : Bytes) (n k : Nat) : (b ++ List.replicate n 0).getD k 0 = b.getD k 0 := by
  by_cases h : k < b.length
  · rw [List.getD_append _ _ _ _ h]
  · rw [List.getD_append_right _ _ _ _ (Nat.le_of_not_lt h), List.getD_eq_default b 0 (Nat.le_of_not_lt h)]
    simp only [List.getD, List.getElem?_replicate]
    split <;> rfl

/-- Bytes stored are read again. -/
theorem read_writeBytes_same (b : Bytes) {m : Memory} (hm : m.wf = true) (x : Nat) {k : Nat} (hk : k < b.length) :
    (m.writeBytes x b).read (x + k) = b.getD k 0 := by
  induction b generalizing m x k with
  | nil => cases hk
  | cons v r ih =>
    cases k with
    | zero => exact (Memory.read_writeBytes_other r _ _ _ (.inl (by omega))).trans (Memory.read_write_same m x v hm)
    | succ k =>
      rw [Memory.writeBytes, show x + (k + 1) = x + 1 + k by omega]
      exact ih (Memory.wf_write x v hm) (x + 1) (Nat.lt_of_succ_lt_succ hk)

/-! ### Memories (01 R12, R18) -/

/-- A target that is memory: no crossing, no timer channel, no mailbox. -/
def IsMemory (r : Region) : Prop := (∀ c, r ≠ .crossing c) ∧ (∀ n, r ≠ .timerChannel n) ∧ ∀ c, r ≠ .mailbox c

section
variable {s : State} {tag : BitVec 5} {i : Initiator} {r : Region} {addr : Nat}

/-- A write to a memory that is let in stores its words and answers. -/
theorem exec_fabricWrite_memory {words : List Word} (hp : s.dev.powered = true) (h1 : 1 ≤ words.length) (h8 : words.length ≤ 8)
    (hi : tagUsed s.dev tag = some i) (hr : addr + 4 * words.length ≤ regionSize r)
    (hm : mayWrite s.dev s.mem i r addr (4 * words.length) = true) (hl : s.dev.logHolds r addr (4 * words.length) = false)
    (hmem : IsMemory r) (hv : s.dev.rail .vddMem = true) :
    exec (.fabricWrite tag r addr words) s =
      .next { s with mem := s.mem.writeBytes (flat r addr) (bytesOf words), dev := s.dev.say (.fabric tag.toNat .done) } := by
  have hw := words_carried h1 h8
  have hr' : ¬ regionSize r < addr + 4 * words.length := by omega
  obtain ⟨hx, ht, -⟩ := hmem
  show execFabricWrite tag r addr words s = _
  simp only [execFabricWrite, hw, hp, hi, hr', hm, hl, hv, if_false, Bool.not_true, Bool.false_eq_true, or_self, and_false]

/-- A read that is let in, of words that pass their check. -/
theorem exec_fabricRead_memory {words : Nat} (hp : s.dev.powered = true) (h1 : 1 ≤ words) (h8 : words ≤ 8) (hi : tagUsed s.dev tag = some i)
    (hr : addr + 4 * words ≤ regionSize r) (hm : mayRead s.dev i r addr (4 * words) = true) (hmem : IsMemory r)
    (hv : s.dev.rail .vddMem = true) :
    exec (.fabricRead tag r addr words false) s =
      .next { s with dev := s.dev.say (.fabric tag.toNat (.data (wordsOf words (s.bytesAt r addr (4 * words))))) } := by
  have hw : ¬ (words = 0 ∨ 8 < words) := by omega
  have hr' : ¬ regionSize r < addr + 4 * words := by omega
  obtain ⟨hx, ht, hb⟩ := hmem
  show execFabricRead tag r addr words false s = _
  simp only [execFabricRead, hw, hp, hi, hr', hm, hv, if_false, Bool.not_true, Bool.false_eq_true, or_self, and_false]

/-- A word that fails its check answers an error (01 R12). -/
theorem exec_fabricRead_bad {words : Nat} (hp : s.dev.powered = true) (h1 : 1 ≤ words) (h8 : words ≤ 8) (hi : tagUsed s.dev tag = some i)
    (hr : addr + 4 * words ≤ regionSize r) (hm : mayRead s.dev i r addr (4 * words) = true) :
    exec (.fabricRead tag r addr words true) s = .next { s with dev := s.dev.say (.fabric tag.toNat .error) } := by
  have hw : ¬ (words = 0 ∨ 8 < words) := by omega
  have hr' : ¬ regionSize r < addr + 4 * words := by omega
  show execFabricRead tag r addr words true s = _
  simp [execFabricRead, hw, hp, hi, hr', hm]

/-- A read of its mailbox by a core takes the oldest message. -/
theorem exec_fabricRead_mailbox {c : CoreId} {words : Nat} {msg : Mail} {rest : List Mail} (hp : s.dev.powered = true) (h1 : 1 ≤ words)
    (h8 : words ≤ 8) (hi : tagUsed s.dev tag = some (.core c)) (hmail : s.dev.mail[coreNum c] = msg :: rest) :
    exec (.fabricRead tag (.mailbox c) 0 words false) s = .next { s with
      dev := ({ s.dev with mail := vmod s.dev.mail (coreNum c) fun q => q.drop 1 } : Dev).say
        (.fabric tag.toNat (.data (wordsOf words (msg.body ++ List.replicate 64 0)))) } := by
  have hw : ¬ (words = 0 ∨ 8 < words) := by omega
  have hr : ¬ regionSize (.mailbox c) < 0 + 4 * words := by simp only [regionSize]; omega
  have hm : mayRead s.dev (.core c) (.mailbox c) 0 (4 * words) = true := by simp [mayRead]
  show execFabricRead tag (.mailbox c) 0 words false s = _
  simp only [execFabricRead, hw, hp, hi, hr, hm, hmail, if_false, Bool.not_true, Bool.false_eq_true, or_self, reduceCtorEq, false_and]

end

/-- The words read from a memory are the bytes that stand there. -/
theorem getD_bytesAt (s : State) (r : Region) (addr : Nat) {n k : Nat} (hk : k < n) :
    (s.bytesAt r addr n).getD k 0 = s.byteAt r (addr + k) := by
  simp [State.bytesAt, List.getD, hk]

/-! ### Crossings, timer channels and posts (01 R18, R19; 02 R45, R53) -/

/-- An entry pushed into a queue crossing with nothing stalled joins its end, or stalls where the crossing is full (02 R53). -/
theorem writeOrStall_queue {x : Crossing} {c : Nat} (hk : xKind c = .queue) (hx : x.state = .running) (hs : x.stalled = []) (tag : Nat)
    (w : List Word) : x.writeOrStall c tag w =
      if xDepth c < xFill c (x.entries ++ [w]) then { x with stalled := [(tag, w)] }
      else { x with entries := x.entries ++ [w], highWater := max x.highWater (x.entries.length + 1) } := by
  simp only [Crossing.writeOrStall, Crossing.push, hk, hx, hs]
  by_cases h : xDepth c < xFill c (x.entries ++ [w]) <;> simp [h]

section
variable {s : State} {tag : BitVec 5}

theorem exec_fabricWrite_queue {i : Initiator} {c : Fin 58} {words : List Word} (hp : s.dev.powered = true) (h1 : 1 ≤ words.length)
    (h8 : words.length ≤ 8) (hi : tagUsed s.dev tag = some i) (hm : mayWrite s.dev s.mem i (.crossing c) 0 (4 * words.length) = true)
    (hk : xKind c = .queue) :
    let x := s.dev.crossings[c].writeOrStall c tag.toNat words
    exec (.fabricWrite tag (.crossing c) 0 words) s = .next { s with
      dev := if x.stalled = [] then (s.dev.setCrossing c fun _ => x).say (.fabric tag.toNat .done) else s.dev.setCrossing c fun _ => x } := by
  have hw := words_carried h1 h8
  have hr : ¬ regionSize (.crossing c) < 4 * words.length := by simp only [regionSize]; omega
  have h36 : c ≠ 0x36 := by rintro rfl; simp [xKind] at hk
  have h28 : c ≠ 0x28 := by rintro rfl; simp [xKind] at hk
  show execFabricWrite tag (.crossing c) 0 words s = _
  simp [execFabricWrite, hw, hp, hi, hr, hm, h36, h28, Dev.logHolds]

theorem exec_fabricWrite_timer {k : CoreId} {n : Fin 64} {words : List Word} (hp : s.dev.powered = true) (h1 : 1 ≤ words.length)
    (h2 : words.length ≤ 2) (hi : tagUsed s.dev tag = some (.core k)) (hk : k ≠ .firebreakB) :
    exec (.fabricWrite tag (.timerChannel n) 0 words) s = .next { s with
      dev := ({ s.dev with time := { s.dev.time with timers := s.dev.time.timers.set n (some (leVal (bytesOf words), k)) } } : Dev).say
        (.fabric tag.toNat .done) } := by
  have hw := words_carried h1 (by omega)
  have hr : ¬ regionSize (.timerChannel n) < 4 * words.length := by simp only [regionSize]; omega
  show execFabricWrite tag (.timerChannel n) 0 words s = _
  simp [execFabricWrite, hw, hp, hi, hr, mayWrite, hk, Dev.logHolds]

theorem exec_fabricPost {i : Initiator} {c : CoreId} {b : Bytes} (hp : s.dev.powered = true) (hb : b.length ≤ 64)
    (hi : tagUsed s.dev tag = some i) (hd : i ≠ .debug) :
    exec (.fabricPost tag c b) s = .next { s with
      dev := ({ s.dev with mail := vmod s.dev.mail (coreNum c) fun q => q ++ [⟨tag.toNat, b⟩] } : Dev).say (.fabric tag.toNat .done) } := by
  have hl : ¬ 64 < b.length := by omega
  have hmay : mayPost i = true := by
    cases i with
    | debug => exact absurd rfl hd
    | _ => rfl
  show execFabricPost tag c b s = _
  simp [execFabricPost, State.onDev, hl, hp, hi, hmay]

end

/-- Settles O8: one equation for `exec` per kind of target, and what is stored is read again. -/
theorem grantedTransactionsReachMemory : Obligations.GrantedTransactionsReachMemory := by
  unfold Obligations.GrantedTransactionsReachMemory
  intro memory
  refine ⟨fun s tag i r addr words hp h1 h8 hi hr hm hl hmem hv hw => ?_, fun s tag i r addr words hp h1 h8 hi hr hm hmem hv => ?_,
    fun s tag c words msg rest hp h1 h8 hi hmail => ?_, fun s tag i r addr words hp h1 h8 hi hr hm => ?_⟩
  · refine ⟨_, exec_fabricWrite_memory hp h1 h8 hi hr hm hl hmem hv, fun k hk => ?_, fun a ha => ?_, Memory.wf_writeBytes _ _ hw, rfl, rfl⟩
    · exact read_writeBytes_same _ hw _ (by rwa [length_bytesOf])
    · exact Memory.read_writeBytes_other _ _ _ _ (by rwa [length_bytesOf])
  · refine ⟨_, exec_fabricRead_memory hp h1 h8 hi hr hm hmem hv, ⟨_, rfl, length_wordsOf _ _, fun k hk => ?_⟩, rfl, rfl⟩
    rw [getD_bytesOf_wordsOf _ _ hk, getD_bytesAt _ _ _ hk]
  · refine ⟨_, exec_fabricRead_mailbox hp h1 h8 hi hmail, ⟨_, rfl, length_wordsOf _ _, fun k hk => ?_⟩, ?_, fun q hq => ?_, ?_⟩
    · rw [getD_bytesOf_wordsOf _ _ hk]
      exact getD_append_zeros _ _ _
    · exact (vmod_same ..).trans (congrArg (List.drop 1) hmail)
    · exact vmod_other _ _ hq
    · exact Keeps.only_nil (M := 130) (Dev.say_keeps _ _ (by decide) (keeps_mail _ (by decide) (.refl _ _))) (by decide) (by decide)
  · exact ⟨_, exec_fabricRead_bad hp h1 h8 hi hr hm, rfl⟩

/-- Settles O9: one equation for `exec` per kind of target. -/
theorem crossingsTimersAndPostsTakeTransactions : Obligations.CrossingsTimersAndPostsTakeTransactions := by
  unfold Obligations.CrossingsTimersAndPostsTakeTransactions
  refine ⟨fun s tag i c words hp h1 h8 hi hm hk hrun hst => ?_,
    fun s tag k n words hp h1 h2 hi hk => ⟨_, exec_fabricWrite_timer hp h1 h2 hi hk, ?_, fun b hb => ?_, rfl, rfl, ?_⟩,
    fun s tag i c b hp hb hi hd => ⟨_, exec_fabricPost hp hb hi hd, ?_, fun q hq => ?_, rfl, ?_⟩⟩
  · have hexec := exec_fabricWrite_queue hp h1 h8 hi hm hk
    have hother (x : Crossing) (b : Fin 58) (hb : b ≠ c) := s.dev.setCrossing_get_other (fun _ => x) hb
    have hkeep (x : Crossing) : Keeps 34 s.dev (s.dev.setCrossing c fun _ => x) := Dev.setCrossing_keeps _ _ _ (by decide) (.refl _ _)
    by_cases hfull : xDepth c < xFill c (s.dev.crossings[c].entries ++ [words])
    · simp only [writeOrStall_queue hk hrun hst, if_pos hfull, reduceCtorEq, if_false] at hexec
      simp only [Fin.getElem_fin] at hfull
      refine ⟨_, hexec, ?_, ?_, ?_, ?_, hother _, (hkeep _).only_nil (by decide) (by decide)⟩ <;> simp [hfull]
    · simp only [writeOrStall_queue hk hrun hst, if_neg hfull] at hexec
      rw [if_pos hst] at hexec
      simp only [Fin.getElem_fin] at hfull hst
      refine ⟨_, hexec, ?_, ?_, ?_, ?_, hother _, (Dev.say_keeps _ _ (by decide) (hkeep _)).only_nil (by decide) (by decide)⟩ <;>
        simp [hfull, Dev.say, hst]
  · simp [Dev.say]
  · exact set_other _ _ hb
  · exact Keeps.only_nil (M := 10) (Dev.say_keeps _ _ (by decide) (keeps_time _ (by decide) (.refl _ _))) (by decide) (by decide)
  · exact vmod_same _ _ _
  · exact vmod_other _ _ hq
  · exact Keeps.only_nil (M := 130) (Dev.say_keeps _ _ (by decide) (keeps_mail _ (by decide) (.refl _ _))) (by decide) (by decide)

end Sys2Proof.Machine
end

section
/-! PROOFS. Fabric time, UTC, timer channels, and the crossings' resets and counts (02 R40 to R45, R48, R57 to R61). -/

namespace Sys2Proof.Machine

/-! ### Crossings -/

@[simp] theorem setCrossing_getElem (d : Dev) (c : Fin 58) (f : Crossing → Crossing) : (d.setCrossing c f).crossings[c] = f d.crossings[c] :=
  Dev.setCrossing_get d c f

theorem setCrossing_getElem_other (d : Dev) {c b : Fin 58} (f : Crossing → Crossing) (h : b ≠ c) :
    (d.setCrossing c f).crossings[b] = d.crossings[b] :=
  Dev.setCrossing_get_other d f h

/-- A value put on a crossing that runs replaces the value and is fresh (02 R54). -/
theorem produce_value {x : Crossing} {c : Nat} (hk : xKind c = .value) (hx : x.state = .running) (w : List Word) :
    x.produce c w = { x with entries := [w], stale := false, blank := false } := by
  simp [Crossing.produce, Crossing.push, hk, hx]

/-- An event put on a crossing that runs joins the undelivered, or is lost and counted beyond four (02 R52). -/
theorem produce_event {x : Crossing} {c : Nat} (hk : xKind c = .event) (hx : x.state = .running) (w : List Word) :
    x.produce c w = if x.entries.length < 4 then
      { x with entries := x.entries ++ [w], highWater := max x.highWater (x.entries.length + 1) }
    else { x with overrun := true, overruns := satAdd 32 x.overruns 1 } := by
  by_cases h : x.entries.length < 4
  · simp [Crossing.produce, Crossing.push, hk, hx, h, Nat.not_le_of_lt h]
  · simp [Crossing.produce, Crossing.push, hk, hx, h, Nat.le_of_not_lt h]

theorem event_produced {d : Dev} {c : Fin 58} (hk : xKind c = .event) (hx : d.crossings[c].state = .running) (w : List Word) :
    if d.crossings[c].entries.length < 4 then
      (d.produce c w).crossings[c].entries = d.crossings[c].entries ++ [w] ∧ (d.produce c w).crossings[c].overruns = d.crossings[c].overruns
    else (d.produce c w).crossings[c].entries = d.crossings[c].entries ∧ (d.produce c w).crossings[c].overrun = true ∧
      (d.produce c w).crossings[c].overruns = satAdd 32 d.crossings[c].overruns 1 := by
  have hval : (d.produce c w).crossings[c] = d.crossings[c].produce c w := setCrossing_getElem d c _
  rw [hval, produce_event hk hx]
  split <;> simp

theorem produce_getElem_other (d : Dev) {c b : Fin 58} (w : List Word) (h : b ≠ c) : (d.produce c w).crossings[b] = d.crossings[b] :=
  setCrossing_getElem_other d _ h

/-! ### Time (02 R40, R42, R44, R45, R48) -/

/-- A slew moves towards zero by what is left of it, at most 15,625 sixteenths of a microsecond (02 R44). -/
theorem slewStep_moves (x : Int) : (x - slewStep x - x).natAbs = min x.natAbs 15625 ∧ (x - slewStep x).natAbs ≤ x.natAbs := by
  unfold slewStep
  omega

theorem state_ne_off_of_powered {d : Dev} (h : d.powered = true) : d.power.state ≠ .off := by
  intro e
  simp [Dev.powered, e] at h

/-- While time is unknown no boundary is due. -/
theorem secondReached_of_unknown {d : Dev} (h : d.time.unknown = true) : d.secondReached = d := by
  simp [Dev.secondReached, h]

theorem secondReached_of_unpowered {d : Dev} (h : d.powered = false) : d.secondReached = d := by
  simp [Dev.secondReached, Dev.heartwoodUp, h]

/-- The second event touches, beside what boundaries touch, crossing 0x2E only. -/
theorem secondEvent_crossings (d : Dev) {c : Fin 58} (h : c ≠ 0x2E) : (secondEvent d).crossings[c] = d.crossings[c] := by
  unfold secondEvent
  split
  · have hk : Keeps 1794052 (d.crossed 0x2E) (d.crossed 0x2E).secondReached := Dev.secondReached_keeps0 _
    simp only [hk.get_crossings rfl]
    exact setCrossing_getElem_other d _ h
  · rfl

theorem secondEvent_quiet {d : Dev} (h : d.time.unknown = true ∨ d.powered = false) : Keeps 32 d (secondEvent d) := by
  unfold secondEvent
  split
  · have hq : (d.crossed 0x2E).secondReached = d.crossed 0x2E :=
      h.elim (fun h => secondReached_of_unknown (d := d.crossed 0x2E) h) fun h => secondReached_of_unpowered (d := d.crossed 0x2E) h
    rw [hq]
    exact Dev.crossed_keeps0 d _
  · exact .refl _ _

/-- What a UTC second makes of the device while it is powered, before the boundaries: the edge, the deviation of the time base, and the event where
it is `late` (02 R42, R44, R48). -/
def secondLatched (late : Bool) (ppm : Int) (d : Dev) : Dev :=
  let e := (utcEdge d).putInt Key.i1VersusI6 ppm
  if late then e.general (.timeBaseMismatch ppm) else e

section
variable (late : Bool) (ppm : Int) (d : Dev)

theorem secondLatched_keeps : Keeps 8236 d (secondLatched late ppm d) := by
  have h : Keeps 8236 d ((utcEdge d).putInt Key.i1VersusI6 ppm) :=
    Dev.putInt_keeps _ _ _ (by decide) (utcEdge_keeps _ (by decide) (.refl _ _))
  cases late
  · exact h
  · exact Dev.general_keeps _ _ (by decide) h

theorem secondLatched_time : (secondLatched late ppm d).time =
    { d.time with utcS := d.time.utcS + 1, tLatch := d.time.fabric, slew := d.time.slew - slewStep d.time.slew } := by
  cases late <;> simp [secondLatched, utcEdge]

theorem secondLatched_crossings : (secondLatched late ppm d).crossings = (utcEdge d).crossings := by
  cases late <;> simp [secondLatched]

theorem secondLatched_val_other {k : Nat} (h : k ≠ Key.i1VersusI6) : (secondLatched late ppm d).val k = d.val k := by
  have hval : ((utcEdge d).putInt Key.i1VersusI6 ppm).val k = d.val k := Dev.val_putInt_other _ _ h.symm
  cases late <;> simp [secondLatched, hval]

/-- A time base that is late is logged (02 R48). -/
theorem secondLatched_heart :
    (if late then ∃ e p, (secondLatched late ppm d).heart.general = e :: d.heart.general.take 98303 ∧ e.event = .timeBaseMismatch p
      else (secondLatched late ppm d).heart.general = d.heart.general) ∧
    (secondLatched late ppm d).heart = { d.heart with general := (secondLatched late ppm d).heart.general } := by
  cases late with
  | false => simp [secondLatched, utcEdge]
  | true =>
    obtain ⟨e, he, hh⟩ := Dev.general_heart ((utcEdge d).putInt Key.i1VersusI6 ppm) (.timeBaseMismatch ppm)
    have hheart : ((utcEdge d).putInt Key.i1VersusI6 ppm).heart = d.heart := Dev.putInt_heart ..
    rw [hheart] at hh
    exact ⟨⟨e, ppm, congrArg Heartwood.general hh, he⟩, hh.trans (by simp [secondLatched, hh])⟩

end

theorem ite_of_iff {p q a b : Prop} [Decidable p] [Decidable q] (h : p ↔ q) (hq : if q then a else b) : if p then a else b := by
  by_cases hp : p
  · rw [if_pos (h.1 hp)] at hq
    rwa [if_pos hp]
  · rw [if_neg fun hq => hp (h.2 hq)] at hq
    rwa [if_neg hp]

/-- The time base is off by more than 200 ppm (02 R48). -/
def timeBaseOff (ticks : Nat) : Bool := decide (200 * 4096000 < ((ticks : Int) - 4096000).natAbs * 1000000)

theorem exec_utcSecond_powered {s : State} (ticks : Nat) (hp : s.dev.powered = true) (hx : s.dev.clocks.xt32Lost = false) :
    exec (.utcSecond ticks) s =
      .next { s with dev := secondEvent (secondLatched (timeBaseOff ticks) (ppmOf ticks 4096000) s.dev) } := by
  have hoff := state_ne_off_of_powered hp
  have h : utcSecond ticks s.dev = secondLatched (timeBaseOff ticks) (ppmOf ticks 4096000) s.dev := by
    simp [utcSecond, hp, hx, hoff, secondLatched, timeBaseOff]
  show execUtcSecond ticks s = _
  simp [execUtcSecond, State.onDev, h, secondLatched_time]

theorem exec_utcSecond_onVbat {s : State} (ticks : Nat) (hp : s.dev.powered = false) (hoff : s.dev.power.state ≠ .off)
    (hx : s.dev.clocks.xt32Lost = false) : 
    let e : Dev := { s.dev with time := { s.dev.time with utcS := s.dev.time.utcS + 1, slew := s.dev.time.slew - slewStep s.dev.time.slew } }
    exec (.utcSecond ticks) s = .next { s with dev := secondEvent e } := by
  show execUtcSecond ticks s = _
  simp [execUtcSecond, State.onDev, utcSecond, hp, hx, hoff]

/-- An armed timer channel that has come to its compare value expires once, and its core is told while crossing 0x05 runs (02 R45, R59). -/
theorem exec_timerExpiry {s : State} {n : Fin 64} {due : Nat} {core : CoreId} (hp : s.dev.powered = true)
    (ht : s.dev.time.timers[n] = some (due, core)) (hdue : due ≤ s.dev.time.fabric) :
    let d : Dev := { s.dev with time := { s.dev.time with timers := s.dev.time.timers.set n none } }
    exec (.timerExpiry n) s = .next { s with
      dev := if s.dev.crossings[(5 : Fin 58)].state = .running then (d.produce 5 [BitVec.ofNat 32 n]).say (.timer core n) else d } := by
  show execTimerExpiry n s = _
  rw [execTimerExpiry, State.onDev, timerExpiry, ht]
  simp only [hp, hdue, and_self, if_true, Dev.passes, decide_eq_true_eq]

/-- What a UTC second leaves while the device is powered; `off` says that the time base is off (02 R42, R44, R48). -/
theorem second_powered (s : State) (late : Bool) (ppm : Int) {off : Prop} [Decidable off] (hoff : off ↔ late = true) :
    let t := { s with dev := secondEvent (secondLatched late ppm s.dev) }
    t.dev.time.utcS = s.dev.time.utcS + 1 ∧ t.dev.time.tLatch = s.dev.time.fabric ∧
      (t.dev.time.slew - s.dev.time.slew).natAbs = min s.dev.time.slew.natAbs 15625 ∧ t.dev.time.slew.natAbs ≤ s.dev.time.slew.natAbs ∧
      t.dev.time = { s.dev.time with utcS := t.dev.time.utcS, tLatch := t.dev.time.tLatch, slew := t.dev.time.slew } ∧
      (s.dev.crossings[0x2D].state = .running → t.dev.crossings[0x2D].stale = false ∧
        t.dev.crossings[0x2D].entries = [utcWords { s.dev with time := t.dev.time }]) ∧
      (∀ c : Fin 58, c ≠ 0x2D → c ≠ 0x2E → t.dev.crossings[c] = s.dev.crossings[c]) ∧
      (s.dev.time.unknown = true →
        (if off then ∃ e ppm, t.dev.heart.general = e :: s.dev.heart.general.take 98303 ∧ e.event = .timeBaseMismatch ppm
          else t.dev.heart.general = s.dev.heart.general) ∧ t.dev.heart = { s.dev.heart with general := t.dev.heart.general } ∧
        Only [.time, .crossings, .heart] [Key.i1VersusI6] s t) ∧
      Within [.obj, .time, .crossings, .heart, .ports, .site, .safety, .energy, .tariff] s t := by
  have hk : Keeps 1794084 (secondLatched late ppm s.dev) (secondEvent (secondLatched late ppm s.dev)) := secondEvent_keeps0 _
  have htime : (secondEvent (secondLatched late ppm s.dev)).time = _ := (hk.get_time rfl).trans (secondLatched_time late ppm s.dev)
  have hcross (c : Fin 58) (hc : c ≠ 0x2E) : (secondEvent (secondLatched late ppm s.dev)).crossings[c] = (utcEdge s.dev).crossings[c] := by
    rw [secondEvent_crossings _ hc]
    simp only [secondLatched_crossings]
  obtain ⟨hslew, hslew'⟩ := slewStep_moves s.dev.time.slew
  dsimp only
  rw [htime]
  refine ⟨rfl, rfl, hslew, hslew', rfl, fun hrun => ?_, fun c hc hc' => ?_, fun hun => ?_, ?_⟩
  · have hx : (secondEvent (secondLatched late ppm s.dev)).crossings[0x2D] = (utcEdge s.dev).crossings[0x2D] := hcross 0x2D (by decide)
    have hval : (utcEdge s.dev).crossings[0x2D] = (s.dev.crossings[0x2D]).produce 0x2D _ := setCrossing_getElem _ (0x2D : Fin 58) _
    rw [hx, hval, produce_value rfl hrun]
    exact ⟨rfl, rfl⟩
  · rw [hcross c hc']
    exact produce_getElem_other _ _ hc
  · have hq := secondEvent_quiet (d := secondLatched late ppm s.dev) (.inl (by rw [secondLatched_time]; exact hun))
    obtain ⟨hlog, hheart⟩ := secondLatched_heart late ppm s.dev
    rw [← hq.get_heart rfl] at hlog hheart
    refine ⟨ite_of_iff hoff hlog, hheart, ((secondLatched_keeps late ppm s.dev).trans (hq.mono (by decide))).only (by decide) fun k hk => ?_⟩
    simp only [Dev.val, hq.get_obj rfl]
    exact secondLatched_val_other late ppm s.dev (List.ne_of_not_mem_cons hk)
  · exact (Keeps.after (by decide) hk ((secondLatched_keeps late ppm s.dev).mono (L := 1794092) (by decide))).within (by decide)

/-- Settles O10: each clause is what one function of the islands does, and the frames of the boundaries that a second may run. -/
theorem islandsKeepTime : Obligations.IslandsKeepTime := by
  unfold Obligations.IslandsKeepTime
  refine ⟨fun s mips hp hr => ⟨_, rfl, ?_⟩, fun s ticks hp hx => ⟨_, exec_utcSecond_powered ticks hp hx, ?_⟩,
    fun s ticks hp hoff hx => ⟨_, exec_utcSecond_onVbat ticks hp hoff hx, ?_⟩,
    fun s n due core hp ht hdue => ⟨_, exec_timerExpiry hp ht hdue, ?_⟩⟩
  · have hne : Key.fabricSpeedNow ≠ Key.fabricSpeedMin := by decide
    have h : fabricSpeedMeasure mips s.dev = _ := if_neg (by simp [hp, hr])
    dsimp only
    rw [h]
    refine ⟨?_, ?_, ?_⟩
    · rw [Dev.nat_putNat_other _ _ hne.symm, Dev.nat_putNat]
    · exact Dev.nat_putNat _ _ _
    · refine Keeps.only (M := 4) (Dev.putNat_keeps _ _ _ (by decide) (Dev.putNat_keeps0 _ _ _)) (by decide) fun k hk => ?_
      simp only [List.mem_cons, List.not_mem_nil, or_false, not_or] at hk
      rw [Dev.val_putNat_other _ _ (Ne.symm hk.2), Dev.val_putNat_other _ _ (Ne.symm hk.1)]
  · exact second_powered s (timeBaseOff ticks) _ decide_eq_true_iff.symm
  · let e : Dev := { s.dev with time := { s.dev.time with utcS := s.dev.time.utcS + 1, slew := s.dev.time.slew - slewStep s.dev.time.slew } }
    have hq : Keeps 32 e (secondEvent e) := secondEvent_quiet (.inr hp)
    have htime : (secondEvent e).time = _ := hq.get_time rfl
    obtain ⟨hslew, hslew'⟩ := slewStep_moves s.dev.time.slew
    have hall : Keeps 40 s.dev (secondEvent e) := (keeps_time _ (by decide) (.refl _ _)).trans (hq.mono (by decide))
    refine ⟨?_, ?_, ?_, hall.only_nil (by decide) (by decide)⟩ <;> dsimp only <;> rw [htime]
    · exact hslew
    · exact hslew'
  · by_cases hrun : s.dev.crossings[(5 : Fin 58)].state = .running
    · rw [if_pos hrun]
      refine ⟨rfl, (if_pos hrun).symm ▸ rfl, fun _ => event_produced (c := 5) rfl hrun _, fun h => absurd hrun h,
        fun c hc => produce_getElem_other _ _ hc, ?_⟩
      exact Keeps.only_nil (M := 42) (Dev.say_keeps _ _ (by decide) (Dev.produce_keeps _ _ _ (by decide)
        (keeps_time _ (by decide) (.refl _ _)))) (by decide) (by decide)
    · rw [if_neg hrun]
      exact ⟨rfl, ((congrArg (s.dev.out ++ ·) (if_neg hrun)).trans (List.append_nil _)).symm, fun h => absurd h hrun, fun _ => rfl, fun _ _ => rfl,
        Keeps.only_nil (M := 8) (keeps_time _ (by decide) (.refl _ _)) (by decide) (by decide)⟩

end Sys2Proof.Machine
end

section
/-! PROOFS. The changed place of each table, and the frames of answers to hosts (06 R138 to R150; 05 R133). -/

namespace Sys2Proof.Machine

/-! ### Places of tables -/

namespace Dev

@[simp] theorem port_setPort_same (d : Dev) (p : PortId) (f : Port → Port) : (d.setPort p f).port p = f (d.port p) := by
  simp [Dev.port, Dev.setPort, vmod]

theorem port_setPort_other (d : Dev) {p j : PortId} (f : Port → Port) (h : j ≠ p) : (d.setPort p f).port j = d.port j :=
  vmod_other _ _ h

@[simp] theorem psafe_setPsafe_same (d : Dev) (p : PortId) (f : PortSafety → PortSafety) : (d.setPsafe p f).psafe p = f (d.psafe p) := by
  simp [Dev.psafe, Dev.setPsafe, vmod]

theorem psafe_setPsafe_other (d : Dev) {p j : PortId} (f : PortSafety → PortSafety) (h : j ≠ p) : (d.setPsafe p f).psafe j = d.psafe j :=
  vmod_other _ _ h

@[simp] theorem meter_setMeter_same (d : Dev) (e : EntityId) (f : Meter → Meter) : (d.setMeter e f).meter e = f (d.meter e) := by
  simp [Dev.meter, Dev.setMeter, vmod]

theorem meter_setMeter_other (d : Dev) {e j : EntityId} (f : Meter → Meter) (h : j ≠ e) : (d.setMeter e f).meter j = d.meter j :=
  vmod_other _ _ h

@[simp] theorem chan_setChan_same (d : Dev) (c : Fin 68) (f : Channel → Channel) : (d.setChan c f).chan c = f (d.chan c) := by
  simp [Dev.chan, Dev.setChan, vmod]

theorem chan_setChan_other (d : Dev) {c j : Fin 68} (f : Channel → Channel) (h : j ≠ c) : (d.setChan c f).chan j = d.chan j :=
  vmod_other _ _ h

@[simp] theorem module_setModule_same (d : Dev) (i : Fin 16) (f : Module → Module) : (d.setModule i f).modules[i] = f d.modules[i] := by
  simp [Dev.setModule, vmod]

theorem module_setModule_other (d : Dev) {i j : Fin 16} (f : Module → Module) (h : j ≠ i) : (d.setModule i f).modules[j] = d.modules[j] :=
  vmod_other _ _ h

theorem core_setCore_same (d : Dev) (c : CoreId) (r : CoreRun) : (d.setCore c r).cores[coreNum c] = r := by
  simp [Dev.setCore]

theorem coreNum_inj {c k : CoreId} (h : coreNum c = coreNum k) : c = k := by
  cases c <;> cases k <;> first | rfl | cases h

theorem core_setCore_other (d : Dev) {c k : CoreId} (r : CoreRun) (h : k ≠ c) : (d.setCore c r).cores[coreNum k] = d.cores[coreNum k] :=
  set_other _ _ fun e => h (coreNum_inj e)

@[simp] theorem group_setGroup_same (d : Dev) {g : Nat} (f : Group → Group) (h : g < 64) : (d.setGroup g f).group g = f (d.group g) := by
  simp [Dev.group, Dev.setGroup, vmod, h, Vector.getD]

theorem group_setGroup_other (d : Dev) {g j : Nat} (f : Group → Group) (h : j ≠ g) : (d.setGroup g f).group j = d.group j := by
  unfold Dev.setGroup
  split
  · simp [Dev.group, vmod, Vector.getD, Ne.symm h]
  · rfl

end Dev

/-! ### Frames of answers -/

/-- The keys that every abort writes (05 R133). -/
def abortKeys : List Nat := [Key.lastAbortCode, Key.lastAbortObject, Key.lastAbortHost, Key.abortCount]

/-- What an interface carries depends on clocks, crossings, power, its controller, and the PHY that was found. -/
theorem carries_congr {d e : Dev} (hcl : e.clocks = d.clocks) (hx : e.crossings = d.crossings) (hp : e.power = d.power)
    (hcan : e.hosts.can = d.hosts.can) (hphy : e.nat Key.eth0PhyFound = d.nat Key.eth0PhyFound) (i : Iface) (n : Nat) :
    e.carries i n = d.carries i n := by
  cases i <;> simp only [Dev.carries, Dev.linkLive, Dev.passes, Dev.rail, Dev.can5Active, hcl, hx, hp, hcan, hphy]

theorem eth0PhyFound_notin_hostKeys (x : SlotId) : Key.eth0PhyFound ∉ hostKeys x := fun h => by
  have := hostKeys_range h
  simp only [Key.eth0PhyFound, ob] at this
  omega

/-- The parts on which depends what an interface carries: clocks, crossings, power, hosts. -/
abbrev linkParts (M : Nat) : Prop := M.testBit 4 = false ∧ M.testBit 5 = false ∧ M.testBit 10 = false ∧ M.testBit 12 = false

section
variable {s : State} {e : Dev} {m : HostMsg} {r : HostReply} {parts : List Part} {keys : List Nat} {M : Nat}

/-- An answer on the admitted device, changed in parts that no link depends on, serves the message. -/
theorem served_keeps (key : Nat) (h : s.dev.hears m = true) (hkeep : Keeps M (s.dev.admitted m) e) (hM : linkParts M)
    (hp : M ||| Part.mask (.obj :: parts) = Part.mask (.obj :: parts)) (hk : ∀ k, k ∉ keys → e.val k = (s.dev.admitted m).val k)
    (hphy : Key.eth0PhyFound ∉ keys) (hlen : m.iface ≠ .can5 ∨ (replyParts r).2.2.2.2.length ≤ 44) :
    Served m r parts keys s { s with dev := e.answer ((s.dev.admitted m).ackOf m key) r } := by
  obtain ⟨hcl, hx, hpow, hh⟩ := hM
  have hc : e.carries m.iface (replyParts r).2.2.2.2.length = true := by
    rw [carries_congr (hkeep.get_clocks hcl) (hkeep.get_crossings hx) (hkeep.get_power hpow) (by rw [hkeep.get_hosts hh])
      (by simp only [Dev.nat, Dev.int, hk _ hphy]), admitted_carries]
    exact carries_of_heard h _ hlen
  exact served key h (hkeep.get_hosts hh) hc (fun x ho _ hx => (hkeep.mono hp) x (Part.mask_testBit _ x (by simp [ho, hx]))) hk

theorem val_noteAbort (d : Dev) (x : SlotId) (code key : Nat) {k : Nat} (h : k ∉ abortKeys) : (d.noteAbort x code key).val k = d.val k := by
  simp only [abortKeys, List.mem_cons, List.not_mem_nil, or_false, not_or] at h
  obtain ⟨h1, h2, h3, h4⟩ := h
  rw [Dev.noteAbort, Dev.val_bump_other _ _ (Ne.symm h4), Dev.val_putNat_other _ _ (Ne.symm h3), Dev.val_putNat_other _ _ (Ne.symm h2),
    Dev.val_putNat_other _ _ (Ne.symm h1)]

/-- A request aborted on the admitted device, with what was changed before it (05 R133). -/
theorem served_abort (key code : Nat) (h : s.dev.hears m = true) (hkeep : Keeps M (s.dev.admitted m) e) (hM : linkParts (4 ||| M))
    (hp : (4 ||| M) ||| Part.mask (.obj :: parts) = Part.mask (.obj :: parts)) (hk : ∀ k, k ∉ keys → e.val k = (s.dev.admitted m).val k)
    (hphy : Key.eth0PhyFound ∉ keys) :
    Served m (.abort code key) parts (keys ++ abortKeys) s { s with dev := e.abort ((s.dev.admitted m).ackOf m key) code } := by
  refine served_keeps (M := 4 ||| M) key h (Keeps.after ?_ (Dev.noteAbort_keeps0 e m.slot code key) (hkeep.mono ?_)) hM hp (fun k hn => ?_) ?_
    (.inr (by simp [replyParts, length_leBytes]))
  · rw [← Nat.or_assoc, Nat.or_self]
  · rw [Nat.or_comm 4, ← Nat.or_assoc, Nat.or_self]
  · rw [List.mem_append, not_or] at hn
    rw [val_noteAbort _ _ _ _ hn.2, hk k hn.1]
  · rw [List.mem_append, not_or]
    exact ⟨hphy, by decide⟩

/-- A request aborted at once. -/
theorem served_abort_nil (key code : Nat) (h : s.dev.hears m = true) :
    Served m (.abort code key) [] abortKeys s { s with dev := (s.dev.admitted m).abort ((s.dev.admitted m).ackOf m key) code } :=
  served_abort (M := 0) (keys := []) key code h (.refl _ _) (by decide) (by decide) (fun _ _ => rfl) (by simp)

/-- A request done on the admitted device, changed in parts that no link depends on. -/
theorem served_ok (key : Nat) (h : s.dev.hears m = true) (hkeep : Keeps M (s.dev.admitted m) e) (hM : linkParts M)
    (hp : M ||| Part.mask (.obj :: parts) = Part.mask (.obj :: parts)) (hk : ∀ k, k ∉ keys → e.val k = (s.dev.admitted m).val k)
    (hphy : Key.eth0PhyFound ∉ keys) :
    Served m (.done key) parts keys s { s with dev := e.ok ((s.dev.admitted m).ackOf m key) } :=
  served_keeps key h hkeep hM hp hk hphy (.inr (by simp [replyParts]))

end

end Sys2Proof.Machine
end

section
/-! PROOFS. Resets, resynchronisation and clearing of crossings; clocks lost and back (02 R46, R47, R57 to R61). -/

namespace Sys2Proof.Machine

/-! ### A side in reset (02 R57 to R60) -/

/-- The state of a crossing while a side of it is in reset. -/
def sideState : Side → XState
  | .island => .islandReset
  | .fabric => .fabricReset

/-- The crossing with the side's reset, and the windows on its entries abandoned. -/
def Dev.sideDown (d : Dev) (c : Fin 58) (side : Side) : Dev :=
  (d.setCrossing c fun x => x.sideReset c (sideState side) d.nowUs).abandonCrossing c

section
variable (d : Dev) (c : Fin 58)

theorem crossingSideReset_island (hp : d.powered = true) : d.crossingSideReset c .island = (d.sideDown c .island).unitRejoins c := by
  simp only [Dev.crossingSideReset, hp, Bool.not_true, Bool.false_eq_true, if_false, Dev.sideDown, sideState]

theorem crossingSideReset_fabric (hp : d.powered = true) : d.crossingSideReset c .fabric = (d.sideDown c .fabric).modemReset c := by
  simp only [Dev.crossingSideReset, hp, Bool.not_true, Bool.false_eq_true, if_false, Dev.sideDown, sideState]

theorem modemReset_slac (h : 0x08 ≤ c.val ∧ c.val ≤ 0x17) : ((d.modemReset c).port ⟨c.val % 8, by omega⟩).slac = .restarted := by
  unfold Dev.modemReset
  split
  · rw [Dev.port_setPort_same]
  · contradiction

theorem unitRejoins_slac (h : 0x08 ≤ c.val ∧ c.val ≤ 0x17) : ((d.unitRejoins c).port ⟨c.val % 8, by omega⟩).slac = .restarted := by
  rw [Dev.unitRejoins, if_pos h]
  exact modemReset_slac d c h

theorem unitRejoins_can (h : 0x1C ≤ c.val ∧ c.val ≤ 0x27) (ho : d.hosts.can[(c.val - 0x1C) % 6] ≠ .off) :
    (d.unitRejoins c).hosts.can[(c.val - 0x1C) % 6] = .integrating := by
  have hn : ¬ (0x08 ≤ c.val ∧ c.val ≤ 0x17) := by omega
  simp [Dev.unitRejoins, hn, h, vmod, ho]

theorem sideDown_keeps (side : Side) : Keeps 4194340 d (d.sideDown c side) :=
  Dev.abandonCrossing_keeps _ _ (by decide) (Dev.setCrossing_keeps _ _ _ (by decide) (.refl _ _))

theorem crossingSideReset_keeps (side : Side) (hp : d.powered = true) : Keeps 33976324 (d.sideDown c side) (d.crossingSideReset c side) := by
  cases side
  · rw [crossingSideReset_island d c hp]
    exact Dev.unitRejoins_keeps0 _ c
  · rw [crossingSideReset_fabric d c hp]
    exact (Dev.modemReset_keeps0 _ c).mono (by decide)

theorem crossingSideReset_crossings (side : Side) (hp : d.powered = true) :
    (d.crossingSideReset c side).crossings = (d.setCrossing c fun x => x.sideReset c (sideState side) d.nowUs).crossings :=
  ((crossingSideReset_keeps d c side hp).get_crossings rfl).trans ((Dev.abandonCrossing_keeps0 _ _).get_crossings rfl)

end

/-- What the reset of a side makes of a crossing, by its kind. -/
theorem sideReset_spec (x : Crossing) (c : Nat) (st : XState) (now : Nat) :
    (x.sideReset c st now).state = (if x.state = .clockLost then .clockLost else st) ∧
    (x.sideReset c st now).stalled = (if st = .fabricReset then [] else x.stalled) ∧
    (xKind c = .queue → (x.sideReset c st now).entries = [] ∧
      (x.sideReset c st now).discarded = satAdd 32 x.discarded x.entries.length) ∧
    (xKind c = .value → (x.sideReset c st now).stale = true ∧ (x.sideReset c st now).entries = x.entries ∧
      ((x.sideReset c st now).blank = true ↔ x.blank = true ∨ xWriterDown c st = false)) ∧
    (xKind c = .event → (x.sideReset c st now).overrun = true ∧ (x.sideReset c st now).overruns = satAdd 32 x.overruns 1) ∧
    (x.sideReset c st now).lastReset = now := by
  cases hk : xKind c <;> simp [Crossing.sideReset, hk]

theorem crossingSideReset_leaves {s : State} (c : Fin 58) (side : Side) (hp : s.dev.powered = true) :
    Completes (.crossingSideReset c side) s fun t =>
      t.dev.crossings[c] = s.dev.crossings[c].sideReset c (sideState side) s.dev.nowUs ∧
      (∀ x : Fin 58, x ≠ c → t.dev.crossings[x] = s.dev.crossings[x]) ∧
      (side = .island → ∀ _h : 0x1C ≤ c.val ∧ c.val ≤ 0x27, s.dev.hosts.can[(c.val - 0x1C) % 6] ≠ .off →
        t.dev.hosts.can[(c.val - 0x1C) % 6] = .integrating) ∧
      (∀ _h : 0x08 ≤ c.val ∧ c.val ≤ 0x17, (t.dev.port ⟨c.val % 8, by omega⟩).slac = .restarted) ∧
      Within [.obj, .crossings, .hosts, .heart, .ports, .safety, .metro, .cvu, .canopy] s t := by
  have hx := crossingSideReset_crossings s.dev c side hp
  refine ⟨_, rfl, ?_, fun x hne => ?_, fun hs h ho => ?_, fun h => ?_, (Dev.crossingSideReset_keeps0 c side s.dev).within (by decide)⟩
  · simp only [hx]
    exact setCrossing_getElem _ _ _
  · simp only [hx]
    exact setCrossing_getElem_other _ _ hne
  · subst hs
    simp only [crossingSideReset_island _ c hp]
    refine unitRejoins_can _ c h ?_
    simpa only [(sideDown_keeps s.dev c .island).get_hosts rfl] using ho
  · cases side
    · simp only [crossingSideReset_island _ c hp]
      exact unitRejoins_slac _ c h
    · simp only [crossingSideReset_fabric _ c hp]
      exact modemReset_slac _ c h

/-! ### Resynchronisation (02 R57, R58) -/

/-- A crossing after its resynchronisation, by its kind. -/
theorem resynced_eq (x : Crossing) (c : Nat) : x.resynced c = { x with
    state := .running
    stale := if xKind c = .value ∧ (x.blank = true ∨ x.took = true) ∧ x.entries ≠ [] then false else x.stale
    blank := if xKind c = .value ∧ x.entries ≠ [] then false else x.blank
    took := if xKind c = .value then false else x.took
    resync := if xKind c = .queue then satAdd 32 x.resync 1 else x.resync } := by
  cases hk : xKind c
  case value =>
    by_cases he : x.entries = [] <;> cases hb : x.blank <;> cases ht : x.took <;> simp [Crossing.resynced, hk, he, hb, ht]
  all_goals simp [Crossing.resynced, hk]

/-- With nothing stalled, a resynchronisation changes its crossing only. -/
theorem crossingResyncDone_eq {d : Dev} {c : Fin 58} (hp : d.powered = true) (h1 : d.crossings[c].state ≠ .clockLost)
    (h2 : d.crossings[c].state ≠ .running) (hs : d.crossings[c].stalled = []) :
    crossingResyncDone c d = d.setCrossing c fun _ => d.crossings[c].resynced c := by
  have hs' : (d.crossings[c].resynced c).stalled = [] := by rw [resynced_eq]; exact hs
  have hsame : ∀ x : Crossing, x.stalled = [] → { x with stalled := [] } = x := fun x h => by cases x; cases h; rfl
  simp only [crossingResyncDone, h1, h2, hp, Bool.not_true, Bool.false_eq_true, or_self, if_false, Dev.unstall, setCrossing_getElem, hs',
    Crossing.unstall, hsame _ hs', List.foldl_nil]
  simp [Dev.setCrossing, vmod]

/-- Nothing but its crossing changes with a resynchronisation, but for the second that crossing 0x2E then brings (02 R62). -/
theorem resyncDone_leaves {s : State} {c : Fin 58} (hp : s.dev.powered = true) (h1 : s.dev.crossings[c].state ≠ .clockLost)
    (h2 : s.dev.crossings[c].state ≠ .running) (hs : s.dev.crossings[c].stalled = []) :
    Completes (.crossingResyncDone c) s fun t =>
      t.dev.crossings = (s.dev.setCrossing c fun _ => s.dev.crossings[c].resynced c).crossings ∧ (c ≠ 0x2E → Only [.crossings] [] s t) ∧
      Within [.obj, .crossings, .heart, .ports, .site, .safety, .energy, .tariff] s t := by
  have he := crossingResyncDone_eq hp h1 h2 hs
  have hset : Keeps 32 s.dev (s.dev.setCrossing c fun _ => s.dev.crossings[c].resynced c) := Dev.setCrossing_keeps0 _ _ _
  refine ⟨_, rfl, ?_⟩
  simp only [resyncDone, he]
  split
  · next hc =>
    exact ⟨(Dev.secondReached_keeps0 _).get_crossings rfl, fun hn => absurd hc.1 hn,
      (Dev.secondReached_keeps _ (by decide) (hset.mono (by decide))).within (M := 1794084) (by decide)⟩
  · exact ⟨rfl, fun _ => hset.only (by decide) fun _ _ => rfl, hset.within (parts := [.obj, .crossings, .heart, .ports, .site, .safety, .energy, .tariff]) (by decide)⟩

/-! ### Clearing the counts (02 R63) -/

/-- The counts of every crossing cleared, and the fabric's least speed the speed it has now. -/
def Dev.countsCleared (d : Dev) : Dev :=
  ({ d with crossings := d.crossings.map Crossing.cleared }).putNat Key.fabricSpeedMin (d.nat Key.fabricSpeedNow)

theorem Dev.countsCleared_keeps (d : Dev) : Keeps 36 d d.countsCleared := by
  unfold Dev.countsCleared
  simp (maxDischargeDepth := 99)

/-- An answer goes out over an interface with every count cleared as it did before. -/
theorem carries_countsCleared (d : Dev) (i : Iface) (n : Nat) : d.countsCleared.carries i n = d.carries i n := by
  have hs : ∀ c : Fin 58, d.countsCleared.crossings[c].state = d.crossings[c].state := fun c => by
    simp [Dev.countsCleared, Crossing.cleared]
  have hphy : d.countsCleared.nat Key.eth0PhyFound = d.nat Key.eth0PhyFound := by
    simp only [Dev.nat, Dev.int, Dev.countsCleared]
    rw [Dev.val_putNat_other _ _ (by decide)]
    rfl
  have hk := d.countsCleared_keeps
  cases i <;>
    simp only [Dev.carries, Dev.linkLive, Dev.passes, Dev.rail, Dev.can5Active, hphy, hs, hk.get_clocks rfl, hk.get_power rfl, hk.get_hosts rfl]

/-- Settles O11: what the reset of a side, the resynchronisation and the clearing make of a crossing, and their frames. -/
theorem crossingsResetResyncAndClear : Obligations.CrossingsResetResyncAndClear := by
  unfold Obligations.CrossingsResetResyncAndClear
  refine ⟨fun s c side hp => ?_, fun s c hp h1 h2 hs => ?_, fun s m data hg ht => ?_⟩
  · obtain ⟨t, ht, hx, hother, hcan, hslac, hframe⟩ := crossingSideReset_leaves c side hp
    obtain ⟨h1, h2, h3, h4, h5, h6⟩ := sideReset_spec s.dev.crossings[c] c (sideState side) s.dev.nowUs
    have hst : (match side with | .island => XState.islandReset | .fabric => .fabricReset) = sideState side := by cases side <;> rfl
    have hstalled : (sideState side = .fabricReset) = (side = .fabric) := by cases side <;> simp [sideState]
    refine ⟨t, ht, ?_⟩
    dsimp only
    simp only [hx]
    exact ⟨h1, by simpa only [hstalled] using h2, h3, h4, h5, h6, hother, hcan, hslac, hframe⟩
  · obtain ⟨t, ht, hx, honly, hframe⟩ := resyncDone_leaves hp h1 h2 hs
    refine ⟨t, ht, ?_, fun b hb => ?_, honly, hframe⟩
    · simp only [hx]
      exact (setCrossing_getElem _ _ _).trans (resynced_eq _ _)
    · simp only [hx]
      exact setCrossing_getElem_other _ _ hb
  · have hh := (grants_iff.1 hg).1
    let e := (s.dev.admitted m).countsCleared
    have hrun : exec (.crossingClearCounters m data) s =
        .next { s with dev := e.answer ((s.dev.admitted m).ackOf m Key.xingClearCounters) (.done Key.xingClearCounters) } := by
      show State.onDev s _ = _
      rw [State.onDev, cmdWrite_granted hg ht]
      rfl
    have hsame : ∀ x : Part, x ≠ .obj → x ≠ .hosts → x ∉ [Part.crossings] → x.same (s.dev.admitted m) e := fun x ho _ hx =>
      Dev.countsCleared_keeps _ x (Part.mask_testBit [.obj, .crossings] x (by simpa [ho] using hx))
    refine ⟨_, hrun, fun c => ?_, ?_, served Key.xingClearCounters hh (Dev.countsCleared_keeps _ |>.get_hosts rfl) ?_ hsame fun k hk => ?_⟩
    · have h1 : (e.answer ((s.dev.admitted m).ackOf m Key.xingClearCounters) (.done Key.xingClearCounters)).crossings = e.crossings :=
        (Dev.answer_same _ _ _ .crossings (by decide) (by decide) (by decide)).symm
      have h2 : (s.dev.admitted m).crossings = s.dev.crossings := (Dev.admitted_same _ _ .crossings (by decide) (by decide)).symm
      simp only [h1]
      simp [e, Dev.countsCleared, h2, Crossing.cleared]
    · simp only [Dev.nat, Dev.int, Dev.val_answer]
      exact (Dev.nat_putNat _ _ _).trans (Dev.nat_admitted_far s.dev m (.inr (by decide)))
    · rw [carries_countsCleared, admitted_carries]
      exact carries_of_heard hh _ (.inr (by simp [replyParts]))
    · rw [List.mem_singleton] at hk
      exact Dev.val_putNat_other _ _ (Ne.symm hk)

end Sys2Proof.Machine
end

section
/-! PROOFS. Clocks lost, checked and back (02 R46, R47). -/

namespace Sys2Proof.Machine

/-! ### Folds that treat each place once -/

section
variable {ι α : Type} {read : Dev → ι → α} {g : Dev → ι → Dev} {R : ι → α → α → Prop}

theorem foldl_place_other (ho : ∀ d c x, x ≠ c → read (g d c) x = read d x) {x : ι} (l : List ι) (d : Dev) (h : x ∉ l) :
    read (l.foldl g d) x = read d x := by
  induction l generalizing d with
  | nil => rfl
  | cons c l ih =>
    rw [List.mem_cons, not_or] at h
    rw [List.foldl_cons, ih _ h.2, ho d c x h.1]

/-- A fold that treats each place once leaves at a place what its own step makes of it. -/
theorem foldl_place (ho : ∀ d c x, x ≠ c → read (g d c) x = read d x) (hs : ∀ d c, R c (read d c) (read (g d c) c)) {x : ι}
    (l : List ι) (d : Dev) (hn : l.Nodup) (h : x ∈ l) : R x (read d x) (read (l.foldl g d) x) := by
  induction l generalizing d with
  | nil => cases h
  | cons c l ih =>
    rw [List.nodup_cons] at hn
    rw [List.foldl_cons]
    by_cases hx : x = c
    · subst hx
      rw [foldl_place_other ho l _ hn.1]
      exact hs d x
    · rw [← ho d c x hx]
      exact ih _ hn.2 ((List.mem_cons.1 h).resolve_left hx)

end

/-! ### The crossings of a clock's islands (02 R46) -/

theorem mem_crossingsOf {islands : List Nat} {x : Fin 58} : x ∈ Dev.crossingsOf islands ↔ xIsland x ∈ islands := by
  simp [Dev.crossingsOf]

theorem crossingsOf_nodup (islands : List Nat) : (Dev.crossingsOf islands).Nodup :=
  (List.nodup_finRange 58).filter _

/-- The crossing without its clock: its state, and what the loss leaves of it by its kind. -/
def Stopped (c : Fin 58) (x : Crossing) : Prop :=
  x.state = .clockLost ∧ (xKind c = .queue → x.entries = []) ∧ (xKind c = .value → x.stale = true) ∧ (xKind c = .event → x.overrun = true)

theorem stopped_sideReset (c : Fin 58) (x : Crossing) (now : Nat) : Stopped c (x.sideReset c .clockLost now) := by
  obtain ⟨h1, -, h2, h3, h4, -⟩ := sideReset_spec x c .clockLost now
  exact ⟨by simpa using h1, fun h => (h2 h).1, fun h => (h3 h).1, fun h => (h4 h).1⟩

section
variable (d : Dev)

/-- The step of `stopIslands` at one crossing. -/
theorem stopStep_crossings (c : Fin 58) (f : Crossing → Crossing) :
    ((d.setCrossing c f).abandonCrossing c).crossings = (d.setCrossing c f).crossings :=
  (Dev.abandonCrossing_keeps0 _ _).get_crossings rfl

theorem stopIslands_stopped (islands : List Nat) {x : Fin 58} (h : xIsland x ∈ islands) : Stopped x (d.stopIslands islands).crossings[x] :=
  foldl_place (read := fun d (x : Fin 58) => d.crossings[x]) (R := fun c _ y => Stopped c y)
    (fun d c x hx => by simp only [stopStep_crossings]; exact setCrossing_getElem_other _ _ hx)
    (fun d c => by simp only [stopStep_crossings, setCrossing_getElem]; exact stopped_sideReset _ _ _)
    _ d (crossingsOf_nodup _) (mem_crossingsOf.2 h)

theorem stopIslands_other (islands : List Nat) {x : Fin 58} (h : xIsland x ∉ islands) :
    (d.stopIslands islands).crossings[x] = d.crossings[x] :=
  foldl_place_other (read := fun d (x : Fin 58) => d.crossings[x])
    (fun d c x hx => by simp only [stopStep_crossings]; exact setCrossing_getElem_other _ _ hx) _ d (mt mem_crossingsOf.1 h)

theorem startIslands_resync (islands : List Nat) {x : Fin 58} (h : xIsland x ∈ islands) (hr : d.islandRuns (xIsland x) = true)
    (hx : d.crossings[x].state = .clockLost) : (d.startIslands islands).crossings[x].state = .resync :=
  foldl_place (read := fun d (x : Fin 58) => d.crossings[x])
    (R := fun _ a b => a.state = .clockLost → b.state = .resync)
    (fun d c x hx => setCrossing_getElem_other _ _ hx)
    (fun d c ha => by simp only [setCrossing_getElem, ha, if_true])
    _ d (crossingsOf_nodup _) (mem_crossingsOf.2 (List.mem_filter.2 ⟨h, hr⟩)) hx

theorem startIslands_other (islands : List Nat) {x : Fin 58} (h : xIsland x ∉ islands) :
    (d.startIslands islands).crossings[x] = d.crossings[x] :=
  foldl_place_other (read := fun d (x : Fin 58) => d.crossings[x]) (fun d c x hx => setCrossing_getElem_other _ _ hx) _ d
    fun hm => h (List.mem_filter.1 (mem_crossingsOf.1 hm)).1

end

/-! ### A clock that is lost -/

/-- The flag that a clock is lost. -/
def Clocks.lost (k : Clocks) : ClockId → Bool
  | .ref16 => k.ref16Lost
  | .ref25 => k.ref25Lost
  | .xt32 => k.xt32Lost
  | .i7 => k.i7Lost
  | .i8 => k.i8Lost

/-- What the loss of a clock leaves of the flags and counts. -/
def Clocks.lose (k : Clocks) : ClockId → Clocks
  | .ref16 => { k with ref16Lost := true }
  | .ref25 => { k with ref25Lost := true }
  | .xt32 => { k with xt32Lost := true }
  | .i7 => { k with i7Lost := true, i7Passed := false, n1Fails := 0, n6Fails := 0 }
  | .i8 => { k with i8Lost := true }

theorem lost_lose_same (k : Clocks) (c : ClockId) : (k.lose c).lost c = true := by cases c <;> rfl

theorem lost_lose_other (k : Clocks) {b c : ClockId} (h : b ≠ c) : (k.lose c).lost b = k.lost b := by
  cases b <;> cases c <;> first | rfl | exact absurd rfl h

/-- Everything the loss of a clock does. -/
def Dev.stops (d : Dev) : ClockId → Dev
  | .ref16 => d.ref16Stops
  | .ref25 => d.ref25Stops
  | .xt32 => d.xt32Stops
  | .i7 => (d.general (.clockLost 3)).i7Stops
  | .i8 => d.i8Stops

section
variable {d : Dev} {c : ClockId}

theorem not_off_of_powered (h : d.powered = true) : d.power.state ≠ .off := fun ho => by simp [Dev.powered, ho] at h

theorem clockOut_running (hp : d.powered = true) (hs : d.power.shutdownStep < 5) (hl : d.clocks.lost c = false) : d.clockOut c = d.stops c := by
  have ho := not_off_of_powered hp
  have h5 : d.power.shutdownStep ≠ 5 := by omega
  cases c <;> simp only [Clocks.lost] at hl <;> simp [Dev.clockOut, Dev.stops, hp, hl, ho, h5]

theorem clockOut_lost (hl : d.clocks.lost c = true) : d.clockOut c = d := by
  cases c <;> simp only [Clocks.lost] at hl <;> simp [Dev.clockOut, hl]

/-- The device at which the islands of a lost clock stop. -/
def Dev.atStop (d : Dev) : ClockId → Dev
  | .ref16 =>
    let d := (d.general (.clockLost 0)).metrologyLost
    let d := { d with clocks := { d.clocks with ref16Lost := true } }
    if d.canopy.node = .off then d else d.canopyLeave .listening
  | .ref25 =>
    let d := d.general (.clockLost 1)
    { d with clocks := { d.clocks with ref25Lost := true } }
  | .xt32 =>
    let d := { d with clocks := { d.clocks with xt32Lost := true }, time := { d.time with i6Lost := true } }
    (d.legal 0x0107 0xFF []).general (.clockLost 2)
  | .i7 =>
    let d := d.general (.clockLost 3)
    ({ d with clocks := { d.clocks with i7Lost := true, i7Passed := false, n1Fails := 0, n6Fails := 0 } } : Dev).channelDown true 0
  | .i8 =>
    let d := d.general (.clockLost 4)
    { d with clocks := { d.clocks with i8Lost := true } }

theorem atStop_clocks (d : Dev) (c : ClockId) : (d.atStop c).clocks = d.clocks.lose c := by
  cases c
  case ref16 =>
    have h1 : ((d.general (.clockLost 0)).metrologyLost).clocks = d.clocks :=
      (Dev.metrologyLost_keeps _ (L := 213872679) (by decide) ((Dev.general_keeps0 _ _).mono (by decide))).get_clocks rfl
    simp only [Dev.atStop, Clocks.lose]
    split
    · simp only [h1]
    · simp only [(Dev.canopyLeave_keeps0 _ _).get_clocks rfl, h1]
  case xt32 => exact ((Dev.general_keeps0 _ _).get_clocks rfl).trans ((Dev.legal_keeps0 _ _ _ _).get_clocks rfl)
  case i7 => exact (Dev.channelDown_keeps0 true 0 _).get_clocks rfl
  all_goals rfl

theorem atStop_crossings (d : Dev) {c : ClockId} (h : c ≠ .ref16) : (d.atStop c).crossings = d.crossings := by
  cases c
  case ref16 => exact absurd rfl h
  case xt32 => exact ((Dev.general_keeps0 _ _).get_crossings rfl).trans ((Dev.legal_keeps0 _ _ _ _).get_crossings rfl)
  case i7 => exact (Dev.channelDownB_keeps0 0 _).get_crossings rfl
  all_goals rfl

/-- What follows the stop of the islands. -/
def Dev.afterStop (d : Dev) : ClockId → Dev
  | .ref16 => d
  | .ref25 => d.linksLost
  | .xt32 => d
  | .i7 => d.clockFaultAll.setCrossing 0x28 fun x => { x with stale := true }
  | .i8 => d.stopDisplay

theorem stops_eq (hp : d.powered = true) : d.stops c = ((d.atStop c).stopIslands (islandsOf c)).afterStop c := by
  cases c
  case xt32 =>
    have h : ∀ k t, ({ d with clocks := k, time := t } : Dev).powered = true := fun _ _ => hp
    simp only [Dev.stops, Dev.xt32Stops, Dev.afterStop, Dev.atStop, islandsOf, h, if_true]
  all_goals simp only [Dev.stops, Dev.ref16Stops, Dev.ref25Stops, Dev.i7Stops, Dev.i8Stops, Dev.afterStop, Dev.atStop, islandsOf]

theorem afterStop_clocks (d : Dev) (c : ClockId) : (d.afterStop c).clocks = d.clocks := by
  cases c
  case ref25 => exact (Dev.linksLost_keeps0 _).get_clocks rfl
  case i7 => exact ((Dev.setCrossing_keeps0 d.clockFaultAll 0x28 _).get_clocks rfl).trans ((Dev.clockFaultAll_keeps0 d).get_clocks rfl)
  case i8 => exact (Dev.stopDisplay_keeps0 _).get_clocks rfl
  all_goals rfl

theorem afterStop_crossings (d : Dev) (c : ClockId) {x : Fin 58} (h : x ≠ 0x28) : (d.afterStop c).crossings[x] = d.crossings[x] := by
  cases c
  case ref25 => exact congrArg (fun v : Vector Crossing 58 => v[x]) ((Dev.linksLost_keeps0 d).get_crossings rfl)
  case i7 =>
    exact (setCrossing_getElem_other _ _ h).trans (congrArg (fun v : Vector Crossing 58 => v[x]) ((Dev.clockFaultAll_keeps0 d).get_crossings rfl))
  case i8 => exact congrArg (fun v : Vector Crossing 58 => v[x]) ((Dev.stopDisplay_keeps0 d).get_crossings rfl)
  all_goals rfl

theorem stops_clocks (hp : d.powered = true) : (d.stops c).clocks = d.clocks.lose c := by
  rw [stops_eq hp, afterStop_clocks, (Dev.stopIslands_keeps0 _ _).get_clocks rfl, atStop_clocks]

/-- Crossing 0x28 is of no island that stops with it. -/
theorem ne_0x28_of_islandsOf {x : Fin 58} (h : xIsland x ∈ islandsOf c) (hc : c ≠ .ref25) : x ≠ 0x28 := by
  rintro rfl
  cases c <;> simp [xIsland, islandsOf] at h hc

theorem stops_stopped (hp : d.powered = true) {x : Fin 58} (h : xIsland x ∈ islandsOf c) : Stopped x (d.stops c).crossings[x] := by
  have hst := stopIslands_stopped (d.atStop c) _ h
  rw [stops_eq hp]
  by_cases hc : c = .ref25
  · subst hc
    exact (congrArg (fun v : Vector Crossing 58 => Stopped x v[x]) ((Dev.linksLost_keeps0 _).get_crossings rfl)).mpr hst
  · rw [afterStop_crossings _ c (ne_0x28_of_islandsOf h hc)]
    exact hst

theorem stops_other (hp : d.powered = true) (hc : c ≠ .ref16) {x : Fin 58} (h : xIsland x ∉ islandsOf c) (hx : x ≠ 0x28) :
    (d.stops c).crossings[x] = d.crossings[x] := by
  rw [stops_eq hp, afterStop_crossings _ c hx, stopIslands_other _ _ h]
  simp only [atStop_crossings d hc]

end

/-! ### A clock that is back -/

/-- The flags once a clock is back. -/
def Clocks.back (k : Clocks) : ClockId → Clocks
  | .ref16 => { k with ref16Lost := false }
  | .ref25 => { k with ref25Lost := false }
  | .xt32 => { k with xt32Lost := false }
  | .i7 => { k with i7Lost := false, i7Passed := false }
  | .i8 => { k with i8Lost := false }

theorem lost_back_same (k : Clocks) (c : ClockId) : (k.back c).lost c = false := by cases c <;> rfl

theorem lost_back_other (k : Clocks) {b c : ClockId} (h : b ≠ c) : (k.back c).lost b = k.lost b := by
  cases b <;> cases c <;> first | rfl | exact absurd rfl h

/-- The device at which the islands of a clock that is back start. -/
def Dev.atStart (d : Dev) : ClockId → Dev
  | .ref16 => ({ d with clocks := d.clocks.back .ref16 } : Dev).general (.clockRecovered 0)
  | .ref25 => ({ d with clocks := d.clocks.back .ref25 } : Dev).general (.clockRecovered 1)
  | .xt32 => ({ d with clocks := d.clocks.back .xt32 } : Dev).general (.clockRecovered 2)
  | .i7 =>
    let d := d.general (.clockRecovered 3)
    { d with clocks := d.clocks.back .i7, safety := { d.safety with restartB := some d.tick7 } }
  | .i8 => ({ d with clocks := d.clocks.back .i8 } : Dev).general (.clockRecovered 4)

theorem atStart_keeps (d : Dev) (c : ClockId) : Keeps 139280 d (d.atStart c) := by
  cases c
  case i7 =>
    intro x hx
    cases x <;> first | rfl | exact absurd hx (by decide)
  all_goals
    unfold Dev.atStart
    simp (maxDischargeDepth := 99)

theorem atStart_clocks (d : Dev) (c : ClockId) : (d.atStart c).clocks = d.clocks.back c := by cases c <;> rfl

section
variable {d : Dev} {c : ClockId}

/-- A clock that is back starts the crossings of its islands; what follows changes no crossing, no clock and no rail. -/
theorem clockRecovered_keeps (hp : d.powered = true) (hl : d.clocks.lost c = true)
    (h7 : c = .i7 → d.clocks.i7Passed = true ∧ d.rail .vddSafe = true) :
    Keeps 67596292 ((d.atStart c).startIslands (islandsOf c)) (d.clockRecovered c) := by
  cases c <;> simp only [Clocks.lost] at hl
  case ref16 =>
    simp only [Dev.clockRecovered, hp, hl, Bool.not_true, Bool.false_eq_true, if_false]
    simp only [Dev.atStart, Clocks.back, islandsOf]
    generalize Dev.startIslands [1, 3] _ = e
    simp (maxDischargeDepth := 99) [Keeps.ite]
  case ref25 =>
    simp only [Dev.clockRecovered, hp, hl, Bool.not_true, Bool.false_eq_true, if_false]
    simp only [Dev.atStart, Clocks.back, islandsOf]
    generalize Dev.startIslands [2, 4, 5] _ = e
    simp (maxDischargeDepth := 99)
  case xt32 =>
    simp only [Dev.clockRecovered, hp, hl, Bool.not_true, Bool.false_eq_true, if_false]
    exact .refl _ _
  case i7 =>
    obtain ⟨hpass, hrail⟩ := h7 rfl
    simp only [Dev.clockRecovered, hp, hl, hpass, hrail, Bool.not_true, Bool.false_eq_true, or_self, if_false]
    exact (Dev.settle_keeps0 _).mono (by decide)
  case i8 =>
    simp only [Dev.clockRecovered, hp, hl, Bool.not_true, Bool.false_eq_true, if_false]
    exact (Dev.displayGood_keeps0 _).mono (by decide)

theorem clockRecovered_leaves {s : State} (hp : s.dev.powered = true) (hl : s.dev.clocks.lost c = true)
    (h7 : c = .i7 → s.dev.clocks.i7Passed = true ∧ s.dev.rail .vddSafe = true) :
    Completes (.clockRecovered c) s fun t => t.dev.clocks.lost c = false ∧
      (∀ x : Fin 58, xIsland x ∈ islandsOf c → t.dev.islandRuns (xIsland x) = true → s.dev.crossings[x].state = .clockLost →
        t.dev.crossings[x].state = .resync) ∧
      (∀ x : Fin 58, xIsland x ∉ islandsOf c → t.dev.crossings[x] = s.dev.crossings[x]) ∧
      (∀ b, b ≠ c → t.dev.clocks.lost b = s.dev.clocks.lost b) ∧
      Within [.obj, .clocks, .crossings, .hosts, .heart, .ports, .site, .safety, .metro, .display] s t := by
  have hk := clockRecovered_keeps hp hl h7
  have hstart := Dev.startIslands_keeps0 (islandsOf c) (s.dev.atStart c)
  have h0 := atStart_keeps s.dev c
  have hcl : (s.dev.clockRecovered c).clocks = s.dev.clocks.back c := by
    rw [hk.get_clocks rfl, hstart.get_clocks rfl, atStart_clocks]
  have hx : (s.dev.clockRecovered c).crossings = ((s.dev.atStart c).startIslands (islandsOf c)).crossings := hk.get_crossings rfl
  have hx0 : (s.dev.atStart c).crossings = s.dev.crossings := h0.get_crossings rfl
  have hrun : ∀ i, (s.dev.clockRecovered c).islandRuns i = (s.dev.atStart c).islandRuns i := fun i => by
    unfold Dev.islandRuns Dev.rail
    rw [hcl, atStart_clocks, hk.get_power rfl, hstart.get_power rfl]
  refine ⟨_, rfl, by rw [hcl, lost_back_same], fun x h hr hs => ?_, fun x h => ?_, fun b hb => by rw [hcl, lost_back_other _ hb],
    (Dev.clockRecovered_keeps0 c s.dev).within (by decide)⟩
  · simp only [hx]
    refine startIslands_resync _ _ h ((hrun _).symm.trans hr) ?_
    simpa only [hx0] using hs
  · simp only [hx, startIslands_other _ _ h, hx0]

end

/-! ### The cross-check (02 R47) -/

section
variable {d : Dev} {n1 n : Nat}

theorem clockOut_clocks (c : ClockId) (hp : d.powered = true) (hs : d.power.shutdownStep < 5) :
    (d.clockOut c).clocks = if d.clocks.lost c = true then d.clocks else d.clocks.lose c := by
  split
  · next h => rw [clockOut_lost h]
  · next h => rw [clockOut_running hp hs (Bool.not_eq_true _ ▸ h), stops_clocks hp]

/-- The device with the deviations of a check. -/
def Dev.withDeviations (d : Dev) (n1 : Nat) (n6 : Option Nat) : Dev :=
  let d := d.putInt Key.i7VersusI1 (divRound ((n1 : Int) - 8000000) 8)
  match n6 with
  | some n => d.putInt Key.i7VersusI6 (divRound ((n : Int) - 8000000) 8)
  | none => d

/-- The deviations of a check, and the pilot's correction when I1 is in tolerance. -/
def Dev.clockMeasured (d : Dev) (n1 : Nat) (n6 : Option Nat) : Dev :=
  let e := d.withDeviations n1 n6
  if Dev.countOk n1 then { e with clocks := { e.clocks with latestN1 := n1 } } else e

theorem withDeviations_keeps (d : Dev) (n1 : Nat) (n6 : Option Nat) : Keeps 4 d (d.withDeviations n1 n6) := by
  unfold Dev.withDeviations
  cases n6 <;> simp (maxDischargeDepth := 99)

theorem clockMeasured_keeps (d : Dev) (n1 : Nat) (n6 : Option Nat) : Keeps 20 d (d.clockMeasured n1 n6) := by
  have h : Keeps 20 d (d.withDeviations n1 n6) := (withDeviations_keeps d n1 n6).mono (by decide)
  exact Keeps.ite (keeps_clocks _ (by decide) h) h

theorem clockMeasured_clocks (d : Dev) (n1 : Nat) (n6 : Option Nat) :
    (d.clockMeasured n1 n6).clocks = { d.clocks with latestN1 := if Dev.countOk n1 then n1 else d.clocks.latestN1 } := by
  have h := (withDeviations_keeps d n1 n6).get_clocks rfl
  unfold Dev.clockMeasured
  split <;> simp only [h]

theorem clockMeasured_int {d : Dev} {n1 n : Nat} :
    (d.clockMeasured n1 (some n)).int Key.i7VersusI1 = divRound ((n1 : Int) - 8000000) 8 ∧
      (d.clockMeasured n1 (some n)).int Key.i7VersusI6 = divRound ((n : Int) - 8000000) 8 ∧
      ∀ k, k ∉ [Key.i7VersusI1, Key.i7VersusI6] → (d.clockMeasured n1 (some n)).val k = d.val k := by
  have hv : ∀ k, (d.clockMeasured n1 (some n)).val k = (d.withDeviations n1 (some n)).val k := fun k => by
    unfold Dev.clockMeasured
    split <;> rfl
  simp only [Dev.int, hv]
  refine ⟨?_, Dev.int_putInt _ _ _, fun k hk => ?_⟩
  · exact (Dev.int_putInt_other _ _ (by decide)).trans (Dev.int_putInt _ _ _)
  · simp only [List.mem_cons, List.not_mem_nil, or_false, not_or] at hk
    exact (Dev.val_putInt_other _ _ (Ne.symm hk.2)).trans (Dev.val_putInt_other _ _ (Ne.symm hk.1))

theorem clockMeasured_powered (d : Dev) (n1 : Nat) (n6 : Option Nat) : (d.clockMeasured n1 n6).powered = d.powered := by
  unfold Dev.powered
  rw [(clockMeasured_keeps d n1 n6).get_power rfl]

section
variable (hp : d.powered = true) (hl : d.clocks.ref16Lost = false)
include hp hl

/-- The device as the cross-check leaves it without a whole second of I6. -/
theorem crossCheck_none : d.crossCheck n1 none = (d.clockMeasured n1 none).clockOut .xt32 := by
  simp [Dev.crossCheck, hp, hl, Dev.clockMeasured, Dev.withDeviations]

theorem crossCheck_pass (h1 : Dev.countOk n1 = true) (h6 : Dev.countOk n = true) : d.crossCheck n1 (some n) =
    { d.clockMeasured n1 (some n) with clocks := { (d.clockMeasured n1 (some n)).clocks with
        n1Fails := 0, n6Fails := 0, checked := true, i6Cold := false, i7Passed := d.clocks.i7Lost } } := by
  simp [Dev.crossCheck, hp, hl, Dev.clockMeasured, Dev.withDeviations, h1, h6]

theorem crossCheck_i6 (h1 : Dev.countOk n1 = true) (h6 : Dev.countOk n = false) :
    let e : Dev := { d.clockMeasured n1 (some n) with clocks := { (d.clockMeasured n1 (some n)).clocks with n1Fails := 0, n6Fails := d.clocks.n6Fails + 1 } }
    d.crossCheck n1 (some n) = if 2 ≤ d.clocks.n6Fails + 1 then e.clockOut .xt32 else e := by
  simp [Dev.crossCheck, hp, hl, Dev.clockMeasured, Dev.withDeviations, h1, h6]

theorem crossCheck_i1 (h1 : Dev.countOk n1 = false) (h6 : Dev.countOk n = true) :
    let e : Dev := { d.clockMeasured n1 (some n) with clocks := { (d.clockMeasured n1 (some n)).clocks with n6Fails := 0, n1Fails := d.clocks.n1Fails + 1 } }
    d.crossCheck n1 (some n) =
      if 2 ≤ d.clocks.n1Fails + 1 then ({ e with clocks := { e.clocks with n1Fails := 0 } } : Dev).clockOut .ref16 else e := by
  simp [Dev.crossCheck, hp, hl, Dev.clockMeasured, Dev.withDeviations, h1, h6]

theorem crossCheck_i7 (h1 : Dev.countOk n1 = false) (h6 : Dev.countOk n = false) :
    d.crossCheck n1 (some n) = (d.clockMeasured n1 (some n)).clockOut .i7 := by
  simp [Dev.crossCheck, hp, hl, Dev.clockMeasured, Dev.withDeviations, h1, h6]

end

end

/-- The clocks with the pilot's correction that a check in tolerance brings. -/
def Clocks.latest (k : Clocks) (n1 : Nat) : Clocks := { k with latestN1 := if Dev.countOk n1 then n1 else k.latestN1 }

section
variable {d : Dev} (hp : d.powered = true) (hs : d.power.shutdownStep < 5)
include hp hs

/-- A device with other objects and clocks loses a clock as this one does. -/
theorem clockOut_clocks_of_measured (n1 : Nat) (n6 : Option Nat) (k : Clocks) (c : ClockId) :
    (({ d.clockMeasured n1 n6 with clocks := k } : Dev).clockOut c).clocks = if k.lost c = true then k else k.lose c :=
  clockOut_clocks c ((clockMeasured_powered d n1 n6).trans hp) ((clockMeasured_keeps d n1 n6).get_power rfl ▸ hs)

variable (hl : d.clocks.ref16Lost = false) {n1 n : Nat}
include hl

theorem crossCheck_none_clocks : (d.crossCheck n1 none).clocks =
    if d.clocks.xt32Lost = true then d.clocks.latest n1 else (d.clocks.latest n1).lose .xt32 := by
  rw [crossCheck_none hp hl]
  exact (clockOut_clocks_of_measured hp hs n1 none (d.clockMeasured n1 none).clocks .xt32).trans (by rw [clockMeasured_clocks]; rfl)

theorem crossCheck_i6_clocks (h1 : Dev.countOk n1 = true) (h6 : Dev.countOk n = false) : (d.crossCheck n1 (some n)).clocks =
    { d.clocks with latestN1 := n1, n1Fails := 0, n6Fails := d.clocks.n6Fails + 1, xt32Lost := d.clocks.xt32Lost || decide (1 ≤ d.clocks.n6Fails) } := by
  rw [crossCheck_i6 hp hl h1 h6]
  dsimp only
  split
  · next h =>
    rw [clockOut_clocks_of_measured hp hs, clockMeasured_clocks]
    have : 1 ≤ d.clocks.n6Fails := by omega
    cases hx : d.clocks.xt32Lost <;> simp [Clocks.lost, Clocks.lose, h1, this]
  · next h =>
    have : ¬ 1 ≤ d.clocks.n6Fails := by omega
    simp [clockMeasured_clocks, h1, this]

theorem crossCheck_i1_clocks (h1 : Dev.countOk n1 = false) (h6 : Dev.countOk n = true) :
    (d.crossCheck n1 (some n)).clocks.latestN1 = d.clocks.latestN1 ∧
      (d.crossCheck n1 (some n)).clocks.ref16Lost = decide (1 ≤ d.clocks.n1Fails) := by
  rw [crossCheck_i1 hp hl h1 h6]
  dsimp only
  split
  · next h =>
    rw [clockOut_clocks_of_measured hp hs, clockMeasured_clocks]
    have : 1 ≤ d.clocks.n1Fails := by omega
    simp [Clocks.lost, Clocks.lose, h1, this, hl]
  · next h =>
    have : ¬ 1 ≤ d.clocks.n1Fails := by omega
    simp [clockMeasured_clocks, h1, this, hl]

theorem crossCheck_i7_clocks (h1 : Dev.countOk n1 = false) (h6 : Dev.countOk n = false) :
    (d.crossCheck n1 (some n)).clocks.latestN1 = d.clocks.latestN1 ∧ (d.crossCheck n1 (some n)).clocks.i7Lost = true := by
  rw [crossCheck_i7 hp hl h1 h6]
  have hn : (d.clocks.latest n1).latestN1 = d.clocks.latestN1 := by simp [Clocks.latest, h1]
  have h := clockOut_clocks_of_measured hp hs n1 (some n) (d.clockMeasured n1 (some n)).clocks .i7
  have hc : (d.clockMeasured n1 (some n)).clocks = d.clocks.latest n1 := clockMeasured_clocks d n1 (some n)
  rw [hc] at h
  have hm : ({ d.clockMeasured n1 (some n) with clocks := d.clocks.latest n1 } : Dev) = d.clockMeasured n1 (some n) := by rw [← hc]
  rw [hm] at h
  rw [h]
  cases hx : (d.clocks.latest n1).lost .i7
  · exact ⟨hn, rfl⟩
  · exact ⟨hn, hx⟩

end

/-- Settles O12: a lost clock, a clock that is back, and the outcomes of the cross-check. -/
theorem clocksAreLostCheckedAndRecovered : Obligations.ClocksAreLostCheckedAndRecovered := by
  unfold Obligations.ClocksAreLostCheckedAndRecovered
  intro lost ok
  have hlost : ∀ c d, lost c d = d.clocks.lost c := fun c d => by cases c <;> rfl
  simp only [hlost]
  refine ⟨fun s c hp hs hl hg => ?_, fun s c hp hl h7 => clockRecovered_leaves hp hl h7, fun s n1 n6 hp hs hl => ?_⟩
  · have hrun : s.dev.clockLost c = s.dev.stops c := by
      rw [Dev.clockLost, if_neg (by simp [hg]), clockOut_running hp hs hl]
    have hf := (Dev.clockLost_keeps0 c s.dev).within (parts := [.free, .out, .obj, .time, .clocks, .crossings, .cores, .hosts, .heart, .ports,
      .site, .safety, .metro, .energy, .tariff, .ledger, .cvu, .burl, .canopy, .display, .held]) (by decide)
    refine ⟨_, rfl, ?_, fun x hx => ?_, fun hc x hx h28 => ?_, fun b hb => ?_, hf⟩
    · rw [hrun, stops_clocks hp, lost_lose_same]
    · simp only [hrun]
      exact stops_stopped hp hx
    · simp only [hrun]
      exact stops_other hp hc hx h28
    · rw [hrun, stops_clocks hp, lost_lose_other _ hb]
  · have hok : ∀ n, ok n ↔ Dev.countOk n = true := fun n => by simp [ok, Dev.countOk]
    simp only [hok, Bool.not_eq_true]
    refine ⟨_, rfl, ?_⟩
    cases n6 with
    | none =>
      rw [crossCheck_none_clocks hp hs hl]
      refine ⟨fun h => ?_, fun h => ?_, fun _ => ?_, by simp, by simp, by simp, by simp⟩
      · split <;> simp [Clocks.latest, Clocks.lose, h]
      · split <;> simp [Clocks.latest, Clocks.lose, h]
      · split
        · next hx => exact hx
        · rfl
    | some n =>
      simp only [Option.mem_def, Option.some.injEq, forall_eq']
      cases h1 : Dev.countOk n1 <;> cases h6 : Dev.countOk n
      · obtain ⟨hn, h7⟩ := crossCheck_i7_clocks hp hs hl h1 h6
        simp [hn, h7]
      · obtain ⟨hn, hr⟩ := crossCheck_i1_clocks hp hs hl h1 h6
        simp [hn, hr]
      · simp [crossCheck_i6_clocks hp hs hl h1 h6]
      · obtain ⟨hi1, hi6, hv⟩ := clockMeasured_int (d := s.dev) (n1 := n1) (n := n)
        have hframe : Only [.clocks] [Key.i7VersusI1, Key.i7VersusI6] s { s with dev := s.dev.crossCheck n1 (some n) } := by
          rw [crossCheck_pass hp hl h1 h6]
          exact (keeps_clocks _ (by decide) (clockMeasured_keeps s.dev n1 (some n))).only (by decide) hv
        have hck : (s.dev.crossCheck n1 (some n)).clocks = { s.dev.clocks with
            latestN1 := n1, n1Fails := 0, n6Fails := 0, checked := true, i6Cold := false, i7Passed := s.dev.clocks.i7Lost } := by
          rw [crossCheck_pass hp hl h1 h6]
          simp [clockMeasured_clocks, h1]
        have hint : ∀ k, (s.dev.crossCheck n1 (some n)).int k = (s.dev.clockMeasured n1 (some n)).int k := fun k => by
          rw [crossCheck_pass hp hl h1 h6]
          rfl
        exact ⟨fun _ => by rw [hck], by simp, by simp, fun _ _ => ⟨hck, (hint _).trans hi1, (hint _).trans hi6, hframe⟩, by simp, by simp, by simp⟩

end Sys2Proof.Machine
end

section
/-! PROOFS. Cores that fail and cores that run again (01 R15, R38; 17 R475 to R477). -/

namespace Sys2Proof.Machine

/-! ### Folds that keep something -/

/-- A fold whose steps keep a part of the device keeps it. -/
theorem foldl_same {ι α : Type} {g : Dev → ι → Dev} (read : Dev → α) (h : ∀ d x, read (g d x) = read d) (l : List ι) (d : Dev) :
    read (l.foldl g d) = read d := by
  induction l generalizing d with
  | nil => rfl
  | cons x l ih => rw [List.foldl_cons, ih, h]

/-- A fold keeps what each of its steps keeps. -/
theorem foldl_keeps_prop {ι : Type} {g : Dev → ι → Dev} {P : Dev → Prop} (h : ∀ d x, P d → P (g d x)) (l : List ι) {d : Dev} (hd : P d) :
    P (l.foldl g d) := by
  induction l generalizing d with
  | nil => exact hd
  | cons x l ih => exact ih (h d x hd)

/-! ### The crossings of a core (02 R57) -/

section
variable (d : Dev)

theorem fabricDown_step (c : Fin 58) (f : Crossing → Crossing) :
    (((d.setCrossing c f).abandonCrossing c).modemReset c).crossings = (d.setCrossing c f).crossings :=
  ((Dev.modemReset_keeps0 _ c).get_crossings rfl).trans ((Dev.abandonCrossing_keeps0 _ c).get_crossings rfl)

/-- A crossing whose fabric side was reset does not run. -/
theorem fabricDown_not_running {l : List (Fin 58)} {x : Fin 58} (h : x ∈ l) : (d.fabricDown l).crossings[x].state ≠ .running := by
  unfold Dev.fabricDown
  induction l generalizing d with
  | nil => cases h
  | cons c l ih =>
    rw [List.foldl_cons]
    by_cases hx : x ∈ l
    · exact ih _ hx
    · obtain rfl := (List.mem_cons.1 h).resolve_right hx
      rw [foldl_place_other (read := fun d (x : Fin 58) => d.crossings[x])
        (fun d c x hx => by simp only [fabricDown_step]; exact setCrossing_getElem_other _ _ hx) _ _ hx]
      simp only [fabricDown_step, setCrossing_getElem, (sideReset_spec _ _ _ _).1]
      split <;> simp

/-- Fabric sides that are up again let no crossing run before it is resynchronised. -/
theorem fabricUp_not_running (l : List (Fin 58)) {x : Fin 58} (h : d.crossings[x].state ≠ .running) :
    (d.fabricUp l).crossings[x].state ≠ .running := by
  refine foldl_keeps_prop (P := fun d => d.crossings[x].state ≠ .running) (fun d c hd => ?_) l h
  by_cases hx : x = c
  · subst hx
    rw [setCrossing_getElem]
    split
    · simp
    · exact hd
  · rwa [setCrossing_getElem_other _ _ hx]

end

/-! ### Firebreak in fault (13 R329) -/

/-- The flags of Firebreak that a drop of its enables leaves as they are. -/
def Dev.firebreakFlags (d : Dev) : Bool × Bool := (d.safety.firebreakFault, d.safety.testsPassed)

section
variable (d : Dev)

theorem dropFor_firebreakFlags (p : PortId) (reason : Nat) : (d.dropFor p reason).firebreakFlags = d.firebreakFlags := by
  unfold Dev.dropFor
  dsimp only
  split <;> rfl

theorem dropAll_firebreakFlags (reason : Nat) : (d.dropAll reason).firebreakFlags = d.firebreakFlags :=
  foldl_same Dev.firebreakFlags (fun d p => by
    split
    · exact dropFor_firebreakFlags d p reason
    · rfl) _ d

theorem firebreakFlags_of_safety {a b : Dev} (h : b.safety = a.safety) : b.firebreakFlags = a.firebreakFlags := by
  rw [Dev.firebreakFlags, h]
  rfl

theorem channelDown_firebreakFlags (b : Bool) (cause : Nat) : (d.channelDown b cause).firebreakFlags = d.firebreakFlags := by
  unfold Dev.channelDown
  dsimp only
  rw [dropAll_firebreakFlags]
  cases b <;> by_cases hc : cause = 0 <;> simp [hc, Dev.firebreakFlags, Dev.draw]

theorem holdAgain_firebreakFlags : d.holdAgain.firebreakFlags = (d.safety.firebreakFault, false) := by
  unfold Dev.holdAgain
  rw [firebreakFlags_of_safety ((Dev.raiseCause_keeps0 _ _ _ _).get_safety rfl)]
  rfl

/-- A failed channel goes down, with its entry in the legal log. -/
theorem loggedDown_firebreakFlags (b : Bool) (cause : Nat) (data : Bytes) :
    ((d.legal 0x0108 0xFF data).channelDown b cause).firebreakFlags = d.firebreakFlags := by
  rw [channelDown_firebreakFlags, firebreakFlags_of_safety ((Dev.legal_keeps0 _ _ _ _).get_safety rfl)]

theorem firebreakFault_flags (a b : Bool) (cause : Nat) : (d.firebreakFault a b cause).firebreakFlags = (true, false) := by
  unfold Dev.firebreakFault
  dsimp only
  rw [firebreakFlags_of_safety ((Dev.settle_keeps0 _).get_safety rfl), firebreakFlags_of_safety ((Dev.driveSafeOut_keeps0 _).get_safety rfl),
    firebreakFlags_of_safety ((Dev.general_keeps0 _ _).get_safety rfl)]
  have hd : ∀ (r b : Bool) (data : Bytes) (e : Dev),
      (if r = true then (e.legal 0x0108 0xFF data).channelDown b cause else e).firebreakFlags = e.firebreakFlags := fun r b data e => by
    split
    · exact loggedDown_firebreakFlags e b cause data
    · rfl
  rw [hd, hd, holdAgain_firebreakFlags, (Dev.raiseCause_keeps0 _ _ _ _).get_safety rfl]

/-- The states of all crossings. -/
def Dev.xStates (d : Dev) (x : Fin 58) : XState := d.crossings[x].state

theorem xStates_of_crossings {a b : Dev} (h : b.crossings = a.crossings) : b.xStates = a.xStates := by
  funext x
  simp only [Dev.xStates, h]

theorem setStale_xStates (c : Fin 58) : (d.setCrossing c fun x => { x with stale := true }).xStates = d.xStates := by
  funext x
  by_cases hx : x = c
  · subst hx
    simp only [Dev.xStates, setCrossing_getElem]
  · simp only [Dev.xStates, setCrossing_getElem_other _ _ hx]

/-- A core restarts for a cause, which is noted with its time (01 R38). -/
def Dev.coreOff (d : Dev) (c : CoreId) (cause : Nat) : Dev :=
  let d := d.setCore c (.restarting cause)
  let (n, d) := if cause = 0 then d.draw else (cause, d)
  (d.putNat (Key.coreResetCause (coreNum c)) (n % 5)).putNat (Key.coreResetTime (coreNum c)) d.nowUs

theorem coreOff_crossings (c : CoreId) (cause : Nat) : (d.coreOff c cause).crossings = d.crossings := by
  unfold Dev.coreOff
  by_cases hc : cause = 0 <;> simp [hc, Dev.draw]

theorem withSafety_xStates (v : Safety) : ({ d with safety := v } : Dev).xStates = d.xStates := rfl

/-- Channel A that goes down is recorded and stops writing its crossing; every enable drops. -/
theorem channelDownA_eq (cause : Nat) : d.channelDown false cause =
    (({ d.coreOff .firebreakA cause with safety := { (d.coreOff .firebreakA cause).safety with
      restartA := some (d.coreOff .firebreakA cause).tick7, missingA := 0 } } : Dev).setCrossing 0x28 fun x => { x with stale := true }).dropAll 3 :=
  rfl

/-- No crossing changes its state with a channel that goes down. -/
theorem channelDown_xStates (b : Bool) (cause : Nat) : (d.channelDown b cause).xStates = d.xStates := by
  cases b
  · rw [channelDownA_eq, xStates_of_crossings ((Dev.dropAll_keeps0 _ _).get_crossings rfl), setStale_xStates]
    exact (withSafety_xStates _ _).trans (xStates_of_crossings (coreOff_crossings d .firebreakA cause))
  · exact xStates_of_crossings ((Dev.channelDownB_keeps0 cause d).get_crossings rfl)

theorem firebreakFault_xStates (a b : Bool) (cause : Nat) : (d.firebreakFault a b cause).xStates = d.xStates := by
  unfold Dev.firebreakFault
  dsimp only
  have hd : ∀ (r b : Bool) (data : Bytes) (e : Dev),
      (if r = true then (e.legal 0x0108 0xFF data).channelDown b cause else e).xStates = e.xStates := fun r b data e => by
    split
    · rw [channelDown_xStates, xStates_of_crossings ((Dev.legal_keeps0 _ _ _ _).get_crossings rfl)]
    · rfl
  rw [xStates_of_crossings ((Dev.settle_keeps0 _).get_crossings rfl), xStates_of_crossings ((Dev.driveSafeOut_keeps0 _).get_crossings rfl),
    xStates_of_crossings ((Dev.general_keeps0 _ _).get_crossings rfl), hd, hd,
    xStates_of_crossings ((Dev.holdAgain_keeps0 _).get_crossings rfl), xStates_of_crossings ((Dev.raiseCause_keeps0 _ _ _ _).get_crossings rfl)]
  exact xStates_of_crossings (Dev.put_crossings _ _ _)

theorem channelDown_cores (b : Bool) (cause : Nat) (h : cause ≠ 0) :
    (d.channelDown b cause).cores = d.cores.set (coreNum (if b then .firebreakB else .firebreakA)) (.restarting cause) := by
  unfold Dev.channelDown
  dsimp only
  rw [(Dev.dropAll_keeps0 _ _).get_cores rfl]
  cases b <;> simp [h, Dev.setCore]

/-- A Firebreak fault that takes one channel down. -/
theorem firebreakFault_cores (b : Bool) (cause : Nat) (h : cause ≠ 0) :
    (d.firebreakFault (!b) b cause).cores = d.cores.set (coreNum (if b then .firebreakB else .firebreakA)) (.restarting cause) := by
  unfold Dev.firebreakFault
  dsimp only
  rw [(Dev.settle_keeps0 _).get_cores rfl, (Dev.driveSafeOut_keeps0 _).get_cores rfl, (Dev.general_keeps0 _ _).get_cores rfl]
  have hr : ∀ e : Dev, ((e.raiseCause Dev.allPorts 18 0).holdAgain).cores = e.cores := fun e => by
    rw [(Dev.holdAgain_keeps0 _).get_cores rfl, (Dev.raiseCause_keeps0 _ _ _ _).get_cores rfl]
  cases b <;>
    simp only [Bool.not_true, Bool.not_false, if_true, if_false, Bool.false_eq_true, channelDown_cores _ _ _ h,
      (Dev.legal_keeps0 _ _ _ _).get_cores rfl, hr, Dev.bump_cores]

end

/-! ### What goes with a core that fails (01 R38) -/

section
variable (d : Dev)

/-- A node that leaves the air writes its own crossing only. -/
theorem writeGcn_crossings {x : Fin 58} (h : x ≠ 0x1A) : d.writeGcn.crossings[x] = d.crossings[x] := by
  unfold Dev.writeGcn
  exact (setCrossing_getElem_other _ _ h).trans (by simp)

theorem canopyLeave_crossings (n : NodeState) {x : Fin 58} (h : x ≠ 0x1A) : (d.canopyLeave n).crossings[x] = d.crossings[x] := by
  unfold Dev.canopyLeave
  refine (writeGcn_crossings _ h).trans (congrArg (fun v : Vector Crossing 58 => v[x]) (Keeps.get_crossings (L := 41947140) ?_ rfl))
  simp (maxDischargeDepth := 99) +contextual [Keeps.foldl, Keeps.ite]

theorem canopyOut_crossings {x : Fin 58} (h : x ≠ 0x1A) : d.canopyOut.crossings[x] = d.crossings[x] := by
  unfold Dev.canopyOut
  rw [setCrossing_getElem_other _ _ h]
  split
  · rfl
  · exact canopyLeave_crossings d _ h

/-- With a standby that runs the roles change, and the fabric of the new core is up. -/
theorem coreLost_sapwood {c : CoreId} (hc : c = d.activeSapwood) (cause : Nat) : d.coreLost c cause =
    if d.running d.standbySapwood then d.sapwoodOver.fabricUp (d.sapwoodOver.coreCrossings d.sapwoodOver.activeSapwood) else d.sapwoodGone := by
  unfold Dev.activeSapwood at hc
  subst hc
  cases h : d.activeB <;> simp [Dev.coreLost, Dev.activeSapwood, h]

theorem coreLost_standby {c : CoreId} (hs : c = .sapwoodA ∨ c = .sapwoodB) (hc : c ≠ d.activeSapwood) (cause : Nat) : d.coreLost c cause = d := by
  rcases hs with rfl | rfl <;> simp [Dev.coreLost, hc]

theorem ne_of_xStates {d e : Dev} (he : e.xStates = d.xStates) {x : Fin 58} (h : d.crossings[x].state ≠ .running) :
    e.crossings[x].state ≠ .running := fun h' => h ((congrFun he x).symm.trans h')

theorem coreLost_not_running (c : CoreId) (cause : Nat) {x : Fin 58} (hx : c = .canopy → x ≠ 0x1A) (h : d.crossings[x].state ≠ .running) :
    (d.coreLost c cause).crossings[x].state ≠ .running := by
  have same : ∀ e : Dev, e.crossings = d.crossings → e.crossings[x].state ≠ .running := fun e he => by simpa only [he] using h
  have sap : (c = .sapwoodA ∨ c = .sapwoodB) → (d.coreLost c cause).crossings[x].state ≠ .running := fun hs => by
    by_cases hc : c = d.activeSapwood
    · rw [coreLost_sapwood d hc]
      split
      · exact fabricUp_not_running _ _ (same _ ((Dev.sapwoodOver_keeps0 d).get_crossings rfl))
      · exact same _ ((Dev.sapwoodGone_keeps0 d).get_crossings rfl)
    · rwa [coreLost_standby d hs hc]
  cases c
  case sapwoodA => exact sap (.inl rfl)
  case sapwoodB => exact sap (.inr rfl)
  case firebreakA => simp only [Dev.coreLost]; exact ne_of_xStates (firebreakFault_xStates d true false cause) h
  case firebreakB => simp only [Dev.coreLost]; exact ne_of_xStates (firebreakFault_xStates d false true cause) h
  case canopy =>
    simp only [Dev.coreLost, canopyOut_crossings d (hx rfl)]
    exact h
  case heartwood =>
    exact same _ (((Dev.heartwoodLost_keeps0 _).get_crossings rfl).trans ((Dev.legal_keeps0 _ _ _ _).get_crossings rfl))
  case burl => exact same _ (((Dev.setBurl_keeps0 _ _).get_crossings rfl).trans ((Dev.keyOpAbort_keeps0 _ _).get_crossings rfl))
  case display => exact same _ ((Dev.stopDisplay_keeps0 _).get_crossings rfl)
  all_goals exact same _ ((Dev.engineLost_keeps0 _ _).get_crossings rfl)

end

section
variable (d : Dev) (c : CoreId) (cause : Nat)

theorem set_set_same (v : Vector CoreRun 12) (i : Fin 12) (r : CoreRun) : (v.set i r).set i r = v.set i r := by simp

/-- The cores that a failed core takes with it: none. -/
theorem coreLost_cores (h0 : cause ≠ 0) (h : d.cores.set (coreNum c) (.restarting cause) = d.cores) : (d.coreLost c cause).cores = d.cores := by
  have sap : (c = .sapwoodA ∨ c = .sapwoodB) → (d.coreLost c cause).cores = d.cores := fun hs => by
    by_cases hc : c = d.activeSapwood
    · rw [coreLost_sapwood d hc]
      split
      · rw [(Dev.fabricUp_keeps0 _ _).get_cores rfl, (Dev.sapwoodOver_keeps0 _).get_cores rfl]
      · exact (Dev.sapwoodGone_keeps0 _).get_cores rfl
    · rw [coreLost_standby d hs hc]
  cases c
  case sapwoodA => exact sap (.inl rfl)
  case sapwoodB => exact sap (.inr rfl)
  case firebreakA => exact (firebreakFault_cores d false cause h0).trans h
  case firebreakB => exact (firebreakFault_cores d true cause h0).trans h
  case heartwood => exact ((Dev.heartwoodLost_keeps0 _).get_cores rfl).trans ((Dev.legal_keeps0 _ _ _ _).get_cores rfl)
  case burl => exact ((Dev.setBurl_keeps0 _ _).get_cores rfl).trans ((Dev.keyOpAbort_keeps0 _ _).get_cores rfl)
  case canopy => exact (Dev.canopyOut_keeps0 _).get_cores rfl
  case display => exact (Dev.stopDisplay_keeps0 _).get_cores rfl
  all_goals exact (Dev.engineLost_keeps0 _ _).get_cores rfl

/-- The batch and the commit at hand go with Heartwood (09 R239). -/
theorem heartwoodLost_commit : d.heartwoodLost.energy.batch = [] ∧ d.heartwoodLost.energy.commit = none := by
  have h : ∀ e : Dev, e.dropCommit.settle.energy.batch = [] ∧ e.dropCommit.settle.energy.commit = none := fun e => by
    rw [(Dev.settle_keeps0 _).get_energy rfl]
    exact ⟨rfl, rfl⟩
  exact h _

theorem sapwoodOver_activeB (h : d.update.run = none) : d.sapwoodOver.activeB = !d.activeB := by
  have hr : (d.swapRoles.refuseItems).update.run = none := by
    rw [(Dev.refuseItems_keeps0 _).get_update rfl, (Dev.swapRoles_keeps0 _).get_update rfl, h]
  have ha : (d.swapRoles.refuseItems).activeB = !d.activeB := by
    rw [(Dev.refuseItems_keeps0 _).get_activeB rfl]
    simp only [Dev.swapRoles]
    rw [(Dev.abandonOwner_keeps0 _ _).get_activeB rfl]
  simp only [Dev.sapwoodOver, hr, ha]

end

/-! ### A core that fails (01 R38) -/

section
variable {d : Dev} {c : CoreId}

/-- With no plan, what goes with a failed core leaves the plan's part alone. -/
theorem coreLost_keeps_idle (hu : d.update.run = none) (cause : Nat) : Keeps 250313511 d (d.coreLost c cause) := by
  have hover : Keeps 138426886 d d.sapwoodOver := by
    have hk : Keeps 138426886 d d.swapRoles.refuseItems :=
      Dev.refuseItems_keeps _ (by decide) ((Dev.swapRoles_keeps0 d).mono (by decide))
    have hr : (d.swapRoles.refuseItems).update.run = none := by rw [hk.get_update rfl, hu]
    simpa only [Dev.sapwoodOver, hr] using hk
  have sap : (c = .sapwoodA ∨ c = .sapwoodB) → Keeps 250313511 d (d.coreLost c cause) := fun hs => by
    by_cases hc : c = d.activeSapwood
    · rw [coreLost_sapwood d hc]
      exact .ite (Dev.fabricUp_keeps _ _ (by decide) (hover.mono (by decide))) ((Dev.sapwoodGone_keeps0 d).mono (by decide))
    · rw [coreLost_standby d hs hc]
      exact .refl _ _
  cases c
  case sapwoodA => exact sap (.inl rfl)
  case sapwoodB => exact sap (.inr rfl)
  case firebreakA => exact (Dev.firebreakFault_keeps0 _ _ _ _).mono (by decide)
  case firebreakB => exact (Dev.firebreakFault_keeps0 _ _ _ _).mono (by decide)
  case heartwood => exact Dev.heartwoodLost_keeps _ (by decide) ((Dev.legal_keeps0 _ _ _ _).mono (by decide))
  case burl => exact Dev.setBurl_keeps _ _ (by decide) ((Dev.keyOpAbort_keeps0 _ _).mono (by decide))
  case canopy => exact (Dev.canopyOut_keeps0 _).mono (by decide)
  case display => exact (Dev.stopDisplay_keeps0 _).mono (by decide)
  all_goals exact (Dev.engineLost_keeps0 _ _).mono (by decide)

/-- A core with the plan idle: it restarts with its crossings down, and what goes with it is lost. -/
theorem coreFails_eq (hp : d.powered = true) (hr : d.running c = true) (hu : d.update.run = none) (cause : Nat) :
    ∃ e : Dev, Keeps 8192 d e ∧ d.coreFails c cause = (e.restartCore c cause).coreLost c cause := by
  have hplan : ∀ e x, Keeps 8192 d e →
      ((e.restartCore c cause).coreLost c cause).planHit x = (e.restartCore c cause).coreLost c cause := fun e x he => by
    have h1 : (e.restartCore c cause).update.run = none := by
      rw [(Dev.restartCore_keeps0 _ _ _).get_update rfl, he.get_update rfl, hu]
    have h2 : ((e.restartCore c cause).coreLost c cause).update.run = none := by
      rw [(coreLost_keeps_idle h1 cause).get_update rfl, h1]
    simp only [Dev.planHit, h2]
  have hg : ¬ ((!d.powered) = true ∨ (!d.running c) = true) := by simp [hp, hr]
  have hk := Dev.general_keeps0 d (.coreFault ((coreNum c).val + 1) cause)
  unfold Dev.coreFails
  rw [if_neg hg]
  by_cases hfb : c = .firebreakA ∨ c = .firebreakB
  · simp only [hfb, decide_true, if_true, hplan d _ (.refl _ _)]
    exact ⟨d, .refl _ _, rfl⟩
  · simp only [hfb, decide_false, Bool.false_eq_true, if_false, hplan _ _ hk]
    exact ⟨_, hk, rfl⟩

end

section
variable {d : Dev} {c : CoreId}

theorem restartCore_not_running (d : Dev) (c : CoreId) (cause : Nat) {x : Fin 58} (h : x ∈ d.coreCrossings c) :
    (d.restartCore c cause).crossings[x].state ≠ .running := by
  have hx : (d.restartCore c cause).crossings = ((d.abandonOwner c).fabricDown (d.coreCrossings c)).crossings := by
    simp only [Dev.restartCore, Dev.putNat_crossings, Dev.setCore_crossings]
  simpa only [hx] using fabricDown_not_running _ h

theorem restartCore_cores (d : Dev) (c : CoreId) (cause : Nat) :
    (d.restartCore c cause).cores = d.cores.set (coreNum c) (.restarting cause) := by
  simp only [Dev.restartCore, Dev.putNat_cores, Dev.setCore]
  rw [(Dev.fabricDown_keeps0 _ _).get_cores rfl, (Dev.abandonOwner_keeps0 _ _).get_cores rfl]

theorem coreCrossings_congr {e : Dev} (h : Keeps 8192 d e) (c : CoreId) : e.coreCrossings c = d.coreCrossings c := by
  have hn : ∀ k, e.nat k = d.nat k := fun k => by simp only [Dev.nat, Dev.int, Dev.val, h.get_obj rfl]
  unfold Dev.coreCrossings Dev.activeSapwood
  simp only [hn, h.get_activeB rfl]

/-- Crossing 0x1A is the Canopy node's, not its core's. -/
theorem coreCrossings_canopy {x : Fin 58} (hx : x ∈ d.coreCrossings .canopy) : x ≠ 0x1A := by
  rintro rfl
  simp [Dev.coreCrossings] at hx

theorem failed_core {s : State} (hp : s.dev.powered = true) (hr : s.dev.running c = true) (hu : s.dev.update.run = none) {cause : Nat}
    (h0 : cause ≠ 0) :
    (s.dev.coreFails c cause).cores = s.dev.cores.set (coreNum c) (.restarting cause) ∧
    (∀ x ∈ s.dev.coreCrossings c, (s.dev.coreFails c cause).crossings[x].state ≠ .running) ∧
    (c = .heartwood → (s.dev.coreFails c cause).energy.batch = [] ∧ (s.dev.coreFails c cause).energy.commit = none) ∧
    (c = .firebreakA ∨ c = .firebreakB →
      (s.dev.coreFails c cause).safety.firebreakFault = true ∧ (s.dev.coreFails c cause).safety.testsPassed = false) ∧
    (c = s.dev.activeSapwood → s.dev.running s.dev.standbySapwood = true → (s.dev.coreFails c cause).activeB = !s.dev.activeB) ∧
    Within [.free, .out, .obj, .crossings, .cores, .activeB, .dict, .hosts, .heart, .ports, .site, .safety, .energy, .ledger, .cvu, .burl, .update,
      .canopy, .display, .held] s { s with dev := s.dev.coreFails c cause } := by
  obtain ⟨e, hk, he⟩ := coreFails_eq hp hr hu cause
  have hcores : (e.restartCore c cause).cores = s.dev.cores.set (coreNum c) (.restarting cause) := by
    rw [restartCore_cores, hk.get_cores rfl]
  have hframe := (Dev.coreFails_keeps0 c cause s.dev).within (parts := [.free, .out, .obj, .crossings, .cores, .activeB, .dict, .hosts, .heart,
    .ports, .site, .safety, .energy, .ledger, .cvu, .burl, .update, .canopy, .display, .held]) (by decide)
  rw [he] at hframe ⊢
  refine ⟨?_, fun x hx => ?_, ?_, ?_, fun hc hs => ?_, hframe⟩
  · rw [coreLost_cores _ _ _ h0 (by rw [hcores, set_set_same]), hcores]
  · exact coreLost_not_running _ _ _ (fun h => coreCrossings_canopy (h ▸ hx)) (restartCore_not_running _ _ _ (coreCrossings_congr hk c ▸ hx))
  · rintro rfl
    exact heartwoodLost_commit _
  · intro hfb
    have hflags : ((e.restartCore c cause).coreLost c cause).firebreakFlags = (true, false) := by
      rcases hfb with rfl | rfl
      · exact firebreakFault_flags _ true false cause
      · exact firebreakFault_flags _ false true cause
    exact ⟨congrArg Prod.fst hflags, congrArg Prod.snd hflags⟩
  · have hact : (e.restartCore c cause).activeB = s.dev.activeB := by
      rw [(Dev.restartCore_keeps0 _ _ _).get_activeB rfl, hk.get_activeB rfl]
    have hactive : (e.restartCore c cause).activeSapwood = s.dev.activeSapwood := by unfold Dev.activeSapwood; rw [hact]
    have hstandby : (e.restartCore c cause).standbySapwood = s.dev.standbySapwood := by unfold Dev.standbySapwood; rw [hact]
    have hne : s.dev.standbySapwood ≠ c := by
      rw [hc]
      unfold Dev.standbySapwood Dev.activeSapwood
      cases s.dev.activeB <;> decide
    have hrun : (e.restartCore c cause).running (e.restartCore c cause).standbySapwood = true := by
      rw [hstandby, ← hs, Dev.running, Dev.running, hcores]
      exact congrArg (fun r => decide (r = CoreRun.running)) (set_other _ _ fun h => hne (Dev.coreNum_inj h))
    have hu' : (e.restartCore c cause).update.run = none := by
      rw [(Dev.restartCore_keeps0 _ _ _).get_update rfl, hk.get_update rfl, hu]
    rw [coreLost_sapwood _ (hc.trans hactive.symm), if_pos hrun, (Dev.fabricUp_keeps0 _ _).get_activeB rfl, sapwoodOver_activeB _ hu', hact]

end

/-! ### A core that runs again (01 R15, R38) -/

section
variable (d : Dev) (c : CoreId)

theorem coreUp_cores : (d.coreUp c).cores = d.cores.set (coreNum c) .running := by
  unfold Dev.coreUp
  exact (Dev.fabricUp_keeps0 _ _).get_cores rfl

/-- What Heartwood takes up again after its core runs. -/
theorem heartwoodBack_keeps : Keeps 1990692 (d.coreUp .heartwood) d.heartwoodBack := by
  unfold Dev.heartwoodBack
  generalize d.coreUp .heartwood = e
  dsimp only
  repeat' split
  all_goals simp (maxDischargeDepth := 99) +contextual [Keeps.foldl]

theorem channelBack_keeps (b : Bool) : Keeps 155652 (d.coreUp (if b then .firebreakB else .firebreakA)) (d.channelBack b) := by
  unfold Dev.channelBack
  generalize d.coreUp (if b then .firebreakB else .firebreakA) = e
  split <;> simp (maxDischargeDepth := 99) [Keeps.ite]

/-- A core that resumes its role changes no other core. -/
theorem coreBack_cores : (d.coreBack c).cores = d.cores.set (coreNum c) .running := by
  rw [← coreUp_cores]
  have engine : ∀ (k : CoreId) (u : Nat) (e : Fin 4), ((((d.coreUp k).unitBack u).rescuePorts).moveBack e).cores = (d.coreUp k).cores :=
    fun k u e => by
      rw [(Dev.moveBack_keeps0 _ _).get_cores rfl, (Dev.rescuePorts_keeps0 _).get_cores rfl, (Dev.unitBack_keeps0 _ _).get_cores rfl]
  have sapwood : ∀ k, (let e := (d.coreUp k).unitBack 0
      if e.running e.activeSapwood then e else let e := e.swapRoles; e.fabricUp (e.coreCrossings e.activeSapwood)).cores = (d.coreUp k).cores :=
    fun k => by
      dsimp only
      split
      · exact (Dev.unitBack_keeps0 _ _).get_cores rfl
      · rw [(Dev.fabricUp_keeps0 _ _).get_cores rfl, (Dev.swapRoles_keeps0 _).get_cores rfl, (Dev.unitBack_keeps0 _ _).get_cores rfl]
  cases c
  case sapwoodA => exact sapwood _
  case sapwoodB => exact sapwood _
  case heartwood => exact (heartwoodBack_keeps d).get_cores rfl
  case firebreakA => exact (channelBack_keeps d false).get_cores rfl
  case firebreakB => exact (channelBack_keeps d true).get_cores rfl
  case burl => exact ((Dev.startSigning_keeps0 _).get_cores rfl).trans ((Dev.wipeInactive_keeps0 _).get_cores rfl)
  case canopy =>
    exact ((Dev.unitBack_keeps0 _ _).get_cores rfl).trans (((Dev.setCanopy_keeps0 _ _).get_cores rfl).trans ((Dev.latchCanopy_keeps0 _).get_cores rfl))
  case display => exact ((Dev.startDisplay_keeps0 _).get_cores rfl).trans ((Dev.unitBack_keeps0 _ _).get_cores rfl)
  all_goals exact engine _ _ _

end

/-- Settles O14: a core that fails restarts with the reactions of R38, and runs again as its image check says. -/
theorem failedCoresRestart : Obligations.FailedCoresRestart := by
  unfold Obligations.FailedCoresRestart
  intro failed
  refine ⟨fun s c hp hr hu => ⟨_, rfl, failed_core hp hr hu (by decide)⟩, fun s c hp hr hu => ⟨_, rfl, failed_core hp hr hu (by decide)⟩,
    fun s c cause ok hp hc ha hb => ?_⟩
  have hdone : s.dev.coreRestartDone c ok =
      if ok = true ∨ Dev.imageTypeOf c = none then s.dev.coreBack c
      else (s.dev.setCore c .held).general (.imageFailed ((Dev.imageTypeOf c).getD 0) (if s.dev.activeK ((Dev.imageTypeOf c).getD 0) then 1 else 0)) := by
    cases hi : Dev.imageTypeOf c with
    | none => simp [Dev.coreRestartDone, hc, hp, ha, hi]
    | some t =>
      have hb := hb (by simp [hi])
      cases ok <;> simp [Dev.coreRestartDone, hc, hp, ha, hi, hb]
  have hcores : (s.dev.coreRestartDone c ok).cores =
      s.dev.cores.set (coreNum c) (if ok = true ∨ Dev.imageTypeOf c = none then .running else .held) := by
    rw [hdone]
    split
    · exact coreBack_cores _ _
    · exact (Dev.general_keeps0 _ _).get_cores rfl
  refine ⟨_, rfl, ?_, fun k hk => ?_, rfl, ?_⟩
  · simp only [hcores]
    simp
  · simp only [hcores]
    exact set_other _ _ hk
  · refine Keeps.within (s := { s with mem := s.dev.coresLoaded (s.dev.coreRestartDone c ok) s.mem }) (Dev.coreRestartDone_keeps0 c ok s.dev) ?_
    decide

end Sys2Proof.Machine
end

section
/-! PROOFS. What a dictionary tick does not always do (05 R113; 16 R448; 03 R71). -/

namespace Sys2Proof.Machine

theorem dev_of_dictionaryTick {s t : State} (h : exec .dictionaryTick s = .next t) : t.dev = s.dev.dictionaryTick := by
  cases h
  rfl

/-- A device in service that measures nothing yet, with its reference of 25 MHz lost, source 1 in alarm, and a commit that raises its response level to 3. -/
def levelRaisedInTick : State := Sys2Proof.Tests.dev fun d =>
  { d.putNat Key.alarmNow 2 with
    clocks := { d.clocks with ref25Lost := true }
    metro := { d.metro with running := false }
    dict := { d.dict with items := [.commit Sys2Proof.Tests.ack1 0x2E [(Key.responseLevel 0, .int 3)]] } }

theorem levelRaisedInTick_powered : levelRaisedInTick.dev.powered = true := by decide +kernel

/-- The level raised resets the device within the tick: with no sums at hand there is no final ring to wait for, and fabric time starts anew. -/
theorem levelRaisedInTick_fabric :
    levelRaisedInTick.dev.time.fabric = 0 ∧ levelRaisedInTick.dev.dictionaryTick.time.fabric = 0 := by decide +kernel

/-- Refutes O15: a commit that raises the level of a source in alarm to 3 begins the shutdown, and a device that measures nothing is reset
within the tick, so its fabric time is 0 and not 4,096 more. -/
theorem not_ticksApplyWritesAndTheJournalStoresThem : ¬ Obligations.TicksApplyWritesAndTheJournalStoresThem := by
  unfold Obligations.TicksApplyWritesAndTheJournalStoresThem
  rintro ⟨htick, -⟩
  obtain ⟨t, ht, hfabric, -⟩ := htick levelRaisedInTick levelRaisedInTick_powered
  obtain ⟨hbefore, hafter⟩ := levelRaisedInTick_fabric
  rw [dev_of_dictionaryTick ht, hafter, hbefore] at hfabric
  omega

end Sys2Proof.Machine
end

section
/-! PROOFS. Staged groups (05 R122 to R127). -/

namespace Sys2Proof.Machine

/-! ### The admitted device and its groups -/

section
variable (d : Dev) (m : HostMsg)

theorem admitted_dict : (d.admitted m).dict = d.dict := (Dev.admitted_same d m .dict (by decide) (by decide)).symm

theorem admitted_group (g : Nat) : (d.admitted m).group g = d.group g := by simp only [Dev.group, admitted_dict]

theorem admitted_groupLocked (g : Nat) : (d.admitted m).groupLocked g = d.groupLocked g := by
  unfold Dev.groupLocked Dev.lifecycle
  rw [Dev.nat_admitted_far d m (k := Key.planState) (.inr (by decide)), Dev.nat_admitted_far d m (k := Key.lifecycleState) (.inl (by decide))]

theorem admitted_storeBusy (n : Nat) : (d.admitted m).storeBusy n = d.storeBusy n := by
  unfold Dev.storeBusy Dev.unstoredBytes
  rw [admitted_dict]

theorem admitted_openShadow (g : Nat) : (d.admitted m).openShadow g = d.openShadow g := by simp only [Dev.openShadow, admitted_group]

theorem admitted_stageCodes (g key : Nat) (v : Val) : (d.admitted m).stageCodes g key v = d.stageCodes g key v := by
  have ht : (d.admitted m).stagedTotal = d.stagedTotal := by simp only [Dev.stagedTotal, admitted_dict]
  simp only [Dev.stageCodes, admitted_openShadow, admitted_groupLocked, admitted_group, ht,
    Dev.nat_admitted_far d m (k := Key.planState) (.inr (by decide))]

end

/-- What a write that may be taken finds: a row, a sound value, an owner, no bar to writes. -/
theorem row_of_takes {key : Nat} {data : Bytes} (h : takes key data = true) :
    ∃ r, lookup key = .ok r ∧ valueFault key r data = none ∧ sentValue key data = r.ty.decode data := by
  unfold takes at h
  unfold sentValue
  cases hl : lookup key with
  | error c => simp [hl] at h
  | ok r => exact ⟨r, rfl, by simpa [hl] using h, rfl⟩

/-! ### A Commit that is served (05 R123) -/

section
variable {d : Dev} {a : Ack} {r : Row} {data : Bytes} {g : Nat}
  (ho : d.ownerFault a.slot = none) (hl : lookup a.key = .ok r) (hv : valueFault a.key r data = none) (hw : d.writeBlocked = none)
include ho hl hv hw

theorem commitServe_empty (hp : (d.group g).phase = .empty ∨ (d.group g).phase = .committing) (hg : d.groupLocked g = false) :
    d.commitServe g data a = (d.commitOutcome g 0 0).ok a := by
  have hs : d.openShadow g = [] := by rcases hp with hp | hp <;> simp [Dev.openShadow, hp]
  simp [Dev.commitServe, ho, hl, hv, hw, hp, hg, hs, Dev.storeBusy, bytesOfStore, firstCode]

variable (hp : (d.group g).phase = .staging) (hb : d.storeBusy (bytesOfStore (d.group g).shadow) = false)
include hp hb

theorem commitServe_valid (hf : d.commitFault g = none) :
    d.commitServe g data a = (d.setGroup g fun y => { y with phase := .committing }).enqueue (.commit a g (d.group g).shadow) := by
  simp [Dev.commitServe, ho, hl, hv, hw, hp, hb, hf, Dev.openShadow, firstCode]

theorem commitServe_faulty {c k : Nat} (hf : d.commitFault g = some (c, k)) :
    d.commitServe g data a = (d.commitOutcome g c (refOf k)).abort a c := by
  simp [Dev.commitServe, ho, hl, hv, hw, hp, hb, hf, Dev.openShadow, firstCode]

end

/-! ### Groups in the table -/

section
variable (d : Dev) (g : Fin 64) (f : Group → Group)

theorem groups_setGroup_same : (d.setGroup g f).dict.groups[g] = f d.dict.groups[g] := by
  simp [Dev.setGroup, vmod]

theorem groups_setGroup_other {h : Fin 64} (hne : h ≠ g) : (d.setGroup g f).dict.groups[h] = d.dict.groups[h] := by
  simp only [Dev.setGroup, g.isLt, dite_true]
  exact vmod_other _ _ hne

theorem items_setGroup : (d.setGroup g f).dict.items = d.dict.items := by
  simp [Dev.setGroup]

theorem group_eq_getElem : d.group g = d.dict.groups[g] := by simp [Dev.group, Vector.getD]

end

theorem dict_answer (d : Dev) (a : Ack) (r : HostReply) : (d.answer a r).dict = d.dict :=
  (Dev.answer_same d a r .dict (by decide) (by decide) (by decide)).symm

theorem heart_answer (d : Dev) (a : Ack) (r : HostReply) : (d.answer a r).heart = d.heart :=
  (Dev.answer_same d a r .heart (by decide) (by decide) (by decide)).symm

theorem dict_abort (d : Dev) (a : Ack) (code : Nat) : (d.abort a code).dict = d.dict :=
  (dict_answer _ _ _).trans ((Dev.noteAbort_keeps0 d a.slot code a.key).get_dict rfl)

theorem nat_abort (d : Dev) (a : Ack) (code : Nat) {k : Nat} (h : k ∉ abortKeys) : (d.abort a code).nat k = d.nat k := by
  rw [Dev.abort, Dev.nat_answer, Dev.nat, Dev.int, val_noteAbort _ _ _ _ h]
  rfl

/-! ### Commits and discards of the owner -/

section
variable {s : State} {m : HostMsg} {g : Fin 64} {data : Bytes}

/-- A Commit that may be served is, with the request of its message. -/
theorem exec_commit (h : s.dev.grants m = true) :
    exec (.commit m g data) s =
      .next { s with dev := (s.dev.admitted m).commitServe g data ((s.dev.admitted m).ackOf m (Key.groupCommit g)) } := by
  show State.onDev s _ = _
  rw [State.onDev, Dev.commitRequest, hostRequest_heard (grants_iff.1 h).1]

theorem admitted_serves (h : s.dev.grants m = true) :
    (s.dev.admitted m).ownerFault m.slot = none ∧ (s.dev.admitted m).writeBlocked = none := by
  obtain ⟨-, h2, h3⟩ := grants_iff.1 h
  exact ⟨by rw [admitted_ownerFault]; simp [Dev.ownerFault, h2], by rw [admitted_writeBlocked, h3]⟩

/-- The outcome that a Commit shows is of its group only. -/
theorem val_commitOutcome (d : Dev) (c f : Nat) {k : Nat} (h : k ∉ [Key.lastResult g, Key.failingObject g]) :
    (d.commitOutcome g c f).val k = d.val k := by
  simp only [List.mem_cons, List.not_mem_nil, or_false, not_or] at h
  rw [Dev.commitOutcome, Dev.val_putNat_other _ _ (Ne.symm h.2), Dev.val_putNat_other _ _ (Ne.symm h.1)]

theorem nat_commitOutcome (d : Dev) (c f : Nat) :
    (d.commitOutcome g c f).nat (Key.lastResult g) = c ∧ (d.commitOutcome g c f).nat (Key.failingObject g) = f := by
  refine ⟨?_, Dev.nat_putNat _ _ _⟩
  rw [Dev.commitOutcome, Dev.nat_putNat_other _ _ (by simp [Key.failingObject, Key.lastResult, ob]), Dev.nat_putNat]

theorem commitOutcome_keeps (d : Dev) (c f : Nat) : Keeps 4 d (d.commitOutcome g c f) := by
  unfold Dev.commitOutcome
  simp (maxDischargeDepth := 99)

theorem eth0PhyFound_notin_outcome : Key.eth0PhyFound ∉ [Key.lastResult g, Key.failingObject g] := by
  have hg := g.isLt
  simp only [Key.eth0PhyFound, Key.lastResult, Key.failingObject, ob, List.mem_cons, List.not_mem_nil, or_false]
  omega

theorem lastResult_notin_abortKeys : Key.lastResult g ∉ abortKeys ∧ Key.failingObject g ∉ abortKeys := by
  have hg := g.isLt
  simp only [abortKeys, Key.lastAbortCode, Key.lastAbortObject, Key.lastAbortHost, Key.abortCount, Key.lastResult, Key.failingObject, ob,
    List.mem_cons, List.not_mem_nil, or_false]
  omega

theorem commit_empty (h : s.dev.grants m = true) (ht : takes (Key.groupCommit g) data = true)
    (hp : (s.dev.group g).phase = .empty ∨ (s.dev.group g).phase = .committing) (hg : s.dev.groupLocked g = false) :
    Completes (.commit m g data) s fun t =>
      t.dev.nat (Key.lastResult g) = 0 ∧ t.dev.nat (Key.failingObject g) = 0 ∧
      Served m (.done (Key.groupCommit g)) [] [Key.lastResult g, Key.failingObject g] s t := by
  obtain ⟨r, hl, hv, -⟩ := row_of_takes ht
  obtain ⟨ho, hw⟩ := admitted_serves h
  have he := exec_commit (g := g) (data := data) h
  rw [commitServe_empty ho hl hv hw (by rwa [admitted_group]) (by rwa [admitted_groupLocked])] at he
  obtain ⟨h1, h2⟩ := nat_commitOutcome (g := g) (s.dev.admitted m) 0 0
  exact ⟨_, he, (Dev.nat_answer _ _ _ _).trans h1, (Dev.nat_answer _ _ _ _).trans h2,
    served_ok _ (grants_iff.1 h).1 (commitOutcome_keeps _ 0 0) (by decide) (by decide) (fun k hk => val_commitOutcome _ _ _ hk)
      eth0PhyFound_notin_outcome⟩

theorem commit_faulty (h : s.dev.grants m = true) (ht : takes (Key.groupCommit g) data = true) (hp : (s.dev.group g).phase = .staging)
    {k : Nat} (hf : (s.dev.admitted m).commitFault g = some (Code.groupInvalid, k))
    (hb : s.dev.storeBusy (bytesOfStore (s.dev.group g).shadow) = false) :
    Completes (.commit m g data) s fun t =>
      t.dev.nat (Key.lastResult g) = 0x05000001 ∧ t.dev.nat (Key.failingObject g) = refOf k ∧
      Served m (.abort 0x05000001 (Key.groupCommit g)) []
        [Key.lastResult g, Key.failingObject g, Key.lastAbortCode, Key.lastAbortObject, Key.lastAbortHost, Key.abortCount] s t := by
  obtain ⟨r, hl, hv, -⟩ := row_of_takes ht
  obtain ⟨ho, hw⟩ := admitted_serves h
  have he := exec_commit (g := g) (data := data) h
  rw [commitServe_faulty ho hl hv hw (by rwa [admitted_group]) (by rwa [admitted_group, admitted_storeBusy]) hf] at he
  obtain ⟨h1, h2⟩ := nat_commitOutcome (g := g) (s.dev.admitted m) Code.groupInvalid (refOf k)
  obtain ⟨hn1, hn2⟩ := lastResult_notin_abortKeys (g := g)
  exact ⟨_, he, (nat_abort _ _ _ hn1).trans h1, (nat_abort _ _ _ hn2).trans h2,
    served_abort (keys := [Key.lastResult g, Key.failingObject g]) _ _ (grants_iff.1 h).1 (commitOutcome_keeps _ _ _) (by decide) (by decide)
      (fun k hk => val_commitOutcome _ _ _ hk) eth0PhyFound_notin_outcome⟩

end

section
variable {s : State} {m : HostMsg} {g : Fin 64} {data : Bytes}

/-- What stands for the tick boundary, and the receipt of its message, is all that has changed. -/
theorem waits_frame {e : Dev} (hk : Keeps 2048 (s.dev.admitted m) e) :
    e.out = s.dev.out ∧ Only [.hosts, .dict] (hostKeys m.slot) s { s with dev := e } ∧ OnlySlot m.slot s { s with dev := e } := by
  have hh := hk.get_hosts rfl
  have hs : ∀ x, e.slot x = (s.dev.admitted m).slot x := fun x => by simp only [Dev.slot, hh]
  have hv : ∀ k, e.val k = (s.dev.admitted m).val k := fun k => by simp only [Dev.val, hk.get_obj rfl]
  refine ⟨(hk.get_out rfl).trans (Dev.admitted_same s.dev m .out (by decide) (by decide)).symm, ⟨rfl, rfl, rfl, fun x hx hn => ?_, fun k hn => ?_⟩,
    fun q hq => ?_, ?_⟩
  · simp only [List.mem_cons, List.not_mem_nil, or_false, not_or] at hn
    exact Part.same_trans (Dev.admitted_same _ _ x hn.1 hx) (hk x (Part.mask_testBit [.dict] x (by simp [hn.2])))
  · rw [hv, Dev.val_admitted _ _ hn]
  · rw [hs, Dev.slot_admitted_other _ _ hq]
  · simp [hh, Dev.admitted_ownership, Dev.admitted_ownerSince, Dev.admitted_lastHeartbeat, Dev.admitted_can, Dev.admitted_busOffCounts]

theorem commit_valid (h : s.dev.grants m = true) (ht : takes (Key.groupCommit g) data = true) (hp : (s.dev.group g).phase = .staging)
    (hf : (s.dev.admitted m).commitFault g = none) (hb : s.dev.storeBusy (bytesOfStore (s.dev.group g).shadow) = false) :
    Completes (.commit m g data) s fun t =>
      (t.dev.group g).phase = .committing ∧ (t.dev.group g).shadow = (s.dev.group g).shadow ∧
      t.dev.dict.items = s.dev.dict.items ++ [.commit ((s.dev.admitted m).ackOf m (Key.groupCommit g)) g (s.dev.group g).shadow] ∧
      (∀ h : Fin 64, h ≠ g → t.dev.dict.groups[h] = s.dev.dict.groups[h]) ∧ t.dev.out = s.dev.out ∧
      Only [.hosts, .dict] (hostKeys m.slot) s t ∧ OnlySlot m.slot s t := by
  obtain ⟨r, hl, hv, -⟩ := row_of_takes ht
  obtain ⟨ho, hw⟩ := admitted_serves h
  have he := exec_commit (g := g) (data := data) h
  rw [commitServe_valid ho hl hv hw (by rwa [admitted_group]) (by rwa [admitted_group, admitted_storeBusy]) hf, admitted_group] at he
  have hd := admitted_dict s.dev m
  refine ⟨_, he, ?_, ?_, ?_, fun k hk => ?_, waits_frame ?_⟩
  · exact congrArg Group.phase (Dev.group_setGroup_same (s.dev.admitted m) (g := g) _ g.isLt)
  · refine (congrArg Group.shadow (Dev.group_setGroup_same (s.dev.admitted m) (g := g) _ g.isLt)).trans ?_
    rw [admitted_group]
  · refine congrArg (· ++ _) ((items_setGroup (s.dev.admitted m) g _).trans ?_)
    rw [hd]
  · exact (groups_setGroup_other _ g _ hk).trans (by rw [hd])
  · exact Dev.enqueue_keeps _ _ (by decide) (Dev.setGroup_keeps0 _ _ _)

theorem discarded (h : s.dev.grants m = true) (ht : takes (Key.groupDiscard g) data = true) (hp : (s.dev.group g).phase = .staging) :
    Completes (.discard m g data) s fun t =>
      t.dev.dict.groups[g] = ⟨.empty, [], 0, 0⟩ ∧ (∀ h : Fin 64, h ≠ g → t.dev.dict.groups[h] = s.dev.dict.groups[h]) ∧
      (∃ e : GenEntry, t.dev.heart.general = e :: s.dev.heart.general.take 98303 ∧
        e.event = .stagedDiscarded g (bytesOfStore (s.dev.group g).shadow) 4) ∧
      Served m (.done (Key.groupDiscard g)) [.dict, .heart] [] s t := by
  have hd := admitted_dict s.dev m
  have hhe : (s.dev.admitted m).heart = s.dev.heart := (Dev.admitted_same s.dev m .heart (by decide) (by decide)).symm
  let e := ((s.dev.admitted m).setGroup g fun _ => ⟨.empty, [], 0, 0⟩).general (.stagedDiscarded g (bytesOfStore (s.dev.group g).shadow) 4)
  have hk : Keeps 10240 (s.dev.admitted m) e := Dev.general_keeps _ _ (by decide) ((Dev.setGroup_keeps0 _ _ _).mono (by decide))
  have he : exec (.discard m g data) s =
      .next { s with dev := e.ok ((s.dev.admitted m).ackOf m (Key.groupDiscard g)) } := by
    show State.onDev s _ = _
    rw [State.onDev, Dev.discardRequest, cmdWrite_granted h ht]
    simp only [Dev.discardServe, admitted_group, hp, true_or, if_true, e]
  obtain ⟨x, hx, hgen⟩ := Dev.general_heart ((s.dev.admitted m).setGroup g fun _ => ⟨.empty, [], 0, 0⟩)
    (.stagedDiscarded g (bytesOfStore (s.dev.group g).shadow) 4)
  have hed : (e.ok ((s.dev.admitted m).ackOf m (Key.groupDiscard g))).dict = ((s.dev.admitted m).setGroup g fun _ => ⟨.empty, [], 0, 0⟩).dict :=
    (dict_answer _ _ _).trans ((Dev.general_keeps0 _ _).get_dict rfl)
  refine ⟨_, he, ?_, fun j hj => ?_, ⟨x, ?_, hx⟩,
    served_ok _ (grants_iff.1 h).1 hk (by decide) (by decide) (fun k _ => by simp only [Dev.val, hk.get_obj rfl]) (by simp)⟩
  · simp only [hed]
    exact groups_setGroup_same _ g _
  · simp only [hed]
    exact (groups_setGroup_other _ g _ hj).trans (by rw [hd])
  · refine (congrArg Heartwood.general ((heart_answer _ _ _).trans hgen)).trans ?_
    simp only [Dev.setGroup_heart, hhe]

theorem expired (hu : s.dev.sequencerUp = true) (hp : (s.dev.group g).phase = .staging) (ht : (s.dev.group g).sinceMs + 60000 ≤ s.dev.nowMs) :
    Completes (.shadowTimeout g) s fun t =>
      t.dev.dict.groups[g] = ⟨.expired, [], 0, 0⟩ ∧ (∀ h : Fin 64, h ≠ g → t.dev.dict.groups[h] = s.dev.dict.groups[h]) ∧
      (∃ e : GenEntry, t.dev.heart.general = e :: s.dev.heart.general.take 98303 ∧
        e.event = .stagedDiscarded g (bytesOfStore (s.dev.group g).shadow) 1) ∧
      Only [.dict, .heart] [Key.discardCount] s t := by
  have he : exec (.shadowTimeout g) s = .next { s with dev := s.dev.discardGroup g 1 } := by
    show State.onDev s _ = _
    rw [State.onDev, Dev.shadowTimeout, if_pos ⟨hu, hp, ht⟩]
  have hdis : s.dev.discardGroup g 1 = ((s.dev.setGroup g fun _ => ⟨.expired, [], 0, 0⟩).bump Key.discardCount).general
      (.stagedDiscarded g (bytesOfStore (s.dev.group g).shadow) 1) := if_pos hp
  obtain ⟨x, hx, hgen⟩ := Dev.general_heart ((s.dev.setGroup g fun _ => ⟨.expired, [], 0, 0⟩).bump Key.discardCount)
    (.stagedDiscarded g (bytesOfStore (s.dev.group g).shadow) 1)
  have hed : (s.dev.discardGroup g 1).dict = (s.dev.setGroup g fun _ => ⟨.expired, [], 0, 0⟩).dict := by
    rw [hdis, (Dev.general_keeps0 _ _).get_dict rfl, Dev.bump_dict]
  refine ⟨_, he, ?_, fun j hj => ?_, ⟨x, ?_, hx⟩, (Dev.discardGroup_keeps0 s.dev g 1).only (by decide) fun k hk => ?_⟩
  · simp only [hed]
    exact groups_setGroup_same _ g _
  · simp only [hed]
    exact groups_setGroup_other _ g _ hj
  · simp only [hdis, hgen, Dev.bump_heart, Dev.setGroup_heart]
  · rw [List.mem_singleton] at hk
    rw [hdis]
    exact (Dev.val_bump_other _ _ (Ne.symm hk)).trans (by simp only [Dev.val, (Dev.setGroup_keeps0 _ _ _).get_obj rfl])

end

/-! ### A staged value (05 R122) -/

section
variable {s : State} {m : HostMsg} {o : ObjRef} {data : Bytes}

/-- An expedited write within its interface's limit is served, with the request of its message. -/
theorem exec_write (h : s.dev.hears m = true) (hn : 8 + data.length ≤ bodyLimit m.iface) :
    exec (.write m o data.length false data) s =
      .next { s with dev := (s.dev.admitted m).serveWrite ((s.dev.admitted m).ackOf m (keyOfObj o)) (keyOfObj o) data } := by
  show State.onDev s _ = _
  have : ¬ bodyLimit m.iface < 8 + data.length := by omega
  simp only [this, if_false, State.onDev, hostRequest_heard h, Dev.writeServe, Bool.false_eq_true, if_true]
  rfl

end

/-- A write that nothing refuses is taken (05 R135). -/
theorem serveWrite_taken {d : Dev} {a : Ack} {key : Nat} {r : Row} {data : Bytes} (hc : commitOf key = none) (ho : d.ownerFault a.slot = none)
    (hl : lookup key = .ok r) (ha : accessFault r = none) (hw : d.writeCodes key r data = []) :
    d.serveWrite a key data = d.takeWrite a key r data := by
  simp [Dev.serveWrite, hc, ho, hl, ha, hw, firstCode]

theorem shadow_stage (d : Dev) {g : Nat} (hg : g < 64) (key : Nat) (v : Val) :
    ((d.stage g key v).group g).phase = .staging ∧ ((d.stage g key v).group g).shadow.find key = some v := by
  rw [Dev.stage, Dev.group_setGroup_same _ _ hg]
  split
  · next h => exact ⟨h, Store.find_insert_same _ _ _⟩
  · exact ⟨rfl, by simp [Store.find]⟩

/-- Settles O16: what a Commit, a Discard, 60 s and a staged write make of a group, its shadow and its logbook entries. -/
theorem groupsAreStagedCommittedAndDiscarded : Obligations.GroupsAreStagedCommittedAndDiscarded := by
  unfold Obligations.GroupsAreStagedCommittedAndDiscarded
  refine ⟨fun s m g data h ht hp hg => commit_empty h ht hp hg, fun s m g data h ht hp hf hb => commit_valid h ht hp hf hb,
    fun s m g data k h ht hp hf hb => commit_faulty h ht hp hf hb, fun s m g data h ht hp => discarded h ht hp,
    fun s g hu hp ht => expired hu hp ht, fun s m o g r data h ht hl hacc hgr hst hc hn => ?_⟩
  obtain ⟨r', hl', hv, hsent⟩ := row_of_takes ht
  obtain rfl : r = r' := Except.ok.inj (hl.symm.trans hl')
  obtain ⟨ho, hw⟩ := admitted_serves h
  have hcodes : (s.dev.admitted m).writeCodes (keyOfObj o) r data = [] := by
    simp [Dev.writeCodes, hv, hw, hacc, hgr, admitted_stageCodes, ← hsent, hst]
  have he := exec_write (o := o) (grants_iff.1 h).1 hn
  rw [serveWrite_taken hc ho hl (by simp [accessFault, hacc]) hcodes] at he
  simp only [Dev.takeWrite, hacc, hgr, ← hsent] at he
  have hk : Keeps 2048 (s.dev.admitted m) ((s.dev.admitted m).stage g (keyOfObj o) (sentValue (keyOfObj o) data)) := Dev.setGroup_keeps0 _ _ _
  have hdict := dict_answer ((s.dev.admitted m).stage g (keyOfObj o) (sentValue (keyOfObj o) data)) ((s.dev.admitted m).ackOf m (keyOfObj o))
    (.done (keyOfObj o))
  have hgroup : ∀ j, Dev.group (((s.dev.admitted m).stage g (keyOfObj o) (sentValue (keyOfObj o) data)).ok
      ((s.dev.admitted m).ackOf m (keyOfObj o))) j = ((s.dev.admitted m).stage g (keyOfObj o) (sentValue (keyOfObj o) data)).group j := fun j => by
    simp only [Dev.group, Dev.ok]
    exact congrArg (fun d : Dict => d.groups.getD j ⟨.empty, [], 0, 0⟩) hdict
  obtain ⟨hphase, hfind⟩ := shadow_stage (s.dev.admitted m) g.isLt (keyOfObj o) (sentValue (keyOfObj o) data)
  refine ⟨_, he, by rw [hgroup]; exact hphase, by rw [hgroup]; exact hfind, fun j hj => ?_,
    served_ok _ (grants_iff.1 h).1 hk (by decide) (by decide) (fun k _ => by simp only [Dev.val, hk.get_obj rfl]) (by simp)⟩
  refine (congrArg (fun d : Dict => d.groups[j]) hdict).trans ?_
  exact (groups_setGroup_other _ g _ hj).trans (by rw [admitted_dict])

end Sys2Proof.Machine
end

section
/-! PROOFS. Objects read, written and published (05 R112 to R114, R131, R132; 06 R147, R151). -/

namespace Sys2Proof.Machine

/-! ### Reads (05 R114, R122) -/

section
variable {s : State} {m : HostMsg} {o : ObjRef}

theorem admitted_readCodes (d : Dev) (m : HostMsg) (key count : Nat) (ecc : Bool) : (d.admitted m).readCodes key count ecc = d.readCodes key count ecc := by
  have he : (d.admitted m).energy = d.energy := (Dev.admitted_same d m .energy (by decide) (by decide)).symm
  have hp : (d.admitted m).power = d.power := (Dev.admitted_same d m .power (by decide) (by decide)).symm
  unfold Dev.readCodes Dev.roleBlocked Dev.rail
  rw [admitted_dict, he, hp]

theorem readKeys_one (key : Nat) : Dev.readKeys key 1 = [key] := by
  simp [Dev.readKeys]

/-- A READ of one object that nothing refuses answers its value at the last boundary. -/
theorem read_one (staged : Bool) (h : s.dev.hears m = true) (hc : s.dev.readCodes (keyOfObj o) 1 false = [])
    (hd : Dev.isDomain (keyOfObj o) = false) (ha : ¬ (0x8300 ≤ keyOfObj o / 256 ∧ keyOfObj o / 256 ≤ 0x830F))
    (hn : 6 + (s.seen.readValue staged (keyOfObj o)).length ≤ bodyLimit m.iface) :
    Completes (.read m o 1 ⟨staged, false⟩) s fun t => Served m (.values (keyOfObj o) [s.seen.readValue staged (keyOfObj o)]) [] [] s t := by
  have hsize : ¬ (bodyLimit m.iface < 4 + (2 + (s.seen.readValue staged (keyOfObj o)).length) ∨ Dev.isDomain (keyOfObj o) = true) := by
    rw [hd, not_or]
    exact ⟨by omega, by decide⟩
  let r : HostReply := .values (keyOfObj o) [s.seen.readValue staged (keyOfObj o)]
  have he : exec (.read m o 1 ⟨staged, false⟩) s =
      .next { s with dev := (s.dev.admitted m).answer ((s.dev.admitted m).ackOf m (keyOfObj o)) r } := by
    show State.onDev s _ = _
    rw [State.onDev, Dev.readRequest, hostRequest_heard h]
    simp [admitted_readCodes, hc, firstCode, readKeys_one, ha, hsize, r]
  refine ⟨_, he, served_keeps (M := 0) (keys := []) _ h (.refl _ _) (by decide) (by decide) (fun _ _ => rfl) (by simp) ?_⟩
  cases hi : m.iface
  · refine .inr ?_
    simp only [hi, bodyLimit] at hn
    simp [replyParts, length_leBytes]
    omega
  · exact .inl (by decide)
  · exact .inl (by decide)

end

/-! ### Writes of the owner and of others (05 R112, R113) -/

section
variable {s : State} {m : HostMsg} {o : ObjRef} {data : Bytes}

theorem write_waits {r : Row} (h : s.dev.grants m = true) (ht : takes (keyOfObj o) data = true) (hl : lookup (keyOfObj o) = .ok r)
    (ha : r.acc = .rw) (hb : r.vol = true ∨ s.dev.storeBusy data.length = false) (hc : commitOf (keyOfObj o) = none)
    (hn : 8 + data.length ≤ bodyLimit m.iface) :
    Completes (.write m o data.length false data) s fun t =>
      t.dev.dict = { s.dev.dict with
        items := s.dev.dict.items ++ [.write ((s.dev.admitted m).ackOf m (keyOfObj o)) (keyOfObj o) (sentValue (keyOfObj o) data)] } ∧
      t.dev.out = s.dev.out ∧ Only [.hosts, .dict] (hostKeys m.slot) s t ∧ OnlySlot m.slot s t := by
  obtain ⟨r', hl', hv, hsent⟩ := row_of_takes ht
  obtain rfl : r = r' := Except.ok.inj (hl.symm.trans hl')
  obtain ⟨ho, hw⟩ := admitted_serves h
  have hbusy : (!r.vol && s.dev.storeBusy data.length) = false := by rcases hb with hb | hb <;> simp [hb]
  have hcodes : (s.dev.admitted m).writeCodes (keyOfObj o) r data = [] := by
    simp [Dev.writeCodes, hv, hw, ha, admitted_storeBusy, hbusy]
  have he := exec_write (o := o) (grants_iff.1 h).1 hn
  rw [serveWrite_taken hc ho hl (by simp [accessFault, ha]) hcodes] at he
  simp only [Dev.takeWrite, ha, ← hsent] at he
  refine ⟨_, he, ?_, waits_frame (Dev.enqueue_keeps0 _ _)⟩
  simp only [Dev.enqueue, admitted_dict]

/-- The code of the last abort is shown (05 R133). -/
theorem nat_abort_lastCode (d : Dev) (a : Ack) (code : Nat) : (d.abort a code).nat Key.lastAbortCode = code := by
  rw [Dev.abort, Dev.nat_answer, Dev.noteAbort, Dev.nat_bump_other _ _ (by decide), Dev.nat_putNat_other _ _ (by decide),
    Dev.nat_putNat_other _ _ (by decide), Dev.nat_putNat]

/-- A host that is not the owner writes nothing (06 R152). -/
theorem write_notOwner (h : s.dev.hears m = true) (ho : s.dev.ownerNext ≠ some m.slot) (hs : stopClass (keyOfObj o) = false)
    (hn : 8 + data.length ≤ bodyLimit m.iface) :
    let code := if s.dev.ownerNext = none then Code.noOwner else Code.notOwner
    Completes (.write m o data.length false data) s fun t =>
      t.dev.nat Key.lastAbortCode = code ∧
      Served m (.abort code (keyOfObj o)) [] [Key.lastAbortCode, Key.lastAbortObject, Key.lastAbortHost, Key.abortCount] s t := by
  intro code
  have hf : (s.dev.admitted m).ownerFault m.slot = some code := by
    rw [admitted_ownerFault]
    unfold Dev.ownerFault
    cases hx : s.dev.ownerNext with
    | none => simp [code, hx]
    | some x =>
      have hne : x ≠ m.slot := fun e => ho (by rw [hx, e])
      simp [code, hx, hne]
  have hserve : (s.dev.admitted m).serveWrite ((s.dev.admitted m).ackOf m (keyOfObj o)) (keyOfObj o) data =
      (s.dev.admitted m).abort ((s.dev.admitted m).ackOf m (keyOfObj o)) code := by
    have hslot : ((s.dev.admitted m).ackOf m (keyOfObj o)).slot = m.slot := rfl
    unfold Dev.serveWrite
    cases commitOf (keyOfObj o) with
    | none => simp [hs, hslot, hf]
    | some g => simp [Dev.commitServe, hslot, hf]
  have he := exec_write (o := o) h hn
  rw [hserve] at he
  refine ⟨_, he, ?_, served_abort_nil _ _ h⟩
  exact nat_abort_lastCode _ _ _

end

/-! ### Publish lists (05 R131, R132) -/

theorem carries_of_ifaceUp {d : Dev} {i : Iface} (h : d.ifaceUp i = true) {n : Nat} (hn : n ≤ bodyLimit i) : d.carries i n = true := by
  cases i <;> simp only [Dev.ifaceUp, Bool.and_eq_true, Dev.carries, Bool.or_eq_true, decide_eq_true_eq, bodyLimit] at *
  · exact ⟨h.1.1.2, .inr ⟨hn, h.2⟩⟩
  · exact ⟨h.1.2, .inl (by decide)⟩
  · exact ⟨h.1.2, .inl (by decide)⟩

/-- The message a slot is sent next. -/
def Dev.sent (d : Dev) (x : SlotId) (i : Iface) (via : Via) (reqId : Byte) (r : HostReply) : Out :=
  .host x i reqId ((d.slot x).txSeq + 1) true r via (fdpWire ((d.slot x).sessionKey.getD []) x i reqId ((d.slot x).txSeq + 1) true r)

theorem send_carried {d : Dev} {i : Iface} {r : HostReply} (h : d.carries i (replyParts r).2.2.2.2.length = true) (x : SlotId) (via : Via)
    (reqId : Byte) : d.send x i via reqId r = (d.setSlot x fun h => { h with txSeq := (d.slot x).txSeq + 1 }).say (d.sent x i via reqId r) := by
  rw [Dev.send, Dev.transmit_carried _ _ _ _ _ (show (d.setSlot x _).carries i _ = true from h)]
  rfl

section
variable (d : Dev) (n : Fin 16) (f : PublishList → PublishList)

theorem lists_setList_same : (d.setList n f).dict.lists[n] = f d.dict.lists[n] := by
  simp [Dev.setList, vmod]

theorem lists_setList_other {q : Fin 16} (h : q ≠ n) : (d.setList n f).dict.lists[q] = d.dict.lists[q] :=
  vmod_other _ _ h

end

/-- A list whose destination holds no registered host is paused. -/
theorem publish_paused {s : State} {n : Fin 16} (hu : s.dev.sequencerUp = true) (hd : s.dev.listDue n (s.seen.publishBytes n) = true)
    (hs : s.dev.listSlot n = none) :
    Completes (.publish n) s fun t =>
      (t.dev.dict.lists[n]).waiting = none ∧ (t.dev.dict.lists[n]).counter = (s.dev.dict.lists[n]).counter ∧
      (∀ q : Fin 16, q ≠ n → t.dev.dict.lists[q] = s.dev.dict.lists[q]) ∧ Only [.dict] [] s t := by
  have he : ∃ f : PublishList → PublishList, (∀ l, (f l).waiting = none ∧ (f l).counter = l.counter) ∧
      s.dev.publish n (s.seen.publishBytes n) = s.dev.setList n f := by
    simp only [Dev.publish, hu, hd, hs, Bool.not_true, Bool.false_eq_true, or_self, if_false]
    refine ⟨_, ?_, rfl⟩
    exact fun _ => ⟨rfl, rfl⟩
  obtain ⟨f, hf, he⟩ := he
  refine ⟨_, rfl, ?_, ?_, fun q hq => ?_, ?_⟩
  · simp only [he, lists_setList_same, hf]
  · simp only [he, lists_setList_same, hf]
  · simp only [he, lists_setList_other _ _ _ hq]
  · rw [he]
    exact (Dev.setList_keeps0 _ _ _).only (by decide) fun _ _ => rfl

theorem publish_body (n c : Nat) (vals : Bytes) : (replyParts (.publish n c vals)).2.2.2.2.length = 4 + vals.length := by
  simp [replyParts, length_leBytes]
  omega

/-- A device whose hosts differ in one slot only. -/
theorem onlySlot_of_hosts {s : State} {e : Dev} {x : SlotId} {f : HostSlot → HostSlot} (h : e.hosts = (s.dev.setSlot x f).hosts) :
    OnlySlot x s { s with dev := e } := by
  have hs : ∀ q, e.slot q = (s.dev.setSlot x f).slot q := fun q => by simp only [Dev.slot, h]
  refine ⟨fun q hq => (hs q).trans (Dev.slot_setSlot_other _ _ hq), ?_⟩
  rw [h]
  exact ⟨rfl, rfl, rfl, rfl, rfl⟩

/-- A message of a list that its interface carries goes out under the next counter. -/
theorem sendList_carried {d : Dev} {n : Fin 16} {x : SlotId} {vals : Bytes} (hi : d.ifaceUp (d.slot x).lastIface = true)
    (hn : 4 + vals.length ≤ bodyLimit (d.slot x).lastIface) :
    d.sendList n x vals =
      (((d.setSlot x fun h => { h with txSeq := (d.slot x).txSeq + 1 }).say (d.sent x (d.slot x).lastIface (d.viaOf (d.slot x).lastIface (0x20 + x)
        (d.slot x).peers[ifaceNum (d.slot x).lastIface]) 0 (.publish n (d.dict.lists[n]).counter vals))).setList n fun l => { l with
          waiting := none, counter := ((d.dict.lists[n]).counter + 1) % 0x10000 }).bump (Key.sentCount n) := by
  have hb : ¬ bodyLimit (d.slot x).lastIface < 4 + vals.length := by omega
  simp only [Dev.sendList, hb, if_false]
  rw [send_carried (carries_of_ifaceUp hi (by rw [publish_body]; exact hn))]

/-- A list that is due, with nothing waiting and its interface up, sends its message. -/
theorem publish_due {s : State} {n : Fin 16} {x : SlotId} (hu : s.dev.sequencerUp = true)
    (hd : s.dev.listDue n (s.seen.publishBytes n) = true) (hs : s.dev.listSlot n = some x) (hw : (s.dev.dict.lists[n]).waiting = none)
    (hi : s.dev.ifaceUp (s.dev.slot x).lastIface = true) :
    ∃ f : PublishList → PublishList, (∀ l, (f l).counter = l.counter) ∧
      s.dev.publish n (s.seen.publishBytes n) = (s.dev.setList n f).sendList n x (s.seen.publishBytes n) := by
  simp only [Dev.publish, hu, hd, hs, hw, Bool.not_true, Bool.false_eq_true, or_self, if_false, Option.isSome_none]
  exact ⟨fun l => { l with lastSent := some _, dueAt := some _, period := some _ }, fun _ => rfl, if_pos hi⟩

/-- Settles O17: reads, with and without the staged view, writes of the owner and of others, and lists that are due. -/
theorem objectsAreReadWrittenAndPublished : Obligations.ObjectsAreReadWrittenAndPublished := by
  unfold Obligations.ObjectsAreReadWrittenAndPublished
  refine ⟨fun s m o h hc hd ha hn => read_one false h hc hd ha hn, fun s m o g v r h hc hd ha hg hf hl hn => ?_,
    fun s m o r data h ht hl ha hb hc hn => write_waits h ht hl ha hb hc hn, fun s m o data h ho hs hn => write_notOwner h ho hs hn,
    fun s n x hu hd hs hw hi hn => ?_, fun s n hu hd hs => publish_paused hu hd hs⟩
  · have hv : s.seen.readValue true (keyOfObj o) = r.ty.encode v := by simp [Dev.readValue, hg, hf, hl]
    rw [← hv] at hn ⊢
    exact read_one true h hc hd ha hn
  · obtain ⟨f, hf, he⟩ := publish_due hu hd hs hw hi
    have hc : ((s.dev.setList n f).dict.lists[n]).counter = (s.dev.dict.lists[n]).counter := by rw [lists_setList_same, hf]
    rw [sendList_carried (d := s.dev.setList n f) hi hn, hc] at he
    intro h i message
    refine ⟨_, rfl, ?_, ?_, ?_, fun q hq => ?_, ?_, ?_⟩
    · rw [he, Dev.bump_out]
      rfl
    · simp only [he, Dev.bump_dict, lists_setList_same]
    · rw [he, Dev.nat_bump]
      rfl
    · simp only [he, Dev.bump_dict]
      exact (lists_setList_other _ _ _ hq).trans (lists_setList_other _ _ _ hq)
    · rw [he]
      exact onlySlot_of_hosts (f := fun h => { h with txSeq := (s.dev.slot x).txSeq + 1 }) (Dev.bump_hosts _ _ _)
    · rw [he]
      refine Keeps.only (M := 6150) ?_ (by decide) fun k hk => ?_
      · simp (maxDischargeDepth := 99)
      · rw [List.mem_singleton] at hk
        exact (Dev.val_bump_other _ _ (Ne.symm hk)).trans rfl

end Sys2Proof.Machine
end

section
/-! PROOFS. Power states, rails and resets (03 R62 to R77). -/

namespace Sys2Proof.Machine

/-! ### The states that rails and inputs lead to (03 R62, R65, R75, R77) -/

section
variable {s : State}

theorem only_power {v : Power} : Only [.power] [] s { s with dev := { s.dev with power := v } } :=
  (keeps_power v (L := 1024) (by decide) (.refl _ s.dev)).only (by decide) fun _ _ => rfl

theorem only_withPower {e : Dev} {v : Power} {keys : List Nat} (h : Keeps 4 s.dev e) (hk : ∀ k, k ∉ keys → e.val k = s.dev.val k) :
    Only [.power] keys s { s with dev := { e with power := v } } :=
  (keeps_power v (L := 1028) (by decide) (h.mono (by decide))).only (by decide) hk

/-- Every rail as given, and VBAT as it was. -/
theorem rail_set_vbat (d : Dev) (b : Bool) (r : Rail) :
    ((Vector.replicate 9 b).set (8 : Fin 9) (d.rail .vbat) : Vector Bool 9)[railNum r] = if r = .vbat then d.rail .vbat else b := by
  cases r <;> simp [railNum]

/-- A reset's cause, rail and time. -/
def Dev.resetNoted (d : Dev) (cause rail : Nat) (t : Nat) : Dev := ((d.putNat Key.resetCause cause).putNat Key.resetRail rail).putNat Key.resetTime t

theorem resetNoted_nat (d : Dev) (cause rail t : Nat) :
    (d.resetNoted cause rail t).nat Key.resetCause = cause ∧ (d.resetNoted cause rail t).nat Key.resetRail = rail := by
  constructor
  · rw [Dev.resetNoted, Dev.nat_putNat_other _ _ (by decide), Dev.nat_putNat_other _ _ (by decide), Dev.nat_putNat]
  · rw [Dev.resetNoted, Dev.nat_putNat_other _ _ (by decide), Dev.nat_putNat]

theorem resetNoted_val (d : Dev) (cause rail t : Nat) {k : Nat} (h : k ∉ [Key.resetCause, Key.resetRail, Key.resetTime]) :
    (d.resetNoted cause rail t).val k = d.val k := by
  simp only [List.mem_cons, List.not_mem_nil, or_false, not_or] at h
  obtain ⟨h1, h2, h3⟩ := h
  rw [Dev.resetNoted, Dev.val_putNat_other _ _ (Ne.symm h3), Dev.val_putNat_other _ _ (Ne.symm h2), Dev.val_putNat_other _ _ (Ne.symm h1)]

theorem resetNoted_keeps (d : Dev) (cause rail t : Nat) : Keeps 4 d (d.resetNoted cause rail t) := by
  unfold Dev.resetNoted
  simp (maxDischargeDepth := 99)

/-- A frame speaks of the memory apart. -/
theorem only_withoutMem {e : Dev} {m : Memory} {parts : List Part} {keys : List Nat} (h : Only parts keys s { s with dev := e }) :
    Only parts keys s { ({ s with mem := m, dev := e } : State) with mem := s.mem } := h

/-- The device with every main rail good. -/
def Dev.railsUp (d : Dev) : Dev := { d with power := { d.power with railGood := (Vector.replicate 9 true).set (8 : Fin 9) (d.rail .vbat) } }

/-- With the rails good the device starts, or stands in reset while RESET_N is low. -/
def Dev.startOrStand (d : Dev) : Dev :=
  if d.power.resetN then d.enterStarting
  else { d with power := { d.power with state := .shutdown, shutdownStep := 5, resetWaiting := true, railLeft := false } }

theorem railsGood_eq {d : Dev} (h : d.power.tripped = none) : d.railsGood = (d.railsUp.resetNoted 0 0 d.railsUp.nowUs).startOrStand := by
  simp only [Dev.railsGood, h, Dev.railsUp, Dev.resetNoted, Dev.startOrStand]

theorem startOrStand_nat (d : Dev) (k : Nat) : d.startOrStand.nat k = d.nat k := by
  unfold Dev.startOrStand
  split <;> rfl

theorem startOrStand_keeps (d : Dev) : Keeps 1024 d d.startOrStand := by
  unfold Dev.startOrStand Dev.enterStarting
  simp (maxDischargeDepth := 99) [Keeps.ite]

theorem startOrStand_rail (d : Dev) (r : Rail) : d.startOrStand.rail r = d.rail r := by
  unfold Dev.startOrStand
  split <;> rfl

theorem startOrStand_state (d : Dev) : d.startOrStand.power.state = (if d.power.resetN then .starting else .shutdown) ∧
    d.startOrStand.powered = d.power.resetN := by
  unfold Dev.startOrStand
  cases h : d.power.resetN <;> exact ⟨rfl, rfl⟩

theorem railsUp_rail (d : Dev) (r : Rail) : d.railsUp.rail r = (d.rail r || decide (r ≠ .vbat)) := by
  refine (rail_set_vbat d true r).trans ?_
  by_cases hv : r = .vbat <;> simp [hv]

theorem railsUp_keeps (d : Dev) : Keeps 1024 d d.railsUp := by
  unfold Dev.railsUp
  simp (maxDischargeDepth := 99)

theorem mainRailsGood_leaves {s : State} (hs : s.dev.power.state = .off ∨ s.dev.power.state = .vbatSleep ∨
      (s.dev.power.state = .shutdown ∧ s.dev.power.shutdownStep = 5 ∧ s.dev.power.railLeft = true)) (ht : s.dev.power.tripped = none) :
    Completes .mainRailsGood s fun t =>
      t.dev.power.state = (if s.dev.power.resetN then .starting else .shutdown) ∧ t.dev.powered = s.dev.power.resetN ∧
      (∀ r, t.dev.rail r = (s.dev.rail r || decide (r ≠ .vbat))) ∧ t.dev.nat Key.resetCause = 0 ∧ t.dev.nat Key.resetRail = 0 ∧
      t.mem = s.mem.stores ∧ t.pending = s.pending ∧
      Only [.power] [Key.resetCause, Key.resetRail, Key.resetTime] s { t with mem := s.mem } := by
  obtain ⟨e, he⟩ : ∃ e, e = s.dev.railsUp.resetNoted 0 0 s.dev.railsUp.nowUs := ⟨_, rfl⟩
  have hk : Keeps 4 s.dev.railsUp e := he ▸ resetNoted_keeps s.dev.railsUp 0 0 s.dev.railsUp.nowUs
  have hp : e.power = s.dev.railsUp.power := hk.get_power rfl
  obtain ⟨hst, hpow⟩ := startOrStand_state e
  have hres : e.power.resetN = s.dev.power.resetN := by rw [hp]; rfl
  have hv : ∀ k, k ∉ [Key.resetCause, Key.resetRail, Key.resetTime] → e.val k = s.dev.val k := fun k hn =>
    (he ▸ resetNoted_val s.dev.railsUp 0 0 s.dev.railsUp.nowUs hn).trans (by simp only [Dev.val, (railsUp_keeps _).get_obj rfl])
  obtain ⟨h1, h2⟩ := he ▸ resetNoted_nat s.dev.railsUp 0 0 s.dev.railsUp.nowUs
  have hexec : exec .mainRailsGood s = .next { s with mem := s.mem.stores, dev := e.startOrStand } := by
    show execMainRailsGood s = _
    rw [execMainRailsGood, if_pos hs, railsGood_eq ht, he]
  refine ⟨_, hexec, ?_, ?_, fun r => ?_, (startOrStand_nat _ _).trans h1, (startOrStand_nat _ _).trans h2, rfl, rfl, ?_⟩
  · exact hst.trans (by rw [hres])
  · exact hpow.trans hres
  · have hr : e.rail r = s.dev.railsUp.rail r := by simp only [Dev.rail, hp]
    exact (startOrStand_rail e r).trans (hr.trans (railsUp_rail _ r))
  · refine only_withoutMem (Keeps.only (M := 1028) ((railsUp_keeps _).mono (by decide) |>.trans (hk.mono (by decide)) |>.trans ((startOrStand_keeps _).mono (by decide)))
      (by decide) fun k hn => ?_)
    have : e.startOrStand.val k = e.val k := by simp only [Dev.val, (startOrStand_keeps e).get_obj rfl]
    exact this.trans (hv k hn)

theorem mainRailsDown_leaves {s : State} (hp : s.dev.powered = false) :
    Completes .mainRailsDown s fun t =>
      t.dev.power.state = (if s.dev.power.vbatDown then .off else .vbatSleep) ∧
      t.dev.power.vbatLost = (s.dev.power.vbatLost || s.dev.power.vbatDown) ∧
      (∀ r, t.dev.rail r = (s.dev.rail r && decide (r = .vbat))) ∧ Only [.power] [] s t := by
  have he : exec .mainRailsDown s = .next { s with dev := { s.dev with power := { s.dev.power with
      state := s.dev.asleep, shutdownStep := 0, pfw := false, resetWaiting := false, railLeft := false
      railGood := (Vector.replicate 9 false).set (8 : Fin 9) (s.dev.rail .vbat), vbatLost := s.dev.power.vbatLost || s.dev.power.vbatDown } } } := by
    show State.onDev s _ = _
    rw [State.onDev, Dev.mainRailsDown, if_neg (by simp [hp])]
  refine ⟨_, he, rfl, rfl, fun r => ?_, only_power⟩
  refine (rail_set_vbat s.dev false r).trans ?_
  by_cases hv : r = .vbat <;> simp [hv]

theorem startAgain_leaves {s : State} {e : Dev} {v : Power} (he : e = { s.dev with power := v }) (hm : e.mainGood = s.dev.mainGood) :
    e.startAgain.power.resetN = v.resetN ∧ e.startAgain.power.pfw = (if v.resetN && s.dev.mainGood then false else v.pfw) ∧
      e.startAgain.power.state = (if v.resetN && s.dev.mainGood then .starting else v.state) ∧ Only [.power] [] s { s with dev := e.startAgain } := by
  subst he
  unfold Dev.startAgain
  rw [hm]
  cases hc : v.resetN && s.dev.mainGood
  · rw [if_neg (by simp)]
    exact ⟨rfl, rfl, rfl, only_power⟩
  · rw [if_pos (by simp)]
    exact ⟨rfl, rfl, rfl, only_power⟩

end

/-- RESET_N is low. -/
def Dev.resetNDown (d : Dev) : Dev := { d with power := { d.power with resetN := false } }

/-- From 10 µs on the reset is taken (03 R75). -/
theorem resetNLow_long (d : Dev) {us : Nat} (h : 10 ≤ us) : d.resetNLow us =
    if d.resetNDown.power.state = .shutdown ∨ (!d.resetNDown.powered) = true then d.resetNDown
    else (if d.resetNDown.running .heartwood = true then d.resetNDown.general .externalReset else d.resetNDown).beginShutdown 2 := by
  have h1 : ¬ us < 1 := by omega
  have h2 : ¬ us < 10 := by omega
  simp only [Dev.resetNLow, Dev.resetNDown, h, h1, h2, and_false, if_false, decide_true, decide_false, Bool.true_or, Bool.not_true,
    Bool.false_eq_true, or_self]
  rfl

/-- Settles O18: the power states that rails, RESET_N, VBAT and the end of a power failure lead to. -/
theorem powerStatesFollowTheRails : Obligations.PowerStatesFollowTheRails := by
  unfold Obligations.PowerStatesFollowTheRails
  intro moved
  refine ⟨fun s hs ht => mainRailsGood_leaves hs ht, fun s hp => mainRailsDown_leaves hp, fun s => ⟨_, rfl, rfl, only_power⟩, fun s => ?_,
    fun s h1 h2 h3 => ?_, fun s => ⟨_, rfl, rfl⟩, fun s us hu hp => ?_⟩
  · obtain ⟨hr, -, hst, ho⟩ := startAgain_leaves (s := s) (v := { s.dev.power with resetN := true }) rfl rfl
    by_cases hc : s.dev.power.state = .shutdown ∧ s.dev.power.shutdownStep = 5 ∧ s.dev.power.pfw = false ∧ s.dev.power.railLeft = false
    · have he : s.dev.resetNHigh = Dev.startAgain { s.dev with power := { s.dev.power with resetN := true } } := if_pos (by simpa using hc)
      refine ⟨_, rfl, ?_⟩
      rw [he]
      refine ⟨hr, hst.trans ?_, ho⟩
      cases hm : s.dev.mainGood <;> simp [hc]
    · have he : s.dev.resetNHigh = { s.dev with power := { s.dev.power with resetN := true } } := if_neg (by simpa using hc)
      refine ⟨_, rfl, ?_⟩
      rw [he]
      refine ⟨rfl, ?_, only_power⟩
      rw [if_neg fun h => hc ⟨h.1, h.2.1, h.2.2.1, h.2.2.2.1⟩]
  · obtain ⟨-, hp, hst, ho⟩ := startAgain_leaves (s := s) (v := { s.dev.power with pfw := false }) rfl rfl
    have hc : s.dev.power.state = .shutdown ∧ s.dev.power.shutdownStep = 5 ∧ s.dev.power.pfw = true := ⟨h1, h2, h3⟩
    cases hl : s.dev.power.railLeft
    · have he : s.dev.pfwRecovery = Dev.startAgain { s.dev with power := { s.dev.power with pfw := false } } := by
        simp only [Dev.pfwRecovery, hc, and_self, if_true, hl, Bool.false_eq_true, if_false]
      refine ⟨_, rfl, ?_⟩
      rw [he]
      refine ⟨hp.trans (by simp), hst.trans ?_, ho⟩
      cases hm : s.dev.mainGood <;> simp [h1]
    · have he : s.dev.pfwRecovery = { s.dev with power := { s.dev.power with pfw := false } } := by
        simp only [Dev.pfwRecovery, hc, and_self, if_true, hl]
      refine ⟨_, rfl, ?_⟩
      rw [he]
      exact ⟨rfl, by simp [h1], only_power⟩
  · have he : s.dev.resetNLow us = s.dev.resetNDown := by
      rw [resetNLow_long s.dev hu]
      refine if_pos ?_
      rcases hp with hp | hp
      · exact .inr (congrArg (!·) hp)
      · exact .inl hp
    refine ⟨_, rfl, ?_⟩
    rw [he]
    exact ⟨rfl, only_power⟩

end Sys2Proof.Machine
end

section
/-! PROOFS. Resets without a final commit (03 R63, R71). -/

namespace Sys2Proof.Machine

/-- What a reset leaves: the parts that stores, fuses and VBAT hold, and all else as after power-on. -/
structure ResetLeft (d : Dev) (st : PowerState) (step : Nat) (e : Dev) : Prop where
  power : e.power = { d.power with state := st, shutdownStep := step, bootStep := 0, finalDone := false, pfwN := true, memBackAt := none, startAlarm := none }
  log : e.heart.log = d.heart.log ∧ e.heart.general = d.heart.general ∧ e.heart.records = d.heart.records ∧
    e.heart.sealedPart = d.heart.sealedPart ∧ e.heart.lockLatch = d.heart.lockLatch
  energy : e.energy = { Dev.reset.energy with slots := d.energy.slots, number := d.energy.number }
  tariff : e.tariff.sets = d.tariff.sets ∧ e.tariff.journal = d.tariff.journal ∧ e.tariff.snaps = d.tariff.snaps ∧
    e.tariff.profile = d.tariff.profile ∧ e.tariff.history = d.tariff.history
  ledger : e.ledger.accounts = d.ledger.accounts ∧ e.ledger.tokens = d.ledger.tokens ∧ e.ledger.memory = d.ledger.memory ∧
    e.ledger.index = d.ledger.index
  burl : e.burl.slots = d.burl.slots ∧ e.burl.cells = d.burl.cells
  images : e.update.images = d.update.images
  dict : e.dict.groups = Dev.reset.dict.groups ∧ e.dict.items = []
  hosts : e.hosts.slots = Dev.reset.hosts.slots
  mail : e.mail = Dev.reset.mail
  crossings : e.crossings = Dev.reset.crossings
  ports : e.ports = Dev.reset.ports
  modules : e.modules = Dev.reset.modules
  metro : e.metro = Dev.reset.metro
  cvu : e.cvu = Dev.reset.cvu

theorem ResetLeft.mono {d e f : Dev} {st : PowerState} {step : Nat} (h : ResetLeft d st step e) (hk : Keeps 4 e f) : ResetLeft d st step f := by
  obtain ⟨h1, h2, h3, h4, h5, h6, h7, h8, h9, h10, h11, h12, h13, h14, h15⟩ := h
  constructor
  all_goals simp only [hk.get_power rfl, hk.get_heart rfl, hk.get_energy rfl, hk.get_tariff rfl, hk.get_ledger rfl, hk.get_burl rfl,
    hk.get_update rfl, hk.get_dict rfl, hk.get_hosts rfl, hk.get_mail rfl, hk.get_crossings rfl, hk.get_ports rfl, hk.get_modules rfl,
    hk.get_metro rfl, hk.get_cvu rfl]
  all_goals assumption

theorem resetTo_left (d : Dev) (st : PowerState) (step : Nat) (journal : Bool) : ResetLeft d st step (d.resetTo st step journal) ∧
    (d.resetTo st step journal).dict.stored = d.storedAfter journal := by
  have h : ∃ e, (ResetLeft d st step e ∧ e.dict.stored = d.storedAfter journal) ∧ Keeps 4 e (d.resetTo st step journal) := by
    unfold Dev.resetTo
    refine ⟨_, ?_, Dev.putNat_keeps _ _ _ (by decide) (Keeps.foldl _ (Dev.putAll_keeps _ _ (by decide) (.refl _ _)) fun e i he =>
      Dev.putNat_keeps _ _ _ (by decide) (Dev.putNat_keeps _ _ _ (by decide) he))⟩
    exact ⟨⟨rfl, ⟨rfl, rfl, rfl, rfl, rfl⟩, rfl, ⟨rfl, rfl, rfl, rfl, rfl⟩, ⟨rfl, rfl, rfl, rfl⟩, ⟨rfl, rfl⟩, rfl, ⟨rfl, rfl⟩, rfl, rfl, rfl,
      rfl, rfl, rfl, rfl⟩, rfl⟩
  obtain ⟨e, ⟨he, hd⟩, hk⟩ := h
  exact ⟨he.mono hk, by rw [hk.get_dict rfl, hd]⟩

/-- The device as its rail has tripped: reset, asleep, with the rail noted (03 R63). -/
def Dev.tripped (d : Dev) (r : Rail) : Dev :=
  let e := d.resetTo d.asleep 0 false
  { e with power := { e.power with tripped := some (railNum r), pfw := false } }

theorem railReset_eq (d : Dev) (r : Rail) : d.railReset r = (d.tripped r).resetNoted 3 (if r = .vddCore then 1 else 2) d.nowUs := rfl

theorem asleep_not_powered {d : Dev} (h : d.power.state = .off ∨ d.power.state = .vbatSleep) : d.powered = false := by
  unfold Dev.powered
  rcases h with h | h <;> rw [h]

theorem asleep_cases (d : Dev) : d.asleep = .off ∨ d.asleep = .vbatSleep := by
  unfold Dev.asleep
  split
  · exact .inl rfl
  · exact .inr rfl

theorem railMonitorTrip_reset {d : Dev} {r : Rail} (hr : r = .vddCore ∨ r = .vddIo) (hp : d.powered = true) (hg : d.rail r = true) :
    d.railMonitorTrip r = (d.setRail r false).railReset r := by
  have hp' : (d.setRail r false).powered = true := hp
  rcases hr with rfl | rfl <;> simp [Dev.railMonitorTrip, hp, hg, hp']

/-- Settles O20: what a fall of VDD_CORE or VDD_IO leaves of the device. -/
theorem resetsKeepOnlyWhatIsStored : Obligations.ResetsKeepOnlyWhatIsStored := by
  unfold Obligations.ResetsKeepOnlyWhatIsStored
  intro s r hr hp hg
  obtain ⟨d, hd⟩ : ∃ d, d = s.dev.setRail r false := ⟨_, rfl⟩
  have hdk : Keeps 1024 s.dev d := hd ▸ Dev.setRail_keeps0 _ _ _
  obtain ⟨left, hstored⟩ := resetTo_left d d.asleep 0 false
  obtain ⟨e, he⟩ : ∃ e, e = (d.tripped r).resetNoted 3 (if r = .vddCore then 1 else 2) d.nowUs := ⟨_, rfl⟩
  have hexec : exec (.railMonitorTrip r) s = .next { s with dev := e } := by
    show State.onDev s _ = _
    rw [State.onDev, railMonitorTrip_reset hr hp hg, railReset_eq, he, hd]
  have hnote : Keeps 4 (d.tripped r) e := he ▸ resetNoted_keeps _ _ _ _
  have hk : Keeps 1028 (d.resetTo d.asleep 0 false) e :=
    ((keeps_power _ (by decide) (.refl _ _) : Keeps 1024 _ (d.tripped r)).mono (by decide)).trans (hnote.mono (by decide))
  have hpower : e.power = { (d.resetTo d.asleep 0 false).power with tripped := some (railNum r), pfw := false } := hnote.get_power rfl
  have hstate : e.power.state = d.asleep := by rw [hpower, left.power]
  have hrail : e.rail r = false := by
    rw [Dev.rail, hpower, left.power, hd]
    simp [Dev.setRail]
  have hasleep : d.asleep = if s.dev.power.vbatDown then .off else .vbatSleep := by rw [hd]; rfl
  obtain ⟨hcause, hrrail⟩ := resetNoted_nat (d.tripped r) 3 (if r = .vddCore then 1 else 2) d.nowUs
  rw [← he] at hcause hrrail
  have hpowered : e.powered = false := asleep_not_powered (hstate ▸ asleep_cases d)
  have hreset : State.reset.dev = Dev.reset := rfl
  refine ⟨_, hexec, hstate.trans hasleep, hrail, hpowered, hcause, hrrail, ?_⟩
  rw [hreset]
  simp only [hk.get_heart rfl, hk.get_energy rfl, hk.get_tariff rfl, hk.get_ledger rfl, hk.get_burl rfl, hk.get_update rfl, hk.get_dict rfl,
    hk.get_hosts rfl, hk.get_mail rfl, hk.get_crossings rfl, hk.get_ports rfl, hk.get_modules rfl, hk.get_metro rfl, hk.get_cvu rfl,
    ← hdk.get_heart rfl, ← hdk.get_energy rfl, ← hdk.get_tariff rfl, ← hdk.get_ledger rfl, ← hdk.get_burl rfl, ← hdk.get_update rfl,
    ← hdk.get_dict rfl]
  exact ⟨left.log, by simp [left.energy], left.tariff, left.ledger, left.burl.1, left.burl.2, left.images, hstored,
    ⟨left.hosts, left.mail, left.crossings, left.ports, left.modules, left.metro, left.cvu, left.dict.1, left.dict.2, by rw [left.energy]; rfl,
      by rw [left.energy]; rfl⟩, trivial, trivial⟩

end Sys2Proof.Machine
end

section
/-! PROOFS. Ownership (06 R152 to R155). -/

namespace Sys2Proof.Machine

/-! ### Ownership messages -/

theorem flag_of_val {d e : Dev} {k : Nat} (h : e.val k = d.val k) : e.flag k = d.flag k := by
  unfold Dev.flag Dev.int
  rw [h]

theorem nat_of_val {d e : Dev} {k : Nat} (h : e.val k = d.val k) : e.nat k = d.nat k := by
  unfold Dev.nat Dev.int
  rw [h]

theorem admitted_nowMs (d : Dev) (m : HostMsg) : (d.admitted m).nowMs = d.nowMs := by
  unfold Dev.nowMs
  rw [admitted_dict]

theorem admitted_claimTaken (d : Dev) (m : HostMsg) (x : SlotId) : claimTaken (d.admitted m) x = claimTaken d x := by
  have hk : Key.claimAllowed x ∉ hostKeys m.slot := by
    have h1 := x.isLt
    have h2 := m.slot.isLt
    simp only [hostKeys, Key.claimAllowed, Key.activeInterfaces, Key.hostLastSeen, Key.rxCount, ob, List.mem_cons, List.not_mem_nil, or_false]
    omega
  unfold claimTaken
  rw [flag_of_val (Dev.val_admitted _ _ hk), Dev.admitted_ownership, admitted_nowMs]

section
variable {s : State} {m : HostMsg}

/-- An ownership message of a sound body is served, with the request of its message. -/
theorem ownershipRequest_heard {d : Dev} (h : d.hears m = true) (hr : d.roleBlocked = none) (serve : Ack → Dev → Dev) :
    ownershipRequest m true serve d = serve ((d.admitted m).ackOf m 0) (d.admitted m) := by
  have hr' : (d.admitted m).roleBlocked = none := by rw [Dev.roleBlocked, admitted_dict]; exact hr
  simp only [ownershipRequest, hostRequest_heard h, Bool.not_true, Bool.false_eq_true, if_false, hr']

/-- An ownership message that is refused. -/
theorem ownership_refused (h : s.dev.hears m = true) (code : Nat) :
    ((s.dev.admitted m).abort ((s.dev.admitted m).ackOf m 0) code).nat Key.lastAbortCode = code ∧
      Served m (.abort code 0) [] [Key.lastAbortCode, Key.lastAbortObject, Key.lastAbortHost, Key.abortCount] s
        { s with dev := (s.dev.admitted m).abort ((s.dev.admitted m).ackOf m 0) code } :=
  ⟨nat_abort_lastCode _ _ _, served_abort_nil _ _ h⟩

/-- An ownership message that waits for the boundary. -/
theorem ownership_waits (x : TickItem) :
    ((s.dev.admitted m).enqueue x).dict = { s.dev.dict with items := s.dev.dict.items ++ [x] } ∧
      ((s.dev.admitted m).enqueue x).out = s.dev.out ∧ Only [.dict, .hosts] (hostKeys m.slot) s { s with dev := (s.dev.admitted m).enqueue x } ∧
      OnlySlot m.slot s { s with dev := (s.dev.admitted m).enqueue x } := by
  obtain ⟨ho, ⟨h1, h2, h3, h4, h5⟩, hs⟩ := waits_frame (s := s) (m := m) (Dev.enqueue_keeps0 (s.dev.admitted m) x)
  refine ⟨by simp only [Dev.enqueue, admitted_dict], ho, ⟨h1, h2, h3, fun p hp hn => h4 p hp ?_, h5⟩, hs⟩
  simp only [List.mem_cons, List.not_mem_nil, or_false, not_or] at hn ⊢
  exact ⟨hn.2, hn.1⟩

theorem ownerFault_cases (d : Dev) (x : SlotId) :
    d.ownerFault x = if d.ownerNext = some x then none else some (if d.ownerNext = none then Code.noOwner else Code.notOwner) := by
  unfold Dev.ownerFault
  cases d.ownerNext <;> simp

theorem claim_sent (h : s.dev.hears m = true) (hr : s.dev.roleBlocked = none) :
    exec (.ownershipClaim m []) s = .next { s with
      dev := if claimTaken s.dev m.slot then (s.dev.admitted m).enqueue (.claim ((s.dev.admitted m).ackOf m 0))
        else (s.dev.admitted m).abort ((s.dev.admitted m).ackOf m 0) Code.claimRefused } := by
  show State.onDev s _ = _
  rw [State.onDev, show (([] : Bytes) == []) = true from rfl, ownershipRequest_heard h hr, ownershipClaim]
  simp only [Dev.ackOf, admitted_claimTaken]

theorem release_sent (h : s.dev.hears m = true) (hr : s.dev.roleBlocked = none) :
    exec (.ownershipRelease m []) s = .next { s with
      dev := if s.dev.ownerNext = some m.slot then (s.dev.admitted m).enqueue (.release ((s.dev.admitted m).ackOf m 0))
        else (s.dev.admitted m).abort ((s.dev.admitted m).ackOf m 0) (if s.dev.ownerNext = none then Code.noOwner else Code.notOwner) } := by
  show State.onDev s _ = _
  rw [State.onDev, show (([] : Bytes) == []) = true from rfl, ownershipRequest_heard h hr, ownershipRelease]
  simp only [Dev.ackOf, ownerFault_cases, admitted_ownerNext]
  by_cases ho : s.dev.ownerNext = some m.slot <;> simp only [ho, if_true, if_false]

theorem offer_refused (h : s.dev.hears m = true) (hr : s.dev.roleBlocked = none) (ho : s.dev.ownerNext ≠ some m.slot) (b : Byte) :
    exec (.handoverOffer m [b]) s = .next { s with
      dev := (s.dev.admitted m).abort ((s.dev.admitted m).ackOf m 0) (if s.dev.ownerNext = none then Code.noOwner else Code.notOwner) } := by
  show State.onDev s _ = _
  rw [State.onDev, show ([b].length == 1) = true from rfl, ownershipRequest_heard h hr, handoverOffer]
  simp only [Dev.ackOf, ownerFault_cases, admitted_ownerNext, ho, if_false]

theorem offer_sent (h : s.dev.hears m = true) (hr : s.dev.roleBlocked = none) (ho : s.dev.ownerNext = some m.slot) {x : SlotId} {b : Byte}
    (hb : b.toNat = x.val) (hreg : (s.dev.slot x).registered = true) (hc : s.dev.flag (Key.claimAllowed x) = true) :
    exec (.handoverOffer m [b]) s = .next { s with dev := (s.dev.admitted m).enqueue (.offer ((s.dev.admitted m).ackOf m 0) x) } := by
  have hv : leVal [b] = x.val := by simp [leVal, hb]
  have hreg' : ((s.dev.admitted m).slot x).registered = true := by
    by_cases hx : x = m.slot
    · rw [hx]; exact admitted_slot_registered h
    · rw [Dev.slot_admitted_other _ _ hx]; exact hreg
  have hc' : (s.dev.admitted m).flag (Key.claimAllowed x) = true := by
    rw [flag_of_val (Dev.val_admitted _ _ ?_), hc]
    have h1 := x.isLt
    have h2 := m.slot.isLt
    simp only [hostKeys, Key.claimAllowed, Key.activeInterfaces, Key.hostLastSeen, Key.rxCount, ob, List.mem_cons, List.not_mem_nil, or_false]
    omega
  show State.onDev s _ = _
  rw [State.onDev, show ([b].length == 1) = true from rfl, ownershipRequest_heard h hr, handoverOffer]
  simp only [Dev.ackOf, ownerFault_cases, admitted_ownerNext, ho, if_true, hv, x.isLt, dite_true, hreg', hc', and_self]

theorem heartbeat_refused (h : s.dev.hears m = true) (hr : s.dev.roleBlocked = none) (ho : s.dev.owner ≠ some m.slot) :
    exec (.heartbeat m []) s = .next { s with dev := (s.dev.admitted m).abort ((s.dev.admitted m).ackOf m 0) Code.notOwner } := by
  show State.onDev s _ = _
  rw [State.onDev, show (([] : Bytes) == []) = true from rfl, ownershipRequest_heard h hr, heartbeat]
  simp only [Dev.ackOf, admitted_owner, ho, if_false]

end

/-- The owner's heartbeat: its time is noted, and it is answered. -/
theorem heartbeat_taken {s : State} {m : HostMsg} (h : s.dev.hears m = true) (hr : s.dev.roleBlocked = none) (ho : s.dev.owner = some m.slot) :
    Completes (.heartbeat m []) s fun t =>
      t.dev.hosts.lastHeartbeat = s.dev.nowMs + 1 ∧ t.dev.hosts.ownership = s.dev.hosts.ownership ∧ Replied s t m (.done 0) ∧
      Only [.out, .hosts] (hostKeys m.slot) s t ∧ ∀ q, q ≠ m.slot → t.dev.slot q = s.dev.slot q := by
  obtain ⟨e, he⟩ : ∃ e : Dev, e = { s.dev.admitted m with hosts := { (s.dev.admitted m).hosts with lastHeartbeat := s.dev.nowMs + 1 } } := ⟨_, rfl⟩
  have hex : exec (.heartbeat m []) s = .next { s with dev := e.ok ((s.dev.admitted m).ackOf m 0) } := by
    show State.onDev s _ = _
    rw [State.onDev, show (([] : Bytes) == []) = true from rfl, ownershipRequest_heard h hr, heartbeat, he]
    simp only [Dev.ackOf, admitted_owner, ho, if_true, admitted_nowMs]
  have hs : ∀ q, e.slot q = (s.dev.admitted m).slot q := fun q => by rw [he]; rfl
  have hp : ∀ x : Part, x ≠ .hosts → x.same (s.dev.admitted m) e := fun x hx => by
    rw [he]
    cases x <;> first | exact absurd rfl hx | rfl
  have hc : e.carries m.iface (replyParts (.done 0)).2.2.2.2.length = true := by
    rw [carries_congr (d := s.dev.admitted m) (hp .clocks (by decide)).symm (hp .crossings (by decide)).symm (hp .power (by decide)).symm
      (by rw [he]) (nat_of_val (by rw [he]; rfl)), admitted_carries]
    exact carries_of_heard h _ (.inr (by simp [replyParts]))
  have hreg := admitted_slot_registered h
  have htx := admitted_slot_txSeq h
  have hkey := admitted_slot_key h
  have hout := Dev.out_answer e ((s.dev.admitted m).ackOf m 0) (.done 0) ((congrArg HostSlot.registered (hs m.slot)).trans hreg)
    (congrArg HostSlot.session (hs m.slot)) hc
  refine ⟨_, hex, ?_, ?_, ?_, ⟨rfl, rfl, rfl, fun x hx hn => ?_, fun k hk => ?_⟩, fun q hq => ?_⟩
  · exact (congrArg Hosts.lastHeartbeat (Dev.answer_hosts e _ _)).trans (by rw [he])
  · exact (congrArg Hosts.ownership (Dev.answer_hosts e _ _)).trans (by rw [he]; exact Dev.admitted_ownership _ _)
  · simp only [Replied, Dev.ok]
    rw [show ((s.dev.admitted m).ackOf m 0).key = 0 from rfl, hout, List.getLast?_append]
    simp only [Dev.ackOf, hs, htx, hkey, admitted_viaOf, Dev.reply, List.getLast?_singleton, Option.some_or]
  · simp only [List.mem_cons, List.not_mem_nil, or_false, not_or] at hn
    refine Part.same_trans' (Dev.admitted_same _ _ x hn.2 hx) (Part.same_trans' (hp x hn.2) ?_)
    by_cases h3 : x = .held
    · subst h3; exact (Dev.held_answer e _ _ hc).symm
    · exact Dev.answer_same _ _ _ x hn.2 hn.1 h3
  · rw [Dev.ok, Dev.val_answer, show e.val k = (s.dev.admitted m).val k from by rw [he]; rfl, Dev.val_admitted _ _ hk]
  · exact (Dev.slot_answer_other _ _ _ hq).trans ((hs q).trans (Dev.slot_admitted_other _ _ hq))

/-! ### What takes effect at the boundary -/

section
variable (d : Dev)

theorem discardGroup_group (g cause j : Nat) :
    (d.discardGroup g cause).group j = d.group j ∨
      (d.group g).phase = .staging ∧ (d.discardGroup g cause).group j = (d.setGroup g fun _ => ⟨.expired, [], 0, 0⟩).group j := by
  unfold Dev.discardGroup
  split
  · next h => exact .inr ⟨h, by simp only [Dev.group, Dev.general_dict, Dev.bump_dict]⟩
  · exact .inl rfl

/-- Every shadow is discarded. -/
theorem discardAll_phase (cause : Nat) {g : Nat} (hg : g < 64) : ((d.discardAll cause).group g).phase ≠ .staging := by
  refine foldl_place (read := fun d g => d.group g) (g := fun d g => d.discardGroup g cause) (R := fun _ _ y => y.phase ≠ .staging)
    (fun d c x hx => ?_) (fun d c => ?_) _ d List.nodup_range (List.mem_range.2 hg)
  · rcases discardGroup_group d c cause x with h | ⟨-, h⟩
    · exact h
    · rw [h, Dev.group_setGroup_other _ _ hx]
  · by_cases hc : c < 64
    · unfold Dev.discardGroup
      split
      · simp only [Dev.group, Dev.general_dict, Dev.bump_dict]
        rw [show Vector.getD _ c _ = _ from Dev.group_setGroup_same d (g := c) _ hc]
        simp
      · assumption
    · have : ∀ e : Dev, (e.group c).phase = .empty := fun e => by simp [Dev.group, Vector.getD, hc]
      rw [this]
      simp

theorem val_discardAll (cause : Nat) {k : Nat} (hk : k ≠ Key.discardCount) : (d.discardAll cause).val k = d.val k := by
  unfold Dev.discardAll
  exact foldl_same (fun d => d.val k) (fun d g => by
    unfold Dev.discardGroup
    split
    · simp only [Dev.val, Dev.general_obj]
      exact (Dev.val_bump_other _ _ (Ne.symm hk)).trans (by simp only [Dev.val, (Dev.setGroup_keeps0 _ _ _).get_obj rfl])
    · rfl) _ d

theorem discardAll_hosts (cause : Nat) : (d.discardAll cause).hosts = d.hosts := (Dev.discardAll_keeps0 d cause).get_hosts rfl

theorem discardAll_nowUs (cause : Nat) : (d.discardAll cause).nowUs = d.nowUs := by
  simp only [Dev.nowUs, (Dev.discardAll_keeps0 d cause).get_time rfl]

theorem setOwnership_hosts (o : Ownership) : (d.setOwnership o).hosts = { d.hosts with ownership := o } := rfl

theorem dropOwnership_hosts : d.dropOwnership.hosts = { d.hosts with ownership := .none, ownerSince := 0 } := by
  simp only [Dev.dropOwnership, discardAll_hosts, Dev.bump_hosts, setOwnership_hosts]

theorem dropOwnership_phase {g : Nat} (hg : g < 64) : (d.dropOwnership.group g).phase ≠ .staging := by
  unfold Dev.dropOwnership
  generalize (d.setOwnership .none).bump Key.ownerChangeCount = e
  have h := discardAll_phase e 2 hg
  generalize e.discardAll 2 = x at *
  exact h

theorem val_dropOwnership {k : Nat} (hd : k ≠ Key.discardCount) (ho : k ≠ Key.ownerChangeCount) : d.dropOwnership.val k = d.val k := by
  have h : ((d.setOwnership .none).bump Key.ownerChangeCount).val k = d.val k := Dev.val_bump_other _ _ (Ne.symm ho)
  rw [← h]
  unfold Dev.dropOwnership
  generalize (d.setOwnership .none).bump Key.ownerChangeCount = e
  have h := val_discardAll e 2 hd
  generalize e.discardAll 2 = x at *
  exact h

theorem takeOwnership_hosts (x : SlotId) :
    (d.takeOwnership x).hosts = { d.hosts with ownership := .owned x, ownerSince := d.nowUs, lastHeartbeat := d.nowMs } := by
  have hh : ((d.setOwnership (.owned x)).bump Key.ownerChangeCount).hosts = { d.hosts with ownership := .owned x } := Dev.bump_hosts _ _ _
  have ht : ((d.setOwnership (.owned x)).bump Key.ownerChangeCount).time = d.time := Dev.bump_time _ _ _
  have hd : ((d.setOwnership (.owned x)).bump Key.ownerChangeCount).dict = d.dict := Dev.bump_dict _ _ _
  unfold Dev.takeOwnership Dev.nowUs Dev.nowMs
  generalize (d.setOwnership (.owned x)).bump Key.ownerChangeCount = e at *
  simp only [hh, ht, hd]

/-- What an answer, or an abort, leaves of the ownership. -/
theorem ownership_answer (a : Ack) (r : HostReply) : (d.answer a r).hosts.ownership = d.hosts.ownership ∧
    (d.answer a r).hosts.lastHeartbeat = d.hosts.lastHeartbeat ∧ (d.answer a r).hosts.ownerSince = d.hosts.ownerSince := by
  have h := Dev.answer_hosts d a r
  exact ⟨(congrArg Hosts.ownership h).trans rfl, (congrArg Hosts.lastHeartbeat h).trans rfl, (congrArg Hosts.ownerSince h).trans rfl⟩

theorem ownership_ok (a : Ack) : (d.ok a).hosts.ownership = d.hosts.ownership ∧ (d.ok a).hosts.lastHeartbeat = d.hosts.lastHeartbeat ∧
    (d.ok a).hosts.ownerSince = d.hosts.ownerSince :=
  ownership_answer d a _

theorem ownership_abort (a : Ack) (c : Nat) : (d.abort a c).hosts.ownership = d.hosts.ownership ∧
    (d.abort a c).hosts.lastHeartbeat = d.hosts.lastHeartbeat ∧ (d.abort a c).hosts.ownerSince = d.hosts.ownerSince := by
  have h := (Dev.noteAbort_keeps0 d a.slot c a.key).get_hosts rfl
  exact h ▸ ownership_answer (d.noteAbort a.slot c a.key) a (.abort c a.key)

theorem group_ok (a : Ack) (g : Nat) : (d.ok a).group g = d.group g := by simp only [Dev.group, Dev.ok, dict_answer]

end

/-- A claim, a release and an offer at their boundary (06 R152, R153, R155). -/
theorem applied_at_boundary (d : Dev) (a : Ack) :
    (d.hosts.ownership = .none → (d.applyFirst (.claim a)).hosts = { d.hosts with ownership := .claimWindow (d.nowMs + 200) [a] }) ∧
    (∀ ends l, d.hosts.ownership = .claimWindow ends l →
      (d.applyFirst (.claim a)).hosts = { d.hosts with ownership := .claimWindow ends (l ++ [a]) }) ∧
    (d.hosts.ownership = .owned a.slot → (d.applyFirst (.claim a)).hosts.ownership = .owned a.slot) ∧
    (∀ o dl, d.hosts.ownership = .handover o a.slot dl → o ≠ a.slot →
      (d.applyFirst (.claim a)).hosts.ownership = .owned a.slot ∧ (d.applyFirst (.claim a)).hosts.ownerSince = d.nowUs ∧
        ∀ g, g < 64 → ((d.applyFirst (.claim a)).group g).phase ≠ .staging) ∧
    (d.owner = some a.slot →
      (d.applyFirst (.release a)).hosts.ownership = .none ∧ (∀ g, g < 64 → ((d.applyFirst (.release a)).group g).phase ≠ .staging) ∧
      ∀ x, (d.applyFirst (.offer a x)).hosts.ownership = .handover a.slot x (d.nowMs + 200)) := by
  refine ⟨fun h => ?_, fun ends l h => ?_, fun h => ?_, fun o dl h ho => ?_, fun h => ⟨?_, fun g hg => ?_, fun x => ?_⟩⟩
  · simp only [Dev.applyFirst, Dev.applyClaim, h, setOwnership_hosts]
  · simp only [Dev.applyFirst, Dev.applyClaim, h]
  · simp only [Dev.applyFirst, Dev.applyClaim, h, if_true, ownership_ok]
  · have he : d.applyFirst (.claim a) = ((d.discardAll 2).takeOwnership a.slot).ok a := by
      simp only [Dev.applyFirst, Dev.applyClaim, h, ho, if_true, if_false]
    simp only [he, ownership_ok, takeOwnership_hosts, discardAll_nowUs, group_ok, true_and]
    intro g hg
    rw [show ((d.discardAll 2).takeOwnership a.slot).group g = (d.discardAll 2).group g from by
      simp only [Dev.group, (Dev.takeOwnership_keeps0 _ _).get_dict rfl]]
    exact discardAll_phase d 2 hg
  · simp only [Dev.applyFirst, Dev.applyRelease, h, if_true, ownership_ok, dropOwnership_hosts]
  · simp only [Dev.applyFirst, Dev.applyRelease, h, if_true, group_ok]
    exact dropOwnership_phase d hg
  · simp only [Dev.applyFirst, Dev.applyOffer, h, if_true, ownership_ok, setOwnership_hosts]

/-! ### What time ends (06 R152 to R154) -/

/-- The best claim: every other slot that claims has a higher priority number, or the same and a higher slot. -/
def BestClaim (d : Dev) (claims : List Ack) (w : Ack) : Prop :=
  ∀ c ∈ claims, (d.slot c.slot).registered = true → c.slot ≠ w.slot →
    d.nat (Key.claimPriority w.slot) < d.nat (Key.claimPriority c.slot) ∨
    (d.nat (Key.claimPriority w.slot) = d.nat (Key.claimPriority c.slot) ∧ w.slot < c.slot)

theorem betterClaim_slot {d : Dev} {w : Ack} {l : List Ack} (hb : BestClaim d l w) {a b : Ack}
    (ha : a ∈ l ∧ (d.slot a.slot).registered = true) (hr : b ∈ l ∧ (d.slot b.slot).registered = true) :
    (betterClaim d a b = a ∨ betterClaim d a b = b) ∧ (a.slot = w.slot ∨ b.slot = w.slot → (betterClaim d a b).slot = w.slot) := by
  unfold betterClaim
  dsimp only
  split
  · next h =>
    refine ⟨.inr rfl, fun hw => by_contra fun hn => ?_⟩
    rw [hw.resolve_right hn] at h
    have := hb b hr.1 hr.2 hn
    simp only [Fin.lt_def] at h this
    omega
  · next h =>
    refine ⟨.inl rfl, fun hw => by_contra fun hn => ?_⟩
    rw [hw.resolve_left hn] at h
    have := hb a ha.1 ha.2 hn
    simp only [Fin.lt_def] at h this
    omega

theorem bestClaim_wins {d : Dev} {w : Ack} {l : List Ack} (hb : BestClaim d l w) (r : List Ack)
    (hr : ∀ c ∈ r, c ∈ l ∧ (d.slot c.slot).registered = true) {a : Ack} (ha : a ∈ l ∧ (d.slot a.slot).registered = true)
    (hw : a.slot = w.slot ∨ ∃ c ∈ r, c.slot = w.slot) : (r.foldl (betterClaim d) a).slot = w.slot := by
  induction r generalizing a with
  | nil => exact hw.resolve_right (by simp)
  | cons b r ih =>
    have hb' := hr b (List.mem_cons_self ..)
    obtain ⟨hm, hs⟩ := betterClaim_slot hb ha hb'
    rw [List.foldl_cons]
    refine ih (fun c hc => hr c (List.mem_cons_of_mem _ hc)) (by rcases hm with h | h <;> rw [h] <;> assumption) ?_
    rcases hw with h | ⟨c, hc, h⟩
    · exact .inl (hs (.inl h))
    · rcases List.mem_cons.1 hc with rfl | hc
      · exact .inl (hs (.inr h))
      · exact .inr ⟨c, hc, h⟩

theorem claimWindowEnd_won {d : Dev} {ends : Nat} {claims : List Ack} {w : Ack} (ho : d.hosts.ownership = .claimWindow ends claims)
    (he : ends ≤ d.nowMs) (hw : w ∈ claims) (hreg : (d.slot w.slot).registered = true) (hb : BestClaim d claims w) :
    (claimWindowEnd d).hosts.ownership = .owned w.slot ∧ (claimWindowEnd d).hosts.lastHeartbeat = d.nowMs ∧
      (claimWindowEnd d).hosts.ownerSince = d.nowUs := by
  have hwf : w ∈ claims.filter fun a => (d.slot a.slot).registered := List.mem_filter.2 ⟨hw, hreg⟩
  unfold claimWindowEnd
  simp only [ho, he, if_true]
  cases hf : claims.filter fun a => (d.slot a.slot).registered with
  | nil => rw [hf] at hwf; cases hwf
  | cons a l =>
    have hmem : ∀ c ∈ a :: l, c ∈ claims ∧ (d.slot c.slot).registered = true := fun c hc => List.mem_filter.1 (hf ▸ hc)
    have hwin : (l.foldl (betterClaim d) a).slot = w.slot := by
      refine bestClaim_wins hb l (fun c hc => hmem c (List.mem_cons_of_mem _ hc)) (hmem a (List.mem_cons_self ..)) ?_
      rw [hf] at hwf
      rcases List.mem_cons.1 hwf with h | h
      · exact .inl (h ▸ rfl)
      · exact .inr ⟨w, h, rfl⟩
    dsimp only
    rw [hwin]
    refine foldl_keeps_prop (P := fun e => e.hosts.ownership = .owned w.slot ∧ e.hosts.lastHeartbeat = d.nowMs ∧
      e.hosts.ownerSince = d.nowUs) (fun e c h => ?_) _ (by simp only [takeOwnership_hosts, and_self])
    split
    · simpa only [ownership_ok] using h
    · simpa only [ownership_abort] using h

/-- Settles O23: what an OWNERSHIP message does at once and at its boundary, and what time ends. -/
theorem ownershipMovesByMessagesAndTime : Obligations.OwnershipMovesByMessagesAndTime := by
  unfold Obligations.OwnershipMovesByMessagesAndTime
  dsimp only
  refine ⟨fun s m h hr hc => ?_, fun s m h hr hc => ?_, fun s m h hr ho => ?_, fun s m x b h hr ho hb hx hc => ?_,
    fun s m h hr ho => heartbeat_taken h hr ho, fun s m b h hr ho => ⟨?_, ?_⟩, fun s m h hr ho => ?_, applied_at_boundary,
    fun s ends claims w ho he hw hreg hb => ?_, fun s ends claims ho he hn => ?_, fun s ho ht => ?_, fun s o x dl ho ht => ?_, fun s h => ?_⟩
  · refine ⟨_, claim_sent h hr, ?_⟩
    rw [hc]
    exact ownership_refused h _
  · refine ⟨_, claim_sent h hr, ?_⟩
    rw [hc]
    exact ownership_waits _
  · refine ⟨_, release_sent h hr, ?_⟩
    rw [if_pos ho]
    exact ownership_waits _
  · exact ⟨_, offer_sent h hr ho hb hx hc, ownership_waits _⟩
  · refine ⟨_, release_sent h hr, ?_⟩
    rw [if_neg ho]
    exact ownership_refused h _
  · exact ⟨_, offer_refused h hr ho b, ownership_refused h _⟩
  · exact ⟨_, heartbeat_refused h hr ho, ownership_refused h _⟩
  · obtain ⟨h1, h2, h3⟩ := claimWindowEnd_won ho he hw hreg hb
    exact ⟨_, rfl, h1, h2, h3, (claimWindowEnd_keeps0 s.dev).within (by decide)⟩
  · have hf : (claims.filter fun a => (s.dev.slot a.slot).registered) = [] := List.filter_eq_nil_iff.2 fun c hc => by simp [hn c hc]
    have hex : exec .claimWindowEnd s = .next { s with dev := s.dev.setOwnership .none } := by
      show State.onDev s _ = _
      simp only [State.onDev, claimWindowEnd, ho, he, if_true, hf]
    exact ⟨_, hex, rfl, (Dev.setOwnership_keeps0 s.dev .none).only (by decide) fun k _ => rfl⟩
  · have hex : exec .heartbeatLoss s = .next { s with dev := s.dev.loseOwnership } := by
      show State.onDev s _ = _
      rw [State.onDev, heartbeatLoss, if_pos ⟨ho, ht⟩]
    refine ⟨_, hex, ?_, ?_, fun g hg => ?_, (Dev.loseOwnership_keeps0 s.dev).only (by decide) fun k hk => ?_⟩
    · simp only [Dev.loseOwnership, Dev.putNat_hosts, dropOwnership_hosts]
    · show (s.dev.loseOwnership).nat Key.lastLossTime = _
      simp only [Dev.loseOwnership, Dev.nat_putNat]
    · have : s.dev.loseOwnership.group g = s.dev.dropOwnership.group g := by simp only [Dev.group, Dev.loseOwnership, Dev.putNat_dict]
      rw [this]
      exact dropOwnership_phase s.dev hg
    · simp only [List.mem_cons, List.not_mem_nil, or_false, not_or] at hk
      exact (Dev.val_putNat_other _ _ (Ne.symm hk.2.2)).trans (val_dropOwnership _ hk.2.1 hk.1)
  · have hex : exec .handoverLapse s = .next { s with dev := s.dev.setOwnership (.owned o) } := by
      show State.onDev s _ = _
      simp only [State.onDev, handoverLapse, ho, ht, if_true]
    exact ⟨_, hex, rfl, (Dev.setOwnership_keeps0 s.dev _).only (by decide) fun k _ => rfl⟩
  · have hn : ¬ (s.dev.owner.isSome ∧ s.dev.hosts.lastHeartbeat + 1500 ≤ s.dev.nowMs) := fun hh => by
      rcases h with h | h
      · simp [h] at hh
      · omega
    have hex : exec .heartbeatLoss s = .next s := by
      show State.onDev s _ = _
      rw [State.onDev, heartbeatLoss, if_neg hn]
    exact ⟨_, hex, rfl⟩

end Sys2Proof.Machine
end

section
/-! PROOFS. Registrations (06 R145, R146, R153). -/

namespace Sys2Proof.Machine

/-! ### Failures (06 R146) -/

/-- A slot after a failure at a tick: five failures in 60 s refuse it for 60 s. -/
def HostSlot.failed (h : HostSlot) (now : Nat) : HostSlot :=
  let fails := (now :: h.fails).filter fun n => now < n + 60000
  { h with hello := none, fails := fails, refuseTill := if 5 ≤ fails.length then some (now + 60000) else h.refuseTill }

theorem registrationFailed_eq (x : SlotId) (d : Dev) :
    registrationFailed x d = (d.bump (Key.hostAuthFailCount x)).setSlot x fun _ => (d.slot x).failed d.nowMs := by
  have hs : (d.bump (Key.hostAuthFailCount x)).slot x = d.slot x := by simp only [Dev.slot, Dev.bump_hosts]
  have hn : (d.bump (Key.hostAuthFailCount x)).nowMs = d.nowMs := by simp only [Dev.nowMs, Dev.bump_dict]
  unfold registrationFailed
  dsimp only
  rw [hn]
  generalize d.bump (Key.hostAuthFailCount x) = e at hs
  rw [← hs]
  rfl

/-- A failure of a slot: its own state, and its count. -/
theorem failure_noted (s : State) (x : SlotId) :
    (registrationFailed x s.dev).slot x = (s.dev.slot x).failed s.dev.nowMs ∧
      Only [.hosts] [Key.hostAuthFailCount x] s { s with dev := registrationFailed x s.dev } ∧
      OnlySlot x s { s with dev := registrationFailed x s.dev } := by
  rw [registrationFailed_eq]
  refine ⟨Dev.slot_setSlot _ _ _, Keeps.only (M := 4100) ?_ (by decide) fun k hk => ?_,
    onlySlot_of_hosts (f := fun _ => (s.dev.slot x).failed s.dev.nowMs) ?_⟩
  · simp
  · exact Dev.val_bump_other _ _ (Ne.symm (List.mem_singleton.not.1 hk))
  · simp only [Dev.setSlot, Dev.bump_hosts]

/-! ### HELLO and CONFIRM (06 R145) -/

/-- A HELLO that is taken is answered with the fresh nonce. -/
theorem hello_taken {s : State} {x : SlotId} {i : Iface} {id : Byte} {source : Nat × Nat} {host own : Bytes} (hu : s.dev.sequencerUp = true)
    (hi : s.dev.ifaceUp i = true) (ha : s.dev.allowed x i = true) (hk : s.dev.flag (Key.keyPresent x) = true)
    (hr : (s.dev.slot x).refuseTill = none) (hh : (s.dev.slot x).hello = none) (hl : host.length = 16)
    (hn : i ≠ .can5 ∨ (own ++ s.dev.bytes Key.serialNumber).length ≤ 44) :
    exec (.hello x ⟨i, id, source⟩ host own) s = .next { s with
      dev := (s.dev.setSlot x fun h => { h with hello := some ⟨host, own, i, s.dev.nowMs + 500⟩ }).say
        (.host x i id 0 false (.challenge own (s.dev.bytes Key.serialNumber)) (s.dev.viaOf i 0x31 source)
          (fdpWire [] x i id 0 false (.challenge own (s.dev.bytes Key.serialNumber)))) } := by
  have hc : s.dev.carries i (own ++ s.dev.bytes Key.serialNumber).length = true := by
    rcases hn with hn | hn
    · have := carries_of_ifaceUp hi (Nat.zero_le _)
      simp only [Dev.carries, Bool.and_eq_true] at this ⊢
      exact ⟨this.1, by simp [hn]⟩
    · refine carries_of_ifaceUp hi (hn.trans ?_)
      cases i <;> decide
  show State.onDev s _ = _
  rw [State.onDev, hello, if_pos ⟨hu, hi, ha, hk, hl, hr⟩]
  simp only [hh, Option.isSome_none, Bool.false_eq_true, if_false, hr, ne_eq, not_true_eq_false]
  rw [Dev.sendClear, Dev.transmit_carried _ _ _ _ (replyParts (.challenge own (s.dev.bytes Key.serialNumber))).2.2.2.2.length
    (show (s.dev.setSlot x _).carries i _ = true from hc)]

/-- The address a reply comes from depends on the settings of the interfaces only. -/
theorem viaOf_congr {d e : Dev} (h : ∀ k, 0xC00000 ≤ k → k < 0xC00100 → e.val k = d.val k) (i : Iface) (n : Nat) (source : Nat × Nat) :
    e.viaOf i n source = d.viaOf i n source := by
  have hk : ∀ k, 0xC00000 ≤ k → k < 0xC00100 → e.nat k = d.nat k := fun k h1 h2 => nat_of_val (h k h1 h2)
  cases i <;> simp only [Dev.viaOf, hk Key.can5BaseId (by decide) (by decide), hk Key.can5NominalRate (by decide) (by decide),
    hk Key.can5DataRate (by decide) (by decide), hk Key.eth0Address (by decide) (by decide), hk Key.eth1Address (by decide) (by decide),
    hk Key.udpPort (by decide) (by decide)]

/-- The slot of a registration that begins. -/
def HostSlot.begun (h : HostSlot) (key nonce : Bytes) (now : Nat) (i : Iface) (source : Nat × Nat) : HostSlot :=
  { h with
    registered := true, sessionKey := some key, nonce := nonce, high := 1, seen := 0, txSeq := 0, hello := none, lastValid := now, lastIface := i
    session := h.session + 1, peers := h.peers.set (ifaceNum i) source }

/-- The device on which a registration has begun. -/
def Dev.begun (d : Dev) (m : HostMsg) (keySlot : Fin 64) (key nonce : Bytes) : Dev :=
  let d := (d.endRegistration m.slot)
  let d := (d.dropAttest m.slot).bump (Key.useCount keySlot)
  let d := d.setSlot m.slot fun h => h.begun key nonce d.nowMs m.iface m.source
  ((d.putNat (Key.activeInterfaces m.slot) (2 ^ ifaceBit m.iface)).putNat (Key.hostLastSeen m.slot) d.nowUs).bump (Key.rxCount m.slot)

section
variable (d : Dev) (m : HostMsg) (keySlot : Fin 64) (key nonce : Bytes)

theorem begun_keeps : Keeps 8392708 d (d.begun m keySlot key nonce) := by
  unfold Dev.begun
  simp (maxDischargeDepth := 99)

theorem begun_hosts : (d.begun m keySlot key nonce).hosts =
    ((d.endRegistration m.slot).setSlot m.slot fun h => h.begun key nonce d.nowMs m.iface m.source).hosts := by
  have hn : (((d.endRegistration m.slot).dropAttest m.slot).bump (Key.useCount keySlot)).nowMs = d.nowMs := by
    simp only [Dev.nowMs, Dev.bump_dict, (Dev.dropAttest_keeps0 _ _).get_dict rfl, (Dev.endRegistration_keeps0 _ _).get_dict rfl]
  simp only [Dev.begun, hn, Dev.bump_hosts, Dev.putNat_hosts, Dev.setSlot, (Dev.dropAttest_keeps0 _ _).get_hosts rfl]

theorem val_begun {k : Nat} (h : k ∉ hostKeys m.slot) (hu : k ≠ Key.useCount keySlot) : (d.begun m keySlot key nonce).val k = d.val k := by
  simp only [hostKeys, List.mem_cons, List.not_mem_nil, or_false, not_or] at h
  obtain ⟨h1, h2, h3⟩ := h
  unfold Dev.begun
  dsimp only
  rw [Dev.val_bump_other _ _ (Ne.symm h3), Dev.val_putNat_other _ _ (Ne.symm h2), Dev.val_putNat_other _ _ (Ne.symm h1)]
  refine Eq.trans ?_ ((Dev.val_bump_other ((d.endRegistration m.slot).dropAttest m.slot) 1 (Ne.symm hu)).trans ?_)
  · rfl
  · simp only [Dev.val, (Dev.dropAttest_keeps0 _ _).get_obj rfl]
    rfl

end

/-- A CONFIRM that may come is a failure, or begins the registration. -/
theorem confirm_judged {d : Dev} {m : HostMsg} {h : Hello} {k : KeyHalf} {keySlot : Fin 64} (hks : keySlot.val = 0x30 + m.slot.val)
    (hh : (d.slot m.slot).hello = some h) (hk : d.keyOf keySlot = some k) (hu : d.sequencerUp = true) (hi : d.ifaceUp m.iface = true)
    (hb : d.burlUp = true) (hsame : m.iface = h.iface) (hd : d.nowMs ≤ h.deadline) (hseq : m.seq.toNat = 1) (a b : Bytes) :
    Dev.confirm m a b d =
      if m.micOk = false ∨ a ≠ h.hostNonce ∨ b ≠ h.ownNonce then registrationFailed m.slot d
      else
        let e := d.begun m keySlot (Config.hkdf k.material (a ++ b) (ascii "FDP1" ++ leBytes 1 m.slot ++ d.bytes Key.serialNumber) 16) a
        e.send m.slot m.iface (e.viaOf m.iface 0x31 m.source) m.reqId (.welcome (e.nat Key.layoutVersion) (ownerNum e.hosts.ownership)) := by
  have hlt : 0x30 + m.slot.val < 64 := by
    have := m.slot.isLt
    clear hks
    omega
  obtain rfl : keySlot = ⟨0x30 + m.slot, hlt⟩ := Fin.ext hks
  have hd' : ¬ h.deadline < d.nowMs := by omega
  unfold Dev.confirm
  simp only [hh, hk, hu, hi, hb, ← hsame, hd', hseq, Bool.not_true, Bool.false_eq_true, ne_eq, not_true_eq_false, or_self, if_false,
    Bool.not_eq_true']
  rfl

/-- What a message that is carried leaves: itself, last, and the count of its slot. -/
theorem send_leaves {d : Dev} {i : Iface} {r : HostReply} (h : d.carries i (replyParts r).2.2.2.2.length = true) (x : SlotId) (via : Via)
    (reqId : Byte) :
    (d.send x i via reqId r).out = d.out ++ [d.sent x i via reqId r] ∧
      (d.send x i via reqId r).slot x = { d.slot x with txSeq := (d.slot x).txSeq + 1 } ∧
      (∀ q, q ≠ x → (d.send x i via reqId r).slot q = d.slot q) ∧
      (d.send x i via reqId r).hosts = { d.hosts with slots := (d.send x i via reqId r).hosts.slots } ∧
      Keeps 4098 d (d.send x i via reqId r) := by
  rw [send_carried h]
  exact ⟨rfl, Dev.slot_setSlot _ _ _, fun q hq => Dev.slot_setSlot_other _ _ hq, rfl, by simp⟩

/-- A registration that begins changes the own slot only, and registers it under its key. -/
theorem confirm_begins {s : State} {m : HostMsg} {keySlot : Fin 64} {key nonce : Bytes} (hi : s.dev.ifaceUp m.iface = true) {e : Dev}
    (he : e = s.dev.begun m keySlot key nonce) {t : State} (ht : t = { s with
      dev := e.send m.slot m.iface (e.viaOf m.iface 0x31 m.source) m.reqId (.welcome (e.nat Key.layoutVersion) (ownerNum e.hosts.ownership)) }) :
    (t.dev.slot m.slot).registered = true ∧ (t.dev.slot m.slot).high = 1 ∧ (t.dev.slot m.slot).hello = none ∧
      (t.dev.slot m.slot).sessionKey = some key ∧
      t.dev.out = s.dev.out ++ [.host m.slot m.iface m.reqId 1 true (.welcome (s.dev.nat Key.layoutVersion) (ownerNum s.dev.hosts.ownership))
        (s.dev.viaOf m.iface 0x31 m.source)
        (fdpWire key m.slot m.iface m.reqId 1 true (.welcome (s.dev.nat Key.layoutVersion) (ownerNum s.dev.hosts.ownership)))] ∧
      Only [.out, .hosts, .burl] (hostKeys m.slot ++ [Key.useCount keySlot]) s t ∧ OnlySlot m.slot s t := by
  have hkeep : Keeps 8392708 s.dev e := he ▸ begun_keeps s.dev m keySlot key nonce
  have hhosts := he ▸ begun_hosts s.dev m keySlot key nonce
  have hval : ∀ k, k ∉ hostKeys m.slot → k ≠ Key.useCount keySlot → e.val k = s.dev.val k := fun k h1 h2 => he ▸ val_begun s.dev m keySlot key nonce h1 h2
  have hout : ∀ k, 0xC00000 ≤ k ∨ k < 0x180000 → e.val k = s.dev.val k := fun k hk => by
    refine hval k (fun h => ?_) fun h => ?_
    · have := hostKeys_range h
      omega
    · have := keySlot.isLt
      simp only [Key.useCount, ob] at h
      omega
  have hslot : e.slot m.slot = ((s.dev.endRegistration m.slot).slot m.slot).begun key nonce s.dev.nowMs m.iface m.source := by
    simp only [Dev.slot, hhosts]
    exact Dev.slot_setSlot _ _ _
  have hother : ∀ q, q ≠ m.slot → e.slot q = s.dev.slot q := fun q hq => by
    simp only [Dev.slot, hhosts]
    exact (Dev.slot_setSlot_other _ _ hq).trans (Dev.slot_setSlot_other _ _ hq)
  have hc : e.carries m.iface (replyParts (.welcome (e.nat Key.layoutVersion) (ownerNum e.hosts.ownership))).2.2.2.2.length = true := by
    rw [carries_congr (d := s.dev) (hkeep.get_clocks rfl) (hkeep.get_crossings rfl) (hkeep.get_power rfl) (by rw [hhosts]; rfl)
      (nat_of_val (hout _ (.inl (by decide))))]
    refine carries_of_ifaceUp hi ?_
    cases m.iface <;> simp [replyParts, length_leBytes, bodyLimit]
  obtain ⟨hsout, hsslot, hsother, hshosts, hskeep⟩ := send_leaves hc m.slot (e.viaOf m.iface 0x31 m.source) m.reqId
  subst ht
  have hnat : e.nat Key.layoutVersion = s.dev.nat Key.layoutVersion := nat_of_val (hout _ (.inr (by decide)))
  have hown : e.hosts.ownership = s.dev.hosts.ownership := by rw [hhosts]; rfl
  have hvia : e.viaOf m.iface 0x31 m.source = s.dev.viaOf m.iface 0x31 m.source :=
    viaOf_congr (fun k h1 _ => hout k (.inl h1)) _ _ _
  generalize e.send m.slot m.iface (e.viaOf m.iface 0x31 m.source) m.reqId (.welcome (e.nat Key.layoutVersion) (ownerNum e.hosts.ownership)) = u
    at hsout hsslot hsother hshosts hskeep ⊢
  dsimp only
  rw [hsslot, hslot]
  refine ⟨rfl, rfl, rfl, rfl, ?_, Keeps.only (M := 8392710) (.after (by decide) hskeep (hkeep.mono (by decide))) (by decide) fun k hk => ?_,
    fun q hq => (hsother q hq).trans (hother q hq), ?_⟩
  · rw [hsout, hkeep.get_out rfl, Dev.sent, hslot, hnat, hown, hvia]
    rfl
  · rw [List.mem_append, List.mem_singleton, not_or] at hk
    refine Eq.trans ?_ (hval k hk.1 hk.2)
    simp only [Dev.val, hskeep.get_obj rfl]
  · have h1 := congrArg Hosts.ownership hshosts
    have h2 := congrArg Hosts.ownerSince hshosts
    have h3 := congrArg Hosts.lastHeartbeat hshosts
    have h4 := congrArg Hosts.can hshosts
    have h5 := congrArg Hosts.busOffCounts hshosts
    dsimp only at h1 h2 h3 h4 h5 ⊢
    rw [h1, h2, h3, h4, h5, hhosts]
    exact ⟨rfl, rfl, rfl, rfl, rfl⟩

/-! ### Registrations that end (06 R145, R153, R154) -/

section
variable (d : Dev) (x : SlotId)

theorem slot_zeroRegistration : ((d.zeroRegistration x).slot x).registered = false ∧ ((d.zeroRegistration x).slot x).sessionKey = none := by
  unfold Dev.zeroRegistration Dev.endRegistration
  rw [Dev.slot_setSlot, Dev.slot_setSlot]
  exact ⟨rfl, rfl⟩

theorem slot_zeroRegistration_other {q : SlotId} (h : q ≠ x) : (d.zeroRegistration x).slot q = d.slot q :=
  (Dev.slot_setSlot_other _ _ h).trans (Dev.slot_setSlot_other _ _ h)

/-- What the end of a registration leaves: the slot without its key, and no ownership of it. -/
theorem registrationOver_leaves (timed : Bool) :
    ((d.registrationOver x timed).slot x).registered = false ∧ ((d.registrationOver x timed).slot x).sessionKey = none ∧
      (∀ q, q ≠ x → (d.registrationOver x timed).slot q = d.slot q) ∧
      (d.registrationOver x timed).hosts.ownership = (if d.owner = some x then .none else d.hosts.ownership) := by
  have hz := slot_zeroRegistration d x
  have hh : ∀ e : Dev, e.hosts = (d.zeroRegistration x).hosts ∨
      e.hosts = { (d.zeroRegistration x).hosts with ownership := .none, ownerSince := 0 } → ∀ q, e.slot q = (d.zeroRegistration x).slot q := by
    rintro e (h | h) q <;> simp only [Dev.slot, h]
  have hd : ((d.zeroRegistration x).dropAttest x).hosts = (d.zeroRegistration x).hosts := (Dev.dropAttest_keeps0 _ _).get_hosts rfl
  have hcase : (d.owner = some x → (d.registrationOver x timed).hosts = { (d.zeroRegistration x).hosts with ownership := .none, ownerSince := 0 }) ∧
      (d.owner ≠ some x → (d.registrationOver x timed).hosts = (d.zeroRegistration x).hosts) := by
    unfold Dev.registrationOver
    refine ⟨fun h => ?_, fun h => ?_⟩
    · simp only [h, decide_true, if_true, Dev.loseOwnership]
      cases timed <;> simp only [Bool.false_eq_true, if_true, if_false, Dev.putNat_hosts, dropOwnership_hosts, hd]
    · simp only [h, decide_false, Bool.false_eq_true, if_false, hd]
  have hs : ∀ q, (d.registrationOver x timed).slot q = (d.zeroRegistration x).slot q :=
    hh _ (if h : d.owner = some x then .inr (hcase.1 h) else .inl (hcase.2 h))
  refine ⟨by rw [hs]; exact hz.1, by rw [hs]; exact hz.2, fun q hq => (hs q).trans (slot_zeroRegistration_other d x hq), ?_⟩
  split
  · next h => rw [hcase.1 h]
  · next h =>
    rw [hcase.2 h]
    rfl

end

/-- A registration that lapses (06 R145, R154). -/
theorem lapse_ends {s : State} {x : SlotId} (hu : s.dev.sequencerUp = true) (hr : (s.dev.slot x).registered = true)
    (ht : (s.dev.slot x).lastValid + 1000 * s.dev.nat Key.registrationLapseS ≤ s.dev.nowMs) :
    Completes (.registrationLapse x) s fun t =>
      (t.dev.slot x).registered = false ∧ (t.dev.slot x).sessionKey = none ∧ (∀ q, q ≠ x → t.dev.slot q = s.dev.slot q) ∧
      t.dev.hosts.ownership = (if s.dev.owner = some x then .none else s.dev.hosts.ownership) ∧
      (s.dev.owner = some x → t.dev.nat Key.lastLossTime = s.dev.nowUs) ∧
      (s.dev.owner ≠ some x → Only [.hosts, .burl] [] s t) ∧ Within [.obj, .dict, .hosts, .heart, .burl] s t := by
  have hex : exec (.registrationLapse x) s = .next { s with dev := s.dev.registrationOver x true } := by
    show State.onDev s _ = _
    rw [State.onDev, Dev.registrationLapse, if_pos ⟨hu, hr, ht⟩]
  obtain ⟨h1, h2, h3, h4⟩ := registrationOver_leaves s.dev x true
  refine ⟨_, hex, h1, h2, h3, h4, fun ho => ?_, fun ho => ?_, (Dev.registrationOver_keeps0 s.dev x true).within (by decide)⟩
  · have he : s.dev.registrationOver x true = ((s.dev.zeroRegistration x).dropAttest x).loseOwnership := by
      simp only [Dev.registrationOver, ho, decide_true, if_true]
    rw [he, Dev.loseOwnership, Dev.nat_putNat]
    simp only [Dev.nowUs, (Dev.dropAttest_keeps0 _ _).get_time rfl, (Dev.zeroRegistration_keeps0 _ _).get_time rfl]
  · have he : s.dev.registrationOver x true = (s.dev.zeroRegistration x).dropAttest x := by
      simp only [Dev.registrationOver, ho, decide_false, Bool.false_eq_true, if_false]
    rw [he]
    have hk : Keeps 8392704 s.dev ((s.dev.zeroRegistration x).dropAttest x) := by simp
    exact hk.only (by decide) fun k _ => by simp only [Dev.val, hk.get_obj rfl]

/-- A reply to a slot that ends at no reply leaves its registration and its key. -/
theorem registered_answer (d : Dev) (a : Ack) (r : HostReply) (h : (d.slot a.slot).endAfter = none) (x : SlotId) :
    ((d.answer a r).slot x).registered = (d.slot x).registered := by
  by_cases hx : x = a.slot
  · subst hx
    unfold Dev.answer
    split
    · have hs : (d.send a.slot a.iface a.via a.reqId r).slot a.slot = { d.slot a.slot with txSeq := (d.slot a.slot).txSeq + 1 } := by
        simp [Dev.send]
      generalize d.send a.slot a.iface a.via a.reqId r = u at hs ⊢
      unfold Dev.owed
      split
      · rw [hs]
      · simp only [Dev.slot_setSlot, hs, h, reduceCtorEq, if_false]
    · rfl
  · rw [Dev.slot_answer_other _ _ _ hx]

/-- Settles O24: HELLO, CONFIRM, failures, lapses and the end of a registration. -/
theorem registrationsBeginAndEnd : Obligations.RegistrationsBeginAndEnd := by
  unfold Obligations.RegistrationsBeginAndEnd
  dsimp only
  refine ⟨fun s x i id source host own hu hi ha hk hr hh hl hn => ⟨_, hello_taken hu hi ha hk hr hh hl hn, ?_, rfl, ?_, ?_⟩,
    fun s m h k keySlot hks hh hk hu hi hb hs hd hq hm => ?_, fun s m h k keySlot a b hks hh hk hu hi hb hs hd hq hm => ?_,
    fun s x h hh hu hd => ?_, fun s x n hr hn => ?_, fun s x hu hr ht => lapse_ends hu hr ht, fun s m x data h ht => ?_,
    fun d a x hr he => ?_⟩
  · exact Dev.slot_setSlot _ _ _
  · exact Keeps.only (M := 4098) (by simp) (by decide) fun k _ => rfl
  · exact onlySlot_of_hosts rfl
  · have he := confirm_judged hks hh hk hu hi hb hs hd hq h.hostNonce h.ownNonce
    rw [if_neg (by simp [hm])] at he
    have hex : exec (.confirm m h.hostNonce h.ownNonce) s = .next { s with dev := Dev.confirm m h.hostNonce h.ownNonce s.dev } := rfl
    rw [he] at hex
    exact ⟨_, hex, confirm_begins hi rfl rfl⟩
  · refine ⟨{ s with dev := registrationFailed m.slot s.dev }, ?_, failure_noted s m.slot⟩
    show State.onDev s _ = _
    rw [State.onDev, confirm_judged hks hh hk hu hi hb hs hd hq a b, if_pos hm]
  · refine ⟨{ s with dev := registrationFailed x s.dev }, ?_, failure_noted s x⟩
    show State.onDev s _ = _
    simp only [State.onDev, registrationTimeout, hh, hu, hd, and_self, if_true]
  · refine ⟨{ s with dev := s.dev.setSlot x fun h => { h with refuseTill := none, fails := [] } }, ?_, Dev.slot_setSlot _ _ _, ?_, onlySlot_of_hosts rfl⟩
    · show State.onDev s _ = _
      simp only [State.onDev, helloRefusalEnd, hr, hn, if_true]
    · exact Keeps.only (M := 4096) (by simp) (by decide) fun k _ => rfl
  · refine ⟨{ s with dev := (s.dev.admitted m).enqueue (.deregister ((s.dev.admitted m).ackOf m (Key.deregister x)) x) }, ?_,
      ownership_waits _⟩
    show State.onDev s _ = _
    rw [State.onDev, cmdWrite_granted h ht, Dev.deregisterServe]
  · have hr' : ((d.ok a).slot x).registered = true := (registered_answer d a _ he x).trans hr
    have hap : d.applyFirst (.deregister a x) = (d.ok a).registrationOver x false := by
      simp only [Dev.applyFirst, Dev.applyDeregister, hr', if_true]
    obtain ⟨h1, h2, h3, h4⟩ := registrationOver_leaves (d.ok a) x false
    have ho : (d.ok a).owner = d.owner := by simp only [Dev.owner, ownership_ok]
    rw [hap]
    exact ⟨h1, h2, by rw [h4, ho, (ownership_ok d a).1], fun q hq hqa => (h3 q hq).trans (Dev.slot_answer_other _ _ _ hqa)⟩

end Sys2Proof.Machine
end

section
/-! PROOFS. Segments and notes of hosts (06 R136, R137, R146, R148). -/

namespace Sys2Proof.Machine

/-! ### Changes of one slot -/

/-- Of the hosts only one slot has changed. -/
def Dev.SlotOnly (x : SlotId) (d e : Dev) : Prop :=
  (∀ q, q ≠ x → e.slot q = d.slot q) ∧ e.hosts = { d.hosts with slots := e.hosts.slots }

section
variable {d e f : Dev} {x : SlotId}

theorem slotOnly_of_hosts (h : e.hosts = d.hosts) : d.SlotOnly x e := by
  refine ⟨fun q _ => by simp only [Dev.slot, h], ?_⟩
  rw [h]

theorem Dev.SlotOnly.trans (h : d.SlotOnly x e) (h' : e.SlotOnly x f) : d.SlotOnly x f := by
  refine ⟨fun q hq => (h'.1 q hq).trans (h.1 q hq), ?_⟩
  have h2 := h'.2
  rw [h.2] at h2
  exact h2

theorem slotOnly_setSlot (d : Dev) (x : SlotId) (g : HostSlot → HostSlot) : d.SlotOnly x (d.setSlot x g) :=
  ⟨fun _ hq => Dev.slot_setSlot_other _ _ hq, rfl⟩

theorem slotOnly_answer (d : Dev) (a : Ack) (r : HostReply) : d.SlotOnly a.slot (d.answer a r) :=
  ⟨fun _ hq => Dev.slot_answer_other _ _ _ hq, Dev.answer_hosts _ _ _⟩

theorem slotOnly_abort (d : Dev) (a : Ack) (c : Nat) : d.SlotOnly a.slot (d.abort a c) :=
  (slotOnly_of_hosts ((Dev.noteAbort_keeps0 d a.slot c a.key).get_hosts rfl)).trans (slotOnly_answer _ _ _)

theorem Dev.SlotOnly.only {s : State} (h : s.dev.SlotOnly x e) : OnlySlot x s { s with dev := e } := by
  refine ⟨h.1, ?_⟩
  dsimp only
  rw [h.2]
  exact ⟨rfl, rfl, rfl, rfl, rfl⟩

theorem Dev.SlotOnly.can (h : d.SlotOnly x e) : e.hosts.can = d.hosts.can := by rw [h.2]

end

/-! ### Messages that are noted -/

/-- What the receipt of a message that is no request leaves (06 R138, R146). -/
structure Dev.NotedBy (d : Dev) (m : HostMsg) (e : Dev) : Prop where
  keeps : Keeps 4100 d e
  val : ∀ k, k ∉ hostKeys m.slot → e.val k = d.val k
  slots : d.SlotOnly m.slot e
  slot : ∃ a b, e.slot m.slot = { d.slot m.slot with
    high := a, seen := b, lastValid := d.nowMs, lastIface := m.iface, peers := (d.slot m.slot).peers.set (ifaceNum m.iface) m.source }

/-- A message that is heard is noted, and then its effect follows. -/
theorem hostNote_noted {d : Dev} {m : HostMsg} (h : d.hears m = true) : ∃ e, d.NotedBy m e ∧ ∀ serve, hostNote m serve d = serve e := by
  obtain ⟨h1, h2, h3, h4, h5, ⟨w, h6⟩, -, -, -⟩ := Dev.hears_iff.1 h
  obtain ⟨a, b, hw⟩ := sequenceWindow_keeps h6
  have hx := exhausts_of_heard h
  refine ⟨d.noted m w, ⟨noted_keeps d m w, fun k hk => val_noted d m w hk, ⟨fun q hq => ?_, ?_⟩, a, b, ?_⟩, fun serve => ?_⟩
  · simp [Dev.noted, Dev.slot_setSlot_other _ _ hq]
  · simp [Dev.noted, Dev.setSlot]
  · rw [slot_noted, hw]
  · have he : ∀ e : Dev, endsWith m e = e := fun e => by simp [endsWith, hx]
    simp only [hostNote, receive, h1, h2, h3, h4, h5, h6, he]
    rfl

section
variable {d e : Dev} {m : HostMsg} (h : d.NotedBy m e)
include h

theorem Dev.NotedBy.nowMs : e.nowMs = d.nowMs := by simp only [Dev.nowMs, h.keeps.get_dict rfl]

theorem Dev.NotedBy.via (i : Iface) (n : Nat) (source : Nat × Nat) : e.viaOf i n source = d.viaOf i n source :=
  viaOf_congr (fun k hk _ => h.val k fun hm => by
    have := hostKeys_range hm
    omega) i n source

end

/-- What a link carries after a change of other parts and of one slot. -/
theorem carries_later {d e : Dev} {M : Nat} {x : SlotId} (hk : Keeps M d e) (hs : d.SlotOnly x e)
    (hM : M.testBit 4 = false ∧ M.testBit 5 = false ∧ M.testBit 10 = false) (hphy : e.val Key.eth0PhyFound = d.val Key.eth0PhyFound)
    (i : Iface) (n : Nat) : e.carries i n = d.carries i n :=
  carries_congr (hk.get_clocks hM.1) (hk.get_crossings hM.2.1) (hk.get_power hM.2.2) hs.can (nat_of_val hphy) i n

theorem sent_congr {d e : Dev} {x : SlotId} (h1 : (e.slot x).txSeq = (d.slot x).txSeq) (h2 : (e.slot x).sessionKey = (d.slot x).sessionKey)
    (i : Iface) (via : Via) (id : Byte) (r : HostReply) : e.sent x i via id r = d.sent x i via id r := by
  simp only [Dev.sent, h1, h2]

/-! ### The bytes that engine 10 covers -/

/-- What engine 10 writes of a transfer (log entry 40). -/
def coveredKeys (x : SlotId) : List Nat :=
  [Key.runningValue (144 + x), Key.contextByteCount (144 + x), Key.contextProfile (144 + x), Key.bytesCovered 10]

theorem val_coverFdp (d : Dev) (x : SlotId) (restart : Bool) (b : Bytes) {k : Nat} (h : k ∉ coveredKeys x) :
    (d.coverFdp x restart b).val k = d.val k := by
  simp only [coveredKeys, List.mem_cons, List.not_mem_nil, or_false, not_or] at h
  obtain ⟨h1, h2, h3, h4⟩ := h
  unfold Dev.coverFdp
  dsimp only
  rw [Dev.val_bump_other _ _ (Ne.symm h4), Dev.val_putNat_other _ _ (Ne.symm h3), Dev.val_putNat_other _ _ (Ne.symm h2),
    Dev.val_putNat_other _ _ (Ne.symm h1)]

theorem coverFdp_hosts (d : Dev) (x : SlotId) (restart : Bool) (b : Bytes) : (d.coverFdp x restart b).hosts = d.hosts :=
  (Dev.coverFdp_keeps0 d x restart b).get_hosts rfl

theorem slot_coverFdp (d : Dev) (x : SlotId) (restart : Bool) (b : Bytes) (q : SlotId) : (d.coverFdp x restart b).slot q = d.slot q := by
  simp only [Dev.slot, coverFdp_hosts]

theorem eth0PhyFound_notin_covered (x : SlotId) : Key.eth0PhyFound ∉ coveredKeys x := by
  have := x.isLt
  simp only [coveredKeys, Key.eth0PhyFound, Key.runningValue, Key.contextByteCount, Key.contextProfile, Key.bytesCovered, ob, List.mem_cons,
    List.not_mem_nil, or_false]
  omega

/-! ### Segments -/

/-- A segment in order, not the last: its bytes join the transfer, and each 16th is acknowledged. -/
theorem segment_taken {s : State} {m : HostMsg} {x : RxTransfer} {data : Bytes} (h : s.dev.hears m = true)
    (hx : (s.dev.slot m.slot).rx = some x) (hl : x.data.length + data.length ≤ x.total) (hb : data.length ≤ bodyLimit m.iface) :
    Completes (.segment m true x.next false data) s fun t =>
      (t.dev.slot m.slot).rx = some { x with data := x.data ++ data, next := x.next + 1, lastMs := s.dev.nowMs } ∧
      t.dev.out = s.dev.out ++ (if x.next % 16 = 15 then
        [s.dev.sent m.slot m.iface ((s.dev.admitted m).ackOf m 0).via x.ack.reqId (.segmentAck x.next)] else []) ∧
      Only [.out, .hosts] (hostKeys m.slot ++ coveredKeys m.slot) s t ∧ OnlySlot m.slot s t := by
  obtain ⟨e, hn, hserve⟩ := hostNote_noted h
  obtain ⟨a, b, hslot⟩ := hn.slot
  obtain ⟨c, hc⟩ : ∃ c, c = e.coverFdp m.slot false (((x.data ++ data).take (x.total - 4)).drop ((x.data ++ data).length - data.length)) := ⟨_, rfl⟩
  obtain ⟨u, hu⟩ : ∃ u, u = if x.next % 16 = 15 then c.send m.slot m.iface (e.ackOf m x.ack.key).via x.ack.reqId (.segmentAck x.next) else c := ⟨_, rfl⟩
  have hex : exec (.segment m true x.next false data) s = .next { s with
      dev := u.setSlot m.slot fun h => { h with rx := some { x with data := x.data ++ data, next := x.next + 1, lastMs := s.dev.nowMs } } } := by
    have h1 : ¬ bodyLimit m.iface < data.length := by omega
    have h2 : ¬ x.total < (x.data ++ data).length := by rw [List.length_append]; omega
    have hrx : (e.slot m.slot).rx = some x := by rw [hslot]; exact hx
    show State.onDev s _ = _
    simp only [if_true, State.onDev, Dev.segmentIn, h1, if_false, hserve, hrx, h2, ne_eq, not_true_eq_false, or_self, Bool.false_eq_true,
      false_or, hn.nowMs, ← hc, ← hu]
  have hck : Keeps 4 e c := hc ▸ Dev.coverFdp_keeps0 _ _ _ _
  have hcs : ∀ q, c.slot q = e.slot q := fun q => hc ▸ slot_coverFdp _ _ _ _ q
  have hcv : ∀ k, k ∉ coveredKeys m.slot → c.val k = e.val k := fun k hk => hc ▸ val_coverFdp _ _ _ _ hk
  have hch : e.SlotOnly m.slot c := slotOnly_of_hosts (hck.get_hosts rfl)
  have hkc : Keeps 4100 s.dev c := .after (by decide) hck hn.keeps
  have hvc : ∀ k, k ∉ hostKeys m.slot → k ∉ coveredKeys m.slot → c.val k = s.dev.val k := fun k h1 h2 => (hcv k h2).trans (hn.val k h1)
  have hcar : c.carries m.iface (replyParts (.segmentAck x.next)).2.2.2.2.length = true := by
    rw [carries_later hkc (hn.slots.trans hch) (by decide) (hvc _ (eth0PhyFound_notin_hostKeys _) (eth0PhyFound_notin_covered _))]
    exact carries_of_heard h _ (.inr (by simp [replyParts, length_leBytes]))
  obtain ⟨ho, hs, hoth, hh, hk⟩ := send_leaves hcar m.slot (e.ackOf m x.ack.key).via x.ack.reqId
  have hvia : (e.ackOf m x.ack.key).via = ((s.dev.admitted m).ackOf m 0).via := by
    simp only [Dev.ackOf, hn.via, admitted_viaOf]
  have hsent := sent_congr (d := s.dev) (e := c) (x := m.slot) (by rw [hcs, hslot]) (by rw [hcs, hslot]) m.iface
    (e.ackOf m x.ack.key).via x.ack.reqId (.segmentAck x.next)
  have hku : Keeps 4102 s.dev u := by
    rw [hu]
    split
    · exact .after (by decide) hk (hkc.mono (by decide))
    · exact hkc.mono (by decide)
  have hsu : s.dev.SlotOnly m.slot u := by
    refine (hn.slots.trans hch).trans ?_
    rw [hu]
    split
    · exact ⟨hoth, hh⟩
    · exact slotOnly_of_hosts rfl
  have hvu : ∀ k, u.val k = c.val k := fun k => by
    rw [hu]
    split
    · simp only [Dev.val, hk.get_obj rfl]
    · rfl
  refine ⟨_, hex, ?_, ?_, Keeps.only (M := 4102) (Dev.setSlot_keeps _ _ _ (by decide) hku) (by decide) fun k hk => ?_, ?_⟩
  · exact congrArg HostSlot.rx (Dev.slot_setSlot _ _ _)
  · show u.out = _
    rw [hu, ← hvia, ← hsent, ← hkc.get_out rfl]
    split
    · exact ho
    · rw [List.append_nil]
  · rw [List.mem_append, not_or] at hk
    exact (hvu k).trans (hvc k hk.1 hk.2)
  · exact (hsu.trans (slotOnly_setSlot _ _ _)).only

/-- A segment of the device: the next bytes of its value. -/
theorem segment_sent {s : State} {m : HostMsg} {x : TxTransfer} {last : Bool} {data : Bytes} (hu : s.dev.sequencerUp = true)
    (hx : (s.dev.slot m.slot).tx = some x) (hi : s.dev.ifaceUp x.ack.iface = true) (hl : x.left ≠ []) (hn : x.next ≤ x.acked + 16) :
    Completes (.segment m false x.next last data) s fun t =>
      (t.dev.slot m.slot).tx = some { x with left := x.left.drop (bodyLimit x.ack.iface), next := x.next + 1, lastMs := s.dev.nowMs } ∧
      t.dev.out = s.dev.out ++ [s.dev.sent m.slot x.ack.iface x.ack.via x.ack.reqId
        (.segment x.next (decide (x.left.length ≤ bodyLimit x.ack.iface)) (x.left.take (bodyLimit x.ack.iface)))] ∧
      Only [.out, .hosts] (coveredKeys m.slot) s t ∧ OnlySlot m.slot s t := by
  obtain ⟨c, hc⟩ : ∃ c, c = s.dev.coverFdp m.slot false ((x.left.take (x.left.length - 4)).take (bodyLimit x.ack.iface)) := ⟨_, rfl⟩
  obtain ⟨r, hr⟩ : ∃ r, r = HostReply.segment x.next (decide (x.left.length ≤ bodyLimit x.ack.iface)) (x.left.take (bodyLimit x.ack.iface)) :=
    ⟨_, rfl⟩
  have hck : Keeps 4 s.dev c := hc ▸ Dev.coverFdp_keeps0 _ _ _ _
  have hch : s.dev.SlotOnly m.slot c := slotOnly_of_hosts (hck.get_hosts rfl)
  have hcs : ∀ q, c.slot q = s.dev.slot q := fun q => hc ▸ slot_coverFdp _ _ _ _ q
  have hcar : c.carries x.ack.iface (replyParts r).2.2.2.2.length = true := by
    rw [carries_later hck hch (by decide) (hc ▸ val_coverFdp _ _ _ _ (eth0PhyFound_notin_covered _))]
    refine carries_of_ifaceUp hi ?_
    rw [hr]
    exact List.length_take_le _ _
  have hlive : s.dev.linkLive x.ack.iface = true := by
    have := carries_of_ifaceUp hi (Nat.zero_le _)
    simp only [Dev.carries, Bool.and_eq_true] at this
    exact this.1
  have hnow : ∀ e : Dev, e.dict = c.dict → e.nowMs = s.dev.nowMs := fun e h => by simp only [Dev.nowMs, h, hck.get_dict rfl]
  obtain ⟨ho, hs, hoth, hh, hk⟩ := send_leaves hcar m.slot x.ack.via x.ack.reqId
  have hex : exec (.segment m false x.next last data) s = .next { s with
      dev := (c.send m.slot x.ack.iface x.ack.via x.ack.reqId r).setSlot m.slot fun h =>
        { h with tx := some { x with left := x.left.drop (bodyLimit x.ack.iface), next := x.next + 1, lastMs := s.dev.nowMs } } } := by
    have h3 : ¬ x.acked + 16 < x.next := by omega
    show State.onDev s _ = _
    simp only [Bool.false_eq_true, if_false, State.onDev, Dev.segmentOut, hx, hu, hlive, Bool.not_true, ne_eq, not_true_eq_false, hl, h3, or_self,
      ← hc, ← hr, hnow _ (hk.get_dict rfl)]
  refine ⟨_, hex, ?_, ?_, Keeps.only (M := 4102) (Dev.setSlot_keeps _ _ _ (by decide) (.after (by decide) hk (hck.mono (by decide))))
    (by decide) fun k hn => ?_, ((hch.trans ⟨hoth, hh⟩).trans (slotOnly_setSlot _ _ _)).only⟩
  · exact congrArg HostSlot.tx (Dev.slot_setSlot _ _ _)
  · refine ho.trans ?_
    rw [hck.get_out rfl, ← hr, sent_congr (d := s.dev) (congrArg HostSlot.txSeq (hcs _)) (congrArg HostSlot.sessionKey (hcs _))]
  · have : c.val k = s.dev.val k := hc ▸ val_coverFdp _ _ _ _ hn
    rw [← this]
    simp only [Dev.val, Dev.setSlot, hk.get_obj rfl]

/-! ### Transfers that end -/

/-- What an aborted write notes (05 R126, R133). -/
def abortedKeys (k : Nat) : List Nat := (commitOf k).elim [] (fun g => [Key.lastResult g, Key.failingObject g]) ++
  [Key.lastAbortCode, Key.lastAbortObject, Key.lastAbortHost, Key.abortCount]

theorem commitOf_lt {k g : Nat} (h : commitOf k = some g) : g < 64 := by
  unfold commitOf at h
  split at h
  · have := Option.some.inj h
    omega
  · cases h

theorem abortWrite_eq (d : Dev) (a : Ack) (code : Nat) : ∃ e, d.abortWrite a code = e.abort a code ∧ Keeps 4 d e ∧
    ∀ k, k ∉ abortedKeys a.key → e.val k = d.val k := by
  unfold Dev.abortWrite
  split
  · next g _ hg _ =>
    split
    · exact ⟨d, rfl, .refl _ _, fun _ _ => rfl⟩
    · refine ⟨d.commitOutcome g code 0, rfl, commitOutcome_keeps (g := ⟨g, commitOf_lt hg⟩) d code 0, fun k hk => ?_⟩
      rw [abortedKeys, hg, List.mem_append, not_or] at hk
      exact val_commitOutcome (g := ⟨g, commitOf_lt hg⟩) d code 0 hk.1
  · exact ⟨d, rfl, .refl _ _, fun _ _ => rfl⟩

theorem eth0PhyFound_notin_aborted (k : Nat) : Key.eth0PhyFound ∉ abortedKeys k := by
  unfold abortedKeys
  rw [List.mem_append, not_or]
  refine ⟨?_, by decide⟩
  cases h : commitOf k with
  | none => exact List.not_mem_nil
  | some g => exact eth0PhyFound_notin_outcome (g := ⟨g, commitOf_lt h⟩)

/-- An answer opens no transfer. -/
theorem rx_answer {d : Dev} {a : Ack} {r : HostReply} (h : (d.slot a.slot).rx = none) : ((d.answer a r).slot a.slot).rx = none := by
  unfold Dev.answer
  split
  · have hs : (d.send a.slot a.iface a.via a.reqId r).slot a.slot = { d.slot a.slot with txSeq := (d.slot a.slot).txSeq + 1 } := by
      simp [Dev.send]
    generalize d.send a.slot a.iface a.via a.reqId r = u at hs ⊢
    unfold Dev.owed
    split
    · rw [hs]
      exact h
    · dsimp only
      split
      · exact congrArg HostSlot.rx (Dev.slot_setSlot _ _ _)
      · rw [Dev.slot_setSlot, hs]
        exact h
  · exact h

/-- A transfer into the device that is aborted: on the device that was noted, or on its own. -/
theorem rx_aborted {s : State} {e : Dev} {q : SlotId} {x : RxTransfer} {keys : List Nat} (code : Nat) (hk : Keeps 4100 s.dev e)
    (hv : ∀ k, k ∉ keys → e.val k = s.dev.val k) (hphy : Key.eth0PhyFound ∉ keys) (hs : s.dev.SlotOnly q e) (hx : (e.slot q).rx = some x)
    (hq : x.ack.slot = q) (ht : (e.slot q).txSeq = (s.dev.slot q).txSeq) (hkey : (e.slot q).sessionKey = (s.dev.slot q).sessionKey)
    (hr : (e.slot q).registered = true) (hsess : (e.slot q).session = x.ack.session) (hi : s.dev.ifaceUp x.ack.iface = true) :
    ((e.abortRx q code).slot q).rx = none ∧ (e.abortRx q code).nat Key.lastAbortCode = code ∧
      (e.abortRx q code).out = s.dev.out ++ [s.dev.sent x.ack.slot x.ack.iface x.ack.via x.ack.reqId (.abort code x.ack.key)] ∧
      Only [.out, .hosts] (keys ++ abortedKeys x.ack.key) s { s with dev := e.abortRx q code } ∧
      OnlySlot q s { s with dev := e.abortRx q code } := by
  subst hq
  obtain ⟨u, hu, huk, huv⟩ := abortWrite_eq (e.setSlot x.ack.slot fun h => { h with rx := none }) x.ack code
  have he : e.abortRx x.ack.slot code = u.abort x.ack code := by
    rw [Dev.abortRx, hx]
    exact hu
  rw [he]
  have hus : u.slot x.ack.slot = { e.slot x.ack.slot with rx := none } := by
    simp only [Dev.slot, huk.get_hosts rfl]
    exact Dev.slot_setSlot _ _ _
  obtain ⟨w, hw⟩ : ∃ w, w = u.noteAbort x.ack.slot code x.ack.key := ⟨_, rfl⟩
  have hwk : Keeps 4 u w := hw ▸ Dev.noteAbort_keeps0 _ _ _ _
  have hws : w.slot x.ack.slot = { e.slot x.ack.slot with rx := none } := by simpa only [Dev.slot, hwk.get_hosts rfl] using hus
  have hwkeep : Keeps 4100 s.dev w := .after (by decide) hwk (.after (by decide) huk (Dev.setSlot_keeps _ _ _ (by decide) hk))
  have hwonly : s.dev.SlotOnly x.ack.slot w :=
    (hs.trans (slotOnly_setSlot e x.ack.slot _)).trans ((slotOnly_of_hosts (huk.get_hosts rfl)).trans (slotOnly_of_hosts (hwk.get_hosts rfl)))
  have hwv : ∀ k, k ∉ keys → k ∉ abortedKeys x.ack.key → w.val k = s.dev.val k := fun k h1 h2 => by
    rw [hw, val_noteAbort _ _ _ _ fun h => h2 (List.mem_append_right _ h), huv k h2]
    exact hv k h1
  have hc : w.carries x.ack.iface (replyParts (.abort code x.ack.key)).2.2.2.2.length = true := by
    rw [carries_later hwkeep hwonly (by decide) (hwv _ hphy (eth0PhyFound_notin_aborted _))]
    refine carries_of_ifaceUp hi ?_
    cases x.ack.iface <;> simp [replyParts, length_leBytes, bodyLimit]
  have hab : u.abort x.ack code = w.answer x.ack (.abort code x.ack.key) := by rw [hw]; rfl
  have hout := Dev.out_answer w x.ack (.abort code x.ack.key) (by rw [hws]; exact hr) (by rw [hws]; exact hsess) hc
  refine ⟨?_, nat_abort_lastCode _ _ _, ?_, ⟨rfl, rfl, rfl, fun p hp hn => ?_, fun k hk => ?_⟩, ?_⟩
  · rw [hab]
    exact rx_answer (congrArg HostSlot.rx hws)
  · rw [hab, hout, hwkeep.get_out rfl, hws]
    simp only [Dev.sent, ht, hkey]
  · simp only [List.mem_cons, List.not_mem_nil, or_false, not_or] at hn
    rw [hab]
    refine Part.same_trans' (hwkeep p (Part.mask_testBit [.obj, .hosts] p (by simp [hp, hn.2]))) ?_
    by_cases h3 : p = .held
    · subst h3
      exact (Dev.held_answer w _ _ hc).symm
    · exact Dev.answer_same _ _ _ p hn.2 hn.1 h3
  · rw [List.mem_append, not_or] at hk
    rw [hab, Dev.val_answer]
    exact hwv k hk.1 hk.2
  · rw [hab]
    exact (hwonly.trans (slotOnly_answer _ _ _)).only

/-- An acknowledgement within a transfer: it moves on the window. -/
theorem segment_acked {s : State} {m : HostMsg} {x : TxTransfer} {number : Nat} (h : s.dev.hears m = true) (hx : (s.dev.slot m.slot).tx = some x)
    (hn : number < x.next) (hl : x.left ≠ []) :
    Completes (.segmentAck m true number) s fun t =>
      (t.dev.slot m.slot).tx = some { x with acked := max x.acked number, lastMs := s.dev.nowMs } ∧ t.dev.out = s.dev.out ∧
      Only [.hosts] (hostKeys m.slot) s t ∧ OnlySlot m.slot s t := by
  obtain ⟨e, hno, hserve⟩ := hostNote_noted h
  obtain ⟨a, b, hslot⟩ := hno.slot
  have hex : exec (.segmentAck m true number) s = .next { s with
      dev := e.setSlot m.slot fun h => { h with tx := some { x with acked := max x.acked number, lastMs := s.dev.nowMs } } } := by
    have htx : (e.slot m.slot).tx = some x := by rw [hslot]; exact hx
    have h1 : ¬ x.next ≤ number := by omega
    show State.onDev s _ = _
    simp only [if_true, State.onDev, Dev.segmentAckIn, hserve, htx, h1, if_false, hl, false_and, hno.nowMs]
  exact ⟨_, hex, congrArg HostSlot.tx (Dev.slot_setSlot _ _ _), hno.keeps.get_out rfl,
    Keeps.only (M := 4100) (Dev.setSlot_keeps _ _ _ (by decide) hno.keeps) (by decide) fun k hk => hno.val k hk,
    (hno.slots.trans (slotOnly_setSlot _ _ _)).only⟩

/-- Settles O25: notes, unknown messages, segments in and out of order, acknowledgements and silence. -/
theorem segmentsCarryLongValues : Obligations.SegmentsCarryLongValues := by
  unfold Obligations.SegmentsCarryLongValues
  dsimp only
  refine ⟨fun s m h => ?_, fun s hu => ?_, fun s => ⟨_, rfl, rfl⟩, fun s m h => ⟨_, ?_, served_abort_nil 0 Code.range h⟩,
    fun s m x data h hx hl hb => segment_taken h hx hl hb, fun s m x number last data h hx hne hb hq hcur => ?_,
    fun s m x last data hu hx hi hl hn => segment_sent hu hx hi hl hn, fun s m x number h hx hn hl => segment_acked h hx hn hl,
    fun s m number => ⟨_, rfl, rfl⟩, fun s q x hu hx ht hq hcur he => ?_⟩
  · obtain ⟨e, hn, hserve⟩ := hostNote_noted h
    obtain ⟨a, b, hslot⟩ := hn.slot
    refine ⟨{ s with dev := e }, ?_, ?_, ?_, hn.keeps.get_out rfl, hn.keeps.only (by decide) fun k hk => hn.val k hk, hn.slots.only⟩
    · show State.onDev s _ = _
      rw [State.onDev, hserve]
      rfl
    · dsimp only
      rw [hslot]
    · dsimp only
      rw [hslot]
  · refine ⟨{ s with dev := s.dev.bump Key.unknownTypeCount }, ?_, Dev.nat_bump _ _ _, Keeps.only (M := 4) (by simp) (by decide) fun k hk => ?_⟩
    · show State.onDev s _ = _
      rw [State.onDev, unknownMessage, hu]
      rfl
    · exact Dev.val_bump_other _ _ (Ne.symm (List.mem_singleton.not.1 hk))
  · show State.onDev s _ = _
    rw [State.onDev, unknownMessage, hostRequest_heard h]
  · obtain ⟨e, hn, hserve⟩ := hostNote_noted h
    obtain ⟨a, b, hslot⟩ := hn.slot
    obtain ⟨hr, hsess, hi⟩ := hcur
    have hrx : (e.slot m.slot).rx = some x := by rw [hslot]; exact hx
    have hex : exec (.segment m true number last data) s = .next { s with dev := e.abortRx m.slot Code.segmentSequence } := by
      have h1 : ¬ bodyLimit m.iface < data.length := by omega
      have h2 : number + 1 ≠ x.next + 1 := by omega
      show State.onDev s _ = _
      simp only [if_true, State.onDev, Dev.segmentIn, h1, if_false, hserve, hrx, h2, ne_eq, not_false_eq_true, true_or]
    exact ⟨_, hex, rx_aborted Code.segmentSequence hn.keeps hn.val (eth0PhyFound_notin_hostKeys _) hn.slots hrx hq (by rw [hslot]) (by rw [hslot])
      (by rw [hslot, ← hq]; exact hr) (by rw [hslot, ← hq]; exact hsess) hi⟩
  · obtain ⟨hr, hsess, hi⟩ := hcur
    have hex : exec (.segmentTimeout q true) s = .next { s with dev := s.dev.abortRx q Code.segmentTimeout } := by
      show State.onDev s _ = _
      simp only [State.onDev, Dev.segmentTimeout, hu, Bool.not_true, Bool.false_eq_true, if_false, if_true, hx, ht]
    exact ⟨_, hex, rx_aborted (keys := []) Code.segmentTimeout (.refl _ _) (fun _ _ => rfl) List.not_mem_nil (slotOnly_of_hosts rfl) hx hq rfl rfl
      (hq ▸ hr) (hq ▸ hsess) hi⟩

end Sys2Proof.Machine
end

section
/-! PROOFS. Interfaces and controllers (06 R141, R142, R156). -/

namespace Sys2Proof.Machine

/-! ### Controllers of the CAN buses (06 R141) -/

section
variable {s : State} {k : Fin 6}

theorem busOff_noted (hp : s.dev.powered = true) (h : s.dev.hosts.can[k] = .errorActive ∨ s.dev.hosts.can[k] = .errorPassive) :
    Completes (.canBusOff k) s fun t =>
      t.dev.hosts = { s.dev.hosts with
        can := s.dev.hosts.can.set k .busOff
        busOffCounts := if k = 5 then s.dev.hosts.busOffCounts else vmod s.dev.hosts.busOffCounts k fun n => satAdd 32 n 1 } ∧
      (k = 5 → t.dev.nat Key.can5BusOffCount = min (s.dev.nat Key.can5BusOffCount + 1) (Dev.top Key.can5BusOffCount)) ∧
      Only [.hosts] (if k = 5 then [Key.can5BusOffCount] else []) s t := by
  obtain ⟨e, he⟩ : ∃ e, e = s.dev.setCan k .busOff := ⟨_, rfl⟩
  have hh : e.hosts = { s.dev.hosts with can := s.dev.hosts.can.set k .busOff } := by rw [he]; rfl
  have hv : ∀ j, e.val j = s.dev.val j := fun j => by rw [he]; rfl
  have hk : Keeps 4096 s.dev e := he ▸ Dev.setCan_keeps0 _ _ _
  by_cases h5 : k = 5
  · have hex : exec (.canBusOff k) s = .next { s with dev := e.bump Key.can5BusOffCount } := by
      show State.onDev s _ = _
      rw [State.onDev, canBusOff, if_pos ⟨hp, h⟩]
      simp only [h5, if_true, he]
    simp only [h5, if_true] at hh ⊢
    rw [h5] at hex
    refine ⟨_, hex, ?_, fun _ => ?_, Keeps.only (M := 4100) (by simp [hk.mono]) (by decide) fun j hj => ?_⟩
    · rw [Dev.bump_hosts, hh]
    · rw [Dev.nat_bump, nat_of_val (hv _)]
    · rw [Dev.val_bump_other _ _ (Ne.symm (List.mem_singleton.not.1 hj)), hv]
  · have hex : exec (.canBusOff k) s = .next { s with
        dev := { e with hosts := { e.hosts with busOffCounts := vmod e.hosts.busOffCounts k fun n => satAdd 32 n 1 } } } := by
      show State.onDev s _ = _
      rw [State.onDev, canBusOff, if_pos ⟨hp, h⟩]
      simp only [h5, if_false, he]
    simp only [h5, if_false]
    exact ⟨_, hex, by dsimp only; rw [hh], fun hn => hn.elim, Keeps.only (M := 4096) (keeps_hosts _ (by decide) hk) (by decide) fun j _ => hv j⟩

theorem busOff_recovers (hp : s.dev.powered = true) (h : s.dev.hosts.can[k] = .busOff) :
    Completes (.busOffRecovery k) s fun t =>
      t.dev.hosts = { s.dev.hosts with can := s.dev.hosts.can.set k .integrating } ∧ Only [.hosts] [] s t := by
  have hex : exec (.busOffRecovery k) s = .next { s with dev := s.dev.setCan k .integrating } := by
    show State.onDev s _ = _
    rw [State.onDev, busOffRecovery, if_pos ⟨hp, h⟩]
  exact ⟨_, hex, rfl, (Dev.setCan_keeps0 s.dev k .integrating).only (by decide) fun _ _ => rfl⟩

end

/-! ### What waited for the bus -/

theorem integration_done {s : State} {k : Fin 6} (hp : s.dev.powered = true) (hc : s.dev.clocks.ref25Lost = false)
    (h : s.dev.hosts.can[k] = .integrating) :
    Completes (.busIntegrationDone k) s fun t =>
      t.dev.hosts = { s.dev.hosts with can := s.dev.hosts.can.set k .errorActive } ∧
      (k = 5 → t.dev.out = s.dev.out ++ s.dev.held ∧ t.dev.held = [] ∧
        Only [.hosts, .out, .held] [Key.can5TxErrorCount, Key.can5RxErrorCount] s t) ∧
      (k = 4 → t.dev.cvu.engines[12] = Dev.can4Windows s.dev.cvu.order ∧ Only [.hosts, .cvu] [] s t) ∧
      (k ≠ 4 → k ≠ 5 → Only [.hosts] [] s t) := by
  obtain ⟨e, he⟩ : ∃ e, e = s.dev.setCan k .errorActive := ⟨_, rfl⟩
  have hh : e.hosts = { s.dev.hosts with can := s.dev.hosts.can.set k .errorActive } := by rw [he]; rfl
  have hv : ∀ j, e.val j = s.dev.val j := fun j => by rw [he]; rfl
  have hk : Keeps 4096 s.dev e := he ▸ Dev.setCan_keeps0 _ _ _
  have hcond : s.dev.powered ∧ !s.dev.clocks.ref25Lost ∧ s.dev.hosts.can[k] = .integrating := ⟨hp, by simp [hc], h⟩
  by_cases h5 : k = 5
  · have hex : exec (.busIntegrationDone k) s = .next { s with
        dev := (({ e with out := e.out ++ e.held, held := [] } : Dev).putNat Key.can5TxErrorCount 0).putNat Key.can5RxErrorCount 0 } := by
      show State.onDev s _ = _
      rw [State.onDev, Dev.busIntegrationDone, if_pos hcond]
      simp only [h5, if_true, he]
    refine ⟨_, hex, by simp only [Dev.putNat_hosts, hh], fun _ => ⟨?_, ?_, ?_⟩, fun h4 => absurd (h4.symm.trans h5) (by decide), fun _ hn => absurd h5 hn⟩
    · simp only [Dev.putNat_out, hk.get_out rfl, hk.get_held rfl]
    · simp only [Dev.putNat_held]
    · refine Keeps.only (M := 134221830) ?_ (by decide) fun j hj => ?_
      · have h1 : Keeps 134221830 s.dev ({ e with out := e.out ++ e.held } : Dev) := keeps_out (L := 134221830) _ (by decide) (hk.mono (by decide))
        have hw : Keeps 134221830 s.dev ({ e with out := e.out ++ e.held, held := [] } : Dev) := keeps_held (L := 134221830) [] (by decide) h1
        exact Dev.putNat_keeps _ _ _ (by decide) (Dev.putNat_keeps _ _ _ (by decide) hw)
      · simp only [List.mem_cons, List.not_mem_nil, or_false, not_or] at hj
        rw [Dev.val_putNat_other _ _ (Ne.symm hj.2), Dev.val_putNat_other _ _ (Ne.symm hj.1)]
        exact hv j
  · by_cases h4 : k = 4
    · have hex : exec (.busIntegrationDone k) s = .next { s with
          dev := { (e.setEngine 12 fun _ => Dev.can4Windows e.cvu.order) with
            cvu := { (e.setEngine 12 fun _ => Dev.can4Windows e.cvu.order).cvu with
              order := (e.setEngine 12 fun _ => Dev.can4Windows e.cvu.order).cvu.order + 2 } } } := by
        show State.onDev s _ = _
        rw [State.onDev, Dev.busIntegrationDone, if_pos hcond]
        simp only [h4, if_true, he]
        rfl
      refine ⟨_, hex, hh, fun hn => absurd hn h5, fun _ => ⟨?_, ?_⟩, fun hn => absurd h4 hn⟩
      · rw [← hk.get_cvu rfl]
        simp [Dev.setEngine, vmod]
      · exact Keeps.only (M := 4198400) (keeps_cvu _ (by decide) (Dev.setEngine_keeps _ _ _ (by decide) (hk.mono (by decide)))) (by decide) fun j _ => hv j
    · have hex : exec (.busIntegrationDone k) s = .next { s with dev := e } := by
        show State.onDev s _ = _
        rw [State.onDev, Dev.busIntegrationDone, if_pos hcond]
        simp only [h5, h4, if_false, he]
      exact ⟨_, hex, hh, fun hn => absurd hn h5, fun hn => absurd hn h4, fun _ _ => hk.only (by decide) fun j _ => hv j⟩

/-- Settles O26: STOP_ALL, ARP and echo requests, other datagrams, and controllers that go off the bus and come back. -/
theorem interfacesAnswerAndRecover : Obligations.InterfacesAnswerAndRecover := by
  unfold Obligations.InterfacesAnswerAndRecover
  refine ⟨fun s m data h hw ht => ⟨{ s with
      dev := (s.dev.admitted m).enqueue (.stopAll ((s.dev.admitted m).ackOf m Key.stopAll)) }, ?_, ownership_waits _⟩,
    fun s i address hu hi ha => ?_, fun s i address ha => ?_, fun s i data hu hi hne hl => ?_, fun s i hu hi hne => ?_,
    fun s k hp h => busOff_noted hp h, fun s k hp h => busOff_recovers hp h,
    fun s k hp hc h => integration_done hp hc h⟩
  · show State.onDev s _ = _
    rw [State.onDev, cmdWrite_stop h hw ht, stopAllServe]
  · refine ⟨{ s with dev := s.dev.say (.arp i address.toNat) }, ?_, rfl, (Dev.say_keeps0 _ _).only (by decide) fun _ _ => rfl⟩
    show State.onDev s _ = _
    rw [State.onDev, arpRequest, if_pos ⟨hu, hi, ha⟩]
  · refine ⟨s, ?_, rfl⟩
    show State.onDev s _ = _
    rw [State.onDev, arpRequest, if_neg fun hn => ha hn.2.2]
  · refine ⟨{ s with dev := s.dev.say (.icmp i data) }, ?_, rfl, (Dev.say_keeps0 _ _).only (by decide) fun _ _ => rfl⟩
    show State.onDev s _ = _
    rw [State.onDev, icmpEcho, if_pos ⟨hu, hi, by cases i <;> simp [ipOf] at hne ⊢, hl⟩]
  · refine ⟨{ s with dev := s.dev.bump Key.droppedDatagrams }, ?_, Dev.nat_bump _ _ _, (Dev.bump_keeps0 _ _ _).only (by decide) fun k hk => ?_⟩
    · show State.onDev s _ = _
      rw [State.onDev, datagramDropped, if_pos ⟨hu, hi, by cases i <;> simp [ipOf] at hne ⊢⟩]
    · exact Dev.val_bump_other _ _ (Ne.symm (List.mem_singleton.not.1 hk))

end Sys2Proof.Machine
end

section
/-! PROOFS. What the shared operations on ports do: settling pilots, ending sessions, entering states (07 R161, R166, R177, R180; 13 R338). -/

namespace Sys2Proof.Machine

/-! ### Changes of one port -/

/-- Of the ports only one has changed. -/
def Dev.PortOnly (p : PortId) (d e : Dev) : Prop := ∀ q, q ≠ p → e.port q = d.port q

section
variable {d e f : Dev} {p : PortId}

theorem portOnly_of_ports (h : e.ports = d.ports) : d.PortOnly p e := fun q _ => by simp only [Dev.port, h]

theorem Dev.PortOnly.trans (h : d.PortOnly p e) (h' : e.PortOnly p f) : d.PortOnly p f := fun q hq => (h' q hq).trans (h q hq)

theorem portOnly_setPort (d : Dev) (p : PortId) (g : Port → Port) : d.PortOnly p (d.setPort p g) := fun _ hq => Dev.port_setPort_other _ _ hq

theorem port_of_ports (h : e.ports = d.ports) (q : PortId) : e.port q = d.port q := by simp only [Dev.port, h]

end

/-! ### Pilots settled (07 R161) -/

theorem port_settle (d : Dev) (p : PortId) : ∃ c, d.settle.port p = { d.port p with cp := c } := by
  unfold Dev.settle
  refine foldl_keeps_prop (P := fun e => ∃ c, e.port p = { d.port p with cp := c }) (fun e x h => ?_) _ ⟨_, rfl⟩
  by_cases hx : p = x
  · obtain ⟨c, hc⟩ := h
    subst hx
    exact ⟨_, (Dev.port_setPort_same _ _ _).trans (by rw [hc])⟩
  · rwa [Dev.port_setPort_other _ _ hx]

/-- Of the other ports only the pilots are driven anew. -/
theorem onlyPilots_settle {s : State} {e : Dev} {p : PortId} (h : s.dev.PortOnly p e) : OnlyPilots p s { s with dev := e.settle } := fun q hq => by
  obtain ⟨c, hc⟩ := port_settle e q
  dsimp only
  rw [hc, h q hq]

/-- A field of a port other than its drive is not settled. -/
theorem read_settle {α : Type} (read : Port → α) (h : ∀ q c, read { q with cp := c } = read q) (d : Dev) (p : PortId) :
    read (d.settle.port p) = read (d.port p) := by
  obtain ⟨c, hc⟩ := port_settle d p
  rw [hc, h]

theorem val_settle (d : Dev) (k : Nat) : d.settle.val k = d.val k := by simp only [Dev.val, (Dev.settle_keeps0 d).get_obj rfl]

theorem nat_settle (d : Dev) (k : Nat) : d.settle.nat k = d.nat k := nat_of_val (val_settle d k)

/-! ### Sessions that end (07 R177) -/

/-- A port whose session is over. -/
def Port.over (q : Port) : Port :=
  { q with
    proto := none, setupAt := none, steadyTill := none, basic := false, handshake := false, tls := false, tls13 := false, dynamic := false
    wants := false, exports := false, ev := ⟨0, 0, 0, 0, 0, 0⟩, start := false, exportStop := false, exportAlloc := 0, pausedAt := none,
    lowDraw := Vector.replicate 3 0, shed := Vector.replicate 3 false, safe := false, faultAfter := false, permission := false }

/-- The objects that change when a session ends and its binding lapses. -/
def endKeys (p : PortId) : List Nat :=
  [Key.allocatedCurrent p, Key.evTargetVoltage p, Key.boundAccount p, Key.boundSlot p, Key.authPending p, Key.creditState p]

section
variable (d : Dev) (p : PortId)

theorem canOf_ports (st : CanState) : (d.canOf p st).ports = d.ports := (Dev.canOf_keeps0 d p st).get_ports rfl

theorem endSession_ports : (d.endSession p).ports = (d.setPort p Port.over).ports := by
  have h : ((d.canOf p .off).setPort p Port.over).ports = (d.setPort p Port.over).ports := by simp only [Dev.setPort, canOf_ports]
  exact (Dev.putNat_ports _ _ _).trans ((Dev.putNat_ports _ _ _).trans h)

theorem port_endSession : (d.endSession p).port p = (d.port p).over :=
  (port_of_ports (endSession_ports d p) p).trans (Dev.port_setPort_same _ _ _)

theorem portOnly_endSession : d.PortOnly p (d.endSession p) := fun q hq =>
  (port_of_ports (endSession_ports d p) q).trans (Dev.port_setPort_other _ _ hq)

theorem val_endSession {k : Nat} (h1 : k ≠ Key.allocatedCurrent p) (h2 : k ≠ Key.evTargetVoltage p) : (d.endSession p).val k = d.val k := by
  have h : ((d.canOf p .off).setPort p Port.over).val k = d.val k := by simp only [Dev.val, Dev.setPort, (Dev.canOf_keeps0 _ _ _).get_obj rfl]
  exact (Dev.val_putNat_other _ _ (Ne.symm h2)).trans ((Dev.val_putNat_other _ _ (Ne.symm h1)).trans h)

theorem judgeLevel2_ports : ∃ b, (d.judgeLevel2 p).ports = (d.setPort p fun q => { q with level2 := b }).ports := by
  unfold Dev.judgeLevel2
  dsimp only
  split <;> exact ⟨_, rfl⟩

theorem unbind_ports : (d.unbind p).ports = d.ports := (Dev.unbind_keeps0 d p).get_ports rfl

theorem judgeLevel2_obj : (d.judgeLevel2 p).obj = d.obj := (Dev.judgeLevel2_keeps0 d p).get_obj rfl

/-- A binding that lapses changes of the ports the level 2 demand of its own. -/
theorem bindingLapsed_port : (∃ b, (d.bindingLapsed p).port p = { d.port p with level2 := b }) ∧ d.PortOnly p (d.bindingLapsed p) := by
  have key : ∀ e : Dev, e.ports = d.ports → (∃ b, (e.judgeLevel2 p).port p = { d.port p with level2 := b }) ∧ d.PortOnly p (e.judgeLevel2 p) :=
    fun e he => by
      obtain ⟨b, hb⟩ := judgeLevel2_ports e p
      refine ⟨⟨b, ?_⟩, fun q hq => ?_⟩
      · rw [port_of_ports hb, Dev.port_setPort_same, port_of_ports he]
      · rw [port_of_ports hb, Dev.port_setPort_other _ _ hq, port_of_ports he]
  have same : ∀ e : Dev, e.ports = d.ports → (∃ b, e.port p = { d.port p with level2 := b }) ∧ d.PortOnly p e :=
    fun e he => ⟨⟨(d.port p).level2, port_of_ports he p⟩, portOnly_of_ports he⟩
  have hu : ∀ e : Dev, e.ports = d.ports → (if e.energy.sessions[p].isNone then e.unbind p else e).ports = d.ports := fun e he => by
    split
    · exact (unbind_ports e p).trans he
    · exact he
  unfold Dev.bindingLapsed
  dsimp only
  generalize hw : (Dev.putNat _ (Key.authPending p) 0) = w
  have hwp : w.ports = d.ports := by rw [← hw]; exact Dev.putNat_ports _ _ _
  have huw := hu w hwp
  generalize (if w.energy.sessions[p].isNone then w.unbind p else w) = u at huw ⊢
  split
  · exact key _ ((Dev.putNat_ports _ _ _).trans huw)
  · exact same _ huw

theorem val_unbind {k : Nat} (h : k ∉ endKeys p) : (d.unbind p).val k = d.val k := by
  simp only [endKeys, List.mem_cons, List.not_mem_nil, or_false, not_or] at h
  obtain ⟨-, -, h3, h4, -, -⟩ := h
  unfold Dev.unbind
  split
  · rfl
  · exact (Dev.val_putNat_other _ _ (Ne.symm h4)).trans ((Dev.val_putNat_other _ _ (Ne.symm h3)).trans rfl)

theorem val_bindingLapsed {k : Nat} (h : k ∉ endKeys p) : (d.bindingLapsed p).val k = d.val k := by
  have hu := fun e : Dev => val_unbind e p h
  simp only [endKeys, List.mem_cons, List.not_mem_nil, or_false, not_or] at h
  obtain ⟨-, -, -, -, h5, h6⟩ := h
  unfold Dev.bindingLapsed
  dsimp only
  generalize hw : (Dev.putNat _ (Key.authPending p) 0) = w
  have hwv : w.val k = d.val k := by rw [← hw]; exact (Dev.val_putNat_other _ _ (Ne.symm h5)).trans rfl
  have huw : (if w.energy.sessions[p].isNone then w.unbind p else w).val k = d.val k := by
    split
    · exact (hu w).trans hwv
    · exact hwv
  generalize (if w.energy.sessions[p].isNone then w.unbind p else w) = u at huw ⊢
  split
  · have hj : ∀ e : Dev, (e.judgeLevel2 p).val k = e.val k := fun e => by simp only [Dev.val, judgeLevel2_obj]
    exact (hj _).trans ((Dev.val_putNat_other _ _ (Ne.symm h6)).trans huw)
  · exact huw

/-! ### Entering states -/

/-- Where no session is open, ENDED and FAULTED let the binding lapse. -/
theorem lapsed_port (e : Dev) : (∃ b, (if (e.port p).opened then e else e.bindingLapsed p).port p = { e.port p with level2 := b }) ∧
    e.PortOnly p (if (e.port p).opened then e else e.bindingLapsed p) := by
  split
  · exact ⟨⟨(e.port p).level2, rfl⟩, portOnly_of_ports rfl⟩
  · exact bindingLapsed_port e p

theorem val_lapsed (e : Dev) {k : Nat} (h : k ∉ endKeys p) : (if (e.port p).opened then e else e.bindingLapsed p).val k = e.val k := by
  split
  · rfl
  · exact val_bindingLapsed e p h

theorem enterEnded_port (reason : Nat) :
    (∃ b, (d.enterEnded p reason).port p = { (d.port p).over with session := .ended, endReason := reason, evMatch := none, level2 := b }) ∧
      d.PortOnly p (d.enterEnded p reason) := by
  unfold Dev.enterEnded
  dsimp only
  generalize hw : ((d.endSession p).setPort p fun q => { q with session := .ended, endReason := reason, evMatch := none }) = w
  have hwp : w.port p = { (d.port p).over with session := .ended, endReason := reason, evMatch := none } := by
    rw [← hw, Dev.port_setPort_same, port_endSession]
  have hwo : d.PortOnly p w := hw ▸ (portOnly_endSession d p).trans (portOnly_setPort _ _ _)
  generalize hu : ({ w.putNat (Key.lastEndReason p) reason with
    site := { (w.putNat (Key.lastEndReason p) reason).site with allocateNow := true } } : Dev) = u
  have hup : u.ports = w.ports := by rw [← hu]; exact Dev.putNat_ports _ _ _
  obtain ⟨⟨b, hb⟩, ho⟩ := lapsed_port p u
  exact ⟨⟨b, by rw [hb, port_of_ports hup, hwp]⟩, (hwo.trans (portOnly_of_ports hup)).trans ho⟩

theorem val_enterEnded (reason : Nat) {k : Nat} (h : k ∉ endKeys p) (hr : k ≠ Key.lastEndReason p) : (d.enterEnded p reason).val k = d.val k := by
  have hl := fun e : Dev => val_lapsed p e h
  simp only [endKeys, List.mem_cons, List.not_mem_nil, or_false, not_or] at h
  unfold Dev.enterEnded
  exact (hl _).trans ((Dev.val_putNat_other _ _ (Ne.symm hr)).trans (val_endSession d p h.1 h.2.1))

theorem lastEndReason_notin_endKeys : Key.lastEndReason p ∉ endKeys p := by
  have := p.isLt
  simp only [endKeys, Key.lastEndReason, Key.allocatedCurrent, Key.evTargetVoltage, Key.boundAccount, Key.boundSlot, Key.authPending,
    Key.creditState, ob, List.mem_cons, List.not_mem_nil, or_false]
  omega

theorem level1Causes_notin_endKeys : Key.level1Causes p ∉ endKeys p := by
  have := p.isLt
  simp only [endKeys, Key.level1Causes, Key.allocatedCurrent, Key.evTargetVoltage, Key.boundAccount, Key.boundSlot, Key.authPending,
    Key.creditState, ob, List.mem_cons, List.not_mem_nil, or_false]
  omega

theorem level1Causes_ne_lastEndReason : Key.level1Causes p ≠ Key.lastEndReason p := by
  have := p.isLt
  simp only [Key.level1Causes, Key.lastEndReason, ob]
  omega

theorem enterEnded_reason (reason : Nat) : (d.enterEnded p reason).nat (Key.lastEndReason p) = reason := by
  unfold Dev.enterEnded
  exact (nat_of_val (val_lapsed p _ (lastEndReason_notin_endKeys p))).trans (Dev.nat_putNat _ _ _)

/-- The lock that is released moves only the lock of its port. -/
theorem lockOff_port : (∃ dr, (d.lockOff p).port p = { d.port p with lock := .released, drive := dr }) ∧ d.PortOnly p (d.lockOff p) := by
  unfold Dev.lockOff
  split
  · exact ⟨⟨(d.port p).drive, Dev.port_setPort_same _ _ _⟩, portOnly_setPort _ _ _⟩
  · exact ⟨⟨_, Dev.port_setPort_same _ _ _⟩, portOnly_setPort _ _ _⟩

theorem val_lockOff (k : Nat) : (d.lockOff p).val k = d.val k := by simp only [Dev.val, (Dev.lockOff_keeps0 d p).get_obj rfl]

/-- FAULTED in state A releases the lock of a port without an open session. -/
theorem enterFaulted_port :
    (∃ b l dr, (d.enterFaulted p).port p = { (d.port p).over with session := .faulted, level2 := b, lock := l, drive := dr } ∧
      ((d.port p).pilot ≠ .a → l = (d.port p).lock)) ∧ d.PortOnly p (d.enterFaulted p) := by
  unfold Dev.enterFaulted
  dsimp only
  generalize hw : ((d.endSession p).setPort p fun q => { q with session := .faulted }) = w
  have hwp : w.port p = { (d.port p).over with session := .faulted } := by rw [← hw, Dev.port_setPort_same, port_endSession]
  have hwo : d.PortOnly p w := hw ▸ (portOnly_endSession d p).trans (portOnly_setPort _ _ _)
  generalize hu : (if (w.port p).pilot = .a ∧ !(w.port p).opened then w.lockOff p else w) = u
  have hup : (∃ l dr, u.port p = { w.port p with lock := l, drive := dr } ∧ ((w.port p).pilot ≠ .a → l = (w.port p).lock)) ∧ w.PortOnly p u := by
    rw [← hu]
    split
    · next h =>
      obtain ⟨⟨dr, hdr⟩, ho⟩ := lockOff_port w p
      exact ⟨⟨.released, dr, hdr, fun hn => absurd h.1 hn⟩, ho⟩
    · exact ⟨⟨(w.port p).lock, (w.port p).drive, rfl, fun _ => rfl⟩, portOnly_of_ports rfl⟩
  obtain ⟨⟨l, dr, hl, hlock⟩, huo⟩ := hup
  obtain ⟨⟨b, hb⟩, ho⟩ := lapsed_port p u
  refine ⟨⟨b, l, dr, by rw [hb, hl, hwp], fun hn => ?_⟩, (hwo.trans huo).trans ho⟩
  rw [hwp] at hlock
  exact hlock hn

theorem val_enterFaulted {k : Nat} (h : k ∉ endKeys p) : (d.enterFaulted p).val k = d.val k := by
  have hl := fun e : Dev => val_lapsed p e h
  simp only [endKeys, List.mem_cons, List.not_mem_nil, or_false, not_or] at h
  unfold Dev.enterFaulted
  refine (hl _).trans ?_
  have hw : ((d.endSession p).setPort p fun q => { q with session := .faulted }).val k = d.val k := val_endSession d p h.1 h.2.1
  split
  · exact (val_lockOff _ p k).trans hw
  · exact hw

end

/-! ### Causes (13 R338) -/

section
variable (d : Dev) (p : PortId)

theorem logCause_obj (l : List PortId) (bit : Nat) (raised : Bool) (m : Int) : (d.logCause l bit raised m).obj = d.obj :=
  (Dev.logCause_keeps0 l bit raised m d).get_obj rfl

theorem hasCause_of_obj {e : Dev} (h : e.obj = d.obj) (bit : Nat) : e.hasCause p bit = d.hasCause p bit := by
  simp only [Dev.hasCause, Dev.causes, Dev.nat, Dev.int, Dev.val, h]

theorem testBit_setBit_true (m i : Nat) : (setBit m i true).testBit i = true := by
  simp [setBit, Nat.testBit_or, Nat.shiftLeft_eq]

/-- A cause that is raised on a port stands there. -/
theorem raiseCause_stands (bit : Nat) (m : Int) : (d.raiseCause [p] bit m).hasCause p bit = true := by
  unfold Dev.raiseCause
  by_cases h : d.hasCause p bit = true
  · simp [h]
  · have hf : [p].filter (fun p => !d.hasCause p bit) = [p] := by simp [h]
    dsimp only
    rw [hf, if_neg (by simp), hasCause_of_obj _ p (logCause_obj _ _ _ _ _)]
    simp only [List.foldl_cons, List.foldl_nil, Dev.hasCause, Dev.causes, Dev.nat_putNat, testBit_setBit_true]

theorem val_raiseCause (bit : Nat) (m : Int) {k : Nat} (h : k ≠ Key.level1Causes p) : (d.raiseCause [p] bit m).val k = d.val k := by
  have hf : ([p].filter fun p => !d.hasCause p bit) = [] ∨ ([p].filter fun p => !d.hasCause p bit) = [p] := by
    cases hb : d.hasCause p bit <;> simp [hb]
  unfold Dev.raiseCause
  dsimp only
  rcases hf with hf | hf <;> rw [hf]
  · rfl
  · rw [if_neg (by simp)]
    simp only [Dev.val, logCause_obj]
    exact Dev.val_putNat_other _ _ (Ne.symm h)

theorem raiseCause_ports (l : List PortId) (bit : Nat) (m : Int) : (d.raiseCause l bit m).ports = d.ports :=
  (Dev.raiseCause_keeps0 l bit m d).get_ports rfl

theorem hasCause_of_val {e : Dev} (h : e.val (Key.level1Causes p) = d.val (Key.level1Causes p)) (bit : Nat) : e.hasCause p bit = d.hasCause p bit := by
  unfold Dev.hasCause Dev.causes
  rw [nat_of_val h]

/-- A pilot fault in a session: its cause stands, and the port is FAULTED, now or once its contactors are open (07 R162; 13 R344). -/
theorem pilotFault_port (h : (d.port p).session ≠ .idle) :
    (d.pilotFault p).hasCause p 11 = true ∧ ((d.pilotFault p).port p).pilot = (d.port p).pilot ∧
      ((d.pilotFault p).port p).prox = (d.port p).prox ∧
      (match (d.port p).session with
      | .connected | .identifying | .authorised | .ended | .faulted => ((d.pilotFault p).port p).session = .faulted
      | x => ((d.pilotFault p).port p).session = x ∧ ((d.pilotFault p).port p).faultAfter = true) ∧ d.PortOnly p (d.pilotFault p) := by
  obtain ⟨e, he⟩ : ∃ e, e = d.bump (Key.pilotFaultCount p) := ⟨_, rfl⟩
  have hep : e.ports = d.ports := he ▸ Dev.bump_ports _ _ _
  have hport := port_of_ports hep
  have hlate : ∀ u : Dev, u = (e.setPort p fun q => { q with faultAfter := true }).raiseCause [p] 11 0 →
      u.hasCause p 11 = true ∧ (u.port p).pilot = (d.port p).pilot ∧ (u.port p).prox = (d.port p).prox ∧
        ((u.port p).session = (d.port p).session ∧ (u.port p).faultAfter = true) ∧ d.PortOnly p u := fun u hu => by
    have hup : u.port p = { d.port p with faultAfter := true } := by
      rw [hu, port_of_ports (raiseCause_ports _ _ _ _), Dev.port_setPort_same, hport]
    refine ⟨hu ▸ raiseCause_stands _ _ _ _, by rw [hup], by rw [hup], by rw [hup]; exact ⟨rfl, rfl⟩, ?_⟩
    rw [hu]
    exact ((portOnly_of_ports hep).trans (portOnly_setPort _ _ _)).trans (portOnly_of_ports (raiseCause_ports _ _ _ _))
  have hnow : ∀ u : Dev, u = ((e.raiseCause [p] 11 0).putNat (Key.lastEndReason p) 3).enterFaulted p →
      u.hasCause p 11 = true ∧ (u.port p).pilot = (d.port p).pilot ∧ (u.port p).prox = (d.port p).prox ∧
        (u.port p).session = .faulted ∧ d.PortOnly p u := fun u hu => by
    obtain ⟨⟨b, l, dr, hb, -⟩, ho⟩ := enterFaulted_port ((e.raiseCause [p] 11 0).putNat (Key.lastEndReason p) 3) p
    have hw : ((e.raiseCause [p] 11 0).putNat (Key.lastEndReason p) 3).ports = d.ports :=
      (Dev.putNat_ports _ _ _).trans ((raiseCause_ports _ _ _ _).trans hep)
    have hup : u.port p = { (d.port p).over with session := .faulted, level2 := b, lock := l, drive := dr } := by rw [hu, hb, port_of_ports hw]
    refine ⟨?_, by rw [hup]; rfl, by rw [hup]; rfl, by rw [hup], hu ▸ (portOnly_of_ports hw).trans ho⟩
    rw [hu, hasCause_of_val _ p (val_enterFaulted _ p (level1Causes_notin_endKeys p)),
      hasCause_of_val _ p (Dev.val_putNat_other _ _ (level1Causes_ne_lastEndReason p).symm)]
    exact raiseCause_stands e p 11 0
  have heq : d.pilotFault p = match (d.port p).session with
      | .closing | .energised | .stopping | .opening => (e.setPort p fun q => { q with faultAfter := true }).raiseCause [p] 11 0
      | .faulted => e.raiseCause [p] 11 0
      | _ => ((e.raiseCause [p] 11 0).putNat (Key.lastEndReason p) 3).enterFaulted p := by
    rw [Dev.pilotFault, if_neg h]
    dsimp only
    rw [← he, hport] <;> rfl
  cases hs : (d.port p).session <;> simp only [hs] at heq ⊢
  case idle => exact absurd hs h
  case faulted =>
    have hup : (d.pilotFault p).ports = d.ports := by rw [heq]; exact (raiseCause_ports _ _ _ _).trans hep
    exact ⟨heq ▸ raiseCause_stands e p 11 0, by rw [port_of_ports hup], by rw [port_of_ports hup], by rw [port_of_ports hup, hs],
      portOnly_of_ports hup⟩
  case closing | energised | stopping | opening => simpa only [hs] using hlate _ heq
  case connected | identifying | authorised | ended => exact hnow _ heq

theorem val_pilotFault {k : Nat} (h : k ∉ endKeys p) (h1 : k ≠ Key.pilotFaultCount p) (h2 : k ≠ Key.level1Causes p) (h3 : k ≠ Key.lastEndReason p) :
    (d.pilotFault p).val k = d.val k := by
  unfold Dev.pilotFault
  split
  · rfl
  · have hb : ∀ e : Dev, e.obj = (d.bump (Key.pilotFaultCount p)).obj → (e.raiseCause [p] 11 0).val k = d.val k := fun e he =>
      by
      rw [val_raiseCause e p 11 0 h2, ← Dev.val_bump_other d 1 (Ne.symm h1)]
      simp only [Dev.val, he]
    dsimp only
    split
    all_goals first
      | exact hb _ rfl
      | exact (val_enterFaulted _ p h).trans ((Dev.val_putNat_other _ _ (Ne.symm h3)).trans (hb _ rfl))

/-- A stop of the vehicle or of the session logic: it ends the session before CLOSING, and stands later (07 R177). -/
theorem sessionStop_late (reason : Nat) (h : (d.port p).session = .closing ∨ (d.port p).session = .energised) :
    d.sessionStop p reason = d.setPort p fun q => { q with stop := some (q.stop.getD reason) } := by
  unfold Dev.sessionStop
  rcases h with h | h <;> rw [h]

end

end Sys2Proof.Machine
end

section
/-! PROOFS. Accepted pilot states (07 R162, R165, R166, R177). -/

namespace Sys2Proof.Machine

/-! ### The readings -/

section
variable {s : State} {p : PortId} {hi lo : Int} {n k ratio : Nat} {st : Pilot}

/-- The device whose readings of a pilot and of the proximity are new. -/
def Dev.withReadings (d : Dev) (p : PortId) (hi lo : Int) (ratio : Nat) : Dev :=
  ((d.putInt (Key.pilotHigh p) hi).putInt (Key.pilotLow p) lo).setPort p fun q => { q with prox := ratio }

theorem port_withReadings (d : Dev) : (d.withReadings p hi lo ratio).port p = { d.port p with prox := ratio } := by
  unfold Dev.withReadings
  rw [Dev.port_setPort_same, port_of_ports ((Dev.putInt_ports _ _ _).trans (Dev.putInt_ports _ _ _))]

theorem portOnly_withReadings (d : Dev) : d.PortOnly p (d.withReadings p hi lo ratio) :=
  (portOnly_of_ports ((Dev.putInt_ports _ _ _).trans (Dev.putInt_ports _ _ _))).trans (portOnly_setPort _ _ _)

theorem withReadings_keeps (d : Dev) : Keeps 16388 d (d.withReadings p hi lo ratio) := by
  unfold Dev.withReadings
  simp (maxDischargeDepth := 99)

theorem val_withReadings (d : Dev) {j : Nat} (h : j ∉ [Key.pilotHigh p, Key.pilotLow p]) : (d.withReadings p hi lo ratio).val j = d.val j := by
  simp only [List.mem_cons, List.not_mem_nil, or_false, not_or] at h
  exact (Dev.val_putInt_other _ _ (Ne.symm h.2)).trans (Dev.val_putInt_other _ _ (Ne.symm h.1))

variable (hp : s.dev.powered = true) (h7 : s.dev.clocks.i7Lost = false) (hb : 7 ≤ s.dev.power.bootStep)
include hp h7 hb

/-- Too few periods, or the state that stands, leave the readings only. -/
theorem pilot_unaccepted (h : ∀ y ∈ pilotOf (s.dev.port p).cp hi lo, n < y.2 ∨ y.1 = (s.dev.port p).pilot) :
    exec (.pilotStateAccepted p hi lo n ratio) s = .next { s with dev := s.dev.withReadings p hi lo ratio } := by
  have hg : (!s.dev.powered || s.dev.clocks.i7Lost || decide (s.dev.power.bootStep < 7)) = false := by simp [hp, h7, hb]
  show State.onDev s _ = _
  rw [State.onDev, pilotStateAccepted, hg]
  simp only [Bool.false_eq_true, if_false]
  rw [← Dev.withReadings, port_withReadings]
  dsimp only
  split
  · rfl
  · next x m hx => rw [if_pos (h _ hx)]

/-- A state that is new and has stood long enough is accepted. -/
theorem pilot_accepted (ho : pilotOf (s.dev.port p).cp hi lo = some (st, k)) (hk : k ≤ n) (hne : st ≠ (s.dev.port p).pilot) :
    exec (.pilotStateAccepted p hi lo n ratio) s =
      .next { s with dev := ((s.dev.withReadings p hi lo ratio).pilotAccepted p st ratio).settle } := by
  have hg : (!s.dev.powered || s.dev.clocks.i7Lost || decide (s.dev.power.bootStep < 7)) = false := by simp [hp, h7, hb]
  have hn : ¬ n < k := by omega
  show State.onDev s _ = _
  rw [State.onDev, pilotStateAccepted, hg]
  simp only [Bool.false_eq_true, if_false]
  rw [← Dev.withReadings, port_withReadings]
  simp only [ho, hn, hne, or_self, if_false]

end

/-! ### The session of an accepted state -/

/-- The device with new readings, on which a pilot state stands since now. -/
def Dev.withPilot (d : Dev) (p : PortId) (hi lo : Int) (ratio : Nat) (st : Pilot) : Dev :=
  (d.withReadings p hi lo ratio).setPort p fun q => { q with pilot := st, pilotAt := (d.withReadings p hi lo ratio).tick7 }

section
variable (d : Dev) (p : PortId) (hi lo : Int) (ratio : Nat) (st : Pilot)

theorem withPilot_keeps : Keeps 16388 d (d.withPilot p hi lo ratio st) := Dev.setPort_keeps _ _ _ (by decide) (withReadings_keeps d)

theorem port_withPilot : (d.withPilot p hi lo ratio st).port p = { d.port p with prox := ratio, pilot := st, pilotAt := d.tick7 } := by
  have ht : (d.withReadings p hi lo ratio).tick7 = d.tick7 := by simp only [Dev.tick7, (withReadings_keeps d).get_time rfl]
  unfold Dev.withPilot
  rw [Dev.port_setPort_same, port_withReadings, ht]

theorem portOnly_withPilot : d.PortOnly p (d.withPilot p hi lo ratio st) := (portOnly_withReadings d).trans (portOnly_setPort _ _ _)

theorem val_withPilot {j : Nat} (h : j ∉ [Key.pilotHigh p, Key.pilotLow p]) : (d.withPilot p hi lo ratio st).val j = d.val j :=
  val_withReadings (ratio := ratio) d h

end

/-! ### A vehicle that is detected (07 R165, R177) -/

section
variable {d : Dev} {p : PortId}

theorem enterIdentifying_port (h : (d.port p).session ≠ .ended) (hm : d.mode p ≠ 0) :
    ∃ f : Port → Port, d.enterIdentifying p = d.setPort p f ∧ ∀ q, f q = { q with session := .identifying, evMatch := (f q).evMatch } := by
  unfold Dev.enterIdentifying
  simp only [hm, if_false, h, decide_false, Bool.false_eq_true]
  exact ⟨_, rfl, fun _ => rfl⟩

theorem lockOn_locks (h : d.nat (Key.lockType p) ≠ 0) :
    d.lockOn p = (d.setPort p fun q => { q with lock := .locking (d.tick7 + 500), drive := some (true, d.tick7) }).say (.lock p true) := by
  unfold Dev.lockOn
  rw [if_neg h]

/-- The set-up of a session: 5 % duty from now, basic charging, or the integration to the bus. -/
theorem beginSetup_port (d : Dev) (p : PortId) :
    (∃ at' b, (d.beginSetup p).port p = { d.port p with setupAt := at', basic := b } ∧
      (d.annexPort p = false → d.nat (Key.protocols p) ≠ 0 → d.unitIn (0x08 + p) = true → at' = some d.nowMs)) ∧
      d.PortOnly p (d.beginSetup p) := by
  have same : ∀ e : Dev, e.ports = d.ports → e.port p = { d.port p with setupAt := (d.port p).setupAt, basic := (d.port p).basic } ∧ d.PortOnly p e :=
    fun e he => ⟨port_of_ports he p, portOnly_of_ports he⟩
  unfold Dev.beginSetup
  split
  · next h =>
    split
    · obtain ⟨h1, h2⟩ := same _ (canOf_ports d p .integrating)
      exact ⟨⟨_, _, h1, fun hn => by rw [h] at hn; cases hn⟩, h2⟩
    · obtain ⟨h1, h2⟩ := same d rfl
      exact ⟨⟨_, _, h1, fun hn => by rw [h] at hn; cases hn⟩, h2⟩
  · split
    · next h =>
      obtain ⟨h1, h2⟩ := same d rfl
      exact ⟨⟨_, _, h1, fun _ hn => absurd h hn⟩, h2⟩
    · split
      · exact ⟨⟨some d.nowMs, (d.port p).basic, Dev.port_setPort_same _ _ _, fun _ _ _ => rfl⟩, portOnly_setPort _ _ _⟩
      · next h => exact ⟨⟨(d.port p).setupAt, true, Dev.port_setPort_same _ _ _, fun _ _ hn => absurd hn h⟩, portOnly_setPort _ _ _⟩

/-- The rating of the cable of a port. -/
def Dev.ratingOf (d : Dev) (p : PortId) (ratio : Nat) : Nat :=
  if d.flag (Key.proximityMode p) then d.nat (Key.fixedCableRating p) else cableOf ratio

/-- The device on which a vehicle is detected. -/
def Dev.detected (d : Dev) (p : PortId) (ratio : Nat) : Dev :=
  (d.putNat (Key.cableRating p) (d.ratingOf p ratio)).setPort p fun q => { q with session := .connected }

theorem detected_keeps (d : Dev) (p : PortId) (ratio : Nat) : Keeps 16388 d (d.detected p ratio) := by
  unfold Dev.detected
  simp (maxDischargeDepth := 99)

theorem port_detected (d : Dev) (p : PortId) (ratio : Nat) : (d.detected p ratio).port p = { d.port p with session := .connected } := by
  unfold Dev.detected
  rw [Dev.port_setPort_same, port_of_ports (Dev.putNat_ports _ _ _)]

theorem portOnly_detected (d : Dev) (p : PortId) (ratio : Nat) : d.PortOnly p (d.detected p ratio) :=
  (portOnly_of_ports (Dev.putNat_ports _ _ _)).trans (portOnly_setPort _ _ _)

theorem val_detected (d : Dev) (p : PortId) (ratio : Nat) {k : Nat} (h : k ≠ Key.cableRating p) : (d.detected p ratio).val k = d.val k :=
  Dev.val_putNat_other _ _ (Ne.symm h)

theorem connect_eq (d : Dev) (p : PortId) (ratio : Nat) :
    d.connect p ratio =
      if d.ratingOf p ratio = 0 ∨ d.ratingOf p ratio = 0xFFFF then ((d.detected p ratio).putNat (Key.lastEndReason p) 3).enterFaulted p
      else if ((d.detected p ratio).beginSetup p).nat (Key.lockType p) = 0 then ((d.detected p ratio).beginSetup p).enterIdentifying p
      else ((d.detected p ratio).beginSetup p).lockOn p := rfl

/-- A vehicle with a cable that is rated: the port identifies, or its lock is driven first. -/
theorem connect_rated {ratio : Nat} (hm : d.mode p ≠ 0) (h0 : d.ratingOf p ratio ≠ 0) (hf : d.ratingOf p ratio ≠ 0xFFFF) :
    ((d.connect p ratio).port p).pilot = (d.port p).pilot ∧ ((d.connect p ratio).port p).pilotAt = (d.port p).pilotAt ∧
      (d.connect p ratio).nat (Key.cableRating p) = d.ratingOf p ratio ∧
      (if d.nat (Key.lockType p) = 0 then ((d.connect p ratio).port p).session = .identifying
      else ((d.connect p ratio).port p).session = .connected ∧ ((d.connect p ratio).port p).lock = .locking (d.tick7 + 500) ∧
        (d.connect p ratio).out = d.out ++ [.lock p true]) ∧
      (d.annexPort p = false → d.nat (Key.protocols p) ≠ 0 → d.unitIn (0x08 + p) = true →
        ((d.connect p ratio).port p).setupAt = some d.nowMs) ∧
      d.PortOnly p (d.connect p ratio) ∧ Keeps 20486 d (d.connect p ratio) ∧
      ∀ k, k ≠ Key.cableRating p → (d.connect p ratio).val k = d.val k := by
  obtain ⟨w, hw⟩ : ∃ w, w = (d.detected p ratio).beginSetup p := ⟨_, rfl⟩
  have hwk : Keeps 20484 d w :=
    hw ▸ .after (by decide) (Dev.beginSetup_keeps0 (d.detected p ratio) p) ((detected_keeps d p ratio).mono (by decide))
  have hwobj : w.obj = (d.detected p ratio).obj := hw ▸ (Dev.beginSetup_keeps0 (d.detected p ratio) p).get_obj rfl
  have hwv : ∀ k, k ≠ Key.cableRating p → w.val k = d.val k := fun k hk => by
    rw [← val_detected d p ratio hk]
    simp only [Dev.val, hwobj]
  have hfar : ∀ i s, s ≠ 6 → s < 256 → (∃ n, i = 0x2000 + 0x100 * n ∨ i = 0x9400 + n ∨ i = 0x2010 + 0x100 * n) → ob i s ≠ Key.cableRating p :=
    fun i s h1 h2 _ h => by
      simp only [Key.cableRating, ob] at h
      omega
  have hlock : w.nat (Key.lockType p) = d.nat (Key.lockType p) := nat_of_val (hwv _ (hfar _ _ (by decide) (by decide) ⟨p, .inl rfl⟩))
  obtain ⟨⟨at', b, hwp, hat⟩, hwo⟩ := beginSetup_port (d.detected p ratio) p
  rw [← hw, port_detected] at hwp
  have hdm : ∀ i s, s ≠ 6 → s < 256 → (∃ n, i = 0x2000 + 0x100 * n ∨ i = 0x9400 + n ∨ i = 0x2010 + 0x100 * n) →
      (d.detected p ratio).nat (ob i s) = d.nat (ob i s) := fun i s h1 h2 h3 => nat_of_val (val_detected d p ratio (hfar i s h1 h2 h3))
  have hset : d.annexPort p = false → d.nat (Key.protocols p) ≠ 0 → d.unitIn (0x08 + p) = true → at' = some d.nowMs := fun h1 h2 h3 => by
    have hn : (d.detected p ratio).nowMs = d.nowMs := by simp only [Dev.nowMs, (detected_keeps d p ratio).get_dict rfl]
    rw [← hn]
    refine hat ?_ ?_ ?_
    · rw [← h1]
      unfold Dev.annexPort Dev.isDc Dev.mode Key.portMode Key.dcSystem
      rw [hdm _ _ (by decide) (by decide) ⟨p, .inl rfl⟩, hdm _ _ (by decide) (by decide) ⟨p, .inl rfl⟩]
    · unfold Key.protocols at h2 ⊢
      rwa [hdm _ _ (by decide) (by decide) ⟨p, .inl rfl⟩]
    · unfold Dev.unitIn Key.serviceState at h3 ⊢
      rwa [hdm _ _ (by decide) (by decide) ⟨_, .inr (.inl rfl)⟩]
  have hrat : w.nat (Key.cableRating p) = d.ratingOf p ratio := by
    have : (d.detected p ratio).nat (Key.cableRating p) = d.ratingOf p ratio := Dev.nat_putNat _ _ _
    rw [← this]
    simp only [Dev.nat, Dev.int, Dev.val, hwobj]
  have hwonly : d.PortOnly p w := (portOnly_detected d p ratio).trans (hw ▸ hwo)
  have hmode : w.mode p ≠ 0 := by
    unfold Dev.mode Key.portMode at hm ⊢
    rwa [nat_of_val (hwv _ (hfar _ _ (by decide) (by decide) ⟨p, .inl rfl⟩))]
  have hconn : d.connect p ratio = if w.nat (Key.lockType p) = 0 then w.enterIdentifying p else w.lockOn p := by
    rw [connect_eq, if_neg (by simp [h0, hf]), ← hw]
  by_cases hl : d.nat (Key.lockType p) = 0
  · obtain ⟨f, hf, hfq⟩ := enterIdentifying_port (d := w) (p := p) (by rw [hwp]; exact nofun) hmode
    rw [hconn, if_pos (hlock.trans hl), hf]
    have hp : (w.setPort p f).port p = { w.port p with session := .identifying, evMatch := (f (w.port p)).evMatch } :=
      (Dev.port_setPort_same _ _ _).trans (hfq _)
    rw [hwp] at hp
    simp only [hl, if_true, hp, true_and]
    exact ⟨(nat_of_val rfl).trans hrat, hset, hwonly.trans (portOnly_setPort _ _ _),
      Dev.setPort_keeps _ _ _ (by decide) (hwk.mono (by decide)), fun k hk => hwv k hk⟩
  · rw [hconn, if_neg (fun h => hl (hlock.symm.trans h)), lockOn_locks fun h => hl (hlock.symm.trans h)]
    have ht : w.tick7 = d.tick7 := by simp only [Dev.tick7, hwk.get_time rfl]
    have hp : ((w.setPort p fun q => { q with lock := .locking (w.tick7 + 500), drive := some (true, w.tick7) }).say (.lock p true)).port p =
        { w.port p with lock := .locking (d.tick7 + 500), drive := some (true, d.tick7) } := by
      rw [ht]
      exact Dev.port_setPort_same _ _ _
    rw [hwp] at hp
    simp only [hl, if_false, hp, true_and]
    exact ⟨(nat_of_val rfl).trans hrat, congrArg (· ++ _) (hwk.get_out rfl), hset, hwonly.trans (portOnly_setPort _ _ _),
      Dev.say_keeps _ _ (by decide) (Dev.setPort_keeps _ _ _ (by decide) (hwk.mono (by decide))), fun k hk => hwv k hk⟩

end

/-- A cable that is short, or none at a coded socket: a proximity fault. -/
theorem connect_unrated {d : Dev} {p : PortId} {ratio : Nat} (h : d.ratingOf p ratio = 0 ∨ d.ratingOf p ratio = 0xFFFF) :
    ((d.connect p ratio).port p).session = .faulted ∧ (d.connect p ratio).nat (Key.lastEndReason p) = 3 ∧ d.PortOnly p (d.connect p ratio) := by
  rw [connect_eq, if_pos h]
  obtain ⟨⟨b, l, dr, hp, -⟩, ho⟩ := enterFaulted_port ((d.detected p ratio).putNat (Key.lastEndReason p) 3) p
  exact ⟨by rw [hp], (nat_of_val (val_enterFaulted _ p (lastEndReason_notin_endKeys p))).trans (Dev.nat_putNat _ _ _),
    ((portOnly_detected d p ratio).trans (portOnly_of_ports (Dev.putNat_ports _ _ _))).trans ho⟩

/-- What an accepted state does, on the device on which it stands. -/
theorem pilotAccepted_eq (d : Dev) (p : PortId) (hi lo : Int) (ratio : Nat) (st : Pilot) :
    (d.withReadings p hi lo ratio).pilotAccepted p st ratio =
      let w := d.withPilot p hi lo ratio st
      match st with
      | .a => w.unplugged p
      | .e | .f | .unknown | .diode => w.pilotFault p
      | .b | .c | .d =>
        if st = .d ∧ !w.flag (Key.ventilationAvailable p) then w.pilotFault p
        else match (w.port p).session with
          | .idle => if w.mode p = 0 then w else w.connect p ratio
          | .closing | .energised => if st = .b ∧ (w.port p).pausedAt = none then w.sessionStop p 0 else w
          | _ => w := rfl

theorem ratingOf_withPilot (d : Dev) (p : PortId) (hi lo : Int) (ratio : Nat) (st : Pilot) :
    (d.withPilot p hi lo ratio st).ratingOf p ratio = d.ratingOf p ratio := by
  have h : ∀ s, s ≠ 4 → s ≠ 5 → s < 256 → ob (0x2000 + 0x100 * p) s ∉ [Key.pilotHigh p, Key.pilotLow p] := fun s h1 h2 h3 => by
    simp only [Key.pilotHigh, Key.pilotLow, ob, List.mem_cons, List.not_mem_nil, or_false]
    omega
  have h4 : Key.proximityMode p ∉ [Key.pilotHigh p, Key.pilotLow p] := by
    simp only [Key.proximityMode, Key.pilotHigh, Key.pilotLow, ob, List.mem_cons, List.not_mem_nil, or_false]
    omega
  have h5 : Key.fixedCableRating p ∉ [Key.pilotHigh p, Key.pilotLow p] := by
    simp only [Key.fixedCableRating, Key.pilotHigh, Key.pilotLow, ob, List.mem_cons, List.not_mem_nil, or_false]
    omega
  unfold Dev.ratingOf
  rw [flag_of_val (val_withPilot d p hi lo ratio st h4), nat_of_val (val_withPilot d p hi lo ratio st h5)]

section
variable {s : State} {p : PortId} {hi lo : Int} {n k ratio : Nat} {st : Pilot} (hp : s.dev.powered = true) (h7 : s.dev.clocks.i7Lost = false)
  (hb : 7 ≤ s.dev.power.bootStep) (ho : pilotOf (s.dev.port p).cp hi lo = some (st, k)) (hk : k ≤ n) (hne : st ≠ (s.dev.port p).pilot)
include hp h7 hb ho hk hne

/-- What an accepted state makes of the device, before the pilots are settled. -/
theorem accepted_as {e : Dev} (he : (s.dev.withReadings p hi lo ratio).pilotAccepted p st ratio = e) :
    exec (.pilotStateAccepted p hi lo n ratio) s = .next { s with dev := e.settle } := by
  rw [pilot_accepted hp h7 hb ho hk hne, he]

/-- B or C at an idle port: the vehicle is detected. -/
theorem accepted_connects (hst : st = .b ∨ st = .c) (hs : (s.dev.port p).session = .idle) (hm : s.dev.mode p ≠ 0) :
    exec (.pilotStateAccepted p hi lo n ratio) s = .next { s with dev := ((s.dev.withPilot p hi lo ratio st).connect p ratio).settle } := by
  refine accepted_as hp h7 hb ho hk hne ?_
  have hw := port_withPilot s.dev p hi lo ratio st
  have hm' : (s.dev.withPilot p hi lo ratio st).mode p ≠ 0 := by
    unfold Dev.mode at hm ⊢
    rwa [nat_of_val (val_withPilot s.dev p hi lo ratio st (by
      simp only [Key.portMode, Key.pilotHigh, Key.pilotLow, ob, List.mem_cons, List.not_mem_nil, or_false]
      omega))]
  rw [pilotAccepted_eq]
  rcases hst with rfl | rfl <;> simp only [reduceCtorEq, false_and, if_false, hw, hs, hm']

end

/-- The parts that an accepted state may change. -/
theorem accepted_within {s : State} {p : PortId} {hi lo : Int} {ratio : Nat} {st : Pilot} {e : Dev}
    (h : Keeps 2846726 (s.dev.withPilot p hi lo ratio st) e) :
    Within [.out, .obj, .hosts, .heart, .ports, .site, .safety, .energy, .ledger] s { s with dev := e.settle } :=
  Keeps.within (M := 2846726) (Dev.settle_keeps _ (by decide) (.after (by decide) h ((withPilot_keeps s.dev p hi lo ratio st).mono (by decide))))
    (by decide)

/-- The settings of a port that a detected vehicle is judged by are no readings of its pilot. -/
theorem setting_withPilot (d : Dev) (p : PortId) (hi lo : Int) (ratio : Nat) (st : Pilot) {i s : Nat}
    (h : s < 256 ∧ ((∃ q : PortId, i = 0x2000 + 0x100 * q) ∨ 0x9400 ≤ i)) : (d.withPilot p hi lo ratio st).nat (ob i s) = d.nat (ob i s) := by
  refine nat_of_val (val_withPilot d p hi lo ratio st ?_)
  obtain ⟨h1, ⟨q, rfl⟩ | h2⟩ := h <;>
  · have := p.isLt
    simp only [Key.pilotHigh, Key.pilotLow, ob, List.mem_cons, List.not_mem_nil, or_false]
    omega

/-- Settles O27: what an accepted pilot state does to the session of its port. -/
theorem pilotStatesDriveSessions : Obligations.PilotStatesDriveSessions := by
  unfold Obligations.PilotStatesDriveSessions
  dsimp only
  refine ⟨fun s p hi lo n ratio ⟨hp, h7, hb⟩ h => ?_, fun s p hi lo n k ratio st ⟨hp, h7, hb⟩ ho hk hne hst hs hm h0 hf => ?_,
    fun s p hi lo n k ratio st ⟨hp, h7, hb⟩ ho hk hne hst hs hm hx hc => ?_, fun s p hi lo n k ratio ⟨hp, h7, hb⟩ ho hk hne hs => ?_,
    fun s p hi lo n k ratio ⟨hp, h7, hb⟩ ho hk hne hs => ?_, fun s p hi lo n k ratio st ⟨hp, h7, hb⟩ ho hk hne hst hs => ?_⟩
  · exact ⟨_, pilot_unaccepted hp h7 hb h, port_withReadings _, portOnly_withReadings _,
      (withReadings_keeps s.dev).only (by decide) fun k hk => val_withReadings s.dev hk⟩
  · have hw := port_withPilot s.dev p hi lo ratio st
    have hwk := withPilot_keeps s.dev p hi lo ratio st
    have hset := fun i s' h => setting_withPilot s.dev p hi lo ratio st (i := i) (s := s') h
    have hrat := ratingOf_withPilot s.dev p hi lo ratio st
    have hm' : (s.dev.withPilot p hi lo ratio st).mode p ≠ 0 := by
      unfold Dev.mode Key.portMode at hm ⊢
      rwa [hset _ _ ⟨by decide, .inl ⟨p, rfl⟩⟩]
    obtain ⟨h1, h2, h3, h4, h5, h6, h7', h8⟩ := connect_rated (ratio := ratio) hm' (by rw [hrat]; exact h0) (by rw [hrat]; exact hf)
    have ht : (s.dev.withPilot p hi lo ratio st).tick7 = s.dev.tick7 := by simp only [Dev.tick7, hwk.get_time rfl]
    have hn : (s.dev.withPilot p hi lo ratio st).nowMs = s.dev.nowMs := by simp only [Dev.nowMs, hwk.get_dict rfl]
    have hlk : (s.dev.withPilot p hi lo ratio st).nat (Key.lockType p) = s.dev.nat (Key.lockType p) := hset _ _ ⟨by decide, .inl ⟨p, rfl⟩⟩
    have hax : (s.dev.withPilot p hi lo ratio st).annexPort p = s.dev.annexPort p := by
      unfold Dev.annexPort Dev.isDc Dev.mode Key.portMode Key.dcSystem
      rw [hset _ _ ⟨by decide, .inl ⟨p, rfl⟩⟩, hset _ _ ⟨by decide, .inl ⟨p, rfl⟩⟩]
    have hpr : (s.dev.withPilot p hi lo ratio st).nat (Key.protocols p) = s.dev.nat (Key.protocols p) := hset _ _ ⟨by decide, .inl ⟨p, rfl⟩⟩
    have hun : (s.dev.withPilot p hi lo ratio st).unitIn (0x08 + p) = s.dev.unitIn (0x08 + p) := by
      unfold Dev.unitIn Key.serviceState
      rw [hset _ _ ⟨by decide, .inr (by omega)⟩]
    rw [hlk, ht, hwk.get_out rfl] at h4
    rw [hax, hpr, hun, hn] at h5
    rw [hw] at h1 h2
    obtain ⟨c, hc⟩ : ∃ c, c = (s.dev.withPilot p hi lo ratio st).connect p ratio := ⟨_, rfl⟩
    rw [← hc] at h1 h2 h3 h4 h5 h6 h7' h8
    refine ⟨_, hc ▸ accepted_connects hp h7 hb ho hk hne hst hs hm, ?_, ?_, ?_, ?_, fun ha hb hc => ?_, ?_, ?_⟩
    · exact (read_settle Port.pilot (fun _ _ => rfl) c p).trans h1
    · exact (read_settle Port.pilotAt (fun _ _ => rfl) c p).trans h2
    · exact (nat_settle c _).trans (h3.trans hrat)
    · have hs1 := read_settle Port.session (fun _ _ => rfl) c p
      have hs2 := read_settle Port.lock (fun _ _ => rfl) c p
      dsimp only
      rw [hs1, hs2, (Dev.settle_keeps0 c).get_out rfl]
      exact h4
    · exact (read_settle Port.setupAt (fun _ _ => rfl) c p).trans (h5 ha hb hc)
    · exact onlyPilots_settle ((portOnly_withPilot s.dev p hi lo ratio st).trans h6)
    · refine Keeps.only (M := 20486) (Dev.settle_keeps _ (by decide) (.after (by decide) h7' (hwk.mono (by decide)))) (by decide) fun j hj => ?_
      simp only [List.mem_cons, List.not_mem_nil, or_false, not_or] at hj
      rw [val_settle, h8 j hj.2.2]
      exact val_withPilot s.dev p hi lo ratio st (by simp [hj.1, hj.2.1])
  · have hrat := ratingOf_withPilot s.dev p hi lo ratio st
    have hbad : (s.dev.withPilot p hi lo ratio st).ratingOf p ratio = 0 ∨ (s.dev.withPilot p hi lo ratio st).ratingOf p ratio = 0xFFFF := by
      rw [hrat, Dev.ratingOf, hx]
      exact hc
    obtain ⟨h1, h2, h3⟩ := connect_unrated hbad
    refine ⟨_, accepted_connects hp h7 hb ho hk hne hst hs hm, ?_, ?_, onlyPilots_settle ((portOnly_withPilot s.dev p hi lo ratio st).trans h3), ?_⟩
    · exact (read_settle Port.session (fun _ _ => rfl) _ p).trans h1
    · exact (nat_settle _ _).trans h2
    · exact accepted_within ((Dev.connect_keeps0 _ _ _).mono (by decide))
  · have hw := port_withPilot s.dev p hi lo ratio .a
    have hex := accepted_as hp h7 hb ho hk (Ne.symm hne) (ratio := ratio) (e := (s.dev.withPilot p hi lo ratio .a).enterEnded p 5) (by
      rw [pilotAccepted_eq]
      unfold Dev.unplugged
      simp only [hw]
      rcases hs with hs | hs <;> rw [hs])
    obtain ⟨⟨b, hpb⟩, hoo⟩ := enterEnded_port (s.dev.withPilot p hi lo ratio .a) p 5
    refine ⟨_, hex, ?_, ?_, ?_, ?_, onlyPilots_settle ((portOnly_withPilot s.dev p hi lo ratio .a).trans hoo),
      accepted_within ((Dev.enterEnded_keeps0 _ _ _).mono (by decide))⟩
    · exact (read_settle Port.session (fun _ _ => rfl) _ p).trans (by rw [hpb])
    · exact (read_settle Port.pilot (fun _ _ => rfl) _ p).trans (by rw [hpb, hw]; rfl)
    · exact (nat_settle _ _).trans (enterEnded_reason _ p 5)
    · exact (read_settle Port.start (fun _ _ => rfl) _ p).trans (by rw [hpb]; rfl)
  · have hw := port_withPilot s.dev p hi lo ratio .a
    have hlate := sessionStop_late (s.dev.withPilot p hi lo ratio .a) p 5 (by rw [hw]; exact hs)
    have hex := accepted_as hp h7 hb ho hk (Ne.symm hne) (ratio := ratio)
      (e := (s.dev.withPilot p hi lo ratio .a).setPort p fun q => { q with stop := some (q.stop.getD 5) }) (by
      rw [pilotAccepted_eq, ← hlate]
      unfold Dev.unplugged
      simp only [hw]
      rcases hs with hs | hs <;> rw [hs])
    refine ⟨_, hex, ?_, ?_, onlyPilots_settle ((portOnly_withPilot s.dev p hi lo ratio .a).trans (portOnly_setPort _ _ _)), ?_⟩
    · exact (read_settle Port.session (fun _ _ => rfl) _ p).trans (by rw [Dev.port_setPort_same, hw])
    · exact (read_settle Port.stop (fun _ _ => rfl) _ p).trans (by rw [Dev.port_setPort_same, hw])
    · refine Keeps.only (M := 16388) (Dev.settle_keeps _ (by decide) (Dev.setPort_keeps _ _ _ (by decide) (withPilot_keeps s.dev p hi lo ratio .a))) (by decide)
        fun j hj => ?_
      rw [val_settle]
      exact val_withPilot s.dev p hi lo ratio .a hj
  · have hw := port_withPilot s.dev p hi lo ratio st
    have hex := accepted_as hp h7 hb ho hk hne (ratio := ratio) (e := (s.dev.withPilot p hi lo ratio st).pilotFault p) (by
      rw [pilotAccepted_eq]
      rcases hst with rfl | rfl | rfl | rfl <;> rfl)
    obtain ⟨h1, h2, -, h4, h5⟩ := pilotFault_port (s.dev.withPilot p hi lo ratio st) p (by rw [hw]; exact hs)
    rw [hw] at h2 h4
    have hc := val_settle ((s.dev.withPilot p hi lo ratio st).pilotFault p) (Key.level1Causes p)
    refine ⟨_, hex, ?_, (hasCause_of_val _ p hc 11).trans h1, ?_, onlyPilots_settle ((portOnly_withPilot s.dev p hi lo ratio st).trans h5),
      accepted_within ((Dev.pilotFault_keeps0 _ _).mono (by decide))⟩
    · exact (read_settle Port.pilot (fun _ _ => rfl) _ p).trans h2
    · have hs1 := read_settle Port.session (fun _ _ => rfl) ((s.dev.withPilot p hi lo ratio st).pilotFault p) p
      have hs2 := read_settle Port.faultAfter (fun _ _ => rfl) ((s.dev.withPilot p hi lo ratio st).pilotFault p) p
      dsimp only
      rw [hs1, hs2]
      exact h4

end Sys2Proof.Machine
end

section
/-! PROOFS. Plugs, locks and fallbacks (07 R164 to R166, R171). -/

namespace Sys2Proof.Machine

section
variable {s : State} {p : PortId} {n : Nat}

/-- 10 s without a high-level session: basic charging, or the end (07 R164). -/
theorem setup_times_out (hp : s.dev.powered = true) (hn : (s.dev.port p).setupAt = some n) (ht : n + 10000 ≤ s.dev.nowMs)
    (hs : (s.dev.port p).session = .connected ∨ (s.dev.port p).session = .identifying) :
    Completes (.hlcSetupTimeout p) s fun t =>
      (if (s.dev.nat (Key.authModes p)).testBit 2 = true then
        (t.dev.port p).basic = true ∧ (t.dev.port p).steadyTill = some (s.dev.nowMs + 3000) ∧ (t.dev.port p).setupAt = none ∧
        (t.dev.port p).session = (s.dev.port p).session
      else (t.dev.port p).session = .ended ∧ t.dev.nat (Key.lastEndReason p) = 6) ∧ OnlyPilots p s t ∧
        Within [.out, .obj, .hosts, .heart, .ports, .site, .safety, .energy, .ledger] s t := by
  have hex : exec (.hlcSetupTimeout p) s = .next { s with dev := (s.dev.hlcFallback p).settle } := by
    show State.onDev s _ = _
    simp only [State.onDev, hlcSetupTimeout, hn, hp, ht, hs, and_self, if_true]
  have hw : Within [.out, .obj, .hosts, .heart, .ports, .site, .safety, .energy, .ledger] s { s with dev := (s.dev.hlcFallback p).settle } :=
    Keeps.within (M := 2838534) (Dev.settle_keeps _ (by decide) (Dev.hlcFallback_keeps0 _ _)) (by decide)
  by_cases hb : (s.dev.nat (Key.authModes p)).testBit 2 = true
  · have he : s.dev.hlcFallback p = s.dev.setPort p fun q => { q with
        setupAt := none, proto := none, tls := false, handshake := false, basic := true, steadyTill := some (s.dev.nowMs + 3000) } := if_pos hb
    rw [he] at hex hw
    obtain ⟨c, hc⟩ := port_settle (s.dev.setPort p fun q => { q with
      setupAt := none, proto := none, tls := false, handshake := false, basic := true, steadyTill := some (s.dev.nowMs + 3000) }) p
    rw [Dev.port_setPort_same] at hc
    refine ⟨_, hex, ?_, onlyPilots_settle (portOnly_setPort _ _ _), hw⟩
    simp only [hb, if_true, hc, and_self]
  · have he : s.dev.hlcFallback p = s.dev.enterEnded p 6 := if_neg hb
    rw [he] at hex hw
    obtain ⟨⟨b, hpb⟩, ho⟩ := enterEnded_port s.dev p 6
    refine ⟨_, hex, ?_, onlyPilots_settle ho, hw⟩
    rw [if_neg hb]
    exact ⟨(read_settle Port.session (fun _ _ => rfl) _ p).trans (by rw [hpb]), (nat_settle _ _).trans (enterEnded_reason _ p 6)⟩

theorem steady_high_ends (hp : s.dev.powered = true) (hn : (s.dev.port p).steadyTill = some n) (ht : n ≤ s.dev.nowMs) :
    Completes (.steadyHighEnd p) s fun t =>
      t.dev.port p = { s.dev.port p with steadyTill := none, cp := (t.dev.port p).cp } ∧ OnlyPilots p s t ∧ Only [.ports] [] s t := by
  have hex : exec (.steadyHighEnd p) s = .next { s with dev := (s.dev.setPort p fun q => { q with steadyTill := none }).settle } := by
    show State.onDev s _ = _
    simp only [State.onDev, steadyHighEnd, hn, hp, ht, and_self, if_true]
  obtain ⟨c, hc⟩ := port_settle (s.dev.setPort p fun q => { q with steadyTill := none }) p
  rw [Dev.port_setPort_same] at hc
  exact ⟨_, hex, by dsimp only; rw [hc], onlyPilots_settle (portOnly_setPort _ _ _),
    Keeps.only (M := 16384) (Dev.settle_keeps _ (by decide) (Dev.setPort_keeps0 _ _ _)) (by decide) fun k _ => val_settle _ k⟩

variable {ratio : Nat} (hp : s.dev.powered = true) (h7 : s.dev.clocks.i7Lost = false)
include hp h7

/-- The device with a new proximity. -/
theorem proximity_read (hx : s.dev.flag (Key.proximityMode p) = false → 1 ≤ (s.dev.port p).session.num → (s.dev.port p).session.num ≤ 7 →
    cableOf ratio = s.dev.nat (Key.cableRating p)) :
    exec (.proximityBandChange p ratio) s = .next { s with dev := s.dev.setPort p fun q => { q with prox := ratio } } := by
  have hg : s.dev.powered ∧ !s.dev.clocks.i7Lost := ⟨hp, by simp [h7]⟩
  show State.onDev s _ = _
  rw [State.onDev, proximityBandChange, if_pos hg]
  rw [if_neg]
  rintro ⟨-, -, hf, h1, h2, h3⟩
  rw [Dev.port_setPort_same] at h1 h2
  exact h3 (hx (by simpa using hf) h1 h2)

/-- A cable that changes in a session (07 R165). -/
theorem cable_changes (hf : s.dev.flag (Key.proximityMode p) = false) (h1 : 1 ≤ (s.dev.port p).session.num)
    (h2 : (s.dev.port p).session.num ≤ 7) (hc : cableOf ratio ≠ s.dev.nat (Key.cableRating p)) :
    Completes (.proximityBandChange p ratio) s fun t =>
      (t.dev.port p).prox = ratio ∧ t.dev.hasCause p 11 = true ∧
      ((t.dev.port p).session = .faulted ∨ (t.dev.port p).faultAfter = true) ∧ OnlyPilots p s t ∧
        Within [.out, .obj, .hosts, .heart, .ports, .site, .safety, .energy, .ledger] s t := by
  obtain ⟨w, hw⟩ : ∃ w, w = s.dev.setPort p fun q => { q with prox := ratio } := ⟨_, rfl⟩
  have hwp : w.port p = { s.dev.port p with prox := ratio } := by rw [hw, Dev.port_setPort_same]
  have hwk : Keeps 16384 s.dev w := hw ▸ Dev.setPort_keeps0 _ _ _
  have hex : exec (.proximityBandChange p ratio) s = .next { s with dev := (w.pilotFault p).settle } := by
    have hg : s.dev.powered ∧ !s.dev.clocks.i7Lost := ⟨hp, by simp [h7]⟩
    have hval : ∀ k, w.val k = s.dev.val k := fun k => by rw [hw]; rfl
    show State.onDev s _ = _
    rw [State.onDev, proximityBandChange, if_pos hg, ← hw]
    rw [if_pos]
    refine ⟨?_, ?_, ?_, ?_, ?_, ?_⟩
    · simpa only [Dev.powered, hwk.get_power rfl] using hp
    · simp only [hwk.get_clocks rfl, h7, Bool.not_false]
    · rw [flag_of_val (hval _), hf]
      rfl
    · rwa [hwp]
    · rwa [hwp]
    · rwa [nat_of_val (hval _)]
  obtain ⟨h3, -, h4, h5, h6⟩ := pilotFault_port w p (by rw [hwp]; intro h; rw [h] at h1; exact absurd h1 (by decide))
  refine ⟨_, hex, ?_, ?_, ?_, onlyPilots_settle (((hw ▸ portOnly_setPort _ _ _ : s.dev.PortOnly p w)).trans h6), ?_⟩
  · exact (read_settle Port.prox (fun _ _ => rfl) _ p).trans (h4.trans (by rw [hwp]))
  · exact (hasCause_of_val _ p (val_settle _ _) 11).trans h3
  · have hs1 := read_settle Port.session (fun _ _ => rfl) (w.pilotFault p) p
    have hs2 := read_settle Port.faultAfter (fun _ _ => rfl) (w.pilotFault p) p
    dsimp only
    rw [hs1, hs2]
    rw [hwp] at h5
    dsimp only at h5
    split at h5
    · exact .inl h5
    · exact .inl h5
    · exact .inl h5
    · exact .inl h5
    · exact .inl h5
    · exact .inr h5.2
  · exact Keeps.within (M := 2846726) (Dev.settle_keeps _ (by decide) (.after (by decide) (Dev.pilotFault_keeps0 _ _) (hwk.mono (by decide))))
      (by decide)

/-- The lock confirms (07 R166). -/
theorem lock_confirms (hl : (s.dev.port p).lock = .locking n) :
    Completes (.lockConfirmed p) s fun t =>
      (t.dev.port p).lock = .locked ∧
      (t.dev.port p).session = (if (s.dev.port p).session = .connected ∧ s.dev.mode p ≠ 0 then .identifying else (s.dev.port p).session) ∧
      OnlyPilots p s t ∧ Only [.ports] [] s t := by
  obtain ⟨w, hw⟩ : ∃ w, w = s.dev.setPort p fun q => { q with lock := .locked } := ⟨_, rfl⟩
  have hwp : w.port p = { s.dev.port p with lock := .locked } := by rw [hw, Dev.port_setPort_same]
  have hwk : Keeps 16384 s.dev w := hw ▸ Dev.setPort_keeps0 _ _ _
  have hwo : s.dev.PortOnly p w := hw ▸ portOnly_setPort _ _ _
  have hwv : ∀ k, w.val k = s.dev.val k := fun k => by rw [hw]; rfl
  have hg : (!s.dev.powered || s.dev.clocks.i7Lost) = false := by simp [hp, h7]
  have hex : exec (.lockConfirmed p) s = .next { s with dev := if (w.port p).session = .connected then (w.enterIdentifying p).settle else w } := by
    show State.onDev s _ = _
    simp only [State.onDev, lockConfirmed, hl, hg, Bool.false_eq_true, if_false, ← hw]
  by_cases hs : (s.dev.port p).session = .connected
  · rw [if_pos (by rw [hwp]; exact hs)] at hex
    by_cases hm : s.dev.mode p = 0
    · have he : w.enterIdentifying p = w := if_pos (show w.mode p = 0 from (nat_of_val (hwv _)).trans hm)
      rw [he] at hex
      refine ⟨_, hex, (read_settle Port.lock (fun _ _ => rfl) w p).trans (by rw [hwp]), ?_, onlyPilots_settle hwo,
        Keeps.only (M := 16384) (Dev.settle_keeps _ (by decide) hwk) (by decide) fun k _ => (val_settle _ k).trans (hwv k)⟩
      rw [if_neg (by simp [hm])]
      exact (read_settle Port.session (fun _ _ => rfl) w p).trans (by rw [hwp])
    · obtain ⟨f, hf, hfq⟩ := enterIdentifying_port (d := w) (p := p) (by rw [hwp, hs]; exact nofun)
        (show w.mode p ≠ 0 from fun h => hm ((nat_of_val (hwv _)).symm.trans h))
      rw [hf] at hex
      have hfp : (w.setPort p f).port p = { w.port p with session := .identifying, evMatch := (f (w.port p)).evMatch } :=
        (Dev.port_setPort_same _ _ _).trans (hfq _)
      refine ⟨_, hex, (read_settle Port.lock (fun _ _ => rfl) _ p).trans (by rw [hfp, hwp]), ?_, onlyPilots_settle (hwo.trans (portOnly_setPort _ _ _)),
        Keeps.only (M := 16384) (Dev.settle_keeps _ (by decide) (Dev.setPort_keeps _ _ _ (by decide) hwk)) (by decide)
          fun k _ => (val_settle _ k).trans (hwv k)⟩
      rw [if_pos ⟨hs, hm⟩]
      exact (read_settle Port.session (fun _ _ => rfl) _ p).trans (by rw [hfp])
  · rw [if_neg (by rw [hwp]; exact hs)] at hex
    refine ⟨_, hex, by dsimp only; rw [hwp], ?_, fun q hq => ?_, hwk.only (by decide) fun k _ => hwv k⟩
    · rw [if_neg (by simp [hs])]
      dsimp only
      rw [hwp]
    · dsimp only
      rw [hwo q hq]

/-- The Annex A permission input (07 R171). -/
theorem permission_changes (level : Bool) (hd : s.dev.isDc p = true) (ha : s.dev.nat (Key.dcSystem p) = 1)
    (hs : (s.dev.port p).session = .closing ∨ (s.dev.port p).session = .energised) :
    Completes (.permissionInputChange p level) s fun t =>
      (t.dev.port p).permission = level ∧ (t.dev.port p).session = (s.dev.port p).session ∧
      (t.dev.port p).stop = (if level then (s.dev.port p).stop else some ((s.dev.port p).stop.getD 0)) ∧ OnlyPilots p s t ∧
      Only [.ports] [] s t := by
  obtain ⟨w, hw⟩ : ∃ w, w = s.dev.setPort p fun q => { q with permission := level } := ⟨_, rfl⟩
  have hwp : w.port p = { s.dev.port p with permission := level } := by rw [hw, Dev.port_setPort_same]
  have hwk : Keeps 16384 s.dev w := hw ▸ Dev.setPort_keeps0 _ _ _
  have hwo : s.dev.PortOnly p w := hw ▸ portOnly_setPort _ _ _
  have hex : exec (.permissionInputChange p level) s = .next { s with dev := if level then w else (w.sessionStop p 0).settle } := by
    show State.onDev s _ = _
    rw [State.onDev, permissionInputChange, if_pos ⟨hp, by simp [h7], hd, ha⟩, ← hw]
  cases level with
  | true =>
    refine ⟨_, hex, ?_⟩
    simp only [if_true, hwp, true_and]
    exact ⟨fun q hq => by rw [hwo q hq], hwk.only (by decide) fun k _ => by rw [hw]; rfl⟩
  | false =>
    rw [sessionStop_late w p 0 (by rw [hwp]; exact hs)] at hex
    obtain ⟨c, hc⟩ := port_settle (w.setPort p fun q => { q with stop := some (q.stop.getD 0) }) p
    rw [Dev.port_setPort_same, hwp] at hc
    refine ⟨_, hex, ?_⟩
    simp only [Bool.false_eq_true, if_false, hc, true_and]
    exact ⟨onlyPilots_settle (hwo.trans (portOnly_setPort _ _ _)),
      Keeps.only (M := 16384) (Dev.settle_keeps _ (by decide) (Dev.setPort_keeps _ _ _ (by decide) hwk)) (by decide)
        fun k _ => (val_settle _ k).trans (by rw [hw]; rfl)⟩

end

/-- The lock does not confirm in 500 ms (07 R166). -/
theorem lock_times_out {s : State} {p : PortId} {n : Nat} (hp : s.dev.powered = true) (hl : (s.dev.port p).lock = .locking n) (ht : n ≤ s.dev.tick7)
    (hs : (s.dev.port p).session = .connected) (ha : (s.dev.port p).pilot ≠ .a) :
    Completes (.lockTimeout p) s fun t =>
      (t.dev.port p).lock = .fault ∧ (t.dev.port p).session = .faulted ∧ t.dev.nat (Key.lastEndReason p) = 3 ∧ OnlyPilots p s t ∧
      Within [.out, .obj, .hosts, .heart, .ports, .site, .safety, .energy, .ledger] s t := by
  obtain ⟨w, hw⟩ : ∃ w, w = (s.dev.setPort p fun q => { q with lock := .fault }).putNat (Key.lastEndReason p) 3 := ⟨_, rfl⟩
  have hwp : w.port p = { s.dev.port p with lock := .fault } := by
    rw [hw, port_of_ports (Dev.putNat_ports _ _ _), Dev.port_setPort_same]
  have hwk : Keeps 16388 s.dev w := hw ▸ Dev.putNat_keeps _ _ _ (by decide) (Dev.setPort_keeps _ _ _ (by decide) (.refl _ _))
  have hwo : s.dev.PortOnly p w := hw ▸ (portOnly_setPort _ _ _).trans (portOnly_of_ports (Dev.putNat_ports _ _ _))
  have hwr : w.nat (Key.lastEndReason p) = 3 := hw ▸ Dev.nat_putNat _ _ _
  have hex : exec (.lockTimeout p) s = .next { s with dev := (w.enterFaulted p).settle } := by
    show State.onDev s _ = _
    simp only [State.onDev, lockTimeout, hl, hp, ht, and_self, if_true, Dev.port_setPort_same, hs, ← hw]
  obtain ⟨⟨b, l, dr, hpb, hlock⟩, ho⟩ := enterFaulted_port w p
  refine ⟨_, hex, (read_settle Port.lock (fun _ _ => rfl) _ p).trans ?_, (read_settle Port.session (fun _ _ => rfl) _ p).trans (by rw [hpb]),
    (nat_settle _ _).trans ((nat_of_val (val_enterFaulted _ p (lastEndReason_notin_endKeys p))).trans hwr), onlyPilots_settle (hwo.trans ho),
    Keeps.within (M := 2838534) (Dev.settle_keeps _ (by decide) (.after (by decide) (Dev.enterFaulted_keeps0 _ _) (hwk.mono (by decide)))) (by decide)⟩
  rw [hpb]
  refine (hlock ?_).trans (by rw [hwp])
  rw [hwp]
  exact ha

/-- An answer leaves what was sent before it. -/
theorem mem_out_answer (d : Dev) (a : Ack) (r : HostReply) {o : Out} (h : o ∈ d.out) : o ∈ (d.answer a r).out := by
  unfold Dev.answer
  split
  · rw [Dev.owed_out, Dev.send, Dev.transmit]
    split
    · exact h
    · split
      · split
        · exact h
        · split
          · exact h
          · exact List.mem_append_left _ h
      · exact List.mem_append_left _ h
  · exact h

/-- UNLOCK: in Clearing the lock is driven back, and else nothing is (07 R166). -/
theorem unlocks {s : State} {m : HostMsg} {p : PortId} {data : Bytes} (h : s.dev.grants m = true) (ht : takes (Key.unlock p) data = true) :
    Completes (.unlock m p data) s fun t =>
      if s.dev.clearing p = true then
        let idle := decide (s.dev.nat (Key.lockType p) = 0 ∨ (s.dev.port p).lock = .released)
        t.dev.port p = { s.dev.port p with
          lock := .released, drive := if idle then (s.dev.port p).drive else some (false, s.dev.tick7) } ∧
        (idle = false → .lock p false ∈ t.dev.out) ∧ OnlyPort p s t ∧ Served m (.done (Key.unlock p)) [.ports] [] s t
      else t.dev.nat Key.lastAbortCode = Code.notClearing ∧
        Served m (.abort Code.notClearing (Key.unlock p)) [] [Key.lastAbortCode, Key.lastAbortObject, Key.lastAbortHost, Key.abortCount] s t := by
  have hh := (grants_iff.1 h).1
  have hports : (s.dev.admitted m).ports = s.dev.ports := (Dev.admitted_same s.dev m .ports (by decide) (by decide)).symm
  have hpo := port_of_ports hports
  have hcl : (s.dev.admitted m).clearing p = s.dev.clearing p := by simp only [Dev.clearing, hpo]
  have hex : exec (.unlock m p data) s = .next { s with
      dev := if s.dev.clearing p then ((s.dev.admitted m).lockOff p).ok ((s.dev.admitted m).ackOf m (Key.unlock p))
        else (s.dev.admitted m).abort ((s.dev.admitted m).ackOf m (Key.unlock p)) Code.notClearing } := by
    show State.onDev s _ = _
    rw [State.onDev, cmdWrite_granted h ht, unlockServe, hcl]
  by_cases hc : s.dev.clearing p = true
  · rw [if_pos hc] at hex
    have hlt : (s.dev.admitted m).nat (Key.lockType p) = s.dev.nat (Key.lockType p) := by
      have := p.isLt
      exact admitted_nat_far (.inr (by simp only [Key.lockType, ob]; omega))
    have htk : (s.dev.admitted m).tick7 = s.dev.tick7 := by
      simp only [Dev.tick7, show (s.dev.admitted m).time = s.dev.time from (Dev.admitted_same s.dev m .time (by decide) (by decide)).symm]
    obtain ⟨w, hw⟩ : ∃ w, w = (s.dev.admitted m).lockOff p := ⟨_, rfl⟩
    have hwp : w.port p = { s.dev.port p with
        lock := .released
        drive := if decide (s.dev.nat (Key.lockType p) = 0 ∨ (s.dev.port p).lock = .released) then (s.dev.port p).drive else some (false, s.dev.tick7) } ∧
        (decide (s.dev.nat (Key.lockType p) = 0 ∨ (s.dev.port p).lock = .released) = false → .lock p false ∈ w.out) := by
      rw [hw]
      unfold Dev.lockOff
      simp only [hlt, hpo]
      split
      · next hi =>
        rw [Dev.port_setPort_same, hpo]
        simp [hi]
      · next hi =>
        rw [show ∀ (e : Dev) (o : Out), (e.say o).port p = e.port p from fun _ _ => rfl, Dev.port_setPort_same, hpo, htk]
        simp [hi, Dev.say]
    have hwo : (s.dev.admitted m).PortOnly p w := hw ▸ (lockOff_port _ p).2
    have hwk : Keeps 16386 (s.dev.admitted m) w := hw ▸ Dev.lockOff_keeps0 _ _
    rw [← hw] at hex
    have hsv := served_ok (s := s) (m := m) (parts := [.out, .ports]) (keys := []) (Key.unlock p) hh hwk (by decide) (by decide)
      (fun k _ => by simp only [Dev.val, hwk.get_obj rfl]) (by simp)
    obtain ⟨a, ha⟩ : ∃ a, a = (s.dev.admitted m).ackOf m (Key.unlock p) := ⟨_, rfl⟩
    rw [← ha] at hex hsv
    have hap : ∀ q, (w.ok a).port q = w.port q := fun q =>
      port_of_ports (Dev.answer_same w a (.done a.key) .ports (by decide) (by decide) (by decide)).symm q
    obtain ⟨hr, ⟨o1, o2, o3, o4, o5⟩, hos⟩ := hsv
    refine ⟨_, hex, ?_⟩
    beta_reduce
    rw [if_pos hc]
    refine ⟨(hap p).trans hwp.1, fun hi => ?_, fun q hq => (hap q).trans ((hwo q hq).trans (hpo q)), hr,
      ⟨o1, o2, o3, fun x hx hn => o4 x hx fun hm => hn ?_, o5⟩, hos⟩
    · exact mem_out_answer w a _ (hwp.2 hi)
    · simp only [List.mem_cons, List.not_mem_nil, or_false] at hm ⊢
      rcases hm with h | h | h | h <;> simp [h]
  · rw [if_neg hc] at hex
    refine ⟨_, hex, ?_⟩
    beta_reduce
    rw [if_neg hc]
    exact ⟨nat_abort_lastCode _ _ _, served_abort_nil _ _ hh⟩

/-- Settles O28: the fallback to basic charging, cables that change, locks and the Annex A permission. -/
theorem plugsLocksAndFallbacks : Obligations.PlugsLocksAndFallbacks := by
  unfold Obligations.PlugsLocksAndFallbacks
  refine ⟨fun s p n hp hn ht hs => setup_times_out hp hn ht hs, fun s p n hp hn ht => steady_high_ends hp hn ht,
    fun s p ratio hp h7 hf h1 h2 hc => cable_changes hp h7 hf h1 h2 hc, fun s p ratio hp h7 hc => ?_,
    fun s p n hp h7 hl => lock_confirms hp h7 hl, fun s p n hp hl ht hs ha => lock_times_out hp hl ht hs ha,
    fun s m p data h ht => unlocks h ht, fun s p level hp h7 hd ha hs => permission_changes hp h7 level hd ha hs⟩
  exact ⟨_, proximity_read hp h7 fun _ _ _ => hc, Dev.port_setPort_same _ _ _, fun q hq => Dev.port_setPort_other _ _ hq,
    (Dev.setPort_keeps0 _ _ _).only (by decide) fun _ _ => rfl⟩

end Sys2Proof.Machine
end

section
/-! PROOFS. Starts and stops of ports (06 R156, R157; 07 R170, R180). -/

namespace Sys2Proof.Machine

/-- What refuses a start is not changed by the receipt of its message. -/
theorem admitted_startFault (d : Dev) (m : HostMsg) (p : PortId) : startFault (d.admitted m) p = startFault d p := by
  have hp := p.isLt
  have hports := port_of_ports (Dev.admitted_same d m .ports (by decide) (by decide)).symm p
  have hheart : (d.admitted m).heart = d.heart := (Dev.admitted_same d m .heart (by decide) (by decide)).symm
  have hcores : (d.admitted m).cores = d.cores := (Dev.admitted_same d m .cores (by decide) (by decide)).symm
  have hcause : (d.admitted m).nat (Key.level1Causes p) = d.nat (Key.level1Causes p) :=
    admitted_nat_far (.inr (by simp only [Key.level1Causes, ob]; omega))
  have hmode : (d.admitted m).nat (Key.portMode p) = d.nat (Key.portMode p) := admitted_nat_far (.inr (by simp only [Key.portMode, ob]; omega))
  have hserve : (d.admitted m).nat (Key.servingEngine p) = d.nat (Key.servingEngine p) :=
    admitted_nat_far (.inr (by simp only [Key.servingEngine, ob]; omega))
  unfold startFault Dev.causes Dev.mode Dev.served Dev.running
  rw [hports, hheart, hcause, hmode, hserve, hcores]

/-- A stop: it stands, and before CLOSING it ends the session (07 R177). -/
theorem placeStop_port (d : Dev) (p : PortId) (reason : Nat) :
    ((d.placeStop p reason).port p).stop = some reason ∧ ((d.placeStop p reason).port p).start = false ∧
      ((d.placeStop p reason).port p).session = (match (d.port p).session with | .identifying => .ended | .authorised => .ended | x => x) := by
  obtain ⟨w, hw⟩ : ∃ w, w = d.setPort p fun q => { q with stop := some reason, start := false } := ⟨_, rfl⟩
  have hwp : w.port p = { d.port p with stop := some reason, start := false } := by rw [hw, Dev.port_setPort_same]
  obtain ⟨⟨b, hb⟩, -⟩ := enterEnded_port w p reason
  have he : d.placeStop p reason = match (d.port p).session with
      | .identifying | .authorised => w.enterEnded p reason
      | _ => w := by
    unfold Dev.placeStop
    dsimp only
    rw [← hw, hwp] <;> rfl
  rw [he]
  cases hs : (d.port p).session <;> dsimp only
  case identifying | authorised =>
    rw [hb, hwp]
    exact ⟨rfl, rfl, rfl⟩
  all_goals
    rw [hwp]
    exact ⟨rfl, rfl, hs⟩

/-- Settles O31: starts and stops wait for the boundary, are refused at once where something stands against them, and act there. -/
theorem portCommandsActAtTheTickBoundary : Obligations.PortCommandsActAtTheTickBoundary := by
  unfold Obligations.PortCommandsActAtTheTickBoundary
  dsimp only
  refine ⟨fun s m p data h ht hf => ?_, fun s m p data c h ht hf => ?_, fun s m p data h hw ht => ?_, fun s m p data h hw ht => ?_,
    fun d p => ?_, placeStop_port, fun d p => ?_⟩
  · refine ⟨{ s with dev := (s.dev.admitted m).enqueue (.start ((s.dev.admitted m).ackOf m (Key.portStart p)) p) }, ?_, ownership_waits _⟩
    show State.onDev s _ = _
    rw [State.onDev, cmdWrite_granted h ht, portStartServe, admitted_startFault, hf]
  · refine ⟨{ s with dev := (s.dev.admitted m).abort ((s.dev.admitted m).ackOf m (Key.portStart p)) c }, ?_, nat_abort_lastCode _ _ _,
      served_abort_nil _ _ (grants_iff.1 h).1⟩
    show State.onDev s _ = _
    rw [State.onDev, cmdWrite_granted h ht, portStartServe, admitted_startFault, hf]
  · refine ⟨{ s with dev := (s.dev.admitted m).enqueue (.stop ((s.dev.admitted m).ackOf m (Key.portStop p)) p) }, ?_, ownership_waits _⟩
    show State.onDev s _ = _
    rw [State.onDev, cmdWrite_stop h hw ht, portStopServe]
  · refine ⟨{ s with dev := (s.dev.admitted m).enqueue (.exportStop ((s.dev.admitted m).ackOf m (Key.exportStop p)) p) }, ?_, ownership_waits _⟩
    show State.onDev s _ = _
    rw [State.onDev, cmdWrite_stop h hw ht, exportStopServe]
  · have hp : (d.placeStart p).port p = { d.port p with start := true, stop := none, exportStop := false } := Dev.port_setPort_same _ _ _
    rw [hp]
    exact ⟨rfl, rfl, rfl, portOnly_setPort d p _⟩
  · have hp : (d.applyExportStop p).port p = { d.port p with exportStop := true, exportAlloc := 0 } := Dev.port_setPort_same _ _ _
    rw [hp]
    exact ⟨rfl, rfl⟩

end Sys2Proof.Machine
end

section
/-! PROOFS. Converter modules (07 R172 to R176). -/

namespace Sys2Proof.Machine

/-! ### Frames of CAN4 and the counts of engine 12 -/

section
variable (d : Dev)

theorem can4Covered_same {k : Nat} (h : k ≠ Key.bytesCovered 12) : (d.can4Covered true).val k = d.val k := Dev.val_bump_other _ _ (Ne.symm h)

theorem sayCan4_out (id : Nat) (body : Bytes) : (d.sayCan4 id body).out = d.out ++ [can4Frame id body] := by
  unfold Dev.sayCan4 Dev.say
  exact congrArg (· ++ _) (Dev.bump_out _ _ _)

theorem sayCan4_modules (id : Nat) (body : Bytes) : (d.sayCan4 id body).modules = d.modules := (Dev.sayCan4_keeps0 d id body).get_modules rfl

theorem val_sayCan4 (id : Nat) (body : Bytes) {k : Nat} (h : k ≠ Key.bytesCovered 12) : (d.sayCan4 id body).val k = d.val k :=
  can4Covered_same d h

end

/-- A command that changes one module and sends a frame. -/
theorem frame_sent {s : State} {c : Instr} {m : Fin 16} {f : Module → Module} {id : Nat} {body : Bytes}
    (hex : exec c s = .next { s with dev := (s.dev.setModule m f).sayCan4 id body }) :
    Completes c s fun t =>
      t.dev.out = s.dev.out ++ [can4Frame id body] ∧ t.dev.modules[m] = f s.dev.modules[m] ∧
        (∀ k : Fin 16, k ≠ m → t.dev.modules[k] = s.dev.modules[k]) ∧ Only [.out, .modules] [Key.bytesCovered 12] s t := by
  have hm := sayCan4_modules (s.dev.setModule m f) id body
  refine ⟨_, hex, sayCan4_out _ _ _, ?_, fun k hk => ?_,
    Keeps.only (M := 32774) ?_ (by decide) fun k hk => val_sayCan4 _ _ _ (List.mem_singleton.not.1 hk)⟩
  · simp only [hm]
    exact Dev.module_setModule_same _ _ _
  · simp only [hm]
    exact Dev.module_setModule_other _ _ hk
  · exact Dev.sayCan4_keeps _ _ _ (by decide) (Dev.setModule_keeps _ _ _ (by decide) (.refl _ _))

theorem clamp_shares (count mode e : Nat) (i : Int) (_h : 0 < count) :
    let r := clampSetpoint false (some e) count mode i
    (e = 0 → r.1 = 0) ∧ r.2.2 = true ∧ count * r.2.1.natAbs ≤ e ∧ (0 ≤ i → 0 ≤ r.2.1 ∧ r.2.1 ≤ i) := by
  have hq : count * (e / count) ≤ e := Nat.mul_div_le e count
  have hc : clampSetpoint false (some e) count mode i =
    (if e = 0 then 0 else mode, max (-((e / count : Nat) : Int)) (min ((e / count : Nat) : Int) i), true) := rfl
  rw [hc]
  generalize e / count = l at hq
  have hn : (max (-(l : Int)) (min (l : Int) i)).natAbs ≤ l := by omega
  exact ⟨fun h0 => if_pos h0, rfl, le_trans (Nat.mul_le_mul_left count hn) hq, fun hi => by dsimp only; omega⟩

/-! ### Frames of the modules -/

theorem module_keys (m : Fin 16) :
    (Key.bytesCovered 12 ≠ Key.moduleState m ∧ Key.bytesCovered 12 ≠ Key.moduleFaults m) ∧ Key.moduleState m ≠ Key.moduleFaults m ∧
      Key.modulePresent m ≠ Key.moduleRatedCurrent m := by
  simp only [Key.bytesCovered, Key.moduleState, Key.moduleFaults, Key.modulePresent, Key.moduleRatedCurrent, ob]
  omega

/-- A sound STATUS of a module in use. -/
theorem status_taken {s : State} {m : Fin 16} {f : StatusFrame} (hi : s.dev.can4In = true) (hc : f.crcOk = true)
    (hl : (s.dev.modules[m]).lost = false) (hf : f.faults.toNat &&& 0x0E = 0) (hlag : ((s.dev.modules[m]).alive + 16 - f.alive) % 16 ≤ 2) :
    Completes (.status m f) s fun t =>
      t.dev.modules[m] = { s.dev.modules[m] with
        modeNow := f.modeNow, echo := f.alive, missing := 0, voltage := f.voltage.toNat, current := toSigned 16 f.current.toNat
        temp := toSigned 8 f.temp.toNat } ∧
      t.dev.nat (Key.moduleState m) = min f.modeNow 3 ∧ t.dev.nat (Key.moduleFaults m) = f.faults.toNat % 128 ∧
      (∀ k : Fin 16, k ≠ m → t.dev.modules[k] = s.dev.modules[k]) ∧
      Only [.modules] [Key.moduleState m, Key.moduleFaults m, Key.bytesCovered 12] s t := by
  obtain ⟨g, hg⟩ : ∃ g : Module → Module, g = fun x => { x with
      modeNow := f.modeNow, echo := f.alive, missing := 0, voltage := f.voltage.toNat, current := toSigned 16 f.current.toNat,
      temp := toSigned 8 f.temp.toNat } := ⟨_, rfl⟩
  obtain ⟨w, hw⟩ : ∃ w, w = (s.dev.can4Covered true).setModule m g := ⟨_, rfl⟩
  obtain ⟨u, hu⟩ : ∃ u, u = (w.putNat (Key.moduleState m) (min f.modeNow 3)).putNat (Key.moduleFaults m) (f.faults.toNat % 128) := ⟨_, rfl⟩
  have hcov : (s.dev.can4Covered true).modules = s.dev.modules := (Dev.can4Covered_keeps0 _ _).get_modules rfl
  have hum : u.modules = w.modules := hu ▸ (Dev.putNat_modules _ _ _).trans (Dev.putNat_modules _ _ _)
  have hm : u.modules[m] = g s.dev.modules[m] := by
    simp only [hum, hw]
    exact (Dev.module_setModule_same _ _ _).trans (by rw [hcov])
  have hex : exec (.status m f) s = .next { s with dev := u } := by
    have h1 : (u.modules[m]).lost = false := by rw [hm, hg]; exact hl
    have h2 : ¬ 2 < ((u.modules[m]).alive + 16 - (u.modules[m]).echo) % 16 := by rw [hm, hg]; exact Nat.not_lt.2 hlag
    show State.onDev s _ = _
    simp only [State.onDev, statusFrame, hi, hc, Bool.not_true, Bool.false_eq_true, if_false, ← hg, ← hw, ← hu, h1, hf, ne_eq, not_true_eq_false,
      decide_false, false_or, h2]
  obtain ⟨⟨k1, k2⟩, k3, -⟩ := module_keys m
  refine ⟨_, hex, hm.trans (by rw [hg]), ?_, hu ▸ Dev.nat_putNat _ _ _, fun k hk => ?_, Keeps.only (M := 32772) ?_ (by decide) fun k hk => ?_⟩
  · rw [hu, Dev.nat_putNat_other _ _ k3.symm, Dev.nat_putNat]
    exact (Fin.coe_min f.modeNow 3).symm
  · simp only [hum, hw]
    exact (Dev.module_setModule_other _ _ hk).trans (by rw [hcov])
  · rw [hu, hw]
    exact Dev.putNat_keeps _ _ _ (by decide) (Dev.putNat_keeps _ _ _ (by decide) (Dev.setModule_keeps _ _ _ (by decide)
      ((Dev.can4Covered_keeps0 _ _).mono (by decide))))
  · simp only [List.mem_cons, List.not_mem_nil, or_false, not_or] at hk
    rw [hu, Dev.val_putNat_other _ _ (Ne.symm hk.2.1), Dev.val_putNat_other _ _ (Ne.symm hk.1), hw]
    exact can4Covered_same s.dev hk.2.2

/-- A sound IDENT: the module is present (07 R176). -/
theorem ident_taken {s : State} {m : Fin 16} {f : IdentFrame} (hi : s.dev.can4In = true) (hc : f.crcOk = true) :
    Completes (.ident m f) s fun t =>
      t.dev.modules[m] = { s.dev.modules[m] with
        identAt := some s.dev.nowMs, bidirectional := f.modType.getLsbD 0, protocol := f.protocol.toNat } ∧
      t.dev.flag (Key.modulePresent m) = true ∧ t.dev.nat (Key.moduleRatedCurrent m) = f.current.toNat ∧
      (∀ k : Fin 16, k ≠ m → t.dev.modules[k] = s.dev.modules[k]) ∧
      Only [.modules] [Key.modulePresent m, Key.moduleRatedCurrent m, Key.bytesCovered 12] s t := by
  have hcov := Dev.can4Covered_keeps0 s.dev true
  have hn : (s.dev.can4Covered true).nowMs = s.dev.nowMs := by simp only [Dev.nowMs, hcov.get_dict rfl]
  obtain ⟨g, hg⟩ : ∃ g : Module → Module, g = fun x => { x with
      identAt := some s.dev.nowMs, bidirectional := f.modType.getLsbD 0, protocol := f.protocol.toNat } := ⟨_, rfl⟩
  obtain ⟨w, hw⟩ : ∃ w, w = (s.dev.can4Covered true).setModule m g := ⟨_, rfl⟩
  obtain ⟨u, hu⟩ : ∃ u, u = (w.putFlag (Key.modulePresent m) true).putNat (Key.moduleRatedCurrent m) f.current.toNat := ⟨_, rfl⟩
  have hum : u.modules = w.modules := hu ▸ (Dev.putNat_modules _ _ _).trans (Dev.putFlag_modules _ _ _)
  have hex : exec (.ident m f) s = .next { s with dev := u } := by
    show State.onDev s _ = _
    simp only [State.onDev, identFrame, hi, hc, Bool.not_true, Bool.false_eq_true, if_false, hn, ← hg, ← hw, ← hu]
  refine ⟨_, hex, ?_, ?_, hu ▸ Dev.nat_putNat _ _ _, fun k hk => ?_, Keeps.only (M := 32772) ?_ (by decide) fun k hk => ?_⟩
  · simp only [hum, hw]
    exact (Dev.module_setModule_same _ _ _).trans (by rw [hcov.get_modules rfl, hg])
  · rw [hu, flag_of_val (Dev.val_putNat_other _ _ (module_keys m).2.2.symm), Dev.flag_putFlag]
  · simp only [hum, hw]
    exact (Dev.module_setModule_other _ _ hk).trans (by rw [hcov.get_modules rfl])
  · rw [hu, hw]
    exact Dev.putNat_keeps _ _ _ (by decide) (Dev.putFlag_keeps _ _ _ (by decide) (Dev.setModule_keeps _ _ _ (by decide) (hcov.mono (by decide))))
  · simp only [List.mem_cons, List.not_mem_nil, or_false, not_or] at hk
    rw [hu, Dev.val_putNat_other _ _ (Ne.symm hk.2.1), Dev.val_putFlag_other _ _ (Ne.symm hk.1), hw]
    exact can4Covered_same s.dev hk.2.2

/-! ### Modules that leave (07 R176) -/

/-- A carrying set that shrinks may stop its port, and leaves the modules and their presence. -/
theorem carryingShrunk_leaves (d : Dev) (m : Fin 16) :
    (d.carryingShrunk m).modules = d.modules ∧ ∀ k : Fin 16, (d.carryingShrunk m).val (Key.modulePresent k) = d.val (Key.modulePresent k) := by
  refine ⟨(Dev.carryingShrunk_keeps0 d m).get_modules rfl, fun k => ?_⟩
  unfold Dev.carryingShrunk
  split
  · next p _ =>
    split
    · have hk : Key.modulePresent k ∉ endKeys p ∧ Key.modulePresent k ≠ Key.lastEndReason p := by
        have := p.isLt
        have := k.isLt
        simp only [endKeys, Key.modulePresent, Key.lastEndReason, Key.allocatedCurrent, Key.evTargetVoltage, Key.boundAccount, Key.boundSlot,
          Key.authPending, Key.creditState, ob, List.mem_cons, List.not_mem_nil, or_false]
        omega
      unfold Dev.placeStop
      dsimp only
      split
      · exact val_enterEnded _ p 8 hk.1 hk.2
      · exact val_enterEnded _ p 8 hk.1 hk.2
      · rfl
    · rfl
  · rfl

theorem settle_modules (d : Dev) : d.settle.modules = d.modules := (Dev.settle_keeps0 d).get_modules rfl

/-- No IDENT for 3 s (07 R176). -/
theorem presence_times_out {s : State} {m : Fin 16} {n : Nat} (hp : s.dev.powered = true) (hn : (s.dev.modules[m]).identAt = some n)
    (ht : n + 3000 ≤ s.dev.nowMs) :
    Completes (.modulePresenceTimeout m) s fun t =>
      t.dev.flag (Key.modulePresent m) = false ∧ (t.dev.modules[m]).identAt = none ∧ (t.dev.modules[m]).lost = false ∧
      (∀ k : Fin 16, k ≠ m → t.dev.modules[k] = s.dev.modules[k]) ∧
      Within [.out, .obj, .hosts, .heart, .ports, .modules, .site, .safety, .energy, .ledger] s t := by
  obtain ⟨w, hw⟩ : ∃ w, w = (s.dev.setModule m fun x => { x with identAt := none, lost := false, waiting := false, good := 0 }).putFlag
    (Key.modulePresent m) false := ⟨_, rfl⟩
  have hex : exec (.modulePresenceTimeout m) s = .next { s with dev := (w.carryingShrunk m).settle } := by
    show State.onDev s _ = _
    simp only [State.onDev, modulePresenceTimeout, hn, hp, ht, and_self, if_true, ← hw]
  obtain ⟨h1, h2⟩ := carryingShrunk_leaves w m
  have hmod : (w.carryingShrunk m).settle.modules = (s.dev.setModule m fun x => { x with
      identAt := none, lost := false, waiting := false, good := 0 }).modules :=
    (settle_modules _).trans (h1.trans (hw ▸ Dev.putFlag_modules _ _ _))
  have hm : ((w.carryingShrunk m).settle.modules)[m] = { s.dev.modules[m] with identAt := none, lost := false, waiting := false, good := 0 } := by
    simp only [hmod]
    exact Dev.module_setModule_same _ _ _
  have hwk : Keeps 32772 s.dev w := hw ▸ Dev.putFlag_keeps _ _ _ (by decide) (Dev.setModule_keeps _ _ _ (by decide) (.refl _ _))
  refine ⟨_, hex, ?_, by rw [hm], by rw [hm], fun k hk => ?_, Keeps.within (M := 2871302) (Dev.settle_keeps _ (by decide)
    (.after (by decide) (Dev.carryingShrunk_keeps0 _ _) (hwk.mono (by decide)))) (by decide)⟩
  · rw [flag_of_val (val_settle _ _), flag_of_val (h2 m), hw, Dev.flag_putFlag]
  · simp only [hmod]
    exact Dev.module_setModule_other _ _ hk

/-- A module that answers no setpoint is lost (07 R176). -/
theorem module_lost {s : State} {m : Fin 16} {p : PortId} (hp : s.dev.powered = true) (hm : 3 ≤ (s.dev.modules[m]).missing)
    (hl : (s.dev.modules[m]).lost = false) (hf : s.dev.flag (Key.modulePresent m) = true) (ho : s.dev.portOfModule m = some p) :
    Completes (.statusMissing m) s fun t =>
      t.dev.modules[m] = { s.dev.modules[m] with lost := true, good := 0 } ∧ m ∉ t.dev.carrying p ∧
      (∀ k : Fin 16, k ≠ m → t.dev.modules[k] = s.dev.modules[k]) ∧
      Within [.out, .obj, .hosts, .heart, .ports, .modules, .site, .safety, .energy, .ledger] s t := by
  obtain ⟨w, hw⟩ : ∃ w, w = ((s.dev.setModule m fun x => { x with lost := true, good := 0 }).bump (Key.moduleLossCount p)).general
    (.note 1 [m, (s.dev.setModule m fun x => { x with lost := true, good := 0 }).int (Key.moduleFaults m)]) := ⟨_, rfl⟩
  have hex : exec (.statusMissing m) s = .next { s with dev := (s.dev.loseModule m).settle } := by
    show State.onDev s _ = _
    rw [State.onDev, statusMissing, if_pos ⟨hp, hm⟩]
  have hlose : ∃ u, s.dev.loseModule m = u.carryingShrunk m ∧ Keeps 40964 s.dev u ∧
      u.modules = (s.dev.setModule m fun x => { x with lost := true, good := 0 }).modules := by
    have hg : ((s.dev.modules[m]).lost || !s.dev.flag (Key.modulePresent m)) = false := by simp only [hl, hf, Bool.not_true, Bool.or_self]
    unfold Dev.loseModule
    rw [hg]
    simp only [Bool.false_eq_true, if_false, ho]
    refine ⟨_, rfl, ?_, ?_⟩
    · exact Dev.general_keeps _ _ (by decide) (Dev.bump_keeps _ _ _ (by decide) (Dev.setModule_keeps _ _ _ (by decide) (.refl _ _)))
    · exact Dev.bump_modules _ _ _
  obtain ⟨u, hu, huk, hum⟩ := hlose
  rw [hu] at hex
  have hmod : (u.carryingShrunk m).settle.modules = (s.dev.setModule m fun x => { x with lost := true, good := 0 }).modules :=
    (settle_modules _).trans ((carryingShrunk_leaves u m).1.trans hum)
  have hmm : ((u.carryingShrunk m).settle.modules)[m] = { s.dev.modules[m] with lost := true, good := 0 } := by
    simp only [hmod]
    exact Dev.module_setModule_same _ _ _
  refine ⟨_, hex, hmm, fun hc => ?_, fun k hk => ?_, Keeps.within (M := 2879494) (Dev.settle_keeps _ (by decide)
    (.after (by decide) (Dev.carryingShrunk_keeps0 _ _) (huk.mono (by decide)))) (by decide)⟩
  · have := (List.mem_filter.1 hc).2
    rw [hmm] at this
    simp at this
  · simp only [hmod]
    exact Dev.module_setModule_other _ _ hk

/-! ### CAN4 is silent (07 R175) -/

section
variable (d : Dev) (p : PortId) (reason : Nat)

theorem dropFor_psafe : ((d.dropFor p reason).psafe p).enA = false ∧ ((d.dropFor p reason).psafe p).enB = false := by
  unfold Dev.dropFor Dev.drop
  dsimp only
  constructor <;> exact congrArg _ (Dev.psafe_setPsafe_same _ p _)

theorem dropFor_psafe_other {q : PortId} (h : q ≠ p) : (d.dropFor p reason).psafe q = d.psafe q := by
  unfold Dev.dropFor Dev.drop
  dsimp only
  refine (Dev.psafe_setPsafe_other _ _ h).trans ?_
  split <;> rfl

theorem isDc_of_obj {e : Dev} (h : e.obj = d.obj) (q : PortId) : e.isDc q = d.isDc q := by
  unfold Dev.isDc Dev.mode
  rw [nat_of_val (d := d) (by simp only [Dev.val, h])]

end

/-- The step of the silence for one port. -/
def Dev.silenced (d : Dev) (p : PortId) : Dev := if d.isDc p && ((d.psafe p).enA || (d.psafe p).enB) then d.dropFor p 3 else d

theorem silenced_keeps (d : Dev) (p : PortId) : Keeps 147456 d (d.silenced p) := by
  unfold Dev.silenced
  split
  · exact Dev.dropFor_keeps0 _ _ _
  · exact .refl _ _

theorem silenced_all (d : Dev) {l : List PortId} (hl : l.Nodup) {p : PortId} (hp : p ∈ l) :
    ((l.foldl Dev.silenced d).isDc p = d.isDc p) ∧
      (d.isDc p = true → ((l.foldl Dev.silenced d).psafe p).enA = false ∧ ((l.foldl Dev.silenced d).psafe p).enB = false) ∧
      (d.isDc p = false → (l.foldl Dev.silenced d).psafe p = d.psafe p) := by
  refine foldl_place (read := fun d p => (d.isDc p, d.psafe p)) (g := Dev.silenced)
    (R := fun _ x y => y.1 = x.1 ∧ (x.1 = true → y.2.enA = false ∧ y.2.enB = false) ∧ (x.1 = false → y.2 = x.2))
    (fun d c x hx => ?_) (fun d c => ?_) l d hl hp
  · unfold Dev.silenced
    split
    · exact Prod.ext (isDc_of_obj d ((Dev.dropFor_keeps0 d c 3).get_obj rfl) x) (dropFor_psafe_other d c 3 hx)
    · rfl
  · refine ⟨isDc_of_obj d ((silenced_keeps d c).get_obj rfl) c, fun h => ?_, fun h => ?_⟩
    · unfold Dev.silenced
      dsimp only at h ⊢
      split
      · exact dropFor_psafe d c 3
      · next hn =>
        rw [h] at hn
        simpa using hn
    · unfold Dev.silenced
      dsimp only at h ⊢
      rw [h]
      rfl

/-- 60 ms after CAN4 fell silent no DC port has an enable high (07 R175). -/
theorem can4_silence_drops {s : State} {n : Nat} (hp : s.dev.powered = true) (hs : s.dev.site.can4SilentAt = some n) (ht : n + 60 ≤ s.dev.tick7) :
    Completes .converterStopTimeout s fun t =>
      t.dev.site = { s.dev.site with can4SilentAt := none } ∧
      (∀ p, s.dev.isDc p = true → (t.dev.psafe p).enA = false ∧ (t.dev.psafe p).enB = false) ∧
      (∀ p, s.dev.isDc p = false → t.dev.psafe p = s.dev.psafe p) ∧ Only [.ports, .site, .safety] [] s t := by
  obtain ⟨w, hw⟩ : ∃ w : Dev, w = { s.dev with site := { s.dev.site with can4SilentAt := none } } := ⟨_, rfl⟩
  have hws : w.site = { s.dev.site with can4SilentAt := none } := by rw [hw]
  have hwk : Keeps 65536 s.dev w := hw ▸ keeps_site _ (by decide) (.refl _ _)
  have hdc : ∀ p, w.isDc p = s.dev.isDc p := fun p => isDc_of_obj s.dev (hwk.get_obj rfl) p
  have hps : ∀ p, w.psafe p = s.dev.psafe p := fun p => by simp only [Dev.psafe, hwk.get_safety rfl]
  have hfold : Keeps 147456 w (Dev.allPorts.foldl Dev.silenced w) :=
    foldl_keeps_prop (P := fun e => Keeps 147456 w e) (fun e p h => .after (by decide) (silenced_keeps e p) h) _ (.refl _ _)
  have hall := fun p => silenced_all w (List.nodup_finRange 8) (List.mem_finRange (p : PortId))
  have hex : exec .converterStopTimeout s = .next { s with dev := (Dev.allPorts.foldl Dev.silenced w).settle } := by
    show State.onDev s _ = _
    simp only [State.onDev, converterStopTimeout, hs, hp, ht, and_self, if_true, ← hw]
    rfl
  have hpf : ∀ p, (Dev.allPorts.foldl Dev.silenced w).settle.psafe p = (Dev.allPorts.foldl Dev.silenced w).psafe p := fun p => by
    simp only [Dev.psafe, (Dev.settle_keeps0 _).get_safety rfl]
  refine ⟨_, hex, ?_, fun p hd => ?_, fun p hd => ?_, Keeps.only (M := 212992) (Dev.settle_keeps _ (by decide) (.after (by decide) hfold
    (hwk.mono (by decide)))) (by decide) fun k _ => ?_⟩
  · exact ((Dev.settle_keeps0 _).get_site rfl).trans ((hfold.get_site rfl).trans hws)
  · dsimp only
    rw [hpf]
    exact (hall p).2.1 ((hdc p).trans hd)
  · exact (hpf p).trans (((hall p).2.2 ((hdc p).trans hd)).trans (hps p))
  · rw [val_settle]
    simp only [Dev.val, hfold.get_obj rfl, hwk.get_obj rfl]

/-- Settles O30: setpoints and configurations, status and identity, and modules that fall silent. -/
theorem modulesAreCommandedAndWatched : Obligations.ModulesAreCommandedAndWatched := by
  unfold Obligations.ModulesAreCommandedAndWatched
  dsimp only
  refine ⟨fun s m p ho hc hd => ?_, fun count mode e i h => clamp_shares count mode e i h, fun s m hc hd => ?_,
    fun s m f hi hc hl hf hlag => status_taken hi hc hl hf hlag, fun s m f hi hc => ?_, fun s m f hi => ?_, fun s m f hi hc => ident_taken hi hc,
    fun s m n hp hn ht => presence_times_out hp hn ht, fun s m p hp hm hl hf ho => module_lost hp hm hl hf ho,
    fun s n hp hs ht => can4_silence_drops hp hs ht⟩
  · have hex : exec (.setpoint m) s = State.onDev s (setpoint m) := rfl
    simp only [State.onDev, setpoint, ho, hc, hd, and_self, if_true] at hex
    exact frame_sent hex
  · have hex : exec (.config m) s = State.onDev s (configModule m) := rfl
    simp only [State.onDev, configModule, hc, hd, and_self, if_true] at hex
    obtain ⟨t, ht, hout, hrest⟩ := frame_sent hex
    refine ⟨t, ht, hout.trans ?_, hrest⟩
    cases s.dev.portOfModule m <;> rfl
  · have hne : Key.bytesCovered 12 ≠ Key.mismatchCount 12 := by decide
    refine ⟨{ s with dev := s.dev.can4Covered false }, ?_, ?_, (Dev.can4Covered_keeps0 _ _).only (by decide) fun k hk => ?_⟩
    · show State.onDev s _ = _
      simp only [State.onDev, statusFrame, hi, hc, Bool.not_true, Bool.false_eq_true, if_false, Bool.not_false, if_true]
    · unfold Dev.can4Covered
      dsimp only
      rw [if_neg (by decide), Dev.nat_bump, nat_of_val (Dev.val_bump_other _ _ hne)]
    · simp only [List.mem_cons, List.not_mem_nil, or_false, not_or] at hk
      exact (Dev.val_bump_other _ _ (Ne.symm hk.2)).trans (Dev.val_bump_other _ _ (Ne.symm hk.1))
  · refine ⟨s, ?_, rfl⟩
    show State.onDev s _ = _
    simp only [State.onDev, statusFrame, hi, Bool.not_false, if_true]

end Sys2Proof.Machine
end

section
/-! PROOFS. What vehicles say, and their silence (07 R164, R167 to R171, R177). -/

namespace Sys2Proof.Machine

/-! ### SLAC (07 R167) -/

/-- The link over which a vehicle's SLAC messages are taken: it drives 5 % duty. -/
structure SlacOpen (s : State) (p : PortId) : Prop where
  up : s.dev.modemUp p = true
  plugged : s.dev.plugged p = true
  digital : s.dev.digital p = true
  duty : (s.dev.port p).cp = .pwm 400

/-- What a SLAC message leaves: the state of the link, and what is answered. -/
def SlacTo (p : PortId) (x : Slac) (l : List Out) (s t : State) : Prop :=
  t.dev.port p = { s.dev.port p with slac := x } ∧ t.dev.out = s.dev.out ++ l ∧ OnlyPort p s t

theorem plcContext_lt (p : PortId) : (Dev.plcContext p).val < 144 := by
  simp only [Dev.plcContext]
  omega

section
variable {s : State} {p : PortId} {mac : Bytes} {db : Nat} (h : SlacOpen s p) (hm : s.dev.matchedElsewhere p mac = false)

/-- A link that moves on, and an answer to the vehicle. -/
theorem slac_answered {msg : SlacMsg} {x : Slac} {o : Out}
    (he : exec (.slacMessage p msg) s = .next { s with dev := (s.dev.setPort p fun q => { q with slac := x }).say o }) :
    Completes (.slacMessage p msg) s fun t => SlacTo p x [o] s t ∧ Only [.out, .ports] [] s t :=
  ⟨_, he, ⟨Dev.port_setPort_same _ _ _, rfl, fun _ hq => Dev.port_setPort_other _ _ hq⟩,
    Keeps.only (M := 16386) (Dev.say_keeps _ _ (by decide) (Dev.setPort_keeps _ _ _ (by decide) (.refl _ _))) (by decide) fun _ _ => rfl⟩

include h hm

theorem slac_passes : (!s.dev.modemUp p || !s.dev.plugged p || !s.dev.digital p || decide ((s.dev.port p).cp ≠ .pwm 400) ||
    s.dev.matchedElsewhere p mac) = false := by
  simp [h.up, h.plugged, h.digital, h.duty, hm]

theorem slac_begins (hi : (s.dev.port p).slac = .idle) :
    Completes (.slacMessage p (.paramReq mac)) s (fun t => SlacTo p .idle [.slac p mac 0 true] s t ∧ Only [.out, .ports] [] s t) ∧
      Completes (.slacMessage p (.sounding mac)) s (fun t => SlacTo p (.sounding mac none) [] s t ∧ Only [.ports] [] s t) := by
  have hg := slac_passes h hm
  constructor
  · refine ⟨{ s with dev := s.dev.say (.slac p mac 0 true) }, ?_, ⟨?_, rfl, fun _ _ => rfl⟩, ?_⟩
    · show State.onDev s _ = _
      simp only [State.onDev, Dev.slacMessage, Dev.slacMac, hg, Bool.false_eq_true, if_false, hi]
    · rw [← hi]
      rfl
    · exact Keeps.only (M := 16386) (Dev.say_keeps _ _ (by decide) (.refl _ _)) (by decide) fun _ _ => rfl
  · refine ⟨{ s with dev := s.dev.setPort p fun q => { q with slac := .sounding mac none } }, ?_,
      ⟨Dev.port_setPort_same _ _ _, (List.append_nil _).symm, fun _ hq => Dev.port_setPort_other _ _ hq⟩,
      (Dev.setPort_keeps0 _ _ _).only (by decide) fun _ _ => rfl⟩
    show State.onDev s _ = _
    simp only [State.onDev, Dev.slacMessage, Dev.slacMac, hg, Bool.false_eq_true, if_false, hi]

theorem slac_attenuated {x : Option Nat} (hs : (s.dev.port p).slac = .sounding mac x) :
    Completes (.slacMessage p (.attenChar mac db)) s fun t =>
      SlacTo p (.sounding mac (some db)) [.slac p mac 1 true] s t ∧ Only [.out, .ports] [] s t := by
  refine slac_answered ?_
  show State.onDev s _ = _
  simp only [State.onDev, Dev.slacMessage, Dev.slacMac, slac_passes h hm, Bool.false_eq_true, if_false, hs, if_true]

theorem slac_matched (hs : (s.dev.port p).slac = .sounding mac (some db)) (hb : s.dev.burlUp = true) :
    Completes (.slacMessage p (.matchReq mac)) s fun t =>
      (if s.dev.nat (Key.slacAttnLimit p) < db then SlacTo p .idle [.slac p mac 2 false] s t
      else t.dev.port p = { s.dev.port p with slac := .matched mac, evMatch := some mac } ∧ t.dev.out = s.dev.out ++ [.slac p mac 2 true] ∧
        t.dev.bytes (Key.evMac p) = mac ∧ t.dev.contextLoaded (Dev.plcContext p) = true ∧ OnlyPort p s t) ∧
      Within [.free, .out, .obj, .ports, .burl] s t := by
  have hg := slac_passes h hm
  by_cases hl : s.dev.nat (Key.slacAttnLimit p) < db
  · obtain ⟨t, ht, h1, h2⟩ := slac_answered (s := s) (p := p) (msg := .matchReq mac) (x := .idle) (o := .slac p mac 2 false) (by
      show State.onDev s _ = _
      simp only [State.onDev, Dev.slacMessage, Dev.slacMac, hg, Bool.false_eq_true, if_false, hs, ne_eq, not_true_eq_false, hl, if_true])
    refine ⟨t, ht, by rw [if_pos hl]; exact h1, h2.1, h2.2.1, h2.2.2.1, fun x hx => h2.2.2.2.1 x (fun ho => hx (by simp [ho])) fun hm => hx ?_⟩
    simp only [List.mem_cons, List.not_mem_nil, or_false] at hm ⊢
    tauto
  · obtain ⟨w, hw⟩ : ∃ w, w = (s.dev.setPort p fun q => { q with slac := .matched mac, evMatch := some mac }).putBytes (Key.evMac p) mac := ⟨_, rfl⟩
    have hlink : w.loadLink (Dev.plcContext p) = { w with
        free := w.free + 1
        burl := { w.burl with contexts := w.burl.contexts.set (2 * p.val) (some (Config.linkKey (Config.freeNat w.free))) } } := by
      unfold Dev.loadLink Dev.draw Dev.setContext
      simp only [plcContext_lt, dite_true]
      rfl
    have hex : exec (.slacMessage p (.matchReq mac)) s =
        .next { s with dev := (w.loadLink (Dev.plcContext p)).say (.slac p mac 2 true) } := by
      show State.onDev s _ = _
      simp only [State.onDev, Dev.slacMessage, Dev.slacMac, hg, Bool.false_eq_true, if_false, hs, ne_eq, not_true_eq_false, hl, hb, Bool.not_true,
        ← hw]
    have hwp : ∀ q, w.port q = (s.dev.setPort p fun q => { q with slac := .matched mac, evMatch := some mac }).port q := fun q =>
      hw ▸ port_of_ports (Dev.putBytes_ports _ _ _) q
    have hwk : Keeps 16388 s.dev w := hw ▸ Dev.putBytes_keeps _ _ _ (by decide) (Dev.setPort_keeps _ _ _ (by decide) (.refl _ _))
    have hwb : w.bytes (Key.evMac p) = mac := hw ▸ Dev.bytes_putBytes _ _ _
    have hwo : w.out = s.dev.out := hwk.get_out rfl
    refine ⟨_, hex, ?_, ?_⟩
    · rw [if_neg hl, hlink]
      refine ⟨(hwp p).trans (Dev.port_setPort_same _ _ _), congrArg (· ++ _) hwo, hwb, ?_,
        fun q hq => (hwp q).trans (Dev.port_setPort_other _ _ hq)⟩
      unfold Dev.contextLoaded
      rw [dif_pos (plcContext_lt p)]
      simp [Dev.say, Dev.plcContext]
    · have h1 : Keeps 8404997 s.dev ({ w with free := w.free + 1 } : Dev) := keeps_free (L := 8404997) _ (by decide) (hwk.mono (by decide))
      have hk1 : Keeps 8404997 s.dev (w.loadLink (Dev.plcContext p)) := by
        rw [hlink]
        exact keeps_burl (L := 8404997) _ (by decide) h1
      exact Keeps.within (M := 8404999) (Dev.say_keeps _ _ (by decide) (hk1.mono (by decide))) (by decide)

end

theorem slac_ignored {s : State} {p : PortId} {msg : SlacMsg} (hm : s.dev.matchedElsewhere p (Dev.slacMac msg) = true) :
    exec (.slacMessage p msg) s = .next s := by
  show State.onDev s _ = _
  simp only [State.onDev, Dev.slacMessage, hm, Bool.or_true, if_true]

theorem slac_times_out {s : State} {p : PortId} (hr : (s.dev.port p).slac ≠ .restarted)
    (hm : (match (s.dev.port p).slac with | .matched _ => false | _ => true) = true) (hu : s.dev.modemUp p = true)
    (ha : (s.dev.port p).setupAt.isSome = true) :
    Completes (.slacTimeout p) s fun t =>
      t.dev.port p = { s.dev.port p with slac := .idle } ∧
      t.dev.nat (Key.slacFailCount p) = min (s.dev.nat (Key.slacFailCount p) + 1) (Dev.top (Key.slacFailCount p)) ∧ OnlyPort p s t ∧
      Only [.ports] [Key.slacFailCount p] s t := by
  obtain ⟨w, hw⟩ : ∃ w, w = s.dev.setPort p fun q => { q with slac := .idle } := ⟨_, rfl⟩
  have hex : exec (.slacTimeout p) s = .next { s with dev := w.bump (Key.slacFailCount p) } := by
    show State.onDev s _ = _
    rw [State.onDev, Dev.slacTimeout]
    split
    · next h => simp [h] at hm
    · next h => exact absurd h hr
    · rw [if_pos ⟨hu, ha⟩, ← hw]
  have hp := fun q => port_of_ports (d := w) (Dev.bump_ports w (Key.slacFailCount p) 1) q
  refine ⟨_, hex, (hp p).trans (hw ▸ Dev.port_setPort_same _ _ _), ?_, fun q hq => (hp q).trans (hw ▸ Dev.port_setPort_other _ _ hq), ?_⟩
  · rw [Dev.nat_bump, hw]
    rfl
  · refine Keeps.only (M := 16388) (Dev.bump_keeps _ _ _ (by decide) (hw ▸ Dev.setPort_keeps _ _ _ (by decide) (.refl _ _))) (by decide) fun k hk => ?_
    rw [Dev.val_bump_other _ _ (Ne.symm (List.mem_singleton.not.1 hk)), hw]
    rfl

/-! ### High-level sessions (07 R168 to R170) -/

section
variable {s : State} {p : PortId}

/-- The vehicle's parameters, taken and answered. -/
theorem v2g_parameters {a b c e w : Nat} {dynamic : Bool} (hr : s.dev.v2gReaches p = true) (hp : (s.dev.port p).proto.isSome = true)
    (hc : s.dev.contextLoaded (Dev.tlsContext p) = true) (hd : dynamic = true → (s.dev.port p).proto = some .iso20) :
    Completes (.v2gMessage p (.chargeParams a b c e w dynamic)) s fun t =>
      (t.dev.port p).ev = { (s.dev.port p).ev with maxCurrent := a, maxExport := b, maxVoltage := c, maxDcCurrent := e, maxPower := w } ∧
      (t.dev.port p).dynamic = dynamic ∧ (∃ x y z, t.dev.out = s.dev.out ++ [.v2g p 0 x y z]) ∧ OnlyPilots p s t ∧ Only [.out, .ports] [] s t := by
  obtain ⟨u, hu⟩ : ∃ u, u = s.dev.setPort p fun q => { q with
      dynamic := dynamic
      ev := { q.ev with maxCurrent := a, maxExport := b, maxVoltage := c, maxDcCurrent := e, maxPower := w } } := ⟨_, rfl⟩
  have hn : ¬ (dynamic ∧ (s.dev.port p).proto ≠ some .iso20) := fun h => h.2 (hd h.1)
  have hex : exec (.v2gMessage p (.chargeParams a b c e w dynamic)) s = .next { s with dev := (u.v2gReply p 0).settle } := by
    show State.onDev s _ = _
    simp only [State.onDev, Dev.v2gMessage, hr, hp, hc, Bool.not_true, Bool.false_eq_true, if_false, if_true, Dev.v2gServe, hn, ← hu]
  have hup : (u.v2gReply p 0).port p = { s.dev.port p with
      dynamic := dynamic
      ev := { (s.dev.port p).ev with maxCurrent := a, maxExport := b, maxVoltage := c, maxDcCurrent := e, maxPower := w } } :=
    hu ▸ Dev.port_setPort_same _ _ _
  refine ⟨_, hex, (read_settle Port.ev (fun _ _ => rfl) _ p).trans (by rw [hup]), (read_settle Port.dynamic (fun _ _ => rfl) _ p).trans (by rw [hup]),
    ⟨u.toldLimit p, min (u.port p).exportAlloc (u.exportCap p), u.toldStop p, ?_⟩, onlyPilots_settle (hu ▸ portOnly_setPort s.dev p _),
    Keeps.only (M := 16386) (Dev.settle_keeps _ (by decide) (Dev.v2gReply_keeps _ _ _ (by decide) (hu ▸ Dev.setPort_keeps _ _ _ (by decide)
      (.refl _ _)))) (by decide) fun k _ => (val_settle _ k).trans (by rw [hu]; rfl)⟩
  exact ((Dev.settle_keeps0 _).get_out rfl).trans (by rw [hu]; rfl)

/-- The vehicle ends the session: it is answered, and the stop stands. -/
theorem v2g_stopped (hr : s.dev.v2gReaches p = true)
    (hc : (s.dev.port p).proto.isSome = true → s.dev.contextLoaded (Dev.tlsContext p) = true)
    (hs : (s.dev.port p).session = .closing ∨ (s.dev.port p).session = .energised) :
    Completes (.v2gMessage p .sessionStop) s fun t =>
      t.dev.out = s.dev.out ++ [.v2g p 0 (s.dev.toldLimit p) (min (s.dev.port p).exportAlloc (s.dev.exportCap p)) (s.dev.toldStop p)] ∧
      (t.dev.port p).stop = some ((s.dev.port p).stop.getD 0) ∧ OnlyPilots p s t ∧ Only [.out, .ports] [] s t := by
  have hex : exec (.v2gMessage p .sessionStop) s = .next { s with dev := ((s.dev.v2gReply p 0).sessionStop p 0).settle } := by
    show State.onDev s _ = _
    by_cases hp : (s.dev.port p).proto.isSome = true
    · simp only [State.onDev, Dev.v2gMessage, hr, hp, hc hp, Bool.not_true, Bool.false_eq_true, if_false, if_true, Dev.v2gServe]
    · simp only [State.onDev, Dev.v2gMessage, hr, hp, Bool.not_true, Bool.false_eq_true, if_false, Dev.v2gOpen]
  rw [sessionStop_late (s.dev.v2gReply p 0) p 0 hs] at hex
  refine ⟨_, hex, (Dev.settle_keeps0 _).get_out rfl, (read_settle Port.stop (fun _ _ => rfl) _ p).trans (by rw [Dev.port_setPort_same]; rfl),
    onlyPilots_settle (portOnly_setPort (s.dev.v2gReply p 0) p _), Keeps.only (M := 16386) (Dev.settle_keeps _ (by decide)
      (Dev.setPort_keeps _ _ _ (by decide) (Dev.v2gReply_keeps _ _ _ (by decide) (.refl _ _)))) (by decide) fun k _ => val_settle _ k⟩

theorem v2g_unreadable {msg : V2gMsg} (hp : (s.dev.port p).proto.isSome = true) (hc : s.dev.contextLoaded (Dev.tlsContext p) = false) :
    exec (.v2gMessage p msg) s = .next s := by
  show State.onDev s _ = _
  simp only [State.onDev, Dev.v2gMessage, hp, hc, Bool.false_eq_true, if_false, if_true, ite_self]

/-- A high-level session that failed, by the state it failed in (07 R164, R177). -/
theorem hlcFailed_port (d : Dev) (p : PortId) :
    (match (d.port p).session with
      | .authorised => ((d.hlcFailed p).port p).session = .ended ∧ (d.hlcFailed p).nat (Key.lastEndReason p) = 6
      | .closing | .energised => ((d.hlcFailed p).port p).stop = some ((d.port p).stop.getD 6)
      | .connected | .identifying => ((d.hlcFailed p).port p).basic = true ∨ ((d.hlcFailed p).port p).session = .ended
      | x => ((d.hlcFailed p).port p).session = x) ∧ d.PortOnly p (d.hlcFailed p) := by
  obtain ⟨⟨b, hb⟩, ho⟩ := enterEnded_port d p 6
  have heq : d.hlcFailed p = match (d.port p).session with
      | .connected | .identifying => d.hlcFallback p
      | .authorised => d.enterEnded p 6
      | .closing | .energised => d.sessionStop p 6
      | _ => d := rfl
  have hfall : (((d.hlcFallback p).port p).basic = true ∨ ((d.hlcFallback p).port p).session = .ended) ∧ d.PortOnly p (d.hlcFallback p) := by
    unfold Dev.hlcFallback
    split
    · exact ⟨.inl (by rw [Dev.port_setPort_same]), portOnly_setPort _ _ _⟩
    · exact ⟨.inr (by rw [hb]), ho⟩
  have hlate : (d.port p).session = .closing ∨ (d.port p).session = .energised →
      ((d.sessionStop p 6).port p).stop = some ((d.port p).stop.getD 6) ∧ d.PortOnly p (d.sessionStop p 6) := fun h => by
    rw [sessionStop_late d p 6 h]
    exact ⟨by rw [Dev.port_setPort_same], portOnly_setPort _ _ _⟩
  cases hs : (d.port p).session <;> simp only [hs] at heq ⊢ <;> rw [heq]
  case authorised => exact ⟨⟨by rw [hb], enterEnded_reason d p 6⟩, ho⟩
  case connected | identifying => exact hfall
  case closing => exact hlate (.inl hs)
  case energised => exact hlate (.inr hs)
  all_goals exact ⟨hs, portOnly_of_ports rfl⟩

/-- The vehicle's next request did not come. -/
theorem v2g_times_out (hp : s.dev.powered = true) (hx : (s.dev.port p).proto = some .iso2 ∨ (s.dev.port p).proto = some .iso20) :
    Completes (.v2gTimeout p) s fun t =>
      (match (s.dev.port p).session with
      | .authorised => (t.dev.port p).session = .ended ∧ t.dev.nat (Key.lastEndReason p) = 6
      | .closing | .energised => (t.dev.port p).stop = some ((s.dev.port p).stop.getD 6)
      | .connected | .identifying => (t.dev.port p).basic = true ∨ (t.dev.port p).session = .ended
      | x => (t.dev.port p).session = x) ∧ OnlyPilots p s t ∧
        Within [.out, .obj, .hosts, .heart, .ports, .site, .safety, .energy, .ledger] s t := by
  have hex : exec (.v2gTimeout p) s = .next { s with dev := (s.dev.hlcFailed p).settle } := by
    show State.onDev s _ = _
    rw [State.onDev, Dev.v2gTimeout, if_pos ⟨hp, hx⟩]
  obtain ⟨h1, h2⟩ := hlcFailed_port s.dev p
  have hs := read_settle Port.session (fun _ _ => rfl) (s.dev.hlcFailed p) p
  have ht := read_settle Port.stop (fun _ _ => rfl) (s.dev.hlcFailed p) p
  have hb := read_settle Port.basic (fun _ _ => rfl) (s.dev.hlcFailed p) p
  refine ⟨_, hex, ?_, onlyPilots_settle h2,
    Keeps.within (M := 2838534) (Dev.settle_keeps _ (by decide) (Dev.hlcFailed_keeps0 _ _)) (by decide)⟩
  dsimp only
  rw [hs, ht, hb, nat_settle]
  exact h1

/-! ### The Annex handshakes (07 R171) -/

/-- What a port tells its vehicle of a limit does not depend on its limits or its protocol. -/
theorem toldLimit_setPort (d : Dev) (p : PortId) (f : Port → Port) (h : (f (d.port p)).pausedAt = (d.port p).pausedAt) :
    (d.setPort p f).toldLimit p = d.toldLimit p := by
  unfold Dev.toldLimit
  rw [Dev.port_setPort_same, h]
  rfl

/-- The vehicle's limits, on the bus. -/
theorem annex_limits {x : Protocol} {v i : Nat} (hx : s.dev.annexOf p = some x) (hu : s.dev.annexUp p = true) (hg : s.dev.plugged p = true)
    (hs : (s.dev.port p).session = .authorised ∨ (s.dev.port p).session = .energised) :
    Completes (.annexFrame p (.limits v i)) s fun t =>
      (t.dev.port p).proto = some x ∧ (t.dev.port p).ev = { (s.dev.port p).ev with
        maxVoltage := v, maxDcCurrent := i } ∧
      t.dev.out = s.dev.out ++ [.annex p (s.dev.moduleVoltage p) (s.dev.toldLimit p) (if (s.dev.port p).session = .energised then 1 else 0)] ∧
      OnlyPilots p s t ∧ Only [.out, .ports] [] s t := by
  obtain ⟨u, hud⟩ : ∃ u, u = (s.dev.setPort p fun q => { q with proto := some x }).setPort p fun q => { q with
    ev := { q.ev with maxVoltage := v, maxDcCurrent := i } } := ⟨_, rfl⟩
  have hup : u.port p = { s.dev.port p with proto := some x, ev := { (s.dev.port p).ev with maxVoltage := v, maxDcCurrent := i } } := by
    rw [hud, Dev.port_setPort_same, Dev.port_setPort_same]
  have hex : exec (.annexFrame p (.limits v i)) s = .next { s with dev := (u.annexContent p).settle } := by
    show State.onDev s _ = _
    rcases hs with hs | hs <;>
    · simp only [State.onDev, Dev.annexFrame, hx, hu, hg, Bool.not_true, Bool.or_self, Bool.false_eq_true, if_false, hs, ne_eq, reduceCtorEq,
        not_false_eq_true, not_true_eq_false, and_false, false_and, and_self, ← hud]
  have hcp : (u.annexContent p).port p = u.port p := rfl
  have huo : s.dev.PortOnly p (u.annexContent p) := by
    have : s.dev.PortOnly p u := hud ▸ (portOnly_setPort _ _ _).trans (portOnly_setPort _ _ _)
    exact this
  have hout : (u.annexContent p).out = s.dev.out ++
      [.annex p (s.dev.moduleVoltage p) (s.dev.toldLimit p) (if (s.dev.port p).session = .energised then 1 else 0)] := by
    have hl : u.toldLimit p = s.dev.toldLimit p := by
      rw [hud, toldLimit_setPort _ _ _ rfl, toldLimit_setPort _ _ _ rfl]
    have hm : u.moduleVoltage p = s.dev.moduleVoltage p := by rw [hud]; rfl
    have ho : u.out = s.dev.out := by rw [hud]; rfl
    unfold Dev.annexContent
    dsimp only [Dev.say]
    rw [hl, hm, ho, hup]
    rcases hs with hs | hs <;> rw [hs] <;> rfl
  have huk : Keeps 16384 s.dev u := hud ▸ Dev.setPort_keeps _ _ _ (by decide) (Dev.setPort_keeps _ _ _ (by decide) (.refl _ _))
  refine ⟨_, hex, (read_settle Port.proto (fun _ _ => rfl) _ p).trans (by rw [hcp, hup]), (read_settle Port.ev (fun _ _ => rfl) _ p).trans
    (by rw [hcp, hup]), ((Dev.settle_keeps0 _).get_out rfl).trans hout, onlyPilots_settle huo, Keeps.only (M := 16386)
      (Dev.settle_keeps _ (by decide) (Dev.annexContent_keeps _ _ (by decide) (huk.mono (by decide)))) (by decide) fun k _ => ?_⟩
  rw [val_settle]
  simp only [Dev.val, (Dev.annexContent_keeps0 u p).get_obj rfl, huk.get_obj rfl]

theorem annex_times_out (hp : s.dev.powered = true) (hx : (s.dev.annexOf p).isSome = true)
    (hs : (s.dev.port p).session = .closing ∨ (s.dev.port p).session = .energised) :
    Completes (.annexTimeout p) s fun t =>
      (t.dev.port p).stop = some ((s.dev.port p).stop.getD 6) ∧ OnlyPilots p s t ∧ Only [.ports] [] s t := by
  have he : s.dev.hlcFailed p = s.dev.setPort p fun q => { q with stop := some (q.stop.getD 6) } := by
    rw [← sessionStop_late s.dev p 6 hs]
    unfold Dev.hlcFailed
    rcases hs with hs | hs <;> rw [hs]
  have hex : exec (.annexTimeout p) s = .next { s with dev := (s.dev.hlcFailed p).settle } := by
    show State.onDev s _ = _
    rw [State.onDev, Dev.annexTimeout, if_pos ⟨hp, hx⟩]
  rw [he] at hex
  exact ⟨_, hex, (read_settle Port.stop (fun _ _ => rfl) _ p).trans (by rw [Dev.port_setPort_same]), onlyPilots_settle (portOnly_setPort _ _ _),
    Keeps.only (M := 16384) (Dev.settle_keeps _ (by decide) (Dev.setPort_keeps _ _ _ (by decide) (.refl _ _))) (by decide) fun k _ => val_settle _ k⟩

end

/-- Settles O29: SLAC, the requests of a high-level session, the Annex frames, and a vehicle that falls silent. -/
theorem vehiclesAreAnswered : Obligations.VehiclesAreAnswered := by
  unfold Obligations.VehiclesAreAnswered
  dsimp only
  refine ⟨fun s p mac ⟨h1, h2, h3, h4⟩ hm hi => slac_begins ⟨h1, h2, h3, h4⟩ hm hi,
    fun s p mac db x ⟨h1, h2, h3, h4⟩ hm hs => slac_attenuated ⟨h1, h2, h3, h4⟩ hm hs,
    fun s p mac db ⟨h1, h2, h3, h4⟩ hm hs hb => slac_matched ⟨h1, h2, h3, h4⟩ hm hs hb, fun s p msg hm => ⟨s, slac_ignored hm, rfl⟩,
    fun s p hr hm hu ha => slac_times_out hr hm hu ha, fun s p a b c e w dynamic hr hp hc hd => v2g_parameters hr hp hc hd,
    fun s p hr hc hs => v2g_stopped hr hc hs, fun s p msg hp hc => ⟨s, v2g_unreadable hp hc, rfl⟩, fun s p hp hx => v2g_times_out hp hx,
    fun s p x v i hx hu hg hs => annex_limits hx hu hg hs, fun s p hp hx hs => annex_times_out hp hx hs⟩

end Sys2Proof.Machine
end

section
/-! PROOFS. Tamper sources and the hold (16 R443 to R449; 03 R89). -/

namespace Sys2Proof.Machine

/-! ### Bits and counts -/

theorem testBit_setBit (m i j : Nat) (b : Bool) : (setBit m i b).testBit j = if j = i then b else m.testBit j := by
  unfold setBit
  by_cases hj : j = i
  · subst hj
    cases b <;> simp [Nat.testBit_or, Nat.testBit_and, Nat.testBit_xor, Nat.shiftLeft_eq]
  · have h2 : (1 <<< i : Nat).testBit j = false := by
      rw [Nat.shiftLeft_eq, Nat.one_mul, Nat.testBit_two_pow]
      simpa using fun h => hj h.symm
    cases b <;> simp [Nat.testBit_or, Nat.testBit_and, Nat.testBit_xor, h2, hj]

section
variable (d : Dev)

/-- A count keeps the higher of its two cells up, and shows its value. -/
theorem count_obj (i : Fin 18) (k v : Nat) : (d.count i k v).obj = (d.putNat k v).obj := by
  unfold Dev.count
  dsimp only
  split <;> rfl

theorem val_count (i : Fin 18) (k v j : Nat) : (d.count i k v).val j = (d.putNat k v).val j := by
  simp only [Dev.val, count_obj]

theorem count_burl (i : Fin 18) (k v : Nat) : ∃ cells, (d.count i k v).burl = { d.burl with cells := cells } := by
  unfold Dev.count
  dsimp only
  split
  · exact ⟨d.burl.cells, by rw [Dev.putNat_burl]⟩
  · exact ⟨_, by rw [Dev.putNat_burl]⟩

theorem val_setBurl (g : Burl → Burl) (j : Nat) : (d.setBurl g).val j = d.val j := rfl

/-! ### Alarms (16 R443 to R445) -/

theorem inAlarm_setAlarm (k j : Nat) (on : Bool) : (d.setAlarm k on).inAlarm j = if j = k then on else d.inAlarm j := by
  unfold Dev.setAlarm Dev.inAlarm
  rw [Dev.nat_putNat, testBit_setBit]

theorem inAlarm_of_val {e : Dev} (h : e.val Key.alarmNow = d.val Key.alarmNow) (k : Nat) : e.inAlarm k = d.inAlarm k := by
  unfold Dev.inAlarm
  rw [nat_of_val h]

theorem val_tamperEvent (k : Nat) (entered : Bool) (x : Int) (j : Nat) : (d.tamperEvent k entered x).val j = d.val j := by
  unfold Dev.tamperEvent
  simp only [Dev.val, Dev.legal_obj]

/-- What a source that enters alarm writes: the last source and its time, and the two counts. -/
def alarmKeys (k : Nat) : List Nat := [Key.tamperEventCount, Key.sourceEventCount (k - 1), Key.tamperLastSource, Key.tamperLastTime]

theorem val_tamperLogged (k : Nat) (x : Int) {j : Nat} (h : j ∉ alarmKeys k) : (d.tamperLogged k x).val j = d.val j := by
  simp only [alarmKeys, List.mem_cons, List.not_mem_nil, or_false, not_or] at h
  obtain ⟨h1, h2, h3, h4⟩ := h
  unfold Dev.tamperLogged
  dsimp only
  rw [Dev.val_putNat_other _ _ (Ne.symm h4), Dev.val_putNat_other _ _ (Ne.symm h3), Dev.val_bump_other _ _ (Ne.symm h2), val_count,
    Dev.val_putNat_other _ _ (Ne.symm h1), val_tamperEvent]

/-- The event, then the two counts. -/
def counted (w : Dev) (k : Nat) : Dev :=
  (w.count 17 Key.tamperEventCount (min (w.nat Key.tamperEventCount + 1) (Dev.top Key.tamperEventCount))).bump (Key.sourceEventCount (k - 1))

theorem tamperLogged_eq (k : Nat) (x : Int) : d.tamperLogged k x =
    ((counted (d.tamperEvent k true x) k).putNat Key.tamperLastSource k).putNat Key.tamperLastTime (counted (d.tamperEvent k true x) k).nowUs := rfl

theorem tamperLogged_burl (k : Nat) (x : Int) : ∃ cells, (d.tamperLogged k x).burl = { d.burl with cells := cells } := by
  have hburl : (d.tamperEvent k true x).burl = d.burl := by
    unfold Dev.tamperEvent
    exact Dev.legal_burl ..
  rw [← hburl, tamperLogged_eq]
  generalize d.tamperEvent k true x = w
  simp only [Dev.putNat_burl, counted, Dev.bump_burl]
  exact count_burl _ _ _ _

theorem keyOpAbort_none (code : Nat) (h : d.burl.keyOp = none) : d.keyOpAbort code = d := by
  unfold Dev.keyOpAbort
  rw [h]

/-- A source that enters alarm is logged with the time, and counted (16 R445). -/
theorem tamperLogged_leaves (k : Fin 17) (x : Int) (hm : d.rail .vddMem = true) :
    (d.tamperLogged k x).nat Key.tamperLastSource = k ∧ (d.tamperLogged k x).nat Key.tamperLastTime = d.nowUs ∧
      (d.tamperLogged k x).nat Key.tamperEventCount = min (d.nat Key.tamperEventCount + 1) (Dev.top Key.tamperEventCount) ∧
      (∃ cells, (d.tamperLogged k x).burl = { d.burl with cells := cells }) ∧
      ∃ e : LegalEntry, (d.tamperLogged k x).heart = { d.heart with log := e :: d.heart.log.take 32767 } ∧ e.code = 0x0603 ∧ e.entity = 0xFF := by
  have hk := k.isLt
  have hne : Key.sourceEventCount (k.val - 1) ≠ Key.tamperEventCount := by simp only [Key.sourceEventCount, Key.tamperEventCount, ob]; omega
  obtain ⟨e, -, hc, he, -, -, hheart⟩ := Dev.legal_heart d 0x0603 0xFF
    (leBytes 1 k.val ++ leBytes 1 (d.level k) ++ leBytes 1 (if true then 1 else 0) ++ leBytes 4 (ofSigned 32 x)) hm
  have hev : d.tamperEvent k true x = d.legal 0x0603 0xFF
    (leBytes 1 k.val ++ leBytes 1 (d.level k) ++ leBytes 1 (if true then 1 else 0) ++ leBytes 4 (ofSigned 32 x)) := rfl
  have htime : (d.tamperEvent k true x).time = d.time := by rw [hev, Dev.legal_time]
  have hcount : (d.tamperEvent k true x).nat Key.tamperEventCount = d.nat Key.tamperEventCount := nat_of_val (val_tamperEvent ..)
  have hburl : (d.tamperEvent k true x).burl = d.burl := by rw [hev, Dev.legal_burl]
  rw [← hev] at hheart
  unfold Dev.tamperLogged
  dsimp only
  generalize d.tamperEvent k true x = w at htime hcount hburl hheart ⊢
  obtain ⟨cells, hcells⟩ := count_burl w 17 Key.tamperEventCount (min (w.nat Key.tamperEventCount + 1) (Dev.top Key.tamperEventCount))
  have hlast : Key.tamperLastTime ≠ Key.tamperLastSource := by decide
  refine ⟨?_, ?_, ?_, ⟨cells, ?_⟩, e, ?_, hc, he⟩
  · rw [Dev.nat_putNat_other _ _ hlast, Dev.nat_putNat]
  · rw [Dev.nat_putNat]
    simp only [Dev.nowUs, Dev.bump_time, Dev.count_time, htime]
  · rw [Dev.nat_putNat_other _ _ (by decide), Dev.nat_putNat_other _ _ (by decide), Dev.nat_bump_other _ _ hne,
      nat_of_val (val_count ..), Dev.nat_putNat, hcount]
  · simp only [Dev.putNat_burl, Dev.bump_burl, hcells, hburl]
  · simp only [Dev.putNat_heart, Dev.bump_heart, Dev.count_heart, hheart]

/-- At level 1 the first source that asks for it holds the device from the next tick (16 R444). -/
def heldNext (v : Dev) (level k : Nat) : Dev := if level = 0 then v else v.setBurl fun b => { b with holdNext := some (b.holdNext.getD k) }

theorem heldNext_leaves (v : Dev) (level k : Nat) : (∀ j, (heldNext v level k).val j = v.val j) ∧ (heldNext v level k).heart = v.heart ∧
    (heldNext v level k).burl = { v.burl with holdNext := if level = 0 then v.burl.holdNext else some (v.burl.holdNext.getD k) } ∧
    Keeps 8388608 v (heldNext v level k) := by
  unfold heldNext
  split
  · exact ⟨fun _ => rfl, rfl, rfl, .refl _ _⟩
  · exact ⟨fun j => val_setBurl v _ j, rfl, rfl, keeps_burl (L := 8388608) _ (by decide) (.refl _ _)⟩

/-- At level 0 or 1 in IN_SERVICE, with no key operation running, the response is the event, the counts, and at level 1 the hold from the next tick. -/
theorem respond_low (k : Nat) (x : Int) (hs : d.power.state = .inService) (hl : d.level k ≤ 1) (hop : d.burl.keyOp = none) :
    d.respond k x = heldNext (d.tamperLogged k x) (d.level k) k := by
  have hpower : (d.tamperLogged k x).power = d.power := (Dev.tamperLogged_keeps0 d k x).get_power rfl
  obtain ⟨cells, hcells⟩ := tamperLogged_burl d k x
  unfold Dev.respond
  dsimp only
  generalize d.tamperLogged k x = w at hpower hcells ⊢
  generalize d.level k = l at hl ⊢
  have habort : w.keyOpAbort Code.tamperHold = w := keyOpAbort_none w Code.tamperHold (by rw [hcells, hop])
  rw [habort]
  have h2 : ¬ 2 ≤ l := by omega
  have h3 : ¬ l = 3 := by omega
  rw [hpower, hs, if_neg (by simp), if_neg h2, hpower, hs, if_neg (by simp), if_neg h3, heldNext]
  simp

end

/-- TAMPER_ALARM of a source of level 0 or 1 in service: in alarm, logged and counted, and at level 1 the hold from the next tick. -/
theorem tamperAlarm_enters (s : State) (k : Fin 17) (x : Int) (hs : s.dev.power.state = .inService) (ha : s.dev.alarms k = true)
    (hn : s.dev.inAlarm k = false) (hl : s.dev.level k ≤ 1) (hop : s.dev.burl.keyOp = none) (hm : s.dev.rail .vddMem = true) :
    Completes (.tamperAlarm k x) s fun t =>
      t.dev.inAlarm k = true ∧ t.dev.nat Key.tamperLastSource = k ∧ t.dev.nat Key.tamperLastTime = s.dev.nowUs ∧
      t.dev.nat Key.tamperEventCount = min (s.dev.nat Key.tamperEventCount + 1) (Dev.top Key.tamperEventCount) ∧
      (∃ cells, t.dev.burl = { s.dev.burl with
        cells := cells, holdNext := if s.dev.level k = 0 then s.dev.burl.holdNext else some (s.dev.burl.holdNext.getD k) }) ∧
      (∃ e : LegalEntry, t.dev.heart = { s.dev.heart with log := e :: s.dev.heart.log.take 32767 } ∧ e.code = 0x0603 ∧ e.entity = 0xFF) ∧
      Only [.heart, .burl] [Key.alarmNow, Key.tamperEventCount, Key.sourceEventCount (k.val - 1), Key.tamperLastSource, Key.tamperLastTime] s t := by
  have hk := k.isLt
  obtain ⟨x', hx⟩ : ∃ x', x' = if k.val = 0x08 then x else 0 := ⟨_, rfl⟩
  obtain ⟨w, hw⟩ : ∃ w, w = s.dev.setAlarm k true := ⟨_, rfl⟩
  have hwv : ∀ j, j ≠ Key.alarmNow → w.val j = s.dev.val j := fun j hj => by rw [hw]; exact Dev.val_putNat_other _ _ (Ne.symm hj)
  have hlevel : w.level k = s.dev.level k := nat_of_val (hwv _ (by simp only [Key.responseLevel, Key.alarmNow, ob]; omega))
  have hwk : Keeps 4 s.dev w := by rw [hw]; exact Dev.putNat_keeps0 s.dev _ _
  have hburl : w.burl = s.dev.burl := hwk.get_burl rfl
  have hheart : w.heart = s.dev.heart := hwk.get_heart rfl
  have htime : w.nowUs = s.dev.nowUs := by unfold Dev.nowUs; rw [hwk.get_time rfl]
  have hpower : w.power = s.dev.power := hwk.get_power rfl
  have hcount : w.nat Key.tamperEventCount = s.dev.nat Key.tamperEventCount := nat_of_val (hwv _ (by decide))
  have halarm : w.inAlarm k = true := by rw [hw, inAlarm_setAlarm, if_pos rfl]
  have hkeep : Keeps 8396804 s.dev (w.tamperLogged k x') := (hwk.mono (by decide)).trans (Dev.tamperLogged_keeps0 w k x')
  obtain ⟨hsrc, htm, hcnt, ⟨cells, hcells⟩, e, hlog, hcode, hent⟩ := tamperLogged_leaves w k x' (by rw [Dev.rail, hpower]; exact hm)
  have hval : ∀ j, j ∉ Key.alarmNow :: alarmKeys k.val → (w.tamperLogged k x').val j = s.dev.val j := fun j hj => by
    rw [List.mem_cons, not_or] at hj
    rw [val_tamperLogged _ _ _ hj.2, hwv _ hj.1]
  have hin : (w.tamperLogged k x').inAlarm k = true := by
    rw [inAlarm_of_val _ (val_tamperLogged w k x' (by simp only [alarmKeys, Key.alarmNow, Key.tamperEventCount, Key.sourceEventCount, Key.tamperLastSource,
      Key.tamperLastTime, ob, List.mem_cons, List.not_mem_nil, or_false]; omega)), halarm]
  have hex : exec (.tamperAlarm k x) s = .next { s with dev := heldNext (w.tamperLogged k x') (s.dev.level k) k } := by
    have hpow : s.dev.powered = true := by unfold Dev.powered; rw [hs]
    show State.onDev s _ = _
    rw [State.onDev, Dev.tamperAlarm, if_neg (by simp [hpow, ha, hn]), ← hx, ← hw,
      respond_low w k x' (by rw [hpower, hs]) (by rw [hlevel]; exact hl) (by rw [hburl]; exact hop), hlevel]
  generalize w.tamperLogged k x' = v at hsrc htm hcnt hcells hlog hval hin hex hkeep
  rw [hburl] at hcells
  rw [hheart] at hlog
  rw [htime] at htm
  rw [hcount] at hcnt
  obtain ⟨hobj, hh, hb, huk⟩ := heldNext_leaves v (s.dev.level k) k
  generalize heldNext v (s.dev.level k) k = u at hobj hh hb huk hex
  exact ⟨_, hex, (inAlarm_of_val _ (hobj _) _).trans hin, (nat_of_val (hobj _)).trans hsrc, (nat_of_val (hobj _)).trans htm,
    (nat_of_val (hobj _)).trans hcnt, ⟨cells, by rw [hb, hcells]⟩, ⟨e, hh.trans hlog, hcode, hent⟩,
    (hkeep.trans (huk.mono (by decide))).only (by decide) fun j hj => (hobj j).trans (hval j hj)⟩

/-- TAMPER_ALARM_END: the source, and no other, is out of alarm, and that is logged (16 R445). -/
theorem tamperAlarmEnd_leaves (s : State) (k : Fin 17) (x : Int) (hin : s.dev.inAlarm k = true) (hc : s.dev.checkLatched k = false)
    (hp : s.dev.powered = true) (hm : s.dev.rail .vddMem = true) :
    Completes (.tamperAlarmEnd k x) s fun t =>
      t.dev.inAlarm k = false ∧ (∀ q, q ≠ k.val → t.dev.inAlarm q = s.dev.inAlarm q) ∧
      (∃ e : LegalEntry, t.dev.heart = { s.dev.heart with log := e :: s.dev.heart.log.take 32767 } ∧ e.code = 0x0603) ∧
      Only [.heart] [Key.alarmNow] s t := by
  obtain ⟨x', hx⟩ : ∃ x', x' = if k.val = 0x08 ∨ k.val = 0x09 then x else 0 := ⟨_, rfl⟩
  obtain ⟨w, hw⟩ : ∃ w, w = s.dev.setAlarm k false := ⟨_, rfl⟩
  have hwk : Keeps 4 s.dev w := by rw [hw]; exact Dev.putNat_keeps0 s.dev _ _
  have hpower : w.power = s.dev.power := hwk.get_power rfl
  have hwa : ∀ q, w.inAlarm q = if q = k.val then false else s.dev.inAlarm q := fun q => by rw [hw, inAlarm_setAlarm]
  have hwv : ∀ j, j ≠ Key.alarmNow → w.val j = s.dev.val j := fun j hj => by rw [hw]; exact Dev.val_putNat_other _ _ (Ne.symm hj)
  have hev : ∀ q, (w.tamperEvent k false x').inAlarm q = w.inAlarm q := fun q => inAlarm_of_val _ (val_tamperEvent ..) q
  have hex : exec (.tamperAlarmEnd k x) s = .next { s with dev := w.tamperEvent k false x' } := by
    show State.onDev s _ = _
    have hwp : w.powered = true := by unfold Dev.powered; rw [hpower]; exact hp
    rw [State.onDev, Dev.tamperAlarmEnd, if_neg (by simp [hin, hc]), ← hx, ← hw]
    dsimp only
    rw [if_pos hwp]
  obtain ⟨e, -, hcode, -, -, -, hlog⟩ := Dev.legal_heart w 0x0603 0xFF
    (leBytes 1 k.val ++ leBytes 1 (w.level k) ++ leBytes 1 (if false then 1 else 0) ++ leBytes 4 (ofSigned 32 x')) (by rw [Dev.rail, hpower]; exact hm)
  rw [hwk.get_heart rfl] at hlog
  refine ⟨_, hex, ?_, fun q hq => ?_, ⟨e, hlog, hcode⟩, Keeps.only (M := 8196) ((hwk.mono (by decide)).trans
    ((Dev.tamperEvent_keeps0 w k false x').mono (by decide))) (by decide) fun j hj => ?_⟩
  · exact (hev _).trans (by rw [hwa, if_pos rfl])
  · exact (hev _).trans (by rw [hwa, if_neg hq])
  · exact (val_tamperEvent ..).trans (hwv j (by simpa using hj))

/-! ### The hold (16 R447) -/

/-- The tick boundary of a ClearHold: IN_SERVICE again, and no hold shown. -/
theorem holdCleared_leaves (d : Dev) (slot : Nat) (h : d.power.state = .tamperHold) :
    (d.holdCleared slot).power = { d.power with state := .inService } ∧ (d.holdCleared slot).flag Key.holdActive = false := by
  unfold Dev.holdCleared
  rw [if_neg (by rw [h]; simp)]
  dsimp only
  constructor
  · rw [(Dev.settle_keeps0 _).get_power rfl, Dev.legal_power, Dev.putNat_power, Dev.putNat_power, Dev.putFlag_power]
  · rw [flag_of_val (val_settle _ _)]
    simp only [Dev.flag, Dev.int, Dev.val, Dev.legal_obj]
    exact (Dev.flag_putNat_other _ _ (by decide)).trans ((Dev.flag_putNat_other _ _ (by decide)).trans (Dev.flag_putFlag _ _ _))

theorem admitted_alarmHolds (d : Dev) (m : HostMsg) : (d.admitted m).alarmHolds = d.alarmHolds := by
  have hin : ∀ k, (d.admitted m).inAlarm k = d.inAlarm k := fun k => inAlarm_of_val d (Dev.val_admitted_far d m (.inr (by decide))) k
  have hlevel : ∀ k, (d.admitted m).level k = d.level k := fun k =>
    admitted_nat_far (.inr (by simp only [Key.responseLevel, ob]; omega))
  unfold Dev.alarmHolds
  simp only [hin, hlevel]

/-- Settles O37: a source in alarm is logged and counted and may hold the device; ClearHold ends the hold. -/
theorem tamperAlarmsHoldTheDevice : Obligations.TamperAlarmsHoldTheDevice := by
  unfold Obligations.TamperAlarmsHoldTheDevice
  have hpower : ∀ (d : Dev) (m : HostMsg), (d.admitted m).power = d.power := fun d m => (Dev.admitted_same d m .power (by decide) (by decide)).symm
  refine ⟨tamperAlarm_enters, tamperAlarmEnd_leaves, fun s m data h ht hs => ?_, fun s m data h ht hs ha => ?_, fun s m data h ht hs ha => ?_,
    holdCleared_leaves⟩
  · refine ⟨{ s with dev := (s.dev.admitted m).ok ((s.dev.admitted m).ackOf m Key.clearHold) }, ?_,
      served_ok (M := 0) _ (grants_iff.1 h).1 (.refl _ _) (by decide) (by decide) (fun _ _ => rfl) (by simp)⟩
    show State.onDev s _ = _
    rw [State.onDev, cmdWrite_granted h ht, clearHoldServe, hpower, if_pos hs]
  · refine ⟨{ s with dev := (s.dev.admitted m).abort ((s.dev.admitted m).ackOf m Key.clearHold) Code.tamperHold }, ?_,
      served_abort_nil _ _ (grants_iff.1 h).1⟩
    show State.onDev s _ = _
    rw [State.onDev, cmdWrite_granted h ht, clearHoldServe, hpower, if_neg (by simp [hs]), admitted_alarmHolds, if_pos ha]
  · refine ⟨{ s with dev := (s.dev.admitted m).enqueue (.clearHold ((s.dev.admitted m).ackOf m Key.clearHold)) }, ?_, ownership_waits _⟩
    show State.onDev s _ = _
    rw [State.onDev, cmdWrite_granted h ht, clearHoldServe, hpower, if_neg (by simp [hs]), admitted_alarmHolds, if_neg (by simp [ha])]

end Sys2Proof.Machine
end

section
/-! PROOFS. The causes of level 1: raised and released on the ports of a list (13 R338). -/

namespace Sys2Proof.Machine

section
variable (d : Dev)

theorem level1Causes_inj {p q : PortId} (h : Key.level1Causes p = Key.level1Causes q) : p = q := by
  have hp := p.isLt
  have hq := q.isLt
  simp only [Key.level1Causes, ob] at h
  exact Fin.ext (by omega)

/-- The objects of the causes of every port. -/
def causeKeys : List Nat := Dev.allPorts.map fun p => Key.level1Causes p

theorem level1Causes_mem (p : PortId) : Key.level1Causes p ∈ causeKeys :=
  List.mem_map.2 ⟨p.val, List.mem_flatMap.2 ⟨p, List.mem_finRange p, List.mem_singleton.2 rfl⟩, rfl⟩

theorem notin_causeKeys {k : Nat} (h : ∀ p : PortId, k ≠ Key.level1Causes p) : k ∉ causeKeys := fun hk => by
  obtain ⟨n, hn, he⟩ := List.mem_map.1 hk
  obtain ⟨p, -, hp⟩ := List.mem_flatMap.1 hn
  exact h p (by rw [← he, List.mem_singleton.1 hp])

theorem hasCause_putCauses (p q : PortId) (bit b : Nat) (on : Bool) :
    (d.putNat (Key.level1Causes p) (setBit (d.causes p) bit on)).hasCause q b = if q = p ∧ b = bit then on else d.hasCause q b := by
  unfold Dev.hasCause Dev.causes
  by_cases h : q = p
  · subst h
    rw [Dev.nat_putNat, testBit_setBit]
    simp
  · rw [Dev.nat_putNat_other _ _ (fun hk => h (level1Causes_inj hk).symm), if_neg (fun hh => h hh.1)]

/-! ### Raising -/

/-- One port's cause set. -/
def setCause (bit : Nat) (d : Dev) (p : PortId) : Dev := d.putNat (Key.level1Causes p) (setBit (d.causes p) bit true)

theorem raiseCause_eq (l : List PortId) (bit : Nat) (m : Int) : (d.raiseCause l bit m).obj =
    ((l.filter fun p => !d.hasCause p bit).foldl (setCause bit) d).obj := by
  unfold Dev.raiseCause
  dsimp only
  split
  · rfl
  · exact logCause_obj ..

theorem hasCause_setCauses (l : List PortId) (bit : Nat) (q : PortId) (b : Nat) :
    (l.foldl (setCause bit) d).hasCause q b = (decide (q ∈ l ∧ b = bit) || d.hasCause q b) := by
  induction l generalizing d with
  | nil => simp
  | cons p l ih =>
    rw [List.foldl_cons, ih, setCause, hasCause_putCauses]
    by_cases hq : q = p <;> by_cases hb : b = bit <;> simp [hq, hb]

theorem val_setCauses (l : List PortId) (bit : Nat) {k : Nat} (h : ∀ p ∈ l, k ≠ Key.level1Causes p) : (l.foldl (setCause bit) d).val k = d.val k := by
  induction l generalizing d with
  | nil => rfl
  | cons p l ih =>
    rw [List.foldl_cons, ih _ fun q hq => h q (List.mem_cons_of_mem _ hq), setCause, Dev.val_putNat_other _ _ (h p List.mem_cons_self).symm]

/-- What a raised cause leaves: it stands on the ports of the list, and every other cause is as before. -/
theorem hasCause_raiseCause (l : List PortId) (bit : Nat) (m : Int) (q : PortId) (b : Nat) :
    (d.raiseCause l bit m).hasCause q b = (decide (q ∈ l ∧ b = bit) || d.hasCause q b) := by
  rw [hasCause_of_obj _ q (raiseCause_eq d l bit m), hasCause_setCauses]
  by_cases hq : q ∈ l <;> by_cases hb : b = bit <;> simp [hq, hb]

theorem val_raiseCauses (l : List PortId) (bit : Nat) (m : Int) {k : Nat} (h : ∀ p ∈ l, k ≠ Key.level1Causes p) :
    (d.raiseCause l bit m).val k = d.val k := by
  have h1 : (d.raiseCause l bit m).val k = ((l.filter fun p => !d.hasCause p bit).foldl (setCause bit) d).val k := by
    simp only [Dev.val, raiseCause_eq]
  rw [h1, val_setCauses _ _ _ fun p hp => h p (List.mem_of_mem_filter hp)]

theorem causes_raiseCause_other (l : List PortId) (bit : Nat) (m : Int) {q : PortId} (h : q ∉ l) : (d.raiseCause l bit m).causes q = d.causes q :=
  nat_of_val (val_raiseCauses d l bit m fun _ hp hk => h (level1Causes_inj hk ▸ hp))

theorem raiseCause_safety (l : List PortId) (bit : Nat) (m : Int) : (d.raiseCause l bit m).safety = d.safety :=
  (Dev.raiseCause_keeps0 l bit m d).get_safety rfl

theorem raiseCause_psafe (l : List PortId) (bit : Nat) (m : Int) (q : PortId) : (d.raiseCause l bit m).psafe q = d.psafe q := by
  unfold Dev.psafe
  rw [raiseCause_safety]

theorem causes_of_val {e : Dev} (q : PortId) (h : e.val (Key.level1Causes q) = d.val (Key.level1Causes q)) : e.causes q = d.causes q := nat_of_val h

theorem causes_general (ev : GenEvent) (q : PortId) : (d.general ev).causes q = d.causes q := rfl

/-! ### Releasing -/

theorem val_setPsafe (p : PortId) (g : PortSafety → PortSafety) (k : Nat) : (d.setPsafe p g).val k = d.val k := rfl

/-- One port's cause cleared, and its envelope's part with it. -/
def clearCause (bit : Nat) (d : Dev) (p : PortId) : Dev :=
  (d.putNat (Key.level1Causes p) (setBit (d.causes p) bit false)).setPsafe p fun q => { q with ramped := setBit q.ramped bit false }

theorem releaseCause_eq (l : List PortId) (bit : Nat) (m : Int) :
    (d.releaseCause l bit m).obj = ((l.filter fun p => d.hasCause p bit).foldl (clearCause bit) d).obj ∧
      (d.releaseCause l bit m).safety = ((l.filter fun p => d.hasCause p bit).foldl (clearCause bit) d).safety := by
  unfold Dev.releaseCause
  dsimp only
  split
  · exact ⟨rfl, rfl⟩
  · exact ⟨logCause_obj _ _ _ _ _, (Dev.logCause_keeps0 _ _ _ _ _).get_safety rfl⟩

theorem hasCause_clearCauses (l : List PortId) (bit : Nat) (q : PortId) (b : Nat) :
    (l.foldl (clearCause bit) d).hasCause q b = (d.hasCause q b && !decide (q ∈ l ∧ b = bit)) := by
  induction l generalizing d with
  | nil => simp
  | cons p l ih =>
    have hset : (clearCause bit d p).hasCause q b = if q = p ∧ b = bit then false else d.hasCause q b :=
      (hasCause_of_obj (d.putNat (Key.level1Causes p) (setBit (d.causes p) bit false)) q rfl b).trans (hasCause_putCauses d p q bit b false)
    rw [List.foldl_cons, ih, hset]
    by_cases hq : q = p <;> by_cases hb : b = bit <;> simp [hq, hb]

theorem val_clearCauses (l : List PortId) (bit : Nat) {k : Nat} (h : ∀ p ∈ l, k ≠ Key.level1Causes p) : (l.foldl (clearCause bit) d).val k = d.val k := by
  induction l generalizing d with
  | nil => rfl
  | cons p l ih =>
    rw [List.foldl_cons, ih _ fun q hq => h q (List.mem_cons_of_mem _ hq), clearCause, val_setPsafe,
      Dev.val_putNat_other _ _ (h p List.mem_cons_self).symm]

/-- A released cause is gone from the ports of the list, and every other cause is as before. -/
theorem hasCause_releaseCause (l : List PortId) (bit : Nat) (m : Int) (q : PortId) (b : Nat) :
    (d.releaseCause l bit m).hasCause q b = (d.hasCause q b && !decide (q ∈ l ∧ b = bit)) := by
  rw [hasCause_of_obj _ q (releaseCause_eq d l bit m).1, hasCause_clearCauses]
  by_cases hq : q ∈ l <;> by_cases hb : b = bit <;> simp_all

theorem val_releaseCause (l : List PortId) (bit : Nat) (m : Int) {k : Nat} (h : ∀ p ∈ l, k ≠ Key.level1Causes p) :
    (d.releaseCause l bit m).val k = d.val k := by
  have h1 : (d.releaseCause l bit m).val k = ((l.filter fun p => d.hasCause p bit).foldl (clearCause bit) d).val k := by
    simp only [Dev.val, (releaseCause_eq d l bit m).1]
  rw [h1, val_clearCauses _ _ _ fun p hp => h p (List.mem_of_mem_filter hp)]

end

/-- A release touches the causes, the logbooks and the safety state. -/
theorem releaseCause_keepsSafety {L : Nat} {a d : Dev} (l : List PortId) (bit : Nat) (m : Int) (hL : 139268 ||| L = L) (h : Keeps L a d) :
    Keeps L a (d.releaseCause l bit m) := by
  have hfold : ∀ r : List PortId, Keeps 139268 d (r.foldl (clearCause bit) d) := fun r =>
    Keeps.foldl r (.refl _ _) fun e p he => keeps_safety (L := 139268) _ (by decide) (Dev.putNat_keeps _ _ _ (by decide) he)
  refine Keeps.after hL ?_ h
  unfold Dev.releaseCause
  exact Keeps.ite (hfold _) (Dev.logCause_keeps _ _ _ _ _ (by decide) (hfold _))

end Sys2Proof.Machine
end

section
/-! PROOFS. Residual current, insulation and PEN hazards (13 R339 to R343, R367). -/

namespace Sys2Proof.Machine

/-- What a hazard of port p changes: its causes, its safety state, the objects of the list and Heartwood's logbooks. -/
structure Dev.SafeOnly (d : Dev) (p : PortId) (keys : List Nat) (e : Dev) : Prop where
  others : ∀ q, q ≠ p → e.causes q = d.causes q ∧ e.psafe q = d.psafe q
  keep : Keeps 139268 d e
  vals : ∀ k, k ∉ keys → e.val k = d.val k

section
variable {d : Dev} {p : PortId} {keys : List Nat} {e : Dev}

theorem Dev.SafeOnly.refl : d.SafeOnly p keys d := ⟨fun _ _ => ⟨rfl, rfl⟩, .refl _ _, fun _ _ => rfl⟩

theorem keeps_setPsafe {L : Nat} {a b : Dev} (p : PortId) (g : PortSafety → PortSafety) (hL : 131072 ||| L = L) (h : Keeps L a b) :
    Keeps L a (b.setPsafe p g) := keeps_safety _ hL h

theorem Dev.SafeOnly.raise (h : d.SafeOnly p keys e) (bit : Nat) (m : Int) (hk : Key.level1Causes p ∈ keys) :
    d.SafeOnly p keys (e.raiseCause [p] bit m) where
  others q hq := ⟨(causes_raiseCause_other e [p] bit m (by simpa using hq)).trans (h.others q hq).1, (raiseCause_psafe ..).trans (h.others q hq).2⟩
  keep := Dev.raiseCause_keeps _ _ _ _ (by decide) h.keep
  vals k hn := (val_raiseCause e p bit m fun (he : k = Key.level1Causes p) => hn (he ▸ hk)).trans (h.vals k hn)

theorem Dev.SafeOnly.setPsafe (h : d.SafeOnly p keys e) (g : PortSafety → PortSafety) : d.SafeOnly p keys (e.setPsafe p g) where
  others q hq := ⟨(h.others q hq).1, (Dev.psafe_setPsafe_other e g hq).trans (h.others q hq).2⟩
  keep := keeps_setPsafe p g (by decide) h.keep
  vals k hn := h.vals k hn

theorem Dev.SafeOnly.putNat (h : d.SafeOnly p keys e) {k : Nat} (n : Nat) (hk : k ∈ keys) (hc : ∀ q : PortId, k ≠ Key.level1Causes q) :
    d.SafeOnly p keys (e.putNat k n) where
  others q hq := ⟨(causes_of_val e q (Dev.val_putNat_other _ _ (hc q))).trans (h.others q hq).1,
    Eq.trans (by unfold Dev.psafe; rw [Dev.putNat_safety]) (h.others q hq).2⟩
  keep := Dev.putNat_keeps _ _ _ (by decide) h.keep
  vals j hn := (Dev.val_putNat_other _ _ fun (he : k = j) => hn (he ▸ hk)).trans (h.vals j hn)

theorem Dev.SafeOnly.bump (h : d.SafeOnly p keys e) {k : Nat} (hk : k ∈ keys) (hc : ∀ q : PortId, k ≠ Key.level1Causes q) :
    d.SafeOnly p keys (e.bump k) := h.putNat _ hk hc

theorem Dev.SafeOnly.general (h : d.SafeOnly p keys e) (ev : GenEvent) : d.SafeOnly p keys (e.general ev) where
  others := h.others
  keep := Dev.general_keeps _ _ (by decide) h.keep
  vals := h.vals

theorem Dev.SafeOnly.only {s : State} (h : s.dev.SafeOnly p keys e) : Only [.heart, .safety] keys s { s with dev := e } :=
  h.keep.only (by decide) h.vals

end

/-- A safety state that is set, with or without an entry in the logbook. -/
theorem setPsafe_noted {d w : Dev} {p : PortId} {keys : List Nat} (h : d.SafeOnly p keys w) (g : PortSafety → PortSafety) (warn : Dev → Prop)
    [∀ v, Decidable (warn v)] (ev : GenEvent) :
    let e := if warn (w.setPsafe p g) then (w.setPsafe p g).general ev else w.setPsafe p g
    (∀ k, e.val k = w.val k) ∧ e.psafe p = g (w.psafe p) ∧ d.SafeOnly p keys e := by
  have hstep := h.setPsafe g
  have hpsafe := Dev.psafe_setPsafe_same w p g
  have hval : ∀ k, (w.setPsafe p g).val k = w.val k := val_setPsafe w p g
  generalize w.setPsafe p g = v at hstep hpsafe hval
  dsimp only
  split
  · exact ⟨hval, hpsafe, hstep.general _⟩
  · exact ⟨hval, hpsafe, hstep⟩

/-- The device ticks: powered, with I7 running. -/
theorem ticking_of {d : Dev} (hp : d.powered = true) (hi : d.clocks.i7Lost = false) : d.ticking = true := by
  unfold Dev.ticking
  rw [hp, hi]
  rfl

/-! ### Residual current (13 R339, R340) -/

section
variable (p q : PortId)

theorem residualTripCount_ne : Key.residualTripCount ≠ Key.level1Causes q := by
  simp only [Key.residualTripCount, Key.level1Causes, ob]
  omega

theorem rcdTestResult_ne : Key.rcdTestResult p ≠ Key.level1Causes q := by
  have := p.isLt
  have := q.isLt
  simp only [Key.rcdTestResult, Key.level1Causes, ob]
  omega

theorem insulationTripCount_ne : Key.insulationTripCount ≠ Key.level1Causes q := by
  simp only [Key.insulationTripCount, Key.level1Causes, ob]
  omega

theorem insulationResistance_ne : Key.insulationResistance p ≠ Key.level1Causes q := by
  have := p.isLt
  have := q.isLt
  simp only [Key.insulationResistance, Key.level1Causes, ob]
  omega

theorem insulationResistance_ne_tripCount : Key.insulationResistance p ≠ Key.insulationTripCount := by
  simp only [Key.insulationResistance, Key.insulationTripCount, ob]
  omega

theorem imdFault_ne : Key.insulationResistance p ≠ Key.imdFault q := by
  have := p.isLt
  have := q.isLt
  simp only [Key.insulationResistance, Key.imdFault, ob]
  omega

end

/-- A criterion met raises cause 7 and is counted. -/
theorem residualTrip_raised (s : State) (p : PortId) (x : Int) :
    let e := (s.dev.bump Key.residualTripCount).raiseCause [p] 7 x
    e.hasCause p 7 = true ∧ e.nat Key.residualTripCount = min (s.dev.nat Key.residualTripCount + 1) (Dev.top Key.residualTripCount) ∧
      (∀ q, q ≠ p → e.causes q = s.dev.causes q ∧ e.psafe q = s.dev.psafe q) ∧
      Only [.heart] [Key.residualTripCount, Key.level1Causes p] s { s with dev := e } := by
  have hne := residualTripCount_ne
  have h : s.dev.SafeOnly p [Key.residualTripCount, Key.level1Causes p] ((s.dev.bump Key.residualTripCount).raiseCause [p] 7 x) :=
    (Dev.SafeOnly.refl.bump (by simp) hne).raise 7 x (by simp)
  refine ⟨raiseCause_stands _ _ _ _, ?_, h.others,
    Keeps.only (M := 8196) (Dev.raiseCause_keeps _ _ _ _ (by decide) (Dev.bump_keeps _ _ _ (by decide) (.refl _ _))) (by decide) h.vals⟩
  rw [nat_of_val (val_raiseCause _ p 7 x (hne p)), Dev.nat_bump]

/-- RESIDUAL_CURRENT_TRIP acts when the current has met its criterion's threshold for its ticks (13 R339). -/
theorem residualTrip_leaves (s : State) (p : PortId) (c : RcdCriterion) (x : Int) (n : Nat) {l : Nat × Nat} (hl : rcdLimit s.dev p c = l)
    (hp : s.dev.powered = true) (hi : s.dev.clocks.i7Lost = false) (he : s.dev.flag (Key.rcdEnable p) = true) (hc : s.dev.hasCause p 7 = false) :
    Completes (.residualCurrentTrip p c x n) s fun t =>
      if l.1 ≤ x.natAbs ∧ l.2 ≤ n then
        t.dev.hasCause p 7 = true ∧ t.dev.nat Key.residualTripCount = min (s.dev.nat Key.residualTripCount + 1) (Dev.top Key.residualTripCount) ∧
        (∀ q, q ≠ p → t.dev.causes q = s.dev.causes q ∧ t.dev.psafe q = s.dev.psafe q) ∧
        Only [.heart] [Key.residualTripCount, Key.level1Causes p] s t
      else t = s := by
  have hex : exec (.residualCurrentTrip p c x n) s = State.onDev s (residualTrip p c x n) := rfl
  unfold State.onDev residualTrip at hex
  rw [hl] at hex
  dsimp only at hex
  by_cases h : l.1 ≤ x.natAbs ∧ l.2 ≤ n
  · rw [if_pos ⟨ticking_of hp hi, he, h.1, h.2, by simp [hc]⟩] at hex
    refine ⟨_, hex, ?_⟩
    beta_reduce
    rw [if_pos h]
    exact residualTrip_raised s p x
  · rw [if_neg fun hh => h ⟨hh.2.2.1, hh.2.2.2.1⟩] at hex
    refine ⟨_, hex, ?_⟩
    beta_reduce
    rw [if_neg h]

/-- The outcome of a self-test (13 R340). -/
theorem rcdResult_leaves (d : Dev) (p : PortId) (x : Nat) :
    (if 7000 ≤ x ∧ x ≤ 13000 then
      (rcdResult p x d).nat (Key.rcdTestResult p) = 1 ∧ (rcdResult p x d).psafe p = { d.psafe p with rcdRun := none, rcdPass := some d.tick7 } ∧
        (rcdResult p x d).causes p = d.causes p
    else (rcdResult p x d).nat (Key.rcdTestResult p) = 2 ∧ (rcdResult p x d).psafe p = { d.psafe p with rcdRun := none } ∧
      (rcdResult p x d).hasCause p 8 = true) ∧ d.SafeOnly p [Key.rcdTestResult p, Key.level1Causes p] (rcdResult p x d) := by
  have hne := rcdTestResult_ne p
  have h : ∀ (g : PortSafety → PortSafety) (n : Nat), d.SafeOnly p [Key.rcdTestResult p, Key.level1Causes p] ((d.setPsafe p g).putNat (Key.rcdTestResult p) n) :=
    fun g n => (Dev.SafeOnly.refl.setPsafe g).putNat n (by simp) hne
  have hpsafe : ∀ (g : PortSafety → PortSafety) (n : Nat), ((d.setPsafe p g).putNat (Key.rcdTestResult p) n).psafe p = g (d.psafe p) := fun g n => by
    rw [← Dev.psafe_setPsafe_same d p g]
    unfold Dev.psafe
    rw [Dev.putNat_safety]
  unfold rcdResult
  by_cases hx : 7000 ≤ x ∧ x ≤ 13000
  · simp only [hx, decide_true, if_true, and_self]
    exact ⟨⟨Dev.nat_putNat _ _ _, hpsafe _ _, causes_of_val (d.setPsafe p _) p (Dev.val_putNat_other _ _ (hne p))⟩, h _ _⟩
  · simp only [hx, decide_false, if_false, Bool.false_eq_true]
    exact ⟨⟨(nat_of_val (val_raiseCause _ p 8 0 (hne p))).trans (Dev.nat_putNat _ _ _), (raiseCause_psafe ..).trans (hpsafe _ _), raiseCause_stands _ _ _ _⟩,
      (h _ _).raise 8 0 (by simp)⟩

/-! ### Insulation (13 R341, R342) -/

/-- The objects an insulation measurement writes. -/
def insulationKeys (p : PortId) : List Nat := [Key.insulationResistance p, Key.insulationTripCount, Key.level1Causes p]

/-- An insulation fault stands afterwards, and is counted when it is new. -/
theorem insulationFault_leaves (d : Dev) (p : PortId) (u : Nat) :
    (insulationFault p u d).hasCause p 9 = true ∧
      (insulationFault p u d).psafe p = (if d.hasCause p 9 = true then d.psafe p else { d.psafe p with imdU := u }) ∧
      (insulationFault p u d).nat (Key.insulationResistance p) = d.nat (Key.insulationResistance p) ∧
      d.SafeOnly p [Key.insulationTripCount, Key.level1Causes p] (insulationFault p u d) := by
  unfold insulationFault
  split
  · exact ⟨by assumption, rfl, rfl, .refl⟩
  · refine ⟨raiseCause_stands _ _ _ _, ?_, ?_, ((Dev.SafeOnly.refl.bump (by simp) insulationTripCount_ne).setPsafe _).raise 9 _ (by simp)⟩
    · rw [raiseCause_psafe, Dev.psafe_setPsafe_same]
      unfold Dev.psafe
      rw [Dev.bump_safety]
    · rw [nat_of_val (val_raiseCause _ p 9 _ (insulationResistance_ne p p)), nat_of_val (val_setPsafe _ p _ _),
        Dev.nat_bump_other _ _ (insulationResistance_ne_tripCount p).symm]

theorem showResistance_leaves (d : Dev) (p : PortId) (ohms : Nat) :
    (showResistance p ohms d).nat (Key.insulationResistance p) = min (ohms / 1000) 0xFFFFFFFE ∧
      (showResistance p ohms d).psafe p = { d.psafe p with imdOhms := ohms } ∧ (showResistance p ohms d).causes p = d.causes p ∧
      (showResistance p ohms d).nat (Key.imdFault p) = d.nat (Key.imdFault p) ∧ d.SafeOnly p (insulationKeys p) (showResistance p ohms d) := by
  have hne := insulationResistance_ne p
  refine ⟨Dev.nat_putNat _ _ _, ?_, ?_, ?_, (Dev.SafeOnly.refl.setPsafe _).putNat _ (by simp [insulationKeys]) hne⟩
  · rw [← Dev.psafe_setPsafe_same d p fun q => { q with imdOhms := ohms }]
    unfold showResistance Dev.psafe
    rw [Dev.putNat_safety]
  · exact causes_of_val (d.setPsafe p fun q => { q with imdOhms := ohms }) p (Dev.val_putNat_other _ _ (hne p))
  · exact Dev.nat_putNat_other (d.setPsafe p fun q => { q with imdOhms := ohms }) _ (imdFault_ne p p)

variable {d : Dev} {p : PortId} {keys more : List Nat} in
theorem Dev.SafeOnly.trans {e f : Dev} (h : d.SafeOnly p keys e) (g : e.SafeOnly p keys f) : d.SafeOnly p keys f where
  others q hq := ⟨(g.others q hq).1.trans (h.others q hq).1, (g.others q hq).2.trans (h.others q hq).2⟩
  keep := h.keep.trans g.keep
  vals k hn := (g.vals k hn).trans (h.vals k hn)

variable {d : Dev} {p : PortId} {keys more : List Nat} in
theorem Dev.SafeOnly.widen {e : Dev} (h : d.SafeOnly p keys e) (hs : keys ⊆ more) : d.SafeOnly p more e where
  others := h.others
  keep := h.keep
  vals k hn := h.vals k fun hk => hn (hs hk)

theorem isolationTest_leaves (s : State) (p : PortId) (ohms : Nat) (ha : s.dev.auxUp = true) (hd : s.dev.isDc p = true)
    (hi : s.dev.flag (Key.imdEnable p) = true) (hs : (s.dev.port p).session = .energised) (hq : (s.dev.psafe p).isoPassed = false)
    (hc : s.dev.hasCause p 9 = false) :
    Completes (.isolationTest p ohms) s fun t =>
      let u := s.dev.testVoltage p * 100
      t.dev.nat (Key.insulationResistance p) = min (ohms / 1000) 0xFFFFFFFE ∧
      (if ohms * 1000 < s.dev.nat (Key.imdFault p) * u then t.dev.hasCause p 9 = true ∧ t.dev.psafe p = { s.dev.psafe p with imdU := u, imdOhms := ohms }
      else t.dev.causes p = s.dev.causes p ∧ t.dev.psafe p = { s.dev.psafe p with
        isoPassed := true, imdLow := 0, imdOhms := ohms }) ∧
      (∀ q, q ≠ p → t.dev.causes q = s.dev.causes q ∧ t.dev.psafe q = s.dev.psafe q) ∧ Only [.heart, .safety] (insulationKeys p) s t := by
  obtain ⟨hr, hps, hca, hfault, ho⟩ := showResistance_leaves s.dev p ohms
  obtain ⟨u, hu⟩ : ∃ u, u = s.dev.testVoltage p * 100 := ⟨_, rfl⟩
  have hex : exec (.isolationTest p ohms) s = State.onDev s (isolationTest p ohms) := rfl
  unfold State.onDev isolationTest at hex
  rw [if_pos ⟨ha, hd, hi, hs, by simp [hq]⟩, ← hu] at hex
  dsimp only at hex
  rw [hfault] at hex
  rw [← hu]
  generalize showResistance p ohms s.dev = w at hr hps hca ho hex
  have hw9 : w.hasCause p 9 = false := by unfold Dev.hasCause; rw [hca]; exact hc
  by_cases hlow : ohms * 1000 < s.dev.nat (Key.imdFault p) * u
  · rw [if_pos hlow] at hex
    obtain ⟨h9, hp9, hr9, ho9⟩ := insulationFault_leaves w p u
    refine ⟨_, hex, hr9.trans hr, ?_, ?_, (ho.trans (ho9.widen (by simp [insulationKeys]))).only⟩
    · rw [if_pos hlow]
      refine ⟨h9, ?_⟩
      rw [hp9, if_neg (by simp [hw9]), hps]
    · exact (ho.trans (ho9.widen (by simp [insulationKeys]))).others
  · rw [if_neg hlow] at hex
    obtain ⟨hval, hpe, hoe⟩ := setPsafe_noted ho (fun q => { q with isoPassed := true, imdLow := 0 })
      (fun v => ohms * 1000 < v.nat (Key.imdWarning p) * u) (.note 4 [p, ohms / 1000])
    refine ⟨_, hex, (nat_of_val (hval _)).trans hr, ?_, hoe.others, hoe.only⟩
    rw [if_neg hlow]
    exact ⟨(causes_of_val w p (hval _)).trans hca, by rw [hpe, hps]⟩

theorem insulationEvaluation_leaves (s : State) (p : PortId) (ohms mv : Nat) (ha : s.dev.auxUp = true) (hd : s.dev.isDc p = true)
    (hi : s.dev.flag (Key.imdEnable p) = true) (hs : (s.dev.port p).session = .energised) :
    Completes (.insulationEvaluation p ohms mv) s fun t =>
      let n := if ohms * 1000 < s.dev.nat (Key.imdFault p) * mv then (s.dev.psafe p).imdLow + 1 else 0
      t.dev.nat (Key.insulationResistance p) = min (ohms / 1000) 0xFFFFFFFE ∧ (t.dev.psafe p).imdLow = n ∧ (t.dev.psafe p).imdOhms = ohms ∧
      (if 2 ≤ n then t.dev.hasCause p 9 = true else t.dev.causes p = s.dev.causes p) ∧
      (∀ q, q ≠ p → t.dev.causes q = s.dev.causes q ∧ t.dev.psafe q = s.dev.psafe q) ∧ Only [.heart, .safety] (insulationKeys p) s t := by
  obtain ⟨hr, hps, hca, hfault, ho⟩ := showResistance_leaves s.dev p ohms
  obtain ⟨n, hn⟩ : ∃ n, n = if ohms * 1000 < s.dev.nat (Key.imdFault p) * mv then (s.dev.psafe p).imdLow + 1 else 0 := ⟨_, rfl⟩
  have hex : exec (.insulationEvaluation p ohms mv) s = State.onDev s (insulationEvaluation p ohms mv) := rfl
  unfold State.onDev insulationEvaluation at hex
  rw [if_neg (by simp [ha, hd, hi]), if_pos hs] at hex
  dsimp only at hex
  rw [hfault, hps] at hex
  simp only [decide_eq_true_eq] at hex
  rw [← hn] at hex ⊢
  generalize showResistance p ohms s.dev = w at hr hps hca ho hex
  have hv := ho.setPsafe fun q => { q with imdLow := n }
  have hvp : (w.setPsafe p fun q => { q with imdLow := n }).psafe p = { s.dev.psafe p with imdOhms := ohms, imdLow := n } := by
    rw [Dev.psafe_setPsafe_same, hps]
  have hvv : ∀ k, (w.setPsafe p fun q => { q with imdLow := n }).val k = w.val k := val_setPsafe w p _
  generalize (w.setPsafe p fun q => { q with imdLow := n }) = v at hv hvp hvv hex
  by_cases h2 : 2 ≤ n
  · rw [if_pos h2] at hex
    obtain ⟨h9, hp9, hr9, ho9⟩ := insulationFault_leaves v p mv
    have hand := hv.trans (ho9.widen (by simp [insulationKeys]))
    refine ⟨_, hex, hr9.trans ((nat_of_val (hvv _)).trans hr), ?_, ?_, by rw [if_pos h2]; exact h9, hand.others, hand.only⟩
    all_goals
      rw [hp9, hvp]
      split <;> rfl
  · rw [if_neg h2] at hex
    refine ⟨_, hex, (nat_of_val (hvv _)).trans hr, by rw [hvp], by rw [hvp], ?_, hv.others, hv.only⟩
    rw [if_neg h2]
    exact (causes_of_val w p (hvv _)).trans hca

/-- A loopback test that fails is an insulation fault at the voltage of the last measurement (13 R367). -/
theorem imdLoopback_leaves (s : State) (p : PortId) (ok : Bool) (ha : s.dev.auxUp = true) (hd : s.dev.isDc p = true)
    (hi : s.dev.flag (Key.imdEnable p) = true) :
    Completes (.imdLoopbackTest p ok) s fun t =>
      t.dev.psafe p = { s.dev.psafe p with loopFail := !ok } ∧ (if ok = true then t.dev.causes p = s.dev.causes p else t.dev.hasCause p 9 = true) ∧
      (∀ q, q ≠ p → t.dev.causes q = s.dev.causes q ∧ t.dev.psafe q = s.dev.psafe q) ∧
      Only [.heart, .safety] [Key.insulationTripCount, Key.level1Causes p] s t := by
  have hex : exec (.imdLoopbackTest p ok) s = State.onDev s (imdLoopback p ok) := rfl
  unfold State.onDev imdLoopback at hex
  rw [if_pos ⟨ha, hd, hi⟩] at hex
  dsimp only at hex
  have hv := (Dev.SafeOnly.refl (d := s.dev) (p := p) (keys := [Key.insulationTripCount, Key.level1Causes p])).setPsafe fun q => { q with loopFail := !ok }
  have hvp := Dev.psafe_setPsafe_same s.dev p fun q => { q with loopFail := !ok }
  have hvv : ∀ k, (s.dev.setPsafe p fun q => { q with loopFail := !ok }).val k = s.dev.val k := val_setPsafe s.dev p _
  generalize (s.dev.setPsafe p fun q => { q with loopFail := !ok }) = v at hv hvp hvv hex
  by_cases hok : ok = true
  · rw [if_pos hok] at hex
    exact ⟨_, hex, hvp, by rw [if_pos hok]; exact causes_of_val s.dev p (hvv _), hv.others, hv.only⟩
  · rw [if_neg hok] at hex
    obtain ⟨h9, hp9, -, ho9⟩ := insulationFault_leaves v p (v.psafe p).imdU
    refine ⟨_, hex, ?_, by rw [if_neg hok]; exact h9, (hv.trans ho9).others, (hv.trans ho9).only⟩
    rw [hp9, hvp]
    split <;> rfl

/-! ### PEN (13 R343) -/

/-- The PEN voltage at its limit for five ticks raises cause 10 on every port. -/
theorem penFault_leaves (s : State) (mv n : Nat) (hp : s.dev.powered = true) (hi : s.dev.clocks.i7Lost = false) :
    Completes (.penFault mv n) s fun t =>
      if s.dev.nat Key.penLimit ≤ mv ∧ 5 ≤ n then
        (∀ p, t.dev.hasCause p 10 = true ∧ ∀ b, b ≠ 10 → t.dev.hasCause p b = s.dev.hasCause p b) ∧ t.dev.nat Key.penRms = mv ∧
        t.dev.safety = { s.dev.safety with penBelowAt := none } ∧
        Only [.heart, .safety] (Key.penRms :: Key.penTripCount :: causeKeys) s t
      else t = s := by
  have hex : exec (.penFault mv n) s = State.onDev s (penFault mv n) := rfl
  unfold State.onDev penFault at hex
  by_cases hc : s.dev.nat Key.penLimit ≤ mv ∧ 5 ≤ n
  swap
  · rw [if_neg fun h => hc h.2] at hex
    exact ⟨_, hex, by beta_reduce; rw [if_neg hc]⟩
  rw [if_pos ⟨ticking_of hp hi, hc⟩] at hex
  dsimp only at hex
  have hrms : ∀ q : PortId, Key.penRms ≠ Key.level1Causes q := fun q => by simp only [Key.penRms, Key.level1Causes, ob]; omega
  have htrip : ∀ q : PortId, Key.penTripCount ≠ Key.level1Causes q := fun q => by simp only [Key.penTripCount, Key.level1Causes, ob]; omega
  obtain ⟨w, hw⟩ : ∃ w : Dev, w = { s.dev.putNat Key.penRms mv with
    safety := { (s.dev.putNat Key.penRms mv).safety with penBelowAt := none } } := ⟨_, rfl⟩
  rw [← hw] at hex
  have hwk : Keeps 139268 s.dev w := by
    rw [hw]
    exact keeps_safety _ (by decide) (Dev.putNat_keeps _ _ _ (by decide) (.refl _ _))
  have hws : w.safety = { s.dev.safety with penBelowAt := none } := by
    rw [hw]
    show { (s.dev.putNat Key.penRms mv).safety with penBelowAt := none } = _
    rw [Dev.putNat_safety]
  have hwo : w.obj = (s.dev.putNat Key.penRms mv).obj := by rw [hw]
  have hwr : w.nat Key.penRms = mv := by simp only [Dev.nat, Dev.int, Dev.val, hwo]; exact Dev.nat_putNat s.dev Key.penRms mv
  have hwv : ∀ k, k ≠ Key.penRms → w.val k = s.dev.val k := fun k hk => by
    simp only [Dev.val, hwo]
    exact Dev.val_putNat_other s.dev mv hk.symm
  clear hw hwo
  obtain ⟨v, hv⟩ : ∃ v : Dev, v = if (Dev.allPorts.all fun p => w.hasCause p 10) = true then w else w.bump Key.penTripCount := ⟨_, rfl⟩
  rw [← hv] at hex
  have hvv : ∀ k, k ≠ Key.penTripCount → v.val k = w.val k := fun k hk => by
    rw [hv]
    split
    · rfl
    · exact Dev.val_bump_other _ _ hk.symm
  have hvs : v.safety = w.safety := by
    rw [hv]
    split
    · rfl
    · exact Dev.bump_safety ..
  have hvk : Keeps 139268 s.dev v := by
    rw [hv]
    exact Keeps.ite hwk (Dev.bump_keeps _ _ _ (by decide) hwk)
  clear hv
  refine ⟨_, hex, ?_⟩
  beta_reduce
  rw [if_pos hc]
  refine ⟨fun p => ⟨?_, fun b hb => ?_⟩, ?_, ?_, Keeps.only (Dev.raiseCause_keeps _ _ _ _ (by decide) hvk) (by decide) fun k hk => ?_⟩
  · rw [hasCause_raiseCause]
    simp [Dev.allPorts]
  · rw [hasCause_raiseCause, hasCause_of_val w p (hvv _ (htrip p).symm), hasCause_of_val s.dev p (hwv _ (hrms p).symm)]
    simp [hb]
  · rw [nat_of_val (val_raiseCauses v _ 10 _ fun p _ => hrms p), nat_of_val (hvv _ (by decide)), hwr]
  · rw [raiseCause_safety, hvs, hws]
  · simp only [List.mem_cons, not_or] at hk
    obtain ⟨h1, h2, h3⟩ := hk
    rw [val_raiseCauses v _ 10 _ fun p _ (he : k = Key.level1Causes p) => h3 (he ▸ level1Causes_mem p), hvv _ h2, hwv _ h1]

/-- Settles O47: residual current, insulation and PEN hazards raise their causes on their ports. -/
theorem currentAndInsulationHazards : Obligations.CurrentAndInsulationHazards := by
  unfold Obligations.CurrentAndInsulationHazards
  dsimp only
  refine ⟨fun s p c x n hp hi he hc => ?_, fun s p hp hi hc hr hr' => ?_, fun s p x n hp hi hr hn => ?_, isolationTest_leaves,
    insulationEvaluation_leaves, imdLoopback_leaves, penFault_leaves⟩
  · cases c <;> exact residualTrip_leaves s p _ x n rfl hp hi he hc
  · have hex : exec (.rcdSelfTest p) s = State.onDev s (rcdSelfTest p) := rfl
    unfold State.onDev rcdSelfTest at hex
    rw [if_pos ⟨ticking_of hp hi, hc, hr, by rw [hr']; rfl⟩] at hex
    exact ⟨_, hex, Dev.psafe_setPsafe_same _ _ _, (Dev.SafeOnly.refl (keys := []).setPsafe _).others,
      Keeps.only (M := 131072) (keeps_setPsafe p _ (by decide) (.refl _ _)) (by decide) fun k _ => val_setPsafe _ _ _ _⟩
  · have hex : exec (.rcdSelfTestDone p x) s = State.onDev s (rcdSelfTestDone p x) := rfl
    unfold State.onDev rcdSelfTestDone at hex
    rw [hr] at hex
    dsimp only at hex
    rw [if_pos ⟨ticking_of hp hi, hn⟩] at hex
    obtain ⟨h, ho⟩ := rcdResult_leaves s.dev p x
    exact ⟨_, hex, h, ho.others, ho.only⟩

end Sys2Proof.Machine
end

section
/-! PROOFS. Temperature, grid loss while exporting and contactor faults (13 R345, R346, R350, R352, R353, R358). -/

namespace Sys2Proof.Machine

/-! ### Sensors (13 R345, R346) -/

section
variable (d : Dev) (k : Fin 16)

theorem sensor_setSensor_same (g : Sensor → Sensor) : (d.setSensor k g).safety.sensors[k] = g d.safety.sensors[k] := vmod_same _ _ _

theorem sensor_setSensor_other (g : Sensor → Sensor) {j : Fin 16} (h : j ≠ k) : (d.setSensor k g).safety.sensors[j] = d.safety.sensors[j] :=
  vmod_other _ _ h

theorem val_setSensor (g : Sensor → Sensor) (j : Nat) : (d.setSensor k g).val j = d.val j := rfl

theorem keeps_setSensor {L : Nat} {a b : Dev} (g : Sensor → Sensor) (hL : 131072 ||| L = L) (h : Keeps L a b) : Keeps L a (b.setSensor k g) :=
  keeps_safety _ hL h

theorem mem_sensorPorts {p : PortId} : p ∈ sensorPorts d k ↔ d.nat (Key.sensorPort k) = p ∨ d.nat (Key.sensorPort k) = 8 := by
  unfold sensorPorts sensorOn
  simp [Dev.allPorts]

/-- The limits of the ports of a sensor are objects of their own. -/
theorem val_temperatureLimits (l : List PortId) {j : Nat} (h : ∀ p : PortId, j ≠ Key.temperatureLimit p) : (l.foldl temperatureLimits d).val j = d.val j :=
  foldl_keeps_prop (P := fun e => e.val j = d.val j) (fun e p he => by
    unfold temperatureLimits
    rw [Dev.val_putNat_other _ _ (h p).symm, he]) l rfl

theorem temperatureLimits_safety (l : List PortId) : (l.foldl temperatureLimits d).safety = d.safety :=
  foldl_keeps_prop (P := fun e => e.safety = d.safety) (fun _ _ he => (Dev.putNat_safety ..).trans he) l rfl

theorem releaseCause_sensors (l : List PortId) (bit : Nat) (m : Int) : (d.releaseCause l bit m).safety.sensors = d.safety.sensors := by
  rw [(releaseCause_eq d l bit m).2]
  exact foldl_keeps_prop (P := fun e => e.safety.sensors = d.safety.sensors) (fun e p he => by
    unfold clearCause
    show (e.putNat _ _).safety.sensors = _
    rw [Dev.putNat_safety, he]) _ rfl

end

/-- The steps of a reading in range: it is shown and counted; ten low ones end a trip; the limits follow, and a port without a trip is free. -/
def readingCounted (k : Fin 16) (x : Int) (d : Dev) : Dev :=
  ((d.setSensor k fun q => { q with
    overRun := if d.int (Key.tripLimit k) ≤ x then satAdd 8 q.overRun 1 else 0
    underRun := if x < d.int (Key.tripLimit k) - 50 then satAdd 8 q.underRun 1 else 0
    openRun := 0, shortRun := 0, seenAt := d.tick7 }).putInt (Key.sensorTemperature k) x).putNat (Key.sensorState k) 0

def tripEnded (k : Fin 16) (d : Dev) : Dev := if 10 ≤ d.safety.sensors[k].underRun then d.setSensor k fun q => { q with tripped := false } else d

def limitsFollow (k : Fin 16) (d : Dev) : Dev :=
  let d := (sensorPorts d k).foldl temperatureLimits d
  let free := (sensorPorts d k).filter fun p => (List.finRange 16).all fun j => !(sensorOn d j p && d.safety.sensors[j].tripped)
  (d.releaseCause free 12 0).settle

theorem pt1000Reading_eq (d : Dev) (k : Fin 16) (ohms : Nat) (x : Int) (ha : d.auxUp = true) (hp : d.nat (Key.sensorPort k) ≤ 8)
    (hlo : 500 ≤ ohms) (hhi : ohms ≤ 2400) : pt1000Reading k ohms x d = limitsFollow k (tripEnded k (readingCounted k x d)) := by
  have h1 : decide (2400 < ohms) = false := by simpa using hhi
  have h2 : decide (ohms < 500) = false := by simpa using hlo
  have h3 : (!d.auxUp || decide (8 < d.nat (Key.sensorPort k))) = false := by simpa [ha] using hp
  unfold pt1000Reading
  rw [h3]
  simp only [h1, h2, Bool.not_false, Bool.true_and, Bool.false_eq_true, if_false, if_true, decide_eq_true_eq]
  rfl

/-- A reading that counts changes its sensor and its two objects. -/
theorem readingCounted_leaves (d : Dev) (k : Fin 16) (x : Int) :
    let e := readingCounted k x d
    e.safety.sensors[k] = { d.safety.sensors[k] with
      overRun := if d.int (Key.tripLimit k) ≤ x then satAdd 8 d.safety.sensors[k].overRun 1 else 0
      underRun := if x < d.int (Key.tripLimit k) - 50 then satAdd 8 d.safety.sensors[k].underRun 1 else 0
      openRun := 0, shortRun := 0, seenAt := d.tick7 } ∧ (∀ j, j ≠ k → e.safety.sensors[j] = d.safety.sensors[j]) ∧
      e.int (Key.sensorTemperature k) = x ∧ e.nat (Key.sensorState k) = 0 ∧ Keeps 155652 d e ∧
      ∀ j, j ≠ Key.sensorTemperature k → j ≠ Key.sensorState k → e.val j = d.val j := by
  have hk := k.isLt
  have hne : Key.sensorState k ≠ Key.sensorTemperature k := by simp only [Key.sensorState, Key.sensorTemperature, ob]; omega
  unfold readingCounted
  dsimp only
  obtain ⟨g, hg⟩ : ∃ g : Sensor → Sensor, g = fun q => { q with
    overRun := if d.int (Key.tripLimit k) ≤ x then satAdd 8 q.overRun 1 else 0
    underRun := if x < d.int (Key.tripLimit k) - 50 then satAdd 8 q.underRun 1 else 0
    openRun := 0, shortRun := 0, seenAt := d.tick7 } := ⟨_, rfl⟩
  rw [← hg]
  have h1 := sensor_setSensor_same d k g
  have h2 : ∀ j, j ≠ k → (d.setSensor k g).safety.sensors[j] = d.safety.sensors[j] := fun j hj => sensor_setSensor_other d k g hj
  have hv : ∀ j, (d.setSensor k g).val j = d.val j := val_setSensor d k g
  have hkeep : Keeps 155652 d (d.setSensor k g) := keeps_setSensor k g (by decide) (.refl _ _)
  generalize d.setSensor k g = w at h1 h2 hv hkeep
  refine ⟨?_, fun j hj => ?_, ?_, Dev.nat_putNat _ _ _, Dev.putNat_keeps _ _ _ (by decide) (Dev.putInt_keeps _ _ _ (by decide) hkeep), fun j h3 h4 => ?_⟩
  · simp only [Dev.putNat_safety, Dev.putInt_safety]
    rw [h1, hg]
  · simp only [Dev.putNat_safety, Dev.putInt_safety]
    exact h2 j hj
  · rw [Dev.int_putNat_other _ _ hne, Dev.int_putInt]
  · rw [Dev.val_putNat_other _ _ h4.symm, Dev.val_putInt_other _ _ h3.symm, hv]

theorem tripEnded_leaves (d : Dev) (k : Fin 16) :
    (tripEnded k d).safety.sensors[k] = { d.safety.sensors[k] with
      tripped := d.safety.sensors[k].tripped && decide (d.safety.sensors[k].underRun < 10) } ∧
      (∀ j, j ≠ k → (tripEnded k d).safety.sensors[j] = d.safety.sensors[j]) ∧ (∀ j, (tripEnded k d).val j = d.val j) ∧
      Keeps 155652 d (tripEnded k d) := by
  unfold tripEnded
  split
  next h =>
    refine ⟨?_, fun j hj => sensor_setSensor_other d k _ hj, fun _ => rfl, keeps_setSensor k _ (by decide) (.refl _ _)⟩
    rw [sensor_setSensor_same, decide_eq_false (Nat.not_lt.2 h), Bool.and_false]
  next h => exact ⟨by rw [decide_eq_true (Nat.not_le.1 h), Bool.and_true], fun _ _ => rfl, fun _ => rfl, .refl _ _⟩

/-- The limits and the release leave the sensors and every object but the limits and the causes; of the causes only the 12th, and that only falls. -/
theorem limitsFollow_leaves (d : Dev) (k : Fin 16) :
    (limitsFollow k d).safety.sensors = d.safety.sensors ∧
      (∀ j, (∀ p : PortId, j ≠ Key.temperatureLimit p) → (∀ p : PortId, j ≠ Key.level1Causes p) → (limitsFollow k d).val j = d.val j) ∧
      (∀ p b, b ≠ 12 → (limitsFollow k d).hasCause p b = d.hasCause p b) ∧
      (∀ p, (limitsFollow k d).hasCause p 12 = true → d.hasCause p 12 = true) ∧ Keeps 155652 d (limitsFollow k d) := by
  have hlim : ∀ p q : PortId, Key.level1Causes p ≠ Key.temperatureLimit q := fun p q => by
    have hp := p.isLt
    have hq := q.isLt
    simp only [Key.level1Causes, Key.temperatureLimit, ob]
    omega
  unfold limitsFollow
  have hs := temperatureLimits_safety d (sensorPorts d k)
  have hv : ∀ j, (∀ p : PortId, j ≠ Key.temperatureLimit p) → ((sensorPorts d k).foldl temperatureLimits d).val j = d.val j :=
    fun j hj => val_temperatureLimits d (sensorPorts d k) hj
  have hkeep : Keeps 155652 d ((sensorPorts d k).foldl temperatureLimits d) :=
    Keeps.foldl _ (.refl _ _) fun e p he => temperatureLimits_keeps _ _ (by decide) he
  generalize (sensorPorts d k).foldl temperatureLimits d = w at hs hv hkeep
  dsimp only
  generalize ((sensorPorts w k).filter fun p => (List.finRange 16).all fun j => !(sensorOn w j p && w.safety.sensors[j].tripped)) = free
  have hc : ∀ p b, (w.releaseCause free 12 0).settle.hasCause p b = (d.hasCause p b && !decide (p ∈ free ∧ b = 12)) := fun p b => by
    rw [hasCause_of_val _ p (val_settle _ _), hasCause_releaseCause, hasCause_of_val d p (hv _ (hlim p))]
  refine ⟨?_, fun j h1 h2 => ?_, fun p b hb => ?_, fun p h => ?_, ?_⟩
  · rw [(Dev.settle_keeps0 _).get_safety rfl, releaseCause_sensors, hs]
  · rw [val_settle, val_releaseCause _ _ _ _ fun p _ => h2 p, hv j h1]
  · rw [hc]
    simp [hb]
  · rw [hc] at h
    exact (Bool.and_eq_true _ _ ▸ h).1
  · exact Dev.settle_keeps _ (by decide) (Dev.releaseCause_keeps _ _ _ _ (by decide) hkeep)

/-- A reading of a sensor in its range: shown, and counted towards its trip and its release (13 R345, R346). -/
theorem pt1000Reading_leaves (s : State) (k : Fin 16) (ohms : Nat) (x : Int) (ha : s.dev.auxUp = true) (hp : s.dev.nat (Key.sensorPort k) ≤ 8)
    (hlo : 500 ≤ ohms) (hhi : ohms ≤ 2400) :
    Completes (.pt1000Reading k ohms x) s fun t =>
      let old := s.dev.safety.sensors[k]
      let new := t.dev.safety.sensors[k]
      t.dev.int (Key.sensorTemperature k) = x ∧ t.dev.nat (Key.sensorState k) = 0 ∧ new.seenAt = s.dev.tick7 ∧
      new.overRun = (if s.dev.int (Key.tripLimit k) ≤ x then satAdd 8 old.overRun 1 else 0) ∧
      new.underRun = (if x < s.dev.int (Key.tripLimit k) - 50 then satAdd 8 old.underRun 1 else 0) ∧
      new.tripped = (old.tripped && decide (new.underRun < 10)) ∧ new.openRun = 0 ∧ new.shortRun = 0 ∧
      (∀ j, j ≠ k → t.dev.safety.sensors[j] = s.dev.safety.sensors[j]) ∧
      (∀ p b, b ≠ 12 → t.dev.hasCause p b = s.dev.hasCause p b) ∧ (∀ p, t.dev.hasCause p 12 = true → s.dev.hasCause p 12 = true) ∧
      Within [.obj, .heart, .ports, .safety] s t := by
  have hk := k.isLt
  obtain ⟨hsen, hoth, htemp, hstate, hkeep, hval⟩ := readingCounted_leaves s.dev k x
  obtain ⟨hsen2, hoth2, hval2, hkeep2⟩ := tripEnded_leaves (readingCounted k x s.dev) k
  obtain ⟨hsen3, hval3, hc3, h12, hkeep3⟩ := limitsFollow_leaves (tripEnded k (readingCounted k x s.dev)) k
  have hex : exec (.pt1000Reading k ohms x) s = .next { s with dev := limitsFollow k (tripEnded k (readingCounted k x s.dev)) } := by
    show State.onDev s _ = _
    rw [State.onDev, pt1000Reading_eq s.dev k ohms x ha hp hlo hhi]
  generalize limitsFollow k (tripEnded k (readingCounted k x s.dev)) = e3 at hsen3 hval3 hc3 h12 hkeep3 hex
  generalize tripEnded k (readingCounted k x s.dev) = e2 at *
  generalize readingCounted k x s.dev = e1 at *
  have hcause : ∀ p b, e2.hasCause p b = s.dev.hasCause p b := fun p b => by
    have hp := p.isLt
    rw [hasCause_of_val e1 p (hval2 _), hasCause_of_val s.dev p (hval _ (by simp only [Key.level1Causes, Key.sensorTemperature, ob]; omega)
      (by simp only [Key.level1Causes, Key.sensorState, ob]; omega))]
  have hT : e3.val (Key.sensorTemperature k) = e1.val (Key.sensorTemperature k) := by
    rw [hval3 _ (fun p => by simp only [Key.temperatureLimit, Key.sensorTemperature, ob]; omega)
      (fun p => by simp only [Key.level1Causes, Key.sensorTemperature, ob]; omega), hval2]
  have hS : e3.val (Key.sensorState k) = e1.val (Key.sensorState k) := by
    rw [hval3 _ (fun p => by simp only [Key.temperatureLimit, Key.sensorState, ob]; omega)
      (fun p => by simp only [Key.level1Causes, Key.sensorState, ob]; omega), hval2]
  have hnew : e3.safety.sensors[k] = { e1.safety.sensors[k] with
      tripped := e1.safety.sensors[k].tripped && decide (e1.safety.sensors[k].underRun < 10) } := by simp only [hsen3]; exact hsen2
  refine ⟨_, hex, ?_⟩
  dsimp only
  rw [hnew, hsen]
  refine ⟨?_, (nat_of_val hS).trans hstate, rfl, rfl, rfl, rfl, rfl, rfl, fun j hj => ?_, fun p b hb => (hc3 p b hb).trans (hcause p b),
    fun p h => hcause p 12 ▸ h12 p h, ((hkeep.trans hkeep2).trans hkeep3).within (by decide)⟩
  · simp only [Dev.int, hT]
    exact htemp
  · simp only [hsen3]
    rw [hoth2 j hj, hoth j hj]

section
variable (k : Fin 16) (q : PortId)

theorem sensorState_ne : Key.sensorState k ≠ Key.level1Causes q := by
  have := k.isLt
  have := q.isLt
  simp only [Key.sensorState, Key.level1Causes, ob]
  omega

theorem sensorPort_ne : Key.sensorPort k ≠ Key.level1Causes q := by
  have := k.isLt
  have := q.isLt
  simp only [Key.sensorPort, Key.level1Causes, ob]
  omega

end

/-- The state of a sensor that fails is shown, and cause 13 raised on its ports (13 R346). -/
theorem sensorFault_leaves (d : Dev) (k : Fin 16) (n : Nat) :
    let e := (d.putNat (Key.sensorState k) n).raiseCause (sensorPorts d k) 13 0
    e.safety = d.safety ∧ e.nat (Key.sensorState k) = n ∧ (∀ p, p ∈ sensorPorts d k → e.hasCause p 13 = true) ∧
      (∀ p, d.hasCause p 12 = true → e.hasCause p 12 = true) ∧ (∀ p, p ∉ sensorPorts d k → e.causes p = d.causes p) ∧ Keeps 8196 d e ∧
      ∀ j, j ∉ Key.sensorState k :: causeKeys → e.val j = d.val j := by
  have hcv : ∀ p : PortId, (d.putNat (Key.sensorState k) n).val (Key.level1Causes p) = d.val (Key.level1Causes p) := fun p =>
    Dev.val_putNat_other _ _ (sensorState_ne k p)
  refine ⟨(raiseCause_safety ..).trans (Dev.putNat_safety ..), ?_, fun p hp => ?_, fun p h => ?_, fun p hp => ?_,
    Dev.raiseCause_keeps _ _ _ _ (by decide) (Dev.putNat_keeps _ _ _ (by decide) (.refl _ _)), fun j hj => ?_⟩
  · rw [nat_of_val (val_raiseCauses _ _ 13 0 fun p _ => sensorState_ne k p), Dev.nat_putNat]
  · rw [hasCause_raiseCause]
    simp [hp]
  · rw [hasCause_raiseCause, hasCause_of_val d p (hcv p), h, Bool.or_true]
  · rw [causes_raiseCause_other _ _ 13 0 hp, causes_of_val d p (hcv p)]
  · rw [List.mem_cons, not_or] at hj
    rw [val_raiseCauses _ _ 13 0 fun p _ (he : j = Key.level1Causes p) => hj.2 (he ▸ level1Causes_mem p), Dev.val_putNat_other _ _ (Ne.symm hj.1)]

/-- Three readings over the limit trip a sensor: cause 12 on its ports. -/
def overTripped (k : Fin 16) (d : Dev) : Dev :=
  if 3 ≤ d.safety.sensors[k].overRun then (d.setSensor k fun x => { x with tripped := true }).raiseCause (sensorPorts d k) 12 0 else d

theorem overTripped_leaves (d : Dev) (k : Fin 16) :
    (overTripped k d).safety = (if 3 ≤ d.safety.sensors[k].overRun then
        { d.safety with sensors := d.safety.sensors.set k { d.safety.sensors[k] with tripped := true } } else d.safety) ∧
      (∀ p, p ∈ sensorPorts d k → 3 ≤ d.safety.sensors[k].overRun → (overTripped k d).hasCause p 12 = true) ∧
      (∀ p, p ∉ sensorPorts d k → (overTripped k d).causes p = d.causes p) ∧ Keeps 139268 d (overTripped k d) ∧
      ∀ j, j ∉ causeKeys → (overTripped k d).val j = d.val j := by
  unfold overTripped
  split
  next h =>
    refine ⟨raiseCause_safety .., fun p hp _ => ?_, fun p hp => causes_raiseCause_other _ _ 12 0 hp,
      Dev.raiseCause_keeps _ _ _ _ (by decide) (keeps_setSensor k _ (by decide) (.refl _ _)), fun j hj => ?_⟩
    · rw [hasCause_raiseCause]
      simp [hp]
    · exact val_raiseCauses _ _ 12 0 fun p _ (he : j = Key.level1Causes p) => hj (he ▸ level1Causes_mem p)
  next h => exact ⟨rfl, fun _ _ hh => absurd hh h, fun _ _ => rfl, .refl _ _, fun _ _ => rfl⟩

/-- TEMPERATURE_TRIP: three readings over the limit raise cause 12, three open or shorted ones cause 13, on the ports of the sensor (13 R346). -/
theorem temperatureTrip_leaves (s : State) (k : Fin 16) (hp : s.dev.powered = true) (hi : s.dev.clocks.i7Lost = false)
    (hk : s.dev.nat (Key.sensorPort k) ≤ 8) :
    let x := s.dev.safety.sensors[k]
    let on (p : PortId) : Prop := s.dev.nat (Key.sensorPort k) = p ∨ s.dev.nat (Key.sensorPort k) = 8
    Completes (.temperatureTrip k) s fun t =>
      t.dev.safety = (if 3 ≤ x.overRun then { s.dev.safety with sensors := s.dev.safety.sensors.set k { x with tripped := true } } else s.dev.safety) ∧
      t.dev.nat (Key.sensorState k) = (if 3 ≤ x.openRun then 1 else if 3 ≤ x.shortRun then 2 else s.dev.nat (Key.sensorState k)) ∧
      (∀ p, on p → (3 ≤ x.overRun → t.dev.hasCause p 12 = true) ∧ (3 ≤ x.openRun ∨ 3 ≤ x.shortRun → t.dev.hasCause p 13 = true)) ∧
      (∀ p, ¬ on p → t.dev.causes p = s.dev.causes p) ∧ Only [.heart, .safety] (Key.sensorState k :: causeKeys) s t := by
  dsimp only
  obtain ⟨hs, h12, hca, hkeep, hval⟩ := overTripped_leaves s.dev k
  have hex : exec (.temperatureTrip k) s = .next { s with
      dev := if 3 ≤ s.dev.safety.sensors[k].openRun then
          ((overTripped k s.dev).putNat (Key.sensorState k) 1).raiseCause (sensorPorts (overTripped k s.dev) k) 13 0
        else if 3 ≤ s.dev.safety.sensors[k].shortRun then
          ((overTripped k s.dev).putNat (Key.sensorState k) 2).raiseCause (sensorPorts (overTripped k s.dev) k) 13 0
        else overTripped k s.dev } := by
    show State.onDev s _ = _
    unfold State.onDev temperatureTrip
    rw [if_neg (by rw [ticking_of hp hi]; simpa using hk)]
    rfl
  have hport : sensorPorts (overTripped k s.dev) k = sensorPorts s.dev k := by
    unfold sensorPorts sensorOn
    rw [nat_of_val (hval _ (notin_causeKeys (sensorPort_ne k)))]
  have hst : (overTripped k s.dev).nat (Key.sensorState k) = s.dev.nat (Key.sensorState k) := nat_of_val (hval _ (notin_causeKeys (sensorState_ne k)))
  obtain ⟨h0s, h0n, h0c, h012, h0o, h0k, h0v⟩ := sensorFault_leaves (overTripped k s.dev) k 1
  obtain ⟨h1s, h1n, h1c, h112, h1o, h1k, h1v⟩ := sensorFault_leaves (overTripped k s.dev) k 2
  rw [hport] at hex h0s h0n h0c h012 h0o h0k h0v h1s h1n h1c h112 h1o h1k h1v
  generalize s.dev.safety.sensors[k] = x at hs h12 hex ⊢
  generalize ((overTripped k s.dev).putNat (Key.sensorState k) 1).raiseCause (sensorPorts s.dev k) 13 0 = f1 at *
  generalize ((overTripped k s.dev).putNat (Key.sensorState k) 2).raiseCause (sensorPorts s.dev k) 13 0 = f2 at *
  generalize overTripped k s.dev = w at *
  have hout : ∀ j, j ∉ Key.sensorState k :: causeKeys → w.val j = s.dev.val j := fun j hj => hval j fun h => hj (List.mem_cons_of_mem _ h)
  have hin : ∀ p : PortId, (s.dev.nat (Key.sensorPort k) = p ∨ s.dev.nat (Key.sensorPort k) = 8) ↔ p ∈ sensorPorts s.dev k := fun p => (mem_sensorPorts s.dev k).symm
  by_cases h3 : 3 ≤ x.openRun
  · rw [if_pos h3] at hex
    refine ⟨_, hex, h0s.trans hs, ?_, fun p hp => ?_, fun p hp => ?_, Keeps.only (M := 139268) (hkeep.trans (h0k.mono (by decide))) (by decide)
      fun j hj => (h0v j hj).trans (hout j hj)⟩
    · rw [if_pos h3]
      exact h0n
    · rw [hin] at hp
      exact ⟨fun h => h012 p (h12 p hp h), fun _ => h0c p hp⟩
    · rw [hin] at hp
      exact (h0o p hp).trans (hca p hp)
  rw [if_neg h3] at hex
  by_cases h4 : 3 ≤ x.shortRun
  · rw [if_pos h4] at hex
    refine ⟨_, hex, h1s.trans hs, ?_, fun p hp => ?_, fun p hp => ?_, Keeps.only (M := 139268) (hkeep.trans (h1k.mono (by decide))) (by decide)
      fun j hj => (h1v j hj).trans (hout j hj)⟩
    · rw [if_neg h3, if_pos h4]
      exact h1n
    · rw [hin] at hp
      exact ⟨fun h => h112 p (h12 p hp h), fun _ => h1c p hp⟩
    · rw [hin] at hp
      exact (h1o p hp).trans (hca p hp)
  · rw [if_neg h4] at hex
    refine ⟨_, hex, hs, ?_, fun p hp => ?_, fun p hp => ?_, hkeep.only (by decide) hout⟩
    · rw [if_neg h3, if_neg h4]
      exact hst
    · rw [hin] at hp
      exact ⟨h12 p hp, fun h => (h.elim h3 h4).elim⟩
    · rw [hin] at hp
      exact hca p hp

/-! ### Grid loss (13 R352, R353) -/

/-- What the grid's loss does at one port, and at the others nothing. -/
structure GridDown where
  causes : Nat
  safe : PortSafety
  port : Port
  dc : Bool

def gridDown (d : Dev) (p : PortId) : GridDown := ⟨d.causes p, d.psafe p, d.port p, d.isDc p⟩

theorem isDc_of_val {d e : Dev} {q : PortId} (h : e.val (Key.portMode q) = d.val (Key.portMode q)) : e.isDc q = d.isDc q := by
  unfold Dev.isDc Dev.mode
  rw [nat_of_val h]

section
variable {d e : Dev} {p : PortId}

theorem gridDown_setPort {q : PortId} (h : q ≠ p) (g : Port → Port) : gridDown (d.setPort p g) q = gridDown d q := by
  unfold gridDown
  rw [Dev.port_setPort_other _ _ h]
  rfl

theorem gridDown_setPsafe {q : PortId} (h : q ≠ p) (g : PortSafety → PortSafety) : gridDown (d.setPsafe p g) q = gridDown d q := by
  unfold gridDown
  rw [Dev.psafe_setPsafe_other _ _ h]
  rfl

theorem gridDown_raiseCause {q : PortId} (h : q ≠ p) (bit : Nat) (m : Int) : gridDown (d.raiseCause [p] bit m) q = gridDown d q := by
  have hp := p.isLt
  have hq := q.isLt
  unfold gridDown
  rw [causes_raiseCause_other _ _ _ _ (by simpa using h), raiseCause_psafe, port_of_ports (raiseCause_ports ..),
    isDc_of_val (val_raiseCause d p bit m (by simp only [Key.portMode, Key.level1Causes, ob]; omega))]

theorem gridDown_beginStop {q : PortId} (h : q ≠ p) (reason : Nat) : gridDown (d.beginStop p reason) q = gridDown d q := by
  unfold Dev.beginStop
  split
  · rfl
  · exact gridDown_setPort (d := d) h _

theorem gridDown_dropFor {q : PortId} (h : q ≠ p) (reason : Nat) : gridDown (d.dropFor p reason) q = gridDown d q := by
  unfold Dev.dropFor Dev.drop
  dsimp only
  rw [gridDown_setPort h, gridDown_setPsafe h]
  split
  · exact gridDown_setPort h _
  · exact gridDown_setPort h _
  · rfl

theorem hasCause_beginStop (q : PortId) (reason b : Nat) : (d.beginStop p reason).hasCause q b = d.hasCause q b :=
  hasCause_of_obj d q ((Dev.beginStop_keeps0 p reason d).get_obj rfl) b

theorem hasCause_dropFor (q : PortId) (reason b : Nat) : (d.dropFor p reason).hasCause q b = d.hasCause q b :=
  hasCause_of_obj d q ((Dev.dropFor_keeps0 d p reason).get_obj rfl) b

theorem hasCause_setPsafe (q : PortId) (g : PortSafety → PortSafety) (b : Nat) : (d.setPsafe p g).hasCause q b = d.hasCause q b :=
  hasCause_of_obj d q rfl b

theorem hasCause_setPort (q : PortId) (g : Port → Port) (b : Nat) : (d.setPort p g).hasCause q b = d.hasCause q b :=
  hasCause_of_obj d q rfl b

theorem dropFor_session (reason : Nat) : ((d.dropFor p reason).port p).session = .opening := by
  unfold Dev.dropFor Dev.drop
  dsimp only
  exact congrArg _ (Dev.port_setPort_same _ p _)

end

/-- One port's share: cause 15 stands; an AC port opens at once (13 R353). -/
theorem gridPort_leaves (d : Dev) (p : PortId) :
    (gridPort d p).hasCause p 15 = true ∧ (d.isDc p = false → ((gridPort d p).psafe p).enA = false ∧ ((gridPort d p).psafe p).enB = false ∧
      ((gridPort d p).port p).session = .opening) ∧ ∀ q, q ≠ p → gridDown (gridPort d p) q = gridDown d q := by
  have hpl := p.isLt
  have h15 := raiseCause_stands d p 15 0
  have hother : ∀ q, q ≠ p → gridDown (d.raiseCause [p] 15 0) q = gridDown d q := fun q hq => gridDown_raiseCause hq 15 0
  have hdc : (d.raiseCause [p] 15 0).isDc p = d.isDc p :=
    isDc_of_val (val_raiseCause d p 15 0 (by simp only [Key.portMode, Key.level1Causes, ob]; omega))
  unfold gridPort
  dsimp only
  generalize d.raiseCause [p] 15 0 = w at h15 hother hdc
  rw [hdc]
  split
  next h =>
    refine ⟨?_, fun hn => absurd (h.symm.trans hn) (by simp), fun q hq => ?_⟩
    · rw [hasCause_beginStop, hasCause_setPsafe, Dev.zeroRamp, hasCause_setPsafe, h15]
    · rw [gridDown_beginStop hq, gridDown_setPsafe hq, Dev.zeroRamp, gridDown_setPsafe hq, hother q hq]
  next h =>
    obtain ⟨hA, hB⟩ := dropFor_psafe (w.setPort p fun q => { q with safe := true }) p 3
    refine ⟨?_, fun _ => ⟨hA, hB, dropFor_session 3⟩, fun q hq => ?_⟩
    · rw [hasCause_dropFor, hasCause_setPort, h15]
    · rw [gridDown_dropFor hq, gridDown_setPort hq, hother q hq]

/-- The grid's loss at every port of a list: each has its share, and the others are as they were. -/
theorem gridPorts_leave (l : List PortId) (d : Dev) (hn : l.Nodup) (p : PortId) :
    (p ∈ l → (l.foldl gridPort d).hasCause p 15 = true ∧ (d.isDc p = false → ((l.foldl gridPort d).psafe p).enA = false ∧
      ((l.foldl gridPort d).psafe p).enB = false ∧ ((l.foldl gridPort d).port p).session = .opening)) ∧
      (p ∉ l → gridDown (l.foldl gridPort d) p = gridDown d p) :=
  ⟨fun hp => foldl_place (read := gridDown) (R := fun _ a b => b.causes.testBit 15 = true ∧
      (a.dc = false → b.safe.enA = false ∧ b.safe.enB = false ∧ b.port.session = .opening))
    (fun d c x hx => (gridPort_leaves d c).2.2 x hx) (fun d c => ⟨(gridPort_leaves d c).1, (gridPort_leaves d c).2.1⟩) l d hn hp,
   fun hp => foldl_place_other (read := gridDown) (fun d c x hx => (gridPort_leaves d c).2.2 x hx) l d hp⟩

/-- What else a port's share leaves: the other objects, and since when the grid has been good. -/
theorem gridPort_rest (d : Dev) (p : PortId) :
    (∀ k, (∀ q : PortId, k ≠ Key.level1Causes q) → (gridPort d p).val k = d.val k) ∧ (gridPort d p).safety.gridGoodAt = d.safety.gridGoodAt := by
  have hv : ∀ k, (∀ q : PortId, k ≠ Key.level1Causes q) → (d.raiseCause [p] 15 0).val k = d.val k := fun k h => val_raiseCause d p 15 0 (h p)
  have hs := raiseCause_safety d [p] 15 0
  unfold gridPort
  dsimp only
  generalize d.raiseCause [p] 15 0 = w at hv hs
  have hstop : ∀ (e : Dev), (e.beginStop p 3).obj = e.obj ∧ (e.beginStop p 3).safety = e.safety := fun e =>
    ⟨(Dev.beginStop_keeps0 p 3 e).get_obj rfl, (Dev.beginStop_keeps0 p 3 e).get_safety rfl⟩
  have hdrop : ∀ (e : Dev), (e.dropFor p 3).obj = e.obj ∧ (e.dropFor p 3).safety.gridGoodAt = e.safety.gridGoodAt := fun e =>
    ⟨(Dev.dropFor_keeps0 e p 3).get_obj rfl, by unfold Dev.dropFor Dev.drop; dsimp only; split <;> rfl⟩
  split
  · refine ⟨fun k h => ?_, ?_⟩
    · rw [← hv k h]
      simp only [Dev.val, (hstop _).1]
      rfl
    · rw [(hstop _).2, ← hs]
      rfl
  · refine ⟨fun k h => ?_, ?_⟩
    · rw [← hv k h]
      simp only [Dev.val, (hdrop _).1]
      rfl
    · rw [(hdrop _).2, ← hs]
      rfl

theorem gridPorts_rest (l : List PortId) (d : Dev) :
    (∀ k, (∀ q : PortId, k ≠ Key.level1Causes q) → (l.foldl gridPort d).val k = d.val k) ∧ (l.foldl gridPort d).safety.gridGoodAt = d.safety.gridGoodAt :=
  foldl_keeps_prop (P := fun e => (∀ k, (∀ q : PortId, k ≠ Key.level1Causes q) → e.val k = d.val k) ∧ e.safety.gridGoodAt = d.safety.gridGoodAt)
    (fun e p h => ⟨fun k hk => ((gridPort_rest e p).1 k hk).trans (h.1 k hk), (gridPort_rest e p).2.trans h.2⟩) l ⟨fun _ _ => rfl, rfl⟩

/-- Whether a port exports is read from its session, its modules and which of them are its own. -/
theorem gridExporting_congr {d e : Dev} (hp : e.ports = d.ports) (hm : e.modules = d.modules)
    (hv : ∀ p : PortId, e.val (Key.moduleMask p) = d.val (Key.moduleMask p)) (p : PortId) : gridExporting e p = gridExporting d p := by
  have hports := port_of_ports hp p
  have hmod : e.modulesOf p = d.modulesOf p := by
    unfold Dev.modulesOf Dev.hasModule
    simp only [nat_of_val (hv p)]
  unfold gridExporting Dev.exporting Dev.clearing
  rw [hports, hmod, hm]

/-- The number of a criterion in GridState. -/
def gridCode : GridCriterion → Nat
  | .low => 1
  | .high => 2
  | .frequency => 3

theorem val_stopAllModules (d : Dev) (reason : Nat) {k : Nat} (h : k ≠ Key.bytesCovered 12) : (d.stopAllModules reason).val k = d.val k := by
  unfold Dev.stopAllModules
  split
  · exact ((val_sayCan4 _ _ _ h).trans (val_sayCan4 _ _ _ h)).trans (val_sayCan4 _ _ _ h)
  · rfl

/-- The loss itself: shown and counted. -/
def lostNoted (d : Dev) (n : Nat) : Dev :=
  let d := d.putNat Key.gridState n
  ({ d with safety := { d.safety with gridGoodAt := none } } : Dev).bump Key.gridLossCount

theorem lostNoted_leaves (d : Dev) (n : Nat) :
    (lostNoted d n).nat Key.gridState = n ∧ (lostNoted d n).safety.gridGoodAt = none ∧
      (lostNoted d n).nat Key.gridLossCount = min (d.nat Key.gridLossCount + 1) (Dev.top Key.gridLossCount) ∧ Keeps 139268 d (lostNoted d n) ∧
      (∀ k, k ≠ Key.gridState → k ≠ Key.gridLossCount → (lostNoted d n).val k = d.val k) ∧ ∀ p, (lostNoted d n).psafe p = d.psafe p := by
  obtain ⟨w, hw⟩ : ∃ w, w = d.putNat Key.gridState n := ⟨_, rfl⟩
  obtain ⟨v, hv⟩ : ∃ v : Dev, v = { w with safety := { w.safety with gridGoodAt := none } } := ⟨_, rfl⟩
  have hwk : Keeps 139268 d w := by rw [hw]; exact Dev.putNat_keeps _ _ _ (by decide) (.refl _ _)
  have hws : w.safety = d.safety := by rw [hw, Dev.putNat_safety]
  have hwv : ∀ k, k ≠ Key.gridState → w.val k = d.val k := fun k hk => by rw [hw, Dev.val_putNat_other _ _ hk.symm]
  have hwn : w.nat Key.gridState = n := by rw [hw, Dev.nat_putNat]
  have hdef : lostNoted d n = v.bump Key.gridLossCount := by rw [hv, hw]; rfl
  have hvk : Keeps 139268 d v := by rw [hv]; exact keeps_safety _ (by decide) hwk
  have hvv : ∀ k, v.val k = w.val k := fun k => by rw [hv]; rfl
  have hvs : v.safety = { w.safety with gridGoodAt := none } := by rw [hv]
  rw [hdef]
  clear hdef hv hw
  have hne : Key.gridLossCount ≠ Key.gridState := by decide
  refine ⟨?_, ?_, ?_, Dev.bump_keeps _ _ _ (by decide) hvk, fun k h1 h2 => ?_, fun p => ?_⟩
  · rw [Dev.nat_bump_other _ _ hne, nat_of_val (hvv _), hwn]
  · rw [Dev.bump_safety, hvs]
  · rw [Dev.nat_bump, nat_of_val (hvv Key.gridLossCount), nat_of_val (hwv Key.gridLossCount hne)]
  · rw [Dev.val_bump_other _ _ h2.symm, hvv, hwv k h1]
  · unfold Dev.psafe
    rw [Dev.bump_safety, hvs, hws]

/-- GRID_LOSS (13 R352, R353): shown, counted; the ports that feed the grid stop, and only those. -/
theorem gridLoss_leaves (s : State) (c : GridCriterion) (hp : s.dev.powered = true) (hi : s.dev.clocks.i7Lost = false) :
    Completes (.gridLoss c) s fun t =>
      t.dev.nat Key.gridState = (match c with | .low => 1 | .high => 2 | .frequency => 3) ∧ t.dev.safety.gridGoodAt = none ∧
      t.dev.nat Key.gridLossCount = min (s.dev.nat Key.gridLossCount + 1) (Dev.top Key.gridLossCount) ∧
      (∀ p, gridExporting s.dev p = true → t.dev.hasCause p 15 = true ∧ (s.dev.isDc p = false →
        (t.dev.psafe p).enA = false ∧ (t.dev.psafe p).enB = false ∧ (t.dev.port p).session = .opening)) ∧
      (∀ p, gridExporting s.dev p = false → t.dev.causes p = s.dev.causes p ∧ t.dev.psafe p = s.dev.psafe p ∧
        (t.dev.port p).session = (s.dev.port p).session) ∧
      Within [.out, .obj, .heart, .ports, .site, .safety] s t := by
  have hex : exec (.gridLoss c) s = State.onDev s (gridLoss c) := rfl
  unfold State.onDev gridLoss at hex
  rw [if_neg (by simp [ticking_of hp hi])] at hex
  dsimp only at hex
  obtain ⟨n, hcode⟩ : ∃ n, gridCode c = n := ⟨_, rfl⟩
  obtain ⟨w, hw⟩ : ∃ w, w = lostNoted s.dev n := ⟨_, rfl⟩
  obtain ⟨hstate, hgood, hcount, hwk, hwv, hps⟩ := lostNoted_leaves s.dev n
  rw [← hw] at hstate hgood hcount hwk hwv hps
  obtain ⟨v, hv⟩ : ∃ v, v = if (Dev.allPorts.filter fun p => gridExporting w p).any (fun p => w.isDc p) then w.stopAllModules 2 else w := ⟨_, rfl⟩
  have hex' : exec (.gridLoss c) s = .next { s with dev := ((Dev.allPorts.filter fun p => gridExporting w p).foldl gridPort v).settle } := by
    rw [hv, hw, ← hcode]
    cases c <;> exact hex
  clear hex
  have hvk : Keeps 221190 s.dev v := by
    rw [hv]
    exact Keeps.ite (Dev.stopAllModules_keeps _ _ (by decide) (hwk.mono (by decide))) (hwk.mono (by decide))
  have hvv : ∀ k, k ≠ Key.bytesCovered 12 → v.val k = w.val k := fun k hk => by
    rw [hv]
    split
    · exact val_stopAllModules w 2 hk
    · rfl
  have hvs : v.safety = w.safety := by
    rw [hv]
    split
    · exact (Dev.stopAllModules_keeps0 w 2).get_safety rfl
    · rfl
  have hvp : v.ports = w.ports := by
    rw [hv]
    split
    · exact (Dev.stopAllModules_keeps0 w 2).get_ports rfl
    · rfl
  have hkeys : ∀ q : PortId, (Key.gridState ≠ Key.level1Causes q ∧ Key.gridLossCount ≠ Key.level1Causes q) ∧
      (Key.level1Causes q ≠ Key.bytesCovered 12 ∧ Key.portMode q ≠ Key.bytesCovered 12) ∧
      (Key.portMode q ≠ Key.gridState ∧ Key.portMode q ≠ Key.gridLossCount) ∧ Key.moduleMask q ≠ Key.gridState ∧ Key.moduleMask q ≠ Key.gridLossCount :=
    fun q => by
      have hq := q.isLt
      simp only [Key.gridState, Key.gridLossCount, Key.level1Causes, Key.bytesCovered, Key.portMode, Key.moduleMask, ob]
      omega
  have hexp : ∀ q, gridExporting w q = gridExporting s.dev q :=
    gridExporting_congr (hwk.get_ports rfl) (hwk.get_modules rfl) fun q => hwv _ (hkeys q).2.2.2.1 (hkeys q).2.2.2.2
  simp only [hexp] at hex'
  obtain ⟨hrest, hgood'⟩ := gridPorts_rest (Dev.allPorts.filter fun p => gridExporting s.dev p) v
  have hplace := gridPorts_leave (Dev.allPorts.filter fun p => gridExporting s.dev p) v ((List.nodup_finRange 8).filter _)
  have hfk : Keeps 221190 s.dev ((Dev.allPorts.filter fun p => gridExporting s.dev p).foldl gridPort v) :=
    Keeps.foldl _ hvk fun e p he => gridPort_keeps _ _ (by decide) he
  have hmem : ∀ q, q ∈ (Dev.allPorts.filter fun p => gridExporting s.dev p) ↔ gridExporting s.dev q = true := fun q => by simp [Dev.allPorts]
  generalize (Dev.allPorts.filter fun p => gridExporting s.dev p).foldl gridPort v = u at hex' hrest hgood' hplace hfk
  have hdc : ∀ q, v.isDc q = s.dev.isDc q := fun q =>
    (isDc_of_val (hvv _ (hkeys q).2.1.2)).trans (isDc_of_val (hwv _ (hkeys q).2.2.1.1 (hkeys q).2.2.1.2))
  have hcs : ∀ q, v.causes q = s.dev.causes q := fun q =>
    (causes_of_val w q (hvv _ (hkeys q).2.1.1)).trans (causes_of_val s.dev q (hwv _ (hkeys q).1.1.symm (hkeys q).1.2.symm))
  have hpsafe : ∀ q, u.settle.psafe q = u.psafe q := fun q => by
    unfold Dev.psafe
    rw [(Dev.settle_keeps0 u).get_safety rfl]
  have hses : ∀ q, (u.settle.port q).session = (u.port q).session := fun q => read_settle Port.session (fun _ _ => rfl) u q
  have hcov : Key.gridState ≠ Key.bytesCovered 12 ∧ Key.gridLossCount ≠ Key.bytesCovered 12 := by decide
  refine ⟨_, hex', ?_, ?_, ?_, fun q hq => ?_, fun q hq => ?_, Keeps.within (Dev.settle_keeps _ (by decide) hfk) (by decide)⟩
  · refine (nat_settle _ _).trans ((nat_of_val (hrest _ fun q => (hkeys q).1.1)).trans ((nat_of_val (hvv _ hcov.1)).trans (hstate.trans ?_)))
    rw [← hcode]
    cases c <;> rfl
  · dsimp only
    rw [(Dev.settle_keeps0 u).get_safety rfl, hgood', hvs, hgood]
  · exact (nat_settle _ _).trans ((nat_of_val (hrest _ fun q => (hkeys q).1.2)).trans ((nat_of_val (hvv _ hcov.2)).trans hcount))
  · obtain ⟨h15, hac⟩ := (hplace q).1 ((hmem q).2 hq)
    refine ⟨(hasCause_of_val u q (val_settle _ _) 15).trans h15, fun hd => ?_⟩
    dsimp only
    rw [hpsafe, hses]
    exact hac ((hdc q).trans hd)
  · have hsame := (hplace q).2 fun h => by rw [hmem, hq] at h; cases h
    refine ⟨(causes_of_val u q (val_settle _ _)).trans ((congrArg GridDown.causes hsame).trans (hcs q)), ?_, ?_⟩
    · refine (hpsafe q).trans ((congrArg GridDown.safe hsame).trans ?_)
      show v.psafe q = _
      unfold Dev.psafe
      rw [hvs]
      exact hps q
    · refine (hses q).trans ((congrArg (fun x : GridDown => x.port.session) hsame).trans ?_)
      show (v.port q).session = _
      rw [port_of_ports hvp, port_of_ports (hwk.get_ports rfl)]

/-- Settles O48: temperatures, grid loss and contactor faults raise their causes. -/
theorem temperatureGridAndContactors : Obligations.TemperatureGridAndContactors := by
  unfold Obligations.TemperatureGridAndContactors
  dsimp only
  refine ⟨pt1000Reading_leaves, temperatureTrip_leaves, fun s k hp hi hk hn => ?_, fun s m p data h ht => ?_, gridLoss_leaves,
    fun s n hn hp hi hg hr => ?_, fun s p hp hi hs hf => ?_⟩
  · obtain ⟨h0s, h0n, h0c, -, h0o, h0k, h0v⟩ := sensorFault_leaves s.dev k 4
    have hex : exec (.sensorStale k) s = State.onDev s (sensorStale k) := rfl
    unfold State.onDev sensorStale at hex
    rw [if_pos ⟨ticking_of hp hi, hk, hn⟩] at hex
    exact ⟨_, hex, h0n, fun p hp => h0c p ((mem_sensorPorts _ _).2 hp), fun p hp => h0o p fun h => hp ((mem_sensorPorts _ _).1 h),
      h0k.only (by decide) h0v⟩
  · have hps : ∀ q, (s.dev.admitted m).psafe q = s.dev.psafe q := fun q => by
      unfold Dev.psafe
      rw [(Dev.admitted_same s.dev m .safety (by decide) (by decide)).symm]
    have hdc : (s.dev.admitted m).isDc p = s.dev.isDc p := isDc_of_val (Dev.val_admitted_far _ _ (.inr (by simp only [Key.portMode, ob]; omega)))
    have hvolts : (s.dev.admitted m).portVolts p = s.dev.portVolts p := by
      have hfar : ∀ i, (s.dev.admitted m).nat (Key.rmsLastPeriod i) = s.dev.nat (Key.rmsLastPeriod i) := fun i =>
        admitted_nat_far (.inr (by simp only [Key.rmsLastPeriod, ob]; omega))
      unfold Dev.portVolts
      simp only [hfar]
    have hex : exec (.contactorFaultClear m p data) s = State.onDev s (cmdWrite m (Key.contactorFaultClear p) false data (contactorFaultClearServe p)) := rfl
    rw [State.onDev, cmdWrite_granted h ht, contactorFaultClearServe, hps, hdc, hvolts] at hex
    by_cases ho : ((s.dev.psafe p).fbA || (s.dev.psafe p).fbB || (!s.dev.isDc p && decide (50000 ≤ s.dev.portVolts p))) = true
    · rw [if_pos ho] at hex
      have hno : ¬(!(s.dev.psafe p).fbA && !(s.dev.psafe p).fbB && (s.dev.isDc p || decide (s.dev.portVolts p < 50000))) = true := by
        simp only [← Nat.not_le, decide_not]
        revert ho
        cases (s.dev.psafe p).fbA <;> cases (s.dev.psafe p).fbB <;> cases s.dev.isDc p <;> simp
      refine ⟨_, hex, ?_⟩
      beta_reduce
      rw [if_neg hno]
      exact served_abort_nil _ _ (grants_iff.1 h).1
    · rw [if_neg ho] at hex
      have hyes : (!(s.dev.psafe p).fbA && !(s.dev.psafe p).fbB && (s.dev.isDc p || decide (s.dev.portVolts p < 50000))) = true := by
        simp only [← Nat.not_le, decide_not]
        revert ho
        cases (s.dev.psafe p).fbA <;> cases (s.dev.psafe p).fbB <;> cases s.dev.isDc p <;> simp
      obtain ⟨w, hw⟩ : ∃ w, w = (s.dev.admitted m).setPsafe p fun q => { q with cleared := true } := ⟨_, rfl⟩
      have hws : w.psafe p = { s.dev.psafe p with cleared := true } := by rw [hw, Dev.psafe_setPsafe_same, hps]
      have hwo : ∀ q, q ≠ p → w.psafe q = s.dev.psafe q := fun q hq => by rw [hw, Dev.psafe_setPsafe_other _ _ hq, hps]
      have hwk : Keeps 131072 (s.dev.admitted m) w := by
        rw [hw]
        exact keeps_setPsafe p _ (by decide) (.refl _ _)
      have hwv : ∀ k, w.val k = (s.dev.admitted m).val k := fun k => by
        rw [hw]
        exact val_setPsafe _ p _ k
      rw [← hw] at hex
      clear hw
      have hok : ∀ q, (w.ok ((s.dev.admitted m).ackOf m (Key.contactorFaultClear p))).psafe q = w.psafe q := fun q => by
        unfold Dev.psafe
        rw [(Dev.ok_keeps0 _ _).get_safety rfl]
      refine ⟨_, hex, ?_⟩
      beta_reduce
      rw [if_pos hyes]
      exact ⟨(hok p).trans hws, fun q hq => (hok q).trans (hwo q hq),
        served_ok (M := 131072) (keys := []) _ (grants_iff.1 h).1 hwk (by decide) (by decide) (fun k _ => hwv k) (by simp)⟩
  · have hex : exec .gridReconnect s = State.onDev s gridReconnect := rfl
    unfold State.onDev gridReconnect at hex
    rw [hn] at hex
    dsimp only at hex
    rw [if_pos ⟨ticking_of hp hi, hg, hr⟩] at hex
    have hne : ∀ q : PortId, Key.gridState ≠ Key.level1Causes q := fun q => by simp only [Key.gridState, Key.level1Causes, ob]; omega
    have hcause : ∀ q b, (s.dev.putNat Key.gridState 0).hasCause q b = s.dev.hasCause q b := fun q b =>
      hasCause_of_val s.dev q (Dev.val_putNat_other _ _ (hne q)) b
    refine ⟨_, hex, ?_, fun q => ⟨?_, fun b hb => ?_⟩, ?_⟩
    · exact (nat_of_val (val_releaseCause _ _ 15 0 fun q _ => hne q)).trans (Dev.nat_putNat _ _ _)
    · refine (hasCause_releaseCause ..).trans ?_
      simp [Dev.allPorts]
    · refine (hasCause_releaseCause ..).trans ?_
      rw [hcause]
      simp [hb]
    · refine Keeps.only (M := 139268) (releaseCause_keepsSafety _ _ _ (by decide) (Dev.putNat_keeps _ _ _ (by decide) (.refl _ _))) (by decide) fun k hk => ?_
      rw [List.mem_cons, not_or] at hk
      exact (val_releaseCause _ _ 15 0 fun q _ (he : k = Key.level1Causes q) => hk.2 (he ▸ level1Causes_mem q)).trans
        (Dev.val_putNat_other _ _ (Ne.symm hk.1))
  · have hex : exec (.followFault p) s = State.onDev s (followFault p) := rfl
    unfold State.onDev followFault at hex
    rw [if_pos ⟨ticking_of hp hi, hs, hf⟩] at hex
    dsimp only at hex
    obtain ⟨w, hw⟩ : ∃ w, w = s.dev.setPsafe p fun q => { q with
      enB := false, openingAt := some s.dev.tick7, dropAt := none, zeroAt := none, ramps := [], follow := 0 } := ⟨_, rfl⟩
    rw [← hw] at hex
    have hwp : w.psafe p = { s.dev.psafe p with
      enB := false, openingAt := some s.dev.tick7, dropAt := none, zeroAt := none, ramps := [], follow := 0 } := by rw [hw, Dev.psafe_setPsafe_same]
    have hwo : ∀ q, q ≠ p → w.psafe q = s.dev.psafe q := fun q hq => by rw [hw, Dev.psafe_setPsafe_other _ _ hq]
    have hports : w.ports = s.dev.ports := by rw [hw]; rfl
    have hwk : Keeps 155652 s.dev w := by
      rw [hw]
      exact keeps_setPsafe p _ (by decide) (.refl _ _)
    have hwv : ∀ k, w.val k = s.dev.val k := fun k => by
      rw [hw]
      exact val_setPsafe _ p _ k
    clear hw
    obtain ⟨v, hv⟩ : ∃ v, v = (w.setPort p fun q => { q with session := .opening }).general (.note 5 [p]) := ⟨_, rfl⟩
    have hvs : ∀ q, v.settle.psafe q = w.psafe q := fun q => by
      unfold Dev.psafe
      rw [(Dev.settle_keeps0 v).get_safety rfl, hv]
      rfl
    have hvp : (v.port p).session = .opening := by
      rw [hv]
      exact congrArg _ (Dev.port_setPort_same w p _)
    have hvo : s.dev.PortOnly p v := by
      rw [hv]
      exact (portOnly_of_ports hports).trans ((portOnly_setPort w p fun q => { q with session := .opening }).trans (portOnly_of_ports rfl))
    have hvk : Keeps 155652 s.dev v := by
      rw [hv]
      exact Dev.general_keeps _ _ (by decide) (keeps_ports (L := 155652) _ (by decide) hwk)
    have hvv : ∀ k, v.val k = w.val k := fun k => by
      rw [hv]
      rfl
    rw [← hv] at hex
    clear hv
    refine ⟨_, hex, ?_, ?_, ?_, ?_, fun q hq => (hvs q).trans (hwo q hq), onlyPilots_settle hvo,
      Keeps.only (M := 155652) (Dev.settle_keeps _ (by decide) hvk) (by decide) fun k _ => (val_settle v k).trans ((hvv k).trans (hwv k))⟩
    · exact (read_settle Port.session (fun _ _ => rfl) v p).trans hvp
    all_goals
      dsimp only
      rw [hvs, hwp]

end Sys2Proof.Machine
end

section
/-! PROOFS. Safety inputs, the reset edge and commissioning (13 R330, R333 to R337, R364 to R366). -/

namespace Sys2Proof.Machine

/-! ### Inputs (13 R330, R334) -/

theorem tick7_of_time {d e : Dev} (h : e.time = d.time) : e.tick7 = d.tick7 := congrArg TimeSt.i7Ticks h

theorem nowUs_of_time {d e : Dev} (h : e.time = d.time) : e.nowUs = d.nowUs := by
  unfold Dev.nowUs
  rw [h]

/-- An object's value is read from the objects. -/
theorem val_of_obj {d e : Dev} (h : e.obj = d.obj) (k : Nat) : e.val k = d.val k := by
  unfold Dev.val
  rw [h]

/-- A filtered input is shown; SAFE_RESET is timed, and its fall after 50 ms to 2 s is an edge (13 R330, R336). -/
theorem safetyInputChange_leaves (s : State) (i : SafetyInput) (level : Bool) (hp : s.dev.powered = true) (hi : s.dev.clocks.i7Lost = false) :
    Completes (.safetyInputChange i level) s fun t =>
      t.dev.nat Key.inputState = setBit (s.dev.nat Key.inputState) (inputBit i) level ∧
      (match i, level with
       | .reset, true => t.dev.safety = { s.dev.safety with resetHigh := some (s.dev.safety.resetHigh.getD s.dev.tick7) } ∧
           Only [.safety] [Key.inputState] s t
       | .reset, false => t.dev.flag Key.resetStuck = false ∧ t.dev.safety.resetHigh = none ∧
           t.dev.safety.edge = (match s.dev.safety.resetHigh with
             | some n => if n + 50 ≤ s.dev.tick7 ∧ s.dev.tick7 ≤ n + 2000 ∧ s.dev.flag Key.resetStuck = false then some n else none
             | none => none) ∧ Only [.safety] [Key.inputState, Key.resetStuck] s t
       | _, _ => Only [] [Key.inputState] s t) := by
  have hex : exec (.safetyInputChange i level) s = State.onDev s (safetyInputChange i level) := rfl
  unfold State.onDev safetyInputChange at hex
  rw [if_neg (by simp [ticking_of hp hi])] at hex
  dsimp only at hex
  have hn := Dev.nat_putNat s.dev Key.inputState (setBit (s.dev.nat Key.inputState) (inputBit i) level)
  have hv : ∀ k, k ∉ [Key.inputState] → (s.dev.putNat Key.inputState (setBit (s.dev.nat Key.inputState) (inputBit i) level)).val k = s.dev.val k :=
    fun k hk => Dev.val_putNat_other _ _ fun h => hk (by simp [h])
  have hkeep : Keeps 4 s.dev (s.dev.putNat Key.inputState (setBit (s.dev.nat Key.inputState) (inputBit i) level)) := Dev.putNat_keeps0 _ _ _
  generalize s.dev.putNat Key.inputState (setBit (s.dev.nat Key.inputState) (inputBit i) level) = w at hn hv hkeep hex
  cases i with
  | reset =>
    cases level with
    | true =>
      refine ⟨_, hex, hn, ?_, Keeps.only (M := 131076) (keeps_safety (L := 131076) _ (by decide) (hkeep.mono (by decide))) (by decide) hv⟩
      show { w.safety with resetHigh := some (w.safety.resetHigh.getD w.tick7) } = _
      unfold Dev.tick7
      rw [hkeep.get_safety rfl, hkeep.get_time rfl]
    | false =>
      obtain ⟨v, hvd⟩ : ∃ v : Dev, v = { w with safety := { w.safety with resetHigh := none, edge := (match w.safety.resetHigh with
        | some t => if t + 50 ≤ w.tick7 ∧ w.tick7 ≤ t + 2000 ∧ !w.flag Key.resetStuck then some t else none
        | none => none) } } := ⟨_, rfl⟩
      have hvs : v.safety = { w.safety with resetHigh := none, edge := (match w.safety.resetHigh with
        | some t => if t + 50 ≤ w.tick7 ∧ w.tick7 ≤ t + 2000 ∧ !w.flag Key.resetStuck then some t else none
        | none => none) } := by rw [hvd]
      have hvk : Keeps 131076 s.dev v := by
        rw [hvd]
        exact keeps_safety (L := 131076) _ (by decide) (hkeep.mono (by decide))
      have hvv : ∀ k, v.val k = w.val k := fun k => by rw [hvd]; rfl
      have hex' : exec (.safetyInputChange .reset false) s = .next { s with dev := v.putFlag Key.resetStuck false } := by rw [hvd]; exact hex
      have hne : Key.resetStuck ≠ Key.inputState := by decide
      refine ⟨_, hex', ?_, Dev.flag_putFlag _ _ _, ?_, ?_, Keeps.only (M := 131076) (Dev.putFlag_keeps _ _ _ (by decide) hvk) (by decide) fun k hk => ?_⟩
      · exact (Dev.nat_putFlag_other _ _ hne).trans ((nat_of_val (hvv _)).trans hn)
      · dsimp only
        rw [Dev.putFlag_safety, hvs]
      · dsimp only
        rw [Dev.putFlag_safety, hvs]
        have hstuck : w.flag Key.resetStuck = s.dev.flag Key.resetStuck := flag_of_val (hv _ (by simp [Key.resetStuck, Key.inputState, ob]))
        rw [hkeep.get_safety rfl, hstuck]
        unfold Dev.tick7
        rw [hkeep.get_time rfl]
        cases s.dev.safety.resetHigh <;> simp
      · simp only [List.mem_cons, List.not_mem_nil, or_false, not_or] at hk
        exact (Dev.val_putFlag_other _ _ (Ne.symm hk.2)).trans ((hvv k).trans (hv k (by simpa using hk.1)))
  | estop b => exact ⟨_, hex, hn, hkeep.only (by decide) hv⟩
  | deen b => exact ⟨_, hex, hn, hkeep.only (by decide) hv⟩
  | aux n b => exact ⟨_, hex, hn, hkeep.only (by decide) hv⟩

/-- A discrepancy that may latch does: cause 3 on the ports of its input (13 R334). -/
theorem discrepancyFault_leaves (s : State) (i : Fin 4) (hp : s.dev.powered = true) (hi : s.dev.clocks.i7Lost = false)
    (hu : s.dev.inputUsed i = true) (ht : s.dev.discrepancyT i ≤ s.dev.safety.differ[i])
    (hl : (s.dev.nat Key.discrepancyLatched).testBit i = false) :
    Completes (.discrepancyFault i) s fun t =>
      t.dev.nat Key.discrepancyLatched = setBit (s.dev.nat Key.discrepancyLatched) i true ∧
      t.dev.nat Key.discrepancyCount = min (s.dev.nat Key.discrepancyCount + 1) (Dev.top Key.discrepancyCount) ∧
      (∀ p ∈ s.dev.inputPorts i, t.dev.hasCause p 3 = true) ∧ (∀ p b, b ≠ 3 → t.dev.hasCause p b = s.dev.hasCause p b) ∧
      Only [.heart] (Key.discrepancyLatched :: Key.discrepancyCount :: causeKeys) s t := by
  have hex : exec (.discrepancyFault i) s = State.onDev s (discrepancyFault i) := rfl
  unfold State.onDev discrepancyFault at hex
  rw [if_pos ⟨ticking_of hp hi, hu, ht⟩, Dev.latchDiscrepancy] at hex
  rw [if_neg (by simp [hl])] at hex
  have hne : Key.discrepancyCount ≠ Key.discrepancyLatched := by decide
  have hc : ∀ q : PortId, Key.discrepancyLatched ≠ Key.level1Causes q ∧ Key.discrepancyCount ≠ Key.level1Causes q := fun q => by
    simp only [Key.discrepancyLatched, Key.discrepancyCount, Key.level1Causes, ob]
    omega
  obtain ⟨w, hw⟩ : ∃ w, w = (s.dev.putNat Key.discrepancyLatched (setBit (s.dev.nat Key.discrepancyLatched) i true)).bump Key.discrepancyCount := ⟨_, rfl⟩
  have h1 : w.nat Key.discrepancyLatched = setBit (s.dev.nat Key.discrepancyLatched) i true := by
    rw [hw, Dev.nat_bump_other _ _ hne, Dev.nat_putNat]
  have h2 : w.nat Key.discrepancyCount = min (s.dev.nat Key.discrepancyCount + 1) (Dev.top Key.discrepancyCount) := by
    rw [hw, Dev.nat_bump, Dev.nat_putNat_other _ _ hne.symm]
  have hwk : Keeps 8196 s.dev w := by
    rw [hw]
    exact Dev.bump_keeps _ _ _ (by decide) (Dev.putNat_keeps _ _ _ (by decide) (.refl _ _))
  have hwv : ∀ k, k ≠ Key.discrepancyLatched → k ≠ Key.discrepancyCount → w.val k = s.dev.val k := fun k h3 h4 => by
    rw [hw, Dev.val_bump_other _ _ h4.symm, Dev.val_putNat_other _ _ h3.symm]
  rw [← hw] at hex
  clear hw
  refine ⟨_, hex, ?_, ?_, fun p hp => ?_, fun p b hb => ?_, Keeps.only (Dev.raiseCause_keeps _ _ _ _ (by decide) hwk) (by decide) fun k hk => ?_⟩
  · exact (nat_of_val (val_raiseCauses w _ 3 _ fun q _ => (hc q).1)).trans h1
  · exact (nat_of_val (val_raiseCauses w _ 3 _ fun q _ => (hc q).2)).trans h2
  · refine (hasCause_raiseCause ..).trans ?_
    simp [hp]
  · refine (hasCause_raiseCause ..).trans ?_
    rw [hasCause_of_val s.dev p (hwv _ (hc p).1.symm (hc p).2.symm)]
    simp [hb]
  · simp only [List.mem_cons, not_or] at hk
    obtain ⟨h3, h4, h5⟩ := hk
    exact (val_raiseCauses w _ 3 _ fun q _ (he : k = Key.level1Causes q) => h5 (he ▸ level1Causes_mem q)).trans (hwv k h3 h4)

/-! ### The reset edge (13 R336, R337) -/

/-- What one cause's turn at a port does: it goes when its condition is gone. -/
def edgeCause (p : PortId) (d : Dev) (b : Nat) : Dev :=
  if d.hasCause p b ∧ causeGone d p b then
    let d := d.releaseCause [p] b 0
    if b = 14 then d.putNat (Key.contactorFault p) 0 else d
  else d

theorem edgePort_eq (d : Dev) (p : PortId) : edgePort d p = edgeCauses.foldl (edgeCause p) d := rfl

/-- The objects an edge's release may write. -/
def edgeKept (k : Nat) : Prop := (∀ q : PortId, k ≠ Key.level1Causes q) ∧ ∀ q : PortId, k ≠ Key.contactorFault q

/-- What a turn leaves: the kept objects, and of the safety state all but the ports. -/
structure EdgeRest (d e : Dev) : Prop where
  vals : ∀ k, edgeKept k → e.val k = d.val k
  safety : ∃ v, e.safety = { d.safety with ports := v }
  keep : Keeps 139268 d e

theorem EdgeRest.refl (d : Dev) : EdgeRest d d := ⟨fun _ _ => rfl, ⟨_, rfl⟩, .refl _ _⟩

theorem EdgeRest.trans {d e f : Dev} (h : EdgeRest d e) (g : EdgeRest e f) : EdgeRest d f where
  vals k hk := (g.vals k hk).trans (h.vals k hk)
  safety := by
    obtain ⟨v, hv⟩ := h.safety
    obtain ⟨w, hw⟩ := g.safety
    exact ⟨w, by rw [hw, hv]⟩
  keep := h.keep.trans g.keep

/-- A release leaves all but the causes and the ports of the safety state. -/
theorem releaseCause_rest (d : Dev) (l : List PortId) (bit : Nat) (m : Int) : EdgeRest d (d.releaseCause l bit m) where
  vals k hk := val_releaseCause _ _ _ _ fun p _ => hk.1 p
  safety := by
    rw [(releaseCause_eq d l bit m).2]
    refine foldl_keeps_prop (P := fun e => ∃ v, e.safety = { d.safety with ports := v }) (fun e p h => ?_) _ ⟨_, rfl⟩
    obtain ⟨v, hv⟩ := h
    refine ⟨vmod v p fun q => { q with ramped := setBit q.ramped bit false }, ?_⟩
    unfold clearCause Dev.setPsafe
    dsimp only
    rw [Dev.putNat_safety, hv]
  keep := releaseCause_keepsSafety _ _ _ (by decide) (.refl _ _)

theorem edgeCause_rest (p : PortId) (d : Dev) (b : Nat) : EdgeRest d (edgeCause p d b) := by
  unfold edgeCause
  split
  · have h := releaseCause_rest d [p] b 0
    dsimp only
    generalize d.releaseCause [p] b 0 = w at h
    split
    · refine h.trans ⟨fun k hk => Dev.val_putNat_other _ _ (hk.2 p).symm, ⟨w.safety.ports, ?_⟩, Dev.putNat_keeps _ _ _ (by decide) (.refl _ _)⟩
      rw [Dev.putNat_safety]
    · exact h
  · exact .refl d

/-- Whether ESTOP and DEEN are closed is read from what is used and from the inputs. -/
theorem inputClosed_congr {d e : Dev} (h1 : e.val Key.estopUsed = d.val Key.estopUsed) (h2 : e.val Key.deenUsed = d.val Key.deenUsed)
    (h3 : e.val Key.inputState = d.val Key.inputState) : e.inputClosed 0 = d.inputClosed 0 ∧ e.inputClosed 1 = d.inputClosed 1 := by
  unfold Dev.inputClosed Dev.inputUsed Dev.channelHigh
  rw [flag_of_val h1, flag_of_val h2, nat_of_val h3]
  exact ⟨rfl, rfl⟩

theorem inputKeys_kept : edgeKept Key.estopUsed ∧ edgeKept Key.deenUsed ∧ edgeKept Key.inputState := by
  simp only [edgeKept, Key.estopUsed, Key.deenUsed, Key.inputState, Key.level1Causes, Key.contactorFault, ob]
  refine ⟨⟨fun q => ?_, fun q => ?_⟩, ⟨fun q => ?_, fun q => ?_⟩, fun q => ?_, fun q => ?_⟩ <;> omega

theorem EdgeRest.inputClosed {d e : Dev} (h : EdgeRest d e) : e.inputClosed 0 = d.inputClosed 0 ∧ e.inputClosed 1 = d.inputClosed 1 := by
  obtain ⟨h1, h2, h3⟩ := inputKeys_kept
  exact inputClosed_congr (h.vals _ h1) (h.vals _ h2) (h.vals _ h3)

/-- What one turn makes of the causes. -/
theorem hasCause_edgeCause (p : PortId) (d : Dev) (b : Nat) (q : PortId) (c : Nat) :
    (edgeCause p d b).hasCause q c = (d.hasCause q c && !decide (q = p ∧ c = b ∧ causeGone d p b = true)) := by
  have h14 : ∀ e : Dev, (if b = 14 then e.putNat (Key.contactorFault p) 0 else e).hasCause q c = e.hasCause q c := fun e => by
    split
    · have hp := p.isLt
      have hq := q.isLt
      exact hasCause_of_val e q (Dev.val_putNat_other _ _ (by simp only [Key.contactorFault, Key.level1Causes, ob]; omega)) c
    · rfl
  unfold edgeCause
  split
  next h =>
    rw [h14, hasCause_releaseCause]
    simp [h.2]
  next h =>
    by_cases hq : q = p ∧ c = b
    · obtain ⟨rfl, rfl⟩ := hq
      cases hd : d.hasCause q c
      · simp
      · simp only [hd, true_and] at h
        simp [h]
    · have : ¬(q = p ∧ c = b ∧ causeGone d p b = true) := fun hh => hq ⟨hh.1, hh.2.1⟩
      simp [this]

/-- One cause of the device at every port, with the two inputs whose release an edge tells. -/
structure EdgeView where
  stands : PortId → Bool
  estop : Bool
  deen : Bool

def edgeView (d : Dev) (b : Nat) : EdgeView := ⟨fun q => d.hasCause q b, d.inputClosed 0, d.inputClosed 1⟩

/-- A valid edge at one port: causes only go, bit 2 with the ESTOP input closed, bit 4 with the DEEN input closed. -/
theorem edgePort_leaves (d : Dev) (p : PortId) :
    EdgeRest d (edgePort d p) ∧ (∀ q b, q ≠ p ∨ b ∉ edgeCauses → (edgePort d p).hasCause q b = d.hasCause q b) ∧
      (∀ q b, (edgePort d p).hasCause q b = true → d.hasCause q b = true) ∧
      (edgePort d p).hasCause p 2 = (d.hasCause p 2 && !d.inputClosed 0) ∧ (edgePort d p).hasCause p 4 = (d.hasCause p 4 && !d.inputClosed 1) := by
  have hview : ∀ (d : Dev) (c x : Nat), x ≠ c → edgeView (edgeCause p d c) x = edgeView d x := fun d c x hx => by
    obtain ⟨h0, h1⟩ := (edgeCause_rest p d c).inputClosed
    unfold edgeView
    rw [h0, h1]
    congr 1
    funext q
    rw [hasCause_edgeCause]
    simp [hx]
  have hin : ∀ b, b ∈ edgeCauses → _ := fun b hb => foldl_place (read := edgeView) (g := edgeCause p)
    (R := fun b x y => (∀ q, q ≠ p → y.stands q = x.stands q) ∧ (y.stands p = true → x.stands p = true) ∧
      (b = 2 → y.stands p = (x.stands p && !x.estop)) ∧ (b = 4 → y.stands p = (x.stands p && !x.deen))) hview
    (fun d c => by
      refine ⟨fun q hq => ?_, fun h => ?_, fun h => ?_, fun h => ?_⟩
      · refine (hasCause_edgeCause ..).trans ?_
        simp [edgeView, hq]
      · have h' := (hasCause_edgeCause p d c p c).symm.trans h
        exact (Bool.and_eq_true _ _ ▸ h').1
      all_goals
        subst h
        refine (hasCause_edgeCause ..).trans ?_
        simp [edgeView, causeGone]) edgeCauses d (by decide) hb
  have hout : ∀ b, b ∉ edgeCauses → edgeView (edgePort d p) b = edgeView d b := fun b hb =>
    foldl_place_other (read := edgeView) (g := edgeCause p) hview edgeCauses d hb
  refine ⟨?_, fun q b h => ?_, fun q b h => ?_, (hin 2 (by decide)).2.2.1 rfl, (hin 4 (by decide)).2.2.2 rfl⟩
  · exact foldl_keeps_prop (P := EdgeRest d) (fun e b h => h.trans (edgeCause_rest p e b)) _ (.refl d)
  · by_cases hb : b ∈ edgeCauses
    · exact (hin b hb).1 q (h.resolve_right fun hn => hn hb)
    · exact congrArg (fun v : EdgeView => v.stands q) (hout b hb)
  · by_cases hb : b ∈ edgeCauses
    · by_cases hq : q = p
      · subst hq
        exact (hin b hb).2.1 h
      · exact ((hin b hb).1 q hq).symm.trans h
    · exact (congrArg (fun v : EdgeView => v.stands q) (hout b hb)).symm.trans h

/-- The causes of one port of the device, with the two inputs. -/
structure PortView where
  stands : Nat → Bool
  estop : Bool
  deen : Bool

def portView (d : Dev) (p : PortId) : PortView := ⟨fun b => d.hasCause p b, d.inputClosed 0, d.inputClosed 1⟩

/-- A valid edge at every port (13 R337). -/
theorem edgePorts_leave (d : Dev) :
    let e := Dev.allPorts.foldl edgePort d
    EdgeRest d e ∧ (∀ p b, b ∉ edgeCauses → e.hasCause p b = d.hasCause p b) ∧ (∀ p b, e.hasCause p b = true → d.hasCause p b = true) ∧
      (∀ p, e.hasCause p 2 = (d.hasCause p 2 && !d.inputClosed 0)) ∧ ∀ p, e.hasCause p 4 = (d.hasCause p 4 && !d.inputClosed 1) := by
  have hrest : EdgeRest d (Dev.allPorts.foldl edgePort d) :=
    foldl_keeps_prop (P := EdgeRest d) (fun e p h => h.trans (edgePort_leaves e p).1) _ (.refl d)
  have hport : ∀ p, _ := fun p : PortId => foldl_place (read := portView) (g := edgePort)
    (R := fun _ x y => (∀ b, b ∉ edgeCauses → y.stands b = x.stands b) ∧ (∀ b, y.stands b = true → x.stands b = true) ∧
      y.stands 2 = (x.stands 2 && !x.estop) ∧ y.stands 4 = (x.stands 4 && !x.deen))
    (fun d c x hx => by
      obtain ⟨hr, hs, -⟩ := edgePort_leaves d c
      obtain ⟨h0, h1⟩ := hr.inputClosed
      unfold portView
      rw [h0, h1]
      congr 1
      funext b
      exact hs x b (.inl hx))
    (fun d c => by
      obtain ⟨-, hs, hf, h2, h4⟩ := edgePort_leaves d c
      exact ⟨fun b hb => hs c b (.inr hb), fun b => hf c b, h2, h4⟩) Dev.allPorts d (List.nodup_finRange 8) (List.mem_finRange p)
  exact ⟨hrest, fun p => (hport p).1, fun p => (hport p).2.1, fun p => (hport p).2.2.1, fun p => (hport p).2.2.2⟩

/-- The discrepancy latches an edge releases are one object. -/
theorem edgeDiscrepancy_leaves (rise : Nat) (d : Dev) :
    (∀ k, k ≠ Key.discrepancyLatched → (edgeDiscrepancy rise d).val k = d.val k) ∧ (edgeDiscrepancy rise d).safety = d.safety :=
  ⟨fun k hk => foldl_keeps_prop (P := fun e => e.val k = d.val k) (fun e i h => by
    dsimp only
    split
    · exact (Dev.val_putNat_other _ _ hk.symm).trans h
    · exact h) _ rfl, (edgeDiscrepancy_keeps0 rise d).get_safety rfl⟩

/-- The end of a Firebreak fault and of a clock fault is in the safety state alone. -/
theorem edgeFaults_leaves (d : Dev) : (edgeFaults d).obj = d.obj ∧ (edgeFaults d).safety.edge = d.safety.edge ∧
    (edgeFaults d).safety.awaitAt = d.safety.awaitAt := by
  refine ⟨(edgeFaults_keeps0 d).get_obj rfl, ?_, ?_⟩ <;>
  · unfold edgeFaults
    dsimp only
    split <;> split <;> rfl

/-- The objects that commissioning writes. -/
def commissionKeys : List Nat := [Key.commissionState, Key.confirmedCheck, Key.commissionedAt]

/-- Commissioning completes at an edge within its minute, and else changes nothing (13 R365, R366). -/
theorem commissionDone_leaves (d : Dev) :
    (if d.nat Key.commissionState = 1 ∧ d.tick7 ≤ d.safety.awaitAt + 60000 then
      (commissionDone d).nat Key.commissionState = 2 ∧ (commissionDone d).nat Key.confirmedCheck = d.nat Key.computedCheck ∧
        (commissionDone d).nat Key.commissionedAt = d.nowUs ∧ ∀ p, (commissionDone d).hasCause p 1 = false
    else (commissionDone d).nat Key.commissionState = d.nat Key.commissionState ∧ ∀ p, (commissionDone d).hasCause p 1 = d.hasCause p 1) ∧
      (∀ p b, b ≠ 1 → (commissionDone d).hasCause p b = d.hasCause p b) ∧ (∀ p b, (commissionDone d).hasCause p b = true → d.hasCause p b = true) ∧
      (∀ k, k ∉ commissionKeys → k ∉ causeKeys → (commissionDone d).val k = d.val k) ∧ (commissionDone d).safety.edge = d.safety.edge ∧
      Keeps 139268 d (commissionDone d) := by
  unfold commissionDone
  split
  swap
  · exact ⟨⟨rfl, fun _ => rfl⟩, fun _ _ _ => rfl, fun _ _ h => h, fun _ _ _ => rfl, rfl, .refl _ _⟩
  obtain ⟨w, hw⟩ : ∃ w, w = ((d.putNat Key.commissionState 2).putNat Key.confirmedCheck (d.nat Key.computedCheck)).putNat Key.commissionedAt
    d.nowUs := ⟨_, rfl⟩
  have hne : Key.commissionedAt ≠ Key.commissionState ∧ Key.confirmedCheck ≠ Key.commissionState ∧ Key.commissionedAt ≠ Key.confirmedCheck := by decide
  have hstate : w.nat Key.commissionState = 2 := by rw [hw, Dev.nat_putNat_other _ _ hne.1, Dev.nat_putNat_other _ _ hne.2.1, Dev.nat_putNat]
  have hcheck : w.nat Key.confirmedCheck = d.nat Key.computedCheck := by rw [hw, Dev.nat_putNat_other _ _ hne.2.2, Dev.nat_putNat]
  have hat : w.nat Key.commissionedAt = d.nowUs := by rw [hw, Dev.nat_putNat]
  have hwv : ∀ k, k ∉ commissionKeys → w.val k = d.val k := fun k hk => by
    simp only [commissionKeys, List.mem_cons, List.not_mem_nil, or_false, not_or] at hk
    rw [hw, Dev.val_putNat_other _ _ (Ne.symm hk.2.2), Dev.val_putNat_other _ _ (Ne.symm hk.2.1), Dev.val_putNat_other _ _ (Ne.symm hk.1)]
  have hwk : Keeps 8196 d w := by
    rw [hw]
    exact Dev.putNat_keeps _ _ _ (by decide) (Dev.putNat_keeps _ _ _ (by decide) (Dev.putNat_keeps _ _ _ (by decide) (.refl _ _)))
  dsimp only
  rw [← hw]
  clear hw
  obtain ⟨v, hv⟩ : ∃ v, v = w.legal 0x0609 0xFF (leBytes 1 0xFF ++ leBytes 1 1 ++ leBytes 1 0 ++ leBytes 4 (d.nat Key.computedCheck)) := ⟨_, rfl⟩
  have hvv : ∀ k, v.val k = w.val k := fun k => by
    rw [hv]
    simp only [Dev.val, Dev.legal_obj]
  have hvk : Keeps 8196 d v := by
    rw [hv]
    exact Dev.legal_keeps _ _ _ _ (by decide) hwk
  rw [← hv]
  clear hv
  have hcs : ∀ q : PortId, Key.level1Causes q ∉ commissionKeys := fun q => by
    simp only [commissionKeys, Key.commissionState, Key.confirmedCheck, Key.commissionedAt, Key.level1Causes, ob, List.mem_cons, List.not_mem_nil, or_false]
    omega
  have hcause : ∀ p b, (v.releaseCause Dev.allPorts 1 (d.nat Key.computedCheck)).hasCause p b = (d.hasCause p b && !decide (b = 1)) := fun p b => by
    rw [hasCause_releaseCause, hasCause_of_val w p (hvv _), hasCause_of_val d p (hwv _ (hcs p))]
    simp [Dev.allPorts]
  have hval : ∀ k, k ∉ causeKeys → (v.releaseCause Dev.allPorts 1 (d.nat Key.computedCheck)).val k = w.val k := fun k hk =>
    (val_releaseCause v _ 1 _ fun q _ (he : k = Key.level1Causes q) => hk (he ▸ level1Causes_mem q)).trans (hvv k)
  have hcm : ∀ k ∈ commissionKeys, k ∉ causeKeys := fun k hk => notin_causeKeys fun q he => hcs q (he ▸ hk)
  obtain ⟨ports, hsafe⟩ := (releaseCause_rest v Dev.allPorts 1 (d.nat Key.computedCheck)).safety
  refine ⟨⟨?_, ?_, ?_, fun p => ?_⟩, fun p b hb => ?_, fun p b h => ?_, fun k h1 h2 => (hval k h2).trans (hwv k h1), ?_,
    releaseCause_keepsSafety _ _ _ (by decide) (hvk.mono (by decide))⟩
  · exact (nat_of_val (hval _ (hcm _ (by simp [commissionKeys])))).trans hstate
  · exact (nat_of_val (hval _ (hcm _ (by simp [commissionKeys])))).trans hcheck
  · exact (nat_of_val (hval _ (hcm _ (by simp [commissionKeys])))).trans hat
  · rw [hcause]
    simp
  · rw [hcause]
    simp [hb]
  · rw [hcause] at h
    exact (Bool.and_eq_true _ _ ▸ h).1
  · rw [hsafe]
    show v.safety.edge = _
    rw [hvk.get_safety rfl]

/-- The edge itself: taken, counted, timed and logged (13 R336). -/
def edgeNoted (d : Dev) : Dev :=
  let d := { d with safety := { d.safety with edge := none } }
  ((d.bump Key.resetEdgeCount).putNat Key.lastResetEdge d.nowUs).general (.note 2 [])

theorem edgeNoted_leaves (d : Dev) :
    (edgeNoted d).nat Key.resetEdgeCount = min (d.nat Key.resetEdgeCount + 1) (Dev.top Key.resetEdgeCount) ∧
      (edgeNoted d).nat Key.lastResetEdge = d.nowUs ∧ (∀ k, k ≠ Key.resetEdgeCount → k ≠ Key.lastResetEdge → (edgeNoted d).val k = d.val k) ∧
      (edgeNoted d).safety = { d.safety with edge := none } ∧ Keeps 139268 d (edgeNoted d) := by
  obtain ⟨w, hw⟩ : ∃ w : Dev, w = { d with safety := { d.safety with edge := none } } := ⟨_, rfl⟩
  have hdef : edgeNoted d = ((w.bump Key.resetEdgeCount).putNat Key.lastResetEdge w.nowUs).general (.note 2 []) := by rw [hw]; rfl
  have hwv : ∀ k, w.val k = d.val k := fun k => by rw [hw]; rfl
  have hws : w.safety = { d.safety with edge := none } := by rw [hw]
  have hwk : Keeps 139268 d w := by rw [hw]; exact keeps_safety _ (by decide) (.refl _ _)
  rw [hdef]
  clear hdef hw
  obtain ⟨v, hv⟩ : ∃ v, v = (w.bump Key.resetEdgeCount).putNat Key.lastResetEdge w.nowUs := ⟨_, rfl⟩
  have hgen : ∀ k, (v.general (.note 2 [])).val k = v.val k := fun k => by simp only [Dev.val, Dev.general_obj]
  have hne : Key.lastResetEdge ≠ Key.resetEdgeCount := by decide
  have hnow : w.nowUs = d.nowUs := by
    unfold Dev.nowUs
    rw [hwk.get_time rfl]
  rw [← hv]
  refine ⟨?_, ?_, fun k h1 h2 => ?_, ?_, Dev.general_keeps _ _ (by decide) ?_⟩
  · rw [nat_of_val (hgen _), hv, Dev.nat_putNat_other _ _ hne, Dev.nat_bump, nat_of_val (hwv _)]
  · rw [nat_of_val (hgen _), hv, Dev.nat_putNat, hnow]
  · rw [hgen, hv, Dev.val_putNat_other _ _ h2.symm, Dev.val_bump_other _ _ h1.symm, hwv]
  · show v.safety = _
    rw [hv, Dev.putNat_safety, Dev.bump_safety, hws]
  · rw [hv]
    exact Dev.putNat_keeps _ _ _ (by decide) (Dev.bump_keeps _ _ _ (by decide) hwk)

/-- A valid edge of SAFE_RESET (13 R337). -/
theorem resetEdge_leaves (s : State) (rise : Nat) (h : s.dev.safety.edge = some rise) :
    Completes .resetEdge s fun t =>
      t.dev.safety.edge = none ∧ t.dev.nat Key.resetEdgeCount = min (s.dev.nat Key.resetEdgeCount + 1) (Dev.top Key.resetEdgeCount) ∧
      t.dev.nat Key.lastResetEdge = s.dev.nowUs ∧
      (∀ p b, t.dev.hasCause p b = true → s.dev.hasCause p b = true) ∧
      (∀ p b, b ∉ 1 :: edgeCauses → t.dev.hasCause p b = s.dev.hasCause p b) ∧
      (∀ p, t.dev.hasCause p 2 = (s.dev.hasCause p 2 && !s.dev.inputClosed 0)) ∧
      (∀ p, t.dev.hasCause p 4 = (s.dev.hasCause p 4 && !s.dev.inputClosed 1)) ∧
      (if s.dev.nat Key.commissionState = 1 ∧ s.dev.tick7 ≤ s.dev.safety.awaitAt + 60000 then
        t.dev.nat Key.commissionState = 2 ∧ t.dev.nat Key.confirmedCheck = s.dev.nat Key.computedCheck ∧
        t.dev.nat Key.commissionedAt = s.dev.nowUs ∧ ∀ p, t.dev.hasCause p 1 = false
      else t.dev.nat Key.commissionState = s.dev.nat Key.commissionState ∧ ∀ p, t.dev.hasCause p 1 = s.dev.hasCause p 1) ∧
      Within [.obj, .heart, .ports, .safety] s t := by
  obtain ⟨e1, h1⟩ : ∃ e, e = edgeNoted s.dev := ⟨_, rfl⟩
  obtain ⟨e2, h2⟩ : ∃ e, e = edgeDiscrepancy rise e1 := ⟨_, rfl⟩
  obtain ⟨e3, h3⟩ : ∃ e, e = Dev.allPorts.foldl edgePort e2 := ⟨_, rfl⟩
  obtain ⟨e4, h4⟩ : ∃ e, e = edgeFaults e3 := ⟨_, rfl⟩
  obtain ⟨e5, h5⟩ : ∃ e, e = commissionDone e4 := ⟨_, rfl⟩
  have hex : exec .resetEdge s = .next { s with dev := e5.driveSafeOut.settle } := by
    show State.onDev s _ = _
    rw [State.onDev, resetEdge, h, h5, h4, h3, h2, h1]
    rfl
  obtain ⟨hcount, hlast, hv1, hs1, hk1⟩ := edgeNoted_leaves s.dev
  obtain ⟨hv2, hs2⟩ := edgeDiscrepancy_leaves rise e1
  have hk2 := edgeDiscrepancy_keeps0 rise e1
  obtain ⟨hr3, hc3, hf3, hE3, hD3⟩ := edgePorts_leave e2
  obtain ⟨ho4, he4, ha4⟩ := edgeFaults_leaves e3
  have hk4 := edgeFaults_keeps0 e3
  obtain ⟨hc5, hb5, hf5, hv5, he5, hk5⟩ := commissionDone_leaves e4
  rw [← h1] at hcount hlast hv1 hs1 hk1
  rw [← h2] at hv2 hs2 hk2
  rw [← h3] at hr3 hc3 hf3 hE3 hD3
  rw [← h4] at ho4 he4 ha4 hk4
  rw [← h5] at hc5 hb5 hf5 hv5 he5 hk5
  have hk3 := hr3.keep
  have hkept : ∀ k ∈ [Key.resetEdgeCount, Key.lastResetEdge, Key.commissionState, Key.computedCheck], edgeKept k ∧ k ≠ Key.discrepancyLatched := by
    simp only [List.mem_cons, List.not_mem_nil, or_false, edgeKept, Key.resetEdgeCount, Key.lastResetEdge, Key.commissionState, Key.computedCheck,
      Key.discrepancyLatched, Key.level1Causes, Key.contactorFault, ob]
    intro k hk
    refine ⟨⟨fun q => ?_, fun q => ?_⟩, ?_⟩ <;> omega
  have hv4 : ∀ k ∈ [Key.resetEdgeCount, Key.lastResetEdge, Key.commissionState, Key.computedCheck], e4.val k = e1.val k := fun k hk => by
    obtain ⟨h1, h2⟩ := hkept k hk
    exact (val_of_obj ho4 k).trans ((hr3.vals k h1).trans (hv2 k h2))
  have hv5' : ∀ k, k ∉ commissionKeys → (∀ q : PortId, k ≠ Key.level1Causes q) → k ≠ Key.safeOut → e5.driveSafeOut.settle.val k = e4.val k :=
    fun k hk hq ho => by
      rw [val_settle, Dev.driveSafeOut, Dev.val_putNat_other _ _ ho.symm, hv5 k hk (notin_causeKeys hq)]
  have hdrive : ∀ k, k ≠ Key.safeOut → e5.driveSafeOut.settle.val k = e5.val k := fun k ho => by
    rw [val_settle, Dev.driveSafeOut, Dev.val_putNat_other _ _ ho.symm]
  have hcdrive : ∀ p b, e5.driveSafeOut.settle.hasCause p b = e5.hasCause p b := fun p b =>
    hasCause_of_val e5 p (hdrive _ (by simp only [Key.level1Causes, Key.safeOut, ob]; omega)) b
  have hc4 : ∀ p b, e4.hasCause p b = e3.hasCause p b := fun p b => hasCause_of_obj e3 p ho4 b
  have hc2 : ∀ p b, e2.hasCause p b = s.dev.hasCause p b := fun p b => by
    have hp := p.isLt
    rw [hasCause_of_val e1 p (hv2 _ (by simp only [Key.level1Causes, Key.discrepancyLatched, ob]; omega)),
      hasCause_of_val s.dev p (hv1 _ (by simp only [Key.level1Causes, Key.resetEdgeCount, ob]; omega)
        (by simp only [Key.level1Causes, Key.lastResetEdge, ob]; omega))]
  have hin : ∀ k ∈ [Key.estopUsed, Key.deenUsed, Key.inputState], e2.val k = s.dev.val k := fun k hk => by
    simp only [List.mem_cons, List.not_mem_nil, or_false] at hk
    have hne : k ≠ Key.discrepancyLatched ∧ k ≠ Key.resetEdgeCount ∧ k ≠ Key.lastResetEdge := by
      rcases hk with rfl | rfl | rfl <;> decide
    rw [hv2 k hne.1, hv1 k hne.2.1 hne.2.2]
  obtain ⟨hE, hD⟩ := inputClosed_congr (hin _ (by simp)) (hin _ (by simp)) (hin _ (by simp))
  have htime : e4.time = s.dev.time := by rw [hk4.get_time rfl, hk3.get_time rfl, hk2.get_time rfl, hk1.get_time rfl]
  have htick : e4.tick7 = s.dev.tick7 ∧ e4.nowUs = s.dev.nowUs := ⟨tick7_of_time htime, nowUs_of_time htime⟩
  obtain ⟨ports, hports⟩ := hr3.safety
  have hawait : e4.safety.awaitAt = s.dev.safety.awaitAt := by
    rw [ha4, hports]
    show e2.safety.awaitAt = _
    rw [hs2, hs1]
  have hstate : e4.nat Key.commissionState = s.dev.nat Key.commissionState :=
    (nat_of_val (hv4 _ (by simp))).trans (nat_of_val (hv1 _ (by decide) (by decide)))
  have hcheck : e4.nat Key.computedCheck = s.dev.nat Key.computedCheck :=
    (nat_of_val (hv4 _ (by simp))).trans (nat_of_val (hv1 _ (by decide) (by decide)))
  rw [htick.1, htick.2, hawait, hstate, hcheck] at hc5
  have hchain : ∀ p b, b ≠ 1 → e5.driveSafeOut.settle.hasCause p b = e3.hasCause p b := fun p b hb => by rw [hcdrive, hb5 p b hb, hc4]
  refine ⟨_, hex, ?_, ?_, ?_, fun p b h => ?_, fun p b hb => ?_, fun p => ?_, fun p => ?_, ?_, ?_⟩
  · dsimp only
    rw [(Dev.settle_keeps0 _).get_safety rfl, (Dev.driveSafeOut_keeps0 _).get_safety rfl, he5, he4, hports]
    show e2.safety.edge = none
    rw [hs2, hs1]
  · exact (nat_of_val (hv5' _ (by decide) (hkept _ (by simp)).1.1 (by decide))).trans ((nat_of_val (hv4 _ (by simp))).trans hcount)
  · exact (nat_of_val (hv5' _ (by decide) (hkept _ (by simp)).1.1 (by decide))).trans ((nat_of_val (hv4 _ (by simp))).trans hlast)
  · exact hc2 p b ▸ hf3 p b (hc4 p b ▸ hf5 p b (hcdrive p b ▸ h))
  · rw [List.mem_cons, not_or] at hb
    exact (hchain p b hb.1).trans ((hc3 p b hb.2).trans (hc2 p b))
  · refine (hchain p 2 (by decide)).trans ((hE3 p).trans ?_)
    rw [hc2, hE]
  · refine (hchain p 4 (by decide)).trans ((hD3 p).trans ?_)
    rw [hc2, hD]
  · dsimp only
    simp only [hcdrive, nat_of_val (hdrive Key.commissionState (by decide)), nat_of_val (hdrive Key.confirmedCheck (by decide)),
      nat_of_val (hdrive Key.commissionedAt (by decide))]
    have h1 : ∀ p, e4.hasCause p 1 = s.dev.hasCause p 1 := fun p => by rw [hc4, hc3 p 1 (by decide), hc2]
    simp only [h1] at hc5
    exact hc5
  · refine Keeps.within (M := 155652) (Dev.settle_keeps _ (by decide) (Dev.driveSafeOut_keeps _ (by decide) ?_)) (by decide)
    exact (((((hk1.trans (hk2.mono (by decide))).trans hk3).trans (hk4.mono (by decide))).trans hk5).mono (by decide))

/-! ### Commissioning (13 R365, R366) -/

/-- CONFIRM_TIMEOUT: past its minute the confirmation is void, cause 1 stands on every port, and SAFE_OUT is low (13 R365). -/
theorem confirmTimeout_leaves (s : State) (hp : s.dev.powered = true) (hi : s.dev.clocks.i7Lost = false) (hc : s.dev.nat Key.commissionState = 1) :
    Completes .confirmTimeout s fun t =>
      if s.dev.safety.awaitAt + 60000 ≤ s.dev.tick7 then
        t.dev.nat Key.commissionState = 0 ∧ (∀ p, t.dev.hasCause p 1 = true) ∧ t.dev.nat Key.safeOut = 0 ∧
        Only [.heart] (Key.commissionState :: Key.safeOut :: causeKeys) s t
      else t = s := by
  have hex : exec .confirmTimeout s = State.onDev s confirmTimeout := rfl
  unfold State.onDev confirmTimeout at hex
  by_cases ht : s.dev.safety.awaitAt + 60000 ≤ s.dev.tick7
  swap
  · rw [if_neg fun h => ht h.2.2] at hex
    exact ⟨_, hex, by beta_reduce; rw [if_neg ht]⟩
  rw [if_pos ⟨ticking_of hp hi, hc, ht⟩, unconfirm] at hex
  obtain ⟨w, hw⟩ : ∃ w, w = (s.dev.putNat Key.commissionState 0).legal 0x0609 0xFF
    (leBytes 1 0xFF ++ leBytes 1 1 ++ leBytes 1 1 ++ leBytes 4 (s.dev.nat Key.computedCheck)) := ⟨_, rfl⟩
  have hwv : ∀ k, w.val k = (s.dev.putNat Key.commissionState 0).val k := fun k => by
    rw [hw]
    simp only [Dev.val, Dev.legal_obj]
  have hwk : Keeps 8196 s.dev w := by
    rw [hw]
    exact Dev.legal_keeps _ _ _ _ (by decide) (Dev.putNat_keeps _ _ _ (by decide) (.refl _ _))
  rw [← hw] at hex
  clear hw
  have hcs : ∀ q : PortId, Key.commissionState ≠ Key.level1Causes q := fun q => by simp only [Key.commissionState, Key.level1Causes, ob]; omega
  have hos : ∀ q : PortId, Key.level1Causes q ≠ Key.safeOut := fun q => by simp only [Key.safeOut, Key.level1Causes, ob]; omega
  have hstate : (w.raiseCause Dev.allPorts 1 (s.dev.nat Key.computedCheck)).nat Key.commissionState = 0 := by
    rw [nat_of_val (val_raiseCauses w _ 1 _ fun q _ => hcs q), nat_of_val (hwv _), Dev.nat_putNat]
  have hone : ∀ p, (w.raiseCause Dev.allPorts 1 (s.dev.nat Key.computedCheck)).hasCause p 1 = true := fun p => by
    rw [hasCause_raiseCause]
    simp [Dev.allPorts]
  have hrk := Dev.raiseCause_keeps Dev.allPorts 1 (s.dev.nat Key.computedCheck) w (by decide : 8196 ||| 8196 = 8196) hwk
  have hrv : ∀ k, k ∉ causeKeys → (w.raiseCause Dev.allPorts 1 (s.dev.nat Key.computedCheck)).val k = w.val k := fun k hk =>
    val_raiseCauses w _ 1 _ fun q _ (he : k = Key.level1Causes q) => hk (he ▸ level1Causes_mem q)
  generalize w.raiseCause Dev.allPorts 1 (s.dev.nat Key.computedCheck) = v at *
  have hlow : v.safeOutOk = false := by
    unfold Dev.safeOutOk
    rw [hstate]
    rfl
  have hdrive : v.driveSafeOut = v.putNat Key.safeOut 0 := by
    unfold Dev.driveSafeOut
    rw [hlow]
    rfl
  rw [hdrive] at hex
  refine ⟨_, hex, ?_⟩
  beta_reduce
  rw [if_pos ht]
  refine ⟨?_, fun p => ?_, Dev.nat_putNat _ _ _, Keeps.only (Dev.putNat_keeps _ _ _ (by decide) hrk) (by decide) fun k hk => ?_⟩
  · exact (Dev.nat_putNat_other _ _ (by decide)).trans hstate
  · exact (hasCause_of_val v p (Dev.val_putNat_other _ _ (hos p).symm) 1).trans (hone p)
  · simp only [List.mem_cons, not_or] at hk
    obtain ⟨h1, h2, h3⟩ := hk
    exact (Dev.val_putNat_other _ _ (Ne.symm h2)).trans ((hrv k h3).trans ((hwv k).trans (Dev.val_putNat_other _ _ (Ne.symm h1))))

/-- Settles O46: safety inputs, discrepancies, the reset edge and commissioning. -/
theorem inputsResetsAndCommissioning : Obligations.InputsResetsAndCommissioning := by
  unfold Obligations.InputsResetsAndCommissioning
  dsimp only
  refine ⟨safetyInputChange_leaves, discrepancyFault_leaves, resetEdge_leaves, fun s h => ?_, fun s n hn hp hi ht hf => ?_,
    fun s m data h ht => ?_, confirmTimeout_leaves⟩
  · refine ⟨s, ?_, rfl⟩
    show State.onDev s _ = _
    rw [State.onDev, resetEdge, h]
  · have hex : exec .resetStuck s = State.onDev s resetStuck := rfl
    unfold State.onDev resetStuck at hex
    rw [hn] at hex
    dsimp only at hex
    rw [if_pos ⟨ticking_of hp hi, ht, by simp [hf]⟩] at hex
    obtain ⟨w, hw⟩ : ∃ w, w = (s.dev.putFlag Key.resetStuck true).bump Key.resetStuckCount := ⟨_, rfl⟩
    have hne : Key.resetStuckCount ≠ Key.resetStuck := by decide
    have hflag : w.flag Key.resetStuck = true := by rw [hw, Dev.flag_bump_other _ _ hne, Dev.flag_putFlag]
    have hcount : w.nat Key.resetStuckCount = min (s.dev.nat Key.resetStuckCount + 1) (Dev.top Key.resetStuckCount) := by
      rw [hw, Dev.nat_bump, Dev.nat_putFlag_other _ _ hne.symm]
    have hwk : Keeps 8196 s.dev w := by
      rw [hw]
      exact Dev.bump_keeps _ _ _ (by decide) (Dev.putFlag_keeps _ _ _ (by decide) (.refl _ _))
    have hheart : w.heart = s.dev.heart := by rw [hw, Dev.bump_heart, Dev.putFlag_heart]
    have hwv : ∀ k, k ∉ [Key.resetStuck, Key.resetStuckCount] → w.val k = s.dev.val k := fun k hk => by
      simp only [List.mem_cons, List.not_mem_nil, or_false, not_or] at hk
      rw [hw, Dev.val_bump_other _ _ (Ne.symm hk.2), Dev.val_putFlag_other _ _ (Ne.symm hk.1)]
    rw [← hw] at hex
    clear hw
    obtain ⟨e, he, hlog⟩ := Dev.general_heart w (.note 3 [])
    have hgen : ∀ k, (w.general (.note 3 [])).val k = w.val k := fun k => by simp only [Dev.val, Dev.general_obj]
    rw [hheart] at hlog
    exact ⟨_, hex, (flag_of_val (hgen _)).trans hflag, (nat_of_val (hgen _)).trans hcount, ⟨e, he, hlog⟩,
      Keeps.only (Dev.general_keeps _ _ (by decide) hwk) (by decide) fun k hk => (hgen k).trans (hwv k hk)⟩
  · have hstate : (s.dev.admitted m).nat Key.commissionState = s.dev.nat Key.commissionState := admitted_nat_far (.inr (by decide))
    have hcheck : (s.dev.admitted m).int Key.computedCheck = s.dev.int Key.computedCheck := by
      simp only [Dev.int, Dev.val_admitted_far s.dev m (k := Key.computedCheck) (.inr (by decide))]
    have hex : exec (.confirmCheck m data) s = State.onDev s (cmdWrite m Key.confirmCheck false data confirmCheckServe) := rfl
    rw [State.onDev, cmdWrite_granted h ht, confirmCheckServe, hstate, hcheck] at hex
    refine ⟨fun hs => ?_, fun hs hr => ?_, fun hs hr => ?_⟩
    · rw [if_pos hs] at hex
      exact ⟨_, hex, served_abort_nil _ _ (grants_iff.1 h).1⟩
    · rw [if_neg (by simp [hs]), if_pos hr] at hex
      exact ⟨_, hex, served_abort_nil _ _ (grants_iff.1 h).1⟩
    · rw [if_neg (by simp [hs]), if_neg (by simp [hr])] at hex
      have hsame : (s.dev.admitted m).safety = s.dev.safety ∧ (s.dev.admitted m).time = s.dev.time :=
        ⟨(Dev.admitted_same s.dev m .safety (by decide) (by decide)).symm, (Dev.admitted_same s.dev m .time (by decide) (by decide)).symm⟩
      obtain ⟨w, hw⟩ : ∃ w : Dev, w = { s.dev.admitted m with safety := { (s.dev.admitted m).safety with awaitAt := (s.dev.admitted m).tick7 } } := ⟨_, rfl⟩
      have hws : w.safety = { s.dev.safety with awaitAt := s.dev.tick7 } := by
        rw [hw]
        show { (s.dev.admitted m).safety with awaitAt := (s.dev.admitted m).tick7 } = _
        rw [tick7_of_time hsame.2, hsame.1]
      have hwk : Keeps 131076 (s.dev.admitted m) w := by
        rw [hw]
        exact keeps_safety (L := 131076) _ (by decide) (.refl _ _)
      have hwv : ∀ k, w.val k = (s.dev.admitted m).val k := val_of_obj (by rw [hw])
      rw [← hw] at hex
      clear hw
      refine ⟨_, hex, ?_, ?_, served_ok (M := 131076) (keys := [Key.commissionState]) _ (grants_iff.1 h).1 (Dev.putNat_keeps _ _ _ (by decide) hwk)
        (by decide) (by decide) (fun k hk => ?_) (by decide)⟩
      · exact (nat_of_val (val_of_obj ((Dev.ok_keeps0 _ _).get_obj rfl) _)).trans (Dev.nat_putNat _ _ _)
      · dsimp only
        rw [(Dev.ok_keeps0 _ _).get_safety rfl, Dev.putNat_safety, hws]
      · exact (Dev.val_putNat_other _ _ fun he : Key.commissionState = k => hk (by simp [he])).trans (hwv k)

end Sys2Proof.Machine
end

section
/-! PROOFS. Firebreak faults and output faults (13 R329, R332, R362, R364, R367). -/

namespace Sys2Proof.Machine

/-- The safety flags that no drop of an enable and no restart of a channel touches. -/
structure FaultView where
  fault : Bool
  outs : List OsOutput
  pulseAt : Nat
  checkA : Nat
  checkB : Nat

def faultView (d : Dev) : FaultView := ⟨d.safety.firebreakFault, d.safety.outFaults, d.safety.pulseAt, d.safety.checkA, d.safety.checkB⟩

/-- Both halves of every port are low. -/
def Dev.allLow (d : Dev) : Prop := ∀ p, (d.psafe p).enA = false ∧ (d.psafe p).enB = false

section
variable (d : Dev)

theorem faultView_of_safety {a b : Dev} (h : b.safety = a.safety) : faultView b = faultView a := by
  unfold faultView
  rw [h]

theorem allLow_of_safety {a b : Dev} (h : b.safety = a.safety) (hl : a.allLow) : b.allLow := fun p => by
  unfold Dev.psafe
  rw [h]
  exact hl p

theorem dropFor_faultView (p : PortId) (reason : Nat) : faultView (d.dropFor p reason) = faultView d := by
  unfold Dev.dropFor
  dsimp only
  split <;> rfl

theorem dropAll_faultView (reason : Nat) : faultView (d.dropAll reason) = faultView d :=
  foldl_same faultView (fun d p => by
    split
    · exact dropFor_faultView d p reason
    · rfl) _ d

/-- A drop of every port leaves every half low. -/
theorem dropAll_low (reason : Nat) : (d.dropAll reason).allLow := fun p =>
  foldl_place (read := Dev.psafe) (R := fun _ _ (y : PortSafety) => y.enA = false ∧ y.enB = false)
    (fun d c x hx => by
      split
      · exact dropFor_psafe_other d c reason hx
      · rfl)
    (fun d c => by
      split
      next h => exact dropFor_psafe d c reason
      next h => simpa using h) Dev.allPorts d (List.nodup_finRange 8) (List.mem_finRange p)

/-- The channel b of the pair. -/
def channel (b : Bool) : CoreId := if b then .firebreakB else .firebreakA

theorem coreOff_val (c : CoreId) (cause : Nat) {k : Nat} (h1 : k ≠ Key.coreResetCause (coreNum c)) (h2 : k ≠ Key.coreResetTime (coreNum c)) :
    (d.coreOff c cause).val k = d.val k := by
  have hdraw : ∀ n, ({ d.setCore c (.restarting cause) with free := n } : Dev).val k = d.val k := fun n => val_of_obj rfl k
  have hset : (d.setCore c (.restarting cause)).val k = d.val k := val_of_obj rfl k
  unfold Dev.coreOff
  by_cases hc : cause = 0
  · simp only [hc, if_true, Dev.draw]
    exact (Dev.val_putNat_other _ _ h2.symm).trans ((Dev.val_putNat_other _ _ h1.symm).trans (hc ▸ hdraw _))
  · simp only [hc, if_false]
    exact (Dev.val_putNat_other _ _ h2.symm).trans ((Dev.val_putNat_other _ _ h1.symm).trans hset)

/-- Channel B that goes down is recorded; every enable drops. -/
theorem channelDownB_eq (cause : Nat) : d.channelDown true cause =
    ({ d.coreOff .firebreakB cause with safety := { (d.coreOff .firebreakB cause).safety with
      restartB := some (d.coreOff .firebreakB cause).tick7, missingB := 0 } } : Dev).dropAll 3 := rfl

theorem val_dropAll (reason k : Nat) : (d.dropAll reason).val k = d.val k := val_of_obj ((Dev.dropAll_keeps0 d reason).get_obj rfl) k

theorem coreOff_safety (c : CoreId) (cause : Nat) : (d.coreOff c cause).safety = d.safety := by
  unfold Dev.coreOff
  by_cases hc : cause = 0 <;> simp [hc, Dev.draw, Dev.setCore]

theorem coreOff_cores (c : CoreId) (cause : Nat) : (d.coreOff c cause).cores = d.cores.set (coreNum c) (.restarting cause) := by
  unfold Dev.coreOff
  by_cases hc : cause = 0 <;> simp [hc, Dev.draw, Dev.setCore]

/-- The record of a channel's restart shows in neither the flags, the cores nor the objects. -/
theorem recorded_leaves (v : Safety) (x : Fin 58) (g : Crossing → Crossing) (h : faultView { d with safety := v } = faultView d) :
    (faultView ((({ d with safety := v } : Dev).setCrossing x g).dropAll 3) = faultView d ∧ faultView (({ d with safety := v } : Dev).dropAll 3) = faultView d) ∧
      ((({ d with safety := v } : Dev).setCrossing x g).dropAll 3).cores = d.cores ∧ (({ d with safety := v } : Dev).dropAll 3).cores = d.cores ∧
      ∀ k, ((({ d with safety := v } : Dev).setCrossing x g).dropAll 3).val k = d.val k ∧ (({ d with safety := v } : Dev).dropAll 3).val k = d.val k := by
  refine ⟨⟨(dropAll_faultView _ 3).trans h, (dropAll_faultView _ 3).trans h⟩, (Dev.dropAll_keeps0 _ 3).get_cores rfl, (Dev.dropAll_keeps0 _ 3).get_cores rfl,
    fun k => ⟨?_, ?_⟩⟩
  · rw [val_dropAll]
    exact val_of_obj rfl k
  · rw [val_dropAll]
    exact val_of_obj rfl k

/-- A channel that goes down: its core restarts, every enable is low, and of the objects only its core's cause and time are written. -/
theorem channelDown_leaves (b : Bool) (cause : Nat) :
    (d.channelDown b cause).allLow ∧ (d.channelDown b cause).cores = d.cores.set (coreNum (channel b)) (.restarting cause) ∧
      faultView (d.channelDown b cause) = faultView d ∧
      ∀ k, k ≠ Key.coreResetCause (coreNum (channel b)) → k ≠ Key.coreResetTime (coreNum (channel b)) → (d.channelDown b cause).val k = d.val k := by
  have hs := coreOff_safety d (channel b) cause
  have hc := coreOff_cores d (channel b) cause
  have hv := fun k => coreOff_val d (channel b) cause (k := k)
  cases b
  · rw [channelDownA_eq]
    unfold channel at *
    simp only [Bool.false_eq_true, if_false] at hs hc hv ⊢
    obtain ⟨w, hw⟩ : ∃ w, w = d.coreOff .firebreakA cause := ⟨_, rfl⟩
    rw [← hw] at hs hc hv ⊢
    obtain ⟨⟨hf, -⟩, hcs, -, hvs⟩ := recorded_leaves w { w.safety with restartA := some w.tick7, missingA := 0 } 0x28 (fun x => { x with stale := true }) rfl
    exact ⟨dropAll_low _ 3, hcs.trans hc, hf.trans (faultView_of_safety hs), fun k h1 h2 => (hvs k).1.trans (hv k h1 h2)⟩
  · rw [channelDownB_eq]
    unfold channel at *
    simp only [if_true] at hs hc hv ⊢
    obtain ⟨w, hw⟩ : ∃ w, w = d.coreOff .firebreakB cause := ⟨_, rfl⟩
    rw [← hw] at hs hc hv ⊢
    obtain ⟨⟨-, hf⟩, -, hcs, hvs⟩ := recorded_leaves w { w.safety with restartB := some w.tick7, missingB := 0 } 0x28 id rfl
    exact ⟨dropAll_low _ 3, hcs.trans hc, hf.trans (faultView_of_safety hs), fun k h1 h2 => (hvs k).2.trans (hv k h1 h2)⟩

/-- A channel that is told to restart: logged, then down. -/
def channelTold (r b : Bool) (cause : Nat) (data : Bytes) (e : Dev) : Dev := if r then (e.legal 0x0108 0xFF data).channelDown b cause else e

/-- The objects of the pair's cores. -/
def pairKeys : List Nat := [Key.coreResetCause 3, Key.coreResetTime 3, Key.coreResetCause 4, Key.coreResetTime 4]

theorem channelTold_leaves (r b : Bool) (cause : Nat) (data : Bytes) (e : Dev) :
    (r = true → (channelTold r b cause data e).allLow) ∧ (e.allLow → (channelTold r b cause data e).allLow) ∧
      (channelTold r b cause data e).cores = (if r then e.cores.set (coreNum (channel b)) (.restarting cause) else e.cores) ∧
      faultView (channelTold r b cause data e) = faultView e ∧ (∀ k, k ∉ pairKeys → (channelTold r b cause data e).val k = e.val k) ∧
      Keeps 155941 e (channelTold r b cause data e) := by
  cases r
  · exact ⟨fun h => (Bool.false_ne_true h).elim, fun h => h, rfl, rfl, fun _ _ => rfl, .refl _ _⟩
  · obtain ⟨hl, hc, hf, hv⟩ := channelDown_leaves (e.legal 0x0108 0xFF data) b cause
    have hlk := Dev.legal_keeps0 e 0x0108 0xFF data
    have hdk := Dev.channelDown_keeps0 b cause (e.legal 0x0108 0xFF data)
    unfold channelTold
    rw [if_pos rfl]
    refine ⟨fun _ => hl, fun _ => hl, ?_, hf.trans (faultView_of_safety (hlk.get_safety rfl)), fun k hk => ?_,
      (hlk.mono (by decide)).trans (hdk.mono (by decide))⟩
    · rw [hc, hlk.get_cores rfl]
      rfl
    · rw [← val_of_obj (hlk.get_obj rfl) k]
      simp only [pairKeys, List.mem_cons, List.not_mem_nil, or_false, not_or] at hk
      obtain ⟨h1, h2, h3, h4⟩ := hk
      cases b
      · exact hv k h1 h2
      · exact hv k h3 h4

/-- What a Firebreak fault does before its channels restart. -/
def faultRaised (d : Dev) : Dev :=
  let d := d.bump Key.firebreakFaultCount
  let d := { d with safety := { d.safety with firebreakFault := true, viewsDiffer := 0, causesDiffer := Vector.replicate 8 0 } }
  (d.raiseCause Dev.allPorts 18 0).holdAgain

theorem firebreakFault_eq (a b : Bool) (cause : Nat) : d.firebreakFault a b cause =
    (((channelTold b true cause (leBytes 1 5 ++ leBytes 1 cause) (channelTold a false cause (leBytes 1 4 ++ leBytes 1 cause) (faultRaised d))).general
      (.coreFault (if a then 4 else 5) cause)).driveSafeOut).settle := rfl

/-- The start-up hold stands on every port again. -/
theorem holdAgain_leaves :
    (∀ p, d.holdAgain.hasCause p 0 = true) ∧ (∀ p b, d.hasCause p b = true → d.holdAgain.hasCause p b = true) ∧ d.holdAgain.cores = d.cores ∧
      faultView d.holdAgain = faultView d ∧ (d.allLow → d.holdAgain.allLow) ∧ (∀ k, k ∉ causeKeys → d.holdAgain.val k = d.val k) ∧
      Keeps 139268 d d.holdAgain := by
  obtain ⟨w, hw⟩ : ∃ w : Dev, w = { d with safety := { d.safety with testsPassed := false } } := ⟨_, rfl⟩
  have hdef : d.holdAgain = w.raiseCause Dev.allPorts 0 0 := by rw [hw]; rfl
  have hv : ∀ k, w.val k = d.val k := val_of_obj (by rw [hw])
  have hf : faultView w = faultView d := by rw [hw]; rfl
  have hl : d.allLow → w.allLow := fun h p => by rw [hw]; exact h p
  have hc : w.cores = d.cores := by rw [hw]
  have hk : Keeps 139268 d w := by
    rw [hw]
    exact keeps_safety _ (by decide) (.refl _ _)
  rw [hdef]
  clear hw hdef
  refine ⟨fun p => ?_, fun p b h => ?_, ?_, ?_, fun h => allLow_of_safety (raiseCause_safety ..) (hl h), fun k hn => ?_,
    Dev.raiseCause_keeps _ _ _ _ (by decide) hk⟩
  · rw [hasCause_raiseCause]
    simp [Dev.allPorts]
  · rw [hasCause_raiseCause, hasCause_of_val d p (hv _), h, Bool.or_true]
  · rw [(Dev.raiseCause_keeps0 _ _ _ w).get_cores rfl, hc]
  · rw [faultView_of_safety (raiseCause_safety ..), hf]
  · exact (val_raiseCauses w _ 0 0 fun q _ (he : k = Key.level1Causes q) => hn (he ▸ level1Causes_mem q)).trans (hv k)

theorem faultRaised_leaves :
    (∀ p, (faultRaised d).hasCause p 18 = true ∧ (faultRaised d).hasCause p 0 = true) ∧ (faultRaised d).cores = d.cores ∧
      faultView (faultRaised d) = { faultView d with fault := true } ∧
      (faultRaised d).nat Key.firebreakFaultCount = min (d.nat Key.firebreakFaultCount + 1) (Dev.top Key.firebreakFaultCount) ∧
      Keeps 139268 d (faultRaised d) := by
  obtain ⟨w, hw⟩ : ∃ w, w = d.bump Key.firebreakFaultCount := ⟨_, rfl⟩
  obtain ⟨v, hv⟩ : ∃ v : Dev, v = { w with safety := { w.safety with firebreakFault := true, viewsDiffer := 0, causesDiffer := Vector.replicate 8 0 } } := ⟨_, rfl⟩
  have hdef : faultRaised d = (v.raiseCause Dev.allPorts 18 0).holdAgain := by rw [hv, hw]; rfl
  have hwk : Keeps 139268 d w := by
    rw [hw]
    exact Dev.bump_keeps _ _ _ (by decide) (.refl _ _)
  have hvk : Keeps 139268 d v := by
    rw [hv]
    exact keeps_safety _ (by decide) hwk
  have hvf : faultView v = { faultView d with fault := true } := by
    rw [hv]
    show ({ faultView w with fault := true } : FaultView) = _
    have hwf : faultView w = faultView d := faultView_of_safety (by rw [hw, Dev.bump_safety])
    rw [hwf]
  have hcount : v.nat Key.firebreakFaultCount = min (d.nat Key.firebreakFaultCount + 1) (Dev.top Key.firebreakFaultCount) := by
    rw [nat_of_val (val_of_obj (d := w) (by rw [hv]) _), hw, Dev.nat_bump]
  have hne : Key.firebreakFaultCount ∉ causeKeys := notin_causeKeys fun q => by simp only [Key.firebreakFaultCount, Key.level1Causes, ob]; omega
  rw [hdef]
  clear hdef hv hw
  obtain ⟨h0, hup, hc, hf, -, hk, hkeep⟩ := holdAgain_leaves (v.raiseCause Dev.allPorts 18 0)
  refine ⟨fun p => ⟨hup p 18 ?_, h0 p⟩, ?_, ?_, ?_, (Dev.raiseCause_keeps _ _ _ _ (by decide) hvk).trans hkeep⟩
  · rw [hasCause_raiseCause]
    simp [Dev.allPorts]
  · rw [hc, (Dev.raiseCause_keeps0 _ _ _ v).get_cores rfl, hvk.get_cores rfl]
  · rw [hf, faultView_of_safety (raiseCause_safety ..), hvf]
  · rw [nat_of_val (hk _ hne), nat_of_val (val_raiseCauses v _ 18 0 fun q _ he => hne ?_), hcount]
    rw [he]
    exact level1Causes_mem q

end

/-- A fault of the pair or of an output keeps SAFE_OUT low. -/
theorem safeOutOk_faulted (d : Dev) (h : d.safety.firebreakFault = true ∨ d.safety.outFaults ≠ []) : d.safeOutOk = false := by
  unfold Dev.safeOutOk
  rcases h with h | h <;> simp [h]

/-- The end of a fault: SAFE_OUT is driven low, and the pilots settle. -/
theorem driven_leaves (d : Dev) (h : d.safety.firebreakFault = true ∨ d.safety.outFaults ≠ []) :
    d.driveSafeOut.settle.nat Key.safeOut = 0 ∧ d.driveSafeOut.settle.safety = d.safety ∧ d.driveSafeOut.settle.cores = d.cores ∧
      ∀ k, k ≠ Key.safeOut → d.driveSafeOut.settle.val k = d.val k := by
  have hd : d.driveSafeOut = d.putNat Key.safeOut 0 := by
    unfold Dev.driveSafeOut
    rw [safeOutOk_faulted d h]
    rfl
  rw [hd]
  refine ⟨?_, ?_, ?_, fun k hk => ?_⟩
  · rw [nat_settle, Dev.nat_putNat]
  · rw [(Dev.settle_keeps0 _).get_safety rfl, Dev.putNat_safety]
  · rw [(Dev.settle_keeps0 _).get_cores rfl, Dev.putNat_cores]
  · rw [val_settle, Dev.val_putNat_other _ _ hk.symm]

/-- A Firebreak fault that restarts a channel or both: every half low, SAFE_OUT low, causes 18 and 0 on every port, counted (13 R329, R362). -/
theorem firebreakFault_leaves (d : Dev) (a b : Bool) (cause : Nat) (hab : a = true ∨ b = true) :
    faultView (d.firebreakFault a b cause) = { faultView d with fault := true } ∧ (d.firebreakFault a b cause).allLow ∧
      (d.firebreakFault a b cause).nat Key.safeOut = 0 ∧
      (∀ p, (d.firebreakFault a b cause).hasCause p 18 = true ∧ (d.firebreakFault a b cause).hasCause p 0 = true) ∧
      (d.firebreakFault a b cause).running .firebreakA = (!a && d.running .firebreakA) ∧
      (d.firebreakFault a b cause).running .firebreakB = (!b && d.running .firebreakB) ∧
      (d.firebreakFault a b cause).nat Key.firebreakFaultCount = min (d.nat Key.firebreakFaultCount + 1) (Dev.top Key.firebreakFaultCount) := by
  obtain ⟨hc1, hr1, hf1, hn1, -⟩ := faultRaised_leaves d
  rw [firebreakFault_eq]
  obtain ⟨e1, he1⟩ : ∃ e, e = faultRaised d := ⟨_, rfl⟩
  rw [← he1] at hc1 hr1 hf1 hn1 ⊢
  obtain ⟨e2, he2⟩ : ∃ e, e = channelTold a false cause (leBytes 1 4 ++ leBytes 1 cause) e1 := ⟨_, rfl⟩
  obtain ⟨hl2, -, hr2, hf2, hv2, -⟩ := channelTold_leaves a false cause (leBytes 1 4 ++ leBytes 1 cause) e1
  rw [← he2] at hl2 hr2 hf2 hv2 ⊢
  obtain ⟨e3, he3⟩ : ∃ e, e = channelTold b true cause (leBytes 1 5 ++ leBytes 1 cause) e2 := ⟨_, rfl⟩
  obtain ⟨hl3, hk3, hr3, hf3, hv3, -⟩ := channelTold_leaves b true cause (leBytes 1 5 ++ leBytes 1 cause) e2
  rw [← he3] at hl3 hk3 hr3 hf3 hv3 ⊢
  obtain ⟨e4, he4⟩ : ∃ e, e = e3.general (.coreFault (if a then 4 else 5) cause) := ⟨_, rfl⟩
  rw [← he4]
  have hs4 : e4.safety = e3.safety := by rw [he4]; rfl
  have hr4 : e4.cores = e3.cores := by rw [he4]; rfl
  have hv4 : ∀ k, e4.val k = e3.val k := val_of_obj (by rw [he4]; rfl)
  clear he1 he2 he3 he4
  have hf4 : faultView e4 = { faultView d with fault := true } := by rw [faultView_of_safety hs4, hf3, hf2, hf1]
  obtain ⟨ho5, hs5, hr5, hv5⟩ := driven_leaves e4 (.inl (congrArg FaultView.fault hf4))
  have hlow : e4.allLow := allLow_of_safety hs4 (hab.elim (fun h => hk3 (hl2 h)) hl3)
  have hcs : ∀ p : PortId, Key.level1Causes p ≠ Key.safeOut ∧ Key.level1Causes p ∉ pairKeys := fun p => by
    simp only [pairKeys, Key.level1Causes, Key.safeOut, Key.coreResetCause, Key.coreResetTime, ob, List.mem_cons, List.not_mem_nil, or_false]
    omega
  have hcause : ∀ p c, e4.driveSafeOut.settle.hasCause p c = e1.hasCause p c := fun p c =>
    hasCause_of_val e1 p ((hv5 _ (hcs p).1).trans ((hv4 _).trans ((hv3 _ (hcs p).2).trans (hv2 _ (hcs p).2)))) c
  have hrun : ∀ c, e4.driveSafeOut.settle.running c = e3.running c := fun c => by
    unfold Dev.running
    rw [hr5, hr4]
  refine ⟨(faultView_of_safety hs5).trans hf4, allLow_of_safety hs5 hlow, ho5, fun p => by rw [hcause, hcause]; exact hc1 p, ?_, ?_, ?_⟩
  · rw [hrun]
    unfold Dev.running
    rw [hr3, hr2, hr1]
    cases a <;> cases b <;> simp [channel, coreNum] <;> rfl
  · rw [hrun]
    unfold Dev.running
    rw [hr3, hr2, hr1]
    cases a <;> cases b <;> simp [channel, coreNum] <;> rfl
  · rw [nat_of_val (hv5 _ (by decide)), nat_of_val (hv4 _), nat_of_val (hv3 _ (by decide)), nat_of_val (hv2 _ (by decide)), hn1]

/-- The ports that an output's fault concerns. -/
def outputPorts (o : OsOutput) : List PortId := match o with | .contEn p _ => [p] | .safeOut _ => Dev.allPorts

/-- An output's fault is counted, and stands. -/
def outputNoted (d : Dev) (o : OsOutput) : Dev :=
  let d := d.bump Key.outputFaultCount
  { d with safety := { d.safety with outFaults := o :: d.safety.outFaults.filter (· ≠ o) } }

theorem outputNoted_leaves (d : Dev) (o : OsOutput) :
    faultView (outputNoted d o) = { faultView d with outs := o :: d.safety.outFaults.filter (· ≠ o) } ∧
      (outputNoted d o).nat Key.outputFaultCount = min (d.nat Key.outputFaultCount + 1) (Dev.top Key.outputFaultCount) := by
  have hs : (d.bump Key.outputFaultCount).safety = d.safety := Dev.bump_safety ..
  have hn := Dev.nat_bump d Key.outputFaultCount 1
  unfold outputNoted
  obtain ⟨w, hw⟩ : ∃ w, w = d.bump Key.outputFaultCount := ⟨_, rfl⟩
  rw [← hw] at hs hn ⊢
  refine ⟨?_, (nat_of_val (val_of_obj (d := w) rfl _)).trans hn⟩
  show (⟨w.safety.firebreakFault, o :: w.safety.outFaults.filter (· ≠ o), w.safety.pulseAt, w.safety.checkA, w.safety.checkB⟩ : FaultView) = _
  rw [hs]
  rfl

theorem outputFault_eq (d : Dev) (o : OsOutput) : d.outputFault o =
    ((((outputPorts o).foldl (fun d p => if (d.psafe p).enA || (d.psafe p).enB then d.dropFor p 3 else d)
      (((outputNoted d o).raiseCause (outputPorts o) 18 0).holdAgain)).channelDown (Dev.outputChannel o) 0).driveSafeOut).settle := rfl

/-- An output fault: its port, or every port, opens; every half is low, SAFE_OUT is low, causes 18 and 0 stand, the channel restarts (13 R332, R362). -/
theorem outputFault_leaves (d : Dev) (o : OsOutput) :
    (d.outputFault o).allLow ∧ (d.outputFault o).nat Key.safeOut = 0 ∧ o ∈ (d.outputFault o).safety.outFaults ∧
      (∀ p, (d.outputFault o).hasCause p 0 = true) ∧
      (∀ p, (match o with | .contEn q _ => p = q | .safeOut _ => True) → (d.outputFault o).hasCause p 18 = true) ∧
      (d.outputFault o).running (channel (Dev.outputChannel o)) = false ∧
      (d.outputFault o).nat Key.outputFaultCount = min (d.nat Key.outputFaultCount + 1) (Dev.top Key.outputFaultCount) ∧
      (d.outputFault o).safety.pulseAt = d.safety.pulseAt := by
  rw [outputFault_eq]
  obtain ⟨e1, he1⟩ : ∃ e, e = outputNoted d o := ⟨_, rfl⟩
  obtain ⟨hf1, hn1⟩ := outputNoted_leaves d o
  rw [← he1] at hf1 hn1 ⊢
  clear he1
  obtain ⟨e2, he2⟩ : ∃ e, e = e1.raiseCause (outputPorts o) 18 0 := ⟨_, rfl⟩
  have hc2 : ∀ p ∈ outputPorts o, e2.hasCause p 18 = true := fun p hp => by
    rw [he2, hasCause_raiseCause]
    simp [hp]
  have hs2 : e2.safety = e1.safety := by rw [he2, raiseCause_safety]
  have hv2 : ∀ k, k ∉ causeKeys → e2.val k = e1.val k := fun k hk => by
    rw [he2]
    exact val_raiseCauses e1 _ 18 0 fun q _ (he : k = Key.level1Causes q) => hk (he ▸ level1Causes_mem q)
  rw [← he2]
  clear he2
  obtain ⟨e3, he3⟩ : ∃ e, e = e2.holdAgain := ⟨_, rfl⟩
  obtain ⟨h03, hup3, -, hf3, -, hv3, -⟩ := holdAgain_leaves e2
  rw [← he3] at h03 hup3 hf3 hv3 ⊢
  clear he3
  obtain ⟨e4, he4⟩ : ∃ e, e = (outputPorts o).foldl (fun d p => if (d.psafe p).enA || (d.psafe p).enB then d.dropFor p 3 else d) e3 := ⟨_, rfl⟩
  have hf4 : faultView e4 = faultView e3 := by
    rw [he4]
    exact foldl_same faultView (fun d p => by
      split
      · exact dropFor_faultView d p 3
      · rfl) _ e3
  have hv4 : ∀ k, e4.val k = e3.val k := fun k => by
    rw [he4]
    exact foldl_same (fun e => e.val k) (fun d p => by
      split
      · exact val_of_obj ((Dev.dropFor_keeps0 d p 3).get_obj rfl) k
      · rfl) _ e3
  rw [← he4]
  clear he4
  obtain ⟨e5, he5⟩ : ∃ e, e = e4.channelDown (Dev.outputChannel o) 0 := ⟨_, rfl⟩
  obtain ⟨hl5, hr5, hf5, hv5⟩ := channelDown_leaves e4 (Dev.outputChannel o) 0
  rw [← he5] at hl5 hr5 hf5 hv5 ⊢
  clear he5
  have hf : faultView e5 = faultView e1 := by rw [hf5, hf4, hf3, faultView_of_safety hs2]
  have hmem : o ∈ e5.safety.outFaults := by
    have : e5.safety.outFaults = o :: d.safety.outFaults.filter (· ≠ o) := (congrArg FaultView.outs hf).trans (congrArg FaultView.outs hf1)
    rw [this]
    exact List.mem_cons_self
  obtain ⟨ho6, hs6, hr6, hv6⟩ := driven_leaves e5 (.inr (List.ne_nil_of_mem hmem))
  have hv5' : ∀ k, k ∉ pairKeys → e5.val k = e4.val k := fun k hk => by
    simp only [pairKeys, List.mem_cons, List.not_mem_nil, or_false, not_or] at hk
    obtain ⟨h1, h2, h3, h4⟩ := hk
    cases hb : Dev.outputChannel o <;> rw [hb] at hv5
    · exact hv5 k h1 h2
    · exact hv5 k h3 h4
  have hcs : ∀ p : PortId, Key.level1Causes p ≠ Key.safeOut ∧ Key.level1Causes p ∉ pairKeys := fun p => by
    simp only [pairKeys, Key.level1Causes, Key.safeOut, Key.coreResetCause, Key.coreResetTime, ob, List.mem_cons, List.not_mem_nil, or_false]
    omega
  have hcause : ∀ p c, e5.driveSafeOut.settle.hasCause p c = e3.hasCause p c := fun p c =>
    hasCause_of_val e3 p ((hv6 _ (hcs p).1).trans ((hv5' _ (hcs p).2).trans (hv4 _))) c
  have hne : Key.outputFaultCount ∉ causeKeys := notin_causeKeys fun q => by simp only [Key.outputFaultCount, Key.level1Causes, ob]; omega
  refine ⟨allLow_of_safety hs6 hl5, ho6, hs6 ▸ hmem, fun p => (hcause p 0).trans (h03 p), fun p hp => (hcause p 18).trans (hup3 p 18 (hc2 p ?_)), ?_, ?_, ?_⟩
  · cases o with
    | contEn q b => exact List.mem_singleton.2 hp
    | safeOut b => exact List.mem_finRange p
  · unfold Dev.running
    rw [hr6, hr5]
    cases Dev.outputChannel o <;> simp [channel, coreNum]
  · rw [nat_of_val (hv6 _ (by decide)), nat_of_val (hv5' _ (by decide)), nat_of_val (hv4 _), nat_of_val (hv3 _ hne), nat_of_val (hv2 _ hne), hn1]
  · rw [hs6]
    exact (congrArg FaultView.pulseAt hf).trans (congrArg FaultView.pulseAt hf1)

/-- With no unit on trial, a fault fails no plan (17 R471). -/
theorem withTrial_same (d : Dev) (f : Dev → Dev) (hn : ∀ r ∈ d.update.run, r.phase = .preparing) (hu : (f d).update = d.update) :
    Dev.withTrial f d = f d := by
  unfold Dev.withTrial
  dsimp only
  split
  · rfl
  · unfold Dev.planHit
    rw [hu]
    cases hr : d.update.run with
    | none => rfl
    | some r => simp [hn r (by simp [hr])]

/-- What a Firebreak fault leaves of the state (13 R329, R362). -/
def Faulted (a b : Bool) (s t : State) : Prop :=
  t.dev.safety.firebreakFault = true ∧ (t.dev.allLow ∧ t.dev.nat Key.safeOut = 0) ∧ (∀ p, t.dev.hasCause p 18 = true ∧ t.dev.hasCause p 0 = true) ∧
    t.dev.running .firebreakA = (!a && s.dev.running .firebreakA) ∧ t.dev.running .firebreakB = (!b && s.dev.running .firebreakB) ∧
    t.dev.nat Key.firebreakFaultCount = min (s.dev.nat Key.firebreakFaultCount + 1) (Dev.top Key.firebreakFaultCount) ∧
    Within [.free, .obj, .crossings, .cores, .heart, .ports, .safety] s t

theorem faulted_of {s : State} {c : Instr} {a b : Bool} {cause : Nat} (hab : a = true ∨ b = true)
    (hex : exec c s = .next { s with dev := s.dev.firebreakFault a b cause }) : Completes c s (Faulted a b s) := by
  obtain ⟨hf, hl, ho, hc, hA, hB, hn⟩ := firebreakFault_leaves s.dev a b cause hab
  exact ⟨_, hex, congrArg FaultView.fault hf, ⟨hl, ho⟩, hc, hA, hB, hn, (Dev.firebreakFault_keeps0 s.dev a b cause).within (by decide)⟩

/-- What an output fault leaves of the state (13 R332, R362). -/
def OutFaulted (o : OsOutput) (s t : State) : Prop :=
  (t.dev.allLow ∧ t.dev.nat Key.safeOut = 0) ∧ o ∈ t.dev.safety.outFaults ∧ (∀ p, t.dev.hasCause p 0 = true) ∧
    (∀ p, (match o with | .contEn q _ => p = q | .safeOut _ => True) → t.dev.hasCause p 18 = true) ∧
    t.dev.running (if Dev.outputChannel o then .firebreakB else .firebreakA) = false ∧
    t.dev.nat Key.outputFaultCount = min (s.dev.nat Key.outputFaultCount + 1) (Dev.top Key.outputFaultCount) ∧
    Within [.free, .obj, .crossings, .cores, .heart, .ports, .safety] s t

theorem outFaulted_of (s : State) {d : Dev} (o : OsOutput) (hn : d.nat Key.outputFaultCount = s.dev.nat Key.outputFaultCount) (hk : Keeps 155941 s.dev d) :
    OutFaulted o s { s with dev := d.outputFault o } := by
  obtain ⟨hl, hso, ho, h0, h18, hr, hc, -⟩ := outputFault_leaves d o
  rw [hn] at hc
  exact ⟨⟨hl, hso⟩, ho, h0, h18, hr, hc, (hk.trans (Dev.outputFault_keeps0 d o)).within (by decide)⟩

/-- A test pulse that reads back low is noted; one that does not is an output fault (13 R332). -/
theorem outputTestPulse_leaves (s : State) (o : OsOutput) (ok : Bool) (hp : s.dev.powered = true) (hi : s.dev.clocks.i7Lost = false)
    (hf : s.dev.flag Key.outputTestPulse = true) (ho : outputHigh s.dev o = true)
    (ha : s.dev.safety.pulseAt = 0 ∨ s.dev.safety.pulseAt + 100 ≤ s.dev.tick7) (ht : ∀ r ∈ s.dev.update.run, r.phase = .preparing) :
    Completes (.outputTestPulse o ok) s fun t =>
      t.dev.safety.pulseAt = s.dev.tick7 ∧ (if ok = true then t.dev.safety = { s.dev.safety with pulseAt := s.dev.tick7 } ∧ Only [.safety] [] s t
      else OutFaulted o s t) := by
  obtain ⟨w, hw⟩ : ∃ w : Dev, w = { s.dev with safety := { s.dev.safety with pulseAt := s.dev.tick7 } } := ⟨_, rfl⟩
  have hws : w.safety = { s.dev.safety with pulseAt := s.dev.tick7 } := by rw [hw]
  have hwv : ∀ k, w.val k = s.dev.val k := val_of_obj (by rw [hw])
  have hwk : Keeps 131072 s.dev w := by
    rw [hw]
    exact keeps_safety _ (by decide) (.refl _ _)
  have hex : exec (.outputTestPulse o ok) s = .next { s with dev := if ok then w else w.outputFault o } := by
    show State.onDev s _ = _
    rw [State.onDev, withTrial_same _ _ ht ((outputTestPulse_keeps0 o ok s.dev).get_update rfl), outputTestPulse,
      if_pos ⟨ticking_of hp hi, hf, ho, ha⟩, hw]
  clear hw
  cases ok
  · simp only [Bool.false_eq_true, if_false] at hex ⊢
    obtain ⟨-, -, -, -, -, -, -, hpulse⟩ := outputFault_leaves w o
    exact ⟨_, hex, hpulse.trans (by rw [hws]), outFaulted_of s o (nat_of_val (hwv _)) (hwk.mono (by decide))⟩
  · simp only [if_true] at hex ⊢
    exact ⟨_, hex, by rw [hws], hws, hwk.only_nil rfl (by decide)⟩

/-- A restart that is not over in 150 ms is a further fault (13 R362). -/
theorem firebreakRestartTimeout_leaves (s : State) (b : Bool) (n : Nat) (hp : s.dev.powered = true)
    (hn : (if b then s.dev.safety.restartB else s.dev.safety.restartA) = some n) (ht : n + 150 ≤ s.dev.tick7) (hu : ∀ r ∈ s.dev.update.run, r.phase = .preparing)
    (hr : s.dev.running (if b then .firebreakB else .firebreakA) = false) : Completes (.firebreakRestartTimeout b) s (Faulted (!b) b s) := by
  refine faulted_of (cause := 0) (by cases b <;> simp) ?_
  show State.onDev s _ = _
  rw [State.onDev, withTrial_same _ _ hu ((firebreakRestartTimeout_keeps0 b s.dev).get_update rfl), firebreakRestartTimeout, hn]
  dsimp only
  rw [if_pos ⟨hp, ht, by simp [hr]⟩]

/-- Check values that agree are kept; ones that differ are a Firebreak fault (13 R364, R367). -/
theorem checkValueSelfTest_leaves (s : State) (a b : Word) (hp : s.dev.powered = true) (hA : s.dev.running .firebreakA = true)
    (hB : s.dev.running .firebreakB = true) (hu : ∀ r ∈ s.dev.update.run, r.phase = .preparing) :
    Completes (.checkValueSelfTest a b) s fun t =>
      t.dev.safety.checkA = a.toNat ∧ t.dev.safety.checkB = b.toNat ∧
      (if a = b then t.dev.safety = { s.dev.safety with checkA := a.toNat, checkB := b.toNat } ∧ Only [.safety] [] s t else Faulted true true s t) := by
  obtain ⟨w, hw⟩ : ∃ w : Dev, w = { s.dev with safety := { s.dev.safety with checkA := a.toNat, checkB := b.toNat } } := ⟨_, rfl⟩
  have hws : w.safety = { s.dev.safety with checkA := a.toNat, checkB := b.toNat } := by rw [hw]
  have hwv : ∀ k, w.val k = s.dev.val k := val_of_obj (by rw [hw])
  have hwc : w.cores = s.dev.cores := by rw [hw]
  have hwk : Keeps 131072 s.dev w := by
    rw [hw]
    exact keeps_safety _ (by decide) (.refl _ _)
  have hex : exec (.checkValueSelfTest a b) s = .next { s with dev := if a.toNat ≠ b.toNat then w.firebreakFault true true 0 else w } := by
    show State.onDev s _ = _
    rw [State.onDev, withTrial_same _ _ hu ((checkValueSelfTest_keeps0 a.toNat b.toNat s.dev).get_update rfl), checkValueSelfTest, if_neg (by simp [hp, hA, hB]), hw]
  clear hw
  by_cases hab : a = b
  · rw [if_neg (by simp [hab])] at hex
    refine ⟨_, hex, by rw [hws], by rw [hws], ?_⟩
    rw [if_pos hab]
    exact ⟨hws, hwk.only_nil rfl (by decide)⟩
  · rw [if_pos fun h => hab (BitVec.eq_of_toNat_eq h)] at hex
    obtain ⟨hf, hl, ho, hc, hrA, hrB, hn⟩ := firebreakFault_leaves w true true 0 (.inl rfl)
    have hk : Keeps 155941 s.dev (w.firebreakFault true true 0) := (hwk.mono (by decide)).trans (Dev.firebreakFault_keeps0 w true true 0)
    obtain ⟨v, hv⟩ : ∃ v, v = w.firebreakFault true true 0 := ⟨_, rfl⟩
    rw [← hv] at hex hf hl ho hc hrA hrB hn hk
    have hA : v.safety.checkA = w.safety.checkA := congrArg FaultView.checkA hf
    have hB : v.safety.checkB = w.safety.checkB := congrArg FaultView.checkB hf
    have hfault : v.safety.firebreakFault = true := congrArg FaultView.fault hf
    have hrun : ∀ c, w.running c = s.dev.running c := fun c => by
      unfold Dev.running
      rw [hwc]
    rw [nat_of_val (hwv _)] at hn
    rw [hrun] at hrA hrB
    refine ⟨_, hex, hA.trans (by rw [hws]), hB.trans (by rw [hws]), ?_⟩
    rw [if_neg hab]
    exact ⟨hfault, ⟨hl, ho⟩, hc, hrA, hrB, hn, hk.within (by decide)⟩

/-- Settles O49: Firebreak faults and output faults open every port. -/
theorem firebreakFaultsOpenEveryPort : Obligations.FirebreakFaultsOpenEveryPort := by
  unfold Obligations.FirebreakFaultsOpenEveryPort
  dsimp only
  refine ⟨fun s r hp hi hu hr => ?_, fun s o n hp hi hu hm hn => ?_, fun s o h => ?_,
    fun s o ok hp hi hu hf ho ha => outputTestPulse_leaves s o ok hp hi hf ho ha hu,
    fun s b n hp hu hn ht hr => firebreakRestartTimeout_leaves s b n hp hn ht hu hr, checkValueSelfTest_leaves⟩
  · refine faulted_of (a := true) (b := decide (r ≠ .tickGap)) (cause := 0) (.inl rfl) ?_
    have hevent : firebreakFaultEvent r s.dev = s.dev.firebreakFault true (decide (r ≠ .tickGap)) 0 := by
      unfold firebreakFaultEvent
      rw [if_neg (by simp [ticking_of hp hi])]
      cases r with
      | messageMissing b => exact if_pos hr
      | viewsDiffer => exact if_pos hr
      | checksDiffer => exact if_pos hr
      | causesDiffer =>
        obtain ⟨p, hp⟩ := hr
        exact if_pos (List.any_eq_true.2 ⟨_, Vector.mem_toList_iff.2 (Vector.getElem_mem p.isLt), by simpa using hp⟩)
      | tickGap => rfl
      | selfTest => rfl
    show State.onDev s _ = _
    rw [State.onDev, withTrial_same _ _ hu ((firebreakFaultEvent_keeps0 r s.dev).get_update rfl), hevent]
  · refine ⟨_, ?_, outFaulted_of s o rfl (.refl _ _)⟩
    show State.onDev s _ = _
    rw [State.onDev, withTrial_same _ _ hu ((outputFaultEvent_keeps0 o s.dev).get_update rfl), outputFaultEvent,
      if_pos ⟨ticking_of hp hi, List.any_eq_true.2 ⟨_, hm, by simpa using hn⟩⟩]
  · refine ⟨s, ?_, rfl⟩
    show State.onDev s _ = _
    have hsame : outputFaultEvent o s.dev = s.dev := by
      unfold outputFaultEvent
      refine if_neg ?_
      rintro ⟨-, hany⟩
      obtain ⟨⟨x, n⟩, hx, hxn⟩ := List.any_eq_true.1 hany
      have hxn' := of_decide_eq_true hxn
      exact absurd (h _ hx hxn'.1) (Nat.not_lt.2 hxn'.2)
    have htrial : Dev.withTrial (outputFaultEvent o) s.dev = s.dev := by
      unfold Dev.withTrial
      rw [hsame]
      exact if_pos ⟨rfl, rfl⟩
    rw [State.onDev, htrial]

end Sys2Proof.Machine
end

section
/-! PROOFS. The arbiter's turn at a tick of I7 (01 R34 to R37; 07 R177, R179; 13 R328, R356 to R360). -/

namespace Sys2Proof.Machine

/-- The two halves of every port. -/
def Dev.enables (d : Dev) (p : PortId) : Bool × Bool := ((d.psafe p).enA, (d.psafe p).enB)

section
variable (d : Dev) (p : PortId)

theorem enables_of_safety {a b : Dev} (h : b.safety = a.safety) : b.enables = a.enables := by
  funext p
  unfold Dev.enables Dev.psafe
  rw [h]

/-- A change of one port's safety state that leaves its halves. -/
theorem enables_setPsafe (g : PortSafety → PortSafety) (h : ∀ q, (g q).enA = q.enA ∧ (g q).enB = q.enB) : (d.setPsafe p g).enables = d.enables := by
  funext q
  unfold Dev.enables
  by_cases hq : q = p
  · subst hq
    rw [Dev.psafe_setPsafe_same, (h _).1, (h _).2]
  · rw [Dev.psafe_setPsafe_other _ _ hq]

theorem endSession_enables : (d.endSession p).enables = d.enables := by
  obtain ⟨w, hw⟩ : ∃ w : Dev, w = d.canOf p .off := ⟨_, rfl⟩
  have hs : w.safety = d.safety := hw ▸ (Dev.canOf_keeps0 d p .off).get_safety rfl
  unfold Dev.endSession
  rw [← hw]
  refine (enables_of_safety (Dev.putNat_safety ..)).trans ((enables_of_safety (Dev.putNat_safety ..)).trans ?_)
  refine (enables_setPsafe _ p _ ?_).trans (enables_of_safety hs)
  exact fun _ => ⟨rfl, rfl⟩

theorem judgeLevel2_enables : (d.judgeLevel2 p).enables = d.enables := by
  unfold Dev.judgeLevel2
  dsimp only
  split
  · rfl
  · exact enables_setPsafe d p _ fun _ => ⟨rfl, rfl⟩

theorem bindingLapsed_enables : (d.bindingLapsed p).enables = d.enables := by
  unfold Dev.bindingLapsed
  dsimp only
  obtain ⟨w, hw⟩ : ∃ w : Dev, w = { d with ledger := { d.ledger with auth := d.ledger.auth.set p none, posted := d.ledger.posted.set p none } } := ⟨_, rfl⟩
  have hws : (w.putNat (Key.authPending p) 0).safety = d.safety := by rw [Dev.putNat_safety, hw]
  rw [← hw]
  obtain ⟨v, hv⟩ : ∃ v, v = if (w.putNat (Key.authPending p) 0).energy.sessions[p].isNone then (w.putNat (Key.authPending p) 0).unbind p
    else w.putNat (Key.authPending p) 0 := ⟨_, rfl⟩
  have hvs : v.safety = d.safety := by
    rw [hv]
    split
    · exact ((Dev.unbind_keeps0 _ p).get_safety rfl).trans hws
    · exact hws
  rw [← hv]
  split
  · exact (judgeLevel2_enables _ p).trans ((enables_of_safety (Dev.putNat_safety ..)).trans (enables_of_safety hvs))
  · exact enables_of_safety hvs

theorem enterEnded_enables (reason : Nat) : (d.enterEnded p reason).enables = d.enables := by
  have he := endSession_enables d p
  unfold Dev.enterEnded
  obtain ⟨w, hw⟩ : ∃ w, w = d.endSession p := ⟨_, rfl⟩
  rw [← hw] at he ⊢
  have h1 : ((w.setPort p fun q => { q with session := .ended, endReason := reason, evMatch := none }).putNat (Key.lastEndReason p) reason).enables = d.enables :=
    (enables_of_safety (Dev.putNat_safety ..)).trans he
  dsimp only
  split
  · exact h1
  · exact (bindingLapsed_enables _ p).trans h1

theorem enterFaulted_enables : (d.enterFaulted p).enables = d.enables := by
  have he := endSession_enables d p
  unfold Dev.enterFaulted
  obtain ⟨w, hw⟩ : ∃ w, w = (d.endSession p).setPort p fun q => { q with session := .faulted } := ⟨_, rfl⟩
  have hwe : w.enables = d.enables := by rw [hw]; exact he
  rw [← hw]
  obtain ⟨v, hv⟩ : ∃ v, v = if (w.port p).pilot = .a ∧ !(w.port p).opened then w.lockOff p else w := ⟨_, rfl⟩
  have hve : v.enables = d.enables := by
    rw [hv]
    split
    · exact (enables_of_safety ((Dev.lockOff_keeps0 w p).get_safety rfl)).trans hwe
    · exact hwe
  dsimp only
  rw [← hv]
  split
  · exact hve
  · exact (bindingLapsed_enables v p).trans hve

/-- A port that is open at last leaves every half as it is (07 R179). -/
theorem opened_enables : (d.opened p).enables = d.enables := by
  unfold Dev.opened
  obtain ⟨w, hw⟩ : ∃ w, w = if (d.port p).opened then (d.setPort p fun q => { q with opened := false }).sessionClosed p else d := ⟨_, rfl⟩
  have hwe : w.enables = d.enables := by
    rw [hw]
    split
    · exact enables_of_safety (b := (d.setPort p fun q => { q with opened := false }).sessionClosed p) ((Dev.sessionClosed_keeps0 p _).get_safety rfl)
    · rfl
  dsimp only
  rw [← hw]
  split
  · exact (enables_of_safety (Dev.putNat_safety ..)).trans ((enterFaulted_enables w p).trans hwe)
  · exact (enterEnded_enables w p _).trans hwe

/-! ### No enable rises but by a close -/

/-- No half of the port is high that was low. -/
def Dev.NoRise (d : Dev) (p : PortId) (e : Dev) : Prop :=
  ((e.psafe p).enA = true → (d.psafe p).enA = true) ∧ ((e.psafe p).enB = true → (d.psafe p).enB = true)

variable {d p} in
theorem noRise_of_enables {e : Dev} (h : e.enables = d.enables) : d.NoRise p e := by
  have h1 := congrFun h p
  unfold Dev.enables at h1
  rw [Prod.mk.injEq] at h1
  unfold Dev.NoRise
  rw [h1.1, h1.2]
  exact ⟨id, id⟩

variable {d p} in
theorem noRise_of_low {e : Dev} (h : (e.psafe p).enA = false ∧ (e.psafe p).enB = false) : d.NoRise p e := by
  unfold Dev.NoRise
  rw [h.1, h.2]
  exact ⟨fun hh => (Bool.false_ne_true hh).elim, fun hh => (Bool.false_ne_true hh).elim⟩

variable {d p} in
theorem Dev.NoRise.trans {e f : Dev} (h : d.NoRise p e) (g : e.NoRise p f) : d.NoRise p f := ⟨fun x => h.1 (g.1 x), fun x => h.2 (g.2 x)⟩

theorem drop_low : ((d.drop p).psafe p).enA = false ∧ ((d.drop p).psafe p).enB = false := by
  unfold Dev.drop
  dsimp only
  constructor <;> exact congrArg _ (Dev.psafe_setPsafe_same _ p _)

theorem beginStop_enables (reason : Nat) : (d.beginStop p reason).enables = d.enables :=
  enables_of_safety ((Dev.beginStop_keeps0 p reason d).get_safety rfl)

theorem startRamp_enables (mask level : Nat) : (d.startRamp p mask level).enables = d.enables := by
  unfold Dev.startRamp
  exact (enables_of_safety (Dev.putNat_safety ..)).trans (enables_setPsafe _ p _ fun _ => ⟨rfl, rfl⟩)

theorem stopNow_noRise (new : Nat) : d.NoRise p (d.stopNow p new) := by
  unfold Dev.stopNow
  dsimp only
  split
  · refine noRise_of_enables ((beginStop_enables _ p _).trans ((enables_of_safety ((Dev.stopAllModules_keeps0 _ 3).get_safety rfl)).trans ?_))
    unfold Dev.zeroRamp
    refine (enables_setPsafe _ p _ ?_).trans (enables_setPsafe _ p _ ?_)
    all_goals exact fun _ => ⟨rfl, rfl⟩
  · exact noRise_of_low (dropFor_psafe _ p _)

theorem startStop_noRise (new : Nat) (bits : List Nat) : d.NoRise p (d.startStop p new bits) := by
  unfold Dev.startStop
  have hramp : ∀ m l r, d.NoRise p ((d.startRamp p m l).beginStop p r) := fun m l r =>
    noRise_of_enables ((beginStop_enables _ p r).trans (startRamp_enables d p m l))
  split
  · exact stopNow_noRise d p new
  split
  · exact hramp _ _ _
  split
  · exact hramp _ _ _
  split
  · exact hramp _ _ _
  · exact noRise_of_enables rfl

theorem finishStop_noRise : d.NoRise p (d.finishStop p) := by
  have hdrop : ∀ e : Dev, e.enables = d.enables → ∀ c : Prop, ∀ _ : Decidable c, d.NoRise p (if c then e.drop p else e) := fun e he c _ => by
    split
    · exact noRise_of_low (drop_low e p)
    · exact noRise_of_enables he
  unfold Dev.finishStop
  split
  swap
  · exact noRise_of_enables rfl
  dsimp only
  obtain ⟨w, hw⟩ : ∃ w, w = if d.envelope p = some 0 then d.setPsafe p fun q => { q with zeroAt := some (q.zeroAt.getD d.tick7) } else d := ⟨_, rfl⟩
  have hwe : w.enables = d.enables := by
    rw [hw]
    split
    · exact enables_setPsafe d p _ fun _ => ⟨rfl, rfl⟩
    · rfl
  rw [← hw]
  split
  · exact hdrop w hwe _ _
  · exact hdrop w hwe _ _

/-- A port whose conditions do not stand has no half raised by its turn (01 R34). -/
theorem arbiter_noRise (h : Dev.mayClose p d = false) : d.NoRise p (d.arbiter p) := by
  unfold Dev.arbiter
  dsimp only
  cases hs : (d.port p).session <;> dsimp only
  case authorised => simp [h, noRise_of_enables]
  case closing =>
    split
    · exact noRise_of_low (dropFor_psafe _ p _)
    · exact noRise_of_enables rfl
  case energised | stopping => exact (startStop_noRise d p _ _).trans (finishStop_noRise _ p)
  case opening =>
    have hlow : ((d.setPsafe p fun q => { q with enA := false, enB := false }).psafe p).enA = false ∧
        ((d.setPsafe p fun q => { q with enA := false, enB := false }).psafe p).enB = false := by
      rw [Dev.psafe_setPsafe_same]
      exact ⟨rfl, rfl⟩
    split
    · exact noRise_of_low hlow
    · exact (noRise_of_low hlow).trans (noRise_of_enables (opened_enables _ p))
  all_goals exact noRise_of_enables rfl

end

/-! ### Closing (07 R177, R178) -/

/-- A close raises both halves: CLOSING. -/
theorem close_leaves (d : Dev) (p : PortId) :
    ((d.close p).port p).session = .closing ∧ ((d.close p).psafe p).enA = true ∧ ((d.close p).psafe p).enB = true := by
  unfold Dev.close
  dsimp only
  obtain ⟨w, hw⟩ : ∃ w, w = d.setPsafe p fun q => { q with
    enA := true, enB := true, closingAt := some d.tick7, openingAt := none, ramps := [], ramped := 0 } := ⟨_, rfl⟩
  have hws : (w.psafe p).enA = true ∧ (w.psafe p).enB = true := by
    rw [hw, Dev.psafe_setPsafe_same]
    exact ⟨rfl, rfl⟩
  obtain ⟨v, hv⟩ : ∃ v, v = w.setPort p fun q => { q with session := .closing, opened := true, endReason := 0 } := ⟨_, rfl⟩
  have hvp : (v.port p).session = .closing := by rw [hv, Dev.port_setPort_same]
  have hvs : v.safety = w.safety := by rw [hv]; rfl
  rw [← hw, ← hv]
  have hs : (v.sessionOpened p).safety = w.safety := ((Dev.sessionOpened_keeps0 p v).get_safety rfl).trans hvs
  refine ⟨?_, ?_, ?_⟩
  · rw [port_of_ports ((Dev.sessionOpened_keeps0 p v).get_ports rfl), hvp]
  all_goals
    unfold Dev.psafe
    rw [hs]
  · exact hws.1
  · exact hws.2

/-- What a close needs, among the conditions of R177. -/
theorem mayClose_needs {d : Dev} {p : PortId} (h : Dev.mayClose p d = true) :
    (d.port p).session = .authorised ∧ d.mode p ≠ 0 ∧ d.clocks.checked = true ∧ d.causes p = 0 ∧ (d.port p).start = true ∧ (d.port p).stop = none ∧
      (d.port p).level2 = false ∧ d.running .firebreakA = true ∧ d.running .firebreakB = true ∧ d.heartwoodUp = true ∧
      (d.nat (Key.lockType p) = 0 ∨ (d.port p).lock = .locked) := by
  unfold Dev.mayClose at h
  simp only [Bool.and_eq_true, and_assoc, decide_eq_true_eq, Bool.not_eq_true', Option.isNone_iff_eq_none] at h
  obtain ⟨hs, hm, -, hstart, hstop, hl, hc, hck, hh, hA, hB, -, -, -, hlock, -⟩ := h
  exact ⟨hs, hm, hck, hc, hstart, hstop, hl, hA, hB, hh, hlock⟩

theorem arbiter_closes {d : Dev} {p : PortId} (h : Dev.mayClose p d = true) : d.arbiter p = d.close p := by
  unfold Dev.arbiter
  dsimp only
  rw [(mayClose_needs h).1]
  exact if_pos h

/-! ### Stopping (13 R356, R359) -/

/-- A cause of the port that has no envelope yet is a new demand. -/
theorem newDemand (d : Dev) (p : PortId) (b : Nat) (hb : b < 21) (hc : d.hasCause p b = true) (hr : (d.psafe p).ramped.testBit b = false) :
    (d.demands p &&& (d.demands p ^^^ (d.demands p &&& (d.psafe p).ramped))).testBit b = true := by
  have hd : (d.demands p).testBit b = true := by
    unfold Dev.demands
    rw [testBit_setBit, testBit_setBit, if_neg (by omega), if_neg (by omega)]
    exact hc
  simp [Nat.testBit_and, Nat.testBit_xor, hd, hr]

/-- A new cause that stops at once opens an AC port in the same turn, with end reason 3 (13 R359). -/
theorem arbiter_stopsNow (d : Dev) (p : PortId) (b : Nat) (hb : b < 21) (hs : (d.port p).session = .energised) (hdc : d.isDc p = false)
    (hc : d.hasCause p b = true) (hr : (d.psafe p).ramped.testBit b = false) (hk : d.causeKind p b = .immediate) :
    ((d.arbiter p).port p).session = .opening ∧ ((d.arbiter p).port p).endReason = 3 ∧ ((d.arbiter p).psafe p).enA = false ∧
      ((d.arbiter p).psafe p).enB = false := by
  have hnew := newDemand d p b hb hc hr
  have hcause : d.causes p ≠ 0 := fun h => by
    rw [Dev.hasCause, h] at hc
    simp at hc
  obtain ⟨new, hn⟩ : ∃ new, new = d.demands p &&& (d.demands p ^^^ (d.demands p &&& (d.psafe p).ramped)) := ⟨_, rfl⟩
  rw [← hn] at hnew
  have harb : d.arbiter p = (d.stopNow p new).finishStop p := by
    unfold Dev.arbiter
    dsimp only
    rw [← hn, hs]
    dsimp only
    unfold Dev.startStop
    rw [if_pos]
    refine List.any_eq_true.2 ⟨b, List.mem_filter.2 ⟨List.mem_range.2 hb, ?_⟩, by simp [hk]⟩
    simp [hnew, hk]
  obtain ⟨w, hw⟩ : ∃ w, w = (d.setPort p fun q => { q with safe := true }).setPsafe p fun q => { q with ramped := q.ramped ||| new } := ⟨_, rfl⟩
  have hwp : w.port p = { d.port p with safe := true } := by
    rw [hw]
    exact Dev.port_setPort_same d p _
  have hstop : d.stopNow p new = w.dropFor p 3 := by
    unfold Dev.stopNow
    rw [if_neg (by simp [hdc]), hw, Dev.demandReason, if_pos hcause]
  have hport : (w.dropFor p 3).port p = { d.port p with safe := true, endReason := 3, session := .opening } := by
    unfold Dev.dropFor Dev.drop
    rw [hwp, hs]
    dsimp only
    refine (Dev.port_setPort_same _ p _).trans ?_
    have : ((w.setPort p fun q => { q with endReason := 3 }).setPsafe p fun q => { q with
      enA := false, enB := false, dropAt := none, zeroAt := none, closingAt := none,
      openingAt := some (w.setPort p fun q => { q with endReason := 3 }).tick7, ramps := [] }).port p = { w.port p with endReason := 3 } :=
      Dev.port_setPort_same w p _
    rw [this, hwp]
  have hfin : (w.dropFor p 3).finishStop p = w.dropFor p 3 := by
    unfold Dev.finishStop
    rw [if_neg (by rw [hport]; simp)]
  rw [harb, hstop, hfin, hport]
  exact ⟨rfl, rfl, dropFor_psafe w p 3⟩

/-- A new cause that ramps begins one envelope from the measured current over RampTime (13 R356). -/
theorem arbiter_ramps (d : Dev) (p : PortId) (b : Nat) (hb : b < 21) (hs : (d.port p).session = .energised) (hc : d.causes p = 2 ^ b)
    (hl : (d.port p).level2 = false) (hst : (d.port p).stop = none) (hk : d.causeKind p b = .ramp) (hr : (d.psafe p).ramped = 0)
    (hrs : (d.psafe p).ramps = []) (hz : (d.psafe p).zeroAt = none) (hd : (d.psafe p).dropAt = none) (hm : d.measured p ≠ 0)
    (ht : d.nat (Key.rampTime p) ≠ 0) :
    ((d.arbiter p).psafe p).ramps = [⟨d.measured p, d.tick7, d.nat (Key.rampTime p), 1⟩] ∧ ((d.arbiter p).port p).session = .stopping ∧
      (d.arbiter p).envelope p = some (d.measured p) ∧ ((d.arbiter p).psafe p).enA = (d.psafe p).enA := by
  have hall : ∀ k, (d.demands p).testBit k = decide (k = b) := fun k => by
    unfold Dev.demands
    rw [testBit_setBit, testBit_setBit, hl, hst, hc, Nat.testBit_two_pow]
    by_cases h1 : k = 22
    · subst h1
      simp
      omega
    · by_cases h2 : k = 21
      · subst h2
        simp
        omega
      · simp [h1, h2, eq_comm]
  obtain ⟨new, hn⟩ : ∃ new, new = d.demands p &&& (d.demands p ^^^ (d.demands p &&& (d.psafe p).ramped)) := ⟨_, rfl⟩
  have hnew : ∀ k, new.testBit k = decide (k = b) := fun k => by
    rw [hn, hr]
    simp [hall]
  have hbits : (List.range 21).filter (fun k => new.testBit k && decide (d.causeKind p k ≠ .held)) ≠ [] := by
    refine List.ne_nil_of_mem (List.mem_filter.2 ⟨List.mem_range.2 hb, ?_⟩)
    simp [hnew, hk]
  have hnone : (((List.range 21).filter fun k => new.testBit k && decide (d.causeKind p k ≠ .held)).any fun k => decide (d.causeKind p k = .immediate)) = false := by
    rw [List.any_eq_false]
    intro k hmem
    have hkb := (List.mem_filter.1 hmem).2
    simp only [hnew, Bool.and_eq_true, decide_eq_true_eq] at hkb
    simp [hkb.1, hk]
  have harb : d.arbiter p = ((d.startRamp p new 1).beginStop p 3).finishStop p := by
    unfold Dev.arbiter
    dsimp only
    rw [← hn, hs]
    dsimp only
    unfold Dev.startStop
    rw [hnone, if_neg (by simp), if_pos hbits]
  obtain ⟨w, hw⟩ : ∃ w, w = d.startRamp p new 1 := ⟨_, rfl⟩
  have hwp : w.psafe p = { d.psafe p with ramps := [⟨d.measured p, d.tick7, d.nat (Key.rampTime p), 1⟩], ramped := (d.psafe p).ramped ||| new } := by
    rw [hw]
    unfold Dev.startRamp Dev.psafe
    rw [Dev.putNat_safety]
    refine (Dev.psafe_setPsafe_same d p _).trans ?_
    rw [hrs]
    rfl
  have hwq : w.port p = d.port p := by
    rw [hw]
    unfold Dev.startRamp
    exact port_of_ports (Dev.putNat_ports _ _ _) p
  have hwt : w.tick7 = d.tick7 := by
    rw [hw]
    exact tick7_of_time ((Dev.startRamp_keeps0 d p new 1).get_time rfl)
  obtain ⟨v, hv⟩ : ∃ v, v = w.beginStop p 3 := ⟨_, rfl⟩
  have hvs : v.safety = w.safety := hv ▸ (Dev.beginStop_keeps0 p 3 w).get_safety rfl
  have hvt : v.tick7 = d.tick7 := (tick7_of_time (hv ▸ (Dev.beginStop_keeps0 p 3 w).get_time rfl)).trans hwt
  have hvq : (v.port p).session = .stopping := by
    rw [hv]
    unfold Dev.beginStop
    rw [if_neg (by rw [hwq, hs]; simp)]
    exact congrArg Port.session (Dev.port_setPort_same w p fun q => { q with session := .stopping, endReason := 3 })
  have hvp : v.psafe p = w.psafe p := by
    unfold Dev.psafe
    rw [hvs]
  have henv : v.envelope p = some (d.measured p) := by
    unfold Dev.envelope
    rw [hvp, hwp, hvt]
    have hat : (⟨d.measured p, d.tick7, d.nat (Key.rampTime p), 1⟩ : Ramp).at d.tick7 = d.measured p := by
      unfold Ramp.at
      simp only [Nat.sub_self, Nat.le_zero, ht, if_false, Nat.sub_zero]
      exact Nat.mul_div_cancel _ (Nat.pos_of_ne_zero ht)
    simp [hat]
  have hfin : v.finishStop p = v := by
    unfold Dev.finishStop
    rw [if_pos hvq, henv, if_neg (by simpa using hm)]
    dsimp only
    rw [hvp, hwp]
    dsimp only
    rw [hd]
    dsimp only
    rw [if_neg]
    rw [hz]
    simp
  rw [harb, ← hw, ← hv, hfin]
  exact ⟨by rw [hvp, hwp], hvq, henv, by rw [hvp, hwp]⟩

/-! ### The tick (01 R34) -/

/-- A tick counts I7 on, and the rest of its turn leaves the time. -/
theorem safetyTick_time (v : TickView) (d : Dev) (h : d.ticking = true) : (safetyTick v d).time = { d.time with i7Ticks := d.time.i7Ticks + 1 } := by
  obtain ⟨w, hw⟩ : ∃ w : Dev, w = { d with time := { d.time with i7Ticks := d.time.i7Ticks + 1 } } := ⟨_, rfl⟩
  have hwt : w.time = { d.time with i7Ticks := d.time.i7Ticks + 1 } := by rw [hw]
  have hkeep : Keeps 2847015 w (safetyTick v d) := by
    unfold safetyTick
    rw [if_neg (by simp [h]), ← hw]
    simp (maxSteps := 400000) (maxDischargeDepth := 99) +contextual [Keeps.foldl, Keeps.ite]
  rw [hkeep.get_time rfl, hwt]

/-- Settles O45: each tick of I7 gives the arbiter its turn. -/
theorem safetyTicksGiveTheArbiterItsTurn : Obligations.SafetyTicksGiveTheArbiterItsTurn := by
  unfold Obligations.SafetyTicksGiveTheArbiterItsTurn
  dsimp only
  refine ⟨fun s v hp hi hu => ?_, fun s v h => ?_, fun d p h => ?_, fun d p h => arbiter_noRise d p h, arbiter_stopsNow, arbiter_ramps⟩
  · have hk := safetyTick_keeps0 v s.dev
    refine ⟨{ s with dev := safetyTick v s.dev }, ?_, safetyTick_time v s.dev (ticking_of hp hi), hk.within (by decide)⟩
    show State.onDev s _ = _
    rw [State.onDev, withTrial_same _ _ hu (hk.get_update rfl)]
  · have hsame : safetyTick v s.dev = s.dev := by
      unfold safetyTick
      refine if_pos ?_
      unfold Dev.ticking
      rcases h with h | h <;> simp [h]
    have htrial : Dev.withTrial (safetyTick v) s.dev = s.dev := by
      unfold Dev.withTrial
      rw [hsame]
      exact if_pos ⟨rfl, rfl⟩
    refine ⟨s, ?_, rfl⟩
    show State.onDev s _ = _
    rw [State.onDev, htrial]
  · obtain ⟨h1, h2, h3, h4, h5, h6, h7, h8, h9, h10, h11⟩ := mayClose_needs h
    rw [arbiter_closes h]
    exact ⟨h1, h2, h3, h4, h5, h6, h7, h8, h9, h10, h11, close_leaves d p⟩

end Sys2Proof.Machine
end

section
/-! PROOFS. External legal commands: the checks, the refusals, the use of a key (12 R309 to R311; 16 R430). -/

namespace Sys2Proof.Machine

section
variable (d : Dev)

/-! ### The use of a key (16 R430) -/

theorem val_useKey (n : Fin 64) {k : Nat} (hu : k ≠ Key.useCount n) (hr : k ≠ Key.refusedCount n) : (d.useKey n).val k = d.val k := by
  unfold Dev.useKey
  split
  · exact Dev.val_bump_other _ _ (Ne.symm hu)
  · exact Dev.val_bump_other _ _ (Ne.symm hr)

theorem keyOf_congr {e : Dev} (n : Fin 64) (hl : e.val Key.lifecycleState = d.val Key.lifecycleState) (hb : e.burl.slots = d.burl.slots) :
    e.keyOf n = d.keyOf n := by
  unfold Dev.keyOf Dev.lifecycle Dev.keySlot
  rw [nat_of_val hl, hb]

theorem running_congr {e : Dev} (c : CoreId) (h : e.cores = d.cores) : e.running c = d.running c := by
  unfold Dev.running
  rw [h]

theorem burlUp_congr {e : Dev} (hp : e.power = d.power) (hc : e.cores = d.cores) : e.burlUp = d.burlUp := by
  unfold Dev.burlUp Dev.powered
  rw [hp, running_congr d .burl hc]

/-! ### The checks of an external command (12 R310) -/

/-- The command taken from the mail and named as the last. -/
def legalNamed (env : LegalEnv) (code : Nat) : Dev :=
  ({ d with mail := vmod d.mail (coreNum .heartwood) (Dev.takePosts code env.seq) } : Dev).putNat Key.lastLegalCode code

/-- Its key used, where Burl is up. -/
def legalKeyed : Dev := if d.burlUp then d.useKey 0x05 else d

/-- The counter follows a signature that verifies. -/
def legalCounted (env : LegalEnv) : Dev := d.count 0 Key.legalSequence (max (d.nat Key.legalSequence) env.seq)

/-- A refusal: the result, its count, its event. -/
def legalRefuse (env : LegalEnv) (code c : Nat) : Dev :=
  ((d.putNat Key.lastLegalResult c).bump Key.legalRefusedCount).legal 0x0606 0xFF (leBytes 1 code ++ leBytes 8 env.seq ++ leBytes 4 c)

/-- The command's own conditions and effect. -/
def legalServe (env : LegalEnv) (code : Nat) (serve : Dev → Except Nat Dev) : Dev :=
  match serve d with
  | .error c => legalRefuse d env code c
  | .ok e => e.putNat Key.lastLegalResult 0

/-- The checks after the signature. -/
def legalChecked (old : Nat) (env : LegalEnv) (code : Nat) (states : List Nat) (serve : Dev → Except Nat Dev) : Dev :=
  if !env.hashOk ∨ env.seq ≤ old then legalRefuse d env code Code.range
  else if !states.contains d.lifecycle then legalRefuse d env code Code.keyUse
  else if d.heart.sealBroken ≠ 0 ∧ code ≠ 4 then legalRefuse d env code Code.sealBroken
  else legalServe d env code serve

/-- The signature, then the other checks. -/
def legalVerified (env : LegalEnv) (code : Nat) (states : List Nat) (serve : Dev → Except Nat Dev) : Dev :=
  if !env.sigOk ∨ (d.keyOf 0x05).isNone ∨ !d.burlUp then legalRefuse d env code Code.verifyFailed
  else legalChecked (legalCounted d env) (d.nat Key.legalSequence) env code states serve

theorem legalCommand_eq (env : LegalEnv) (code : Nat) (states : List Nat) (serve : Dev → Except Nat Dev) (h : d.heartwoodTakes = true) :
    d.legalCommand env code states serve = legalVerified (legalKeyed (legalNamed d env code)) env code states serve := by
  unfold Dev.legalCommand
  rw [if_neg (by simp [h])]
  rfl

/-- What the command's receipt leaves before its checks. -/
structure LegalTaken (env : LegalEnv) (code : Nat) (w : Dev) : Prop where
  named : w.nat Key.lastLegalCode = code
  vals : ∀ k, k ∉ [Key.lastLegalCode, Key.useCount 0x05, Key.refusedCount 0x05] → w.val k = d.val k
  keeps : Keeps 132 d w

theorem legalTaken (env : LegalEnv) (code : Nat) : LegalTaken d env code (legalKeyed (legalNamed d env code)) := by
  have hkeep : Keeps 132 d (legalNamed d env code) :=
    (keeps_mail (L := 132) _ (by decide) (.refl _ _)).trans ((Dev.putNat_keeps0 _ _ _).mono (by decide))
  have hname : (legalNamed d env code).nat Key.lastLegalCode = code := Dev.nat_putNat _ _ _
  have hval : ∀ k, k ≠ Key.lastLegalCode → (legalNamed d env code).val k = d.val k := fun k hk =>
    (Dev.val_putNat_other _ _ (Ne.symm hk)).trans rfl
  generalize legalNamed d env code = v at hkeep hname hval
  have hv : ∀ k, k ∉ [Key.lastLegalCode, Key.useCount 0x05, Key.refusedCount 0x05] → v.val k = d.val k := fun k hk =>
    hval k (by simp only [List.mem_cons, not_or] at hk; exact hk.1)
  unfold legalKeyed
  split
  · refine ⟨(nat_of_val (val_useKey v 5 (by decide) (by decide))).trans hname, fun k hk => ?_, hkeep.trans ((Dev.useKey_keeps0 v 5).mono (by decide))⟩
    rw [← hv k hk]
    simp only [List.mem_cons, List.not_mem_nil, or_false, not_or] at hk
    exact val_useKey v 5 hk.2.1 hk.2.2
  · exact ⟨hname, hv, hkeep⟩

/-- What a refusal leaves (12 R310). -/
theorem legalRefuse_leaves (env : LegalEnv) (code c : Nat) (hm : d.rail .vddMem = true) :
    (legalRefuse d env code c).nat Key.lastLegalResult = c ∧
      (legalRefuse d env code c).nat Key.legalRefusedCount = min (d.nat Key.legalRefusedCount + 1) (Dev.top Key.legalRefusedCount) ∧
      (∃ e : LegalEntry, (legalRefuse d env code c).heart = { d.heart with log := e :: d.heart.log.take 32767 } ∧ e.code = 0x0606 ∧
        e.data = leBytes 1 code ++ leBytes 8 env.seq ++ leBytes 4 c) ∧
      (∀ k, k ∉ [Key.lastLegalResult, Key.legalRefusedCount] → (legalRefuse d env code c).val k = d.val k) ∧
      Keeps 8196 d (legalRefuse d env code c) := by
  obtain ⟨w, hw⟩ : ∃ w, w = (d.putNat Key.lastLegalResult c).bump Key.legalRefusedCount := ⟨_, rfl⟩
  have hkeep : Keeps 4 d w := by
    rw [hw]
    exact (Dev.putNat_keeps0 d _ _).trans (Dev.bump_keeps0 _ _ _)
  have hres : w.nat Key.lastLegalResult = c := by rw [hw, Dev.nat_bump_other _ _ (by decide), Dev.nat_putNat]
  have hcount : w.nat Key.legalRefusedCount = min (d.nat Key.legalRefusedCount + 1) (Dev.top Key.legalRefusedCount) := by
    rw [hw, Dev.nat_bump, Dev.nat_putNat_other _ _ (by decide)]
  have hval : ∀ k, k ∉ [Key.lastLegalResult, Key.legalRefusedCount] → w.val k = d.val k := fun k hk => by
    simp only [List.mem_cons, List.not_mem_nil, or_false, not_or] at hk
    rw [hw, Dev.val_bump_other _ _ (Ne.symm hk.2), Dev.val_putNat_other _ _ (Ne.symm hk.1)]
  obtain ⟨e, -, hcode, -, hdata, -, hheart⟩ := Dev.legal_heart w 0x0606 0xFF (leBytes 1 code ++ leBytes 8 env.seq ++ leBytes 4 c)
    (by rw [Dev.rail, hkeep.get_power rfl]; exact hm)
  rw [hkeep.get_heart rfl] at hheart
  have heq : legalRefuse d env code c = w.legal 0x0606 0xFF (leBytes 1 code ++ leBytes 8 env.seq ++ leBytes 4 c) := by rw [hw]; rfl
  rw [heq]
  exact ⟨(Dev.legal_nat ..).trans hres, (Dev.legal_nat ..).trans hcount, ⟨e, hheart, hcode, hdata⟩, fun k hk => (Dev.legal_val ..).trans (hval k hk),
    (hkeep.mono (by decide)).trans ((Dev.legal_keeps0 w _ _ _).mono (by decide))⟩

end

/-- A command named `code` and refused with `result`, its Sequence counter at `sequence`: the refusal is counted and logged, and nothing else changes but
the counts of the key. -/
def LegalRefused (env : LegalEnv) (code result sequence : Nat) (s t : State) : Prop :=
  t.dev.nat Key.lastLegalCode = code ∧ t.dev.nat Key.lastLegalResult = result ∧ t.dev.nat Key.legalSequence = sequence ∧
  t.dev.nat Key.legalRefusedCount = min (s.dev.nat Key.legalRefusedCount + 1) (Dev.top Key.legalRefusedCount) ∧
  (∃ e : LegalEntry, t.dev.heart = { s.dev.heart with log := e :: s.dev.heart.log.take 32767 } ∧ e.code = 0x0606 ∧
    e.data = leBytes 1 code ++ leBytes 8 env.seq ++ leBytes 4 result) ∧
  Only [.heart, .mail, .burl] [Key.lastLegalCode, Key.lastLegalResult, Key.legalSequence, Key.legalRefusedCount, Key.useCount 0x05,
    Key.refusedCount 0x05] s t

/-- A refusal after the receipt, whatever the counter holds by then. -/
theorem legalRefused {s : State} {env : LegalEnv} {code : Nat} {w : Dev} (c : Nat) (hm : s.dev.rail .vddMem = true)
    (hname : w.nat Key.lastLegalCode = code)
    (hval : ∀ k, k ∉ [Key.lastLegalCode, Key.legalSequence, Key.useCount 0x05, Key.refusedCount 0x05] → w.val k = s.dev.val k)
    (hkeep : Keeps 8388740 s.dev w) :
    LegalRefused env code c (w.nat Key.legalSequence) s { s with dev := legalRefuse w env code c } := by
  obtain ⟨hres, hcount, ⟨e, hheart, hcode, hdata⟩, hother, hk⟩ := legalRefuse_leaves w env code c (by rw [Dev.rail, hkeep.get_power rfl]; exact hm)
  rw [hkeep.get_heart rfl] at hheart
  rw [nat_of_val (hval Key.legalRefusedCount (by decide))] at hcount
  refine ⟨(nat_of_val (hother _ (by decide))).trans hname, hres, nat_of_val (hother _ (by decide)), hcount, ⟨e, hheart, hcode, hdata⟩,
    Keeps.only (M := 8396932) ((hkeep.mono (by decide)).trans (hk.mono (by decide))) (by decide) fun k hk => ?_⟩
  simp only [List.mem_cons, List.not_mem_nil, or_false, not_or] at hk
  obtain ⟨h1, h2, h3, h4, h5, h6⟩ := hk
  exact (hother k (by simp [h2, h4])).trans (hval k (by simp [h1, h3, h5, h6]))

/-- The counter after a signature that verifies. -/
theorem legalCounted_leaves (d : Dev) (env : LegalEnv) :
    (legalCounted d env).nat Key.legalSequence = max (d.nat Key.legalSequence) env.seq ∧
      (∀ k, k ≠ Key.legalSequence → (legalCounted d env).val k = d.val k) ∧ Keeps 8388612 d (legalCounted d env) :=
  ⟨(nat_of_val (val_count ..)).trans (Dev.nat_putNat _ _ _), fun _ hk => (val_count ..).trans (Dev.val_putNat_other _ _ (Ne.symm hk)),
    Dev.count_keeps0 d _ _ _⟩

/-- A legal command that Heartwood takes is refused at the first check it fails (12 R310). -/
theorem legalCommand_refused (s : State) (env : LegalEnv) (code : Nat) (states : List Nat) (serve : Dev → Except Nat Dev)
    (h : s.dev.heartwoodTakes = true) (hm : s.dev.rail .vddMem = true) :
    let t : State := { s with dev := s.dev.legalCommand env code states serve }
    let old := s.dev.nat Key.legalSequence
    (env.sigOk = false ∨ s.dev.keyOf 0x05 = none ∨ s.dev.burlUp = false → LegalRefused env code 0x08000002 old s t) ∧
    (env.sigOk = true → (s.dev.keyOf 0x05).isSome = true → s.dev.burlUp = true →
      (env.hashOk = false ∨ env.seq ≤ old → LegalRefused env code 0x03000003 (max old env.seq) s t) ∧
      (env.hashOk = true → old < env.seq →
        (s.dev.lifecycle ∉ states → LegalRefused env code 0x08000001 env.seq s t) ∧
        (s.dev.lifecycle ∈ states → s.dev.heart.sealBroken ≠ 0 → code ≠ 4 → LegalRefused env code 0x06000004 env.seq s t))) := by
  intro t old
  obtain ⟨hname, hval, hkeep⟩ := legalTaken s.dev env code
  have ht : t = { s with dev := legalVerified (legalKeyed (legalNamed s.dev env code)) env code states serve } := by
    show State.mk .. = _
    rw [legalCommand_eq _ _ _ _ _ h]
  rw [ht]
  generalize legalKeyed (legalNamed s.dev env code) = w at hname hval hkeep
  have hkey : w.keyOf 0x05 = s.dev.keyOf 0x05 := keyOf_congr _ _ (hval _ (by decide)) (by rw [hkeep.get_burl rfl])
  have hup : w.burlUp = s.dev.burlUp := burlUp_congr _ (hkeep.get_power rfl) (hkeep.get_cores rfl)
  have hold : w.nat Key.legalSequence = old := nat_of_val (hval _ (by decide))
  have hv4 : ∀ k, k ∉ [Key.lastLegalCode, Key.legalSequence, Key.useCount 0x05, Key.refusedCount 0x05] → w.val k = s.dev.val k := fun k hk => by
    simp only [List.mem_cons, List.not_mem_nil, or_false, not_or] at hk
    exact hval k (by simp [hk])
  constructor
  · intro hf
    have hr := legalRefused (env := env) Code.verifyFailed hm hname hv4 (hkeep.mono (by decide))
    rw [hold] at hr
    unfold legalVerified
    rw [if_pos (by rw [hkey, hup]; rcases hf with hf | hf | hf <;> simp [hf])]
    exact hr
  · intro hsig hsome hb
    obtain ⟨hseq, hother, hck⟩ := legalCounted_leaves w env
    rw [hold] at hseq
    have hver : legalVerified w env code states serve = legalChecked (legalCounted w env) old env code states serve := by
      unfold legalVerified
      rw [if_neg (by rw [hkey, hup]; simp [hsig, hb, Option.isSome_iff_ne_none.1 hsome]), hold]
    rw [hver]
    have hcname := (nat_of_val (hother Key.lastLegalCode (by decide))).trans hname
    have hcv : ∀ k, k ∉ [Key.lastLegalCode, Key.legalSequence, Key.useCount 0x05, Key.refusedCount 0x05] →
        (legalCounted w env).val k = s.dev.val k := fun k hk =>
      (hother k (by simp only [List.mem_cons, not_or] at hk; exact hk.2.1)).trans (hv4 k hk)
    have hckeep : Keeps 8388740 s.dev (legalCounted w env) := (hkeep.mono (by decide)).trans (hck.mono (by decide))
    have hlife : (legalCounted w env).lifecycle = s.dev.lifecycle := nat_of_val (hcv _ (by decide))
    have hheart : (legalCounted w env).heart = s.dev.heart := hckeep.get_heart rfl
    generalize legalCounted w env = v at hseq hcname hcv hckeep hlife hheart
    have hr := fun c => legalRefused (env := env) c hm hcname hcv hckeep
    rw [hseq] at hr
    unfold legalChecked
    refine ⟨fun hf => ?_, fun hhash hlt => ?_⟩
    · rw [if_pos (by simpa using hf)]
      exact hr _
    · have hmax : max old env.seq = env.seq := by omega
      rw [hmax] at hr
      rw [if_neg (by simp [hhash]; omega), hlife, hheart]
      refine ⟨fun hl => ?_, fun hl hseal hc => ?_⟩
      · rw [if_pos (by simpa using hl)]
        exact hr _
      · rw [if_neg (by simpa using hl), if_pos ⟨hseal, hc⟩]
        exact hr _

/-- The four external commands, each with its code and the lifecycle states that permit it (12 R312 to R314; 08 R213). -/
theorem legal_exec (s : State) (env : LegalEnv) (o : ObjRef) (data record : Bytes) (slot : Nat) {c : Instr} {code : Nat} {states : List Nat}
    (h : (c, code, states) ∈ [(Instr.calibrationWrite env o data, 1, [1, 2]), (.constantsWrite env o data, 2, [1, 2]), (.sealCommand env, 3, [2]),
      (.recordRepair env slot record, 4, [0, 1, 2, 3])]) :
    ∃ serve, exec c s = .next { s with dev := s.dev.legalCommand env code states serve } := by
  simp only [List.mem_cons, List.not_mem_nil, or_false, Prod.mk.injEq] at h
  rcases h with ⟨rfl, rfl, rfl⟩ | ⟨rfl, rfl, rfl⟩ | ⟨rfl, rfl, rfl⟩ | ⟨rfl, rfl, rfl⟩
  · exact ⟨fun d => d.calibrationWrite (keyOfObj o) data, rfl⟩
  · exact ⟨fun d => d.constantsWrite (keyOfObj o) data, rfl⟩
  · exact ⟨Dev.sealUnit, rfl⟩
  · exact ⟨fun d => d.recordRepair slot record, rfl⟩

/-- Settles O42: the first check that fails refuses the command, which is counted and logged. -/
theorem legalCommandsAreChecked : Obligations.LegalCommandsAreChecked := by
  unfold Obligations.LegalCommandsAreChecked
  intro four refused s env o data record slot c code states hc h hm
  obtain ⟨serve, hex⟩ := legal_exec s env o data record slot hc
  obtain ⟨hverify, hrest⟩ := legalCommand_refused s env code states serve h hm
  refine ⟨fun hf => ⟨_, hex, hverify hf⟩, fun hsig hkey hb => ?_⟩
  obtain ⟨hrange, hlater⟩ := hrest hsig hkey hb
  refine ⟨fun hf => ⟨_, hex, hrange hf⟩, fun hhash hlt => ?_⟩
  obtain ⟨huse, hseal⟩ := hlater hhash hlt
  exact ⟨fun hl => ⟨_, hex, huse hl⟩, fun hl hs hne => ⟨_, hex, hseal hl hs hne⟩⟩

end Sys2Proof.Machine
end

section
/-! PROOFS. Keypad scans and presses, the lockout, card frames (11 R296 to R298, R301, R502). -/

namespace Sys2Proof.Machine

/-! ### The check of a card frame -/

theorem crcBitF_lt {w poly : Nat} (hp : poly < 2 ^ w) (c : Nat) : crcBitF w poly c < 2 ^ w := by
  have hlow : c * 2 % 2 ^ w < 2 ^ w := Nat.mod_lt _ (Nat.two_pow_pos w)
  unfold crcBitF
  split
  · exact Nat.xor_lt_two_pow hlow hp
  · exact hlow

theorem crcRun_lt {w poly : Nat} (hp : poly < 2 ^ w) {c : Nat} (hc : c < 2 ^ w) (bs : Bytes) : crcRun w poly false c bs < 2 ^ w := by
  show bs.foldl (fun c b => iter (crcBitF w poly) 8 (c ^^^ (b.toNat * 2 ^ (w - 8)))) c < 2 ^ w
  induction bs generalizing c with
  | nil => exact hc
  | cons b r ih => exact ih (crcBitF_lt hp _)

/-- The check of a card frame is one byte (11 R297). -/
theorem cardCheck_lt (bs : Bytes) : crc 8 7 0 false 0 bs < 256 := by
  unfold crc
  rw [Nat.xor_zero]
  exact crcRun_lt (w := 8) (by decide) (by decide) bs

/-- A card frame as the table *Card frame* has it. -/
def cardWire (n : Byte) (ident : Bytes) : Bytes := [0x02, n] ++ ident ++ [BitVec.ofNat 8 (crc 8 7 0 false 0 (n :: ident)), 0x03]

section
variable (n : Byte) (ident : Bytes)

theorem cardWire_length : (cardWire n ident).length = ident.length + 4 := by
  simp [cardWire]

theorem cardWire_ident : ((cardWire n ident).drop 2).take ident.length = ident := by
  simp [cardWire]

theorem cardWire_check : ((cardWire n ident).getD (ident.length + 2) 0).toNat = crc 8 7 0 false 0 (n :: ident) := by
  have h : (cardWire n ident).getD (ident.length + 2) 0 = BitVec.ofNat 8 (crc 8 7 0 false 0 (n :: ident)) := by
    simp [cardWire, List.getD_eq_getElem?_getD]
  rw [h, BitVec.toNat_ofNat, Nat.mod_eq_of_lt (cardCheck_lt _)]

theorem cardWire_last : (cardWire n ident).getLast? = some 0x03 := by
  have h : cardWire n ident = ([0x02, n] ++ ident ++ [BitVec.ofNat 8 (crc 8 7 0 false 0 (n :: ident))]) ++ [0x03] := by simp [cardWire]
  rw [h, List.getLast?_concat]

end

/-! ### The keypad -/

theorem setKeypad_only (s : State) (f : Keypad → Keypad) : Only [.ledger] [] s { s with dev := s.dev.setKeypad f } :=
  (Dev.setKeypad_keeps0 s.dev f).only_nil rfl (by decide)

/-- KEYPAD_SCAN: three scans that agree accept a matrix (11 R296). -/
theorem keypadScan_leaves (s : State) (x : BitVec 16) (hu : s.dev.sequencerUp = true) (hi : s.dev.islandRuns 1 = true)
    (he : s.dev.flag Key.keypadEnable = true) :
    Completes (.keypadScan x) s fun t =>
      let k := s.dev.ledger.keypad
      let agree := if x = k.matrix then min 3 (k.agree + 1) else 1
      t.dev.ledger.keypad.matrix = x ∧ t.dev.ledger.keypad.agree = agree ∧
      t.dev.ledger.keypad.accepted = (if 3 ≤ agree then x else k.accepted) ∧ t.dev.ledger.keypad.entry = k.entry ∧
      t.dev.ledger = { s.dev.ledger with keypad := t.dev.ledger.keypad } ∧ Only [.ledger] [] s t := by
  obtain ⟨f, hf, hk⟩ : ∃ f : Keypad → Keypad, s.dev.keypadScan x = s.dev.setKeypad f ∧
      ∀ k, (f k).matrix = x ∧ (f k).agree = (if x = k.matrix then min 3 (k.agree + 1) else 1) ∧
        (f k).accepted = (if 3 ≤ (if x = k.matrix then min 3 (k.agree + 1) else 1) then x else k.accepted) ∧ (f k).entry = k.entry := by
    unfold Dev.keypadScan
    rw [if_neg (by simp [hu, hi, he])]
    refine ⟨_, rfl, fun k => ?_⟩
    dsimp only
    generalize (if x = k.matrix then min 3 (k.agree + 1) else 1) = agree
    split
    · next h => exact ⟨rfl, rfl, (if_pos h.1).symm, rfl⟩
    · next h =>
      refine ⟨rfl, rfl, ?_, rfl⟩
      split
      · next h3 => exact (not_not.1 fun hne => h ⟨h3, hne⟩).symm
      · rfl
  obtain ⟨hm, ha, hacc, hentry⟩ := hk s.dev.ledger.keypad
  exact ⟨{ s with dev := s.dev.setKeypad f }, by rw [← hf]; rfl, hm, ha, hacc, hentry, rfl, setKeypad_only s f⟩

/-- The press that was accepted is taken: the key is the newest. -/
def keyTaken (d : Dev) : Dev := d.setKeypad fun x => { x with fresh := false, lastKey := d.nowMs }

/-- An entry whose last key is not # is not complete. -/
theorem entryOf_digit (l : List Key) (n : Fin 10) : entryOf (l ++ [.digit n]) = .open := by
  unfold entryOf
  rw [if_pos (by simp)]

/-- KEY_PRESS of a digit: it joins the entry (11 R298). -/
theorem keyPress_digit (d : Dev) (n : Fin 10) (hu : d.sequencerUp = true) (hf : d.ledger.keypad.fresh = true)
    (ha : d.ledger.keypad.accepted = BitVec.ofNat 16 (2 ^ keyBit (.digit n))) (ho : entryOf d.ledger.keypad.entry = .open)
    (hi : d.heart.inspection = none) :
    d.keyPress (.digit n) = (keyTaken d).setKeypad fun x => { x with entry := d.ledger.keypad.entry ++ [.digit n] } := by
  unfold Dev.keyPress
  dsimp only
  rw [if_neg (by simp [hu, hf, ha])]
  simp only [Dev.setKeypad_heart, hi, if_pos ho, reduceCtorEq, and_false, if_false, entryOf_digit]
  rfl

/-- KEY_PRESS of CLR empties the entry (11 R298). -/
theorem keyPress_clr (d : Dev) (hu : d.sequencerUp = true) (hf : d.ledger.keypad.fresh = true)
    (ha : d.ledger.keypad.accepted = BitVec.ofNat 16 (2 ^ keyBit .clr)) (hi : d.heart.inspection = none) :
    d.keyPress .clr = (keyTaken d).setKeypad fun x => { x with entry := [] } := by
  unfold Dev.keyPress
  dsimp only
  rw [if_neg (by simp [hu, hf, ha])]
  simp only [Dev.setKeypad_heart, hi]
  rfl

/-- The ledger after a press that sets the entry. -/
theorem keyTaken_setKeypad (s : State) (l : List Key) :
    ((keyTaken s.dev).setKeypad fun x => { x with entry := l }).ledger = { s.dev.ledger with keypad := { s.dev.ledger.keypad with
      fresh := false, lastKey := s.dev.nowMs, entry := l } } ∧
    Only [.ledger] [] s { s with dev := (keyTaken s.dev).setKeypad fun x => { x with entry := l } } :=
  ⟨rfl, ((Dev.setKeypad_keeps0 s.dev _).trans (Dev.setKeypad_keeps0 (keyTaken s.dev) _)).only_nil rfl (by decide)⟩

/-! ### Card frames (11 R502) -/

/-- The card frame accepted last. -/
def cardKept (d : Dev) (ident : Bytes) : Dev := { d with ledger := { d.ledger with card := some (ident, d.nowMs) } }

theorem cardKept_waiting (d : Dev) (ident : Bytes) (p : PortId) : (cardKept d ident).waiting p = d.waiting p := rfl

theorem cardKept_nat (d : Dev) (ident : Bytes) (k : Nat) : (cardKept d ident).nat k = d.nat k := rfl

/-- A frame of the right form passes the check of its form. -/
theorem cardFrame_ok (d : Dev) (ident hash : Bytes) (hu : d.sequencerUp = true) (hi : d.islandRuns 4 = true)
    (he : d.nat Key.cardReaderUart ≠ 0xFF) (h4 : 4 ≤ ident.length) (h32 : ident.length ≤ 32) (hp : d.nat Key.cardReaderPort = 0xFF)
    (hw : ∀ p, d.waiting p = false) :
    d.cardFrame (cardWire (BitVec.ofNat 8 ident.length) ident) true hash =
      if (d.ledger.card.any fun x => decide (x.1 = ident ∧ d.nowMs < x.2 + 2000)) = true then d
      else (cardKept d ident).showRefusal := by
  have hn : (BitVec.ofNat 8 ident.length).toNat = ident.length := by rw [BitVec.toNat_ofNat]; omega
  have hget : (cardWire (BitVec.ofNat 8 ident.length) ident).getD 1 0 = BitVec.ofNat 8 ident.length := rfl
  have hhead : (cardWire (BitVec.ofNat 8 ident.length) ident).head? = some 0x02 := rfl
  have hlen := cardWire_length (BitVec.ofNat 8 ident.length) ident
  have hident := cardWire_ident (BitVec.ofNat 8 ident.length) ident
  have hcheck := cardWire_check (BitVec.ofNat 8 ident.length) ident
  have hlast := cardWire_last (BitVec.ofNat 8 ident.length) ident
  generalize cardWire (BitVec.ofNat 8 ident.length) ident = frame at hget hhead hlen hident hcheck hlast ⊢
  unfold Dev.cardFrame
  rw [if_neg (by simp [hu, hi, he]), hget, hn]
  dsimp only
  rw [hident, hcheck, hlen, hhead, hlast, if_neg (by simp [h4, h32])]
  split
  · rfl
  · have hnone : (Dev.allPorts.filter fun p => (cardKept d ident).waiting p) = [] :=
      List.filter_eq_nil_iff.2 fun p _ => by rw [cardKept_waiting, hw p]; simp
    have hport : (cardKept d ident).nat Key.cardReaderPort = 0xFF := (cardKept_nat ..).trans hp
    rw [show ({ d with ledger := { d.ledger with card := some (ident, d.nowMs) } } : Dev) = cardKept d ident from rfl]
    rw [if_neg (not_not.2 hport), hnone]

theorem showRefusal_only (s : State) (d : Dev) (h : Keeps 2097152 s.dev d) : Only [.ledger, .display] [] s { s with dev := d.showRefusal } :=
  Keeps.only_nil (M := 69206016) ((h.mono (by decide)).trans ((Dev.showRefusal_keeps0 d).mono (by decide))) rfl (by decide)

/-- CARD_FRAME that no port waits for: taken once in 2 s, and refused on the display (11 R297, R502). -/
theorem cardFrame_refused (s : State) (ident hash : Bytes) (hu : s.dev.sequencerUp = true) (hi : s.dev.islandRuns 4 = true)
    (he : s.dev.nat Key.cardReaderUart ≠ 0xFF) (h4 : 4 ≤ ident.length) (h32 : ident.length ≤ 32) (hp : s.dev.nat Key.cardReaderPort = 0xFF)
    (hw : ∀ p, s.dev.waiting p = false) :
    Completes (.cardFrame (cardWire (BitVec.ofNat 8 ident.length) ident) true hash) s fun t =>
      (if (s.dev.ledger.card.any fun x => decide (x.1 = ident ∧ s.dev.nowMs < x.2 + 2000)) = true then t = s
      else t.dev.ledger = { s.dev.ledger with card := some (ident, s.dev.nowMs) } ∧
        (s.dev.heart.inspection = none → t.dev.display.notice = true)) ∧ Only [.ledger, .display] [] s t := by
  have hex : exec (.cardFrame (cardWire (BitVec.ofNat 8 ident.length) ident) true hash) s =
      .next { s with dev := s.dev.cardFrame (cardWire (BitVec.ofNat 8 ident.length) ident) true hash } := rfl
  rw [cardFrame_ok s.dev ident hash hu hi he h4 h32 hp hw] at hex
  refine ⟨_, hex, ?_⟩
  split
  · exact ⟨rfl, (Keeps.refl 0 s.dev).only_nil rfl (by decide)⟩
  · refine ⟨⟨?_, fun hnone => ?_⟩, showRefusal_only s _ (keeps_ledger (L := 2097152) _ (by decide) (.refl _ _))⟩
    · exact (Dev.showRefusal_keeps0 _).get_ledger rfl
    · unfold Dev.showRefusal
      rw [if_neg (by simp [cardKept, hnone])]

/-- Settles O40: the matrix is scanned and its presses decoded, and card frames are checked. -/
theorem keysAndCardsAreRead : Obligations.KeysAndCardsAreRead := by
  unfold Obligations.KeysAndCardsAreRead
  refine ⟨keypadScan_leaves, fun s n hu hf ha ho hi => ?_, fun s hu hf ha hi => ?_, fun s k hf => ?_, fun s hu hne ho hl => ?_,
    fun s n hl hn => ?_, fun s frame hash hu hi he => ?_, cardFrame_refused⟩
  · have hex : exec (.keyPress (.digit n)) s = .next { s with dev := s.dev.keyPress (.digit n) } := rfl
    rw [keyPress_digit s.dev n hu hf ha ho hi] at hex
    exact ⟨_, hex, keyTaken_setKeypad s _⟩
  · have hex : exec (.keyPress .clr) s = .next { s with dev := s.dev.keyPress .clr } := rfl
    rw [keyPress_clr s.dev hu hf ha hi] at hex
    exact ⟨_, hex, keyTaken_setKeypad s _⟩
  · refine ⟨s, ?_, rfl⟩
    show State.onDev s _ = _
    rw [State.onDev, Dev.keyPress, if_pos (by simp [hf])]
  · refine ⟨{ s with dev := s.dev.setKeypad fun x => { x with entry := [] } }, ?_, rfl, setKeypad_only s _⟩
    show State.onDev s _ = _
    rw [State.onDev, Dev.keypadTimeout, if_pos ⟨hu, hne, ho, hl⟩]
  · refine ⟨{ s with dev := (s.dev.setKeypad fun x => { x with lockTill := none, fails := [] }).putFlag Key.keypadLocked false }, ?_,
      ?_, Dev.flag_putFlag _ _ _, ?_⟩
    · show State.onDev s _ = _
      rw [State.onDev, Dev.keypadUnlock, hl]
      dsimp only
      rw [if_pos hn]
    · exact (Dev.putFlag_ledger ..).trans rfl
    · exact Keeps.only (M := 2097156) (((Dev.setKeypad_keeps0 s.dev _).mono (by decide)).trans ((Dev.putFlag_keeps0 _ _ _).mono (by decide)))
        (by decide) fun k hk => (Dev.val_putNat_other _ _ (Ne.symm (by simpa using hk))).trans rfl
  · refine ⟨{ s with dev := s.dev.bump Key.cardFrameErrorCount }, ?_, Dev.nat_bump .., (Dev.bump_keeps0 s.dev _ _).only (by decide) fun k hk =>
      Dev.val_bump_other _ _ (Ne.symm (by simpa using hk))⟩
    show State.onDev s _ = _
    rw [State.onDev, Dev.cardFrame, if_neg (by simp [hu, hi, he])]
    rfl

end Sys2Proof.Machine
end

section
/-! PROOFS. Panel temperature, balance repair, refreshes, the turning of pages (18 R486, R488, R494 to R498). -/

namespace Sys2Proof.Machine

/-! ### Temperature and timers -/

theorem setDisplay_only (s : State) (f : Display → Display) : Only [.display] [] s { s with dev := s.dev.setDisplay f } :=
  (Dev.setDisplay_keeps0 s.dev f).only_nil rfl (by decide)

theorem setDisplay_same {d : Dev} {f : Display → Display} (h : f d.display = d.display) : d.setDisplay f = d := by
  unfold Dev.setDisplay
  rw [h]

/-- The band one step nearer to a reading, 0.75 °C beyond the edge (18 R488). -/
def bandStep (b : Nat) (w : Bytes) (x : Int) : Nat :=
  if b < 7 ∧ waveEdge w (b + 1) + 12 ≤ x then b + 1 else if 0 < b ∧ x < waveEdge w b - 12 then b - 1 else b

theorem panelTemperature_eq (d : Dev) {sensor : Option (Fin 16)} (x : Int) {w : Bytes} (hp : d.powered = true) (hs : sensor = d.panelSource)
    (hw : d.display.wave = some w) (hb : d.display.bandSet = true) :
    d.panelTemperature sensor x = (d.putInt Key.panelTemperature x).setDisplay fun y => { y with band := bandStep d.display.band w x } := by
  unfold Dev.panelTemperature bandStep
  rw [if_neg (by simp [hp, hs])]
  dsimp only
  rw [Dev.putInt_display, hw]
  dsimp only
  rw [if_neg (by simp [hb])]
  split
  · rfl
  · split
    · rfl
    · refine (setDisplay_same ?_).symm
      rw [Dev.putInt_display]

/-- PANEL_TEMPERATURE_READING of the panel's sensor moves the band by one step (18 R488). -/
theorem panelTemperature_leaves (s : State) (sensor : Option (Fin 16)) (x : Int) (w : Bytes) (hp : s.dev.powered = true)
    (hs : sensor = s.dev.panelSource) (hw : s.dev.display.wave = some w) (hb : s.dev.display.bandSet = true) :
    Completes (.panelTemperatureReading sensor x) s fun t =>
      t.dev.int Key.panelTemperature = x ∧
      t.dev.display = { s.dev.display with band := bandStep s.dev.display.band w x } ∧ Only [.display] [Key.panelTemperature] s t := by
  have hex : exec (.panelTemperatureReading sensor x) s = .next { s with dev := s.dev.panelTemperature sensor x } := rfl
  rw [panelTemperature_eq s.dev x hp hs hw hb] at hex
  have hkeep := (Dev.putInt_keeps0 s.dev Key.panelTemperature x).mono (L := 67108868) (by decide)
  refine ⟨_, hex, Dev.int_putInt _ _ _, ?_, (hkeep.trans ((Dev.setDisplay_keeps0 _ _).mono (by decide))).only (by decide) fun k hk => ?_⟩
  · show ({ (s.dev.putInt Key.panelTemperature x).display with band := _ } : Display) = _
    rw [Dev.putInt_display]
  · exact (Dev.setDisplay_val ..).trans (Dev.val_putInt_other _ _ (Ne.symm (by simpa using hk)))

/-! ### The repair (18 R494) -/

/-- The commons whose step was cut: those with U set. -/
def cutCommons (d : Dev) : List Nat := (List.range 192).filter fun i => (d.display.ledger.getD i (false, false)).2

theorem mem_cutCommons (d : Dev) (i : Fin 192) : i.val ∈ cutCommons d ↔ (d.display.ledger[i]).2 = true := by
  have h : d.display.ledger.getD i (false, false) = d.display.ledger[i] := by simp [Vector.getD]
  unfold cutCommons
  rw [List.mem_filter, List.mem_range, h]
  exact and_iff_right i.isLt

theorem mark_display (d : Dev) (l : List Nat) (g : Bool × Bool → Bool × Bool) : ∃ v, (d.mark l g).display = { d.display with ledger := v } ∧
    ∀ i : Fin 192, v[i] = if i.val ∈ l then g d.display.ledger[i] else d.display.ledger[i] := by
  refine ⟨_, rfl, fun i => ?_⟩
  simp

/-- The repair of the cut commons: told to the panel, marked, counted. -/
def repaired (d : Dev) (l : List Nat) : Dev :=
  if l = [] then d
  else ((match d.display.record with | some r => d.say (.repair r l) | none => d).mark l fun x => (!x.1, false)).bump Key.balanceRepairCount

theorem repairPanel_eq (d : Dev) : d.repairPanel =
    ((repaired d (cutCommons d)).setDisplay fun x => { x with stopped := false, goodAt := none, fullWanted := true }).putNat Key.displayState 0 := rfl

/-- The repair as told to the panel. -/
def repairTold (d : Dev) (l : List Nat) : Dev := match d.display.record with | some r => d.say (.repair r l) | none => d

theorem repairTold_leaves (d : Dev) (l : List Nat) :
    (repairTold d l).out = d.out ++ (match d.display.record with | some r => [.repair r l] | none => []) ∧
      (repairTold d l).display = d.display ∧ (∀ k, (repairTold d l).val k = d.val k) ∧ Keeps 2 d (repairTold d l) := by
  unfold repairTold
  cases d.display.record with
  | none => exact ⟨(List.append_nil _).symm, rfl, fun _ => rfl, .refl _ _⟩
  | some r => exact ⟨rfl, rfl, fun _ => rfl, Dev.say_keeps0 d _⟩

theorem repaired_leaves (d : Dev) (l : List Nat) :
    (repaired d l).out = d.out ++ (match d.display.record with | some r => if l = [] then [] else [.repair r l] | none => []) ∧
      (repaired d l).nat Key.balanceRepairCount =
        (if l = [] then d.nat Key.balanceRepairCount else min (d.nat Key.balanceRepairCount + 1) (Dev.top Key.balanceRepairCount)) ∧
      (∃ v, (repaired d l).display = { d.display with ledger := v } ∧
        ∀ i : Fin 192, v[i] = if i.val ∈ l then (!(d.display.ledger[i]).1, false) else d.display.ledger[i]) ∧
      (∀ k, k ≠ Key.balanceRepairCount → (repaired d l).val k = d.val k) ∧ Keeps 67108870 d (repaired d l) := by
  by_cases hl : l = []
  · subst hl
    refine ⟨?_, rfl, ⟨d.display.ledger, rfl, fun i => by simp⟩, fun _ _ => rfl, .refl _ _⟩
    rw [show repaired d [] = d from rfl]
    cases d.display.record <;> simp
  · have heq : repaired d l = ((repairTold d l).mark l fun x => (!x.1, false)).bump Key.balanceRepairCount := if_neg hl
    obtain ⟨hout, hdisp, hval, hk⟩ := repairTold_leaves d l
    rw [heq]
    generalize repairTold d l = w at hout hdisp hval hk
    obtain ⟨v, hv, hvi⟩ := mark_display w l fun x => (!x.1, false)
    have hmk : Keeps 67108864 w (w.mark l fun x => (!x.1, false)) := Dev.setDisplay_keeps0 w _
    have hmval : ∀ k, (w.mark l fun x => (!x.1, false)).val k = w.val k := fun k => Dev.setDisplay_val ..
    generalize (w.mark l fun x => (!x.1, false)) = u at hv hmk hmval
    rw [hdisp] at hv hvi
    refine ⟨?_, ?_, ⟨v, ?_, hvi⟩, fun k hk => ?_, ?_⟩
    · rw [Dev.bump_out, hmk.get_out rfl, hout]
      simp only [hl, if_false]
    · rw [Dev.nat_bump, if_neg hl, nat_of_val ((hmval _).trans (hval _))]
    · rw [Dev.bump_display, hv]
    · rw [Dev.val_bump_other _ _ (Ne.symm hk), hmval, hval]
    · exact ((hk.mono (by decide)).trans (hmk.mono (by decide))).trans ((Dev.bump_keeps0 _ _ _).mono (by decide))

/-- BALANCE_REPAIR: 100 ms after the drive is good again every cut common is repaired, and a full frame is wanted (18 R494). -/
theorem balanceRepair_leaves (s : State) (n : Nat) (hu : s.dev.displayUp = true) (hd : s.dev.driveUp = true) (hs : s.dev.display.stopped = true)
    (hg : s.dev.display.goodAt = some n) :
    Completes .balanceRepair s fun t =>
      if n + 100 ≤ s.dev.nowMs then
        t.dev.out = s.dev.out ++ (match s.dev.display.record with | some r => if cutCommons s.dev = [] then [] else [.repair r (cutCommons s.dev)] | none => []) ∧
        t.dev.nat Key.balanceRepairCount =
          (if cutCommons s.dev = [] then s.dev.nat Key.balanceRepairCount
            else min (s.dev.nat Key.balanceRepairCount + 1) (Dev.top Key.balanceRepairCount)) ∧
        (∀ i : Fin 192, t.dev.display.ledger[i] =
          if (s.dev.display.ledger[i]).2 then (!(s.dev.display.ledger[i]).1, false) else s.dev.display.ledger[i]) ∧
        t.dev.display = { s.dev.display with
          ledger := t.dev.display.ledger, stopped := false, goodAt := none, fullWanted := true } ∧
        t.dev.nat Key.displayState = 0 ∧ Only [.display, .out] [Key.displayState, Key.balanceRepairCount] s t
      else t = s := by
  have hex : exec .balanceRepair s = .next { s with dev := if n + 100 ≤ s.dev.nowMs then s.dev.repairPanel else s.dev } := by
    show State.onDev s _ = _
    rw [State.onDev, Dev.balanceRepair]
    simp only [hu, hd, hs, hg, Option.any_some, decide_eq_true_eq, true_and]
  refine ⟨_, hex, ?_⟩
  split
  · obtain ⟨hout, hcount, ⟨v, hv, hvi⟩, hval, hkeep⟩ := repaired_leaves s.dev (cutCommons s.dev)
    rw [repairPanel_eq]
    generalize repaired s.dev (cutCommons s.dev) = w at hout hcount hv hval hkeep
    have hsk := Dev.setDisplay_keeps0 w fun x => { x with stopped := false, goodAt := none, fullWanted := true }
    have hsd : (w.setDisplay fun x => { x with stopped := false, goodAt := none, fullWanted := true }).display =
      { s.dev.display with ledger := v, stopped := false, goodAt := none, fullWanted := true } := by
      show ({ w.display with stopped := false, goodAt := none, fullWanted := true } : Display) = _
      rw [hv]
    have hsv : ∀ k, (w.setDisplay fun x => { x with stopped := false, goodAt := none, fullWanted := true }).val k = w.val k := fun k => Dev.setDisplay_val ..
    generalize (w.setDisplay fun x => { x with stopped := false, goodAt := none, fullWanted := true }) = u at hsk hsd hsv
    have hdisp : (u.putNat Key.displayState 0).display = { s.dev.display with ledger := v, stopped := false, goodAt := none, fullWanted := true } :=
      (Dev.putNat_display ..).trans hsd
    refine ⟨?_, ?_, fun i => ?_, ?_, Dev.nat_putNat _ _ _, ((hkeep.mono (by decide)).trans ((hsk.mono (by decide)).trans
      ((Dev.putNat_keeps0 u _ _).mono (by decide)))).only (M := 67108870) (by decide) fun k hk => ?_⟩
    · rw [Dev.putNat_out, hsk.get_out rfl, hout]
    · rw [Dev.nat_putNat_other _ _ (by decide), nat_of_val (hsv _), hcount]
    · simp only [hdisp, hvi, mem_cutCommons]
    · rw [hdisp]
    · simp only [List.mem_cons, List.not_mem_nil, or_false, not_or] at hk
      rw [Dev.val_putNat_other _ _ (Ne.symm hk.1), hsv, hval k hk.2]
  · rfl

/-! ### Pages (18 R495, R496, R498) -/

/-- The settings of the display as committed (18 R496). -/
def displaySettings (d : Dev) : DisplaySet :=
  ⟨d.nat Key.fullRefreshH, d.flag Key.partialUpdate, d.nat Key.panelSensor, d.nat Key.railHoldMs, d.nat Key.tokenPageS⟩

theorem takeScroll_leaves (d : Dev) :
    d.takeScroll.display = { d.display with scroll := d.scrollEntries ++ d.appended, set := displaySettings d } ∧
      (∀ k, k ≠ Key.scrollAppended → d.takeScroll.val k = d.val k) ∧ d.takeScroll.dict = d.dict ∧ Keeps 67108868 d d.takeScroll :=
  ⟨Dev.putNat_display .., fun _ hk => (Dev.val_putNat_other _ _ (Ne.symm hk)).trans (Dev.setDisplay_val ..), Dev.putNat_dict .., Dev.takeScroll_keeps0 d⟩

/-- After entry 1 the check value shows for 10 s while the configuration is not commissioned (18 R498). -/
def checkShown (d : Dev) (entry : Nat) : Dev :=
  if decide (entry = 1) ∧ d.nat Key.commissionState ≠ 2 then d.setDisplay fun x => { x with checkTill := some (d.nowMs + 10000) } else d

theorem checkShown_leaves (d : Dev) (entry : Nat) :
    (checkShown d entry).display = { d.display with
      checkTill := if entry = 1 ∧ d.nat Key.commissionState ≠ 2 then some (d.nowMs + 10000) else d.display.checkTill } ∧
      (∀ k, (checkShown d entry).val k = d.val k) ∧ (checkShown d entry).dict = d.dict ∧ Keeps 67108864 d (checkShown d entry) := by
  unfold checkShown
  simp only [decide_eq_true_eq]
  split
  · exact ⟨rfl, fun _ => rfl, rfl, Dev.setDisplay_keeps0 d _⟩
  · exact ⟨rfl, fun _ => rfl, rfl, .refl _ _⟩

theorem render_display (d : Dev) (entry : Nat) : ∃ cur, (d.render entry).display = { d.display with entry := entry, cur := cur, dwellAt := d.nowMs } :=
  ⟨_, rfl⟩

/-- PAGE_DWELL_EXPIRY: the next page, with the sequence and settings committed last (18 R495, R496). -/
theorem pageDwell_leaves (s : State) (hu : s.dev.displayUp = true) (hi : s.dev.display.interrupted = false) (hp : s.dev.interruptPage = none) :
    Completes .pageDwellExpiry s fun t =>
      if s.dev.display.dwellAt + 1000 * (s.dev.curEntry % 256) ≤ s.dev.nowMs then
        t.dev.display.scroll = s.dev.scrollEntries ++ s.dev.appended ∧
        t.dev.display.entry = (if s.dev.display.entry < (s.dev.scrollEntries ++ s.dev.appended).length then s.dev.display.entry + 1 else 1) ∧
        t.dev.display.dwellAt = s.dev.nowMs ∧
        t.dev.display.set = displaySettings s.dev ∧
        t.dev.display.checkTill = (if s.dev.display.entry = 1 ∧ s.dev.nat Key.commissionState ≠ 2 then some (s.dev.nowMs + 10000)
          else s.dev.display.checkTill) ∧
        t.dev.display.frame = s.dev.display.frame ∧ Only [.display] [Key.scrollAppended] s t
      else t = s := by
  have hex : exec .pageDwellExpiry s = .next { s with dev := s.dev.pageDwellExpiry } := rfl
  refine ⟨_, hex, ?_⟩
  split
  case isTrue h =>
    have heq : s.dev.pageDwellExpiry = (checkShown s.dev.takeScroll s.dev.display.entry).render
        (if s.dev.display.entry < (checkShown s.dev.takeScroll s.dev.display.entry).display.scroll.length then s.dev.display.entry + 1 else 1) := by
      unfold Dev.pageDwellExpiry
      rw [if_neg (by simp [hu, hi, hp]; omega)]
      rfl
    rw [heq]
    obtain ⟨htd, htv, htt, htk⟩ := takeScroll_leaves s.dev
    generalize s.dev.takeScroll = w at htd htv htt htk
    obtain ⟨hcd, hcv, hct, hck⟩ := checkShown_leaves w s.dev.display.entry
    have hnow : ∀ d : Dev, d.dict = s.dev.dict → d.nowMs = s.dev.nowMs := fun d h => by unfold Dev.nowMs; rw [h]
    rw [htd, nat_of_val (htv Key.commissionState (by decide)), hnow w htt] at hcd
    generalize checkShown w s.dev.display.entry = v at hcd hcv hct hck
    obtain ⟨cur, hrd⟩ := render_display v (if s.dev.display.entry < v.display.scroll.length then s.dev.display.entry + 1 else 1)
    have hrk := Dev.render_keeps0 v (if s.dev.display.entry < v.display.scroll.length then s.dev.display.entry + 1 else 1)
    have hrv : ∀ k, (v.render (if s.dev.display.entry < v.display.scroll.length then s.dev.display.entry + 1 else 1)).val k = v.val k := fun k =>
      Dev.setDisplay_val ..
    generalize v.render (if s.dev.display.entry < v.display.scroll.length then s.dev.display.entry + 1 else 1) = u at hrd hrk hrv
    rw [hnow v (hct.trans htt), hcd] at hrd
    refine ⟨by rw [hrd], by rw [hrd], by rw [hrd], by rw [hrd], by rw [hrd], by rw [hrd],
      (htk.trans ((hck.mono (by decide)).trans (hrk.mono (by decide)))).only (by decide) fun k hk => ?_⟩
    rw [hrv, hcv, htv k (by simpa using hk)]
  case isFalse h =>
    show State.mk .. = _
    rw [Dev.pageDwellExpiry, if_pos (by simp [hu, hi, hp]; omega)]

/-- Settles O60: the panel's band, its repair, its refreshes and the turning of its pages. -/
theorem pagesTurnAndThePanelIsRepaired : Obligations.PagesTurnAndThePanelIsRepaired := by
  unfold Obligations.PagesTurnAndThePanelIsRepaired
  refine ⟨panelTemperature_leaves, fun s sensor x hs => ⟨s, ?_, rfl⟩, balanceRepair_leaves, fun s hu => ?_, fun s m data h ht => ?_, pageDwell_leaves,
    fun s hp => ?_⟩
  · show State.onDev s _ = _
    rw [State.onDev, Dev.panelTemperature, if_pos (.inr hs)]
  · have hex : exec .fullRefreshTimer s = .next { s with dev := s.dev.fullRefresh } := rfl
    refine ⟨_, hex, ?_⟩
    unfold Dev.fullRefresh
    simp only [hu, true_and]
    split
    · exact ⟨rfl, setDisplay_only s _⟩
    · exact ⟨rfl, (Keeps.refl 0 s.dev).only_nil rfl (by decide)⟩
  · have hd : (s.dev.admitted m).display = s.dev.display := (Dev.admitted_same s.dev m .display (by decide) (by decide)).symm
    refine ⟨{ s with dev := ((s.dev.admitted m).setDisplay fun x => { x with fullWanted := true }).ok ((s.dev.admitted m).ackOf m Key.refreshNow) }, ?_,
      ?_, served_ok (M := 67108864) _ (grants_iff.1 h).1 (Dev.setDisplay_keeps0 _ _) (by decide) (by decide) (fun _ _ => rfl) (by simp)⟩
    · show State.onDev s _ = _
      rw [State.onDev, cmdWrite_granted h ht, refreshNowServe]
    · refine ((Dev.ok_keeps0 _ _).get_display rfl).trans ?_
      show ({ (s.dev.admitted m).display with fullWanted := true } : Display) = _
      rw [hd]
  · have hex : exec .interruptPageExpiry s = .next { s with dev := s.dev.interruptExpiry } := rfl
    refine ⟨_, hex, ?_⟩
    unfold Dev.interruptExpiry
    rw [if_neg (by simp [hp])]
    exact ⟨rfl, setDisplay_only s _⟩

end Sys2Proof.Machine
end

section
/-! PROOFS. Check-value units: windows, entries, contexts, profiles, counters (15 R408 to R421). -/

namespace Sys2Proof.Machine

/-! ### Who may write them (01 R20; 15 R408, R410, R418) -/

/-- A transaction refused at a target that is none of Heartwood's. -/
def UnitRefused (tag : BitVec 5) (s t : State) : Prop := t.dev.out = s.dev.out ++ [.fabric tag.toNat .error] ∧ Only [.out, .refusals] [] s t

theorem refuseTransaction_unit (s : State) (tag : BitVec 5) {r : Region} {addr : Nat} (h : heartwoodTarget r addr = none) :
    UnitRefused tag s { s with dev := refuseTransaction s.dev tag.toNat r addr } := by
  have heq : refuseTransaction s.dev tag.toNat r addr =
      ({ s.dev with refusals := countRefusal s.dev.refusals r tag.toNat addr } : Dev).say (.fabric tag.toNat .error) := by
    unfold refuseTransaction
    rw [h]
  rw [heq]
  exact ⟨rfl, Keeps.only_nil (M := 66) ((keeps_refusals (L := 66) _ (by decide) (.refl _ _)).trans ((Dev.say_keeps0 _ _).mono (by decide))) rfl
    (by decide)⟩

section
variable (s : State) (tag : BitVec 5) (e : Fin 16)

/-! ### Windows (15 R412, R413) -/

/-- The engine's windows with one armed. -/
def armedWindows (d : Dev) (w : WindowSet) : Cvu :=
  { d.cvu with engines := d.cvu.engines.set e (d.cvu.engines[e] ++ [⟨w, d.cvu.order, tag.toNat, false, [], none⟩]), order := d.cvu.order + 1 }

theorem windowArm_may (w : WindowSet) (hp : s.dev.powered = true) {i : Initiator} (ht : tagUsed s.dev tag = some i) (ho : ownsEngine s.dev e i = true)
    (hf : windowFits s.dev w = true) (hl : (s.dev.cvu.engines[e]).length < 32) :
    exec (.windowArm tag e w) s = .next { s with dev := ({ s.dev with cvu := armedWindows tag e s.dev w } : Dev).say (.fabric tag.toNat .done) } := by
  show execWindowArm tag e w s = _
  rw [execWindowArm, State.onDev, if_neg (by simp [hp]), ht]
  dsimp only
  rw [if_neg (by simp [ho, hf]; exact hl)]
  rfl

theorem windowArm_refused (w : WindowSet) (hp : s.dev.powered = true)
    (h : ¬ (∃ i, tagUsed s.dev tag = some i ∧ ownsEngine s.dev e i = true) ∨ windowFits s.dev w = false ∨ 32 ≤ (s.dev.cvu.engines[e]).length) :
    exec (.windowArm tag e w) s = .next { s with dev := refuseTransaction s.dev tag.toNat (.cvuEngine e) 0 } := by
  show execWindowArm tag e w s = _
  rw [execWindowArm, State.onDev, if_neg (by simp [hp])]
  cases ht : tagUsed s.dev tag with
  | none => rfl
  | some i =>
    dsimp only
    rw [if_pos]
    rcases h with h | h | h
    · have hno : ownsEngine s.dev e i = false := by
        by_contra hc
        exact h ⟨i, ht, by simpa using hc⟩
      exact .inl (by simp [hno])
    · exact .inr (.inl (by simp [h]))
    · exact .inr (.inr h)

theorem windowDisarm_may (i : Nat) {w : CvuWindow} {j : Initiator} (hp : s.dev.powered = true) (hw : s.dev.window e i = some w)
    (ht : tagUsed s.dev tag = some j) (ho : ownsEngine s.dev e j = true) :
    exec (.windowDisarm tag e i) s =
      .next { s with dev := ((s.dev.setWindow e i fun w => { w with disarm := true }).sweep e).say (.fabric tag.toNat .done) } := by
  show execWindowDisarm tag e i s = _
  rw [execWindowDisarm, State.onDev, if_neg (by simp [hp]), ht]
  dsimp only
  rw [if_neg (by simp [ho, hw])]

theorem windowDisarm_refused (i : Nat) (hp : s.dev.powered = true)
    (h : ¬ (∃ j, tagUsed s.dev tag = some j ∧ ownsEngine s.dev e j = true) ∨ s.dev.window e i = none) :
    exec (.windowDisarm tag e i) s = .next { s with dev := refuseTransaction s.dev tag.toNat (.cvuEngine e) 0 } := by
  show execWindowDisarm tag e i s = _
  rw [execWindowDisarm, State.onDev, if_neg (by simp [hp])]
  cases ht : tagUsed s.dev tag with
  | none => rfl
  | some j =>
    dsimp only
    rw [if_pos]
    rcases h with h | h
    · have hno : ownsEngine s.dev e j = false := by
        by_contra hc
        exact h ⟨j, ht, by simpa using hc⟩
      exact .inl (by simp [hno])
    · exact .inr (by simp [h])

end

/-- A window that is disarmed and works on no entry is gone. -/
def CvuWindow.gone (w : CvuWindow) : Bool := w.disarm && w.work.isNone && decide (w.waits = [])

theorem filter_armed {l : List CvuWindow} (h : ∀ j ∈ l, j.disarm = false) : l.filter (fun w => !w.gone) = l :=
  List.filter_eq_self.2 fun w hw => by simp [CvuWindow.gone, h w hw]

/-- Of windows that stand armed, the one disarmed goes at once when it works on no entry, and stays else. -/
theorem filter_modify {l : List CvuWindow} {i : Nat} {w : CvuWindow} (h : ∀ j ∈ l, j.disarm = false) (hw : l[i]? = some w) :
    (l.modify i fun x => { x with disarm := true }).filter (fun x => !x.gone) =
      if w.work = none ∧ w.waits = [] then l.eraseIdx i else l.modify i fun x => { x with disarm := true } := by
  induction l generalizing i with
  | nil => simp at hw
  | cons x r ih =>
    have hr : ∀ j ∈ r, j.disarm = false := fun j hj => h j (List.mem_cons_of_mem _ hj)
    have hx : x.gone = false := by simp [CvuWindow.gone, h x List.mem_cons_self]
    cases i with
    | zero =>
      obtain rfl : x = w := by simpa using hw
      rw [List.modify_zero_cons, List.filter_cons, filter_armed hr]
      by_cases hc : x.work = none ∧ x.waits = []
      · simp [CvuWindow.gone, hc]
      · rw [if_pos (by cases hk : x.work <;> simp_all [CvuWindow.gone]), if_neg hc]
    | succ i =>
      have hw' : r[i]? = some w := by simpa using hw
      rw [List.modify_succ_cons, List.filter_cons, if_pos (by simp [hx]), ih hr hw']
      split <;> simp

section
variable (d : Dev) (e : Fin 16)

theorem setEngine_same (f : List CvuWindow → List CvuWindow) : (d.setEngine e f).cvu.engines[e] = f d.cvu.engines[e] := vmod_same _ _ _

theorem setEngine_other (f : List CvuWindow → List CvuWindow) {b : Fin 16} (h : b ≠ e) : (d.setEngine e f).cvu.engines[b] = d.cvu.engines[b] :=
  vmod_other _ _ h

theorem sweep_same : (d.sweep e).cvu.engines[e] = d.cvu.engines[e].filter fun w => !w.gone := setEngine_same ..

theorem window_setWindow (i j : Nat) (f : CvuWindow → CvuWindow) :
    (d.setWindow e i f).window e j = if i = j then (d.window e j).map f else d.window e j := by
  unfold Dev.window Dev.setWindow
  rw [setEngine_same, List.getElem?_modify]
  split
  · rfl
  · simp

theorem window_setWindow_same (i : Nat) (f : CvuWindow → CvuWindow) : (d.setWindow e i f).window e i = (d.window e i).map f := by
  rw [window_setWindow, if_pos rfl]

theorem window_setWindow_other {b : Fin 16} (h : b ≠ e) (i j : Nat) (f : CvuWindow → CvuWindow) :
    (d.setWindow e i f).window b j = d.window b j := by
  unfold Dev.window Dev.setWindow
  rw [setEngine_other _ _ _ h]

end

/-- WINDOW_DISARM by an owner, with no other window of the engine disarmed (15 R413). -/
theorem windowDisarm_leaves (s : State) (tag : BitVec 5) (e : Fin 16) (i : Nat) (w : CvuWindow) (hw : s.dev.window e i = some w)
    (ha : ∀ j, j ∈ s.dev.cvu.engines[e] → j.disarm = false) :
    let t : State := { s with dev := ((s.dev.setWindow e i fun w => { w with disarm := true }).sweep e).say (.fabric tag.toNat .done) }
    (if w.work = none ∧ w.waits = [] then t.dev.cvu.engines[e] = (s.dev.cvu.engines[e]).eraseIdx i
      else t.dev.window e i = some { w with disarm := true }) ∧
    (∀ b, b ≠ e → t.dev.cvu.engines[b] = s.dev.cvu.engines[b]) ∧ t.dev.out = s.dev.out ++ [.fabric tag.toNat .done] ∧
    Only [.out, .cvu] [] s t := by
  intro t
  have hfilter := filter_modify ha hw
  have hsame : t.dev.cvu.engines[e] =
      ((s.dev.cvu.engines[e]).modify i fun x => { x with disarm := true }).filter fun x => !x.gone := by
    show ((s.dev.setWindow e i fun w => { w with disarm := true }).sweep e).cvu.engines[e] = _
    rw [sweep_same]
    show List.filter _ ((s.dev.setEngine e fun l => l.modify i fun w => { w with disarm := true }).cvu.engines[e]) = _
    rw [setEngine_same]
  rw [hfilter] at hsame
  refine ⟨?_, fun b hb => ?_, rfl, Keeps.only_nil (M := 4194306) (((Dev.setWindow_keeps0 s.dev _ _ _).mono (by decide)).trans
    (((Dev.sweep_keeps0 _ _).mono (by decide)).trans ((Dev.say_keeps0 _ _).mono (by decide)))) rfl (by decide)⟩
  · split
    · next hc => rw [hsame, if_pos hc]
    · next hc =>
      rw [if_neg hc] at hsame
      show t.dev.cvu.engines[e][i]? = _
      have hw' : (s.dev.cvu.engines[e])[i]? = some w := hw
      rw [hsame, List.getElem?_modify, hw']
      simp
  · exact (setEngine_other _ _ _ hb).trans (setEngine_other _ _ _ hb)

/-! ### Entries without a context (15 R412, R414) -/

section
variable (d : Dev) (e : Fin 16) (i : Nat)

/-- What a whole window says of an entry: its check sent, appended, or compared with the field. -/
def entrySaid (s : WindowSet) (f : Profile) (entry covered field : Bytes) (value : Nat) : Out :=
  if s.mode = 0 then .cvu e i 0 entry value
  else if s.mode = 1 then .cvu e i 0 (entry ++ f.field value) value
  else .cvu e i (if field = f.field value then 0 else 1) (if s.mode = 3 then entry
    else entry.take (s.offset + covered.length) ++ entry.drop (s.offset + covered.length + field.length)) value

/-- A window that compares counts a check that differs. -/
def entryCounted (s : WindowSet) (f : Profile) (field : Bytes) (value : Nat) : Dev :=
  if s.mode = 0 then d else if s.mode = 1 then d else if field = f.field value then d else d.bump (Key.mismatchCount e)

theorem cover_short {w : CvuWindow} {f : Profile} (ident : Byte) {entry : Bytes} {last : Bool} (hc : w.set.context = none)
    (hl : w.set.finalOnFlag = false ∨ last = true) (hs : splitEntry w.set (f.width / 8) true entry = none) :
    (d.cover e i w f ident entry last).1 = (d.bump (Key.shortCount e)).say (.cvu e i 2 entry 0) := by
  have hfinal : (!w.set.finalOnFlag || last) = true := by rcases hl with h | h <;> simp [h]
  unfold Dev.cover
  simp only [hc, hfinal, hs]

theorem cover_whole {w : CvuWindow} {f : Profile} (ident : Byte) {entry covered field : Bytes} {last : Bool} (hc : w.set.context = none)
    (hl : w.set.finalOnFlag = false ∨ last = true) (hs : splitEntry w.set (f.width / 8) true entry = some (covered, field)) :
    (d.cover e i w f ident entry last).1 =
      (entryCounted (d.bump (Key.bytesCovered e) covered.length) e w.set f field
        (crc f.width f.poly (if w.set.initFromId then ident.toNat else f.ini) f.reflected f.xorOut covered)).say
      (entrySaid e i w.set f entry covered field
        (crc f.width f.poly (if w.set.initFromId then ident.toNat else f.ini) f.reflected f.xorOut covered)) := by
  have hfinal : (!w.set.finalOnFlag || last) = true := by rcases hl with h | h <;> simp [h]
  unfold Dev.cover entryCounted entrySaid crc
  simp only [hc, hfinal, hs]
  by_cases h0 : w.set.mode = 0
  · simp [h0]
  · by_cases h1 : w.set.mode = 1
    · simp [h1]
    · simp [h0, h1]

theorem startWindow_plain {w : CvuWindow} {f : Profile} (ident : Byte) (entry : Bytes) (last : Bool) (hw : d.window e i = some w)
    (hf : d.profileOf w.set.profile = some f) (hc : w.set.context = none) :
    d.startWindow e i ident entry last = (d.cover e i w f ident entry last).1 := by
  unfold Dev.startWindow
  rw [hw]
  dsimp only
  rw [hf]
  dsimp only
  unfold Dev.holdContext
  rw [hc]

theorem cvuEntry_plain {w : CvuWindow} {f : Profile} (ident : Byte) (entry : Bytes) (last : Bool) (hu : d.engineUp e = true)
    (hw : d.window e i = some w) (hd : w.disarm = false) (hf : d.profileOf w.set.profile = some f) (hc : w.set.context = none) :
    d.cvuEntry e i ident entry last = (d.cover e i w f ident entry last).1 := by
  unfold Dev.cvuEntry
  rw [hw]
  dsimp only
  rw [if_neg (by simp [hu, hd]), hc]
  exact startWindow_plain d e i ident entry last hw hf hc

theorem entryCounted_leaves (s : WindowSet) (f : Profile) (field : Bytes) (value : Nat) :
    (1 < s.mode.val → field ≠ f.field value →
      (entryCounted d e s f field value).nat (Key.mismatchCount e) = min (d.nat (Key.mismatchCount e) + 1) (Dev.top (Key.mismatchCount e))) ∧
    (∀ k, k ≠ Key.mismatchCount e → (entryCounted d e s f field value).val k = d.val k) ∧ (entryCounted d e s f field value).out = d.out ∧
    Keeps 4 d (entryCounted d e s f field value) := by
  by_cases hm : s.mode = 0 ∨ s.mode = 1 ∨ field = f.field value
  · have heq : entryCounted d e s f field value = d := by
      unfold entryCounted
      rcases hm with h | h | h
      · rw [if_pos h]
      · rw [if_pos h, ite_self]
      · rw [if_pos h, ite_self, ite_self]
    rw [heq]
    refine ⟨fun h1 hne => ?_, fun _ _ => rfl, rfl, .refl _ _⟩
    rcases hm with h | h | h
    · rw [h] at h1; exact absurd h1 (by decide)
    · rw [h] at h1; exact absurd h1 (by decide)
    · exact absurd h hne
  · simp only [not_or] at hm
    obtain ⟨h0, h1, hne⟩ := hm
    have heq : entryCounted d e s f field value = d.bump (Key.mismatchCount e) := by
      unfold entryCounted
      rw [if_neg h0, if_neg h1, if_neg hne]
    rw [heq]
    exact ⟨fun _ _ => Dev.nat_bump .., fun k hk => Dev.val_bump_other _ _ (Ne.symm hk), Dev.bump_out .., Dev.bump_keeps0 d _ _⟩

end

/-- CVU_ENTRY on a window without a context, short of the window (15 R412). -/
theorem cvuEntry_short (s : State) (e : Fin 16) (i : Nat) (entry : Bytes) :
    let t : State := { s with dev := (s.dev.bump (Key.shortCount e)).say (.cvu e i 2 entry 0) }
    t.dev.out = s.dev.out ++ [.cvu e i 2 entry 0] ∧
    t.dev.nat (Key.shortCount e) = min (s.dev.nat (Key.shortCount e) + 1) (Dev.top (Key.shortCount e)) ∧ Only [.out] [Key.shortCount e] s t := by
  refine ⟨?_, (nat_of_val rfl).trans (Dev.nat_bump _ _ _), Keeps.only (M := 6) (((Dev.bump_keeps0 s.dev _ _).mono (by decide)).trans
    ((Dev.say_keeps0 _ _).mono (by decide))) (by decide) fun k hk => (Dev.val_bump_other _ _ (Ne.symm (by simpa using hk)))⟩
  show (s.dev.bump (Key.shortCount e)).out ++ _ = _
  rw [Dev.bump_out]

/-- CVU_ENTRY on a window without a context, whole: the check is the CRC of its profile (15 R410, R412, R414). -/
theorem cvuEntry_whole (s : State) (e : Fin 16) (i : Nat) (w : WindowSet) (f : Profile) (entry covered field : Bytes) (value : Nat) :
    let t : State := { s with
      dev := (entryCounted (s.dev.bump (Key.bytesCovered e) covered.length) e w f field value).say (entrySaid e i w f entry covered field value) }
    (w.mode = 0 → t.dev.out = s.dev.out ++ [.cvu e i 0 entry value]) ∧
    (w.mode = 1 → t.dev.out = s.dev.out ++ [.cvu e i 0 (entry ++ f.field value) value]) ∧
    (w.mode = 3 → t.dev.out = s.dev.out ++ [.cvu e i (if field = f.field value then 0 else 1) entry value]) ∧
    (1 < w.mode.val → field ≠ f.field value →
      t.dev.nat (Key.mismatchCount e) = min (s.dev.nat (Key.mismatchCount e) + 1) (Dev.top (Key.mismatchCount e))) ∧
    t.dev.nat (Key.bytesCovered e) = min (s.dev.nat (Key.bytesCovered e) + covered.length) (Dev.top (Key.bytesCovered e)) ∧
    Only [.out] [Key.bytesCovered e, Key.mismatchCount e] s t := by
  intro t
  have hne : Key.bytesCovered e.val ≠ Key.mismatchCount e.val := by simp only [Key.bytesCovered, Key.mismatchCount, ob]; omega
  have hb : (s.dev.bump (Key.bytesCovered e) covered.length).nat (Key.bytesCovered e) =
      min (s.dev.nat (Key.bytesCovered e) + covered.length) (Dev.top (Key.bytesCovered e)) := Dev.nat_bump ..
  have hm : (s.dev.bump (Key.bytesCovered e) covered.length).nat (Key.mismatchCount e) = s.dev.nat (Key.mismatchCount e) :=
    Dev.nat_bump_other _ _ hne
  have hbo : (s.dev.bump (Key.bytesCovered e) covered.length).out = s.dev.out := Dev.bump_out ..
  have hbv : ∀ k, k ≠ Key.bytesCovered e → (s.dev.bump (Key.bytesCovered e) covered.length).val k = s.dev.val k := fun k hk =>
    Dev.val_bump_other _ _ (Ne.symm hk)
  have hbk := Dev.bump_keeps0 s.dev (Key.bytesCovered e) covered.length
  have ht : t.dev = (entryCounted (s.dev.bump (Key.bytesCovered e) covered.length) e w f field value).say (entrySaid e i w f entry covered field value) := rfl
  have hpend : t = { s with dev := t.dev } := rfl
  generalize t.dev = u at ht hpend
  rw [hpend]
  generalize s.dev.bump (Key.bytesCovered e) covered.length = v at hb hm hbo hbv hbk ht
  obtain ⟨hmis, hval, hout, hkeep⟩ := entryCounted_leaves v e w f field value
  generalize entryCounted v e w f field value = x at hmis hval hout hkeep ht
  have hsaid : u.out = s.dev.out ++ [entrySaid e i w f entry covered field value] := by rw [ht, ← hbo, ← hout]; rfl
  have huv : ∀ k, u.val k = x.val k := fun k => by rw [ht]; rfl
  refine ⟨fun h => ?_, fun h => ?_, fun h => ?_, fun h1 hne => ?_, ?_, Keeps.only (M := 6) ((hbk.mono (by decide)).trans
    ((hkeep.mono (by decide)).trans ?_)) (by decide) fun k hk => ?_⟩
  · rw [hsaid, entrySaid, if_pos h]
  · rw [hsaid, entrySaid, if_neg (by rw [h]; decide), if_pos h]
  · rw [hsaid, entrySaid, if_neg (by rw [h]; decide), if_neg (by rw [h]; decide), if_pos h]
  · rw [nat_of_val (huv _), hmis h1 hne, hm]
  · rw [nat_of_val (huv _), nat_of_val (hval _ hne), hb]
  · rw [ht]
    exact (Dev.say_keeps0 _ _).mono (by decide)
  · simp only [List.mem_cons, List.not_mem_nil, or_false, not_or] at hk
    rw [huv, hval k hk.2, hbv k hk.1]

/-! ### Contexts (15 R416, R417) -/

section
variable (d : Dev) (e : Fin 16) (i : Nat)

theorem cover_keepsOut (w : CvuWindow) (f : Profile) (ident : Byte) (entry : Bytes) (last : Bool) :
    Keeps 6 d (d.cover e i w f ident entry last).1 := by
  unfold Dev.cover
  dsimp only
  (repeat' split) <;> simp (maxSteps := 400000) (maxDischargeDepth := 99) +contextual

theorem cvuEntry_held {w : CvuWindow} {x : Fin 160} (ident : Byte) (entry : Bytes) (last : Bool) (hu : d.engineUp e = true)
    (hw : d.window e i = some w) (hd : w.disarm = false) (hc : w.set.context = some x) (hh : d.nat (Key.contextHolder x) ≠ 0xFF) :
    d.cvuEntry e i ident entry last = d.setWindow e i fun w => { w with waits := w.waits ++ [(ident, entry, last)] } := by
  unfold Dev.cvuEntry
  rw [hw]
  dsimp only
  rw [if_neg (by simp [hu, hd]), hc]
  dsimp only
  rw [if_pos (.inl hh)]

theorem cvuEntry_free {w : CvuWindow} {x : Fin 160} {f : Profile} (ident : Byte) (entry : Bytes) (last : Bool) (hu : d.engineUp e = true)
    (hw : d.window e i = some w) (hd : w.disarm = false) (hc : w.set.context = some x) (hh : d.nat (Key.contextHolder x) = 0xFF)
    (hq : w.waits = []) (hf : d.profileOf w.set.profile = some f) :
    d.cvuEntry e i ident entry last = (d.cover e i w f ident entry last).1.holdContext e i w (d.cover e i w f ident entry last).2 := by
  unfold Dev.cvuEntry
  rw [hw]
  dsimp only
  rw [if_neg (by simp [hu, hd]), hc]
  dsimp only
  rw [if_neg (by simp [hh, hq])]
  unfold Dev.startWindow
  rw [hw]
  dsimp only
  rw [hf]

/-- The engine holds the context, and the window works on its entry (15 R416). -/
theorem holdContext_leaves {w : CvuWindow} {x : Fin 160} (keep : Option (Nat × Nat)) (hw : d.window e i = some w) (hc : w.set.context = some x) :
    (d.holdContext e i w keep).nat (Key.contextHolder x) = e ∧
      ∃ v, (d.holdContext e i w keep).window e i = some { w with work := some v } := by
  unfold Dev.holdContext
  rw [hc]
  dsimp only
  refine ⟨Dev.nat_putNat _ _ _, ?_⟩
  have hcvu : ∀ (u : Dev) (k n : Nat), (u.putNat k n).window e i = u.window e i := fun u k n => by unfold Dev.window; rw [Dev.putNat_cvu]
  rw [hcvu, window_setWindow_same, hw]
  exact ⟨_, rfl⟩

end

/-- The first element found is the only one that fits. -/
theorem find?_of_unique {α : Type} {p : α → Bool} {l : List α} {a : α} (hm : a ∈ l) (ha : p a = true) (hu : ∀ y ∈ l, p y = true → y = a) :
    l.find? p = some a := by
  cases h : l.find? p with
  | none => exact absurd ha (List.find?_eq_none.1 h a hm)
  | some y => rw [hu y (List.mem_of_find?_eq_some h) (List.find?_some h)]

/-- Engine and place of every window. -/
def windowPlaces : List (Fin 16 × Nat) := (List.finRange 16).flatMap fun e => (List.range 32).map fun i => (e, i)

theorem mem_windowPlaces {e : Fin 16} {i : Nat} : (e, i) ∈ windowPlaces ↔ i < 32 := by
  simp [windowPlaces]

section
variable (d : Dev) (x : Fin 160)

/-- Of the windows on the context, none waits, and none works but the one at `at_`. -/
def OnlyWorker (at_ : Fin 16 × Nat) : Prop :=
  ∀ (b : Fin 16) (j : Nat) (y : CvuWindow), d.window b j = some y → y.set.context = some x → y.waits = [] ∧ ((b, j) ≠ at_ → y.work = none)

theorem worker_of_only {e : Fin 16} {i : Nat} {w : CvuWindow} (hw : d.window e i = some w) (hc : w.set.context = some x) (hk : w.work.isSome)
    (hi : i < 32) (h : OnlyWorker d x (e, i)) : d.worker x = some (e, i) := by
  refine find?_of_unique (mem_windowPlaces.2 hi) (by simp [hw, hc, hk]) fun y hy hp => ?_
  by_contra hne
  obtain ⟨z, hz, hp⟩ := (Option.any_eq_true _ _).1 hp
  simp only [Bool.and_eq_true, decide_eq_true_eq] at hp
  obtain ⟨hwork, hctx⟩ := hp
  obtain ⟨q, hq, hqx⟩ := (Option.any_eq_true _ _).1 hctx
  have hqx' : q = x := Fin.ext (by simpa using hqx)
  rw [(h y.1 y.2 z hz (hq.trans (by rw [hqx']))).2 hne] at hwork
  exact absurd hwork (by simp)

theorem worker_none (h : ∀ (b : Fin 16) (j : Nat) (y : CvuWindow), d.window b j = some y → y.set.context = some x → y.work = none) :
    d.worker x = none := by
  refine List.find?_eq_none.2 fun y _ hp => ?_
  obtain ⟨z, hz, hp⟩ := (Option.any_eq_true _ _).1 hp
  simp only [Bool.and_eq_true, decide_eq_true_eq] at hp
  obtain ⟨hwork, hctx⟩ := hp
  obtain ⟨q, hq, hqx⟩ := (Option.any_eq_true _ _).1 hctx
  have hqx' : q = x := Fin.ext (by simpa using hqx)
  rw [h y.1 y.2 z hz (hq.trans (by rw [hqx']))] at hwork
  exact absurd hwork (by simp)

theorem nextWaiting_none (h : ∀ (b : Fin 16) (j : Nat) (y : CvuWindow), d.window b j = some y → y.set.context = some x → y.waits = []) :
    d.nextWaiting x = none := by
  have hnil : (windowPlaces.filter fun y =>
      (d.window y.1 y.2).any fun w => decide (w.waits ≠ []) && decide (w.set.context.any fun y => y.val = x.val)) = [] := by
    refine List.filter_eq_nil_iff.2 fun y _ hp => ?_
    obtain ⟨z, hz, hp⟩ := (Option.any_eq_true _ _).1 hp
    simp only [Bool.and_eq_true, decide_eq_true_eq] at hp
    obtain ⟨hwait, hctx⟩ := hp
    obtain ⟨q, hq, hqx⟩ := (Option.any_eq_true _ _).1 hctx
    have hqx' : q = x := Fin.ext (by simpa using hqx)
    exact hwait (h y.1 y.2 z hz (hq.trans (by rw [hqx'])))
  show (List.filter _ windowPlaces).foldl _ none = none
  rw [show List.filter _ windowPlaces = [] from hnil]
  rfl

/-- The running value, byte count and profile saved in the context, which no engine holds (15 R416). -/
def contextSaved (v n f : Nat) : Dev :=
  (((d.putNat (Key.runningValue x) v).putNat (Key.contextByteCount x) n).putNat (Key.contextProfile x) f).putNat (Key.contextHolder x) 0xFF

theorem contextSaved_leaves (v n f : Nat) :
    (contextSaved d x v n f).nat (Key.runningValue x) = v ∧ (contextSaved d x v n f).nat (Key.contextByteCount x) = n ∧
    (contextSaved d x v n f).nat (Key.contextProfile x) = f ∧ (contextSaved d x v n f).nat (Key.contextHolder x) = 0xFF ∧
    (∀ k, k ∉ [Key.runningValue x.val, Key.contextByteCount x, Key.contextProfile x, Key.contextHolder x] →
      (contextSaved d x v n f).val k = d.val k) ∧ Keeps 4 d (contextSaved d x v n f) := by
  have h1 : Key.contextHolder x.val ≠ Key.runningValue x.val := by simp only [Key.contextHolder, Key.runningValue, ob]; omega
  have h2 : Key.contextProfile x.val ≠ Key.runningValue x.val := by simp only [Key.contextProfile, Key.runningValue, ob]; omega
  have h3 : Key.contextByteCount x.val ≠ Key.runningValue x.val := by simp only [Key.contextByteCount, Key.runningValue, ob]; omega
  have h4 : Key.contextHolder x.val ≠ Key.contextByteCount x.val := by simp only [Key.contextHolder, Key.contextByteCount, ob]; omega
  have h5 : Key.contextProfile x.val ≠ Key.contextByteCount x.val := by simp only [Key.contextProfile, Key.contextByteCount, ob]; omega
  have h6 : Key.contextHolder x.val ≠ Key.contextProfile x.val := by simp only [Key.contextHolder, Key.contextProfile, ob]; omega
  unfold contextSaved
  refine ⟨?_, ?_, ?_, Dev.nat_putNat _ _ _, fun k hk => ?_, (((Dev.putNat_keeps0 d _ _).trans (Dev.putNat_keeps0 _ _ _)).trans
    (Dev.putNat_keeps0 _ _ _)).trans (Dev.putNat_keeps0 _ _ _)⟩
  · rw [Dev.nat_putNat_other _ _ h1, Dev.nat_putNat_other _ _ h2, Dev.nat_putNat_other _ _ h3, Dev.nat_putNat]
  · rw [Dev.nat_putNat_other _ _ h4, Dev.nat_putNat_other _ _ h5, Dev.nat_putNat]
  · rw [Dev.nat_putNat_other _ _ h6, Dev.nat_putNat]
  · simp only [List.mem_cons, List.not_mem_nil, or_false, not_or] at hk
    rw [Dev.val_putNat_other _ _ (Ne.symm hk.2.2.2), Dev.val_putNat_other _ _ (Ne.symm hk.2.2.1), Dev.val_putNat_other _ _ (Ne.symm hk.2.1),
      Dev.val_putNat_other _ _ (Ne.symm hk.1)]

theorem window_of_cvu {e : Dev} (h : e.cvu = d.cvu) (b : Fin 16) (j : Nat) : e.window b j = d.window b j := by
  unfold Dev.window
  rw [h]

theorem contextRelease_eq {e : Fin 16} {i v n f : Nat} {w : CvuWindow} (hw : d.window e i = some w) (hc : w.set.context = some x)
    (hk : w.work = some (v, n, f)) (hi : i < 32) (h : OnlyWorker d x (e, i)) :
    d.contextRelease x = ((contextSaved d x v n f).setWindow e i fun w => { w with work := none }).sweep e := by
  have hcvu : (contextSaved d x v n f).cvu = d.cvu := (contextSaved_leaves d x v n f).2.2.2.2.2.get_cvu rfl
  have hnext : ((contextSaved d x v n f).setWindow e i fun w => { w with work := none }).nextWaiting x = none := by
    generalize contextSaved d x v n f = u at hcvu
    refine nextWaiting_none _ x fun b j y hy hyc => ?_
    by_cases hb : b = e
    · subst hb
      rw [window_setWindow, window_of_cvu d hcvu] at hy
      split at hy
      · obtain ⟨z, hz, rfl⟩ := Option.map_eq_some_iff.1 hy
        exact (h b j z hz hyc).1
      · exact (h b j y hy hyc).1
    · rw [window_setWindow_other _ _ hb, window_of_cvu d hcvu] at hy
      exact (h b j y hy hyc).1
  unfold Dev.contextRelease
  rw [worker_of_only d x hw hc (by simp [hk]) hi h]
  dsimp only
  rw [hw]
  simp only [Option.bind_some, hk]
  unfold contextSaved at hnext ⊢
  rw [hnext]

end

/-- CONTEXT_RELEASE by the one window that works on the context, with none waiting (15 R416). -/
theorem contextRelease_leaves (s : State) (x : Fin 160) (e : Fin 16) (i v n f : Nat) (w : CvuWindow) (hw : s.dev.window e i = some w)
    (hc : w.set.context = some x) (hk : w.work = some (v, n, f)) (hi : i < 32) (h : OnlyWorker s.dev x (e, i)) :
    Completes (.contextRelease x) s fun t =>
      t.dev.nat (Key.runningValue x) = v ∧ t.dev.nat (Key.contextByteCount x) = n ∧ t.dev.nat (Key.contextProfile x) = f ∧
      t.dev.nat (Key.contextHolder x) = 0xFF ∧ t.dev.out = s.dev.out ∧
      Only [.cvu] [Key.runningValue x, Key.contextByteCount x, Key.contextProfile x, Key.contextHolder x] s t := by
  have hex : exec (.contextRelease x) s = .next { s with dev := s.dev.contextRelease x } := rfl
  rw [contextRelease_eq s.dev x hw hc hk hi h] at hex
  refine ⟨_, hex, ?_⟩
  obtain ⟨hv, hn, hf, hh, hval, hkeep⟩ := contextSaved_leaves s.dev x v n f
  generalize contextSaved s.dev x v n f = u at hv hn hf hh hval hkeep
  have hsv : ∀ k, ((u.setWindow e i fun w => { w with work := none }).sweep e).val k = u.val k := fun k => rfl
  have hsk : Keeps 4194304 u ((u.setWindow e i fun w => { w with work := none }).sweep e) :=
    (Dev.setWindow_keeps0 u _ _ _).trans (Dev.sweep_keeps0 _ _)
  generalize (u.setWindow e i fun w => { w with work := none }).sweep e = y at hsv hsk
  have hkeeps : Keeps 4194308 s.dev y := (hkeep.mono (by decide)).trans (hsk.mono (by decide))
  exact ⟨(nat_of_val (hsv _)).trans hv, (nat_of_val (hsv _)).trans hn, (nat_of_val (hsv _)).trans hf, (nat_of_val (hsv _)).trans hh,
    hkeeps.get_out rfl, hkeeps.only (by decide) fun k hk => (hsv k).trans (hval k hk)⟩

theorem contextRelease_free (s : State) (x : Fin 160)
    (h : ∀ (b : Fin 16) (j : Nat) (y : CvuWindow), s.dev.window b j = some y → y.set.context = some x → y.work = none) :
    Completes (.contextRelease x) s fun t => t = s := by
  refine ⟨s, ?_, rfl⟩
  show State.onDev s _ = _
  rw [State.onDev, Dev.contextRelease, worker_none s.dev x h]

/-- An entry on a context: it waits while an engine holds the context, and else holds it (15 R416, R417). -/
theorem cvuEntry_context (s : State) (e : Fin 16) (i : Nat) (ident : Byte) (entry : Bytes) (last : Bool) (w : CvuWindow) (x : Fin 160)
    (hu : s.dev.engineUp e = true) (hw : s.dev.window e i = some w) (hd : w.disarm = false) (hc : w.set.context = some x) :
    (s.dev.nat (Key.contextHolder x) ≠ 0xFF → Completes (.cvuEntry e i ident entry last) s fun t =>
      t.dev.window e i = some { w with waits := w.waits ++ [(ident, entry, last)] } ∧ t.dev.out = s.dev.out ∧ Only [.cvu] [] s t) ∧
    (s.dev.nat (Key.contextHolder x) = 0xFF → w.waits = [] → (s.dev.profileOf w.set.profile).isSome = true →
      Completes (.cvuEntry e i ident entry last) s fun t =>
        t.dev.nat (Key.contextHolder x) = e ∧ (∃ v, t.dev.window e i = some { w with work := some v }) ∧ Within [.out, .obj, .cvu] s t) := by
  have hex : exec (.cvuEntry e i ident entry last) s = .next { s with dev := s.dev.cvuEntry e i ident entry last } := rfl
  refine ⟨fun hh => ?_, fun hh hq hf => ?_⟩
  · rw [cvuEntry_held s.dev e i ident entry last hu hw hd hc hh] at hex
    refine ⟨_, hex, ?_, rfl, (Dev.setWindow_keeps0 s.dev _ _ _).only_nil rfl (by decide)⟩
    rw [window_setWindow_same, hw]
    rfl
  · obtain ⟨f, hf⟩ := Option.isSome_iff_exists.1 hf
    rw [cvuEntry_free s.dev e i ident entry last hu hw hd hc hh hq hf] at hex
    have hck := cover_keepsOut s.dev e i w f ident entry last
    generalize (s.dev.cover e i w f ident entry last).2 = keep at hex
    generalize (s.dev.cover e i w f ident entry last).1 = v at hex hck
    obtain ⟨hholder, hwork⟩ := holdContext_leaves v e i keep ((window_of_cvu s.dev (hck.get_cvu rfl) e i).trans hw) hc
    exact ⟨_, hex, hholder, hwork, Keeps.within (M := 4194310) ((hck.mono (by decide)).trans ((Dev.holdContext_keeps0 v e i w keep).mono (by decide)))
      (by decide)⟩

/-! ### Contexts and profiles written (15 R410, R418) -/

/-- CONTEXT_WRITE: by the context's owner, while no engine holds it. -/
theorem contextWrite_answers (s : State) (tag : BitVec 5) (x : Fin 160) (value : BitVec 64) (hp : s.dev.powered = true) :
    let may : Prop := tagUsed s.dev tag = some (.core (contextOwner s.dev x)) ∧ s.dev.nat (Key.contextHolder x) = 0xFF
    (may → Completes (.contextWrite tag x value) s fun t =>
      t.dev.nat (Key.runningValue x) = value.toNat ∧ t.dev.out = s.dev.out ++ [.fabric tag.toNat .done] ∧ Only [.out] [Key.runningValue x] s t) ∧
    (¬ may → Completes (.contextWrite tag x value) s (UnitRefused tag s)) := by
  intro may
  refine ⟨fun hm => ?_, fun hm => ⟨_, ?_, refuseTransaction_unit s tag (r := .contextTable x) (addr := 0) rfl⟩⟩
  · have hex : exec (.contextWrite tag x value) s =
        .next { s with dev := (s.dev.putNat (Key.runningValue x) value.toNat).say (.fabric tag.toNat .done) } := by
      show execContextWrite tag x value s = _
      rw [execContextWrite, State.onDev, if_neg (by simp [hp]), if_neg (by simp [hm.1, hm.2])]
    refine ⟨_, hex, (nat_of_val rfl).trans (Dev.nat_putNat _ _ _), ?_, Keeps.only (M := 6) (((Dev.putNat_keeps0 s.dev _ _).mono (by decide)).trans
      ((Dev.say_keeps0 _ _).mono (by decide))) (by decide) fun k hk => (Dev.val_putNat_other _ _ (Ne.symm (by simpa using hk)))⟩
    show (s.dev.putNat _ _).out ++ _ = _
    rw [Dev.putNat_out]
  · show execContextWrite tag x value s = _
    rw [execContextWrite, State.onDev, if_neg (by simp [hp]), if_pos (by simpa only [may, not_and_or] using hm)]

/-- Objects of one index differ by their subindex. -/
theorem ob_ne {i a b : Nat} (h : a ≠ b) : ob i a ≠ ob i b := by
  simp only [ob]
  omega

/-- The objects of a profile that is written, with its check over "123456789". -/
def profileKeys (f : Nat) : List Nat :=
  [Key.profileWidth f, Key.polynomial f, Key.profileInit f, Key.reflected f, Key.finalXor f, Key.checkValue f]

/-- A profile written (15 R410). -/
def profileWritten (d : Dev) (f width poly ini xorOut : Nat) (refl : Bool) (check : Nat) : Dev :=
  (((((d.putNat (Key.profileWidth f) width).putNat (Key.polynomial f) poly).putNat (Key.profileInit f) ini).putFlag (Key.reflected f) refl).putNat
    (Key.finalXor f) xorOut).putNat (Key.checkValue f) check

theorem profileWritten_leaves (d : Dev) (f width poly ini xorOut : Nat) (refl : Bool) (check : Nat) :
    let u := profileWritten d f width poly ini xorOut refl check
    u.nat (Key.profileWidth f) = width ∧ u.nat (Key.polynomial f) = poly ∧ u.nat (Key.profileInit f) = ini ∧ u.flag (Key.reflected f) = refl ∧
      u.nat (Key.finalXor f) = xorOut ∧ u.nat (Key.checkValue f) = check ∧ (∀ k, k ∉ profileKeys f → u.val k = d.val k) ∧ Keeps 4 d u := by
  intro u
  refine ⟨?_, ?_, ?_, ?_, ?_, Dev.nat_putNat _ _ _, fun k hk => ?_, ?_⟩
  · refine (Dev.nat_putNat_other _ _ (ob_ne (by decide))).trans ?_
    refine (Dev.nat_putNat_other _ _ (ob_ne (by decide))).trans ?_
    refine (Dev.nat_putFlag_other _ _ (ob_ne (by decide))).trans ?_
    refine (Dev.nat_putNat_other _ _ (ob_ne (by decide))).trans ?_
    exact (Dev.nat_putNat_other _ _ (ob_ne (by decide))).trans (Dev.nat_putNat _ _ _)
  · refine (Dev.nat_putNat_other _ _ (ob_ne (by decide))).trans ?_
    refine (Dev.nat_putNat_other _ _ (ob_ne (by decide))).trans ?_
    refine (Dev.nat_putFlag_other _ _ (ob_ne (by decide))).trans ?_
    exact (Dev.nat_putNat_other _ _ (ob_ne (by decide))).trans (Dev.nat_putNat _ _ _)
  · refine (Dev.nat_putNat_other _ _ (ob_ne (by decide))).trans ?_
    refine (Dev.nat_putNat_other _ _ (ob_ne (by decide))).trans ?_
    exact (Dev.nat_putFlag_other _ _ (ob_ne (by decide))).trans (Dev.nat_putNat _ _ _)
  · refine (Dev.flag_putNat_other _ _ (ob_ne (by decide))).trans ?_
    exact (Dev.flag_putNat_other _ _ (ob_ne (by decide))).trans (Dev.flag_putFlag _ _ _)
  · exact (Dev.nat_putNat_other _ _ (ob_ne (by decide))).trans (Dev.nat_putNat _ _ _)
  · simp only [profileKeys, List.mem_cons, List.not_mem_nil, or_false, not_or] at hk
    obtain ⟨h1, h2, h3, h4, h5, h6⟩ := hk
    show (profileWritten ..).val k = _
    rw [profileWritten, Dev.val_putNat_other _ _ (Ne.symm h6), Dev.val_putNat_other _ _ (Ne.symm h5), Dev.val_putFlag_other _ _ (Ne.symm h4),
      Dev.val_putNat_other _ _ (Ne.symm h3), Dev.val_putNat_other _ _ (Ne.symm h2), Dev.val_putNat_other _ _ (Ne.symm h1)]
  · exact (((((Dev.putNat_keeps0 d _ _).trans (Dev.putNat_keeps0 _ _ _)).trans (Dev.putNat_keeps0 _ _ _)).trans (Dev.putFlag_keeps0 _ _ _)).trans
      (Dev.putNat_keeps0 _ _ _)).trans (Dev.putNat_keeps0 _ _ _)

/-- PROFILE_WRITE: a programmable profile, by a core, with values it may have. -/
theorem profileWrite_answers (s : State) (tag : BitVec 5) (f : Fin 16) (width : Nat) (poly ini xorOut : BitVec 64) (refl : Bool)
    (hp : s.dev.powered = true) :
    let may : Prop := (∃ c, tagUsed s.dev tag = some (.core c)) ∧ 8 ≤ f.val ∧ width ∈ [8, 16, 32, 64] ∧ poly.toNat % 2 = 1 ∧
      poly.toNat < 2 ^ width ∧ ini.toNat < 2 ^ width ∧ xorOut.toNat < 2 ^ width
    (may → exec (.profileWrite tag f width poly ini xorOut refl) s = .next { s with
      dev := (profileWritten s.dev f width poly.toNat ini.toNat xorOut.toNat refl
        (crc width poly.toNat ini.toNat refl xorOut.toNat [0x31, 0x32, 0x33, 0x34, 0x35, 0x36, 0x37, 0x38, 0x39])).say (.fabric tag.toNat .done) }) ∧
    (¬ may → exec (.profileWrite tag f width poly ini xorOut refl) s =
      .next { s with dev := refuseTransaction s.dev tag.toNat (.cvuEngine 13) 0 }) := by
  intro may
  refine ⟨fun hm => ?_, fun hm => ?_⟩
  · obtain ⟨⟨c, hc⟩, h8, hw, hodd, h1, h2, h3⟩ := hm
    show execProfileWrite tag f width poly ini xorOut refl s = _
    rw [execProfileWrite, State.onDev, if_neg (by simp [hp]), hc]
    dsimp only
    rw [if_neg]
    · rfl
    · simp only [List.mem_cons, List.not_mem_nil, or_false] at hw
      simp only [Bool.not_true, Bool.false_eq_true, false_or]
      omega
  · show execProfileWrite tag f width poly ini xorOut refl s = _
    rw [execProfileWrite, State.onDev, if_neg (by simp [hp])]
    dsimp only
    cases ht : tagUsed s.dev tag with
    | none =>
      rw [if_pos]
      exact .inl rfl
    | some i => cases i with
      | core c =>
        rw [if_pos]
        refine .inr ?_
        by_contra hcon
        simp only [not_or, not_lt, not_le] at hcon
        obtain ⟨h8, hw, hodd, h1, h2, h3⟩ := hcon
        exact hm ⟨⟨c, ht⟩, h8, by simp only [List.mem_cons, List.not_mem_nil, or_false]; omega, by omega, h1, h2, h3⟩
      | _ =>
        rw [if_pos]
        exact .inl rfl

/-! ### Counters (15 R421) -/

/-- The counters of an engine cleared. -/
def engineCleared (d : Dev) (e : Nat) : Dev :=
  ((d.putNat (Key.mismatchCount e) 0).putNat (Key.shortCount e) 0).putNat (Key.abandonedCount e) 0

/-- The counters of an engine. -/
def engineCounts (e : Nat) : List Nat := [Key.mismatchCount e, Key.shortCount e, Key.abandonedCount e]

theorem engineCleared_val (d : Dev) (e : Nat) {k : Nat} (h : k ∉ engineCounts e) : (engineCleared d e).val k = d.val k := by
  simp only [engineCounts, List.mem_cons, List.not_mem_nil, or_false, not_or] at h
  rw [engineCleared, Dev.val_putNat_other _ _ (Ne.symm h.2.2), Dev.val_putNat_other _ _ (Ne.symm h.2.1), Dev.val_putNat_other _ _ (Ne.symm h.1)]

theorem engineCleared_zero (d : Dev) (e : Nat) {k : Nat} (h : k ∈ engineCounts e) : (engineCleared d e).nat k = 0 := by
  simp only [engineCounts, List.mem_cons, List.not_mem_nil, or_false] at h
  rcases h with rfl | rfl | rfl
  · exact (Dev.nat_putNat_other _ _ (ob_ne (by decide))).trans ((Dev.nat_putNat_other _ _ (ob_ne (by decide))).trans (Dev.nat_putNat _ _ _))
  · exact (Dev.nat_putNat_other _ _ (ob_ne (by decide))).trans (Dev.nat_putNat _ _ _)
  · exact Dev.nat_putNat _ _ _

/-- A fold over steps that each clear some counters and leave every other object leaves every counter 0. -/
theorem foldl_cleared {g : Dev → Nat → Dev} {counts : Nat → List Nat} (hz : ∀ d e k, k ∈ counts e → (g d e).nat k = 0)
    (ho : ∀ d e k, k ∉ counts e → (g d e).val k = d.val k) (l : List Nat) (d : Dev) (k : Nat) :
    (k ∈ l.flatMap counts → (l.foldl g d).nat k = 0) ∧ (k ∉ l.flatMap counts → (l.foldl g d).val k = d.val k) := by
  induction l using List.reverseRecOn with
  | nil => exact ⟨fun h => absurd h (by simp), fun _ => rfl⟩
  | append_singleton l e ih =>
    rw [List.foldl_append, List.foldl_cons, List.foldl_nil]
    by_cases he : k ∈ counts e
    · exact ⟨fun _ => hz _ _ _ he, fun h => absurd he (by simp at h; exact h.2)⟩
    · refine ⟨fun h => ?_, fun h => (ho _ _ _ he).trans (ih.2 (by simp at h; simpa using h.1))⟩
      rw [nat_of_val (ho _ _ _ he)]
      exact ih.1 (by simpa [he] using h)

/-- Every counter of the engines and of the contexts cleared. -/
def countersCleared (d : Dev) : Dev :=
  (List.range 160).foldl (fun (d : Dev) x => d.putNat (Key.contextMismatchCount x) 0) ((List.range 16).foldl engineCleared d)

/-- The counters of every engine, and of every context. -/
def unitCounts : List Nat := (List.range 16).flatMap engineCounts
def contextCounts : List Nat := (List.range 160).flatMap fun x => [Key.contextMismatchCount x]

theorem countersCleared_leaves (d : Dev) :
    (∀ k ∈ unitCounts, (countersCleared d).nat k = 0) ∧ (∀ k ∈ contextCounts, (countersCleared d).nat k = 0) ∧
      (∀ k, k ∉ unitCounts ++ contextCounts → (countersCleared d).val k = d.val k) ∧ Keeps 4 d (countersCleared d) := by
  have hunit := fun k => foldl_cleared (counts := engineCounts) (fun d e k h => engineCleared_zero d e h) (fun d e k h => engineCleared_val d e h)
    (List.range 16) d k
  have hkeep : Keeps 4 d ((List.range 16).foldl engineCleared d) := Keeps.foldl _ (.refl _ _) fun v e hv =>
    hv.trans (((Dev.putNat_keeps0 v _ _).trans (Dev.putNat_keeps0 _ _ _)).trans (Dev.putNat_keeps0 _ _ _))
  unfold countersCleared
  generalize (List.range 16).foldl engineCleared d = u at hunit hkeep
  have hctx := fun k => foldl_cleared (g := fun d x => d.putNat (Key.contextMismatchCount x) 0) (counts := fun x => [Key.contextMismatchCount x])
    (fun d e k h => by rw [List.mem_singleton.1 h]; exact Dev.nat_putNat _ _ _)
    (fun d e k h => Dev.val_putNat_other _ _ (Ne.symm (by simpa using h))) (List.range 160) u k
  refine ⟨fun k hk => ?_, fun k hk => (hctx k).1 hk, fun k hk => ?_, Keeps.foldl _ hkeep fun v x hv => hv.trans (Dev.putNat_keeps0 _ _ _)⟩
  · by_cases hc : k ∈ contextCounts
    · exact (hctx k).1 hc
    · rw [nat_of_val ((hctx k).2 hc)]
      exact (hunit k).1 hk
  · rw [List.mem_append, not_or] at hk
    rw [(hctx k).2 hk.2, (hunit k).2 hk.1]

/-- CVU_CLEAR_COUNTERS (15 R421). -/
theorem cvuClearCounters_leaves (s : State) (m : HostMsg) (data : Bytes) (h : s.dev.grants m = true) (ht : takes Key.cvuClearCounters data = true) :
    Completes (.cvuClearCounters m data) s fun t =>
      (∀ e : Fin 16, t.dev.nat (Key.mismatchCount e) = 0 ∧ t.dev.nat (Key.shortCount e) = 0 ∧ t.dev.nat (Key.abandonedCount e) = 0) ∧
      (∀ x : Fin 160, t.dev.nat (Key.contextMismatchCount x) = 0) ∧ Replied s t m (.done Key.cvuClearCounters) ∧ OnlySlot m.slot s t ∧
      Within [.out, .obj, .hosts] s t := by
  have hex : exec (.cvuClearCounters m data) s =
      .next { s with dev := (countersCleared (s.dev.admitted m)).ok ((s.dev.admitted m).ackOf m Key.cvuClearCounters) } := by
    show State.onDev s _ = _
    rw [State.onDev, cmdWrite_granted h ht]
    rfl
  obtain ⟨hunit, hctx, hval, hkeep⟩ := countersCleared_leaves (s.dev.admitted m)
  have hserved := served_ok (M := 4) (parts := []) (keys := unitCounts ++ contextCounts) Key.cvuClearCounters (grants_iff.1 h).1 hkeep (by decide)
    (by decide) hval (by decide)
  obtain ⟨hreplied, ⟨hpend, hmem, hseen, hparts, -⟩, hslot⟩ := hserved
  have hok : ∀ k, ((countersCleared (s.dev.admitted m)).ok ((s.dev.admitted m).ackOf m Key.cvuClearCounters)).val k =
      (countersCleared (s.dev.admitted m)).val k := fun k => Dev.val_answer ..
  have hcount : ∀ (e : Fin 16) (k : Nat), k ∈ engineCounts e → k ∈ unitCounts := fun e k hk =>
    List.mem_flatMap.2 ⟨e.val, List.mem_range.2 e.isLt, hk⟩
  refine ⟨_, hex, fun e => ⟨?_, ?_, ?_⟩, fun x => ?_, hreplied, hslot, hpend, hmem, hseen, fun y hy => ?_⟩
  · exact (nat_of_val (hok _)).trans (hunit _ (hcount e _ (by simp [engineCounts])))
  · exact (nat_of_val (hok _)).trans (hunit _ (hcount e _ (by simp [engineCounts])))
  · exact (nat_of_val (hok _)).trans (hunit _ (hcount e _ (by simp [engineCounts])))
  · exact (nat_of_val (hok _)).trans (hctx _ (List.mem_flatMap.2 ⟨x.val, List.mem_range.2 x.isLt, List.mem_singleton_self _⟩))
  · exact hparts y (fun he => hy (by simp [he])) fun hm => hy (by simp only [List.mem_cons, List.not_mem_nil, or_false] at hm ⊢; tauto)

/-- Settles O54: windows, entries, contexts and profiles of the check-value units. -/
theorem checkValueUnitsCheckEntries : Obligations.CheckValueUnitsCheckEntries := by
  unfold Obligations.CheckValueUnitsCheckEntries
  intro refused free
  refine ⟨fun s tag e w hp => ?_, fun s tag e i w hp hw ha => ?_, fun s tag e i hp hw => ?_, fun s e i ident entry last w f hu hw hd hc hf hl => ?_,
    cvuEntry_context, fun s x e i v n f w hw hc hk hi _ h => ?_, fun s x h => ?_, contextWrite_answers, fun s tag f width poly ini xorOut refl hp => ?_,
    cvuClearCounters_leaves⟩
  · refine ⟨fun ⟨i, ht, ho⟩ hf hl => ⟨_, windowArm_may s tag e w hp ht ho hf hl, rfl, rfl, ?_⟩,
      fun h => ⟨_, windowArm_refused s tag e w hp h, refuseTransaction_unit s tag (r := .cvuEngine e) (addr := 0) rfl⟩⟩
    exact Keeps.only_nil (M := 4194306) ((keeps_cvu (L := 4194306) _ (by decide) (.refl _ _)).trans ((Dev.say_keeps0 _ _).mono (by decide))) rfl
      (by decide)
  · exact ⟨fun ⟨j, ht, ho⟩ => ⟨_, windowDisarm_may s tag e i hp hw ht ho, windowDisarm_leaves s tag e i w hw ha⟩,
      fun h => ⟨_, windowDisarm_refused s tag e i hp (.inl h), refuseTransaction_unit s tag (r := .cvuEngine e) (addr := 0) rfl⟩⟩
  · exact ⟨_, windowDisarm_refused s tag e i hp (.inr hw), refuseTransaction_unit s tag (r := .cvuEngine e) (addr := 0) rfl⟩
  · intro ini
    have hex : exec (.cvuEntry e i ident entry last) s = .next { s with dev := s.dev.cvuEntry e i ident entry last } := rfl
    rw [cvuEntry_plain s.dev e i ident entry last hu hw hd hf hc] at hex
    cases hs : splitEntry w.set (f.width / 8) true entry with
    | none =>
      rw [cover_short s.dev e i ident hc hl hs] at hex
      exact ⟨_, hex, cvuEntry_short s e i entry⟩
    | some r =>
      obtain ⟨covered, field⟩ := r
      rw [cover_whole s.dev e i ident hc hl hs] at hex
      exact ⟨_, hex, cvuEntry_whole s e i w.set f entry covered field _⟩
  · refine contextRelease_leaves s x e i v n f w hw hc hk hi fun b j y hy hyc => ?_
    have hj : j < (s.dev.cvu.engines[b]).length := (List.getElem?_eq_some_iff.1 hy).1
    exact h b j hj y (by simp [hy]) hyc
  · exact contextRelease_free s x fun b j y hy hyc => (h b y (List.mem_of_getElem? hy) hyc).1
  · obtain ⟨hmay, hno⟩ := profileWrite_answers s tag f width poly ini xorOut refl hp
    refine ⟨fun hm => ⟨_, hmay hm, ?_⟩, fun hm => ⟨_, hno hm, refuseTransaction_unit s tag (r := .cvuEngine 13) (addr := 0) rfl⟩⟩
    obtain ⟨h1, h2, h3, h4, h5, h6, hval, hkeep⟩ := profileWritten_leaves s.dev f width poly.toNat ini.toNat xorOut.toNat refl
      (crc width poly.toNat ini.toNat refl xorOut.toNat [0x31, 0x32, 0x33, 0x34, 0x35, 0x36, 0x37, 0x38, 0x39])
    generalize crc width poly.toNat ini.toNat refl xorOut.toNat [0x31, 0x32, 0x33, 0x34, 0x35, 0x36, 0x37, 0x38, 0x39] = check at *
    generalize profileWritten s.dev f width poly.toNat ini.toNat xorOut.toNat refl check = u at *
    exact ⟨h1, h2, h3, h4, h5, h6, congrArg (· ++ _) (hkeep.get_out rfl), Keeps.only (M := 6) ((hkeep.mono (by decide)).trans
      ((Dev.say_keeps0 _ _).mono (by decide))) (by decide) fun k hk => hval k hk⟩

end Sys2Proof.Machine
end

section
/-! PROOFS. Ring commits, their read-back, late commits, the magnetic alarm (09 R231 to R234, R242, R246). -/

namespace Sys2Proof.Machine

/-! ### Checks (09 R242) -/

/-- A check takes one more reading: it toggles after `n` consecutive ones that ask for it. -/
theorem checkNext (c : CheckRun) (bad : Bool) (dev : Int) (n : Nat) :
    ((c.next bad dev n).2 = true ↔ bad ≠ c.latched ∧ n ≤ c.run + 1) ∧
    (c.next bad dev n).1.latched = (if (c.next bad dev n).2 then bad else c.latched) ∧
    (bad = c.latched → (c.next bad dev n).1.run = 0) := by
  unfold CheckRun.next
  by_cases hb : bad = c.latched
  · simp [hb]
  · by_cases hn : n ≤ c.run + 1
    · simp [hb, hn]
    · simp [hb, hn]

theorem checkNext_toggles {c : CheckRun} {bad : Bool} (dev : Int) {n : Nat} (hb : bad ≠ c.latched) (hn : n ≤ c.run + 1) :
    ∃ x, c.next bad dev n = (x, true) ∧ x.latched = bad := by
  unfold CheckRun.next
  rw [if_neg hb, if_pos hn]
  exact ⟨_, rfl, rfl⟩

theorem checkNext_stays {c : CheckRun} {bad : Bool} (dev : Int) (n : Nat) (hb : bad = c.latched) :
    ∃ x, c.next bad dev n = (x, false) ∧ x.latched = c.latched ∧ x.run = 0 := by
  unfold CheckRun.next
  rw [if_pos hb]
  exact ⟨_, rfl, rfl, rfl⟩

section
variable (d : Dev) (get : Energy → CheckRun) (put : Energy → CheckRun → Energy) (key : Nat)

/-- The run of a check kept, and its latch shown. -/
def checkKept (c : CheckRun) (toggled : Bool) : Dev :=
  (d.setEnergy fun e => put e (if toggled ∧ !c.latched then { c with dev := 0 } else c)).putFlag key c.latched

theorem runCheck_eq (bad : Bool) (dev : Int) (n check entity : Nat) (source : Option Nat) {c : CheckRun} {toggled : Bool}
    (h : (get d.energy).next bad dev n = (c, toggled)) :
    d.runCheck get put key bad dev n check entity source =
      if toggled then (checkKept d put key c toggled).checkToggled c.latched check entity source c.dev else checkKept d put key c toggled := by
  unfold Dev.runCheck
  rw [h]
  rfl

theorem checkKept_leaves (c : CheckRun) (toggled : Bool) :
    (checkKept d put key c toggled).energy = put d.energy (if toggled ∧ !c.latched then { c with dev := 0 } else c) ∧
      (checkKept d put key c toggled).flag key = c.latched ∧ (∀ k, k ≠ key → (checkKept d put key c toggled).val k = d.val k) ∧
      Keeps 524292 d (checkKept d put key c toggled) :=
  ⟨(Dev.putFlag_energy ..).trans rfl, Dev.flag_putFlag _ _ _, fun _ hk => (Dev.val_putFlag_other _ _ (Ne.symm hk)).trans rfl,
    ((Dev.setEnergy_keeps0 d _).mono (by decide)).trans ((Dev.putFlag_keeps0 _ _ _).mono (by decide))⟩

end

/-! ### What the checks report (16 R443) -/

theorem reportChecks_calm (d : Dev) (hr : d.burl.reports = []) (ha : d.nat Key.alarmNow = 0) : d.reportChecks = d := by
  have hin : ∀ k, d.inAlarm k = false := fun k => by rw [Dev.inAlarm, ha, Nat.zero_testBit]
  have hset : d.setBurl (fun b => { b with reports := [] }) = d := by
    unfold Dev.setBurl
    rw [← hr]
  unfold Dev.reportChecks
  dsimp only
  rw [hr, hset, List.foldl_nil]
  simp only [List.foldl_cons, List.foldl_nil, hin, Bool.false_and, Bool.false_eq_true, if_false]

/-! ### Rings (09 R231, R232) -/

/-- The slot of the next ring. -/
def nextSlot (d : Dev) : Fin 32 := ⟨(d.energy.number + 1) % 32, Nat.mod_lt _ (by decide)⟩

/-- The contents under the next CommitNumber. -/
def numbered (d : Dev) (r : Ring) : Ring := { r with number := d.energy.number + 1 }

/-- The energy side with the ring in the next slot. -/
def slotted (d : Dev) (ring : Ring) (ok : Bool) : Energy :=
  { d.energy with
    number := d.energy.number + 1, slots := d.energy.slots.set (nextSlot d) (some (ok, numbered d ring))
    newest := if ok then some (numbered d ring) else d.energy.newest }

theorem writeRing_eq (d : Dev) (ring : Ring) (ok : Bool) : d.writeRing ring ok = (numbered d ring, d.setEnergy fun _ => slotted d ring ok) := rfl

/-- A ring written leaves every other slot. -/
theorem writeRing_other (d : Dev) (ring : Ring) (ok : Bool) (k : Fin 32) (h : k.val ≠ (d.energy.number + 1) % 32) :
    (d.writeRing ring ok).2.energy.slots[k] = d.energy.slots[k] := by
  rw [writeRing_eq]
  show (d.energy.slots.set (nextSlot d) _)[k.val] = d.energy.slots[k.val]
  exact Vector.getElem_set_ne _ _ fun he => h he.symm

theorem ringCommit_eq (d : Dev) {c : CommitRun} (ok : Bool) (us : Nat) (hc : d.energy.commit = some c) (hu : d.heartwoodUp = true)
    (hl : d.energy.lost = false) :
    d.ringCommit ok us = if ok then (d.setEnergy fun _ => slotted d c.ring ok).commitDone c (numbered d c.ring) us
      else (d.setEnergy fun _ => slotted d c.ring ok).commitFailed (numbered d c.ring) := by
  unfold Dev.ringCommit
  rw [hc]
  dsimp only
  rw [if_neg (by simp [hu, hl]), writeRing_eq]

/-- The event of a read-back that failed. -/
def readBackLogged (d : Dev) (r : Ring) : Dev :=
  (d.bump Key.readBackFailCount).legal 0x0203 0xFF (leBytes 1 (r.number % 32) ++ leBytes 8 r.number)

theorem readBackLogged_leaves (d : Dev) (r : Ring) (hm : d.rail .vddMem = true) :
    (∃ e : LegalEntry, (readBackLogged d r).heart = { d.heart with log := e :: d.heart.log.take 32767 } ∧ e.code = 0x0203) ∧
      (∀ k, k ≠ Key.readBackFailCount → (readBackLogged d r).val k = d.val k) ∧ Keeps 8196 d (readBackLogged d r) := by
  have hkeep := Dev.bump_keeps0 d Key.readBackFailCount 1
  have hval : ∀ k, k ≠ Key.readBackFailCount → (d.bump Key.readBackFailCount).val k = d.val k := fun k hk => Dev.val_bump_other _ _ (Ne.symm hk)
  have heq : readBackLogged d r = (d.bump Key.readBackFailCount).legal 0x0203 0xFF (leBytes 1 (r.number % 32) ++ leBytes 8 r.number) := rfl
  rw [heq]
  generalize d.bump Key.readBackFailCount = w at hkeep hval
  obtain ⟨e, -, hcode, -, -, -, hheart⟩ := Dev.legal_heart w 0x0203 0xFF (leBytes 1 (r.number % 32) ++ leBytes 8 r.number)
    (by rw [Dev.rail, hkeep.get_power rfl]; exact hm)
  rw [hkeep.get_heart rfl] at hheart
  exact ⟨⟨e, hheart, hcode⟩, fun k hk => (Dev.legal_val ..).trans (hval k hk),
    (hkeep.mono (by decide)).trans ((Dev.legal_keeps0 w _ _ _).mono (by decide))⟩

theorem commitFailed_eq (d : Dev) (r : Ring) (hf : d.energy.fails < 3) :
    d.commitFailed r = (readBackLogged d r).setEnergy fun n => { n with fails := n.fails + 1 } := by
  have henergy : (readBackLogged d r).energy = d.energy := (Dev.legal_energy ..).trans (Dev.bump_energy ..)
  have hne : ¬ ((readBackLogged d r).setEnergy fun n => { n with fails := n.fails + 1 }).energy.fails = 4 := by
    show ¬ (readBackLogged d r).energy.fails + 1 = 4
    rw [henergy]
    omega
  unfold Dev.commitFailed
  dsimp only
  exact if_neg hne

/-- RING_COMMIT read back wrong: the contents stay for the next slot, and the failure is logged (09 R232). -/
theorem ringCommit_fails (s : State) (c : CommitRun) (us : Nat) (hs : s.dev.power.state = .inService) (hu : s.dev.heartwoodUp = true)
    (hl : s.dev.energy.lost = false) (hr : s.dev.burl.reports = []) (ha : s.dev.nat Key.alarmNow = 0) (hc : s.dev.energy.commit = some c)
    (hf : s.dev.energy.fails < 3) (hm : s.dev.rail .vddMem = true) :
    Completes (.ringCommit false us) s fun t =>
      t.dev.energy = { s.dev.energy with
        number := s.dev.energy.number + 1, fails := s.dev.energy.fails + 1
        slots := s.dev.energy.slots.set (nextSlot s.dev) (some (false, numbered s.dev c.ring)) } ∧
      (∃ e : LegalEntry, t.dev.heart = { s.dev.heart with log := e :: s.dev.heart.log.take 32767 } ∧ e.code = 0x0203) ∧
      Only [.heart, .energy] [Key.readBackFailCount] s t := by
  have hex : exec (.ringCommit false us) s = .next { s with dev := (s.dev.ringCommit false us).reportChecks } := by
    show State.onDev s _ = _
    rw [State.onDev, Dev.ringCommitEvent, if_neg (by rw [hs]; simp)]
  have hrc : s.dev.ringCommit false us = (s.dev.setEnergy fun _ => slotted s.dev c.ring false).commitFailed (numbered s.dev c.ring) :=
    ringCommit_eq s.dev false us hc hu hl
  have hwe : (s.dev.setEnergy fun _ => slotted s.dev c.ring false).energy = slotted s.dev c.ring false := rfl
  have hwk := Dev.setEnergy_keeps0 s.dev fun _ => slotted s.dev c.ring false
  have hwv : ∀ k, (s.dev.setEnergy fun _ => slotted s.dev c.ring false).val k = s.dev.val k := fun k => rfl
  rw [hrc] at hex
  generalize (s.dev.setEnergy fun _ => slotted s.dev c.ring false) = w at hwe hwk hwv hex
  rw [commitFailed_eq w _ (by rw [hwe]; exact hf)] at hex
  obtain ⟨⟨e, hheart, hcode⟩, hval, hkeep⟩ := readBackLogged_leaves w (numbered s.dev c.ring) (by rw [Dev.rail, hwk.get_power rfl]; exact hm)
  rw [hwk.get_heart rfl] at hheart
  generalize readBackLogged w (numbered s.dev c.ring) = v at hheart hval hkeep hex
  have hvk : Keeps 532484 s.dev v := (hwk.mono (by decide)).trans (hkeep.mono (by decide))
  have hue : (v.setEnergy fun n => { n with fails := n.fails + 1 }).energy = { slotted s.dev c.ring false with fails := s.dev.energy.fails + 1 } := by
    show ({ v.energy with fails := v.energy.fails + 1 } : Energy) = _
    rw [hkeep.get_energy rfl, hwe]
    rfl
  have huk : Keeps 532484 s.dev (v.setEnergy fun n => { n with fails := n.fails + 1 }) := hvk.trans ((Dev.setEnergy_keeps0 v _).mono (by decide))
  have huh : (v.setEnergy fun n => { n with fails := n.fails + 1 }).heart = v.heart := rfl
  have huv : ∀ k, (v.setEnergy fun n => { n with fails := n.fails + 1 }).val k = v.val k := fun k => rfl
  generalize (v.setEnergy fun n => { n with fails := n.fails + 1 }) = u at hue huk huh huv hex
  have hother : ∀ k, k ≠ Key.readBackFailCount → u.val k = s.dev.val k := fun k hk => by rw [huv, hval k hk, hwv]
  rw [reportChecks_calm u (by rw [huk.get_burl rfl]; exact hr) ((nat_of_val (hother _ (by decide))).trans ha)] at hex
  exact ⟨_, hex, hue, ⟨e, huh.trans hheart, hcode⟩, huk.only (by decide) fun k hk => hother k (by simpa using hk)⟩

/-! ### A ring of site periods, read back right -/

/-- The commit's duration and lateness noted, the commit over, its legal objects shown. -/
def commitNoted (d : Dev) (c : CommitRun) (r : Ring) (us : Nat) : Dev :=
  let d := d.putNat Key.lastCommitDuration (min us 0xFFFF)
  let d := if r.flags.testBit 0 then d.bump Key.lateCommitCount else d
  (d.setEnergy fun n => { n with fails := 0, commit := none }).showLegal c.legal

/-- A test count that waits for its first commit begins with this ring (12 R325). -/
def testCounted (d : Dev) (r : Ring) : Dev :=
  match d.heart.inspection with
  | some i => match i.testCount with
    | some (p, none) =>
      { d with heart := { d.heart with inspection := some { i with testCount := some (p, some (readout (r.ents[portEntity p]).imp, r.time)) } } }
    | _ => d
  | none => d

theorem testCounted_keeps (d : Dev) (r : Ring) : Keeps 8192 d (testCounted d r) := by
  unfold testCounted
  split
  · split
    · exact keeps_heart (L := 8192) _ (by decide) (.refl _ _)
    · exact .refl _ _
  · exact .refl _ _

theorem foldl_id {α : Type} {g : Dev → α → Dev} {l : List α} (h : ∀ d, ∀ x ∈ l, g d x = d) (d : Dev) : l.foldl g d = d := by
  induction l generalizing d with
  | nil => rfl
  | cons x r ih =>
    rw [List.foldl_cons, h d x List.mem_cons_self]
    exact ih (fun d y hy => h d y (List.mem_cons_of_mem _ hy)) d

theorem periodValues_site (d : Dev) {c : Closed} (h : c.e = 8) : d.periodValues c = d := by
  unfold Dev.periodValues
  rw [h]
  rfl

theorem ports_of_site {l : List Closed} (h : ∀ x ∈ l, x.e = 8) : (l.filterMap fun x => entityPort x.e) = [] :=
  List.filterMap_eq_nil_iff.2 fun x hx => by rw [h x hx]; rfl

/-- What a committed ring of site periods sets off, with no session that closes. -/
theorem commitDone_site (d : Dev) (c : CommitRun) (r : Ring) (us : Nat) (hf : d.energy.fails = 0) (hc : c.closes = [])
    (he : ∀ x ∈ c.entries, x.e = 8) :
    d.commitDone c r us = ((testCounted (c.entries.foldl Dev.periodChecks (commitNoted d c r us)) r).writeItems.wantCommit).settle := by
  have hfails : ¬ 4 ≤ (if r.flags.testBit 0 then (d.putNat Key.lastCommitDuration (min us 0xFFFF)).bump Key.lateCommitCount
      else d.putNat Key.lastCommitDuration (min us 0xFFFF)).energy.fails := by
    split
    · rw [Dev.bump_energy, Dev.putNat_energy, hf]; decide
    · rw [Dev.putNat_energy, hf]; decide
  unfold Dev.commitDone
  dsimp only
  rw [if_neg (by simpa using hfails), foldl_id (l := c.entries) (g := Dev.periodValues) (fun d x hx => periodValues_site d (he x hx)),
    ports_of_site he, hc]
  simp only [List.filterMap_nil, List.eraseDups_nil, List.foldl_nil]
  rw [foldl_id (l := Dev.allPorts) (g := fun d _ => d) fun _ _ _ => rfl]
  rfl

theorem checkToggled_released (d : Dev) (check entity : Nat) (source : Option Nat) (dev : Int) :
    d.checkToggled false check entity source dev = d.legal 0x0305 entity (leBytes 1 check ++ leBytes 4 (ofSigned 32 dev)) := by
  cases source <;> rfl

/-- What the check of a good site period changes: its run, its objects, the logbook. -/
structure SiteChecked (d e : Dev) : Prop where
  energy : ∃ x, e.energy = { d.energy with missing := x }
  vals : ∀ k, k ∉ [Key.zeroSequenceVoltage, Key.missingNeutralLatched] → e.val k = d.val k
  keeps : Keeps 532484 d e

theorem SiteChecked.refl (d : Dev) : SiteChecked d d := ⟨⟨d.energy.missing, rfl⟩, fun _ _ => rfl, .refl _ _⟩

theorem SiteChecked.trans {d e g : Dev} (h : SiteChecked d e) (i : SiteChecked e g) : SiteChecked d g := by
  obtain ⟨x, hx⟩ := h.energy
  obtain ⟨y, hy⟩ := i.energy
  exact ⟨⟨y, by rw [hy, hx]⟩, fun k hk => (i.vals k hk).trans (h.vals k hk), h.keeps.trans i.keeps⟩

/-- The check for a missing neutral on a good period. -/
theorem missingChecked (d : Dev) (dev : Int) :
    SiteChecked d (d.runCheck (·.missing) (fun e x => { e with missing := x }) Key.missingNeutralLatched false dev 50 2 8 (some 0x0B)) := by
  have hkept : ∀ (c : CheckRun) (t : Bool), SiteChecked d (checkKept d (fun e x => { e with missing := x }) Key.missingNeutralLatched c t) := fun c t => by
    obtain ⟨henergy, -, hval, hkeep⟩ := checkKept_leaves d (fun e x => { e with missing := x }) Key.missingNeutralLatched c t
    exact ⟨⟨_, henergy⟩, fun k hk => hval k (by simp only [List.mem_cons, not_or] at hk; exact hk.2.1), hkeep.mono (by decide)⟩
  obtain ⟨c, toggled, hnext⟩ : ∃ c toggled, d.energy.missing.next false dev 50 = (c, toggled) := ⟨_, _, rfl⟩
  have hlatch := (checkNext d.energy.missing false dev 50).2.1
  rw [hnext] at hlatch
  rw [runCheck_eq d (·.missing) (fun e x => { e with missing := x }) Key.missingNeutralLatched false dev 50 2 8 (some 0x0B) hnext]
  have h := hkept c toggled
  cases toggled with
  | false => exact h
  | true =>
    have hoff : c.latched = false := by simpa using hlatch
    simp only [if_true]
    rw [hoff, checkToggled_released]
    generalize checkKept d (fun e x => { e with missing := x }) Key.missingNeutralLatched c true = w at h
    exact h.trans ⟨⟨w.energy.missing, Dev.legal_energy ..⟩, fun k _ => Dev.legal_val .., (Dev.legal_keeps0 w _ _ _).mono (by decide)⟩

theorem periodChecks_site (d : Dev) {c : Closed} (h : c.e = 8) (hb : c.checks[0].1 = false) : SiteChecked d (d.periodChecks c) := by
  have heq : d.periodChecks c = (d.putNat Key.zeroSequenceVoltage c.rms).runCheck (·.missing) (fun e x => { e with missing := x })
      Key.missingNeutralLatched false c.checks[0].2 50 2 8 (some 0x0B) := by
    rw [← hb]
    unfold Dev.periodChecks
    rw [h]
    rfl
  rw [heq]
  refine SiteChecked.trans (e := d.putNat Key.zeroSequenceVoltage c.rms) ⟨⟨d.energy.missing, Dev.putNat_energy ..⟩, fun k hk => ?_,
    (Dev.putNat_keeps0 d _ _).mono (by decide)⟩ (missingChecked _ _)
  simp only [List.mem_cons, not_or] at hk
  exact Dev.val_putNat_other _ _ (Ne.symm hk.1)

theorem periodChecks_sites (l : List Closed) (d : Dev) (h : ∀ x ∈ l, x.e = 8 ∧ x.checks[0].1 = false) : SiteChecked d (l.foldl Dev.periodChecks d) := by
  induction l generalizing d with
  | nil => exact .refl d
  | cons x r ih =>
    obtain ⟨hx, hb⟩ := h x List.mem_cons_self
    exact (periodChecks_site d hx hb).trans (ih _ fun y hy => h y (List.mem_cons_of_mem _ hy))

theorem commitNoted_leaves (d : Dev) (c : CommitRun) (r : Ring) (us : Nat) :
    (commitNoted d c r us).energy = { d.energy with fails := 0, commit := none } ∧
      (commitNoted d c r us).nat Key.lastCommitDuration = min us 0xFFFF ∧
      (∀ k, k ∉ [Key.lastCommitDuration, Key.lateCommitCount] → (commitNoted d c r us).val k = d.val k) ∧
      Keeps 1572868 d (commitNoted d c r us) := by
  obtain ⟨w, hw⟩ : ∃ w, w = d.putNat Key.lastCommitDuration (min us 0xFFFF) := ⟨_, rfl⟩
  have hwn : w.nat Key.lastCommitDuration = min us 0xFFFF := by rw [hw, Dev.nat_putNat]
  have hwv : ∀ k, k ≠ Key.lastCommitDuration → w.val k = d.val k := fun k hk => by rw [hw, Dev.val_putNat_other _ _ (Ne.symm hk)]
  have hwk : Keeps 4 d w := by rw [hw]; exact Dev.putNat_keeps0 d _ _
  obtain ⟨v, hv⟩ : ∃ v, v = if r.flags.testBit 0 then w.bump Key.lateCommitCount else w := ⟨_, rfl⟩
  have hvk : Keeps 4 w v := by
    rw [hv]
    exact .ite (Dev.bump_keeps0 w _ _) (.refl _ _)
  have hvv : ∀ k, k ≠ Key.lateCommitCount → v.val k = w.val k := fun k hk => by
    rw [hv]
    split
    · exact Dev.val_bump_other _ _ (Ne.symm hk)
    · rfl
  have heq : commitNoted d c r us = (v.setEnergy fun n => { n with fails := 0, commit := none }).showLegal c.legal := by
    rw [hv, hw]
    rfl
  rw [heq]
  have huk : Keeps 1572864 v ((v.setEnergy fun n => { n with fails := 0, commit := none }).showLegal c.legal) :=
    ((Dev.setEnergy_keeps0 v _).mono (by decide)).trans (keeps_tariff (L := 1572864) _ (by decide) (.refl _ _))
  have hue : ((v.setEnergy fun n => { n with fails := 0, commit := none }).showLegal c.legal).energy = { v.energy with fails := 0, commit := none } := rfl
  have huv : ∀ k, ((v.setEnergy fun n => { n with fails := 0, commit := none }).showLegal c.legal).val k = v.val k := fun k => rfl
  generalize (v.setEnergy fun n => { n with fails := 0, commit := none }).showLegal c.legal = u at huk hue huv
  refine ⟨?_, ?_, fun k hk => ?_, (hwk.mono (by decide)).trans ((hvk.mono (by decide)).trans (huk.mono (by decide)))⟩
  · rw [hue, hvk.get_energy rfl, hwk.get_energy rfl]
  · rw [nat_of_val (huv _), nat_of_val (hvv _ (by decide)), hwn]
  · simp only [List.mem_cons, List.not_mem_nil, or_false, not_or] at hk
    rw [huv, hvv k hk.2, hwv k hk.1]

theorem wantCommit_nothing (d : Dev) (hb : d.energy.batch = []) (hc : d.energy.commit = none) : d.wantCommit = d := by
  unfold Dev.wantCommit
  dsimp only
  rw [if_pos (by simp [hb, hc])]

/-- RING_COMMIT of site periods read back right: the newest ring, and the commit over (09 R231). -/
theorem ringCommit_newest (s : State) (c : CommitRun) (us : Nat) (hs : s.dev.power.state = .inService) (hu : s.dev.heartwoodUp = true)
    (hl : s.dev.energy.lost = false) (hr : s.dev.burl.reports = []) (ha : s.dev.nat Key.alarmNow = 0) (hc : s.dev.energy.commit = some c)
    (hf : s.dev.energy.fails = 0) (hb : s.dev.energy.batch = []) (hcl : c.closes = [])
    (he : ∀ x ∈ c.entries, x.e = 8 ∧ x.checks[0].1 = false) :
    Completes (.ringCommit true us) s fun t =>
      t.dev.energy.slots = s.dev.energy.slots.set (nextSlot s.dev) (some (true, numbered s.dev c.ring)) ∧
      t.dev.energy.number = s.dev.energy.number + 1 ∧ t.dev.energy.newest = some (numbered s.dev c.ring) ∧ t.dev.energy.commit = none ∧
      t.dev.energy.live = s.dev.energy.live ∧ t.dev.nat Key.lastCommitDuration = min us 0xFFFF ∧
      Within [.obj, .heart, .ports, .energy, .tariff] s t := by
  have hex : exec (.ringCommit true us) s = .next { s with dev := (s.dev.ringCommit true us).reportChecks } := by
    show State.onDev s _ = _
    rw [State.onDev, Dev.ringCommitEvent, if_neg (by rw [hs]; simp)]
  have hrc : s.dev.ringCommit true us = (s.dev.setEnergy fun _ => slotted s.dev c.ring true).commitDone c (numbered s.dev c.ring) us :=
    ringCommit_eq s.dev true us hc hu hl
  have hwe : (s.dev.setEnergy fun _ => slotted s.dev c.ring true).energy = slotted s.dev c.ring true := rfl
  have hwk := Dev.setEnergy_keeps0 s.dev fun _ => slotted s.dev c.ring true
  have hwv : ∀ k, (s.dev.setEnergy fun _ => slotted s.dev c.ring true).val k = s.dev.val k := fun k => rfl
  rw [hrc] at hex
  generalize (s.dev.setEnergy fun _ => slotted s.dev c.ring true) = w at hwe hwk hwv hex
  generalize hring : numbered s.dev c.ring = r at hex
  rw [commitDone_site w c r us (by rw [hwe]; exact hf) hcl fun x hx => (he x hx).1] at hex
  obtain ⟨hne, hnd, hnv, hnk⟩ := commitNoted_leaves w c r us
  generalize commitNoted w c r us = n at hne hnd hnv hnk hex
  have hchk := periodChecks_sites c.entries n he
  generalize c.entries.foldl Dev.periodChecks n = y at hchk hex
  obtain ⟨⟨m, hye⟩, hyv, hyk⟩ := hchk
  have htk : Keeps 8192 y (testCounted y r).writeItems := (testCounted_keeps y r).trans (Dev.writeItems_keeps0 _)
  generalize (testCounted y r).writeItems = z at htk hex
  have hze : z.energy = { slotted s.dev c.ring true with fails := 0, commit := none, missing := m } := by
    rw [htk.get_energy rfl, hye, hne, hwe]
  rw [wantCommit_nothing z (by rw [hze]; exact hb) (by rw [hze])] at hex
  have hsk := Dev.settle_keeps0 z
  generalize z.settle = u at hsk hex
  have hue : u.energy = { slotted s.dev c.ring true with fails := 0, commit := none, missing := m } := (hsk.get_energy rfl).trans hze
  have huy : ∀ k, u.val k = y.val k := fun k => by
    simp only [Dev.val, hsk.get_obj rfl, htk.get_obj rfl]
  have hukeep : Keeps 1597444 s.dev u := (hwk.mono (by decide)).trans ((hnk.mono (by decide)).trans ((hyk.mono (by decide)).trans
    ((htk.mono (by decide)).trans (hsk.mono (by decide)))))
  have halarm : u.nat Key.alarmNow = s.dev.nat Key.alarmNow :=
    nat_of_val ((huy _).trans ((hyv _ (by decide)).trans ((hnv _ (by decide)).trans (hwv _))))
  rw [reportChecks_calm u (by rw [hukeep.get_burl rfl]; exact hr) (halarm.trans ha)] at hex
  refine ⟨_, hex, ?_, ?_, ?_, ?_, ?_, ?_, hukeep.within (by decide)⟩
  · show u.energy.slots = _
    rw [hue, ← hring]; rfl
  · show u.energy.number = _
    rw [hue]; rfl
  · show u.energy.newest = _
    rw [hue, ← hring]; rfl
  · show u.energy.commit = _
    rw [hue]
  · show u.energy.live = _
    rw [hue]; rfl
  · show u.nat _ = _
    rw [nat_of_val ((huy _).trans (hyv _ (by decide))), hnd]

/-! ### Late commits (09 R234) -/

/-- LATE_COMMIT of a commit that has not begun to write: its late periods wait for the next ring, and that is logged. -/
theorem lateCommit_leaves (s : State) (c : CommitRun) (e : EntityId) (hc : s.dev.energy.commit = some c) (hu : s.dev.heartwoodUp = true)
    (hf : s.dev.energy.fails = 0) (hl : ∃ x ∈ c.entries, s.dev.isLate e x = true) (hm : s.dev.rail .vddMem = true) :
    Completes (.lateCommit e) s fun t =>
      t.dev.energy = { s.dev.energy with
        commit := none, closes := c.closes ++ s.dev.energy.closes
        batch := (c.entries ++ s.dev.energy.batch).map fun x => if s.dev.isLate e x then { x with late := true } else x } ∧
      (∃ x : LegalEntry, t.dev.heart = { s.dev.heart with log := x :: s.dev.heart.log.take 32767 } ∧ x.code = 0x0202 ∧ x.entity = e.val ∧
        x.data = leBytes 8 (s.dev.energy.number + 1)) ∧ Only [.heart, .energy] [] s t := by
  obtain ⟨x, hx, hxl⟩ := hl
  have hany : c.entries.any (s.dev.isLate e) = true := List.any_eq_true.2 ⟨x, hx, hxl⟩
  have hex : exec (.lateCommit e) s =
      .next { s with dev := (s.dev.legal 0x0202 e (leBytes 8 (s.dev.energy.number + 1))).setEnergy (s.dev.foldLate e) } := by
    show State.onDev s _ = _
    rw [State.onDev, Dev.lateCommit, hc]
    dsimp only
    rw [if_pos ⟨hu, by rw [List.any_append, hany, Bool.true_or]⟩]
  have hfold : s.dev.foldLate e s.dev.energy = { s.dev.energy with
      commit := none, closes := c.closes ++ s.dev.energy.closes
      batch := (c.entries ++ s.dev.energy.batch).map fun x => if s.dev.isLate e x then { x with late := true } else x } := by
    unfold Dev.foldLate
    rw [hc]
    dsimp only
    rw [if_pos ⟨hf, hany⟩]
  obtain ⟨y, -, hcode, hent, hdata, -, hheart⟩ := Dev.legal_heart s.dev 0x0202 e (leBytes 8 (s.dev.energy.number + 1)) hm
  refine ⟨_, hex, ?_, ⟨y, hheart, hcode, hent, hdata⟩, Keeps.only_nil (M := 532480) (((Dev.legal_keeps0 s.dev _ _ _).mono (by decide)).trans
    ((Dev.setEnergy_keeps0 _ _).mono (by decide))) rfl (by decide)⟩
  rw [← hfold]
  show s.dev.foldLate e (s.dev.legal _ _ _).energy = _
  rw [Dev.legal_energy]

theorem lateCommit_inTime (s : State) (e : EntityId) (hb : ∀ x ∈ s.dev.energy.batch, s.dev.isLate e x = false)
    (hc : ∀ c, s.dev.energy.commit = some c → ∀ x ∈ c.entries, s.dev.isLate e x = false) : Completes (.lateCommit e) s fun t => t = s := by
  have hany : ((match s.dev.energy.commit with | some c => c.entries | none => []) ++ s.dev.energy.batch).any (s.dev.isLate e) = false := by
    rw [List.any_eq_false]
    intro x hx
    rcases List.mem_append.1 hx with hx | hx
    · cases hcm : s.dev.energy.commit with
      | none => rw [hcm] at hx; cases hx
      | some c =>
        rw [hcm] at hx
        simp [hc c hcm x hx]
    · simp [hb x hx]
  refine ⟨s, ?_, rfl⟩
  show State.onDev s _ = _
  rw [State.onDev, Dev.lateCommit, if_neg]
  rintro ⟨-, h⟩
  exact absurd (h.symm.trans hany) (by decide)

/-! ### The magnetic alarm (09 R246) -/

/-- The run of a Hall reading: it toggles at the second above 150 mT, or at the tenth below 120 mT. -/
def hallRun (d : Dev) (mT : Nat) : Dev :=
  (d.putNat Key.magneticField (min mT 0xFFFF)).runCheck (·.magnet) (fun e x => { e with magnet := x }) Key.magnetAlarm
    (if d.energy.magnet.latched then decide (120 ≤ mT) else decide (150 < mT)) mT (if d.energy.magnet.latched then 10 else 2) 5 8 (some 0x09)

theorem hallReading_eq (d : Dev) (mT : Nat) (hs : d.sampling = true) (hu : d.heartwoodUp = true) : hallReading mT d = hallRun d mT := by
  unfold hallReading
  rw [if_neg (by simp [hs, hu])]
  rfl

/-- HALL_READING at or below 150 mT outside the alarm. -/
theorem hallReading_quiet (s : State) (x : Nat) (hs : s.dev.sampling = true) (hu : s.dev.heartwoodUp = true) (hr : s.dev.burl.reports = [])
    (ha : s.dev.nat Key.alarmNow = 0) (hl : s.dev.energy.magnet.latched = false) (hx : x ≤ 150) :
    Completes (.hallReading x) s fun t =>
      t.dev.nat Key.magneticField = x ∧ t.dev.energy.magnet.latched = false ∧ t.dev.energy.magnet.run = 0 ∧ t.dev.flag Key.magnetAlarm = false ∧
      Only [.energy] [Key.magneticField, Key.magnetAlarm] s t := by
  have hex : exec (.hallReading x) s = .next { s with dev := (hallReading x s.dev).reportChecks } := rfl
  have hbad : decide (150 < x) = false := by simpa using hx
  have hmin : min x 0xFFFF = x := by omega
  rw [hallReading_eq s.dev x hs hu, hallRun, hl, if_neg (by decide), if_neg (by decide), hbad, hmin] at hex
  have hwe : (s.dev.putNat Key.magneticField x).energy = s.dev.energy := Dev.putNat_energy ..
  have hwn : (s.dev.putNat Key.magneticField x).nat Key.magneticField = x := Dev.nat_putNat _ _ _
  have hwv : ∀ k, k ≠ Key.magneticField → (s.dev.putNat Key.magneticField x).val k = s.dev.val k := fun k hk => Dev.val_putNat_other _ _ (Ne.symm hk)
  have hwk := Dev.putNat_keeps0 s.dev Key.magneticField x
  generalize s.dev.putNat Key.magneticField x = w at hwe hwn hwv hwk hex
  obtain ⟨c, hnext, hlatch, hrun⟩ := checkNext_stays (c := w.energy.magnet) (bad := false) x 2 (by rw [hwe, hl])
  rw [runCheck_eq w (·.magnet) (fun e x => { e with magnet := x }) Key.magnetAlarm false x 2 5 8 (some 0x09) hnext] at hex
  simp only [Bool.false_eq_true, if_false] at hex
  obtain ⟨hve, hvf, hvv, hvk⟩ := checkKept_leaves w (fun e x => { e with magnet := x }) Key.magnetAlarm c false
  generalize checkKept w (fun e x => { e with magnet := x }) Key.magnetAlarm c false = v at hve hvf hvv hvk hex
  have hkeep : Keeps 524292 s.dev v := (hwk.mono (by decide)).trans hvk
  have hother : ∀ k, k ∉ [Key.magneticField, Key.magnetAlarm] → v.val k = s.dev.val k := fun k hk => by
    simp only [List.mem_cons, List.not_mem_nil, or_false, not_or] at hk
    rw [hvv k hk.2, hwv k hk.1]
  have hmag : v.energy.magnet = c := by rw [hve]; simp
  have hoff : c.latched = false := by rw [hlatch, hwe, hl]
  rw [reportChecks_calm v (by rw [hkeep.get_burl rfl]; exact hr) ((nat_of_val (hother _ (by decide))).trans ha)] at hex
  exact ⟨_, hex, (nat_of_val (hvv _ (by decide))).trans hwn, by rw [hmag, hoff], by rw [hmag, hrun], hvf.trans hoff, hkeep.only (by decide) hother⟩

/-- The second reading above 150 mT in a row latches the alarm, and goes to Burl. -/
theorem hallReading_latches (d : Dev) (x : Nat) (hs : d.sampling = true) (hu : d.heartwoodUp = true) (hl : d.energy.magnet.latched = false)
    (hr : d.energy.magnet.run = 1) (hx : 150 < x) :
    (hallReading x d).energy.magnet.latched = true ∧ ∃ y, (hallReading x d).burl.reports = d.burl.reports ++ [(9, y)] := by
  have hbad : decide (150 < x) = true := by simpa using hx
  rw [hallReading_eq d x hs hu, hallRun, hl, if_neg (by decide), if_neg (by decide), hbad]
  have hwe : (d.putNat Key.magneticField (min x 0xFFFF)).energy = d.energy := Dev.putNat_energy ..
  have hwb : (d.putNat Key.magneticField (min x 0xFFFF)).burl = d.burl := Dev.putNat_burl ..
  generalize d.putNat Key.magneticField (min x 0xFFFF) = w at hwe hwb
  obtain ⟨c, hnext, hlatch⟩ := checkNext_toggles (c := w.energy.magnet) (bad := true) x (n := 2) (by rw [hwe, hl]; decide) (by rw [hwe, hr])
  rw [runCheck_eq w (·.magnet) (fun e x => { e with magnet := x }) Key.magnetAlarm true x 2 5 8 (some 0x09) hnext]
  obtain ⟨hve, -, -, hvk⟩ := checkKept_leaves w (fun e x => { e with magnet := x }) Key.magnetAlarm c true
  generalize checkKept w (fun e x => { e with magnet := x }) Key.magnetAlarm c true = v at hve hvk
  have hmag : v.energy.magnet = c := by rw [hve]; simp [hlatch]
  have hburl : v.burl = d.burl := (hvk.get_burl rfl).trans hwb
  have heq : v.checkToggled true 5 8 (some 0x09) c.dev =
      (v.legal 0x0304 8 (leBytes 1 5 ++ leBytes 4 (ofSigned 32 c.dev))).setBurl fun b => { b with reports := b.reports ++ [(0x09, c.dev)] } := rfl
  simp only [if_true]
  rw [hlatch, heq]
  constructor
  · show (v.legal _ _ _).energy.magnet.latched = true
    rw [Dev.legal_energy, hmag, hlatch]
  · refine ⟨c.dev, ?_⟩
    show (v.legal _ _ _).burl.reports ++ _ = _
    rw [Dev.legal_burl, hburl]

/-- Settles O36: rings are written and read back, late ones go into the next, and the magnetic alarm latches. -/
theorem ringsAreWrittenAndReadBack : Obligations.RingsAreWrittenAndReadBack := by
  unfold Obligations.RingsAreWrittenAndReadBack
  intro calm slot
  refine ⟨fun s c us ⟨hs, hu, hl, hr, ha⟩ hc hf hm => ?_, fun s c us ⟨hs, hu, hl, hr, ha⟩ hc hf hb hcl he => ?_, fun d ring ok k h => writeRing_other d ring ok k h,
    lateCommit_leaves, lateCommit_inTime, fun s x ⟨_, hu, _, hr, ha⟩ hsm hl hx => hallReading_quiet s x hsm hu hr ha hl hx, hallReading_latches,
    fun c bad dev n _ => checkNext c bad dev n⟩
  · obtain ⟨t, hex, henergy, hlog, honly⟩ := ringCommit_fails s c us hs hu hl hr ha hc hf hm
    exact ⟨t, hex, ⟨nextSlot s.dev, rfl, henergy⟩, hlog, honly⟩
  · obtain ⟨t, hex, hslots, hrest⟩ := ringCommit_newest s c us hs hu hl hr ha hc hf hb hcl he
    exact ⟨t, hex, ⟨nextSlot s.dev, rfl, hslots⟩, hrest⟩

end Sys2Proof.Machine
end

section
/-! PROOFS. Sample sets, failed channels, the temperature band (08 R190 to R208; 09 R219). -/

namespace Sys2Proof.Machine

/-! ### Folds that change nothing -/

theorem foldl_stays {α : Type} {g : Dev → α → Dev} {d : Dev} {l : List α} (h : ∀ x ∈ l, g d x = d) : l.foldl g d = d := by
  induction l with
  | nil => rfl
  | cons x r ih =>
    rw [List.foldl_cons, h x List.mem_cons_self]
    exact ih fun y hy => h y (List.mem_cons_of_mem _ hy)

/-! ### Entities -/

theorem portEntity_ne_site (p : PortId) : portEntity p ≠ 8 := fun h => by
  have hv := congrArg Fin.val h
  have hp := p.isLt
  simp only [portEntity] at hv
  omega

theorem portEntity_inj {p q : PortId} (h : portEntity p = portEntity q) : p = q := by
  have hv := congrArg Fin.val h
  exact Fin.ext hv

/-- An entity is a port's, or the site. -/
theorem entity_cases (e : EntityId) : (∃ p : PortId, e = portEntity p) ∨ e = 8 := by
  by_cases h : e.val < 8
  · exact .inl ⟨⟨e.val, h⟩, rfl⟩
  · exact .inr (Fin.ext (by have := e.isLt; show e.val = 8; omega))

/-! ### The sums of a sample (09 R219) -/

theorem add_n (m : Meter) (ch : Fin 8 → Channel) (f : Nat) : (m.add ch f).n = m.n + 1 := rfl
theorem add_flags (m : Meter) (ch : Fin 8 → Channel) (f : Nat) : (m.add ch f).flags = m.flags := rfl
theorem add_sp_flags (m : Meter) (ch : Fin 8 → Channel) (f x : Nat) : (({ m with flags := x } : Meter).add ch f).sp = (m.add ch f).sp := rfl

/-- The sample of a port added to its sums. -/
def addPort (d : Dev) (p : PortId) : Dev := d.setMeter (portEntity p) fun m => m.add (fun k => d.chan (chanOf p k)) m.set.nomF

theorem addPort_metro (d : Dev) (p : PortId) : (addPort d p).metro = { d.metro with meters := (addPort d p).metro.meters } := rfl

theorem addPorts_leaves (l : List PortId) (d : Dev) (hl : l.Nodup) :
    (l.foldl addPort d).metro = { d.metro with meters := (l.foldl addPort d).metro.meters } ∧
      (∀ p ∈ l, (l.foldl addPort d).meter (portEntity p) =
        (d.meter (portEntity p)).add (fun k => d.chan (chanOf p k)) (d.meter (portEntity p)).set.nomF) ∧
      ∀ e, (∀ p ∈ l, e ≠ portEntity p) → (l.foldl addPort d).meter e = d.meter e := by
  induction l generalizing d with
  | nil => exact ⟨rfl, fun _ h => absurd h List.not_mem_nil, fun _ _ => rfl⟩
  | cons q r ih =>
    obtain ⟨hq, hr⟩ := List.nodup_cons.1 hl
    obtain ⟨hm, hin, hout⟩ := ih (addPort d q) hr
    have hchan : ∀ c, (addPort d q).chan c = d.chan c := fun c => rfl
    have hother : ∀ e, e ≠ portEntity q → (addPort d q).meter e = d.meter e := fun e he => Dev.meter_setMeter_other d _ he
    rw [List.foldl_cons]
    refine ⟨hm.trans (by rw [addPort_metro]), fun p hp => ?_, fun e he => ?_⟩
    · rcases List.mem_cons.1 hp with rfl | hp
      · rw [hout _ fun x hx h => hq (by rw [portEntity_inj h]; exact hx)]
        exact Dev.meter_setMeter_same d _ _
      · have hne : portEntity p ≠ portEntity q := fun h => hq (portEntity_inj h ▸ hp)
        rw [hin p hp, hother _ hne]
        rfl
    · rw [hout e fun x hx => he x (List.mem_cons_of_mem _ hx), hother e (he q List.mem_cons_self)]

/-- A sample enters the sums of every entity once. -/
theorem addSums_leaves (d : Dev) :
    d.addSums.metro = { d.metro with meters := d.addSums.metro.meters } ∧
      (∀ p, d.addSums.meter (portEntity p) = (d.meter (portEntity p)).add (fun k => d.chan (chanOf p k)) (d.meter (portEntity p)).set.nomF) ∧
      (∀ e, (d.addSums.meter e).n = (d.meter e).n + 1 ∧ (d.addSums.meter e).flags = (d.meter e).flags) := by
  obtain ⟨hm, hin, hout⟩ := addPorts_leaves Dev.allPorts d (List.nodup_finRange 8)
  have heq : d.addSums = (Dev.allPorts.foldl addPort d).setMeter 8 fun m =>
      m.addSite (fun k => ((Dev.allPorts.foldl addPort d).chan ⟨k.val, by omega⟩).ys.headD 0) (fun k => ((Dev.allPorts.foldl addPort d).chan ⟨k.val, by omega⟩).fs) :=
    rfl
  rw [heq]
  generalize Dev.allPorts.foldl addPort d = w at hm hin hout
  have hport : ∀ p, w.meter (portEntity p) = (d.meter (portEntity p)).add (fun k => d.chan (chanOf p k)) (d.meter (portEntity p)).set.nomF := fun p =>
    hin p (List.mem_finRange p)
  have hsite : w.meter 8 = d.meter 8 := hout 8 fun p _ => (portEntity_ne_site p).symm
  refine ⟨?_, fun p => ?_, fun e => ?_⟩
  · show ({ w.metro with meters := _ } : Metro) = _
    rw [hm]
    rfl
  · rw [Dev.meter_setMeter_other _ _ (portEntity_ne_site p), hport]
  · rcases entity_cases e with ⟨p, rfl⟩ | rfl
    · rw [Dev.meter_setMeter_other _ _ (portEntity_ne_site p), hport]
      exact ⟨rfl, rfl⟩
    · rw [Dev.meter_setMeter_same]
      rw [hsite]
      exact ⟨rfl, rfl⟩

/-! ### Clips (08 R206) -/

/-- Of the metrology only the flags of the running periods differ. -/
structure FlagsOnly (a b : Dev) : Prop where
  metro : b.metro = { a.metro with meters := b.metro.meters }
  meters : ∀ e, ∃ x, b.meter e = { a.meter e with flags := x }
  keeps : Keeps 262148 a b

theorem FlagsOnly.refl (a : Dev) : FlagsOnly a a := ⟨rfl, fun e => ⟨(a.meter e).flags, rfl⟩, .refl _ _⟩

theorem FlagsOnly.trans {a b c : Dev} (h : FlagsOnly a b) (g : FlagsOnly b c) : FlagsOnly a c := by
  refine ⟨by rw [g.metro, h.metro], fun e => ?_, h.keeps.trans g.keeps⟩
  obtain ⟨x, hx⟩ := h.meters e
  obtain ⟨y, hy⟩ := g.meters e
  exact ⟨y, by rw [hy, hx]⟩

theorem FlagsOnly.of_metro {a b : Dev} (h : b.metro = a.metro) (hk : Keeps 262148 a b) : FlagsOnly a b :=
  ⟨by rw [h], fun e => ⟨(a.meter e).flags, by unfold Dev.meter; rw [h]⟩, hk⟩

theorem flagsOnly_setMeter (d : Dev) (e : EntityId) (i : Nat) (on : Bool) :
    FlagsOnly d (d.setMeter e fun m => { m with flags := setBit m.flags i on }) := by
  refine ⟨rfl, fun x => ?_, (Dev.setMeter_keeps0 d _ _).mono (by decide)⟩
  by_cases hx : x = e
  · subst hx
    exact ⟨_, Dev.meter_setMeter_same d _ _⟩
  · exact ⟨(d.meter x).flags, Dev.meter_setMeter_other d _ hx⟩

theorem noteClips_flags (d : Dev) (raw : Vector Int 68) : FlagsOnly d (d.noteClips raw) := by
  unfold Dev.noteClips
  refine foldl_keeps_prop (P := FlagsOnly d) (fun a c h => ?_) _ (.refl d)
  dsimp only
  split
  · have hb : FlagsOnly a (a.bump (Key.clipCount c)) := .of_metro (Dev.bump_metro ..) ((Dev.bump_keeps0 a _ _).mono (by decide))
    split
    · exact (h.trans hb).trans (flagsOnly_setMeter _ _ _ _)
    · exact h.trans hb
  · exact h

/-! ### A set of samples (08 R190 to R195, R205) -/

/-- Nothing is due, and no channel has a failure that a set of samples may end. -/
structure Quiet (d : Dev) : Prop where
  sampling : d.sampling = true
  due : ∀ e, d.due e = false
  flux : ∀ p : PortId, (d.chan (chanOf p 7)).failed.testBit 2 = false
  stream : ∀ c, (d.chan c).failed.testBit 1 = false

theorem rollDue_quiet {d : Dev} (h : ∀ e, d.due e = false) : d.rollDue = d :=
  foldl_stays fun e _ => by simp only [h e, Bool.false_eq_true, if_false]

theorem unfailChan_same {d : Dev} {c : Fin 68} {cause : Nat} (h : (d.chan c).failed.testBit cause = false) : d.unfailChan c cause = d := by
  unfold Dev.unfailChan
  rw [if_pos (by simp [h])]

theorem fluxFaults_none {d : Dev} (h : ∀ p : PortId, (d.chan (chanOf p 7)).failed.testBit 2 = false) : d.fluxFaults 0 = d := by
  refine foldl_stays fun p _ => ?_
  have hbit : (0 : BitVec 8).getLsbD p.val = false := BitVec.getLsbD_zero
  unfold Dev.fluxFault
  dsimp only
  rw [hbit, if_neg (by simp)]
  exact unfailChan_same (h p)

/-- The densities last seen and the inputs that stand still. -/
def streamsSeen (d : Dev) (ones : Vector Nat 16) : Dev :=
  { d with metro := { d.metro with
    ones := ones, stuck := Vector.ofFn fun j => if decide ((ones[j] = 0 ∨ 8388608 ≤ ones[j]) ∧ ones[j] = d.metro.ones[j]) then min 64 (d.metro.stuck[j] + 1)
      else 0 } }

theorem bitstreams_quiet {d : Dev} (ones : Vector Nat 16) (h : ∀ c, (d.chan c).failed.testBit 1 = false) : d.bitstreams ones = streamsSeen d ones := by
  have hchan : ∀ c, ((streamsSeen d ones).chan c).failed.testBit 1 = false := fun c => h c
  exact foldl_stays (d := streamsSeen d ones) fun c _ => by
    dsimp only
    rw [if_neg]
    intro hc
    rw [hchan c] at hc
    exact absurd hc.1 (by decide)

theorem streamsSeen_metro (d : Dev) (ones : Vector Nat 16) : (streamsSeen d ones).metro.meters = d.metro.meters ∧
    (streamsSeen d ones).metro.chans = d.metro.chans ∧ (streamsSeen d ones).metro.ones = ones ∧ (streamsSeen d ones).time = d.time := by
  simp only [streamsSeen, and_self]

/-- The channels with a valid sample taken. -/
def setTaken (d : Dev) (codes : Vector Int 68) : Dev :=
  { d with metro := { d.metro with
    invalid := 0, chans := Vector.ofFn fun c => (d.metro.chans[c]).take (d.nominals c).1 d.samples (d.nominals c).2 codes[c] } }

theorem setTaken_chan (d : Dev) (codes : Vector Int 68) (c : Fin 68) :
    (setTaken d codes).chan c = (d.chan c).take (d.nominals c).1 d.samples (d.nominals c).2 codes[c] := by
  simp [setTaken, Dev.chan]

theorem setTaken_metro (d : Dev) (codes : Vector Int 68) : (setTaken d codes).metro.meters = d.metro.meters ∧
    (setTaken d codes).metro.invalid = 0 ∧ (setTaken d codes).metro.ones = d.metro.ones := by
  simp only [setTaken, and_self]

/-- The channels with a sample repeated, every period flagged. -/
def setRepeated (d : Dev) : Dev :=
  { d with metro := { d.metro with
    invalid := d.metro.invalid + 1, chans := d.metro.chans.map Channel.again
    meters := d.metro.meters.map fun (m : Meter) => { m with flags := setBit m.flags 0 true } } }

/-- The substitutions and the link error counted. -/
def repeatCounted (d : Dev) : Dev :=
  ((List.finRange 68).foldl (fun d (c : Fin 68) => d.bump (Key.substitutedCount c)) d).bump Key.linkErrorCount

/-- The sample counted. -/
def sampleTimed (d : Dev) : Dev := { d with time := { d.time with samples := d.time.samples + 1 } }

/-- The set as crossing 0x00 takes it. -/
def setCrossed (d : Dev) (linkOk : Bool) : Dev := if !linkOk then d else if d.passes 0x00 then d.crossed 0x00 else d.produce 0x00 []

theorem setCrossed_keeps (d : Dev) (linkOk : Bool) : Keeps 32 d (setCrossed d linkOk) := by
  unfold setCrossed
  exact .ite (.refl _ _) (.ite (Dev.crossed_keeps0 d 0x00) (Dev.produce_keeps0 d 0x00 []))

theorem sampling_congr {d e : Dev} (hp : e.power = d.power) (hm : e.metro = d.metro) (hc : e.clocks = d.clocks) : e.sampling = d.sampling := by
  unfold Dev.sampling Dev.powered Dev.rail
  rw [hp, hm, hc]

theorem due_congr {d e : Dev} (hm : e.metro = d.metro) (ht : e.time = d.time) (x : EntityId) : e.due x = d.due x := by
  unfold Dev.due Dev.meter Dev.samples
  rw [hm, ht]

theorem dieReturns_same {d : Dev} (linkOk : Bool) (h : d.sampling = true) : d.dieReturns linkOk = d := by
  have hl : d.metro.lost = false := by
    unfold Dev.sampling at h
    simp only [Bool.and_eq_true, Bool.not_eq_true'] at h
    exact h.1.1.2
  unfold Dev.dieReturns
  rw [if_neg (by simp [hl])]

theorem Quiet.crossed {d : Dev} (h : Quiet d) (linkOk : Bool) : Quiet (setCrossed d linkOk) := by
  have hk := setCrossed_keeps d linkOk
  generalize setCrossed d linkOk = w at hk
  have hchan : ∀ c, w.chan c = d.chan c := fun c => by unfold Dev.chan; rw [hk.get_metro rfl]
  exact ⟨(sampling_congr (hk.get_power rfl) (hk.get_metro rfl) (hk.get_clocks rfl)).trans h.sampling,
    fun e => (due_congr (hk.get_metro rfl) (hk.get_time rfl) e).trans (h.due e), fun p => by rw [hchan]; exact h.flux p,
    fun c => by rw [hchan]; exact h.stream c⟩

/-- A valid set as the channels take it. -/
def setValid (d : Dev) (raw : Vector (BitVec 24) 68) (ones : Vector Nat 16) (flux : BitVec 8) : Dev :=
  let u := (d.fluxFaults flux).bitstreams ones
  (setTaken u (u.rawCodes raw ones)).noteClips (u.rawCodes raw ones)

theorem sampleSet_eq (d : Dev) (raw : Vector (BitVec 24) 68) (ones : Vector Nat 16) (ok : Bool) (flux : BitVec 8) (h : Quiet d) :
    d.sampleSet raw ones ok flux = sampleTimed (if ok && d.passes 0x00 then setValid (setCrossed d ok).rollDue raw ones flux
      else repeatCounted (setRepeated (setCrossed d ok).rollDue)).addSums := by
  unfold Dev.sampleSet setValid sampleTimed setTaken setCrossed repeatCounted setRepeated
  rw [dieReturns_same ok h.sampling, if_neg (by simp [h.sampling])]

theorem rawCodes_congr {d e : Dev} (h : e.metro.chans = d.metro.chans) (raw : Vector (BitVec 24) 68) (ones : Vector Nat 16) :
    e.rawCodes raw ones = d.rawCodes raw ones := by
  have hsrc : ∀ c, (e.chan c).source = (d.chan c).source := fun c => by unfold Dev.chan; rw [h]
  unfold Dev.rawCodes
  simp only [hsrc]

theorem sampleSet_valid (d : Dev) (raw : Vector (BitVec 24) 68) (ones : Vector Nat 16) (h : Quiet d) (hp : d.passes 0x00 = true) :
    d.sampleSet raw ones true 0 = sampleTimed ((setTaken (streamsSeen (setCrossed d true) ones) (d.rawCodes raw ones)).noteClips
      (d.rawCodes raw ones)).addSums := by
  have hcross := h.crossed true
  have hk := setCrossed_keeps d true
  rw [sampleSet_eq d raw ones true 0 h, if_pos (by simp [hp])]
  generalize setCrossed d true = w at hcross hk ⊢
  have hcodes : (streamsSeen w ones).rawCodes raw ones = d.rawCodes raw ones := rawCodes_congr (congrArg Metro.chans (hk.get_metro rfl)) raw ones
  unfold setValid
  rw [rollDue_quiet hcross.due, fluxFaults_none hcross.flux, bitstreams_quiet ones hcross.stream]
  dsimp only
  rw [hcodes]

theorem sampleSet_invalid (d : Dev) (raw : Vector (BitVec 24) 68) (ones : Vector Nat 16) (ok : Bool) (flux : BitVec 8) (h : Quiet d)
    (hf : ok = false ∨ d.passes 0x00 = false) :
    d.sampleSet raw ones ok flux = sampleTimed (repeatCounted (setRepeated (setCrossed d ok))).addSums := by
  rw [sampleSet_eq d raw ones ok flux h, if_neg (by rcases hf with h | h <;> simp [h]), rollDue_quiet (h.crossed ok).due]

/-- SAMPLE_SET with a valid set (08 R190 to R195; 09 R219). -/
theorem sampleSet_taken (s : State) (raw : Vector (BitVec 24) 68) (ones : Vector Nat 16) (h : Quiet s.dev) (hp : s.dev.passes 0x00 = true) :
    Completes (.sampleSet ⟨raw, ones⟩ true 0) s fun t =>
      (∀ c : Fin 68, t.dev.chan c = (s.dev.chan c).take (s.dev.nominals c).1 s.dev.samples (s.dev.nominals c).2 (s.dev.rawCodes raw ones)[c]) ∧
      t.dev.metro.invalid = 0 ∧ t.dev.metro.ones = ones ∧
      t.dev.time = { s.dev.time with samples := s.dev.time.samples + 1 } ∧ (∀ e, (t.dev.meter e).n = (s.dev.meter e).n + 1) ∧
      (∀ p : PortId, (t.dev.meter (portEntity p)).sp =
        ((s.dev.meter (portEntity p)).add (fun k => t.dev.chan (chanOf p k)) (s.dev.meter (portEntity p)).set.nomF).sp) ∧
      Within [.obj, .time, .crossings, .metro] s t := by
  have hex : exec (.sampleSet ⟨raw, ones⟩ true 0) s = .next { s with dev := s.dev.sampleSet raw ones true 0 } := rfl
  rw [sampleSet_valid s.dev raw ones h hp] at hex
  have hk := setCrossed_keeps s.dev true
  generalize setCrossed s.dev true = w at hk hex
  have htaken : ∀ c, (setTaken (streamsSeen w ones) (s.dev.rawCodes raw ones)).chan c =
      (s.dev.chan c).take (s.dev.nominals c).1 s.dev.samples (s.dev.nominals c).2 (s.dev.rawCodes raw ones)[c] := fun c => by
    have hm : w.metro = s.dev.metro := hk.get_metro rfl
    have ht : w.time = s.dev.time := hk.get_time rfl
    obtain ⟨hsm, hsc, -, hst⟩ := streamsSeen_metro w ones
    have hnom : (streamsSeen w ones).nominals c = s.dev.nominals c := by
      unfold Dev.nominals Dev.meter
      rw [hsm, hm]
    have hsamples : (streamsSeen w ones).samples = s.dev.samples := by
      unfold Dev.samples
      rw [hst, ht]
    have hchan : (streamsSeen w ones).chan c = s.dev.chan c := by
      unfold Dev.chan
      rw [hsc, hm]
    rw [setTaken_chan, hnom, hsamples, hchan]
  have hmeters : ∀ e, (setTaken (streamsSeen w ones) (s.dev.rawCodes raw ones)).meter e = s.dev.meter e := fun e => by
    unfold Dev.meter
    rw [(setTaken_metro _ _).1, (streamsSeen_metro w ones).1, hk.get_metro rfl]
  have hinvalid : (setTaken (streamsSeen w ones) (s.dev.rawCodes raw ones)).metro.invalid = 0 := (setTaken_metro _ _).2.1
  have hones : (setTaken (streamsSeen w ones) (s.dev.rawCodes raw ones)).metro.ones = ones :=
    (setTaken_metro _ _).2.2.trans (streamsSeen_metro w ones).2.2.1
  have htk : Keeps 262144 w (setTaken (streamsSeen w ones) (s.dev.rawCodes raw ones)) :=
    (keeps_metro (L := 262144) _ (by decide) (.refl _ _)).trans (keeps_metro (L := 262144) _ (by decide) (.refl _ _))
  generalize setTaken (streamsSeen w ones) (s.dev.rawCodes raw ones) = u at htaken hmeters hinvalid hones htk hex
  obtain ⟨hvm, hvf, hvk⟩ := noteClips_flags u (s.dev.rawCodes raw ones)
  generalize u.noteClips (s.dev.rawCodes raw ones) = v at hvm hvf hvk hex
  obtain ⟨hsm, hsp, hsn⟩ := addSums_leaves v
  have hsk := Dev.addSums_keeps0 v
  generalize v.addSums = y at hsm hsp hsn hsk hex
  have hym : y.metro = { u.metro with meters := y.metro.meters } := by rw [hsm, hvm]
  have hchan : ∀ c, (sampleTimed y).chan c =
      (s.dev.chan c).take (s.dev.nominals c).1 s.dev.samples (s.dev.nominals c).2 (s.dev.rawCodes raw ones)[c] := fun c => by
    rw [← htaken c]
    show y.metro.chans[c] = u.metro.chans[c]
    rw [hym]
  have hkeep : Keeps 262180 s.dev y := (hk.mono (by decide)).trans ((htk.mono (by decide)).trans ((hvk.mono (by decide)).trans (hsk.mono (by decide))))
  refine ⟨_, hex, hchan, ?_, ?_, ?_, fun e => ?_, fun p => ?_, Keeps.within (M := 262188) ((hkeep.mono (by decide)).trans
    (keeps_time (L := 262188) _ (by decide) (.refl _ _))) (by decide)⟩
  · show y.metro.invalid = 0
    rw [hym]; exact hinvalid
  · show y.metro.ones = ones
    rw [hym]; exact hones
  · show ({ y.time with samples := y.time.samples + 1 } : TimeSt) = _
    rw [hkeep.get_time rfl]
  · show (y.meter e).n = _
    obtain ⟨x, hx⟩ := hvf e
    rw [(hsn e).1, hx, hmeters]
  · show (y.meter (portEntity p)).sp = _
    obtain ⟨x, hx⟩ := hvf (portEntity p)
    have hvc : ∀ k, v.chan (chanOf p k) = (sampleTimed y).chan (chanOf p k) := fun k => by
      show v.metro.chans[_] = y.metro.chans[_]
      rw [hsm]
    rw [hsp p, hx, hmeters]
    simp only [hvc]
    exact add_sp_flags _ _ _ _

/-- SAMPLE_SET with a set that fails its link check, or that crossing 0x00 drops (08 R205). -/
theorem sampleSet_repeated (s : State) (raw : Vector (BitVec 24) 68) (ones : Vector Nat 16) (ok : Bool) (flux : BitVec 8) (h : Quiet s.dev)
    (hf : ok = false ∨ s.dev.passes 0x00 = false) :
    Completes (.sampleSet ⟨raw, ones⟩ ok flux) s fun t =>
      (∀ c : Fin 68, t.dev.chan c = (s.dev.chan c).again) ∧ t.dev.metro.invalid = s.dev.metro.invalid + 1 ∧
      (∀ e, (t.dev.meter e).n = (s.dev.meter e).n + 1 ∧ (t.dev.meter e).flags = setBit (s.dev.meter e).flags 0 true) ∧
      t.dev.time = { s.dev.time with samples := s.dev.time.samples + 1 } ∧ Within [.obj, .time, .crossings, .metro] s t := by
  have hex : exec (.sampleSet ⟨raw, ones⟩ ok flux) s = .next { s with dev := s.dev.sampleSet raw ones ok flux } := rfl
  rw [sampleSet_invalid s.dev raw ones ok flux h hf] at hex
  have hk := setCrossed_keeps s.dev ok
  generalize setCrossed s.dev ok = w at hk hex
  have hwm : w.metro = s.dev.metro := hk.get_metro rfl
  have hchan : ∀ c, (setRepeated w).chan c = (s.dev.chan c).again := fun c => by
    show (w.metro.chans.map Channel.again)[c] = _
    simp only [Fin.getElem_fin, Vector.getElem_map, hwm]
    rfl
  have hmeter : ∀ e, ((setRepeated w).meter e).n = (s.dev.meter e).n ∧ ((setRepeated w).meter e).flags = setBit (s.dev.meter e).flags 0 true := fun e => by
    have he : (setRepeated w).meter e = { s.dev.meter e with flags := setBit (s.dev.meter e).flags 0 true } := by
      show (w.metro.meters.map fun (m : Meter) => { m with flags := setBit m.flags 0 true })[e] = _
      simp only [Fin.getElem_fin, Vector.getElem_map, hwm]
      rfl
    rw [he]
    exact ⟨rfl, rfl⟩
  have hinv : (setRepeated w).metro.invalid = s.dev.metro.invalid + 1 := by
    show w.metro.invalid + 1 = _
    rw [hwm]
  have huk : Keeps 262144 w (setRepeated w) := keeps_metro (L := 262144) _ (by decide) (.refl _ _)
  generalize setRepeated w = u at hchan hmeter hinv huk hex
  have hrk : Keeps 4 u (repeatCounted u) :=
    (Keeps.foldl (a := u) _ (.refl _ _) fun e c he => he.trans (Dev.bump_keeps0 e _ _)).trans (Dev.bump_keeps0 _ _ _)
  generalize repeatCounted u = v at hrk hex
  have hvm : v.metro = u.metro := hrk.get_metro rfl
  obtain ⟨hsm, -, hsn⟩ := addSums_leaves v
  have hsk := Dev.addSums_keeps0 v
  generalize v.addSums = y at hsm hsn hsk hex
  have hkeep : Keeps 262180 s.dev y := (hk.mono (by decide)).trans ((huk.mono (by decide)).trans ((hrk.mono (by decide)).trans (hsk.mono (by decide))))
  have hvmeter : ∀ e, v.meter e = u.meter e := fun e => by unfold Dev.meter; rw [hvm]
  refine ⟨_, hex, fun c => ?_, ?_, fun e => ⟨?_, ?_⟩, ?_, Keeps.within (M := 262188) ((hkeep.mono (by decide)).trans
    (keeps_time (L := 262188) _ (by decide) (.refl _ _))) (by decide)⟩
  · rw [← hchan c]
    show y.metro.chans[c] = u.metro.chans[c]
    rw [hsm, hvm]
  · show y.metro.invalid = _
    rw [hsm, hvm, hinv]
  · show (y.meter e).n = _
    rw [(hsn e).1, hvmeter, (hmeter e).1]
  · show (y.meter e).flags = _
    rw [(hsn e).2, hvmeter, (hmeter e).2]
  · show ({ y.time with samples := y.time.samples + 1 } : TimeSt) = _
    rw [hkeep.get_time rfl]

/-! ### Failed channels (08 R207, R208; 13 R338 bit 16) -/

/-- Of a cause that the legal logbook does not take, the general one is told. -/
theorem logCause_log (l : List PortId) (bit : Nat) (raised : Bool) (m : Int) (d : Dev) (h : Dev.legalCause bit = false) :
    (d.logCause l bit raised m).heart.log = d.heart.log := by
  unfold Dev.logCause
  dsimp only
  rw [if_pos (by simp [h])]
  exact foldl_same (g := fun d (p : PortId) => d.general (.level1 p bit raised m)) (fun d => d.heart.log) (fun _ _ => rfl) l d

theorem raiseCause_log (l : List PortId) (bit : Nat) (m : Int) (d : Dev) (h : Dev.legalCause bit = false) :
    (d.raiseCause l bit m).heart.log = d.heart.log := by
  have hfold : ∀ new : List PortId, (new.foldl (fun d p => d.putNat (Key.level1Causes p) (setBit (d.causes p) bit true)) d).heart.log = d.heart.log :=
    fun new => foldl_same (fun d => d.heart.log) (fun e p => by rw [Dev.putNat_heart]) new d
  unfold Dev.raiseCause
  dsimp only
  split
  · exact hfold _
  · rw [logCause_log _ _ _ _ _ h, hfold]

theorem releaseCause_log (l : List PortId) (bit : Nat) (m : Int) (d : Dev) (h : Dev.legalCause bit = false) :
    (d.releaseCause l bit m).heart.log = d.heart.log := by
  have hfold : ∀ old : List PortId, (old.foldl (fun d p => (d.putNat (Key.level1Causes p) (setBit (d.causes p) bit false)).setPsafe p fun q =>
      { q with ramped := setBit q.ramped bit false }) d).heart.log = d.heart.log :=
    fun old => foldl_same (fun d => d.heart.log) (fun e p => by
      show (e.putNat _ _).heart.log = _
      rw [Dev.putNat_heart]) old d
  unfold Dev.releaseCause
  dsimp only
  split
  · exact hfold _
  · rw [logCause_log _ _ _ _ _ h, hfold]

theorem judgeOf_log (d : Dev) (c : Fin 68) : (d.judgeOf c).heart.log = d.heart.log := by
  unfold Dev.judgeOf
  split
  · unfold Dev.judgeChannels
    split
    · exact raiseCause_log _ _ _ _ (by decide)
    · split
      · rfl
      · exact releaseCause_log _ _ _ _ (by decide)
  · rfl

theorem judgeOf_metro (d : Dev) (c : Fin 68) : (d.judgeOf c).metro = d.metro := (Dev.judgeOf_keeps0 d c).get_metro rfl

/-- The channels in use follow from the modes, and from the sources. -/
theorem chanUsed_congr {d e : Dev} (hm : e.metro.meters = d.metro.meters) (hs : ∀ b, (e.chan b).source = (d.chan b).source) (c : Fin 68) :
    e.chanUsed c = d.chanUsed c := by
  unfold Dev.chanUsed Dev.usedChans Dev.meter
  simp only [hm, hs]

/-- The running period of a channel's entity flagged, where the channel is in use. -/
def failFlagged (d : Dev) (c : Fin 68) : Dev :=
  if d.chanUsed c then d.setMeter (entityOf c) fun m => { m with flags := setBit m.flags 3 true } else d

theorem failFlagged_leaves (d : Dev) (c : Fin 68) :
    (∀ b, (failFlagged d c).chan b = d.chan b) ∧
      (∀ e, (failFlagged d c).meter e = if e = entityOf c ∧ d.chanUsed c = true then { d.meter e with flags := setBit (d.meter e).flags 3 true }
        else d.meter e) ∧ Keeps 262144 d (failFlagged d c) := by
  unfold failFlagged
  by_cases hu : d.chanUsed c = true
  · rw [if_pos hu]
    refine ⟨fun _ => rfl, fun e => ?_, Dev.setMeter_keeps0 d _ _⟩
    by_cases he : e = entityOf c
    · subst he
      rw [if_pos ⟨rfl, hu⟩]
      exact Dev.meter_setMeter_same d _ _
    · rw [if_neg fun h => he h.1]
      exact Dev.meter_setMeter_other d _ he
  · rw [if_neg hu]
    exact ⟨fun _ => rfl, fun e => (if_neg fun h => hu h.2).symm, .refl _ _⟩

/-- A channel that stands fails by a lost bitstream. -/
theorem failChan_fresh (d : Dev) (c : Fin 68) (hf : (d.chan c).failed = 0) :
    d.failChan c 1 = (failFlagged ((d.setChan c fun ch => { ch with failed := 2, discard := 0, returning := false, afterFail := true }).legal 0x0301
      (entityOf c) [BitVec.ofNat 8 c.val, 1]) c).judgeOf c := by
  have hset : (d.setChan c fun ch => { ch with failed := setBit ch.failed 1 true, discard := 0, returning := false, afterFail := true }) =
      d.setChan c fun ch => { ch with failed := 2, discard := 0, returning := false, afterFail := true } := by
    have hf' : (d.metro.chans[c]).failed = 0 := hf
    unfold Dev.setChan vmod
    beta_reduce
    rw [hf']
    rfl
  unfold Dev.failChan
  dsimp only
  rw [hset, hf]
  simp only [if_true]
  rfl

/-- The first channel that fits. -/
theorem find?_channel {p : Fin 68 → Bool} {c : Fin 68} (hc : p c = true) (hfirst : ∀ b < c, p b = false) : (List.finRange 68).find? p = some c := by
  refine List.find?_eq_some_iff_getElem.2 ⟨hc, c.val, by simp, by simp, fun i hi => ?_⟩
  rw [List.getElem_finRange, hfirst _ (Fin.lt_def.2 hi)]
  rfl

/-- BITSTREAM_LOSS of the first channel on a still input: the channel fails, is flagged and logged (08 R192, R207). -/
theorem bitstreamLoss_leaves (s : State) (j : Fin 16) (c : Fin 68) (hs : s.dev.sampling = true) (hc : (s.dev.chan c).source = 0x10 + j.val)
    (hfirst : ∀ b : Fin 68, b < c → (s.dev.chan b).source ≠ 0x10 + j.val) (hf : (s.dev.chan c).failed = 0) (hj : 64 ≤ s.dev.metro.stuck[j])
    (hm : s.dev.rail .vddMem = true) :
    Completes (.bitstreamLoss j) s fun t =>
      t.dev.chan c = { s.dev.chan c with failed := 2, discard := 0, returning := false, afterFail := true } ∧
      (∀ b, b ≠ c → t.dev.chan b = s.dev.chan b) ∧
      (∀ e, t.dev.meter e = if e = entityOf c ∧ s.dev.chanUsed c = true then
        { s.dev.meter e with flags := setBit (s.dev.meter e).flags 3 true } else s.dev.meter e) ∧
      (∃ e ∈ t.dev.heart.log, e.code = 0x0301 ∧ e.entity = (entityOf c).val ∧ e.data = [BitVec.ofNat 8 c.val, 1]) ∧
      Within [.obj, .heart, .ports, .safety, .metro] s t := by
  obtain ⟨w, hw⟩ : ∃ w, w = s.dev.setChan c fun ch => { ch with failed := 2, discard := 0, returning := false, afterFail := true } := ⟨_, rfl⟩
  have hfind : (List.finRange 68).find? (fun b => decide ((s.dev.chan b).source = 0x10 + j.val)) = some c :=
    find?_channel (by simpa using hc) fun b hb => by simpa using hfirst b hb
  have hex : exec (.bitstreamLoss j) s =
      .next { s with dev := (failFlagged (w.legal 0x0301 (entityOf c) [BitVec.ofNat 8 c.val, 1]) c).judgeOf c } := by
    show State.onDev s _ = _
    rw [State.onDev, Dev.bitstreamLoss, if_neg (by simp [hs]; exact hj), hfind]
    dsimp only
    rw [if_neg (by simp [hf]), failChan_fresh s.dev c hf, hw]
  have hwc : w.chan c = { s.dev.chan c with failed := 2, discard := 0, returning := false, afterFail := true } := by
    rw [hw]; exact Dev.chan_setChan_same ..
  have hwo : ∀ b, b ≠ c → w.chan b = s.dev.chan b := fun b hb => by rw [hw]; exact Dev.chan_setChan_other _ _ hb
  have hwm : w.metro.meters = s.dev.metro.meters := by rw [hw]; rfl
  have hwk : Keeps 262144 s.dev w := by rw [hw]; exact Dev.setChan_keeps0 s.dev _ _
  have hsrc : ∀ b, (w.chan b).source = (s.dev.chan b).source := fun b => by
    by_cases hb : b = c
    · subst hb; rw [hwc]
    · rw [hwo b hb]
  obtain ⟨e, -, hcode, hent, hdata, -, hheart⟩ := Dev.legal_heart w 0x0301 (entityOf c) [BitVec.ofNat 8 c.val, 1]
    (by rw [Dev.rail, hwk.get_power rfl]; exact hm)
  have hlk := Dev.legal_keeps0 w 0x0301 (entityOf c) [BitVec.ofNat 8 c.val, 1]
  generalize w.legal 0x0301 (entityOf c) [BitVec.ofNat 8 c.val, 1] = v at hheart hlk hex
  have hvm : v.metro = w.metro := hlk.get_metro rfl
  have hused : v.chanUsed c = s.dev.chanUsed c :=
    chanUsed_congr (by rw [hvm, hwm]) (fun b => by rw [← hsrc b]; unfold Dev.chan; rw [hvm]) c
  have hvchan : ∀ b, v.chan b = w.chan b := fun b => by unfold Dev.chan; rw [hvm]
  have hvmeter : ∀ e, v.meter e = s.dev.meter e := fun e => by unfold Dev.meter; rw [hvm, hwm]
  obtain ⟨hfc, hfm, hfk⟩ := failFlagged_leaves v c
  rw [hused] at hfm
  generalize failFlagged v c = y at hfc hfm hfk hex
  have hjm := judgeOf_metro y c
  have hjl := judgeOf_log y c
  have hjk := Dev.judgeOf_keeps0 y c
  generalize y.judgeOf c = u at hjm hjl hjk hex
  have huc : ∀ b, u.chan b = w.chan b := fun b => by rw [← hvchan, ← hfc b]; unfold Dev.chan; rw [hjm]
  refine ⟨_, hex, (huc c).trans hwc, fun b hb => (huc b).trans (hwo b hb), fun x => ?_, ⟨e, ?_, hcode, hent, hdata⟩,
    Keeps.within (M := 417796) ((hwk.mono (by decide)).trans ((hlk.mono (by decide)).trans ((hfk.mono (by decide)).trans (hjk.mono (by decide)))))
      (by decide)⟩
  · show u.meter x = _
    unfold Dev.meter at hfm ⊢
    rw [hjm, hfm]
    have hx := hvmeter x
    unfold Dev.meter at hx
    rw [hx]
  · show e ∈ u.heart.log
    rw [hjl, hfk.get_heart rfl, hheart]
    exact List.mem_cons_self

/-- A channel counts again, as told. -/
def returnTold (d : Dev) (c : Fin 68) (told : Bool) : Dev := if told then d.legal 0x0302 (entityOf c) [BitVec.ofNat 8 c.val] else d

theorem returnTold_leaves (d : Dev) (c : Fin 68) (told : Bool) (hm : d.rail .vddMem = true) :
    (told = true → ∃ e ∈ (returnTold d c told).heart.log, e.code = 0x0302 ∧ e.data = [BitVec.ofNat 8 c.val]) ∧ Keeps 8192 d (returnTold d c told) := by
  unfold returnTold
  cases told with
  | false => exact ⟨fun h => absurd h (by decide), .refl _ _⟩
  | true =>
    obtain ⟨e, -, hcode, -, hdata, -, hheart⟩ := Dev.legal_heart d 0x0302 (entityOf c) [BitVec.ofNat 8 c.val] hm
    refine ⟨fun _ => ⟨e, ?_, hcode, hdata⟩, Dev.legal_keeps0 d _ _ _⟩
    show e ∈ (d.legal _ _ _).heart.log
    rw [hheart]
    exact List.mem_cons_self

/-- CHANNEL_DISCARD_END: the channel counts again (08 R208). -/
theorem channelDiscardEnd_leaves (s : State) (c : Fin 68) (hs : s.dev.sampling = true) (hr : (s.dev.chan c).returning = true)
    (hd : (s.dev.chan c).discard = 0) (hf : (s.dev.chan c).failed = 0) (hm : s.dev.rail .vddMem = true) :
    Completes (.channelDiscardEnd c) s fun t =>
      t.dev.chan c = { s.dev.chan c with
        returning := false, afterFail := false } ∧ (∀ b, b ≠ c → t.dev.chan b = s.dev.chan b) ∧
      ((s.dev.chan c).afterFail = true → ∃ e ∈ t.dev.heart.log, e.code = 0x0302 ∧ e.data = [BitVec.ofNat 8 c.val]) ∧
      Within [.obj, .heart, .ports, .safety, .metro] s t := by
  have hex : exec (.channelDiscardEnd c) s = .next { s with
      dev := (returnTold (s.dev.setChan c fun ch => { ch with returning := false, afterFail := false }) c (s.dev.chan c).afterFail).judgeOf c } := by
    show State.onDev s _ = _
    rw [State.onDev, Dev.channelDiscardEnd]
    dsimp only
    rw [if_pos ⟨hs, hr, hd, hf⟩]
    rfl
  have hwc : (s.dev.setChan c fun ch => { ch with returning := false, afterFail := false }).chan c =
      { s.dev.chan c with returning := false, afterFail := false } := Dev.chan_setChan_same ..
  have hwo : ∀ b, b ≠ c → (s.dev.setChan c fun ch => { ch with returning := false, afterFail := false }).chan b = s.dev.chan b := fun b hb =>
    Dev.chan_setChan_other _ _ hb
  have hwk := Dev.setChan_keeps0 s.dev c fun ch => { ch with returning := false, afterFail := false }
  generalize (s.dev.setChan c fun ch => { ch with returning := false, afterFail := false }) = w at hwc hwo hwk hex
  obtain ⟨htold, htk⟩ := returnTold_leaves w c (s.dev.chan c).afterFail (by rw [Dev.rail, hwk.get_power rfl]; exact hm)
  generalize returnTold w c (s.dev.chan c).afterFail = v at htold htk hex
  have hjm := judgeOf_metro v c
  have hjl := judgeOf_log v c
  have hjk := Dev.judgeOf_keeps0 v c
  generalize v.judgeOf c = u at hjm hjl hjk hex
  have huc : ∀ b, u.chan b = w.chan b := fun b => by unfold Dev.chan; rw [hjm, htk.get_metro rfl]
  refine ⟨_, hex, (huc c).trans hwc, fun b hb => (huc b).trans (hwo b hb), fun h => ?_,
    Keeps.within (M := 417796) ((hwk.mono (by decide)).trans ((htk.mono (by decide)).trans (hjk.mono (by decide)))) (by decide)⟩
  obtain ⟨e, he, hcode, hdata⟩ := htold h
  refine ⟨e, ?_, hcode, hdata⟩
  show e ∈ u.heart.log
  rw [hjl]
  exact he

/-! ### The measurement die and its temperature (08 R203, R205) -/

/-- The clock-fault flag of Firebreak. -/
def clockFaulted (d : Dev) : Bool := d.safety.clockFault

theorem dropFor_clockFaulted (d : Dev) (p : PortId) (reason : Nat) : clockFaulted (d.dropFor p reason) = clockFaulted d := by
  unfold Dev.dropFor
  dsimp only
  split <;> rfl

theorem dropAll_clockFaulted (d : Dev) (reason : Nat) : clockFaulted (d.dropAll reason) = clockFaulted d :=
  foldl_same clockFaulted (fun d p => by
    split
    · exact dropFor_clockFaulted d p reason
    · rfl) _ d

/-- The clock fault drops every port, and the restart of the die is waited for. -/
theorem clockFaultAll_leaves (d : Dev) : d.clockFaultAll.safety.clockFault = true ∧ d.clockFaultAll.allLow := by
  obtain ⟨w, hw⟩ : ∃ w : Dev, w = { d with safety := { d.safety with clockFault := true } } := ⟨_, rfl⟩
  have heq : d.clockFaultAll = (((w.raiseCause Dev.allPorts 19 0).holdAgain).dropAll 3).driveSafeOut.settle := by rw [hw]; rfl
  have hr : (w.raiseCause Dev.allPorts 19 0).safety.clockFault = true := by rw [raiseCause_safety, hw]
  rw [heq]
  generalize w.raiseCause Dev.allPorts 19 0 = v at hr
  have hh : v.holdAgain.safety.clockFault = true := by
    unfold Dev.holdAgain
    rw [raiseCause_safety]
    exact hr
  generalize v.holdAgain = u at hh
  have hd : (u.dropAll 3).safety.clockFault = true := (dropAll_clockFaulted u 3).trans hh
  have hl := dropAll_low u 3
  generalize u.dropAll 3 = y at hd hl
  have hs : y.driveSafeOut.settle.safety = y.safety := by rw [(Dev.settle_keeps0 _).get_safety rfl, (Dev.driveSafeOut_keeps0 _).get_safety rfl]
  exact ⟨by rw [hs]; exact hd, allLow_of_safety hs hl⟩

/-- MEASUREMENT_DIE_LOST: 32 invalid sets in a row lose the die, and every port opens (08 R205). -/
theorem measurementDieLost_leaves (s : State) (hp : s.dev.powered = true) (hr : s.dev.metro.running = true) (hl : s.dev.metro.lost = false)
    (hi : 32 ≤ s.dev.metro.invalid) :
    Completes .measurementDieLost s fun t =>
      t.dev.metro.lost = true ∧ t.dev.safety.clockFault = true ∧ (∀ p, (t.dev.psafe p).enA = false ∧ (t.dev.psafe p).enB = false) ∧
      Within [.free, .out, .obj, .crossings, .hosts, .heart, .ports, .site, .safety, .metro, .energy, .tariff, .ledger, .burl, .display, .held] s t := by
  have hex : exec .measurementDieLost s =
      .next { s with dev := { s.dev.metrologyLost with metro := { s.dev.metrologyLost.metro with lost := true } } } := by
    show State.onDev s _ = _
    rw [State.onDev, Dev.measurementDieLost, if_pos ⟨hp, hr, by simp [hl], hi⟩]
  have hk := Dev.metrologyLost_keeps0 s.dev
  obtain ⟨hfault, hlow⟩ := clockFaultAll_leaves (s.dev.finalCommit.legal 0x0106 0xFF [])
  have heq : s.dev.metrologyLost = (s.dev.finalCommit.legal 0x0106 0xFF []).clockFaultAll := rfl
  rw [← heq] at hfault hlow
  generalize s.dev.metrologyLost = w at hk hfault hlow hex
  exact ⟨_, hex, rfl, hfault, hlow, Keeps.within (M := 213872679) (keeps_metro (L := 213872679) _ (by decide) hk) (by decide)⟩

/-- The band one step nearer to a reading of the die, 0.75 °C beyond its edge (08 R203). -/
def dieBand (d : Dev) (x : Int) : Nat :=
  let b := d.nat Key.decidedBand
  if b < 7 ∧ d.edge (b + 1) + 12 ≤ x then b + 1 else if 0 < b ∧ x < d.edge b - 12 then b - 1 else b

/-- A reading moves the band, or leaves it. -/
theorem dieTemperature_moves (d w : Dev) (x : Int) (hs : d.sampling = true) (hw : w = d.putInt Key.dieTemperature x) (hb : w.metro.bandSet = true)
    (hband : w.nat Key.decidedBand = d.nat Key.decidedBand) (hedge : ∀ i, w.edge i = d.edge i) :
    d.dieTemperature x = w.putNat Key.decidedBand (dieBand d x) ∨ d.dieTemperature x = w ∧ dieBand d x = d.nat Key.decidedBand := by
  unfold Dev.dieTemperature dieBand
  rw [if_neg (by simp [hs]), ← hw]
  dsimp only
  rw [if_neg (by simp [hb]), hband]
  simp only [hedge]
  split
  · exact .inl rfl
  · split
    · exact .inl rfl
    · exact .inr ⟨rfl, rfl⟩

/-- DIE_TEMPERATURE_READING after the first (08 R203). -/
theorem dieTemperature_leaves (s : State) (x : Int) (hs : s.dev.sampling = true) (hb : s.dev.metro.bandSet = true) :
    Completes (.dieTemperatureReading x) s fun t =>
      t.dev.int Key.dieTemperature = x ∧ t.dev.nat Key.decidedBand = dieBand s.dev x ∧ Only [] [Key.dieTemperature, Key.decidedBand] s t := by
  have hex : exec (.dieTemperatureReading x) s = .next { s with dev := s.dev.dieTemperature x } := rfl
  obtain ⟨w, hw⟩ : ∃ w, w = s.dev.putInt Key.dieTemperature x := ⟨_, rfl⟩
  have hwi : w.int Key.dieTemperature = x := by rw [hw, Dev.int_putInt]
  have hwv : ∀ k, k ≠ Key.dieTemperature → w.val k = s.dev.val k := fun k hk => by rw [hw, Dev.val_putInt_other _ _ (Ne.symm hk)]
  have hwk : Keeps 4 s.dev w := by rw [hw]; exact Dev.putInt_keeps0 s.dev _ _
  have hband : w.nat Key.decidedBand = s.dev.nat Key.decidedBand := nat_of_val (hwv _ (by decide))
  have hedge : ∀ i, w.edge i = s.dev.edge i := fun i => by unfold Dev.edge; rw [hwk.get_metro rfl]
  rcases dieTemperature_moves s.dev w x hs hw (by rw [hwk.get_metro rfl, hb]) hband hedge with h | ⟨h, hn⟩
  · rw [h] at hex
    refine ⟨_, hex, (Dev.int_putNat_other _ _ (by decide)).trans hwi, Dev.nat_putNat _ _ _, (hwk.trans (Dev.putNat_keeps0 w _ _)).only
      (by decide) fun k hk => ?_⟩
    simp only [List.mem_cons, List.not_mem_nil, or_false, not_or] at hk
    exact (Dev.val_putNat_other _ _ (Ne.symm hk.2)).trans (hwv k hk.1)
  · rw [h] at hex
    exact ⟨_, hex, hwi, hband.trans hn.symm, hwk.only (by decide) fun k hk => hwv k (by simp only [List.mem_cons, not_or] at hk; exact hk.1)⟩

/-- Settles O34: valid sets reach the sums, invalid ones repeat and count, channels fail and return. -/
theorem samplesReachTheSums : Obligations.SamplesReachTheSums := by
  unfold Obligations.SamplesReachTheSums
  intro quiet
  have hquiet : ∀ s, quiet s → Quiet s.dev := fun s ⟨h1, h2, h3, h4⟩ => ⟨h1, h2, h3, h4⟩
  exact ⟨fun s raw ones h hp => sampleSet_taken s raw ones (hquiet s h) hp,
    fun s raw ones ok flux h hf => sampleSet_repeated s raw ones ok flux (hquiet s h) hf, measurementDieLost_leaves, bitstreamLoss_leaves,
    channelDiscardEnd_leaves, dieTemperature_leaves⟩

end Sys2Proof.Machine
end

section
/-! PROOFS. Zero crossings, period boundaries, DC plausibility, calibration measurements (08 R198 to R204, R209; objects 0x3001). -/

namespace Sys2Proof.Machine

/-! ### Crossings (08 R198, R199; 02 R56) -/

/-- A crossing is accepted when it is the first, or comes 14.286 to 25.000 ms after the one before. -/
def crossingOk (m : Meter) (time : Nat) : Bool :=
  match m.lastX with
  | none => true
  | some t => decide (t < time ∧ 14286 * 32768 ≤ (time - t) * 1000 ∧ time - t ≤ 819200)

/-- Is a channel the reference of an entity, of which crossings place the boundaries? -/
def refers (c : Fin 68) (e : EntityId) (m : Meter) : Bool := decide ((if e.val = 8 then 0 else m.ref) = c.val ∧ m.mode ≠ 3)

/-- Is a crossing of a channel taken by an entity? -/
def takesCrossing (c : Fin 68) (time : Nat) (e : EntityId) (m : Meter) : Bool := refers c e m && decide (m.pendX = none) && crossingOk m time

/-- The meter of an entity that has taken a crossing. -/
def crossedMeter (time : Nat) (delay : Int) (m : Meter) : Meter :=
  { m with lastX := some time, pendX := some (time, (((time : Int) + 48 * 1024 + delay + 1023) / 1024).toNat), noRef := false }

/-- The site's crossing goes to I3. -/
def crossingSent (d : Dev) (time : Nat) (e : EntityId) : Dev :=
  if e.val = 8 then { d with canopy := { d.canopy with own := some time } } else d

/-- One entity takes the crossing. -/
def crossEntity (c : Fin 68) (time : Nat) (delay : Int) (d : Dev) (e : EntityId) : Dev :=
  if takesCrossing c time e (d.meter e) then crossingSent (d.setMeter e (crossedMeter time delay)) time e else d

theorem crossingSent_metro (d : Dev) (time : Nat) (e : EntityId) : (crossingSent d time e).metro = d.metro := by
  unfold crossingSent
  split <;> rfl

theorem crossingSent_keeps (d : Dev) (time : Nat) (e : EntityId) : Keeps 33554432 d (crossingSent d time e) := by
  unfold crossingSent
  exact .ite (keeps_canopy _ (by decide) (.refl _ _)) (.refl _ _)

section
variable (c : Fin 68) (time : Nat) (delay : Int) (d : Dev) (e : EntityId)

theorem crossEntity_taken (h : takesCrossing c time e (d.meter e) = true) :
    crossEntity c time delay d e = crossingSent (d.setMeter e (crossedMeter time delay)) time e := if_pos h

theorem crossEntity_not (h : ¬ takesCrossing c time e (d.meter e) = true) : crossEntity c time delay d e = d := if_neg h

theorem crossEntity_same : (crossEntity c time delay d e).meter e =
    if takesCrossing c time e (d.meter e) then crossedMeter time delay (d.meter e) else d.meter e := by
  by_cases h : takesCrossing c time e (d.meter e) = true
  · rw [crossEntity_taken c time delay d e h, if_pos h]
    unfold Dev.meter
    rw [crossingSent_metro]
    exact Dev.meter_setMeter_same d e _
  · rw [crossEntity_not c time delay d e h, if_neg h]

theorem crossEntity_other {x : EntityId} (h : x ≠ e) : (crossEntity c time delay d e).meter x = d.meter x := by
  by_cases ht : takesCrossing c time e (d.meter e) = true
  · rw [crossEntity_taken c time delay d e ht]
    unfold Dev.meter
    rw [crossingSent_metro]
    exact Dev.meter_setMeter_other d _ h
  · rw [crossEntity_not c time delay d e ht]

theorem crossEntity_chan (b : Fin 68) : (crossEntity c time delay d e).chan b = d.chan b := by
  by_cases ht : takesCrossing c time e (d.meter e) = true
  · rw [crossEntity_taken c time delay d e ht]
    unfold Dev.chan
    rw [crossingSent_metro]
    rfl
  · rw [crossEntity_not c time delay d e ht]

/-- An accepted crossing of the site's reference is channel 0's. -/
theorem crossEntity_own : (crossEntity c time delay d e).canopy.own = d.canopy.own ∨ c = 0 ∧ (crossEntity c time delay d e).canopy.own = some time := by
  by_cases ht : takesCrossing c time e (d.meter e) = true
  · rw [crossEntity_taken c time delay d e ht]
    unfold crossingSent
    split
    · next h8 =>
      refine .inr ⟨Fin.ext ?_, rfl⟩
      simp only [takesCrossing, refers, if_pos h8, Bool.and_eq_true, decide_eq_true_eq] at ht
      exact ht.1.1.1.symm
    · exact .inl rfl
  · rw [crossEntity_not c time delay d e ht]
    exact .inl rfl

theorem crossEntity_keeps : Keeps 33816576 d (crossEntity c time delay d e) := by
  by_cases ht : takesCrossing c time e (d.meter e) = true
  · rw [crossEntity_taken c time delay d e ht]
    exact ((Dev.setMeter_keeps0 d e _).mono (by decide)).trans ((crossingSent_keeps _ time e).mono (by decide))
  · rw [crossEntity_not c time delay d e ht]
    exact .refl _ _

end

theorem zeroCrossing_taken (d : Dev) (c : Fin 68) (time : Nat) (hs : d.sampling = true) (hf : (d.chan c).failed = 0)
    (hfound : (d.chan c).found = some (time + 24576)) (hp : d.passes 0x03 = true) :
    d.zeroCrossing c time = (List.finRange 9).foldl (crossEntity c time (d.chan c).delay) (d.setChan c fun ch => { ch with found := none }) := by
  have hp' : (d.setChan c fun ch => { ch with found := none }).passes 0x03 = true := hp
  unfold Dev.zeroCrossing
  rw [if_neg (by simp [hs, hf, hfound])]
  dsimp only
  rw [if_neg (by simp [hp'])]
  congr 1
  funext a e
  by_cases ht : takesCrossing c time e (a.meter e) = true
  · rw [crossEntity_taken c time _ a e ht]
    simp only [takesCrossing, refers, Bool.and_eq_true, decide_eq_true_eq] at ht
    obtain ⟨⟨⟨href, hmode⟩, hpend⟩, hok⟩ := ht
    rw [if_pos ⟨href, hmode, hpend, hok⟩]
    rfl
  · rw [crossEntity_not c time _ a e ht]
    refine if_neg fun ⟨href, hmode, hpend, hok⟩ => ht ?_
    simp only [takesCrossing, refers, Bool.and_eq_true, decide_eq_true_eq]
    exact ⟨⟨⟨href, hmode⟩, hpend⟩, hok⟩

/-- One entity whose reference a lost crossing was. -/
def missEntity (c : Fin 68) (d : Dev) (e : EntityId) : Dev :=
  if refers c e (d.meter e) then d.setMeter e fun m => { m with lastX := none, flags := setBit m.flags 2 true } else d

theorem crossingMissed_eq (d : Dev) (c : Fin 68) : d.crossingMissed c = (List.finRange 9).foldl (missEntity c) d := by
  unfold Dev.crossingMissed
  congr 1
  funext a e
  unfold missEntity refers
  simp only [decide_eq_true_eq]

theorem missEntity_leaves (c : Fin 68) (d : Dev) (e : EntityId) :
    (missEntity c d e).meter e = (if refers c e (d.meter e) then { d.meter e with lastX := none, flags := setBit (d.meter e).flags 2 true } else d.meter e) ∧
      (∀ x, x ≠ e → (missEntity c d e).meter x = d.meter x) ∧ (∀ b, (missEntity c d e).chan b = d.chan b) ∧ Keeps 262144 d (missEntity c d e) := by
  by_cases h : refers c e (d.meter e) = true
  · have heq : missEntity c d e = d.setMeter e fun m => { m with lastX := none, flags := setBit m.flags 2 true } := if_pos h
    rw [heq, if_pos h]
    exact ⟨Dev.meter_setMeter_same d e _, fun x hx => Dev.meter_setMeter_other d _ hx, fun _ => rfl, Dev.setMeter_keeps0 d e _⟩
  · have heq : missEntity c d e = d := if_neg h
    rw [heq, if_neg h]
    exact ⟨rfl, fun _ _ => rfl, fun _ => rfl, .refl _ _⟩

theorem zeroCrossing_missed (d : Dev) (c : Fin 68) (time : Nat) (hs : d.sampling = true) (hf : (d.chan c).failed = 0)
    (hfound : (d.chan c).found = some (time + 24576)) (hp : d.passes 0x03 = false) :
    d.zeroCrossing c time = (List.finRange 9).foldl (missEntity c) (d.setChan c fun ch => { ch with found := none }) := by
  have hp' : (d.setChan c fun ch => { ch with found := none }).passes 0x03 = false := hp
  unfold Dev.zeroCrossing
  rw [if_neg (by simp [hs, hf, hfound])]
  dsimp only
  rw [if_pos (by simp [hp']), crossingMissed_eq]

/-- The channel whose crossing is taken has found none. -/
theorem setFound_leaves (d : Dev) (c : Fin 68) :
    (d.setChan c fun ch => { ch with found := none }).chan c = { d.chan c with found := none } ∧
      (∀ b, b ≠ c → (d.setChan c fun ch => { ch with found := none }).chan b = d.chan b) ∧
      (∀ e, (d.setChan c fun ch => { ch with found := none }).meter e = d.meter e) ∧
      Keeps 262144 d (d.setChan c fun ch => { ch with found := none }) :=
  ⟨Dev.chan_setChan_same .., fun _ hb => Dev.chan_setChan_other _ _ hb, fun _ => rfl, Dev.setChan_keeps0 d c _⟩

/-- ZERO_CROSSING: every entity whose reference it is takes the crossing when it is accepted (08 R198, R199). -/
theorem zeroCrossing_leaves (s : State) (c : Fin 68) (time : Nat) (hs : s.dev.sampling = true) (hf : (s.dev.chan c).failed = 0)
    (hfound : (s.dev.chan c).found = some (time + 24576)) (hp : s.dev.passes 0x03 = true) :
    Completes (.zeroCrossing c time) s fun t =>
      (∀ e, t.dev.meter e = if takesCrossing c time e (s.dev.meter e) then crossedMeter time (s.dev.chan c).delay (s.dev.meter e) else s.dev.meter e) ∧
      (t.dev.chan c = { s.dev.chan c with found := none } ∧ ∀ b, b ≠ c → t.dev.chan b = s.dev.chan b) ∧
      (t.dev.canopy.own = s.dev.canopy.own ∨ c = 0 ∧ t.dev.canopy.own = some time) ∧ Only [.metro, .canopy] [] s t := by
  have hex : exec (.zeroCrossing c time) s = .next { s with dev := s.dev.zeroCrossing c time } := rfl
  rw [zeroCrossing_taken s.dev c time hs hf hfound hp] at hex
  generalize (s.dev.chan c).delay = delay at hex ⊢
  obtain ⟨hwc, hwo, hwm, hwk⟩ := setFound_leaves s.dev c
  generalize (s.dev.setChan c fun ch => { ch with found := none }) = w at hwc hwo hwm hwk hex
  have hchan : ∀ b, ((List.finRange 9).foldl (crossEntity c time delay) w).chan b = w.chan b := fun b =>
    foldl_same (fun d => d.chan b) (fun d e => crossEntity_chan c time delay d e b) _ w
  have hmeter : ∀ e, ((List.finRange 9).foldl (crossEntity c time delay) w).meter e =
      if takesCrossing c time e (w.meter e) then crossedMeter time delay (w.meter e) else w.meter e := fun e =>
    foldl_place (read := Dev.meter) (R := fun e m (y : Meter) => y = if takesCrossing c time e m then crossedMeter time delay m else m)
      (fun d e x hx => crossEntity_other c time delay d e hx) (fun d e => crossEntity_same c time delay d e) _ w (List.nodup_finRange 9)
      (List.mem_finRange e)
  have hown : ((List.finRange 9).foldl (crossEntity c time delay) w).canopy.own = w.canopy.own ∨
      c = 0 ∧ ((List.finRange 9).foldl (crossEntity c time delay) w).canopy.own = some time :=
    foldl_keeps_prop (P := fun d => d.canopy.own = w.canopy.own ∨ c = 0 ∧ d.canopy.own = some time)
      (fun d e hd => (crossEntity_own c time delay d e).elim (fun h => hd.imp h.trans fun hc => ⟨hc.1, h.trans hc.2⟩) .inr) _ (.inl rfl)
  have hkeep : Keeps 33816576 w ((List.finRange 9).foldl (crossEntity c time delay) w) :=
    Keeps.foldl _ (.refl _ _) fun d e hd => hd.trans (crossEntity_keeps c time delay d e)
  generalize (List.finRange 9).foldl (crossEntity c time delay) w = u at hchan hmeter hown hkeep hex
  rw [hwk.get_canopy rfl] at hown
  refine ⟨_, hex, fun e => ?_, ⟨(hchan c).trans hwc, fun b hb => (hchan b).trans (hwo b hb)⟩, hown, ((hwk.mono (by decide)).trans hkeep).only_nil rfl
    (by decide)⟩
  exact (hmeter e).trans (by rw [hwm])

/-- ZERO_CROSSING that crossing 0x03 loses: alignment is acquired anew, and the running period flagged (02 R56). -/
theorem zeroCrossing_lost (s : State) (c : Fin 68) (time : Nat) (hs : s.dev.sampling = true) (hf : (s.dev.chan c).failed = 0)
    (hfound : (s.dev.chan c).found = some (time + 24576)) (hp : s.dev.passes 0x03 = false) :
    Completes (.zeroCrossing c time) s fun t =>
      (∀ e, t.dev.meter e = if refers c e (s.dev.meter e) then
        { s.dev.meter e with lastX := none, flags := setBit (s.dev.meter e).flags 2 true } else s.dev.meter e) ∧
      (t.dev.chan c = { s.dev.chan c with found := none } ∧ ∀ b, b ≠ c → t.dev.chan b = s.dev.chan b) ∧ Only [.metro] [] s t := by
  have hex : exec (.zeroCrossing c time) s = .next { s with dev := s.dev.zeroCrossing c time } := rfl
  rw [zeroCrossing_missed s.dev c time hs hf hfound hp] at hex
  obtain ⟨hwc, hwo, hwm, hwk⟩ := setFound_leaves s.dev c
  generalize (s.dev.setChan c fun ch => { ch with found := none }) = w at hwc hwo hwm hwk hex
  have hchan : ∀ b, ((List.finRange 9).foldl (missEntity c) w).chan b = w.chan b := fun b =>
    foldl_same (fun d => d.chan b) (fun d e => (missEntity_leaves c d e).2.2.1 b) _ w
  have hmeter : ∀ e, ((List.finRange 9).foldl (missEntity c) w).meter e =
      if refers c e (w.meter e) then { w.meter e with lastX := none, flags := setBit (w.meter e).flags 2 true } else w.meter e := fun e =>
    foldl_place (read := Dev.meter)
      (R := fun e m (y : Meter) => y = if refers c e m then { m with lastX := none, flags := setBit m.flags 2 true } else m)
      (fun d e x hx => (missEntity_leaves c d e).2.1 x hx) (fun d e => (missEntity_leaves c d e).1) _ w (List.nodup_finRange 9) (List.mem_finRange e)
  have hkeep : Keeps 262144 w ((List.finRange 9).foldl (missEntity c) w) :=
    Keeps.foldl _ (.refl _ _) fun d e hd => hd.trans (missEntity_leaves c d e).2.2.2
  generalize (List.finRange 9).foldl (missEntity c) w = u at hchan hmeter hkeep hex
  refine ⟨_, hex, fun e => ?_, ⟨(hchan c).trans hwc, fun b hb => (hchan b).trans (hwo b hb)⟩, (hwk.trans hkeep).only_nil rfl (by decide)⟩
  exact (hmeter e).trans (by rw [hwm])

/-! ### Boundaries (08 R199 to R204; 09 R219) -/

/-- The sums of the running period. -/
def runningSums (m : Meter) : Nat × Nat × Nat × Vector Int 3 × Vector Int 3 × Nat := (m.seq, m.n, m.startN, m.sp, m.sq, m.sr)

/-- What waits for a boundary of an entity comes into force: its sums and every other entity's meter stand. -/
structure Latched (e : EntityId) (a b : Dev) : Prop where
  others : ∀ x, x ≠ e → b.meter x = a.meter x
  sums : runningSums (b.meter e) = runningSums (a.meter e)
  told : (b.meter e).told = (a.meter e).told
  lastX : (a.meter e).lastX = none → (b.meter e).lastX = none

section
variable {e : EntityId} {a b c : Dev}

theorem Latched.refl (a : Dev) : Latched e a a := ⟨fun _ _ => rfl, rfl, rfl, id⟩

theorem Latched.trans (h : Latched e a b) (g : Latched e b c) : Latched e a c :=
  ⟨fun x hx => (g.others x hx).trans (h.others x hx), g.sums.trans h.sums, g.told.trans h.told, fun hl => g.lastX (h.lastX hl)⟩

theorem Latched.of_meters (h : b.metro.meters = a.metro.meters) : Latched e a b := by
  have hm : ∀ x, b.meter x = a.meter x := fun x => by unfold Dev.meter; rw [h]
  exact ⟨fun x _ => hm x, by rw [hm], by rw [hm], fun hl => by rw [hm]; exact hl⟩

theorem Latched.of_keeps {M : Nat} (h : Keeps M a b) (hm : M.testBit 18 = false) : Latched e a b := by
  have hs : a.metro = b.metro := h .metro hm
  exact .of_meters (by rw [hs])

theorem Latched.setMeter (a : Dev) (f : Meter → Meter) (hs : ∀ m, runningSums (f m) = runningSums m) (ht : ∀ m, (f m).told = m.told)
    (hl : ∀ m, m.lastX = none → (f m).lastX = none) : Latched e a (a.setMeter e f) :=
  ⟨fun _ hx => Dev.meter_setMeter_other a f hx, by rw [Dev.meter_setMeter_same, hs], by rw [Dev.meter_setMeter_same, ht], fun h => by
    rw [Dev.meter_setMeter_same]; exact hl _ h⟩

theorem Latched.ite {p : Prop} [Decidable p] (h : Latched e a b) (g : Latched e a c) : Latched e a (if p then b else c) := by
  split
  · exact h
  · exact g

theorem Latched.andIf {p : Prop} [Decidable p] (h : Latched e a b) (g : Latched e b c) : Latched e a (if p then c else b) := .ite (h.trans g) h

theorem Latched.setChan (a : Dev) (c : Fin 68) (f : Channel → Channel) : Latched e a (a.setChan c f) := .of_meters rfl

theorem Latched.foldl {α : Type} {g : Dev → α → Dev} (l : List α) (h : ∀ d, ∀ x ∈ l, Latched e d (g d x)) (a : Dev) : Latched e a (l.foldl g a) := by
  induction l generalizing a with
  | nil => exact .refl a
  | cons x r ih => exact (h a x List.mem_cons_self).trans (ih (fun d y hy => h d y (List.mem_cons_of_mem _ hy)) _)

end

section
variable (d : Dev) (c : Fin 68)

theorem failChan_latched (cause : Nat) : Latched (entityOf c) d (d.failChan c cause) := by
  unfold Dev.failChan
  dsimp only
  refine Latched.trans ?_ (.of_keeps (Dev.judgeOf_keeps0 _ c) rfl)
  refine Latched.andIf ?_ (.setMeter _ _ (fun _ => rfl) (fun _ => rfl) fun _ h => h)
  exact Latched.andIf (.setChan d c _) (.of_keeps (Dev.legal_keeps0 _ _ _ _) rfl)

theorem startDiscard_latched (e : EntityId) (after : Bool) : Latched e d (d.startDiscard c after) := .of_meters rfl

theorem unfailChan_latched (e : EntityId) (cause : Nat) : Latched e d (d.unfailChan c cause) := by
  unfold Dev.unfailChan
  dsimp only
  exact .ite (.refl _) (.andIf (.setChan d c _) (startDiscard_latched _ c e true))

theorem judgeSettings_latched : Latched (entityOf c) d (d.judgeSettings c) := by
  have hjudge : ∀ (v : Dev) (p q : Bool) (cause : Nat),
      Latched (entityOf c) v (if p = true then (if q = true then v else v.failChan c cause) else v.unfailChan c cause) := fun v p q cause =>
    .ite (.ite (.refl _) (failChan_latched v c cause)) (unfailChan_latched v c _ cause)
  unfold Dev.judgeSettings
  dsimp only
  exact Latched.trans (hjudge d _ _ 3) (hjudge _ _ _ 4)

theorem latchChan_latched (b : Nat) : Latched (entityOf c) d (d.latchChan c b) := by
  unfold Dev.latchChan
  dsimp only
  refine Latched.trans ?_ (judgeSettings_latched _ c)
  refine Latched.andIf ?_ (startDiscard_latched _ c _ false)
  exact Latched.andIf (.setChan d c _) (.setChan _ c _)

end

theorem chansOf_entity {e : EntityId} {c : Fin 68} (h : c ∈ chansOf e) : entityOf c = e := by
  simpa [chansOf] using h

/-- The site's settings in force. -/
def siteLatched (d : Dev) (m : Meter) : Meter :=
  { m with
    band := d.nat Key.decidedBand
    set := ⟨0, 0, 0, 0, false, 0, d.nat Key.siteNominalVoltage, 0, 0, 0, d.nat Key.nominalFrequency⟩ }

/-- What waits for a boundary of an entity comes into force. -/
theorem latchEntity_latched (d : Dev) (e : EntityId) : Latched e d (d.latchEntity e) := by
  have hchans : ∀ (v : Dev) (b : Nat), Latched e v ((chansOf e).foldl (fun d c => d.latchChan c b) v) := fun v b =>
    .foldl _ (fun d c hc => by rw [← chansOf_entity hc]; exact latchChan_latched d c b) v
  unfold Dev.latchEntity
  cases hp : entityPort e with
  | none =>
    dsimp only
    refine Latched.trans ?_ (hchans _ _)
    refine Latched.trans (b := d.setMeter e (siteLatched d)) ?_ (.of_meters rfl)
    exact .setMeter _ _ (fun _ => rfl) (fun _ => rfl) fun _ h => h
  | some p =>
    dsimp only
    refine Latched.trans (Latched.trans ?_ (hchans _ _)) (.of_keeps (Dev.judgeChannels_keeps0 _ p) rfl)
    refine Latched.trans ?_ (Latched.of_keeps (M := 4) (Dev.putNat_keeps0 _ _ _) (by decide))
    refine .setMeter _ _ (fun _ => rfl) (fun _ => rfl) fun m h => ?_
    dsimp only
    split
    · exact h
    · rfl

theorem trimHeld_latched (d : Dev) (e : EntityId) : Latched e d (d.trimHeld e) := by
  unfold Dev.trimHeld
  split
  · next a b c r _ =>
    have h : Latched e d (d.setMeter e fun m => { m with held := b :: c :: r }) := .setMeter _ _ (fun _ => rfl) (fun _ => rfl) fun _ h => h
    dsimp only
    split
    · exact h.trans (.of_meters rfl)
    · exact h
  · exact .refl d

theorem setChan_meters (d : Dev) (c : Fin 68) (f : Channel → Channel) : (d.setChan c f).metro.meters = d.metro.meters := rfl

theorem closeChan_meters (d : Dev) (n : Nat) (c : Fin 68) : (d.closeChan n c).metro.meters = d.metro.meters := by
  unfold Dev.closeChan
  dsimp only
  split
  · rfl
  · rw [setChan_meters, Dev.putInt_metro, Dev.putNat_metro, Dev.putInt_metro, Dev.putNat_metro]

theorem calPeriod_meters (d : Dev) (e : EntityId) (len : Nat) (ended : Bool) (m : Meter) : (d.calPeriod e len ended m).metro.meters = d.metro.meters := by
  unfold Dev.calPeriod
  split
  · rfl
  · split
    · rfl
    · split
      · rfl
      · dsimp only
        split
        · split
          · rw [Dev.putNat_metro]
          · rw [Dev.putNat_metro]
        · split
          · rw [Dev.putNat_metro]
          · rw [Dev.putNat_metro]

/-- The channels closed, and a calibration measurement told. -/
theorem channelsClosed (d : Dev) (e : EntityId) (n len : Nat) (ended : Bool) (m : Meter) :
    ((chansOf e).foldl (Dev.closeChan n) (d.calPeriod e len ended m)).metro.meters = d.metro.meters ∧
      Keeps 262148 d ((chansOf e).foldl (Dev.closeChan n) (d.calPeriod e len ended m)) :=
  ⟨(foldl_same (fun d => d.metro.meters) (fun v c => closeChan_meters v n c) _ _).trans (calPeriod_meters ..),
    Keeps.foldl _ (Dev.calPeriod_keeps0 d e len ended m) fun v c hv => hv.trans (Dev.closeChan_keeps0 n v c)⟩

/-- A boundary of an entity: its sums anew, and every other meter as it was. -/
structure Rolled (e : EntityId) (d v : Dev) : Prop where
  others : ∀ x, x ≠ e → v.meter x = d.meter x
  sums : runningSums (v.meter e) = ((d.meter e).seq + 1, 0, d.samples, Vector.replicate 3 0, Vector.replicate 3 0, 0)
  lastX : (d.meter e).lastX = none → (v.meter e).lastX = none

section
variable {e : EntityId} {d v w : Dev}

theorem Rolled.then (h : Rolled e d v) (g : Latched e v w) : Rolled e d w :=
  ⟨fun x hx => (g.others x hx).trans (h.others x hx), g.sums.trans h.sums, fun hl => g.lastX (h.lastX hl)⟩

theorem Rolled.setMeter (hm : w.metro.meters = d.metro.meters) (f : Meter → Meter)
    (hs : runningSums (f (d.meter e)) = ((d.meter e).seq + 1, 0, d.samples, Vector.replicate 3 0, Vector.replicate 3 0, 0))
    (hl : ∀ m, (f m).lastX = m.lastX) : Rolled e d (w.setMeter e f) := by
  have hw : ∀ x, w.meter x = d.meter x := fun x => by unfold Dev.meter; rw [hm]
  refine ⟨fun x hx => ?_, ?_, fun h => ?_⟩
  · rw [Dev.meter_setMeter_other _ _ hx, hw]
  · rw [Dev.meter_setMeter_same, hw, hs]
  · rw [Dev.meter_setMeter_same, hl, hw, h]

end

/-- The period's end told on crossing 0x04. -/
def periodTold (d : Dev) (e : EntityId) : Dev :=
  if d.passes 0x04 then (d.crossed 0x04).setMeter e fun m => { m with told := true } else d

theorem periodTold_leaves {d : Dev} {e : EntityId} {v : Dev} (h : Rolled e d v) :
    Rolled e d (periodTold v e) ∧ (v.passes 0x04 = true → ((periodTold v e).meter e).told = true) := by
  unfold periodTold
  by_cases hp : v.passes 0x04 = true
  · rw [if_pos hp]
    have hm : ∀ x, (v.crossed 0x04).meter x = v.meter x := fun x => by unfold Dev.meter; rw [(Dev.crossed_keeps0 v 0x04).get_metro rfl]
    refine ⟨⟨fun x hx => ?_, ?_, fun hl => ?_⟩, fun _ => by rw [Dev.meter_setMeter_same]⟩
    · rw [Dev.meter_setMeter_other _ _ hx, hm, h.others x hx]
    · rw [Dev.meter_setMeter_same, hm]
      exact h.sums
    · rw [Dev.meter_setMeter_same, hm]
      exact h.lastX hl
  · rw [if_neg hp]
    exact ⟨h, fun hc => absurd hc hp⟩

/-- A boundary: what the metrology holds after it, and whether it was told. -/
structure RolledTold (e : EntityId) (d v : Dev) : Prop where
  rolled : Rolled e d v
  told : d.passes 0x04 = true → (v.meter e).told = true

theorem RolledTold.then {e : EntityId} {d v w : Dev} (h : RolledTold e d v) (g : Latched e v w) : RolledTold e d w :=
  ⟨h.rolled.then g, fun hp => g.told.trans (h.told hp)⟩

theorem rolledTold_of {d : Dev} {e : EntityId} {v : Dev} (h : Rolled e d v) (hk : Keeps 262148 d v) : RolledTold e d (periodTold v e) := by
  have hp : v.passes 0x04 = d.passes 0x04 := by unfold Dev.passes; rw [hk.get_crossings rfl]
  obtain ⟨hr, ht⟩ := periodTold_leaves h
  exact ⟨hr, fun hd => ht (hp.trans hd)⟩

theorem keeps_putNats (d : Dev) (a b : Nat) (x y : Nat) : Keeps 4 d ((d.putNat a x).putNat b y) :=
  (Dev.putNat_keeps0 _ _ _).trans (Dev.putNat_keeps0 _ _ _)

theorem samples_channelsClosed (d : Dev) (e : EntityId) (n len : Nat) (ended : Bool) (m : Meter) :
    ((chansOf e).foldl (Dev.closeChan n) (d.calPeriod e len ended m)).samples = d.samples := by
  unfold Dev.samples
  rw [(channelsClosed d e n len ended m).2.get_time rfl]

theorem Rolled.put {e : EntityId} {d v : Dev} (h : Rolled e d v) (a b x y : Nat) : Rolled e d ((v.putNat a x).putNat b y) :=
  h.then (.of_keeps (keeps_putNats v a b x y) (by decide))

/-- The meter of an entity at a boundary. -/
theorem Rolled.anew {e : EntityId} {d w : Dev} (hm : w.metro.meters = d.metro.meters) (hs : w.samples = d.samples) (f : Meter → Meter)
    (hf : ∀ m, runningSums (f m) = (m.seq + 1, 0, w.samples, Vector.replicate 3 0, Vector.replicate 3 0, 0)) (hl : ∀ m, (f m).lastX = m.lastX) :
    Rolled e d (w.setMeter e f) :=
  Rolled.setMeter hm f (by rw [hf, hs]) hl

theorem roll_leaves (d : Dev) (e : EntityId) (ended : Option Nat) : RolledTold e d (d.roll e ended) := by
  unfold Dev.roll
  dsimp only
  refine RolledTold.then ?_ (latchEntity_latched _ e)
  refine RolledTold.then ?_ (Latched.of_keeps (Dev.countLow_keeps0 _ e) rfl)
  refine RolledTold.then ?_ (trimHeld_latched _ e)
  refine rolledTold_of ?_ ?_
  · cases hp : entityPort e with
    | none =>
      refine Rolled.put (Rolled.anew ?_ ?_ _ ?_ ?_) _ _ _ _
      · exact (channelsClosed d e _ _ _ _).1
      · exact samples_channelsClosed d e _ _ _ _
      · exact fun _ => rfl
      · exact fun _ => rfl
    | some p =>
      refine Rolled.put (Rolled.put (Rolled.anew ?_ ?_ _ ?_ ?_) _ _ _ _) _ _ _ _
      · exact (channelsClosed d e _ _ _ _).1
      · exact samples_channelsClosed d e _ _ _ _
      · exact fun _ => rfl
      · exact fun _ => rfl
  · have hput : ∀ (v : Dev) (a b : Nat) (x y : Nat), Keeps 262148 d v → Keeps 262148 d ((v.putNat a x).putNat b y) := fun v a b x y hv =>
      hv.trans ((keeps_putNats v a b x y).mono (by decide))
    have hclosed : ∀ n len ended m f, Keeps 262148 d
        (((chansOf e).foldl (Dev.closeChan n) (d.calPeriod e len ended m)).setMeter e f) := fun n len ended m f =>
      (channelsClosed d e n len ended m).2.trans ((Dev.setMeter_keeps0 _ e f).mono (by decide))
    cases hp : entityPort e with
    | none => exact hput _ _ _ _ _ (hclosed _ _ _ _ _)
    | some p => exact hput _ _ _ _ _ (hput _ _ _ _ _ (hclosed _ _ _ _ _))

theorem closePort_metro (d : Dev) (p : PortId) (r : PeriodSum) (b : Bool) : (d.closePort p r b).metro = d.metro :=
  (Dev.closePort_keeps0 d p r b).get_metro rfl

theorem closeSite_metro (d : Dev) (r : PeriodSum) : (d.closeSite r).metro = d.metro := (Dev.closeSite_keeps0 d r).get_metro rfl

theorem wantCommit_metro (d : Dev) : d.wantCommit.metro = d.metro := (Dev.wantCommit_keeps0 d).get_metro rfl

/-- A meter whose periods Heartwood takes. -/
def heldTaken (up : Bool) (m : Meter) : Meter := if up then { m with held := [] } else m

theorem runningSums_heldTaken (up : Bool) (m : Meter) : runningSums (heldTaken up m) = runningSums m := by
  unfold heldTaken
  split <;> rfl

theorem lastX_heldTaken (up : Bool) (m : Meter) : (heldTaken up m).lastX = m.lastX := by
  unfold heldTaken
  split <;> rfl

/-- The periods that wait, closed: the metrology beside. -/
theorem closed_metro (d : Dev) (e : EntityId) (held : List PeriodSum) (f : Energy → PortId → Energy) :
    (if d.energy.lost then d
      else match entityPort e with
      | some p => if 4 ≤ d.energy.fails then d.setEnergy fun n => f n p else (held.foldl (fun d r => d.closePort p r false) d).wantCommit
      | none => if 4 ≤ d.energy.fails then d else (held.foldl (fun d r => d.closeSite r) d).wantCommit).metro = d.metro := by
  split
  · rfl
  · split
    · split
      · rfl
      · rw [wantCommit_metro]
        exact foldl_same (fun d => d.metro) (fun d r => closePort_metro d _ r false) _ _
    · split
      · rfl
      · rw [wantCommit_metro]
        exact foldl_same (fun d => d.metro) (fun d r => closeSite_metro d r) _ _

theorem closeHeld_meter (d : Dev) (e : EntityId) :
    (d.closeHeld e).meter e = heldTaken d.heartwoodUp (d.meter e) ∧ ∀ x, x ≠ e → (d.closeHeld e).meter x = d.meter x := by
  unfold Dev.closeHeld
  dsimp only
  split
  · next h =>
    refine ⟨?_, fun _ _ => rfl⟩
    unfold heldTaken
    split
    · next hup =>
      have hheld : (d.meter e).held = [] := h.resolve_right (by simp [hup])
      generalize d.meter e = m at hheld ⊢
      cases m
      simp only at hheld
      rw [hheld]
    · rfl
  · next h =>
    have hup : d.heartwoodUp = true := by
      simp only [not_or, Bool.not_eq_true', Bool.not_eq_false] at h
      exact h.2
    have hread : ∀ (v w : Dev) (x : EntityId), v.metro = w.metro → v.meter x = w.meter x := fun v w x hvw => by unfold Dev.meter; rw [hvw]
    have hm := closed_metro (d.setMeter e fun m => { m with held := [] }) e (d.meter e).held fun n p =>
      { n with gap := vmod n.gap p (· + ((d.meter e).held.map fun r => absSum r.active).sum) }
    rw [hup]
    exact ⟨(hread _ _ e hm).trans (Dev.meter_setMeter_same d e _), fun x hx => (hread _ _ x hm).trans (Dev.meter_setMeter_other d _ hx)⟩

/-- Heartwood takes what was told to it. -/
def toldTaken (d : Dev) (e : EntityId) : Dev := if (d.meter e).told then (d.setMeter e fun m => { m with told := false }).closeHeld e else d

theorem toldTaken_leaves {e : EntityId} {d v : Dev} (h : RolledTold e d v) (hup : v.heartwoodUp = d.heartwoodUp) :
    Rolled e d (toldTaken v e) ∧ (d.heartwoodUp = true → d.passes 0x04 = true → ((toldTaken v e).meter e).held = []) := by
  unfold toldTaken
  by_cases ht : (v.meter e).told = true
  · rw [if_pos ht]
    obtain ⟨hsame, hother⟩ := closeHeld_meter (v.setMeter e fun m => { m with told := false }) e
    have hup' : (v.setMeter e fun m => { m with told := false }).heartwoodUp = d.heartwoodUp := hup
    rw [hup', Dev.meter_setMeter_same] at hsame
    refine ⟨⟨fun x hx => ?_, ?_, fun hl => ?_⟩, fun hd _ => ?_⟩
    · rw [hother x hx, Dev.meter_setMeter_other _ _ hx, h.rolled.others x hx]
    · rw [hsame, runningSums_heldTaken]
      exact h.rolled.sums
    · rw [hsame, lastX_heldTaken]
      exact h.rolled.lastX hl
    · rw [hsame, heldTaken, if_pos hd]
  · rw [if_neg ht]
    exact ⟨h.rolled, fun _ hp => absurd (h.told hp) ht⟩

/-- The meter of an entity whose next period has begun. -/
structure Begun (d : Dev) (e : EntityId) (m : Meter) : Prop where
  seq : m.seq = (d.meter e).seq + 1
  n : m.n = 0
  start : m.startN = d.samples
  sp : m.sp = Vector.replicate 3 0
  sq : m.sq = Vector.replicate 3 0
  sr : m.sr = 0
  held : d.heartwoodUp = true → d.passes 0x04 = true → m.held = []

theorem toldTaken_rolled (d a : Dev) (e : EntityId) (ended : Option Nat) (ha : Latched e d a)
    (hup : a.heartwoodUp = d.heartwoodUp) (hp : a.passes 0x04 = d.passes 0x04) (hn : a.samples = d.samples) :
    Begun d e ((toldTaken (a.roll e ended) e).meter e) ∧ ((a.meter e).lastX = none → ((toldTaken (a.roll e ended) e).meter e).lastX = none) ∧
      ∀ x, x ≠ e → (toldTaken (a.roll e ended) e).meter x = d.meter x := by
  have hk := Dev.roll_keeps0 a e ended
  have hpow : (a.roll e ended).heartwoodUp = a.heartwoodUp := by
    unfold Dev.heartwoodUp Dev.powered Dev.running
    rw [hk.get_power rfl, hk.get_cores rfl]
  obtain ⟨⟨hother, hsums, hlast⟩, hheld⟩ := toldTaken_leaves (roll_leaves a e ended) hpow
  unfold runningSums at hsums
  simp only [Prod.mk.injEq] at hsums
  obtain ⟨hseq, hzero, hstart, hsp, hsq, hsr⟩ := hsums
  have hseqs : (a.meter e).seq = (d.meter e).seq := congrArg (·.1) ha.sums
  rw [hup, hp] at hheld
  exact ⟨⟨hseq.trans (by rw [hseqs]), hzero, hstart.trans hn, hsp, hsq, hsr, hheld⟩, hlast, fun x hx => (hother x hx).trans (ha.others x hx)⟩

theorem periodEnd_due {d : Dev} {e : EntityId} (hs : d.sampling = true) (hd : d.due e = true) :
    d.periodEnd e = toldTaken (d.roll e (d.ending e)) e := by
  unfold Dev.periodEnd
  rw [if_neg (by simp [hs])]
  dsimp only
  rw [if_pos hd]
  rfl

/-- The meter of an entity that has lost its reference. -/
def refLost (m : Meter) : Meter := { m with noRef := true, lastX := none }

theorem referenceTimeout_due {d : Dev} {e : EntityId} (hs : d.sampling = true) (hm : (d.meter e).mode ≠ 3) (hr : (d.meter e).noRef = false)
    (hx : (d.meter e).pendX = none) (hn : (d.meter e).startN + 800 ≤ d.samples) :
    d.referenceTimeout e = toldTaken ((d.setMeter e refLost).roll e none) e := by
  have hroll : d.referenceTimeoutRoll e = some ((d.setMeter e refLost).roll e none) := if_pos ⟨hs, hm, by simp [hr], hx, hn⟩
  unfold Dev.referenceTimeout
  rw [hroll]
  rfl

theorem referenceTimeout_early {d : Dev} {e : EntityId} (hn : d.samples < (d.meter e).startN + 800) : d.referenceTimeout e = d := by
  have hroll : d.referenceTimeoutRoll e = none := if_neg fun h => by omega
  unfold Dev.referenceTimeout
  rw [hroll]

theorem refLost_latched (d : Dev) (e : EntityId) : Latched e d (d.setMeter e refLost) :=
  .setMeter d refLost (fun _ => rfl) (fun _ => rfl) fun _ _ => rfl

/-- The parts that a period that ends may touch. -/
def periodParts : List Part :=
  [.out, .obj, .crossings, .hosts, .heart, .ports, .safety, .metro, .energy, .tariff, .ledger, .display, .held]

/-- PERIOD_END: the boundary of an entity (08 R199, R201). -/
theorem periodEnd_leaves (s : State) (e : EntityId) (hs : s.dev.sampling = true) (hd : s.dev.due e = true) :
    Completes (.periodEnd e) s fun t =>
      Begun s.dev e (t.dev.meter e) ∧ (∀ x, x ≠ e → t.dev.meter x = s.dev.meter x) ∧ Within periodParts s t := by
  have hex : exec (.periodEnd e) s = .next { s with dev := s.dev.periodEnd e } := rfl
  have hk := Dev.periodEnd_keeps0 e s.dev
  rw [periodEnd_due hs hd] at hex hk
  obtain ⟨hbegun, -, hother⟩ := toldTaken_rolled s.dev s.dev e (s.dev.ending e) (.refl _) rfl rfl rfl
  exact ⟨_, hex, hbegun, hother, hk.within rfl⟩

/-- REFERENCE_TIMEOUT: the boundary falls 800 samples after the one before (08 R200). -/
theorem referenceTimeout_leaves (s : State) (e : EntityId) (hs : s.dev.sampling = true) (hm : (s.dev.meter e).mode ≠ 3)
    (hr : (s.dev.meter e).noRef = false) (hx : (s.dev.meter e).pendX = none) (hn : (s.dev.meter e).startN + 800 ≤ s.dev.samples) :
    Completes (.referenceTimeout e) s fun t =>
      Begun s.dev e (t.dev.meter e) ∧ (t.dev.meter e).lastX = none ∧ (∀ x, x ≠ e → t.dev.meter x = s.dev.meter x) ∧ Within periodParts s t := by
  have hex : exec (.referenceTimeout e) s = .next { s with dev := s.dev.referenceTimeout e } := rfl
  have hk := Dev.referenceTimeout_keeps0 e s.dev
  rw [referenceTimeout_due hs hm hr hx hn] at hex hk
  obtain ⟨hbegun, hlast, hother⟩ := toldTaken_rolled s.dev (s.dev.setMeter e refLost) e none (refLost_latched s.dev e) rfl rfl rfl
  rw [Dev.meter_setMeter_same] at hlast
  exact ⟨_, hex, hbegun, hlast rfl, hother, hk.within rfl⟩

/-! ### The DC plausibility (08 R206) -/

/-- The count of a comparison begins anew. -/
def dcRestarted (i : Fin 2) (m : Meter) : Meter := { m with dc := m.dc.set i 0 }

/-- A mismatch that is logged once a session. -/
def dcNoted (i sid : Nat) (m : Meter) : Meter := { m with dcLogged := (i, sid) :: m.dcLogged.filter fun x => x.2 = sid }

/-- The entry of a DC mismatch, once a session. -/
def dcLogged (p : PortId) (i : Fin 2) (sid : Nat) (m : Meter) (d : Dev) : Dev :=
  if m.dcLogged.contains (i.val, sid) then d
  else (d.setMeter (portEntity p) (dcNoted i.val sid)).legal 0x0303 p (leBytes 1 (1 + i.val) ++ leBytes 4 sid)

theorem dcLogged_leaves (d : Dev) (p : PortId) (i : Fin 2) (sid : Nat) (m : Meter) :
    (∀ k, (dcLogged p i sid m d).val k = d.val k) ∧ ((dcLogged p i sid m d).meter (portEntity p)).dc = (d.meter (portEntity p)).dc ∧
      (∀ e, e ≠ portEntity p → (dcLogged p i sid m d).meter e = d.meter e) ∧ Keeps 270336 d (dcLogged p i sid m d) := by
  unfold dcLogged
  split
  · exact ⟨fun _ => rfl, rfl, fun _ _ => rfl, .refl _ _⟩
  · have hm : ∀ x, ((d.setMeter (portEntity p) (dcNoted i.val sid)).legal 0x0303 p (leBytes 1 (1 + i.val) ++ leBytes 4 sid)).meter x =
        (d.setMeter (portEntity p) (dcNoted i.val sid)).meter x := fun x => by unfold Dev.meter; rw [Dev.legal_metro]
    refine ⟨fun k => by rw [Dev.legal_val]; rfl, ?_, fun e he => ?_, ?_⟩
    · rw [hm, Dev.meter_setMeter_same]
      rfl
    · rw [hm, Dev.meter_setMeter_other _ _ he]
    · exact ((Dev.setMeter_keeps0 d _ _).mono (by decide)).trans ((Dev.legal_keeps0 _ _ _ _).mono (by decide))

theorem dcMismatch_raised {d : Dev} {p : PortId} (hm : (d.meter (portEntity p)).mode = 3) (hc : 3 ≤ (d.meter (portEntity p)).dc[1])
    (hf : d.flag (Key.dcVoltageMismatch p) = false) :
    d.dcMismatch p true = (dcLogged p 1 (((d.energy.sessions[p]).map (·.sid)).getD 0) (d.meter (portEntity p))
      ((d.putFlag (Key.dcVoltageMismatch p) true).setMeter (portEntity p) (dcRestarted 1))).raiseCause [p] 17 0 := by
  unfold Dev.dcMismatch
  simp only [if_true, hf, Bool.not_false, Bool.not_true, Bool.false_eq_true, if_false]
  rw [if_neg fun h => h.elim (fun h => h hm) fun h => absurd hc (Nat.not_le.2 h)]
  simp only [Dev.setMeter_energy, Dev.putFlag_energy]
  rfl

theorem dcMismatch_ended {d : Dev} {p : PortId} (hm : (d.meter (portEntity p)).mode = 3) (hc : 3 ≤ (d.meter (portEntity p)).dc[0])
    (hf : d.flag (Key.dcCurrentMismatch p) = true) :
    d.dcMismatch p false = (d.putFlag (Key.dcCurrentMismatch p) false).setMeter (portEntity p) (dcRestarted 0) := by
  unfold Dev.dcMismatch
  simp only [Bool.false_eq_true, if_false, hf, Bool.not_true, Bool.not_false, if_true]
  rw [if_neg fun h => h.elim (fun h => h hm) fun h => absurd hc (Nat.not_le.2 h)]
  rfl

/-- DC_MISMATCH: the voltage's mismatch is flagged, raises cause 17 and is logged once a session (08 R206). -/
theorem dcMismatch_leaves (s : State) (p : PortId) (hm : (s.dev.meter (portEntity p)).mode = 3) (hc : 3 ≤ (s.dev.meter (portEntity p)).dc[1])
    (hf : s.dev.flag (Key.dcVoltageMismatch p) = false) :
    Completes (.dcMismatch p true) s fun t =>
      t.dev.flag (Key.dcVoltageMismatch p) = true ∧ t.dev.hasCause p 17 = true ∧ (t.dev.meter (portEntity p)).dc[1] = 0 ∧
        (∀ e, e ≠ portEntity p → t.dev.meter e = s.dev.meter e) ∧ Within [.obj, .heart, .metro] s t := by
  have hex : exec (.dcMismatch p true) s = .next { s with dev := s.dev.dcMismatch p true } := rfl
  have hk := Dev.dcMismatch_keeps0 p true s.dev
  rw [dcMismatch_raised hm hc hf] at hex hk
  have hflag : ((s.dev.putFlag (Key.dcVoltageMismatch p) true).setMeter (portEntity p) (dcRestarted 1)).flag (Key.dcVoltageMismatch p) = true :=
    Dev.flag_putFlag s.dev _ true
  have hput : ∀ x, (s.dev.putFlag (Key.dcVoltageMismatch p) true).meter x = s.dev.meter x := fun x => by
    unfold Dev.meter
    rw [Dev.putFlag_metro]
  have hself := (Dev.meter_setMeter_same (s.dev.putFlag (Key.dcVoltageMismatch p) true) (portEntity p) (dcRestarted 1)).trans (by rw [hput])
  have hothers : ∀ x, x ≠ portEntity p →
      ((s.dev.putFlag (Key.dcVoltageMismatch p) true).setMeter (portEntity p) (dcRestarted 1)).meter x = s.dev.meter x := fun x hx =>
    (Dev.meter_setMeter_other (s.dev.putFlag (Key.dcVoltageMismatch p) true) (dcRestarted 1) hx).trans (hput x)
  generalize ((s.dev.energy.sessions[p]).map (·.sid)).getD 0 = sid at hex hk
  generalize (s.dev.putFlag (Key.dcVoltageMismatch p) true).setMeter (portEntity p) (dcRestarted 1) = w at hflag hself hothers hex hk
  obtain ⟨hv, hdc, ho, -⟩ := dcLogged_leaves w p 1 sid (s.dev.meter (portEntity p))
  generalize dcLogged p 1 sid (s.dev.meter (portEntity p)) w = v at hv hdc ho hex hk
  have hmeter : ∀ x, (v.raiseCause [p] 17 0).meter x = v.meter x := fun x => by
    unfold Dev.meter
    rw [(Dev.raiseCause_keeps0 [p] 17 0 v).get_metro rfl]
  have hne : Key.dcVoltageMismatch p ≠ Key.level1Causes p := by simp only [Key.dcVoltageMismatch, Key.level1Causes, ob]; omega
  refine ⟨_, hex, ?_, raiseCause_stands v p 17 0, ?_, fun e he => ?_, hk.within rfl⟩
  · rw [flag_of_val (val_raiseCause v p 17 0 hne), flag_of_val (hv _), hflag]
  · have hval : ((v.raiseCause [p] 17 0).meter (portEntity p)).dc = (dcRestarted 1 (s.dev.meter (portEntity p))).dc := by
      rw [hmeter, hdc, hself]
    simp only [hval, dcRestarted]
    exact Vector.getElem_set_self _
  · rw [hmeter, ho e he, hothers e he]

/-- DC_MISMATCH: the current's mismatch ends. -/
theorem dcMismatch_over (s : State) (p : PortId) (hm : (s.dev.meter (portEntity p)).mode = 3) (hc : 3 ≤ (s.dev.meter (portEntity p)).dc[0])
    (hf : s.dev.flag (Key.dcCurrentMismatch p) = true) :
    Completes (.dcMismatch p false) s fun t =>
      t.dev.flag (Key.dcCurrentMismatch p) = false ∧ t.dev.causes p = s.dev.causes p ∧ Only [.metro] [Key.dcCurrentMismatch p] s t := by
  have hex : exec (.dcMismatch p false) s = .next { s with dev := s.dev.dcMismatch p false } := rfl
  have hk : Keeps 262148 s.dev ((s.dev.putFlag (Key.dcCurrentMismatch p) false).setMeter (portEntity p) (dcRestarted 0)) :=
    ((Dev.putFlag_keeps0 _ _ _).mono (by decide)).trans ((Dev.setMeter_keeps0 _ _ _).mono (by decide))
  rw [dcMismatch_ended hm hc hf] at hex
  have hval : ∀ k, k ≠ Key.dcCurrentMismatch p → ((s.dev.putFlag (Key.dcCurrentMismatch p) false).setMeter (portEntity p) (dcRestarted 0)).val k =
      s.dev.val k := fun k hne => Dev.val_put_other s.dev _ hne.symm
  refine ⟨_, hex, Dev.flag_putFlag s.dev _ false, ?_, hk.only (by decide) fun k hne => hval k (by simpa using hne)⟩
  exact nat_of_val (hval _ (by simp only [Key.dcCurrentMismatch, Key.level1Causes, ob]; omega))

/-! ### Calibration runs (08 R207) -/

/-- The run that CalStart begins. -/
def calStarted (d : Dev) : CalRun :=
  ⟨d.nat Key.calPort, d.nat Key.calPeriods, true, 0, 0, 0, Vector.replicate 8 0, Vector.replicate 8 0, Vector.replicate 3 0, Vector.replicate 3 0, 0, 0,
    false⟩

/-- CAL_START: a run waits for the next boundary of CalPort. -/
theorem calStart_leaves (s : State) (m : HostMsg) (data : Bytes) (h : s.dev.grants m = true) (ht : takes Key.calStart data = true) :
    Completes (.calStart m data) s fun t =>
      (∃ r : CalRun, t.dev.metro = { s.dev.metro with cal := some r } ∧ r.port = s.dev.nat Key.calPort ∧
        r.periods = s.dev.nat Key.calPeriods ∧ r.waiting = true ∧ r.done = 0 ∧ r.n = 0 ∧ r.aborted = false) ∧
      t.dev.nat Key.calState = 1 ∧ t.dev.nat Key.calPeriodsDone = 0 ∧
      Served m (.done Key.calStart) [.metro] [Key.calState, Key.calPeriodsDone] s t := by
  have hex : exec (.calStart m data) s = .next { s with dev := (s.dev.admitted m).calStart.ok ((s.dev.admitted m).ackOf m Key.calStart) } := by
    show State.onDev s _ = _
    rw [State.onDev, cmdWrite_granted h ht]
    rfl
  have hok : ∀ k, ((s.dev.admitted m).calStart.ok ((s.dev.admitted m).ackOf m Key.calStart)).val k = (s.dev.admitted m).calStart.val k := fun k =>
    Dev.val_answer ..
  have hport : (s.dev.admitted m).nat Key.calPort = s.dev.nat Key.calPort := admitted_nat_far (.inr (by decide))
  have hper : (s.dev.admitted m).nat Key.calPeriods = s.dev.nat Key.calPeriods := admitted_nat_far (.inr (by decide))
  have hmetro : (s.dev.admitted m).metro = s.dev.metro := (Dev.admitted_same s.dev m .metro (by decide) (by decide)).symm
  refine ⟨_, hex, ⟨calStarted (s.dev.admitted m), ((Dev.ok_keeps0 _ _).get_metro rfl).trans ?_, hport, hper, rfl, rfl, rfl, rfl⟩, ?_, ?_,
    served_ok (M := 262148) _ (grants_iff.1 h).1 (Dev.calStart_keeps0 _) (by decide) (by decide) (fun k hk => ?_) (by decide)⟩
  · unfold Dev.calStart
    dsimp only
    rw [Dev.putNat_metro, Dev.putNat_metro, hmetro]
    rfl
  · rw [nat_of_val (hok _), Dev.calStart, Dev.nat_putNat_other _ _ (by decide), Dev.nat_putNat]
  · rw [nat_of_val (hok _), Dev.calStart, Dev.nat_putNat]
  · simp only [List.mem_cons, List.not_mem_nil, or_false, not_or] at hk
    exact (Dev.val_put_other _ _ (Ne.symm hk.2)).trans ((Dev.val_put_other _ _ (Ne.symm hk.1)).trans rfl)

section
variable (r : CalRun)

/-- The voltage of a phase that a run shows. -/
def calVrms (k : Fin 3) : Nat := if r.mode = 3 ∧ k.val ≠ 0 then 0 else Dev.rmsMicro (r.sq2[k.val]'(by omega)) r.n (r.fs[k.val]'(by omega))

/-- The current of a phase that a run shows. -/
def calIrms (k : Fin 3) : Nat :=
  if r.port = 8 then 0
  else if r.mode = 3 then
    (if k.val = 0 then Dev.rmsMicro r.sq2[3] r.n r.fs[3] else if k.val = 1 then Dev.rmsMicro r.sq2[6] r.n r.fs[6] else 0)
  else Dev.rmsMicro (r.sq2[k.val + 3]'(by omega)) r.n (r.fs[k.val + 3]'(by omega))

/-- The active power of a phase that a run shows. -/
def calPower (k : Fin 3) : Int :=
  if r.mode = 3 ∧ k.val = 1 then Dev.powerMicro r.spn r.n r.fs[0] r.fs[6]
  else Dev.powerMicro r.sp[k] r.n (r.fs[k.val]'(by omega)) (r.fs[k.val + 3]'(by omega))

/-- The reactive power of a phase that a run shows. -/
def calReactive (k : Fin 3) : Int :=
  if r.mode = 3 then 0 else Dev.powerMicro r.sq[k] r.n (r.fs[k.val]'(by omega)) (r.fs[k.val + 3]'(by omega))

/-- What a run shows of a phase. -/
def calShown (d : Dev) (k : Fin 3) : Dev :=
  (((d.putNat (Key.calVrmsL k) (calVrms r k)).putNat (Key.calIrmsL k) (calIrms r k)).putInt (Key.calPL k) (calPower r k)).putInt
    (Key.calQL k) (calReactive r k)

/-- The frequency over a run. -/
def calFreq : Nat := if r.lens = 0 then 0 else (2 * 32768000000 * r.done + r.lens) / (2 * r.lens)

theorem calShown_keeps (d : Dev) (k : Fin 3) : Keeps 4 d (calShown r d k) :=
  (((Dev.putNat_keeps0 _ _ _).trans (Dev.putNat_keeps0 _ _ _)).trans (Dev.putInt_keeps0 _ _ _)).trans (Dev.putInt_keeps0 _ _ _)

/-- A phase shown leaves every object that is not its own. -/
theorem calShown_int (d : Dev) (k : Fin 3) {j : Nat} (h : Key.calVrmsL k ≠ j ∧ Key.calIrmsL k ≠ j ∧ Key.calPL k ≠ j ∧ Key.calQL k ≠ j) :
    (calShown r d k).int j = d.int j := by
  obtain ⟨hv, hi, hp, hq⟩ := h
  rw [calShown, Dev.int_putInt_other _ _ hq, Dev.int_putInt_other _ _ hp, Dev.int_putNat_other _ _ hi, Dev.int_putNat_other _ _ hv]

theorem calShown_vrms (d : Dev) (k : Fin 3) : (calShown r d k).int (Key.calVrmsL k) = calVrms r k := by
  have hi : Key.calIrmsL k ≠ Key.calVrmsL k := ob_ne (by omega)
  have hp : Key.calPL k ≠ Key.calVrmsL k := ob_ne (by omega)
  have hq : Key.calQL k ≠ Key.calVrmsL k := ob_ne (by omega)
  rw [calShown, Dev.int_putInt_other _ _ hq, Dev.int_putInt_other _ _ hp, Dev.int_putNat_other _ _ hi, Dev.putNat, ← Dev.putInt, Dev.int_putInt]

theorem calShown_irms (d : Dev) (k : Fin 3) : (calShown r d k).int (Key.calIrmsL k) = calIrms r k := by
  have hp : Key.calPL k ≠ Key.calIrmsL k := ob_ne (by omega)
  have hq : Key.calQL k ≠ Key.calIrmsL k := ob_ne (by omega)
  rw [calShown, Dev.int_putInt_other _ _ hq, Dev.int_putInt_other _ _ hp, Dev.putNat, ← Dev.putInt, Dev.int_putInt]

theorem calShown_power (d : Dev) (k : Fin 3) : (calShown r d k).int (Key.calPL k) = calPower r k := by
  have hq : Key.calQL k ≠ Key.calPL k := ob_ne (by omega)
  rw [calShown, Dev.int_putInt_other _ _ hq, Dev.int_putInt]

/-- The three phases shown. -/
def calPhases (d : Dev) : Dev := calShown r (calShown r (calShown r d 0) 1) 2

theorem calPhases_leaves (d : Dev) :
    (calPhases r d).int (Key.calVrmsL 0) = calVrms r 0 ∧ (calPhases r d).int (Key.calIrmsL 1) = calIrms r 1 ∧
      (calPhases r d).int (Key.calPL 1) = calPower r 1 ∧ Keeps 4 d (calPhases r d) := by
  have hkeep := ((calShown_keeps r d 0).trans (calShown_keeps r _ 1)).trans (calShown_keeps r _ 2)
  have hvrms := calShown_vrms r d 0
  unfold calPhases
  generalize calShown r d 0 = a at hvrms hkeep ⊢
  have hirms := calShown_irms r a 1
  have hpower := calShown_power r a 1
  have hstay := calShown_int r a 1 (j := Key.calVrmsL 0) (by decide)
  generalize calShown r a 1 = b at hirms hpower hstay hkeep ⊢
  exact ⟨(calShown_int r b 2 (by decide)).trans (hstay.trans hvrms), (calShown_int r b 2 (by decide)).trans hirms,
    (calShown_int r b 2 (by decide)).trans hpower, hkeep⟩

theorem calDone_eq {d : Dev} (hr : d.metro.cal = some r) (ha : r.aborted = false) (hw : r.waiting = false) (hd : r.periods ≤ r.done)
    (hs : d.nat Key.calState = 1) : d.calDone = ((calPhases r d).putNat Key.calFrequency (calFreq r)).putNat Key.calState 2 := by
  unfold Dev.calDone
  rw [hr]
  dsimp only
  rw [if_neg (by simp [ha, hw, hs]; omega)]
  simp only [decide_eq_true_eq]
  rfl

end

/-- CAL_DONE: what the run measured is shown. -/
theorem calDone_leaves (s : State) (r : CalRun) (hr : s.dev.metro.cal = some r) (ha : r.aborted = false) (hw : r.waiting = false)
    (hd : r.periods ≤ r.done) (hs : s.dev.nat Key.calState = 1) :
    Completes .calDone s fun t =>
      t.dev.nat Key.calState = 2 ∧
      t.dev.nat Key.calFrequency = (if r.lens = 0 then 0 else (2 * 32768000000 * r.done + r.lens) / (2 * r.lens)) ∧
      (r.mode = 3 → r.port ≠ 8 → t.dev.nat (Key.calVrmsL 0) = Dev.rmsMicro r.sq2[0] r.n r.fs[0] ∧
        t.dev.nat (Key.calIrmsL 1) = Dev.rmsMicro r.sq2[6] r.n r.fs[6] ∧ t.dev.int (Key.calPL 1) = Dev.powerMicro r.spn r.n r.fs[0] r.fs[6]) ∧
      Within [.obj] s t := by
  have hex : exec .calDone s = .next { s with dev := s.dev.calDone } := rfl
  rw [calDone_eq r hr ha hw hd hs] at hex
  obtain ⟨hvrms, hirms, hpower, hkeep⟩ := calPhases_leaves r s.dev
  generalize calPhases r s.dev = a at hvrms hirms hpower hkeep hex
  have hlast : ∀ {j}, Key.calFrequency ≠ j → Key.calState ≠ j →
      ((a.putNat Key.calFrequency (calFreq r)).putNat Key.calState 2).int j = a.int j := fun hf hs => by
    rw [Dev.int_putNat_other _ _ hs, Dev.int_putNat_other _ _ hf]
  refine ⟨_, hex, Dev.nat_putNat _ _ _, ?_, fun hmode hport => ⟨?_, ?_, ?_⟩,
    ((hkeep.trans (Dev.putNat_keeps0 _ _ _)).trans (Dev.putNat_keeps0 _ _ _)).within rfl⟩
  · exact (Dev.nat_putNat_other _ _ (by decide)).trans (Dev.nat_putNat _ _ _)
  · rw [Dev.nat, hlast (by decide) (by decide), hvrms]
    simp [calVrms]
  · rw [Dev.nat, hlast (by decide) (by decide), hirms]
    simp [calIrms, hmode, hport]
  · rw [hlast (by decide) (by decide), hpower]
    simp [calPower, hmode]

theorem calDone_running {d : Dev} {r : CalRun} (hr : d.metro.cal = some r) (hd : r.done < r.periods) : d.calDone = d := by
  unfold Dev.calDone
  rw [hr]
  exact if_pos (.inr (.inr (.inl hd)))

/-- Settles O35: crossings place the boundaries, a DC mismatch is flagged, and a calibration run measures whole periods. -/
theorem crossingsPlaceBoundariesAndCalibrationsMeasure : Obligations.CrossingsPlaceBoundariesAndCalibrationsMeasure := by
  unfold Obligations.CrossingsPlaceBoundariesAndCalibrationsMeasure
  intro begins found refs chans
  have hbegins : ∀ (e : EntityId) (s t : State), Begun s.dev e (t.dev.meter e) → (∀ x, x ≠ e → t.dev.meter x = s.dev.meter x) →
      Within periodParts s t → begins e s t := fun e s t hb ho hw => ⟨hb.seq, hb.n, hb.start, hb.sp, hb.sq, hb.sr, hb.held, ho, hw⟩
  have hrefs : ∀ (s : State) (c : Fin 68) (e : EntityId), refs s c e ↔ refers c e (s.dev.meter e) = true := fun s c e => by
    simp [refs, refers]
  refine ⟨fun s c time ⟨hs, hf, hn⟩ hp => ?_, fun s c time ⟨hs, hf, hn⟩ hp => ?_, fun s e hs hd => ?_, fun s e hs hm hr hx hn => ?_,
    fun s e _ _ hn => ?_, dcMismatch_leaves, dcMismatch_over, calStart_leaves, calDone_leaves, fun s r hr hd => ?_⟩
  · obtain ⟨t, hex, hmeter, hchan, hown, hkeep⟩ := zeroCrossing_leaves s c time hs hf hn hp
    refine ⟨t, hex, fun e => ?_, hchan, hown, hkeep⟩
    intro m ok
    have hok : ok = crossingOk m time := by
      cases hx : m.lastX <;> simp only [ok, crossingOk, hx]
    have htakes : (refs s c e ∧ m.pendX = none ∧ ok = true) ↔ takesCrossing c time e m = true := by
      rw [hrefs, hok]
      simp [takesCrossing, and_assoc, m]
    rw [htakes, hmeter e]
    exact ⟨fun h => if_pos h, fun h => if_neg h⟩
  · obtain ⟨t, hex, hmeter, hchan, hkeep⟩ := zeroCrossing_lost s c time hs hf hn hp
    refine ⟨t, hex, fun e => ?_, hchan, hkeep⟩
    rw [hrefs, hmeter e]
    exact ⟨fun h => if_pos h, fun h => if_neg h⟩
  · obtain ⟨t, hex, hb, ho, hw⟩ := periodEnd_leaves s e hs hd
    exact ⟨t, hex, hbegins e s t hb ho hw⟩
  · obtain ⟨t, hex, hb, hl, ho, hw⟩ := referenceTimeout_leaves s e hs hm hr hx hn
    exact ⟨t, hex, hbegins e s t hb ho hw, hl⟩
  · have hex : exec (.referenceTimeout e) s = .next { s with dev := s.dev.referenceTimeout e } := rfl
    rw [referenceTimeout_early hn] at hex
    exact ⟨s, hex, rfl⟩
  · have hex : exec .calDone s = .next { s with dev := s.dev.calDone } := rfl
    rw [calDone_running hr hd] at hex
    exact ⟨s, hex, rfl⟩

end Sys2Proof.Machine
end

section
/-! PROOFS. The signatures of session records and the inspections of the field (12 R319, R325). -/

namespace Sys2Proof.Machine
/-! ### Record signatures (12 R319) -/

section
variable (d : Dev)

/-- A start of Burl's next signature: what it leaves. -/
theorem startSigning_leaves : d.startSigning.heart = d.heart ∧ (∀ k, d.startSigning.val k = d.val k) ∧ Keeps 8388608 d d.startSigning := by
  refine ⟨(Dev.startSigning_keeps0 d).get_heart rfl, fun k => val_of_obj ((Dev.startSigning_keeps0 d).get_obj rfl) k, Dev.startSigning_keeps0 d⟩

theorem startSigning_record (hu : d.burlUp = true) (hs : d.burl.signing = .idle) (hq : d.heart.signQueue ≠ []) (ha : d.heart.signRetryAt = none) :
    d.startSigning.burl.signing = .record := by
  unfold Dev.startSigning
  rw [if_neg (by simp [hu, hs]), if_pos ⟨hq, ha⟩]
  rfl

theorem startSigning_waits {at_ : Nat} (hs : d.burl.signing = .idle) (ha : d.heart.signRetryAt = some at_) : d.startSigning.burl.signing ≠ .record := by
  unfold Dev.startSigning
  split
  · rw [hs]
    exact fun h => nomatch h
  · rw [if_neg (by simp [ha])]
    split
    · rw [hs]
      exact fun h => nomatch h
    · exact fun h => nomatch h

/-- Burl idles, and the key of the signatures is counted as used. -/
def signingEnded (used : Bool) : Dev := if used then (d.setBurl fun b => { b with signing := .idle }).useKey 0x04 else d.setBurl fun b => { b with signing := .idle }

theorem signingEnded_leaves (used : Bool) :
    (signingEnded d used).burl = { d.burl with signing := .idle } ∧ (signingEnded d used).heart = d.heart ∧
      (∀ k, k ≠ Key.useCount 0x04 → k ≠ Key.refusedCount 0x04 → (signingEnded d used).val k = d.val k) ∧
      (used = true → (d.keyOf 0x04).isSome = true →
        (signingEnded d used).nat (Key.useCount 0x04) = min (d.nat (Key.useCount 0x04) + 1) (Dev.top (Key.useCount 0x04)) ∧
        (signingEnded d used).val (Key.refusedCount 0x04) = d.val (Key.refusedCount 0x04)) ∧
      ((used = false ∨ d.keyOf 0x04 = none) → (signingEnded d used).val (Key.useCount 0x04) = d.val (Key.useCount 0x04)) ∧
      Keeps 8388612 d (signingEnded d used) := by
  obtain ⟨w, hw⟩ : ∃ w, w = d.setBurl fun b => { b with signing := .idle } := ⟨_, rfl⟩
  have hkey : w.keyOf 0x04 = d.keyOf 0x04 := keyOf_congr d 0x04 (by rw [hw]; rfl) (by rw [hw]; rfl)
  have hval : ∀ k, w.val k = d.val k := fun k => by rw [hw]; rfl
  have hburl : w.burl = { d.burl with signing := .idle } := by rw [hw]; rfl
  have hheart : w.heart = d.heart := by rw [hw]; rfl
  have hkeep : Keeps 8388608 d w := by rw [hw]; exact Dev.setBurl_keeps0 _ _
  unfold signingEnded
  rw [← hw]
  cases used with
  | false =>
    rw [if_neg (by simp)]
    exact ⟨hburl, hheart, fun k _ _ => hval k, fun h => absurd h (by simp), fun _ => hval _, hkeep.mono (by decide)⟩
  | true =>
    rw [if_pos rfl]
    have hk := Dev.useKey_keeps0 w 0x04
    refine ⟨(hk.get_burl rfl).trans hburl, (hk.get_heart rfl).trans hheart, fun k hu hr => (val_useKey w 0x04 hu hr).trans (hval k),
      fun _ hs => ?_, fun h => ?_, (hkeep.mono (by decide)).trans (hk.mono (by decide))⟩
    · have huse : w.useKey 0x04 = w.bump (Key.useCount 4) := congrArg (fun k => w.bump k) (if_pos (by rw [hkey]; exact hs))
      rw [huse, Dev.nat_bump, nat_of_val (hval _)]
      exact ⟨rfl, (Dev.val_bump_other _ _ (by decide)).trans (hval _)⟩
    · have hnone := h.resolve_left (by simp)
      have huse : w.useKey 0x04 = w.bump (Key.refusedCount 4) := congrArg (fun k => w.bump k) (if_neg (by rw [hkey, hnone]; simp))
      rw [huse]
      exact (Dev.val_bump_other _ _ (by decide)).trans (hval _)

theorem signingEnded_ups (used : Bool) :
    (signingEnded d used).burlUp = d.burlUp ∧ (signingEnded d used).keyOf 0x04 = d.keyOf 0x04 ∧ (signingEnded d used).rail .vddMem = d.rail .vddMem ∧
      (signingEnded d used).nowMs = d.nowMs := by
  obtain ⟨hburl, -, hval, -, -, hk⟩ := signingEnded_leaves d used
  refine ⟨burlUp_congr d (hk.get_power rfl) (hk.get_cores rfl), keyOf_congr d 0x04 (hval _ (by decide) (by decide)) (by rw [hburl]), ?_, ?_⟩
  · unfold Dev.rail
    rw [hk.get_power rfl]
  · unfold Dev.nowMs
    rw [hk.get_dict rfl]

/-- Heartwood's records with one signed. -/
def recordSaved (n : Nat) (b : RecordBody) (h : Heartwood) : Heartwood :=
  { h with records := setSlotIn h.records (n % 8192) (.signed b (Config.signature 0x04 (ascii "FDM8P-SR1" ++ d.recordBody b))) }

/-- A signature is tried again at a time. -/
def retryFrom (t : Nat) (h : Heartwood) : Heartwood := { h with signRetryAt := some t }

/-- The queue of signatures. -/
def queueLeft (rest : List Nat) (h : Heartwood) : Heartwood := { h with signQueue := rest }

theorem recordSigned_eq {n : Nat} {rest : List Nat} {o : RecordOpening} {b : RecordBody} (hs : d.burl.signing = .record)
    (hq : d.heart.signQueue = n :: rest) (hu : d.burlUp = true) (hh : d.heartwoodUp = true) (hk : (d.keyOf 0x04).isSome = true)
    (hf : d.heart.records.find? (fun (x : Nat × RecordSlot) => x.1 = n % 8192) = some (n % 8192, .stored o b)) (hn : b.number = n) :
    d.recordSigned true 0 = (((signingEnded d true).setHeart (queueLeft rest)).setHeart
      (recordSaved ((signingEnded d true).setHeart (queueLeft rest)) n b)).startSigning := by
  obtain ⟨-, hkey, -⟩ := signingEnded_ups d true
  have hheart := (signingEnded_leaves d true).2.1
  unfold Dev.recordSigned
  rw [hs, hq]
  dsimp only
  rw [if_neg (by simp [hu, hh]), if_pos rfl]
  change (if (!true) = true ∨ ((signingEnded d true).keyOf 0x04).isNone = true then _ else _) = _
  rw [if_neg (by rw [hkey]; simpa using Option.isSome_iff_ne_none.1 hk)]
  have hf' : ((signingEnded d true).setHeart (queueLeft rest)).heart.records.find? (fun (x : Nat × RecordSlot) => x.1 = n % 8192) =
      some (n % 8192, .stored o b) := by
    show (signingEnded d true).heart.records.find? _ = _
    rw [hheart, hf]
  change Dev.startSigning (match ((signingEnded d true).setHeart (queueLeft rest)).heart.records.find? (fun (x : Nat × RecordSlot) => x.1 = n % 8192) with
    | some (_, .stored _ b) => _
    | _ => _) = _
  rw [hf']
  dsimp only
  rw [if_pos hn]
  rfl

theorem recordSigned_failed {n result : Nat} {rest : List Nat} {ok : Bool} (hs : d.burl.signing = .record) (hq : d.heart.signQueue = n :: rest)
    (hu : d.burlUp = true) (hh : d.heartwoodUp = true) (hk : ok = false ∨ d.keyOf 0x04 = none) :
    d.recordSigned ok result = ((((signingEnded d ok).legal 0x0701 0xFF (leBytes 4 n ++ leBytes 4 result)).bump Key.signingFailCount).setHeart
      (retryFrom ((((signingEnded d ok).legal 0x0701 0xFF (leBytes 4 n ++ leBytes 4 result)).bump Key.signingFailCount).nowMs + 60000))).startSigning := by
  obtain ⟨-, hkey, -⟩ := signingEnded_ups d ok
  unfold Dev.recordSigned
  rw [hs, hq]
  dsimp only
  rw [if_neg (by simp [hu, hh])]
  change (if (!ok) = true ∨ ((signingEnded d ok).keyOf 0x04).isNone = true then _ else _) = _
  rw [if_pos (by rw [hkey]; simpa using hk)]
  rfl

end

/-- RECORD_SIGNED: the record is in state 3 with its signature, and the next that waits is taken (12 R319). -/
theorem recordSigned_leaves (s : State) (n : Nat) (rest : List Nat) (o : RecordOpening) (b : RecordBody) (hs : s.dev.burl.signing = .record)
    (hq : s.dev.heart.signQueue = n :: rest) (hu : s.dev.burlUp = true) (hh : s.dev.heartwoodUp = true) (hk : (s.dev.keyOf 0x04).isSome = true)
    (hf : s.dev.heart.records.find? (fun (x : Nat × RecordSlot) => x.1 = n % 8192) = some (n % 8192, .stored o b)) (hn : b.number = n) :
    Completes (.recordSigned true 0) s fun t =>
      (∃ sig, t.dev.heart.records.find? (fun (x : Nat × RecordSlot) => x.1 = n % 8192) = some (n % 8192, .signed b sig)) ∧
      (∀ k, k ≠ n % 8192 → t.dev.heart.records.find? (fun (x : Nat × RecordSlot) => x.1 = k) =
        s.dev.heart.records.find? (fun (x : Nat × RecordSlot) => x.1 = k)) ∧
      t.dev.heart = { s.dev.heart with signQueue := rest, records := t.dev.heart.records } ∧
      (rest ≠ [] → s.dev.heart.signRetryAt = none → t.dev.burl.signing = .record) ∧
      t.dev.nat (Key.useCount 0x04) = min (s.dev.nat (Key.useCount 0x04) + 1) (Dev.top (Key.useCount 0x04)) ∧
      Only [.heart, .burl] [Key.useCount 0x04] s t := by
  have hex : exec (.recordSigned true 0) s = .next { s with dev := s.dev.recordSigned true 0 } := rfl
  rw [recordSigned_eq s.dev hs hq hu hh hk hf hn] at hex
  obtain ⟨hburl, hheart, hval, hused, -, hkeep⟩ := signingEnded_leaves s.dev true
  obtain ⟨hcount, hrefused⟩ := hused rfl hk
  obtain ⟨hup, -⟩ := signingEnded_ups s.dev true
  generalize signingEnded s.dev true = w at hburl hheart hval hcount hrefused hup hkeep hex
  obtain ⟨v, hv⟩ : ∃ v, v = w.setHeart (queueLeft rest) := ⟨_, rfl⟩
  rw [← hv] at hex
  have hsign : (v.setHeart (recordSaved v n b)).burl.signing = .idle := by rw [hv]; exact congrArg Burl.signing hburl
  have hups : (v.setHeart (recordSaved v n b)).burlUp = true := by
    rw [hv]
    exact hup.trans hu
  have hvh : v.heart = { s.dev.heart with signQueue := rest } := by rw [hv, ← hheart]; rfl
  have hvv : ∀ k, (v.setHeart (recordSaved v n b)).val k = w.val k := fun k => by rw [hv]; rfl
  have hvk : Keeps 8396804 s.dev (v.setHeart (recordSaved v n b)) := by
    rw [hv]
    exact ((hkeep.mono (by decide)).trans ((Dev.setHeart_keeps0 _ _).mono (by decide))).trans ((Dev.setHeart_keeps0 _ _).mono (by decide))
  have hsaved : (v.setHeart (recordSaved v n b)).heart = recordSaved v n b v.heart := rfl
  generalize hsig : Config.signature 0x04 (ascii "FDM8P-SR1" ++ v.recordBody b) = sig at hsaved
  have hsaved' : (v.setHeart (recordSaved v n b)).heart =
      { s.dev.heart with signQueue := rest, records := setSlotIn s.dev.heart.records (n % 8192) (.signed b sig) } := by
    rw [hsaved, recordSaved, hsig, hvh]
  generalize v.setHeart (recordSaved v n b) = u at hsign hups hvv hvk hsaved' hex
  obtain ⟨huh, huv, huk⟩ := startSigning_leaves u
  rw [hsaved'] at huh
  refine ⟨_, hex, ⟨sig, ?_⟩, fun k hk => ?_, ?_, fun hr ha => ?_, ?_, (hvk.trans (huk.mono (by decide))).only (by decide) fun k hkey => ?_⟩
  · show u.startSigning.heart.records.find? _ = _
    rw [huh]
    exact find_setSlotIn_same ..
  · show u.startSigning.heart.records.find? _ = _
    rw [huh]
    exact find_setSlotIn_other _ _ hk
  · show u.startSigning.heart = { s.dev.heart with signQueue := rest, records := u.startSigning.heart.records }
    rw [huh]
  · exact startSigning_record u hups hsign (by rw [hsaved']; exact hr) (by rw [hsaved']; exact ha)
  · rw [nat_of_val ((huv _).trans (hvv _)), hcount]
  · rw [huv, hvv]
    by_cases hr : k = Key.refusedCount 0x04
    · rw [hr, hrefused]
    · exact hval k (by simpa using hkey) hr

/-- RECORD_SIGNED refused: event 0x0701, and a retry in 60 s. -/
theorem recordSigned_refused (s : State) (n result : Nat) (rest : List Nat) (ok : Bool) (hs : s.dev.burl.signing = .record)
    (hq : s.dev.heart.signQueue = n :: rest) (hu : s.dev.burlUp = true) (hh : s.dev.heartwoodUp = true) (hm : s.dev.rail .vddMem = true)
    (hk : ok = false ∨ s.dev.keyOf 0x04 = none) :
    Completes (.recordSigned ok result) s fun t =>
      (∃ e : LegalEntry, t.dev.heart = { s.dev.heart with
          log := e :: s.dev.heart.log.take 32767, signRetryAt := some (s.dev.nowMs + 60000) } ∧ e.code = 0x0701 ∧
        e.data = leBytes 4 n ++ leBytes 4 result) ∧
      t.dev.nat Key.signingFailCount = min (s.dev.nat Key.signingFailCount + 1) (Dev.top Key.signingFailCount) ∧
      t.dev.burl.signing ≠ .record ∧ Only [.heart, .burl] [Key.signingFailCount, Key.refusedCount 0x04] s t := by
  have hex : exec (.recordSigned ok result) s = .next { s with dev := s.dev.recordSigned ok result } := rfl
  rw [recordSigned_failed s.dev hs hq hu hh hk] at hex
  obtain ⟨hburl, hheart, hval, -, hunused, hkeep⟩ := signingEnded_leaves s.dev ok
  have hcount := hunused hk
  obtain ⟨-, -, hrail, hms⟩ := signingEnded_ups s.dev ok
  generalize signingEnded s.dev ok = w at hburl hheart hval hcount hrail hms hkeep hex
  obtain ⟨e, -, hcode, -, hdata, -, hlog⟩ := Dev.legal_heart w 0x0701 0xFF (leBytes 4 n ++ leBytes 4 result) (hrail.trans hm)
  have hlv : ∀ k, (w.legal 0x0701 0xFF (leBytes 4 n ++ leBytes 4 result)).val k = w.val k := fun k => Dev.legal_val ..
  have hlk := Dev.legal_keeps0 w 0x0701 0xFF (leBytes 4 n ++ leBytes 4 result)
  generalize w.legal 0x0701 0xFF (leBytes 4 n ++ leBytes 4 result) = v at hlog hlv hlk hex
  have hbk := Dev.bump_keeps0 v Key.signingFailCount 1
  have hbn : (v.bump Key.signingFailCount).nat Key.signingFailCount = _ := Dev.nat_bump v Key.signingFailCount 1
  have hbv : ∀ k, k ≠ Key.signingFailCount → (v.bump Key.signingFailCount).val k = v.val k := fun k h => Dev.val_bump_other v 1 h.symm
  generalize v.bump Key.signingFailCount = u at hbk hbn hbv hex
  have hnow : u.nowMs = s.dev.nowMs := by
    rw [← hms]
    unfold Dev.nowMs
    rw [hbk.get_dict rfl, hlk.get_dict rfl]
  have huh : (u.setHeart (retryFrom (u.nowMs + 60000))).heart =
      { s.dev.heart with log := e :: s.dev.heart.log.take 32767, signRetryAt := some (s.dev.nowMs + 60000) } := by
    show retryFrom (u.nowMs + 60000) u.heart = _
    rw [hbk.get_heart rfl, hlog, hheart, hnow]
    rfl
  have hidle : (u.setHeart (retryFrom (u.nowMs + 60000))).burl.signing = .idle := by
    show u.burl.signing = _
    rw [hbk.get_burl rfl, hlk.get_burl rfl, hburl]
  have huk : Keeps 8396804 s.dev (u.setHeart (retryFrom (u.nowMs + 60000))) :=
    (((hkeep.mono (by decide)).trans (hlk.mono (by decide))).trans (hbk.mono (by decide))).trans ((Dev.setHeart_keeps0 _ _).mono (by decide))
  have huv : ∀ k, (u.setHeart (retryFrom (u.nowMs + 60000))).val k = u.val k := fun _ => rfl
  generalize u.setHeart (retryFrom (u.nowMs + 60000)) = x at huh hidle huk huv hex
  obtain ⟨hxh, hxv, hxk⟩ := startSigning_leaves x
  refine ⟨_, hex, ⟨e, hxh.trans huh, hcode, hdata⟩, ?_, startSigning_waits x hidle (by rw [huh]), (huk.trans (hxk.mono (by decide))).only (by decide)
    fun k hkey => ?_⟩
  · rw [nat_of_val ((hxv _).trans (huv _)), hbn, nat_of_val (hlv _), nat_of_val (hval _ (by decide) (by decide))]
  · simp only [List.mem_cons, List.not_mem_nil, or_false, not_or] at hkey
    rw [hxv, huv, hbv k hkey.1, hlv]
    by_cases hc : k = Key.useCount 0x04
    · rw [hc, hcount]
    · exact hval k hc hkey.2

/-- SIGNING_RETRY: after its 60 s the record is tried again. -/
theorem signingRetry_leaves (s : State) (at_ : Nat) (ha : s.dev.heart.signRetryAt = some at_) (hh : s.dev.heartwoodUp = true) (ht : at_ ≤ s.dev.nowMs) :
    Completes .signingRetry s fun t =>
      t.dev.heart = { s.dev.heart with signRetryAt := none } ∧
      (s.dev.burlUp = true → s.dev.burl.signing = .idle → s.dev.heart.signQueue ≠ [] → t.dev.burl.signing = .record) ∧ Only [.heart, .burl] [] s t := by
  obtain ⟨w, hw⟩ : ∃ w, w = s.dev.setHeart fun h => { h with signRetryAt := none } := ⟨_, rfl⟩
  have hretry : s.dev.signingRetry = w.startSigning := by
    unfold Dev.signingRetry
    rw [ha, hw]
    exact if_pos ⟨hh, ht⟩
  have hex : exec .signingRetry s = .next { s with dev := s.dev.signingRetry } := rfl
  rw [hretry] at hex
  have hwk : Keeps 8192 s.dev w := by rw [hw]; exact Dev.setHeart_keeps0 _ _
  have hwh : w.heart = { s.dev.heart with signRetryAt := none } := by rw [hw]; rfl
  have hwb : w.burl = s.dev.burl := by rw [hw]; rfl
  obtain ⟨hxh, -, hxk⟩ := startSigning_leaves w
  refine ⟨_, hex, hxh.trans hwh, fun hu hs hq => ?_, ((hwk.mono (by decide)).trans (hxk.mono (by decide)) : Keeps 8396800 _ _).only_nil rfl (by decide)⟩
  exact startSigning_record w ((burlUp_congr s.dev (hwk.get_power rfl) (hwk.get_cores rfl)).trans hu) (by rw [hwb]; exact hs) (by rw [hwh]; exact hq)
    (by rw [hwh])

/-! ### Inspections (12 R325) -/

theorem entryOf_star (body : List Key) : entryOf (.star :: body ++ [.hash]) = .inspection body := by
  unfold entryOf
  rw [if_neg (by rw [List.getLast?_concat]; exact fun h => h rfl), List.dropLast_concat]

theorem inspects_stands {d : Dev} {body : List Key} (hh : d.heartwoodTakes = true) (hp : d.power.state ≠ .starting)
    (he : d.ledger.keypad.entry = .star :: body ++ [.hash]) : d.inspects body = true := by
  unfold Dev.inspects
  rw [he, entryOf_star]
  simp [hh, hp]

/-- An inspection sequence carried out: the entry emptied, code 0x12, and what the inspection is then. -/
def sequenceRun (d : Dev) (i : Option Inspection) : Dev :=
  (d.takeSequence.setHeart fun h => { h with inspection := i }).putFlag Key.inspectionActive i.isSome

theorem sequenceRun_leaves (s : State) (i : Option Inspection) :
    (sequenceRun s.dev i).heart = { s.dev.heart with inspection := i } ∧ (sequenceRun s.dev i).flag Key.inspectionActive = i.isSome ∧
      (sequenceRun s.dev i).nat Key.lastLegalCode = 0x12 ∧
      (sequenceRun s.dev i).ledger = { s.dev.ledger with keypad := { s.dev.ledger.keypad with entry := [] } } ∧
      Only [.heart, .ledger] [Key.lastLegalCode, Key.inspectionActive] s { s with dev := sequenceRun s.dev i } := by
  have htake : Keeps 2097156 s.dev s.dev.takeSequence :=
    ((Dev.setKeypad_keeps0 _ _).mono (by decide)).trans ((Dev.putNat_keeps0 _ _ _).mono (by decide))
  have hheart : s.dev.takeSequence.heart = s.dev.heart := htake.get_heart rfl
  have hledger : s.dev.takeSequence.ledger = { s.dev.ledger with keypad := { s.dev.ledger.keypad with entry := [] } } := Dev.putNat_ledger ..
  have hcode : s.dev.takeSequence.nat Key.lastLegalCode = 0x12 := Dev.nat_putNat ..
  have hval : ∀ k, k ≠ Key.lastLegalCode → s.dev.takeSequence.val k = s.dev.val k := fun k h => Dev.val_putNat_other _ _ h.symm
  unfold sequenceRun
  generalize s.dev.takeSequence = w at htake hheart hledger hcode hval
  have hkeep : Keeps 2105348 s.dev ((w.setHeart fun h => { h with inspection := i }).putFlag Key.inspectionActive i.isSome) :=
    ((htake.mono (by decide)).trans ((Dev.setHeart_keeps0 _ _).mono (by decide))).trans ((Dev.putFlag_keeps0 _ _ _).mono (by decide))
  refine ⟨?_, Dev.flag_putFlag .., ?_, ?_, hkeep.only (by decide) fun k hk => ?_⟩
  · rw [Dev.putFlag_heart, ← hheart]
    rfl
  · exact (nat_of_val (Dev.val_putFlag_other _ _ (by decide))).trans hcode
  · rw [Dev.putFlag_ledger]
    exact hledger
  · simp only [List.mem_cons, List.not_mem_nil, or_false, not_or] at hk
    exact (Dev.val_putFlag_other _ _ (Ne.symm hk.2)).trans (hval k hk.1)

/-- INSPECTION_TIMEOUT: an inspection ends 120 s after its last key. -/
theorem inspectionTimeout_leaves (s : State) (i : Inspection) (hi : s.dev.heart.inspection = some i) (hp : s.dev.powered = true) :
    Completes .inspectionTimeout s fun t =>
      if i.lastKey + 120000 ≤ s.dev.nowMs then
        t.dev.heart = { s.dev.heart with inspection := none } ∧ t.dev.flag Key.inspectionActive = false ∧ Only [.heart] [Key.inspectionActive] s t
      else t = s := by
  have hex : exec .inspectionTimeout s = .next { s with dev := s.dev.inspectionTimeout } := rfl
  unfold Dev.inspectionTimeout at hex
  rw [hi] at hex
  dsimp only at hex
  by_cases h : i.lastKey + 120000 ≤ s.dev.nowMs
  · rw [if_pos ⟨hp, h⟩] at hex
    simp only [if_pos h]
    have hkeep : Keeps 8196 s.dev s.dev.endInspection :=
      ((Dev.setHeart_keeps0 _ _).mono (by decide)).trans ((Dev.putFlag_keeps0 _ _ _).mono (by decide))
    exact ⟨_, hex, Dev.putFlag_heart .., Dev.flag_putFlag .., hkeep.only (by decide) fun k hk => Dev.val_putFlag_other _ _ fun he => hk (by simp [he])⟩
  · rw [if_neg fun hc => h hc.2] at hex
    refine ⟨s, hex, ?_⟩
    beta_reduce
    rw [if_neg h]

/-- Settles O44: session records are signed or tried again, and inspections show, count and end. -/
theorem recordsAreSignedAndInspectionsShow : Obligations.RecordsAreSignedAndInspectionsShow := by
  unfold Obligations.RecordsAreSignedAndInspectionsShow
  intro stands took
  have hrun : ∀ (s : State) (c : Instr) (i : Option Inspection), exec c s = .next { s with dev := sequenceRun s.dev i } →
      Completes c s fun t => took s t i := fun s c i hex => ⟨_, hex, sequenceRun_leaves s i⟩
  refine ⟨recordSigned_leaves, recordSigned_refused, signingRetry_leaves, fun s ⟨hh, hp, he⟩ => hrun s _ _ ?_, fun s p ⟨hh, hp, he⟩ => hrun s _ _ ?_,
    fun s ⟨hh, hp, he⟩ => hrun s _ _ ?_, inspectionTimeout_leaves⟩
  · show Host.Outcome.next { s with dev := s.dev.showItems } = _
    rw [Dev.showItems, if_pos (inspects_stands hh hp he)]
    rfl
  · show Host.Outcome.next { s with dev := s.dev.testCount p } = _
    rw [Dev.testCount, if_pos (inspects_stands hh hp he)]
    rfl
  · show Host.Outcome.next { s with dev := s.dev.inspectionEnd } = _
    rw [Dev.inspectionEnd, if_pos (inspects_stands hh hp he)]
    rfl

end Sys2Proof.Machine
end

section
/-! PROOFS. The effects of the external legal commands (08 R213 to R215; 12 R312 to R314; 16 R450). -/

namespace Sys2Proof.Machine

/-! ### A command that passes its checks -/

/-- The objects of the receipt of a command. -/
def legalOwn : List Nat := [Key.lastLegalCode, Key.lastLegalResult, Key.legalSequence, Key.useCount 0x05]

/-- What passes the checks of every external command (12 R310). -/
structure LegalPasses (s : State) (env : LegalEnv) : Prop where
  takes : s.dev.heartwoodTakes = true
  mem : s.dev.rail .vddMem = true
  sig : env.sigOk = true
  hash : env.hashOk = true
  key : (s.dev.keyOf 0x05).isSome = true
  up : s.dev.burlUp = true
  seq : s.dev.nat Key.legalSequence < env.seq
  sealed : s.dev.heart.sealBroken = 0

/-- The device as the command's own conditions find it. -/
structure LegalReady (d : Dev) (env : LegalEnv) (code : Nat) (w : Dev) : Prop where
  named : w.nat Key.lastLegalCode = code
  counter : w.nat Key.legalSequence = env.seq
  vals : ∀ k, k ∉ legalOwn → w.val k = d.val k
  burl : ∃ cells, w.burl = { d.burl with cells := cells }
  keeps : Keeps 8388740 d w

theorem legalKeyed_isSome {v : Dev} (h : (v.keyOf 0x05).isSome = true) {k : Nat} (hk : k ≠ Key.useCount 0x05) : (legalKeyed v).val k = v.val k := by
  unfold legalKeyed
  split
  · have huse : v.useKey 0x05 = v.bump (Key.useCount 5) := congrArg (fun k => v.bump k) (if_pos h)
    rw [huse]
    exact Dev.val_bump_other _ _ (Ne.symm hk)
  · rfl

theorem legalReady (s : State) (env : LegalEnv) (code : Nat) (states : List Nat) (serve : Dev → Except Nat Dev) (h : LegalPasses s env)
    (hl : s.dev.lifecycle ∈ states) :
    ∃ w, LegalReady s.dev env code w ∧ s.dev.legalCommand env code states serve = legalServe w env code serve := by
  obtain ⟨hname, hval, hkeep⟩ := legalTaken s.dev env code
  have hnamed : ∀ k, k ≠ Key.lastLegalCode → (legalNamed s.dev env code).val k = s.dev.val k := fun k hk =>
    (Dev.val_putNat_other _ _ (Ne.symm hk)).trans rfl
  have hnkey : (legalNamed s.dev env code).keyOf 0x05 = s.dev.keyOf 0x05 := keyOf_congr _ _ (hnamed _ (by decide)) (by unfold legalNamed; rw [Dev.putNat_burl])
  have hrest : ∀ k, k ≠ Key.lastLegalCode → k ≠ Key.useCount 0x05 → (legalKeyed (legalNamed s.dev env code)).val k = s.dev.val k := fun k hc hu =>
    (legalKeyed_isSome (by rw [hnkey]; exact h.key) hu).trans (hnamed k hc)
  rw [legalCommand_eq _ _ _ _ _ h.takes]
  generalize legalKeyed (legalNamed s.dev env code) = w at hname hkeep hrest
  have hkey : w.keyOf 0x05 = s.dev.keyOf 0x05 := keyOf_congr _ _ (hrest _ (by decide) (by decide)) (by rw [hkeep.get_burl rfl])
  have hup : w.burlUp = s.dev.burlUp := burlUp_congr _ (hkeep.get_power rfl) (hkeep.get_cores rfl)
  have hold : w.nat Key.legalSequence = s.dev.nat Key.legalSequence := nat_of_val (hrest _ (by decide) (by decide))
  obtain ⟨hseq, hother, hck⟩ := legalCounted_leaves w env
  obtain ⟨cells, hcells⟩ := count_burl w 0 Key.legalSequence (max (w.nat Key.legalSequence) env.seq)
  have hburl : (legalCounted w env).burl = { s.dev.burl with cells := cells } := by rw [← hkeep.get_burl rfl]; exact hcells
  have hver : legalVerified w env code states serve = legalChecked (legalCounted w env) (s.dev.nat Key.legalSequence) env code states serve := by
    unfold legalVerified
    rw [if_neg (by rw [hkey, hup]; simp [h.sig, h.up, Option.isSome_iff_ne_none.1 h.key]), hold]
  have hready : LegalReady s.dev env code (legalCounted w env) := by
    refine ⟨(nat_of_val (hother _ (by decide))).trans hname, hseq.trans ?_, fun k hk => ?_, ⟨cells, hburl⟩, (hkeep.mono (by decide)).trans (hck.mono (by decide))⟩
    · rw [hold]
      exact Nat.max_eq_right (Nat.le_of_lt h.seq)
    · simp only [legalOwn, List.mem_cons, List.not_mem_nil, or_false, not_or] at hk
      exact (hother k hk.2.2.1).trans (hrest k hk.1 hk.2.2.2)
  refine ⟨_, hready, hver.trans ?_⟩
  generalize legalCounted w env = v at hready
  have hlife : v.lifecycle = s.dev.lifecycle := nat_of_val (hready.vals _ (by decide))
  have hseq := h.seq
  unfold legalChecked
  rw [if_neg (by simp [h.hash]; omega), if_neg (by rw [hlife]; simpa using hl), if_neg (by rw [hready.keeps.get_heart rfl]; simp [h.sealed])]

/-- The receipt of a command that has its effect. -/
theorem legalServed {d e w : Dev} {env : LegalEnv} {code : Nat} {serve : Dev → Except Nat Dev} (hr : LegalReady d env code w) (he : serve w = .ok e)
    (hc : e.val Key.lastLegalCode = w.val Key.lastLegalCode) (hs : e.val Key.legalSequence = w.val Key.legalSequence) :
    legalServe w env code serve = e.putNat Key.lastLegalResult 0 ∧
      (e.putNat Key.lastLegalResult 0).nat Key.lastLegalCode = code ∧ (e.putNat Key.lastLegalResult 0).nat Key.lastLegalResult = 0 ∧
      (e.putNat Key.lastLegalResult 0).nat Key.legalSequence = env.seq := by
  refine ⟨by unfold legalServe; rw [he], ?_, Dev.nat_putNat .., ?_⟩
  · exact (Dev.nat_putNat_other _ _ (by decide)).trans ((nat_of_val hc).trans hr.named)
  · exact (Dev.nat_putNat_other _ _ (by decide)).trans ((nat_of_val hs).trans hr.counter)

/-! ### Calibration (08 R213 to R215) -/

/-- The index of a calibration object. -/
theorem calibrationPort_index {k : Nat} {p : Option PortId} (h : Dev.calibrationPort k = some p) : 0x3900 ≤ k / 256 ∧ k / 256 ≤ 0x3989 := by
  unfold Dev.calibrationPort at h
  dsimp only at h
  split at h
  · omega
  · split at h
    · omega
    · split at h
      · omega
      · exact absurd h (by simp)

theorem calibrationValue_congr {d e : Dev} (h : ∀ k, k / 256 < 0x39F0 → e.val k = d.val k) : calibrationValue e = calibrationValue d := by
  unfold calibrationValue serialise
  refine congrArg crc32c (List.flatMap_congr fun i hi => Tests.serialIndex_congr fun sub _ hs => ?_)
  obtain ⟨hlow, hsub⟩ := Tests.calibrationIndices_plain hi
  exact h _ (by simp only [ob]; omega)

section
variable {d e : Dev} (h : ∀ k, k / 256 < 0x39F0 → e.val k = d.val k)
include h

theorem int_cal {k : Nat} (hk : k / 256 < 0x39F0) : e.int k = d.int k := by
  unfold Dev.int
  rw [h k hk]

theorem channelInRange_congr {c : Nat} (hc : c ≤ 0x43) : e.channelInRange c = d.channelInRange c := by
  unfold Dev.channelInRange
  rw [Bool.eq_iff_iff, List.all_eq_true, List.all_eq_true]
  refine forall₂_congr fun b hb => ?_
  have hlt : b < 8 := List.mem_range.1 hb
  have hkey : ∀ s, s < 0x20 → (ob (0x3900 + c) s) / 256 < 0x39F0 := fun s hs => by simp only [ob]; omega
  simp only [int_cal h (k := Key.offset c) (hkey _ (by omega)), int_cal h (k := Key.offsetBand c b) (hkey _ (by omega)),
    int_cal h (k := Key.delay c) (hkey _ (by omega)), int_cal h (k := Key.delayBand c b) (hkey _ (by omega)),
    int_cal h (k := Key.gain c) (hkey _ (by omega)), int_cal h (k := Key.gainBand c b) (hkey _ (by omega))]

theorem edgesRise_congr : e.edgesRise = d.edgesRise := by
  unfold Dev.edgesRise
  rw [Bool.eq_iff_iff, List.all_eq_true, List.all_eq_true]
  refine forall₂_congr fun i hi => ?_
  have hlt : i < 6 := List.mem_range.1 hi
  have hkey : ∀ s, s < 0x20 → (ob 0x3989 s) / 256 < 0x39F0 := fun s hs => by simp only [ob]; omega
  simp only [int_cal h (k := Key.bandEdge i) (hkey _ (by omega)), int_cal h (k := Key.bandEdge (i + 1)) (hkey _ (by omega))]

end

/-- Two devices that agree on an object still do once it is written in both. -/
theorem val_put_congr {d e : Dev} {k : Nat} (v : Val) {j : Nat} (h : j ≠ k → e.val j = d.val j) : (e.put k v).val j = (d.put k v).val j := by
  by_cases hj : j = k
  · rw [hj, Dev.val_put, Dev.val_put]
  · rw [Dev.val_put_other _ _ (Ne.symm hj), Dev.val_put_other _ _ (Ne.symm hj), h hj]

/-- The objects of the receipt lie beyond the calibration. -/
theorem legalOwn_far {k : Nat} (h : k / 256 < 0x39F0) : k ∉ legalOwn := by
  intro hk
  simp only [legalOwn, Key.lastLegalCode, Key.lastLegalResult, Key.legalSequence, Key.useCount, ob, List.mem_cons, List.not_mem_nil, or_false] at hk
  omega

/-- The device with a calibration object written, its time and its count. -/
def calibrated (d : Dev) (k : Nat) (v : Val) : Dev := ((d.put k v).putNat Key.calibrationTime d.nowUs).bump Key.calibrationCount

/-- The check value follows, and the calibration is good. -/
def calChecked (d : Dev) : Dev := (d.putNat Key.calibrationCheck (calibrationValue d)).setHeart fun h => { h with calFailed := false }

/-- The port of a calibration object is in Clearing, or every port. -/
def clearFor (d : Dev) : Option PortId → Bool
  | some q => d.clearing q
  | none => d.allClearing

theorem calibrationWrite_ok {w : Dev} {k : Nat} {data : Bytes} {r : Row} {p : Option PortId} (hp : Dev.calibrationPort k = some p) (hr : rowOf k = some r)
    (hv : valueFault k r data = none) (hc : clearFor w p = true)
    (hrange : k / 256 ≤ 0x3943 → (w.put k (r.ty.decode data)).channelInRange (k / 256 - 0x3900) = true)
    (hband : 0x3984 ≤ k / 256 → k / 256 ≤ 0x3987 → k % 256 < 3)
    (hedge : k / 256 = 0x3989 → (w.put k (r.ty.decode data)).edgesRise = true) :
    w.calibrationWrite k data = .ok ((calChecked (calibrated w k (r.ty.decode data))).logWrite k (r.ty.encode (w.val k)) data) := by
  unfold Dev.calibrationWrite
  rw [hp, hr]
  dsimp only
  rw [hv]
  dsimp only
  rw [if_neg (by rintro ⟨hi, hn⟩; simp [hrange hi] at hn), if_neg (by rintro ⟨hi, hj, hn, -⟩; have := hband hi hj; omega),
    if_neg (by rintro ⟨hi, hn⟩; simp [hedge hi] at hn), if_neg (by cases p <;> simpa [clearFor] using hc)]
  rfl

section
variable (d : Dev) (k : Nat) (v : Val)

theorem calibrated_leaves (hk : k / 256 < 0x39F0) :
    (calibrated d k v).val k = v ∧ (calibrated d k v).nat Key.calibrationTime = d.nowUs ∧
      (calibrated d k v).nat Key.calibrationCount = min (d.nat Key.calibrationCount + 1) (Dev.top Key.calibrationCount) ∧
      (∀ j, j ≠ k → j ≠ Key.calibrationTime → j ≠ Key.calibrationCount → (calibrated d k v).val j = d.val j) ∧ Keeps 4 d (calibrated d k v) := by
  have htime : Key.calibrationTime ≠ k := by rintro rfl; simp [Key.calibrationTime, ob] at hk
  have hcount : Key.calibrationCount ≠ k := by rintro rfl; simp [Key.calibrationCount, ob] at hk
  unfold calibrated
  refine ⟨?_, ?_, ?_, fun j h1 h2 h3 => ?_, ((Dev.put_keeps0 _ _ _).trans (Dev.putNat_keeps0 _ _ _)).trans (Dev.bump_keeps0 _ _ _)⟩
  · rw [Dev.val_bump_other _ _ hcount, Dev.val_putNat_other _ _ htime, Dev.val_put]
  · rw [Dev.nat_bump_other _ _ (by decide), Dev.nat_putNat]
  · rw [Dev.nat_bump, Dev.nat_putNat_other _ _ (by decide), nat_of_val (Dev.val_put_other _ _ (Ne.symm hcount))]
  · rw [Dev.val_bump_other _ _ (Ne.symm h3), Dev.val_putNat_other _ _ (Ne.symm h2), Dev.val_put_other _ _ (Ne.symm h1)]

theorem calChecked_leaves :
    (calChecked d).nat Key.calibrationCheck = calibrationValue d ∧ (calChecked d).heart = { d.heart with calFailed := false } ∧
      (∀ j, j ≠ Key.calibrationCheck → (calChecked d).val j = d.val j) ∧ Keeps 8196 d (calChecked d) := by
  unfold calChecked
  refine ⟨Dev.nat_putNat d _ _, ?_, fun j hj => Dev.val_putNat_other d _ (Ne.symm hj),
    ((Dev.putNat_keeps0 _ _ _).mono (by decide)).trans ((Dev.setHeart_keeps0 _ _).mono (by decide))⟩
  show ({ (d.putNat Key.calibrationCheck (calibrationValue d)).heart with calFailed := false } : Heartwood) = _
  rw [Dev.putNat_heart]

/-- A legal write logged with its old and new value. -/
theorem logWrite_leaves (old new : Bytes) (hm : d.rail .vddMem = true) :
    (∃ e : LegalEntry, (d.logWrite k old new).heart = { d.heart with log := e :: d.heart.log.take 32767 } ∧ e.code = 0x0306 ∧
      e.data = leBytes 4 (refOf k) ++ padTo 12 old ++ padTo 12 new) ∧
      (∀ j, (d.logWrite k old new).val j = d.val j) ∧ Keeps 8192 d (d.logWrite k old new) := by
  obtain ⟨e, -, hcode, -, hdata, -, hheart⟩ := Dev.legal_heart d 0x0306 0xFF (leBytes 4 (refOf k) ++ padTo 12 old ++ padTo 12 new) hm
  exact ⟨⟨e, hheart, hcode, hdata⟩, fun j => Dev.legal_val .., Dev.legal_keeps0 _ _ _ _⟩

end

/-- The write of an object under an external command. -/
def LegalWritten (s t : State) (k : Nat) (data : Bytes) (r : Row) : Prop :=
  t.dev.val k = r.ty.decode data ∧
    ∃ e : LegalEntry, t.dev.heart.log = e :: s.dev.heart.log.take 32767 ∧ e.code = 0x0306 ∧
      e.data = leBytes 4 (refOf k) ++ padTo 12 (r.ty.encode (s.dev.val k)) ++ padTo 12 data

/-- The receipt of an external command that had its effect. -/
def LegalDone (env : LegalEnv) (code : Nat) (t : State) : Prop :=
  t.dev.nat Key.lastLegalCode = code ∧ t.dev.nat Key.lastLegalResult = 0 ∧ t.dev.nat Key.legalSequence = env.seq

theorem rail_ready {d w : Dev} {env : LegalEnv} {code : Nat} (h : LegalReady d env code w) (r : Rail) : w.rail r = d.rail r := by
  unfold Dev.rail
  rw [h.keeps.get_power rfl]

theorem nowUs_ready {d w : Dev} {env : LegalEnv} {code : Nat} (h : LegalReady d env code w) : w.nowUs = d.nowUs :=
  nowUs_of_time (h.keeps.get_time rfl)

theorem balancesMove_ready {d w : Dev} {env : LegalEnv} {code : Nat} (h : LegalReady d env code w) : w.balancesMove = d.balancesMove := by
  unfold Dev.balancesMove Dev.ledgerUp Dev.powered
  rw [rail_ready h .vddMem, h.keeps.get_power rfl, h.keeps.get_energy rfl]

theorem allClearing_ready {d w : Dev} {env : LegalEnv} {code : Nat} (h : LegalReady d env code w) :
    w.allClearing = d.allClearing ∧ ∀ p, w.clearing p = d.clearing p := by
  have hc : ∀ p, w.clearing p = d.clearing p := fun p => by
    unfold Dev.clearing Dev.port
    rw [h.keeps.get_ports rfl]
  exact ⟨by unfold Dev.allClearing; simp only [hc], hc⟩

theorem clearFor_ready {d w : Dev} {env : LegalEnv} {code : Nat} (h : LegalReady d env code w) (p : Option PortId) : clearFor w p = clearFor d p := by
  cases p with
  | none => exact (allClearing_ready h).1
  | some q => exact (allClearing_ready h).2 q

/-- CALIBRATION_WRITE (08 R213 to R215). -/
theorem calibrationWrite_leaves (s : State) (env : LegalEnv) (o : ObjRef) (data : Bytes) (r : Row) (p : Option PortId) (h : LegalPasses s env)
    (hl : s.dev.lifecycle ∈ [1, 2]) (hp : Dev.calibrationPort (keyOfObj o) = some p) (hrow : rowOf (keyOfObj o) = some r)
    (hv : valueFault (keyOfObj o) r data = none) (hc : clearFor s.dev p = true)
    (hrange : keyOfObj o / 256 ≤ 0x3943 → (s.dev.put (keyOfObj o) (r.ty.decode data)).channelInRange (keyOfObj o / 256 - 0x3900) = true)
    (hband : 0x3984 ≤ keyOfObj o / 256 → keyOfObj o / 256 ≤ 0x3987 → keyOfObj o % 256 < 3)
    (hedge : keyOfObj o / 256 = 0x3989 → (s.dev.put (keyOfObj o) (r.ty.decode data)).edgesRise = true) :
    Completes (.calibrationWrite env o data) s fun t =>
      LegalDone env 1 t ∧ LegalWritten s t (keyOfObj o) data r ∧ t.dev.nat Key.calibrationTime = s.dev.nowUs ∧
      t.dev.nat Key.calibrationCount = min (s.dev.nat Key.calibrationCount + 1) (Dev.top Key.calibrationCount) ∧
      t.dev.nat Key.calibrationCheck = calibrationValue t.dev ∧ t.dev.heart.calFailed = false ∧
      Only [.heart, .mail, .burl] ([keyOfObj o, Key.calibrationTime, Key.calibrationCount, Key.calibrationCheck] ++ legalOwn) s t := by
  have hex : exec (.calibrationWrite env o data) s =
      .next { s with dev := s.dev.legalCommand env 1 [1, 2] fun d => d.calibrationWrite (keyOfObj o) data } := rfl
  obtain ⟨w, hw, heq⟩ := legalReady s env 1 [1, 2] (fun d => d.calibrationWrite (keyOfObj o) data) h hl
  rw [heq] at hex
  obtain ⟨hlow, hhigh⟩ := calibrationPort_index hp
  generalize keyOfObj o = k at *
  have hput : ∀ j, j / 256 < 0x39F0 → (w.put k (r.ty.decode data)).val j = (s.dev.put k (r.ty.decode data)).val j := fun j hj =>
    val_put_congr _ fun _ => hw.vals j (legalOwn_far hj)
  have hok := calibrationWrite_ok (w := w) hp hrow hv
    ((clearFor_ready hw p).trans hc)
    (fun hi => by rw [channelInRange_congr hput (by omega)]; exact hrange hi) hband (fun hi => by rw [edgesRise_congr hput]; exact hedge hi)
  obtain ⟨hself, htime, hcount, hother, hkeep⟩ := calibrated_leaves w k (r.ty.decode data) (by omega)
  rw [nowUs_ready hw] at htime
  rw [nat_of_val (hw.vals Key.calibrationCount (by decide))] at hcount
  rw [hw.vals k (legalOwn_far (by omega))] at hok
  generalize calibrated w k (r.ty.decode data) = v at hok hself htime hcount hother hkeep
  obtain ⟨hcheck, hheart, hcval, hckeep⟩ := calChecked_leaves v
  rw [hkeep.get_heart rfl, hw.keeps.get_heart rfl] at hheart
  have hmem : (calChecked v).rail .vddMem = true := by
    unfold Dev.rail
    rw [hckeep.get_power rfl, hkeep.get_power rfl]
    exact (rail_ready hw .vddMem).trans h.mem
  generalize calChecked v = u at hok hcheck hheart hcval hckeep hmem
  obtain ⟨⟨e, hlog, hcode, hdata⟩, hlval, hlkeep⟩ := logWrite_leaves u k (r.ty.encode (s.dev.val k)) data hmem
  generalize u.logWrite k (r.ty.encode (s.dev.val k)) data = x at hok hlog hlval hlkeep
  have hown : ∀ j, j ∈ legalOwn → j ≠ k := fun j hj he => absurd (he ▸ hj) (legalOwn_far (by omega))
  have hcal : ∀ j, j = Key.calibrationTime ∨ j = Key.calibrationCount ∨ j = Key.calibrationCheck → j ≠ k := fun j hj he => by
    simp only [Key.calibrationTime, Key.calibrationCount, Key.calibrationCheck, ob] at hj
    omega
  have hall : ∀ j, j ≠ k → j ≠ Key.calibrationTime → j ≠ Key.calibrationCount → j ≠ Key.calibrationCheck → x.val j = w.val j := fun j h1 h2 h3 h4 => by
    rw [hlval, hcval j h4, hother j h1 h2 h3]
  obtain ⟨hserve, hreceipt⟩ := legalServed (serve := fun d => d.calibrationWrite k data) hw hok (hall _ (hown _ (by decide)) (by decide) (by decide) (by decide))
    (hall _ (hown _ (by decide)) (by decide) (by decide) (by decide))
  rw [hserve] at hex
  have hlast : ∀ j, j ≠ Key.lastLegalResult → (x.putNat Key.lastLegalResult 0).val j = x.val j := fun j hj => Dev.val_putNat_other x 0 (Ne.symm hj)
  have hfinal : (x.putNat Key.lastLegalResult 0).heart = x.heart := Dev.putNat_heart ..
  have hk : k ≠ Key.lastLegalResult := fun he => hown _ (by decide) he.symm
  refine ⟨_, hex, hreceipt, ⟨?_, e, ?_, hcode, hdata⟩, ?_, ?_, ?_, ?_, ?_⟩
  · exact (hlast k hk).trans ((hlval k).trans ((hcval k (hcal _ (by simp)).symm).trans hself))
  · show (x.putNat Key.lastLegalResult 0).heart.log = _
    rw [hfinal, hlog, hheart]
  · rw [nat_of_val (hlast _ (by decide)), nat_of_val (hlval _), nat_of_val (hcval _ (by decide)), htime]
  · rw [nat_of_val (hlast _ (by decide)), nat_of_val (hlval _), nat_of_val (hcval _ (by decide)), hcount]
  · rw [nat_of_val (hlast _ (by decide)), nat_of_val (hlval _), hcheck]
    refine (calibrationValue_congr fun j hj => ?_).symm
    have hne : ∀ i, 0x39F0 ≤ i / 256 → j ≠ i := fun i hi he => by omega
    rw [hlast j (hne _ (by decide)), hlval, hcval j (hne _ (by decide))]
  · show (x.putNat Key.lastLegalResult 0).heart.calFailed = _
    rw [hfinal, hlog, hheart]
  · have hkeeps : Keeps 8396932 s.dev (x.putNat Key.lastLegalResult 0) :=
      ((((hw.keeps.mono (by decide)).trans (hkeep.mono (by decide))).trans (hckeep.mono (by decide))).trans (hlkeep.mono (by decide))).trans
        ((Dev.putNat_keeps0 _ _ _).mono (by decide))
    refine hkeeps.only (by decide) fun j hj => ?_
    simp only [List.mem_append, List.mem_cons, List.not_mem_nil, or_false, not_or] at hj
    obtain ⟨⟨h1, h2, h3, h4⟩, h5⟩ := hj
    rw [hlast j (fun he => h5 (by rw [he]; decide)), hall j h1 h2 h3 h4, hw.vals j h5]

/-! ### Constants (12 R312) -/

/-- The constants an external command may write. -/
def Constant (k : Nat) : Prop :=
  k = Key.utilityMeterNumber ∨ k = Key.approvalMark ∨ k = Key.mandatoryCount ∨ k / 256 = 0xF381 ∧ 1 ≤ k % 256 ∧ k % 256 ≤ 0x20

theorem constant_far {k : Nat} (h : Constant k) : k ∉ legalOwn := by
  intro hk
  simp only [legalOwn, Key.lastLegalCode, Key.lastLegalResult, Key.legalSequence, Key.useCount, ob, List.mem_cons, List.not_mem_nil, or_false] at hk
  simp only [Constant, Key.utilityMeterNumber, Key.approvalMark, Key.mandatoryCount, ob] at h
  omega

theorem itemsComplete_congr {d e : Dev} (h : ∀ k, 0xF380 ≤ k / 256 → e.val k = d.val k) : e.itemsComplete = d.itemsComplete := by
  unfold Dev.itemsComplete
  have hitem : ∀ i, e.nat (Key.mandatoryItem i) = d.nat (Key.mandatoryItem i) := fun i => nat_of_val (h _ (by simp only [Key.mandatoryItem, ob]; omega))
  rw [nat_of_val (h Key.mandatoryCount (by decide))]
  simp only [hitem]

theorem constantsWrite_ok {w : Dev} {k : Nat} {data : Bytes} {r : Row} (hc : Constant k) (hr : rowOf k = some r) (hv : valueFault k r data = none)
    (hi : 0xF380 ≤ k / 256 → (w.put k (r.ty.decode data)).itemsComplete = true) :
    w.constantsWrite k data = .ok ((w.put k (r.ty.decode data)).logWrite k (r.ty.encode (w.val k)) data) := by
  unfold Dev.constantsWrite
  rw [hr]
  dsimp only
  rw [hv, if_neg (by simp only [Bool.not_eq_true', decide_eq_false_iff_not, not_not]; exact hc)]
  dsimp only
  rw [if_neg (by rintro ⟨hl, hn⟩; simp [hi hl] at hn)]

/-- CONSTANTS_WRITE (12 R312). -/
theorem constantsWrite_leaves (s : State) (env : LegalEnv) (o : ObjRef) (data : Bytes) (r : Row) (h : LegalPasses s env) (hl : s.dev.lifecycle ∈ [1, 2])
    (hc : Constant (keyOfObj o)) (hi : 0xF380 ≤ keyOfObj o / 256 → (s.dev.put (keyOfObj o) (r.ty.decode data)).itemsComplete = true)
    (hrow : rowOf (keyOfObj o) = some r) (hv : valueFault (keyOfObj o) r data = none) :
    Completes (.constantsWrite env o data) s fun t =>
      LegalDone env 2 t ∧ LegalWritten s t (keyOfObj o) data r ∧ Only [.heart, .mail, .burl] (keyOfObj o :: legalOwn) s t := by
  have hex : exec (.constantsWrite env o data) s =
      .next { s with dev := s.dev.legalCommand env 2 [1, 2] fun d => d.constantsWrite (keyOfObj o) data } := rfl
  obtain ⟨w, hw, heq⟩ := legalReady s env 2 [1, 2] (fun d => d.constantsWrite (keyOfObj o) data) h hl
  rw [heq] at hex
  generalize keyOfObj o = k at *
  have hfar := constant_far hc
  have hok := constantsWrite_ok (w := w) hc hrow hv fun hlow => by
    rw [itemsComplete_congr (d := s.dev.put k (r.ty.decode data)) fun j hj => val_put_congr _ fun _ => hw.vals j fun hm => ?_]
    · exact hi hlow
    · simp only [legalOwn, Key.lastLegalCode, Key.lastLegalResult, Key.legalSequence, Key.useCount, ob, List.mem_cons, List.not_mem_nil, or_false] at hm
      omega
  rw [hw.vals k hfar] at hok
  have hkeep := Dev.put_keeps0 w k (r.ty.decode data)
  have hself := Dev.val_put w k (r.ty.decode data)
  have hother : ∀ j, j ≠ k → (w.put k (r.ty.decode data)).val j = w.val j := fun j hj => Dev.val_put_other w _ (Ne.symm hj)
  have hmem : (w.put k (r.ty.decode data)).rail .vddMem = true := by
    unfold Dev.rail
    rw [hkeep.get_power rfl]
    exact (rail_ready hw .vddMem).trans h.mem
  generalize w.put k (r.ty.decode data) = u at hok hkeep hself hother hmem
  obtain ⟨⟨e, hlog, hcode, hdata⟩, hlval, hlkeep⟩ := logWrite_leaves u k (r.ty.encode (s.dev.val k)) data hmem
  rw [hkeep.get_heart rfl, hw.keeps.get_heart rfl] at hlog
  generalize u.logWrite k (r.ty.encode (s.dev.val k)) data = x at hok hlog hlval hlkeep
  have hall : ∀ j, j ≠ k → x.val j = w.val j := fun j hj => (hlval j).trans (hother j hj)
  have hown : ∀ j, j ∈ legalOwn → j ≠ k := fun j hj he => hfar (he ▸ hj)
  obtain ⟨hserve, hreceipt⟩ := legalServed (serve := fun d => d.constantsWrite k data) hw hok (hall _ (hown _ (by decide))) (hall _ (hown _ (by decide)))
  rw [hserve] at hex
  have hlast : ∀ j, j ≠ Key.lastLegalResult → (x.putNat Key.lastLegalResult 0).val j = x.val j := fun j hj => Dev.val_putNat_other x 0 (Ne.symm hj)
  refine ⟨_, hex, hreceipt, ⟨?_, e, ?_, hcode, hdata⟩, ?_⟩
  · exact (hlast k (hown _ (by decide)).symm).trans ((hlval k).trans hself)
  · show (x.putNat Key.lastLegalResult 0).heart.log = _
    rw [Dev.putNat_heart, hlog]
  · have hkeeps : Keeps 8396932 s.dev (x.putNat Key.lastLegalResult 0) :=
      (((hw.keeps.mono (by decide)).trans (hkeep.mono (by decide))).trans (hlkeep.mono (by decide))).trans ((Dev.putNat_keeps0 _ _ _).mono (by decide))
    refine hkeeps.only (by decide) fun j hj => ?_
    simp only [List.mem_cons, not_or] at hj
    obtain ⟨h1, h2⟩ := hj
    have h2' : j ∉ legalOwn := by simpa using h2
    rw [hlast j (fun he => h2' (by rw [he]; decide)), hall j h1, hw.vals j h2']

/-! ### The seal (12 R307, R308, R313; 16 R450) -/

/-- Heartwood and Burl once the unit's partition is stored. -/
def sealStored (d : Dev) (hash : Bytes) (check : Nat) : Dev :=
  (d.setHeart fun h => { h with sealedPart := some ⟨d.nowUs, d.obj, check, hash⟩, lockLatch := true }).setBurl fun b =>
    { b with sealHash := some hash, sealFuses := 1, fuseAt := d.nowMs }

/-- The objects of the seal. -/
def sealShown (d : Dev) (time : Nat) (hash : Bytes) (check : Nat) : Dev :=
  ((d.putNat Key.sealTime time).putBytes Key.sealHash hash).putNat Key.sealedParamCheck check

theorem sealUnit_ok {w : Dev} (hc : w.allClearing = true) (hv : calibrationValue w = w.nat Key.calibrationCheck)
    (hg : ∀ g : Nat, g < 0x20 → (g = 0x10 ∨ 0x18 ≤ g) → (w.group g).phase ≠ .staging ∧ (w.group g).phase ≠ .committing) (hf : w.burl.sealFuses = 0)
    (hk : w.burl.keyOp = none) :
    ∃ check hash, w.sealUnit = .ok ((sealShown (sealStored w hash check) w.nowUs hash check).legal 0x0601 0xFF (hash.take 24)) := by
  refine ⟨crc32c (w.sealedImage w.nowUs), Config.sha256 (w.sealedImage w.nowUs ++ leBytes 4 (crc32c (w.sealedImage w.nowUs))), ?_⟩
  have hend : w.keyOpEnd = w := by
    unfold Dev.keyOpEnd
    rw [hk]
  have hgroups : ¬((0x10 :: (List.range 8).map (0x18 + ·)).any fun g => (w.group g).phase = .staging ∨ (w.group g).phase = .committing) = true := by
    simp only [List.any_eq_true, decide_eq_true_eq, not_exists, not_and, not_or]
    intro g hm
    have hr : g < 0x20 ∧ (g = 0x10 ∨ 0x18 ≤ g) := by
      rcases List.mem_cons.1 hm with rfl | hm
      · omega
      · obtain ⟨n, hn, rfl⟩ := List.mem_map.1 hm
        have := List.mem_range.1 hn
        omega
    exact hg g hr.1 hr.2
  unfold Dev.sealUnit
  rw [if_neg (by simp [hc]), if_neg (by simp [hv]), if_neg hgroups, if_neg (by simp [hf]), hend]
  rfl

theorem sealStored_leaves (d : Dev) (hash : Bytes) (check : Nat) :
    (sealStored d hash check).heart = { d.heart with sealedPart := some ⟨d.nowUs, d.obj, check, hash⟩, lockLatch := true } ∧
      (sealStored d hash check).burl = { d.burl with sealHash := some hash, sealFuses := 1, fuseAt := d.nowMs } ∧
      (∀ k, (sealStored d hash check).val k = d.val k) ∧ Keeps 8396800 d (sealStored d hash check) :=
  ⟨rfl, rfl, fun _ => rfl, ((Dev.setHeart_keeps0 _ _).mono (by decide)).trans ((Dev.setBurl_keeps0 _ _).mono (by decide))⟩

theorem sealShown_leaves (d : Dev) (time : Nat) (hash : Bytes) (check : Nat) :
    (sealShown d time hash check).nat Key.sealTime = time ∧ (sealShown d time hash check).bytes Key.sealHash = hash ∧
      (sealShown d time hash check).nat Key.sealedParamCheck = check ∧
      (∀ k, k ∉ [Key.sealTime, Key.sealHash, Key.sealedParamCheck] → (sealShown d time hash check).val k = d.val k) ∧
      Keeps 4 d (sealShown d time hash check) := by
  unfold sealShown
  refine ⟨?_, ?_, Dev.nat_putNat .., fun k hk => ?_, ((Dev.putNat_keeps0 _ _ _).trans (Dev.putBytes_keeps0 _ _ _)).trans (Dev.putNat_keeps0 _ _ _)⟩
  · exact (nat_of_val ((Dev.val_putNat_other _ _ (by decide)).trans (Dev.val_put_other _ _ (by decide)))).trans (Dev.nat_putNat ..)
  · rw [Dev.bytes_putNat_other _ _ (by decide), Dev.bytes_putBytes]
  · simp only [List.mem_cons, List.not_mem_nil, or_false, not_or] at hk
    obtain ⟨h1, h2, h3⟩ := hk
    exact (Dev.val_putNat_other _ _ (Ne.symm h3)).trans ((Dev.val_put_other _ _ (Ne.symm h2)).trans (Dev.val_putNat_other _ _ (Ne.symm h1)))

theorem bytes_of_val {d e : Dev} {k : Nat} (h : e.val k = d.val k) : e.bytes k = d.bytes k := by
  unfold Dev.bytes
  rw [h]

/-- SEAL_COMMAND (12 R313). -/
theorem sealCommand_leaves (s : State) (env : LegalEnv) (h : LegalPasses s env) (hl : s.dev.lifecycle = 2) (hc : s.dev.allClearing = true)
    (hv : calibrationValue s.dev = s.dev.nat Key.calibrationCheck)
    (hg : ∀ g : Nat, g < 0x20 → (g = 0x10 ∨ 0x18 ≤ g) → (s.dev.group g).phase ≠ .staging ∧ (s.dev.group g).phase ≠ .committing)
    (hf : s.dev.burl.sealFuses = 0) (hk : s.dev.burl.keyOp = none) :
    Completes (.sealCommand env) s fun t =>
      LegalDone env 3 t ∧ t.dev.burl.sealFuses = 1 ∧ t.dev.burl.fuseAt = s.dev.nowMs ∧ t.dev.heart.lockLatch = true ∧
      t.dev.nat Key.sealTime = s.dev.nowUs ∧
      (∃ x : Sealed, t.dev.heart.sealedPart = some x ∧ x.sealTime = s.dev.nowUs ∧ t.dev.burl.sealHash = some (t.dev.bytes Key.sealHash) ∧
        t.dev.nat Key.sealedParamCheck = x.check) ∧
      (∃ e : LegalEntry, t.dev.heart.log = e :: s.dev.heart.log.take 32767 ∧ e.code = 0x0601 ∧ e.data = (t.dev.bytes Key.sealHash).take 24) ∧
      Only [.heart, .mail, .burl] ([Key.sealTime, Key.sealHash, Key.sealedParamCheck] ++ legalOwn) s t := by
  have hex : exec (.sealCommand env) s = .next { s with dev := s.dev.legalCommand env 3 [2] Dev.sealUnit } := rfl
  obtain ⟨w, hw, heq⟩ := legalReady s env 3 [2] Dev.sealUnit h (by simp [hl])
  rw [heq] at hex
  obtain ⟨cells, hburl⟩ := hw.burl
  have hgroup : ∀ g, w.group g = s.dev.group g := fun g => by
    unfold Dev.group
    rw [hw.keeps.get_dict rfl]
  obtain ⟨check, hash, hok⟩ := sealUnit_ok (w := w) ((allClearing_ready hw).1.trans hc)
    (by rw [calibrationValue_congr fun j hj => hw.vals j (legalOwn_far hj), hv, nat_of_val (hw.vals _ (by decide))])
    (fun g h1 h2 => by rw [hgroup]; exact hg g h1 h2) (by rw [hburl]; exact hf) (by rw [hburl]; exact hk)
  have hus := nowUs_ready hw
  have hms : w.nowMs = s.dev.nowMs := by
    unfold Dev.nowMs
    rw [hw.keeps.get_dict rfl]
  obtain ⟨hheart, hstored, hsval, hskeep⟩ := sealStored_leaves w hash check
  rw [hus, hw.keeps.get_heart rfl] at hheart
  rw [hms, hburl] at hstored
  generalize sealStored w hash check = v at hok hheart hstored hsval hskeep
  obtain ⟨htime, hhash, hcheck, hval, hkeep⟩ := sealShown_leaves v w.nowUs hash check
  have htime := htime.trans hus
  have hmem : (sealShown v w.nowUs hash check).rail .vddMem = true := by
    unfold Dev.rail
    rw [hkeep.get_power rfl, hskeep.get_power rfl]
    exact (rail_ready hw .vddMem).trans h.mem
  generalize sealShown v w.nowUs hash check = u at hok htime hhash hcheck hval hkeep hmem
  obtain ⟨e, -, hcode, -, hdata, -, hlog⟩ := Dev.legal_heart u 0x0601 0xFF (hash.take 24) hmem
  rw [hkeep.get_heart rfl, hheart] at hlog
  have hlval : ∀ k, (u.legal 0x0601 0xFF (hash.take 24)).val k = u.val k := fun k => Dev.legal_val ..
  have hlkeep := Dev.legal_keeps0 u 0x0601 0xFF (hash.take 24)
  have hlburl : (u.legal 0x0601 0xFF (hash.take 24)).burl = { s.dev.burl with
      cells := cells, sealHash := some hash, sealFuses := 1, fuseAt := s.dev.nowMs } := (hlkeep.get_burl rfl).trans ((hkeep.get_burl rfl).trans hstored)
  generalize u.legal 0x0601 0xFF (hash.take 24) = x at hok hlog hlval hlkeep hlburl
  have hall : ∀ j, j ∉ [Key.sealTime, Key.sealHash, Key.sealedParamCheck] → x.val j = w.val j := fun j hj => by rw [hlval, hval j hj, hsval]
  obtain ⟨hserve, hreceipt⟩ := legalServed hw hok (hall _ (by decide)) (hall _ (by decide))
  rw [hserve] at hex
  have hlast : ∀ j, j ≠ Key.lastLegalResult → (x.putNat Key.lastLegalResult 0).val j = u.val j := fun j hj =>
    (Dev.val_putNat_other x 0 (Ne.symm hj)).trans (hlval j)
  have hbytes : (x.putNat Key.lastLegalResult 0).bytes Key.sealHash = hash := by rw [bytes_of_val (hlast _ (by decide)), hhash]
  have hxh : (x.putNat Key.lastLegalResult 0).heart = _ := (Dev.putNat_heart ..).trans hlog
  have hxb : (x.putNat Key.lastLegalResult 0).burl = _ := (Dev.putNat_burl ..).trans hlburl
  have hkeeps : Keeps 8396932 s.dev (x.putNat Key.lastLegalResult 0) :=
    ((((hw.keeps.mono (by decide)).trans (hskeep.mono (by decide))).trans (hkeep.mono (by decide))).trans (hlkeep.mono (by decide))).trans
      ((Dev.putNat_keeps0 _ _ _).mono (by decide))
  have hlv : ∀ j, j ∉ [Key.sealTime, Key.sealHash, Key.sealedParamCheck] ++ legalOwn → (x.putNat Key.lastLegalResult 0).val j = s.dev.val j := fun j hj => by
    rw [List.mem_append, not_or] at hj
    rw [hlast j (fun he => hj.2 (by rw [he]; decide)), ← hlval, hall j hj.1, hw.vals j hj.2]
  have htime' : (x.putNat Key.lastLegalResult 0).nat Key.sealTime = s.dev.nowUs := (nat_of_val (hlast _ (by decide))).trans htime
  have hcheck' : (x.putNat Key.lastLegalResult 0).nat Key.sealedParamCheck = check := (nat_of_val (hlast _ (by decide))).trans hcheck
  generalize x.putNat Key.lastLegalResult 0 = y at hex hreceipt hbytes hxh hxb hkeeps hlv htime' hcheck'
  exact ⟨_, hex, hreceipt, by rw [hxb], by rw [hxb], by rw [hxh], htime', ⟨⟨s.dev.nowUs, w.obj, check, hash⟩, by rw [hxh], rfl, by rw [hxb, hbytes],
    hcheck'⟩, ⟨e, by rw [hxh], hcode, by rw [hbytes, hdata]⟩, hkeeps.only (by decide) hlv⟩

/-- The third fuse makes the unit SEALED (16 R450). -/
theorem fuseTick_sealed (d : Dev) (hf : d.burl.sealFuses = 2) (hu : d.burlUp = true) (ht : d.burl.fuseAt + 10 ≤ d.nowMs) :
    d.fuseTick.lifecycle = 3 ∧ d.fuseTick.burl.sealFuses = 3 ∧ ∀ k, k ≠ Key.lifecycleState → d.fuseTick.val k = d.val k := by
  have heq : d.fuseTick = (d.setBurl fun b => { b with sealFuses := 3, fuseAt := d.nowMs }).putNat Key.lifecycleState 3 := by
    unfold Dev.fuseTick
    rw [hf]
    dsimp only
    rw [if_neg (by simp [hu]; omega), if_pos rfl]
  rw [heq]
  exact ⟨Dev.nat_putNat .., by rw [Dev.putNat_burl]; rfl, fun k hk => Dev.val_putNat_other _ _ (Ne.symm hk)⟩

/-! ### RecordRepair (12 R314) -/

/-- The account that a record writes. -/
def repairedAccount (record : Bytes) : Account := recordOf (fieldsOf record) (toSigned 64 (leVal ((record.drop 8).take 8)))

/-- The entry of a repair. -/
def repairData (slot : Nat) (record : Bytes) (a : Account) : Bytes :=
  leBytes 4 slot ++ leBytes 8 (fieldsOf record).number ++ leBytes 4 a.check ++
    leBytes 8 (ofSigned 64 (toSigned 64 (leVal ((record.drop 8).take 8))))

theorem recordRepair_eq {w : Dev} {slot : Nat} {record : Bytes} {a : Account} (hn : record.length = 64) (hz : record.drop 60 = [0, 0, 0, 0])
    (ha : w.acct slot = some a) (hm : w.balancesMove = true) :
    w.recordRepair slot record = if a.sound then .error Code.range
      else .ok ((w.putAcct slot (repairedAccount record)).legal 0x0505 0xFF (repairData slot record a)) := by
  unfold Dev.recordRepair
  rw [if_neg (by simp [hn]), if_neg (by simp [hz]), ha]
  dsimp only
  by_cases hs : a.sound = true
  · rw [if_pos hs, if_pos hs]
  · rw [if_neg hs, if_neg hs, if_neg (by simp [hm])]
    rfl

/-- RECORD_REPAIR replaces a record whose check value fails (12 R314). -/
theorem recordRepair_leaves (s : State) (env : LegalEnv) (slot : Nat) (record : Bytes) (a : Account) (h : LegalPasses s env) (hl : s.dev.lifecycle ≤ 3)
    (hn : record.length = 64) (hz : record.drop 60 = [0, 0, 0, 0]) (ha : s.dev.acct slot = some a) (hm : s.dev.balancesMove = true)
    (hstatus : (fieldsOf record).status ≠ 0) (hs : a.sound = false) :
    Completes (.recordRepair env slot record) s fun t =>
      LegalDone env 4 t ∧ t.dev.acct slot = some (repairedAccount record) ∧ (∀ k, k ≠ slot → t.dev.acct k = s.dev.acct k) ∧
      (∃ e : LegalEntry, t.dev.heart = { s.dev.heart with log := e :: s.dev.heart.log.take 32767 } ∧ e.code = 0x0505) ∧
      Only [.heart, .mail, .ledger, .burl] legalOwn s t := by
  have hex : exec (.recordRepair env slot record) s =
      .next { s with dev := s.dev.legalCommand env 4 [0, 1, 2, 3] fun d => d.recordRepair slot record } := rfl
  obtain ⟨w, hw, heq⟩ := legalReady s env 4 [0, 1, 2, 3] (fun d => d.recordRepair slot record) h (by simp; omega)
  rw [heq] at hex
  have hacct : ∀ k, w.acct k = s.dev.acct k := acct_of_ledger (by rw [hw.keeps.get_ledger rfl])
  have hok := recordRepair_eq (w := w) hn hz ((hacct slot).trans ha) (by rw [balancesMove_ready hw, hm])
  rw [if_neg (by simp [hs])] at hok
  have hself := acct_putAcct_same w slot (a := repairedAccount record) hstatus
  have hother := fun k (hk : k ≠ slot) => acct_putAcct_other w (slot := slot) (k := k) (a := repairedAccount record) hstatus hk
  have hkeep := Dev.putAcct_keeps0 w slot (repairedAccount record)
  have hval : ∀ k, (w.putAcct slot (repairedAccount record)).val k = w.val k := fun k => val_of_obj (hkeep.get_obj rfl) k
  have hmem : (w.putAcct slot (repairedAccount record)).rail .vddMem = true := by
    unfold Dev.rail
    rw [hkeep.get_power rfl]
    exact (rail_ready hw .vddMem).trans h.mem
  generalize w.putAcct slot (repairedAccount record) = u at hok hself hother hkeep hval hmem
  obtain ⟨e, -, hcode, -, -, -, hlog⟩ := Dev.legal_heart u 0x0505 0xFF (repairData slot record a) hmem
  rw [hkeep.get_heart rfl, hw.keeps.get_heart rfl] at hlog
  have hlval : ∀ k, (u.legal 0x0505 0xFF (repairData slot record a)).val k = u.val k := fun k => Dev.legal_val ..
  have hlkeep := Dev.legal_keeps0 u 0x0505 0xFF (repairData slot record a)
  generalize u.legal 0x0505 0xFF (repairData slot record a) = x at hok hlog hlval hlkeep
  have hall : ∀ j, x.val j = w.val j := fun j => (hlval j).trans (hval j)
  obtain ⟨hserve, hreceipt⟩ := legalServed (serve := fun d => d.recordRepair slot record) hw hok (hall _) (hall _)
  rw [hserve] at hex
  have hledger : (x.putNat Key.lastLegalResult 0).ledger = u.ledger := (Dev.putNat_ledger ..).trans (hlkeep.get_ledger rfl)
  have hxacct : ∀ k, (x.putNat Key.lastLegalResult 0).acct k = u.acct k := acct_of_ledger (by rw [hledger])
  have hkeeps : Keeps 10494084 s.dev (x.putNat Key.lastLegalResult 0) :=
    (((hw.keeps.mono (by decide)).trans (hkeep.mono (by decide))).trans (hlkeep.mono (by decide))).trans ((Dev.putNat_keeps0 _ _ _).mono (by decide))
  refine ⟨_, hex, hreceipt, (hxacct slot).trans hself, fun k hk => ?_, ⟨e, ?_, hcode⟩, hkeeps.only (by decide) fun j hj => ?_⟩
  · exact (hxacct k).trans ((hother k hk).trans (hacct k))
  · exact (Dev.putNat_heart ..).trans hlog
  · exact (Dev.val_putNat_other _ _ (fun he => hj (by rw [← he]; decide))).trans ((hall j).trans (hw.vals j hj))

/-- RECORD_REPAIR leaves a record that is sound. -/
theorem recordRepair_sound (s : State) (env : LegalEnv) (slot : Nat) (record : Bytes) (a : Account) (h : LegalPasses s env) (hl : s.dev.lifecycle ≤ 3)
    (hn : record.length = 64) (hz : record.drop 60 = [0, 0, 0, 0]) (ha : s.dev.acct slot = some a) (hm : s.dev.balancesMove = true) (hs : a.sound = true) :
    Completes (.recordRepair env slot record) s fun t =>
      t.dev.nat Key.lastLegalResult = 0x03000003 ∧ t.dev.ledger = s.dev.ledger ∧ Only [.heart, .mail, .burl] (Key.legalRefusedCount :: legalOwn) s t := by
  have hex : exec (.recordRepair env slot record) s =
      .next { s with dev := s.dev.legalCommand env 4 [0, 1, 2, 3] fun d => d.recordRepair slot record } := rfl
  obtain ⟨w, hw, heq⟩ := legalReady s env 4 [0, 1, 2, 3] (fun d => d.recordRepair slot record) h (by simp; omega)
  have hacct : ∀ k, w.acct k = s.dev.acct k := acct_of_ledger (by rw [hw.keeps.get_ledger rfl])
  have herr := recordRepair_eq (w := w) hn hz ((hacct slot).trans ha) (by rw [balancesMove_ready hw, hm])
  rw [if_pos hs] at herr
  have hserve : legalServe w env 4 (fun d => d.recordRepair slot record) = legalRefuse w env 4 Code.range := by
    unfold legalServe
    beta_reduce
    rw [herr]
  rw [heq, hserve] at hex
  obtain ⟨hres, -, -, hval, hkeep⟩ := legalRefuse_leaves w env 4 Code.range ((rail_ready hw .vddMem).trans h.mem)
  have hkeeps : Keeps 8396932 s.dev (legalRefuse w env 4 Code.range) := (hw.keeps.mono (by decide)).trans (hkeep.mono (by decide))
  refine ⟨_, hex, hres, hkeeps.get_ledger rfl, hkeeps.only (by decide) fun j hj => ?_⟩
  rw [List.mem_cons, not_or] at hj
  refine (hval j ?_).trans (hw.vals j hj.2)
  simp only [List.mem_cons, List.not_mem_nil, or_false, not_or]
  exact ⟨fun he => hj.2 (by rw [he]; decide), hj.1⟩

/-- Settles O43: the effects of the external legal commands that pass their checks. -/
theorem legalCommandsTakeEffect : Obligations.LegalCommandsTakeEffect := by
  unfold Obligations.LegalCommandsTakeEffect
  intro passes taken own written
  have hpass : ∀ {s : State} {env : LegalEnv}, passes s env → LegalPasses s env := fun ⟨h1, h2, h3, h4, h5, h6, h7, h8⟩ => ⟨h1, h2, h3, h4, h5, h6, h7, h8⟩
  refine ⟨fun s env o data r p h hl hp hrow hv hc hrange hband hedge => ?_, fun s env o data r h hl hk hrow hv => ?_,
    fun s env h hl hc hv hg hf hk => sealCommand_leaves s env (hpass h) hl hc hv hg hf hk, fuseTick_sealed,
    fun s env slot record a h hl hn hz ha hm hstatus => ⟨fun hs => recordRepair_leaves s env slot record a (hpass h) hl hn hz ha hm hstatus hs,
      fun hs => recordRepair_sound s env slot record a (hpass h) hl hn hz ha hm hs⟩⟩
  · have hclear : clearFor s.dev p = true := by cases p <;> exact hc
    exact calibrationWrite_leaves s env o data r p (hpass h) hl hp hrow hv hclear hrange hband hedge
  · refine constantsWrite_leaves s env o data r (hpass h) hl ?_ (fun hi => ?_) hrow hv
    · unfold Constant
      exact hk.imp_right fun hk => hk.imp_right And.left
    · rcases hk with hk | hk | ⟨-, hk⟩
      · rw [hk] at hi
        exact absurd hi (by decide)
      · rw [hk] at hi
        exact absurd hi (by decide)
      · exact hk

end Sys2Proof.Machine
end

section
/-! PROOFS. Frames and drive steps of the panel, and the balance ledger (18 R481 to R492). -/

namespace Sys2Proof.Machine

/-! ### Steps -/

section
variable (d : Dev) (f : FrameRun)

/-- A frame with a layer and a row, or a preparation, left has a next step. -/
theorem nextStep_isSome (hl : f.layers ≠ []) (hr : f.rows ≠ []) : ∃ r, d.nextStep f = some r := by
  unfold Dev.nextStep
  cases hlay : f.layers with
  | nil => exact absurd hlay hl
  | cons x rest =>
    obtain ⟨k, rows⟩ := x
    dsimp only
    split
    · exact ⟨_, rfl⟩
    · cases hrow : f.rows with
      | nil => exact absurd hrow hr
      | cons r rest => exact ⟨_, rfl⟩

theorem queueStep_leaves {f : FrameRun} (hl : f.layers ≠ []) (hr : f.rows ≠ []) :
    ∃ r, (d.queueStep f).display = { d.display with frame := some { f with begun := false }, record := some r } ∧
      (d.queueStep f).out = d.out ++ [.drive r] ∧ (∀ k, (d.queueStep f).val k = d.val k) ∧ Keeps 67108866 d (d.queueStep f) := by
  obtain ⟨r, hs⟩ := nextStep_isSome d f hl hr
  have heq : d.queueStep f = (d.setDisplay fun x => { x with frame := some { f with begun := false }, record := some r }).say (.drive r) := by
    unfold Dev.queueStep
    rw [hs]
  rw [heq]
  exact ⟨r, rfl, rfl, fun _ => rfl, ((Dev.setDisplay_keeps0 _ _).mono (by decide)).trans ((Dev.say_keeps0 _ _).mono (by decide))⟩

end

/-! ### The start of a frame (18 R486 to R488) -/

/-- A frame is asked for in full. -/
def asksFull (d : Dev) : Bool := d.display.fullWanted || !d.display.set.partialUp

theorem rowsToUpdate_full (old new : Page) (k : Nat) : rowsToUpdate true old new k = List.range 64 := if_pos rfl

/-- The layers of a frame that is asked for hold a first one with rows. -/
theorem frameLayers_head {full : Bool} {old new : Page} (h : full = true ∨ frameLayers false old new ≠ []) :
    ∃ k rows rest, frameLayers full old new = (k, rows) :: rest ∧ rows ≠ [] := by
  have hne : frameLayers full old new ≠ [] := by
    cases full with
    | true =>
      unfold frameLayers
      rw [List.ne_nil_iff_exists_cons]
      simp [rowsToUpdate_full, List.range_succ_eq_map]
    | false => exact h.resolve_left (by simp)
  obtain ⟨⟨k, rows⟩, rest, he⟩ := List.exists_cons_of_ne_nil hne
  refine ⟨k, rows, rest, he, ?_⟩
  have hm : (k, rows) ∈ frameLayers full old new := by rw [he]; exact List.mem_cons_self
  simpa [frameLayers] using (List.mem_filter.1 hm).2

section
variable (d : Dev)

/-- The panel turned to the page, with the rows repeated counted. -/
def pageTaken (page : Page) (interrupt : Bool) (repeats : Nat) : Dev := (d.turnTo page interrupt).bump Key.rowRepeatCount repeats

/-- What the start of a frame shows. -/
def startShown (band now state : Nat) : Dev := ((d.putNat Key.displayBandInForce band).putNat Key.lastFrameStart now).putNat Key.displayState state

/-- The header of a frame that starts. -/
def startHeader (h : FrameHeader) (full : Bool) (layers : List (Nat × List Nat)) (band content : Nat) : FrameHeader :=
  ⟨h.seq + 1, h.number + 1, if full then 1 else 2, band, true, (layers.map fun x => 2 ^ x.1).sum, 0, 0xFF, content % 2 ^ 32⟩

/-- The display when a frame starts. -/
def frameTaken (full : Bool) (layers : List (Nat × List Nat)) (band content : Nat) (x : Display) : Display :=
  { x with fullWanted := false, deferred := false, railsTill := none, header := startHeader x.header full layers band content }

/-- The device when a frame's first step is queued. -/
def frameReady (full : Bool) (page : Page) (interrupt : Bool) (repeats : Nat) : Dev :=
  let w := pageTaken d page interrupt repeats
  let u := startShown w.draw.2 w.draw.2.display.band w.draw.2.nowUs (if w.display.railsTill.isSome then 2 else 1)
  u.setDisplay (frameTaken full (frameLayers full d.display.shown page) u.display.band w.draw.1)

/-- The first step's frame. -/
def frameOf (full : Bool) (page : Page) (layers : List (Nat × List Nat)) : FrameRun :=
  ⟨full, page, layers, (d.recordOf (layers.headD (0, [])).1).prep, (layers.headD (0, [])).2, false, d.nowUs⟩

theorem frameStart_eq (full : Bool) (repeats : Nat) (page : Page) (interrupt : Bool) (hw : d.wantedPage = (page, interrupt)) (hu : d.displayUp = true)
    (hd : d.driveUp = true) (hs : d.display.stopped = false) (hf : d.display.frame = none) (hv : d.display.wave.isSome = true)
    (ha : full = asksFull d) (hwant : d.display.fullWanted = true ∨ frameLayers false d.display.shown page ≠ []) (hb : d.bandAllows = true) :
    d.frameStart full true repeats =
      (frameReady d full page interrupt repeats).queueStep (frameOf (frameReady d full page interrupt repeats) full page (frameLayers full d.display.shown page)) := by
  unfold Dev.frameStart
  rw [hw]
  dsimp only
  rw [if_neg (by simp [hu, hd, hs, hf, Option.isSome_iff_ne_none.1 hv, ha, asksFull]), if_neg (by rcases hwant with h | h <;> simp [h]),
    if_neg (by simp), if_neg (by simp [hb])]
  rfl

end

/-- The panel turned to a page: what the display keeps. -/
structure Turned (a b : Display) : Prop where
  shown : b.shown = a.shown
  ledger : b.ledger = a.ledger
  header : b.header = a.header
  frame : b.frame = a.frame

theorem turnTo_leaves (d : Dev) (page : Page) (interrupt : Bool) :
    Turned d.display (d.turnTo page interrupt).display ∧ (d.turnTo page interrupt).nat Key.shownCommit = page.commit ∧
      (∀ k, k ≠ Key.shownEntry → k ≠ Key.shownCommit → (d.turnTo page interrupt).val k = d.val k) ∧ Keeps 67108868 d (d.turnTo page interrupt) := by
  refine ⟨?_, Dev.nat_putNat .., fun k h1 h2 => ?_, Dev.turnTo_keeps0 d page interrupt⟩
  · unfold Dev.turnTo
    dsimp only
    rw [Dev.putNat_display, Dev.putNat_display]
    cases interrupt <;> exact ⟨rfl, rfl, rfl, rfl⟩
  · unfold Dev.turnTo
    exact (Dev.val_putNat_other _ _ (Ne.symm h2)).trans ((Dev.val_putNat_other _ _ (Ne.symm h1)).trans rfl)

theorem startShown_leaves (d : Dev) (band now state : Nat) :
    (startShown d band now state).display = d.display ∧
      (∀ k, k ∉ [Key.displayBandInForce, Key.lastFrameStart, Key.displayState] → (startShown d band now state).val k = d.val k) ∧
      Keeps 4 d (startShown d band now state) := by
  refine ⟨?_, fun k hk => ?_, ((Dev.putNat_keeps0 _ _ _).trans (Dev.putNat_keeps0 _ _ _)).trans (Dev.putNat_keeps0 _ _ _)⟩
  · unfold startShown
    rw [Dev.putNat_display, Dev.putNat_display, Dev.putNat_display]
  · simp only [List.mem_cons, List.not_mem_nil, or_false, not_or] at hk
    obtain ⟨h1, h2, h3⟩ := hk
    unfold startShown
    rw [Dev.val_putNat_other _ _ (Ne.symm h3), Dev.val_putNat_other _ _ (Ne.symm h2), Dev.val_putNat_other _ _ (Ne.symm h1)]

theorem frameReady_leaves (d : Dev) (full : Bool) (page : Page) (interrupt : Bool) (repeats : Nat) :
    (frameReady d full page interrupt repeats).nat Key.rowRepeatCount = min (d.nat Key.rowRepeatCount + repeats) (Dev.top Key.rowRepeatCount) ∧
      (frameReady d full page interrupt repeats).display.header.number = d.display.header.number + 1 ∧
      (frameReady d full page interrupt repeats).display.header.running = true ∧
      (frameReady d full page interrupt repeats).display.fullWanted = false ∧
      (frameReady d full page interrupt repeats).display.shown = d.display.shown ∧
      (frameReady d full page interrupt repeats).display.ledger = d.display.ledger ∧
      (frameReady d full page interrupt repeats).out = d.out ∧ Keeps 67108869 d (frameReady d full page interrupt repeats) := by
  obtain ⟨⟨hshown, hledger, hheader, -⟩, -, hval, hkeep⟩ := turnTo_leaves d page interrupt
  have hcount : (pageTaken d page interrupt repeats).nat Key.rowRepeatCount = min (d.nat Key.rowRepeatCount + repeats) (Dev.top Key.rowRepeatCount) := by
    unfold pageTaken
    rw [Dev.nat_bump, nat_of_val (hval _ (by decide) (by decide))]
  have hbump : Keeps 4 (d.turnTo page interrupt) (pageTaken d page interrupt repeats) := Dev.bump_keeps0 _ _ _
  have hdisp : (pageTaken d page interrupt repeats).display = (d.turnTo page interrupt).display := Dev.bump_display ..
  have hpk : Keeps 67108868 d (pageTaken d page interrupt repeats) := hkeep.trans (hbump.mono (by decide))
  unfold frameReady
  dsimp only
  generalize pageTaken d page interrupt repeats = w at hcount hdisp hpk
  have hdraw : Keeps 1 w w.draw.2 := Dev.draw_keeps w (by decide) (.refl _ _)
  have hdd : w.draw.2.display = w.display := rfl
  have hdv : ∀ k, w.draw.2.val k = w.val k := fun _ => rfl
  generalize w.draw.2 = v at hdraw hdd hdv
  obtain ⟨hsd, hsv, hsk⟩ := startShown_leaves v v.display.band v.nowUs (if w.display.railsTill.isSome then 2 else 1)
  generalize startShown v v.display.band v.nowUs (if w.display.railsTill.isSome then 2 else 1) = u at hsd hsv hsk
  have hud : u.display = (d.turnTo page interrupt).display := hsd.trans (hdd.trans hdisp)
  have huk : Keeps 67108869 d u := ((hpk.mono (by decide)).trans (hdraw.mono (by decide))).trans (hsk.mono (by decide))
  refine ⟨?_, ?_, rfl, rfl, ?_, ?_, huk.get_out rfl, huk.trans ((Dev.setDisplay_keeps0 _ _).mono (by decide))⟩
  · exact (nat_of_val ((Dev.setDisplay_val ..).trans ((hsv _ (by decide)).trans (hdv _)))).trans hcount
  · show u.display.header.number + 1 = _
    rw [hud, hheader]
  · show u.display.shown = _
    rw [hud, hshown]
  · show u.display.ledger = _
    rw [hud, hledger]

/-- FRAME_START with an image, in a band that allows it (18 R486 to R488). -/
theorem frameStart_drawn (s : State) (full : Bool) (repeats : Nat) (hu : s.dev.displayUp = true) (hd : s.dev.driveUp = true)
    (hs : s.dev.display.stopped = false) (hf : s.dev.display.frame = none) (hv : s.dev.display.wave.isSome = true) (ha : full = asksFull s.dev)
    (hwant : s.dev.display.fullWanted = true ∨ frameLayers false s.dev.display.shown s.dev.wantedPage.1 ≠ []) (hb : s.dev.bandAllows = true) :
    Completes (.frameStart ⟨full, true, repeats⟩) s fun t =>
      t.dev.nat Key.rowRepeatCount = min (s.dev.nat Key.rowRepeatCount + repeats) (Dev.top Key.rowRepeatCount) ∧
      (∃ f : FrameRun, t.dev.display.frame = some f ∧ f.full = full ∧ f.page = s.dev.wantedPage.1 ∧
        f.layers = frameLayers full s.dev.display.shown s.dev.wantedPage.1 ∧ f.begun = false) ∧
      t.dev.display.header.number = s.dev.display.header.number + 1 ∧ t.dev.display.header.running = true ∧ t.dev.display.fullWanted = false ∧
      t.dev.display.shown = s.dev.display.shown ∧ t.dev.display.ledger = s.dev.display.ledger ∧
      (∃ r : StepRec, t.dev.display.record = some r ∧ t.dev.out = s.dev.out ++ [.drive r]) ∧ Within [.free, .out, .obj, .display] s t := by
  have hex : exec (.frameStart ⟨full, true, repeats⟩) s = .next { s with dev := s.dev.frameStart full true repeats } := rfl
  rw [frameStart_eq s.dev full repeats s.dev.wantedPage.1 s.dev.wantedPage.2 rfl hu hd hs hf hv ha hwant hb] at hex
  have hask : full = true ∨ frameLayers false s.dev.display.shown s.dev.wantedPage.1 ≠ [] := hwant.imp_left fun h => by rw [ha]; simp [asksFull, h]
  obtain ⟨k, rows, rest, hlayers, hrows⟩ := frameLayers_head (full := full) hask
  generalize s.dev.wantedPage.1 = page at *
  generalize s.dev.wantedPage.2 = interrupt at *
  obtain ⟨hcount, hnumber, hrunning, hwanted, hshown, hledger, hout, hkeep⟩ := frameReady_leaves s.dev full page interrupt repeats
  generalize frameReady s.dev full page interrupt repeats = w at *
  have hfl : (frameOf w full page (frameLayers full s.dev.display.shown page)).layers ≠ [] := by
    show frameLayers full s.dev.display.shown page ≠ []
    rw [hlayers]
    exact List.cons_ne_nil _ _
  have hfr : (frameOf w full page (frameLayers full s.dev.display.shown page)).rows ≠ [] := by
    show ((frameLayers full s.dev.display.shown page).headD (0, [])).2 ≠ []
    rw [hlayers]
    exact hrows
  obtain ⟨r, hdisp, hsaid, hval, hk⟩ := queueStep_leaves w hfl hfr
  have hframe : ∃ f : FrameRun, some { frameOf w full page (frameLayers full s.dev.display.shown page) with begun := false } = some f ∧ f.full = full ∧
      f.page = page ∧ f.layers = frameLayers full s.dev.display.shown page ∧ f.begun = false := ⟨_, rfl, rfl, rfl, rfl, rfl⟩
  generalize some { frameOf w full page (frameLayers full s.dev.display.shown page) with begun := false } = run at hdisp hframe
  generalize w.queueStep (frameOf w full page (frameLayers full s.dev.display.shown page)) = u at *
  refine ⟨_, hex, (nat_of_val (hval _)).trans hcount, ?_, ?_, ?_, ?_, ?_, ?_, ⟨r, ?_, ?_⟩,
    ((hkeep.mono (by decide)).trans (hk.mono (by decide)) : Keeps 67108871 _ _).within rfl⟩
  · show ∃ f : FrameRun, u.display.frame = some f ∧ _
    rw [hdisp]
    exact hframe
  · show u.display.header.number = _
    rw [hdisp]
    exact hnumber
  · show u.display.header.running = _
    rw [hdisp]
    exact hrunning
  · show u.display.fullWanted = _
    rw [hdisp]
    exact hwanted
  · show u.display.shown = _
    rw [hdisp]
    exact hshown
  · show u.display.ledger = _
    rw [hdisp]
    exact hledger
  · show u.display.record = _
    rw [hdisp]
  · exact hsaid.trans (by rw [hout])

section
variable (s : State) (full ok : Bool) (repeats : Nat)

/-- Nothing of R486 asks for a frame as it comes. -/
theorem frameStart_idle (h : s.dev.display.stopped = true ∨ s.dev.display.frame.isSome = true ∨ s.dev.display.wave = none ∨ full ≠ asksFull s.dev) :
    Completes (.frameStart ⟨full, ok, repeats⟩) s fun t => t = s := by
  have hex : exec (.frameStart ⟨full, ok, repeats⟩) s = .next { s with dev := s.dev.frameStart full ok repeats } := rfl
  have hsame : s.dev.frameStart full ok repeats = s.dev := by
    unfold Dev.frameStart
    refine if_pos ?_
    unfold asksFull at h
    rcases h with h | h | h | h
    · exact .inr (.inr (.inl h))
    · exact .inr (.inr (.inr (.inl h)))
    · exact .inr (.inr (.inr (.inr (.inl (by simp [h])))))
    · exact .inr (.inr (.inr (.inr (.inr h))))
  rw [hsame] at hex
  exact ⟨s, hex, rfl⟩

variable (hu : s.dev.displayUp = true) (hd : s.dev.driveUp = true) (hs : s.dev.display.stopped = false) (hf : s.dev.display.frame = none)
  (hv : s.dev.display.wave.isSome = true) (ha : full = asksFull s.dev)
include hu hd hs hf hv ha

/-- A page that alters no pixel is turned to without a frame. -/
theorem frameStart_turns (hw : s.dev.display.fullWanted = false) (hl : frameLayers false s.dev.display.shown s.dev.wantedPage.1 = []) :
    Completes (.frameStart ⟨full, ok, repeats⟩) s fun t =>
      t.dev.display.shown = s.dev.wantedPage.1 ∧ t.dev.display.frame = none ∧ t.dev.nat Key.shownCommit = s.dev.wantedPage.1.commit ∧
      Only [.display] [Key.shownEntry, Key.shownCommit] s t := by
  have hex : exec (.frameStart ⟨full, ok, repeats⟩) s = .next { s with dev := s.dev.frameStart full ok repeats } := rfl
  have heq : s.dev.frameStart full ok repeats =
      (s.dev.setDisplay fun x => { x with shown := s.dev.wantedPage.1 }).turnTo s.dev.wantedPage.1 s.dev.wantedPage.2 := by
    unfold Dev.frameStart
    dsimp only
    rw [if_neg (by simp [hu, hd, hs, hf, Option.isSome_iff_ne_none.1 hv, ha, asksFull]), if_pos ⟨by simp [hw], hl⟩]
  rw [heq] at hex
  generalize s.dev.wantedPage.1 = page at hex ⊢
  generalize s.dev.wantedPage.2 = interrupt at hex
  have hwk := Dev.setDisplay_keeps0 s.dev fun x => { x with shown := page }
  have hws : (s.dev.setDisplay fun x => { x with shown := page }).display.shown = page := rfl
  have hwf : (s.dev.setDisplay fun x => { x with shown := page }).display.frame = none := hf
  have hwv : ∀ k, (s.dev.setDisplay fun x => { x with shown := page }).val k = s.dev.val k := fun _ => rfl
  generalize (s.dev.setDisplay fun x => { x with shown := page }) = w at hex hwk hws hwf hwv
  obtain ⟨⟨hshown, -, -, hframe⟩, hcommit, hval, hk⟩ := turnTo_leaves w page interrupt
  refine ⟨_, hex, hshown.trans hws, hframe.trans hwf, hcommit, ((hwk.mono (by decide)).trans hk).only (by decide) fun k hk => ?_⟩
  simp only [List.mem_cons, List.not_mem_nil, or_false, not_or] at hk
  exact (hval k hk.1 hk.2).trans (hwv k)

variable (hwant : s.dev.display.fullWanted = true ∨ frameLayers false s.dev.display.shown s.dev.wantedPage.1 ≠ [])
include hwant

/-- A next image whose check fails is discarded: the engine renders it again. -/
theorem frameStart_discarded :
    Completes (.frameStart ⟨full, false, repeats⟩) s fun t =>
      t.dev.nat (Key.mismatchCount 15) = min (s.dev.nat (Key.mismatchCount 15) + 1) (Dev.top (Key.mismatchCount 15)) ∧
      t.dev.display = (if s.dev.display.interrupted = true then s.dev.display else { s.dev.display with cur := s.dev.pageOf s.dev.curEntry }) ∧
      Only [.display] [Key.mismatchCount 15] s t := by
  have hex : exec (.frameStart ⟨full, false, repeats⟩) s = .next { s with dev := s.dev.frameStart full false repeats } := rfl
  obtain ⟨w, hw⟩ : ∃ w, w = if s.dev.display.interrupted then s.dev else s.dev.setDisplay fun x => { x with cur := s.dev.pageOf s.dev.curEntry } := ⟨_, rfl⟩
  have heq : s.dev.frameStart full false repeats = w.bump (Key.mismatchCount 15) := by
    rw [hw]
    unfold Dev.frameStart
    dsimp only
    rw [if_neg (by simp [hu, hd, hs, hf, Option.isSome_iff_ne_none.1 hv, ha, asksFull]), if_neg (by rcases hwant with h | h <;> simp [h]), if_pos (by simp)]
  rw [heq] at hex
  have hwv : ∀ k, w.val k = s.dev.val k := fun k => by
    rw [hw]
    split <;> rfl
  have hwd : w.display = if s.dev.display.interrupted = true then s.dev.display else { s.dev.display with cur := s.dev.pageOf s.dev.curEntry } := by
    rw [hw]
    split <;> rfl
  have hwk : Keeps 67108864 s.dev w := by
    rw [hw]
    exact .ite (.refl _ _) (Dev.setDisplay_keeps0 _ _)
  refine ⟨_, hex, ?_, (Dev.bump_display ..).trans hwd, ((hwk.mono (by decide)).trans ((Dev.bump_keeps0 _ _ _).mono (by decide)) :
    Keeps 67108868 _ _).only (by decide) fun k hk => ?_⟩
  · exact (Dev.nat_bump ..).trans (by rw [nat_of_val (hwv _)])
  · exact (Dev.val_bump_other _ _ (Ne.symm (by simpa using hk))).trans (hwv k)

/-- A band that allows no frame defers it (18 R488). -/
theorem frameStart_deferred (hb : s.dev.bandAllows = false) (hn : s.dev.display.deferred = false) :
    Completes (.frameStart ⟨full, true, repeats⟩) s fun t =>
      t.dev.display = { s.dev.display with deferred := true } ∧ t.dev.nat Key.displayState = 5 ∧
      Only [.display] [Key.deferredFrameCount, Key.displayState] s t := by
  have hex : exec (.frameStart ⟨full, true, repeats⟩) s = .next { s with dev := s.dev.frameStart full true repeats } := rfl
  have heq : s.dev.frameStart full true repeats =
      ((s.dev.setDisplay fun x => { x with deferred := true }).bump Key.deferredFrameCount).putNat Key.displayState 5 := by
    unfold Dev.frameStart
    dsimp only
    rw [if_neg (by simp [hu, hd, hs, hf, Option.isSome_iff_ne_none.1 hv, ha, asksFull]), if_neg (by rcases hwant with h | h <;> simp [h]),
      if_neg (by simp), if_pos (by simp [hb]), if_neg (by simp [hn])]
  rw [heq] at hex
  have hkeep : Keeps 67108868 s.dev (((s.dev.setDisplay fun x => { x with deferred := true }).bump Key.deferredFrameCount).putNat Key.displayState 5) :=
    (((Dev.setDisplay_keeps0 _ _).mono (by decide)).trans ((Dev.bump_keeps0 _ _ _).mono (by decide))).trans ((Dev.putNat_keeps0 _ _ _).mono (by decide))
  refine ⟨_, hex, (Dev.putNat_display ..).trans (Dev.bump_display ..), Dev.nat_putNat .., hkeep.only (by decide) fun k hk => ?_⟩
  simp only [List.mem_cons, List.not_mem_nil, or_false, not_or] at hk
  exact (Dev.val_putNat_other _ _ (Ne.symm hk.2)).trans ((Dev.val_bump_other _ _ (Ne.symm hk.1)).trans rfl)

end

/-! ### The halves of a step (18 R490, R492) -/

/-- HALF_START_REPORT sets U of every common addressed. -/
theorem halfStart_leaves (s : State) (f : FrameRun) (r : StepRec) (hu : s.dev.displayUp = true) (hd : s.dev.driveUp = true)
    (hf : s.dev.display.frame = some f) (hr : s.dev.display.record = some r) (hb : f.begun = false) :
    Completes .halfStartReport s fun t =>
      t.dev.display.frame = some { f with begun := true } ∧
      (∀ i : Fin 192, t.dev.display.ledger[i] = if i.val ∈ Dev.commonsOf f r then ((s.dev.display.ledger[i]).1, true) else s.dev.display.ledger[i]) ∧
      t.dev.nat Key.displayState = 2 ∧ Only [.display] [Key.displayState] s t := by
  have hex : exec .halfStartReport s = .next { s with dev := s.dev.halfStart } := rfl
  have heq : s.dev.halfStart = ((s.dev.mark (Dev.commonsOf f r) fun x => (x.1, true)).setDisplay fun x =>
      { x with frame := some { f with begun := true } }).putNat Key.displayState 2 := by
    unfold Dev.halfStart
    rw [hf, hr]
    exact if_neg (by simp [hb, hu, hd])
  rw [heq] at hex
  obtain ⟨v, hv, hvi⟩ := mark_display s.dev (Dev.commonsOf f r) fun x => (x.1, true)
  have hk : Keeps 67108864 s.dev (s.dev.mark (Dev.commonsOf f r) fun x => (x.1, true)) := Dev.setDisplay_keeps0 _ _
  have hval : ∀ k, (s.dev.mark (Dev.commonsOf f r) fun x => (x.1, true)).val k = s.dev.val k := fun k => Dev.setDisplay_val ..
  generalize (s.dev.mark (Dev.commonsOf f r) fun x => (x.1, true)) = w at hv hk hval hex
  have hdisp : ((w.setDisplay fun x => { x with frame := some { f with begun := true } }).putNat Key.displayState 2).display =
      { s.dev.display with ledger := v, frame := some { f with begun := true } } := by
    rw [Dev.putNat_display]
    show ({ w.display with frame := some { f with begun := true } } : Display) = _
    rw [hv]
  have hkeep : Keeps 67108868 s.dev ((w.setDisplay fun x => { x with frame := some { f with begun := true } }).putNat Key.displayState 2) :=
    ((hk.mono (by decide)).trans ((Dev.setDisplay_keeps0 _ _).mono (by decide))).trans ((Dev.putNat_keeps0 _ _ _).mono (by decide))
  refine ⟨_, hex, ?_, fun i => ?_, Dev.nat_putNat .., hkeep.only (by decide) fun k hk => ?_⟩
  · show Display.frame (Dev.display _) = _
    rw [hdisp]
  · show (Dev.display _).ledger[i] = _
    simp only [hdisp]
    exact hvi i
  · exact (Dev.val_putNat_other _ _ (Ne.symm (by simpa using hk))).trans (hval k)

/-- RAIL_HOLD_EXPIRY (18 R482). -/
theorem railHold_leaves (s : State) (n : Nat) (hn : s.dev.display.railsTill = some n) (hp : s.dev.powered = true) (hf : s.dev.display.frame = none)
    (hi : s.dev.clocks.i8Lost = false) :
    Completes .railHoldExpiry s fun t =>
      if n ≤ s.dev.nowMs ∨ s.dev.clocks.ref16Lost = true then t.dev.display = { s.dev.display with railsTill := none } ∧ t.dev.nat Key.displayState = 0 ∧
        Only [.display] [Key.displayState] s t
      else t = s := by
  have hex : exec .railHoldExpiry s = .next { s with dev := s.dev.railHoldExpiry } := rfl
  unfold Dev.railHoldExpiry at hex
  rw [hn] at hex
  dsimp only at hex
  by_cases h : n ≤ s.dev.nowMs ∨ s.dev.clocks.ref16Lost = true
  · rw [if_pos ⟨hp, by simp [hf], by simp [hi], h⟩] at hex
    refine ⟨_, hex, ?_⟩
    beta_reduce
    rw [if_pos h]
    have hkeep : Keeps 67108868 s.dev ((s.dev.setDisplay fun x => { x with railsTill := none }).putNat Key.displayState 0) :=
      ((Dev.setDisplay_keeps0 _ _).mono (by decide)).trans ((Dev.putNat_keeps0 _ _ _).mono (by decide))
    exact ⟨Dev.putNat_display .., Dev.nat_putNat .., hkeep.only (by decide) fun k hk => Dev.val_putNat_other _ _ (Ne.symm (by simpa using hk))⟩
  · rw [if_neg fun hc => h hc.2.2.2] at hex
    refine ⟨s, hex, ?_⟩
    beta_reduce
    rw [if_neg h]

/-- A queued step leaves the ledger. -/
theorem queueStep_ledger (d : Dev) (f : FrameRun) : (d.queueStep f).display.ledger = d.display.ledger := by
  unfold Dev.queueStep
  split <;> rfl

theorem frameEnd_leaves (d : Dev) (f : FrameRun) :
    (d.frameEnd f).display.frame = none ∧ (d.frameEnd f).display.shown = f.page ∧ (d.frameEnd f).display.header.running = false ∧
      (d.frameEnd f).display.ledger = d.display.ledger ∧ (d.frameEnd f).nat Key.displayState = (if d.display.set.railHold = 0 then 0 else 2) := by
  unfold Dev.frameEnd
  dsimp only
  have hval : ∀ (v : Dev) (g : Display → Display) (k : Nat), (v.setDisplay g).nat k = v.nat k := fun v g k => nat_of_val (Dev.setDisplay_val v g k)
  split
  · refine ⟨?_, ?_, ?_, ?_, (hval _ _ _).trans (Dev.nat_putNat ..)⟩ <;>
      simp only [Dev.setDisplay, Dev.putNat_display, Dev.bump_display]
  · refine ⟨?_, ?_, ?_, ?_, Dev.nat_putNat ..⟩ <;>
      simp only [Dev.setDisplay, Dev.putNat_display, Dev.bump_display]

/-- The journal of a step that ends. -/
def stepNoted (d : Dev) (r : StepRec) : Dev :=
  if r.row = 0xFF then d
  else d.setDisplay fun x => { x with header := { x.header with seq := x.header.seq + 1, layer := r.layer, row := r.row } }

theorem stepEnded_dev (d : Dev) (f : FrameRun) (r : StepRec) :
    (d.stepEnded f r).2 = stepNoted (d.mark (Dev.commonsOf f r) fun x => (!x.1, false)) r := by
  unfold Dev.stepEnded stepNoted
  dsimp only
  split
  · rfl
  · split <;> rfl

theorem stepEnded_leaves (d : Dev) (f : FrameRun) (r : StepRec) :
    (∀ i : Fin 192, (d.stepEnded f r).2.display.ledger[i] =
      if i.val ∈ Dev.commonsOf f r then (!(d.display.ledger[i]).1, false) else d.display.ledger[i]) ∧
      (d.stepEnded f r).2.display.set = d.display.set ∧ Keeps 67108864 d (d.stepEnded f r).2 := by
  obtain ⟨v, hv, hvi⟩ := mark_display d (Dev.commonsOf f r) fun x => (!x.1, false)
  have hk : Keeps 67108864 d (d.mark (Dev.commonsOf f r) fun x => (!x.1, false)) := Dev.setDisplay_keeps0 _ _
  rw [stepEnded_dev]
  generalize (d.mark (Dev.commonsOf f r) fun x => (!x.1, false)) = w at hv hk
  have hkeep : Keeps 67108864 d (stepNoted w r) := hk.trans (.ite (.refl _ _) (Dev.setDisplay_keeps0 _ _))
  have hledger : (stepNoted w r).display.ledger = v := by
    unfold stepNoted
    split
    · rw [hv]
    · show w.display.ledger = _
      rw [hv]
  refine ⟨fun i => ?_, ?_, hkeep⟩
  · simp only [hledger]
    exact hvi i
  · unfold stepNoted
    split
    · rw [hv]
    · show w.display.set = _
      rw [hv]

/-- STEP_END_REPORT: the step's commons are balanced, and the frame goes on or ends (18 R490, R492). -/
theorem stepEnd_leaves (s : State) (f : FrameRun) (r : StepRec) (hu : s.dev.displayUp = true) (hd : s.dev.driveUp = true)
    (hf : s.dev.display.frame = some f) (hr : s.dev.display.record = some r) (hb : f.begun = true) :
    Completes .stepEndReport s fun t =>
      (∀ i : Fin 192, t.dev.display.ledger[i] =
        if i.val ∈ Dev.commonsOf f r then (!(s.dev.display.ledger[i]).1, false) else s.dev.display.ledger[i]) ∧
      ((∃ k, f.layers = [k]) → r.row ≠ 0xFF → f.rows = [r.row] →
        t.dev.display.frame = none ∧ t.dev.display.shown = f.page ∧ t.dev.display.header.running = false ∧ t.dev.out = s.dev.out ∧
        t.dev.nat Key.displayState = (if s.dev.display.set.railHold = 0 then 0 else 2)) ∧
      (r.row = 0xFF → f.layers ≠ [] → f.rows ≠ [] → t.dev.display.frame = some { f with prep := f.prep - 1, begun := false }) ∧
      (∀ a b rest, r.row ≠ 0xFF → f.layers ≠ [] → f.rows = a :: b :: rest →
        t.dev.display.frame = some { f with rows := b :: rest, begun := false }) ∧
      (∀ l k rows rest, r.row ≠ 0xFF → f.rows = [r.row] → f.layers = l :: (k, rows) :: rest → rows ≠ [] →
        ∃ x, t.dev.display.frame = some x ∧ x.layers = (k, rows) :: rest ∧ x.rows = rows ∧ x.begun = false) ∧
      Within [.out, .obj, .display] s t := by
  have hex : exec .stepEndReport s = .next { s with dev := s.dev.stepEnd } := rfl
  have heq : s.dev.stepEnd = if (s.dev.stepEnded f r).1.layers = [] then (s.dev.stepEnded f r).2.frameEnd (s.dev.stepEnded f r).1
      else (s.dev.stepEnded f r).2.queueStep (s.dev.stepEnded f r).1 := by
    unfold Dev.stepEnd
    rw [hf, hr]
    exact if_neg (by simp [hb, hu, hd])
  obtain ⟨hledger, hset, hkeep⟩ := stepEnded_leaves s.dev f r
  have hgoes : (s.dev.stepEnded f r).1.layers ≠ [] → (s.dev.stepEnded f r).1.rows ≠ [] →
      s.dev.stepEnd.display.frame = some { (s.dev.stepEnded f r).1 with begun := false } := fun hl hrow => by
    rw [heq, if_neg hl]
    obtain ⟨x, hx, -⟩ := queueStep_leaves (s.dev.stepEnded f r).2 hl hrow
    rw [hx]
  refine ⟨_, hex, fun i => ?_, fun ⟨k, hk⟩ hrow hrows => ?_, fun hrow hl hrows => ?_, fun a b rest hrow hl hrows => ?_,
    fun l k rows rest hrow hrows hl hne => ?_, ?_⟩
  · have hsame : s.dev.stepEnd.display.ledger = (s.dev.stepEnded f r).2.display.ledger := by
      rw [heq]
      split
      · exact (frameEnd_leaves ..).2.2.2.1
      · exact queueStep_ledger ..
    show s.dev.stepEnd.display.ledger[i] = _
    simp only [hsame]
    exact hledger i
  · have hrun : (s.dev.stepEnded f r).1 = { f with layers := [], rows := [], begun := false } := by
      unfold Dev.stepEnded
      dsimp only
      rw [if_neg hrow, hrows, hk]
    have hend : s.dev.stepEnd = (s.dev.stepEnded f r).2.frameEnd (s.dev.stepEnded f r).1 := by
      rw [heq, if_pos (by rw [hrun])]
    obtain ⟨h1, h2, h3, -, h5⟩ := frameEnd_leaves (s.dev.stepEnded f r).2 (s.dev.stepEnded f r).1
    have hout : ((s.dev.stepEnded f r).2.frameEnd (s.dev.stepEnded f r).1).out = s.dev.out :=
      ((Dev.frameEnd_keeps0 _ _).get_out rfl).trans (hkeep.get_out rfl)
    rw [hset] at h5
    have hpage : (s.dev.stepEnded f r).1.page = f.page := by rw [hrun]
    rw [hpage] at h2
    rw [← hend] at h1 h2 h3 h5 hout
    exact ⟨h1, h2, h3, hout, h5⟩
  · have hrun : (s.dev.stepEnded f r).1 = { f with prep := f.prep - 1, begun := false } := by
      unfold Dev.stepEnded
      dsimp only
      rw [if_pos hrow]
    refine (hgoes (by rw [hrun]; exact hl) (by rw [hrun]; exact hrows)).trans ?_
    rw [hrun]
  · have hrun : (s.dev.stepEnded f r).1 = { f with rows := b :: rest, begun := false } := by
      unfold Dev.stepEnded
      dsimp only
      rw [if_neg hrow, hrows]
      rfl
    refine (hgoes (by rw [hrun]; exact hl) (by rw [hrun]; exact List.cons_ne_nil _ _)).trans ?_
    rw [hrun]
  · have hrun : ∃ n, (s.dev.stepEnded f r).1 = { f with layers := (k, rows) :: rest, prep := n, rows := rows, begun := false } := by
      unfold Dev.stepEnded
      dsimp only
      rw [if_neg hrow, hrows, hl]
      exact ⟨_, rfl⟩
    obtain ⟨n, hn⟩ := hrun
    refine ⟨_, hgoes (by rw [hn]; exact List.cons_ne_nil _ _) (by rw [hn]; exact hne), ?_⟩
    rw [hn]
    exact ⟨rfl, rfl, rfl⟩
  · have hk : Keeps 67108870 s.dev s.dev.stepEnd := by
      rw [heq]
      exact .ite ((hkeep.mono (by decide)).trans ((Dev.frameEnd_keeps0 _ _).mono (by decide)))
        ((hkeep.mono (by decide)).trans ((Dev.queueStep_keeps0 _ _).mono (by decide)))
    exact hk.within rfl

/-- Settles O59: frames drive the panel, and the balance ledger follows each step. -/
theorem framesDriveThePanel : Obligations.FramesDriveThePanel := by
  unfold Obligations.FramesDriveThePanel
  intro ready asks
  refine ⟨fun s full repeats ⟨hu, hd⟩ hs hf hv ha hwant => ⟨frameStart_drawn s full repeats hu hd hs hf hv ha hwant,
      frameStart_deferred s full repeats hu hd hs hf hv ha hwant, frameStart_discarded s full repeats hu hd hs hf hv ha hwant⟩,
    fun s ok repeats ⟨hu, hd⟩ hs hf hv ha hl => frameStart_turns s false ok repeats hu hd hs hf hv ha.symm ?_ hl, frameStart_idle,
    fun s f r ⟨hu, hd⟩ => halfStart_leaves s f r hu hd, fun s f r ⟨hu, hd⟩ => stepEnd_leaves s f r hu hd, railHold_leaves⟩
  simp only [asks, Bool.or_eq_false_iff] at ha
  exact ha.1

end Sys2Proof.Machine
end

section
/-! PROOFS. Tokens and host credits at their accounts (11 R298 to R302). -/

namespace Sys2Proof.Machine

/-! ### Balance requests of a token (11 R300) -/

section
variable (d : Dev) (slot : Nat)

theorem fit64_keeps (x : Int) : Keeps 1 d (d.fit64 x).2 := by
  unfold Dev.fit64
  split
  · exact .refl _ _
  · exact Dev.draw_keeps d (by decide) (.refl _ _)

theorem fit64_val (x : Int) (k : Nat) : (d.fit64 x).2.val k = d.val k := by
  unfold Dev.fit64
  split <;> rfl

theorem putAcct_val (a : Account) (k : Nat) : (d.putAcct slot a).val k = d.val k := val_of_obj ((Dev.putAcct_keeps0 d slot a).get_obj rfl) k

/-- A balance request that is served changes the ledger. -/
theorem balanceRequest_leaves {amount : Int} {tid : Option Nat} {e : Dev} (h : d.balanceRequest slot amount tid = some e) :
    (∀ k, e.val k = d.val k) ∧ Keeps 2097153 d e := by
  unfold Dev.balanceRequest at h
  cases ha : d.acct slot with
  | none => rw [ha] at h; exact absurd h (by simp)
  | some a =>
    rw [ha] at h
    dsimp only at h
    split at h
    · exact absurd h (by simp)
    · have hk := (fit64_keeps d (a.balance + amount)).mono (L := 2097153) (by decide)
      have hv := fit64_val d (a.balance + amount)
      generalize d.fit64 (a.balance + amount) = x at h hk hv
      have hp : Keeps 2097153 d (x.2.putAcct slot { a with balance := x.1 }.seal) := hk.trans ((Dev.putAcct_keeps0 _ _ _).mono (by decide))
      cases tid with
      | none =>
        rw [← Option.some.inj h]
        exact ⟨fun k => (putAcct_val ..).trans (hv k), hp⟩
      | some t =>
        rw [← Option.some.inj h]
        have ht := Dev.acceptTid_keeps0 (x.2.putAcct slot { a with balance := x.1 }.seal) slot a.number t
        exact ⟨fun k => (val_of_obj (ht.get_obj rfl) k).trans ((putAcct_val ..).trans (hv k)), hp.trans (ht.mono (by decide))⟩

theorem ledgerCorrupt_val {k : Nat} (h : k ≠ Key.ledgerCorruptCount) : (d.ledgerCorrupt slot).val k = d.val k := by
  unfold Dev.ledgerCorrupt
  exact (Dev.val_bump_other _ _ (Ne.symm h)).trans (Dev.legal_val ..)

variable (a : Account) (tid : Nat) (amount : Int) (ok : Nat) (change : Account → Account)

/-- A request of a token touches the record, the token state, and where the record is corrupt the logbook and its count. -/
theorem tokenRequest_leaves :
    (∀ k, k ≠ Key.ledgerCorruptCount → (d.tokenRequest slot a tid amount ok change).2.2.val k = d.val k) ∧
      Keeps 2105349 d (d.tokenRequest slot a tid amount ok change).2.2 := by
  unfold Dev.tokenRequest
  split
  · exact ⟨fun k hk => ledgerCorrupt_val d slot hk, (Dev.ledgerCorrupt_keeps0 d slot).mono (by decide)⟩
  · cases hb : d.balanceRequest slot amount (some tid) with
    | none => exact ⟨fun _ _ => rfl, Dev.draw_keeps d (by decide) (.refl _ _)⟩
    | some e =>
      obtain ⟨hv, hk⟩ := balanceRequest_leaves d slot hb
      dsimp only
      cases e.acct slot with
      | none => exact ⟨fun k _ => hv k, hk.mono (by decide)⟩
      | some b => exact ⟨fun k _ => (putAcct_val ..).trans (hv k), (hk.mono (by decide)).trans ((Dev.putAcct_keeps0 _ _ _).mono (by decide))⟩

/-- The result of a request of a token. -/
theorem tokenRequest_result : (d.tokenRequest slot a tid amount ok change).1 =
    if !a.sound then 10 else if d.balancesMove && (d.acct slot).any Account.sound then ok else Config.freeNat d.free % 14 := by
  unfold Dev.tokenRequest
  split
  · rfl
  · have hb : (d.balanceRequest slot amount (some tid)).isSome = (d.balancesMove && (d.acct slot).any Account.sound) := by
      unfold Dev.balanceRequest
      cases d.acct slot with
      | none => simp
      | some b => cases d.balancesMove <;> cases hs : b.sound <;> simp [hs]
    cases hq : d.balanceRequest slot amount (some tid) with
    | none =>
      rw [hq] at hb
      rw [← hb]
      rfl
    | some e =>
      rw [hq] at hb
      rw [← hb]
      dsimp only
      cases e.acct slot <;> rfl

end

/-! ### A token's action (11 R299) -/

section
variable (d : Dev) (slot : Nat) (a : Account)

/-- The half of a key change that waits. -/
def halfSet (x : Option (Nat × Nat × Nat)) : Dev := { d with ledger := { d.ledger with half := x } }

theorem halfSet_leaves (x : Option (Nat × Nat × Nat)) : (∀ k, (halfSet d x).val k = d.val k) ∧ Keeps 2097152 d (halfSet d x) :=
  ⟨fun _ => rfl, keeps_ledger _ (by decide) (.refl _ _)⟩

/-- Does the other half of a key change wait? -/
def otherHalf (half : Fin 2) : Bool := match d.ledger.half with | some (n, h, _) => decide (n = a.number ∧ h ≠ half.val) | none => false

theorem keyChange_eq (tid : Nat) (half : Fin 2) (matching : Bool) (rev sts : Nat) : d.keyChange slot a tid half matching rev sts =
    if !otherHalf d a half then (7, 0, halfSet d (some (a.number, half.val, d.nowMs + 300000)))
    else if !matching then (8, 0, halfSet d none)
    else (halfSet d none).tokenRequest slot a tid 0 0 fun b => { b with keyRevision := rev, stsIndex := sts } := rfl

theorem keyChange_leaves (tid : Nat) (half : Fin 2) (matching : Bool) (rev sts : Nat) :
    (∀ k, k ≠ Key.ledgerCorruptCount → (d.keyChange slot a tid half matching rev sts).2.2.val k = d.val k) ∧
      Keeps 2105349 d (d.keyChange slot a tid half matching rev sts).2.2 := by
  rw [keyChange_eq]
  split
  · exact ⟨fun k _ => (halfSet_leaves d _).1 k, (halfSet_leaves d _).2.mono (by decide)⟩
  · obtain ⟨hhv, hhk⟩ := halfSet_leaves d none
    split
    · exact ⟨fun k _ => hhv k, hhk.mono (by decide)⟩
    · obtain ⟨hv, hk⟩ := tokenRequest_leaves (halfSet d none) slot a tid 0 0 fun b => { b with keyRevision := rev, stsIndex := sts }
      exact ⟨fun k hne => (hv k hne).trans (hhv k), (hhk.mono (by decide)).trans hk⟩

theorem tokenAction_leaves (f : TokenFacts) :
    (∀ k, k ≠ Key.ledgerCorruptCount → (d.tokenAction slot a f).2.2.val k = d.val k) ∧ Keeps 2105349 d (d.tokenAction slot a f).2.2 := by
  have hsame : (∀ k, k ≠ Key.ledgerCorruptCount → d.val k = d.val k) ∧ Keeps 2105349 d d := ⟨fun _ _ => rfl, .refl _ _⟩
  unfold Dev.tokenAction
  split
  · exact hsame
  · split
    · exact hsame
    · cases f.body with
      | credit u =>
        dsimp only
        split
        · exact tokenRequest_leaves ..
        · exact tokenRequest_leaves ..
      | maxPower w =>
        dsimp only
        split
        · exact hsame
        · exact tokenRequest_leaves ..
      | clearCredit => exact tokenRequest_leaves ..
      | tariffRate v =>
        dsimp only
        split
        · exact hsame
        · exact tokenRequest_leaves ..
      | keyChange half matching rev sts => exact keyChange_leaves ..
      | other => exact hsame

end

/-- The objects that handling a token may touch before its result is noted. -/
def resultKeys : List Nat := [Key.useCount 0x06, Key.refusedCount 0x06, Key.ledgerCorruptCount]

/-- The key of a token used, where Burl runs. -/
def tokenKeyed (d : Dev) : Dev := if d.burlUp then d.useKey 0x06 else d

theorem tokenKeyed_leaves (d : Dev) : (∀ k, k ∉ resultKeys → (tokenKeyed d).val k = d.val k) ∧ Keeps 4 d (tokenKeyed d) := by
  unfold tokenKeyed
  split
  · refine ⟨fun k hk => ?_, Dev.useKey_keeps0 d 6⟩
    simp only [resultKeys, List.mem_cons, List.not_mem_nil, or_false, not_or] at hk
    exact val_useKey d 6 hk.1 hk.2.1
  · exact ⟨fun _ _ => rfl, .refl _ _⟩

/-- A token read: its action, where it was decrypted. -/
def tokenRead (d : Dev) (slot : Nat) (a : Account) (f : TokenFacts) : Nat × Int × Dev × Bool :=
  if !f.decryptOk ∨ (d.keyOf 0x06).isNone ∨ !d.burlUp then (4, 0, d, false)
  else ((d.tokenAction slot a f).1, (d.tokenAction slot a f).2.1, (d.tokenAction slot a f).2.2, true)

theorem tokenResult_eq (d : Dev) (keypad : Bool) (account : Nat) (digits : List (Fin 10)) (f : TokenFacts) : d.tokenResult keypad account digits f =
    if d.heart.sealBroken ≠ 0 then (12, 0, d, false)
    else if keypad ∧ (d.ledger.keypad.lockTill).isSome then (11, 0, d, false)
    else if digits.length ≠ 20 ∨ 2 ^ 66 ≤ numberOf digits then (1, 0, d, false)
    else match d.findNumber account with
      | none => (2, 0, d, false)
      | some (slot, a) => if a.status = 3 then (3, 0, d, false) else tokenRead (tokenKeyed d) slot a f := rfl

theorem tokenResult_posted (d : Dev) (account : Nat) (digits : List (Fin 10)) (f : TokenFacts) : d.tokenResult false account digits f =
    if d.heart.sealBroken ≠ 0 then (12, 0, d, false)
    else if digits.length ≠ 20 ∨ 2 ^ 66 ≤ numberOf digits then (1, 0, d, false)
    else match d.findNumber account with
      | none => (2, 0, d, false)
      | some (slot, a) => if a.status = 3 then (3, 0, d, false) else tokenRead (tokenKeyed d) slot a f := by
  rw [tokenResult_eq, if_neg (c := (false : Bool) = true ∧ _) (by simp)] <;> rfl

theorem tokenRead_leaves (d : Dev) (slot : Nat) (a : Account) (f : TokenFacts) :
    (∀ k, k ≠ Key.ledgerCorruptCount → (tokenRead d slot a f).2.2.1.val k = d.val k) ∧ Keeps 2105349 d (tokenRead d slot a f).2.2.1 := by
  unfold tokenRead
  split
  · exact ⟨fun _ _ => rfl, .refl _ _⟩
  · exact tokenAction_leaves d slot a f

theorem tokenResult_leaves (d : Dev) (keypad : Bool) (account : Nat) (digits : List (Fin 10)) (f : TokenFacts) :
    (∀ k, k ∉ resultKeys → (d.tokenResult keypad account digits f).2.2.1.val k = d.val k) ∧
      Keeps 2105349 d (d.tokenResult keypad account digits f).2.2.1 := by
  have hsame : (∀ k, k ∉ resultKeys → d.val k = d.val k) ∧ Keeps 2105349 d d := ⟨fun _ _ => rfl, .refl _ _⟩
  rw [tokenResult_eq]
  split
  · exact hsame
  · split
    · exact hsame
    · split
      · exact hsame
      · cases d.findNumber account with
        | none => exact hsame
        | some x =>
          dsimp only
          split
          · exact hsame
          · obtain ⟨hv, hk⟩ := tokenKeyed_leaves d
            obtain ⟨hrv, hrk⟩ := tokenRead_leaves (tokenKeyed d) x.1 x.2 f
            refine ⟨fun k hne => (hrv k fun he => hne (by rw [he]; decide)).trans (hv k hne), (hk.mono (by decide)).trans hrk⟩

theorem int_of_val {d e : Dev} {k : Nat} (h : e.val k = d.val k) : e.int k = d.int k := by
  unfold Dev.int
  rw [h]

/-! ### A token noted (11 R298) -/

section
variable (d : Dev)

/-- The result of a token in its objects. -/
def resultShown (account r : Nat) (x : Int) (cls : Nat) : Dev :=
  let w := ((d.putNat Key.lastTokenResult r).putNat Key.lastTokenAccount account).putInt Key.lastTokenAmount x
  (w.putNat Key.lastTokenClass cls).putNat Key.lastTokenTime w.nowUs

/-- A token counted by its result. -/
def tokenCounted (r : Nat) : Dev := d.bump (if r = 0 ∨ r = 7 ∨ r = 13 then Key.tokenAcceptCount else Key.tokenRefuseCount)

/-- The page of a token. -/
def tokenPaged : Dev :=
  if d.heart.inspection.isSome then d
  else { d with display := { d.display with tokenTill := some (d.nowMs + 1000 * d.display.set.tokenPage), notice := false } }

/-- The entry of a token. -/
def tokenData (account tid r : Nat) (x : Int) : Bytes := leBytes 8 account ++ leBytes 4 tid ++ leBytes 1 r ++ leBytes 8 (ofSigned 64 x)

theorem tokenData_account (account tid r : Nat) (x : Int) : (tokenData account tid r x).take 8 = leBytes 8 account := by
  unfold tokenData
  rw [List.append_assoc, List.append_assoc, List.take_append_of_le_length (by rw [length_leBytes])]
  exact List.take_of_length_le (by rw [length_leBytes])

/-- A token in the logbook, as a code of the legal interface, and on its page. -/
def tokenLogged (data : Bytes) : Dev := tokenPaged ((d.legal 0x0501 0xFF data).putNat Key.lastLegalCode 0x10)

/-- The notes that a token's result leaves. -/
def tokenNoted (account tid r : Nat) (x : Int) (cls : Nat) : Dev :=
  tokenLogged (tokenCounted (resultShown d account r x cls) r) (tokenData account tid r x)

theorem token_eq {account : Nat} {digits : List (Fin 10)} {f : TokenFacts} {r : Nat} {x : Int} {w : Dev} {read : Bool}
    (h : d.tokenResult false account digits f = (r, x, w, read)) :
    d.token false account digits f = tokenNoted w account (if read then f.tid else 0) r x (if read then f.clsNibbles.toNat else 0) := by
  unfold Dev.token
  rw [h]
  exact if_pos (.inl rfl)

/-- The objects that note a token. -/
def noteKeys : List Nat := [Key.lastTokenResult, Key.lastTokenAccount, Key.lastTokenAmount, Key.lastTokenClass, Key.lastTokenTime,
  Key.tokenAcceptCount, Key.tokenRefuseCount, Key.lastLegalCode]

theorem resultShown_leaves (account r : Nat) (x : Int) (cls : Nat) :
    (resultShown d account r x cls).nat Key.lastTokenResult = r ∧ (resultShown d account r x cls).nat Key.lastTokenAccount = account ∧
      (resultShown d account r x cls).int Key.lastTokenAmount = x ∧ (resultShown d account r x cls).nat Key.lastTokenTime = d.nowUs ∧
      (∀ k, k ∉ noteKeys → (resultShown d account r x cls).val k = d.val k) ∧ Keeps 4 d (resultShown d account r x cls) := by
  obtain ⟨w, hw⟩ : ∃ w, w = ((d.putNat Key.lastTokenResult r).putNat Key.lastTokenAccount account).putInt Key.lastTokenAmount x := ⟨_, rfl⟩
  have hwk : Keeps 4 d w := by
    rw [hw]
    exact ((Dev.putNat_keeps0 _ _ _).trans (Dev.putNat_keeps0 _ _ _)).trans (Dev.putInt_keeps0 _ _ _)
  have hwr : w.nat Key.lastTokenResult = r := by
    rw [hw, Dev.nat_putInt_other _ _ (by decide), Dev.nat_putNat_other _ _ (by decide), Dev.nat_putNat]
  have hwa : w.nat Key.lastTokenAccount = account := by rw [hw, Dev.nat_putInt_other _ _ (by decide), Dev.nat_putNat]
  have hwx : w.int Key.lastTokenAmount = x := by rw [hw, Dev.int_putInt]
  have hwv : ∀ k, k ∉ noteKeys → w.val k = d.val k := fun k hk => by
    simp only [noteKeys, List.mem_cons, List.not_mem_nil, or_false, not_or] at hk
    rw [hw, Dev.val_putInt_other _ _ (Ne.symm hk.2.2.1), Dev.val_putNat_other _ _ (Ne.symm hk.2.1), Dev.val_putNat_other _ _ (Ne.symm hk.1)]
  have heq : resultShown d account r x cls = (w.putNat Key.lastTokenClass cls).putNat Key.lastTokenTime w.nowUs := by rw [hw]; rfl
  have hclass : Keeps 4 w (w.putNat Key.lastTokenClass cls) := Dev.putNat_keeps0 _ _ _
  rw [heq]
  refine ⟨?_, ?_, ?_, ?_, fun k hk => ?_, (hwk.trans hclass).trans (Dev.putNat_keeps0 _ _ _)⟩
  · rw [Dev.nat_putNat_other _ _ (by decide), Dev.nat_putNat_other _ _ (by decide), hwr]
  · rw [Dev.nat_putNat_other _ _ (by decide), Dev.nat_putNat_other _ _ (by decide), hwa]
  · rw [Dev.int_putNat_other _ _ (by decide), Dev.int_putNat_other _ _ (by decide), hwx]
  · rw [Dev.nat_putNat]
    exact nowUs_of_time (hwk.get_time rfl)
  · have hk' := hk
    simp only [noteKeys, List.mem_cons, List.not_mem_nil, or_false, not_or] at hk'
    obtain ⟨-, -, -, hc, ht, -⟩ := hk'
    rw [Dev.val_putNat_other _ _ (Ne.symm ht), Dev.val_putNat_other _ _ (Ne.symm hc), hwv k hk]

theorem tokenCounted_leaves (r : Nat) :
    (∀ k, k ≠ Key.tokenAcceptCount → k ≠ Key.tokenRefuseCount → (tokenCounted d r).val k = d.val k) ∧ Keeps 4 d (tokenCounted d r) := by
  refine ⟨fun k h1 h2 => ?_, Dev.bump_keeps0 _ _ _⟩
  unfold tokenCounted
  split
  · exact Dev.val_bump_other _ _ (Ne.symm h1)
  · exact Dev.val_bump_other _ _ (Ne.symm h2)

theorem tokenPaged_leaves : (tokenPaged d).heart = d.heart ∧ (∀ k, (tokenPaged d).val k = d.val k) ∧ Keeps 67108864 d (tokenPaged d) := by
  unfold tokenPaged
  split
  · exact ⟨rfl, fun _ => rfl, .refl _ _⟩
  · exact ⟨rfl, fun _ => rfl, keeps_display _ (by decide) (.refl _ _)⟩

theorem tokenLogged_leaves (data : Bytes) (hm : d.rail .vddMem = true) :
    (tokenLogged d data).nat Key.lastLegalCode = 0x10 ∧ (∃ e, (tokenLogged d data).heart.log.head? = some e ∧ e.code = 0x0501 ∧ e.data = data) ∧
      (∀ k, k ≠ Key.lastLegalCode → (tokenLogged d data).val k = d.val k) ∧ Keeps 67117060 d (tokenLogged d data) := by
  obtain ⟨e, -, hcode, -, hdata, -, hlog⟩ := Dev.legal_heart d 0x0501 0xFF data hm
  have hlv : ∀ k, (d.legal 0x0501 0xFF data).val k = d.val k := fun k => Dev.legal_val ..
  have hlk := Dev.legal_keeps0 d 0x0501 0xFF data
  unfold tokenLogged
  generalize d.legal 0x0501 0xFF data = y at hlog hlv hlk
  have hyk := Dev.putNat_keeps0 y Key.lastLegalCode 0x10
  obtain ⟨hpheart, hpv, hpk⟩ := tokenPaged_leaves (y.putNat Key.lastLegalCode 0x10)
  refine ⟨(nat_of_val (hpv _)).trans (Dev.nat_putNat ..), ⟨e, ?_, hcode, hdata⟩, fun k hk => ?_,
    ((hlk.mono (by decide)).trans (hyk.mono (by decide))).trans (hpk.mono (by decide))⟩
  · rw [hpheart, hyk.get_heart rfl, hlog]
    rfl
  · rw [hpv, Dev.val_putNat_other _ _ (Ne.symm hk), hlv]

/-- A token's notes: objects, the logbook, the page. -/
theorem tokenNoted_leaves (account tid r : Nat) (x : Int) (cls : Nat) (hm : d.rail .vddMem = true) :
    (tokenNoted d account tid r x cls).nat Key.lastTokenResult = r ∧ (tokenNoted d account tid r x cls).nat Key.lastTokenAccount = account ∧
      (tokenNoted d account tid r x cls).nat Key.lastTokenTime = d.nowUs ∧ (tokenNoted d account tid r x cls).nat Key.lastLegalCode = 0x10 ∧
      (∃ e ∈ (tokenNoted d account tid r x cls).heart.log.head?, e.code = 0x0501 ∧ e.data.take 8 = leBytes 8 account) ∧
      (tokenNoted d account tid r x cls).int Key.lastTokenAmount = x ∧ (∀ k, k ∉ noteKeys → (tokenNoted d account tid r x cls).val k = d.val k) ∧
      Keeps 67117060 d (tokenNoted d account tid r x cls) := by
  obtain ⟨hr, ha, hx, ht, hv, hk⟩ := resultShown_leaves d account r x cls
  unfold tokenNoted
  generalize resultShown d account r x cls = w at hr ha hx ht hv hk
  obtain ⟨hcv, hck⟩ := tokenCounted_leaves w r
  generalize tokenCounted w r = u at hcv hck
  have hmem : u.rail .vddMem = true := by
    unfold Dev.rail
    rw [hck.get_power rfl, hk.get_power rfl]
    exact hm
  obtain ⟨hcodeN, ⟨e, hlog, hcode, hdata⟩, hlv, hlk⟩ := tokenLogged_leaves u (tokenData account tid r x) hmem
  generalize tokenLogged u (tokenData account tid r x) = z at hcodeN hlog hlv hlk
  have hback : ∀ k, k ≠ Key.tokenAcceptCount → k ≠ Key.tokenRefuseCount → k ≠ Key.lastLegalCode → z.val k = w.val k := fun k h1 h2 h3 => by
    rw [hlv k h3, hcv k h1 h2]
  refine ⟨(nat_of_val (hback _ (by decide) (by decide) (by decide))).trans hr, (nat_of_val (hback _ (by decide) (by decide) (by decide))).trans ha,
    (nat_of_val (hback _ (by decide) (by decide) (by decide))).trans ht, hcodeN, ⟨e, hlog, hcode, ?_⟩, ?_, fun k hn => ?_, ?_⟩
  · rw [hdata, tokenData_account]
  · exact (int_of_val (hback _ (by decide) (by decide) (by decide))).trans hx
  · have hn' := hn
    simp only [noteKeys, List.mem_cons, List.not_mem_nil, or_false, not_or] at hn'
    obtain ⟨-, -, -, -, -, h6, h7, h8⟩ := hn'
    rw [hback k h6 h7 h8, hv k hn]
  · exact ((hk.mono (by decide)).trans (hck.mono (by decide))).trans hlk

end

/-! ### The token's command -/

theorem tokenEvent_posted (s : State) (account : Nat) (digits : List (Fin 10)) (f : TokenFacts) (h : s.dev.heartwoodTakes = true) :
    exec (.token false account digits f) s = .next { s with dev := s.dev.token false account digits f } := by
  show State.onDev s _ = _
  rw [State.onDev, Dev.tokenEvent, if_neg (by simp [h]), if_pos (by simp)]

/-- What a token's handling notes. -/
def TokenNoted (account r : Nat) (s t : State) : Prop :=
  t.dev.nat Key.lastTokenResult = r ∧ t.dev.nat Key.lastTokenAccount = account ∧ t.dev.nat Key.lastTokenTime = s.dev.nowUs ∧
    t.dev.nat Key.lastLegalCode = 0x10 ∧ ∃ e ∈ t.dev.heart.log.head?, e.code = 0x0501 ∧ e.data.take 8 = leBytes 8 account

/-- A token posted on a device: what it notes, its ledger, and the objects it leaves. -/
theorem token_leaves (d : Dev) (account : Nat) (digits : List (Fin 10)) (f : TokenFacts) (hm : d.rail .vddMem = true) :
    (d.token false account digits f).nat Key.lastTokenResult = (d.tokenResult false account digits f).1 ∧
      (d.token false account digits f).nat Key.lastTokenAccount = account ∧ (d.token false account digits f).nat Key.lastTokenTime = d.nowUs ∧
      (d.token false account digits f).nat Key.lastLegalCode = 0x10 ∧
      (∃ e ∈ (d.token false account digits f).heart.log.head?, e.code = 0x0501 ∧ e.data.take 8 = leBytes 8 account) ∧
      (d.token false account digits f).int Key.lastTokenAmount = (d.tokenResult false account digits f).2.1 ∧
      (d.token false account digits f).ledger = (d.tokenResult false account digits f).2.2.1.ledger ∧
      (∀ k, k ∉ noteKeys ++ resultKeys → (d.token false account digits f).val k = d.val k) ∧ Keeps 69214213 d (d.token false account digits f) := by
  obtain ⟨hv, hk⟩ := tokenResult_leaves d false account digits f
  cases hres : d.tokenResult false account digits f with
  | mk r rest =>
    obtain ⟨x, w, read⟩ := rest
    rw [hres] at hv hk
    rw [token_eq d hres]
    obtain ⟨h1, h2, h3, h4, h5, h6, h7, h8⟩ := tokenNoted_leaves w account (if read then f.tid else 0) r x (if read then f.clsNibbles.toNat else 0)
      (by unfold Dev.rail; rw [hk.get_power rfl]; exact hm)
    refine ⟨h1, h2, h3.trans (nowUs_of_time (hk.get_time rfl)), h4, h5, h6, h8.get_ledger rfl, fun k hne => ?_, (hk.mono (by decide)).trans (h8.mono (by decide))⟩
    rw [List.mem_append, not_or] at hne
    exact (h7 k hne.1).trans (hv k hne.2)

/-- The parts that a token may touch. -/
def tokenParts : List Part := [.free, .out, .obj, .hosts, .heart, .ledger, .display]

theorem token_noted {s : State} {account r : Nat} {digits : List (Fin 10)} {f : TokenFacts} (hm : s.dev.rail .vddMem = true)
    (hr : (s.dev.tokenResult false account digits f).1 = r) :
    TokenNoted account r s { s with dev := s.dev.token false account digits f } ∧
      Within tokenParts s { s with dev := s.dev.token false account digits f } := by
  obtain ⟨h1, h2, h3, h4, h5, -, -, -, hk⟩ := token_leaves s.dev account digits f hm
  exact ⟨⟨h1.trans hr, h2, h3, h4, h5⟩, hk.within (by decide)⟩

/-- A token refused before its action. -/
theorem tokenResult_early (d : Dev) (account : Nat) (digits : List (Fin 10)) (f : TokenFacts)
    (h : d.heart.sealBroken ≠ 0 ∨ digits.length ≠ 20 ∨ d.findNumber account = none) :
    (d.tokenResult false account digits f).1 =
      (if d.heart.sealBroken ≠ 0 then 12 else if digits.length ≠ 20 ∨ 2 ^ 66 ≤ numberOf digits then 1 else 2) ∧
      (d.tokenResult false account digits f).2.2.1 = d := by
  rw [tokenResult_eq]
  by_cases h1 : d.heart.sealBroken ≠ 0
  · rw [if_pos h1, if_pos h1]
    exact ⟨rfl, rfl⟩
  · rw [if_neg h1, if_neg h1, if_neg (by simp)]
    by_cases h2 : digits.length ≠ 20 ∨ 2 ^ 66 ≤ numberOf digits
    · rw [if_pos h2, if_pos h2]
      exact ⟨rfl, rfl⟩
    · rw [if_neg h2, if_neg h2, (h.resolve_left h1).resolve_left fun h3 => h2 (.inl h3)]
      exact ⟨rfl, rfl⟩

/-- What reads a token: its account in use, its decryption under a key. -/
structure TokenReads (s : State) (account slot : Nat) (a : Account) (digits : List (Fin 10)) (f : TokenFacts) : Prop where
  sealed : s.dev.heart.sealBroken = 0
  length : digits.length = 20
  number : numberOf digits < 2 ^ 66
  found : s.dev.findNumber account = some (slot, a)
  acct : s.dev.acct slot = some a
  own : a.number = account
  open_ : a.status ≠ 3
  used : a.status ≠ 0
  decrypted : f.decryptOk = true
  key : (s.dev.keyOf 0x06).isSome = true
  up : s.dev.burlUp = true

theorem tokenResult_read {s : State} {account slot : Nat} {a : Account} {digits : List (Fin 10)} {f : TokenFacts} (h : TokenReads s account slot a digits f) :
    s.dev.tokenResult false account digits f = (((tokenKeyed s.dev).tokenAction slot a f).1, ((tokenKeyed s.dev).tokenAction slot a f).2.1,
      ((tokenKeyed s.dev).tokenAction slot a f).2.2, true) := by
  obtain ⟨hv, hk⟩ := tokenKeyed_leaves s.dev
  have hkey : (tokenKeyed s.dev).keyOf 0x06 = s.dev.keyOf 0x06 := keyOf_congr _ _ (hv _ (by decide)) (by rw [hk.get_burl rfl])
  have hup : (tokenKeyed s.dev).burlUp = s.dev.burlUp := burlUp_congr _ (hk.get_power rfl) (hk.get_cores rfl)
  have hnum := h.number
  rw [tokenResult_eq, if_neg (by simp [h.sealed]), if_neg (by simp), if_neg (by simp only [h.length]; omega), h.found]
  dsimp only
  rw [if_neg h.open_, tokenRead, if_neg (by rw [hkey, hup]; simp [h.decrypted, h.up, Option.isSome_iff_ne_none.1 h.key])]

/-- The token of an account that is not taken again. -/
theorem tidOk_congr {d e : Dev} (h : e.ledger = d.ledger) (slot account tid : Nat) : e.tidOk slot account tid = d.tidOk slot account tid := by
  unfold Dev.tidOk Dev.tokenWord
  rw [h]

/-- A token that was taken is not taken again. -/
theorem tidOk_acceptTid (d : Dev) (slot account tid : Nat) : (d.acceptTid slot account tid).tidOk slot account tid = false := by
  unfold Dev.tidOk
  rw [acceptTid_eq]
  simp [Dev.remember]

theorem putAcct_memory (d : Dev) (slot : Nat) (a : Account) : (d.putAcct slot a).ledger.memory = d.ledger.memory ∧ (d.putAcct slot a).ledger.tokens = d.ledger.tokens :=
  ⟨rfl, rfl⟩

/-- A credit that is carried out. -/
theorem tokenRequest_served (d : Dev) {slot : Nat} {a : Account} (tid : Nat) {amount : Int} (hm : d.balancesMove = true) (ha : d.acct slot = some a)
    (hs : a.sound = true) (hf : a.status ≠ 0) (hl : -(2 ^ 63 : Int) ≤ a.balance + amount) (hu : a.balance + amount < 2 ^ 63) :
    d.tokenRequest slot a tid amount 0 id = (0, amount, (afterBalance d slot a amount (some tid)).putAcct slot (a.moved amount).seal) := by
  unfold Dev.tokenRequest
  rw [if_neg (by simp [hs]), balanceRequest_eq_afterBalance d (some tid) hm ha hs hl hu]
  dsimp only
  rw [afterBalance_acct_same d amount (some tid) hf]
  dsimp only
  have hb : (a.moved amount).balance = a.balance + amount := rfl
  rw [hb, show a.balance + amount - a.balance = amount by omega]
  rfl

/-- Two devices on which a token has the same result: the same records, token state, and free values. -/
structure SameTokens (d e : Dev) : Prop where
  free : e.free = d.free
  ledger : e.ledger = d.ledger
  moves : e.balancesMove = d.balancesMove

section
variable {d e : Dev} (h : SameTokens d e) (slot : Nat) (a : Account)
include h

theorem tokenRequest_congr (tid tid' : Nat) (amount amount' : Int) (ok : Nat) (g g' : Account → Account) :
    (e.tokenRequest slot a tid amount ok g).1 = (d.tokenRequest slot a tid' amount' ok g').1 := by
  have hacct : e.acct slot = d.acct slot := acct_of_ledger (by rw [h.ledger]) slot
  rw [tokenRequest_result, tokenRequest_result, h.moves, h.free, hacct]

theorem keyChange_congr (tid : Nat) (half : Fin 2) (matching : Bool) (rev sts : Nat) :
    (e.keyChange slot a tid half matching rev sts).1 = (d.keyChange slot a tid half matching rev sts).1 := by
  have hother : otherHalf e a half = otherHalf d a half := by
    unfold otherHalf
    rw [h.ledger]
  have hhalf : SameTokens (halfSet d none) (halfSet e none) := ⟨h.free, by simp only [halfSet, h.ledger], h.moves⟩
  rw [keyChange_eq, keyChange_eq, hother]
  split
  · rfl
  · split
    · rfl
    · exact tokenRequest_congr hhalf slot a _ _ _ _ _ _ _

theorem tokenAction_congr (f : TokenFacts) : (e.tokenAction slot a f).1 = (d.tokenAction slot a f).1 := by
  unfold Dev.tokenAction
  rw [tidOk_congr h.ledger]
  split
  · rfl
  · split
    · rfl
    · cases f.body with
      | credit u =>
        dsimp only
        split
        · exact tokenRequest_congr h slot a _ _ _ _ _ _ _
        · exact tokenRequest_congr h slot a _ _ _ _ _ _ _
      | maxPower w =>
        dsimp only
        split
        · rfl
        · exact tokenRequest_congr h slot a _ _ _ _ _ _ _
      | clearCredit => exact tokenRequest_congr h slot a _ _ _ _ _ _ _
      | tariffRate v =>
        dsimp only
        split
        · rfl
        · exact tokenRequest_congr h slot a _ _ _ _ _ _ _
      | keyChange half matching rev sts => exact keyChange_congr h slot a _ _ _ _ _
      | other => rfl

end

theorem sameTokens_keyed {d e : Dev} (h : SameTokens d e) : SameTokens (tokenKeyed d) (tokenKeyed e) := by
  have hd := (tokenKeyed_leaves d).2
  have he := (tokenKeyed_leaves e).2
  refine ⟨(he.get_free rfl).trans (h.free.trans (hd.get_free rfl).symm), (he.get_ledger rfl).trans (h.ledger.trans (hd.get_ledger rfl).symm), ?_⟩
  have hsame : ∀ v : Dev, (tokenKeyed v).balancesMove = v.balancesMove := fun v => by
    have hv := (tokenKeyed_leaves v).2
    unfold Dev.balancesMove Dev.ledgerUp Dev.powered Dev.rail
    rw [hv.get_power rfl, hv.get_energy rfl]
  rw [hsame, hsame, h.moves]

theorem tokenResult_congr {d e : Dev} (h : SameTokens d e) (hh : e.heart = d.heart) (hk : (tokenKeyed e).keyOf 0x06 = (tokenKeyed d).keyOf 0x06)
    (hu : (tokenKeyed e).burlUp = (tokenKeyed d).burlUp) (account : Nat) (digits : List (Fin 10)) (f : TokenFacts) :
    (e.tokenResult false account digits f).1 = (d.tokenResult false account digits f).1 := by
  have hn : e.findNumber account = d.findNumber account := by
    unfold Dev.findNumber
    rw [h.ledger]
  rw [tokenResult_posted, tokenResult_posted, hh, hn]
  split
  · rfl
  · split
    · rfl
    · cases d.findNumber account with
      | none => rfl
      | some x =>
        dsimp only
        split
        · rfl
        · unfold tokenRead
          rw [hk, hu]
          split
          · rfl
          · exact tokenAction_congr (sameTokens_keyed h) x.1 x.2 f

/-- A token has on the device that has admitted a message the result it has on the device. -/
theorem tokenResult_admitted (d : Dev) (m : HostMsg) (account : Nat) (digits : List (Fin 10)) (f : TokenFacts) :
    ((d.admitted m).tokenResult false account digits f).1 = (d.tokenResult false account digits f).1 := by
  have hpart : ∀ x : Part, x ≠ .obj → x ≠ .hosts → x.same d (d.admitted m) := fun x h1 h2 => Dev.admitted_same d m x h2 h1
  have hpower : (d.admitted m).power = d.power := (hpart .power (by decide) (by decide)).symm
  have hmoves : (d.admitted m).balancesMove = d.balancesMove := by
    unfold Dev.balancesMove
    rw [admitted_ledgerUp, ← show d.energy = (d.admitted m).energy from hpart .energy (by decide) (by decide)]
  have hsame : SameTokens d (d.admitted m) := ⟨(hpart .free (by decide) (by decide)).symm, admitted_ledger d m, hmoves⟩
  have hkeyed : ∀ v : Dev, (tokenKeyed v).keyOf 0x06 = v.keyOf 0x06 := fun v => by
    obtain ⟨hv, hk⟩ := tokenKeyed_leaves v
    exact keyOf_congr _ _ (hv _ (by decide)) (by rw [hk.get_burl rfl])
  have hups : ∀ v : Dev, (tokenKeyed v).burlUp = v.burlUp := fun v => by
    obtain ⟨-, hk⟩ := tokenKeyed_leaves v
    exact burlUp_congr _ (hk.get_power rfl) (hk.get_cores rfl)
  refine tokenResult_congr hsame (hpart .heart (by decide) (by decide)).symm ?_ ?_ account digits f
  · rw [hkeyed, hkeyed]
    exact keyOf_congr _ _ (Dev.val_admitted_far d m (.inl (by decide))) (by rw [← show d.burl = (d.admitted m).burl from hpart .burl (by decide) (by decide)])
  · rw [hups, hups]
    exact burlUp_congr _ hpower (hpart .cores (by decide) (by decide)).symm

/-- TOKEN of a credit (11 R299, R300). -/
theorem token_credit (s : State) (account slot units : Nat) (a : Account) (digits : List (Fin 10)) (f : TokenFacts) (h : s.dev.heartwoodTakes = true)
    (hm : s.dev.rail .vddMem = true) (hb : s.dev.balancesMove = true) (hr : TokenReads s account slot a digits f) (hbody : f.body = .credit units)
    (hu : units ≠ 0) (ht : s.dev.tidOk slot account f.tid = true) (hs : a.sound = true)
    (hl : -(2 ^ 63 : Int) ≤ a.balance + (units * s.dev.nat Key.tokenScale : Nat)) (hg : a.balance + (units * s.dev.nat Key.tokenScale : Nat) < 2 ^ 63) :
    Completes (.token false account digits f) s fun t =>
      TokenNoted account 0 s t ∧ t.dev.int Key.lastTokenAmount = (units * s.dev.nat Key.tokenScale : Nat) ∧
      (∃ r, t.dev.acct slot = some r ∧ r.balance = a.balance + (units * s.dev.nat Key.tokenScale : Nat) ∧ r.fields = a.fields ∧ r.sound = true) ∧
      (∀ k, k ≠ slot → t.dev.acct k = s.dev.acct k) ∧ t.dev.tidOk slot account f.tid = false ∧ Within tokenParts s t := by
  have hex := tokenEvent_posted s account digits f h
  obtain ⟨hkv, hkk⟩ := tokenKeyed_leaves s.dev
  have hkl : (tokenKeyed s.dev).ledger = s.dev.ledger := hkk.get_ledger rfl
  have hscale : (tokenKeyed s.dev).nat Key.tokenScale = s.dev.nat Key.tokenScale := nat_of_val (hkv _ (by decide))
  have hmove : (tokenKeyed s.dev).balancesMove = true := by
    unfold Dev.balancesMove Dev.ledgerUp Dev.powered Dev.rail
    rw [hkk.get_power rfl, hkk.get_energy rfl]
    exact hb
  have hacct : ∀ k, (tokenKeyed s.dev).acct k = s.dev.acct k := acct_of_ledger (by rw [hkl])
  have haction : (tokenKeyed s.dev).tokenAction slot a f =
      (tokenKeyed s.dev).tokenRequest slot a f.tid (units * s.dev.nat Key.tokenScale : Nat) 0 id := by
    unfold Dev.tokenAction
    rw [if_neg (by simp [hbody]), if_neg (by rw [hr.own, tidOk_congr hkl, ht]; simp), hbody]
    dsimp only
    rw [if_neg hu, hscale]
  have hres := tokenResult_read hr
  rw [haction, tokenRequest_served (tokenKeyed s.dev) f.tid hmove ((hacct slot).trans hr.acct) hs hr.used hl hg] at hres
  generalize ((units * s.dev.nat Key.tokenScale : Nat) : Int) = amount at *
  obtain ⟨hnoted, hwithin⟩ := token_noted (s := s) (account := account) (r := 0) (digits := digits) (f := f) hm (by rw [hres])
  obtain ⟨-, -, -, -, -, hamount, hledger, -, -⟩ := token_leaves s.dev account digits f hm
  rw [hres] at hamount hledger
  have hstatus : (a.moved amount).seal.status ≠ 0 := hr.used
  have hafter : ∀ k, (s.dev.token false account digits f).acct k =
      ((afterBalance (tokenKeyed s.dev) slot a amount (some f.tid)).putAcct slot (a.moved amount).seal).acct k := fun k =>
    acct_of_ledger (by rw [hledger]) k
  refine ⟨_, hex, hnoted, hamount, ⟨(a.moved amount).seal, ?_, rfl, rfl, sound_seal _⟩, fun k hk => ?_, ?_, hwithin⟩
  · exact (hafter slot).trans (acct_putAcct_same _ _ hstatus)
  · exact (hafter k).trans ((acct_putAcct_other _ hstatus hk).trans ((afterBalance_acct_other (tokenKeyed s.dev) amount (some f.tid) hr.used hk).trans (hacct k)))
  · refine (tidOk_congr hledger slot account f.tid).trans ?_
    have htid := tidOk_acceptTid ((tokenKeyed s.dev).putAcct slot (a.moved amount)) slot a.number f.tid
    rw [hr.own] at htid
    unfold Dev.tidOk Dev.tokenWord at htid ⊢
    rw [(putAcct_memory _ slot _).1, (putAcct_memory _ slot _).2]
    unfold afterBalance
    rw [hr.own]
    exact htid
/-- TOKEN that was used (11 R300). -/
theorem token_used (s : State) (account slot : Nat) (a : Account) (digits : List (Fin 10)) (f : TokenFacts) (h : s.dev.heartwoodTakes = true)
    (hm : s.dev.rail .vddMem = true) (hr : TokenReads s account slot a digits f) (hbody : f.body ≠ .other) (ht : s.dev.tidOk slot account f.tid = false) :
    Completes (.token false account digits f) s fun t => TokenNoted account 5 s t ∧ t.dev.ledger = s.dev.ledger ∧ Within tokenParts s t := by
  have hkl : (tokenKeyed s.dev).ledger = s.dev.ledger := (tokenKeyed_leaves s.dev).2.get_ledger rfl
  have haction : (tokenKeyed s.dev).tokenAction slot a f = (5, 0, tokenKeyed s.dev) := by
    unfold Dev.tokenAction
    rw [if_neg hbody, if_pos (by rw [hr.own, tidOk_congr hkl, ht]; rfl)]
  have hres := tokenResult_read hr
  rw [haction] at hres
  obtain ⟨hnoted, hwithin⟩ := token_noted (s := s) (account := account) (r := 5) (digits := digits) (f := f) hm (by rw [hres])
  obtain ⟨-, -, -, -, -, -, hledger, -, -⟩ := token_leaves s.dev account digits f hm
  rw [hres] at hledger
  exact ⟨_, tokenEvent_posted s account digits f h, hnoted, hledger.trans hkl, hwithin⟩

/-- TOKEN refused before its account is found (11 R299). -/
theorem token_early (s : State) (account : Nat) (digits : List (Fin 10)) (f : TokenFacts) (h : s.dev.heartwoodTakes = true) (hm : s.dev.rail .vddMem = true)
    (he : s.dev.heart.sealBroken ≠ 0 ∨ digits.length ≠ 20 ∨ s.dev.findNumber account = none) :
    Completes (.token false account digits f) s fun t =>
      TokenNoted account (if s.dev.heart.sealBroken ≠ 0 then 12 else if digits.length ≠ 20 ∨ 2 ^ 66 ≤ numberOf digits then 1 else 2) s t ∧
      t.dev.ledger = s.dev.ledger ∧ Within tokenParts s t := by
  obtain ⟨hres, hdev⟩ := tokenResult_early s.dev account digits f he
  obtain ⟨hnoted, hwithin⟩ := token_noted (s := s) (digits := digits) (f := f) hm hres
  obtain ⟨-, -, -, -, -, -, hledger, -, -⟩ := token_leaves s.dev account digits f hm
  exact ⟨_, tokenEvent_posted s account digits f h, hnoted, hledger.trans (by rw [hdev]), hwithin⟩

theorem takes_admitted (d : Dev) (m : HostMsg) : (d.admitted m).heartwoodTakes = d.heartwoodTakes := by
  unfold Dev.heartwoodTakes Dev.heartwoodUp Dev.powered
  rw [running_congr d .heartwood (Dev.admitted_same d m .cores (by decide) (by decide)).symm, (Dev.admitted_same d m .power (by decide) (by decide)).symm]

/-- TOKEN_SUBMIT of 20 digits (11 R298). -/
theorem tokenSubmit_taken (s : State) (m : HostMsg) (data b : Bytes) (f : TokenFacts) (digits : List (Fin 10)) (h : s.dev.grants m = true)
    (ht : takes Key.tokenSubmit data = true) (hv : sentValue Key.tokenSubmit data = .bytes b) (hd : asciiDigits b = some digits) (hl : digits.length = 20)
    (hw : s.dev.heartwoodTakes = true) (hm : s.dev.rail .vddMem = true) :
    Completes (.tokenSubmit m data f) s fun t =>
      TokenNoted (s.dev.nat Key.tokenAccount) (s.dev.tokenResult false (s.dev.nat Key.tokenAccount) digits f).1 s t ∧
      Replied s t m (.done Key.tokenSubmit) ∧ OnlySlot m.slot s t ∧ Within tokenParts s t := by
  have hex : exec (.tokenSubmit m data f) s = .next { s with dev :=
      ((s.dev.admitted m).token false ((s.dev.admitted m).nat Key.tokenAccount) digits f).ok ((s.dev.admitted m).ackOf m Key.tokenSubmit) } := by
    show State.onDev s _ = _
    rw [State.onDev, cmdWrite_granted h ht, hv]
    unfold tokenSubmitServe
    dsimp only
    rw [hd]
    dsimp only
    rw [if_neg (by simp [hl]), if_neg (by rw [takes_admitted, hw]; simp)]
  have hacc : (s.dev.admitted m).nat Key.tokenAccount = s.dev.nat Key.tokenAccount := nat_of_val (Dev.val_admitted_far s.dev m (.inr (by decide)))
  have htime : (s.dev.admitted m).nowUs = s.dev.nowUs := nowUs_of_time (Dev.admitted_same s.dev m .time (by decide) (by decide)).symm
  have hrail : (s.dev.admitted m).rail .vddMem = true := by
    unfold Dev.rail
    rw [(Dev.admitted_same s.dev m .power (by decide) (by decide)).symm]
    exact hm
  rw [hacc] at hex
  obtain ⟨h1, h2, h3, h4, h5, -, -, h8, hk⟩ := token_leaves (s.dev.admitted m) (s.dev.nat Key.tokenAccount) digits f hrail
  obtain ⟨hreply, honly, hslot⟩ := served_ok (M := 69214213) (parts := [.free, .obj, .heart, .ledger, .display]) (keys := noteKeys ++ resultKeys)
    Key.tokenSubmit (grants_iff.1 h).1 hk (by decide) (by decide) h8 (by decide)
  rw [tokenResult_admitted] at h1
  generalize (s.dev.admitted m).token false (s.dev.nat Key.tokenAccount) digits f = w at *
  have hval : ∀ k, (w.ok ((s.dev.admitted m).ackOf m Key.tokenSubmit)).val k = w.val k := fun k => Dev.val_answer _ _ _ k
  have hheart : (w.ok ((s.dev.admitted m).ackOf m Key.tokenSubmit)).heart = w.heart := (Dev.ok_keeps0 w _).get_heart rfl
  have hnat : ∀ k, (w.ok ((s.dev.admitted m).ackOf m Key.tokenSubmit)).nat k = w.nat k := fun k => nat_of_val (hval k)
  obtain ⟨hp, hmem, hseen, hparts, -⟩ := honly
  refine ⟨_, hex, ⟨(hnat _).trans h1, (hnat _).trans h2, (hnat _).trans (h3.trans htime), (hnat _).trans h4, ?_⟩, hreply, hslot, hp, hmem, hseen, fun x hx => ?_⟩
  · obtain ⟨e, he, hrest⟩ := h5
    exact ⟨e, by rw [hheart]; exact he, hrest⟩
  · simp only [tokenParts, List.mem_cons, List.not_mem_nil, or_false, not_or] at hx
    obtain ⟨n1, n2, n3, n4, n5, n6, n7⟩ := hx
    exact hparts x n3 (by simp [n1, n2, n3, n4, n5, n6, n7])

/-- TOKEN_SUBMIT of another text (11 R298). -/
theorem tokenSubmit_refused (s : State) (m : HostMsg) (data b : Bytes) (f : TokenFacts) (h : s.dev.grants m = true)
    (ht : takes Key.tokenSubmit data = true) (hv : sentValue Key.tokenSubmit data = .bytes b) (hd : asciiDigits b = none) :
    Completes (.tokenSubmit m data f) s fun t => Served m (.abort Code.range Key.tokenSubmit) [] abortKeys s t := by
  have hex : exec (.tokenSubmit m data f) s = 
      .next { s with dev := Dev.abort (s.dev.admitted m) ((s.dev.admitted m).ackOf m Key.tokenSubmit) Code.range } := by
    show State.onDev s _ = _
    rw [State.onDev, cmdWrite_granted h ht, hv]
    unfold tokenSubmitServe
    dsimp only
    rw [hd]
  exact ⟨_, hex, served_abort_nil _ _ (grants_iff.1 h).1⟩

/-- KEY_CHANGE_HALF_EXPIRY (11 R301). -/
theorem keyChangeHalf_expires (s : State) (account half ends : Nat) (h : s.dev.ledger.half = some (account, half, ends)) (ht : ends ≤ s.dev.nowMs) :
    Completes .keyChangeHalfExpiry s fun t => t.dev.ledger = { s.dev.ledger with half := none } ∧ Only [.ledger] [] s t := by
  have hex : exec .keyChangeHalfExpiry s = .next { s with dev := { s.dev with ledger := { s.dev.ledger with half := none } } } := by
    show State.onDev s _ = _
    rw [State.onDev, Dev.halfExpiry, h]
    dsimp only
    rw [if_pos ht]
  refine ⟨_, hex, rfl, rfl, rfl, rfl, fun x _ hx => ?_, fun k _ => rfl⟩
  cases x with
  | ledger => simp at hx
  | _ => rfl

/-! ### Signed host credits (11 R302) -/

/-- A host credit named as the last legal command, and its key used where Burl runs. -/
def creditKeyed (d : Dev) : Dev :=
  if (d.putNat Key.lastLegalCode 0x11).burlUp then (d.putNat Key.lastLegalCode 0x11).useKey 0x07 else d.putNat Key.lastLegalCode 0x11

theorem creditKeyed_keeps (d : Dev) : Keeps 4 d (creditKeyed d) := by
  have h : Keeps 4 d (d.putNat Key.lastLegalCode 0x11) := Dev.putNat_keeps0 _ _ _
  unfold creditKeyed
  split
  · exact Dev.useKey_keeps _ _ (by decide) h
  · exact h

theorem creditKeyed_val (d : Dev) {k : Nat} (h1 : k ≠ Key.lastLegalCode) (h2 : k ≠ Key.useCount 0x07) (h3 : k ≠ Key.refusedCount 0x07) :
    (creditKeyed d).val k = d.val k := by
  have hput := Dev.val_putNat_other d 0x11 (Ne.symm h1)
  unfold creditKeyed
  split
  · exact (val_useKey _ 0x07 h2 h3).trans hput
  · exact hput

theorem creditKeyed_keyOf (d : Dev) (n : Fin 64) : (creditKeyed d).keyOf n = d.keyOf n := by
  have hval : (creditKeyed d).val Key.lifecycleState = d.val Key.lifecycleState := creditKeyed_val d (by decide) (by decide) (by decide)
  exact keyOf_congr d n hval (by rw [(creditKeyed_keeps d).get_burl rfl])

theorem creditKeyed_up (d : Dev) : (creditKeyed d).burlUp = d.burlUp :=
  burlUp_congr _ ((creditKeyed_keeps d).get_power rfl) ((creditKeyed_keeps d).get_cores rfl)

/-- With the key in force its refusals do not count. -/
theorem creditKeyed_isSome (d : Dev) (h : (d.keyOf 0x07).isSome = true) {k : Nat} (h1 : k ≠ Key.lastLegalCode) (h2 : k ≠ Key.useCount 0x07) :
    (creditKeyed d).val k = d.val k := by
  have hput := Dev.val_putNat_other d 0x11 (Ne.symm h1)
  unfold creditKeyed
  split
  · have hkey : (d.putNat Key.lastLegalCode 0x11).keyOf 0x07 = d.keyOf 0x07 :=
      keyOf_congr _ _ (Dev.val_putNat_other d 0x11 (by decide)) (by rw [Dev.putNat_burl])
    have huse : (d.putNat Key.lastLegalCode 0x11).useKey 0x07 = (d.putNat Key.lastLegalCode 0x11).bump (Key.useCount 7) :=
      congrArg (fun k => (d.putNat Key.lastLegalCode 0x11).bump k) (if_pos (by rw [hkey]; exact h))
    rw [huse]
    exact (Dev.val_bump_other _ _ (Ne.symm h2)).trans hput
  · exact hput

/-- A host credit of the version and the kind that the block takes, past its key. -/
theorem hostCreditServe_keyed (sigOk hashOk : Bool) (data : Bytes) (a : Ack) (v : Val) (d : Dev) (hw : d.heartwoodTakes = true)
    (h1 : leVal (data.take 1) = 1) (h2 : leVal ((data.drop 1).take 1) ≤ 2) :
    hostCreditServe sigOk hashOk data a v d =
      if !sigOk ∨ ((creditKeyed d).keyOf 0x07).isNone ∨ !(creditKeyed d).burlUp then (creditKeyed d).abort a Code.verifyFailed
      else if !hashOk ∨ leVal ((data.drop 18).take 8) ≤ (creditKeyed d).nat Key.hostCreditSequence then (creditKeyed d).abort a Code.range
      else match (creditKeyed d).findNumber (leVal ((data.drop 2).take 8)) with
        | none => (creditKeyed d).abort a Code.range
        | some (slot, r) =>
          if r.status = 3 then (creditKeyed d).abort a Code.range
          else match ((creditKeyed d).count 1 Key.hostCreditSequence (leVal ((data.drop 18).take 8))).balanceRequest slot (toSigned 64 (leVal ((data.drop 10).take 8))) none with
            | some d => (d.legal 0x0502 0xFF (leBytes 8 (leVal ((data.drop 2).take 8)) ++ leBytes 8 (leVal ((data.drop 18).take 8)) ++
                leBytes 8 (ofSigned 64 (toSigned 64 (leVal ((data.drop 10).take 8)))))).ok a
            | none => (if r.sound then (creditKeyed d).count 1 Key.hostCreditSequence (leVal ((data.drop 18).take 8))
                else ((creditKeyed d).count 1 Key.hostCreditSequence (leVal ((data.drop 18).take 8))).ledgerCorrupt slot).abort a Code.memoryError := by
  have htakes : (d.putNat Key.lastLegalCode 0x11).heartwoodTakes = true := by
    unfold Dev.heartwoodTakes Dev.heartwoodUp Dev.powered Dev.running at hw ⊢
    rw [Dev.putNat_cores, Dev.putNat_power]
    exact hw
  unfold hostCreditServe
  dsimp only
  rw [if_neg (by rw [htakes]; simp), if_neg (by rw [List.drop_zero]; omega)]
  rfl

/-- HOST_CREDIT whose signature does not verify. -/
theorem hostCredit_refused (s : State) (m : HostMsg) (data : Bytes) (ok : Bool) (h : s.dev.grants m = true) (ht : takes Key.hostCredit data = true)
    (hw : s.dev.heartwoodTakes = true) (h1 : leVal (data.take 1) = 1) (h2 : leVal ((data.drop 1).take 1) ≤ 2) :
    Completes (.hostCredit m data false ok) s fun t =>
      Served m (.abort Code.verifyFailed Key.hostCredit) [] ([Key.lastLegalCode, Key.useCount 0x07, Key.refusedCount 0x07] ++ abortKeys) s t := by
  have hex : exec (.hostCredit m data false ok) s = 
      .next { s with dev := Dev.abort (creditKeyed (s.dev.admitted m)) ((s.dev.admitted m).ackOf m Key.hostCredit) Code.verifyFailed } := by
    show State.onDev s _ = _
    rw [State.onDev, cmdWrite_granted h ht, hostCreditServe_keyed _ _ _ _ _ _ ((takes_admitted s.dev m).trans hw) h1 h2, if_pos (by simp)]
  refine ⟨_, hex, served_abort (M := 4) _ _ (grants_iff.1 h).1 (creditKeyed_keeps _) (by decide) (by decide) (fun k hk => ?_) (by decide)⟩
  simp only [List.mem_cons, List.not_mem_nil, or_false, not_or] at hk
  exact creditKeyed_val _ hk.1 hk.2.1 hk.2.2
/-- A host credit carried out: its sequence counted, the balance moved, and logged. -/
def creditMoved (d : Dev) (slot : Nat) (a : Account) (seq : Nat) (amount : Int) (data : Bytes) : Dev :=
  (afterBalance (d.count 1 Key.hostCreditSequence seq) slot a amount none).legal 0x0502 0xFF data

theorem creditMoved_leaves (d : Dev) (slot : Nat) (a : Account) (seq : Nat) (amount : Int) (data : Bytes) (hm : d.rail .vddMem = true) (h0 : a.status ≠ 0) :
    (creditMoved d slot a seq amount data).acct slot = some (a.moved amount) ∧ (∀ k, k ≠ slot → (creditMoved d slot a seq amount data).acct k = d.acct k) ∧
      (creditMoved d slot a seq amount data).nat Key.hostCreditSequence = seq ∧
      (∀ k, k ≠ Key.hostCreditSequence → (creditMoved d slot a seq amount data).val k = d.val k) ∧
      (∃ e : LegalEntry, (creditMoved d slot a seq amount data).heart = { d.heart with log := e :: d.heart.log.take 32767 } ∧ e.code = 0x0502) ∧
      Keeps 10493956 d (creditMoved d slot a seq amount data) := by
  have hck := Dev.count_keeps0 d 1 Key.hostCreditSequence seq
  have hcv := val_count d 1 Key.hostCreditSequence seq
  obtain ⟨u, hu⟩ : ∃ u, u = d.count 1 Key.hostCreditSequence seq := ⟨_, rfl⟩
  unfold creditMoved
  rw [← hu] at hck hcv ⊢
  have huacct : ∀ k, u.acct k = d.acct k := acct_of_ledger (by rw [hck.get_ledger rfl])
  have hself := afterBalance_acct_same u (slot := slot) (a := a) amount none h0
  have hother := fun k (hk : k ≠ slot) => afterBalance_acct_other u (slot := slot) (a := a) amount none h0 (k := k) hk
  have hak : Keeps 2097152 u (afterBalance u slot a amount none) := Dev.putAcct_keeps0 u slot (a.moved amount)
  generalize afterBalance u slot a amount none = w at hself hother hak ⊢
  obtain ⟨e, -, hcode, -, -, -, hlog⟩ := Dev.legal_heart w 0x0502 0xFF data (by
    unfold Dev.rail
    rw [hak.get_power rfl, hck.get_power rfl]
    exact hm)
  have hlk := Dev.legal_keeps0 w 0x0502 0xFF data
  have hlacct : ∀ k, (w.legal 0x0502 0xFF data).acct k = w.acct k := acct_of_ledger (by rw [hlk.get_ledger rfl])
  have hval : ∀ k, (w.legal 0x0502 0xFF data).val k = (d.putNat Key.hostCreditSequence seq).val k := fun k => by
    rw [val_of_obj (hlk.get_obj rfl) k, val_of_obj (hak.get_obj rfl) k, hcv k]
  refine ⟨(hlacct slot).trans hself, fun k hk => (hlacct k).trans ((hother k hk).trans (huacct k)), (nat_of_val (hval _)).trans (by simp),
    fun k hk => (hval k).trans (Dev.val_putNat_other _ _ (Ne.symm hk)), ⟨e, ?_, hcode⟩, ((hck.mono (by decide)).trans (hak.mono (by decide))).trans (hlk.mono (by decide))⟩
  rw [hlog, hak.get_heart rfl, hck.get_heart rfl]

/-- HOST_CREDIT whose signature verifies. -/
theorem hostCredit_taken (s : State) (m : HostMsg) (data : Bytes) (slot : Nat) (a : Account) (h : s.dev.grants m = true) (ht : takes Key.hostCredit data = true)
    (hw : s.dev.heartwoodTakes = true) (hb : s.dev.balancesMove = true) (hkey : (s.dev.keyOf 0x07).isSome = true) (hup : s.dev.burlUp = true)
    (h1 : leVal (data.take 1) = 1) (h2 : leVal ((data.drop 1).take 1) ≤ 2) (hseq : s.dev.nat Key.hostCreditSequence < leVal ((data.drop 18).take 8))
    (hf : s.dev.findNumber (leVal ((data.drop 2).take 8)) = some (slot, a)) (ha : s.dev.acct slot = some a) (h3 : a.status ≠ 3) (h0 : a.status ≠ 0)
    (hs : a.sound = true) (hl : -(2 ^ 63 : Int) ≤ a.balance + toSigned 64 (leVal ((data.drop 10).take 8)))
    (hu : a.balance + toSigned 64 (leVal ((data.drop 10).take 8)) < 2 ^ 63) :
    Completes (.hostCredit m data true true) s fun t =>
      (∃ r, t.dev.acct slot = some r ∧ r.balance = a.balance + toSigned 64 (leVal ((data.drop 10).take 8)) ∧ r.fields = a.fields) ∧
      (∀ k, k ≠ slot → t.dev.acct k = s.dev.acct k) ∧ t.dev.nat Key.hostCreditSequence = leVal ((data.drop 18).take 8) ∧
      (∃ e : LegalEntry, t.dev.heart = { s.dev.heart with log := e :: s.dev.heart.log.take 32767 } ∧ e.code = 0x0502) ∧
      Served m (.done Key.hostCredit) [.heart, .ledger, .burl] [Key.lastLegalCode, Key.hostCreditSequence, Key.useCount 0x07] s t := by
  have hpart : ∀ x : Part, x ≠ .hosts → x ≠ .obj → x.same s.dev (s.dev.admitted m) := fun x n1 n2 => Dev.admitted_same s.dev m x n1 n2
  have hserve := hostCreditServe_keyed true true data ((s.dev.admitted m).ackOf m Key.hostCredit) (sentValue Key.hostCredit data) (s.dev.admitted m)
    ((takes_admitted s.dev m).trans hw) h1 h2
  have hkeep := creditKeyed_keeps (s.dev.admitted m)
  have hakey : ((s.dev.admitted m).keyOf 0x07).isSome = true := by
    rw [keyOf_congr s.dev 0x07 (Dev.val_admitted_far s.dev m (.inl (by decide))) (by rw [← show s.dev.burl = _ from hpart .burl (by decide) (by decide)])]
    exact hkey
  have hval : ∀ k, k ≠ Key.lastLegalCode → k ≠ Key.useCount 0x07 → (creditKeyed (s.dev.admitted m)).val k = (s.dev.admitted m).val k :=
    fun k n1 n2 => creditKeyed_isSome (s.dev.admitted m) hakey n1 n2
  have hwkey : ((creditKeyed (s.dev.admitted m)).keyOf 0x07).isSome = true := by rw [creditKeyed_keyOf]; exact hakey
  have hwup : (creditKeyed (s.dev.admitted m)).burlUp = true := by
    rw [creditKeyed_up, burlUp_congr s.dev (hpart .power (by decide) (by decide)).symm (hpart .cores (by decide) (by decide)).symm]
    exact hup
  obtain ⟨w, hwd⟩ : ∃ w, w = creditKeyed (s.dev.admitted m) := ⟨_, rfl⟩
  rw [← hwd] at hserve hkeep hval hwkey hwup
  have hold : w.nat Key.hostCreditSequence = s.dev.nat Key.hostCreditSequence :=
    (nat_of_val (hval _ (by decide) (by decide))).trans (nat_of_val (Dev.val_admitted_far s.dev m (.inr (by decide))))
  have hledger : w.ledger = s.dev.ledger := (hkeep.get_ledger rfl).trans (admitted_ledger s.dev m)
  have hfind : w.findNumber (leVal ((data.drop 2).take 8)) = some (slot, a) := by
    unfold Dev.findNumber at hf ⊢
    rw [hledger]
    exact hf
  rw [if_neg (by rw [hwup]; simp [Option.isSome_iff_ne_none.1 hwkey]), if_neg (by rw [hold]; simp only [Bool.not_true, Bool.false_eq_true, false_or]; omega), hfind] at hserve
  dsimp only at hserve
  rw [if_neg h3] at hserve
  have hwm : (w.count 1 Key.hostCreditSequence (leVal ((data.drop 18).take 8))).balancesMove = true := by
    have hck := Dev.count_keeps0 w 1 Key.hostCreditSequence (leVal ((data.drop 18).take 8))
    unfold Dev.balancesMove Dev.ledgerUp Dev.powered Dev.rail at hb ⊢
    rw [hck.get_power rfl, hck.get_energy rfl, hkeep.get_power rfl, hkeep.get_energy rfl, ← show s.dev.power = _ from hpart .power (by decide) (by decide),
      ← show s.dev.energy = _ from hpart .energy (by decide) (by decide)]
    exact hb
  have hca : (w.count 1 Key.hostCreditSequence (leVal ((data.drop 18).take 8))).acct slot = some a := by
    have hck := Dev.count_keeps0 w 1 Key.hostCreditSequence (leVal ((data.drop 18).take 8))
    exact (acct_of_ledger (d := s.dev) (by rw [hck.get_ledger rfl, hledger]) slot).trans ha
  rw [balanceRequest_eq_afterBalance _ none hwm hca hs hl hu] at hserve
  have hwrail : w.rail .vddMem = true := by
    have hdev : s.dev.rail .vddMem = true := (ledgerUp_iff.1 (by
      unfold Dev.balancesMove at hb
      rw [Bool.and_eq_true] at hb
      exact hb.1)).2.1
    unfold Dev.rail at hdev ⊢
    rw [hkeep.get_power rfl, ← show s.dev.power = _ from hpart .power (by decide) (by decide)]
    exact hdev
  dsimp only at hserve
  obtain ⟨hself, hother, hnum, hrest, ⟨e, hlog, hcode⟩, hck⟩ := creditMoved_leaves w slot a (leVal ((data.drop 18).take 8))
    (toSigned 64 (leVal ((data.drop 10).take 8))) (leBytes 8 (leVal ((data.drop 2).take 8)) ++ leBytes 8 (leVal ((data.drop 18).take 8)) ++
      leBytes 8 (ofSigned 64 (toSigned 64 (leVal ((data.drop 10).take 8))))) hwrail h0
  rw [← creditMoved] at hserve
  generalize creditMoved w slot a (leVal ((data.drop 18).take 8)) (toSigned 64 (leVal ((data.drop 10).take 8))) (leBytes 8 (leVal ((data.drop 2).take 8)) ++
    leBytes 8 (leVal ((data.drop 18).take 8)) ++ leBytes 8 (ofSigned 64 (toSigned 64 (leVal ((data.drop 10).take 8))))) = x at *
  have hex : exec (.hostCredit m data true true) s = .next { s with dev := x.ok ((s.dev.admitted m).ackOf m Key.hostCredit) } := by
    show State.onDev s _ = _
    rw [State.onDev, cmdWrite_granted h ht, hserve]
  have hok := Dev.ok_keeps0 x ((s.dev.admitted m).ackOf m Key.hostCredit)
  have hxacct : ∀ k, (x.ok ((s.dev.admitted m).ackOf m Key.hostCredit)).acct k = x.acct k := acct_of_ledger (by rw [hok.get_ledger rfl])
  have hwacct : ∀ k, w.acct k = s.dev.acct k := acct_of_ledger (by rw [hledger])
  refine ⟨_, hex, ⟨a.moved (toSigned 64 (leVal ((data.drop 10).take 8))), (hxacct slot).trans hself, rfl, rfl⟩,
    fun k hk => (hxacct k).trans ((hother k hk).trans (hwacct k)), (nat_of_val (Dev.val_answer _ _ _ _)).trans hnum, ⟨e, ?_, hcode⟩, ?_⟩
  · rw [hok.get_heart rfl, hlog, hkeep.get_heart rfl, ← show s.dev.heart = _ from hpart .heart (by decide) (by decide)]
  · refine served_ok (M := 10493956) _ (grants_iff.1 h).1 ((hkeep.mono (by decide)).trans hck) (by decide) (by decide) (fun k hk => ?_) (by decide)
    simp only [List.mem_cons, List.not_mem_nil, or_false, not_or] at hk
    exact (hrest k hk.2.1).trans (hval k hk.1 hk.2.2)

/-- Settles O41: tokens and host credits, once. -/
theorem tokensCreditOnce : Obligations.TokensCreditOnce := by
  unfold Obligations.TokensCreditOnce
  intro read ready noted parts
  have hread : ∀ {s : State} {account slot : Nat} {a : Account} {digits : List (Fin 10)} {f : TokenFacts}, read s account slot a digits f →
      TokenReads s account slot a digits f :=
    fun ⟨h1, h2, h3, h4, h5, h6, h7, h8, h9, h10, h11⟩ => ⟨h1, h2, h3, h4, h5, h6, h7, h8, h9, h10, h11⟩
  exact ⟨fun s account slot units a digits f h hb hr hbody hu ht hs hl hg => token_credit s account slot units a digits f h.1 h.2 hb (hread hr) hbody hu ht hs hl hg,
    fun s account slot a digits f h hr hbody ht => token_used s account slot a digits f h.1 h.2 (hread hr) hbody ht,
    fun s account digits f h he => token_early s account digits f h.1 h.2 he,
    fun s m data b f digits h ht hv hd hl hw => tokenSubmit_taken s m data b f digits h ht hv hd hl hw.1 hw.2,
    tokenSubmit_refused, keyChangeHalf_expires,
    fun s m data slot a h ht hw hb hkey hup h1 h2 hseq hf ha h3 h0 hs => hostCredit_taken s m data slot a h ht hw hb hkey hup h1 h2 hseq hf ha h3 h0 hs,
    hostCredit_refused⟩


end Sys2Proof.Machine
end

section
/-! PROOFS. Authorisation: identities that are granted or refused, hosts that answer or do not, bindings (11 R282 to R284; settles O39). -/

namespace Sys2Proof.Machine

/-! ### Answers on a device whose links are as they were -/

/-- The links and slots of a device: what an answer is sent by. The grid cycle number crosses apart from them (crossing 0x1A). -/
structure Linked (d e : Dev) : Prop where
  clocks : e.clocks = d.clocks
  crossings : ∀ x : Fin 58, x ≠ 0x1A → e.crossings[x] = d.crossings[x]
  power : e.power = d.power
  slots : e.hosts.slots = d.hosts.slots
  can5 : e.hosts.can[5] = d.hosts.can[5]
  phy : e.val Key.eth0PhyFound = d.val Key.eth0PhyFound

theorem Linked.refl (d : Dev) : Linked d d := ⟨rfl, fun _ _ => rfl, rfl, rfl, rfl, rfl⟩

theorem Linked.trans {d e f : Dev} (h : Linked d e) (h' : Linked e f) : Linked d f :=
  ⟨h'.clocks.trans h.clocks, fun x hx => (h'.crossings x hx).trans (h.crossings x hx), h'.power.trans h.power, h'.slots.trans h.slots, h'.can5.trans h.can5, h'.phy.trans h.phy⟩

theorem Linked.of_keeps {M : Nat} {d e : Dev} (h : Keeps M d e) (hM : linkParts M) (hv : e.val Key.eth0PhyFound = d.val Key.eth0PhyFound) : Linked d e := by
  obtain ⟨hcl, hx, hp, hh⟩ := hM
  exact ⟨h.get_clocks hcl, fun _ _ => by rw [h.get_crossings hx], h.get_power hp, by rw [h.get_hosts hh], by rw [h.get_hosts hh], hv⟩

theorem Linked.carries {d e : Dev} (h : Linked d e) (i : Iface) (n : Nat) : e.carries i n = d.carries i n := by
  have hphy := nat_of_val h.phy
  have hx := h.crossings
  cases i <;> simp only [Dev.carries, Dev.linkLive, Dev.passes, Dev.rail, Dev.can5Active, h.clocks, hx 0x27 (by decide), hx 0x2A (by decide),
    hx 0x2C (by decide), h.power, h.can5, hphy]

/-- A message is answered on a device with the links of the admitted one. -/
theorem Linked.replied {s : State} {m : HostMsg} {e : Dev} {r : HostReply} (key : Nat) (hl : Linked (s.dev.admitted m) e) (h : s.dev.hears m = true)
    (hlen : m.iface ≠ .can5 ∨ (replyParts r).2.2.2.2.length ≤ 44) :
    Replied s { s with dev := e.answer ((s.dev.admitted m).ackOf m key) r } m r ∧
      ∀ x : Part, x ≠ .hosts → x ≠ .out → x.same e (e.answer ((s.dev.admitted m).ackOf m key) r) := by
  have hs : ∀ x, e.slot x = (s.dev.admitted m).slot x := fun x => by simp only [Dev.slot, hl.slots]
  have hreg : (e.slot m.slot).registered = true := (hs _).symm ▸ admitted_slot_registered h
  have htx : (e.slot m.slot).txSeq = (s.dev.slot m.slot).txSeq := by rw [hs, admitted_slot_txSeq h]
  have hkey : (e.slot m.slot).sessionKey = (s.dev.slot m.slot).sessionKey := by rw [hs, admitted_slot_key h]
  have hc : e.carries m.iface (replyParts r).2.2.2.2.length = true := by
    rw [hl.carries, admitted_carries]
    exact carries_of_heard h _ hlen
  have hout := Dev.out_answer e ((s.dev.admitted m).ackOf m key) r hreg (by rw [hs]; rfl) hc
  refine ⟨?_, fun x h1 h2 => ?_⟩
  · simp only [Replied]
    rw [hout, List.getLast?_append]
    simp only [Dev.ackOf, htx, hkey, admitted_viaOf, Dev.reply, List.getLast?_singleton, Option.some_or]
  · by_cases h3 : x = .held
    · subst h3
      exact (Dev.held_answer e ((s.dev.admitted m).ackOf m key) r hc).symm
    · exact Dev.answer_same _ _ _ x h1 h2 h3

/-! ### What a refused grant leaves (11 R282) -/

section
variable (d : Dev) (p : PortId)

theorem canOf_linked (st : CanState) : Linked d (d.canOf p st) := by
  have hk := Dev.canOf_keeps0 d p st
  have hh : (d.canOf p st).hosts.slots = d.hosts.slots ∧ (d.canOf p st).hosts.can[5] = d.hosts.can[5] := by
    unfold Dev.canOf
    split
    · refine ⟨rfl, ?_⟩
      exact Vector.getElem_set_ne (by omega) _ (by omega)
    · exact ⟨rfl, rfl⟩
  exact ⟨hk.get_clocks rfl, fun _ _ => by rw [hk.get_crossings rfl], hk.get_power rfl, hh.1, hh.2, val_of_obj (hk.get_obj rfl) _⟩

theorem beginSetup_linked : Linked d (d.beginSetup p) := by
  unfold Dev.beginSetup
  split
  · split
    · exact canOf_linked d p _
    · exact .refl d
  · split
    · exact .refl d
    · split
      · exact ⟨rfl, fun _ _ => rfl, rfl, rfl, rfl, rfl⟩
      · exact ⟨rfl, fun _ _ => rfl, rfl, rfl, rfl, rfl⟩

theorem enterIdentifying_linked : Linked d (d.enterIdentifying p) := by
  unfold Dev.enterIdentifying
  split
  · exact .refl d
  · dsimp only
    split
    · exact (⟨rfl, fun _ _ => rfl, rfl, rfl, rfl, rfl⟩ : Linked d (d.setPort p _)).trans (beginSetup_linked _ p)
    · exact ⟨rfl, fun _ _ => rfl, rfl, rfl, rfl, rfl⟩

theorem endSession_linked : Linked d (d.endSession p) := by
  have hk := Dev.endSession_keeps0 d p
  have hc := canOf_linked d p .off
  have hh : (d.endSession p).hosts = (d.canOf p .off).hosts := (Dev.putNat_hosts ..).trans ((Dev.putNat_hosts ..).trans rfl)
  have hv : (d.endSession p).val Key.eth0PhyFound = d.val Key.eth0PhyFound :=
    val_endSession d p (by simp only [Key.eth0PhyFound, Key.allocatedCurrent, ob]; omega) (by simp only [Key.eth0PhyFound, Key.evTargetVoltage, ob]; omega)
  exact ⟨hk.get_clocks rfl, fun _ _ => by rw [hk.get_crossings rfl], hk.get_power rfl, by rw [hh, hc.slots], by rw [hh, hc.can5], hv⟩

theorem eth0PhyFound_notin_endKeys : Key.eth0PhyFound ∉ endKeys p := by
  simp only [endKeys, Key.eth0PhyFound, Key.allocatedCurrent, Key.evTargetVoltage, Key.boundAccount, Key.boundSlot, Key.authPending,
    Key.creditState, ob, List.mem_cons, List.not_mem_nil, or_false]
  omega

theorem lapsed_linked (e : Dev) : Linked e (if (e.port p).opened then e else e.bindingLapsed p) := by
  split
  · exact .refl e
  · exact .of_keeps (Dev.bindingLapsed_keeps0 p e) (by decide) (val_bindingLapsed e p (eth0PhyFound_notin_endKeys p))

theorem enterEnded_linked (reason : Nat) : Linked d (d.enterEnded p reason) := by
  unfold Dev.enterEnded
  refine (endSession_linked d p).trans (Linked.trans ?_ (lapsed_linked p _))
  generalize d.endSession p = w
  refine (⟨rfl, fun _ _ => rfl, rfl, rfl, rfl, rfl⟩ : Linked w (w.setPort p fun q => { q with session := .ended, endReason := reason, evMatch := none })).trans ?_
  generalize (w.setPort p fun q => { q with session := .ended, endReason := reason, evMatch := none }) = u
  have hk := Dev.putNat_keeps0 u (Key.lastEndReason p) reason
  have hv : (u.putNat (Key.lastEndReason p) reason).val Key.eth0PhyFound = u.val Key.eth0PhyFound :=
    Dev.val_putNat_other _ _ (by simp only [Key.eth0PhyFound, Key.lastEndReason, ob]; omega)
  exact ⟨hk.get_clocks rfl, fun _ _ => by rw [hk.get_crossings rfl], hk.get_power rfl, by rw [← hk.get_hosts rfl], by rw [← hk.get_hosts rfl], hv⟩

theorem authPending_ne : Key.authPending p ≠ Key.creditState p ∧ Key.authPending p ≠ Key.boundAccount p ∧ Key.authPending p ≠ Key.boundSlot p ∧
    Key.authPending p ≠ Key.lastEndReason p ∧ Key.authPending p ≠ Key.allocatedCurrent p ∧ Key.authPending p ≠ Key.evTargetVoltage p := by
  have := p.isLt
  simp only [Key.authPending, Key.creditState, Key.boundAccount, Key.boundSlot, Key.lastEndReason, Key.allocatedCurrent, Key.evTargetVoltage, ob]
  omega

/-- Of a port's bindings none has come: none that was posted, none in force. -/
structure Unbound (d e : Dev) (p : PortId) : Prop where
  posted : d.ledger.posted[p] = none → e.ledger.posted[p] = none
  bind : d.ledger.bind[p] = none → e.ledger.bind[p] = none

theorem Unbound.of_ledger {d e : Dev} {p : PortId} (h : e.ledger = d.ledger) : Unbound d e p :=
  ⟨fun hn => by rw [h, hn], fun hn => by rw [h, hn]⟩

theorem Unbound.trans {d e f : Dev} {p : PortId} (h : Unbound d e p) (h' : Unbound e f p) : Unbound d f p :=
  ⟨fun hn => h'.posted (h.posted hn), fun hn => h'.bind (h.bind hn)⟩

/-- No host is asked about the identity of a port. -/
structure Unasked (d : Dev) (p : PortId) : Prop where
  auth : d.ledger.auth[p] = none
  pending : d.nat (Key.authPending p) = 0

theorem unbind_leaves : (Unasked d p → Unasked (d.unbind p) p) ∧ Unbound d (d.unbind p) p := by
  obtain ⟨-, h2, h3, -⟩ := authPending_ne p
  unfold Dev.unbind
  split
  · exact ⟨id, .of_ledger rfl⟩
  · next h =>
    refine ⟨fun hu => ⟨?_, (nat_of_val ((Dev.val_putNat_other _ _ h3.symm).trans ((Dev.val_putNat_other _ _ h2.symm).trans rfl))).trans hu.pending⟩,
      ⟨fun hn => ?_, fun hn => absurd (hn.symm.trans h) (by simp)⟩⟩
    · rw [Dev.putNat_ledger, Dev.putNat_ledger]
      exact hu.auth
    · rw [Dev.putNat_ledger, Dev.putNat_ledger]
      exact hn

/-- The requests about a port's identity, dropped. -/
def identityDropped (d : Dev) (p : PortId) : Dev :=
  ({ d with ledger := { d.ledger with auth := d.ledger.auth.set p none, posted := d.ledger.posted.set p none } } : Dev).putNat (Key.authPending p) 0

theorem identityDropped_leaves : Unasked (identityDropped d p) p ∧ Unbound d (identityDropped d p) p := by
  have hl : (identityDropped d p).ledger = { d.ledger with auth := d.ledger.auth.set p none, posted := d.ledger.posted.set p none } :=
    Dev.putNat_ledger ..
  exact ⟨⟨by rw [hl]; exact Vector.getElem_set_self _, Dev.nat_putNat _ _ _⟩,
    ⟨fun _ => by rw [hl]; exact Vector.getElem_set_self _, fun hn => by rw [hl]; exact hn⟩⟩

/-- The hold of an account on an idle port, dropped. -/
def holdDropped (d : Dev) (p : PortId) : Dev :=
  (({ d with ledger := { d.ledger with held := d.ledger.held.set p none } } : Dev).putNat (Key.creditState p) 0).judgeLevel2 p

theorem holdDropped_leaves : (Unasked d p → Unasked (holdDropped d p) p) ∧ Unbound d (holdDropped d p) p := by
  obtain ⟨h1, -⟩ := authPending_ne p
  unfold holdDropped
  have hk := Dev.judgeLevel2_keeps0 (({ d with ledger := { d.ledger with held := d.ledger.held.set p none } } : Dev).putNat (Key.creditState p) 0) p
  have hl := (hk.get_ledger rfl).trans (Dev.putNat_ledger ({ d with ledger := { d.ledger with held := d.ledger.held.set p none } } : Dev) (Key.creditState p) 0)
  have hv := (val_of_obj (hk.get_obj rfl) (Key.authPending p)).trans
    (Dev.val_putNat_other ({ d with ledger := { d.ledger with held := d.ledger.held.set p none } } : Dev) 0 h1.symm)
  exact ⟨fun hu => ⟨by rw [hl]; exact hu.auth, (nat_of_val hv).trans hu.pending⟩, ⟨fun hn => by rw [hl]; exact hn, fun hn => by rw [hl]; exact hn⟩⟩

theorem bindingLapsed_eq : d.bindingLapsed p =
    if (if (identityDropped d p).energy.sessions[p].isNone then (identityDropped d p).unbind p else identityDropped d p).ports[p].session = .idle then
      holdDropped (if (identityDropped d p).energy.sessions[p].isNone then (identityDropped d p).unbind p else identityDropped d p) p
    else if (identityDropped d p).energy.sessions[p].isNone then (identityDropped d p).unbind p else identityDropped d p := rfl

/-- A binding that lapses leaves no host asked. -/
theorem bindingLapsed_leaves : Unasked (d.bindingLapsed p) p ∧ Unbound d (d.bindingLapsed p) p := by
  obtain ⟨hw, hwb⟩ := identityDropped_leaves d p
  rw [bindingLapsed_eq]
  generalize identityDropped d p = w at hw hwb ⊢
  have hu : Unasked (if w.energy.sessions[p].isNone then w.unbind p else w) p ∧ Unbound d (if w.energy.sessions[p].isNone then w.unbind p else w) p := by
    split
    · exact ⟨(unbind_leaves w p).1 hw, hwb.trans (unbind_leaves w p).2⟩
    · exact ⟨hw, hwb⟩
  generalize (if w.energy.sessions[p].isNone then w.unbind p else w) = u at hu ⊢
  split
  · exact ⟨(holdDropped_leaves u p).1 hu.1, hu.2.trans (holdDropped_leaves u p).2⟩
  · exact hu

/-- A port that ends is asked about no more than before. -/
theorem enterEnded_asked (reason : Nat) : (Unasked d p → Unasked (d.enterEnded p reason) p) ∧ Unbound d (d.enterEnded p reason) p := by
  obtain ⟨-, -, -, h4, h5, h6⟩ := authPending_ne p
  have hval := val_endSession d p h5 h6
  have hel := (Dev.endSession_keeps0 d p).get_ledger rfl
  unfold Dev.enterEnded
  dsimp only
  generalize d.endSession p = w at hval hel
  generalize hx : (Dev.putNat (w.setPort p fun q => { q with session := .ended, endReason := reason, evMatch := none }) (Key.lastEndReason p) reason) = x
  have hxl : x.ledger = d.ledger := by
    rw [← hx, Dev.putNat_ledger, ← hel]
    rfl
  have hxn : x.nat (Key.authPending p) = d.nat (Key.authPending p) := by
    rw [← hx]
    exact nat_of_val ((Dev.val_putNat_other _ _ h4.symm).trans (Eq.trans rfl hval))
  generalize hy : ({ x with site := { x.site with allocateNow := true } } : Dev) = y
  have hyl : y.ledger = d.ledger := by rw [← hy]; exact hxl
  have hyn : y.nat (Key.authPending p) = d.nat (Key.authPending p) := by rw [← hy]; exact hxn
  split
  · exact ⟨fun h => ⟨by rw [hyl, h.auth], hyn.trans h.pending⟩, .of_ledger hyl⟩
  · exact ⟨fun _ => (bindingLapsed_leaves y p).1, (Unbound.of_ledger hyl).trans (bindingLapsed_leaves y p).2⟩

/-- The session that ended because its grant was refused. -/
def GrantRefused (d : Dev) (p : PortId) : Prop := (d.port p).session = .ended ∧ d.nat (Key.lastEndReason p) = 6

/-- A refused grant: its port is ENDED with reason 6, and nothing waits for it any more. -/
theorem refuseGrant_leaves : GrantRefused (d.refuseGrant p) p ∧ (Unasked d p → Unasked (d.refuseGrant p) p) ∧ Unbound d (d.refuseGrant p) p ∧
    Linked d (d.refuseGrant p) ∧ Keeps 2838534 d (d.refuseGrant p) := by
  obtain ⟨⟨b, hb⟩, -⟩ := enterEnded_port d p 6
  obtain ⟨hu, hbind⟩ := enterEnded_asked d p 6
  have hr := enterEnded_reason d p 6
  have hl := enterEnded_linked d p 6
  have hk := Dev.refuseGrant_keeps0 d p
  unfold Dev.refuseGrant at *
  generalize d.enterEnded p 6 = w at *
  have hs := Dev.settle_keeps0 w
  refine ⟨⟨?_, (nat_settle w _).trans hr⟩, fun h => ?_, hbind.trans (.of_ledger (hs.get_ledger rfl)), hl.trans (.of_keeps hs (by decide) (val_settle w _)), hk⟩
  · rw [read_settle Port.session (fun _ _ => rfl), hb]
  · exact ⟨by rw [hs.get_ledger rfl, (hu h).auth], (nat_settle w _).trans (hu h).pending⟩

end

/-! ### The local decision on a device that has admitted a message -/

/-- Objects outside the block of the hosts. -/
theorem windowOpen_congr {d e : Dev} (hv : ∀ k, 0x182000 ≤ k → e.val k = d.val k) (ht : e.time = d.time) (cls utc : Nat) :
    e.windowOpen cls utc = d.windowOpen cls utc := by
  have hn : ∀ k, 0x182000 ≤ k → e.nat k = d.nat k := fun k hk => nat_of_val (hv k hk)
  have hf : ∀ k, 0x182000 ≤ k → e.flag k = d.flag k := fun k hk => flag_of_val (hv k hk)
  have hi : ∀ k, 0x182000 ≤ k → e.int k = d.int k := fun k hk => int_of_val (hv k hk)
  have hseason : e.seasonOn = d.seasonOn := by
    have hstart : e.seasonStart = d.seasonStart := funext fun i => by
      unfold Dev.seasonStart
      rw [hn _ (by simp only [Key.activeSeasonStartMonth, ob]; omega), hn _ (by simp only [Key.activeSeasonStartDay, ob]; omega)]
    unfold Dev.seasonOn
    rw [hstart]
  have hspecial : e.specials = d.specials := by
    unfold Dev.specials
    rw [hn _ (by decide)]
    exact List.map_congr_left fun i _ => by rw [hn _ (by simp only [Key.activeSpecialDay, ob]; omega)]
  have hday : e.dayProfileOf = d.dayProfileOf := funext fun z => by
    unfold Dev.dayProfileOf
    rw [hseason, hspecial]
    dsimp only
    rw [hn (Key.activeSeasonWeekProfile _) (by simp only [Key.activeSeasonWeekProfile, ob]; omega),
      hn (Key.activeWeekDayProfile _ _) (by simp only [Key.activeWeekDayProfile, ob]; omega)]
  have hlocal : e.localOf = d.localOf := funext fun u => by
    unfold Dev.localOf
    rw [hi _ (by decide)]
  unfold Dev.windowOpen
  rw [hday, hlocal, ht]
  have h1 : ∀ w, e.flag (Key.windowEnable w) = d.flag (Key.windowEnable w) := fun w => hf _ (by simp only [Key.windowEnable, ob]; omega)
  have h2 : ∀ w, e.nat (Key.classMask w) = d.nat (Key.classMask w) := fun w => hn _ (by simp only [Key.classMask, ob]; omega)
  have h3 : ∀ w, e.nat (Key.windowStart w) = d.nat (Key.windowStart w) := fun w => hn _ (by simp only [Key.windowStart, ob]; omega)
  have h4 : ∀ w, e.nat (Key.windowEnd w) = d.nat (Key.windowEnd w) := fun w => hn _ (by simp only [Key.windowEnd, ob]; omega)
  have h5 : ∀ w, e.nat (Key.dayMask w) = d.nat (Key.dayMask w) := fun w => hn _ (by simp only [Key.dayMask, ob]; omega)
  simp only [h1, h2, h3, h4, h5]

theorem available_congr {d e : Dev} (h : e.ledger = d.ledger) (ents : Vector Entity 9) (slot : Nat) : e.available ents slot = d.available ents slot := by
  unfold Dev.available Dev.acct Dev.boundPorts Dev.sessionCost
  rw [h]

section
variable (d : Dev) (m : HostMsg)

theorem grantsStopped_admitted : (d.admitted m).grantsStopped = d.grantsStopped := by
  have hpart : ∀ x : Part, x ≠ .hosts → x ≠ .obj → x.same d (d.admitted m) := fun x h1 h2 => Dev.admitted_same d m x h1 h2
  have hpower : (d.admitted m).power = d.power := (hpart .power (by decide) (by decide)).symm
  have hms : (d.admitted m).nowMs = d.nowMs := congrArg Dict.tick (hpart .dict (by decide) (by decide)).symm
  have hrun : (d.admitted m).update = d.update := (hpart .update (by decide) (by decide)).symm
  have hrec : (d.admitted m).unreconciled = d.unreconciled := by
    unfold Dev.unreconciled
    rw [← show d.heart = _ from hpart .heart (by decide) (by decide), admitted_nat_far (.inr (by decide))]
  unfold Dev.grantsStopped Dev.rail
  rw [burlUp_congr d hpower (hpart .cores (by decide) (by decide)).symm, hpower, hms, hrun, hrec,
    flag_of_val (Dev.val_admitted_far d m (k := Key.reconcileGuard) (.inr (by decide)))]

theorem localGrant_admitted (slot : Nat) (a : Account) : (d.admitted m).localGrant slot a = d.localGrant slot a := by
  have hpart : ∀ x : Part, x ≠ .hosts → x ≠ .obj → x.same d (d.admitted m) := fun x h1 h2 => Dev.admitted_same d m x h1 h2
  have hledger := admitted_ledger d m
  have htime : (d.admitted m).time = d.time := (hpart .time (by decide) (by decide)).symm
  have hpower : (d.admitted m).power = d.power := (hpart .power (by decide) (by decide)).symm
  have hfar : ∀ k, 0x182000 ≤ k → (d.admitted m).val k = d.val k := fun k hk => Dev.val_admitted_far d m (.inr hk)
  have hents : (d.admitted m).committedEnts = d.committedEnts := by
    unfold Dev.committedEnts
    rw [← show d.energy = _ from hpart .energy (by decide) (by decide)]
  have hdebt : (d.admitted m).friendlyDebt a.friendlyClass = d.friendlyDebt a.friendlyClass := by
    unfold Dev.friendlyDebt
    rw [nat_of_val (hfar _ (by simp only [Key.friendlyMaxDebt, ob]; omega))]
  have hlive : (d.admitted m).liveOf slot = d.liveOf slot := by
    unfold Dev.liveOf
    rw [hledger]
  unfold Dev.localGrant
  rw [hents, available_congr hledger, windowOpen_congr hfar htime, hdebt, hlive, grantsStopped_admitted, htime, hpower,
    flag_of_val (hfar Key.friendlyNewSessions (by decide)), nat_of_val (hfar Key.maxSessionsPerAccount (by decide)),
    int_of_val (hfar Key.minStartCredit (by decide))]

theorem waiting_admitted (p : PortId) : (d.admitted m).waiting p = d.waiting p := by
  have hledger := admitted_ledger d m
  have hport : (d.admitted m).port p = d.port p :=
    port_of_ports (Dev.admitted_same d m .ports (by decide) (by decide)).symm p
  unfold Dev.waiting Dev.mode
  rw [hledger, hport, admitted_nat_far (k := Key.authModes p) (.inr (by simp only [Key.authModes, ob]; omega)),
    admitted_nat_far (k := Key.portMode p) (.inr (by simp only [Key.portMode, ob]; omega))]

end

/-! ### Identities (11 R282, R283, R501) -/

/-- A binding posted for a port, or taken back. -/
def Posts (p : PortId) (x : Option (Nat × Nat)) (s t : State) : Prop :=
  t.dev.ledger = { s.dev.ledger with posted := s.dev.ledger.posted.set p x, auth := t.dev.ledger.auth }

/-- The parts that an identity may touch. -/
def identityParts : List Part := [.out, .obj, .hosts, .heart, .ports, .site, .safety, .energy, .ledger]

theorem identify_granted {d : Dev} {p : PortId} {slot : Nat} {a : Account} (hs : (d.port p).session = .identifying) (hg : d.localGrant slot a = true) :
    d.identify p (some (slot, a)) = if d.nat Key.hostAuthMode = 0 then d.setPosted p (some (slot, a.number))
      else (d.setAuth p (some ⟨slot, a.number, d.nowMs + d.nat Key.hostAuthTimeoutMs⟩)).putNat (Key.authPending p) a.number := by
  unfold Dev.identify
  dsimp only
  rw [if_neg (c := (d.port p).session = .ended) (by rw [hs]; decide), if_neg (by simp [hg])]

theorem externalId_served {s : State} {m : HostMsg} {p : PortId} {data : Bytes} {n : Int} (h : s.dev.grants m = true)
    (ht : takes (Key.externalId p) data = true) (hv : sentValue (Key.externalId p) data = .int n) (hw : s.dev.waiting p = true) :
    exec (.externalId m p data) s =
      .next { s with dev := Dev.ok ((s.dev.admitted m).identify p (s.dev.findNumber n.toNat)) ((s.dev.admitted m).ackOf m (Key.externalId p)) } := by
  have hfind : (s.dev.admitted m).findNumber n.toNat = s.dev.findNumber n.toNat := by
    unfold Dev.findNumber
    rw [admitted_ledger]
  show State.onDev s _ = _
  rw [State.onDev, cmdWrite_granted h ht, hv]
  unfold externalIdServe
  rw [if_neg (by rw [waiting_admitted, hw]; decide)]
  dsimp only
  rw [hfind]

/-- EXTERNAL_ID that the local decision grants. -/
theorem externalId_granted (s : State) (m : HostMsg) (p : PortId) (data : Bytes) (n : Int) (slot : Nat) (a : Account) (h : s.dev.grants m = true)
    (ht : takes (Key.externalId p) data = true) (hv : sentValue (Key.externalId p) data = .int n) (hw : s.dev.waiting p = true)
    (hs : (s.dev.port p).session = .identifying) (hf : s.dev.findNumber n.toNat = some (slot, a)) (hg : s.dev.localGrant slot a = true) :
    Completes (.externalId m p data) s fun t =>
      (if s.dev.nat Key.hostAuthMode = 0 then Posts p (some (slot, a.number)) s t ∧ t.dev.ledger.auth = s.dev.ledger.auth
      else t.dev.ledger = { s.dev.ledger with
          auth := s.dev.ledger.auth.set p (some ⟨slot, a.number, s.dev.nowMs + s.dev.nat Key.hostAuthTimeoutMs⟩) } ∧
        t.dev.nat (Key.authPending p) = a.number) ∧ Served m (.done (Key.externalId p)) [.ledger] [Key.authPending p] s t := by
  have hex := externalId_served h ht hv hw
  have hport : (s.dev.admitted m).port p = s.dev.port p := port_of_ports (Dev.admitted_same s.dev m .ports (by decide) (by decide)).symm p
  have hledger := admitted_ledger s.dev m
  have hms : (s.dev.admitted m).nowMs = s.dev.nowMs := congrArg Dict.tick (admitted_dict s.dev m)
  have hphy : Key.eth0PhyFound ∉ [Key.authPending p] := by
    simp only [Key.eth0PhyFound, Key.authPending, ob, List.mem_cons, List.not_mem_nil, or_false]
    omega
  rw [hf, identify_granted (by rw [hport, hs]) (by rw [localGrant_admitted, hg]), admitted_nat_far (.inr (by decide)), hms,
    admitted_nat_far (.inr (by decide))] at hex
  have hserved := fun (e : Dev) (hk : Keeps 2097156 (s.dev.admitted m) e) (hk' : ∀ k, k ∉ [Key.authPending p] → e.val k = (s.dev.admitted m).val k) =>
    served_ok (M := 2097156) (parts := [.ledger]) (Key.externalId p) (grants_iff.1 h).1 hk (by decide) (by decide) hk' hphy
  have hled : ∀ e : Dev, (e.ok ((s.dev.admitted m).ackOf m (Key.externalId p))).ledger = e.ledger := fun e => (Dev.ok_keeps0 e _).get_ledger rfl
  refine ⟨_, hex, ?_, ?_⟩
  · split
    · refine ⟨?_, ?_⟩
      · unfold Posts
        dsimp only
        rw [hled]
        simp only [Dev.setPosted, hledger]
      · dsimp only
        rw [hled]
        simp only [Dev.setPosted, hledger]
    · refine ⟨?_, (nat_of_val (Dev.val_answer _ _ _ _)).trans (Dev.nat_putNat _ _ _)⟩
      dsimp only
      rw [hled, Dev.putNat_ledger]
      simp only [Dev.setAuth, hledger]
  · split
    · exact hserved _ ((Dev.setPosted_keeps0 _ _ _).mono (by decide)) fun _ _ => rfl
    · refine hserved _ (Dev.putNat_keeps _ _ _ (by decide) ((Dev.setAuth_keeps0 _ _ _).mono (by decide))) fun k hk => ?_
      exact (Dev.val_putNat_other _ _ (by simpa using Ne.symm (by simpa using hk))).trans rfl

/-- A grant refused on the device that has admitted a message. -/
theorem refused_replied {s : State} {m : HostMsg} (key : Nat) (p : PortId) (d : Dev) (hl : Linked (s.dev.admitted m) d)
    (hk : Keeps 2838534 (s.dev.admitted m) d) (h : s.dev.hears m = true) :
    Replied s { s with dev := Dev.ok (d.refuseGrant p) ((s.dev.admitted m).ackOf m key) } m (.done key) ∧
      Within identityParts s { s with dev := Dev.ok (d.refuseGrant p) ((s.dev.admitted m).ackOf m key) } ∧
      GrantRefused (Dev.ok (d.refuseGrant p) ((s.dev.admitted m).ackOf m key)) p ∧
      (Unasked d p → Unasked (Dev.ok (d.refuseGrant p) ((s.dev.admitted m).ackOf m key)) p) := by
  obtain ⟨⟨h1, h2⟩, hun, -, hlink, hkeep⟩ := refuseGrant_leaves d p
  generalize d.refuseGrant p = w at *
  obtain ⟨hreply, hsame⟩ := (hl.trans hlink).replied (r := .done key) key h (.inr (by simp [replyParts]))
  have hok := Dev.ok_keeps0 w ((s.dev.admitted m).ackOf m key)
  have hval : ∀ k, (w.ok ((s.dev.admitted m).ackOf m key)).nat k = w.nat k := fun k => nat_of_val (Dev.val_answer _ _ _ _)
  refine ⟨hreply, ⟨rfl, rfl, rfl, fun x hx => ?_⟩, ⟨?_, (hval _).trans h2⟩, fun hu => ?_⟩
  · have hm : ∀ y : Part, y ∉ identityParts → y.same (s.dev.admitted m) w := fun y hy =>
      ((hk.trans hkeep).mono (by decide : (2838534 : Nat) ||| Part.mask identityParts = _)) y (Part.mask_testBit _ y hy)
    have hne : ∀ y ∈ identityParts, x ≠ y := fun y hy he => hx (he ▸ hy)
    exact Part.same_trans (Dev.admitted_same s.dev m x (hne _ (by decide)) (hne _ (by decide)))
      (Part.same_trans (hm x hx) (hsame x (hne _ (by decide)) (hne _ (by decide))))
  · rw [port_of_ports (hok.get_ports rfl), h1]
  · exact ⟨by rw [hok.get_ledger rfl, (hun hu).auth], (hval _).trans (hun hu).pending⟩

/-- EXTERNAL_ID of no account. -/
theorem externalId_unknown (s : State) (m : HostMsg) (p : PortId) (data : Bytes) (n : Int) (h : s.dev.grants m = true)
    (ht : takes (Key.externalId p) data = true) (hv : sentValue (Key.externalId p) data = .int n) (hw : s.dev.waiting p = true)
    (hf : s.dev.findNumber n.toNat = none) :
    Completes (.externalId m p data) s fun t => GrantRefused t.dev p ∧ Replied s t m (.done (Key.externalId p)) ∧ Within identityParts s t := by
  have hex := externalId_served h ht hv hw
  rw [hf] at hex
  unfold Dev.identify at hex
  dsimp only at hex
  obtain ⟨hreply, hwithin, hend, -⟩ := refused_replied (s := s) (m := m) (Key.externalId p) p
    (if ((s.dev.admitted m).port p).session = .ended then (s.dev.admitted m).enterIdentifying p else s.dev.admitted m)
    (by
      split
      · exact enterIdentifying_linked _ p
      · exact .refl _)
    (by
      split
      · exact (Dev.enterIdentifying_keeps0 _ p).mono (by decide)
      · exact .refl _ _)
    (grants_iff.1 h).1
  exact ⟨_, hex, hend, hreply, hwithin⟩

/-- EXTERNAL_ID for a port that does not wait. -/
theorem externalId_refused (s : State) (m : HostMsg) (p : PortId) (data : Bytes) (h : s.dev.grants m = true)
    (ht : takes (Key.externalId p) data = true) (hw : s.dev.waiting p = false) :
    Completes (.externalId m p data) s fun t => Served m (.abort Code.notClearing (Key.externalId p)) [] abortKeys s t := by
  have hex : exec (.externalId m p data) s =
      .next { s with dev := Dev.abort (s.dev.admitted m) ((s.dev.admitted m).ackOf m (Key.externalId p)) Code.notClearing } := by
    show State.onDev s _ = _
    rw [State.onDev, cmdWrite_granted h ht]
    unfold externalIdServe
    rw [if_pos (by rw [waiting_admitted, hw]; decide)]
  exact ⟨_, hex, served_abort_nil _ _ (grants_iff.1 h).1⟩

/-! ### The host's answer (11 R283) -/

/-- An identity that no host is asked about any more. -/
def answered (d : Dev) (p : PortId) : Dev := (d.setAuth p none).putNat (Key.authPending p) 0

theorem answered_leaves (d : Dev) (p : PortId) : (answered d p).nat (Key.authPending p) = 0 ∧
    (answered d p).ledger = { d.ledger with auth := d.ledger.auth.set p none } ∧ (∀ k, k ≠ Key.authPending p → (answered d p).val k = d.val k) ∧
    Keeps 2097156 d (answered d p) :=
  ⟨Dev.nat_putNat _ _ _, Dev.putNat_ledger _ _ _, fun _ hk => (Dev.val_putNat_other _ _ (Ne.symm hk)).trans rfl,
    Dev.putNat_keeps _ _ _ (by decide) ((Dev.setAuth_keeps0 _ _ _).mono (by decide))⟩

theorem answered_unasked (d : Dev) (p : PortId) : Unasked (answered d p) p := by
  obtain ⟨h1, h2, -⟩ := answered_leaves d p
  exact ⟨by rw [h2]; exact Vector.getElem_set_self _, h1⟩

theorem answered_linked (d : Dev) (p : PortId) : Linked d (answered d p) :=
  .of_keeps (answered_leaves d p).2.2.2 (by decide) ((answered_leaves d p).2.2.1 _ (by simp only [Key.eth0PhyFound, Key.authPending, ob]; omega))

/-- AUTH_ANSWER for a port that waits for it. -/
theorem authAnswer_taken (s : State) (m : HostMsg) (p : PortId) (data : Bytes) (r : AuthRun) (h : s.dev.grants m = true)
    (ht : takes (Key.authAnswer p) data = true) (ha : s.dev.ledger.auth[p] = some r) :
    Completes (.authAnswer m p data) s fun t =>
      t.dev.nat (Key.authPending p) = 0 ∧ t.dev.ledger.auth[p] = none ∧ Replied s t m (.done (Key.authAnswer p)) ∧
      (if sentValue (Key.authAnswer p) data = .int 1 then Posts p (some (r.slot, r.account)) s t ∧ Within [.out, .obj, .hosts, .ledger] s t
      else GrantRefused t.dev p ∧ Within identityParts s t) := by
  have hledger := admitted_ledger s.dev m
  have hun := answered_unasked (s.dev.admitted m) p
  have hlink := answered_linked (s.dev.admitted m) p
  obtain ⟨-, hal, hav, hak⟩ := answered_leaves (s.dev.admitted m) p
  have hserve : authAnswerServe p ((s.dev.admitted m).ackOf m (Key.authAnswer p)) (sentValue (Key.authAnswer p) data) (s.dev.admitted m) =
      if sentValue (Key.authAnswer p) data = .int 1 then ((answered (s.dev.admitted m) p).setPosted p (some (r.slot, r.account))).ok ((s.dev.admitted m).ackOf m (Key.authAnswer p))
      else ((answered (s.dev.admitted m) p).refuseGrant p).ok ((s.dev.admitted m).ackOf m (Key.authAnswer p)) := by
    unfold authAnswerServe
    rw [hledger, ha]
    rfl
  have hex : exec (.authAnswer m p data) s = .next { s with dev := authAnswerServe p ((s.dev.admitted m).ackOf m (Key.authAnswer p)) (sentValue (Key.authAnswer p) data) (s.dev.admitted m) } := by
    show State.onDev s _ = _
    rw [State.onDev, cmdWrite_granted h ht]
  rw [hserve] at hex
  generalize answered (s.dev.admitted m) p = w at *
  by_cases hv : sentValue (Key.authAnswer p) data = .int 1
  · rw [if_pos hv] at hex
    have hpk := Dev.setPosted_keeps0 w p (some (r.slot, r.account))
    have hphy : Key.eth0PhyFound ∉ [Key.authPending p] := by
      simp only [Key.eth0PhyFound, Key.authPending, ob, List.mem_cons, List.not_mem_nil, or_false]
      omega
    obtain ⟨hreply, ⟨hp, hm, hs, hparts, -⟩, -⟩ := served_ok (M := 2097156) (parts := [.ledger]) (keys := [Key.authPending p]) (Key.authAnswer p) (grants_iff.1 h).1
      (hak.trans (hpk.mono (by decide))) (by decide) (by decide) (fun k hk => Eq.trans rfl (hav k (by simpa using hk))) hphy
    have hol := (Dev.ok_keeps0 (w.setPosted p (some (r.slot, r.account))) ((s.dev.admitted m).ackOf m (Key.authAnswer p))).get_ledger rfl
    refine ⟨_, hex, (nat_of_val (Dev.val_answer _ _ _ _)).trans hun.pending, ?_, hreply, ?_⟩
    · dsimp only
      rw [hol]
      exact hun.auth
    · rw [if_pos hv]
      refine ⟨?_, hp, hm, hs, fun x hx => ?_⟩
      · unfold Posts
        dsimp only
        rw [hol]
        unfold Dev.setPosted
        dsimp only
        rw [hal, hledger]
      · simp only [List.mem_cons, List.not_mem_nil, or_false, not_or] at hx
        obtain ⟨n1, n2, n3, n4⟩ := hx
        exact hparts x n2 (by simp [n1, n3, n4])
  · rw [if_neg hv] at hex
    obtain ⟨hreply, hwithin, hend, hasked⟩ := refused_replied (s := s) (m := m) (Key.authAnswer p) p w hlink (hak.mono (by decide)) (grants_iff.1 h).1
    refine ⟨_, hex, (hasked hun).pending, (hasked hun).auth, hreply, ?_⟩
    rw [if_neg hv]
    exact ⟨hend, hwithin⟩

/-- HOST_AUTH_TIMEOUT. -/
theorem hostAuthTimeout_leaves (s : State) (p : PortId) (r : AuthRun) (hu : s.dev.sequencerUp = true) (ha : s.dev.ledger.auth[p] = some r)
    (hd : r.deadline ≤ s.dev.nowMs) :
    Completes (.hostAuthTimeout p) s fun t =>
      t.dev.nat (Key.authPending p) = 0 ∧ t.dev.ledger.auth[p] = none ∧
      (if s.dev.nat Key.hostAuthMode = 2 then GrantRefused t.dev p else Posts p (some (r.slot, r.account)) s t) ∧ Within identityParts s t := by
  have hun := answered_unasked s.dev p
  obtain ⟨-, hal, hav, hak⟩ := answered_leaves s.dev p
  have hmode : (answered s.dev p).nat Key.hostAuthMode = s.dev.nat Key.hostAuthMode :=
    nat_of_val (hav _ (by simp only [Key.hostAuthMode, Key.authPending, ob]; omega))
  have hex : exec (.hostAuthTimeout p) s = .next { s with dev := if (answered s.dev p).nat Key.hostAuthMode = 2 then (answered s.dev p).refuseGrant p else (answered s.dev p).setPosted p (some (r.slot, r.account)) } := by
    show State.onDev s _ = _
    rw [State.onDev, hostAuthTimeout, ha]
    dsimp only
    rw [if_pos ⟨hu, hd⟩]
    rfl
  rw [hmode] at hex
  generalize answered s.dev p = w at *
  by_cases hm : s.dev.nat Key.hostAuthMode = 2
  · rw [if_pos hm] at hex
    obtain ⟨hend, hasked, -, -, hk⟩ := refuseGrant_leaves w p
    refine ⟨_, hex, (hasked hun).pending, (hasked hun).auth, ?_, ((hak.mono (by decide)).trans hk).within (by decide)⟩
    rw [if_pos hm]
    exact hend
  · rw [if_neg hm] at hex
    refine ⟨_, hex, hun.pending, hun.auth, ?_, (hak.trans ((Dev.setPosted_keeps0 _ _ _).mono (by decide))).within (by decide)⟩
    rw [if_neg hm]
    unfold Posts Dev.setPosted
    dsimp only
    rw [hal]

/-! ### Bindings (11 R284; 12 R323) -/

/-- The post taken and the command named. -/
def postTaken (d : Dev) (p : PortId) : Dev := (d.setPosted p none).putNat Key.lastLegalCode 0x13

theorem postTaken_leaves (d : Dev) (p : PortId) : (postTaken d p).ledger = { d.ledger with posted := d.ledger.posted.set p none } ∧
    (∀ k, k ≠ Key.lastLegalCode → (postTaken d p).val k = d.val k) ∧ Keeps 2097156 d (postTaken d p) :=
  ⟨Dev.putNat_ledger _ _ _, fun _ hk => (Dev.val_putNat_other _ _ (Ne.symm hk)).trans rfl,
    Dev.putNat_keeps _ _ _ (by decide) ((Dev.setPosted_keeps0 _ _ _).mono (by decide))⟩

/-- The binding in force. -/
def bindingTaken (d : Dev) (p : PortId) (slot account : Nat) : Dev :=
  ((({ d with ledger := { d.ledger with bind := d.ledger.bind.set p (some ⟨slot, account, 0, none, none, false⟩), held := d.ledger.held.set p none } } : Dev).putNat
    (Key.boundAccount p) account).putNat (Key.boundSlot p) slot).putNat (Key.creditState p) 0

theorem bound_keys (p : PortId) : Key.boundAccount p ≠ Key.boundSlot p ∧ Key.boundAccount p ≠ Key.creditState p ∧ Key.boundSlot p ≠ Key.creditState p ∧
    Key.boundAccount p ≠ Key.creditAvailable p ∧ Key.boundSlot p ≠ Key.creditAvailable p := by
  simp only [Key.boundAccount, Key.boundSlot, Key.creditState, Key.creditAvailable, ob]
  omega

/-- The account and its slot shown as bound to a port. -/
def BoundTo (p : PortId) (slot account : Nat) (d : Dev) : Prop := d.nat (Key.boundAccount p) = account ∧ d.nat (Key.boundSlot p) = slot

theorem BoundTo.of_val {p : PortId} {slot account : Nat} {d e : Dev} (h : BoundTo p slot account d) (h1 : e.val (Key.boundAccount p) = d.val (Key.boundAccount p))
    (h2 : e.val (Key.boundSlot p) = d.val (Key.boundSlot p)) : BoundTo p slot account e := ⟨(nat_of_val h1).trans h.1, (nat_of_val h2).trans h.2⟩

theorem bindingTaken_leaves (d : Dev) (p : PortId) (slot account : Nat) :
    (bindingTaken d p slot account).ledger.bind[p] = some ⟨slot, account, 0, none, none, false⟩ ∧ (bindingTaken d p slot account).ledger.posted = d.ledger.posted ∧
      BoundTo p slot account (bindingTaken d p slot account) ∧ Keeps 2097156 d (bindingTaken d p slot account) := by
  obtain ⟨h1, h2, h3, -⟩ := bound_keys p
  unfold bindingTaken
  generalize hv : ({ d with ledger := { d.ledger with bind := d.ledger.bind.set p (some ⟨slot, account, 0, none, none, false⟩), held := d.ledger.held.set p none } } : Dev) = v
  have hvl : v.ledger.bind[p] = some ⟨slot, account, 0, none, none, false⟩ ∧ v.ledger.posted = d.ledger.posted := by
    rw [← hv]
    exact ⟨Vector.getElem_set_self _, rfl⟩
  have hvk : Keeps 2097156 d v := by
    rw [← hv]
    intro x hx
    cases x with
    | ledger => exact absurd hx (by decide)
    | _ => rfl
  refine ⟨?_, ?_, ⟨?_, ?_⟩, Dev.putNat_keeps _ _ _ (by decide) (Dev.putNat_keeps _ _ _ (by decide) (Dev.putNat_keeps _ _ _ (by decide) hvk))⟩
  · rw [Dev.putNat_ledger, Dev.putNat_ledger, Dev.putNat_ledger]
    exact hvl.1
  · rw [Dev.putNat_ledger, Dev.putNat_ledger, Dev.putNat_ledger]
    exact hvl.2
  · exact (nat_of_val ((Dev.val_putNat_other _ _ h2.symm).trans (Dev.val_putNat_other _ _ h1.symm))).trans (Dev.nat_putNat _ _ _)
  · exact (nat_of_val (Dev.val_putNat_other _ _ h3.symm)).trans (Dev.nat_putNat _ _ _)

/-- The credit of a session that has not opened its record. -/
theorem setCredit_fresh (d : Dev) (p : PortId) (avail : Int) (account cls utc slot n : Nat) (hb : d.ledger.bind[p] = some ⟨slot, n, 0, none, none, false⟩) :
    (d.setCredit p avail account cls utc).ledger = d.ledger ∧ d.PortOnly p (d.setCredit p avail account cls utc) ∧
      ((d.setCredit p avail account cls utc).port p).session = (d.port p).session ∧
      (∀ k, k ≠ Key.creditState p → k ≠ Key.creditAvailable p → (d.setCredit p avail account cls utc).val k = d.val k) := by
  unfold Dev.setCredit
  dsimp only
  generalize d.creditOf (d.nat (Key.creditState p)) avail cls utc = st
  generalize hw : (d.putInt (Key.creditAvailable p) avail).putNat (Key.creditState p) st = w
  have hwl : w.ledger = d.ledger := by rw [← hw, Dev.putNat_ledger, Dev.putInt_ledger]
  have hwp : w.ports = d.ports := by rw [← hw, Dev.putNat_ports, Dev.putInt_ports]
  have hwv : ∀ k, k ≠ Key.creditState p → k ≠ Key.creditAvailable p → w.val k = d.val k := fun k h1 h2 => by
    rw [← hw]
    exact (Dev.val_putNat_other _ _ h1.symm).trans (Dev.val_putInt_other _ _ h2.symm)
  have hwb : w.ledger.bind[p] = some ⟨slot, n, 0, none, none, false⟩ := by rw [hwl, hb]
  rw [hwb]
  dsimp only
  rw [if_neg (by simp)]
  have hk := Dev.judgeLevel2_keeps0 w p
  obtain ⟨b, hports⟩ := judgeLevel2_ports w p
  refine ⟨(hk.get_ledger rfl).trans hwl, fun q hq => ?_, ?_, fun k h1 h2 => (val_of_obj (judgeLevel2_obj w p) k).trans (hwv k h1 h2)⟩
  · rw [port_of_ports hports, Dev.port_setPort_other _ _ hq, port_of_ports hwp]
  · rw [port_of_ports hports, Dev.port_setPort_same, port_of_ports hwp]

theorem enterAuthorised_leaves (d : Dev) (p : PortId) : ((d.enterAuthorised p).port p).session = .authorised ∧
    ((d.enterAuthorised p).port p).authorisedAt = d.nowMs ∧ d.PortOnly p (d.enterAuthorised p) := by
  unfold Dev.enterAuthorised
  dsimp only
  generalize hw : (d.setPort p fun q => { q with session := .authorised, authorisedAt := d.nowMs, allocChangedAt := 0, exportChangedAt := 0 }) = w
  have hp : w.port p = { d.port p with session := .authorised, authorisedAt := d.nowMs, allocChangedAt := 0, exportChangedAt := 0 } := by
    rw [← hw, Dev.port_setPort_same]
  have ho : d.PortOnly p w := hw ▸ portOnly_setPort _ _ _
  generalize hu : (({ w with site := { w.site with allocateNow := true } } : Dev).setPsafe p
    fun q => { q with isoPassed := false, authTick := Dev.tick7 { w with site := { w.site with allocateNow := true } } }) = u
  have hup : u.ports = w.ports := by rw [← hu]; rfl
  split
  · refine ⟨?_, ?_, (ho.trans (portOnly_of_ports hup)).trans (portOnly_setPort _ _ _)⟩
    · exact (congrArg Port.session (Dev.port_setPort_same u p _)).trans (by rw [port_of_ports hup, hp])
    · exact (congrArg Port.authorisedAt (Dev.port_setPort_same u p _)).trans (by rw [port_of_ports hup, hp])
  · refine ⟨by rw [port_of_ports hup, hp], by rw [port_of_ports hup, hp], ho.trans (portOnly_of_ports hup)⟩

/-- The binding of a sound record. -/
theorem binding_eq {d : Dev} {p : PortId} {slot account : Nat} {a : Account} (ht : d.heartwoodTakes = true) (hp : d.ledger.posted[p] = some (slot, account))
    (hs : (d.port p).session = .identifying) (ha : d.acct slot = some a) (hsound : a.sound = true) (hn : a.number = account) (hb : d.ledger.bind[p] = none)
    (hf : d.storeFits = true) : ∃ avail, d.binding p =
      (((bindingTaken (postTaken d p) p slot account).setCredit p avail account a.friendlyClass (bindingTaken (postTaken d p) p slot account).time.utcS).enterAuthorised p).settle := by
  obtain ⟨hl, -, hk⟩ := postTaken_leaves d p
  have hport : (postTaken d p).port p = d.port p := port_of_ports (hk.get_ports rfl) p
  have hacct : (postTaken d p).acct slot = d.acct slot := acct_of_ledger (by rw [hl]) slot
  have hbind : (postTaken d p).ledger.bind[p] = none := by rw [hl]; exact hb
  have hfits : (postTaken d p).storeFits = d.storeFits := by
    unfold Dev.storeFits Dev.slotFree
    rw [hl, hk.get_heart rfl]
  refine ⟨(bindingTaken (postTaken d p) p slot account).available (bindingTaken (postTaken d p) p slot account).committedEnts slot, ?_⟩
  unfold Dev.binding
  rw [hp]
  dsimp only
  rw [if_neg (by simp [ht])]
  rw [show (d.setPosted p none).putNat Key.lastLegalCode 0x13 = postTaken d p from rfl]
  rw [if_neg (by rw [hport, hs]; simp), hacct, ha]
  dsimp only
  rw [if_neg (by rw [hbind]; simp), if_neg (by simp [hsound, hn]), if_neg (by rw [hfits]; simp [hf])]
  rfl

/-- BINDING of a sound record. -/
theorem binding_taken (s : State) (p : PortId) (slot account : Nat) (a : Account) (ht : s.dev.heartwoodTakes = true)
    (hp : s.dev.ledger.posted[p] = some (slot, account)) (hs : (s.dev.port p).session = .identifying) (ha : s.dev.acct slot = some a) (hsound : a.sound = true)
    (hn : a.number = account) (hb : s.dev.ledger.bind[p] = none) (hf : s.dev.storeFits = true) :
    Completes (.binding p) s fun t =>
      t.dev.ledger.bind[p] = some ⟨slot, account, 0, none, none, false⟩ ∧ t.dev.ledger.posted[p] = none ∧
      (t.dev.port p).session = .authorised ∧ (t.dev.port p).authorisedAt = s.dev.nowMs ∧ t.dev.nat (Key.boundAccount p) = account ∧
      t.dev.nat (Key.boundSlot p) = slot ∧ OnlyPilots p s t ∧ Within identityParts s t := by
  have hex : exec (.binding p) s = .next { s with dev := s.dev.binding p } := rfl
  obtain ⟨avail, heq⟩ := binding_eq ht hp hs ha hsound hn hb hf
  have hk := Dev.binding_keeps0 p s.dev
  rw [heq] at hex hk
  obtain ⟨hpl, -, hpk⟩ := postTaken_leaves s.dev p
  have hpn : (postTaken s.dev p).ledger.posted[p] = none := by
    rw [hpl]
    exact Vector.getElem_set_self _
  generalize postTaken s.dev p = v at *
  obtain ⟨hbind, hposted, hbound, hbk⟩ := bindingTaken_leaves v p slot account
  generalize bindingTaken v p slot account = w at *
  obtain ⟨-, -, -, hne1, hne2⟩ := bound_keys p
  obtain ⟨-, hca, hsa, -⟩ := bound_keys p
  obtain ⟨hcl, hco, -, hcv⟩ := setCredit_fresh w p avail account a.friendlyClass w.time.utcS slot account hbind
  have hck := Dev.setCredit_keeps0 w p avail account a.friendlyClass w.time.utcS
  generalize w.setCredit p avail account a.friendlyClass w.time.utcS = x at *
  obtain ⟨hses, hat, heo⟩ := enterAuthorised_leaves x p
  have hek := Dev.enterAuthorised_keeps0 x p
  generalize x.enterAuthorised p = y at *
  have hsk := Dev.settle_keeps0 y
  have hyl : y.ledger = w.ledger := (hek.get_ledger rfl).trans hcl
  have hms : x.nowMs = s.dev.nowMs := congrArg Dict.tick ((hck.get_dict rfl).trans ((hbk.get_dict rfl).trans (hpk.get_dict rfl)))
  have hyb : BoundTo p slot account y.settle := (hbound.of_val (hcv _ hca hne1) (hcv _ hsa hne2)).of_val
    ((val_settle y _).trans (val_of_obj (hek.get_obj rfl) _)) ((val_settle y _).trans (val_of_obj (hek.get_obj rfl) _))
  have honly : s.dev.PortOnly p y := ((portOnly_of_ports ((hbk.get_ports rfl).trans (hpk.get_ports rfl))).trans hco).trans heo
  refine ⟨_, hex, ?_, ?_, ?_, ?_, hyb.1, hyb.2, onlyPilots_settle honly, hk.within (by decide)⟩
  · dsimp only
    rw [hsk.get_ledger rfl, hyl, hbind]
  · dsimp only
    rw [hsk.get_ledger rfl, hyl, hposted, hpn]
  · dsimp only
    rw [read_settle Port.session (fun _ _ => rfl), hses]
  · dsimp only
    rw [read_settle Port.authorisedAt (fun _ _ => rfl), hat, hms]

/-- BINDING of a record that is corrupt. -/
theorem binding_corrupt (s : State) (p : PortId) (slot account : Nat) (a : Account) (ht : s.dev.heartwoodTakes = true)
    (hp : s.dev.ledger.posted[p] = some (slot, account)) (hs : (s.dev.port p).session = .identifying) (ha : s.dev.acct slot = some a) (hsound : a.sound = false)
    (hb : s.dev.ledger.bind[p] = none) :
    Completes (.binding p) s fun t =>
      GrantRefused t.dev p ∧ t.dev.ledger.posted[p] = none ∧ t.dev.ledger.bind[p] = none ∧ Within identityParts s t := by
  have hex : exec (.binding p) s = .next { s with dev := s.dev.binding p } := rfl
  obtain ⟨hpl, -, hpk⟩ := postTaken_leaves s.dev p
  have hport : (postTaken s.dev p).port p = s.dev.port p := port_of_ports (hpk.get_ports rfl) p
  have hacct : (postTaken s.dev p).acct slot = s.dev.acct slot := acct_of_ledger (by rw [hpl]) slot
  have hbind : (postTaken s.dev p).ledger.bind[p] = none := by rw [hpl]; exact hb
  have hpost : (postTaken s.dev p).ledger.posted[p] = none := by
    rw [hpl]
    exact Vector.getElem_set_self _
  have heq : s.dev.binding p = ((postTaken s.dev p).ledgerCorrupt slot).refuseGrant p := by
    unfold Dev.binding
    rw [hp]
    dsimp only
    rw [if_neg (by simp [ht])]
    rw [show (s.dev.setPosted p none).putNat Key.lastLegalCode 0x13 = postTaken s.dev p from rfl]
    rw [if_neg (by rw [hport, hs]; simp), hacct, ha]
    dsimp only
    rw [if_neg (by rw [hbind]; simp), if_pos (by simp [hsound])]
  rw [heq] at hex
  generalize postTaken s.dev p = v at *
  have hlk := Dev.ledgerCorrupt_keeps0 v slot
  generalize v.ledgerCorrupt slot = w at *
  obtain ⟨hend, -, hun, -, hk⟩ := refuseGrant_leaves w p
  refine ⟨_, hex, hend, hun.posted (by rw [hlk.get_ledger rfl, hpost]), hun.bind (by rw [hlk.get_ledger rfl, hbind]), ?_⟩
  exact (((hpk.mono (by decide)).trans (hlk.mono (by decide))).trans (hk.mono (by decide)) : Keeps 2846726 _ _).within (by decide)

/-- SELECT_ACCOUNT waits for the boundary. -/
theorem selectAccount_waits (s : State) (m : HostMsg) (data : Bytes) (h : s.dev.grants m = true) (ht : takes Key.selectAccount data = true) :
    Completes (.selectAccount m data) s fun t =>
      t.dev.dict = { s.dev.dict with items := s.dev.dict.items ++
        [.write ((s.dev.admitted m).ackOf m Key.selectAccount) Key.selectAccount (sentValue Key.selectAccount data)] } ∧ t.dev.out = s.dev.out ∧
      Only [.dict, .hosts] (hostKeys m.slot) s t ∧ OnlySlot m.slot s t := by
  have hex : exec (.selectAccount m data) s =
      .next { s with dev := (s.dev.admitted m).enqueue (.write ((s.dev.admitted m).ackOf m Key.selectAccount) Key.selectAccount (sentValue Key.selectAccount data)) } := by
    show State.onDev s _ = _
    rw [State.onDev, cmdWrite_granted h ht]
    rfl
  exact ⟨_, hex, ownership_waits _⟩

/-- Settles O39: identities, answers and bindings. -/
theorem accountsAuthorisePorts : Obligations.AccountsAuthorisePorts := by
  unfold Obligations.AccountsAuthorisePorts
  exact ⟨externalId_granted, externalId_unknown, externalId_refused, authAnswer_taken, hostAuthTimeout_leaves, binding_taken, binding_corrupt, selectAccount_waits⟩

end Sys2Proof.Machine
end

section
/-! PROOFS. Boundary sets, the billing close a host asks for, and the clock set (10 R249 to R273; settles O38). -/

namespace Sys2Proof.Machine

/-! ### A step between its two journal entries (10 R253, R272) -/

section
variable (d : Dev)

/-- A billing state that keeps what a reading takes, whatever waits in it and is shown of it. -/
def Plain {α : Type} (read : Billing → α) : Prop :=
  (∀ b x y z, read { b with pend := x, quality := y, profileQuality := z } = read b) ∧
    (∀ b x y z, read { b with season := x, dayProfile := y, dayKind := z } = read b) ∧ ∀ b n, read { b with bstep := n } = read b

theorem putLegal_tariff (k : Nat) (v : Val) : ∃ sh, (d.putLegal k v).tariff = { d.tariff with shown := sh } := by
  unfold Dev.putLegal
  dsimp only
  split
  · exact ⟨d.tariff.shown, Dev.put_tariff _ _ _⟩
  · exact ⟨_, (Dev.put_tariff _ _ _).trans rfl⟩

/-- The entry that a step appends. -/
theorem journal_tariff (s : BoundSet) (step : Nat) (done : Bool) (reason x y : Nat) : ∃ e : JEntry, e.step = step ∧ e.done = done ∧
    e.seq = (match d.tariff.journal with | [] => 0 | e :: _ => e.seq) + 1 ∧
    (d.journal s step done reason x y).tariff = { d.tariff with journal := e :: d.tariff.journal.take 511 } :=
  ⟨⟨(match d.tariff.journal with | [] => 0 | e :: _ => e.seq) + 1, s.stamp, s.instant, step, done, s.flags % 128, reason, x, y⟩, rfl, rfl, rfl, rfl⟩

/-- What a step leaves that changes no journal itself. -/
theorem journaled_leaves (s : BoundSet) (step reason x y : Nat) (f : Dev → Dev)
    (hf : ∀ e : Dev, (f e).tariff.journal = e.tariff.journal) :
    (∃ (b a : JEntry) (sh : Store), a.step = step ∧ a.done = false ∧ b.step = step ∧ b.done = true ∧ b.seq = a.seq + 1 ∧
      (d.journaled s step reason x y f).tariff = { (f (d.journal s step false reason x y)).tariff with
        journal := b :: a :: d.tariff.journal.take 510, shown := sh }) ∧
      ∃ n, (d.journaled s step reason x y f).energy = { (f (d.journal s step false reason x y)).energy with
        bill := { (f (d.journal s step false reason x y)).energy.bill with bstep := n } } := by
  obtain ⟨a, ha1, ha2, ha3, ha⟩ := journal_tariff d s step false reason x y
  unfold Dev.journaled
  dsimp only
  have hfj := hf (d.journal s step false reason x y)
  generalize f (d.journal s step false reason x y) = w at *
  obtain ⟨b, hb1, hb2, hb3, hb⟩ := journal_tariff w s step true reason x y
  have hbe : (w.journal s step true reason x y).energy = w.energy := rfl
  rw [ha] at hfj
  rw [hfj] at hb hb3
  have hjour : (a :: d.tariff.journal.take 511).take 511 = a :: d.tariff.journal.take 510 := by
    rw [List.take_succ_cons, List.take_take]
    rfl
  rw [hjour] at hb
  have hseq : b.seq = a.seq + 1 := hb3
  generalize w.journal s step true reason x y = u at *
  generalize hv : u.setBill _ = v
  have hvt : v.tariff = u.tariff := by rw [← hv]; rfl
  obtain ⟨n, hvn⟩ : ∃ n, v.energy = { u.energy with bill := { u.energy.bill with bstep := n } } := ⟨_, by rw [← hv]; rfl⟩
  have hve : v.energy = { w.energy with bill := { w.energy.bill with bstep := n } } := by rw [hvn, hbe]
  split
  · exact ⟨⟨b, a, w.tariff.shown, ha1, ha2, hb1, hb2, hseq, hvt.trans hb⟩, ⟨n, hve⟩⟩
  · obtain ⟨sh, hsh⟩ := putLegal_tariff v Key.lateBoundaryCount (.int (min (v.nat Key.lateBoundaryCount + 1) 0xFFFFFFFF))
    have hpe := (Dev.putLegal_keeps0 v Key.lateBoundaryCount (.int (min (v.nat Key.lateBoundaryCount + 1) 0xFFFFFFFF))).get_energy rfl
    exact ⟨⟨b, a, sh, ha1, ha2, hb1, hb2, hseq, by rw [hsh, hvt, hb]⟩, ⟨n, hpe.trans hve⟩⟩

/-! ### After the steps of a set -/

theorem refreshDay_read {α : Type} {read : Billing → α} (h : Plain read) (loc : Nat) : read (d.refreshDay loc).energy.bill = read d.energy.bill := by
  unfold Dev.refreshDay
  exact h.2.1 _ _ _ _

theorem addPending_read {α : Type} {read : Billing → α} (h : Plain read) : read d.addPending.energy.bill = read d.energy.bill := by
  unfold Dev.addPending
  refine foldl_keeps_prop (P := fun e => read e.energy.bill = read d.energy.bill) (fun e p he => ?_) _ rfl
  dsimp only
  refine foldl_keeps_prop (P := fun e => read e.energy.bill = read d.energy.bill) (fun v x hv => ?_) _ ?_
  · exact (h.1 _ _ _ _).trans hv
  · exact (h.1 _ _ e.energy.bill.quality e.energy.bill.profileQuality).trans he

theorem wantCommit_bill : d.wantCommit.energy.bill = d.energy.bill := by
  have hite : ∀ (c : Prop) [Decidable c] (e : Dev), e.energy.bill = d.energy.bill → (if c then d else e).energy.bill = d.energy.bill :=
    fun c _ e he => by
      split
      · rfl
      · exact he
  exact hite _ _ rfl

end

/-- BOUNDARY_SET that may start: the steps run, and the set is gone (10 R250 to R253). -/
theorem boundarySet_ran (s : State) (x : BoundSet) (rest : List BoundSet) (h : s.dev.tariff.sets = x :: rest) (hr : s.dev.setReady x = true) :
    ∃ t, exec .boundarySet s = .next { s with dev := t } ∧ t.tariff = { (s.dev.runSet x).tariff with sets := rest } ∧
      (∀ {α : Type} (read : Billing → α), Plain read → read t.energy.bill = read (s.dev.runSet x).energy.bill) ∧
      Within (.display :: [.out, .obj, .heart, .ports, .site, .safety, .energy, .tariff, .ledger]) s { s with dev := t } := by
  have hex : exec .boundarySet s = .next { s with dev := s.dev.boundarySet } := rfl
  have hk := Dev.boundarySet_keeps0 s.dev
  have heq : s.dev.boundarySet = (((s.dev.runSet x).setTariff fun t => { t with sets := rest }).addPending).wantCommit := by
    unfold Dev.boundarySet
    rw [h]
    dsimp only
    rw [if_neg (by simp [hr])]
  refine ⟨_, hex, ?_, fun read hread => ?_, hk.within (by decide)⟩
  · rw [heq, (Dev.wantCommit_keeps0 _).get_tariff rfl, (Dev.addPending_keeps0 _).get_tariff rfl]
    rfl
  · rw [heq, wantCommit_bill, addPending_read _ hread]
    rfl

/-! ### The steps of a set (10, table Order of steps in a boundary set) -/

/-- A set of the load-profile close alone. -/
theorem runSet_profile (d : Dev) (x : BoundSet) (h : x.steps = 2) :
    d.runSet x = (d.profileClose x d.committedEnts).refreshDay ((d.profileClose x d.committedEnts).localOf x.stamp) := by
  unfold Dev.runSet
  rw [h]
  dsimp only
  rw [if_neg (by decide), if_neg (by decide), if_neg (by decide), if_neg (by decide), if_pos (by decide)]

/-- A set of the billing close alone. -/
theorem runSet_billing (d : Dev) (x : BoundSet) (h : x.steps = 32) :
    d.runSet x = (d.billingClose x d.committedEnts d.committedNumber).refreshDay ((d.billingClose x d.committedEnts d.committedNumber).localOf x.stamp) := by
  unfold Dev.runSet
  rw [h]
  dsimp only
  rw [if_pos (by decide), if_neg (by decide), if_neg (by decide), if_neg (by decide), if_neg (by decide)]

theorem plain_profileStart : Plain Billing.profileStart := ⟨fun _ _ _ _ => rfl, fun _ _ _ _ => rfl, fun _ _ => rfl⟩
theorem plain_period : Plain Billing.period := ⟨fun _ _ _ _ => rfl, fun _ _ _ _ => rfl, fun _ _ => rfl⟩
theorem plain_start : Plain Billing.start := ⟨fun _ _ _ _ => rfl, fun _ _ _ _ => rfl, fun _ _ => rfl⟩

/-- A record of the load profile stored, and the next interval begun. -/
def profileStored (r : ProfileRec) (stamp : Nat) (d : Dev) : Dev :=
  (d.setTariff fun t => { t with profile := r :: t.profile.filter fun x => x.slot ≠ r.slot }).setBill fun b => { b with
    profileStart := stamp, profileFlags := 0, profileNext := (b.profileNext + 1) % 38400, profileCount := min 38400 (b.profileCount + 1), profileQuality := 0 }

theorem profileClose_eq (d : Dev) (x : BoundSet) (ents : Vector Entity 9) : ∃ r : ProfileRec, r.slot = d.energy.bill.profileNext ∧ r.endTime = x.stamp ∧
    r.tariff = d.energy.bill.tariff ∧ r.imp = ents.map (fun e => readout e.imp) ∧
    d.profileClose x ents = d.journaled x 1 0 d.energy.bill.profileNext 0 (profileStored r x.stamp) :=
  ⟨_, rfl, rfl, rfl, rfl, rfl⟩

/-- Step 1, the load-profile close (10 R266). -/
theorem profileClose_leaves (d : Dev) (x : BoundSet) (ents : Vector Entity 9) :
    (d.profileClose x ents).energy.bill.profileStart = x.stamp ∧
      (∃ r : ProfileRec, (d.profileClose x ents).tariff.profile = r :: (d.tariff.profile.filter fun y => y.slot ≠ r.slot) ∧
        r.slot = d.energy.bill.profileNext ∧ r.endTime = x.stamp ∧ r.tariff = d.energy.bill.tariff ∧ r.imp = ents.map fun e => readout e.imp) ∧
      ∃ b a : JEntry, (d.profileClose x ents).tariff.journal = b :: a :: d.tariff.journal.take 510 ∧ a.step = 1 ∧ a.done = false ∧ b.step = 1 ∧
        b.done = true ∧ b.seq = a.seq + 1 := by
  obtain ⟨r, hslot, hend, htar, himp, heq⟩ := profileClose_eq d x ents
  have hgt : ∀ e : Dev, (profileStored r x.stamp e).tariff = { e.tariff with profile := r :: e.tariff.profile.filter fun y => y.slot ≠ r.slot } := fun _ => rfl
  have hgb : ∀ e : Dev, (profileStored r x.stamp e).energy.bill.profileStart = x.stamp := fun _ => rfl
  obtain ⟨⟨b, a, sh, h1, h2, h3, h4, h5, ht⟩, ⟨n, hn⟩⟩ := journaled_leaves d x 1 0 d.energy.bill.profileNext 0 (profileStored r x.stamp) fun _ => rfl
  rw [heq]
  refine ⟨?_, ⟨r, ?_, hslot, hend, htar, himp⟩, ⟨b, a, by rw [ht], h1, h2, h3, h4, h5⟩⟩
  · rw [hn]
    exact hgb (d.journal x 1 false 0 d.energy.bill.profileNext 0)
  · rw [ht, hgt]
    rfl

/-- BOUNDARY_SET of the load-profile close. -/
theorem boundarySet_profile (s : State) (x : BoundSet) (rest : List BoundSet) (h : s.dev.tariff.sets = x :: rest) (hr : s.dev.setReady x = true)
    (hs : x.steps = 2) :
    Completes .boundarySet s fun t =>
      t.dev.tariff.sets = rest ∧ t.dev.energy.bill.profileStart = x.stamp ∧
      (∃ r : ProfileRec, t.dev.tariff.profile = r :: (s.dev.tariff.profile.filter fun y => y.slot ≠ r.slot) ∧
        r.slot = s.dev.energy.bill.profileNext ∧ r.endTime = x.stamp ∧ r.tariff = s.dev.energy.bill.tariff ∧
        r.imp = s.dev.committedEnts.map fun e => readout e.imp) ∧
      (∃ b a : JEntry, t.dev.tariff.journal = b :: a :: s.dev.tariff.journal.take 510 ∧ a.step = 1 ∧ a.done = false ∧ b.step = 1 ∧ b.done = true ∧
        b.seq = a.seq + 1) ∧ Within (.display :: [.out, .obj, .heart, .ports, .site, .safety, .energy, .tariff, .ledger]) s t := by
  obtain ⟨t, hex, htariff, hbill, hwithin⟩ := boundarySet_ran s x rest h hr
  obtain ⟨h1, h2, h3⟩ := profileClose_leaves s.dev x s.dev.committedEnts
  rw [runSet_profile s.dev x hs] at htariff hbill
  generalize s.dev.profileClose x s.dev.committedEnts = w at *
  rw [(Dev.refreshDay_keeps0 w _).get_tariff rfl] at htariff
  have hstart := (hbill Billing.profileStart plain_profileStart).trans ((refreshDay_read w plain_profileStart _).trans h1)
  refine ⟨_, hex, ?_⟩
  dsimp only
  rw [htariff]
  exact ⟨rfl, hstart, h2, h3, hwithin⟩

/-- The snapshot that a billing close takes of an entity. -/
def snapshotOf (d : Dev) (x : BoundSet) (ents : Vector Entity 9) (commit : Nat) (e : Fin 9) : Snapshot :=
  { entity := e, reason := x.reason5, period := d.energy.bill.period, start := d.energy.bill.start, close := x.stamp
    flags := setBit (setBit (setBit d.energy.bill.billFlags 0 (x.flags.testBit 0)) 1 (x.flags.testBit 1)) 2 (x.flags.testBit 2)
    quality := d.energy.bill.quality[e], exec := d.nowUs, commit := commit
    regs := #v[readout ents[e].imp, readout ents[e].exp, readout ents[e].q[0], readout ents[e].q[1], readout ents[e].q[2], readout ents[e].q[3]]
    timp := ents[e].timp.map readout, texp := ents[e].texp.map readout, maxImp := d.energy.bill.maxImp[e], maxExp := d.energy.bill.maxExp[e]
    calendar := d.nat Key.activeCalendarId }

/-- Where the snapshots of the next billing close stand. -/
def snapSlot (d : Dev) : Fin 24 := ⟨d.energy.bill.snapNext % 24, Nat.mod_lt _ (by decide)⟩

/-- Snapshots stored in their slot, and the next billing period begun. -/
def snapsStored (f : Fin 9 → Snapshot) (k : Fin 24) (stamp : Nat) (d : Dev) : Dev :=
  (d.setTariff fun t => { t with snaps := t.snaps.set k (some (Vector.ofFn f)) }).setBill fun b => { b with
    period := b.period + 1, start := stamp, maxImp := Vector.replicate 9 (0, 0), maxExp := Vector.replicate 9 (0, 0)
    quality := Vector.replicate 9 0, billFlags := 0, snapNext := (b.snapNext + 1) % 24, snapCount := min 24 (b.snapCount + 1) }

theorem billingClose_eq (d : Dev) (x : BoundSet) (ents : Vector Entity 9) (commit : Nat) : d.billingClose x ents commit =
    d.journaled x 5 x.reason5 (d.energy.bill.period + 1) d.energy.bill.snapNext (snapsStored (snapshotOf d x ents commit) (snapSlot d) x.stamp) := rfl

/-- Step 5, the billing close (10 R265). -/
theorem billingClose_leaves (d : Dev) (x : BoundSet) (ents : Vector Entity 9) (commit : Nat) :
    (d.billingClose x ents commit).energy.bill.period = d.energy.bill.period + 1 ∧ (d.billingClose x ents commit).energy.bill.start = x.stamp ∧
      (d.billingClose x ents commit).tariff.snaps = d.tariff.snaps.set (snapSlot d) (some (Vector.ofFn (snapshotOf d x ents commit))) := by
  rw [billingClose_eq]
  generalize snapshotOf d x ents commit = f
  obtain ⟨⟨b, a, sh, -, -, -, -, -, ht⟩, ⟨n, hn⟩⟩ := journaled_leaves d x 5 x.reason5 (d.energy.bill.period + 1) d.energy.bill.snapNext
    (snapsStored f (snapSlot d) x.stamp) fun _ => rfl
  refine ⟨?_, ?_, ?_⟩
  · rw [hn]
    rfl
  · rw [hn]
    rfl
  · rw [ht]
    rfl

/-- BOUNDARY_SET of the billing close. -/
theorem boundarySet_billing (s : State) (x : BoundSet) (rest : List BoundSet) (h : s.dev.tariff.sets = x :: rest) (hr : s.dev.setReady x = true)
    (hs : x.steps = 32) :
    Completes .boundarySet s fun t =>
      t.dev.tariff.sets = rest ∧ t.dev.energy.bill.period = s.dev.energy.bill.period + 1 ∧ t.dev.energy.bill.start = x.stamp ∧
      (∃ (k : Fin 24) (v : Vector Snapshot 9), k.val = s.dev.energy.bill.snapNext % 24 ∧ t.dev.tariff.snaps = s.dev.tariff.snaps.set k (some v) ∧
        ∀ e : EntityId, (v[e]).close = x.stamp ∧ (v[e]).period = s.dev.energy.bill.period ∧ (v[e]).commit = s.dev.committedNumber ∧
          (v[e]).regs[0] = readout (s.dev.committedEnts[e]).imp) ∧
      Within (.display :: [.out, .obj, .heart, .ports, .site, .safety, .energy, .tariff, .ledger]) s t := by
  obtain ⟨t, hex, htariff, hbill, hwithin⟩ := boundarySet_ran s x rest h hr
  obtain ⟨h1, h2, h3⟩ := billingClose_leaves s.dev x s.dev.committedEnts s.dev.committedNumber
  have hsnap : ∀ e : EntityId, ((Vector.ofFn (snapshotOf s.dev x s.dev.committedEnts s.dev.committedNumber))[e]) =
      snapshotOf s.dev x s.dev.committedEnts s.dev.committedNumber e := fun e => by simp
  rw [runSet_billing s.dev x hs] at htariff hbill
  generalize s.dev.billingClose x s.dev.committedEnts s.dev.committedNumber = w at *
  rw [(Dev.refreshDay_keeps0 w _).get_tariff rfl] at htariff
  have hperiod := (hbill Billing.period plain_period).trans ((refreshDay_read w plain_period _).trans h1)
  have hstart := (hbill Billing.start plain_start).trans ((refreshDay_read w plain_start _).trans h2)
  refine ⟨_, hex, ?_⟩
  dsimp only
  rw [htariff]
  refine ⟨rfl, hperiod, hstart, ⟨snapSlot s.dev, _, rfl, h3, fun e => ?_⟩, hwithin⟩
  rw [hsnap e]
  exact ⟨rfl, rfl, rfl, rfl⟩

/-- BOUNDARY_SET that may not start yet. -/
theorem boundarySet_waits (s : State) (x : BoundSet) (rest : List BoundSet) (h : s.dev.tariff.sets = x :: rest) (hr : s.dev.setReady x = false) :
    Completes .boundarySet s fun t => t = s := by
  have heq : s.dev.boundarySet = s.dev := by
    unfold Dev.boundarySet
    rw [h]
    dsimp only
    rw [if_pos (by simp [hr])]
  refine ⟨{ s with dev := s.dev.boundarySet }, rfl, ?_⟩
  rw [heq]

/-! ### CLOSE_NOW and SET_TIME (10 R264, R268) -/

theorem closeNow_served (s : State) (m : HostMsg) (data : Bytes) (h : s.dev.grants m = true) (ht : takes Key.closeNow data = true) :
    Completes (.closeNow m data) s fun t =>
      t.dev.tariff = { s.dev.tariff with closeNow := some (s.dev.time.utcS + 1) } ∧ Served m (.done Key.closeNow) [.tariff] [] s t := by
  have htime : (s.dev.admitted m).time = s.dev.time := (Dev.admitted_same s.dev m .time (by decide) (by decide)).symm
  have htariff : (s.dev.admitted m).tariff = s.dev.tariff := (Dev.admitted_same s.dev m .tariff (by decide) (by decide)).symm
  have hex : exec (.closeNow m data) s = .next { s with dev :=
      ((s.dev.admitted m).setTariff fun t => { t with closeNow := some ((s.dev.admitted m).time.utcS + 1) }).ok ((s.dev.admitted m).ackOf m Key.closeNow) } := by
    show State.onDev s _ = _
    rw [State.onDev, cmdWrite_granted h ht]
    rfl
  refine ⟨_, hex, ?_, served_ok (M := 1048576) _ (grants_iff.1 h).1 (Dev.setTariff_keeps0 _ _) (by decide) (by decide) (fun _ _ => rfl) (by simp)⟩
  dsimp only
  rw [(Dev.ok_keeps0 _ _).get_tariff rfl]
  unfold Dev.setTariff
  dsimp only
  rw [htime, htariff]

theorem setTime_served (s : State) (m : HostMsg) (data : Bytes) (new : Int) (h : s.dev.grants m = true) (ht : takes Key.setTime data = true)
    (hv : sentValue Key.setTime data = .int new) :
    Completes (.setTime m data) s fun t =>
      let x := new - (s.dev.nowUs : Int)
      t.dev.time = (if x.natAbs ≤ 2000000 then { s.dev.time with slew := x * 16, stepBy := none, unknown := false, i6Lost := false }
        else { s.dev.time with slew := 0, stepBy := some x }) ∧ Served m (.done Key.setTime) [.time] [] s t := by
  have htime : (s.dev.admitted m).time = s.dev.time := (Dev.admitted_same s.dev m .time (by decide) (by decide)).symm
  have hnow : (s.dev.admitted m).nowUs = s.dev.nowUs := nowUs_of_time htime
  have hex : exec (.setTime m data) s = .next { s with dev := ((s.dev.admitted m).setTime new).ok ((s.dev.admitted m).ackOf m Key.setTime) } := by
    show State.onDev s _ = _
    rw [State.onDev, cmdWrite_granted h ht, hv]
    rfl
  have hk := Dev.setTime_keeps0 (s.dev.admitted m) new
  have hval : ∀ k, ((s.dev.admitted m).setTime new).val k = (s.dev.admitted m).val k := fun k => val_of_obj (hk.get_obj rfl) k
  refine ⟨_, hex, ?_, served_ok (M := 8) _ (grants_iff.1 h).1 hk (by decide) (by decide) (fun k _ => hval k) (by simp)⟩
  dsimp only
  rw [(Dev.ok_keeps0 _ _).get_time rfl]
  unfold Dev.setTime
  dsimp only
  rw [hnow, htime]
  split <;> rfl

/-! ### CLOCK_STEP (10 R268 to R270) -/

theorem setUtc_time (d : Dev) (us : Nat) : ∃ l, (d.setUtc us).time = { d.time with utcS := us / 1000000, tLatch := l } := by
  unfold Dev.setUtc
  exact ⟨_, (Dev.produce_keeps0 _ _ _).get_time rfl⟩

/-- The clock set: known, with nothing left to step or slew. -/
def ClockSet (f utc : Nat) (t : TimeSt) : Prop := t.utcS = utc ∧ t.stepBy = none ∧ t.slew = 0 ∧ t.unknown = false ∧ t.fabric = f

/-- The step logged, counted and shown. -/
def clockNoted (d : Dev) (old new : Nat) : Dev :=
  let d : Dev := { d with time := { d.time with stepBy := none, slew := 0, unknown := false, i6Lost := false } }
  let d := (d.legal 0x0401 0xFF (leBytes 8 old ++ leBytes 8 new)).putLegal Key.timeStepCount (.int (min (d.nat Key.timeStepCount + 1) 0xFFFFFFFF))
  ((d.putLegal Key.lastStepOld (.int old)).putLegal Key.lastStepNew (.int new)).setBill fun b => { b with billFlags := setBit b.billFlags 3 true }

theorem clockNoted_time (d : Dev) (old new : Nat) : (clockNoted d old new).time = { d.time with stepBy := none, slew := 0, unknown := false, i6Lost := false } := by
  unfold clockNoted
  dsimp only
  generalize hv : ({ d with time := { d.time with stepBy := none, slew := 0, unknown := false, i6Lost := false } } : Dev) = v
  have hvt : v.time = { d.time with stepBy := none, slew := 0, unknown := false, i6Lost := false } := by rw [← hv]
  rw [← hvt]
  exact ((Dev.putLegal_keeps0 _ _ _).get_time rfl).trans (((Dev.putLegal_keeps0 _ _ _).get_time rfl).trans
    (((Dev.putLegal_keeps0 _ _ _).get_time rfl).trans ((Dev.legal_keeps0 _ _ _ _).get_time rfl)))

/-- The intervals that run, closed at the old time. -/
def intervalsClosed (d : Dev) (old new flags : Nat) : Dev :=
  let stamp := old / 1000000
  let d := if d.flag Key.profileEnable then d.profileClose ⟨old, old, stamp, 2, flags, 0, 0⟩ d.committedEnts else d
  let d := if d.localDemand then d.demandClose ⟨old, old, stamp, 4, flags, 2, 0⟩ d.committedEnts else d
  (d.restartRun).setBill fun b => { b with profileStart := new / 1000000, subStart := if d.localDemand then new else b.subStart }

theorem intervalsClosed_time (d : Dev) (old new flags : Nat) : (intervalsClosed d old new flags).time = d.time := by
  unfold intervalsClosed
  dsimp only
  have h1 : ∀ e : Dev, (if e.flag Key.profileEnable then e.profileClose ⟨old, old, old / 1000000, 2, flags, 0, 0⟩ e.committedEnts else e).time = e.time := fun e => by
    split
    · exact (Dev.profileClose_keeps0 _ _ _).get_time rfl
    · rfl
  have h2 : ∀ e : Dev, (if e.localDemand then e.demandClose ⟨old, old, old / 1000000, 4, flags, 2, 0⟩ e.committedEnts else e).time = e.time := fun e => by
    split
    · exact (Dev.demandClose_keeps0 _ _ _).get_time rfl
    · rfl
  exact ((Dev.restartRun_keeps0 _).get_time rfl).trans ((h2 _).trans (h1 d))

theorem stepClock_eq (d : Dev) (x : Int) : d.stepClock x =
    if (clockNoted d d.nowUs ((d.nowUs : Int) + x).toNat).energy.lost then (clockNoted d d.nowUs ((d.nowUs : Int) + x).toNat).setUtc ((d.nowUs : Int) + x).toNat
    else if d.energy.bill.highWater < ((d.nowUs : Int) + x).toNat / 1000000 then
      ((clockNoted d d.nowUs ((d.nowUs : Int) + x).toNat).setUtc ((d.nowUs : Int) + x).toNat).runSkipped d.energy.bill.highWater (((d.nowUs : Int) + x).toNat / 1000000)
        (1 + 512) d.time.unknown ((clockNoted d d.nowUs ((d.nowUs : Int) + x).toNat).setUtc ((d.nowUs : Int) + x).toNat).committedEnts
        ((clockNoted d d.nowUs ((d.nowUs : Int) + x).toNat).setUtc ((d.nowUs : Int) + x).toNat).committedNumber
    else (intervalsClosed (clockNoted d d.nowUs ((d.nowUs : Int) + x).toNat) d.nowUs ((d.nowUs : Int) + x).toNat (8 + (if x < 0 then 256 else 512))).setUtc
      ((d.nowUs : Int) + x).toNat := rfl

theorem stepClock_time (d : Dev) (x : Int) : ClockSet d.time.fabric (((d.nowUs : Int) + x).toNat / 1000000) (d.stepClock x).time := by
  rw [stepClock_eq]
  generalize ((d.nowUs : Int) + x).toNat = new
  have hw := clockNoted_time d d.nowUs new
  generalize clockNoted d d.nowUs new = w at *
  have hset : ∀ e : Dev, e.time = w.time → ClockSet d.time.fabric (new / 1000000) (e.setUtc new).time := fun e he => by
    obtain ⟨l, hl⟩ := setUtc_time e new
    rw [hl, he, hw]
    exact ⟨rfl, rfl, rfl, rfl, rfl⟩
  split
  · exact hset w rfl
  · split
    · rw [(Dev.runSkipped_keeps0 _ _ _ _ _ _ _).get_time rfl]
      exact hset w rfl
    · exact hset _ (intervalsClosed_time _ _ _ _)

/-- CLOCK_STEP once nothing waits for it. -/
theorem clockStep_steps (s : State) (x : Int) (h : s.dev.time.stepBy = some x) (hu : s.dev.heartwoodUp = true) (hs : s.dev.tariff.sets = [])
    (hb : s.dev.energy.batch = []) (hc : s.dev.energy.commit = none) :
    Completes .clockStep s fun t =>
      t.dev.time.utcS = ((s.dev.nowUs : Int) + x).toNat / 1000000 ∧ t.dev.time.stepBy = none ∧ t.dev.time.slew = 0 ∧
      t.dev.time.unknown = false ∧ t.dev.time.fabric = s.dev.time.fabric ∧
      Within (.time :: .crossings :: [.out, .obj, .heart, .ports, .site, .safety, .energy, .tariff, .ledger]) s t := by
  have hex : exec .clockStep s = .next { s with dev := s.dev.stepClock x } := by
    show State.onDev s _ = _
    rw [State.onDev, Dev.clockStep, h]
    dsimp only
    rw [if_pos ⟨hu, hs, hb, by rw [hc]; rfl⟩]
  obtain ⟨h1, h2, h3, h4, h5⟩ := stepClock_time s.dev x
  exact ⟨_, hex, h1, h2, h3, h4, h5, (Dev.stepClock_keeps0 s.dev x).within (by decide)⟩

/-- CLOCK_STEP while a set or a commit runs. -/
theorem clockStep_waits (s : State) (x : Int) (h : s.dev.time.stepBy = some x)
    (hw : s.dev.tariff.sets ≠ [] ∨ s.dev.energy.batch ≠ [] ∨ s.dev.energy.commit.isSome = true) : Completes .clockStep s fun t => t = s := by
  have heq : s.dev.clockStep = s.dev := by
    unfold Dev.clockStep
    rw [h]
    dsimp only
    rw [if_neg]
    rintro ⟨-, h1, h2, h3⟩
    rcases hw with hw | hw | hw
    · exact hw h1
    · exact hw h2
    · rw [Option.isSome_iff_ne_none] at hw
      exact hw (Option.isNone_iff_eq_none.1 h3)
  refine ⟨{ s with dev := s.dev.clockStep }, rfl, ?_⟩
  rw [heq]

/-- Settles O38: boundary sets, the close asked for, the clock set. -/
theorem boundariesAreClosedAndTheClockSet : Obligations.BoundariesAreClosedAndTheClockSet := by
  unfold Obligations.BoundariesAreClosedAndTheClockSet
  exact ⟨boundarySet_profile, boundarySet_billing, boundarySet_waits, closeNow_served, setTime_served, clockStep_steps, clockStep_waits⟩

end Sys2Proof.Machine
end

section
/-! PROOFS. The Canopy node: neighbours, frames that are received, a node that leaves (14 R379, R387, R398, R401). -/

namespace Sys2Proof.Machine

section
variable (d : Dev)

/-! ### Neighbours -/

theorem modNeigh_canopy {n : Fin 128} {x : Neigh} (g : Neigh → Neigh) (h : d.canopy.neigh[n] = some x) :
    (d.modNeigh n g).canopy = { d.canopy with neigh := d.canopy.neigh.set n (some (g x)) } := by
  show ({ d.canopy with neigh := d.canopy.neigh.set n ((d.canopy.neigh[n]).map g) } : Canopy) = _
  rw [h]
  rfl

theorem modNeigh_other {n k : Fin 128} (g : Neigh → Neigh) (h : k ≠ n) : (d.modNeigh n g).canopy.neigh[k] = d.canopy.neigh[k] :=
  Vector.getElem_set_ne n.isLt k.isLt fun he => h (Fin.ext he.symm)

theorem modNeigh_same (n : Fin 128) (g : Neigh → Neigh) : (d.modNeigh n g).canopy.neigh[n] = (d.canopy.neigh[n]).map g :=
  Vector.getElem_set_self _

/-- A link context is no session of a host. -/
theorem setContext_link (n : Fin 128) (k : Option Bytes) : ∃ v, d.setContext (Dev.contextOf n) k = d.setBurl fun b => { b with contexts := v } := by
  unfold Dev.setContext Dev.contextOf
  rw [dif_pos (show 16 + n.val < 144 by omega)]
  exact ⟨_, rfl⟩

theorem setContext_link_keeps (n : Fin 128) (k : Option Bytes) : Keeps 8388608 d (d.setContext (Dev.contextOf n) k) := by
  obtain ⟨v, hv⟩ := setContext_link d n k
  rw [hv]
  exact Dev.setBurl_keeps0 _ _

theorem setContext_link_canopy (n : Fin 128) (k : Option Bytes) : (d.setContext (Dev.contextOf n) k).canopy = d.canopy := (setContext_link_keeps d n k).get_canopy rfl

theorem dropNeigh_keeps (n : Fin 128) : Keeps 41943040 d (d.dropNeigh n) :=
  Keeps.trans (L := 41943040) ((Dev.setNeigh_keeps0 d n none).mono (by decide)) ((setContext_link_keeps _ n none).mono (by decide))

theorem dropNeigh_canopy (n : Fin 128) : (d.dropNeigh n).canopy = { d.canopy with neigh := d.canopy.neigh.set n none } :=
  setContext_link_canopy _ _ _

theorem dropNeigh_same (n : Fin 128) : (d.dropNeigh n).canopy.neigh[n] = none := by
  rw [dropNeigh_canopy]
  exact Vector.getElem_set_self _

theorem dropNeigh_other {n k : Fin 128} (h : k ≠ n) : (d.dropNeigh n).canopy.neigh[k] = d.canopy.neigh[k] := by
  rw [dropNeigh_canopy]
  exact Vector.getElem_set_ne n.isLt k.isLt fun he => h (Fin.ext he.symm)

/-! ### Frames of a neighbour (14 R379, R387, R401) -/

/-- A neighbour of which a frame was heard. -/
def heardOf (f : CnpFrame) (x : Neigh) : Neigh :=
  { x with
    seen := d.nowUs, lastSf := d.canopy.sf, used := d.canopy.uses + 1
    rxOld := if f.map.val = x.rxMap ∧ x.rxMap ≠ 0 then none else x.rxOld }

/-- A neighbour of which a protected frame was taken, its counter in the window. -/
def notedOf (f : CnpFrame) (x : Neigh) (w : Nat × Nat) : Neigh :=
  { heardOf d f x with high := w.1, window := w.2, firstBy := none, rxSeq := if f.dst.val = d.nat Key.shortAddress then some f.seq.val else x.rxSeq }

/-- The device that has received a frame, with the neighbour as it is now. -/
def receivedFrom (n : Fin 128) (y : Neigh) : Dev :=
  (d.bump Key.framesReceived).setCanopy fun c => { c with uses := c.uses + 1, neigh := c.neigh.set n (some y) }

theorem bump_canopy (k : Nat) : (d.bump k).canopy = d.canopy := (Dev.bump_keeps0 d k 1).get_canopy rfl

theorem receivedFrom_canopy (n : Fin 128) (y : Neigh) :
    (receivedFrom d n y).canopy = { d.canopy with uses := d.canopy.uses + 1, neigh := d.canopy.neigh.set n (some y) } := by
  have h := bump_canopy d Key.framesReceived
  unfold receivedFrom Dev.setCanopy
  dsimp only
  rw [h]

theorem receivedFrom_keeps (n : Fin 128) (y : Neigh) : Keeps 33554436 d (receivedFrom d n y) :=
  Dev.setCanopy_keeps _ _ (by decide) ((Dev.bump_keeps0 d Key.framesReceived 1).mono (by decide))

theorem receivedFrom_val (n : Fin 128) (y : Neigh) {k : Nat} (h : k ≠ Key.framesReceived) : (receivedFrom d n y).val k = d.val k :=
  Dev.val_bump_other _ _ (Ne.symm h)

theorem receivedFrom_count (n : Fin 128) (y : Neigh) :
    (receivedFrom d n y).nat Key.framesReceived = min (d.nat Key.framesReceived + 1) (Dev.top Key.framesReceived) :=
  Dev.nat_bump d Key.framesReceived 1

theorem receivedFrom_neigh (n : Fin 128) (y : Neigh) : (receivedFrom d n y).canopy.neigh[n] = some y := by
  rw [receivedFrom_canopy]
  exact Vector.getElem_set_self _

/-- A neighbour changed after its frame was received. -/
theorem modNeigh_receivedFrom (n : Fin 128) (y : Neigh) (g : Neigh → Neigh) : (receivedFrom d n y).modNeigh n g = receivedFrom d n (g y) := by
  have h := receivedFrom_neigh d n y
  have hset : (receivedFrom d n y).modNeigh n g = { receivedFrom d n y with
      canopy := { (receivedFrom d n y).canopy with neigh := (receivedFrom d n y).canopy.neigh.set n ((((receivedFrom d n y).canopy.neigh)[n]).map g) } } := rfl
  rw [hset, h]
  unfold receivedFrom Dev.setCanopy
  simp only [Option.map_some, Vector.set_set]

end

/-- What lets a frame of a known neighbour through to its checks. -/
structure FrameHeard (d : Dev) (f : CnpFrame) (n : Fin 128) (x : Neigh) : Prop where
  hears : d.canopyHears = true
  joined : d.canopy.node = .member ∨ d.canopy.node = .coordinator
  dst : f.dst.val = d.nat Key.shortAddress ∨ f.dst.val = 0x7FF
  map : d.holdsMap f = true
  body : f.bodyOk = true
  src : d.byAddr f.src = some n
  neigh : d.canopy.neigh[n] = some x
  fresh : ¬ (f.dst.val = d.nat Key.shortAddress ∧ x.rxSeq = some f.seq.val)

section
variable {d : Dev} {f : CnpFrame} {n : Fin 128} {x : Neigh} (h : FrameHeard d f n x)
include h

theorem canopyReceive_eq (secured : Bool) (serve : Fin 128 → Dev → Dev) : Dev.canopyReceive f secured serve d =
    if !secured then serve n (receivedFrom d n { heardOf d f x with rxSeq := if f.dst.val = d.nat Key.shortAddress then some f.seq.val else x.rxSeq })
    else if !f.secured ∨ !f.micOk ∨ !d.keyLoaded f n then
      if d.canopy.node = .member ∧ x.addr = 0 then ((receivedFrom d n (heardOf d f x)).bump Key.canopyAuthFailCount).canopyLeave .listening
      else (receivedFrom d n (heardOf d f x)).bump Key.canopyAuthFailCount
    else match Dev.counterWindow x.high x.window f.counter.toNat with
      | none => (receivedFrom d n (heardOf d f x)).bump Key.canopyReplayCount
      | some w => serve n (receivedFrom d n (notedOf d f x w)) := by
  have hcan := bump_canopy d Key.framesReceived
  have hsrc : (d.bump Key.framesReceived).byAddr f.src = some n := by
    unfold Dev.byAddr Dev.neighAt
    rw [hcan]
    exact h.src
  have hat : (d.bump Key.framesReceived).neighAt n = some x := by
    unfold Dev.neighAt
    rw [hcan]
    exact h.neigh
  have hrec : ((d.bump Key.framesReceived).setCanopy fun c => { c with uses := c.uses + 1 }).modNeigh n (fun y => { y with
      seen := (d.bump Key.framesReceived).nowUs, lastSf := d.canopy.sf, used := d.canopy.uses + 1
      rxOld := if f.map.val = y.rxMap ∧ y.rxMap ≠ 0 then none else y.rxOld }) = receivedFrom d n (heardOf d f x) := by
    have hnow : (d.bump Key.framesReceived).nowUs = d.nowUs :=
      nowUs_of_time ((Dev.bump_keeps0 d Key.framesReceived 1).get_time rfl)
    rw [hnow]
    unfold Dev.modNeigh Dev.neighAt Dev.setNeigh receivedFrom Dev.setCanopy
    dsimp only
    rw [hcan, h.neigh]
    rfl
  have hkey : ∀ y, (receivedFrom d n y).keyLoaded f n = d.keyLoaded f n := fun y => by
    unfold Dev.keyLoaded
    rw [(receivedFrom_keeps d n y).get_burl rfl]
  have hnode : ¬ (d.canopy.node ≠ .member ∧ d.canopy.node ≠ .coordinator) := fun hn => h.joined.elim hn.1 hn.2
  have hdst : ¬ (f.dst.val ≠ d.nat Key.shortAddress ∧ f.dst.val ≠ 0x7FF) := fun hn => h.dst.elim hn.1 hn.2
  unfold Dev.canopyReceive
  dsimp only
  rw [if_neg (by simp [h.hears, hnode, hdst]), if_neg (by simp [h.map]), if_neg (by simp [h.body]), hsrc]
  dsimp only
  rw [hat]
  dsimp only
  rw [hrec, if_neg h.fresh]
  simp only [modNeigh_receivedFrom, hkey]
  cases Dev.counterWindow x.high x.window f.counter.toNat <;> rfl

end

/-! ### A node that leaves (14 R370, R398) -/

section
variable (d : Dev)

theorem writeGcn_leaves : d.writeGcn.canopy = d.canopy ∧ d.writeGcn.nat Key.gridCycleNumber = d.canopy.gcn ∧
    (∀ k, k ≠ Key.gridCycleNumber → k ≠ Key.gcnValid → d.writeGcn.val k = d.val k) ∧ Keeps 36 d d.writeGcn := by
  have hk := Dev.writeGcn_keeps0 d
  unfold Dev.writeGcn at *
  have hp := Dev.produce_keeps0 ((d.putNat Key.gridCycleNumber d.canopy.gcn).putFlag Key.gcnValid d.canopy.valid) 0x1A
    ((d.putNat Key.gridCycleNumber d.canopy.gcn).putFlag Key.gcnValid d.canopy.valid).gcnWords
  have hv := fun k => val_of_obj (hp.get_obj rfl) k
  refine ⟨hk.get_canopy rfl, ?_, fun k h1 h2 => ?_, hk⟩
  · exact (nat_of_val (hv _)).trans ((nat_of_val (Dev.val_putFlag_other _ _ (by decide))).trans (Dev.nat_putNat _ _ _))
  · exact (hv k).trans ((Dev.val_putFlag_other _ _ h2.symm).trans (Dev.val_putNat_other _ _ h1.symm))

/-- Every neighbour dropped, with its context. -/
def neighboursDropped : Dev := (List.finRange 128).foldl (fun (d : Dev) n => if (d.neighAt n).isSome then d.dropNeigh n else d) d

theorem neighboursDropped_none (n : Fin 128) : (neighboursDropped d).canopy.neigh[n] = none := by
  unfold neighboursDropped
  have key : ∀ (l : List (Fin 128)) (e : Dev), n ∈ l ∨ e.canopy.neigh[n] = none →
      (l.foldl (fun (d : Dev) n => if (d.neighAt n).isSome then d.dropNeigh n else d) e).canopy.neigh[n] = none := by
    intro l
    induction l with
    | nil => exact fun e h => h.resolve_left (by simp)
    | cons a l ih =>
      intro e h
      refine ih _ ?_
      have hdrop : ∀ m : Fin 128, m = n ∨ e.canopy.neigh[n] = none → (e.dropNeigh m).canopy.neigh[n] = none := fun m hm => by
        by_cases hmn : n = m
        · rw [hmn]
          exact dropNeigh_same e m
        · exact (dropNeigh_other e hmn).trans (hm.resolve_left fun he => hmn he.symm)
      rw [List.mem_cons] at h
      beta_reduce
      by_cases ha : n = a
      · refine .inr ?_
        split
        · exact hdrop a (.inl ha.symm)
        · next hn =>
          rw [ha]
          exact Option.not_isSome_iff_eq_none.1 hn
      · refine h.imp (fun h => h.resolve_left ha) fun h => ?_
        split
        · exact hdrop a (.inr h)
        · exact h
  exact key _ d (.inl (List.mem_finRange n))

theorem neighboursDropped_keeps : Keeps 41943040 d (neighboursDropped d) :=
  Keeps.foldl _ (.refl _ d) fun e n h => by
    split
    · exact h.trans (dropNeigh_keeps e n)
    · exact h

end

/-- A node that is out of its network. -/
structure NodeLeft (next : NodeState) (d : Dev) : Prop where
  node : d.canopy.node = next
  valid : d.canopy.valid = false
  queue : d.canopy.queue = []
  neigh : ∀ n : Fin 128, d.canopy.neigh[n] = none
  address : d.nat Key.shortAddress = 0x7FE

section
variable (d : Dev)

/-- The objects that a node sets when it leaves. -/
def leaveKeys : List Nat := [Key.shortAddress, Key.missedBeaconRun, Key.joinedSince, Key.phaseCode, Key.networkPhaseOfL1, Key.headroomUse,
  Key.detachCount, Key.gridCycleNumber, Key.gcnValid]

/-- The objects of a node shown as out of its network, and its detachment counted where it was joined. -/
def leaveShown (joined : Bool) : Dev :=
  let d := ((d.putNat Key.shortAddress 0x7FE).putNat Key.missedBeaconRun 0).putNat Key.joinedSince 0
  let d := (d.putNat Key.phaseCode 3).putNat Key.networkPhaseOfL1 0xFF
  let d := d.putBytes Key.headroomUse [0xFF, 0xFF, 0xFF]
  if joined then d.bump Key.detachCount else d

theorem leaveShown_leaves (joined : Bool) : (leaveShown d joined).nat Key.shortAddress = 0x7FE ∧
    (∀ k, k ∉ leaveKeys → (leaveShown d joined).val k = d.val k) ∧ Keeps 4 d (leaveShown d joined) := by
  obtain ⟨u, hu⟩ : ∃ u, u = ((((d.putNat Key.shortAddress 0x7FE).putNat Key.missedBeaconRun 0).putNat Key.joinedSince 0).putNat Key.phaseCode 3).putNat
      Key.networkPhaseOfL1 0xFF := ⟨_, rfl⟩
  have haddr : u.nat Key.shortAddress = 0x7FE := by
    rw [hu]
    exact (nat_of_val ((Dev.val_putNat_other _ _ (by decide)).trans ((Dev.val_putNat_other _ _ (by decide)).trans
      ((Dev.val_putNat_other _ _ (by decide)).trans (Dev.val_putNat_other _ _ (by decide)))))).trans (Dev.nat_putNat _ _ _)
  have hval : ∀ k, k ∉ leaveKeys → u.val k = d.val k := fun k hk => by
    simp only [leaveKeys, List.mem_cons, List.not_mem_nil, or_false, not_or] at hk
    rw [hu, Dev.val_putNat_other _ _ (Ne.symm hk.2.2.2.2.1), Dev.val_putNat_other _ _ (Ne.symm hk.2.2.2.1), Dev.val_putNat_other _ _ (Ne.symm hk.2.2.1),
      Dev.val_putNat_other _ _ (Ne.symm hk.2.1), Dev.val_putNat_other _ _ (Ne.symm hk.1)]
  have hkeep : Keeps 4 d u := by
    rw [hu]
    exact Dev.putNat_keeps _ _ _ (by decide) (Dev.putNat_keeps _ _ _ (by decide) (Dev.putNat_keeps _ _ _ (by decide)
      (Dev.putNat_keeps _ _ _ (by decide) (Dev.putNat_keeps0 _ _ _))))
  have hput : ∀ k, k ≠ Key.headroomUse → (u.putBytes Key.headroomUse [0xFF, 0xFF, 0xFF]).val k = u.val k := fun k hk => Dev.val_putBytes_other _ _ (Ne.symm hk)
  have hpk : Keeps 4 d (u.putBytes Key.headroomUse [0xFF, 0xFF, 0xFF]) := Dev.putBytes_keeps _ _ _ (by decide) hkeep
  have hform : leaveShown d joined = if joined then (u.putBytes Key.headroomUse [0xFF, 0xFF, 0xFF]).bump Key.detachCount
      else u.putBytes Key.headroomUse [0xFF, 0xFF, 0xFF] := by rw [hu]; rfl
  rw [hform]
  generalize u.putBytes Key.headroomUse [0xFF, 0xFF, 0xFF] = w at hput hpk ⊢
  have hw : w.nat Key.shortAddress = 0x7FE := (nat_of_val (hput _ (by decide))).trans haddr
  have hd : ∀ k, k ∉ leaveKeys → Key.detachCount ≠ k := fun k hk he => by
    rw [← he] at hk
    exact hk (by decide)
  have hwv : ∀ k, k ∉ leaveKeys → w.val k = d.val k := fun k hk => (hput k fun he => hk (by rw [he]; decide)).trans (hval k hk)
  have hb : ∀ k, k ∉ leaveKeys → (w.bump Key.detachCount).val k = d.val k := fun k hk => (Dev.val_bump_other w 1 (hd k hk)).trans (hwv k hk)
  have ha : (w.bump Key.detachCount).val Key.shortAddress = w.val Key.shortAddress := Dev.val_bump_other w 1 (by decide)
  split
  · exact ⟨(nat_of_val ha).trans hw, hb, Dev.bump_keeps _ _ _ (by decide) hpk⟩
  · exact ⟨hw, hwv, hpk⟩

/-- A node as it is out of a network. -/
def nodeReset (next : NodeState) (c : Canopy) : Canopy :=
  { c with
    node := next, valid := false, gap := false, sinceBeacon := 0, listened := 0, heard := none, heardNif := false, yields := false, phis := [], leased := []
    nifFollows := false, tries := 0, queue := [], wait := none, drezu := false, reservations := [], masks := [], resume := false }

theorem canopyLeave_eq (next : NodeState) : d.canopyLeave next =
    (leaveShown ((neighboursDropped d).setCanopy (nodeReset next)).latchCanopy (decide (d.canopy.node = .member ∨ d.canopy.node = .coordinator))).writeGcn := by
  unfold Dev.canopyLeave leaveShown neighboursDropped
  rfl

theorem canopyLeave_leaves (next : NodeState) : NodeLeft next (d.canopyLeave next) ∧ (∀ k, k ∉ leaveKeys → (d.canopyLeave next).val k = d.val k) ∧
    Keeps 41943076 d (d.canopyLeave next) := by
  have hn := neighboursDropped_none d
  have hk := neighboursDropped_keeps d
  have hg : ∀ c, (nodeReset next c).node = next ∧ (nodeReset next c).valid = false ∧ (nodeReset next c).queue = [] ∧ (nodeReset next c).neigh = c.neigh :=
    fun _ => ⟨rfl, rfl, rfl, rfl⟩
  rw [canopyLeave_eq]
  generalize nodeReset next = g at hg ⊢
  generalize neighboursDropped d = w at hn hk ⊢
  have hu : Keeps 33554432 w (w.setCanopy g).latchCanopy := Dev.latchCanopy_keeps _ (by decide) (Dev.setCanopy_keeps0 _ _)
  have huc : (w.setCanopy g).latchCanopy.canopy.node = next ∧ (w.setCanopy g).latchCanopy.canopy.valid = false ∧ (w.setCanopy g).latchCanopy.canopy.queue = [] ∧
      (w.setCanopy g).latchCanopy.canopy.neigh = w.canopy.neigh := hg w.canopy
  generalize (w.setCanopy g).latchCanopy = u at hu huc ⊢
  obtain ⟨h1, h2, h3, h4⟩ := huc
  obtain ⟨ha, hv, hsk⟩ := leaveShown_leaves u (decide (d.canopy.node = .member ∨ d.canopy.node = .coordinator))
  generalize leaveShown u (decide (d.canopy.node = .member ∨ d.canopy.node = .coordinator)) = x at ha hv hsk ⊢
  obtain ⟨hc, -, hwv, hwk⟩ := writeGcn_leaves x
  have hcan : x.writeGcn.canopy = u.canopy := hc.trans (hsk.get_canopy rfl)
  refine ⟨⟨by rw [hcan, h1], by rw [hcan, h2], by rw [hcan, h3], fun n => by rw [hcan, h4, hn], ?_⟩, fun k hk' => ?_, ?_⟩
  · exact (nat_of_val (hwv _ (by decide) (by decide))).trans ha
  · rw [hwv k (fun he => hk' (by rw [he]; decide)) fun he => hk' (by rw [he]; decide), hv k hk', val_of_obj (hu.get_obj rfl), val_of_obj (hk.get_obj rfl)]
  · exact (((hk.mono (by decide)).trans (hu.mono (by decide))).trans (hsk.mono (by decide))).trans (hwk.mono (by decide))

end
end Sys2Proof.Machine
end

section
/-! PROOFS. Tone maps, load reports, and reads over the mains (14 R394 to R396, R405; settles O53). -/

namespace Sys2Proof.Machine

/-! ### The pairs of a map (14 R395) -/

/-- The pairs that a map takes. -/
def pairMask (on : Fin 8 → Bool) : Nat := (List.finRange 8).foldl (fun m (j : Fin 8) => setBit m j (on j)) 0

theorem pairMask_testBit (on : Fin 8 → Bool) (k : Nat) : (pairMask on).testBit k = if h : k < 8 then on ⟨k, h⟩ else false := by
  have hl : List.finRange 8 = [0, 1, 2, 3, 4, 5, 6, 7] := by decide
  unfold pairMask
  rw [hl]
  simp only [List.foldl_cons, List.foldl_nil, testBit_setBit, Nat.zero_testBit]
  by_cases h : k < 8
  · rw [dif_pos h]
    interval_cases k <;> rfl
  · rw [dif_neg h]
    simp only [Fin.coe_ofNat_eq_mod]
    repeat rw [if_neg (by omega)]

theorem popcount_pairMask (on : Fin 8 → Bool) (g : Nat → Bool) (h : ∀ k, g k = if h : k < 8 then on ⟨k, h⟩ else false) :
    popcount (pairMask on) = ((List.range 8).filter g).length := by
  unfold popcount
  rw [show (fun i => (pairMask on).testBit i) = g from funext fun i => (pairMask_testBit on i).trans (h i).symm]

/-! ### Frames that are served (14 R387, R401) -/

/-- A protected frame of a known neighbour, for this node, that passes its checks. -/
structure FrameGood (d : Dev) (f : CnpFrame) (n : Fin 128) (x : Neigh) (w : Nat × Nat) : Prop where
  hears : d.canopyHears = true
  map : d.holdsMap f = true
  key : d.keyLoaded f n = true
  dst : f.dst.val = d.nat Key.shortAddress
  body : f.bodyOk = true
  src : d.byAddr f.src = some n
  neigh : d.canopy.neigh[n] = some x
  fresh : x.rxSeq ≠ some f.seq.val
  secured : f.secured = true
  mic : f.micOk = true
  window : Dev.counterWindow x.high x.window f.counter.toNat = some w

/-- A node that is in its network. -/
def Joined (d : Dev) : Prop := d.canopy.node = .member ∨ d.canopy.node = .coordinator

/-- The neighbour of such a frame. -/
def takenOf (d : Dev) (f : CnpFrame) (x : Neigh) (w : Nat × Nat) : Neigh :=
  { x with
    seen := d.nowUs, lastSf := d.canopy.sf, used := d.canopy.uses + 1, high := w.1, window := w.2, firstBy := none, rxSeq := some f.seq.val
    rxOld := if f.map.val = x.rxMap ∧ x.rxMap ≠ 0 then none else x.rxOld }

section
variable {d : Dev} {f : CnpFrame} {n : Fin 128} {x : Neigh} {w : Nat × Nat}

theorem notedOf_taken (h : FrameGood d f n x w) : notedOf d f x w = takenOf d f x w := by
  unfold notedOf heardOf takenOf
  rw [if_pos h.dst]

theorem canopyReceive_good (h : FrameGood d f n x w) (hj : Joined d) (serve : Fin 128 → Dev → Dev) :
    Dev.canopyReceive f true serve d = serve n (receivedFrom d n (takenOf d f x w)) := by
  have hf : FrameHeard d f n x := ⟨h.hears, hj, .inl h.dst, h.map, h.body, h.src, h.neigh, fun hn => h.fresh hn.2⟩
  rw [canopyReceive_eq hf, if_neg (by simp), if_neg (by simp [h.secured, h.mic, h.key]), h.window, ← notedOf_taken h]

end

/-- A change of the node's state after a frame was received. -/
theorem received_only {s : State} {n : Fin 128} {y : Neigh} {e : Dev} (h : Keeps 33554432 (receivedFrom s.dev n y) e) :
    Only [.canopy] [Key.framesReceived] s { s with dev := e } := by
  refine Keeps.only (M := 33554436) ((receivedFrom_keeps s.dev n y).trans (h.mono (by decide))) (by decide) fun k hk => ?_
  exact (val_of_obj (h.get_obj rfl) k).trans (receivedFrom_val s.dev n y fun he => hk (by rw [he]; decide))

theorem enqueueCnp_canopy (d : Dev) (dst : Nat) (msg : CnpMsg) (ackReq : Bool) :
    (d.enqueueCnp dst msg ackReq).canopy = { d.canopy with queue := d.canopy.queue ++ [⟨dst, msg, ackReq, 0, msg.window, 0⟩] } := rfl

/-! ### Tone maps (14 R395, R396) -/

/-- The threshold codes of a map. -/
def pairThresholds (signal : Vector Nat 8) : Bytes := (List.finRange 8).map fun (j : Fin 8) => BitVec.ofNat 8 (min 255 ((signal[j] - 300) / 5))

/-- What a TONEMAP_REQUEST of a neighbour has the node do. -/
def mapAnswered (f : CnpFrame) (id mask : Nat) (thr : Bytes) (n : Fin 128) (d : Dev) : Dev :=
  if popcount mask < 3 then d.enqueueCnp f.src (.tonemapResponse id 0 0 thr) true
  else
    let m := d.canopy.nextMap
    let d := (d.setCanopy fun c => { c with nextMap := if m = 254 then 1 else m + 1 }).modNeigh n fun x => { x with
      rxOld := some x.rxMap, rxMap := m, rxMask := mask, rxThr := thr }
    d.enqueueCnp f.src (.tonemapResponse id m mask thr) true

theorem mapAnswered_leaves (f : CnpFrame) (id mask : Nat) (thr : Bytes) (n : Fin 128) (d : Dev) {y : Neigh} (hy : d.canopy.neigh[n] = some y) :
    (mapAnswered f id mask thr n d).canopy.queue = d.canopy.queue ++ [⟨f.src.val, .tonemapResponse id (if popcount mask < 3 then 0 else d.canopy.nextMap)
        (if popcount mask < 3 then 0 else mask) thr, true, 0, 4, 0⟩] ∧
      (mapAnswered f id mask thr n d).canopy.neigh = (if popcount mask < 3 then d.canopy.neigh else d.canopy.neigh.set n (some { y with
        rxOld := some y.rxMap, rxMap := d.canopy.nextMap, rxMask := mask, rxThr := thr })) ∧ Keeps 33554432 d (mapAnswered f id mask thr n d) := by
  unfold mapAnswered
  split
  · exact ⟨rfl, rfl, Dev.enqueueCnp_keeps0 _ _ _ _⟩
  · refine ⟨rfl, ?_, Dev.enqueueCnp_keeps _ _ _ _ (by decide) (Dev.modNeigh_keeps _ _ _ (by decide) (Dev.setCanopy_keeps0 _ _))⟩
    rw [enqueueCnp_canopy]
    dsimp only
    rw [modNeigh_canopy _ _ (show (d.setCanopy _).canopy.neigh[n] = some y from hy)]
    rfl

/-- TONEMAP_REQUEST. -/
theorem tonemapRequest_answered (s : State) (f : CnpFrame) (n : Fin 128) (x : Neigh) (w : Nat × Nat) (id : Byte) (signal noise : Vector Nat 8)
    (h : FrameGood s.dev f n x w) (hj : Joined s.dev) :
    Completes (.tonemapRequest f id signal noise) s fun t =>
      let on (j : Nat) : Bool := if h : j < 8 then decide (noise[j] + 100 ≤ signal[j]) else false
      let count := ((List.range 8).filter on).length
      (∃ mask thr, (∀ j, mask.testBit j = on j) ∧ t.dev.canopy.queue = s.dev.canopy.queue ++
        [⟨f.src.val, .tonemapResponse id.toNat (if count < 3 then 0 else s.dev.canopy.nextMap) (if count < 3 then 0 else mask) thr, true, 0, 4, 0⟩] ∧
        t.dev.canopy.neigh = s.dev.canopy.neigh.set n (some (if count < 3 then takenOf s.dev f x w else { takenOf s.dev f x w with
          rxOld := some x.rxMap, rxMap := s.dev.canopy.nextMap, rxMask := mask, rxThr := thr }))) ∧ Only [.canopy] [Key.framesReceived] s t := by
  have hex : exec (.tonemapRequest f id signal noise) s =
      .next { s with dev := Dev.canopyReceive f true (mapAnswered f id.toNat (pairMask fun j => decide (noise[j] + 100 ≤ signal[j])) (pairThresholds signal)) s.dev } := rfl
  rw [canopyReceive_good h hj] at hex
  have hy := receivedFrom_neigh s.dev n (takenOf s.dev f x w)
  obtain ⟨hq, hn, hk⟩ := mapAnswered_leaves f id.toNat (pairMask fun j => decide (noise[j] + 100 ≤ signal[j])) (pairThresholds signal) n
    (receivedFrom s.dev n (takenOf s.dev f x w)) hy
  have hcan := receivedFrom_canopy s.dev n (takenOf s.dev f x w)
  refine ⟨_, hex, ?_⟩
  beta_reduce
  intro on count
  have hcount : popcount (pairMask fun j => decide (noise[j] + 100 ≤ signal[j])) = count :=
    popcount_pairMask (fun j => decide (noise[j] + 100 ≤ signal[j])) on fun k => rfl
  rw [hcan, hcount] at hq hn
  refine ⟨⟨pairMask fun j => decide (noise[j] + 100 ≤ signal[j]), pairThresholds signal, fun j => pairMask_testBit _ j, hq, hn.trans ?_⟩, received_only hk⟩
  dsimp only
  split
  · rfl
  · rw [Vector.set_set]
    rfl

/-- What a TONEMAP_RESPONSE to an own request has the node do. -/
def mapTaken (id map mask : Nat) (thr : Bytes) (n : Fin 128) (d : Dev) : Dev :=
  if (d.neighAt n).any fun x => (x.request.any fun r => r.1 = id) then
    (d.modNeigh n fun x => { x with
      txMap := if mask = 0 then 0 else map, txMask := mask, txThr := thr, mapAt := d.nowMs, request := none, failRun := 0 }).renewPayloads
  else d

/-- MaxPayload anew changes nothing else of a neighbour. -/
theorem renewPayloads_neigh (d : Dev) (n : Fin 128) : ∃ p : Neigh → Nat, d.renewPayloads.canopy.neigh[n] = (d.canopy.neigh[n]).map fun y => { y with maxPay := p y } := by
  unfold Dev.renewPayloads
  refine foldl_keeps_prop (P := fun e => ∃ p : Neigh → Nat, e.canopy.neigh[n] = (d.canopy.neigh[n]).map fun y => { y with maxPay := p y })
    (fun e m h => ?_) _ ⟨Neigh.maxPay, ?_⟩
  · obtain ⟨p, hp⟩ := h
    by_cases hm : n = m
    · subst hm
      refine ⟨fun y => maxPayloadOf (e.bitsTo { y with maxPay := p y }) e.canopy.span (e.nat Key.siteFrequency) 240, ?_⟩
      rw [modNeigh_same, hp, Option.map_map]
      rfl
    · exact ⟨p, (modNeigh_other e _ hm).trans hp⟩
  · cases d.canopy.neigh[n] <;> rfl

theorem neigh_only {a b c : Canopy} (h : a = { b with neigh := a.neigh }) (h' : c = { a with neigh := c.neigh }) : c = { b with neigh := c.neigh } :=
  h'.trans (by rw [h])

theorem modNeigh_rest (d : Dev) (n : Fin 128) (g : Neigh → Neigh) : (d.modNeigh n g).canopy = { d.canopy with neigh := (d.modNeigh n g).canopy.neigh } := rfl

theorem renewPayloads_canopy (d : Dev) : d.renewPayloads.canopy = { d.canopy with neigh := d.renewPayloads.canopy.neigh } := by
  unfold Dev.renewPayloads
  refine foldl_keeps_prop (P := fun e => e.canopy = { d.canopy with neigh := e.canopy.neigh }) (fun e m h => ?_) _ rfl
  exact neigh_only h (modNeigh_rest e m _)

/-- TONEMAP_RESPONSE. -/
theorem tonemapResponse_taken (s : State) (f : CnpFrame) (n : Fin 128) (x : Neigh) (w : Nat × Nat) (id : Byte) (map : Fin 256) (pairs : BitVec 8) (thr : Bytes)
    (by_ : Nat) (h : FrameGood s.dev f n x w) (hj : Joined s.dev) (hr : x.request = some (id.toNat, by_)) :
    Completes (.tonemapResponse f id map pairs thr) s fun t =>
      (∃ y, t.dev.canopy.neigh[n] = some y ∧ y.txMap = (if pairs = 0 then 0 else map.val) ∧ y.txMask = pairs.toNat ∧ y.txThr = thr ∧ y.request = none ∧
        y.failRun = 0 ∧ y.mapAt = s.dev.nowMs ∧ y.high = w.1 ∧ y.long = x.long) ∧
      t.dev.canopy.queue = s.dev.canopy.queue ∧ Only [.canopy] [Key.framesReceived] s t := by
  have hex : exec (.tonemapResponse f id map pairs thr) s =
      .next { s with dev := Dev.canopyReceive f true (mapTaken id.toNat map pairs.toNat thr) s.dev } := rfl
  rw [canopyReceive_good h hj] at hex
  have hy := receivedFrom_neigh s.dev n (takenOf s.dev f x w)
  have hcan := receivedFrom_canopy s.dev n (takenOf s.dev f x w)
  have hrk := receivedFrom_keeps s.dev n (takenOf s.dev f x w)
  have honly := fun (e : Dev) (hk : Keeps 33554432 (receivedFrom s.dev n (takenOf s.dev f x w)) e) => received_only (s := s) hk
  generalize hd : receivedFrom s.dev n (takenOf s.dev f x w) = d at *
  have hreq : ((d.neighAt n).any fun x => (x.request.any fun r => r.1 = id.toNat)) = true := by
    unfold Dev.neighAt
    rw [hy]
    simp only [takenOf, Option.any_some, hr, decide_true]
  have hms : d.nowMs = s.dev.nowMs := congrArg Dict.tick (hrk.get_dict rfl)
  unfold mapTaken at hex
  rw [if_pos hreq, hms] at hex
  have hmk : Keeps 33554432 d (d.modNeigh n fun x => { x with
      txMap := if pairs.toNat = 0 then 0 else map.val, txMask := pairs.toNat, txThr := thr, mapAt := s.dev.nowMs, request := none, failRun := 0 }) := Dev.modNeigh_keeps0 _ _ _
  have hm := modNeigh_canopy d (n := n) (fun x => { x with
      txMap := if pairs.toNat = 0 then 0 else map.val, txMask := pairs.toNat, txThr := thr, mapAt := s.dev.nowMs, request := none, failRun := 0 }) hy
  generalize (d.modNeigh n fun x => { x with
      txMap := if pairs.toNat = 0 then 0 else map.val, txMask := pairs.toNat, txThr := thr, mapAt := s.dev.nowMs, request := none, failRun := 0 }) = e at *
  obtain ⟨p, hp⟩ := renewPayloads_neigh e n
  have hq : e.renewPayloads.canopy.queue = s.dev.canopy.queue := by rw [renewPayloads_canopy, hm, hcan]
  have hpairs : (pairs.toNat = 0) = (pairs = 0) := propext ⟨fun hp => BitVec.eq_of_toNat_eq hp, fun hp => by rw [hp]; rfl⟩
  refine ⟨_, hex, ⟨_, hp.trans (by rw [hm]; exact congrArg _ (Vector.getElem_set_self _)), ?_⟩, hq, honly _ (hmk.trans (Dev.renewPayloads_keeps0 _))⟩
  exact ⟨by simp only [hpairs], rfl, rfl, rfl, rfl, rfl, rfl, rfl⟩

/-- What a tone-map request that goes out leaves. -/
def Asked (d e : Dev) (n : Fin 128) (x : Neigh) : Prop :=
  e.canopy = { d.canopy with
    requestId := (d.canopy.requestId + 1) % 256
    neigh := d.canopy.neigh.set n (some { x with request := some ((d.canopy.requestId + 1) % 256, d.canopy.sf + 1) })
    queue := d.canopy.queue ++ [⟨x.addr, .tonemapRequest ((d.canopy.requestId + 1) % 256), true, 0, 4, 0⟩] }

theorem askMap_asked {d : Dev} {n : Fin 128} {x : Neigh} (h : d.canopy.neigh[n] = some x) : Asked d (d.askMap n) n x := by
  unfold Dev.askMap Dev.neighAt
  rw [h]
  dsimp only
  unfold Asked
  rw [enqueueCnp_canopy]
  generalize hw : (d.setCanopy fun c => { c with requestId := (d.canopy.requestId + 1) % 256 }) = w
  have hwc : w.canopy = { d.canopy with requestId := (d.canopy.requestId + 1) % 256 } := by rw [← hw]; rfl
  rw [modNeigh_canopy w (x := x) _ (by rw [hwc]; exact h), hwc]
  rfl

/-- A refresh of a neighbour's map that none is under way for. -/
theorem refreshMap_asked {d : Dev} {n : Fin 128} {x : Neigh} (h : d.canopy.neigh[n] = some x) (hr : x.request = none) : Asked d (d.refreshMap n) n x ∧
    (d.refreshMap n).nat Key.toneMapRefreshCount = min (d.nat Key.toneMapRefreshCount + 1) (Dev.top Key.toneMapRefreshCount) := by
  have heq : d.refreshMap n = (d.bump Key.toneMapRefreshCount).askMap n := by
    unfold Dev.refreshMap Dev.neighAt
    rw [h]
    dsimp only
    rw [if_neg (by rw [hr]; decide)]
  have hcan := bump_canopy d Key.toneMapRefreshCount
  have hask := askMap_asked (d := d.bump Key.toneMapRefreshCount) (n := n) (x := x) (by rw [hcan]; exact h)
  have hk := Dev.askMap_keeps0 (d.bump Key.toneMapRefreshCount) n
  rw [heq]
  refine ⟨?_, (nat_of_val (val_of_obj (hk.get_obj rfl) _)).trans (Dev.nat_bump _ _ _)⟩
  unfold Asked at hask ⊢
  rw [hask, hcan]

theorem refreshMap_val (d : Dev) (n : Fin 128) {k : Nat} (h : k ≠ Key.toneMapRefreshCount) : (d.refreshMap n).val k = d.val k := by
  unfold Dev.refreshMap
  split
  · split
    · rfl
    · exact (val_of_obj ((Dev.askMap_keeps0 _ n).get_obj rfl) k).trans (Dev.val_bump_other _ _ (Ne.symm h))
  · rfl

/-- TONEMAP_REFRESH. -/
theorem tonemapRefresh_asks (s : State) (n : Fin 128) (x : Neigh) (hu : s.dev.canopyUp = true) (hj : Joined s.dev) (h : s.dev.canopy.neigh[n] = some x)
    (hr : x.request = none) :
    Completes (.tonemapRefresh n) s fun t =>
      if x.mapAt + 1000 * s.dev.canopy.refreshS ≤ s.dev.nowMs ∨ 3 ≤ x.failRun then
        Asked s.dev t.dev n x ∧ t.dev.nat Key.toneMapRefreshCount = min (s.dev.nat Key.toneMapRefreshCount + 1) (Dev.top Key.toneMapRefreshCount) ∧
        Only [.canopy] [Key.toneMapRefreshCount] s t
      else t = s := by
  have hex : exec (.tonemapRefresh n) s = .next { s with dev := Dev.tonemapRefresh n s.dev } := rfl
  have heq : Dev.tonemapRefresh n s.dev =
      if x.mapAt + 1000 * s.dev.canopy.refreshS ≤ s.dev.nowMs ∨ 3 ≤ x.failRun then s.dev.refreshMap n else s.dev := by
    unfold Dev.tonemapRefresh Dev.neighAt
    rw [h]
    dsimp only
    by_cases hc : x.mapAt + 1000 * s.dev.canopy.refreshS ≤ s.dev.nowMs ∨ 3 ≤ x.failRun
    · rw [if_pos hc, if_pos ⟨hu, hj, hc⟩]
    · rw [if_neg hc, if_neg fun hn => hc hn.2.2]
  rw [heq] at hex
  obtain ⟨hask, hcount⟩ := refreshMap_asked h hr
  refine ⟨_, hex, ?_⟩
  dsimp only
  split
  · exact ⟨hask, hcount, (Dev.refreshMap_keeps0 s.dev n).only (by decide) fun k hk => refreshMap_val _ _ fun he => hk (by rw [he]; decide)⟩
  · rfl

/-- TONEMAP_REQUEST_RETRY. -/
theorem tonemapRetry_asks (s : State) (n : Fin 128) (x : Neigh) (id by_ : Nat) (hu : s.dev.canopyUp = true) (h : s.dev.canopy.neigh[n] = some x)
    (hr : x.request = some (id, by_)) :
    Completes (.tonemapRequestRetry n) s fun t => if by_ < s.dev.canopy.sf then Asked s.dev t.dev n x ∧ Only [.canopy] [] s t else t = s := by
  have hex : exec (.tonemapRequestRetry n) s = .next { s with dev := Dev.tonemapRetry n s.dev } := rfl
  have heq : Dev.tonemapRetry n s.dev = if by_ < s.dev.canopy.sf then s.dev.askMap n else s.dev := by
    unfold Dev.tonemapRetry Dev.neighAt
    rw [h]
    simp only [hu, hr, Option.any_some, true_and, decide_eq_true_eq]
  rw [heq] at hex
  have hk := Dev.askMap_keeps0 s.dev n
  refine ⟨_, hex, ?_⟩
  dsimp only
  split
  · exact ⟨askMap_asked h, hk.only_nil (by decide) rfl⟩
  · rfl

/-! ### Tone maps refreshed together (14 R396, R407) -/

/-- A refresh leaves its neighbour with a request, and no other neighbour changed. -/
theorem refreshMap_leaves (d : Dev) (n : Fin 128) : (∀ m : Fin 128, m ≠ n → (d.refreshMap n).canopy.neigh[m] = d.canopy.neigh[m]) ∧
    ((d.refreshMap n).canopy.neigh[n]).isSome = (d.canopy.neigh[n]).isSome ∧ (∀ y ∈ (d.refreshMap n).canopy.neigh[n], y.request.isSome = true) ∧
    (d.refreshMap n).canopy.node = d.canopy.node := by
  cases hx : d.canopy.neigh[n] with
  | none =>
    have heq : d.refreshMap n = d := by
      unfold Dev.refreshMap Dev.neighAt
      rw [hx]
    rw [heq, hx]
    exact ⟨fun _ _ => rfl, rfl, fun y hy => absurd hy (by simp), rfl⟩
  | some x =>
    cases hr : x.request with
    | some r =>
      have heq : d.refreshMap n = d := by
        unfold Dev.refreshMap Dev.neighAt
        rw [hx]
        dsimp only
        rw [if_pos (by rw [hr]; rfl)]
      rw [heq, hx]
      refine ⟨fun _ _ => rfl, rfl, fun y hy => ?_, rfl⟩
      rw [Option.mem_some_iff] at hy
      rw [← hy, hr]
      rfl
    | none =>
      have hask := (refreshMap_asked hx hr).1
      unfold Asked at hask
      have hself : (d.refreshMap n).canopy.neigh[n] = some { x with request := some ((d.canopy.requestId + 1) % 256, d.canopy.sf + 1) } := by
        rw [hask]
        exact Vector.getElem_set_self _
      refine ⟨fun m hm => ?_, by rw [hself]; rfl, fun y hy => ?_, by rw [hask]⟩
      · rw [hask]
        exact Vector.getElem_set_ne n.isLt m.isLt fun he => hm (Fin.ext he.symm)
      · rw [hself, Option.mem_some_iff] at hy
        rw [← hy]
        rfl

/-- Every map asked for anew. -/
def mapsRefreshed (d : Dev) : Dev := (List.finRange 128).foldl (fun (d : Dev) n => d.refreshMap n) d

theorem mapsRefreshed_neigh (d : Dev) (n : Fin 128) : ((mapsRefreshed d).canopy.neigh[n]).isSome = (d.canopy.neigh[n]).isSome ∧
    ∀ y ∈ (mapsRefreshed d).canopy.neigh[n], y.request.isSome = true := by
  unfold mapsRefreshed
  have key : ∀ (l : List (Fin 128)) (e : Dev), (e.canopy.neigh[n]).isSome = (d.canopy.neigh[n]).isSome →
      n ∈ l ∨ (∀ y ∈ e.canopy.neigh[n], y.request.isSome = true) →
      ((l.foldl (fun (d : Dev) n => d.refreshMap n) e).canopy.neigh[n]).isSome = (d.canopy.neigh[n]).isSome ∧
        ∀ y ∈ (l.foldl (fun (d : Dev) n => d.refreshMap n) e).canopy.neigh[n], y.request.isSome = true := by
    intro l
    induction l with
    | nil => exact fun e hs h => ⟨hs, h.resolve_left (by simp)⟩
    | cons a l ih =>
      intro e hs h
      obtain ⟨hother, hsome, hreq, -⟩ := refreshMap_leaves e a
      by_cases ha : n = a
      · subst ha
        exact ih _ (hsome.trans hs) (.inr hreq)
      · refine ih _ (by rw [hother n ha]; exact hs) (h.imp (fun h => (List.mem_cons.1 h).resolve_left ha) fun h => ?_)
        rw [hother n ha]
        exact h
  exact key _ d rfl (.inl (List.mem_finRange n))

theorem mapsRefreshed_leaves (d : Dev) : (mapsRefreshed d).canopy.node = d.canopy.node ∧
    (∀ k, k ≠ Key.toneMapRefreshCount → (mapsRefreshed d).val k = d.val k) ∧ Keeps 33554436 d (mapsRefreshed d) := by
  unfold mapsRefreshed
  refine foldl_keeps_prop (P := fun e => e.canopy.node = d.canopy.node ∧ (∀ k, k ≠ Key.toneMapRefreshCount → e.val k = d.val k) ∧ Keeps 33554436 d e)
    (fun e n h => ?_) _ ⟨rfl, fun _ _ => rfl, .refl _ _⟩
  exact ⟨(refreshMap_leaves e n).2.2.2.trans h.1, fun k hk => (refreshMap_val e n hk).trans (h.2.1 k hk), h.2.2.trans (Dev.refreshMap_keeps0 e n)⟩

theorem canopyUp_admitted (d : Dev) (m : HostMsg) : (d.admitted m).canopyUp = d.canopyUp := by
  unfold Dev.canopyUp Dev.powered Dev.rail
  rw [running_congr d .canopy (Dev.admitted_same d m .cores (by decide) (by decide)).symm, (Dev.admitted_same d m .power (by decide) (by decide)).symm,
    (Dev.admitted_same d m .clocks (by decide) (by decide)).symm]

/-- REFRESH_TONE_MAPS. -/
theorem refreshToneMaps_served (s : State) (m : HostMsg) (data : Bytes) (h : s.dev.grants m = true) (ht : takes Key.refreshToneMaps data = true)
    (hu : s.dev.canopyUp = true) :
    Completes (.refreshToneMaps m data) s fun t =>
      (∀ n : Fin 128, (t.dev.canopy.neigh[n]).isSome = (s.dev.canopy.neigh[n]).isSome ∧ ∀ y ∈ t.dev.canopy.neigh[n], y.request.isSome = true) ∧
      t.dev.canopy.node = s.dev.canopy.node ∧ Served m (.done Key.refreshToneMaps) [.canopy] [Key.toneMapRefreshCount] s t := by
  have hcan : (s.dev.admitted m).canopy = s.dev.canopy := (Dev.admitted_same s.dev m .canopy (by decide) (by decide)).symm
  have hex : exec (.refreshToneMaps m data) s =
      .next { s with dev := (mapsRefreshed (s.dev.admitted m)).ok ((s.dev.admitted m).ackOf m Key.refreshToneMaps) } := by
    show State.onDev s _ = _
    rw [State.onDev, cmdWrite_granted h ht]
    unfold refreshToneMapsServe
    rw [if_neg (by rw [canopyUp_admitted, hu]; decide)]
    rfl
  have hneigh := mapsRefreshed_neigh (s.dev.admitted m)
  obtain ⟨hnode, hval, hk⟩ := mapsRefreshed_leaves (s.dev.admitted m)
  rw [hcan] at hneigh hnode
  generalize mapsRefreshed (s.dev.admitted m) = e at *
  have hok : (e.ok ((s.dev.admitted m).ackOf m Key.refreshToneMaps)).canopy = e.canopy := (Dev.ok_keeps0 e _).get_canopy rfl
  refine ⟨_, hex, fun n => ?_, ?_, served_ok (M := 33554436) _ (grants_iff.1 h).1 hk (by decide) (by decide) (fun k hk => hval k (by simpa using hk)) (by decide)⟩
  · dsimp only
    rw [hok]
    exact hneigh n
  · dsimp only
    rw [hok]
    exact hnode

/-! ### Load reports and reads (14 R394, R405) -/

/-- What a LOAD_REPORT of a neighbour has the coordinator do. -/
def reportKept (phase : Nat) (draw limit : Vector Nat 3) (n : Fin 128) (d : Dev) : Dev :=
  if d.canopy.node = .coordinator then d.modNeigh n fun x => { x with phase := phase % 8, report := some (d.canopy.sf, draw.toList, limit.toList) } else d

/-- LOAD_REPORT at the coordinator. -/
theorem loadReport_kept (s : State) (f : CnpFrame) (n : Fin 128) (x : Neigh) (w : Nat × Nat) (phase : Nat) (draw limit : Vector Nat 3)
    (h : FrameGood s.dev f n x w) (hc : s.dev.canopy.node = .coordinator) :
    Completes (.loadReport f phase draw limit) s fun t =>
      t.dev.canopy.neigh = s.dev.canopy.neigh.set n (some { takenOf s.dev f x w with
        phase := phase % 8, report := some (s.dev.canopy.sf, draw.toList, limit.toList) }) ∧
      t.dev.canopy.queue = s.dev.canopy.queue ∧ Only [.canopy] [Key.framesReceived] s t := by
  have hex : exec (.loadReport f phase draw limit) s =
      .next { s with dev := Dev.canopyReceive f true (reportKept phase draw limit) s.dev } := rfl
  have hcan := receivedFrom_canopy s.dev n (takenOf s.dev f x w)
  have hnode : (receivedFrom s.dev n (takenOf s.dev f x w)).canopy.node = .coordinator := by rw [hcan, ← hc]
  rw [canopyReceive_good h (.inr hc), reportKept, if_pos hnode] at hex
  have hmod := modNeigh_canopy (receivedFrom s.dev n (takenOf s.dev f x w))
    (fun y => { y with phase := phase % 8, report := some ((receivedFrom s.dev n (takenOf s.dev f x w)).canopy.sf, draw.toList, limit.toList) })
    (receivedFrom_neigh s.dev n (takenOf s.dev f x w))
  refine ⟨_, hex, ?_, ?_, received_only (Dev.modNeigh_keeps0 _ _ _)⟩
  · dsimp only
    rw [hmod, hcan]
    exact Vector.set_set _ _
  · dsimp only
    rw [hmod, hcan]

/-- LOAD_REPORT_SEND. -/
theorem loadReportSend_leaves (s : State) (hu : s.dev.canopyUp = true) (hm : s.dev.canopy.node = .member) :
    Completes .loadReportSend s fun t =>
      if s.dev.canopy.lastReport + s.dev.canopy.reportEvery ≤ s.dev.canopy.sf then
        (∃ phase dr li, t.dev.canopy = { s.dev.canopy with
          lastReport := s.dev.canopy.sf, queue := s.dev.canopy.queue ++ [⟨0, .loadReport phase dr li, true, 0, 8, 0⟩] } ∧
          (dr, li) = s.dev.ownLoad) ∧ Only [.canopy] [] s t
      else t = s := by
  have hex : exec .loadReportSend s = .next { s with dev := s.dev.loadReportSend } := rfl
  have hk := Dev.loadReportSend_keeps0 s.dev
  by_cases hd : s.dev.canopy.lastReport + s.dev.canopy.reportEvery ≤ s.dev.canopy.sf
  · have heq : s.dev.loadReportSend = (s.dev.setCanopy fun c => { c with lastReport := c.sf }).enqueueCnp 0
        (.loadReport (s.dev.nat Key.phaseCode + (if s.dev.flag Key.reversedOrLineToLine then 4 else 0)) s.dev.ownLoad.1 s.dev.ownLoad.2) true := by
      unfold Dev.loadReportSend
      rw [if_pos ⟨hu, hm, hd⟩]
    rw [heq] at hex hk
    refine ⟨_, hex, ?_⟩
    beta_reduce
    rw [if_pos hd]
    exact ⟨⟨_, _, _, rfl, rfl⟩, hk.only_nil (by decide) (by decide)⟩
  · have heq : s.dev.loadReportSend = s.dev := by
      unfold Dev.loadReportSend
      rw [if_neg fun hn => hd hn.2.2]
    rw [heq] at hex
    refine ⟨_, hex, ?_⟩
    beta_reduce
    rw [if_neg hd]

theorem length_appEntries (limit : Nat) (l : List (Nat × Bytes)) : ∀ used, (Dev.appEntries limit used l).length = l.length := by
  induction l with
  | nil => exact fun _ => rfl
  | cons x l ih =>
    obtain ⟨c, b⟩ := x
    intro used
    unfold Dev.appEntries
    split
    · rw [List.length_cons, ih, List.length_cons]
    · exact List.length_map _

/-- A read that is allowed: its values, in entries that fit the limit, wait to be sent back (R401). -/
def answeredRead (e : Dev) (f : CnpFrame) (id : Byte) (refs : List Word) (limit : Nat) : Dev :=
  e.enqueueCnp f.src (.appResponse id.toNat (Dev.appEntries limit 13 ((refs.map fun r => r.toNat).map e.appValue))) true

/-- APP_READ at a member. -/
theorem appRead_answered (s : State) (f : CnpFrame) (n : Fin 128) (x : Neigh) (w : Nat × Nat) (id : Byte) (refs : List Word)
    (h : FrameGood s.dev f n x w) (hm : s.dev.canopy.node = .member) (h1 : 1 ≤ refs.length) (h16 : refs.length ≤ 16) :
    Completes (.appRead f id refs) s fun t =>
      (if f.src.val = 0 ∧ s.dev.canopy.mayRead = true then
        ∃ l, t.dev.canopy.queue = s.dev.canopy.queue ++ [⟨f.src.val, .appResponse id.toNat l, true, 0, 16, 0⟩] ∧ l.length = refs.length
      else t.dev.canopy.queue = s.dev.canopy.queue) ∧
      t.dev.canopy.neigh = s.dev.canopy.neigh.set n (some (takenOf s.dev f x w)) ∧ Only [.canopy] [Key.framesReceived] s t := by
  have hex : exec (.appRead f id refs) s = .next { s with dev := Dev.appRead f id.toNat (refs.map fun r => r.toNat) s.dev } := rfl
  unfold Dev.appRead at hex
  rw [canopyReceive_good h (.inl hm)] at hex
  have hcan := receivedFrom_canopy s.dev n (takenOf s.dev f x w)
  have honly := fun (e : Dev) (hk : Keeps 33554432 (receivedFrom s.dev n (takenOf s.dev f x w)) e) => received_only (s := s) hk
  generalize receivedFrom s.dev n (takenOf s.dev f x w) = e at *
  have hlen : ¬ (refs.map fun r => r.toNat).length = 0 ∧ ¬ 16 < (refs.map fun r => r.toNat).length := by
    rw [List.length_map]
    omega
  have hnode : e.canopy.node = .member := by rw [hcan, ← hm]
  have hread : e.canopy.mayRead = s.dev.canopy.mayRead := by rw [hcan]
  by_cases hc : f.src.val = 0 ∧ s.dev.canopy.mayRead = true
  · rw [if_neg (by
      rintro (hn | hn | hn | hn | hn)
      · exact hn hc.1
      · exact hn hnode
      · rw [hread, hc.2] at hn
        exact absurd hn (by decide)
      · exact hlen.1 hn
      · exact hlen.2 hn)] at hex
    obtain ⟨limit, hex⟩ : ∃ limit, exec (.appRead f id refs) s = .next { s with dev := answeredRead e f id refs limit } := ⟨_, hex⟩
    refine ⟨_, hex, ?_, ?_, honly _ (Dev.enqueueCnp_keeps0 _ _ _ _)⟩
    · rw [if_pos hc]
      refine ⟨Dev.appEntries limit 13 ((refs.map fun r => r.toNat).map e.appValue), ?_, ?_⟩
      · dsimp only
        rw [answeredRead, enqueueCnp_canopy, hcan]
        rfl
      · rw [length_appEntries, List.length_map, List.length_map]
    · dsimp only
      rw [answeredRead, enqueueCnp_canopy, hcan]
  · rw [if_pos (by
      rw [hread]
      by_cases h0 : f.src.val = 0
      · exact .inr (.inr (.inl (by simpa using fun hn => hc ⟨h0, hn⟩)))
      · exact .inl h0)] at hex
    refine ⟨_, hex, ?_, ?_, honly _ (.refl _ _)⟩
    · rw [if_neg hc, hcan]
    · dsimp only
      rw [hcan]

/-- APP_RESPONSE. -/
theorem appResponse_taken (s : State) (f : CnpFrame) (n : Fin 128) (x : Neigh) (w : Nat × Nat) (id : Byte) (values : Bytes)
    (h : FrameGood s.dev f n x w) (hj : Joined s.dev) :
    Completes (.appResponse f id values) s fun t =>
      t.dev.canopy.neigh = s.dev.canopy.neigh.set n (some (takenOf s.dev f x w)) ∧ t.dev.canopy.queue = s.dev.canopy.queue ∧
      Only [.canopy] [Key.framesReceived] s t := by
  have hex : exec (.appResponse f id values) s = .next { s with dev := Dev.canopyReceive f true (fun _ d => d) s.dev } := rfl
  rw [canopyReceive_good h hj] at hex
  have hcan := receivedFrom_canopy s.dev n (takenOf s.dev f x w)
  refine ⟨_, hex, ?_, ?_, received_only (.refl _ _)⟩
  · dsimp only
    rw [hcan]
  · dsimp only
    rw [hcan]

/-- Settles O53: tone maps, load reports, reads over the mains. -/
theorem toneMapsAndReports : Obligations.ToneMapsAndReports := by
  unfold Obligations.ToneMapsAndReports
  intro good noted in_ asked
  have hgood : ∀ {d : Dev} {f : CnpFrame} {n : Fin 128} {x : Neigh} {w : Nat × Nat}, good d f n x w → FrameGood d f n x w :=
    fun ⟨h1, h2, h3, h4, h5, h6, h7, h8, h9, h10, h11⟩ => ⟨h1, h2, h3, h4, h5, h6, h7, h8, h9, h10, h11⟩
  exact ⟨fun s f n x w id signal noise h hj => tonemapRequest_answered s f n x w id signal noise (hgood h) hj,
    fun s f n x w id map pairs thr by_ h hj hr => tonemapResponse_taken s f n x w id map pairs thr by_ (hgood h) hj hr,
    tonemapRefresh_asks, tonemapRetry_asks, refreshToneMaps_served,
    fun s f n x w phase draw limit h hc => loadReport_kept s f n x w phase draw limit (hgood h) hc, loadReportSend_leaves,
    fun s f n x w id refs h hm h1 h16 => appRead_answered s f n x w id refs (hgood h) hm h1 h16,
    fun s f n x w id values h hj => appResponse_taken s f n x w id values (hgood h) hj⟩

end Sys2Proof.Machine
end

section
/-! PROOFS. Frames that are sent, acknowledged, sent again and dropped (14 R385 to R388, R401; settles O52). -/

namespace Sys2Proof.Machine

/-! ### Listening (14 R373, R385) -/

section
variable (d : Dev) (heard : List HeardSym)

theorem listen_canopy : (d.listen heard).canopy = { d.canopy with medium := (d.listen heard).canopy.medium } := by
  unfold Dev.listen
  split
  · rfl
  · dsimp only
    rw [(Dev.bump_keeps0 _ Key.erasedSymbols _).get_canopy rfl]
    rfl

theorem listen_val {k : Nat} (h : k ≠ Key.erasedSymbols) : (d.listen heard).val k = d.val k := by
  unfold Dev.listen
  split
  · rfl
  · exact Dev.val_bump_other _ _ (Ne.symm h)

theorem canopyTalks_congr {d e : Dev} (hk : Keeps 33554436 d e) (hr : e.canopy.resume = d.canopy.resume) : e.canopyTalks = d.canopyTalks := by
  unfold Dev.canopyTalks Dev.canopyUp Dev.powered Dev.rail Dev.passes
  rw [running_congr d .canopy (hk.get_cores rfl), hk.get_power rfl, hk.get_clocks rfl, hk.get_crossings rfl, hr]

theorem canopyRange_congr {d e : Dev} (hv : ∀ k ∈ [Key.canopyEnable, Key.siteReferenceState, Key.siteFrequency], e.val k = d.val k) :
    e.canopyRange = d.canopyRange := by
  unfold Dev.canopyRange
  rw [flag_of_val (hv Key.canopyEnable (by decide)), nat_of_val (hv Key.siteReferenceState (by decide)), nat_of_val (hv Key.siteFrequency (by decide))]

end

/-! ### A frame sent (14 R385 to R387) -/

section
variable (d : Dev)

/-- What the sending of a frame keeps of the engine: the frames that wait, the one that waits for its ACK, the node, and the NIF that follows. -/
def LineKept (e : Dev) : Prop :=
  e.canopy.queue = d.canopy.queue ∧ e.canopy.wait = d.canopy.wait ∧ e.canopy.node = d.canopy.node ∧ e.canopy.nifFollows = d.canopy.nifFollows

theorem LineKept.trans {d e f : Dev} (h : LineKept d e) (h' : LineKept e f) : LineKept d f :=
  ⟨h'.1.trans h.1, h'.2.1.trans h.2.1, h'.2.2.1.trans h.2.2.1, h'.2.2.2.trans h.2.2.2⟩

theorem modNeigh_line (n : Fin 128) (g : Neigh → Neigh) : LineKept d (d.modNeigh n g) := ⟨rfl, rfl, rfl, rfl⟩

theorem nextCounter_line (dst : Nat) (msg : CnpMsg) : LineKept d (d.nextCounter dst msg).2 := by
  unfold Dev.nextCounter
  split
  · exact modNeigh_line _ _ _
  · exact foldl_keeps_prop (P := LineKept d) (fun e n h => h.trans (modNeigh_line _ _ _)) _ ⟨rfl, rfl, rfl, rfl⟩

/-- The frame is counted, and goes out as the symbols of its transmission. -/
def aired (tx : CnpTx) (counter : Option Nat) (air : List Sym) (map : Nat) : Dev :=
  ((d.bump Key.framesSent).setAir d.nowUs air.length).say (.canopy (d.nat Key.shortAddress) tx.dst tx.seq tx.ackReq map counter tx.msg air)

theorem aired_line (tx : CnpTx) (counter : Option Nat) (air : List Sym) (map : Nat) : LineKept d (aired d tx counter air map) := by
  have h : (aired d tx counter air map).canopy = { d.canopy with air := some (d.nowUs, air.length) } :=
    congrArg (fun c : Canopy => { c with air := some (d.nowUs, air.length) }) (bump_canopy d Key.framesSent)
  rw [LineKept, h]
  exact ⟨rfl, rfl, rfl, rfl⟩

theorem aired_val (tx : CnpTx) (counter : Option Nat) (air : List Sym) (map : Nat) {k : Nat} (h : k ≠ Key.framesSent) :
    (aired d tx counter air map).val k = d.val k := Dev.val_bump_other d 1 (Ne.symm h)

theorem emit_says (tx : CnpTx) (ht : d.canopyTalks = true) (hk : tx.msg.secured = true → (d.frameKey tx.dst tx.msg).isSome = true) :
    LineKept d (d.emit tx) ∧ (∃ (counter : Option Nat) (air : List Sym), counter.isSome = tx.msg.secured ∧ (d.emit tx).out =
      d.out ++ [.canopy (d.nat Key.shortAddress) tx.dst tx.seq tx.ackReq (d.frameMap tx.dst tx.msg) counter tx.msg air]) ∧
    ∀ k, k ≠ Key.framesSent → (d.emit tx).val k = d.val k := by
  have hout : ∀ (e : Dev) c a m, (aired e tx c a m).out = e.out ++ [.canopy (e.nat Key.shortAddress) tx.dst tx.seq tx.ackReq m c tx.msg a] := fun e c a m =>
    congrArg (· ++ _) ((Dev.setAir_keeps0 _ _ _).get_out rfl |>.trans ((Dev.bump_keeps0 e Key.framesSent 1).get_out rfl))
  cases hs : tx.msg.secured with
  | false =>
    have heq : d.emit tx = aired d tx none (d.frameAir tx.dst tx.seq (d.frameMap tx.dst tx.msg) tx.ackReq none [] tx.msg) (d.frameMap tx.dst tx.msg) := by
      unfold Dev.emit
      simp only [ht, hs]
      rfl
    rw [heq]
    exact ⟨aired_line _ _ _ _ _, ⟨none, _, rfl, hout _ _ _ _⟩, fun k h => aired_val _ _ _ _ _ h⟩
  | true =>
    obtain ⟨key, hkey⟩ := Option.isSome_iff_exists.1 (hk hs)
    have heq : d.emit tx = aired (d.nextCounter tx.dst tx.msg).2 tx (some (d.nextCounter tx.dst tx.msg).1)
        (d.frameAir tx.dst tx.seq (d.frameMap tx.dst tx.msg) tx.ackReq (some (d.nextCounter tx.dst tx.msg).1) key tx.msg) (d.frameMap tx.dst tx.msg) := by
      unfold Dev.emit
      simp only [ht, hs, hkey]
      rfl
    have hn := Dev.nextCounter_keeps0 d tx.dst tx.msg
    generalize d.frameAir tx.dst tx.seq (d.frameMap tx.dst tx.msg) tx.ackReq (some (d.nextCounter tx.dst tx.msg).1) key tx.msg = air at heq
    rw [heq]
    refine ⟨(nextCounter_line _ _ _).trans (aired_line _ _ _ _ _), ⟨some (d.nextCounter tx.dst tx.msg).1, air, rfl, (hout _ _ _ _).trans ?_⟩,
      fun k h => (aired_val _ _ _ _ _ h).trans (val_of_obj (hn.get_obj rfl) k)⟩
    rw [hn.get_out rfl, nat_of_val (val_of_obj (hn.get_obj rfl) _)]

theorem relink_line (n : Fin 128) : (∃ l, (d.relink n).canopy.queue = d.canopy.queue ++ l) ∧ (d.relink n).canopy.wait = d.canopy.wait ∧
    (d.relink n).canopy.node = d.canopy.node := by
  unfold Dev.relink
  split
  · split
    · exact ⟨⟨[], (List.append_nil _).symm⟩, rfl, rfl⟩
    · exact ⟨⟨_, rfl⟩, rfl, rfl⟩
  · exact ⟨⟨[], (List.append_nil _).symm⟩, rfl, rfl⟩

/-- The Sequence of a frame: the one it had, or the next of its neighbour (R387). -/
def seqOf (tx : CnpTx) : Nat :=
  if tx.tries ≠ 0 then tx.seq else match d.byAddr tx.dst with
    | some n => match d.neighAt n with | some x => (x.txSeq + 1) % 16 | none => 0
    | none => 0

/-- The frame as it goes out. -/
def triedOf (tx : CnpTx) : CnpTx := { tx with seq := seqOf d tx, tries := tx.tries + 1 }

/-- Its neighbour has its Sequence, and a repetition is counted. -/
def seqNoted (tx : CnpTx) : Dev :=
  let e := d.atNeigh (d.byAddr tx.dst) fun n d => d.modNeigh n fun x => { x with txSeq := (triedOf d tx).seq }
  if 1 < (triedOf d tx).tries then e.bump Key.retransmitCount else e

/-- The frame is out, and a key at its end is made anew. -/
def frameOut (tx : CnpTx) : Dev :=
  ((seqNoted d tx).emit (triedOf d tx)).atNeigh (d.byAddr tx.dst) fun n d => d.relink n

/-- What a request to join notes. -/
def requestNoted (tx : CnpTx) : Dev := d.setCanopy fun c => { c with
  lastToCoord := if tx.dst = 0 then c.sf else c.lastToCoord
  joinBy := match tx.msg with | .joinRequest .. => c.sf + 2 | _ => c.joinBy
  tries := match tx.msg with | .joinRequest .. => c.tries + 1 | _ => c.tries }

/-- A joining node that has sent its first protected frame is a member (R399). -/
def joinedBy (node : NodeState) (tx : CnpTx) : Dev :=
  if node = .joining ∧ tx.msg.secured then
    ((d.setCanopy fun c => { c with node := .member, lastReport := c.sf }).bump Key.joinCount).putNat Key.joinedSince d.nowUs
  else d

/-- The frame waits for its ACK, or is done with. -/
def awaited (tx : CnpTx) (rest : List CnpTx) (till : Nat) : Dev :=
  if tx.ackReq then d.setCanopy fun c => { c with queue := tx :: rest ++ c.queue.drop (rest.length + 1), wait := some (tx, till) }
  else d.setCanopy fun c => { c with queue := rest ++ c.queue.drop (rest.length + 1) }

/-- The front frame sent. -/
def frontSent (tx : CnpTx) (rest : List CnpTx) : Dev :=
  awaited (joinedBy (requestNoted (frameOut d tx) tx) d.canopy.node tx) (triedOf d tx) rest (d.nowMs + d.airtime tx.dst tx.msg + 16)

theorem frameKey_modNeigh (n : Fin 128) {g : Neigh → Neigh} (ha : ∀ x, (g x).addr = x.addr) (hl : ∀ x, (g x).long = x.long) (dst : Nat)
    (msg : CnpMsg) : (d.modNeigh n g).frameKey dst msg = d.frameKey dst msg := by
  have hany : ∀ (p : Neigh → Bool), (∀ x, p (g x) = p x) → ∀ k, ((d.modNeigh n g).neighAt k).any p = (d.neighAt k).any p := fun p hp k => by
    unfold Dev.neighAt
    by_cases hk : k = n
    · rw [hk, modNeigh_same]
      cases d.canopy.neigh[n] with
      | none => rfl
      | some x => exact hp x
    · rw [modNeigh_other _ _ hk]
  have hpeer : (d.modNeigh n g).peerOf dst msg = d.peerOf dst msg := by
    unfold Dev.peerOf Dev.byAddr Dev.byLong
    simp only [hany (fun x => decide (x.addr = dst)) fun x => by rw [ha x], fun l : Bytes => hany (fun x => decide (x.long = l)) fun x => by rw [hl x]]
  unfold Dev.frameKey
  rw [hpeer]
  rfl

theorem seqNoted_leaves (tx : CnpTx) : LineKept d (seqNoted d tx) ∧ Keeps 33554436 d (seqNoted d tx) ∧ (seqNoted d tx).canopyTalks = d.canopyTalks ∧
    (∀ dst msg, (seqNoted d tx).frameKey dst msg = d.frameKey dst msg) ∧ (seqNoted d tx).nat Key.shortAddress = d.nat Key.shortAddress := by
  have hat : ∀ nb, let e := d.atNeigh nb fun n d => d.modNeigh n fun x => { x with txSeq := (triedOf d tx).seq }
      LineKept d e ∧ Keeps 33554432 d e ∧ e.canopy.resume = d.canopy.resume ∧ ∀ dst msg, e.frameKey dst msg = d.frameKey dst msg
    | none => ⟨⟨rfl, rfl, rfl, rfl⟩, .refl _ _, rfl, fun _ _ => rfl⟩
    | some n => ⟨⟨rfl, rfl, rfl, rfl⟩, Dev.modNeigh_keeps _ _ _ (by decide) (.refl _ _), rfl, fun _ _ => frameKey_modNeigh d n (g := fun x => { x with txSeq := (triedOf d tx).seq }) (fun _ => rfl) (fun _ => rfl) _ _⟩
  have h := hat (d.byAddr tx.dst)
  unfold seqNoted
  generalize d.atNeigh (d.byAddr tx.dst) (fun n d => d.modNeigh n fun x => { x with txSeq := (triedOf d tx).seq }) = e at h ⊢
  obtain ⟨hline, hk, hres, hkey⟩ := h
  have hall : ∀ f : Dev, f.canopy = e.canopy → Keeps 4 e f → f.val Key.shortAddress = e.val Key.shortAddress → LineKept d f ∧ Keeps 33554436 d f ∧
      f.canopyTalks = d.canopyTalks ∧ (∀ dst msg, f.frameKey dst msg = d.frameKey dst msg) ∧ f.nat Key.shortAddress = d.nat Key.shortAddress := by
    intro f hc hkf hv
    have hkd : Keeps 33554436 d f := (hk.mono (by decide)).trans (hkf.mono (by decide))
    refine ⟨?_, hkd, canopyTalks_congr hkd (by rw [hc, hres]), fun dst msg => ?_, nat_of_val (hv.trans (val_of_obj (hk.get_obj rfl) _))⟩
    · rw [LineKept, hc]
      exact hline
    · rw [← hkey dst msg]
      unfold Dev.frameKey Dev.peerOf Dev.byAddr Dev.byLong Dev.neighAt
      rw [hc, hkf.get_burl rfl]
  dsimp only
  split
  · exact hall _ (bump_canopy e _) (Dev.bump_keeps0 e Key.retransmitCount 1) (Dev.val_bump_other _ _ (by decide))
  · exact hall _ rfl (.refl _ _) rfl

theorem canopyTransmit_eq (heard : List HeardSym) {tx : CnpTx} {rest : List CnpTx} (hq : (d.listen heard).canopy.queue = tx :: rest) :
    Dev.canopyTransmit heard d =
      let e := d.listen heard
      let tx : CnpTx := { tx with ackReq := tx.ackReq && decide (e.canopy.cyc ≤ 47) }
      if !e.canopyTalks ∨ !e.canopyRange ∨ e.canopy.medium.busy ∨ e.canopy.wait.isSome ∨ e.canopy.node = .off ∨ e.canopy.node = .listening ∨ !e.mayEmit tx then e
      else frontSent e tx rest := by
  have htx : (if (d.listen heard).canopy.cyc ≤ 47 then tx else { tx with ackReq := false }) =
      { tx with ackReq := tx.ackReq && decide ((d.listen heard).canopy.cyc ≤ 47) } := by
    by_cases hc : (d.listen heard).canopy.cyc ≤ 47
    · rw [if_pos hc, decide_eq_true hc, Bool.and_true]
    · rw [if_neg hc, decide_eq_false hc, Bool.and_false]
  unfold Dev.canopyTransmit
  generalize d.listen heard = e at hq htx ⊢
  dsimp only
  rw [hq]
  dsimp only
  rw [htx]
  generalize ({ tx with ackReq := tx.ackReq && decide (e.canopy.cyc ≤ 47) } : CnpTx) = x
  unfold frontSent awaited joinedBy requestNoted frameOut seqNoted triedOf seqOf
  rfl

end

section
variable (d : Dev)

theorem frameOut_leaves (tx : CnpTx) (ht : d.canopyTalks = true) (hk : tx.msg.secured = true → (d.frameKey tx.dst tx.msg).isSome = true) :
    (∃ (map : Nat) (counter : Option Nat) (air : List Sym), counter.isSome = tx.msg.secured ∧
      (frameOut d tx).out = d.out ++ [.canopy (d.nat Key.shortAddress) tx.dst (seqOf d tx) tx.ackReq map counter tx.msg air]) ∧
    (∃ l, (frameOut d tx).canopy.queue = d.canopy.queue ++ l) ∧ (frameOut d tx).canopy.wait = d.canopy.wait ∧
    (frameOut d tx).canopy.node = d.canopy.node ∧ Keeps 33554439 d (frameOut d tx) := by
  obtain ⟨hline, hkn, htalks, hkey, hown⟩ := seqNoted_leaves d tx
  obtain ⟨hline', ⟨counter, air, hc, hout⟩, -⟩ := emit_says (seqNoted d tx) (triedOf d tx) (htalks.trans ht) fun hs => by rw [hkey]; exact hk hs
  have hemit := Dev.emit_keeps0 (seqNoted d tx) (triedOf d tx)
  obtain ⟨hq, hw, hn, -⟩ := hline.trans hline'
  have hall : Keeps 33554439 d ((seqNoted d tx).emit (triedOf d tx)) := (hkn.mono (by decide)).trans (hemit.mono (by decide))
  rw [hown, hkn.get_out rfl] at hout
  unfold frameOut
  generalize (seqNoted d tx).emit (triedOf d tx) = e at *
  cases d.byAddr tx.dst with
  | none => exact ⟨⟨_, counter, air, hc, hout⟩, ⟨[], by rw [List.append_nil]; exact hq⟩, hw, hn, hall⟩
  | some n =>
    obtain ⟨⟨l, hl⟩, hw', hn'⟩ := relink_line e n
    have hr := Dev.relink_keeps0 e n
    exact ⟨⟨_, counter, air, hc, (hr.get_out rfl).trans hout⟩, ⟨l, hl.trans (by rw [hq])⟩, hw'.trans hw, hn'.trans hn, hall.trans (hr.mono (by decide))⟩

/-- The line after a request to join and a join are noted. -/
theorem joinedBy_leaves (node : NodeState) (tx : CnpTx) : let e := joinedBy (requestNoted d tx) node tx
    e.canopy.queue = d.canopy.queue ∧ e.canopy.wait = d.canopy.wait ∧
    e.canopy.node = (if node = .joining ∧ tx.msg.secured = true then .member else d.canopy.node) ∧ e.out = d.out ∧ Keeps 33554436 d e := by
  have hk : Keeps 33554436 d (requestNoted d tx) := Dev.setCanopy_keeps _ _ (by decide) (.refl _ _)
  unfold joinedBy
  dsimp only
  split
  · have hc := ((Dev.putNat_keeps0 _ Key.joinedSince (requestNoted d tx).nowUs).get_canopy rfl).trans
      ((Dev.bump_keeps0 ((requestNoted d tx).setCanopy fun c => { c with node := .member, lastReport := c.sf }) Key.joinCount 1).get_canopy rfl)
    have hall : Keeps 33554436 d ((((requestNoted d tx).setCanopy fun c => { c with node := .member, lastReport := c.sf }).bump Key.joinCount).putNat
      Key.joinedSince (requestNoted d tx).nowUs) := Dev.putNat_keeps _ _ _ (by decide) (Dev.bump_keeps _ _ _ (by decide) (Dev.setCanopy_keeps _ _ (by decide) hk))
    rw [hc]
    exact ⟨rfl, rfl, rfl, hall.get_out rfl, hall⟩
  · exact ⟨rfl, rfl, rfl, rfl, hk⟩

theorem frontSent_leaves {tx : CnpTx} (rest : List CnpTx) (ht : d.canopyTalks = true)
    (hk : tx.msg.secured = true → (d.frameKey tx.dst tx.msg).isSome = true) (hw : d.canopy.wait = none) :
    (∃ (map : Nat) (counter : Option Nat) (air : List Sym), counter.isSome = tx.msg.secured ∧
      (frontSent d tx rest).out = d.out ++ [.canopy (d.nat Key.shortAddress) tx.dst (seqOf d tx) tx.ackReq map counter tx.msg air]) ∧
    (if tx.ackReq = true then ∃ w, (frontSent d tx rest).canopy.wait = some w ∧ (frontSent d tx rest).canopy.queue.head? = some w.1 ∧ w.1.dst = tx.dst ∧
        w.1.msg = tx.msg ∧ w.1.tries = tx.tries + 1
      else (frontSent d tx rest).canopy.wait = none) ∧
    (frontSent d tx rest).canopy.node = (if d.canopy.node = .joining ∧ tx.msg.secured = true then .member else d.canopy.node) ∧
    Keeps 33554439 d (frontSent d tx rest) := by
  obtain ⟨⟨map, counter, air, hc, hout⟩, -, hwait, hnode, hkeep⟩ := frameOut_leaves d tx ht hk
  obtain ⟨-, hwait', hnode', hout', hkeep'⟩ := joinedBy_leaves (frameOut d tx) d.canopy.node tx
  have hall : Keeps 33554439 d (joinedBy (requestNoted (frameOut d tx) tx) d.canopy.node tx) := hkeep.trans (hkeep'.mono (by decide))
  unfold frontSent awaited
  generalize joinedBy (requestNoted (frameOut d tx) tx) d.canopy.node tx = e at *
  cases ha : tx.ackReq with
  | true =>
    rw [if_pos (show (triedOf d tx).ackReq = true from ha), if_pos rfl]
    exact ⟨⟨map, counter, air, hc, hout'.trans (by rw [hout, ha])⟩, ⟨_, rfl, rfl, rfl, rfl, rfl⟩, hnode'.trans (by rw [hnode]),
      Dev.setCanopy_keeps _ _ (by decide) hall⟩
  | false =>
    rw [if_neg (show ¬ (triedOf d tx).ackReq = true from fun h => Bool.noConfusion (ha.symm.trans h)), if_neg (by decide)]
    exact ⟨⟨map, counter, air, hc, hout'.trans (by rw [hout, ha])⟩, (hwait'.trans hwait).trans hw, hnode'.trans (by rw [hnode]),
      Dev.setCanopy_keeps _ _ (by decide) hall⟩

end

/-! ### What the reactions keep (14 R386) -/

section
variable (d : Dev) (heard : List HeardSym)

theorem listen_peer (dst : Nat) (msg : CnpMsg) : (d.listen heard).peer dst msg = d.peer dst msg := by
  unfold Dev.peer Dev.peerOf Dev.byAddr Dev.byLong Dev.neighAt
  rw [listen_canopy d heard]

theorem listen_frameMap (dst : Nat) (msg : CnpMsg) : (d.listen heard).frameMap dst msg = d.frameMap dst msg := by
  unfold Dev.frameMap Dev.mapTo
  rw [listen_peer, listen_canopy d heard]

theorem listen_segmentOf (i : Nat) : (d.listen heard).segmentOf i = d.segmentOf i := by
  unfold Dev.segmentOf Dev.samples
  rw [listen_canopy d heard, nat_of_val (listen_val d heard (by decide)), nat_of_val (listen_val d heard (by decide)),
    (Dev.listen_keeps0 d heard).get_time rfl]

theorem listen_airtime (dst : Nat) (msg : CnpMsg) : (d.listen heard).airtime dst msg = d.airtime dst msg := by
  unfold Dev.airtime Dev.bodyPlan
  simp only [listen_frameMap, listen_segmentOf, listen_peer]
  rw [listen_canopy d heard]

theorem listen_mayEmit (tx : CnpTx) : (d.listen heard).mayEmit tx = d.mayEmit tx := by
  unfold Dev.mayEmit
  simp only [listen_airtime, nat_of_val (listen_val d heard (show Key.siteFrequency ≠ Key.erasedSymbols by decide)),
    nat_of_val (listen_val d heard (show Key.shortAddress ≠ Key.erasedSymbols by decide))]
  rw [listen_canopy d heard]

theorem listen_frameKey (dst : Nat) (msg : CnpMsg) : (d.listen heard).frameKey dst msg = d.frameKey dst msg := by
  have hc := listen_canopy d heard
  unfold Dev.frameKey Dev.peerOf Dev.byAddr Dev.byLong Dev.neighAt
  rw [hc, (Dev.listen_keeps0 d heard).get_burl rfl]

end

/-- CANOPY_TRANSMIT with a frame that may go out. -/
theorem canopyTransmit_sends (s : State) (heard : List HeardSym) (tx : CnpTx) (rest : List CnpTx) (hq : s.dev.canopy.queue = tx :: rest)
    (ht : s.dev.canopyTalks = true) (hr : s.dev.canopyRange = true) (hb : (s.dev.listen heard).canopy.medium.busy = false)
    (hw : s.dev.canopy.wait = none) (hoff : s.dev.canopy.node ≠ .off) (hlis : s.dev.canopy.node ≠ .listening)
    (hk : tx.msg.secured = true → (s.dev.frameKey tx.dst tx.msg).isSome = true)
    (hm : s.dev.mayEmit { tx with ackReq := tx.ackReq && decide (s.dev.canopy.cyc ≤ 47) } = true) :
    Completes (.canopyTransmit heard) s fun t =>
      (∃ (seq map : Nat) (counter : Option Nat) (air : List Sym), t.dev.out = s.dev.out ++
          [.canopy (s.dev.nat Key.shortAddress) tx.dst seq (tx.ackReq && decide (s.dev.canopy.cyc ≤ 47)) map counter tx.msg air] ∧
        counter.isSome = tx.msg.secured ∧ (tx.tries ≠ 0 → seq = tx.seq)) ∧
      (if (tx.ackReq && decide (s.dev.canopy.cyc ≤ 47)) = true then ∃ w, t.dev.canopy.wait = some w ∧ t.dev.canopy.queue.head? = some w.1 ∧
          w.1.dst = tx.dst ∧ w.1.msg = tx.msg ∧ w.1.tries = tx.tries + 1
        else t.dev.canopy.wait = none) ∧
      t.dev.canopy.node = (if s.dev.canopy.node = .joining ∧ tx.msg.secured = true then .member else s.dev.canopy.node) ∧
      Within [.free, .out, .obj, .canopy] s t := by
  have hc := listen_canopy s.dev heard
  have hkl := Dev.listen_keeps0 s.dev heard
  have hval := fun {k} h => listen_val s.dev heard (k := k) h
  have htalks : (s.dev.listen heard).canopyTalks = true := (canopyTalks_congr hkl (by rw [hc])).trans ht
  have hrange : (s.dev.listen heard).canopyRange = true := (canopyRange_congr fun k hk => hval fun he => by subst he; revert hk; decide).trans hr
  have hmay := fun tx => listen_mayEmit s.dev heard tx
  have hkey := fun dst msg => listen_frameKey s.dev heard dst msg
  have hex : exec (.canopyTransmit heard) s = .next { s with dev := Dev.canopyTransmit heard s.dev } := rfl
  rw [canopyTransmit_eq s.dev heard (by rw [hc]; exact hq)] at hex
  generalize s.dev.listen heard = e at *
  dsimp only at hex
  rw [show e.canopy.cyc = s.dev.canopy.cyc by rw [hc], if_neg (by
    rw [htalks, hrange, hb, show e.canopy.wait = none by rw [hc]; exact hw, show e.canopy.node = s.dev.canopy.node by rw [hc], hmay, hm]
    simp [hoff, hlis])] at hex
  generalize ha : (tx.ackReq && decide (s.dev.canopy.cyc ≤ 47)) = a at *
  obtain ⟨⟨map, counter, air, hcount, hout⟩, hwait, hnode, hkeep⟩ := frontSent_leaves e (tx := { tx with ackReq := a }) rest htalks
    (fun hs => (congrArg Option.isSome (hkey tx.dst tx.msg)).trans (hk hs)) (by rw [hc]; exact hw)
  refine ⟨_, hex, ⟨seqOf e { tx with ackReq := a }, map, counter, air, ?_, hcount, fun h0 => if_pos h0⟩, hwait, ?_, ?_⟩
  · dsimp only
    rw [hout, hkl.get_out rfl, nat_of_val (hval (k := Key.shortAddress) (by decide))]
  · dsimp only
    rw [hnode, show e.canopy.node = s.dev.canopy.node by rw [hc]]
  · exact ((hkl.mono (by decide)).trans hkeep).within (by decide)

/-- CANOPY_TRANSMIT with nothing to send, on a medium that is taken, or without the link. -/
theorem canopyTransmit_listens (s : State) (heard : List HeardSym)
    (h : s.dev.canopy.queue = [] ∨ (s.dev.listen heard).canopy.medium.busy = true ∨ s.dev.canopyTalks = false) :
    Completes (.canopyTransmit heard) s fun t =>
      t.dev.canopy = { s.dev.canopy with medium := (s.dev.listen heard).canopy.medium } ∧ Only [.canopy] [Key.erasedSymbols] s t := by
  have hc := listen_canopy s.dev heard
  have hkl := Dev.listen_keeps0 s.dev heard
  have hval := fun {k} h => listen_val s.dev heard (k := k) h
  have htalks : (s.dev.listen heard).canopyTalks = s.dev.canopyTalks := canopyTalks_congr hkl (by rw [hc])
  have hex : exec (.canopyTransmit heard) s = .next { s with dev := Dev.canopyTransmit heard s.dev } := rfl
  have heq : Dev.canopyTransmit heard s.dev = s.dev.listen heard := by
    cases hq : (s.dev.listen heard).canopy.queue with
    | nil =>
      unfold Dev.canopyTransmit
      dsimp only
      rw [hq]
    | cons tx rest =>
      rw [canopyTransmit_eq s.dev heard hq]
      dsimp only
      refine if_pos ?_
      rcases h with h | h | h
      · rw [hc] at hq
        exact absurd (h.symm.trans hq) (by simp)
      · exact .inr (.inr (.inl h))
      · exact .inl (by rw [htalks, h]; rfl)
  rw [heq] at hex
  exact ⟨_, hex, hc, hkl.only (by decide) fun k hk => hval fun he => hk (by rw [he]; decide)⟩

/-! ### ACKs (14 R387, R388) -/

section
variable (d : Dev)

theorem popWait_bump (k : Nat) : (d.popWait.bump k).canopy = { d.canopy with queue := d.canopy.queue.drop 1, wait := none } :=
  bump_canopy d.popWait k

theorem popWait_bump_keeps (k : Nat) : Keeps 33554436 d (d.popWait.bump k) :=
  Dev.bump_keeps _ _ _ (by decide) (Dev.setCanopy_keeps d _ (by decide) (.refl _ _))

end

/-- The neighbour that has acknowledged is heard. -/
def confirmedBy (e : Dev) (a : Nat) : Dev := match e.byAddr a with
  | some n => e.modNeigh n fun x => { x with failRun := 0, seen := e.nowUs, lastSf := e.canopy.sf }
  | none => e

theorem confirmedBy_leaves (e : Dev) (a : Nat) : LineKept e (confirmedBy e a) ∧ Keeps 33554432 e (confirmedBy e a) := by
  unfold confirmedBy
  split
  · exact ⟨⟨rfl, rfl, rfl, rfl⟩, Dev.modNeigh_keeps0 _ _ _⟩
  · exact ⟨⟨rfl, rfl, rfl, rfl⟩, .refl _ _⟩

/-- An ACK received. -/
theorem ack_received (s : State) (f : CnpFrame) (tx : CnpTx) (n : Nat) (hh : s.dev.canopyHears = true) (hoff : s.dev.canopy.node ≠ .off)
    (hlis : s.dev.canopy.node ≠ .listening) (hw : s.dev.canopy.wait = some (tx, n)) :
    Completes (.ack f true) s fun t =>
      if f.dst.val = s.dev.nat Key.shortAddress ∧ f.src.val = tx.dst ∧ f.seq.val = tx.seq then
        t.dev.canopy.wait = none ∧ t.dev.canopy.queue = s.dev.canopy.queue.drop 1 ∧
        t.dev.nat Key.framesReceived = min (s.dev.nat Key.framesReceived + 1) (Dev.top Key.framesReceived) ∧
        Only [.canopy] [Key.framesReceived] s t
      else t = s := by
  have hex : exec (.ack f true) s = .next { s with dev := Dev.canopyAck f true s.dev } := rfl
  have heq : Dev.canopyAck f true s.dev = if f.dst.val = s.dev.nat Key.shortAddress ∧ f.src.val = tx.dst ∧ f.seq.val = tx.seq then
      confirmedBy (s.dev.popWait.bump Key.framesReceived) tx.dst else s.dev := by
    unfold Dev.canopyAck
    dsimp only
    rw [if_neg (by simp [hh, hoff, hlis]), if_pos rfl, hw]
    rfl
  rw [heq] at hex
  have hc := popWait_bump s.dev Key.framesReceived
  have hk := popWait_bump_keeps s.dev Key.framesReceived
  have hn : (s.dev.popWait.bump Key.framesReceived).nat Key.framesReceived = _ := Dev.nat_bump s.dev.popWait Key.framesReceived 1
  have hv : ∀ k, k ≠ Key.framesReceived → (s.dev.popWait.bump Key.framesReceived).val k = s.dev.val k := fun k h => Dev.val_bump_other s.dev.popWait 1 (Ne.symm h)
  generalize s.dev.popWait.bump Key.framesReceived = e at *
  obtain ⟨⟨hq, hwt, -, -⟩, hkc⟩ := confirmedBy_leaves e tx.dst
  refine ⟨_, hex, ?_⟩
  dsimp only
  split
  · rw [hc] at hq hwt
    exact ⟨hwt, hq, (nat_of_val (val_of_obj (hkc.get_obj rfl) _)).trans hn,
      (hk.trans (hkc.mono (by decide))).only (by decide) fun k hk => (val_of_obj (hkc.get_obj rfl) k).trans (hv k fun he => hk (by rw [he]; decide))⟩
  · rfl

/-- The ACK of a frame received. -/
def ackOut (d : Dev) (f : CnpFrame) (air : List Sym) : Dev :=
  ((d.bump Key.framesSent).setAir (d.nowUs + 2000) air.length).say (.canopy f.dst.val f.src.val f.seq.val false 0 none .ack air)

/-- An ACK sent. -/
theorem ack_sent (s : State) (f : CnpFrame) (hh : s.dev.canopyHears = true) (ht : s.dev.canopyTalks = true) (hoff : s.dev.canopy.node ≠ .off)
    (hlis : s.dev.canopy.node ≠ .listening) (hd : f.dst.val = s.dev.nat Key.shortAddress) (ho : s.dev.nat Key.shortAddress ≠ 0x7FE)
    (ha : f.ackReq = true) (hb : f.bodyOk = true) :
    Completes (.ack f false) s fun t =>
      (∃ air, t.dev.out = s.dev.out ++ [.canopy f.dst.val f.src.val f.seq.val false 0 none .ack air] ∧
        t.dev.canopy = { s.dev.canopy with air := some (s.dev.nowUs + 2000, air.length) }) ∧
      t.dev.nat Key.framesSent = min (s.dev.nat Key.framesSent + 1) (Dev.top Key.framesSent) ∧ Only [.out, .canopy] [Key.framesSent] s t := by
  obtain ⟨air, heq⟩ : ∃ air, Dev.canopyAck f false s.dev = ackOut s.dev f air := by
    refine ⟨s.dev.frameAir f.src f.seq 0 false none [] .ack, ?_⟩
    unfold Dev.canopyAck
    dsimp only
    rw [if_neg (by simp [hh, hoff, hlis]), if_neg (by decide), if_pos ⟨hd, ha, hb, ho, ht⟩, ← hd]
    rfl
  have hex : exec (.ack f false) s = .next { s with dev := Dev.canopyAck f false s.dev } := rfl
  rw [heq] at hex
  refine ⟨_, hex, ⟨air, ?_, ?_⟩, ?_, ?_⟩
  · exact congrArg (· ++ _) ((Dev.bump_keeps0 s.dev Key.framesSent 1).get_out rfl)
  · exact congrArg (fun c : Canopy => { c with air := some (s.dev.nowUs + 2000, air.length) }) (bump_canopy s.dev Key.framesSent)
  · exact Dev.nat_bump s.dev Key.framesSent 1
  · refine Keeps.only (M := 33554438) (Dev.say_keeps _ _ (by decide) (Dev.setAir_keeps _ _ _ (by decide) (Dev.bump_keeps _ _ _ (by decide) (.refl _ _)))) (by decide) fun k hk => ?_
    exact Dev.val_bump_other s.dev 1 fun he => hk (by rw [← he]; decide)

/-! ### An ACK that does not come (14 R388) -/

theorem refreshMap_line (d : Dev) (n : Fin 128) : (∃ l, (d.refreshMap n).canopy.queue = d.canopy.queue ++ l) ∧
    (d.refreshMap n).canopy.wait = d.canopy.wait ∧ (d.refreshMap n).canopy.node = d.canopy.node := by
  have hsame : (∃ l, d.canopy.queue = d.canopy.queue ++ l) ∧ d.canopy.wait = d.canopy.wait ∧ d.canopy.node = d.canopy.node :=
    ⟨⟨[], (List.append_nil _).symm⟩, rfl, rfl⟩
  cases hx : d.canopy.neigh[n] with
  | none =>
    have heq : d.refreshMap n = d := by
      unfold Dev.refreshMap Dev.neighAt
      rw [hx]
    rw [heq]
    exact hsame
  | some x =>
    cases hr : x.request with
    | some r =>
      have heq : d.refreshMap n = d := by
        unfold Dev.refreshMap Dev.neighAt
        rw [hx]
        dsimp only
        rw [if_pos (by rw [hr]; rfl)]
      rw [heq]
      exact hsame
    | none =>
      have h := (refreshMap_asked hx hr).1
      unfold Asked at h
      rw [h]
      exact ⟨⟨_, rfl⟩, rfl, rfl⟩

section
variable (d : Dev)

/-- The neighbour that did not acknowledge (R388). -/
def failedBy (a : Nat) : Dev := match d.byAddr a with | some n => d.modNeigh n fun x => { x with failRun := x.failRun + 1 } | none => d

/-- The frame is dropped, or waits to be sent again (R388). -/
def retried (tx : CnpTx) : Dev :=
  if 5 ≤ tx.tries then d.popWait.bump Key.droppedFrames
  else d.setCanopy fun c => { c with wait := none, queue := { tx with cw := min 64 (2 * tx.cw) } :: c.queue.drop 1 }

/-- A third failure in a row has the map of the neighbour made anew (R396). -/
def mapRenewed (nb : Option (Fin 128)) : Dev := match nb with
  | some n => if (d.neighAt n).any fun x => x.failRun = 3 then d.refreshMap n else d
  | none => d

theorem failedBy_leaves (a : Nat) : LineKept d (failedBy d a) ∧ Keeps 33554432 d (failedBy d a) := by
  unfold failedBy
  split
  · exact ⟨⟨rfl, rfl, rfl, rfl⟩, Dev.modNeigh_keeps0 _ _ _⟩
  · exact ⟨⟨rfl, rfl, rfl, rfl⟩, .refl _ _⟩

theorem retried_leaves (tx : CnpTx) : (retried d tx).canopy.wait = none ∧ (retried d tx).canopy.node = d.canopy.node ∧ Keeps 33554436 d (retried d tx) ∧
    (if 5 ≤ tx.tries then (retried d tx).nat Key.droppedFrames = min (d.nat Key.droppedFrames + 1) (Dev.top Key.droppedFrames)
      else (retried d tx).canopy.queue.head? = some { tx with cw := min 64 (2 * tx.cw) } ∧ (retried d tx).nat Key.droppedFrames = d.nat Key.droppedFrames) := by
  unfold retried
  split
  · have hc := popWait_bump d Key.droppedFrames
    rw [hc]
    exact ⟨rfl, rfl, popWait_bump_keeps d _, Dev.nat_bump d.popWait _ _⟩
  · exact ⟨rfl, rfl, Dev.setCanopy_keeps _ _ (by decide) (.refl _ _), rfl, rfl⟩

theorem mapRenewed_leaves (nb : Option (Fin 128)) : (∃ l, (mapRenewed d nb).canopy.queue = d.canopy.queue ++ l) ∧
    (mapRenewed d nb).canopy.wait = d.canopy.wait ∧ (mapRenewed d nb).canopy.node = d.canopy.node ∧ Keeps 33554436 d (mapRenewed d nb) ∧
    (mapRenewed d nb).nat Key.droppedFrames = d.nat Key.droppedFrames := by
  have hsame : (∃ l, d.canopy.queue = d.canopy.queue ++ l) ∧ d.canopy.wait = d.canopy.wait ∧ d.canopy.node = d.canopy.node ∧ Keeps 33554436 d d ∧
      d.nat Key.droppedFrames = d.nat Key.droppedFrames := ⟨⟨[], (List.append_nil _).symm⟩, rfl, rfl, .refl _ _, rfl⟩
  unfold mapRenewed
  split
  case h_1 n =>
    split
    · obtain ⟨hq, hw, hn⟩ := refreshMap_line d n
      exact ⟨hq, hw, hn, Dev.refreshMap_keeps0 d n, nat_of_val (refreshMap_val d n (by decide))⟩
    · exact hsame
  · exact hsame

end

/-- ACK_TIMEOUT. -/
theorem ackTimeout_due (s : State) (tx : CnpTx) (n : Nat) (hw : s.dev.canopy.wait = some (tx, n)) (hn : n ≤ s.dev.nowMs) :
    Completes .ackTimeout s fun t =>
      t.dev.canopy.wait = none ∧
      (if 5 ≤ tx.tries then t.dev.nat Key.droppedFrames = min (s.dev.nat Key.droppedFrames + 1) (Dev.top Key.droppedFrames)
        else t.dev.canopy.queue.head? = some { tx with cw := min 64 (2 * tx.cw) } ∧ t.dev.nat Key.droppedFrames = s.dev.nat Key.droppedFrames) ∧
      t.dev.canopy.node = s.dev.canopy.node ∧ Within [.obj, .canopy] s t := by
  have hex : exec .ackTimeout s = .next { s with dev := Dev.ackTimeout s.dev } := rfl
  have heq : Dev.ackTimeout s.dev = mapRenewed (retried (failedBy s.dev tx.dst) tx) (s.dev.byAddr tx.dst) := by
    unfold Dev.ackTimeout
    rw [hw]
    dsimp only
    rw [if_neg (by omega)]
    rfl
  rw [heq] at hex
  obtain ⟨⟨-, -, hnode, -⟩, hk⟩ := failedBy_leaves s.dev tx.dst
  obtain ⟨hwait', hnode', hk', hrest⟩ := retried_leaves (failedBy s.dev tx.dst) tx
  rw [nat_of_val (val_of_obj (hk.get_obj rfl) Key.droppedFrames)] at hrest
  generalize retried (failedBy s.dev tx.dst) tx = e at *
  obtain ⟨⟨l, hl⟩, hwait'', hnode'', hk'', hdrop⟩ := mapRenewed_leaves e (s.dev.byAddr tx.dst)
  refine ⟨_, hex, hwait''.trans hwait', ?_, hnode''.trans (hnode'.trans hnode), (((hk.mono (by decide)).trans hk').trans hk'').within (by decide)⟩
  dsimp only
  rw [hdrop]
  split
  · rwa [if_pos ‹_›] at hrest
  · rw [if_neg ‹_›] at hrest
    refine ⟨?_, hrest.2⟩
    rw [hl, List.head?_append, hrest.1]
    rfl

theorem ackTimeout_early (s : State) (tx : CnpTx) (n : Nat) (hw : s.dev.canopy.wait = some (tx, n)) (hn : s.dev.nowMs < n) :
    Completes .ackTimeout s fun t => t = s := by
  refine ⟨s, ?_, rfl⟩
  show Host.Outcome.next { s with dev := Dev.ackTimeout s.dev } = _
  unfold Dev.ackTimeout
  rw [hw]
  dsimp only
  rw [if_pos hn]

/-! ### Frames that fail their protection (14 R401) -/

/-- The frames of a neighbour that are protected (14 R401). -/
def IsProtected (f : CnpFrame) (c : Instr) : Prop :=
  (∃ r, c = .leave f r) ∨ (∃ i a b, c = .tonemapRequest f i a b) ∨ (∃ i a p b, c = .tonemapResponse f i a p b) ∨
    (∃ p a b, c = .loadReport f p a b) ∨ (∃ i r, c = .appRead f i r) ∨ (∃ i v, c = .appResponse f i v)

theorem protected_receive {f : CnpFrame} {c : Instr} (h : IsProtected f c) (s : State) :
    ∃ serve, exec c s = .next { s with dev := Dev.canopyReceive f true serve s.dev } := by
  rcases h with ⟨r, rfl⟩ | ⟨i, a, b, rfl⟩ | ⟨i, a, p, b, rfl⟩ | ⟨p, a, b, rfl⟩ | ⟨i, r, rfl⟩ | ⟨i, v, rfl⟩ <;> exact ⟨_, rfl⟩

theorem counterWindow_none {high window counter : Nat} (h : counter = high ∨ counter + 32 < high ∨
    (counter < high ∧ window.testBit (high - 1 - counter) = true)) : Dev.counterWindow high window counter = none := by
  unfold Dev.counterWindow
  rw [if_neg (by omega)]
  rcases h with h | h | ⟨h, hb⟩
  · exact if_pos (.inl h)
  · exact if_pos (.inr h)
  · simp only [hb, if_true, ite_self]

/-- A frame that fails leaves its sender heard, and is counted. -/
theorem frame_dropped (s : State) (f : CnpFrame) (n : Fin 128) (x : Neigh) (k : Nat) (hk : k ≠ Key.framesReceived) :
    let e := (receivedFrom s.dev n (heardOf s.dev f x)).bump k
    e.nat k = min (s.dev.nat k + 1) (Dev.top k) ∧ e.nat Key.framesReceived = min (s.dev.nat Key.framesReceived + 1) (Dev.top Key.framesReceived) ∧
    e.canopy = { s.dev.canopy with uses := s.dev.canopy.uses + 1, neigh := s.dev.canopy.neigh.set n (some (heardOf s.dev f x)) } ∧
    Only [.canopy] [Key.framesReceived, k] s { s with dev := e } := by
  refine ⟨?_, ?_, (bump_canopy _ k).trans (receivedFrom_canopy _ _ _), ?_⟩
  · rw [Dev.nat_bump, nat_of_val (receivedFrom_val s.dev n _ hk)]
  · rw [nat_of_val (Dev.val_bump_other _ 1 hk), receivedFrom_count]
  · refine ((receivedFrom_keeps s.dev n _).trans ((Dev.bump_keeps0 _ k 1).mono (by decide))).only (by decide) fun j hj => ?_
    rw [Dev.val_bump_other _ 1 fun he => hj (by simp [he]), receivedFrom_val _ _ _ fun he => hj (by simp [he])]

theorem protected_fails (s : State) (f : CnpFrame) (n : Fin 128) (x : Neigh) (c : Instr) (hh : FrameHeard s.dev f n x) (hc : IsProtected f c)
    (hn : s.dev.canopy.node = .coordinator) :
    (f.secured = false ∨ f.micOk = false ∨ s.dev.keyLoaded f n = false →
      exec c s = .next { s with dev := (receivedFrom s.dev n (heardOf s.dev f x)).bump Key.canopyAuthFailCount }) ∧
    (f.secured = true → f.micOk = true → s.dev.keyLoaded f n = true → f.counter.toNat = x.high ∨ f.counter.toNat + 32 < x.high ∨
        (f.counter.toNat < x.high ∧ x.window.testBit (x.high - 1 - f.counter.toNat) = true) →
      exec c s = .next { s with dev := (receivedFrom s.dev n (heardOf s.dev f x)).bump Key.canopyReplayCount }) := by
  obtain ⟨serve, hex⟩ := protected_receive hc s
  rw [canopyReceive_eq hh, if_neg (by decide)] at hex
  refine ⟨fun h => ?_, fun hs hm hl hw => ?_⟩
  · rw [if_pos (by simpa using h), if_neg (by rw [hn]; simp)] at hex
    exact hex
  · rw [if_neg (by simp [hs, hm, hl]), counterWindow_none hw] at hex
    exact hex

/-- Settles O52: frames of the mains link sent, acknowledged, sent again; protected frames checked. -/
theorem canopyFramesAreSentAndChecked : Obligations.CanopyFramesAreSentAndChecked := by
  unfold Obligations.CanopyFramesAreSentAndChecked
  refine ⟨fun s heard tx rest hq ht hr hb hw hoff hlis hk hm => canopyTransmit_sends s heard tx rest hq ht hr hb hw hoff hlis hk hm,
    canopyTransmit_listens, ack_received, ack_sent, ackTimeout_due, ackTimeout_early, ?_⟩
  intro s f n x c hhears hmap hnode hdst hbody hsrc hx hseq hc dropped
  obtain ⟨hauth, hreplay⟩ := protected_fails s f n x c ⟨hhears, .inr hnode, .inl hdst, hmap, hbody, hsrc, hx, fun h => hseq h.2⟩ hc hnode
  exact ⟨fun h => ⟨_, hauth h, frame_dropped s f n x _ (by decide)⟩, fun h1 h2 h3 h4 => ⟨_, hreplay h1 h2 h3 h4, frame_dropped s f n x _ (by decide)⟩⟩

end Sys2Proof.Machine
end

section
/-! PROOFS. Nodes of the mains link: range, mains cycles, beacons, NIFs (14 R370, R382, R383, R390 to R393, R398, R399; settles O50). -/

namespace Sys2Proof.Machine

/-! ### A node that leaves (14 R370, R398) -/

/-- What a node out of its network shows, with what it leaves as it was. -/
def LeftNetwork (next : NodeState) (s t : State) : Prop :=
  t.dev.canopy.node = next ∧ t.dev.canopy.valid = false ∧ t.dev.canopy.queue = [] ∧ (∀ n : Fin 128, t.dev.canopy.neigh[n] = none) ∧
  t.dev.nat Key.shortAddress = 0x7FE ∧ Within [.obj, .crossings, .burl, .canopy] s t

theorem canopyLeave_left {s : State} {e : Dev} (hk : Keeps 41943076 s.dev e) (next : NodeState) : LeftNetwork next s { s with dev := e.canopyLeave next } := by
  obtain ⟨⟨hn, hv, hq, hng, ha⟩, -, hk'⟩ := canopyLeave_leaves e next
  exact ⟨hn, hv, hq, hng, ha, (hk.trans hk').within (by decide)⟩

/-- CANOPY_RANGE_CHANGE. -/
theorem canopyRangeChange_moves (s : State) (hu : s.dev.canopyUp = true) :
    (s.dev.canopyRange = false → s.dev.canopy.node ≠ .off → Completes .canopyRangeChange s (LeftNetwork .off s)) ∧
    (s.dev.canopyRange = true → s.dev.canopy.node = .off → Completes .canopyRangeChange s (LeftNetwork .listening s)) ∧
    ((s.dev.canopyRange = true ↔ s.dev.canopy.node ≠ .off) → Completes .canopyRangeChange s fun t => t = s) := by
  have hex : exec .canopyRangeChange s = .next { s with dev := Dev.canopyRangeChange s.dev } := rfl
  unfold Dev.canopyRangeChange at hex
  rw [if_neg (by rw [hu]; decide)] at hex
  refine ⟨fun hr hn => ?_, fun hr hn => ?_, fun h => ?_⟩
  · rw [if_neg (by rw [hr]; decide), if_neg hn] at hex
    exact ⟨_, hex, canopyLeave_left (.refl _ _) _⟩
  · rw [if_pos hr, if_pos hn] at hex
    exact ⟨_, hex, canopyLeave_left (.refl _ _) _⟩
  · refine ⟨s, hex.trans ?_, rfl⟩
    by_cases hr : s.dev.canopyRange = true
    · rw [if_pos hr, if_neg (h.1 hr)]
    · rw [if_neg hr, if_pos (by by_contra hn; exact hr (h.2 hn))]

/-! ### Mains cycles (14 R390, R391, R398) -/

section
variable (d : Dev)

/-- The engine counts a mains cycle (R390, R391). -/
def cycleOf (c : Canopy) : Canopy :=
  let cyc := (c.cyc + 1) % 64
  { c with
    gcn := if c.known then (c.gcn + 1) % 2 ^ 48 else c.gcn, cyc := cyc, sf := if cyc = 0 ∧ d.passes 0x1B then c.sf + 1 else c.sf
    cyc0 := if cyc = 0 then d.nowUs else c.cyc0, sinceBeacon := c.sinceBeacon + 1, listened := c.listened + 1
    valid := c.known && !c.gap && decide (c.node = .member ∨ c.node = .coordinator), gap := false }

/-- The number with its time is stored once a superframe (R407). -/
def cycleCounted : Dev :=
  let e := d.setCanopy (cycleOf d)
  if e.canopy.cyc = 0 ∧ e.canopy.known then e.setCanopy fun c => { c with stored := some (c.gcn, e.time.utcS) } else e

/-- The rest of the device learns of the cycle (R390, R191). -/
def cycleTold : Dev :=
  let e : Dev := if d.canopy.cyc = 0 ∧ d.passes 0x1B then d.crossed 0x1B else d
  let e := e.writeGcn
  let e := if e.canopy.valid then { e with update := { e.update with gridSeen := true } } else e
  e.gridCrossing e.canopy.gcn e.gridFresh

theorem cycleCounted_canopy : ∃ x, (cycleCounted d).canopy = { cycleOf d d.canopy with stored := x } := by
  unfold cycleCounted
  dsimp only
  split
  · exact ⟨_, rfl⟩
  · exact ⟨(cycleOf d d.canopy).stored, rfl⟩

theorem cycleCounted_keeps : Keeps 33554432 d (cycleCounted d) := by
  unfold cycleCounted
  dsimp only
  exact .ite (Dev.setCanopy_keeps _ _ (by decide) (Dev.setCanopy_keeps0 _ _)) (Dev.setCanopy_keeps0 _ _)

theorem networkCrossing_eq (hu : d.canopyUp = true) (ho : d.canopy.node ≠ .off) : Dev.networkCrossing d =
    let e := cycleCounted d
    if e.canopy.cyc = 0 ∧ e.passes 0x1B ∧ e.canopy.yields then e.canopyLeave .listening else cycleTold e := by
  unfold Dev.networkCrossing
  rw [if_neg (by simp [hu, ho])]
  rfl

theorem cycleTold_leaves : (cycleTold d).canopy = d.canopy ∧ Keeps 17834020 d (cycleTold d) := by
  have h1 : Keeps 32 d (if d.canopy.cyc = 0 ∧ d.passes 0x1B then d.crossed 0x1B else d) := .ite (Dev.crossed_keeps0 _ _) (.refl _ _)
  unfold cycleTold
  dsimp only
  generalize (if d.canopy.cyc = 0 ∧ d.passes 0x1B then d.crossed 0x1B else d) = e at h1 ⊢
  obtain ⟨hc, -, -, hk⟩ := writeGcn_leaves e
  have h2 : Keeps 17834020 d e.writeGcn := (h1.mono (by decide)).trans (hk.mono (by decide))
  have h3 : Keeps 16777216 e.writeGcn (if e.writeGcn.canopy.valid then { e.writeGcn with update := { e.writeGcn.update with gridSeen := true } } else e.writeGcn) :=
    .ite (Dev.setUpdate_keeps0 e.writeGcn fun u => { u with gridSeen := true }) (.refl _ _)
  generalize (if e.writeGcn.canopy.valid then { e.writeGcn with update := { e.writeGcn.update with gridSeen := true } } else e.writeGcn) = f at h3 ⊢
  have h4 := Dev.gridCrossing_keeps0 f f.canopy.gcn f.gridFresh
  exact ⟨(h4.get_canopy rfl).trans ((h3.get_canopy rfl).trans (hc.trans (h1.get_canopy rfl))), (h2.trans (h3.mono (by decide))).trans (h4.mono (by decide))⟩

end

/-- NETWORK_CROSSING within a superframe, or at its end with no election lost. -/
theorem networkCrossing_counts (s : State) (hu : s.dev.canopyUp = true) (ho : s.dev.canopy.node ≠ .off)
    (hy : ¬ ((s.dev.canopy.cyc + 1) % 64 = 0 ∧ s.dev.passes 0x1B = true ∧ s.dev.canopy.yields = true)) :
    Completes .networkCrossing s fun t =>
      let c := s.dev.canopy
      t.dev.canopy.gcn = (if c.known then (c.gcn + 1) % 2 ^ 48 else c.gcn) ∧ t.dev.canopy.cyc = (c.cyc + 1) % 64 ∧
      t.dev.canopy.sf = (if (c.cyc + 1) % 64 = 0 ∧ s.dev.passes 0x1B = true then c.sf + 1 else c.sf) ∧
      t.dev.canopy.valid = (c.known && !c.gap && decide (c.node = .member ∨ c.node = .coordinator)) ∧ t.dev.canopy.gap = false ∧ t.dev.canopy.node = c.node ∧
      t.dev.canopy.queue = c.queue ∧ t.dev.canopy.neigh = c.neigh ∧ Within [.obj, .crossings, .heart, .energy, .tariff, .update, .canopy] s t := by
  have hex : exec .networkCrossing s = .next { s with dev := Dev.networkCrossing s.dev } := rfl
  obtain ⟨x, hc⟩ := cycleCounted_canopy s.dev
  have hk := cycleCounted_keeps s.dev
  rw [networkCrossing_eq _ hu ho] at hex
  generalize cycleCounted s.dev = e at hc hk hex
  dsimp only at hex
  have hpass : e.passes 0x1B = s.dev.passes 0x1B := by
    unfold Dev.passes
    rw [hk.get_crossings rfl]
  rw [if_neg (by rw [hpass, hc]; exact hy)] at hex
  obtain ⟨hc', hk'⟩ := cycleTold_leaves e
  refine ⟨_, hex, ?_⟩
  dsimp only
  rw [hc', hc]
  exact ⟨rfl, rfl, rfl, rfl, rfl, rfl, rfl, rfl,
    Keeps.within (M := 51388452) ((hk.mono (by decide)).trans (hk'.mono (by decide))) (by decide)⟩

/-- NETWORK_CROSSING at the end of a superframe, the election lost. -/
theorem networkCrossing_yields (s : State) (hu : s.dev.canopyUp = true) (ho : s.dev.canopy.node ≠ .off) (h0 : (s.dev.canopy.cyc + 1) % 64 = 0)
    (hp : s.dev.passes 0x1B = true) (hy : s.dev.canopy.yields = true) : Completes .networkCrossing s (LeftNetwork .listening s) := by
  have hex : exec .networkCrossing s = .next { s with dev := Dev.networkCrossing s.dev } := rfl
  obtain ⟨x, hc⟩ := cycleCounted_canopy s.dev
  have hk := cycleCounted_keeps s.dev
  rw [networkCrossing_eq _ hu ho] at hex
  generalize cycleCounted s.dev = e at hc hk hex
  dsimp only at hex
  have hpass : e.passes 0x1B = true := by
    unfold Dev.passes
    rw [hk.get_crossings rfl]
    exact hp
  rw [if_pos (by rw [hpass, hc]; exact ⟨h0, rfl, hy⟩)] at hex
  exact ⟨_, hex, canopyLeave_left (hk.mono (by decide)) _⟩

/-! ### Beacons (14 R382, R383, R393, R398) -/

/-- The settings of a coordinator taken with its beacon (R407). -/
def beaconSet (d : Dev) (nif : Bool) : Dev :=
  (d.setCanopy fun c => { c with
    sinceBeacon := 0, nifFollows := nif, drezu := d.flag Key.drezuMode, span := d.nat Key.spanSymbols, refreshS := d.nat Key.toneMapRefreshS
    nifEvery := d.nat Key.nifInterval, masks := (List.finRange 6).map fun i => d.nat (Key.halfCycleMask i), resume := false }).latchCanopy.renewPayloads

theorem beaconSet_leaves (d : Dev) (nif : Bool) : (beaconSet d nif).canopy.sinceBeacon = 0 ∧ (beaconSet d nif).canopy.nifFollows = nif ∧
    (beaconSet d nif).canopy.drezu = d.flag Key.drezuMode ∧ (beaconSet d nif).canopy.resume = false ∧ Keeps 33554432 d (beaconSet d nif) := by
  have hc := renewPayloads_canopy (d.setCanopy fun c => { c with
    sinceBeacon := 0, nifFollows := nif, drezu := d.flag Key.drezuMode, span := d.nat Key.spanSymbols, refreshS := d.nat Key.toneMapRefreshS
    nifEvery := d.nat Key.nifInterval, masks := (List.finRange 6).map fun i => d.nat (Key.halfCycleMask i), resume := false }).latchCanopy
  have hk : Keeps 33554432 d (beaconSet d nif) :=
    Dev.renewPayloads_keeps _ (by decide) (Dev.latchCanopy_keeps _ (by decide) (Dev.setCanopy_keeps0 _ _))
  unfold beaconSet at hk ⊢
  rw [hc]
  exact ⟨rfl, rfl, rfl, rfl, hk⟩

/-- The beacon goes out. -/
def beaconOut (d : Dev) (start network : Nat) (nif drezu : Bool) (sf : Nat) (air : List Sym) : Dev :=
  (d.setAir start air.length).say (.beacon network nif drezu sf air)

theorem beaconOut_leaves (d : Dev) (start network : Nat) (nif drezu : Bool) (sf : Nat) (air : List Sym) :
    (beaconOut d start network nif drezu sf air).canopy = { d.canopy with air := some (start, air.length) } ∧
    (beaconOut d start network nif drezu sf air).out = d.out ++ [.beacon network nif drezu sf air] ∧
    Keeps 33554434 d (beaconOut d start network nif drezu sf air) :=
  ⟨rfl, rfl, Dev.say_keeps _ _ (by decide) (Dev.setAir_keeps _ _ _ (by decide) (.refl _ _))⟩

theorem beaconSend_eq (d : Dev) (omitted : Bool) (hu : d.canopyUp = true) (h19 : d.passes 0x19 = true) (h1b : d.passes 0x1B = true)
    (hr : d.canopyRange = true) (hn : d.canopy.node = .coordinator) (h0 : d.canopy.cyc = 0) (h64 : 64 ≤ d.canopy.sinceBeacon) {sf : Nat} {nif : Bool}
    (hsf : d.canopy.gcn / 64 % 256 = sf) (hnif : (!omitted && decide (sf % max 1 (d.nat Key.nifInterval) = 0)) = nif) :
    Dev.beaconSend omitted d = if omitted then beaconSet d nif
      else beaconOut (beaconSet d nif) (d.canopy.cyc0 + 1000) ((beaconSet d nif).nat Key.networkId) nif ((beaconSet d nif).flag Key.drezuMode) sf
        (beaconSymbols (Dev.beaconBody ((beaconSet d nif).nat Key.networkId) nif ((beaconSet d nif).flag Key.drezuMode) sf)) := by
  unfold Dev.beaconSend
  dsimp only
  rw [if_neg (by simp [hu, h19, h1b, hr, hn, h0, h64]), hsf, hnif]
  rfl

theorem beaconSend_sends (s : State) (omitted : Bool) (hu : s.dev.canopyUp = true) (h19 : s.dev.passes 0x19 = true) (h1b : s.dev.passes 0x1B = true)
    (hr : s.dev.canopyRange = true) (hn : s.dev.canopy.node = .coordinator) (h0 : s.dev.canopy.cyc = 0) (h64 : 64 ≤ s.dev.canopy.sinceBeacon) :
    Completes (.beaconSend omitted) s fun t =>
      let sf := s.dev.canopy.gcn / 64 % 256
      let nif : Bool := !omitted && decide (sf % max 1 (s.dev.nat Key.nifInterval) = 0)
      t.dev.canopy.sinceBeacon = 0 ∧ t.dev.canopy.nifFollows = nif ∧
      t.dev.canopy.drezu = s.dev.flag Key.drezuMode ∧ t.dev.canopy.resume = false ∧
      t.dev.out = (if omitted then s.dev.out else s.dev.out ++ [.beacon (s.dev.nat Key.networkId) nif (s.dev.flag Key.drezuMode) sf
        (beaconSymbols (Dev.beaconBody (s.dev.nat Key.networkId) nif (s.dev.flag Key.drezuMode) sf))]) ∧
      Only [.out, .canopy] [] s t := by
  have hex : exec (.beaconSend omitted) s = .next { s with dev := Dev.beaconSend omitted s.dev } := rfl
  generalize hsf : s.dev.canopy.gcn / 64 % 256 = sf
  generalize hnif : (!omitted && decide (sf % max 1 (s.dev.nat Key.nifInterval) = 0)) = nif
  obtain ⟨h1, h2, h3, h4, hk⟩ := beaconSet_leaves s.dev nif
  rw [beaconSend_eq s.dev omitted hu h19 h1b hr hn h0 h64 hsf hnif] at hex
  generalize beaconSet s.dev nif = e at *
  have hnet : e.nat Key.networkId = s.dev.nat Key.networkId := nat_of_val (val_of_obj (hk.get_obj rfl) _)
  have hdz : e.flag Key.drezuMode = s.dev.flag Key.drezuMode := flag_of_val (val_of_obj (hk.get_obj rfl) _)
  rw [hnet, hdz] at hex
  refine ⟨_, hex, ?_⟩
  dsimp only
  rw [hnif]
  generalize beaconSymbols (Dev.beaconBody (s.dev.nat Key.networkId) nif (s.dev.flag Key.drezuMode) sf) = air
  obtain ⟨hc, hout, hko⟩ := beaconOut_leaves e (s.dev.canopy.cyc0 + 1000) (s.dev.nat Key.networkId) nif (s.dev.flag Key.drezuMode) sf air
  generalize beaconOut e (s.dev.canopy.cyc0 + 1000) (s.dev.nat Key.networkId) nif (s.dev.flag Key.drezuMode) sf air = g at *
  cases omitted with
  | true =>
    rw [if_pos rfl, if_pos rfl]
    exact ⟨h1, h2, h3, h4, hk.get_out rfl, Keeps.only_nil (M := 33554432) hk (by decide) (by decide)⟩
  | false =>
    rw [if_neg (by decide), if_neg (by decide), hc, hout, hk.get_out rfl]
    exact ⟨h1, h2, h3, h4, rfl, Keeps.only_nil (M := 33554434) ((hk.mono (by decide)).trans hko) (by decide) (by decide)⟩

theorem measurePhase_leaves (d : Dev) (delta : Nat) : ∃ l, (d.measurePhase delta).canopy = { d.canopy with phis := l } ∧
    (d.measurePhase delta).nat Key.missedBeaconRun = d.nat Key.missedBeaconRun ∧ Keeps 33554437 d (d.measurePhase delta) := by
  unfold Dev.measurePhase
  dsimp only
  generalize (((36000 : Int) - divRound (36 * (delta : Int) * (d.nat Key.siteFrequency)) 1000000) % 36000).toNat :: d.canopy.phis = l0
  generalize l0.take 8 = l
  have hk : Keeps 33554437 d ((d.setCanopy fun c => { c with phis := l }).putNat Key.phaseOffset (circularMean l)) :=
    Dev.putNat_keeps _ _ _ (by decide) (Dev.setCanopy_keeps _ _ (by decide) (.refl _ _))
  have hc : ((d.setCanopy fun c => { c with phis := l }).putNat Key.phaseOffset (circularMean l)).canopy = { d.canopy with phis := l } :=
    (Dev.putNat_keeps0 _ _ _).get_canopy rfl
  have hv : ((d.setCanopy fun c => { c with phis := l }).putNat Key.phaseOffset (circularMean l)).val Key.missedBeaconRun = d.val Key.missedBeaconRun :=
    Dev.val_putNat_other (d.setCanopy fun c => { c with phis := l }) _ (by decide)
  generalize (d.setCanopy fun c => { c with phis := l }).putNat Key.phaseOffset (circularMean l) = e at hk hc hv ⊢
  split
  · exact ⟨l, hc, nat_of_val hv, hk⟩
  · have hshow : ∀ (f : Dev) (code : Nat) (rev : Bool), Keeps 1 e f →
        let g := ((f.putNat Key.phaseCode code).putFlag Key.reversedOrLineToLine rev).putNat Key.networkPhaseOfL1 code
        ∃ l, g.canopy = { d.canopy with phis := l } ∧ g.nat Key.missedBeaconRun = d.nat Key.missedBeaconRun ∧ Keeps 33554437 d g := by
      intro f code rev hf
      have hg : Keeps 4 f (((f.putNat Key.phaseCode code).putFlag Key.reversedOrLineToLine rev).putNat Key.networkPhaseOfL1 code) :=
        Dev.putNat_keeps _ _ _ (by decide) (Dev.putFlag_keeps _ _ _ (by decide) (Dev.putNat_keeps0 _ _ _))
      refine ⟨l, (hg.get_canopy rfl).trans ((hf.get_canopy rfl).trans hc), nat_of_val ?_, (hk.trans (hf.mono (by decide))).trans (hg.mono (by decide))⟩
      exact (Dev.val_putNat_other _ _ (by decide)).trans ((Dev.val_putFlag_other _ _ (by decide)).trans
        ((Dev.val_putNat_other _ _ (by decide)).trans ((val_of_obj (hf.get_obj rfl) _).trans hv)))
    cases phaseClass (circularMean l) with
    | some x => exact hshow e x.1 x.2 (.refl _ _)
    | none => exact hshow e.draw.2 _ true (Dev.draw_keeps _ (by decide) (.refl _ _))

/-- BEACON_RECEIVE at a node that listens. -/
theorem beaconReceive_heard (s : State) (network : Fin 4096) (nif drezu : Bool) (x : Fin 256) (delta : Nat) (hh : s.dev.canopyHears = true)
    (h1b : s.dev.passes 0x1B = true) (hr : s.dev.canopyRange = true) (hn : s.dev.canopy.node = .listening) :
    Completes (.beaconReceive network nif drezu x delta) s fun t =>
      t.dev.canopy.heard = some network.val ∧ t.dev.canopy.sinceBeacon = 0 ∧ t.dev.canopy.cyc = 0 ∧ t.dev.canopy.node = .listening ∧
      Only [.canopy] [] s t := by
  have hex : exec (.beaconReceive network nif drezu x delta) s = .next { s with dev := Dev.beaconReceive network nif drezu delta s.dev } := rfl
  unfold Dev.beaconReceive at hex
  dsimp only at hex
  rw [if_neg (by simp [hh, h1b, hr, hn]), hn] at hex
  exact ⟨_, hex, rfl, rfl, rfl, hn, (Dev.setCanopy_keeps0 _ _).only_nil (by decide) (by decide)⟩

/-- What a member takes of a beacon of its network. -/
def beaconTaken (d : Dev) (nif drezu : Bool) : Dev :=
  (d.setCanopy fun c => { c with
    sinceBeacon := 0, cyc := 0, nifFollows := nif, drezu := drezu, sf := if c.cyc = 0 then c.sf else c.sf + 1, cyc0 := d.nowUs
    resume := false }).putNat Key.missedBeaconRun 0

theorem beaconReceive_member (s : State) (network : Fin 4096) (nif drezu : Bool) (x : Fin 256) (delta : Nat) (hh : s.dev.canopyHears = true)
    (h1b : s.dev.passes 0x1B = true) (hr : s.dev.canopyRange = true) (hn : s.dev.canopy.node = .member) :
    (s.dev.canopy.heard = some network.val → Completes (.beaconReceive network nif drezu x delta) s fun t =>
      t.dev.canopy.sinceBeacon = 0 ∧ t.dev.canopy.cyc = 0 ∧ t.dev.nat Key.missedBeaconRun = 0 ∧ t.dev.canopy.drezu = drezu ∧
      t.dev.canopy.node = .member ∧ t.dev.canopy.gcn = s.dev.canopy.gcn ∧ Within [.free, .obj, .canopy] s t) ∧
    (s.dev.canopy.heard ≠ some network.val → Completes (.beaconReceive network nif drezu x delta) s fun t => t = s) := by
  have hex : exec (.beaconReceive network nif drezu x delta) s = .next { s with dev := Dev.beaconReceive network nif drezu delta s.dev } := rfl
  have heq : Dev.beaconReceive network nif drezu delta s.dev = if s.dev.canopy.heard ≠ some network.val then s.dev
      else ((beaconTaken s.dev nif drezu).measurePhase delta).latchCanopy.renewPayloads := by
    unfold Dev.beaconReceive
    dsimp only
    rw [if_neg (by simp [hh, h1b, hr, hn]), hn]
    rfl
  rw [heq] at hex
  refine ⟨fun hd => ?_, fun hd => ?_⟩
  · rw [if_neg (by simp [hd])] at hex
    have hc0 : (beaconTaken s.dev nif drezu).canopy.sinceBeacon = 0 ∧ (beaconTaken s.dev nif drezu).canopy.cyc = 0 ∧
        (beaconTaken s.dev nif drezu).canopy.drezu = drezu ∧ (beaconTaken s.dev nif drezu).canopy.node = s.dev.canopy.node ∧
        (beaconTaken s.dev nif drezu).canopy.gcn = s.dev.canopy.gcn := by
      unfold beaconTaken
      rw [(Dev.putNat_keeps0 _ _ _).get_canopy rfl]
      exact ⟨rfl, rfl, rfl, rfl, rfl⟩
    have hrun : (beaconTaken s.dev nif drezu).nat Key.missedBeaconRun = 0 := Dev.nat_putNat _ _ _
    have hk0 : Keeps 33554436 s.dev (beaconTaken s.dev nif drezu) := Dev.putNat_keeps _ _ _ (by decide) (Dev.setCanopy_keeps _ _ (by decide) (.refl _ _))
    generalize beaconTaken s.dev nif drezu = e at *
    obtain ⟨l, hc1, hrun1, hk1⟩ := measurePhase_leaves e delta
    generalize e.measurePhase delta = f at *
    have hc2 := renewPayloads_canopy f.latchCanopy
    have hk2 : Keeps 33554432 f f.latchCanopy.renewPayloads := Dev.renewPayloads_keeps _ (by decide) (Dev.latchCanopy_keeps0 _)
    have hall : Keeps 33554437 s.dev f.latchCanopy.renewPayloads := ((hk0.mono (by decide)).trans hk1).trans (hk2.mono (by decide))
    obtain ⟨h1, h2, h3, h4, h5⟩ := hc0
    have hlatch : f.latchCanopy.canopy = { f.canopy with reportEvery := f.nat Key.loadReportInterval, mayRead := f.flag Key.readFromCoordinator } := rfl
    refine ⟨_, hex, ?_⟩
    dsimp only
    rw [hc2, hlatch, hc1]
    exact ⟨h1, h2, (nat_of_val (val_of_obj (hk2.get_obj rfl) _)).trans (hrun1.trans hrun), h3, h4.trans hn, h5, hall.within (by decide)⟩
  · rw [if_pos hd] at hex
    exact ⟨_, hex, rfl⟩

/-- BEACON_MISSED. -/
theorem beaconMissed_counts (s : State) (hu : s.dev.canopyUp = true) (hn : s.dev.canopy.node = .member ∨ s.dev.canopy.node = .joining)
    (h65 : 65 ≤ s.dev.canopy.sinceBeacon) :
    Completes .beaconMissed s fun t =>
      let n := min (s.dev.nat Key.missedBeaconRun + 1) (Dev.top Key.missedBeaconRun)
      if 8 ≤ n then LeftNetwork .listening s t
      else t.dev.nat Key.missedBeaconRun = n ∧ t.dev.canopy = { s.dev.canopy with sinceBeacon := 1 } ∧ Only [.canopy] [Key.missedBeaconRun] s t := by
  have hex : exec .beaconMissed s = .next { s with dev := Dev.beaconMissed s.dev } := rfl
  unfold Dev.beaconMissed at hex
  dsimp only at hex
  rw [if_neg (by
    rintro (h | ⟨h1, h2⟩ | h)
    · rw [hu] at h
      exact absurd h (by decide)
    · exact hn.elim h1 h2
    · omega)] at hex
  have hcount : ((s.dev.setCanopy fun c => { c with sinceBeacon := 1 }).bump Key.missedBeaconRun).nat Key.missedBeaconRun =
      min (s.dev.nat Key.missedBeaconRun + 1) (Dev.top Key.missedBeaconRun) := Dev.nat_bump (s.dev.setCanopy fun c => { c with sinceBeacon := 1 }) _ _
  have hval : ∀ k, k ≠ Key.missedBeaconRun → ((s.dev.setCanopy fun c => { c with sinceBeacon := 1 }).bump Key.missedBeaconRun).val k = s.dev.val k :=
    fun k h => Dev.val_bump_other (s.dev.setCanopy fun c => { c with sinceBeacon := 1 }) 1 (Ne.symm h)
  have hcan := bump_canopy (s.dev.setCanopy fun c => { c with sinceBeacon := 1 }) Key.missedBeaconRun
  have hk : Keeps 33554436 s.dev ((s.dev.setCanopy fun c => { c with sinceBeacon := 1 }).bump Key.missedBeaconRun) :=
    Dev.bump_keeps _ _ _ (by decide) (Dev.setCanopy_keeps _ _ (by decide) (.refl _ _))
  generalize (s.dev.setCanopy fun c => { c with sinceBeacon := 1 }).bump Key.missedBeaconRun = e at *
  rw [hcount] at hex
  refine ⟨_, hex, ?_⟩
  beta_reduce
  intro n
  by_cases h8 : 8 ≤ min (s.dev.nat Key.missedBeaconRun + 1) (Dev.top Key.missedBeaconRun)
  · rw [if_pos h8]
    simp only [if_pos h8]
    exact canopyLeave_left (hk.mono (by decide)) _
  · rw [if_neg h8]
    simp only [if_neg h8]
    exact ⟨hcount, hcan, hk.only (by decide) fun k hk => hval k fun he => hk (by rw [he]; decide)⟩

/-- CANOPY_HEADER_FAIL. -/
theorem canopyHeaderFail_counts (s : State) (hh : s.dev.canopyHears = true) (hn : s.dev.canopy.node ≠ .off) :
    Completes .canopyHeaderFail s fun t =>
      t.dev.nat Key.headerFailCount = min (s.dev.nat Key.headerFailCount + 1) (Dev.top Key.headerFailCount) ∧ Only [] [Key.headerFailCount] s t := by
  have hex : exec .canopyHeaderFail s = .next { s with dev := Dev.canopyHeaderFail s.dev } := rfl
  unfold Dev.canopyHeaderFail at hex
  rw [if_pos ⟨hh, hn⟩] at hex
  exact ⟨_, hex, Dev.nat_bump _ _ _, (Dev.bump_keeps0 _ _ _).only (by decide) fun k hk => Dev.val_bump_other _ 1 fun he => hk (by rw [← he]; decide)⟩

/-! ### NIFs (14 R383, R391, R392, R398, R399) -/

theorem ownLong_of_val {d e : Dev} (h : e.val Key.deviceIdHash = d.val Key.deviceIdHash) : e.ownLong = d.ownLong := by
  unfold Dev.ownLong
  rw [bytes_of_val h]

/-- The NIF taken from the beacon, with the headroom it carries shown (R394). -/
def nifReady (d : Dev) (use : Bytes) : Dev := (d.setCanopy fun c => { c with nifFollows := false }).putBytes Key.headroomUse use

theorem nifReady_leaves (d : Dev) (use : Bytes) : (nifReady d use).canopy = { d.canopy with nifFollows := false } ∧ Keeps 33554436 d (nifReady d use) ∧
    ∀ k, k ≠ Key.headroomUse → (nifReady d use).val k = d.val k :=
  ⟨(Dev.putBytes_keeps0 (d.setCanopy fun c => { c with nifFollows := false }) _ _).get_canopy rfl,
    Dev.putBytes_keeps _ _ _ (by decide) (Dev.setCanopy_keeps _ _ (by decide) (.refl _ _)),
    fun _ h => Dev.val_putBytes_other (d.setCanopy fun c => { c with nifFollows := false }) _ (Ne.symm h)⟩

/-- What the NIF of a node says. -/
def NifOf (d : Dev) (p : NifPayload) : Prop :=
  p.gcn = d.canopy.gcn / 64 * 64 ∧ p.network.val = d.nat Key.networkId % 4096 ∧ p.discontinuous = d.canopy.gap ∧ p.coordLong = d.ownLong ∧
  p.utcValid = !d.time.unknown

theorem nifSend_eq (d : Dev) (ht : d.canopyTalks = true) (hr : d.canopyRange = true) (hn : d.canopy.node = .coordinator) (h1 : d.canopy.cyc = 1)
    (hf : d.canopy.nifFollows = true) : ∃ use p, NifOf d p ∧ d.nifSend = (nifReady d use).emit ⟨0x7FF, .nif p, false, 0, 0, 1⟩ := by
  unfold Dev.nifSend
  dsimp only
  rw [if_neg (by simp [ht, hr, hn, h1, hf])]
  refine ⟨_, _, ⟨?_, ?_, ?_, ?_, ?_⟩, rfl⟩
  · rfl
  · exact congrArg (· % 4096) (nat_of_val ((nifReady_leaves d _).2.2 Key.networkId (by decide)))
  · rfl
  · exact ownLong_of_val ((nifReady_leaves d _).2.2 Key.deviceIdHash (by decide))
  · exact congrArg (fun t => !t.unknown) ((nifReady_leaves d _).2.1.get_time rfl)

/-- NIF_SEND. -/
theorem nifSend_sends (s : State) (ht : s.dev.canopyTalks = true) (hr : s.dev.canopyRange = true) (hn : s.dev.canopy.node = .coordinator)
    (h1 : s.dev.canopy.cyc = 1) (hf : s.dev.canopy.nifFollows = true) (hnone : s.dev.byAddr 0x7FF = none) (hb : s.dev.burl.broadcast.isSome = true) :
    Completes .nifSend s fun t =>
      t.dev.canopy.nifFollows = false ∧
      (∃ (counter : Nat) (p : NifPayload) (air : List Sym), t.dev.out = s.dev.out ++
          [.canopy (s.dev.nat Key.shortAddress) 0x7FF 0 false 0 (some counter) (.nif p) air] ∧ NifOf s.dev p) ∧
      Only [.out, .canopy] [Key.headroomUse, Key.framesSent] s t := by
  have hex : exec .nifSend s = .next { s with dev := Dev.nifSend s.dev } := rfl
  obtain ⟨use, p, hp, heq⟩ := nifSend_eq s.dev ht hr hn h1 hf
  rw [heq] at hex
  obtain ⟨hc, hk, hv⟩ := nifReady_leaves s.dev use
  generalize nifReady s.dev use = e at *
  have hpeer : e.peerOf 0x7FF (.nif p) = none := by
    unfold Dev.peerOf Dev.byAddr Dev.neighAt
    rw [hc]
    exact hnone
  have hmap : e.frameMap 0x7FF (.nif p) = 0 := by
    unfold Dev.frameMap Dev.peer
    rw [hpeer]
    rfl
  obtain ⟨⟨-, -, -, hfol⟩, ⟨counter, air, hsome, hout⟩, hval⟩ := emit_says e ⟨0x7FF, .nif p, false, 0, 0, 1⟩
    ((canopyTalks_congr hk (by rw [hc])).trans ht) fun _ => by
      unfold Dev.frameKey
      dsimp only
      rw [hpeer]
      dsimp only
      rw [if_pos rfl, hk.get_burl rfl]
      exact hb
  obtain ⟨n, rfl⟩ := Option.isSome_iff_exists.1 (hsome.trans (show CnpMsg.secured (.nif p) = true from rfl))
  have hke := Dev.emit_keeps0 e ⟨0x7FF, .nif p, false, 0, 0, 1⟩
  refine ⟨_, hex, hfol.trans (by rw [hc]), ⟨n, p, air, ?_, hp⟩, ?_⟩
  · dsimp only at hout ⊢
    rw [hout, hmap, hk.get_out rfl, nat_of_val (hv Key.shortAddress (by decide))]
  · refine ((hk.mono (by decide)).trans hke).only (by decide) fun k hk => (hval k fun he => hk (by rw [he]; decide)).trans (hv k fun he => hk (by rw [he]; decide))

/-- A node that has heard a NIF of the network it listens to (R398). -/
def nifHeard (d : Dev) (p : NifPayload) : Dev := d.setCanopy fun c => { c with heardNif := true, heardLong := p.coordLong }

/-- It joins that network (R398). -/
def joining (d : Dev) (p : NifPayload) : Dev :=
  (d.setCanopy fun c => { c with node := .joining, tries := 0, span := p.span }).putNat Key.networkId p.network

theorem askJoin_leaves (d : Dev) : (∃ nonce prev, (Dev.askJoin d).canopy.queue = d.canopy.queue ++ [⟨0, .joinRequest d.ownLong nonce prev 7 0x10, false, 0, 4, 0⟩]) ∧
    (Dev.askJoin d).canopy.node = d.canopy.node := ⟨⟨_, _, rfl⟩, rfl⟩

/-- NIF at a node that listens. -/
theorem nif_joins (s : State) (f : CnpFrame) (p : NifPayload) (hh : s.dev.canopyHears = true) (hr : s.dev.canopyRange = true) (hbody : f.bodyOk = true)
    (hmic : f.micOk = true) (hn : s.dev.canopy.node = .listening) (hd : s.dev.canopy.heard = some p.network.val) (h64 : 64 ≤ s.dev.canopy.listened)
    (hheld : s.dev.canopyHeld = false) :
    Completes (.nif f p) s fun t =>
      t.dev.canopy.node = .joining ∧ t.dev.nat Key.networkId = p.network.val ∧
      (∃ nonce prev, t.dev.canopy.queue = s.dev.canopy.queue ++
        [⟨0, .joinRequest s.dev.ownLong nonce prev 7 0x10, false, 0, 4, 0⟩]) ∧ Only [.free, .canopy] [Key.networkId] s t := by
  have hex : exec (.nif f p) s = .next { s with dev := Dev.nifReceive f p s.dev } := rfl
  have heq : Dev.nifReceive f p s.dev = (joining (nifHeard s.dev p) p).askJoin := by
    unfold Dev.nifReceive
    rw [if_neg (by simp [hh, hr]), hn]
    dsimp only
    rw [if_neg (by simp [hd, hbody, hmic])]
    refine if_neg ?_
    rintro (h | h)
    · exact absurd (show s.dev.canopy.listened < 64 from h) (by omega)
    · exact absurd (show s.dev.canopyHeld = true from h) (by rw [hheld]; decide)
  rw [heq] at hex
  obtain ⟨⟨nonce, prev, hq⟩, hnode⟩ := askJoin_leaves (joining (nifHeard s.dev p) p)
  have hc : (joining (nifHeard s.dev p) p).canopy = { (nifHeard s.dev p).canopy with node := .joining, tries := 0, span := p.span } :=
    (Dev.putNat_keeps0 _ Key.networkId p.network).get_canopy rfl
  have hnet : (joining (nifHeard s.dev p) p).nat Key.networkId = p.network.val := Dev.nat_putNat _ _ _
  have hv : ∀ k, k ≠ Key.networkId → (joining (nifHeard s.dev p) p).val k = s.dev.val k := fun k h =>
    Dev.val_putNat_other ((nifHeard s.dev p).setCanopy fun c => { c with node := .joining, tries := 0, span := p.span }) _ (Ne.symm h)
  have hk : Keeps 33554436 s.dev (joining (nifHeard s.dev p) p) :=
    Dev.putNat_keeps _ _ _ (by decide) (Dev.setCanopy_keeps _ _ (by decide) (Dev.setCanopy_keeps _ _ (by decide) (.refl _ _)))
  generalize joining (nifHeard s.dev p) p = e at *
  have hka := Dev.askJoin_keeps0 e
  refine ⟨_, hex, hnode.trans (by rw [hc]), (nat_of_val (val_of_obj (hka.get_obj rfl) _)).trans hnet, ⟨nonce, prev, ?_⟩, ?_⟩
  · dsimp only
    rw [hq, hc, ownLong_of_val (hv _ (by decide))]
    rfl
  · exact Keeps.only (M := 33554437) ((hk.mono (by decide)).trans (hka.mono (by decide))) (by decide) fun k hk =>
      (val_of_obj (hka.get_obj rfl) k).trans (hv k fun he => hk (by rw [he]; decide))

/-- NIF at a coordinator that hears another network. -/
theorem nif_elects (s : State) (f : CnpFrame) (p : NifPayload) (hh : s.dev.canopyHears = true) (hr : s.dev.canopyRange = true) (hbody : f.bodyOk = true)
    (hmic : f.micOk = true) (hn : s.dev.canopy.node = .coordinator) (hd : s.dev.canopy.heard = some p.network.val)
    (hnet : p.network.val ≠ s.dev.nat Key.networkId) (hy : s.dev.canopy.yields = false) :
    Completes (.nif f p) s fun t =>
      if 0x10 < p.rank.val ∨ p.rank.val = 0x10 ∧ leVal p.coordLong < leVal s.dev.ownLong then
        t.dev.canopy = { s.dev.canopy with yields := true } ∧
        t.dev.nat Key.electionCount = min (s.dev.nat Key.electionCount + 1) (Dev.top Key.electionCount) ∧ Only [.canopy] [Key.electionCount] s t
      else t = s := by
  have hex : exec (.nif f p) s = .next { s with dev := Dev.nifReceive f p s.dev } := rfl
  have heq : Dev.nifReceive f p s.dev = if 0x10 < p.rank.val ∨ p.rank.val = 0x10 ∧ leVal p.coordLong < leVal s.dev.ownLong then
      (s.dev.bump Key.electionCount).setCanopy fun c => { c with yields := true } else s.dev := by
    have hst : Dev.stronger p.rank p.coordLong 0x10 s.dev.ownLong = decide (0x10 < p.rank.val ∨ p.rank.val = 0x10 ∧ leVal p.coordLong < leVal s.dev.ownLong) := by
      unfold Dev.stronger
      simp only [Bool.decide_or, Bool.decide_and]
    unfold Dev.nifReceive
    rw [if_neg (by simp [hh, hr]), hn]
    dsimp only
    rw [hst, if_neg (show ¬ s.dev.canopy.yields = true by rw [hy]; decide)]
    by_cases hc : 0x10 < p.rank.val ∨ p.rank.val = 0x10 ∧ leVal p.coordLong < leVal s.dev.ownLong
    · rw [if_pos hc, if_pos ⟨hd, hnet, hbody, hmic, decide_eq_true hc⟩]
    · rw [if_neg hc, if_neg fun h => hc (of_decide_eq_true h.2.2.2.2)]
  rw [heq] at hex
  refine ⟨_, hex, ?_⟩
  dsimp only
  split
  · refine ⟨congrArg (fun c : Canopy => { c with yields := true }) (bump_canopy s.dev _), Dev.nat_bump s.dev _ _, ?_⟩
    exact Keeps.only (M := 33554436) (Dev.setCanopy_keeps _ _ (by decide) ((Dev.bump_keeps0 s.dev _ _).mono (by decide))) (by decide) fun k hk =>
      Dev.val_bump_other s.dev 1 fun he => hk (by rw [← he]; decide)
  · rfl

/-! ### A member takes a NIF (14 R391, R392) -/

theorem takeGcn_leaves (d : Dev) (g : Nat) : (∃ gap valid, (d.takeGcn g).canopy = { d.canopy with gcn := g % 2 ^ 48, known := true, gap := gap, valid := valid }) ∧
    (∀ k, k ≠ Key.gridCycleNumber → k ≠ Key.gcnValid → (d.takeGcn g).val k = d.val k) := by
  unfold Dev.takeGcn
  dsimp only
  split
  case isTrue h =>
    refine ⟨⟨d.canopy.gap, d.canopy.valid, ?_⟩, fun _ _ _ => rfl⟩
    rw [← h.1, ← h.2]
  case isFalse h =>
    split
    · obtain ⟨hc, -, hv, -⟩ := writeGcn_leaves (d.setCanopy fun c => { c with gcn := g % 2 ^ 48, known := true, gap := d.canopy.known, valid := c.valid && !d.canopy.known })
      exact ⟨⟨_, _, hc⟩, hv⟩
    · exact ⟨⟨_, _, rfl⟩, fun _ _ _ => rfl⟩

/-- The settings and the coordinator of a NIF (R391). -/
def nifNoted (d : Dev) (p : NifPayload) : Dev :=
  (((d.setCanopy fun c => { c with
    drezu := p.drezu, masks := p.masks.toList.map fun (x : BitVec 8) => x.toNat, reservations := p.reservations, span := p.span
    nifEvery := p.nifInterval, refreshS := p.refreshS }).putBytes Key.coordinatorLong p.coordLong).putNat Key.coordinatorRank p.rank).putBytes Key.headroomUse
      (p.headroom.toList.map fun x => BitVec.ofNat 8 x)

theorem nifNoted_leaves (d : Dev) (p : NifPayload) : (nifNoted d p).canopy = { d.canopy with
      drezu := p.drezu, masks := p.masks.toList.map fun (x : BitVec 8) => x.toNat, reservations := p.reservations, span := p.span
      nifEvery := p.nifInterval, refreshS := p.refreshS } ∧
    (nifNoted d p).bytes Key.coordinatorLong = p.coordLong ∧ (nifNoted d p).nat Key.coordinatorRank = p.rank.val ∧
    (nifNoted d p).val Key.timeFromCanopy = d.val Key.timeFromCanopy ∧ Keeps 33554436 d (nifNoted d p) := by
  unfold nifNoted
  obtain ⟨e, he⟩ : ∃ e, e = d.setCanopy fun c => { c with
      drezu := p.drezu, masks := p.masks.toList.map fun (x : BitVec 8) => x.toNat, reservations := p.reservations, span := p.span
      nifEvery := p.nifInterval, refreshS := p.refreshS } := ⟨_, rfl⟩
  have hk : Keeps 33554432 d e := by
    rw [he]
    exact Dev.setCanopy_keeps0 _ _
  rw [← he]
  have hput : Keeps 4 e (((e.putBytes Key.coordinatorLong p.coordLong).putNat Key.coordinatorRank p.rank).putBytes Key.headroomUse
      (p.headroom.toList.map fun x => BitVec.ofNat 8 x)) := Dev.putBytes_keeps _ _ _ (by decide) (Dev.putNat_keeps _ _ _ (by decide) (Dev.putBytes_keeps0 _ _ _))
  refine ⟨(hput.get_canopy rfl).trans (by rw [he]; rfl), ?_, ?_, ?_, (hk.mono (by decide)).trans (hput.mono (by decide))⟩
  · exact (bytes_of_val ((Dev.val_putBytes_other _ _ (by decide)).trans (Dev.val_putNat_other _ _ (by decide)))).trans (Dev.bytes_putBytes _ _ _)
  · exact (nat_of_val (Dev.val_putBytes_other _ _ (by decide))).trans (Dev.nat_putNat _ _ _)
  · exact (Dev.val_putBytes_other _ _ (by decide)).trans ((Dev.val_putNat_other _ _ (by decide)).trans ((Dev.val_putBytes_other _ _ (by decide)).trans
      (val_of_obj (hk.get_obj rfl) _)))

theorem takeNif_leaves (p : NifPayload) (d : Dev) :
    (Dev.takeNif p d).canopy.gcn = (p.gcn + d.canopy.cyc) % 2 ^ 48 ∧ (Dev.takeNif p d).canopy.known = true ∧ (Dev.takeNif p d).canopy.drezu = p.drezu ∧
    (Dev.takeNif p d).canopy.reservations = p.reservations ∧ (Dev.takeNif p d).canopy.node = d.canopy.node ∧
    (Dev.takeNif p d).bytes Key.coordinatorLong = p.coordLong ∧ (Dev.takeNif p d).nat Key.coordinatorRank = p.rank.val ∧
    (p.utcValid = false ∨ d.flag Key.timeFromCanopy = false → (Dev.takeNif p d).time = d.time) := by
  have heq : Dev.takeNif p d = if p.utcValid ∧ ((nifNoted d p).takeGcn (p.gcn + (nifNoted d p).canopy.cyc)).flag Key.timeFromCanopy then
      ((nifNoted d p).takeGcn (p.gcn + (nifNoted d p).canopy.cyc)).setTime
        ((((nifNoted d p).takeGcn (p.gcn + (nifNoted d p).canopy.cyc)).nowUs : Int) + ((p.utc : Int) - ((nifNoted d p).takeGcn (p.gcn + (nifNoted d p).canopy.cyc)).canopy.cyc0))
      else (nifNoted d p).takeGcn (p.gcn + (nifNoted d p).canopy.cyc) := rfl
  obtain ⟨hc, hlong, hrank, hfrom, hk⟩ := nifNoted_leaves d p
  obtain ⟨⟨gap, valid, hgc⟩, hgv⟩ := takeGcn_leaves (nifNoted d p) (p.gcn + (nifNoted d p).canopy.cyc)
  have hgk := Dev.takeGcn_keeps0 (nifNoted d p) (p.gcn + (nifNoted d p).canopy.cyc)
  rw [heq]
  generalize (nifNoted d p).takeGcn (p.gcn + (nifNoted d p).canopy.cyc) = f at hgc hgv hgk ⊢
  have hflag : f.flag Key.timeFromCanopy = d.flag Key.timeFromCanopy := flag_of_val ((hgv _ (by decide) (by decide)).trans hfrom)
  have htime : f.time = d.time := (hgk.get_time rfl).trans (hk.get_time rfl)
  rw [hc] at hgc
  have hrest : f.canopy.gcn = (p.gcn + d.canopy.cyc) % 2 ^ 48 ∧ f.canopy.known = true ∧ f.canopy.drezu = p.drezu ∧
      f.canopy.reservations = p.reservations ∧ f.canopy.node = d.canopy.node ∧ f.bytes Key.coordinatorLong = p.coordLong ∧
      f.nat Key.coordinatorRank = p.rank.val := by
    refine ⟨?_, ?_, ?_, ?_, ?_, (bytes_of_val (hgv _ (by decide) (by decide))).trans hlong, (nat_of_val (hgv _ (by decide) (by decide))).trans hrank⟩ <;> rw [hgc]
  obtain ⟨h1, h2, h3, h4, h5, h6, h7⟩ := hrest
  split
  case isTrue h =>
    have hs := Dev.setTime_keeps0 f ((f.nowUs : Int) + ((p.utc : Int) - f.canopy.cyc0))
    have hsc := hs.get_canopy rfl
    have hsv := fun k => val_of_obj (hs.get_obj rfl) k
    generalize f.setTime ((f.nowUs : Int) + ((p.utc : Int) - f.canopy.cyc0)) = g at hsc hsv ⊢
    rw [hsc]
    refine ⟨h1, h2, h3, h4, h5, (bytes_of_val (hsv _)).trans h6, (nat_of_val (hsv _)).trans h7, fun hno => ?_⟩
    rw [hflag] at h
    rcases hno with hno | hno
    · exact absurd h.1 (by rw [hno]; decide)
    · exact absurd h.2 (by rw [hno]; decide)
  case isFalse h => exact ⟨h1, h2, h3, h4, h5, h6, h7, fun _ => htime⟩

/-- NIF at a member of its network. -/
theorem nif_taken (s : State) (f : CnpFrame) (p : NifPayload) (n : Fin 128) (x : Neigh) (w : Nat × Nat) (hh : FrameHeard s.dev f n x)
    (hr : s.dev.canopyRange = true) (hn : s.dev.canopy.node = .member) (hnet : p.network.val = s.dev.nat Key.networkId) (hkey : s.dev.keyLoaded f n = true)
    (hsec : f.secured = true) (hmic : f.micOk = true) (hw : Dev.counterWindow x.high x.window f.counter.toNat = some w) :
    Completes (.nif f p) s fun t =>
      t.dev.canopy.gcn = (p.gcn + s.dev.canopy.cyc) % 2 ^ 48 ∧ t.dev.canopy.known = true ∧ t.dev.canopy.drezu = p.drezu ∧
      t.dev.canopy.reservations = p.reservations ∧ t.dev.bytes Key.coordinatorLong = p.coordLong ∧ t.dev.nat Key.coordinatorRank = p.rank.val ∧
      (p.utcValid = false ∨ s.dev.flag Key.timeFromCanopy = false → t.dev.time = s.dev.time) ∧ t.dev.canopy.node = .member ∧
      Within [.obj, .time, .crossings, .canopy] s t := by
  have hex : exec (.nif f p) s = .next { s with dev := Dev.nifReceive f p s.dev } := rfl
  have heq : Dev.nifReceive f p s.dev = Dev.takeNif p (receivedFrom s.dev n (notedOf s.dev f x w)) := by
    have h1 : Dev.nifReceive f p s.dev = Dev.canopyReceive f true (fun _ d => Dev.takeNif p d) s.dev := by
      unfold Dev.nifReceive
      rw [if_neg (by simp [hh.hears, hr]), hn]
      dsimp only
      exact if_neg fun h => h hnet
    rw [h1, canopyReceive_eq hh, if_neg (by decide), if_neg (by simp [hsec, hmic, hkey]), hw]
  rw [heq] at hex
  have hc := receivedFrom_canopy s.dev n (notedOf s.dev f x w)
  have hk := receivedFrom_keeps s.dev n (notedOf s.dev f x w)
  have hv := receivedFrom_val s.dev n (notedOf s.dev f x w) (k := Key.timeFromCanopy) (by decide)
  generalize receivedFrom s.dev n (notedOf s.dev f x w) = e at *
  obtain ⟨h1, h2, h3, h4, h5, h6, h7, h8⟩ := takeNif_leaves p e
  have hkt := Dev.takeNif_keeps0 p e
  rw [hc] at h1 h5
  refine ⟨_, hex, h1, h2, h3, h4, h6, h7, fun hno => ?_, h5.trans hn, ((hk.mono (by decide)).trans hkt).within (by decide)⟩
  exact (h8 (by rwa [flag_of_val hv])).trans (hk.get_time rfl)

/-! ### A coordinator that starts (14 R392, R398) -/

/-- The network it forms (R398). -/
def formedNetwork (d : Dev) : Nat :=
  if d.nat Key.preferredNetworkId ≠ 0 then d.nat Key.preferredNetworkId else if leVal d.ownLong % 4096 = 0 then 1 else leVal d.ownLong % 4096

/-- The engine as coordinator. -/
def asCoordinator (d : Dev) (g net : Nat) : Dev := d.setCanopy fun c => { c with
  node := .coordinator, gcn := (g + 63) / 64 * 64 % 2 ^ 48, known := true, gap := false, valid := true, cyc := 0, cyc0 := d.nowUs
  sinceBeacon := 64, heard := none, heardNif := false, lastNetwork := some net }

/-- The objects of a coordinator (R407). -/
def coordinatorShown (d : Dev) (net : Nat) : Dev :=
  let d := ((d.putNat Key.shortAddress 0).putNat Key.networkId net).putBytes Key.coordinatorLong d.ownLong
  let d := ((d.putNat Key.coordinatorRank 0x10).putNat Key.joinedSince d.nowUs).putNat Key.phaseCode 0
  d.putNat Key.networkPhaseOfL1 0

theorem coordinatorShown_leaves (d : Dev) (net : Nat) : (coordinatorShown d net).nat Key.shortAddress = 0 ∧ (coordinatorShown d net).nat Key.networkId = net ∧
    (coordinatorShown d net).bytes Key.coordinatorLong = d.ownLong ∧ Keeps 4 d (coordinatorShown d net) := by
  have hk : Keeps 4 d (coordinatorShown d net) := by
    unfold coordinatorShown
    exact Dev.putNat_keeps _ _ _ (by decide) (Dev.putNat_keeps _ _ _ (by decide) (Dev.putNat_keeps _ _ _ (by decide) (Dev.putNat_keeps _ _ _ (by decide)
      (Dev.putBytes_keeps _ _ _ (by decide) (Dev.putNat_keeps _ _ _ (by decide) (Dev.putNat_keeps0 _ _ _))))))
  have hlate : ∀ (e : Dev) (now k : Nat), k ≠ Key.coordinatorRank → k ≠ Key.joinedSince → k ≠ Key.phaseCode → k ≠ Key.networkPhaseOfL1 →
      ((((e.putNat Key.coordinatorRank 0x10).putNat Key.joinedSince now).putNat Key.phaseCode 0).putNat Key.networkPhaseOfL1 0).val k = e.val k :=
    fun e now k h1 h2 h3 h4 => (Dev.val_putNat_other _ _ (Ne.symm h4)).trans ((Dev.val_putNat_other _ _ (Ne.symm h3)).trans
      ((Dev.val_putNat_other _ _ (Ne.symm h2)).trans (Dev.val_putNat_other _ _ (Ne.symm h1))))
  refine ⟨?_, ?_, ?_, hk⟩
  · refine (nat_of_val ((hlate _ _ _ (by decide) (by decide) (by decide) (by decide)).trans ((Dev.val_putBytes_other _ _ (by decide)).trans
      (Dev.val_putNat_other _ _ (by decide))))).trans (Dev.nat_putNat _ _ _)
  · exact (nat_of_val ((hlate _ _ _ (by decide) (by decide) (by decide) (by decide)).trans (Dev.val_putBytes_other _ _ (by decide)))).trans (Dev.nat_putNat _ _ _)
  · exact (bytes_of_val (hlate _ _ _ (by decide) (by decide) (by decide) (by decide))).trans (Dev.bytes_putBytes _ _ _)

theorem loadBroadcast_leaves (d : Dev) (net : Nat) : (∀ k, k ≠ Key.useCount 0x08 → k ≠ Key.refusedCount 0x08 → (d.loadBroadcast net).val k = d.val k) ∧
    Keeps 8388612 d (d.loadBroadcast net) := by
  refine ⟨fun k h1 h2 => ?_, Dev.loadBroadcast_keeps0 d net⟩
  have hu := val_useKey d 0x08 h1 h2
  unfold Dev.loadBroadcast
  dsimp only
  split
  · exact hu
  · exact hu

theorem coordinatorStart_eq (d : Dev) (random : Nat) (hu : d.canopyUp = true) (hb : d.burlUp = true) (hr : d.canopyRange = true)
    (hn : d.canopy.node = .listening) (hheld : d.canopyHeld = false) (ha : d.flag Key.coordinatorAllowed = true) (h64 : random < 64)
    (hs : 192 + random ≤ d.canopy.sinceBeacon) : ∃ g, Dev.coordinatorStart random d =
      ((coordinatorShown (asCoordinator d g (formedNetwork d)) (formedNetwork d)).loadBroadcast (formedNetwork d)).writeGcn := by
  unfold Dev.coordinatorStart
  dsimp only
  rw [if_neg (by
    simp only [hu, hb, hr, hn, hheld, ha, Bool.not_true, Bool.false_eq_true, false_or, ne_eq, not_true_eq_false]
    omega)]
  exact ⟨_, rfl⟩

/-- COORDINATOR_START. -/
theorem coordinatorStart_starts (s : State) (random : Nat) (hu : s.dev.canopyUp = true) (hb : s.dev.burlUp = true) (hr : s.dev.canopyRange = true)
    (hn : s.dev.canopy.node = .listening) (hheld : s.dev.canopyHeld = false) (ha : s.dev.flag Key.coordinatorAllowed = true) (h64 : random < 64)
    (hs : 192 + random ≤ s.dev.canopy.sinceBeacon) :
    Completes (.coordinatorStart random) s fun t =>
      t.dev.canopy.node = .coordinator ∧ t.dev.canopy.gcn % 64 = 0 ∧ t.dev.canopy.valid = true ∧ t.dev.nat Key.shortAddress = 0 ∧
      t.dev.nat Key.gridCycleNumber = t.dev.canopy.gcn ∧ t.dev.bytes Key.coordinatorLong = s.dev.ownLong ∧
      (s.dev.nat Key.preferredNetworkId ≠ 0 → t.dev.nat Key.networkId = s.dev.nat Key.preferredNetworkId) ∧
      Within [.obj, .crossings, .burl, .canopy] s t := by
  have hex : exec (.coordinatorStart random) s = .next { s with dev := Dev.coordinatorStart random s.dev } := rfl
  obtain ⟨first, heq⟩ := coordinatorStart_eq s.dev random hu hb hr hn hheld ha h64 hs
  rw [heq] at hex
  have hnet : s.dev.nat Key.preferredNetworkId ≠ 0 → formedNetwork s.dev = s.dev.nat Key.preferredNetworkId := fun h => if_pos h
  generalize formedNetwork s.dev = net at *
  have hcan : (asCoordinator s.dev first net).canopy.node = .coordinator ∧ (asCoordinator s.dev first net).canopy.gcn =
      (first + 63) / 64 * 64 % 2 ^ 48 ∧ (asCoordinator s.dev first net).canopy.valid = true ∧
      (asCoordinator s.dev first net).ownLong = s.dev.ownLong := ⟨rfl, rfl, rfl, rfl⟩
  have hk0 : Keeps 33554432 s.dev (asCoordinator s.dev first net) := Dev.setCanopy_keeps0 _ _
  generalize asCoordinator s.dev first net = e at *
  obtain ⟨haddr, hnid, hlong, hk1⟩ := coordinatorShown_leaves e net
  generalize coordinatorShown e net = f at *
  obtain ⟨hv2, hk2⟩ := loadBroadcast_leaves f net
  generalize f.loadBroadcast net = g at *
  obtain ⟨hc3, hgcn, hv3, hk3⟩ := writeGcn_leaves g
  have hc : g.writeGcn.canopy = e.canopy := hc3.trans ((hk2.get_canopy rfl).trans (hk1.get_canopy rfl))
  have hall : Keeps 41943076 s.dev g.writeGcn := (((hk0.mono (by decide)).trans (hk1.mono (by decide))).trans (hk2.mono (by decide))).trans (hk3.mono (by decide))
  have hv : ∀ k, k ≠ Key.gridCycleNumber → k ≠ Key.gcnValid → k ≠ Key.useCount 0x08 → k ≠ Key.refusedCount 0x08 → g.writeGcn.val k = f.val k :=
    fun k h1 h2 h3 h4 => (hv3 k h1 h2).trans (hv2 k h3 h4)
  obtain ⟨h1, h2, h3, h4⟩ := hcan
  refine ⟨_, hex, ?_, ?_, ?_, ?_, ?_, ?_, fun hp => ?_, hall.within (by decide)⟩
  · exact (congrArg Canopy.node hc).trans h1
  · dsimp only
    rw [hc, h2]
    omega
  · exact (congrArg Canopy.valid hc).trans h3
  · exact (nat_of_val (hv _ (by decide) (by decide) (by decide) (by decide))).trans haddr
  · exact hgcn.trans (congrArg Canopy.gcn hc3).symm
  · exact (bytes_of_val (hv _ (by decide) (by decide) (by decide) (by decide))).trans (hlong.trans h4)
  · exact (nat_of_val (hv _ (by decide) (by decide) (by decide) (by decide))).trans (hnid.trans (hnet hp))

/-- Settles O50: mains cycles, beacons, NIFs and the range move the node. -/
theorem canopyNodesKeepTheGrid : Obligations.CanopyNodesKeepTheGrid := by
  unfold Obligations.CanopyNodesKeepTheGrid
  intro left joined
  exact ⟨canopyRangeChange_moves, networkCrossing_counts, networkCrossing_yields, beaconSend_sends,
    fun s network nif drezu x delta hh h1b hr => ⟨beaconReceive_heard s network nif drezu x delta hh h1b hr,
      fun hn => (beaconReceive_member s network nif drezu x delta hh h1b hr hn).1, fun hn => (beaconReceive_member s network nif drezu x delta hh h1b hr hn).2⟩,
    beaconMissed_counts, nifSend_sends,
    fun s f p hh hr hbody hmic => ⟨nif_joins s f p hh hr hbody hmic, nif_elects s f p hh hr hbody hmic⟩,
    fun s f p n x w hh hr hmap hkey hn hnet hd ho hbody hsec hmic hsrc hx hw =>
      nif_taken s f p n x w ⟨hh, .inl hn, .inr hd, hmap, hbody, hsrc, hx, fun h => ho (h.1.symm.trans hd)⟩ hr hn hnet hkey hsec hmic hw,
    coordinatorStart_starts, canopyHeaderFail_counts⟩

end Sys2Proof.Machine
end

section
/-! PROOFS. Nodes that join, leave and rejoin; the keys of links (14 R398 to R404; settles O51). -/

namespace Sys2Proof.Machine

/-! ### Frames that use the admission key (14 R401, R402; 16 R425) -/

section
variable (d : Dev)

/-- A frame is counted, and Burl derives with the admission key. -/
def keyed : Dev := (d.bump Key.framesReceived).useKey 0x08

theorem keyed_leaves : (keyed d).canopy = d.canopy ∧ Keeps 4 d (keyed d) ∧ (keyed d).keyOf 0x08 = d.keyOf 0x08 ∧
    (∀ k, k ≠ Key.framesReceived → k ≠ Key.useCount 0x08 → k ≠ Key.refusedCount 0x08 → (keyed d).val k = d.val k) ∧
    ((d.keyOf 0x08).isSome = true → (keyed d).nat (Key.useCount 0x08) = min (d.nat (Key.useCount 0x08) + 1) (Dev.top (Key.useCount 0x08)) ∧
      (keyed d).val (Key.refusedCount 0x08) = d.val (Key.refusedCount 0x08)) ∧
    (d.keyOf 0x08 = none → (keyed d).nat (Key.refusedCount 0x08) = min (d.nat (Key.refusedCount 0x08) + 1) (Dev.top (Key.refusedCount 0x08)) ∧
      (keyed d).val (Key.useCount 0x08) = d.val (Key.useCount 0x08)) := by
  have hb := Dev.bump_keeps0 d Key.framesReceived 1
  have hbv : ∀ k, k ≠ Key.framesReceived → (d.bump Key.framesReceived).val k = d.val k := fun k h => Dev.val_bump_other d 1 (Ne.symm h)
  have hbk : (d.bump Key.framesReceived).keyOf 0x08 = d.keyOf 0x08 := keyOf_congr d 0x08 (hbv _ (by decide)) (by rw [hb.get_burl rfl])
  unfold keyed
  generalize d.bump Key.framesReceived = e at *
  have hu := Dev.useKey_keeps0 e 0x08
  have huv : ∀ k, k ≠ Key.useCount 0x08 → k ≠ Key.refusedCount 0x08 → (e.useKey 0x08).val k = e.val k := fun k h1 h2 => val_useKey e 0x08 h1 h2
  refine ⟨(hu.get_canopy rfl).trans (hb.get_canopy rfl), hb.trans hu, ?_, fun k h1 h2 h3 => (huv k h2 h3).trans (hbv k h1), fun h => ?_, fun h => ?_⟩
  · exact (keyOf_congr e 0x08 (huv _ (by decide) (by decide)) (by rw [hu.get_burl rfl])).trans hbk
  · have heq : e.useKey 0x08 = e.bump (Key.useCount 0x08) := by
      unfold Dev.useKey
      rw [hbk, if_pos h]
      rfl
    rw [heq, Dev.nat_bump, nat_of_val (hbv _ (by decide)), Dev.val_bump_other _ 1 (by decide), hbv _ (by decide)]
    exact ⟨rfl, rfl⟩
  · have heq : e.useKey 0x08 = e.bump (Key.refusedCount 0x08) := by
      unfold Dev.useKey
      rw [hbk, h]
      rfl
    rw [heq, Dev.nat_bump, nat_of_val (hbv _ (by decide)), Dev.val_bump_other _ 1 (by decide), hbv _ (by decide)]
    exact ⟨rfl, rfl⟩

/-- A neighbour in a context, and no other neighbour changed but in what it may be sent. -/
def LinkedAt (c : Fin 128) (before after : Vector (Option Neigh) 128) (long : Bytes) (addr : Nat) : Prop :=
  (∃ x, after[c] = some x ∧ x.long = long ∧ x.addr = addr ∧ x.counter = 0 ∧ x.high = 0) ∧
  ∀ n : Fin 128, n ≠ c → (after[n]).map (fun x => { x with maxPay := 0 }) = (before[n]).map (fun x => { x with maxPay := 0 })

/-- A neighbour in its context (R403). -/
def NeighLinked (e : Dev) (long : Bytes) (addr : Nat) : Prop := LinkedAt (d.contextFor long) d.canopy.neigh e.canopy.neigh long addr

theorem contextFor_congr {d e : Dev} (h : e.canopy = d.canopy) (long : Bytes) : e.contextFor long = d.contextFor long := by
  unfold Dev.contextFor Dev.byLong Dev.neighAt
  rw [h]

theorem NeighLinked.congr {d d' e e' : Dev} {long : Bytes} {addr : Nat} (h : NeighLinked d e long addr) (hd : d'.canopy = d.canopy)
    (he : e'.canopy.neigh = e.canopy.neigh) : NeighLinked d' e' long addr := by
  unfold NeighLinked
  rw [contextFor_congr hd, hd, he]
  exact h

theorem linkNeigh_leaves (long : Bytes) (addr caps : Nat) (key : Bytes) (by_ : Option Nat) :
    NeighLinked d (d.linkNeigh long addr caps key by_) long addr ∧ (d.linkNeigh long addr caps key by_).canopy.queue = d.canopy.queue ∧
    (d.linkNeigh long addr caps key by_).canopy.node = d.canopy.node ∧ (d.linkNeigh long addr caps key by_).canopy.gcn = d.canopy.gcn ∧
    Keeps 41943040 d (d.linkNeigh long addr caps key by_) := by
  unfold Dev.linkNeigh
  dsimp only
  generalize hc : ((d.setCanopy fun c => { c with
    uses := c.uses + 1, leased := d.leasesAfter long, knownLongs := (long :: c.knownLongs.filter (· ≠ long)).take 128 }).setNeigh (d.contextFor long) _) = e
  have hcan : ∃ x : Neigh, x.long = long ∧ x.addr = addr ∧ x.counter = 0 ∧ x.high = 0 ∧ e.canopy = { d.canopy with
      uses := d.canopy.uses + 1, leased := d.leasesAfter long, knownLongs := (long :: d.canopy.knownLongs.filter (· ≠ long)).take 128
      neigh := d.canopy.neigh.set (d.contextFor long) (some x) } := by
    rw [← hc]
    exact ⟨_, rfl, rfl, rfl, rfl, rfl⟩
  have hk : Keeps 33554432 d e := by
    rw [← hc]
    exact Dev.setNeigh_keeps _ _ _ (by decide) (Dev.setCanopy_keeps0 _ _)
  clear hc
  have hx := setContext_link_canopy e (d.contextFor long) (some key)
  have hxk := setContext_link_keeps e (d.contextFor long) (some key)
  generalize e.setContext (Dev.contextOf (d.contextFor long)) (some key) = f at hx hxk ⊢
  obtain ⟨x, h1, h2, h3, h4, hcan⟩ := hcan
  have hr := renewPayloads_canopy f
  have hkr := Dev.renewPayloads_keeps0 f
  have hall : Keeps 41943040 d f.renewPayloads := ((hk.mono (by decide)).trans (hxk.mono (by decide))).trans (hkr.mono (by decide))
  have hn := renewPayloads_neigh f
  refine ⟨⟨?_, fun n hne => ?_⟩, ?_, ?_, ?_, hall⟩
  · obtain ⟨p, hp⟩ := hn (d.contextFor long)
    have hset : f.canopy.neigh[d.contextFor long] = some x := by
      rw [hx, hcan]
      exact Vector.getElem_set_self _
    rw [hset] at hp
    exact ⟨_, hp, h1, h2, h3, h4⟩
  · obtain ⟨p, hp⟩ := hn n
    have hset : f.canopy.neigh[n] = d.canopy.neigh[n] := by
      rw [hx, hcan]
      exact Vector.getElem_set_ne (d.contextFor long).isLt n.isLt fun he => hne (Fin.ext he.symm)
    rw [hp, hset, Option.map_map]
    rfl
  · rw [hr, hx, hcan]
  · rw [hr, hx, hcan]
  · rw [hr, hx, hcan]

end

/-! ### JOIN_REQUEST (14 R400) -/

section
variable {d e : Dev} (h : e.canopy = d.canopy)
include h

theorem heldAddress_congr (long : Bytes) : e.heldAddress long = d.heldAddress long := by
  unfold Dev.heldAddress Dev.byLong Dev.neighAt
  rw [h]

theorem addrFree_congr : e.addrFree = d.addrFree := by
  funext a
  unfold Dev.addrFree Dev.byAddr Dev.neighAt
  rw [h]

theorem freeAddress_congr : e.freeAddress = d.freeAddress := by
  unfold Dev.freeAddress
  rw [addrFree_congr h]

end

/-- The address a node that asks may have (R400). -/
def addressFor (d : Dev) (previous : Nat) : Option Nat :=
  if 1 ≤ previous ∧ previous ≤ 0x3FF ∧ d.addrFree previous = true then some previous else d.freeAddress

/-- A node that asks is given its address, with a link key. -/
def admitted (d : Dev) (f : CnpFrame) (long nonce ownNonce : Bytes) (caps a : Nat) : Dev :=
  let d := d.linkNeigh long a caps (d.linkKey nonce ownNonce long d.ownLong) (some (d.canopy.sf + 4))
  d.enqueueCnp f.src (.joinAccept ownNonce long a (d.nat Key.networkId) d.canopy.gcn 0x10) false

/-- A request that the coordinator hears. -/
structure JoinHeard (d : Dev) (f : CnpFrame) : Prop where
  hears : d.canopyHears = true
  burl : d.burlUp = true
  map : d.holdsMap f = true
  node : d.canopy.node = .coordinator
  dst : f.dst.val = 0 ∨ f.dst.val = 0x7FF
  body : f.bodyOk = true

section
variable {d : Dev} {f : CnpFrame} (h : JoinHeard d f) (long nonce own : Bytes) (previous caps : Nat)
include h

theorem joinRequest_eq : Dev.joinRequest f long nonce previous caps own d =
    let refuse (e : Dev) (reason : Nat) : Dev := e.enqueueCnp f.src (.joinRefuse long reason) false
    if (d.heldAddress long).any fun a => a ≠ previous then refuse (d.bump Key.framesReceived) 3
    else match (match d.heldAddress long with | some a => some a | none => addressFor d previous) with
      | none => refuse (d.bump Key.framesReceived) 1
      | some a => if ((keyed d).keyOf 0x08).isNone then refuse (keyed d) 2 else admitted (keyed d) f long nonce own caps a := by
  have hc := bump_canopy d Key.framesReceived
  unfold Dev.joinRequest
  dsimp only
  rw [if_neg (by
    rintro (hn | hn | hn | hn)
    · rw [h.hears] at hn
      exact absurd hn (by decide)
    · rw [h.burl] at hn
      exact absurd hn (by decide)
    · exact hn h.node
    · rw [decide_eq_true h.dst] at hn
      exact absurd hn (by decide)), if_neg (by simp [h.map]), if_neg (by simp [h.body]), heldAddress_congr hc, addrFree_congr hc,
    freeAddress_congr hc]
  rfl

end

/-- A node turned away. -/
theorem refused_turned (s : State) (f : CnpFrame) (long : Bytes) (reason : Nat) {keys : List Nat} {e : Dev} (hc : e.canopy = s.dev.canopy) (hk : Keeps 4 s.dev e)
    (hv : ∀ k, k ∉ Key.framesReceived :: keys → e.val k = s.dev.val k) :
    let t : State := { s with dev := e.enqueueCnp f.src (.joinRefuse long reason) false }
    t.dev.canopy = { s.dev.canopy with queue := s.dev.canopy.queue ++ [⟨f.src.val, .joinRefuse long reason, false, 0, 4, 0⟩] } ∧
    Only [.canopy] (Key.framesReceived :: keys) s t := by
  have hke := Dev.enqueueCnp_keeps0 e f.src (.joinRefuse long reason) false
  refine ⟨(enqueueCnp_canopy e _ _ _).trans (by rw [hc]; rfl), Keeps.only (M := 33554436) ((hk.mono (by decide)).trans (hke.mono (by decide))) (by decide) fun k hn => ?_⟩
  exact (val_of_obj (hke.get_obj rfl) k).trans (hv k hn)

theorem joinRequest_full (s : State) (f : CnpFrame) (long nonce own : Bytes) (previous : Nat) (caps : BitVec 8) (r : Fin 256) (h : JoinHeard s.dev f)
    (hheld : s.dev.heldAddress long = none) (ha : addressFor s.dev previous = none) :
    Completes (.joinRequest f long nonce previous caps r own) s fun t =>
      t.dev.canopy = { s.dev.canopy with queue := s.dev.canopy.queue ++ [⟨f.src.val, .joinRefuse long 1, false, 0, 4, 0⟩] } ∧
      Only [.canopy] [Key.framesReceived] s t := by
  have hex : exec (.joinRequest f long nonce previous caps r own) s = .next { s with dev := Dev.joinRequest f long nonce previous caps.toNat own s.dev } := rfl
  rw [joinRequest_eq h] at hex
  dsimp only at hex
  rw [hheld, if_neg (by simp)] at hex
  dsimp only at hex
  rw [ha] at hex
  refine ⟨_, hex, refused_turned (keys := []) s f long 1 (bump_canopy _ _) (Dev.bump_keeps0 _ _ _) fun k hk => ?_⟩
  exact Dev.val_bump_other _ 1 fun he => hk (by rw [← he]; decide)

theorem joinRequest_keyless (s : State) (f : CnpFrame) (long nonce own : Bytes) (previous : Nat) (caps : BitVec 8) (r : Fin 256) (h : JoinHeard s.dev f)
    (hheld : s.dev.heldAddress long = none) (hkey : s.dev.keyOf 0x08 = none) (ha : (addressFor s.dev previous).isSome = true) :
    Completes (.joinRequest f long nonce previous caps r own) s fun t =>
      t.dev.canopy = { s.dev.canopy with queue := s.dev.canopy.queue ++ [⟨f.src.val, .joinRefuse long 2, false, 0, 4, 0⟩] } ∧
      Only [.canopy] [Key.framesReceived, Key.refusedCount 0x08] s t := by
  have hex : exec (.joinRequest f long nonce previous caps r own) s = .next { s with dev := Dev.joinRequest f long nonce previous caps.toNat own s.dev } := rfl
  obtain ⟨a, ha⟩ := Option.isSome_iff_exists.1 ha
  obtain ⟨hc, hk, hko, hv, -, hnone⟩ := keyed_leaves s.dev
  rw [joinRequest_eq h] at hex
  dsimp only at hex
  rw [hheld, if_neg (by simp)] at hex
  dsimp only at hex
  rw [ha] at hex
  dsimp only at hex
  rw [hko, hkey, if_pos (show (none : Option KeyHalf).isNone = true from rfl)] at hex
  refine ⟨_, hex, refused_turned (keys := [Key.refusedCount 0x08]) s f long 2 hc hk fun k hn => ?_⟩
  by_cases hu : k = Key.useCount 0x08
  · rw [hu]
    exact (hnone hkey).2
  · exact hv k (fun he => hn (by rw [he]; decide)) hu fun he => hn (by rw [he]; decide)

theorem joinRequest_other (s : State) (f : CnpFrame) (long nonce own : Bytes) (previous : Nat) (caps : BitVec 8) (r : Fin 256) (n : Fin 128) (x : Neigh)
    (h : JoinHeard s.dev f) (hl : s.dev.byLong long = some n) (hx : s.dev.canopy.neigh[n] = some x) (hp : x.addr ≠ previous) :
    Completes (.joinRequest f long nonce previous caps r own) s fun t =>
      t.dev.canopy = { s.dev.canopy with queue := s.dev.canopy.queue ++ [⟨f.src.val, .joinRefuse long 3, false, 0, 4, 0⟩] } ∧
      Only [.canopy] [Key.framesReceived] s t := by
  have hex : exec (.joinRequest f long nonce previous caps r own) s = .next { s with dev := Dev.joinRequest f long nonce previous caps.toNat own s.dev } := rfl
  have hheld : s.dev.heldAddress long = some x.addr := by
    unfold Dev.heldAddress
    rw [hl]
    show (match s.dev.canopy.neigh[n] with | some x => some x.addr | none => _) = _
    rw [hx]
  rw [joinRequest_eq h] at hex
  dsimp only at hex
  rw [hheld, if_pos (by simpa using hp)] at hex
  refine ⟨_, hex, refused_turned (keys := []) s f long 3 (bump_canopy _ _) (Dev.bump_keeps0 _ _ _) fun k hk => ?_⟩
  exact Dev.val_bump_other _ 1 fun he => hk (by rw [← he]; decide)

theorem admitted_leaves (d : Dev) (f : CnpFrame) (long nonce own : Bytes) (caps a : Nat) :
    NeighLinked d (admitted d f long nonce own caps a) long a ∧ (admitted d f long nonce own caps a).canopy.queue = d.canopy.queue ++
      [⟨f.src.val, .joinAccept own long a (d.nat Key.networkId) d.canopy.gcn 0x10, false, 0, 4, 0⟩] ∧
    (admitted d f long nonce own caps a).canopy.node = d.canopy.node ∧ Keeps 41943040 d (admitted d f long nonce own caps a) := by
  obtain ⟨hl, hq, hn, hg, hk⟩ := linkNeigh_leaves d long a caps (d.linkKey nonce own long d.ownLong) (some (d.canopy.sf + 4))
  unfold admitted
  dsimp only
  generalize d.linkNeigh long a caps (d.linkKey nonce own long d.ownLong) (some (d.canopy.sf + 4)) = e at *
  have hnet : e.nat Key.networkId = d.nat Key.networkId := nat_of_val (val_of_obj (hk.get_obj rfl) _)
  have hc := enqueueCnp_canopy e f.src (.joinAccept own long a (d.nat Key.networkId) d.canopy.gcn 0x10) false
  have hkq := Dev.enqueueCnp_keeps0 e f.src (.joinAccept own long a (d.nat Key.networkId) d.canopy.gcn 0x10) false
  rw [hnet, hg]
  generalize e.enqueueCnp f.src (.joinAccept own long a (d.nat Key.networkId) d.canopy.gcn 0x10) false = g at *
  refine ⟨hl.congr rfl (by rw [hc]), ?_, ?_, hk.trans (hkq.mono (by decide))⟩
  · rw [hc, hq]
    rfl
  · rw [hc, hn]

theorem joinRequest_admits (s : State) (f : CnpFrame) (long nonce own : Bytes) (previous : Nat) (caps : BitVec 8) (r : Fin 256) (h : JoinHeard s.dev f)
    (hheld : s.dev.heldAddress long = none) {a : Nat} (ha : a ∈ addressFor s.dev previous) (hkey : (s.dev.keyOf 0x08).isSome = true) :
    Completes (.joinRequest f long nonce previous caps r own) s fun t =>
      NeighLinked s.dev t.dev long a ∧ t.dev.canopy.queue = s.dev.canopy.queue ++
        [⟨f.src.val, .joinAccept own long a (s.dev.nat Key.networkId) s.dev.canopy.gcn 0x10, false, 0, 4, 0⟩] ∧
      t.dev.canopy.node = .coordinator ∧
      t.dev.nat (Key.useCount 0x08) = min (s.dev.nat (Key.useCount 0x08) + 1) (Dev.top (Key.useCount 0x08)) ∧
      Only [.burl, .canopy] [Key.framesReceived, Key.useCount 0x08] s t := by
  have hex : exec (.joinRequest f long nonce previous caps r own) s = .next { s with dev := Dev.joinRequest f long nonce previous caps.toNat own s.dev } := rfl
  obtain ⟨hc, hk, hko, hv, hsome, -⟩ := keyed_leaves s.dev
  rw [joinRequest_eq h] at hex
  dsimp only at hex
  rw [hheld, if_neg (by simp)] at hex
  dsimp only at hex
  rw [show addressFor s.dev previous = some a from ha] at hex
  dsimp only at hex
  rw [hko, if_neg (by simpa using Option.isSome_iff_ne_none.1 hkey)] at hex
  generalize keyed s.dev = e at *
  obtain ⟨hl, hq, hn, hka⟩ := admitted_leaves e f long nonce own caps.toNat a
  have hval : ∀ k, (admitted e f long nonce own caps.toNat a).val k = e.val k := fun k => val_of_obj (hka.get_obj rfl) k
  refine ⟨_, hex, hl.congr hc.symm rfl, ?_, hn.trans (by rw [hc, h.node]), (nat_of_val (hval _)).trans (hsome hkey).1, ?_⟩
  · dsimp only
    rw [hq, hc, nat_of_val (hv Key.networkId (by decide) (by decide) (by decide))]
  · refine Keeps.only (M := 41943044) ((hk.mono (by decide)).trans (hka.mono (by decide))) (by decide) fun k hn => (hval k).trans ?_
    by_cases hr : k = Key.refusedCount 0x08
    · rw [hr]
      exact (hsome hkey).2
    · exact hv k (fun he => hn (by rw [he]; decide)) (fun he => hn (by rw [he]; decide)) hr

/-! ### JOIN_ACCEPT (14 R391, R398, R402) -/

/-- A JOIN_ACCEPT that a node that joins hears. -/
structure AcceptHeard (d : Dev) (f : CnpFrame) (long : Bytes) : Prop where
  hears : d.canopyHears = true
  map : d.holdsMap f = true
  node : d.canopy.node = .joining
  address : d.nat Key.shortAddress = 0x7FE
  body : f.bodyOk = true
  long : long = d.ownLong
  burl : d.burlUp = true

/-- The coordinator as a neighbour, the broadcast key, the address and the network. -/
def addressTaken (d : Dev) (coordNonce : Bytes) (address network : Nat) : Dev :=
  (((d.linkNeigh d.canopy.heardLong 0 5 (d.linkKey d.canopy.nonce coordNonce d.ownLong d.canopy.heardLong) none).loadBroadcast network).putNat
    Key.shortAddress address).putNat Key.networkId network

/-- The coordinator shown, and the number taken. -/
def coordinatorTaken (d : Dev) (long : Bytes) (address network gcn rank : Nat) : Dev :=
  (((d.putBytes Key.coordinatorLong long).putNat Key.coordinatorRank rank).setCanopy fun c => { c with
    lastAddress := some address, lastNetwork := some network, queue := [], lastToCoord := c.sf }).takeGcn gcn

/-- The first protected frame to the coordinator: a tone-map request. -/
def firstFrame (d : Dev) (f : CnpFrame) : Dev := match d.byAddr 0 with
  | some n => (d.modNeigh n fun x => { x with high := f.counter.toNat, window := 0 }).askMap n
  | none => d

theorem joinAccept_eq {d : Dev} {f : CnpFrame} {long : Bytes} (h : AcceptHeard d f long) (nonce : Bytes) (address network gcn rank : Nat) :
    Dev.joinAccept f nonce long address network gcn rank d =
      if !f.secured ∨ !f.micOk ∨ 0x3FF < address ∨ ((keyed d).keyOf 0x08).isNone then (keyed d).bump Key.canopyAuthFailCount
      else firstFrame (coordinatorTaken (addressTaken (keyed d) nonce address network) (keyed d).canopy.heardLong address network gcn rank) f := by
  have hk := Dev.bump_keeps0 d Key.framesReceived 1
  unfold Dev.joinAccept
  dsimp only
  rw [if_neg (by simp [h.hears, h.node, h.long, h.address]), if_neg (by simp [h.map]), if_neg (by simp [h.body]),
    if_neg (by rw [burlUp_congr d (hk.get_power rfl) (hk.get_cores rfl), h.burl]; decide)]
  rfl

theorem addressTaken_leaves (d : Dev) (nonce : Bytes) (address network : Nat) :
    (addressTaken d nonce address network).nat Key.shortAddress = address ∧ (addressTaken d nonce address network).nat Key.networkId = network ∧
    (addressTaken d nonce address network).canopy.node = d.canopy.node ∧ Keeps 41943044 d (addressTaken d nonce address network) := by
  obtain ⟨-, -, hn, -, hk⟩ := linkNeigh_leaves d d.canopy.heardLong 0 5 (d.linkKey d.canopy.nonce nonce d.ownLong d.canopy.heardLong) none
  unfold addressTaken
  generalize d.linkNeigh d.canopy.heardLong 0 5 (d.linkKey d.canopy.nonce nonce d.ownLong d.canopy.heardLong) none = e at *
  have hkl := Dev.loadBroadcast_keeps0 e network
  generalize e.loadBroadcast network = g at *
  have hkp : Keeps 4 g ((g.putNat Key.shortAddress address).putNat Key.networkId network) := Dev.putNat_keeps _ _ _ (by decide) (Dev.putNat_keeps0 _ _ _)
  refine ⟨?_, Dev.nat_putNat _ _ _, ?_, ((hk.mono (by decide)).trans (hkl.mono (by decide))).trans (hkp.mono (by decide))⟩
  · exact (nat_of_val (Dev.val_putNat_other _ _ (by decide))).trans (Dev.nat_putNat _ _ _)
  · rw [hkp.get_canopy rfl, hkl.get_canopy rfl, hn]

theorem coordinatorTaken_leaves (d : Dev) (long : Bytes) (address network gcn rank : Nat) : let e := coordinatorTaken d long address network gcn rank
    e.nat Key.shortAddress = d.nat Key.shortAddress ∧ e.nat Key.networkId = d.nat Key.networkId ∧ e.nat Key.coordinatorRank = rank ∧
    e.canopy.gcn = gcn % 2 ^ 48 ∧ e.canopy.lastAddress = some address ∧ e.canopy.node = d.canopy.node ∧ Keeps 33554468 d e := by
  have hput : ∀ k, k ≠ Key.coordinatorLong → k ≠ Key.coordinatorRank →
      ((d.putBytes Key.coordinatorLong long).putNat Key.coordinatorRank rank).val k = d.val k :=
    fun k h1 h2 => (Dev.val_putNat_other _ _ (Ne.symm h2)).trans (Dev.val_putBytes_other _ _ (Ne.symm h1))
  have hrank : ((d.putBytes Key.coordinatorLong long).putNat Key.coordinatorRank rank).nat Key.coordinatorRank = rank := Dev.nat_putNat _ _ _
  have hk : Keeps 4 d ((d.putBytes Key.coordinatorLong long).putNat Key.coordinatorRank rank) := Dev.putNat_keeps _ _ _ (by decide) (Dev.putBytes_keeps0 _ _ _)
  unfold coordinatorTaken
  dsimp only
  generalize (d.putBytes Key.coordinatorLong long).putNat Key.coordinatorRank rank = e at *
  have hks : Keeps 33554432 e (e.setCanopy fun c => { c with lastAddress := some address, lastNetwork := some network, queue := [], lastToCoord := c.sf }) :=
    Dev.setCanopy_keeps0 _ _
  have hcs : (e.setCanopy fun c => { c with lastAddress := some address, lastNetwork := some network, queue := [], lastToCoord := c.sf }).canopy =
    { e.canopy with lastAddress := some address, lastNetwork := some network, queue := [], lastToCoord := e.canopy.sf } := rfl
  generalize (e.setCanopy fun c => { c with lastAddress := some address, lastNetwork := some network, queue := [], lastToCoord := c.sf }) = g at *
  obtain ⟨⟨gap, valid, hc⟩, hv⟩ := takeGcn_leaves g gcn
  have hkg := Dev.takeGcn_keeps0 g gcn
  have hval : ∀ k, k ≠ Key.gridCycleNumber → k ≠ Key.gcnValid → (g.takeGcn gcn).val k = e.val k := fun k h1 h2 => (hv k h1 h2).trans (val_of_obj (hks.get_obj rfl) k)
  refine ⟨?_, ?_, (nat_of_val (hval _ (by decide) (by decide))).trans hrank, ?_, ?_, ?_, ((hk.mono (by decide)).trans (hks.mono (by decide))).trans hkg⟩
  · exact nat_of_val ((hval _ (by decide) (by decide)).trans (hput _ (by decide) (by decide)))
  · exact nat_of_val ((hval _ (by decide) (by decide)).trans (hput _ (by decide) (by decide)))
  · rw [hc]
  · rw [hc, hcs]
  · rw [hc, hcs, hk.get_canopy rfl]

theorem firstFrame_leaves (d : Dev) (f : CnpFrame) : (firstFrame d f).canopy.gcn = d.canopy.gcn ∧ (firstFrame d f).canopy.lastAddress = d.canopy.lastAddress ∧
    (firstFrame d f).canopy.node = d.canopy.node ∧ Keeps 33554432 d (firstFrame d f) := by
  have hask : ∀ (e : Dev) n, (e.askMap n).canopy.gcn = e.canopy.gcn ∧ (e.askMap n).canopy.lastAddress = e.canopy.lastAddress ∧
      (e.askMap n).canopy.node = e.canopy.node := fun e n => by
    unfold Dev.askMap
    split <;> exact ⟨rfl, rfl, rfl⟩
  unfold firstFrame
  cases d.byAddr 0 with
  | some n =>
    obtain ⟨h1, h2, h3⟩ := hask (d.modNeigh n fun x => { x with high := f.counter.toNat, window := 0 }) n
    exact ⟨h1, h2, h3, Dev.askMap_keeps _ _ (by decide) (Dev.modNeigh_keeps0 _ _ _)⟩
  | none => exact ⟨rfl, rfl, rfl, .refl _ _⟩

theorem joinAccept_taken (s : State) (f : CnpFrame) (nonce long : Bytes) (a : Fin 2048) (network : Fin 4096) (gcn : Nat) (rank : Fin 256)
    (h : AcceptHeard s.dev f long) (hsec : f.secured = true) (hmic : f.micOk = true) (ha : a.val ≤ 0x3FF) (hkey : (s.dev.keyOf 0x08).isSome = true) :
    Completes (.joinAccept f nonce long a network gcn rank) s fun t =>
      t.dev.nat Key.shortAddress = a.val ∧ t.dev.nat Key.networkId = network.val ∧ t.dev.nat Key.coordinatorRank = rank.val ∧
      t.dev.canopy.gcn = gcn % 2 ^ 48 ∧ t.dev.canopy.lastAddress = some a.val ∧ t.dev.canopy.node = .joining ∧
      Within [.obj, .crossings, .burl, .canopy] s t := by
  have hex : exec (.joinAccept f nonce long a network gcn rank) s = .next { s with dev := Dev.joinAccept f nonce long a network gcn rank s.dev } := rfl
  obtain ⟨hc, hk, hko, -, -, -⟩ := keyed_leaves s.dev
  rw [joinAccept_eq h, hko, if_neg (by
    rintro (hn | hn | hn | hn)
    · rw [hsec] at hn
      exact absurd hn (by decide)
    · rw [hmic] at hn
      exact absurd hn (by decide)
    · omega
    · rw [Option.isNone_iff_eq_none] at hn
      rw [hn] at hkey
      exact absurd hkey (by decide))] at hex
  generalize keyed s.dev = e at *
  obtain ⟨haddr, hnet, hn1, hk1⟩ := addressTaken_leaves e nonce a network
  generalize addressTaken e nonce a network = g at *
  obtain ⟨haddr2, hnet2, hrank, hgcn, hlast, hn2, hk2⟩ := coordinatorTaken_leaves g e.canopy.heardLong a network gcn rank
  generalize coordinatorTaken g e.canopy.heardLong a network gcn rank = u at *
  obtain ⟨hgcn3, hlast3, hn3, hk3⟩ := firstFrame_leaves u f
  have hv : ∀ k, (firstFrame u f).nat k = u.nat k := fun k => nat_of_val (val_of_obj (hk3.get_obj rfl) k)
  have hall : Keeps 41943076 s.dev (firstFrame u f) :=
    (((hk.mono (by decide)).trans (hk1.mono (by decide))).trans (hk2.mono (by decide))).trans (hk3.mono (by decide))
  refine ⟨_, hex, (hv _).trans (haddr2.trans haddr), (hv _).trans (hnet2.trans hnet), (hv _).trans hrank, hgcn3.trans hgcn, hlast3.trans hlast, ?_,
    hall.within (by decide)⟩
  exact hn3.trans (hn2.trans (hn1.trans (by rw [hc, h.node])))

theorem joinAccept_fails (s : State) (f : CnpFrame) (nonce long : Bytes) (a : Fin 2048) (network : Fin 4096) (gcn : Nat) (rank : Fin 256)
    (h : AcceptHeard s.dev f long) (hf : f.secured = false ∨ f.micOk = false ∨ 0x3FF < a.val ∨ s.dev.keyOf 0x08 = none) :
    Completes (.joinAccept f nonce long a network gcn rank) s fun t =>
      t.dev.nat Key.canopyAuthFailCount = min (s.dev.nat Key.canopyAuthFailCount + 1) (Dev.top Key.canopyAuthFailCount) ∧
      Only [] [Key.framesReceived, Key.canopyAuthFailCount, Key.useCount 0x08, Key.refusedCount 0x08] s t := by
  have hex : exec (.joinAccept f nonce long a network gcn rank) s = .next { s with dev := Dev.joinAccept f nonce long a network gcn rank s.dev } := rfl
  obtain ⟨-, hk, hko, hv, -, -⟩ := keyed_leaves s.dev
  rw [joinAccept_eq h, hko, if_pos (by simpa using hf)] at hex
  refine ⟨_, hex, (Dev.nat_bump _ _ _).trans (by rw [nat_of_val (hv _ (by decide) (by decide) (by decide))]), ?_⟩
  refine (hk.trans (Dev.bump_keeps0 _ _ _)).only (by decide) fun k hn => ?_
  rw [Dev.val_bump_other _ 1 fun he => hn (by rw [← he]; decide)]
  exact hv k (fun he => hn (by rw [he]; decide)) (fun he => hn (by rw [he]; decide)) fun he => hn (by rw [he]; decide)

/-! ### Requests refused or without an answer (14 R398, R400) -/

theorem joinRefuse_leaves (s : State) (f : CnpFrame) (long : Bytes) (r : Nat) (hh : s.dev.canopyHears = true) (hm : s.dev.holdsMap f = true)
    (hn : s.dev.canopy.node = .joining) (hb : f.bodyOk = true) (hl : long = s.dev.ownLong) :
    Completes (.joinRefuse f long r) s (LeftNetwork .listening s) := by
  have hex : exec (.joinRefuse f long r) s = .next { s with dev := Dev.joinRefuse f long s.dev } := rfl
  unfold Dev.joinRefuse at hex
  rw [if_pos ⟨hh, hn, hl, hb, hm⟩] at hex
  exact ⟨_, hex, canopyLeave_left ((Dev.bump_keeps0 _ _ _).mono (by decide)) _⟩

/-- The request to join goes out again with a wider window (R400). -/
def askedAgain (d : Dev) : Dev :=
  (d.setCanopy fun c => { c with queue := [] }).askJoin.setCanopy fun c => { c with
    queue := c.queue.map fun t => { t with cw := min 64 (t.cw * 2 ^ d.canopy.tries) } }

theorem joinTimeout_moves (s : State) (hu : s.dev.canopyUp = true) (hn : s.dev.canopy.node = .joining) (hd : s.dev.canopy.joinBy ≤ s.dev.canopy.sf)
    (ha : s.dev.nat Key.shortAddress = 0x7FE) :
    Completes .joinTimeout s fun t =>
      if 4 ≤ s.dev.canopy.tries then LeftNetwork .listening s t
      else (∃ nonce prev, t.dev.canopy.queue =
          [⟨0, .joinRequest s.dev.ownLong nonce prev 7 0x10, false, 0, min 64 (4 * 2 ^ s.dev.canopy.tries), 0⟩]) ∧
        t.dev.canopy.node = .joining ∧ Only [.free, .canopy] [] s t := by
  have hex : exec .joinTimeout s = .next { s with dev := Dev.joinTimeout s.dev } := rfl
  have heq : Dev.joinTimeout s.dev = if 4 ≤ s.dev.canopy.tries then s.dev.canopyLeave .listening else askedAgain s.dev := by
    unfold Dev.joinTimeout
    dsimp only
    rw [if_neg (by
      rintro (h | h | h | h)
      · rw [hu] at h
        exact absurd h (by decide)
      · exact h hn
      · omega
      · exact h ha)]
    rfl
  rw [heq] at hex
  refine ⟨_, hex, ?_⟩
  dsimp only
  split
  · exact canopyLeave_left (.refl _ _) _
  · obtain ⟨⟨nonce, prev, hq⟩, hnode⟩ := askJoin_leaves (s.dev.setCanopy fun c => { c with queue := [] })
    have hk : Keeps 33554433 s.dev (askedAgain s.dev) :=
      Dev.setCanopy_keeps _ _ (by decide) (Dev.askJoin_keeps _ (by decide) (Dev.setCanopy_keeps _ _ (by decide) (.refl _ _)))
    refine ⟨⟨nonce, prev, ?_⟩, hnode.trans hn, hk.only_nil (by decide) (by decide)⟩
    show ((s.dev.setCanopy fun c => { c with queue := [] }).askJoin.canopy.queue.map fun t => { t with cw := min 64 (t.cw * 2 ^ s.dev.canopy.tries) }) = _
    rw [hq]
    rfl

/-! ### LEAVE and REJOIN (14 R398, R400) -/

theorem leave_coordinator (s : State) (f : CnpFrame) (n : Fin 128) (x : Neigh) (w : Nat × Nat) (r : Nat) (h : FrameGood s.dev f n x w)
    (hn : s.dev.canopy.node = .coordinator) :
    Completes (.leave f r) s fun t =>
      t.dev.canopy.neigh[n] = none ∧ (∀ m, m ≠ n → t.dev.canopy.neigh[m] = s.dev.canopy.neigh[m]) ∧ t.dev.canopy.node = .coordinator ∧
      Only [.burl, .canopy] [Key.framesReceived] s t := by
  have hex : exec (.leave f r) s = .next { s with dev := Dev.leaveReceive f s.dev } := rfl
  unfold Dev.leaveReceive at hex
  rw [canopyReceive_good h (.inr hn)] at hex
  have hc := receivedFrom_canopy s.dev n (takenOf s.dev f x w)
  have hk := receivedFrom_keeps s.dev n (takenOf s.dev f x w)
  have hv := fun {k} hk => receivedFrom_val s.dev n (takenOf s.dev f x w) (k := k) hk
  generalize receivedFrom s.dev n (takenOf s.dev f x w) = e at *
  have hnode : e.canopy.node = .coordinator := by rw [hc, ← hn]
  rw [if_pos hnode] at hex
  have hdk := dropNeigh_keeps e n
  refine ⟨_, hex, dropNeigh_same e n, fun m hm => ?_, ?_, ?_⟩
  · refine (dropNeigh_other e hm).trans ?_
    rw [hc]
    exact Vector.getElem_set_ne n.isLt m.isLt fun he => hm (Fin.ext he.symm)
  · dsimp only
    rw [dropNeigh_canopy]
    exact hnode
  · exact Keeps.only (M := 41943044) ((hk.mono (by decide)).trans (hdk.mono (by decide))) (by decide) fun k hn =>
      (val_of_obj (hdk.get_obj rfl) k).trans (hv fun he => hn (by rw [he]; decide))

theorem leave_member (s : State) (f : CnpFrame) (n : Fin 128) (x : Neigh) (w : Nat × Nat) (r : Nat) (h : FrameGood s.dev f n x w)
    (hn : s.dev.canopy.node = .member) (ha : x.addr = 0) : Completes (.leave f r) s (LeftNetwork .listening s) := by
  have hex : exec (.leave f r) s = .next { s with dev := Dev.leaveReceive f s.dev } := rfl
  unfold Dev.leaveReceive at hex
  rw [canopyReceive_good h (.inl hn)] at hex
  have hc := receivedFrom_canopy s.dev n (takenOf s.dev f x w)
  have hk := receivedFrom_keeps s.dev n (takenOf s.dev f x w)
  have hat : (receivedFrom s.dev n (takenOf s.dev f x w)).neighAt n = some (takenOf s.dev f x w) := receivedFrom_neigh _ _ _
  generalize receivedFrom s.dev n (takenOf s.dev f x w) = e at *
  rw [if_neg (by rw [hc]; simp [hn]), hat, Option.any_some, if_pos (decide_eq_true (p := (takenOf s.dev f x w).addr = 0) ha)] at hex
  exact ⟨_, hex, canopyLeave_left (hk.mono (by decide)) _⟩

/-- A frame that goes out changes no object but the count of the frames sent. -/
theorem framed_val (e : Dev) (v n : Nat) (r : Out) {k : Nat} (h : k ≠ Key.framesSent) : (((e.bump Key.framesSent).setAir v n).say r).val k = e.val k := by
  have hs : (((e.bump Key.framesSent).setAir v n).say r).val k = (e.bump Key.framesSent).val k := rfl
  exact hs.trans (Dev.val_bump_other _ 1 (Ne.symm h))

theorem emit_val (d : Dev) (tx : CnpTx) {k : Nat} (h : k ≠ Key.framesSent) : (d.emit tx).val k = d.val k := by
  have hcount : (d.nextCounter tx.dst tx.msg).2.val k = d.val k := val_of_obj ((Dev.nextCounter_keeps0 d tx.dst tx.msg).get_obj rfl) k
  unfold Dev.emit
  dsimp only
  generalize (d.nextCounter tx.dst tx.msg).2 = e at hcount ⊢
  split
  · rfl
  · split
    · split
      · rfl
      · exact (framed_val e _ _ _ h).trans hcount
    · exact framed_val d _ _ _ h

/-- A node that was in its network says that it leaves (R398). -/
def leaveSaid (d : Dev) : Dev :=
  if d.canopy.node = .member then d.emit ⟨0, .leave 1, false, 0, 0, 1⟩
  else if d.canopy.node = .coordinator then d.emit ⟨0x7FF, .leave 1, false, 0, 0, 1⟩ else d

theorem leaveSaid_leaves (d : Dev) : (leaveSaid d).val Key.eth0PhyFound = d.val Key.eth0PhyFound ∧ Keeps 33554438 d (leaveSaid d) := by
  unfold leaveSaid
  split
  · exact ⟨emit_val _ _ (by decide), Dev.emit_keeps0 _ _⟩
  · split
    · exact ⟨emit_val _ _ (by decide), Dev.emit_keeps0 _ _⟩
    · exact ⟨rfl, .refl _ _⟩

theorem canopyLeave_linked (d : Dev) (next : NodeState) : Linked d (d.canopyLeave next) := by
  obtain ⟨-, hv, hk⟩ := canopyLeave_leaves d next
  exact ⟨hk.get_clocks rfl, fun x hx => canopyLeave_crossings d next hx, hk.get_power rfl, by rw [hk.get_hosts rfl], by rw [hk.get_hosts rfl],
    hv _ (by decide)⟩

theorem rejoin_leaves (s : State) (m : HostMsg) (data : Bytes) (h : s.dev.grants m = true) (ht : takes Key.rejoin data = true)
    (hu : s.dev.canopyUp = true) (hn : s.dev.canopy.node ≠ .off) :
    Completes (.rejoin m data) s fun t => (t.dev.canopy.node = .listening ∧ t.dev.canopy.valid = false ∧ t.dev.canopy.queue = [] ∧
      (∀ n : Fin 128, t.dev.canopy.neigh[n] = none) ∧ t.dev.nat Key.shortAddress = 0x7FE) ∧
      Replied s t m (.done Key.rejoin) ∧ Within [.hosts, .out, .obj, .crossings, .burl, .canopy] s t := by
  have hcan : (s.dev.admitted m).canopy = s.dev.canopy := (Dev.admitted_same s.dev m .canopy (by decide) (by decide)).symm
  have hex : exec (.rejoin m data) s =
      .next { s with dev := ((leaveSaid (s.dev.admitted m)).canopyLeave .listening).ok ((s.dev.admitted m).ackOf m Key.rejoin) } := by
    show State.onDev s _ = _
    rw [State.onDev, cmdWrite_granted h ht]
    unfold rejoinServe
    rw [canopyUp_admitted, if_neg (by rw [hu, hcan]; simp [hn])]
    rfl
  have hadm : ∀ x : Part, x ≠ .hosts → x ≠ .obj → x.same s.dev (s.dev.admitted m) := fun x h1 h2 => Dev.admitted_same s.dev m x h1 h2
  obtain ⟨hphy, hk⟩ := leaveSaid_leaves (s.dev.admitted m)
  have hl := Linked.of_keeps hk (by decide) hphy
  generalize leaveSaid (s.dev.admitted m) = e at *
  have hl2 := hl.trans (canopyLeave_linked e .listening)
  obtain ⟨⟨h1, h2, h3, h4, h5⟩, -, hk2⟩ := canopyLeave_leaves e .listening
  generalize e.canopyLeave .listening = g at *
  obtain ⟨hreply, hsame⟩ := hl2.replied (r := .done Key.rejoin) Key.rejoin (grants_iff.1 h).1 (.inr (by simp [replyParts]))
  have hok : (g.ok ((s.dev.admitted m).ackOf m Key.rejoin)).canopy = g.canopy := (Dev.ok_keeps0 g _).get_canopy rfl
  have hall : Keeps 41943078 (s.dev.admitted m) g := (hk.mono (by decide)).trans (hk2.mono (by decide))
  refine ⟨_, hex, ⟨?_, ?_, ?_, ?_, (nat_of_val (Dev.val_answer _ _ _ _)).trans h5⟩, hreply, rfl, rfl, rfl, fun x hx => ?_⟩
  · exact (congrArg Canopy.node hok).trans h1
  · exact (congrArg Canopy.valid hok).trans h2
  · exact (congrArg Canopy.queue hok).trans h3
  · dsimp only
    rw [hok]
    exact h4
  · simp only [List.mem_cons, List.not_mem_nil, or_false, not_or] at hx
    refine Part.same_trans (hadm x hx.1 hx.2.2.1) (Part.same_trans ?_ (hsame x hx.1 hx.2.1))
    exact (hall.mono (by decide : (41943078 : Nat) ||| Part.mask [.out, .obj, .crossings, .burl, .canopy] = _)) x (Part.mask_testBit _ x (by simp [hx]))

theorem rejoin_refused (s : State) (m : HostMsg) (data : Bytes) (h : s.dev.grants m = true) (ht : takes Key.rejoin data = true)
    (hn : s.dev.canopy.node = .off) : Completes (.rejoin m data) s fun t => Served m (.abort Code.outOfService Key.rejoin) []
      [Key.lastAbortCode, Key.lastAbortObject, Key.lastAbortHost, Key.abortCount] s t := by
  have hcan : (s.dev.admitted m).canopy = s.dev.canopy := (Dev.admitted_same s.dev m .canopy (by decide) (by decide)).symm
  have hex : exec (.rejoin m data) s =
      .next { s with dev := (s.dev.admitted m).abort ((s.dev.admitted m).ackOf m Key.rejoin) Code.outOfService } := by
    show State.onDev s _ = _
    rw [State.onDev, cmdWrite_granted h ht]
    unfold rejoinServe
    rw [if_pos (.inr (by rw [hcan, hn]))]
  exact ⟨_, hex, served_abort_nil _ _ (grants_iff.1 h).1⟩

/-! ### Addresses that lapse (14 R400) -/

theorem addressRelease_drops (s : State) (n : Fin 128) (x : Neigh) (hu : s.dev.canopyUp = true) (hn : s.dev.canopy.node = .coordinator)
    (hx : s.dev.canopy.neigh[n] = some x) :
    Completes (.addressRelease n) s fun t =>
      if x.lastSf + 16 ≤ s.dev.canopy.sf ∨ (∃ b, x.firstBy = some b ∧ b ≤ s.dev.canopy.sf) then
        t.dev.canopy = { s.dev.canopy with neigh := s.dev.canopy.neigh.set n none } ∧ Only [.burl, .canopy] [] s t
      else t = s := by
  have hex : exec (.addressRelease n) s = .next { s with dev := Dev.addressRelease n s.dev } := rfl
  have hany : (x.firstBy.any fun t => decide (t ≤ s.dev.canopy.sf)) = true ↔ ∃ b, x.firstBy = some b ∧ b ≤ s.dev.canopy.sf := by
    cases x.firstBy <;> simp
  have heq : Dev.addressRelease n s.dev =
      if x.lastSf + 16 ≤ s.dev.canopy.sf ∨ (∃ b, x.firstBy = some b ∧ b ≤ s.dev.canopy.sf) then s.dev.dropNeigh n else s.dev := by
    unfold Dev.addressRelease Dev.neighAt
    rw [hx]
    simp only [hu, hn, hany, true_and]
  rw [heq] at hex
  refine ⟨_, hex, ?_⟩
  dsimp only
  split
  · exact ⟨dropNeigh_canopy _ _, (dropNeigh_keeps _ _).only_nil (by decide) (by decide)⟩
  · rfl

theorem addrFree_iff (d : Dev) (a : Nat) : d.addrFree a = true ↔
    ((∀ (n : Fin 128) (x : Neigh), d.canopy.neigh[n] = some x → x.addr ≠ a) ∧ ∀ l ∈ d.canopy.leased, l.1 = a → l.2.2 + 16 ≤ d.canopy.sf) := by
  have hby : (d.byAddr a).isNone = true ↔ ∀ (n : Fin 128) (x : Neigh), d.canopy.neigh[n] = some x → x.addr ≠ a := by
    unfold Dev.byAddr Dev.neighAt
    rw [Option.isNone_iff_eq_none, List.find?_eq_none]
    refine ⟨fun h n x hx ha => h n (List.mem_finRange n) (by rw [hx]; simpa using ha), fun h n _ hn => ?_⟩
    cases hx : d.canopy.neigh[n] with
    | none =>
      rw [hx] at hn
      exact absurd hn Bool.false_ne_true
    | some x =>
      rw [hx] at hn
      exact h n x hx (of_decide_eq_true hn)
  unfold Dev.addrFree
  rw [Bool.and_eq_true, hby, List.all_eq_true]
  refine and_congr_right fun _ => forall_congr' fun l => forall_congr' fun _ => ?_
  rw [decide_eq_true_eq, Classical.or_iff_not_imp_left, not_not]

/-! ### Keep-alive frames (14 R398) -/

theorem keepalive_heard (s : State) (f : CnpFrame) (n : Fin 128) (x : Neigh) (h : FrameHeard s.dev f n x) (hd : f.dst.val = s.dev.nat Key.shortAddress) :
    Completes (.keepalive f) s fun t =>
      t.dev.canopy.neigh = s.dev.canopy.neigh.set n (some { x with
        seen := s.dev.nowUs, lastSf := s.dev.canopy.sf, used := s.dev.canopy.uses + 1, rxSeq := some f.seq.val
        rxOld := if f.map.val = x.rxMap ∧ x.rxMap ≠ 0 then none else x.rxOld }) ∧
      t.dev.nat Key.framesReceived = min (s.dev.nat Key.framesReceived + 1) (Dev.top Key.framesReceived) ∧ Only [.canopy] [Key.framesReceived] s t := by
  have hex : exec (.keepalive f) s = .next { s with dev := Dev.keepaliveReceive f s.dev } := rfl
  unfold Dev.keepaliveReceive at hex
  rw [canopyReceive_eq h, if_pos (show (!false) = true from rfl), if_pos hd] at hex
  refine ⟨_, hex, ?_, receivedFrom_count _ _ _, received_only (.refl _ _)⟩
  dsimp only
  rw [receivedFrom_canopy]
  rfl

theorem keepaliveSend_queues (s : State) (hu : s.dev.canopyUp = true) (hn : s.dev.canopy.node = .member) :
    Completes .keepaliveSend s fun t =>
      if s.dev.canopy.lastToCoord + 8 ≤ s.dev.canopy.sf then
        t.dev.canopy = { s.dev.canopy with
          lastToCoord := s.dev.canopy.sf, queue := s.dev.canopy.queue ++ [⟨0, .keepalive, true, 0, 32, 0⟩] } ∧ Only [.canopy] [] s t
      else t = s := by
  have hex : exec .keepaliveSend s = .next { s with dev := Dev.keepaliveSend s.dev } := rfl
  unfold Dev.keepaliveSend at hex
  simp only [hu, hn, true_and] at hex
  refine ⟨_, hex, ?_⟩
  dsimp only
  split
  · exact ⟨rfl, Keeps.only_nil (M := 33554432) (Dev.enqueueCnp_keeps _ _ _ _ (by decide) (Dev.setCanopy_keeps0 _ _)) (by decide) (by decide)⟩
  · rfl

/-! ### Link keys (14 R401 to R403) -/

/-- A neighbour that asks for a key is linked, and answered. -/
def linkAnswered (d : Dev) (f : CnpFrame) (long nonce ownNonce : Bytes) (caps : Nat) : Dev :=
  (d.linkNeigh long f.src caps (d.linkKey nonce ownNonce long d.ownLong) none).enqueueCnp f.src (.linkAccept ownNonce 5) true

theorem linkAnswered_leaves (d : Dev) (f : CnpFrame) (long nonce own : Bytes) (caps : Nat) :
    NeighLinked d (linkAnswered d f long nonce own caps) long f.src.val ∧ (linkAnswered d f long nonce own caps).canopy.queue = d.canopy.queue ++
      [⟨f.src.val, .linkAccept own 5, true, 0, 4, 0⟩] ∧ Keeps 41943040 d (linkAnswered d f long nonce own caps) := by
  obtain ⟨hl, hq, -, -, hk⟩ := linkNeigh_leaves d long f.src caps (d.linkKey nonce own long d.ownLong) none
  unfold linkAnswered
  generalize d.linkNeigh long f.src caps (d.linkKey nonce own long d.ownLong) none = e at *
  have hc := enqueueCnp_canopy e f.src (.linkAccept own 5) true
  have hkq := Dev.enqueueCnp_keeps0 e f.src (.linkAccept own 5) true
  generalize e.enqueueCnp f.src (.linkAccept own 5) true = g at *
  refine ⟨hl.congr rfl (by rw [hc]), ?_, hk.trans (hkq.mono (by decide))⟩
  rw [hc, hq]
  rfl

theorem linkRequest_eq (d : Dev) (f : CnpFrame) (long nonce own : Bytes) (caps : Nat) (hh : d.canopyHears = true) (hm : d.holdsMap f = true)
    (hn : Joined d) (hd : f.dst.val = d.nat Key.shortAddress) (hu : d.burlUp = true) (hb : f.bodyOk = true) :
    Dev.linkRequest f long nonce own caps d = if ((keyed d).keyOf 0x08).isNone then keyed d else linkAnswered (keyed d) f long nonce own caps := by
  unfold Dev.linkRequest
  dsimp only
  rw [if_neg (by
    rintro (h | ⟨h1, h2⟩ | h | h)
    · rw [hh] at h
      exact absurd h (by decide)
    · exact hn.elim h1 h2
    · exact h hd
    · rw [hu] at h
      exact absurd h (by decide)), if_neg (by simp [hm]), if_neg (by simp [hb])]
  rfl

theorem linkRequest_answered (s : State) (f : CnpFrame) (long nonce own : Bytes) (caps : BitVec 8) (hh : s.dev.canopyHears = true)
    (hm : s.dev.holdsMap f = true) (hn : Joined s.dev) (hd : f.dst.val = s.dev.nat Key.shortAddress) (hu : s.dev.burlUp = true) (hb : f.bodyOk = true) :
    ((s.dev.keyOf 0x08).isSome = true → Completes (.linkRequest f long nonce own caps) s fun t =>
      NeighLinked s.dev t.dev long f.src.val ∧ t.dev.canopy.queue = s.dev.canopy.queue ++ [⟨f.src.val, .linkAccept own 5, true, 0, 4, 0⟩] ∧
      t.dev.nat (Key.useCount 0x08) = min (s.dev.nat (Key.useCount 0x08) + 1) (Dev.top (Key.useCount 0x08)) ∧
      Only [.burl, .canopy] [Key.framesReceived, Key.useCount 0x08] s t) ∧
    (s.dev.keyOf 0x08 = none → Completes (.linkRequest f long nonce own caps) s fun t =>
      t.dev.nat (Key.refusedCount 0x08) = min (s.dev.nat (Key.refusedCount 0x08) + 1) (Dev.top (Key.refusedCount 0x08)) ∧
      Only [] [Key.framesReceived, Key.refusedCount 0x08] s t) := by
  have hex : exec (.linkRequest f long nonce own caps) s = .next { s with dev := Dev.linkRequest f long nonce own caps.toNat s.dev } := rfl
  obtain ⟨hc, hk, hko, hv, hsome, hnone⟩ := keyed_leaves s.dev
  rw [linkRequest_eq s.dev f long nonce own _ hh hm hn hd hu hb, hko] at hex
  generalize keyed s.dev = e at *
  refine ⟨fun hkey => ?_, fun hkey => ?_⟩
  · rw [if_neg (by simpa using Option.isSome_iff_ne_none.1 hkey)] at hex
    obtain ⟨hl, hq, hka⟩ := linkAnswered_leaves e f long nonce own caps.toNat
    generalize linkAnswered e f long nonce own caps.toNat = g at *
    have hval : ∀ k, g.val k = e.val k := fun k => val_of_obj (hka.get_obj rfl) k
    refine ⟨_, hex, hl.congr hc.symm rfl, ?_, (nat_of_val (hval _)).trans (hsome hkey).1, ?_⟩
    · dsimp only
      rw [hq, hc]
    · refine Keeps.only (M := 41943044) ((hk.mono (by decide)).trans (hka.mono (by decide))) (by decide) fun k hn => (hval k).trans ?_
      by_cases hr : k = Key.refusedCount 0x08
      · rw [hr]
        exact (hsome hkey).2
      · exact hv k (fun he => hn (by rw [he]; decide)) (fun he => hn (by rw [he]; decide)) hr
  · rw [hkey, if_pos (show (none : Option KeyHalf).isNone = true from rfl)] at hex
    refine ⟨_, hex, (hnone hkey).1, hk.only (by decide) fun k hn => ?_⟩
    by_cases hr : k = Key.useCount 0x08
    · rw [hr]
      exact (hnone hkey).2
    · exact hv k (fun he => hn (by rw [he]; decide)) hr fun he => hn (by rw [he]; decide)

/-- The link keyed anew (R402). -/
def linkKeyed (d : Dev) (f : CnpFrame) (n : Fin 128) (own nonce : Bytes) (caps : Nat) (long : Bytes) : Dev :=
  (d.modNeigh n fun x => { x with
    linkNonce := none, caps := caps, counter := 0, high := f.counter.toNat, window := 0, seen := d.nowUs }).setContext (Dev.contextOf n)
      (some (d.linkKey own nonce d.ownLong long))

theorem linkAccept_taken (s : State) (f : CnpFrame) (n : Fin 128) (x : Neigh) (own nonce : Bytes) (caps : BitVec 8) (hh : s.dev.canopyHears = true)
    (hm : s.dev.holdsMap f = true) (hd : f.dst.val = s.dev.nat Key.shortAddress) (hu : s.dev.burlUp = true) (hsrc : s.dev.byAddr f.src = some n)
    (hx : s.dev.canopy.neigh[n] = some x) (hown : x.linkNonce = some own) (hb : f.bodyOk = true) (hsec : f.secured = true) (hmic : f.micOk = true)
    (hkey : (s.dev.keyOf 0x08).isSome = true) :
    Completes (.linkAccept f nonce caps) s fun t =>
      t.dev.canopy.neigh = s.dev.canopy.neigh.set n (some { x with
        linkNonce := none, caps := caps.toNat, counter := 0, high := f.counter.toNat, window := 0, seen := s.dev.nowUs }) ∧
      Only [.burl, .canopy] [Key.framesReceived, Key.useCount 0x08] s t := by
  have hex : exec (.linkAccept f nonce caps) s = .next { s with dev := Dev.linkAccept f nonce caps.toNat s.dev } := rfl
  obtain ⟨hc, hk, hko, hv, hsome, -⟩ := keyed_leaves s.dev
  have heq : Dev.linkAccept f nonce caps.toNat s.dev = linkKeyed (keyed s.dev) f n own nonce caps.toNat x.long := by
    have hcb := bump_canopy s.dev Key.framesReceived
    have hsrc' : (s.dev.bump Key.framesReceived).byAddr f.src = some n := by
      unfold Dev.byAddr Dev.neighAt
      rw [hcb]
      exact hsrc
    have hat : (s.dev.bump Key.framesReceived).neighAt n = some x := by
      unfold Dev.neighAt
      rw [hcb]
      exact hx
    unfold Dev.linkAccept
    dsimp only
    rw [if_neg (by simp [hh, hd, hu]), if_neg (by simp [hm]), hsrc']
    dsimp only
    rw [hat]
    dsimp only
    rw [hown]
    dsimp only
    rw [if_neg (by simp [hb]), if_neg (by
      rintro (h | h | h)
      · rw [hsec] at h
        exact absurd h (by decide)
      · rw [hmic] at h
        exact absurd h (by decide)
      · rw [show ((s.dev.bump Key.framesReceived).useKey 0x08).keyOf 0x08 = s.dev.keyOf 0x08 from hko, Option.isNone_iff_eq_none] at h
        rw [h] at hkey
        exact absurd hkey (by decide))]
    rfl
  rw [heq] at hex
  have hnow : (keyed s.dev).nowUs = s.dev.nowUs := nowUs_of_time (hk.get_time rfl)
  generalize keyed s.dev = e at *
  have hmod := modNeigh_canopy e (n := n) (x := x) (fun x => { x with
    linkNonce := none, caps := caps.toNat, counter := 0, high := f.counter.toNat, window := 0, seen := e.nowUs }) (by rw [hc]; exact hx)
  have hmk := Dev.modNeigh_keeps0 e n fun x => { x with
    linkNonce := none, caps := caps.toNat, counter := 0, high := f.counter.toNat, window := 0, seen := e.nowUs }
  unfold linkKeyed at hex
  generalize (e.modNeigh n fun x => { x with
    linkNonce := none, caps := caps.toNat, counter := 0, high := f.counter.toNat, window := 0, seen := e.nowUs }) = g at *
  have hsc := setContext_link_canopy g n (some (e.linkKey own nonce e.ownLong x.long))
  have hsk := setContext_link_keeps g n (some (e.linkKey own nonce e.ownLong x.long))
  refine ⟨_, hex, ?_, ?_⟩
  · dsimp only
    rw [hsc, hmod, hc, hnow]
  · refine Keeps.only (M := 41943044) (((hk.mono (by decide)).trans (hmk.mono (by decide))).trans (hsk.mono (by decide))) (by decide) fun k hn => ?_
    refine (val_of_obj (hsk.get_obj rfl) k).trans ((val_of_obj (hmk.get_obj rfl) k).trans ?_)
    by_cases hr : k = Key.refusedCount 0x08
    · rw [hr]
      exact (hsome hkey).2
    · exact hv k (fun he => hn (by rw [he]; decide)) (fun he => hn (by rw [he]; decide)) hr

/-- Settles O51: joins, leaves, lapses, and the keys of links. -/
theorem canopyNodesJoinAndLeave : Obligations.CanopyNodesJoinAndLeave := by
  unfold Obligations.CanopyNodesJoinAndLeave
  intro left parts linked bumped known turned
  have hleft : ∀ {s t : State}, LeftNetwork .listening s t → left s t ∧ Within parts s t := fun ⟨h1, h2, h3, h4, h5, h6⟩ => ⟨⟨h1, h2, h3, h4, h5⟩, h6⟩
  refine ⟨fun s f long nonce own previous caps r hh hu hm hn hd hb hheld => ?_,
    fun s f long nonce own previous caps r n x hh hu hm hn hd hb hl hx hp =>
      joinRequest_other s f long nonce own previous caps r n x ⟨hh, hu, hm, hn, hd, hb⟩ hl hx hp,
    fun s f nonce long a network gcn rank hh hm hn ha hb hl hu =>
      ⟨joinAccept_taken s f nonce long a network gcn rank ⟨hh, hm, hn, ha, hb, hl, hu⟩, joinAccept_fails s f nonce long a network gcn rank ⟨hh, hm, hn, ha, hb, hl, hu⟩⟩,
    fun s f long r hh hm hn hb hl => ?_, fun s hu hn hd ha => ?_, fun s f n x w r hk hsec hmic hkey hw => ?_, fun s m data h ht hu => ?_,
    addressRelease_drops, addrFree_iff, fun s f n x ⟨h1, h2, h3, h4, h5, h6, h7⟩ hj => keepalive_heard s f n x ⟨h1, hj, .inl h3, h2, h4, h5, h6, fun h => h7 h.2⟩ h3,
    keepaliveSend_queues, fun s f long nonce own caps hh hm hj hd hu hb => linkRequest_answered s f long nonce own caps hh hm hj hd hu hb,
    linkAccept_taken⟩
  · have hj : JoinHeard s.dev f := ⟨hh, hu, hm, hn, hd, hb⟩
    exact ⟨joinRequest_full s f long nonce own previous caps r hj hheld, joinRequest_keyless s f long nonce own previous caps r hj hheld,
      fun a ha hkey => joinRequest_admits s f long nonce own previous caps r hj hheld ha hkey⟩
  · obtain ⟨t, ht, h⟩ := joinRefuse_leaves s f long r hh hm hn hb hl
    exact ⟨t, ht, hleft h⟩
  · obtain ⟨t, ht, h⟩ := joinTimeout_moves s hu hn hd ha
    refine ⟨t, ht, ?_⟩
    dsimp only at h ⊢
    split
    · rw [if_pos ‹_›] at h
      exact hleft h
    · rw [if_neg ‹_›] at h
      exact h
  · obtain ⟨h1, h2, h3, h4, h5, h6, h7⟩ := hk
    have hg : FrameGood s.dev f n x w := ⟨h1, h2, hkey, h3, h4, h5, h6, h7, hsec, hmic, hw⟩
    refine ⟨leave_coordinator s f n x w r hg, fun hn ha => ?_⟩
    obtain ⟨t, ht, h⟩ := leave_member s f n x w r hg hn ha
    exact ⟨t, ht, hleft h⟩
  · refine ⟨fun hn => ?_, rejoin_refused s m data h ht⟩
    obtain ⟨t, hex, hl, hr, hw⟩ := rejoin_leaves s m data h ht hu hn
    exact ⟨t, hex, hl, hr, hw⟩

end Sys2Proof.Machine
end

section
/-! PROOFS. Images staged, checked, hashed and installed; a plan cancelled (17 R456, R458 to R463; settles O56). -/

namespace Sys2Proof.Machine

/-! ### Staging areas (17 R458) -/

section
variable (d : Dev) (i : Fin 8)

/-- The objects that show a staging area. -/
def stagingKeys (i : Nat) : List Nat :=
  [Key.stagingState i, Key.stagingResult i, Key.stagedType i, Key.stagedVersion i, Key.payloadLength i, Key.receivedBytes i]

theorem setStaged_update (x : Option (ImageHdr × Bytes)) : (d.setStaged i x).update = { d.update with staging := d.update.staging.set i x } := by
  unfold Dev.setStaged Dev.setUpdate
  dsimp only
  rw [dif_pos i.isLt]

theorem stagedImage_eq : d.stagedImage i = d.update.staging[i] := by
  unfold Dev.stagedImage
  rw [List.getD_eq_getElem _ _ (by simp)]
  exact Vector.getElem_toList _

theorem clearStaging_leaves (st : Nat) : (d.clearStaging i st).update = { d.update with staging := d.update.staging.set i none } ∧
    (d.clearStaging i st).nat (Key.stagingState i) = st ∧ (d.clearStaging i st).nat (Key.stagingResult i) = 0 ∧
    (d.clearStaging i st).nat (Key.receivedBytes i) = 0 ∧ (∀ k, k ∉ stagingKeys i → (d.clearStaging i st).val k = d.val k) ∧
    Keeps 16777220 d (d.clearStaging i st) := by
  have hk := Dev.clearStaging_keeps0 d i st
  have hu := setStaged_update d i none
  have hsk := Dev.setStaged_keeps0 d i none
  unfold Dev.clearStaging at *
  dsimp only at *
  generalize d.setStaged i none = e at *
  have hput : ∀ e : Dev, Keeps 4 e ((((((e.putNat (Key.stagingState i) st).putNat (Key.stagingResult i) 0).putNat (Key.stagedType i) 0xFF).putNat
      (Key.stagedVersion i) 0).putNat (Key.payloadLength i) 0).putNat (Key.receivedBytes i) 0) := fun e =>
    Dev.putNat_keeps _ _ _ (by decide) (Dev.putNat_keeps _ _ _ (by decide) (Dev.putNat_keeps _ _ _ (by decide) (Dev.putNat_keeps _ _ _ (by decide)
      (Dev.putNat_keeps _ _ _ (by decide) (Dev.putNat_keeps0 _ _ _)))))
  have hlate : ∀ (e : Dev) k, k ≠ Key.stagedType i → k ≠ Key.stagedVersion i → k ≠ Key.payloadLength i → k ≠ Key.receivedBytes i →
      ((((e.putNat (Key.stagedType i) 0xFF).putNat (Key.stagedVersion i) 0).putNat (Key.payloadLength i) 0).putNat (Key.receivedBytes i) 0).val k = e.val k :=
    fun e k h1 h2 h3 h4 => (Dev.val_putNat_other _ _ (Ne.symm h4)).trans ((Dev.val_putNat_other _ _ (Ne.symm h3)).trans
      ((Dev.val_putNat_other _ _ (Ne.symm h2)).trans (Dev.val_putNat_other _ _ (Ne.symm h1))))
  have hne : ∀ a b, a ≠ b → ob (0x9100 + i.val) a ≠ ob (0x9100 + i.val) b := fun a b h he => h (by simp only [ob] at he; omega)
  refine ⟨((hput e).get_update rfl).trans hu, ?_, ?_, Dev.nat_putNat _ _ _, fun k hn => ?_, hk⟩
  · refine (nat_of_val ((hlate _ _ (hne _ _ (by decide)) (hne _ _ (by decide)) (hne _ _ (by decide)) (hne _ _ (by decide))).trans
      (Dev.val_putNat_other _ _ (hne _ _ (by decide))))).trans (Dev.nat_putNat _ _ _)
  · exact (nat_of_val (hlate _ _ (hne _ _ (by decide)) (hne _ _ (by decide)) (hne _ _ (by decide)) (hne _ _ (by decide)))).trans (Dev.nat_putNat _ _ _)
  · simp only [stagingKeys, List.mem_cons, List.not_mem_nil, or_false, not_or] at hn
    obtain ⟨h1, h2, h3, h4, h5, h6⟩ := hn
    exact (hlate _ k h3 h4 h5 h6).trans ((Dev.val_putNat_other _ _ (Ne.symm h2)).trans ((Dev.val_putNat_other _ _ (Ne.symm h1)).trans
      (val_of_obj (hsk.get_obj rfl) k)))

end

/-! ### Plans read (17 R458, R461) -/

section
variable {d e : Dev}

/-- The objects a plan is read from. -/
theorem planSteps_congr (hc : e.nat Key.planStepCount = d.nat Key.planStepCount) (hs : ∀ j < 16, e.nat (Key.planStep j) = d.nat (Key.planStep j)) :
    Dev.planSteps e.nat = Dev.planSteps d.nat := by
  unfold Dev.planSteps
  rw [hc]
  refine List.map_congr_left fun j hj => ?_
  unfold Dev.stepIn
  rw [hs j (by rw [List.mem_range] at hj; omega)]

theorem planNames_admitted (d : Dev) (m : HostMsg) (i : Nat) : (d.admitted m).planNames i = d.planNames i := by
  have hfar : ∀ k, 0x900000 ≤ k → (d.admitted m).nat k = d.nat k := fun k h => admitted_nat_far (.inr (by omega))
  unfold Dev.planNames
  rw [planSteps_congr (hfar _ (by decide)) (fun j _ => hfar _ (by simp only [Key.planStep, ob]; omega)), hfar _ (by decide)]

end

/-! ### IMAGE_HEADER (17 R458) -/

theorem eth0_not_staging (i : Fin 8) : Key.eth0PhyFound ∉ stagingKeys i := by
  simp only [stagingKeys, Key.stagingState, Key.stagingResult, Key.stagedType, Key.stagedVersion, Key.payloadLength, Key.receivedBytes, Key.eth0PhyFound, ob,
    List.mem_cons, List.not_mem_nil, or_false]
  omega

/-- A staging area that a header opens. -/
def headerStaged (d : Dev) (i : Fin 8) (h : ImageHdr) : Dev := (d.clearStaging i 1).setStaged i (some (h, []))

theorem headerStaged_leaves (d : Dev) (i : Fin 8) (h : ImageHdr) :
    (headerStaged d i h).update = { d.update with staging := d.update.staging.set i (some (h, [])) } ∧
    (headerStaged d i h).nat (Key.stagingState i) = 1 ∧ (headerStaged d i h).nat (Key.stagingResult i) = 0 ∧
    (headerStaged d i h).nat (Key.receivedBytes i) = 0 ∧ (∀ k, k ∉ stagingKeys i → (headerStaged d i h).val k = d.val k) ∧
    Keeps 16777220 d (headerStaged d i h) := by
  obtain ⟨hu, h1, h2, h3, hv, hk⟩ := clearStaging_leaves d i 1
  unfold headerStaged
  generalize d.clearStaging i 1 = e at *
  have hsu := setStaged_update e i (some (h, []))
  have hsk := Dev.setStaged_keeps0 e i (some (h, []))
  have hval : ∀ k, (e.setStaged i (some (h, []))).val k = e.val k := fun k => val_of_obj (hsk.get_obj rfl) k
  refine ⟨?_, (nat_of_val (hval _)).trans h1, (nat_of_val (hval _)).trans h2, (nat_of_val (hval _)).trans h3, fun k hn => (hval k).trans (hv k hn),
    hk.trans (hsk.mono (by decide))⟩
  rw [hsu, hu]
  dsimp only
  rw [Vector.set_set]

/-- A header served on the device that has admitted its message. -/
def headerServed (d : Dev) (i : Fin 8) (h : ImageHdr) (a : Ack) (named : Bool) : Dev := if named then d.abort a Code.locked else (headerStaged d i h).ok a

theorem imageHeader_served {s : State} {m : HostMsg} {i : Fin 8} {h : ImageHdr} (hg : s.dev.grants m = true) (hl : h.length = 8368) :
    exec (.imageHeader m i h) s =
      .next { s with dev := headerServed (s.dev.admitted m) i h ((s.dev.admitted m).ackOf m (Key.imageHeader i)) (s.dev.planNames i) } := by
  obtain ⟨hh, ho, hw⟩ := grants_iff.1 hg
  have hof : (s.dev.admitted m).ownerFault ((s.dev.admitted m).ackOf m (Key.imageHeader i)).slot = none := by
    show (s.dev.admitted m).ownerFault m.slot = none
    rw [ownerFault_cases, admitted_ownerNext, if_pos ho]
  show State.onDev s _ = _
  rw [State.onDev, hostRequest_heard hh]
  unfold imageHeaderServe
  rw [hof, admitted_writeBlocked, hw, planNames_admitted, hl]
  cases s.dev.planNames i <;> rfl

theorem imageHeader_opens (s : State) (m : HostMsg) (i : Fin 8) (h : ImageHdr) (hg : s.dev.grants m = true) (hl : h.length = 8368)
    (hp : s.dev.planNames i = false) :
    Completes (.imageHeader m i h) s fun t =>
      t.dev.nat (Key.stagingState i) = 1 ∧ t.dev.nat (Key.stagingResult i) = 0 ∧ t.dev.nat (Key.receivedBytes i) = 0 ∧
      t.dev.update = { s.dev.update with staging := s.dev.update.staging.set i (some (h, [])) } ∧
      Served m (.done (Key.imageHeader i)) [.update] (stagingKeys i) s t := by
  have hex := imageHeader_served (i := i) hg hl
  rw [hp, headerServed, if_neg (by decide)] at hex
  obtain ⟨hu, h1, h2, h3, hv, hk⟩ := headerStaged_leaves (s.dev.admitted m) i h
  generalize headerStaged (s.dev.admitted m) i h = e at *
  have hval : ∀ k, (e.ok ((s.dev.admitted m).ackOf m (Key.imageHeader i))).nat k = e.nat k := fun k => nat_of_val (Dev.val_answer _ _ _ _)
  refine ⟨_, hex, (hval _).trans h1, (hval _).trans h2, (hval _).trans h3, ?_,
    served_ok (M := 16777220) _ (grants_iff.1 hg).1 hk (by decide) (by decide) hv (eth0_not_staging i)⟩
  have hadm : (s.dev.admitted m).update = s.dev.update := (Dev.admitted_same s.dev m .update (by decide) (by decide)).symm
  exact ((Dev.ok_keeps0 e _).get_update rfl).trans (by rw [hu, hadm])

theorem imageHeader_locked (s : State) (m : HostMsg) (i : Fin 8) (h : ImageHdr) (hg : s.dev.grants m = true) (hl : h.length = 8368)
    (hp : s.dev.planNames i = true) : Completes (.imageHeader m i h) s fun t => Served m (.abort Code.locked (Key.imageHeader i)) [] abortKeys s t := by
  have hex := imageHeader_served (i := i) hg hl
  rw [hp, headerServed, if_pos rfl] at hex
  exact ⟨_, hex, served_abort_nil _ _ (grants_iff.1 hg).1⟩

/-! ### HEADER_CHECK_DONE (17 R456) -/

/-- A header that fails before the check of its signature (table *Header checks*). -/
def HeaderBad (d : Dev) (h : ImageHdr) : Prop :=
  (h.length ≠ 8368 ∨ !h.magicOk ∨ 7 ≤ h.imageType ∨ !h.reservedOk ∨ 8 < h.provided.length ∨ 8 < h.consumed.length) ∨
  (h.payloadLength = 0 ∨ maxPayload h.imageType < h.payloadLength) ∨
  (h.loadOffset ≠ (if h.imageType = 6 then 0x8000 else 0) ∨ h.payloadLength ≤ h.entryOffset ∨ !h.steppingOk ∨ !h.flagOk) ∨
  (!(decide (h.signerSlot = 2) || (decide (h.signerSlot = 3) && decide (h.imageType ≠ 4 ∧ h.imageType ≠ 5))) || (d.keyOf (Dev.signerOf h)).isNone) ∨
  !h.filterOk

section
variable (d : Dev) (h : ImageHdr)

theorem headerCode_bad (hb : HeaderBad d h) (ok : Bool) : d.headerCode h ok = some Code.headerRefused := by
  unfold Dev.headerCode
  dsimp only
  obtain hb | hb | hb | hb | hb := hb
  · rw [if_pos hb]
  · rw [if_pos hb, ite_self]
  · rw [if_pos hb, ite_self, ite_self]
  · rw [if_pos hb, ite_self, ite_self, ite_self]
  · rw [if_pos hb, ite_self, ite_self, ite_self, ite_self]

theorem headerCode_good (hb : ¬ HeaderBad d h) (ok : Bool) : d.headerCode h ok = if !ok then some Code.verifyFailed
    else if h.securityVersion < d.nat (Key.securityVersion h.imageType) then some Code.versionLower else none := by
  unfold Dev.headerCode
  dsimp only
  rw [if_neg fun x => hb (.inl x), if_neg fun x => hb (.inr (.inl x)), if_neg fun x => hb (.inr (.inr (.inl x))),
    if_neg fun x => hb (.inr (.inr (.inr (.inl x)))), if_neg fun x => hb (.inr (.inr (.inr (.inr x))))]

/-- A header whose signature has not been found right is never accepted. -/
theorem headerCode_unsigned : d.headerCode h false ≠ none := by
  by_cases hb : HeaderBad d h
  · rw [headerCode_bad d h hb]
    simp
  · rw [headerCode_good d h hb]
    simp

/-- The key of the signer is there when a header comes to the check of its signature. -/
theorem signer_of_good (hb : ¬ HeaderBad d h) : (d.keyOf (Dev.signerOf h)).isSome = true := by
  by_contra hn
  exact hb (.inr (.inr (.inr (.inl (by simp [Option.not_isSome_iff_eq_none.1 hn])))))

theorem headerCode_congr {e : Dev} (hk : e.keyOf (Dev.signerOf h) = d.keyOf (Dev.signerOf h))
    (hs : e.nat (Key.securityVersion h.imageType) = d.nat (Key.securityVersion h.imageType)) (ok : Bool) : e.headerCode h ok = d.headerCode h ok := by
  unfold Dev.headerCode
  dsimp only
  rw [hk, hs]

theorem headerCode_unverified (hb : ¬ HeaderBad d h) : d.headerCode h false = some Code.verifyFailed := headerCode_good d h hb false

end

/-- The header's signature is checked with the signer's key, where the header comes to that (R456). -/
def signerUsed (d : Dev) (h : ImageHdr) : Dev := if d.headerCode h false = some Code.verifyFailed then d.useKey (Dev.signerOf h) else d

/-- A header found good is shown in its area. -/
def headerShown (d : Dev) (i : Fin 8) (h : ImageHdr) : Dev :=
  (((d.putNat (Key.stagingState i) 2).putNat (Key.stagedType i) h.imageType).putNat (Key.stagedVersion i) h.imageVersion).putNat (Key.payloadLength i) h.payloadLength

/-- The checks of a header. -/
def headerJudged (d : Dev) (i : Fin 8) (h : ImageHdr) (ok : Bool) : Dev := match d.headerCode h ok with
  | some c => d.failStaging i c
  | none => headerShown d i h

theorem signerUsed_leaves (d : Dev) (h : ImageHdr) : Keeps 4 d (signerUsed d h) ∧
    (∀ k, k ≠ Key.useCount (Dev.signerOf h) → (signerUsed d h).val k = d.val k) ∧ (∀ ok, (signerUsed d h).headerCode h ok = d.headerCode h ok) ∧
    (¬ HeaderBad d h → (signerUsed d h).nat (Key.useCount (Dev.signerOf h)) =
      min (d.nat (Key.useCount (Dev.signerOf h)) + 1) (Dev.top (Key.useCount (Dev.signerOf h)))) := by
  unfold signerUsed
  by_cases hb : HeaderBad d h
  · rw [headerCode_bad d h hb, if_neg (by decide)]
    exact ⟨.refl _ _, fun _ _ => rfl, fun _ => rfl, fun h => absurd hb h⟩
  · have heq : d.useKey (Dev.signerOf h) = d.bump (Key.useCount (Dev.signerOf h)) := by
      unfold Dev.useKey
      rw [if_pos (signer_of_good d h hb)]
    have hk := Dev.bump_keeps0 d (Key.useCount (Dev.signerOf h)) 1
    have hv : ∀ k, k ≠ Key.useCount (Dev.signerOf h) → (d.bump (Key.useCount (Dev.signerOf h))).val k = d.val k := fun k hk => Dev.val_bump_other d 1 (Ne.symm hk)
    rw [headerCode_unverified d h hb, if_pos rfl, heq]
    refine ⟨hk, hv, fun ok => headerCode_congr d h (keyOf_congr d _ (hv _ ?_) (by rw [hk.get_burl rfl])) (nat_of_val (hv _ ?_)) ok, fun _ => Dev.nat_bump _ _ _⟩
    · simp only [Key.lifecycleState, Key.useCount, ob]
      omega
    · have := (Dev.signerOf h).isLt
      simp only [Key.securityVersion, Key.useCount, ob]
      omega

theorem headerShown_leaves (d : Dev) (i : Fin 8) (h : ImageHdr) : (headerShown d i h).nat (Key.stagingState i) = 2 ∧
    (headerShown d i h).nat (Key.stagedType i) = h.imageType ∧ (headerShown d i h).nat (Key.stagedVersion i) = h.imageVersion ∧
    (headerShown d i h).nat (Key.payloadLength i) = h.payloadLength ∧
    (∀ k, k ∉ [Key.stagingState i, Key.stagedType i, Key.stagedVersion i, Key.payloadLength i] → (headerShown d i h).val k = d.val k) ∧
    Keeps 4 d (headerShown d i h) := by
  have hne : ∀ a b, a ≠ b → ob (0x9100 + i.val) a ≠ ob (0x9100 + i.val) b := fun a b h he => h (by simp only [ob] at he; omega)
  unfold headerShown
  refine ⟨?_, ?_, ?_, Dev.nat_putNat _ _ _, fun k hn => ?_, Dev.putNat_keeps _ _ _ (by decide) (Dev.putNat_keeps _ _ _ (by decide)
    (Dev.putNat_keeps _ _ _ (by decide) (Dev.putNat_keeps0 _ _ _)))⟩
  · exact (nat_of_val ((Dev.val_putNat_other _ _ (hne _ _ (by decide))).trans ((Dev.val_putNat_other _ _ (hne _ _ (by decide))).trans
      (Dev.val_putNat_other _ _ (hne _ _ (by decide)))))).trans (Dev.nat_putNat _ _ _)
  · exact (nat_of_val ((Dev.val_putNat_other _ _ (hne _ _ (by decide))).trans (Dev.val_putNat_other _ _ (hne _ _ (by decide))))).trans (Dev.nat_putNat _ _ _)
  · exact (nat_of_val (Dev.val_putNat_other _ _ (hne _ _ (by decide)))).trans (Dev.nat_putNat _ _ _)
  · simp only [List.mem_cons, List.not_mem_nil, or_false, not_or] at hn
    obtain ⟨h1, h2, h3, h4⟩ := hn
    exact (Dev.val_putNat_other _ _ (Ne.symm h4)).trans ((Dev.val_putNat_other _ _ (Ne.symm h3)).trans
      ((Dev.val_putNat_other _ _ (Ne.symm h2)).trans (Dev.val_putNat_other _ _ (Ne.symm h1))))

theorem failStaging_leaves (d : Dev) (i : Fin 8) (c : Nat) : (d.failStaging i c).nat (Key.stagingState i) = 5 ∧ (d.failStaging i c).nat (Key.stagingResult i) = c ∧
    (∀ k, k ≠ Key.stagingState i → k ≠ Key.stagingResult i → (d.failStaging i c).val k = d.val k) ∧ Keeps 4 d (d.failStaging i c) := by
  unfold Dev.failStaging
  refine ⟨(nat_of_val (Dev.val_putNat_other _ _ ?_)).trans (Dev.nat_putNat _ _ _), Dev.nat_putNat _ _ _, fun k h1 h2 =>
    (Dev.val_putNat_other _ _ (Ne.symm h2)).trans (Dev.val_putNat_other _ _ (Ne.symm h1)), Dev.putNat_keeps _ _ _ (by decide) (Dev.putNat_keeps0 _ _ _)⟩
  simp only [Key.stagingState, Key.stagingResult, ob]
  omega

theorem useCount_not_staging (n : Fin 64) (i : Fin 8) (a : Nat) (ha : a < 256) : ob (0x9100 + i.val) a ≠ Key.useCount n := by
  have := n.isLt
  simp only [Key.useCount, ob]
  omega

theorem headerCheckDone_judges (s : State) (i : Fin 8) (ok : Bool) (h : ImageHdr) (b : Bytes) (hst : s.dev.stagedImage i = some (h, b))
    (hu : s.dev.burlUp = true) (h1 : s.dev.nat (Key.stagingState i) = 1) :
    Completes (.headerCheckDone i ok) s fun t =>
      match s.dev.headerCode h ok with
      | some c => t.dev.nat (Key.stagingState i) = 5 ∧ t.dev.nat (Key.stagingResult i) = c ∧
          Only [] [Key.stagingState i, Key.stagingResult i, Key.useCount (Dev.signerOf h)] s t
      | none => t.dev.nat (Key.stagingState i) = 2 ∧ t.dev.nat (Key.stagedType i) = h.imageType ∧ t.dev.nat (Key.stagedVersion i) = h.imageVersion ∧
          t.dev.nat (Key.payloadLength i) = h.payloadLength ∧
          t.dev.nat (Key.useCount (Dev.signerOf h)) = min (s.dev.nat (Key.useCount (Dev.signerOf h)) + 1) (Dev.top (Key.useCount (Dev.signerOf h))) ∧
          Only [] [Key.stagingState i, Key.stagedType i, Key.stagedVersion i, Key.payloadLength i, Key.useCount (Dev.signerOf h)] s t := by
  have hex : exec (.headerCheckDone i ok) s = .next { s with dev := Dev.headerCheckDone i ok s.dev } := rfl
  have heq : Dev.headerCheckDone i ok s.dev = headerJudged (signerUsed s.dev h) i h ok := by
    unfold Dev.headerCheckDone
    rw [hst]
    dsimp only
    rw [if_neg (by simp [hu, h1])]
    rfl
  obtain ⟨hk, hv, hcode, hcount⟩ := signerUsed_leaves s.dev h
  rw [heq, headerJudged, hcode] at hex
  have hbad : s.dev.headerCode h ok = none → ¬ HeaderBad s.dev h := fun hc hb => by
    rw [headerCode_bad s.dev h hb] at hc
    exact absurd hc (by simp)
  generalize signerUsed s.dev h = e at *
  cases hc : s.dev.headerCode h ok with
  | some c =>
    rw [hc] at hex
    obtain ⟨h5, hr, hvf, hkf⟩ := failStaging_leaves e i c
    refine ⟨_, hex, h5, hr, (hk.trans hkf).only (by decide) fun k hn => ?_⟩
    simp only [List.mem_cons, List.not_mem_nil, or_false, not_or] at hn
    exact (hvf k hn.1 hn.2.1).trans (hv k hn.2.2)
  | none =>
    rw [hc] at hex
    obtain ⟨h2, ht, hver, hl, hvs, hks⟩ := headerShown_leaves e i h
    refine ⟨_, hex, h2, ht, hver, hl, ?_, (hk.trans hks).only (by decide) fun k hn => ?_⟩
    · refine (nat_of_val (hvs _ ?_)).trans (hcount (hbad hc))
      simp only [List.mem_cons, List.not_mem_nil, or_false, not_or]
      exact ⟨(useCount_not_staging _ i _ (by decide)).symm, (useCount_not_staging _ i _ (by decide)).symm, (useCount_not_staging _ i _ (by decide)).symm,
        (useCount_not_staging _ i _ (by decide)).symm⟩
    · simp only [List.mem_cons, List.not_mem_nil, or_false, not_or] at hn
      obtain ⟨n1, n2, n3, n4, n5⟩ := hn
      exact (hvs k (by simp [n1, n2, n3, n4])).trans (hv k n5)

/-! ### IMAGE_CHUNK (17 R459, R460) -/

section
variable (d : Dev) (i : Fin 8) (data : Bytes)

theorem chunkCodes_nil (h : d.chunkCodes i data = []) : 12 < data.length ∧ data.length ≤ 4108 ∧
    leVal (data.take 4) = d.nat (Key.receivedBytes i) ∧ d.nat (Key.receivedBytes i) + (data.length - 12) ≤ d.nat (Key.payloadLength i) ∧
    d.nat (Key.stagingState i) = 2 := by
  unfold Dev.chunkCodes at h
  dsimp only at h
  split at h
  · exact absurd h (by simp)
  case isFalse hlen =>
    simp only [List.append_eq_nil_iff] at h
    obtain ⟨⟨⟨⟨-, hlong⟩, hrange⟩, -⟩, hstate⟩ := h
    have hno : ∀ {p : Prop} [Decidable p] {c : Nat}, (if p then [c] else []) = [] → ¬ p := fun hx hp => absurd ((if_pos hp).symm.trans hx) (by simp)
    have h1 := hno hlong
    have h2 := hno hrange
    have h3 := hno hstate
    simp only [not_or, not_lt, ne_eq, not_not] at h2 h3
    omega

theorem chunkCodes_admitted (m : HostMsg) : (d.admitted m).chunkCodes i data = d.chunkCodes i data := by
  have hfar : ∀ a, (d.admitted m).nat (ob (0x9100 + i.val) a) = d.nat (ob (0x9100 + i.val) a) := fun a =>
    admitted_nat_far (.inr (by simp only [ob]; omega))
  unfold Dev.chunkCodes
  rw [admitted_writeBlocked, show (d.admitted m).nat (Key.receivedBytes i) = d.nat (Key.receivedBytes i) from hfar _,
    show (d.admitted m).nat (Key.payloadLength i) = d.nat (Key.payloadLength i) from hfar _,
    show (d.admitted m).nat (Key.stagingState i) = d.nat (Key.stagingState i) from hfar _]

/-- The check-value engine has covered a chunk (R459). -/
def chunkCovered (wrong : Bool) : Dev :=
  let e := if decide (12 ≤ data.length) then d.bump (Key.bytesCovered 14) (data.length - 8) else d
  if wrong then e.bump (Key.mismatchCount 14) else e

theorem chunkCovered_leaves (wrong : Bool) : Keeps 4 d (chunkCovered d data wrong) ∧
    (∀ k, k ≠ Key.bytesCovered 14 → k ≠ Key.mismatchCount 14 → (chunkCovered d data wrong).val k = d.val k) ∧
    (wrong = false → (chunkCovered d data wrong).val (Key.mismatchCount 14) = d.val (Key.mismatchCount 14)) := by
  have h1 : Keeps 4 d (if decide (12 ≤ data.length) then d.bump (Key.bytesCovered 14) (data.length - 8) else d) :=
    .ite (Dev.bump_keeps0 _ _ _) (.refl _ _)
  have h2 : ∀ k, k ≠ Key.bytesCovered 14 → (if decide (12 ≤ data.length) then d.bump (Key.bytesCovered 14) (data.length - 8) else d).val k = d.val k := by
    intro k hk
    split
    · exact Dev.val_bump_other _ _ (Ne.symm hk)
    · rfl
  unfold chunkCovered
  dsimp only
  generalize (if decide (12 ≤ data.length) then d.bump (Key.bytesCovered 14) (data.length - 8) else d) = e at *
  cases wrong with
  | true =>
    rw [if_pos rfl]
    exact ⟨h1.trans (Dev.bump_keeps0 _ _ _), fun k ha hb => (Dev.val_bump_other _ _ (Ne.symm hb)).trans (h2 k ha), fun h => absurd h (by decide)⟩
  | false =>
    rw [if_neg (by decide)]
    exact ⟨h1, fun k ha _ => h2 k ha, fun _ => h2 _ (by decide)⟩

/-- A chunk taken into its area. -/
def chunkTaken (h : ImageHdr) (new : Bytes) : Dev :=
  let e := (d.setStaged i (some (h, new))).putNat (Key.receivedBytes i) new.length
  if new.length = h.payloadLength then e.putNat (Key.stagingState i) 3 else e

theorem chunkTaken_leaves (h : ImageHdr) (new : Bytes) : (chunkTaken d i h new).update = { d.update with staging := d.update.staging.set i (some (h, new)) } ∧
    (chunkTaken d i h new).nat (Key.receivedBytes i) = new.length ∧
    (chunkTaken d i h new).nat (Key.stagingState i) = (if new.length = h.payloadLength then 3 else d.nat (Key.stagingState i)) ∧
    (∀ k, k ≠ Key.receivedBytes i → k ≠ Key.stagingState i → (chunkTaken d i h new).val k = d.val k) ∧ Keeps 16777220 d (chunkTaken d i h new) := by
  have hne : Key.receivedBytes i ≠ Key.stagingState i := by
    simp only [Key.receivedBytes, Key.stagingState, ob]
    omega
  have hsu := setStaged_update d i (some (h, new))
  have hsk := Dev.setStaged_keeps0 d i (some (h, new))
  unfold chunkTaken
  dsimp only
  generalize d.setStaged i (some (h, new)) = e at *
  have hk : Keeps 4 e (e.putNat (Key.receivedBytes i) new.length) := Dev.putNat_keeps0 _ _ _
  have hn : (e.putNat (Key.receivedBytes i) new.length).nat (Key.receivedBytes i) = new.length := Dev.nat_putNat _ _ _
  have hv : ∀ k, k ≠ Key.receivedBytes i → (e.putNat (Key.receivedBytes i) new.length).val k = d.val k := fun k h1 =>
    (Dev.val_putNat_other _ _ (Ne.symm h1)).trans (val_of_obj (hsk.get_obj rfl) k)
  generalize e.putNat (Key.receivedBytes i) new.length = g at *
  have hall : Keeps 16777220 d g := (hsk.mono (by decide)).trans (hk.mono (by decide))
  have hug : g.update = { d.update with staging := d.update.staging.set i (some (h, new)) } := (hk.get_update rfl).trans hsu
  split
  · exact ⟨((Dev.putNat_keeps0 _ _ _).get_update rfl).trans hug, (nat_of_val (Dev.val_putNat_other _ _ hne.symm)).trans hn, Dev.nat_putNat _ _ _,
      fun k h1 h2 => (Dev.val_putNat_other _ _ (Ne.symm h2)).trans (hv k h1), Dev.putNat_keeps _ _ _ (by decide) hall⟩
  · exact ⟨hug, hn, nat_of_val (hv _ hne.symm), fun k h1 _ => hv k h1, hall⟩

end

/-- A chunk once its message is admitted. -/
theorem imageChunk_served {s : State} {m : HostMsg} {i : Fin 8} {data : Bytes} (hg : s.dev.grants m = true) :
    exec (.imageChunk m i data) s = .next { s with dev := (s.dev.admitted m).imageChunk i data ((s.dev.admitted m).ackOf m (Key.imageChunk i)) } := by
  obtain ⟨hh, ho, -⟩ := grants_iff.1 hg
  have hof : (s.dev.admitted m).ownerFault ((s.dev.admitted m).ackOf m (Key.imageChunk i)).slot = none := by
    show (s.dev.admitted m).ownerFault m.slot = none
    rw [ownerFault_cases, admitted_ownerNext, if_pos ho]
  show State.onDev s _ = _
  rw [State.onDev, hostRequest_heard hh]
  unfold imageChunkServe
  rw [hof]

theorem imageChunk_refused (s : State) (m : HostMsg) (i : Fin 8) (data : Bytes) (hg : s.dev.grants m = true) (c : Nat)
    (hc : firstCode (s.dev.chunkCodes i data) = some c) :
    Completes (.imageChunk m i data) s fun t =>
      Served m (.abort c (Key.imageChunk i)) [] (Key.bytesCovered 14 :: Key.mismatchCount 14 :: abortKeys) s t := by
  have hex := imageChunk_served (i := i) (data := data) hg
  have heq : (s.dev.admitted m).imageChunk i data ((s.dev.admitted m).ackOf m (Key.imageChunk i)) =
      (chunkCovered (s.dev.admitted m) data ((s.dev.chunkCodes i data).contains Code.segmentCheck)).abort ((s.dev.admitted m).ackOf m (Key.imageChunk i)) c := by
    unfold Dev.imageChunk
    rw [chunkCodes_admitted]
    dsimp only
    rw [hc]
    rfl
  rw [heq] at hex
  obtain ⟨hk, hv, -⟩ := chunkCovered_leaves (s.dev.admitted m) data ((s.dev.chunkCodes i data).contains Code.segmentCheck)
  generalize chunkCovered (s.dev.admitted m) data ((s.dev.chunkCodes i data).contains Code.segmentCheck) = e at *
  exact ⟨_, hex, served_abort (M := 4) (keys := [Key.bytesCovered 14, Key.mismatchCount 14]) _ _ (grants_iff.1 hg).1 hk (by decide) (by decide)
    (fun k hn => hv k (fun he => hn (by simp [he])) fun he => hn (by simp [he])) (by decide)⟩

theorem imageChunk_taken (s : State) (m : HostMsg) (i : Fin 8) (data b : Bytes) (h : ImageHdr) (hg : s.dev.grants m = true)
    (hst : s.dev.stagedImage i = some (h, b)) (hc : s.dev.chunkCodes i data = []) :
    Completes (.imageChunk m i data) s fun t =>
      let new := b ++ (data.drop 4).take (data.length - 12)
      t.dev.update = { s.dev.update with staging := s.dev.update.staging.set i (some (h, new)) } ∧ t.dev.nat (Key.receivedBytes i) = new.length ∧
      t.dev.nat (Key.stagingState i) = (if new.length = h.payloadLength then 3 else s.dev.nat (Key.stagingState i)) ∧
      Served m (.done (Key.imageChunk i)) [.update] [Key.receivedBytes i, Key.stagingState i, Key.bytesCovered 14] s t := by
  have hex := imageChunk_served (i := i) (data := data) hg
  have hadm : (s.dev.admitted m).update = s.dev.update := (Dev.admitted_same s.dev m .update (by decide) (by decide)).symm
  obtain ⟨hk, hv, hmis⟩ := chunkCovered_leaves (s.dev.admitted m) data false
  have heq : (s.dev.admitted m).imageChunk i data ((s.dev.admitted m).ackOf m (Key.imageChunk i)) =
      (chunkTaken (chunkCovered (s.dev.admitted m) data false) i h (b ++ (data.drop 4).take (data.length - 12))).ok
        ((s.dev.admitted m).ackOf m (Key.imageChunk i)) := by
    have hst' : (chunkCovered (s.dev.admitted m) data false).stagedImage i = some (h, b) := by
      unfold Dev.stagedImage at hst ⊢
      rw [hk.get_update rfl, hadm, hst]
    unfold Dev.imageChunk
    rw [chunkCodes_admitted, hc]
    dsimp only
    rw [show firstCode [] = none from rfl, show ([] : List Nat).contains Code.segmentCheck = false from rfl]
    unfold chunkCovered at hst' ⊢
    dsimp only at hst' ⊢
    rw [hst']
    rfl
  rw [heq] at hex
  have hstate : (chunkCovered (s.dev.admitted m) data false).nat (Key.stagingState i) = s.dev.nat (Key.stagingState i) := by
    refine (nat_of_val (hv _ ?_ ?_)).trans (admitted_nat_far (.inr ?_)) <;> simp only [Key.stagingState, Key.bytesCovered, Key.mismatchCount, ob] <;> omega
  generalize chunkCovered (s.dev.admitted m) data false = e at *
  generalize b ++ (data.drop 4).take (data.length - 12) = new at *
  obtain ⟨hu, hr, hs, hvt, hkt⟩ := chunkTaken_leaves e i h new
  generalize chunkTaken e i h new = g at *
  have hval : ∀ k, (g.ok ((s.dev.admitted m).ackOf m (Key.imageChunk i))).nat k = g.nat k := fun k => nat_of_val (Dev.val_answer _ _ _ _)
  refine ⟨_, hex, ((Dev.ok_keeps0 g _).get_update rfl).trans (by rw [hu, hk.get_update rfl, hadm]), (hval _).trans hr, (hval _).trans (hs.trans (by rw [hstate])),
    served_ok (M := 16777220) _ (grants_iff.1 hg).1 ((hk.mono (by decide)).trans hkt) (by decide) (by decide) (fun k hn => ?_) ?_⟩
  · simp only [List.mem_cons, List.not_mem_nil, or_false, not_or] at hn
    refine (hvt k hn.1 hn.2.1).trans ?_
    by_cases hm : k = Key.mismatchCount 14
    · rw [hm]
      exact hmis rfl
    · exact hv k hn.2.2 hm
  · simp only [List.mem_cons, List.not_mem_nil, or_false, Key.eth0PhyFound, Key.receivedBytes, Key.stagingState, Key.bytesCovered, ob]
    omega

/-! ### PAYLOAD_HASH_DONE (17 R460) -/

theorem payloadHashDone_judges (s : State) (i : Fin 8) (ok : Bool) (hu : s.dev.burlUp = true) (h3 : s.dev.nat (Key.stagingState i) = 3) :
    Completes (.payloadHashDone i ok) s fun t =>
      (if ok = true then t.dev.nat (Key.stagingState i) = 4
        else t.dev.nat (Key.stagingState i) = 5 ∧ t.dev.nat (Key.stagingResult i) = 0x08000002) ∧ Only [] [Key.stagingState i, Key.stagingResult i] s t := by
  have hex : exec (.payloadHashDone i ok) s = .next { s with dev := Dev.payloadHashDone i ok s.dev } := rfl
  unfold Dev.payloadHashDone at hex
  rw [if_neg (by simp [hu, h3])] at hex
  cases ok with
  | true =>
    rw [if_pos rfl] at hex
    refine ⟨_, hex, ?_, (Dev.putNat_keeps0 _ _ _).only (by decide) fun k hn => Dev.val_putNat_other _ _ fun he => hn (by simp [← he])⟩
    rw [if_pos rfl]
    exact Dev.nat_putNat _ _ _
  | false =>
    rw [if_neg (by decide)] at hex
    obtain ⟨h5, hr, hv, hk⟩ := failStaging_leaves s.dev i Code.verifyFailed
    refine ⟨_, hex, ?_, hk.only (by decide) fun k hn => hv k (fun he => hn (by simp [he])) fun he => hn (by simp [he])⟩
    rw [if_neg (by decide)]
    exact ⟨h5, hr⟩

/-! ### A plan's states (17 R463; log entry 59) -/

section
variable (d : Dev)

theorem planTo_leaves (st : Nat) : (d.planTo st).nat Key.planState = st ∧ (∀ k, k ≠ Key.planState → (d.planTo st).val k = d.val k) ∧
    Keeps 8196 d (d.planTo st) := by
  have hn := Dev.planNote_keeps0 (d.putNat Key.planState st) false
  have hv : ∀ k, (d.planTo st).val k = (d.putNat Key.planState st).val k := fun k => val_of_obj (hn.get_obj rfl) k
  exact ⟨(nat_of_val (hv _)).trans (Dev.nat_putNat _ _ _), fun k h => (hv k).trans (Dev.val_putNat_other _ _ (Ne.symm h)), Dev.planTo_keeps0 d st⟩

/-- The objects that show a running plan (R466). -/
def runKeys : List Nat := [Key.currentStep, Key.currentUnit, Key.stepPhase]

theorem showRun_leaves (r : Option PlanRun) : (d.showRun r).update = { d.update with run := r } ∧ (∀ k, k ∉ runKeys → (d.showRun r).val k = d.val k) ∧
    Keeps 16777220 d (d.showRun r) := by
  have hput : ∀ (e : Dev) a b c, Keeps 4 e (((e.putNat Key.currentStep a).putNat Key.currentUnit b).putNat Key.stepPhase c) := fun e a b c =>
    Dev.putNat_keeps _ _ _ (by decide) (Dev.putNat_keeps _ _ _ (by decide) (Dev.putNat_keeps0 _ _ _))
  have hval : ∀ (e : Dev) a b c k, k ∉ runKeys → (((e.putNat Key.currentStep a).putNat Key.currentUnit b).putNat Key.stepPhase c).val k = e.val k := by
    intro e a b c k hk
    simp only [runKeys, List.mem_cons, List.not_mem_nil, or_false, not_or] at hk
    exact (Dev.val_putNat_other _ _ (Ne.symm hk.2.2)).trans ((Dev.val_putNat_other _ _ (Ne.symm hk.2.1)).trans (Dev.val_putNat_other _ _ (Ne.symm hk.1)))
  cases r with
  | none => exact ⟨(hput _ _ _ _).get_update rfl, fun k hk => hval _ _ _ _ k hk, Dev.showRun_keeps0 d none⟩
  | some r => exact ⟨(hput _ _ _ _).get_update rfl, fun k hk => hval _ _ _ _ k hk, Dev.showRun_keeps0 d (some r)⟩

/-- The objects that a failed plan sets. -/
def failKeys : List Nat := [Key.lastPlanResult, Key.failingStep, Key.planState, Key.currentStep, Key.currentUnit, Key.stepPhase]

/-- The result of a failed plan, the step it failed at, and its state. -/
def failNoted (n step : Nat) : Dev := ((d.putNat Key.lastPlanResult n).putNat Key.failingStep step).planTo 5

theorem failNoted_leaves (n step : Nat) : (failNoted d n step).nat Key.planState = 5 ∧ (failNoted d n step).nat Key.failingStep = step ∧
    (∀ k, k ∉ failKeys → (failNoted d n step).val k = d.val k) ∧ Keeps 8196 d (failNoted d n step) := by
  obtain ⟨h5, hv, hk⟩ := planTo_leaves ((d.putNat Key.lastPlanResult n).putNat Key.failingStep step) 5
  have hp : Keeps 4 d ((d.putNat Key.lastPlanResult n).putNat Key.failingStep step) := Dev.putNat_keeps _ _ _ (by decide) (Dev.putNat_keeps0 _ _ _)
  refine ⟨h5, (nat_of_val (hv _ (by decide))).trans (Dev.nat_putNat _ _ _), fun k hn => ?_, (hp.mono (by decide)).trans hk⟩
  simp only [failKeys, List.mem_cons, List.not_mem_nil, or_false, not_or] at hn
  exact (hv k hn.2.2.1).trans ((Dev.val_putNat_other _ _ (Ne.symm hn.2.1)).trans (Dev.val_putNat_other _ _ (Ne.symm hn.1)))

theorem planFailed_leaves (step : Nat) : (d.planFailed step).nat Key.planState = 5 ∧ (d.planFailed step).nat Key.failingStep = step ∧
    (d.planFailed step).update = { d.update with run := none, lateStart := false } ∧ (∀ k, k ∉ failKeys → (d.planFailed step).val k = d.val k) ∧
    Keeps 16785413 d (d.planFailed step) := by
  have heq : d.planFailed step = ((failNoted d.draw.2 (d.draw.1 % 2 ^ 32) step).showRun none).setUpdate fun u => { u with lateStart := false } := rfl
  have hk := Dev.planFailed_keeps0 d step
  have hd : Keeps 1 d d.draw.2 := Dev.draw_keeps _ (by decide) (.refl _ _)
  obtain ⟨h5, hs, hv, hkf⟩ := failNoted_leaves d.draw.2 (d.draw.1 % 2 ^ 32) step
  rw [heq] at hk ⊢
  generalize failNoted d.draw.2 (d.draw.1 % 2 ^ 32) step = e at *
  obtain ⟨hu, hvr, -⟩ := showRun_leaves e none
  generalize e.showRun none = g at *
  refine ⟨(nat_of_val (hvr _ (by decide))).trans h5, (nat_of_val (hvr _ (by decide))).trans hs, ?_, fun k hn => ?_, hk⟩
  · show ({ g.update with lateStart := false } : Update) = _
    rw [hu, hkf.get_update rfl, hd.get_update rfl]
  · refine (hvr k fun hr => hn ?_).trans ((hv k hn).trans (val_of_obj (hd.get_obj rfl) k))
    simp only [runKeys, failKeys, List.mem_cons, List.not_mem_nil, or_false] at hr ⊢
    exact .inr (.inr (.inr hr))

end

/-! ### Installation (17 R463) -/

section
variable (d : Dev)

theorem recordSlot_leaves {t : Nat} (ht : t < 7) (k : Bool) (x : ImageHdr × Bytes) (st : Nat) :
    (d.recordSlot t k x st).imageIn t k = some x ∧ (d.recordSlot t k x st).imageIn t (!k) = d.imageIn t (!k) ∧
    (d.recordSlot t k x st).update.staging = d.update.staging ∧
    (∀ key, (∀ a, 2 ≤ a → a ≤ 7 → key ≠ ob (0x9010 + t) a) → (d.recordSlot t k x st).val key = d.val key) := by
  have hput : ∀ (e : Dev) a b c, Keeps 4 e (((e.putNat (Dev.slotStateKey t k) a).putNat (Dev.slotVersionKey t k) b).putNat (Dev.slotSecurityKey t k) c) :=
    fun e a b c => Dev.putNat_keeps _ _ _ (by decide) (Dev.putNat_keeps _ _ _ (by decide) (Dev.putNat_keeps0 _ _ _))
  have hkeys : ∃ a b c, 2 ≤ a ∧ a ≤ 7 ∧ 2 ≤ b ∧ b ≤ 7 ∧ 2 ≤ c ∧ c ≤ 7 ∧ Dev.slotStateKey t k = ob (0x9010 + t) a ∧ Dev.slotVersionKey t k = ob (0x9010 + t) b ∧
      Dev.slotSecurityKey t k = ob (0x9010 + t) c := by
    cases k with
    | true => exact ⟨5, 6, 7, by decide, by decide, by decide, by decide, by decide, by decide, rfl, rfl, rfl⟩
    | false => exact ⟨2, 3, 4, by decide, by decide, by decide, by decide, by decide, by decide, rfl, rfl, rfl⟩
  obtain ⟨a, b, c, ha, ha', hb, hb', hc, hc', ea, eb, ec⟩ := hkeys
  have himg : (d.recordSlot t k x st).update = { d.update with
      images := vmod d.update.images ⟨t, ht⟩ fun y => if k then (y.1, some x) else (some x, y.2) } := by
    refine ((hput _ _ _ _).get_update rfl).trans ?_
    show (if h : t < 7 then _ else _) = _
    rw [dif_pos ht]
  have hat : ∀ (v : Vector (Option (ImageHdr × Bytes) × Option (ImageHdr × Bytes)) 7), v.toList.getD t (none, none) = v[t] := fun v => by
    rw [List.getD_eq_getElem _ _ (by simpa using ht)]
    exact Vector.getElem_toList _
  have hset : (vmod d.update.images ⟨t, ht⟩ fun y => if k then (y.1, some x) else (some x, y.2))[t] =
      if k then (d.update.images[t].1, some x) else (some x, d.update.images[t].2) := Vector.getElem_set_self _
  refine ⟨?_, ?_, ?_, fun key hn => ?_⟩
  · unfold Dev.imageIn
    rw [himg, hat, hset]
    cases k <;> rfl
  · unfold Dev.imageIn
    rw [himg, hat, hset, hat]
    cases k <;> rfl
  · rw [himg]
  · refine (Dev.val_putNat_other _ _ ?_).trans ((Dev.val_putNat_other _ _ ?_).trans (Dev.val_putNat_other _ _ ?_))
    · rw [ec]
      exact (hn c hc hc').symm
    · rw [eb]
      exact (hn b hb hb').symm
    · rw [ea]
      exact (hn a ha ha').symm

/-- The type's inactive slot that an image goes into, as a target of the plan. -/
def targetNoted (t : Nat) (k : Bool) : Dev := d.setUpdate fun u => { u with targets := u.targets ++ [(t, k)] }

theorem installStep_none {t i : Nat} (h : d.stagedImage i = none) : d.installStep t i = d := by
  unfold Dev.installStep
  rw [h]

theorem staged_lt {i : Nat} {x : ImageHdr × Bytes} (h : d.stagedImage i = some x) : i < 8 := by
  by_contra hn
  unfold Dev.stagedImage at h
  rw [List.getD_eq_default _ _ (by simpa using hn)] at h
  exact absurd h (by simp)

/-- One image installed. -/
theorem installStep_some {t i : Nat} {x : ImageHdr × Bytes} (ht : t < 7) (h : d.stagedImage i = some x) :
    (∀ j, (d.installStep t i).nat (Key.stagingState j) = if j = i then 0 else d.nat (Key.stagingState j)) ∧
    (∀ j, j ≠ i → (d.installStep t i).stagedImage j = d.stagedImage j) ∧
    (d.installStep t i).imageIn t (!d.activeK t) = some x ∧ (d.installStep t i).imageIn t (d.activeK t) = d.imageIn t (d.activeK t) ∧
    (d.installStep t i).activeK t = d.activeK t := by
  obtain ⟨i, rfl⟩ : ∃ n : Fin 8, n.val = i := ⟨⟨i, staged_lt d h⟩, rfl⟩
  have heq : d.installStep t i = ((targetNoted d t (!d.activeK t)).recordSlot t (!d.activeK t) x 1).clearStaging i 0 := by
    unfold Dev.installStep
    rw [h]
    rfl
  rw [heq]
  obtain ⟨h1, h2, h3, h4⟩ := recordSlot_leaves (targetNoted d t (!d.activeK t)) ht (!d.activeK t) x 1
  generalize (targetNoted d t (!d.activeK t)).recordSlot t (!d.activeK t) x 1 = e at *
  obtain ⟨hu, hs0, -, -, hv, -⟩ := clearStaging_leaves e i 0
  generalize e.clearStaging i 0 = g at *
  have himg : ∀ k, g.imageIn t k = e.imageIn t k := fun k => by
    unfold Dev.imageIn
    rw [hu]
  have hval : ∀ key, key ∉ stagingKeys i → (∀ a, 2 ≤ a → a ≤ 7 → key ≠ ob (0x9010 + t) a) → g.val key = d.val key := fun key hn ha =>
    (hv key hn).trans (h4 key ha)
  refine ⟨fun j => ?_, fun j hj => ?_, (himg _).trans h1, ?_, ?_⟩
  · split
    case isTrue hji => rw [hji, hs0]
    case isFalse hji =>
      refine nat_of_val (hval _ ?_ fun a _ _ => ?_)
      · simp only [stagingKeys, Key.stagingState, Key.stagingResult, Key.stagedType, Key.stagedVersion, Key.payloadLength, Key.receivedBytes, ob,
          List.mem_cons, List.not_mem_nil, or_false]
        omega
      · simp only [Key.stagingState, ob]
        omega
  · unfold Dev.stagedImage
    rw [hu, h3]
    by_cases hj8 : j < 8
    · rw [List.getD_eq_getElem _ _ (by simpa using hj8), List.getD_eq_getElem _ _ (by simpa using hj8)]
      simp only [Vector.getElem_toList]
      exact Vector.getElem_set_ne i.isLt hj8 (Ne.symm hj)
    · rw [List.getD_eq_default _ _ (by simpa using hj8), List.getD_eq_default _ _ (by simpa using hj8)]
  · refine (himg _).trans ?_
    have := h2
    rw [Bool.not_not] at this
    exact this
  · unfold Dev.activeK
    rw [nat_of_val (hval _ ?_ fun a _ _ => ?_)]
    · simp only [stagingKeys, Key.activeSlot, Key.stagingState, Key.stagingResult, Key.stagedType, Key.stagedVersion, Key.payloadLength, Key.receivedBytes, ob,
        List.mem_cons, List.not_mem_nil, or_false]
      omega
    · simp only [Key.activeSlot, ob]
      omega

end

section
variable (d : Dev)

/-- Every image of a plan installed. -/
def installed (l : List (Nat × Nat)) : Dev := l.foldl (fun (d : Dev) x => d.installStep x.1 x.2) d

/-- A staging area that an installed image left is empty, and stays so. -/
theorem installStep_empties {t i : Nat} (ht : t < 7) : (∀ j, d.nat (Key.stagingState j) = 0 → (d.installStep t i).nat (Key.stagingState j) = 0) ∧
    ((d.stagedImage i).isSome = true ∨ d.nat (Key.stagingState i) = 0 → (d.installStep t i).nat (Key.stagingState i) = 0) ∧
    ∀ j, (d.stagedImage j).isSome = true ∨ d.nat (Key.stagingState j) = 0 →
      ((d.installStep t i).stagedImage j).isSome = true ∨ (d.installStep t i).nat (Key.stagingState j) = 0 := by
  cases h : d.stagedImage i with
  | none =>
    rw [installStep_none d h]
    exact ⟨fun _ hj => hj, fun hi => hi.resolve_left (by simp), fun _ hj => hj⟩
  | some x =>
    obtain ⟨hs, himg, -⟩ := installStep_some d ht h
    refine ⟨fun j hj => ?_, fun _ => ?_, fun j hj => ?_⟩
    · rw [hs, hj, ite_self]
    · rw [hs, if_pos rfl]
    · by_cases hji : j = i
      · right
        rw [hs, if_pos hji]
      · rw [himg j hji, hs, if_neg hji]
        exact hj

theorem installed_empties : ∀ (l : List (Nat × Nat)) (d : Dev), (∀ x ∈ l, x.1 < 7) →
    (∀ j, d.nat (Key.stagingState j) = 0 → (installed d l).nat (Key.stagingState j) = 0) ∧
    ((∀ x ∈ l, (d.stagedImage x.2).isSome = true ∨ d.nat (Key.stagingState x.2) = 0) → ∀ x ∈ l, (installed d l).nat (Key.stagingState x.2) = 0)
  | [], _, _ => ⟨fun _ h => h, fun _ _ hx => absurd hx (by simp)⟩
  | y :: l, d, h7 => by
    obtain ⟨h1, h2, h3⟩ := installStep_empties d (i := y.2) (h7 y (by simp))
    obtain ⟨i1, i2⟩ := installed_empties l (d.installStep y.1 y.2) fun x hx => h7 x (by simp [hx])
    refine ⟨fun j hj => i1 j (h1 j hj), fun hp x hx => ?_⟩
    rcases List.mem_cons.1 hx with rfl | hx
    · exact i1 _ (h2 (hp x (by simp)))
    · exact i2 (fun z hz => h3 _ (hp z (by simp [hz]))) x hx

theorem installed_keeps (l : List (Nat × Nat)) : Keeps 16777220 d (installed d l) :=
  Keeps.foldl l (.refl _ _) fun e x he => he.trans (Dev.installStep_keeps0 e x.1 x.2)

theorem planTo_read (st : Nat) (t : Nat) (k : Bool) : (d.planTo st).imageIn t k = d.imageIn t k ∧ (t < 7 → (d.planTo st).activeK t = d.activeK t) ∧
    ∀ j, (d.planTo st).nat (Key.stagingState j) = d.nat (Key.stagingState j) := by
  obtain ⟨-, hv, hk⟩ := planTo_leaves d st
  refine ⟨?_, fun ht => ?_, fun j => nat_of_val (hv _ ?_)⟩
  · unfold Dev.imageIn
    rw [hk.get_update rfl]
  · unfold Dev.activeK
    rw [nat_of_val (hv _ ?_)]
    simp only [Key.activeSlot, Key.planState, ob]
    omega
  · simp only [Key.stagingState, Key.planState, ob]
    omega

end

/-- Is every image of the plan staged and hashed (R463)? -/
def WholePlan (d : Dev) : Prop := ∀ x ∈ Dev.planSteps d.nat, d.nat (Key.stagingState x.2) = 4 ∧ (d.stagedImage x.2).isSome = true

theorem wholePlan_iff (d : Dev) : ((Dev.planSteps d.nat).all fun s => decide (d.nat (Key.stagingState s.2) = 4) && (d.stagedImage s.2).isSome) = true ↔ WholePlan d := by
  simp only [WholePlan, List.all_eq_true, Bool.and_eq_true, decide_eq_true_eq]

theorem installationDone_ends (s : State) (ok : Bool) (hu : s.dev.burlUp = true) (h1 : s.dev.nat Key.planState = 1)
    (h7 : ∀ x ∈ Dev.planSteps s.dev.nat, x.1 < 7) :
    Completes (.installationDone ok) s fun t =>
      (ok = true → WholePlan s.dev → t.dev.nat Key.planState = 2 ∧ (∀ x ∈ Dev.planSteps s.dev.nat, t.dev.nat (Key.stagingState x.2) = 0) ∧
        (∀ x img, Dev.planSteps s.dev.nat = [x] → s.dev.stagedImage x.2 = some img →
          t.dev.imageIn x.1 (!s.dev.activeK x.1) = some img ∧ t.dev.imageIn x.1 (s.dev.activeK x.1) = s.dev.imageIn x.1 (s.dev.activeK x.1) ∧
          t.dev.activeK x.1 = s.dev.activeK x.1)) ∧
      (ok = false ∨ ¬ WholePlan s.dev → t.dev.nat Key.planState = 5 ∧ t.dev.update.images = s.dev.update.images ∧
        t.dev.update.staging = s.dev.update.staging) ∧
      Within [.free, .obj, .heart, .update] s t := by
  have hex : exec (.installationDone ok) s = .next { s with dev := Dev.installationDone ok s.dev } := rfl
  unfold Dev.installationDone at hex
  rw [if_neg (by simp [hu, h1])] at hex
  dsimp only at hex
  by_cases hw : ok = true ∧ WholePlan s.dev
  · rw [if_neg (by simp [hw.1, (wholePlan_iff s.dev).2 hw.2])] at hex
    have hk := installed_keeps s.dev (Dev.planSteps s.dev.nat)
    have hempty := (installed_empties (Dev.planSteps s.dev.nat) s.dev h7).2 fun x hx => .inl (hw.2 x hx).2
    have hone : ∀ x img, Dev.planSteps s.dev.nat = [x] → s.dev.stagedImage x.2 = some img →
        (installed s.dev (Dev.planSteps s.dev.nat)).imageIn x.1 (!s.dev.activeK x.1) = some img ∧
        (installed s.dev (Dev.planSteps s.dev.nat)).imageIn x.1 (s.dev.activeK x.1) = s.dev.imageIn x.1 (s.dev.activeK x.1) ∧
        (installed s.dev (Dev.planSteps s.dev.nat)).activeK x.1 = s.dev.activeK x.1 := fun x img hx himg => by
      have h7x := h7 x (by rw [hx]; simp)
      rw [hx]
      exact (installStep_some s.dev h7x himg).2.2
    replace hex : exec (.installationDone ok) s = .next { s with dev := (installed s.dev (Dev.planSteps s.dev.nat)).planTo 2 } := hex
    generalize installed s.dev (Dev.planSteps s.dev.nat) = e at *
    have hread := planTo_read e 2
    obtain ⟨h2, -, hkt⟩ := planTo_leaves e 2
    refine ⟨_, hex, fun _ _ => ⟨h2, fun x hx => ((hread 0 false).2.2 _).trans (hempty x hx), fun x img hx himg => ?_⟩, fun hn => ?_,
      Keeps.within (M := 16785412) ((hk.mono (by decide)).trans (hkt.mono (by decide))) (by decide)⟩
    · obtain ⟨o1, o2, o3⟩ := hone x img hx himg
      exact ⟨((hread _ _).1).trans o1, ((hread _ _).1).trans o2, ((hread x.1 false).2.1 (h7 x (by rw [hx]; simp))).trans o3⟩
    · exact hn.elim (fun h => absurd hw.1 (by simp [h])) fun h => absurd hw.2 h
  · rw [if_pos (by
      by_cases ho : ok = true
      · exact .inr (by
          rw [Bool.not_eq_true', ← Bool.not_eq_true]
          exact fun h => hw ⟨ho, (wholePlan_iff s.dev).1 h⟩)
      · exact .inl (by simpa using ho))] at hex
    have hd : Keeps 1 s.dev s.dev.draw.2 := Dev.draw_keeps _ (by decide) (.refl _ _)
    obtain ⟨step, hex⟩ : ∃ step, exec (.installationDone ok) s = .next { s with dev := s.dev.draw.2.planFailed step } := ⟨_, hex⟩
    generalize s.dev.draw.2 = e at *
    obtain ⟨h5, -, hup, -, hk⟩ := planFailed_leaves e step
    refine ⟨_, hex, fun ho hwh => absurd ⟨ho, hwh⟩ hw, fun _ => ⟨h5, ?_, ?_⟩, ((hd.mono (by decide)).trans hk).within (by decide)⟩
    · dsimp only
      rw [hup, hd.get_update rfl]
    · dsimp only
      rw [hup, hd.get_update rfl]

/-! ### CANCEL_PLAN (17 R463) -/

/-- An armed plan cancelled. -/
def planCancelled (d : Dev) : Dev := (d.planTo 0).setUpdate fun u => { u with lateStart := false }

/-- CANCEL_PLAN served on the device that has admitted its message. -/
def cancelServed (d : Dev) (armed : Prop) [Decidable armed] (a : Ack) : Dev := (if armed then planCancelled d else d).ok a

theorem cancelPlan_ends (s : State) (m : HostMsg) (data : Bytes) (h : s.dev.grants m = true) (ht : takes Key.cancelPlan data = true) :
    (s.dev.nat Key.planState = 2 → Completes (.cancelPlan m data) s fun t =>
      t.dev.nat Key.planState = 0 ∧ t.dev.update = { s.dev.update with lateStart := false } ∧
      Served m (.done Key.cancelPlan) [.heart, .update] [Key.planState] s t) ∧
    (s.dev.nat Key.planState ≠ 2 → Completes (.cancelPlan m data) s fun t => Served m (.done Key.cancelPlan) [] [] s t) := by
  have hstate : (s.dev.admitted m).nat Key.planState = s.dev.nat Key.planState := admitted_nat_far (.inr (by decide))
  have hadm : (s.dev.admitted m).update = s.dev.update := (Dev.admitted_same s.dev m .update (by decide) (by decide)).symm
  have hex : exec (.cancelPlan m data) s = 
      .next { s with dev := cancelServed (s.dev.admitted m) (s.dev.nat Key.planState = 2) ((s.dev.admitted m).ackOf m Key.cancelPlan) } := by
    show State.onDev s _ = _
    rw [State.onDev, cmdWrite_granted h ht, ← hstate]
    rfl
  refine ⟨fun h2 => ?_, fun h2 => ?_⟩
  · rw [cancelServed, if_pos h2] at hex
    obtain ⟨h0, hv, hk⟩ := planTo_leaves (s.dev.admitted m) 0
    have hu : (planCancelled (s.dev.admitted m)).update = { ((s.dev.admitted m).planTo 0).update with lateStart := false } := rfl
    have hs := Dev.setUpdate_keeps0 ((s.dev.admitted m).planTo 0) fun u => { u with lateStart := false }
    have hval : ∀ k, (planCancelled (s.dev.admitted m)).val k = ((s.dev.admitted m).planTo 0).val k := fun k => val_of_obj (hs.get_obj rfl) k
    have hall : Keeps 16785412 (s.dev.admitted m) (planCancelled (s.dev.admitted m)) := (hk.mono (by decide)).trans (hs.mono (by decide))
    generalize planCancelled (s.dev.admitted m) = e at *
    refine ⟨_, hex, (nat_of_val ((Dev.val_answer _ _ _ _).trans (hval _))).trans h0, ((Dev.ok_keeps0 e _).get_update rfl).trans ?_,
      served_ok (M := 16785412) _ (grants_iff.1 h).1 hall (by decide) (by decide) (fun k hn => (hval k).trans (hv k fun he => hn (by simp [he]))) (by decide)⟩
    rw [hu, hk.get_update rfl, hadm]
  · rw [cancelServed, if_neg h2] at hex
    exact ⟨_, hex, served_ok (M := 0) _ (grants_iff.1 h).1 (.refl _ _) (by decide) (by decide) (fun _ _ => rfl) (by decide)⟩

/-- Settles O56: images staged, checked, hashed, installed; a plan cancelled. -/
theorem imagesAreStagedAndInstalled : Obligations.ImagesAreStagedAndInstalled := by
  unfold Obligations.ImagesAreStagedAndInstalled
  intro abortKeys
  exact ⟨fun s m i h hg hl => ⟨imageHeader_opens s m i h hg hl, imageHeader_locked s m i h hg hl⟩, headerCheckDone_judges, headerCode_unsigned,
    fun s m i data b h hg hst => ⟨imageChunk_taken s m i data b h hg hst, imageChunk_refused s m i data hg⟩, chunkCodes_nil, payloadHashDone_judges,
    installationDone_ends, cancelPlan_ends⟩

end Sys2Proof.Machine
end

section
/-! PROOFS. What the units of a step leave of the objects of the update and of the units (17 R466, R467, R475). -/

namespace Sys2Proof.Machine

/-- The objects of the update and of the units out of service (index 0x9000 to 0x9FFF) are as before. -/
def Spares (d e : Dev) : Prop := ∀ k, 0x900000 ≤ k → k < 0xA00000 → e.val k = d.val k

namespace Spares

theorem refl (d : Dev) : Spares d d := fun _ _ _ => rfl

theorem trans {d e f : Dev} (h : Spares d e) (h' : Spares e f) : Spares d f := fun k h1 h2 => (h' k h1 h2).trans (h k h1 h2)

theorem of_keeps {M : Nat} {d e : Dev} (h : Keeps M d e) (hm : M.testBit 2 = false) : Spares d e := fun k _ _ => val_of_obj (h.get_obj hm) k

theorem ite {c : Prop} [Decidable c] {d a b : Dev} (ha : Spares d a) (hb : Spares d b) : Spares d (if c then a else b) := by
  split
  · exact ha
  · exact hb

theorem foldl {ι : Type} {g : Dev → ι → Dev} (l : List ι) (h : ∀ e x, Spares e (g e x)) (d : Dev) : Spares d (l.foldl g d) :=
  foldl_keeps_prop (P := Spares d) (fun e x he => he.trans (h e x)) l (.refl d)

/-- An object elsewhere. -/
def Apart (k : Nat) : Prop := k < 0x900000 ∨ 0xA00000 ≤ k

variable (d : Dev)

theorem putNat {k : Nat} (v : Nat) (h : Apart k) : Spares d (d.putNat k v) := fun j h1 h2 => Dev.val_putNat_other _ _ fun he => by
  unfold Apart at h
  omega

theorem putBytes {k : Nat} (v : Bytes) (h : Apart k) : Spares d (d.putBytes k v) := fun j h1 h2 => Dev.val_putBytes_other _ _ fun he => by
  unfold Apart at h
  omega

theorem bump {k : Nat} (n : Nat) (h : Apart k) : Spares d (d.bump k n) := fun j h1 h2 => Dev.val_bump_other _ _ fun he => by
  unfold Apart at h
  omega

/-! ### Windows and crossings of a core (15 R419; 02 R57) -/

theorem dropHold (w : CvuWindow) : Spares d (d.dropHold w) := by
  unfold Dev.dropHold
  split
  · refine putNat d _ (.inr ?_)
    simp only [Key.contextHolder, ob]
    omega
  · exact refl d

theorem abandonedCount_apart (e : Fin 16) : Apart (Key.abandonedCount e) := .inr (by simp only [Key.abandonedCount, ob]; omega)

theorem setEngine (e : Fin 16) (f : List CvuWindow → List CvuWindow) : Spares d (d.setEngine e f) := of_keeps (Dev.setEngine_keeps0 d e f) rfl

theorem abandonOwner (c : CoreId) : Spares d (d.abandonOwner c) := by
  unfold Dev.abandonOwner
  dsimp only
  refine (foldl _ (fun e x => ?_) d).trans (foldl _ (fun e x => ?_) _)
  · exact ((foldl _ (fun e w => dropHold e w) e).trans (bump _ _ (abandonedCount_apart x))).trans (setEngine _ _ _)
  · exact ((foldl _ (fun e w => dropHold e w) e).trans (bump _ _ (abandonedCount_apart x))).trans (setEngine _ _ _)

theorem fabricDown (l : List (Fin 58)) : Spares d (d.fabricDown l) := by
  unfold Dev.fabricDown
  refine foldl _ (fun e c => ?_) d
  have h1 : Spares e (e.setCrossing c fun x => x.sideReset c .fabricReset e.nowUs) := of_keeps (Dev.setCrossing_keeps0 _ _ _) rfl
  refine (h1.trans (foldl _ (fun e x => ?_) _)).trans (of_keeps (Dev.modemReset_keeps0 _ c) rfl)
  exact ((foldl _ (fun e w => dropHold e w) e).trans (bump _ _ (abandonedCount_apart x))).trans (setEngine _ _ _)

theorem restartCore (c : CoreId) (cause : Nat) : Spares d (d.restartCore c cause) := by
  unfold Dev.restartCore
  have hn : (coreNum c).val < 12 := (coreNum c).isLt
  have h1 : Spares d (((d.abandonOwner c).fabricDown (d.coreCrossings c)).setCore c (.restarting cause)) :=
    ((abandonOwner d c).trans (fabricDown _ _)).trans (of_keeps (Dev.setCore_keeps0 _ _ _) rfl)
  exact (h1.trans (putNat _ _ (.inl (by simp only [Key.coreResetCause, ob]; omega)))).trans
    (putNat _ _ (.inl (by simp only [Key.coreResetTime, ob]; omega)))

theorem swapRoles : Spares d d.swapRoles := by
  have h := abandonOwner d d.activeSapwood
  unfold Dev.swapRoles
  dsimp only
  generalize d.abandonOwner d.activeSapwood = e at h
  exact fun k h1 h2 => (val_of_obj rfl k).trans (h k h1 h2)

theorem canopyOut : Spares d d.canopyOut := by
  unfold Dev.canopyOut
  refine (Spares.ite (.refl d) fun k h1 h2 => ?_).trans (of_keeps (Dev.setCrossing_keeps0 _ _ _) rfl)
  refine (canopyLeave_leaves d .off).2.1 k fun hk => ?_
  simp only [leaveKeys, List.mem_cons, List.not_mem_nil, or_false, Key.shortAddress, Key.missedBeaconRun, Key.joinedSince, Key.phaseCode,
    Key.networkPhaseOfL1, Key.headroomUse, Key.detachCount, Key.gridCycleNumber, Key.gcnValid, ob] at hk
  omega

/-! ### Firebreak's channels (13 R355, R362; 17 R469, R470) -/

theorem raiseCause (l : List PortId) (bit : Nat) (m : Int) : Spares d (d.raiseCause l bit m) := fun k h1 h2 =>
  val_raiseCauses d l bit m fun p _ he => by
    simp only [Key.level1Causes, ob] at he
    omega

theorem driveSafeOut : Spares d d.driveSafeOut := putNat d _ (.inl (by decide))

theorem holdAgain : Spares d d.holdAgain := by
  have h := raiseCause { d with safety := { d.safety with testsPassed := false } } Dev.allPorts 0 0
  exact fun k h1 h2 => (h k h1 h2).trans (val_of_obj rfl k)

theorem unconfirm : Spares d (Sys2Proof.Machine.unconfirm d) := by
  unfold Sys2Proof.Machine.unconfirm
  dsimp only
  have h1 : Spares d ((d.putNat Key.commissionState 0).legal 0x0609 0xFF
      (leBytes 1 0xFF ++ leBytes 1 1 ++ leBytes 1 1 ++ leBytes 4 (d.nat Key.computedCheck))) :=
    (putNat d 0 (.inl (by decide))).trans (of_keeps (Dev.legal_keeps0 _ _ _ _) rfl)
  exact (h1.trans (raiseCause _ _ _ _)).trans (driveSafeOut _)

theorem settle : Spares d d.settle := of_keeps (Dev.settle_keeps0 d) rfl

theorem restartChannel (b : Bool) : Spares d (d.restartChannel b) := by
  have h0 := restartCore d (if b then .firebreakB else .firebreakA) 3
  unfold Dev.restartChannel
  dsimp only
  generalize d.restartCore (if b then .firebreakB else .firebreakA) 3 = e at h0 ⊢
  have h1 : Spares e { e with safety := if b then { e.safety with missingB := 0 } else { e.safety with missingA := 0 } } := fun k _ _ => val_of_obj rfl k
  refine h0.trans (h1.trans ?_)
  generalize ({ e with safety := if b then { e.safety with missingB := 0 } else { e.safety with missingA := 0 } } : Dev) = w
  exact ((((holdAgain w).trans (putNat _ _ (.inl (by decide)))).trans (unconfirm _)).trans (driveSafeOut _)).trans (settle _)

/-! ### The display's power-fail reaction (18 R490) -/

theorem setDisplay (g : Display → Display) : Spares d (d.setDisplay g) := of_keeps (Dev.setDisplay_keeps0 d g) rfl

theorem frameTimed (k v w : Nat) (h : Apart k) : Spares d (((d.bump k).putNat Key.lastFrameDuration v).putNat Key.displayState w) :=
  ((bump d 1 h).trans (putNat _ _ (.inr (by decide)))).trans (putNat _ _ (.inr (by decide)))

theorem frameEnd (f : FrameRun) : Spares d (d.frameEnd f) := by
  have hkey : Apart (if f.full then Key.fullFrameCount else Key.partialFrameCount) := .inr (by split <;> decide)
  unfold Dev.frameEnd
  dsimp only
  generalize he : d.setDisplay _ = e
  have h0 : Spares d e := by
    rw [← he]
    exact setDisplay d _
  generalize e.nowUs - f.start = v
  generalize (if d.display.set.railHold = 0 then 0 else 2) = w
  have h1 := h0.trans (frameTimed e _ v w hkey)
  generalize ((e.bump _).putNat _ v).putNat _ w = u at h1 ⊢
  exact h1.trans (.ite (setDisplay u _) (.refl u))

theorem displayPfw : Spares d d.displayPfw := by
  have hrun (f : FrameRun) (r : StepRec) : Spares d (d.stepEnded f r).2 := of_keeps (stepEnded_leaves d f r).2.2 rfl
  unfold Dev.displayPfw
  dsimp only
  refine Spares.trans (Spares.trans ?_ (setDisplay _ _)) (putNat _ _ (.inr (by decide)))
  split
  next f r _ _ =>
    exact Spares.ite (Spares.ite ((hrun f r).trans (frameEnd _ _)) (hrun f r)) (.refl d)
  · exact .refl d

end Spares

end Sys2Proof.Machine
end

section
/-! PROOFS. An update plan runs (17 R464 to R473): the preparation of a unit, its switch, its return, its trial, and how a plan fails. -/

namespace Sys2Proof.Machine

/-! ### The run of a plan and its objects (17 R466) -/

section
variable (d : Dev)

theorem modRun_leaves (f : PlanRun → PlanRun) : (d.modRun f).update = { d.update with run := d.update.run.map f } ∧
    (∀ k, k ∉ runKeys → (d.modRun f).val k = d.val k) ∧ Keeps 16777220 d (d.modRun f) := by
  unfold Dev.modRun
  split
  next r hr =>
    obtain ⟨hu, hv, hk⟩ := showRun_leaves d (some (f r))
    exact ⟨hu.trans (by rw [hr]; rfl), hv, hk⟩
  next hr => exact ⟨by rw [hr, Option.map_none, ← hr], fun _ _ => rfl, .refl _ _⟩

/-- The plan's work on units keeps the directory of images, which of them are active, and the objects of a failed plan. -/
def Directs (e : Dev) : Prop := e.update = d.update ∧ (∀ t < 7, e.activeK t = d.activeK t) ∧ ∀ k ∈ failKeys, e.val k = d.val k

theorem Directs.refl : Directs d d := ⟨rfl, fun _ _ => rfl, fun _ _ => rfl⟩

variable {d}

theorem Directs.trans {e f : Dev} (h : Directs d e) (h' : Directs e f) : Directs d f :=
  ⟨h'.1.trans h.1, fun t ht => (h'.2.1 t ht).trans (h.2.1 t ht), fun k hk => (h'.2.2 k hk).trans (h.2.2 k hk)⟩

theorem activeK_of_val {e : Dev} {t : Nat} (h : e.val (Key.activeSlot t) = d.val (Key.activeSlot t)) : e.activeK t = d.activeK t := by
  unfold Dev.activeK
  rw [nat_of_val h]

theorem failKeys_spared : ∀ k ∈ failKeys, 0x900000 ≤ k ∧ k < 0x930000 := by decide

theorem Directs.of_spares {M : Nat} {e : Dev} (h : Spares d e) (hk : Keeps M d e) (hm : M.testBit 24 = false) : Directs d e :=
  ⟨hk.get_update hm, fun t ht => activeK_of_val (h _ (by simp only [Key.activeSlot, ob]; omega) (by simp only [Key.activeSlot, ob]; omega)),
    fun k hf => h k (failKeys_spared k hf).1 (by have := (failKeys_spared k hf).2; omega)⟩

theorem Directs.of_keeps {M : Nat} {e : Dev} (hk : Keeps M d e) (hm : M.testBit 24 = false) (ho : M.testBit 2 = false) : Directs d e :=
  .of_spares (.of_keeps hk ho) hk hm

variable (d)

theorem Directs.unitState (u v : Nat) : Directs d (d.putNat (Key.serviceState u) v) := by
  refine ⟨(Dev.putNat_keeps0 _ _ _).get_update rfl, fun t _ => activeK_of_val (Dev.val_putNat_other _ _ fun he => ?_),
    fun k hf => Dev.val_putNat_other _ _ fun he => ?_⟩
  · simp only [Key.activeSlot, Key.serviceState, ob] at he
    omega
  · have := (failKeys_spared k hf).2
    simp only [Key.serviceState, ob] at he
    omega

theorem Directs.restartCore (c : CoreId) (n : Nat) : Directs d (d.restartCore c n) := .of_spares (Spares.restartCore d c n) (Dev.restartCore_keeps0 d c n) rfl

theorem Directs.canopyOut : Directs d d.canopyOut := .of_spares (Spares.canopyOut d) (Dev.canopyOut_keeps0 d) rfl

theorem Directs.displayPfw : Directs d d.displayPfw := .of_spares (Spares.displayPfw d) (Dev.displayPfw_keeps0 d) rfl

theorem Directs.restartChannel (b : Bool) : Directs d (d.restartChannel b) := .of_spares (Spares.restartChannel d b) (Dev.restartChannel_keeps0 b d) rfl

/-- A unit restarted for the plan keeps the directory. -/
theorem Directs.canopyAgain (v : Nat) : Directs d ((d.canopyOut.restartCore .canopy 3).putNat (Key.serviceState 5) v) :=
  ((Directs.canopyOut d).trans (.restartCore _ _ _)).trans (.unitState _ _ _)

theorem Directs.displayAgain (v : Nat) : Directs d ((d.displayPfw.restartCore .display 3).putNat (Key.serviceState 6) v) :=
  ((Directs.displayPfw d).trans (.restartCore _ _ _)).trans (.unitState _ _ _)

theorem activateSlot_leaves (t : Nat) (k : Bool) : (d.activateSlot t k).activeK t = k ∧ (d.activateSlot t k).update = d.update ∧
    (∀ key, key ≠ Key.activeSlot t → key ≠ Key.activeMeasurement t → (d.activateSlot t k).val key = d.val key) ∧ Keeps 4 d (d.activateSlot t k) := by
  have hk := Dev.activateSlot_keeps0 d t k
  refine ⟨?_, hk.get_update rfl, fun key h1 h2 => (Dev.val_putBytes_other _ _ (Ne.symm h2)).trans (Dev.val_putNat_other _ _ (Ne.symm h1)), hk⟩
  unfold Dev.activateSlot Dev.activeK
  dsimp only
  rw [nat_of_val (Dev.val_putBytes_other _ _ (by simp only [Key.activeSlot, Key.activeMeasurement, ob]; omega)), Dev.nat_putNat]
  cases k <;> rfl

/-! ### The switch of a unit (17 R467) -/

/-- What the switch does to the unit of a step of this type. -/
def switchMoves (t unit : Nat) (trial : Option Nat) : Dev :=
  match t with
  | 0 => (d.swapRoles.restartCore d.activeSapwood 3).modRun fun r => { r with trialTill := trial, unit := 1 }
  | 1 => d.restartCore (peCore unit) 3
  | 2 => (d.canopyOut.restartCore .canopy 3).putNat (Key.serviceState 5) 3
  | 4 => d.restartChannel false
  | 5 => d.restartChannel true
  | _ => (d.displayPfw.restartCore .display 3).putNat (Key.serviceState 6) 3

theorem swapRoles_directs : Directs d d.swapRoles := .of_spares (Spares.swapRoles d) (Dev.swapRoles_keeps0 d) rfl

theorem swapRoles_activeB : d.swapRoles.activeB = !d.activeB := by
  have h := (Dev.abandonOwner_keeps0 d d.activeSapwood).get_activeB rfl
  unfold Dev.swapRoles
  dsimp only
  rw [h]

theorem switchMoves_directs {t : Nat} (h : t ≠ 0) (unit : Nat) (trial : Option Nat) : Directs d (switchMoves d t unit trial) := by
  unfold switchMoves
  split
  · exact absurd rfl h
  · exact .restartCore _ _ _
  · exact .canopyAgain _ _
  · exact .restartChannel _ _
  · exact .restartChannel _ _
  · exact .displayAgain _ _

/-- The switch keeps the run's step, its phase and its times, and the directory; a step of the Sapwood pair swaps the roles. -/
theorem switchMoves_leaves {x : PlanRun} (hx : d.update.run = some x) (t unit : Nat) (trial : Option Nat) :
    (∃ y, (switchMoves d t unit trial).update = { d.update with run := some y } ∧ y.step = x.step ∧ y.phase = x.phase ∧ y.readyBy = x.readyBy ∧
      y.switchedAt = x.switchedAt) ∧ (∀ k < 7, (switchMoves d t unit trial).activeK k = d.activeK k) ∧
      (t = 0 → (switchMoves d t unit trial).activeB = !d.activeB) := by
  by_cases h : t = 0
  · subst h
    show (∃ y, ((d.swapRoles.restartCore d.activeSapwood 3).modRun _).update = _ ∧ _) ∧ _
    obtain ⟨hu, hs, -⟩ := (swapRoles_directs d).trans (.restartCore d.swapRoles d.activeSapwood 3)
    have hb : (d.swapRoles.restartCore d.activeSapwood 3).activeB = !d.activeB :=
      ((Dev.restartCore_keeps0 _ _ _).get_activeB rfl).trans (swapRoles_activeB d)
    show _ ∧ (∀ k < 7, ((d.swapRoles.restartCore d.activeSapwood 3).modRun _).activeK k = _) ∧
      (_ → ((d.swapRoles.restartCore d.activeSapwood 3).modRun _).activeB = _)
    generalize d.swapRoles.restartCore d.activeSapwood 3 = e at hu hs hb ⊢
    obtain ⟨hm, hv, hk⟩ := modRun_leaves e fun r => { r with trialTill := trial, unit := 1 }
    refine ⟨⟨{ x with trialTill := trial, unit := 1 }, hm.trans (by rw [hu, hx]; rfl), rfl, rfl, rfl, rfl⟩, fun k hk => ?_, fun _ => (hk.get_activeB rfl).trans hb⟩
    refine (activeK_of_val (hv _ ?_)).trans (hs k hk)
    simp only [runKeys, Key.activeSlot, Key.currentStep, Key.currentUnit, Key.stepPhase, ob, List.mem_cons, List.not_mem_nil, or_false]
    omega
  · obtain ⟨hu, hs, -⟩ := switchMoves_directs d h unit trial
    exact ⟨⟨x, hu.trans (by rw [← hx]), rfl, rfl, rfl, rfl⟩, hs, fun h0 => absurd h0 h⟩

/-- The slot of the step's image becomes the active one at the switch of its first unit. -/
def switchSlot (t unit : Nat) : Dev := if t = 1 ∧ unit ≠ 0 then d else d.activateSlot t (d.targetOf t)

/-- The run shows the switch, which is noted. -/
def switchNoted : Dev :=
  (d.modRun fun r => { r with phase := .switched, draining := false, readyBy := d.readyDeadline, switchedAt := d.nowMs }).planNote true

theorem switchUnit_eq (r : PlanRun) : d.switchUnit r = switchMoves (switchNoted (switchSlot d (Dev.stepIn d.nat r.step).1 r.unit))
    (Dev.stepIn d.nat r.step).1 r.unit (some (d.nowMs + 1000 * d.nat Key.trialS)) := rfl

theorem switchSlot_leaves {t : Nat} (ht : t < 7) (unit : Nat) : (t ≠ 1 ∨ unit = 0 → (switchSlot d t unit).activeK t = d.targetOf t) ∧
    (switchSlot d t unit).update = d.update ∧ (switchSlot d t unit).nat Key.readyTimeoutMs = d.nat Key.readyTimeoutMs ∧
    Keeps 4 d (switchSlot d t unit) := by
  unfold switchSlot
  split
  next h => exact ⟨fun hn => absurd h (by omega), rfl, rfl, .refl _ _⟩
  next h =>
    obtain ⟨ha, hu, hv, hk⟩ := activateSlot_leaves d t (d.targetOf t)
    refine ⟨fun _ => ha, hu, nat_of_val (hv _ ?_ ?_), hk⟩
    · simp only [Key.readyTimeoutMs, Key.activeSlot, ob]
      omega
    · simp only [Key.readyTimeoutMs, Key.activeMeasurement, ob]
      omega

theorem switchNoted_leaves {r : PlanRun} (hr : d.update.run = some r) :
    (switchNoted d).update = { d.update with
      run := some { r with phase := .switched, draining := false, readyBy := d.readyDeadline, switchedAt := d.nowMs } } ∧
      (∀ k < 7, (switchNoted d).activeK k = d.activeK k) ∧ (switchNoted d).activeB = d.activeB := by
  obtain ⟨hu, hv, hk⟩ := modRun_leaves d fun r => { r with phase := .switched, draining := false, readyBy := d.readyDeadline, switchedAt := d.nowMs }
  unfold switchNoted
  generalize d.modRun _ = e at hu hv hk ⊢
  have hn : Keeps 8192 e (e.planNote true) := Dev.planNote_keeps0 _ _
  refine ⟨(hn.get_update rfl).trans (hu.trans (by rw [hr]; rfl)), fun k _ => ?_, (hn.get_activeB rfl).trans (hk.get_activeB rfl)⟩
  refine activeK_of_val ((val_of_obj (hn.get_obj rfl) _).trans (hv _ ?_))
  simp only [runKeys, Key.activeSlot, Key.currentStep, Key.currentUnit, Key.stepPhase, ob, List.mem_cons, List.not_mem_nil, or_false]
  omega

theorem switchUnit_leaves {r : PlanRun} (hr : d.update.run = some r) (ht : (Dev.stepIn d.nat r.step).1 < 7) :
    (∃ y, (d.switchUnit r).update = { d.update with run := some y } ∧ y.step = r.step ∧ y.phase = .switched ∧
      y.readyBy = some (d.nowMs + d.nat Key.readyTimeoutMs) ∧ y.switchedAt = d.nowMs) ∧
      ((Dev.stepIn d.nat r.step).1 ≠ 1 ∨ r.unit = 0 → (d.switchUnit r).activeK (Dev.stepIn d.nat r.step).1 = d.targetOf (Dev.stepIn d.nat r.step).1) ∧
      ((Dev.stepIn d.nat r.step).1 = 0 → (d.switchUnit r).activeB = !d.activeB) := by
  rw [switchUnit_eq]
  generalize (Dev.stepIn d.nat r.step).1 = t at *
  obtain ⟨ha, hu, hready, hk⟩ := switchSlot_leaves d ht r.unit
  have hnow : (switchSlot d t r.unit).nowMs = d.nowMs := by
    unfold Dev.nowMs
    rw [hk.get_dict rfl]
  have hb := hk.get_activeB rfl
  generalize switchSlot d t r.unit = e at *
  obtain ⟨hnu, hns, hnb⟩ := switchNoted_leaves e (hu ▸ hr)
  generalize switchNoted e = f at *
  obtain ⟨⟨y, hy, h1, h2, h3, h4⟩, hms, hmb⟩ := switchMoves_leaves f (congrArg Update.run hnu) t r.unit (some (d.nowMs + 1000 * d.nat Key.trialS))
  refine ⟨⟨y, hy.trans (by rw [hnu, hu]), h1, h2, h3.trans ?_, h4.trans hnow⟩, fun hn => ?_, fun h0 => ?_⟩
  · show some _ = _
    rw [hnow, hready]
  · rw [hms t ht, hns t ht, ha hn]
  · rw [hmb h0, hnb, hb]

/-! ### A plan that fails (17 R468, R471) -/

/-- The plan has failed at this step: its state, the step it shows, no run; the directory's images are as they were. -/
def PlanOver (step : Nat) (e : Dev) : Prop :=
  e.nat Key.planState = 5 ∧ e.nat Key.failingStep = step + 1 ∧ e.update.run = none ∧ e.update.images = d.update.images

theorem PlanOver.directs {d e f : Dev} {step : Nat} (h : PlanOver d step e) (g : Directs e f) : PlanOver d step f := by
  obtain ⟨h5, hs, hr, hi⟩ := h
  obtain ⟨hu, -, hv⟩ := g
  exact ⟨(nat_of_val (hv _ (by decide))).trans h5, (nat_of_val (hv _ (by decide))).trans hs, hu ▸ hr, hu ▸ hi⟩

theorem planFailed_over (step : Nat) : PlanOver d step (d.planFailed (step + 1)) := by
  obtain ⟨h5, hs, hu, -, -⟩ := planFailed_leaves d (step + 1)
  exact ⟨h5, hs, (congrArg Update.run hu).trans rfl, (congrArg Update.images hu).trans rfl⟩

theorem planFailed_activeK (step : Nat) {t : Nat} (ht : t < 7) : (d.planFailed step).activeK t = d.activeK t := by
  refine activeK_of_val ((planFailed_leaves d step).2.2.2.1 _ fun hm => ?_)
  have : ∀ k ∈ failKeys, 0x920000 ≤ k := by decide
  have := this _ hm
  simp only [Key.activeSlot, ob] at this
  omega

theorem preparationFailed_over {r : PlanRun} (hr : d.update.run = some r) : PlanOver d r.step d.preparationFailed := by
  have h := planFailed_over d r.step
  unfold Dev.preparationFailed
  rw [hr]
  dsimp only
  generalize d.planFailed (r.step + 1) = e at h ⊢
  split
  · exact h.directs ((Directs.restartCore e _ _).trans (.unitState _ _ _))
  · exact h.directs ((Directs.unitState e _ _).trans (.of_keeps (Dev.moveBack_keeps0 _ _) rfl rfl))
  · exact h

/-- What a failed trial does to the unit of a step of this type. -/
def failMoves (t : Nat) : Dev :=
  match t with
  | 0 => d.putNat (Key.serviceState 0) 3
  | 1 => d
  | 2 => (d.canopyOut.restartCore .canopy 3).putNat (Key.serviceState 5) 2
  | 4 => d.restartChannel false
  | 5 => d.restartChannel true
  | _ => (d.displayPfw.restartCore .display 3).putNat (Key.serviceState 6) 2

theorem failMoves_directs (t : Nat) : Directs d (failMoves d t) := by
  unfold failMoves
  split
  · exact .unitState _ _ _
  · exact .refl _
  · exact .canopyAgain _ _
  · exact .restartChannel _ _
  · exact .restartChannel _ _
  · exact .displayAgain _ _

theorem failTrial_eq {r : PlanRun} (hr : d.update.run = some r) : ∃ l, d.failTrial = failMoves
    (((d.activateSlot (Dev.stepIn d.nat r.step).1 (!d.targetOf (Dev.stepIn d.nat r.step).1)).planFailed (r.step + 1)).setUpdate
      fun u => { u with back := l }) (Dev.stepIn d.nat r.step).1 := by
  unfold Dev.failTrial
  rw [hr]
  exact ⟨_, rfl⟩

theorem failTrial_over {r : PlanRun} (hr : d.update.run = some r) (ht : (Dev.stepIn d.nat r.step).1 < 7) : PlanOver d r.step d.failTrial ∧
    d.failTrial.activeK (Dev.stepIn d.nat r.step).1 = !d.targetOf (Dev.stepIn d.nat r.step).1 := by
  obtain ⟨l, he⟩ := failTrial_eq d hr
  rw [he]
  generalize (Dev.stepIn d.nat r.step).1 = t at *
  obtain ⟨ha, hu, -, -⟩ := activateSlot_leaves d t (!d.targetOf t)
  generalize d.activateSlot t (!d.targetOf t) = e at *
  obtain ⟨h5, hs, hrun, him⟩ := planFailed_over e r.step
  have hact := planFailed_activeK e (r.step + 1) ht
  generalize e.planFailed (r.step + 1) = f at *
  have hback : PlanOver d r.step (f.setUpdate fun u => { u with back := l }) := ⟨h5, hs, hrun, him.trans (congrArg Update.images hu)⟩
  have hd := failMoves_directs (f.setUpdate fun u => { u with back := l }) t
  exact ⟨hback.directs hd, (hd.2.1 t ht).trans (hact.trans ha)⟩

/-! ### The preparation of a unit begins (17 R464, R466) -/

/-- A unit of the run `r` is being prepared: the run has begun, where and in the phase it was, and the plan's state is as before. -/
def Prepares (r : PlanRun) (e : Dev) : Prop :=
  (∃ x, e.update.run = some x ∧ x.step = r.step ∧ x.unit = r.unit ∧ x.phase = r.phase ∧ x.begun = true) ∧ e.nat Key.planState = d.nat Key.planState

variable {d}

theorem Prepares.directs {r : PlanRun} {e f : Dev} (h : Prepares d r e) (g : Directs e f) : Prepares d r f := by
  obtain ⟨⟨x, hx, hrest⟩, hs⟩ := h
  obtain ⟨hu, -, hv⟩ := g
  exact ⟨⟨x, hu ▸ hx, hrest⟩, (nat_of_val (hv _ (by decide))).trans hs⟩

theorem Prepares.modRun {r : PlanRun} {e : Dev} (h : Prepares d r e) (g : PlanRun → PlanRun)
    (hg : ∀ x, (g x).step = x.step ∧ (g x).unit = x.unit ∧ (g x).phase = x.phase ∧ (g x).begun = x.begun) : Prepares d r (e.modRun g) := by
  obtain ⟨⟨x, hx, h1, h2, h3, h4⟩, hs⟩ := h
  obtain ⟨hu, hv, -⟩ := modRun_leaves e g
  obtain ⟨g1, g2, g3, g4⟩ := hg x
  refine ⟨⟨g x, ?_, g1.trans h1, g2.trans h2, g3.trans h3, g4.trans h4⟩, (nat_of_val (hv _ (by decide))).trans hs⟩
  rw [hu, hx]
  rfl

variable (d)

/-- What begins the preparation of a unit of a step of this type. -/
def beginMoves (t unit : Nat) : Dev :=
  match t with
  | 0 => ((d.restartCore d.standbySapwood 3).putNat (Key.serviceState 0) 3).modRun fun r =>
      { r with readyBy := ((d.restartCore d.standbySapwood 3).putNat (Key.serviceState 0) 3).readyDeadline }
  | 1 => (d.moveAway (Dev.engineOf unit) (Dev.partner (Dev.engineOf unit))).putNat (Key.serviceState (1 + Dev.engineOf unit)) 3
  | 4 => d.modRun fun r => { r with draining := true }
  | 5 => d.modRun fun r => { r with draining := true }
  | _ => d.modRun fun r => { r with prepared := true }

theorem beginUnit_eq {r : PlanRun} (hr : d.update.run = some r) :
    d.beginUnit = beginMoves (d.modRun fun r => { r with begun := true, since := d.nowMs }) (Dev.stepIn d.nat r.step).1 r.unit := by
  unfold Dev.beginUnit
  rw [hr]
  rfl

theorem beginUnit_prepares {r : PlanRun} (hr : d.update.run = some r) : Prepares d r d.beginUnit := by
  rw [beginUnit_eq d hr]
  obtain ⟨hu, hv, -⟩ := modRun_leaves d fun r => { r with begun := true, since := d.nowMs }
  have h0 : Prepares d r (d.modRun fun r => { r with begun := true, since := d.nowMs }) := by
    refine ⟨⟨{ r with begun := true, since := d.nowMs }, ?_, rfl, rfl, rfl, rfl⟩, nat_of_val (hv _ (by decide))⟩
    rw [hu, hr]
    rfl
  generalize d.modRun _ = e at h0
  unfold beginMoves
  split
  · exact (h0.directs ((Directs.restartCore e _ _).trans (.unitState _ _ _))).modRun _ fun _ => ⟨rfl, rfl, rfl, rfl⟩
  · exact h0.directs ((Directs.of_keeps (Dev.moveAway_keeps0 e _ _) rfl rfl).trans (.unitState _ _ _))
  · exact h0.modRun _ fun _ => ⟨rfl, rfl, rfl, rfl⟩
  · exact h0.modRun _ fun _ => ⟨rfl, rfl, rfl, rfl⟩
  · exact h0.modRun _ fun _ => ⟨rfl, rfl, rfl, rfl⟩

theorem judgeLate_early (h : d.planLate = false) : ∃ b, d.judgeLate = d.setUpdate fun u => { u with gridSeen := b } := by
  unfold Dev.judgeLate
  split
  · exact ⟨d.update.gridSeen, rfl⟩
  · refine ⟨d.update.gridSeen || d.gridFresh, if_pos ?_⟩
    show (!d.planLate) = true
    rw [h]
    rfl

theorem judgeLate_late (hs : d.nat Key.planState = 2) (ha : d.planAllowed = true) (hl : d.planLate = true) (hu : d.update.lateStart = false)
    (hp : d.nat Key.planLatePolicy = 1) : d.judgeLate = (d.setUpdate fun u => { u with gridSeen := u.gridSeen || d.gridFresh }).planTo 6 := by
  unfold Dev.judgeLate
  rw [if_neg (by simp [hs, ha, hu])]
  dsimp only
  have hl' : (d.setUpdate fun u => { u with gridSeen := u.gridSeen || d.gridFresh }).planLate = d.planLate := rfl
  have hp' : (d.setUpdate fun u => { u with gridSeen := u.gridSeen || d.gridFresh }).nat Key.planLatePolicy = d.nat Key.planLatePolicy := rfl
  rw [hl', hp', hl, if_neg (by decide), if_pos hp]

end

/-- The preparation of the plan's first unit begins at its moment (17 R464). -/
theorem planPreparationStart_begins (s : State) (hs : s.dev.nat Key.planState = 2) (ha : s.dev.planAllowed = true) (hl : s.dev.planLate = false)
    (hp : s.dev.preparationReached = true) {parts : List Part} (hparts : 20996388 ||| Part.mask parts = Part.mask parts) :
    Completes .planPreparationStart s fun t =>
      t.dev.nat Key.planState = 3 ∧ (∃ r, t.dev.update.run = some r ∧ r.step = 0 ∧ r.unit = 0 ∧ r.phase = .preparing ∧ r.begun = true) ∧
      Within parts s t := by
  have hex : exec .planPreparationStart s = .next { s with dev := s.dev.planPreparationStart } := rfl
  have hk := Dev.planPreparationStart_keeps0 s.dev
  obtain ⟨b, hb⟩ := judgeLate_early s.dev hl
  unfold Dev.planPreparationStart at hex hk
  rw [hb] at hex hk
  dsimp only at hex hk
  have hgo : ¬((s.dev.setUpdate fun u => { u with gridSeen := b }).nat Key.planState ≠ 2 ∨
      (!(s.dev.setUpdate fun u => { u with gridSeen := b }).planAllowed) = true ∨
      (!((s.dev.setUpdate fun u => { u with gridSeen := b }).update.lateStart ||
        (s.dev.setUpdate fun u => { u with gridSeen := b }).preparationReached)) = true) := by
    show ¬(s.dev.nat Key.planState ≠ 2 ∨ (!s.dev.planAllowed) = true ∨ (!(s.dev.update.lateStart || s.dev.preparationReached)) = true)
    simp [hs, ha, hp]
  rw [if_neg hgo] at hex hk
  generalize s.dev.setUpdate (fun u => { u with gridSeen := b }) = d at hex hk
  obtain ⟨h3, -, hpk⟩ := planTo_leaves (d.showRun (some (d.newRun 0))) 3
  obtain ⟨hu, -, -⟩ := showRun_leaves d (some (d.newRun 0))
  have hrun : ((d.showRun (some (d.newRun 0))).planTo 3).update.run = some (d.newRun 0) := by rw [hpk.get_update rfl, hu]
  generalize (d.showRun (some (d.newRun 0))).planTo 3 = e at *
  obtain ⟨⟨x, hx, h1, h2, h4, h5⟩, hst⟩ := beginUnit_prepares e hrun
  exact ⟨_, hex, hst.trans h3, ⟨x, hx, h1, h2, h4, h5⟩, hk.within hparts⟩

/-- A plan that is late and may not be executed late is missed (17 R465). -/
theorem planPreparationStart_missed (s : State) (hs : s.dev.nat Key.planState = 2) (ha : s.dev.planAllowed = true) (hl : s.dev.planLate = true)
    (hu : s.dev.update.lateStart = false) (hp : s.dev.nat Key.planLatePolicy = 1) :
    Completes .planPreparationStart s fun t => t.dev.nat Key.planState = 6 ∧ t.dev.update.run = s.dev.update.run ∧ Within [.obj, .heart, .update] s t := by
  have hex : exec .planPreparationStart s = .next { s with dev := s.dev.planPreparationStart } := rfl
  have hk := Dev.judgeLate_keeps0 s.dev
  unfold Dev.planPreparationStart at hex
  rw [judgeLate_late s.dev hs ha hl hu hp] at hex hk
  obtain ⟨h6, -, hpk⟩ := planTo_leaves (s.dev.setUpdate fun u => { u with gridSeen := u.gridSeen || s.dev.gridFresh }) 6
  have hrun := congrArg Update.run (hpk.get_update rfl)
  generalize (s.dev.setUpdate fun u => { u with gridSeen := u.gridSeen || s.dev.gridFresh }).planTo 6 = e at *
  dsimp only at hex
  rw [if_pos (.inl (by rw [h6]; decide))] at hex
  exact ⟨_, hex, h6, hrun, hk.within (by decide)⟩

/-! ### A unit that is ready (17 R467, R470) -/

section
variable {d : Dev}

/-- A unit runs again for the plan, whose run is where it was, in the same phase. -/
def Returned (d : Dev) (r : PlanRun) (c : CoreId) (e : Dev) : Prop :=
  (∃ x, e.update.run = some x ∧ x.phase = r.phase ∧ x.readyBy = r.readyBy ∧ x.step = r.step ∧ x.unit = r.unit) ∧ e.running c = true ∧
    Keeps 119697702 d e

theorem Returned.coreUp {r : PlanRun} (hr : d.update.run = some r) (c : CoreId) : Returned d r c (d.coreUp c) := by
  have hk : Keeps 288 d (d.coreUp c) := Dev.coreUp_keeps0 d c
  refine ⟨⟨r, by rw [hk.get_update rfl, hr], rfl, rfl, rfl, rfl⟩, ?_, hk.mono (by decide)⟩
  unfold Dev.running
  rw [coreUp_cores]
  exact decide_eq_true (Vector.getElem_set_self _)

theorem Returned.after {M : Nat} {r : PlanRun} {c : CoreId} {e f : Dev} (h : Returned d r c e) (hk : Keeps M e f) (hu : M.testBit 24 = false)
    (hc : M.testBit 8 = false) (hm : M ||| 119697702 = 119697702) : Returned d r c f := by
  obtain ⟨⟨x, hx, hrest⟩, hrun, hke⟩ := h
  exact ⟨⟨x, by rw [hk.get_update hu, hx], hrest⟩, by rw [running_congr e c (hk.get_cores hc), hrun], hke.trans (hk.mono hm)⟩

theorem Returned.modRun {r : PlanRun} {c : CoreId} {e : Dev} (h : Returned d r c e) (g : PlanRun → PlanRun)
    (hg : ∀ x, (g x).phase = x.phase ∧ (g x).readyBy = x.readyBy ∧ (g x).step = x.step ∧ (g x).unit = x.unit) : Returned d r c (e.modRun g) := by
  obtain ⟨⟨x, hx, h1, h2, h3, h4⟩, hrun, hke⟩ := h
  obtain ⟨hu, -, hk⟩ := modRun_leaves e g
  obtain ⟨g1, g2, g3, g4⟩ := hg x
  refine ⟨⟨g x, ?_, g1.trans h1, g2.trans h2, g3.trans h3, g4.trans h4⟩, by rw [running_congr e c (hk.get_cores rfl), hrun], hke.trans (hk.mono (by decide))⟩
  rw [hu, hx]
  rfl

theorem Returned.unitState {r : PlanRun} {c : CoreId} {e : Dev} (h : Returned d r c e) (u v : Nat) : Returned d r c (e.putNat (Key.serviceState u) v) :=
  h.after (Dev.putNat_keeps0 _ _ _) rfl rfl (by decide)

theorem Returned.ite {p : Prop} [Decidable p] {r : PlanRun} {c : CoreId} {e f : Dev} (h : Returned d r c e) (h' : Returned d r c f) :
    Returned d r c (if p then e else f) := by
  split
  · exact h
  · exact h'

theorem loadWave_keeps (e : Dev) (payload : Bytes) (version : Nat) : Keeps 67108868 e (e.loadWave payload version) := by
  unfold Dev.loadWave
  dsimp only
  exact Dev.putFlag_keeps _ _ _ (by decide) (Dev.putNat_keeps _ _ _ (by decide) ((Dev.setDisplay_keeps0 _ _).mono (by decide)))

variable (d)

/-- The display core draws from the waveform of its active image. -/
def waveLoaded : Dev := match d.activeImage 6 with | some x => d.loadWave x.2 x.1.imageVersion | none => d

theorem waveLoaded_keeps : Keeps 67108868 d (waveLoaded d) := by
  unfold waveLoaded
  split
  · exact loadWave_keeps _ _ _
  · exact .refl _ _

/-- What the return of a unit of a step of this type does. -/
def returnMoves (t step unit : Nat) (trial : Option Nat) : Dev :=
  match t with
  | 0 => (d.coreUp d.standbySapwood).putNat (Key.serviceState 0) 0
  | 1 => (((d.coreUp (peCore (Dev.engineOf unit))).putNat (Key.serviceState (1 + Dev.engineOf unit)) 0).moveBack (Dev.engineOf unit)).modRun fun r =>
      { r with trialTill := trial }
  | 2 => (d.canopyBack.putNat (Key.serviceState 5) 0).modRun fun r => { r with trialTill := trial }
  | 4 => if (d.channelBack false).laterFirebreak step then (d.channelBack false).modRun fun r => { r with trialTill := some (d.channelBack false).nowMs }
      else d.channelBack false
  | 5 => if (d.channelBack true).laterFirebreak step then (d.channelBack true).modRun fun r => { r with trialTill := some (d.channelBack true).nowMs }
      else d.channelBack true
  | _ => (waveLoaded ((d.coreUp .display).putNat (Key.serviceState 6) 0)).startDisplay.modRun fun r => { r with trialTill := trial }

theorem peCore_engineOf {n : Nat} (h : n < 4) : peCore (Dev.engineOf n) = peCore n := by
  have hn : (Dev.engineOf n).val = n := Nat.mod_eq_of_lt h
  rw [hn]

theorem returnMoves_returned {r : PlanRun} (hr : d.update.run = some r) (t step : Nat) {unit : Nat} (hunit : unit < 4) (trial : Option Nat) :
    Returned d r (d.stepCore t unit) (returnMoves d t step unit trial) := by
  have hchan (b : Bool) : Returned d r (if b then .firebreakB else .firebreakA) (d.channelBack b) :=
    (Returned.coreUp hr _).after (channelBack_keeps d b) rfl rfl (by decide)
  have hdisplay : Returned d r .display ((waveLoaded ((d.coreUp .display).putNat (Key.serviceState 6) 0)).startDisplay.modRun fun r =>
      { r with trialTill := trial }) :=
    ((((Returned.coreUp hr .display).unitState 6 0).after (waveLoaded_keeps _) rfl rfl (by decide)).after (Dev.startDisplay_keeps0 _) rfl rfl
      (by decide)).modRun _ fun _ => ⟨rfl, rfl, rfl, rfl⟩
  match t with
  | 0 => exact (Returned.coreUp hr _).unitState _ _
  | 1 =>
    have h1 := ((Returned.coreUp hr (peCore (Dev.engineOf unit))).unitState (1 + Dev.engineOf unit) 0).after
      (Dev.moveBack_keeps0 _ (Dev.engineOf unit)) rfl rfl (by decide)
    have h2 := h1.modRun (fun r => { r with trialTill := trial }) fun _ => ⟨rfl, rfl, rfl, rfl⟩
    have hcore : d.stepCore 1 unit = peCore (Dev.engineOf unit) := (peCore_engineOf hunit).symm
    rw [hcore]
    exact h2
  | 2 =>
    have h1 : Returned d r .canopy (d.coreUp .canopy).latchCanopy :=
      (Returned.coreUp hr _).after (Dev.latchCanopy_keeps0 _) rfl rfl (by decide)
    have h2 : Returned d r .canopy d.canopyBack := h1.after (Dev.setCanopy_keeps0 _ _) rfl rfl (by decide)
    exact (h2.unitState _ _).modRun _ fun _ => ⟨rfl, rfl, rfl, rfl⟩
  | 4 => exact Returned.ite ((hchan false).modRun _ fun _ => ⟨rfl, rfl, rfl, rfl⟩) (hchan false)
  | 5 => exact Returned.ite ((hchan true).modRun _ fun _ => ⟨rfl, rfl, rfl, rfl⟩) (hchan true)
  | 3 => exact hdisplay
  | n + 6 => exact hdisplay

theorem unitReady_preparing {r : PlanRun} (hr : d.update.run = some r) (hp : d.powered = true) (hb : d.burlUp = true) {by_ : Nat}
    (hby : r.readyBy = some by_) (hph : r.phase = .preparing) :
    d.unitReady = ((d.modRun fun r => { r with readyBy := none }).coreUp (d.modRun fun r => { r with readyBy := none }).standbySapwood).modRun fun r =>
      { r with prepared := true } := by
  unfold Dev.unitReady
  rw [hr]
  dsimp only
  rw [if_neg (by simp [hp, hb, hby])]
  cases r
  cases hph
  rfl

theorem unitReady_switched {r : PlanRun} (hr : d.update.run = some r) (hp : d.powered = true) (hb : d.burlUp = true) {by_ : Nat}
    (hby : r.readyBy = some by_) (hph : r.phase = .switched) :
    d.unitReady = returnMoves ((d.modRun fun r => { r with readyBy := none }).modRun fun r => { r with phase := .trial }) (Dev.stepIn d.nat r.step).1 r.step
      r.unit (some (d.nowMs + 1000 * d.nat Key.trialS)) := by
  unfold Dev.unitReady
  rw [hr]
  dsimp only
  rw [if_neg (by simp [hp, hb, hby])]
  cases r
  cases hph
  rfl

/-- The run no longer waits for its unit. -/
theorem readied_leaves {r : PlanRun} (hr : d.update.run = some r) :
    (d.modRun fun r => { r with readyBy := none }).update.run = some { r with readyBy := none } ∧
      (d.modRun fun r => { r with readyBy := none }).standbySapwood = d.standbySapwood ∧ Keeps 16777220 d (d.modRun fun r => { r with readyBy := none }) := by
  obtain ⟨hu, -, hk⟩ := modRun_leaves d fun r => { r with readyBy := none }
  refine ⟨by rw [hu, hr]; rfl, ?_, hk⟩
  unfold Dev.standbySapwood
  rw [hk.get_activeB rfl]

end

theorem unitReady_exec (s : State) : exec .unitReady s =
    .next { s with dev := s.dev.unitReady, mem := s.dev.coresLoaded s.dev.unitReady s.mem } := rfl

/-- The state after UNIT_READY: the images of the cores released are loaded, and within the parts nothing else changes. -/
theorem unitReady_within (s : State) {parts : List Part} (hparts : 119697702 ||| Part.mask parts = Part.mask parts) (hk : Keeps 119697702 s.dev s.dev.unitReady) :
    Within parts { s with mem := s.dev.coresLoaded s.dev.unitReady s.mem } { s with
      dev := s.dev.unitReady, mem := s.dev.coresLoaded s.dev.unitReady s.mem } :=
  Keeps.within (s := { s with mem := s.dev.coresLoaded s.dev.unitReady s.mem }) hk hparts

/-- The standby that is ready is prepared (17 R467). -/
theorem unitReady_prepares (s : State) {r : PlanRun} {by_ : Nat} (hr : s.dev.update.run = some r) (hp : s.dev.powered = true) (hb : s.dev.burlUp = true)
    (hby : r.readyBy = some by_) (hph : r.phase = .preparing) {parts : List Part} (hparts : 119697702 ||| Part.mask parts = Part.mask parts) :
    Completes .unitReady s fun t =>
      t.dev.update.run = some { r with readyBy := none, prepared := true } ∧ t.dev.running s.dev.standbySapwood = true ∧
      t.mem = s.dev.coresLoaded t.dev s.mem ∧ Within parts { s with mem := t.mem } t := by
  have heq := unitReady_preparing s.dev hr hp hb hby hph
  obtain ⟨hrun, hst, hk⟩ := readied_leaves s.dev hr
  rw [hst] at heq
  generalize s.dev.modRun (fun r => { r with readyBy := none }) = e at hrun hk heq
  have hup := Returned.coreUp hrun s.dev.standbySapwood
  have hupu : (e.coreUp s.dev.standbySapwood).update.run = some { r with readyBy := none } := by rw [(Dev.coreUp_keeps0 e _).get_update rfl, hrun]
  have hret := hup.modRun (fun r => { r with prepared := true }) fun _ => ⟨rfl, rfl, rfl, rfl⟩
  obtain ⟨hu, -, -⟩ := modRun_leaves (e.coreUp s.dev.standbySapwood) fun r => { r with prepared := true }
  rw [← heq] at hret hu
  have hkeep : Keeps 119697702 s.dev s.dev.unitReady := (hk.mono (by decide)).trans hret.2.2
  refine ⟨_, unitReady_exec s, ?_, hret.2.1, rfl, unitReady_within s hparts hkeep⟩
  show s.dev.unitReady.update.run = _
  rw [hu, hupu]
  rfl

/-- A switched unit that runs goes on trial (17 R467). -/
theorem unitReady_tries (s : State) {r : PlanRun} {by_ : Nat} (hr : s.dev.update.run = some r) (hp : s.dev.powered = true) (hb : s.dev.burlUp = true)
    (hby : r.readyBy = some by_) (hunit : r.unit < 4) (hph : r.phase = .switched) {parts : List Part}
    (hparts : 119697702 ||| Part.mask parts = Part.mask parts) :
    Completes .unitReady s fun t =>
      (∃ x, t.dev.update.run = some x ∧ x.phase = .trial ∧ x.readyBy = none ∧ x.step = r.step ∧ x.unit = r.unit) ∧
      t.dev.running (s.dev.stepCore (Dev.stepIn s.dev.nat r.step).1 r.unit) = true ∧
      t.mem = s.dev.coresLoaded t.dev s.mem ∧ Within parts { s with mem := t.mem } t := by
  have heq := unitReady_switched s.dev hr hp hb hby hph
  obtain ⟨hrun, -, hk⟩ := readied_leaves s.dev hr
  generalize s.dev.modRun (fun r => { r with readyBy := none }) = e at hrun hk heq
  obtain ⟨hu, -, hke⟩ := modRun_leaves e fun r => { r with phase := .trial }
  have htrial : (e.modRun fun r => { r with phase := .trial }).update.run = some { r with readyBy := none, phase := .trial } := by
    rw [hu, hrun]
    rfl
  have hkeep : Keeps 119697702 s.dev (e.modRun fun r => { r with phase := .trial }) := (hk.trans hke).mono (by decide)
  have hcore : (e.modRun fun r => { r with phase := .trial }).stepCore (Dev.stepIn s.dev.nat r.step).1 r.unit =
      s.dev.stepCore (Dev.stepIn s.dev.nat r.step).1 r.unit := by
    unfold Dev.stepCore Dev.standbySapwood
    rw [hkeep.get_activeB rfl]
  generalize (e.modRun fun r => { r with phase := .trial }) = f at *
  have hret := returnMoves_returned f htrial (Dev.stepIn s.dev.nat r.step).1 r.step hunit (some (s.dev.nowMs + 1000 * s.dev.nat Key.trialS))
  rw [← heq, hcore] at hret
  obtain ⟨⟨x, hx, h1, h2, h3, h4⟩, hup, hkr⟩ := hret
  exact ⟨_, unitReady_exec s, ⟨x, hx, h1, h2, h3, h4⟩, hup, rfl, unitReady_within s hparts (hkeep.trans hkr)⟩

/-! ### The instant of a switch, and the times of a plan (17 R464, R467 to R471) -/

theorem stepSwitch_switches (s : State) {r : PlanRun} (hr : s.dev.update.run = some r) (hq : s.dev.sequencerUp = true) (hs : s.dev.nat Key.planState = 3)
    (hb : r.begun = true) (hph : r.phase = .preparing) (ht : (Dev.stepIn s.dev.nat r.step).1 < 7) (hprep : s.dev.unitPrepared r = true)
    (hdue : 0 < r.step ∨ 0 < r.unit ∨ s.dev.update.lateStart = true ∨ s.dev.instantReached = true) {parts : List Part}
    (hparts : 132283172 ||| Part.mask parts = Part.mask parts) :
    Completes .stepSwitch s fun t =>
      (∃ x, t.dev.update.run = some x ∧ x.step = r.step ∧ x.phase = .switched ∧
        x.readyBy = some (s.dev.nowMs + s.dev.nat Key.readyTimeoutMs) ∧ x.switchedAt = s.dev.nowMs) ∧
      ((Dev.stepIn s.dev.nat r.step).1 ≠ 1 ∨ r.unit = 0 → t.dev.activeK (Dev.stepIn s.dev.nat r.step).1 = s.dev.targetOf (Dev.stepIn s.dev.nat r.step).1) ∧
      ((Dev.stepIn s.dev.nat r.step).1 = 0 → t.dev.activeB = !s.dev.activeB) ∧ t.dev.update.images = s.dev.update.images ∧ Within parts s t := by
  have hex : exec .stepSwitch s = .next { s with dev := s.dev.stepSwitch } := rfl
  have heq : s.dev.stepSwitch = s.dev.switchUnit r := by
    unfold Dev.stepSwitch
    rw [hr]
    dsimp only
    rw [if_pos ⟨hq, hs, hb, hph, hprep, by simpa [or_assoc] using hdue⟩]
  rw [heq] at hex
  obtain ⟨⟨y, hy, hrest⟩, hact, hbr⟩ := switchUnit_leaves s.dev hr ht
  refine ⟨_, hex, ⟨y, ?_, hrest⟩, hact, hbr, ?_, (Dev.switchUnit_keeps0 s.dev r).within hparts⟩
  · show (s.dev.switchUnit r).update.run = _
    rw [hy]
  · show (s.dev.switchUnit r).update.images = _
    rw [hy]

theorem stepSwitch_waits (s : State) {r : PlanRun} (hr : s.dev.update.run = some r) (hprep : s.dev.unitPrepared r = false) :
    Completes .stepSwitch s fun t => t = s := by
  have hex : exec .stepSwitch s = .next { s with dev := s.dev.stepSwitch } := rfl
  have heq : s.dev.stepSwitch = s.dev := by
    unfold Dev.stepSwitch
    rw [hr]
    dsimp only
    rw [if_neg (by simp [hprep])]
  rw [heq] at hex
  exact ⟨_, hex, rfl⟩

theorem readyTimeout_fails (s : State) {r : PlanRun} {by_ : Nat} (hr : s.dev.update.run = some r) (hp : s.dev.powered = true) (hby : r.readyBy = some by_)
    (ht : (Dev.stepIn s.dev.nat r.step).1 < 7) {parts : List Part} (hparts : 132280613 ||| Part.mask parts = Part.mask parts) :
    Completes .readyTimeout s fun t =>
      if by_ ≤ s.dev.nowMs then PlanOver s.dev r.step t.dev ∧ Within parts s t ∧
        (r.phase ≠ .preparing → t.dev.activeK (Dev.stepIn s.dev.nat r.step).1 = !s.dev.targetOf (Dev.stepIn s.dev.nat r.step).1)
      else t = s := by
  have hex : exec .readyTimeout s = .next { s with dev := s.dev.readyTimeout } := rfl
  have hk := Dev.readyTimeout_keeps0 s.dev
  have heq : s.dev.readyTimeout = if by_ ≤ s.dev.nowMs then (if r.phase = .preparing then s.dev.preparationFailed else s.dev.failTrial) else s.dev := by
    unfold Dev.readyTimeout
    rw [hr]
    simp [hp, hby]
  rw [heq] at hex hk
  refine ⟨_, hex, ?_⟩
  by_cases hl : by_ ≤ s.dev.nowMs
  · simp only [if_pos hl] at hk ⊢
    by_cases hph : r.phase = .preparing
    · simp only [if_pos hph] at hk ⊢
      exact ⟨preparationFailed_over s.dev hr, hk.within hparts, fun hn => absurd hph hn⟩
    · simp only [if_neg hph] at hk ⊢
      obtain ⟨ho, ha⟩ := failTrial_over s.dev hr ht
      exact ⟨ho, hk.within hparts, fun _ => ha⟩
  · simp only [if_neg hl]

theorem preparationTimeout_fails (s : State) {r : PlanRun} (hr : s.dev.update.run = some r) (hp : s.dev.powered = true)
    (ht : (Dev.stepIn s.dev.nat r.step).1 ≤ 1) (hph : r.phase = .preparing) (hb : r.begun = true) (hprep : s.dev.unitPrepared r = false) {parts : List Part}
    (hparts : 20996389 ||| Part.mask parts = Part.mask parts) :
    Completes .preparationTimeout s fun t =>
      if r.since + 1000 * (if r.step = 0 then s.dev.nat Key.prepareLeadS else 600) ≤ s.dev.nowMs then PlanOver s.dev r.step t.dev ∧ Within parts s t
      else t = s := by
  have hex : exec .preparationTimeout s = .next { s with dev := s.dev.preparationTimeout } := rfl
  have hk := Dev.preparationTimeout_keeps0 s.dev
  have heq : s.dev.preparationTimeout = if r.since + 1000 * (if r.step = 0 then s.dev.nat Key.prepareLeadS else 600) ≤ s.dev.nowMs then
      s.dev.preparationFailed else s.dev := by
    unfold Dev.preparationTimeout
    rw [hr]
    simp [hp, ht, hph, hb, hprep]
  rw [heq] at hex hk
  refine ⟨_, hex, ?_⟩
  generalize r.since + 1000 * (if r.step = 0 then s.dev.nat Key.prepareLeadS else 600) = late at *
  by_cases hl : late ≤ s.dev.nowMs
  · simp only [if_pos hl] at hk ⊢
    exact ⟨preparationFailed_over s.dev hr, hk.within hparts⟩
  · simp only [if_neg hl]

theorem firebreakTrialTimeout_fails (s : State) {r : PlanRun} (hr : s.dev.update.run = some r) (hp : s.dev.powered = true)
    (ht : (Dev.stepIn s.dev.nat r.step).1 = 4 ∨ (Dev.stepIn s.dev.nat r.step).1 = 5) (hph : r.phase ≠ .preparing) (htill : r.trialTill = none)
    {parts : List Part} (hparts : 132280613 ||| Part.mask parts = Part.mask parts) :
    Completes .firebreakTrialTimeout s fun t =>
      if r.switchedAt + 86400000 ≤ s.dev.nowMs then PlanOver s.dev r.step t.dev ∧ Within parts s t ∧
        t.dev.activeK (Dev.stepIn s.dev.nat r.step).1 = !s.dev.targetOf (Dev.stepIn s.dev.nat r.step).1
      else t = s := by
  have hex : exec .firebreakTrialTimeout s = .next { s with dev := s.dev.firebreakTrialTimeout } := rfl
  have hk := Dev.firebreakTrialTimeout_keeps0 s.dev
  have heq : s.dev.firebreakTrialTimeout = if r.switchedAt + 86400000 ≤ s.dev.nowMs then s.dev.failTrial else s.dev := by
    unfold Dev.firebreakTrialTimeout
    rw [hr]
    dsimp only
    rw [htill]
    simp only [hp, ht, hph, Option.isNone_none, ne_eq, not_false_eq_true, true_and]
  rw [heq] at hex hk
  refine ⟨_, hex, ?_⟩
  generalize r.switchedAt + 86400000 = late at *
  by_cases hl : late ≤ s.dev.nowMs
  · simp only [if_pos hl] at hk ⊢
    obtain ⟨ho, ha⟩ := failTrial_over s.dev hr (by omega)
    exact ⟨ho, hk.within hparts, ha⟩
  · simp only [if_neg hl]

/-! ### Sessions still open when a drain's time is up (17 R469) -/

theorem stopOpen_portOnly (d : Dev) (p : PortId) (n : Nat) : d.PortOnly p (d.stopOpen p n) := by
  have hset : d.PortOnly p (d.setPort p fun q => { q with stop := some n, start := false }) := portOnly_setPort _ _ _
  have hplace : d.PortOnly p (d.placeStop p n) := by
    unfold Dev.placeStop
    dsimp only
    split
    · exact hset.trans (enterEnded_port _ p n).2
    · exact hset.trans (enterEnded_port _ p n).2
    · exact hset
  unfold Dev.stopOpen
  split
  · exact hplace
  · exact hplace
  · exact hplace
  · exact hplace
  · exact portOnly_of_ports rfl

theorem stopOpen_stops (d : Dev) (p : PortId) (n : Nat) (h : (d.port p).session = .closing ∨ (d.port p).session = .energised) :
    ((d.stopOpen p n).port p).stop.isSome = true := by
  have hport := Dev.port_setPort_same d p fun q => { q with stop := some n, start := false }
  have hplace : d.placeStop p n = d.setPort p fun q => { q with stop := some n, start := false } := by
    unfold Dev.placeStop
    dsimp only
    rw [hport]
    dsimp only
    rcases h with h | h <;> rw [h]
  have hopen : d.stopOpen p n = d.placeStop p n := by
    unfold Dev.stopOpen
    rcases h with h | h <;> rw [h]
  rw [hopen, hplace, hport]
  rfl

theorem drainTimeout_ends (s : State) {r : PlanRun} (hr : s.dev.update.run = some r) (hp : s.dev.powered = true) (hd : r.draining = true)
    (hn : r.drainStopped = false) (hc : s.dev.allClearing = false) (hl : r.since + 1000 * s.dev.nat Key.drainTimeoutS ≤ s.dev.nowMs) {parts : List Part}
    (hparts : 19623943 ||| Part.mask parts = Part.mask parts) :
    Completes .drainTimeout s fun t =>
      (if s.dev.nat Key.firebreakDrain = 0 then PlanOver s.dev r.step t.dev
      else t.dev.update.run = some { r with drainStopped := true } ∧
        ∀ p, (s.dev.port p).session = .closing ∨ (s.dev.port p).session = .energised → (t.dev.port p).stop.isSome = true) ∧ Within parts s t := by
  have hex : exec .drainTimeout s = .next { s with dev := s.dev.drainTimeout } := rfl
  have hk := Dev.drainTimeout_keeps0 s.dev
  refine ⟨_, hex, ?_, hk.within hparts⟩
  have hgo : ¬((!s.dev.powered) = true ∨ (!r.draining) = true ∨ r.drainStopped = true ∨ s.dev.allClearing = true ∨
      s.dev.nowMs < r.since + 1000 * s.dev.nat Key.drainTimeoutS) := by
    simp [hp, hd, hn, hc]
    omega
  show if s.dev.nat Key.firebreakDrain = 0 then PlanOver s.dev r.step s.dev.drainTimeout else s.dev.drainTimeout.update.run = _ ∧
    ∀ p, _ → (s.dev.drainTimeout.port p).stop.isSome = true
  unfold Dev.drainTimeout
  rw [hr]
  dsimp only
  rw [if_neg hgo]
  by_cases hz : s.dev.nat Key.firebreakDrain = 0
  · rw [if_pos hz, if_pos hz]
    exact planFailed_over s.dev r.step
  · rw [if_neg hz, if_neg hz]
    have hdraw : Keeps 1 s.dev s.dev.draw.2 := Dev.draw_keeps _ (by decide) (.refl _ _)
    generalize s.dev.draw = v at hdraw ⊢
    have hkf : Keeps 2838534 v.2 (Dev.allPorts.foldl (fun (d : Dev) p => d.stopOpen p (v.1 % 12)) v.2) :=
      Keeps.foldl _ (.refl _ _) fun e p he => he.trans (Dev.stopOpen_keeps0 _ _ _)
    have hstop (p : PortId) : ((v.2.port p).session = .closing ∨ (v.2.port p).session = .energised) →
        ((Dev.allPorts.foldl (fun (d : Dev) p => d.stopOpen p (v.1 % 12)) v.2).port p).stop.isSome = true :=
      foldl_place (read := fun d p => d.port p) (R := fun _ (x y : Port) => (x.session = .closing ∨ x.session = .energised) → y.stop.isSome = true)
        (fun d c x hx => stopOpen_portOnly d c _ x hx) (fun d c h => stopOpen_stops d c _ h) Dev.allPorts v.2 (by decide) (List.mem_finRange p)
    generalize Dev.allPorts.foldl (fun (d : Dev) p => d.stopOpen p (v.1 % 12)) v.2 = e at hkf hstop ⊢
    obtain ⟨hu, -, hkm⟩ := modRun_leaves e fun r => { r with drainStopped := true }
    generalize (e.modRun fun r => { r with drainStopped := true }) = f at hu hkm ⊢
    refine ⟨?_, fun p hopen => ?_⟩
    · rw [(Dev.settle_keeps0 f).get_update rfl, hu, hkf.get_update rfl, hdraw.get_update rfl, hr]
      rfl
    · obtain ⟨c, hcp⟩ := port_settle f p
      rw [hcp]
      show (f.port p).stop.isSome = true
      rw [port_of_ports (hkm.get_ports rfl)]
      exact hstop p (by rw [port_of_ports (hdraw.get_ports rfl)]; exact hopen)

/-! ### The end of a trial (17 R471, R473) -/

/-- No security counter falls. -/
def VersionsKept (d e : Dev) : Prop := ∀ k < 7, d.nat (Key.securityVersion k) ≤ e.nat (Key.securityVersion k)

theorem raiseVersion_kept (d : Dev) (t : Nat) : VersionsKept d (d.raiseVersion t) := by
  intro k _
  unfold Dev.raiseVersion
  split
  next x _ =>
    generalize hv : max (d.nat (Key.securityVersion t)) x.1.securityVersion = v
    have hval : (d.count (Fin.ofNat 18 (4 + t)) (Key.securityVersion t) v).nat (Key.securityVersion k) =
        (d.putNat (Key.securityVersion t) v).nat (Key.securityVersion k) := by
      unfold Dev.count
      dsimp only
      split <;> rfl
    rw [hval]
    by_cases hk : k = t
    · subst hk
      rw [Dev.nat_putNat]
      omega
    · rw [nat_of_val (Dev.val_putNat_other d v fun he => hk ?_)]
      simp only [Key.securityVersion, ob] at he
      omega
  · exact le_refl _

theorem retireSlot_kept (d : Dev) (t : Nat) (b : Bool) : VersionsKept d (d.retireSlot t b) := by
  intro k _
  unfold Dev.retireSlot
  split
  · refine le_of_eq (nat_of_val (Dev.val_putNat_other d 2 fun he => ?_)).symm
    have hfar : 0x900000 ≤ Dev.slotStateKey t b := by
      cases b
      · show 0x900000 ≤ Key.slotAState t
        simp only [Key.slotAState, ob]
        omega
      · show 0x900000 ≤ Key.slotBState t
        simp only [Key.slotBState, ob]
        omega
    simp only [Key.securityVersion, ob] at he
    omega
  · exact le_refl _

theorem planComplete_leaves (d : Dev) : d.planComplete.update.run = none ∧ d.planComplete.nat Key.planState = 4 ∧ VersionsKept d d.planComplete ∧
    d.planComplete.update.images = d.update.images := by
  have hk1 : Keeps 8388612 d (((Dev.planSteps d.nat).map (·.1)).foldl (fun (d : Dev) t => d.raiseVersion t) d) :=
    Keeps.foldl _ (.refl _ _) fun e t he => he.trans (Dev.raiseVersion_keeps0 _ _)
  have h1 : VersionsKept d (((Dev.planSteps d.nat).map (·.1)).foldl (fun (d : Dev) t => d.raiseVersion t) d) :=
    foldl_keeps_prop (P := VersionsKept d) (fun e t h k hk => (h k hk).trans (raiseVersion_kept e t k hk)) _ fun _ _ => le_refl _
  unfold Dev.planComplete
  dsimp only
  generalize ((Dev.planSteps d.nat).map (·.1)).foldl (fun (d : Dev) t => d.raiseVersion t) d = e at hk1 h1 ⊢
  have hk2 : Keeps 8388612 d (((Dev.planSteps d.nat).map (·.1)).foldl (fun (d : Dev) t => (d.retireSlot t false).retireSlot t true) e) :=
    Keeps.foldl _ hk1 fun g t hg => Dev.retireSlot_keeps _ _ _ (by decide) (Dev.retireSlot_keeps _ _ _ (by decide) hg)
  have h2 : VersionsKept d (((Dev.planSteps d.nat).map (·.1)).foldl (fun (d : Dev) t => (d.retireSlot t false).retireSlot t true) e) :=
    foldl_keeps_prop (P := VersionsKept d)
      (fun g t h k hk => (h k hk).trans ((retireSlot_kept g t false k hk).trans (retireSlot_kept _ t true k hk))) _ h1
  generalize ((Dev.planSteps d.nat).map (·.1)).foldl (fun (d : Dev) t => (d.retireSlot t false).retireSlot t true) e = f at hk2 h2 ⊢
  obtain ⟨h4, hv, hkp⟩ := planTo_leaves f 4
  generalize f.planTo 4 = g at h4 hv hkp ⊢
  obtain ⟨hu, hvr, -⟩ := showRun_leaves g none
  generalize g.showRun none = w at hu hvr ⊢
  refine ⟨congrArg Update.run hu, (nat_of_val (hvr _ (by decide))).trans h4, fun k hk => ?_, ?_⟩
  · refine (h2 k hk).trans (le_of_eq (nat_of_val ((hvr _ ?_).trans (hv _ ?_))).symm)
    · simp only [runKeys, Key.securityVersion, Key.currentStep, Key.currentUnit, Key.stepPhase, ob, List.mem_cons, List.not_mem_nil, or_false]
      omega
    · simp only [Key.securityVersion, Key.planState, ob]
      omega
  · show w.update.images = _
    rw [hu, hkp.get_update rfl, hk2.get_update rfl]

theorem trialEnd_goes (s : State) {r : PlanRun} {till : Nat} (hr : s.dev.update.run = some r) (hp : s.dev.powered = true) (hph : r.phase = .trial)
    (htill : r.trialTill = some till) (hl : till ≤ s.dev.nowMs) :
    Completes .trialEnd s fun t =>
      (if (Dev.stepIn s.dev.nat r.step).1 = 1 ∧ r.unit < 3 then
        ∃ x, t.dev.update.run = some x ∧ x.step = r.step ∧ x.unit = r.unit + 1 ∧ x.phase = .preparing ∧ x.begun = false
      else if r.step + 1 < (Dev.planSteps s.dev.nat).length then
        ∃ x, t.dev.update.run = some x ∧ x.step = r.step + 1 ∧ x.unit = 0 ∧ x.phase = .preparing ∧ x.begun = false
      else t.dev.update.run = none ∧ t.dev.nat Key.planState = 4 ∧ VersionsKept s.dev t.dev) ∧
      t.dev.update.images = s.dev.update.images ∧ Within [.obj, .heart, .burl, .update] s t := by
  have hex : exec .trialEnd s = .next { s with dev := s.dev.trialEnd } := rfl
  have hk := Dev.trialEnd_keeps0 s.dev
  have hgo : ¬((!s.dev.powered) = true ∨ r.phase ≠ .trial ∨ (!r.trialTill.any fun t => decide (t ≤ s.dev.nowMs)) = true) := by
    simp [hp, hph, htill, hl]
  have heq : s.dev.trialEnd = if (Dev.stepIn s.dev.nat r.step).1 = 1 ∧ r.unit < 3 then
      s.dev.showRun (some { s.dev.newRun r.step with unit := r.unit + 1 })
    else if r.step + 1 < (Dev.planSteps s.dev.nat).length then s.dev.showRun (some (s.dev.newRun (r.step + 1))) else s.dev.planComplete := by
    unfold Dev.trialEnd
    rw [hr]
    dsimp only
    rw [if_neg hgo]
    by_cases h1 : (Dev.stepIn s.dev.nat r.step).1 = 1 ∧ r.unit < 3
    · simp only [if_pos h1]
    · simp only [if_neg h1]
      by_cases h2 : r.step + 1 < (Dev.planSteps s.dev.nat).length
      · simp only [if_pos h2]
      · simp only [if_neg h2]
  rw [heq] at hex hk
  refine ⟨_, hex, ?_⟩
  by_cases h1 : (Dev.stepIn s.dev.nat r.step).1 = 1 ∧ r.unit < 3
  · simp only [if_pos h1] at hk ⊢
    obtain ⟨hu, -, -⟩ := showRun_leaves s.dev (some { s.dev.newRun r.step with unit := r.unit + 1 })
    exact ⟨⟨_, congrArg Update.run hu, rfl, rfl, rfl, rfl⟩, (congrArg Update.images hu).trans rfl, hk.within (by decide)⟩
  · simp only [if_neg h1] at hk ⊢
    by_cases h2 : r.step + 1 < (Dev.planSteps s.dev.nat).length
    · simp only [if_pos h2] at hk ⊢
      obtain ⟨hu, -, -⟩ := showRun_leaves s.dev (some (s.dev.newRun (r.step + 1)))
      exact ⟨⟨_, congrArg Update.run hu, rfl, rfl, rfl, rfl⟩, (congrArg Update.images hu).trans rfl, hk.within (by decide)⟩
    · simp only [if_neg h2] at hk ⊢
      obtain ⟨h3, h4, h5, h6⟩ := planComplete_leaves s.dev
      exact ⟨⟨h3, h4, h5⟩, h6, hk.within (by decide)⟩

/-- Settles O57: each command of a plan goes by the run in hand, whose step, unit and phase every unit's work keeps; what restarts a unit leaves the
directory and the objects of the plan as they were. -/
theorem plansRunStepByStep : Obligations.PlansRunStepByStep := by
  unfold Obligations.PlansRunStepByStep
  refine ⟨fun s hs ha hl hp => planPreparationStart_begins s hs ha hl hp (by decide),
    fun s hs ha hl hu hp => planPreparationStart_missed s hs ha hl hu hp, fun s r hr hq hs hb hph ht => ?_, fun s r by_ hr hp hb hby hu => ?_,
    fun s r by_ hr hp hby ht => readyTimeout_fails s hr hp hby ht (by decide),
    fun s r hr hp ht hph hb hprep => preparationTimeout_fails s hr hp ht hph hb hprep (by decide),
    fun s r hr hp hd hn hc hl => drainTimeout_ends s hr hp hd hn hc hl (by decide),
    fun s r till hr hp hph htill hl _ => trialEnd_goes s hr hp hph htill hl,
    fun s r hr hp ht hph htill => firebreakTrialTimeout_fails s hr hp ht hph htill (by decide)⟩
  · exact ⟨fun hprep hdue => stepSwitch_switches s hr hq hs hb hph ht hprep hdue (by decide), stepSwitch_waits s hr⟩
  · exact ⟨fun hph => unitReady_prepares s hr hp hb hby hph (by decide), fun hph => unitReady_tries s hr hp hb hby hu hph (by decide)⟩

end Sys2Proof.Machine
end

section
/-! PROOFS. What the closing of periods and a commit leave alone: the enables, what was sent, and the cause of the last reset (03 R69 to R74; 09 R232). -/

namespace Sys2Proof.Machine

/-- The halves of every port, what was sent and the cause of the last reset are as before. -/
def Still (d e : Dev) : Prop := e.enables = d.enables ∧ e.out = d.out ∧ e.val Key.resetCause = d.val Key.resetCause

namespace Still

theorem refl (d : Dev) : Still d d := ⟨rfl, rfl, rfl⟩

theorem trans {d e f : Dev} (h : Still d e) (h' : Still e f) : Still d f := ⟨h'.1.trans h.1, h'.2.1.trans h.2.1, h'.2.2.trans h.2.2⟩

theorem of_keeps {M : Nat} {d e : Dev} (h : Keeps M d e) (hs : M.testBit 17 = false) (ho : M.testBit 1 = false) (hv : M.testBit 2 = false) : Still d e :=
  ⟨enables_of_safety (h.get_safety hs), h.get_out ho, val_of_obj (h.get_obj hv) _⟩

/-- A change that leaves the safety state, what was sent and the objects. -/
theorem of_parts {d e : Dev} (hs : e.safety = d.safety) (ho : e.out = d.out) (hv : e.obj = d.obj) : Still d e :=
  ⟨enables_of_safety hs, ho, val_of_obj hv _⟩

theorem ite {c : Prop} [Decidable c] {d a b : Dev} (ha : Still d a) (hb : Still d b) : Still d (if c then a else b) := by
  split
  · exact ha
  · exact hb

theorem foldl {ι : Type} {g : Dev → ι → Dev} (l : List ι) (h : ∀ e x, Still e (g e x)) (d : Dev) : Still d (l.foldl g d) :=
  foldl_keeps_prop (P := Still d) (fun e x he => he.trans (h e x)) l (.refl d)

/-- An object of another index. -/
abbrev Far (k : Nat) : Prop := 0x100100 ≤ k

variable (d : Dev)

theorem putNat {k : Nat} (v : Nat) (h : Far k) : Still d (d.putNat k v) :=
  ⟨enables_of_safety (Dev.putNat_safety ..), Dev.putNat_out .., Dev.val_putNat_other _ _ fun he => by
    subst he
    exact absurd (show 0x100100 ≤ Key.resetCause from h) (by decide)⟩

theorem putInt {k : Nat} (v : Int) (h : Far k) : Still d (d.putInt k v) :=
  ⟨enables_of_safety (Dev.putInt_safety ..), Dev.putInt_out .., Dev.val_putInt_other _ _ fun he => by
    subst he
    exact absurd (show 0x100100 ≤ Key.resetCause from h) (by decide)⟩

theorem putFlag {k : Nat} (v : Bool) (h : Far k) : Still d (d.putFlag k v) :=
  ⟨enables_of_safety (Dev.putFlag_safety ..), Dev.putFlag_out .., Dev.val_putFlag_other _ _ fun he => by
    subst he
    exact absurd (show 0x100100 ≤ Key.resetCause from h) (by decide)⟩

theorem putBytes {k : Nat} (v : Bytes) (h : Far k) : Still d (d.putBytes k v) :=
  ⟨enables_of_safety (Dev.putBytes_safety ..), Dev.putBytes_out .., Dev.val_putBytes_other _ _ fun he => by
    subst he
    exact absurd (show 0x100100 ≤ Key.resetCause from h) (by decide)⟩

theorem bump {k : Nat} (n : Nat) (h : Far k) : Still d (d.bump k n) := putNat d _ h

theorem setPsafe (p : PortId) (g : PortSafety → PortSafety) (h : ∀ q, (g q).enA = q.enA ∧ (g q).enB = q.enB) : Still d (d.setPsafe p g) :=
  ⟨enables_setPsafe d p g h, rfl, rfl⟩

/-! ### Logs, causes and credits (11 R287; 12 R315; 13 R355) -/

theorem legal (event flags : Nat) (data : Bytes) : Still d (d.legal event flags data) := of_keeps (Dev.legal_keeps0 _ _ _ _) rfl rfl rfl

theorem judgeLevel2 (p : PortId) : Still d (d.judgeLevel2 p) :=
  ⟨judgeLevel2_enables d p, by
    unfold Dev.judgeLevel2
    dsimp only
    split <;> rfl, val_of_obj ((Dev.judgeLevel2_keeps0 d p).get_obj rfl) _⟩

theorem raiseCause (l : List PortId) (bit : Nat) (m : Int) : Still d (d.raiseCause l bit m) := by
  have hk := Dev.raiseCause_keeps0 l bit m d
  refine ⟨enables_of_safety (hk.get_safety rfl), hk.get_out rfl, val_raiseCauses d l bit m fun p _ he => ?_⟩
  simp only [Key.level1Causes, Key.resetCause, ob] at he
  omega

theorem releaseCause (l : List PortId) (bit : Nat) (m : Int) : Still d (d.releaseCause l bit m) := by
  unfold Dev.releaseCause
  extract_lets old d1
  have h1 : Still d d1 := by
    refine foldl old (fun e p => ?_) d
    have hput : Still e (e.putNat (Key.level1Causes p) (setBit (e.causes p) bit false)) :=
      putNat e _ (by simp only [Far, Key.level1Causes, ob]; omega)
    exact hput.trans (setPsafe _ p _ fun _ => ⟨rfl, rfl⟩)
  exact ite h1 (h1.trans (of_keeps (Dev.logCause_keeps0 old bit false m d1) rfl rfl rfl))

/-! ### Channels (08 R207 to R211) -/

theorem judgeChannels (p : PortId) : Still d (d.judgeChannels p) := by
  unfold Dev.judgeChannels
  exact ite (raiseCause d _ _ _) (ite (.refl d) (releaseCause d _ _ _))

theorem setChan (c : Fin 68) (g : Channel → Channel) : Still d (d.setChan c g) := of_keeps (Dev.setChan_keeps0 _ _ _) rfl rfl rfl

theorem setMeter (e : EntityId) (g : Meter → Meter) : Still d (d.setMeter e g) := of_keeps (Dev.setMeter_keeps0 _ _ _) rfl rfl rfl

theorem judgeOf (c : Fin 68) : Still d (d.judgeOf c) := by
  unfold Dev.judgeOf
  split
  · exact judgeChannels d _
  · exact .refl d

theorem failChan (c : Fin 68) (cause : Nat) : Still d (d.failChan c cause) := by
  unfold Dev.failChan
  extract_lets fresh d1 d2 d3
  have h1 : Still d d1 := setChan d _ _
  have h2 : Still d1 d2 := ite (legal d1 _ _ _) (.refl d1)
  have h3 : Still d2 d3 := ite (setMeter d2 _ _) (.refl d2)
  exact ((h1.trans h2).trans h3).trans (judgeOf d3 c)

theorem unfailChan (c : Fin 68) (cause : Nat) : Still d (d.unfailChan c cause) := of_keeps (Dev.unfailChan_keeps0 _ _ _) rfl rfl rfl

theorem judgeSettings (c : Fin 68) : Still d (d.judgeSettings c) := by
  unfold Dev.judgeSettings
  extract_lets ch dc bad3 bad4 d1
  have h1 : Still d d1 := ite (ite (.refl d) (failChan d c 3)) (unfailChan d c 3)
  exact h1.trans (ite (ite (.refl d1) (failChan d1 c 4)) (unfailChan d1 c 4))

theorem latchChan (c : Fin 68) (b : Nat) : Still d (d.latchChan c b) := by
  unfold Dev.latchChan
  extract_lets old new d1 moved d2 d3
  have h1 : Still d d1 := setChan d _ _
  have h2 : Still d1 d2 := ite (setChan d1 _ _) (.refl d1)
  have h3 : Still d2 d3 := ite (of_keeps (Dev.startDiscard_keeps0 d2 c false) rfl rfl rfl) (.refl d2)
  exact ((h1.trans h2).trans h3).trans (judgeSettings d3 c)

theorem latchEntity (e : EntityId) : Still d (d.latchEntity e) := by
  have hchans (w : Dev) (b : Nat) : Still w ((chansOf e).foldl (fun d c => d.latchChan c b) w) := foldl _ (fun w c => latchChan w c b) w
  unfold Dev.latchEntity
  cases entityPort e with
  | none =>
    dsimp only
    refine trans ?_ (hchans _ _)
    exact of_parts rfl rfl rfl
  | some p =>
    dsimp only
    refine trans (trans ?_ (hchans _ _)) (judgeChannels _ p)
    exact (setMeter d e _).trans (putNat _ _ (by simp only [Far, Key.portBandInForce, ob]; omega))

/-! ### A period that closes (08 R197; 09 R219) -/

theorem closeChan (n : Nat) (c : Fin 68) : Still d (Dev.closeChan n d c) := by
  unfold Dev.closeChan
  extract_lets ch d1 d2 m
  have h1 : Still d d1 := (putNat d _ (by simp only [Far, Key.rmsLastPeriod, ob]; omega)).trans
    (putInt _ _ (by simp only [Far, Key.meanLastPeriod, ob]; omega))
  have h2 : Still d1 d2 := (putNat d1 _ (by simp only [Far, Key.rawPeakAbs, ob]; omega)).trans
    (putInt _ _ (by simp only [Far, Key.rawMean, ob]; omega))
  exact ite (.refl d) ((h1.trans h2).trans (setChan d2 c _))

theorem calPeriod (e : EntityId) (len : Nat) (ended : Bool) (m : Meter) : Still d (d.calPeriod e len ended m) := by
  unfold Dev.calPeriod
  split
  · exact .refl d
  next r _ =>
    refine ite (.refl d) (ite (of_parts rfl rfl rfl) ?_)
    extract_lets chs bad at_ r'
    refine ite ?_ ?_
    · exact (of_parts (d := d) rfl rfl rfl).trans (putNat _ _ (by decide))
    · exact (of_parts (d := d) rfl rfl rfl).trans (putNat _ _ (by decide))

theorem roll (e : EntityId) (ended : Option Nat) : Still d (d.roll e ended) := by
  unfold Dev.roll
  extract_lets m span accepted len lens sum d1 dc d2 d3 d4 d5
  have h1 : Still d d1 := calPeriod d e _ _ m
  have h2 : Still d1 d2 := foldl _ (fun w c => closeChan w m.n c) d1
  have h3 : Still d2 d3 := setMeter d2 e _
  have h4 : Still d3 d4 := by
    unfold d4
    cases entityPort e with
    | none => exact (putNat d3 _ (by decide)).trans (putNat _ _ (by decide))
    | some p =>
      refine (trans (putNat d3 _ ?_) (putNat _ _ ?_)).trans (trans (putNat _ _ ?_) (putNat _ _ ?_))
      all_goals
        simp only [Far, Key.portFrequency, Key.periodLength, Key.periodSequence, Key.referenceState, ob]
        omega
  have h5 : Still d4 d5 := ite ((of_keeps (Dev.crossed_keeps0 d4 0x04) rfl rfl rfl).trans (setMeter _ e _)) (.refl d4)
  have h6 : Still d5 ((d5.trimHeld e).countLow e) :=
    (of_keeps (Dev.trimHeld_keeps0 d5 e) rfl rfl rfl).trans (of_keeps (Dev.countLow_keeps0 _ e) rfl rfl rfl)
  exact ((((h1.trans h2).trans h3).trans h4).trans h5).trans (h6.trans (latchEntity _ e))

theorem openPart (p : PortId) (l : Live) (b : Binding) : Still d (d.openPart p l b) := by
  unfold Dev.openPart
  dsimp only
  refine trans (trans (trans ?_ (putNat (k := Key.priceClass p) _ _ ?_)) (putNat (k := Key.openingCommit p) _ _ ?_))
    (putNat (k := Key.debitApplied p) _ _ ?_)
  · split
    · exact of_parts rfl rfl rfl
    · exact of_parts rfl rfl rfl
  all_goals
    simp only [Far, Key.priceClass, Key.openingCommit, Key.debitApplied, ob]
    omega

theorem enterSession (p : PortId) : Still d (d.enterSession p) := by
  unfold Dev.enterSession
  split
  next l _ =>
    extract_lets d1
    have h1 : Still d d1 := of_parts rfl rfl rfl
    refine ite ?_ (.refl d)
    split
    · exact h1.trans (openPart d1 p l _)
    · exact h1
  · exact .refl d

theorem closeWith (p : PortId) (r : PeriodSum) (partialEnd : Bool) (ep eq : Vector Int 3) : Still d (d.closeWith p r partialEnd ep eq) := by
  unfold Dev.closeWith
  extract_lets enet ok ea qa qf inside closing tariff d1 st d2 entry
  have h1 : Still d d1 := of_keeps (Dev.addClosed_keeps0 d p r qf ea qa _ inside) rfl rfl rfl
  have h2 : Still d1 d2 := of_keeps (Dev.setLiveEntity_keeps0 d1 _ _) rfl rfl rfl
  have h3 : Still d2 (d2.setEnergy fun n => { n with batch := n.batch ++ [entry] }) := of_keeps (Dev.setEnergy_keeps0 d2 _) rfl rfl rfl
  exact ((h1.trans h2).trans h3).trans (of_keeps (Dev.sessionPeriod_keeps0 _ p qf) rfl rfl rfl)

theorem closePort (p : PortId) (r : PeriodSum) (partialEnd : Bool) : Still d (d.closePort p r partialEnd) :=
  (enterSession d p).trans (closeWith _ p r partialEnd _ _)

theorem closeSite (r : PeriodSum) : Still d (d.closeSite r) := of_keeps (Dev.closeSite_keeps0 d r) rfl rfl rfl

/-- The last periods of an entity, closed for the final ring. -/
theorem closeLast (e : EntityId) : Still d (d.closeLast e) := by
  unfold Dev.closeLast
  extract_lets held d1 last d2
  have h2 : Still d d2 := (roll d e none).trans (setMeter _ e _)
  split
  · exact h2.trans ((foldl _ (fun w r => closePort w _ r false) d2).trans (foldl _ (fun w r => closePort w _ _ true) _))
  · exact h2.trans ((foldl _ (fun w r => closeSite w r) d2).trans (foldl _ (fun w r => closeSite w _) _))

/-! ### Sessions and credits (07 R179; 11 R280, R284) -/

theorem unbind (p : PortId) : Still d (d.unbind p) := by
  unfold Dev.unbind
  split
  · exact .refl d
  · extract_lets d1 ledger d2
    have h2 : Still d d2 := of_parts rfl rfl rfl
    refine h2.trans ((putNat d2 _ ?_).trans (putNat _ _ ?_))
    all_goals
      simp only [Far, Key.boundAccount, Key.boundSlot, ob]
      omega

theorem bindingLapsed (p : PortId) : Still d (d.bindingLapsed p) := by
  unfold Dev.bindingLapsed
  extract_lets ledger d1 d2 d3
  have h1 : Still d d1 := of_parts rfl rfl rfl
  have h2 : Still d1 d2 := putNat d1 _ (by simp only [Far, Key.authPending, ob]; omega)
  have h3 : Still d2 d3 := ite (unbind d2 p) (.refl d2)
  have h4 := (h1.trans h2).trans h3
  refine ite (h4.trans (trans ?_ (judgeLevel2 _ p))) h4
  exact (of_parts (d := d3) rfl rfl rfl).trans (putNat _ _ (by simp only [Far, Key.creditState, ob]; omega))

theorem endSession (p : PortId) : Still d (d.endSession p) := by
  refine ⟨endSession_enables d p, (Dev.endSession_keeps0 d p).get_out rfl, val_endSession d p ?_ ?_⟩
  all_goals
    simp only [Key.resetCause, Key.allocatedCurrent, Key.evTargetVoltage, ob]
    omega

theorem setPort (p : PortId) (g : Port → Port) : Still d (d.setPort p g) := of_keeps (Dev.setPort_keeps0 d p g) rfl rfl rfl

theorem enterEnded (p : PortId) (reason : Nat) : Still d (d.enterEnded p reason) := by
  unfold Dev.enterEnded
  extract_lets d1 d2 site d3
  have h1 : Still d d1 := (endSession d p).trans (setPort _ p _)
  have h2 : Still d1 d2 := putNat d1 _ (by simp only [Far, Key.lastEndReason, ob]; omega)
  have h3 : Still d2 d3 := of_parts rfl rfl rfl
  have h4 := (h1.trans h2).trans h3
  exact ite h4 (h4.trans (bindingLapsed d3 p))

theorem placeStop (p : PortId) (reason : Nat) : Still d (d.placeStop p reason) := by
  unfold Dev.placeStop
  extract_lets d1
  have h1 : Still d d1 := setPort d p _
  split
  · exact h1.trans (enterEnded d1 p reason)
  · exact h1.trans (enterEnded d1 p reason)
  · exact h1

theorem settle : Still d d.settle := of_keeps (Dev.settle_keeps0 d) rfl rfl rfl

theorem refuseGrant (p : PortId) : Still d (d.refuseGrant p) := (enterEnded d p 6).trans (settle _)

theorem identify (p : PortId) (found : Option (Nat × Account)) : Still d (d.identify p found) := by
  unfold Dev.identify
  extract_lets d1
  have h1 : Still d d1 := ite (of_keeps (Dev.enterIdentifying_keeps0 d p) rfl rfl rfl) (.refl d)
  refine h1.trans ?_
  split
  · exact refuseGrant d1 p
  next slot a =>
    refine ite (refuseGrant d1 p) (ite (of_parts rfl rfl rfl) ?_)
    exact (of_parts (d := d1) rfl rfl rfl).trans (putNat _ _ (by simp only [Far, Key.authPending, ob]; omega))

theorem setCredit (p : PortId) (avail : Int) (account cls utc : Nat) : Still d (d.setCredit p avail account cls utc) := by
  unfold Dev.setCredit
  extract_lets st d1 d2
  have h1 : Still d d1 := (putInt d _ (by simp only [Far, Key.creditAvailable, ob]; omega)).trans
    (putNat _ _ (by simp only [Far, Key.creditState, ob]; omega))
  have h2 : Still d1 d2 := by
    unfold d2
    split
    · exact ite ((of_parts (d := d1) rfl rfl rfl).trans (legal _ _ _ _)) (.refl d1)
    · exact .refl d1
  exact (h1.trans h2).trans (judgeLevel2 d2 p)

theorem evaluateAccount (ents : Vector Entity 9) (slot utc : Nat) : Still d (d.evaluateAccount ents slot utc) := by
  unfold Dev.evaluateAccount
  split
  · exact .refl d
  next a _ =>
    extract_lets avail
    refine foldl _ (fun w p => ?_) d
    extract_lets old d1 d2 q
    have h1 : Still w d1 := ite (putInt w _ (by simp only [Far, Key.runningNetCost, ob]; omega)) (.refl w)
    have h2 : Still d1 d2 := setCredit d1 p _ _ _ _
    exact (h1.trans h2).trans (ite (identify d2 p _) (.refl d2))

theorem capSession (p : PortId) (x : Entity) : Still d (d.capSession p x) := by
  unfold Dev.capSession
  extract_lets lim beyond live
  exact ite (placeStop d p 10) (.refl d)

theorem balanceRequest {slot : Nat} {amount : Int} {e : Dev} (h : d.balanceRequest slot amount none = some e) : Still d e := by
  unfold Dev.balanceRequest at h
  split at h
  · cases h
  next a _ =>
    split at h
    · cases h
    · have hfit : Still d (d.fit64 (a.balance + amount)).2 := by
        unfold Dev.fit64
        split
        · exact .refl d
        · exact of_parts rfl rfl rfl
      dsimp only at h
      generalize d.fit64 (a.balance + amount) = v at h hfit
      cases h
      exact hfit.trans (of_parts rfl rfl rfl)

theorem ledgerCorrupt (slot : Nat) : Still d (d.ledgerCorrupt slot) := by
  unfold Dev.ledgerCorrupt
  exact (legal d _ _ _).trans (bump _ _ (by decide))

/-! ### Records of sessions (12 R323) -/

theorem settleSession (slot number : Nat) (part : RecordOpening) (endUs quality flags : Nat) (ring : Ring) :
    Still d (d.settleSession slot number part endUs quality flags ring) := by
  unfold Dev.settleSession
  extract_lets p x cost old applied d1 bal now tariffs body heart d2 d3 d4 d5
  have h1 : Still d d1 := by
    unfold d1
    split
    next e he => exact balanceRequest d he
    · exact (ledgerCorrupt d slot).trans (legal _ _ _ _)
  have h2 : Still d1 d2 := of_parts rfl rfl rfl
  have h3 : Still d2 d3 := (putNat d2 _ (by simp only [Far, Key.debitApplied, ob]; omega)).trans
    (putInt _ _ (by simp only [Far, Key.runningNetCost, ob]; omega))
  have h4 : Still d3 d4 := by
    unfold d4
    split
    · exact ite (of_parts rfl rfl rfl) (.refl d3)
    · exact .refl d3
  have h5 : Still d4 d5 := ite (of_keeps (Dev.general_keeps0 d4 _) rfl rfl rfl) (.refl d4)
  exact (((((h1.trans h2).trans h3).trans h4).trans h5)).trans (of_keeps (Dev.postRecord_keeps0 d5 number) rfl rfl rfl)

theorem closeSession (p : PortId) (l : Live) (ring : Ring) : Still d (d.closeSession p l ring) := by
  unfold Dev.closeSession
  split
  · split
    · exact unbind d p
    · exact ite (.refl d) (ite (ite (of_keeps (Dev.setEnergy_keeps0 d _) rfl rfl rfl) (.refl d)) ((settleSession d _ _ _ _ _ _ ring).trans (unbind _ p)))
  · exact .refl d

/-! ### Energy not committed, checks, and the values of a period (09 R222, R234) -/

theorem uncommittedPort (fl : Nat) (x : PortId × Nat × Nat × Int) : Still d (Dev.uncommittedPort fl d x) := by
  unfold Dev.uncommittedPort
  extract_lets p b d1 d2
  have h1 : Still d d1 := of_keeps (Dev.legalAt_keeps0 d _ _ _ _ _) rfl rfl rfl
  have h2 : Still d1 d2 := (bump d1 _ (by simp only [Far, Key.uncommittedCount, ob]; omega)).trans
    (putNat _ _ (by simp only [Far, Key.lastUncommittedBound, ob]; omega))
  refine ite (.refl d) ?_
  split
  · exact (h1.trans h2).trans (of_parts rfl rfl rfl)
  · exact h1.trans h2

theorem uncommitted (base : Ring) (bounds : List (PortId × Nat × Nat × Int)) (flags : Nat) : Still d (d.uncommitted base bounds flags) := by
  unfold Dev.uncommitted
  extract_lets fl d1 d2 sum e d3
  have h1 : Still d d1 := of_keeps (Dev.legalAt_keeps0 d _ _ _ _ _) rfl rfl rfl
  have h2 : Still d1 d2 := foldl bounds (fun w x => uncommittedPort w fl x) d1
  have h3 : Still d2 d3 := of_keeps (Dev.legalAt_keeps0 d2 _ _ _ _ _) rfl rfl rfl
  exact ((h1.trans h2).trans h3).trans ((bump d3 _ (by decide)).trans (putNat _ _ (by decide)))

theorem gapEvent (flags : Nat) : Still d (d.gapEvent flags) := by
  unfold Dev.gapEvent
  extract_lets bounds d1
  have h1 : Still d d1 := of_keeps (Dev.setEnergy_keeps0 d _) rfl rfl rfl
  split
  · exact h1
  · exact h1.trans (uncommitted d1 _ bounds flags)

theorem runCheck (get : Energy → CheckRun) (put : Energy → CheckRun → Energy) {key : Nat} (hk : Far key) (bad : Bool) (dev : Int) (n check entity : Nat)
    (source : Option Nat) : Still d (d.runCheck get put key bad dev n check entity source) := by
  unfold Dev.runCheck
  generalize (get d.energy).next bad dev n = v
  obtain ⟨c, toggled⟩ := v
  dsimp only
  have h1 (g : Energy → Energy) : Still d ((d.setEnergy g).putFlag key c.latched) :=
    (of_keeps (Dev.setEnergy_keeps0 d g) rfl rfl rfl).trans (putFlag _ _ hk)
  exact ite ((h1 _).trans (of_keeps (Dev.checkToggled_keeps0 _ _ _ _ _ _) rfl rfl rfl)) (h1 _)

theorem periodChecks (c : Closed) : Still d (d.periodChecks c) := by
  unfold Dev.periodChecks
  split
  · extract_lets d1
    exact (putNat d _ (by decide)).trans (runCheck d1 _ _ (by decide) _ _ _ _ _ _)
  next p _ =>
    extract_lets s d1 d2
    have h1 : Still d d1 := runCheck d _ _ (by simp only [Far, Key.neutralMismatchLatched, ob]; omega) _ _ _ _ _ _
    have h2 : Still d1 d2 := runCheck d1 _ _ (by simp only [Far, Key.reverseEnergyLatched, ob]; omega) _ _ _ _ _ _
    exact (h1.trans h2).trans (runCheck d2 _ _ (by simp only [Far, Key.energyInClearingLatched, ob]; omega) _ _ _ _ _ _)

theorem periodValues (c : Closed) : Still d (d.periodValues c) := by
  unfold Dev.periodValues
  split
  · exact .refl d
  next p _ =>
    extract_lets d1 d2 d3 w v d4
    have h1 : Still d d1 := bump d _ (by simp only [Far, Key.periodsTotal, ob]; omega)
    have h2 : Still d1 d2 := by
      refine foldl _ (fun e i => ite (bump e _ ?_) (.refl e)) d1
      split
      · simp only [Far, Key.flagCount14, ob]
        omega
      · simp only [Far, Key.flagCount, ob]
        omega
    have h3 : Still d2 d3 := foldl _ (fun e k => (putInt e _ (by simp only [Far, Key.activePowerL, ob]; omega)).trans
      (putInt _ _ (by simp only [Far, Key.reactivePowerL, ob]; omega))) d2
    have h4 : Still d3 d4 := (putInt d3 _ (by simp only [Far, Key.activePowerTotal, ob]; omega)).trans
      (putInt _ _ (by simp only [Far, Key.reactivePowerTotal, ob]; omega))
    have h5 := (putInt d4 (k := Key.powerFactor p) (powerFactorOf c.mode w v) (by simp only [Far, Key.powerFactor, ob]; omega)).trans
      (putNat _ (k := Key.residualRms p) c.rms (by simp only [Far, Key.residualRms, ob]; omega))
    exact (((h1.trans h2).trans h3).trans h4).trans h5

/-! ### Commits and the final ring (09 R230 to R234) -/

theorem writeItems : Still d d.writeItems := of_keeps (Dev.writeItems_keeps0 d) rfl rfl rfl

theorem commitDone (c : CommitRun) (r : Ring) (us : Nat) : Still d (d.commitDone c r us) := by
  unfold Dev.commitDone
  extract_lets d1 d2 stuck d3 d4 d5 d6 ports latest slots d7 d8 d9 heart d10
  have h1 : Still d d1 := putNat d _ (by decide)
  have h2 : Still d1 d2 := ite (bump d1 _ (by decide)) (.refl d1)
  have h3 : Still d2 d3 := (of_keeps (Dev.setEnergy_keeps0 d2 _) rfl rfl rfl).trans (of_keeps (Dev.showLegal_keeps0 _ _) rfl rfl rfl)
  have h4 : Still d3 d4 := ite ((foldl _ (fun e p => judgeLevel2 e p) d3).trans (gapEvent _ 0)) (.refl d3)
  have h5 : Still d4 d5 := foldl _ (fun e x => periodValues e x) d4
  have h6 : Still d5 d6 := foldl _ (fun e x => periodChecks e x) d5
  have h7 : Still d6 d7 := foldl _ (fun e x => evaluateAccount e _ x _) d6
  have h8 : Still d7 d8 := foldl _ (fun e p => capSession e p _) d7
  have h9 : Still d8 d9 := by
    refine foldl _ (fun e p => foldl _ (fun e x => ?_) e) d8
    obtain ⟨q, l⟩ := x
    exact ite (closeSession e p l r) (.refl e)
  have h10 : Still d9 d10 := by
    unfold d10
    split
    · split
      · exact of_parts rfl rfl rfl
      · exact .refl d9
    · exact .refl d9
  have ha := (((h1.trans h2).trans h3).trans h4).trans h5
  have hb := (((h6.trans h7).trans h8).trans h9).trans h10
  exact (ha.trans hb).trans ((writeItems d10).trans ((of_keeps (Dev.wantCommit_keeps0 _) rfl rfl rfl).trans (settle _)))

theorem commitFailed (r : Ring) : Still d (d.commitFailed r) := by
  unfold Dev.commitFailed
  extract_lets d1 d2
  have h1 : Still d d1 := (bump d _ (by decide)).trans (legal _ _ _ _)
  have h2 : Still d1 d2 := of_keeps (Dev.setEnergy_keeps0 d1 _) rfl rfl rfl
  exact ite ((h1.trans h2).trans (foldl _ (fun e p => judgeLevel2 e p) d2)) (h1.trans h2)

theorem writeRing (ring : Ring) (ok : Bool) : Still d (d.writeRing ring ok).2 := of_parts rfl rfl rfl

theorem ringCommit (ok : Bool) (us : Nat) : Still d (d.ringCommit ok us) := by
  unfold Dev.ringCommit
  split
  · exact .refl d
  next c _ =>
    extract_lets w
    have hw : Still d w.2 := writeRing d c.ring ok
    exact ite (.refl d) (ite (hw.trans (commitDone w.2 c w.1 us)) (hw.trans (commitFailed w.2 w.1)))

end Still

end Sys2Proof.Machine
end
